-- ==== Sys2Proof/Word.lean ====
section
/-! DEFINITION. The words of the PV-480: bytes, the 32-bit registers (R11) and the 80-bit stored words of
HBM and MRAM (64 data bits and 16 check bits, chapter "HBM, MRAM and error correction"). -/
namespace Sys2Proof

/-- One byte. -/
abbrev Byte := BitVec 8

/-- One register, 32 bits wide (R11). -/
abbrev Word32 := BitVec 32

/-- The data of one memory word and a helper's general register. -/
abbrev Word64 := BitVec 64

/-- One stored memory word: 64 data bits and 16 check bits (R196). -/
abbrev Code80 := BitVec 80

/-- One helper microword (R148). -/
abbrev Microword := BitVec 128

end Sys2Proof
end

