-- ==== Sys2Proof/Syntax.lean ====
section
/-! DEFINITION. The commands of the PV-480 block: one constructor per row of spec/opcode_table.json, with the operands
that come from outside the block (a register access, a frame received, a measured value, a decoder's outcome, a pin).
Everything the block knows itself is read from State. -/
namespace Sys2Proof

/-- The two actuators (R23). -/
inductive Act where
  | A | B
  deriving DecidableEq, Repr

/-- The domains that can be serviced (R24, R30). -/
inductive Dom where
  | DA | DB | DP | DE
  deriving DecidableEq, Repr

/-- A submission-queue entry as fetched (NVMe base specification): opcode, FUSE and PSDT bits, identifier, namespace and
the command dwords the spec uses. -/
structure SqEntry where
  opc : Nat
  flags : Nat
  cid : Nat
  nsid : Nat
  cdw2 : Nat
  cdw10 : Nat
  cdw11 : Nat
  cdw12 : Nat
  cdw13 : Nat
  cdw14 : Nat
  cdw15 : Nat
  /-- data address in host memory (PRP1 or the first SGL address) -/
  dptr : Nat
  deriving DecidableEq, Repr

/-- What resets a controller (R540). -/
inductive ResetKind where
  /-- CC.EN falls -/
  | en
  /-- Function Level Reset -/
  | flr
  /-- PERST_L or PERST1_L of the port falls -/
  | perst
  /-- the port's link goes down -/
  | link
  deriving DecidableEq, Repr

/-- The header of an enclosure-bus frame as received (R595). -/
structure EbHdr where
  enclid : Nat
  bay : Nat
  node : Nat
  seq : Nat
  etime : Nat
  deriving DecidableEq, Repr

/-- What a step of a calibration run finds (R429): 1 the ADC offset; 2 the skews; 3 cutoff and boost; 4 the mean gain; 5 taps,
g1, g2 and the noise weight, with the mean squared residuals of the old and the new set; 6 the lowest SYNCCNT; 7 the
direction, -1 to 1, in which EARLY1 and EARLY2 move. `ok` of step 7's application is false where a read-back differs. -/
inductive CalFind where
  | offset (v : Nat)
  | skews (a b c : Nat)
  | filter (cutoff boost : Nat)
  | gain (v : Nat)
  | fir (taps : List Nat) (g1 g2 nweight : Nat) (oldErr newErr : Nat)
  | sync (lowest : Nat)
  | early (d1 d2 : Int) (ok : Bool)
  deriving DecidableEq, Repr


/-- A cell as a detector slices it; none where it is blanked (R387, R388). -/
abbrev SlicedCell := Option Bool

/-- Where a decoder stops (R396): its hard decisions for the 144,288 codeword bits, bit 0 of R392 the most significant, and the
iterations it took, global ones or, in Q mode, flipping ones (R395). -/
structure DecodeRes where
  bits : Nat
  iters : Nat
  deriving DecidableEq, Repr

/-- The end of one operation of a deep-decode unit (R410): a decode; a sync re-search, with the sliced cells of the capture of each
reader from the first cell of position p - 32 on; a screened offset, with the hard decisions after its two iterations; a word of the
capture that cannot be read (R414). -/
inductive StepRes where
  | decode (d : DecodeRes)
  | search (cells cells2 : List SlicedCell)
  | screen (bits : Nat)
  | noSamples
  deriving DecidableEq, Repr

/-- The header of an Ewerid frame as received, its POOLID, checksum and CRC being good (R511). -/
structure EwHdr where
  port : Nat
  src : Nat
  srcGen : Nat
  dstGen : Nat
  epoch : Nat
  xid : Nat
  reply : Bool
  status : Nat
  deriving DecidableEq, Repr

/-- Which cell half a pool frame is about (R513): group, row, cell, half. -/
structure EwCell where
  group : Nat
  row : Nat
  cell : Nat
  half : Nat
  deriving DecidableEq, Repr

/-- The rails that are monitored (R93). -/
inductive Rail where
  | vcore | vio | vmr | vana | vser | vhbmP | vhbmD | vhbmQ
  deriving DecidableEq, Repr

/-- The 64-bit counters whose LO half latches HI when read (R76, MP_JSEQ, PL_TOFF). -/
inductive Counter64 where
  | tb | mpJseq | plToff
  deriving DecidableEq, Repr

/-- An extent of a Mover read or write (R582): device address, host address, length. -/
structure ChainExtent where
  dev : Nat
  host : Nat
  len : Nat
  deriving DecidableEq, Repr

/-- A continuation block of a chain as read (R578): its extents and the two flags of its link word; or a host memory error met in reading
it (R585). -/
structure ChainBlock where
  extents : List ChainExtent
  eoc : Bool
  final : Bool
  err : Bool
  deriving DecidableEq, Repr

/-- What one slot's samples of a period give: the averaged monitor in TARGET units, the averaged sensor resistance in 0.1 ohm, and whether
either stood at code 0 or 4,095 throughout. -/
structure AssistIn where
  mon : Nat
  res : Nat
  rail : Bool
  deriving DecidableEq, Repr

/-- One place's wedge as its lane reads it (R290, R291, R388): the cells from four before to four behind the predicted place of the servo
address mark, the cells of the index, of the track ID and of the WRRO field, the amplitudes of the cells of bursts N and Q (none where
blanked), the PES in pu that the two burst amplitudes stand for, and how many ns after the primary's wedge this one ended (R293). -/
structure WedgePlace where
  sam : List SlicedCell
  index : List SlicedCell
  trackId : List SlicedCell
  wrro : List SlicedCell
  burstN : List (Option Int)
  burstQ : List (Option Int)
  pes : Int
  skew : Nat
  deriving DecidableEq, Repr

/-- What a wedge brings (R291, R296, R298, R303, R324): the wedges of the places in order, the sensed VCM current in mA, the words that
MA_x_SDI echoed since the last apply tick, SHK_x - 0.6 V behind the filter of ACCBW in mV, and the slack of the coarse and the fine loop
before their deadlines in 10 ns, and the routing registers whose read-back fails (R691). -/
structure WedgeIn where
  places : List WedgePlace
  isn : Int
  echo : List Nat
  shk : Int
  slackC : Nat
  slackF : Nat
  routeBad : List Nat
  deriving DecidableEq, Repr

/-- What a helper finds as it issues a microword: whether its island FIFO is ready (R148). -/
structure MwIn where
  island : Bool
  deriving DecidableEq, Repr

/-- What fails below an access: the HBM words, by device address / 8, whose transfer fails interface parity after its retries (R184), and
the cache lines, by line address, that are found with a tag or state parity error (R233). -/
structure MemFaults where
  words : List Nat
  lines : List Nat
  deriving DecidableEq, Repr

/-- What a fabric access meets: the space its address lies in (R238: 0 HBM, 1 MRAM, 2 steward SRAM), and what fails. -/
structure FabIn where
  space : Nat
  faults : MemFaults
  deriving DecidableEq, Repr

/-- What an instruction of the steward does beyond its own registers (R140, R141, R162, R171, R218, R227): nothing; it reaches the main
loop; it ends the trap handler; a load of `n` bytes; a store; a line operation (0 Clean, 1 Invalidate, 2 Clean and invalidate, 3 Zero); a
fence; a message sent, received, or taken back from the error queue. -/
inductive StewardOp where
  | plain
  | mainLoop
  | handlerEnd
  | load (at' : FabIn) (addr n : Nat)
  | store (at' : FabIn) (addr : Nat) (data : List Byte)
  | line (op addr : Nat) (faults : MemFaults)
  | fence
  | send (dst dstGen type tag : Nat) (payload : List Byte)
  | receive
  | errReceive
  deriving DecidableEq, Repr

/-- The commands. -/
inductive Instr where
  /-- REGISTER_WRITE (R12): A host write to a BAR2 register that has no row of its own: partial writes are discarded, and RW, W1C and W1S fields are updated. -/
  | registerWrite (addr : Nat) (data : List Byte)
  /-- REGISTER_READ_CLEAR (R15): A read of a register with RC fields returns their values and resets each field to its Reset value. -/
  | registerReadClear (addr : Nat) (len : Nat)
  /-- COUNTER_LO_READ (R76): A read of a LO half such as TB_CNT_LO latches the matching HI half for a consistent 64-bit value. -/
  | counterLoRead (c : Counter64)
  /-- REFERENCE_LOSS (R59): No reference edge arrives for 10 periods; the device switches to the internal oscillator, closes gates and parks both actuators. -/
  | referenceLoss
  /-- REFERENCE_RESTORED (R60): The reference has been present for 10 ms; the device switches back to it and restores DA and DB. -/
  | referenceRestored
  /-- HELPER_RATE_MEASUREMENT (R73): Every 1 ms the replica datapath measures the helper rate into TB_SPEED. -/
  | helperRateMeasurement (rate : Nat)
  /-- PORST_L_RISE (R90): PORST_L rises; the supervisor confirms VIO and VCORE and drives PW_SEQ0 high. -/
  | porstLRise (powerOn : Bool) (tpEn : Bool)
  /-- SEQ_RAIL_IN_RANGE (R90): The rail just enabled comes into range; its 1 ms dwell starts. -/
  | seqRailInRange
  /-- SEQ_DWELL_END (R90): The dwell ends; the next PW_SEQ output is driven high, or boot begins after VHBM_Q. -/
  | seqDwellEnd (failed : Nat)
  /-- SEQ_RAIL_TIMEOUT (R91): An enabled rail is not in range 5 ms after its step start; the outputs fall in reverse order and SEQRAIL is recorded. -/
  | seqRailTimeout
  /-- SEQ_RETRY_TIMER (R91): 100 ms after a sequence failure the device repeats the sequence once, or holds FAULT_L if the repeat already failed. -/
  | seqRetryTimer
  /-- PORST_L_FALL (R92): PORST_L falls; retract is triggered and a controlled power-down drives PW_SEQ5 low first. -/
  | porstLFall
  /-- POWERDOWN_RAIL_FALLEN (R92): The previous rail falls below 10 % of nominal; the next PW_SEQ output is driven low. -/
  | powerdownRailFallen
  /-- POWERDOWN_STEP_TIMEOUT (R92): 2 ms after the previous output fell, the next PW_SEQ output is driven low. -/
  | powerdownStepTimeout
  /-- RAIL_MONITOR_TRIP (R93): A rail leaves its range by more than 2 % for 2 µs; the device applies the response for that rail. -/
  | railMonitorTrip (r : Rail)
  /-- SUPPLY_RESET_RELEASE (R94): Every checked rail has been in range for 10 ms; the device restarts at the rail sequence. -/
  | supplyResetRelease (vmLow : Bool)
  /-- VSER_LINK_RETRAIN (R93): VSER has been in range for 10 ms; each PCIe link trains again. -/
  | vserLinkRetrain
  /-- VM_WARNING (R98): VM falls through 5.6 V; frame starts are barred and the ride timer starts (Ride-through). -/
  | vmWarning
  /-- VM_WARNING_CLEAR (R98): VM rises through 5.8 V during a ride-through; the 1 ms timer starts (Recovery-wait). -/
  | vmWarningClear
  /-- RECOVERY_WAIT_EXPIRY (R98): The 1 ms timer expires; media commands resume and the ride-through duration is recorded. -/
  | recoveryWaitExpiry
  /-- RIDE_TIMER_EXPIRY (R98): The 10 s ride timer expires; both actuators park and ALERT_L is asserted (Parked hold). -/
  | rideTimerExpiry
  /-- VM_LOSS (R48): VM falls through the reset threshold; gates close, emergency retract starts and MRAM write admission stops. -/
  | vmLoss
  /-- VM_RESTORED (R98): VM has been above warning clear for 1 ms in Parked hold or VM lost; DA and DB are restored, after catch-spin from VM lost. -/
  | vmRestored
  /-- VM_OVERVOLTAGE_44 (R275): VM rises through 44 V; BRK_G is driven on in hardware and OV44 is set. -/
  | vmOvervoltage44
  /-- CHOPPER_RELEASE (R275): VM_SNS falls below 43 V; BRK_G is driven off. -/
  | chopperRelease (ipeak : Nat)
  /-- CHOPPER_FAULT (R276): The chopper current or voltage condition holds; the windings are shorted and NOREGEN is set. -/
  | chopperFault (ipeak : Nat)
  /-- VM_OVERVOLTAGE_46 (R277): VM rises through 46 V; every gate drive switches off, FAULT_L is asserted and the spindle is Faulted. -/
  | vmOvervoltage46
  /-- RETRACT_RELEASE (R320): After 350 ms RET_x_L is released; the actuator becomes Parked or Faulted. -/
  | retractRelease (a : Act)
  /-- IDLE_TIMER_EXPIRY (R110): 50 ms pass without media work; assist is switched off and the lanes idle (Idle). -/
  | idleTimerExpiry
  /-- HIBERNATE_WAKE (R109): A PERST rise, a wake frame or a PORST_L cycle ends Hibernate; the rails sequence and the device boots. -/
  | hibernateWake
  /-- ACCORD_BOOT_LOAD (R127): The device selects, validates and applies the Accord from the boot-flash slots, or enters Base-note mode. -/
  | accordBootLoad
  /-- HELPER_ROLE_ASSIGNMENT (R157): The steward loads ROLE and PARAM into a Stopped helper and increments its ROLEGEN. -/
  | helperRoleAssignment (h : Nat)
  /-- HELPER_START (R153): The steward starts a helper that has a role; it begins at its role's entry microword. -/
  | helperStart (h : Nat)
  /-- HELPER_STOP_REQUEST (R153): A stop request makes a Running helper refuse new messages and start its role's drain timer. -/
  | helperStopRequest (h : Nat)
  /-- HELPER_DRAIN_DONE (R153): The in-flight work of a Stopping helper finishes; it halts at its next safe point. -/
  | helperDrainDone (h : Nat)
  /-- HELPER_DRAIN_TIMEOUT (R168): A Stopping helper's drain timer expires; unfinished work returns ABORTED. -/
  | helperDrainTimeout (h : Nat) (mine : List (Nat × Nat))
  /-- HELPER_FAULT (R155): A helper faults; it halts, its inbox returns DOWN, and a domain fault or Base-note mode follows. -/
  | helperFault (h : Nat) (cause : Nat) (space : Nat) (addr : Nat)
  /-- BASE_NOTE_STEWARD_RESTART (R665): The steward restarts from mask ROM with no patches, queues record 0x1901 and stops the spindle. -/
  | baseNoteStewardRestart
  /-- SAFE_POINT_LAPSE (R152): The count of microwords since the last safe point reaches 257; the helper faults with cause 0x03. -/
  | safePointLapse (h : Nat)
  /-- STEWARD_TRAP (R141): The steward takes a trap for a fetch error, data error, illegal instruction or unmapped access. -/
  | stewardTrap (cause : Nat) (space : Nat) (addr : Nat)
  /-- STEWARD_WATCHDOG_EXPIRY (R141): The main loop has not been reached for 50 ms; the steward takes trap 0x05. -/
  | stewardWatchdogExpiry (space : Nat) (addr : Nat)
  /-- MICROWORD_ISSUE (R146): A helper issues a sequential microword with its ALU work and no memory operation. -/
  | microwordIssue (h : Nat) (m : MwIn)
  /-- MICROWORD_BRANCH (R148): A microword with SEQ 0b01 branches to TARGET if COND holds. -/
  | microwordBranch (h : Nat) (m : MwIn)
  /-- MICROWORD_CALL (R148): A microword with SEQ 0b10 calls TARGET, pushing the return stack. -/
  | microwordCall (h : Nat) (m : MwIn)
  /-- MICROWORD_RETURN (R148): A microword with SEQ 0b11 returns from the return stack. -/
  | microwordReturn (h : Nat) (m : MwIn)
  /-- LOCAL_LOAD (R149): MOP 0x1 loads from the helper's local store within the microword's cycle. -/
  | localLoad (h : Nat) (m : MwIn)
  /-- LOCAL_STORE (R149): MOP 0x2 stores to the helper's local store. -/
  | localStore (h : Nat) (m : MwIn)
  /-- FABRIC_LOAD (R150): MOP 0x3 loads over the fabric; a UE gives zero data and sets the UE condition. -/
  | fabricLoad (h : Nat) (m : MwIn) (i : FabIn)
  /-- FABRIC_STORE (R218): MOP 0x4 stores through the map cache or directly to HBM. -/
  | fabricStore (h : Nat) (m : MwIn) (i : FabIn)
  /-- MESSAGE_SEND (R166): MOP 0x5 places a 64-byte message in the helper's outbox, stalling while the outbox is full. -/
  | messageSend (h : Nat) (m : MwIn)
  /-- MESSAGE_RECEIVE (R166): MOP 0x6 takes a message from the inbox and frees its entry. -/
  | messageReceive (h : Nat) (m : MwIn)
  /-- ERROR_QUEUE_RECEIVE (R166): MOP 0x7 takes a returned message from the error queue. -/
  | errorQueueReceive (h : Nat) (m : MwIn)
  /-- ISLAND_FIFO_POP (R146): MOP 0x8 pops an island FIFO, extending the microword until data is available. -/
  | islandFifoPop (h : Nat) (m : MwIn) (data : Option Word64)
  /-- ISLAND_FIFO_PUSH (R146): MOP 0x9 pushes to an island FIFO. -/
  | islandFifoPush (h : Nat) (m : MwIn)
  /-- LINE_CLEAN (R227): The Clean line operation writes a dirty line back and keeps it valid and clean. -/
  | lineClean (h : Nat) (m : MwIn) (f : MemFaults)
  /-- LINE_INVALIDATE (R227): The Invalidate line operation drops a line without write-back. -/
  | lineInvalidate (h : Nat) (m : MwIn) (f : MemFaults)
  /-- LINE_CLEAN_INVALIDATE (R227): The Clean and invalidate line operation writes a dirty line back and then drops it. -/
  | lineCleanInvalidate (h : Nat) (m : MwIn) (f : MemFaults)
  /-- LINE_ZERO (R229): The Zero line operation allocates the line as dirty zero words with W = 1, with no fill. -/
  | lineZero (h : Nat) (m : MwIn) (f : MemFaults)
  /-- FENCE_FULL (R170): A Full fence blocks later fabric, message and island operations until the earlier ones complete. -/
  | fenceFull (h : Nat) (m : MwIn) (accepted : Nat)
  /-- FENCE_STORE_SEND (R170): A Store-send fence blocks later message sends until the earlier fabric stores complete. -/
  | fenceStoreSend (h : Nat) (m : MwIn)
  /-- FENCE_ISLAND (R170): An Island fence blocks later operations until the earlier island pushes are accepted. -/
  | fenceIsland (h : Nat) (m : MwIn) (accepted : Nat)
  /-- MESSAGE_DELIVERY (R163): The fabric delivers a message to its target's inbox, or returns it STALE or DOWN. -/
  | messageDelivery (src : Nat)
  /-- MESSAGE_ENTERS_INBOX (R166): A message waiting in the fabric for a full inbox enters in the tick after an entry frees. -/
  | messageEntersInbox (dst : Nat)
  /-- MESSAGE_RETURN (R167): A refused or aborted message reaches the sender's error queue, waiting while it is full. -/
  | messageReturn (src : Nat)
  /-- PATCH_STAGING_DONE (R176): Staging completes and reads back; roles are signalled to swap, or nothing swaps on failure. -/
  | patchStagingDone (ok : Bool)
  /-- STEWARD_PATCH_SWAP (R175): Once every role has swapped, the steward swaps last at an instruction boundary. -/
  | stewardPatchSwap
  /-- HBM_FILL_DONE (R202): The hardware unwritten fill of HBM completes and FILLDONE is set. -/
  | hbmFillDone
  /-- BLOTTER_RAW_WRITE (R210): HM_BLTCTL.OP raw write stores data and check bits unmodified in the pad. -/
  | blotterRawWrite (w : Word32)
  /-- BLOTTER_RAW_READ (R210): HM_BLTCTL.OP raw read returns pad data and check bits undecoded. -/
  | blotterRawRead (w : Word32)
  /-- BLOTTER_CHECKED_READ (R210): HM_BLTCTL.OP checked read decodes a pad word and reports STATUS. -/
  | blotterCheckedRead (w : Word32)
  /-- BLOTTER_CHECKED_WRITE (R210): HM_BLTCTL.OP checked write stores a pad word with computed check bits. -/
  | blotterCheckedWrite (w : Word32)
  /-- BLOTTER_OP_COMPLETE (R210): A Blotter operation completes within 2 µs and sets DONE. -/
  | blotterOpComplete
  /-- CACHE_FILL_COMPLETE (R216): A miss fill installs its line; waiting requests are applied in arrival order. -/
  | cacheFillComplete (la : Nat) (f : MemFaults)
  /-- PREFETCH_FILL_COMPLETE (R222): A prefetched line enters the side buffer, dropping the oldest unused line if it is full. -/
  | prefetchFillComplete (la : Nat) (f : MemFaults)
  /-- EVICTION_WRITEBACK_COMPLETE (R224): A write-back from the eviction buffer completes and frees its entry. -/
  | evictionWritebackComplete (la : Nat) (issued : List Nat) (f : MemFaults)
  /-- CACHE_INVALIDATION_DONE (R234): The reset invalidation of all lines ends and INVDONE is set. -/
  | cacheInvalidationDone
  /-- MOVER_GO (R242): The owner loads a shadow set and sets GO; an Idle channel promotes it if it passes R239. -/
  | moverGo (c srcSp src dstSp dst len : Nat) (fence : Bool) (owner : Nat)
  /-- MOVER_STOP_REQUEST (R243): A stop request takes effect at the next set boundary. -/
  | moverStopRequest (c : Nat)
  /-- MOVER_START_REQUEST (R244): A Stopped channel is started again, becoming Ready or Idle. -/
  | moverStartRequest (c : Nat)
  /-- MOVER_DISCARD_REQUEST (R244): A Stopped or Halted channel drops its sets and posts DISCARDED completions. -/
  | moverDiscardRequest (c : Nat)
  /-- MOVER_RESUME_REQUEST (R244): A Halted channel continues its active set from its current addresses. -/
  | moverResumeRequest (c : Nat)
  /-- MOVER_SET_START (R240): At a set boundary the mover selects the next Ready channel round-robin and starts its set. -/
  | moverSetStart (mover : Nat)
  /-- MOVER_SET_COMPLETE (R244): A set completes; its completion message of type 0xF0 is posted and the shadow set is promoted, unless stopped. -/
  | moverSetComplete (c : Nat) (hostData : List Byte) (f : MemFaults)
  /-- MOVER_HALT (R248): A UE or host error halts the channel without writing the failing 64-byte transfer. -/
  | moverHalt (c transfers : Nat) (hostData : List Byte) (f : MemFaults)
  /-- MOVER_TIMEOUT (R248): A peripheral set gets no usable request for 1 ms and halts with TIMEOUT. -/
  | moverTimeout (c : Nat)
  /-- PERIPHERAL_BURST (R247): A peripheral request with a count of 256, or a last-burst mark, starts a 256-byte burst. -/
  | peripheralBurst (c count valid : Nat) (last : Bool) (samples : List (Option Int)) (hostData : List Byte) (f : MemFaults)
  /-- PERIPHERAL_WITHDRAW (R249): A peripheral whose domain leaves Serving withdraws its request; the set completes STOPPED. -/
  | peripheralWithdraw (c : Nat)
  /-- SPINDLE_START_REQUEST (R271): A start request with a token held turns the gate drives off and observes the phase voltages. -/
  | spindleStartRequest
  /-- OBSERVATION_END (R274): After 5 ms the back-EMF fit decides on Accelerating, Short-braking or Aligning. -/
  | observationEnd (amp : Nat) (backward : Bool) (speed angle : Nat)
  /-- SHORT_BRAKE_STOPPED (R271): Speed falls below 30 rpm while short-braking; alignment starts or the 1 s hold starts. -/
  | shortBrakeStopped
  /-- SHORT_HOLD_END (R271): The 1 s hold ends; the gate drives switch off, or alignment starts if a start is pending. -/
  | shortHoldEnd
  /-- ALIGNMENT_RESULT (R265): Polarity and angle are found; q-axis current is applied and the spindle ramps at ACCEL. -/
  | alignmentResult (angle respPos respNeg : Nat)
  /-- ALIGNMENT_TIMEOUT (R271): 500 ms pass without an alignment result; the spindle re-observes, or is Faulted on the third attempt. -/
  | alignmentTimeout
  /-- SPINDLE_AT_SPEED (R271): Speed stays within ±0.1 % of the set-point for 100 ms; ATSPEED is set and head loading permitted. -/
  | spindleAtSpeed
  /-- SPINDLE_START_TIMEOUT (R271): TSTART elapses while Accelerating; STARTFAIL is set and the windings are shorted. -/
  | spindleStartTimeout
  /-- SLEW_COMPLETE (R271): The slewed set-point equals the target and speed holds within ±0.1 % for 100 ms (Locked). -/
  | slewComplete
  /-- SPINDLE_STOP_REQUEST (R271): A stop request parks the actuators, brakes regeneratively to 600 rpm and then shorts the windings. -/
  | spindleStopRequest
  /-- REGEN_BRAKE_END (R271): Regenerative braking reaches 600 rpm and the windings are shorted. -/
  | regenBrakeEnd
  /-- COMMUTATION_LOCK_LOSS (R264): The observer angle error or the hand-over check fails; the spindle re-observes, or faults on a second loss within 10 s. -/
  | commutationLockLoss
  /-- SPINDLE_OVERCURRENT (R272): A phase current above IMAX in two sample sets switches the gate drives off and enters Base-note mode. -/
  | spindleOvercurrent
  /-- GATE_DRIVE_UNDERVOLTAGE (R256): VGD_C falls below 8.0 V for 2 µs; gate drives switch off and the condition is handled as an overcurrent. -/
  | gateDriveUndervoltage
  /-- POSITION_HANDOVER (R262): Speed crosses 600 rpm upward or 540 rpm downward and the rotor-position source changes. -/
  | positionHandover (rising : Bool) (agree : Bool)
  /-- CURRENT_SAMPLE_SET (R258): Twice per PWM period the currents, phase voltages and VM are sampled and the current loops updated. -/
  | currentSampleSet (iu : Int) (iv : Int) (volts : List Nat) (vm : Nat)
  /-- CURRENT_LOOP_MISS (R268): A current-loop update is not ready for a PWM period; previous duties repeat, and a second miss is a watchdog fault. -/
  | currentLoopMiss
  /-- SPEED_LOOP_UPDATE (R266): The 4 kHz speed loop computes the current command from the interpolated gains. -/
  | speedLoopUpdate
  /-- BOOTSTRAP_FORCED_PULSE (R255): Every 100 µs a phase held at the upper clamp receives a low-side refresh pulse. -/
  | bootstrapForcedPulse (phase : Nat)
  /-- SLEW_UPDATE (R283): Every 1 ms the slewed set-point moves toward the target at SLEW. -/
  | slewUpdate (speed : Nat)
  /-- FSYNC_EDGE (R281): An FSYNC rising edge ends a period; a valid frequency maps to a new target set-point. -/
  | fsyncEdge
  /-- SPD_AIN_SAMPLE (R281): A 1 kHz SPD_AIN sample updates the mean, which maps to the target set-point. -/
  | spdAinSample (code : Nat)
  /-- SOURCE_LOST (R284): No valid source value arrives for 250 ms; SRCLOST is set and the set-point is held. -/
  | sourceLost
  /-- FOLLOWING_ERROR_TIMEOUT (R285): The speed error exceeds FOLERR for FOLTIME; FOLLOW is set and the set-point is moved to the measured speed. -/
  | followingErrorTimeout
  /-- WEDGE_SAMPLE (R302): A wedge position sample is recorded; it is the apply tick for the last commands and runs the write-inhibit check and the fine and coarse loops. -/
  | wedgeSample (a : Act) (x : WedgeIn)
  /-- SERVO_DEADLINE_MISS (R305): A servo helper misses its hardware deadline; the previous commands are kept and writes are inhibited. -/
  | servoDeadlineMiss (a : Act) (coarse : Bool)
  /-- SHOCK (R324): SHK_x exceeds SHKTH for 1 µs; write gates close and a shock hold starts or is extended. -/
  | shock (a : Act)
  /-- SHOCK_HOLD_END (R324): The shock hold of SHKHOLD wedges ends. -/
  | shockHoldEnd (a : Act)
  /-- VCM_FAULT_PIN (R296): VCM_x_FLT_L goes low; a VCM fault retracts the actuator and faults its domain. -/
  | vcmFaultPin (a : Act)
  /-- MA_DRIVER_FAULT_PIN (R298): MA_x_FLT_L goes low; a microactuator driver fault retracts the actuator and faults its domain. -/
  | maDriverFaultPin (a : Act)
  /-- LOAD_REQUEST (R318): A parked actuator with the spindle Locked is enabled and driven off the ramp with LOADI. -/
  | loadRequest (a : Act)
  /-- LOAD_TIMEOUT (R318): 100 ms pass without 8 valid samples; the load is retried, or LOADFAIL is set on the third attempt. -/
  | loadTimeout (a : Act)
  /-- SEEK_REQUEST (R318): A following actuator announces and starts a seek to a new group and track. -/
  | seekRequest (a : Act) (group : Nat) (track : Nat)
  /-- SEEK_LEAD_EXPIRY (R327): LEAD µs after an announced seek is committed, the seek starts. -/
  | seekLeadExpiry (a : Act)
  /-- PARK_REQUEST (R318): A loaded actuator closes its gates, seeks to the ramp and applies −LOADI (Unloading). -/
  | parkRequest (a : Act)
  /-- UNLOAD_PROFILE_END (R318): The unload profile completes; the actuator is Parked, or a VCM fault follows if samples stay valid. -/
  | unloadProfileEnd (a : Act) (stillValid : Bool)
  /-- RECOVERY_TIMEOUT (R318): 100 wedges pass in Recovering without a valid primary sample; the primary is declared failed. -/
  | recoveryTimeout (a : Act)
  /-- ASSIST_LOOP_BOUNDARY (R332): Every 2.0 µs the assist loop applies commands, computes new ones and checks deviation and sensor codes. -/
  | assistLoopBoundary (a : Act) (v0 : AssistIn) (v1 : AssistIn)
  /-- ASSIST_DEADLINE_MISS (R336): Assist commands are not in the FIFO at the deadline; the previous commands are kept and the miss is counted. -/
  | assistDeadlineMiss (a : Act)
  /-- ASSIST_FIRST_BIT_CELL (R337): The first bit cell of a frame arrives after LEAD; the emitter goes to full command (On). -/
  | assistFirstBitCell (a : Act) (slot : Fin 2)
  /-- OVERTEMP_TRIP (R342): A protection-sensor sample above RLIM closes the gate in hardware and the slot enters Cooling. -/
  | overtempTrip (a : Act) (slot : Fin 2) (res : Nat)
  /-- COOLING_END (R341): TCOOL elapses and the slot returns to Off. -/
  | coolingEnd (a : Act) (slot : Fin 2)
  /-- PREAMP_FAULT_PIN (R344): PA_x_FLT_L goes low; all gates of the actuator close and its domain faults. -/
  | preampFaultPin (a : Act)
  /-- PREAMP_TEMP_READ (R349): Every 100 ms the preamplifier die temperature is read as TINT. -/
  | preampTempRead (a : Act) (ok : Bool) (temp : Int)
  /-- TINT_LOST (R344): No valid preamplifier temperature for 5 s; TINT becomes invalid and no new frame starts. -/
  | tintLost (a : Act)
  /-- LANE_BIND (R378): A lane is bound: its input is connected, its rate preset and wedges acquired (Servo). -/
  | laneBind (lane : Nat)
  /-- LANE_UNBIND (R378): A lane is unbound or its domain leaves Serving; queued frames post ABORTED and the lane goes Off. -/
  | laneUnbind (lane : Nat)
  /-- FRAME_COMMAND (R377): A lane sequencer queues a frame command in the lane's queue of 8. -/
  | frameCommand (lane : Nat) (track : Nat) (frame : Nat) (startTick : Nat)
  /-- FRAME_POSITION_PASSED (R377): The queue-head frame position passes unread and the command completes SKIPPED. -/
  | framePositionPassed (lane : Nat)
  /-- CAPTURE_START (R370): At the predicted capture start the lane opens capture and acquires in the preamble (Reading). -/
  | captureStart (lane : Nat)
  /-- SYNC_DECISION (R366): The sync search ends found or missed and a P4 event is recorded. -/
  | syncDecision (lane : Nat) (cells : List SlicedCell) (cells2 : List SlicedCell)
  /-- SECTOR_END (R375): Capture ends; the lane posts its status record and a P4 sector-end event. -/
  | sectorEnd (lane : Nat) (overrunAt : Option Nat)
  /-- INLINE_DECODE_RESULT (R397): The in-line decoder finishes and holds a valid result, or the frame follows R376. -/
  | inlineDecodeResult (lane : Nat) (r : DecodeRes)
  /-- WRITE_FRAME_COMMAND (R381): A frame command with position and header is queued on a write slot. -/
  | writeFrameCommand (a : Act) (slot : Fin 2) (pfn : Nat)
  /-- WRITE_FRAME_START (R381): Once buffer, permission and assist budget allow, the slot raises its gate and the lane enters Clocking. -/
  | writeFrameStart (a : Act) (slot : Fin 2)
  /-- WRITE_PAYLOAD_UNDERRUN (R381): The payload buffer runs empty in the data field; the gate closes and the frame is abandoned. -/
  | writePayloadUnderrun (a : Act) (slot : Fin 2)
  /-- WRITE_WEDGE_SUSPEND (R338): Write current is suspended across a wedge window, blanking the actuator's lanes. -/
  | writeWedgeSuspend (a : Act) (slot : Fin 2)
  /-- WRITE_WEDGE_RESUME (R338): Write current resumes with the split field after the wedge. -/
  | writeWedgeResume (a : Act) (slot : Fin 2)
  /-- WRITE_FRAME_END (R383): The pad is written, write current switches off and the gate falls. -/
  | writeFrameEnd (a : Act) (slot : Fin 2)
  /-- FRAME_ESCALATION (R405): A lane sequencer sends a failed frame to a scheduler, which queues it by class. -/
  | frameEscalation (surf : Nat) (track : Nat) (frame : Nat) (cls : Nat)
  /-- DEEP_DECODE_START (R406): A scheduler with a free unit takes the head of the escalation queue. -/
  | deepDecodeStart (unit : Nat)
  /-- DEEP_DECODE_STEP_DONE (R410): A unit completes a recovery operation; the frame is recovered or moves to the next ladder step. -/
  | deepDecodeStepDone (unit : Nat) (r : StepRes)
  /-- UNIT_OVERTIME (R409): A unit exceeds twice its bound; it is reset and the step restarts elsewhere. -/
  | unitOvertime (unit : Nat)
  /-- REREAD_PASS (R415): A requested re-read is served at the group's next track boundary. -/
  | rereadPass (a : Act) (startTick : Nat)
  /-- NEIGHBOUR_WAIT_EXPIRY (R417): The 20 ms wait for a queued neighbour capture ends. -/
  | neighbourWaitExpiry (surf : Nat) (track : Nat) (frame : Nat)
  /-- LS_WAIT_TIMEOUT (R411): LS does not become free within 100 ms for a two-reader re-read; a plain re-read is done instead. -/
  | lsWaitTimeout (surf : Nat) (track : Nat) (frame : Nat)
  /-- UNREADABLE_TIMEOUT (R416): 3 s pass since a frame's first sector end; the frame is declared unreadable. -/
  | unreadableTimeout (surf : Nat) (track : Nat) (frame : Nat)
  /-- CAL_RUN_START (R424): A due lane's run starts with LS standing in, or in place while its domain is Restoring. -/
  | calRunStart (lane : Nat)
  /-- CAL_STEP_DONE (R429): A calibration step completes its frames and the run moves on to its next step or acceptance. -/
  | calStepDone (lane : Nat) (r : CalFind)
  /-- CAL_TIMEOUT (R430): 250 ms pass before the steps complete; the run is rejected. -/
  | calTimeout (lane : Nat)
  /-- DEGRADED_RECAL_TIMER (R434): Every 60 s a degraded lane is made due under cause 1. -/
  | degradedRecalTimer
  /-- PLACEMENT_BATCH (R448): The map walker fills a frame from pending blocks and opens band sets as needed. -/
  | placementBatch (cleaning : Bool)
  /-- JOURNAL_PAGES_WRITTEN (R461): A write group's data pages are complete and its write-group line is issued. -/
  | journalPagesWritten
  /-- RECORD_LINE_COMPLETE (R462): A journal record line completes; a write completion may post and the next line is issued. -/
  | recordLineComplete
  /-- CLEANING_VICTIM_SELECT (R451): When f of R452 requires it, cleaning picks the Full band set with the fewest valid blocks. -/
  | cleaningVictimSelect
  /-- CLEANING_FRAME_READ (R453): A victim frame is read and its valid slots are placed again. -/
  | cleaningFrameRead (ok : Bool)
  /-- BAND_RELEASE (R454): All release conditions hold and the band becomes Empty, with a band record journaled. -/
  | bandRelease (bandset : Nat)
  /-- CHECKPOINT_SEGMENT_START (R468): The segment with the oldest unretired delta is copied to staging for imaging. -/
  | checkpointSegmentStart
  /-- CHECKPOINT_COPY_WRITTEN (R466): A segment copy is written; copy 1 follows, or the segment record is journaled. -/
  | checkpointCopyWritten (segment : Nat)
  /-- ROOT_WRITE_TIMER (R468): At least every 60 s with changes, a root is written and a root record journaled. -/
  | rootWriteTimer
  /-- MAP_REBUILD_START (R469): With both actuators Following, the device reads root and segments and replays the journal. -/
  | mapRebuildStart (rootBad : List Nat) (copyBad : List (Nat × Nat)) (lineBad : List Nat) (sjBad : List (Nat × Nat))
  /-- MAP_REBUILD_COMPLETE (R469): The map rebuild ends; media commands are served and the device reaches Active. -/
  | mapRebuildComplete (ckpt : Nat) (apply : Nat)
  /-- VALID_COUNT_WALK_DONE (R451): The post-rebuild valid-count walk ends and cleaning may start. -/
  | validCountWalkDone
  /-- STRIPE_PARITY_COMPUTE (R482): Once every data member is fixed, the parity units compute P and Q for writing. -/
  | stripeParityCompute (bandset : Nat) (stripe : Nat)
  /-- SJ_RECORD_DURABLE (R486): A stripe-journal record is durable in both copies and the next record may be issued. -/
  | sjRecordDurable
  /-- RECONSTRUCTION_COMPLETE (R492): The surviving members of a stripe are read and the lost frame is restored. -/
  | reconstructionComplete (pfn : Nat)
  /-- REBUILD_STRIPE (R496): The rebuild restores a stripe's lost members, relocates them and writes the extent. -/
  | rebuildStripe
  /-- REBUILD_CURSOR_TIMER (R496): At least once per second the rebuild writes a cursor record. -/
  | rebuildCursorTimer
  /-- PATROL_STRIPE (R499): Patrol reads a stripe and repairs or reports any mismatch. -/
  | patrolStripe (bad : List Nat) (seen : List (Nat × List Byte))
  /-- MEDIA_TIME_INTERVAL (R497): Each 1 s interval media time is shared among rebuild, checkpoints, cleaning and patrol. -/
  | mediaTimeInterval (hostA : Nat) (hostB : Nat)
  /-- HELLO (R512): A HELLO roll-call frame from a member is received. -/
  | hello (h : EwHdr) (ident : List Byte) (id : Option Nat) (role : Nat)
  /-- ROSTER (R512): A ROSTER frame listing shard members is received by the pool head. -/
  | roster (h : EwHdr) (entries : List (List Byte × Nat × Nat × Nat))
  /-- LEADER (R530): A LEADER claim frame for a shard is received and acknowledged. -/
  | leader (h : EwHdr) (shard : Nat)
  /-- LAYOUT (R507): A LAYOUT frame is received and the member adopts the epoch's list L. -/
  | layout (h : EwHdr) (epoch : Nat) (part : Nat) (npart : Nat) (ids : List (Nat × Bool))
  /-- ACK (R512): An ACK frame echoing an XID is received. -/
  | ack (h : EwHdr)
  /-- HEARTBEAT (R524): A HEARTBEAT frame is received with pool time, state and shard roles. -/
  | heartbeat (h : EwHdr) (state : Nat) (roles : List (Nat × Nat))
  /-- FAILNOTE (R524): A FAILNOTE frame marks a member Failed, or makes the receiver Isolated. -/
  | failnote (h : EwHdr) (id : Nat) (newgen : Nat) (cause : Nat)
  /-- LEAVE (R524): A LEAVE frame suspends failure detection for RETURN + 10 s. -/
  | leave (h : EwHdr) (ret : Nat)
  /-- PUPD (R520): A PUPD half reaches the P holder, which journals it, applies it to P and sends QUPD. -/
  | pupd (h : EwHdr) (c : EwCell) (pos : Nat) (op : Nat) (wseq : Nat) (data : List Byte)
  /-- QUPD (R520): A QUPD half reaches the Q holder, which applies it to Q durably and sends UPDACK. -/
  | qupd (h : EwHdr) (c : EwCell) (pos : Nat) (op : Nat) (wseq : Nat) (data : List Byte)
  /-- UPDACK (R520): An UPDACK completes a held contribution or the writer's contribution. -/
  | updack (h : EwHdr) (c : EwCell)
  /-- PCOPY (R519): The partner stores a write-group copy in its retained range and ACKs it. -/
  | pcopy (h : EwHdr) (record : List Byte) (data : List Byte)
  /-- PRELEASE (R519): The partner deallocates the retained copies named by their SEQ values. -/
  | prelease (h : EwHdr) (seqs : List Nat)
  /-- CREAD (R525): A cell read request is answered with CDATA. -/
  | cread (h : EwHdr) (c : EwCell) (pos : Nat)
  /-- CDATA (R525): Cell data for a rebuild or reconstruction is received. -/
  | cdata (h : EwHdr) (c : EwCell) (pos : Nat) (lost : Bool) (data : List Byte)
  /-- PSTATE (R523): A contribution-state query is received and answered with the held state. -/
  | pstate (h : EwHdr) (c : EwCell) (wseq : Nat) (st : Nat)
  /-- PTP_MESSAGE (R506): An IEEE 1588 message updates the pool-time offset. -/
  | ptpMessage (port : Nat) (toff : Int) (err : Int)
  /-- ANNOUNCE_TIMEOUT (R506): No Announce for 6 s; the last offset is held and HOLDOVER is set. -/
  | announceTimeout
  /-- PPS_SECOND (R506): ET_PPS marks each pool-time second while locked or in holdover. -/
  | ppsSecond
  /-- ETHERNET_LINK_CHANGE (R505): A port's link goes up or down and traffic moves to the other port. -/
  | ethernetLinkChange (port : Nat) (up : Bool)
  /-- HEARTBEAT_TIMER (R524): Every 500 ms a member sends HEARTBEAT on both ports. -/
  | heartbeatTimer
  /-- MEMBER_SILENT (R524): A shard leader has heard nothing from a member for 3 s and probes it. -/
  | memberSilent (id : Nat)
  /-- PROBE_TIMEOUT (R524): A probe goes unanswered for 1 s; the leader sends FAILNOTE and marks the member Failed. -/
  | probeTimeout (id : Nat)
  /-- UPDACK_TIMEOUT (R520): No UPDACK within 1 s; the writer resends, and after 3 s it asks its shard leader. -/
  | updackTimeout (group : Nat) (row : Nat) (cell : Nat) (op : Nat)
  /-- PARTNER_TIMEOUT (R519): No partner answers within 100 ms; writes complete unpaired. -/
  | partnerTimeout
  /-- ROLL_CALL_SLOT (R530): At the member's 100 ms roll-call slot, HELLO is sent to the shard group. -/
  | rollCallSlot
  /-- ROLL_CALL_CLOSE (R530): Roll call closes 2 s after the last new HELLO (Electing). -/
  | rollCallClose
  /-- PHASE_BOUND_EXPIRY (R532): A startup phase bound passes; the phase repeats, or ALERT_L is asserted on the repeat. -/
  | phaseBoundExpiry
  /-- POOL_REBUILD_ROW (R525): A substitute rebuilds a Failed member's position in a row into its spare range. -/
  | poolRebuildRow (group : Nat) (row : Nat) (cell : Nat)
  /-- CONTROLLER_ENABLE (R539): CC.EN is set and readiness begins under CC.CRIME. -/
  | controllerEnable (ctrl : Nat) (crime : Bool) (wrr : Bool) (asq : Nat) (acq : Nat)
  /-- CONTROLLER_READY (R539): The device sets CSTS.RDY and sends Namespace Attribute Changed notices. -/
  | controllerReady (ctrl : Nat)
  /-- CONTROLLER_RESET (R540): CC.EN falls, or FLR, PERST fall or link down occurs; fetching stops and the port's queues are deleted. -/
  | controllerReset (ctrl : Nat) (kind : ResetKind)
  /-- CONTROLLER_SHUTDOWN (R541): CC.SHN requests shutdown; fetching stops, completions post and SHST reaches 0b10. -/
  | controllerShutdown (ctrl : Nat) (shn : Nat)
  /-- PERST_RISE (R683): PERST_L rises and the port enters link training. -/
  | perstRise (ctrl : Nat)
  /-- SQ_DOORBELL (R544): A submission-queue tail doorbell write is recorded as a P6 event. -/
  | sqDoorbell (ctrl : Nat) (sq : Nat) (tail : Nat)
  /-- CQ_HEAD_DOORBELL (R545): A completion-queue head doorbell frees entries; held completions are posted and fetching resumes. -/
  | cqHeadDoorbell (ctrl : Nat) (cq : Nat) (head : Nat)
  /-- COMMAND_FETCH (R544): The arbiter fetches commands from submission queues within the in-flight and journal limits. -/
  | commandFetch (ctrl : Nat) (sq : Nat) (e : SqEntry) (ranges : List (Nat × Nat))
  /-- RANGE_LOCK_GRANT (R560): A waiting range lock is granted and the command starts once all its locks are held. -/
  | rangeLockGrant (ctrl : Nat) (sq : Nat) (cid : Nat)
  /-- INTERRUPT_COALESCE_TIMER (R546): The aggregation time of a coalesced vector expires and the MSI-X write is issued. -/
  | interruptCoalesceTimer (ctrl : Nat) (vector : Nat)
  /-- TLER_EXPIRY (R567): TLER × 100 ms pass with a block unresolved; the read completes with Unrecovered Read Error. -/
  | tlerExpiry (ctrl : Nat) (sq : Nat) (cid : Nat)
  /-- DELETION_DRAIN_TIMEOUT (R563): After 1 s of draining a deleted queue or namespace, remaining commands are aborted. -/
  | deletionDrainTimeout (ctrl : Nat) (id : Nat) (kind : Nat)
  /-- BUS_MASTER_DISABLE (R563): Bus Master Enable is cleared; new work is refused and CSTS.CFS set after the drain. -/
  | busMasterDisable (ctrl : Nat)
  /-- ACTIVATION_DRAIN_TIMEOUT (R564): After 1 s of activation drain, remaining commands complete Aborted for activation. -/
  | activationDrainTimeout
  /-- PCIE_L2_ENTERED (R558): In PS 2 the link enters L2 and the device enters Hibernate. -/
  | pcieL2Entered
  /-- L2_TIMEOUT (R558): L2 is not reached within 10 s; the device stays in Standby and reports PS 1. -/
  | l2Timeout
  /-- DELETE_IO_SQ (R563): Admin command 0x00 deletes a submission queue. -/
  | deleteIoSq (ctrl : Nat) (cid : Nat)
  /-- CREATE_IO_SQ (R542): Admin command 0x01 creates a submission queue bound to its own completion queue. -/
  | createIoSq (ctrl : Nat) (cid : Nat)
  /-- GET_LOG_PAGE (R551): Admin command 0x02 returns a supported log page. -/
  | getLogPage (ctrl : Nat) (cid : Nat)
  /-- DELETE_IO_CQ (R547): Admin command 0x04 deletes a completion queue whose SQ no longer exists. -/
  | deleteIoCq (ctrl : Nat) (cid : Nat)
  /-- CREATE_IO_CQ (R547): Admin command 0x05 creates a physically contiguous completion queue. -/
  | createIoCq (ctrl : Nat) (cid : Nat)
  /-- IDENTIFY (R549): Admin command 0x06 returns controller or namespace data. -/
  | identify (ctrl : Nat) (cid : Nat)
  /-- ABORT (R565): Admin command 0x08 aborts a named command if its effects can still be withheld. -/
  | abort (ctrl : Nat) (cid : Nat) (unfetched : Bool)
  /-- SET_ARBITRATION (R550): Set Features 0x01 sets the arbitration fields. -/
  | setArbitration (ctrl : Nat) (cid : Nat)
  /-- SET_POWER_MANAGEMENT (R558): Set Features 0x02 requests PS 0, 1 or 2, completing once the R110 state is reached. -/
  | setPowerManagement (ctrl : Nat) (cid : Nat)
  /-- SET_TEMPERATURE_THRESHOLD (R550): Set Features 0x04 sets the composite temperature thresholds. -/
  | setTemperatureThreshold (ctrl : Nat) (cid : Nat)
  /-- SET_ERROR_RECOVERY (R567): Set Features 0x05 sets TLER. -/
  | setErrorRecovery (ctrl : Nat) (cid : Nat)
  /-- SET_NUMBER_OF_QUEUES (R542): Set Features 0x07 requests queues and reports the number granted. -/
  | setNumberOfQueues (ctrl : Nat) (cid : Nat)
  /-- SET_INTERRUPT_COALESCING (R546): Set Features 0x08 sets the aggregation threshold and time. -/
  | setInterruptCoalescing (ctrl : Nat) (cid : Nat)
  /-- SET_INTERRUPT_VECTOR_CONFIG (R546): Set Features 0x09 exempts or includes a vector in coalescing. -/
  | setInterruptVectorConfig (ctrl : Nat) (cid : Nat)
  /-- SET_WRITE_ATOMICITY (R554): Set Features 0x0A accepts DN without changing atomicity. -/
  | setWriteAtomicity (ctrl : Nat) (cid : Nat)
  /-- SET_ASYNC_EVENT_CONFIG (R550): Set Features 0x0B selects the asynchronous event notices. -/
  | setAsyncEventConfig (ctrl : Nat) (cid : Nat)
  /-- SET_TIMESTAMP (R550): Set Features 0x0E sets the 48-bit host timestamp and records it in Sillage. -/
  | setTimestamp (ctrl : Nat) (cid : Nat) (ms : Nat)
  /-- SET_RESERVATION_NOTIFY_MASK (R550): Set Features 0x81 sets a namespace's reservation notification mask. -/
  | setReservationNotifyMask (ctrl : Nat) (cid : Nat)
  /-- SET_RESERVATION_PERSISTENCE (R550): Set Features 0x82 for reservation persistence, which is always on. -/
  | setReservationPersistence (ctrl : Nat) (cid : Nat)
  /-- SET_QUEUE_ORDERING (R555): Set Features 0xC0 marks a not-yet-created submission queue as ordered. -/
  | setQueueOrdering (ctrl : Nat) (cid : Nat)
  /-- SET_STREAMING_MODE (R557): Set Features 0xC1 enables or disables streaming mode. -/
  | setStreamingMode (ctrl : Nat) (cid : Nat)
  /-- GET_FEATURES (R550): Admin command 0x0A returns the current or default value of a feature. -/
  | getFeatures (ctrl : Nat) (cid : Nat)
  /-- ASYNC_EVENT_REQUEST (R547): Admin command 0x0C is held until an asynchronous event completes it. -/
  | asyncEventRequest (ctrl : Nat) (cid : Nat)
  /-- NAMESPACE_CREATE (R553): Namespace Management creates a namespace in the lowest free range that fits. -/
  | namespaceCreate (ctrl : Nat) (cid : Nat) (nsze : Nat) (ncap : Nat) (flbas : Nat)
  /-- NAMESPACE_DELETE (R563): Namespace Management deletes a namespace after its drain. -/
  | namespaceDelete (ctrl : Nat) (cid : Nat)
  /-- NAMESPACE_ATTACH (R553): Namespace Attachment attaches a namespace to a controller. -/
  | namespaceAttach (ctrl : Nat) (cid : Nat) (ids : List Nat)
  /-- NAMESPACE_DETACH (R563): Namespace Attachment detaches a namespace after its drain. -/
  | namespaceDetach (ctrl : Nat) (cid : Nat) (ids : List Nat)
  /-- FIRMWARE_DOWNLOAD (R650): Admin command 0x11 assembles an image in HBM region 0. -/
  | firmwareDownload (ctrl : Nat) (cid : Nat) (data : List Byte)
  /-- FIRMWARE_COMMIT_STORE (R650): Firmware Commit action 0 verifies and stores an image without activation. -/
  | firmwareCommitStore (ctrl : Nat) (cid : Nat)
  /-- FIRMWARE_COMMIT_STORE_ACTIVATE (R650): Firmware Commit action 1 stores an image with ACTIVATE set, or a key certificate area on slot 3. -/
  | firmwareCommitStoreActivate (ctrl : Nat) (cid : Nat)
  /-- FIRMWARE_COMMIT_SET_ACTIVATE (R650): Firmware Commit action 2 sets ACTIVATE on a stored Pending slot. -/
  | firmwareCommitSetActivate (ctrl : Nat) (cid : Nat)
  /-- FIRMWARE_COMMIT_IMMEDIATE (R564): Firmware Commit action 3 activates a bundle or Accord after draining commands. -/
  | firmwareCommitImmediate (ctrl : Nat) (cid : Nat)
  /-- SELF_TEST_SHORT (R562): Device Self-test code 0x1 runs memory, servo-lock and 64-frame read segments. -/
  | selfTestShort (ctrl : Nat) (cid : Nat) (seg : Option (Bool × Nat))
  /-- SELF_TEST_EXTENDED (R562): Device Self-test code 0x2 runs segments 1, 2 and a read of every Full band set. -/
  | selfTestExtended (ctrl : Nat) (cid : Nat) (seg : Option (Bool × Nat))
  /-- SELF_TEST_ABORT (R562): Device Self-test code 0xF aborts a running self-test. -/
  | selfTestAbort (ctrl : Nat) (cid : Nat)
  /-- FORMAT_NVM (R547): Admin command 0x80 deallocates every block of the namespace. -/
  | formatNvm (ctrl : Nat) (cid : Nat)
  /-- SECURITY_RECEIVE (R651): Security Receive returns the protocol list, an SPDM response or the 0xF0 status block. -/
  | securityReceive (ctrl : Nat) (cid : Nat)
  /-- RAISE_ROLLBACK_FLOOR (R647): Signed operation 0x01 writes an OTP record raising a rollback floor. -/
  | raiseRollbackFloor (ctrl : Nat) (cid : Nat) (sent : List Byte) (ok : Bool)
  /-- WRITE_KEY_CERT_AREA (R652): Signed operation 0x02 writes a key certificate area copy, effective at the next boot. -/
  | writeKeyCertArea (ctrl : Nat) (cid : Nat) (sent : List Byte)
  /-- SPDM_GET_VERSION (R654): SPDM GET_VERSION request answered. -/
  | spdmGetVersion (ch : Nat) (cid : Nat) (req : List Byte)
  /-- SPDM_GET_CAPABILITIES (R654): SPDM GET_CAPABILITIES answered with CERT, CHAL and MEAS. -/
  | spdmGetCapabilities (ch : Nat) (cid : Nat) (req : List Byte)
  /-- SPDM_NEGOTIATE_ALGORITHMS (R654): SPDM NEGOTIATE_ALGORITHMS answered with RSAPSS-3072 and SHA-256. -/
  | spdmNegotiateAlgorithms (ch : Nat) (cid : Nat) (req : List Byte)
  /-- SPDM_GET_DIGESTS (R654): SPDM GET_DIGESTS answered for slot 0. -/
  | spdmGetDigests (ch : Nat) (cid : Nat) (req : List Byte)
  /-- SPDM_GET_CERTIFICATE (R654): SPDM GET_CERTIFICATE returns the slot 0 chain. -/
  | spdmGetCertificate (ch : Nat) (cid : Nat) (req : List Byte)
  /-- SPDM_CHALLENGE (R654): SPDM CHALLENGE answered with a response signed by the identity key. -/
  | spdmChallenge (ch : Nat) (cid : Nat) (req : List Byte)
  /-- SPDM_GET_MEASUREMENTS (R655): SPDM GET_MEASUREMENTS returns measurement blocks taken at one tick. -/
  | spdmGetMeasurements (ch : Nat) (cid : Nat) (req : List Byte)
  /-- MCTP_SET_ENDPOINT_ID (R654): MCTP control Set Endpoint ID. -/
  | mctpSetEndpointId (port : Nat) (inst : Nat) (op : Nat) (eid : Nat)
  /-- MCTP_GET_ENDPOINT_ID (R654): MCTP control Get Endpoint ID. -/
  | mctpGetEndpointId (port : Nat) (inst : Nat)
  /-- MCTP_GET_VERSION_SUPPORT (R654): MCTP control Get MCTP Version Support. -/
  | mctpGetVersionSupport (port : Nat) (inst : Nat) (type : Nat)
  /-- MCTP_GET_MESSAGE_TYPE_SUPPORT (R654): MCTP control Get Message Type Support. -/
  | mctpGetMessageTypeSupport (port : Nat) (inst : Nat)
  /-- FLUSH (R566): I/O Flush completes once every earlier write has a durable write group. -/
  | flush (ctrl : Nat) (sq : Nat) (cid : Nat)
  /-- WRITE (R461): I/O Write journals its data as write groups and completes once they are durable. -/
  | write (ctrl : Nat) (sq : Nat) (cid : Nat) (data : List Byte)
  /-- READ (R444): I/O Read resolves each block through the map and returns zeros, journal data or media data. -/
  | read (ctrl : Nat) (sq : Nat) (cid : Nat) (fails : List Nat)
  /-- COMPARE (R548): I/O Compare reads and compares blocks under a shared lock. -/
  | compare (ctrl : Nat) (sq : Nat) (cid : Nat) (data : List Byte) (fails : List Nat)
  /-- WRITE_ZEROES (R554): I/O Write Zeroes deallocates the range. -/
  | writeZeroes (ctrl : Nat) (sq : Nat) (cid : Nat)
  /-- DATASET_MANAGEMENT (R548): I/O Dataset Management deallocates up to 256 ranges. -/
  | datasetManagement (ctrl : Nat) (sq : Nat) (cid : Nat) (ranges : List (Nat × Nat))
  /-- VERIFY (R548): I/O Verify reads and decodes without transfer. -/
  | verify (ctrl : Nat) (sq : Nat) (cid : Nat) (fails : List Nat)
  /-- RESERVATION_REGISTER (R548): I/O Reservation Register. -/
  | reservationRegister (ctrl : Nat) (sq : Nat) (cid : Nat) (crkey : Nat) (nrkey : Nat)
  /-- RESERVATION_REPORT (R548): I/O Reservation Report returns reservation status. -/
  | reservationReport (ctrl : Nat) (sq : Nat) (cid : Nat)
  /-- RESERVATION_ACQUIRE (R548): I/O Reservation Acquire. -/
  | reservationAcquire (ctrl : Nat) (sq : Nat) (cid : Nat) (crkey : Nat) (prkey : Nat)
  /-- RESERVATION_RELEASE (R548): I/O Reservation Release. -/
  | reservationRelease (ctrl : Nat) (sq : Nat) (cid : Nat) (crkey : Nat)
  /-- ZONE_CLOSE (R456): Zone Management Send Close. -/
  | zoneClose (ctrl : Nat) (sq : Nat) (cid : Nat)
  /-- ZONE_FINISH (R458): Zone Management Send Finish voids the rest of the band set and sets the write pointer to ZCAP. -/
  | zoneFinish (ctrl : Nat) (sq : Nat) (cid : Nat)
  /-- ZONE_OPEN (R456): Zone Management Send Open. -/
  | zoneOpen (ctrl : Nat) (sq : Nat) (cid : Nat)
  /-- ZONE_RESET (R458): Zone Management Send Reset journals a deallocate and a zone record. -/
  | zoneReset (ctrl : Nat) (sq : Nat) (cid : Nat)
  /-- ZONE_MGMT_RECEIVE (R548): Zone Management Receive reports zones. -/
  | zoneMgmtReceive (ctrl : Nat) (sq : Nat) (cid : Nat)
  /-- ZONE_APPEND (R456): Zone Append writes up to 2 MiB at the zone's write pointer. -/
  | zoneAppend (ctrl : Nat) (sq : Nat) (cid : Nat) (data : List Byte)
  /-- FENCE (R556): The vendor Fence command orders later commands after earlier ones in its scope. -/
  | fence (ctrl : Nat) (sq : Nat) (cid : Nat)
  /-- SR_DOORBELL (R572): A write to SR_DBr records a new tail, reads CQHEAD and re-reads waiting chain links. -/
  | srDoorbell (ring : Nat) (tail : Nat) (cqHead : Nat) (links : List (Nat × Bool × Bool)) (hostErr : Bool)
  /-- SR_PUSH (R586): A write to SR_PUSHCNTr takes pushed descriptors from the push window into an empty ring. -/
  | srPush (ring : Nat) (count : Nat)
  /-- DESCRIPTOR_FETCH (R573): The device fetches the next descriptor by ring priority and checks its fields and signature. -/
  | descriptorFetch (ring : Nat) (bytes : List Byte) (auth : Option (List Byte)) (hostErr : Bool)
  /-- RING_ENABLE (R587): Writing SR_CFGr.EN to 1 takes the ring configuration and starts the ring afresh. -/
  | ringEnable (ring : Nat) (w : Word32)
  /-- RING_DISABLE (R583): Writing SR_CFGr.EN to 0 moves the ring to Draining. -/
  | ringDisable (ring : Nat) (w : Word32)
  /-- RING_DRAIN_TIMEOUT (R583): After 1 s of draining, remaining descriptors end with status 0x09. -/
  | ringDrainTimeout (ring : Nat)
  /-- MOVER_READ (R582): Ring opcode 0x01 copies HBM or MRAM Sillage data to host memory on the ring's channel. -/
  | moverRead (ring : Nat) (tag : Nat) (blocks : List ChainBlock) (ok : Nat) (f : MemFaults)
  /-- MOVER_WRITE (R582): Signed ring opcode 0x02 copies host memory into HBM or MRAM. -/
  | moverWrite (ring : Nat) (tag : Nat) (blocks : List ChainBlock) (data : List Byte) (f : MemFaults)
  /-- SAMPLE_EXPORT (R403): Ring opcode 0x03 exports index entries and their retained captures. -/
  | sampleExport (ring : Nat) (tag : Nat) (caps : List (List Byte)) (ok : Bool)
  /-- TRACK_DUMP (R582): Ring opcode 0x04 captures, pins and exports frames of a track. -/
  | trackDump (ring : Nat) (tag : Nat) (caps : List (List Byte)) (ok : Bool)
  /-- CALIBRATION_RUN (R423): Signed ring opcode 0x05 requests a calibration run of a lane. -/
  | calibrationRun (ring : Nat) (tag : Nat)
  /-- GAUGE_ARM (R635): Gauge action 0x00 clears and arms a range of gauges on a source. -/
  | gaugeArm (ring : Nat) (tag : Nat)
  /-- GAUGE_STOP (R635): Gauge action 0x01 stops a range of gauges and freezes their contents. -/
  | gaugeStop (ring : Nat) (tag : Nat)
  /-- GAUGE_EXPORT (R635): Gauge action 0x02 exports each gauge page as it stood at one tick. -/
  | gaugeExport (ring : Nat) (tag : Nat) (ok : Bool)
  /-- GAUGE_EXPORT_REARM (R635): Gauge action 0x03 exports and then re-arms the gauges. -/
  | gaugeExportRearm (ring : Nat) (tag : Nat) (ok : Bool)
  /-- SILLAGE_EXPORT (R629): Ring opcode 0x07 copies log bytes up to SL_NEXT to host memory. -/
  | sillageExport (ring : Nat) (tag : Nat) (ok : Bool)
  /-- SILLAGE_CLEAR (R630): Signed ring opcode 0x08 zeros the log, rewrites the header and appends a log-cleared record. -/
  | sillageClear (ring : Nat) (tag : Nat)
  /-- ACCORD_STORE (R131): Signed ring opcode 0x09 validates and stores an Accord image, optionally for domain apply. -/
  | accordStore (ring : Nat) (tag : Nat) (img : List Byte) (ok : Bool)
  /-- ACCORD_STORE_WRITTEN (R135): The image is stored and read back; TRIED is set and, for a domain apply, the take-down starts. -/
  | accordStoreWritten (ok : Bool)
  /-- ACCORD_MEDIA_COPY_READ (R114): Ring opcode 0x0A reads the Accord media copy of an actuator to host memory. -/
  | accordMediaCopyRead (ring : Nat) (tag : Nat) (ok : Bool)
  /-- ACCORD_MEDIA_COPY (R114): Within 60 s of commit or boot the device writes or checks the two media copies and sets MEDIACOPY. -/
  | accordMediaCopy (okA : Bool) (okB : Bool)
  /-- DOMAIN_TAKE_DOWN (R30): Signed ring opcode 0x0B action 0 requests a domain take-down, restarting DE instead. -/
  | domainTakeDown (ring : Nat) (tag : Nat)
  /-- DOMAIN_RESTORE (R30): Signed ring opcode 0x0B action 1 requests a domain restore, held under R31 where needed. -/
  | domainRestore (ring : Nat) (tag : Nat)
  /-- DOMAIN_FAULT (R30): A domain fault stops the domain at once, retracts its actuator and moves it to Down. -/
  | domainFault (d : Dom) (cause : Nat)
  /-- QUIESCE_WORK_FINISHED (R30): All in-flight work of a Quiescing domain finishes; DP or DE goes Down, or DA or DB park. -/
  | quiesceWorkFinished (d : Dom)
  /-- QUIESCE_TIMEOUT (R30): The 500 ms quiesce timer expires; remaining work is aborted. -/
  | quiesceTimeout (d : Dom)
  /-- RESTORE_COMPLETE (R30): Restoring finishes; the domain resumes work and enters Serving. -/
  | restoreComplete (d : Dom)
  /-- RESTORE_TIMEOUT (R33): The restore timer reaches its limit; the domain returns to Down. -/
  | restoreTimeout (d : Dom)
  /-- HELD_RESTORE_START (R31): A held restore starts loading once the actuator is Parked and the spindle Locked. -/
  | heldRestoreStart (d : Dom)
  /-- MEDIA_HOLD_EXPIRY (R39): 8 s after a domain left Serving, held commands complete with Namespace Not Ready. -/
  | mediaHoldExpiry (a : Act)
  /-- BLOTTER_ENABLE (R207): Signed ring opcode 0x0C with enable 1 enables Blotter mode and reserves the cache pad line. -/
  | blotterEnable (ring : Nat) (tag : Nat)
  /-- BLOTTER_DISABLE (R207): Signed ring opcode 0x0C with enable 0 disables Blotter mode. -/
  | blotterDisable (ring : Nat) (tag : Nat)
  /-- POOL_RELAYOUT (R507): Signed ring opcode 0x0D forms a new pool epoch. -/
  | poolRelayout (ring : Nat) (tag : Nat)
  /-- POOL_ADOPT (R528): Signed ring opcode 0x0E takes over a Failed member's ID and data. -/
  | poolAdopt (ring : Nat) (tag : Nat)
  /-- TRANSMIT_OPPORTUNITY (R590): At the device's PLCA opportunity the PHY sends a buffered frame or lets the timer expire. -/
  | transmitOpportunity (late : Bool)
  /-- PLCA_BEACON (R589): The coordinator sends a BEACON opening each PLCA cycle. -/
  | plcaBeacon
  /-- PLCA_BEACON_LOSS (R592): No valid BEACON within the invalid-beacon time; the device falls back to CSMA/CD. -/
  | plcaBeaconLoss
  /-- EB_COLLISION (R593): A collision is counted; 16 within 1 s set MISCFG and assert ALERT_L. -/
  | ebCollision
  /-- CSMA_BACKOFF_EXPIRY (R592): A CSMA/CD backoff expires and the frame is retried, or discarded after 16 attempts. -/
  | csmaBackoffExpiry
  /-- CLAIM (R597): A CLAIM frame for token-master election is received. -/
  | claim (h : EbHdr) (prio : Nat) (idlow : Nat)
  /-- TICK (R598): A TICK frame sets the enclosure-time offset and identifies the master. -/
  | tick (h : EbHdr) (mepoch : Nat) (tokfree : Nat)
  /-- TOKREQ (R600): The master receives a spin-up token request or re-assertion. -/
  | tokreq (h : EbHdr) (lease : Nat) (held : Bool)
  /-- TOKGRANT (R600): A token grant lets the spindle start, or is returned if the start was withdrawn. -/
  | tokgrant (h : EbHdr) (dstnode : Nat) (lease : Nat) (mepoch : Nat)
  /-- TOKRET (R600): The master receives a returned token. -/
  | tokret (h : EbHdr) (mepoch : Nat)
  /-- SEEK (R603): A neighbour's seek announcement is forwarded to the coarse-loop helpers. -/
  | seek (h : EbHdr) (a : Act) (step : Nat) (start : Nat) (prof : List Int)
  /-- HEALTH (R604): A HEALTH summary frame from a node is received. -/
  | health (h : EbHdr)
  /-- HQUERY (R604): A health query is answered with HEALTH, from the PHY copy in Hibernate. -/
  | hquery (h : EbHdr) (dstnode : Nat)
  /-- WAKE (R604): A WAKE frame for this bay is matched and is the wake event in Hibernate. -/
  | wake (h : EbHdr) (dstbay : Nat)
  /-- ELECTION_LISTEN_END (R597): 100 ms of listening end without a TICK and the device sends CLAIM. -/
  | electionListenEnd
  /-- CLAIM_COLLECT_END (R597): At 300 ms claims close and the lowest triple becomes master. -/
  | claimCollectEnd
  /-- TICK_TIMER (R598): Every 10 ms the master sends TICK. -/
  | tickTimer
  /-- MASTER_LOSS (R599): No TICK for 50 ms; the follower declares the master lost and starts an election. -/
  | masterLoss
  /-- TOKEN_LEASE_EXPIRY (R600): A granted token's LEASE expires at the master. -/
  | tokenLeaseExpiry (node : Nat) (bay : Nat)
  /-- MEPOCH_WAIT_EXPIRY (R601): 200 ms after a MEPOCH change the new master counts re-assertions as held. -/
  | mepochWaitExpiry
  /-- HEALTH_TIMER (R604): Every 1 s the device sends HEALTH. -/
  | healthTimer
  /-- LOCAL_SPINUP_DELAY_END (R602): The BAY-based delay after three failed DE restarts ends and the spindle starts without a token. -/
  | localSpinupDelayEnd
  /-- SENSOR_CONVERSION (R612): Every 100 µs a sensor converts and its reading is compared with WARN, THROT and SHUT. -/
  | sensorConversion (n : Nat) (temp : Int)
  /-- SENSOR_EXCLUSION (R609): A sensor off its reference for 1 s, stuck at a range end or silent for 1 ms is excluded. -/
  | sensorExclusion (n : Nat)
  /-- THERMAL_HYSTERESIS_TIMER (R613): TJ stays below a threshold minus HYST for the required time and the thermal state steps down. -/
  | thermalHysteresisTimer
  /-- SILLAGE_APPEND (R623): A queued record passes its rate limit and is appended to the log. -/
  | sillageAppend
  /-- STAMP_TIMER (R619): Every 0.1 h of operating time a stamp slot is written. -/
  | stampTimer
  /-- SUPPRESSION_SUMMARY_TIMER (R626): 1 h after an unsummarised suppression, a suppression summary is written. -/
  | suppressionSummaryTimer (code : Nat)
  /-- GAUGE_DURATION_END (R635): An armed gauge's DURATION elapses; it stops and freezes. -/
  | gaugeDurationEnd (g : Nat)
  /-- STEWARD_INSTRUCTION (R140): The steward fetches and executes one instruction, with match-register redirection to patch RAM, cache loads and stores, line operations and its fence. -/
  | stewardInstruction (space : Nat) (addr : Nat) (o : StewardOp)
  /-- NEIGHBOR_DISCOVERY (R503): An IPv6 Neighbor Discovery message arrives on an Ethernet port and the device answers it. -/
  | neighborDiscovery (port : Nat)
  /-- ICMPV6_ECHO_REQUEST (R503): An ICMPv6 Echo Request arrives on an Ethernet port and the device replies. -/
  | icmpv6EchoRequest (port : Nat)
  /-- MLD_QUERY (R504): An MLDv2 query arrives and the device reports its joined shard and leader groups. -/
  | mldQuery (port : Nat)
  /-- EWERID_DATAGRAM_DROPPED (R512): A received datagram with an extension header, bad checksum, foreign POOLID, unknown TYPE or bad CRC is dropped and counted in PL_RX.DROP. -/
  | eweridDatagramDropped
  /-- EB_STRANGER_FRAME (R594): A frame with a foreign EtherType, source, VERSION or TYPE arrives on the enclosure bus and is ignored and counted in EB_STRANGE. -/
  | ebStrangerFrame (ethertype : Bool)
  /-- BUNDLE_STORE_WRITTEN (R650): A full patch bundle finishes erasing, programming and reading back in its boot-flash patch slot, and the Firmware Commit completes. -/
  | bundleStoreWritten (ok : Bool)
  /-- KEY_AREA_WRITTEN (R645): A key certificate area copy finishes writing and reading back in boot flash, and the Firmware Commit or signed operation completes. -/
  | keyAreaWritten (ok : Bool)
  /-- VM_MEASUREMENT (R633): Every 100 µs the device measures VM into PW_VM, updates VMIN and feeds armed VM gauges. -/
  | vmMeasurement (mv : Nat)
  /-- FREE_PAGE_GAUGE_SAMPLE (R633): Every 10 ms the free journal page count is sampled into armed gauges of source 0x0B. -/
  | freePageGaugeSample
  deriving DecidableEq, Repr

end Sys2Proof
end

