-- ==== Sys2Proof/Decode.lean ====
section
/-! DEFINITION. The command that a word of the opcode table spells. -/
namespace Sys2Proof

/-- Every row of spec/opcode_table.json lists no encoding fields (the commands are register accesses, protocol
operations and events, not encoded words), so no word spells a command. -/
def decodeTableWord (_nbits _w : Nat) : Option Instr := none

end Sys2Proof
end

