-- ==== Sys2Proof/Config.lean ====
section
/-! DEFINITION. What the spec leaves to the implementation or to the physical part: constants and functions with no
body, so that nothing can be proved of their values. Each is named in the assumption log. -/
namespace Sys2Proof

/-- The nonce drawn `n`th, as four words SR_NONCE0 to SR_NONCE3 (R580, SR_NONCE reset "Random"). -/
opaque Config.nonce : Nat → BitVec 128

/-- A free value of any width, drawn `n`th. -/
opaque Config.freeValue : Nat → BitVec 64

/-- The stored bits of a word that HBM failed to give, drawn `n`th (R184). -/
opaque Config.freeCode : Nat → BitVec 80

/-- The role ROM: bank (0 the common one, else a role code) and address (R145). -/
opaque Config.rom : Nat → Nat → Microword

/-- The Brodyn root and recovery public keys in mask ROM (R638). -/
opaque Config.rootKey : List (BitVec 8)
opaque Config.recoveryKey : List (BitVec 8)

/-- The UUID of a namespace and the NVM subsystem's qualified name: the NVMe base specification asks for them, the spec gives none. -/
opaque Config.nsUuid : Nat → BitVec 128
opaque Config.subnqn : Nat → BitVec 8

/-- The device's identity key pair (R639): modulus and private exponent. -/
opaque Config.identityModulus : Nat
opaque Config.identityPrivate : Nat

/-- SHA-256 of the steward mask ROM and the role ROM banks (R655). -/
opaque Config.romDigest : List (BitVec 8)

/-- The ALU of a helper: operation code, operands RA and RB, what RD held (a multiply-accumulate adds to it), result (R148 gives no
encoding). -/
opaque Config.alu : Nat → BitVec 64 → BitVec 64 → BitVec 64 → BitVec 64

/-- The condition flags that operation leaves (R148). -/
opaque Config.aluFlags : Nat → BitVec 64 → BitVec 64 → BitVec 64 → Nat

/-- Whether condition COND holds for the flags, inbox not empty, error queue not empty, island FIFO ready, event
pending, UE status (R148 gives no encoding of COND). -/
opaque Config.cond : Nat → Nat → Bool → Bool → Bool → Bool → Bool → Bool

/-- How IMMSEL uses IMM: 0 none, 1 in place of RB, 2 address offset, 3 message type and tag (R148). -/
opaque Config.immSel : Nat → Nat

/-- Entry microword of a role in the common bank (R153). -/
opaque Config.entryPoint : Nat → Nat

/-- The position loop's signed demand u of R300, from the position error, the arm velocity, the integrator and the
coefficient set in use ("normalised units of Brodyn's loop model", R328). -/
opaque Config.positionDemand : Int → Int → Int → List Nat → Int

/-- The fine loop's command of R295, from the residual error, the integrator and the coefficient set. -/
opaque Config.fineCommand : Int → Int → List Nat → Int

/-- The integrator's next contribution of the coarse and the fine loop (R301, R323). -/
opaque Config.integrate : Int → Int → List Nat → Int

/-- How long a seek over a distance in tracks takes, in microseconds, and its planned VCM current in mA at a sample of 16 (R603): by
actuator (0, 1) and signed distance. -/
opaque Config.seekTime : Nat → Int → Nat
opaque Config.seekCurrent : Nat → Int → Nat → Int

/-- The voltage that the current loops demand of a phase (0 U, 1 V, 2 W), in units of 5 ns of duty about half a period, from the rotor
angle, the sensed currents in IFS / 32,768, the d-axis and q-axis commands in mA and the injected d-axis amplitude in mV: the spec gives
the loops no gains (R262, R266). -/
opaque Config.phaseDemand : Nat → Nat → Int → Int → Int → Int → Nat → Int

/-- The rotor angle in 0.1 electrical degrees that high-frequency injection finds, and that the back-EMF observer built on RS, LD, LQ
and KE finds, from the last angle, the sensed currents and the codes of the three phase voltages (R262). -/
opaque Config.injectionAngle : Nat → Nat → Int → Int → List Nat → Nat
opaque Config.observerAngle : List Nat → Nat → Int → Int → List Nat → Nat

/-- The negative d-axis current, in mA, that weakens the field above the voltage limit, from the excess demand in 5 ns: the spec gives
its bound only (R266). -/
opaque Config.weaken : Nat → Nat

/-- The bytes of the channel sets in a root, from their numbers: R467 gives no layout. -/
opaque Config.rootChannels : List Nat → List (BitVec 8)

/-- The polarity taken where both pulses of R265 give the same response. -/
opaque Config.polarityTie : Bool

/-- The ROM default channel set of a reader (R421): starting gain, cutoff, boost, taps 0 to 15, g1, g2, noise weight,
SYNCTH, EARLY1, EARLY2, by position in that order. -/
opaque Config.romChannel : Nat → Nat → Nat

end Sys2Proof
end

