-- ==== Sys2Proof/Machine/Bits.lean ====
section
/-! DEFINITION. The checking codes of the spec: CRC-8 and CRC-32C (R693), GF(2^8) arithmetic (R474), and the word code
of R196 with its decoder (R197). -/
namespace Sys2Proof.Machine

/-! ### Cyclic redundancy checks (R693) -/

/-- One bit into a CRC-8 of polynomial 0x07, most significant first. -/
def crc8Bit (r : Nat) (b : Bool) : Nat :=
  let t := (r * 2) % 256
  if (r / 128 % 2 == 1) != b then Nat.xor t 0x07 else t

/-- The bits of a `w`-bit value, highest first. -/
def bitsHigh : Nat → Nat → List Bool
  | 0, _ => []
  | w + 1, v => (v / 2 ^ w % 2 == 1) :: bitsHigh w v

/-- The CRC-8 over bits, in order. -/
def crc8Bits (l : List Bool) : Nat := l.foldl crc8Bit 0

/-- The CRC-8 over bytes, each from bit 7 down. -/
def crc8 (l : List Byte) : Nat := crc8Bits (l.flatMap (fun b => bitsHigh 8 b.toNat))

/-- One bit step of the reflected CRC-32C. -/
def crc32cBit (r : Nat) : Nat := if r % 2 == 1 then Nat.xor (r / 2) 0x82F63B78 else r / 2

/-- One byte into the CRC-32C register. -/
def crc32cByte (r : Nat) (b : Byte) : Nat :=
  let t := Nat.xor r b.toNat
  crc32cBit (crc32cBit (crc32cBit (crc32cBit (crc32cBit (crc32cBit (crc32cBit (crc32cBit t)))))))

/-- The CRC-32C over bytes (R693). -/
def crc32c (l : List Byte) : Nat := Nat.xor (l.foldl crc32cByte 0xFFFFFFFF) 0xFFFFFFFF

/-- One byte into the register of the CRC-32 of an Ethernet frame check sequence (IEEE 802.3), bits reflected. -/
def crc32Byte (r : Nat) (b : Byte) : Nat :=
  (List.range 8).foldl (fun t _ => if t % 2 == 1 then Nat.xor (t / 2) 0xEDB88320 else t / 2) (Nat.xor r b.toNat)

/-- The frame check sequence of an Ethernet frame. -/
def crc32 (l : List Byte) : Nat := Nat.xor (l.foldl crc32Byte 0xFFFFFFFF) 0xFFFFFFFF

/-! ### GF(2^8), polynomial x^8 + x^4 + x^3 + x^2 + 1 (R474) -/

/-- Multiply by x. -/
def gfX (a : Nat) : Nat := if a < 128 then a * 2 else Nat.xor (a * 2) 0x11D

/-- Product of two field elements; `n` bits of `b` are used. -/
def gfMulN : Nat → Nat → Nat → Nat
  | 0, _, _ => 0
  | n + 1, a, b => Nat.xor (if b % 2 == 1 then a else 0) (gfMulN n (gfX a) (b / 2))

def gfMul (a b : Nat) : Nat := gfMulN 8 a b

/-- `g^k` with g = 2. -/
def gfPow : Nat → Nat
  | 0 => 1
  | k + 1 => gfX (gfPow k)

/-- Inverse of a non-zero element (a^254). -/
def gfInv (a : Nat) : Nat :=
  let a2 := gfMul a a
  let a4 := gfMul a2 a2
  let a8 := gfMul a4 a4
  let a16 := gfMul a8 a8
  let a32 := gfMul a16 a16
  let a64 := gfMul a32 a32
  let a128 := gfMul a64 a64
  gfMul a2 (gfMul a4 (gfMul a8 (gfMul a16 (gfMul a32 (gfMul a64 a128)))))

/-! ### The word code (R196, R197)

g(x) = (x^7 + x^3 + 1)(x^7 + x^3 + x^2 + x + 1), the product of the minimal polynomials of α and α³. -/

/-- g(x), its bit j the coefficient of x^j. -/
def eccPoly : Nat := 0x4377

/-- One more coefficient, from the highest down, into the remainder modulo g(x). -/
def eccStep (r : Nat) (b : Bool) : Nat :=
  let t := 2 * r + (if b then 1 else 0)
  if t ≥ 0x4000 then Nat.xor t eccPoly else t

/-- The remainder modulo g(x) of a polynomial of `w` coefficients. -/
def eccRem (w v : Nat) : Nat := (bitsHigh w v).foldl eccStep 0

/-- C(x) = u(x) x^14 mod g(x), u of W and the 64 data bits (R196). -/
def eccCheck (w : Bool) (d : Nat) : Nat := eccRem 79 ((d % 2 ^ 64 + (if w then 2 ^ 64 else 0)) * 2 ^ 14)

/-- Parity of the low `w` bits of `v`: true when odd. -/
def oddBits (w v : Nat) : Bool := (bitsHigh w v).foldl (fun p b => p != b) false

/-- The stored 80 bits of a data word: D, C, W, and even parity E over bits 78:0 (R196). -/
def eccWord (w : Bool) (d : Nat) : Nat :=
  let v := d % 2 ^ 64 + eccCheck w d * 2 ^ 64 + (if w then 2 ^ 78 else 0)
  v + (if oddBits 79 v then 2 ^ 79 else 0)

/-- The stored form of a 64-bit word that a store writes: W = 1 (R196). -/
def encodeWord (d : Nat) : Code80 := BitVec.ofNat 80 (eccWord true d)

/-- The unwritten code word (R196). -/
def unwrittenWord : Code80 := 0

/-- The syndrome: bits 13:0 of the BCH code, bit 14 the parity of all 80 bits (HM_EINFO.SYND). -/
def eccSyndrome (v : Nat) : Nat :=
  Nat.xor (eccCheck (natBit v 78) (v % 2 ^ 64)) (v / 2 ^ 64 % 2 ^ 14) + (if oddBits 80 v then 2 ^ 14 else 0)
where
  natBit (v n : Nat) : Bool := v / 2 ^ n % 2 == 1

/-- The syndrome that one wrong stored bit `j` gives: 0-63 data, 64-77 check, 78 W, 79 E. -/
def eccColumn (j : Nat) : Nat := eccSyndrome (2 ^ j)

/-- The columns of all stored bits. -/
def eccColumns : List (Nat × Nat) := (List.range 80).map (fun j => (j, eccColumn j))

/-- The error pattern of at most two bits that gives syndrome `s`, if there is one. -/
def eccLocate (cols : List (Nat × Nat)) (s : Nat) : Option Nat :=
  if s = 0 then some 0
  else match cols.find? (fun c => c.2 == s) with
    | some c => some (2 ^ c.1)
    | none => eccPair s cols
where
  /-- Two wrong bits. -/
  eccPair (s : Nat) : List (Nat × Nat) → Option Nat
    | [] => none
    | c :: rest =>
      match rest.find? (fun e => Nat.xor c.2 e.2 == s) with
      | some e => some (2 ^ c.1 + 2 ^ e.1)
      | none => eccPair s rest

/-- The results of a read (R197). -/
inductive ReadResult where
  | clean | corrected | unwritten | uncorrectable
  deriving DecidableEq, Repr

/-- A decoded word: result, data and syndrome with bit 15 the decoded W. -/
structure Decoded where
  res : ReadResult
  data : Nat
  synd : Nat
  deriving DecidableEq, Repr

/-- Decode a stored word (R197). For an Uncorrectable word no word is decoded; bit 15 of the syndrome then shows the
stored W (DEDUCED, assumption 12). -/
def decodeWord (c : Code80) : Decoded :=
  let v := c.toNat
  let s := eccSyndrome v
  let wbit := fun x : Nat => x / 2 ^ 78 % 2 == 1
  match eccLocate eccColumns s with
  | none => ⟨.uncorrectable, 0, s + (if wbit v then 2 ^ 15 else 0)⟩
  | some e =>
    let f := Nat.xor v e
    if wbit f then ⟨if e = 0 then .clean else .corrected, f % 2 ^ 64, s + 2 ^ 15⟩
    else ⟨.unwritten, 0, s⟩

/-- The result is one a writer or reader is told of as an error (R199, R204). -/
def ReadResult.bad : ReadResult → Bool
  | .unwritten => true
  | .uncorrectable => true
  | _ => false

/-- The form in which a fill, a write-back or a copy carries a stored word (R200): a Corrected word with fresh check
bits, an Unwritten or Uncorrectable word as stored. -/
def carryWord (c : Code80) : Code80 :=
  let d := decodeWord c
  match d.res with
  | .corrected => encodeWord d.data
  | _ => c

end Sys2Proof.Machine
end

