-- ==== Sys2Proof/Machine/RegMap.lean ====
section
/-! DEFINITION. The register map of the BAR2 window: one row per register table of the spec, with the fields' bit
positions, access codes (R15) and reset values (R18). Rows are grouped by block (R50); a row's addresses are
`base + i * stride + j * 4` for `i < insts` (R51) and `j < count`. -/
namespace Sys2Proof.Machine

/-- The access codes of R15. -/
inductive Acc where
  | rw | ro | wo | w1c | w1s | rc
  deriving DecidableEq, Repr

/-- One field of a register table: bits `hi:lo`, access code, reset value of the field. -/
structure RegField where
  hi : Nat
  lo : Nat
  acc : Acc
  reset : Nat
  deriving DecidableEq, Repr

/-- One register table of the spec. -/
structure RegRow where
  name : String
  base : Nat
  insts : Nat
  stride : Nat
  count : Nat
  fields : List RegField
  deriving DecidableEq, Repr

/-- The rows of block ST (R50). -/
def regRowsST : List RegRow := [
  ⟨"ST_ID", 0x0, 1, 0x100000, 1, [⟨31, 16, .ro, 0x480⟩, ⟨15, 8, .ro, 0x42⟩, ⟨7, 0, .ro, 0⟩]⟩,
  ⟨"ST_ROMLVL", 0x4, 1, 0x100000, 1, [⟨31, 16, .ro, 0xB01⟩, ⟨15, 0, .ro, 0xB01⟩]⟩,
  ⟨"ST_PATCHGEN", 0x8, 1, 0x100000, 1, [⟨31, 0, .ro, 0⟩]⟩,
  ⟨"ST_PATCHSTAT", 0xC, 1, 0x100000, 1, [⟨31, 20, .ro, 0⟩, ⟨19, 8, .ro, 0⟩, ⟨7, 7, .ro, 0⟩, ⟨6, 0, .ro, 0⟩]⟩,
  ⟨"ST_STAT", 0x10, 1, 0x100000, 1, [⟨31, 24, .ro, 0⟩, ⟨23, 4, .ro, 0⟩, ⟨3, 0, .ro, 0⟩]⟩,
  ⟨"ST_TRAP", 0x14, 1, 0x100000, 1, [⟨31, 24, .ro, 0⟩, ⟨23, 23, .ro, 0⟩, ⟨22, 19, .ro, 0⟩, ⟨18, 0, .ro, 0⟩]⟩,
  ⟨"ST_MATCH", 0x100, 1, 0x100000, 64, [⟨31, 31, .ro, 0⟩, ⟨30, 26, .ro, 0⟩, ⟨25, 15, .ro, 0⟩, ⟨14, 0, .ro, 0⟩]⟩]

/-- The rows of block TB (R50). -/
def regRowsTB : List RegRow := [
  ⟨"TB_CNT_LO", 0x10000, 1, 0x100000, 1, [⟨31, 0, .ro, 0⟩]⟩,
  ⟨"TB_CNT_HI", 0x10004, 1, 0x100000, 1, [⟨31, 0, .ro, 0⟩]⟩,
  ⟨"TB_STAT", 0x10008, 1, 0x100000, 1, [⟨31, 2, .ro, 0⟩, ⟨1, 1, .ro, 0⟩, ⟨0, 0, .w1c, 0⟩]⟩,
  ⟨"TB_SPEED", 0x1000C, 1, 0x100000, 1, [⟨31, 16, .rc, 0⟩, ⟨15, 0, .ro, 0⟩]⟩,
  ⟨"TB_MERGE", 0x10010, 1, 0x100000, 1, [⟨31, 0, .rc, 0⟩]⟩]

/-- The rows of block PW (R50). -/
def regRowsPW : List RegRow := [
  ⟨"PW_STAT", 0x20000, 1, 0x100000, 1, [⟨31, 28, .ro, 0⟩, ⟨27, 24, .ro, 0xF⟩, ⟨23, 20, .ro, 0⟩, ⟨19, 16, .ro, 0⟩, ⟨15, 9, .ro, 0⟩, ⟨8, 8, .w1c, 0⟩, ⟨7, 7, .w1c, 0⟩, ⟨6, 6, .w1c, 0⟩, ⟨5, 0, .ro, 0⟩]⟩,
  ⟨"PW_VM", 0x20004, 1, 0x100000, 1, [⟨31, 16, .rc, 0⟩, ⟨15, 0, .ro, 0⟩]⟩,
  ⟨"PW_RIDE", 0x20008, 1, 0x100000, 1, [⟨31, 16, .ro, 0⟩, ⟨15, 0, .ro, 0⟩]⟩]

/-- The rows of block AC (R50). -/
def regRowsAC : List RegRow := [
  ⟨"AC_STAT", 0x30000, 1, 0x100000, 1, [⟨31, 24, .ro, 0⟩, ⟨23, 16, .ro, 0xFF⟩, ⟨15, 12, .ro, 1⟩, ⟨11, 9, .ro, 0⟩, ⟨8, 8, .ro, 1⟩, ⟨7, 3, .ro, 0⟩, ⟨2, 2, .ro, 0⟩, ⟨1, 1, .w1c, 0⟩, ⟨0, 0, .ro, 0⟩]⟩,
  ⟨"AC_GEN", 0x30004, 1, 0x100000, 1, [⟨31, 0, .ro, 0⟩]⟩,
  ⟨"AC_SLOTGEN0", 0x30008, 1, 0x100000, 1, [⟨31, 0, .ro, 0⟩]⟩,
  ⟨"AC_SLOTGEN1", 0x3000C, 1, 0x100000, 1, [⟨31, 0, .ro, 0⟩]⟩,
  ⟨"AC_SLOTST", 0x30010, 1, 0x100000, 1, [⟨31, 7, .ro, 0⟩, ⟨6, 4, .ro, 0⟩, ⟨3, 3, .ro, 0⟩, ⟨2, 0, .ro, 0⟩]⟩,
  ⟨"AC_DIGEST", 0x30020, 1, 0x100000, 8, [⟨31, 0, .ro, 0⟩]⟩,
  ⟨"AC_CURSOR", 0x30040, 1, 0x100000, 1, [⟨31, 14, .ro, 0⟩, ⟨13, 0, .rw, 0⟩]⟩,
  ⟨"AC_LEN", 0x30044, 1, 0x100000, 1, [⟨31, 0, .ro, 0⟩]⟩,
  ⟨"AC_WIN", 0x30100, 1, 0x100000, 64, [⟨31, 0, .ro, 0⟩]⟩]

/-- The rows of block HE (R50). -/
def regRowsHE : List RegRow := [
  ⟨"HE_STAT", 0x40000, 24, 0x1000, 1, [⟨31, 24, .ro, 0⟩, ⟨23, 16, .ro, 0⟩, ⟨15, 8, .ro, 0⟩, ⟨7, 5, .ro, 0⟩, ⟨4, 4, .w1c, 0⟩, ⟨3, 3, .ro, 0⟩, ⟨2, 0, .ro, 0⟩]⟩,
  ⟨"HE_ROLE", 0x40004, 24, 0x1000, 1, [⟨31, 16, .ro, 0⟩, ⟨15, 8, .ro, 0⟩, ⟨7, 0, .ro, 0⟩]⟩,
  ⟨"HE_VER", 0x40008, 24, 0x1000, 1, [⟨31, 16, .ro, 0xB01⟩, ⟨15, 6, .ro, 0⟩, ⟨5, 0, .ro, 0⟩]⟩,
  ⟨"HE_PATCHGEN", 0x4000C, 24, 0x1000, 1, [⟨31, 0, .ro, 0⟩]⟩,
  ⟨"HE_FAULT", 0x40010, 24, 0x1000, 1, [⟨31, 24, .ro, 0⟩, ⟨23, 22, .ro, 0⟩, ⟨21, 13, .ro, 0⟩, ⟨12, 0, .ro, 0⟩]⟩,
  ⟨"HE_MSGCNT", 0x40014, 24, 0x1000, 1, [⟨31, 16, .rc, 0⟩, ⟨15, 0, .rc, 0⟩]⟩,
  ⟨"HE_MATCH", 0x40100, 24, 0x1000, 32, [⟨31, 31, .ro, 0⟩, ⟨30, 27, .ro, 0⟩, ⟨26, 23, .ro, 0⟩, ⟨22, 10, .ro, 0⟩, ⟨9, 9, .ro, 0⟩, ⟨8, 0, .ro, 0⟩]⟩]

/-- The rows of block HM (R50). -/
def regRowsHM : List RegRow := [
  ⟨"HM_STAT", 0x60000, 1, 0x100000, 1, [⟨31, 9, .ro, 0⟩, ⟨8, 8, .ro, 0⟩, ⟨7, 4, .ro, 0⟩, ⟨3, 0, .ro, 0⟩]⟩,
  ⟨"HM_ECNT", 0x60010, 1, 0x100000, 4, [⟨31, 16, .rc, 0⟩, ⟨15, 8, .rc, 0⟩, ⟨7, 0, .rc, 0⟩]⟩,
  ⟨"HM_SECNT", 0x60020, 1, 0x100000, 1, [⟨31, 16, .rc, 0⟩, ⟨15, 8, .rc, 0⟩, ⟨7, 0, .rc, 0⟩]⟩,
  ⟨"HM_EADDR_LO", 0x60030, 1, 0x100000, 1, [⟨31, 0, .ro, 0⟩]⟩,
  ⟨"HM_EADDR_HI", 0x60034, 1, 0x100000, 1, [⟨31, 0, .ro, 0⟩]⟩,
  ⟨"HM_EINFO", 0x60038, 1, 0x100000, 1, [⟨31, 31, .w1c, 0⟩, ⟨30, 28, .ro, 0⟩, ⟨27, 24, .ro, 0⟩, ⟨23, 16, .ro, 0⟩, ⟨15, 0, .ro, 0⟩]⟩,
  ⟨"HM_RGNBASE", 0x60040, 1, 0x100000, 4, [⟨31, 17, .ro, 0⟩, ⟨16, 0, .ro, 0⟩]⟩,
  ⟨"HM_RGNSIZE", 0x60050, 1, 0x100000, 4, [⟨31, 17, .ro, 0⟩, ⟨16, 0, .ro, 0⟩]⟩,
  ⟨"HM_BLTCTL", 0x60100, 1, 0x100000, 1, [⟨31, 31, .ro, 0⟩, ⟨30, 10, .ro, 0⟩, ⟨9, 9, .w1c, 0⟩, ⟨8, 8, .w1c, 0⟩, ⟨7, 6, .rw, 0⟩, ⟨5, 3, .ro, 0⟩, ⟨2, 0, .wo, 0⟩]⟩,
  ⟨"HM_BLTADDR", 0x60104, 1, 0x100000, 1, [⟨31, 11, .ro, 0⟩, ⟨10, 0, .rw, 0⟩]⟩,
  ⟨"HM_BLTD_LO", 0x60108, 1, 0x100000, 1, [⟨31, 0, .rw, 0⟩]⟩,
  ⟨"HM_BLTD_HI", 0x6010C, 1, 0x100000, 1, [⟨31, 0, .rw, 0⟩]⟩,
  ⟨"HM_BLTC", 0x60110, 1, 0x100000, 1, [⟨31, 19, .ro, 0⟩, ⟨18, 16, .ro, 0⟩, ⟨15, 0, .rw, 0⟩]⟩]

/-- The rows of block MJ (R50). -/
def regRowsMJ : List RegRow := [
  ⟨"MJ_STAT", 0x70000, 1, 0x100000, 1, [⟨31, 5, .ro, 0⟩, ⟨4, 4, .ro, 0⟩, ⟨3, 0, .ro, 0⟩]⟩,
  ⟨"MJ_ECNT", 0x70004, 1, 0x100000, 1, [⟨31, 16, .rc, 0⟩, ⟨15, 8, .rc, 0⟩, ⟨7, 0, .rc, 0⟩]⟩,
  ⟨"MJ_EADDR", 0x70008, 1, 0x100000, 1, [⟨31, 30, .ro, 0⟩, ⟨29, 0, .ro, 0⟩]⟩,
  ⟨"MJ_EINFO", 0x7000C, 1, 0x100000, 1, [⟨31, 31, .w1c, 0⟩, ⟨30, 28, .ro, 0⟩, ⟨27, 24, .ro, 0⟩, ⟨23, 16, .ro, 0⟩, ⟨15, 0, .ro, 0⟩]⟩,
  ⟨"MJ_WEAR", 0x70010, 1, 0x100000, 1, [⟨31, 16, .ro, 0⟩, ⟨15, 0, .ro, 0⟩]⟩]

/-- The rows of block CA (R50). -/
def regRowsCA : List RegRow := [
  ⟨"CA_STAT", 0x80000, 1, 0x100000, 1, [⟨31, 31, .ro, 0⟩, ⟨30, 30, .ro, 0⟩, ⟨29, 21, .ro, 0⟩, ⟨20, 16, .ro, 0⟩, ⟨15, 10, .ro, 0⟩, ⟨9, 5, .ro, 0⟩, ⟨4, 0, .ro, 0⟩]⟩,
  ⟨"CA_HIT", 0x80004, 1, 0x100000, 1, [⟨31, 0, .rc, 0⟩]⟩,
  ⟨"CA_MISS", 0x80008, 1, 0x100000, 1, [⟨31, 0, .rc, 0⟩]⟩,
  ⟨"CA_EVHIT", 0x8000C, 1, 0x100000, 1, [⟨31, 16, .rc, 0⟩, ⟨15, 0, .rc, 0⟩]⟩,
  ⟨"CA_PF", 0x80010, 1, 0x100000, 1, [⟨31, 16, .rc, 0⟩, ⟨15, 0, .rc, 0⟩]⟩,
  ⟨"CA_PFDROP", 0x80014, 1, 0x100000, 1, [⟨31, 16, .ro, 0⟩, ⟨15, 0, .rc, 0⟩]⟩,
  ⟨"CA_ECNT", 0x80018, 1, 0x100000, 1, [⟨31, 16, .rc, 0⟩, ⟨15, 8, .rc, 0⟩, ⟨7, 0, .rc, 0⟩]⟩,
  ⟨"CA_EADDR_LO", 0x80020, 1, 0x100000, 1, [⟨31, 0, .ro, 0⟩]⟩,
  ⟨"CA_EADDR_HI", 0x80024, 1, 0x100000, 1, [⟨31, 0, .ro, 0⟩]⟩,
  ⟨"CA_EINFO", 0x80028, 1, 0x100000, 1, [⟨31, 31, .w1c, 0⟩, ⟨30, 29, .ro, 0⟩, ⟨28, 24, .ro, 0⟩, ⟨23, 16, .ro, 0⟩, ⟨15, 0, .ro, 0⟩]⟩]

/-- The rows of block DM (R50). -/
def regRowsDM : List RegRow := [
  ⟨"DM_ACT", 0x90000, 1, 0x100000, 1, [⟨31, 0, .ro, 0⟩]⟩,
  ⟨"DM_CHx_STAT", 0x91000, 64, 0x40, 1, [⟨31, 28, .ro, 0⟩, ⟨27, 5, .ro, 0⟩, ⟨4, 4, .ro, 0⟩, ⟨3, 3, .ro, 0⟩, ⟨2, 0, .ro, 0⟩]⟩,
  ⟨"DM_CHx_SRC_LO", 0x91004, 64, 0x40, 1, [⟨31, 0, .ro, 0⟩]⟩,
  ⟨"DM_CHx_SRC_HI", 0x91008, 64, 0x40, 1, [⟨31, 0, .ro, 0⟩]⟩,
  ⟨"DM_CHx_DST_LO", 0x9100C, 64, 0x40, 1, [⟨31, 0, .ro, 0⟩]⟩,
  ⟨"DM_CHx_DST_HI", 0x91010, 64, 0x40, 1, [⟨31, 0, .ro, 0⟩]⟩,
  ⟨"DM_CHx_LEN", 0x91014, 64, 0x40, 1, [⟨31, 24, .ro, 0⟩, ⟨23, 0, .ro, 0⟩]⟩,
  ⟨"DM_CHx_CTL", 0x91018, 64, 0x40, 1, [⟨31, 31, .ro, 0⟩, ⟨30, 28, .ro, 0⟩, ⟨27, 24, .ro, 0⟩, ⟨23, 20, .ro, 0⟩, ⟨19, 5, .ro, 0⟩, ⟨4, 0, .ro, 0⟩]⟩,
  ⟨"DM_CHx_SHORT", 0x9101C, 64, 0x40, 1, [⟨31, 0, .rc, 0⟩]⟩,
  ⟨"DM_CHx_HALTS", 0x91020, 64, 0x40, 1, [⟨31, 16, .ro, 0⟩, ⟨15, 0, .rc, 0⟩]⟩]

/-- The rows of block SP (R50). -/
def regRowsSP : List RegRow := [
  ⟨"SP_STAT", 0xA0000, 1, 0x100000, 1, [⟨31, 20, .ro, 0⟩, ⟨19, 16, .ro, 0⟩, ⟨15, 13, .ro, 0⟩, ⟨12, 12, .ro, 0⟩, ⟨11, 10, .ro, 0⟩, ⟨9, 9, .ro, 0⟩, ⟨8, 8, .ro, 0⟩, ⟨7, 7, .ro, 0⟩, ⟨6, 6, .ro, 0⟩, ⟨5, 5, .ro, 0⟩, ⟨4, 4, .ro, 0⟩, ⟨3, 0, .ro, 0⟩]⟩,
  ⟨"SP_SPEED", 0xA0004, 1, 0x100000, 1, [⟨31, 16, .ro, 0⟩, ⟨15, 0, .ro, 0⟩]⟩,
  ⟨"SP_TARGET", 0xA0008, 1, 0x100000, 1, [⟨31, 16, .ro, 0⟩, ⟨15, 0, .ro, 0⟩]⟩,
  ⟨"SP_SRCVAL", 0xA000C, 1, 0x100000, 1, [⟨31, 31, .ro, 0⟩, ⟨30, 24, .ro, 0⟩, ⟨23, 0, .ro, 0⟩]⟩,
  ⟨"SP_FAULT", 0xA0010, 1, 0x100000, 1, [⟨31, 9, .ro, 0⟩, ⟨8, 8, .w1c, 0⟩, ⟨7, 7, .w1c, 0⟩, ⟨6, 6, .w1c, 0⟩, ⟨5, 5, .w1c, 0⟩, ⟨4, 4, .w1c, 0⟩, ⟨3, 3, .w1c, 0⟩, ⟨2, 2, .w1c, 0⟩, ⟨1, 1, .w1c, 0⟩, ⟨0, 0, .w1c, 0⟩]⟩,
  ⟨"SP_CURR", 0xA0014, 1, 0x100000, 1, [⟨31, 16, .ro, 0⟩, ⟨15, 0, .ro, 0⟩]⟩,
  ⟨"SP_DIST", 0xA0018, 1, 0x100000, 1, [⟨31, 0, .rc, 0⟩]⟩,
  ⟨"SP_CATCH", 0xA001C, 1, 0x100000, 1, [⟨31, 30, .ro, 0⟩, ⟨29, 29, .ro, 0⟩, ⟨28, 16, .ro, 0⟩, ⟨15, 0, .ro, 0⟩]⟩,
  ⟨"SP_BRK", 0xA0020, 1, 0x100000, 1, [⟨31, 16, .ro, 0⟩, ⟨15, 0, .rc, 0⟩]⟩]

/-- The rows of block SV (R50). -/
def regRowsSV : List RegRow := [
  ⟨"SV_STAT", 0xB0000, 2, 0x8000, 1, [⟨31, 24, .ro, 0⟩, ⟨23, 20, .ro, 0xF⟩, ⟨19, 16, .ro, 0⟩, ⟨15, 12, .ro, 0⟩, ⟨11, 10, .ro, 0⟩, ⟨9, 9, .ro, 0⟩, ⟨8, 7, .ro, 0⟩, ⟨6, 4, .ro, 0⟩, ⟨3, 0, .ro, 0⟩]⟩,
  ⟨"SV_WEDGE", 0xB0004, 2, 0x8000, 1, [⟨31, 16, .ro, 0⟩, ⟨15, 9, .ro, 0⟩, ⟨8, 0, .ro, 0⟩]⟩,
  ⟨"SV_TARGET", 0xB0008, 2, 0x8000, 1, [⟨31, 24, .ro, 0⟩, ⟨23, 0, .ro, 0⟩]⟩,
  ⟨"SV_PES", 0xB0010, 2, 0x8000, 4, [⟨31, 31, .ro, 0⟩, ⟨30, 28, .ro, 0⟩, ⟨27, 24, .ro, 0⟩, ⟨23, 16, .ro, 0⟩, ⟨15, 0, .ro, 0⟩]⟩,
  ⟨"SV_PESWIN", 0xB0020, 2, 0x8000, 4, [⟨31, 24, .ro, 0⟩, ⟨23, 16, .ro, 0⟩, ⟨15, 8, .ro, 0⟩, ⟨7, 0, .ro, 0⟩]⟩,
  ⟨"SV_MA", 0xB0030, 2, 0x8000, 4, [⟨31, 31, .ro, 0⟩, ⟨30, 24, .ro, 0⟩, ⟨23, 16, .rc, 0⟩, ⟨15, 0, .ro, 0⟩]⟩,
  ⟨"SV_VCM", 0xB0040, 2, 0x8000, 1, [⟨31, 16, .ro, 0⟩, ⟨15, 0, .ro, 0⟩]⟩,
  ⟨"SV_EVT", 0xB0044, 2, 0x8000, 1, [⟨31, 16, .rc, 0⟩, ⟨15, 0, .rc, 0⟩]⟩,
  ⟨"SV_WDOG", 0xB0048, 2, 0x8000, 1, [⟨31, 18, .ro, 0⟩, ⟨17, 17, .w1c, 0⟩, ⟨16, 16, .w1c, 0⟩, ⟨15, 0, .rc, 0⟩]⟩,
  ⟨"SV_SLACK", 0xB004C, 2, 0x8000, 1, [⟨31, 16, .rc, 0xFFFF⟩, ⟨15, 0, .rc, 0xFFFF⟩]⟩,
  ⟨"SV_INHREASON", 0xB0050, 2, 0x8000, 1, [⟨31, 8, .ro, 0⟩, ⟨7, 4, .ro, 0⟩, ⟨3, 0, .ro, 0⟩]⟩,
  ⟨"SV_FAULT", 0xB0054, 2, 0x8000, 1, [⟨31, 8, .ro, 0⟩, ⟨7, 7, .w1c, 0⟩, ⟨6, 6, .w1c, 0⟩, ⟨5, 5, .w1c, 0⟩, ⟨4, 4, .w1c, 0⟩, ⟨3, 3, .w1c, 0⟩, ⟨2, 2, .w1c, 0⟩, ⟨1, 1, .w1c, 0⟩, ⟨0, 0, .w1c, 0⟩]⟩,
  ⟨"SV_RRO", 0xB0058, 2, 0x8000, 1, [⟨31, 12, .ro, 0⟩, ⟨11, 8, .ro, 0⟩, ⟨7, 4, .ro, 0⟩, ⟨3, 0, .ro, 0⟩]⟩,
  ⟨"SV_FF", 0xB005C, 2, 0x8000, 1, [⟨31, 16, .rc, 0⟩, ⟨15, 0, .rc, 0⟩]⟩,
  ⟨"SV_HEADOK", 0xB0060, 2, 0x8000, 1, [⟨31, 16, .ro, 0⟩, ⟨15, 0, .ro, 0⟩]⟩]

/-- The rows of block AS (R50). -/
def regRowsAS : List RegRow := [
  ⟨"AS_STAT", 0xC0000, 2, 0x8000, 1, [⟨31, 16, .ro, 0⟩, ⟨15, 12, .ro, 0⟩, ⟨11, 8, .ro, 0⟩, ⟨7, 2, .ro, 0⟩, ⟨1, 0, .ro, 0⟩]⟩,
  ⟨"AS_SLOT0", 0xC0004, 2, 0x8000, 1, [⟨31, 20, .ro, 0⟩, ⟨19, 16, .ro, 0⟩, ⟨15, 12, .ro, 0⟩, ⟨11, 0, .ro, 0⟩]⟩,
  ⟨"AS_SLOT1", 0xC0008, 2, 0x8000, 1, [⟨31, 20, .ro, 0⟩, ⟨19, 16, .ro, 0⟩, ⟨15, 12, .ro, 0⟩, ⟨11, 0, .ro, 0⟩]⟩,
  ⟨"AS_MON0", 0xC0010, 2, 0x8000, 1, [⟨31, 16, .ro, 0⟩, ⟨15, 0, .ro, 0⟩]⟩,
  ⟨"AS_MON1", 0xC0014, 2, 0x8000, 1, [⟨31, 16, .ro, 0⟩, ⟨15, 0, .ro, 0⟩]⟩,
  ⟨"AS_TEMP0", 0xC0018, 2, 0x8000, 1, [⟨31, 16, .ro, 0⟩, ⟨15, 0, .ro, 0⟩]⟩,
  ⟨"AS_TEMP1", 0xC001C, 2, 0x8000, 1, [⟨31, 16, .ro, 0⟩, ⟨15, 0, .ro, 0⟩]⟩,
  ⟨"AS_BUDGET", 0xC0020, 2, 0x8000, 1, [⟨31, 16, .ro, 0⟩, ⟨15, 0, .ro, 0⟩]⟩,
  ⟨"AS_TINT", 0xC0024, 2, 0x8000, 1, [⟨31, 31, .ro, 0⟩, ⟨30, 8, .ro, 0⟩, ⟨7, 0, .ro, 0⟩]⟩,
  ⟨"AS_FAULT", 0xC0028, 2, 0x8000, 1, [⟨31, 7, .ro, 0⟩, ⟨6, 6, .w1c, 0⟩, ⟨5, 5, .w1c, 0⟩, ⟨4, 4, .w1c, 0⟩, ⟨3, 3, .w1c, 0⟩, ⟨2, 2, .w1c, 0⟩, ⟨1, 1, .w1c, 0⟩, ⟨0, 0, .w1c, 0⟩]⟩,
  ⟨"AS_EVT", 0xC002C, 2, 0x8000, 1, [⟨31, 16, .rc, 0⟩, ⟨15, 0, .rc, 0⟩]⟩,
  ⟨"AS_ABORT", 0xC0030, 2, 0x8000, 1, [⟨31, 16, .rc, 0⟩, ⟨15, 0, .rc, 0⟩]⟩,
  ⟨"AS_WDIS", 0xC0034, 2, 0x8000, 1, [⟨31, 16, .ro, 0⟩, ⟨15, 0, .ro, 0⟩]⟩,
  ⟨"AS_WSSTAT0", 0xC0100, 2, 0x8000, 1, [⟨31, 20, .ro, 0⟩, ⟨19, 16, .ro, 0⟩, ⟨15, 12, .ro, 0⟩, ⟨11, 8, .ro, 0xF⟩, ⟨7, 3, .ro, 0⟩, ⟨2, 0, .ro, 0⟩]⟩,
  ⟨"AS_WSSTAT1", 0xC0104, 2, 0x8000, 1, [⟨31, 20, .ro, 0⟩, ⟨19, 16, .ro, 0⟩, ⟨15, 12, .ro, 0⟩, ⟨11, 8, .ro, 0xF⟩, ⟨7, 3, .ro, 0⟩, ⟨2, 0, .ro, 0⟩]⟩,
  ⟨"AS_WSPRE0", 0xC0108, 2, 0x8000, 1, [⟨31, 16, .ro, 0⟩, ⟨15, 8, .ro, 0⟩, ⟨7, 0, .ro, 0⟩]⟩,
  ⟨"AS_WSPRE1", 0xC010C, 2, 0x8000, 1, [⟨31, 16, .ro, 0⟩, ⟨15, 8, .ro, 0⟩, ⟨7, 0, .ro, 0⟩]⟩,
  ⟨"AS_WSCNT0", 0xC0110, 2, 0x8000, 1, [⟨31, 16, .rc, 0⟩, ⟨15, 0, .rc, 0⟩]⟩,
  ⟨"AS_WSCNT1", 0xC0114, 2, 0x8000, 1, [⟨31, 16, .rc, 0⟩, ⟨15, 0, .rc, 0⟩]⟩,
  ⟨"AS_WSUNDR", 0xC0118, 2, 0x8000, 1, [⟨31, 16, .rc, 0⟩, ⟨15, 0, .rc, 0⟩]⟩]

/-- The rows of block LN (R50). -/
def regRowsLN : List RegRow := [
  ⟨"LN_STAT", 0xD0000, 9, 0x1000, 1, [⟨31, 28, .ro, 0⟩, ⟨27, 24, .ro, 0xF⟩, ⟨23, 20, .ro, 0⟩, ⟨19, 19, .ro, 0⟩, ⟨18, 18, .ro, 0⟩, ⟨17, 17, .ro, 0⟩, ⟨16, 16, .ro, 0⟩, ⟨15, 12, .ro, 0⟩, ⟨11, 8, .ro, 0xF⟩, ⟨7, 3, .ro, 0⟩, ⟨2, 0, .ro, 0⟩]⟩,
  ⟨"LN_RATE", 0xD0004, 9, 0x1000, 1, [⟨31, 24, .ro, 0⟩, ⟨23, 16, .ro, 0⟩, ⟨15, 0, .ro, 0⟩]⟩,
  ⟨"LN_GAIN", 0xD0008, 9, 0x1000, 1, [⟨31, 16, .ro, 0⟩, ⟨15, 8, .ro, 0⟩, ⟨7, 0, .ro, 0⟩]⟩,
  ⟨"LN_CTF", 0xD000C, 9, 0x1000, 1, [⟨31, 16, .ro, 0⟩, ⟨15, 8, .ro, 0⟩, ⟨7, 0, .ro, 0⟩]⟩,
  ⟨"LN_ADC", 0xD0010, 9, 0x1000, 1, [⟨31, 29, .ro, 0⟩, ⟨28, 22, .ro, 0⟩, ⟨21, 15, .ro, 0⟩, ⟨14, 8, .ro, 0⟩, ⟨7, 0, .ro, 0⟩]⟩,
  ⟨"LN_SYNC", 0xD0014, 9, 0x1000, 1, [⟨31, 24, .ro, 0⟩, ⟨23, 16, .ro, 0⟩, ⟨15, 8, .ro, 0⟩, ⟨7, 6, .ro, 0⟩, ⟨5, 0, .ro, 0x1C⟩]⟩,
  ⟨"LN_FIR", 0xD0020, 9, 0x1000, 8, [⟨31, 26, .ro, 0⟩, ⟨25, 16, .ro, 0⟩, ⟨15, 10, .ro, 0⟩, ⟨9, 0, .ro, 0⟩]⟩,
  ⟨"LN_FRAMES", 0xD0040, 9, 0x1000, 1, [⟨31, 0, .rc, 0⟩]⟩,
  ⟨"LN_SYNCEV", 0xD0044, 9, 0x1000, 1, [⟨31, 16, .rc, 0⟩, ⟨15, 0, .rc, 0⟩]⟩,
  ⟨"LN_OVR", 0xD0048, 9, 0x1000, 1, [⟨31, 16, .rc, 0⟩, ⟨15, 0, .rc, 0⟩]⟩,
  ⟨"LN_ERASED", 0xD004C, 9, 0x1000, 1, [⟨31, 0, .rc, 0⟩]⟩]

/-- The rows of block DD (R50). -/
def regRowsDD : List RegRow := [
  ⟨"DD_STAT", 0xE0000, 1, 0x100000, 1, [⟨31, 27, .ro, 0⟩, ⟨26, 16, .ro, 0⟩, ⟨15, 12, .ro, 0⟩, ⟨11, 8, .ro, 0⟩, ⟨7, 4, .ro, 0⟩, ⟨3, 3, .ro, 0⟩, ⟨2, 0, .ro, 0⟩]⟩,
  ⟨"DD_UNIT", 0xE0010, 1, 0x100000, 4, [⟨31, 28, .ro, 0⟩, ⟨27, 24, .ro, 0⟩, ⟨23, 16, .ro, 0⟩, ⟨15, 11, .ro, 0⟩, ⟨10, 0, .ro, 0⟩]⟩,
  ⟨"DD_INLINE", 0xE0020, 1, 0x100000, 1, [⟨31, 16, .rc, 0⟩, ⟨15, 0, .rc, 0⟩]⟩,
  ⟨"DD_ESC", 0xE0024, 1, 0x100000, 1, [⟨31, 16, .rc, 0⟩, ⟨15, 0, .rc, 0⟩]⟩,
  ⟨"DD_OKFIX", 0xE0028, 1, 0x100000, 1, [⟨31, 16, .rc, 0⟩, ⟨15, 0, .rc, 0⟩]⟩,
  ⟨"DD_OKOFF", 0xE002C, 1, 0x100000, 1, [⟨31, 16, .ro, 0⟩, ⟨15, 0, .rc, 0⟩]⟩,
  ⟨"DD_OKSTEP", 0xE0030, 1, 0x100000, 4, [⟨31, 16, .rc, 0⟩, ⟨15, 0, .rc, 0⟩]⟩,
  ⟨"DD_REREAD", 0xE0040, 1, 0x100000, 1, [⟨31, 16, .rc, 0⟩, ⟨15, 0, .rc, 0⟩]⟩,
  ⟨"DD_FAILS", 0xE0044, 1, 0x100000, 1, [⟨31, 16, .rc, 0⟩, ⟨15, 0, .rc, 0⟩]⟩,
  ⟨"DD_UNREAD", 0xE0048, 1, 0x100000, 1, [⟨31, 16, .rc, 0⟩, ⟨15, 0, .rc, 0⟩]⟩,
  ⟨"DD_SS", 0xE0050, 1, 0x100000, 1, [⟨31, 16, .ro, 0⟩, ⟨15, 14, .ro, 0⟩, ⟨13, 0, .ro, 0⟩]⟩,
  ⟨"DD_SSAGE", 0xE0054, 1, 0x100000, 1, [⟨31, 16, .rc, 0xFFFF⟩, ⟨15, 0, .ro, 0⟩]⟩,
  ⟨"DD_SSLOSS", 0xE0058, 1, 0x100000, 1, [⟨31, 16, .rc, 0⟩, ⟨15, 0, .rc, 0⟩]⟩,
  ⟨"DD_IDXPTR", 0xE005C, 1, 0x100000, 1, [⟨31, 17, .ro, 0⟩, ⟨16, 0, .ro, 0⟩]⟩,
  ⟨"DD_UNITRST", 0xE0060, 1, 0x100000, 1, [⟨31, 16, .ro, 0⟩, ⟨15, 0, .rc, 0⟩]⟩]

/-- The rows of block CL (R50). -/
def regRowsCL : List RegRow := [
  ⟨"CL_STAT", 0xF0000, 1, 0x100000, 1, [⟨31, 24, .ro, 0⟩, ⟨23, 20, .ro, 0⟩, ⟨19, 16, .ro, 0xF⟩, ⟨15, 11, .ro, 0⟩, ⟨10, 10, .ro, 0⟩, ⟨9, 9, .ro, 0⟩, ⟨8, 0, .ro, 0x1FF⟩]⟩,
  ⟨"CL_SEQ", 0xF0004, 1, 0x100000, 1, [⟨31, 0, .ro, 0⟩]⟩,
  ⟨"CL_RUNS", 0xF0008, 1, 0x100000, 1, [⟨31, 16, .rc, 0⟩, ⟨15, 0, .rc, 0⟩]⟩,
  ⟨"CL_ABAND", 0xF000C, 1, 0x100000, 1, [⟨31, 16, .ro, 0⟩, ⟨15, 0, .rc, 0⟩]⟩,
  ⟨"CL_LAST", 0xF0010, 1, 0x100000, 9, [⟨31, 24, .ro, 0⟩, ⟨23, 16, .ro, 0⟩, ⟨15, 12, .ro, 0⟩, ⟨11, 6, .ro, 0⟩, ⟨5, 4, .ro, 0⟩, ⟨3, 0, .ro, 0⟩]⟩,
  ⟨"CL_CSEL", 0xF0040, 1, 0x100000, 1, [⟨31, 16, .ro, 0⟩, ⟨15, 12, .rw, 0⟩, ⟨11, 9, .ro, 0⟩, ⟨8, 8, .rw, 0⟩, ⟨7, 5, .ro, 0⟩, ⟨4, 0, .rw, 0⟩]⟩,
  ⟨"CL_CS0", 0xF0044, 1, 0x100000, 1, [⟨31, 31, .ro, 0⟩, ⟨30, 30, .ro, 0⟩, ⟨29, 24, .ro, 0⟩, ⟨23, 16, .ro, 0⟩, ⟨15, 8, .ro, 0⟩, ⟨7, 0, .ro, 0⟩]⟩,
  ⟨"CL_CS1", 0xF0048, 1, 0x100000, 1, [⟨31, 26, .ro, 0⟩, ⟨25, 16, .ro, 0⟩, ⟨15, 10, .ro, 0⟩, ⟨9, 0, .ro, 0⟩]⟩,
  ⟨"CL_CS2", 0xF004C, 1, 0x100000, 1, [⟨31, 16, .ro, 0⟩, ⟨15, 13, .ro, 0⟩, ⟨12, 8, .ro, 0⟩, ⟨7, 5, .ro, 0⟩, ⟨4, 0, .ro, 0⟩]⟩,
  ⟨"CL_CS3", 0xF0050, 1, 0x100000, 1, [⟨31, 24, .ro, 0⟩, ⟨23, 16, .ro, 0⟩, ⟨15, 0, .ro, 0⟩]⟩,
  ⟨"CL_CSFIR", 0xF0060, 1, 0x100000, 8, [⟨31, 26, .ro, 0⟩, ⟨25, 16, .ro, 0⟩, ⟨15, 10, .ro, 0⟩, ⟨9, 0, .ro, 0⟩]⟩]

/-- The rows of block MP (R50). -/
def regRowsMP : List RegRow := [
  ⟨"MP_STAT", 0x100000, 1, 0x100000, 1, [⟨31, 28, .ro, 0⟩, ⟨27, 25, .ro, 0⟩, ⟨24, 24, .ro, 0⟩, ⟨23, 23, .w1c, 0⟩, ⟨22, 22, .w1c, 0⟩, ⟨21, 21, .ro, 0⟩, ⟨20, 20, .ro, 0⟩, ⟨19, 19, .ro, 0⟩, ⟨18, 0, .ro, 0⟩]⟩,
  ⟨"MP_NENT_LO", 0x100004, 1, 0x100000, 1, [⟨31, 0, .ro, 0⟩]⟩,
  ⟨"MP_NENT_HI", 0x100008, 1, 0x100000, 1, [⟨31, 0, .ro, 0⟩]⟩,
  ⟨"MP_JHEAD", 0x10000C, 1, 0x100000, 1, [⟨31, 18, .ro, 0⟩, ⟨17, 0, .ro, 0⟩]⟩,
  ⟨"MP_JTAIL", 0x100010, 1, 0x100000, 1, [⟨31, 18, .ro, 0⟩, ⟨17, 0, .ro, 0⟩]⟩,
  ⟨"MP_JFREE", 0x100014, 1, 0x100000, 1, [⟨31, 18, .ro, 0⟩, ⟨17, 0, .ro, 0⟩]⟩,
  ⟨"MP_JSEQ_LO", 0x100018, 1, 0x100000, 1, [⟨31, 0, .ro, 0⟩]⟩,
  ⟨"MP_JSEQ_HI", 0x10001C, 1, 0x100000, 1, [⟨31, 0, .ro, 0⟩]⟩,
  ⟨"MP_CKPT", 0x100020, 1, 0x100000, 1, [⟨31, 16, .ro, 0⟩, ⟨15, 0, .ro, 0⟩]⟩,
  ⟨"MP_ROOTGEN", 0x100024, 1, 0x100000, 1, [⟨31, 0, .ro, 0⟩]⟩,
  ⟨"MP_FREE", 0x100028, 1, 0x100000, 1, [⟨31, 10, .ro, 0⟩, ⟨9, 0, .ro, 0⟩]⟩,
  ⟨"MP_CLEAN", 0x10002C, 1, 0x100000, 1, [⟨31, 0, .rc, 0⟩]⟩,
  ⟨"MP_CLSETS", 0x100030, 1, 0x100000, 1, [⟨31, 16, .ro, 0⟩, ⟨15, 0, .rc, 0⟩]⟩,
  ⟨"MP_REPLAY", 0x100034, 1, 0x100000, 1, [⟨31, 16, .ro, 0⟩, ⟨15, 0, .ro, 0⟩]⟩,
  ⟨"MP_SPILL", 0x100038, 1, 0x100000, 1, [⟨31, 16, .rc, 0⟩, ⟨15, 0, .rc, 0⟩]⟩]

/-- The rows of block PX (R50). -/
def regRowsPX : List RegRow := [
  ⟨"PX_STAT", 0x110000, 1, 0x100000, 1, [⟨31, 31, .ro, 0⟩, ⟨30, 30, .ro, 0⟩, ⟨29, 29, .ro, 0⟩, ⟨28, 28, .ro, 0⟩, ⟨27, 16, .ro, 0⟩, ⟨15, 8, .ro, 0⟩, ⟨7, 0, .ro, 0⟩]⟩,
  ⟨"PX_FAILED", 0x110004, 1, 0x100000, 1, [⟨31, 0, .ro, 0⟩]⟩,
  ⟨"PX_WDIS", 0x110008, 1, 0x100000, 1, [⟨31, 0, .ro, 0⟩]⟩,
  ⟨"PX_RBPOS", 0x11000C, 1, 0x100000, 1, [⟨31, 24, .ro, 0xFF⟩, ⟨23, 0, .ro, 0⟩]⟩,
  ⟨"PX_RBDONE", 0x110010, 1, 0x100000, 1, [⟨31, 0, .ro, 0⟩]⟩,
  ⟨"PX_RBLEFT", 0x110014, 1, 0x100000, 1, [⟨31, 0, .ro, 0⟩]⟩,
  ⟨"PX_DEGRD", 0x110018, 1, 0x100000, 1, [⟨31, 16, .rc, 0⟩, ⟨15, 0, .rc, 0⟩]⟩,
  ⟨"PX_LOST", 0x11001C, 1, 0x100000, 1, [⟨31, 16, .rc, 0⟩, ⟨15, 0, .rc, 0⟩]⟩,
  ⟨"PX_PATROL", 0x110020, 1, 0x100000, 1, [⟨31, 31, .ro, 0⟩, ⟨30, 24, .ro, 0⟩, ⟨23, 0, .ro, 0⟩]⟩,
  ⟨"PX_PATEVT", 0x110024, 1, 0x100000, 1, [⟨31, 16, .rc, 0⟩, ⟨15, 0, .rc, 0⟩]⟩,
  ⟨"PX_SJ", 0x110028, 1, 0x100000, 1, [⟨31, 16, .ro, 0⟩, ⟨15, 12, .ro, 0⟩, ⟨11, 0, .ro, 0⟩]⟩,
  ⟨"PX_SJDEAD", 0x11002C, 1, 0x100000, 1, [⟨31, 16, .rc, 0⟩, ⟨15, 0, .ro, 0⟩]⟩,
  ⟨"PX_SJERR", 0x110030, 1, 0x100000, 1, [⟨31, 31, .w1c, 0⟩, ⟨30, 24, .ro, 0⟩, ⟨23, 12, .rc, 0⟩, ⟨11, 0, .rc, 0⟩]⟩]

/-- The rows of block PL (R50). -/
def regRowsPL : List RegRow := [
  ⟨"PL_STAT", 0x120000, 1, 0x100000, 1, [⟨31, 28, .ro, 8⟩, ⟨27, 26, .ro, 0⟩, ⟨25, 25, .ro, 0⟩, ⟨24, 24, .ro, 0⟩, ⟨23, 23, .ro, 0⟩, ⟨22, 22, .ro, 0⟩, ⟨21, 21, .ro, 0⟩, ⟨20, 20, .ro, 0⟩, ⟨19, 18, .ro, 0⟩, ⟨17, 17, .ro, 0⟩, ⟨16, 16, .ro, 0⟩, ⟨15, 6, .ro, 0⟩, ⟨5, 0, .ro, 0⟩]⟩,
  ⟨"PL_MEMBER", 0x120004, 1, 0x100000, 1, [⟨31, 16, .ro, 0⟩, ⟨15, 0, .ro, 0⟩]⟩,
  ⟨"PL_EPOCH", 0x120008, 1, 0x100000, 1, [⟨31, 0, .ro, 0⟩]⟩,
  ⟨"PL_NMEMB", 0x12000C, 1, 0x100000, 1, [⟨31, 17, .ro, 0⟩, ⟨16, 0, .ro, 0⟩]⟩,
  ⟨"PL_NFAIL", 0x120010, 1, 0x100000, 1, [⟨31, 17, .ro, 0⟩, ⟨16, 0, .ro, 0⟩]⟩,
  ⟨"PL_LEADER", 0x120014, 1, 0x100000, 1, [⟨31, 16, .ro, 0⟩, ⟨15, 0, .ro, 0⟩]⟩,
  ⟨"PL_TOFF_LO", 0x120018, 1, 0x100000, 1, [⟨31, 0, .ro, 0⟩]⟩,
  ⟨"PL_TOFF_HI", 0x12001C, 1, 0x100000, 1, [⟨31, 0, .ro, 0⟩]⟩,
  ⟨"PL_PTP", 0x120020, 1, 0x100000, 1, [⟨31, 31, .ro, 0⟩, ⟨30, 17, .ro, 0⟩, ⟨16, 16, .ro, 0⟩, ⟨15, 0, .ro, 0⟩]⟩,
  ⟨"PL_CONTRIB", 0x120024, 1, 0x100000, 1, [⟨31, 16, .ro, 0⟩, ⟨15, 13, .ro, 0⟩, ⟨12, 0, .ro, 0⟩]⟩,
  ⟨"PL_RX", 0x120028, 1, 0x100000, 1, [⟨31, 16, .rc, 0⟩, ⟨15, 0, .rc, 0⟩]⟩,
  ⟨"PL_RB", 0x12002C, 1, 0x100000, 1, [⟨31, 16, .rc, 0⟩, ⟨15, 0, .ro, 0⟩]⟩,
  ⟨"PL_RBLEFT", 0x120030, 1, 0x100000, 1, [⟨31, 0, .ro, 0⟩]⟩,
  ⟨"PL_START", 0x120034, 1, 0x100000, 1, [⟨31, 16, .ro, 0⟩, ⟨15, 0, .ro, 0⟩]⟩]

/-- The rows of block SR (R50). -/
def regRowsSR : List RegRow := [
  ⟨"SR_IDX_LO", 0x130000, 1, 0x100000, 1, [⟨31, 0, .rw, 0⟩]⟩,
  ⟨"SR_IDX_HI", 0x130004, 1, 0x100000, 1, [⟨31, 0, .rw, 0⟩]⟩,
  ⟨"SR_NONCE", 0x130008, 1, 0x100000, 4, [⟨31, 0, .ro, 0⟩]⟩,
  ⟨"SR_ERR", 0x130018, 1, 0x100000, 1, [⟨31, 16, .rc, 0⟩, ⟨15, 4, .ro, 0⟩, ⟨3, 3, .w1c, 0⟩, ⟨2, 2, .w1c, 0⟩, ⟨1, 1, .w1c, 0⟩, ⟨0, 0, .w1c, 0⟩]⟩,
  ⟨"SR_OVF", 0x13001C, 1, 0x100000, 1, [⟨31, 8, .ro, 0⟩, ⟨7, 0, .w1c, 0⟩]⟩,
  ⟨"SR_CFGr", 0x130100, 8, 0x40, 1, [⟨31, 31, .rw, 0⟩, ⟨30, 25, .ro, 0⟩, ⟨24, 24, .rw, 0⟩, ⟨23, 21, .ro, 0⟩, ⟨20, 16, .rw, 0⟩, ⟨15, 13, .ro, 0⟩, ⟨12, 8, .rw, 0⟩, ⟨7, 1, .ro, 0⟩, ⟨0, 0, .rw, 0⟩]⟩,
  ⟨"SR_STATr", 0x130104, 8, 0x40, 1, [⟨31, 30, .ro, 0⟩, ⟨29, 24, .ro, 0⟩, ⟨23, 16, .ro, 0⟩, ⟨15, 8, .ro, 0⟩, ⟨7, 3, .ro, 0⟩, ⟨2, 0, .ro, 0⟩]⟩,
  ⟨"SR_SQBASE_LOr", 0x130108, 8, 0x40, 1, [⟨31, 0, .rw, 0⟩]⟩,
  ⟨"SR_SQBASE_HIr", 0x13010C, 8, 0x40, 1, [⟨31, 0, .rw, 0⟩]⟩,
  ⟨"SR_CQBASE_LOr", 0x130110, 8, 0x40, 1, [⟨31, 0, .rw, 0⟩]⟩,
  ⟨"SR_CQBASE_HIr", 0x130114, 8, 0x40, 1, [⟨31, 0, .rw, 0⟩]⟩,
  ⟨"SR_DBr", 0x130118, 8, 0x40, 1, [⟨31, 16, .ro, 0⟩, ⟨15, 0, .wo, 0⟩]⟩,
  ⟨"SR_PUSHCNTr", 0x13011C, 8, 0x40, 1, [⟨31, 3, .ro, 0⟩, ⟨2, 0, .wo, 0⟩]⟩]

/-- The rows of block EB (R50). -/
def regRowsEB : List RegRow := [
  ⟨"EB_STAT", 0x140000, 1, 0x100000, 1, [⟨31, 9, .ro, 0⟩, ⟨8, 8, .w1c, 0⟩, ⟨7, 7, .w1c, 0⟩, ⟨6, 6, .ro, 0⟩, ⟨5, 5, .ro, 0⟩, ⟨4, 4, .ro, 0⟩, ⟨3, 0, .ro, 0⟩]⟩,
  ⟨"EB_PLCA", 0x140004, 1, 0x100000, 1, [⟨31, 24, .ro, 0⟩, ⟨23, 16, .ro, 0x20⟩, ⟨15, 8, .ro, 0⟩, ⟨7, 0, .ro, 0xFF⟩]⟩,
  ⟨"EB_MASTER", 0x140008, 1, 0x100000, 1, [⟨31, 16, .ro, 0⟩, ⟨15, 8, .ro, 0xFF⟩, ⟨7, 0, .ro, 0xFF⟩]⟩,
  ⟨"EB_ETOFF", 0x14000C, 1, 0x100000, 1, [⟨31, 0, .ro, 0⟩]⟩,
  ⟨"EB_TOKEN", 0x140010, 1, 0x100000, 1, [⟨31, 31, .ro, 0⟩, ⟨30, 30, .ro, 0⟩, ⟨29, 24, .ro, 0⟩, ⟨23, 16, .ro, 0⟩, ⟨15, 8, .ro, 0⟩, ⟨7, 0, .ro, 0⟩]⟩,
  ⟨"EB_TX", 0x140014, 1, 0x100000, 1, [⟨31, 16, .rc, 0⟩, ⟨15, 0, .rc, 0⟩]⟩,
  ⟨"EB_RX", 0x140018, 1, 0x100000, 1, [⟨31, 16, .rc, 0⟩, ⟨15, 0, .rc, 0⟩]⟩,
  ⟨"EB_STRANGE", 0x14001C, 1, 0x100000, 1, [⟨31, 16, .rc, 0⟩, ⟨15, 0, .rc, 0⟩]⟩,
  ⟨"EB_COLL", 0x140020, 1, 0x100000, 1, [⟨31, 16, .rc, 0⟩, ⟨15, 0, .rc, 0⟩]⟩]

/-- The rows of block TH (R50). -/
def regRowsTH : List RegRow := [
  ⟨"TH_STAT", 0x150000, 1, 0x100000, 1, [⟨31, 16, .ro, 0⟩, ⟨15, 10, .ro, 0⟩, ⟨9, 9, .ro, 0⟩, ⟨8, 8, .w1c, 0⟩, ⟨7, 3, .ro, 0⟩, ⟨2, 0, .ro, 0⟩]⟩,
  ⟨"TH_PEAK", 0x150004, 1, 0x100000, 1, [⟨31, 16, .ro, 0⟩, ⟨15, 0, .rc, 0x8000⟩]⟩,
  ⟨"TH_LIMITS", 0x150008, 1, 0x100000, 1, [⟨31, 24, .ro, 5⟩, ⟨23, 16, .ro, 0x78⟩, ⟨15, 8, .ro, 0x69⟩, ⟨7, 0, .ro, 0x5F⟩]⟩,
  ⟨"TH_EXCL", 0x15000C, 1, 0x100000, 1, [⟨31, 22, .ro, 0⟩, ⟨21, 0, .ro, 0⟩]⟩,
  ⟨"TH_EVT", 0x150010, 1, 0x100000, 1, [⟨31, 16, .rc, 0⟩, ⟨15, 0, .rc, 0⟩]⟩,
  ⟨"TH_SENS", 0x150100, 1, 0x100000, 22, [⟨31, 31, .ro, 0⟩, ⟨30, 30, .ro, 0⟩, ⟨29, 16, .ro, 0⟩, ⟨15, 0, .ro, 0⟩]⟩]

/-- The rows of block SL (R50). -/
def regRowsSL : List RegRow := [
  ⟨"SL_STAT", 0x160000, 1, 0x100000, 1, [⟨31, 16, .ro, 0⟩, ⟨15, 3, .ro, 0⟩, ⟨2, 2, .ro, 0⟩, ⟨1, 1, .w1c, 0⟩, ⟨0, 0, .ro, 0⟩]⟩,
  ⟨"SL_NEXT", 0x160004, 1, 0x100000, 1, [⟨31, 23, .ro, 0⟩, ⟨22, 0, .ro, 0x1040⟩]⟩,
  ⟨"SL_GEN", 0x160008, 1, 0x100000, 1, [⟨31, 0, .ro, 0⟩]⟩,
  ⟨"SL_HOURS", 0x16000C, 1, 0x100000, 1, [⟨31, 0, .ro, 0⟩]⟩,
  ⟨"SL_PCYC", 0x160010, 1, 0x100000, 1, [⟨31, 0, .ro, 0⟩]⟩,
  ⟨"SL_UNSAFE", 0x160014, 1, 0x100000, 1, [⟨31, 0, .ro, 0⟩]⟩,
  ⟨"SL_LOST", 0x160018, 1, 0x100000, 1, [⟨31, 16, .rc, 0⟩, ⟨15, 0, .rc, 0⟩]⟩,
  ⟨"SL_SUPP", 0x16001C, 1, 0x100000, 1, [⟨31, 0, .rc, 0⟩]⟩,
  ⟨"SL_CURSOR", 0x160040, 1, 0x100000, 1, [⟨31, 23, .ro, 0⟩, ⟨22, 3, .rw, 0⟩, ⟨2, 0, .ro, 0⟩]⟩,
  ⟨"SL_WIN", 0x160100, 1, 0x100000, 64, [⟨31, 0, .ro, 0⟩]⟩]

/-- The rows of block GA (R50). -/
def regRowsGA : List RegRow := [
  ⟨"GA_ARMED_LO", 0x170000, 1, 0x100000, 1, [⟨31, 0, .ro, 0⟩]⟩,
  ⟨"GA_ARMED_HI", 0x170004, 1, 0x100000, 1, [⟨31, 0, .ro, 0⟩]⟩,
  ⟨"GA_ALARM_LO", 0x170008, 1, 0x100000, 1, [⟨31, 0, .w1c, 0⟩]⟩,
  ⟨"GA_ALARM_HI", 0x17000C, 1, 0x100000, 1, [⟨31, 0, .w1c, 0⟩]⟩,
  ⟨"GA_CTL", 0x171000, 64, 0x100, 1, [⟨31, 24, .ro, 0⟩, ⟨23, 16, .ro, 0⟩, ⟨15, 13, .ro, 0⟩, ⟨12, 8, .ro, 0⟩, ⟨7, 1, .ro, 0⟩, ⟨0, 0, .ro, 0⟩]⟩,
  ⟨"GA_GEN", 0x171004, 64, 0x100, 1, [⟨31, 0, .ro, 0⟩]⟩,
  ⟨"GA_ALARMTH", 0x171008, 64, 0x100, 1, [⟨31, 0, .ro, 0⟩]⟩,
  ⟨"GA_COUNT", 0x17100C, 64, 0x100, 1, [⟨31, 0, .ro, 0⟩]⟩,
  ⟨"GA_ARMTICK", 0x171018, 64, 0x100, 1, [⟨31, 0, .ro, 0⟩]⟩,
  ⟨"GA_MIN", 0x171010, 64, 0x100, 1, [⟨31, 0, .ro, 0x7FFFFFFF⟩]⟩,
  ⟨"GA_MAX", 0x171014, 64, 0x100, 1, [⟨31, 0, .ro, 0x80000000⟩]⟩,
  ⟨"GA_BIN", 0x171080, 64, 0x100, 32, [⟨31, 0, .ro, 0⟩]⟩]

/-- The rows of block SC (R50). -/
def regRowsSC : List RegRow := [
  ⟨"SC_STAT", 0x180000, 1, 0x100000, 1, [⟨31, 8, .ro, 0⟩, ⟨7, 7, .ro, 0⟩, ⟨6, 6, .ro, 0⟩, ⟨5, 5, .ro, 0⟩, ⟨4, 4, .ro, 0⟩, ⟨3, 3, .ro, 0⟩, ⟨2, 0, .ro, 0⟩]⟩,
  ⟨"SC_FLOORA", 0x180004, 1, 0x100000, 1, [⟨31, 0, .ro, 0⟩]⟩,
  ⟨"SC_FLOORP", 0x180008, 1, 0x100000, 1, [⟨31, 0, .ro, 0⟩]⟩,
  ⟨"SC_OTP", 0x18000C, 1, 0x100000, 1, [⟨31, 16, .ro, 0⟩, ⟨15, 8, .ro, 0x80⟩, ⟨7, 0, .ro, 0x80⟩]⟩,
  ⟨"SC_IDENT", 0x180010, 1, 0x100000, 8, [⟨31, 0, .ro, 0⟩]⟩,
  ⟨"SC_EVT", 0x180030, 1, 0x100000, 1, [⟨31, 16, .rc, 0⟩, ⟨15, 0, .rc, 0⟩]⟩]

/-- The rows of block FB (R50). -/
def regRowsFB : List RegRow := [
  ⟨"FB_STAT", 0x190000, 1, 0x100000, 1, [⟨31, 31, .ro, 0⟩, ⟨30, 30, .ro, 0⟩, ⟨29, 29, .ro, 0⟩, ⟨28, 28, .ro, 0⟩, ⟨27, 24, .ro, 0⟩, ⟨23, 16, .ro, 0⟩, ⟨15, 8, .ro, 0⟩, ⟨7, 0, .ro, 0⟩]⟩,
  ⟨"FB_BNINFO", 0x190004, 1, 0x100000, 1, [⟨31, 0, .ro, 0⟩]⟩,
  ⟨"FB_BNTICK_LO", 0x190008, 1, 0x100000, 1, [⟨31, 0, .ro, 0⟩]⟩,
  ⟨"FB_BNTICK_HI", 0x19000C, 1, 0x100000, 1, [⟨31, 0, .ro, 0⟩]⟩,
  ⟨"FB_ALERT", 0x190010, 1, 0x100000, 1, [⟨31, 9, .ro, 0⟩, ⟨8, 8, .w1c, 0⟩, ⟨7, 7, .w1c, 0⟩, ⟨6, 6, .w1c, 0⟩, ⟨5, 5, .w1c, 0⟩, ⟨4, 4, .w1c, 0⟩, ⟨3, 3, .w1c, 0⟩, ⟨2, 2, .ro, 0⟩, ⟨1, 1, .ro, 0⟩, ⟨0, 0, .ro, 0⟩]⟩,
  ⟨"FB_DOMA", 0x190020, 1, 0x100000, 1, [⟨31, 24, .ro, 0⟩, ⟨23, 16, .ro, 0⟩, ⟨15, 8, .ro, 0⟩, ⟨7, 1, .ro, 0⟩, ⟨0, 0, .ro, 0⟩]⟩,
  ⟨"FB_DOMB", 0x190024, 1, 0x100000, 1, [⟨31, 24, .ro, 0⟩, ⟨23, 16, .ro, 0⟩, ⟨15, 8, .ro, 0⟩, ⟨7, 1, .ro, 0⟩, ⟨0, 0, .ro, 0⟩]⟩,
  ⟨"FB_DOMP", 0x190028, 1, 0x100000, 1, [⟨31, 24, .ro, 0⟩, ⟨23, 16, .ro, 0⟩, ⟨15, 8, .ro, 0⟩, ⟨7, 1, .ro, 0⟩, ⟨0, 0, .ro, 0⟩]⟩,
  ⟨"FB_DOME", 0x19002C, 1, 0x100000, 1, [⟨31, 24, .ro, 0⟩, ⟨23, 16, .ro, 0⟩, ⟨15, 8, .ro, 0⟩, ⟨7, 1, .ro, 0⟩, ⟨0, 0, .ro, 0⟩]⟩,
  ⟨"FB_NOTPERM", 0x190030, 1, 0x100000, 1, [⟨31, 0, .rc, 0⟩]⟩]

/-- The rows of the block at BAR2 offset `k * 0x10000` (R50; HE takes two such places). -/
def regRowsOf (k : Nat) : List RegRow :=
  match k with
  | 0 => regRowsST
  | 1 => regRowsTB
  | 2 => regRowsPW
  | 3 => regRowsAC
  | 4 => regRowsHE
  | 5 => regRowsHE
  | 6 => regRowsHM
  | 7 => regRowsMJ
  | 8 => regRowsCA
  | 9 => regRowsDM
  | 10 => regRowsSP
  | 11 => regRowsSV
  | 12 => regRowsAS
  | 13 => regRowsLN
  | 14 => regRowsDD
  | 15 => regRowsCL
  | 16 => regRowsMP
  | 17 => regRowsPX
  | 18 => regRowsPL
  | 19 => regRowsSR
  | 20 => regRowsEB
  | 21 => regRowsTH
  | 22 => regRowsSL
  | 23 => regRowsGA
  | 24 => regRowsSC
  | 25 => regRowsFB
  | _ => []

/-- Whether `addr` is one of the row's registers. -/
def RegRow.has (r : RegRow) (addr : Nat) : Bool :=
  Nat.ble r.base addr &&
  (let d := addr - r.base
   Nat.blt (d / r.stride) r.insts && Nat.beq (d % r.stride % 4) 0 && Nat.blt (d % r.stride / 4) r.count)

/-- The row of the register at `addr`; none where the offset is unimplemented (R14) or outside every block (R52). -/
def regRow? (addr : Nat) : Option RegRow := (regRowsOf (addr / 65536)).find? (fun r => r.has addr)

/-- The reset value the row gives its registers (R18). -/
def RegRow.resetNat (r : RegRow) : Nat := r.fields.foldl (fun n f => n + f.reset * 2 ^ f.lo) 0

/-- What the register at `addr` holds after power-on reset (R18); 0 where none is implemented (R14, R52). -/
def resetWord (addr : Nat) : Word32 :=
  match regRow? addr with
  | some r => BitVec.ofNat 32 r.resetNat
  | none => 0

end Sys2Proof.Machine
end

