-- ==== Sys2Proof/Machine/RegFields.lean ====
section
/-! DEFINITION. Every field of every register table by its name in the spec (BLOCK_NAME.FIELD, R11): its register's
BAR2 address and its bits. A register of several instances takes the instance's number (helper 0-23, actuator 0 = A
and 1 = B, lane 0-7 and 8 = LS, mover channel 0-63 counted mover first, ring 0-7, gauge 0-63), and a register of an
array takes the index in it. `.REG` is the whole register. -/
namespace Sys2Proof.Machine

/-- A field of a register: the register's BAR2 address and the field's bits `hi:lo`. -/
structure Fld where
  addr : Nat
  hi : Nat
  lo : Nat
  deriving DecidableEq, Repr

def TB_CNT_LO.REG : Fld := ⟨0x10000, 31, 0⟩
def TB_CNT_LO.COUNT : Fld := ⟨0x10000, 31, 0⟩
def TB_CNT_HI.REG : Fld := ⟨0x10004, 31, 0⟩
def TB_CNT_HI.COUNT : Fld := ⟨0x10004, 31, 0⟩
def TB_STAT.REG : Fld := ⟨0x10008, 31, 0⟩
def TB_STAT.REFSRC : Fld := ⟨0x10008, 1, 1⟩
def TB_STAT.REFLOSS : Fld := ⟨0x10008, 0, 0⟩
def TB_SPEED.REG : Fld := ⟨0x1000C, 31, 0⟩
def TB_SPEED.MINRATE : Fld := ⟨0x1000C, 31, 16⟩
def TB_SPEED.RATE : Fld := ⟨0x1000C, 15, 0⟩
def TB_MERGE.REG : Fld := ⟨0x10010, 31, 0⟩
def TB_MERGE.COUNT : Fld := ⟨0x10010, 31, 0⟩
def PW_STAT.REG : Fld := ⟨0x20000, 31, 0⟩
def PW_STAT.RSTCAUSE : Fld := ⟨0x20000, 31, 28⟩
def PW_STAT.SEQRAIL : Fld := ⟨0x20000, 27, 24⟩
def PW_STAT.STATE : Fld := ⟨0x20000, 23, 20⟩
def PW_STAT.VMSTATE : Fld := ⟨0x20000, 19, 16⟩
def PW_STAT.RETRACT : Fld := ⟨0x20000, 8, 8⟩
def PW_STAT.VMLOSS : Fld := ⟨0x20000, 7, 7⟩
def PW_STAT.VMWARN : Fld := ⟨0x20000, 6, 6⟩
def PW_STAT.RAILOK : Fld := ⟨0x20000, 5, 0⟩
def PW_VM.REG : Fld := ⟨0x20004, 31, 0⟩
def PW_VM.VMIN : Fld := ⟨0x20004, 31, 16⟩
def PW_VM.VM : Fld := ⟨0x20004, 15, 0⟩
def PW_RIDE.REG : Fld := ⟨0x20008, 31, 0⟩
def PW_RIDE.COUNT : Fld := ⟨0x20008, 31, 16⟩
def PW_RIDE.LAST : Fld := ⟨0x20008, 15, 0⟩
def AC_STAT.REG : Fld := ⟨0x30000, 31, 0⟩
def AC_STAT.ERR : Fld := ⟨0x30000, 31, 24⟩
def AC_STAT.ERRSECT : Fld := ⟨0x30000, 23, 16⟩
def AC_STAT.OP : Fld := ⟨0x30000, 15, 12⟩
def AC_STAT.BUSY : Fld := ⟨0x30000, 8, 8⟩
def AC_STAT.MEDIACOPY : Fld := ⟨0x30000, 2, 2⟩
def AC_STAT.FALLBACK : Fld := ⟨0x30000, 1, 1⟩
def AC_STAT.SLOT : Fld := ⟨0x30000, 0, 0⟩
def AC_GEN.REG : Fld := ⟨0x30004, 31, 0⟩
def AC_GEN.GEN : Fld := ⟨0x30004, 31, 0⟩
def AC_SLOTGEN0.REG : Fld := ⟨0x30008, 31, 0⟩
def AC_SLOTGEN0.GEN : Fld := ⟨0x30008, 31, 0⟩
def AC_SLOTGEN1.REG : Fld := ⟨0x3000C, 31, 0⟩
def AC_SLOTGEN1.GEN : Fld := ⟨0x3000C, 31, 0⟩
def AC_SLOTST.REG : Fld := ⟨0x30010, 31, 0⟩
def AC_SLOTST.STATE1 : Fld := ⟨0x30010, 6, 4⟩
def AC_SLOTST.STATE0 : Fld := ⟨0x30010, 2, 0⟩
def AC_DIGEST.REG (j : Nat) : Fld := ⟨0x30020 + j * 4, 31, 0⟩
def AC_DIGEST.DIGEST (j : Nat) : Fld := ⟨0x30020 + j * 4, 31, 0⟩
def AC_CURSOR.REG : Fld := ⟨0x30040, 31, 0⟩
def AC_CURSOR.PAGE : Fld := ⟨0x30040, 13, 0⟩
def AC_LEN.REG : Fld := ⟨0x30044, 31, 0⟩
def AC_LEN.IMGLEN : Fld := ⟨0x30044, 31, 0⟩
def AC_WIN.REG (j : Nat) : Fld := ⟨0x30100 + j * 4, 31, 0⟩
def AC_WIN.DATA (j : Nat) : Fld := ⟨0x30100 + j * 4, 31, 0⟩
def ST_ID.REG : Fld := ⟨0x0, 31, 0⟩
def ST_ID.PART : Fld := ⟨0x0, 31, 16⟩
def ST_ID.STEP : Fld := ⟨0x0, 15, 8⟩
def ST_ID.METAL : Fld := ⟨0x0, 7, 0⟩
def ST_ROMLVL.REG : Fld := ⟨0x4, 31, 0⟩
def ST_ROMLVL.STEWARD : Fld := ⟨0x4, 31, 16⟩
def ST_ROMLVL.ROLE : Fld := ⟨0x4, 15, 0⟩
def ST_PATCHGEN.REG : Fld := ⟨0x8, 31, 0⟩
def ST_PATCHGEN.GEN : Fld := ⟨0x8, 31, 0⟩
def ST_PATCHSTAT.REG : Fld := ⟨0xC, 31, 0⟩
def ST_PATCHSTAT.UNITS : Fld := ⟨0xC, 19, 8⟩
def ST_PATCHSTAT.HALF : Fld := ⟨0xC, 7, 7⟩
def ST_PATCHSTAT.NMATCH : Fld := ⟨0xC, 6, 0⟩
def ST_STAT.REG : Fld := ⟨0x10, 31, 0⟩
def ST_STAT.TRAPS : Fld := ⟨0x10, 31, 24⟩
def ST_STAT.STATE : Fld := ⟨0x10, 3, 0⟩
def ST_TRAP.REG : Fld := ⟨0x14, 31, 0⟩
def ST_TRAP.CAUSE : Fld := ⟨0x14, 31, 24⟩
def ST_TRAP.SPACE : Fld := ⟨0x14, 23, 23⟩
def ST_TRAP.ADDR : Fld := ⟨0x14, 18, 0⟩
def ST_MATCH.REG (j : Nat) : Fld := ⟨0x100 + j * 4, 31, 0⟩
def ST_MATCH.EN (j : Nat) : Fld := ⟨0x100 + j * 4, 31, 31⟩
def ST_MATCH.PATCHADDR (j : Nat) : Fld := ⟨0x100 + j * 4, 25, 15⟩
def ST_MATCH.ROMBLK (j : Nat) : Fld := ⟨0x100 + j * 4, 14, 0⟩
def HE_STAT.REG (i : Nat) : Fld := ⟨0x40000 + i * 0x1000, 31, 0⟩
def HE_STAT.INBOX (i : Nat) : Fld := ⟨0x40000 + i * 0x1000, 23, 16⟩
def HE_STAT.ERRQ (i : Nat) : Fld := ⟨0x40000 + i * 0x1000, 15, 8⟩
def HE_STAT.ERRFULL (i : Nat) : Fld := ⟨0x40000 + i * 0x1000, 4, 4⟩
def HE_STAT.HALF (i : Nat) : Fld := ⟨0x40000 + i * 0x1000, 3, 3⟩
def HE_STAT.STATE (i : Nat) : Fld := ⟨0x40000 + i * 0x1000, 2, 0⟩
def HE_ROLE.REG (i : Nat) : Fld := ⟨0x40004 + i * 0x1000, 31, 0⟩
def HE_ROLE.ROLEGEN (i : Nat) : Fld := ⟨0x40004 + i * 0x1000, 31, 16⟩
def HE_ROLE.PARAM (i : Nat) : Fld := ⟨0x40004 + i * 0x1000, 15, 8⟩
def HE_ROLE.ROLE (i : Nat) : Fld := ⟨0x40004 + i * 0x1000, 7, 0⟩
def HE_VER.REG (i : Nat) : Fld := ⟨0x40008 + i * 0x1000, 31, 0⟩
def HE_VER.ROMLVL (i : Nat) : Fld := ⟨0x40008 + i * 0x1000, 31, 16⟩
def HE_VER.WORDS (i : Nat) : Fld := ⟨0x40008 + i * 0x1000, 15, 6⟩
def HE_VER.NMATCH (i : Nat) : Fld := ⟨0x40008 + i * 0x1000, 5, 0⟩
def HE_PATCHGEN.REG (i : Nat) : Fld := ⟨0x4000C + i * 0x1000, 31, 0⟩
def HE_PATCHGEN.GEN (i : Nat) : Fld := ⟨0x4000C + i * 0x1000, 31, 0⟩
def HE_FAULT.REG (i : Nat) : Fld := ⟨0x40010 + i * 0x1000, 31, 0⟩
def HE_FAULT.CAUSE (i : Nat) : Fld := ⟨0x40010 + i * 0x1000, 31, 24⟩
def HE_FAULT.SPACE (i : Nat) : Fld := ⟨0x40010 + i * 0x1000, 23, 22⟩
def HE_FAULT.ADDR (i : Nat) : Fld := ⟨0x40010 + i * 0x1000, 12, 0⟩
def HE_MSGCNT.REG (i : Nat) : Fld := ⟨0x40014 + i * 0x1000, 31, 0⟩
def HE_MSGCNT.STALE (i : Nat) : Fld := ⟨0x40014 + i * 0x1000, 31, 16⟩
def HE_MSGCNT.DOWN (i : Nat) : Fld := ⟨0x40014 + i * 0x1000, 15, 0⟩
def HE_MATCH.REG (i : Nat) (j : Nat) : Fld := ⟨0x40100 + i * 0x1000 + j * 4, 31, 0⟩
def HE_MATCH.EN (i : Nat) (j : Nat) : Fld := ⟨0x40100 + i * 0x1000 + j * 4, 31, 31⟩
def HE_MATCH.BANK (i : Nat) (j : Nat) : Fld := ⟨0x40100 + i * 0x1000 + j * 4, 26, 23⟩
def HE_MATCH.ROMADDR (i : Nat) (j : Nat) : Fld := ⟨0x40100 + i * 0x1000 + j * 4, 22, 10⟩
def HE_MATCH.PATCHADDR (i : Nat) (j : Nat) : Fld := ⟨0x40100 + i * 0x1000 + j * 4, 8, 0⟩
def HM_STAT.REG : Fld := ⟨0x60000, 31, 0⟩
def HM_STAT.FILLDONE : Fld := ⟨0x60000, 8, 8⟩
def HM_STAT.SREF : Fld := ⟨0x60000, 7, 4⟩
def HM_STAT.READY : Fld := ⟨0x60000, 3, 0⟩
def HM_ECNT.REG (j : Nat) : Fld := ⟨0x60010 + j * 4, 31, 0⟩
def HM_ECNT.CE (j : Nat) : Fld := ⟨0x60010 + j * 4, 31, 16⟩
def HM_ECNT.UE (j : Nat) : Fld := ⟨0x60010 + j * 4, 15, 8⟩
def HM_ECNT.UNW (j : Nat) : Fld := ⟨0x60010 + j * 4, 7, 0⟩
def HM_SECNT.REG : Fld := ⟨0x60020, 31, 0⟩
def HM_SECNT.CE : Fld := ⟨0x60020, 31, 16⟩
def HM_SECNT.UE : Fld := ⟨0x60020, 15, 8⟩
def HM_SECNT.UNW : Fld := ⟨0x60020, 7, 0⟩
def HM_EADDR_LO.REG : Fld := ⟨0x60030, 31, 0⟩
def HM_EADDR_LO.ADDR : Fld := ⟨0x60030, 31, 0⟩
def HM_EADDR_HI.REG : Fld := ⟨0x60034, 31, 0⟩
def HM_EADDR_HI.ADDR : Fld := ⟨0x60034, 31, 0⟩
def HM_EINFO.REG : Fld := ⟨0x60038, 31, 0⟩
def HM_EINFO.VALID : Fld := ⟨0x60038, 31, 31⟩
def HM_EINFO.SRC : Fld := ⟨0x60038, 30, 28⟩
def HM_EINFO.REQ : Fld := ⟨0x60038, 27, 24⟩
def HM_EINFO.SYND : Fld := ⟨0x60038, 15, 0⟩
def HM_RGNBASE.REG (j : Nat) : Fld := ⟨0x60040 + j * 4, 31, 0⟩
def HM_RGNBASE.BASE (j : Nat) : Fld := ⟨0x60040 + j * 4, 16, 0⟩
def HM_RGNSIZE.REG (j : Nat) : Fld := ⟨0x60050 + j * 4, 31, 0⟩
def HM_RGNSIZE.SIZE (j : Nat) : Fld := ⟨0x60050 + j * 4, 16, 0⟩
def HM_BLTCTL.REG : Fld := ⟨0x60100, 31, 0⟩
def HM_BLTCTL.EN : Fld := ⟨0x60100, 31, 31⟩
def HM_BLTCTL.ERR : Fld := ⟨0x60100, 9, 9⟩
def HM_BLTCTL.DONE : Fld := ⟨0x60100, 8, 8⟩
def HM_BLTCTL.TGT : Fld := ⟨0x60100, 7, 6⟩
def HM_BLTCTL.OP : Fld := ⟨0x60100, 2, 0⟩
def HM_BLTADDR.REG : Fld := ⟨0x60104, 31, 0⟩
def HM_BLTADDR.IDX : Fld := ⟨0x60104, 10, 0⟩
def HM_BLTD_LO.REG : Fld := ⟨0x60108, 31, 0⟩
def HM_BLTD_LO.DATA : Fld := ⟨0x60108, 31, 0⟩
def HM_BLTD_HI.REG : Fld := ⟨0x6010C, 31, 0⟩
def HM_BLTD_HI.DATA : Fld := ⟨0x6010C, 31, 0⟩
def HM_BLTC.REG : Fld := ⟨0x60110, 31, 0⟩
def HM_BLTC.STATUS : Fld := ⟨0x60110, 18, 16⟩
def HM_BLTC.CHECK : Fld := ⟨0x60110, 15, 0⟩
def MJ_STAT.REG : Fld := ⟨0x70000, 31, 0⟩
def MJ_STAT.ADMIT : Fld := ⟨0x70000, 4, 4⟩
def MJ_STAT.READY : Fld := ⟨0x70000, 3, 0⟩
def MJ_ECNT.REG : Fld := ⟨0x70004, 31, 0⟩
def MJ_ECNT.CE : Fld := ⟨0x70004, 31, 16⟩
def MJ_ECNT.UE : Fld := ⟨0x70004, 15, 8⟩
def MJ_ECNT.UNW : Fld := ⟨0x70004, 7, 0⟩
def MJ_EADDR.REG : Fld := ⟨0x70008, 31, 0⟩
def MJ_EADDR.ADDR : Fld := ⟨0x70008, 29, 0⟩
def MJ_EINFO.REG : Fld := ⟨0x7000C, 31, 0⟩
def MJ_EINFO.VALID : Fld := ⟨0x7000C, 31, 31⟩
def MJ_EINFO.REQ : Fld := ⟨0x7000C, 27, 24⟩
def MJ_EINFO.SYND : Fld := ⟨0x7000C, 15, 0⟩
def MJ_WEAR.REG : Fld := ⟨0x70010, 31, 0⟩
def MJ_WEAR.JOURNAL : Fld := ⟨0x70010, 31, 16⟩
def MJ_WEAR.STRIPE : Fld := ⟨0x70010, 15, 0⟩
def CA_STAT.REG : Fld := ⟨0x80000, 31, 0⟩
def CA_STAT.INVDONE : Fld := ⟨0x80000, 31, 31⟩
def CA_STAT.BLTRSV : Fld := ⟨0x80000, 30, 30⟩
def CA_STAT.STREAMS : Fld := ⟨0x80000, 20, 16⟩
def CA_STAT.SIDE : Fld := ⟨0x80000, 15, 10⟩
def CA_STAT.EVB : Fld := ⟨0x80000, 9, 5⟩
def CA_HIT.REG : Fld := ⟨0x80004, 31, 0⟩
def CA_HIT.COUNT : Fld := ⟨0x80004, 31, 0⟩
def CA_MISS.REG : Fld := ⟨0x80008, 31, 0⟩
def CA_MISS.COUNT : Fld := ⟨0x80008, 31, 0⟩
def CA_EVHIT.REG : Fld := ⟨0x8000C, 31, 0⟩
def CA_EVHIT.EVHIT : Fld := ⟨0x8000C, 31, 16⟩
def CA_EVHIT.NOALLOC : Fld := ⟨0x8000C, 15, 0⟩
def CA_PF.REG : Fld := ⟨0x80010, 31, 0⟩
def CA_PF.ISSUED : Fld := ⟨0x80010, 31, 16⟩
def CA_PF.USED : Fld := ⟨0x80010, 15, 0⟩
def CA_PFDROP.REG : Fld := ⟨0x80014, 31, 0⟩
def CA_PFDROP.DROPPED : Fld := ⟨0x80014, 15, 0⟩
def CA_ECNT.REG : Fld := ⟨0x80018, 31, 0⟩
def CA_ECNT.CE : Fld := ⟨0x80018, 31, 16⟩
def CA_ECNT.UE : Fld := ⟨0x80018, 15, 8⟩
def CA_ECNT.UNW : Fld := ⟨0x80018, 7, 0⟩
def CA_EADDR_LO.REG : Fld := ⟨0x80020, 31, 0⟩
def CA_EADDR_LO.ADDR : Fld := ⟨0x80020, 31, 0⟩
def CA_EADDR_HI.REG : Fld := ⟨0x80024, 31, 0⟩
def CA_EADDR_HI.ADDR : Fld := ⟨0x80024, 31, 0⟩
def CA_EINFO.REG : Fld := ⟨0x80028, 31, 0⟩
def CA_EINFO.VALID : Fld := ⟨0x80028, 31, 31⟩
def CA_EINFO.REQ : Fld := ⟨0x80028, 28, 24⟩
def CA_EINFO.SYND : Fld := ⟨0x80028, 15, 0⟩
def DM_ACT.REG : Fld := ⟨0x90000, 31, 0⟩
def DM_ACT.MOVER : Fld := ⟨0x90000, 31, 0⟩
def DM_CH_STAT.REG (i : Nat) : Fld := ⟨0x91000 + i * 0x40, 31, 0⟩
def DM_CH_STAT.LASTST (i : Nat) : Fld := ⟨0x91000 + i * 0x40, 31, 28⟩
def DM_CH_STAT.SHGO (i : Nat) : Fld := ⟨0x91000 + i * 0x40, 4, 4⟩
def DM_CH_STAT.STOPPEND (i : Nat) : Fld := ⟨0x91000 + i * 0x40, 3, 3⟩
def DM_CH_STAT.STATE (i : Nat) : Fld := ⟨0x91000 + i * 0x40, 2, 0⟩
def DM_CH_SRC_LO.REG (i : Nat) : Fld := ⟨0x91004 + i * 0x40, 31, 0⟩
def DM_CH_SRC_LO.ADDR (i : Nat) : Fld := ⟨0x91004 + i * 0x40, 31, 0⟩
def DM_CH_SRC_HI.REG (i : Nat) : Fld := ⟨0x91008 + i * 0x40, 31, 0⟩
def DM_CH_SRC_HI.ADDR (i : Nat) : Fld := ⟨0x91008 + i * 0x40, 31, 0⟩
def DM_CH_DST_LO.REG (i : Nat) : Fld := ⟨0x9100C + i * 0x40, 31, 0⟩
def DM_CH_DST_LO.ADDR (i : Nat) : Fld := ⟨0x9100C + i * 0x40, 31, 0⟩
def DM_CH_DST_HI.REG (i : Nat) : Fld := ⟨0x91010 + i * 0x40, 31, 0⟩
def DM_CH_DST_HI.ADDR (i : Nat) : Fld := ⟨0x91010 + i * 0x40, 31, 0⟩
def DM_CH_LEN.REG (i : Nat) : Fld := ⟨0x91014 + i * 0x40, 31, 0⟩
def DM_CH_LEN.REMAIN (i : Nat) : Fld := ⟨0x91014 + i * 0x40, 23, 0⟩
def DM_CH_CTL.REG (i : Nat) : Fld := ⟨0x91018 + i * 0x40, 31, 0⟩
def DM_CH_CTL.FENCE (i : Nat) : Fld := ⟨0x91018 + i * 0x40, 31, 31⟩
def DM_CH_CTL.SRCSP (i : Nat) : Fld := ⟨0x91018 + i * 0x40, 27, 24⟩
def DM_CH_CTL.DSTSP (i : Nat) : Fld := ⟨0x91018 + i * 0x40, 23, 20⟩
def DM_CH_CTL.OWNER (i : Nat) : Fld := ⟨0x91018 + i * 0x40, 4, 0⟩
def DM_CH_SHORT.REG (i : Nat) : Fld := ⟨0x9101C + i * 0x40, 31, 0⟩
def DM_CH_SHORT.BYTES (i : Nat) : Fld := ⟨0x9101C + i * 0x40, 31, 0⟩
def DM_CH_HALTS.REG (i : Nat) : Fld := ⟨0x91020 + i * 0x40, 31, 0⟩
def DM_CH_HALTS.COUNT (i : Nat) : Fld := ⟨0x91020 + i * 0x40, 15, 0⟩
def SP_STAT.REG : Fld := ⟨0xA0000, 31, 0⟩
def SP_STAT.ZONE : Fld := ⟨0xA0000, 19, 16⟩
def SP_STAT.SRCHOLD : Fld := ⟨0xA0000, 12, 12⟩
def SP_STAT.SRC : Fld := ⟨0xA0000, 11, 10⟩
def SP_STAT.NOREGEN : Fld := ⟨0xA0000, 9, 9⟩
def SP_STAT.SHORT : Fld := ⟨0xA0000, 8, 8⟩
def SP_STAT.CHOPON : Fld := ⟨0xA0000, 7, 7⟩
def SP_STAT.WEDGESPD : Fld := ⟨0xA0000, 6, 6⟩
def SP_STAT.POSSRC : Fld := ⟨0xA0000, 5, 5⟩
def SP_STAT.ATSPEED : Fld := ⟨0xA0000, 4, 4⟩
def SP_STAT.STATE : Fld := ⟨0xA0000, 3, 0⟩
def SP_SPEED.REG : Fld := ⟨0xA0004, 31, 0⟩
def SP_SPEED.SLEWED : Fld := ⟨0xA0004, 31, 16⟩
def SP_SPEED.SPEED : Fld := ⟨0xA0004, 15, 0⟩
def SP_TARGET.REG : Fld := ⟨0xA0008, 31, 0⟩
def SP_TARGET.TARGET : Fld := ⟨0xA0008, 15, 0⟩
def SP_SRCVAL.REG : Fld := ⟨0xA000C, 31, 0⟩
def SP_SRCVAL.VALID : Fld := ⟨0xA000C, 31, 31⟩
def SP_SRCVAL.VALUE : Fld := ⟨0xA000C, 23, 0⟩
def SP_FAULT.REG : Fld := ⟨0xA0010, 31, 0⟩
def SP_FAULT.VGDUV : Fld := ⟨0xA0010, 8, 8⟩
def SP_FAULT.SRCLOST : Fld := ⟨0xA0010, 7, 7⟩
def SP_FAULT.STARTFAIL : Fld := ⟨0xA0010, 6, 6⟩
def SP_FAULT.FOLLOW : Fld := ⟨0xA0010, 5, 5⟩
def SP_FAULT.LOCKLOSS : Fld := ⟨0xA0010, 4, 4⟩
def SP_FAULT.OV46 : Fld := ⟨0xA0010, 3, 3⟩
def SP_FAULT.OV44 : Fld := ⟨0xA0010, 2, 2⟩
def SP_FAULT.CHOPPER : Fld := ⟨0xA0010, 1, 1⟩
def SP_FAULT.OVERCURRENT : Fld := ⟨0xA0010, 0, 0⟩
def SP_CURR.REG : Fld := ⟨0xA0014, 31, 0⟩
def SP_CURR.IV : Fld := ⟨0xA0014, 31, 16⟩
def SP_CURR.IU : Fld := ⟨0xA0014, 15, 0⟩
def SP_DIST.REG : Fld := ⟨0xA0018, 31, 0⟩
def SP_DIST.NARROW : Fld := ⟨0xA0018, 31, 0⟩
def SP_CATCH.REG : Fld := ⟨0xA001C, 31, 0⟩
def SP_CATCH.RESULT : Fld := ⟨0xA001C, 31, 30⟩
def SP_CATCH.DIR : Fld := ⟨0xA001C, 29, 29⟩
def SP_CATCH.SPEED : Fld := ⟨0xA001C, 15, 0⟩
def SP_BRK.REG : Fld := ⟨0xA0020, 31, 0⟩
def SP_BRK.IPEAK : Fld := ⟨0xA0020, 31, 16⟩
def SP_BRK.COUNT : Fld := ⟨0xA0020, 15, 0⟩
def SV_STAT.REG (i : Nat) : Fld := ⟨0xB0000 + i * 0x8000, 31, 0⟩
def SV_STAT.GROUP (i : Nat) : Fld := ⟨0xB0000 + i * 0x8000, 23, 20⟩
def SV_STAT.PRIMARY (i : Nat) : Fld := ⟨0xB0000 + i * 0x8000, 19, 16⟩
def SV_STAT.ACTIVE (i : Nat) : Fld := ⟨0xB0000 + i * 0x8000, 15, 12⟩
def SV_STAT.WGATE (i : Nat) : Fld := ⟨0xB0000 + i * 0x8000, 11, 10⟩
def SV_STAT.SHOCK (i : Nat) : Fld := ⟨0xB0000 + i * 0x8000, 9, 9⟩
def SV_STAT.WIN (i : Nat) : Fld := ⟨0xB0000 + i * 0x8000, 6, 4⟩
def SV_STAT.STATE (i : Nat) : Fld := ⟨0xB0000 + i * 0x8000, 3, 0⟩
def SV_WEDGE.REG (i : Nat) : Fld := ⟨0xB0004 + i * 0x8000, 31, 0⟩
def SV_WEDGE.REV (i : Nat) : Fld := ⟨0xB0004 + i * 0x8000, 31, 16⟩
def SV_WEDGE.WEDGE (i : Nat) : Fld := ⟨0xB0004 + i * 0x8000, 8, 0⟩
def SV_TARGET.REG (i : Nat) : Fld := ⟨0xB0008 + i * 0x8000, 31, 0⟩
def SV_TARGET.TRACK (i : Nat) : Fld := ⟨0xB0008 + i * 0x8000, 23, 0⟩
def SV_PES.REG (i : Nat) (j : Nat) : Fld := ⟨0xB0010 + i * 0x8000 + j * 4, 31, 0⟩
def SV_PES.VALID (i : Nat) (j : Nat) : Fld := ⟨0xB0010 + i * 0x8000 + j * 4, 31, 31⟩
def SV_PES.HEAD (i : Nat) (j : Nat) : Fld := ⟨0xB0010 + i * 0x8000 + j * 4, 27, 24⟩
def SV_PES.ERR (i : Nat) (j : Nat) : Fld := ⟨0xB0010 + i * 0x8000 + j * 4, 15, 0⟩
def SV_PESWIN.REG (i : Nat) (j : Nat) : Fld := ⟨0xB0020 + i * 0x8000 + j * 4, 31, 0⟩
def SV_PESWIN.FELIM (i : Nat) (j : Nat) : Fld := ⟨0xB0020 + i * 0x8000 + j * 4, 23, 16⟩
def SV_PESWIN.RDLIM (i : Nat) (j : Nat) : Fld := ⟨0xB0020 + i * 0x8000 + j * 4, 15, 8⟩
def SV_PESWIN.LIMIT (i : Nat) (j : Nat) : Fld := ⟨0xB0020 + i * 0x8000 + j * 4, 7, 0⟩
def SV_MA.REG (i : Nat) (j : Nat) : Fld := ⟨0xB0030 + i * 0x8000 + j * 4, 31, 0⟩
def SV_MA.SAT (i : Nat) (j : Nat) : Fld := ⟨0xB0030 + i * 0x8000 + j * 4, 31, 31⟩
def SV_MA.PEAK (i : Nat) (j : Nat) : Fld := ⟨0xB0030 + i * 0x8000 + j * 4, 23, 16⟩
def SV_MA.CMD (i : Nat) (j : Nat) : Fld := ⟨0xB0030 + i * 0x8000 + j * 4, 15, 0⟩
def SV_VCM.REG (i : Nat) : Fld := ⟨0xB0040 + i * 0x8000, 31, 0⟩
def SV_VCM.ISN (i : Nat) : Fld := ⟨0xB0040 + i * 0x8000, 31, 16⟩
def SV_VCM.CMD (i : Nat) : Fld := ⟨0xB0040 + i * 0x8000, 15, 0⟩
def SV_EVT.REG (i : Nat) : Fld := ⟨0xB0044 + i * 0x8000, 31, 0⟩
def SV_EVT.INHIBIT (i : Nat) : Fld := ⟨0xB0044 + i * 0x8000, 31, 16⟩
def SV_EVT.DROP (i : Nat) : Fld := ⟨0xB0044 + i * 0x8000, 15, 0⟩
def SV_WDOG.REG (i : Nat) : Fld := ⟨0xB0048 + i * 0x8000, 31, 0⟩
def SV_WDOG.CMISS (i : Nat) : Fld := ⟨0xB0048 + i * 0x8000, 17, 17⟩
def SV_WDOG.FMISS (i : Nat) : Fld := ⟨0xB0048 + i * 0x8000, 16, 16⟩
def SV_WDOG.COUNT (i : Nat) : Fld := ⟨0xB0048 + i * 0x8000, 15, 0⟩
def SV_SLACK.REG (i : Nat) : Fld := ⟨0xB004C + i * 0x8000, 31, 0⟩
def SV_SLACK.COARSE (i : Nat) : Fld := ⟨0xB004C + i * 0x8000, 31, 16⟩
def SV_SLACK.FINE (i : Nat) : Fld := ⟨0xB004C + i * 0x8000, 15, 0⟩
def SV_INHREASON.REG (i : Nat) : Fld := ⟨0xB0050 + i * 0x8000, 31, 0⟩
def SV_INHREASON.HEAD (i : Nat) : Fld := ⟨0xB0050 + i * 0x8000, 7, 4⟩
def SV_INHREASON.REASON (i : Nat) : Fld := ⟨0xB0050 + i * 0x8000, 3, 0⟩
def SV_FAULT.REG (i : Nat) : Fld := ⟨0xB0054 + i * 0x8000, 31, 0⟩
def SV_FAULT.SKEW (i : Nat) : Fld := ⟨0xB0054 + i * 0x8000, 7, 7⟩
def SV_FAULT.HEADFAIL (i : Nat) : Fld := ⟨0xB0054 + i * 0x8000, 6, 6⟩
def SV_FAULT.WDOG2 (i : Nat) : Fld := ⟨0xB0054 + i * 0x8000, 5, 5⟩
def SV_FAULT.MAFLT (i : Nat) : Fld := ⟨0xB0054 + i * 0x8000, 4, 4⟩
def SV_FAULT.VCMFLT (i : Nat) : Fld := ⟨0xB0054 + i * 0x8000, 3, 3⟩
def SV_FAULT.LOADFAIL (i : Nat) : Fld := ⟨0xB0054 + i * 0x8000, 2, 2⟩
def SV_FAULT.DROPOUT (i : Nat) : Fld := ⟨0xB0054 + i * 0x8000, 1, 1⟩
def SV_FAULT.FOLERR (i : Nat) : Fld := ⟨0xB0054 + i * 0x8000, 0, 0⟩
def SV_RRO.REG (i : Nat) : Fld := ⟨0xB0058 + i * 0x8000, 31, 0⟩
def SV_RRO.ZONE (i : Nat) : Fld := ⟨0xB0058 + i * 0x8000, 11, 8⟩
def SV_RRO.CONV (i : Nat) : Fld := ⟨0xB0058 + i * 0x8000, 3, 0⟩
def SV_FF.REG (i : Nat) : Fld := ⟨0xB005C + i * 0x8000, 31, 0⟩
def SV_FF.LATE (i : Nat) : Fld := ⟨0xB005C + i * 0x8000, 31, 16⟩
def SV_FF.APPLIED (i : Nat) : Fld := ⟨0xB005C + i * 0x8000, 15, 0⟩
def SV_HEADOK.REG (i : Nat) : Fld := ⟨0xB0060 + i * 0x8000, 31, 0⟩
def SV_HEADOK.OK (i : Nat) : Fld := ⟨0xB0060 + i * 0x8000, 15, 0⟩
def AS_STAT.REG (i : Nat) : Fld := ⟨0xC0000 + i * 0x8000, 31, 0⟩
def AS_STAT.STATE1 (i : Nat) : Fld := ⟨0xC0000 + i * 0x8000, 15, 12⟩
def AS_STAT.STATE0 (i : Nat) : Fld := ⟨0xC0000 + i * 0x8000, 11, 8⟩
def AS_STAT.TYPE (i : Nat) : Fld := ⟨0xC0000 + i * 0x8000, 1, 0⟩
def AS_SLOT0.REG (i : Nat) : Fld := ⟨0xC0004 + i * 0x8000, 31, 0⟩
def AS_SLOT0.HEAD (i : Nat) : Fld := ⟨0xC0004 + i * 0x8000, 19, 16⟩
def AS_SLOT0.CMD (i : Nat) : Fld := ⟨0xC0004 + i * 0x8000, 11, 0⟩
def AS_SLOT1.REG (i : Nat) : Fld := ⟨0xC0008 + i * 0x8000, 31, 0⟩
def AS_SLOT1.HEAD (i : Nat) : Fld := ⟨0xC0008 + i * 0x8000, 19, 16⟩
def AS_SLOT1.CMD (i : Nat) : Fld := ⟨0xC0008 + i * 0x8000, 11, 0⟩
def AS_MON0.REG (i : Nat) : Fld := ⟨0xC0010 + i * 0x8000, 31, 0⟩
def AS_MON0.TARGET (i : Nat) : Fld := ⟨0xC0010 + i * 0x8000, 31, 16⟩
def AS_MON0.MON (i : Nat) : Fld := ⟨0xC0010 + i * 0x8000, 15, 0⟩
def AS_MON1.REG (i : Nat) : Fld := ⟨0xC0014 + i * 0x8000, 31, 0⟩
def AS_MON1.TARGET (i : Nat) : Fld := ⟨0xC0014 + i * 0x8000, 31, 16⟩
def AS_MON1.MON (i : Nat) : Fld := ⟨0xC0014 + i * 0x8000, 15, 0⟩
def AS_TEMP0.REG (i : Nat) : Fld := ⟨0xC0018 + i * 0x8000, 31, 0⟩
def AS_TEMP0.TLIM (i : Nat) : Fld := ⟨0xC0018 + i * 0x8000, 31, 16⟩
def AS_TEMP0.TEST (i : Nat) : Fld := ⟨0xC0018 + i * 0x8000, 15, 0⟩
def AS_TEMP1.REG (i : Nat) : Fld := ⟨0xC001C + i * 0x8000, 31, 0⟩
def AS_TEMP1.TLIM (i : Nat) : Fld := ⟨0xC001C + i * 0x8000, 31, 16⟩
def AS_TEMP1.TEST (i : Nat) : Fld := ⟨0xC001C + i * 0x8000, 15, 0⟩
def AS_BUDGET.REG (i : Nat) : Fld := ⟨0xC0020 + i * 0x8000, 31, 0⟩
def AS_BUDGET.PAMAX (i : Nat) : Fld := ⟨0xC0020 + i * 0x8000, 31, 16⟩
def AS_BUDGET.DEMAND (i : Nat) : Fld := ⟨0xC0020 + i * 0x8000, 15, 0⟩
def AS_TINT.REG (i : Nat) : Fld := ⟨0xC0024 + i * 0x8000, 31, 0⟩
def AS_TINT.VALID (i : Nat) : Fld := ⟨0xC0024 + i * 0x8000, 31, 31⟩
def AS_TINT.TINT (i : Nat) : Fld := ⟨0xC0024 + i * 0x8000, 7, 0⟩
def AS_FAULT.REG (i : Nat) : Fld := ⟨0xC0028 + i * 0x8000, 31, 0⟩
def AS_FAULT.WDOG2 (i : Nat) : Fld := ⟨0xC0028 + i * 0x8000, 6, 6⟩
def AS_FAULT.TINTLOST (i : Nat) : Fld := ⟨0xC0028 + i * 0x8000, 5, 5⟩
def AS_FAULT.PAFLT (i : Nat) : Fld := ⟨0xC0028 + i * 0x8000, 4, 4⟩
def AS_FAULT.WDISABLE (i : Nat) : Fld := ⟨0xC0028 + i * 0x8000, 3, 3⟩
def AS_FAULT.SENSOR (i : Nat) : Fld := ⟨0xC0028 + i * 0x8000, 2, 2⟩
def AS_FAULT.DEVIATION (i : Nat) : Fld := ⟨0xC0028 + i * 0x8000, 1, 1⟩
def AS_FAULT.OVERTEMP (i : Nat) : Fld := ⟨0xC0028 + i * 0x8000, 0, 0⟩
def AS_EVT.REG (i : Nat) : Fld := ⟨0xC002C + i * 0x8000, 31, 0⟩
def AS_EVT.TRIPS (i : Nat) : Fld := ⟨0xC002C + i * 0x8000, 31, 16⟩
def AS_EVT.DEFER (i : Nat) : Fld := ⟨0xC002C + i * 0x8000, 15, 0⟩
def AS_ABORT.REG (i : Nat) : Fld := ⟨0xC0030 + i * 0x8000, 31, 0⟩
def AS_ABORT.DEVABORT (i : Nat) : Fld := ⟨0xC0030 + i * 0x8000, 31, 16⟩
def AS_ABORT.MISS (i : Nat) : Fld := ⟨0xC0030 + i * 0x8000, 15, 0⟩
def AS_WDIS.REG (i : Nat) : Fld := ⟨0xC0034 + i * 0x8000, 31, 0⟩
def AS_WDIS.HEADS (i : Nat) : Fld := ⟨0xC0034 + i * 0x8000, 15, 0⟩
def LN_STAT.REG (i : Nat) : Fld := ⟨0xD0000 + i * 0x1000, 31, 0⟩
def LN_STAT.PLACE (i : Nat) : Fld := ⟨0xD0000 + i * 0x1000, 27, 24⟩
def LN_STAT.HEAD (i : Nat) : Fld := ⟨0xD0000 + i * 0x1000, 23, 20⟩
def LN_STAT.ACT (i : Nat) : Fld := ⟨0xD0000 + i * 0x1000, 19, 19⟩
def LN_STAT.STANDIN (i : Nat) : Fld := ⟨0xD0000 + i * 0x1000, 18, 18⟩
def LN_STAT.DEGRADED (i : Nat) : Fld := ⟨0xD0000 + i * 0x1000, 17, 17⟩
def LN_STAT.LOCK (i : Nat) : Fld := ⟨0xD0000 + i * 0x1000, 16, 16⟩
def LN_STAT.INSEL (i : Nat) : Fld := ⟨0xD0000 + i * 0x1000, 11, 8⟩
def LN_STAT.STATE (i : Nat) : Fld := ⟨0xD0000 + i * 0x1000, 2, 0⟩
def LN_RATE.REG (i : Nat) : Fld := ⟨0xD0004 + i * 0x1000, 31, 0⟩
def LN_RATE.ZONE (i : Nat) : Fld := ⟨0xD0004 + i * 0x1000, 31, 24⟩
def LN_RATE.RATE (i : Nat) : Fld := ⟨0xD0004 + i * 0x1000, 15, 0⟩
def LN_GAIN.REG (i : Nat) : Fld := ⟨0xD0008 + i * 0x1000, 31, 0⟩
def LN_GAIN.START (i : Nat) : Fld := ⟨0xD0008 + i * 0x1000, 15, 8⟩
def LN_GAIN.GAIN (i : Nat) : Fld := ⟨0xD0008 + i * 0x1000, 7, 0⟩
def LN_CTF.REG (i : Nat) : Fld := ⟨0xD000C + i * 0x1000, 31, 0⟩
def LN_CTF.CUTOFF (i : Nat) : Fld := ⟨0xD000C + i * 0x1000, 15, 8⟩
def LN_CTF.BOOST (i : Nat) : Fld := ⟨0xD000C + i * 0x1000, 7, 0⟩
def LN_ADC.REG (i : Nat) : Fld := ⟨0xD0010 + i * 0x1000, 31, 0⟩
def LN_ADC.SKEW3 (i : Nat) : Fld := ⟨0xD0010 + i * 0x1000, 28, 22⟩
def LN_ADC.SKEW2 (i : Nat) : Fld := ⟨0xD0010 + i * 0x1000, 21, 15⟩
def LN_ADC.SKEW1 (i : Nat) : Fld := ⟨0xD0010 + i * 0x1000, 14, 8⟩
def LN_ADC.OFFSET (i : Nat) : Fld := ⟨0xD0010 + i * 0x1000, 7, 0⟩
def LN_SYNC.REG (i : Nat) : Fld := ⟨0xD0014 + i * 0x1000, 31, 0⟩
def LN_SYNC.LASTCNT (i : Nat) : Fld := ⟨0xD0014 + i * 0x1000, 23, 16⟩
def LN_SYNC.LASTOFF (i : Nat) : Fld := ⟨0xD0014 + i * 0x1000, 15, 8⟩
def LN_SYNC.SYNCTH (i : Nat) : Fld := ⟨0xD0014 + i * 0x1000, 5, 0⟩
def LN_FIR.REG (i : Nat) (j : Nat) : Fld := ⟨0xD0020 + i * 0x1000 + j * 4, 31, 0⟩
def LN_FIR.TAPODD (i : Nat) (j : Nat) : Fld := ⟨0xD0020 + i * 0x1000 + j * 4, 25, 16⟩
def LN_FIR.TAPEVEN (i : Nat) (j : Nat) : Fld := ⟨0xD0020 + i * 0x1000 + j * 4, 9, 0⟩
def LN_FRAMES.REG (i : Nat) : Fld := ⟨0xD0040 + i * 0x1000, 31, 0⟩
def LN_FRAMES.COUNT (i : Nat) : Fld := ⟨0xD0040 + i * 0x1000, 31, 0⟩
def LN_SYNCEV.REG (i : Nat) : Fld := ⟨0xD0044 + i * 0x1000, 31, 0⟩
def LN_SYNCEV.MISS (i : Nat) : Fld := ⟨0xD0044 + i * 0x1000, 31, 16⟩
def LN_SYNCEV.SKIP (i : Nat) : Fld := ⟨0xD0044 + i * 0x1000, 15, 0⟩
def LN_OVR.REG (i : Nat) : Fld := ⟨0xD0048 + i * 0x1000, 31, 0⟩
def LN_OVR.OVERRUN (i : Nat) : Fld := ⟨0xD0048 + i * 0x1000, 31, 16⟩
def LN_OVR.BLANKS (i : Nat) : Fld := ⟨0xD0048 + i * 0x1000, 15, 0⟩
def LN_ERASED.REG (i : Nat) : Fld := ⟨0xD004C + i * 0x1000, 31, 0⟩
def LN_ERASED.CELLS (i : Nat) : Fld := ⟨0xD004C + i * 0x1000, 31, 0⟩
def AS_WSSTAT0.REG (i : Nat) : Fld := ⟨0xC0100 + i * 0x8000, 31, 0⟩
def AS_WSSTAT0.HEAD (i : Nat) : Fld := ⟨0xC0100 + i * 0x8000, 19, 16⟩
def AS_WSSTAT0.CLKLANE (i : Nat) : Fld := ⟨0xC0100 + i * 0x8000, 11, 8⟩
def AS_WSSTAT0.STATE (i : Nat) : Fld := ⟨0xC0100 + i * 0x8000, 2, 0⟩
def AS_WSSTAT1.REG (i : Nat) : Fld := ⟨0xC0104 + i * 0x8000, 31, 0⟩
def AS_WSSTAT1.HEAD (i : Nat) : Fld := ⟨0xC0104 + i * 0x8000, 19, 16⟩
def AS_WSSTAT1.CLKLANE (i : Nat) : Fld := ⟨0xC0104 + i * 0x8000, 11, 8⟩
def AS_WSSTAT1.STATE (i : Nat) : Fld := ⟨0xC0104 + i * 0x8000, 2, 0⟩
def AS_WSPRE0.REG (i : Nat) : Fld := ⟨0xC0108 + i * 0x8000, 31, 0⟩
def AS_WSPRE0.EARLY2 (i : Nat) : Fld := ⟨0xC0108 + i * 0x8000, 15, 8⟩
def AS_WSPRE0.EARLY1 (i : Nat) : Fld := ⟨0xC0108 + i * 0x8000, 7, 0⟩
def AS_WSPRE1.REG (i : Nat) : Fld := ⟨0xC010C + i * 0x8000, 31, 0⟩
def AS_WSPRE1.EARLY2 (i : Nat) : Fld := ⟨0xC010C + i * 0x8000, 15, 8⟩
def AS_WSPRE1.EARLY1 (i : Nat) : Fld := ⟨0xC010C + i * 0x8000, 7, 0⟩
def AS_WSCNT0.REG (i : Nat) : Fld := ⟨0xC0110 + i * 0x8000, 31, 0⟩
def AS_WSCNT0.ABANDON (i : Nat) : Fld := ⟨0xC0110 + i * 0x8000, 31, 16⟩
def AS_WSCNT0.WRITTEN (i : Nat) : Fld := ⟨0xC0110 + i * 0x8000, 15, 0⟩
def AS_WSCNT1.REG (i : Nat) : Fld := ⟨0xC0114 + i * 0x8000, 31, 0⟩
def AS_WSCNT1.ABANDON (i : Nat) : Fld := ⟨0xC0114 + i * 0x8000, 31, 16⟩
def AS_WSCNT1.WRITTEN (i : Nat) : Fld := ⟨0xC0114 + i * 0x8000, 15, 0⟩
def AS_WSUNDR.REG (i : Nat) : Fld := ⟨0xC0118 + i * 0x8000, 31, 0⟩
def AS_WSUNDR.UNDER1 (i : Nat) : Fld := ⟨0xC0118 + i * 0x8000, 31, 16⟩
def AS_WSUNDR.UNDER0 (i : Nat) : Fld := ⟨0xC0118 + i * 0x8000, 15, 0⟩
def DD_STAT.REG : Fld := ⟨0xE0000, 31, 0⟩
def DD_STAT.QLEN : Fld := ⟨0xE0000, 26, 16⟩
def DD_STAT.DISABLED : Fld := ⟨0xE0000, 11, 8⟩
def DD_STAT.BUSY : Fld := ⟨0xE0000, 7, 4⟩
def DD_STAT.NSCHED : Fld := ⟨0xE0000, 2, 0⟩
def DD_UNIT.REG (j : Nat) : Fld := ⟨0xE0010 + j * 4, 31, 0⟩
def DD_UNIT.STEP (j : Nat) : Fld := ⟨0xE0010 + j * 4, 31, 28⟩
def DD_UNIT.ITER (j : Nat) : Fld := ⟨0xE0010 + j * 4, 23, 16⟩
def DD_UNIT.HEAD (j : Nat) : Fld := ⟨0xE0010 + j * 4, 15, 11⟩
def DD_INLINE.REG : Fld := ⟨0xE0020, 31, 0⟩
def DD_INLINE.FAIL : Fld := ⟨0xE0020, 31, 16⟩
def DD_INLINE.RESDROP : Fld := ⟨0xE0020, 15, 0⟩
def DD_ESC.REG : Fld := ⟨0xE0024, 31, 0⟩
def DD_ESC.ESCALATED : Fld := ⟨0xE0024, 31, 16⟩
def DD_ESC.QFULL : Fld := ⟨0xE0024, 15, 0⟩
def DD_OKFIX.REG : Fld := ⟨0xE0028, 31, 0⟩
def DD_OKFIX.RESEARCH : Fld := ⟨0xE0028, 31, 16⟩
def DD_OKFIX.DEEP : Fld := ⟨0xE0028, 15, 0⟩
def DD_OKOFF.REG : Fld := ⟨0xE002C, 31, 0⟩
def DD_OKOFF.OFFSET : Fld := ⟨0xE002C, 15, 0⟩
def DD_OKSTEP.REG (j : Nat) : Fld := ⟨0xE0030 + j * 4, 31, 0⟩
def DD_OKSTEP.HIGH (j : Nat) : Fld := ⟨0xE0030 + j * 4, 31, 16⟩
def DD_OKSTEP.LOW (j : Nat) : Fld := ⟨0xE0030 + j * 4, 15, 0⟩
def DD_REREAD.REG : Fld := ⟨0xE0040, 31, 0⟩
def DD_REREAD.DIRECT : Fld := ⟨0xE0040, 31, 16⟩
def DD_REREAD.LADDER : Fld := ⟨0xE0040, 15, 0⟩
def DD_FAILS.REG : Fld := ⟨0xE0044, 31, 0⟩
def DD_FAILS.MISCORR : Fld := ⟨0xE0044, 31, 16⟩
def DD_FAILS.MISPLACE : Fld := ⟨0xE0044, 15, 0⟩
def DD_UNREAD.REG : Fld := ⟨0xE0048, 31, 0⟩
def DD_UNREAD.TIMEOUT : Fld := ⟨0xE0048, 31, 16⟩
def DD_UNREAD.TOTAL : Fld := ⟨0xE0048, 15, 0⟩
def DD_SS.REG : Fld := ⟨0xE0050, 31, 0⟩
def DD_SS.PINNED : Fld := ⟨0xE0050, 31, 16⟩
def DD_SS.NEVER : Fld := ⟨0xE0050, 13, 0⟩
def DD_SSAGE.REG : Fld := ⟨0xE0054, 31, 0⟩
def DD_SSAGE.MINAGE : Fld := ⟨0xE0054, 31, 16⟩
def DD_SSAGE.AGE : Fld := ⟨0xE0054, 15, 0⟩
def DD_SSLOSS.REG : Fld := ⟨0xE0058, 31, 0⟩
def DD_SSLOSS.PINREF : Fld := ⟨0xE0058, 31, 16⟩
def DD_SSLOSS.NOSAMP : Fld := ⟨0xE0058, 15, 0⟩
def DD_IDXPTR.REG : Fld := ⟨0xE005C, 31, 0⟩
def DD_IDXPTR.NEXT : Fld := ⟨0xE005C, 16, 0⟩
def DD_UNITRST.REG : Fld := ⟨0xE0060, 31, 0⟩
def DD_UNITRST.RESETS : Fld := ⟨0xE0060, 15, 0⟩
def CL_STAT.REG : Fld := ⟨0xF0000, 31, 0⟩
def CL_STAT.STEP : Fld := ⟨0xF0000, 23, 20⟩
def CL_STAT.LANE : Fld := ⟨0xF0000, 19, 16⟩
def CL_STAT.LSWAIT : Fld := ⟨0xF0000, 10, 10⟩
def CL_STAT.INPLACE : Fld := ⟨0xF0000, 9, 9⟩
def CL_STAT.DUE : Fld := ⟨0xF0000, 8, 0⟩
def CL_SEQ.REG : Fld := ⟨0xF0004, 31, 0⟩
def CL_SEQ.SEQ : Fld := ⟨0xF0004, 31, 0⟩
def CL_RUNS.REG : Fld := ⟨0xF0008, 31, 0⟩
def CL_RUNS.ACCEPT : Fld := ⟨0xF0008, 31, 16⟩
def CL_RUNS.REJECT : Fld := ⟨0xF0008, 15, 0⟩
def CL_ABAND.REG : Fld := ⟨0xF000C, 31, 0⟩
def CL_ABAND.COUNT : Fld := ⟨0xF000C, 15, 0⟩
def CL_LAST.REG (j : Nat) : Fld := ⟨0xF0010 + j * 4, 31, 0⟩
def CL_LAST.TJ (j : Nat) : Fld := ⟨0xF0010 + j * 4, 31, 24⟩
def CL_LAST.TINT (j : Nat) : Fld := ⟨0xF0010 + j * 4, 23, 16⟩
def CL_LAST.ZONE (j : Nat) : Fld := ⟨0xF0010 + j * 4, 15, 12⟩
def CL_LAST.REJCNT (j : Nat) : Fld := ⟨0xF0010 + j * 4, 5, 4⟩
def CL_LAST.RESULT (j : Nat) : Fld := ⟨0xF0010 + j * 4, 3, 0⟩
def CL_CSEL.REG : Fld := ⟨0xF0040, 31, 0⟩
def CL_CSEL.ZONE : Fld := ⟨0xF0040, 15, 12⟩
def CL_CSEL.READER : Fld := ⟨0xF0040, 8, 8⟩
def CL_CSEL.HEAD : Fld := ⟨0xF0040, 4, 0⟩
def CL_CS0.REG : Fld := ⟨0xF0044, 31, 0⟩
def CL_CS0.VALID : Fld := ⟨0xF0044, 31, 31⟩
def CL_CS0.SYNCTH : Fld := ⟨0xF0044, 29, 24⟩
def CL_CS0.START : Fld := ⟨0xF0044, 23, 16⟩
def CL_CS0.CUTOFF : Fld := ⟨0xF0044, 15, 8⟩
def CL_CS0.BOOST : Fld := ⟨0xF0044, 7, 0⟩
def CL_CS1.REG : Fld := ⟨0xF0048, 31, 0⟩
def CL_CS1.G2 : Fld := ⟨0xF0048, 25, 16⟩
def CL_CS1.G1 : Fld := ⟨0xF0048, 9, 0⟩
def CL_CS2.REG : Fld := ⟨0xF004C, 31, 0⟩
def CL_CS2.NWEIGHT : Fld := ⟨0xF004C, 31, 16⟩
def CL_CS2.EARLY2 : Fld := ⟨0xF004C, 12, 8⟩
def CL_CS2.EARLY1 : Fld := ⟨0xF004C, 4, 0⟩
def CL_CS3.REG : Fld := ⟨0xF0050, 31, 0⟩
def CL_CS3.TJ : Fld := ⟨0xF0050, 31, 24⟩
def CL_CS3.TINT : Fld := ⟨0xF0050, 23, 16⟩
def CL_CSFIR.REG (j : Nat) : Fld := ⟨0xF0060 + j * 4, 31, 0⟩
def CL_CSFIR.TAPODD (j : Nat) : Fld := ⟨0xF0060 + j * 4, 25, 16⟩
def CL_CSFIR.TAPEVEN (j : Nat) : Fld := ⟨0xF0060 + j * 4, 9, 0⟩
def MP_STAT.REG : Fld := ⟨0x100000, 31, 0⟩
def MP_STAT.STATE : Fld := ⟨0x100000, 31, 28⟩
def MP_STAT.GRAN : Fld := ⟨0x100000, 24, 24⟩
def MP_STAT.JLOSS : Fld := ⟨0x100000, 23, 23⟩
def MP_STAT.SEGLOSS : Fld := ⟨0x100000, 22, 22⟩
def MP_STAT.PACED : Fld := ⟨0x100000, 21, 21⟩
def MP_STAT.JFULL : Fld := ⟨0x100000, 20, 20⟩
def MP_STAT.COUNTING : Fld := ⟨0x100000, 19, 19⟩
def MP_NENT_LO.REG : Fld := ⟨0x100004, 31, 0⟩
def MP_NENT_LO.N : Fld := ⟨0x100004, 31, 0⟩
def MP_NENT_HI.REG : Fld := ⟨0x100008, 31, 0⟩
def MP_NENT_HI.N : Fld := ⟨0x100008, 31, 0⟩
def MP_JHEAD.REG : Fld := ⟨0x10000C, 31, 0⟩
def MP_JHEAD.PAGE : Fld := ⟨0x10000C, 17, 0⟩
def MP_JTAIL.REG : Fld := ⟨0x100010, 31, 0⟩
def MP_JTAIL.PAGE : Fld := ⟨0x100010, 17, 0⟩
def MP_JFREE.REG : Fld := ⟨0x100014, 31, 0⟩
def MP_JFREE.FREE : Fld := ⟨0x100014, 17, 0⟩
def MP_JSEQ_LO.REG : Fld := ⟨0x100018, 31, 0⟩
def MP_JSEQ_LO.SEQ : Fld := ⟨0x100018, 31, 0⟩
def MP_JSEQ_HI.REG : Fld := ⟨0x10001C, 31, 0⟩
def MP_JSEQ_HI.SEQ : Fld := ⟨0x10001C, 31, 0⟩
def MP_CKPT.REG : Fld := ⟨0x100020, 31, 0⟩
def MP_CKPT.DIRTY : Fld := ⟨0x100020, 31, 16⟩
def MP_CKPT.NSEG : Fld := ⟨0x100020, 15, 0⟩
def MP_ROOTGEN.REG : Fld := ⟨0x100024, 31, 0⟩
def MP_ROOTGEN.GEN : Fld := ⟨0x100024, 31, 0⟩
def MP_FREE.REG : Fld := ⟨0x100028, 31, 0⟩
def MP_FREE.FREE : Fld := ⟨0x100028, 9, 0⟩
def MP_CLEAN.REG : Fld := ⟨0x10002C, 31, 0⟩
def MP_CLEAN.BLOCKS : Fld := ⟨0x10002C, 31, 0⟩
def MP_CLSETS.REG : Fld := ⟨0x100030, 31, 0⟩
def MP_CLSETS.SETS : Fld := ⟨0x100030, 15, 0⟩
def MP_REPLAY.REG : Fld := ⟨0x100034, 31, 0⟩
def MP_REPLAY.CKPT : Fld := ⟨0x100034, 31, 16⟩
def MP_REPLAY.APPLY : Fld := ⟨0x100034, 15, 0⟩
def MP_SPILL.REG : Fld := ⟨0x100038, 31, 0⟩
def MP_SPILL.SPILL : Fld := ⟨0x100038, 31, 16⟩
def MP_SPILL.PADFR : Fld := ⟨0x100038, 15, 0⟩
def PX_STAT.REG : Fld := ⟨0x110000, 31, 0⟩
def PX_STAT.SPAREOUT : Fld := ⟨0x110000, 31, 31⟩
def PX_STAT.NOWRITE : Fld := ⟨0x110000, 30, 30⟩
def PX_STAT.PAUSED : Fld := ⟨0x110000, 29, 29⟩
def PX_STAT.REBUILD : Fld := ⟨0x110000, 28, 28⟩
def PX_STAT.SPARES : Fld := ⟨0x110000, 15, 8⟩
def PX_STAT.F : Fld := ⟨0x110000, 7, 0⟩
def PX_FAILED.REG : Fld := ⟨0x110004, 31, 0⟩
def PX_FAILED.SURF : Fld := ⟨0x110004, 31, 0⟩
def PX_WDIS.REG : Fld := ⟨0x110008, 31, 0⟩
def PX_WDIS.SURF : Fld := ⟨0x110008, 31, 0⟩
def PX_RBPOS.REG : Fld := ⟨0x11000C, 31, 0⟩
def PX_RBPOS.SURF : Fld := ⟨0x11000C, 31, 24⟩
def PX_RBPOS.BANDSET : Fld := ⟨0x11000C, 23, 0⟩
def PX_RBDONE.REG : Fld := ⟨0x110010, 31, 0⟩
def PX_RBDONE.MEMBERS : Fld := ⟨0x110010, 31, 0⟩
def PX_RBLEFT.REG : Fld := ⟨0x110014, 31, 0⟩
def PX_RBLEFT.MEMBERS : Fld := ⟨0x110014, 31, 0⟩
def PX_DEGRD.REG : Fld := ⟨0x110018, 31, 0⟩
def PX_DEGRD.DOUBLE : Fld := ⟨0x110018, 31, 16⟩
def PX_DEGRD.SINGLE : Fld := ⟨0x110018, 15, 0⟩
def PX_LOST.REG : Fld := ⟨0x11001C, 31, 0⟩
def PX_LOST.STRIPES : Fld := ⟨0x11001C, 31, 16⟩
def PX_LOST.BLOCKS : Fld := ⟨0x11001C, 15, 0⟩
def PX_PATROL.REG : Fld := ⟨0x110020, 31, 0⟩
def PX_PATROL.ACTIVE : Fld := ⟨0x110020, 31, 31⟩
def PX_PATROL.BANDSET : Fld := ⟨0x110020, 23, 0⟩
def PX_PATEVT.REG : Fld := ⟨0x110024, 31, 0⟩
def PX_PATEVT.FIXED : Fld := ⟨0x110024, 31, 16⟩
def PX_PATEVT.UNLOC : Fld := ⟨0x110024, 15, 0⟩
def PX_SJ.REG : Fld := ⟨0x110028, 31, 0⟩
def PX_SJ.EXTENTS : Fld := ⟨0x110028, 31, 16⟩
def PX_SJ.INFLIGHT : Fld := ⟨0x110028, 11, 0⟩
def PX_SJDEAD.REG : Fld := ⟨0x11002C, 31, 0⟩
def PX_SJDEAD.NEWDEAD : Fld := ⟨0x11002C, 31, 16⟩
def PX_SJDEAD.LIVE : Fld := ⟨0x11002C, 15, 0⟩
def PX_SJERR.REG : Fld := ⟨0x110030, 31, 0⟩
def PX_SJERR.BOTHLOST : Fld := ⟨0x110030, 31, 31⟩
def PX_SJERR.COPY1 : Fld := ⟨0x110030, 23, 12⟩
def PX_SJERR.COPY0 : Fld := ⟨0x110030, 11, 0⟩
def PL_STAT.REG : Fld := ⟨0x120000, 31, 0⟩
def PL_STAT.STATE : Fld := ⟨0x120000, 31, 28⟩
def PL_STAT.ROLE : Fld := ⟨0x120000, 27, 26⟩
def PL_STAT.UNPAIRED : Fld := ⟨0x120000, 25, 25⟩
def PL_STAT.REBUILD : Fld := ⟨0x120000, 24, 24⟩
def PL_STAT.ADOPT : Fld := ⟨0x120000, 23, 23⟩
def PL_STAT.HOLDOVER : Fld := ⟨0x120000, 22, 22⟩
def PL_STAT.NOPROT : Fld := ⟨0x120000, 21, 21⟩
def PL_STAT.SPAREOUT : Fld := ⟨0x120000, 20, 20⟩
def PL_STAT.LINK1 : Fld := ⟨0x120000, 17, 17⟩
def PL_STAT.LINK0 : Fld := ⟨0x120000, 16, 16⟩
def PL_STAT.SHARD : Fld := ⟨0x120000, 5, 0⟩
def PL_MEMBER.REG : Fld := ⟨0x120004, 31, 0⟩
def PL_MEMBER.ROLEGEN : Fld := ⟨0x120004, 31, 16⟩
def PL_MEMBER.ID : Fld := ⟨0x120004, 15, 0⟩
def PL_EPOCH.REG : Fld := ⟨0x120008, 31, 0⟩
def PL_EPOCH.EPOCH : Fld := ⟨0x120008, 31, 0⟩
def PL_NMEMB.REG : Fld := ⟨0x12000C, 31, 0⟩
def PL_NMEMB.COUNT : Fld := ⟨0x12000C, 16, 0⟩
def PL_NFAIL.REG : Fld := ⟨0x120010, 31, 0⟩
def PL_NFAIL.COUNT : Fld := ⟨0x120010, 16, 0⟩
def PL_LEADER.REG : Fld := ⟨0x120014, 31, 0⟩
def PL_LEADER.HEAD : Fld := ⟨0x120014, 31, 16⟩
def PL_LEADER.SHARD : Fld := ⟨0x120014, 15, 0⟩
def PL_TOFF_LO.REG : Fld := ⟨0x120018, 31, 0⟩
def PL_TOFF_LO.OFFSET : Fld := ⟨0x120018, 31, 0⟩
def PL_TOFF_HI.REG : Fld := ⟨0x12001C, 31, 0⟩
def PL_TOFF_HI.OFFSET : Fld := ⟨0x12001C, 31, 0⟩
def PL_PTP.REG : Fld := ⟨0x120020, 31, 0⟩
def PL_PTP.LOCKED : Fld := ⟨0x120020, 31, 31⟩
def PL_PTP.PORT : Fld := ⟨0x120020, 16, 16⟩
def PL_PTP.ABSOFF : Fld := ⟨0x120020, 15, 0⟩
def PL_CONTRIB.REG : Fld := ⟨0x120024, 31, 0⟩
def PL_CONTRIB.HELD : Fld := ⟨0x120024, 31, 16⟩
def PL_CONTRIB.OPEN : Fld := ⟨0x120024, 12, 0⟩
def PL_RX.REG : Fld := ⟨0x120028, 31, 0⟩
def PL_RX.DROP : Fld := ⟨0x120028, 31, 16⟩
def PL_RX.STALE : Fld := ⟨0x120028, 15, 0⟩
def PL_RB.REG : Fld := ⟨0x12002C, 31, 0⟩
def PL_RB.LOSTROWS : Fld := ⟨0x12002C, 31, 16⟩
def PL_RB.FAILED : Fld := ⟨0x12002C, 15, 0⟩
def PL_RBLEFT.REG : Fld := ⟨0x120030, 31, 0⟩
def PL_RBLEFT.ROWS : Fld := ⟨0x120030, 31, 0⟩
def PL_START.REG : Fld := ⟨0x120034, 31, 0⟩
def PL_START.READY : Fld := ⟨0x120034, 31, 16⟩
def PL_START.AGREED : Fld := ⟨0x120034, 15, 0⟩
def SR_IDX_LO.REG : Fld := ⟨0x130000, 31, 0⟩
def SR_IDX_LO.ADDR : Fld := ⟨0x130000, 31, 0⟩
def SR_IDX_HI.REG : Fld := ⟨0x130004, 31, 0⟩
def SR_IDX_HI.ADDR : Fld := ⟨0x130004, 31, 0⟩
def SR_NONCE.REG (j : Nat) : Fld := ⟨0x130008 + j * 4, 31, 0⟩
def SR_NONCE.NONCE (j : Nat) : Fld := ⟨0x130008 + j * 4, 31, 0⟩
def SR_ERR.REG : Fld := ⟨0x130018, 31, 0⟩
def SR_ERR.ORPHAN : Fld := ⟨0x130018, 31, 16⟩
def SR_ERR.PUSHBUSY : Fld := ⟨0x130018, 3, 3⟩
def SR_ERR.BADDB : Fld := ⟨0x130018, 2, 2⟩
def SR_ERR.BADCFG : Fld := ⟨0x130018, 1, 1⟩
def SR_ERR.HOSTERR : Fld := ⟨0x130018, 0, 0⟩
def SR_OVF.REG : Fld := ⟨0x13001C, 31, 0⟩
def SR_OVF.RING : Fld := ⟨0x13001C, 7, 0⟩
def SR_CFG.REG (i : Nat) : Fld := ⟨0x130100 + i * 0x40, 31, 0⟩
def SR_CFG.EN (i : Nat) : Fld := ⟨0x130100 + i * 0x40, 31, 31⟩
def SR_CFG.PORT (i : Nat) : Fld := ⟨0x130100 + i * 0x40, 24, 24⟩
def SR_CFG.CQLOG (i : Nat) : Fld := ⟨0x130100 + i * 0x40, 20, 16⟩
def SR_CFG.SQLOG (i : Nat) : Fld := ⟨0x130100 + i * 0x40, 12, 8⟩
def SR_CFG.IRQEN (i : Nat) : Fld := ⟨0x130100 + i * 0x40, 0, 0⟩
def SR_STAT.REG (i : Nat) : Fld := ⟨0x130104 + i * 0x40, 31, 0⟩
def SR_STAT.STATE (i : Nat) : Fld := ⟨0x130104 + i * 0x40, 31, 30⟩
def SR_STAT.HELD (i : Nat) : Fld := ⟨0x130104 + i * 0x40, 23, 16⟩
def SR_STAT.INFLIGHT (i : Nat) : Fld := ⟨0x130104 + i * 0x40, 15, 8⟩
def SR_STAT.CHAINS (i : Nat) : Fld := ⟨0x130104 + i * 0x40, 2, 0⟩
def SR_SQBASE_LO.REG (i : Nat) : Fld := ⟨0x130108 + i * 0x40, 31, 0⟩
def SR_SQBASE_LO.ADDR (i : Nat) : Fld := ⟨0x130108 + i * 0x40, 31, 0⟩
def SR_SQBASE_HI.REG (i : Nat) : Fld := ⟨0x13010C + i * 0x40, 31, 0⟩
def SR_SQBASE_HI.ADDR (i : Nat) : Fld := ⟨0x13010C + i * 0x40, 31, 0⟩
def SR_CQBASE_LO.REG (i : Nat) : Fld := ⟨0x130110 + i * 0x40, 31, 0⟩
def SR_CQBASE_LO.ADDR (i : Nat) : Fld := ⟨0x130110 + i * 0x40, 31, 0⟩
def SR_CQBASE_HI.REG (i : Nat) : Fld := ⟨0x130114 + i * 0x40, 31, 0⟩
def SR_CQBASE_HI.ADDR (i : Nat) : Fld := ⟨0x130114 + i * 0x40, 31, 0⟩
def SR_DB.REG (i : Nat) : Fld := ⟨0x130118 + i * 0x40, 31, 0⟩
def SR_DB.TAIL (i : Nat) : Fld := ⟨0x130118 + i * 0x40, 15, 0⟩
def SR_PUSHCNT.REG (i : Nat) : Fld := ⟨0x13011C + i * 0x40, 31, 0⟩
def SR_PUSHCNT.COUNT (i : Nat) : Fld := ⟨0x13011C + i * 0x40, 2, 0⟩
def EB_STAT.REG : Fld := ⟨0x140000, 31, 0⟩
def EB_STAT.LOCAL : Fld := ⟨0x140000, 8, 8⟩
def EB_STAT.MISCFG : Fld := ⟨0x140000, 7, 7⟩
def EB_STAT.COORD : Fld := ⟨0x140000, 6, 6⟩
def EB_STAT.CSMA : Fld := ⟨0x140000, 5, 5⟩
def EB_STAT.PLCAOK : Fld := ⟨0x140000, 4, 4⟩
def EB_STAT.ELECT : Fld := ⟨0x140000, 3, 0⟩
def EB_PLCA.REG : Fld := ⟨0x140004, 31, 0⟩
def EB_PLCA.TOTIMER : Fld := ⟨0x140004, 23, 16⟩
def EB_PLCA.COUNT : Fld := ⟨0x140004, 15, 8⟩
def EB_PLCA.NODE : Fld := ⟨0x140004, 7, 0⟩
def EB_MASTER.REG : Fld := ⟨0x140008, 31, 0⟩
def EB_MASTER.MEPOCH : Fld := ⟨0x140008, 31, 16⟩
def EB_MASTER.BAY : Fld := ⟨0x140008, 15, 8⟩
def EB_MASTER.NODE : Fld := ⟨0x140008, 7, 0⟩
def EB_ETOFF.REG : Fld := ⟨0x14000C, 31, 0⟩
def EB_ETOFF.OFFSET : Fld := ⟨0x14000C, 31, 0⟩
def EB_TOKEN.REG : Fld := ⟨0x140010, 31, 0⟩
def EB_TOKEN.HELD : Fld := ⟨0x140010, 31, 31⟩
def EB_TOKEN.PEND : Fld := ⟨0x140010, 30, 30⟩
def EB_TOKEN.FREE : Fld := ⟨0x140010, 23, 16⟩
def EB_TOKEN.TAKEN : Fld := ⟨0x140010, 15, 8⟩
def EB_TOKEN.QUEUE : Fld := ⟨0x140010, 7, 0⟩
def EB_TX.REG : Fld := ⟨0x140014, 31, 0⟩
def EB_TX.SENT : Fld := ⟨0x140014, 31, 16⟩
def EB_TX.DEFER : Fld := ⟨0x140014, 15, 0⟩
def EB_RX.REG : Fld := ⟨0x140018, 31, 0⟩
def EB_RX.RCVD : Fld := ⟨0x140018, 31, 16⟩
def EB_RX.FOREIGN : Fld := ⟨0x140018, 15, 0⟩
def EB_STRANGE.REG : Fld := ⟨0x14001C, 31, 0⟩
def EB_STRANGE.UNKTYPE : Fld := ⟨0x14001C, 31, 16⟩
def EB_STRANGE.UNKNODE : Fld := ⟨0x14001C, 15, 0⟩
def EB_COLL.REG : Fld := ⟨0x140020, 31, 0⟩
def EB_COLL.COLL : Fld := ⟨0x140020, 31, 16⟩
def EB_COLL.DISCARD : Fld := ⟨0x140020, 15, 0⟩
def TH_STAT.REG : Fld := ⟨0x150000, 31, 0⟩
def TH_STAT.TJ : Fld := ⟨0x150000, 31, 16⟩
def TH_STAT.BLIND : Fld := ⟨0x150000, 9, 9⟩
def TH_STAT.TRIPPED : Fld := ⟨0x150000, 8, 8⟩
def TH_STAT.NEXCL : Fld := ⟨0x150000, 7, 3⟩
def TH_STAT.STATE : Fld := ⟨0x150000, 2, 0⟩
def TH_PEAK.REG : Fld := ⟨0x150004, 31, 0⟩
def TH_PEAK.TJMAX : Fld := ⟨0x150004, 15, 0⟩
def TH_LIMITS.REG : Fld := ⟨0x150008, 31, 0⟩
def TH_LIMITS.HYST : Fld := ⟨0x150008, 31, 24⟩
def TH_LIMITS.SHUT : Fld := ⟨0x150008, 23, 16⟩
def TH_LIMITS.THROT : Fld := ⟨0x150008, 15, 8⟩
def TH_LIMITS.WARN : Fld := ⟨0x150008, 7, 0⟩
def TH_EXCL.REG : Fld := ⟨0x15000C, 31, 0⟩
def TH_EXCL.SENS : Fld := ⟨0x15000C, 21, 0⟩
def TH_EVT.REG : Fld := ⟨0x150010, 31, 0⟩
def TH_EVT.THROTTLE : Fld := ⟨0x150010, 31, 16⟩
def TH_EVT.SHUTDOWN : Fld := ⟨0x150010, 15, 0⟩
def TH_SENS.REG (j : Nat) : Fld := ⟨0x150100 + j * 4, 31, 0⟩
def TH_SENS.EXCL (j : Nat) : Fld := ⟨0x150100 + j * 4, 31, 31⟩
def TH_SENS.VALID (j : Nat) : Fld := ⟨0x150100 + j * 4, 30, 30⟩
def TH_SENS.TEMP (j : Nat) : Fld := ⟨0x150100 + j * 4, 15, 0⟩
def SL_STAT.REG : Fld := ⟨0x160000, 31, 0⟩
def SL_STAT.BADREC : Fld := ⟨0x160000, 31, 16⟩
def SL_STAT.CLEARING : Fld := ⟨0x160000, 2, 2⟩
def SL_STAT.TORN : Fld := ⟨0x160000, 1, 1⟩
def SL_STAT.FULL : Fld := ⟨0x160000, 0, 0⟩
def SL_NEXT.REG : Fld := ⟨0x160004, 31, 0⟩
def SL_NEXT.OFFSET : Fld := ⟨0x160004, 22, 0⟩
def SL_GEN.REG : Fld := ⟨0x160008, 31, 0⟩
def SL_GEN.VALUE : Fld := ⟨0x160008, 31, 0⟩
def SL_HOURS.REG : Fld := ⟨0x16000C, 31, 0⟩
def SL_HOURS.VALUE : Fld := ⟨0x16000C, 31, 0⟩
def SL_PCYC.REG : Fld := ⟨0x160010, 31, 0⟩
def SL_PCYC.VALUE : Fld := ⟨0x160010, 31, 0⟩
def SL_UNSAFE.REG : Fld := ⟨0x160014, 31, 0⟩
def SL_UNSAFE.VALUE : Fld := ⟨0x160014, 31, 0⟩
def SL_LOST.REG : Fld := ⟨0x160018, 31, 0⟩
def SL_LOST.FULL : Fld := ⟨0x160018, 31, 16⟩
def SL_LOST.QUEUE : Fld := ⟨0x160018, 15, 0⟩
def SL_SUPP.REG : Fld := ⟨0x16001C, 31, 0⟩
def SL_SUPP.COUNT : Fld := ⟨0x16001C, 31, 0⟩
def SL_CURSOR.REG : Fld := ⟨0x160040, 31, 0⟩
def SL_CURSOR.OFFSET : Fld := ⟨0x160040, 22, 3⟩
def SL_WIN.REG (j : Nat) : Fld := ⟨0x160100 + j * 4, 31, 0⟩
def SL_WIN.DATA (j : Nat) : Fld := ⟨0x160100 + j * 4, 31, 0⟩
def GA_ARMED_LO.REG : Fld := ⟨0x170000, 31, 0⟩
def GA_ARMED_LO.ARMED : Fld := ⟨0x170000, 31, 0⟩
def GA_ARMED_HI.REG : Fld := ⟨0x170004, 31, 0⟩
def GA_ARMED_HI.ARMED : Fld := ⟨0x170004, 31, 0⟩
def GA_ALARM_LO.REG : Fld := ⟨0x170008, 31, 0⟩
def GA_ALARM_LO.ALARM : Fld := ⟨0x170008, 31, 0⟩
def GA_ALARM_HI.REG : Fld := ⟨0x17000C, 31, 0⟩
def GA_ALARM_HI.ALARM : Fld := ⟨0x17000C, 31, 0⟩
def GA_CTL.REG (i : Nat) : Fld := ⟨0x171000 + i * 0x100, 31, 0⟩
def GA_CTL.SRC (i : Nat) : Fld := ⟨0x171000 + i * 0x100, 31, 24⟩
def GA_CTL.INST (i : Nat) : Fld := ⟨0x171000 + i * 0x100, 23, 16⟩
def GA_CTL.SHIFT (i : Nat) : Fld := ⟨0x171000 + i * 0x100, 12, 8⟩
def GA_CTL.ARMED (i : Nat) : Fld := ⟨0x171000 + i * 0x100, 0, 0⟩
def GA_GEN.REG (i : Nat) : Fld := ⟨0x171004 + i * 0x100, 31, 0⟩
def GA_GEN.VALUE (i : Nat) : Fld := ⟨0x171004 + i * 0x100, 31, 0⟩
def GA_ALARMTH.REG (i : Nat) : Fld := ⟨0x171008 + i * 0x100, 31, 0⟩
def GA_ALARMTH.VALUE (i : Nat) : Fld := ⟨0x171008 + i * 0x100, 31, 0⟩
def GA_COUNT.REG (i : Nat) : Fld := ⟨0x17100C + i * 0x100, 31, 0⟩
def GA_COUNT.VALUE (i : Nat) : Fld := ⟨0x17100C + i * 0x100, 31, 0⟩
def GA_ARMTICK.REG (i : Nat) : Fld := ⟨0x171018 + i * 0x100, 31, 0⟩
def GA_ARMTICK.VALUE (i : Nat) : Fld := ⟨0x171018 + i * 0x100, 31, 0⟩
def GA_MIN.REG (i : Nat) : Fld := ⟨0x171010 + i * 0x100, 31, 0⟩
def GA_MIN.VALUE (i : Nat) : Fld := ⟨0x171010 + i * 0x100, 31, 0⟩
def GA_MAX.REG (i : Nat) : Fld := ⟨0x171014 + i * 0x100, 31, 0⟩
def GA_MAX.VALUE (i : Nat) : Fld := ⟨0x171014 + i * 0x100, 31, 0⟩
def GA_BIN.REG (i : Nat) (j : Nat) : Fld := ⟨0x171080 + i * 0x100 + j * 4, 31, 0⟩
def GA_BIN.COUNT (i : Nat) (j : Nat) : Fld := ⟨0x171080 + i * 0x100 + j * 4, 31, 0⟩
def SC_STAT.REG : Fld := ⟨0x180000, 31, 0⟩
def SC_STAT.TESTMODE : Fld := ⟨0x180000, 7, 7⟩
def SC_STAT.UNPATCHED : Fld := ⟨0x180000, 6, 6⟩
def SC_STAT.AREA1 : Fld := ⟨0x180000, 5, 5⟩
def SC_STAT.AREA : Fld := ⟨0x180000, 4, 4⟩
def SC_STAT.PSLOT : Fld := ⟨0x180000, 3, 3⟩
def SC_FLOORA.REG : Fld := ⟨0x180004, 31, 0⟩
def SC_FLOORA.FLOOR : Fld := ⟨0x180004, 31, 0⟩
def SC_FLOORP.REG : Fld := ⟨0x180008, 31, 0⟩
def SC_FLOORP.FLOOR : Fld := ⟨0x180008, 31, 0⟩
def SC_OTP.REG : Fld := ⟨0x18000C, 31, 0⟩
def SC_OTP.LEFTP : Fld := ⟨0x18000C, 15, 8⟩
def SC_OTP.LEFTA : Fld := ⟨0x18000C, 7, 0⟩
def SC_IDENT.REG (j : Nat) : Fld := ⟨0x180010 + j * 4, 31, 0⟩
def SC_IDENT.IDENT (j : Nat) : Fld := ⟨0x180010 + j * 4, 31, 0⟩
def SC_EVT.REG : Fld := ⟨0x180030, 31, 0⟩
def SC_EVT.SPDM : Fld := ⟨0x180030, 31, 16⟩
def SC_EVT.REFUSED : Fld := ⟨0x180030, 15, 0⟩
def FB_STAT.REG : Fld := ⟨0x190000, 31, 0⟩
def FB_STAT.BASENOTE : Fld := ⟨0x190000, 31, 31⟩
def FB_STAT.HALT : Fld := ⟨0x190000, 30, 30⟩
def FB_STAT.FAULTL : Fld := ⟨0x190000, 29, 29⟩
def FB_STAT.ALERTL : Fld := ⟨0x190000, 28, 28⟩
def FB_STAT.CAUSE : Fld := ⟨0x190000, 23, 16⟩
def FB_STAT.EXTRA : Fld := ⟨0x190000, 15, 8⟩
def FB_BNINFO.REG : Fld := ⟨0x190004, 31, 0⟩
def FB_BNINFO.DETAIL : Fld := ⟨0x190004, 31, 0⟩
def FB_BNTICK_LO.REG : Fld := ⟨0x190008, 31, 0⟩
def FB_BNTICK_LO.TICK : Fld := ⟨0x190008, 31, 0⟩
def FB_BNTICK_HI.REG : Fld := ⟨0x19000C, 31, 0⟩
def FB_BNTICK_HI.TICK : Fld := ⟨0x19000C, 31, 0⟩
def FB_ALERT.REG : Fld := ⟨0x190010, 31, 0⟩
def FB_ALERT.POOL : Fld := ⟨0x190010, 8, 8⟩
def FB_ALERT.ENCL : Fld := ⟨0x190010, 7, 7⟩
def FB_ALERT.DATA : Fld := ⟨0x190010, 6, 6⟩
def FB_ALERT.UNIT : Fld := ⟨0x190010, 5, 5⟩
def FB_ALERT.DOMAIN : Fld := ⟨0x190010, 4, 4⟩
def FB_ALERT.SPINDLE : Fld := ⟨0x190010, 3, 3⟩
def FB_ALERT.SPARE : Fld := ⟨0x190010, 2, 2⟩
def FB_ALERT.VMRIDE : Fld := ⟨0x190010, 1, 1⟩
def FB_ALERT.THERMAL : Fld := ⟨0x190010, 0, 0⟩
def FB_DOMA.REG : Fld := ⟨0x190020, 31, 0⟩
def FB_DOMA.CAUSE : Fld := ⟨0x190020, 31, 24⟩
def FB_DOMA.FAULTS : Fld := ⟨0x190020, 23, 16⟩
def FB_DOMA.RESTORES : Fld := ⟨0x190020, 15, 8⟩
def FB_DOMA.HOLD : Fld := ⟨0x190020, 0, 0⟩
def FB_DOMB.REG : Fld := ⟨0x190024, 31, 0⟩
def FB_DOMB.CAUSE : Fld := ⟨0x190024, 31, 24⟩
def FB_DOMB.FAULTS : Fld := ⟨0x190024, 23, 16⟩
def FB_DOMB.RESTORES : Fld := ⟨0x190024, 15, 8⟩
def FB_DOMB.HOLD : Fld := ⟨0x190024, 0, 0⟩
def FB_DOMP.REG : Fld := ⟨0x190028, 31, 0⟩
def FB_DOMP.CAUSE : Fld := ⟨0x190028, 31, 24⟩
def FB_DOMP.FAULTS : Fld := ⟨0x190028, 23, 16⟩
def FB_DOMP.RESTORES : Fld := ⟨0x190028, 15, 8⟩
def FB_DOMP.HOLD : Fld := ⟨0x190028, 0, 0⟩
def FB_DOME.REG : Fld := ⟨0x19002C, 31, 0⟩
def FB_DOME.CAUSE : Fld := ⟨0x19002C, 31, 24⟩
def FB_DOME.FAULTS : Fld := ⟨0x19002C, 23, 16⟩
def FB_DOME.RESTORES : Fld := ⟨0x19002C, 15, 8⟩
def FB_DOME.HOLD : Fld := ⟨0x19002C, 0, 0⟩
def FB_NOTPERM.REG : Fld := ⟨0x190030, 31, 0⟩
def FB_NOTPERM.COUNT : Fld := ⟨0x190030, 31, 0⟩

end Sys2Proof.Machine
end

