-- ==== Sys2Proof/Machine/SMap.lean ====
section
/-! DEFINITION. Sparse storage in one canonical form: a list of (key, value) pairs, keys strictly rising, and no
entry that equals what an unlisted key reads as. Registers, HBM, MRAM, host memory and the tables keyed by number
are all held this way, so that equal contents are equal data. -/
namespace Sys2Proof.Machine

/-- What key `k` reads as; `d` says what an unlisted key reads as. -/
def SMap.get {α : Type} (d : Nat → α) : List (Nat × α) → Nat → α
  | [], k => d k
  | (j, v) :: m, k => if j = k then v else SMap.get d m k

/-- `m` with an entry for `k`, at its place in the rising order. -/
def SMap.insert {α : Type} : List (Nat × α) → Nat → α → List (Nat × α)
  | [], k, v => [(k, v)]
  | (j, w) :: m, k, v =>
    if k < j then (k, v) :: (j, w) :: m
    else if j = k then (k, v) :: m
    else (j, w) :: SMap.insert m k v

/-- `m` without any entry for `k`. -/
def SMap.erase {α : Type} : List (Nat × α) → Nat → List (Nat × α)
  | [], _ => []
  | (j, w) :: m, k => if j = k then SMap.erase m k else (j, w) :: SMap.erase m k

/-- `m` with key `k` reading `v`; the entry goes where `v` is what an unlisted `k` reads as. -/
def SMap.set {α : Type} [DecidableEq α] (d : Nat → α) (m : List (Nat × α)) (k : Nat) (v : α) : List (Nat × α) :=
  if v = d k then SMap.erase m k else SMap.insert m k v

/-- `m` with what key `k` reads as replaced by `f` of it. -/
def SMap.modify {α : Type} [DecidableEq α] (d : Nat → α) (m : List (Nat × α)) (k : Nat) (f : α → α) : List (Nat × α) :=
  SMap.set d m k (f (SMap.get d m k))

/-- `m` with `f` applied to every listed value; entries that come to their unlisted value go. -/
def SMap.mapAll {α : Type} [DecidableEq α] (d : Nat → α) (m : List (Nat × α)) (f : Nat → α → α) : List (Nat × α) :=
  (m.map (fun x => (x.1, f x.1 x.2))).filter (fun x => decide (x.2 ≠ d x.1))

/-- The canonical form: keys strictly rising from above `lo`, no entry at its unlisted value. -/
def SMap.wfFrom {α : Type} [DecidableEq α] (d : Nat → α) : Option Nat → List (Nat × α) → Bool
  | _, [] => true
  | none, (j, w) :: m => decide (w ≠ d j) && SMap.wfFrom d (some j) m
  | some l, (j, w) :: m => decide (l < j) && decide (w ≠ d j) && SMap.wfFrom d (some j) m

/-- The canonical form of a sparse list. -/
def SMap.wf {α : Type} [DecidableEq α] (d : Nat → α) (m : List (Nat × α)) : Bool := SMap.wfFrom d none m

end Sys2Proof.Machine
end

