-- ==== Sys2Proof/Machine/TypesCore.lean ====
section
/-! DEFINITION. The parts of State for the core of the block: pins, power, domains, faults, Accord, Sillage and the
other units of chapters 01 to 04, 21 to 24. Numbers of ticks are 40 ns ordering ticks (R56). -/
namespace Sys2Proof.Machine

/-- A pair of like things, one for each actuator. -/
structure PerAct (α : Type) where
  A : α
  B : α
  deriving DecidableEq, Repr

/-- The part of actuator `a`. -/
def PerAct.at {α : Type} (p : PerAct α) : Act → α
  | .A => p.A
  | .B => p.B

/-- `p` with the part of actuator `a` replaced. -/
def PerAct.put {α : Type} (p : PerAct α) (a : Act) (v : α) : PerAct α :=
  match a with
  | .A => { p with A := v }
  | .B => { p with B := v }

/-- The output pins of R85 that carry behaviour. Every Bool is true while the pin is driven to its active level
(asserted for an _L pin, driven on for a gate). -/
structure Pins where
  faultL : Bool
  thermtripL : Bool
  /-- RET_A_L and RET_B_L (R104) -/
  ret : PerAct Bool
  brkG : Bool
  /-- PW_SEQ0 to PW_SEQ5 (R89), bit n for PW_SEQn -/
  seq : BitVec 6
  /-- pulses given on ET_PPS (R506) -/
  etPps : Nat
  /-- write gates PA_A_WG0, PA_A_WG1, PA_B_WG0, PA_B_WG1, by slot number 0 to 3 -/
  gates : List (Nat × Bool)
  vcmEn : PerAct Bool
  /-- VCM_x_CMD as the coarse command in force, in units of SV_VCM.CMD -/
  vcmCmd : PerAct Int
  /-- the 12-bit code of the VCM_x_CMD converter: 2,048 at 0.6 V, full scale for VCMFS (R296) -/
  vcmCode : PerAct Nat
  /-- load strobes given on MA_x_LD -/
  maLd : PerAct Nat
  bfRstL : Bool
  deriving DecidableEq, Repr

/-- Where the rail sequencer stands (R90, R91, R92). -/
inductive SeqPhase where
  /-- outputs low: PORST_L low, or a reset held -/
  | off
  /-- PW_SEQn is high and its rail is not yet in range -/
  | waitRail (n : Nat)
  /-- the rail of PW_SEQn is in range and its 1 ms dwell runs -/
  | dwell (n : Nat)
  /-- all six rails in range, dwell done -/
  | done
  /-- 100 ms wait before the repeat of R91 -/
  | retryWait
  /-- the hold of R91: repeat failed too -/
  | hold
  /-- controlled power-down of R92: PW_SEQn fell last and its rail is falling -/
  | down (n : Nat)
  deriving DecidableEq, Repr

/-- Power supply and power state beside the PW registers. -/
structure Power where
  phase : SeqPhase
  /-- 1 in the first rail sequence, 2 in its repeat (R91) -/
  attempt : Nat
  /-- a sequence failure to be recorded once Sillage records (R91) -/
  failRecord : Option Nat
  /-- tick at which Ride-through was entered from Normal, until that ride-through has ended (R98) -/
  rideStart : Option Nat
  rideTimer : Bool
  msTimer : Bool
  /-- VM has been above warning clear for 1 ms since it was last below the warning threshold (R97, R102) -/
  vmGood : Bool
  /-- the VM state is frozen by a thermal shutdown (R102) -/
  frozen : Bool
  /-- no write slot starts a frame (R69, R98) -/
  frameBar : Bool
  /-- no media command starts (R98, R615) -/
  mediaHold : Bool
  /-- a VM loss is being ridden through and is counted when VM is Normal again (R620) -/
  lossOpen : Bool
  /-- the device waits in the supply reset of R94 -/
  supplyReset : Bool
  /-- Hibernate (R108) -/
  hibernate : Bool
  /-- Hibernate entry in progress: rails to fall after parking and stopping (R110) -/
  hibernatePending : Bool
  /-- Standby entry in progress: parking and braking (R110) -/
  standbyPending : Bool
  /-- the drain before Standby or Hibernate is over: the actuators park and the spindle brakes (R110) -/
  parking : Bool
  /-- return from Standby to Active in progress (R110) -/
  wakePending : Bool
  /-- a power-state request deferred until VM state Normal (R101) or until AC_STAT.BUSY is 0 (R136) -/
  deferred : Option Nat
  /-- PORST_L is high -/
  porst : Bool
  /-- PCIe links are down until VSER has been back for 10 ms (R93) -/
  vserDown : Bool
  deriving DecidableEq, Repr

/-- The states of a domain that can be serviced (R30). -/
inductive DomState where
  | serving | quiescing | down | restoring
  deriving DecidableEq, Repr

/-- Who asked for a take-down, a restore or a load (R34, R694, R663). -/
inductive Requester where
  /-- the steward, for itself (R60, R98, R616, R663, R694) -/
  | steward
  /-- a service-ring descriptor: ring and TAG -/
  | ring (r tag : Nat)
  /-- a domain image's load (R134) or a domain bundle's (R175) -/
  | load
  deriving DecidableEq, Repr

/-- What is loaded into a domain while it is Down (R30). -/
inductive LoadKind where
  | accord | patch
  deriving DecidableEq, Repr

/-- One domain of R30. -/
structure DomSt where
  st : DomState
  load : Option LoadKind
  takedown : Option Requester
  restore : Option Requester
  /-- a restore of a Serving domain is held or loading (R31) -/
  held : Bool
  /-- the load of R31 has started -/
  heldLoading : Bool
  parkReq : Bool
  /-- tick at which the domain left Serving, or its actuator was parked (R39, R31) -/
  leftTick : Nat
  /-- tick of the last entry into Serving (R663) -/
  servedTick : Nat
  everServed : Bool
  /-- failed restarts of DE in succession (R663) -/
  restartFails : Nat
  /-- the boot restore of R694 has been issued -/
  bootRestored : Bool
  /-- tick of the last automatic restore (R663, R672) -/
  autoTick : Option Nat
  deriving DecidableEq, Repr

/-- One Sillage record waiting in the queue of R623: its code, the tick of its event and its FIELDS. -/
structure SilRec where
  code : Nat
  tick : Nat
  fields : List Byte
  deriving DecidableEq, Repr

/-- A token bucket and the suppression count of one Sillage code (R624, R626). Tokens are counted in 1/3,600 of a
token per 25,000,000 ticks of one second: `level` is tokens x 3,600 x 25,000,000. -/
structure Bucket where
  level : Nat
  lastTick : Nat
  /-- suppressed since the last summary -/
  count : Nat
  first : Nat
  last : Nat
  deriving DecidableEq, Repr

/-- Sillage beside its registers and its bytes in MRAM. -/
structure SilSt where
  queue : List SilRec
  buckets : List (Nat × Option Bucket)
  /-- the boot in hand was counted in UNSAFE (R620) -/
  bootUnsafe : Bool
  /-- SEQ of the last stamp slot written (R619) -/
  stampSeq : Nat
  /-- gauges that have alarmed since they were armed (R636) -/
  gaugeAlarmed : List Nat
  /-- DURATION in ms of each gauge as last armed, 0 for unlimited (R634) -/
  gaugeDur : List (Nat × Nat)
  deriving DecidableEq, Repr

/-- One temperature sensor of R608 beside TH_SENS. -/
structure Sensor where
  /-- consecutive conversions at or above WARN, THROT and SHUT (R612) -/
  nWarn : Nat
  nThrot : Nat
  nShut : Nat
  prev : Option Nat
  /-- tick of the first of the conversions in a row that have differed from the reference by more than 8 degrees (R609) -/
  offSince : Option Nat
  /-- tick of the last conversion -/
  last : Nat
  deriving DecidableEq, Repr

/-- Thermal protection beside the TH registers. -/
structure ThermalSt where
  sensors : List (Nat × Sensor)
  /-- ticks of the thermal shutdowns of the last hour (R613) -/
  shutTicks : List Nat
  shutTick : Nat
  /-- TJ at the last shutdown (R664) -/
  shutTj : Nat
  /-- TJ has been below the level that ends the current state since this tick, or since the entry into the state (R613) -/
  below : Option Nat
  deriving DecidableEq, Repr

/-- The states of a slot of boot flash, by its marks (R112, R644). -/
structure Marks where
  tried : Bool
  commit : Bool
  revoke : Bool
  /-- RELAYOUT of an Accord slot (R112), ACTIVATE of a patch slot (R644) -/
  extra : Bool
  deriving DecidableEq, Repr

/-- One image slot of boot flash: its bytes (empty list: erased) and its marks. -/
structure FlashSlot where
  image : List Byte
  marks : Marks
  deriving DecidableEq, Repr

/-- The non-volatile parts outside MRAM and the media: boot flash and OTP. -/
structure NonVol where
  accord : List (Nat × FlashSlot)
  patch : List (Nat × FlashSlot)
  /-- key certificate areas, copies 0 and 1 (R641) -/
  areas : List (Nat × List Byte)
  /-- SPDM certificate chain of slot 0 (R654) -/
  spdmChain : List Byte
  /-- OTP records of the Accord and patch rollback floors (R646, R647) -/
  floorA : List (List Byte)
  floorP : List (List Byte)
  deriving DecidableEq, Repr

/-- Who waits for an Accord or firmware store (R131, R650). -/
inductive StoreOwner where
  | ring (r tag : Nat)
  | firmware (ctrl sq cid : Nat)
  deriving DecidableEq, Repr

/-- A store of an Accord image in progress (R131 to R136). -/
structure StoreOp where
  owner : StoreOwner
  image : List Byte
  slot : Nat
  relayout : Bool
  apply : Bool
  written : Bool
  deriving DecidableEq, Repr

/-- The Accord beside the AC registers. -/
structure AccordSt where
  /-- the applied image; empty: none applied (R127) -/
  applied : List Byte
  /-- the image AC_GEN and AC_WIN still show while a domain image's sections are being restored (R135) -/
  prev : Option (List Byte)
  store : Option StoreOp
  /-- media copies on the checkpoint surfaces of A and B (R114) -/
  mediaCopy : PerAct (List Byte)
  /-- layout digest stored with the map checkpoint on the media (R128) -/
  layoutDigest : Option (List Byte)
  /-- the slot this boot applied from the Pending state, whose COMMIT is still to come (R129) -/
  trial : Option Nat
  /-- both actuators have been Following since the boot (R114) -/
  copyDue : Bool
  deriving DecidableEq, Repr

/-- An SPDM requester's exchange (R654): how far the opening has come (1 version, 2 capabilities, 3 algorithms), and what has passed
that the next signatures cover: the opening, digests and certificates, measurements. -/
structure SpdmSt where
  stage : Nat
  opening : List Byte
  certs : List Byte
  meas : List Byte
  deriving DecidableEq, Repr

/-- The SC block beside its registers: the key certificate area in use, SPDM exchanges by channel (0 and 1 MCTP on the functions, 2
and 3 protocol 0xE8 of the controllers), MCTP endpoint IDs by function, responses awaiting Security Receive by controller, and
the vendor-defined messages sent, by function. -/
structure SecSt where
  area : List Byte
  spdm : List (Nat × SpdmSt)
  eids : List (Nat × Nat)
  replies : List (Nat × List Byte)
  vdm : List (Nat × List Byte)
  deriving DecidableEq, Repr

/-- An NVMe asynchronous event (R659): type, information, log page. -/
structure AsyncEvent where
  type : Nat
  info : Nat
  page : Nat
  deriving DecidableEq, Repr

/-- Fault handling beside the FB registers. -/
structure FaultSt where
  /-- the steward's restart of R665 is still to come -/
  restartDue : Bool
  /-- tick of Base-note entry -/
  entryTick : Nat
  deriving DecidableEq, Repr

end Sys2Proof.Machine
end

