-- ==== Sys2Proof/Machine/TypesEngine.lean ====
section
/-! DEFINITION. The parts of State for the steward, the helpers, the memories, the map cache and the block movers
(chapters 05 to 08). -/
namespace Sys2Proof.Machine

/-- A 64-byte message (R162). Endpoints are 0 to 23 for the helpers and 31 for the steward. -/
structure Msg where
  src : Nat
  dst : Nat
  dstGen : Nat
  srcGen : Nat
  type : Nat
  status : Nat
  tag : Nat
  tick : Nat
  payload : List Byte
  deriving DecidableEq, Repr

/-- The patch words and match registers of one half, or of the shadow set (R139, R144, R172). A match is the pair of
the address compared (BANK x 8192 + ROMADDR of a helper, ROMBLK of the steward) and PATCHADDR. -/
structure PatchSet where
  gen : Nat
  mtab : List (Nat × Nat)
  words : List (Nat × Microword)
  units : Nat
  deriving DecidableEq, Repr

/-- One helper beside its HE registers (R144). -/
structure Helper where
  regs : List (Nat × Word64)
  localStore : List (Nat × Code80)
  /-- return stack: (space, microword address), top first -/
  rstack : List (Nat × Nat)
  /-- next microword: space as HE_FAULT.SPACE and address -/
  space : Nat
  pc : Nat
  /-- microwords issued since the last safe point (R152) -/
  count : Nat
  /-- condition flags of the ALU -/
  flags : Nat
  ue : Bool
  inbox : List Msg
  outbox : List Msg
  errq : List Msg
  /-- pending events not yet taken at a safe point (R151): 16 x class + kind of R65 -/
  events : List Nat
  /-- a stop request waits for the next safe point (R151) -/
  stopReq : Bool
  /-- the drain is over: the helper halts at the next safe point (R153) -/
  haltReq : Bool
  /-- how the last stop request was completed, as a status code of R576 (R156, R168) -/
  stopStatus : Option Nat
  /-- a microword with SP waits for its fabric access: its safe point follows that -/
  spDue : Bool
  /-- a second deadline in a row was missed: the watchdog finds it at the next safe point (R151, R155) -/
  watchdog : Bool
  /-- a patch swap is signalled and waits for the next safe point (R175) -/
  swapReq : Bool
  /-- work items in flight: (originator endpoint, TAG) -/
  work : List (Nat × Nat)
  /-- the microword waits for a cache fill (R216) -/
  blocked : Bool
  /-- words pushed to an island and not yet accepted by it (R170) -/
  pushFifo : List Word64
  active : PatchSet
  shadow : Option PatchSet
  deriving DecidableEq, Repr

/-- The steward beside its ST registers (R139). -/
structure StewardSt where
  inbox : List Msg
  outbox : List Msg
  errq : List Msg
  active : PatchSet
  shadow : Option PatchSet
  /-- patch RAM, two halves of 4,096 words each, as stored words -/
  patchRam : List (Nat × Code80)
  inHandler : Bool
  /-- the last instruction fetched: from patch RAM (1) or the ROM (0), and its byte address (R140) -/
  fetch : Nat × Nat
  /-- ticks of the latest traps (R142) -/
  trapTicks : List Nat
  /-- an uncorrectable HBM or MRAM load has set the status flag of R204 -/
  ueFlag : Bool
  /-- tick at which the main loop was last reached -/
  loopTick : Nat
  blocked : Bool
  /-- a FENCE is not complete yet: no later instruction is executed (R171) -/
  fencing : Bool
  deriving DecidableEq, Repr

/-- The fabric: messages waiting for full inboxes in order of arrival (R166), messages on their way back to their
senders (R167), and the patch work in progress. -/
structure FabricSt where
  waiting : List Msg
  returning : List Msg
  /-- bundle staged for activation (R175): its generation, or 0 for none -/
  staged : Nat
  /-- the role whose helpers are to swap, in ascending order; 13: all have, the steward is last (R175) -/
  swapRole : Option Nat
  /-- domain bundles: domain code and bundle waiting for its load (R178) -/
  domainBundles : List (Nat × List Byte × StoreOwner)
  /-- faulted helpers and the spares being re-roled for them (R158, R159) -/
  replacing : List (Nat × Nat)
  /-- spare, and the role and parameter it is owed once Stopped (R159) -/
  owed : List (Nat × Nat × Nat)
  /-- domain bundles in effect, by domain code (R178, R655) -/
  domInEffect : List (Nat × List Byte)
  /-- domain code and the domain bundle in effect before the load under way; empty: none (R30, R178) -/
  domPrev : List (Nat × List Byte)
  /-- the full bundle in effect; empty: none (R175) -/
  bundle : List Byte
  deriving DecidableEq, Repr

/-- The memories: stored 80-bit words by word index, unlisted words being unwritten (R196, R202). -/
structure MemSt where
  hbm : List (Nat × Code80)
  mram : List (Nat × Code80)
  ssram : List (Nat × Code80)
  /-- Blotter operation in progress: its OP code -/
  blotter : Option Nat
  /-- failed stacks (bits 3:0) and dies (bits 7:4) found at boot (R185) -/
  failed : Nat
  /-- words of the map cache's pad line in the data array (R208), by index -/
  pad : List (Nat × Code80)
  /-- 64-byte lines written to the journal ring and to one copy of the stripe-journal ring since manufacture (R195) -/
  jWrites : Nat
  sWrites : Nat
  /-- wear levels recorded (R195): bit 0 journal 50, 1 journal 90, 2 stripe 50, 3 stripe 90 -/
  wearMarks : Nat
  deriving DecidableEq, Repr

/-- A line of the map cache (R211). -/
structure CacheLine where
  la : Nat
  dirty : Bool
  words : List Code80
  deriving DecidableEq, Repr

/-- An access of a requester to bytes of one cached line. -/
inductive CacheOp where
  /-- load `n` bytes as bytes `dst` onward of a `total`-byte value that goes to register `reg` and, beyond 8 bytes, to
  the registers after it -/
  | load (n dst total reg : Nat)
  | store (data : List Byte)
  /-- line operation: 0 Clean, 1 Invalidate, 2 Clean and invalidate, 3 Zero -/
  | line (op : Nat)
  deriving DecidableEq, Repr

/-- A request: requester endpoint, device address and access; `more` is the part of the same access that lies in the next line; what
fails below it (R184, R233). -/
structure CacheReq where
  who : Nat
  addr : Nat
  op : CacheOp
  more : Option (Nat × CacheOp)
  faults : MemFaults
  deriving DecidableEq, Repr

/-- A fill in progress and its waiting requests in arrival order (R216, R217); `prefetch` fills go to the side buffer. -/
structure Fill where
  la : Nat
  waiting : List CacheReq
  prefetch : Bool
  /-- a prefetch that waits for demand work on its pseudo-channel before it uses HBM (R221) -/
  held : Bool
  /-- the line has come and waits for an eviction-buffer entry (R226) -/
  words : Option (List Code80)
  deriving DecidableEq, Repr

/-- An eviction-buffer entry (R224). -/
structure EvEntry where
  la : Nat
  words : List Code80
  issued : Bool
  deriving DecidableEq, Repr

/-- A prefetch stream (R220): stride 0 is unset. -/
structure Stream where
  who : Nat
  la : Nat
  stride : Int
  confirmed : Bool
  deriving DecidableEq, Repr

/-- The map cache beside its CA registers. -/
structure CacheSt where
  lines : List (Nat × Option CacheLine)
  plru : List (Nat × Nat)
  fills : List Fill
  side : List CacheLine
  evb : List EvEntry
  streams : List Stream
  /-- per requester: sequence count and line of the last store (R219) -/
  seqs : List (Nat × Option (Nat × Nat))
  /-- line operations waiting on a write-back: requester, line, and whether the entry leaves as a dropped line -/
  waitWb : List (Nat × Nat)
  /-- a dirty line found with a parity error: the DC fault it raises (R233) is taken at the end of the command -/
  dcFault : Option Nat
  deriving DecidableEq, Repr

/-- A register set of a mover channel (R237). -/
structure MoverSet where
  srcSp : Nat
  src : Nat
  dstSp : Nat
  dst : Nat
  len : Nat
  fence : Bool
  owner : Nat
  deriving DecidableEq, Repr

/-- A mover channel beside its DM registers. `active` is the set as loaded; the registers show its progress. -/
structure Channel where
  active : Option MoverSet
  shadow : Option MoverSet
  started : Bool
  deriving DecidableEq, Repr

/-- The block movers. -/
structure MoversSt where
  chans : List (Nat × Channel)
  /-- channel last served, by mover (R240) -/
  served : List (Nat × Nat)
  deriving DecidableEq, Repr

end Sys2Proof.Machine
end

