-- ==== Sys2Proof/Machine/TypesHost.lean ====
section
/-! DEFINITION. The parts of State for the host interface, the service rings, the page map, the write journal and
security (chapters 15, 18, 19, 23). -/
namespace Sys2Proof.Machine

/-- A completion status (R568): status code type, status code, Do Not Retry, command retry delay. -/
structure NvStatus where
  sct : Nat
  sc : Nat
  dnr : Bool
  crd : Nat
  deriving DecidableEq, Repr

/-- A contiguous range of global blocks that a command locks (R560). -/
structure Lock where
  start : Nat
  len : Nat
  excl : Bool
  deriving DecidableEq, Repr

/-- A command in flight (R543). -/
structure Cmd where
  ctrl : Nat
  sq : Nat
  e : SqEntry
  /-- place in the order of fetching, over both controllers (R560) -/
  seq : Nat
  fetchTick : Nat
  locks : List Lock
  /-- its range-lock entries are taken (R561) -/
  taken : Bool
  /-- all its range locks are granted (R560) -/
  granted : Bool
  /-- a check at the fetch failed with this status, which a Fence ahead still holds back (R556) -/
  fault : Option NvStatus
  /-- a Fence: the number of earlier commands (R556) -/
  earlier : Nat
  started : Bool
  /-- every write group of the command is durable (R461) -/
  durable : Bool
  /-- write-group lines issued so far (R461, R565) -/
  issued : Bool
  /-- the command needs host transfers (R563) -/
  transfer : Bool
  /-- a completion waiting for earlier commands of an ordered queue (R555) -/
  ready : Option (NvStatus × Nat)
  /-- PFNs of frames still being recovered or restored for a read -/
  waits : List Nat
  /-- data that came with the command: blocks of a Write, of a Compare, ranges of Dataset Management -/
  data : List Byte
  deriving DecidableEq, Repr

/-- A completion entry posted to host memory. -/
structure Cqe where
  ctrl : Nat
  cq : Nat
  sq : Nat
  cid : Nat
  st : NvStatus
  dw0 : Nat
  sqHead : Nat
  phase : Bool
  deriving DecidableEq, Repr

/-- A submission queue; queue 0 is the admin queue. -/
structure SubQ where
  size : Nat
  head : Nat
  tail : Nat
  cq : Nat
  prio : Nat
  ordered : Bool
  /-- being deleted: no new work (R563) -/
  draining : Bool
  deriving DecidableEq, Repr

/-- A completion queue. -/
structure ComQ where
  size : Nat
  head : Nat
  tail : Nat
  phase : Bool
  vector : Nat
  irq : Bool
  /-- completions held while the queue is full, oldest first (R545) -/
  held : List Cqe
  /-- completions posted since the last interrupt (R546) -/
  coal : Nat
  deriving DecidableEq, Repr

/-- Where the arbitration of a controller stands (R544): by class the queue served last and what is left of its burst (class 0 is the
urgent one, and all queues under plain round robin; 1, 2, 3 high, medium, low), then the class in turn of the weighted three and what
is left of its weight. -/
structure Arb where
  turns : List (Nat × Nat)
  cls : Nat
  credit : Nat
  deriving DecidableEq, Repr

/-- One NVMe controller (R534) with its link and function. -/
structure Ctrl where
  linkUp : Bool
  /-- PERST_L of the port is high -/
  perst : Bool
  en : Bool
  crime : Bool
  wrr : Bool
  shn : Nat
  rdy : Bool
  cfs : Bool
  shst : Nat
  pp : Bool
  busMaster : Bool
  /-- fetching stopped by shutdown or activation -/
  stopped : Bool
  arb : Arb
  sqs : List (Nat × Option SubQ)
  cqs : List (Nat × Option ComQ)
  /-- SQ identifiers marked ordered before creation (R555) -/
  orderedMarks : List Nat
  /-- CIDs of held Asynchronous Event Requests -/
  aers : List Nat
  /-- asynchronous events waiting for a request -/
  events : List AsyncEvent
  /-- events reported and not yet cleared by a read of their log page, as type x 65536 + log page -/
  aerMasked : List Nat
  /-- (sq, cid) to abort when fetched (R565) -/
  abortMarks : List (Nat × Nat)
  /-- feature values by FID, default 0; key FID x 65536 + selector -/
  features : List (Nat × Nat)
  /-- function draining after Bus Master Enable was cleared -/
  bmeDrain : Bool
  /-- NSIDs attached -/
  attached : List Nat
  changedNs : List Nat
  resvLog : List Nat
  deriving DecidableEq, Repr

/-- A registrant of a namespace's reservation (R548). -/
structure Registrant where
  ctrl : Nat
  key : Nat
  deriving DecidableEq, Repr

/-- A namespace (R441, R467). -/
structure Namespace where
  zoned : Bool
  base : Nat
  size : Nat
  firstSet : Nat
  nsets : Nat
  draining : Bool
  registrants : List Registrant
  /-- reservation holder and type, 0 for none -/
  holder : Nat
  rtype : Nat
  gen : Nat
  deriving DecidableEq, Repr

/-- An entry of the error log (R551, LID 0x01). -/
structure ErrEntry where
  sq : Nat
  cid : Nat
  st : NvStatus
  lba : Nat
  nsid : Nat
  count : Nat
  /-- the host timestamp in ms -/
  time : Nat
  deriving DecidableEq, Repr

/-- A result of the Device Self-test log (R562). -/
structure SelfTest where
  code : Nat
  result : Nat
  segment : Nat
  lba : Option Nat
  /-- operating hours -/
  hours : Nat
  deriving DecidableEq, Repr

/-- A Device Self-test in progress (R562). -/
structure SelfTestRun where
  code : Nat
  segment : Nat
  ctrl : Nat
  deriving DecidableEq, Repr

/-- A firmware activation in progress (R564): its command, the patch slot it activates, and whether the drain has ended. -/
structure Activation where
  ctrl : Nat
  cid : Nat
  slot : Nat
  drained : Bool
  deriving DecidableEq, Repr

/-- A write of boot flash for a Firmware Commit or for operation 0x02 of R652 (`sec`): what is written, patch slot 0 or 1 or key
certificate area copy 0 or 1 (2, 3), the command, its commit action and the bytes. -/
structure FwStore where
  dest : Nat
  ctrl : Nat
  cid : Nat
  action : Nat
  sec : Bool
  image : List Byte
  deriving DecidableEq, Repr

/-- Commands fetched from a queue to a namespace since the queue was created, and whether one of them completed with a
status other than Success (R556). -/
structure FenceCount where
  ctrl : Nat
  sq : Nat
  nsid : Nat
  n : Nat
  failed : Bool
  deriving DecidableEq, Repr

/-- A drain of R563: the controller whose commands drain (of no account for a deleted namespace), the queue or NSID, the kind, and the
admin command that waits for it. -/
structure Drain where
  ctrl : Nat
  id : Nat
  kind : Nat
  admin : Nat
  cid : Nat
  deriving DecidableEq, Repr

/-- The NVM subsystem. -/
structure NvmeSt where
  ctrls : List (Nat × Ctrl)
  inflight : List Cmd
  nextSeq : Nat
  fences : List FenceCount
  posted : List Cqe
  msix : List (Nat × Nat)
  namespaces : List (Nat × Option Namespace)
  errors : List ErrEntry
  selfTest : Option SelfTestRun
  selfLog : List SelfTest
  /-- Firmware Download image in HBM region 0 -/
  download : List Byte
  activation : Option Activation
  /-- boot flash being written for firmware or security -/
  fwStore : Option FwStore
  timestamp : Nat
  streaming : Bool
  /-- drains in progress -/
  drains : List Drain
  /-- frames declared unreadable and stripes with more than two lost members since power-on reset (R552) -/
  unread : Nat
  lostStripes : Nat
  /-- errors logged since power-on reset -/
  errCount : Nat
  /-- tick at which `timestamp` was set, and whether host software set it -/
  tsTick : Nat
  tsSet : Bool
  /-- LASTOP and RESULT of R651 -/
  secLastOp : Nat
  secResult : Nat
  changedZones : List (Nat × Nat)
  deriving DecidableEq, Repr

/-- A service-ring descriptor in flight (R573). -/
structure RingDesc where
  opc : Nat
  flags : Nat
  tag : Nat
  param : List Byte
  fetchTick : Nat
  /-- place in the order of fetching, over all rings (R580) -/
  seq : Nat
  /-- the authorisation block; empty for an unsigned descriptor (R580) -/
  auth : List Byte
  started : Bool
  /-- continuation blocks done (R579) -/
  blocks : Nat
  /-- bytes moved so far -/
  moved : Nat
  /-- its PARAM's own extent is moved; extents done of the continuation block in hand -/
  own : Bool
  extents : Nat
  /-- the set of its next extent is loaded into the ring's channel (R696) -/
  loaded : Bool
  /-- the chain waits on an EOC link word (R579) -/
  waiting : Bool
  /-- the drain is over: the work ends at its next set boundary (R583) -/
  abort : Bool
  /-- its ring has been disabled: its completion cannot be written (R584) -/
  orphan : Bool
  deriving DecidableEq, Repr

/-- A completion entry of a service ring (R575), before its place is known. -/
structure RingCpl where
  tag : Nat
  status : Nat
  progress : Bool
  result : Nat
  /-- the completion of a descriptor with FENCE (R578) -/
  fence : Bool
  deriving DecidableEq, Repr

/-- A service ring beside its registers. -/
structure RingSt where
  /-- configuration taken at enable (R587) -/
  port : Nat
  sqlog : Nat
  cqlog : Nat
  sqbase : Nat
  cqbase : Nat
  idx : Nat
  tail : Nat
  sqHead : Nat
  cqTail : Nat
  cqHead : Nat
  phase : Bool
  held : List RingCpl
  descs : List RingDesc
  /-- ring places whose 64 bytes came through the push window and are not read from host memory (R586) -/
  pushed : List (Nat × List Byte)
  deriving DecidableEq, Repr

/-- What a request of the device to host memory is for (R559). `posted` and `msix` of the NVM subsystem hold the requests of the kinds
`cqe` and `msix`, whose host addresses are not held. -/
inductive ReqKind where
  /-- a read of write data, of a PRP list or of an SGL segment -/
  | fetched
  /-- a write of read data -/
  | data
  | cqe
  | msix
  /-- a submission queue fetch -/
  | sqe
  /-- the first write of a mover set with FENCE (R251) -/
  | fenced
  /-- an entry of a completion ring, a place in the index page (R577) -/
  | ring
  deriving DecidableEq, Repr

/-- A memory write to a host: kind, port, address, length, Relaxed Ordering. -/
structure HostReq where
  kind : ReqKind
  port : Nat
  addr : Nat
  len : Nat
  ro : Bool
  deriving DecidableEq, Repr

/-- The service rings. -/
structure RingsSt where
  rings : List (Nat × RingSt)
  /-- how many random nonces have been drawn (R580) -/
  nonceIdx : Nat
  /-- order of the next descriptor fetched -/
  nextSeq : Nat
  /-- host memory as the device has written it, by port -/
  hostMem : List (Nat × Byte)
  hostMem1 : List (Nat × Byte)
  /-- memory writes to the hosts, oldest first (R559) -/
  reqs : List HostReq
  deriving DecidableEq, Repr

/-- A map entry (R443). -/
inductive MapEntry where
  | unmapped
  | media (pfn slot : Nat)
  | journal (page : Nat)
  | bad
  deriving DecidableEq, Repr

/-- The body of a journal record line (R460). -/
inductive JBody where
  | pageHeader (page next head : Nat)
  | writeGroup (gblk nblk nsid page zone : Nat)
  | mapDelta (runs : List (Nat × MapEntry × Nat))
  | dealloc (gblk nblk kind : Nat)
  | segment (seg segseq : Nat)
  | band (surf state owner band cursor : Nat)
  | zone (nsid zstate zone wp : Nat)
  | root (gen slot rootseq : Nat)
  deriving DecidableEq, Repr

/-- A journal record line: SEQ, body, the record page that holds it. -/
structure JRec where
  seq : Nat
  body : JBody
  page : Nat
  /-- tick at which it was written; 0 for one found at a boot -/
  tick : Nat
  deriving DecidableEq, Repr

/-- A command a journal line or record belongs to: controller, submission queue, CID. -/
structure CmdRef where
  ctrl : Nat
  sq : Nat
  cid : Nat
  deriving DecidableEq, Repr

/-- A write group whose data pages are being written (R461). -/
structure Group where
  owner : Option CmdRef
  gblk : Nat
  nblk : Nat
  nsid : Nat
  /-- zone number, none outside a zoned namespace -/
  zone : Option Nat
  /-- pages of every map unit that the group touches, in order (R445) -/
  data : List (List Byte)
  /-- last group of its write -/
  last : Bool
  /-- what the completion returns in DW0 and DW1 (Zone Append) -/
  result : Nat
  deriving DecidableEq, Repr

/-- A change of one map entry: index, the entry it must still hold, the entry it takes (R453). -/
structure Move where
  index : Nat
  old : MapEntry
  new : MapEntry
  deriving DecidableEq, Repr

/-- A record line waiting for its turn; the first of the queue is issued and not yet complete (R462). A map-delta line
carries its moves, from which its runs are formed. -/
structure JLine where
  body : JBody
  moves : List Move
  owner : Option CmdRef
  last : Bool
  result : Nat
  deriving DecidableEq, Repr

/-- The states of a band set (R449). -/
inductive BandState where
  | empty | open | full | cleaning
  deriving DecidableEq, Repr

/-- A band set (R437, R449, R477, R478). `owner` is 0 for drive-managed or the NSID; `use` is 0 host writes, 1 cleaning,
2 a zone. -/
structure BandSet where
  st : BandState
  owner : Nat
  use : Nat
  /-- next data cell of the stream -/
  cursor : Nat
  /-- valid blocks (R451) -/
  valid : Nat
  /-- columns, in surface order -/
  cols : List Nat
  /-- spare cells per row and stripe width, as at the opening -/
  spares : Nat
  width : Nat
  /-- columns whose band is Offline -/
  offline : List Nat
  /-- first usable row of a column, where the rule of R450 has passed positions: (surface, row) -/
  skip : List (Nat × Nat)
  deriving DecidableEq, Repr

/-- A zone of a zoned namespace: NVMe zone state code and write pointer (R456). -/
structure Zone where
  zstate : Nat
  wp : Nat
  deriving DecidableEq, Repr

/-- A frame on the media (R361, R439): KIND, TAG, frame SEQ and its four slots. -/
structure Frame where
  kind : Nat
  tag : Nat
  seq : Nat
  slots : List (List Byte)
  deriving DecidableEq, Repr

/-- A frame to be written (R361, R381): its PFN and place, KIND, TAG and its four 4 KiB slots. -/
structure WriteFrame where
  pfn : Nat
  surf : Nat
  track : Nat
  frame : Nat
  kind : Nat
  tag : Nat
  slots : List (List Byte)
  deriving DecidableEq, Repr

/-- A checkpoint segment (R465, R466). -/
structure Segment where
  /-- SEGSEQ of the last durable segment record -/
  segseq : Nat
  /-- 0 no image being written, 1 staged, 2 copy 0 written, 3 both written and the record issued -/
  phase : Nat
  imgSeq : Nat
  staged : List (Nat × MapEntry)
  /-- copies 0 and 1 on the media: SEGSEQ and entries -/
  copy0 : Option (Nat × List (Nat × MapEntry))
  copy1 : Option (Nat × List (Nat × MapEntry))
  deriving DecidableEq, Repr

/-- A root (R467): generation, ROOTSEQ, layout digest and the tables it snapshots. -/
structure Root where
  gen : Nat
  /-- LEN, the bytes of the root -/
  len : Nat
  seq : Nat
  digest : List Byte
  namespaces : List (Nat × Option Namespace)
  bandsets : List (Nat × BandSet)
  zones : List (Nat × Zone)
  deriving DecidableEq, Repr

/-- The page map, the media and the write journal. `map`, `bandsets`, `zones` and what is in flight live in HBM; the
journal with its pages lives in MRAM; `media`, the segment copies and the roots live on the media. -/
structure MapSt where
  map : List (Nat × MapEntry)
  bandsets : List (Nat × BandSet)
  /-- zones by NSID x 2^20 + zone number -/
  zones : List (Nat × Zone)
  /-- positions void until their band is next Empty (R447) -/
  voids : List Nat
  /-- frames placed or computed and not yet written -/
  placed : List WriteFrame
  /-- global blocks in the journal that wait for placement, ascending (R448) -/
  pend : List Nat
  /-- blocks moved by cleaning or rebuild that wait for placement: index, old entry, data -/
  moving : List (Nat × MapEntry × List Byte)
  groups : List Group
  issue : List JLine
  /-- read places of a victim still to be read: PFNs (R453) -/
  victim : Option (Nat × List Nat)
  rootDirty : Bool
  /-- MAP_REBUILD_START has run -/
  rebuilding : Bool
  /-- region 1 has been zero-filled and holds the map (R469) -/
  filled : Bool
  /-- the line at the front of `issue` was being written as VM was lost: it completes (R48, R192) -/
  started : Bool
  media : List (Nat × Option Frame)
  frameSeq : Nat
  journal : List JRec
  jseq : Nat
  /-- HEAD and tail page as the journal's pages show them at a boot -/
  scanHead : Nat
  scanTail : Nat
  /-- record page in use, its next line, record pages reserved after it, and HEAD of the newest durable header -/
  recPage : Nat
  recLine : Nat
  recNext : List Nat
  durHead : Nat
  segs : List (Nat × Segment)
  roots : List (Nat × Option Root)
  /-- segment copies lost and awaiting the header scan of R471 -/
  segLost : List Nat
  /-- frames that cleaning has freed and host writes may still take while they are paced (R452) -/
  credit : Nat
  deriving DecidableEq, Repr

end Sys2Proof.Machine
end

