-- ==== Sys2Proof/Machine/TypesMedia.lean ====
section
/-! DEFINITION. The parts of State for the spindle, the servo, energy assist, lanes and write slots, deep decode and
calibration (chapters 09 to 14). -/
namespace Sys2Proof.Machine

/-- What drives the motor bridge (R253, R271, R104). -/
inductive Drive where
  /-- every gate drive off -/
  | off
  /-- switching under the modulator -/
  | pwm
  /-- braking regeneratively -/
  | regen
  /-- all high-sides off, all low-sides on -/
  | short
  deriving DecidableEq, Repr

/-- The spindle beside the SP registers. Speeds are in 1/8 rpm. -/
structure SpindleSt where
  drive : Drive
  startPend : Bool
  /-- the 1 s hold of Short-braking runs -/
  holding : Bool
  attempts : Nat
  /-- tick of the last loss of commutation lock (R271) -/
  lockLoss : Option Nat
  chopFault : Bool
  /-- the retract domain has switched the gate drives off: no chopper or winding-short action until the restart (R279) -/
  barred : Bool
  /-- consecutive sample sets above IMAX (R272) and consecutive misses (R268) -/
  overCount : Nat
  missCount : Nat
  /-- duties of U, V and W in this PWM period and computed for the next, in units of 5 ns -/
  duties : List Nat
  nextDuties : List Nat
  /-- the next sample set is the one at the period centre (R258) -/
  atCentre : Bool
  /-- the last sample set: codes of the three phase voltages and of VM_SNS -/
  volts : List Nat
  vmSns : Nat
  /-- rotor angle in 0.1 electrical degrees, magnet polarity found, amplitude of the alignment pulses under way in mA (R262, R265) -/
  angle : Nat
  polarity : Bool
  alignI : Nat
  /-- the speed loop's integral, in 1/8 rpm times 1/4,000 s, and the q-axis and d-axis current commands in mA -/
  integ : Int
  iCmd : Int
  dCmd : Int
  /-- FSYNC: tick of the last edge and the last periods, newest first (R281) -/
  fsyncTick : Option Nat
  periods : List Nat
  /-- SPD_AIN: the codes of the last 100 samples, newest first -/
  ainSamples : List Nat
  /-- tick of the last valid source value, or of the enabling of streaming mode (R284) -/
  srcTick : Nat
  /-- mapped value held when FOLLOW was set (R285) -/
  followMap : Option Nat
  mapped : Nat
  /-- the slewed set-point in 1/8,000 rpm (R283) -/
  slewMilli : Nat
  /-- speed error magnitude above 0.2 % of the set-point (R286) -/
  speedBad : Bool
  /-- PWM periods in which every bootstrap capacitor was refreshed, and the forced low-side pulses: how many, and the phase and width in ns
  of the last (R255) -/
  refreshes : Nat
  pulses : Nat
  lastPulse : Option (Nat × Nat)
  deriving DecidableEq, Repr

/-- A head of an actuator: fault history and counters (R298, R312, R319). -/
structure HeadSt where
  failed : Bool
  /-- ticks of following-error faults (R319) and of departures from the group (R317) -/
  folTicks : List Nat
  dropTicks : List Nat
  /-- acquisitions in a row without a valid sample (R319) -/
  noSample : Nat
  echoBad : Nat
  /-- the head is read and written as a group of its own (R317) -/
  alone : Bool
  /-- OVERTEMP trips and DEVIATION aborts (R344) -/
  tripTicks : List Nat
  devTicks : List Nat
  deriving DecidableEq, Repr

/-- A place of the group in use. -/
structure Place where
  head : Nat
  active : Bool
  /-- wedges in a row: over FELIM or invalid; within WILIM; within RDLIM; at or above 95 % of STROKE -/
  nFel : Nat
  nWi : Nat
  nRd : Nat
  nSat : Nat
  toff : Int
  /-- where the head stands, in pu, when the primary is on track 0 with no microactuator displaced, as last measured (R314) -/
  offs : Int
  /-- amplitudes of the last wedge's bursts N and Q -/
  ampN : Int
  ampQ : Int
  /-- shift of TOFF by an offset re-read (R411) -/
  dtoff : Int
  /-- fine integrator and anti-windup hold (R323) -/
  integ : Int
  hold : Nat
  /-- command computed and not yet applied (R302) -/
  pend : Int
  /-- a valid sample since the group was taken into use (R319) -/
  seen : Bool
  /-- sum of squares of e over this revolution, and over the last plus 1 (0: none), for CONV (R321) -/
  rms : Nat
  rmsLast : Nat
  deriving DecidableEq, Repr

/-- A seek announcement being applied (R326): start tick, STEP in microseconds, profile in mA, COUPLE and DELAY of the row. -/
structure Announce where
  start : Int
  step : Nat
  prof : List Int
  couple : Int
  delay : Nat
  deriving DecidableEq, Repr

/-- One actuator's servo beside its SV registers. -/
structure ServoSt where
  places : List (Nat × Place)
  heads : List (Nat × HeadSt)
  attempts : Nat
  /-- load again once Parked (R318) -/
  reload : Bool
  /-- a fault arose while Retracting (R318) -/
  faultPend : Bool
  /-- group and track asked for -/
  reqGroup : Nat
  reqTrack : Nat
  /-- coarse command computed and not yet applied; integrator and anti-windup hold -/
  pendCmd : Int
  cinteg : Int
  chold : Nat
  i2t : Nat
  shockLeft : Nat
  isnBad : Nat
  maBad : Nat
  /-- a deadline miss of the coarse and of the fine helper (R305): 1 in this wedge period, 2 in the last, 0 in neither -/
  cmiss : Nat
  fmiss : Nat
  /-- learning tables that have converged, by head x 16 + zone (R321) -/
  rroConv : List Nat
  /-- runout tables by head x 16 + zone, 500 entries each by wedge (R321): key (head x 16 + zone) x 512 + wedge -/
  rro : List (Nat × Int)
  /-- coefficient set in use: speed (rpm) and its gains CKP CKI CKD FKP FKI CILIM FILIM (R322) -/
  coefRpm : Nat
  coefs : List Nat
  announces : List Announce
  /-- a deadline miss since the last apply tick (R305) -/
  missed : Bool
  /-- position of the primary at the last wedge, 256 x track + PES -/
  lastPos : Int
  /-- wedges in the state entered: valid samples while Loading, wedges without one while Recovering -/
  stWedges : Nat
  /-- a seek announced and not yet started: (group, track) (R327) -/
  seekWait : Option (Nat × Nat)
  /-- a group taken into use by a seek and not yet acquired (R314, R319) -/
  grpAcq : Bool
  /-- a coefficient set due at the next apply tick, by its speed (R322) -/
  coefPend : Option Nat
  /-- parked, and not Following since: commands that need its surfaces are held (R31) -/
  away : Bool
  /-- ticks of the last consecutive wedges while Following, newest first, at most 501 (R267) -/
  wedgeTicks : List Nat
  /-- microactuator frames sent since the last apply tick, in place order (R297), and the last echo-fetch frame (R687) -/
  maFrames : List Nat
  maFetch : Option Nat
  deriving DecidableEq, Repr

/-- One write slot's assist side beside the AS registers (R341). -/
structure AssistSlot where
  init : Nat
  pnom : Nat
  rlim : Nat
  duty : Nat
  integ : Int
  pend : Nat
  devCount : Nat
  suspended : Bool
  /-- emitter: 0 off, 1 PRE, 2 full -/
  emitter : Nat
  deferred : Bool
  /-- tick at which its gate last closed (R346) -/
  closeTick : Option Nat
  deriving DecidableEq, Repr

/-- One actuator's assist beside the AS registers. -/
structure AssistSt where
  slots : List (Nat × AssistSlot)
  /-- deadline misses in a row, and one since the last loop boundary (R336) -/
  misses : Nat
  missed : Bool
  tintTick : Nat
  /-- the 24-bit frames of the last assist window on the PA link (R334) -/
  paFrames : List Nat
  /-- register frames that wait for their window, in order, and the preamplifier's routing registers as last written (R684, R685) -/
  paRegs : List Nat
  /-- the last register frame that read the preamplifier (R684) -/
  paRead : Option Nat
  routes : List (Nat × Nat)
  deriving DecidableEq, Repr

/-- A frame command of a lane (R377). -/
structure FrameCmd where
  track : Nat
  frame : Nat
  head : Nat
  window : Nat
  cell : Nat
  /-- position window start tick: the latest arrival is 2 microseconds before it -/
  startTick : Nat
  /-- a calibration read, whose data is discarded (R428) -/
  cal : Bool
  deriving DecidableEq, Repr

/-- A decoded result held by a lane (R397). -/
structure LaneResult where
  track : Nat
  frame : Nat
  header : List Byte
  payload : List Byte
  deriving DecidableEq, Repr

/-- A 16-byte status record of R375. -/
structure StatusRec where
  frame : Nat
  status : Nat
  syncOff : Int
  syncCnt : Nat
  lane : Nat
  erased : Nat
  track : Nat
  capLen : Nat
  deriving DecidableEq, Repr

/-- A lane beside its LN registers. -/
structure LaneSt where
  queue : List FrameCmd
  cur : Option FrameCmd
  /-- decision of R366 for the current frame, offset and count -/
  found : Bool
  missed : Bool
  syncOff : Int
  syncCnt : Nat
  /-- the in-line decode of the current frame is valid and its result held -/
  inline : Bool
  erased : Nat
  offTrack : Bool
  results : List LaneResult
  statuses : List StatusRec
  /-- extent being filled and its next free 256-byte unit (R399) -/
  extent : Option Nat
  unit : Nat
  /-- tick of the current capture's start -/
  capTick : Nat
  deriving DecidableEq, Repr

/-- A write slot beside AS_WSSTAT (R381). -/
structure SlotSt where
  queue : List WriteFrame
  /-- the payload bytes its 8 KiB buffer took, the newest last -/
  payload : List Byte
  cur : Option WriteFrame
  deriving DecidableEq, Repr

/-- A re-read asked for (R376, R415). Kind: 0 direct, 1 plain, 2 and 3 with TOFF moved by +16 and -16 pu, 4 two-reader, 5 the
frames of a neighbour track (R411, R417). -/
structure Reread where
  surf : Nat
  track : Nat
  frame : Nat
  kind : Nat
  deriving DecidableEq, Repr

/-- Lanes, write slots and the input matrix. -/
structure LanesSt where
  lanes : List (Nat × LaneSt)
  slots : List (Nat × SlotSt)
  /-- re-reads asked for, in order (R415) -/
  rereads : List Reread
  deriving DecidableEq, Repr

/-- An extent of the sample store (R399, R400). -/
structure Extent where
  written : Bool
  lastTick : Nat
  pins : Nat
  deriving DecidableEq, Repr

/-- An index entry of R403. -/
structure IndexEntry where
  track : Nat
  frame : Nat
  lane : Nat
  status : Nat
  extent : Nat
  unit : Nat
  capLen : Nat
  window : Nat
  cell : Nat
  syncOff : Int
  syncCnt : Nat
  pass : Nat
  pinned : Bool
  valid : Bool
  reader1 : Bool
  tick : Nat
  deriving DecidableEq, Repr

/-- A frame in recovery (R405, R410). Stage: 0 sync re-search, 1 deep decode after it, 2 deep decode at the found
position, 3 screening of an offset, 4 deep decode at that offset, 5 the ladder step `code`. -/
structure Recovery where
  surf : Nat
  track : Nat
  frame : Nat
  cls : Nat
  /-- tick of its first sector end -/
  tick : Nat
  stage : Nat
  /-- place in the order -1, +1, -2, +2, -3, +3, -4, +4 -/
  offs : Nat
  /-- ladder entry that comes after the step in hand, and the step's code, 0 before the ladder -/
  next : Nat
  code : Nat
  /-- no mark is known in the newest pass -/
  miss : Bool
  retained : Bool
  /-- the newest pass holds captures of both readers -/
  two : Bool
  /-- re-read passes so far, and the speed zone of each retained pass -/
  passes : Nat
  zones : List Nat
  /-- extents pinned -/
  extents : List Nat
  unit : Option Nat
  /-- scheduler that has the frame -/
  owner : Nat
  /-- neighbours' extents pinned for the step in hand (R401) -/
  extra : List Nat
  /-- 0 none, 1 a re-read pass, 2 a queued neighbour capture, 3 a neighbour pass -/
  wait : Nat
  deriving DecidableEq, Repr

/-- Deep decode and the sample store. -/
structure DecodeSt where
  extents : List (Nat × Extent)
  index : List (Nat × Option IndexEntry)
  /-- frames that failed in line and are not yet with a scheduler (R376, R405) -/
  failed : List Recovery
  /-- the escalation queue -/
  queue : List Recovery
  /-- frames no longer in the queue: in a unit, or waiting -/
  active : List Recovery
  /-- ticks of unit resets, by unit (R409) -/
  resets : List (Nat × List Nat)
  /-- heads whose next offset re-read takes -16 pu (R411) -/
  offsetNeg : List Nat
  /-- direct re-reads served, by frame: surface, track, frame, count -/
  direct : List (Nat × Nat × Nat × Nat)
  deriving DecidableEq, Repr

/-- A channel set (R420) with the TJ and TINT recorded with it. -/
structure ChanSet where
  start : Nat
  cutoff : Nat
  boost : Nat
  taps : List Nat
  g1 : Nat
  g2 : Nat
  nweight : Nat
  syncth : Nat
  early1 : Nat
  early2 : Nat
  tj : Nat
  tint : Nat
  deriving DecidableEq, Repr

/-- A calibration run in progress (R423). -/
structure CalRun where
  lane : Nat
  step : Nat
  inPlace : Bool
  startTick : Nat
  tj : Nat
  tint : Nat
  zone : Nat
  /-- new lane set (offset and skews) and new channel set as found so far -/
  newAdc : List Nat
  newSet : ChanSet
  /-- the new set's residual is no greater than the old one's (R430) -/
  better : Bool
  /-- key of the channel set the run calibrates -/
  key : Nat
  /-- ring descriptors to complete with the result: (ring, TAG) -/
  owners : List (Nat × Nat)
  /-- causes raised since the run started, which it does not satisfy (R424) -/
  later : Nat
  /-- valid wedge samples of LS in a row; at 8 it takes the lane's frame commands (R426) -/
  valid : Nat
  /-- ticks of the frames that passed in the last millisecond (R428) -/
  passes : List Nat
  /-- an in-place run whose coefficients wait for the frame in progress: what the read-back finds (R431) -/
  applyDue : Option Bool
  deriving DecidableEq, Repr

/-- Calibration beside the CL registers. Channel sets by head x 32 + reader x 16 + zone. -/
structure CalSt where
  sets : List (Nat × Option ChanSet)
  /-- the sets as saved with the last map checkpoint (R422) -/
  saved : List (Nat × Option ChanSet)
  runs : List CalRun
  /-- causes by lane: bits 1 to 5 (R423) -/
  causes : List (Nat × Nat)
  accepts : List (Nat × Nat)
  /-- host requests waiting for a run: (lane, ring, TAG) -/
  asked : List (Nat × Nat × Nat)
  /-- LS: 0 free, 1 stand-in, 2 two-reader re-read, 3 a stand-in that ends with its own frames (R427) -/
  lsUse : Nat
  /-- the lane that such a stand-in hands back to -/
  handing : Nat
  deriving DecidableEq, Repr

end Sys2Proof.Machine
end

