-- ==== Sys2Proof/Machine/TypesNet.lean ====
section
/-! DEFINITION. The parts of State for surface redundancy, the Ewerid pool and the enclosure bus (chapters 16, 17, 20). -/
namespace Sys2Proof.Machine

/-- A stripe in flight (R481 to R484). -/
structure Stripe where
  bs : Nat
  st : Nat
  /-- the open record is durable -/
  opened : Bool
  /-- data members fixed: member number, frame, and the map changes the frame stands for -/
  members : List (Nat × WriteFrame × List Move)
  /-- members written -/
  written : List Nat
  /-- P and Q are computed -/
  parity : Bool
  /-- the complete or dead record is queued -/
  closing : Bool
  deriving DecidableEq, Repr

/-- A relocation extent (R487, R488). -/
structure RelocExt where
  surf : Nat
  oldSet : Nat
  oldStripe : Nat
  count : Nat
  newSet : Nat
  newCell : Nat
  deriving DecidableEq, Repr

/-- A contribution (R520, R522): GROUP, ROW, CELL, OP (0 add, 1 retract) and the PFN of the writer's cell. -/
structure Contrib where
  group : Nat
  row : Nat
  cell : Nat
  op : Nat
  pfn : Nat
  deriving DecidableEq, Repr

/-- The same cell and operation. -/
def Contrib.same (c d : Contrib) : Bool := c.group == d.group && c.row == d.row && c.cell == d.cell && c.op == d.op

/-- The body of a stripe-journal record (R487) or of a contribution record of the pool (R520). -/
inductive SjBody where
  | surface (surf state : Nat)
  | cursor (surf bandset stripe : Nat)
  | extent (e : RelocExt)
  | open (bs st : Nat)
  | complete (bs st : Nat)
  | dead (bs st cause : Nat)
  | identity (member gen epoch : Nat) (digest : List Byte)
  | contribOpen (c : Contrib)
  | contribDone (c : Contrib)
  | held (c : Contrib) (writer st wseq : Nat)
  deriving DecidableEq, Repr

/-- A stripe-journal record with its SEQ. -/
structure SjRec where
  seq : Nat
  body : SjBody
  line : Nat
  deriving DecidableEq, Repr

/-- A rebuild of a surface (R495, R496): it copies for a write-disabled surface. -/
structure Rebuild where
  surf : Nat
  copy : Bool
  bs : Nat
  st : Nat
  deriving DecidableEq, Repr

/-- A lost frame being read for reconstruction: PFN, and the command that waits, if any (R492, R493). -/
structure Recon where
  pfn : Nat
  owner : Option CmdRef
  relocate : Bool
  deriving DecidableEq, Repr

/-- Tier L beside the PX registers. -/
structure TierSt where
  stripes : List Stripe
  /-- records queued; the first is being written (R486) -/
  queue : List SjBody
  /-- the first of them was being written as VM was lost: it completes (R48, R192) -/
  started : Bool
  /-- live records, in SEQ order (R489) -/
  sj : List SjRec
  seq : Nat
  /-- oldest live ring line, next ring line, next position slot (R486, R194) -/
  head : Nat
  next : Nat
  posSlot : Nat
  rebuilds : List Rebuild
  recons : List Recon
  patrolSt : Nat
  /-- frames declared unreadable and not yet restored -/
  lost : List Nat
  /-- frames restored and held in Buffers for the reads that wait for them: PFN and slots -/
  restored : List (Nat × List (List Byte))
  /-- relocation extents whose stripe is not complete yet (R488) -/
  reloc : List RelocExt
  /-- media time of the last interval in ms, by actuator x 8 + user: 0 host, 1 rebuild, 2 checkpoints, 3 cleaning, 4 patrol -/
  shares : List (Nat × Nat)
  /-- PX_RBDONE and PL_RBLEFT at the start of the interval (gauge source 0x09) -/
  rbMark : Nat
  plMark : Nat
  deriving DecidableEq, Repr

/-- An Ewerid frame sent (R511): the header fields the sender chooses; the rest is encoded from State. -/
structure EwFrame where
  port : Nat
  type : Nat
  dst : Nat
  /-- the group FF05::EE1D:grp that a group frame goes to (R504) -/
  grp : Nat
  dstGen : Nat
  xid : Nat
  group : Bool
  reply : Bool
  status : Nat
  srcId : Nat
  srcGen : Nat
  epoch : Nat
  body : List Byte
  deriving DecidableEq, Repr

/-- What the Ethernet ports have sent (R503, R504). -/
inductive NetOut where
  | ewerid (f : EwFrame)
  | neighbor (port : Nat)
  | echo (port : Nat)
  | mldReport (port : Nat) (groups : List Nat)
  deriving DecidableEq, Repr

/-- A member of L (R507). `state` is the STATE of its last HEARTBEAT, `heard` its tick; `away` the tick until which a LEAVE
suspends failure detection (R524). -/
structure PoolMember where
  id : Nat
  failed : Bool
  gen : Nat
  state : Nat
  heard : Option Nat
  away : Nat
  ident : List Byte
  deriving DecidableEq, Repr

/-- A HELLO collected in roll call (R530). -/
structure PoolHello where
  ident : List Byte
  id : Option Nat
  role : Nat
  deriving DecidableEq, Repr

/-- An open contribution of this writer (R520): its record's SEQ, its XID, halves acknowledged, seconds without UPDACK. -/
structure OpenC where
  c : Contrib
  seq : Nat
  xid : Nat
  acks : List Nat
  tries : Nat
  deriving DecidableEq, Repr

/-- A held contribution at the P holder (R520): halves applied, with their data; XIDs of the writer's frames and of the QUPD
frames. -/
structure HeldC where
  c : Contrib
  writer : Nat
  pos : Nat
  wseq : Nat
  halves : List (Nat × List Byte)
  durable : Bool
  acks : List Nat
  xidIn : Nat
  xidOut : Nat
  deriving DecidableEq, Repr

/-- A write group whose partner copies are not all acknowledged (R519). -/
structure PairWait where
  owner : Option CmdRef
  last : Bool
  result : Nat
  xids : List Nat
  deriving DecidableEq, Repr

/-- Cells being read from the other members of a row: purpose 0 a rebuild, 1 a cell of this device (R527), 2 an adoption. -/
structure CellRead where
  group : Nat
  row : Nat
  cell : Nat
  half : Nat
  target : Nat
  purpose : Nat
  pfn : Nat
  /-- positions answered, none for a lost one -/
  got : List (Nat × Option (List Byte))
  deriving DecidableEq, Repr

/-- The pool beside the PL registers. `parity`, `parityQ` and `spare` are the parity and spare ranges of the pool namespace
(R517, R525), 8 KiB cells by (group, row, cell, half). -/
structure PoolSt where
  out : List NetOut
  /-- PL_MEMBER.ID is a member ID (R508) -/
  hasId : Bool
  /-- the roll-call slot whose timer runs (R530, R532) -/
  slot : Option Nat
  /-- frames that came back STALE, to be sent again once the roles are known (R510) -/
  stale : List EwFrame
  /-- PL_TOFF, ns (R506) -/
  toff : Int
  xid : Nat
  members : List PoolMember
  hellos : List PoolHello
  /-- shard leaders known, by shard -/
  leaders : List (Nat × Nat)
  /-- leaders whose ROSTER the head has, and the members they listed -/
  rosters : List (Nat × List PoolHello)
  /-- XID of this device's LEADER claim, and who has acknowledged it -/
  claim : Option Nat
  votes : List Nat
  /-- parts of a LAYOUT received -/
  parts : List (Nat × List (Nat × Bool))
  partEpoch : Nat
  /-- the phase in hand has been repeated (R532) -/
  repeated : Bool
  waiting : List Contrib
  opens : List OpenC
  held : List HeldC
  /-- QUPD halves applied: (writer, wseq, group, row, cell, half) -/
  qdone : List (Nat × Nat × Nat × Nat × Nat × Nat)
  /-- cells whose add contribution is complete, by PFN (R521) -/
  done : List Nat
  parity : List (Nat × List Byte)
  parityQ : List (Nat × List Byte)
  spare : List (Nat × List Byte)
  /-- copies retained for others: member, record, data (R519) -/
  retained : List (Nat × List Byte × List Byte)
  /-- this device's write groups held at the partner: SEQ, first block, blocks -/
  mine : List (Nat × Nat × Nat)
  pairs : List PairWait
  reads : List CellRead
  probing : List Nat
  /-- member whose positions are rebuilt, and rows done -/
  rebuildOf : Option Nat
  /-- cells read for an adoption (R528) -/
  adopted : List (Nat × List Byte)
  deriving DecidableEq, Repr

/-- A frame of R596 waiting to be sent: TYPE, BAY and NODE of the destination (none for the group), BODY. -/
structure EbFrame where
  type : Nat
  dst : Option (Nat × Nat)
  body : List Byte
  deriving DecidableEq, Repr

/-- The frame in the PHY's transmit buffer (R590): the frame, ETIME at its loading, attempts under CSMA/CD. -/
structure EbLoaded where
  frame : EbFrame
  etime : Nat
  attempts : Nat
  deriving DecidableEq, Repr

/-- A token request or holder at the master: NODE, BAY, LEASE, the tick of the request or grant, the PLCA cycle of the request. -/
structure EbToken where
  node : Nat
  bay : Nat
  lease : Nat
  tick : Nat
  cycle : Nat
  deriving DecidableEq, Repr

/-- The enclosure bus beside the EB registers. -/
structure EbSt where
  tx : List EbFrame
  /-- the one-frame transmit buffer of the PHY (R590) -/
  buf : Option EbLoaded
  /-- PLCA cycles begun, and whether this device has sent its frame in the one that runs (R591) -/
  cycle : Nat
  sentCycle : Bool
  /-- SEQ of the next frame (R595) -/
  seq : Nat
  /-- the last frame sent, from the destination address to the FCS -/
  lastSent : List Byte
  /-- the PHY's copy of the last HEALTH body (R604) -/
  health : List Byte
  /-- ENCLID, BAY and NODE as the PHY keeps them with that copy (R604) -/
  phyId : Nat × Nat × Nat
  /-- claims collected: PRIO, NODE, IDLOW, BAY -/
  claims : List (Nat × Nat × Nat × Nat)
  /-- an election runs (R597) -/
  electing : Bool
  /-- last MEPOCH heard -/
  heard : Nat
  /-- tick of the last TICK received -/
  tickSeen : Nat
  holders : List EbToken
  queue : List EbToken
  /-- the 200 ms of R601 run: nothing is granted -/
  epochWait : Bool
  /-- ticks of collisions -/
  colls : List Nat
  /-- a start wants a token (R271) -/
  startWant : Bool
  /-- the delay of R602 has been armed -/
  localDelay : Bool
  deriving DecidableEq, Repr

end Sys2Proof.Machine
end

