-- ==== Sys2Proof/Machine/State.lean ====
section
/-! DEFINITION. The state of the PV-480: every register, memory, queue, mode and pin the spec gives it, as plain data,
and the queue of commands waiting. Registers live in `regs` as sparse words: an address not listed reads as the reset
value its register table gives (R18). -/
namespace Sys2Proof.Machine

/-- The four domains of R30. -/
structure Doms where
  DA : DomSt
  DB : DomSt
  DP : DomSt
  DE : DomSt
  deriving DecidableEq, Repr

/-- What the tick in hand has done to the registers, which a clear in the same tick must not lose (R16, R17). -/
structure TickMem where
  /-- the registers as the tick found them -/
  regs : List (Nat × Word32)
  /-- bits that events have set in it, by register, and the fields of which a sample was taken in it -/
  set : List (Nat × Word32)
  /-- counts that events have made in it, and the least or greatest of its samples, in the places of their fields -/
  gain : List (Nat × Word32)
  /-- events recorded in it: a further occurrence of one is merged (R62) -/
  events : List Instr
  deriving DecidableEq, Repr

/-- An event recorded and not yet dispatched (R67): the tick of its recording and the command that stands for it. -/
structure Recorded where
  tick : Nat
  cmd : Instr
  deriving DecidableEq, Repr

/-- The state of the block. -/
structure State where
  /-- commands waiting, first in, first out -/
  pending : List Instr
  /-- the tick counter (R57) -/
  tick : Nat
  /-- BAR2 registers that differ from their reset value, by BAR2 address -/
  regs : List (Nat × Word32)
  /-- what the current tick has done to them (R16, R17) -/
  tickMem : TickMem
  /-- events recorded and not yet dispatched, in the one order of R67 -/
  recorded : List Recorded
  pins : Pins
  power : Power
  doms : Doms
  acc : AccordSt
  nv : NonVol
  sec : SecSt
  faults : FaultSt
  sil : SilSt
  thermal : ThermalSt
  nvme : NvmeSt
  rings : RingsSt
  map : MapSt
  helpers : List (Nat × Helper)
  steward : StewardSt
  fabric : FabricSt
  mem : MemSt
  cache : CacheSt
  movers : MoversSt
  spindle : SpindleSt
  servo : PerAct ServoSt
  assist : PerAct AssistSt
  lanes : LanesSt
  decode : DecodeSt
  cal : CalSt
  tier : TierSt
  pool : PoolSt
  eb : EbSt
  /-- MODEL'S OWN: how many free values have been drawn; each draw is an opaque constant of Config at this index -/
  freeIdx : Nat
  /-- MODEL'S OWN: the bytes that the last register read returned to the host (R12) -/
  readOut : List Byte
  deriving DecidableEq, Repr

/-- No command of this model faults: the spec gives every row of the table an effect in every state (R12 to R15 and R21
give malformed or untimely events no effect). -/
inductive Fault where
  /-- raised by no command; the type is closed and kept so that a fault can be named. Safe. -/
  | none
  deriving DecidableEq, Repr

/-- Refusals. -/
inductive Refusal where
  /-- raised by an arm of `exec` whose command has no meaning in this model yet. Safe: nothing is claimed of it. -/
  | notModelled (mnemonic : String)
  deriving DecidableEq, Repr

/-! ### Reset

State.reset is the device right after power-on reset with PORST_L still low (R18, R89, R694). A field the spec gives no
reset value for takes the value named in the assumption log. -/

/-- All pins released or low (R89, R104). -/
def Pins.reset : Pins :=
  { faultL := false, thermtripL := false, ret := ⟨false, false⟩, brkG := false, seq := 0,
    etPps := 0, gates := [], vcmEn := ⟨false, false⟩, vcmCmd := ⟨0, 0⟩, vcmCode := ⟨2048, 2048⟩, maLd := ⟨0, 0⟩, bfRstL := false }

def Power.reset : Power :=
  { phase := .off, attempt := 1, failRecord := none, rideStart := none, rideTimer := false, msTimer := false,
    vmGood := false, frozen := false, frameBar := false, mediaHold := false, lossOpen := false, parking := false, supplyReset := false, hibernate := false,
    hibernatePending := false, standbyPending := false, wakePending := false, deferred := none, porst := false,
    vserDown := false }

/-- A domain at reset: Down, nothing requested (R694). -/
def DomSt.reset : DomSt :=
  { st := .down, load := none, takedown := none, restore := none, held := false, heldLoading := false,
    parkReq := false, leftTick := 0, servedTick := 0, everServed := false, restartFails := 0,
    bootRestored := false, autoTick := none }

def Marks.erased : Marks := { tried := false, commit := false, revoke := false, extra := false }

def FlashSlot.empty : FlashSlot := { image := [], marks := Marks.erased }

def NonVol.reset : NonVol := { accord := [], patch := [], areas := [], spdmChain := [], floorA := [], floorP := [] }

def AccordSt.reset : AccordSt :=
  { applied := [], prev := none, store := none, mediaCopy := ⟨[], []⟩, layoutDigest := none, trial := none, copyDue := false }

def SecSt.reset : SecSt := { area := [], spdm := [], eids := [], replies := [], vdm := [] }

def SilSt.reset : SilSt := { queue := [], buckets := [], bootUnsafe := false, stampSeq := 0, gaugeAlarmed := [], gaugeDur := [] }

def Sensor.reset : Sensor := { nWarn := 0, nThrot := 0, nShut := 0, prev := none, offSince := none, last := 0 }

def ThermalSt.reset : ThermalSt := { sensors := [], shutTicks := [], shutTick := 0, shutTj := 0, below := none }

def Ctrl.reset : Ctrl :=
  { linkUp := false, perst := false, en := false, crime := false, wrr := false, shn := 0, rdy := false, cfs := false,
    shst := 0, pp := false, busMaster := false, stopped := false, arb := { turns := [(0, 0), (0, 0), (0, 0), (0, 0)], cls := 0, credit := 0 }, sqs := [], cqs := [], orderedMarks := [], aers := [],
    events := [], aerMasked := [], abortMarks := [], features := [], bmeDrain := false, attached := [], changedNs := [], resvLog := [] }

def NvmeSt.reset : NvmeSt :=
  { ctrls := [], inflight := [], nextSeq := 0, fences := [], posted := [], msix := [], namespaces := [], errors := [],
    selfTest := none, selfLog := [], download := [], activation := none, fwStore := none, timestamp := 0,
    streaming := false, drains := [], unread := 0, lostStripes := 0, errCount := 0, tsTick := 0, tsSet := false, secLastOp := 0, secResult := 0, changedZones := [] }

def RingSt.reset : RingSt :=
  { port := 0, sqlog := 0, cqlog := 0, sqbase := 0, cqbase := 0, idx := 0, tail := 0, sqHead := 0,
    cqTail := 0, cqHead := 0, phase := true, held := [], descs := [], pushed := [] }

def RingsSt.reset : RingsSt := { rings := [], nonceIdx := 0, nextSeq := 0, hostMem := [], hostMem1 := [], reqs := [] }

def BandSet.empty : BandSet :=
  { st := .empty, owner := 0, use := 0, cursor := 0, valid := 0, cols := [], spares := 0, width := 0, offline := [],
    skip := [] }

def Segment.empty : Segment :=
  { segseq := 0, phase := 0, imgSeq := 0, staged := [], copy0 := none, copy1 := none }

def MapSt.reset : MapSt :=
  { map := [], bandsets := [], zones := [], voids := [], placed := [], pend := [], moving := [], groups := [],
    issue := [], victim := none, rootDirty := false, rebuilding := false, filled := false, started := false, media := [], frameSeq := 0, journal := [],
    jseq := 0, scanHead := 0, scanTail := 0, recPage := 0, recLine := 0, recNext := [], durHead := 0, segs := [], roots := [],
    segLost := [], credit := 0 }

def PatchSet.none : PatchSet := { gen := 0, mtab := [], words := [], units := 0 }

def Helper.reset : Helper :=
  { regs := [], localStore := [], rstack := [], space := 1, pc := 0, count := 0, flags := 0, ue := false, inbox := [],
    outbox := [], errq := [], events := [], stopReq := false, haltReq := false, stopStatus := none, spDue := false, watchdog := false, swapReq := false, work := [], blocked := false, pushFifo := [],
    active := PatchSet.none, shadow := .none }

def StewardSt.reset : StewardSt :=
  { inbox := [], outbox := [], errq := [], active := PatchSet.none, shadow := .none, patchRam := [], inHandler := false, fetch := (0, 0),
    trapTicks := [], ueFlag := false, loopTick := 0, blocked := false, fencing := false }

def FabricSt.reset : FabricSt :=
  { waiting := [], returning := [], staged := 0, swapRole := none, domainBundles := [], replacing := [], owed := [], domInEffect := [], domPrev := [], bundle := [] }

def MemSt.reset : MemSt := { hbm := [], mram := [], ssram := [], blotter := none, failed := 0, pad := [], jWrites := 0, sWrites := 0, wearMarks := 0 }

def CacheSt.reset : CacheSt :=
  { lines := [], plru := [], fills := [], side := [], evb := [], streams := [], seqs := [], waitWb := [], dcFault := none }

def Channel.reset : Channel := { active := none, shadow := none, started := false }

def MoversSt.reset : MoversSt := { chans := [], served := [] }

def SpindleSt.reset : SpindleSt :=
  { drive := .off, startPend := false, holding := false, attempts := 0, lockLoss := none,
    chopFault := false, barred := false, overCount := 0, missCount := 0, duties := [0, 0, 0], nextDuties := [0, 0, 0], atCentre := true,
    volts := [0, 0, 0], vmSns := 0, angle := 0, polarity := false, alignI := 0, integ := 0, iCmd := 0, dCmd := 0,
    fsyncTick := none, periods := [], ainSamples := [], srcTick := 0, followMap := none,
    mapped := 0, slewMilli := 0, speedBad := false, refreshes := 0, pulses := 0, lastPulse := none }

def HeadSt.reset : HeadSt :=
  { failed := false, folTicks := [], dropTicks := [], noSample := 0, echoBad := 0, alone := false, tripTicks := [],
    devTicks := [] }

def Place.reset : Place :=
  { head := 0, active := false, nFel := 0, nWi := 0, nRd := 0, nSat := 0, toff := 0, offs := 0, ampN := 0, ampQ := 0, dtoff := 0, integ := 0, hold := 0, pend := 0,
    seen := false, rms := 0, rmsLast := 0 }

def ServoSt.reset : ServoSt :=
  { places := [], heads := [], attempts := 0, reload := false, faultPend := false, reqGroup := 0, reqTrack := 0,
    pendCmd := 0, cinteg := 0, chold := 0, i2t := 0, shockLeft := 0, isnBad := 0, maBad := 0,
    cmiss := 0, fmiss := 0, rroConv := [], rro := [], coefRpm := 0, coefs := [], announces := [], missed := false, lastPos := 0,
    stWedges := 0, seekWait := none, grpAcq := false, coefPend := none, away := true, wedgeTicks := [], maFrames := [], maFetch := none }

def AssistSlot.reset : AssistSlot :=
  { init := 0, pnom := 0, rlim := 0, duty := 0, integ := 0, pend := 0, devCount := 0, suspended := false,
    emitter := 0, deferred := false, closeTick := none }

def AssistSt.reset : AssistSt := { slots := [], misses := 0, missed := false, tintTick := 0, paFrames := [], paRegs := [], paRead := none, routes := [] }

def LaneSt.reset : LaneSt :=
  { queue := [], cur := none, found := false, missed := false, syncOff := 0, syncCnt := 0, inline := false, erased := 0,
    offTrack := false, results := [], statuses := [], extent := none, unit := 0, capTick := 0 }

def SlotSt.reset : SlotSt := { queue := [], payload := [], cur := none }

def LanesSt.reset : LanesSt := { lanes := [], slots := [], rereads := [] }

def Extent.reset : Extent := { written := false, lastTick := 0, pins := 0 }

def DecodeSt.reset : DecodeSt :=
  { extents := [], index := [], failed := [], queue := [], active := [], resets := [], offsetNeg := [], direct := [] }

def CalSt.reset : CalSt := { sets := [], saved := [], runs := [], causes := [], accepts := [], asked := [], lsUse := 0, handing := 0 }

def TierSt.reset : TierSt :=
  { stripes := [], queue := [], started := false, sj := [], seq := 0, head := 64, next := 64, posSlot := 0, rebuilds := [], recons := [], patrolSt := 0, lost := [], restored := [],
    reloc := [], shares := [], rbMark := 0, plMark := 0 }

def PoolSt.reset : PoolSt :=
  { out := [], hasId := false, slot := none, stale := [], toff := 0, xid := 0, members := [], hellos := [], leaders := [], rosters := [], claim := none, votes := [], parts := [],
    partEpoch := 0, repeated := false, waiting := [], opens := [], held := [], qdone := [], done := [], parity := [],
    parityQ := [], spare := [], retained := [], mine := [], pairs := [], reads := [], probing := [], rebuildOf := none,
    adopted := [] }

def EbSt.reset : EbSt :=
  { tx := [], buf := none, cycle := 0, sentCycle := false, seq := 0, lastSent := [], health := [], phyId := (0, 0, 0), claims := [], electing := false, heard := 0, tickSeen := 0,
    holders := [], queue := [], epochWait := false, colls := [], startWant := false, localDelay := false }

/-- The block right after power-on reset, PORST_L low, nothing commanded. -/
def State.reset : State :=
  { pending := [], tick := 0, regs := [], tickMem := ⟨[], [], [], []⟩, recorded := [], pins := Pins.reset, power := Power.reset,
    doms := ⟨DomSt.reset, DomSt.reset, DomSt.reset, DomSt.reset⟩, acc := AccordSt.reset, nv := NonVol.reset, sec := SecSt.reset,
    faults := { restartDue := false, entryTick := 0 }, sil := SilSt.reset, thermal := ThermalSt.reset,
    nvme := NvmeSt.reset, rings := RingsSt.reset, map := MapSt.reset, helpers := [], steward := StewardSt.reset,
    fabric := FabricSt.reset, mem := MemSt.reset, cache := CacheSt.reset, movers := MoversSt.reset,
    spindle := SpindleSt.reset, servo := ⟨ServoSt.reset, ServoSt.reset⟩, assist := ⟨AssistSt.reset, AssistSt.reset⟩,
    lanes := LanesSt.reset, decode := DecodeSt.reset, cal := CalSt.reset, tier := TierSt.reset, pool := PoolSt.reset,
    eb := EbSt.reset, freeIdx := 0, readOut := [] }

end Sys2Proof.Machine
end

