-- ==== Sys2Proof/Machine/Regs.lean ====
section
/-! DEFINITION. Reading and writing registers and their fields, and the small combinators every meaning is built from. -/
namespace Sys2Proof.Machine

/-- 0 for actuator A, 1 for B: the place of its half of SV and AS (R51). -/
def actNum : Act → Nat
  | .A => 0
  | .B => 1

/-- The other actuator. -/
def otherAct : Act → Act
  | .A => .B
  | .B => .A

/-- The actuator numbered `n`. -/
def actOf (n : Nat) : Act := if n = 0 then .A else .B

/-- The supervisor, the timebase and the enclosure-bus PHY are out of reset: PORST_L high, and no supply reset (R94, R108). -/
def State.awake (s : State) : Bool := s.power.porst && !s.power.supplyReset

/-- The supply of VM is watched: awake, outside Hibernate. -/
def State.watching (s : State) : Bool := s.awake && !s.power.hibernate

/-- The device runs: awake, with every rail up since its sequence ended and none taken down again (R90, R92, R94, R108). -/
def State.live (s : State) : Bool := s.awake && s.power.phase == .done

/-- An effect on units that are without power or held in reset but for a device that runs: it has none otherwise. -/
def State.whileLive (s : State) (f : State → State) : State := if s.live then f s else s

/-- The value of the register at BAR2 address `addr`. -/
def State.reg (s : State) (addr : Nat) : Word32 := SMap.get resetWord s.regs addr

/-- Write the register at `addr`. -/
def State.setReg (s : State) (addr : Nat) (w : Word32) : State :=
  { s with regs := SMap.set resetWord s.regs addr w }

/-- The register at `addr` as the current tick found it. -/
def State.regThen (s : State) (addr : Nat) : Word32 := SMap.get resetWord s.tickMem.regs addr

/-- The bits of field `f`, all ones in its place. -/
def Fld.mask (f : Fld) : Word32 := BitVec.ofNat 32 ((2 ^ (f.hi - f.lo + 1) - 1) * 2 ^ f.lo)

/-- The largest value of field `f`. -/
def Fld.max (f : Fld) : Nat := 2 ^ (f.hi - f.lo + 1) - 1

/-- Field `f` of the word `w`. -/
def Fld.ofWord (f : Fld) (w : Word32) : Nat := w.toNat / 2 ^ f.lo % 2 ^ (f.hi - f.lo + 1)

/-- The word `w` with field `f` holding `v`, truncated to the field's width. -/
def Fld.intoWord (f : Fld) (w : Word32) (v : Nat) : Word32 :=
  (w &&& ~~~ f.mask) ||| (BitVec.ofNat 32 (v % 2 ^ (f.hi - f.lo + 1) * 2 ^ f.lo) &&& f.mask)

/-- The value of field `f`. -/
def State.fld (s : State) (f : Fld) : Nat := f.ofWord (s.reg f.addr)

/-- Write `v` to field `f`, the other fields of the register unchanged. -/
def State.setFld (s : State) (f : Fld) (v : Nat) : State := s.setReg f.addr (f.intoWord (s.reg f.addr) v)

/-- Field `f` as the current tick found it. -/
def State.fldThen (s : State) (f : Fld) : Nat := f.ofWord (s.regThen f.addr)

/-- Field `f` counts as having been `v` when the current tick began. -/
def State.setThen (s : State) (f : Fld) (v : Nat) : State :=
  { s with tickMem := { s.tickMem with regs := SMap.set resetWord s.tickMem.regs f.addr (f.intoWord (s.regThen f.addr) v) } }

/-- An event of this tick sets bits `v` of field `f` (R16), or takes a sample of it (R17, all its bits). -/
def State.noteSet (s : State) (f : Fld) (v : Nat) : State :=
  { s with tickMem := { s.tickMem with set := SMap.modify (fun _ => 0) s.tickMem.set f.addr (fun w => w ||| f.intoWord 0 v) } }

/-- What the events of this tick have given field `f` becomes `v` (R17). -/
def State.noteGain (s : State) (f : Fld) (v : Nat) : State :=
  { s with tickMem := { s.tickMem with gain := SMap.modify (fun _ => 0) s.tickMem.gain f.addr (fun w => f.intoWord w v) } }

/-- Bits of `f` set in this tick. -/
def State.fldSet (s : State) (f : Fld) : Nat := f.ofWord (SMap.get (fun _ => 0) s.tickMem.set f.addr)

/-- What the events of this tick have given `f`. -/
def State.fldGain (s : State) (f : Fld) : Nat := f.ofWord (SMap.get (fun _ => 0) s.tickMem.gain f.addr)

/-- Set a one-bit field to 1. -/
def State.setBit (s : State) (f : Fld) : State := (s.setFld f 1).noteSet f 1

/-- Set a field to 0. -/
def State.clrBit (s : State) (f : Fld) : State := s.setFld f 0

/-- Field `f` is 1 (or not 0). -/
def State.bit (s : State) (f : Fld) : Bool := s.fld f != 0

/-- Add `n` to a counter that saturates at its field's largest value. -/
def State.addSat (s : State) (f : Fld) (n : Nat) : State :=
  (s.setFld f (Nat.min (s.fld f + n) f.max)).noteGain f (Nat.min (s.fldGain f + n) f.max)

/-- Count one event in a saturating counter. -/
def State.bump (s : State) (f : Fld) : State := s.addSat f 1

/-- A sample `v` of a field that keeps the best of its samples; `best` compares what the field holds with a sample. -/
def State.keepBest (s : State) (f : Fld) (best : Nat → Nat → Nat) (v : Nat) : State :=
  ((s.setFld f (best (s.fld f) v)).noteGain f (if s.fldSet f = 0 then v else best (s.fldGain f) v)).noteSet f f.max

/-- The lesser of a field and a sample, where 0 stands for no sample yet. -/
def leastSeen (old v : Nat) : Nat := if old = 0 then v else Nat.min old v

/-- Bit `n` of a multi-bit field. -/
def State.fldBit (s : State) (f : Fld) (n : Nat) : Bool := s.fld f / 2 ^ n % 2 == 1

/-- Set or clear bit `n` of a multi-bit field. -/
def State.setFldBit (s : State) (f : Fld) (n : Nat) (b : Bool) : State :=
  if b then (if s.fldBit f n then s else s.setFld f (s.fld f + 2 ^ n)).noteSet f (2 ^ n)
  else if s.fldBit f n then s.setFld f (s.fld f - 2 ^ n) else s

/-- Apply `f` where `b` holds. -/
def State.when (s : State) (b : Bool) (f : State → State) : State := if b then f s else s

/-- Apply `f` for each element, in order. -/
def State.each {α : Type} (s : State) (l : List α) (f : State → α → State) : State := l.foldl f s

/-- Apply `f` to the value, where there is one. -/
def State.onSome {α : Type} (s : State) (o : Option α) (f : State → α → State) : State :=
  match o with
  | some x => f s x
  | none => s

/-- The 40 ns ticks of a number of microseconds (R56). -/
def usTicks (n : Nat) : Nat := n * 25

/-- The 40 ns ticks of a number of milliseconds. -/
def msTicks (n : Nat) : Nat := n * 25000

/-- The 40 ns ticks of a number of seconds. -/
def secTicks (n : Nat) : Nat := n * 25000000

/-- Two's complement of an integer in `w` bits. -/
def toTwos (w : Nat) (v : Int) : Nat := (v % (2 ^ w : Nat)).toNat

/-- The integer a `w`-bit two's complement value stands for. -/
def ofTwos (w : Nat) (v : Nat) : Int := if v < 2 ^ (w - 1) then (v : Int) else (v : Int) - (2 ^ w : Nat)

/-- `n` bytes of `v`, least significant first (R9). -/
def leBytes : Nat → Nat → List Byte
  | 0, _ => []
  | n + 1, v => BitVec.ofNat 8 v :: leBytes n (v / 256)

/-- The number that bytes spell, least significant first (R9). -/
def leNat : List Byte → Nat
  | [] => 0
  | b :: bs => b.toNat + 256 * leNat bs

/-- Two's complement of an integer in `n` bytes, least significant first. -/
def leInt (n : Nat) (v : Int) : List Byte := leBytes n (toTwos (8 * n) v)

/-- `n` bytes of `l` from `off`; bytes beyond its end are zero. -/
def slice (l : List Byte) (off n : Nat) : List Byte :=
  let t := (l.drop off).take n
  t ++ List.replicate (n - t.length) 0

/-- The number at `off`, `n` bytes long, of a byte string (R9). -/
def leAt (l : List Byte) (off n : Nat) : Nat := leNat (slice l off n)

/-- Bytes `off` onward of `l` replaced by `d`; `l` is filled with zeros up to `off` where it is shorter. -/
def putBytes (l : List Byte) (off : Nat) (d : List Byte) : List Byte :=
  (l.take off ++ List.replicate (off - l.length) 0) ++ d ++ l.drop (off + d.length)

/-- Bit `n` of a number. -/
def natBit (v n : Nat) : Bool := v / 2 ^ n % 2 == 1

/-- Bits `lo` up to (not including) `lo + w` of a number. -/
def natBits (v lo w : Nat) : Nat := v / 2 ^ lo % 2 ^ w

/-- Draw a fresh free value's index. -/
def State.drawFree (s : State) : State := { s with freeIdx := s.freeIdx + 1 }

/-! ### Parts of the state that are kept per number -/

def State.helper (s : State) (h : Nat) : Helper := SMap.get (fun _ => Helper.reset) s.helpers h

def State.modHelper (s : State) (h : Nat) (f : Helper → Helper) : State :=
  { s with helpers := SMap.modify (fun _ => Helper.reset) s.helpers h f }

def State.dom (s : State) : Dom → DomSt
  | .DA => s.doms.DA
  | .DB => s.doms.DB
  | .DP => s.doms.DP
  | .DE => s.doms.DE

def State.modDom (s : State) (d : Dom) (f : DomSt → DomSt) : State :=
  match d with
  | .DA => { s with doms := { s.doms with DA := f s.doms.DA } }
  | .DB => { s with doms := { s.doms with DB := f s.doms.DB } }
  | .DP => { s with doms := { s.doms with DP := f s.doms.DP } }
  | .DE => { s with doms := { s.doms with DE := f s.doms.DE } }

/-- The domain of an actuator (R24). -/
def domOfAct : Act → Dom
  | .A => .DA
  | .B => .DB

/-- Domain codes of R115: DA 1, DB 2, DP 4, DE 5. -/
def domCode : Dom → Nat
  | .DA => 1
  | .DB => 2
  | .DP => 4
  | .DE => 5

def domOfCode (n : Nat) : Option Dom :=
  if n = 1 then some .DA else if n = 2 then some .DB else if n = 4 then some .DP else if n = 5 then some .DE else none

/-- The actuator of DA or DB. -/
def actOfDom : Dom → Option Act
  | .DA => some .A
  | .DB => some .B
  | _ => none

def State.isServing (s : State) (d : Dom) : Bool := (s.dom d).st == .serving

def State.sv (s : State) (a : Act) : ServoSt := s.servo.at a

def State.modSv (s : State) (a : Act) (f : ServoSt → ServoSt) : State :=
  { s with servo := s.servo.put a (f (s.servo.at a)) }

def State.as (s : State) (a : Act) : AssistSt := s.assist.at a

def State.modAs (s : State) (a : Act) (f : AssistSt → AssistSt) : State :=
  { s with assist := s.assist.put a (f (s.assist.at a)) }

def State.head (s : State) (a : Act) (i : Nat) : HeadSt := SMap.get (fun _ => HeadSt.reset) (s.sv a).heads i

def State.modHead (s : State) (a : Act) (i : Nat) (f : HeadSt → HeadSt) : State :=
  s.modSv a (fun v => { v with heads := SMap.modify (fun _ => HeadSt.reset) v.heads i f })

def State.place (s : State) (a : Act) (k : Nat) : Place := SMap.get (fun _ => Place.reset) (s.sv a).places k

def State.modPlace (s : State) (a : Act) (k : Nat) (f : Place → Place) : State :=
  s.modSv a (fun v => { v with places := SMap.modify (fun _ => Place.reset) v.places k f })

/-- Slot `n` (0 or 1) of actuator `a` on its assist side. -/
def State.aslot (s : State) (a : Act) (n : Nat) : AssistSlot :=
  SMap.get (fun _ => AssistSlot.reset) (s.as a).slots n

def State.modAslot (s : State) (a : Act) (n : Nat) (f : AssistSlot → AssistSlot) : State :=
  s.modAs a (fun v => { v with slots := SMap.modify (fun _ => AssistSlot.reset) v.slots n f })

def State.lane (s : State) (l : Nat) : LaneSt := SMap.get (fun _ => LaneSt.reset) s.lanes.lanes l

def State.modLane (s : State) (l : Nat) (f : LaneSt → LaneSt) : State :=
  { s with lanes := { s.lanes with lanes := SMap.modify (fun _ => LaneSt.reset) s.lanes.lanes l f } }

/-- Write slot number: 0 WA0, 1 WA1, 2 WB0, 3 WB1 (R238). -/
def slotNum (a : Act) (n : Nat) : Nat := 2 * actNum a + n

def State.slot (s : State) (k : Nat) : SlotSt := SMap.get (fun _ => SlotSt.reset) s.lanes.slots k

def State.modSlot (s : State) (k : Nat) (f : SlotSt → SlotSt) : State :=
  { s with lanes := { s.lanes with slots := SMap.modify (fun _ => SlotSt.reset) s.lanes.slots k f } }

def State.chan (s : State) (c : Nat) : Channel := SMap.get (fun _ => Channel.reset) s.movers.chans c

def State.modChan (s : State) (c : Nat) (f : Channel → Channel) : State :=
  { s with movers := { s.movers with chans := SMap.modify (fun _ => Channel.reset) s.movers.chans c f } }

def State.ring (s : State) (r : Nat) : RingSt := SMap.get (fun _ => RingSt.reset) s.rings.rings r

def State.modRing (s : State) (r : Nat) (f : RingSt → RingSt) : State :=
  { s with rings := { s.rings with rings := SMap.modify (fun _ => RingSt.reset) s.rings.rings r f } }

/-- Controller 0 is the one of the x4 link or port 0 (CNTLID 1), 1 that of port 1 (R534). -/
def State.ctrl (s : State) (c : Nat) : Ctrl := SMap.get (fun _ => Ctrl.reset) s.nvme.ctrls c

def State.modCtrl (s : State) (c : Nat) (f : Ctrl → Ctrl) : State :=
  { s with nvme := { s.nvme with ctrls := SMap.modify (fun _ => Ctrl.reset) s.nvme.ctrls c f } }

def State.modNvme (s : State) (f : NvmeSt → NvmeSt) : State := { s with nvme := f s.nvme }
def State.modPower (s : State) (f : Power → Power) : State := { s with power := f s.power }
def State.modPins (s : State) (f : Pins → Pins) : State := { s with pins := f s.pins }
def State.modSec (s : State) (f : SecSt → SecSt) : State := { s with sec := f s.sec }
def State.modSp (s : State) (f : SpindleSt → SpindleSt) : State := { s with spindle := f s.spindle }
def State.modMap (s : State) (f : MapSt → MapSt) : State := { s with map := f s.map }
def State.modSteward (s : State) (f : StewardSt → StewardSt) : State := { s with steward := f s.steward }
def State.modMem (s : State) (f : MemSt → MemSt) : State := { s with mem := f s.mem }
def State.modCache (s : State) (f : CacheSt → CacheSt) : State := { s with cache := f s.cache }
def State.modDecode (s : State) (f : DecodeSt → DecodeSt) : State := { s with decode := f s.decode }
def State.modCal (s : State) (f : CalSt → CalSt) : State := { s with cal := f s.cal }
def State.modLanes (s : State) (f : LanesSt → LanesSt) : State := { s with lanes := f s.lanes }
def State.modFabric (s : State) (f : FabricSt → FabricSt) : State := { s with fabric := f s.fabric }
def State.modAcc (s : State) (f : AccordSt → AccordSt) : State := { s with acc := f s.acc }
def State.modNv (s : State) (f : NonVol → NonVol) : State := { s with nv := f s.nv }
def State.modTier (s : State) (f : TierSt → TierSt) : State := { s with tier := f s.tier }
def State.modPool (s : State) (f : PoolSt → PoolSt) : State := { s with pool := f s.pool }
def State.modEb (s : State) (f : EbSt → EbSt) : State := { s with eb := f s.eb }

def State.flashAccord (s : State) (k : Nat) : FlashSlot := SMap.get (fun _ => FlashSlot.empty) s.nv.accord k

def State.modFlashAccord (s : State) (k : Nat) (f : FlashSlot → FlashSlot) : State :=
  s.modNv (fun n => { n with accord := SMap.modify (fun _ => FlashSlot.empty) n.accord k f })

def State.flashPatch (s : State) (k : Nat) : FlashSlot := SMap.get (fun _ => FlashSlot.empty) s.nv.patch k

def State.modFlashPatch (s : State) (k : Nat) (f : FlashSlot → FlashSlot) : State :=
  s.modNv (fun n => { n with patch := SMap.modify (fun _ => FlashSlot.empty) n.patch k f })

def State.namespace? (s : State) (nsid : Nat) : Option Namespace := SMap.get (fun _ => none) s.nvme.namespaces nsid

end Sys2Proof.Machine
end

