-- ==== Sys2Proof/Machine/Codeword.lean ====
section
/-! DEFINITION. LDPC code 0x01 and the data field of a frame (R360, R361, R392 to R394): block columns, the parity-check matrix, the
encoder, the scrambler, the frame's CRC. A word is a number whose bits, most significant first, are the cells in write order; byte strings
are numbers likewise, the first byte most significant. -/
namespace Sys2Proof.Machine

/-! ### Byte strings as numbers -/

def beNat (l : List Byte) : Nat := l.foldl (fun n b => n * 256 + b.toNat) 0

def beBytes (n w : Nat) : List Byte := (List.range n).map (fun k => BitVec.ofNat 8 (w >>> (8 * (n - 1 - k))))

/-! ### The parity-check matrix (R392, R393) -/

def codeBits : Nat := 144288
def infoBits : Nat := 131328
def blockBits : Nat := 864
def blockCols : Nat := 167

/-- Block column `j` of a word: its 864 bits, position 0 first. -/
def blockCol (w j : Nat) : Nat := (w >>> (blockBits * (blockCols - 1 - j))) % 2 ^ blockBits

/-- A circulant of shift `s` times a block column: local row r of the product is position (r + s) mod 864. -/
def circulant (s x : Nat) : Nat := ((x <<< s) ||| (x >>> (blockBits - s))) % 2 ^ blockBits

/-- The shift of block row `i` in block column `j` of the information part. -/
def blockShift (i j : Nat) : Nat := (i * (j * j + 7) + 29 * j) % blockBits

/-- The information columns with a nonzero block in block row `i`: j mod 15 is i, i + 5 or i + 10 modulo 15. -/
def infoColumns (i : Nat) : List Nat := (List.range 152).filter (fun j => i == j % 15 || i == (j + 5) % 15 || i == (j + 10) % 15)

/-- What block row `i` makes of the information columns. -/
def infoRow (w i : Nat) : Nat := (infoColumns i).foldl (fun a j => a ^^^ circulant (blockShift i j) (blockCol w j)) 0

/-- What block row `i` makes of the parity columns: 152 + k stands in rows k and k + 1, column 166 in row 14. -/
def parityRow (w i : Nat) : Nat := blockCol w (152 + i) ^^^ (if i = 0 then 0 else blockCol w (151 + i))

/-- Block row `i` of H times the word (R394). -/
def syndromeRow (w i : Nat) : Nat := infoRow w i ^^^ parityRow w i

/-- A codeword: H times it is zero. -/
def isCodeword (w : Nat) : Bool := (List.range 15).all (fun i => syndromeRow w i == 0)

/-- The unsatisfied checks of a word. -/
def popCount : Nat → Nat → Nat
  | 0, _ => 0
  | k + 1, x => x % 2 + popCount k (x / 2)

def unsatisfied (w : Nat) : Nat := (List.range 15).foldl (fun n i => n + popCount blockBits (syndromeRow w i)) 0

/-- The parity of scrambled information bits, block rows `i` and after, `last` being the parity before them. -/
def parityFrom (w : Nat) : List Nat → Nat → Nat → Nat
  | [], _, acc => acc
  | i :: l, last, acc => parityFrom w l (infoRow w i ^^^ last) (acc * 2 ^ blockBits + (infoRow w i ^^^ last))

/-- The codeword of scrambled information bits (R394). -/
def ldpcEncode (info : Nat) : Nat :=
  let w := info * 2 ^ (codeBits - infoBits)
  w + parityFrom w (List.range 15) 0 0

/-! ### The scrambler (R360) -/

/-- A sequence of which `n` cells are known, grown to `len`: cell n is cell n - 18 plus cell n - 23, and with it, for every power of two
K, cell n - 18 K plus cell n - 23 K. -/
def prbsGrow (len : Nat) : Nat → Nat → Nat → Nat
  | 0, _, x => x
  | fuel + 1, n, x =>
    if len ≤ n then x
    else
      let k := 2 ^ (n / 23).log2
      let m := Nat.min (18 * k) (len - n)
      prbsGrow len fuel (n + m) (x * 2 ^ m + (((x >>> (23 * k - m)) ^^^ (x >>> (18 * k - m))) % 2 ^ m))

/-- The seed: TRACK x 256 plus FRAME without carry, modulo 2^23, bit 0 set (DEDUCED, assumption 97). -/
def prbsSeed (track frame : Nat) : Nat := ((track * 256) ^^^ frame) % 2 ^ 23 ||| 1

/-- The sequence over header and payload. The register's highest bit leaves first and its 23rd and 18th stages are fed back (DESIGN
CHOICE, assumption 97). -/
def prbs (track frame : Nat) : Nat := prbsGrow infoBits 64 23 (prbsSeed track frame)

/-! ### CRC-32C of a long string (R361, R693) -/

/-- Product of polynomials over GF(2); `n` coefficients of `b` count. -/
def clmul : Nat → Nat → Nat → Nat
  | 0, _, _ => 0
  | n + 1, a, b => (if b % 2 = 1 then a else 0) ^^^ clmul n (2 * a) (b / 2)

/-- Remainder of a polynomial of fewer than 32 + n coefficients modulo the CRC-32C polynomial. -/
def crcRem : Nat → Nat → Nat
  | 0, a => a
  | n + 1, a => crcRem n (if a.testBit (32 + n) then a ^^^ (0x11EDC6F41 <<< n) else a)

/-- x^n modulo the polynomial, by squaring; `k` bits of `n` count. -/
def crcPow : Nat → Nat → Nat
  | 0, _ => 1
  | k + 1, n =>
    let h := crcPow k (n / 2)
    crcRem 33 (clmul 32 h h * 2 ^ (n % 2))

/-- Remainder of a polynomial of `w` coefficients, halved while it is long. -/
def crcFold : Nat → Nat → Nat → Nat
  | 0, _, a => crcRem 64 a
  | fuel + 1, w, a =>
    if w ≤ 96 then crcRem 64 a
    else crcFold fuel (Nat.max (w / 2) (w - w / 2 + 31)) (clmul 32 (a >>> (w / 2)) (crcPow 20 (w / 2)) ^^^ a % 2 ^ (w / 2))

/-- The bits of each byte of an `n`-byte string in reverse. -/
def reverseBits (n x : Nat) : Nat :=
  let ones := (2 ^ (8 * n) - 1) / 255
  let swap := fun (x m s : Nat) => ((x >>> s) &&& (ones * m)) ||| ((x &&& (ones * m)) <<< s)
  swap (swap (swap x 0x0F 4) 0x33 2) 0x55 1

/-- The CRC-32C of an `n`-byte string given as a number. -/
def crcNat (n x : Nat) : Nat :=
  let r := crcFold 40 (8 * n + 32) ((reverseBits n x) * 2 ^ 32 ^^^ (0xFFFFFFFF * 2 ^ (8 * n)))
  let f := reverseBits 4 r
  (f % 256 * 2 ^ 24 + f / 2 ^ 8 % 256 * 2 ^ 16 + f / 2 ^ 16 % 256 * 2 ^ 8 + f / 2 ^ 24) ^^^ 0xFFFFFFFF

/-! ### A frame's data field (R360, R361, R396) -/

def headerBytes : Nat := 32
def payloadBytes : Nat := 16384

/-- The header bytes without CRC, as a number: TRACK, FRAME, KIND, SEQ, TAG, each with its low byte first. -/
def frameHeader (track frame kind seq tag : Nat) : List Byte :=
  leBytes 4 track ++ leBytes 2 frame ++ leBytes 1 kind ++ leBytes 1 0 ++ leBytes 8 seq ++ leBytes 8 tag ++ leBytes 4 0

/-- Header and payload as written, unscrambled: the CRC over header bytes 0 to 27 and the payload stands in bytes 28 to 31. -/
def frameInfo (track frame kind seq tag : Nat) (payload : List Byte) : Nat :=
  let h := beNat (frameHeader track frame kind seq tag)
  let p := beNat payload
  let crc := crcNat 16412 (h * 2 ^ (8 * payloadBytes) + p)
  (h * 2 ^ 32 + beNat (leBytes 4 crc)) * 2 ^ (8 * payloadBytes) + p

/-- The data field of a frame: scrambled and encoded. -/
def frameWord (track frame kind seq tag : Nat) (payload : List Byte) : Nat :=
  ldpcEncode (frameInfo track frame kind seq tag payload ^^^ prbs track frame)

/-- The information bits of a word that was written at a place, descrambled. -/
def wordInfo (w track frame : Nat) : Nat := (w >>> (codeBits - infoBits)) ^^^ prbs track frame

/-- `n` bytes at byte `off` of the information bits, low byte first as a number. -/
def infoField (info off n : Nat) : Nat := leNat (beBytes n ((info >>> (8 * (16416 - off - n))) % 2 ^ (8 * n)))

/-- The CRC-32C of R361 matches. -/
def infoCrcOk (info : Nat) : Bool :=
  crcNat 16412 ((info >>> (8 * 16388)) * 2 ^ (8 * payloadBytes) + info % 2 ^ (8 * payloadBytes)) == infoField info 28 4

/-- The header and the payload of the information bits. -/
def infoHeader (info : Nat) : List Byte := beBytes headerBytes (info >>> (8 * payloadBytes))
def infoPayload (info : Nat) : List Byte := beBytes payloadBytes (info % 2 ^ (8 * payloadBytes))

end Sys2Proof.Machine
end

