-- ==== Sys2Proof/Machine/Crypto.lean ====
section
/-! DEFINITION. The hash and the signature scheme that the spec names: SHA-256 (FIPS 180-4) and RSASSA-PSS of RFC 8017 with SHA-256,
MGF1 with SHA-256 and a 32-byte salt, over RSA-3072 keys of public exponent 65,537 (R123, R638). The keys themselves are constants
without a body. -/
namespace Sys2Proof.Machine

/-! ### SHA-256 -/

/-- Rotate a 32-bit value right by `n`. -/
def rotr32 (n x : Nat) : Nat := x >>> n + (x % 2 ^ n) * 2 ^ (32 - n)

/-- The functions Σ0, Σ1, σ0, σ1, Ch and Maj of FIPS 180-4, on 32-bit values. -/
def shaBig0 (x : Nat) : Nat := Nat.xor (rotr32 2 x) (Nat.xor (rotr32 13 x) (rotr32 22 x))
def shaBig1 (x : Nat) : Nat := Nat.xor (rotr32 6 x) (Nat.xor (rotr32 11 x) (rotr32 25 x))
def shaSmall0 (x : Nat) : Nat := Nat.xor (rotr32 7 x) (Nat.xor (rotr32 18 x) (x >>> 3))
def shaSmall1 (x : Nat) : Nat := Nat.xor (rotr32 17 x) (Nat.xor (rotr32 19 x) (x >>> 10))
def shaCh (x y z : Nat) : Nat := Nat.xor (Nat.land x y) (Nat.land (0xFFFFFFFF - x) z)
def shaMaj (x y z : Nat) : Nat := Nat.xor (Nat.land x y) (Nat.xor (Nat.land x z) (Nat.land y z))

/-- The 64 round constants. -/
def shaK : List Nat :=
  [0x428a2f98, 0x71374491, 0xb5c0fbcf, 0xe9b5dba5, 0x3956c25b, 0x59f111f1, 0x923f82a4, 0xab1c5ed5, 0xd807aa98, 0x12835b01,
    0x243185be, 0x550c7dc3, 0x72be5d74, 0x80deb1fe, 0x9bdc06a7, 0xc19bf174] ++
  [0xe49b69c1, 0xefbe4786, 0x0fc19dc6, 0x240ca1cc, 0x2de92c6f, 0x4a7484aa, 0x5cb0a9dc, 0x76f988da, 0x983e5152, 0xa831c66d,
    0xb00327c8, 0xbf597fc7, 0xc6e00bf3, 0xd5a79147, 0x06ca6351, 0x14292967] ++
  [0x27b70a85, 0x2e1b2138, 0x4d2c6dfc, 0x53380d13, 0x650a7354, 0x766a0abb, 0x81c2c92e, 0x92722c85, 0xa2bfe8a1, 0xa81a664b,
    0xc24b8b70, 0xc76c51a3, 0xd192e819, 0xd6990624, 0xf40e3585, 0x106aa070] ++
  [0x19a4c116, 0x1e376c08, 0x2748774c, 0x34b0bcb5, 0x391c0cb3, 0x4ed8aa4a, 0x5b9cca4f, 0x682e6ff3, 0x748f82ee, 0x78a5636f,
    0x84c87814, 0x8cc70208, 0x90befffa, 0xa4506ceb, 0xbef9a3f7, 0xc67178f2]

/-- The eight working values a to h. -/
structure ShaSt where
  a : Nat
  b : Nat
  c : Nat
  d : Nat
  e : Nat
  f : Nat
  g : Nat
  h : Nat
  deriving DecidableEq, Repr

/-- The initial hash value. -/
def ShaSt.first : ShaSt :=
  ⟨0x6a09e667, 0xbb67ae85, 0x3c6ef372, 0xa54ff53a, 0x510e527f, 0x9b05688c, 0x1f83d9ab, 0x5be0cd19⟩

/-- One round with the constant and the schedule word `kw.1` and `kw.2`. -/
def ShaSt.round (x : ShaSt) (kw : Nat × Nat) : ShaSt :=
  let t1 := x.h + shaBig1 x.e + shaCh x.e x.f x.g + kw.1 + kw.2
  let t2 := shaBig0 x.a + shaMaj x.a x.b x.c
  ⟨(t1 + t2) % 2 ^ 32, x.a, x.b, x.c, (x.d + t1) % 2 ^ 32, x.e, x.f, x.g⟩

/-- The message schedule, newest word first: `n` more words. -/
def shaSchedule : Nat → List Nat → List Nat
  | 0, r => r
  | n + 1, r =>
    let at_ := fun (k : Nat) => (r[k]?).getD 0
    shaSchedule n ((shaSmall1 (at_ 1) + at_ 6 + shaSmall0 (at_ 14) + at_ 15) % 2 ^ 32 :: r)

/-- The 32-bit big-endian words of a block. -/
def beWords : List Byte → List Nat
  | p :: q :: r :: t :: l => (p.toNat * 0x1000000 + q.toNat * 0x10000 + r.toNat * 0x100 + t.toNat) :: beWords l
  | _ => []

/-- One 64-byte block into the hash value. -/
def ShaSt.block (x : ShaSt) (blk : List Byte) : ShaSt :=
  let w := (shaSchedule 48 (beWords blk).reverse).reverse
  let y := (shaK.zip w).foldl ShaSt.round x
  ⟨(x.a + y.a) % 2 ^ 32, (x.b + y.b) % 2 ^ 32, (x.c + y.c) % 2 ^ 32, (x.d + y.d) % 2 ^ 32, (x.e + y.e) % 2 ^ 32, (x.f + y.f) % 2 ^ 32,
    (x.g + y.g) % 2 ^ 32, (x.h + y.h) % 2 ^ 32⟩

/-- `n` blocks. -/
def ShaSt.blocks : Nat → List Byte → ShaSt → ShaSt
  | 0, _, x => x
  | n + 1, l, x => ShaSt.blocks n (l.drop 64) (x.block (l.take 64))

/-- The padded message: a one bit, zeros, and the length in bits in 8 bytes. -/
def shaPad (m : List Byte) : List Byte :=
  m ++ [0x80] ++ List.replicate ((119 - m.length % 64) % 64) 0 ++ beBytes 8 (8 * m.length)

def sha256 (m : List Byte) : List Byte :=
  let p := shaPad m
  let x := ShaSt.blocks (p.length / 64) p ShaSt.first
  [x.a, x.b, x.c, x.d, x.e, x.f, x.g, x.h].flatMap (beBytes 4)

/-! ### RSASSA-PSS -/

/-- `x ^ 65,537 mod n`. -/
def powPublic (n x : Nat) : Nat := ((List.range 16).foldl (fun y _ => y * y % n) x) * x % n

/-- `x ^ d mod n` over the low `w` bits of `d`. -/
def powMod (n : Nat) : Nat → Nat → Nat → Nat
  | 0, _, _ => 1 % n
  | w + 1, x, d => (if d % 2 == 1 then x else 1) * powMod n w (x * x % n) (d / 2) % n

/-- MGF1 with SHA-256: `len` bytes of mask. -/
def mgf1 (seed : List Byte) (len : Nat) : List Byte :=
  ((List.range ((len + 31) / 32)).flatMap (fun k => sha256 (seed ++ beBytes 4 k))).take len

/-- H of EMSA-PSS: the hash of eight zero bytes, the message's hash and the salt. -/
def pssHash (msg salt : List Byte) : List Byte := sha256 (List.replicate 8 0 ++ sha256 msg ++ salt)

/-- Byte-wise exclusive or. -/
def xorBytes (l m : List Byte) : List Byte := List.zipWith (fun x y => x ^^^ y) l m

/-- DB without its highest bit: the encoded message has 3,071 bits. -/
def clearTop : List Byte → List Byte
  | [] => []
  | b :: l => (b &&& 0x7F) :: l

/-- EMSA-PSS-VERIFY of RFC 8017 for a 3,072-bit modulus. -/
def pssOk (msg em : List Byte) : Bool :=
  let masked := em.take 351
  let h := (em.drop 351).take 32
  let db := clearTop (xorBytes masked (mgf1 h 351))
  (em.drop 383) == [0xBC] && clearTop masked == masked && (db.take 318).all (· == 0) && (db.drop 318).take 1 == [0x01] &&
  h == pssHash msg (db.drop 319)

/-- A signature verifies under the key of the big-endian modulus `key` (R123, R638). A modulus that is not of 3,072 bits is no key. -/
def rsaVerify (key msg sig : List Byte) : Bool :=
  let n := beNat key
  key.length == 384 && decide (2 ^ 3071 ≤ n) && sig.length == 384 && decide (beNat sig < n) &&
  pssOk msg (beBytes 384 (powPublic n (beNat sig)))

/-- EMSA-PSS-ENCODE. -/
def pssEncode (msg salt : List Byte) : List Byte :=
  let h := pssHash msg salt
  clearTop (xorBytes (List.replicate 318 0 ++ [0x01] ++ salt) (mgf1 h 351)) ++ h ++ [0xBC]

/-! ### The device's own identity (R639, R648, R654) -/

/-- The identity public key: its modulus, big-endian. -/
def identityKey : List Byte := beBytes 384 Config.identityModulus

/-- IDENT: the SHA-256 of the modulus and the exponent of the identity key. -/
def deviceIdent : List Byte := sha256 (identityKey ++ beBytes 4 65537)

/-- What the identity key signs, with a 32-byte salt. -/
def identitySign (salt msg : List Byte) : List Byte :=
  beBytes 384 (powMod Config.identityModulus 3072 (beNat (pssEncode msg salt)) Config.identityPrivate)

/-- The MAC address of Ethernet port `p`: 02-I0-I1-I2-I3-J, J being I4 with bit 0 replaced by `p`. -/
def portMac (p : Nat) : List Byte :=
  [0x02] ++ deviceIdent.take 4 ++ [BitVec.ofNat 8 ((beNat ((deviceIdent.drop 4).take 1)) / 2 * 2 + p % 2)]

end Sys2Proof.Machine
end

