-- ==== Sys2Proof/Machine/Accord.lean ====
section
/-! DEFINITION. Reading an Accord image (R115 to R122 and the tables of R287, R328, R351), frame positions (R362, R363)
and the validation of R124. -/
namespace Sys2Proof.Machine

/-! ### Fields of an image -/

def acNsect (img : List Byte) : Nat := leAt img 0x16 1
def acImgLen (img : List Byte) : Nat := leAt img 0x08 4
def acGeneration (img : List Byte) : Nat := leAt img 0x0C 4
def acBaseGen (img : List Byte) : Nat := leAt img 0x10 4
def acKind (img : List Byte) : Nat := leAt img 0x14 1
def acTarget (img : List Byte) : Nat := leAt img 0x15 1
def acKeyId (img : List Byte) : Nat := leAt img 0x17 1

/-- Directory entry `i`: TYPE, DOMAIN, OFFSET, LENGTH (R115). -/
def acDirType (img : List Byte) (i : Nat) : Nat := leAt img (0x40 + 12 * i) 1
def acDirDom (img : List Byte) (i : Nat) : Nat := leAt img (0x41 + 12 * i) 1
def acDirOff (img : List Byte) (i : Nat) : Nat := leAt img (0x44 + 12 * i) 4
def acDirLen (img : List Byte) (i : Nat) : Nat := leAt img (0x48 + 12 * i) 4

/-- The directory index of the section TYPE `t` of DOMAIN `d`, if the image holds one. -/
def acIndex (img : List Byte) (t d : Nat) : Option Nat :=
  (List.range (acNsect img)).find? (fun i => acDirType img i == t && acDirDom img i == d)

/-- The bytes of the section TYPE `t` of DOMAIN `d`; empty where the image holds none. -/
def acSection (img : List Byte) (t d : Nat) : List Byte :=
  match acIndex img t d with
  | some i => slice img (acDirOff img i) (acDirLen img i)
  | none => []

/-- Row `r` of table `id` of a table set that starts at byte `base` of the section, rows `size` bytes long; and the
number of rows. A table not held has no rows. -/
def acTabEntry (sec : List Byte) (base id : Nat) : Option Nat :=
  (List.range (leAt sec base 2)).find? (fun k => leAt sec (base + 4 + 8 * k) 2 == id)

def acTabRows (sec : List Byte) (base id : Nat) : Nat :=
  match acTabEntry sec base id with
  | some k => leAt sec (base + 4 + 8 * k + 2) 2
  | none => 0

def acTabOff (sec : List Byte) (base id : Nat) : Nat :=
  match acTabEntry sec base id with
  | some k => leAt sec (base + 4 + 8 * k + 4) 4
  | none => 0

/-- The domain code of an actuator's sections (R115). -/
def acActDom (a : Act) : Nat := 1 + actNum a

/-! ### The applied image -/

/-- `n` bytes at `off` of a section of the applied image. -/
def State.ac (s : State) (t d off n : Nat) : Nat := leAt (acSection s.acc.applied t d) off n

def State.topo (s : State) (off n : Nat) : Nat := s.ac 0x01 0 off n

/-- HEADS_A or HEADS_B. -/
def State.headsOf (s : State) (a : Act) : Nat := s.topo (actNum a) 1

/-- CKPT_A or CKPT_B, the head index of the checkpoint surface. -/
def State.ckptHead (s : State) (a : Act) : Nat := s.topo (5 + actNum a) 1

/-- FEATURES bits: STREAM and POOL. -/
def State.featStream (s : State) : Bool := natBit (s.topo 4 1) 0
def State.featPool (s : State) : Bool := natBit (s.topo 4 1) 1

/-- PCIE: two ports. -/
def State.dualPort (s : State) : Bool := s.topo 3 1 == 1

def State.capBlk (s : State) : Nat := s.topo 8 8

/-- INSEL of lane `l` in the binding section of actuator `a`. -/
def State.insel (s : State) (a : Act) (l : Nat) : Nat := s.ac 0x02 (acActDom a) l 1

/-- PAOUT: read outputs of the actuator's preamplifier. -/
def State.paOut (s : State) (a : Act) : Nat := s.ac 0x02 (acActDom a) 8 1

/-- The actuator to which a working lane is bound. -/
def State.laneAct (s : State) (l : Nat) : Option Act :=
  if s.acc.applied = [] || !(l < 8) then none
  else if s.insel .A l < 0xFF then some .A
  else if s.insel .B l < 0xFF then some .B
  else none

/-- The working lanes bound to actuator `a`, ascending. -/
def State.boundLanes (s : State) (a : Act) : List Nat := (List.range 8).filter (fun l => s.laneAct l == some a)

/-- MODE of the read-mode section: 1 S, 2 D, 3 Q. -/
def State.readMode (s : State) (a : Act) : Nat := s.ac 0x03 (acActDom a) 0 1
def State.ngroups (s : State) (a : Act) : Nat := s.ac 0x03 (acActDom a) 1 1

/-- WRITERS: concurrent writers of the actuator. -/
def State.writers (s : State) (a : Act) : Nat := s.ac 0x03 (acActDom a) 2 1

/-- SYNCPAT of the format section, first bit cell in bit 31. -/
def State.syncPat (s : State) : Nat := s.ac 0x05 0 4 4

/-- Head index at place `k` of group `g`; 0xFF where unused. -/
def State.groupHead (s : State) (a : Act) (g k : Nat) : Nat := s.ac 0x03 (acActDom a) (4 + 4 * g + k) 1

/-- ROLE and PARAM of helper `h` (R118). -/
def State.acRole (s : State) (h : Nat) : Nat := s.ac 0x04 0 h 1
def State.acParam (s : State) (h : Nat) : Nat := s.ac 0x04 0 (24 + h) 1

/-- Policy fields (section 0x0A). -/
def State.policy (s : State) (off n : Nat) : Nat := s.ac 0x0A 0 off n

/-- Redundancy fields LDATA, LINTERIM, LSPARE, PDATA (section 0x0C). -/
def State.redund (s : State) (off : Nat) : Nat := s.ac 0x0C 0 off 1

/-- Pool (section 0x0D) and enclosure (section 0x0E) fields. -/
def State.poolCfg (s : State) (off n : Nat) : Nat := s.ac 0x0D 4 off n
def State.enclCfg (s : State) (off n : Nat) : Nat := s.ac 0x0E 5 off n

/-- Spindle section: header fields, motor parameters (0x0201), start profile (0x0202), rows of 0x0203 and 0x0204. -/
def State.spSect (s : State) : List Byte := acSection s.acc.applied 0x09 3
def State.spHdr (s : State) (off n : Nat) : Nat := leAt s.spSect off n
def State.spRow (s : State) (id row size off n : Nat) : Nat :=
  leAt s.spSect (acTabOff s.spSect 8 id + row * size + off) n
def State.spRows (s : State) (id : Nat) : Nat := acTabRows s.spSect 8 id
def State.motor (s : State) (off n : Nat) : Nat := s.spRow 0x0201 0 32 off n
def State.startProf (s : State) (off n : Nat) : Nat := s.spRow 0x0202 0 16 off n

/-- Servo section (R328): row `row` of table `id`. -/
def State.svSect (s : State) (a : Act) : List Byte := acSection s.acc.applied 0x07 (acActDom a)
def State.svRow (s : State) (a : Act) (id row size off n : Nat) : Nat :=
  leAt (s.svSect a) (acTabOff (s.svSect a) 0 id + row * size + off) n
def State.svRows (s : State) (a : Act) (id : Nat) : Nat := acTabRows (s.svSect a) 0 id

/-- Fields of table 0x0002 (WILIM 0, RDLIM 1, FELIM 2, FETIME 3, SETTLE 4) of head `i`. -/
def State.felRow (s : State) (a : Act) (i off : Nat) : Nat := s.svRow a 0x0002 i 8 off 1
/-- Fields of table 0x0003 (STROKE 0, TPNM 2, MISREG 4, MAGAIN 6) of head `i`. -/
def State.maRow (s : State) (a : Act) (i off : Nat) : Nat := s.svRow a 0x0003 i 8 off 2
/-- Fields of table 0x0005, the competing-loop limits. -/
def State.loopLim (s : State) (a : Act) (off n : Nat) : Nat := s.svRow a 0x0005 0 32 off n

/-- Assist section (R351): row `row` of table `id`. -/
def State.asSect (s : State) (a : Act) : List Byte := acSection s.acc.applied 0x08 (acActDom a)
def State.asRow (s : State) (a : Act) (id row size off n : Nat) : Nat :=
  leAt (s.asSect a) (acTabOff (s.asSect a) 0 id + row * size + off) n
def State.asRows (s : State) (a : Act) (id : Nat) : Nat := acTabRows (s.asSect a) 0 id

/-- Fields of table 0x0102 of head `i`. -/
def State.asLim (s : State) (a : Act) (i off n : Nat) : Nat := s.asRow a 0x0102 i 16 off n
/-- Fields of table 0x0103. -/
def State.asBudget (s : State) (a : Act) (off n : Nat) : Nat := s.asRow a 0x0103 0 16 off n

/-! ### Zones, tracks and frames -/

/-- The zone table's byte offset within the zones section for table `t`: tables follow one another. -/
def znTabOff (sec : List Byte) : Nat → Nat
  | 0 => 36
  | t + 1 => znTabOff sec t + 4 + 16 * leAt sec (znTabOff sec t) 2

/-- Surface numbers follow TRACK bits 28:24: 0-15 for A00-A15, 16-31 for B00-B15 (R361). -/
def surfNum (a : Act) (i : Nat) : Nat := 16 * actNum a + i

def State.znSect (s : State) : List Byte := acSection s.acc.applied 0x06 0

/-- Byte offset of the zone table of a surface; 0 where the head is absent. -/
def State.znOff (s : State) (surf : Nat) : Nat :=
  let t := leAt s.znSect (4 + surf) 1
  if t < leAt s.znSect 0 1 then znTabOff s.znSect t else 0

def State.nzones (s : State) (surf : Nat) : Nat := leAt s.znSect (s.znOff surf) 2

/-- A field of zone `z` of a surface: FIRSTTRK 0, NTRK 4, FRAMES 8, RATE 10, BANDTRK 12, KIND 14. -/
def State.zn (s : State) (surf z off n : Nat) : Nat := leAt s.znSect (s.znOff surf + 4 + 16 * z + off) n

def State.present (s : State) (surf : Nat) : Bool :=
  if surf < 16 then surf < s.headsOf .A else surf < 32 && surf - 16 < s.headsOf .B

/-- The present surfaces, A00 to A15 then B00 to B15 (R438). -/
def State.surfaces (s : State) : List Nat := (List.range 32).filter s.present

/-- The zone of a surface that holds `track`. -/
def State.zoneOfTrack (s : State) (surf track : Nat) : Nat :=
  ((List.range (s.nzones surf)).find? (fun z =>
    s.zn surf z 0 4 ≤ track && track < s.zn surf z 0 4 + s.zn surf z 4 4)).getD 0

/-- Frame positions of a surface (R438). -/
def State.surfFrames (s : State) (surf : Nat) : Nat :=
  (List.range (s.nzones surf)).foldl (fun n z => n + s.zn surf z 4 4 * s.zn surf z 8 2) 0

/-- Frame positions before `track` on its surface. -/
def State.framesBefore (s : State) (surf track : Nat) : Nat :=
  (List.range (s.nzones surf)).foldl (fun n z =>
    n + (Nat.min (s.zn surf z 4 4) (track - s.zn surf z 0 4)) * s.zn surf z 8 2) 0

/-- The physical frame number of frame `f` of `track` on `surf` (R438). -/
def State.pfn (s : State) (surf track f : Nat) : Nat :=
  (s.surfaces.filter (· < surf)).foldl (fun n t => n + s.surfFrames t) 0 + s.framesBefore surf track + f

/-- Cells of a data window at channel rate `rate` (R362); the wedge window is ceil(0.976 x RATE) + 64. -/
def dataWindow (rate : Nat) : Nat := rate * 50 / 3 - ((976 * rate + 999) / 1000 + 64)

/-- The inner loop of R363: cells left of the frame, window, cell. With a short data window `c` may lie beyond `d`: the cells left then
grow by c - d. -/
def frameSpan (d : Nat) : Nat → Nat → Nat → Nat → Nat × Nat
  | 0, left, w, c => (w, c + left)
  | fuel + 1, left, w, c => if c + left > d then frameSpan d fuel (left + c - d) (w + 1) 80 else (w, c + left)

/-- The procedure of R363 over `n` frames from window `w`, cell `c`: the first preamble cell of each frame, in order,
and the window and cell after the last. -/
def framePlan (d : Nat) : Nat → Nat → Nat → List (Nat × Nat) × (Nat × Nat)
  | 0, w, c => ([], (w, c))
  | n + 1, w, c =>
    let w1 := if c + 2048 + 416 > d then w + 1 else w
    let c1 := if c + 2048 + 416 > d then 0 else c
    let e := frameSpan d 500 (144288 + 16) w1 (c1 + 2048 + 160)
    let r := framePlan d n e.1 e.2
    ((w1, c1 + 2048) :: r.1, r.2)

/-- The position of frame `f` of a track at `rate` (R363): window counted from the track's first, and cell. -/
def framePos (rate f : Nat) : Nat × Nat := (((framePlan (dataWindow rate) (f + 1) 0 0).1)[f]?).getD (0, 0)

/-- FRAMES fits its RATE (R119, R363). -/
def framesFit (rate frames : Nat) : Bool := (framePlan (dataWindow rate) frames 0 0).2.1 ≤ 499

/-- The data window at which a track starts (R363). -/
def trackStart (track : Nat) : Nat := (10 * track) % 500

/-! ### Validation (R124) -/

def inRange (v lo hi : Nat) : Bool := lo ≤ v && v ≤ hi

/-- Every byte of `l` is zero. -/
def allZero (l : List Byte) : Bool := l.all (· == 0)

/-- Check 1. -/
def acCheck1 (img : List Byte) : Bool :=
  slice img 0 4 == [0x41, 0x43, 0x52, 0x44] && leAt img 4 2 == 2 && leAt img 6 2 == 0x160

/-- The boot-flash addresses of slot `k`'s image and of its status sector, and the size of the image's place (R111). -/
def accordBase (k : Nat) : Nat := 0x400000 + 0x400000 * k
def accordStatus (k : Nat) : Nat := 0xC00000 + 0x10000 * k
def accordSize : Nat := 0x400000

/-- Check 2: `cap` is the slot's size. -/
def acCheck2 (img : List Byte) (cap : Nat) : Bool :=
  acImgLen img % 16 == 0 && acImgLen img ≤ 0x400000 && acImgLen img ≤ cap

/-- Check 3. -/
def acCheck3 (img : List Byte) : Bool :=
  inRange (acGeneration img) 1 0xFFFFFFFE && inRange (acNsect img) 2 24 &&
  ((acKind img == 0 && acTarget img == 0) ||
   (acKind img == 1 && (acTarget img == 1 || acTarget img == 2 || acTarget img == 4 || acTarget img == 5)))

/-- Check 4: the signature verifies under `key`, the key that KEYID names (R123). -/
def acCheck4 (img : List Byte) (key : Option (List Byte)) : Bool :=
  match key with
  | none => false
  | some k =>
    let last := acNsect img - 1
    let off := acDirOff img last
    rsaVerify k (slice img 0 off) (slice img off 384)

/-- Check 6: R116; the signature entry last. The reserved bytes of an entry are check 8's. -/
def acCheck6 (img : List Byte) : Bool :=
  let n := acNsect img
  (List.range (24 - n)).all (fun k => allZero (slice img (0x40 + 12 * (n + k)) 12)) &&
  (List.range (n - 1)).all (fun i =>
    (acDirType img i < acDirType img (i + 1) ||
      (acDirType img i == acDirType img (i + 1) && acDirDom img i < acDirDom img (i + 1))) &&
    acDirOff img i + acDirLen img i ≤ acDirOff img (i + 1) &&
    allZero (slice img (acDirOff img i + acDirLen img i)
      (acDirOff img (i + 1) - (acDirOff img i + acDirLen img i)))) &&
  (List.range n).all (fun i => acDirOff img i % 16 == 0 && 0x160 ≤ acDirOff img i) &&
  allZero (slice img 0x160 (acDirOff img 0 - 0x160)) &&
  acDirType img (n - 1) == 0x0F && acDirOff img (n - 1) + acDirLen img (n - 1) == acImgLen img

/-- The sections of R117, with or without the pool section. -/
def acSectionList (pool : Bool) : List (Nat × Nat) :=
  [(1, 0), (2, 1), (2, 2), (3, 1), (3, 2), (4, 0), (5, 0), (6, 0), (7, 1), (7, 2), (8, 1), (8, 2), (9, 3), (10, 0),
   (11, 0), (12, 0)] ++ (if pool then [(13, 4)] else []) ++ [(14, 5), (15, 0xFF)]

/-- Row size of a table by its ID (R287, R328, R351). -/
def tableRowSize (id : Nat) : Nat :=
  match id with
  | 0x0001 => 24 | 0x0002 => 8 | 0x0003 => 8 | 0x0004 => 8 | 0x0005 => 32 | 0x0006 => 16
  | 0x0101 => 12 | 0x0102 => 16 | 0x0103 => 16
  | 0x0201 => 32 | 0x0202 => 16 | 0x0203 => 8 | 0x0204 => 8
  | _ => 0

/-- A table set at `base` of a section is consistent: known tables, each inside the section, the required ones held. -/
def tableSetOk (sec : List Byte) (base : Nat) (required optional : List Nat) : Bool :=
  let n := leAt sec base 2
  base + 4 + 8 * n ≤ sec.length &&
  (List.range n).all (fun k =>
    let id := leAt sec (base + 4 + 8 * k) 2
    (required.contains id || optional.contains id) &&
    leAt sec (base + 4 + 8 * k + 4) 4 + tableRowSize id * leAt sec (base + 4 + 8 * k + 2) 2 ≤ sec.length) &&
  required.all (fun id => (acTabEntry sec base id).isSome)

/-- The zones section's length follows from its tables. -/
def zonesLenOk (sec : List Byte) : Bool :=
  sec.length == znTabOff sec (leAt sec 0 1)

/-- The index of the first directory entry that fails `ok`. -/
def firstBad (img : List Byte) (ok : Nat → Nat → List Byte → Bool) : Option Nat :=
  (List.range (acNsect img)).find? (fun i =>
    !ok (acDirType img i) (acDirDom img i) (slice img (acDirOff img i) (acDirLen img i)))

/-- Check 7: length of one section (R117). Table 0x0204 is optional here: a missing one is check 9's (R287). -/
def sectLenOk (t : Nat) (sec : List Byte) : Bool :=
  match t with
  | 1 => sec.length == 32
  | 2 => sec.length == 16
  | 3 => sec.length == 68
  | 4 => sec.length == 48
  | 5 => sec.length == 16
  | 6 => zonesLenOk sec
  | 7 => tableSetOk sec 0 [1, 2, 3, 5] [4, 6]
  | 8 => tableSetOk sec 0 [0x0101, 0x0102, 0x0103] []
  | 9 => tableSetOk sec 8 [0x0201, 0x0202, 0x0203] [0x0204]
  | 10 => sec.length == 32 + 8 * leAt sec 14 2
  | 11 => sec.length == 8
  | 12 => sec.length == 8
  | 13 => sec.length == 32
  | 14 => sec.length == 16
  | 15 => sec.length == 384
  | _ => false

/-- Every row of a table passes `ok`, which takes the row's bytes. -/
def rowsOk (sec : List Byte) (base id : Nat) (ok : List Byte → Bool) : Bool :=
  (List.range (acTabRows sec base id)).all (fun r =>
    ok (slice sec (acTabOff sec base id + r * tableRowSize id) (tableRowSize id)))

/-- The first field (n bytes at off) rises strictly from row to row. -/
def rowsRise (sec : List Byte) (base id off n : Nat) : Bool :=
  let v := fun r => leAt sec (acTabOff sec base id + r * tableRowSize id + off) n
  (List.range (acTabRows sec base id - 1)).all (fun r => v r < v (r + 1))

/-- The number of cells in which two 32-cell patterns differ. -/
def cellsDiffer (a b : Nat) : Nat := (List.range 32).foldl (fun n i => if natBit a i == natBit b i then n else n + 1) 0

/-- The preamble 0b1100 repeated, as its last 32 cells (R359). -/
def preamble32 : Nat := 0xCCCCCCCC

/-- The distance rule of R364. -/
def syncPatOk (p : Nat) : Bool :=
  (List.range 31).all (fun j =>
    let k := j + 1
    cellsDiffer p ((preamble32 % 2 ^ k) * 2 ^ (32 - k) + p / 2 ^ k) ≥ 10) &&
  [0xCCCCCCCC, 0x99999999, 0x33333333, 0x66666666].all (fun q => cellsDiffer p q ≥ 12)

/-- Exempt Sillage codes (R622). -/
def silExempt (code : Nat) : Bool :=
  [0x0203, 0x1503, 0x1601, 0x1602, 0x1603, 0x1604, 0x1605, 0x1901].contains code

/-- CMDMAX of a head in table 0x0102 of an assist section; 0 where it has no row. -/
def cmdMaxOf (sec : List Byte) (head : Nat) : Nat :=
  let o := acTabOff sec 0 0x0102
  match (List.range (acTabRows sec 0 0x0102)).find? (fun r => leAt sec (o + 16 * r) 1 == head) with
  | some r => leAt sec (o + 16 * r + 4) 2
  | none => 0

/-- Check 8 of the header and its directory: BASEGEN of a full image and the entries' reserved bytes are 0. -/
def headRangeOk (img : List Byte) : Bool :=
  (acKind img != 0 || acBaseGen img == 0) && (List.range (acNsect img)).all (fun i => allZero (slice img (0x42 + 12 * i) 2))

/-- Check 8: ranges and reserved fields of one section (R116 to R122 and the tables of the sections it gives). -/
def sectRangeOk (mamr : Bool) (t : Nat) (sec : List Byte) : Bool :=
  let u := fun off n => leAt sec off n
  match t with
  | 1 => inRange (u 0 1) 1 16 && inRange (u 1 1) 1 16 && inRange (u 2 1) 1 2 && inRange (u 3 1) 0 1 &&
      inRange (u 4 1) 0 3 && u 7 1 == 0 && inRange (u 8 8) 0 39062500000 && allZero (slice sec 16 16)
  | 2 => inRange (u 8 1) 1 4 && allZero (slice sec 9 7)
  | 3 => inRange (u 0 1) 1 3 && inRange (u 1 1) 1 16 && inRange (u 2 1) 1 2 && u 3 1 == 0 &&
      (List.range 64).all (fun k => (u (4 + k) 1 < 16 && k / 4 < u 1 1) || u (4 + k) 1 == 0xFF)
  | 4 => (List.range 24).all (fun h => u h 1 ≤ 0x0C)
  | 5 => u 0 1 == 1 && allZero (slice sec 1 3) && allZero (slice sec 8 8) && syncPatOk (u 4 4)
  | 6 => inRange (u 0 1) 1 32 && allZero (slice sec 1 3) &&
      (List.range 32).all (fun k => u (4 + k) 1 < u 0 1 || u (4 + k) 1 == 0xFF) &&
      (List.range (u 0 1)).all (fun k => allZero (slice sec (znTabOff sec k + 2) 2) &&
        inRange (u (znTabOff sec k) 2) 1 64 &&
        (List.range (u (znTabOff sec k) 2)).all (fun z =>
          let o := znTabOff sec k + 4 + 16 * z
          u (o + 10) 2 ≤ 4000 && u (o + 14) 1 ≤ 1 && (u (o + 14) 1 == 1 || u (o + 12) 2 == 0) && u (o + 15) 1 == 0))
  | 7 =>
    allZero (slice sec 2 2) &&
    rowsOk sec 0 1 (fun r => inRange (leAt r 0 2) 3600 7200 && leAt r 4 2 != 0 && leAt r 10 2 != 0 &&
      leAt r 14 2 ≤ 400 && leAt r 20 1 ≤ 40 && allZero (slice r 21 3)) && rowsRise sec 0 1 0 2 &&
    inRange (acTabRows sec 0 1) 2 16 &&
    rowsOk sec 0 2 (fun r => inRange (leAt r 0 1) 4 64 && inRange (leAt r 1 1) (leAt r 0 1) 128 &&
      inRange (leAt r 2 1) (leAt r 1 1) 255 && inRange (leAt r 3 1) 2 250 && inRange (leAt r 4 1) 2 64 &&
      allZero (slice r 5 3)) &&
    rowsOk sec 0 3 (fun r => inRange (leAt r 0 2) 100 400 && inRange (leAt r 2 2) 10 200 && leAt r 4 2 ≤ 200 &&
      inRange (leAt r 6 2) 1 1000) &&
    rowsOk sec 0 4 (fun r => inRange (leAt r 4 1) 1 64 && leAt r 5 1 ≤ 16 && allZero (slice r 6 2)) &&
    rowsRise sec 0 4 0 4 && acTabRows sec 0 5 == 1 &&
    ((acTabEntry sec 0 4).isNone || (inRange (acTabRows sec 0 4) 1 16 && leAt sec (acTabOff sec 0 4) 4 == 0)) &&
    rowsOk sec 0 5 (fun r =>
      let iv := leAt r 0 2
      inRange iv 100 5000 && inRange (leAt r 2 2) 50 iv && inRange (leAt r 4 2) 1 600 && inRange (leAt r 6 2) 100 65535 &&
      leAt r 8 2 != 0 && inRange (leAt r 12 2) 10 600 && inRange (leAt r 14 2) 8 500 && leAt r 16 2 ≤ iv &&
      inRange (leAt r 18 2) iv 10000 && inRange (leAt r 20 1) 2 20 && inRange (leAt r 21 1) 5 50 &&
      inRange (leAt r 22 2) 10 iv && allZero (slice r 24 8)) &&
    ((acTabEntry sec 0 6).isNone || inRange (acTabRows sec 0 6) 2 33) &&
    (acTabRows sec 0 6 == 0 ||
      (let r := slice sec (acTabOff sec 0 6) 16
       leAt r 0 2 ≤ 500 && leAt r 2 2 ≤ leAt sec (acTabOff sec 0 5) 2 && inRange (leAt r 6 2) 1 50 && inRange (leAt r 8 2) 1 500 && allZero (slice r 10 6))) &&
    (List.range (acTabRows sec 0 6 - 1)).all (fun j =>
      let r := slice sec (acTabOff sec 0 6 + 16 * (j + 1)) 16
      let b := ofTwos 8 (leAt r 0 1)
      decide (b ≠ 0) && decide (-31 ≤ b) && decide (b ≤ 31) && leAt r 1 1 == 0 && leAt r 4 2 ≤ 2000 &&
        allZero (slice r 6 10)) &&
    decide (((List.range (acTabRows sec 0 6 - 1)).map (fun j => leAt sec (acTabOff sec 0 6 + 16 * (j + 1)) 1)).Nodup) &&
    (let lim := leAt sec (acTabOff sec 0 5) 2
     rowsOk sec 0 1 (fun r => leAt r 12 2 ≤ lim))
  | 8 =>
    allZero (slice sec 2 2) &&
    rowsOk sec 0 0x0101 (fun r => leAt r 0 1 < 16 && inRange (leAt r 2 2) 3600 7200 && leAt r 4 2 != 0 &&
      inRange (leAt r 6 2) 1 (cmdMaxOf sec (leAt r 0 1)) && inRange (leAt r 8 2) 1 5000 && allZero (slice r 10 2) &&
      (let t := ofTwos 8 (leAt r 1 1); decide (-10 ≤ t) && decide (t ≤ 70))) &&
    rowsOk sec 0 0x0102 (fun r => leAt r 1 1 ≤ (if mamr then 0 else 1) && inRange (leAt r 2 2) 20 500 &&
      inRange (leAt r 4 2) 1 4095 && inRange (leAt r 6 2) 10 10000 && inRange (leAt r 8 2) 100 5000 &&
      inRange (leAt r 10 1) 20 250 &&
      (if leAt r 1 1 == 1 then inRange (leAt r 11 1) 25 75 else leAt r 11 1 == 0) &&
      inRange (leAt r 12 1) 2 50 && leAt r 13 1 ≤ 60 && allZero (slice r 14 2)) &&
    acTabRows sec 0 0x0103 == 1 &&
    rowsOk sec 0 0x0103 (fun r => inRange (leAt r 0 2) 100 5000 && leAt r 4 2 != 0 && inRange (leAt r 6 2) 1 1000 &&
      allZero (slice r 8 8))
  | 9 => allZero (slice sec 10 2) && u 0 1 ≤ 2 && u 1 1 == 0 && inRange (u 2 2) 3600 7200 && inRange (u 4 2) 10 200 && allZero (slice sec 6 2) &&
    acTabRows sec 8 0x0201 == 1 && acTabRows sec 8 0x0202 == 1 &&
    rowsOk sec 8 0x0201 (fun r => inRange (leAt r 0 1) 2 8 && leAt r 1 1 == 0 && inRange (leAt r 2 2) 10 5000 &&
      inRange (leAt r 4 2) 10 60000 && inRange (leAt r 6 2) 10 60000 && inRange (leAt r 8 2) 100 20000 &&
      inRange (leAt r 10 2) 1000 20000 && leAt r 12 2 * 100 ≤ leAt r 10 2 * 95 &&
      leAt r 14 2 * 10 ≤ leAt r 12 2 * 8 && inRange (leAt r 16 2 * 2) 200 (leAt r 24 2) &&
      inRange (leAt r 18 2) 50 500 && inRange (leAt r 20 2) 2000 3600 && inRange (leAt r 22 1) 1 20 &&
      inRange (leAt r 23 1) 1 50 && leAt r 14 2 * 3 ≤ leAt r 24 2 * 2 && allZero (slice r 26 6)) &&
    rowsOk sec 8 0x0202 (fun r => leAt r 0 2 ≤ leAt sec (acTabOff sec 8 0x0201 + 14) 2 && inRange (leAt r 2 2) 100 2000 &&
      inRange (leAt r 4 2) 50 2000 && inRange (leAt r 6 2) 5 60 && inRange (leAt r 8 2) 10 500 &&
      allZero (slice r 10 6)) &&
    inRange (acTabRows sec 8 0x0203) 2 16 && rowsRise sec 8 0x0203 0 2 &&
    rowsOk sec 8 0x0203 (fun r => leAt r 0 2 ≤ 7200 && allZero (slice r 6 2)) &&
    ((acTabEntry sec 8 0x0204).isNone || inRange (acTabRows sec 8 0x0204) 2 16) && rowsRise sec 8 0x0204 0 4 &&
    rowsOk sec 8 0x0204 (fun r => allZero (slice r 6 2) && (u 0 1 != 2 || leAt r 0 4 ≤ 1200))
  | 10 => inRange (u 0 1) 2 15 && inRange (u 1 1) 1 50 && inRange (u 2 1) 1 50 && inRange (u 3 1) 1 50 &&
    inRange (u 4 1) 3 20 && inRange (u 5 1) 1 8 && u 14 2 ≤ 256 && allZero (slice sec 16 16) &&
    (List.range 8).all (fun k => if k < u 5 1 then inRange (u (6 + k) 1) 1 7 else u (6 + k) 1 == 0) &&
    (List.range (u 14 2)).all (fun k => inRange (u (32 + 8 * k + 2) 2) 1 3600 && inRange (u (32 + 8 * k + 4) 1) 1 64 &&
      allZero (slice sec (32 + 8 * k + 5) 3))
  | 11 => inRange (u 0 1) 80 100 && inRange (u 1 1) 90 110 && inRange (u 2 1) 110 120 && inRange (u 3 1) 2 10 &&
    u 0 1 + 5 ≤ u 1 1 && u 1 1 + 5 ≤ u 2 1 && allZero (slice sec 4 4)
  | 12 => inRange (u 0 1) 4 28 && inRange (u 1 1) 2 14 && inRange (u 2 1) 1 2 && allZero (slice sec 4 4)
  | 13 => u 0 8 != 0 && u 8 1 ≤ 1 && u 9 1 ≤ 127 && inRange (u 12 2) 49152 65535 && allZero (slice sec 14 2) &&
    allZero (slice sec 24 8)
  | 14 => u 5 1 ≤ 31 && inRange (u 6 1) 2 32 && u 5 1 < u 6 1 && inRange (u 7 1) 1 8 && u 8 1 ≤ 1 &&
    allZero (slice sec 9 7)
  | _ => true

/-- Cross-section rules of R118 and R697 (helper roles). -/
def rolesOk (img : List Byte) : Bool :=
  let r := acSection img 4 0
  let role := fun h => leAt r h 1
  let par := fun h => leAt r (24 + h) 1
  let cnt := fun p => ((List.range 24).filter p).length
  let bound := fun l => leAt (acSection img 2 1) l 1 != 0xFF || leAt (acSection img 2 2) l 1 != 0xFF
  let pool := natBit (leAt (acSection img 1 0) 4 1) 1
  (List.range 8).all (fun l => cnt (fun h => role h == 1 && par h == l) == (if bound l then 1 else 0)) &&
  cnt (fun h => role h == 1 && par h ≥ 8) == 0 &&
  [2, 3, 4].all (fun c => cnt (fun h => role h == c && par h == 0) == 1 && cnt (fun h => role h == c && par h == 1) == 1 &&
    cnt (fun h => role h == c && par h ≥ 2) == 0) &&
  [5, 7, 8, 0x0A].all (fun c => cnt (fun h => role h == c) == 1) &&
  inRange (cnt (fun h => role h == 6)) 1 2 && inRange (cnt (fun h => role h == 0x0C)) 1 2 &&
  cnt (fun h => role h == 0x0B) ≥ 1 &&
  (if pool then cnt (fun h => role h == 9 && par h == 0) == 1 && cnt (fun h => role h == 9 && par h == 1) == 1 &&
      cnt (fun h => role h == 9) == 2
   else cnt (fun h => role h == 9) == 0) &&
  (List.range 24).all (fun h => [0, 5, 6, 7, 8, 0x0A, 0x0B, 0x0C].contains (role h) → par h == 0)

/-- INSEL values of the lanes that an actuator's binding section binds. -/
def boundInputs (img : List Byte) (a : Act) : List Nat :=
  let b := acSection img 2 (acActDom a)
  (List.range 8).filterMap (fun l => if leAt b l 1 == 0xFF then none else some (leAt b l 1))

/-- The lanes of one actuator (R125): their number, and their input pairs. -/
def lanesOk (img : List Byte) (a : Act) : Bool :=
  let sel := boundInputs img a
  let base := 4 * actNum a
  sel.length == (if leAt (acSection img 3 (acActDom a)) 0 1 == 3 then 4 else 2) &&
  sel.all (fun i => base ≤ i && i < base + leAt (acSection img 2 (acActDom a)) 8 1) && decide (sel.Nodup)

/-- No lane is bound in both binding sections (R125). -/
def lanesApart (img : List Byte) : Bool :=
  (List.range 8).all (fun l => leAt (acSection img 2 1) l 1 == 0xFF || leAt (acSection img 2 2) l 1 == 0xFF)

/-- The heads of group `g` in a read-mode section, primary first. -/
def groupOf (m : List Byte) (g : Nat) : List Nat :=
  (List.range 4).filterMap (fun k => if leAt m (4 + 4 * g + k) 1 == 0xFF then none else some (leAt m (4 + 4 * g + k) 1))

/-- The head groups of one actuator (R125), with the reach of every secondary (R313). -/
def groupsOk (img : List Byte) (a : Act) : Bool :=
  let m := acSection img 3 (acActDom a)
  let v := acSection img 7 (acActDom a)
  let heads := leAt (acSection img 1 0) (actNum a) 1
  let mode := leAt m 0 1
  let all := (List.range 16).flatMap (groupOf m)
  let width := if mode == 1 then 1 else if mode == 2 then 2 else 4
  let ma := fun i off => leAt v (acTabOff v 0 3 + 8 * i + off) 2
  let margin := if leAt m 2 1 == 2 then 80 else 40
  decide (all.Nodup) && all.length == heads && all.all (· < heads) &&
  (List.range 16).all (fun g => (groupOf m g).length ≤ width && (g < leAt m 1 1 → (groupOf m g).length ≥ 1)) &&
  (List.range 16).all (fun g =>
    match groupOf m g with
    | [] => true
    | p :: ss => ss.all (fun i => ma i 2 + 2 * (ma i 4 + ma p 4 + margin) ≤ 2 * ma i 0))

/-- The servo tables of one actuator: a row per head in 0x0002 and 0x0003 (R328), and a microactuator whose command reaches its stroke
(R313). -/
def servoTabsOk (img : List Byte) (a : Act) : Bool :=
  let v := acSection img 7 (acActDom a)
  let heads := leAt (acSection img 1 0) (actNum a) 1
  let ma := fun i off => leAt v (acTabOff v 0 3 + 8 * i + off) 2
  acTabRows v 0 2 == heads && acTabRows v 0 3 == heads && (List.range heads).all (fun i => 32767 * ma i 6 ≥ 1000 * ma i 0)

/-- A complete and consistent grid of table 0x0101, and one row of 0x0102 per head (R351). -/
def assistGridOk (img : List Byte) (a : Act) : Bool :=
  let v := acSection img 8 (acActDom a)
  let heads := leAt (acSection img 1 0) (actNum a) 1
  let n := acTabRows v 0 0x0101
  let per := n / heads
  let f := fun r off len => leAt v (acTabOff v 0 0x0101 + 12 * r + off) len
  let rpms := ((List.range per).map (fun r => f r 2 2)).eraseDups
  let temps := ((List.range per).map (fun r => f r 1 1)).eraseDups
  heads != 0 && n == heads * per && inRange rpms.length 2 4 && inRange temps.length 2 4 &&
  per == rpms.length * temps.length &&
  (List.range n).all (fun r => f r 0 1 == r / per && f r 2 2 == f (r % per) 2 2 && f r 1 1 == f (r % per) 1 1) &&
  acTabRows v 0 0x0102 == heads && (List.range heads).all (fun i => leAt v (acTabOff v 0 0x0102 + 16 * i) 1 == i)

/-- Surface `k` is present: A00 to A15, then B00 to B15. -/
def presentIn (img : List Byte) (k : Nat) : Bool :=
  let t := acSection img 1 0
  if k < 16 then k < leAt t 0 1 else k < 32 && k - 16 < leAt t 1 1

/-- The zone tables obey R119, and SURFTAB names one for the present heads and no other. -/
def zonesOk (img : List Byte) : Bool :=
  let z := acSection img 6 0
  (List.range 32).all (fun k => presentIn img k == (leAt z (4 + k) 1 != 0xFF)) &&
  (List.range (leAt z 0 1)).all (fun k =>
    let o := znTabOff z k
    let f := fun j off n => leAt z (o + 4 + 16 * j + off) n
    (List.range (leAt z o 2)).all (fun j =>
      (if j == 0 then f j 14 1 == 0 && f j 0 4 == 0
       else f j 14 1 == 1 && f j 0 4 == f (j - 1) 0 4 + f (j - 1) 4 4 && f j 12 2 != 0 && f j 4 4 % f j 12 2 == 0) &&
      framesFit (f j 10 2) (f j 8 2)))

/-- The bands of a surface as runs of bands alike: how many, BANDTRK, FRAMES, zone by zone. -/
def bandRuns (img : List Byte) (k : Nat) : List (Nat × Nat × Nat) :=
  let z := acSection img 6 0
  let o := znTabOff z (leAt z (4 + k) 1)
  (List.range (leAt z o 2)).filterMap (fun j =>
    let f := fun off n => leAt z (o + 4 + 16 * j + off) n
    if f 14 1 == 1 then some (f 4 4 / f 12 2, f 12 2, f 8 2) else none)

/-- Two surfaces' runs, band by band in order: wherever both have a band of one index, BANDTRK and FRAMES agree. -/
def runsAgree : Nat → List (Nat × Nat × Nat) → List (Nat × Nat × Nat) → Bool
  | 0, _, _ => true
  | _ + 1, [], _ => true
  | _ + 1, _, [] => true
  | n + 1, (p, x) :: l, (q, y) :: m =>
    if p = 0 then runsAgree n l ((q, y) :: m)
    else if q = 0 then runsAgree n ((p, x) :: l) m
    else x == y && runsAgree n (if q < p then (p - q, x) :: l else l) (if p < q then (q - p, y) :: m else m)

/-- Every band of a band set, which has one index on all surfaces, has the same BANDTRK and FRAMES (R476). -/
def bandsAlike (img : List Byte) : Bool :=
  let ks := (List.range 32).filter (presentIn img)
  ks.all (fun j => ks.all (fun k => runsAgree 300 (bandRuns img j) (bandRuns img k)))

/-- Payload frames in the shingled zones of all present surfaces. -/
def shingledFrames (img : List Byte) : Nat :=
  ((List.range 32).filter (presentIn img)).foldl (fun n k =>
    (bandRuns img k).foldl (fun m x => m + x.1 * x.2.1 * x.2.2) n) 0

/-- The topology's rules of R126: checkpoint heads and capacity. -/
def topologyOk (img : List Byte) : Bool :=
  let t := acSection img 1 0
  let r := acSection img 12 0
  let h := leAt t 0 1 + leAt t 1 1
  let ld := leAt r 0 1
  leAt t 5 1 < leAt t 0 1 && leAt t 6 1 < leAt t 1 1 &&
  leAt t 8 8 * 4096 * (ld + 2) * h * 100 ≤
    shingledFrames img * 16384 * ld * (h - leAt r 2 1) * (100 - leAt (acSection img 10 0) 4 1)

/-- The redundancy's rules of R122 and R476. -/
def redundancyOk (img : List Byte) : Bool :=
  let t := acSection img 1 0
  let r := acSection img 12 0
  let ha := leAt t 0 1
  let hb := leAt t 1 1
  leAt r 0 1 + 2 + leAt r 2 1 ≤ ha + hb && leAt r 0 1 + 2 + 2 * leAt r 2 1 ≤ ha + hb && leAt r 1 1 + 2 ≤ Nat.min ha hb &&
  (if natBit (leAt t 4 1) 1 then inRange (leAt r 3 1) 2 20 else leAt r 3 1 == 0)

/-- The rate-limit entries of the policy name each code once, and no exempt one (R625). -/
def bucketsOk (img : List Byte) : Bool :=
  let p := acSection img 10 0
  let codes := (List.range (leAt p 14 2)).map (fun k => leAt p (32 + 8 * k) 2)
  decide (codes.Nodup) && codes.all (fun c => !silExempt c)

/-- The spindle's rules of R120 and R287: streaming needs its feature and table 0x0204, whose set-points lie between MINRPM and 7,200. -/
def streamOk (img : List Byte) : Bool :=
  let sp := acSection img 9 3
  (leAt sp 0 1 == 0 || (natBit (leAt (acSection img 1 0) 4 1) 0 && (acTabEntry sp 8 0x0204).isSome)) &&
  (List.range (acTabRows sp 8 0x0204)).all (fun k =>
    inRange (leAt sp (acTabOff sp 8 0x0204 + 8 * k + 4) 2) (leAt sp 2 2) 7200)

/-- The rules of check 9, in the order in which this model applies them, each with the section (TYPE, DOMAIN) that ERRSECT names when it
fails: a rule's own section. The spec gives neither (DESIGN CHOICE, assumption 109). -/
def crossRules (img : List Byte) : List (Bool × (Nat × Nat)) :=
  [(rolesOk img, (4, 0)),
   (lanesOk img .A, (2, 1)), (lanesOk img .B, (2, 2)), (lanesApart img, (2, 2)),
   (groupsOk img .A, (3, 1)), (groupsOk img .B, (3, 2)),
   (servoTabsOk img .A, (7, 1)), (servoTabsOk img .B, (7, 2)),
   (assistGridOk img .A, (8, 1)), (assistGridOk img .B, (8, 2)),
   (zonesOk img, (6, 0)), (bandsAlike img, (6, 0)),
   (redundancyOk img, (12, 0)), (topologyOk img, (1, 0)),
   (streamOk img, (9, 3)), (bucketsOk img, (10, 0))]

/-- The section that check 9 names, where a rule fails. -/
def crossBad (img : List Byte) : Option (Nat × Nat) := ((crossRules img).find? (fun r => !r.1)).map (fun r => r.2)

/-- The validation of R124: the error code and ERRSECT of the first check that fails, or none. `cap` is the size of the
place the image is to lie in, `floor` the rollback floor (R646), `key` the key KEYID names. The table names no section for a signature that
does not verify, for the rollback floor, for a directory out of order or for a wrong set of sections: ERRSECT is then the signature's index
for check 4 and 0xFF for check 5, check 6 and the section set of check 7 (DESIGN CHOICE, assumption 109). -/
def acValidate (img : List Byte) (cap floor : Nat) (key : Option (List Byte)) : Option (Nat × Nat) :=
  let pool := natBit (leAt (acSection img 1 0) 4 1) 1
  let mamr := leAt (acSection img 1 0) 2 1 == 2
  let dir := (List.range (acNsect img)).map (fun i => (acDirType img i, acDirDom img i))
  if !acCheck1 img then some (0x01, 0xFF)
  else if !acCheck2 img cap then some (0x02, 0xFF)
  else if !acCheck3 img then some (0x03, 0xFF)
  else if !acCheck4 img key then some (0x05, acNsect img - 1)
  else if acGeneration img < floor then some (0x07, 0xFF)
  else if !acCheck6 img then some (0x04, 0xFF)
  else if dir != acSectionList pool then some (0x08, 0xFF)
  else match firstBad img (fun t _ sec => sectLenOk t sec) with
  | some i => some (0x08, i)
  | none =>
    if !headRangeOk img then some (0x0A, 0xFF)
    else match firstBad img (fun t _ sec => sectRangeOk mamr t sec) with
    | some i => some (0x0A, i)
    | none => (crossBad img).map (fun x => (0x0B, (acIndex img x.1 x.2).getD 0xFF))

/-- The sections of a domain image allowed to differ from the applied one: those of TARGET, and the signature (R133). -/
def domainImageOk (img applied : List Byte) : Option Nat :=
  let n := acNsect img
  let tgt := acTarget img
  let sameDir := n == acNsect applied && (List.range n).all (fun i =>
    acDirType img i == acDirType applied i && acDirDom img i == acDirDom applied i)
  let shifted := fun i => (List.range (i + 1)).any (fun j => acDirDom img j == tgt && acDirLen img j != acDirLen applied j)
  let places := (List.range n).all (fun i =>
    (acDirLen img i == acDirLen applied i || acDirDom img i == tgt) &&
    (acDirOff img i == acDirOff applied i || shifted i))
  let same := (List.range n).all (fun i =>
    acDirDom img i == tgt || acDirType img i == 0x0F ||
    slice img (acDirOff img i) (acDirLen img i) == slice applied (acDirOff applied i) (acDirLen applied i))
  if acBaseGen img != acGeneration applied then some 0x0D
  else if !(sameDir && places && same) then some 0x0C
  else none

/-- The layout digest of R128. -/
def layoutDigest (img : List Byte) : List Byte :=
  sha256 (acSection img 1 0 ++ acSection img 5 0 ++ acSection img 6 0 ++ acSection img 12 0)

end Sys2Proof.Machine
end

