-- ==== Sys2Proof/Machine/Events.lean ====
section
/-! DEFINITION. Reports every unit makes: Sillage records with their rate limits (R621 to R626), gauge samples (R632, R636), the causes of
ALERT_L (R660) and the state of the ALERT_L pin. -/
namespace Sys2Proof.Machine

/-- `n` reserved bytes. -/
def zeros (n : Nat) : List Byte := List.replicate n 0

def State.modSil (s : State) (f : SilSt → SilSt) : State := { s with sil := f s.sil }

/-! ### Sillage records -/

/-- RATE and BURST of a code: its policy entry, else 60 and 8 (R120, R624). -/
def State.silRate (s : State) (code : Nat) : Nat × Nat :=
  match (List.range (s.policy 14 2)).find? (fun k => s.policy (32 + 8 * k) 2 == code) with
  | some k => (s.policy (34 + 8 * k) 2, s.policy (36 + 8 * k) 1)
  | none => (60, 8)

/-- One token in the bucket's unit. -/
def tokenUnit : Nat := 3600 * 25000000

/-- The bucket of a code, filled up to now. -/
def State.bucket (s : State) (code : Nat) : Bucket :=
  let r := s.silRate code
  match SMap.get (fun _ => none) s.sil.buckets code with
  | none => ⟨r.2 * tokenUnit, s.tick, 0, 0, 0⟩
  | some b => { b with level := Nat.min (r.2 * tokenUnit) (b.level + (s.tick - b.lastTick) * r.1), lastTick := s.tick }

def State.putBucket (s : State) (code : Nat) (b : Bucket) : State :=
  s.modSil (fun x => { x with buckets := SMap.set (fun _ => none) x.buckets code (some b) })

/-- A Sillage record of this tick joins the queue; a full queue of 256 discards it and counts it (R623). -/
def State.enqueueRecord (s : State) (code : Nat) (fields : List Byte) : State :=
  if s.sil.queue.length < 256 then
    s.modSil (fun q => { q with queue := q.queue ++ [⟨code, s.tick, fields⟩] })
  else s.bump SL_LOST.QUEUE

/-- The suppression summary of a code (R626): record 0x1602, and the count starts again. -/
def State.summary (s : State) (code : Nat) : State :=
  let b := s.bucket code
  if b.count = 0 then s
  else (s.enqueueRecord 0x1602 (leBytes 2 code ++ zeros 2 ++ leBytes 4 b.count ++ leBytes 4 b.first ++ leBytes 4 b.last)).putBucket code { b with count := 0 }

def State.allSummaries (s : State) : State := s.each s.sil.buckets (fun t x => t.summary x.1)

/-- An event of this tick is recorded: exempt, or with a token of its code, which it takes, after the summary of what was suppressed before
it; otherwise it is suppressed and counted (R623, R624, R626). -/
def State.record (s : State) (code : Nat) (fields : List Byte) : State :=
  if silExempt code then s.enqueueRecord code fields
  else
    let b := s.bucket code
    if tokenUnit ≤ b.level then ((s.putBucket code { b with level := b.level - tokenUnit }).summary code).enqueueRecord code fields
    else
      let h := s.fld SL_HOURS.VALUE
      (s.putBucket code { b with count := b.count + 1, first := if b.count = 0 then h else b.first, last := h }).bump SL_SUPP.COUNT

/-! ### Gauges -/

/-- The bin of R632 for the sample's magnitude shifted right. -/
def gaugeBin (u : Nat) : Nat := if u = 0 then 0 else Nat.min 31 (Nat.log2 u + 1)

/-- One sample `v` into gauge `g` (R632). -/
def State.gaugeTake (s : State) (g : Nat) (v : Int) : State :=
  let s1 := s.bump (GA_COUNT.VALUE g)
  let s2 := s1.when (decide (v < ofTwos 32 (s1.fld (GA_MIN.VALUE g)))) (fun t => t.setFld (GA_MIN.VALUE g) (toTwos 32 v))
  let s3 := s2.when (decide (ofTwos 32 (s2.fld (GA_MAX.VALUE g)) < v)) (fun t => t.setFld (GA_MAX.VALUE g) (toTwos 32 v))
  s3.bump (GA_BIN.COUNT g (gaugeBin (v.natAbs / 2 ^ s3.fld (GA_CTL.SHIFT g))))

/-- GA_ALARM bit of gauge `g`. -/
def gaAlarmBit (g : Nat) : Fld := if g < 32 then ⟨GA_ALARM_LO.REG.addr, g, g⟩ else ⟨GA_ALARM_HI.REG.addr, g - 32, g - 32⟩

/-- The alarm of R636: the first sample after arming whose magnitude exceeds a non-zero ALARM. -/
def State.gaugeAlarm (s : State) (g : Nat) (v : Int) : State :=
  if s.fld (GA_ALARMTH.VALUE g) != 0 && s.fld (GA_ALARMTH.VALUE g) < v.natAbs && !s.sil.gaugeAlarmed.contains g then
    ((s.modSil (fun q => { q with gaugeAlarmed := g :: q.gaugeAlarmed })).setBit (gaAlarmBit g)).record 0x1701
      (leBytes 1 g ++ leBytes 1 (s.fld (GA_CTL.SRC g)) ++ leBytes 1 (s.fld (GA_CTL.INST g)) ++ zeros 1 ++ leInt 4 v)
  else s

/-- A sample `v` of source `src`; `hit` says which INST values name its instance (R633). -/
def State.sample (s : State) (src : Nat) (hit : Nat → Bool) (v : Int) : State :=
  s.each (List.range 64) (fun t g =>
    if t.bit (GA_CTL.ARMED g) && t.fld (GA_CTL.SRC g) == src && hit (t.fld (GA_CTL.INST g)) then
      (t.gaugeTake g v).gaugeAlarm g v
    else t)

/-! ### ALERT_L -/

/-- The condition bits of FB_ALERT: SPARE, VMRIDE and THERMAL (R660). -/
def State.alertSpare (s : State) : Bool := s.bit PX_STAT.SPAREOUT
def State.alertVmride (s : State) : Bool := s.fld PW_STAT.VMSTATE == 3
def State.alertThermal (s : State) : Bool := s.fld TH_STAT.STATE != 0 || s.bit TH_STAT.BLIND

/-- Thermal state Throttle, whose limits of R614 hold; and Shutdown. -/
def State.throttled (s : State) : Bool := s.fld TH_STAT.STATE == 2
def State.thermalDown (s : State) : Bool := s.fld TH_STAT.STATE == 3

/-- The latched bits of FB_ALERT. -/
def State.alertLatched (s : State) : Nat := s.fld ⟨FB_ALERT.REG.addr, 8, 3⟩

/-- ALERT_L is asserted while any bit of FB_ALERT is 1 (R660). -/
def State.alertAsserted (s : State) : Bool :=
  s.alertLatched != 0 || s.alertSpare || s.alertVmride || s.alertThermal

end Sys2Proof.Machine
end

