-- ==== Sys2Proof/Machine/Post.lean ====
section
/-! DEFINITION. Completions: NVMe completion entries with their interrupts (R545, R546, R559), the order of ordered
queues (R555), asynchronous events (R659), and the completion entries of the service rings (R575, R577, R581). -/
namespace Sys2Proof.Machine

/-! ### Host memory the device writes -/

/-- Host memory with `data` at `addr`. -/
def hostPut (m : List (Nat × Byte)) : Nat → List Byte → List (Nat × Byte)
  | _, [] => m
  | a, b :: bs => SMap.set (fun _ => (0 : Byte)) (hostPut m (a + 1) bs) a b

def State.modRings (s : State) (f : RingsSt → RingsSt) : State := { s with rings := f s.rings }

/-- A request of kind `k` sets the Relaxed Ordering attribute (R559, R577). No request sets No Snoop. -/
def ReqKind.relaxed : ReqKind → Bool
  | .fetched => true
  | .data => true
  | .cqe => false
  | .msix => false
  | .sqe => false
  | .fenced => false
  | .ring => false

/-- A memory write of kind `k` of the function of port `p`; the newest request stands last. -/
def State.hostWrite (s : State) (k : ReqKind) (p addr : Nat) (data : List Byte) : State :=
  s.modRings (fun r =>
    let r1 : RingsSt := { r with reqs := r.reqs ++ [⟨k, p, addr, data.length, k.relaxed⟩] }
    if p = 0 then { r1 with hostMem := hostPut r.hostMem addr data } else { r1 with hostMem1 := hostPut r.hostMem1 addr data })

/-! ### NVMe status values (R568 and the NVMe base specification) -/

def NvStatus.ok : NvStatus := ⟨0, 0x00, false, 0⟩
/-- A generic status with Do Not Retry set. -/
def NvStatus.generic (sc : Nat) : NvStatus := ⟨0, sc, true, 0⟩
/-- A generic status with Do Not Retry clear. -/
def NvStatus.retry (sc : Nat) : NvStatus := ⟨0, sc, false, 0⟩
/-- A command-specific status. -/
def NvStatus.specific (sc : Nat) : NvStatus := ⟨1, sc, true, 0⟩
def NvStatus.invalidOpcode : NvStatus := .generic 0x01
def NvStatus.invalidField : NvStatus := .generic 0x02
def NvStatus.invalidNs : NvStatus := .generic 0x0B
def NvStatus.lbaRange : NvStatus := .generic 0x80
def NvStatus.notReady : NvStatus := .retry 0x82
/-- Namespace Not Ready while the map is rebuilt: CRD 1 (R539, R568). -/
def NvStatus.rebuilding : NvStatus := ⟨0, 0x82, false, 1⟩
def NvStatus.writeProtected : NvStatus := .generic 0x20
def NvStatus.transferError : NvStatus := .retry 0x04
def NvStatus.internalError : NvStatus := .retry 0x06
def NvStatus.unrecovered : NvStatus := ⟨2, 0x81, false, 0⟩
def NvStatus.compareFailure : NvStatus := ⟨2, 0x85, true, 0⟩
def NvStatus.activationAbort : NvStatus := ⟨7, 0x01, false, 0⟩
def NvStatus.fenceFailed : NvStatus := ⟨7, 0x02, true, 0⟩
def NvStatus.notPermitted : NvStatus := ⟨7, 0x03, true, 0⟩
def NvStatus.abortRequested : NvStatus := .retry 0x07
def NvStatus.sqDeleted : NvStatus := .retry 0x08
def NvStatus.reservationConflict : NvStatus := .generic 0x83

/-! ### Completion queues -/

/-- The value of a feature of controller `c`; `sel` tells apart queues, vectors or namespaces. -/
def State.feature (s : State) (c fid sel : Nat) : Nat := SMap.get (fun _ => 0) (s.ctrl c).features (fid * 65536 + sel)

def State.setFeature (s : State) (c fid sel v : Nat) : State :=
  s.modCtrl c (fun k => { k with features := SMap.set (fun _ => 0) k.features (fid * 65536 + sel) v })

def Ctrl.sq (k : Ctrl) (q : Nat) : Option SubQ := SMap.get (fun _ => none) k.sqs q
def Ctrl.cq (k : Ctrl) (q : Nat) : Option ComQ := SMap.get (fun _ => none) k.cqs q
def Ctrl.putSq (k : Ctrl) (q : Nat) (v : Option SubQ) : Ctrl := { k with sqs := SMap.set (fun _ => none) k.sqs q v }
def Ctrl.putCq (k : Ctrl) (q : Nat) (v : Option ComQ) : Ctrl := { k with cqs := SMap.set (fun _ => none) k.cqs q v }

def State.sq (s : State) (c q : Nat) : Option SubQ := (s.ctrl c).sq q
def State.cq (s : State) (c q : Nat) : Option ComQ := (s.ctrl c).cq q
def State.putSq (s : State) (c q : Nat) (v : Option SubQ) : State := s.modCtrl c (fun k => k.putSq q v)
def State.putCq (s : State) (c q : Nat) (v : Option ComQ) : State := s.modCtrl c (fun k => k.putCq q v)

/-- The completion queue has no free entry. -/
def ComQ.full (q : ComQ) : Bool := (q.tail + 1) % q.size == q.head

/-- One MSI-X message of a vector of a controller's function. -/
def State.msix (s : State) (c v : Nat) : State := s.modNvme (fun n => { n with msix := n.msix ++ [(c, v)] })

/-- Whether the interrupt of a completion on queue `qid` is coalesced (R546): aggregation threshold and time set,
the vector not exempted, and not the admin queue. -/
def State.coalesces (s : State) (c qid : Nat) (q : ComQ) : Bool :=
  qid != 0 && s.feature c 0x08 0 / 256 % 256 != 0 && s.feature c 0x08 0 % 256 != 0 &&
    s.feature c 0x09 q.vector / 65536 % 2 == 0

/-- Write one completion entry to a queue that has room, and raise its interrupt (R546, R559). -/
def State.writeCqe (s : State) (c qid : Nat) (q : ComQ) (e : Cqe) : State :=
  let wrap := q.tail + 1 == q.size
  let co := s.coalesces c qid q
  let fire := q.irq && (!co || q.coal + 1 > s.feature c 0x08 0 % 256)
  let q' : ComQ := { q with tail := (q.tail + 1) % q.size, phase := if wrap then !q.phase else q.phase, coal := if co && !fire then q.coal + 1 else 0 }
  let s1 := (s.modNvme (fun n => { n with posted := n.posted ++ [{ e with phase := q.phase }] })).putCq c qid (some q')
  s1.when fire (fun t => t.msix c q.vector)

/-- Post a completion: into the queue, or held while the queue is full (R545); nothing where the queue is gone. -/
def State.postCqe (s : State) (e : Cqe) : State :=
  match s.cq e.ctrl e.cq with
  | none => s
  | some q =>
    if q.full || q.held != [] then s.putCq e.ctrl e.cq (some { q with held := q.held ++ [e] })
    else s.writeCqe e.ctrl e.cq q e

/-- Write held completions while there is room (R545). -/
def State.drainHeld : Nat → State → Nat → Nat → State
  | 0, s, _, _ => s
  | n + 1, s, c, qid =>
    match s.cq c qid with
    | none => s
    | some q =>
      match q.held with
      | [] => s
      | e :: rest => if q.full then s else State.drainHeld n (s.writeCqe c qid { q with held := rest } e) c qid

/-! ### Commands in flight -/

def State.cmd? (s : State) (c q cid : Nat) : Option Cmd :=
  s.nvme.inflight.find? (fun m => m.ctrl == c && m.sq == q && m.e.cid == cid)

/-- The command is that of `m`. -/
def Cmd.same (m k : Cmd) : Bool := m.ctrl == k.ctrl && m.sq == k.sq && m.e.cid == k.e.cid

def State.modCmd (s : State) (m : Cmd) (f : Cmd → Cmd) : State :=
  s.modNvme (fun n => { n with inflight := n.inflight.map (fun k => if k.same m then f k else k) })

/-- Commands that read blocks, by opcode: Read, Compare, Verify. -/
def isReadOp (opc : Nat) : Bool := opc == 0x02 || opc == 0x05 || opc == 0x0C
/-- Commands that write blocks: Write, Write Zeroes, Dataset Management, Zone Append. -/
def isWriteOp (opc : Nat) : Bool := opc == 0x01 || opc == 0x08 || opc == 0x09 || opc == 0x7D

/-- The arbitration class and kind of a command as gauge instance bits 2:0 and 4:3 (R633). -/
def State.latencyInst (s : State) (m : Cmd) (inst : Nat) : Bool :=
  let cls := if m.sq == 0 then 0 else match s.sq m.ctrl m.sq with
    | some q => q.prio + 1
    | none => 4
  let kind := if isReadOp m.e.opc then 0 else if isWriteOp m.e.opc then 1 else 2
  inst % 8 == cls && (inst / 8 % 4 == 3 || inst / 8 % 4 == kind)

/-- The bookkeeping of R556: the command's queue and namespace have seen a command that did not succeed. -/
def State.noteFailed (s : State) (m : Cmd) : State :=
  s.modNvme (fun n => { n with fences := n.fences.map (fun k => if k.ctrl == m.ctrl && k.sq == m.sq && k.nsid == m.e.nsid then { k with failed := true } else k) })

/-- The Timestamp feature: what was set, or 0 at power-on reset, and the milliseconds since (R550). -/
def State.hostTime (s : State) : Nat := (s.nvme.timestamp + (s.tick - s.nvme.tsTick) / 25000) % 2 ^ 48

/-- CSTS.SHST reads 0b10 once nothing is outstanding on a controller that has been asked to shut down (R541). -/
def State.shutSettle (s : State) (c : Nat) : State :=
  if (s.ctrl c).shst = 1 ∧ !s.nvme.inflight.any (fun m => m.ctrl == c) then s.modCtrl c (fun k => { k with shst := 2 }) else s

/-- Post the completion entry of `m` and take it out of flight: its locks go with it (R560), a status other than
Success goes to the error log (R551), vendor status 0x03 counts in FB_NOTPERM, and the latency is sampled (R633). -/
def State.finishOne (s : State) (m : Cmd) (st : NvStatus) (dw0 : Nat) : State :=
  let head := match s.sq m.ctrl m.sq with
    | some q => q.head
    | none => 0
  let cqid := match s.sq m.ctrl m.sq with
    | some q => q.cq
    | none => 0
  let s1 := s.modNvme (fun n => { n with inflight := n.inflight.filter (fun k => !k.same m) })
  let s2 := s1.postCqe ⟨m.ctrl, cqid, m.sq, m.e.cid, st, dw0, head, false⟩
  let s3 := s2.when (st.sc != 0 || st.sct != 0) (fun t => (t.modNvme (fun n => { n with errCount := n.errCount + 1, errors := ((⟨m.sq, m.e.cid, st, m.e.cdw10, m.e.nsid, n.errCount + 1, s.hostTime⟩ : ErrEntry) :: n.errors).take 64 })).noteFailed m)
  let s4 := (s3.when (st.sct == 7 && st.sc == 3) (fun t => t.bump FB_NOTPERM.COUNT)).shutSettle m.ctrl
  s4.sample 0x01 (s4.latencyInst m) (((s4.tick - m.fetchTick) / 25 : Nat) : Int)

/-- `f` is a Fence and `m` one of the later commands in its scope (R556). -/
def Cmd.fences (f m : Cmd) : Bool :=
  f.e.opc == 0x81 && f.sq != 0 && m.sq != 0 && f.ctrl == m.ctrl && f.seq < m.seq && (natBit f.e.cdw10 0 || f.sq == m.sq)

/-- `m` is one of the earlier commands of Fence `f`. -/
def Cmd.before (m f : Cmd) : Bool :=
  m.sq != 0 && m.ctrl == f.ctrl && m.seq < f.seq && (natBit f.e.cdw10 0 || f.sq == m.sq) && (f.e.nsid == 0xFFFFFFFF || f.e.nsid == m.e.nsid)

/-- `m` is a write that a Flush `f` waits for (R566). -/
def Cmd.flushed (m f : Cmd) : Bool :=
  m.sq != 0 && isWriteOp m.e.opc && !m.durable && m.seq < f.seq && (f.e.nsid == 0xFFFFFFFF || f.e.nsid == m.e.nsid)

/-- A completion entry may be held for a full completion queue (R545): it has not been written yet. -/
def State.heldFor (s : State) (f : Cmd) : Bool :=
  (s.ctrl f.ctrl).cqs.any (fun q => match q.2 with
    | some x => x.held.any (fun e => e.sq != 0 && (natBit f.e.cdw10 0 || e.sq == f.sq))
    | none => false)

/-- No Fence holds `m` back. -/
def State.unfenced (s : State) (m : Cmd) : Bool := !s.nvme.inflight.any (fun f => f.fences m)

/-- A command of an ordered queue has commands of the queue ahead of it. -/
def State.behind (s : State) (m : Cmd) : Bool :=
  (match s.sq m.ctrl m.sq with
   | some q => q.ordered
   | none => false) && s.nvme.inflight.any (fun k => k.ctrl == m.ctrl && k.sq == m.sq && decide (k.seq < m.seq))

/-- The status of a Fence: whether one of its earlier commands did not succeed. -/
def State.fenceStatus (s : State) (f : Cmd) : NvStatus :=
  if natBit f.e.cdw10 1 && s.nvme.fences.any (fun k => k.ctrl == f.ctrl && (natBit f.e.cdw10 0 || k.sq == f.sq) && (f.e.nsid == 0xFFFFFFFF || f.e.nsid == k.nsid) && k.failed)
  then .fenceFailed else .ok

/-- What a command in flight has come to by the going of others: a started Flush whose writes are durable, a started Fence whose
earlier commands have their entries written, a failed check whose Fence has gone, a completion whose turn has come in an ordered
queue (R555). -/
def State.dueStatus (s : State) (m : Cmd) : Option (NvStatus × Nat) :=
  if s.behind m then none
  else match m.ready with
    | some r => some r
    | none => match m.fault with
      | some st => if s.unfenced m then some (st, 0) else none
      | none =>
        if !m.started || m.sq = 0 then none
        else if m.e.opc = 0x00 then (if s.nvme.inflight.any (fun k => k.flushed m) then none else some (.ok, 0))
        else if m.e.opc = 0x81 then
          (if s.nvme.inflight.any (fun k => k.before m) || s.heldFor m then none else some (s.fenceStatus m, m.earlier))
        else none

/-- Complete what has come due, one after another. -/
def State.pumpDue : Nat → State → State
  | 0, s => s
  | n + 1, s =>
    match s.nvme.inflight.find? (fun m => (s.dueStatus m).isSome) with
    | none => s
    | some m => match s.dueStatus m with
      | some (st, dw0) => State.pumpDue n (s.finishOne m st dw0)
      | none => s

/-! ### Asynchronous events -/

/-- Deliver waiting events to held requests (NVMe base specification: one request completes one event; further events
of its type wait until the log page is read). -/
def State.pumpAer : Nat → State → Nat → State
  | 0, s, _ => s
  | n + 1, s, c =>
    let k := s.ctrl c
    match k.aers, k.events.find? (fun e => !(k.aerMasked.any (fun x => x / 65536 == e.type))) with
    | cid :: rest, some e =>
      let s1 := s.modCtrl c (fun k => { k with aers := rest, events := k.events.erase e, aerMasked := (e.type * 65536 + e.page) :: k.aerMasked })
      let s2 := match s1.cmd? c 0 cid with
        | some m => s1.finishOne m NvStatus.ok (e.type + e.info * 256 + e.page * 65536)
        | none => s1
      State.pumpAer n s2 c
    | _, _ => s

/-- Raise an asynchronous event on controller `c`. -/
def State.aerOn (s : State) (c type info page : Nat) : State :=
  let s1 := s.modCtrl c (fun k => { k with events := if k.events.contains ⟨type, info, page⟩ then k.events else k.events ++ [⟨type, info, page⟩] })
  s1.pumpAer 1 c

/-- Raise an asynchronous event that both controllers report (R659), where the Asynchronous Event Configuration of the
controller has notice bit `bit` set; `none` for an event that cannot be masked. -/
def State.aer (s : State) (bit : Option Nat) (type info page : Nat) : State :=
  s.each [0, 1] (fun t c =>
    if !(t.ctrl c).en then t
    else match bit with
      | none => t.aerOn c type info page
      | some b => if natBit (t.feature c 0x0B 0) b then t.aerOn c type info page else t)

/-- SMART / Health warnings: spare (0), temperature (1), reliability (2) (R659, R552). -/
def State.aerSpare (s : State) : State := s.aer (some 0) 1 0x02 0x02
def State.aerTemperature (s : State) : State := s.aer (some 1) 1 0x01 0x02
def State.aerReliability (s : State) : State := s.aer (some 2) 1 0x00 0x02

/-- Notices: Namespace Attribute Changed, Firmware Activation Starting, Zone Descriptor Changed. -/
def State.aerNamespace (s : State) : State := s.aer (some 8) 2 0x00 0x04
def State.aerActivation (s : State) : State := s.aer (some 9) 2 0x01 0x03
def State.aerZone (s : State) : State := s.aer (some 27) 2 0xEF 0xBF

/-! ### Drains (R563) -/

/-- Kinds of drains (R563): a submission queue being deleted, a namespace being detached or deleted, Bus Master Enable cleared. -/
def drSq : Nat := 0
def drDetach : Nat := 1
def drDelete : Nat := 2
def drBme : Nat := 3

/-- A command in flight belongs to a drain. -/
def Cmd.inDrain (m : Cmd) (d : Drain) : Bool :=
  if d.kind = drSq then m.ctrl == d.ctrl && m.sq == d.id
  else if d.kind = drDetach then m.ctrl == d.ctrl && m.sq != 0 && m.e.nsid == d.id
  else if d.kind = drDelete then m.sq != 0 && m.e.nsid == d.id
  else m.ctrl == d.ctrl && m.transfer

/-- A namespace attached to controller `c` has changed: the changed list and its notice (R551, R659). -/
def State.nsChanged (s : State) (c nsid : Nat) : State :=
  let s1 := s.modCtrl c (fun k => { k with changedNs := if k.changedNs.contains nsid then k.changedNs else k.changedNs ++ [nsid] })
  if (s1.ctrl c).en && natBit (s1.feature c 0x0B 0) 8 then s1.aerOn c 2 0x00 0x04 else s1

/-- The drain's object goes: the queue with its marks, the attachment, or the namespace, whose blocks are deallocated. -/
def State.drainGone (s : State) (d : Drain) : State :=
  let c := d.ctrl
  let id := d.id
  if d.kind = drSq then
    ((s.putSq c id none).modCtrl c (fun k => { k with orderedMarks := k.orderedMarks.filter (· != id) })).modNvme (fun n => { n with
      fences := n.fences.filter (fun f => !(f.ctrl == c && f.sq == id)) })
  else if d.kind = drDetach then (s.modCtrl c (fun k => { k with attached := k.attached.filter (· != id) })).nsChanged c id
  else if d.kind = drDelete then
    match s.namespace? id with
    | none => s
    | some n =>
      let s1 := s.each ([0, 1].filter (fun k => (s.ctrl k).attached.contains id)) (fun t k =>
        (t.modCtrl k (fun x => { x with attached := x.attached.filter (· != id) })).nsChanged k id)
      let s2 := s1.modMap (fun m => { m with issue := m.issue ++ [⟨.dealloc n.base n.size 0, [], none, false, 0⟩], zones := m.zones.filter (fun z => z.1 / 2 ^ 20 != id), rootDirty := true })
      s2.modNvme (fun x => { x with namespaces := SMap.set (fun _ => none) x.namespaces id none })
  else s

/-- Drains whose last command has completed are over: the admin command completes when no other drain of its own is left. -/
def State.drainPump (s : State) : State :=
  s.each (s.nvme.drains.filter (fun d => d.kind != drBme && !s.nvme.inflight.any (fun m => m.inDrain d))) (fun t d =>
    let t1 := (t.modNvme (fun n => { n with drains := n.drains.filter (fun x => x != d) })).drainGone d
    if t1.nvme.drains.any (fun x => x.kind != drBme && x.admin == d.admin && x.cid == d.cid) then t1
    else match t1.cmd? d.admin 0 d.cid with
      | some m => t1.finishOne m .ok 0
      | none => t1)

/-- A command completes, and with it what waited for it. -/
def State.finish (s : State) (m : Cmd) (st : NvStatus) (dw0 : Nat) : State :=
  let s1 := s.finishOne m st dw0
  (State.pumpDue s1.nvme.inflight.length s1).drainPump

/-- Complete a command: at once, or, in an ordered queue, once every earlier command of the queue has completed
(R555). -/
def State.complete (s : State) (m : Cmd) (st : NvStatus) (dw0 : Nat) : State :=
  if s.behind m then s.modCmd m (fun k => { k with ready := some (st, dw0) }) else s.finish m st dw0

/-! ### Reports of faults (R659) -/

/-- A Unit-class fault. -/
def State.unitFault (s : State) : State := s.setBit FB_ALERT.UNIT
/-- A Data-class fault: blocks that cannot be returned. -/
def State.dataFault (s : State) : State := (s.setBit FB_ALERT.DATA).aerReliability

/-! ### Service rings -/

/-- Ring states of SR_STATr: 0 Disabled, 1 Enabled, 2 Draining. -/
def rgDisabled : Nat := 0
def rgEnabled : Nat := 1
def rgDraining : Nat := 2

/-- Descriptors in flight over all rings (R573). -/
def State.ringsInFlight (s : State) : Nat := (List.range 8).foldl (fun n r => n + (s.ring r).descs.length) 0

/-- SR_STATr.HELD, INFLIGHT and CHAINS follow the ring. -/
def State.ringSync (s : State) (r : Nat) : State :=
  let g := s.ring r
  ((s.setFld (SR_STAT.HELD r) g.held.length).setFld (SR_STAT.INFLIGHT r) g.descs.length).setFld (SR_STAT.CHAINS r)
    (g.descs.filter (fun d => d.waiting)).length

/-- The index-page slot of ring `r` (R571). -/
def RingSt.slotAddr (g : RingSt) (r : Nat) : Nat := g.idx + 64 * r

/-- The completion ring is full (R581). -/
def RingSt.cqFull (g : RingSt) : Bool := (g.cqTail + 1) % 2 ^ g.cqlog == g.cqHead

/-- The 16 bytes of a completion entry (R575). -/
def ringEntry (r sqHead : Nat) (phase : Bool) (c : RingCpl) : List Byte :=
  leBytes 2 c.tag ++ leBytes 1 c.status ++
    leBytes 1 ((if phase then 1 else 0) + (if c.progress then 2 else 0)) ++ leBytes 2 sqHead ++ leBytes 1 r ++ zeros 1 ++
    leBytes 8 c.result

/-- Write one completion entry, CQTAIL and the interrupt, in that order (R577). -/
def State.ringWrite (s : State) (r : Nat) (c : RingCpl) : State :=
  let g := s.ring r
  let nt := (g.cqTail + 1) % 2 ^ g.cqlog
  let s1 := s.hostWrite .ring g.port (g.cqbase + 16 * g.cqTail) (ringEntry r g.sqHead g.phase c)
  let s2 := s1.modRing r (fun h => { h with cqTail := nt, phase := if nt = 0 then !h.phase else h.phase })
  let s3 := s2.hostWrite .ring g.port (g.slotAddr r + 4) (leBytes 2 nt)
  s3.when (s3.bit (SR_CFG.IRQEN r)) (fun t => t.msix g.port (1025 + r))

/-- A completion of ring `r`: written, or held while the ring is full (R581). A ring that is Disabled cannot write it:
it counts in SR_ERR.ORPHAN (R584). -/
def State.ringPost (s : State) (r : Nat) (c : RingCpl) : State :=
  if s.fld (SR_STAT.STATE r) == rgDisabled then s.bump SR_ERR.ORPHAN
  else if (s.ring r).cqFull || (s.ring r).held != [] then
    s.modRing r (fun g => { g with held := g.held ++ [c] })
  else s.ringWrite r c

/-- Write held completions while the completion ring has room. -/
def State.ringDrainHeld : Nat → State → Nat → State
  | 0, s, _ => s
  | n + 1, s, r =>
    match (s.ring r).held with
    | [] => s
    | c :: rest =>
      if (s.ring r).cqFull then s
      else State.ringDrainHeld n ((s.modRing r (fun g => { g with held := rest })).ringWrite r c) r

/-- A Draining ring with no descriptor in flight and no completion held becomes Disabled (R583). -/
def State.ringSettle (s : State) (r : Nat) : State :=
  let s1 := s.ringSync r
  if s1.fld (SR_STAT.STATE r) == rgDraining && (s1.ring r).descs == [] && (s1.ring r).held == [] then
    s1.setFld (SR_STAT.STATE r) rgDisabled
  else s1

def State.desc? (s : State) (r tag : Nat) : Option RingDesc := (s.ring r).descs.find? (fun d => d.tag == tag)

/-- Complete the descriptor TAG `tag` of ring `r`: its completion entry, its latency sample (R633) and the ring's
registers. A descriptor no longer in flight has none to complete; that of one whose ring has been disabled since cannot be written
(R584). -/
def State.ringComplete (s : State) (r tag status result : Nat) : State :=
  match s.desc? r tag with
  | none => s
  | some d =>
    let s1 := s.modRing r (fun g => { g with descs := g.descs.erase d })
    let s2 := if d.orphan then s1.bump SR_ERR.ORPHAN else s1.ringPost r ⟨tag, status, false, result, natBit d.flags 0⟩
    let s3 := s2.sample 0x02 (fun i => i == r) (((s2.tick - d.fetchTick) / 25 : Nat) : Int)
    s3.ringSettle r

/-- Complete a descriptor whose RESULT the spec defines only in byte 0 (`b`), or not at all: the rest is a free value. -/
def State.ringEnd (s : State) (r tag status : Nat) (b : Option Nat) : State :=
  let v := (Config.freeValue s.freeIdx).toNat
  s.drawFree.ringComplete r tag status (match b with
    | some x => v / 256 * 256 + x % 256
    | none => v)

/-- Status codes of R576. -/
def rsSuccess : Nat := 0x00
def rsInvalidOpcode : Nat := 0x01
def rsInvalidField : Nat := 0x02
def rsAuthFailed : Nat := 0x03
def rsStaleNonce : Nat := 0x04
def rsRefused : Nat := 0x05
def rsAlreadyDown : Nat := 0x06
def rsBusy : Nat := 0x07
def rsHostError : Nat := 0x08
def rsAborted : Nat := 0x09
def rsUnitError : Nat := 0x0A
def rsAccordError : Nat := 0x0B

/-- Byte 0 of RESULT is defined for these statuses (R575, R695). -/
def resultByte (status b : Nat) : Option Nat := if status = rsUnitError ∨ status = rsAccordError then some b else none

end Sys2Proof.Machine
end

