-- ==== Sys2Proof/Machine/Memory.lean ====
section
/-! DEFINITION. The memories: addresses (R183, R187, R190), decoded reads, read-modify-write stores (R197 to R201), and
the counters, capture and records of R205. -/
namespace Sys2Proof.Machine

/-- The memories that hold coded words. -/
inductive MemSp where
  | hbm | mram | ssram | pram
  | loc (h : Nat)
  deriving DecidableEq, Repr

/-- The requesters of HM_EINFO.REQ. -/
def reqFetch : Nat := 1
def reqSteward : Nat := 2
def reqFabric : Nat := 3
def reqFill : Nat := 4
def reqMover : Nat := 5
def reqRmw : Nat := 6

/-- HBM ends at 115,199,999,999 (R181). -/
def hbmBytes : Nat := 115200000000

/-- The bytes of a space. -/
def MemSp.size : MemSp → Nat
  | .hbm => hbmBytes
  | .mram => 0x40000000
  | .ssram => 0x100000
  | .pram => 0x10000
  | .loc _ => 0x10000

/-- The HBM stack of a device address (R183). -/
def hbmStack (a : Nat) : Nat :=
  let g := a / 256
  Nat.xor (Nat.xor (g % 4) (g / 256 % 4)) (g / 65536 % 4)

/-- The pseudo-channel within the stack (R183). -/
def hbmChannel (a : Nat) : Nat :=
  let l := a / 1024
  Nat.xor (l % 32) (l / 256 % 32)

/-! ### The page map in HBM region 1 (R187, R442, R443) -/

/-- The 40 bits of an entry (R443). -/
def MapEntry.code : MapEntry → Nat
  | .unmapped => 0
  | .media p k => 2 ^ 38 + 4 * p + k
  | .journal p => 2 ^ 39 + 4 * p
  | .bad => 2 ^ 39 + 2 ^ 38

def State.entry (s : State) (i : Nat) : MapEntry := SMap.get (fun _ => .unmapped) s.map.map i

/-- Byte `o` of the map: entry i is the 5-byte value at byte 5 x i (R442). -/
def State.mapByte (s : State) (o : Nat) : Nat := (s.entry (o / 5)).code / 256 ^ (o % 5) % 256

/-- HBM word `i` where it lies in map region 1 and the map has been built there (R469). -/
def State.mapWord (s : State) (i : Nat) : Option Code80 :=
  let base := 0x20000 * s.fld (HM_RGNBASE.BASE 1)
  if s.map.filled && decide (base ≤ i) && decide (i < base + 0x20000 * s.fld (HM_RGNSIZE.SIZE 1)) then
    some (encodeWord ((List.range 8).foldl (fun n k => n + s.mapByte (8 * (i - base) + k) * 256 ^ k) 0))
  else none

/-- Word `i` of HBM: what was stored there, else, in region 1, what the map holds. -/
def State.hbmAt (s : State) (i : Nat) : Code80 :=
  let c := SMap.get (fun _ => unwrittenWord) s.mem.hbm i
  if c = unwrittenWord then (s.mapWord i).getD unwrittenWord else c

def State.wordAt (s : State) (m : MemSp) (i : Nat) : Code80 :=
  match m with
  | .hbm => s.hbmAt i
  | .mram => SMap.get (fun _ => unwrittenWord) s.mem.mram i
  | .ssram => SMap.get (fun _ => unwrittenWord) s.mem.ssram i
  | .pram => SMap.get (fun _ => unwrittenWord) s.steward.patchRam i
  | .loc h => SMap.get (fun _ => unwrittenWord) (s.helper h).localStore i

/-- Store the 80 bits of word `i` as they are. -/
def State.putWord (s : State) (m : MemSp) (i : Nat) (c : Code80) : State :=
  match m with
  | .hbm => s.modMem (fun x => { x with hbm := SMap.set (fun _ => unwrittenWord) x.hbm i c })
  | .mram => s.modMem (fun x => { x with mram := SMap.set (fun _ => unwrittenWord) x.mram i c })
  | .ssram => s.modMem (fun x => { x with ssram := SMap.set (fun _ => unwrittenWord) x.ssram i c })
  | .pram => s.modSteward (fun x => { x with patchRam := SMap.set (fun _ => unwrittenWord) x.patchRam i c })
  | .loc h => s.modHelper h (fun x => { x with localStore := SMap.set (fun _ => unwrittenWord) x.localStore i c })

/-- The memories hold their canonical form: addresses rising, no word listed that reads as unwritten memory does. -/
def MemSt.wf (m : MemSt) : Bool :=
  SMap.wf (fun _ => unwrittenWord) m.hbm && SMap.wf (fun _ => unwrittenWord) m.mram && SMap.wf (fun _ => unwrittenWord) m.ssram &&
  SMap.wf (fun _ => unwrittenWord) m.pad

/-! ### Error reports (R205, R206) -/

/-- The counters of the memory that holds the address; none for a local store (R205). -/
def eccCounters (m : MemSp) (addr : Nat) : Option (Fld × Fld × Fld) :=
  match m with
  | .hbm => some (HM_ECNT.CE (hbmStack addr), HM_ECNT.UE (hbmStack addr), HM_ECNT.UNW (hbmStack addr))
  | .mram => some (MJ_ECNT.CE, MJ_ECNT.UE, MJ_ECNT.UNW)
  | .ssram => some (HM_SECNT.CE, HM_SECNT.UE, HM_SECNT.UNW)
  | .pram => some (HM_SECNT.CE, HM_SECNT.UE, HM_SECNT.UNW)
  | .loc _ => none

/-- HM_EINFO.SRC: the stack, 4 for steward SRAM, 5 for patch RAM. -/
def eccSrc (m : MemSp) (addr : Nat) : Nat :=
  match m with
  | .hbm => hbmStack addr
  | .pram => 5
  | _ => 4

/-- The capture register holds an earlier result; one of this very tick gives way to a lower stack or die (R206). -/
def State.captureHeld (s : State) (valid : Fld) (old new : Nat) : Bool := s.bit valid && !(s.fldSet valid != 0 && decide (new < old))

/-- Capture the first Uncorrectable result since the capture register was cleared (R205, R206). -/
def State.eccCapture (s : State) (m : MemSp) (addr req synd : Nat) : State :=
  match m with
  | .mram =>
    if s.captureHeld MJ_EINFO.VALID (s.fld MJ_EADDR.ADDR / 0x10000000) (addr / 0x10000000) then s
    else (((s.setFld MJ_EADDR.ADDR addr).setBit MJ_EINFO.VALID).setFld MJ_EINFO.REQ req).setFld MJ_EINFO.SYND synd
  | _ =>
    if s.captureHeld HM_EINFO.VALID (s.fld HM_EINFO.SRC) (eccSrc m addr) then s
    else (((((s.setFld HM_EADDR_LO.ADDR addr).setFld HM_EADDR_HI.ADDR (addr / 2 ^ 32)).setBit HM_EINFO.VALID).setFld
      HM_EINFO.SRC (eccSrc m addr)).setFld HM_EINFO.REQ req).setFld HM_EINFO.SYND synd

/-- The Sillage record of a Corrected (`c`) or Uncorrectable result. -/
def State.eccRecord (s : State) (m : MemSp) (addr req synd : Nat) (c : Bool) : State :=
  match m with
  | .mram => s.record (if c then 0x0702 else 0x0701) (zeros 1 ++ leBytes 1 req ++ leBytes 2 synd ++ leBytes 8 addr)
  | _ => s.record (if c then 0x0602 else 0x0601) (leBytes 1 (eccSrc m addr) ++ leBytes 1 req ++ leBytes 2 synd ++ leBytes 8 addr)

/-- Count, capture and record the result of one read of the word at `addr` (R203, R205). -/
def State.eccNote (s : State) (m : MemSp) (addr req : Nat) (d : Decoded) : State :=
  match eccCounters m addr with
  | none => s
  | some (ce, ue, unw) =>
    match d.res with
    | .clean => s
    | .corrected => (s.bump ce).eccRecord m addr req d.synd true
    | .unwritten => s.bump unw
    | .uncorrectable => ((s.bump ue).eccCapture m addr req d.synd).eccRecord m addr req d.synd false

/-! ### Reads and stores -/

/-- The indexes of the words that `n` bytes at `addr` touch. -/
def wordSpan (addr n : Nat) : List Nat :=
  if n = 0 then [] else List.range' (addr / 8) ((addr + n - 1) / 8 - addr / 8 + 1)

/-- What a read of bytes gives: the bytes, a bad word's being zero (R197), and whether a word was bad. -/
structure ReadBytes where
  data : List Byte
  bad : Bool
  deriving DecidableEq, Repr

/-- The decoded words that `n` bytes at `addr` touch. -/
def State.peek (s : State) (m : MemSp) (addr n : Nat) : ReadBytes :=
  let ws := (wordSpan addr n).map (fun i => decodeWord (s.wordAt m i))
  ⟨slice (ws.flatMap (fun d => leBytes 8 d.data)) (addr % 8) n, ws.any (fun d => d.res.bad)⟩

/-- The reports of a read of `n` bytes at `addr`. A read writes nothing back (R198). -/
def State.noteRead (s : State) (m : MemSp) (addr n req : Nat) : State :=
  s.each (wordSpan addr n) (fun t i => t.eccNote m (8 * i) req (decodeWord (t.wordAt m i)))

/-- The reports of a read of the `n` words from word `i` on of MRAM, of which all but the listed ones are Unwritten. -/
def State.noteMram (s : State) (i n req : Nat) : State :=
  let listed := (s.mem.mram.filter (fun x => decide (i ≤ x.1) && decide (x.1 < i + n))).map (fun x => x.1)
  (s.each listed (fun t k => t.eccNote .mram (8 * k) req (decodeWord (t.wordAt .mram k)))).addSat MJ_ECNT.UNW (n - listed.length)

/-- The bytes of word `i` that a store of `data` at `addr` covers: first byte in the word, and bytes. -/
def wordPart (addr : Nat) (data : List Byte) (i : Nat) : Nat × List Byte :=
  let lo := Nat.max addr (8 * i)
  let hi := Nat.min (addr + data.length) (8 * i + 8)
  (lo - 8 * i, (data.drop (lo - addr)).take (hi - lo))

/-- Store the part of `data` that lies in word `i`: a whole word is written; a part is a read-modify-write that leaves
an Unwritten or Uncorrectable word unchanged (R199, R200). -/
def State.storeWord (s : State) (m : MemSp) (addr : Nat) (data : List Byte) (i : Nat) : State :=
  let p := wordPart addr data i
  if p.2.length = 8 then s.putWord m i (encodeWord (leNat p.2))
  else
    let d := decodeWord (s.wordAt m i)
    let s1 := s.eccNote m (8 * i) reqRmw d
    if d.res.bad then s1
    else s1.putWord m i (encodeWord (leNat (putBytes (leBytes 8 d.data) p.1 p.2)))

/-- Store bytes at `addr`. -/
def State.store (s : State) (m : MemSp) (addr : Nat) (data : List Byte) : State :=
  s.each (wordSpan addr data.length) (fun t i => t.storeWord m addr data i)

/-- A store finds a word that its read-modify-write must leave unchanged. -/
def State.storeBad (s : State) (m : MemSp) (addr : Nat) (data : List Byte) : Bool :=
  (wordSpan addr data.length).any (fun i =>
    (wordPart addr data i).2.length != 8 && (decodeWord (s.wordAt m i)).res.bad)

/-! ### HBM with failing transfers (R184) -/

/-- A transfer that fails for good is reported as Uncorrectable, its syndrome being a free value. -/
def State.phyBad (s : State) (i req : Nat) : State :=
  s.drawFree.eccNote .hbm (8 * i) req ⟨.uncorrectable, 0, (Config.freeValue s.freeIdx).toNat % 65536⟩

def State.hbmWord (s : State) (f : MemFaults) (i : Nat) : Decoded :=
  if f.words.contains i then ⟨.uncorrectable, 0, 0⟩ else decodeWord (s.wordAt .hbm i)

/-- What a read of HBM gives where some transfers fail. -/
def State.hbmPeek (s : State) (f : MemFaults) (addr n : Nat) : ReadBytes :=
  let ws := (wordSpan addr n).map (s.hbmWord f)
  ⟨slice (ws.flatMap (fun d => leBytes 8 d.data)) (addr % 8) n, ws.any (fun d => d.res.bad)⟩

def State.hbmWordNote (s : State) (f : MemFaults) (i req : Nat) : State :=
  if f.words.contains i then s.phyBad i req else s.eccNote .hbm (8 * i) req (decodeWord (s.wordAt .hbm i))

/-- The reports of that read. -/
def State.hbmNote (s : State) (f : MemFaults) (addr n req : Nat) : State :=
  s.each (wordSpan addr n) (fun t i => t.hbmWordNote f i req)

/-- A store to HBM: a word whose write fails keeps its previous state. -/
def State.hbmStore (s : State) (f : MemFaults) (addr : Nat) (data : List Byte) : State :=
  s.each (wordSpan addr data.length) (fun t i => if f.words.contains i then t.phyBad i reqRmw else t.storeWord .hbm addr data i)

/-- Such a store is reported to its writer (R184, R199). -/
def State.hbmStoreBad (s : State) (f : MemFaults) (addr : Nat) (data : List Byte) : Bool :=
  (wordSpan addr data.length).any (fun i => f.words.contains i || ((wordPart addr data i).2.length != 8 && (decodeWord (s.wordAt .hbm i)).res.bad))

/-- The reports of a store that is found bad and not made. -/
def State.storeNote (s : State) (f : MemFaults) (m : MemSp) (addr : Nat) (data : List Byte) : State :=
  s.each (wordSpan addr data.length) (fun t i =>
    if m == .hbm && f.words.contains i then t.phyBad i reqRmw
    else if (wordPart addr data i).2.length != 8 then t.eccNote m (8 * i) reqRmw (decodeWord (t.wordAt m i)) else t)

/-- `n` bytes at `addr` lie inside the space. -/
def MemSp.holds (m : MemSp) (addr n : Nat) : Bool := addr + n ≤ m.size

/-- MRAM line writes are admitted (R48, MJ_STAT.ADMIT). -/
def State.mramAdmits (s : State) : Bool := s.bit MJ_STAT.ADMIT

/-- Journal and stripe-journal line writes are admitted: not after Base-note entry (R665). -/
def State.journalAdmits (s : State) : Bool := s.mramAdmits && !s.bit FB_STAT.BASENOTE

end Sys2Proof.Machine
end

