-- ==== Sys2Proof/Machine/Cache.lean ====
section
/-! DEFINITION. The map cache (chapter "Map cache"): geometry, hits, fills, streaming stores, prefetch streams, the
eviction buffer, line operations and what movers see. -/
namespace Sys2Proof.Machine

/-! ### Geometry (R211 to R213) -/

def lineOf (a : Nat) : Nat := a / 128
def setOf (la : Nat) : Nat := Nat.xor (la % 4096) (la / 4096 % 4096)
/-- The place of way `w` of the set of line `la`. -/
def wayKey (la w : Nat) : Nat := 16 * setOf la + w

/-- The last way of the last set, the Blotter pad line (R208, R209). -/
def padKey : Nat := 16 * 4095 + 15

/-- The HBM region (R187) that holds a device address. -/
def State.regionOf (s : State) (a : Nat) : Option Nat :=
  [0, 1, 2, 3].find? (fun k =>
    decide (s.fld (HM_RGNBASE.BASE k) * 0x100000 ≤ a) &&
    decide (a < (s.fld (HM_RGNBASE.BASE k) + s.fld (HM_RGNSIZE.SIZE k)) * 0x100000))

/-- Cacheable: regions 0 and 1 but for the first 16 KiB (R212). -/
def State.cacheable (s : State) (a : Nat) : Bool :=
  decide (0x4000 ≤ a) && (s.regionOf a == some 0 || s.regionOf a == some 1)

def State.lineAt (s : State) (key : Nat) : Option CacheLine := SMap.get (fun _ => none) s.cache.lines key

def State.setLine (s : State) (key : Nat) (l : Option CacheLine) : State :=
  s.modCache (fun c => { c with lines := SMap.set (fun _ => none) c.lines key l })

/-- The way that holds line `la`. -/
def State.cacheFind (s : State) (la : Nat) : Option Nat :=
  ((List.range 16).map (wayKey la)).find? (fun k =>
    match s.lineAt k with
    | some l => l.la == la
    | none => false)

/-- Tree pseudo-LRU: bit n of the set's word is node n; the path to a used way is turned away from it. -/
def plruTouch (bits w : Nat) : Nat :=
  [(1, 3), (2 + w / 8 % 2, 2), (4 + w / 4 % 4, 1), (8 + w / 2 % 8, 0)].foldl (fun b p =>
    let cleared := if b / 2 ^ p.1 % 2 = 1 then b - 2 ^ p.1 else b
    if w / 2 ^ p.2 % 2 = 0 then cleared + 2 ^ p.1 else cleared) bits

def plruVictim (bits : Nat) : Nat :=
  let b1 := bits / 2 % 2
  let n2 := 2 + b1
  let b2 := bits / 2 ^ n2 % 2
  let n3 := 2 * n2 + b2
  let b3 := bits / 2 ^ n3 % 2
  let n4 := 2 * n3 + b3
  8 * b1 + 4 * b2 + 2 * b3 + bits / 2 ^ n4 % 2

def State.plruUse (s : State) (key : Nat) : State :=
  s.modCache (fun c => { c with plru := SMap.modify (fun _ => 0) c.plru (key / 16) (fun b => plruTouch b (key % 16)) })

/-- The way that line `la` will take: an empty way, else the pseudo-LRU way; the pad line is excluded while it is
reserved (R213), its neighbour then standing in (DESIGN CHOICE, assumption 13). -/
def State.victimKey (s : State) (la : Nat) : Nat :=
  let rsv := s.bit CA_STAT.BLTRSV
  let ways := ((List.range 16).map (wayKey la)).filter (fun k => !(rsv && k == padKey))
  match ways.find? (fun k => (s.lineAt k).isNone) with
  | some k => k
  | none =>
    let v := wayKey la (plruVictim (SMap.get (fun _ => 0) s.cache.plru (setOf la)))
    if rsv && v == padKey then padKey - 1 else v

/-- CA_STAT.STREAMS, SIDE and EVB follow the state. -/
def State.cacheSync (s : State) : State :=
  ((s.setFld CA_STAT.STREAMS (s.cache.streams.filter (fun e => e.confirmed)).length).setFld CA_STAT.SIDE
    s.cache.side.length).setFld CA_STAT.EVB s.cache.evb.length

/-! ### Words of a line -/

/-- Report the result of one word read from the data array (R232). -/
def State.caNote (s : State) (la k who : Nat) (d : Decoded) : State :=
  match d.res with
  | .clean => s
  | .corrected => s.bump CA_ECNT.CE
  | .unwritten => s.bump CA_ECNT.UNW
  | .uncorrectable =>
    let a := la * 128 + 8 * k
    let s1 := s.bump CA_ECNT.UE
    if s1.bit CA_EINFO.VALID then s1
    else ((((s1.setFld CA_EADDR_LO.ADDR a).setFld CA_EADDR_HI.ADDR (a / 2 ^ 32)).setBit CA_EINFO.VALID).setFld CA_EINFO.REQ who).setFld CA_EINFO.SYND d.synd

def CacheLine.word (l : CacheLine) (k : Nat) : Code80 := (l.words[k]?).getD unwrittenWord

/-- What `n` bytes at byte `off` of the line read as. -/
def CacheLine.read (l : CacheLine) (off n : Nat) : ReadBytes :=
  let ws := (wordSpan off n).map (fun k => decodeWord (l.word k))
  ⟨slice (ws.flatMap (fun d => leBytes 8 d.data)) (off % 8) n, ws.any (fun d => d.res.bad)⟩

/-- The line with `data` stored at byte `off`: whole words anew, parts by read-modify-write (R199). -/
def CacheLine.write (l : CacheLine) (off : Nat) (data : List Byte) : CacheLine :=
  { l with
    words := (List.range 16).map (fun k =>
      let p := wordPart off data k
      if p.2.length = 0 || !decide (8 * k < off + data.length) || decide (8 * k + 8 ≤ off) then l.word k
      else if p.2.length = 8 then encodeWord (leNat p.2)
      else
        let d := decodeWord (l.word k)
        if d.res.bad then l.word k else encodeWord (leNat (putBytes (leBytes 8 d.data) p.1 p.2))) }

/-- An Uncorrectable stored word for one that HBM failed to give (R184): which one is a free value (assumption 100). -/
def lostWord (c : Code80) : Code80 := if (decodeWord c).res = .uncorrectable then c else encodeWord 0 ^^^ 7#80

/-- The line as it comes from HBM, its words carried under R200. -/
def State.hbmLine (s : State) (f : MemFaults) (la : Nat) : List Code80 :=
  (List.range 16).map (fun k =>
    if f.words.contains (16 * la + k) then lostWord (Config.freeCode (16 * s.freeIdx + k)) else carryWord (s.wordAt .hbm (16 * la + k)))

/-- Write a line's words to HBM; a word whose write fails keeps its previous state (R184). -/
def State.writeBack (s : State) (f : MemFaults) (la : Nat) (words : List Code80) : State :=
  s.each (List.range 16) (fun t k =>
    if f.words.contains (16 * la + k) then t.phyBad (16 * la + k) reqRmw
    else t.putWord .hbm (16 * la + k) (carryWord ((words[k]?).getD unwrittenWord)))

/-! ### Requesters -/

/-- The requester's microword or instruction goes on. -/
def State.unblock (s : State) (who : Nat) : State :=
  if who < 24 then s.modHelper who (fun x => { x with blocked := false })
  else if who = 31 then s.modSteward (fun x => { x with blocked := false })
  else s

def State.block (s : State) (who : Nat) : State :=
  if who < 24 then s.modHelper who (fun x => { x with blocked := true })
  else if who = 31 then s.modSteward (fun x => { x with blocked := true })
  else s

def State.isBlocked (s : State) (who : Nat) : Bool :=
  if who < 24 then (s.helper who).blocked else who == 31 && s.steward.blocked

/-- The value of successive registers of a requester as bytes. -/
def State.regBytes (s : State) (h reg total : Nat) : List Byte :=
  ((List.range ((total + 7) / 8)).flatMap (fun k =>
    leBytes 8 (SMap.get (fun _ => (0 : Word64)) (s.helper h).regs (reg + k)).toNat)).take total

/-- Write bytes to register `reg` and the registers after it, 8 bytes each, the last zero-extended. -/
def Helper.setRegs (x : Helper) (reg : Nat) (data : List Byte) : Helper :=
  { x with
    regs := (List.range ((data.length + 7) / 8)).foldl (fun m k =>
      SMap.set (fun _ => (0 : Word64)) m ((reg + k) % 32) (BitVec.ofNat 64 (leAt data (8 * k) 8))) x.regs }

/-- Hand load data to its requester (R150, R204): into a helper's registers with the UE condition, or the steward's
status flag. The first part of a value clears the rest. -/
def State.deliver (s : State) (who dst total reg : Nat) (r : ReadBytes) : State :=
  if who < 24 then
    let base := if dst = 0 then List.replicate total 0 else s.regBytes who reg total
    s.modHelper who (fun x => { x.setRegs reg (putBytes base dst r.data) with ue := r.bad || (dst != 0 && x.ue) })
  else if who = 31 then s.modSteward (fun x => { x with ueFlag := r.bad || (dst != 0 && x.ueFlag) })
  else s

/-- A store that met a bad word is reported to its writer as a load would be (R199). -/
def State.tellBad (s : State) (who : Nat) (bad : Bool) : State :=
  if !bad then s
  else if who < 24 then s.modHelper who (fun x => { x with ue := true })
  else if who = 31 then s.modSteward (fun x => { x with ueFlag := true })
  else s

/-! ### Replacement and the eviction buffer (R224 to R226) -/

/-- A place for line `la` is to be had: no dirty line must leave, or the eviction buffer has room. -/
def State.canInstall (s : State) (la : Nat) : Bool :=
  match s.lineAt (s.victimKey la) with
  | some v => !v.dirty || decide (s.cache.evb.length < 16)
  | none => true

/-- Install a line in its set; the line it displaces is dropped, or moves to the eviction buffer when dirty. -/
def State.install (s : State) (la : Nat) (words : List Code80) (dirty : Bool) : State :=
  let key := s.victimKey la
  let s1 := match s.lineAt key with
    | some v => if v.dirty then s.modCache (fun c => { c with evb := c.evb ++ [(⟨v.la, v.words, false⟩ : EvEntry)] }) else s
    | none => s
  (s1.setLine key (some ⟨la, dirty, words⟩)).plruUse key

def State.evEntry (s : State) (la : Nat) : Option EvEntry := s.cache.evb.find? (fun e => e.la == la)

def State.dropEv (s : State) (la : Nat) : State :=
  s.modCache (fun c => { c with evb := c.evb.filter (fun e => e.la != la) })

/-- An issued write-back is complete: HBM holds the line, and the line operations that waited for it are done (R227, R230). -/
def State.wbFinish (s : State) (f : MemFaults) (e : EvEntry) : State :=
  let s1 := s.writeBack f e.la e.words
  (s1.each (s1.cache.waitWb.filter (fun w => w.2 == e.la)) (fun t w => t.unblock w.1)).modCache (fun c => { c with waitWb := c.waitWb.filter (fun w => w.2 != e.la) })

/-- An access finds its line in the eviction buffer: the line comes back to its set, dirty where the write-back had not
been issued, clean where it had and so completes first (R225). -/
def State.recallEv (s : State) (f : MemFaults) (e : EvEntry) : State :=
  let s1 := (s.dropEv e.la).when e.issued (fun t => t.wbFinish f e)
  (s1.install e.la e.words (!e.issued)).bump CA_EVHIT.EVHIT

def State.sideLine (s : State) (la : Nat) : Option CacheLine := s.cache.side.find? (fun l => l.la == la)
def State.dropSide (s : State) (la : Nat) : State := s.modCache (fun c => { c with side := c.side.filter (fun x => x.la != la) })
def State.fillOf (s : State) (la : Nat) : Option Fill := s.cache.fills.find? (fun f => f.la == la)
def State.addFill (s : State) (f : Fill) : State := s.modCache (fun c => { c with fills := c.fills ++ [f] })

/-- The first use of a prefetched line that moves into its set (R222). -/
def State.firstUse (s : State) (la : Nat) (words : List Code80) : State := ((s.install la words false).bump CA_PF.USED).bump CA_HIT.COUNT

/-- A line of the side buffer moves into its set. -/
def State.promoteSide (s : State) (l : CacheLine) : State := (s.dropSide l.la).firstUse l.la l.words

/-- A line that has come but must wait for an eviction-buffer entry, with the request that needs it (R226). -/
def State.park (s : State) (la : Nat) (words : List Code80) (prefetch : Bool) (r : CacheReq) : State :=
  (s.addFill ⟨la, [r], prefetch, false, some words⟩).block r.who

/-! ### Prefetch streams (R220 to R222) -/

/-- Two lines lie in one pseudo-channel of one stack (R183). -/
def sameChannel (la lb : Nat) : Bool := hbmStack (la * 128) == hbmStack (lb * 128) && hbmChannel (la * 128) == hbmChannel (lb * 128)

/-- A demand fill or write-back waits for the pseudo-channel of line `la` (R221). -/
def State.channelBusy (s : State) (la : Nat) : Bool :=
  s.cache.fills.any (fun f => !f.prefetch && f.words.isNone && sameChannel f.la la) || s.cache.evb.any (fun e => sameChannel e.la la)

/-- Issue a prefetch of line `p` for a trigger line: only cacheable lines of the trigger's region (R221), not held or
under way already. -/
def State.prefetch (s : State) (trig : Nat) (p : Int) : State :=
  let la := p.toNat
  if decide (p < 0) || !s.cacheable (la * 128) || s.regionOf (la * 128) != s.regionOf (trig * 128) ||
      (s.cacheFind la).isSome || (s.evEntry la).isSome || (s.sideLine la).isSome || (s.fillOf la).isSome then s
  else (s.addFill ⟨la, [], true, s.channelBusy la, none⟩).bump CA_PF.ISSUED

/-- Prefetches that waited for demand work use HBM once none is left (R221). -/
def State.releaseHeld (s : State) : State :=
  s.modCache (fun c => { c with fills := c.fills.map (fun f => if f.held && !s.channelBusy f.la then { f with held := false } else f) })

/-- A stride the table takes: not 0, at most 64 lines (R220). -/
def strideOk (d : Int) : Bool := d != 0 && decide (d.natAbs ≤ 64)

/-- The entry after a load miss on line `la` (R220). -/
def Stream.miss (e : Stream) (la : Nat) : Stream :=
  let d : Int := (la : Int) - (e.la : Int)
  if e.stride = 0 then { e with la := la, stride := if strideOk d then d else 0, confirmed := false }
  else if d = e.stride then { e with la := la, confirmed := true }
  else { e with la := la, stride := if strideOk d then d else 0, confirmed := false }

/-- Put the stream of a requester first, as the most recently used of 16. -/
def putStream (l : List Stream) (e : Stream) : List Stream := (e :: l.filter (fun x => x.who != e.who)).take 16

/-- The line `k` strides on from a stream's latest access. -/
def Stream.ahead (e : Stream) (k : Nat) : Int := (e.la : Int) + e.stride * (k : Int)

/-- A load miss of `who` on line `la` builds up its stream and, once confirmed, keeps 8 strides prefetched. -/
def State.streamMiss (s : State) (who la : Nat) : State :=
  let e := match s.cache.streams.find? (fun x => x.who == who) with
    | some e => e.miss la
    | none => ⟨who, la, 0, false⟩
  let s1 := s.modCache (fun c => { c with streams := putStream c.streams e })
  if e.confirmed then s1.each (List.range 8) (fun t k => t.prefetch la (e.ahead (k + 1))) else s1

/-- The requester uses one of the next 8 lines of its own confirmed stream, `k` strides on: as many more are prefetched (R220). -/
def State.streamUse (s : State) (who la : Nat) : State :=
  match s.cache.streams.find? (fun x => x.who == who) with
  | none => s
  | some e =>
    match (List.range' 1 8).find? (fun k => e.confirmed && e.ahead k == (la : Int)) with
    | none => s
    | some k =>
      let n := { e with la := la }
      (s.modCache (fun c => { c with streams := putStream c.streams n })).each (List.range k) (fun t j => t.prefetch la (n.ahead (9 - k + j)))

/-! ### Serving an access -/

/-- A parity error of a line found valid (R233): a clean line goes, a dirty one is a DC fault, taken when the access ends
(State.cacheFault); record 0x0801. The flag says so: the access ends there. -/
def State.parityLine (s : State) (f : MemFaults) (la : Nat) : State × Bool :=
  if !f.lines.contains la then (s, false)
  else match s.cacheFind la with
    | none => (s, false)
    | some key => match s.lineAt key with
      | some l =>
        let t := s.record 0x0801 (leBytes 1 (if l.dirty then 1 else 0) ++ zeros 3 ++ leBytes 8 (128 * la))
        if l.dirty then (t.modCache (fun c => { c with dcFault := some la }), true) else (t.setLine key none, false)
      | none => (s, false)

def zeroWords : List Code80 := List.replicate 16 (encodeWord 0)

/-- A line operation finds its line valid (R227). -/
def State.lineOpValid (s : State) (f : MemFaults) (op key : Nat) (l : CacheLine) : State :=
  if op = 0 then
    if l.dirty then (s.writeBack f l.la l.words).setLine key (some { l with dirty := false }) else s
  else if op = 1 then s.setLine key none
  else if op = 2 then (s.when l.dirty (fun t => t.writeBack f l.la l.words)).setLine key none
  else s.setLine key (some ⟨l.la, true, zeroWords⟩)

/-- A store finds a word of the line that its read-modify-write must leave unchanged (R199). -/
def CacheLine.storeBad (l : CacheLine) (off : Nat) (data : List Byte) : Bool :=
  (wordSpan off data.length).any (fun k => (wordPart off data k).2.length != 8 && (decodeWord (l.word k)).res.bad)

/-- The words of the line that a store of part words reads are counted (R232). -/
def State.rmwNote (s : State) (l : CacheLine) (off : Nat) (data : List Byte) (who : Nat) : State :=
  s.each (wordSpan off data.length) (fun t k => if (wordPart off data k).2.length != 8 then t.caNote l.la k who (decodeWord (l.word k)) else t)

/-- The words of the line that a read takes are counted (R232). -/
def State.readNote (s : State) (l : CacheLine) (off n who : Nat) : State :=
  s.each (wordSpan off n) (fun t k => t.caNote l.la k who (decodeWord (l.word k)))

/-- Merge bytes into a line that is valid, and mark it dirty. -/
def State.mergeLine (s : State) (who key : Nat) (l : CacheLine) (off : Nat) (d : List Byte) : State :=
  (s.rmwNote l off d who).setLine key (some { l.write off d with dirty := true })

/-- Serve an access to a line that is valid in its set (R218, R227, R232). -/
def State.serveLine (s : State) (f : MemFaults) (who a : Nat) (op : CacheOp) (key : Nat) (l : CacheLine) : State :=
  match op with
  | .load n dst total reg => ((s.plruUse key).readNote l (a % 128) n who).deliver who dst total reg (l.read (a % 128) n)
  | .store d => ((s.plruUse key).mergeLine who key l (a % 128) d).tellBad who (l.storeBad (a % 128) d)
  | .line k => s.lineOpValid f k key l

/-- Serve an access whose line is valid now. -/
def State.serveAt (s : State) (r : CacheReq) : State :=
  match s.cacheFind (lineOf r.addr) with
  | none => s
  | some key =>
    match s.lineAt key with
    | some l => s.serveLine r.faults r.who r.addr r.op key l
    | none => s

/-- The sequence count of R219 for a store of `who` to line `la`. -/
def State.seqCount (s : State) (who la : Nat) : Nat :=
  match SMap.get (fun _ => none) s.cache.seqs who with
  | none => 0
  | some (n, last) => if la = last + 1 then n + 1 else if la = last then n else 0

def State.seqNote (s : State) (who la : Nat) : State :=
  let n := s.seqCount who la
  s.modCache (fun c => { c with seqs := SMap.set (fun _ => none) c.seqs who (some (n, la)) })

def CacheOp.isStore : CacheOp → Bool
  | .store _ => true
  | _ => false

/-- Wait for the fill under way (R217). A prefetch that has not begun becomes the demand fill (assumption 101). -/
def State.joinFill (s : State) (f : Fill) (r : CacheReq) : State :=
  let s1 := s.modCache (fun c => { c with fills := c.fills.map (fun x => if x.la == f.la then
    { x with waiting := x.waiting ++ [r], prefetch := x.prefetch && !x.held, held := false } else x) })
  (s1.when f.held (fun t => t.bump CA_MISS.COUNT)).block r.who

/-- A miss issues a demand fill (R216). -/
def State.missFill (s : State) (r : CacheReq) : State :=
  ((s.addFill ⟨lineOf r.addr, [r], false, false, none⟩).bump CA_MISS.COUNT).block r.who

/-- A store miss that does not allocate goes to HBM as word writes (R219). -/
def State.streamStore (s : State) (r : CacheReq) : State :=
  match r.op with
  | .store d => ((s.hbmStore r.faults r.addr d).bump CA_EVHIT.NOALLOC).tellBad r.who (s.hbmStoreBad r.faults r.addr d)
  | _ => s

/-- A load or store to one cacheable line: a hit, the eviction buffer, the side buffer, a fill under way, or a miss. -/
def State.lineAccess (s : State) (r : CacheReq) : State :=
  let la := lineOf r.addr
  let s0 := s.when r.op.isStore (fun t => t.seqNote r.who la)
  if (s0.cacheFind la).isSome then ((s0.bump CA_HIT.COUNT).serveAt r).streamUse r.who la
  else match s0.evEntry la with
    | some e => ((s0.recallEv r.faults e).serveAt r).streamUse r.who la
    | none =>
      match s0.sideLine la with
      | some l =>
        if s0.canInstall la then ((s0.promoteSide l).serveAt r).streamUse r.who la
        else ((s0.dropSide la).park la l.words true r).streamUse r.who la
      | none =>
        match s0.fillOf la with
        | some f =>
          if f.prefetch then (s0.joinFill f r).streamUse r.who la
          else (s0.joinFill f r).when (!r.op.isStore) (fun t => t.streamMiss r.who la)
        | none =>
          if r.op.isStore && decide (32 ≤ s0.seqCount r.who la) then s0.streamStore r
          else (s0.missFill r).when (!r.op.isStore) (fun t => t.streamMiss r.who la)

/-- One part of an access: to a line of the cache, or straight to HBM where the address is not cacheable (R212). -/
def State.partAccess (s : State) (r : CacheReq) : State :=
  if s.cacheable r.addr then
    let p := s.parityLine r.faults (lineOf r.addr)
    if p.2 then p.1 else p.1.lineAccess r
  else match r.op with
    | .load n dst total reg =>
      (s.hbmNote r.faults r.addr n (if r.who = 31 then reqSteward else reqFabric)).deliver r.who dst total reg (s.hbmPeek r.faults r.addr n)
    | .store d => (s.hbmStore r.faults r.addr d).tellBad r.who (s.hbmStoreBad r.faults r.addr d)
    | .line _ => s

/-- The second part of an access follows once the first is served; while that waits, it waits with it. -/
def State.thenMore (s : State) (r : CacheReq) : State :=
  if s.isBlocked r.who || s.cache.dcFault.isSome then s
  else match r.more with
    | some (a, op) => s.partAccess ⟨r.who, a, op, none, r.faults⟩
    | none => s

/-! ### Line operations (R227 to R230) -/

/-- Zero of a line that is not held allocates without a fill; it waits where a dirty line cannot leave (R226, R229). -/
def State.zeroLine (s : State) (r : CacheReq) : State :=
  let la := lineOf r.addr
  if s.canInstall la then s.install la zeroWords true else s.park la zeroWords false r

/-- A line operation of `who` on a cacheable line. Where it must wait for a write-back the requester stays blocked. A Clean of a line in
the side buffer only moves it into its set (R222; R227 gives it no other result). -/
def State.lineOp (s : State) (r : CacheReq) (op : Nat) : State :=
  let la := lineOf r.addr
  let p := s.parityLine r.faults la
  if p.2 then p.1
  else
    let t := p.1
    match t.cacheFind la with
    | some _ => t.serveAt r
    | none =>
      match t.fillOf la with
      | some f => t.joinFill f r
      | none =>
        match t.evEntry la with
        | some e =>
          if op = 3 then ((t.dropEv la).when e.issued (fun u => u.wbFinish r.faults e)).install la zeroWords true
          else if op = 1 && !e.issued then t.dropEv la
          else
            -- Clean, Clean and invalidate, and Invalidate of an issued write-back: complete when it completes
            ((t.modCache (fun c => { c with evb := c.evb.map (fun (x : EvEntry) => if x.la == la then { x with issued := true } else x), waitWb := c.waitWb ++ [(r.who, la)] })).block r.who)
        | none =>
          match t.sideLine la with
          | some l =>
            if op = 0 then (if t.canInstall la then t.promoteSide l else (t.dropSide la).park la l.words true r)
            else (t.dropSide la).when (op == 3) (fun u => u.zeroLine r)
          | none => t.when (op == 3) (fun u => u.zeroLine r)

/-- A line operation on an uncached address: no effect, but Zero writes 128 bytes of zero words. -/
def State.lineOpUncached (s : State) (f : MemFaults) (a op : Nat) : State :=
  if op = 3 && MemSp.hbm.holds (lineOf a * 128) 128 then s.writeBack f (lineOf a) zeroWords else s

/-! ### Fills, write-backs and reset -/

/-- A waiting request is applied once its line is installed; where an Invalidate ahead of it has dropped the line again, it is an access
of its own (R217, R228). -/
def State.applyReq (s : State) (r : CacheReq) : State :=
  let s1 := s.unblock r.who
  match r.op with
  | .line k => s1.lineOp r k
  | _ => (if (s1.cacheFind (lineOf r.addr)).isSome then s1.serveAt r else s1.partAccess r).thenMore r

/-- Install the line of a fill that has come and apply its waiting requests in their order (R216, R217, R228). -/
def State.finishFill (s : State) (f : Fill) : State :=
  match f.words with
  | none => s
  | some w =>
    let s1 := s.modCache (fun c => { c with fills := c.fills.filter (fun x => x.la != f.la) })
    (if f.prefetch then s1.firstUse f.la w else s1.install f.la w false).each f.waiting (fun t r => t.applyReq r)

/-- Lines that have come install as long as dirty ones can leave (R226). -/
def State.settleFills : Nat → State → State
  | 0, s => s
  | k + 1, s =>
    match s.cache.fills.find? (fun f => f.words.isSome && s.canInstall f.la) with
    | some f => State.settleFills k (s.finishFill f)
    | none => s

/-- What follows every change of the cache: waiting lines install, held prefetches go on, the registers follow. -/
def State.cacheSettle (s : State) : State := ((State.settleFills 64 s).releaseHeld).cacheSync

/-- An access of a requester (R214: the steward or a helper), in one part or two. -/
def State.cacheRequest (s : State) (r : CacheReq) : State := ((s.partAccess r).thenMore r).cacheSettle

/-- A line comes from HBM for a fill: its words are read, and stand by for their place in the set. -/
def State.fillCome (s : State) (f : MemFaults) (la : Nat) : State :=
  let w := s.hbmLine f la
  let s1 := s.hbmNote f (la * 128) 128 reqFill
  s1.modCache (fun c => { c with fills := c.fills.map (fun x => if x.la == la then { x with words := some w } else x) })

/-- A write-back from the eviction buffer completes: the entry leaves, and what waited for it goes on (R224, R226, R227). -/
def State.wbDone (s : State) (f : MemFaults) (la : Nat) : State :=
  match s.evEntry la with
  | none => s
  | some e => ((s.dropEv la).wbFinish f e).cacheSettle

/-- Every dirty line is written back, the lines staying valid. -/
def State.cleanAll (s : State) (f : MemFaults) : State :=
  s.each s.cache.lines (fun t p =>
    match p.2 with
    | some l => if l.dirty then (t.writeBack f l.la l.words).setLine p.1 (some { l with dirty := false }) else t
    | none => t)

/-- Dirty lines and the eviction buffer are written back until neither holds anything (R235): requests that a freed entry lets go on may
leave new ones. -/
def State.drainCache : Nat → State → State
  | 0, s => s
  | k + 1, s =>
    if s.cache.evb.isEmpty && s.cache.lines.all (fun p => !((p.2.map (fun l => l.dirty)).getD false)) then s
    else
      let s1 := s.cleanAll ⟨[], []⟩
      State.drainCache k (s1.each s1.cache.evb (fun t e => t.wbDone ⟨[], []⟩ e.la))

def State.cacheWriteBackAll (s : State) : State := (State.drainCache 64 s).cacheSync

/-- The cache after reset: nothing held (R234). -/
def State.cacheClear (s : State) : State := (s.modCache (fun _ => CacheSt.reset)).cacheSync

/-! ### Movers (R231) -/

/-- REQ of CA_EINFO for a mover. -/
def moverWho : Nat := 0x1E

/-- `n` bytes from `a` cut at line ends: (address, length), in order. -/
def lineParts (a n : Nat) : List (Nat × Nat) :=
  if n = 0 then [] else
    (List.range ((a + n - 1) / 128 - a / 128 + 1)).map (fun k =>
      let lo := Nat.max a ((a / 128 + k) * 128)
      let hi := Nat.min (a + n) ((a / 128 + k + 1) * 128)
      (lo, hi - lo))

/-- The line as the ways hold it. -/
def State.validLine (s : State) (la : Nat) : Option CacheLine := (s.cacheFind la).bind s.lineAt

/-- The line a mover's read takes in place of HBM: a dirty one, or one of the eviction buffer. -/
def State.heldLine (s : State) (la : Nat) : Option CacheLine :=
  match s.validLine la, s.evEntry la with
  | some l, _ => if l.dirty then some l else none
  | none, some e => some ⟨la, true, e.words⟩
  | none, none => none

/-- The line a mover's write merges into: a valid one, or one of the eviction buffer. -/
def State.mergeInto (s : State) (la : Nat) : Option CacheLine :=
  match s.validLine la, s.evEntry la with
  | some l, _ => some l
  | none, some e => some ⟨la, true, e.words⟩
  | none, none => none

def State.moverRead (s : State) (f : MemFaults) (a n : Nat) : ReadBytes :=
  let rs := (lineParts a n).map (fun p => match s.heldLine (lineOf p.1) with
    | some l => l.read (p.1 % 128) p.2
    | none => s.hbmPeek f p.1 p.2)
  ⟨rs.flatMap (fun r => r.data), rs.any (fun r => r.bad)⟩

/-- The reports of that read (R205, R232). -/
def State.moverReadNote (s : State) (f : MemFaults) (a n : Nat) : State :=
  s.each (lineParts a n) (fun t p => match t.heldLine (lineOf p.1) with
    | some l => t.readNote l (p.1 % 128) p.2 moverWho
    | none => t.hbmNote f p.1 p.2 reqMover)

/-- A mover's write waits for a line whose fill is in progress. -/
def State.moverWaits (s : State) (a n : Nat) : Bool :=
  (lineParts a n).any (fun p => match s.fillOf (lineOf p.1) with
    | some f => !f.prefetch || f.waiting != []
    | none => false)

/-- The part of a write that lies in one line. -/
def partOf (a : Nat) (d : List Byte) (p : Nat × Nat) : List Byte := (d.drop (p.1 - a)).take p.2

/-- The write meets a word that it must leave unchanged (R184, R199). -/
def State.moverBad (s : State) (f : MemFaults) (a : Nat) (d : List Byte) : Bool :=
  (lineParts a d.length).any (fun p => match s.mergeInto (lineOf p.1) with
    | some l => l.storeBad (p.1 % 128) (partOf a d p)
    | none => s.hbmStoreBad f p.1 (partOf a d p))

/-- The reports of a write that is not made for such a word. -/
def State.moverBadNote (s : State) (f : MemFaults) (a : Nat) (d : List Byte) : State :=
  s.each (lineParts a d.length) (fun t p => match t.mergeInto (lineOf p.1) with
    | some l => t.rmwNote l (p.1 % 128) (partOf a d p) moverWho
    | none => t.storeNote f .hbm p.1 (partOf a d p))

/-- A mover write within one line: merged into a valid line, or one recalled from the eviction buffer; to HBM else, a copy in the side
buffer being dropped. -/
def State.moverWriteLine (s : State) (f : MemFaults) (a : Nat) (d : List Byte) : State :=
  let la := lineOf a
  let s1 := match s.cacheFind la, s.evEntry la with
    | none, some e => s.recallEv f e
    | _, _ => s
  match s1.cacheFind la with
  | some key => (match s1.lineAt key with
    | some l => s1.mergeLine moverWho key l (a % 128) d
    | none => s1)
  | none => (s1.dropSide la).hbmStore f a d

def State.moverWrite (s : State) (f : MemFaults) (a : Nat) (data : List Byte) : State :=
  (s.each (lineParts a data.length) (fun t p => t.moverWriteLine f p.1 (partOf a data p))).cacheSettle

/-- Lines of a mover's access found with a parity error (R233); the flag says that Base-note mode ends the access. -/
def State.moverParity (s : State) (f : MemFaults) (a n : Nat) : State × Bool :=
  (lineParts a n).foldl (fun t p => if t.2 then t else t.1.parityLine f (lineOf p.1)) (s, false)

end Sys2Proof.Machine
end

