-- ==== Sys2Proof/Machine/Operands.lean ====
section
/-! DEFINITION. The operand forms: the fields of a helper microword (R148, R149), the values ALU and memory operations
take from registers, and the parameters of service-ring descriptors (R582). -/
namespace Sys2Proof.Machine

/-! ### Microwords -/

def mwField (w : Microword) (hi lo : Nat) : Nat := w.toNat / 2 ^ lo % 2 ^ (hi - lo + 1)

def mwSeq (w : Microword) : Nat := mwField w 127 126
def mwSp (w : Microword) : Bool := mwField w 125 125 == 1
def mwReserved (w : Microword) : Bool := mwField w 124 124 == 1
def mwCond (w : Microword) : Nat := mwField w 123 120
def mwAlu (w : Microword) : Nat := mwField w 119 114
def mwRa (w : Microword) : Nat := mwField w 113 109
def mwRb (w : Microword) : Nat := mwField w 108 104
def mwRd (w : Microword) : Nat := mwField w 103 99
def mwMop (w : Microword) : Nat := mwField w 98 95
def mwMa (w : Microword) : Nat := mwField w 94 90
def mwMd (w : Microword) : Nat := mwField w 89 85
def mwMsize (w : Microword) : Nat := mwField w 84 82
def mwTspace (w : Microword) : Nat := mwField w 81 80
def mwTarget (w : Microword) : Nat := mwField w 79 67
def mwImmsel (w : Microword) : Nat := mwField w 66 64
def mwImm (w : Microword) : Nat := mwField w 63 0

/-- Bytes of an access: 1 to 64 (R148). -/
def mwBytes (w : Microword) : Nat := 2 ^ mwMsize w

/-- An illegal microword: the reserved bit, TSPACE 0b11, MOP 0xC to 0xF, an access size beyond 64 bytes, or a fence of
no kind (R148, R149, R170). -/
def mwIllegal (w : Microword) : Bool :=
  mwReserved w || mwTspace w == 3 || decide (12 ≤ mwMop w) ||
  (decide (1 ≤ mwMop w) && decide (mwMop w ≤ 4) && mwMsize w == 7) ||
  (mwMop w == 0xB && decide (3 ≤ mwMsize w))

def Helper.gpr (h : Helper) (r : Nat) : Word64 := SMap.get (fun _ => (0 : Word64)) h.regs r

/-- The second ALU operand: RB, or IMM in its place. -/
def Helper.opB (h : Helper) (w : Microword) : Word64 :=
  if Config.immSel (mwImmsel w) = 1 then BitVec.ofNat 64 (mwImm w) else h.gpr (mwRb w)

/-- The address of a memory operation: MA, with IMM added where it is the address offset. -/
def Helper.opAddr (h : Helper) (w : Microword) : Nat :=
  if Config.immSel (mwImmsel w) = 2 then (h.gpr (mwMa w) + BitVec.ofNat 64 (mwImm w)).toNat else (h.gpr (mwMa w)).toNat

/-- The data of a store: `n` bytes of MD and the registers after it. -/
def Helper.opData (h : Helper) (w : Microword) : List Byte :=
  ((List.range ((mwBytes w + 7) / 8)).flatMap (fun k => leBytes 8 (h.gpr ((mwMd w + k) % 32)).toNat)).take (mwBytes w)

/-- The kind of a line operation: bits 1:0 of register MD. -/
def Helper.opLine (h : Helper) (w : Microword) : Nat := (h.gpr (mwMd w)).toNat % 4

/-! ### Service-ring parameters: byte `off` onward of PARAM, `n` bytes, little-endian (R9) -/

def RingDesc.p (d : RingDesc) (off n : Nat) : Nat := leAt d.param off n

end Sys2Proof.Machine
end

