-- ==== Sys2Proof/Machine/Flags.lean ====
section
/-! DEFINITION. Status and flag computations: the condition a microword tests, and the status codes computed from the
state. -/
namespace Sys2Proof.Machine

/-- COND of a microword: the flags, inbox not empty, error queue not empty, island FIFO ready, event pending, and the UE
status of the last fabric load (R148). `island` is whether the helper's island FIFO is ready. -/
def Helper.holds (h : Helper) (w : Microword) (island : Bool) : Bool :=
  Config.cond (mwCond w) h.flags (!h.inbox.isEmpty) (!h.errq.isEmpty) island (!h.events.isEmpty) h.ue

/-- The result and the flags of the microword's ALU operation written (R148; the encoding is Config's). -/
def Helper.alu (h : Helper) (w : Microword) : Helper :=
  let a := h.gpr (mwRa w)
  let b := h.opB w
  let d := h.gpr (mwRd w)
  { h with regs := SMap.set (fun _ => (0 : Word64)) h.regs (mwRd w) (Config.alu (mwAlu w) a b d), flags := Config.aluFlags (mwAlu w) a b d }

end Sys2Proof.Machine
end

