-- ==== Sys2Proof/Machine/HelperOps.lean ====
section
/-! DEFINITION. What helpers, the steward and the fabric do whatever the command: helper states (R153), domains of roles
(R25), messages (R162 to R167) and patch swaps (R175 to R179). -/
namespace Sys2Proof.Machine

/-! ### States and roles -/

def heStopped : Nat := 0
def heRunning : Nat := 1
def heStopping : Nat := 2
def heFaulted : Nat := 3

def State.heState (s : State) (h : Nat) : Nat := s.fld (HE_STAT.STATE h)
def State.role (s : State) (h : Nat) : Nat := s.fld (HE_ROLE.ROLE h)
def State.roleParam (s : State) (h : Nat) : Nat := s.fld (HE_ROLE.PARAM h)

def helpers24 : List Nat := List.range 24

/-- The domain of a helper: one that can be serviced, DC, or DS (R24, R25). -/
inductive HDom where
  | core | spindle
  | svc (d : Dom)
  deriving DecidableEq, Repr

/-- The domain of the helper's assigned role (R25). -/
def State.heDom (s : State) (h : Nat) : HDom :=
  match s.role h with
  | 0x01 => (match s.laneAct (s.roleParam h) with
    | some a => .svc (domOfAct a)
    | none => .core)
  | 0x02 | 0x03 | 0x04 => .svc (domOfAct (actOf (s.roleParam h)))
  | 0x05 => .spindle
  | 0x09 => .svc .DP
  | 0x0A => .svc .DE
  | _ => .core

/-- The helper that holds a role with a parameter; a Faulted one holds none. -/
def State.helperOf (s : State) (role param : Nat) : Option Nat :=
  helpers24.find? (fun h => s.role h == role && s.roleParam h == param && s.heState h != heFaulted)

/-- The role code's drain timer in ms, `none` where the role is not stopped (R168). -/
def drainMs (role : Nat) : Option Nat :=
  match role with
  | 0x01 => some 1
  | 0x02 | 0x03 | 0x04 | 0x00 => some 0
  | 0x06 => some 10
  | 0x09 => some 10
  | 0x0A => some 5
  | 0x0B => some 20
  | 0x0C => some 100
  | _ => none

/-- HE_STAT.INBOX and ERRQ count the messages held (R166). -/
def State.heSync (s : State) (h : Nat) : State :=
  (s.setFld (HE_STAT.INBOX h) (s.helper h).inbox.length).setFld (HE_STAT.ERRQ h) (s.helper h).errq.length

/-! ### Messages -/

/-- Endpoint of the steward (R162). -/
def stewardEp : Nat := 31

/-- Status codes a message returns with (R162). -/
def msgStale : Nat := 1
def msgDown : Nat := 2
def msgAborted : Nat := 3

/-- Count a return in the target's HE_MSGCNT (R163). -/
def State.countReturn (s : State) (dst status : Nat) : State :=
  if 24 ≤ dst then s
  else if status = msgStale then s.bump (HE_MSGCNT.STALE dst)
  else if status = msgDown then s.bump (HE_MSGCNT.DOWN dst)
  else s

/-- A message starts back to its sender with a status (R163, R167). -/
def State.returnMsg (s : State) (m : Msg) (status : Nat) : State :=
  (s.countReturn m.dst status).modFabric (fun f => { f with returning := f.returning ++ [{ m with status := status }] })

/-- Why the target does not take the message, if it does not: DOWN before STALE (R163). The steward takes any DSTGEN, and an endpoint that
is none (0x18 to 0x1E) is not Running (DESIGN CHOICE, assumption 103). -/
def State.refusal? (s : State) (m : Msg) : Option Nat :=
  if m.dst = stewardEp then (if s.bit FB_STAT.HALT then some msgDown else none)
  else if 24 ≤ m.dst || s.heState m.dst != heRunning then some msgDown
  else if m.dstGen != s.fld (HE_ROLE.ROLEGEN m.dst) then some msgStale
  else none

/-- A helper of the role has still to swap (R175). -/
def State.swapPending (s : State) (r : Nat) : Bool := helpers24.any (fun h => s.role h == r && (s.helper h).swapReq)

/-- The target's inbox has a free entry, and its role's messages are not held for a swap (R166, R175). -/
def State.inboxOpen (s : State) (dst : Nat) : Bool :=
  if dst = stewardEp then decide (s.steward.inbox.length < 64)
  else decide ((s.helper dst).inbox.length < 32) && !s.swapPending (s.role dst)

/-- The message enters its target's inbox. -/
def State.enterInbox (s : State) (m : Msg) : State :=
  if m.dst = stewardEp then s.modSteward (fun x => { x with inbox := x.inbox ++ [m] })
  else (s.modHelper m.dst (fun x => { x with inbox := x.inbox ++ [m] })).heSync m.dst

/-- The fabric takes a message: into the inbox, into the wait for a full inbox, or back to its sender (R163, R166). -/
def State.fabricTake (s : State) (m : Msg) : State :=
  match s.refusal? m with
  | some st => s.returnMsg m st
  | none =>
    if s.inboxOpen m.dst && !s.fabric.waiting.any (fun x => x.dst == m.dst) then s.enterInbox m
    else s.modFabric (fun f => { f with waiting := f.waiting ++ [m] })

/-- A message the device itself sends (R246, R162): no sender queue, so one that is refused is only counted. -/
def State.deviceMsg (s : State) (src dst type tag : Nat) (payload : List Byte) : State :=
  let gen := if dst < 24 then s.fld (HE_ROLE.ROLEGEN dst) else 0
  s.fabricTake ⟨src, dst, gen, 0, type, 0, tag, s.tick % 2 ^ 32, payload⟩

/-- Return every message in the helper's inbox, and those waiting in the fabric for it, with status DOWN (R153). -/
def State.flushInbox (s : State) (h : Nat) : State :=
  let ms := (s.helper h).inbox ++ s.fabric.waiting.filter (fun m => m.dst == h)
  let s1 := (s.modHelper h (fun x => { x with inbox := [] })).modFabric (fun f => { f with waiting := f.waiting.filter (fun m => m.dst != h) })
  (s1.each ms (fun t m => t.returnMsg m msgDown)).heSync h

/-- Unfinished work items go back to their originators with status ABORTED (R153). -/
def State.abortWork (s : State) (h : Nat) : State :=
  (s.each (s.helper h).work (fun t w => t.returnMsg ⟨w.1, h, 0, 0, 0, 0, w.2, t.tick % 2 ^ 32, []⟩ msgAborted)).modHelper h
    (fun x => { x with work := [] })


/-! ### Patches -/

/-- Write a patch set into the readouts of helper `h` (R179). -/
def State.showPatch (s : State) (h : Nat) (p : PatchSet) : State :=
  let s1 := ((s.setFld (HE_PATCHGEN.GEN h) p.gen).setFld (HE_VER.WORDS h) p.words.length).setFld (HE_VER.NMATCH h) p.mtab.length
  s1.each (List.range 32) (fun t j =>
    match p.mtab[j]? with
    | some (a, w) => (((t.setFld (HE_MATCH.EN h j) 1).setFld (HE_MATCH.BANK h j) (a / 8192)).setFld (HE_MATCH.ROMADDR h j) (a % 8192)).setFld (HE_MATCH.PATCHADDR h j) w
    | none => t.setReg (HE_MATCH.REG h j).addr 0)

/-- The helper swaps to its staged half and shadow match set (R175, R177). -/
def State.heSwap (s : State) (h : Nat) : State :=
  match (s.helper h).shadow with
  | none => s.modHelper h (fun x => { x with swapReq := false })
  | some p =>
    ((s.modHelper h (fun x => { x with active := p, shadow := none, swapReq := false })).setFld (HE_STAT.HALF h)
      (1 - s.fld (HE_STAT.HALF h))).showPatch h p

/-- The steward swaps to its staged half and shadow match set (R175, R179). -/
def State.stSwap (s : State) : State :=
  match s.steward.shadow with
  | none => s
  | some p =>
    let s1 := (s.modSteward (fun x => { x with active := p, shadow := none })).setFld ST_PATCHSTAT.HALF (1 - s.fld ST_PATCHSTAT.HALF)
    let s2 := ((s1.setFld ST_PATCHGEN.GEN p.gen).setFld ST_PATCHSTAT.UNITS p.units).setFld ST_PATCHSTAT.NMATCH p.mtab.length
    s2.each (List.range 64) (fun t j =>
      match p.mtab[j]? with
      | some (a, w) => ((t.setFld (ST_MATCH.EN j) 1).setFld (ST_MATCH.ROMBLK j) a).setFld (ST_MATCH.PATCHADDR j) w
      | none => t.setReg (ST_MATCH.REG j).addr 0)

/-! ### The swap of role after role (R175) -/

/-- The Running helpers of a role are signalled; one that stands at a safe point swaps at once. -/
def State.swapSignal (s : State) (r : Nat) : State :=
  s.each helpers24 (fun t h =>
    if t.role h == r && t.heState h == heRunning then
      (if (t.helper h).count = 0 then t.heSwap h else t.modHelper h (fun x => { x with swapReq := true }))
    else t)

/-- The next role follows once every helper of this one has swapped. -/
def State.swapGo : Nat → State → State
  | 0, s => s
  | k + 1, s =>
    match s.fabric.swapRole with
    | none => s
    | some r => if 13 ≤ r || s.swapPending r then s else State.swapGo k ((s.modFabric (fun f => { f with swapRole := some (r + 1) })).swapSignal (r + 1))

/-! ### Halting -/

/-- What the helper waited for in the cache is no longer waited for. -/
def State.dropRequests (s : State) (h : Nat) : State :=
  s.modCache (fun c => { c with
    fills := c.fills.map (fun f => { f with waiting := f.waiting.filter (fun r => r.who != h) }), waitWb := c.waitWb.filter (fun w => w.1 != h) })

/-- The helper is out of its routine: nothing waits for its next safe point any more. -/
def Helper.idled (x : Helper) (stop : Option Nat) : Helper :=
  { x with blocked := false, events := [], swapReq := false, stopReq := false, haltReq := false, spDue := false, watchdog := false, count := 0, stopStatus := stop }

/-- The helper halts in Stopped. Messages in its inbox go back DOWN, as at a fault (DESIGN CHOICE, assumption 104). -/
def State.heHalt (s : State) (h : Nat) : State :=
  let stop := if s.heState h == heStopping then some rsSuccess else (s.helper h).stopStatus
  State.swapGo 14 ((((s.flushInbox h).dropRequests h).modHelper h (fun x => x.idled stop)).setFld (HE_STAT.STATE h) heStopped)

/-- The helper side of a fault (R153): halt at once, inbox returned DOWN, HE_FAULT set, recorded under 0x0401. A stop request that waited or
was under way completes with Already down (R156). A helper that is not Running or Stopping does not fault. -/
def State.heFault (s : State) (h cause space addr : Nat) : State :=
  let x := s.helper h
  let stop := if x.stopReq || s.heState h == heStopping then some rsAlreadyDown else x.stopStatus
  let s1 := ((s.flushInbox h).dropRequests h).modHelper h (fun x => x.idled stop)
  let s2 := ((s1.setFld (HE_STAT.STATE h) heFaulted).setFld (HE_FAULT.CAUSE h) cause).setFld (HE_FAULT.SPACE h) space
  State.swapGo 14 ((s2.setFld (HE_FAULT.ADDR h) addr).record 0x0401
    (leBytes 1 h ++ leBytes 1 cause ++ leBytes 1 space ++ leBytes 1 (s2.role h) ++ leBytes 2 addr ++ zeros 2))

def State.heActive (s : State) (h : Nat) : Bool := s.heState h == heRunning || s.heState h == heStopping

/-! ### Bundles (R172, R173) -/

def ptGen (b : List Byte) : Nat := leAt b 8 4
def ptTarget (b : List Byte) : Nat := leAt b 0x0C 1
def ptNrec (b : List Byte) : Nat := leAt b 0x0D 1
def ptLen (b : List Byte) : Nat := leAt b 0x10 4
def align16 (n : Nat) : Nat := (n + 15) / 16 * 16

/-- Where the record after the one at `off` starts. -/
def ptNext (b : List Byte) (off : Nat) : Nat :=
  let code := align16 (off + 16 + 4 * leAt b (off + 2) 2)
  let len := if leAt b off 1 = 1 then leAt b (off + 4) 4 else 16 * leAt b (off + 4) 4
  align16 (code + len)

/-- The byte offsets of the records, in order, and where the last one ends. -/
def ptRecs (b : List Byte) : Nat → Nat → List Nat × Nat
  | 0, off => ([], off)
  | n + 1, off =>
    let r := ptRecs b n (ptNext b off)
    (off :: r.1, r.2)

def ptRecords (b : List Byte) : List Nat := (ptRecs b (ptNrec b) 0x40).1

/-- The records end where the signature section begins. -/
def ptEndsOk (b : List Byte) : Bool := (ptRecs b (ptNrec b) 0x40).2 + 384 == b.length

/-- The record for a helper role (KIND 2) or the steward (KIND 1, role 0). -/
def ptRecord (b : List Byte) (kind role : Nat) : Option Nat :=
  (ptRecords b).find? (fun o => leAt b o 1 == kind && leAt b (o + 1) 1 == role)

/-- A record's match table and code as a patch set. A helper entry's compared address is BANK x 8,192 + ROMADDR. -/
def ptSet (b : List Byte) (off : Nat) : PatchSet :=
  let kind := leAt b off 1
  let nm := leAt b (off + 2) 2
  let nc := leAt b (off + 4) 4
  let code := align16 (off + 16 + 4 * nm)
  let m := (List.range nm).map (fun k =>
    let e := leAt b (off + 16 + 4 * k) 4
    if kind = 1 then (e % 0x8000, e / 0x8000 % 0x800) else (e / 1024 % 0x20000, e % 512))
  if kind = 1 then ⟨ptGen b, m, [], (nc + 15) / 16⟩
  else ⟨ptGen b, m, (List.range nc).map (fun k => (k, BitVec.ofNat 128 (leAt b (code + 16 * k) 16))), nc⟩

/-- The patch set bundle `b` gives a helper of `role`: its record, or none, in which case it runs unpatched (R173). -/
def ptFor (b : List Byte) (role : Nat) : PatchSet :=
  match ptRecord b 2 role with
  | some o => ptSet b o
  | none => PatchSet.none

/-- The steward's code of a bundle as stored words of patch RAM, in the half not active (R139). -/
def State.stageSteward (s : State) (b : List Byte) : State :=
  match ptRecord b 1 0 with
  | none => s.modSteward (fun x => { x with shadow := some { PatchSet.none with gen := ptGen b } })
  | some o =>
    let code := align16 (o + 16 + 4 * leAt b (o + 2) 2)
    let base := 4096 * (1 - s.fld ST_PATCHSTAT.HALF)
    let s1 := s.each (List.range ((leAt b (o + 4) 4 + 7) / 8)) (fun t k => t.putWord .pram (base + k) (encodeWord (leAt b (code + 8 * k) 8)))
    s1.modSteward (fun x => { x with shadow := some (ptSet b o) })

/-- Every record staged into the inactive halves and shadow match sets (R175). Faulted helpers keep their patch state
(R177). -/
def State.stageBundle (s : State) (b : List Byte) : State :=
  (s.each helpers24 (fun t h =>
    if t.heState h == heFaulted then t
    else t.modHelper h (fun x => { x with shadow := some (ptFor b (t.role h)) }))).stageSteward b

end Sys2Proof.Machine
end

