-- ==== Sys2Proof/Machine/MediaGeom.lean ====
section
/-! DEFINITION. The layout of the media: bands and band sets (R437), physical frame numbers (R438), the cell stream of a
band set (R476 to R479), zone capacity (R455) and the parity arithmetic of a stripe (R474, R475). -/
namespace Sys2Proof.Machine

/-! ### Bands -/

/-- The shingled zones of a surface, ascending (R437). -/
def State.shingled (s : State) (surf : Nat) : List Nat := (List.range (s.nzones surf)).filter (fun z => s.zn surf z 14 1 == 1)

/-- Bands of zone `z`. -/
def State.zoneBands (s : State) (surf z : Nat) : Nat := s.zn surf z 4 4 / s.zn surf z 12 2

/-- Band `k` of a surface among the zones listed: zone and first track. -/
def State.bandIn (s : State) (surf : Nat) : List Nat → Nat → Option (Nat × Nat)
  | [], _ => none
  | z :: zs, k =>
    if k < s.zoneBands surf z then some (z, s.zn surf z 0 4 + k * s.zn surf z 12 2)
    else s.bandIn surf zs (k - s.zoneBands surf z)

/-- Band `k` of a surface: its zone and first track (R437). -/
def State.band (s : State) (surf k : Nat) : Option (Nat × Nat) := s.bandIn surf (s.shingled surf) k

/-- Bands of a surface. -/
def State.nbands (s : State) (surf : Nat) : Nat := (s.shingled surf).foldl (fun n z => n + s.zoneBands surf z) 0

/-- Band sets of the drive. -/
def State.nBandSets (s : State) : Nat := s.surfaces.foldl (fun n t => Nat.max n (s.nbands t)) 0

/-- The frames of one band of band set `k` on a surface: tracks times FRAMES. -/
def State.bandFrames (s : State) (surf k : Nat) : Nat :=
  match s.band surf k with
  | some (z, _) => s.zn surf z 12 2 * s.zn surf z 8 2
  | none => 0

/-- The band of a surface that holds `track`. -/
def State.bandOfTrack (s : State) (surf track : Nat) : Option Nat :=
  (List.range (s.nbands surf)).find? (fun k => match s.band surf k with
    | some (z, f) => f ≤ track && track < f + s.zn surf z 12 2
    | none => false)

/-! ### Frame numbers -/

/-- A frame position. -/
structure FramePos where
  surf : Nat
  track : Nat
  frame : Nat
  deriving DecidableEq, Repr

/-- Within one surface: the zones listed, then the track and frame of the `p`th frame position. -/
def State.posIn (s : State) (surf : Nat) : List Nat → Nat → FramePos
  | [], _ => ⟨surf, 0, 0⟩
  | z :: zs, p =>
    let fr := s.zn surf z 8 2
    if p < s.zn surf z 4 4 * fr then ⟨surf, s.zn surf z 0 4 + p / fr, p % fr⟩ else s.posIn surf zs (p - s.zn surf z 4 4 * fr)

def State.posOn (s : State) : List Nat → Nat → FramePos
  | [], _ => ⟨0, 0, 0⟩
  | t :: ts, p => if p < s.surfFrames t then s.posIn t (List.range (s.nzones t)) p else s.posOn ts (p - s.surfFrames t)

/-- The position a PFN numbers (R438). -/
def State.pos (s : State) (p : Nat) : FramePos := s.posOn s.surfaces p

/-- The band set that holds a PFN; none for zone 0. -/
def State.setOfPfn (s : State) (p : Nat) : Option Nat := s.bandOfTrack (s.pos p).surf (s.pos p).track

/-- Row `r` of band set `k` on a surface (R478): its position. -/
def State.rowPos (s : State) (surf k r : Nat) : FramePos :=
  match s.band surf k with
  | some (z, f) => ⟨surf, f + r / s.zn surf z 8 2, r % s.zn surf z 8 2⟩
  | none => ⟨surf, 0, 0⟩

/-- The PFN of a position. -/
def State.pfnOf (s : State) (p : FramePos) : Nat := s.pfn p.surf p.track p.frame

/-! ### Cells and stripes (R478) -/

/-- The spare columns of row `r` for `c` columns and `sp` spare cells a row. -/
def spareCols (c sp r : Nat) : List Nat := (List.range sp).map (fun j => (r + j * (c / sp)) % c)

/-- The column of the `i`th cell of row `r` that is not spare. -/
def rowColumn (c sp r i : Nat) : Nat := (((List.range c).filter (fun k => !(spareCols c sp r).contains k))[i]?).getD 0

/-- Row and column of stream cell `n`. -/
def BandSet.cell (b : BandSet) (n : Nat) : Nat × Nat :=
  let c := b.cols.length
  let per := c - b.spares
  (n / per, rowColumn c b.spares (n / per) (n % per))

/-- The PFN of stream cell `n` of band set `k`. -/
def State.cellPfn (s : State) (k : Nat) (b : BandSet) (n : Nat) : Nat :=
  let rc := b.cell n
  s.pfnOf (s.rowPos ((b.cols[rc.2]?).getD 0) k rc.1)

/-- The stream cell of row `r`, column `c`; none for a spare cell. -/
def BandSet.cellAt (b : BandSet) (r c : Nat) : Option Nat :=
  let per := b.cols.length - b.spares
  ((List.range per).find? (fun i => rowColumn b.cols.length b.spares r i == c)).map (fun i => r * per + i)

/-- Rows of band set `k`: frames of one band. -/
def State.rows (s : State) (k : Nat) (b : BandSet) : Nat := s.bandFrames ((b.cols[0]?).getD 0) k

/-- Whole stripes of band set `k`. -/
def State.nStripes (s : State) (k : Nat) (b : BandSet) : Nat :=
  if b.width = 0 then 0 else s.rows k b * (b.cols.length - b.spares) / b.width

/-- The stripe and member of a PFN (R478). -/
def State.stripeOf (s : State) (p : Nat) : Option (Nat × Nat × Nat) :=
  match s.setOfPfn p with
  | none => none
  | some k =>
    let b := SMap.get (fun _ => BandSet.empty) s.map.bandsets k
    let q := s.pos p
    match s.band q.surf k, (List.range b.cols.length).find? (fun c => (b.cols[c]?) == some q.surf) with
    | some (z, f), some c =>
      match b.cellAt ((q.track - f) * s.zn q.surf z 8 2 + q.frame) c with
      | some n => if b.width = 0 then none else some (k, n / b.width, n % b.width)
      | none => none
    | _, _ => none

/-- The PFNs of the members of stripe `st` of band set `k`, in member order. -/
def State.memberPfns (s : State) (k st : Nat) : List Nat :=
  let b := SMap.get (fun _ => BandSet.empty) s.map.bandsets k
  (List.range b.width).map (fun m => s.cellPfn k b (st * b.width + m))

/-! ### Zones of zoned namespaces -/

/-- ZCAP of band set `k` in blocks (R455). -/
def State.zcap (s : State) (k : Nat) : Nat :=
  let h := s.surfaces.length
  let f := s.surfaces.foldl (fun n t => n + s.bandFrames t k) 0
  let ld := s.redund 0
  4 * ld * (f * (h - s.redund 2) * (100 - s.policy 4 1) / (h * 100 * (ld + 2)))

/-- The smallest power of two not smaller than `n`. -/
def pow2Above : Nat → Nat → Nat → Nat
  | 0, p, _ => p
  | f + 1, p, n => if n ≤ p then p else pow2Above f (2 * p) n

def State.zoneSize (s : State) (n : Namespace) : Nat :=
  pow2Above 40 1 ((List.range n.nsets).foldl (fun m z => Nat.max m (s.zcap (n.firstSet + z))) 0)

/-- The blocks of zones before `z`. -/
def State.zoneBase (s : State) (n : Namespace) (z : Nat) : Nat :=
  (List.range z).foldl (fun m j => m + s.zcap (n.firstSet + j)) 0

/-- The zone and offset of block `o` of a zoned namespace's range. -/
def State.zoneAt (s : State) (n : Namespace) : Nat → Nat → Nat → Option (Nat × Nat)
  | 0, _, _ => none
  | f + 1, z, o =>
    if o < s.zcap (n.firstSet + z) then some (z, o) else s.zoneAt n f (z + 1) (o - s.zcap (n.firstSet + z))

/-! ### Parity (R474, R475) -/

/-- Every byte multiplied by `c` in GF(2^8). -/
def gfScale (c : Nat) (a : List Byte) : List Byte := a.map (fun x => BitVec.ofNat 8 (gfMul c x.toNat))

/-- P over data members' bytes, `n` bytes each. -/
def parityP (n : Nat) (ds : List (List Byte)) : List Byte := ds.foldl xorBytes (List.replicate n 0)

/-- Q over data members numbered from `j`. -/
def parityQFrom (n : Nat) : Nat → List (List Byte) → List Byte
  | _, [] => List.replicate n 0
  | j, d :: ds => xorBytes (gfScale (gfPow j) d) (parityQFrom n (j + 1) ds)

def parityQ (n : Nat) (ds : List (List Byte)) : List Byte := parityQFrom n 0 ds

/-- The bytes of a frame's four slots, and back. -/
def frameBytes (slots : List (List Byte)) : List Byte := slots.flatMap (fun d => slice d 0 4096)
def frameSlots (b : List Byte) : List (List Byte) := (List.range 4).map (fun k => slice b (4096 * k) 4096)

/-- A stripe's member: its TAG's 8 bytes and its payload (R475 restores both alike). -/
def memberBytes (tag : Nat) (slots : List (List Byte)) : List Byte := leBytes 8 tag ++ frameBytes slots

/-- The bytes of lost members, from what survives: `data j` and the parities, none for a lost one (R475). `w` is LDATA
or LINTERIM, `len` the length. -/
def restoreData (len w : Nat) (data : Nat → Option (List Byte)) (p q : Option (List Byte)) : Option (List (List Byte)) :=
  let lost := (List.range w).filter (fun j => (data j).isNone)
  let zero : List Byte := List.replicate len 0
  let known := (List.range w).map (fun j => (data j).getD zero)
  match lost, p, q with
  | [], _, _ => some known
  | [x], some pp, _ => some (known.set x (xorBytes pp (parityP len known)))
  | [x], none, some qq =>
    some (known.set x (gfScale (gfInv (gfPow x)) (xorBytes qq (parityQ len known))))
  | [x, y], some pp, some qq =>
    let pxy := xorBytes pp (parityP len known)
    let qxy := xorBytes qq (parityQ len known)
    let a := gfPow (y - x)
    let dx := gfScale (gfInv (Nat.xor a 1)) (xorBytes (gfScale a pxy) (gfScale (gfInv (gfPow x)) qxy))
    some ((known.set x dx).set y (xorBytes pxy dx))
  | _, _, _ => none

end Sys2Proof.Machine
end

