-- ==== Sys2Proof/Machine/MapOps.lean ====
section
/-! DEFINITION. The page map and the write journal (R441 to R466): entries, namespaces and zones, ring pages, record
lines, retirement. -/
namespace Sys2Proof.Machine

/-! ### Entries (R442) -/

/-- Blocks per map entry: 1 or 2 (R188, R442). -/
def State.gran (s : State) : Nat := if s.bit MP_STAT.GRAN then 2 else 1

/-- The map index of global block `g`. -/
def State.mapIndex (s : State) (g : Nat) : Nat := g / s.gran

def State.bandSet (s : State) (k : Nat) : BandSet := SMap.get (fun _ => BandSet.empty) s.map.bandsets k

def State.modBandSet (s : State) (k : Nat) (f : BandSet → BandSet) : State :=
  s.modMap (fun m => { m with bandsets := SMap.modify (fun _ => BandSet.empty) m.bandsets k f })

/-- Count the blocks of an entry in or out of its band set's valid count (R451). -/
def State.countValid (s : State) (e : MapEntry) (up : Bool) : State :=
  match e with
  | .media p _ =>
    s.onSome (s.setOfPfn p) (fun t k => t.modBandSet k (fun b => { b with valid := if up then b.valid + t.gran else b.valid - t.gran }))
  | _ => s

/-- The words of line `la`, those of region 1 as the map has them. -/
def State.freshLine (s : State) (la : Nat) (ws : List Code80) : List Code80 :=
  ws.zipIdx.map (fun x => (s.mapWord (16 * la + x.2)).getD x.1)

/-- The map walker has changed entry `i`: its 5 bytes read so in HBM and wherever the map cache holds their line (R187, R442). A store of
anything else into region 1 does not reach the map (UNVERIFIED, assumption 84). -/
def State.mapStored (s : State) (i : Nat) : State :=
  if !s.map.filled then s
  else
    let w := 0x20000 * s.fld (HM_RGNBASE.BASE 1) + 5 * i / 8
    let s1 := s.modMem (fun x => { x with hbm := SMap.erase (SMap.erase x.hbm w) (w + 1) })
    let hit := fun (la : Nat) => la == w / 16 || la == (w + 1) / 16
    s1.modCache (fun c => { c with
      lines := c.lines.map (fun p => (p.1, p.2.map (fun l => if hit l.la then { l with words := s1.freshLine l.la l.words } else l)))
      side := c.side.map (fun l => if hit l.la then { l with words := s1.freshLine l.la l.words } else l)
      evb := c.evb.map (fun (l : EvEntry) => if hit l.la then { l with words := s1.freshLine l.la l.words } else l)
      fills := c.fills.map (fun f => if hit f.la then { f with words := f.words.map (s1.freshLine f.la) } else f) })

/-- Entry `i` takes `e`. -/
def State.setEntry (s : State) (i : Nat) (e : MapEntry) : State :=
  let s1 := (s.countValid (s.entry i) false).countValid e true
  (s1.modMap (fun m => { m with map := SMap.set (fun _ => MapEntry.unmapped) m.map i e })).mapStored i

/-! ### Namespaces and zones (R441, R455, R456) -/

/-- The namespaces, by NSID. -/
def State.nsList (s : State) : List (Nat × Namespace) :=
  s.nvme.namespaces.filterMap (fun x => x.2.map (fun n => (x.1, n)))

/-- The namespace whose range holds global block `g`. -/
def State.nsOfBlock (s : State) (g : Nat) : Option (Nat × Namespace) :=
  s.nsList.find? (fun x => x.2.base ≤ g && g < x.2.base + x.2.size)

def zoneKey (nsid z : Nat) : Nat := nsid * 2 ^ 20 + z

/-- A zone that no record names is Empty, its write pointer at 0 (NVMe zone state code 1). -/
def Zone.empty : Zone := ⟨1, 0⟩

def State.zone (s : State) (nsid z : Nat) : Zone := SMap.get (fun _ => Zone.empty) s.map.zones (zoneKey nsid z)

def State.setZone (s : State) (nsid z : Nat) (v : Zone) : State :=
  s.modMap (fun m => { m with zones := SMap.set (fun _ => Zone.empty) m.zones (zoneKey nsid z) v })

/-- NVMe zone state codes. -/
def zsEmpty : Nat := 1
def zsImplicit : Nat := 2
def zsExplicit : Nat := 3
def zsClosed : Nat := 4
def zsFull : Nat := 0xE

/-- Active and open zones of a namespace (R456: 16 of each at most). -/
def State.zoneCount (s : State) (nsid : Nat) (p : Nat → Bool) : Nat :=
  (s.map.zones.filter (fun x => x.1 / 2 ^ 20 == nsid && p x.2.zstate)).length

def zoneActive (z : Nat) : Bool := z == zsImplicit || z == zsExplicit || z == zsClosed
def zoneOpenSt (z : Nat) : Bool := z == zsImplicit || z == zsExplicit

/-- The band sets a namespace or zone owns: none of a zoned namespace is drive-managed. -/
def State.setOwner (s : State) (k : Nat) : Nat :=
  ((s.nsList.find? (fun x => x.2.zoned && x.2.firstSet ≤ k && k < x.2.firstSet + x.2.nsets)).map (fun x => x.1)).getD 0

/-- The drive-managed band sets. -/
def State.driveSets (s : State) : List Nat := (List.range s.nBandSets).filter (fun k => s.setOwner k == 0)

/-- f of R452 in units of 0.1 % (MP_FREE). -/
def State.freeSets (s : State) : Nat :=
  let d := s.driveSets
  if d.length = 0 then 0 else (d.filter (fun k => (s.bandSet k).st == .empty)).length * 1000 / d.length

def State.freeSync (s : State) : State := s.setFld MP_FREE.FREE s.freeSets

/-! ### Ring pages (R459) -/

def ringPages : Nat := 253952
def sectorPages : Nat := 3968

/-- MRAM address of ring page `p`. -/
def pageAddr (p : Nat) : Nat := p % 4 * 0x10000000 + p / 4 * 4096

/-- The data page that follows `p`, skipping the record page that begins a sector. -/
def dataNext (p : Nat) : Nat :=
  let q := (p + 1) % ringPages
  if q % sectorPages = 0 then q + 1 else q

/-- The data pages of a group from PAGE. -/
def dataPages : Nat → Nat → List Nat
  | 0, _ => []
  | n + 1, p => p :: dataPages n (dataNext p)

/-- The 4 KiB of a ring page as read from MRAM. -/
def State.pageData (s : State) (p : Nat) : ReadBytes := s.peek .mram (pageAddr p) 4096

/-- The pages of the map unit whose entry names ring page `p`. -/
def State.unitPages (s : State) (p : Nat) : List Nat := if s.gran = 2 then [p, dataNext p] else [p]

/-- The reports of a mover's read of ring pages (R205). -/
def State.notePages (s : State) (ps : List Nat) : State := s.each ps (fun t p => t.noteRead .mram (pageAddr p) 4096 reqMover)

/-- MJ_WEAR and its records (R194, R195): each pass of a ring writes every line of its region once, the page headers of the sector-first
pages and the slots of the position record among them: lines written over the lines of a ring, in units of 0.01 % of 10^10 writes. -/
def State.wearMark (s : State) (bit ring level est : Nat) : State :=
  if natBit s.mem.wearMarks bit || decide (est < level * 100) then s
  else (s.modMem (fun m => { m with wearMarks := m.wearMarks + 2 ^ bit })).record 0x0703 (leBytes 1 ring ++ leBytes 1 level ++ zeros 2)

def State.wearSync (s : State) : State :=
  let j := s.mem.jWrites / 16252928 / 1000000
  let t := s.mem.sWrites / 131072 / 1000000
  let s1 := (s.setFld MJ_WEAR.JOURNAL (Nat.min 0xFFFF j)).setFld MJ_WEAR.STRIPE (Nat.min 0xFFFF t)
  (((s1.wearMark 0 0 50 j).wearMark 1 0 90 j).wearMark 2 1 50 t).wearMark 3 1 90 t

/-- `n` lines have been written to the journal ring, or to a copy of the stripe-journal ring. -/
def State.wearJ (s : State) (n : Nat) : State := (s.modMem (fun m => { m with jWrites := m.jWrites + n })).wearSync
def State.wearS (s : State) (n : Nat) : State := (s.modMem (fun m => { m with sWrites := m.sWrites + n })).wearSync

/-- Store bytes in MRAM, every word whole. -/
def State.putMram (s : State) (addr : Nat) (data : List Byte) : State := s.store .mram addr data

/-- Free pages: those before the HEAD of the newest durable page header (R463). -/
def State.freePages (s : State) : Nat := ringPages - (s.fld MP_JTAIL.PAGE + ringPages - s.map.durHead) % ringPages

/-- MP_JFREE and the flow control of R464: no new write commands below 8,192 free pages, again from 16,384. -/
def State.freeNote (s : State) : State :=
  let f := s.freePages
  let s1 := s.setFld MP_JFREE.FREE f
  if f < 8192 then s1.setBit MP_STAT.JFULL else if 16384 ≤ f then s1.clrBit MP_STAT.JFULL else s1

/-- Take `n` data pages: the first of them; the sector-first pages met become record pages. -/
def State.takeData (s : State) (n : Nat) : State × Nat :=
  let t := s.fld MP_JTAIL.PAGE
  let first := if t % sectorPages = 0 then t + 1 else t
  let ps := dataPages n first
  let last := (ps.getLast?).getD first
  let recs := ((if t % sectorPages = 0 then [t] else []) ++ (ps.zip (ps.drop 1)).filterMap (fun x => if dataNext x.1 == (x.1 + 1) % ringPages then none else some ((x.1 + 1) % ringPages)))
  let s1 := s.modMap (fun m => { m with recNext := m.recNext ++ recs })
  (s1.setFld MP_JTAIL.PAGE ((last + 1) % ringPages), first)

/-- Data pages may be taken: the last 4,096 free pages are kept for record pages (R464). -/
def State.dataRoom (s : State) (n : Nat) : Bool := n + 1 + 4096 ≤ s.freePages

/-! ### Record lines (R460) -/

/-- The bytes of a map-delta run: INDEX, ENTRY, COUNT. -/
def runBytes (r : Nat × MapEntry × Nat) : List Byte := leBytes 5 r.1 ++ leBytes 5 r.2.1.code ++ leBytes 2 r.2.2

/-- TYPE and BODY of a record. -/
def JBody.encode : JBody → Nat × List Byte
  | .pageHeader p n h => (0x01, leBytes 4 p ++ leBytes 4 n ++ leBytes 4 h)
  | .writeGroup g n ns p z => (0x02, leBytes 8 g ++ leBytes 2 n ++ leBytes 2 ns ++ leBytes 4 p ++ leBytes 4 z)
  | .mapDelta runs => (0x03, runs.flatMap runBytes)
  | .dealloc g n k => (0x04, leBytes 8 g ++ leBytes 8 n ++ leBytes 1 k)
  | .segment k q => (0x05, leBytes 4 k ++ zeros 4 ++ leBytes 8 q)
  | .band sf st ow b c => (0x06, leBytes 1 sf ++ leBytes 1 st ++ leBytes 2 ow ++ leBytes 4 b ++ leBytes 4 c)
  | .zone ns zs z wp => (0x07, leBytes 2 ns ++ leBytes 1 zs ++ zeros 1 ++ leBytes 4 z ++ leBytes 4 wp)
  | .root g sl q => (0x08, leBytes 4 g ++ leBytes 1 sl ++ zeros 3 ++ leBytes 8 q)

/-- A 64-byte line: TYPE, CRC over bytes 8 to 63, SEQ, BODY (R460, R487). -/
def lineBytes (type seq : Nat) (body : List Byte) : List Byte :=
  let tail := leBytes 8 seq ++ slice body 0 48
  leBytes 1 type ++ zeros 3 ++ leBytes 4 (crc32c tail) ++ tail

/-- Queue a record line. -/
def State.jline (s : State) (l : JLine) : State := s.modMap (fun m => { m with issue := m.issue ++ [l] })

def State.jq (s : State) (b : JBody) : State := s.jline ⟨b, [], none, false, 0⟩

/-- Queue a map delta: its runs are formed when it is applied (R453). -/
def State.jdelta (s : State) (ms : List Move) : State := s.jline ⟨.mapDelta [], ms, none, false, 0⟩

/-- A band record for every column of band set `k` (R449). -/
def State.bandRecords (s : State) (k st : Nat) : State :=
  let b := s.bandSet k
  s.each b.cols (fun t sf => t.jq (.band sf (if b.offline.contains sf then 4 else st) b.owner k (b.cursor / Nat.max 1 (b.cols.length - b.spares))))

/-! ### Applying records -/

/-- Map units that `n` blocks from `g` touch. -/
def State.unitsOf (s : State) (g n : Nat) : Nat := if n = 0 then 0 else s.mapIndex (g + n - 1) - s.mapIndex g + 1

/-- The entry index and the first ring page of each unit of a write group. A group that covers one block of a unit holds the whole
unit (R445). -/
def State.groupUnits (s : State) (g n page : Nat) : List (Nat × Nat) :=
  let ps := dataPages (s.unitsOf g n * s.gran) page
  (List.range (s.unitsOf g n)).map (fun u => (s.mapIndex g + u, (ps[u * s.gran]?).getD 0))

/-- Blocks that wait for placement, in ascending order (R448). -/
def State.addPend (s : State) (i : Nat) : State :=
  s.modMap (fun m => { m with pend := m.pend.filter (· < i) ++ [i] ++ m.pend.filter (i < ·) })

/-- The runs of consecutive entries that moves make (R460: u = 1 at 4 KiB, 2 at 8 KiB). -/
def entryPlus (e : MapEntry) (k : Nat) : MapEntry :=
  match e with
  | .media p sl => .media (p + (sl + k) / 4) ((sl + k) % 4)
  | e => e

def addRun (u : Nat) (runs : List (Nat × MapEntry × Nat)) (m : Move) : List (Nat × MapEntry × Nat) :=
  match runs.getLast? with
  | some (i, e, n) => if i + n == m.index && entryPlus e (n * u) == m.new then runs.dropLast ++ [(i, e, n + 1)] else runs ++ [(m.index, m.new, 1)]
  | none => [(m.index, m.new, 1)]

/-- The moves whose entry still holds the old value: only those are applied and journaled (R453). -/
def State.liveMoves (s : State) (ms : List Move) : List Move := ms.filter (fun m => s.entry m.index == m.old)

/-- The bands a band record names: the set takes the record's state and owner, the surface becomes a column of it or, at
Empty, ceases to be one. -/
def State.applyBand (s : State) (sf st ow k : Nat) : State :=
  let cur := s.bandSet k
  let cols := if st = 0 then cur.cols.filter (· != sf) else if cur.cols.contains sf then cur.cols else (List.range 32).filter (fun x => x == sf || cur.cols.contains x)
  if cols = [] then s.modBandSet k (fun _ => BandSet.empty)
  else
    let full := (cols.any (· < 16)) && (cols.any (16 ≤ ·))
    let away := (s.surfaces.filter (fun t => s.bandFrames t k != 0)).length - cols.length
    s.modBandSet k (fun b =>
      { b with
        cols := cols
        owner := ow
        st := if st = 1 then .open else if st = 2 then .full else if st = 3 then .cleaning else b.st
        offline := if st = 4 && !b.offline.contains sf then sf :: b.offline else b.offline
        width := if full then s.redund 0 + 2 else s.redund 1 + 2
        spares := if full then s.redund 2 - away else 0
        use := if ow = 0 then b.use else 2 })

/-- A record's effect on the map and its tables, the same when it is written and when it is replayed (R461, R469). -/
def State.applyBody (s : State) (b : JBody) : State :=
  match b with
  | .pageHeader _ _ _ => s
  | .writeGroup g n ns p z =>
    let s1 := s.each (s.groupUnits g n p) (fun t x => (t.setEntry x.1 (.journal x.2)).addPend x.1)
    if z = 0xFFFFFFFF then s1
    else match s1.namespace? ns with
      | none => s1
      | some x =>
        let o := g + n - (x.base + s1.zoneBase x z)
        if (s1.zone ns z).wp < o then
          s1.setZone ns z { s1.zone ns z with wp := o, zstate := if o = s1.zcap (x.firstSet + z) then 0xE else (s1.zone ns z).zstate }
        else s1
  | .mapDelta runs => s.each runs (fun t r => t.each (List.range r.2.2) (fun v k => v.setEntry (r.1 + k) (entryPlus r.2.1 (k * s.gran))))
  | .dealloc g n k =>
    s.each (List.range (n / s.gran)) (fun t u => t.setEntry (s.mapIndex g + u) (if k = 1 then .bad else .unmapped))
  | .segment k q => s.modMap (fun m => { m with segs := SMap.modify (fun _ => Segment.empty) m.segs k (fun x => { x with segseq := q }) })
  | .band sf st ow k _ => s.applyBand sf st ow k
  | .zone ns zs z wp => s.setZone ns z ⟨zs, wp⟩
  | .root g _ _ => s.setFld MP_ROOTGEN.GEN g

/-! ### Retirement (R463) -/

/-- Entries per checkpoint segment (R465). -/
def segEntries : Nat := 3276800

/-- Segments of the map. -/
def State.nseg (s : State) : Nat :=
  ((s.fld MP_NENT_HI.N * 2 ^ 32 + s.fld MP_NENT_LO.N) + segEntries - 1) / segEntries

def State.seg (s : State) (k : Nat) : Segment := SMap.get (fun _ => Segment.empty) s.map.segs k

def State.modSeg (s : State) (k : Nat) (f : Segment → Segment) : State :=
  s.modMap (fun m => { m with segs := SMap.modify (fun _ => Segment.empty) m.segs k f })

/-- ROOTSEQ of the newest durable root. -/
def State.rootSeq (s : State) : Nat :=
  match SMap.get (fun _ => none) s.map.roots (s.fld MP_ROOTGEN.GEN % 2) with
  | some r => if r.gen = s.fld MP_ROOTGEN.GEN then r.seq else 0
  | none => 0

/-- The segments with an entry that a record changes. -/
def State.recSegs (s : State) (b : JBody) : List Nat :=
  match b with
  | .mapDelta runs => runs.flatMap (fun r => [r.1 / segEntries, (r.1 + r.2.2 - 1) / segEntries])
  | .dealloc g n _ => if n = 0 then [] else List.range' (s.mapIndex g / segEntries) (s.mapIndex (g + n - 1) / segEntries - s.mapIndex g / segEntries + 1)
  | .writeGroup g n _ _ _ => if n = 0 then [] else [s.mapIndex g / segEntries, s.mapIndex (g + n - 1) / segEntries]
  | _ => []

/-- The record is still needed. -/
def State.recLive (s : State) (r : JRec) : Bool :=
  match r.body with
  | .pageHeader _ _ _ => false
  | .writeGroup g n _ p _ => (s.groupUnits g n p).any (fun x => s.entry x.1 == .journal x.2)
  | .mapDelta _ | .dealloc _ _ _ => (s.recSegs r.body).any (fun k => decide ((s.seg k).segseq < r.seq))
  | _ => decide (s.rootSeq < r.seq)

/-- The segments holding an unretired delta. -/
def State.dirtySegs (s : State) : List Nat :=
  (s.map.journal.flatMap (fun r => match r.body with
    | .mapDelta _ | .dealloc _ _ _ => (s.recSegs r.body).filter (fun k => decide ((s.seg k).segseq < r.seq))
    | _ => [])).eraseDups

/-- Retire records; HEAD is the oldest record page that still holds a live line. -/
def State.retire (s : State) : State :=
  let live := s.map.journal.filter s.recLive
  let head := match live with
    | r :: _ => r.page
    | [] => s.map.recPage
  let s1 := (s.modMap (fun m => { m with journal := live })).setFld MP_JHEAD.PAGE head
  (s1.setFld MP_CKPT.DIRTY s1.dirtySegs.length).freeNote

/-! ### Writing a line (R459, R461, R462) -/

/-- A record of something that a root would show anew (R468). -/
def JBody.changes (b : JBody) : Bool :=
  match b with
  | .pageHeader _ _ _ => false
  | .root _ _ _ => false
  | _ => true

/-- Write one line at the next place of the record page in use, with the next SEQ. MP_JSEQ_HI changes only when LO is read. -/
def State.putLine (s : State) (b : JBody) : State :=
  let q := s.map.jseq + 1
  let e := b.encode
  let s1 := (s.putMram (pageAddr s.map.recPage + 64 * s.map.recLine) (lineBytes e.1 q e.2)).wearJ 1
  let s2 := s1.modMap (fun m => { m with jseq := q, recLine := m.recLine + 1, journal := m.journal ++ [⟨q, b, m.recPage, s.tick⟩], rootDirty := m.rootDirty || b.changes })
  s2.setFld MP_JSEQ_LO.SEQ q

/-- Open the next record page of the chain: its successor is allocated, and its header becomes the newest durable one. -/
def State.openRecPage (s : State) : State :=
  let s0 := if s.map.recLine = 0 then s
    else s.modMap (fun m => { m with recPage := m.recNext.headD m.recPage, recNext := m.recNext.drop 1, recLine := 0 })
  let s1 := if s0.map.recNext = [] then
      (s0.modMap (fun m => { m with recNext := [s0.fld MP_JTAIL.PAGE] })).setFld MP_JTAIL.PAGE ((s0.fld MP_JTAIL.PAGE + 1) % ringPages)
    else s0
  let s2 := s1.putLine (.pageHeader s1.map.recPage (s1.map.recNext.headD 0) (s1.fld MP_JHEAD.PAGE))
  (s2.modMap (fun m => { m with durHead := s2.fld MP_JHEAD.PAGE })).freeNote

/-- The line at the front of the queue is written next into a page that still has to be opened. -/
def State.needsPage (s : State) : Bool := s.map.recLine = 0 || s.map.recLine ≥ 64

/-- The effect of a record when it is written. The tables of band sets and zones already stand as a band or zone record says, but for
a zone that becomes Empty; a segment's image is over with its record. -/
def State.liveBody (s : State) (b : JBody) : State :=
  match b with
  | .band _ _ _ _ _ => s
  | .zone ns zs z wp => if zs = zsEmpty then s.setZone ns z ⟨zs, wp⟩ else s
  | .segment k q => s.modMap (fun m => { m with segs := SMap.modify (fun _ => Segment.empty) m.segs k (fun x => { x with segseq := q, phase := 0, staged := [] }) })
  | b => s.applyBody b

/-- A zone record carries the write pointer as it stands when the record is written, unless it sets it. -/
def State.lineBody (s : State) (b : JBody) : JBody :=
  match b with
  | .zone ns zs z wp => if zs = zsEmpty ∨ zs = zsFull then .zone ns zs z wp else .zone ns zs z (s.zone ns z).wp
  | b => b

/-- The line at the front of the queue is complete: SEQ and the map in one step (R461), retirement, and the line it
was. A delta whose every entry has moved on writes no line. -/
def State.lineDone (s : State) (l : JLine) (rest : List JLine) : State :=
  let s1 := s.modMap (fun m => { m with issue := rest })
  match l.body with
  | .mapDelta _ =>
    let ms := s1.liveMoves l.moves
    if ms = [] then s1
    else
      let b := JBody.mapDelta ((ms.foldl (addRun s1.gran) []).take 4)
      ((s1.putLine b).applyBody b).retire
  | b => ((s1.putLine (s1.lineBody b)).liveBody (s1.lineBody b)).retire

/-! ### Blocks for placement -/

/-- A global block of a batch and where it goes: a zone's band set (NSID, zone), or drive-managed. -/
def State.blockOwner (s : State) (g : Nat) : Option (Nat × Nat) :=
  match s.nsOfBlock g with
  | some (id, n) => if n.zoned then (s.zoneAt n 4096 0 (g - n.base)).map (fun x => (id, x.1)) else none
  | none => none

end Sys2Proof.Machine
end

