-- ==== Sys2Proof/Machine/TierOps.lean ====
section
/-! DEFINITION. Surface redundancy (R473 to R500): band-set openings, stripes in flight, the stripe journal, relocation
extents, lost members and their restoration. -/
namespace Sys2Proof.Machine

/-! ### Surfaces -/

def State.surfFailed (s : State) (sf : Nat) : Bool := s.fldBit PX_FAILED.SURF sf
def State.surfWdis (s : State) (sf : Nat) : Bool := s.fldBit PX_WDIS.SURF sf

/-- The actuator of a surface. -/
def surfAct (sf : Nat) : Act := if sf < 16 then .A else .B

def State.bothServing (s : State) : Bool := s.isServing .DA && s.isServing .DB

/-- F of R478: surfaces failed or write-disabled. -/
def State.badSurfs (s : State) : Nat := (s.surfaces.filter (fun t => s.surfFailed t || s.surfWdis t)).length

/-- PX_STAT.F, SPARES and SPAREOUT (R478, R495). -/
def State.pxSync (s : State) : State :=
  let f := s.badSurfs
  let s1 := (s.setFld PX_STAT.F f).setFld PX_STAT.SPARES (s.redund 2 - f)
  s1.setFld PX_STAT.SPAREOUT (if s.surfaces != [] && s.redund 2 ≤ f then 1 else 0)

/-! ### Opening band sets (R446, R477 to R479) -/

/-- Every frame of band `k` of a surface has a PFN that the device uses (R438). -/
def State.pfnFits (s : State) (t k : Nat) : Bool := decide (s.pfnOf (s.rowPos t k (s.bandFrames t k - 1)) < 2 ^ 35)

/-- The columns a band set opened now would have. -/
def State.columnsNow (s : State) (k : Nat) : List Nat :=
  s.surfaces.filter (fun t => !s.surfFailed t && !s.surfWdis t && s.bandFrames t k != 0 && s.pfnFits t k &&
    (s.bothServing || s.isServing (domOfAct (surfAct t))))

/-- Spare cells a row, and stripe width, of a band set opened now (R478). -/
def State.sparesNow (s : State) : Nat := if s.bothServing then s.redund 2 - s.badSurfs else 0
def State.widthNow (s : State) : Nat := if s.bothServing then s.redund 0 + 2 else s.redund 1 + 2

/-- R479: enough columns for a stripe. -/
def State.canOpen (s : State) (k : Nat) : Bool := s.widthNow + 2 * s.sparesNow ≤ (s.columnsNow k).length

/-- Open band set `k`. -/
def State.openSet (s : State) (k owner use : Nat) : State :=
  let s := s.clrBit PX_STAT.NOWRITE
  let b : BandSet := { BandSet.empty with st := .open, owner := owner, use := use, cols := s.columnsNow k, spares := s.sparesNow, width := s.widthNow }
  ((s.modBandSet k (fun _ => b)).bandRecords k 1).freeSync

/-- An open band set that takes frames now: its stripes lie on serving actuators, and it is a full set exactly while
both serve (R37, R477). -/
def State.setUsable (s : State) (b : BandSet) : Bool :=
  b.st == .open && b.cols.all (fun t => s.isServing (domOfAct (surfAct t))) &&
  (!s.bothServing || (b.cols.any (· < 16) && b.cols.any (16 ≤ ·)))

/-- No band set was open or could be opened: NOWRITE where an Empty one has too few columns (R479). -/
def State.noteNoSet (s : State) : State :=
  match s.driveSets.find? (fun k => (s.bandSet k).st == .empty) with
  | some k => if s.canOpen k then s.clrBit PX_STAT.NOWRITE else s.setBit PX_STAT.NOWRITE
  | none => s

/-- The band set a frame goes to: `zone` names a zone's band set, else drive-managed of `use`. It is opened where none
is open; none where no set can be opened. -/
def State.findSet (s : State) (owner use : Nat) (zone : Option Nat) : Option (State × Nat) :=
  match zone with
  | some k =>
    if s.setUsable (s.bandSet k) then some (s, k)
    else if (s.bandSet k).st == .empty && s.canOpen k then some (s.openSet k owner 2, k)
    else none
  | none =>
    match s.driveSets.find? (fun k => (s.bandSet k).use == use && s.setUsable (s.bandSet k)) with
    | some k => some (s, k)
    | none =>
      match s.driveSets.find? (fun k => (s.bandSet k).st == .empty) with
      | some k => if s.canOpen k then some (s.openSet k 0 use, k) else none
      | none => none

/-! ### The stripe journal (R486 to R490) -/

/-- The body of a contribution record (R522). -/
def Contrib.encode (c : Contrib) : List Byte :=
  leBytes 4 c.group ++ leBytes 4 c.row ++ leBytes 1 c.cell ++ leBytes 1 c.op ++ zeros 6 ++ leBytes 8 c.pfn

/-- TYPE and BODY (R487, R522). -/
def SjBody.encode : SjBody → Nat × List Byte
  | .surface sf st => (0x21, leBytes 1 sf ++ leBytes 1 st)
  | .cursor sf b st => (0x22, leBytes 1 sf ++ zeros 3 ++ leBytes 4 b ++ leBytes 4 st)
  | .extent e => (0x23, leBytes 1 e.surf ++ zeros 3 ++ leBytes 4 e.oldSet ++ leBytes 4 e.oldStripe ++ leBytes 4 e.count ++ leBytes 4 e.newSet ++ leBytes 4 e.newCell)
  | .open b st => (0x24, leBytes 4 b ++ leBytes 4 st)
  | .complete b st => (0x25, leBytes 4 b ++ leBytes 4 st)
  | .dead b st c => (0x26, leBytes 4 b ++ leBytes 4 st ++ leBytes 1 c)
  | .identity m g e d => (0x31, leBytes 2 m ++ leBytes 2 g ++ leBytes 4 e ++ slice d 0 32)
  | .contribOpen c => (0x32, c.encode)
  | .contribDone c => (0x33, c.encode)
  | .held c w st q => (0x34, leBytes 4 c.group ++ leBytes 4 c.row ++ leBytes 1 c.cell ++ leBytes 1 c.op ++ leBytes 2 w ++ leBytes 1 st ++ zeros 3 ++ leBytes 8 q)

/-- Whether record `b` supersedes record `o` (R489). -/
def SjBody.supersedes (b o : SjBody) : Bool :=
  match b, o with
  | .surface x _, .surface y _ => x == y
  | .cursor x _ _, .cursor y _ _ => x == y
  | .extent e, .extent f => e.surf == f.surf && e.oldSet == f.oldSet && e.oldStripe == f.oldStripe
  | .complete b1 s1, .open b2 s2 => b1 == b2 && s1 == s2
  | .dead b1 s1 _, .open b2 s2 => b1 == b2 && s1 == s2
  | .open b1 s1, .open b2 s2 => b1 == b2 && s1 == s2
  | .dead b1 s1 _, .dead b2 s2 _ => b1 == b2 && s1 == s2
  | .identity _ _ _ _, .identity _ _ _ _ => true
  | .contribOpen c, .contribOpen d => c == d
  | .contribDone c, .contribOpen d => c.same d
  | .held c w _ _, .held d v _ _ => c.same d && w == v
  | _, _ => false

/-- A record that stays live until another supersedes it (R489, R522). -/
def SjBody.live (b : SjBody) : Bool :=
  match b with
  | .complete _ _ => false
  | .contribDone _ => false
  | .held _ _ 2 _ => false
  | _ => true

/-- The live extents and dead-stripe records. -/
def State.extents (s : State) : List RelocExt :=
  s.tier.sj.filterMap (fun r => match r.body with
    | .extent e => some e
    | _ => none)

def State.deadStripes (s : State) : List (Nat × Nat) :=
  s.tier.sj.filterMap (fun r => match r.body with
    | .dead b st _ => some (b, st)
    | _ => none)

/-- PX_SJ and PX_SJDEAD.LIVE. -/
def State.sjSync (s : State) : State :=
  ((s.setFld PX_SJ.EXTENTS s.extents.length).setFld PX_SJ.INFLIGHT s.tier.stripes.length).setFld PX_SJDEAD.LIVE s.deadStripes.length

/-- Queue a stripe-journal record. -/
def State.sjq (s : State) (b : SjBody) : State := s.modTier (fun t => { t with queue := t.queue ++ [b] })

/-- MRAM addresses of line `n` of copies 0 and 1 (R191). -/
def sjAddr (copy n : Nat) : Nat := 0x0F800000 + copy * 0x10000000 + 64 * n

def sjRingLines : Nat := 131072
def sjStep (n : Nat) : Nat := if n + 1 = sjRingLines then 64 else n + 1

/-- Write a line to both copies. -/
def State.sjPut (s : State) (n : Nat) (bytes : List Byte) : State :=
  (s.putMram (sjAddr 0 n) bytes).putMram (sjAddr 1 n) bytes

/-- HEAD advances past the oldest line; a record still live there is written forward first (R489). -/
def State.sjAdvance (s : State) : State :=
  let h := s.tier.head
  let live := ((s.tier.sj.filter (fun r => r.line == h)).map (fun r => r.body)).filter SjBody.live
  s.modTier (fun t => { t with head := sjStep h, queue := live ++ t.queue, sj := t.sj.filter (fun r => r.line != h || r.body.live) })

/-- The position record goes to the next of its 64 slots once for every 2,047 lines of the ring: in one pass of the 131,008 lines each
slot is written once, as each line is (R194; DEDUCED, assumption 108). -/
def State.sjPosition (s : State) : State :=
  let q := s.tier.seq + 1
  let s1 := s.modTier (fun t => { t with seq := q, posSlot := (t.posSlot + 1) % 64 })
  (s1.sjPut s.tier.posSlot (lineBytes 0x11 q (leBytes 4 s1.tier.head ++ leBytes 4 s1.tier.next))).wearS 1

/-- The record at the front of the queue is durable in both copies. -/
def State.sjWrite (s : State) (b : SjBody) (rest : List SjBody) : State :=
  let q := s.tier.seq + 1
  let n := s.tier.next
  let e := b.encode
  let s1 := (s.sjPut n (lineBytes e.1 q e.2)).wearS 1
  let s2 := s1.modTier (fun t => { t with
    queue := rest, seq := q, next := sjStep n
    sj := (t.sj.filter (fun r => !b.supersedes r.body)) ++ [⟨q, b, n⟩] })
  ((s2.when (s2.tier.next == s2.tier.head) State.sjAdvance).when ((s2.tier.next - 64) % 2047 == 0) State.sjPosition).sjSync

/-! ### Where a member lies (R491) -/

/-- The extent that covers the member of a stripe on a surface. -/
def State.extentOf (s : State) (p : Nat) : Option RelocExt :=
  match s.stripeOf p with
  | some (k, st, _) => s.extents.find? (fun e => e.surf == (s.pos p).surf && e.oldSet == k && e.oldStripe == st)
  | none => none

/-- The PFN at which a member is read. -/
def State.readPfn (s : State) (p : Nat) : Nat :=
  match s.extentOf p with
  | some e => s.cellPfn e.newSet (s.bandSet e.newSet) e.newCell
  | none => p

/-- The surfaces of `a` cannot be read: its domain is not Serving, or it is parked, loading or retracting, or has not been Following since
(R31, R39). -/
def State.actAway (s : State) (a : Act) : Bool :=
  let st := s.fld (SV_STAT.STATE (actNum a))
  !s.isServing (domOfAct a) || decide (st ≤ 1) || decide (7 ≤ st) || (s.sv a).away

/-- The member is lost (R491). -/
def State.isLost (s : State) (p : Nat) : Bool :=
  let q := s.readPfn p
  s.surfFailed (s.pos q).surf || s.tier.lost.contains q

/-- Its frame can be read now: not lost, on the media, its actuator able to read. -/
def State.frame? (s : State) (p : Nat) : Option Frame :=
  let q := s.readPfn p
  if s.isLost p || s.actAway (surfAct (s.pos q).surf) then none
  else SMap.get (fun _ => none) s.map.media q

/-! ### Restoration (R475, R492) -/

/-- The frame of bytes restored. -/
def frameOfBytes (kind seq : Nat) (b : List Byte) : Frame := ⟨kind, leNat (slice b 0 8), seq, frameSlots (b.drop 8)⟩

/-- All members of a stripe, restored where they cannot be read; none where more than two are missing. -/
def State.restoreStripe (s : State) (k st : Nat) : Option (List Frame) :=
  let ps := s.memberPfns k st
  let w := ps.length - 2
  let fs := ps.map s.frame?
  let by' := fun (j : Nat) => ((fs[j]?).getD none).map (fun f => memberBytes f.tag f.slots)
  let len := 8 + 16384
  match restoreData len w by' (by' w) (by' (w + 1)) with
  | none => none
  | some ds =>
    let seqOf := fun (j : Nat) => (((fs[j]?).getD none).map (fun f => f.seq)).getD 0
    some ((List.range w).map (fun j => frameOfBytes 0 (seqOf j) ((ds[j]?).getD [])) ++
      [frameOfBytes 1 (seqOf w) (parityP len ds), frameOfBytes 2 (seqOf (w + 1)) (parityQ len ds)])

/-- How many members of a stripe are lost. -/
def State.lostCount (s : State) (k st : Nat) : Nat := ((s.memberPfns k st).filter s.isLost).length

/-! ### Stripes in flight (R480 to R484) -/

def Stripe.same (x : Stripe) (k st : Nat) : Bool := x.bs == k && x.st == st

def State.stripe? (s : State) (k st : Nat) : Option Stripe := s.tier.stripes.find? (fun x => x.same k st)

def State.modStripe (s : State) (k st : Nat) (f : Stripe → Stripe) : State :=
  s.modTier (fun t => { t with stripes := t.stripes.map (fun x => if x.same k st then f x else x) })

/-- The stripe in flight that a PFN belongs to, with its member number. -/
def State.flightOf (s : State) (p : Nat) : Option (Stripe × Nat) :=
  match s.stripeOf p with
  | some (k, st, m) => (s.stripe? k st).map (fun x => (x, m))
  | none => none

/-- The blocks of a move go back to wait: a journal block from the journal, another from its old place (R484). -/
def State.replace (s : State) (f : WriteFrame) (m : Move) (i : Nat) : State :=
  match m.old with
  | .journal _ => if s.entry m.index == m.old then s.addPend m.index else s
  | .media _ _ => s.modMap (fun x => { x with moving := x.moving ++ [(m.index, m.old, slice (frameBytes f.slots) (i * 4096 * s.gran) (4096 * s.gran))] })
  | _ => s

/-- A stripe is dead (R484): dead record, unwritten cells passed and void, blocks placed again. -/
def State.killStripe (s : State) (k st cause : Nat) : State :=
  match s.stripe? k st with
  | none => s
  | some x =>
    let ps := s.memberPfns k st
    let un := (List.range ps.length).filter (fun m => !x.written.contains m)
    let pf := un.map (fun m => (ps[m]?).getD 0)
    let s1 := s.modTier (fun t => { t with stripes := t.stripes.filter (fun y => !y.same k st), reloc := t.reloc.filter (fun e => !(e.newSet == k && e.newCell / Nat.max 1 ps.length == st)) })
    let s2 := s1.modMap (fun m => { m with placed := m.placed.filter (fun f => !pf.contains f.pfn), voids := m.voids ++ pf })
    let s3 := s2.modLanes (fun l => { l with slots := SMap.mapAll (fun _ => SlotSt.reset) l.slots (fun _ e => { e with queue := e.queue.filter (fun f => !pf.contains f.pfn) }) })
    let s4 := s3.each x.members (fun t m => (m.2.2.zipIdx).foldl (fun v y => v.replace m.2.1 y.1 y.2) t)
    (((s4.sjq (.dead k st cause)).bump PX_SJDEAD.NEWDEAD)).sjSync

/-- A stripe whose cells hold one that R450 has passed. -/
def State.cellPassed (s : State) (k n : Nat) : Bool :=
  let b := s.bandSet k
  let rc := b.cell n
  let sf := (b.cols[rc.2]?).getD 0
  b.skip.any (fun x => x.1 == sf && decide (rc.1 < x.2))

/-- The cursor moves over stripes that hold a passed cell: each is dead (R484, R485). -/
def State.passStripes : Nat → State → Nat → State
  | 0, s, _ => s
  | f + 1, s, k =>
    let b := s.bandSet k
    if b.width != 0 && b.cursor % b.width = 0 && (List.range b.width).any (fun m => s.cellPassed k (b.cursor + m)) then
      State.passStripes f (((s.modBandSet k (fun x => { x with cursor := x.cursor + x.width })).sjq (.dead k (b.cursor / b.width) 3)).bump PX_SJDEAD.NEWDEAD) k
    else s

/-- The set has no whole stripe left: it is Full (R449, R478). -/
def State.fillSet (s : State) (k : Nat) : State :=
  let b := s.bandSet k
  if b.st == .open && decide (s.nStripes k b ≤ b.cursor / Nat.max 1 b.width) then
    (s.modBandSet k (fun x => { x with st := .full })).bandRecords k 2
  else s

/-- Place one frame in the next data cell of open band set `k`: its stripe opens with its first cell (R482). -/
def State.placeFrame (s0 : State) (k kind tag : Nat) (slots : List (List Byte)) (mk : Nat → List Move) : State × Nat :=
  let s := s0.passStripes 4096 k
  let b := s.bandSet k
  let n := b.cursor
  let st := n / Nat.max 1 b.width
  let m := n % Nat.max 1 b.width
  let p := s.cellPfn k b n
  let q := s.pos p
  let f : WriteFrame := ⟨p, q.surf, q.track, q.frame, kind, tag, slots⟩
  let s1 := if m = 0 then
      (s.modTier (fun t => { t with stripes := t.stripes ++ [⟨k, st, false, [], [], false, false⟩] })).sjq (.open k st)
    else s
  let s2 := s1.modStripe k st (fun x => { x with members := x.members ++ [(m, f, mk p)] })
  let s3 := s2.modMap (fun x => { x with placed := x.placed ++ [f] })
  let s4 := s3.modBandSet k (fun x => { x with cursor := if m + 3 = x.width then n + 3 else n + 1 })
  ((s4.fillSet k).sjSync, n)

/-- A new stripe would have to open while 2,048 are in flight (R481). -/
def State.flightFull (s : State) (k : Nat) : Bool :=
  let b := s.bandSet k
  b.cursor % Nat.max 1 b.width = 0 && 2048 ≤ s.tier.stripes.length

/-- Every data member of the stripe is fixed. -/
def State.dataFixed (s : State) (x : Stripe) : Bool := x.members.length + 2 == (s.bandSet x.bs).width

/-- P and Q of a stripe (R474, R475, R482): two more frames to write. -/
def State.computeParity (s : State) (x : Stripe) : State :=
  let b := s.bandSet x.bs
  let w := b.width
  let ds := x.members.map (fun m => memberBytes m.2.1.tag m.2.1.slots)
  let mk := fun (kind m : Nat) (bytes : List Byte) =>
    let p := s.cellPfn x.bs b (x.st * w + m)
    let q := s.pos p
    (⟨p, q.surf, q.track, q.frame, kind, leNat (slice bytes 0 8), frameSlots (bytes.drop 8)⟩ : WriteFrame)
  let fs := [mk 1 (w - 2) (parityP 16392 ds), mk 2 (w - 1) (parityQ 16392 ds)]
  (s.modMap (fun m => { m with placed := m.placed ++ fs })).modStripe x.bs x.st (fun y => { y with parity := true })

/-- A frame has been written (R483): the media hold it; when all its stripe's cells are, the complete record is queued. -/
def State.frameWritten (s : State) (f : WriteFrame) : State :=
  let s1 := s.modMap (fun m => { m with
    media := SMap.set (fun _ => none) m.media f.pfn (some ⟨f.kind, f.tag, m.frameSeq + 1, f.slots⟩)
    frameSeq := m.frameSeq + 1
    placed := m.placed.filter (fun g => g.pfn != f.pfn) })
  let s1 := if f.kind = 0 && natBits f.tag 36 9 * natBits f.tag 45 9 * natBits f.tag 54 9 = 0 then s1.bump MP_SPILL.PADFR else s1
  match s1.flightOf f.pfn with
  | none => s1
  | some (x, m) =>
    let s2 := s1.modStripe x.bs x.st (fun y => { y with written := m :: y.written })
    if x.written.length + 1 == (s1.bandSet x.bs).width && !x.closing then
      (s2.modStripe x.bs x.st (fun y => { y with closing := true })).sjq (.complete x.bs x.st)
    else s2

/-- A complete record is durable: the map deltas of the stripe's members are journaled (R483), and the extents whose
cells it held are written (R488). -/
def State.stripeComplete (s : State) (k st : Nat) : State :=
  match s.stripe? k st with
  | none => s
  | some x =>
    let w := Nat.max 1 (s.bandSet k).width
    let ex := s.tier.reloc.filter (fun e => e.newSet == k && e.newCell / w == st)
    let s1 := s.modTier (fun t => { t with stripes := t.stripes.filter (fun y => !y.same k st), reloc := t.reloc.filter (fun e => !ex.contains e) })
    let s2 := s1.each x.members (fun t m => if m.2.2 = [] then t else t.jdelta m.2.2)
    (s2.each ex (fun t e => t.sjq (.extent e))).sjSync

/-- A frame is abandoned (R384): its position is void and its stripe dead. -/
def State.abandonFrame (s : State) (p cause : Nat) : State :=
  let s1 := s.modMap (fun m => { m with voids := m.voids ++ [p], placed := m.placed.filter (fun f => f.pfn != p) })
  match s1.flightOf p with
  | some (x, _) => s1.killStripe x.bs x.st cause
  | none => s1

/-! ### Relocation and rebuild (R493 to R496) -/

/-- Moves of a relocated data frame: each slot its TAG names, from its old place (R453, R493). `p` is where the frame is
named by the map. -/
def tagBlocks (tag : Nat) : List (Nat × Nat) :=
  let g := tag % 2 ^ 36
  let off := fun (k : Nat) => natBits tag (27 + 9 * k) 9
  (0, g) :: ([1, 2, 3].filterMap (fun k => if off k = 0 then none else some (k, g + off k)))

/-- The slots of a data frame that the map still names, as (map index, slot of the unit's first block). -/
def State.validSlots (s : State) (p tag : Nat) : List (Nat × Nat) :=
  ((tagBlocks tag).filter (fun x => x.1 % s.gran == 0)).filterMap (fun x =>
    if s.entry (s.mapIndex x.2) == .media p x.1 then some (s.mapIndex x.2, x.1) else none)

/-- The valid blocks of a data frame at `p` wait to be placed again (R453). -/
def State.moveBlocks (s : State) (p : Nat) (f : Frame) : State :=
  if f.kind != 0 then s
  else s.modMap (fun m => { m with moving := m.moving ++ (s.validSlots p f.tag).map (fun x => (x.1, MapEntry.media p x.2, slice (frameBytes f.slots) (x.2 * 4096) (4096 * s.gran))) })

/-- Relocate the member on surface `sf` of stripe (`k`, `st`) as frame `f` (R493, R496), the map naming it at `p`: a data cell of
the cleaning band set, its deltas and its extent once that stripe is complete. At 65,535 extents its valid blocks are placed
again instead (R489). -/
def State.relocateAs (s : State) (sf k st p : Nat) (f : Frame) : State :=
  if s.tier.reloc.any (fun e => e.surf == sf && e.oldSet == k && e.oldStripe == st) then s
  else if 65535 ≤ s.extents.length then s.moveBlocks p f
  else match s.findSet 0 1 none with
  | none => s.noteNoSet
  | some (s1, c) =>
    if s1.flightFull c then s1
    else
      let mk := fun (np : Nat) => if f.kind = 0 then (s.validSlots p f.tag).map (fun x => (⟨x.1, .media p x.2, .media np x.2⟩ : Move)) else []
      let r := s1.placeFrame c f.kind f.tag f.slots mk
      r.1.modTier (fun t => { t with reloc := t.reloc ++ [⟨sf, k, st, 1, c, r.2⟩] })

def State.relocate (s : State) (k st p : Nat) (f : Frame) : State := s.relocateAs (s.pos p).surf k st (s.readPfn p) f

/-- A stripe with more than two members lost, and no help from the pool (R494): its unrecoverable blocks turn bad, the rest
are placed again; recorded and counted. -/
def State.stripeLost (s : State) (k st : Nat) : State :=
  let ps := s.memberPfns k st
  let blocks := ps.flatMap (fun p => if s.isLost p then (s.map.map.filterMap (fun x => match x.2 with
    | .media q _ => if q == s.readPfn p then some x.1 else none
    | _ => none)) else [])
  let s1 := s.each blocks (fun t i => t.jq (.dealloc (i * t.gran) t.gran 1))
  let s2 := s1.each ps (fun t p => match t.frame? p with
    | some f => t.moveBlocks (t.readPfn p) f
    | none => t)
  let s3 := ((s2.modNvme (fun n => { n with lostStripes := n.lostStripes + 1 })).bump PX_LOST.STRIPES).addSat PX_LOST.BLOCKS (blocks.length * s.gran)
  (s3.record 0x1102 (leBytes 4 k ++ leBytes 4 st ++ leBytes 1 (s.lostCount k st) ++ zeros 3)).dataFault

/-- Members of a surface that are neither covered by an extent nor in a dead stripe, over the non-Empty band sets. -/
def State.membersLeft (s : State) (sf : Nat) : Nat :=
  s.map.bandsets.foldl (fun n x =>
    if x.2.cols.contains sf then
      n + ((List.range (Nat.min (s.nStripes x.1 x.2) ((x.2.cursor + x.2.width - 1) / Nat.max 1 x.2.width))).filter (fun st =>
        !s.deadStripes.contains (x.1, st) && (s.stripe? x.1 st).isNone && decide (s.lostCount x.1 st ≤ 2) &&
        (s.memberPfns x.1 st).any (fun p => (s.pos p).surf == sf && (s.extentOf p).isNone))).length
    else n) 0

/-- PX_STAT.REBUILD and PX_RBPOS follow the rebuilds; the first one is at work. -/
def State.rebuildShow (s : State) : State :=
  match s.tier.rebuilds with
  | [] => (((s.clrBit PX_STAT.REBUILD).clrBit PX_STAT.PAUSED).setFld PX_RBPOS.SURF 0xFF).setFld PX_RBPOS.BANDSET 0
  | r :: _ => ((s.setBit PX_STAT.REBUILD).setFld PX_RBPOS.SURF r.surf).setFld PX_RBPOS.BANDSET r.bs

/-- A copy on the surface's actuator is invalid once one of its frames cannot be read (R466, R471). -/
def State.copiesLost (s : State) (a : Act) : State :=
  s.modMap (fun m => { m with segs := SMap.mapAll (fun _ => Segment.empty) m.segs (fun _ x => if a = .A then { x with copy0 := none } else { x with copy1 := none }) })

/-- A rebuild starts (R495): surface record, PX registers, the bands of the surface Offline (R449). `st` is 1 failed, 2
write-disabled. -/
def State.startRebuild (s : State) (sf st : Nat) : State :=
  let s1 := if st = 1 then s.setFldBit PX_FAILED.SURF sf true else s.setFldBit PX_WDIS.SURF sf true
  let s2 := (s1.sjq (.surface sf st)).record 0x1101 (leBytes 1 sf ++ leBytes 1 st ++ zeros 2)
  let s3 := s2.each (s2.map.bandsets.filter (fun x => x.2.cols.contains sf && !x.2.offline.contains sf && (x.2.st == .open || x.2.st == .full)))
    (fun t x => (t.modBandSet x.1 (fun b => { b with offline := sf :: b.offline })).jq (.band sf 4 x.2.owner x.1 (x.2.cursor / Nat.max 1 (x.2.cols.length - x.2.spares))))
  let s4 := s3.modTier (fun t => { t with rebuilds := t.rebuilds.filter (fun r => r.surf != sf) ++ [⟨sf, st == 2, 0, 0⟩] })
  let s5 := if st = 1 then s4.copiesLost (surfAct sf) else s4
  let s6 := if s4.tier.rebuilds.length = 1 then (s5.setFld PX_RBDONE.MEMBERS 0).setFld PX_RBLEFT.MEMBERS (s5.membersLeft sf) else s5
  s6.rebuildShow.pxSync

/-- The write-disabled surfaces of an actuator take frames again (R345, R498): AS_WDIS clears, STATE 0x03 is written, and with it
their copying ends. -/
def State.wdisEnd (s : State) (a : Act) : State :=
  let s1 := s.setFld (AS_WDIS.HEADS (actNum a)) 0
  let fs := (List.range 32).filter (fun t => surfAct t == a && s1.surfWdis t)
  let s2 := s1.each fs (fun t sf => (t.setFldBit PX_WDIS.SURF sf false).sjq (.surface sf 3))
  let s3 := s2.modTier (fun t => { t with rebuilds := t.rebuilds.filter (fun r => !(r.copy && fs.contains r.surf)) })
  (s3.rebuildShow).pxSync

/-! ### Resolving blocks (R444) -/

/-- What a read of one block finds. -/
inductive BlockRes where
  | data (d : List Byte)
  /-- the entry is bad -/
  | bad
  /-- a word of its journal page is Uncorrectable (R568) -/
  | hurt
  /-- its frame is on an actuator whose domain is not Serving (R39) -/
  | away (a : Act)
  /-- its frame is lost and must be restored first (R492) -/
  | lost (p : Nat)
  deriving DecidableEq, Repr

/-- Block `g`. -/
def State.block? (s : State) (g : Nat) : BlockRes :=
  let sub := g % s.gran
  match s.entry (s.mapIndex g) with
  | .unmapped => .data (List.replicate 4096 0)
  | .bad => .bad
  | .journal p =>
    let r := s.pageData (if sub = 0 then p else dataNext p)
    if r.bad then .hurt else .data r.data
  | .media p k =>
    match s.tier.restored.find? (fun x => x.1 == p) with
    | some x => .data ((x.2[k + sub]?).getD [])
    | none =>
      if s.isLost p then .lost p
      else
        let a := surfAct (s.pos (s.readPfn p)).surf
        if s.actAway a then .away a
        else match s.frame? p with
          | some f => .data ((f.slots[k + sub]?).getD [])
          | none => .lost p

end Sys2Proof.Machine
end

