-- ==== Sys2Proof/Machine/AssistOps.lean ====
section
/-! DEFINITION. Write slots, their gates and energy assist: register access by slot, blanks (R386, R387), gate closures
(R340, R346, R384), power interpolation (R350) and the power budget (R347). -/
namespace Sys2Proof.Machine

/-! ### Registers of a slot -/

def asState (a : Act) (n : Nat) : Fld := if n = 0 then AS_STAT.STATE0 (actNum a) else AS_STAT.STATE1 (actNum a)
def asHead (a : Act) (n : Nat) : Fld := if n = 0 then AS_SLOT0.HEAD (actNum a) else AS_SLOT1.HEAD (actNum a)
def asCmd (a : Act) (n : Nat) : Fld := if n = 0 then AS_SLOT0.CMD (actNum a) else AS_SLOT1.CMD (actNum a)
def asTarget (a : Act) (n : Nat) : Fld := if n = 0 then AS_MON0.TARGET (actNum a) else AS_MON1.TARGET (actNum a)
def asMon (a : Act) (n : Nat) : Fld := if n = 0 then AS_MON0.MON (actNum a) else AS_MON1.MON (actNum a)
def asTlim (a : Act) (n : Nat) : Fld := if n = 0 then AS_TEMP0.TLIM (actNum a) else AS_TEMP1.TLIM (actNum a)
def asTest (a : Act) (n : Nat) : Fld := if n = 0 then AS_TEMP0.TEST (actNum a) else AS_TEMP1.TEST (actNum a)
def wsState (a : Act) (n : Nat) : Fld := if n = 0 then AS_WSSTAT0.STATE (actNum a) else AS_WSSTAT1.STATE (actNum a)
def wsHead (a : Act) (n : Nat) : Fld := if n = 0 then AS_WSSTAT0.HEAD (actNum a) else AS_WSSTAT1.HEAD (actNum a)
def wsLane (a : Act) (n : Nat) : Fld := if n = 0 then AS_WSSTAT0.CLKLANE (actNum a) else AS_WSSTAT1.CLKLANE (actNum a)
def wsEarly1 (a : Act) (n : Nat) : Fld := if n = 0 then AS_WSPRE0.EARLY1 (actNum a) else AS_WSPRE1.EARLY1 (actNum a)
def wsEarly2 (a : Act) (n : Nat) : Fld := if n = 0 then AS_WSPRE0.EARLY2 (actNum a) else AS_WSPRE1.EARLY2 (actNum a)
def wsWritten (a : Act) (n : Nat) : Fld := if n = 0 then AS_WSCNT0.WRITTEN (actNum a) else AS_WSCNT1.WRITTEN (actNum a)
def wsAbandon (a : Act) (n : Nat) : Fld := if n = 0 then AS_WSCNT0.ABANDON (actNum a) else AS_WSCNT1.ABANDON (actNum a)
def wsUnder (a : Act) (n : Nat) : Fld := if n = 0 then AS_WSUNDR.UNDER0 (actNum a) else AS_WSUNDR.UNDER1 (actNum a)

/-- Assist states: 0 Off, 1 Leading, 2 On, 3 Cooling; write-slot states: 0 Idle, 1 Waiting for payload, 2 Leading,
3 Writing, 4 Suspended at a wedge. -/
def asOff : Nat := 0
def asLeading : Nat := 1
def asOn : Nat := 2
def asCooling : Nat := 3
def wsIdle : Nat := 0
def wsWaiting : Nat := 1
def wsLeading : Nat := 2
def wsWriting : Nat := 3
def wsSuspended : Nat := 4

/-- The write gate PA_x_WGn is driven. -/
def State.gate (s : State) (a : Act) (n : Nat) : Bool := SMap.get (fun _ => false) s.pins.gates (slotNum a n)

def State.setGate (s : State) (a : Act) (n : Nat) (b : Bool) : State :=
  let s1 := s.modPins (fun p => { p with gates := SMap.set (fun _ => false) p.gates (slotNum a n) b })
  s1.setFld (SV_STAT.WGATE (actNum a)) ((if s1.gate a 0 then 1 else 0) + (if s1.gate a 1 then 2 else 0))

/-! ### Lanes -/

/-- Lane states: 0 Off, 1 Servo, 2 Reading, 3 Clocking. -/
def lnOff : Nat := 0
def lnServo : Nat := 1
def lnReading : Nat := 2
def lnClocking : Nat := 3

def State.lnState (s : State) (l : Nat) : Nat := s.fld (LN_STAT.STATE l)

/-- The actuator that lane `l` (8 for LS) is connected to (R86); the lane belongs to its domain (R26). -/
def State.lnAct (s : State) (l : Nat) : Act := actOf (s.fld (LN_STAT.ACT l))

/-- The lanes, LS last. -/
def lanes9 : List Nat := List.range 9

/-- Cells of a 48 ns blank at the lane's rate, rounded up (R386). -/
def blankCells (rate : Nat) : Nat := (48 * rate + 999) / 1000

/-- A write-current edge of actuator `a`: every lane bound to it is blanked (R386); a reading lane writes 0x80 in place
of its samples and counts them (R387). -/
def State.blank (s : State) (a : Act) : State :=
  s.each lanes9 (fun t l =>
    if t.lnState l == lnOff || t.lnAct l != a then t
    else
      let t1 := t.bump (LN_OVR.BLANKS l)
      if t.lnState l != lnReading then t1
      else
        let c := blankCells (t.fld (LN_RATE.RATE l))
        (t1.addSat (LN_ERASED.CELLS l) c).modLane l (fun x => { x with erased := Nat.min (x.erased + c) 0xFFFF }))

/-- The lane is disconnected and Off. -/
def State.laneDark (s : State) (l : Nat) : State :=
  ((((s.setFld (LN_STAT.STATE l) lnOff).setFld (LN_STAT.INSEL l) 0xF).setFld (LN_STAT.PLACE l) 0xF).clrBit (LN_STAT.LOCK l))

/-- The slot's clocking lane goes back to Servo (R378). One whose domain has left Serving clocked its frame to the end (R30) and goes
Off then (DESIGN CHOICE, assumption 95). -/
def State.unclock (s : State) (a : Act) (n : Nat) : State :=
  let l := s.fld (wsLane a n)
  let s1 := s.setFld (wsLane a n) 0xF
  if l < 9 && s.lnState l == lnClocking && s1.fld (wsLane a (1 - n)) != l then
    if (s.dom (domOfAct a)).st == .quiescing then s1.laneDark l else s1.setFld (LN_STAT.STATE l) lnServo
  else s1

/-! ### The power budget -/

/-- The estimate of a slot in Leading or On: PNOM x command / INIT (R347). -/
def State.powerEst (s : State) (a : Act) (n : Nat) : Nat :=
  let x := s.aslot a n
  if s.fld (asState a n) == asLeading || s.fld (asState a n) == asOn then x.pnom * s.fld (asCmd a n) / Nat.max 1 x.init else 0

/-- AS_BUDGET.DEMAND, and the deferral of slot Wx1 while the sum exceeds PAMAX (R348). -/
def State.budgetSync (s : State) (a : Act) : State :=
  let d := s.powerEst a 0 + s.powerEst a 1
  let s1 := s.setFld (AS_BUDGET.DEMAND (actNum a)) d
  let both := s.fld (asState a 0) == asOn && s.fld (asState a 1) == asOn
  let excess := decide (s.asBudget a 0 2 < d)
  s1.modAslot a 1 (fun x => { x with deferred := if both && excess then true else if excess then x.deferred else false })

/-- The budget admits a frame of power `pnom` on slot `n` (R347, R348). -/
def State.budgetAdmits (s : State) (a : Act) (n pnom : Nat) : Bool :=
  let o := 1 - n
  let other := if s.fld (asState a o) == asLeading || s.fld (asState a o) == asOn then Nat.max (s.powerEst a o) (s.aslot a o).pnom else 0
  pnom + other ≤ s.asBudget a 0 2 && !(n == 1 && (s.aslot a 1).deferred)

/-! ### Interpolation (R350) -/

/-- Where `x` lies in the rising values: index, numerator and denominator of the fraction to the next; clamped. -/
def gridPlace (xs : List Nat) (x : Nat) : Nat × Nat × Nat :=
  let n := (xs.filter (· ≤ x)).length
  if n = 0 then (0, 0, 1)
  else if n ≥ xs.length then (xs.length - 1, 0, 1)
  else (n - 1, x - (xs[n - 1]?).getD 0, (xs[n]?).getD 0 - (xs[n - 1]?).getD 0)

/-- Linear interpolation between `a` and `b`, scaled by the denominator. -/
def mix (a b num den : Nat) : Nat := a * (den - num) + b * num

/-- TINT as the tick found it: a frame start uses it and the slewed set-point as they stood before its tick (R346). -/
def State.tintThen (s : State) (a : Act) : Int := ofTwos 8 (s.fldThen (AS_TINT.TINT (actNum a)))

/-- TARGET, INIT and PNOM of head `h` at the slewed set-point (rpm x 8) and TINT: bilinear, inputs clamped to the grid,
the exact value rounded down. -/
def State.assistPoint (s : State) (a : Act) (h : Nat) : Nat × Nat × Nat :=
  let n := s.asRows a 0x0101
  let f := fun (r off len : Nat) => s.asRow a 0x0101 r 12 off len
  let rows := (List.range n).filter (fun r => f r 0 1 == h)
  let base := (rows.headD 0)
  let rpms := (rows.map (fun r => f r 2 2)).eraseDups
  let temps := (rows.map (fun r => (ofTwos 8 (f r 1 1) + 100).toNat)).eraseDups
  let gp := gridPlace (rpms.map (· * 8)) (s.fldThen SP_SPEED.SLEWED)
  let gt := gridPlace temps ((s.tintThen a + 100).toNat)
  let i2 := Nat.min (gp.1 + 1) (rpms.length - 1)
  let j2 := Nat.min (gt.1 + 1) (temps.length - 1)
  let v := fun (off i j : Nat) => f (base + i * temps.length + j) off 2
  let at2 := fun (off : Nat) =>
    mix (mix (v off gp.1 gt.1) (v off gp.1 j2) gt.2.1 gt.2.2) (mix (v off i2 gt.1) (v off i2 j2) gt.2.1 gt.2.2) gp.2.1 gp.2.2 / (gp.2.2 * gt.2.2)
  (at2 4, at2 6, at2 8)

/-- RLIM of R342 in units of 0.1 ohm at TINT + TRISE. -/
def State.rlim (s : State) (a : Act) (h : Nat) : Nat :=
  let rref := s.asLim a h 6 2
  let tcr := s.asLim a h 8 2
  let t : Int := s.tintThen a + s.asLim a h 10 1 - 25
  ((rref : Int) * (1000000 + (tcr : Int) * t) / 1000000).toNat

/-! ### Gate closures -/

/-- A write gate closes, whatever its cause: assist off with it (R340); a frame whose last pad cell is not written is
abandoned, to be written again at a new position (R100, R309, R384). `after` is the assist state entered. -/
def State.closeGateTo (s : State) (a : Act) (n after : Nat) : State :=
  let w := s.fld (wsState a n)
  let s1 := (s.setGate a n false).modAslot a n (fun x => { x with emitter := 0, suspended := false, closeTick := some s.tick })
  let s2 := if s.fld (asState a n) == asCooling then s1 else s1.setFld (asState a n) after
  let s3 := (s2.when (w == wsWriting) (fun t => t.blank a)).unclock a n
  let s4 := match (s.slot (slotNum a n)).cur with
    | none => s3
    | some f =>
      if w == wsLeading || w == wsWriting || w == wsSuspended then
        ((((s3.modSlot (slotNum a n) (fun x => { x with cur := none, payload := [] })).setFld (wsState a n) wsIdle).bump (wsAbandon a n))).abandonFrame f.pfn 1
      else s3
  s4.budgetSync a

/-- A gate that is open closes to Off. -/
def State.closeGate (s : State) (a : Act) (n : Nat) : State := if s.gate a n then s.closeGateTo a n asOff else s

/-- Both gates of an actuator. -/
def State.closeGates (s : State) (a : Act) : State := (s.closeGate a 0).closeGate a 1

/-- Every gate of the device. -/
def State.closeAllGates (s : State) : State := (s.closeGates .A).closeGates .B

/-! ### Assist faults (R344, R345) -/

/-- Record an assist fault. -/
def State.assistFault (s : State) (a : Act) (n : Nat) (f : Fld) : State :=
  (s.setBit f).record 0x0C01 (leBytes 1 (s.fld (asHead a n)) ++ leBytes 1 n ++ leBytes 2 (2 ^ f.lo))

/-- A head becomes write-disabled: AS_WDIS, and the surface goes to Tier L (R345, R495). -/
def State.writeDisable (s : State) (a : Act) (h : Nat) : State :=
  if s.fldBit (AS_WDIS.HEADS (actNum a)) h then s
  else ((s.setFldBit (AS_WDIS.HEADS (actNum a)) h true).startRebuild (surfNum a h) 2).unitFault

/-- AS_STAT.TYPE and AS_BUDGET.PAMAX of an actuator (R330, R352). -/
def State.assistLoad (s : State) (a : Act) : State :=
  (s.setFld (AS_STAT.TYPE (actNum a)) (s.topo 2 1)).setFld (AS_BUDGET.PAMAX (actNum a)) (s.asBudget a 0 2)

end Sys2Proof.Machine
end

