-- ==== Sys2Proof/Machine/WedgeFormat.lean ====
section
/-! DEFINITION. The servo wedge on the media (R290): its fields as cells, and what a lane's demodulator makes of them (R291, R292,
R388). -/
namespace Sys2Proof.Machine

/-! ### Writing -/

/-- The `w` low bits of a number, highest first. -/
def highBits : Nat → Nat → List Bool
  | 0, _ => []
  | w + 1, v => natBit v w :: highBits w v

/-- A coded bit: 1 as the cells 10, 0 as 01. -/
def codedBit (b : Bool) : List Bool := [b, !b]

/-- Coded bits, the highest first (DESIGN CHOICE, assumption 94). -/
def codedBits (w v : Nat) : List Bool := (highBits w v).flatMap codedBit

/-- The servo address mark, 0b0000_1111_0011_0101. -/
def samCells : List Bool := highBits 16 0x0F35

/-- The wedge preamble: an alternating 2-cell pattern. -/
def wedgePreamble : List Bool := (List.replicate 24 [true, false]).flatten

/-- The index field's ten bits: the wedge number, and even parity over it in bit 9. -/
def indexBits (w : Nat) : Nat := w % 512 + (if (highBits 9 w).foldl (fun p b => p != b) false then 512 else 0)

/-- Gray code of a track number, and back. -/
def grayCode (n : Nat) : Nat := Nat.xor n (n / 2)

def grayStep : List Bool → Bool → List Bool
  | [], _ => []
  | b :: l, p => (b != p) :: grayStep l (b != p)

/-- The number that bits spell, highest first. -/
def bitsNat (l : List Bool) : Nat := l.foldl (fun n b => 2 * n + (if b then 1 else 0)) 0

def grayDecode (l : List Bool) : Nat := bitsNat (grayStep l false)

/-- The written cells of wedge `w` of track `t` with the runout correction `c`, its two bursts given as they were servo-written. -/
def wedgeCells (w t : Nat) (c : Int) (bursts : List Bool) : List Bool :=
  wedgePreamble ++ samCells ++ codedBits 10 (indexBits w) ++ codedBits 24 (grayCode (t % 2 ^ 24)) ++ bursts ++ codedBits 12 (toTwos 12 c) ++
    List.replicate 8 false

/-! ### Reading -/

/-- The mark stands at one place: no unblanked cell differs from it, and one at least is unblanked (R292, R388). -/
def samAt (cells : List SlicedCell) : Bool :=
  cells.length == 16 && cells.any Option.isSome &&
    (cells.zip samCells).all (fun x => match x.1 with
      | some b => b == x.2
      | none => true)

/-- The mark is found within four cells of its predicted position. -/
def samFound (cells : List SlicedCell) : Bool := (List.range 9).any (fun k => samAt ((cells.drop k).take 16))

/-- Coded bits back from their cells: a bit with a blanked cell takes its predicted value (R388); two equal cells code no bit. -/
def readCoded : List SlicedCell → List Bool → Option (List Bool)
  | x :: y :: cells, p :: pred =>
    let rest := readCoded cells pred
    match x, y with
    | some a, some b => if a == b then none else rest.map (a :: ·)
    | _, _ => rest.map (p :: ·)
  | [], [] => some []
  | _, _ => none

/-- The wedge number of the index field, where its parity is even; `pred` is the predicted one. -/
def readIndex (cells : List SlicedCell) (pred : Nat) : Option Nat :=
  match readCoded cells (highBits 10 (indexBits pred)) with
  | some bits => if bits.foldl (fun p b => p != b) false then none else some (bitsNat (bits.drop 1))
  | none => none

def readTrack (cells : List SlicedCell) (pred : Nat) : Option Nat := (readCoded cells (highBits 24 (grayCode pred))).map grayDecode

def readWrro (cells : List SlicedCell) (pred : Int) : Option Int :=
  (readCoded cells (highBits 12 (toTwos 12 pred))).map (fun l => ofTwos 12 (bitsNat l))

/-- A burst amplitude: over the unblanked cells, scaled to the whole burst (R388). -/
def burstAmp (cells : List (Option Int)) : Int :=
  let seen := cells.filterMap id
  if seen = [] then 0 else seen.foldl (· + ·) 0 * cells.length / seen.length

/-- What the demodulator delivers of a wedge (R291). -/
structure Demod where
  valid : Bool
  wedge : Nat
  track : Nat
  pes : Int
  deriving DecidableEq, Repr

/-- A wedge read with the prediction `next` of its number, where there is one, and of its track: invalid without the mark, with odd index
parity or another number (R292), or with a pair of cells that codes no bit (DESIGN CHOICE, assumption 94). -/
def demodulate (x : WedgePlace) (next : Option Nat) (track : Nat) : Demod :=
  match samFound x.sam, readIndex x.index (next.getD 0), readTrack x.trackId track, readWrro x.wrro 0 with
  | true, some w, some t, some c => if next.getD w = w ∧ w < 500 then ⟨true, w, t, x.pes + c⟩ else ⟨false, next.getD 0, track, 0⟩
  | _, _, _, _ => ⟨false, next.getD 0, track, 0⟩

end Sys2Proof.Machine
end

