-- ==== Sys2Proof/Machine/ServoOps.lean ====
section
/-! DEFINITION. The actuators (R289 to R327): states, park and retract, write inhibits, head groups, seeks, the competing
loops and the coefficient sets. -/
namespace Sys2Proof.Machine

/-! ### States of R318 -/

def svParked : Nat := 0
def svLoading : Nat := 1
def svAcquiring : Nat := 2
def svFollowing : Nat := 3
def svSeeking : Nat := 4
def svSettling : Nat := 5
def svRecovering : Nat := 6
def svUnloading : Nat := 7
def svRetracting : Nat := 8
def svFaulted : Nat := 9

def State.svState (s : State) (a : Act) : Nat := s.fld (SV_STAT.STATE (actNum a))

/-- An actuator in a loaded state (R318). -/
def State.svLoaded (s : State) (a : Act) : Bool := 1 ≤ s.svState a && s.svState a ≤ 7

/-- State `st` is entered. From a park until the actuator is Following its surfaces count as away (R31). -/
def State.svGoto (s : State) (a : Act) (st : Nat) : State :=
  (s.modSv a (fun v => { v with stWedges := 0, away := st != svFollowing && (v.away || decide (st ≤ svLoading) || decide (svUnloading ≤ st)) })).setFld
    (SV_STAT.STATE (actNum a)) st

/-- The head at place `k`, and the places in use. -/
def State.svPlaces (s : State) (a : Act) : List Nat := (s.sv a).places.map (fun x => x.1)

/-- The group in use; none for 0xF. -/
def State.svGroup (s : State) (a : Act) : Nat := s.fld (SV_STAT.GROUP (actNum a))

/-- The converter's code for `cmd` mA where 0.6 V of deflection commands `fs` mA: 12 bits, 2,048 at zero current (R296). -/
def vcmCodeOf (cmd : Int) (fs : Nat) : Nat := Nat.min 4095 (2048 + cmd * 2048 / (Nat.max 1 fs : Nat)).toNat

/-- VCM enable and the coarse command. -/
def State.setVcm (s : State) (a : Act) (en : Bool) (cmd : Int) : State :=
  let s1 := s.modPins (fun p => { p with vcmEn := p.vcmEn.put a en, vcmCmd := p.vcmCmd.put a cmd, vcmCode := p.vcmCode.put a (vcmCodeOf cmd (s.loopLim a 18 2)) })
  (s1.setFld (SV_VCM.CMD (actNum a)) (toTwos 16 cmd)).modSv a (fun v => { v with pendCmd := cmd })

/-! ### Gates and inhibits (R307 to R310) -/

/-- The slots of `a` whose gate is open on head `h`. -/
def State.slotsOn (s : State) (a : Act) (h : Nat) : List Nat :=
  [0, 1].filter (fun n => s.gate a n && s.fld (wsHead a n) == h)

/-- Count an inhibit and show its cause (SV_EVT, SV_INHREASON). -/
def State.noteInhibit (s : State) (a : Act) (code h : Nat) : State :=
  ((s.bump (SV_EVT.INHIBIT (actNum a))).setFld (SV_INHREASON.REASON (actNum a)) code).setFld (SV_INHREASON.HEAD (actNum a)) h

/-- A write inhibit for one head: its gates close (R307). -/
def State.inhibitHead (s : State) (a : Act) (h code : Nat) : State :=
  (s.noteInhibit a code h).each (s.slotsOn a h) (fun t n => t.closeGate a n)

/-- A write inhibit for every head of the actuator. -/
def State.inhibitAll (s : State) (a : Act) (code : Nat) : State :=
  (s.noteInhibit a code (s.fld (SV_STAT.PRIMARY (actNum a)))).closeGates a

/-- Write permission of a place (R310): SETTLE wedges within WILIM, no shock hold, no persisting cause. -/
def State.writePermitted (s : State) (a : Act) (k : Nat) : Bool :=
  let p := s.place a k
  s.svState a == svFollowing && p.active && s.felRow a p.head 4 ≤ p.nWi &&
    !s.bit (SV_STAT.SHOCK (actNum a)) && p.nSat == 0 && (s.head a p.head).echoBad == 0 && (s.sv a).cmiss != 1 && (s.sv a).fmiss != 1

/-! ### Groups (R313 to R317, R357) -/

/-- The heads of group `g` that are in use: present, not failed, not reading as a group of their own. -/
def State.groupHeads (s : State) (a : Act) (g : Nat) : List Nat :=
  if s.ngroups a ≤ g then []
  else ((List.range 4).map (fun k => s.groupHead a g k)).filter (fun h => h != 0xFF && !(s.head a h).failed && !(s.head a h).alone)

/-- The heads that a request asks for: group `g` below 16, or head `g - 16` as a group of its own (R317). -/
def State.headsFor (s : State) (a : Act) (g : Nat) : List Nat :=
  if g < 16 then s.groupHeads a g
  else if (s.head a (g - 16)).failed || s.headsOf a ≤ g - 16 then [] else [g - 16]

/-- The group index that SV_STAT shows for a request: of a head as its own group, the first group that lists it. -/
def State.groupShown (s : State) (a : Act) (g : Nat) : Nat :=
  if g < 16 then g
  else (((List.range (s.ngroups a)).filter (fun j => (List.range 4).any (fun k => s.groupHead a j k == g - 16))).head?).getD 0xF

/-- The group whose primary an actuator loads on: group 0 (R318), or the first that still has heads. -/
def State.loadGroup (s : State) (a : Act) : Nat :=
  (((List.range (s.ngroups a)).filter (fun g => s.groupHeads a g != [])).head?).getD 0

/-- A register frame of the preamplifier link (R684): READ, 0b111, ADDR, DATA, and the CRC-8 over them. -/
def paRegFrame (read : Bool) (addr data : Nat) : Nat :=
  let w := (if read then 2 ^ 15 else 0) + 7 * 2 ^ 12 + addr % 16 * 2 ^ 8 + data % 256
  w * 256 + crc8Bits (bitsHigh 16 w)

/-- The routing write for lane `l`: the preamplifier output of its input pair carries reader `rd` of head `h`. It waits for the next
wedge window (R356, R357, R684, R685). -/
def State.routeLane (s : State) (a : Act) (l h rd : Nat) : State :=
  let pair := s.fld (LN_STAT.INSEL l)
  if pair = 0xF then s
  else s.modAs a (fun x => { x with paRegs := x.paRegs ++ [paRegFrame false (1 + pair % 4) (h % 16 + rd % 2 * 16 + 128)] })

/-- The routing writes that waited go out inside a wedge window, in order (R685). One whose read-back fails waits for the next (R691). -/
def State.routesOut (s : State) (a : Act) (bad : List Nat) : State :=
  s.modAs a (fun x => { x with
    paRegs := x.paRegs.filter (fun f => bad.contains (f / 2 ^ 16 % 16))
    routes := (x.paRegs.filter (fun f => !bad.contains (f / 2 ^ 16 % 16))).foldl (fun r f => SMap.set (fun _ => 0) r (f / 2 ^ 16 % 16) (f / 2 ^ 8 % 256)) x.routes })

/-- Lanes take the places of the heads in use (R357): in S mode both lanes serve place 0, the second with reader 1. -/
def State.bindLanes (s : State) (a : Act) (hs : List Nat) : State :=
  (s.boundLanes a).zipIdx.foldl (fun t x =>
    let two := s.readMode a = 1
    let k := if two then 0 else x.2
    match hs[k]? with
    | some h => ((t.setFld (LN_STAT.PLACE x.1) k).setFld (LN_STAT.HEAD x.1) h).routeLane a x.1 h (if two && x.2 == 1 then 1 else 0)
    | none => t.setFld (LN_STAT.PLACE x.1) 0xF) s

/-- Take a group into use: places, limits, lanes; the runout tables are those of each head. -/
def State.takeGroup (s : State) (a : Act) (g : Nat) (hs : List Nat) : State :=
  let n := actNum a
  let s1 := s.modSv a (fun v => { v with places := [] })
  let s2 := s1.each hs.zipIdx (fun t x => t.modPlace a x.2 (fun _ => { Place.reset with head := x.1, active := true }))
  let s3 := s2.each (List.range 4) (fun t k =>
    match hs[k]? with
    | some h => (((t.setFld (SV_PES.HEAD n k) h).setFld (SV_PESWIN.LIMIT n k) (t.felRow a h 0)).setFld (SV_PESWIN.RDLIM n k) (t.felRow a h 1)).setFld (SV_PESWIN.FELIM n k) (t.felRow a h 2)
    | none => t)
  (((s3.setFld (SV_STAT.GROUP n) (s.groupShown a g)).setFld (SV_STAT.PRIMARY n) (hs.headD 0)).setFld (SV_STAT.ACTIVE n) (2 ^ hs.length - 1)).bindLanes a hs

/-- No group is in use. -/
def State.leaveGroup (s : State) (a : Act) : State :=
  (((s.modSv a (fun v => { v with places := [], grpAcq := false })).setFld (SV_STAT.GROUP (actNum a)) 0xF).setFld (SV_STAT.ACTIVE (actNum a)) 0).setFld (SV_RRO.CONV (actNum a)) 0

/-- A place leaves: no longer following. -/
def State.dropPlace (s : State) (a : Act) (k : Nat) : State :=
  (s.modPlace a k (fun p => { p with active := false })).setFldBit (SV_STAT.ACTIVE (actNum a)) k false

/-- Events of the last `span` ticks, and the new one. -/
def recent (now span : Nat) (l : List Nat) : List Nat := now :: l.filter (fun t => decide (now < t + span))

/-- A secondary leaves its group (R316, R317). Cause: 1 following error, 2 stroke, 3 skew. -/
def State.depart (s : State) (a : Act) (k cause : Nat) : State :=
  let h := (s.place a k).head
  let n := actNum a
  let s1 := if s.slotsOn a h = [] then s else s.inhibitHead a h (if cause = 1 then 1 else if cause = 2 then 7 else 2)
  let s2 := ((s1.dropPlace a k).bump (SV_EVT.DROP n)).setBit (SV_FAULT.DROPOUT n)
  let s3 := s2.modHead a h (fun x => { x with dropTicks := recent s.tick (secTicks 1) x.dropTicks })
  let s4 := s3.modHead a h (fun x => { x with alone := x.alone || decide (4 ≤ x.dropTicks.length) })
  let s5 := s4.each (s4.boundLanes a) (fun t l => if t.fld (LN_STAT.HEAD l) == h then t.modLane l (fun x => { x with offTrack := true }) else t)
  s5.record 0x0B02 (leBytes 1 (surfNum a h) ++ leBytes 1 cause ++ zeros 2)

/-- A head is declared failed (R319): out of its group, SV_HEADOK, recorded, handed to Tier L (R495). Cause 1 to 4 in the
order of R319. -/
def State.declareFailed (s : State) (a : Act) (h cause : Nat) : State :=
  if (s.head a h).failed then s
  else
    let n := actNum a
    let s1 := (s.each (s.slotsOn a h) (fun t k => t.closeGate a k)).modHead a h (fun x => { x with failed := true })
    let s2 := s1.each (s1.svPlaces a) (fun t k => if (t.place a k).head == h then t.dropPlace a k else t)
    let s3 := ((s2.setFldBit (SV_HEADOK.OK n) h false).setBit (SV_FAULT.HEADFAIL n)).record 0x0B03 (leBytes 1 (surfNum a h) ++ leBytes 1 cause ++ zeros 2)
    let s4 := match s3.groupHeads a (s3.svGroup a) with
      | p :: _ => s3.setFld (SV_STAT.PRIMARY n) p
      | [] => s3
    (s4.startRebuild (surfNum a h) 1).unitFault

/-! ### Seeks (R318, R326, R327) -/

/-- The learning zone of a track (R321, table 0x0004). -/
def State.learnZone (s : State) (a : Act) (track : Nat) : Nat :=
  ((List.range (s.svRows a 0x0004)).filter (fun r => s.svRow a 0x0004 r 8 0 4 ≤ track)).length - 1

/-- Key of a learning table: head x 16 + zone. -/
def rroTable (head zone : Nat) : Nat := head * 16 + zone

/-- SV_RRO for the tables of the places in use. -/
def State.rroSync (s : State) (a : Act) : State :=
  let n := actNum a
  let z := s.fld (SV_RRO.ZONE n)
  s.setFld (SV_RRO.CONV n) (((s.svPlaces a).filter (fun k => (s.sv a).rroConv.contains (rroTable (s.place a k).head z))).foldl (fun x k => x + 2 ^ k) 0)

/-- Start a seek to a group and track: secondaries that left rejoin (R317); a group not yet in use is taken. -/
def State.startSeek (s : State) (a : Act) (g track : Nat) : State :=
  let hs := s.headsFor a g
  let same := (s.svPlaces a).map (fun k => (s.place a k).head) == hs
  let s1 := if same then s.each (s.svPlaces a) (fun t k => t.modPlace a k (fun p => { p with nWi := 0, nRd := 0, active := true }))
    else (s.takeGroup a g hs).modSv a (fun v => { v with grpAcq := true })
  let s2 := s1.setFld (SV_STAT.ACTIVE (actNum a)) (2 ^ hs.length - 1)
  let s3 := ((s2.setFld (SV_TARGET.TRACK (actNum a)) track).setFld (SV_RRO.ZONE (actNum a)) (s.learnZone a track)).rroSync a
  ((s3.modSv a (fun v => { v with seekWait := none, reqGroup := g, reqTrack := track })).closeGates a).svGoto a svSeeking

/-! ### Coefficients (R322, R323) -/

/-- A column of table 0x0001 at a speed in 1/8 rpm: linear interpolation, clamped, rounded down. -/
def State.gainAt (s : State) (a : Act) (off speed8 : Nat) : Nat :=
  let rpm := (List.range (s.svRows a 0x0001)).map (fun r => s.svRow a 0x0001 r 24 0 2 * 8)
  let v := fun (r : Nat) => s.svRow a 0x0001 r 24 off 2
  let g := gridPlace rpm speed8
  mix (v g.1) (v (Nat.min (g.1 + 1) (rpm.length - 1))) g.2.1 g.2.2 / g.2.2

/-- The set at a speed: CKP CKI CKD FKP FKI CILIM FILIM NOTCH1 NOTCH2. -/
def State.coefSet (s : State) (a : Act) (speed8 : Nat) : List Nat :=
  [2, 4, 6, 8, 10, 12, 14, 16, 18].map (fun o => s.gainAt a o speed8)

/-- One integrator at an adoption (R323): state scaled by KI_old / KI_new, its contribution clamped; and whether
anti-windup is held. The state kept is the contribution. -/
def adopt (x : Int) (oldLim newLim : Nat) : Int × Bool :=
  let c := if x < -(newLim : Int) then -(newLim : Int) else if (newLim : Int) < x then (newLim : Int) else x
  (c, decide (x.natAbs = oldLim ∧ oldLim ≠ 0) || c != x)

/-- Both servo helpers adopt a new set. -/
def State.adoptCoefs (s : State) (a : Act) (speed8 : Nat) : State :=
  let old := (s.sv a).coefs
  let new := s.coefSet a speed8
  let lim := fun (l : List Nat) (i : Nat) => (l[i]?).getD 0
  let c := adopt (s.sv a).cinteg (lim old 5) (lim new 5)
  let s1 := s.modSv a (fun v => { v with coefs := new, coefRpm := speed8, coefPend := none, cinteg := c.1, chold := if c.2 then 8 else v.chold })
  s1.each (s1.svPlaces a) (fun t k =>
    let f := adopt (t.place a k).integ (lim old 6) (lim new 6)
    t.modPlace a k (fun p => { p with integ := f.1, hold := if f.2 then 8 else p.hold }))

/-- A new set is due: the slewed set-point is 1 % or more from the speed of the set in use, or none is in use. -/
def State.coefDue (s : State) (a : Act) : Bool :=
  let r := (s.sv a).coefRpm
  let n := s.fld SP_SPEED.SLEWED
  r == 0 || decide (r ≤ 100 * (if r < n then n - r else r - n))

/-- An integrator's next value: held unless it may move; during anti-windup only toward zero (R301, R323). -/
def integStep (x d : Int) (lim hold : Nat) : Int :=
  let y := x + d
  let z := if y < -(lim : Int) then -(lim : Int) else if (lim : Int) < y then (lim : Int) else y
  if hold = 0 || z.natAbs < x.natAbs then z else x

/-! ### Park, load and retract (R318, R320, R104) -/

/-- LOADI of table 0x0005, in mA. -/
def State.loadI (s : State) (a : Act) : Int := (s.loopLim a 22 2 : Int)

/-- A load starts (R318): VCM_x_EN high, LOADI; the coefficient set of the speed is in use, its integrators at rest. -/
def State.startLoad (s : State) (a : Act) : State :=
  let g := s.loadGroup a
  let s0 := (s.takeGroup a g (s.groupHeads a g)).setFld (SV_STAT.ACTIVE (actNum a)) 0
  let s1 := (s0.setVcm a true (s.loadI a)).setFld (SV_WEDGE.REV (actNum a)) 0
  (s1.modSv a (fun v => { v with
    attempts := v.attempts + 1, reload := false, faultPend := false, cmiss := 0, fmiss := 0, isnBad := 0, maBad := 0, grpAcq := false,
    coefPend := none, cinteg := 0, chold := 0, coefRpm := s.fld SP_SPEED.SLEWED, coefs := s.coefSet a (s.fld SP_SPEED.SLEWED) })).svGoto a svLoading

/-- A park request reaches an actuator in a loaded state: gates closed, seek to the ramp, -LOADI. -/
def State.parkAct (s : State) (a : Act) : State :=
  if s.svLoaded a && s.svState a != svUnloading then
    ((((s.closeGates a).modSv a (fun v => { v with seekWait := none })).setVcm a true (-(s.loadI a))).setFld (SV_STAT.ACTIVE (actNum a)) 0).svGoto a svUnloading
  else s

def State.parkBoth (s : State) : State := (s.parkAct .A).parkAct .B

/-- RET_x_L low and Retracting, for a loaded actuator; `fault` makes the release lead to Faulted (R104, R318, R320). -/
def State.retractAct (s : State) (a : Act) (fault : Bool) : State :=
  if s.svState a == svRetracting then
    if fault then s.modSv a (fun v => { v with faultPend := true }) else s
  else if s.svLoaded a then
    let s1 := (s.closeGates a).modPins (fun p => { p with ret := p.ret.put a true, vcmEn := p.vcmEn.put a false, vcmCmd := p.vcmCmd.put a 0, vcmCode := p.vcmCode.put a 2048 })
    let s2 := (s1.modSv a (fun v => { v with faultPend := fault, seekWait := none, reload := false })).setFld (SV_STAT.ACTIVE (actNum a)) 0
    ((s2.setBit PW_STAT.RETRACT).leaveGroup a).svGoto a svRetracting
  else if fault && s.svState a == svParked then (s.modPins (fun p => { p with vcmEn := p.vcmEn.put a false })).svGoto a svFaulted
  else s

/-- Clear the faults of an actuator: Faulted to Parked at Restoring; heads that left rejoin (R317, R318). The W1C bits of SV_FAULT
stay until host software clears them (R15; DEDUCED, assumption 31). -/
def State.clearActFaults (s : State) (a : Act) : State :=
  (if s.svState a == svFaulted then s.svGoto a svParked else s).modSv a (fun v => { v with
    attempts := 0, cmiss := 0, fmiss := 0, missed := false, isnBad := 0, maBad := 0,
    heads := SMap.mapAll (fun _ => HeadSt.reset) v.heads (fun _ x => { x with alone := false }) })

/-! ### Targets (R314) -/

/-- The displacement that the microactuator of place `k` has been commanded to, in pu of its surface. -/
def State.maDisp (s : State) (a : Act) (k : Nat) : Int :=
  let h := (s.place a k).head
  ofTwos 16 (s.fld (SV_MA.CMD (actNum a) k)) * (s.maRow a h 6 * 256 : Nat) / (1000 * Nat.max 1 (s.maRow a h 2) : Nat)

/-- The target track of place `k`: the primary's, or of a secondary the track of its own surface whose centre lies nearest to where its
head is when the primary is on target. -/
def State.placeTarget (s : State) (a : Act) (k : Nat) : Nat :=
  let t := s.fld (SV_TARGET.TRACK (actNum a))
  if k = 0 then t else ((256 * (t : Int) + (s.place a k).offs + 128) / 256).toNat

/-! ### The coarse loop (R300) -/

/-- The wedge period in ns at the measured speed (1/8 rpm). -/
def wedgeNs (speed8 : Nat) : Nat := 960000000 / Nat.max 1 speed8

/-- The current limit that the I2t estimate allows (R300). -/
def State.thermLimit (s : State) (a : Act) : Nat :=
  let iv := s.loopLim a 0 2
  let it := s.loopLim a 2 2
  let l := it * it * (s.loopLim a 4 2 * 100000000)
  let e := (s.sv a).i2t
  if 2 * e < l then iv else if l ≤ e then it else iv - (iv - it) * (2 * e - l) / Nat.max 1 l

/-- The I2t estimate one wedge on, with applied current `i` in mA (mA2 ns). -/
def State.i2tStep (s : State) (a : Act) (i : Int) : Nat :=
  let dt := wedgeNs (s.fld SP_SPEED.SPEED)
  let e := (s.sv a).i2t
  e + i.natAbs * i.natAbs * dt - e * dt / Nat.max 1 (s.loopLim a 4 2 * 100000000)

/-- The candidate of the seek velocity limit: KV x (v_p - s v), KV with 8 fraction bits, speeds in tracks per ms with 8
fraction bits; `d` the remaining distance in tracks. -/
def State.velCand (s : State) (a : Act) (sgn v256 : Int) (d : Nat) : Int :=
  let vp := Nat.min (s.loopLim a 6 2 * 10 * 256) (Nat.sqrt (2 * s.loopLim a 8 2 * d * 65536))
  (s.loopLim a 10 2 : Int) * ((vp : Int) - sgn * v256) / 65536

/-- The announced current at a tick: the sample of the profile that DELAY after its start has reached. -/
def Announce.now (n : Announce) (tick : Nat) : Int :=
  let t : Int := (tick : Int) - n.start - (n.delay * 25 : Nat)
  if t < 0 then 0 else (n.prof[t.toNat / Nat.max 1 (n.step * 25)]?).getD 0

/-- Sum of the feed-forward terms in mA, clamped to FFMAX (R325, R326); `shk` is SHK_x - 0.6 V after the filter, in mV. -/
def State.feedForward (s : State) (a : Act) (shk : Int) : Int :=
  if s.svRows a 0x0006 = 0 then 0
  else
    let lim : Int := s.svRow a 0x0006 0 16 2 2
    let own := ofTwos 16 (s.svRow a 0x0006 0 16 4 2) * shk / 1000
    let sum := (s.sv a).announces.foldl (fun x (n : Announce) => x + n.couple * n.now s.tick / 4096) own
    if sum < -lim then -lim else if lim < sum then lim else sum

/-- The winning loop and the command (R300): candidates in the order of the table, the first of the lowest. -/
def lowest : Nat → List (Nat × Int) → Nat × Int
  | d, [] => (d, 0)
  | _, [x] => x
  | d, x :: y :: l => if (lowest d (y :: l)).2 < x.2 then lowest d (y :: l) else x

end Sys2Proof.Machine
end

