-- ==== Sys2Proof/Machine/LaneOps.lean ====
section
/-! DEFINITION. Lanes (R353 to R379): status records, the end of a lane's work, re-reads and unreadable frames. -/
namespace Sys2Proof.Machine

/-- Status bits of R375. -/
def lsFound : Nat := 1
def lsSyncMiss : Nat := 2
def lsOverrun : Nat := 4
def lsAborted : Nat := 8
def lsSkipped : Nat := 16
def lsInlineOk : Nat := 32

/-- TRACK of a frame header: track in bits 23:0, head in bits 28:24 (R361). -/
def trackWord (surf track : Nat) : Nat := surf * 2 ^ 24 + track

/-- Surface of a frame command of lane `l`. -/
def State.cmdSurf (s : State) (l : Nat) (c : FrameCmd) : Nat := surfNum (s.lnAct l) c.head

/-- Post a status record to the lane's sequencer (R375). -/
def State.postStatus (s : State) (l : Nat) (r : StatusRec) : State :=
  s.modLane l (fun x => { x with statuses := x.statuses ++ [r] })

/-- The record of a command that reads nothing: SKIPPED or ABORTED. -/
def State.emptyRec (s : State) (l : Nat) (c : FrameCmd) (st : Nat) : StatusRec :=
  ⟨c.frame, st, 0, 0, l, 0, trackWord (s.cmdSurf l c) c.track, 0⟩

/-- Reads waiting for a frame stop waiting for it. -/
def State.unwait (s : State) (pfn : Nat) : State :=
  s.modNvme (fun n => { n with inflight := n.inflight.map (fun m => { m with waits := m.waits.filter (· != pfn) }) })

/-- A frame is unreadable (R416): recorded, counted, and lost to its stripe, which Tier L restores (R492, R493). -/
def State.unreadable (s : State) (surf track frame cause : Nat) : State :=
  let p := s.pfn surf track frame
  let s1 := (s.record 0x0E01 (leBytes 4 (trackWord surf track) ++ leBytes 2 frame ++ leBytes 1 cause ++ zeros 1)).bump DD_UNREAD.TOTAL |>.modNvme (fun n => { n with unread := n.unread + 1 })
  let s2 := if cause = 1 then s1.bump DD_UNREAD.TIMEOUT else s1
  let s3 := if (s2.stripeOf p).isSome && !s2.tier.lost.contains p then
      s2.modTier (fun t => { t with lost := t.lost ++ [p], recons := if t.recons.any (fun r => r.pfn == p) then t.recons else t.recons ++ [⟨p, none, true⟩] })
    else s2
  s3.unwait p

/-- Direct re-reads of a frame so far. -/
def State.directCount (s : State) (surf track frame : Nat) : Nat :=
  match s.decode.direct.find? (fun x => x.1 == surf && x.2.1 == track && x.2.2.1 == frame) with
  | some x => x.2.2.2
  | none => 0

def State.setDirect (s : State) (surf track frame n : Nat) : State :=
  s.modDecode (fun d => { d with direct := d.direct.filter (fun x => !(x.1 == surf && x.2.1 == track && x.2.2.1 == frame)) ++ (if n = 0 then [] else [(surf, track, frame, n)]) })

/-- Ask for a re-read. -/
def State.askReread (s : State) (r : Reread) : State :=
  s.modLanes (fun x => if x.rereads.contains r then x else { x with rereads := x.rereads ++ [r] })

/-- A direct re-read of R376: after 8 of one frame it is unreadable (R415). -/
def State.reread (s : State) (l : Nat) (c : FrameCmd) : State :=
  let sf := s.cmdSurf l c
  if 8 ≤ s.directCount sf c.track c.frame then (s.setDirect sf c.track c.frame 0).unreadable sf c.track c.frame 0
  else s.askReread ⟨sf, c.track, c.frame, 0⟩

/-- ABORTED for the current and the queued frames of a lane (R378), each to be read again once the domain is Serving (R376). A
calibration read is not repeated (R428). -/
def State.laneAbort (s : State) (l : Nat) : State :=
  let x := s.lane l
  let s1 := s.each (x.cur.toList ++ x.queue) (fun t c =>
    let t1 := t.postStatus l (t.emptyRec l c lsAborted)
    if c.cal then t1 else t1.reread l c)
  s1.modLane l (fun y => { y with cur := none, queue := [], found := false, missed := false, inline := false, erased := 0, offTrack := false })

/-- ABORTED for the queued frames of a lane; the current one goes on (R168). -/
def State.laneAbortQueue (s : State) (l : Nat) : State :=
  let s1 := s.each (s.lane l).queue (fun t c =>
    let t1 := t.postStatus l (t.emptyRec l c lsAborted)
    if c.cal then t1 else t1.reread l c)
  s1.modLane l (fun y => { y with queue := [] })

/-- The lane goes Off with its frames ABORTED; LS is free then. -/
def State.laneOff (s : State) (l : Nat) : State :=
  if s.lnState l == lnOff then s
  else
    let s1 := (s.laneAbort l).laneDark l
    if l = 8 then (s1.clrBit (LN_STAT.STANDIN 8)).modCal (fun c => { c with lsUse := 0 }) else s1

/-- Every lane connected to an actuator goes Off. -/
def State.lanesOff (s : State) (a : Act) : State :=
  s.each lanes9 (fun t l => if t.lnAct l == a then t.laneOff l else t)

end Sys2Proof.Machine
end

