-- ==== Sys2Proof/Machine/SpindleOps.lean ====
section
/-! DEFINITION. The spindle (R253 to R287): states, drives, braking, speed, set-points and the streaming map. -/
namespace Sys2Proof.Machine

def spStopped : Nat := 0
def spObserving : Nat := 1
def spShortBraking : Nat := 2
def spAligning : Nat := 3
def spAccelerating : Nat := 4
def spLocked : Nat := 5
def spSlewing : Nat := 6
def spCoasting : Nat := 7
def spFaulted : Nat := 8

def State.spState (s : State) : Nat := s.fld SP_STAT.STATE

/-- Accelerating, Locked or Slewing. -/
def State.spTurning (s : State) : Bool := s.spState == spAccelerating || s.spState == spLocked || s.spState == spSlewing

/-- Enter a spindle state; ATSPEED stays only in Locked and Slewing. -/
def State.spGoto (s : State) (st : Nat) : State :=
  let s1 := s.setFld SP_STAT.STATE st
  if st = spLocked || st = spSlewing then s1 else s1.clrBit SP_STAT.ATSPEED

/-- The bridge; SP_STAT.SHORT shows shorted windings. -/
def State.spDrive (s : State) (d : Drive) : State :=
  (s.modSp (fun p => { p with drive := d, alignI := 0, overCount := 0 })).setFld SP_STAT.SHORT (if d = .short then 1 else 0)

/-- The spindle is Locked at a set-point of 3,600 rpm or more (R270). -/
def State.spReady (s : State) : Bool := s.spState == spLocked && 28800 ≤ s.fld SP_SPEED.SLEWED

/-- A spindle fault is latched and recorded, with the low half of SP_FAULT as it then stands (R280, R622). -/
def State.spRecord (s : State) (f : Fld) : State :=
  let s1 := s.setBit f
  s1.record 0x0A01 (leBytes 2 (s1.reg SP_FAULT.REG.addr).toNat ++ leBytes 2 (s.fld SP_SPEED.SPEED) ++ leBytes 2 (s.fld PW_VM.VM) ++ zeros 2)

/-- The speed zone of a set-point in 1/8 rpm; 0xF below 3,600 rpm (R269). -/
def speedZone (v : Nat) : Nat := if v < 28800 then 0xF else Nat.min 11 ((v - 28800) / 2400)

/-- Set the slewed set-point, in 1/8,000 rpm. -/
def State.setSlewed (s : State) (m : Nat) : State :=
  ((s.modSp (fun p => { p with slewMilli := m })).setFld SP_SPEED.SLEWED (m / 1000)).setFld SP_STAT.ZONE (speedZone (m / 1000))

/-- Motor parameters, in the order RS, LD, LQ, KE, that the observer is built on (R262). -/
def State.observerModel (s : State) : List Nat := [s.motor 2 2, s.motor 4 2, s.motor 6 2, s.motor 8 2]

/-- IRUN in mA. -/
def State.irun (s : State) : Nat := s.motor 14 2

/-- The gate drives go off and the phase voltages are watched (R271, R274). -/
def State.spObserve (s : State) : State :=
  (s.spDrive .off).spGoto spObserving

/-- A start begins: attempts count from here, a chopper left on goes off, and the bar of R279 ends. The set-point ramps from 0, or from
the speed found (R271). -/
def State.spStart (s : State) : State :=
  let s1 := s.modSp (fun p => { p with attempts := 0, startPend := false, holding := false, barred := false, chopFault := false })
  let s2 := (s1.modPins (fun p => { p with brkG := false })).clrBit SP_STAT.CHOPON
  ((s2.setFld SP_STAT.POSSRC 0).setSlewed 0).spObserve

/-- The windings are shorted; both actuators park on entry to a braking action (R270). -/
def State.spShort (s : State) : State := ((s.parkBoth.modSp (fun p => { p with iCmd := 0, dCmd := 0 })).spDrive .short).setFld SP_STAT.POSSRC 0

/-- A start under R271: refused in Base-note mode, during a thermal shutdown (R104), and until VM has been above warning clear for 1 ms
in VM state Normal (R97, R98). -/
def State.spBegin (s : State) : State :=
  if s.bit FB_STAT.BASENOTE || s.thermalDown || s.fld PW_STAT.VMSTATE != 0 || !s.power.vmGood then s
  else if s.spState == spStopped || s.spState == spCoasting then s.spStart
  else if s.spState == spShortBraking then s.modSp (fun p => { p with startPend := true })
  else s

/-- A stop request (R270, R271): park, brake regeneratively at IRUN to 600 rpm unless NOREGEN, then short the windings. In any other
state no row takes it. -/
def State.spStop (s : State) : State :=
  if s.spTurning then
    let s1 := s.parkBoth
    let s2 := s1.modSp (fun p => { p with startPend := false, holding := false, iCmd := -(s.irun : Int), dCmd := 0 })
    if 4800 < s.fld SP_SPEED.SPEED && !s.bit SP_STAT.NOREGEN then (s2.spDrive .regen).spGoto spShortBraking
    else s2.spShort.spGoto spShortBraking
  else s

/-- The retract-domain trigger of R104: RET_x_L of every loaded actuator, every spindle gate drive off, and the spindle
Coasting from any state (R271); no chopper action applies until the restart (R279). The peak of a chopper activation that ends so is
recorded (R276): no command measures it, so it is a free value. -/
def State.retractTrigger (s : State) : State :=
  let s1 := ((s.retractAct .A false).retractAct .B false).spDrive .off
  let s2 := if s1.pins.brkG then s1.drawFree.setFld SP_BRK.IPEAK (Config.freeValue s1.freeIdx).toNat else s1
  let s3 := s2.modPins (fun p => { p with brkG := false })
  ((s3.clrBit SP_STAT.CHOPON).modSp (fun p => { p with startPend := false, holding := false, barred := true, iCmd := 0, dCmd := 0 })).spGoto spCoasting

/-- The speed in 1/8 rpm that the last 500 wedges of a following actuator give; none without them (R267). A revolution of t ticks is
12 x 10^9 / t eighths of a rpm. -/
def State.wedgeSpeed (s : State) : Option Nat :=
  match [Act.A, Act.B].find? (fun a => s.svState a == svFollowing && (s.sv a).wedgeTicks.length == 501) with
  | none => none
  | some a =>
    let t := (s.sv a).wedgeTicks.headD 0 - (s.sv a).wedgeTicks.getLastD 0
    some (Nat.min 0xFFFF ((12000000000 + t / 2) / Nat.max 1 t))

/-- Magnitude of the difference. -/
def absDiff (a b : Nat) : Nat := if a < b then b - a else a - b

/-- The speed is measured anew (R267): the bar of R286 follows the error, and below UNLOAD loaded heads are parked
(R318). -/
def State.noteSpeed (s : State) (v : Nat) : State :=
  let s1 := s.setFld SP_SPEED.SPEED v
  let sl := s.fld SP_SPEED.SLEWED
  let s2 := s1.modSp (fun p => { p with speedBad := decide (sl < 500 * absDiff v sl) })
  if v < s.motor 20 2 * 8 && s.acc.applied != [] then s2.parkBoth else s2

/-- A new target (1/8 rpm): a Locked spindle slews (R271). -/
def State.setTarget (s : State) (t : Nat) : State :=
  if t = s.fld SP_TARGET.TARGET then s
  else
    let s1 := s.setFld SP_TARGET.TARGET t
    if s1.spState == spLocked then s1.setFld SP_STAT.STATE spSlewing else s1

/-- STREAMSRC, MINRPM and SLEW of the spindle section's header. -/
def State.streamSrc (s : State) : Nat := s.spHdr 0 1
def State.minRpm (s : State) : Nat := s.spHdr 2 2
def State.slewRate (s : State) : Nat := s.spHdr 4 2

/-- Streaming mode is on and has a source. -/
def State.streamOn (s : State) : Bool := s.nvme.streaming && s.streamSrc != 0

/-- The map of table 0x0204 with the 1 % margin of R282, interpolated and rounded to the nearest rpm, clamped to MINRPM to
7,200; none for an invalid value. The value is `num / den`, exactly. -/
def State.mapSource (s : State) (num den : Nat) : Option Nat :=
  let n := s.spRows 0x0204
  let inp := fun (r : Nat) => s.spRow 0x0204 r 8 0 4
  let rpm := fun (r : Nat) => s.spRow 0x0204 r 8 4 2
  if n = 0 || num * 100 < inp 0 * 99 * den || inp (n - 1) * 101 * den < num * 100 then none
  else
    let g := gridPlace ((List.range n).map (fun r => inp r * den)) num
    let j := Nat.min (g.1 + 1) (n - 1)
    let v := (2 * mix (rpm g.1) (rpm j) g.2.1 g.2.2 + g.2.2) / (2 * g.2.2)
    some (Nat.max s.minRpm (Nat.min 7200 v))

/-- A mapped value is adopted as the target if it differs from it by 2 rpm or more, after FOLLOW from the value then held (R281,
R285). -/
def State.adoptMapped (s : State) (r : Nat) : State :=
  match s.spindle.followMap with
  | some m => if absDiff m r < 2 then s else (s.modSp (fun p => { p with followMap := none })).setTarget (r * 8)
  | none => if absDiff (s.fld SP_TARGET.TARGET) (r * 8) < 16 then s else s.setTarget (r * 8)

/-- A source value `num / den`, in mHz or mV (R281, R284, R285): SP_SRCVAL, the end of a hold, and the target where streaming mode uses
it. -/
def State.sourceValue (s : State) (num den : Nat) : State :=
  let s1 := s.setFld SP_SRCVAL.VALUE (num / den)
  match s.mapSource num den with
  | none => s1.clrBit SP_SRCVAL.VALID
  | some r =>
    let s2 := ((s1.setBit SP_SRCVAL.VALID).modSp (fun p => { p with srcTick := s.tick, mapped := r })).clrBit SP_STAT.SRCHOLD
    if s2.streamOn then s2.adoptMapped r else s2

/-- The target outside streaming mode, or without a source: 7,200 rpm (R281). -/
def fullSpeed : Nat := 57600

/-- The largest number below `acc` + 2^k, of those that add bits to `acc`, whose square is at most `x`. -/
def isqrt (x : Nat) : Nat → Nat → Nat
  | 0, acc => acc
  | k + 1, acc => isqrt x k (if (acc + 2 ^ k) * (acc + 2 ^ k) ≤ x then acc + 2 ^ k else acc)

/-- The gains KP, KI of table 0x0203 at a speed. -/
def State.speedGains (s : State) (v : Nat) : Nat × Nat :=
  let n := s.spRows 0x0203
  let g := gridPlace ((List.range n).map (fun r => s.spRow 0x0203 r 8 0 2 * 8)) v
  let j := Nat.min (g.1 + 1) (n - 1)
  let f := fun (off : Nat) => mix (s.spRow 0x0203 g.1 8 off 2) (s.spRow 0x0203 j 8 off 2) g.2.1 g.2.2 / Nat.max 1 g.2.2
  (f 2, f 4)

end Sys2Proof.Machine
end

