-- ==== Sys2Proof/Machine/EbOps.lean ====
section
/-! DEFINITION. The enclosure bus (R588 to R605): frames, HEALTH, tokens and elections. -/
namespace Sys2Proof.Machine

/-! ### The enclosure section -/

def State.enclId (s : State) : Nat := s.enclCfg 0 4
def State.bay (s : State) : Nat := s.enclCfg 4 1
def State.plcaNode (s : State) : Nat := s.enclCfg 5 1
def State.plcaCount (s : State) : Nat := s.enclCfg 6 1
def State.spinTok (s : State) : Nat := s.enclCfg 7 1
def State.plcaOn (s : State) : Bool := natBit (s.enclCfg 8 1) 0

/-- Election states of EB_STAT.ELECT. -/
def elListening : Nat := 0
def elClaiming : Nat := 1
def elMaster : Nat := 2
def elFollower : Nat := 3
def elOff : Nat := 4

def State.isMaster (s : State) : Bool := s.fld EB_STAT.ELECT == elMaster

/-- Enclosure time: tick count / 25 + EB_ETOFF (R598). -/
def State.enclTime (s : State) : Nat := (s.tick / 25 + s.fld EB_ETOFF.OFFSET) % 2 ^ 32

/-! ### Sending (R591, R595) -/

def ebClaim : Nat := 1
def ebTick : Nat := 2
def ebTokReq : Nat := 3
def ebTokGrant : Nat := 4
def ebTokRet : Nat := 5
def ebSeek : Nat := 6
def ebHealth : Nat := 7

/-- The order in which waiting frames are loaded. -/
def ebRank (type : Nat) : Nat :=
  if type = ebTick then 0 else if type = ebSeek then 1
  else if type = ebTokReq || type = ebTokGrant || type = ebTokRet then 2 else if type = ebHealth then 3 else 4

/-- The frame to load next: the lowest rank, the oldest within it. -/
def ebNext : List EbFrame → Option EbFrame
  | [] => none
  | f :: l => match ebNext l with
    | some g => if ebRank g.type < ebRank f.type then some g else some f
    | none => some f

/-- The group address, and the unicast address of a BAY and NODE (R594). -/
def ebMac : Option (Nat × Nat) → List Byte
  | none => [0x03, 0xEE, 0x1E, 0x00, 0x00, 0x01]
  | some d => [0x02, 0xEE, 0x1E, 0x00] ++ leBytes 1 d.1 ++ leBytes 1 d.2

/-- ENCLID, BAY and PLCANODE of the enclosure section. -/
def State.ebId (s : State) : Nat × Nat × Nat := (s.enclId, s.bay, s.plcaNode)

/-- The payload of a frame (R595) of the device `id`. -/
def ebPayload (id : Nat × Nat × Nat) (seq etime : Nat) (f : EbFrame) : List Byte :=
  [1] ++ leBytes 1 f.type ++ leBytes 4 id.1 ++ leBytes 1 id.2.1 ++ leBytes 1 id.2.2 ++ leBytes 2 seq ++ leBytes 4 etime ++ f.body

/-- The Ethernet II frame (R594): addresses, EtherType 0x88B5, the payload padded to the minimum of 46 bytes, the FCS. -/
def etherFrame (id : Nat × Nat × Nat) (dst : Option (Nat × Nat)) (payload : List Byte) : List Byte :=
  let b := ebMac dst ++ ebMac (some (id.2.1, id.2.2)) ++ [0x88, 0xB5] ++ payload ++ zeros (46 - payload.length)
  b ++ leBytes 4 (crc32 b)

/-- A frame of the device `id` leaves. -/
def State.ebEmit (s : State) (id : Nat × Nat × Nat) (etime : Nat) (f : EbFrame) : State :=
  (s.modEb (fun e => { e with seq := (e.seq + 1) % 65536, lastSent := etherFrame id f.dst (ebPayload id e.seq etime f) })).bump EB_TX.SENT

/-! ### HEALTH (R604) -/

/-- STATE of HEALTH. -/
def State.healthState (s : State) : Nat :=
  if s.bit FB_STAT.BASENOTE then 1 else if s.power.hibernate then 3
  else if s.power.phase == .hold then 4 else if s.fld PW_STAT.STATE == 2 then 2 else 0

/-- The HEALTH body (R596). -/
def State.healthBody (s : State) : List Byte :=
  let b := fun (x : Bool) (k : Nat) => if x then k else 0
  leBytes 1 s.healthState ++ leBytes 1 (s.fld SP_STAT.STATE) ++ leBytes 1 (s.fld TH_STAT.TJ / 4) ++
    leBytes 1 (b s.pins.faultL 1 + b s.alertAsserted 2 + b s.pins.thermtripL 4 + b (s.bit PX_STAT.REBUILD) 8 + b (s.bit EB_TOKEN.HELD) 16) ++
    leBytes 2 (s.fld SP_SPEED.SPEED / 8) ++ leBytes 2 (s.fld PW_VM.VM) ++ leBytes 4 (s.fld PX_FAILED.SURF) ++
    leBytes 4 (s.fld AC_GEN.GEN) ++ leBytes 1 (s.fld PL_STAT.STATE)

/-- The fields of HEALTH whose change calls for a frame: all but TJMAX, SPEED and VM. -/
def healthFields (b : List Byte) : List Byte := b.take 2 ++ slice b 3 1 ++ b.drop 8

/-! ### Loading and sending (R590, R591) -/

/-- H21, while DE is Serving, loads the next frame into an empty buffer. A HEALTH is formed as it is loaded and stands for every cause of
one that is pending then, to the group where they name more than one destination; the PHY keeps its body (R604). -/
def State.ebLoad (s : State) : State :=
  if !s.isServing .DE || s.eb.buf.isSome then s
  else match ebNext s.eb.tx with
    | none => s
    | some f =>
      if f.type = ebHealth then
        let all := s.eb.tx.filter (fun g => g.type == ebHealth)
        let body := s.healthBody
        let g : EbFrame := ⟨ebHealth, if all.all (fun x => x.dst == f.dst) then f.dst else none, body⟩
        s.modEb (fun e => { e with tx := e.tx.filter (fun x => x.type != ebHealth), buf := some ⟨g, s.enclTime, 0⟩, health := body, phyId := s.ebId })
      else s.modEb (fun e => { e with tx := e.tx.erase f, buf := some ⟨f, s.enclTime, 0⟩ })

/-- A frame starts to wait for the buffer. Nothing is queued while DE is not Serving. -/
def State.ebSend (s : State) (type : Nat) (dst : Option (Nat × Nat)) (body : List Byte) : State :=
  if !s.isServing .DE then s else (s.modEb (fun e => { e with tx := e.tx ++ [⟨type, dst, body⟩] })).ebLoad

/-- A HEALTH is called for, for the group or a querier. -/
def State.sendHealth (s : State) (dst : Option (Nat × Nat)) : State := s.ebSend ebHealth dst []

/-- A field of HEALTH other than SPEED, VM and TJMAX has changed since the last one was loaded, and none is waiting. -/
def State.healthWatch (s : State) : State :=
  if healthFields s.healthBody != healthFields s.eb.health && !s.eb.tx.any (fun f => f.type == ebHealth) then s.sendHealth none else s

/-- The frame in the buffer leaves. A TICK carries the time at which it leaves, for its sender stamps it then (R598). -/
def State.ebTransmit (s : State) : State :=
  match s.eb.buf with
  | none => s
  | some l => ((s.ebEmit s.ebId (if l.frame.type = ebTick then s.enclTime else l.etime) l.frame).modEb (fun e => { e with buf := none, sentCycle := true })).ebLoad

/-- The address of the master. -/
def State.masterAddr (s : State) : Option (Nat × Nat) := some (s.fld EB_MASTER.BAY, s.fld EB_MASTER.NODE)

/-! ### Tokens (R600, R601) -/

/-- EB_TOKEN's master fields. -/
def State.tokSync (s : State) : State :=
  if s.isMaster then
    ((s.setFld EB_TOKEN.FREE (s.spinTok - s.eb.holders.length)).setFld EB_TOKEN.TAKEN s.eb.holders.length).setFld EB_TOKEN.QUEUE s.eb.queue.length
  else ((s.setFld EB_TOKEN.FREE 0).setFld EB_TOKEN.TAKEN 0).setFld EB_TOKEN.QUEUE 0

/-- This device's token has arrived. -/
def State.tokenArrives (s : State) : State :=
  if s.eb.startWant then (s.setBit EB_TOKEN.HELD).clrBit EB_TOKEN.PEND
  else ((s.clrBit EB_TOKEN.PEND).ebSend ebTokRet s.masterAddr (leBytes 2 (s.fld EB_MASTER.MEPOCH)))

/-- The master grants while tokens are free, in order (R600). -/
def State.grantPump : Nat → State → State
  | 0, s => s.tokSync
  | n + 1, s =>
    match s.eb.queue with
    | [] => s.tokSync
    | q :: rest =>
      if !s.isMaster || s.eb.epochWait || s.spinTok ≤ s.eb.holders.length then s.tokSync
      else
        let s1 := s.modEb (fun e => { e with queue := rest, holders := e.holders ++ [{ q with tick := s.tick }] })
        let s2 := if q.node = s.plcaNode && q.bay = s.bay then s1.tokenArrives
          else s1.ebSend ebTokGrant (some (q.bay, q.node)) (leBytes 1 q.node ++ zeros 1 ++ leBytes 2 q.lease ++ leBytes 2 (s.fld EB_MASTER.MEPOCH))
        State.grantPump n s2

/-- LEASE of a request: TSTART + 1 s, in 100 ms units (R600). -/
def State.leaseUnits (s : State) : Nat := (s.startProf 6 2 + 1) * 10

/-- A request joins the master's queue in order of arrival, the lower NODE first within one PLCA cycle (R600). -/
def queueReq (q : List EbToken) (x : EbToken) : List EbToken :=
  q.takeWhile (fun e => e.cycle != x.cycle || decide (e.node < x.node)) ++ x :: q.dropWhile (fun e => e.cycle != x.cycle || decide (e.node < x.node))

/-- Send a token request, or queue it where this device is the master. -/
def State.sendTokReq (s : State) (held : Bool) : State :=
  if s.isMaster then
    if held then (s.modEb (fun e => { e with holders := e.holders ++ [⟨s.plcaNode, s.bay, s.leaseUnits, s.tick, e.cycle⟩] })).tokSync
    else State.grantPump 64 (s.modEb (fun e => { e with queue := queueReq e.queue ⟨s.plcaNode, s.bay, s.leaseUnits, s.tick, e.cycle⟩ }))
  else s.ebSend ebTokReq s.masterAddr (leBytes 2 s.leaseUnits ++ leBytes 1 (if held then 1 else 0))

/-- A spin-up is wanted: a token is requested (R271, R600). Nothing starts in Base-note mode (R667). -/
def State.wantSpin (s : State) : State :=
  if s.bit FB_STAT.BASENOTE || s.eb.startWant then s
  else
    let s1 := s.modEb (fun e => { e with startWant := true })
    if s1.bit EB_TOKEN.HELD then s1 else (s1.setBit EB_TOKEN.PEND).sendTokReq false

/-- The token goes back: TOKRET, or the master's own count (R600). A request still waiting is withdrawn. -/
def State.returnToken (s : State) : State :=
  let s0 := s.modEb (fun e => { e with startWant := false })
  if s.bit EB_TOKEN.HELD then
    let s1 := s0.clrBit EB_TOKEN.HELD
    if s.isMaster then State.grantPump 64 (s1.modEb (fun e => { e with holders := e.holders.filter (fun h => !(h.node == s.plcaNode && h.bay == s.bay)) }))
    else s1.ebSend ebTokRet s.masterAddr (leBytes 2 (s.fld EB_MASTER.MEPOCH))
  else ((s0.modEb (fun e => { e with queue := e.queue.filter (fun x => !(x.node == s.plcaNode && x.bay == s.bay)) })).tokSync).clrBit EB_TOKEN.PEND

/-! ### Elections (R597, R599) -/

/-- An election starts: 100 ms of listening. Without PLCA the segment runs CSMA/CD (R592). -/
def State.startElection (s : State) : State :=
  ((((s.when (!s.plcaOn) (fun t => t.setBit EB_STAT.CSMA)).modEb (fun e => { e with electing := true, claims := [] })).setFld EB_STAT.ELECT elListening).setFld EB_MASTER.NODE 0xFF).setFld EB_MASTER.BAY 0xFF

/-- This device's claim: PRIO 1, NODE, IDLOW. -/
def State.ownClaim (s : State) : Nat × Nat × Nat × Nat := (1, s.plcaNode, leNat (slice deviceIdent 0 8), s.bay)

/-- The triple (PRIO, NODE, IDLOW) of `a` is lower than that of `b`. -/
def claimLess (a b : Nat × Nat × Nat × Nat) : Bool :=
  if a.1 != b.1 then decide (a.1 < b.1) else if a.2.1 != b.2.1 then decide (a.2.1 < b.2.1) else decide (a.2.2.1 < b.2.2.1)

/-- A node's rank as far as a TICK shows it: an enclosure manager (NODE 0xFF) ranks below every PV-480. -/
def nodeRank (n : Nat) : Nat := if n = 0xFF then 0 else n + 1

/-- MEPOCH changes (R601): a holder re-asserts, a waiting request is sent again. -/
def State.newEpoch (s : State) : State :=
  if s.bit EB_TOKEN.HELD then s.sendTokReq true else if s.bit EB_TOKEN.PEND then s.sendTokReq false else s

/-- Become master: MEPOCH one above the last heard, the 200 ms wait, the first TICK. Enclosure time is its own tick count divided by 25
(R598). -/
def State.becomeMaster (s : State) : State :=
  let ep := (s.eb.heard + 1) % 65536
  let s1 := ((((s.setFld EB_STAT.ELECT elMaster).setFld EB_MASTER.MEPOCH ep).setFld EB_MASTER.NODE s.plcaNode).setFld EB_MASTER.BAY s.bay).setFld EB_ETOFF.OFFSET 0
  let s2 := s1.modEb (fun e => { e with electing := false, claims := [], heard := ep, holders := [], queue := [], epochWait := true })
  let s3 := s2.newEpoch.tokSync
  s3.ebSend ebTick none (leBytes 2 ep ++ leBytes 1 (s3.fld EB_TOKEN.FREE))

/-- Follow the node that sent a TICK. -/
def State.follow (s : State) (bay node ep : Nat) : State :=
  let changed := s.fld EB_MASTER.MEPOCH != ep || s.fld EB_MASTER.NODE != node || s.fld EB_MASTER.BAY != bay
  let s1 := (((s.setFld EB_STAT.ELECT elFollower).setFld EB_MASTER.MEPOCH ep).setFld EB_MASTER.NODE node).setFld EB_MASTER.BAY bay
  let s2 := (s1.modEb (fun e => { e with electing := false, claims := [], heard := ep, tickSeen := s.tick, holders := [], queue := [], epochWait := false })).tokSync
  if changed then s2.newEpoch else s2

end Sys2Proof.Machine
end

