-- ==== Sys2Proof/Machine/CalOps.lean ====
section
/-! DEFINITION. Lane calibration (R420 to R436): the sets in use, the causes that make a lane due, the end of a run. -/
namespace Sys2Proof.Machine

/-! ### Sets (R420 to R422) -/

/-- Key of a channel set: head as TRACK bits 28:24, reader, speed zone. -/
def setKey (head reader zone : Nat) : Nat := head * 32 + reader * 16 + zone

/-- The ROM default set of a reader. -/
def romSet (reader : Nat) : ChanSet :=
  let f := Config.romChannel reader
  ⟨f 0 % 145, f 1 % 256, f 2 % 256, (List.range 16).map (fun k => f (3 + k) % 1024), f 19 % 1024, f 20 % 1024, f 21 % 65536, f 22 % 64, f 23 % 32, f 24 % 32, 0, 0⟩

def State.chanSet? (s : State) (key : Nat) : Option ChanSet := SMap.get (fun _ => none) s.cal.sets key

/-- The set a lane uses for a head, reader and zone: its own, else that of the nearest zone that has one, the lower on a tie,
else the ROM default (R421). -/
def State.setFor (s : State) (head reader zone : Nat) : ChanSet :=
  let tries := (List.range 12).flatMap (fun d => (if d ≤ zone then [zone - d] else []) ++ (if d != 0 && zone + d < 12 then [zone + d] else []))
  match (tries.filterMap (fun z => s.chanSet? (setKey head reader z))).head? with
  | some c => c
  | none => romSet reader

/-- The head, reader and zone a lane serves (R357). -/
def State.laneReader (s : State) (l : Nat) : Nat :=
  let a := s.lnAct l
  if l < 8 && s.readMode a == 1 && (s.boundLanes a)[1]? == some l then 1 else 0

def State.laneHead (s : State) (l : Nat) : Nat := surfNum (s.lnAct l) (s.fld (LN_STAT.HEAD l))

def State.laneKey (s : State) (l : Nat) : Nat := setKey (s.laneHead l) (s.laneReader l) (s.fld SP_STAT.ZONE)

/-- Write the channel part of a set into a lane's registers, as its calibration leaves them. -/
def State.loadSet (s : State) (l : Nat) (c : ChanSet) : State :=
  let s1 := (((s.setFld (LN_GAIN.START l) c.start).setFld (LN_CTF.CUTOFF l) c.cutoff).setFld (LN_CTF.BOOST l) c.boost).setFld (LN_SYNC.SYNCTH l) c.syncth
  s1.each (List.range 8) (fun t k => (t.setFld (LN_FIR.TAPEVEN l k) ((c.taps[2 * k]?).getD 0)).setFld (LN_FIR.TAPODD l k) ((c.taps[2 * k + 1]?).getD 0))

/-- The lane applies the set for what it serves. -/
def State.applySet (s : State) (l : Nat) : State :=
  s.loadSet l (s.setFor (s.laneHead l) (s.laneReader l) (s.fld SP_STAT.ZONE))

/-! ### Due lanes (R423) -/

/-- TJ and an actuator's TINT in whole degrees. -/
def State.tjDeg (s : State) : Int := ofTwos 16 (s.fld TH_STAT.TJ) / 4
def State.tintDeg (s : State) (a : Act) : Int := ofTwos 8 (s.fld (AS_TINT.TINT (actNum a)))

def State.calDelta (s : State) : Nat := s.policy 0 1

def far (a b : Int) (d : Nat) : Bool := decide ((d : Nat) < (a - b).natAbs)

/-- Causes kept for a lane: bit n is cause n. -/
def State.causes (s : State) (l : Nat) : Nat := SMap.get (fun _ => 0) s.cal.causes l

/-- Cause `n` arises for lane `l`. A run in progress does not satisfy it, but for a host's request (R424, R435). -/
def State.setCause (s : State) (l n : Nat) : State :=
  let s1 := if n = 5 then s
    else s.modCal (fun c => { c with runs := c.runs.map (fun r => if r.lane == l && !natBit r.later n then { r with later := r.later + 2 ^ n } else r) })
  if natBit (s.causes l) n then s1
  else s1.modCal (fun c => { c with causes := SMap.modify (fun _ => 0) c.causes l (fun v => v + 2 ^ n) })

/-- The lane has drifted from its last run, or has had none (causes 1 and 2). -/
def State.drifted (s : State) (l : Nat) : Bool :=
  s.fld (CL_LAST.RESULT l) == 0 || far s.tjDeg (ofTwos 8 (s.fld (CL_LAST.TJ l))) s.calDelta

def State.setDue (s : State) (l : Nat) : Bool :=
  match s.chanSet? (s.laneKey l) with
  | none => true
  | some c => far s.tjDeg (ofTwos 8 c.tj) s.calDelta || far (s.tintDeg (s.lnAct l)) (ofTwos 8 c.tint) s.calDelta

/-- Bring the causes 1 and 2 and CL_STAT.DUE up to date, for the lanes without a run in progress: a run goes on with the values of its
start (R435). LS is due only through causes 1 and 5. -/
def State.calSync (s : State) : State :=
  let s1 := s.each lanes9 (fun t l =>
    if t.cal.runs.any (fun r => r.lane == l) then t
    else
      let t1 := if t.drifted l then t.setCause l 1 else t
      if l < 8 && t.lnState l != lnOff && t.setDue l then t1.setCause l 2 else t1)
  s1.setFld CL_STAT.DUE (lanes9.foldl (fun n l => if s1.causes l != 0 then n + 2 ^ l else n) 0)

/-! ### Runs -/

def State.run? (s : State) (l : Nat) : Option CalRun := s.cal.runs.find? (fun r => r.lane == l)

/-- CL_STAT shows the run in progress, with several in place the one begun first; while LS ends a stand-in, the lane handed back to. -/
def State.runSync (s : State) : State :=
  match s.cal.runs with
  | [] => if s.cal.lsUse == 3 then ((s.setFld CL_STAT.LANE s.cal.handing).setFld CL_STAT.STEP 9).clrBit CL_STAT.INPLACE
    else ((s.setFld CL_STAT.LANE 0xF).setFld CL_STAT.STEP 0).clrBit CL_STAT.INPLACE
  | r :: _ => ((s.setFld CL_STAT.LANE r.lane).setFld CL_STAT.STEP r.step).setFld CL_STAT.INPLACE (if r.inPlace then 1 else 0)

/-- The lane that reads for a run: LS in its stand-in, the lane itself in place. -/
def CalRun.reader (r : CalRun) : Nat := if r.inPlace then r.lane else 8

/-- LS has no frame of its own left. -/
def State.lsIdle (s : State) : Bool := (s.lane 8).queue == [] && (s.lane 8).cur.isNone

/-- LS disconnects: STANDIN cleared, LS free. -/
def State.lsFree (s : State) : State :=
  (((s.clrBit (LN_STAT.STANDIN 8)).setFld (LN_STAT.INSEL 8) 0xF).setFld (LN_STAT.STATE 8) lnOff).modCal (fun c => { c with lsUse := 0 })

/-- Frame commands return to the lane; LS ends its own frames and disconnects at the next wedge window, or at once where its actuator
has none (R427). -/
def State.handBack (s : State) (r : CalRun) : State :=
  let s1 := s.modCal (fun c => { c with runs := c.runs.filter (fun x => x.lane != r.lane) })
  let s2 := if r.inPlace || s1.lnState 8 == lnOff then s1
    else if s1.lsIdle && !s1.svLoaded (s1.lnAct 8) then s1.lsFree
    else s1.modCal (fun c => { c with lsUse := 3, handing := r.lane })
  s2.runSync

/-- The lane that LS stands in for. -/
def State.standsFor (s : State) : Option Nat :=
  if s.cal.lsUse == 1 then (s.cal.runs.find? (fun r => !r.inPlace)).map (fun r => r.lane)
  else if s.cal.lsUse == 3 then some s.cal.handing
  else none

/-- The working lane whose part lane `l` plays (R426). -/
def State.asLane (s : State) (l : Nat) : Nat := if l = 8 then s.standsFor.getD 8 else l

/-- The lane that reads for lane `l`: LS once it stands in with eight valid samples in a row (R426). -/
def State.readsFor (s : State) (l : Nat) : Nat :=
  match s.run? l with
  | some r => if !r.inPlace && decide (8 ≤ r.valid) then 8 else l
  | none => l

/-- A run is abandoned (R435): hands back at once, writes nothing, records nothing. Its requests stay asked. -/
def State.abandonRun (s : State) (r : CalRun) : State :=
  ((s.handBack r).bump CL_ABAND.COUNT).modCal (fun c => { c with asked := c.asked ++ r.owners.map (fun o => (r.lane, o.1, o.2)) })

def State.abandonRuns (s : State) (p : CalRun → Bool) : State := s.each (s.cal.runs.filter p) State.abandonRun

/-- RESULT codes of CL_LAST. -/
def calAccepted : Nat := 1
def calTimedOut : Nat := 2
def calRange : Nat := 3
def calNotBetter : Nat := 4
def calReadBack : Nat := 5

/-- What a run leaves on record: TJ, TINT and zone at its start, result, the causes it satisfied (R424, R433), and the
completions of the host requests it served. -/
def State.runRecord (s : State) (r : CalRun) (result : Nat) : State :=
  let l := r.lane
  let s1 := (((s.setFld (CL_LAST.TJ l) r.tj).setFld (CL_LAST.TINT l) r.tint).setFld (CL_LAST.ZONE l) r.zone).setFld (CL_LAST.RESULT l) result
  let s2 := s1.modCal (fun c => { c with causes := SMap.set (fun _ => 0) c.causes l (((s.run? l).map (fun x => x.later)).getD 0) })
  let s3 := (s2.handBack r).calSync
  s3.each r.owners (fun t o => t.ringComplete o.1 o.2 rsSuccess result)

/-- The degraded mark (R434): LANE, EVENT, RESULT. -/
def State.markDegraded (s : State) (l : Nat) (on : Bool) : State :=
  let s1 := (s.setFld (LN_STAT.DEGRADED l) (if on then 1 else 0)).record 0x0F01 (leBytes 1 l ++ leBytes 1 (if on then 0 else 1) ++ leBytes 1 (s.fld (CL_LAST.RESULT l)) ++ zeros 1)
  if on then s1.unitFault else s1

/-- A run is rejected: the old sets stay; the third in a row marks the lane degraded (R434). -/
def State.rejectRun (s : State) (r : CalRun) (result : Nat) : State :=
  let l := r.lane
  let n := Nat.min 3 (s.fld (CL_LAST.REJCNT l) + 1)
  let s1 := ((s.runRecord r result).bump CL_RUNS.REJECT).setFld (CL_LAST.REJCNT l) n
  let s2 := s1.modCal (fun c => { c with accepts := SMap.set (fun _ => 0) c.accepts l 0 })
  if n = 3 && !s2.bit (LN_STAT.DEGRADED l) then s2.markDegraded l true else s2

/-- A speed-zone change (R435, R423): runs are abandoned, every working lane becomes due, lanes take the set of the new
zone (R421). -/
def State.calZone (s : State) : State :=
  let s1 := s.abandonRuns (fun _ => true)
  (s1.each (List.range 8) (fun t l => if t.lnState l == lnOff then t else (t.setCause l 3).applySet l)).calSync

end Sys2Proof.Machine
end

