-- ==== Sys2Proof/Machine/ReadOps.lean ====
section
/-! DEFINITION. Reads of blocks: what a Read, Compare or Verify finds (R444), the hold of R39, the wait for frames in
recovery (R416) or reconstruction (R492). -/
namespace Sys2Proof.Machine

/-- SLBA and the number of blocks of an I/O command. -/
def Cmd.slba (m : Cmd) : Nat := m.e.cdw10 + m.e.cdw11 * 2 ^ 32
def Cmd.nlb (m : Cmd) : Nat := m.e.cdw12 % 65536 + 1

/-- The global block of LBA `l` of a namespace (R441); in a zoned one by zone and offset (R455). An LBA beyond its zone's capacity
has none: a number stands for it that no map entry ever names, so that it reads as zeros. -/
def State.lbaBlock (s : State) (n : Namespace) (l : Nat) : Nat :=
  if n.zoned then
    let zs := s.zoneSize n
    if l % zs < s.zcap (n.firstSet + l / zs) then n.base + s.zoneBase n (l / zs) + l % zs else 2 ^ 63
  else n.base + l

/-- Global blocks of a command (R441). -/
def State.cmdBlocks (s : State) (m : Cmd) : List Nat :=
  match s.namespace? m.e.nsid with
  | none => []
  | some n => (List.range' m.slba m.nlb).map (s.lbaBlock n)

/-- The hold of R39 for actuator `a` has run out. -/
def State.holdOver (s : State) (a : Act) : Bool := (s.dom (domOfAct a)).leftTick + secTicks 8 ≤ s.tick

/-- Frame `p` is read for reconstruction, for command `o` if one waits. -/
def State.wantRecon (s : State) (p : Nat) (o : Option CmdRef) : State :=
  if s.tier.recons.any (fun r => r.pfn == p && r.owner == o) then s
  else s.modTier (fun t => { t with recons := t.recons ++ [⟨p, o, !s.surfFailed (s.pos (s.readPfn p)).surf⟩] })

def Cmd.ref (m : Cmd) : CmdRef := ⟨m.ctrl, m.sq, m.e.cid⟩

/-- What a set of blocks gives. -/
structure BlocksRes where
  data : List Byte
  bad : Bool
  hurt : Bool
  away : List Act
  lost : List Nat
  deriving DecidableEq, Repr

def State.blocks? (s : State) (gs : List Nat) : BlocksRes :=
  gs.foldl (fun (r : BlocksRes) g =>
    match s.block? g with
    | .data d => { r with data := r.data ++ d }
    | .bad => { r with bad := true }
    | .hurt => { r with hurt := true }
    | .away a => { r with away := if r.away.contains a then r.away else r.away ++ [a] }
    | .lost p => { r with lost := if r.lost.contains p then r.lost else r.lost ++ [p] }) ⟨[], false, false, [], []⟩

/-- The reports of reading the journal pages that hold some of the blocks (R205, R444). -/
def State.noteBlocks (s : State) (gs : List Nat) : State :=
  s.each gs (fun t g => match t.entry (t.mapIndex g) with
    | .journal p => t.notePages [if g % t.gran = 0 then p else dataNext p]
    | _ => t)

/-- A reading command goes as far as it can: it waits for its frames, is held (R39), waits for a reconstruction (R492), or
completes (R444, R548, R568). -/
def State.readTry (s : State) (m : Cmd) : State :=
  if m.waits != [] || !m.started then s
  else
    let r := s.blocks? (s.cmdBlocks m)
    let s := s.when (r.bad || r.hurt || (r.away == [] && r.lost == [])) (fun t => t.noteBlocks (t.cmdBlocks m))
    if r.bad then (s.complete m .unrecovered 0).dataFault
    else if r.hurt then (s.complete m .internalError 0).dataFault
    else if r.away != [] then (if r.away.any s.holdOver then s.complete m .notReady 0 else s)
    else if r.lost != [] then s.each r.lost (fun t p => t.wantRecon p (some m.ref))
    else if m.e.opc == 0x05 then s.complete m (if r.data == m.data then .ok else .compareFailure) 0
    else if m.e.opc == 0x0C then s.complete m .ok 0
    else (s.hostWrite .data m.ctrl m.e.dptr r.data).complete m .ok 0

/-- Every reading command that waits goes on. -/
def State.resumeReads (s : State) : State :=
  s.each (s.nvme.inflight.filter (fun m => isReadOp m.e.opc && m.started)) (fun t m =>
    match t.cmd? m.ctrl m.sq m.e.cid with
    | some k => t.readTry k
    | none => t)

/-- The map entries that name frame `p`: index and slot. -/
def State.namesOf (s : State) (p : Nat) : List (Nat × Nat) :=
  s.map.map.filterMap (fun x => match x.2 with
    | .media q k => if q == p then some (x.1, k) else none
    | _ => none)

/-- Frame `p` is restored: its slots wait in Buffers for the reads that need it and go once none does. -/
def State.frameRestored (s : State) (p : Nat) (slots : List (List Byte)) : State :=
  let s1 := s.modTier (fun t => { t with restored := t.restored.filter (fun x => x.1 != p) ++ [(p, slots)], recons := t.recons.filter (fun r => r.pfn != p) })
  let s2 := s1.resumeReads
  let idx := (s2.namesOf p).map (fun x => x.1)
  if s2.nvme.inflight.any (fun m => isReadOp m.e.opc && (s2.cmdBlocks m).any (fun g => idx.contains (s2.mapIndex g))) then s2
  else s2.modTier (fun t => { t with restored := t.restored.filter (fun x => x.1 != p) })

/-- A frame of this device restored through the pool (R527): a lost one's blocks are placed again (R493). -/
def State.poolFrame (s : State) (p : Nat) (bytes : List Byte) : State :=
  let s1 := if s.isLost p then
      s.modMap (fun m => { m with moving := m.moving ++ (s.namesOf p).map (fun x => (x.1, MapEntry.media p x.2, slice bytes (x.2 * 4096) (4096 * s.gran))) })
    else s
  s1.frameRestored p (frameSlots bytes)

end Sys2Proof.Machine
end

