-- ==== Sys2Proof/Machine/DecodeOps.lean ====
section
/-! DEFINITION. The sample store (R399 to R403), the escalation queue (R405, R406) and the recovery ladder (R410 to R417). -/
namespace Sys2Proof.Machine

/-! ### The sample store -/

def extentCount : Nat := 8192
/-- 256-byte units of an extent. -/
def extentUnits : Nat := 8192

def State.extent (s : State) (e : Nat) : Extent := SMap.get (fun _ => Extent.reset) s.decode.extents e

def State.modExtent (s : State) (e : Nat) (f : Extent → Extent) : State :=
  s.modDecode (fun d => { d with extents := SMap.modify (fun _ => Extent.reset) d.extents e f })

/-- Extents in order of first use: those never written are the ones above the written ones (R400). -/
def State.pinnedCount (s : State) : Nat := (s.decode.extents.filter (fun x => x.2.pins != 0)).length
def State.writtenCount (s : State) : Nat := (s.decode.extents.filter (fun x => x.2.written)).length

/-- DD_SS. -/
def State.ssSync (s : State) : State :=
  (s.setFld DD_SS.PINNED s.pinnedCount).setFld DD_SS.NEVER (extentCount - s.writtenCount)

/-- The unpinned extent whose last write is oldest, the lowest number on a tie. -/
def oldestExtent : List (Nat × Extent) → Option (Nat × Extent)
  | [] => none
  | x :: l => match oldestExtent l with
    | some y => if x.2.pins == 0 && x.2.written && decide (x.2.lastTick ≤ y.2.lastTick) then some x else some y
    | none => if x.2.pins == 0 && x.2.written then some x else none

/-- Age in ms of the oldest unpinned extent (DD_SSAGE.AGE, R402). -/
def State.oldestAge (s : State) : Nat :=
  match oldestExtent s.decode.extents with
  | some x => Nat.min 0xFFFF ((s.tick - x.2.lastTick) / 25000)
  | none => 0

/-- An extent for a lane: never written first, lowest number first; else the oldest unpinned one, whose index entries go
(R400). -/
def State.takeExtent (s : State) : State × Option Nat :=
  match (List.range extentCount).find? (fun e => !(s.extent e).written && (s.extent e).pins == 0) with
  | some e => ((s.modExtent e (fun x => { x with written := true, lastTick := s.tick })).ssSync, some e)
  | none =>
    match oldestExtent s.decode.extents with
    | none => (s, none)
    | some x =>
      let age := Nat.min 0xFFFF ((s.tick - x.2.lastTick) / 25000)
      let s1 := s.keepBest DD_SSAGE.MINAGE Nat.min (Nat.min age 0xFFFF)
      let s2 := s1.modDecode (fun d => { d with index := SMap.mapAll (fun _ => none) d.index (fun _ o => o.map (fun (i : IndexEntry) => if i.extent == x.1 then { i with valid := false } else i)) })
      ((s2.modExtent x.1 (fun y => { y with lastTick := s.tick })).ssSync, some x.1)

/-- Pin extents, all or none: at most 2,048 are pinned at once (R401). -/
def State.pin (s : State) (es : List Nat) : Option State :=
  let new := (es.filter (fun e => (s.extent e).pins == 0)).length
  if 2048 < s.pinnedCount + new then none
  else some ((s.each es (fun t e => t.modExtent e (fun x => { x with pins := x.pins + 1 }))).ssSync)

def State.unpin (s : State) (es : List Nat) : State :=
  (s.each es (fun t e => t.modExtent e (fun x => { x with pins := x.pins - 1 }))).ssSync

/-- Bytes of a whole capture of a frame that starts at (window, cell): 32 cells each side, split fields kept, wedge windows
left out, filled to a multiple of 256 (R370). -/
def capLen (rate w c : Nat) : Nat :=
  let d := dataWindow rate
  let e := frameSpan d 500 (144288 + 16) w (c + 160)
  (32 + 160 + 144288 + 16 + 80 * (e.1 - w) + 32 + 255) / 256 * 256

/-- The valid index entries of a frame. -/
def State.indexOf (s : State) (word frame : Nat) : List IndexEntry :=
  s.decode.index.filterMap (fun x => match x.2 with
    | some i => if i.valid && i.track == word && i.frame == frame then some i else none
    | none => none)

/-- Write the index entry of a capture at DD_IDXPTR.NEXT (R403). -/
def State.putIndex (s : State) (i : IndexEntry) : State :=
  let n := s.fld DD_IDXPTR.NEXT
  (s.modDecode (fun d => { d with index := SMap.set (fun _ => none) d.index n (some i) })).setFld DD_IDXPTR.NEXT ((n + 1) % 131072)

/-- The 32 bytes of an index entry (R403). -/
def IndexEntry.encode (i : IndexEntry) : List Byte :=
  leBytes 4 i.track ++ leBytes 2 i.frame ++ leBytes 1 i.lane ++ leBytes 1 i.status ++ leBytes 2 i.extent ++ leBytes 2 i.unit ++
    leBytes 4 i.capLen ++ leBytes 2 i.window ++ leBytes 2 i.cell ++ leInt 1 i.syncOff ++ leBytes 1 i.syncCnt ++ leBytes 1 i.pass ++
    leBytes 1 ((if i.pinned then 1 else 0) + (if i.valid then 2 else 0) + (if i.reader1 then 4 else 0)) ++ leBytes 8 i.tick

/-! ### Schedulers and units (R404, R405) -/

def State.schedulers (s : State) : List Nat := helpers24.filter (fun h => s.role h == 0x0B)

/-- k of R404. -/
def State.nsched (s : State) : Nat := Nat.min 4 s.schedulers.length

/-- The scheduler that owns unit `u`. -/
def State.unitOwner (s : State) (u : Nat) : Option Nat :=
  if s.nsched = 0 then none else s.schedulers[u % s.nsched]?

def State.recoveries (s : State) : List Recovery := s.decode.queue ++ s.decode.active

/-- The Running scheduler with the fewest frames in recovery, the lowest helper number on a tie. -/
def State.fewest (s : State) : Option Nat :=
  let n := fun (h : Nat) => (s.recoveries.filter (fun r => r.owner == h)).length
  (s.schedulers.filter (fun h => s.heState h == heRunning)).foldl (fun o h =>
    match o with
    | some g => if n h < n g then some h else some g
    | none => some h) none

/-- DD_UNITn.STEP of a stage. -/
def Recovery.stepCode (r : Recovery) : Nat :=
  match r.stage with
  | 0 => 1
  | 1 | 2 => 2
  | 3 | 4 => 3
  | _ => 8 + r.code

/-- The registers follow the queue and the units. -/
def State.ddSync (s : State) : State :=
  (s.setFld DD_STAT.QLEN s.decode.queue.length).each (List.range 4) (fun t u =>
    match t.decode.active.find? (fun r => r.unit == some u) with
    | some r => (((t.setFldBit DD_STAT.BUSY u true).setFld (DD_UNIT.STEP u) r.stepCode).setFld (DD_UNIT.HEAD u) r.surf)
    | none => (t.setFldBit DD_STAT.BUSY u false).setReg (DD_UNIT.REG u).addr 0)

def Recovery.same (r q : Recovery) : Bool := r.surf == q.surf && r.track == q.track && r.frame == q.frame

/-- Whether `r` goes before `q`: by class, then by sector-end tick (R405). -/
def Recovery.before (r q : Recovery) : Bool := if r.cls != q.cls then decide (r.cls < q.cls) else decide (r.tick < q.tick)

def insertRecovery (r : Recovery) : List Recovery → List Recovery
  | [] => [r]
  | q :: l => if r.before q then r :: q :: l else q :: insertRecovery r l

/-- The recovery stands in the queue for a unit. -/
def State.enqueue (s : State) (r : Recovery) : State :=
  (s.modDecode (fun d => { d with queue := insertRecovery { r with unit := none, wait := 0 } d.queue, active := d.active.filter (fun q => !q.same r) })).ddSync

/-- The recovery waits, or works in a unit. -/
def State.hold (s : State) (r : Recovery) : State :=
  (s.modDecode (fun d => { d with queue := d.queue.filter (fun q => !q.same r), active := d.active.filter (fun q => !q.same r) ++ [r] })).ddSync

/-- The recovery is over: its pins go. -/
def State.dropRecovery (s : State) (r : Recovery) : State :=
  ((s.modDecode (fun d => { d with queue := d.queue.filter (fun q => !q.same r), active := d.active.filter (fun q => !q.same r) })).unpin (r.extents ++ r.extra)).ddSync

/-- The next step of a frame: in the unit that has it, or in the queue for one. -/
def State.proceed (s : State) (r : Recovery) : State := if r.unit.isSome then s.hold { r with wait := 0 } else s.enqueue r

/-- A valid result ends the recovery (R410): counted by the step that gave it, its readers go on. -/
def State.recovered (s : State) (r : Recovery) : State :=
  let s1 := s.dropRecovery r
  let s2 := if r.code != 0 then (if r.code % 2 == 1 then s1.bump (DD_OKSTEP.LOW (r.code / 2)) else s1.bump (DD_OKSTEP.HIGH (r.code / 2 - 1)))
    else if r.stage ≤ 1 then s1.bump DD_OKFIX.RESEARCH
    else if r.stage = 2 then s1.bump DD_OKFIX.DEEP
    else s1.bump DD_OKOFF.OFFSET
  (s2.unwait (s.pfn r.surf r.track r.frame)).resumeReads

/-- The ladder has ended, or the time has (R416). -/
def State.giveUp (s : State) (r : Recovery) (cause : Nat) : State :=
  ((s.dropRecovery r).unreadable r.surf r.track r.frame cause).resumeReads

/-! ### The ladder (R410 to R413) -/

/-- NRETRY and RETRY[n] of the policy section. -/
def State.nretry (s : State) : Nat := s.policy 5 1
def State.retry (s : State) (n : Nat) : Nat := s.policy (6 + n) 1

def isReread (code : Nat) : Bool := code == 4 || code == 5 || code == 6

/-- Samples to work on: retained, with the mark known (R413). -/
def Recovery.workable (r : Recovery) : Bool := r.retained && !r.miss

/-- Retained passes of one speed zone, up to 4 (code 0x07). -/
def Recovery.combos (r : Recovery) : Nat := Nat.min 4 (r.zones.filter (fun z => z == r.zones.headD 0)).length

/-- The first data-window and cell, and the last, that the frame covers. -/
def State.frameRange (s : State) (surf track frame : Nat) : (Nat × Nat) × (Nat × Nat) :=
  let z := s.zoneOfTrack surf track
  let rate := s.zn surf z 10 2
  let p := framePos rate frame
  (p, frameSpan (dataWindow rate) 500 (144288 + 16) p.1 (p.2 + 160))

/-- Two frames on neighbouring tracks overlap: windows are counted from the index, which a track's first window sets 10
windows on from the one before. -/
def State.overlap (s : State) (surf t f u g : Nat) : Bool :=
  let a := s.frameRange surf t f
  let b := s.frameRange surf u g
  let abs := fun (tr : Nat) (w : Nat × Nat) => (trackStart tr + w.1) % 500 * 100000 + w.2
  let lo1 := abs t a.1
  let hi1 := lo1 + (a.2.1 - a.1.1) * 100000 + (a.2.2 + 0)
  let lo2 := abs u b.1
  let hi2 := lo2 + (b.2.1 - b.1.1) * 100000 + (b.2.2 + 0)
  decide (lo1 < hi2) && decide (lo2 < hi1)

/-- T - 1 and T + 1 where they lie in T's band (R417). -/
def State.neighbours (s : State) (surf track : Nat) : List Nat :=
  let band := fun (t : Nat) => s.bandOfTrack surf t
  ((if 0 < track then [track - 1] else []) ++ [track + 1]).filter (fun t => band t == band track && (band track).isSome)

/-- Retained captures of the neighbours that overlap the frame. -/
def State.neighbourCaps (s : State) (r : Recovery) : List IndexEntry :=
  s.decode.index.filterMap (fun x => match x.2 with
    | some i => if i.valid && (s.neighbours r.surf r.track).any (fun t => i.track == trackWord r.surf t && s.overlap r.surf r.track r.frame t i.frame) then some i else none
    | none => none)

/-- An overlapping neighbour is queued on a lane to be read within 20 ms. -/
def State.neighbourQueued (s : State) (r : Recovery) : Bool :=
  lanes9.any (fun l => ((s.lane l).cur.toList ++ (s.lane l).queue).any (fun c =>
    s.cmdSurf l c == r.surf && (s.neighbours r.surf r.track).contains c.track && s.overlap r.surf r.track r.frame c.track c.frame &&
    decide (c.startTick ≤ s.tick + msTicks 20)))

/-- Ask for one pass of the ladder. -/
def State.askPass (s : State) (r : Recovery) (kind : Nat) : State :=
  ((s.hold { r with unit := none, wait := 1 }).bump DD_REREAD.LADDER).askReread ⟨r.surf, r.track, r.frame, kind⟩

/-- A two-reader pass is plain in S mode (R411). -/
def State.twoKind (s : State) (r : Recovery) : Nat := if s.readMode (surfAct r.surf) == 1 then 1 else 4

/-- The next ladder step from entry `n` that can run: a sample step goes to the queue for a unit, a re-read step asks for
its pass; no step left ends the ladder. The offset re-read alternates per head. -/
def State.ladder : Nat → State → Recovery → Nat → State
  | 0, s, r, _ => s.giveUp r 0
  | fuel + 1, s, r, n =>
    if s.nretry ≤ n then s.giveUp r 0
    else
      let c := s.retry n
      let q := { r with stage := 5, code := c, next := n + 1 }
      if c = 4 then s.askPass q 1
      else if c = 5 then
        let neg := s.decode.offsetNeg.contains r.surf
        (s.modDecode (fun d => { d with offsetNeg := if neg then d.offsetNeg.filter (· != r.surf) else r.surf :: d.offsetNeg })).askPass q (if neg then 3 else 2)
      else if c = 6 then s.askPass q (s.twoKind r)
      else if c = 7 && r.workable && r.combos < 2 && r.code != 7 then s.askPass { q with next := n } 1
      else if !r.workable || (c = 7 && r.combos < 2) then
        State.ladder fuel s r (((List.range' n (s.nretry - n)).find? (fun k => isReread (s.retry k))).getD s.nretry)
      else if c = 1 then
        if (s.neighbourCaps r) != [] && !s.neighbourQueued r then
          let es := ((s.neighbourCaps r).map (fun i => i.extent)).eraseDups
          match s.pin es with
          | some t => t.proceed { q with extra := es }
          | none => State.ladder fuel (s.bump DD_SSLOSS.PINREF) r (n + 1)
        else if s.neighbourQueued r then s.hold { q with unit := none, wait := 2 }
        else if s.neighbours r.surf r.track = [] then State.ladder fuel s r (n + 1)
        else ((s.hold { q with unit := none, wait := 3 }).bump DD_REREAD.LADDER).askReread ⟨r.surf, r.track, r.frame, 5⟩
      else s.proceed q

/-- Start the ladder at entry `n`. -/
def State.climb (s : State) (r : Recovery) (n : Nat) : State := State.ladder (s.nretry + 1) s r n

/-- The stage that a fresh pass starts with. -/
def Recovery.first (r : Recovery) : Recovery := { r with stage := if r.miss then 0 else 2, offs := 0 }

/-- What comes after a step without a valid decode (R369: the eight offsets, then the ladder); the neighbours' pins go with their step. -/
def State.nextStep (s0 : State) (r0 : Recovery) : State :=
  let s := s0.unpin r0.extra
  let r := { r0 with extra := [] }
  match r.stage with
  | 2 => s.hold { r with stage := 3, offs := 0 }
  | 3 | 4 => if r.offs < 7 then s.hold { r with stage := 3, offs := r.offs + 1 } else s.climb r r.next
  | _ => s.climb r r.next

/-- A failed frame goes to a scheduler (R405): a second owner joins a recovery in progress (R418); a full queue or a refused
pin sends it to the first re-read step (R406). -/
def State.escalate (s : State) (r0 : Recovery) (h : Nat) : State :=
  match s.recoveries.find? (fun q => q.same r0) with
  | some q =>
    let up := fun (x : Recovery) => if x.same r0 then { x with cls := Nat.min x.cls r0.cls } else x
    if s.decode.queue.any (fun x => x.same r0) then
      (s.modDecode (fun d => { d with queue := d.queue.filter (fun x => !x.same r0) })).enqueue (up q)
    else s.modDecode (fun d => { d with active := d.active.map up })
  | none =>
    let r := { r0.first with owner := h }
    let skip := fun (t : State) (x : Recovery) =>
      (t.bump DD_ESC.QFULL).climb { x with retained := false } (((List.range t.nretry).find? (fun k => isReread (t.retry k))).getD t.nretry)
    if 1024 ≤ s.decode.queue.length then skip s { r with extents := [] }
    else match s.pin r.extents with
      | none => skip (s.bump DD_SSLOSS.PINREF) { r with extents := [] }
      | some s1 => if !r.retained then s1.climb r (((List.range s1.nretry).find? (fun k => isReread (s1.retry k))).getD s1.nretry)
        else (s1.bump DD_ESC.ESCALATED).enqueue r

/-- The owner cancels (R418): pins go, nothing is delivered. -/
def State.cancelRecovery (s : State) (surf track frame : Nat) : State :=
  match s.recoveries.find? (fun q => q.surf == surf && q.track == track && q.frame == frame) with
  | none => s
  | some r => (s.dropRecovery r).modLanes (fun x => { x with rereads := x.rereads.filter (fun q => !(q.surf == surf && q.track == track && q.frame == frame)) })

/-- Cancel the recovery of the frame at `p`. -/
def State.cancelPfn (s : State) (p : Nat) : State :=
  s.each (s.recoveries.filter (fun r => s.pfn r.surf r.track r.frame == p)) (fun t r => t.cancelRecovery r.surf r.track r.frame)

/-- A scheduler stops or faults: its unfinished frames re-enter the queue at their recorded step (R418). -/
def State.reenter (s : State) (h : Nat) : State :=
  s.each (s.decode.active.filter (fun r => r.owner == h && r.wait == 0)) (fun t r =>
    t.enqueue r)

end Sys2Proof.Machine
end

