-- ==== Sys2Proof/Machine/MoverOps.lean ====
section
/-! DEFINITION. The block movers (R236 to R251): register sets, their checks, 64-byte transfers, bursts, halts and completions. -/
namespace Sys2Proof.Machine

/-- DM_CHx_STAT.STATE. -/
def dmIdle : Nat := 0
def dmReady : Nat := 1
def dmRunning : Nat := 2
def dmStopped : Nat := 3
def dmHalted : Nat := 4

/-- DM_CHx_STAT.LASTST. -/
def dmOk : Nat := 0
def dmUe : Nat := 1
def dmBadset : Nat := 2
def dmHostErr : Nat := 3
def dmTimeout : Nat := 4
def dmStoppedSt : Nat := 5
def dmDiscarded : Nat := 6

def State.dmState (s : State) (c : Nat) : Nat := s.fld (DM_CH_STAT.STATE c)
def State.dmGoto (s : State) (c st : Nat) : State := s.setFld (DM_CH_STAT.STATE c) st

/-- Current addresses and the bytes not yet moved of the active set. -/
def State.dmSrc (s : State) (c : Nat) : Nat := s.fld (DM_CH_SRC_LO.ADDR c) + s.fld (DM_CH_SRC_HI.ADDR c) * 2 ^ 32
def State.dmDst (s : State) (c : Nat) : Nat := s.fld (DM_CH_DST_LO.ADDR c) + s.fld (DM_CH_DST_HI.ADDR c) * 2 ^ 32
def State.dmLeft (s : State) (c : Nat) : Nat := s.fld (DM_CH_LEN.REMAIN c)

/-- Show the addresses and the remainder. -/
def State.dmShow (s : State) (c src dst left : Nat) : State :=
  ((((s.setFld (DM_CH_SRC_LO.ADDR c) src).setFld (DM_CH_SRC_HI.ADDR c) (src / 2 ^ 32)).setFld (DM_CH_DST_LO.ADDR c) dst).setFld
    (DM_CH_DST_HI.ADDR c) (dst / 2 ^ 32)).setFld (DM_CH_LEN.REMAIN c) left

/-- The registers show the active set (R252). -/
def State.dmShowSet (s : State) (c : Nat) (x : MoverSet) : State :=
  ((((s.dmShow c x.src x.dst x.len).setFld (DM_CH_CTL.FENCE c) (if x.fence then 1 else 0)).setFld (DM_CH_CTL.SRCSP c) x.srcSp).setFld
    (DM_CH_CTL.DSTSP c) x.dstSp).setFld (DM_CH_CTL.OWNER c) x.owner

/-! ### Spaces (R238, R239) -/

def isHost (sp : Nat) : Bool := sp == 4 || sp == 5
def isPeriph (sp : Nat) : Bool := sp == 6 || sp == 7

/-- The memory of space codes 0x0 to 0x3, and the address in it. -/
def spaceMem (sp addr : Nat) : Option (MemSp × Nat) :=
  if sp = 0 then some (.hbm, addr)
  else if sp = 1 then some (.mram, addr)
  else if sp = 2 then some (.ssram, addr)
  else if sp = 3 ∧ addr / 65536 < 24 then some (.loc (addr / 65536), addr % 65536)
  else none

/-- The range lies in its space. -/
def rangeOk (sp addr len : Nat) : Bool :=
  if isHost sp then decide (addr + len ≤ 2 ^ 64)
  else if sp = 6 then decide (addr % 16 ≤ 8)
  else if sp = 7 then true
  else match spaceMem sp addr with
    | some (m, a) => m.holds a len
    | none => false

/-- A set that reads a result buffer: lane space with address bit 4 set (R372). -/
def MoverSet.fromResult (x : MoverSet) : Bool := x.srcSp == 6 && natBit x.src 4

/-- R239 and R374. -/
def MoverSet.ok (x : MoverSet) : Bool :=
  decide (x.srcSp ≤ 6) && (decide (x.dstSp ≤ 5) || x.dstSp == 7) && inRange x.len 1 16777215 &&
  rangeOk x.srcSp x.src x.len && rangeOk x.dstSp x.dst x.len && (!(isPeriph x.srcSp || isPeriph x.dstSp) || x.len % 256 == 0) &&
  !(isPeriph x.srcSp && isPeriph x.dstSp) && (!x.fromResult || x.len == 16640)

/-- A mover's read from a memory space, HBM through what the map cache holds (R231). -/
def State.spaceRead (s : State) (f : MemFaults) (sp addr n : Nat) : ReadBytes :=
  match spaceMem sp addr with
  | some (.hbm, a) => s.moverRead f a n
  | some (m, a) => s.peek m a n
  | none => ⟨List.replicate n 0, false⟩

/-- The reports of that read (R205, R232). -/
def State.spaceNote (s : State) (f : MemFaults) (sp addr n : Nat) : State :=
  match spaceMem sp addr with
  | some (.hbm, a) => s.moverReadNote f a n
  | some (m, a) => s.noteRead m a n reqMover
  | none => s

/-- A mover's write; host memory by the function of its port, as a request of kind `k`. -/
def State.spaceWrite (s : State) (f : MemFaults) (k : ReqKind) (sp addr : Nat) (d : List Byte) : State :=
  if isHost sp then s.hostWrite k (sp - 4) addr d
  else match spaceMem sp addr with
    | some (.hbm, a) => s.moverWrite f a d
    | some (m, a) => s.store m a d
    | none => s

/-- The write meets a word its read-modify-write must leave unchanged, or one that cannot be written (R184, R199). -/
def State.spaceBad (s : State) (f : MemFaults) (sp addr : Nat) (d : List Byte) : Bool :=
  match spaceMem sp addr with
  | some (.hbm, a) => s.moverBad f a d
  | some (m, a) => s.storeBad m a d
  | none => false

/-- The reports of such a write, which is not made. -/
def State.spaceBadNote (s : State) (f : MemFaults) (sp addr : Nat) (d : List Byte) : State :=
  match spaceMem sp addr with
  | some (.hbm, a) => s.moverBadNote f a d
  | some (m, a) => s.storeNote f m a d
  | none => s

/-- The write waits: MRAM takes no line write (R48), or the line of an HBM address is being filled (R231). A write is complete as soon as
it is made, so a set with FENCE waits for nothing more (R251). -/
def State.spaceWaits (s : State) (sp addr n : Nat) : Bool :=
  (sp == 1 && !s.mramAdmits) || (sp == 0 && s.moverWaits addr n)

/-- Cached lines that the access finds with a parity error (R233); the flag says that Base-note mode ends the access. -/
def State.spaceParity (s : State) (f : MemFaults) (sp addr n : Nat) : State × Bool := if sp = 0 then s.moverParity f addr n else (s, false)

/-! ### Completions, promotion, halts -/

/-- A completion: LASTST, and a message of type 0xF0 to the owner (R246). -/
def State.dmPost (s : State) (c : Nat) (x : MoverSet) (status : Nat) (left : Nat) : State :=
  (s.setFld (DM_CH_STAT.LASTST c) status).deviceMsg stewardEp x.owner 0xF0 0
    (leBytes 1 c ++ leBytes 1 status ++ zeros 2 ++ leBytes 4 (x.len - left))

/-- Promote the shadow set: it becomes the active set of a Ready channel, or completes with BADSET (R239, R242). -/
def State.dmPromote (s : State) (c : Nat) : State :=
  match (s.chan c).shadow with
  | none => s.dmGoto c dmIdle
  | some x =>
    let s1 := s.setFld (DM_CH_STAT.SHGO c) 0
    if x.ok then
      ((s1.modChan c (fun k => { k with active := some x, shadow := none, started := false })).dmShowSet c x).dmGoto c dmReady
    else ((s1.modChan c (fun k => { k with active := none, shadow := none, started := false })).dmGoto c dmIdle).dmPost c x dmBadset x.len

/-- A Running channel halts: the addresses stay at the failing transfer, the completion carries the cause; a stop asked for is
satisfied by the halt (R244, R245, R248, R250). -/
def State.dmHalt (s : State) (c cause : Nat) : State :=
  match (s.chan c).active with
  | none => s
  | some x =>
    if s.dmState c != dmRunning then s
    else ((((s.dmGoto c dmHalted).clrBit (DM_CH_STAT.STOPPEND c)).bump (DM_CH_HALTS.COUNT c)).dmPost c x cause (s.dmLeft c))

/-- The result is freed when the set that read it completes (R374). -/
def State.dmFree (s : State) (x : MoverSet) : State :=
  if x.fromResult then s.modLane (x.src % 16) (fun l => { l with results := l.results.drop 1 }) else s

/-- A set completes with a status: its completion, then the shadow set, unless a stop is pending (R244). -/
def State.dmDone (s : State) (c : Nat) (x : MoverSet) (status : Nat) : State :=
  let s1 := ((s.dmPost c x status (s.dmLeft c)).when (status == dmOk) (fun t => t.dmFree x)).modChan c (fun k => { k with active := none, started := false })
  if s.bit (DM_CH_STAT.STOPPEND c) then (s1.clrBit (DM_CH_STAT.STOPPEND c)).dmGoto c dmStopped
  else if s.bit (DM_CH_STAT.SHGO c) then s1.dmPromote c
  else s1.dmGoto c dmIdle

/-! ### Transfers -/

/-- Write what a transfer of a set read, `d`, and go on by its length: an Uncorrectable or Unwritten word met on the way halts the channel
with nothing of the transfer written (R244, R248). The flag says that the set goes on. -/
def State.dmPut (s : State) (c : Nat) (f : MemFaults) (x : MoverSet) (d : List Byte) : State × Bool :=
  let n := d.length
  let p := s.spaceParity f x.dstSp (s.dmDst c) n
  if p.2 then (p.1, false)
  else if p.1.spaceBad f x.dstSp (s.dmDst c) d then ((p.1.spaceBadNote f x.dstSp (s.dmDst c) d).dmHalt c dmUe, false)
  else ((p.1.spaceWrite f (if x.fence && s.dmLeft c == x.len then .fenced else .data) x.dstSp (s.dmDst c) d).dmShow c (s.dmSrc c + n) (s.dmDst c + n) (s.dmLeft c - n), true)

/-- Read the next `n` bytes of a set: from host memory as far as it answers, which is HOSTERR beyond, or from a memory. None where the
channel halts or the access ends in Base-note mode. -/
def State.dmGet (s : State) (c : Nat) (f : MemFaults) (x : MoverSet) (n : Nat) (hostData : List Byte) : State × Option (List Byte) :=
  if isHost x.srcSp then
    (if hostData.length < n then (s.dmHalt c dmHostErr, none) else (s, some (slice hostData 0 n)))
  else
    let p := s.spaceParity f x.srcSp (s.dmSrc c) n
    if p.2 then (p.1, none)
    else
      let r := p.1.spaceRead f x.srcSp (s.dmSrc c) n
      let t := p.1.spaceNote f x.srcSp (s.dmSrc c) n
      if r.bad then (t.dmHalt c dmUe, none) else (t, some r.data)

/-- One 64-byte transfer. The flag says that the set goes on. -/
def State.dmTransfer (s : State) (c : Nat) (f : MemFaults) (x : MoverSet) (hostData : List Byte) : State × Bool :=
  let n := Nat.min 64 (s.dmLeft c)
  if s.spaceWaits x.dstSp (s.dmDst c) n then (s, false)
  else
    let g := s.dmGet c f x n hostData
    match g.2 with
    | none => (g.1, false)
    | some d => g.1.dmPut c f x d

/-- Up to `k` transfers of the active set; `hostData` is what host memory answers. -/
def State.dmRun : Nat → State → Nat → MemFaults → MoverSet → List Byte → State
  | 0, s, _, _, _, _ => s
  | k + 1, s, c, f, x, d =>
    if s.dmLeft c = 0 then s
    else
      let r := s.dmTransfer c f x d
      if r.2 then State.dmRun k r.1 c f x (d.drop 64) else r.1

/-- The link of a port goes down: sets toward its host memory halt with HOSTERR (R248). -/
def State.dmLinkDown (s : State) (p : Nat) : State :=
  s.each (List.range 64) (fun t c =>
    match (t.chan c).active with
    | some x => if x.srcSp == 4 + p || x.dstSp == 4 + p then t.dmHalt c dmHostErr else t
    | none => t)

/-- R242: the owner loads the shadow set and sets GO; a load is refused while GO is 1. An Idle channel promotes it. -/
def State.moverGo (s : State) (c : Nat) (x : MoverSet) : State :=
  if 64 ≤ c || s.bit (DM_CH_STAT.SHGO c) then s
  else
    let s1 := (s.modChan c (fun k => { k with shadow := some x })).setBit (DM_CH_STAT.SHGO c)
    if s.dmState c == dmIdle then s1.dmPromote c else s1

/-- R244: both sets are dropped, each with a completion DISCARDED. -/
def State.moverDiscard (s : State) (c : Nat) : State :=
  if s.dmState c != dmStopped && s.dmState c != dmHalted then s
  else
    let k := s.chan c
    let s1 := ((s.modChan c (fun _ => Channel.reset)).clrBit (DM_CH_STAT.SHGO c)).dmGoto c dmIdle
    (s1.onSome k.active (fun t x => t.dmPost c x dmDiscarded (s.dmLeft c))).onSome k.shadow (fun t x => t.dmPost c x dmDiscarded x.len)

/-- R240: a mover with no set running takes the next Ready channel after the one last served. -/
def State.moverNext (s : State) (m : Nat) : State :=
  let ch := fun (k : Nat) => 16 * m + k % 16
  if 4 ≤ m || (List.range 16).any (fun k => s.dmState (ch k) == dmRunning) then s
  else
    let last := SMap.get (fun _ => 15) s.movers.served m
    match ((List.range 16).map (fun k => ch (last + 1 + k))).find? (fun c => s.dmState c == dmReady) with
    | none => s
    | some c =>
      let s1 := { s with movers := { s.movers with served := SMap.set (fun _ => 15) s.movers.served m (c % 16) } }
      (s1.modChan c (fun k => { k with started := true })).dmGoto c dmRunning

/-- The channel of ring `r` (R696). -/
def ringChan (r : Nat) : Nat := 56 + r

end Sys2Proof.Machine
end

