-- ==== Sys2Proof/Machine/PoolOps.lean ====
section
/-! DEFINITION. Ewerid pooling (R502 to R533): frames, the layout, contributions, partner copies, cell reads. -/
namespace Sys2Proof.Machine

/-! ### States and registers -/

def plBooting : Nat := 0
def plRollCall : Nat := 1
def plElecting : Nat := 2
def plAgreeing : Nat := 3
def plReconciling : Nat := 4
def plServing : Nat := 5
def plIsolated : Nat := 6
def plStandby : Nat := 7
def plNone : Nat := 8

def State.plState (s : State) : Nat := s.fld PL_STAT.STATE
def State.plId (s : State) : Nat := s.fld PL_MEMBER.ID
def State.plGen (s : State) : Nat := s.fld PL_MEMBER.ROLEGEN
def State.plLeads (s : State) : Bool := s.fld PL_STAT.ROLE != 0

/-- The pool ports work: a pool member with DP Serving, outside Base-note mode (R532, R667). -/
def State.poolOn (s : State) : Bool := s.featPool && s.isServing .DP && !s.bit FB_STAT.BASENOTE

def State.pdata (s : State) : Nat := s.redund 3
/-- W of R515. -/
def State.poolW (s : State) : Nat := s.pdata + 2

/-- Shard of an ID (R509). -/
def shardOf (id : Nat) : Nat := id / 1024

/-- The counts of L and of open and held contributions. -/
def State.plSync (s : State) : State :=
  let p := s.pool
  let s1 := (s.setFld PL_NMEMB.COUNT p.members.length).setFld PL_NFAIL.COUNT (p.members.filter (fun m => m.failed)).length
  let s2 := (s1.setFld PL_CONTRIB.HELD (p.held.filter (fun h => h.durable)).length).setFld PL_CONTRIB.OPEN p.opens.length
  s2.setFld PL_STAT.NOPROT (if p.members != [] && decide (p.members.length < s.pdata + 3) then 1 else 0)

/-! ### Sending (R503, R505, R511) -/

/-- The port for member `m` (R505). -/
def State.plPort (s : State) (m : Nat) : Nat :=
  let p := Nat.xor m s.plId % 2
  let up := fun (k : Nat) => if k = 0 then s.bit PL_STAT.LINK0 else s.bit PL_STAT.LINK1
  if up p then p else if up (1 - p) then 1 - p else p

/-- The ROLEGEN known of a member; 0 for any. -/
def State.genOf (s : State) (id : Nat) : Nat := ((s.pool.members.find? (fun m => m.id == id)).map (fun m => m.gen)).getD 0

def State.ewPut (s : State) (f : EwFrame) : State := s.modPool (fun p => { p with out := p.out ++ [.ewerid f] })

/-- A frame to a member. -/
def State.ewSend (s : State) (type dst xid : Nat) (body : List Byte) : State :=
  s.ewPut ⟨s.plPort dst, type, dst, 0, s.genOf dst, xid, false, false, 0, s.plId, s.plGen, s.fld PL_EPOCH.EPOCH, body⟩

/-- A reply. -/
def State.ewReply (s : State) (h : EwHdr) (type status : Nat) (body : List Byte) : State :=
  s.ewPut ⟨h.port, type, h.src, 0, 0, h.xid, false, true, status, s.plId, s.plGen, s.fld PL_EPOCH.EPOCH, body⟩

/-- The group of the shard leaders (R504). -/
def leadersGroup : Nat := 0xFFFF

/-- A frame to the group `grp`, on one port. -/
def State.ewGroup (s : State) (port grp type xid : Nat) (body : List Byte) : State :=
  s.ewPut ⟨port, type, 0, grp, 0, xid, true, false, 0, s.plId, s.plGen, s.fld PL_EPOCH.EPOCH, body⟩

/-- The bytes of a frame (R511): POOLID and the CRC-32C come from here; `noId` a sender without an ID. -/
def State.ewBytes (s : State) (f : EwFrame) (noId : Bool) : List Byte :=
  let b := leBytes 2 0x5745 ++ [1] ++ leBytes 1 f.type ++ leBytes 8 (s.poolCfg 0 8) ++ leBytes 2 (if noId then 0 else f.srcId) ++ leBytes 2 f.dst ++
    leBytes 2 f.srcGen ++ leBytes 2 f.dstGen ++ leBytes 4 f.epoch ++ leBytes 4 f.xid ++ leBytes 2 f.body.length ++
    leBytes 1 ((if f.group then 1 else 0) + (if noId then 2 else 0) + (if f.reply then 4 else 0)) ++ leBytes 1 f.status ++ f.body
  b ++ leBytes 4 (crc32c b)

/-- The IPv6 address of a member on port `p`, and of a sender without an ID (R504). -/
def State.memberAddr (s : State) (m p : Nat) : List Byte :=
  (acSection s.acc.applied 0x0D 4 |> fun sec => slice sec 16 8) ++ [0xEE, 0x1D, 0, 0, 0] ++ beBytes 1 p ++ beBytes 2 m

def State.anonAddr (s : State) : List Byte :=
  slice (acSection s.acc.applied 0x0D 4) 16 8 ++ (match deviceIdent with
    | b :: l => (b &&& 0xFC) :: l.take 7
    | [] => [])

/-- The address of the group FF05::EE1D:g. -/
def groupAddr (g : Nat) : List Byte := [0xFF, 0x05] ++ zeros 10 ++ [0xEE, 0x1D] ++ beBytes 2 g

/-- The one's complement sum of 16-bit words, folded into 16 bits; an odd last byte is the high one of its word. -/
def onesSum (l : List Byte) : Nat :=
  let n := (beWords ((l ++ zeros ((4 - l.length % 4) % 4)))).foldl (fun a w => a + w / 2 ^ 16 + w % 2 ^ 16) 0
  let f := fun (x : Nat) => x / 2 ^ 16 + x % 2 ^ 16
  f (f (f n))

/-- UDP's checksum over the pseudo header and the datagram, whose own checksum field is zero; a sum of zero is sent as all ones. -/
def udpSum (src dst udp : List Byte) : Nat :=
  let c := 0xFFFF - onesSum (src ++ dst ++ beBytes 4 udp.length ++ [0, 0, 0, 17] ++ udp)
  if c = 0 then 0xFFFF else c

/-- Frames that carry cells, copies and their acknowledgements are the data frames; those of discovery, roles and failure the control
frames (DEDUCED, assumption 112). -/
def ewData (type : Nat) : Bool := 0x10 ≤ type

/-- The IPv6 UDP datagram that carries a frame (R503): hop limit 64, DSCP 48 or 34, UDPPORT at both ends, a checksum; never fragmented,
no extension header. The flow label, of which the spec says nothing, is 0 (DESIGN CHOICE, assumption 112). -/
def State.ewPacket (s : State) (f : EwFrame) (noId : Bool) : List Byte :=
  let src := if noId then s.anonAddr else s.memberAddr f.srcId f.port
  let dst := if f.group then groupAddr f.grp else s.memberAddr f.dst f.port
  let data := s.ewBytes f noId
  let port := beBytes 2 (s.poolCfg 12 2)
  let len := beBytes 2 (8 + data.length)
  let sum := udpSum src dst (port ++ port ++ len ++ zeros 2 ++ data)
  beBytes 4 (6 * 2 ^ 28 + (if ewData f.type then 34 else 48) * 2 ^ 22) ++ len ++ [17, 64] ++ src ++ dst ++
    port ++ port ++ len ++ beBytes 2 sum ++ data

/-- The Ethernet source address and the packet of what a port sends (R502, R504). -/
def State.ewWire (s : State) (f : EwFrame) : List Byte × List Byte := (portMac f.port, s.ewPacket f !s.pool.hasId)

/-- A fresh XID. -/
def State.freshXid (s : State) : State × Nat := (s.modPool (fun p => { p with xid := (p.xid + 1) % 2 ^ 32 }), (s.pool.xid + 1) % 2 ^ 32)

/-- The frame that a STALE answer is about: the last one sent with its TYPE, XID and target (R510). -/
def State.staleOf (s : State) (h : EwHdr) (type : Nat) : Option EwFrame :=
  (s.pool.out.reverse.findSome? (fun x => match x with
    | .ewerid f => if f.type == type && f.xid == h.xid && f.dst == h.src && !f.group && !f.reply then some f else none
    | _ => none))

/-- R510: a frame for another generation goes back STALE (its header; the body, of which the answer needs nothing, is left out:
DESIGN CHOICE, assumption 112), one that came back STALE is kept until the roles are known, and one that arrives while DP is not Serving
is not processed. -/
def State.ewAccept (s : State) (h : EwHdr) (type : Nat) (f : State → State) : State :=
  if !s.poolOn then s
  else if h.reply && h.status = 1 then s.onSome (s.staleOf h type) (fun t g => t.modPool (fun p => { p with stale := p.stale ++ [g] }))
  else if h.dstGen != 0 && h.dstGen != s.plGen then (s.bump PL_RX.STALE).ewReply h type 1 []
  else
    f (s.modPool (fun p => { p with probing := p.probing.filter (· != h.src), members := p.members.map (fun m => if m.id == h.src then { m with heard := some s.tick } else m) }))

/-! ### The layout (R507, R514 to R517) -/

def State.layoutIds (s : State) : List Nat := s.pool.members.map (fun m => m.id)

/-- t_p of R515. -/
def State.poolT (s : State) (p : Nat) : Nat :=
  let w := s.poolW
  if w * (w - 1) / 2 < s.pool.members.length then p * (p + 1) / 2 else p

/-- The member at position `p` of group `g`. -/
def State.holder (s : State) (g p : Nat) : Option Nat :=
  if s.pool.members = [] then none else s.layoutIds[(g + s.poolT p) % s.pool.members.length]?

def State.memberFailed (s : State) (id : Nat) : Bool := s.pool.members.any (fun m => m.id == id && m.failed)

/-- The position a member has in a group. -/
def State.posIn? (s : State) (g id : Nat) : Option Nat := (List.range s.poolW).find? (fun p => s.holder g p == some id)

/-- Gd(m) of R516. -/
def State.dataGroups (s : State) (id : Nat) : List Nat :=
  (List.range s.pool.members.length).filter (fun g => (List.range s.pdata).any (fun p => s.holder g p == some id))

/-- The substitute for a Failed member of a group (R525). -/
def State.substitute (s : State) (g : Nat) : Option Nat :=
  let n := s.pool.members.length
  let cand := fun (q : Nat) => s.layoutIds[(g + s.poolT (s.poolW - 1) + q) % Nat.max 1 n]?
  ((List.range n).filterMap (fun q => cand (q + 1))).find? (fun id => !s.memberFailed id && (s.posIn? g id).isNone)

/-- Stripes and data members of a band set as the chunk space counts them (R514): those of a full set on every surface,
whether or not the set is open. -/
def State.chunkCells (s : State) (k : Nat) : Nat :=
  let b : BandSet := { BandSet.empty with cols := s.surfaces, spares := s.redund 2, width := s.redund 0 + 2 }
  s.nStripes k b * s.redund 0

/-- The chunk-space number of a data cell: band set, stripe, member. -/
def State.chunkIndex (s : State) (k st m : Nat) : Nat :=
  (List.range k).foldl (fun n j => n + s.chunkCells j) 0 + st * (Nat.max 2 (s.bandSet k).width - 2) + m

/-- The contribution of the data cell at `p` (R516). -/
def State.contribOf (s : State) (p op : Nat) : Option Contrib :=
  match s.stripeOf p with
  | none => none
  | some (k, st, m) =>
    let i := s.chunkIndex k st m
    let gd := s.dataGroups s.plId
    if s.pdata = 0 then none
    else (gd[i / 128 % s.pdata]?).map (fun g => (⟨g, i / 128 / s.pdata, i % 128, op, p⟩ : Contrib))

def cellKey (g r c h : Nat) : Nat := ((g * 2 ^ 32 + r) * 128 + c) * 2 + h

/-- The 8,192 bytes of half `h` of a frame's payload. -/
def halfOf (f : Frame) (h : Nat) : List Byte := slice (frameBytes f.slots) (8192 * h) 8192

def cellZero : List Byte := List.replicate 8192 0
def orZero (d : List Byte) : List Byte := if d = [] then cellZero else d

/-- The block of the parity range where half `h` of cell `c` of a row lies, two blocks long (R517): index 0 the member's P position,
1 its Q position (DESIGN CHOICE, assumption 112). -/
def parityBlock (i row c h : Nat) : Nat := 512 * (i + 2 * row) + 4 * c + 2 * h

/-- Block `b` of the parity range, 4,096 bytes, as the member's P and Q positions fill it. -/
def State.parityRange (s : State) (b : Nat) : List Byte :=
  let i := b / 512 % 2
  let pos := s.pdata + i
  match (List.range s.pool.members.length).find? (fun g => s.holder g pos == some s.plId) with
  | none => List.replicate 4096 0
  | some g => slice (SMap.get (fun _ => []) (if i = 0 then s.pool.parity else s.pool.parityQ) (cellKey g (b / 1024) (b % 512 / 4) (b / 2 % 2))) (4096 * (b % 2)) 4096

/-- Blocks available for host namespaces: on a pool member CAPBLK x PDATA / (PDATA + 3); the rest is the pool namespace (R518). -/
def State.hostBlocks (s : State) : Nat := if s.featPool then s.capBlk * s.pdata / (s.pdata + 3) else s.capBlk

/-! ### Contributions (R520 to R523) -/

/-- Body of PUPD and QUPD (R513). -/
def updBody (c : Contrib) (half pos wseq : Nat) (d : List Byte) : List Byte :=
  leBytes 4 c.group ++ leBytes 4 c.row ++ leBytes 1 c.cell ++ leBytes 1 half ++ leBytes 1 pos ++ leBytes 1 c.op ++ leBytes 8 wseq ++ zeros 12 ++ d

/-- Body of UPDACK. -/
def ackBody (c : Contrib) (half : Nat) : List Byte :=
  leBytes 4 c.group ++ leBytes 4 c.row ++ leBytes 1 c.cell ++ leBytes 1 half ++ zeros 2

/-- Contributions are made: Serving, and enough members (R515, R524). -/
def State.contribOn (s : State) : Bool := s.poolOn && s.plState == plServing && !s.bit PL_STAT.NOPROT

/-- Start a contribution: its open record; beyond 4,096 open it waits (R520). -/
def State.contribute (s : State) (c : Contrib) : State :=
  if 4096 ≤ s.pool.opens.length then s.modPool (fun p => { p with waiting := p.waiting ++ [c] })
  else (s.sjq (.contribOpen c)).modPool (fun p => { p with opens := p.opens ++ [⟨c, 0, 0, [], 0⟩] }) |>.plSync

/-- Send both PUPD halves of an open contribution. -/
def State.sendPupd (s : State) (o : OpenC) : State :=
  match s.holder o.c.group s.pdata, s.frame? o.c.pfn with
  | some ph, some f =>
    let pos := (s.posIn? o.c.group s.plId).getD 0
    [0, 1].foldl (fun t h => t.ewSend 0x10 ph o.xid (updBody o.c h pos o.seq (halfOf f h))) s
  | _, _ => s

/-- A contribution-open record is durable. -/
def State.contribOpened (s : State) (c : Contrib) (seq : Nat) : State :=
  let x := s.freshXid
  match s.pool.opens.find? (fun o => o.c == c) with
  | none => s
  | some o =>
    let o2 : OpenC := { o with seq := seq, xid := x.2 }
    (x.1.modPool (fun p => { p with opens := p.opens.map (fun q => if q.c == c then o2 else q) })).sendPupd o2

/-- The data cells of a complete stripe are contributed (R520). -/
def State.contribStripe (s : State) (k st : Nat) : State :=
  if !s.contribOn then s
  else s.each (s.memberPfns k st) (fun t p =>
    match SMap.get (fun _ => none) t.map.media p with
    | some (f : Frame) => if f.kind = 0 then t.onSome (t.contribOf p 0) State.contribute else t
    | none => t)

/-- A cell with a completed add is retracted when cleaning first reads it (R520, R521). -/
def State.retractCell (s : State) (p : Nat) : State :=
  if s.contribOn && s.pool.done.contains p && !s.pool.opens.any (fun o => o.c.pfn == p && o.c.op == 1) then s.onSome (s.contribOf p 1) State.contribute else s

/-- R521 for a band set: no cell whose add is complete lacks its retraction. -/
def State.poolClear (s : State) (k : Nat) : Bool := !s.featPool || s.pool.done.all (fun p => s.setOfPfn p != some k)

/-- The writer's groups held at the partner whose every block is contributed or superseded (R519). -/
def State.releasable (s : State) (x : Nat × Nat × Nat) : Bool :=
  (List.range x.2.2).all (fun j =>
    match s.entry (s.mapIndex (x.2.1 + j)) with
    | .media p _ => s.pool.done.contains p
    | .journal q => !(s.map.journal.any (fun r => r.seq == x.1 && (match r.body with
        | .writeGroup g n _ pg _ => (s.groupUnits g n pg).any (fun u => u.2 == q)
        | _ => false)))
    | _ => true)

/-- The partner: the next Serving member after this one in L (R519). -/
def State.partner (s : State) : Option Nat :=
  let ids := s.layoutIds
  let after := ids.filter (s.plId < ·) ++ ids.filter (· < s.plId)
  after.find? (fun i => s.pool.members.any (fun m => m.id == i && !m.failed && m.state == plServing))

/-- PRELEASE for every releasable group. -/
def State.release (s : State) : State :=
  let gs := s.pool.mine.filter s.releasable
  match gs, s.partner with
  | [], _ => s
  | _, none => s
  | _, some m =>
    (s.modPool (fun p => { p with mine := p.mine.filter (fun x => !gs.contains x) })).ewSend 0x14 m 0
      (leBytes 2 gs.length ++ zeros 6 ++ gs.flatMap (fun x => leBytes 8 x.1))

/-- Serving, once every open contribution is settled and the map is up (R532). -/
def State.poolSettle (s : State) : State :=
  if s.plState == plReconciling && s.pool.opens == [] && s.fld MP_STAT.STATE == 4 && s.poolOn then s.setFld PL_STAT.STATE plServing else s

/-- A contribution is complete at its writer. -/
def State.contribClose (s : State) (o : OpenC) : State :=
  let s1 := (s.sjq (.contribDone o.c)).modPool (fun p => { p with
    opens := p.opens.filter (fun q => !(q == o))
    done := if o.c.op = 0 then p.done ++ [o.c.pfn] else p.done.filter (· != o.c.pfn) })
  let s2 := match s1.pool.waiting with
    | c :: rest => (s1.modPool (fun p => { p with waiting := rest })).contribute c
    | [] => s1
  (s2.release.poolSettle).plSync

/-- The P holder's QUPD frames for the halves it has. -/
def State.sendQupd (s : State) (h : HeldC) : State :=
  match s.holder h.c.group (s.pdata + 1) with
  | none => s
  | some q => h.halves.foldl (fun t x => t.ewSend 0x11 q h.xidOut (updBody h.c x.1 h.pos h.wseq x.2)) s

/-- A held-contribution record is durable: QUPD goes out (R520). -/
def State.heldDurable (s : State) (c : Contrib) (writer wseq : Nat) : State :=
  match s.pool.held.find? (fun h => h.c.same c && h.writer == writer && h.wseq == wseq) with
  | none => s
  | some h =>
    if h.durable then s
    else
      let x := s.freshXid
      let h2 : HeldC := { h with durable := true, xidOut := x.2 }
      ((x.1.modPool (fun p => { p with held := p.held.map (fun g => if g == h then h2 else g) })).sendQupd h2).plSync

/-! ### Partner copies (R519) -/

/-- Writes are completed without a partner copy. -/
def State.unpaired (s : State) (on : Bool) : State :=
  if s.bit PL_STAT.UNPAIRED == on then s
  else (s.setFld PL_STAT.UNPAIRED (if on then 1 else 0)).record 0x1201 (leBytes 1 (if on then 0 else 1) ++ zeros 3)

/-- Complete the command of a write group that is durable and, where a partner answers, copied. -/
def State.finishWrite (s : State) (owner : Option CmdRef) (result : Nat) : State :=
  match owner with
  | none => s
  | some r => match s.cmd? r.ctrl r.sq r.cid with
    | some m => s.complete m .ok result
    | none => s

/-- PCOPY frames of a durable write group: 8,128 bytes of data each; the completion waits for their ACKs. -/
def State.pairGroup (s : State) (l : JLine) (seq : Nat) (record data : List Byte) : State :=
  if !s.featPool then (if l.last then s.finishWrite l.owner l.result else s)
  else match s.partner with
  | some m =>
    if !(s.poolOn && s.plState == plServing) then
      let s1 := s.unpaired true
      if l.last then s1.finishWrite l.owner l.result else s1
    else
      let n := (data.length + 8127) / 8128
      let xs := (List.range n).map (fun k => (s.pool.xid + 1 + k) % 2 ^ 32)
      let s1 := (s.modPool (fun p => { p with xid := (p.xid + n) % 2 ^ 32, pairs := p.pairs ++ [⟨l.owner, l.last, l.result, xs⟩] }))
      let s2 := match l.body with
        | .writeGroup g k _ _ _ => s1.modPool (fun p => { p with mine := p.mine ++ [(seq, g, k)] })
        | _ => s1
      s2.each xs.zipIdx (fun t x => t.ewSend 0x13 m x.1 (record ++ (data.drop (8128 * x.2)).take 8128))
  | none =>
    let s1 := if s.pool.members != [] || !s.isServing .DP then s.unpaired true else s
    if l.last then s1.finishWrite l.owner l.result else s1

/-- Complete what is fully copied, oldest first: a command only after every group of it. -/
def State.pairPump (s : State) : State :=
  let rdy := s.pool.pairs.filter (fun w => w.xids == [])
  let s1 := s.modPool (fun p => { p with pairs := p.pairs.filter (fun w => w.xids != []) })
  s1.each rdy (fun t w =>
    if w.last && !t.pool.pairs.any (fun v => v.owner == w.owner) then t.finishWrite w.owner w.result
    else if w.last then t.modPool (fun p => { p with pairs := p.pairs.map (fun v => if v.owner == w.owner then { v with last := true, result := w.result } else v) })
    else t)

/-- No partner answers, or DP has left Serving: what waits completes unpaired (R519). -/
def State.pairDrop (s : State) : State :=
  if s.pool.pairs = [] then s
  else ((s.modPool (fun p => { p with pairs := p.pairs.map (fun w => { w with xids := [] }) })).pairPump).unpaired true

/-! ### States of R532 -/

/-- This device's shard: of its ID, else IDENT[0] mod 64 (R509). -/
def State.myShard (s : State) : Nat := if s.pool.hasId then shardOf s.plId else (leNat (slice deviceIdent 0 1)) % 64

/-- LEAVE to the shard group on both ports (R524, R667). -/
def State.sendLeave (s : State) (ret : Nat) : State :=
  [0, 1].foldl (fun t p => t.ewGroup p t.myShard 0x08 0 (leBytes 2 ret ++ zeros 2)) s

/-- DP leaves Serving: no contribution is made and writes complete unpaired; Booting comes on the return (R519, R532). -/
def State.poolDown (s : State) : State := if s.plState == plNone then s else s.pairDrop

/-- The roll-call slot of an attempt: SHA-256 of IDENT and the attempt, here one byte, mod 64 (R530; DESIGN CHOICE, assumption 112). -/
def rollSlotOf (attempt : Nat) : Nat := beNat (sha256 (deviceIdent ++ beBytes 1 attempt)) % 64

/-- The groups joined (R504): the shard's, and the leaders' for a leader. -/
def State.groupsJoined (s : State) : List Nat := s.myShard :: (if s.plLeads then [leadersGroup] else [])

/-- MLDv2 tells the routers on both ports of the groups joined. -/
def State.joinGroups (s : State) : State :=
  [0, 1].foldl (fun t p => t.modPool (fun x => { x with out := x.out ++ [.mldReport p t.groupsJoined] })) s

/-- Phase 2 has ended, or the master is known already: roll call begins, the groups are joined and the slot timer runs (R532). -/
def State.poolMasterKnown (s : State) : State :=
  let known := s.fld EB_STAT.ELECT == 2 || s.fld EB_STAT.ELECT == 3
  if s.poolOn && s.plState == plBooting && known then
    ((s.setFld PL_STAT.STATE plRollCall).modPool (fun p => { p with
      hellos := [], leaders := [], rosters := [], claim := none, votes := [], repeated := false, slot := some (rollSlotOf 0) })).joinGroups
  else s

/-- The Accord is applied, or DP returns to Serving (R508, R532). -/
def State.poolBoot (s : State) : State :=
  if !s.featPool then s
  else
    let stored := s.tier.sj.foldl (fun (r : Option (Nat × Nat × Nat)) x => match x.body with
      | .identity m g e _ => some (m, g, e)
      | _ => r) none
    let id0 := (stored.map (fun x => x.1)).getD s.plId
    let fixed := s.poolCfg 8 1 == 1
    let id := if fixed then s.poolCfg 10 2 else id0
    let s0 := match stored with
      | some (_, g, e) => (s.setFld PL_MEMBER.ROLEGEN (Nat.max g s.plGen)).setFld PL_EPOCH.EPOCH (Nat.max e (s.fld PL_EPOCH.EPOCH))
      | none => s
    let s1 := ((s0.setFld PL_MEMBER.ID id).modPool (fun p => { p with hasId := p.hasId || fixed || stored.isSome })).setFld PL_STAT.STATE plBooting
    (s1.setFld PL_STAT.SHARD s1.myShard).poolMasterKnown

/-- Tenths of a second since PORST_L rose (PL_START). -/
def State.sinceRise (s : State) : Nat := Nat.min 0xFFFF (s.tick / 2500000)

/-- Write this member's identity record (R508, R522). -/
def State.identityRecord (s : State) : State :=
  s.sjq (.identity s.plId s.plGen (s.fld PL_EPOCH.EPOCH) (sha256 (s.layoutIds.flatMap (fun i => leBytes 2 i))))

/-- A restarting writer asks the P holder of each contribution still open (R523). -/
def State.askOpens (s : State) : State :=
  s.each s.pool.opens (fun t o =>
    if o.seq = 0 then t
    else match t.holder o.c.group t.pdata with
      | some ph => t.ewSend 0x22 ph o.xid (leBytes 4 o.c.group ++ leBytes 4 o.c.row ++ leBytes 1 o.c.cell ++ zeros 3 ++ leBytes 8 o.seq)
      | none => t)

/-- Adopt a layout (R507, R532). A member that L names Failed stays Isolated until a re-layout (R524); a device without an identity record
of its own, which a fixed MEMBERID puts in a Failed member's place, goes on and adopts it (R528). -/
def State.adoptLayout (s : State) (epoch : Nat) (ids : List (Nat × Bool)) : State :=
  let old := s.pool.members
  let ms := ids.map (fun x => match old.find? (fun m => m.id == x.1) with
    | some m => { m with failed := x.2 }
    | none => ({ id := x.1, failed := x.2, gen := 0, state := 0, heard := none, away := 0, ident := [] } : PoolMember))
  let s1 := (s.modPool (fun p => { p with members := ms, parts := [] })).setFld PL_EPOCH.EPOCH epoch
  let s2 := s1.setFld PL_START.AGREED (if s1.fld PL_START.AGREED = 0 then s1.sinceRise else s1.fld PL_START.AGREED)
  if s2.plState == plAgreeing || s2.plState == plIsolated || s2.plState == plStandby then
    if ms.any (fun m => m.id == s2.plId && m.failed) && s2.tier.sj.any (fun r => match r.body with
        | .identity .. => true
        | _ => false) then (s2.setFld PL_STAT.STATE plIsolated).plSync
    else if s2.pool.hasId && ms.any (fun m => m.id == s2.plId) then (((s2.setFld PL_STAT.STATE plReconciling).identityRecord.askOpens).poolSettle).plSync
    else (s2.setFld PL_STAT.STATE plStandby).plSync
  else s2.identityRecord.plSync

/-! ### Failure and rebuild (R524 to R527) -/

/-- This device is named Failed, or another holds its ID (R524, R529). -/
def State.isolate (s : State) : State := (s.pairDrop).setFld PL_STAT.STATE plIsolated

/-- Member `id` is Failed. Its open contributions here are completed again (R523); where this device is the substitute a
rebuild begins (R525). -/
def State.memberFail (s : State) (id newgen cause : Nat) : State :=
  if id == s.plId then s.isolate
  else if s.memberFailed id then s
  else
    let s1 := (s.modPool (fun p => { p with members := p.members.map (fun m => if m.id == id then { m with failed := true, gen := newgen } else m), probing := p.probing.filter (· != id) })).record 0x1204
      (leBytes 2 id ++ leBytes 1 cause ++ zeros 1)
    let s2 := s1.each (s1.pool.held.filter (fun h => h.writer == id && h.durable)) State.sendQupd
    let groups := (List.range s2.pool.members.length).filter (fun g => (s2.posIn? g id).isSome && s2.substitute g == some s2.plId)
    let s3 := if groups = [] then s2
      else (((s2.setBit PL_STAT.REBUILD).setFld PL_RB.FAILED id).setFld PL_RBLEFT.ROWS (groups.length * (List.range s2.nBandSets).foldl (fun n k => n + s2.chunkCells k) 0 / (128 * Nat.max 1 s2.pdata))).modPool (fun p => { p with rebuildOf := some id })
    s3.plSync

/-- A shard elects again: its leader is silent (R529, R530). -/
def State.reElect (s : State) : State :=
  (s.setFld PL_STAT.STATE plElecting).modPool (fun p => { p with leaders := p.leaders.filter (fun x => x.1 != s.myShard), claim := none, votes := [] })

/-- What position `pos` of a row holds at this member, one half of a cell: none where it is lost (R525, R529). -/
def State.cellHere (s : State) (g r c h pos : Nat) : Option (List Byte) :=
  let key := cellKey g r c h
  if (s.holder g pos).any (fun i => i == s.plId) then
    if pos = s.pdata then some (orZero (SMap.get (fun _ => []) s.pool.parity key))
    else if pos = s.pdata + 1 then some (orZero (SMap.get (fun _ => []) s.pool.parityQ key))
    else
      let mine := s.pool.done.find? (fun p => match s.contribOf p 0 with
        | some x => x.group == g && x.row == r && x.cell == c
        | none => false)
      match mine with
      | none => some cellZero
      | some p =>
        -- a cell that cannot be read is first restored through Tier L (R529)
        ((s.frame? p).or (match s.stripeOf p with
          | some (k, st, m) => (s.restoreStripe k st).bind (fun fs => fs[m]?)
          | none => none)).map (fun f => halfOf f h)
  else
    let d := SMap.get (fun _ => []) s.pool.spare key
    if d = [] then none else some d

/-- CREAD body and CDATA body (R512). -/
def creadBody (g r c h pos : Nat) : List Byte := leBytes 4 g ++ leBytes 4 r ++ leBytes 1 c ++ leBytes 1 h ++ leBytes 1 pos ++ zeros 1

/-- Read the other positions of a row for the target position (R525, R527). -/
def State.readRow (s : State) (g r c h target purpose pfn : Nat) : State :=
  let ps := (List.range s.poolW).filter (· != target)
  let s1 := s.modPool (fun p => { p with reads := p.reads ++ [⟨g, r, c, h, target, purpose, pfn, []⟩] })
  s1.each ps (fun t p =>
    match t.holder g p with
    | none => t
    | some i =>
      let at' := if t.memberFailed i then t.substitute g else some i
      t.onSome at' (fun u j => u.ewSend 0x20 j 0 (creadBody g r c h p)))

/-- Reconstruct cells of this device's own through Tier P (R527): both halves of the frame at `p`. -/
def State.poolRead (s : State) (p : Nat) : State :=
  match s.contribOf p 0 with
  | none => s
  | some c =>
    if !s.contribOn || !s.pool.done.contains p || s.pool.reads.any (fun x => x.pfn == p && x.purpose == 1) then s
    else
      let t := (s.posIn? c.group s.plId).getD 0
      (s.readRow c.group c.row c.cell 0 t 1 p).readRow c.group c.row c.cell 1 t 1 p

end Sys2Proof.Machine
end

