-- ==== Sys2Proof/Machine/DomainOps.lean ====
section
/-! DEFINITION. The domains that can be serviced (R30 to R40, R694, R695, R662, R663): take-down, quiesce, restore, fault;
the replacement of faulted helpers (R158 to R160); the slots of boot flash and the end of a domain load (R112, R135, R136). -/
namespace Sys2Proof.Machine

/-! ### Registers and records -/

def fbAddr : Dom → Nat
  | .DA => 0x190020
  | .DB => 0x190024
  | .DP => 0x190028
  | .DE => 0x19002C

def fbCause (d : Dom) : Fld := ⟨fbAddr d, 31, 24⟩
def fbFaults (d : Dom) : Fld := ⟨fbAddr d, 23, 16⟩
def fbRestores (d : Dom) : Fld := ⟨fbAddr d, 15, 8⟩
def fbHold (d : Dom) : Fld := ⟨fbAddr d, 0, 0⟩

/-- State codes of R569, as record 0x1902 shows them. -/
def domStCode : DomState → Nat
  | .serving => 0
  | .quiescing => 1
  | .down => 2
  | .restoring => 3

/-- Record 0x1902: DOMAIN, FROM, TO, CAUSE. -/
def State.domRecord (s : State) (d : Dom) (frm into : DomState) (cause : Nat) : State :=
  s.record 0x1902 (leBytes 1 (domCode d) ++ leBytes 1 (domStCode frm) ++ leBytes 1 (domStCode into) ++ leBytes 1 cause)

def domains : List Dom := [.DA, .DB, .DP, .DE]

/-- Complete a take-down or restore request (R695). The steward's own have no one to answer. -/
def State.answer (s : State) (q : Option Requester) (status result : Nat) : State :=
  match q with
  | some (.ring r t) => s.ringEnd r t status (resultByte status result)
  | _ => s

/-! ### Boot-flash slots (R112, R137) -/

def asEmpty : Nat := 0
def asPending : Nat := 1
def asTried : Nat := 2
def asCommitted : Nat := 3
def asRevoked : Nat := 4

/-- The state of an Accord slot by its marks. -/
def FlashSlot.state (x : FlashSlot) (good : Bool) : Nat :=
  if x.marks.revoke then asRevoked else if x.marks.commit then asCommitted else if x.marks.tried then asTried
  else if good then asPending else asEmpty

/-- The header of an Accord passes checks 1 to 3 (R124). -/
def acHeaderOk (img : List Byte) : Bool := img != [] && acCheck1 img && acCheck2 img accordSize && acCheck3 img

def State.acSlotState (s : State) (k : Nat) : Nat := (s.flashAccord k).state (acHeaderOk (s.flashAccord k).image)

def acStateFld (k : Nat) : Fld := if k = 0 then AC_SLOTST.STATE0 else AC_SLOTST.STATE1
def acGenFld (k : Nat) : Fld := if k = 0 then AC_SLOTGEN0.GEN else AC_SLOTGEN1.GEN

/-- AC_SLOTST and AC_SLOTGEN of a slot. -/
def State.acSlotSync (s : State) (k : Nat) : State :=
  let st := s.acSlotState k
  (s.setFld (acStateFld k) st).setFld (acGenFld k) (if st = asEmpty then 0 else acGeneration (s.flashAccord k).image)

/-- Set marks of an Accord slot. -/
def State.acMark (s : State) (k : Nat) (f : Marks → Marks) : State :=
  (s.modFlashAccord k (fun x => { x with marks := f x.marks })).acSlotSync k

/-- Revoke an Accord slot with an error (R129): record 0x0301. -/
def State.acRevoke (s : State) (k err sect : Nat) : State :=
  (s.acMark k (fun m => { m with revoke := true })).record 0x0301
    (leBytes 1 k ++ leBytes 1 err ++ leBytes 1 sect ++ zeros 1 ++ leBytes 4 (acGeneration (s.flashAccord k).image))

/-- AC_STAT.OP and BUSY. -/
def State.acOp (s : State) (op : Nat) : State := (s.setFld AC_STAT.OP op).setFld AC_STAT.BUSY (if op = 0 then 0 else 1)

/-- AC_STAT.ERR and ERRSECT. -/
def State.acErr (s : State) (err sect : Nat) : State := (s.setFld AC_STAT.ERR err).setFld AC_STAT.ERRSECT sect

/-- AC_GEN, AC_LEN and AC_DIGEST show the applied image, which slot `k` holds. -/
def State.acShow (s : State) (k : Nat) : State :=
  let img := s.acc.applied
  let d := sha256 (img.take (acImgLen img))
  let s1 := ((s.setFld AC_GEN.GEN (acGeneration img)).setFld AC_LEN.IMGLEN (acImgLen img)).setFld AC_STAT.SLOT k
  s1.each (List.range 8) (fun t j => t.setFld (AC_DIGEST.DIGEST j) (leAt d (4 * j) 4))

/-- Tell who asked for a store or a domain load how it ended. -/
def State.answerStore (s : State) (o : StoreOwner) (status result : Nat) (nv : NvStatus) : State :=
  match o with
  | .ring r t => s.ringEnd r t status (resultByte status result)
  | .firmware c q cid => match s.cmd? c q cid with
    | some m => s.complete m nv 0
    | none => s

/-- Invalid Firmware Image, and Firmware Activation Requires Conventional Reset (NVMe base specification). -/
def NvStatus.invalidImage : NvStatus := .specific 0x07
def NvStatus.needsReset : NvStatus := ⟨1, 0x0B, false, 0⟩
def NvStatus.invalidSlot : NvStatus := .specific 0x06

/-- A store or domain apply ends with an error (R131, R136): its slot is revoked, the operation is over. -/
def State.storeFailed (s : State) (err : Nat) : State :=
  match s.acc.store with
  | none => s
  | some x =>
    let s1 := { s with acc := { s.acc with store := none } }
    let s2 := (s1.when x.written (fun t => t.acRevoke x.slot err 0xFF)).acErr err 0xFF
    (s2.acOp 0).answerStore x.owner rsAccordError err .internalError

/-- The deferred power-state request of R136 may go on. -/
def State.deferredDue (s : State) : Bool := s.power.deferred.isSome && !s.bit AC_STAT.BUSY && s.fld PW_STAT.VMSTATE == 0

/-! ### Leaving Serving -/

/-- DA or DB leaves Serving: calibration runs of its lanes are abandoned (R435) and its reading lanes go Off with their frames ABORTED
(R378). A frame being written is work in flight, which ends first (R30): its clocking lane takes no further frame and goes Off at its
end (DESIGN CHOICE, assumption 95). DP: the pool's traffic stops (R519, R532). -/
def State.leaveServing (s : State) (d : Dom) : State :=
  match actOfDom d with
  | some a =>
    let s1 := s.abandonRuns (fun r => s.lnAct r.lane == a)
    s1.each lanes9 (fun t l =>
      if t.lnAct l != a then t
      else if t.lnState l == lnReading then t.laneOff l
      else if t.lnState l == lnClocking then t.laneAbort l
      else t)
  | none => if d = .DP then s.poolDown else s

/-- What the domain still has in flight is aborted: queued frames post ABORTED, open gates close and their frames are abandoned, frames
that wait for the bus are dropped. -/
def State.dropWork (s : State) (d : Dom) : State :=
  match actOfDom d with
  | some a => (s.closeGates a).each lanes9 (fun t l => if t.lnAct l == a then t.laneAbort l else t)
  | none => if d = .DE then s.modEb (fun e => { e with tx := [] }) else s

/-- The domain is stopped: no gate is open and every lane of its actuator is Off; nothing waits for the bus. -/
def State.stopDomain (s : State) (d : Dom) : State :=
  match actOfDom d with
  | some a => ((s.abandonRuns (fun r => s.lnAct r.lane == a)).closeGates a).lanesOff a
  | none => s.dropWork d

/-! ### Helpers (R153, R157 to R160) -/

/-- Role assignment: ROLE, PARAM, and ROLEGEN one higher; the applied Accord stays (R161). -/
def State.assignRole (s : State) (h role param : Nat) : State :=
  ((s.setFld (HE_ROLE.ROLE h) role).setFld (HE_ROLE.PARAM h) param).setFld (HE_ROLE.ROLEGEN h) (s.fld (HE_ROLE.ROLEGEN h) + 1)

/-- DD_STAT.NSCHED follows the Running schedulers (R404). -/
def State.schedSync (s : State) : State := s.setFld DD_STAT.NSCHED s.nsched

/-- The patch set that helper `h` is to run in its role: that of the domain bundle in effect, else of the full bundle (R173, R178). -/
def State.patchDue (s : State) (h : Nat) : PatchSet :=
  let dom := match s.heDom h with
    | .svc d => (s.fabric.domInEffect.find? (fun x => x.1 == domCode d)).map (fun x => x.2)
    | _ => none
  match dom with
  | some b => ptFor b (s.role h)
  | none => ptFor s.fabric.bundle (s.role h)

/-- Start: the role's entry microword in the common bank (R153); a half staged while it was Stopped is taken (R177), as is the record
of a role newly assigned. -/
def State.heStart (s : State) (h : Nat) : State :=
  let due := s.patchDue h
  let s1 := s.modHelper h (fun x => { x with
    shadow := if x.shadow.isNone && x.active != due then some due else x.shadow
    space := 1, pc := Config.entryPoint (s.role h), count := 0, rstack := [], events := [], blocked := false, work := [], stopReq := false, haltReq := false, spDue := false, watchdog := false })
  ((s1.heSwap h).setFld (HE_STAT.STATE h) heRunning).schedSync

/-! ### Loads (R134, R178) -/

/-- The domain bundle in effect for a domain code; empty: none. -/
def State.domBundle (s : State) (code : Nat) : List Byte := ((s.fabric.domInEffect.find? (fun x => x.1 == code)).map (fun x => x.2)).getD []

def State.domSet (s : State) (code : Nat) (b : List Byte) : State :=
  s.modFabric (fun f => { f with domInEffect := f.domInEffect.filter (fun x => x.1 != code) ++ (if b = [] then [] else [(code, b)]) })

/-- The helpers of the domain are stopped, take the patches that are in effect for it while they are Stopped, and start again where they
ran (R178). Faulted ones keep theirs (R177). -/
def State.loadPatch (s : State) (d : Dom) : State :=
  s.each helpers24 (fun t h =>
    if t.heDom h == .svc d && t.heState h != heFaulted then
      let t1 := t.when (t.heActive h) (fun u => u.heHalt h)
      let t2 := (t1.modHelper h (fun x => { x with shadow := some (t1.patchDue h) })).heSwap h
      t2.when (t.heActive h) (fun u => u.heStart h)
    else t)

/-- Down is entered with a load pending: its sections or patches are applied (R30). -/
def State.applyLoad (s : State) (d : Dom) (k : LoadKind) : State :=
  match k with
  | .accord => match s.acc.store with
    | some x => ({ s with acc := { s.acc with applied := x.image, prev := some s.acc.applied } }).acOp 3
    | none => s
  | .patch => match s.fabric.domainBundles.find? (fun x => x.1 == domCode d) with
    | some x => ((s.modFabric (fun f => { f with domPrev := f.domPrev ++ [(x.1, s.domBundle x.1)] })).domSet x.1 x.2.1).loadPatch d
    | none => s

/-- A load ends without effect: the previous sections and patches are kept (R30, R136). -/
def State.loadFailed (s : State) (d : Dom) (k : LoadKind) (err : Nat) : State :=
  match k with
  | .accord =>
    let s1 := match s.acc.prev with
      | some p => { s with acc := { s.acc with applied := p, prev := none } }
      | none => s
    s1.storeFailed err
  | .patch => match s.fabric.domainBundles.find? (fun x => x.1 == domCode d) with
    | some x =>
      let s1 := match s.fabric.domPrev.find? (fun y => y.1 == x.1) with
        | some y => ((s.modFabric (fun f => { f with domPrev := f.domPrev.filter (fun z => z.1 != x.1) })).domSet x.1 y.2).loadPatch d
        | none => s
      (s1.modFabric (fun f => { f with domainBundles := f.domainBundles.filter (fun y => y.1 != domCode d) })).answerStore x.2.2 rsUnitError err .internalError
    | none => s

/-- A load is complete (R135, R178): the applied image and AC_GEN change, COMMIT is set, the command completes. -/
def State.loadDone (s : State) (d : Dom) (k : LoadKind) : State :=
  match k with
  | .accord => match s.acc.store with
    | some x =>
      let s1 := { s with acc := { s.acc with prev := none, store := none, copyDue := true } }
      let s2 := ((s1.acShow x.slot).acMark x.slot (fun m => { m with commit := true })).record 0x0302
        (leBytes 1 x.slot ++ leBytes 1 (acKind x.image) ++ leBytes 1 (acTarget x.image) ++ zeros 1 ++ leBytes 4 (acGeneration x.image))
      ((([Act.A, .B].foldl (fun t a => t.assistLoad a) s2).clrBit AC_STAT.MEDIACOPY).acOp 0).answerStore x.owner rsSuccess 0 .ok
    | none => s
  | .patch => match s.fabric.domainBundles.find? (fun x => x.1 == domCode d) with
    | some x => (s.modFabric (fun f => { f with domainBundles := f.domainBundles.filter (fun y => y.1 != domCode d), domPrev := f.domPrev.filter (fun y => y.1 != x.1) })).answerStore x.2.2 rsSuccess 0 .ok
    | none => s

/-! ### Going Down -/

/-- The domain goes Down without serving further: FB_DOMx, ALERT, the event and the record (R659, R662), the retract of DA or
DB (R318), the requests in progress (R695), a load cancelled (R136). `rec` is record 0x1902's CAUSE. A take-down in progress has
reached its end, Down; DE's, which R29 makes a restart, has not: it ends with Unit error and the cause at once, whatever follows
(DESIGN CHOICE, assumption 93: the spec does not say). -/
def State.dropDomain (s : State) (d : Dom) (cause rec : Nat) : State :=
  let x := s.dom d
  if x.st == .down then s
  else
    let s1 := (if x.st == .serving then s.leaveServing d else s).stopDomain d
    let s2 := match actOfDom d with
      | some a => (s1.retractAct a true).when (s1.bit PX_STAT.REBUILD && x.st == DomState.serving) (fun t => t.setBit PX_STAT.PAUSED)
      | none => s1
    let s3 := (((s2.setFld (fbCause d) cause).bump (fbFaults d)).setBit FB_ALERT.DOMAIN).aer none 7 0x01 0xC0
    let s4 := (s3.domRecord d x.st .down rec).modDom d (fun y => { y with
      st := .down, load := none, takedown := none, restore := none, held := false, heldLoading := false, parkReq := false,
      leftTick := if x.st == DomState.serving then s.tick else y.leftTick })
    let s5 := (s4.answer x.restore rsUnitError cause).answer x.takedown (if d = Dom.DE then rsUnitError else rsSuccess) (if d = Dom.DE then cause else 0)
    match x.load with
    | some k => s5.loadFailed d k (if rec = 3 then 0x0F else 0x0E)
    | none => s5

/-! ### The replacement of faulted helpers (R158 to R160) -/

/-- A stop request is accepted: the role can be stopped; a servo helper's actuator is parked, an assist helper's gates are closed. -/
def State.stopOk (s : State) (h : Nat) : Bool :=
  let a := actOf (s.roleParam h)
  match s.role h with
  | 0x02 | 0x03 => s.svState a == svParked
  | 0x04 => !s.gate a 0 && !s.gate a 1
  | r => (drainMs r).isSome

/-- A stop request takes effect (R153, R168): from this tick new messages are returned DOWN, those in the fabric among them; the queued
frames of a lane sequencer are aborted, its current one goes on. -/
def State.heStopNow (s : State) (h : Nat) : State :=
  let ms := s.fabric.waiting.filter (fun m => m.dst == h)
  let s1 := ((s.setFld (HE_STAT.STATE h) heStopping).modFabric (fun f => { f with waiting := f.waiting.filter (fun m => m.dst != h) })).modHelper h
    (fun x => { x with stopReq := false })
  ((s1.each ms (fun t m => t.returnMsg m msgDown)).when (s.role h == 0x01) (fun t => t.laneAbortQueue (t.roleParam h))).schedSync

/-- A stop request (R151, R156, R168): it takes effect at the next safe point, at once where the helper stands at one. -/
def State.heStopAsk (s : State) (h : Nat) : State :=
  let note := fun (n : Nat) => s.modHelper h (fun x => { x with stopStatus := some n })
  if s.heState h == heFaulted then note rsAlreadyDown
  else if s.heState h != heRunning then s
  else if !s.stopOk h then note rsRefused
  else if (s.helper h).count = 0 then s.heStopNow h
  else s.modHelper h (fun x => { x with stopReq := true })

/-- A helper that can be re-roled. -/
def State.spareOk (s : State) (h : Nat) : Bool := s.heState h != heFaulted && !s.fabric.owed.any (fun x => x.1 == h)

/-- The spare of R158. -/
def State.spare? (s : State) : Option Nat :=
  let of' := fun (role : Nat) => helpers24.filter (fun h => s.role h == role && s.spareOk h)
  match of' 0x00 with
  | h :: _ => some h
  | [] =>
    if 1 < (of' 0x0B).length then (of' 0x0B).getLast?
    else if 1 < (of' 0x0C).length then (of' 0x0C).getLast?
    else none

/-- Faulted helpers of a domain that no spare replaces yet. -/
def State.toReplace (s : State) (d : Dom) : List Nat :=
  helpers24.filter (fun h => s.heState h == heFaulted && s.heDom h == .svc d && !s.fabric.replacing.any (fun x => x.1 == h))

/-- The role a spare is owed is assigned and the spare started, once it is Stopped (R159). -/
def State.reRole (s : State) (h : Nat) : State :=
  match s.fabric.owed.find? (fun x => x.1 == h) with
  | none => s
  | some (_, role, param) =>
    ((s.modFabric (fun f => { f with owed := f.owed.filter (fun x => x.1 != h) })).assignRole h role param).heStart h

/-- A faulted helper is replaced by a spare: stopped first, re-roled once Stopped (R158, R159). -/
def State.replaceHelper (s : State) (h sp : Nat) : State :=
  let s1 := (s.modFabric (fun f => { f with replacing := f.replacing ++ [(h, sp)], owed := f.owed ++ [(sp, s.role h, s.roleParam h)] })).unitFault
  if s1.heState sp == heStopped then s1.reRole sp
  else if s1.heState sp == heRunning then s1.heStopAsk sp
  else s1

/-- Replace every faulted helper of the domain; false where a spare is wanting (R160). -/
def State.replaceAll (s : State) : List Nat → State × Bool
  | [] => (s, true)
  | h :: l => match s.spare? with
    | none => (s, false)
    | some sp => (s.replaceHelper h sp).replaceAll l

/-! ### Restoring -/

/-- A Parked actuator of a Restoring domain is loaded (R33). -/
def State.tryLoad (s : State) (a : Act) : State :=
  if (s.dom (domOfAct a)).st == .restoring && s.svState a == svParked && s.spReady then s.startLoad a else s

/-- Cause 4 of R423 arises for every lane bound to the actuator. -/
def State.dueRestoring (s : State) (a : Act) : State := (s.each (s.boundLanes a) (fun t l => t.setCause l 4)).calSync

/-- Restoring is entered: faulted helpers are replaced, the actuator's faults are cleared (R318), its lanes are due (R425), and it is loaded. -/
def State.enterRestoring (s : State) (d : Dom) (q : Requester) : State :=
  let s1 := s.modDom d (fun x => { x with st := .restoring, restore := some q, held := false, heldLoading := false, parkReq := false })
  let r := s1.replaceAll (s1.toReplace d)
  if !r.2 then (r.1.dropDomain d 6 3).setBit (fbHold d)
  else match actOfDom d with
    | some a => (((r.1.clearActFaults a).modSv a (fun v => { v with faultPend := false })).dueRestoring a).tryLoad a
    | none => r.1

/-- What follows a domain fault by itself (R663). A fault that ends a restore counts as a failed restore. -/
def State.autoRestore (s : State) (d : Dom) (cause : Nat) (was : DomSt) : State :=
  let soon := fun (sec : Nat) => was.everServed && was.st == .serving && decide (s.tick < was.servedTick + secTicks sec)
  if s.bit FB_STAT.BASENOTE then s
  else if d = .DE then
    if !was.everServed then s.setBit (fbHold d)
    else
      let n := if was.st == .restoring || soon 60 then was.restartFails + 1 else 0
      let s1 := s.modDom d (fun x => { x with restartFails := n })
      if 3 ≤ n then (s1.setBit (fbHold d)).modEb (fun e => { e with localDelay := true })
      else ((s1.bump (fbRestores d)).modDom d (fun x => { x with autoTick := some s.tick })).enterRestoring d .steward
  else if cause = 6 || was.restore.isSome || (was.everServed && decide (s.tick < was.servedTick + secTicks 600)) then s.setBit (fbHold d)
  else ((s.bump (fbRestores d)).modDom d (fun x => { x with autoTick := some s.tick })).enterRestoring d .steward

/-- A domain fault (R30, R662, R663). A domain that is Down has none. -/
def State.domainFault (s : State) (d : Dom) (cause : Nat) : State :=
  if (s.dom d).st == .down then s else (s.dropDomain d cause 1).autoRestore d cause (s.dom d)

/-- A restore fails or times out (R30, R663). -/
def State.restoreFailed (s : State) (d : Dom) : State :=
  if (s.dom d).st == .down then s else (s.dropDomain d 6 3).autoRestore d 6 (s.dom d)

/-! ### Requests -/

/-- No request of the domain is in progress. -/
def State.domFree (s : State) (d : Dom) : Bool :=
  let x := s.dom d
  x.takedown.isNone && x.restore.isNone && x.load.isNone

/-- The guards of R32 for a Serving domain. -/
def State.takeDownOk (s : State) (d : Dom) : Bool :=
  (s.dom d).st == .serving && s.domFree d &&
  (match actOfDom d with
   | some a => s.isServing (domOfAct (otherAct a)) && !s.bit PX_STAT.REBUILD
   | none => true)

/-- An accepted take-down: LEAVE before DP's (R524), new work stops, the quiesce timer starts. -/
def State.takeDown (s : State) (d : Dom) (q : Requester) (k : Option LoadKind) : State :=
  let s1 := s.when (d == .DP && s.poolOn) (fun t => t.sendLeave 1)
  (s1.leaveServing d).modDom d (fun x => { x with st := .quiescing, takedown := some q, load := k, parkReq := false, leftTick := s.tick })

/-- The domain has faulted in this tick and restores by itself since: a take-down of the tick finds it Down (R35). -/
def State.downThisTick (s : State) (d : Dom) : Bool :=
  (s.dom d).st == .down || ((s.dom d).st == .restoring && (s.dom d).autoTick == some s.tick)

/-- A take-down request (R30, R35, R695). -/
def State.askTakeDown (s : State) (d : Dom) (q : Requester) : State :=
  if s.takeDownOk d then s.takeDown d q none
  else match (s.dom d).st with
    | .serving => (s.domRecord d .serving .serving 4).answer (some q) rsRefused 0
    | _ => s.answer (some q) (if s.downThisTick d then rsAlreadyDown else rsRefused) 0

/-- A held restore starts its load (R31). -/
def State.heldLoad (s : State) (d : Dom) : State :=
  match actOfDom d with
  | some a =>
    if (s.dom d).held && !(s.dom d).heldLoading && s.isServing d && s.svState a == svParked && s.spReady then
      (s.modSv a (fun v => { v with attempts := 0 })).startLoad a |>.modDom d (fun x => { x with heldLoading := true })
    else s
  | none => s

/-- A restore request (R30, R31, R695). -/
def State.askRestore (s : State) (d : Dom) (q : Requester) : State :=
  match (s.dom d).st with
  | .down => s.enterRestoring d q
  | .serving =>
    if !s.domFree d then s.answer (some q) rsRefused 0
    else match actOfDom d with
      | some a =>
        if s.svState a == svParked || s.svState a == svUnloading || s.svState a == svRetracting then
          (s.modDom d (fun x => { x with restore := some q, held := true, heldLoading := false })).heldLoad d
        else s.answer (some q) rsSuccess 0
      | none => s.answer (some q) rsSuccess 0
  | _ => s.answer (some q) rsRefused 0

/-- A restore of the steward's own, of DA and DB (R60, R98, R616). Before the boot restores of R694 it is those that come. -/
def State.restoreBoth (s : State) : State :=
  if s.bit FB_STAT.BASENOTE then s
  else s.each [Dom.DA, .DB] (fun t d => t.when (t.dom d).bootRestored (fun u => u.askRestore d .steward))

/-- Down is reached by the quiesce: the take-down completes, a load goes on, DE restarts (R29, R30). -/
def State.quiesced (s : State) (d : Dom) : State :=
  let x := s.dom d
  let s1 := (s.stopDomain d).modDom d (fun y => { y with st := .down, takedown := if d = .DE then y.takedown else none, parkReq := false })
  match x.load with
  | some k =>
    let s2 := s1.when (d != .DE) (fun t => t.answer x.takedown rsSuccess 0)
    (s2.applyLoad d k).enterRestoring d .load
  | none => if d = .DE then s1.enterRestoring d .steward else s1.answer x.takedown rsSuccess 0

/-- DA or DB has no work left: assist off, the park is requested; an actuator already Parked is Down (R30). -/
def State.quiescePark (s : State) (d : Dom) (a : Act) : State :=
  let s1 := ((s.closeGates a).parkAct a).modDom d (fun x => { x with parkReq := true })
  if s1.svState a == svParked then s1.quiesced d
  else if s1.svState a == svRetracting || s1.svState a == svFaulted then s1.domainFault d 2
  else s1

/-- All work in flight of a Quiescing domain is finished. -/
def State.workDone (s : State) (d : Dom) : State :=
  if (s.dom d).st != .quiescing then s
  else match actOfDom d with
    | some a => if (s.dom d).parkReq then s else s.quiescePark d a
    | none => s.quiesced d

/-- The quiesce timer runs out (R30). -/
def State.quiesceOut (s : State) (d : Dom) : State :=
  if (s.dom d).st != .quiescing then s
  else match actOfDom d with
    | some a =>
      let s1 := (s.domRecord d .quiescing .quiescing 2).dropWork d
      if (s1.dom d).parkReq then s1 else s1.quiescePark d a
    | none => ((s.domRecord d .quiescing .down 2).dropWork d).quiesced d

/-- What an actuator does when it has come to Parked: a quiesce ends, a load again or a held load starts (R30, R31, R318). -/
def State.afterParked (s : State) (a : Act) : State :=
  let d := domOfAct a
  if (s.dom d).st == .quiescing && (s.dom d).parkReq then s.quiesced d
  else if (s.sv a).reload && s.spReady && ((s.dom d).st == .restoring || s.isServing d) then s.startLoad a
  else if (s.dom d).st == .restoring then s.tryLoad a
  else s.heldLoad d

/-! ### Serving -/

/-- Every domain has reached Serving since boot: the slots tried at this boot are committed (R129, R644), whatever a domain apply has
made of AC_STAT.SLOT since. -/
def State.commitBoot (s : State) : State :=
  if !domains.all (fun d => (s.dom d).everServed) then s
  else
    let s1 := match s.acc.trial with
      | some k =>
        let t := s.acMark k (fun x => { x with commit := true })
        { t with acc := { t.acc with trial := none, copyDue := true } }
      | none => s
    let p := s.fld SC_STAT.PSLOT
    let n := (s.flashPatch p).marks
    if n.tried && !n.commit && !n.revoke && !s.bit SC_STAT.UNPATCHED then s1.modFlashPatch p (fun x => { x with marks := { x.marks with commit := true } }) else s1

/-- The domain enters Serving (R30): it takes work again. -/
def State.enterServing (s : State) (d : Dom) : State :=
  let x := s.dom d
  let s1 := (s.modDom d (fun y => { y with
    st := .serving, restore := none, takedown := none, load := none, held := false, heldLoading := false, everServed := true, servedTick := s.tick, autoTick := none })).clrBit (fbHold d)
  let s2 := (s1.domRecord d .restoring .serving 0).aer none 7 0x02 0xC0
  let s3 := match x.load with
    | some k => s2.loadDone d k
    | none => s2
  let s4 := (s3.answer x.restore rsSuccess 0).answer x.takedown rsSuccess 0
  let s5 := match d with
    | .DP => s4.poolBoot
    | .DE => if x.everServed then s4.newEpoch else s4.startElection
    | .DA => ((s4.wdisEnd .A).when s4.bothServing (fun t => t.clrBit PX_STAT.PAUSED)).resumeReads
    | .DB => ((s4.wdisEnd .B).when s4.bothServing (fun t => t.clrBit PX_STAT.PAUSED)).resumeReads
  s5.commitBoot

/-- The actuator follows and no calibration of its lanes is due (R33). -/
def State.actRestored (s : State) (a : Act) : Bool :=
  s.svState a == svFollowing && (s.boundLanes a).all (fun l => s.causes l == 0)

/-- Restoring, or the load of a held restore, is complete. -/
def State.restoreDone (s : State) (d : Dom) : State :=
  let ready := match actOfDom d with
    | some a => s.actRestored a
    | none => true
  if !ready then s
  else match (s.dom d).st with
    | .restoring => s.enterServing d
    | .serving =>
      if (s.dom d).heldLoading then
        let x := s.dom d
        (((s.modDom d (fun y => { y with restore := none, held := false, heldLoading := false })).clrBit (fbHold d)).domRecord d .serving .serving 0).answer x.restore rsSuccess 0 |>.resumeReads
      else s
    | _ => s

/-- The restore timer reaches its limit (R33). -/
def State.restoreOut (s : State) (d : Dom) : State :=
  match (s.dom d).st with
  | .restoring => s.restoreFailed d
  | .serving => if (s.dom d).heldLoading then s.restoreFailed d else s
  | _ => s

end Sys2Proof.Machine
end

