-- ==== Sys2Proof/Machine/FaultOps.lean ====
section
/-! DEFINITION. Faults of the core (R154, R664 to R672): Base-note entry, helper faults, steward traps, and the spindle's
faults and stop, which reach the enclosure bus and the domains. -/
namespace Sys2Proof.Machine

/-! ### Base-note mode -/

/-- The commands in flight at entry (R666): a durable write completes with Success, the first Asynchronous Event Request with
the Device-class event (type 0, information 0x03, log page 0x01), every other command with vendor status 0x03. -/
def State.entryCommands (s : State) : State :=
  let aer := fun (c : Nat) => (s.ctrl c).aers
  let first := match aer 0, aer 1 with
    | x :: _, _ => some (0, x)
    | [], x :: _ => some (1, x)
    | [], [] => none
  let s1 := s.each [0, 1] (fun t c => t.modCtrl c (fun k => { k with aers := [] }))
  let s2 := s1.each s1.nvme.inflight (fun t m =>
    let isAer := m.sq == 0 && (aer m.ctrl).contains m.e.cid
    if isAer && first == some (m.ctrl, m.e.cid) then t.finish m .ok (0x03 * 256 + 0x01 * 65536)
    else if m.durable then t.finish m .ok 0
    else t.finish m .notPermitted 0)
  s2.modMap (fun m => { m with groups := [], issue := [] })

/-- Descriptors in flight receive no completion entry and count in SR_ERR.ORPHAN; every ring reads Disabled (R585). -/
def State.entryRings (s : State) : State :=
  s.each (List.range 8) (fun t r =>
    let n := (t.ring r).descs.length
    ((((t.addSat SR_ERR.ORPHAN n).modRing r (fun g => { g with descs := [], held := [], pushed := [] })).setFld (SR_STAT.STATE r) rgDisabled).setFld (SR_CFG.EN r) 0).ringSync r)

/-- An Accord store or domain apply stops and its slot is revoked; a domain bundle's load stops, and no engine swaps (R672). -/
def State.entryStores (s : State) : State :=
  let s1 := match s.acc.prev with
    | some p => { s with acc := { s.acc with applied := p, prev := none } }
    | none => s
  let s1 := if s1.nvme.activation.isSome then s1.each [0, 1] (fun t c => t.modCtrl c (fun k => { k with pp := false, stopped := k.shn != 0 })) else s1
  let s2 := match s1.acc.store with
    | some x => (({ s1 with acc := { s1.acc with store := none } }).acRevoke x.slot 0 0xFF).acOp 0
    | none => s1
  let s3 := (s2.each helpers24 (fun t h => t.modHelper h (fun x => { x with swapReq := false, shadow := none }))).each s2.fabric.domPrev (fun t p => t.domSet p.1 p.2)
  (s3.modFabric (fun f => { f with domainBundles := [], domPrev := [], staged := 0, swapRole := none })).modNvme (fun n => { n with activation := none, fwStore := none })

/-- Every helper halts but the spindle's and the enclosure bus's; Faulted ones stay Faulted (R665). -/
def State.entryHelpers (s : State) : State :=
  (s.each helpers24 (fun t h =>
    if t.heActive h && t.role h != 0x05 && t.role h != 0x0A then t.heHalt h else t)).schedSync

/-- The gate drives go off where no spindle helper runs; a spindle Coasting, Faulted or Stopped stays as it is (R665). -/
def State.entrySpindle (s : State) : State :=
  let runs := match s.helperOf 5 0 with
    | some h => s.heActive h
    | none => false
  if runs || s.spState == spCoasting || s.spState == spFaulted || s.spState == spStopped then s
  else (s.spDrive .off).spGoto spCoasting

/-- Restores that the steward began in this very tick are not begun (R672). -/
def State.entryDomains (s : State) : State :=
  s.each domains (fun t d =>
    if (t.dom d).autoTick == some t.tick && (t.dom d).st == .restoring then
      (t.modDom d (fun x => { x with st := .down, restore := none, autoTick := none })).setFld (fbRestores d) (t.fld (fbRestores d) - 1)
    else t)

/-- Lanes, deep decode, calibration and every other work on the media stop (R667). -/
def State.entryMedia (s : State) : State :=
  let s1 := s.abandonRuns (fun _ => true)
  let s2 := s1.each lanes9 State.laneOff
  s2.modLanes (fun l => { l with rereads := [], slots := SMap.mapAll (fun _ => SlotSt.reset) l.slots (fun _ e => { e with queue := [] }) })

/-- A cause of R664 is recorded: the first enters Base-note mode in hardware, with FAULT_L (R661, R665), and only a reset ends it (R671); a further one counts in EXTRA and is
recorded (R672). -/
def State.baseNote (s : State) (cause info : Nat) : State :=
  if s.bit FB_STAT.BASENOTE then (s.bump FB_STAT.EXTRA).record 0x1901 (leBytes 1 cause ++ zeros 3)
  else
    let s1 := s.closeAllGates.when (s.poolOn && [0, 1].all (fun p => (s.helperOf 9 p).any s.heActive)) (fun t => t.sendLeave 0)
    let s2 := (((s1.setBit FB_STAT.BASENOTE).setFld FB_STAT.CAUSE cause).setFld FB_BNINFO.DETAIL info).setFld FB_STAT.FAULTL 1
    let s3 := ((s2.setFld FB_BNTICK_LO.TICK s.tick).setFld FB_BNTICK_HI.TICK (s.tick / 2 ^ 32)).modPins (fun p => { p with faultL := true })
    let s4 := (s3.retractAct .A false).retractAct .B false
    let s5 := (s4.entryMedia.entrySpindle.entryHelpers).entryDomains
    let s6 := s5.entryStores.entryRings.entryCommands
    { (s6.setFld PW_STAT.STATE 0).setFld MP_STAT.STATE 5 with faults := { restartDue := true, entryTick := s.tick } }

/-! ### Helper faults (R154) -/

/-- A helper faults: a domain fault of its domain, or Base-note mode for DC and DS. -/
def State.faultHelper (s : State) (h cause space addr : Nat) : State :=
  if !s.heActive h then s
  else
    let s0 := s.heFault h cause space addr
    let s1 := (if s.role h = 0x0B then s0.schedSync.reenter h else s0)
    match s.heDom h with
    | .svc d => s1.domainFault d 1
    | _ => s1.baseNote 5 (h + 256 * cause + 65536 * s.role h)

/-- A second deadline in a row is missed: the watchdog of the helper's role finds it at a safe point (R151, R155). -/
def State.missedTwice (s : State) (h : Nat) : State :=
  if (s.helper h).count = 0 then s.faultHelper h 5 (s.helper h).space (s.helper h).pc
  else s.modHelper h (fun x => { x with watchdog := true })

/-- The DC fault of a dirty line found with a parity error (R233). -/
def State.cacheFault (s : State) : State :=
  match s.cache.dcFault with
  | some la => (s.modCache (fun c => { c with dcFault := none })).baseNote 7 la
  | none => s

/-! ### Steward traps (R141 to R143, R672) -/

/-- ST_TRAP and record 0x0001. -/
def State.trapRecord (s : State) (cause space addr : Nat) : State :=
  ((((s.setFld ST_TRAP.CAUSE cause).setFld ST_TRAP.SPACE space).setFld ST_TRAP.ADDR addr).bump ST_STAT.TRAPS).record 0x0001
    (leBytes 1 cause ++ leBytes 1 space ++ zeros 2 ++ leBytes 4 addr)

/-- The traps that are causes of R664: a fetch from patch RAM, a trap in a handler, and the eighth trap within 1 s. One trap is one cause,
the first of these that it is. -/
def State.trapEntry (s : State) (cause traps : Nat) : State :=
  let info := (s.reg ST_TRAP.REG.addr).toNat
  if cause = 1 then s.baseNote 2 info
  else if cause = 6 then s.baseNote 3 info
  else if 8 ≤ traps then s.baseNote 4 info
  else s

/-- A trap of cause 1 to 5 at an address; taken in a handler it is cause 6. In Base-note mode the steward halts (R672). -/
def State.trap (s : State) (cause0 space addr : Nat) : State :=
  if s.bit FB_STAT.HALT then s
  else
    let cause := if s.steward.inHandler then 6 else cause0
    let s1 := s.trapRecord cause space addr
    let ts := recent s.tick (secTicks 1) s.steward.trapTicks
    let s2 := s1.modSteward (fun x => { x with inHandler := true, trapTicks := ts })
    if s.bit FB_STAT.BASENOTE then (s2.setBit FB_STAT.HALT).trapEntry cause ts.length
    else s2.trapEntry cause ts.length

/-! ### The spindle's faults and stop (R271, R280, R605) -/

/-- A spindle fault: its record, the gate drives, Faulted, the token, Base-note mode with cause 0x08. -/
def State.spFault (s : State) (f : Fld) (d : Drive) : State :=
  let s1 := ((s.spRecord f).modSp (fun p => { p with startPend := false, holding := false }))
  ((s1.spDrive d).spGoto spFaulted).returnToken.baseNote 8 (s1.reg SP_FAULT.REG.addr).toNat

/-- A stop request; a token held or asked for goes back (R605). -/
def State.stopSpindle (s : State) : State := s.spStop.returnToken

end Sys2Proof.Machine
end

