-- ==== Sys2Proof/Machine/SilOps.lean ====
section
/-! DEFINITION. Sillage (R618 to R631): stamp slots, records in the log, buckets, suppression summaries, the boot scan; and
the arming of gauges (R635). -/
namespace Sys2Proof.Machine

def silBase : Nat := 0x2F800000
def logStart : Nat := 0x1040
def logEnd : Nat := 0x800000

def State.silPut (s : State) (off : Nat) (d : List Byte) : State := s.putMram (silBase + off) d
def State.silGet (s : State) (off n : Nat) : ReadBytes := s.peek .mram (silBase + off) n

/-- Append the CRC-32C of what stands before it. -/
def withCrc (b : List Byte) : List Byte := b ++ leBytes 4 (crc32c b)

/-- The last four bytes are the CRC-32C of the rest. -/
def crcOk (b : List Byte) : Bool := leAt b (b.length - 4) 4 == crc32c (b.take (b.length - 4))

/-! ### Stamps (R619, R620) -/

def stampBytes (seq hours pcyc unsf : Nat) (down : Bool) : List Byte :=
  withCrc (leBytes 8 seq ++ leBytes 4 hours ++ leBytes 4 pcyc ++ leBytes 4 unsf ++ leBytes 1 (if down then 1 else 0) ++ zeros 39)

/-- Write the next stamp slot; while MRAM admits no line (R48) none is written. -/
def State.writeStamp (s : State) (down : Bool) : State :=
  if !s.mramAdmits then s
  else
    let q := s.sil.stampSeq + 1
    (s.silPut (64 * (q % 64)) (stampBytes q (s.fld SL_HOURS.VALUE) (s.fld SL_PCYC.VALUE) (s.fld SL_UNSAFE.VALUE) down)).modSil (fun x => { x with stampSeq := q })

/-! ### Records (R621 to R627) -/

def recordLen (fields : List Byte) : Nat := (fields.length + 24 + 7) / 8 * 8

def State.recordBytes (s : State) (code tick : Nat) (fields : List Byte) : List Byte :=
  let n := recordLen fields
  withCrc (slice (leBytes 2 n ++ leBytes 2 code ++ leBytes 4 (s.fld SL_HOURS.VALUE) ++ leBytes 4 (s.fld SL_PCYC.VALUE) ++ leBytes 8 tick ++ fields) 0 (n - 4))

/-- Offset of the next record. The 23 bits of SL_NEXT cannot hold the end of the region: a log filled to its last byte shows 0
there (assumption 20, DEDUCED). -/
def State.logPos (s : State) : Nat := if s.fld SL_NEXT.OFFSET = 0 then logEnd else s.fld SL_NEXT.OFFSET

/-- Append a record: at least 32 bytes must stay free; the first refused one leaves a log-full record in them (R627), where they are
still there. -/
def State.logAppend (s : State) (code tick : Nat) (fields : List Byte) : State :=
  let at' := s.logPos
  let b := s.recordBytes code tick fields
  if s.bit SL_STAT.FULL then s.bump SL_LOST.FULL
  else if at' + b.length + 32 ≤ logEnd then (s.silPut at' b).setFld SL_NEXT.OFFSET (at' + b.length)
  else if logEnd < at' + 32 then (s.setBit SL_STAT.FULL).bump SL_LOST.FULL
  else
    let f := s.recordBytes 0x1604 s.tick (leBytes 2 code ++ zeros 2)
    (((s.silPut at' f).setFld SL_NEXT.OFFSET (at' + f.length)).setBit SL_STAT.FULL).bump SL_LOST.FULL

/-- The oldest queued record is appended; while MRAM admits no line it waits (R623). -/
def State.silAppend (s : State) : State :=
  match s.sil.queue with
  | [] => s
  | r :: l => if !s.mramAdmits then s else (s.modSil (fun x => { x with queue := l })).logAppend r.code r.tick r.fields

/-- Summaries and stamp at entry into Standby or Hibernate and at a controlled power-down (R619, R626); what is queued is appended first. -/
def State.silClose (s : State) (down : Bool) : State :=
  let s1 := s.allSummaries
  (s1.each s1.sil.queue (fun t _ => t.silAppend)).writeStamp down

/-! ### Boot (R620, R628, R630) -/

/-- The stamp slots with a valid CRC. -/
def State.stamps (s : State) : List (List Byte) :=
  (List.range 64).filterMap (fun k =>
    let r := s.silGet (64 * k) 64
    if !r.bad && crcOk r.data then some r.data else none)

/-- The valid slot with the highest SEQ. -/
def bestStamp (l : List (List Byte)) : Option (List Byte) :=
  l.foldl (fun b x => match b with
    | none => some x
    | some y => if leAt y 0 8 < leAt x 0 8 then some x else some y) none

/-- The record that starts at `off`, if its LEN word can be read and is in range: its length, and whether its CRC is
right. -/
def State.recordAt (s : State) (off : Nat) : Option (Nat × Bool) :=
  let w := s.silGet off 8
  let n := leAt w.data 0 2
  if w.bad || decide (n < 24) || decide (256 < n) || n % 8 != 0 || decide (logEnd < off + n) then none
  else
    let r := s.silGet off n
    some (n, !r.bad && crcOk r.data)

/-- The walk of R628: where it ends, records skipped, and whether it ended at a torn record. -/
def State.logWalk (s : State) : Nat → Nat → Nat → Nat × Nat × Bool
  | 0, off, bad => (off, bad, false)
  | f + 1, off, bad =>
    match s.recordAt off with
    | none => (off, bad, false)
    | some (n, true) => s.logWalk f (off + n) bad
    | some (n, false) =>
      match s.recordAt (off + n) with
      | some (_, true) => s.logWalk f (off + n) (bad + 1)
      | _ => (off, bad, true)

/-- The log header as read, its CRC and MAGIC right. -/
def State.logHeader (s : State) : Option (List Byte) :=
  let r := s.silGet 0x1000 64
  if !r.bad && crcOk r.data && slice r.data 0 4 == [0x53, 0x49, 0x4C, 0x47] then some r.data else none

/-- Sillage at boot: PCYC and UNSAFE, the walk, the stamp. -/
def State.silBoot (s : State) : State :=
  let s := s.noteMram (silBase / 8) (0x1040 / 8) reqSteward
  let st := bestStamp s.stamps
  let v := fun (off : Nat) => (st.map (fun b => leAt b off 4)).getD 0
  let unsf := match st with
    | some b => leAt b 20 1 == 0
    | none => false
  let s1 := ((s.setFld SL_HOURS.VALUE (v 8)).setFld SL_PCYC.VALUE (v 12 + 1)).setFld SL_UNSAFE.VALUE (v 16 + (if unsf then 1 else 0))
  let s2 := s1.modSil (fun x => { x with bootUnsafe := unsf, stampSeq := (st.map (fun b => leAt b 0 8)).getD 0 })
  let s3 := s2.setFld SL_GEN.VALUE ((s2.logHeader.map (fun h => leAt h 4 4)).getD 0)
  let w := s3.logWalk 349353 logStart 0
  let s3 := s3.noteMram ((silBase + logStart) / 8) ((Nat.min logEnd (w.1 + 8) - logStart) / 8) reqSteward
  let s4 := (s3.setFld SL_NEXT.OFFSET w.1).setFld SL_STAT.BADREC w.2.1
  let s5 := if w.2.2 then (s4.silPut w.1 (zeros (Nat.min 256 (logEnd - w.1)))).setBit SL_STAT.TORN else s4
  s5.writeStamp false

/-- The boot record 0x1601, and the rail failure that the repeat made good (R91). -/
def State.bootRecord (s : State) : State :=
  let s1 := s.record 0x1601 (leBytes 1 (s.fld PW_STAT.RSTCAUSE) ++ leBytes 1 (if s.sil.bootUnsafe then 1 else 0) ++ zeros 2 ++
    leBytes 4 (s.fld AC_GEN.GEN) ++ leBytes 4 (s.reg ST_ROMLVL.REG.addr).toNat ++ leBytes 4 (s.fld ST_PATCHGEN.GEN))
  match s1.power.failRecord with
  | some r => (s1.record 0x0204 (leBytes 1 r ++ leBytes 1 1 ++ zeros 2)).modPower (fun p => { p with failRecord := none })
  | none => s1

/-- A clear (R630). -/
def State.silClear (s : State) : State :=
  let old := s.fld SL_GEN.VALUE
  let nxt := s.logPos
  let hdr := withCrc ([0x53, 0x49, 0x4C, 0x47] ++ leBytes 4 (old + 1) ++ leBytes 4 (s.fld SL_HOURS.VALUE) ++ leBytes 4 (s.fld SL_PCYC.VALUE) ++ zeros 44)
  let s1 := s.each (List.range ((logEnd - logStart) / 8)) (fun t k => t.putWord .mram ((silBase + logStart) / 8 + k) (encodeWord 0))
  let s2 := (((s1.silPut 0x1000 hdr).setFld SL_GEN.VALUE (old + 1)).setFld SL_NEXT.OFFSET logStart).clrBit SL_STAT.FULL
  s2.logAppend 0x1603 s.tick (leBytes 4 old ++ leBytes 4 nxt)

/-- What SL_WIN and opcode 0x07 show of a region byte range: bytes of the log at or beyond SL_NEXT read 0 (R629). -/
def State.silView (s : State) (off n : Nat) : List Byte :=
  let d := (s.silGet off n).data
  d.zipIdx.map (fun x => let a := off + x.2; if (logStart ≤ a ∧ s.logPos ≤ a) ∨ logEnd ≤ a then (0 : Byte) else x.1)

/-! ### Gauges (R635) -/

/-- Arm a gauge, its settings in place. -/
def State.gaugeArm (s : State) (g : Nat) : State :=
  let s1 := ((s.setReg (GA_COUNT.VALUE g).addr 0).setReg (GA_MIN.VALUE g).addr 0x7FFFFFFF).setReg (GA_MAX.VALUE g).addr 0x80000000
  let s2 := s1.each (List.range 32) (fun t k => t.setReg (GA_BIN.COUNT g k).addr 0)
  let s3 := ((s2.setFld (GA_GEN.VALUE g) (s2.fld (GA_GEN.VALUE g) + 1)).setFld (GA_ARMTICK.VALUE g) s.tick).setBit (GA_CTL.ARMED g)
  s3.modSil (fun x => { x with gaugeAlarmed := x.gaugeAlarmed.filter (· != g) })

def State.gaugeStop (s : State) (g : Nat) : State := s.clrBit (GA_CTL.ARMED g)

end Sys2Proof.Machine
end

