-- ==== Sys2Proof/Machine/SecurityOps.lean ====
section
/-! DEFINITION. Keys and boot objects (R638 to R647, R657): key certificate areas, the keys they certify, patch bundles and
their slots, rollback floors, refusals. -/
namespace Sys2Proof.Machine

/-! ### Key certificate areas (R641, R642) -/

def areaGen (b : List Byte) : Nat := leAt b 4 4
def areaN (b : List Byte) : Nat := leAt b 8 1
def cert (b : List Byte) (k : Nat) : List Byte := slice b (64 + 816 * k) 816
def certRole (c : List Byte) : Nat := leAt c 4 1
def certKeyId (c : List Byte) : Nat := leAt c 5 1
def certUsage (c : List Byte) : Nat := leAt c 6 1
def certModulus (c : List Byte) : List Byte := slice c 32 384
def certSigned (c key : List Byte) : Bool := rsaVerify key (slice c 0 432) (slice c 432 384)

/-- The header's CRC matches. -/
def areaCrc (b : List Byte) : Bool := slice b 0 4 == [0x4B, 0x43, 0x41, 0x52] && crcOk (slice b 0 64)

/-- A certificate's fixed fields. -/
def certForm (c : List Byte) : Bool :=
  slice c 0 4 == [0x4B, 0x43, 0x52, 0x54] && leAt c 416 4 == 65537 &&
  (if certRole c = 3 then decide (certKeyId c ≤ 7) && certUsage c != 0 else certKeyId c == 0 && certUsage c == 0)

/-- The area is valid (R642). -/
def areaOk (b : List Byte) : Bool :=
  let n := areaN b
  let cs := (List.range n).map (cert b)
  let c1 := cs.filter (fun c => certRole c == 1)
  let c2 := cs.filter (fun c => certRole c == 2)
  let c3 := cs.filter (fun c => certRole c == 3)
  areaCrc b && inRange n 2 10 && cs.all certForm && c1.length == 1 && c2.length == 1 && c3.length + 2 == n &&
  (cs.take 2).all (fun c => certRole c != 3) && (c3.map certKeyId).eraseDups.length == c3.length &&
  c1.all (fun c => certSigned c Config.rootKey) && c2.all (fun c => certSigned c Config.rootKey) &&
  c3.all (fun c => certSigned c (certModulus ((c2.head?).getD [])))

def State.areaCopy (s : State) (k : Nat) : List Byte := SMap.get (fun _ => []) s.nv.areas k

/-- The copy in use: the valid one of higher AGEN, copy 0 on a tie. -/
def State.areaPick (s : State) : Option Nat :=
  let a := areaOk (s.areaCopy 0)
  let b := areaOk (s.areaCopy 1)
  if a && b then (if areaGen (s.areaCopy 0) < areaGen (s.areaCopy 1) then some 1 else some 0)
  else if a then some 0 else if b then some 1 else none

/-- The area taken at boot; an area written later takes effect at the next boot. -/
def State.areaInUse (s : State) : Option (List Byte) :=
  if s.bit SC_STAT.AREA then some s.sec.area else none

/-- The certificates in use. -/
def State.certs (s : State) : List (List Byte) :=
  match s.areaInUse with
  | some b => (List.range (areaN b)).map (cert b)
  | none => []

/-- The maker signing key of a KEYID with USAGE bit `u`: bit 0 Accord, bit 1 service. -/
def State.makerKey (s : State) (keyId u : Nat) : Option (List Byte) :=
  (s.certs.find? (fun c => certRole c == 3 && certKeyId c == keyId && natBit (certUsage c) u)).map certModulus

/-- The key that may sign Accord images under a KEYID. -/
def State.accordKey (s : State) (keyId : Nat) : Option (List Byte) := s.makerKey keyId 0

/-- The key that may sign descriptors and operations under a KEYID (R580). -/
def State.serviceKey (s : State) (keyId u : Nat) : Option (List Byte) :=
  if keyId = 0x80 then some Config.recoveryKey else s.makerKey keyId u

/-- The Brodyn patch key. -/
def State.patchKey (s : State) : Option (List Byte) := (s.certs.find? (fun c => certRole c == 1)).map certModulus

/-! ### Floors (R646) -/

/-- A record of the OTP array: KIND, VALUE, two reserved bytes and the CRC-8 over them. Of a record whose write failed only that its
CRC fails is known (R653); its check byte stands for that. -/
def otpRecord (kind v : Nat) (ok : Bool) : List Byte :=
  let b := leBytes 1 kind ++ leBytes 4 v ++ zeros 2
  b ++ leBytes 1 (if ok then crc8 b else 255 - crc8 b)

/-- The value of a record of a kind, where its CRC holds. -/
def otpValue (kind : Nat) (r : List Byte) : Option Nat :=
  if leAt r 0 1 = kind ∧ leAt r 7 1 = crc8 (slice r 0 7) then some (leAt r 1 4) else none

/-- A floor: the highest value among the valid records of its kind, 0 with none. -/
def floorOf (kind : Nat) (l : List (List Byte)) : Nat := (l.filterMap (otpValue kind)).foldl Nat.max 0
def State.accordFloor (s : State) : Nat := floorOf 1 s.nv.floorA
def State.patchFloor (s : State) : Nat := floorOf 2 s.nv.floorP

/-- SC_FLOORA, SC_FLOORP and SC_OTP. -/
def State.floorSync (s : State) : State :=
  (((s.setFld SC_FLOORA.FLOOR s.accordFloor).setFld SC_FLOORP.FLOOR s.patchFloor).setFld SC_OTP.LEFTA (128 - s.nv.floorA.length)).setFld SC_OTP.LEFTP (128 - s.nv.floorP.length)

/-! ### Refusals (R657) -/

/-- Record 0x1801 and SC_EVT: OBJECT 1 Accord, 2 bundle, 3 signed descriptor or operation. -/
def State.refuse (s : State) (object reason : Nat) : State :=
  (s.bump SC_EVT.REFUSED).record 0x1801 (leBytes 1 object ++ leBytes 1 reason ++ zeros 2)

/-- REASON for a key that is not permitted or not there. -/
def State.keyReason (s : State) (keyId : Nat) : Nat := if !s.bit SC_STAT.AREA && keyId != 0x80 then 1 else 2

/-- The REASON for an Accord refused by check 4 or 5; none for another check. -/
def State.acReason (s : State) (img : List Byte) (err : Nat) : Option Nat :=
  if err = 0x05 then some (match s.accordKey (acKeyId img) with
    | none => s.keyReason (acKeyId img)
    | some _ => 3)
  else if err = 0x07 then some 4 else none

/-- R124 on an image for a slot: the error and ERRSECT, if any. -/
def State.acVerify (s : State) (img : List Byte) : Option (Nat × Nat) :=
  acValidate img accordSize s.accordFloor (s.accordKey (acKeyId img))

/-- A validation error is shown, and refused under R657 where a signature or floor failed it. -/
def State.acRefuse (s : State) (img : List Byte) (e : Nat × Nat) : State :=
  let s1 := s.acErr e.1 e.2
  match s.acReason img e.1 with
  | some r => s1.refuse 1 r
  | none => s1

/-! ### Patch bundles (R172 to R174, R644) -/

/-- The layout of R172 and the rules of R173. -/
def ptLayoutOk (b : List Byte) : Bool :=
  let n := ptNrec b
  let rs := ptRecords b
  slice b 0 4 == [0x50, 0x54, 0x43, 0x48] && leAt b 4 2 == 2 && leAt b 6 2 == 0x0B01 && inRange (ptGen b) 1 0xFFFFFFFE &&
  (ptTarget b == 0 || ptTarget b == 1 || ptTarget b == 2 || ptTarget b == 4 || ptTarget b == 5) && inRange n 1 14 &&
  allZero (slice b 0x0E 2) && allZero (slice b 0x14 44) && ptLen b % 16 == 0 && ptLen b == b.length && decide (b.length ≤ 0x100000) && ptEndsOk b &&
  rs.all (fun o =>
    let k := leAt b o 1
    let nm := leAt b (o + 2) 2
    let nc := leAt b (o + 4) 4
    allZero (slice b (o + 8) 8) &&
    ((k == 1 && leAt b (o + 1) 1 == 0 && decide (nm ≤ 64) && decide (nc ≤ 32768)) ||
     (k == 2 && decide (leAt b (o + 1) 1 ≤ 0x0C) && decide (nm ≤ 32) && decide (nc ≤ 512))) &&
    (List.range nm).all (fun j => natBit (leAt b (o + 16 + 4 * j) 4) 31))

def ptRulesOk (b : List Byte) : Bool :=
  let ks := (ptRecords b).map (fun o => (leAt b o 1, leAt b (o + 1) 1))
  ks.eraseDups.length == ks.length && (ptTarget b == 0 || ks.all (fun k => k.1 != 1))

def State.ptSigned (s : State) (b : List Byte) : Bool :=
  match s.patchKey with
  | some k => rsaVerify k (b.take (b.length - 384)) (b.drop (b.length - 384))
  | none => false

/-- The stage at which a bundle fails R174: 1 layout, 2 R173, 3 signature, 4 rollback. -/
def State.ptStage (s : State) (b : List Byte) : Option Nat :=
  if !ptLayoutOk b then some 1 else if !ptRulesOk b then some 2 else if !s.ptSigned b then some 3
  else if ptGen b < s.patchFloor then some 4 else none

/-- A bundle refused: record 0x0002, and R657 for key, signature and floor. -/
def State.ptRefuse (s : State) (b : List Byte) (stage : Nat) : State :=
  let s1 := s.record 0x0002 (leBytes 1 stage ++ zeros 3 ++ leBytes 4 (ptGen b))
  if stage = 3 then s1.refuse 2 (match s.patchKey with
    | none => 1
    | some _ => 3)
  else if stage = 4 then s1.refuse 2 4 else s1

/-- The state of a patch slot (R112, R640); only its header makes it Pending. -/
def State.ptSlotState (s : State) (k : Nat) : Nat :=
  (s.flashPatch k).state ((s.flashPatch k).image != [] && slice (s.flashPatch k).image 0 4 == [0x50, 0x54, 0x43, 0x48])

/-- The boot-flash addresses of a patch slot and of its status sector, and of a key certificate area's copy (R640). -/
def patchBase (k : Nat) : Nat := 0x100000 + 0x100000 * k
def patchStatus (k : Nat) : Nat := 0x300000 + 0x10000 * k
def areaBase (k : Nat) : Nat := 0x10000 * k

/-- A byte of boot flash that nothing has programmed since its erase. -/
def erasedByte : Byte := 0xFF

/-- The bytes of a status sector: the words TRIED, COMMIT, REVOKE and, for an Accord slot, RELAYOUT (R112); a patch slot's last mark,
ACTIVATE, lies at 0x10 (R640). A set mark reads 0, another word as erased. -/
def statusByte (m : Marks) (extra off : Nat) : Byte :=
  let set := fun (b : Bool) (w : Nat) => b && off / 4 == w / 4
  if set m.tried 0 || set m.commit 4 || set m.revoke 8 || set m.extra extra then 0 else erasedByte

/-- Byte `a` where it lies in the `size` bytes from `base` that `l` fills from the first. -/
def placeByte (a base size : Nat) (l : List Byte) : Option Byte :=
  if base ≤ a && a < base + size then some ((l[a - base]?).getD erasedByte) else none

/-- Byte `a` where it lies in the status sector at `base`. -/
def sectorByte (a base extra : Nat) (m : Marks) : Option Byte :=
  if base ≤ a && a < base + 0x10000 then some (statusByte m extra (a - base)) else none

/-- Boot flash as its byte addresses lay it out (R111, R640): key certificate areas, the SPDM certificate chain, images and marks. -/
def State.flashByte (s : State) (a : Nat) : Byte :=
  let both := fun (f : Nat → Option Byte) => [f 0, f 1]
  let places := both (fun k => placeByte a (areaBase k) 0x10000 (SMap.get (fun _ => []) s.nv.areas k)) ++
    [placeByte a 0x20000 0x10000 s.nv.spdmChain] ++
    both (fun k => placeByte a (patchBase k) 0x100000 (s.flashPatch k).image) ++
    both (fun k => placeByte a (accordBase k) accordSize (s.flashAccord k).image) ++
    both (fun k => sectorByte a (patchStatus k) 0x10 (s.flashPatch k).marks) ++
    both (fun k => sectorByte a (accordStatus k) 0xC (s.flashAccord k).marks)
  (places.findSome? id).getD erasedByte

def State.ptMark (s : State) (k : Nat) (f : Marks → Marks) : State :=
  s.modFlashPatch k (fun x => { x with marks := f x.marks })

/-- The slots R644 considers, highest generation first; slot 0 first of two alike (DESIGN CHOICE, assumption 110). -/
def State.ptCandidates (s : State) : List Nat :=
  let ok := fun (k : Nat) =>
    let st := s.ptSlotState k
    (st == asPending && (s.flashPatch k).marks.extra) || st == asTried || st == asCommitted
  let g := fun (k : Nat) => ptGen (s.flashPatch k).image
  if g 0 < g 1 then [1, 0].filter ok else [0, 1].filter ok

/-- Every helper not Faulted and the steward take the bundle at once, as at boot (R175). -/
def State.applyBundle (s : State) (b : List Byte) : State :=
  let s1 := (s.stageBundle b).each helpers24 (fun t h => if t.heState h == heFaulted then t else t.heSwap h)
  s1.stSwap.modFabric (fun f => { f with bundle := b })

/-- The bundle selection of R644 over the candidate slots. -/
def State.ptBoot (s : State) : List Nat → State
  | [] => s.setBit SC_STAT.UNPATCHED
  | k :: l =>
    let b := (s.flashPatch k).image
    let st := s.ptSlotState k
    if st = asTried then (s.ptMark k (fun m => { m with revoke := true })).ptBoot l
    else match s.ptStage b with
      | some e => ((s.ptMark k (fun m => { m with revoke := true })).ptRefuse b e).ptBoot l
      | none =>
        let s1 := if st = asPending then s.ptMark k (fun m => { m with tried := true }) else s
        ((s1.applyBundle b).clrBit SC_STAT.UNPATCHED).setFld SC_STAT.PSLOT k

/-! ### Authorisation (R580) -/

/-- SR_NONCE as bytes. -/
def State.nonce (s : State) : List Byte := leBytes 16 (Config.nonce s.rings.nonceIdx).toNat

/-- The three checks: the status and REASON of the first that fails. `u` is the USAGE bit a maker key needs. -/
def State.authFails (s : State) (auth msg : List Byte) (u : Nat) (makerOk : Bool) : Option (Nat × Nat) :=
  let keyId := leAt auth 16 1
  match (if keyId = 0x80 || makerOk then s.serviceKey keyId u else none) with
  | none => some (rsAuthFailed, s.keyReason keyId)
  | some k =>
    if slice auth 0 16 != s.nonce then some (rsStaleNonce, 5)
    else if rsaVerify k (msg ++ slice auth 0 16) (slice auth 32 384) then none
    else some (rsAuthFailed, 3)

/-- A new nonce is drawn in the tick of acceptance. -/
def State.newNonce (s : State) : State := s.modRings (fun r => { r with nonceIdx := r.nonceIdx + 1 })

/-! ### The steward's start (R643) -/

/-- The key certificate areas are read and checked; floors and identity are shown. -/
def State.secBoot (s : State) : State :=
  let s1 := match s.areaPick with
    | some k => ((s.setBit SC_STAT.AREA).setFld SC_STAT.AREA1 k).modSec (fun x => { x with area := s.areaCopy k })
    | none => s
  s1.floorSync.each (List.range 8) (fun t j => t.setFld (SC_IDENT.IDENT j) (leAt deviceIdent (4 * j) 4))

end Sys2Proof.Machine
end

