-- ==== Sys2Proof/Machine/HostOps.lean ====
section
/-! DEFINITION. Controller resets and links (R540, R541, R584, R248). -/
namespace Sys2Proof.Machine

/-- The commands of controller `c` are abandoned: no completion is posted. A group not yet journaled and a queued line not yet
issued have no effect; the line being written completes (R540, R461). -/
def State.abandonCmds (s : State) (c : Nat) : State :=
  let mine := fun (o : Option CmdRef) => match o with
    | some r => r.ctrl == c
    | none => false
  let s1 := s.modNvme (fun n => { n with
    inflight := n.inflight.filter (fun m => m.ctrl != c)
    fences := n.fences.filter (fun f => f.ctrl != c)
    drains := n.drains.filter (fun d => (d.kind != drSq && d.kind != drBme) || d.ctrl != c) })
  let s2 := s1.modMap (fun m => { m with
    groups := m.groups.filter (fun g => !mine g.owner)
    issue := m.issue.take 1 ++ (m.issue.drop 1).filter (fun l => !mine l.owner) })
  (s2.modTier (fun t => { t with recons := t.recons.map (fun r => if mine r.owner then { r with owner := none } else r) })).modPool
    (fun p => { p with pairs := p.pairs.filter (fun x => !mine x.owner) })

/-- A test ends with a result. -/
def State.selfTestEnd (s : State) (r : SelfTestRun) (result : Nat) (lba : Option Nat) : State :=
  s.modNvme (fun n => { n with selfTest := none, selfLog := ((⟨r.code, result, if result = 7 then r.segment else 0, lba, s.fld SL_HOURS.VALUE / 10⟩ : SelfTest) :: n.selfLog).take 20 })

/-- A command that a host-side event takes out of flight releases nothing else: deletions of other controllers go on. A short
self-test started on the controller ends (R562); an activation it asked for is over. -/
def State.ctrlReset (s : State) (c : Nat) : State :=
  let s1 := s.abandonCmds c
  let s2 := s1.modCtrl c (fun k => { Ctrl.reset with
    linkUp := k.linkUp, perst := k.perst, busMaster := k.busMaster, attached := k.attached, changedNs := k.changedNs, resvLog := k.resvLog })
  let s3 := match s2.nvme.selfTest with
    | some t => if t.ctrl = c ∧ t.code = 1 then s2.selfTestEnd t 2 none else s2
    | none => s2
  let s4 := (State.pumpDue s3.nvme.inflight.length s3).drainPump
  match s4.nvme.activation with
  | some a => if a.ctrl = c then (s4.modNvme (fun n => { n with activation := none })).each [0, 1] (fun t k => t.modCtrl k (fun x => { x with pp := false, stopped := x.shn != 0 })) else s4
  | none => s4

/-- Controller `c` exists: the second one only with dual ports (R534). -/
def State.hasCtrl (s : State) (c : Nat) : Bool := c == 0 || (c == 1 && s.dualPort)

/-- The links of the ports that are out of PERST train (R93, R683). -/
def State.trainLinks (s : State) : State :=
  s.each [0, 1] (fun t c => if (t.ctrl c).perst && t.hasCtrl c && !t.power.vserDown then t.modCtrl c (fun k => { k with linkUp := true }) else t)

/-- The opcode moves data to or from host memory while it runs (R582). -/
def ringHostWork (opc : Nat) : Bool := opc == 1 || opc == 2 || opc == 3 || opc == 4 || opc == 7 || opc == 0x0A

/-- Every ring of the function of port `p` is disabled at once (R584): descriptors that need host transfers halt with
HOSTERR, and their completions, like those held, are counted in ORPHAN; the others run to completion. -/
def State.ringsDown (s : State) (p : Nat) : State :=
  s.each (List.range 8) (fun t r =>
    let g := t.ring r
    if g.port != p || t.fld (SR_STAT.STATE r) == rgDisabled then t
    else
      let halted := g.descs.filter (fun d => ringHostWork d.opc || ((d.opc == 6 || d.opc == 9) && !d.started))
      let t1 := (t.addSat SR_ERR.ORPHAN (halted.length + g.held.length)).when (halted.any (fun d => d.loaded)) (fun u => u.dmHalt (ringChan r) dmHostErr)
      let t2 := t1.modRing r (fun x => { x with descs := (x.descs.filter (fun d => !halted.contains d)).map (fun d => { d with orphan := true }), held := [], pushed := [] })
      ((t2.setFld (SR_STAT.STATE r) rgDisabled).clrBit (SR_CFG.EN r)).ringSync r)

/-- A Function Level Reset or a fall of PERST_L: a controller reset, the rings of the function disabled, bus mastering off. -/
def State.functionReset (s : State) (c : Nat) : State :=
  ((s.ctrlReset c).ringsDown c).modCtrl c (fun k => { k with busMaster := false })

/-- The port's link goes down (R540, R584, R248). -/
def State.linkDown (s : State) (c : Nat) : State :=
  ((s.functionReset c).dmLinkDown c).modCtrl c (fun k => { k with linkUp := false })

end Sys2Proof.Machine
end

