-- ==== Sys2Proof/Machine/PowerOps.lean ====
section
/-! DEFINITION. Power (R87 to R110): resets, the rail sequence, the VM monitor, power states, the start of a boot and the load of
the Accord (R127 to R130, R643), and what follows when the spindle stops or locks. -/
namespace Sys2Proof.Machine

/-! ### Resets (R18, R57, R94, R95, R186, R694) -/

/-- The map, journal and media as a reset leaves them: what HBM held is lost; the media, the journal in MRAM and the segment
copies stay. -/
def State.mapAfterReset (s : State) : MapSt :=
  let m := s.map
  { MapSt.reset with
    media := m.media, frameSeq := m.frameSeq, journal := m.journal.map (fun r => { r with tick := 0 }), jseq := m.jseq, recPage := m.recPage, recLine := m.recLine, recNext := m.recNext,
    durHead := m.durHead, roots := m.roots, segLost := m.segLost, scanHead := s.fld MP_JHEAD.PAGE, scanTail := s.fld MP_JTAIL.PAGE,
    segs := SMap.mapAll (fun _ => Segment.empty) m.segs (fun _ x => { x with phase := 0, staged := [] }) }

/-- The stripe journal in MRAM stays. -/
def State.tierAfterReset (s : State) : TierSt :=
  { TierSt.reset with sj := s.tier.sj, seq := s.tier.seq, head := s.tier.head, next := s.tier.next, posSlot := s.tier.posSlot }

/-- The pool namespace, the copies retained in MRAM and what has been sent stay. -/
def State.poolAfterReset (s : State) : PoolSt :=
  let p := s.pool
  { PoolSt.reset with
    out := p.out, parity := p.parity, parityQ := p.parityQ, spare := p.spare, retained := p.retained, done := p.done, mine := p.mine,
    opens := p.opens.filter (fun o => o.seq != 0), held := p.held.filter (fun h => h.durable)
    members := p.members.map (fun m => { m with heard := none, away := 0, state := 0 }) }

/-- Controller `k` after a reset: its inputs, attachments and logs stay. -/
def Ctrl.afterReset (k : Ctrl) : Ctrl := { Ctrl.reset with perst := k.perst, attached := k.attached, resvLog := k.resvLog }

/-- Every register and every volatile part at its power-on reset value; non-volatile parts, the RET pins, what host memory holds
and the free-value counter stay. -/
def State.rebooted (s : State) : State :=
  { State.reset with
    pending := s.pending, nv := s.nv, freeIdx := s.freeIdx,
    mem := { MemSt.reset with mram := s.mem.mram, jWrites := s.mem.jWrites, sWrites := s.mem.sWrites, wearMarks := s.mem.wearMarks }
    pins := { Pins.reset with ret := s.pins.ret, etPps := s.pins.etPps }
    acc := { AccordSt.reset with mediaCopy := s.acc.mediaCopy, layoutDigest := s.acc.layoutDigest }
    nvme := { NvmeSt.reset with
      posted := s.nvme.posted, msix := s.nvme.msix, namespaces := s.nvme.namespaces,
      ctrls := SMap.mapAll (fun _ => Ctrl.reset) s.nvme.ctrls (fun _ k => k.afterReset) }
    rings := { RingsSt.reset with nonceIdx := s.rings.nonceIdx + 1, hostMem := s.rings.hostMem, hostMem1 := s.rings.hostMem1, reqs := s.rings.reqs }
    cal := { CalSt.reset with saved := s.cal.saved }
    map := s.mapAfterReset, tier := s.tierAfterReset, pool := s.poolAfterReset }

/-! ### The rail sequence (R89 to R92) -/

/-- Drive output PW_SEQn. -/
def State.setSeq (s : State) (n : Nat) (b : Bool) : State :=
  s.modPins (fun p => { p with seq := if b then p.seq ||| BitVec.ofNat 6 (2 ^ n) else p.seq &&& ~~~ BitVec.ofNat 6 (2 ^ n) })

/-- PW_STAT.RAILOK bit n. -/
def State.railOk (s : State) (n : Nat) (b : Bool) : State := s.setFldBit PW_STAT.RAILOK n b

/-- Enable rail n. -/
def State.enableRail (s : State) (n : Nat) : State := (s.setSeq n true).modPower (fun p => { p with phase := .waitRail n })

/-- Rail n is switched off; its range is left. -/
def State.disableRail (s : State) (n : Nat) : State := (s.setSeq n false).railOk n false

/-- Every output low. -/
def State.railsOff (s : State) : State := (List.range 6).reverse.foldl State.disableRail s

/-- The pins held in reset, and in Hibernate (R678): the outputs at their reset levels, but for the regulator enables, the retract outputs and
FAULT_L. -/
def Pins.held (p : Pins) : Pins := { Pins.reset with faultL := p.faultL, ret := p.ret, seq := p.seq, etPps := p.etPps }

/-- A supply reset (R94, R95): gates closed, retract, every register reset but RSTCAUSE, rails off until the release. -/
def State.supplyReset (s : State) : State :=
  let s1 := (s.closeAllGates.retractTrigger).rebooted
  (s1.setFld PW_STAT.RSTCAUSE 2).modPower (fun p => { p with porst := true, supplyReset := true })

/-- A controlled power-down (R92): stamps and summaries first (R619, R626), then PW_SEQ5. The PCIe link is in L2 and the Ethernet ports
are down (R108): no link trains until the next boot. -/
def State.powerDown (s : State) : State :=
  ((((s.silClose true).disableRail 5).modPower (fun p => { p with phase := .down 5 })).modPins Pins.held).each [0, 1] (fun t c => t.modCtrl c (fun k => { k with linkUp := false }))

/-! ### Power states (R107 to R110) -/

/-- PW_STAT.STATE. -/
def pwBoot : Nat := 0
def pwActive : Nat := 1
def pwIdle : Nat := 2
def pwStandby : Nat := 3

def State.pwState (s : State) : Nat := s.fld PW_STAT.STATE

/-- A command that needs the media. -/
def Cmd.media (m : Cmd) : Bool := m.sq != 0 && (isReadOp m.e.opc || isWriteOp m.e.opc || m.e.opc == 0x79)

def State.mediaBusy (s : State) : Bool := s.nvme.inflight.any Cmd.media

/-- The Set Features Power Management commands that ask for power state `ps` complete (R558). -/
def State.pmDone (s : State) (ps : Nat) : State :=
  s.each (s.nvme.inflight.filter (fun m => m.sq == 0 && m.started && m.e.opc == 0x09 && m.e.cdw10 % 256 == 2 && m.e.cdw11 % 32 == ps)) (fun t m => t.complete m .ok 0)

/-- What holds when Active is reached (R110): the spindle Locked, every serving actuator loaded. -/
def State.activeReady (s : State) : Bool :=
  s.spState == spLocked && [Act.A, .B].all (fun a => !s.isServing (domOfAct a) || s.svLoaded a)

/-- Active is reached. -/
def State.reachActive (s : State) : State :=
  let s1 := ((s.setFld PW_STAT.STATE pwActive).modPower (fun p => { p with wakePending := false })).pmDone 0
  if s1.power.deferred.isSome then s1 else s1.each [0, 1] (fun t c => t.setFeature c 0x02 0 0)

/-- Standby is left (R110): HBM out of self-refresh, a token requested; calibration runs are abandoned (R435). -/
def State.wakeStandby (s : State) : State :=
  if s.pwState != pwStandby || s.power.wakePending then s
  else (((s.setFld HM_STAT.SREF 0).modPower (fun p => { p with wakePending := true, hibernatePending := false })).abandonRuns (fun _ => true)).wantSpin

/-- Standby is reached: dirty lines written back (R235), HBM in self-refresh, a stamp (R619). A media command that came meanwhile
wakes the device again. -/
def State.reachStandby (s : State) : State :=
  let s1 := ((s.cacheWriteBackAll.setFld HM_STAT.SREF 0xF).setFld PW_STAT.STATE pwStandby).silClose false
  let s2 := s1.modPower (fun p => { p with standbyPending := false, parking := false })
  let s3 := s2.pmDone (if s2.power.hibernatePending then 2 else 1)
  if s3.mediaBusy || s3.power.deferred == some 0 then (s3.modPower (fun p => { p with deferred := none })).wakeStandby else s3

/-- Parking and braking start once the media commands are drained; from there on no media command starts, and calibration runs are
abandoned (R435). A spindle already stopped leads to Standby at once. -/
def State.standbyStep (s : State) : State :=
  if !s.power.standbyPending || s.power.parking || s.mediaBusy then s
  else
    let s1 := ((s.modPower (fun p => { p with parking := true })).abandonRuns (fun _ => true)).parkBoth
    if s1.spState == spStopped then s1.reachStandby else s1.stopSpindle

/-- A request for a power state in VM state Normal (R110). One that comes while the device is on its way to another state waits for
that state. -/
def State.powerTo (s : State) (ps : Nat) : State :=
  let st := s.pwState
  if ps = 0 then
    if st == pwStandby then s.wakeStandby
    else if st == pwActive || st == pwIdle then
      if s.power.standbyPending then s.modPower (fun p => { p with deferred := some 0 }) else (s.setFld PW_STAT.STATE pwActive).pmDone 0
    else s
  else if st == pwActive || st == pwIdle then
    (s.modPower (fun p => { p with standbyPending := true, hibernatePending := ps == 2 })).standbyStep
  else if st == pwStandby && !s.power.wakePending then (s.modPower (fun p => { p with hibernatePending := ps == 2 })).pmDone ps
  else s.modPower (fun p => { p with deferred := some ps })

/-- A power-state request: deferred outside Normal and while AC_STAT.BUSY is 1 (R101, R136). -/
def State.powerRequest (s : State) (ps : Nat) : State :=
  if s.fld PW_STAT.VMSTATE != 0 || s.bit AC_STAT.BUSY then s.modPower (fun p => { p with deferred := some ps })
  else s.powerTo ps

/-- A deferred request goes on. -/
def State.deferredPump (s : State) : State :=
  match s.power.deferred with
  | some ps => if s.deferredDue then (s.modPower (fun p => { p with deferred := none })).powerTo ps else s
  | none => s

/-- A media command is fetched: Idle and Standby are left (R110). -/
def State.mediaWake (s : State) : State :=
  if s.pwState == pwIdle && !s.power.parking then s.setFld PW_STAT.STATE pwActive
  else if s.pwState == pwStandby then s.wakeStandby
  else s

/-- The link is in L2: the rails are powered down, and with the last of them the device is in Hibernate (R92, R110, R558). -/
def State.enterHibernate (s : State) : State :=
  if !s.power.hibernatePending || s.pwState != pwStandby then s else s.powerDown

/-- Hibernate is left (R109): the tick counter, the PW and TB registers, NOREGEN (R278) and the PHY's HEALTH copy stay; the rails sequence. -/
def State.wakeHibernate (s : State) : State :=
  if !s.power.hibernate then s
  else
    let s1 := s.rebooted
    let keep := s.regs.filter (fun x => inRange x.1 0x10000 0x2FFFF)
    let s2 := { s1 with tick := s.tick, regs := keep, tickMem := ⟨keep, [], [], []⟩, eb := { s1.eb with health := s.eb.health, phyId := s.eb.phyId, seq := s.eb.seq } }
    (((s2.setFld SP_STAT.NOREGEN (s.fld SP_STAT.NOREGEN)).setFld PW_STAT.STATE pwBoot).modPower (fun p => { p with porst := true })).enableRail 0

/-! ### The VM monitor (R96 to R102) -/

/-- VM states of PW_STAT.VMSTATE. -/
def vmNormal : Nat := 0
def vmRide : Nat := 1
def vmWait : Nat := 2
def vmParked : Nat := 3
def vmLost : Nat := 4

def State.vmState (s : State) : Nat := s.fld PW_STAT.VMSTATE

/-- The hold of R39 counts from this tick for both actuators. -/
def State.holdFrom (s : State) : State :=
  s.each [Dom.DA, .DB] (fun t d => if t.isServing d then t.modDom d (fun x => { x with leftTick := t.tick }) else t)

/-- A ride-through ends (R98): its duration in 0.1 ms, rounded, in PW_RIDE.LAST and record 0x0202. OUTCOME 0 Normal, 1 Parked
hold, 2 VM lost. A Ride-through that was not entered from Normal is none, and leaves neither. -/
def State.rideEnd (s : State) (outcome : Nat) : State :=
  if s.vmState != vmRide && s.vmState != vmWait then s
  else
    let s1 := match s.power.rideStart with
      | none => s
      | some from' =>
        let d := Nat.min 0xFFFF ((s.tick - from' + 1250) / 2500)
        (s.setFld PW_RIDE.LAST d).record 0x0202 (leBytes 2 d ++ leBytes 2 (s.fld PW_VM.VMIN) ++ leBytes 1 outcome ++ zeros 3)
    s1.modPower (fun p => { p with rideStart := none, rideTimer := false, msTimer := false })

/-- VM state Ride-through with a new ride timer: no frame and no media command starts. -/
def State.rideHold (s : State) : State :=
  (s.setFld PW_STAT.VMSTATE vmRide).modPower (fun p => { p with rideTimer := true, msTimer := false, frameBar := true, mediaHold := true })

/-- Entry into Ride-through from Normal: counted, recorded. -/
def State.rideBegin (s : State) : State :=
  ((s.rideHold.bump PW_RIDE.COUNT).record 0x0201 (leBytes 2 (s.fld PW_VM.VM) ++ zeros 2)).modPower (fun p => { p with rideStart := some s.tick })

/-- VM is Normal again: frames may start, MRAM writes are admitted, a VM loss ridden through is counted and recorded (R620), held media
commands go on, a deferred power request is taken. -/
def State.vmToNormal (s : State) : State :=
  let s1 := s.when s.power.lossOpen (fun t => (t.bump SL_UNSAFE.VALUE).record 0x0203 (zeros 4))
  let s2 := (s1.when (s1.power.phase == .done) (fun t => t.setBit MJ_STAT.ADMIT)).setFld PW_STAT.VMSTATE vmNormal
  (s2.modPower (fun p => { p with frameBar := false, mediaHold := false, lossOpen := false, rideTimer := false, msTimer := false })).resumeReads.deferredPump

/-- Both actuators are parked for R60 or R98: commands are handled as in R39 from here. -/
def State.parkHold (s : State) : State := s.parkBoth.holdFrom

/-! ### The start of a boot (R643, R185, R202) -/

/-- The rails are up: units check themselves (`failed`: stacks in bits 3:0, dies in bits 7:4), the steward starts. -/
def State.bootStart (s : State) (failed : Nat) : State :=
  let s1 := (s.modPower (fun p => { p with phase := .done })).modMem (fun m => { m with failed := failed })
  let s2 := ((s1.setFld HM_STAT.READY (15 - failed % 16)).setFld MJ_STAT.READY (15 - failed / 16 % 16)).setFld MJ_STAT.ADMIT (if s.vmState == vmLost then 0 else 1)
  let s3 := (s2.silBoot.wearSync.secBoot.modPins (fun p => { p with bfRstL := true })).trainLinks
  let s4 := s3.each [0, 1] (fun t k => t.acSlotSync k)
  if failed % 256 = 0 then s4 else s4.baseNote 6 (failed % 256)

/-! ### The Accord at boot (R127 to R130, R187, R467, R612) -/

/-- Slots that can be read, highest GENERATION first; slot 0 first of two alike, for which the spec gives no order (DESIGN CHOICE,
assumption 110). -/
def State.acReadable (s : State) : List Nat :=
  let ok := fun (k : Nat) => let st := s.acSlotState k; st == asPending || st == asTried || st == asCommitted
  let g := fun (k : Nat) => acGeneration (s.flashAccord k).image
  if g 0 < g 1 then [1, 0].filter ok else [0, 1].filter ok

/-- An error of a slot at boot: shown, the slot revoked. -/
def State.acBootErr (s : State) (k err sect : Nat) : State := (s.acErr err sect).acRevoke k err sect

/-- The layout on the media goes (R128): the map, both journals, band sets and zones are emptied; namespaces stay, empty. -/
def State.relayoutMedia (s : State) (dg : List Byte) : State :=
  let s1 := s.modMap (fun m => { MapSt.reset with frameSeq := m.frameSeq, jseq := m.jseq, recPage := m.recPage, durHead := m.durHead, scanHead := m.recPage, scanTail := m.recPage })
  let s2 := s1.modTier (fun t => { t with sj := t.sj.filter (fun r => match r.body with
    | .surface .. => true
    | .identity .. => true
    | _ => false) })
  { s2 with acc := { s2.acc with layoutDigest := some dg } }

/-- What the applied image sets: AC registers, HBM regions (R187 to R189), thermal limits (R612), the map's size (R443, R465). -/
def State.applyAccord (s : State) (k : Nat) (img : List Byte) : State :=
  let s1 := ({ s with acc := { s.acc with applied := img } }).acShow k
  let gran := if 19531250000 < s1.capBlk then 2 else 1
  let n := (s1.capBlk + gran - 1) / gran
  let map := (5 * n + 0xFFFFF) / 0x100000
  let put := fun (t : State) (j base size : Nat) => (t.setFld (HM_RGNBASE.BASE j) base).setFld (HM_RGNSIZE.SIZE j) size
  let s2 := put (put (put (put s1 0 0 64) 1 64 map) 2 (64 + map) 16384) 3 (64 + map + 16384) (hbmBytes / 0x100000 - (64 + map + 16384))
  let th := fun (off : Nat) => s2.ac 0x0B 0 off 1
  let s3 := (((s2.setFld TH_LIMITS.WARN (th 0)).setFld TH_LIMITS.THROT (th 1)).setFld TH_LIMITS.SHUT (th 2)).setFld TH_LIMITS.HYST (th 3)
  let s4 := ((s3.setFld MP_STAT.GRAN (gran - 1)).setFld MP_NENT_LO.N n).setFld MP_NENT_HI.N (n / 2 ^ 32)
  let s5 := s4.setFld MP_CKPT.NSEG ((n + 3276799) / 3276800)
  [Act.A, .B].foldl (fun t a => t.assistLoad a) s5

/-- The image of slot `k` passes every check: applied, or turned away because the layout differs (R127, R128). The flag: applied. -/
def State.acUse (s : State) (k : Nat) : State × Bool :=
  let img := (s.flashAccord k).image
  let dg := layoutDigest img
  let differs := match s.acc.layoutDigest with
    | some d => d != dg
    | none => false
  if s.acSlotState k = asPending then
    let m1 := s.acMark k (fun m => { m with tried := true })
    let s1 := { m1 with acc := { m1.acc with trial := some k } }
    if differs && !(s.flashAccord k).marks.extra then (m1.acBootErr k 0x0C 0xFF, false)
    else ((s1.when (s.flashAccord k).marks.extra (fun t => t.relayoutMedia dg)).applyAccord k img, true)
  else ({ s.applyAccord k img with acc := { (s.applyAccord k img).acc with copyDue := true } }, true)

/-- One slot of the loop of R127; `v` is what its checks say. -/
def State.acTry (s : State) (k : Nat) (v : Option (Nat × Nat)) : State × Bool :=
  if s.acSlotState k = asTried then (s.acBootErr k 0x10 0xFF, false)
  else match v with
    | some e => ((s.acRefuse (s.flashAccord k).image e).acRevoke k e.1 e.2, false)
    | none => s.acUse k

/-- The loop of R127: the first slot that can be applied is. -/
def State.acSelect (s : State) : List Nat → State
  | [] => s
  | k :: l =>
    let r := s.acTry k (s.acVerify (s.flashAccord k).image)
    if r.2 then r.1 else r.1.acSelect l

/-- The boot restores of DP and DE, once per boot (R694). -/
def State.bootRestore (s : State) (d : Dom) : State :=
  if (s.dom d).bootRestored || s.bit FB_STAT.BASENOTE then s
  else (s.modDom d (fun x => { x with bootRestored := true })).enterRestoring d .steward

/-- The surface records of the stripe journal are applied: heads present and not failed, and the surfaces failed (R495). Write-disabled
heads take frames again (R345, R498). -/
def State.surfaceLoad (s : State) : State :=
  let st := fun (sf : Nat) => s.tier.sj.foldl (fun n r => match r.body with
    | .surface x v => if x = sf then v else n
    | _ => n) 0
  let bits := fun (l : List Nat) => l.foldl (fun n k => n + 2 ^ k) 0
  let failed := (List.range 32).filter (fun sf => st sf == 1)
  let ok := s.surfaces.filter (fun sf => !failed.contains sf)
  let s1 := (s.setFld (SV_HEADOK.OK 0) (bits ok % 65536)).setFld (SV_HEADOK.OK 1) (bits ok / 65536)
  let s2 := s1.each failed (fun t sf => t.modHead (surfAct sf) (sf % 16) (fun h => { h with failed := true }))
  let s3 := (s2.setFld PX_FAILED.SURF (bits failed)).setFld PX_WDIS.SURF (bits ((List.range 32).filter (fun sf => st sf == 2)))
  (s3.wdisEnd .A).wdisEnd .B

/-- Boot load (R127 to R130): with no image applied the device enters Base-note mode with the error of the slot of highest
generation. -/
def State.accordBoot (s : State) : State :=
  let l := s.acReadable
  let s1 := s.acSelect l
  if s1.acc.applied = [] then
    let first := match l with
      | k :: _ => let t := s.acSelect [k]; (t.fld AC_STAT.ERR, t.fld AC_STAT.ERRSECT)
      | [] => (0, 0xFF)
    let s2 := ((s1.acErr first.1 first.2).acOp 0).bootRecord
    s2.baseNote 1 (first.1 + 256 * first.2)
  else
    let k := s1.fld AC_STAT.SLOT
    let s2 := (s1.when (l.head? != some k) (fun t => t.setBit AC_STAT.FALLBACK)).acOp 0
    let img := s2.acc.applied
    let s3 := (s2.record 0x0302 (leBytes 1 k ++ leBytes 1 (acKind img) ++ leBytes 1 (acTarget img) ++ zeros 1 ++ leBytes 4 (acGeneration img))).bootRecord
    let s4 := (((s3.surfaceLoad.setFld ST_STAT.STATE 1).setFld MP_STAT.STATE 1).setFld SP_TARGET.TARGET fullSpeed).wantSpin
    ((s4.trainLinks.bootRestore .DP).bootRestore .DE).deferredPump

/-! ### When the spindle stops or locks -/

/-- The spindle has come to Stopped: a Standby being entered is reached (R110). -/
def State.afterStopped (s : State) : State := if s.power.parking then s.reachStandby else s

/-- The spindle is Locked: the boot restores of DA and DB in one tick (R694), the loads of a return from Standby (R110), the
actuators that wait for it (R31, R33, R318). -/
def State.afterLocked (s : State) : State :=
  let both := [Dom.DA, .DB]
  let s1 := (if s.acc.applied = [] then s else s.each both State.bootRestore).when s.power.parking State.stopSpindle
  let s2 := s1.each [Act.A, .B] (fun t a =>
    if t.power.wakePending && t.isServing (domOfAct a) && t.svState a == svParked && !(t.dom (domOfAct a)).held && t.spReady then
      (t.modSv a (fun v => { v with attempts := 0 })).startLoad a
    else t)
  s2.each [Act.A, .B] (fun t a => if (t.sv a).reload && t.svState a == svParked && t.spReady then t.startLoad a else (t.tryLoad a).heldLoad (domOfAct a))

/-- An actuator has come to Following: restores end, and a return from Standby ends once every serving actuator follows. -/
def State.afterFollowing (s : State) (a : Act) : State :=
  let s1 := s.restoreDone (domOfAct a)
  (s1.when (s1.power.wakePending && s1.spState == spLocked && [Act.A, .B].all (fun b => !s1.isServing (domOfAct b) || s1.svState b == svFollowing)) State.reachActive).resumeReads.deferredPump

/-- The slewed set-point has entered another speed zone (R269): calibration that is due there (R423), and the servo's coefficients. -/
def State.zoneEntered (s : State) : State :=
  (s.each [Act.A, Act.B] (fun t a => if t.svLoaded a then t.modSv a (fun v => { v with coefPend := some (t.fld SP_SPEED.SLEWED) }) else t)).calZone

/-- The slewed set-point moves, by a slew, a start or FOLLOW; the zone-change event follows where it enters one of the 12 zones anew
(R269). -/
def State.moveSlewed (s : State) (m : Nat) : State :=
  let z := s.fld SP_STAT.ZONE
  let s1 := s.setSlewed m
  s1.when (s1.fld SP_STAT.ZONE != z && s1.fld SP_STAT.ZONE != 0xF) State.zoneEntered

end Sys2Proof.Machine
end

