-- ==== Sys2Proof/Machine/RingOps.lean ====
section
/-! DEFINITION. Service rings (R570 to R587, R696): the fields of a descriptor, which descriptor may be fetched and started,
authorisation, chains, and the transfers on a ring's mover channel. -/
namespace Sys2Proof.Machine

/-! ### Descriptors (R574, R582) -/

def RingDesc.fenced (d : RingDesc) : Bool := natBit d.flags 0
def RingDesc.chained (d : RingDesc) : Bool := natBit d.flags 1
def RingDesc.signed (d : RingDesc) : Bool := natBit d.flags 2
def RingDesc.progress (d : RingDesc) : Bool := natBit d.flags 3

/-- Opcodes that need a signature. -/
def opSigned (opc : Nat) : Bool := opc == 0x02 || opc == 0x05 || opc == 0x08 || opc == 0x09 || opc == 0x0B || opc == 0x0C || opc == 0x0D || opc == 0x0E

/-- PARAM fields of an opcode: offset and size; every other byte is 0 (R574, R582, R634). -/
def paramFields (opc : Nat) : List (Nat × Nat) :=
  match opc with
  | 0x01 => [(0, 1), (4, 4), (8, 8), (16, 8)]
  | 0x02 => [(0, 1), (4, 4), (8, 8), (16, 8)]
  | 0x03 => [(0, 4), (4, 4), (8, 8)]
  | 0x04 => [(0, 1), (4, 4), (8, 2), (10, 2), (16, 8)]
  | 0x05 => [(0, 1)]
  | 0x06 => [(0, 7), (8, 4), (12, 4), (16, 8)]
  | 0x07 => [(0, 4), (4, 4), (8, 8)]
  | 0x09 => [(0, 8), (8, 4), (12, 1)]
  | 0x0A => [(0, 1), (8, 8)]
  | 0x0B => [(0, 1), (1, 1)]
  | 0x0C => [(0, 1)]
  | 0x0E => [(0, 2)]
  | _ => []

def paramGapsZero (opc : Nat) (p : List Byte) : Bool :=
  (List.range 40).all (fun k => (paramFields opc).any (fun f => decide (f.1 ≤ k) && decide (k < f.1 + f.2)) || (p[k]?).getD 0 == 0)

/-- The values that PARAM fields may hold (R582, R634), but for what only the work itself can find wrong. -/
def paramOk (opc : Nat) (p : List Byte) : Bool :=
  let v := fun (off n : Nat) => leAt p off n
  match opc with
  | 0x01 => decide (v 0 1 ≤ 1)
  | 0x02 => decide (v 0 1 ≤ 1)
  | 0x04 => decide (v 0 1 < 32)
  | 0x05 => decide (v 0 1 ≤ 8)
  | 0x06 => decide (v 0 1 ≤ 3) && decide (1 ≤ v 2 1) && decide (v 1 1 + v 2 1 ≤ 64) && decide (v 5 1 ≤ 31) && decide (v 6 1 ≤ 1) &&
      (if v 0 1 = 0 then decide (1 ≤ v 3 1) && decide (v 3 1 ≤ 0x0B) else true) && (if 2 ≤ v 0 1 then v 16 8 % 64 == 0 else true)
  | 0x07 => v 4 4 % 8 == 0
  | 0x09 => decide (v 12 1 ≤ 3)
  | 0x0A => decide (v 0 1 ≤ 1)
  | 0x0B => (domOfCode (v 0 1)).isSome && decide (v 1 1 ≤ 1)
  | 0x0C => decide (v 0 1 ≤ 1)
  | _ => true

/-- What the fetch itself finds wrong with 64 descriptor bytes: reserved fields and pointers first, then the opcode, then a
missing signature, then PARAM (DEDUCED order, assumption 49); a chain on an opcode that defines no entries for it is an invalid field. -/
def fetchFault (b : List Byte) : Option Nat :=
  let opc := leAt b 0 1
  let fl := leAt b 1 1
  let ptrBad := fun (off : Nat) (on : Bool) => let p := leAt b off 8; if on then p % 64 != 0 else p != 0
  if decide (16 ≤ fl) || leAt b 4 4 != 0 || ptrBad 0x30 (natBit fl 1) || ptrBad 0x38 (natBit fl 2) then some rsInvalidField
  else if opc = 0 ∨ 0x0E < opc then some rsInvalidOpcode
  else if opSigned opc && !natBit fl 2 then some rsAuthFailed
  else if !paramGapsZero opc (slice b 8 40) || !paramOk opc (slice b 8 40) || (natBit fl 1 && decide (2 < opc)) then some rsInvalidField
  else none

/-- Descriptor bytes 0x00 to 0x2F, the part that is signed. -/
def RingDesc.message (d : RingDesc) : List Byte := leBytes 1 d.opc ++ leBytes 1 d.flags ++ leBytes 2 d.tag ++ zeros 4 ++ slice d.param 0 40

/-! ### Fetching (R573, R581) -/

/-- Completions held plus descriptors in flight. -/
def RingSt.load (g : RingSt) : Nat := g.held.length + g.descs.length

/-- The ring has a descriptor the device may take. -/
def State.ringPending (s : State) (r : Nat) : Bool :=
  s.fld (SR_STAT.STATE r) == rgEnabled && (s.ring r).sqHead != (s.ring r).tail && decide ((s.ring r).load < 64)

/-- The ring whose descriptor is taken next: strict priority, at most 16 in flight over all rings. -/
def State.nextRing (s : State) : Option Nat :=
  if 16 ≤ s.ringsInFlight then none else (List.range 8).find? s.ringPending

/-- SQHEAD moves past the descriptor just fetched and is shown in the index page; SR_OVF where the ring now stops fetching. -/
def State.ringHead (s : State) (r : Nat) : State :=
  let g := s.ring r
  let n := (g.sqHead + 1) % 2 ^ g.sqlog
  let s1 := s.modRing r (fun x => { x with sqHead := n, pushed := x.pushed.filter (fun p => p.1 != g.sqHead) })
  s1.hostWrite .ring g.port (g.slotAddr r) (leBytes 2 n)

/-- Draining (R583, R585): EN reads 0, nothing more is fetched; without work left the ring is Disabled. -/
def State.ringDrain (s : State) (r : Nat) : State :=
  if s.fld (SR_STAT.STATE r) != rgEnabled then s
  else (((s.setFld (SR_STAT.STATE r) rgDraining).clrBit (SR_CFG.EN r)).modRing r (fun g => { g with tail := g.sqHead, pushed := [] })).ringSettle r

/-- A host memory error on a descriptor, the index page or a chain block. -/
def State.ringHostErr (s : State) (r : Nat) : State := (s.setBit SR_ERR.HOSTERR).ringDrain r

/-! ### Starting (R578 to R580) -/

/-- Waiting chains of the ring. -/
def RingSt.waiting (g : RingSt) : Nat := (g.descs.filter (fun d => d.waiting)).length

/-- Nothing holds the descriptor back: fences of its ring, their completion entries not yet written included, signed descriptors ahead of it, the limit of waiting chains. -/
def State.startable (s : State) (r : Nat) (d : RingDesc) : Bool :=
  let g := s.ring r
  let ahead := g.descs.filter (fun e => decide (e.seq < d.seq))
  (!d.fenced || (ahead == [] && g.held == [])) && !ahead.any RingDesc.fenced && !g.held.any (fun c => c.fence) &&
  (!d.signed || !(s.nvme.fwStore.any (fun x => x.sec)) && (List.range 8).all (fun k => (s.ring k).descs.all (fun e => !e.signed || decide (d.seq ≤ e.seq)))) &&
  !(d.chained && decide (4 ≤ g.waiting))

def State.modDesc (s : State) (r tag : Nat) (f : RingDesc → RingDesc) : State :=
  s.modRing r (fun g => { g with descs := g.descs.map (fun d => if d.tag == tag then f d else d) })

/-- Start the descriptor `tag` of opcode `opc`: a signed one is checked first, accepted with a new nonce or completed with the
status of the check that fails (R580, R657). `f` is what it does. One that is started, held back or of another opcode is left. -/
def State.ringStart (s : State) (r tag opc : Nat) (f : State → RingDesc → State) : State :=
  match s.desc? r tag with
  | none => s
  | some d =>
    if d.opc != opc || d.started || !s.startable r d then s
    else if d.signed then
      match s.authFails d.auth d.message 1 true with
      | some (st, reason) => (s.refuse 3 reason).ringEnd r tag st none
      | none => f (s.newNonce.modDesc r tag (fun x => { x with started := true })) d
    else f (s.modDesc r tag (fun x => { x with started := true })) d

/-- PARAM names something that is not there. -/
def State.ringInvalid (s : State) (r tag : Nat) : State := s.ringEnd r tag rsInvalidField none

/-! ### Transfers (R582, R696) -/

/-- An extent of a Mover read or write as a set of the ring's channel. -/
def State.ringSetOf (s : State) (r : Nat) (d : RingDesc) (x : ChainExtent) : MoverSet :=
  let host := 4 + (s.ring r).port
  if d.opc = 0x01 then ⟨d.p 0 1, x.dev, host, x.host, x.len, d.fenced, stewardEp⟩ else ⟨host, x.host, d.p 0 1, x.dev, x.len, d.fenced, stewardEp⟩

/-- The device side lies in an HBM region 0 to 3, or in MRAM's Sillage (R582). -/
def State.extentOk (s : State) (sp : Nat) (x : ChainExtent) : Bool :=
  (sp == 0 && (match s.regionOf x.dev, s.regionOf (x.dev + x.len - 1) with
    | some _, some _ => true
    | _, _ => false)) ||
  (sp == 1 && decide (silBase ≤ x.dev) && decide (x.dev + x.len ≤ silBase + logEnd))

/-- How far a ring's set has come: it waits for the mover, is done, or ends its descriptor with a status. -/
inductive SetRes where
  | stalled | done
  | ended (status : Nat)
  deriving DecidableEq, Repr

/-- The set of an extent is loaded into the ring's channel as its owner, the steward, loads any (R242). What a set before left there
Halted or Stopped is discarded first (DESIGN CHOICE, assumption 47). -/
def State.ringLoad (s : State) (r tag : Nat) (x : MoverSet) : State :=
  let c := ringChan r
  let s1 := s.when (s.dmState c == dmStopped || s.dmState c == dmHalted) (fun t => t.moverDiscard c)
  if s1.dmState c == dmIdle && !s1.bit (DM_CH_STAT.SHGO c) then (s1.moverGo c x).modDesc r tag (fun d => { d with loaded := true }) else s1

/-- The loaded set of the ring's channel goes on (R240, R244): selected where M3 is free for it, it runs until it is done, waits or halts.
`ok` bytes are what host memory takes or gives from here on. -/
def State.ringRun (s : State) (r : Nat) (ok : Nat) (data : List Byte) (f : MemFaults) : State × SetRes :=
  let c := ringChan r
  let s1 := s.when (s.dmState c == dmReady) (fun t => t.moverNext 3)
  let st := s1.dmState c
  let ends := fun (t : State) => t.fld (DM_CH_STAT.LASTST c)
  if st == dmHalted then (s1, .ended (if ends s1 = dmHostErr then rsHostError else rsUnitError))
  else if st == dmIdle then (s1, if ends s1 = dmOk then .done else .ended (if ends s1 = dmBadset then rsInvalidField else rsUnitError))
  else match (s1.chan c).active with
    | none => (s1, .stalled)
    | some x =>
      if st != dmRunning then (s1, .stalled)
      else
        let whole := decide (s1.dmLeft c ≤ ok)
        let s2 := State.dmRun (if whole then s1.dmLeft c / 64 + 1 else ok / 64) s1 c f x data
        if s2.dmState c == dmHalted then (s2, .ended (if ends s2 = dmHostErr then rsHostError else rsUnitError))
        else if s2.dmLeft c = 0 then (s2.dmDone c x dmOk, .done)
        else if whole || s2.spaceWaits x.dstSp (s2.dmDst c) (Nat.min 64 (s2.dmLeft c)) then (s2, .stalled)
        else (s2.dmHalt c dmHostErr, .ended rsHostError)

/-- The set of an extent, from where it stands: its state, the bytes this moved, and how far it has come. -/
def State.ringSet (s : State) (r tag : Nat) (d : RingDesc) (x : ChainExtent) (ok : Nat) (data : List Byte) (f : MemFaults) : State × Nat × SetRes :=
  let c := ringChan r
  if !d.loaded && !s.extentOk (d.p 0 1) x then (s, 0, .ended rsInvalidField)
  else
    let s1 := s.when (!d.loaded) (fun t => t.ringLoad r tag (s.ringSetOf r d x))
    let from' := if d.loaded then s1.dmLeft c else x.len
    if !((s1.desc? r tag).map (fun e => e.loaded)).getD false then (s1, 0, .stalled)
    else
      let q := s1.ringRun r ok data f
      let moved := match q.2 with
        | .done => from'
        | .ended st => if st = rsInvalidField then 0 else from' - q.1.dmLeft c
        | .stalled => from' - q.1.dmLeft c
      (if q.2 = .stalled then q.1 else q.1.modDesc r tag (fun e => { e with loaded := false }), moved, q.2)

/-- The bytes a descriptor has moved are counted in it. -/
def State.ringAdd (s : State) (r tag n : Nat) : State := s.modDesc r tag (fun e => { e with moved := e.moved + n })

/-- The extents of a continuation block from the one in hand on; one of length 0 is none. At a set boundary a descriptor whose drain is over
aborts (R583). Then what of host memory is left. -/
def State.ringExtents (s : State) (r tag : Nat) (d : RingDesc) : List ChainExtent → Nat → List Byte → MemFaults → State × SetRes × Nat
  | [], ok, _, _ => (s, .done, ok)
  | x :: l, ok, data, f =>
    let next := fun (t : State) => t.modDesc r tag (fun e => { e with extents := e.extents + 1 })
    if x.len = 0 then (next s).ringExtents r tag d l ok data f
    else if d.abort && !d.loaded then (s, .ended rsAborted, ok)
    else
      let q := s.ringSet r tag d x ok data f
      let t := q.1.ringAdd r tag q.2.1
      match q.2.2 with
      | .done => (next t).ringExtents r tag { d with loaded := false } l (ok - q.2.1) (data.drop q.2.1) f
      | e => (t, e, ok)

/-- A descriptor's transfer ends: its RESULT holds the bytes moved. -/
def State.ringMoved (s : State) (r tag status : Nat) : State := s.ringComplete r tag status (((s.desc? r tag).map (fun d => d.moved)).getD 0)

/-- Follow the continuation blocks given, from the one in hand, as far as they go (R579): closed, waiting with a progress completion,
or more to come. One that cannot be read lets the ring drain (R585). -/
def State.ringBlocks (s : State) (r tag : Nat) : List ChainBlock → Nat → List Byte → MemFaults → State
  | [], _, _, _ => s
  | b :: l, ok, data, f =>
    match s.desc? r tag with
    | none => s
    | some d =>
      if b.err then s.ringHostErr r
      else
      let q := s.ringExtents r tag d (b.extents.drop d.extents) ok data f
      match q.2.1 with
      | .stalled => q.1
      | .ended e => q.1.ringMoved r tag e
      | .done =>
        let s1 := q.1.modDesc r tag (fun x => { x with blocks := x.blocks + 1, extents := 0 })
        if !b.eoc then s1.ringBlocks r tag l q.2.2 (data.drop (ok - q.2.2)) f
        else if b.final then s1.ringMoved r tag rsSuccess
        else if d.abort then s1.ringComplete r tag rsAborted (d.blocks + 1)
        else
          let s2 := (s1.modDesc r tag (fun x => { x with waiting := true })).ringSync r
          s2.when d.progress (fun t => t.ringPost r ⟨tag, rsSuccess, true, d.blocks + 1, false⟩)

/-- A started Mover read or write goes on: PARAM's own extent, then the chain. -/
def State.ringGo (s : State) (r tag : Nat) (blocks : List ChainBlock) (ok : Nat) (data : List Byte) (f : MemFaults) : State :=
  match s.desc? r tag with
  | none => s
  | some d =>
    if d.waiting then s
    else if d.own then s.ringBlocks r tag blocks ok data f
    else
      let q := s.ringSet r tag d ⟨d.p 8 8, d.p 16 8, d.p 4 4⟩ ok data f
      let t := q.1.ringAdd r tag q.2.1
      match q.2.2 with
      | .stalled => t
      | .ended e => t.ringMoved r tag e
      | .done =>
        let t1 := t.modDesc r tag (fun e => { e with own := true })
        if d.chained then t1.ringBlocks r tag blocks (ok - q.2.1) (data.drop q.2.1) f else t1.ringMoved r tag rsSuccess

/-- No descriptor of the ring that was fetched earlier has mover work under way or to come (R696). -/
def State.ringTurn (s : State) (r : Nat) (d : RingDesc) : Bool :=
  (s.ring r).descs.all (fun e => decide (d.seq ≤ e.seq) || !(e.opc == 0x01 || e.opc == 0x02) || e.waiting)

/-- A Mover read or write: started, or taken on from where it stands. -/
def State.ringMove (s : State) (r tag opc : Nat) (blocks : List ChainBlock) (ok : Nat) (data : List Byte) (f : MemFaults) : State :=
  match s.desc? r tag with
  | none => s
  | some d =>
    if d.opc != opc || !s.ringTurn r d then s
    else if d.started then s.ringGo r tag blocks ok data f
    else s.ringStart r tag opc (fun t e => if e.p 4 4 = 0 then t.ringInvalid r tag else t.ringGo r tag blocks ok data f)

/-- Write bytes to host memory for a descriptor; `ok` is false where host memory fails. -/
def State.ringOut (s : State) (r tag : Nat) (addr : Nat) (data : List Byte) (ok : Bool) (result : Nat) : State :=
  if ok then (s.hostWrite .data (s.ring r).port addr data).ringComplete r tag rsSuccess result
  else s.ringComplete r tag rsHostError 0

end Sys2Proof.Machine
end

