-- ==== Sys2Proof/Machine/ZoneZero.lean ====
section
/-! DEFINITION. Zone 0 of a surface (R440): where roots, the Accord copy and the checkpoint slots lie, the frames that hold a segment's
image (R465, R466) and the bytes of a root (R467). -/
namespace Sys2Proof.Machine

/-! ### Places (R440) -/

/-- The first track of a root slot, of the Accord copy, and of the checkpoint area. -/
def rootTrack (slot : Nat) : Nat := 8 * slot
def accordTrack : Nat := 16
def ckptTrack : Nat := 32

/-- The surface CKPT_A or CKPT_B. -/
def State.ckptSurf (s : State) (a : Act) : Nat := 16 * actNum a + s.ckptHead a

/-- Frame `n` of zone 0 counted from a track, in the surface's own frame order. -/
def State.zone0Pos (s : State) (surf track n : Nat) : FramePos :=
  let fr := Nat.max 1 (s.zn surf 0 8 2)
  ⟨surf, track + n / fr, n % fr⟩

/-- The surfaces that checkpoint copies of an actuator use: present and not failed (R466, R471). -/
def State.ckptSurfs (s : State) (a : Act) : List Nat := s.surfaces.filter (fun t => decide (t / 16 = actNum a) && !s.fldBit PX_FAILED.SURF t)

/-- Frames of one checkpoint slot on each surface. -/
def State.slotFrames (s : State) (a : Act) : Nat :=
  let h := Nat.max 1 (s.ckptSurfs a).length
  (1000 + h - 1) / h

/-- Frame `f` of the copy of segment `k` on an actuator (R466). -/
def State.segPos (s : State) (a : Act) (k f : Nat) : FramePos :=
  let l := s.ckptSurfs a
  let h := Nat.max 1 l.length
  s.zone0Pos ((l[f % h]?).getD 0) ckptTrack (k * s.slotFrames a + f / h)

/-! ### Frames on the media -/

/-- A frame written at a place of zone 0. -/
def State.putZone0 (s : State) (p : FramePos) (kind tag : Nat) (payload : List Byte) : State :=
  s.modMap (fun m => { m with
    media := SMap.set (fun _ => none) m.media (s.pfnOf p) (some ⟨kind, tag, m.frameSeq + 1, frameSlots payload⟩), frameSeq := m.frameSeq + 1 })

/-- The frame at a place carries this KIND and TAG. -/
def State.holdsAt (s : State) (p : FramePos) (kind tag : Nat) : Bool :=
  match SMap.get (fun _ => none) s.map.media (s.pfnOf p) with
  | some (f : Frame) => f.kind == kind && f.tag == tag
  | none => false

/-- A byte string laid out in frames from a track of a surface. -/
def State.putImage (s : State) (surf track kind tag : Nat) (bytes : List Byte) : State :=
  s.each (List.range ((bytes.length + 16383) / 16384)) (fun t n => t.putZone0 (t.zone0Pos surf track n) kind tag (slice bytes (16384 * n) 16384))

/-- Every frame of it carries the TAG. -/
def State.imageAt (s : State) (surf track kind tag len : Nat) : Bool :=
  (List.range ((len + 16383) / 16384)).all (fun n => s.holdsAt (s.zone0Pos surf track n) kind tag)

/-! ### Segment images (R465) -/

/-- The 16,384 bytes of frame `f` of the image of segment `k`, 5 bytes for each entry. -/
def segPayload (entries : List (Nat × MapEntry)) (k f : Nat) : List Byte :=
  (List.range 16384).map (fun b =>
    let o := 16384 * f + b
    BitVec.ofNat 8 ((SMap.get (fun _ => MapEntry.unmapped) entries (segEntries * k + o / 5)).code / 256 ^ (o % 5)))

/-- A copy of a segment's image goes to an actuator: 1,000 frames of KIND 0x03, their TAG the image's SEGSEQ. -/
def State.putCopy (s : State) (a : Act) (k seq : Nat) (entries : List (Nat × MapEntry)) : State :=
  s.each (List.range 1000) (fun t f => t.putZone0 (t.segPos a k f) 3 seq (segPayload entries k f))

/-- A copy is valid: all of its frames carry the same TAG. -/
def State.copyAt (s : State) (a : Act) (k seq : Nat) : Bool := (List.range 1000).all (fun f => s.holdsAt (s.segPos a k f) 3 seq)

/-! ### Roots (R467) -/

def bandStCode : BandState → Nat
  | .empty => 0
  | .open => 1
  | .full => 2
  | .cleaning => 3

/-- The 8 bytes of band `k` of a surface: STATE, OWNER, CURSOR. -/
def rootBand (b : BandSet) (surf : Nat) : List Byte :=
  if b.cols.contains surf then
    leBytes 1 (if b.offline.contains surf then 4 else bandStCode b.st) ++ leBytes 1 b.owner ++ zeros 2 ++ leBytes 4 (b.cursor / Nat.max 1 (b.cols.length - b.spares))
  else zeros 8

/-- The 32 bytes of a namespace. -/
def rootNs (id : Nat) (n : Namespace) : List Byte :=
  leBytes 2 id ++ leBytes 1 (if n.zoned then 1 else 0) ++ zeros 5 ++ leBytes 8 n.base ++ leBytes 8 n.size ++ leBytes 4 n.firstSet ++ leBytes 4 n.nsets

/-- The 8 bytes of a zone. -/
def rootZone (z : Zone) : List Byte := leBytes 1 z.zstate ++ zeros 3 ++ leBytes 4 z.wp

/-- A channel set as numbers, with its key. -/
def ChanSet.nums (key : Nat) (c : ChanSet) : List Nat :=
  [key, c.start, c.cutoff, c.boost] ++ c.taps ++ [c.g1, c.g2, c.nweight, c.syncth, c.early1, c.early2, c.tj, c.tint]

/-- The tables of a root in the order of their offsets, which R467 leaves open: bands, namespaces, zones by NSID and number, channel sets
(DESIGN CHOICE, assumption 107; the form of a channel set is Config's). -/
def State.rootTables (s : State) (r : Root) : List (List Byte) :=
  let ns := r.namespaces.filterMap (fun x => x.2.map (fun n => (x.1, n)))
  [(s.surfaces.flatMap (fun t => (List.range (s.nbands t)).flatMap (fun k => rootBand (SMap.get (fun _ => BandSet.empty) r.bandsets k) t))),
   (ns.flatMap (fun x => rootNs x.1 x.2)),
   (ns.flatMap (fun x => if x.2.zoned then (List.range x.2.nsets).flatMap (fun z => rootZone (SMap.get (fun _ => Zone.empty) r.zones (zoneKey x.1 z))) else [])),
   Config.rootChannels (s.cal.sets.flatMap (fun x => match x.2 with
     | some c => c.nums x.1
     | none => []))]

/-- The header of a root of `len` bytes, with its ROOTCRC. -/
def State.rootHeader (s : State) (r : Root) (offs : List Nat) (len crc : Nat) : List Byte :=
  let off := fun (k : Nat) => (offs[k]?).getD 0
  [0x52, 0x4F, 0x4F, 0x54] ++ leBytes 4 r.gen ++ leBytes 8 r.seq ++ slice r.digest 0 32 ++ leBytes 8 (s.fld MP_NENT_HI.N * 2 ^ 32 + s.fld MP_NENT_LO.N) ++
  leBytes 1 (s.fld MP_STAT.GRAN) ++ leBytes 1 (r.namespaces.filter (fun x => x.2.isSome)).length ++ zeros 2 ++
  leBytes 4 (s.surfaces.foldl (fun n t => n + s.nbands t) 0) ++ leBytes 4 (off 0) ++ leBytes 4 (off 1) ++ leBytes 4 (off 2) ++ leBytes 4 (off 3) ++
  leBytes 4 len ++ leBytes 4 crc ++ zeros 40

/-- The bytes of a root. -/
def State.rootBytes (s : State) (r : Root) : List Byte :=
  let ts := s.rootTables r
  let offs := (List.range 4).map (fun k => (ts.take k).foldl (fun n t => n + t.length) 128)
  let body := ts.flatten
  let len := 128 + body.length
  s.rootHeader r offs len (crc32c (s.rootHeader r offs len 0 ++ body)) ++ body

/-- A root is written to its slot on both checkpoint surfaces; its frames carry ROOTSEQ. -/
def State.putRoot (s : State) (r : Root) : State :=
  s.each [Act.A, .B] (fun t a => t.putImage (t.ckptSurf a) (rootTrack (r.gen % 2)) 3 r.seq (s.rootBytes r))

/-- A copy of root `r` is valid on an actuator's checkpoint surface. -/
def State.rootAt (s : State) (a : Act) (r : Root) : Bool := s.imageAt (s.ckptSurf a) (rootTrack (r.gen % 2)) 3 r.seq r.len

end Sys2Proof.Machine
end

