-- ==== Sys2Proof/Machine/AccordRows.lean ====
section
/-! DEFINITION. The Accord's commands (R111 to R138): boot load, store, domain apply and media copies. -/
namespace Sys2Proof.Machine

/-! ### Boot load (R127 to R130) -/

/-- The boot load, once per boot, when HBM's unwritten fill is done (R643). -/
def State.accordLoad (s : State) : State :=
  if s.power.phase == .done && s.bit HM_STAT.FILLDONE && s.acc.applied == [] && s.fld AC_STAT.OP == 1 && !s.bit FB_STAT.BASENOTE then s.accordBoot else s

def execAccordBootLoad (s : State) : Host.Outcome State Fault Refusal := .next (s.whileLive (fun s => s.accordLoad))

/-! ### Storing an image (R131 to R136) -/

/-- CDW10 bits 5:3 of a Firmware Commit: the commit action. -/
def commitAction (m : Cmd) : Nat := natBits m.e.cdw10 3 3

/-- The status a stored image's owner sees: a full image through commit action 3 needs a reset (R564). -/
def State.storedStatus (s : State) (o : StoreOwner) : NvStatus :=
  match o with
  | .firmware c q cid => match s.cmd? c q cid with
    | some m => if commitAction m = 3 then .needsReset else .ok
    | none => .ok
  | _ => .ok

/-- Why an image is not stored: AC_STAT.ERR and ERRSECT. R124, then R131, then R133 for a domain image. -/
def State.acStoreErr (s : State) (img : List Byte) : Option (Nat × Nat) :=
  match s.acVerify img with
  | some e => some e
  | none =>
    if acGeneration img ≤ s.fld AC_GEN.GEN then some (0x11, 0xFF)
    else if acKind img = 1 then (domainImageOk img s.acc.applied).map (fun e => (e, 0xFF))
    else none

/-- The guards of R32 hold for the image's domain. -/
def State.applyGuards (s : State) (img : List Byte) : Bool :=
  match domOfCode (acTarget img) with
  | some d => s.takeDownOk d
  | none => false

/-- A store is asked for by `o`. Busy and refused requests change nothing; otherwise the slot that does not hold the applied image
is erased and written (R113, R131). What LENGTH brings beyond the image's IMGLEN is no part of the image and is dropped; what it leaves
short reads as zero (DESIGN CHOICE, assumption 111). -/
def State.acStart (s : State) (o : StoreOwner) (img : List Byte) (relayout apply : Bool) : State :=
  if s.bit AC_STAT.BUSY then s.answerStore o rsBusy 0 .internalError
  else if apply && acKind img == 0 then s.answerStore o rsInvalidField 0 .invalidImage
  else match s.acStoreErr img with
    | some e => (s.acRefuse img e).answerStore o rsAccordError e.1 .invalidImage
    | none =>
      if apply && !s.applyGuards img then s.answerStore o rsRefused 0 .internalError
      else
        let k := 1 - s.fld AC_STAT.SLOT
        let s1 := (s.modFlashAccord k (fun _ => FlashSlot.empty)).acSlotSync k
        { s1.acOp 2 with acc := { s1.acc with
          store := some ⟨o, img.take (acImgLen img), k, relayout, apply, false⟩
          trial := if s1.acc.trial = some k then none else s1.acc.trial } }

/-- Opcode 0x09: `img` is what host memory holds at HOSTADDR, `ok` whether it could be read. -/
def State.accordStore (s : State) (r tag : Nat) (img : List Byte) (ok : Bool) : State :=
  s.ringStart r tag 0x09 (fun t d =>
    if t.bit AC_STAT.BUSY then t.ringEnd r tag rsBusy none
    else if !ok then t.ringEnd r tag rsHostError none
    else t.acStart (.ring r tag) (slice img 0 (d.p 8 4)) (natBit (d.p 12 1) 0) (natBit (d.p 12 1) 1))

def execAccordStore (ring tag : Nat) (img : List Byte) (ok : Bool) (s : State) : Host.Outcome State Fault Refusal :=
  .next (s.whileLive (fun s => s.accordStore ring tag img ok))

/-- The store of `x` is over, without a domain apply: the slot is Pending (R132). -/
def State.storeKept (s : State) (x : StoreOp) : State :=
  (({ s with acc := { s.acc with store := none } }).acOp 0).answerStore x.owner rsSuccess 0 (s.storedStatus x.owner)

/-- The image is stored and read back (R131, R135); `ok` is false where it does not read back equal, which revokes the slot. A
domain apply then sets TRIED and begins its take-down, if the guards of R32 still hold (R136). -/
def State.storeWritten (s : State) (ok : Bool) : State :=
  match s.acc.store with
  | none => s
  | some x =>
    if x.written then s
    else if !ok then
      let s1 := (({ s with acc := { s.acc with store := none } }).acRevoke x.slot 0 0xFF).acOp 0
      (s1.answerStore x.owner rsUnitError 0 .internalError).deferredPump
    else
      let s1 := (s.modFlashAccord x.slot (fun _ => ⟨x.image, { Marks.erased with extra := x.relayout }⟩)).acSlotSync x.slot
      let s2 := { s1 with acc := { s1.acc with store := some { x with written := true } } }
      if !x.apply then (s2.storeKept x).deferredPump
      else
        let s3 := s2.acMark x.slot (fun m => { m with tried := true })
        match domOfCode (acTarget x.image) with
        | some d =>
          if s3.takeDownOk d then (s3.acOp 3).takeDown d .load (some .accord)
          else
            let s4 := (({ s3 with acc := { s3.acc with store := none } }).acRevoke x.slot 0 0xFF).acOp 0
            (s4.answerStore x.owner rsRefused 0 .internalError).deferredPump
        | none => s3

def execAccordStoreWritten (ok : Bool) (s : State) : Host.Outcome State Fault Refusal := .next (s.whileLive (fun s => s.storeWritten ok))

/-! ### Media copies (R114) -/

/-- The copies on both checkpoint surfaces are written where they differ and read back; `okA` and `okB` say whether they read back
equal. -/
def State.mediaCopies (s : State) (okA okB : Bool) : State :=
  if !s.acc.copyDue || s.acc.applied == [] || s.bit FB_STAT.BASENOTE || s.svState .A != svFollowing || s.svState .B != svFollowing then s
  else
    let img := s.acc.applied
    let put := fun (ok : Bool) (old : List Byte) => if ok then img else old
    let s1 := { s with acc := { s.acc with copyDue := false, mediaCopy := ⟨put okA s.acc.mediaCopy.A, put okB s.acc.mediaCopy.B⟩ } }
    let s2 := s1.each [Act.A, .B] (fun t a => if s.acc.mediaCopy.at a == img then t else t.putImage (t.ckptSurf a) accordTrack 4 (acGeneration img) img)
    s2.setFld AC_STAT.MEDIACOPY (if okA && okB then 1 else 0)

def execAccordMediaCopy (okA okB : Bool) (s : State) : Host.Outcome State Fault Refusal := .next (s.whileLive (fun s => s.mediaCopies okA okB))

/-- Opcode 0x0A: the media copy of an actuator is read to host memory. It waits while the actuator cannot read; without a copy on
the surface it ends with Unit error. -/
def State.mediaCopyRead (s : State) (r tag : Nat) (ok : Bool) : State :=
  match s.desc? r tag with
  | none => s
  | some d =>
    let a := actOf (d.p 0 1)
    if s.actAway a then s
    else s.ringStart r tag 0x0A (fun t e =>
      let img := t.acc.mediaCopy.at a
      if img = [] then t.ringEnd r tag rsUnitError (some 0)
      else if !ok then t.ringEnd r tag rsHostError none
      else (t.hostWrite .data (t.ring r).port (e.p 8 8) img).ringEnd r tag rsSuccess none)

def execAccordMediaCopyRead (ring tag : Nat) (ok : Bool) (s : State) : Host.Outcome State Fault Refusal :=
  .next (s.whileLive (fun s => s.mediaCopyRead ring tag ok))

end Sys2Proof.Machine
end

