-- ==== Sys2Proof/Machine/WriteOps.lean ====
section
/-! DEFINITION. Commands on their way: checks at the fetch (R547, R548, R568), range locks (R560, R561), order (R555, R556),
reservations and zones, and what a write puts on its way to the journal (R445, R461). -/
namespace Sys2Proof.Machine

/-! ### Statuses of the command sets (NVMe base, NVM and Zoned Namespace command set specifications) -/

def NvStatus.zoneBoundary : NvStatus := .specific 0xB8
def NvStatus.zoneFull : NvStatus := .specific 0xB9
def NvStatus.zoneInvalidWrite : NvStatus := .specific 0xBC
def NvStatus.tooManyActive : NvStatus := .specific 0xBD
def NvStatus.zoneTransition : NvStatus := .specific 0xBF
/-- Namespace Not Ready with Do Not Retry set (R563). -/
def NvStatus.nsGone : NvStatus := .generic 0x82

/-! ### Range locks (R560, R561) -/

def Lock.overlaps (a b : Lock) : Bool := a.start < b.start + b.len && b.start < a.start + a.len
def Lock.clash (a b : Lock) : Bool := a.overlaps b && (a.excl || b.excl)

/-- Entries of the table that are taken. -/
def State.locksTaken (s : State) : Nat := s.nvme.inflight.foldl (fun n m => if m.taken then n + m.locks.length else n) 0

/-- No earlier lock in fetch order stands in the way. -/
def State.lockFits (s : State) (m : Cmd) : Bool :=
  s.nvme.inflight.all (fun k => m.seq ≤ k.seq || k.locks.all (fun j => m.locks.all (fun l => !l.clash j)))

/-- A read that overlaps no existing lock and finds every block in the journal (R561). -/
def State.journalHit (s : State) (m : Cmd) : Bool :=
  isReadOp m.e.opc && s.nvme.inflight.all (fun k => k.same m || !k.taken || k.locks.all (fun j => m.locks.all (fun l => !l.overlaps j))) &&
  (s.cmdBlocks m).all (fun g => match s.entry (s.mapIndex g) with
    | .journal _ => true
    | _ => false)

/-- Take lock entries and grant, as far as that goes now. -/
def State.lockStep (s : State) (m : Cmd) : State :=
  if m.granted then s
  else
    let take := m.taken || s.locksTaken + m.locks.length ≤ 8192
    if take then s.modCmd m (fun k => { k with taken := true, granted := s.lockFits m })
    else if s.journalHit m then s.modCmd m (fun k => { k with granted := true })
    else s

/-- The lock of `n` blocks from global block `g`. A writer's covers whole map units, since R445 rewrites them. -/
def State.lockOf (s : State) (g n : Nat) (excl : Bool) : Lock :=
  if excl then ⟨s.mapIndex g * s.gran, s.unitsOf g n * s.gran, true⟩ else ⟨g, n, false⟩

/-- The locks of a command (R560); `ranges` are those of Dataset Management, as LBA and length. -/
def State.locksOf (s : State) (e : SqEntry) (ranges : List (Nat × Nat)) : List Lock :=
  match s.namespace? e.nsid with
  | none => []
  | some n =>
    let lba := e.cdw10 + e.cdw11 * 2 ^ 32
    let k := e.cdw12 % 65536 + 1
    if isReadOp e.opc then [s.lockOf (s.lbaBlock n lba) k false]
    else if e.opc = 0x01 ∨ e.opc = 0x08 then [s.lockOf (s.lbaBlock n lba) k true]
    else if e.opc = 0x7D then [s.lockOf (s.lbaBlock n lba) (s.zcap (n.firstSet + lba / s.zoneSize n)) true]
    else if e.opc = 0x09 then (if natBit e.cdw11 2 then ranges.map (fun r => s.lockOf (n.base + r.1) r.2 true) else [])
    else []

/-! ### Order (R555, R556) -/

/-- `m` may start: not started, its locks granted, no Fence ahead, in an ordered queue nothing of the queue ahead, and for a media
command the device Active and VM without a hold (R98, R99, R110). -/
def State.mayStart (s : State) (m : Cmd) : Bool :=
  !m.started && m.granted && m.fault.isNone && s.unfenced m &&
  !s.behind m &&
  (!m.media || (s.pwState == pwActive && !s.power.mediaHold && !s.power.parking))

/-! ### Reservations (R548) -/

/-- `c` is a registrant of the namespace. -/
def Namespace.registered (n : Namespace) (c : Nat) : Bool := n.registrants.any (fun r => r.ctrl == c)

/-- `c` holds the reservation; with an all-registrants type every registrant does. -/
def Namespace.holds (n : Namespace) (c : Nat) : Bool := if n.rtype = 5 ∨ n.rtype = 6 then n.registered c else n.holder == c + 1

/-- A read or a write of controller `c` conflicts with the reservation: types 1 Write Exclusive, 2 Exclusive Access, 3 and 4 the
same for registrants only, 5 and 6 for all registrants. -/
def Namespace.conflict (n : Namespace) (c : Nat) (write : Bool) : Bool :=
  match n.rtype with
  | 1 => write && !n.holds c
  | 2 => !n.holds c
  | 3 => write && !n.registered c
  | 4 => !n.registered c
  | 5 => write && !n.registered c
  | 6 => !n.registered c
  | _ => false

/-- Opcodes that count as writes for a reservation: Flush, Write, Write Zeroes, Dataset Management, Zone Append, Zone Management
Send. -/
def resvWrite (opc : Nat) : Bool := opc == 0x00 || isWriteOp opc || opc == 0x79

def State.conflicts (s : State) (m : Cmd) : Bool :=
  (isReadOp m.e.opc || resvWrite m.e.opc) && (match s.namespace? m.e.nsid with
    | some n => n.conflict m.ctrl (resvWrite m.e.opc)
    | none => false)

/-- An I/O command of opcode `opc` starts with `f`, once it may; a reservation that stands against it ends it. A started one is not
started again; one that comes 8 s after a thermal shutdown completes with Namespace Not Ready (R615). -/
def State.ioStart (s : State) (c q cid opc : Nat) (f : State → Cmd → State) : State :=
  match s.cmd? c q cid with
  | none => s
  | some m =>
    if q = 0 || m.e.opc != opc then s
    else
      let s1 := s.lockStep m
      match s1.cmd? c q cid with
      | none => s1
      | some k =>
        if k.media && !k.started && k.granted && k.fault.isNone && s1.unfenced k && !s1.behind k && s1.thermalDown && decide (s1.thermal.shutTick + secTicks 8 ≤ s1.tick) then
          s1.complete k .notReady 0
        else if !s1.mayStart k then s1
        else if s1.conflicts k then s1.complete k .reservationConflict 0
        else f s1 k

/-- The command is under way. -/
def State.begin (s : State) (m : Cmd) : State := s.modCmd m (fun k => { k with started := true })

/-! ### Write groups (R445, R461) -/

/-- What stands in the way of building a write: a block that cannot be recovered, a journal page that cannot be read, a block that has
to be waited for, or the pages. -/
inductive Units where
  | pages (ps : List (List Byte))
  | bad
  | hurt
  | wait (lost : List Nat)
  deriving DecidableEq, Repr

/-- The pages of every unit that `data`, blocks from `g`, touches; blocks not covered come from where they are now. -/
def State.wholeUnits (s : State) (g : Nat) (data : List (List Byte)) : Units :=
  let lo := s.mapIndex g * s.gran
  let all := List.range' lo (s.unitsOf g data.length * s.gran)
  let others := all.filter (fun b => b < g || g + data.length ≤ b)
  let r := s.blocks? others
  if r.bad then .bad
  else if r.hurt then .hurt
  else if r.lost != [] || r.away != [] then .wait r.lost
  else .pages (all.map (fun b =>
    if g ≤ b && b < g + data.length then (data[b - g]?).getD [] else slice r.data (4096 * ((others.findIdx? (· == b)).getD 0)) 4096))

/-- Blocks of at most 512 each, with the first global block of each group (R461). -/
def chunks512 : Nat → Nat → List (List Byte) → List (Nat × List (List Byte))
  | 0, _, _ => []
  | k + 1, g, d => if d = [] then [] else (g, d.take 512) :: chunks512 k (g + 512) (d.drop 512)

/-- 4 KiB blocks of a byte string. -/
def blocksOf (n : Nat) (data : List Byte) : List (List Byte) := (List.range n).map (fun k => slice data (4096 * k) 4096)

/-- Queue the write groups of `n` blocks from global block `g`. The status that ends the command, if any, and whether it waits. -/
def State.queueGroups (s : State) (m : Cmd) (g : Nat) (zone : Option Nat) (data : List (List Byte)) (result : Nat) : State × Option NvStatus × Bool :=
  (chunks512 (data.length / 512 + 1) g data).foldl (fun (r : State × Option NvStatus × Bool) c =>
    if r.2.1.isSome || r.2.2 then r
    else match s.wholeUnits c.1 c.2 with
      | .bad => (s, some .unrecovered, false)
      | .hurt => (s, some .internalError, false)
      | .wait ps => (s.each ps (fun t p => t.wantRecon p none), none, true)
      | .pages ps =>
        (r.1.modMap (fun x => { x with groups := x.groups ++ [{ owner := some m.ref, gblk := c.1, nblk := c.2.length, nsid := m.e.nsid, zone := zone, data := ps, last := false, result := result }] }), none, false))
    (s, none, false)

/-- Something of command `r` is still on its way to the journal. -/
def State.ownsWork (s : State) (o : Option CmdRef) : Bool := s.map.groups.any (fun g => g.owner == o) || s.map.issue.any (fun l => l.owner == o)

/-- A line of a command is durable. When it was the last thing of the command on its way, the command is durable and completes: at once,
or, where a partner holds copies of its groups, with their ACKs (R519). `record` and `data` go to the partner for a write group. -/
def State.ownerStep (s : State) (l : JLine) (seq : Nat) (record data : List Byte) : State :=
  let last := l.owner.isSome && !s.ownsWork l.owner
  let s1 := s.modNvme (fun n => { n with inflight := n.inflight.map (fun k => if l.owner == some k.ref then { k with issued := true, durable := k.durable || last } else k) })
  match l.body with
  | .writeGroup .. => s1.pairGroup { l with last := last } seq record data
  | _ =>
    if !last then s1
    else if s1.pool.pairs.any (fun w => w.owner == l.owner) then
      s1.modPool (fun p => { p with pairs := p.pairs.map (fun w => if w.owner == l.owner then { w with last := true, result := l.result } else w) })
    else s1.finishWrite l.owner l.result

/-- Reads that meet blocks on an actuator that is away ask Tier P for them (R39). -/
def State.poolTry (s : State) (m : Cmd) : State :=
  if !m.started || m.waits != [] then s
  else s.each (s.cmdBlocks m) (fun u g => match u.block? g with
    | .away _ => (match u.entry (u.mapIndex g) with
      | .media p _ => u.poolRead p
      | _ => u)
    | _ => u)

/-- Queue the deallocation of `n` blocks from global block `g` for a command: whole map units by a deallocate line, a block that
shares its unit by a write of zeros through R445 (R554). -/
def State.queueDealloc (s : State) (m : Cmd) (g n : Nat) : State × Option NvStatus × Bool :=
  let u := s.gran
  let lo := (g + u - 1) / u * u
  let hi := (g + n) / u * u
  let zero : List (List Byte) := [zeros 4096]
  if n = 0 then (s, none, false)
  else
    let edges := (if g < lo then [g] else []) ++ (if hi < g + n && lo ≤ hi then [hi] else [])
    let r := edges.foldl (fun (r : State × Option NvStatus × Bool) b => if r.2.1.isSome || r.2.2 then r else r.1.queueGroups m b none zero 0) (s, none, false)
    if r.2.1.isSome || r.2.2 || hi ≤ lo then r
    else (r.1.jline ⟨.dealloc lo (hi - lo) 0, [], some m.ref, false, 0⟩, none, false)

/-! ### Zones (R455 to R458) -/

/-- The zone of an LBA and the offset in it. -/
def State.zoneOf (s : State) (n : Namespace) (lba : Nat) : Nat × Nat := (lba / s.zoneSize n, lba % s.zoneSize n)

/-- The write pointer with every write on its way counted in. -/
def State.zoneNext (s : State) (nsid : Nat) (n : Namespace) (z : Nat) : Nat :=
  let base := n.base + s.zoneBase n z
  let a := s.map.groups.foldl (fun m g => if g.nsid == nsid && g.zone == some z then Nat.max m (g.gblk + g.nblk - base) else m) (s.zone nsid z).wp
  s.map.issue.foldl (fun m l => match l.body with
    | .writeGroup g k ns _ zz => if ns == nsid && zz == z then Nat.max m (g + k - base) else m
    | _ => m) a

/-- Queue a zone record; the state takes effect in the tables when the record is written, and here at once for the checks of later
commands. -/
def State.zoneRecord (s : State) (o : Option CmdRef) (nsid z zs wp : Nat) : State :=
  (s.setZone nsid z ⟨zs, wp⟩).jline ⟨.zone nsid zs z wp, [], o, false, 0⟩

/-- A host event that changes a zone is noted for log page 0xBF where the device does it itself. -/
def State.zoneChanged (s : State) (nsid z : Nat) : State :=
  (s.modNvme (fun n => { n with changedZones := if n.changedZones.contains (nsid, z) then n.changedZones else n.changedZones ++ [(nsid, z)] })).aerZone

/-- What is wrong with a write of `k` blocks to zone `z` at offset `o`. -/
def State.zoneFault (s : State) (nsid : Nat) (n : Namespace) (z o k : Nat) : Option NvStatus :=
  let x := s.zone nsid z
  if x.zstate = zsFull ∨ s.zoneNext nsid n z = s.zcap (n.firstSet + z) then some .zoneFull
  else if s.zcap (n.firstSet + z) < o + k then some .zoneBoundary
  else if o != s.zoneNext nsid n z then some .zoneInvalidWrite
  else if x.zstate = zsEmpty ∧ 16 ≤ s.zoneCount nsid zoneActive then some .tooManyActive
  else none

/-- The zone is open for writing: an Empty or Closed one is opened implicitly. -/
def State.zoneWritten (s : State) (nsid z : Nat) : State :=
  let x := s.zone nsid z
  if x.zstate = zsEmpty ∨ x.zstate = zsClosed then s.zoneRecord none nsid z zsImplicit x.wp else s

/-- A zone whose old bands are not released yet takes no write (R458). -/
def State.zoneBusy (s : State) (nsid : Nat) (n : Namespace) (z : Nat) : Bool :=
  (s.zone nsid z).zstate == zsEmpty && (s.bandSet (n.firstSet + z)).st != .empty

/-- A zone's band lies on an actuator whose domain is not Serving (R40): that actuator. -/
def State.zoneAway (s : State) (n : Namespace) (z : Nat) : Option Act :=
  [Act.A, .B].find? (fun a => !s.isServing (domOfAct a) && (s.bandSet (n.firstSet + z)).cols.any (fun sf => surfAct sf == a))

/-- No band set that can take the frames of a drive-managed write is open, and none may be opened (R568). -/
def State.noWriteSet (s : State) (zone : Option Nat) : Bool :=
  s.bit PX_STAT.NOWRITE && (match zone with
    | some k => !s.setUsable (s.bandSet k)
    | none => !(s.driveSets.any (fun k => (s.bandSet k).use == 0 && s.setUsable (s.bandSet k))))

end Sys2Proof.Machine
end

