-- ==== Sys2Proof/Machine/Domains.lean ====
section
/-! DEFINITION. The commands of the serviceable domains (R28 to R40, R694, R695). -/
namespace Sys2Proof.Machine

/-- What follows any change of a domain: reads held for an away actuator try Tier P (R39), and a deferred power-state request that
waited for a domain apply goes on (R136). -/
def State.domSettle (s : State) : State :=
  let s1 := s.each (s.nvme.inflight.filter (fun m => isReadOp m.e.opc)) State.poolTry
  s1.deferredPump

/-- Opcode 0x0B with ACTION `k`: `f` acts on the domain named (R34). -/
def State.domRequest (s : State) (r tag k : Nat) (f : State → Dom → State) : State :=
  match s.desc? r tag with
  | none => s
  | some e =>
    if e.p 1 1 != k then s
    else s.ringStart r tag 0x0B (fun t d => match domOfCode (d.p 0 1) with
      | some x => f t x
      | none => t)

/-- A take-down; DE's is carried out as a restart (R29). -/
def execDomainTakeDown (ring tag : Nat) (s : State) : Host.Outcome State Fault Refusal :=
  .next (s.whileLive (fun s => s.domRequest ring tag 0 (fun t d => (t.askTakeDown d (.ring ring tag)).domSettle)))

/-- A restore; DE's ends the hold of R663. -/
def execDomainRestore (ring tag : Nat) (s : State) : Host.Outcome State Fault Refusal :=
  .next (s.whileLive (fun s => s.domRequest ring tag 1 (fun t d => (t.askRestore d (.ring ring tag)).domSettle)))

/-- A domain fault with a cause code of R662 that no other command of this model raises by itself. -/
def execDomainFault (d : Dom) (cause : Nat) (s : State) : Host.Outcome State Fault Refusal :=
  .next (s.whileLive (fun s => State.standbyStep ((s.domainFault d cause).domSettle)))

def execQuiesceWorkFinished (d : Dom) (s : State) : Host.Outcome State Fault Refusal := .next (s.whileLive (fun s => (s.workDone d).domSettle))

def execQuiesceTimeout (d : Dom) (s : State) : Host.Outcome State Fault Refusal := .next (s.whileLive (fun s => (s.quiesceOut d).domSettle))

def execRestoreComplete (d : Dom) (s : State) : Host.Outcome State Fault Refusal := .next (s.whileLive (fun s => (s.restoreDone d).domSettle))

def execRestoreTimeout (d : Dom) (s : State) : Host.Outcome State Fault Refusal := .next (s.whileLive (fun s => (s.restoreOut d).domSettle))

def execHeldRestoreStart (d : Dom) (s : State) : Host.Outcome State Fault Refusal := .next (s.whileLive (fun s => s.heldLoad d))

/-- A write that R40 holds for actuator `a`. -/
def State.heldWrite (s : State) (a : Act) (m : Cmd) : Bool :=
  m.sq != 0 && (m.e.opc == 0x01 || m.e.opc == 0x7D) && !m.started && m.fault.isNone && (match s.namespace? m.e.nsid with
    | some n => n.zoned && s.zoneAway n (m.slba / s.zoneSize n) == some a
    | none => false)

/-- The 8 s of R39 are over for actuator `a`: what still waits for its surfaces completes with Namespace Not Ready; in a thermal shutdown
every media command held does (R615). -/
def State.holdExpiry (s : State) (a : Act) : State :=
  let s1 := s.when s.thermalDown (fun u => u.each (u.nvme.inflight.filter (fun m => m.media && !m.started && m.fault.isNone)) (fun t m =>
    match t.cmd? m.ctrl m.sq m.e.cid with
    | some k => t.complete k .notReady 0
    | none => t))
  if !s1.actAway a then s1
  else s1.each s1.nvme.inflight (fun t m =>
    match t.cmd? m.ctrl m.sq m.e.cid with
    | none => t
    | some k =>
      if isReadOp k.e.opc && k.started && k.waits == [] && (t.blocks? (t.cmdBlocks k)).away.contains a then t.complete k .notReady 0
      else if t.heldWrite a k then t.complete k .notReady 0
      else t)

def execMediaHoldExpiry (a : Act) (s : State) : Host.Outcome State Fault Refusal := .next (s.whileLive (fun s => State.standbyStep ((s.holdExpiry a))))

/-! ### Safe points (R151 to R153) -/

/-- The helper halts: a lane sequencer's later frames are aborted, a scheduler's unfinished frames go back to the ladder, and a
spare takes the role it is owed (R159, R168). -/
def State.heDrained (s : State) (h : Nat) : State :=
  let r := s.role h
  let s1 := s.heHalt h
  let s2 := if r = 0x01 then s1.laneOff (s1.roleParam h) else if r = 0x0B then s1.reenter h else s1
  (s2.schedSync).reRole h

/-- A drain is over: the helper halts at its next safe point, at once where it stands at one (R153). -/
def State.heHaltAsk (s : State) (h : Nat) : State :=
  if (s.helper h).count = 0 then s.heDrained h else s.modHelper h (fun x => { x with haltReq := true })

/-- A safe point (R151): the watchdog's check comes first, a fault going before a stop (R156). Then pending events are taken and the
count starts anew (R152), a signalled swap is made, and a stop or a halt that waited takes effect. -/
def State.safePoint (s : State) (h : Nat) : State :=
  let x := s.helper h
  if x.watchdog then (s.faultHelper h 5 x.space x.pc).domSettle.standbyStep
  else
    let s1 := s.modHelper h (fun y => { y with events := [], count := 0, spDue := false })
    let s2 := s1.when x.swapReq (fun t => State.swapGo 14 (t.heSwap h))
    (s2.when x.stopReq (fun t => t.heStopNow h)).when x.haltReq (fun t => t.heDrained h)

/-- The safe points of microwords whose accesses are complete by now. -/
def State.safeDue (s : State) : State :=
  s.each helpers24 (fun t h => if (t.helper h).spDue && !(t.helper h).blocked then t.safePoint h else t)

/-- What ends a command that used the memories: a DC fault of the cache, and the safe points it has let come. -/
def State.memSettle (s : State) : State := s.cacheFault.safeDue

end Sys2Proof.Machine
end

