-- ==== Sys2Proof/Machine/Nvme.lean ====
section
/-! DEFINITION. NVMe controllers, doorbells, fetching and the timers of the host interface (R534 to R546, R558 to R567). -/
namespace Sys2Proof.Machine

/-! ### Controllers (R534, R539 to R541) -/

/-- The map is rebuilt: media commands are served. -/
def State.mapReady (s : State) : Bool := s.fld MP_STAT.STATE == 4

/-- Namespace Attribute Changed for every namespace attached to controller `c` (R539). -/
def State.noticeAll (s : State) (c : Nat) : State :=
  let k := s.ctrl c
  if k.attached = [] then s
  else
    let s1 := s.modCtrl c (fun x => { x with changedNs := x.changedNs ++ x.attached.filter (fun i => !x.changedNs.contains i) })
    if natBit (s1.feature c 0x0B 0) 8 then s1.aerOn c 2 0x00 0x04 else s1

/-- CC.EN is set, with CC.CRIME, CC.AMS for weighted round robin, and the sizes of the admin queues of AQA. Host software has enabled
bus mastering before. -/
def State.ctrlEnable (s : State) (c : Nat) (crime wrr : Bool) (asq acq : Nat) : State :=
  if !s.hasCtrl c || !(s.ctrl c).linkUp || (s.ctrl c).en then s
  else
    let sq : SubQ := { size := asq + 1, head := 0, tail := 0, cq := 0, prio := 0, ordered := false, draining := false }
    let cq : ComQ := { size := acq + 1, head := 0, tail := 0, phase := true, vector := 0, irq := true, held := [], coal := 0 }
    ((s.modCtrl c (fun k => { k with en := true, crime := crime, wrr := wrr, busMaster := true, stopped := false })).putSq c 0 (some sq)).putCq c 0 (some cq)

def execControllerEnable (ctrl : Nat) (crime wrr : Bool) (asq acq : Nat) (s : State) : Host.Outcome State Fault Refusal :=
  .next (s.whileLive (fun s => s.ctrlEnable ctrl crime wrr asq acq))

/-- CSTS.RDY is set: with CRIME 0 once the map is rebuilt, else, and in Base-note mode, at once (R539, R668). -/
def State.ctrlReady (s : State) (c : Nat) : State :=
  let k := s.ctrl c
  if !k.en || k.rdy || !(k.crime || s.mapReady || s.bit FB_STAT.BASENOTE) then s
  else
    let s1 := s.modCtrl c (fun x => { x with rdy := true })
    if s.mapReady then s1.noticeAll c else s1

def execControllerReady (ctrl : Nat) (s : State) : Host.Outcome State Fault Refusal := .next (s.whileLive (fun s => s.ctrlReady ctrl))

/-- A controller reset of the kind given (R540). -/
def State.ctrlResetBy (s : State) (c : Nat) (k : ResetKind) : State :=
  match k with
  | .en => s.whileLive (fun t => if t.hasCtrl c && (t.ctrl c).en then t.ctrlReset c else t)
  | .flr => s.whileLive (fun t => t.when (t.hasCtrl c) (fun u => u.functionReset c))
  | .perst => if c < 2 then (s.whileLive (fun t => t.when (t.hasCtrl c) (fun u => u.linkDown c))).modCtrl c (fun x => { x with perst := false }) else s
  | .link => s.whileLive (fun t => t.when (t.hasCtrl c) (fun u => u.linkDown c))

def execControllerReset (ctrl : Nat) (kind : ResetKind) (s : State) : Host.Outcome State Fault Refusal := .next (State.standbyStep ((s.ctrlResetBy ctrl kind)))

/-! ### Withholding a command's effects (R565) -/

/-- A command's write-group line has been issued: the line at the front is its own, or one before it has completed. -/
def State.lineIssued (s : State) (m : Cmd) : Bool :=
  m.issued || m.durable || (match s.map.issue with
    | l :: _ => l.owner == some m.ref
    | [] => false)

/-- Take back what a command has on its way: groups, lines not issued, waits for frames, which are then recovered for none. -/
def State.withdraw (s : State) (m : Cmd) : State :=
  let o := some m.ref
  let s1 := s.modMap (fun x => { x with groups := x.groups.filter (fun g => g.owner != o), issue := x.issue.take 1 ++ (x.issue.drop 1).filter (fun l => l.owner != o) })
  s1.modTier (fun t => { t with recons := t.recons.map (fun r => if r.owner == o then { r with owner := none } else r) })

/-- End what remains of some commands with a status; a durable write completes normally, one whose line is under way goes on. -/
def State.endCmds (s : State) (p : Cmd → Bool) (st : NvStatus) : State :=
  s.each (s.nvme.inflight.filter p) (fun t m =>
    match t.cmd? m.ctrl m.sq m.e.cid with
    | none => t
    | some k =>
      if k.durable then t.finish k .ok 0
      else if isWriteOp k.e.opc && t.lineIssued k then t
      else (t.withdraw k).finish k st 0)

/-- CC.SHN requests a shutdown (R541): fetching stops; durable writes complete, the rest of what is outstanding is abandoned and its
completions are posted. -/
def State.ctrlShutdown (s : State) (c shn : Nat) : State :=
  if !(s.ctrl c).en || shn = 0 || 2 < shn then s
  else
    let s1 := (s.modCtrl c (fun k => { k with shn := shn, stopped := true, aers := [] })).endCmds (fun m => m.ctrl == c) .abortRequested
    (s1.modCtrl c (fun k => { k with shst := 1 })).shutSettle c

def execControllerShutdown (ctrl shn : Nat) (s : State) : Host.Outcome State Fault Refusal := .next (s.whileLive (fun s => (s.ctrlShutdown ctrl shn).standbyStep))

/-- PERST_L of a port rises: the link trains where the device runs (R683), in Hibernate the device wakes (R109). -/
def State.perstRise (s : State) (c : Nat) : State :=
  if 2 ≤ c then s
  else ((s.modCtrl c (fun k => { k with perst := true })).whileLive State.trainLinks).wakeHibernate

def execPerstRise (ctrl : Nat) (s : State) : Host.Outcome State Fault Refusal := .next (s.perstRise ctrl)

/-! ### Doorbells (R544, R545) -/

/-- A submission-queue tail doorbell. A value out of range and a queue that does not exist raise the error events of the NVMe base
specification. -/
def State.sqDoorbell (s : State) (c q tail : Nat) : State :=
  if !(s.ctrl c).en then s
  else match s.sq c q with
    | none => s.aerOn c 0 0x00 0x01
    | some x => if x.size ≤ tail then s.aerOn c 0 0x01 0x01 else s.putSq c q (some { x with tail := tail })

def execSqDoorbell (ctrl sq tail : Nat) (s : State) : Host.Outcome State Fault Refusal := .next (s.whileLive (fun s => s.sqDoorbell ctrl sq tail))

/-- A completion-queue head doorbell: held completions are posted, and what waited for their entries goes on. -/
def State.cqDoorbell (s : State) (c q head : Nat) : State :=
  if !(s.ctrl c).en then s
  else match s.cq c q with
    | none => s.aerOn c 0 0x00 0x01
    | some x =>
      if x.size ≤ head then s.aerOn c 0 0x01 0x01
      else
        let s1 := State.drainHeld (x.held.length) (s.putCq c q (some { x with head := head })) c q
        (State.pumpDue s1.nvme.inflight.length s1).drainPump

def execCqHeadDoorbell (ctrl cq head : Nat) (s : State) : Host.Outcome State Fault Refusal := .next (s.whileLive (fun s => s.cqDoorbell ctrl cq head))

/-! ### Checks at the fetch (R547, R548, R550, R568) -/

/-- NN of Identify Controller (R549). -/
def State.nn (s : State) : Nat := if s.featPool then 15 else 16

/-- What is wrong with an NSID for a command of controller `c` (NVMe base specification). -/
def State.nsFault (s : State) (c nsid : Nat) : Option NvStatus :=
  if nsid = 0 || s.nn < nsid then some .invalidNs
  else match s.namespace? nsid with
    | none => some .invalidField
    | some n =>
      if n.draining || s.nvme.drains.any (fun d => d.ctrl == c && d.id == nsid && d.kind == drDetach) then some .nsGone
      else if !(s.ctrl c).attached.contains nsid then some .invalidField
      else none

/-- Blocks of a namespace: NSZE. -/
def State.nsze (s : State) (n : Namespace) : Nat := if n.zoned then n.nsets * s.zoneSize n else n.size

/-- Opcodes of the I/O command sets, and those of one set only. -/
def ioOpcodes : List Nat := [0x00, 0x01, 0x02, 0x05, 0x08, 0x09, 0x0C, 0x0D, 0x0E, 0x11, 0x15, 0x79, 0x7A, 0x7D, 0x81]
def nvmOnly : List Nat := [0x05, 0x08, 0x09]
def znsOnly : List Nat := [0x79, 0x7A, 0x7D]

/-- A block command's range: beyond NSZE, over MDTS or ZASL, across a zone boundary. -/
def State.rangeFault (s : State) (n : Namespace) (e : SqEntry) (ranges : List (Nat × Nat)) : Option NvStatus :=
  let lba := e.cdw10 + e.cdw11 * 2 ^ 32
  let k := e.cdw12 % 65536 + 1
  let zs := s.zoneSize n
  if e.opc = 0x09 then
    (if natBit e.cdw11 2 && ranges.any (fun r => decide (s.nsze n < r.1 + r.2)) then some .lbaRange else none)
  else if isReadOp e.opc ∨ e.opc = 0x01 ∨ e.opc = 0x08 ∨ e.opc = 0x7D then
    if s.nsze n < lba + (if e.opc = 0x7D then 1 else k) then some .lbaRange
    else if (e.opc = 0x01 ∨ e.opc = 0x02 ∨ e.opc = 0x05) ∧ 2048 < k then some .invalidField
    else if e.opc = 0x7D ∧ (512 < k ∨ lba % zs != 0) then some .invalidField
    else if n.zoned ∧ e.opc != 0x7D ∧ lba / zs != (lba + k - 1) / zs then some .zoneBoundary
    else none
  else none

/-- What the fetch finds wrong with an I/O command. -/
def State.ioFault (s : State) (c : Nat) (e : SqEntry) (ranges : List (Nat × Nat)) : Option NvStatus :=
  if !ioOpcodes.contains e.opc then some .invalidOpcode
  else if e.flags % 4 != 0 || e.flags / 64 == 3 || (e.opc == 0x81 && e.flags != 0) then some .invalidField
  else if e.opc = 0x81 then
    if e.nsid = 0 then some .invalidNs
    else if e.cdw2 != 0 || e.dptr != 0 || decide (4 ≤ e.cdw10) || e.cdw11 != 0 || e.cdw12 != 0 || e.cdw13 != 0 || e.cdw14 != 0 || e.cdw15 != 0 then some .invalidField
    else if e.nsid = 0xFFFFFFFF then none
    else s.nsFault c e.nsid
  else if e.opc = 0x00 ∧ e.nsid = 0xFFFFFFFF then none
  else match s.nsFault c e.nsid with
    | some st => some st
    | none => match s.namespace? e.nsid with
      | none => some .invalidField
      | some n =>
        if (n.zoned && nvmOnly.contains e.opc) || (!n.zoned && znsOnly.contains e.opc) then some .invalidOpcode
        else if e.opc = 0x79 ∧ (e.cdw13 % 256 = 0 ∨ 4 < e.cdw13 % 256) then some .invalidField
        else if e.opc = 0x7A ∧ e.cdw13 % 256 != 0 then some .invalidField
        else s.rangeFault n e ranges

def adminOpcodes : List Nat := [0x00, 0x01, 0x02, 0x04, 0x05, 0x06, 0x08, 0x09, 0x0A, 0x0C, 0x0D, 0x10, 0x11, 0x14, 0x15, 0x80, 0x81, 0x82]

/-- Feature identifiers of R550. -/
def featureIds : List Nat := [0x01, 0x02, 0x04, 0x05, 0x07, 0x08, 0x09, 0x0A, 0x0B, 0x0E, 0x81, 0x82, 0xC0, 0xC1]

/-- Feature Identifier Not Saveable (NVMe base specification). -/
def NvStatus.notSaveable : NvStatus := .specific 0x0D

/-- What the fetch finds wrong with an admin command: the opcode, and selections that no row of R547 serves. -/
def adminFault (e : SqEntry) : Option NvStatus :=
  let sel := e.cdw10 % 16
  if !adminOpcodes.contains e.opc then some .invalidOpcode
  else if e.flags % 4 != 0 then some .invalidField
  else if e.opc = 0x09 then
    (if !featureIds.contains (e.cdw10 % 256) then some .invalidField else if natBit e.cdw10 31 then some .notSaveable else none)
  else if (e.opc = 0x0D ∨ e.opc = 0x15) ∧ 1 < sel then some .invalidField
  else if e.opc = 0x10 ∧ 3 < natBits e.cdw10 3 3 then some .invalidField
  else if e.opc = 0x14 ∧ !(sel == 1 || sel == 2 || sel == 0xF) then some .invalidField
  else if e.opc = 0x81 ∨ e.opc = 0x82 then
    let p := natBits e.cdw10 24 8
    let sp := natBits e.cdw10 8 16
    if p = 0xE8 ∨ (p = 0xF0 ∧ sp = 0) ∨ (p = 0x00 ∧ sp = 0 ∧ e.opc = 0x82) then none else some .invalidField
  else none

/-- Admin commands that Base-note mode serves (R667). -/
def baseNoteAdmin (opc : Nat) : Bool := opc == 0x06 || opc == 0x02 || opc == 0x10 || opc == 0x11

/-! ### Fetching (R543, R544, R545) -/

/-- The completion queue bound to a submission queue has room and holds nothing (R545). -/
def State.cqOpen (s : State) (c : Nat) (x : SubQ) : Bool :=
  match s.cq c x.cq with
  | some q => !q.full && q.held == []
  | none => false

/-- At the limit of R543 no I/O queue is fetched from. -/
def State.atLimit (s : State) : Bool := decide (131072 ≤ s.nvme.inflight.length)

/-- The submission queues of controller `c` in which a command waits to be fetched, ascending, with their priority classes. -/
def State.waitingSqs (s : State) (c : Nat) : List (Nat × Nat) :=
  (s.ctrl c).sqs.filterMap (fun y => match y.2 with
    | some z => if z.head != z.tail && !z.draining && s.cqOpen c z && (y.1 == 0 || !s.atLimit) then some (y.1, z.prio) else none
    | none => none)

/-- Round robin: the queue served last while its burst lasts, else the next one in cyclic order. -/
def roundRobin (t : Nat × Nat) (qs : List Nat) : Option Nat :=
  if t.2 != 0 && qs.contains t.1 then some t.1
  else match qs.find? (fun q => decide (t.1 < q)) with
    | some q => some q
    | none => qs.head?

/-- The class of the weighted three that is served next, of those in which commands wait: the one in turn while its weight lasts, else the
next in the order high, medium, low. -/
def Arb.nextClass (a : Arb) (waiting : List Nat) : Option Nat :=
  if a.credit != 0 && waiting.contains a.cls then some a.cls
  else match waiting.find? (fun k => decide (a.cls < k)) with
    | some k => some k
    | none => waiting.head?

/-- The class and the queue that the arbiter of controller `c` serves next (R544): round robin over all queues; under weighted round robin
the admin queue, then the urgent class, then the other three by their weights. -/
def State.arbPick (s : State) (c : Nat) : Option (Nat × Nat) :=
  let a := (s.ctrl c).arb
  let w := s.waitingSqs c
  let pick := fun (k : Nat) (qs : List Nat) => (roundRobin ((a.turns[k]?).getD (0, 0)) qs).map (fun q => (k, q))
  let inCls := fun (k : Nat) => (w.filter (fun x => x.2 == k)).map (fun x => x.1)
  if !(s.ctrl c).wrr then pick 0 (w.map (fun x => x.1))
  else if w.any (fun x => x.1 == 0) then some (0, 0)
  else if inCls 0 != [] then pick 0 (inCls 0)
  else match a.nextClass ([1, 2, 3].filter (fun k => inCls k != [])) with
    | some k => pick k (inCls k)
    | none => none

/-- The arbitration burst: 64 commands, or as the Arbitration feature sets it; its value 7 is no limit (R544, R550). -/
def State.arbBurst (s : State) (c : Nat) : Nat :=
  let v := s.feature c 0x01 0
  if v = 0 then 64 else if (v - 1) % 8 = 7 then 131072 else 2 ^ ((v - 1) % 8)

/-- The commands of class 1, 2 or 3 that are served in turn: HPW, MPW, LPW of the Arbitration feature, 0-based. -/
def State.arbWeight (s : State) (c k : Nat) : Nat := (s.feature c 0x01 0 - 1) / 2 ^ (8 * (4 - k)) % 256 + 1

/-- The arbiter has served queue `q` of class `k`; the admin queue of weighted round robin has no turn. -/
def State.arbServed (s : State) (c k q : Nat) : State :=
  let burst := s.arbBurst c
  let weight := s.arbWeight c k
  if (s.ctrl c).wrr && q == 0 then s
  else s.modCtrl c (fun x =>
    let t := (x.arb.turns[k]?).getD (0, 0)
    let left := if t.1 = q ∧ t.2 != 0 then t.2 - 1 else burst - 1
    let a : Arb := { x.arb with turns := x.arb.turns.set k (q, left) }
    { x with arb := if k = 0 then a else { a with cls := k, credit := if a.cls = k ∧ a.credit != 0 then a.credit - 1 else weight - 1 } })

/-- The command at the head of the queue may be fetched now: the queue is the one whose turn it is, but that the device fetches around the
write commands that a full journal holds back (R464, R544). -/
def State.mayFetch (s : State) (c q : Nat) (e : SqEntry) (x : SubQ) : Bool :=
  let k := s.ctrl c
  k.en && k.busMaster && !k.stopped && !x.draining && x.head != x.tail && s.cqOpen c x && (q == 0 || (!s.atLimit && !(s.bit MP_STAT.JFULL && isWriteOp e.opc))) &&
  (s.bit MP_STAT.JFULL || (s.arbPick c).any (fun p => p.2 == q))

/-- The entry's command as it goes in flight. -/
def State.newCmd (s : State) (c q : Nat) (e : SqEntry) (ranges : List (Nat × Nat)) (fault : Option NvStatus) : Cmd :=
  { ctrl := c, sq := q, e := e, seq := s.nvme.nextSeq, fetchTick := s.tick,
    locks := if q = 0 ∨ fault.isSome then [] else s.locksOf e ranges, taken := false, granted := q == 0, fault := fault,
    earlier := if q != 0 ∧ e.opc = 0x81 then
      Nat.min 0xFFFFFFFF (s.nvme.fences.foldl (fun n f => if f.ctrl == c && (natBit e.cdw10 0 || f.sq == q) && (e.nsid == 0xFFFFFFFF || f.nsid == e.nsid) then n + f.n else n) 0)
      else 0,
    started := false, durable := false, issued := false, transfer := e.opc % 4 != 0 && e.opc != 0x81, ready := none, waits := [], data := [] }

/-- A fetched I/O command is counted for later Fences (R556). -/
def State.fenceCount (s : State) (c q nsid : Nat) : State :=
  let mine := fun (f : FenceCount) => f.ctrl == c && f.sq == q && f.nsid == nsid
  let l := if s.nvme.fences.any mine then s.nvme.fences.map (fun f => if mine f then { f with n := f.n + 1 } else f) else s.nvme.fences ++ [⟨c, q, nsid, 1, false⟩]
  s.modNvme (fun n => { n with fences := l })

/-- The check that ends a fetched command, if one does: a mark to abort it (R565), Base-note mode (R666, R667), the command's own
fields, the map not being rebuilt yet (R539). -/
def State.fetchStatus (s : State) (c q : Nat) (e : SqEntry) (ranges : List (Nat × Nat)) : Option NvStatus :=
  if (s.ctrl c).abortMarks.contains (q, e.cid) then some .abortRequested
  else if s.bit FB_STAT.BASENOTE && (q != 0 || !baseNoteAdmin e.opc) then some .notPermitted
  else if q = 0 then adminFault e
  else match s.ioFault c e ranges with
    | some st => some st
    | none => if !s.mapReady && (s.newCmd c q e ranges none).media then some .rebuilding else none

/-- The device fetches the command at the head of a submission queue; `e` is the entry in host memory and `ranges` what a Dataset
Management names. A media command wakes the device (R110); a short self-test's or patrol's work gives way to it. -/
def State.commandFetch (s : State) (c q : Nat) (e : SqEntry) (ranges : List (Nat × Nat)) : State :=
  match s.sq c q with
  | none => s
  | some x =>
    if !s.mayFetch c q e x then s
    else
      let st := s.fetchStatus c q e ranges
      let m := s.newCmd c q e ranges st
      let k := match s.arbPick c with
        | some p => if p.2 = q then p.1 else if (s.ctrl c).wrr then x.prio else 0
        | none => 0
      let s1 := ((s.arbServed c k q).putSq c q (some { x with head := (x.head + 1) % x.size })).modNvme (fun n => { n with inflight := n.inflight ++ [m], nextSeq := n.nextSeq + 1 })
      let s2 := (s1.when (q != 0) (fun t => t.fenceCount c q e.nsid)).modCtrl c (fun k => { k with abortMarks := k.abortMarks.filter (fun y => y != (q, e.cid)) })
      match st with
      | some r => if s2.unfenced m then s2.complete m r 0 else s2
      | none => if q = 0 then s2 else (s2.lockStep m).when m.media State.mediaWake

def execCommandFetch (ctrl sq : Nat) (e : SqEntry) (ranges : List (Nat × Nat)) (s : State) : Host.Outcome State Fault Refusal :=
  .next (s.whileLive (fun s => State.standbyStep ((s.commandFetch ctrl sq e ranges))))

/-- A waiting range lock is granted. -/
def State.rangeGrant (s : State) (c q cid : Nat) : State :=
  match s.cmd? c q cid with
  | some m => if q = 0 || m.fault.isSome then s else s.lockStep m
  | none => s

def execRangeLockGrant (ctrl sq cid : Nat) (s : State) : Host.Outcome State Fault Refusal := .next (s.whileLive (fun s => State.standbyStep ((s.rangeGrant ctrl sq cid))))

/-! ### Timers -/

/-- The aggregation time of a vector is over (R546). -/
def State.coalesceOut (s : State) (c v : Nat) : State :=
  let due := fun (q : Option ComQ) => match q with
    | some x => x.vector == v && x.coal != 0
    | none => false
  if !(s.ctrl c).cqs.any (fun y => due y.2) then s
  else (s.modCtrl c (fun k => { k with cqs := SMap.mapAll (fun _ => none) k.cqs (fun _ y => if due y then y.map (fun x => { x with coal := 0 }) else y) })).msix c v

def execInterruptCoalesceTimer (ctrl vector : Nat) (s : State) : Host.Outcome State Fault Refusal := .next (s.whileLive (fun s => s.coalesceOut ctrl vector))

/-- TLER x 100 ms have passed for a reading command (R567); recovery goes on. -/
def State.tlerExpiry (s : State) (c q cid : Nat) : State :=
  match s.cmd? c q cid with
  | none => s
  | some m =>
    if q = 0 || !isReadOp m.e.opc || s.feature c 0x05 0 % 65536 == 0 || m.fault.isSome || m.ready.isSome then s
    else (s.withdraw m).complete m .unrecovered 0

def execTlerExpiry (ctrl sq cid : Nat) (s : State) : Host.Outcome State Fault Refusal := .next (s.whileLive (fun s => (s.tlerExpiry ctrl sq cid).standbyStep))

/-- The 1 s of a drain is over (R563): what remains of its commands is completed, and its object goes. With Bus Master Enable cleared
nothing can be completed, and CSTS.CFS is set. -/
def State.drainTimeout (s : State) (c id kind : Nat) : State :=
  match s.nvme.drains.find? (fun d => d.ctrl == c && d.id == id && d.kind == kind) with
  | none => s
  | some d =>
    if kind = drBme then
      let s1 := s.modNvme (fun n => { n with drains := n.drains.filter (fun x => x != d) })
      if s.nvme.inflight.any (fun m => m.inDrain d) then s1.modCtrl c (fun k => { k with cfs := true, bmeDrain := false }) else s1.modCtrl c (fun k => { k with bmeDrain := false })
    else s.endCmds (fun m => m.inDrain d) (if kind = drSq then .sqDeleted else .nsGone) |>.drainPump

def execDeletionDrainTimeout (ctrl id kind : Nat) (s : State) : Host.Outcome State Fault Refusal := .next (s.whileLive (fun s => (s.drainTimeout ctrl id kind).standbyStep))

/-- Bus Master Enable is cleared (R563): nothing more is fetched, and the drain of 1 s begins. -/
def State.busMasterOff (s : State) (c : Nat) : State :=
  if !(s.ctrl c).busMaster then s
  else (s.modCtrl c (fun k => { k with busMaster := false, bmeDrain := true })).modNvme (fun n => { n with drains := n.drains ++ [⟨c, 0, drBme, c, 0⟩] })

def execBusMasterDisable (ctrl : Nat) (s : State) : Host.Outcome State Fault Refusal := .next (s.whileLive (fun s => State.standbyStep ((s.busMasterOff ctrl))))

/-! ### L2 (R558) -/

def execPcieL2Entered (s : State) : Host.Outcome State Fault Refusal := .next (s.whileLive (fun s => s.enterHibernate))

/-- L2 is not reached within 10 s: Standby stays, and Power Management reports PS 1. -/
def State.l2Timeout (s : State) : State :=
  if !s.power.hibernatePending || s.pwState != pwStandby then s
  else (s.modPower (fun p => { p with hibernatePending := false })).each [0, 1] (fun t c => if (t.ctrl c).en then t.setFeature c 0x02 0 1 else t)

def execL2Timeout (s : State) : Host.Outcome State Fault Refusal := .next (s.whileLive (fun s => s.l2Timeout))

end Sys2Proof.Machine
end

