-- ==== Sys2Proof/Machine/MapRows.lean ====
section
/-! DEFINITION. The commands of the page map and the write journal (R446 to R472): placement, record lines, cleaning, checkpoints and
the rebuild of the map. -/
namespace Sys2Proof.Machine

/-! ### Placement (R446 to R448, R457, R477 to R482) -/

/-- While both actuators serve, an open interim band set takes no more frames: what is left of it is passed, a stripe of it that
still lacks data is dead, and cleaning rewrites it (R38, R477, R484). -/
def State.closeInterim (s : State) : State :=
  if !s.bothServing then s
  else s.each (s.map.bandsets.filter (fun x => x.2.st == .open && (x.2.cols.all (· < 16) || x.2.cols.all (16 ≤ ·)))) (fun t x =>
    let open' := t.tier.stripes.filter (fun y => y.bs == x.1 && !t.dataFixed y)
    let t1 := t.each open' (fun u y => u.killStripe y.bs y.st 3)
    (t1.modBandSet x.1 (fun b => { b with st := .full })).bandRecords x.1 2)

/-- The TAG of a user-data frame (R439): G0 of slot 0 and the offsets of slots 1 to 3, 0 for padding. -/
def frameTag (blocks : List Nat) : Nat :=
  let g0 := (blocks[0]?).getD 0
  let d := fun (k : Nat) => ((blocks[k]?).getD g0) - g0
  g0 % 2 ^ 36 + d 1 * 2 ^ 36 + d 2 * 2 ^ 45 + d 3 * 2 ^ 54

/-- Four slots, those left over of zeros (R448). -/
def padSlots (ds : List (List Byte)) : List (List Byte) := (ds ++ List.replicate 4 (zeros 4096)).take 4

/-- Of rising map indices, those that share a frame with the first: within 511 blocks, four slots in all (R448). -/
def State.frameUnits (s : State) (l : List Nat) : List Nat :=
  match l with
  | [] => []
  | i :: _ => ((l.filter (fun j => j * s.gran + s.gran ≤ i * s.gran + 512)).take (4 / s.gran))

/-- Put units in one frame of band set `k`: index, old entry and slots of each. -/
def State.putFrame (s : State) (k : Nat) (us : List (Nat × MapEntry × List (List Byte))) : State :=
  let u := s.gran
  let blocks := us.flatMap (fun x => (List.range u).map (fun j => x.1 * u + j))
  let mk := fun (p : Nat) => us.zipIdx.map (fun x => (⟨x.1.1, x.1.2.1, .media p (x.2 * u)⟩ : Move))
  (s.placeFrame k 0 (frameTag blocks) (padSlots (us.flatMap (fun x => x.2.2))) mk).1

/-- Band set `k` after the cells that no stripe can use are passed; Full where none is left. -/
def State.readySet (s : State) (k : Nat) : State := (State.passStripes 4096 s k).fillSet k

/-- The band set that takes host blocks: the zone's, or a drive-managed one where they have none or it has spilled. -/
def State.hostSet (s : State) (zone : Option (Nat × Nat)) (spill : Bool) : Option (State × Nat) :=
  match zone with
  | some x => if spill then s.findSet 0 0 none else s.findSet x.1 2 (some x.2)
  | none => s.findSet 0 0 none

/-- One frame of host data from the batch of the lowest 2,048 pending blocks. -/
def State.placeHost (s0 : State) : State :=
  let s := s0.modMap (fun m => { m with pend := m.pend.filter (fun i => match s0.entry i with
    | .journal _ => true
    | _ => false) })
  match s.map.pend with
  | [] => s
  | i :: _ =>
    let own := s.blockOwner (i * s.gran)
    let us := s.frameUnits ((s.map.pend.take (2048 / s.gran)).filter (fun j => s.blockOwner (j * s.gran) == own))
    let nos := fun (j : Nat) => (match s.entry j with
      | .journal p => s.unitPages p
      | _ => [])
    let pages := us.map (fun j => (j, s.entry j, (nos j).map s.pageData))
    let s := s.notePages (us.flatMap nos)
    let bad := pages.filter (fun x => x.2.2.any (fun r => r.bad))
    let drop := fun (t : State) (l : List Nat) => t.modMap (fun m => { m with pend := m.pend.filter (fun j => !l.contains j) })
    if bad != [] then
      (drop s (bad.map (fun x => x.1))).each bad (fun t x => t.jq (.dealloc (x.1 * t.gran) t.gran 1))
    else
      let zone := own.bind (fun x => (s.namespace? x.1).map (fun n => (x.1, n.firstSet + x.2)))
      let spill : Bool := match zone with
        | some x => (s.bandSet x.2).st == .full
        | none => false
      match s.hostSet zone spill with
      | none => s.noteNoSet
      | some (s1, k) =>
        let s2 := s1.readySet k
        if (s2.bandSet k).st != .open || s2.flightFull k then s2
        else
          let s3 := s2.putFrame k (pages.map (fun x => (x.1, x.2.1, x.2.2.map (fun r => r.data))))
          (drop s3 us).when spill (fun t => t.addSat MP_SPILL.SPILL (us.length * t.gran))

/-- Waiting moved units, by index, the lowest first. -/
def insertMove (x : Nat × MapEntry × List Byte) : List (Nat × MapEntry × List Byte) → List (Nat × MapEntry × List Byte)
  | [] => [x]
  | y :: l => if x.1 ≤ y.1 then x :: y :: l else y :: insertMove x l

/-- One frame of moved blocks in the cleaning band set; a block whose entry has changed prevails (R453). -/
def State.placeMoved (s0 : State) : State :=
  let live := (s0.map.moving.filter (fun x => s0.entry x.1 == x.2.1)).foldl (fun l x => if l.any (fun y => y.1 == x.1) then l else insertMove x l) []
  let s := s0.modMap (fun m => { m with moving := live })
  let us := s.frameUnits ((live.take (2048 / s.gran)).map (fun x => x.1))
  if us = [] then s
  else match s.findSet 0 1 none with
    | none => s.noteNoSet
    | some (s1, k) =>
      let s2 := s1.readySet k
      if (s2.bandSet k).st != .open || s2.flightFull k then s2
      else
        let now := live.filter (fun x => us.contains x.1)
        let s3 := s2.putFrame k (now.map (fun x => (x.1, x.2.1, (List.range s.gran).map (fun j => slice x.2.2 (4096 * j) 4096))))
        s3.modMap (fun m => { m with moving := m.moving.filter (fun x => !us.contains x.1) })

def execPlacementBatch (cleaning : Bool) (s : State) : Host.Outcome State Fault Refusal :=
  .next (s.whileLive (fun s => if !s.mapReady then s else if cleaning then s.closeInterim.placeMoved else s.closeInterim.placeHost))

/-! ### The write journal (R459 to R464) -/

/-- Frames that pages of a group will take, and whether paced writes may have them (R452). -/
def State.paceOk (s : State) (pages : Nat) : Bool := !s.bit MP_STAT.PACED || decide ((pages + 3) / 4 ≤ s.map.credit)

/-- The first group's data pages are complete; its write-group line is queued. Nothing is taken while the pages kept for records
would be touched, while MRAM takes no line, or while paced writes have no room. -/
def State.pagesWritten (s : State) : State :=
  match s.map.groups with
  | [] => s
  | g :: rest =>
    let n := g.data.length
    if !s.mapReady || !s.journalAdmits || !s.dataRoom n || !s.paceOk n then s
    else
      let r := s.takeData n
      let s1 := ((dataPages n r.2).zip g.data).foldl (fun t x => t.putMram (pageAddr x.1) (slice x.2 0 4096)) r.1
      let s2 := (s1.wearJ (64 * n)).modMap (fun m => { m with groups := rest, credit := m.credit - (if s.bit MP_STAT.PACED then (n + 3) / 4 else 0) })
      (s2.jline ⟨.writeGroup g.gblk g.nblk g.nsid r.2 (g.zone.getD 0xFFFFFFFF), [], g.owner, g.last, g.result⟩).freeNote

def execJournalPagesWritten (s : State) : Host.Outcome State Fault Refusal := .next (s.whileLive (fun s => s.pagesWritten))

/-- The bytes a partner's copy of a write group holds: its data pages. -/
def State.groupData (s : State) (b : JBody) : List Byte :=
  match b with
  | .writeGroup g n _ p _ => (dataPages (s.unitsOf g n * s.gran) p).flatMap (fun q => (s.pageData q).data)
  | _ => []

/-- The line that was issued is complete (R462): the header of a fresh record page, or the line at the front. One that was being written
as VM was lost completes all the same; no other follows it (R48, R192). -/
def State.lineComplete (s0 : State) : State :=
  match s0.map.issue with
  | [] => s0
  | l :: rest =>
    let s := s0.modMap (fun m => { m with started := false })
    if !s.journalAdmits && !s0.map.started then s0
    else if s.needsPage then s.openRecPage
    else
      let b := s.lineBody l.body
      let s1 := s.lineDone l rest
      let e := b.encode
      let s2 := s1.ownerStep l s1.map.jseq (lineBytes e.1 s1.map.jseq e.2) (s1.groupData b)
      let s3 := match b with
        | .dealloc _ _ 1 => (s2.modTier (fun t => { t with recons := t.recons.filter (fun r => (s2.namesOf r.pfn) != [] || r.relocate) })).resumeReads
        | _ => s2
      let s4 := (State.pumpDue s3.nvme.inflight.length s3).drainPump
      (s4.when s4.poolOn State.release).standbyStep

def execRecordLineComplete (s : State) : Host.Outcome State Fault Refusal := .next (s.whileLive (fun s => s.lineComplete))

/-! ### Cleaning (R451 to R454) -/

/-- f of R452 is below `r` per cent. -/
def State.freeBelow (s : State) (r : Nat) : Bool :=
  let d := s.driveSets
  decide ((d.filter (fun k => (s.bandSet k).st == .empty)).length * 100 < r * d.length)

/-- Full drive-managed band sets with nothing of theirs in flight. -/
def State.cleanable (s : State) : List Nat := s.driveSets.filter (fun k => (s.bandSet k).st == .full && !s.tier.stripes.any (fun x => x.bs == k))

/-- Of a list of numbers the first with the least measure. -/
def leastBy (f : Nat → Nat) : List Nat → Option Nat
  | [] => none
  | k :: l => match leastBy f l with
    | some j => if f j < f k then some j else some k
    | none => some k

/-- The victim: fewest valid blocks; with 16,384 dead-stripe records live, the most dead stripes (R489). -/
def State.victim? (s : State) : Option Nat :=
  let dead := s.deadStripes
  if 16384 ≤ dead.length then leastBy (fun k => 131072 - (dead.filter (fun x => x.1 == k)).length) s.cleanable
  else if s.freeBelow (s.policy 4 1 + 2) then leastBy (fun k => (s.bandSet k).valid) s.cleanable
  else none

/-- The data cells of band set `k` that hold a frame of a stripe that is not dead. -/
def State.victimFrames (s : State) (k : Nat) : List Nat :=
  let b := s.bandSet k
  let w := Nat.max 1 b.width
  let dead := s.deadStripes
  ((List.range b.cursor).filter (fun n => n % w + 2 < w && !dead.contains (k, n / w))).map (fun n => s.cellPfn k b n)

def State.selectVictim (s : State) : State :=
  if !s.mapReady || s.bit MP_STAT.COUNTING || s.map.victim.isSome then s
  else match s.victim? with
    | none => s
    | some k =>
      let s1 := (s.modBandSet k (fun b => { b with st := .cleaning })).bandRecords k 3
      s1.modMap (fun m => { m with victim := some (k, s1.victimFrames k) })

def execCleaningVictimSelect (s : State) : Host.Outcome State Fault Refusal := .next (s.whileLive (fun s => s.selectVictim))

/-- The frame at `p` as it is read, or as its stripe restores it. -/
def State.frameOrRestored (s : State) (p : Nat) : Option Frame :=
  match s.frame? p with
  | some f => some f
  | none => if !s.isLost p then none
    else match s.stripeOf p with
      | some (k, st, m) => (s.restoreStripe k st).bind (fun fs => fs[m]?)
      | none => none

/-- One frame of the victim is read; `ok` says whether it decodes. Its valid blocks wait to be placed again, a member that an extent
moved here is moved on, and the pool's share of it is retracted (R38, R453, R520). -/
def State.cleanFrame (s : State) (ok : Bool) : State :=
  match s.map.victim with
  | some (k, p :: rest) =>
    let s0 := s.retractCell p
    let s1 := if ok || s0.tier.lost.contains p then s0 else s0.modTier (fun t => { t with lost := t.lost ++ [p] })
    let done := fun (t : State) => t.modMap (fun m => { m with victim := some (k, rest) })
    match s1.frameOrRestored p with
    | some f =>
      let ext := s1.extents.find? (fun e => e.newSet == k && s1.cellPfn k (s1.bandSet k) e.newCell == p)
      (match ext with
      | some e => done (s1.relocateAs e.surf e.oldSet e.oldStripe p f)
      | none =>
        if f.kind != 0 then done s1
        else done ((s1.moveBlocks p f).addSat MP_CLEAN.BLOCKS ((s1.validSlots p f.tag).length * s1.gran)))
    | none =>
      (match s1.stripeOf p with
      | some (bs, st, _) =>
        if s1.lostCount bs st ≤ 2 then s1
        else if s1.poolOn then done (s1.poolRead p)
        else done (s1.stripeLost bs st)
      | none => done s1)
  | _ => s

def execCleaningFrameRead (ok : Bool) (s : State) : Host.Outcome State Fault Refusal := .next (s.whileLive (fun s => s.cleanFrame ok))

/-- The set holds the frame at `p`. -/
def State.inSet (s : State) (k p : Nat) : Bool := s.setOfPfn p == some k

/-- A read that resolved to band set `k` is still in progress. -/
def State.setRead (s : State) (k : Nat) : Bool :=
  s.nvme.inflight.any (fun m => m.waits.any (s.inSet k)) || s.tier.recons.any (fun r => s.inSet k r.pfn) ||
  (s.recoveries.any (fun r => s.inSet k (s.pfn r.surf r.track r.frame)))

/-- Nothing of band set `k` is needed any more (R454, R521). -/
def State.setFree (s : State) (k : Nat) : Bool :=
  s.map.map.all (fun x => match x.2 with
    | .media p _ => !s.inSet k p
    | _ => true) &&
  s.map.moving.all (fun x => match x.2.1 with
    | .media p _ => !s.inSet k p
    | _ => true) &&
  !s.setRead k && !s.tier.stripes.any (fun x => x.bs == k) && !s.extents.any (fun e => e.newSet == k) &&
  !s.tier.reloc.any (fun e => e.newSet == k || e.oldSet == k) && s.poolClear k

/-- The state of the set and of its zone lets it go: Cleaning with every frame read, Full, or Open where its zone is Empty (R458). -/
def State.mayRelease (s : State) (k : Nat) : Bool :=
  let b := s.bandSet k
  match b.st with
  | .empty => false
  | .cleaning => s.map.victim == some (k, []) || !(s.map.victim.any (fun x => x.1 == k))
  | .full => true
  | .open => b.owner != 0 && (match s.namespace? b.owner with
    | some n => (s.zone b.owner (k - n.firstSet)).zstate == zsEmpty
    | none => true)

/-- Band set `k` becomes Empty (R449, R454, R489). -/
def State.releaseSet (s : State) (k : Nat) : State :=
  if !s.mapReady || !s.mayRelease k || !s.setFree k then s
  else
    let b := s.bandSet k
    let s1 := (s.each b.cols (fun t sf => t.jq (.band sf 0 b.owner k 0))).modBandSet k (fun _ => BandSet.empty)
    let s2 := s1.modMap (fun m => { m with
      voids := m.voids.filter (fun p => !s.inSet k p)
      victim := if m.victim.any (fun x => x.1 == k) then none else m.victim
      credit := if s.bit MP_STAT.PACED && b.st == .cleaning then m.credit + s.rows k b * b.cols.length else m.credit })
    let s3 := s2.modTier (fun t => { t with sj := t.sj.filter (fun r => match r.body with
      | .extent e => e.oldSet != k
      | .open bs _ => bs != k
      | .complete bs _ => bs != k
      | .dead bs _ _ => bs != k
      | _ => true) })
    (s3.when (b.st == .cleaning) (fun t => t.bump MP_CLSETS.SETS)).freeSync.sjSync

def execBandRelease (bandset : Nat) (s : State) : Host.Outcome State Fault Refusal := .next (s.whileLive (fun s => s.releaseSet bandset))

/-! ### Checkpoints (R465 to R468) -/

/-- The oldest unretired delta of segment `k`. -/
def State.oldestDelta (s : State) (k : Nat) : Option Nat :=
  (s.map.journal.find? (fun r => (match r.body with
    | .mapDelta _ | .dealloc _ _ _ => true
    | _ => false) && decide ((s.seg k).segseq < r.seq) && (s.recSegs r.body).contains k)).map (fun r => r.seq)

/-- The segment to be imaged next: one that has lost a copy first (R471), then the one with the oldest delta. -/
def State.nextSegment (s : State) : Option Nat :=
  match s.map.segs.find? (fun x => x.2.phase == 0 && x.2.copy0.isSome != x.2.copy1.isSome) with
  | some x => some x.1
  | none => leastBy (fun k => (s.oldestDelta k).getD 0) (s.dirtySegs.filter (fun k => (s.seg k).phase == 0))

/-- The entries of segment `k`. -/
def State.segmentEntries (s : State) (k : Nat) : List (Nat × MapEntry) := s.map.map.filter (fun x => x.1 / segEntries == k)

/-- The image is staged; SEGSEQ is the SEQ of the last record it includes. Copy 0 is written over from here. -/
def State.segmentStart (s : State) : State :=
  if !s.mapReady then s
  else match s.nextSegment with
    | none => s
    | some k => s.modSeg k (fun x => { x with phase := 1, imgSeq := s.map.jseq, staged := s.segmentEntries k, copy0 := none })

def execCheckpointSegmentStart (s : State) : Host.Outcome State Fault Refusal := .next (s.whileLive (fun s => s.segmentStart))

/-- A copy is written: copy 0, then copy 1, then the segment record. -/
def State.copyWritten (s : State) (k : Nat) : State :=
  let x := s.seg k
  if !s.mapReady then s
  else if x.phase = 1 ∧ s.isServing .DA then
    (s.putCopy .A k x.imgSeq x.staged).modSeg k (fun y => { y with phase := 2, copy0 := some (y.imgSeq, y.staged), copy1 := none })
  else if x.phase = 2 ∧ s.isServing .DB then
    ((s.putCopy .B k x.imgSeq x.staged).modSeg k (fun y => { y with phase := 3, copy1 := some (y.imgSeq, y.staged) })).jq (.segment k x.imgSeq)
  else s

def execCheckpointCopyWritten (segment : Nat) (s : State) : Host.Outcome State Fault Refusal := .next (s.whileLive (fun s => s.copyWritten segment))

/-- A root of generation one higher goes to its slot on both checkpoint surfaces, with the channel sets and the layout digest (R128, R422),
and its record is queued. -/
def State.rootWrite (s : State) : State :=
  let queued := s.map.issue.any (fun l => match l.body with
    | .root _ _ _ => true
    | _ => false)
  if !s.mapReady || !s.map.rootDirty || queued then s
  else
    let g := s.fld MP_ROOTGEN.GEN + 1
    let dg := layoutDigest s.acc.applied
    let r0 : Root := ⟨g, 0, s.map.jseq, dg, s.nvme.namespaces, s.map.bandsets, s.map.zones⟩
    let r := { r0 with len := (s.rootBytes r0).length }
    let s1 := (s.putRoot r).modMap (fun m => { m with roots := SMap.set (fun _ => none) m.roots (g % 2) (some r), rootDirty := false })
    let s2 := { (s1.modCal (fun c => { c with saved := c.sets })) with acc := { s1.acc with layoutDigest := some dg } }
    s2.jq (.root g (g % 2) s.map.jseq)

def execRootWriteTimer (s : State) : Host.Outcome State Fault Refusal := .next (s.whileLive (fun s => s.rootWrite))

/-! ### The rebuild of the map (R203, R469, R471, R485, R490, R500) -/

/-- The stripe journal is read from both copies in full (R490); `bad` names lines that cannot be read, as (copy, line). Lines lost in both copies
are returned. -/
def State.sjScan (s : State) (bad : List (Nat × Nat)) : State × List SjRec :=
  let at' := fun (c n : Nat) => bad.contains (c, n)
  let lost := s.tier.sj.filter (fun r => at' 0 r.line && at' 1 r.line)
  let read := (s.noteMram (sjAddr 0 0 / 8) (8 * 131072) reqSteward).noteMram (sjAddr 1 0 / 8) (8 * 131072) reqSteward
  let s1 := read.each bad.eraseDups (fun t x => if at' (1 - x.1) x.2 then t else if x.1 = 0 then t.bump PX_SJERR.COPY0 else t.bump PX_SJERR.COPY1)
  let s2 := s1.each lost (fun t r => (t.setBit PX_SJERR.BOTHLOST).record 0x1104 (leBytes 4 r.line ++ leBytes 1 r.body.encode.1 ++ zeros 3))
  (s2.modTier (fun t => { t with sj := t.sj.filter (fun r => !lost.contains r) }), lost)

/-- The newest valid root; `bad` names slots of which no copy is valid. A copy is read on an actuator that serves. -/
def State.rootLoad (s : State) (bad : List Nat) : State :=
  let ok := fun (k : Nat) => if bad.contains k then none else (SMap.get (fun _ => none) s.map.roots k).filter (fun (r : Root) =>
    [Act.A, .B].any (fun a => !s.actAway a && s.rootAt a r))
  let best := match ok 0, ok 1 with
    | some a, some b => some (if a.gen < b.gen then b else a)
    | some a, none => some a
    | none, b => b
  match best with
  | none => s
  | some (r : Root) =>
    let s1 := s.modMap (fun m => { m with bandsets := SMap.mapAll (fun _ => BandSet.empty) r.bandsets (fun _ b => { b with valid := 0 }), zones := r.zones })
    (s1.setFld MP_ROOTGEN.GEN r.gen).modCal (fun c => { c with sets := c.saved })

/-- Entries from the headers of every user frame, the highest frame SEQ for each block (R471). -/
def State.headerScan (s : State) (k : Nat) : State :=
  s.each s.map.media (fun t x => match x.2 with
    | none => t
    | some f =>
      if f.kind != 0 then t
      else t.each (tagBlocks f.tag) (fun u y =>
        let i := u.mapIndex y.2
        let older := match u.entry i with
          | .media q _ => (match SMap.get (fun _ => none) u.map.media q with
            | some (h : Frame) => decide (h.seq < f.seq)
            | none => true)
          | _ => true
        if i / segEntries != k || y.2 % u.gran != 0 || !older then u
        else u.modMap (fun m => { m with map := SMap.set (fun _ => MapEntry.unmapped) m.map i (.media x.1 y.1) })))

/-- The copies of a segment that can be read: `bad` lists those that cannot. -/
def State.segCopy0 (s : State) (bad : List (Nat × Nat)) (k : Nat) : Option (Nat × List (Nat × MapEntry)) :=
  if bad.contains (k, 0) || s.actAway .A then none else (s.seg k).copy0.filter (fun c => s.copyAt .A k c.1)

def State.segCopy1 (s : State) (bad : List (Nat × Nat)) (k : Nat) : Option (Nat × List (Nat × MapEntry)) :=
  if bad.contains (k, 1) || s.actAway .B then none else (s.seg k).copy1.filter (fun c => s.copyAt .B k c.1)

/-- The copy that is read: copy 0 in the first half of the segments, copy 1 in the rest, the other copy where that one is invalid. -/
def State.segCopy (s : State) (bad : List (Nat × Nat)) (k : Nat) : Option (Nat × List (Nat × MapEntry)) :=
  if k < (s.nseg + 1) / 2 then (s.segCopy0 bad k).or (s.segCopy1 bad k) else (s.segCopy1 bad k).or (s.segCopy0 bad k)

/-- A segment both of whose copies are invalid: the headers. One that was never imaged is empty. -/
def State.segmentLost (s : State) (k : Nat) : State :=
  if (s.seg k).segseq = 0 then s
  else (((s.modSeg k (fun y => { y with imgSeq := 0, copy0 := none, copy1 := none })).setBit MP_STAT.SEGLOSS).record 0x1002 (leBytes 4 k ++ zeros 4)).headerScan k

/-- The segment's entries as the copy `x` has them; `c0` and `c1` are the copies that can be read. -/
def State.segFrom (s : State) (k : Nat) (c0 c1 x : Option (Nat × List (Nat × MapEntry))) : State :=
  match x with
  | some c =>
    (c.2.foldl (fun t e => t.modMap (fun m => { m with map := SMap.set (fun _ => MapEntry.unmapped) m.map e.1 e.2 })) s).modSeg k
      (fun y => { y with imgSeq := c.1, copy0 := c0, copy1 := c1 })
  | none => s.segmentLost k

/-- One segment of the map from its media copies. -/
def State.segmentLoad (s : State) (bad : List (Nat × Nat)) (k : Nat) : State :=
  s.segFrom k (s.segCopy0 bad k) (s.segCopy1 bad k) (s.segCopy bad k)

/-- One record line of the journal is applied (R469). -/
def State.replay (s : State) (q0 : Nat) (r : JRec) : State :=
  let old := fun (i : Nat) => decide (r.seq ≤ (s.seg (i / segEntries)).imgSeq)
  let put := fun (t : State) (i : Nat) (e : MapEntry) => if old i then t else t.modMap (fun m => { m with map := SMap.set (fun _ => MapEntry.unmapped) m.map i e })
  match r.body with
  | .pageHeader _ _ _ => s
  | .root _ _ _ => s
  | .writeGroup g n ns p z =>
    let s1 := s.each (s.groupUnits g n p) (fun t x => put t x.1 (.journal x.2))
    if z = 0xFFFFFFFF then s1
    else match s1.namespace? ns with
      | none => s1
      | some x =>
        let o := g + n - (x.base + s1.zoneBase x z)
        if (s1.zone ns z).wp < o then s1.setZone ns z { s1.zone ns z with wp := o, zstate := if o = s1.zcap (x.firstSet + z) then zsFull else (s1.zone ns z).zstate } else s1
  | .mapDelta runs => s.each runs (fun t x => t.each (List.range x.2.2) (fun u k => put u (x.1 + k) (entryPlus x.2.1 (k * s.gran))))
  | .dealloc g n k => s.each (List.range (n / s.gran)) (fun t u => put t (s.mapIndex g + u) (if k = 1 then .bad else .unmapped))
  | .segment k q => s.modSeg k (fun x => { x with segseq := Nat.max x.segseq q })
  | b => if q0 < r.seq then s.applyBody b else s

/-- The whole journal; `bad` names the SEQs of lines that cannot be read. The last line may be missing (R462); any other is
skipped and recorded. -/
def State.journalLoad (s : State) (bad : List Nat) : State :=
  let last := ((s.map.journal.getLast?).map (fun r => r.seq)).getD 0
  let gone := s.map.journal.filter (fun r => bad.contains r.seq)
  let s1 := s.each gone (fun t r => if r.seq = last then t else (t.setBit MP_STAT.JLOSS).record 0x1001 (leBytes 8 r.seq))
  let s2 := s1.modMap (fun m => { m with journal := m.journal.filter (fun r => !bad.contains r.seq) })
  let q0 := s2.rootSeq
  s2.map.journal.foldl (fun t r => t.replay q0 r) s2

/-- The reads of the sector-first pages and of the page after the chain's last find unwritten lines, which are counted (R203, R205). -/
def State.scanReads (s : State) : State :=
  s.each ((List.range 64).map (· * sectorPages) ++ s.map.recNext.take 1) (fun t p => t.noteRead .mram (pageAddr p) 64 reqSteward)

/-- A cell of stripe (`k`, `st`) is named by a map entry or an extent. -/
def State.stripeNamed (s : State) (k st : Nat) : Bool :=
  let ps := s.memberPfns k st
  s.map.map.any (fun x => match x.2 with
    | .media p _ => ps.contains p
    | _ => false) ||
  s.extents.any (fun e => e.newSet == k && e.newCell / Nat.max 1 (s.bandSet k).width == st)

/-- After the map stands: stripes in flight at the power loss are dead (R484, R485), what was lost in both copies is settled (R500), live
records are written forward (R490), and rebuilds and patrol go on from their cursors (R496). -/
def State.sjResolve (s : State) (lost : List SjRec) : State :=
  let opens := s.tier.sj.filterMap (fun r => match r.body with
    | .open bs st => some (bs, st)
    | _ => none)
  let und := lost.filterMap (fun r => match r.body with
    | .open bs st => if s.stripeNamed bs st then none else some (bs, st)
    | .dead bs st _ => if s.stripeNamed bs st then none else some (bs, st)
    | _ => none)
  let known := (List.range 32).filter (fun sf => s.tier.sj.any (fun r => match r.body with
    | .surface x _ => x == sf
    | _ => false))
  let off := ((s.map.bandsets.flatMap (fun x => x.2.offline)).eraseDups).filter (fun sf => !known.contains sf)
  let lostSurf := lost.any (fun r => match r.body with
    | .surface _ _ => true
    | _ => false)
  let fwd := (s.tier.sj.map (fun r => r.body)).filter (fun b => b.live && (match b with
    | .open _ _ => false
    | _ => true))
  let s1 := s.modTier (fun t => { t with queue := fwd ++ t.queue })
  let s2 := s1.each (opens ++ und) (fun t x => (t.sjq (.dead x.1 x.2 2)).bump PX_SJDEAD.NEWDEAD)
  let s3 := if lostSurf then s2.each off (fun t sf => ((t.sjq (.surface sf 1)).setFldBit PX_FAILED.SURF sf true).setFldBit (SV_HEADOK.OK (actNum (surfAct sf))) (sf % 16) false) else s2
  let cur := fun (sf : Nat) => (s.tier.sj.foldl (fun n r => match r.body with
    | .cursor x b st => if x = sf then (b, st) else n
    | _ => n) (0, 0))
  let work := s3.surfaces.filter (fun sf => s3.surfFailed sf && s3.membersLeft sf != 0)
  let s4 := s3.modTier (fun t => { t with rebuilds := work.map (fun sf => ⟨sf, false, (cur sf).1, (cur sf).2⟩), patrolSt := (cur 0xFF).2 })
  let s5 := (s4.setFld PX_PATROL.BANDSET (cur 0xFF).1).setFld PX_RBLEFT.MEMBERS ((work.head?.map s4.membersLeft).getD 0)
  s5.rebuildShow.pxSync.sjSync

/-- An actuator follows, or its boot restore has ended without it. -/
def State.actSettled (s : State) (a : Act) : Bool :=
  s.svState a == svFollowing || ((s.dom (domOfAct a)).bootRestored && (s.dom (domOfAct a)).st == .down)

/-- Region 1 is zero-filled and holds the map as it now stands (R469). -/
def State.mapFill (s : State) : State :=
  let base := 0x20000 * s.fld (HM_RGNBASE.BASE 1)
  (s.modMem (fun x => { x with hbm := x.hbm.filter (fun p => decide (p.1 < base) || decide (base + 0x20000 * s.fld (HM_RGNSIZE.SIZE 1) ≤ p.1)) })).modMap (fun m => { m with filled := true })

/-- The device reads what R469 reads: the journal, the root, the segments, and the stripe journal. -/
def State.rebuildStart (s : State) (rootBad : List Nat) (copyBad : List (Nat × Nat)) (lineBad : List Nat) (sjBad : List (Nat × Nat)) : State :=
  if s.fld MP_STAT.STATE != 1 || s.map.rebuilding || !(s.actSettled .A && s.actSettled .B) || !(s.svState .A == svFollowing || s.svState .B == svFollowing) then s
  else
    let r := s.scanReads.sjScan sjBad
    let s1 := (r.1.modMap (fun m => { m with rebuilding := true, map := [] })).rootLoad rootBad
    let s2 := (s1.map.segs.map (fun x => x.1)).foldl (fun t k => t.segmentLoad copyBad k) s1
    let s3 := s2.journalLoad lineBad
    let s4 := s3.modMap (fun m => { m with pend := m.map.filterMap (fun x => match x.2 with
      | .journal _ => some x.1
      | _ => none) })
    let tail := if s.map.recLine = 0 ∧ s.map.scanTail = s.map.recPage then (s.map.recPage + 1) % ringPages else s.map.scanTail
    let s5 := ((s4.setFld MP_JTAIL.PAGE tail).setFld MP_JSEQ_LO.SEQ s.map.jseq).retire
    ((s5.sjResolve r.2).setFld MP_STAT.STATE 2).mapFill

def execMapRebuildStart (rootBad : List Nat) (copyBad : List (Nat × Nat)) (lineBad : List Nat) (sjBad : List (Nat × Nat)) (s : State) : Host.Outcome State Fault Refusal :=
  .next (s.whileLive (fun s => s.rebuildStart rootBad copyBad lineBad sjBad))

/-- The last row of column `c` at or before row `r` whose cell is at or before cell `n`; `f` rows are looked at. -/
def lastRow (b : BandSet) (n c : Nat) : Nat → Nat → Option Nat
  | 0, _ => none
  | f + 1, r =>
    match b.cellAt r c with
    | some m => if m ≤ n then some r else if r = 0 then none else lastRow b n c f (r - 1)
    | none => if r = 0 then none else lastRow b n c f (r - 1)

/-- The cursor rule (R450) for Open band set `k`: it starts after the last stripe that is recorded, on the track after each column's
last frame; what lies between is void. -/
def State.cursorRule (s : State) (k : Nat) : State :=
  let b := s.bandSet k
  let w := Nat.max 1 b.width
  let byMap := s.map.map.filterMap (fun x => match x.2 with
    | .media p _ => (match s.stripeOf p with
      | some (j, st, _) => if j == k then some st else none
      | none => none)
    | _ => none)
  let bySj := (s.tier.sj.map (fun r => r.body) ++ s.tier.queue).filterMap (fun r => match r with
    | .complete bs st => if bs == k then some st else none
    | .dead bs st _ => if bs == k then some st else none
    | .extent e => if e.newSet == k then some (e.newCell / w) else none
    | _ => none)
  match byMap ++ bySj with
  | [] => (s.modBandSet k (fun x => { x with cursor := 0, skip := [] })).bandRecords k 1
  | l =>
    let n := (l.foldl Nat.max 0 + 1) * w
    let r := (b.cell (n - 1)).1
    let skip := (List.range b.cols.length).filterMap (fun c =>
      let sf := (b.cols[c]?).getD 0
      match lastRow b (n - 1) c (b.cols.length + 2) r, s.band sf k with
      | some x, some (z, _) => let fr := Nat.max 1 (s.zn sf z 8 2); some (sf, (x / fr + 1) * fr)
      | _, _ => none)
    let s1 := (s.modBandSet k (fun x => { x with cursor := n, skip := skip })).readySet k
    if (s1.bandSet k).st == .open then s1.bandRecords k 1 else s1

/-- The rebuild ends, with the spindle Locked and every serving actuator loaded (R110, R451, R469, R532, R539): cursors move, the walk of valid counts starts, media commands are served. `ckpt` in 0.1 s
and `apply` in ms are the times of MP_REPLAY. -/
def State.rebuildComplete (s : State) (ckpt apply : Nat) : State :=
  if s.fld MP_STAT.STATE != 2 || !s.map.rebuilding || !s.activeReady then s
  else
    let opens := (s.map.bandsets.filter (fun x => x.2.st == .open)).map (fun x => x.1)
    let s1 := s.each opens State.cursorRule
    let s2 := (((s1.setFld MP_STAT.STATE 4).setBit MP_STAT.COUNTING).setFld MP_REPLAY.CKPT (Nat.min 0xFFFF ckpt)).setFld MP_REPLAY.APPLY (Nat.min 0xFFFF apply)
    let s3 := s2.modMap (fun m => { m with rebuilding := false, rootDirty := s2.rootSeq == 0 || m.journal.any (fun r => r.body.changes && decide (s2.rootSeq < r.seq)) })
    let s4 := s3.freeSync.freeNote.reachActive
    let s5 := s4.each [0, 1] (fun t c => if (t.ctrl c).rdy then t.noticeAll c else t)
    (s5.resumeReads.poolSettle).deferredPump

def execMapRebuildComplete (ckpt apply : Nat) (s : State) : Host.Outcome State Fault Refusal := .next (s.whileLive (fun s => State.standbyStep ((s.rebuildComplete ckpt apply))))

/-- Exact counts of valid blocks (R451). -/
def State.countsDone (s : State) : State :=
  if !s.mapReady || !s.bit MP_STAT.COUNTING then s
  else
    let n := fun (k : Nat) => (s.map.map.filter (fun x => match x.2 with
      | .media p _ => s.inSet k p
      | _ => false)).length * s.gran
    (s.modMap (fun m => { m with bandsets := SMap.mapAll (fun _ => BandSet.empty) m.bandsets (fun k b => { b with valid := n k }) })).clrBit MP_STAT.COUNTING

def execValidCountWalkDone (s : State) : Host.Outcome State Fault Refusal := .next (s.whileLive (fun s => s.countsDone))

/-- Gauge source 0x0B (R633). -/
def execFreePageGaugeSample (s : State) : Host.Outcome State Fault Refusal := .next (s.whileLive (fun s => s.sample 0x0B (· == 0) (s.fld MP_JFREE.FREE)))

end Sys2Proof.Machine
end

