-- ==== Sys2Proof/Machine/TierRows.lean ====
section
/-! DEFINITION. The commands of surface redundancy (R473 to R500): parity, the stripe journal, reconstruction, rebuild, patrol and the
share of media time (R452, R468, R497, R526). -/
namespace Sys2Proof.Machine

/-- The parity units compute P and Q of a stripe whose data members are all fixed (R482). -/
def State.parityCompute (s : State) (k st : Nat) : State :=
  match s.stripe? k st with
  | some x => if x.parity || !s.dataFixed x then s else s.computeParity x
  | none => s

def execStripeParityCompute (bandset stripe : Nat) (s : State) : Host.Outcome State Fault Refusal := .next (s.whileLive (fun s => s.parityCompute bandset stripe))

/-- What follows once record `b`, SEQ `q`, is durable in both copies (R482, R483, R520). -/
def State.sjEffect (s : State) (b : SjBody) (q : Nat) : State :=
  match b with
  | .open k st => s.modStripe k st (fun x => { x with opened := true })
  | .complete k st => (s.stripeComplete k st).contribStripe k st
  | .contribOpen c => s.contribOpened c q
  | .held c w 1 wq => s.heldDurable c w wq
  | _ => s

/-- The record at the front is durable; one that was being written as VM was lost becomes so all the same (R48, R192). -/
def State.sjDurable (s0 : State) : State :=
  let s := s0.modTier (fun t => { t with started := false })
  match s.tier.queue with
  | [] => s0
  | b :: rest => if !s.journalAdmits && !s0.tier.started then s0 else (s.sjWrite b rest).sjEffect b (s.tier.seq + 1)

def execSjRecordDurable (s : State) : Host.Outcome State Fault Refusal := .next (s.whileLive (fun s => s.sjDurable))

/-! ### Reconstruction (R492 to R494, R500) -/

/-- The restored members of a stripe that are lost are relocated in one pass, but for those an extent on its way covers. -/
def State.relocateLost (s : State) (k st : Nat) (fs : List Frame) : State :=
  s.each ((s.memberPfns k st).zip fs) (fun t x => if s.isLost x.1 then t.relocate k st x.1 x.2 else t)

/-- PX_DEGRD. -/
def State.countDegraded (s : State) (k st : Nat) : State := if 2 ≤ s.lostCount k st then s.bump PX_DEGRD.DOUBLE else s.bump PX_DEGRD.SINGLE

/-- The blocks of frame `p` already wait for their deallocate records. -/
def State.lossQueued (s : State) (p : Nat) : Bool :=
  (s.namesOf p).any (fun x => s.map.issue.any (fun l => match l.body with
    | .dealloc g _ 1 => s.mapIndex g == x.1
    | _ => false))

/-- The surviving members of the stripe of lost frame `p` have been read: the frame is restored, returned to the reads that wait, and
relocated where R493 asks for it; a stripe with more than two members lost goes to the pool or is lost (R494). -/
def State.reconstructed (s : State) (p : Nat) : State :=
  match s.tier.recons.filter (fun r => r.pfn == p), s.stripeOf p with
  | r :: rs, some (k, st, _) =>
    (match s.restoreStripe k st with
    | some fs =>
      let i := ((s.memberPfns k st).findIdx? (· == p)).getD 0
      let f := (fs[i]?).getD ⟨0, 0, 0, []⟩
      let s1 := (s.countDegraded k st).when ((r :: rs).any (fun x => x.relocate) || decide (2 ≤ s.lostCount k st)) (fun t => t.relocateLost k st fs)
      s1.frameRestored p f.slots
    | none =>
      if s.lostCount k st ≤ 2 || s.lossQueued p then s
      else if s.poolOn then s.poolRead p
      else s.stripeLost k st)
  | _ :: _, none =>
    -- a cell of a relocated member: its old stripe restores it
    (match s.extents.find? (fun e => s.cellPfn e.newSet (s.bandSet e.newSet) e.newCell == p) with
    | some e => s.wantRecon (((s.memberPfns e.oldSet e.oldStripe).find? (fun q => (s.pos q).surf == e.surf)).getD p) none
    | none => s)
  | _, _ => s

def execReconstructionComplete (pfn : Nat) (s : State) : Host.Outcome State Fault Refusal := .next (s.whileLive (fun s => (s.reconstructed pfn).standbyStep))

/-! ### Rebuild (R495, R496, R498, R500) -/

/-- The stripes of band set `k` that have been written, from number `st0`. -/
def State.writtenStripes (s : State) (k st0 : Nat) : List Nat :=
  let b := s.bandSet k
  (List.range (Nat.min (s.nStripes k b) ((b.cursor + b.width - 1) / Nat.max 1 b.width))).filter (fun st => st0 ≤ st)

/-- A stripe that a rebuild of surface `sf` still has to handle. -/
def State.needsRebuild (s : State) (sf k st : Nat) : Bool :=
  !s.deadStripes.contains (k, st) && (s.stripe? k st).isNone && decide (s.lostCount k st ≤ 2) &&
  !s.tier.reloc.any (fun e => e.surf == sf && e.oldSet == k && e.oldStripe == st) &&
  (s.memberPfns k st).any (fun p => (s.pos p).surf == sf && (s.isLost p || (s.extentOf p).isNone))

/-- The next such stripe from a cursor on, band sets in Cleaning left out; `both` asks for stripes with two members lost. -/
def State.nextRebuild (s : State) (sf k0 st0 : Nat) (both : Bool) : Option (Nat × Nat) :=
  (s.map.bandsets.filter (fun x => k0 ≤ x.1 && x.2.st != .cleaning && x.2.cols.contains sf)).findSome? (fun x =>
    ((s.writtenStripes x.1 (if x.1 = k0 then st0 else 0)).find? (fun st => s.needsRebuild sf x.1 st && (!both || decide (2 ≤ s.lostCount x.1 st)))).map (fun st => (x.1, st)))

/-- Stripes that two failed surfaces share come first (R500), then those from the cursor, then those that were passed by. -/
def State.pickRebuild (s : State) (r : Rebuild) : Option (Nat × Nat) :=
  let first := if 2 ≤ s.tier.rebuilds.length then s.nextRebuild r.surf 0 0 true else none
  (first.orElse (fun _ => s.nextRebuild r.surf r.bs r.st false)).orElse (fun _ => s.nextRebuild r.surf 0 0 false)

/-- The rebuild at the front is over (R498). -/
def State.rebuildOver (s : State) : State :=
  (((s.modTier (fun t => { t with rebuilds := t.rebuilds.drop 1 })).setFld PX_RBLEFT.MEMBERS 0).rebuildShow).pxSync

/-- One stripe of the rebuild at the front: its lost members, and for a write-disabled surface the member on it, are relocated. A pause
(R49) and a stripe without room for its members leave everything as it is. -/
def State.rebuildStep (s : State) : State :=
  match s.tier.rebuilds with
  | [] => s
  | r :: rest =>
    if !s.mapReady || s.bit PX_STAT.PAUSED || !s.bothServing then s
    else match s.pickRebuild r with
    | none => if s.membersLeft r.surf = 0 && s.tier.reloc.all (fun e => e.surf != r.surf) then s.rebuildOver else s
    | some (k, st) =>
      match s.restoreStripe k st with
      | none => s
      | some fs =>
        let s1 := s.relocateLost k st fs
        let s2 := if r.copy then
            s1.each ((s.memberPfns k st).zip fs) (fun t x => if (s.pos x.1).surf = r.surf && !s.isLost x.1 then t.relocate k st x.1 x.2 else t)
          else s1
        let n := s2.tier.reloc.length - s.tier.reloc.length
        let m := (s2.map.moving.length - s.map.moving.length) + n
        if m = 0 then s2
        else
          let s3 := if k = r.bs then s2 else s2.sjq (.cursor r.surf k st)
          let s4 := (s3.modTier (fun t => { t with rebuilds := { r with bs := k, st := st + 1 } :: rest })).setFld PX_RBDONE.MEMBERS (s.fld PX_RBDONE.MEMBERS + n)
          (s4.setFld PX_RBLEFT.MEMBERS (s.fld PX_RBLEFT.MEMBERS - n)).setFld PX_RBPOS.BANDSET k

def execRebuildStripe (s : State) : Host.Outcome State Fault Refusal := .next (s.whileLive (fun s => s.rebuildStep))

/-- Once a second at least, a cursor record (R496). -/
def State.rebuildCursor (s : State) : State :=
  match s.tier.rebuilds with
  | r :: _ => if s.bit PX_STAT.PAUSED then s else s.sjq (.cursor r.surf r.bs r.st)
  | [] => s

def execRebuildCursorTimer (s : State) : Host.Outcome State Fault Refusal := .next (s.whileLive (fun s => s.rebuildCursor))

/-! ### Patrol (R499) -/

/-- The Full band set and stripe that patrol reads next: from its cursor, then from the first Full set again. -/
def State.patrolNext (s : State) : Option (Nat × Nat) :=
  let k0 := s.fld PX_PATROL.BANDSET
  let ok := fun (k st : Nat) => !s.deadStripes.contains (k, st) && (s.stripe? k st).isNone &&
    !s.tier.rebuilds.any (fun r => (s.memberPfns k st).any (fun p => (s.pos p).surf == r.surf && (s.extentOf p).isNone))
  let from' := fun (a b : Nat) => (s.map.bandsets.filter (fun x => x.2.st == .full && a ≤ x.1)).findSome? (fun x =>
    ((s.writtenStripes x.1 (if x.1 = a then b else 0)).find? (ok x.1)).map (fun st => (x.1, st)))
  (from' k0 s.tier.patrolSt).orElse (fun _ => from' 0 0)

/-- The data member whose error alone explains both mismatches: Q_err = g^j P_err (R499). -/
def locate (w : Nat) (pe qe : List Byte) : Option Nat := (List.range w).find? (fun j => gfScale (gfPow j) pe == qe)

/-- A member is relocated as its stripe gives it, though it can be read. -/
def State.fixMember (s : State) (k st m : Nat) (f : Frame) : State :=
  (s.relocateAs (s.pos (((s.memberPfns k st)[m]?).getD 0)).surf k st (s.readPfn (((s.memberPfns k st)[m]?).getD 0)) f).bump PX_PATEVT.FIXED

/-- Patrol reads a stripe. `bad` names members that cannot be read, `seen` the bytes (TAG and payload) of members that decode to other than
what was written. -/
def State.patrol (s : State) (bad : List Nat) (seen : List (Nat × List Byte)) : State :=
  match s.patrolNext with
  | none => if s.mapReady then s.clrBit PX_PATROL.ACTIVE else s
  | some (k, st) =>
    if !s.mapReady || s.throttled || s.thermalDown then s
    else
      let ps := s.memberPfns k st
      let w := ps.length - 2
      let s1 := (s.setBit PX_PATROL.ACTIVE).when (k != s.fld PX_PATROL.BANDSET) (fun t => t.sjq (.cursor 0xFF k st))
      let s2 := (s1.setFld PX_PATROL.BANDSET k).modTier (fun t => { t with patrolSt := st + 1 })
      let unread := (bad.filter (· < ps.length)).map (fun m => (ps[m]?).getD 0)
      if unread != [] then
        s2.each unread (fun t p => (if t.tier.lost.contains (t.readPfn p) then t else t.modTier (fun x => { x with lost := x.lost ++ [s.readPfn p] })).wantRecon p none)
      else if !ps.all (fun p => (s.frame? p).isSome) then s2
      else
        let by' := fun (m : Nat) => match seen.find? (fun x => x.1 == m) with
          | some x => slice x.2 0 16392
          | none => (((ps[m]?).bind s.frame?).map (fun f => memberBytes f.tag f.slots)).getD []
        let ds := (List.range w).map by'
        let pe := xorBytes (parityP 16392 ds) (by' w)
        let qe := xorBytes (parityQ 16392 ds) (by' (w + 1))
        let pz := pe.all (· == 0)
        let qz := qe.all (· == 0)
        if pz && qz then s2
        else if qz then s2.fixMember k st w (frameOfBytes 1 0 (parityP 16392 ds))
        else if pz then s2.fixMember k st (w + 1) (frameOfBytes 2 0 (parityQ 16392 ds))
        else match locate w pe qe with
          | some j => s2.fixMember k st j (frameOfBytes 0 0 (xorBytes (by' j) pe))
          | none =>
            ((s2.each ps (fun t p => match t.frame? p with
              | some f => t.moveBlocks (t.readPfn p) f
              | none => t)).bump PX_PATEVT.UNLOC).record 0x1103 (leBytes 4 k ++ leBytes 4 st)

def execPatrolStripe (bad : List Nat) (seen : List (Nat × List Byte)) (s : State) : Host.Outcome State Fault Refusal := .next (s.whileLive (fun s => s.patrol bad seen))

/-! ### Media time (R452, R468, R497, R526) -/

/-- A segment holds a delta older than 60 s (R468). -/
def State.deltaOld (s : State) : Bool :=
  s.map.journal.any (fun r => (match r.body with
    | .mapDelta _ | .dealloc _ _ _ => true
    | _ => false) && decide (r.tick + secTicks 60 < s.tick) && (s.recSegs r.body).any (fun k => decide ((s.seg k).segseq < r.seq)))

/-- The shares of one actuator's 1,000 ms with `host` ms of host demand: host, rebuild, checkpoints, cleaning, patrol. In Throttle
cleaning is held at CLEANFLOOR and patrol stops (R614). -/
def State.shareOut (s : State) (host : Nat) : List Nat :=
  let tl := s.tier.rebuilds != [] && !s.bit PX_STAT.PAUSED
  let tp := s.bit PL_STAT.REBUILD
  let rb := 10 * ((if tl then s.policy 1 1 else 0) + (if tp then s.policy 2 1 else 0))
  let ck := if s.deltaOld then 20 else 0
  let cl := Nat.min (if s.freeBelow (s.policy 4 1) then 10 * s.policy 3 1 else 0) (1000 - rb - ck)
  let h := Nat.min host (1000 - rb - ck - cl)
  let left := 1000 - rb - ck - cl - h
  if tl || tp then [h, rb + left, ck, cl, 0]
  else if s.throttled then [h, rb, ck, cl, 0]
  else if s.freeBelow (s.policy 4 1 + 2) then [h, rb, ck, cl + left, 0]
  else [h, rb, ck, cl, left]

/-- A 1 s interval ends; `hostA` and `hostB` are the ms of media time that host commands asked for. Host writes are paced below half
of RESERVE (R452), and a running rebuild is sampled into gauge source 0x09. -/
def State.mediaInterval (s : State) (hostA hostB : Nat) : State :=
  if !s.mapReady then s
  else
    let put := fun (t : State) (a : Nat) (l : List Nat) => t.modTier (fun x => { x with shares := l.zipIdx.foldl (fun m y => SMap.set (fun _ => 0) m (8 * a + y.2) y.1) x.shares })
    let s1 := put (put s 0 (s.shareOut hostA)) 1 (s.shareOut hostB)
    let d := s.driveSets
    let paced := decide ((d.filter (fun k => (s.bandSet k).st == .empty)).length * 200 < s.policy 4 1 * d.length)
    let s2 := if paced then s1.setBit MP_STAT.PACED else (s1.clrBit MP_STAT.PACED).modMap (fun m => { m with credit := 0 })
    let s3 := s2.when (s.tier.rebuilds != []) (fun t => t.sample 0x09 (· == 0) ((s.fld PX_RBDONE.MEMBERS - s.tier.rbMark : Nat) : Int))
    let s4 := s3.when (s.bit PL_STAT.REBUILD) (fun t => t.sample 0x09 (· == 1) ((s.tier.plMark - s.fld PL_RBLEFT.ROWS : Nat) : Int))
    s4.modTier (fun t => { t with rbMark := s.fld PX_RBDONE.MEMBERS, plMark := s.fld PL_RBLEFT.ROWS })

def execMediaTimeInterval (hostA hostB : Nat) (s : State) : Host.Outcome State Fault Refusal := .next (s.whileLive (fun s => s.mediaInterval hostA hostB))

end Sys2Proof.Machine
end

