-- ==== Sys2Proof/Machine/AssistRows.lean ====
section
/-! DEFINITION. The commands of the write slots (R380 to R388) and of energy assist (R330 to R350). -/
namespace Sys2Proof.Machine

/-! ### Frames on a write slot (R381 to R384) -/

/-- The place of the group in use that head `h` has. -/
def State.placeOfHead (s : State) (a : Act) (h : Nat) : Option Nat := (s.svPlaces a).find? (fun k => (s.place a k).head == h)

/-- The frame's stripe lets it be written: its open record is durable (R482). -/
def State.stripeReady (s : State) (p : Nat) : Bool :=
  match s.flightOf p with
  | some (x, _) => x.opened
  | none => true

/-- The track of a PFN counted from the first of its band of set `k`. -/
def State.relTrack (s : State) (k p : Nat) : Nat :=
  match s.band (s.pos p).surf k with
  | some (_, f) => (s.pos p).track - f
  | none => 0

/-- Every cell of the frame's band set on an earlier track has been written or passed, over all its columns (R480): the cells that are
neither lie in stripes in flight. -/
def State.trackReady (s : State) (p : Nat) : Bool :=
  match s.setOfPfn p with
  | none => true
  | some k =>
    s.tier.stripes.all (fun x => x.bs != k || (s.memberPfns k x.st).zipIdx.all (fun y => x.written.contains y.2 || decide (s.relTrack k p ≤ s.relTrack k y.1)))

/-- Queue the placed frame with PFN `p` on slot `n` of actuator `a`. -/
def State.slotCommand (s : State) (a : Act) (n p : Nat) : State :=
  match s.map.placed.find? (fun f => f.pfn == p) with
  | none => s
  | some f =>
    let k := slotNum a n
    if surfAct f.surf != a || !s.isServing (domOfAct a) || !s.stripeReady p || !s.trackReady p || [0, 1, 2, 3].any (fun j => (s.slot j).queue.any (fun g => g.pfn == p) || (s.slot j).cur.any (fun g => g.pfn == p)) then s
    else
      let s1 := s.modSlot k (fun x => { x with queue := x.queue ++ [f] })
      if s1.fld (wsState a n) == wsIdle then s1.setFld (wsState a n) wsWaiting else s1

def execWriteFrameCommand (a : Act) (slot : Fin 2) (pfn : Nat) (s : State) : Host.Outcome State Fault Refusal := .next (s.whileLive (fun s => s.slotCommand a slot pfn))

/-- The lane that demodulates head `h`: the first one bound to it, or LS in its place, in state Servo (R380, R357, R426). -/
def State.clockLane (s : State) (a : Act) (h : Nat) : Option Nat :=
  ((s.boundLanes a).find? (fun l => s.fld (LN_STAT.HEAD l) == h && s.lnState (s.readsFor l) == lnServo)).map s.readsFor

/-- A frame whose head is write-disabled or whose actuator has no TINT is refused: it is placed elsewhere (R341). -/
def State.refuseFrame (s : State) (a : Act) (n : Nat) (f : WriteFrame) (rest : List WriteFrame) : State :=
  let s1 := (s.modSlot (slotNum a n) (fun x => { x with queue := rest })).setFld (wsState a n) (if rest = [] then wsIdle else wsWaiting)
  s1.abandonFrame f.pfn 3

/-- The gate goes up: TARGET, INIT, PNOM and RLIM of the frame (R342, R350), EARLY1 and EARLY2 (R382), the clocking lane (R380). -/
def State.raiseGate (s : State) (a : Act) (n : Nat) (f : WriteFrame) (rest : List WriteFrame) (l : Nat) : State :=
  let h := f.surf % 16
  let x := s.assistPoint a h
  let c := s.setFor f.surf 0 (s.fld SP_STAT.ZONE)
  let s1 := (s.modSlot (slotNum a n) (fun y => { y with queue := rest, cur := some f })).setFld (wsState a n) wsLeading
  let s2 := (((s1.setFld (wsHead a n) h).setFld (wsLane a n) l).setFld (wsEarly1 a n) c.early1).setFld (wsEarly2 a n) c.early2
  let s3 := ((s2.setFld (asHead a n) h).setFld (asTarget a n) x.1).setFld (asCmd a n) x.2.1
  let tl : Int := (s.tintThen a + s.asLim a h 10 1) * 10
  let s4 := (s3.setFld (asTlim a n) (toTwos 16 tl)).modAslot a n (fun y => { y with
    init := x.2.1, pnom := x.2.2, rlim := s.rlim a h, duty := s.asLim a h 11 1, integ := 0, pend := x.2.1, devCount := 0, suspended := false, emitter := 1 })
  (((s4.setFld (asState a n) asLeading).setGate a n true).setFld (LN_STAT.STATE l) lnClocking).budgetSync a

/-- The slot decides on the frame at the head of its queue; up to WRITERS heads of the group in use write at once (R315). -/
def State.frameStart (s : State) (a : Act) (n : Nat) : State :=
  match (s.slot (slotNum a n)).queue with
  | [] => s
  | f :: rest =>
    let h := f.surf % 16
    if !s.isServing (domOfAct a) || s.bit FB_STAT.BASENOTE || s.gate a n || s.fld (asState a n) != asOff || s.power.frameBar || s.spindle.speedBad || s.thermalDown || (s.gate a (1 - n) && (s.throttled || s.writers a < 2)) then s
    else if s.fldBit (AS_WDIS.HEADS (actNum a)) h || s.fldThen (AS_TINT.VALID (actNum a)) == 0 then s.refuseFrame a n f rest
    else match s.placeOfHead a h, s.clockLane a h with
    | some k, some l =>
      if (s.slot (slotNum a n)).payload.length < 4096 || !s.writePermitted a k || f.track != s.placeTarget a k then s
      else if !s.budgetAdmits a n (s.assistPoint a h).2.2 then s.bump (AS_EVT.DEFER (actNum a))
      else s.raiseGate a n f rest l
    | _, _ => s

def execWriteFrameStart (a : Act) (slot : Fin 2) (s : State) : Host.Outcome State Fault Refusal := .next (s.whileLive (fun s => s.frameStart a slot))

/-- The first bit cell: write current on, the emitter at the full command (R337). -/
def State.firstCell (s : State) (a : Act) (n : Nat) : State :=
  if s.fld (asState a n) != asLeading || !s.gate a n then s
  else ((((s.setFld (asState a n) asOn).setFld (wsState a n) wsWriting).modAslot a n (fun x => { x with emitter := 2 })).blank a).budgetSync a

def execAssistFirstBitCell (a : Act) (slot : Fin 2) (s : State) : Host.Outcome State Fault Refusal := .next (s.whileLive (fun s => s.firstCell a slot))

/-- The buffer runs empty in the data field (R381). -/
def State.underrun (s : State) (a : Act) (n : Nat) : State :=
  if s.fld (wsState a n) == wsWriting || s.fld (wsState a n) == wsSuspended then (s.bump (wsUnder a n)).closeGate a n else s

def execWritePayloadUnderrun (a : Act) (slot : Fin 2) (s : State) : Host.Outcome State Fault Refusal := .next (s.whileLive (fun s => s.underrun a slot))

/-- A wedge window inside the frame: write current off, the emitter at PRE; both back after it (R338, R386). -/
def State.wedgeSuspend (s : State) (a : Act) (n : Nat) : State :=
  if s.fld (wsState a n) != wsWriting then s
  else ((s.setFld (wsState a n) wsSuspended).modAslot a n (fun x => { x with suspended := true, emitter := 1 })).blank a

def execWriteWedgeSuspend (a : Act) (slot : Fin 2) (s : State) : Host.Outcome State Fault Refusal := .next (s.whileLive (fun s => s.wedgeSuspend a slot))

def State.wedgeResume (s : State) (a : Act) (n : Nat) : State :=
  if s.fld (wsState a n) != wsSuspended then s
  else ((s.setFld (wsState a n) wsWriting).modAslot a n (fun x => { x with suspended := false, emitter := 2 })).blank a

def execWriteWedgeResume (a : Act) (slot : Fin 2) (s : State) : Host.Outcome State Fault Refusal := .next (s.whileLive (fun s => s.wedgeResume a slot))

/-- The pad is written: write current off, the gate falls, the frame is on the media (R383, R385). -/
def State.frameEnd (s : State) (a : Act) (n : Nat) : State :=
  match (s.slot (slotNum a n)).cur with
  | none => s
  | some f =>
    if s.fld (wsState a n) != wsWriting then s
    else
      let s1 := (((s.blank a).setGate a n false).setFld (asState a n) asOff).modAslot a n (fun x => { x with emitter := 0, closeTick := some s.tick })
      let s2 := (s1.modSlot (slotNum a n) (fun x => { x with cur := none, payload := [] })).setFld (wsState a n) (if (s.slot (slotNum a n)).queue = [] then wsIdle else wsWaiting)
      (((s2.bump (wsWritten a n)).unclock a n).budgetSync a).frameWritten f

def execWriteFrameEnd (a : Act) (slot : Fin 2) (s : State) : Host.Outcome State Fault Refusal := .next (s.whileLive (fun s => s.frameEnd a slot))

/-! ### The power loop (R331 to R336, R344) -/

/-- AS_TEMPn.TEST: the temperature the sensor resistance stands for, in 0.1 degC. -/
def State.sensorTemp (s : State) (a : Act) (h res : Nat) : Int :=
  let rref : Int := s.asLim a h 6 2
  let tcr : Int := s.asLim a h 8 2
  if rref * tcr = 0 then 250 else 250 + ((res : Int) - rref) * 10000000 / (rref * tcr)

/-- A head becomes write-disabled after too many events (R344). -/
def State.writeDisableFor (s : State) (a : Act) (n h : Nat) : State := (s.assistFault a n (AS_FAULT.WDISABLE (actNum a))).writeDisable a h

/-- The command computed from a period's monitor average (R333): INIT with a proportional-integral correction, clamped to CMDMAX. -/
def State.assistNext (s : State) (a : Act) (n mon : Nat) : State :=
  let h := s.fld (asHead a n)
  let err : Int := (s.fld (asTarget a n) : Int) - mon
  let x := s.aslot a n
  let i := x.integ + (s.asBudget a 4 2 : Int) * err
  let c : Int := x.init + ((s.asBudget a 2 2 : Int) * err + i) / 256
  let top : Int := s.asLim a h 4 2
  s.modAslot a n (fun y => { y with integ := i, pend := (if c < 0 then 0 else if top < c then top else c).toNat })

/-- The monitor of a slot in On against DEVLIM (R341, R344). -/
def State.deviation (s : State) (a : Act) (n mon : Nat) : State :=
  let h := s.fld (asHead a n)
  let t := s.fld (asTarget a n)
  let out := decide (s.asLim a h 12 1 * t < 100 * absDiff mon t)
  let k := if out then (s.aslot a n).devCount + 1 else 0
  let s1 := s.modAslot a n (fun x => { x with devCount := k })
  if k < 8 then s1
  else
    let s2 := ((s1.bump (AS_ABORT.DEVABORT (actNum a))).assistFault a n (AS_FAULT.DEVIATION (actNum a))).closeGate a n
    let s3 := s2.modHead a h (fun x => { x with devTicks := recent s.tick (secTicks 60) x.devTicks })
    if 16 ≤ (s3.head a h).devTicks.length then s3.writeDisableFor a n h else s3

/-- One slot at a loop boundary: the sensor fault, then, in On and outside a wedge, deviation and the next command. -/
def State.loopSlot (s : State) (a : Act) (n : Nat) (v : AssistIn) : State :=
  let h := s.fld (asHead a n)
  if !s.gate a n then s
  else if v.rail then ((s.assistFault a n (AS_FAULT.SENSOR (actNum a))).closeGate a n).writeDisable a h
  else
    let s1 := s.setFld (asTest a n) (toTwos 16 (s.sensorTemp a h v.res))
    if s.fld (asState a n) != asOn || (s.aslot a n).suspended then s1
    else
      let s2 := (s1.setFld (asMon a n) v.mon).sample 0x05 (· == 2 * actNum a + n) v.mon
      (s2.assistNext a n v.mon).deviation a n v.mon

/-- The frame of R334 for a slot: slot, command, CRC-8 of both bytes. -/
def paFrame (n cmd : Nat) : Nat := (n * 32768 + cmd) * 256 + crc8 [BitVec.ofNat 8 ((n * 32768 + cmd) / 256), BitVec.ofNat 8 (n * 32768 + cmd)]

/-- The frames of a period's assist window: one for each open slot, with the command computed for it, or the one it has (R334). -/
def State.assistFrames (s : State) (a : Act) : List Nat :=
  ([0, 1].filter (s.gate a)).map (fun n => paFrame n (if s.fld (asState a n) == asOn then (s.aslot a n).pend else s.fld (asCmd a n)))

/-- A loop boundary: commands computed in the period before are applied, unless they were missed, then the period's samples are
taken. -/
def State.loopBoundary (s : State) (a : Act) (v0 v1 : AssistIn) : State :=
  if !s.gate a 0 && !s.gate a 1 then s.modAs a (fun x => { x with misses := 0, missed := false })
  else
    let late := (s.as a).missed
    let put := fun (t : State) (n : Nat) =>
      if late || !t.gate a n || t.fld (asState a n) != asOn then t
      else t.setFld (asCmd a n) (t.aslot a n).pend
    let s1 := (put (put s 0) 1).modAs a (fun x => { x with misses := if late then x.misses else 0, missed := false, paFrames := if late then [] else s.assistFrames a })
    (((s1.loopSlot a 0 v0).loopSlot a 1 v1).budgetSync a)

def execAssistLoopBoundary (a : Act) (v0 v1 : AssistIn) (s : State) : Host.Outcome State Fault Refusal := .next (s.whileLive (fun s => s.loopBoundary a v0 v1))

/-- The commands are not in the FIFO at the deadline (R336): a second miss in a row faults the assist helper. -/
def State.assistMiss (s : State) (a : Act) : State :=
  if !s.gate a 0 && !s.gate a 1 then s
  else
    let s1 := (s.bump (AS_ABORT.MISS (actNum a))).modAs a (fun x => { x with misses := x.misses + 1, missed := true })
    if (s1.as a).misses < 2 then s1
    else
      let s2 := (s1.assistFault a 0 (AS_FAULT.WDOG2 (actNum a))).modAs a (fun x => { x with misses := 0 })
      match s2.helperOf 4 (actNum a) with
      | some h => s2.missedTwice h
      | none => s2

def execAssistDeadlineMiss (a : Act) (s : State) : Host.Outcome State Fault Refusal := .next (s.whileLive (fun s => s.assistMiss a))

/-! ### Protection (R342 to R346, R349) -/

/-- A sensor sample `res` (0.1 ohm) of an open slot against RLIM. A gate that another cause closed in this tick trips all the same. -/
def State.overtemp (s : State) (a : Act) (n res : Nat) : State :=
  let x := s.aslot a n
  let h := s.fld (asHead a n)
  if !(s.gate a n || (x.closeTick == some s.tick && s.fld (asState a n) == asOff)) || res ≤ x.rlim then s
  else
    let s1 := ((s.bump (AS_EVT.TRIPS (actNum a))).assistFault a n (AS_FAULT.OVERTEMP (actNum a))).setFld (asTest a n) (toTwos 16 (s.sensorTemp a h res))
    let s2 := if s.gate a n then s1.closeGateTo a n asCooling else s1.setFld (asState a n) asCooling
    let s3 := s2.modHead a h (fun y => { y with tripTicks := recent s.tick (secTicks 10) y.tripTicks })
    if 4 ≤ (s3.head a h).tripTicks.length then s3.writeDisableFor a n h else s3

def execOvertempTrip (a : Act) (slot : Fin 2) (res : Nat) (s : State) : Host.Outcome State Fault Refusal := .next (s.whileLive (fun s => s.overtemp a slot res))

def execCoolingEnd (a : Act) (slot : Fin 2) (s : State) : Host.Outcome State Fault Refusal :=
  .next (s.whileLive (fun s => if s.fld (asState a slot) == asCooling then s.setFld (asState a slot) asOff else s))

/-- PA_x_FLT_L low: every gate of the actuator closes, and its domain faults. -/
def State.preampFault (s : State) (a : Act) : State :=
  (((s.assistFault a 0 (AS_FAULT.PAFLT (actNum a))).closeGates a).domainFault (domOfAct a) 4).domSettle.standbyStep

def execPreampFaultPin (a : Act) (s : State) : Host.Outcome State Fault Refusal := .next (s.whileLive (fun s => s.preampFault a))

/-- A read of the preamplifier's temperature; one that fails its CRC keeps the value (R349). -/
def State.tintRead (s : State) (a : Act) (ok : Bool) (temp : Int) : State :=
  let s := s.modAs a (fun x => { x with paRead := some (paRegFrame true 8 0) })
  if !ok then s
  else ((((s.setFld (AS_TINT.TINT (actNum a)) (toTwos 8 temp)).setBit (AS_TINT.VALID (actNum a))).modAs a (fun x => { x with tintTick := s.tick }))).calSync

def execPreampTempRead (a : Act) (ok : Bool) (temp : Int) (s : State) : Host.Outcome State Fault Refusal := .next (s.whileLive (fun s => s.tintRead a ok temp))

/-- No valid temperature for 5 s. -/
def State.tintLost (s : State) (a : Act) : State :=
  if !s.bit (AS_TINT.VALID (actNum a)) then s else (s.clrBit (AS_TINT.VALID (actNum a))).assistFault a 0 (AS_FAULT.TINTLOST (actNum a))

def execTintLost (a : Act) (s : State) : Host.Outcome State Fault Refusal := .next (s.whileLive (fun s => s.tintLost a))

end Sys2Proof.Machine
end

