-- ==== Sys2Proof/Machine/Calibration.lean ====
section
/-! DEFINITION. The commands of lane calibration (R424 to R434). -/
namespace Sys2Proof.Machine

/-- Which due lane runs next with LS: by cause 5, 3, 1, 2, then actuator A first, then the lower lane (R424). -/
def State.calRank (s : State) (l : Nat) : Nat :=
  let c := s.causes l
  let k := if natBit c 5 then 0 else if natBit c 3 then 1 else if natBit c 1 then 2 else 3
  k * 32 + actNum (s.lnAct l) * 16 + l

def State.calFirst (s : State) (l : Nat) : Bool :=
  (List.range 8).all (fun k => s.causes k == 0 || s.lnState k == lnOff || (s.run? k).isSome ||
    !s.isServing (domOfAct (s.lnAct k)) || decide (s.calRank l ≤ s.calRank k))

/-- The lane set in use: ADC offset and skews 1 to 3. -/
def State.adcOf (s : State) (l : Nat) : List Nat :=
  [s.fld (LN_ADC.OFFSET l), s.fld (LN_ADC.SKEW1 l), s.fld (LN_ADC.SKEW2 l), s.fld (LN_ADC.SKEW3 l)]

/-- LS joins the lane's head (R426). -/
def State.standIn (s : State) (l : Nat) : State :=
  let s1 := (s.setBit (LN_STAT.STANDIN 8)).setFld (LN_STAT.INSEL 8) (s.fld (LN_STAT.INSEL l))
  let s2 := ((s1.setFld (LN_STAT.ACT 8) (s.fld (LN_STAT.ACT l))).setFld (LN_STAT.HEAD 8) (s.fld (LN_STAT.HEAD l))).setFld (LN_STAT.PLACE 8) (s.fld (LN_STAT.PLACE l))
  let s3 := (((s2.setFld (LN_STAT.STATE 8) lnServo).setFld (LN_RATE.RATE 8) (s.fld (LN_RATE.RATE l))).setFld (LN_RATE.ZONE 8) (s.fld (LN_RATE.ZONE l))).modCal (fun c => { c with lsUse := 1 })
  s3.loadSet 8 (s.setFor (s.laneHead l) (s.laneReader l) (s.fld SP_STAT.ZONE))

/-- A run of lane `l` starts: in place while its domain is Restoring, and for LS; otherwise LS stands in, and the run waits
while LS is in use or degraded (R424 to R426, R434, R435). -/
def State.runStart (s : State) (l : Nat) : State :=
  if 9 ≤ l || s.causes l == 0 || (s.run? l).isSome || s.bit FB_STAT.BASENOTE then s
  else
    let d := (s.dom (domOfAct (s.lnAct l))).st
    let inPlace := l == 8 || d == .restoring
    let free := s.cal.lsUse == 0
    if l != 8 && (s.lnState l == lnOff || !(d == .serving || d == .restoring)) then s
    else if !inPlace && (!s.calFirst l || s.throttled || s.thermalDown) then s
    else if (l == 8 || !inPlace) && !(free && (l == 8 || !s.bit (LN_STAT.DEGRADED 8))) then s.setBit CL_STAT.LSWAIT
    else
      let own := (s.cal.asked.filter (fun x => x.1 == l)).map (fun x => (x.2.1, x.2.2))
      let r : CalRun := ⟨l, 1, inPlace, s.tick, toTwos 8 s.tjDeg, toTwos 8 (s.tintDeg (s.lnAct l)), s.fld SP_STAT.ZONE, s.adcOf l,
        s.setFor (s.laneHead l) (s.laneReader l) (s.fld SP_STAT.ZONE), false, s.laneKey l, own, 0, 0, [], none⟩
      let s1 := s.modCal (fun c => { c with runs := c.runs ++ [r], asked := c.asked.filter (fun x => x.1 != l) })
      let s2 := if inPlace then s1 else s1.standIn l
      (s2.clrBit CL_STAT.LSWAIT).runSync

def execCalRunStart (lane : Nat) (s : State) : Host.Outcome State Fault Refusal := .next (s.whileLive (fun s => s.runStart lane))

/-- A found value taken into the run, where it is the current step's (R429). -/
def CalRun.take (r : CalRun) (f : CalFind) : Option CalRun :=
  let c := r.newSet
  match r.step, f with
  | 1, .offset v => some { r with step := 2, newAdc := r.newAdc.set 0 (v % 256) }
  | 2, .skews x y z => some { r with step := 3, newAdc := [(r.newAdc[0]?).getD 0, x % 128, y % 128, z % 128] }
  | 3, .filter x y => some { r with step := 4, newSet := { c with cutoff := x % 256, boost := y % 256 } }
  | 4, .gain v => some { r with step := 5, newSet := { c with start := v % 256 } }
  | 5, .fir t g1 g2 w o n => some { r with step := 6, better := decide (n ≤ o), newSet := { c with taps := (t.take 16).map (· % 1024), g1 := g1 % 1024, g2 := g2 % 1024, nweight := w % 65536 } }
  | 6, .sync n => some { r with step := 7, newSet := { c with syncth := Nat.max 20 (Nat.min 32 (n - 2)) } }
  | 7, .early d1 d2 _ =>
    let mv := fun (v : Nat) (d : Int) => if 0 < d then Nat.min 16 (v + 1) else if d < 0 then v - 1 else v
    some { r with step := 8, newSet := { c with early1 := mv c.early1 d1, early2 := mv c.early2 d2 } }
  | _, _ => none

/-- No new coefficient lies at a limit of its range (R430, R353, R382, R420). -/
def CalRun.inside (r : CalRun) : Bool :=
  let c := r.newSet
  let tap := fun (v : Nat) => v != 511 && v != 512
  (r.newAdc[0]?).getD 0 != 127 && (r.newAdc[0]?).getD 0 != 128 && (r.newAdc.drop 1).all (fun v => v != 63 && v != 64) &&
    decide (64 < c.cutoff ∧ c.cutoff < 154) && decide (0 < c.boost ∧ c.boost < 24) && decide (0 < c.start ∧ c.start < 144) &&
    c.taps.all tap && tap c.g1 && tap c.g2 && decide (64 < c.nweight ∧ c.nweight < 1024) && decide (20 < c.syncth ∧ c.syncth < 32) &&
    decide (0 < c.early1 ∧ c.early1 < 16) && decide (0 < c.early2 ∧ c.early2 < 16)

/-- An accepted run is applied between two counts of CL_SEQ; a read-back that differs restores the old values and rejects the
run (R431, R432). -/
def State.applyRun (s : State) (r : CalRun) (ok : Bool) : State :=
  let l := r.lane
  let s1 := s.setFld CL_SEQ.SEQ (s.fld CL_SEQ.SEQ + 2)
  if !ok then s1.rejectRun r calReadBack
  else
    let v := fun (k : Nat) => (r.newAdc[k]?).getD 0
    let s2 := (((s1.setFld (LN_ADC.OFFSET l) (v 0)).setFld (LN_ADC.SKEW1 l) (v 1)).setFld (LN_ADC.SKEW2 l) (v 2)).setFld (LN_ADC.SKEW3 l) (v 3)
    let s3 := (s2.loadSet l r.newSet).modCal (fun c => { c with
      sets := SMap.set (fun _ => none) c.sets r.key (some { r.newSet with tj := r.tj, tint := r.tint })
      accepts := SMap.modify (fun _ => 0) c.accepts l (· + 1) })
    let s4 := ((s3.runRecord r calAccepted).bump CL_RUNS.ACCEPT).setFld (CL_LAST.REJCNT l) 0
    if s4.bit (LN_STAT.DEGRADED l) && 2 ≤ SMap.get (fun _ => 0) s4.cal.accepts l then s4.markDegraded l false else s4

/-- A run whose steps are done is accepted or rejected (R430). -/
def State.runEnds (s : State) (r : CalRun) (ok : Bool) : State :=
  if !r.inside then s.rejectRun r calRange
  else if !r.better then s.rejectRun r calNotBetter
  else s.applyRun r ok

/-- An in-place run writes its coefficients once no frame is in progress on its lane (R431). -/
def State.applyWaiting (s : State) (l : Nat) : State :=
  match s.run? l with
  | some r => match r.applyDue with
    | some ok => if (s.lane l).cur.isNone then s.runEnds r ok else s
    | none => s
  | none => s

/-- A step completes: the run moves on, or is accepted or rejected after step 7 (R430). -/
def State.stepDone (s : State) (l : Nat) (f : CalFind) : State :=
  match s.run? l with
  | none => s
  | some r =>
    match r.take f with
    | none => s
    | some r1 =>
      let s1 := (s.modCal (fun c => { c with runs := c.runs.map (fun x => if x.lane == l then r1 else x) })).runSync
      if r1.step < 8 then s1
      else
        let ok := match f with
          | .early _ _ b => b
          | _ => true
        if r1.inPlace && (s1.lane l).cur.isSome then
          s1.modCal (fun c => { c with runs := c.runs.map (fun x => if x.lane == l then { x with applyDue := some ok } else x) })
        else s1.runEnds r1 ok

def execCalStepDone (lane : Nat) (r : CalFind) (s : State) : Host.Outcome State Fault Refusal := .next (s.whileLive (fun s => s.stepDone lane r))

/-- 250 ms pass before the steps complete (R430). -/
def execCalTimeout (lane : Nat) (s : State) : Host.Outcome State Fault Refusal :=
  .next (s.whileLive (fun s => s.onSome (s.run? lane) (fun t r => t.rejectRun r calTimedOut)))

/-- Every 60 s cause 1 is raised for each degraded lane (R434). -/
def execDegradedRecalTimer (s : State) : Host.Outcome State Fault Refusal :=
  .next (s.whileLive (fun s => (s.each lanes9 (fun t l => if t.bit (LN_STAT.DEGRADED l) then t.setCause l 1 else t)).calSync))

end Sys2Proof.Machine
end

