-- ==== Sys2Proof/Machine/Lanes.lean ====
section
/-! DEFINITION. The commands of the read lanes (R353 to R379, R395 to R398). -/
namespace Sys2Proof.Machine

/-- Lane `l` is the second lane of a head in S mode (R357). -/
def State.isSecond (s : State) (l : Nat) : Bool :=
  s.asLane l < 8 && s.readMode (s.lnAct l) == 1 && (s.boundLanes (s.lnAct l))[1]? == some (s.asLane l)

/-- Its partner, or LS in the partner's place. -/
def State.secondOf (s : State) (l : Nat) : Option Nat :=
  if s.asLane l < 8 && s.readMode (s.lnAct l) == 1 && (s.boundLanes (s.lnAct l))[0]? == some (s.asLane l) then
    ((s.boundLanes (s.lnAct l))[1]?).map s.readsFor
  else none

/-- Preset the cell rate for a track: RATE x S / 7,200 at the measured speed (R354). -/
def State.presetRate (s : State) (l surf track : Nat) : State :=
  let z := s.zoneOfTrack surf track
  let r := Nat.min 4000 (s.zn surf z 10 2 * s.fld SP_SPEED.SPEED / fullSpeed)
  (s.setFld (LN_RATE.RATE l) r).setFld (LN_RATE.ZONE l) z

/-! ### Binding (R356, R357, R378) -/

def State.laneBind (s : State) (l : Nat) : State :=
  match s.laneAct l with
  | none => s
  | some a =>
    let d := (s.dom (domOfAct a)).st
    if s.lnState l != lnOff || 8 ≤ l || !(d == .serving || d == .restoring) then s
    else
      let s1 := ((s.setFld (LN_STAT.ACT l) (actNum a)).setFld (LN_STAT.INSEL l) (s.insel a l)).setFld (LN_STAT.STATE l) lnServo
      let hs := (s1.svPlaces a).map (fun k => (s1.place a k).head)
      let s2 := s1.bindLanes a hs
      let s3 := s2.presetRate l (s2.laneHead l) (s2.fld (SV_TARGET.TRACK (actNum a)))
      (s3.applySet l).calSync

def execLaneBind (lane : Nat) (s : State) : Host.Outcome State Fault Refusal := .next (s.whileLive (fun s => s.laneBind lane))

/-- Unbinding ends the lane's work and abandons a calibration run of it (R378, R435). -/
def State.laneUnbind (s : State) (l : Nat) : State := (s.abandonRuns (fun r => r.lane == l)).laneOff l

def execLaneUnbind (lane : Nat) (s : State) : Host.Outcome State Fault Refusal := .next (s.whileLive (fun s => s.laneUnbind lane))

/-! ### Frame commands (R377) -/

/-- A command completes SKIPPED. -/
def State.skipFrame (s : State) (l : Nat) (c : FrameCmd) : State :=
  let s1 := (s.postStatus l (s.emptyRec l c lsSkipped)).bump (LN_SYNCEV.SKIP l)
  if c.cal then s1 else s1.reread l c

/-- The command for a frame of a track by the head of lane `l`. -/
def State.mkCmd (s : State) (l track frame startTick : Nat) : FrameCmd :=
  let sf := s.laneHead l
  let p := framePos (s.zn sf (s.zoneOfTrack sf track) 10 2) frame
  ⟨track, frame, s.fld (LN_STAT.HEAD l), (trackStart track + p.1) % 500, p.2, startTick, false⟩

/-- Queue a command: late ones are SKIPPED; a full queue of 8 takes none. -/
def State.queueFrame (s : State) (l : Nat) (c : FrameCmd) : State :=
  if s.lnState l == lnOff then s
  else if c.startTick < s.tick + 50 then s.skipFrame l c
  else if 8 ≤ (s.lane l).queue.length then s
  else s.modLane l (fun x => { x with queue := x.queue ++ [c] })

/-- In S mode the first lane's sequencer issues the commands of both lanes (R379). In Throttle only places 0 and 1 read (R614). A domain
that does not serve is issued no work (R30). The commands of a lane that LS stands in for go to LS (R426). -/
def State.frameCommand (s : State) (l track frame startTick : Nat) : State :=
  if 9 ≤ l || s.isSecond l || !s.isServing (domOfAct (s.lnAct l)) || (s.throttled && decide (2 ≤ s.fld (LN_STAT.PLACE l))) || s.thermalDown then s
  else
    let k := s.readsFor l
    let s1 := s.queueFrame k (s.mkCmd k track frame startTick)
    match s.secondOf l with
    | some m => s1.queueFrame m (s1.mkCmd m track frame startTick)
    | none => s1

def execFrameCommand (lane track frame startTick : Nat) (s : State) : Host.Outcome State Fault Refusal :=
  .next (s.whileLive (fun s => s.frameCommand lane track frame startTick))

def State.positionPassed (s : State) (l : Nat) : State :=
  match (s.lane l).queue with
  | [] => s
  | c :: rest => if s.lnState l == lnServo then (s.modLane l (fun x => { x with queue := rest })).skipFrame l c else s

def execFramePositionPassed (lane : Nat) (s : State) : Host.Outcome State Fault Refusal := .next (s.whileLive (fun s => s.positionPassed lane))

/-! ### Capture and sync (R366 to R371) -/

/-- Whole capture of a command's frame. -/
def State.cmdCapLen (s : State) (l : Nat) (c : FrameCmd) : Nat :=
  let sf := s.cmdSurf l c
  let rate := s.zn sf (s.zoneOfTrack sf c.track) 10 2
  let p := framePos rate c.frame
  capLen rate p.1 p.2

/-- The lane fills an extent; a capture that does not fit starts a new one (R399). -/
def State.roomFor (s : State) (l n : Nat) : State :=
  let x := s.lane l
  if x.extent.isSome && decide (x.unit + n ≤ extentUnits) then s
  else
    let r := s.takeExtent
    r.1.modLane l (fun y => { y with extent := r.2, unit := 0 })

/-- The gain the AGC acquires in a preamble, 0 to 144 in 0.25 dB; the spec gives no rule for its value (a free value). -/
def State.acquireGain (s : State) (l : Nat) : State := s.drawFree.setFld (LN_GAIN.GAIN l) ((Config.freeValue s.freeIdx).toNat % 145)

/-- The lane that shadows lane `l`: the one LS stands in for, once its own frames are done (R426). -/
def State.shadow (s : State) (l : Nat) : Option Nat :=
  if l = 8 && s.cal.lsUse == 1 then s.standsFor.filter (fun m => s.lnState m == lnServo && (s.lane m).queue == [] && (s.lane m).cur.isNone) else none

/-- A frame read now is off track: its head is not among those that follow (R311, R316, R318). -/
def State.offTrackNow (s : State) (l : Nat) : Bool :=
  let a := s.lnAct l
  s.svState a != svFollowing || !(s.place a (s.fld (LN_STAT.PLACE l))).active

/-- The predicted capture start of the queue head. -/
def State.captureStart (s : State) (l : Nat) : State :=
  let x := s.lane l
  match x.queue, x.cur with
  | c :: rest, none =>
    if !(s.lnState l == lnServo || s.lnState l == lnReading) then s
    else
      let n := s.cmdCapLen l c / 256
      let s0 := (s.presetRate l (s.cmdSurf l c) c.track).roomFor l n
      let s1 := s0.onSome (s.shadow l) (fun t m => t.roomFor m n)
      let s2 := s1.modLane l (fun y => { y with queue := rest, cur := some c, found := false, missed := false, inline := false, syncOff := 0, syncCnt := 0, erased := 0, offTrack := s.offTrackNow l, capTick := s.tick })
      ((s2.setFld (LN_STAT.STATE l) lnReading).setBit (LN_STAT.LOCK l)).acquireGain l
  | _, _ => s

def execCaptureStart (lane : Nat) (s : State) : Host.Outcome State Fault Refusal := .next (s.whileLive (fun s => s.captureStart lane))

/-- The required count at a position with `u` unblanked cells (R389); none with fewer than 16. -/
def syncNeed (th u : Nat) : Option Nat := if u < 16 then none else some ((th * u + 31) / 32)

/-- SYNCPAT, its first cell from bit 31 (R359). -/
def syncPattern (pat : Nat) : List Bool := (List.range 32).map (fun k => natBit pat (31 - k))

/-- At each position P - r to P + r: how many unblanked cells agree with SYNCPAT, and how many are unblanked (R366, R389). `cells` begins
at the first cell of position P - r; r is 8 in line and 32 in a re-search (R410). -/
def syncCounts (r pat : Nat) (cells : List SlicedCell) : List (Nat × Nat) :=
  (List.range (2 * r + 1)).map (fun k =>
    let w := (cells.drop k).take 32
    ((w.zip (syncPattern pat)).countP (fun x => x.1 == some x.2), w.countP Option.isSome))

/-- Candidates of one head as (index from P - r on, count, required count): with two readers, the sums of counts and thresholds
(R358). -/
def syncCands (r th1 th2 : Nat) (two : Bool) (c1 c2 : List (Nat × Nat)) : List (Nat × Nat × Option Nat) :=
  (List.range (2 * r + 1)).map (fun k =>
    let a := (c1[k]?).getD (0, 0)
    let b := (c2[k]?).getD (0, 0)
    if two then (k, a.1 + b.1, (syncNeed th1 a.2).bind (fun x => (syncNeed th2 b.2).map (fun y => x + y)))
    else (k, a.1, syncNeed th1 a.2))

/-- Position `x` beats `y`: a higher count; then nearer P; then earlier. -/
def syncBeats (r : Nat) (x y : Nat × Nat) : Bool :=
  if x.2 != y.2 then decide (y.2 < x.2)
  else
    let d := fun (k : Nat) => if k < r then r - k else k - r
    if d x.1 != d y.1 then decide (d x.1 < d y.1) else decide (x.1 < y.1)

def syncBest (r : Nat) : List (Nat × Nat) → Option (Nat × Nat)
  | [] => none
  | x :: l => match syncBest r l with
    | some y => if syncBeats r y x then some y else some x
    | none => some x

/-- The position that a search over P - r to P + r takes, with its count, and the highest count of any position. -/
def syncSearch (r pat th1 th2 : Nat) (two : Bool) (cells1 cells2 : List SlicedCell) : Option (Nat × Nat) × Nat :=
  let cs := syncCands r th1 th2 two (syncCounts r pat cells1) (syncCounts r pat cells2)
  (syncBest r (cs.filterMap (fun x => match x.2.2 with
    | some need => if need ≤ x.2.1 then some (x.1, x.2.1) else none
    | none => none)), cs.foldl (fun n x => Nat.max n x.2.1) 0)

/-- Record the decision for a lane. -/
def State.putSync (s : State) (l : Nat) (best : Option (Nat × Nat)) (top : Nat) : State :=
  s.modLane l (fun x => match best with
    | some b => { x with found := true, missed := false, syncOff := (b.1 : Int) - 8, syncCnt := b.2 }
    | none => { x with found := false, missed := true, syncOff := 0, syncCnt := top })

/-- The position that the search of R366 takes, with its count, and the highest count of any position. -/
def State.syncVerdict (s : State) (l : Nat) (cells1 cells2 : List SlicedCell) : Option (Nat × Nat) × Nat :=
  let m := s.secondOf l
  syncSearch 8 s.syncPat (s.fld (LN_SYNC.SYNCTH l)) (s.fld (LN_SYNC.SYNCTH (m.getD l))) m.isSome cells1 cells2

/-- The decision of R366: found with its offset, or missed. -/
def State.syncDecision (s : State) (l : Nat) (cells1 cells2 : List SlicedCell) : State :=
  if s.lnState l != lnReading || (s.lane l).cur.isNone || (s.lane l).found || (s.lane l).missed || s.isSecond l then s
  else
    let v := s.syncVerdict l cells1 cells2
    let s1 := s.putSync l v.1 v.2
    match s.secondOf l with
    | some k => s1.putSync k v.1 v.2
    | none => s1

def execSyncDecision (lane : Nat) (cells cells2 : List SlicedCell) (s : State) : Host.Outcome State Fault Refusal :=
  .next (s.whileLive (fun s => s.syncDecision lane cells cells2))

/-! ### In-line decode (R395 to R398) -/

/-- The frame written at a place. -/
def State.frameAt (s : State) (surf track frame : Nat) : Option Frame := SMap.get (fun _ => none) s.map.media (s.pfn surf track frame)

/-- The data field that the medium holds for a frame as it was written (R360, R361, R394). -/
def Frame.word (f : Frame) (surf track frame : Nat) : Nat := frameWord (trackWord surf track) frame f.kind f.seq f.tag (frameBytes f.slots)

/-- The information bits a decoder delivers for a frame at a place, descrambled. -/
def decodedInfo (d : DecodeRes) (surf track frame : Nat) : Nat := wordInfo d.bits (trackWord surf track) frame

/-- TRACK and FRAME of the information bits are those of the frame command. -/
def placeOk (info surf track frame : Nat) : Bool := infoField info 0 4 == trackWord surf track && infoField info 4 2 == frame

/-- A valid decode (R396) within `limit` iterations: a zero syndrome, the CRC, the place, and the KIND that the owner expects, which is
that of the frame written there (assumption 98). -/
def State.decodeValid (s : State) (surf track frame limit : Nat) (d : DecodeRes) : Bool :=
  let i := decodedInfo d surf track frame
  decide (d.iters ≤ limit) && isCodeword d.bits && infoCrcOk i && placeOk i surf track frame &&
    (s.frameAt surf track frame).map Frame.kind == some (infoField i 6 1)

/-- Miscorrections and misplacements (R396). -/
def State.countFail (s : State) (surf track frame : Nat) (d : DecodeRes) : State :=
  let i := decodedInfo d surf track frame
  if !(isCodeword d.bits) then s
  else if !(infoCrcOk i) then s.bump DD_FAILS.MISCORR
  else if !(placeOk i surf track frame) then s.bump DD_FAILS.MISPLACE
  else s

/-- A valid decode is what the device has of a frame from then on: its blocks, TAG and SEQ (assumption 98). -/
def State.readAs (s : State) (surf track frame info : Nat) : State :=
  let f : Frame := ⟨infoField info 6 1, infoField info 16 8, infoField info 8 8, frameSlots (infoPayload info)⟩
  s.modMap (fun m => { m with media := SMap.set (fun _ => none) m.media (s.pfn surf track frame) (some f) })

/-- The iteration limit in line (R395): S mode 4, D mode 3, Q mode 16. -/
def State.inlineLimit (s : State) (a : Act) : Nat := if s.readMode a = 1 then 4 else if s.readMode a = 2 then 3 else 16

/-- The in-line decoder's result: held when the buffer has room for it. It does not run on a missed mark or on a frame read
off-track (R368, R376), nor for the second reader of a head (R357, R411). -/
def State.inlineResult (s : State) (l : Nat) (d : DecodeRes) : State :=
  let x := s.lane l
  match x.cur with
  | none => s
  | some c =>
    let sf := s.cmdSurf l c
    if s.lnState l != lnReading || !x.found || x.offTrack || x.inline || s.isSecond l || (l == 8 && s.cal.lsUse == 2) then s
    else if !(s.decodeValid sf c.track c.frame (s.inlineLimit (s.lnAct l)) d) then s.countFail sf c.track c.frame d
    else
      let i := decodedInfo d sf c.track c.frame
      let s1 := s.readAs sf c.track c.frame i
      if c.cal then s1.modLane l (fun y => { y with inline := true })
      else if 2 ≤ x.results.length then s1.bump DD_INLINE.RESDROP
      else s1.modLane l (fun y => { y with inline := true, results := y.results ++ [⟨trackWord sf c.track, c.frame, infoHeader i, infoPayload i⟩] })

def execInlineDecodeResult (lane : Nat) (r : DecodeRes) (s : State) : Host.Outcome State Fault Refusal :=
  .next (s.whileLive (fun s => State.standbyStep ((s.inlineResult lane r))))

/-! ### Sector end and recovery dispatch (R375, R376, R379) -/

/-- The recovery that waits for a pass of the frame. -/
def State.passFor (s : State) (surf track frame : Nat) : Option Recovery :=
  s.decode.active.find? (fun r => r.wait == 1 && r.surf == surf && r.track == track && r.frame == frame)

/-- A frame has been read validly. -/
def State.frameGood (s : State) (surf track frame : Nat) : State :=
  match s.recoveries.find? (fun r => r.surf == surf && r.track == track && r.frame == frame) with
  | some r => (s.setDirect surf track frame 0).recovered r
  | none => ((s.setDirect surf track frame 0).unwait (s.pfn surf track frame)).resumeReads

/-- A frame read without a valid in-line decode: a new pass of a frame in recovery goes through the fixed steps (R412); any
other frame is to be escalated (R405). -/
def State.frameBad (s : State) (surf track frame : Nat) (miss : Bool) : State :=
  let es := (s.indexOf (trackWord surf track) frame).map (fun i => i.extent) |>.eraseDups
  let two := (s.indexOf (trackWord surf track) frame).any (fun i => i.reader1)
  match s.passFor surf track frame with
  | some r =>
    let new := es.filter (fun e => !r.extents.contains e)
    match s.pin new with
    | some t => t.enqueue { r.first with stage := if miss then 0 else 2, miss := miss, retained := true, two := two, passes := r.passes + 1, zones := s.fld SP_STAT.ZONE :: r.zones, extents := r.extents ++ new }
    | none => (s.bump DD_SSLOSS.PINREF).climb { r with retained := false, passes := r.passes + 1, wait := 0 } r.next
  | none =>
    let r : Recovery := { surf := surf, track := track, frame := frame, cls := 2, tick := s.tick, stage := if miss then 0 else 2, offs := 0, next := 0, code := 0, miss := miss, retained := es != [], two := two, passes := 0, zones := [s.fld SP_STAT.ZONE], extents := es, extra := [], unit := none, owner := 0, wait := 0 }
    s.modDecode (fun d => { d with failed := d.failed.filter (fun q => !q.same r) ++ [r] })

/-- Recoveries that waited for this capture of a neighbour go on (R417). -/
def State.neighbourRead (s : State) (surf track frame : Nat) : State :=
  s.each (s.decode.active.filter (fun r => (r.wait == 2 || r.wait == 3) && r.surf == surf && (s.neighbours surf r.track).contains track && s.overlap surf r.track r.frame track frame))
    (fun t r => if t.neighbourQueued r then t
      else
        let es := ((t.neighbourCaps r).map (fun i => i.extent)).eraseDups
        match t.pin es with
        | some v => v.enqueue { r with extra := es, wait := 0 }
        | none => (t.bump DD_SSLOSS.PINREF).climb { r with wait := 0 } r.next)

/-- The sequencer's dispatch by status, the off-track mark first (R376). -/
def State.dispatch (s : State) (l : Nat) (c : FrameCmd) (off late inline miss : Bool) : State :=
  let sf := s.cmdSurf l c
  if s.isSecond l || s.asLane l == 8 || c.cal then s
  else if off then s.reread l c
  else if inline then s.frameGood sf c.track c.frame
  else if late then s.reread l c
  else s.frameBad sf c.track c.frame miss

/-- An offset re-read's shift ends with its pass; LS is free after its own. -/
def State.passOver (s : State) (l : Nat) : State :=
  if l = 8 then
    if s.cal.lsUse == 2 then ((s.modCal (fun c => { c with lsUse := 0 })).setFld (LN_STAT.STATE 8) lnOff).setFld (LN_STAT.INSEL 8) 0xF else s
  else
    let k := s.fld (LN_STAT.PLACE l)
    if k < 4 && (s.place (s.lnAct l) k).dtoff != 0 then s.modPlace (s.lnAct l) k (fun p => { p with dtoff := 0 }) else s

/-- A capture is entered in the index, in the extent that its lane fills (R399, R403). -/
def State.indexCapture (s : State) (l : Nat) (i : IndexEntry) : State :=
  match (s.lane l).extent with
  | none => s
  | some e =>
    let s1 := s.putIndex { i with extent := e, unit := (s.lane l).unit, pinned := (s.extent e).pins != 0 }
    (s1.modExtent e (fun y => { y with lastTick := s.tick })).modLane l (fun y => { y with unit := y.unit + (i.capLen + 255) / 256 })

/-- A frame has passed for the run that lane `l` reads for (R428). -/
def State.notePass (s : State) (l : Nat) : State :=
  s.modCal (fun c => { c with runs := c.runs.map (fun r => if r.reader == l then { r with passes := recent s.tick (msTicks 1) r.passes } else r) })

/-- Capture end: status record, counters, index entry, next state, dispatch. `overrunAt` is the bytes captured where the
capture buffer was full: the frame is marked overrun (R44, R371). -/
def State.sectorEnd (s : State) (l : Nat) (overrunAt : Option Nat) : State :=
  let x := s.lane l
  match x.cur with
  | none => s
  | some c =>
    if s.lnState l != lnReading then s
    else
      let sf := s.cmdSurf l c
      let word := trackWord sf c.track
      let len := s.cmdCapLen l c
      let cap := match overrunAt with
        | some n => Nat.min n len
        | none => len
      let late := overrunAt.isSome
      let st := (if x.found then lsFound else 0) + (if x.missed then lsSyncMiss else 0) + (if late then lsOverrun else 0) + (if x.inline then lsInlineOk else 0)
      let s1 := s.postStatus l ⟨c.frame, st, x.syncOff, x.syncCnt, l, x.erased, word, cap⟩
      let s2 := ((s1.bump (LN_FRAMES.COUNT l)).setFld (LN_SYNC.LASTCNT l) x.syncCnt).setFld (LN_SYNC.LASTOFF l) (toTwos 8 x.syncOff)
      let s3 := ((s2.when x.missed (fun t => t.bump (LN_SYNCEV.MISS l))).when late (fun t => t.bump (LN_OVR.OVERRUN l))).when (!x.inline) (fun t => t.bump DD_INLINE.FAIL)
      let pass := s.directCount sf c.track c.frame + ((s.passFor sf c.track c.frame).map (fun r => r.passes + 1)).getD 0
      let entry : IndexEntry := { track := word, frame := c.frame, lane := l, status := st, extent := 0, unit := 0, capLen := cap, window := c.window, cell := c.cell - 32, syncOff := x.syncOff, syncCnt := x.syncCnt, pass := pass, pinned := false, valid := true, reader1 := s.isSecond l || (l == 8 && s.cal.lsUse == 2), tick := x.capTick }
      let s4 := (s3.indexCapture l entry).onSome (s.shadow l) (fun t m => t.indexCapture m { entry with lane := m, status := st % lsInlineOk })
      let near := match x.queue with
        | n :: _ => decide (n.startTick ≤ s.tick + 50)
        | [] => false
      let s6 := ((s4.modLane l (fun y => { y with cur := none })).setFld (LN_STAT.STATE l) (if near then lnReading else lnServo)).notePass l
      (((s6.dispatch l c x.offTrack late x.inline x.missed).neighbourRead sf c.track c.frame).passOver l).applyWaiting l

def execSectorEnd (lane : Nat) (overrunAt : Option Nat) (s : State) : Host.Outcome State Fault Refusal :=
  .next (s.whileLive (fun s => State.standbyStep ((s.sectorEnd lane overrunAt))))

/-! ### Calibration at a wedge window (R426 to R428) -/

/-- The next frame of the track under the head of lane `l`, seen from wedge `w`, and how many ticks ahead its preamble starts. -/
def State.nextFrame (s : State) (l w : Nat) : Option (Nat × Nat × Nat) :=
  let sf := s.laneHead l
  let track := s.placeTarget (s.lnAct l) (s.fld (LN_STAT.PLACE l))
  let rate := s.zn sf (s.zoneOfTrack sf track) 10 2
  let ahead := fun (f : Nat) => let p := framePos rate f; (((trackStart track + p.1) % 500 + 499 - w) % 500 + 1, p.2, f)
  let better := fun (x y : Nat × Nat × Nat) => decide (x.1 < y.1) || (x.1 == y.1 && decide (x.2.1 < y.2.1))
  match (List.range (s.zn sf (s.zoneOfTrack sf track) 8 2)).map ahead with
  | [] => none
  | x :: l =>
    let b := l.foldl (fun b y => if better y b then y else b) x
    some (track, b.2.2, (b.1 * wedgeNs (s.fld SP_SPEED.SPEED) + b.2.1 * 1000 / Nat.max 1 rate) / 40)

/-- While fewer than 4 frames per ms pass for a run, the next frame of the current track is read for it; such a read takes no place from
another (R428). -/
def State.calRead (s : State) (w : Nat) (r : CalRun) : State :=
  let l := r.reader
  let passes := r.passes.filter (fun t => decide (s.tick < t + msTicks 1))
  if s.lnState l != lnServo || (s.lane l).queue != [] || decide (4 ≤ passes.length) || s.svState (s.lnAct l) != svFollowing || (!r.inPlace && decide (r.valid < 8)) then s
  else match s.nextFrame l w with
    | some x => s.queueFrame l { s.mkCmd l x.1 x.2.1 (s.tick + x.2.2) with cal := true }
    | none => s

/-- A wedge of actuator `a`: LS counts its valid samples, calibration reads are added, and LS disconnects once its stand-in is over.
`valid` says whether the sample of a place is. -/
def State.lsWindow (s : State) (a : Act) (w : Nat) (valid : Nat → Bool) : State :=
  let s1 := s.modCal (fun c => { c with runs := c.runs.map (fun r =>
    if r.inPlace || s.lnAct r.lane != a then r
    else { r with valid := if valid (s.fld (LN_STAT.PLACE r.lane)) then Nat.min 8 (r.valid + 1) else if 8 ≤ r.valid then r.valid else 0 }) })
  let s2 := s1.each (s1.cal.runs.filter (fun r => s1.lnAct r.lane == a)) (fun t r => t.calRead w r)
  if s2.cal.lsUse == 3 && s2.lnAct 8 == a && s2.lsIdle then s2.lsFree.runSync else s2

end Sys2Proof.Machine
end

