-- ==== Sys2Proof/Machine/DeepDecode.lean ====
section
/-! DEFINITION. The commands of the deep-decode pool (R405 to R417). -/
namespace Sys2Proof.Machine

/-- A lane sequencer sends a failed frame to the scheduler with the fewest frames in recovery, with the class of the read
that wants it. -/
def State.frameEscalation (s : State) (surf track frame cls : Nat) : State :=
  match s.decode.failed.find? (fun r => r.surf == surf && r.track == track && r.frame == frame), s.fewest with
  | some r, some h =>
    (s.modDecode (fun d => { d with failed := d.failed.filter (fun q => !q.same r) })).escalate { r with cls := Nat.min 2 cls } h
  | _, _ => s

def execFrameEscalation (surf track frame cls : Nat) (s : State) : Host.Outcome State Fault Refusal :=
  .next (s.whileLive (fun s => s.frameEscalation surf track frame cls))

/-- A unit whose scheduler Runs, that is enabled and without a frame; in Throttle DD2 and DD3 idle (R614), in Shutdown all (R615). -/
def State.unitFree (s : State) (u : Nat) : Bool :=
  u < (if s.throttled then 2 else if s.thermalDown then 0 else 4) && !s.fldBit DD_STAT.DISABLED u && !s.decode.active.any (fun r => r.unit == some u) &&
    (match s.unitOwner u with
      | some h => s.heState h == heRunning
      | none => false)

/-- The head of the queue goes into a free unit (R406). -/
def State.deepStart (s : State) (u : Nat) : State :=
  match s.decode.queue with
  | [] => s
  | r :: _ => if s.unitFree u then s.hold { r with unit := some u, owner := (s.unitOwner u).getD r.owner } else s

def execDeepDecodeStart (unit : Nat) (s : State) : Host.Outcome State Fault Refusal := .next (s.whileLive (fun s => s.deepStart unit))

/-- The limit of a deep decode (R408): 12 iterations with one reader, 16 with two, twice that in step 0x03 (R411). -/
def Recovery.limit (r : Recovery) : Nat := (if r.two then 16 else 12) * (if r.code = 3 then 2 else 1)

/-- A decode has ended in unit `u`: iteration count, gauge, and the check of R396. -/
def State.decodeDone (s : State) (u : Nat) (r : Recovery) (d : DecodeRes) : State :=
  let s1 := (s.setFld (DD_UNIT.ITER u) (Nat.min 255 d.iters)).sample 0x06 (fun i => i == u || i == 4) (d.iters : Nat)
  if s1.decodeValid r.surf r.track r.frame r.limit d then (s1.readAs r.surf r.track r.frame (decodedInfo d r.surf r.track r.frame)).recovered r
  else (s1.countFail r.surf r.track r.frame d).nextStep r

/-- The lane whose capture of a frame is the newest one by reader 0 or 1, and lane 0 where there is none. -/
def State.capLane (s : State) (r : Recovery) (second : Bool) : Nat :=
  match ((s.indexOf (trackWord r.surf r.track) r.frame).filter (fun i => i.reader1 == second)).foldl (fun (b : Option IndexEntry) i =>
    match b with
    | some j => if i.tick < j.tick then some j else some i
    | none => some i) none with
  | some i => i.lane
  | none => 0

/-- The sync re-search of R410 over p - 32 to p + 32, by the rule of R366; with captures of both readers by that of R358. -/
def State.researchFinds (s : State) (r : Recovery) (cells cells2 : List SlicedCell) : Bool :=
  (syncSearch 32 s.syncPat (s.fld (LN_SYNC.SYNCTH (s.capLane r false))) (s.fld (LN_SYNC.SYNCTH (s.capLane r true))) r.two cells cells2).1.isSome

/-- The end of one operation of unit `u` (R408 to R414). -/
def State.ddStepDone (s : State) (u : Nat) (x : StepRes) : State :=
  match s.decode.active.find? (fun r => r.unit == some u) with
  | none => s
  | some r =>
    match r.stage, x with
    | _, .noSamples => ((s.bump DD_SSLOSS.NOSAMP).unpin r.extra).climb { r with retained := false, zones := r.zones.drop 1, extra := [] } r.next
    | 0, .search c d => if s.researchFinds r c d then s.hold { r with stage := 1, miss := false } else s.climb r r.next
    | 3, .screen b => if unsatisfied b ≤ 648 then s.hold { r with stage := 4 } else s.nextStep r
    | 0, .decode _ => s
    | 3, .decode _ => s
    | _, .decode d => s.decodeDone u r d
    | _, _ => s

def execDeepDecodeStepDone (unit : Nat) (r : StepRes) (s : State) : Host.Outcome State Fault Refusal := .next (s.whileLive (fun s => State.standbyStep ((s.ddStepDone unit r))))

/-- A unit is reset (R409): its step starts again in another free unit; the third reset within 1 s disables it. -/
def State.unitReset (s : State) (u : Nat) : State :=
  match s.decode.active.find? (fun r => r.unit == some u) with
  | none => s
  | some r =>
    let ts := recent s.tick (secTicks 1) (SMap.get (fun _ => []) s.decode.resets u)
    let s1 := (s.bump DD_UNITRST.RESETS).modDecode (fun d => { d with resets := SMap.set (fun _ => []) d.resets u ts })
    let s2 := if 3 ≤ ts.length then (s1.setFldBit DD_STAT.DISABLED u true).unitFault else s1
    match (List.range 4).find? (fun k => k != u && s2.unitFree k) with
    | some k => s2.hold { r with unit := some k }
    | none => s2.enqueue r

def execUnitOvertime (unit : Nat) (s : State) : Host.Outcome State Fault Refusal := .next (s.whileLive (fun s => State.standbyStep ((s.unitReset unit))))

/-! ### Re-reads (R411, R415) -/

/-- The working lane that serves a head in use. -/
def State.laneOfSurf (s : State) (surf : Nat) : Option Nat :=
  (List.range 8).find? (fun l => s.lnState l != lnOff && s.lnAct l == surfAct surf && s.fld (LN_STAT.HEAD l) == surf % 16 && s.fld (LN_STAT.PLACE l) != 0xF && !s.isSecond l)

/-- The input pair over which LS reads a second reader: the lowest of the actuator's that feeds no working lane (R125, R356; assumption
99). -/
def State.lsPair (s : State) (a : Act) : Option Nat :=
  ((List.range (s.paOut a)).map (fun k => 4 * actNum a + k)).find? (fun p => (List.range 8).all (fun l => s.fld (LN_STAT.INSEL l) != p))

/-- A re-read that can be served: its head is in use, and LS and an input pair are free for a two-reader pass. -/
def State.canReread (s : State) (a : Act) (r : Reread) : Bool :=
  surfAct r.surf == a && (s.laneOfSurf r.surf).isSome && (r.kind != 4 || (s.cal.lsUse == 0 && (s.run? 8).isNone && (s.lsPair a).isSome))

/-- LS reads the head's reader 1 beside lane `l`, over a pair of its own, with that reader's set (R356, R411, R421). -/
def State.lsJoin (s : State) (l : Nat) : State :=
  let a := s.lnAct l
  let s1 := ((s.setFld (LN_STAT.ACT 8) (s.fld (LN_STAT.ACT l))).setFld (LN_STAT.HEAD 8) (s.fld (LN_STAT.HEAD l))).setFld (LN_STAT.PLACE 8) (s.fld (LN_STAT.PLACE l))
  let s2 := ((s1.setFld (LN_STAT.STATE 8) lnServo).setFld (LN_STAT.INSEL 8) ((s.lsPair a).getD 0xF)).modCal (fun c => { c with lsUse := 2 })
  (s2.routeLane a 8 (s.fld (LN_STAT.HEAD l)) 1).loadSet 8 (s.setFor (s.laneHead l) 1 (s.fld SP_STAT.ZONE))

/-- The frames of track `t` that overlap a frame of its neighbour. -/
def State.overlapping (s : State) (surf track frame t : Nat) : List Nat :=
  (List.range (s.zn surf (s.zoneOfTrack surf t) 8 2)).filter (fun g => s.overlap surf track frame t g)

/-- The oldest re-read that can be served goes to its lane (R415). -/
def State.rereadPass (s : State) (a : Act) (startTick : Nat) : State :=
  if s.actAway a || s.svState a != svFollowing then s
  else match s.lanes.rereads.find? (s.canReread a) with
  | none => s
  | some r =>
    match s.laneOfSurf r.surf with
    | none => s
    | some l =>
      let s1 := s.modLanes (fun x => { x with rereads := x.rereads.filter (fun q => !(q == r)) })
      let k := s.fld (LN_STAT.PLACE l)
      match r.kind with
      | 0 => ((s1.bump DD_REREAD.DIRECT).setDirect r.surf r.track r.frame (s.directCount r.surf r.track r.frame + 1)).frameCommand l r.track r.frame startTick
      | 2 => (s1.modPlace a k (fun p => { p with dtoff := 16 })).frameCommand l r.track r.frame startTick
      | 3 => (s1.modPlace a k (fun p => { p with dtoff := -16 })).frameCommand l r.track r.frame startTick
      | 4 => ((s1.lsJoin l).frameCommand l r.track r.frame startTick).frameCommand 8 r.track r.frame startTick
      | 5 => s1.each (s.overlapping r.surf r.track r.frame (r.track + 1)) (fun t g => t.frameCommand l (r.track + 1) g startTick)
      | _ => s1.frameCommand l r.track r.frame startTick

def execRereadPass (a : Act) (startTick : Nat) (s : State) : Host.Outcome State Fault Refusal := .next (s.whileLive (fun s => s.rereadPass a startTick))

/-! ### Waits (R411, R416, R417) -/

/-- The wait for a queued neighbour ends: the step goes on with what is retained, or reads T + 1. -/
def State.neighbourExpiry (s : State) (surf track frame : Nat) : State :=
  match s.decode.active.find? (fun r => r.wait == 2 && r.surf == surf && r.track == track && r.frame == frame) with
  | none => s
  | some r =>
    let es := ((s.neighbourCaps r).map (fun i => i.extent)).eraseDups
    if es = [] then ((s.hold { r with wait := 3 }).bump DD_REREAD.LADDER).askReread ⟨surf, track, frame, 5⟩
    else match s.pin es with
      | some t => t.enqueue { r with extra := es }
      | none => (s.bump DD_SSLOSS.PINREF).climb { r with wait := 0 } r.next

def execNeighbourWaitExpiry (surf track frame : Nat) (s : State) : Host.Outcome State Fault Refusal :=
  .next (s.whileLive (fun s => s.neighbourExpiry surf track frame))

/-- LS has not become free: the pass is a plain one. -/
def State.lsTimeout (s : State) (surf track frame : Nat) : State :=
  s.modLanes (fun x => { x with rereads := x.rereads.map (fun r => if r.kind == 4 && r.surf == surf && r.track == track && r.frame == frame then { r with kind := 1 } else r) })

def execLsWaitTimeout (surf track frame : Nat) (s : State) : Host.Outcome State Fault Refusal := .next (s.whileLive (fun s => State.standbyStep ((s.lsTimeout surf track frame))))

/-- 3 s have passed since the frame's first sector end; the limit does not count while its actuator is not Serving. -/
def State.unreadableTimeout (s : State) (surf track frame : Nat) : State :=
  let is := fun (r : Recovery) => r.surf == surf && r.track == track && r.frame == frame
  let mine := fun (q : Reread) => q.surf == surf && q.track == track && q.frame == frame
  if !s.isServing (domOfAct (surfAct surf)) then s
  else
    let s1 := s.modLanes (fun x => { x with rereads := x.rereads.filter (fun q => !mine q) })
    match s.recoveries.find? is, s.decode.failed.find? is with
    | some r, _ => s1.giveUp r 1
    | none, some r => ((s1.modDecode (fun d => { d with failed := d.failed.filter (fun q => !q.same r) })).unreadable surf track frame 1).resumeReads
    | none, none => if s.lanes.rereads.any mine then (s1.unreadable surf track frame 1).resumeReads else s

def execUnreadableTimeout (surf track frame : Nat) (s : State) : Host.Outcome State Fault Refusal :=
  .next (s.whileLive (fun s => State.standbyStep ((s.unreadableTimeout surf track frame))))

end Sys2Proof.Machine
end

