-- ==== Sys2Proof/Machine/EnclosureBus.lean ====
section
/-! DEFINITION. The enclosure-bus commands (R588 to R606): transmit opportunities, PLCA status, received frames, the token
master's timers. -/
namespace Sys2Proof.Machine

abbrev Out := Host.Outcome State Fault Refusal

/-! ### Medium access -/

/-- R590, R591: the frame in the buffer is sent, at most one per PLCA cycle; one completed after the opportunity began waits and counts in
DEFER. Under CSMA/CD the medium being free is the opportunity. -/
def State.opportunity (s : State) (late : Bool) : State :=
  let s1 := s.healthWatch
  if s1.eb.buf.isNone then s1
  else if late then s1.bump EB_TX.DEFER
  else if s1.eb.sentCycle && !s1.bit EB_STAT.CSMA then s1
  else s1.ebTransmit

def execTransmitOpportunity (late : Bool) (s : State) : Out := .next (s.whileLive (fun s => s.opportunity late))

/-- R589, R592: a BEACON, sent by the coordinator or heard by a follower, opens a cycle: PLCA status OK, CSMA/CD left. A HEALTH whose fields
have changed is due within the cycle (R604). -/
def State.plcaBeacon (s : State) : State :=
  if !s.plcaOn then s
  else
    let s1 := ((s.setBit EB_STAT.PLCAOK).clrBit EB_STAT.CSMA).setFld EB_STAT.COORD (if s.plcaNode = 0 then 1 else 0)
    (s1.modEb (fun e => { e with cycle := e.cycle + 1, sentCycle := false })).healthWatch

def execPlcaBeacon (s : State) : Out := .next (s.whileLive (fun s => s.plcaBeacon))

/-- R592: no valid BEACON within the invalid-beacon time. -/
def execPlcaBeaconLoss (s : State) : Out := .next (s.whileLive (fun s => (s.clrBit EB_STAT.PLCAOK).setBit EB_STAT.CSMA))

/-- R593: a collision; the 16th in PLCA mode within 1 s is a configuration error. The frame stays in the buffer. -/
def State.collision (s : State) : State :=
  let s1 := (s.bump EB_COLL.COLL).when (!s.bit EB_STAT.CSMA) (fun t => t.modEb (fun e => { e with colls := recent s.tick (secTicks 1) e.colls }))
  if !s1.bit EB_STAT.CSMA && 16 ≤ s1.eb.colls.length && !s1.bit EB_STAT.MISCFG then
    ((s1.setBit EB_STAT.MISCFG).setBit FB_ALERT.ENCL).record 0x1401 (leBytes 2 (s1.fld EB_COLL.COLL) ++ zeros 2)
  else s1

def execEbCollision (s : State) : Out := .next (s.whileLive (fun s => s.collision))

/-- R592: a backoff expires: the frame is tried again, and discarded after 16 attempts. -/
def State.backoff (s : State) : State :=
  match s.eb.buf with
  | none => s
  | some l =>
    if !s.bit EB_STAT.CSMA then s
    else if 16 ≤ l.attempts + 1 then ((s.modEb (fun e => { e with buf := none })).bump EB_COLL.DISCARD).ebLoad
    else s.modEb (fun e => { e with buf := some { l with attempts := l.attempts + 1 } })

def execCsmaBackoffExpiry (s : State) : Out := .next (s.whileLive (fun s => s.backoff))

/-! ### Received frames -/

/-- R594: a frame is received while DE is Serving; a foreign ENCLID is counted and ignored. -/
def State.ebRecv (s : State) (h : EbHdr) (f : State → State) : State :=
  if !s.isServing .DE then s
  else if h.enclid != s.enclId then s.bump EB_RX.FOREIGN
  else f (s.bump EB_RX.RCVD)

/-- R597: claims are collected while an election runs. -/
def execClaim (h : EbHdr) (prio idlow : Nat) (s : State) : Out :=
  .next (s.whileLive (fun s => s.ebRecv h (fun t => t.when t.eb.electing (fun u => u.modEb (fun e => { e with claims := e.claims ++ [(prio, h.node, idlow, h.bay)] })))))

/-- R597 to R599: a TICK makes its sender master of a candidate or follower; a master gives way only to a lower rank. -/
def State.tickFrame (s : State) (h : EbHdr) (mepoch : Nat) : State :=
  if s.isMaster && !(nodeRank h.node < nodeRank s.plcaNode) then s
  else
    let s1 := s.follow h.bay h.node mepoch
    (s1.setFld EB_ETOFF.OFFSET (toTwos 32 ((h.etime : Int) - (s.tick / 25 : Nat)))).poolMasterKnown

def execTick (h : EbHdr) (mepoch _tokfree : Nat) (s : State) : Out := .next (s.whileLive (fun s => s.ebRecv h (fun t => t.tickFrame h mepoch)))

/-- R600, R601: a request is queued at the master; a re-assertion counts as held. -/
def State.tokReqFrame (s : State) (h : EbHdr) (lease : Nat) (held : Bool) : State :=
  if !s.isMaster then s
  else if held then
    (s.modEb (fun e => { e with holders := e.holders.filter (fun x => !(x.node == h.node && x.bay == h.bay)) ++ [⟨h.node, h.bay, lease, s.tick, e.cycle⟩] })).tokSync
  else State.grantPump 64 (s.modEb (fun e => { e with queue := queueReq (e.queue.filter (fun x => !(x.node == h.node && x.bay == h.bay))) ⟨h.node, h.bay, lease, s.tick, e.cycle⟩ }))

def execTokreq (h : EbHdr) (lease : Nat) (held : Bool) (s : State) : Out := .next (s.whileLive (fun s => s.ebRecv h (fun t => t.tokReqFrame h lease held)))

/-- R600, R605: the token arrives, or goes back at once where the start was withdrawn. -/
def execTokgrant (h : EbHdr) (dstnode _lease mepoch : Nat) (s : State) : Out :=
  .next (s.whileLive (fun s => s.ebRecv h (fun t => t.when (dstnode == t.plcaNode && mepoch == t.fld EB_MASTER.MEPOCH) State.tokenArrives)))

def execTokret (h : EbHdr) (mepoch : Nat) (s : State) : Out :=
  .next (s.whileLive (fun s => s.ebRecv h (fun t => t.when (t.isMaster && mepoch == t.fld EB_MASTER.MEPOCH)
    (fun u => State.grantPump 64 (u.modEb (fun e => { e with holders := e.holders.filter (fun x => !(x.node == h.node && x.bay == h.bay)) }))))))

/-- R326: one actuator takes an announcement: the row whose DBAY is the sender's BAY less its own; older than AGEMS it is
discarded, after its start only the rest applies; at most 8 at once. -/
def State.announceTo (s : State) (a : Act) (h : EbHdr) (step start : Nat) (prof : List Int) : State :=
  let d : Int := (h.bay : Int) - s.bay
  match (List.range (s.svRows a 0x0006)).find? (fun r => r != 0 && decide (ofTwos 8 (s.svRow a 0x0006 r 16 0 1) = d)) with
  | none => s
  | some r =>
    let n := actNum a
    let age := ofTwos 32 (toTwos 32 ((s.enclTime : Int) - h.etime))
    if ((s.svRow a 0x0006 0 16 6 2 * 1000 : Nat) : Int) < age then s.bump (SV_FF.LATE n)
    else
      let ahead := ofTwos 32 (toTwos 32 ((start : Int) - s.enclTime))
      let x : Announce := ⟨(s.tick : Int) + ahead * 25, step, prof, ofTwos 16 (s.svRow a 0x0006 r 16 2 2), s.svRow a 0x0006 r 16 4 2⟩
      let s1 := s.modSv a (fun v => { v with announces := (x :: v.announces).take 8 })
      (s1.when (decide (ahead < 0)) (fun t => t.bump (SV_FF.LATE n))).bump (SV_FF.APPLIED n)

def execSeek (h : EbHdr) (_a : Act) (step start : Nat) (prof : List Int) (s : State) : Out :=
  .next (s.whileLive (fun s => s.ebRecv h (fun t => (t.announceTo .A h step start prof).announceTo .B h step start prof)))

/-- R604: a HEALTH summary is for the enclosure's readers; the device counts it. -/
def execHealth (h : EbHdr) (s : State) : Out := .next (s.whileLive (fun s => s.ebRecv h (fun t => t)))

/-- R604, R605: HQUERY to this node or to all: a HEALTH frame, but that one already loaded for the group answers it too. While DE is not
Serving, in Hibernate and in the hold of R91 the PHY answers from its copy, if it has one, with STATE 3 or 4 in the last two. -/
def State.hqueryFrame (s : State) (h : EbHdr) (dstnode : Nat) : State :=
  if s.live && s.isServing .DE then s.ebRecv h (fun t =>
    if dstnode != 0xFF && dstnode != t.plcaNode then t
    else if t.eb.buf.any (fun l => l.frame.type == ebHealth && l.frame.dst.isNone) then t
    else t.sendHealth (some (h.bay, h.node)))
  else if !s.awake then s
  else
    let id := s.eb.phyId
    if h.enclid != id.1 || (dstnode != 0xFF && dstnode != id.2.2) || s.eb.health == [] then s
    else
      let st := if s.power.hibernate then [BitVec.ofNat 8 3] else if s.power.phase == .hold then [BitVec.ofNat 8 4] else s.eb.health.take 1
      s.ebEmit id s.enclTime ⟨ebHealth, some (h.bay, h.node), st ++ s.eb.health.drop 1⟩

def execHquery (h : EbHdr) (dstnode : Nat) (s : State) : Out := .next (s.hqueryFrame h dstnode)

/-- R604: a WAKE for this bay or all, with the device's ENCLID, is the wake event of R109. -/
def execWake (h : EbHdr) (dstbay : Nat) (s : State) : Out :=
  .next (if s.power.hibernate then s.when (h.enclid == s.eb.phyId.1 && (dstbay == 0xFF || dstbay == s.eb.phyId.2.1)) State.wakeHibernate
    else s.whileLive (fun t => t.ebRecv h (fun u => u)))

/-- R594: a stranger frame, by its cause. -/
def execEbStrangerFrame (ethertype : Bool) (s : State) : Out :=
  .next (s.whileLive (fun s => s.when (s.isServing .DE) (fun t => t.bump (if ethertype then EB_STRANGE.UNKTYPE else EB_STRANGE.UNKNODE))))

/-! ### Timers -/

/-- R597: 100 ms without a TICK: the device claims. -/
def execElectionListenEnd (s : State) : Out :=
  .next (s.whileLive (fun s => s.when (s.isServing .DE && s.eb.electing && s.fld EB_STAT.ELECT == elListening) (fun t =>
    let c := t.ownClaim
    ((t.setFld EB_STAT.ELECT elClaiming).modEb (fun e => { e with claims := e.claims ++ [c] })).ebSend ebClaim none
      (leBytes 1 1 ++ zeros 1 ++ leBytes 8 c.2.2.1))))

/-- R597: claims close; the lowest triple wins. -/
def State.claimsClose (s : State) : State :=
  let win := s.eb.claims.foldl (fun b c => if claimLess c b then c else b) s.ownClaim
  if win = s.ownClaim then s.becomeMaster.poolMasterKnown
  else ((s.setFld EB_STAT.ELECT elFollower).setFld EB_MASTER.NODE win.2.1).setFld EB_MASTER.BAY win.2.2.2 |>.modEb (fun e => { e with electing := false, claims := [] })

def execClaimCollectEnd (s : State) : Out :=
  .next (s.whileLive (fun s => s.when (s.isServing .DE && s.eb.electing && s.fld EB_STAT.ELECT == elClaiming) State.claimsClose))

/-- R598: the master's TICK. -/
def execTickTimer (s : State) : Out :=
  .next (s.whileLive (fun s => s.when (s.isServing .DE && s.isMaster) (fun t => t.ebSend ebTick none (leBytes 2 (t.fld EB_MASTER.MEPOCH) ++ leBytes 1 (t.fld EB_TOKEN.FREE)))))

/-- R599: no TICK for 50 ms. -/
def execMasterLoss (s : State) : Out :=
  .next (s.whileLive (fun s => s.when (s.isServing .DE && s.fld EB_STAT.ELECT == elFollower) State.startElection))

/-- R600: the lease of a grant runs out at the master. -/
def execTokenLeaseExpiry (node bay : Nat) (s : State) : Out :=
  .next (s.whileLive (fun s => s.when s.isMaster (fun u => State.grantPump 64 (u.modEb (fun e => { e with holders := e.holders.filter (fun x => !(x.node == node && x.bay == bay)) })))))

/-- R601: the 200 ms of the new master end. -/
def execMepochWaitExpiry (s : State) : Out :=
  .next (s.whileLive (fun s => s.when s.isMaster (fun u => State.grantPump 64 (u.modEb (fun e => { e with epochWait := false })))))

/-- R604: HEALTH every second. -/
def execHealthTimer (s : State) : Out := .next (s.whileLive (fun s => s.when (s.isServing .DE) (fun t => t.sendHealth none)))

/-- R602: after the delay of the third failed restart the spindle starts without a token. -/
def State.localSpin (s : State) : State :=
  if s.eb.localDelay && s.eb.startWant && !s.isServing .DE then
    let d := s.bay / Nat.max 1 s.spinTok * 11
    let s1 := ((s.setBit EB_STAT.LOCAL).modEb (fun e => { e with localDelay := false })).record 0x1402 (leBytes 2 d ++ zeros 2)
    s1.spBegin
  else s

def execLocalSpinupDelayEnd (s : State) : Out := .next (s.whileLive (fun s => s.localSpin))

end Sys2Proof.Machine
end

