-- ==== Sys2Proof/Machine/NvmeIo.lean ====
section
/-! DEFINITION. The I/O commands (R548, R554, R556, R566) and zones (R455 to R458). Each row is the start of a command that has been
fetched: it acts once the command may start. -/
namespace Sys2Proof.Machine

/-! ### Reading -/

/-- The PFNs at which a command's blocks lie on the media. -/
def State.cmdPfns (s : State) (m : Cmd) : List Nat :=
  (s.cmdBlocks m).filterMap (fun g => match s.entry (s.mapIndex g) with
    | .media p _ => some p
    | _ => none)

/-- A reading command starts: the frames `fails` have failed in line and are in recovery, the others are to hand. -/
def State.ioRead (s : State) (m : Cmd) (fails : List Nat) : State :=
  let ps := s.cmdPfns m
  let s1 := s.modCmd m (fun k => { k with started := true, waits := fails.filter ps.contains })
  match s1.cmd? m.ctrl m.sq m.e.cid with
  | none => s1
  | some k =>
    let s2 := s1.readTry k
    match s2.cmd? m.ctrl m.sq m.e.cid with
    | some j => s2.poolTry j
    | none => s2

def execRead (ctrl sq cid : Nat) (fails : List Nat) (s : State) : Host.Outcome State Fault Refusal :=
  .next (s.whileLive (fun s => (s.ioStart ctrl sq cid 0x02 (fun t m => t.ioRead m fails)).standbyStep))

/-- Compare: `data` is the host's data; less than the command needs is a host memory error. -/
def State.ioCompare (s : State) (m : Cmd) (data : List Byte) (fails : List Nat) : State :=
  if data.length < 4096 * m.nlb then s.complete m .transferError 0
  else
    let s1 := s.modCmd m (fun k => { k with data := slice data 0 (4096 * m.nlb) })
    match s1.cmd? m.ctrl m.sq m.e.cid with
    | some k => s1.ioRead k fails
    | none => s1

def execCompare (ctrl sq cid : Nat) (data : List Byte) (fails : List Nat) (s : State) : Host.Outcome State Fault Refusal :=
  .next (s.whileLive (fun s => (s.ioStart ctrl sq cid 0x05 (fun t m => t.ioCompare m data fails)).standbyStep))

def execVerify (ctrl sq cid : Nat) (fails : List Nat) (s : State) : Host.Outcome State Fault Refusal :=
  .next (s.whileLive (fun s => (s.ioStart ctrl sq cid 0x0C (fun t m => t.ioRead m fails)).standbyStep))

/-! ### Writing -/

/-- What a command has queued goes on its way; a status ends it; a wait leaves it for a later start. -/
def State.queued (s : State) (m : Cmd) (r : State × Option NvStatus × Bool) : State :=
  match r.2.1 with
  | some st => s.complete m st 0
  | none => if r.2.2 then r.1 else r.1.begin m

/-- A write to a zone at offset `o`: held for an absent actuator (R40) or for bands not released (R458), checked, and queued. -/
def State.zoneWrite (s : State) (m : Cmd) (n : Namespace) (z o k : Nat) (data : List Byte) (result : Nat) : State :=
  match s.zoneAway n z with
  | some a => if s.holdOver a then s.complete m .notReady 0 else s
  | none =>
    if s.zoneBusy m.e.nsid n z then s
    else match s.zoneFault m.e.nsid n z o k with
      | some st => s.complete m st 0
      | none =>
        if s.noWriteSet (some (n.firstSet + z)) then s.complete m .writeProtected 0
        else
          let g := n.base + s.zoneBase n z + o
          let s1 := (s.zoneWritten m.e.nsid z).modCmd m (fun x => { x with locks := [⟨g, k, true⟩] })
          s.queued m (s1.queueGroups m g (some z) (blocksOf k data) result)

/-- Write: `data` comes from host memory. -/
def State.ioWrite (s : State) (m : Cmd) (data : List Byte) : State :=
  match s.namespace? m.e.nsid with
  | none => s.complete m .invalidField 0
  | some n =>
    if data.length < 4096 * m.nlb then s.complete m .transferError 0
    else if n.zoned then s.zoneWrite m n (s.zoneOf n m.slba).1 (s.zoneOf n m.slba).2 m.nlb data 0
    else if s.noWriteSet none then s.complete m .writeProtected 0
    else s.queued m (s.queueGroups m (n.base + m.slba) none (blocksOf m.nlb data) 0)

def execWrite (ctrl sq cid : Nat) (data : List Byte) (s : State) : Host.Outcome State Fault Refusal :=
  .next (s.whileLive (fun s => (s.ioStart ctrl sq cid 0x01 (fun t m => t.ioWrite m data)).standbyStep))

/-- Zone Append: at the write pointer, which the completion returns (R456). -/
def State.ioAppend (s : State) (m : Cmd) (data : List Byte) : State :=
  match s.namespace? m.e.nsid with
  | none => s.complete m .invalidField 0
  | some n =>
    let z := (s.zoneOf n m.slba).1
    let o := s.zoneNext m.e.nsid n z
    if data.length < 4096 * m.nlb then s.complete m .transferError 0
    else s.zoneWrite m n z o m.nlb data (m.slba + o)

def execZoneAppend (ctrl sq cid : Nat) (data : List Byte) (s : State) : Host.Outcome State Fault Refusal :=
  .next (s.whileLive (fun s => (s.ioStart ctrl sq cid 0x7D (fun t m => t.ioAppend m data)).standbyStep))

/-- Deallocations are queued, or the command, having none, completes. -/
def State.dealloced (s : State) (m : Cmd) (r : State × Option NvStatus × Bool) : State :=
  match r.2.1 with
  | some st => s.complete m st 0
  | none =>
    if r.2.2 then r.1
    else if r.1.ownsWork (some m.ref) then r.1.begin m
    else r.1.complete m .ok 0

def State.ioZeroes (s : State) (m : Cmd) : State :=
  match s.namespace? m.e.nsid with
  | none => s.complete m .invalidField 0
  | some n =>
    let r := s.queueDealloc m (n.base + m.slba) m.nlb
    if s.noWriteSet none && decide (s.map.groups.length < r.1.map.groups.length) then s.complete m .writeProtected 0 else s.dealloced m r

def execWriteZeroes (ctrl sq cid : Nat) (s : State) : Host.Outcome State Fault Refusal :=
  .next (s.whileLive (fun s => (s.ioStart ctrl sq cid 0x08 State.ioZeroes).standbyStep))

/-- Dataset Management deallocates the ranges the fetch has locked; without the Deallocate attribute nothing is done. -/
def State.ioDsm (s : State) (m : Cmd) (ranges : List (Nat × Nat)) : State :=
  match s.namespace? m.e.nsid with
  | none => s.complete m .invalidField 0
  | some n =>
    if !natBit m.e.cdw11 2 then s.complete m .ok 0
    else s.dealloced m ((ranges.take 256).foldl (fun (r : State × Option NvStatus × Bool) x =>
      if r.2.1.isSome || r.2.2 then r
      else if s.nsze n < x.1 + x.2 then (s, some .lbaRange, false)
      else r.1.queueDealloc m (n.base + x.1) x.2) (s, none, false))

def execDatasetManagement (ctrl sq cid : Nat) (ranges : List (Nat × Nat)) (s : State) : Host.Outcome State Fault Refusal :=
  .next (s.whileLive (fun s => (s.ioStart ctrl sq cid 0x09 (fun t m => t.ioDsm m ranges)).standbyStep))

/-! ### Flush and Fence -/

/-- Flush and Fence wait for what is ahead of them, and complete when it is done. -/
def State.ioBarrier (s : State) (m : Cmd) : State :=
  let s1 := s.begin m
  (State.pumpDue s1.nvme.inflight.length s1).drainPump

def execFlush (ctrl sq cid : Nat) (s : State) : Host.Outcome State Fault Refusal := .next (s.whileLive (fun s => s.ioStart ctrl sq cid 0x00 State.ioBarrier))

def execFence (ctrl sq cid : Nat) (s : State) : Host.Outcome State Fault Refusal := .next (s.whileLive (fun s => s.ioStart ctrl sq cid 0x81 State.ioBarrier))

/-! ### Reservations (R548; NVMe base specification) -/

def State.putNs (s : State) (nsid : Nat) (n : Namespace) : State :=
  (s.modNvme (fun x => { x with namespaces := SMap.set (fun _ => none) x.namespaces nsid (some n) })).modMap (fun m => { m with rootDirty := true })

/-- A reservation notification for controller `c`: 1 registration preempted, 2 reservation released, 3 reservation preempted. Feature
0x81 masks it per namespace. -/
def State.resvNotice (s : State) (c nsid kind : Nat) : State :=
  if natBit (s.feature c 0x81 nsid) kind then s
  else (s.modCtrl c (fun k => { k with resvLog := k.resvLog ++ [kind * 2 ^ 32 + nsid] })).aerOn c 6 0x00 0x80

/-- Notices to every registrant but `c`. -/
def State.resvNotices (s : State) (n : Namespace) (c nsid kind : Nat) : State :=
  s.each (n.registrants.filter (fun r => r.ctrl != c)) (fun t r => t.resvNotice r.ctrl nsid kind)

/-- Registrant `c` with its key, where the command gives the right one. -/
def Namespace.keyOk (n : Namespace) (c key : Nat) : Bool := n.registrants.any (fun r => r.ctrl == c && r.key == key)

/-- The registrants `p` go. Without its holder, or with the last of all registrants, the reservation is released. -/
def Namespace.unregister (n : Namespace) (p : Registrant → Bool) : Namespace :=
  let rs := n.registrants.filter (fun r => !p r)
  let gone := if n.rtype = 5 ∨ n.rtype = 6 then rs == [] else n.registrants.any (fun r => p r && r.ctrl + 1 == n.holder)
  { n with registrants := rs, holder := if gone then 0 else n.holder, rtype := if gone then 0 else n.rtype }

/-- Reservation Register with its two keys: RREGA 0 register, 1 unregister, 2 replace; IEKEY ignores the key given. -/
def State.resvRegister (s : State) (m : Cmd) (crkey nrkey : Nat) : State :=
  match s.namespace? m.e.nsid with
  | none => s.complete m .invalidField 0
  | some n =>
    let c := m.ctrl
    let ie := natBit m.e.cdw10 3
    let up := { n with gen := n.gen + 1 }
    match m.e.cdw10 % 8 with
    | 0 =>
      if n.registered c then (if n.keyOk c nrkey then s.complete m .ok 0 else s.complete m .reservationConflict 0)
      else if 32 ≤ n.registrants.length then s.complete m .reservationConflict 0
      else (s.putNs m.e.nsid { up with registrants := n.registrants ++ [⟨c, nrkey⟩] }).complete m .ok 0
    | 1 =>
      if !n.registered c || !(ie || n.keyOk c crkey) then s.complete m .reservationConflict 0
      else
        let u := up.unregister (fun r => r.ctrl == c)
        let s1 := s.putNs m.e.nsid u
        (if u.rtype = n.rtype ∨ n.rtype = 1 ∨ n.rtype = 2 then s1 else s1.resvNotices u c m.e.nsid 2).complete m .ok 0
    | 2 =>
      if !(ie || n.keyOk c crkey) then s.complete m .reservationConflict 0
      else if !n.registered c then (s.putNs m.e.nsid { up with registrants := n.registrants ++ [⟨c, nrkey⟩] }).complete m .ok 0
      else (s.putNs m.e.nsid { up with registrants := n.registrants.map (fun r => if r.ctrl == c then { r with key := nrkey } else r) }).complete m .ok 0
    | _ => s.complete m .invalidField 0

def execReservationRegister (ctrl sq cid crkey nrkey : Nat) (s : State) : Host.Outcome State Fault Refusal :=
  .next (s.whileLive (fun s => s.ioStart ctrl sq cid 0x0D (fun t m => t.resvRegister m crkey nrkey)))

/-- A preempt with key `pr`: its registrants go; where it names the holder, or 0 an all-registrants reservation, `c` takes the
reservation with the type asked for. -/
def State.resvPreempt (s : State) (m : Cmd) (n : Namespace) (pr rt : Nat) (abort : Bool) : State :=
  let c := m.ctrl
  let all := n.rtype == 5 || n.rtype == 6
  let takes := n.rtype != 0 && (if all then pr == 0 else n.registrants.any (fun r => r.key == pr && r.ctrl + 1 == n.holder))
  let victim := fun (r : Registrant) => r.ctrl != c && (r.key == pr || (all && pr == 0))
  if !takes && !n.registrants.any (fun r => r.key == pr) then s.complete m .reservationConflict 0
  else
    let u0 := { n with registrants := n.registrants.filter (fun r => !victim r), gen := n.gen + 1 }
    let u := if takes then { u0 with holder := c + 1, rtype := rt } else u0
    let s1 := (s.putNs m.e.nsid u).each (n.registrants.filter victim) (fun t r => t.resvNotice r.ctrl m.e.nsid 1)
    let s2 := if takes ∧ rt != n.rtype then s1.resvNotices u c m.e.nsid 2 else s1
    let s3 := if abort then s2.endCmds (fun k => k.sq != 0 && k.e.nsid == m.e.nsid && n.registrants.any (fun r => victim r && r.ctrl == k.ctrl)) .abortRequested else s2
    s3.complete m .ok 0

/-- Reservation Acquire: RACQA 0 acquire, 1 preempt, 2 preempt and abort. -/
def State.resvAcquire (s : State) (m : Cmd) (crkey prkey : Nat) : State :=
  match s.namespace? m.e.nsid with
  | none => s.complete m .invalidField 0
  | some n =>
    let c := m.ctrl
    let rt := natBits m.e.cdw10 8 8
    if rt = 0 ∨ 6 < rt ∨ 2 < m.e.cdw10 % 8 ∨ natBit m.e.cdw10 3 then s.complete m .invalidField 0
    else if !n.keyOk c crkey then s.complete m .reservationConflict 0
    else if m.e.cdw10 % 8 = 0 then
      if n.rtype = 0 then (s.putNs m.e.nsid { n with holder := c + 1, rtype := rt }).complete m .ok 0
      else if n.rtype = rt ∧ n.holds c then s.complete m .ok 0
      else s.complete m .reservationConflict 0
    else s.resvPreempt m n prkey rt (m.e.cdw10 % 8 == 2)

def execReservationAcquire (ctrl sq cid crkey prkey : Nat) (s : State) : Host.Outcome State Fault Refusal :=
  .next (s.whileLive (fun s => s.ioStart ctrl sq cid 0x11 (fun t m => t.resvAcquire m crkey prkey)))

/-- Reservation Release: RRELA 0 release, 1 clear. -/
def State.resvRelease (s : State) (m : Cmd) (crkey : Nat) : State :=
  match s.namespace? m.e.nsid with
  | none => s.complete m .invalidField 0
  | some n =>
    let c := m.ctrl
    if 1 < m.e.cdw10 % 8 ∨ natBit m.e.cdw10 3 then s.complete m .invalidField 0
    else if !n.keyOk c crkey then s.complete m .reservationConflict 0
    else if m.e.cdw10 % 8 = 1 then
      let s1 := s.putNs m.e.nsid { n with registrants := [], holder := 0, rtype := 0, gen := n.gen + 1 }
      (s1.resvNotices n c m.e.nsid 3).complete m .ok 0
    else if !n.holds c || n.rtype = 0 then s.complete m .ok 0
    else if n.rtype != natBits m.e.cdw10 8 8 then s.complete m .invalidField 0
    else
      let s1 := s.putNs m.e.nsid { n with holder := 0, rtype := 0 }
      (if n.rtype = 1 ∨ n.rtype = 2 then s1 else s1.resvNotices n c m.e.nsid 2).complete m .ok 0

def execReservationRelease (ctrl sq cid crkey : Nat) (s : State) : Host.Outcome State Fault Refusal :=
  .next (s.whileLive (fun s => s.ioStart ctrl sq cid 0x15 (fun t m => t.resvRelease m crkey)))

/-- The reservation status data structure: header of 24 bytes, 24 bytes per registrant; PTPLS shows persistence on. -/
def Namespace.report (n : Namespace) : List Byte :=
  leBytes 4 n.gen ++ leBytes 1 n.rtype ++ leBytes 2 n.registrants.length ++ zeros 2 ++ leBytes 1 1 ++ zeros 14 ++
  n.registrants.flatMap (fun r => leBytes 2 (r.ctrl + 1) ++ leBytes 1 (if n.rtype != 0 && n.holds r.ctrl then 1 else 0) ++ zeros 5 ++ leBytes 8 (r.ctrl + 1) ++ leBytes 8 r.key)

def State.resvReport (s : State) (m : Cmd) : State :=
  match s.namespace? m.e.nsid with
  | none => s.complete m .invalidField 0
  | some n => (s.hostWrite .data m.ctrl m.e.dptr (slice n.report 0 (Nat.min ((m.e.cdw10 + 1) * 4) 8192))).complete m .ok 0

def execReservationReport (ctrl sq cid : Nat) (s : State) : Host.Outcome State Fault Refusal :=
  .next (s.whileLive (fun s => s.ioStart ctrl sq cid 0x0E State.resvReport))

/-! ### Zone management (R456, R458) -/

/-- The zones a Zone Management Send names: one, or with Select All those in the states `p`. None where SLBA is no zone's first. -/
def State.zoneTargets (s : State) (m : Cmd) (n : Namespace) (p : Nat → Bool) : Option (List Nat) :=
  if natBit m.e.cdw13 8 then some ((List.range n.nsets).filter (fun z => p (s.zone m.e.nsid z).zstate))
  else if m.slba % s.zoneSize n = 0 ∧ m.slba / s.zoneSize n < n.nsets then some [m.slba / s.zoneSize n]
  else none

/-- A zone action: for each zone named, `ok` states are changed by `act`, `idle` states are left, any other is an invalid transition.
Writes on their way to a zone are let finish first. The command completes once its records are durable. -/
def State.zoneAction (s : State) (m : Cmd) (all ok idle : Nat → Bool) (act : State → Namespace → Nat → State) : State :=
  match s.namespace? m.e.nsid with
  | none => s.complete m .invalidField 0
  | some n => match s.zoneTargets m n all with
    | none => s.complete m .invalidField 0
    | some zs =>
      let st := fun (z : Nat) => (s.zone m.e.nsid z).zstate
      if zs.any (fun z => s.zoneNext m.e.nsid n z != (s.zone m.e.nsid z).wp) then s
      else if zs.any (fun z => !ok (st z) && !idle (st z)) then s.complete m .zoneTransition 0
      else
        let s1 := s.each (zs.filter (fun z => ok (st z))) (fun t z => act t n z)
        if s1.ownsWork (some m.ref) then s1.begin m else s1.complete m .ok 0

/-- A command of Zone Management Send with action `a`. -/
def State.zoneSend (s : State) (c q cid a : Nat) (f : State → Cmd → State) : State :=
  s.ioStart c q cid 0x79 (fun t m => if m.e.cdw13 % 256 = a then f t m else t)

def execZoneClose (ctrl sq cid : Nat) (s : State) : Host.Outcome State Fault Refusal :=
  .next (s.whileLive (fun s => s.zoneSend ctrl sq cid 1 (fun t m => t.zoneAction m zoneOpenSt zoneOpenSt (· == zsClosed)
    (fun u _ z => u.zoneRecord (some m.ref) m.e.nsid z zsClosed (u.zone m.e.nsid z).wp))))

/-- Finish: the rest of the band set is void, the write pointer goes to ZCAP. -/
def State.zoneFinish (s : State) (m : Cmd) (n : Namespace) (z : Nat) : State :=
  let k := n.firstSet + z
  (s.when ((s.bandSet k).st == .open) (fun t => (t.modBandSet k (fun x => { x with st := .full })).bandRecords k 2)).zoneRecord (some m.ref) m.e.nsid z zsFull (s.zcap k)

def execZoneFinish (ctrl sq cid : Nat) (s : State) : Host.Outcome State Fault Refusal :=
  .next (s.whileLive (fun s => s.zoneSend ctrl sq cid 2 (fun t m => t.zoneAction m zoneActive (fun x => zoneActive x || x == zsEmpty) (· == zsFull) (fun u n z => u.zoneFinish m n z))))

/-- Open: an Empty zone needs room among the 16 active ones. -/
def State.zoneOpenCmd (s : State) (m : Cmd) : State :=
  match s.namespace? m.e.nsid with
  | none => s.complete m .invalidField 0
  | some n =>
    if !natBit m.e.cdw13 8 && (s.zone m.e.nsid (m.slba / s.zoneSize n)).zstate == zsEmpty && decide (16 ≤ s.zoneCount m.e.nsid zoneActive) then s.complete m .tooManyActive 0
    else s.zoneAction m (· == zsClosed) (fun x => x == zsEmpty || x == zsImplicit || x == zsClosed) (· == zsExplicit)
      (fun u _ z => u.zoneRecord (some m.ref) m.e.nsid z zsExplicit (u.zone m.e.nsid z).wp)

def execZoneOpen (ctrl sq cid : Nat) (s : State) : Host.Outcome State Fault Refusal := .next (s.whileLive (fun s => s.zoneSend ctrl sq cid 3 State.zoneOpenCmd))

/-- Reset: a deallocate record for the whole range and a zone record (R458). -/
def State.zoneReset (s : State) (m : Cmd) (n : Namespace) (z : Nat) : State :=
  let s1 := s.jline ⟨.dealloc (n.base + s.zoneBase n z) (s.zcap (n.firstSet + z)) 0, [], some m.ref, false, 0⟩
  s1.jline ⟨.zone m.e.nsid zsEmpty z 0, [], some m.ref, false, 0⟩

def execZoneReset (ctrl sq cid : Nat) (s : State) : Host.Outcome State Fault Refusal :=
  .next (s.whileLive (fun s => s.zoneSend ctrl sq cid 4 (fun t m => t.zoneAction m (· != zsEmpty) (· != zsEmpty) (· == zsEmpty) (fun u n z => u.zoneReset m n z))))

/-- A zone descriptor: type 2, state, ZCAP, ZSLBA, WP. -/
def State.zoneDescriptor (s : State) (nsid : Nat) (n : Namespace) (z : Nat) : List Byte :=
  let x := s.zone nsid z
  let base := z * s.zoneSize n
  leBytes 1 2 ++ leBytes 1 (x.zstate * 16) ++ zeros 6 ++ leBytes 8 (s.zcap (n.firstSet + z)) ++ leBytes 8 base ++ leBytes 8 (base + x.wp) ++ zeros 32

/-- Which zone states a reporting option names. -/
def reportState (opt zs : Nat) : Bool :=
  match opt with
  | 0 => true
  | 1 => zs == zsEmpty
  | 2 => zs == zsImplicit
  | 3 => zs == zsExplicit
  | 4 => zs == zsClosed
  | 5 => zs == zsFull
  | _ => false

/-- Report Zones from SLBA; with the partial bit the count is that of the descriptors that fit. -/
def State.zoneReport (s : State) (m : Cmd) : State :=
  match s.namespace? m.e.nsid with
  | none => s.complete m .invalidField 0
  | some n =>
    let opt := natBits m.e.cdw13 8 8
    let len := (m.e.cdw12 + 1) * 4
    if 7 < opt || s.nsze n ≤ m.slba then s.complete m (if 7 < opt then .invalidField else .lbaRange) 0
    else
      let z0 := m.slba / s.zoneSize n
      let zs := (List.range' z0 (n.nsets - z0)).filter (fun z => reportState opt (s.zone m.e.nsid z).zstate)
      let fit := zs.take ((len - 64) / 64)
      let count := if natBit m.e.cdw13 16 then fit.length else zs.length
      let body := leBytes 8 count ++ zeros 56 ++ fit.flatMap (fun z => s.zoneDescriptor m.e.nsid n z)
      (s.hostWrite .data m.ctrl m.e.dptr (slice body 0 (Nat.min len body.length))).complete m .ok 0

def execZoneMgmtReceive (ctrl sq cid : Nat) (s : State) : Host.Outcome State Fault Refusal :=
  .next (s.whileLive (fun s => s.ioStart ctrl sq cid 0x7A State.zoneReport))

end Sys2Proof.Machine
end

