-- ==== Sys2Proof/Machine/NvmeData.lean ====
section
/-! DEFINITION. What Identify, Get Log Page and Get Features return (R549 to R552, R558, R562, R569), at the offsets of the NVMe base
specification where the spec gives none. -/
namespace Sys2Proof.Machine

/-- `n` bytes, zero but for the fields given. -/
def layout (n : Nat) (fields : List (Nat × List Byte)) : List Byte := fields.foldl (fun b f => putBytes b f.1 f.2) (zeros n)

def ascii (t : String) : List Byte := t.toList.map (fun c => BitVec.ofNat 8 c.toNat)

/-- `t` padded with spaces to `n` characters. -/
def padded (n : Nat) (t : List Byte) : List Byte := slice (t ++ List.replicate n 0x20) 0 n

/-- One upper-case hexadecimal digit. -/
def hexDigit (v : Nat) : Byte := BitVec.ofNat 8 (if v < 10 then 0x30 + v else 0x37 + v)

/-- `n` upper-case hexadecimal digits. -/
def hexDigits : Nat → Nat → List Byte
  | 0, _ => []
  | n + 1, v => hexDigit (v / 16 ^ n % 16) :: hexDigits n v

def decDigits : Nat → Nat → List Byte
  | 0, _ => []
  | n + 1, v => BitVec.ofNat 8 (0x30 + v / 10 ^ n % 10) :: decDigits n v

/-- A list of numbers in rising order. -/
def insertRising (a : Nat) : List Nat → List Nat
  | [] => [a]
  | b :: r => if a ≤ b then a :: b :: r else b :: insertRising a r

def rising (l : List Nat) : List Nat := l.foldr insertRising []

/-- `n` 8-byte words of free value. -/
def State.freeBytes : Nat → State → List Byte × State
  | 0, s => ([], s)
  | n + 1, s =>
    let r := State.freeBytes n s.drawFree
    (leBytes 8 (Config.freeValue s.freeIdx).toNat ++ r.1, r.2)

/-! ### Times and temperatures -/

/-- Kelvin of a temperature in °C. -/
def kelvin (c : Nat) : Nat := c + 273

/-- The composite temperature: TJ, in kelvin. -/
def State.composite (s : State) : Nat := ((ofTwos 16 (s.fld TH_STAT.TJ) / 4) + 273).toNat

/-- The spin-up bound of R273 to 7,200 rpm, in µs. -/
def State.spinUpUs (s : State) : Nat :=
  Nat.min (2500000 + 7200 * 1000000 / Nat.max 1 (s.startProf 4 2)) (s.startProf 6 2 * 1000000)

/-- T of R470 for one actuator that reads `n` segments, in µs at 7,200 rpm. -/
def State.rebuildActUs (s : State) (a : Act) (n : Nat) : Nat :=
  let sf := s.surfaces.filter (fun x => surfAct x == a)
  let fr := sf.foldl (fun m x => Nat.min m (s.zn x 0 8 2)) 0xFFFF
  s.ngroups a * ((n * ((1000 + sf.length - 1) / Nat.max 1 sf.length) + fr - 1) / Nat.max 1 fr) * 510 * 50 / 3

/-- The bound of R470, in µs. -/
def State.rebuildUs (s : State) : Nat :=
  let h := (s.nseg + 1) / 2
  12 * Nat.max (s.rebuildActUs .A h) (s.rebuildActUs .B (s.nseg - h)) / 10 + 3000000

/-- The time limit of the extended self-test in minutes (R562): 2.2 x 10^9 bytes a second. -/
def State.edstt (s : State) : Nat := (s.capBlk * 4096 + 132000000000 - 1) / 132000000000

/-! ### Readiness and BAR0 (R537 to R539) -/

/-- T_RDY of R539 in µs, from the applied Accord. -/
def State.readyUs (s : State) : Nat :=
  let count := s.enclCfg 6 1
  let tok := Nat.max 1 (s.enclCfg 7 1)
  1500000 + (count + tok - 1) / tok * (s.startProf 6 2 * 1000000 + 500000) + 1500000 + s.rebuildUs

/-- CRTO.CRWMT: T_RDY in units of 500 ms, never less than 120 s (R538, R539). -/
def State.crwmt (s : State) : Nat := Nat.max 240 ((s.readyUs + 499999) / 500000)

/-- CAP: MQES 0xFFFF, CQR, AMS 0b01, TO; DSTRD 0, NSSRS 0, CSS bits 0 and 6, MPSMIN 0, MPSMAX 4, CRMS 0b11 (R538). -/
def State.cap (s : State) : Nat := 0xFFFF + 2 ^ 16 + 2 ^ 17 + Nat.min 0xFF s.crwmt * 2 ^ 24 + 0x41 * 2 ^ 37 + 4 * 2 ^ 52 + 3 * 2 ^ 59

/-- CSTS of controller `c`: RDY, CFS, SHST, PP. -/
def State.csts (s : State) (c : Nat) : Nat :=
  let k := s.ctrl c
  (if k.rdy then 1 else 0) + (if k.cfs then 2 else 0) + 4 * k.shst + (if k.pp then 32 else 0)

/-- An offset of BAR0 lies in one of the four windows of R537: controller registers, doorbells, MSI-X table, pending bits. -/
def inBar0 (off : Nat) : Bool := off < 0x1000 || inRange off 0x1000 0x3007 || inRange off 0x8000 0xC08F || inRange off 0xD000 0xD087

/-- What a 4-byte read of BAR0 of the function of controller `c` returns (R536 to R538): CAP, VS, CSTS and CRTO, and zero outside the windows.
None stands for what host software has written there and for what the NVMe base specification gives the rest of the windows. -/
def State.bar0 (s : State) (c off : Nat) : Option (BitVec 32) :=
  if off = 0x00 then some (BitVec.ofNat 32 s.cap)
  else if off = 0x04 then some (BitVec.ofNat 32 (s.cap / 2 ^ 32))
  else if off = 0x08 then some 0x00020000
  else if off = 0x1C then some (BitVec.ofNat 32 (s.csts c))
  else if off = 0x68 then some (BitVec.ofNat 32 (s.crwmt + 4 * 2 ^ 16))
  else if inBar0 off then none else some 0

/-! ### Identify (R549, R553, R558) -/

/-- EXLAT of PS 1 and PS 2. -/
def State.exlat1 (s : State) : Nat := s.spinUpUs + 1500000
def State.exlat2 (s : State) : Nat := s.exlat1 + s.rebuildUs + 1000000

/-- A power state descriptor: MP in 0.01 W, NOPS, ENLAT, EXLAT. -/
def powerDesc (mp nops enlat exlat : Nat) : List Byte := layout 32 [(0, leBytes 2 mp), (3, leBytes 1 (2 * nops)), (4, leBytes 4 enlat), (8, leBytes 4 exlat)]

/-- The firmware revision of R549. -/
def State.firmwareRev (s : State) : List Byte := hexDigits 4 (s.fld ST_ROMLVL.STEWARD) ++ ascii "P" ++ decDigits 3 (s.fld ST_PATCHGEN.GEN % 1000)

/-- The 20 characters of the serial number (R648). -/
def serialNumber : List Byte := (List.range 10).flatMap (fun i => hexDigits 2 (leAt deviceIdent i 1))

/-- Identify Controller of controller `c`. -/
def State.identCtrl (s : State) (c : Nat) : List Byte :=
  let port := if s.dualPort then 1 else 0
  layout 4096 [(0, leBytes 2 0x1BD7), (2, leBytes 2 0x1BD7), (4, serialNumber), (24, padded 40 (ascii "Plairvo PV-480")), (64, s.firmwareRev),
    (76, leBytes 1 port), (77, leBytes 1 11), (78, leBytes 2 (c + 1)), (80, leBytes 4 0x20000), (84, leBytes 4 2000000), (88, leBytes 4 1000000),
    (92, leBytes 4 (2 ^ 8 + 2 ^ 9 + 2 ^ 27)), (111, leBytes 1 1), (128, leBytes 2 10), (256, leBytes 2 0x1F), (258, leBytes 1 3), (259, leBytes 1 7),
    (260, leBytes 1 0x1F), (261, leBytes 1 0x06), (262, leBytes 1 63), (263, leBytes 1 2), (266, leBytes 2 (kelvin (s.fld TH_LIMITS.WARN))),
    (268, leBytes 2 (kelvin (s.fld TH_LIMITS.SHUT))), (270, leBytes 2 11), (316, leBytes 2 s.edstt), (319, leBytes 1 1), (512, leBytes 1 0x66), (513, leBytes 1 0x44),
    (516, leBytes 4 s.nn), (520, leBytes 2 0xED), (526, leBytes 2 511), (528, leBytes 2 511), (536, leBytes 4 2),
    (768, (List.range 256).map Config.subnqn), (2048, powerDesc 2200 0 0 0), (2080, powerDesc 230 1 25000000 s.exlat1), (2112, powerDesc 15 1 25100000 s.exlat2)]

/-- Blocks of a namespace that are not deallocated: NUSE. -/
def State.nuse (s : State) (n : Namespace) : Nat :=
  (s.map.map.filter (fun x => n.base ≤ x.1 * s.gran && x.1 * s.gran < n.base + n.size)).length * s.gran

/-- Identify Namespace. -/
def State.identNs (s : State) (n : Namespace) : List Byte :=
  let big := s.gran == 2
  let one := leBytes 2 (if big then 1 else 0)
  layout 4096 [(0, leBytes 8 (s.nsze n)), (8, leBytes 8 (s.nsze n)), (16, leBytes 8 (s.nuse n)), (24, leBytes 1 (if big then 0x11 else 1)),
    (30, leBytes 1 (if s.dualPort then 1 else 0)), (31, leBytes 1 0x7F), (33, leBytes 1 0x09), (34, leBytes 2 511), (36, leBytes 2 511),
    (64, one), (66, one), (68, one), (70, one), (130, leBytes 1 12)]

/-- The namespace answers as not ready: in Base-note mode and while the map is rebuilt. -/
def State.nsReady (s : State) : Bool := s.mapReady && !s.bit FB_STAT.BASENOTE

/-- The command-set independent namespace data. -/
def State.identNsCommon (s : State) : List Byte :=
  layout 4096 [(0, leBytes 1 (if s.gran = 2 then 0x11 else 1)), (1, leBytes 1 (if s.dualPort then 1 else 0)), (2, leBytes 1 0x7F), (14, leBytes 1 (if s.nsReady then 1 else 0))]

/-- The zoned namespace data: 16 active and open zones, the zone size, no descriptor extension. -/
def State.identZns (s : State) (n : Namespace) : List Byte :=
  layout 4096 [(4, leBytes 4 15), (8, leBytes 4 15), (2816, leBytes 8 (s.zoneSize n))]

/-- A list of NSIDs above `lo`, of 4 bytes each. -/
def nsidList (lo : Nat) (l : List Nat) : List Byte := slice ((l.filter (fun i => decide (lo < i))).flatMap (leBytes 4) ++ zeros 4096) 0 4096

/-- A controller list: number, then identifiers from `lo`. -/
def ctrlList (lo : Nat) (l : List Nat) : List Byte :=
  let x := l.filter (fun i => decide (lo ≤ i))
  slice (leBytes 2 x.length ++ x.flatMap (leBytes 2) ++ zeros 4096) 0 4096

/-- CNTLIDs of the subsystem. -/
def State.cntlids (s : State) : List Nat := if s.dualPort then [1, 2] else [1]

/-- Active and allocated NSIDs, ascending. -/
def State.activeNs (s : State) (c : Nat) : List Nat := (s.nsList.map (fun x => x.1)).filter (s.ctrl c).attached.contains
def State.allocNs (s : State) : List Nat := s.nsList.map (fun x => x.1)

/-- The namespace identification descriptors: UUID, command set. -/
def nsDescriptors (id : Nat) (n : Namespace) : List Byte :=
  layout 4096 [(0, leBytes 1 3 ++ leBytes 1 16), (4, leBytes 16 (Config.nsUuid id).toNat), (20, leBytes 1 4 ++ leBytes 1 1), (24, leBytes 1 (if n.zoned then 2 else 0))]

/-- What Identify returns, or the status that ends it. -/
def State.identifyData (s : State) (c : Nat) (e : SqEntry) : Except NvStatus (List Byte) :=
  let cns := e.cdw10 % 256
  let csi := e.cdw11 / 2 ^ 24 % 256
  let active := (s.ctrl c).attached.contains e.nsid
  let of := fun (act : Bool) (f : Namespace → Except NvStatus (List Byte)) =>
    if e.nsid = 0 || s.nn < e.nsid then .error .invalidNs
    else match s.namespace? e.nsid with
      | some n => if act && !active then .ok (zeros 4096) else f n
      | none => .ok (zeros 4096)
  if cns = 0x00 then of true (fun n => .ok (s.identNs n))
  else if cns = 0x01 then .ok (s.identCtrl c)
  else if cns = 0x02 then (if 0xFFFFFFFE ≤ e.nsid then .error .invalidNs else .ok (nsidList e.nsid (s.activeNs c)))
  else if cns = 0x03 then of true (fun n => .ok (nsDescriptors e.nsid n))
  else if cns = 0x05 then of true (fun n =>
    if csi = 0 && !n.zoned then .ok (zeros 4096) else if csi = 2 && n.zoned then .ok (s.identZns n) else .error .invalidField)
  else if cns = 0x06 then (if csi = 0 then .ok (zeros 4096) else if csi = 2 then .ok (layout 4096 [(0, leBytes 1 9)]) else .error .invalidField)
  else if cns = 0x08 then of true (fun _ => .ok s.identNsCommon)
  else if cns = 0x10 then (if 0xFFFFFFFE ≤ e.nsid then .error .invalidNs else .ok (nsidList e.nsid s.allocNs))
  else if cns = 0x11 then of false (fun n => .ok (s.identNs n))
  else if cns = 0x12 then of false (fun _ => .ok (ctrlList (e.cdw10 / 65536) (s.cntlids.filter (fun i => (s.ctrl (i - 1)).attached.contains e.nsid))))
  else if cns = 0x13 then .ok (ctrlList (e.cdw10 / 65536) s.cntlids)
  else if cns = 0x1C then .ok (layout 4096 [(0, leBytes 8 5)])
  else .error .invalidField

/-! ### Log pages (R551, R552, R562, R569) -/

def NvStatus.field (st : NvStatus) : Nat := (st.sc + st.sct * 256 + st.crd * 2 ^ 11 + (if st.dnr then 2 ^ 14 else 0)) * 2

/-- An Error Information entry. The host timestamp stands in the command-specific information. -/
def ErrEntry.bytes (e : ErrEntry) : List Byte :=
  layout 64 [(0, leBytes 8 e.count), (8, leBytes 2 e.sq), (10, leBytes 2 e.cid), (12, leBytes 2 e.st.field), (14, leBytes 2 0xFFFF), (16, leBytes 8 e.lba), (24, leBytes 4 e.nsid), (32, leBytes 6 e.time)]

/-- Available Spare in percent. -/
def State.spareLeft (s : State) : Nat := 100 * (s.redund 2 - s.badSurfs) / Nat.max 1 (s.redund 2)

/-- The temperature threshold in force of controller `c`: over (`k` 0) or under (1). -/
def State.tempThreshold (s : State) (c k : Nat) : Nat :=
  let v := s.feature c 0x04 k
  if v != 0 then v - 1 else if k = 0 then kelvin (s.fld TH_LIMITS.WARN) else 0

/-- The critical warning of R552. -/
def State.criticalWarning (s : State) (c : Nat) : Nat :=
  (if s.spareLeft < 1 then 1 else 0) + (if s.tempThreshold c 0 < s.composite || s.composite < s.tempThreshold c 1 then 2 else 0) +
    (if s.nvme.lostStripes != 0 || s.nvme.unread != 0 then 4 else 0) + (if s.bit PX_STAT.NOWRITE then 8 else 0)

/-- SMART / Health Information. The counts of host traffic, which the spec does not give, are free values. -/
def State.smart (s : State) (c : Nat) (free : List Byte) : List Byte :=
  layout 512 [(0, leBytes 1 (s.criticalWarning c)), (1, leBytes 2 s.composite), (3, leBytes 1 s.spareLeft), (4, leBytes 1 1),
    (5, leBytes 1 (Nat.min 255 (Nat.max (s.fld MJ_WEAR.JOURNAL) (s.fld MJ_WEAR.STRIPE) / 100))), (32, slice free 0 80),
    (112, leBytes 16 (s.fld SL_PCYC.VALUE)), (128, leBytes 16 (s.fld SL_HOURS.VALUE / 10)), (144, leBytes 16 (s.fld SL_UNSAFE.VALUE)),
    (160, leBytes 16 s.nvme.unread), (176, leBytes 16 s.nvme.errCount), (192, slice free 80 8)]

/-- Firmware Slot Information. -/
def State.fwSlots (s : State) : List Byte :=
  let act := if s.fabric.bundle == [] then 1 else 2
  let next := if [0, 1].any (fun k => s.ptSlotState k == asPending && (s.flashPatch k).marks.extra) then 2 else 0
  layout 512 ([(0, leBytes 1 (act + 16 * next)), (8, hexDigits 8 (s.fld ST_ROMLVL.REG))] ++
    (if act = 2 then [(16, hexDigits 8 (s.fld ST_PATCHGEN.GEN))] else []) ++
    (if s.sec.area != [] then [(24, hexDigits 8 (areaGen s.sec.area))] else []) ++
    (if s.acc.applied != [] then [(56, hexDigits 8 (s.fld AC_GEN.GEN))] else []))

/-- Commands Supported and Effects: CSUPP, with LBCC for what changes blocks and NIC or NCC for what changes namespaces. -/
def effects : List Byte :=
  let adm := [(0x00, 1), (0x01, 1), (0x02, 1), (0x04, 1), (0x05, 1), (0x06, 1), (0x08, 1), (0x09, 1), (0x0A, 1), (0x0C, 1), (0x0D, 9), (0x10, 1), (0x11, 1), (0x14, 1), (0x15, 9), (0x80, 3), (0x81, 1), (0x82, 1)]
  let io := [(0x00, 1), (0x01, 3), (0x02, 1), (0x05, 1), (0x08, 3), (0x09, 3), (0x0C, 1), (0x0D, 1), (0x0E, 1), (0x11, 1), (0x15, 1), (0x79, 3), (0x7A, 1), (0x7D, 3), (0x81, 1)]
  layout 4096 (adm.map (fun x => (4 * x.1, leBytes 4 x.2)) ++ io.map (fun x => (1024 + 4 * x.1, leBytes 4 x.2)))

/-- A result of the Device Self-test log. -/
def SelfTest.bytes (t : SelfTest) : List Byte :=
  layout 28 ([(0, leBytes 1 (t.code * 16 + t.result)), (1, leBytes 1 t.segment), (4, leBytes 8 t.hours)] ++
    (match t.lba with
     | some l => [(2, leBytes 1 2), (16, leBytes 8 l)]
     | none => []))

/-- The Device Self-test log; how far a test in progress has come is a free value. -/
def State.selfTestLog (s : State) (free : List Byte) : List Byte :=
  let now := match s.nvme.selfTest with
    | some r => leBytes 1 r.code ++ leBytes 1 (leAt free 0 1 % 101)
    | none => zeros 2
  now ++ zeros 2 ++ s.nvme.selfLog.flatMap SelfTest.bytes ++ (List.range (20 - s.nvme.selfLog.length)).flatMap (fun _ => layout 28 [(0, leBytes 1 0x0F)])

/-- Reservation Notification: the oldest one. -/
def State.resvPage (s : State) (c : Nat) : List Byte :=
  match (s.ctrl c).resvLog with
  | [] => zeros 64
  | x :: rest => layout 64 [(0, leBytes 8 1), (8, leBytes 1 (x / 2 ^ 32)), (9, leBytes 1 (Nat.min 255 rest.length)), (12, leBytes 4 (x % 2 ^ 32))]

/-- The Changed Zone List of a zoned namespace. -/
def State.zonePage (s : State) (nsid : Nat) (n : Namespace) : List Byte :=
  let l := (s.nvme.changedZones.filter (fun z => z.1 == nsid)).map (fun z => z.2 * s.zoneSize n)
  if 511 < l.length then layout 4096 [(0, leBytes 2 0xFFFF)] else layout 4096 [(0, leBytes 2 l.length), (8, l.flatMap (leBytes 8))]

def DomState.code : DomState → Nat
  | .serving => 0
  | .quiescing => 1
  | .down => 2
  | .restoring => 3

/-- Drive State (R569). -/
def State.drivePage (s : State) : List Byte :=
  layout 64 [(0, leBytes 2 1), (2, leBytes 1 (if s.bit FB_STAT.BASENOTE then 1 else 0)), (3, leBytes 1 (s.fld SP_STAT.STATE)),
    (4, ([Dom.DA, .DB, .DP, .DE]).flatMap (fun d => leBytes 1 (s.dom d).st.code)), (8, leBytes 4 (s.fld SP_SPEED.SPEED)), (12, leBytes 4 (s.fld AC_GEN.GEN)),
    (16, leBytes 4 (s.fld ST_PATCHGEN.GEN)), (20, leBytes 4 (s.fld PX_FAILED.REG)), (24, leBytes 4 (s.fld PX_RBLEFT.REG)),
    (28, leBytes 1 (s.fld MP_FREE.FREE / 4)), (29, leBytes 1 (s.fld MP_STAT.STATE)), (30, leBytes 2 (s.fld PL_STAT.REG / 65536)),
    (32, leBytes 4 (s.fld MP_JFREE.REG)), (36, leBytes 4 s.nvme.inflight.length), (40, leBytes 4 s.locksTaken)]

def NvStatus.invalidLog : NvStatus := .specific 0x09

/-- A log page, or the status that ends the request. `free` supplies what the spec leaves open. -/
def State.logData (s : State) (c : Nat) (e : SqEntry) (free : List Byte) : Except NvStatus (List Byte) :=
  let lid := e.cdw10 % 256
  if lid = 0x01 then .ok (s.nvme.errors.flatMap ErrEntry.bytes ++ zeros (64 * (64 - s.nvme.errors.length)))
  else if lid = 0x02 then (if e.nsid = 0 || e.nsid = 0xFFFFFFFF then .ok (s.smart c free) else .error .invalidField)
  else if lid = 0x03 then .ok s.fwSlots
  else if lid = 0x04 then .ok (nsidList 0 (rising (s.ctrl c).changedNs))
  else if lid = 0x05 then .ok effects
  else if lid = 0x06 then .ok (s.selfTestLog free)
  else if lid = 0x80 then .ok (s.resvPage c)
  else if lid = 0xBF then
    match s.namespace? e.nsid with
    | some n => if n.zoned && (s.ctrl c).attached.contains e.nsid then .ok (s.zonePage e.nsid n) else .error .invalidField
    | none => .error .invalidNs
  else if lid = 0xC0 then .ok s.drivePage
  else .error .invalidLog

/-- The read of a log page without Retain Asynchronous Event clears what it reports. -/
def State.logRead (s : State) (c : Nat) (e : SqEntry) : State :=
  let lid := e.cdw10 % 256
  if natBit e.cdw10 15 then s
  else
    let s1 := s.modCtrl c (fun k => { k with
      aerMasked := k.aerMasked.filter (fun x => x % 65536 != lid)
      changedNs := if lid = 0x04 then [] else k.changedNs
      resvLog := if lid = 0x80 then k.resvLog.drop 1 else k.resvLog })
    let s2 := if lid = 0xBF then s1.modNvme (fun n => { n with changedZones := n.changedZones.filter (fun z => z.1 != e.nsid) }) else s1
    s2.pumpAer 8 c

/-! ### Features (R550, R555, R557) -/

/-- I/O queue pairs of a controller (R542). -/
def State.maxQueues (s : State) : Nat := if s.dualPort then 512 else 1024

/-- Get Features: DW0 and the data, of the current value or the default. -/
def State.featureValue (s : State) (c : Nat) (e : SqEntry) (dflt : Bool) : Except NvStatus (Nat × List Byte) :=
  let fid := e.cdw10 % 256
  let cur := fun (sel d : Nat) => (.ok (if dflt then d else s.feature c fid sel, []) : Except NvStatus (Nat × List Byte))
  if fid = 0x01 then .ok (if dflt || s.feature c 1 0 == 0 then 6 else s.feature c 1 0 - 1, [])
  else if fid = 0x04 then
    let k := e.cdw11 / 2 ^ 20 % 4
    if e.cdw11 / 2 ^ 16 % 16 != 0 || 1 < k then .error .invalidField
    else .ok (if dflt then (if k = 0 then kelvin (s.fld TH_LIMITS.WARN) else 0) else s.tempThreshold c k, [])
  else if fid = 0x07 then .ok ((s.maxQueues - 1) + (s.maxQueues - 1) * 65536, [])
  else if fid = 0x09 then (if 1024 < e.cdw11 % 65536 then .error .invalidField else .ok (if dflt then e.cdw11 % 65536 else s.feature c 9 (e.cdw11 % 65536) / 65536 * 65536 + e.cdw11 % 65536, []))
  else if fid = 0x0E then
    .ok (0, layout 8 [(0, leBytes 6 (if dflt then 0 else s.hostTime)), (6, leBytes 1 (if s.nvme.tsSet && !dflt then 2 else 0))])
  else if fid = 0x81 ∨ fid = 0x82 then
    match s.namespace? e.nsid with
    | none => .error .invalidNs
    | some _ => if fid = 0x82 then .ok (1, []) else cur e.nsid 0
  else if fid = 0xC0 then .ok (if !dflt && (s.ctrl c).orderedMarks.contains (e.cdw11 % 65536) then 1 else 0, [])
  else if fid = 0xC1 then .ok ((if s.nvme.streaming && !dflt then 1 else 0) + s.fld SP_STAT.SRC * 2 + s.fld SP_STAT.SRCHOLD * 8, [])
  else if featureIds.contains fid then cur 0 0
  else .error .invalidField

end Sys2Proof.Machine
end

