-- ==== Sys2Proof/Machine/NvmeAdmin.lean ====
section
/-! DEFINITION. The admin commands of R547 but for firmware and security: queues, Identify, log pages, Abort, features, namespaces,
self-tests and Format. Each row is the service of a command that has been fetched. -/
namespace Sys2Proof.Machine

/-- An admin command of opcode `opc` is served with `f`: fetched, not served before, without a failed check. -/
def State.adminStart (s : State) (c cid opc : Nat) (f : State → Cmd → State) : State :=
  match s.cmd? c 0 cid with
  | none => s
  | some m => if m.e.opc != opc || m.started || m.fault.isSome then s else f s m

/-- An admin command returns `data` to host memory and succeeds. -/
def State.returned (s : State) (m : Cmd) (data : List Byte) : State := (s.hostWrite .data m.ctrl m.e.dptr data).finish m .ok 0

/-! ### Queues (R542, R547, R563) -/

def NvStatus.cqInvalid : NvStatus := .specific 0x00
def NvStatus.invalidQid : NvStatus := .specific 0x01
def NvStatus.invalidSize : NvStatus := .specific 0x02
def NvStatus.invalidVector : NvStatus := .specific 0x08
def NvStatus.invalidDeletion : NvStatus := .specific 0x0C

def State.deleteSq (s : State) (m : Cmd) : State :=
  let q := m.e.cdw10 % 65536
  match s.sq m.ctrl q with
  | none => s.finish m .invalidQid 0
  | some x =>
    if q = 0 || x.draining then s.finish m .invalidQid 0
    else (((s.begin m).putSq m.ctrl q (some { x with draining := true })).modNvme (fun n => { n with drains := n.drains ++ [⟨m.ctrl, q, drSq, m.ctrl, m.e.cid⟩] })).drainPump

def execDeleteIoSq (ctrl cid : Nat) (s : State) : Host.Outcome State Fault Refusal := .next (s.whileLive (fun s => s.adminStart ctrl cid 0x00 State.deleteSq))

/-- What Create I/O SQ finds wrong. -/
def State.createSqFault (s : State) (m : Cmd) : Option NvStatus :=
  let q := m.e.cdw10 % 65536
  let cq := m.e.cdw11 / 65536
  if q = 0 || s.maxQueues < q || (s.sq m.ctrl q).isSome then some .invalidQid
  else if m.e.cdw10 / 65536 = 0 then some .invalidSize
  else if m.e.cdw11 % 2 = 0 then some .invalidField
  else if cq = 0 || s.maxQueues < cq then some .invalidQid
  else if (s.cq m.ctrl cq).isNone then some .cqInvalid
  else if (s.ctrl m.ctrl).sqs.any (fun x => match x.2 with
    | some y => y.cq == cq
    | none => false) then some .invalidQid
  else none

def State.createSq (s : State) (m : Cmd) : State :=
  match s.createSqFault m with
  | some st => s.finish m st 0
  | none =>
    let q := m.e.cdw10 % 65536
    let sq : SubQ := { size := m.e.cdw10 / 65536 + 1, head := 0, tail := 0, cq := m.e.cdw11 / 65536, prio := m.e.cdw11 / 2 % 4, ordered := (s.ctrl m.ctrl).orderedMarks.contains q, draining := false }
    (s.putSq m.ctrl q (some sq)).finish m .ok 0

def execCreateIoSq (ctrl cid : Nat) (s : State) : Host.Outcome State Fault Refusal := .next (s.whileLive (fun s => s.adminStart ctrl cid 0x01 State.createSq))

def State.deleteCq (s : State) (m : Cmd) : State :=
  let q := m.e.cdw10 % 65536
  if q = 0 || (s.cq m.ctrl q).isNone then s.finish m .invalidQid 0
  else if (s.ctrl m.ctrl).sqs.any (fun x => match x.2 with
    | some y => y.cq == q
    | none => false) then s.finish m .invalidDeletion 0
  else (s.putCq m.ctrl q none).finish m .ok 0

def execDeleteIoCq (ctrl cid : Nat) (s : State) : Host.Outcome State Fault Refusal := .next (s.whileLive (fun s => s.adminStart ctrl cid 0x04 State.deleteCq))

def State.createCq (s : State) (m : Cmd) : State :=
  let q := m.e.cdw10 % 65536
  if q = 0 || s.maxQueues < q || (s.cq m.ctrl q).isSome then s.finish m .invalidQid 0
  else if m.e.cdw10 / 65536 = 0 then s.finish m .invalidSize 0
  else if m.e.cdw11 % 2 = 0 then s.finish m .invalidField 0
  else if 1024 < m.e.cdw11 / 65536 then s.finish m .invalidVector 0
  else
    let cq : ComQ := { size := m.e.cdw10 / 65536 + 1, head := 0, tail := 0, phase := true, vector := m.e.cdw11 / 65536, irq := natBit m.e.cdw11 1, held := [], coal := 0 }
    (s.putCq m.ctrl q (some cq)).finish m .ok 0

def execCreateIoCq (ctrl cid : Nat) (s : State) : Host.Outcome State Fault Refusal := .next (s.whileLive (fun s => s.adminStart ctrl cid 0x05 State.createCq))

/-! ### Identify and log pages -/

def State.identify (s : State) (m : Cmd) : State :=
  match s.identifyData m.ctrl m.e with
  | .ok d => s.returned m d
  | .error st => s.finish m st 0

def execIdentify (ctrl cid : Nat) (s : State) : Host.Outcome State Fault Refusal := .next (s.whileLive (fun s => s.adminStart ctrl cid 0x06 State.identify))

/-- Get Log Page: NUMD dwords from the byte offset LPO. -/
def State.getLog (s : State) (m : Cmd) : State :=
  let e := m.e
  let len := 4 * (e.cdw10 / 65536 + e.cdw11 % 65536 * 65536 + 1)
  let off := e.cdw12 + e.cdw13 * 2 ^ 32
  let r := State.freeBytes 12 s
  match s.logData m.ctrl e r.1 with
  | .error st => s.finish m st 0
  | .ok d => if off % 4 != 0 || d.length ≤ off then s.finish m .invalidField 0 else (r.2.logRead m.ctrl e).returned m (slice d off (Nat.min len (d.length - off)))

def execGetLogPage (ctrl cid : Nat) (s : State) : Host.Outcome State Fault Refusal := .next (s.whileLive (fun s => s.adminStart ctrl cid 0x02 State.getLog))

/-! ### Abort (R565) -/

def NvStatus.abortLimit : NvStatus := .specific 0x03

/-- The effects of a command in flight can still be withheld. -/
def State.abortable (s : State) (k : Cmd) : Bool :=
  if k.sq = 0 then k.e.opc == 0x0C
  else if k.ready.isSome then false
  else if isWriteOp k.e.opc || k.e.opc == 0x79 then !s.lineIssued k
  else true

/-- A command is aborted: what it had on its way goes, with the recoveries no other command waits for (R418). -/
def State.abortCmd (s : State) (k : Cmd) : State :=
  let s1 := (s.withdraw k).modCtrl k.ctrl (fun x => { x with aers := if k.sq = 0 then x.aers.filter (· != k.e.cid) else x.aers })
  let s2 := s1.complete k .abortRequested 0
  s2.each (k.waits.filter (fun p => !s2.nvme.inflight.any (fun j => j.waits.contains p))) State.cancelPfn

/-- Abort; `unfetched` says that the entry it names lies in its submission queue, not fetched yet. -/
def State.abortNamed (s : State) (m : Cmd) (unfetched : Bool) : State :=
  let q := m.e.cdw10 % 65536
  let cid := m.e.cdw10 / 65536
  if 4 ≤ (s.nvme.inflight.filter (fun k => k.ctrl == m.ctrl && k.sq == 0 && k.e.opc == 0x08 && decide (k.seq < m.seq))).length then s.finish m .abortLimit 0
  else match s.cmd? m.ctrl q cid with
    | some k => if k.seq != m.seq && s.abortable k then (s.abortCmd k).finish m .ok 0 else s.finish m .ok 1
    | none => match s.sq m.ctrl q with
      | some x =>
        if unfetched && x.head != x.tail then (s.modCtrl m.ctrl (fun y => { y with abortMarks := y.abortMarks ++ [(q, cid)] })).finish m .ok 0 else s.finish m .ok 1
      | none => s.finish m .ok 1

def execAbort (ctrl cid : Nat) (unfetched : Bool) (s : State) : Host.Outcome State Fault Refusal :=
  .next (s.whileLive (fun s => (s.adminStart ctrl cid 0x08 (fun t m => t.abortNamed m unfetched)).standbyStep))

/-! ### Set Features (R550) -/

/-- Set Features of identifier `fid`, served with `f`. -/
def State.featStart (s : State) (c cid fid : Nat) (f : State → Cmd → State) : State :=
  s.adminStart c cid 0x09 (fun t m => if m.e.cdw10 % 256 != fid then t else f t m)

/-- The value `v` is kept under selector `sel` and the command succeeds. -/
def State.keep (s : State) (m : Cmd) (sel v : Nat) : State := (s.setFeature m.ctrl (m.e.cdw10 % 256) sel v).finish m .ok 0

def execSetArbitration (ctrl cid : Nat) (s : State) : Host.Outcome State Fault Refusal :=
  .next (s.whileLive (fun s => s.featStart ctrl cid 0x01 (fun t m => t.keep m 0 (m.e.cdw11 + 1))))

/-- Power Management: PS 0, 1 or 2 (R558); both controllers show the state asked for. -/
def State.setPower (s : State) (m : Cmd) : State :=
  let ps := m.e.cdw11 % 32
  if 2 < ps then s.finish m .invalidField 0
  else ((s.begin m).each [0, 1] (fun t c => t.setFeature c 0x02 0 ps)).powerRequest ps

def execSetPowerManagement (ctrl cid : Nat) (s : State) : Host.Outcome State Fault Refusal := .next (s.whileLive (fun s => s.featStart ctrl cid 0x02 State.setPower))

/-- Temperature Threshold: THSEL 0 over, 0 to WCTEMP, 1 under. -/
def State.setTemp (s : State) (m : Cmd) : State :=
  let k := m.e.cdw11 / 2 ^ 20 % 4
  let v := m.e.cdw11 % 65536
  if m.e.cdw11 / 2 ^ 16 % 16 != 0 || 1 < k || (k = 0 && kelvin (s.fld TH_LIMITS.WARN) < v) then s.finish m .invalidField 0 else s.keep m k (v + 1)

def execSetTemperatureThreshold (ctrl cid : Nat) (s : State) : Host.Outcome State Fault Refusal := .next (s.whileLive (fun s => s.featStart ctrl cid 0x04 State.setTemp))

def execSetErrorRecovery (ctrl cid : Nat) (s : State) : Host.Outcome State Fault Refusal :=
  .next (s.whileLive (fun s => s.featStart ctrl cid 0x05 (fun t m => if 30 < m.e.cdw11 % 65536 then t.finish m .invalidField 0 else t.keep m 0 (m.e.cdw11 % 65536))))

def NvStatus.sequenceError : NvStatus := .generic 0x0C

/-- Number of Queues: 65,535 is no number; once an I/O queue exists the command comes too late. -/
def State.setQueues (s : State) (m : Cmd) : State :=
  let n := s.maxQueues - 1
  if m.e.cdw11 % 65536 = 0xFFFF || m.e.cdw11 / 65536 = 0xFFFF then s.finish m .invalidField 0
  else if (s.ctrl m.ctrl).cqs.any (fun x => x.1 != 0 && x.2.isSome) then s.finish m .sequenceError 0
  else s.finish m .ok (n + n * 65536)

def execSetNumberOfQueues (ctrl cid : Nat) (s : State) : Host.Outcome State Fault Refusal := .next (s.whileLive (fun s => s.featStart ctrl cid 0x07 State.setQueues))

def execSetInterruptCoalescing (ctrl cid : Nat) (s : State) : Host.Outcome State Fault Refusal :=
  .next (s.whileLive (fun s => s.featStart ctrl cid 0x08 (fun t m => t.keep m 0 (m.e.cdw11 % 65536))))

def execSetInterruptVectorConfig (ctrl cid : Nat) (s : State) : Host.Outcome State Fault Refusal :=
  .next (s.whileLive (fun s => s.featStart ctrl cid 0x09 (fun t m => if 1024 < m.e.cdw11 % 65536 then t.finish m .invalidField 0 else t.keep m (m.e.cdw11 % 65536) (m.e.cdw11 % 2 ^ 17))))

def execSetWriteAtomicity (ctrl cid : Nat) (s : State) : Host.Outcome State Fault Refusal :=
  .next (s.whileLive (fun s => s.featStart ctrl cid 0x0A (fun t m => t.keep m 0 (m.e.cdw11 % 2))))

/-- The notices of R550: SMART warnings, Namespace Attribute, Firmware Activation, Changed Zone. -/
def noticeBits : Nat := 0xFF + 2 ^ 8 + 2 ^ 9 + 2 ^ 27

def execSetAsyncEventConfig (ctrl cid : Nat) (s : State) : Host.Outcome State Fault Refusal :=
  .next (s.whileLive (fun s => s.featStart ctrl cid 0x0B (fun t m => t.keep m 0 (Nat.land m.e.cdw11 noticeBits))))

/-- Timestamp: `ms` is the 48-bit value of the data (record 0x1605). -/
def State.setTime (s : State) (m : Cmd) (ms : Nat) : State :=
  ((s.modNvme (fun n => { n with timestamp := ms % 2 ^ 48, tsTick := s.tick, tsSet := true })).record 0x1605 (leBytes 6 (ms % 2 ^ 48) ++ zeros 2)).finish m .ok 0

def execSetTimestamp (ctrl cid ms : Nat) (s : State) : Host.Outcome State Fault Refusal := .next (s.whileLive (fun s => s.featStart ctrl cid 0x0E (fun t m => t.setTime m ms)))

/-- A feature of a namespace: one that is attached, or all of them. -/
def State.nsFeature (s : State) (m : Cmd) (f : State → List Nat → State) : State :=
  if m.e.nsid = 0xFFFFFFFF then f s (s.activeNs m.ctrl)
  else match s.nsFault m.ctrl m.e.nsid with
    | some st => s.finish m st 0
    | none => f s [m.e.nsid]

def execSetReservationNotifyMask (ctrl cid : Nat) (s : State) : Host.Outcome State Fault Refusal :=
  .next (s.whileLive (fun s => s.featStart ctrl cid 0x81 (fun t m => t.nsFeature m (fun u l => (u.each l (fun v i => v.setFeature m.ctrl 0x81 i (m.e.cdw11 / 2 % 8 * 2))).finish m .ok 0))))

def NvStatus.notChangeable : NvStatus := .specific 0x0E

/-- Reservation Persistence is always on: it cannot be turned off. -/
def execSetReservationPersistence (ctrl cid : Nat) (s : State) : Host.Outcome State Fault Refusal :=
  .next (s.whileLive (fun s => s.featStart ctrl cid 0x82 (fun t m => t.nsFeature m (fun u _ => u.finish m (if natBit m.e.cdw11 0 then .ok else .notChangeable) 0))))

/-- Queue ordering: ORDERED of a submission queue that does not exist (R555). -/
def State.setOrdering (s : State) (m : Cmd) : State :=
  let q := m.e.cdw11 % 65536
  if q = 0 || s.maxQueues < q || (s.sq m.ctrl q).isSome then s.finish m .invalidField 0
  else
    (s.modCtrl m.ctrl (fun k => { k with orderedMarks := if natBit m.e.cdw11 31 then (if k.orderedMarks.contains q then k.orderedMarks else k.orderedMarks ++ [q]) else k.orderedMarks.filter (· != q) })).finish m .ok 0

def execSetQueueOrdering (ctrl cid : Nat) (s : State) : Host.Outcome State Fault Refusal := .next (s.whileLive (fun s => s.featStart ctrl cid 0xC0 State.setOrdering))

/-- Streaming mode goes on or off (R281, R284, R285): with a source, the newest valid value sets the target; without, 7,200 rpm. -/
def State.setStreaming (s : State) (en : Bool) : State :=
  if s.nvme.streaming = en then s
  else
    let s1 := (s.modNvme (fun n => { n with streaming := en })).modSp (fun p => { p with followMap := none, srcTick := if en then s.tick else p.srcTick })
    let s2 := s1.setFld SP_STAT.SRC (if en then s.streamSrc else 0)
    if s2.streamOn then (if s2.bit SP_SRCVAL.VALID then s2.adoptMapped s2.spindle.mapped else s2)
    else (s2.clrBit SP_STAT.SRCHOLD).setTarget fullSpeed

def execSetStreamingMode (ctrl cid : Nat) (s : State) : Host.Outcome State Fault Refusal :=
  .next (s.whileLive (fun s => s.featStart ctrl cid 0xC1 (fun t m => if !t.featStream then t.finish m .invalidField 0 else (t.setStreaming (natBit m.e.cdw11 0)).finish m .ok 0)))

def State.getFeature (s : State) (m : Cmd) : State :=
  let sel := m.e.cdw10 / 2 ^ 8 % 8
  if 1 < sel then s.finish m .invalidField 0
  else match s.featureValue m.ctrl m.e (sel == 1) with
    | .error st => s.finish m st 0
    | .ok (v, d) => (s.hostWrite .data m.ctrl m.e.dptr d).finish m .ok v

def execGetFeatures (ctrl cid : Nat) (s : State) : Host.Outcome State Fault Refusal := .next (s.whileLive (fun s => s.adminStart ctrl cid 0x0A State.getFeature))

/-! ### Asynchronous events -/

def NvStatus.aerLimit : NvStatus := .specific 0x05

/-- A request is held until an event completes it; at most 8 are held. -/
def State.asyncRequest (s : State) (m : Cmd) : State :=
  if 8 ≤ (s.ctrl m.ctrl).aers.length then s.finish m .aerLimit 0
  else ((s.begin m).modCtrl m.ctrl (fun k => { k with aers := k.aers ++ [m.e.cid] })).pumpAer 1 m.ctrl

def execAsyncEventRequest (ctrl cid : Nat) (s : State) : Host.Outcome State Fault Refusal := .next (s.whileLive (fun s => s.adminStart ctrl cid 0x0C State.asyncRequest))

/-! ### Namespaces (R441, R456, R553, R563) -/

def NvStatus.insufficient : NvStatus := .specific 0x15
def NvStatus.idUnavailable : NvStatus := .specific 0x16
def NvStatus.alreadyAttached : NvStatus := .specific 0x18
def NvStatus.notAttached : NvStatus := .specific 0x1A
def NvStatus.ctrlListInvalid : NvStatus := .specific 0x1C
def NvStatus.invalidFormat : NvStatus := .specific 0x0A

/-- The lowest free range of `n` global blocks: from 0 or from the end of a namespace, on a whole map unit, within what host namespaces may take
(R441, R518). -/
def State.freeRange (s : State) (n : Nat) : Option Nat :=
  let up := fun (b : Nat) => (b + s.gran - 1) / s.gran * s.gran
  let starts := rising (0 :: s.nsList.map (fun x => up (x.2.base + x.2.size)))
  if s.hostBlocks < s.nsList.foldl (fun k x => k + x.2.size) n then none
  else starts.find? (fun b => decide (b + n ≤ s.hostBlocks) && !s.nsList.any (fun x => decide (b < x.2.base + x.2.size) && decide (x.2.base < b + n)))

/-- A zoned namespace of band sets `f` to `f + k - 1`. -/
def zonedNs (f k : Nat) : Namespace :=
  { zoned := true, base := 0, size := 0, firstSet := f, nsets := k, draining := false, registrants := [], holder := 0, rtype := 0, gen := 0 }

/-- The lowest run of Empty drive-managed band sets, outside the last 1 % (R456), that gives `nsze` blocks of whole zones. -/
def State.freeZones (s : State) (nsze : Nat) : Option (Nat × Nat) :=
  let last := s.nBandSets - (s.nBandSets + 99) / 100
  (List.range last).findSome? (fun f =>
    let zs := s.zoneSize (zonedNs f 1)
    let k := nsze / Nat.max 1 zs
    if k != 0 && f + k ≤ last && k * s.zoneSize (zonedNs f k) == nsze &&
       (List.range' f k).all (fun j => s.setOwner j == 0 && (s.bandSet j).st == .empty) then some (f, k) else none)

/-- Create a namespace of `nsze` blocks, `ncap` the capacity asked for, of the format FLBAS; CSI comes in CDW11. -/
def State.createNs (s : State) (m : Cmd) (nsze ncap flbas : Nat) : State :=
  let csi := m.e.cdw11 / 2 ^ 24 % 256
  if !s.mapReady then s.finish m .rebuilding 0
  else if flbas % 16 != 0 then s.finish m .invalidFormat 0
  else if nsze != ncap || nsze = 0 || !(csi == 0 || csi == 2) then s.finish m .invalidField 0
  else match (List.range' 1 s.nn).find? (fun i => (s.namespace? i).isNone) with
    | none => s.finish m .idUnavailable 0
    | some id =>
      let shape : Option Namespace :=
        if csi = 0 then some { zonedNs 0 0 with zoned := false, size := nsze }
        else if 4 ≤ (s.nsList.filter (fun x => x.2.zoned)).length then none
        else (s.freeZones nsze).map (fun p => { zonedNs p.1 p.2 with size := ((List.range' p.1 p.2).map s.zcap).foldl (· + ·) 0 })
      match shape.bind (fun n => (s.freeRange n.size).map (fun b => { n with base := b })) with
      | none => s.finish m .insufficient 0
      | some n => ((s.putNs id n).modMap (fun x => { x with rootDirty := true })).finish m .ok id

def execNamespaceCreate (ctrl cid nsze ncap flbas : Nat) (s : State) : Host.Outcome State Fault Refusal :=
  .next (s.whileLive (fun s => s.adminStart ctrl cid 0x0D (fun t m => if m.e.cdw10 % 16 != 0 then t else t.createNs m nsze ncap flbas)))

/-- Delete a namespace, or all of them, after its drain (R563). -/
def State.deleteNs (s : State) (m : Cmd) : State :=
  let ids := if m.e.nsid = 0xFFFFFFFF then s.allocNs else [m.e.nsid]
  let live := ids.filter (fun i => (s.namespace? i).isSome && !((s.namespace? i).map (fun n => n.draining)).getD true)
  if m.e.nsid != 0xFFFFFFFF && (m.e.nsid = 0 || s.nn < m.e.nsid) then s.finish m .invalidNs 0
  else if live = [] then (if m.e.nsid = 0xFFFFFFFF then s.finish m .ok 0 else s.finish m .invalidField 0)
  else
    let s1 := (s.begin m).each live (fun t i => match t.namespace? i with
      | some n => (t.putNs i { n with draining := true }).modNvme (fun x => { x with drains := x.drains ++ [⟨m.ctrl, i, drDelete, m.ctrl, m.e.cid⟩] })
      | none => t)
    s1.drainPump

def execNamespaceDelete (ctrl cid : Nat) (s : State) : Host.Outcome State Fault Refusal :=
  .next (s.whileLive (fun s => s.adminStart ctrl cid 0x0D (fun t m => if m.e.cdw10 % 16 != 1 then t else t.deleteNs m)))

/-- The checks that attaching and detaching share: the namespace, and a controller list of controllers there are. -/
def State.attachFault (s : State) (m : Cmd) (ids : List Nat) : Option NvStatus :=
  if m.e.nsid = 0 || s.nn < m.e.nsid then some .invalidNs
  else match s.namespace? m.e.nsid with
    | none => some .invalidField
    | some n =>
      if n.draining then some .nsGone
      else if ids = [] || !ids.all (fun i => s.cntlids.contains i) || ids.eraseDups.length != ids.length then some .ctrlListInvalid
      else none

/-- Attach to the controllers of the list `ids` (CNTLIDs). -/
def State.attachNs (s : State) (m : Cmd) (ids : List Nat) : State :=
  match s.attachFault m ids with
  | some st => s.finish m st 0
  | none =>
    if ids.any (fun i => (s.ctrl (i - 1)).attached.contains m.e.nsid) then s.finish m .alreadyAttached 0
    else (s.each ids (fun t i => (t.modCtrl (i - 1) (fun k => { k with attached := k.attached ++ [m.e.nsid] })).nsChanged (i - 1) m.e.nsid)).finish m .ok 0

def execNamespaceAttach (ctrl cid : Nat) (ids : List Nat) (s : State) : Host.Outcome State Fault Refusal :=
  .next (s.whileLive (fun s => s.adminStart ctrl cid 0x15 (fun t m => if m.e.cdw10 % 16 != 0 then t else t.attachNs m ids)))

/-- Detach from the controllers of the list, each after its drain (R563). -/
def State.detachNs (s : State) (m : Cmd) (ids : List Nat) : State :=
  match s.attachFault m ids with
  | some st => s.finish m st 0
  | none =>
    if ids.any (fun i => !(s.ctrl (i - 1)).attached.contains m.e.nsid) then s.finish m .notAttached 0
    else ((s.begin m).modNvme (fun n => { n with drains := n.drains ++ ids.map (fun i => ⟨i - 1, m.e.nsid, drDetach, m.ctrl, m.e.cid⟩) })).drainPump

def execNamespaceDetach (ctrl cid : Nat) (ids : List Nat) (s : State) : Host.Outcome State Fault Refusal :=
  .next (s.whileLive (fun s => s.adminStart ctrl cid 0x15 (fun t m => if m.e.cdw10 % 16 != 1 then t else t.detachNs m ids)))

/-! ### Device self-test (R562) -/

def NvStatus.selfTestRunning : NvStatus := .specific 0x1D

/-- A test of code `k` starts with its first segment. -/
def State.selfTestStart (s : State) (m : Cmd) (k : Nat) : State :=
  if s.nvme.selfTest.isSome then s.finish m .selfTestRunning 0
  else (s.modNvme (fun n => { n with selfTest := some ⟨k, 1, m.ctrl⟩ })).finish m .ok 0

/-- The segment in hand of a test of code `k` ends: passed, or failed with the first failing LBA of segment 3 or 4. After segment 2
comes `third`, the last. -/
def State.selfTestSegment (s : State) (k third : Nat) (ok : Bool) (lba : Nat) : State :=
  match s.nvme.selfTest with
  | none => s
  | some r =>
    if r.code != k then s
    else if !ok then s.selfTestEnd r 7 (if 2 < r.segment then some lba else none)
    else if r.segment = third then s.selfTestEnd r 0 none
    else s.modNvme (fun n => { n with selfTest := some { r with segment := if r.segment = 1 then 2 else third } })

/-- The short test: the command of `cid` without `seg`; with it, the end of the segment in hand and what it found. -/
def execSelfTestShort (ctrl cid : Nat) (seg : Option (Bool × Nat)) (s : State) : Host.Outcome State Fault Refusal :=
  .next (s.whileLive (fun s => match seg with
    | some x => s.selfTestSegment 1 3 x.1 x.2
    | none => s.adminStart ctrl cid 0x14 (fun t m => if m.e.cdw10 % 16 != 1 then t else t.selfTestStart m 1)))

def execSelfTestExtended (ctrl cid : Nat) (seg : Option (Bool × Nat)) (s : State) : Host.Outcome State Fault Refusal :=
  .next (s.whileLive (fun s => match seg with
    | some x => s.selfTestSegment 2 4 x.1 x.2
    | none => s.adminStart ctrl cid 0x14 (fun t m => if m.e.cdw10 % 16 != 2 then t else t.selfTestStart m 2)))

/-- Code 0xF: the test in progress, if any, ends with result 1, aborted by command. -/
def State.selfTestStop (s : State) (m : Cmd) : State :=
  match s.nvme.selfTest with
  | some r => (s.selfTestEnd r 1 none).finish m .ok 0
  | none => s.finish m .ok 0

def execSelfTestAbort (ctrl cid : Nat) (s : State) : Host.Outcome State Fault Refusal :=
  .next (s.whileLive (fun s => s.adminStart ctrl cid 0x14 (fun t m => if m.e.cdw10 % 16 != 0xF then t else t.selfTestStop m)))

/-! ### Format NVM -/

/-- Every block of the namespace, or of all that are attached, is deallocated; the zones of a zoned one become Empty. -/
def State.formatNs (s : State) (m : Cmd) : State :=
  let ids := if m.e.nsid = 0xFFFFFFFF then s.activeNs m.ctrl else [m.e.nsid]
  let bad := if m.e.nsid = 0xFFFFFFFF then none else s.nsFault m.ctrl m.e.nsid
  if natBits m.e.cdw10 9 3 != 0 || natBits m.e.cdw10 4 5 != 0 then s.finish m .invalidField 0
  else if m.e.cdw10 % 16 != 0 then s.finish m .invalidFormat 0
  else if !s.mapReady then s.finish m .rebuilding 0
  else match bad with
    | some st => s.finish m st 0
    | none =>
      let ns := ids.filterMap (fun i => (s.namespace? i).map (fun n => (i, n)))
      if ns.any (fun x => x.2.conflict m.ctrl true) then s.finish m .reservationConflict 0
      else
        let s1 := (s.begin m).each ns (fun t x =>
          let t1 := t.jline ⟨.dealloc x.2.base x.2.size 0, [], some m.ref, false, 0⟩
          t1.each ((t1.map.zones.filter (fun z => z.1 / 2 ^ 20 == x.1 && z.2.zstate != zsEmpty)).map (fun z => z.1 % 2 ^ 20)) (fun u z => u.zoneRecord (some m.ref) x.1 z zsEmpty 0))
        if ns = [] then s1.finish m .ok 0 else s1

def execFormatNvm (ctrl cid : Nat) (s : State) : Host.Outcome State Fault Refusal := .next (s.whileLive (fun s => s.adminStart ctrl cid 0x80 State.formatNs))

end Sys2Proof.Machine
end

