-- ==== Sys2Proof/Machine/Firmware.lean ====
section
/-! DEFINITION. Firmware Download and Firmware Commit (R564, R645, R650, R669), activation, and the writes of boot flash they start. -/
namespace Sys2Proof.Machine

/-! ### Firmware Download (R650) -/

/-- A piece of an image, whole 4 KiB units (FWUG 1); one at offset 0 discards what was there. -/
def State.fwDownload (s : State) (m : Cmd) (data : List Byte) : State :=
  let n := 4 * (m.e.cdw10 + 1)
  let off := 4 * m.e.cdw11
  if n % 4096 != 0 || off % 4096 != 0 || decide (0x400000 < off + n) then s.finish m .invalidField 0
  else if data.length < n then s.finish m .transferError 0
  else
    let old := if off = 0 then [] else s.nvme.download
    (s.modNvme (fun x => { x with download := putBytes (old ++ zeros (off + n - old.length)) off (slice data 0 n) })).finish m .ok 0

def execFirmwareDownload (ctrl cid : Nat) (data : List Byte) (s : State) : Host.Outcome State Fault Refusal :=
  .next (s.whileLive (fun s => s.adminStart ctrl cid 0x11 (fun t m => t.fwDownload m data)))

/-! ### Firmware Commit (R564, R650) -/

/-- The image downloaded, without the padding of its last unit: its own length field says where it ends. -/
def State.dlBundle (s : State) : List Byte := s.nvme.download.take (ptLen s.nvme.download)
def State.dlAccord (s : State) : List Byte := s.nvme.download.take (acImgLen s.nvme.download)

/-- The patch slot a bundle is stored in: the one that does not hold the bundle in effect. -/
def State.freePatchSlot (s : State) : Nat := if s.fabric.bundle = [] then 0 else 1 - s.fld SC_STAT.PSLOT

/-- A write of boot flash begins: what stands there is erased. -/
def State.flashStart (s : State) (x : FwStore) : State :=
  let s1 := if x.dest < 2 then s.modFlashPatch x.dest (fun _ => FlashSlot.empty)
    else s.modNv (fun n => { n with areas := SMap.set (fun _ => []) n.areas (x.dest - 2) [] })
  s1.modNvme (fun n => { n with fwStore := some x })

/-- Slot 2 with action 0, 1 or 3. A domain bundle is applied with action 3 only (R178); a full bundle is stored (R650). -/
def State.commitBundle (s : State) (m : Cmd) (a : Nat) : State :=
  let b := s.dlBundle
  match s.ptStage b with
  | some e => (s.ptRefuse b e).finish m .invalidImage 0
  | none =>
    match domOfCode (ptTarget b) with
    | none => if s.nvme.fwStore.isSome then s else (s.begin m).flashStart ⟨s.freePatchSlot, m.ctrl, m.e.cid, a, false, b⟩
    | some d =>
      if s.bit FB_STAT.BASENOTE then s.finish m .notPermitted 0
      else if a != 3 then s.finish m .invalidImage 0
      else if s.fabric.domainBundles.any (fun x => x.1 == domCode d) || !s.takeDownOk d then s.finish m .internalError 0
      else ((s.begin m).modFabric (fun f => { f with domainBundles := f.domainBundles ++ [(domCode d, b, .firmware m.ctrl 0 m.e.cid)] })).takeDown d .load (some .patch)

/-- Slot 7 with action 0, 1 or 3. -/
def State.commitAccord (s : State) (m : Cmd) (a : Nat) : State :=
  let img := s.dlAccord
  let dom := acKind img == 1
  if dom && s.bit FB_STAT.BASENOTE then s.finish m .notPermitted 0
  else (s.begin m).acStart (.firmware m.ctrl 0 m.e.cid) img false (dom && a == 3)

/-- The copy a new key certificate area goes to: the invalid or older one. -/
def State.areaTarget (s : State) : Nat :=
  if !areaOk (s.areaCopy 0) then 0 else if !areaOk (s.areaCopy 1) then 1
  else if areaGen (s.areaCopy 0) < areaGen (s.areaCopy 1) then 0 else 1

/-- A new area's AGEN is above that of every copy whose header CRC matches. -/
def State.areaNewer (s : State) (b : List Byte) : Bool :=
  [0, 1].all (fun k => !areaCrc (s.areaCopy k) || decide (areaGen (s.areaCopy k) < areaGen b))

/-- Slot 3 with action 1: the area and its signature by the recovery key (R645). -/
def State.commitArea (s : State) (m : Cmd) : State :=
  let n := 64 + 816 * areaN s.nvme.download
  let b := s.nvme.download.take n
  if !(areaOk b && s.areaNewer b && rsaVerify Config.recoveryKey b (slice s.nvme.download n 384)) then s.finish m .invalidImage 0
  else if s.nvme.fwStore.isSome then s
  else (s.begin m).flashStart ⟨2 + s.areaTarget, m.ctrl, m.e.cid, 1, false, b⟩

/-- A Firmware Commit with action `a` for slot 2 (`f2`) or 7 (`f7`). -/
def State.commit (s : State) (c cid a : Nat) (f2 f7 : State → Cmd → State) : State :=
  s.adminStart c cid 0x10 (fun t m =>
    let fs := m.e.cdw10 % 8
    if commitAction m != a then t
    else if fs = 2 then f2 t m
    else if fs = 7 then f7 t m
    else if fs = 3 then (if a = 1 then t.commitArea m else t.finish m .invalidImage 0)
    else if fs = 1 then t.finish m .invalidImage 0
    else t.finish m .invalidSlot 0)

def execFirmwareCommitStore (ctrl cid : Nat) (s : State) : Host.Outcome State Fault Refusal :=
  .next (s.whileLive (fun s => s.commit ctrl cid 0 (fun t m => t.commitBundle m 0) (fun t m => t.commitAccord m 0)))

def execFirmwareCommitStoreActivate (ctrl cid : Nat) (s : State) : Host.Outcome State Fault Refusal :=
  .next (s.whileLive (fun s => s.commit ctrl cid 1 (fun t m => t.commitBundle m 1) (fun t m => t.commitAccord m 1)))

/-- Action 2: ACTIVATE on a stored Pending slot. A Pending Accord slot needs no mark. -/
def State.setActivate (s : State) (m : Cmd) : State :=
  match [0, 1].find? (fun k => s.ptSlotState k == asPending) with
  | some k => (s.ptMark k (fun x => { x with extra := true })).finish m .ok 0
  | none => s.finish m .invalidImage 0

def State.accordPending (s : State) (m : Cmd) : State :=
  s.finish m (if [0, 1].any (fun k => s.acSlotState k == asPending) then .ok else .invalidImage) 0

def execFirmwareCommitSetActivate (ctrl cid : Nat) (s : State) : Host.Outcome State Fault Refusal :=
  .next (s.whileLive (fun s => s.commit ctrl cid 2 State.setActivate State.accordPending))

def execFirmwareCommitImmediate (ctrl cid : Nat) (s : State) : Host.Outcome State Fault Refusal :=
  .next (s.whileLive (fun s => (s.commit ctrl cid 3 (fun t m => t.commitBundle m 3) (fun t m => t.commitAccord m 3)).standbyStep))

/-! ### Activation (R564) -/

/-- The notice, CSTS.PP and the stop of fetching on both controllers. -/
def State.activate (s : State) (c cid k : Nat) : State :=
  ((s.aerActivation).each [0, 1] (fun t i => t.modCtrl i (fun x => { x with pp := true, stopped := true }))).modNvme (fun n => { n with
    activation := some ⟨c, cid, k, false⟩ })

/-- The activation is over, with a status for its command: CSTS.PP falls, fetching resumes. -/
def State.activationEnd (s : State) (st : NvStatus) : State :=
  match s.nvme.activation with
  | none => s
  | some a =>
    let s1 := (s.each [0, 1] (fun t i => t.modCtrl i (fun x => { x with pp := false, stopped := x.shn != 0 }))).modNvme (fun n => { n with activation := none })
    match s1.cmd? a.ctrl 0 a.cid with
    | some m => s1.finish m st 0
    | none => s1

/-- A command that the drain of an activation waits for: any but the Firmware Commit itself and held Asynchronous Event Requests. -/
def Activation.waitsFor (a : Activation) (m : Cmd) : Bool := !(m.ctrl == a.ctrl && m.sq == 0 && m.e.cid == a.cid) && !(m.sq == 0 && m.e.opc == 0x0C)

/-- The drain ends, with no command left or after 1 s: what is left is aborted, its recoveries cancelled (R418), and the bundle is
staged (R175). -/
def State.activationDrained (s : State) : State :=
  match s.nvme.activation with
  | none => s
  | some a =>
    if a.drained then s
    else
      let ps := (s.nvme.inflight.filter a.waitsFor).flatMap (fun m => m.waits)
      let s1 := s.endCmds a.waitsFor .activationAbort
      let s2 := s1.each (ps.filter (fun p => !s1.nvme.inflight.any (fun j => j.waits.contains p))) State.cancelPfn
      let b := (s2.flashPatch a.slot).image
      ((s2.stageBundle b).modFabric (fun f => { f with staged := ptGen b })).modNvme (fun n => { n with activation := some { a with drained := true } })

def execActivationDrainTimeout (s : State) : Host.Outcome State Fault Refusal := .next (s.whileLive (fun s => s.activationDrained.standbyStep))

/-! ### Boot flash written -/

/-- A bundle is in its patch slot and reads back equal (`ok`), or not. With action 3 its activation begins, but in Base-note mode,
where ACTIVATE alone is set (R669); likewise where its command is gone. -/
def State.bundleWritten (s : State) (ok : Bool) : State :=
  match s.nvme.fwStore with
  | none => s
  | some x =>
    if 2 ≤ x.dest then s
    else
      let s1 := s.modNvme (fun n => { n with fwStore := none })
      let cmd := s1.cmd? x.ctrl 0 x.cid
      let now := x.action = 3 ∧ cmd.isSome ∧ !s.bit FB_STAT.BASENOTE
      let fin := fun (t : State) (st : NvStatus) => match cmd with
        | some m => t.finish m st 0
        | none => t
      if !ok then fin (s1.modFlashPatch x.dest (fun _ => ⟨x.image, { Marks.erased with revoke := true }⟩)) .internalError
      else
        let s2 := s1.modFlashPatch x.dest (fun _ => ⟨x.image, { Marks.erased with extra := x.action != 0, tried := decide now }⟩)
        if now then s2.activate x.ctrl x.cid x.dest
        else fin s2 (if x.action = 3 then .needsReset else .ok)

def execBundleStoreWritten (ok : Bool) (s : State) : Host.Outcome State Fault Refusal := .next (s.whileLive (fun s => s.bundleWritten ok))

/-- A key certificate area copy is written and reads back equal (`ok`), or not; it takes effect at the next boot (R645, R652). -/
def State.areaWritten (s : State) (ok : Bool) : State :=
  match s.nvme.fwStore with
  | none => s
  | some x =>
    if x.dest < 2 then s
    else
      let s1 := s.modNvme (fun n => { n with fwStore := none })
      let s2 := if ok then s1.modNv (fun n => { n with areas := SMap.set (fun _ => []) n.areas (x.dest - 2) x.image }) else s1
      let s3 := if x.sec then s2.modNvme (fun n => { n with secResult := if ok then rsSuccess else rsUnitError }) else s2
      match s3.cmd? x.ctrl 0 x.cid with
      | some m => s3.finish m (if x.sec then .ok else if ok then .needsReset else .internalError) 0
      | none => s3

def execKeyAreaWritten (ok : Bool) (s : State) : Host.Outcome State Fault Refusal := .next (s.whileLive (fun s => s.areaWritten ok))

end Sys2Proof.Machine
end

