-- ==== Sys2Proof/Machine/MemRows.lean ====
section
/-! DEFINITION. The memory commands: the unwritten fill (R202), Blotter mode (R207 to R210), and the map cache's fills and
write-backs (R216 to R226, R234). -/
namespace Sys2Proof.Machine

/-! ### HBM (R202) -/

/-- The hardware fill ends: every word not written by then is the unwritten code word. The patch bundle is selected (R643, R644);
without a key certificate area there is no key to verify one with. -/
def State.fillDone (s : State) : State :=
  if s.bit HM_STAT.FILLDONE || s.fld HM_STAT.READY = 0 then s
  else
    let s1 := (s.modMem (fun m => { m with hbm := [] })).setBit HM_STAT.FILLDONE
    if s1.bit FB_STAT.BASENOTE then s1
    else if s1.bit SC_STAT.AREA then s1.ptBoot s1.ptCandidates
    else s1.setBit SC_STAT.UNPATCHED

def execHbmFillDone (s : State) : Host.Outcome State Fault Refusal := .next (s.whileLive (fun s => s.fillDone))

/-! ### Blotter mode -/

/-- Words of the pads of R208. -/
def padWords : Nat → Nat
  | 0 => 2048
  | 1 => 512
  | 2 => 512
  | _ => 16

/-- Where word `idx` of a pad lies: memory and word index; none for the map cache's own pad. -/
def padPlace (tgt idx : Nat) : Option (MemSp × Nat) :=
  match tgt with
  | 0 => some (.hbm, idx)
  | 1 => some (.mram, 0x3F800000 / 8 + idx)
  | 2 => some (.ssram, 0xFF000 / 8 + idx)
  | _ => none

def State.padGet (s : State) (tgt idx : Nat) : Code80 :=
  match padPlace tgt idx with
  | some x => s.wordAt x.1 x.2
  | none => SMap.get (fun _ => unwrittenWord) s.mem.pad idx

def State.padPut (s : State) (tgt idx : Nat) (c : Code80) : State :=
  match padPlace tgt idx with
  | some x => s.putWord x.1 x.2 c
  | none => s.modMem (fun m => { m with pad := SMap.set (fun _ => unwrittenWord) m.pad idx c })

/-- A checked read counts as every decoded read does (R205, R232); HM_EINFO.REQ has no code for it. -/
def State.padNote (s : State) (tgt idx : Nat) (d : Decoded) : State :=
  match padPlace tgt idx with
  | some x => s.eccNote x.1 (8 * x.2) 0 d
  | none => s.caNote (padKey / 16) idx 0 d

/-- HM_BLTD_LO and HM_BLTD_HI. -/
def State.setBltData (s : State) (v : Nat) : State := (s.setFld HM_BLTD_LO.DATA v).setFld HM_BLTD_HI.DATA (v / 2 ^ 32)
def State.bltData (s : State) : Nat := s.fld HM_BLTD_LO.DATA + s.fld HM_BLTD_HI.DATA * 2 ^ 32

/-- STATUS of HM_BLTC. -/
def ReadResult.code : ReadResult → Nat
  | .clean => 0
  | .corrected => 1
  | .unwritten => 2
  | .uncorrectable => 3

/-- The operation itself: 1 raw write, 2 raw read, 3 checked read, 4 checked write. -/
def State.bltRun (s : State) (op tgt idx : Nat) : State :=
  match op with
  | 1 => s.padPut tgt idx (BitVec.ofNat 80 (s.bltData + s.fld HM_BLTC.CHECK * 2 ^ 64))
  | 2 =>
    let v := (s.padGet tgt idx).toNat
    (s.setBltData (v % 2 ^ 64)).setFld HM_BLTC.CHECK (v / 2 ^ 64)
  | 3 =>
    let d := decodeWord (s.padGet tgt idx)
    ((s.padNote tgt idx d).setBltData d.data).setFld HM_BLTC.STATUS d.res.code
  | _ => s.padPut tgt idx (encodeWord s.bltData)

/-- A write of `w` to HM_BLTCTL: TGT, the W1C bits, and the operation in OP, 0 being no operation and no error (DESIGN CHOICE, assumption 105); refused with ERR where EN is 0, IDX lies beyond
the pad, one is in progress, or the code names none (R210). In Base-note mode only the W1C bits are written (R670). -/
def State.bltWrite (s : State) (w : Word32) : State :=
  let clear := fun (f : Fld) (t : State) => t.when (f.ofWord w == 1 && t.fldSet f == 0) (fun u => u.clrBit f)
  let s1 := clear HM_BLTCTL.DONE (clear HM_BLTCTL.ERR s)
  if s.bit FB_STAT.BASENOTE then s1
  else
    let s2 := s1.setFld HM_BLTCTL.TGT (HM_BLTCTL.TGT.ofWord w)
    let op := HM_BLTCTL.OP.ofWord w
    let tgt := s2.fld HM_BLTCTL.TGT
    let idx := s2.fld HM_BLTADDR.IDX
    if op = 0 then s2
    else if !s2.bit HM_BLTCTL.EN || decide (padWords tgt ≤ idx) || s2.mem.blotter.isSome || decide (4 < op) then s2.setBit HM_BLTCTL.ERR
    else (s2.bltRun op tgt idx).modMem (fun m => { m with blotter := some op })

/-- The word with OP in place. -/
def withOp (w : Word32) (op : Nat) : Word32 := HM_BLTCTL.OP.intoWord w op

def execBlotterRawWrite (w : Word32) (s : State) : Host.Outcome State Fault Refusal := .next (s.whileLive (fun s => s.bltWrite (withOp w 1)))
def execBlotterRawRead (w : Word32) (s : State) : Host.Outcome State Fault Refusal := .next (s.whileLive (fun s => s.bltWrite (withOp w 2)))
def execBlotterCheckedRead (w : Word32) (s : State) : Host.Outcome State Fault Refusal := .next (s.whileLive (fun s => s.bltWrite (withOp w 3)))
def execBlotterCheckedWrite (w : Word32) (s : State) : Host.Outcome State Fault Refusal := .next (s.whileLive (fun s => s.bltWrite (withOp w 4)))

def State.bltDone (s : State) : State :=
  match s.mem.blotter with
  | some _ => (s.modMem (fun m => { m with blotter := none })).setBit HM_BLTCTL.DONE
  | none => s

def execBlotterOpComplete (s : State) : Host.Outcome State Fault Refusal := .next (s.whileLive (fun s => s.bltDone))

/-- Blotter mode on: the pad line is written back if dirty, leaves the ways, and its words stay in the data array (R209). -/
def State.bltEnable (s : State) : State :=
  if s.bit HM_BLTCTL.EN then s
  else
    let s1 := match s.lineAt padKey with
      | some l => ((s.when l.dirty (fun t => t.writeBack ⟨[], []⟩ l.la l.words)).setLine padKey none).modMem (fun m => { m with
          pad := (List.range 16).foldl (fun p k => SMap.set (fun _ => unwrittenWord) p k (l.word k)) m.pad })
      | none => s
    (s1.setBit HM_BLTCTL.EN).setBit CA_STAT.BLTRSV

/-- Blotter mode off: the pad line is invalid and can be allocated again. -/
def State.bltDisable (s : State) : State := ((s.clrBit HM_BLTCTL.EN).clrBit CA_STAT.BLTRSV).setLine padKey none

/-! ### The map cache -/

/-- A demand fill arrives (R216). -/
def State.fillArrives (s : State) (la : Nat) (f : MemFaults) : State :=
  match s.fillOf la with
  | some x => if x.prefetch || x.words.isSome then s else ((s.fillCome f la).cacheSettle).memSettle
  | none => s

def execCacheFillComplete (la : Nat) (f : MemFaults) (s : State) : Host.Outcome State Fault Refusal := .next (s.whileLive (fun s => s.fillArrives la f))

/-- A prefetched line enters the side buffer; from a full one the oldest unused line is dropped (R222). One that a request waits for
moves on into its set as that request needs it (R217). Its words install in stored form, bad ones as they are (R223). A prefetch still held back has not begun (R221). -/
def State.prefetchArrives (s : State) (la : Nat) (f : MemFaults) : State :=
  match s.fillOf la with
  | some x =>
    if !x.prefetch || x.held || x.words.isSome then s
    else if x.waiting != [] then ((s.fillCome f la).cacheSettle).memSettle
    else
      let s1 := (s.modCache (fun c => { c with fills := c.fills.filter (fun y => y.la != la) })).hbmNote f (la * 128) 128 reqFill
      let full := decide (32 ≤ s1.cache.side.length)
      let s2 := s1.when full (fun t => (t.modCache (fun c => { c with side := c.side.drop 1 })).bump CA_PFDROP.DROPPED)
      (s2.modCache (fun c => { c with side := c.side ++ [(⟨la, false, s.hbmLine f la⟩ : CacheLine)] })).cacheSync
  | none => s

def execPrefetchFillComplete (la : Nat) (f : MemFaults) (s : State) : Host.Outcome State Fault Refusal := .next (s.whileLive (fun s => s.prefetchArrives la f))

/-- A write-back from the eviction buffer completes; `issued` names the lines whose write-backs have been issued by now. -/
def State.evictionDone (s : State) (la : Nat) (issued : List Nat) (f : MemFaults) : State :=
  ((s.modCache (fun c => { c with evb := c.evb.map (fun (e : EvEntry) => if issued.contains e.la then { e with issued := true } else e) })).wbDone f la).memSettle

def execEvictionWritebackComplete (la : Nat) (issued : List Nat) (f : MemFaults) (s : State) : Host.Outcome State Fault Refusal :=
  .next (s.whileLive (fun s => s.evictionDone la issued f))

def State.invalidationDone (s : State) : State := if s.bit CA_STAT.INVDONE then s else (s.cacheClear).setBit CA_STAT.INVDONE

def execCacheInvalidationDone (s : State) : Host.Outcome State Fault Refusal := .next (s.whileLive (fun s => s.invalidationDone))

end Sys2Proof.Machine
end

