-- ==== Sys2Proof/Machine/FabricRows.lean ====
section
/-! DEFINITION. The commands of helpers and the steward (R139 to R179): states and faults, microwords, messages, fences, patch swaps. -/
namespace Sys2Proof.Machine

/-! ### Helper states (R153, R157 to R160, R168) -/

/-- At boot the roles of the applied Accord, each with ROLEGEN 1 (R157). A later change of role is that of R159. -/
def State.bootRole (s : State) (h : Nat) : State :=
  if 24 ≤ h || s.acc.applied = [] || s.bit FB_STAT.BASENOTE || s.heState h != heStopped || s.fld (HE_ROLE.ROLEGEN h) != 0 then s
  else (s.assignRole h (s.acRole h) (s.acParam h)).schedSync

def execHelperRoleAssignment (h : Nat) (s : State) : Host.Outcome State Fault Refusal := .next (s.whileLive (fun s => s.bootRole h))

def execHelperStart (h : Nat) (s : State) : Host.Outcome State Fault Refusal :=
  .next (s.whileLive (fun s => if 24 ≤ h || s.bit FB_STAT.BASENOTE || s.heState h != heStopped || s.fld (HE_ROLE.ROLEGEN h) = 0 || s.fabric.owed.any (fun x => x.1 == h) then s
    else s.heStart h))

/-- A stop request (R151, R153, R156, R168). -/
def execHelperStopRequest (h : Nat) (s : State) : Host.Outcome State Fault Refusal := .next (s.whileLive (fun s => if 24 ≤ h then s else s.heStopAsk h))

def execHelperDrainDone (h : Nat) (s : State) : Host.Outcome State Fault Refusal :=
  .next (s.whileLive (fun s => if 24 ≤ h || s.heState h != heStopping then s else s.heHaltAsk h))

/-- The drain timer runs out: unfinished work goes back ABORTED; a parity helper's stripes still in flight, `mine`, are dead, cause 4
(R484). -/
def State.heDrainOut (s : State) (h : Nat) (mine : List (Nat × Nat)) : State :=
  if 24 ≤ h || s.heState h != heStopping then s
  else
    let s1 := s.abortWork h
    let s2 := if s.role h = 0x06 then s1.each mine (fun t x => t.killStripe x.1 x.2 4) else s1
    s2.heHaltAsk h

def execHelperDrainTimeout (h : Nat) (mine : List (Nat × Nat)) (s : State) : Host.Outcome State Fault Refusal := .next (s.whileLive (fun s => s.heDrainOut h mine))

/-- A fault of R155; a stop of the helper in progress is over with it (R156). -/
def execHelperFault (h cause space addr : Nat) (s : State) : Host.Outcome State Fault Refusal :=
  .next (s.whileLive (fun s => if 24 ≤ h || cause < 1 || 6 < cause then s else (s.faultHelper h cause space addr).domSettle.standbyStep))

/-- The hardware's count of R152 reports a lapse, as State.issue does for the microwords it counts itself. -/
def execSafePointLapse (h : Nat) (s : State) : Host.Outcome State Fault Refusal :=
  .next (s.whileLive (fun s => if 24 ≤ h then s else (s.faultHelper h 3 (s.helper h).space (s.helper h).pc).domSettle.standbyStep))

/-! ### The steward (R140 to R143, R665) -/

/-- The steward runs. -/
def State.stRuns (s : State) : Bool := s.power.phase == .done && s.power.porst && !s.power.supplyReset && !s.bit FB_STAT.HALT

def execStewardTrap (cause space addr : Nat) (s : State) : Host.Outcome State Fault Refusal :=
  .next (s.whileLive (fun s => if !s.stRuns || cause < 1 || 4 < cause then s else (s.trap cause space addr).standbyStep))

def execStewardWatchdogExpiry (space addr : Nat) (s : State) : Host.Outcome State Fault Refusal :=
  .next (s.whileLive (fun s => if !s.stRuns then s else (s.trap 5 space addr).standbyStep))

/-- Within 1 ms of Base-note entry the steward runs from mask ROM alone; record 0x1901; the spindle is stopped. -/
def State.stRestart (s : State) : State :=
  if !s.faults.restartDue then s
  else
    let s1 := (s.modSteward (fun x => { x with active := PatchSet.none, shadow := none, inHandler := false, blocked := false, fencing := false })).setFld ST_STAT.STATE 2
    let s2 := ((s1.setFld ST_PATCHGEN.GEN 0).setFld ST_PATCHSTAT.UNITS 0).setFld ST_PATCHSTAT.NMATCH 0
    let s3 := s2.each (List.range 64) (fun t j => t.setReg (ST_MATCH.REG j).addr 0)
    let s4 := (s3.record 0x1901 (leBytes 1 (s.fld FB_STAT.CAUSE) ++ zeros 3)).stopSpindle
    { s4 with faults := { s4.faults with restartDue := false } }

def execBaseNoteStewardRestart (s : State) : Host.Outcome State Fault Refusal := .next (s.whileLive (fun s => s.stRestart))

/-! ### Fetching and sequencing microwords (R145 to R148, R151, R152) -/

/-- The word fetched, and where it comes from: the common bank, the role's own bank, or the active patch half; a match register redirects
one ROM address to a patch word (R145, R147). -/
def State.fetchMw (s : State) (h : Nat) : Microword × Nat × Nat :=
  let x := s.helper h
  let bank := if x.space = 1 then 0 else s.role h
  let patch := fun (k : Nat) => (((x.active.words.find? (fun w => w.1 == k)).map (fun w => w.2)).getD 0, 2, k)
  if x.space = 2 then patch x.pc
  else
    match x.active.mtab.find? (fun m => m.1 == bank * 8192 + x.pc) with
    | some m => patch m.2
    | none => (Config.rom bank x.pc, x.space, x.pc)

/-- The address after `pc` in a space. -/
def nextPc (space pc : Nat) : Nat := (pc + 1) % (if space = 2 then 512 else 8192)

/-- TSPACE and TARGET as a space and an address. -/
def mwGoal (w : Microword) : Nat × Nat := (mwTspace w, if mwTspace w = 2 then mwTarget w % 512 else mwTarget w)

/-- Where the helper goes on, with its return stack; none where the stack overflows or underflows. -/
def Helper.sequence (x : Helper) (w : Microword) (space pc : Nat) (island : Bool) : Option (Helper × Nat × Nat) :=
  let nxt := (space, nextPc space pc)
  match mwSeq w with
  | 0 => some (x, nxt)
  | 1 => some (x, if x.holds w island then mwGoal w else nxt)
  | 2 => if 16 ≤ x.rstack.length then none else some ({ x with rstack := nxt :: x.rstack }, mwGoal w)
  | _ => match x.rstack with
    | [] => none
    | r :: l => some ({ x with rstack := l }, r)

/-- What the memory or message operation of a microword comes to: it waits, its effect, or a fault (cause, space, address). -/
inductive MwRes where
  | wait
  | ok (s : State)
  | fault (s : State) (cause space addr : Nat)
  deriving DecidableEq, Repr

/-- A microword has issued: the count stands one higher, a lapse at 257 whatever follows (R152); a safe point comes once the
microword's access is complete (R146, R151). -/
def State.issued (s : State) (h : Nat) (sp : Bool) : State :=
  let x := s.helper h
  if 257 ≤ x.count then (s.faultHelper h 3 x.space x.pc).domSettle.standbyStep
  else if !sp then s
  else if x.blocked then s.modHelper h (fun y => { y with spDue := true })
  else s.safePoint h

/-- One microword of helper `h` issues, if the one at its address `fits`: the ALU and the operation `op` work on the registers as they
were, the operation's result being written last. An operation that cannot complete leaves everything as it was (R146). -/
def State.issue (s : State) (h : Nat) (m : MwIn) (fits : Microword → Bool) (op : State → Helper → Microword → MwRes) : State :=
  let x := s.helper h
  if 24 ≤ h || !s.heActive h || x.blocked then s
  else
    let f := s.fetchMw h
    if !(fits f.1) then s
    else if mwIllegal f.1 then (s.faultHelper h 4 f.2.1 f.2.2).domSettle.standbyStep
    else match x.sequence f.1 f.2.1 f.2.2 m.island with
      | none => (s.faultHelper h 4 f.2.1 f.2.2).domSettle.standbyStep
      | some q =>
        match op (s.modHelper h (fun y => y.alu f.1)) x f.1 with
        | .wait => s
        | .fault t c sp ad => (t.faultHelper h c sp ad).domSettle.standbyStep
        | .ok t =>
          let t1 := t.modHelper h (fun y => { y with rstack := q.1.rstack, space := q.2.1, pc := q.2.2, count := y.count + 1 })
          (t1.issued h (mwSp f.1)).memSettle

/-- Nothing but the ALU and the sequencing. -/
def mwNone (s : State) (_ : Helper) (_ : Microword) : MwRes := .ok s

def execMicrowordIssue (h : Nat) (m : MwIn) (s : State) : Host.Outcome State Fault Refusal :=
  .next (s.whileLive (fun s => s.issue h m (fun w => (mwSeq w == 0 && mwMop w == 0) || mwIllegal w) mwNone))

def execMicrowordBranch (h : Nat) (m : MwIn) (s : State) : Host.Outcome State Fault Refusal :=
  .next (s.whileLive (fun s => s.issue h m (fun w => mwSeq w == 1 && mwMop w == 0) mwNone))

def execMicrowordCall (h : Nat) (m : MwIn) (s : State) : Host.Outcome State Fault Refusal :=
  .next (s.whileLive (fun s => s.issue h m (fun w => mwSeq w == 2 && mwMop w == 0) mwNone))

def execMicrowordReturn (h : Nat) (m : MwIn) (s : State) : Host.Outcome State Fault Refusal :=
  .next (s.whileLive (fun s => s.issue h m (fun w => mwSeq w == 3 && mwMop w == 0) mwNone))

/-! ### Local store (R144, R149, R155) -/

/-- The address in the 64 KiB store: the low 16 bits, an access that would run past the end moved to end at the last byte (DESIGN CHOICE, assumption 65). -/
def locAddr (x : Helper) (w : Microword) : Nat := Nat.min (x.opAddr w % 0x10000) (0x10000 - mwBytes w)

def mwLocalLoad (h : Nat) (s : State) (x : Helper) (w : Microword) : MwRes :=
  let a := locAddr x w
  let r := s.peek (.loc h) a (mwBytes w)
  if r.bad then .fault s 2 3 (a / 8) else .ok (s.modHelper h (fun y => y.setRegs (mwMd w) r.data))

def mwLocalStore (h : Nat) (s : State) (x : Helper) (w : Microword) : MwRes :=
  let a := locAddr x w
  if s.storeBad (.loc h) a (x.opData w) then .fault s 2 3 (a / 8) else .ok (s.store (.loc h) a (x.opData w))

def execLocalLoad (h : Nat) (m : MwIn) (s : State) : Host.Outcome State Fault Refusal :=
  .next (s.whileLive (fun s => s.issue h m (fun w => mwMop w == 1) (mwLocalLoad h)))

def execLocalStore (h : Nat) (m : MwIn) (s : State) : Host.Outcome State Fault Refusal :=
  .next (s.whileLive (fun s => s.issue h m (fun w => mwMop w == 2) (mwLocalStore h)))

/-! ### Fabric loads and stores (R150, R184, R199, R204, R212 to R219, R233) -/

def fabMem : Nat → Option MemSp
  | 0 => some .hbm
  | 1 => some .mram
  | 2 => some .ssram
  | _ => none

/-- What a fabric access comes to, before its requester's own rules: it waits; it is of an unmapped address; its state and whether a
word was bad. -/
inductive FabRes where
  | wait
  | unmapped
  | ok (s : State) (bad : Bool)
  deriving DecidableEq, Repr

/-- A request of `n` bytes at `a` cut at the end of its line. -/
def splitReq (who a n : Nat) (f : MemFaults) (op : Nat → Nat → CacheOp) : CacheReq :=
  let n1 := Nat.min n (128 - a % 128)
  ⟨who, a, op 0 n1, if n1 = n then none else some (a + n1, op n1 (n - n1)), f⟩

/-- HBM takes no access before its fill is done, nor a cacheable one before the cache is invalidated (R202, R234). -/
def State.hbmHolds (s : State) (a n : Nat) : Bool :=
  !s.bit HM_STAT.FILLDONE || (!s.bit CA_STAT.INVDONE && (lineParts a n).any (fun p => s.cacheable p.1))

/-- A load of `n` bytes into registers from `reg`. -/
def State.fabLoad (s : State) (who : Nat) (i : FabIn) (a n reg : Nat) : FabRes :=
  match fabMem i.space with
  | none => .unmapped
  | some m =>
    if !m.holds a n then .unmapped
    else if m == .hbm then
      (if s.hbmHolds a n then .wait else .ok (s.cacheRequest (splitReq who a n i.faults (fun off k => .load k off n reg))) false)
    else
      let r := s.peek m a n
      .ok ((s.noteRead m a n (if who = 31 then reqSteward else reqFabric)).deliver who 0 n reg r) r.bad

/-- A store; MRAM takes it while line writes are admitted (R48). -/
def State.fabStore (s : State) (who : Nat) (i : FabIn) (a : Nat) (d : List Byte) : FabRes :=
  match fabMem i.space with
  | none => .unmapped
  | some m =>
    if !m.holds a d.length then .unmapped
    else if m == .hbm then
      (if s.hbmHolds a d.length then .wait
       else .ok (s.cacheRequest (splitReq who a d.length i.faults (fun off k => .store ((d.drop off).take k)))) false)
    else if m == .mram && !s.mramAdmits then .wait
    else .ok ((s.store m a d).tellBad who (s.storeBad m a d)) (s.storeBad m a d)

/-- A helper's access: an unmapped address faults it with cause 0x06 (R155). -/
def mwFab (s : State) (r : FabRes) (at' : Nat × Nat) : MwRes :=
  match r with
  | .wait => .wait
  | .unmapped => .fault s 6 at'.1 at'.2
  | .ok t _ => .ok t

def execFabricLoad (h : Nat) (m : MwIn) (i : FabIn) (s : State) : Host.Outcome State Fault Refusal :=
  .next (s.whileLive (fun s => s.issue h m (fun w => mwMop w == 3) (fun t x w => mwFab t (t.fabLoad h i (x.opAddr w) (mwBytes w) (mwMd w)) (s.fetchMw h).2)))

def execFabricStore (h : Nat) (m : MwIn) (i : FabIn) (s : State) : Host.Outcome State Fault Refusal :=
  .next (s.whileLive (fun s => s.issue h m (fun w => mwMop w == 4) (fun t x w => mwFab t (t.fabStore h i (x.opAddr w) (x.opData w)) (s.fetchMw h).2)))

/-! ### Line operations (R227 to R230) -/

/-- A line operation at an HBM address; outside HBM the address is unmapped. -/
def State.fabLine (s : State) (who a op : Nat) (f : MemFaults) : FabRes :=
  if hbmBytes ≤ a then .unmapped
  else if !s.bit HM_STAT.FILLDONE || !s.bit CA_STAT.INVDONE then .wait
  else .ok (if s.cacheable a then (s.lineOp ⟨who, a, .line op, none, f⟩ op).cacheSettle else s.lineOpUncached f a op) false

/-- A microword's line operation of kind `k`. -/
def State.mwLine (s : State) (h : Nat) (m : MwIn) (f : MemFaults) (k : Nat) : State :=
  s.issue h m (fun w => mwMop w == 0xA && (s.helper h).opLine w == k) (fun t x w => mwFab t (t.fabLine h (x.opAddr w) k f) (s.fetchMw h).2)

def execLineClean (h : Nat) (m : MwIn) (f : MemFaults) (s : State) : Host.Outcome State Fault Refusal := .next (s.whileLive (fun s => s.mwLine h m f 0))
def execLineInvalidate (h : Nat) (m : MwIn) (f : MemFaults) (s : State) : Host.Outcome State Fault Refusal := .next (s.whileLive (fun s => s.mwLine h m f 1))
def execLineCleanInvalidate (h : Nat) (m : MwIn) (f : MemFaults) (s : State) : Host.Outcome State Fault Refusal := .next (s.whileLive (fun s => s.mwLine h m f 2))
def execLineZero (h : Nat) (m : MwIn) (f : MemFaults) (s : State) : Host.Outcome State Fault Refusal := .next (s.whileLive (fun s => s.mwLine h m f 3))

/-! ### Messages (R162 to R167) -/

/-- The message as 64 bytes. -/
def Msg.bytes (m : Msg) : List Byte :=
  leBytes 1 m.src ++ leBytes 1 m.dst ++ leBytes 2 m.dstGen ++ leBytes 2 m.srcGen ++ leBytes 1 m.type ++ leBytes 1 m.status ++ leBytes 4 m.tag ++
    leBytes 4 m.tick ++ slice m.payload 0 48

/-- The message a send puts together: its 64 bytes are those of MD and the seven registers after it, TYPE and TAG of IMM where
IMMSEL says so; the device fills in SRC, SRCGEN, STATUS and TICK. -/
def State.mwMsg (s : State) (h : Nat) (x : Helper) (w : Microword) : Msg :=
  let b := (List.range 8).flatMap (fun k => leBytes 8 (x.gpr ((mwMd w + k) % 32)).toNat)
  let imm := Config.immSel (mwImmsel w) == 3
  ⟨h, leAt b 1 1, leAt b 2 2, s.fld (HE_ROLE.ROLEGEN h), if imm then mwImm w % 256 else leAt b 6 1, 0,
    if imm then mwImm w / 256 % 2 ^ 32 else leAt b 8 4, s.tick % 2 ^ 32, slice b 16 48⟩

/-- A message to the originator with a work item's TAG ends that item (DESIGN CHOICE, assumption 102). -/
def mwSend (h : Nat) (s : State) (x : Helper) (w : Microword) : MwRes :=
  let m := s.mwMsg h x w
  if 8 ≤ x.outbox.length then .wait
  else .ok (s.modHelper h (fun y => { y with outbox := y.outbox ++ [m], work := y.work.erase (m.dst, m.tag) }))

/-- The receive frees the entry (R166). A role's own message is a work item that the helper now has in hand (DESIGN CHOICE, assumption
102); one of the device is none. -/
def mwReceive (h : Nat) (s : State) (x : Helper) (w : Microword) : MwRes :=
  match x.inbox with
  | [] => .wait
  | m :: l => .ok ((s.modHelper h (fun y =>
      ({ y with inbox := l, work := if m.type < 0xF0 then y.work ++ [(m.src, m.tag)] else y.work }).setRegs (mwMd w) m.bytes)).heSync h)

def mwErrReceive (h : Nat) (s : State) (x : Helper) (w : Microword) : MwRes :=
  match x.errq with
  | [] => .wait
  | m :: l => .ok ((s.modHelper h (fun y => ({ y with errq := l }).setRegs (mwMd w) m.bytes)).heSync h)

def execMessageSend (h : Nat) (m : MwIn) (s : State) : Host.Outcome State Fault Refusal :=
  .next (s.whileLive (fun s => s.issue h m (fun w => mwMop w == 5) (mwSend h)))

def execMessageReceive (h : Nat) (m : MwIn) (s : State) : Host.Outcome State Fault Refusal :=
  .next (s.whileLive (fun s => s.issue h m (fun w => mwMop w == 6) (mwReceive h)))

def execErrorQueueReceive (h : Nat) (m : MwIn) (s : State) : Host.Outcome State Fault Refusal :=
  .next (s.whileLive (fun s => s.issue h m (fun w => mwMop w == 7) (mwErrReceive h)))

/-- The oldest message of an outbox reaches the fabric and is delivered, waits, or is refused (R163, R165, R166). -/
def State.deliverNext (s : State) (src : Nat) : State :=
  if src = stewardEp then
    match s.steward.outbox with
    | [] => s
    | m :: l => (s.modSteward (fun x => { x with outbox := l })).fabricTake m
  else if 24 ≤ src then s
  else match (s.helper src).outbox with
    | [] => s
    | m :: l => (s.modHelper src (fun x => { x with outbox := l })).fabricTake m

def execMessageDelivery (src : Nat) (s : State) : Host.Outcome State Fault Refusal := .next (s.whileLive (fun s => s.deliverNext src))

/-- The oldest message that waits for an inbox enters once it has room; one that its target no longer takes goes back. -/
def State.enterNext (s : State) (dst : Nat) : State :=
  match s.fabric.waiting.find? (fun m => m.dst == dst) with
  | none => s
  | some m =>
    let s1 := s.modFabric (fun f => { f with waiting := f.waiting.erase m })
    match s.refusal? m with
    | some st => s1.returnMsg m st
    | none => if s.inboxOpen dst then s1.enterInbox m else s

def execMessageEntersInbox (dst : Nat) (s : State) : Host.Outcome State Fault Refusal := .next (s.whileLive (fun s => s.enterNext dst))

/-- The oldest message on its way back to `src` reaches its error queue; while the queue is full it waits, HE_STAT.ERRFULL is set
and the condition recorded (R166). A message the device itself sent has no queue to return to. -/
def State.returnNext (s : State) (src : Nat) : State :=
  match s.fabric.returning.find? (fun m => m.src == src) with
  | none => s
  | some m =>
    let s1 := s.modFabric (fun f => { f with returning := f.returning.erase m })
    if src = stewardEp then
      if 16 ≤ s.steward.errq.length then s else s1.modSteward (fun x => { x with errq := x.errq ++ [m] })
    else if 24 ≤ src then s1
    else if 16 ≤ (s.helper src).errq.length then
      if s.bit (HE_STAT.ERRFULL src) then s else (s.setBit (HE_STAT.ERRFULL src)).record 0x0402 (leBytes 1 src ++ zeros 3)
    else (s1.modHelper src (fun x => { x with errq := x.errq ++ [m] })).heSync src

def execMessageReturn (src : Nat) (s : State) : Host.Outcome State Fault Refusal := .next (s.whileLive (fun s => s.returnNext src))

/-! ### Islands and fences (R146, R170) -/

/-- A pop waits for data. -/
def execIslandFifoPop (h : Nat) (m : MwIn) (data : Option Word64) (s : State) : Host.Outcome State Fault Refusal :=
  .next (s.whileLive (fun s => s.issue h m (fun w => mwMop w == 8) (fun t _ w =>
    match data with
    | none => .wait
    | some d => .ok (t.modHelper h (fun y => y.setRegs (mwMd w) (leBytes 8 d.toNat))))))

/-- A push waits for room in the FIFO. -/
def execIslandFifoPush (h : Nat) (m : MwIn) (s : State) : Host.Outcome State Fault Refusal :=
  .next (s.whileLive (fun s => s.issue h m (fun w => mwMop w == 9) (fun t x w =>
    if m.island then .ok (t.modHelper h (fun y => { y with pushFifo := y.pushFifo ++ [x.gpr (mwMd w)] })) else .wait)))

/-- Pushes accepted by the island since. -/
def State.islandTakes (s : State) (h accepted : Nat) : State := s.modHelper h (fun x => { x with pushFifo := x.pushFifo.drop accepted })

/-- Every message of `h` is in an inbox or back in its error queue. -/
def State.sendsDone (s : State) (h : Nat) : Bool :=
  (s.helper h).outbox.isEmpty && !s.fabric.waiting.any (fun m => m.src == h) && !s.fabric.returning.any (fun m => m.src == h)

/-- No fabric access of `who` is under way. -/
def State.accessesDone (s : State) (who : Nat) : Bool :=
  !s.cache.fills.any (fun f => f.waiting.any (fun r => r.who == who)) && !s.cache.waitWb.any (fun w => w.1 == who)

/-- A fence of kind `k`: the word waits until what it names is complete. -/
def State.fence (s : State) (h : Nat) (m : MwIn) (k accepted : Nat) (done : State → Bool) : State :=
  (s.islandTakes h accepted).issue h m (fun w => mwMop w == 0xB && mwMsize w == k) (fun t _ _ => if done t then .ok t else .wait)

def execFenceFull (h : Nat) (m : MwIn) (accepted : Nat) (s : State) : Host.Outcome State Fault Refusal :=
  .next (s.whileLive (fun s => s.fence h m 0 accepted (fun t => t.accessesDone h && t.sendsDone h && (t.helper h).pushFifo.isEmpty)))

def execFenceStoreSend (h : Nat) (m : MwIn) (s : State) : Host.Outcome State Fault Refusal :=
  .next (s.whileLive (fun s => s.fence h m 1 0 (fun t => t.accessesDone h)))

def execFenceIsland (h : Nat) (m : MwIn) (accepted : Nat) (s : State) : Host.Outcome State Fault Refusal :=
  .next (s.whileLive (fun s => s.fence h m 2 accepted (fun t => (t.helper h).pushFifo.isEmpty)))

/-! ### Patch activation (R175 to R179, R564) -/

/-- Staging at activation ends: the swap goes from role to role in ascending role code (R175); or nothing swaps (R176). -/
def State.stagingDone (s : State) (ok : Bool) : State :=
  match s.nvme.activation with
  | none => s
  | some a =>
    if !a.drained || s.fabric.staged = 0 || s.fabric.swapRole.isSome then s
    else if ok then State.swapGo 14 ((s.modFabric (fun f => { f with swapRole := some 0 })).swapSignal 0)
    else
      let s1 := (s.each helpers24 (fun t h => t.modHelper h (fun x => { x with shadow := none }))).modSteward (fun x => { x with shadow := none })
      (s1.modFabric (fun f => { f with staged := 0 })).activationEnd .internalError

def execPatchStagingDone (ok : Bool) (s : State) : Host.Outcome State Fault Refusal := .next (s.whileLive (fun s => (s.stagingDone ok).standbyStep))

/-- Every role has swapped; the steward swaps last. The bundle is in effect and committed, and the activation is over. A helper that was
not Running takes its half when it is next started (R177). -/
def State.stewardSwap (s : State) : State :=
  match s.nvme.activation with
  | none => s
  | some a =>
    if s.fabric.swapRole != some 13 then s
    else
      let b := (s.flashPatch a.slot).image
      let s1 := s.modFabric (fun f => { f with bundle := b, domInEffect := [], staged := 0, swapRole := none })
      let s2 := (s1.stSwap.setFld SC_STAT.PSLOT a.slot).clrBit SC_STAT.UNPATCHED
      ((s2.ptMark a.slot (fun m => { m with commit := true })).activationEnd .ok)

def execStewardPatchSwap (s : State) : Host.Outcome State Fault Refusal := .next (s.whileLive (fun s => s.stewardSwap.standbyStep))

/-! ### Steward instructions (R139 to R142, R162, R171, R204) -/

/-- The fetch of an instruction: a ROM block that an enabled match register names is read from patch RAM, the lowest register first;
an uncorrectable word there is trap 0x01. -/
def State.stFetch (s : State) (space addr : Nat) : State × Option (Nat × Nat) :=
  let at' := if space = 0 then
      match s.steward.active.mtab.find? (fun m => m.1 == addr / 16) with
      | some m => (1, m.2 * 16 + addr % 16)
      | none => (0, addr)
    else (1, addr)
  let s1 := s.modSteward (fun x => { x with fetch := at' })
  if at'.1 = 0 then (s1, none)
  else
    let i := 4096 * s.fld ST_PATCHSTAT.HALF + at'.2 / 8 % 4096
    let d := decodeWord (s.wordAt .pram i)
    (s1.eccNote .pram (8 * i) reqFetch d, if d.res.bad then some at' else none)

/-- What a fabric access of the steward comes to: an unmapped address is trap 0x04; a bad word of steward SRAM trap 0x02; of HBM or MRAM
the status flag. -/
def State.stAccess (s : State) (i : FabIn) (r : FabRes) : State :=
  match r with
  | .wait => s
  | .unmapped => s.trap 4 s.steward.fetch.1 s.steward.fetch.2
  | .ok t bad => if bad && i.space = 2 then t.trap 2 s.steward.fetch.1 s.steward.fetch.2 else t

/-- What the instruction does. -/
def State.stDo (s : State) (o : StewardOp) : State :=
  match o with
  | .plain => s
  | .mainLoop => s.modSteward (fun x => { x with loopTick := s.tick })
  | .handlerEnd => s.modSteward (fun x => { x with inHandler := false })
  | .load i a n => s.stAccess i (s.fabLoad 31 i a n 0)
  | .store i a d => s.stAccess i (s.fabStore 31 i a d)
  | .line op a f => s.stAccess ⟨0, f⟩ (s.fabLine 31 a op f)
  | .fence => s.modSteward (fun x => { x with fencing := true })
  | .send dst gen ty tag p =>
    if 8 ≤ s.steward.outbox.length then s
    else s.modSteward (fun x => { x with outbox := x.outbox ++ [⟨31, dst, gen, 0, ty, 0, tag, s.tick % 2 ^ 32, p⟩] })
  | .receive => s.modSteward (fun x => { x with inbox := x.inbox.drop 1 })
  | .errReceive => s.modSteward (fun x => { x with errq := x.errq.drop 1 })

/-- What a fence of the steward waits for is complete: its accesses and its sends (R170, R171). -/
def State.stFenceDone (s : State) : Bool :=
  s.accessesDone stewardEp && s.steward.outbox.isEmpty && !s.fabric.waiting.any (fun m => m.src == stewardEp) &&
  !s.fabric.returning.any (fun m => m.src == stewardEp)

/-- One instruction at a boundary: not while the last one waits for a cache fill (R216), nor while a fence is not complete. -/
def State.stStep (s : State) (space addr : Nat) (o : StewardOp) : State :=
  if !s.stRuns || s.steward.blocked || (s.steward.fencing && !s.stFenceDone) then s
  else
    let f := (s.modSteward (fun x => { x with fencing := false })).stFetch space addr
    match f.2 with
    | some at' => f.1.trap 1 at'.1 at'.2
    | none => (f.1.stDo o).memSettle

def execStewardInstruction (space addr : Nat) (o : StewardOp) (s : State) : Host.Outcome State Fault Refusal := .next (s.whileLive (fun s => (s.stStep space addr o).standbyStep))

end Sys2Proof.Machine
end

