-- ==== Sys2Proof/Machine/Movers.lean ====
section
/-! DEFINITION. The block-mover commands (R240 to R249). -/
namespace Sys2Proof.Machine

def execMoverGo (c srcSp src dstSp dst len : Nat) (fence : Bool) (owner : Nat) (s : State) : Host.Outcome State Fault Refusal :=
  .next (s.whileLive (fun s => s.moverGo c ⟨srcSp, src, dstSp, dst, len, fence, owner⟩))

/-- R243: a stop takes effect at a set boundary; a set not started is itself at one. -/
def State.moverStop (s : State) (c : Nat) : State :=
  if s.dmState c == dmReady then s.dmGoto c dmStopped
  else if s.dmState c == dmRunning then s.setBit (DM_CH_STAT.STOPPEND c)
  else s

def execMoverStopRequest (c : Nat) (s : State) : Host.Outcome State Fault Refusal := .next (s.whileLive (fun s => s.moverStop c))

/-- R244: a Stopped channel starts again. -/
def State.moverStart (s : State) (c : Nat) : State :=
  if s.dmState c != dmStopped then s
  else if (s.chan c).active.isSome then s.dmGoto c dmReady
  else if s.bit (DM_CH_STAT.SHGO c) then s.dmPromote c
  else s.dmGoto c dmIdle

def execMoverStartRequest (c : Nat) (s : State) : Host.Outcome State Fault Refusal := .next (s.whileLive (fun s => s.moverStart c))

def execMoverDiscardRequest (c : Nat) (s : State) : Host.Outcome State Fault Refusal := .next (s.whileLive (fun s => s.moverDiscard c))

/-- R244: a Halted channel goes on from its current addresses. -/
def State.moverResume (s : State) (c : Nat) : State :=
  if s.dmState c == dmHalted then s.dmGoto c dmReady else s

def execMoverResumeRequest (c : Nat) (s : State) : Host.Outcome State Fault Refusal := .next (s.whileLive (fun s => s.moverResume c))

def execMoverSetStart (mover : Nat) (s : State) : Host.Outcome State Fault Refusal := .next (s.whileLive (fun s => s.moverNext mover))

/-- R244: the rest of the set is moved and the set completes, as far as nothing makes a transfer wait or halts it. A peripheral set
completes once its bursts have moved it all. `hostData` is what host memory answers, up to the first byte that it fails to give. -/
def State.moverComplete (s : State) (c : Nat) (hostData : List Byte) (f : MemFaults) : State :=
  match (s.chan c).active with
  | none => s
  | some x =>
    if s.dmState c != dmRunning then s
    else
      let s1 := if isPeriph x.srcSp || isPeriph x.dstSp then s else State.dmRun (s.dmLeft c / 64 + 1) s c f x hostData
      if s1.dmState c == dmRunning && s1.dmLeft c = 0 then s1.dmDone c x dmOk else s1

def execMoverSetComplete (c : Nat) (hostData : List Byte) (f : MemFaults) (s : State) : Host.Outcome State Fault Refusal :=
  .next (s.whileLive (fun s => (s.moverComplete c hostData f).memSettle))

/-- R248, R250: a host memory error after `transfers` whole transfers halts a set that reads host memory; any other runs on to the
Uncorrectable or Unwritten word that halts it. -/
def State.moverHalt (s : State) (c transfers : Nat) (hostData : List Byte) (f : MemFaults) : State :=
  match (s.chan c).active with
  | none => s
  | some x =>
    if s.dmState c != dmRunning || isPeriph x.srcSp || isPeriph x.dstSp then s
    else if isHost x.srcSp then (State.dmRun transfers s c f x hostData).dmHalt c dmHostErr
    else State.dmRun (transfers + 1) s c f x []

def execMoverHalt (c transfers : Nat) (hostData : List Byte) (f : MemFaults) (s : State) : Host.Outcome State Fault Refusal :=
  .next (s.whileLive (fun s => (s.moverHalt c transfers hostData f).memSettle))

/-- R248: 1 ms without a request that lets a burst start. -/
def State.moverTimeout (s : State) (c : Nat) : State :=
  match (s.chan c).active with
  | none => s
  | some x => if isPeriph x.srcSp || isPeriph x.dstSp then s.dmHalt c dmTimeout else s

def execMoverTimeout (c : Nat) (s : State) : Host.Outcome State Fault Refusal := .next (s.whileLive (fun s => s.moverTimeout c))

/-- A conversion as the lane delivers it: clamped to the codes 0x81 to 0x7F, with 0x80 for a cell that is erased (R355). -/
def sampleByte (x : Option Int) : Byte :=
  match x with
  | none => 0x80
  | some v => BitVec.ofInt 8 (if v < -127 then -127 else if 127 < v then 127 else v)

/-- The bytes a lane puts into a burst: of the oldest held result's image (R373), or of the captured samples. -/
def State.laneBurst (s : State) (c : Nat) (x : MoverSet) (samples : List (Option Int)) : List Byte :=
  if !x.fromResult then slice (samples.map sampleByte) 0 256
  else match (s.lane (x.src % 16)).results with
    | r :: _ => slice (slice r.header 0 256 ++ r.payload) (16640 - s.dmLeft c) 256
    | [] => zeros 256

/-- A write slot takes bytes into its 8 KiB buffer, whose newest bytes it keeps. -/
def SlotSt.take (y : SlotSt) (d : List Byte) : SlotSt :=
  let p := y.payload ++ d
  { y with payload := p.drop (p.length - 8192) }

/-- Transfer `j` of a burst, 64 bytes; `v` bytes of the burst are valid, the others are carried as zero. A lane's bytes are `d`. -/
def State.burstPart (s : State) (c : Nat) (f : MemFaults) (x : MoverSet) (v j : Nat) (d hostData : List Byte) : State × Bool :=
  let some' := v - 64 * j
  if x.srcSp = 6 then s.dmPut c f x (slice ((slice d (64 * j) 64).take some') 0 64)
  else
    let g := s.dmGet c f x 64 (hostData.drop (64 * j))
    match g.2 with
    | none => (g.1, false)
    | some b => ((g.1.modSlot (s.dmDst c % 4) (fun y => y.take (slice (b.take some') 0 64))).dmShow c (s.dmSrc c + 64) (s.dmDst c + 64) (s.dmLeft c - 64), true)

/-- R247: a burst of 256 bytes starts when the count is 256 or the burst is the last of its frame, and runs as four transfers; bytes
beyond the count at a withdrawal (`valid`) are carried as zero and counted in SHORT. -/
def State.burst (s : State) (c count valid : Nat) (last : Bool) (samples : List (Option Int)) (hostData : List Byte) (f : MemFaults) : State :=
  match (s.chan c).active with
  | none => s
  | some x =>
    if s.dmState c != dmRunning || !(isPeriph x.srcSp || isPeriph x.dstSp) || s.dmLeft c < 256 || 256 < count || !(count == 256 || last) ||
      s.spaceWaits x.dstSp (s.dmDst c) 256 then s
    else
      let v := Nat.min valid count
      let d := s.laneBurst c x samples
      ((List.range 4).foldl (fun (t : State × Bool) j => if t.2 then t.1.burstPart c f x v j d hostData else t)
        (s.addSat (DM_CH_SHORT.BYTES c) (count - v), true)).1

def execPeripheralBurst (c count valid : Nat) (last : Bool) (samples : List (Option Int)) (hostData : List Byte) (f : MemFaults) (s : State) :
    Host.Outcome State Fault Refusal := .next (s.whileLive (fun s => (s.burst c count valid last samples hostData f).memSettle))

/-- The actuator whose peripheral a set uses: a lane's, or a write slot's. -/
def State.periphAct (s : State) (x : MoverSet) : Act :=
  if x.srcSp == 6 then s.lnAct (x.src % 16) else actOf (x.dst % 4 / 2)

/-- R249: the domain of the peripheral has left Serving: the set completes STOPPED and the channel is Stopped. -/
def State.periphWithdraw (s : State) (c : Nat) : State :=
  match (s.chan c).active with
  | none => s
  | some x =>
    if s.dmState c != dmRunning || !(isPeriph x.srcSp || isPeriph x.dstSp) || s.isServing (domOfAct (s.periphAct x)) then s
    else (((s.modChan c (fun k => { k with active := none, started := false })).clrBit (DM_CH_STAT.STOPPEND c)).dmGoto c dmStopped).dmPost c x dmStoppedSt (s.dmLeft c)

def execPeripheralWithdraw (c : Nat) (s : State) : Host.Outcome State Fault Refusal := .next (s.whileLive (fun s => s.periphWithdraw c))

end Sys2Proof.Machine
end

