-- ==== Sys2Proof/Machine/Pool.lean ====
section
/-! DEFINITION. The commands of the Ewerid pool (R502 to R533). -/
namespace Sys2Proof.Machine

/-! ### Roll call, election, layout (R530) -/

/-- A HELLO: collected in roll call; one with this device's own ID is R529's duplicate. -/
def State.hello (s : State) (h : EwHdr) (ident : List Byte) (id : Option Nat) (role : Nat) : State :=
  s.ewAccept h 1 (fun t =>
    let t1 := t.modPool (fun p => { p with hellos := p.hellos.filter (fun x => x.ident != ident) ++ [⟨ident, id, role⟩] })
    if id == some t1.plId && t1.pool.hasId && ident != deviceIdent then
      if t1.pool.members.any (fun m => m.id == t1.plId && m.ident == deviceIdent) then t1
      else (t1.isolate).setBit FB_ALERT.POOL
    else t1)

def execHello (h : EwHdr) (ident : List Byte) (id : Option Nat) (role : Nat) (s : State) : Host.Outcome State Fault Refusal :=
  .next (s.whileLive (fun s => s.hello h ident id role))

/-- HELLO body (R512). -/
def State.helloBody (s : State) : List Byte :=
  slice deviceIdent 0 32 ++ leBytes 2 s.plId ++ leBytes 1 (if s.pool.hasId then 1 else 0) ++ leBytes 1 (s.fld PL_STAT.ROLE) ++
    slice (sha256 (s.layoutIds.flatMap (fun i => leBytes 2 i))) 0 32 ++ leBytes 8 s.capBlk ++ leBytes 4 s.enclId ++ leBytes 1 s.bay ++ zeros 3

/-- The slot of this member, whose timer runs: HELLO to the shard group (R530). -/
def State.rollSlot (s : State) : State :=
  if s.poolOn && s.plState == plRollCall && s.pool.slot.isSome then
    [0, 1].foldl (fun t p => t.ewGroup p t.myShard 0x01 0 t.helloBody) (s.modPool (fun p => { p with slot := none }))
  else s

def execRollCallSlot (s : State) : Host.Outcome State Fault Refusal := .next (s.whileLive (fun s => s.rollSlot))

/-- Whether this member is leader-elect: the leader of the stored epoch, else the lowest ID (R530). -/
def State.leaderElect (s : State) : Bool :=
  let ids := s.pool.hellos.filterMap (fun h => h.id)
  let old := s.pool.hellos.any (fun h => h.role != 0 && h.id.isSome)
  s.pool.hasId && (s.plLeads || (!old && ids.all (fun i => s.plId ≤ i)))

/-- ROSTER body: COUNT, then IDENT, ID, ROLEGEN, STATE of each (R512); the entry of a member without an ID carries 0, which the head
therefore assigns to none (DESIGN CHOICE, assumption 112). -/
def State.rosterBody (s : State) : List Byte :=
  let es := s.pool.hellos
  leBytes 2 es.length ++ zeros 2 ++ es.flatMap (fun h => slice h.ident 0 32 ++ leBytes 2 (h.id.getD 0) ++ leBytes 2 (s.genOf (h.id.getD 0)) ++ zeros 4)

/-- What goes to a shard and to the leaders, on both ports. -/
def State.bothGroups (s : State) : List (Nat × Nat) := [0, 1].flatMap (fun p => [(p, s.myShard), (p, leadersGroup)])

/-- Roll call closes (R530, R532): Electing; the leader-elect claims and sends its roster. -/
def State.rollClose (s : State) : State :=
  if !(s.poolOn && s.plState == plRollCall) then s
  else
    let s1 := (s.setFld PL_STAT.STATE plElecting).modPool (fun p => { p with repeated := false })
    if !s1.leaderElect then s1
    else
      let x := s1.freshXid
      let s2 := x.1.modPool (fun p => { p with claim := some x.2, votes := [] })
      let claim := leBytes 1 s2.myShard ++ zeros 3 ++ slice (sha256 (s2.layoutIds.flatMap (fun i => leBytes 2 i))) 0 32
      let s3 := s2.each (s2.bothGroups) (fun t y => t.ewGroup y.1 y.2 0x03 x.2 claim)
      s3.each (s3.bothGroups) (fun t y => t.ewGroup y.1 y.2 0x02 0 t.rosterBody)

def execRollCallClose (s : State) : Host.Outcome State Fault Refusal := .next (s.whileLive (fun s => s.rollClose))

/-- This member's role: a change increments ROLEGEN, and a new leader joins its group (R504, R509). -/
def State.setRole (s : State) (r : Nat) : State :=
  let old := s.fld PL_STAT.ROLE
  if old = r then s
  else ((s.setFld PL_STAT.ROLE r).setFld PL_MEMBER.ROLEGEN (s.plGen + 1)).when (old == 0) State.joinGroups

/-- PL_LEADER and the pool head: the leader of the lowest shard that has one (R509). -/
def State.leaderSync (s : State) : State :=
  let ls := s.pool.leaders
  let head := ls.foldl (fun (o : Option (Nat × Nat)) x => match o with
    | some y => if x.1 < y.1 then some x else some y
    | none => some x) none
  let s1 := s.setFld PL_LEADER.HEAD ((head.map (fun x => x.2)).getD 0)
  let mine := ls.find? (fun x => x.1 == s.myShard)
  let s2 := s1.setFld PL_LEADER.SHARD ((mine.map (fun x => x.2)).getD 0)
  if s2.pool.hasId && (mine.any (fun x => x.2 == s2.plId)) then s2.setRole (if head.any (fun x => x.2 == s2.plId) then 2 else 1)
  else s2.setRole 0

/-- A LEADER claim is acknowledged; the shard's members go on to Agreeing (R530, R532). -/
def State.leaderFrame (s : State) (h : EwHdr) (shard : Nat) : State :=
  s.ewAccept h 3 (fun t =>
    let t1 := (t.modPool (fun p => { p with leaders := p.leaders.filter (fun x => x.1 != shard) ++ [(shard, h.src)] })).leaderSync
    let t2 := t1.ewReply h 0x05 0 []
    if shard == t2.myShard && t2.plState == plElecting then (t2.setFld PL_STAT.STATE plAgreeing).modPool (fun p => { p with repeated := false, claim := none })
    else t2)

def execLeader (h : EwHdr) (shard : Nat) (s : State) : Host.Outcome State Fault Refusal := .next (s.whileLive (fun s => s.leaderFrame h shard))

/-- The lowest free ID of a roll-call shard, or of the next shard where that one is full (R508). -/
def freeId (used : List Nat) (shard : Nat) : Nat :=
  ((List.range 65536).findSome? (fun k =>
    let i := (1024 * shard + k) % 65536
    if i != 0 && !used.contains i then some i else none)).getD 0

/-- IDs for the members listed: one without an ID takes the lowest free one of its roll-call shard, IDENT[0] mod 64 (R507 to R509). With
each ID goes the IDENT it belongs to. -/
def assignIds : List (Nat × List Byte) → List PoolHello → List (Nat × List Byte)
  | used, [] => used
  | used, h :: hs => match h.id with
    | some i => assignIds (if used.any (fun x => x.1 == i) then used else used ++ [(i, h.ident)]) hs
    | none =>
      if used.any (fun x => x.2 == h.ident) then assignIds used hs
      else assignIds (used ++ [(freeId (used.map (fun x => x.1)) (beNat (h.ident.take 1) % 64), h.ident)]) hs

/-- Insertion in ascending order. -/
def insertId (i : Nat) : List Nat → List Nat
  | [] => [i]
  | j :: l => if i ≤ j then i :: j :: l else j :: insertId i l

def sortIds (l : List Nat) : List Nat := l.foldr insertId []

/-- LAYOUT frames of up to 2,048 IDs each, from the pool head to the leaders and its own shard, from a leader to its shard (R512, R530).
Where a member is Failed, status parts follow, PART NPART and up: a word per member in the order of L, bit 15 set for a Failed one (DESIGN
CHOICE, assumption 112: the spec does not lay the status part out). -/
def State.sendLayout (s : State) : State :=
  let ms := s.pool.members
  let np := Nat.max 1 ((ms.length + 2047) / 2048)
  let words := fun (k : Nat) (f : PoolMember → Nat) => ((ms.drop (2048 * k)).take 2048).flatMap (fun m => leBytes 2 (f m))
  let parts := (List.range np).map (fun k => (k, words k (fun m => m.id))) ++
    (if ms.any (fun m => m.failed) then (List.range np).map (fun k => (np + k, words k (fun m => if m.failed then 2 ^ 15 else 0))) else [])
  s.each parts (fun t x =>
    let y := t.freshXid
    let body := leBytes 4 (t.fld PL_EPOCH.EPOCH) ++ leBytes 4 ms.length ++ leBytes 2 x.1 ++ leBytes 2 np ++ x.2
    let out := if t.fld PL_STAT.ROLE = 2 then t.bothGroups else [(0, t.myShard), (1, t.myShard)]
    y.1.each out (fun u z => u.ewGroup z.1 z.2 0x04 y.2 body))

/-- The members an ID table names; `failed` says which are Failed. -/
def State.idTable (s : State) (start : List (Nat × List Byte)) : List Nat :=
  sortIds ((assignIds start (s.pool.rosters.flatMap (fun r => r.2) ++ s.pool.hellos)).map (fun x => x.1))

/-- This member as an entry of an ID table. -/
def State.ownEntry (s : State) : Nat × List Byte := (s.plId, deviceIdent)

/-! ### Adoption (R528) -/

/-- The first half of each group's first row is asked for from the group's substitute. -/
def State.adoptAsk (s : State) (id : Nat) : State :=
  s.each (s.dataGroups id) (fun t g =>
    let p := (t.posIn? g id).getD 0
    match t.substitute g with
    | some j => (t.modPool (fun q => { q with reads := q.reads ++ [⟨g, 0, 0, 0, t.poolW, 2, 0, []⟩] })).ewSend 0x20 j 0 (creadBody g 0 0 0 p)
    | none => t)

/-- This device takes the ID of the Failed member `id`; ROLEGEN increments (R509). -/
def State.adoptBegin (s : State) (id : Nat) : State :=
  let s1 := (((s.setBit PL_STAT.ADOPT).setFld PL_MEMBER.ID id).setFld PL_MEMBER.ROLEGEN (s.genOf id + 1)).modPool (fun p => { p with hasId := true })
  ((s1.setFld PL_STAT.SHARD (shardOf id)).identityRecord).adoptAsk id

/-- A device whose fixed MEMBERID is that of a Failed member, and that was not that member, adopts it as it joins (R528). -/
def State.adoptFixed (s : State) : State :=
  if s.poolCfg 8 1 == 1 && s.plState == plReconciling && s.memberFailed s.plId && !s.bit PL_STAT.ADOPT then s.adoptBegin s.plId else s

/-! ### The layout -/

/-- The pool head forms or confirms the layout once it has the roster of every leader it knows (R530). -/
def State.headForms (s : State) : State :=
  if s.fld PL_STAT.ROLE != 2 || s.plState != plAgreeing then s
  else if !s.pool.leaders.all (fun l => l.2 == s.plId || s.pool.rosters.any (fun r => r.1 == l.2)) then s
  else
    let ids := if s.pool.members != [] then s.pool.members.map (fun m => (m.id, m.failed)) else (s.idTable [s.ownEntry]).map (fun i => (i, false))
    let ep := if s.pool.members != [] then s.fld PL_EPOCH.EPOCH else s.fld PL_EPOCH.EPOCH + 1
    ((s.setFld PL_EPOCH.EPOCH ep).adoptLayout ep ids).adoptFixed.sendLayout

/-- A ROSTER (R508, R530): collected by the pool head; a member without an ID finds its own in it. -/
def State.roster (s : State) (h : EwHdr) (es : List (List Byte × Nat × Nat × Nat)) : State :=
  s.ewAccept h 2 (fun t =>
    let hs := es.map (fun e => (⟨e.1, if e.2.1 = 0 then none else some e.2.1, 0⟩ : PoolHello))
    let t1 := t.modPool (fun p => { p with
      rosters := p.rosters.filter (fun r => r.1 != h.src) ++ [(h.src, hs)]
      members := p.members.map (fun m => match es.find? (fun e => e.2.1 == m.id) with
        | some e => { m with ident := e.1, gen := e.2.2.1 }
        | none => m) })
    let t2 := if t1.pool.hasId then t1
      else t1.onSome (es.find? (fun e => e.1 == deviceIdent && e.2.1 != 0)) (fun u e => ((u.setFld PL_MEMBER.ID e.2.1).modPool (fun p => { p with hasId := true })).setFld PL_STAT.SHARD (shardOf e.2.1))
    t2.headForms)

def execRoster (h : EwHdr) (entries : List (List Byte × Nat × Nat × Nat)) (s : State) : Host.Outcome State Fault Refusal :=
  .next (s.whileLive (fun s => s.roster h entries))

/-- Word `i` of the status parts of the layout being collected, where one has come. -/
def statusWord (parts : List (Nat × List (Nat × Bool))) (npart i : Nat) : Option Bool :=
  (parts.find? (fun x => x.1 == npart + i / 2048)).bind (fun x => (x.2[i % 2048]?).map (fun y => y.2))

/-- The IDs of the parts, in order, with who is Failed: as a status part says, else as this device knew within the epoch. -/
def State.partsIds (s : State) (epoch npart : Nat) : List (Nat × Bool) :=
  let ids := (List.range npart).flatMap (fun k => ((s.pool.parts.find? (fun x => x.1 == k)).map (fun x => x.2)).getD [])
  ids.zipIdx.map (fun x => (x.1.1, (statusWord s.pool.parts npart x.2).getD (s.fld PL_EPOCH.EPOCH == epoch && s.memberFailed x.1.1)))

/-- A LAYOUT part; a leader passes the frames on to its shard, and the whole list is adopted and acknowledged (R507, R530). A part of
number NPART or above is a status part. -/
def State.layoutFrame (s : State) (h : EwHdr) (epoch part npart : Nat) (ids : List (Nat × Bool)) : State :=
  s.ewAccept h 4 (fun t =>
    let t0 := if t.pool.partEpoch = epoch then t else t.modPool (fun p => { p with partEpoch := epoch, parts := [] })
    let t1 := t0.modPool (fun p => { p with parts := p.parts.filter (fun x => x.1 != part) ++ [(part, ids)] })
    let t2 := t1.ewReply h 0x05 0 []
    if !(List.range npart).all (fun k => t2.pool.parts.any (fun x => x.1 == k)) then t2
    else
      let t3 := (t2.adoptLayout epoch (t2.partsIds epoch npart)).adoptFixed
      if t3.fld PL_STAT.ROLE = 1 && t3.fld PL_LEADER.HEAD == h.src then t3.sendLayout else t3)

def execLayout (h : EwHdr) (epoch part npart : Nat) (ids : List (Nat × Bool)) (s : State) : Host.Outcome State Fault Refusal :=
  .next (s.whileLive (fun s => s.layoutFrame h epoch part npart ids))

/-- An ACK, by its XID: of this device's claim (a majority of the roster makes it leader, R530), or of a partner copy
(R519). -/
def State.ackFrame (s : State) (h : EwHdr) : State :=
  s.ewAccept h 5 (fun t =>
    if t.pool.claim == some h.xid then
      let vs := if t.pool.votes.contains h.src then t.pool.votes else t.pool.votes ++ [h.src]
      let t1 := t.modPool (fun p => { p with votes := vs })
      if t1.pool.hellos.length < 2 * vs.length && t1.plState == plElecting then
        let t2 := t1.modPool (fun p => { p with claim := none, repeated := false, leaders := p.leaders.filter (fun x => x.1 != t1.myShard) ++ [(t1.myShard, t1.plId)] })
        ((t2.setFld PL_STAT.STATE plAgreeing).leaderSync).headForms
      else t1
    else if t.pool.pairs.any (fun w => w.xids.contains h.xid) then
      ((t.modPool (fun p => { p with pairs := p.pairs.map (fun w => { w with xids := w.xids.filter (· != h.xid) }) })).pairPump).unpaired false
    else t)

def execAck (h : EwHdr) (s : State) : Host.Outcome State Fault Refusal := .next (s.whileLive (fun s => s.ackFrame h))

/-- A phase bound passes: record, and repeat or alert (R532). -/
def State.phaseBound (s : State) : State :=
  let st := s.plState
  if !(st == plRollCall || st == plElecting || st == plAgreeing) || !s.poolOn then s
  else
    let rep := s.pool.repeated
    let s1 := s.record 0x1202 (leBytes 1 (st + 3) ++ leBytes 1 (if rep then 2 else 1) ++ zeros 2)
    if rep then s1.setBit FB_ALERT.POOL
    else
      let s2 := s1.modPool (fun p => { p with repeated := true })
      if st == plRollCall then s2.modPool (fun p => { p with hellos := [], slot := some (rollSlotOf 1) })
      else if st == plElecting then s2.modPool (fun p => { p with claim := none, votes := [] })
      else s2.modPool (fun p => { p with rosters := [], parts := [] })

def execPhaseBoundExpiry (s : State) : Host.Outcome State Fault Refusal := .next (s.whileLive (fun s => s.phaseBound))

/-! ### Heartbeats and failure (R524) -/

/-- PL_START.READY once every member of L is Serving or Failed (R530). -/
def State.poolReady (s : State) : State :=
  if s.fld PL_START.READY = 0 && s.plState == plServing && s.pool.members.all (fun m => m.failed || m.state == plServing || m.id == s.plId) then
    s.setFld PL_START.READY s.sinceRise
  else s

/-- Frames that came back STALE go out again, with the roles known now (R510). -/
def State.resendStale (s : State) : State :=
  s.pool.stale.foldl (fun t f => t.ewPut { f with port := t.plPort f.dst, dstGen := t.genOf f.dst, srcGen := t.plGen }) (s.modPool (fun p => { p with stale := [] }))

/-- Group, row, cell and half of a cell key. -/
def keyGroup (k : Nat) : Nat := k / 2 ^ 40
def keyRow (k : Nat) : Nat := k / 256 % 2 ^ 32
def keyCell (k : Nat) : Nat := k / 2 % 128

/-- The member `id` has been adopted: a substitute takes its restored chunks back out of their rows and frees its spare range (R528). -/
def State.spareRelease (s : State) (id : Nat) : State :=
  let own := s.pool.spare.filter (fun x => (s.posIn? (keyGroup x.1) id).isSome)
  let s1 := s.each own (fun t x =>
    let g := keyGroup x.1
    match t.posIn? g id, t.holder g t.pdata with
    | some pos, some ph => if pos < t.pdata then t.ewSend 0x10 ph 0 (updBody ⟨g, keyRow x.1, keyCell x.1, 1, 0⟩ (x.1 % 2) pos 0 x.2) else t
    | _, _ => t)
  let s2 := s1.modPool (fun p => { p with
    spare := p.spare.filter (fun x => !own.contains x), members := p.members.map (fun m => if m.id == id then { m with failed := false } else m) })
  let s3 := if s2.pool.rebuildOf = some id then (s2.clrBit PL_STAT.REBUILD).modPool (fun p => { p with rebuildOf := none }) else s2
  (s3.clrBit PL_STAT.SPAREOUT).plSync

/-- A HEARTBEAT: its sender's state and generation, a leader's roles; a Failed member that reports Serving has been adopted. -/
def State.heartbeat (s : State) (h : EwHdr) (state : Nat) (roles : List (Nat × Nat)) : State :=
  s.ewAccept h 6 (fun w =>
    let t := w.when (state == plServing && w.memberFailed h.src) (fun u => u.spareRelease h.src)
    ((t.modPool (fun p => { p with members := p.members.map (fun m =>
      let m1 := if m.id == h.src then { m with state := state, gen := h.srcGen } else m
      match roles.find? (fun r => r.1 == m.id) with
      | some r => { m1 with gen := r.2 }
      | none => m1) })).when (roles != []) State.resendStale).poolReady)

def execHeartbeat (h : EwHdr) (state : Nat) (roles : List (Nat × Nat)) (s : State) : Host.Outcome State Fault Refusal :=
  .next (s.whileLive (fun s => s.heartbeat h state roles))

/-- Pool time in ns (R506). -/
def State.poolTime (s : State) : Nat := toTwos 64 ((s.tick * 40 : Nat) + s.pool.toff)

/-- Every 500 ms, to the shard leader on both ports; a leader's names its shard's roles. -/
def State.heartbeatOut (s : State) : State :=
  if !s.poolOn || !(plReconciling ≤ s.plState && s.plState ≤ plStandby) then s
  else
    let roles := if s.plLeads then (s.pool.members.filter (fun m => shardOf m.id == s.myShard)).flatMap (fun m => leBytes 2 m.id ++ leBytes 2 m.gen) else []
    let body := leBytes 8 s.poolTime ++ leBytes 1 s.plState ++ zeros 7 ++ roles
    let l := s.fld PL_LEADER.SHARD
    [0, 1].foldl (fun t p => if s.plLeads then t.ewGroup p s.myShard 0x06 0 body else t.ewPut ⟨p, 0x06, l, 0, t.genOf l, 0, false, false, 0, t.plId, t.plGen, t.fld PL_EPOCH.EPOCH, body⟩) s

def execHeartbeatTimer (s : State) : Host.Outcome State Fault Refusal := .next (s.whileLive (fun s => s.heartbeatOut))

def failnoteBody (id gen cause : Nat) : List Byte := leBytes 2 id ++ leBytes 2 gen ++ leBytes 1 cause ++ zeros 3

/-- The leader marks a member Failed and tells the shard and the leaders (R524). -/
def State.announceFail (s : State) (id cause : Nat) : State :=
  let g := s.genOf id + 1
  (s.each s.bothGroups (fun t y => t.ewGroup y.1 y.2 0x07 0 (failnoteBody id g cause))).memberFail id g cause

/-- 3 s of silence: a leader probes the member; a silent leader is replaced (R524, R529). A member never heard is given 300 s
from PORST_L (R531), one that said LEAVE its time. -/
def State.memberSilent (s : State) (id : Nat) : State :=
  match s.pool.members.find? (fun m => m.id == id) with
  | none => s
  | some m =>
    if !s.poolOn || m.failed || id == s.plId || s.tick < m.away || (m.heard.isNone && s.tick < secTicks 300) then s
    else if id == s.fld PL_LEADER.SHARD || id == s.fld PL_LEADER.HEAD then (if shardOf id == s.myShard then s.reElect else s)
    else if !s.plLeads || shardOf id != s.myShard then s
    else (s.modPool (fun p => { p with probing := if p.probing.contains id then p.probing else p.probing ++ [id] })).ewSend 0x06 id 0 (leBytes 8 s.poolTime ++ leBytes 1 s.plState ++ zeros 7)

def execMemberSilent (id : Nat) (s : State) : Host.Outcome State Fault Refusal := .next (s.whileLive (fun s => s.memberSilent id))

def State.probeTimeout (s : State) (id : Nat) : State :=
  if s.poolOn && s.pool.probing.contains id then s.announceFail id 1 else s

def execProbeTimeout (id : Nat) (s : State) : Host.Outcome State Fault Refusal := .next (s.whileLive (fun s => s.probeTimeout id))

def State.failnote (s : State) (h : EwHdr) (id newgen cause : Nat) : State :=
  s.ewAccept h 7 (fun t =>
    if id == t.plId then (if t.plState == plServing then (t.isolate).setFld PL_MEMBER.ROLEGEN newgen else t) else t.memberFail id newgen cause)

def execFailnote (h : EwHdr) (id newgen cause : Nat) (s : State) : Host.Outcome State Fault Refusal := .next (s.whileLive (fun s => s.failnote h id newgen cause))

/-- LEAVE suspends detection for RETURN + 10 s; a permanent one fails the member at once. -/
def State.leaveFrame (s : State) (h : EwHdr) (ret : Nat) : State :=
  s.ewAccept h 8 (fun t =>
    if ret = 0 then (if t.plLeads && shardOf h.src == t.myShard then t.announceFail h.src 2 else t)
    else t.modPool (fun p => { p with members := p.members.map (fun m => if m.id == h.src then { m with away := t.tick + secTicks (ret + 10) } else m) }))

def execLeave (h : EwHdr) (ret : Nat) (s : State) : Host.Outcome State Fault Refusal := .next (s.whileLive (fun s => s.leaveFrame h ret))

/-! ### Contributions (R520, R523) -/

/-- P of a row takes a half: exclusive or, once per writer's contribution and half (R517, R520). -/
def State.pupd (s : State) (h : EwHdr) (c : EwCell) (pos op wseq : Nat) (d : List Byte) : State :=
  s.ewAccept h 0x10 (fun t =>
    if t.holder c.group t.pdata != some t.plId then t
    else
      let x : Contrib := ⟨c.group, c.row, c.cell, op, 0⟩
      let key := cellKey c.group c.row c.cell c.half
      match t.pool.held.find? (fun y => y.c.same x && y.writer == h.src && y.wseq == wseq) with
      | some y =>
        if y.halves.any (fun z => z.1 == c.half) then (if y.durable then t.sendQupd y else t)
        else
          let y2 : HeldC := { y with halves := y.halves ++ [(c.half, slice d 0 8192)] }
          let t1 := t.modPool (fun p => { p with held := p.held.map (fun z => if z == y then y2 else z), parity := SMap.modify (fun _ => []) p.parity key (fun o => xorBytes (orZero o) (slice d 0 8192)) })
          if y.durable then t1.sendQupd { y2 with halves := [(c.half, slice d 0 8192)] } else t1
      | none =>
        let y : HeldC := { c := x, writer := h.src, pos := pos, wseq := wseq, halves := [(c.half, slice d 0 8192)], durable := false, acks := [], xidIn := h.xid, xidOut := 0 }
        (t.modPool (fun p => { p with held := p.held ++ [y], parity := SMap.modify (fun _ => []) p.parity key (fun o => xorBytes (orZero o) (slice d 0 8192)) })).sjq (.held x h.src 1 wseq))

def execPupd (h : EwHdr) (c : EwCell) (pos op wseq : Nat) (data : List Byte) (s : State) : Host.Outcome State Fault Refusal :=
  .next (s.whileLive (fun s => s.pupd h c pos op wseq data))

/-- Q of a row takes g^j times a half, once, and acknowledges. -/
def State.qupd (s : State) (h : EwHdr) (c : EwCell) (pos op wseq : Nat) (d : List Byte) : State :=
  s.ewAccept h 0x11 (fun t =>
    if t.holder c.group (t.pdata + 1) != some t.plId then t
    else
      let k := (h.src, wseq, c.group, c.row, c.cell * 2 + op, c.half)
      let key := cellKey c.group c.row c.cell c.half
      let t1 := if t.pool.qdone.contains k then t
        else t.modPool (fun p => { p with qdone := p.qdone ++ [k], parityQ := SMap.modify (fun _ => []) p.parityQ key (fun o => xorBytes (orZero o) (gfScale (gfPow pos) (slice d 0 8192))) })
      t1.ewReply h 0x12 0 (ackBody ⟨c.group, c.row, c.cell, op, 0⟩ c.half))

def execQupd (h : EwHdr) (c : EwCell) (pos op wseq : Nat) (data : List Byte) (s : State) : Host.Outcome State Fault Refusal :=
  .next (s.whileLive (fun s => s.qupd h c pos op wseq data))

/-- UPDACK, told apart by its XID: at the P holder it completes the held contribution, at the writer the contribution. -/
def State.updack (s : State) (h : EwHdr) (c : EwCell) : State :=
  s.ewAccept h 0x12 (fun t =>
    match t.pool.held.find? (fun y => y.durable && y.xidOut == h.xid && y.c.group == c.group && y.c.row == c.row && y.c.cell == c.cell) with
    | some y =>
      let acks := if y.acks.contains c.half then y.acks else y.acks ++ [c.half]
      if acks.length < 2 then t.modPool (fun p => { p with held := p.held.map (fun z => if z == y then { z with acks := acks } else z) })
      else
        let t1 := (t.modPool (fun p => { p with held := p.held.filter (fun z => !(z == y)) })).sjq (.held y.c y.writer 2 y.wseq)
        ([0, 1].foldl (fun u k => u.ewSend 0x12 y.writer y.xidIn (ackBody y.c k)) t1).plSync
    | none =>
      match t.pool.opens.find? (fun o => o.xid == h.xid && o.c.group == c.group && o.c.row == c.row && o.c.cell == c.cell) with
      | none => t
      | some o =>
        let acks := if o.acks.contains c.half then o.acks else o.acks ++ [c.half]
        if acks.length < 2 then t.modPool (fun p => { p with opens := p.opens.map (fun q => if q == o then { q with acks := acks } else q) })
        else t.contribClose o)

def execUpdack (h : EwHdr) (c : EwCell) (s : State) : Host.Outcome State Fault Refusal := .next (s.whileLive (fun s => s.updack h c))

/-- The PFNs of two frames of the other port: a frame resent goes by the port the first did not use (R520). -/
def State.resendPupd (s : State) (o : OpenC) : State :=
  let n := s.pool.out.length
  let s1 := s.sendPupd o
  s1.modPool (fun p => { p with out := p.out.take n ++ (p.out.drop n).map (fun x => match x with
    | .ewerid f => .ewerid { f with port := 1 - f.port }
    | y => y) })

/-- No UPDACK for another second: resend; after 3 s ask the shard leader (R520). -/
def State.updackTimeout (s : State) (g r c op : Nat) : State :=
  match s.pool.opens.find? (fun o => o.c.group == g && o.c.row == r && o.c.cell == c && o.c.op == op) with
  | none => s
  | some o =>
    if !s.poolOn then s
    else
      let o2 : OpenC := { o with tries := o.tries + 1 }
      let s1 := s.modPool (fun p => { p with opens := p.opens.map (fun q => if q == o then o2 else q) })
      if o2.tries < 3 then s1.resendPupd o2
      else s1.ewSend 0x22 (s1.fld PL_LEADER.SHARD) o2.xid (leBytes 4 g ++ leBytes 4 r ++ leBytes 1 c ++ zeros 3 ++ leBytes 8 o2.seq)

def execUpdackTimeout (group row cell op : Nat) (s : State) : Host.Outcome State Fault Refusal := .next (s.whileLive (fun s => s.updackTimeout group row cell op))

/-- PSTATE (R523): a query is answered with the held state, and a held contribution is completed by sending QUPD again; a
reply settles the writer's contribution: complete, or rolled back and sent again. -/
def State.pstate (s : State) (h : EwHdr) (c : EwCell) (wseq st : Nat) : State :=
  s.ewAccept h 0x22 (fun t =>
    if !h.reply then
      let y? := t.pool.held.find? (fun y => y.writer == h.src && y.wseq == wseq && y.c.group == c.group && y.c.row == c.row && y.c.cell == c.cell)
      let gone := t.tier.sj.any (fun r => match r.body with
        | .held x w 2 q => x.group == c.group && x.row == c.row && x.cell == c.cell && w == h.src && q == wseq
        | _ => false)
      let state := if y?.isSome then 1 else if gone then 2 else 0
      let t1 := t.onSome y? (fun u y => if y.durable then u.sendQupd y else u)
      t1.ewReply h 0x22 0 (leBytes 4 c.group ++ leBytes 4 c.row ++ leBytes 1 c.cell ++ zeros 3 ++ leBytes 8 wseq ++ leBytes 1 state)
    else
      match t.pool.opens.find? (fun o => o.seq == wseq && o.c.group == c.group && o.c.row == c.row && o.c.cell == c.cell) with
      | none => t
      | some o => if st = 2 then t.contribClose o else if st = 0 then t.sendPupd o else t)

def execPstate (h : EwHdr) (c : EwCell) (wseq st : Nat) (s : State) : Host.Outcome State Fault Refusal := .next (s.whileLive (fun s => s.pstate h c wseq st))

/-! ### Partner copies (R519) -/

/-- A copy for the retained range, acknowledged. During an adoption the partner of the member adopted sends that member's copies back,
which are this device's own (R528 step 3). -/
def State.pcopy (s : State) (h : EwHdr) (record d : List Byte) : State :=
  s.ewAccept h 0x13 (fun t =>
    let own := t.bit PL_STAT.ADOPT && t.partner == some h.src
    (t.modPool (fun p => { p with retained := p.retained ++ [(if own then t.plId else h.src, slice record 0 64, d)] })).ewReply h 0x05 0 [])

def execPcopy (h : EwHdr) (record data : List Byte) (s : State) : Host.Outcome State Fault Refusal := .next (s.whileLive (fun s => s.pcopy h record data))

def State.prelease (s : State) (h : EwHdr) (seqs : List Nat) : State :=
  s.ewAccept h 0x14 (fun t => t.modPool (fun p => { p with retained := p.retained.filter (fun x => !(x.1 == h.src && seqs.contains (leAt x.2.1 8 8))) }))

def execPrelease (h : EwHdr) (seqs : List Nat) (s : State) : Host.Outcome State Fault Refusal := .next (s.whileLive (fun s => s.prelease h seqs))

/-- No partner has answered within 100 ms. -/
def execPartnerTimeout (s : State) : Host.Outcome State Fault Refusal := .next (s.whileLive (fun s => s.pairDrop.unpaired s.featPool))

/-! ### Cell reads (R525 to R529) -/

def State.cread (s : State) (h : EwHdr) (c : EwCell) (pos : Nat) : State :=
  s.ewAccept h 0x20 (fun t =>
    let d := t.cellHere c.group c.row c.cell c.half pos
    t.ewReply h 0x21 0 (creadBody c.group c.row c.cell c.half pos ++ leBytes 1 (if d.isSome then 0 else 1) ++ zeros 3 ++ d.getD cellZero))

def execCread (h : EwHdr) (c : EwCell) (pos : Nat) (s : State) : Host.Outcome State Fault Refusal := .next (s.whileLive (fun s => s.cread h c pos))

/-- The target's bytes from the positions read (R474). -/
def State.solveCell (s : State) (x : CellRead) : Option (List Byte) :=
  let at' := fun (p : Nat) => ((x.got.find? (fun g => g.1 == p)).map (fun g => g.2)).getD none
  let w := s.pdata
  match restoreData 8192 w at' (at' w) (at' (w + 1)) with
  | none => none
  | some ds =>
    if x.target < w then ds[x.target]? else if x.target = w then some (parityP 8192 ds) else some (parityQ 8192 ds)

/-- What a solved cell is for: a rebuild fills the spare range; a cell of this device restores its frame's half; an adoption
keeps it. -/
def State.cellSolved (s : State) (x : CellRead) (d : List Byte) : State :=
  let key := cellKey x.group x.row x.cell x.half
  if x.purpose = 0 then
    let s1 := s.modPool (fun p => { p with spare := SMap.set (fun _ => []) p.spare key d })
    if x.cell = 127 && x.half = 1 then
      let s2 := s1.setFld PL_RBLEFT.ROWS (s1.fld PL_RBLEFT.ROWS - 1)
      if s2.fld PL_RBLEFT.ROWS = 0 then (s2.clrBit PL_STAT.REBUILD).modPool (fun p => { p with rebuildOf := none }) else s2
    else s1
  else if x.purpose = 1 then
    let s1 := s.modPool (fun p => { p with adopted := SMap.set (fun _ => []) p.adopted key d })
    let a := SMap.get (fun _ => []) s1.pool.adopted (cellKey x.group x.row x.cell 0)
    let b := SMap.get (fun _ => []) s1.pool.adopted (cellKey x.group x.row x.cell 1)
    if a = [] || b = [] then s1
    else
      let s2 := s1.modPool (fun p => { p with adopted := SMap.set (fun _ => []) (SMap.set (fun _ => []) p.adopted (cellKey x.group x.row x.cell 0) []) (cellKey x.group x.row x.cell 1) [] })
      s2.poolFrame x.pfn (a ++ b)
  else s.modPool (fun p => { p with adopted := SMap.set (fun _ => []) p.adopted key d })

/-- A row whose cell cannot be solved (R529): counted and recorded; this device's own blocks of it turn bad. -/
def State.rowLost (s : State) (x : CellRead) : State :=
  let s1 := (s.bump PL_RB.LOSTROWS).record 0x1203 (leBytes 4 x.group ++ leBytes 4 x.row)
  let s2 := if x.purpose = 1 then
      s1.each (s1.map.map.filterMap (fun e => match e.2 with
        | .media q _ => if q == x.pfn then some e.1 else none
        | _ => none)) (fun t i => t.jq (.dealloc (i * t.gran) t.gran 1))
    else s1
  s2.dataFault

/-- An adopter asks for the cell half after `x`'s of the same group. -/
def State.adoptNext (s : State) (x : CellRead) (src pos : Nat) : State :=
  let n := (x.row * 128 + x.cell) * 2 + x.half + 1
  let y : CellRead := ⟨x.group, n / 256, n / 2 % 128, n % 2, x.target, 2, 0, []⟩
  (s.modPool (fun q => { q with reads := q.reads ++ [y] })).ewSend 0x20 src 0 (creadBody y.group y.row y.cell y.half pos)

/-- The PFN of cell `n` of this member's chunk space (R514). -/
def State.chunkPfn (s : State) (n : Nat) : Option Nat :=
  let k? := (List.range s.nBandSets).find? (fun k => n < (List.range (k + 1)).foldl (fun m j => m + s.chunkCells j) 0)
  k?.bind (fun k =>
    let i := n - (List.range k).foldl (fun m j => m + s.chunkCells j) 0
    let w := Nat.max 1 (Nat.max 2 (s.bandSet k).width - 2)
    (s.memberPfns k (i / w))[i % w]?)

/-- The cell of this member's chunk space that a cell of group `g` is (R516). -/
def State.chunkCell (s : State) (g row cell : Nat) : Nat :=
  128 * (row * s.pdata + ((s.dataGroups s.plId).findIdx? (· == g)).getD 0) + cell

/-- A restored cell takes its place in this device's chunk space. Only payload has travelled, so the frame's TAG and SEQ, which the
rebuild of the map reads, are free values (assumption 113). -/
def State.adoptFrame (s : State) (g row cell : Nat) : State :=
  let half := fun (h : Nat) => SMap.get (fun _ => []) s.pool.adopted (cellKey g row cell h)
  match s.chunkPfn (s.chunkCell g row cell) with
  | none => s
  | some p =>
    if half 0 = [] || half 1 = [] then s
    else
      let f : Frame := ⟨0, (Config.freeValue s.freeIdx).toNat, (Config.freeValue (s.freeIdx + 1)).toNat, frameSlots (half 0 ++ half 1)⟩
      { (s.modMap (fun m => { m with media := SMap.set (fun _ => none) m.media p (some f) })) with freeIdx := s.freeIdx + 2 }

/-- The write groups that the copies retained here for member `id` hold, oldest SEQ first, are journaled anew as this device's own: they
take precedence over what the headers gave (R528 step 3). -/
def State.applyRetained (s : State) (id : Nat) : State :=
  let mine := s.pool.retained.filter (fun x => x.1 == id)
  let seqs := sortIds (mine.map (fun x => leAt x.2.1 8 8)).eraseDups
  let group := fun (q : Nat) =>
    let xs := mine.filter (fun x => leAt x.2.1 8 8 == q)
    let r := ((xs.head?).map (fun x => x.2.1)).getD []
    let d := xs.flatMap (fun x => x.2.2)
    ({ owner := none, gblk := leAt r 16 8, nblk := leAt r 24 2, nsid := leAt r 26 2, zone := none, data := blocksOf (d.length / 4096) d, last := false, result := 0 } : Group)
  s.modMap (fun m => { m with groups := m.groups ++ seqs.map group })

/-- Every chunk has been read (R528 steps 2 to 4): the cells take their places, the map is rebuilt from the headers, retained copies are
applied, and this device contributes as a member at its positions. -/
def State.adoptDone (s : State) : State :=
  let keys := (s.pool.adopted.map (fun x => x.1 / 2)).eraseDups
  let s1 := s.each keys (fun t k => t.adoptFrame (k / 2 ^ 39) (k / 128 % 2 ^ 32) (k % 128))
  let s2 := (List.range s1.nseg).foldl (fun t k => t.headerScan k) s1
  let s3 := (s2.applyRetained s2.plId).modPool (fun p => { p with
    adopted := [], retained := p.retained.filter (fun x => x.1 != s.plId), members := p.members.map (fun m => if m.id == s.plId then { m with failed := false } else m) })
  (((s3.clrBit PL_STAT.ADOPT).when (s3.plState == plStandby || s3.plState == plIsolated) (fun t => t.setFld PL_STAT.STATE plReconciling)).poolSettle).plSync

/-- An answer to an adopter's read (R528 step 1): the cell half is kept and the next one of the group asked for; a chunk whose first half
the substitute does not hold ends the group, and the last group ends the reading. -/
def State.adoptCell (s : State) (x : CellRead) (src pos : Nat) (d : Option (List Byte)) : State :=
  match d with
  | none =>
    if x.cell = 0 && x.half = 0 then (if s.pool.reads.any (fun z => z.purpose == 2) then s else s.adoptDone)
    else s.adoptNext x src pos
  | some v =>
    (s.modPool (fun p => { p with adopted := SMap.set (fun _ => []) p.adopted (cellKey x.group x.row x.cell x.half) v })).adoptNext x src pos

def State.cdata (s : State) (h : EwHdr) (c : EwCell) (pos : Nat) (lost : Bool) (d : List Byte) : State :=
  s.ewAccept h 0x21 (fun t =>
    match t.pool.reads.find? (fun x => x.group == c.group && x.row == c.row && x.cell == c.cell && x.half == c.half && x.target != pos) with
    | none => t
    | some x =>
      if x.purpose = 2 then
        (t.modPool (fun p => { p with reads := p.reads.filter (fun z => !(z == x)) })).adoptCell x h.src pos (if lost then none else some (slice d 0 8192))
      else
      let y : CellRead := { x with got := x.got.filter (fun g => g.1 != pos) ++ [(pos, if lost then none else some (slice d 0 8192))] }
      if y.got.length < t.poolW - 1 then t.modPool (fun p => { p with reads := p.reads.map (fun z => if z == x then y else z) })
      else
        let t1 := t.modPool (fun p => { p with reads := p.reads.filter (fun z => !(z == x)) })
        match t1.solveCell y with
        | some v => t1.cellSolved y v
        | none => t1.rowLost y)

def execCdata (h : EwHdr) (c : EwCell) (pos : Nat) (lost : Bool) (data : List Byte) (s : State) : Host.Outcome State Fault Refusal :=
  .next (s.whileLive (fun s => State.standbyStep ((s.cdata h c pos lost data))))

/-- Rows of the parity range, a row of every chunk of a data position; and rows that fit the spare range, what the parity range and the
retained range leave of the pool namespace (R517, R518). -/
def State.parityRows (s : State) : Nat :=
  let cells := (List.range s.nBandSets).foldl (fun n k => n + s.chunkCells k) 0
  ((cells + 127) / 128 + Nat.max 1 s.pdata - 1) / Nat.max 1 s.pdata

def State.spareRows (s : State) : Nat := (s.capBlk - s.hostBlocks - 1048576 - 1024 * s.parityRows) / 512

/-- The row of a group has a place in the spare range, or there is room for one. -/
def State.spareRoom (s : State) (g r : Nat) : Bool :=
  let rows := (s.pool.spare.map (fun x => (keyGroup x.1, keyRow x.1))).eraseDups
  rows.contains (g, r) || rows.length < s.spareRows

/-- One cell of a row is rebuilt: the substitute reads the surviving positions (R525). Where its spare range is full the rows wait
(R526). -/
def State.poolRebuild (s : State) (g r c : Nat) : State :=
  match s.pool.rebuildOf with
  | none => s
  | some f =>
    if !s.poolOn || s.substitute g != some s.plId then s
    else if !s.spareRoom g r then s.setBit PL_STAT.SPAREOUT
    else match s.posIn? g f with
    | none => s
    | some t => ((s.readRow g r c 0 t 0 0).readRow g r c 1 t 0 0)

def execPoolRebuildRow (group row cell : Nat) (s : State) : Host.Outcome State Fault Refusal := .next (s.whileLive (fun s => s.poolRebuild group row cell))

/-! ### Time and network (R502 to R506, R512) -/

/-- The port whose timestamps the clock uses: 0, or 1 while port 0 is down (R506). -/
def State.ptpPort (s : State) : Nat := if s.bit PL_STAT.LINK0 then 0 else 1

/-- A PTP message: the offset it gives pool time, and the error measured against the grandmaster. -/
def State.ptp (s : State) (port : Nat) (toff err : Int) : State :=
  let s1 := (s.modPool (fun p => { p with toff := toff })).setFld PL_TOFF_LO.OFFSET (toTwos 64 toff % 2 ^ 32)
  (((s1.setFld PL_PTP.PORT port).setFld PL_PTP.ABSOFF (Nat.min 0xFFFF err.natAbs)).setFld PL_PTP.LOCKED (if err.natAbs ≤ 1000 then 1 else 0)).clrBit PL_STAT.HOLDOVER

def execPtpMessage (port : Nat) (toff err : Int) (s : State) : Host.Outcome State Fault Refusal :=
  .next (s.whileLive (fun s => if s.poolOn && port == s.ptpPort then s.ptp port toff err else s))

/-- No Announce for 6 s: the last offset is held. -/
def execAnnounceTimeout (s : State) : Host.Outcome State Fault Refusal :=
  .next (s.whileLive (fun s => if s.poolOn then (s.clrBit PL_PTP.LOCKED).setBit PL_STAT.HOLDOVER else s))

def execPpsSecond (s : State) : Host.Outcome State Fault Refusal :=
  .next (s.whileLive (fun s => if s.bit PL_PTP.LOCKED || s.bit PL_STAT.HOLDOVER then s.modPins (fun p => { p with etPps := p.etPps + 1 }) else s))

/-- A link changes: hardware timestamps move to port 1 while port 0 is down (R505, R506). -/
def execEthernetLinkChange (port : Nat) (up : Bool) (s : State) : Host.Outcome State Fault Refusal :=
  .next (s.whileLive (fun t =>
    let s1 := t.setFld (if port = 0 then PL_STAT.LINK0 else PL_STAT.LINK1) (if up then 1 else 0)
    s1.setFld PL_PTP.PORT (if s1.bit PL_STAT.LINK0 then 0 else if s1.bit PL_STAT.LINK1 then 1 else s1.fld PL_PTP.PORT)))

def State.netReply (s : State) (o : NetOut) : State := if s.poolOn then s.modPool (fun p => { p with out := p.out ++ [o] }) else s

def execNeighborDiscovery (port : Nat) (s : State) : Host.Outcome State Fault Refusal := .next (s.whileLive (fun s => s.netReply (.neighbor port)))
def execIcmpv6EchoRequest (port : Nat) (s : State) : Host.Outcome State Fault Refusal := .next (s.whileLive (fun s => s.netReply (.echo port)))

/-- The groups joined are reported (R504). -/
def execMldQuery (port : Nat) (s : State) : Host.Outcome State Fault Refusal :=
  .next (s.whileLive (fun s => s.netReply (.mldReport port s.groupsJoined)))

def execEweridDatagramDropped (s : State) : Host.Outcome State Fault Refusal := .next (s.whileLive (fun s => if s.isServing .DP then s.bump PL_RX.DROP else s))

/-! ### Ring commands -/

/-- Pool re-layout (R507): the pool head forms a new epoch of every member it knows; any other device refuses it. -/
def State.relayout (s : State) (r tag : Nat) : State :=
  s.ringStart r tag 0x0D (fun t _ =>
    if !t.poolOn || t.fld PL_STAT.ROLE != 2 then t.ringEnd r tag rsRefused none
    else
      let ids := t.idTable ((t.pool.members.filter (fun m => !m.failed)).map (fun m => (m.id, m.ident)))
      let ep := t.fld PL_EPOCH.EPOCH + 1
      (((t.setFld PL_EPOCH.EPOCH ep).adoptLayout ep (ids.map (fun i => (i, false)))).sendLayout).ringEnd r tag rsSuccess none)

def execPoolRelayout (ring tag : Nat) (s : State) : Host.Outcome State Fault Refusal := .next (s.whileLive (fun s => s.relayout ring tag))

/-- Pool adopt (R528): this device takes a Failed member's ID and reads its restored chunks from the substitutes. -/
def State.adoptMember (s : State) (r tag : Nat) : State :=
  s.ringStart r tag 0x0E (fun t d =>
    let id := d.p 0 2
    if !t.poolOn || !t.memberFailed id then t.ringEnd r tag rsRefused none
    else
      (t.adoptBegin id).ringEnd r tag rsSuccess none)

def execPoolAdopt (ring tag : Nat) (s : State) : Host.Outcome State Fault Refusal := .next (s.whileLive (fun s => s.adoptMember ring tag))

end Sys2Proof.Machine
end

