-- ==== Sys2Proof/Machine/Power.lean ====
section
/-! DEFINITION. The supply and power-state commands (R48, R87 to R110). -/
namespace Sys2Proof.Machine

/-! ### Power-on reset and the rail sequence (R89 to R92) -/

/-- PORST_L rises: every register is at its reset value, the tick counter at 0 (R57), the repeat of R91 not yet used.
`powerOn` says that the logic was unpowered or VM below 3.0 V during the reset; `tpEn` is the level of TP_EN (R644). -/
def State.porstRise (s : State) (powerOn tpEn : Bool) : State :=
  if s.power.porst then s
  else
    let s1 := { s.rebooted with tick := 0 }
    let s2 := (s1.setFld PW_STAT.RSTCAUSE (if powerOn then 0 else 1)).setFld SC_STAT.TESTMODE (if tpEn then 1 else 0)
    (s2.modPower (fun p => { p with porst := true })).enableRail 0

def execPorstLRise (powerOn tpEn : Bool) (s : State) : Host.Outcome State Fault Refusal := .next (s.porstRise powerOn tpEn)

/-- The rail just enabled is in range. Once the device runs, only VANA can have left its range and come back (R93): this says that it
has (DESIGN CHOICE, assumption 96). -/
def State.railInRange (s : State) : State :=
  match s.power.phase with
  | .waitRail n => (s.railOk n true).modPower (fun p => { p with phase := .dwell n })
  | .done => s.railOk 1 true
  | _ => s

def execSeqRailInRange (s : State) : Host.Outcome State Fault Refusal := .next s.railInRange

/-- The dwell is over: the next rail, or the boot. `failed` is what the units' self-check finds at the boot. -/
def State.dwellEnd (s : State) (failed : Nat) : State :=
  match s.power.phase with
  | .dwell n => if n < 5 then s.enableRail (n + 1) else s.bootStart failed
  | _ => s

def execSeqDwellEnd (failed : Nat) (s : State) : Host.Outcome State Fault Refusal := .next (s.dwellEnd failed)

/-- A sequence failure (R91): the first leads to the repeat, the second to the hold with FAULT_L asserted. -/
def State.railTimeout (s : State) : State :=
  match s.power.phase with
  | .waitRail n =>
    let s1 := s.railsOff.setFld PW_STAT.SEQRAIL n
    if s.power.attempt = 1 then s1.modPower (fun p => { p with phase := .retryWait, failRecord := some n })
    else ((s1.modPower (fun p => { p with phase := .hold })).setBit FB_STAT.FAULTL).modPins (fun p => { p with faultL := true })
  | _ => s

def execSeqRailTimeout (s : State) : Host.Outcome State Fault Refusal := .next s.railTimeout

/-- 100 ms after a first failure the sequence is repeated once. -/
def State.retryRails (s : State) : State :=
  match s.power.phase with
  | .retryWait => (s.modPower (fun p => { p with attempt := 2 })).enableRail 0
  | _ => s

def execSeqRetryTimer (s : State) : Host.Outcome State Fault Refusal := .next s.retryRails

/-- The highest output that is high. -/
def State.topSeq (s : State) : Option Nat := (List.range 6).reverse.find? (fun n => s.pins.seq.getLsbD n)

/-- PORST_L falls: retract (R104), gates closed, links down, FAULT_L released (R91), outputs low from the highest down (R92).
Registers keep their values until PORST_L rises. -/
def State.porstFall (s : State) : State :=
  if !s.power.porst then s
  else
    let s1 := ((s.closeAllGates.retractTrigger.linkDown 0).linkDown 1).modPins Pins.held
    let s2 := ((s1.clrBit FB_STAT.FAULTL).modPins (fun p => { p with faultL := false })).modPower (fun p => { p with porst := false, hibernate := false, supplyReset := false })
    match s.power.phase, s2.topSeq with
    | .done, _ => s2.powerDown
    | .down _, _ => s2
    | _, some n => (s2.disableRail n).modPower (fun p => { p with phase := .down n })
    | _, none => s2.modPower (fun p => { p with phase := .off })

def execPorstLFall (s : State) : Host.Outcome State Fault Refusal := .next s.porstFall

/-- The next output falls; with the last rail gone the device is off, or in Hibernate (R108, R110). -/
def State.downStep (s : State) : State :=
  match s.power.phase with
  | .down 0 => s.modPower (fun p => { p with phase := .off, hibernate := p.porst && p.hibernatePending, hibernatePending := false })
  | .down (n + 1) => (s.disableRail n).modPower (fun p => { p with phase := .down n })
  | _ => s

def execPowerdownRailFallen (s : State) : Host.Outcome State Fault Refusal := .next s.downStep
def execPowerdownStepTimeout (s : State) : Host.Outcome State Fault Refusal := .next s.downStep

/-! ### Rail monitors (R93 to R95) -/

/-- VANA (R93): a domain fault in DA and DB, LS idle. -/
def State.vanaTrip (s : State) : State := ((((s.railOk 1 false).domainFault .DA 5).domainFault .DB 5).laneOff 8).domSettle.standbyStep

/-- VSER (R93): both links down, a domain fault in DP. -/
def State.vserTrip (s : State) : State :=
  (((((s.railOk 2 false).modPower (fun p => { p with vserDown := true })).linkDown 0).linkDown 1).domainFault .DP 5).domSettle.standbyStep

/-- The rail is in its range and watched: VCORE and VIO always, a sequenced rail from the time it has come into range. -/
def State.railWatched (s : State) (r : Rail) : Bool :=
  let ok := fun (n : Nat) => s.fldBit PW_STAT.RAILOK n
  s.power.porst && !s.power.supplyReset && (match r with
    | .vcore => true
    | .vio => true
    | .vmr => ok 0
    | .vana => ok 1
    | .vser => ok 2
    | .vhbmP => ok 3
    | .vhbmD => ok 4
    | .vhbmQ => ok 5)

/-- A rail monitor trips (R93). -/
def State.railTrip (s : State) (r : Rail) : State :=
  if !s.railWatched r then s
  else match r with
    | .vana => s.vanaTrip
    | .vser => s.vserTrip
    | _ => s.supplyReset

def execRailMonitorTrip (r : Rail) (s : State) : Host.Outcome State Fault Refusal := .next (s.railTrip r)

/-- Every checked rail in range for 10 ms: the rails sequence again. `vmLow`: VM was below 3.0 V during the reset. -/
def State.supplyRelease (s : State) (vmLow : Bool) : State :=
  if !s.power.supplyReset then s
  else ((s.setFld PW_STAT.RSTCAUSE (if vmLow then 0 else 2)).modPower (fun p => { p with supplyReset := false })).enableRail 0

def execSupplyResetRelease (vmLow : Bool) (s : State) : Host.Outcome State Fault Refusal := .next (s.supplyRelease vmLow)

/-- VSER back for 10 ms: each link whose port is out of PERST trains again. -/
def State.retrain (s : State) : State :=
  if !s.power.vserDown then s
  else ((s.railOk 2 true).modPower (fun p => { p with vserDown := false })).trainLinks

def execVserLinkRetrain (s : State) : Host.Outcome State Fault Refusal := .next s.retrain

/-! ### The VM monitor (R96 to R102) -/

/-- VM falls through 5.6 V: calibration runs are abandoned (R435). A thermal shutdown freezes the VM state (R102). -/
def State.vmWarn (s : State) : State :=
  if !s.watching then s
  else
    let s1 := ((s.setBit PW_STAT.VMWARN).modPower (fun p => { p with vmGood := false })).abandonRuns (fun _ => true)
    if s.power.frozen then s1
    else if s.vmState = vmNormal then s1.rideBegin
    else if s.vmState = vmWait then (s1.setFld PW_STAT.VMSTATE vmRide).modPower (fun p => { p with msTimer := false })
    else s1

def execVmWarning (s : State) : Host.Outcome State Fault Refusal := .next s.vmWarn

def State.vmClear (s : State) : State :=
  if s.vmState = vmRide ∧ !s.power.frozen then (s.setFld PW_STAT.VMSTATE vmWait).modPower (fun p => { p with msTimer := true }) else s

def execVmWarningClear (s : State) : Host.Outcome State Fault Refusal := .next s.vmClear

def State.waitOver (s : State) : State :=
  if s.vmState = vmWait ∧ s.power.msTimer then ((s.modPower (fun p => { p with vmGood := true })).rideEnd 0).vmToNormal else s

def execRecoveryWaitExpiry (s : State) : Host.Outcome State Fault Refusal := .next s.waitOver

/-- The 10 s ride timer: both actuators park, and commands are handled as in R39 (R98); ALERT_L follows FB_ALERT.VMRIDE (R660). -/
def State.rideOver (s : State) : State :=
  if (s.vmState = vmRide ∨ s.vmState = vmWait) ∧ s.power.rideTimer then (((s.rideEnd 1).setFld PW_STAT.VMSTATE vmParked).modPower (fun p => { p with mediaHold := false })).parkHold.resumeReads else s

def execRideTimerExpiry (s : State) : Host.Outcome State Fault Refusal := .next s.rideOver

/-- VM loss (R48, R99): gates, retract, MRAM write admission; the ride-through ends, calibration runs are abandoned (R435), and media
commands are handled as in R39 from this tick. -/
def State.vmGone (s : State) : State :=
  if !s.watching then s
  else
    let s1 := s.closeAllGates.retractTrigger.rideEnd 2
    let go := s1.journalAdmits
    let s1 := (s1.modMap (fun m => { m with started := go && m.issue != [] })).modTier (fun t => { t with started := go && t.queue != [] })
    let s2 := ((s1.clrBit MJ_STAT.ADMIT).setBit PW_STAT.VMLOSS).setFld PW_STAT.VMSTATE vmLost
    (((s2.modPower (fun p => { p with frameBar := true, mediaHold := p.frozen, lossOpen := true, vmGood := false })).abandonRuns (fun _ => true)).holdFrom).resumeReads

def execVmLoss (s : State) : Host.Outcome State Fault Refusal := .next s.vmGone

/-- VM above warning clear for 1 ms: a spindle start is no longer refused for it (R97), and Parked hold or VM lost ends (R98). During a
thermal shutdown only MRAM writes are admitted again (R102). -/
def State.vmUp (s : State) : State :=
  if !s.watching then s
  else
    let s1 := s.modPower (fun p => { p with vmGood := true })
    if s1.power.frozen then s1.when (s1.vmState == vmLost) (fun t => t.setBit MJ_STAT.ADMIT)
    else if s1.vmState = vmParked then s1.vmToNormal.restoreBoth
    else if s1.vmState = vmLost then (s1.vmToNormal.when (s1.acc.applied != []) State.wantSpin).restoreBoth
    else s1

def execVmRestored (s : State) : Host.Outcome State Fault Refusal := .next s.vmUp

/-- The 100 µs measurement of VM, in mV: PW_VM; VMIN reads 0 until the first one after a read. -/
def State.vmMeasure (s : State) (mv : Nat) : State :=
  if !s.watching then s
  else
  let s1 := s.setFld PW_VM.VM mv
  (s1.keepBest PW_VM.VMIN leastSeen (s1.fld PW_VM.VM)).sample 0x07 (fun i => i == 0) (s1.fld PW_VM.VM : Nat)

def execVmMeasurement (mv : Nat) (s : State) : Host.Outcome State Fault Refusal := .next (s.vmMeasure mv)

/-! ### Idle and Hibernate (R109, R110) -/

/-- 50 ms without media work: assist off, lanes idle but for servo demodulation; calibration runs are abandoned (R435). -/
def State.goIdle (s : State) : State :=
  if s.pwState != pwActive || s.mediaBusy || s.power.standbyPending then s
  else
    let reading := lanes9.filter (fun l => s.lnState l == lnReading)
    ((s.closeAllGates.abandonRuns (fun _ => true)).each reading (fun t l => t.setFld (LN_STAT.STATE l) lnServo)).setFld PW_STAT.STATE pwIdle

def execIdleTimerExpiry (s : State) : Host.Outcome State Fault Refusal := .next (s.whileLive (fun s => s.goIdle))

def execHibernateWake (s : State) : Host.Outcome State Fault Refusal := .next s.wakeHibernate

/-! ### Time (DESIGN CHOICE, assumption 1) -/

/-- One ordering tick of 40 ns passes (R56, R57); the counter stands while PORST_L is low. -/
def State.passTick (s : State) : State := if s.power.porst then { s with tick := s.tick + 1, tickMem := ⟨s.regs, [], [], []⟩ } else s

end Sys2Proof.Machine
end

