-- ==== Sys2Proof/Machine/Registers.lean ====
section
/-! DEFINITION. Register access by the host (R12 to R17, R36, R670), the 64-bit counters (R76), the reference (R59, R60) and the
helper-rate measurement (R73). -/
namespace Sys2Proof.Machine

/-! ### What a register shows -/

/-- DM_ACT: a byte for each mover. -/
def State.dmActive (s : State) : Nat :=
  (List.range 4).foldl (fun n m =>
    match (List.range 16).find? (fun c => s.dmState (16 * m + c) == dmRunning) with
    | some c => n + (0x80 + c) * 256 ^ m
    | none => n) 0

/-- The set that CL_CSEL selects, where it has been calibrated (R436). -/
def State.shownSet (s : State) : Option ChanSet :=
  s.chanSet? (setKey (s.fld CL_CSEL.HEAD) (s.fld CL_CSEL.READER) (s.fld CL_CSEL.ZONE))

/-- Two ten-bit values in bits 9:0 and 25:16. -/
def pair10 (lo hi : Nat) : Nat := lo % 1024 + hi % 1024 * 65536

/-- CL_CS0 to CL_CS3 and CL_CSFIR0 to CL_CSFIR7 by offset from CL_CS0. -/
def ChanSet.word (c : ChanSet) (off : Nat) : Nat :=
  if off = 0 then c.boost % 256 + c.cutoff % 256 * 256 + c.start % 256 * 65536 + c.syncth % 64 * 2 ^ 24 + 2 ^ 31
  else if off = 4 then pair10 c.g1 c.g2
  else if off = 8 then c.early1 % 32 + c.early2 % 32 * 256 + c.nweight % 65536 * 65536
  else if off = 12 then c.tint % 256 * 65536 + c.tj % 256 * 2 ^ 24
  else if 0x1C ≤ off then pair10 ((c.taps[(off - 0x1C) / 2]?).getD 0) ((c.taps[(off - 0x1C) / 2 + 1]?).getD 0)
  else 0

/-- Bits of the armed gauges from `g` on. -/
def State.armedBits (s : State) (g : Nat) : Nat :=
  (List.range 32).foldl (fun n k => if s.bit (GA_CTL.ARMED (g + k)) then n + 2 ^ k else n) 0

/-- The image AC_WIN shows (R135, R138). -/
def State.shownImage (s : State) : List Byte := s.acc.prev.getD s.acc.applied

/-- The push window of the rings (R586, R587). -/
def inPushWindow (addr : Nat) : Bool := inRange addr 0x131000 0x1317FF

/-- The word a read of the register at `addr` returns (R13 to R15, R52). -/
def State.regView (s : State) (addr : Nat) : Word32 :=
  let n := fun (v : Nat) => BitVec.ofNat 32 v
  let mix := fun (f : Fld) (v : Nat) => f.intoWord (s.reg addr) v
  if addr = TB_CNT_LO.REG.addr then n s.tick
  else if addr = PL_TOFF_LO.REG.addr then n (toTwos 64 s.pool.toff)
  else if inRange addr 0x30100 0x301FF then
    (if acImgLen s.shownImage ≤ s.fld AC_CURSOR.PAGE * 256 + (addr - 0x30100) then 0 else n (leAt s.shownImage (s.fld AC_CURSOR.PAGE * 256 + (addr - 0x30100)) 4))
  else if inRange addr 0x160100 0x1601FF then n (leNat (s.silView (s.fld SL_CURSOR.OFFSET * 8 + (addr - 0x160100)) 4))
  else if inRange addr 0xF0044 0xF007F then (match s.shownSet with
    | some c => n (c.word (addr - 0xF0044))
    | none => 0)
  else if addr = DM_ACT.REG.addr then n s.dmActive
  else if addr = DD_SSAGE.REG.addr then mix DD_SSAGE.AGE s.oldestAge
  else if inRange addr 0x130008 0x130017 then n ((Config.nonce s.rings.nonceIdx).toNat / 2 ^ (8 * (addr - 0x130008)))
  else if addr = GA_ARMED_LO.REG.addr then n (s.armedBits 0)
  else if addr = GA_ARMED_HI.REG.addr then n (s.armedBits 32)
  else if addr = FB_ALERT.REG.addr then
    n (s.alertLatched * 8 + (if s.alertSpare then 4 else 0) + (if s.alertVmride then 2 else 0) + (if s.alertThermal then 1 else 0))
  else if addr = SP_STAT.REG.addr then mix SP_STAT.WEDGESPD (if s.wedgeSpeed.isSome then 1 else 0)
  else if addr = EB_PLCA.REG.addr then
    (if s.acc.applied.isEmpty then s.reg addr else EB_PLCA.NODE.intoWord (mix EB_PLCA.COUNT s.plcaCount) s.plcaNode)
  else if addr = FB_STAT.REG.addr then mix FB_STAT.ALERTL (if s.alertAsserted then 1 else 0)
  else if (regRow? addr).isNone then 0
  else s.reg addr

/-! ### Reads -/

/-- A read of a LO half latches the HI half (R76). -/
def State.latchHi (s : State) (addr : Nat) : State :=
  if addr = TB_CNT_LO.REG.addr then s.setFld TB_CNT_HI.COUNT (s.tick / 2 ^ 32)
  else if addr = MP_JSEQ_LO.REG.addr then s.setFld MP_JSEQ_HI.SEQ (s.map.jseq / 2 ^ 32)
  else if addr = PL_TOFF_LO.REG.addr then s.setFld PL_TOFF_HI.OFFSET (toTwos 64 s.pool.toff / 2 ^ 32)
  else s

/-- The registers whose RC fields keep a least or a greatest value: TB_SPEED, PW_VM, SV_MA, SV_SLACK, DD_SSAGE and TH_PEAK. -/
def keepsExtreme (addr : Nat) : Bool :=
  [TB_SPEED.REG.addr, PW_VM.REG.addr, DD_SSAGE.REG.addr, TH_PEAK.REG.addr].contains addr ||
    [0, 1].any (fun i => addr == (SV_SLACK.REG i).addr || (List.range 4).any (fun j => addr == (SV_MA.REG i j).addr))

/-- What an RC field holds after a read: its reset value and what the events of this tick have given it (R15, R17): the counts made
in this tick, or the least or greatest of its samples. -/
def State.rcAfter (s : State) (addr : Nat) (f : RegField) : Nat :=
  let g : Fld := ⟨addr, f.hi, f.lo⟩
  if keepsExtreme addr then (if s.fldSet g = 0 then f.reset else s.fldGain g) else Nat.min (f.reset + s.fldGain g) g.max

/-- Every RC field of the register as a read leaves it. -/
def State.readClears (s : State) (addr : Nat) : State :=
  match regRow? addr with
  | some r => s.each (r.fields.filter (fun f => f.acc == .rc)) (fun t f =>
    let g : Fld := ⟨addr, f.hi, f.lo⟩
    (t.setFld g (t.rcAfter addr f)).setThen g f.reset)
  | none => s

/-- The word a read returns: RC fields as the tick found them (R17), the rest as they are. -/
def State.readWord (s : State) (addr : Nat) : Word32 :=
  match regRow? addr with
  | some r => (r.fields.filter (fun f => f.acc == .rc)).foldl (fun w f => (⟨addr, f.hi, f.lo⟩ : Fld).intoWord w (s.fldThen ⟨addr, f.hi, f.lo⟩)) (s.regView addr)
  | none => s.regView addr

/-- The registers that `len` bytes at `addr` touch, ascending (R12). -/
def regsTouched (addr len : Nat) : List Nat := (wordSpan4 addr len).map (4 * ·)
where
  wordSpan4 (addr len : Nat) : List Nat := if len = 0 then [] else List.range' (addr / 4) ((addr + len - 1) / 4 - addr / 4 + 1)

/-- One register read in full, with its side effects; its bytes are appended to what is returned. -/
def State.readOne (s : State) (addr : Nat) : State :=
  let v := s.readWord addr
  { (s.latchHi addr).readClears addr with readOut := s.readOut ++ leBytes 4 v.toNat }

/-- A read of `len` bytes at `addr` (R12): `readOut` holds the addressed bytes. -/
def State.regRead (s : State) (addr len : Nat) : State :=
  let s1 := ({ s with readOut := [] } : State).each (regsTouched addr len) State.readOne
  { s1 with readOut := slice s1.readOut (addr % 4) len }

def execRegisterReadClear (addr len : Nat) (s : State) : Host.Outcome State Fault Refusal := .next (s.whileLive (fun s => s.regRead addr len))

/-- The address of a counter's LO half. -/
def loAddr : Counter64 → Nat
  | .tb => TB_CNT_LO.REG.addr
  | .mpJseq => MP_JSEQ_LO.REG.addr
  | .plToff => PL_TOFF_LO.REG.addr

def execCounterLoRead (c : Counter64) (s : State) : Host.Outcome State Fault Refusal := .next (s.whileLive (fun s => s.regRead (loAddr c) 4))

/-! ### Writes -/

/-- The domain that a register belongs to, where it can be serviced (R24 to R27, R51). -/
def State.regDom (s : State) (addr : Nat) : Option Dom :=
  let b := addr / 0x10000
  if b = 4 ∨ b = 5 then
    (match s.heDom ((addr - 0x40000) / 0x1000) with
     | .svc d => some d
     | _ => none)
  else if b = 0xB ∨ b = 0xC then some (if addr % 0x10000 < 0x8000 then .DA else .DB)
  else if b = 0xD then
    (if addr % 0x10000 < 0x8000 then some (domOfAct (s.lnAct (addr % 0x10000 / 0x1000))) else none)
  else if b = 0x12 then some .DP
  else if b = 0x14 then some .DE
  else none

/-- The write is discarded: the register's domain is not Serving (R36). -/
def State.writeBarred (s : State) (addr : Nat) : Bool :=
  match s.regDom addr with
  | some d => !s.isServing d
  | none => false

/-- The ring that a register at `addr` configures. -/
def ringAt (addr : Nat) : Option Nat := if inRange addr 0x130100 0x1302FF then some ((addr - 0x130100) / 0x40) else none

/-- A field takes the write now (R587, R670). SR_CFGr.EN, SR_DBr and SR_PUSHCNTr have commands of their own. -/
def State.takesWrite (s : State) (addr : Nat) (f : RegField) : Bool :=
  let disabled := fun (r : Nat) => s.fld (SR_STAT.STATE r) == rgDisabled
  if s.bit FB_STAT.BASENOTE then
    f.acc == .w1c || (f.acc == .rw && (addr == SL_CURSOR.REG.addr || addr == AC_CURSOR.REG.addr || addr == CL_CSEL.REG.addr))
  else if f.acc == .w1c || f.acc == .w1s then true
  else if f.acc != .rw then false
  else if inRange addr 0x130000 0x130007 then (List.range 8).all disabled
  else match ringAt addr with
    | some r => if f.lo = 31 then false else if f.lo = 0 ∧ f.hi = 0 then true else disabled r
    | none => true

/-- What the field comes to (R15). The low 12 bits of a ring's or the index page's LO address read 0. A W1C bit that was set in this
tick, `seen`, stays set (R16). -/
def fieldWritten (addr : Nat) (f : RegField) (seen old new : Nat) : Nat :=
  match f.acc with
  | .rw => if addr / 0x10000 = 0x13 ∧ f.hi = 31 ∧ f.lo = 0 ∧ addr % 8 = 0 then new / 4096 * 4096 else new
  | .w1c => Nat.lor (Nat.land old (Nat.xor new (2 ^ (f.hi - f.lo + 1) - 1))) (Nat.land old seen)
  | .w1s => Nat.lor old new
  | _ => old

/-- A whole register is written with `w`. -/
def State.writeWord (s : State) (addr : Nat) (w : Word32) : State :=
  if s.writeBarred addr then s
  else if addr = HM_BLTCTL.REG.addr then s.bltWrite w
  else match regRow? addr with
    | some r =>
      s.each (r.fields.filter (fun f => s.takesWrite addr f)) (fun t f =>
        let g : Fld := ⟨addr, f.hi, f.lo⟩
        t.setFld g (fieldWritten addr f (t.fldSet g) (t.fld g) (g.ofWord w)))
    | none => if inPushWindow addr && !s.bit FB_STAT.BASENOTE then s.setReg addr w else s

/-- A write of bytes at `addr`: each register whose four bytes are all covered is written (R12). -/
def State.regWrite (s : State) (addr : Nat) (data : List Byte) : State :=
  s.each (regsTouched addr data.length) (fun t a =>
    if addr ≤ a ∧ a + 4 ≤ addr + data.length then t.writeWord a (BitVec.ofNat 32 (leAt data (a - addr) 4)) else t)

def execRegisterWrite (addr : Nat) (data : List Byte) (s : State) : Host.Outcome State Fault Refusal := .next (s.whileLive (fun s => s.regWrite addr data))

/-! ### The timebase -/

/-- The reference is lost (R59): the internal oscillator, gates closed, both actuators parked. -/
def State.refLost (s : State) : State :=
  if !s.awake || s.bit TB_STAT.REFSRC then s
  else ((s.setBit TB_STAT.REFSRC).setBit TB_STAT.REFLOSS).whileLive (fun t => t.closeAllGates.parkHold.record 0x0101 (zeros 4))

def execReferenceLoss (s : State) : Host.Outcome State Fault Refusal := .next s.refLost

/-- Back on the reference (R60): DA and DB are restored. -/
def State.refBack (s : State) : State :=
  if !s.awake || !s.bit TB_STAT.REFSRC then s
  else (s.clrBit TB_STAT.REFSRC).whileLive (fun t => (t.record 0x0101 (leBytes 1 1 ++ zeros 3)).restoreBoth)

def execReferenceRestored (s : State) : Host.Outcome State Fault Refusal := .next s.refBack

/-- TB_SPEED: MINRATE reads 0 until the first measurement after a read. -/
def State.rateMeasured (s : State) (rate : Nat) : State :=
  let s1 := s.setFld TB_SPEED.RATE rate
  s1.keepBest TB_SPEED.MINRATE leastSeen (s1.fld TB_SPEED.RATE)

def execHelperRateMeasurement (rate : Nat) (s : State) : Host.Outcome State Fault Refusal := .next (s.whileLive (fun s => s.rateMeasured rate))

end Sys2Proof.Machine
end

