-- ==== Sys2Proof/Machine/Rings.lean ====
section
/-! DEFINITION. Service-ring commands (R570 to R587): doorbells, pushes, fetching, enabling and draining a ring, and the
opcodes of R582 that have rows here. -/
namespace Sys2Proof.Machine

/-! ### Doorbell and push -/

/-- The waiting chains of ring `r` whose link word has been re-read: each of `links` gives a TAG and the EOC and FINAL read. With
EOC 0 the chain goes on, with EOC and FINAL it is closed (R579). -/
def State.ringLinks (s : State) (r : Nat) (links : List (Nat × Bool × Bool)) : State :=
  s.each links (fun t k =>
    match t.desc? r k.1 with
    | some d =>
      if !d.waiting || (k.2.1 && !k.2.2) then t
      else if k.2.1 then t.ringMoved r k.1 rsSuccess
      else (t.modDesc r k.1 (fun x => { x with waiting := false })).ringSync r
    | none => t)

/-- A doorbell of ring `r` (R572): the tail, CQHEAD as read from the index page with the completions it makes room for (R581), and
the waiting chains. A Disabled ring, as every ring is in Base-note mode, ignores it (R585); a Draining one takes no new tail (R583). -/
def State.srDoorbell (s : State) (r tail cqHead : Nat) (links : List (Nat × Bool × Bool)) (hostErr : Bool) : State :=
  if 8 ≤ r || s.fld (SR_STAT.STATE r) == rgDisabled then s
  else
    let g := s.ring r
    let s1 := if 2 ^ g.sqlog ≤ tail then s.setBit SR_ERR.BADDB
      else s.when (s.fld (SR_STAT.STATE r) == rgEnabled) (fun t => t.modRing r (fun x => { x with tail := tail }))
    if hostErr then s1.ringHostErr r
    else
      let s2 := s1.modRing r (fun x => { x with cqHead := cqHead % 2 ^ x.cqlog })
      ((State.ringDrainHeld 65 s2 r).ringLinks r links).ringSettle r

def execSrDoorbell (ring tail cqHead : Nat) (links : List (Nat × Bool × Bool)) (hostErr : Bool) (s : State) : Host.Outcome State Fault Refusal :=
  .next (s.whileLive (fun s => s.srDoorbell ring tail cqHead links hostErr))

/-- The 64 bytes of descriptor `k` of the push window of ring `r`. -/
def State.pushWords (s : State) (r k : Nat) : List Byte :=
  (List.range 16).foldl (fun b j => b ++ leBytes 4 (s.reg (0x131000 + r * 0x100 + 64 * k + 4 * j)).toNat) []

/-- A write of `count` to SR_PUSHCNTr (R586). -/
def State.srPush (s : State) (r count : Nat) : State :=
  if 8 ≤ r || s.fld (SR_STAT.STATE r) != rgEnabled || count == 0 || decide (4 < count) then s
  else
    let g := s.ring r
    if g.sqHead != g.tail then s.setBit SR_ERR.PUSHBUSY
    else s.modRing r (fun x => { x with
      pushed := (List.range count).map (fun k => ((g.tail + k) % 2 ^ g.sqlog, s.pushWords r k)), tail := (g.tail + count) % 2 ^ g.sqlog })

def execSrPush (ring count : Nat) (s : State) : Host.Outcome State Fault Refusal := .next (s.whileLive (fun s => s.srPush ring count))

/-! ### Fetching (R573, R574, R581) -/

/-- The descriptor of 64 bytes as it goes in flight. -/
def descOf (b auth : List Byte) (tick seq : Nat) : RingDesc :=
  { opc := leAt b 0 1, flags := leAt b 1 1, tag := leAt b 2 2, param := slice b 8 40, fetchTick := tick, seq := seq,
    auth := if natBit (leAt b 1 1) 2 then slice auth 0 416 else [], started := false, blocks := 0, moved := 0, own := false, extents := 0, loaded := false, waiting := false, abort := false, orphan := false }

/-- The device fetches the next descriptor of ring `r`, whose 64 bytes in host memory are `bytes`, with its authorisation block
(none where host memory fails); a pushed one is not read from there (R586). What is wrong with it ends it at once (R574, R582). -/
def State.descriptorFetch (s : State) (r : Nat) (bytes : List Byte) (auth : Option (List Byte)) (hostErr : Bool) : State :=
  if s.nextRing != some r then s
  else
    let g := s.ring r
    let got := (g.pushed.find? (fun p => p.1 == g.sqHead)).map (fun p => p.2)
    if hostErr && got.isNone then s.ringHostErr r
    else
      let b := slice (got.getD bytes) 0 64
      let d := descOf b (auth.getD []) s.tick s.rings.nextSeq
      let s1 := (s.ringHead r).modRings (fun x => { x with nextSeq := x.nextSeq + 1 })
      let s2 := (s1.modRing r (fun x => { x with descs := x.descs ++ [d] })).ringSync r
      let s3 := s2.when (64 ≤ (s2.ring r).load) (fun t => t.setFldBit SR_OVF.RING r true)
      match fetchFault b with
      | some st => s3.ringEnd r d.tag st none
      | none => if d.signed && auth.isNone then s3.ringEnd r d.tag rsHostError none else s3

def execDescriptorFetch (ring : Nat) (bytes : List Byte) (auth : Option (List Byte)) (hostErr : Bool) (s : State) : Host.Outcome State Fault Refusal :=
  .next (s.whileLive (fun s => s.descriptorFetch ring bytes auth hostErr))

/-! ### Enabling and draining (R583, R587) -/

/-- SR_CFGr is written `w` with EN 1: the configuration is taken and the ring starts afresh. A ring that is not Disabled takes IRQEN
only. What was in flight when the ring was last disabled runs on, its completion counted in ORPHAN (R584). -/
def State.ringEnable (s : State) (r : Nat) (w : Word32) : State :=
  if 8 ≤ r || s.bit FB_STAT.BASENOTE then s
  else
    let s0 := (s.setFld (SR_CFG.IRQEN r) ((SR_CFG.IRQEN r).ofWord w))
    if s.fld (SR_STAT.STATE r) != rgDisabled then s0
    else
      let s1 := ((s0.setFld (SR_CFG.PORT r) ((SR_CFG.PORT r).ofWord w)).setFld (SR_CFG.CQLOG r) ((SR_CFG.CQLOG r).ofWord w)).setFld (SR_CFG.SQLOG r) ((SR_CFG.SQLOG r).ofWord w)
      let sq := s1.fld (SR_CFG.SQLOG r)
      let cq := s1.fld (SR_CFG.CQLOG r)
      let sqb := s1.fld (SR_SQBASE_LO.ADDR r) + 2 ^ 32 * s1.fld (SR_SQBASE_HI.ADDR r)
      let cqb := s1.fld (SR_CQBASE_LO.ADDR r) + 2 ^ 32 * s1.fld (SR_CQBASE_HI.ADDR r)
      let idx := s1.fld SR_IDX_LO.ADDR + 2 ^ 32 * s1.fld SR_IDX_HI.ADDR
      if !inRange sq 4 16 || !inRange cq 4 16 || sqb % 4096 != 0 || cqb % 4096 != 0 then s1.setBit SR_ERR.BADCFG
      else
        let s2 := ((s1.setBit (SR_CFG.EN r)).setFld (SR_STAT.STATE r) rgEnabled).modRing r (fun g => { RingSt.reset with
          port := s1.fld (SR_CFG.PORT r), sqlog := sq, cqlog := cq, sqbase := sqb, cqbase := cqb, idx := idx, descs := g.descs })
        let g := s2.ring r
        ((s2.hostWrite .ring g.port (g.slotAddr r) (leBytes 2 0)).hostWrite .ring g.port (g.slotAddr r + 4) (leBytes 2 0)).ringSync r

def execRingEnable (ring : Nat) (w : Word32) (s : State) : Host.Outcome State Fault Refusal := .next (s.whileLive (fun s => s.ringEnable ring w))

/-- SR_CFGr is written `w` with EN 0: an Enabled ring drains; a Disabled one takes the other fields. -/
def State.ringDisable (s : State) (r : Nat) (w : Word32) : State :=
  if 8 ≤ r || s.bit FB_STAT.BASENOTE then s
  else
    let s0 := (s.setFld (SR_CFG.IRQEN r) ((SR_CFG.IRQEN r).ofWord w))
    if s.fld (SR_STAT.STATE r) == rgDisabled then
      ((s0.setFld (SR_CFG.PORT r) ((SR_CFG.PORT r).ofWord w)).setFld (SR_CFG.CQLOG r) ((SR_CFG.CQLOG r).ofWord w)).setFld (SR_CFG.SQLOG r) ((SR_CFG.SQLOG r).ofWord w)
    else s0.ringDrain r

def execRingDisable (ring : Nat) (w : Word32) (s : State) : Host.Outcome State Fault Refusal := .next (s.whileLive (fun s => s.ringDisable ring w))

/-- A descriptor's work runs as mover sets, with boundaries between them. -/
def opMover (opc : Nat) : Bool := opc == 0x01 || opc == 0x02 || opc == 0x04

/-- What remains after 1 s of draining ends with status 0x09 (R583): waiting chains, what has not started, and mover work at its set
boundary. The rest runs to its own end. -/
def State.ringDrainTimeout (s : State) (r : Nat) : State :=
  if 8 ≤ r || s.fld (SR_STAT.STATE r) != rgDraining then s
  else (s.each (s.ring r).descs (fun t d =>
    if d.waiting then t.ringComplete r d.tag rsAborted d.blocks
    else if !d.started then t.ringEnd r d.tag rsAborted none
    else if opMover d.opc then (if d.loaded then t.modDesc r d.tag (fun x => { x with abort := true }) else t.ringMoved r d.tag rsAborted)
    else t)).ringSettle r

def execRingDrainTimeout (ring : Nat) (s : State) : Host.Outcome State Fault Refusal := .next (s.whileLive (fun s => s.ringDrainTimeout ring))

/-! ### Mover work -/

def execMoverRead (ring tag : Nat) (blocks : List ChainBlock) (ok : Nat) (f : MemFaults) (s : State) : Host.Outcome State Fault Refusal :=
  .next (s.whileLive (fun s => (s.ringMove ring tag 0x01 blocks ok [] f).memSettle))

/-- `data` is what host memory answers, up to the first byte that it fails to give. -/
def execMoverWrite (ring tag : Nat) (blocks : List ChainBlock) (data : List Byte) (f : MemFaults) (s : State) : Host.Outcome State Fault Refusal :=
  .next (s.whileLive (fun s => (s.ringMove ring tag 0x02 blocks data.length data f).memSettle))

/-! ### Samples and tracks -/

/-- One exported index entry with its capture: 32 bytes and, where the capture is retained, its CAPLEN bytes. -/
def exportBytes (e : Option IndexEntry) (cap : List Byte) : List Byte :=
  match e with
  | some i => i.encode ++ (if i.valid then slice cap 0 i.capLen else [])
  | none => zeros 32

def exportAll : List (Option IndexEntry) → List (List Byte) → List Byte
  | [], _ => []
  | e :: l, cs => exportBytes e ((cs[0]?).getD []) ++ exportAll l (cs.drop 1)

/-- Sample export: index entries FIRST to FIRST + COUNT - 1 with their captures, whose bytes in HBM are `caps` (R403). -/
def State.sampleExport (s : State) (r tag : Nat) (caps : List (List Byte)) (ok : Bool) : State :=
  s.ringStart r tag 0x03 (fun t d =>
    let first := d.p 0 4
    let n := d.p 4 4
    if 131072 < first + n then t.ringInvalid r tag
    else
      let es := (List.range' first n).map (fun k => SMap.get (fun _ => none) t.decode.index k)
      let kept := (es.filter (fun e => match e with
        | some i => i.valid
        | none => false)).length
      t.ringOut r tag (d.p 8 8) (exportAll es caps) ok kept)

def execSampleExport (ring tag : Nat) (caps : List (List Byte)) (ok : Bool) (s : State) : Host.Outcome State Fault Refusal :=
  .next (s.whileLive (fun s => s.sampleExport ring tag caps ok))

/-- The newest retained capture of a frame taken since a tick. -/
def State.captureSince (s : State) (surf track frame tick : Nat) : Option IndexEntry :=
  ((s.indexOf (trackWord surf track) frame).filter (fun i => decide (tick ≤ i.tick))).getLast?

/-- Pin the extents of captures one by one; a refused pin leaves its capture out (R401). -/
def State.pinEach (s : State) : List IndexEntry → State × List IndexEntry
  | [] => (s, [])
  | i :: l =>
    match s.pin [i.extent] with
    | some s1 =>
      let q := s1.pinEach l
      (q.1, { i with pinned := true } :: q.2)
    | none =>
      let q := (s.bump DD_SSLOSS.PINREF).pinEach l
      (q.1, { i with valid := false } :: q.2)

/-- Track dump: a read of every frame is asked for; once each has been captured the extents are pinned for the export of the index
entries and captures (R401, R582). -/
def State.trackDump (s : State) (r tag : Nat) (caps : List (List Byte)) (ok : Bool) : State :=
  match s.desc? r tag with
  | none => s
  | some d =>
    let sf := d.p 0 1
    let track := d.p 4 4
    let fs := List.range' (d.p 8 2) (d.p 10 2)
    if d.opc = 0x04 ∧ d.started then
      let es := fs.filterMap (fun f => s.captureSince sf track f d.fetchTick)
      if es.length < fs.length then s
      else
        let q := s.pinEach es
        let s1 := q.1.unpin ((q.2.filter (fun i => i.valid)).map (fun i => i.extent))
        if ok then (s1.hostWrite .data (s1.ring r).port (d.p 16 8) (exportAll (q.2.map some) caps)).ringEnd r tag rsSuccess none
        else s1.ringEnd r tag rsHostError none
    else s.ringStart r tag 0x04 (fun t _ =>
      let z := t.zoneOfTrack sf track
      if !t.present sf || decide (t.zn sf z 0 4 + t.zn sf z 4 4 ≤ track) || decide (t.zn sf z 8 2 < d.p 8 2 + d.p 10 2) || fs == [] then t.ringInvalid r tag
      else t.each fs (fun u f => u.askReread ⟨sf, track, f, 6⟩))

def execTrackDump (ring tag : Nat) (caps : List (List Byte)) (ok : Bool) (s : State) : Host.Outcome State Fault Refusal :=
  .next (s.whileLive (fun s => s.trackDump ring tag caps ok))

/-! ### Calibration (R423) -/

def State.calibrationRun (s : State) (r tag : Nat) : State :=
  s.ringStart r tag 0x05 (fun t d =>
    ((t.modCal (fun c => { c with asked := c.asked ++ [(d.p 0 1, r, tag)] })).setCause (d.p 0 1) 5).calSync)

def execCalibrationRun (ring tag : Nat) (s : State) : Host.Outcome State Fault Refusal := .next (s.whileLive (fun s => s.calibrationRun ring tag))

/-! ### Gauges (R634, R635) -/

/-- A gauge action with code `a`: `f` is its effect on every gauge of the range, in one tick, whose number RESULT holds. -/
def State.gaugeAction (s : State) (r tag a : Nat) (f : State → RingDesc → Nat → Nat → State) : State :=
  match s.desc? r tag with
  | none => s
  | some d =>
    if d.p 0 1 != a then s
    else s.ringStart r tag 0x06 (fun t e =>
      (t.each (List.range (e.p 2 1)) (fun u k => f u e (e.p 1 1 + k) k)).ringComplete r tag rsSuccess s.tick)

/-- Arm gauge `g`, the `k`th of the range, with the descriptor's settings. -/
def State.gaugeSet (s : State) (d : RingDesc) (g k : Nat) : State :=
  let s1 := ((s.setFld (GA_CTL.SRC g) (d.p 3 1)).setFld (GA_CTL.INST g) (if natBit (d.p 6 1) 0 then d.p 4 1 + k else d.p 4 1)).setFld (GA_CTL.SHIFT g) (d.p 5 1)
  ((s1.setFld (GA_ALARMTH.VALUE g) (d.p 8 4)).modSil (fun x => { x with gaugeDur := SMap.set (fun _ => 0) x.gaugeDur g (d.p 12 4) })).gaugeArm g

def execGaugeArm (ring tag : Nat) (s : State) : Host.Outcome State Fault Refusal := .next (s.whileLive (fun s => s.gaugeAction ring tag 0 State.gaugeSet))

def execGaugeStop (ring tag : Nat) (s : State) : Host.Outcome State Fault Refusal := .next (s.whileLive (fun s => s.gaugeAction ring tag 1 (fun t _ g _ => t.gaugeStop g)))

/-- The 256 bytes of a gauge's register page. -/
def State.gaugePage (s : State) (g : Nat) : List Byte :=
  (List.range 64).foldl (fun b j => b ++ leBytes 4 (s.regView (0x171000 + g * 0x100 + 4 * j)).toNat) []

/-- Export the gauges of the range, as `s` shows them; `ok` is false where host memory fails. -/
def State.gaugeExport (s : State) (r tag a : Nat) (ok : Bool) (rearm : Bool) : State :=
  match s.desc? r tag with
  | none => s
  | some d =>
    if d.p 0 1 != a then s
    else s.ringStart r tag 0x06 (fun t e =>
      let gs := List.range' (e.p 1 1) (e.p 2 1)
      let s1 := t.when ok (fun u => u.hostWrite .data (u.ring r).port (e.p 16 8) (gs.foldl (fun b g => b ++ s.gaugePage g) []))
      let s2 := s1.when rearm (fun u => u.each gs State.gaugeArm)
      s2.ringComplete r tag (if ok then rsSuccess else rsHostError) s.tick)

def execGaugeExport (ring tag : Nat) (ok : Bool) (s : State) : Host.Outcome State Fault Refusal := .next (s.whileLive (fun s => s.gaugeExport ring tag 2 ok false))

def execGaugeExportRearm (ring tag : Nat) (ok : Bool) (s : State) : Host.Outcome State Fault Refusal := .next (s.whileLive (fun s => s.gaugeExport ring tag 3 ok true))

/-! ### Sillage (R629, R630) -/

def State.sillageExport (s : State) (r tag : Nat) (ok : Bool) : State :=
  s.ringStart r tag 0x07 (fun t d =>
    let first := d.p 0 4
    let n := Nat.min (d.p 4 4) (t.logPos - first)
    t.ringOut r tag (d.p 8 8) (t.silView first n) ok n)

def execSillageExport (ring tag : Nat) (ok : Bool) (s : State) : Host.Outcome State Fault Refusal := .next (s.whileLive (fun s => s.sillageExport ring tag ok))

/-- A clear waits while MRAM admits no line (R48). -/
def State.sillageClear (s : State) (r tag : Nat) : State :=
  if !s.mramAdmits then s else s.ringStart r tag 0x08 (fun t _ => t.silClear.ringEnd r tag rsSuccess none)

def execSillageClear (ring tag : Nat) (s : State) : Host.Outcome State Fault Refusal := .next (s.whileLive (fun s => s.sillageClear ring tag))

/-! ### Blotter mode (R207) -/

/-- Opcode 0x0C with ENABLE `e`. -/
def State.bltMode (s : State) (r tag e : Nat) : State :=
  match s.desc? r tag with
  | none => s
  | some d =>
    if d.p 0 1 != e then s
    else s.ringStart r tag 0x0C (fun t _ => ((if e = 1 then t.bltEnable else t.bltDisable)).ringEnd r tag rsSuccess none)

def execBlotterEnable (ring tag : Nat) (s : State) : Host.Outcome State Fault Refusal := .next (s.whileLive (fun s => s.bltMode ring tag 1))

def execBlotterDisable (ring tag : Nat) (s : State) : Host.Outcome State Fault Refusal := .next (s.whileLive (fun s => s.bltMode ring tag 0))

end Sys2Proof.Machine
end

