-- ==== Sys2Proof/Machine/Security.lean ====
section
/-! DEFINITION. Security Send and Receive (R651 to R653), rollback floors (R647), SPDM and MCTP (R654 to R656). The formats that the
spec takes from DMTF DSP0236, DSP0274 and DSP0286 are those of these standards. -/
namespace Sys2Proof.Machine

/-! ### Security Receive (R651) -/

/-- The status block of protocol 0xF0. -/
def State.secStatus (s : State) : List Byte :=
  layout 32 [(0, s.nonce), (16, leBytes 1 s.nvme.secLastOp), (17, leBytes 1 s.nvme.secResult), (20, leBytes 4 s.accordFloor),
    (24, leBytes 4 s.patchFloor), (28, leBytes 1 (128 - s.nv.floorA.length)), (29, leBytes 1 (128 - s.nv.floorP.length))]

/-- Security Receive: the protocol list, the SPDM response that waits for the controller, the status block; the allocation length in
CDW11 bounds it. -/
def State.secReceive (s : State) (m : Cmd) : State :=
  let p := natBits m.e.cdw10 24 8
  let put := fun (t : State) (d : List Byte) => (t.hostWrite .data m.ctrl m.e.dptr (d.take m.e.cdw11)).finish m .ok 0
  if p = 0x00 then put s (zeros 6 ++ [0, 3, 0x00, 0xE8, 0xF0])
  else if p = 0xF0 then put s s.secStatus
  else put (s.modSec (fun x => { x with replies := SMap.set (fun _ => []) x.replies m.ctrl [] })) (SMap.get (fun _ => []) s.sec.replies m.ctrl)

def execSecurityReceive (ctrl cid : Nat) (s : State) : Host.Outcome State Fault Refusal := .next (s.whileLive (fun s => s.adminStart ctrl cid 0x82 State.secReceive))

/-! ### Signed operations (R652, R653) -/

/-- Fields of a command block. -/
def opKind (b : List Byte) : Nat := leAt b 1 1
def opValue (b : List Byte) : Nat := leAt b 4 4
def opDlen (b : List Byte) : Nat := leAt b 8 4

/-- The reserved bytes of a command block are zero. -/
def opForm (b : List Byte) : Bool := b.length == 64 && allZero (slice b 2 2) && allZero (slice b 12 52)

/-- The operation `op` is over with RESULT `r`. -/
def State.opDone (s : State) (m : Cmd) (op r : Nat) : State :=
  (s.modNvme (fun n => { n with secLastOp := op, secResult := r })).finish m .ok 0

/-- A Security Send of protocol 0xF0 with operation `op`: `sent` is the command block, the authorisation block and the data. Signed
descriptors in flight come first (R580). Then the checks of R580, with the keys that `usage` and `maker` permit, and Busy (R653); `f` is the
operation. -/
def State.signedOp (s : State) (c cid : Nat) (mine : Nat → Bool) (sent : List Byte) (usage : Nat) (maker : List Byte → Bool) (f : State → Cmd → List Byte → List Byte → State) : State :=
  s.adminStart c cid 0x81 (fun t m =>
    let b := slice sent 0 64
    let auth := slice sent 64 416
    let op := leAt b 0 1
    let data := (sent.drop 480).take (opDlen b)
    if natBits m.e.cdw10 24 8 != 0xF0 || !mine op then t
    else if (List.range 8).any (fun k => (t.ring k).descs.any (fun d => d.signed)) then t
    else if sent.length < 480 || data.length < opDlen b || !opForm b then t.opDone m op rsInvalidField
    else match t.authFails auth (b ++ data) usage (maker b) with
      | some (st, reason) => (t.refuse 3 reason).opDone m op st
      | none =>
        let u := t.newNonce
        if u.bit AC_STAT.BUSY || u.nvme.activation.isSome || u.nvme.fwStore.isSome then u.opDone m op rsBusy else f u m b data)

/-- Operation 0x01: one OTP record is written and read back (`ok`). A floor may rise to the generation applied and no higher (R647). -/
def State.raiseFloor (s : State) (m : Cmd) (b : List Byte) (ok : Bool) : State :=
  let v := opValue b
  let accord := opKind b == 1
  if !(accord || opKind b == 2) then s.opDone m 1 rsInvalidField
  else if 128 ≤ (if accord then s.nv.floorA else s.nv.floorP).length then s.opDone m 1 rsRefused
  else if v ≤ (if accord then s.accordFloor else s.patchFloor) || (if accord then s.fld AC_GEN.GEN else s.fld ST_PATCHGEN.GEN) < v then s.opDone m 1 rsRefused
  else
    let w := otpRecord (opKind b) v ok
    let s1 := s.modNv (fun n => if accord then { n with floorA := n.floorA ++ [w] } else { n with floorP := n.floorP ++ [w] })
    s1.floorSync.opDone m 1 (if ok then rsSuccess else rsUnitError)

/-- Operation 0x01, and any operation code that the table of R652 does not hold, which is Invalid Opcode. -/
def execRaiseRollbackFloor (ctrl cid : Nat) (sent : List Byte) (ok : Bool) (s : State) : Host.Outcome State Fault Refusal :=
  .next (s.whileLive (fun s => s.signedOp ctrl cid (fun op => op != 2) sent 0 (fun b => opKind b == 1) (fun t m b _ =>
    if leAt b 0 1 = 1 then t.raiseFloor m b ok else t.opDone m (leAt b 0 1) rsInvalidOpcode)))

/-- Operation 0x02: a valid area of an AGEN above both copies' is written over the invalid or older copy. -/
def execWriteKeyCertArea (ctrl cid : Nat) (sent : List Byte) (s : State) : Host.Outcome State Fault Refusal :=
  .next (s.whileLive (fun s => s.signedOp ctrl cid (fun op => op == 2) sent 1 (fun _ => true) (fun t m b data =>
    if 0x10000 < opDlen b || !areaOk data || !t.areaNewer data then t.opDone m 2 rsInvalidField
    else ((t.begin m).modNvme (fun n => { n with secLastOp := 2 })).flashStart ⟨2 + t.areaTarget, m.ctrl, m.e.cid, 1, true, data⟩)))

/-! ### SPDM (R654 to R656) -/

def SpdmSt.fresh : SpdmSt := { stage := 0, opening := [], certs := [], meas := [] }

def State.spdm (s : State) (ch : Nat) : SpdmSt := SMap.get (fun _ => SpdmSt.fresh) s.sec.spdm ch

def State.putSpdm (s : State) (ch : Nat) (x : SpdmSt) : State := s.modSec (fun y => { y with spdm := SMap.set (fun _ => SpdmSt.fresh) y.spdm ch x })

/-- An SPDM message of version 1.2: code, Param1, Param2, the rest. -/
def spdmMsg (code p1 p2 : Nat) (rest : List Byte) : List Byte := leBytes 1 0x12 ++ leBytes 1 code ++ leBytes 1 p1 ++ leBytes 1 p2 ++ rest

/-- ERROR with a code and its data byte. -/
def spdmError (code data : Nat) : List Byte := spdmMsg 0x7F code data []
def errInvalid : Nat := 0x01
def errUnexpected : Nat := 0x04
def errUnsupported : Nat := 0x07

/-- A response leaves: on MCTP (channels 0 and 1) as a message of type 0x05, on protocol 0xE8 it waits for Security Receive. -/
def State.spdmReply (s : State) (ch : Nat) (b : List Byte) : State :=
  if ch < 2 then s.modSec (fun x => { x with vdm := x.vdm ++ [(ch, leBytes 1 5 ++ b)] })
  else s.modSec (fun x => { x with replies := SMap.set (fun _ => []) x.replies (ch - 2) b })

/-- A request on a channel: through MCTP on function `ch`, or, from channel 2, by the Security Send `cid` of protocol 0xE8 of a
controller, which completes. -/
def State.spdmTake (s : State) (ch cid : Nat) (f : State → State) : State :=
  if ch < 2 then (if s.hasCtrl ch && (s.ctrl ch).linkUp && !s.bit FB_STAT.BASENOTE then f s else s)
  else s.adminStart (ch - 2) cid 0x81 (fun t m => if natBits m.e.cdw10 24 8 != 0xE8 then t else (f t).finish m .ok 0)

/-- A request of code `code` is answered: `f` gives the response and the exchange's new state. Other codes are left to their rows. -/
def State.spdmAsk (s : State) (ch cid code : Nat) (req : List Byte) (f : State → SpdmSt → State) : State :=
  if leAt req 1 1 != code then s else s.spdmTake ch cid (fun t => f t (t.spdm ch))

/-- The certificates of the stored chain: each follows its length of 4 bytes. -/
def chainCerts : Nat → List Byte → List (List Byte)
  | 0, _ => []
  | n + 1, b => if b.length < 4 || leAt b 0 4 = 0 then [] else slice b 4 (leAt b 0 4) :: chainCerts n (b.drop (4 + leAt b 0 4))

/-- The certificate chain of slot 0 as SPDM carries it: length, the root's digest, the certificates. -/
def State.certChain (s : State) : List Byte :=
  let cs := chainCerts s.nv.spdmChain.length s.nv.spdmChain
  let body := sha256 ((cs.head?).getD []) ++ cs.flatten
  leBytes 2 (body.length + 4) ++ zeros 2 ++ body

/-- What the identity key signs: the prefix of SPDM 1.2 with a context, and the digest of the transcript. -/
def spdmSigned (context : String) (transcript : List Byte) : List Byte :=
  let v := ascii "dmtf-spdm-v1.2.*"
  let c := ascii context
  v ++ v ++ v ++ v ++ zeros (36 - c.length) ++ c ++ sha256 transcript

/-- GET_VERSION begins an exchange; VERSION names 1.2. A request whose code is none of those served gets UnsupportedRequest. -/
def State.spdmVersion (s : State) (ch cid : Nat) (req : List Byte) : State :=
  let code := leAt req 1 1
  if code = 0x84 then s.spdmTake ch cid (fun t =>
    let rsp := leBytes 1 0x10 ++ leBytes 1 0x04 ++ zeros 3 ++ leBytes 1 1 ++ leBytes 2 0x1200
    (t.putSpdm ch { SpdmSt.fresh with stage := 1, opening := req ++ rsp }).spdmReply ch rsp)
  else if code = 0xE1 ∨ code = 0xE3 ∨ code = 0x81 ∨ code = 0x82 ∨ code = 0x83 ∨ code = 0xE0 then s
  else s.spdmTake ch cid (fun t => t.spdmReply ch (spdmError errUnsupported code))

def execSpdmGetVersion (ch cid : Nat) (req : List Byte) (s : State) : Host.Outcome State Fault Refusal := .next (s.whileLive (fun s => s.spdmVersion ch cid req))

/-- CAPABILITIES: CERT, CHAL, MEAS with signature, CTExponent 15; the transfer sizes are free values. -/
def State.spdmCaps (s : State) (ch : Nat) (req : List Byte) (x : SpdmSt) : State :=
  if x.stage != 1 then s.spdmReply ch (spdmError errUnexpected 0)
  else
    let r := State.freeBytes 1 s
    let rsp := spdmMsg 0x61 0 0 (zeros 1 ++ leBytes 1 15 ++ zeros 2 ++ leBytes 4 0x16 ++ r.1)
    (r.2.putSpdm ch { x with stage := 2, opening := x.opening ++ req ++ rsp }).spdmReply ch rsp

def execSpdmGetCapabilities (ch cid : Nat) (req : List Byte) (s : State) : Host.Outcome State Fault Refusal :=
  .next (s.whileLive (fun s => s.spdmAsk ch cid 0xE1 req (fun t x => t.spdmCaps ch req x)))

/-- ALGORITHMS: of what the request offers, RSAPSS-3072, SHA-256 and the DMTF measurement specification. -/
def State.spdmAlgs (s : State) (ch : Nat) (req : List Byte) (x : SpdmSt) : State :=
  if x.stage != 2 then s.spdmReply ch (spdmError errUnexpected 0)
  else
    let meas := leAt req 6 1 % 2
    let asym := Nat.land (leAt req 8 4) 8
    let hash := Nat.land (leAt req 12 4) 1
    let rsp := spdmMsg 0x63 0 0 (leBytes 2 36 ++ leBytes 1 meas ++ zeros 1 ++ leBytes 4 (if meas = 1 then 2 else 0) ++ leBytes 4 asym ++ leBytes 4 hash ++ zeros 16)
    (s.putSpdm ch { x with stage := 3, opening := x.opening ++ req ++ rsp }).spdmReply ch rsp

def execSpdmNegotiateAlgorithms (ch cid : Nat) (req : List Byte) (s : State) : Host.Outcome State Fault Refusal :=
  .next (s.whileLive (fun s => s.spdmAsk ch cid 0xE3 req (fun t x => t.spdmAlgs ch req x)))

/-- A request that follows the opening: `bad` is Invalid Request. -/
def State.spdmOpen (s : State) (ch : Nat) (x : SpdmSt) (bad : Bool) (f : State → State) : State :=
  if x.stage != 3 then s.spdmReply ch (spdmError errUnexpected 0)
  else if bad then s.spdmReply ch (spdmError errInvalid 0)
  else f s

def State.spdmDigests (s : State) (ch : Nat) (req : List Byte) (x : SpdmSt) : State :=
  s.spdmOpen ch x false (fun t =>
    let rsp := spdmMsg 0x01 0 1 (sha256 t.certChain)
    (t.putSpdm ch { x with certs := x.certs ++ req ++ rsp, meas := [] }).spdmReply ch rsp)

def execSpdmGetDigests (ch cid : Nat) (req : List Byte) (s : State) : Host.Outcome State Fault Refusal :=
  .next (s.whileLive (fun s => s.spdmAsk ch cid 0x81 req (fun t x => t.spdmDigests ch req x)))

/-- CERTIFICATE: the portion asked for of the chain of slot 0. -/
def State.spdmCertificate (s : State) (ch : Nat) (req : List Byte) (x : SpdmSt) : State :=
  let off := leAt req 4 2
  let chain := s.certChain
  s.spdmOpen ch x (leAt req 2 1 % 16 != 0 || decide (chain.length ≤ off)) (fun t =>
    let n := Nat.min (leAt req 6 2) (chain.length - off)
    let rsp := spdmMsg 0x02 0 0 (leBytes 2 n ++ leBytes 2 (chain.length - off - n) ++ slice chain off n)
    (t.putSpdm ch { x with certs := x.certs ++ req ++ rsp, meas := [] }).spdmReply ch rsp)

def execSpdmGetCertificate (ch cid : Nat) (req : List Byte) (s : State) : Host.Outcome State Fault Refusal :=
  .next (s.whileLive (fun s => s.spdmAsk ch cid 0x82 req (fun t x => t.spdmCertificate ch req x)))

/-! #### Measurements (R655) -/

/-- One measurement block: a digest, or the raw bits of index 7. -/
def measBlock (i type : Nat) (v : List Byte) : List Byte :=
  leBytes 1 i ++ leBytes 1 1 ++ leBytes 2 (v.length + 3) ++ leBytes 1 type ++ leBytes 2 v.length ++ v

/-- SHA-256 of what is in effect, zero for nothing. -/
def digestOr (b : List Byte) : List Byte := if b = [] then zeros 32 else sha256 b

/-- The value of measurement `i`. -/
def State.measurement (s : State) (i : Nat) : List Byte :=
  if i = 1 then measBlock 1 0x00 Config.romDigest
  else if i = 2 then measBlock 2 0x01 (digestOr s.fabric.bundle)
  else if i = 3 then measBlock 3 0x01 (sha256 (([1, 2, 4, 5] : List Nat).flatMap (fun d => digestOr (((s.fabric.domInEffect.find? (fun x => x.1 == d)).map (fun x => x.2)).getD []))))
  else if i = 4 then measBlock 4 0x03 ((List.range 8).flatMap (fun j => leBytes 4 (s.fld (AC_DIGEST.DIGEST j))))
  else if i = 5 then measBlock 5 0x03 (if s.acc.applied = [] then zeros 32 else layoutDigest s.acc.applied)
  else if i = 6 then measBlock 6 0x03 (digestOr s.sec.area)
  else measBlock 7 0x82 (leBytes 4 (s.fld ST_ID.REG) ++ leBytes 4 (s.fld ST_ROMLVL.REG) ++ leBytes 2 s.accordFloor ++ leBytes 2 s.patchFloor ++ leBytes 1 (s.fld SC_STAT.REG) ++ zeros 3)

/-- The measurements that a summary covers: all of them, or those of type immutable ROM. -/
def State.measSummary (s : State) (kind : Nat) : List Byte :=
  if kind = 0 then [] else sha256 (((if kind = 1 then [1] else List.range' 1 7) : List Nat).flatMap s.measurement)

/-- 32 random bytes of the responder: free values. -/
def State.spdmNonce (s : State) : List Byte × State := State.freeBytes 4 s

/-- A signed response: refused in test mode (R649); counted (SC_EVT). The signature's salt is a free value. -/
def State.spdmSign (s : State) (ch : Nat) (context : String) (transcript rsp : List Byte) (done : State → State) : State :=
  if s.bit SC_STAT.TESTMODE then s.spdmReply ch (spdmError errUnexpected 0)
  else
    let salt := State.freeBytes 4 (done (s.bump SC_EVT.SPDM))
    salt.2.spdmReply ch (rsp ++ identitySign salt.1 (spdmSigned context (transcript ++ rsp)))

/-- CHALLENGE_AUTH for slot 0. -/
def State.spdmChallenge (s : State) (ch : Nat) (req : List Byte) (x : SpdmSt) : State :=
  let kind := leAt req 3 1
  s.spdmOpen ch x (leAt req 2 1 != 0 || !(kind == 0 || kind == 1 || kind == 0xFF)) (fun t =>
    let r := t.spdmNonce
    let rsp := spdmMsg 0x03 0 1 (sha256 t.certChain ++ r.1 ++ t.measSummary kind ++ zeros 2)
    r.2.spdmSign ch "responder-challenge_auth signing" (x.opening ++ x.certs ++ req) rsp (fun u => u.putSpdm ch { x with certs := [], meas := [] }))

def execSpdmChallenge (ch cid : Nat) (req : List Byte) (s : State) : Host.Outcome State Fault Refusal :=
  .next (s.whileLive (fun s => s.spdmAsk ch cid 0x83 req (fun t x => t.spdmChallenge ch req x)))

/-- MEASUREMENTS: the number of blocks (operation 0), one, or all of them, taken at one tick (R656), signed where asked. -/
def State.spdmMeas (s : State) (ch : Nat) (req : List Byte) (x : SpdmSt) : State :=
  let op := leAt req 3 1
  let sig := natBit (leAt req 2 1) 0
  s.spdmOpen ch x ((7 < op && op != 0xFF) || (sig && leAt req 36 1 % 16 != 0)) (fun t =>
    let is := if op = 0 then [] else if op = 0xFF then List.range' 1 7 else [op]
    let rec_ := is.flatMap t.measurement
    let r := t.spdmNonce
    let rsp := spdmMsg 0x60 (if op = 0 then 7 else 0) 0 (leBytes 1 is.length ++ leBytes 3 rec_.length ++ rec_ ++ r.1 ++ zeros 2)
    if sig then r.2.spdmSign ch "responder-measurements signing" (x.opening ++ x.meas ++ req) rsp (fun u => u.putSpdm ch { x with meas := [] })
    else (r.2.putSpdm ch { x with meas := x.meas ++ req ++ rsp }).spdmReply ch rsp)

def execSpdmGetMeasurements (ch cid : Nat) (req : List Byte) (s : State) : Host.Outcome State Fault Refusal :=
  .next (s.whileLive (fun s => s.spdmAsk ch cid 0xE0 req (fun t x => t.spdmMeas ch req x)))

/-! ### MCTP control (R654) -/

/-- A control response of function `p`: message type 0, instance, command, completion code and data. -/
def State.mctpReply (s : State) (p inst cmd cc : Nat) (d : List Byte) : State :=
  if !(s.hasCtrl p && (s.ctrl p).linkUp && !s.bit FB_STAT.BASENOTE) then s
  else s.modSec (fun x => { x with vdm := x.vdm ++ [(p, leBytes 1 0 ++ leBytes 1 (inst % 32) ++ leBytes 1 cmd ++ leBytes 1 cc ++ d)] })

def State.mctpEid (s : State) (p : Nat) : Nat := SMap.get (fun _ => 0) s.sec.eids p

/-- Set Endpoint ID: operation 0 set, 1 force, 2 reset and 3 set discovered, the last two of no use to this endpoint. -/
def State.mctpSet (s : State) (p inst op eid : Nat) : State :=
  if !(s.hasCtrl p && (s.ctrl p).linkUp && !s.bit FB_STAT.BASENOTE) then s
  else if 1 < op || eid = 0 || 0xFF ≤ eid then s.mctpReply p inst 1 2 []
  else (s.modSec (fun x => { x with eids := SMap.set (fun _ => 0) x.eids p eid })).mctpReply p inst 1 0 (zeros 1 ++ leBytes 1 eid ++ zeros 1)

def execMctpSetEndpointId (port inst op eid : Nat) (s : State) : Host.Outcome State Fault Refusal := .next (s.whileLive (fun s => s.mctpSet port inst op eid))

/-- Get Endpoint ID: a simple endpoint with a dynamic ID. -/
def execMctpGetEndpointId (port inst : Nat) (s : State) : Host.Outcome State Fault Refusal :=
  .next (s.whileLive (fun s => s.mctpReply port inst 2 0 (leBytes 1 (s.mctpEid port) ++ zeros 2)))

/-- Get MCTP Version Support: one version of the base specification (0xFF), of control messages or of SPDM, which the spec does not number;
other types are not supported. -/
def State.mctpVersion (s : State) (p inst type : Nat) : State :=
  if type = 0xFF ∨ type = 0 ∨ type = 5 then
    let r := State.freeBytes 1 s
    r.2.mctpReply p inst 4 0 (leBytes 1 1 ++ slice r.1 0 4)
  else s.mctpReply p inst 4 0x80 []

def execMctpGetVersionSupport (port inst type : Nat) (s : State) : Host.Outcome State Fault Refusal := .next (s.whileLive (fun s => s.mctpVersion port inst type))

/-- Get Message Type Support: SPDM (0x05) beside control messages. -/
def execMctpGetMessageTypeSupport (port inst : Nat) (s : State) : Host.Outcome State Fault Refusal :=
  .next (s.whileLive (fun s => s.mctpReply port inst 5 0 (leBytes 1 1 ++ leBytes 1 5)))

end Sys2Proof.Machine
end

