-- ==== Sys2Proof/Machine/ServoRows.lean ====
section
/-! DEFINITION. The servo commands (R289 to R327). -/
namespace Sys2Proof.Machine

/-! ### Faults of an actuator (R299, R305, R318) -/

/-- The actuator faults: retracted, or Faulted where it is Parked; a domain fault of its domain (R30, R318). -/
def State.actFault (s : State) (a : Act) (cause : Nat) : State :=
  ((s.retractAct a true).domainFault (domOfAct a) cause).domSettle.standbyStep

/-- A VCM fault (R296, R299). -/
def State.vcmFault (s : State) (a : Act) : State :=
  ((s.inhibitAll a 5).setBit (SV_FAULT.VCMFLT (actNum a))).actFault a 2

/-- A microactuator driver fault (R298, R299). -/
def State.maFault (s : State) (a : Act) : State :=
  ((s.inhibitAll a 6).setBit (SV_FAULT.MAFLT (actNum a))).actFault a 2

def execVcmFaultPin (a : Act) (s : State) : Host.Outcome State Fault Refusal := .next (s.whileLive (fun s => s.vcmFault a))

def execMaDriverFaultPin (a : Act) (s : State) : Host.Outcome State Fault Refusal := .next (s.whileLive (fun s => s.maFault a))

/-- R305: nothing is applied at the next apply tick; a miss in two periods running is a deadline-watchdog fault of the helper. -/
def State.servoMiss (s : State) (a : Act) (coarse : Bool) : State :=
  let n := actNum a
  let m := if coarse then (s.sv a).cmiss else (s.sv a).fmiss
  if !s.svLoaded a || m == 1 then s
  else
    let s1 := ((s.setBit (if coarse then SV_WDOG.CMISS n else SV_WDOG.FMISS n)).bump (SV_WDOG.COUNT n)).inhibitAll a 3
    let s2 := s1.modSv a (fun v => if coarse then { v with missed := true, cmiss := 1 } else { v with missed := true, fmiss := 1 })
    if m = 0 then s2
    else
      let s3 := s2.setBit (SV_FAULT.WDOG2 n)
      match s3.helperOf (if coarse then 2 else 3) n with
      | some h => s3.missedTwice h
      | none => s3

def execServoDeadlineMiss (a : Act) (coarse : Bool) (s : State) : Host.Outcome State Fault Refusal := .next (s.whileLive (fun s => (s.servoMiss a coarse).domSettle.standbyStep))

/-! ### Shock (R324) -/

def execShock (a : Act) (s : State) : Host.Outcome State Fault Refusal :=
  .next (s.whileLive (fun s => if s.svLoaded a then
    ((s.inhibitAll a 4).setBit (SV_STAT.SHOCK (actNum a))).modSv a (fun v => { v with shockLeft := s.loopLim a 14 2 })
  else s))

def execShockHoldEnd (a : Act) (s : State) : Host.Outcome State Fault Refusal :=
  .next (s.whileLive (fun s => (s.clrBit (SV_STAT.SHOCK (actNum a))).modSv a (fun v => { v with shockLeft := 0 })))

/-! ### Loads and parks (R318, R320) -/

def State.loadAsked (s : State) (a : Act) : State :=
  let d := domOfAct a
  if s.svState a == svParked && s.spReady && !s.bit FB_STAT.BASENOTE && (s.isServing d || (s.dom d).st == .restoring) then
    (s.modSv a (fun v => { v with attempts := 0 })).startLoad a
  else s

def execLoadRequest (a : Act) (s : State) : Host.Outcome State Fault Refusal := .next (s.whileLive (fun s => s.loadAsked a))

/-- The third attempt ends Faulted, without a retract (R318); domain fault cause 3 (R662). -/
def State.loadOut (s : State) (a : Act) : State :=
  if s.svState a != svLoading then s
  else if (s.sv a).attempts < 3 then (s.parkAct a).modSv a (fun v => { v with reload := true })
  else
    let s1 := (((s.setBit (SV_FAULT.LOADFAIL (actNum a))).setVcm a false 0).leaveGroup a).svGoto a svFaulted
    (s1.domainFault (domOfAct a) 3).domSettle.standbyStep

def execLoadTimeout (a : Act) (s : State) : Host.Outcome State Fault Refusal := .next (s.whileLive (fun s => s.loadOut a))

def execParkRequest (a : Act) (s : State) : Host.Outcome State Fault Refusal := .next (s.whileLive (fun s => s.parkAct a))

/-- The actuator is Parked: VCM_x_EN low. -/
def State.nowParked (s : State) (a : Act) : State := ((((s.setVcm a false 0).leaveGroup a).svGoto a svParked).afterParked a).standbyStep

def State.unloadEnd (s : State) (a : Act) (stillValid : Bool) : State :=
  if s.svState a != svUnloading then s
  else if stillValid then s.vcmFault a
  else s.nowParked a

def execUnloadProfileEnd (a : Act) (stillValid : Bool) (s : State) : Host.Outcome State Fault Refusal := .next (s.whileLive (fun s => s.unloadEnd a stillValid))

/-- RET_x_L is released, whatever has happened to the device since it was driven low (R104, R320). -/
def State.retRelease (s : State) (a : Act) : State :=
  let s1 := s.modPins (fun p => { p with ret := p.ret.put a false })
  if s1.svState a != svRetracting then s1
  else if (s1.sv a).faultPend then ((((s1.setVcm a false 0).modSv a (fun v => { v with faultPend := false })).svGoto a svFaulted)).standbyStep
  else s1.nowParked a

def execRetractRelease (a : Act) (s : State) : Host.Outcome State Fault Refusal := .next (s.retRelease a)

/-! ### Groups: departures, failures, acquisitions (R314 to R319) -/

/-- Calibration runs of the lanes of head `h` are abandoned (R435). -/
def State.dropRuns (s : State) (a : Act) (h : Nat) : State :=
  s.abandonRuns (fun r => s.lnAct r.lane == a && s.fld (LN_STAT.HEAD r.lane) == h)

def State.departAct (s : State) (a : Act) (k cause : Nat) : State := (s.dropRuns a (s.place a k).head).depart a k cause

/-- The group's primary is another head now: the places are taken again. -/
def State.regroup (s : State) (a : Act) : State :=
  let g := (s.sv a).reqGroup
  let hs := s.headsFor a g
  if hs = [] then
    let s1 := s.takeGroup a (s.loadGroup a) (s.groupHeads a (s.loadGroup a))
    s1.modSv a (fun v => { v with reqGroup := s.loadGroup a })
  else s.takeGroup a g hs

/-- A head fails (R319); a primary's place goes to the next listed head. -/
def State.failHead (s : State) (a : Act) (h cause : Nat) : State :=
  let prim := h == s.fld (SV_STAT.PRIMARY (actNum a))
  ((s.dropRuns a h).declareFailed a h cause).when prim (fun t => t.regroup a)

/-- A following-error fault of place `k` (R312, R316, R319). -/
def State.folFault (s : State) (a : Act) (k : Nat) (e : Int) : State :=
  let h := (s.place a k).head
  let ts := recent s.tick (secTicks 60) (s.head a h).folTicks
  let s1 := (s.record 0x0B01 (leBytes 1 (surfNum a h) ++ leBytes 1 k ++ leInt 2 e)).modHead a h (fun x => { x with folTicks := ts })
  let s2 := s1.modPlace a k (fun p => { p with nFel := 0 })
  let s3 := if k = 0 then ((s2.setBit (SV_FAULT.FOLERR (actNum a))).closeGates a).svGoto a svRecovering else s2.departAct a k 1
  if 16 ≤ ts.length then s3.failHead a h 2 else s3

/-- Where a secondary's head stands beside the primary, with the displacement of both microactuators taken out (R314). -/
def State.measureOffset (s : State) (a : Act) (ps : List (WedgePlace × Demod)) (k : Nat) : State :=
  match ps[0]?, ps[k]? with
  | some p, some x =>
    if k = 0 || !p.2.valid || !x.2.valid then s
    else
      let at' := fun (d : Demod) (j : Nat) => 256 * (d.track : Int) + d.pes - s.maDisp a j
      s.modPlace a k (fun q => { q with offs := at' x.2 k - at' p.2 0 })
  | _, _ => s

/-- An acquisition of the group ends: heads without a valid sample are counted, secondaries beyond the skew limit leave. -/
def State.acquired (s : State) (a : Act) (ps : List (WedgePlace × Demod)) : State :=
  let s0 := s.modSv a (fun v => { v with grpAcq := false })
  let s1 := s0.each (s0.svPlaces a) (fun t k => t.measureOffset a ps k)
  s1.each (s1.svPlaces a) (fun t k =>
    let p := t.place a k
    if !p.active then t
    else if !p.seen then
      let n := (t.head a p.head).noSample + 1
      let t1 := t.modHead a p.head (fun x => { x with noSample := n })
      if 3 ≤ n then t1.failHead a p.head 1 else t1
    else
      let t1 := t.modHead a p.head (fun x => { x with noSample := 0 })
      if k != 0 && decide (2000 < ((ps[k]?).map (fun x => x.1.skew)).getD 0) then (t1.setBit (SV_FAULT.SKEW (actNum a))).departAct a k 3 else t1)

/-! ### Seeks (R318, R326, R327, R603) -/

/-- A seek starts; a change of group abandons the calibration runs of the lanes whose head changes (R435). -/
def State.seekNow (s : State) (a : Act) (g track : Nat) : State :=
  let hs := s.headsFor a g
  if hs = [] then s
  else
    let s1 := if (s.svPlaces a).map (fun k => (s.place a k).head) == hs then s else s.abandonRuns (fun r => s.lnAct r.lane == a)
    s1.startSeek a g track

/-- The body of SEEK: ACT, NSAMP, STEP, START, profile. -/
def State.seekBody (s : State) (a : Act) (d : Int) : List Byte :=
  let n := actNum a
  leBytes 1 n ++ leBytes 1 16 ++ leBytes 2 ((Config.seekTime n d + 15) / 16) ++ leBytes 4 (s.enclTime + s.svRow a 0x0006 0 16 0 2) ++
    (List.range 16).flatMap (fun k => leInt 2 (Config.seekCurrent n d k))

/-- R327: no seek starts while every loaded head is held on track (R98). With table 0x0006, a seek of 1,000 tracks or more is announced at its commitment and starts LEAD later. -/
def State.seekAsked (s : State) (a : Act) (g track : Nat) : State :=
  if s.svState a == svFollowing then
    let d : Int := (track : Int) - (s.fld (SV_TARGET.TRACK (actNum a)) : Int)
    if s.headsFor a g = [] || s.power.frameBar then s
    else if s.svRows a 0x0006 != 0 && decide (1000 ≤ d.natAbs) then
      (((s.ebSend ebSeek none (s.seekBody a d)).closeGates a).modSv a (fun v => { v with seekWait := some (g, track) })).svGoto a svSeeking
    else s.seekNow a g track
  else if s.svState a ≤ svAcquiring && s.headsFor a g != [] then s.modSv a (fun v => { v with reqGroup := g, reqTrack := track })
  else s

/-- `group` below 16 names a group of the read-mode section, 16 + h a head that is a group of its own (R317). -/
def execSeekRequest (a : Act) (group track : Nat) (s : State) : Host.Outcome State Fault Refusal := .next (s.whileLive (fun s => s.seekAsked a group track))

def State.leadOver (s : State) (a : Act) : State :=
  match (s.sv a).seekWait with
  | some (g, t) => if s.svState a == svSeeking && !s.power.frameBar then s.seekNow a g t else s
  | none => s

def execSeekLeadExpiry (a : Act) (s : State) : Host.Outcome State Fault Refusal := .next (s.whileLive (fun s => s.leadOver a))

/-- 100 wedges in Recovering without a valid primary sample (R318, R319). -/
def State.recoveryOut (s : State) (a : Act) : State :=
  if s.svState a != svRecovering then s
  else (s.failHead a (s.fld (SV_STAT.PRIMARY (actNum a))) 4).svGoto a svAcquiring

def execRecoveryTimeout (a : Act) (s : State) : Host.Outcome State Fault Refusal := .next (s.whileLive (fun s => s.recoveryOut a))

/-! ### A wedge: the apply tick (R302, R305) -/

/-- The loops run: the arm is under position control. -/
def State.svRuns (s : State) (a : Act) : Bool := svAcquiring ≤ s.svState a && s.svState a ≤ svRecovering

/-- A command is at or above 95 % of STROKE; `c` in command units, MAGAIN nm per 1,000. -/
def State.maPercent (s : State) (a : Act) (h : Nat) (c : Int) : Nat :=
  c.natAbs * s.maRow a h 6 / Nat.max 1 (10 * s.maRow a h 0)
def State.maSat (s : State) (a : Act) (h : Nat) (c : Int) : Bool :=
  decide (95 * 10 * s.maRow a h 0 ≤ c.natAbs * s.maRow a h 6)

/-- A frame of the microactuator link: head index, command, `low` in bits 11:8, and the CRC-8 over them (R297). -/
def maFrame (h : Nat) (cmd : Int) (low : Nat) : Nat :=
  let w := h % 16 * 2 ^ 20 + toTwos 16 cmd * 16 + low
  w * 256 + crc8Bits (bitsHigh 24 w)

/-- The echo-fetch frame behind a set whose last frame is `f`: bits 11:8 all ones, command 0, the same head (R687). -/
def maFetchFrame (f : Nat) : Nat := maFrame (f / 2 ^ 28) 0 15

/-- The frames of the commands just computed, one for each following place in place order (R297). -/
def State.framesOut (s : State) (a : Act) : State :=
  let ps := (s.svPlaces a).filter (fun k => (s.place a k).active)
  s.modSv a (fun v => { v with maFrames := if s.svRuns a then ps.map (fun k => maFrame (s.place a k).head (s.place a k).pend 0) else [] })

/-- The heads whose frames of the last set were not echoed as sent (R298). A wedge in which no frames were sent has no echoes (R305, R687). -/
def State.echoWrong (s : State) (a : Act) (words : List Nat) : List Nat :=
  if (s.sv a).missed then []
  else ((s.sv a).maFrames.zipIdx.filter (fun x => words[x.2]? != some x.1)).map (fun x => x.1 / 2 ^ 28)

/-- The commands of the last wedge are applied, unless a deadline was missed. -/
def State.applyTick (s : State) (a : Act) : State :=
  let n := actNum a
  let age := fun (m : Nat) => if m = 1 then 2 else 0
  let v := s.sv a
  let s1 := s.modSv a (fun x => { x with missed := false, cmiss := age x.cmiss, fmiss := age x.fmiss })
  if v.missed || !s.svRuns a then s1
  else
    let s2 := ((s1.setVcm a true v.pendCmd).modPins (fun p => { p with maLd := p.maLd.put a (p.maLd.at a + 1) })).modSv a (fun x => { x with maFetch := v.maFrames.getLast?.map maFetchFrame })
    let s3 := s2.each (s2.svPlaces a) (fun t k =>
      let p := t.place a k
      if !p.active then t
      else
        let sat := t.maSat a p.head p.pend
        let t1 := ((t.setFld (SV_MA.CMD n k) (toTwos 16 p.pend)).setFld (SV_MA.SAT n k) (if sat then 1 else 0)).keepBest (SV_MA.PEAK n k) Nat.max (Nat.min 255 (t.maPercent a p.head p.pend))
        t1.modPlace a k (fun q => { q with nSat := if sat then Nat.min 255 (q.nSat + 1) else 0 }))
    match v.coefPend with
    | some r => s3.adoptCoefs a r
    | none => s3

/-- R296: the sensed current beside the command that was in effect; true in the fourth wedge out of tolerance. -/
def State.isnCheck (s : State) (a : Act) (cmd isn : Int) : State × Bool :=
  let bad := decide (s.loopLim a 20 1 * s.loopLim a 18 2 < 100 * (isn - cmd).natAbs)
  let n := if bad then (s.sv a).isnBad + 1 else 0
  ((s.setFld (SV_VCM.ISN (actNum a)) (toTwos 16 isn)).modSv a (fun v => { v with isnBad := n }), decide (4 ≤ n))

/-- R298: echo mismatches of this wedge, by head index. A wedge is confined where they all name one head; true in the second wedge in
a row that is not. -/
def State.echoCheck (s : State) (a : Act) (hs : List Nat) : State × Bool :=
  let one := match hs.eraseDups with
    | [h] => some h
    | _ => none
  let n := if hs = [] || one.isSome then 0 else (s.sv a).maBad + 1
  let s1 := s.modSv a (fun v => { v with maBad := n, heads := SMap.mapAll (fun _ => HeadSt.reset) v.heads (fun i x => if one = some i then x else { x with echoBad := 0 }) })
  let s2 := match one with
    | none => s1
    | some h =>
      let m := (s1.head a h).echoBad + 1
      let t := (s1.modHead a h (fun x => { x with echoBad := m })).inhibitHead a h 6
      if 3 ≤ m then t.failHead a h 3 else t
  (s2, decide (2 ≤ n))

/-! ### A wedge: samples, limits, counters (R292, R306 to R312) -/

/-- The following error of a place: of an invalid sample the estimator's prediction (R292), a free value. -/
def State.wedgeErr (s : State) (a : Act) (k : Nat) (x : Demod) : State × Int :=
  let p := s.place a k
  if x.valid then (s, x.pes - (p.toff + p.dtoff))
  else (s.drawFree, ofTwos 16 ((Config.freeValue s.freeIdx).toNat % 65536) - (p.toff + p.dtoff))

/-- One place: SV_PES, write inhibits, counters, off-track reads, the gauge. Gates: 0x1, 0x2 and 0x7 of R307. -/
def State.placeSample (s : State) (a : Act) (k : Nat) (w : WedgePlace) (x : Demod) (e : Int) : State :=
  let n := actNum a
  let p := s.place a k
  let h := p.head
  let lim := fun (off : Nat) => decide (e.natAbs ≤ s.felRow a h off)
  let up := fun (b : Bool) (c : Nat) => if b then Nat.min 255 (c + 1) else 0
  let s1 := (s.setFld (SV_PES.VALID n k) (if x.valid then 1 else 0)).setFld (SV_PES.ERR n k) (toTwos 16 e)
  let s2 := s1.modPlace a k (fun q => { q with
    ampN := burstAmp w.burstN, ampQ := burstAmp w.burstQ, seen := q.seen || x.valid, nWi := up (x.valid && lim 0) q.nWi, nRd := up (lim 1) q.nRd, nFel := up (!x.valid || !lim 2) q.nFel })
  let writing := s2.slotsOn a h != []
  let s3 := if !writing then s2
    else if !x.valid then s2.inhibitHead a h 2
    else if !lim 0 then s2.inhibitHead a h 1
    else if s2.bit (SV_MA.SAT n k) then s2.inhibitHead a h 7
    else s2
  let s4 := if lim 1 then s3
    else s3.each (s3.boundLanes a) (fun t l => if t.fld (LN_STAT.HEAD l) == h then t.modLane l (fun y => { y with offTrack := true }) else t)
  s4.sample 0x03 (fun i => i == surfNum a h) e

/-- SV_WEDGE: the primary's wedge; a number below the last one begins a revolution. Its arrival tick is kept for the measurement of
speed (R267). -/
def State.noteWedge (s : State) (a : Act) (w : Nat) : State :=
  let n := actNum a
  let last := s.fld (SV_WEDGE.WEDGE n)
  let s1 := if w < last then s.setFld (SV_WEDGE.REV n) (s.fld (SV_WEDGE.REV n) + 1) else s
  let ticks := if s.svState a != svFollowing then [] else if w == (last + 1) % 500 then (s.tick :: (s.sv a).wedgeTicks).take 501 else [s.tick]
  (s1.setFld (SV_WEDGE.WEDGE n) w).modSv a (fun v => { v with wedgeTicks := ticks })

/-- SV_SLACK and its gauges. -/
def State.noteSlack (s : State) (a : Act) (c f : Nat) : State :=
  let n := actNum a
  let s1 := (s.keepBest (SV_SLACK.COARSE n) Nat.min (Nat.min c 0xFFFF)).keepBest (SV_SLACK.FINE n) Nat.min (Nat.min f 0xFFFF)
  (s1.sample 0x04 (fun i => i == 2 * n) c).sample 0x04 (fun i => i == 2 * n + 1) f

/-! ### A wedge: runout (R321) -/

/-- LGAIN and FORGET of a learning zone; 16 and 1 without table 0x0004. -/
def State.learnGains (s : State) (a : Act) (z : Nat) : Nat × Nat :=
  if s.svRows a 0x0004 = 0 then (16, 1) else (s.svRow a 0x0004 z 8 4 1, s.svRow a 0x0004 z 8 5 1)

def rroKey (head zone w : Nat) : Nat := rroTable head zone * 512 + w

def State.rro (s : State) (a : Act) (key : Nat) : Int := SMap.get (fun _ => 0) (s.sv a).rro key

/-- c[w] moves, rounded down and clamped to 64 pu; at the end of a revolution the RMS of e is compared with the last. -/
def State.learn (s : State) (a : Act) (k w : Nat) (e : Int) : State :=
  let p := s.place a k
  let z := s.fld (SV_RRO.ZONE (actNum a))
  let g := s.learnGains a z
  let key := rroKey p.head z w
  let c := ((256 - (g.2 : Int)) * s.rro a key + (g.1 : Int) * e) / 256
  let c1 : Int := if c < -64 then -64 else if 64 < c then 64 else c
  let s1 := s.modSv a (fun v => { v with rro := SMap.set (fun _ => 0) v.rro key c1 })
  let sum := p.rms + e.natAbs * e.natAbs
  if w != 499 then s1.modPlace a k (fun q => { q with rms := sum })
  else
    let prev := p.rmsLast - 1
    let conv := p.rmsLast != 0 && (sum == prev || (decide (9025 * prev < 10000 * sum) && decide (10000 * sum < 11025 * prev)))
    let s2 := s1.modPlace a k (fun q => { q with rms := 0, rmsLast := sum + 1 })
    if conv && !(s2.sv a).rroConv.contains (rroTable p.head z) then
      (s2.modSv a (fun v => { v with rroConv := v.rroConv ++ [rroTable p.head z] })).rroSync a
    else s2

/-! ### A wedge: the loops (R294, R295, R300, R301) -/

/-- The fine loop of a place: its command, within STROKE, with the runout correction (pu, at the pitch TPNM). -/
def State.fineLoop (s : State) (a : Act) (k w : Nat) (e : Int) : State :=
  let p := s.place a k
  let cf := (s.sv a).coefs
  let gain := Nat.max 1 (s.maRow a p.head 6)
  let lim : Int := (s.maRow a p.head 0 * 1000 / gain : Nat)
  let corr : Int := s.rro a (rroKey p.head (s.fld (SV_RRO.ZONE (actNum a))) w) * (s.maRow a p.head 2 * 1000 : Nat) / (256 * gain : Nat)
  let cmd := Config.fineCommand e p.integ cf + corr
  let cmd1 := if cmd < -lim then -lim else if lim < cmd then lim else cmd
  let i := integStep p.integ (Config.integrate e p.integ cf - p.integ) ((cf[6]?).getD 0) p.hold
  s.modPlace a k (fun q => { q with pend := cmd1, integ := i, hold := q.hold - 1 })

/-- The coarse loop: the arm's position error is the primary's PES less its microactuator's displacement in the same wedge; u includes
the feed-forward; the lowest candidate wins; only the winning position loop integrates. -/
def State.coarseLoop (s : State) (a : Act) (x : Demod) (pes shk : Int) : State :=
  let n := actNum a
  let v := s.sv a
  let disp := s.maDisp a 0
  let track := if x.valid then (x.track : Int) else v.lastPos / 256
  let pos := 256 * track + pes
  let far := ((s.fld (SV_TARGET.TRACK n) : Int) - track).natAbs
  let err := 256 * (track - s.fld (SV_TARGET.TRACK n)) + pes - disp
  let vel := pos - v.lastPos
  let u := Config.positionDemand err vel v.cinteg v.coefs + s.feedForward a shk
  let sgn : Int := if u < 0 then -1 else 1
  let perMs := vel * 1000000 / (wedgeNs (s.fld SP_SPEED.SPEED) : Nat)
  let st := s.svState a
  let cands := [(0, (u.natAbs : Int))] ++ (if st == svSeeking || st == svSettling then [(1, s.velCand a sgn perMs far)] else []) ++
    [(2, (s.thermLimit a : Int))] ++ (if s.bit (SV_STAT.SHOCK n) then [(3, (s.loopLim a 16 2 : Int))] else [])
  let win := lowest 0 cands
  let ivm : Int := s.loopLim a 0 2
  let cmd := sgn * (if win.2 < -ivm then -ivm else win.2)
  let i := if win.1 = 0 then integStep v.cinteg (Config.integrate err v.cinteg v.coefs - v.cinteg) ((v.coefs[5]?).getD 0) v.chold else v.cinteg
  (s.setFld (SV_STAT.WIN n) win.1).modSv a (fun y => { y with
    pendCmd := cmd, cinteg := i, chold := y.chold - 1, lastPos := pos, i2t := s.i2tStep a (s.pins.vcmCmd.at a) })

/-! ### A wedge: the states (R312, R316, R318) -/

/-- Following-error faults and strokes of the places that follow: the primary first. -/
def State.placeFaults (s : State) (a : Act) (errs : List (Nat × Int)) : State :=
  s.each errs (fun t x =>
    let p := t.place a x.1
    let st := t.svState a
    if !p.active || st < svFollowing || svSettling < st then t
    else if t.felRow a p.head 3 ≤ p.nFel then t.folFault a x.1 x.2
    else if x.1 != 0 && 4 ≤ p.nSat then t.departAct a x.1 2
    else t)

/-- The transitions that a wedge makes. -/
def State.wedgeMoves (s : State) (a : Act) (ps : List (WedgePlace × Demod)) : State :=
  let n := actNum a
  let v := s.sv a
  let prim := (ps.head?.map (fun x => x.2)).getD ⟨false, 0, 0, 0⟩
  let act := (s.svPlaces a).filter (fun k => (s.place a k).active)
  match s.svState a with
  | 1 =>
    let c := if prim.valid then v.stWedges + 1 else 0
    if 8 ≤ c then (s.modSv a (fun x => { x with attempts := 0 })).svGoto a svAcquiring else s.modSv a (fun x => { x with stWedges := c })
  | 2 =>
    let s1 := s.modSv a (fun x => { x with stWedges := x.stWedges + 1 })
    if prim.valid && (act.all (fun k => (s1.place a k).seen) || 500 ≤ v.stWedges) then
      let s2 := s1.acquired a ps
      if s2.headsFor a (s2.sv a).reqGroup = [] then s2.seekNow a (s2.svGroup a) (s2.sv a).reqTrack
      else s2.seekNow a (s2.sv a).reqGroup (s2.sv a).reqTrack
    else s1
  | 4 =>
    if v.seekWait.isNone && prim.valid && decide ((256 * ((prim.track : Int) - s.fld (SV_TARGET.TRACK n)) + prim.pes).natAbs ≤ 128) then
      ((if v.grpAcq then s.acquired a ps else s).rroSync a).svGoto a svSettling
    else s
  | 5 =>
    if act != [] && act.all (fun k => s.felRow a (s.place a k).head 4 ≤ (s.place a k).nRd) then ((s.svGoto a svFollowing).afterFollowing a).standbyStep
    else s
  | 6 => if prim.valid then s.seekNow a v.reqGroup v.reqTrack else s
  | _ => s

/-- The wedge number predicted: the next one, once a valid sample has been seen (R292). -/
def State.nextWedge (s : State) (a : Act) : Option Nat :=
  if s.svState a == svLoading && (s.sv a).stWedges == 0 then none else some ((s.fld (SV_WEDGE.WEDGE (actNum a)) + 1) % 500)

/-- The wedges of the places, demodulated (R291, R292). -/
def State.readWedges (s : State) (a : Act) (ps : List WedgePlace) : List (WedgePlace × Demod) :=
  ps.zipIdx.map (fun y => (y.1, demodulate y.1 (s.nextWedge a) (((s.sv a).lastPos + (s.place a y.2).offs) / 256).toNat))

/-- The number of the wedge: the primary's, or the predicted one where its sample is invalid. -/
def wedgeNumber (ds : List (WedgePlace × Demod)) : Nat := (ds.head?.map (fun x => x.2.wedge)).getD 0

/-- R302: a wedge of a loaded actuator. The commands of the last wedge are applied, the samples recorded and compared, the loops run,
their frames go out, and the actuator's state follows. What waits for a wedge window is done in it (R356, R426, R427). -/
def State.wedge (s : State) (a : Act) (x : WedgeIn) : State :=
  if !s.svLoaded a then s
  else
    let ds := s.readWedges a x.places
    let w := wedgeNumber ds
    let cmd := s.pins.vcmCmd.at a
    let wrong := s.echoWrong a x.echo
    let s1 := (s.noteWedge a w).applyTick a
    let r := s1.isnCheck a cmd x.isn
    let q := r.1.echoCheck a wrong
    let m := (ds.zipIdx.filter (fun y => (q.1.place a y.2).active)).foldl
      (fun (acc : State × List (Nat × Int)) y =>
        let z := acc.1.wedgeErr a y.2 y.1.2
        (z.1.placeSample a y.2 y.1.1 y.1.2 z.2, acc.2 ++ [(y.2, z.2)])) (q.1, [])
    let s2 := ((m.1.noteSlack a x.slackC x.slackF).routesOut a x.routeBad).lsWindow a w (fun k => ((ds[k]?).map (fun y => y.2.valid)).getD false)
    if r.2 then s2.vcmFault a
    else if q.2 then s2.maFault a
    else
      let s3 := (s2.placeFaults a m.2).wedgeMoves a ds
      if !s3.svRuns a then s3.framesOut a
      else
        let hold := s3.bit (SV_STAT.SHOCK (actNum a))
        let s4 := s3.each m.2 (fun t y =>
          if !(t.place a y.1).active then t
          else
            let t1 := t.fineLoop a y.1 w y.2
            if t1.svState a == svFollowing && ((ds[y.1]?).map (fun z => z.2.valid)).getD false && !hold then t1.learn a y.1 w y.2 else t1)
        let s5 := match ds, m.2 with
          | p :: _, (0, e) :: _ => s4.coarseLoop a p.2 (e + (s4.place a 0).toff + (s4.place a 0).dtoff) x.shk
          | _, _ => s4
        (s5.framesOut a).modSv a (fun v => { v with shockLeft := v.shockLeft - 1 })

def execWedgeSample (a : Act) (x : WedgeIn) (s : State) : Host.Outcome State Fault Refusal := .next (s.whileLive (fun s => s.wedge a x))

end Sys2Proof.Machine
end

