-- ==== Sys2Proof/Machine/Sillage.lean ====
section
/-! DEFINITION. The commands of Sillage and the gauges (R618 to R636). -/
namespace Sys2Proof.Machine

def execSillageAppend (s : State) : Host.Outcome State Fault Refusal := .next (s.whileLive (fun s => s.silAppend))

/-- 0.1 h of operating time: hours, and a stamp slot (R619, R620). Hours do not count in Hibernate. -/
def State.stampTick (s : State) : State :=
  if s.power.hibernate then s else (s.setFld SL_HOURS.VALUE (s.fld SL_HOURS.VALUE + 1)).writeStamp false

def execStampTimer (s : State) : Host.Outcome State Fault Refusal := .next (s.whileLive (fun s => s.stampTick))

/-- 1 h after the first suppression of a code that no summary covers (R626). -/
def execSuppressionSummaryTimer (code : Nat) (s : State) : Host.Outcome State Fault Refusal := .next (s.whileLive (fun s => s.summary code))

/-- DURATION of an armed gauge is over: it stops and freezes (R635). -/
def State.gaugeOver (s : State) (g : Nat) : State :=
  if 64 ≤ g || !s.bit (GA_CTL.ARMED g) || SMap.get (fun _ => 0) s.sil.gaugeDur g = 0 then s else s.gaugeStop g

def execGaugeDurationEnd (g : Nat) (s : State) : Host.Outcome State Fault Refusal := .next (s.whileLive (fun s => s.gaugeOver g))

end Sys2Proof.Machine
end

