-- ==== Sys2Proof/Machine/Thermal.lean ====
section
/-! DEFINITION. Thermal protection (R607 to R617): conversions, exclusion, the thermal states, shutdown and restart. -/
namespace Sys2Proof.Machine

/-! ### Sensors (R607 to R609); readings in 0.25 degrees -/

/-- The sensorNbrs of a sensor. -/
def sensorNbrs (n : Nat) : List Nat :=
  let row := fun (lo : Nat) (other : Nat) => (if lo < n then [n - 1] else []) ++ (if n < lo + 6 then [n + 1] else []) ++ [other]
  if n < 7 then row 0 (n + 7)
  else if n < 14 then row 7 (n - 7)
  else if n < 18 then [14, 15, 16, 17].filter (· != n)
  else [18, 19, 20, 21].filter (· != n)

def State.excluded (s : State) (n : Nat) : Bool := s.fldBit TH_EXCL.SENS n
def State.reading (s : State) (n : Nat) : Int := ofTwos 16 (s.fld (TH_SENS.TEMP n))

def State.sensor (s : State) (n : Nat) : Sensor := SMap.get (fun _ => Sensor.reset) s.thermal.sensors n
def State.modSensor (s : State) (n : Nat) (f : Sensor → Sensor) : State :=
  { s with thermal := { s.thermal with sensors := SMap.modify (fun _ => Sensor.reset) s.thermal.sensors n f } }

def insertInt (x : Int) : List Int → List Int
  | [] => [x]
  | y :: l => if x ≤ y then x :: y :: l else y :: insertInt x l

/-- The reference of a sensor: the median of the readings of its sensorNbrs not excluded; of two, their mean, rounded down. -/
def State.reference (s : State) (n : Nat) : Option Int :=
  match ((sensorNbrs n).filter (fun k => !s.excluded k)).map s.reading |>.foldr insertInt [] with
  | [] => none
  | [a] => some a
  | [a, b] => some ((a + b) / 2)
  | l => l[l.length / 2]?

/-- TJ (R608): the highest reading of the sensors that have converted and are not excluded; with all excluded it stays. -/
def State.tjSync (s : State) : State :=
  match ((List.range 22).filter (fun k => !s.excluded k && s.bit (TH_SENS.VALID k))).map s.reading with
  | [] => s
  | x :: l => s.setFld TH_STAT.TJ (toTwos 16 (l.foldl (fun a b => if a < b then b else a) x))

def State.tj (s : State) : Int := ofTwos 16 (s.fld TH_STAT.TJ)

/-! ### Entering a state (R613, R615) -/

def thNormal : Nat := 0
def thWarning : Nat := 1
def thThrottle : Nat := 2
def thShutdown : Nat := 3

def State.thState (s : State) : Nat := s.fld TH_STAT.STATE

/-- TJ is below a threshold less HYST. -/
def State.below (s : State) (lim : Nat) : Bool := decide (s.tj < (4 * lim : Nat) - (4 * s.fld TH_LIMITS.HYST : Nat))

/-- The threshold below which, less HYST, TJ must come for the current state to end. -/
def State.thLevel (s : State) : Option Nat :=
  match s.thState with
  | 1 => some (s.fld TH_LIMITS.WARN)
  | 2 => some (s.fld TH_LIMITS.THROT)
  | 3 => some (s.fld TH_LIMITS.SHUT)
  | _ => none

/-- The count of R613 follows TJ: from the tick at which TJ has fallen below the level, and afresh at the entry into a state (`entry`). -/
def State.thTrack (s : State) (entry : Bool) : State :=
  let v := if s.thLevel.any s.below then (if entry || s.thermal.below.isNone then some s.tick else s.thermal.below) else none
  { s with thermal := { s.thermal with below := v } }

/-- TJ has been below the level of the current state for `secs` seconds (R613). -/
def State.thCool (s : State) (secs : Nat) : Bool := s.thLevel.any s.below && s.thermal.below.any (fun t => decide (t + secTicks secs ≤ s.tick))

/-- TH_STAT.STATE and record 0x1502; entries into Throttle count. -/
def State.thEnter (s : State) (st : Nat) : State :=
  let s1 := ((s.setFld TH_STAT.STATE st).record 0x1502 (leBytes 1 st ++ zeros 1 ++ leBytes 2 (s.fld TH_STAT.TJ))).thTrack true
  s1.when (st == thThrottle) (fun t => t.bump TH_EVT.THROTTLE)

/-- Lanes, write slots and DD0 to DD3 go idle: frames waiting in a write slot are abandoned, frames in a unit are queued again at
their step, calibration runs are abandoned (R435, R615). -/
def State.idleEngines (s : State) : State :=
  let s1 := (s.abandonRuns (fun _ => true)).each lanes9 State.laneOff
  s1.each (s1.decode.active.filter (fun r => r.unit.isSome)) (fun t r => t.enqueue r)

/-- R615. -/
def State.thermalTrip (s : State) : State :=
  let s1 := s.closeAllGates.retractTrigger
  let s2 := s1.modPins (fun p => { p with thermtripL := true })
  let s3 := (s2.modPower (fun p => { p with rideTimer := false, msTimer := false, frozen := true, mediaHold := true, frameBar := true })).setFld HM_STAT.SREF 0xF
  let s4 := (((s3.idleEngines.holdFrom).bump TH_EVT.SHUTDOWN).setBit TH_STAT.TRIPPED).thEnter thShutdown
  { s4 with thermal := { s4.thermal with shutTicks := recent s.tick (secTicks 3600 + 1) s.thermal.shutTicks, shutTick := s.tick, shutTj := s.fld TH_STAT.TJ } }

/-- The thresholds a sensor has crossed upward: SHUT from any other state, THROT from Normal and Warning, WARN from Normal. -/
def State.thCross (s : State) (n : Nat) : State :=
  let x := s.sensor n
  if 2 ≤ x.nShut && s.thState != thShutdown then s.thermalTrip
  else if 2 ≤ x.nThrot && s.thState < thThrottle then (s.thEnter thThrottle).aerTemperature
  else if 2 ≤ x.nWarn && s.thState == thNormal then (s.thEnter thWarning).aerTemperature
  else s

/-- The greater of two 16-bit two's complement values. -/
def greatestTwos (a b : Nat) : Nat := if ofTwos 16 a < ofTwos 16 b then b else a

/-- The reading of sensor `n` differs from its reference by more than 8 degrees (R609); a sensor with no reference is not checked. -/
def State.differs (s : State) (n : Nat) : Bool := (s.reference n).any (fun v => decide (32 < (s.reading n - v).natAbs))

/-- One conversion of sensor `n`, in 0.25 degrees: TH_SENS, TJ and its peak, the gauges, and the comparisons of a sensor that is not
excluded. -/
def State.conversion (s : State) (n : Nat) (temp : Int) : State :=
  if 22 ≤ n || s.power.phase != .done then s
  else
    let v : Int := if temp < -220 then -220 else if 600 < temp then 600 else temp
    let s1 := ((s.setFld (TH_SENS.TEMP n) (toTwos 16 v)).setBit (TH_SENS.VALID n)).tjSync
    let s2 := s1.keepBest TH_PEAK.TJMAX greatestTwos (s1.fld TH_STAT.TJ)
    let s3 := (s2.sample 0x08 (fun i => i == n) v).sample 0x08 (fun i => i == 0x3F) s2.tj
    if s3.excluded n then s3.thTrack false
    else
      let up := fun (lim c : Nat) => if decide (((4 * lim : Nat) : Int) ≤ v) then Nat.min 2 (c + 1) else 0
      (s3.modSensor n (fun x => { x with
        nWarn := up (s3.fld TH_LIMITS.WARN) x.nWarn, nThrot := up (s3.fld TH_LIMITS.THROT) x.nThrot, nShut := up (s3.fld TH_LIMITS.SHUT) x.nShut, prev := some (toTwos 16 v)
        offSince := if s3.differs n then (if x.offSince.isNone then some s.tick else x.offSince) else none, last := s.tick })).thCross n |>.thTrack false

def execSensorConversion (n : Nat) (temp : Int) (s : State) : Host.Outcome State Fault Refusal := .next (s.whileLive (fun s => (s.conversion n temp).standbyStep))

/-! ### Exclusion (R609 to R611) -/

/-- R611 holds: more than 4 controller sensors, or a whole group, excluded. -/
def State.blind (s : State) : Bool :=
  decide (4 < ((List.range 14).filter s.excluded).length) || [14, 15, 16, 17].all s.excluded || [18, 19, 20, 21].all s.excluded

/-- An exclusion (R610), until the next reset: TH_EXCL, TH_SENS, record 0x1501, a Unit-class fault; where R611 comes to hold, Throttle. A reference that does not exist
is recorded as a free value. -/
def State.exclude (s : State) (n : Nat) : State :=
  if 22 ≤ n || s.excluded n then s
  else
    let r := s.reference n
    let s0 := if r.isNone then s.drawFree else s
    let rv := match r with
      | some v => toTwos 16 v
      | none => (Config.freeValue s.freeIdx).toNat % 65536
    let s1 := (s0.setFldBit TH_EXCL.SENS n true).setBit (TH_SENS.EXCL n)
    let s2 := s1.setFld TH_STAT.NEXCL (s1.fld TH_STAT.NEXCL + 1)
    let s3 := ((s2.record 0x1501 (leBytes 1 n ++ zeros 1 ++ leBytes 2 (s.fld (TH_SENS.TEMP n)) ++ leBytes 2 rv ++ zeros 2)).unitFault).tjSync
    let s4 := s3.modSensor n (fun _ => Sensor.reset)
    if s4.blind && !s4.bit TH_STAT.BLIND then
      let s5 := s4.setBit TH_STAT.BLIND
      let s6 := if s5.thState < thThrottle then s5.thEnter thThrottle else s5
      if s.thState == thNormal then s6.aerTemperature else s6
    else s4

/-- The condition of R609 is met for sensor `n`: its reading stands at an end of the range, has differed from the reference in every
conversion for more than 1 s, or it has not converted for 1 ms. -/
def State.exclusionDue (s : State) (n : Nat) : Bool :=
  let x := s.sensor n
  s.bit (TH_SENS.VALID n) && (s.reading n == -220 || s.reading n == 600 || x.offSince.any (fun t => decide (t + secTicks 1 < s.tick)) || decide (x.last + 25000 ≤ s.tick))

def execSensorExclusion (n : Nat) (s : State) : Host.Outcome State Fault Refusal := .next (s.whileLive (fun s => if s.exclusionDue n then (s.exclude n).thTrack false else s))

/-! ### Cooling down (R613, R616) -/

/-- The VM state afresh (R102): Normal where VM has been above warning clear for 1 ms, which ends any ride-through; otherwise
Ride-through with a new timer, which is a ride-through of R98 only where one goes on or the state was Normal. -/
def State.vmAfresh (s : State) : State :=
  let s1 := s.modPower (fun p => { p with frozen := false })
  if s1.power.vmGood then (s1.rideEnd 0).vmToNormal
  else if s1.vmState = vmNormal then s1.rideBegin
  else s1.rideHold

/-- R616. In Base-note mode only steps 1 and 4 (R667). -/
def State.thRestart (s : State) : State :=
  let ms := (s.tick - s.thermal.shutTick) / 25000
  let s1 := (s.modPins (fun p => { p with thermtripL := false })).setFld HM_STAT.SREF (if s.pwState == pwStandby then 0xF else 0)
  let s2 := s1.vmAfresh
  let s3 := if s2.bit FB_STAT.BASENOTE then s2 else s2.wantSpin.restoreBoth
  (s3.thEnter thThrottle).record 0x1503 (leBytes 4 ms ++ leBytes 2 (s.fld TH_PEAK.TJMAX) ++ zeros 2)

/-- TJ has stayed below the level of the current state for the time of R613. A third shutdown has released THERMTRIP_L and stays. -/
def State.cooled (s : State) : State :=
  match s.thState with
  | 1 => if s.thCool 1 then s.thEnter thNormal else s
  | 2 => if s.thCool 1 && !s.bit TH_STAT.BLIND then s.thEnter thWarning else s
  | 3 =>
    if !s.thCool 10 || !s.pins.thermtripL then s
    else if 3 ≤ s.thermal.shutTicks.length then (s.modPins (fun p => { p with thermtripL := false })).baseNote 9 s.thermal.shutTj
    else s.thRestart
  | _ => s

def execThermalHysteresisTimer (s : State) : Host.Outcome State Fault Refusal := .next (s.whileLive (fun s => s.cooled.standbyStep))

end Sys2Proof.Machine
end

