-- ==== Sys2Proof/Machine/EventOrder.lean ====
section
/-! DEFINITION. The order of events (R22, R61 to R70): the class, kind, actuator and unit of each event among the commands, the merging
of occurrences within a tick, the hardware actions at the recording tick, and the order of dispatch. -/
namespace Sys2Proof.Machine

/-- Where an event stands in the order of R65 and R66: its class 0 to 7, its kind's index within the class, actuator A (0) before B (1),
the unit's number. -/
structure EventRank where
  cls : Nat
  kind : Nat
  act : Nat
  unit : Nat
  deriving DecidableEq, Repr

/-- This conversion is the second in a row at or above SHUT: the thermal trip (R612, R615). -/
def State.tripsAt (s : State) (n : Nat) (temp : Int) : Bool :=
  decide (n < 22) && !s.excluded n && s.thState != thShutdown && decide (1 ≤ (s.sensor n).nShut) && decide (((4 * s.fld TH_LIMITS.SHUT : Nat) : Int) ≤ temp)

/-- The rank of an event (R65, R66); none for a command that is no sampled event. The fault pins of an actuator and a missed deadline are
recorded as off-track write inhibits (R299, R303). An ECC event has no command of its own: it arises within the access that meets it. -/
def State.eventRank (s : State) (c : Instr) : Option EventRank :=
  let p0 := fun (k : Nat) => some (EventRank.mk 0 k 0 0)
  let p1 := fun (k u : Nat) => some (EventRank.mk 1 k 0 u)
  let p2 := fun (k : Nat) (a : Act) => some (EventRank.mk 2 k (actNum a) 0)
  let p4 := fun (k l : Nat) => some (EventRank.mk 4 k (actNum (s.lnAct l)) l)
  let p6 := fun (k u : Nat) => some (EventRank.mk 6 k 0 u)
  let timer := fun (u : Nat) => some (EventRank.mk 7 0 0 u)
  let timerOf := fun (a : Act) => some (EventRank.mk 7 0 (actNum a) 0)
  let house := fun (u : Nat) => some (EventRank.mk 7 3 0 u)
  match c with
  | .sensorConversion n temp => if s.tripsAt n temp then p0 0 else some ⟨7, 1, 0, n⟩
  | .vmLoss => p0 1
  | .referenceLoss => p0 2
  | .spindleOvercurrent => p1 0 0
  | .gateDriveUndervoltage => p1 0 1
  | .chopperFault _ => p1 1 0
  | .vmOvervoltage44 => p1 2 0
  | .vmOvervoltage46 => p1 2 1
  | .commutationLockLoss => p1 3 0
  | .vcmFaultPin a => p2 0 a
  | .maDriverFaultPin a => p2 0 a
  | .servoDeadlineMiss a _ => p2 0 a
  | .shock a => p2 1 a
  | .vmWarning => some ⟨2, 2, 0, 0⟩
  | .wedgeSample a _ => some ⟨3, 0, actNum a, 0⟩
  | .syncDecision l x y => p4 (if (s.syncVerdict l x y).1.isSome then 0 else 1) l
  | .sectorEnd l _ => p4 2 l
  | .moverSetComplete c .. => some ⟨5, 2, 0, c⟩
  | .moverHalt c .. => some ⟨5, 2, 0, c⟩
  | .sqDoorbell k q _ => p6 0 (2 * q + k)
  | .cqHeadDoorbell k q _ => p6 0 (2 * q + k)
  | .srDoorbell r _ _ _ _ => p6 1 r
  | .hello h _ _ _ => p6 2 h.port
  | .roster h _ => p6 2 h.port
  | .leader h _ => p6 2 h.port
  | .layout h _ _ _ _ => p6 2 h.port
  | .ack h => p6 2 h.port
  | .heartbeat h _ _ => p6 2 h.port
  | .failnote h _ _ _ => p6 2 h.port
  | .leave h _ => p6 2 h.port
  | .pupd h _ _ _ _ _ => p6 2 h.port
  | .qupd h _ _ _ _ _ => p6 2 h.port
  | .updack h _ => p6 2 h.port
  | .pcopy h _ _ => p6 2 h.port
  | .prelease h _ => p6 2 h.port
  | .cread h _ _ => p6 2 h.port
  | .cdata h _ _ _ _ => p6 2 h.port
  | .pstate h _ _ _ => p6 2 h.port
  | .ptpMessage p _ _ => p6 2 p
  | .neighborDiscovery p => p6 2 p
  | .icmpv6EchoRequest p => p6 2 p
  | .mldQuery p => p6 2 p
  | .eweridDatagramDropped => p6 2 0
  | .claim .. => p6 3 0
  | .tick .. => p6 3 0
  | .tokreq .. => p6 3 0
  | .tokgrant .. => p6 3 0
  | .tokret .. => p6 3 0
  | .seek .. => p6 3 0
  | .health .. => p6 3 0
  | .hquery .. => p6 3 0
  | .wake .. => p6 3 0
  | .ebStrangerFrame _ => p6 3 0
  | .helperRateMeasurement _ => timer 0
  | .referenceRestored => timer 0
  | .vmWarningClear => timer 0
  | .recoveryWaitExpiry => timer 0
  | .rideTimerExpiry => timer 0
  | .vmRestored => timer 0
  | .vmMeasurement _ => timer 0
  | .idleTimerExpiry => timer 0
  | .retractRelease a => timerOf a
  | .helperDrainTimeout h _ => timer h
  | .safePointLapse h => timer h
  | .stewardWatchdogExpiry .. => timer 0
  | .moverTimeout c => timer c
  | .shortHoldEnd => timer 0
  | .alignmentTimeout => timer 0
  | .spindleAtSpeed => timer 0
  | .spindleStartTimeout => timer 0
  | .speedLoopUpdate => timer 0
  | .slewUpdate _ => timer 0
  | .spdAinSample _ => timer 0
  | .sourceLost => timer 0
  | .followingErrorTimeout => timer 0
  | .shockHoldEnd a => timerOf a
  | .loadTimeout a => timerOf a
  | .seekLeadExpiry a => timerOf a
  | .recoveryTimeout a => timerOf a
  | .assistLoopBoundary a _ _ => timerOf a
  | .assistDeadlineMiss a => timerOf a
  | .overtempTrip a _ _ => some ⟨7, 3, actNum a, 0⟩
  | .coolingEnd a _ => timerOf a
  | .tintLost a => timerOf a
  | .unitOvertime u => timer u
  | .neighbourWaitExpiry .. => timer 0
  | .lsWaitTimeout .. => timer 0
  | .unreadableTimeout .. => timer 0
  | .calTimeout l => timer l
  | .degradedRecalTimer => timer 0
  | .rootWriteTimer => timer 0
  | .rebuildCursorTimer => timer 0
  | .mediaTimeInterval .. => timer 0
  | .announceTimeout => timer 0
  | .ppsSecond => timer 0
  | .heartbeatTimer => timer 0
  | .memberSilent n => timer n
  | .probeTimeout n => timer n
  | .updackTimeout .. => timer 0
  | .partnerTimeout => timer 0
  | .rollCallSlot => timer 0
  | .rollCallClose => timer 0
  | .phaseBoundExpiry => timer 0
  | .interruptCoalesceTimer .. => timer 0
  | .tlerExpiry .. => timer 0
  | .deletionDrainTimeout .. => timer 0
  | .activationDrainTimeout => timer 0
  | .l2Timeout => timer 0
  | .ringDrainTimeout r => timer r
  | .quiesceTimeout _ => timer 0
  | .restoreTimeout _ => timer 0
  | .mediaHoldExpiry a => timerOf a
  | .csmaBackoffExpiry => timer 0
  | .electionListenEnd => timer 0
  | .claimCollectEnd => timer 0
  | .tickTimer => timer 0
  | .masterLoss => timer 0
  | .tokenLeaseExpiry .. => timer 0
  | .mepochWaitExpiry => timer 0
  | .healthTimer => timer 0
  | .localSpinupDelayEnd => timer 0
  | .thermalHysteresisTimer => some ⟨7, 1, 0, 0⟩
  | .sensorExclusion n => some ⟨7, 1, 0, n⟩
  | .gaugeDurationEnd g => some ⟨7, 2, 0, g⟩
  | .freePageGaugeSample => some ⟨7, 2, 0, 0⟩
  | .stampTimer => house 0
  | .suppressionSummaryTimer .. => house 0
  | .patrolStripe .. => house 0
  | _ => none

/-- What an event of class P0 or P2 does in hardware at the tick that records it (R69): gates closed with assist, the emergency retract,
the write inhibit of the actuator's heads, the bar on frame starts. -/
def State.hardwareAction (s : State) (c : Instr) : State :=
  match c with
  | .sensorConversion n temp => s.when (s.live && s.tripsAt n temp) (fun t => t.closeAllGates.retractTrigger)
  | .vmLoss => s.when s.watching (fun t => t.closeAllGates.retractTrigger)
  | .referenceLoss => s.closeAllGates
  | .vmWarning => s.when s.watching (fun t => t.modPower (fun p => { p with frameBar := true }))
  | .vcmFaultPin a => s.closeGates a
  | .maDriverFaultPin a => s.closeGates a
  | .servoDeadlineMiss a _ => s.closeGates a
  | .shock a => s.closeGates a
  | _ => s

/-! ### What a helper sees of an event (R151) -/

/-- The roles, with PARAM, whose helpers take the event at their next safe point; every other event is the steward's (DEDUCED from
the roles' chapters, assumption 106). -/
def State.eventRoles (s : State) (c : Instr) : List (Nat × Nat) :=
  match c with
  | .wedgeSample a _ => [(2, actNum a), (3, actNum a)]
  | .vcmFaultPin a => [(2, actNum a)]
  | .servoDeadlineMiss a _ => [(2, actNum a)]
  | .shock a => [(2, actNum a)]
  | .shockHoldEnd a => [(2, actNum a)]
  | .loadTimeout a => [(2, actNum a)]
  | .recoveryTimeout a => [(2, actNum a)]
  | .seekLeadExpiry a => [(2, actNum a)]
  | .maDriverFaultPin a => [(3, actNum a)]
  | .assistLoopBoundary a _ _ => [(4, actNum a)]
  | .overtempTrip a _ _ => [(4, actNum a)]
  | .coolingEnd a _ => [(4, actNum a)]
  | .tintLost a => [(4, actNum a)]
  | .spindleOvercurrent => [(5, 0)]
  | .gateDriveUndervoltage => [(5, 0)]
  | .chopperFault _ => [(5, 0)]
  | .vmOvervoltage44 => [(5, 0)]
  | .vmOvervoltage46 => [(5, 0)]
  | .commutationLockLoss => [(5, 0)]
  | .alignmentTimeout => [(5, 0)]
  | .spindleAtSpeed => [(5, 0)]
  | .spindleStartTimeout => [(5, 0)]
  | .speedLoopUpdate => [(5, 0)]
  | .slewUpdate _ => [(5, 0)]
  | .followingErrorTimeout => [(5, 0)]
  | .shortHoldEnd => [(5, 0)]
  | .syncDecision l _ _ => [(1, l)]
  | .sectorEnd l _ => [(1, l)]
  | .sqDoorbell .. => [(8, 0)]
  | .cqHeadDoorbell .. => [(8, 0)]
  | .rebuildCursorTimer => [(12, 0)]
  | .patrolStripe .. => [(12, 0)]
  | _ => match s.eventRank c with
    | some ⟨6, 2, _, p⟩ => [(9, p)]
    | some ⟨6, 3, _, _⟩ => [(10, 0)]
    | _ => []

/-- The event is pending for those helpers, as 16 x class + kind. -/
def State.noteEvent (s : State) (c : Instr) : State :=
  match s.eventRank c with
  | none => s
  | some r => s.each (s.eventRoles c) (fun t p => t.onSome (t.helperOf p.1 p.2) (fun u h => u.modHelper h (fun x => { x with events := x.events ++ [16 * r.cls + r.kind] })))

/-! ### The order (R67) -/

/-- The place of an event in the one order of R67: class, then tick, then kind, actuator and unit. -/
def EventRank.key (r : EventRank) (tick : Nat) : List Nat := [r.cls, tick, r.kind, r.act, r.unit]

def keyLess : List Nat → List Nat → Bool
  | [], _ => false
  | _ :: _, [] => false
  | x :: l, y :: m => decide (x < y) || (x == y && keyLess l m)

/-- The key of an event that waits. -/
def State.waitKey (s : State) (e : Recorded) : List Nat :=
  match s.eventRank e.cmd with
  | some r => r.key e.tick
  | none => [8, e.tick]

/-- An event enters the order behind those that are not after it. -/
def State.insertEvent (s : State) (e : Recorded) : List Recorded → List Recorded
  | [] => [e]
  | x :: l => if keyLess (s.waitKey e) (s.waitKey x) then e :: x :: l else x :: s.insertEvent e l

/-- A frame is no edge: each that arrives is one of its own (R62). -/
def EventRank.edge (r : EventRank) : Bool := !(r.cls == 6 && 2 ≤ r.kind)

/-- The tick sampler records an event (R61, R62, R67, R69), which for a level input is the change of its level (R63): one that has been recorded in this tick already is merged and counts in
TB_MERGE; otherwise its hardware action is taken and it waits in its place. A command that is no event joins the queue of commands. -/
def State.recordEvent (s : State) (c : Instr) : State :=
  match s.eventRank c with
  | none => { s with pending := s.pending ++ [c] }
  | some r =>
    if r.edge && s.tickMem.events.contains c then s.bump TB_MERGE.COUNT
    else
      let s1 := { s with tickMem := { s.tickMem with events := c :: s.tickMem.events }, recorded := s.insertEvent ⟨s.tick, c⟩ s.recorded }
      s1.hardwareAction c

/-- Events sampled at this tick, in any order of arrival. -/
def State.recordEvents (s : State) (cs : List Instr) : State := s.each cs State.recordEvent

end Sys2Proof.Machine
end

