-- ==== Sys2Proof/Machine/Spindle.lean ====
section
/-! DEFINITION. The spindle commands (R253 to R287). -/
namespace Sys2Proof.Machine

/-! ### Starting (R271, R274) -/

def execSpindleStartRequest (s : State) : Host.Outcome State Fault Refusal :=
  .next (s.whileLive (fun s => s.when (s.bit EB_TOKEN.HELD) State.spBegin))

/-- SP_CATCH. -/
def State.catchRec (s : State) (result : Nat) (back : Bool) (speed : Nat) : State :=
  ((s.setFld SP_CATCH.RESULT result).setFld SP_CATCH.DIR (if back then 1 else 0)).setFld SP_CATCH.SPEED speed

/-- Alignment starts (R265): a short is released, and the pair of opposite d-axis pulses of amplitude ALIGNI runs. -/
def State.spAlign (s : State) : State :=
  (((s.modSp (fun p => { p with startPend := false, holding := false })).spDrive .pwm).modSp (fun p => { p with alignI := s.startProf 0 2, iCmd := 0, dCmd := 0 })).spGoto spAligning

/-- Accelerating is entered: the set-point ramps from `speed`, and the loops start without current. -/
def State.spAccel (s : State) (speed angle : Nat) : State :=
  ((((s.spDrive .pwm).modSp (fun p => { p with integ := 0, iCmd := 0, dCmd := 0, angle := angle, startPend := false })).moveSlewed (speed * 1000)).setFld SP_STAT.POSSRC
    (if 4800 ≤ speed then 1 else 0)).spGoto spAccelerating

/-- The decision after 5 ms: back-EMF amplitude in mV, direction, speed in 1/8 rpm, and the angle that seeds the observer. -/
def State.observed (s : State) (amp : Nat) (back : Bool) (speed angle : Nat) : State :=
  if s.spState != spObserving then s
  else if amp < s.startProf 8 2 then (s.catchRec 3 false 0).spAlign
  else if !back && 2400 ≤ speed then (s.catchRec 1 false speed).spAccel speed angle
  else (((s.catchRec 2 back speed).modSp (fun p => { p with startPend := true, holding := false })).spShort).spGoto spShortBraking

def execObservationEnd (amp : Nat) (backward : Bool) (speed angle : Nat) (s : State) : Host.Outcome State Fault Refusal :=
  .next (s.whileLive (fun s => s.observed amp backward speed angle))

def State.brakeStopped (s : State) : State :=
  if s.spState != spShortBraking || s.spindle.drive != .short then s
  else if s.spindle.startPend then s.spAlign
  else s.modSp (fun p => { p with holding := true })

def execShortBrakeStopped (s : State) : Host.Outcome State Fault Refusal := .next (s.whileLive (fun s => s.brakeStopped))

def State.holdEnd (s : State) : State :=
  if s.spState != spShortBraking || !s.spindle.holding then s
  else if s.spindle.startPend then s.spAlign
  else (((s.modSp (fun p => { p with holding := false })).spDrive .off).spGoto spStopped).afterStopped

def execShortHoldEnd (s : State) : Host.Outcome State Fault Refusal := .next (s.whileLive (fun s => s.holdEnd))

/-- R265: the polarity whose pulse gives the larger saturation response; `angle` is the angle found. -/
def State.aligned (s : State) (angle respPos respNeg : Nat) : State :=
  if s.spState != spAligning then s
  else
    let pos := if respPos = respNeg then Config.polarityTie else decide (respNeg < respPos)
    (s.modSp (fun p => { p with polarity := pos })).spAccel 0 angle

def execAlignmentResult (angle respPos respNeg : Nat) (s : State) : Host.Outcome State Fault Refusal := .next (s.whileLive (fun s => s.aligned angle respPos respNeg))

def State.alignTimeout (s : State) : State :=
  if s.spState != spAligning then s
  else if s.spindle.attempts + 1 < 3 then
    (s.modSp (fun p => { p with attempts := p.attempts + 1 })).spObserve
  else s.spFault SP_FAULT.STARTFAIL .off

def execAlignmentTimeout (s : State) : Host.Outcome State Fault Refusal := .next (s.whileLive (fun s => s.alignTimeout))

/-- Locked, with the ramp at the target: head loading permitted, the token returned (R600), boot and return loads (R694, R110). -/
def execSpindleAtSpeed (s : State) : Host.Outcome State Fault Refusal :=
  .next (s.whileLive (fun s => s.when (s.spState == spAccelerating && s.fld SP_SPEED.SLEWED == s.fld SP_TARGET.TARGET) (fun t =>
    (((t.spGoto spLocked).setBit SP_STAT.ATSPEED).returnToken).afterLocked)))

def execSpindleStartTimeout (s : State) : Host.Outcome State Fault Refusal :=
  .next (s.whileLive (fun s => s.when (s.spState == spAccelerating) (fun t => t.spFault SP_FAULT.STARTFAIL .short)))

def execSlewComplete (s : State) : Host.Outcome State Fault Refusal :=
  .next (s.whileLive (fun s => s.when (s.spState == spSlewing && s.fld SP_SPEED.SLEWED == s.fld SP_TARGET.TARGET) (fun t => ((t.spGoto spLocked).setBit SP_STAT.ATSPEED).afterLocked)))

/-! ### Stopping -/

/-- A stop request; a token held goes back at Short-braking (R605). -/
def execSpindleStopRequest (s : State) : Host.Outcome State Fault Refusal := .next (s.whileLive (fun s => s.stopSpindle))

def execRegenBrakeEnd (s : State) : Host.Outcome State Fault Refusal :=
  .next (s.whileLive (fun s => s.when (s.spState == spShortBraking && s.spindle.drive == .regen) State.spShort))

/-! ### Faults (R263, R264, R268, R272, R275 to R280) -/

/-- Loss of commutation lock (R271): a second within 10 s is a fault. -/
def State.lockLost (s : State) : State :=
  if !s.spTurning then s
  else
    let again := match s.spindle.lockLoss with
      | some t => decide (s.tick < t + secTicks 10)
      | none => false
    let s1 := s.modSp (fun p => { p with lockLoss := some s.tick })
    if again then s1.spFault SP_FAULT.LOCKLOSS .short
    else (s1.modSp (fun p => { p with startPend := true })).spObserve

def execCommutationLockLoss (s : State) : Host.Outcome State Fault Refusal := .next (s.whileLive (fun s => s.lockLost))

/-- Two consecutive sample sets above IMAX; not detected while the windings are shorted (R272). -/
def execSpindleOvercurrent (s : State) : Host.Outcome State Fault Refusal :=
  .next (s.whileLive (fun s => s.when (decide (2 ≤ s.spindle.overCount) && s.spindle.drive != .short) (fun t => t.spFault SP_FAULT.OVERCURRENT .off)))

def execGateDriveUndervoltage (s : State) : Host.Outcome State Fault Refusal := .next (s.whileLive (fun s => s.spFault SP_FAULT.VGDUV .off))

/-- R262, R263: from injection to the observer on a speed rising through 600 rpm, back on one falling through 540 rpm; estimates that
do not agree within 100 ms lose the lock. -/
def State.handover (s : State) (rising agree : Bool) : State :=
  let v := s.fld SP_SPEED.SPEED
  let due := if rising then !s.bit SP_STAT.POSSRC && decide (4800 ≤ v) else s.bit SP_STAT.POSSRC && decide (v < 4320)
  if !s.spTurning || !due then s
  else if agree then s.setFld SP_STAT.POSSRC (if rising then 1 else 0)
  else s.lockLost

def execPositionHandover (rising agree : Bool) (s : State) : Host.Outcome State Fault Refusal := .next (s.whileLive (fun s => s.handover rising agree))

/-- The bridge is switching. -/
def State.switching (s : State) : Bool := s.spindle.drive == .pwm || s.spindle.drive == .regen

/-- The lower clamp of R254 in the resolution of 5 ns: never below 2 x DEADT. -/
def State.dutyFloor (s : State) : Nat := (2 * s.motor 18 2 + 4) / 5

def State.clampDuty (s : State) (d : Int) : Nat := Nat.max s.dutyFloor (Nat.min d.toNat (4000 - s.dutyFloor))

def greatest (l : List Int) : Int := l.foldl (fun a b => if a < b then b else a) (l.headD 0)
def least (l : List Int) : Int := l.foldl (fun a b => if b < a then b else a) (l.headD 0)

/-- The duties of three phase demands: the middle of the greatest and the least taken off each (min-max zero-sequence injection),
half a period added, clamped (R254). -/
def State.dutiesOf (s : State) (us : List Int) : List Nat := us.map (fun u => s.clampDuty (2000 + u - (greatest us + least us) / 2))

/-- Twice the distance of R259 from this sample to the nearest edge, in 5 ns: at the centre the lowest duty, at the period start what the
highest of the two adjoining periods leaves. -/
def State.edgeDistance (s : State) : Nat :=
  let p := s.spindle
  if p.atCentre then (p.duties.foldl Nat.min 4000) else 4000 - (p.duties ++ p.nextDuties).foldl Nat.max 0

/-- Narrow (R259): nearer than 1.2 us to an edge. -/
def State.narrow (s : State) : Bool := s.switching && decide (s.edgeDistance < 480)

/-- The current loops (R262, R266): the rotor angle from the source in use, the three demands, the d-axis command above the voltage limit,
the duties for the next period. -/
def State.currentLoops (s : State) (iu iv : Int) (volts : List Nat) : State :=
  let p := s.spindle
  let obs := s.bit SP_STAT.POSSRC
  let hfi := s.startProf 2 2
  let ang := (if obs then Config.observerAngle s.observerModel p.angle iu iv volts else Config.injectionAngle hfi p.angle iu iv volts) % 3600
  let us := [0, 1, 2].map (fun k => Config.phaseDemand k ang iu iv p.iCmd p.dCmd (if obs then 0 else hfi))
  let excess := (greatest us - least us - (4000 - 2 * s.dutyFloor : Nat)).toNat
  s.modSp (fun q => { q with angle := ang, nextDuties := s.dutiesOf us, dCmd := if excess = 0 then 0 else -(Nat.min (Config.weaken excess) (s.irun / 2) : Nat) })

/-- R258, R259, R266, R272: one sample set of 12-bit codes; the second in a row above IMAX records an overcurrent; a current code c is c x 16 of IFS / 32,768, W the negative sum of U and V. At
the period start the duties computed last come into effect, and a period has refreshed each bootstrap capacitor (R255). -/
def State.sampleSet (s : State) (iu iv : Int) (volts : List Nat) (vm : Nat) : State :=
  let s1 := (s.setFld SP_CURR.IU (toTwos 16 (iu * 16))).setFld SP_CURR.IV (toTwos 16 (iv * 16))
  let s2 := s1.when s.narrow (fun t => t.bump SP_DIST.NARROW)
  let above := [iu, iv, -(iu + iv)].any (fun i => decide (s.motor 12 2 * 2048 < i.natAbs * s.motor 10 2))
  let start := !s.spindle.atCentre && s.switching
  let s3 := s2.modSp (fun p => { p with
    missCount := 0, overCount := if above && p.drive != .short then p.overCount + 1 else 0, volts := volts, vmSns := vm, atCentre := !p.atCentre,
    duties := if start then p.nextDuties else p.duties, refreshes := if start then p.refreshes + 1 else p.refreshes })
  let s4 := s3.when s.switching (fun t => t.currentLoops (iu * 16) (iv * 16) volts)
  s4.when (s4.spindle.overCount == 2) (fun t => t.recordEvent .spindleOvercurrent)

def execCurrentSampleSet (iu iv : Int) (volts : List Nat) (vm : Nat) (s : State) : Host.Outcome State Fault Refusal := .next (s.whileLive (fun s => s.sampleSet iu iv volts vm))

/-- R268: the previous duties repeat; a second consecutive miss is a deadline-watchdog fault of the spindle helper. -/
def State.loopMiss (s : State) : State :=
  let s1 := s.modSp (fun p => { p with missCount := p.missCount + 1 })
  if s1.spindle.missCount < 2 then s1
  else match s1.helperOf 5 0 with
    | some h => s1.missedTwice h
    | none => s1

def execCurrentLoopMiss (s : State) : Host.Outcome State Fault Refusal := .next (s.whileLive (fun s => s.loopMiss))

/-- R266, R274, R278, R285: the q-axis command by KP (mA per rpm) and KI (mA per rpm s) at 4 kHz, the total with the d-axis command
limited to IRUN. It is not negative while NOREGEN is set, nor while a rotor caught forward accelerates. -/
def State.speedLoopStep (s : State) : State :=
  let v := s.fld SP_SPEED.SPEED
  let err : Int := (s.fld SP_SPEED.SLEWED : Int) - v
  let g := s.speedGains v
  let i := s.spindle.integ + err
  let d := s.spindle.dCmd.natAbs
  let lim : Int := isqrt (s.irun * s.irun - d * d) 16 0
  let c := ((g.1 : Int) * err * 4000 + (g.2 : Int) * i) / 32000
  let c1 := if c < -lim then -lim else if lim < c then lim else c
  let forward := s.bit SP_STAT.NOREGEN || (s.spState == spAccelerating && s.fld SP_CATCH.RESULT == 1)
  s.modSp (fun p => { p with iCmd := if forward && decide (c1 < 0) then 0 else c1, integ := i })

def execSpeedLoopUpdate (s : State) : Host.Outcome State Fault Refusal := .next (s.whileLive (fun s => s.when s.spTurning State.speedLoopStep))

/-- R255: a forced low-side pulse of 2 x DEADT on a phase held at the upper clamp. -/
def execBootstrapForcedPulse (phase : Nat) (s : State) : Host.Outcome State Fault Refusal :=
  .next (s.whileLive (fun s => s.when (s.switching && (s.spindle.duties[phase]?) == some (4000 - s.dutyFloor)) (fun t =>
    t.modSp (fun p => { p with pulses := p.pulses + 1, lastPulse := some (phase, 2 * s.motor 18 2) }))))

/-- R275, R279, R280: latched and recorded; the chopper goes on in hardware, unless the retract domain has switched the gate drives off. -/
def State.overvoltage44 (s : State) : State :=
  if !s.watching then s
  else
    let s1 := s.spRecord SP_FAULT.OV44
    if s.spindle.barred then s1
    else ((s1.modPins (fun p => { p with brkG := true })).setBit SP_STAT.CHOPON).bump SP_BRK.COUNT

def execVmOvervoltage44 (s : State) : Host.Outcome State Fault Refusal := .next (s.whileLive (fun s => s.overvoltage44))

/-- R275, R276: below 43 V the chopper goes off unless it is faulty; the peak of BRK_IS is recorded for every activation. -/
def execChopperRelease (ipeak : Nat) (s : State) : Host.Outcome State Fault Refusal :=
  .next (s.whileLive (fun s => s.when s.pins.brkG (fun t => (t.setFld SP_BRK.IPEAK ipeak).when (!t.spindle.chopFault) (fun u =>
    (u.modPins (fun p => { p with brkG := false })).clrBit SP_STAT.CHOPON))))

/-- R276 to R278: CHOPPER and NOREGEN, both actuators parked, the windings shorted. -/
def execChopperFault (ipeak : Nat) (s : State) : Host.Outcome State Fault Refusal :=
  .next (s.whileLive (fun s => s.when (s.pins.brkG && !s.spindle.barred) (fun t =>
    let t1 := (((t.setFld SP_BRK.IPEAK ipeak).spRecord SP_FAULT.CHOPPER).setBit SP_STAT.NOREGEN).setBit FB_ALERT.SPINDLE
    let t2 := (t1.modSp (fun p => { p with chopFault := true, startPend := false, holding := false })).parkBoth
    if t2.spState == spFaulted then t2.spShort else t2.spShort.spGoto spShortBraking)))

/-- R277, R280: every gate drive off; BRK_G stays on. -/
def execVmOvervoltage46 (s : State) : Host.Outcome State Fault Refusal :=
  .next (s.whileLive (fun s => s.when s.watching (fun t => t.spFault SP_FAULT.OV46 .off)))

/-! ### Set-points (R281 to R286) -/

/-- R267, R271, R283: one millisecond of a slew at SLEW, or of a start's ramp at ACCEL, in 1/8,000 rpm. `seen` is the speed the observer
measured over it, used where no wedges measure it. -/
def State.slewStep (s : State) (seen : Nat) : State :=
  let goal := s.fld SP_TARGET.TARGET * 1000
  let cur := s.spindle.slewMilli
  let d := (if s.spState == spAccelerating then s.startProf 4 2 else s.slewRate) * 8
  let nxt := if cur < goal then Nat.min goal (cur + d) else Nat.max goal (cur - d)
  let s1 := if s.spState == spSlewing || s.spState == spAccelerating then s.moveSlewed nxt else s
  let speed := s1.wedgeSpeed.getD seen
  let s2 := s1.noteSpeed speed
  let near := decide (1000 * absDiff speed (s2.fld SP_SPEED.SLEWED) ≤ s2.fld SP_SPEED.SLEWED)
  let s3 := s2.setFld SP_STAT.ATSPEED (if (s2.spState == spLocked || s2.spState == spSlewing) && near then 1 else 0)
  let s4 := s3.sample 0x0A (fun i => i == 0) ((speed : Int) - s3.fld SP_SPEED.SLEWED)
  s4.each [Act.A, Act.B] (fun t a => if t.svLoaded a && t.coefDue a then t.modSv a (fun v => { v with coefPend := some (t.fld SP_SPEED.SLEWED) }) else t)

def execSlewUpdate (speed : Nat) (s : State) : Host.Outcome State Fault Refusal := .next (s.whileLive (fun s => s.slewStep speed))

/-- R281, R282: an FSYNC edge ends a period; eight within 0.1 % of their mean give a frequency in mHz. -/
def State.fsync (s : State) : State :=
  if s.streamSrc != 1 then s
  else match s.spindle.fsyncTick with
  | none => s.modSp (fun p => { p with fsyncTick := some s.tick })
  | some t =>
    let ps := ((s.tick - t) :: s.spindle.periods).take 8
    let sum := ps.foldl (· + ·) 0
    let s1 := s.modSp (fun p => { p with fsyncTick := some s.tick, periods := ps })
    if ps.length = 8 && sum != 0 && ps.all (fun p => absDiff (8 * p) sum * 1000 ≤ sum) then
      let f := 25000000 * 1000 * 8
      if f < 23500 * sum || 245000 * sum < f then (s1.setFld SP_SRCVAL.VALUE (f / sum)).clrBit SP_SRCVAL.VALID else s1.sourceValue f sum
    else s1.clrBit SP_SRCVAL.VALID

def execFsyncEdge (s : State) : Host.Outcome State Fault Refusal := .next (s.whileLive (fun s => s.fsync))

/-- R281: a 1 kHz sample of SPD_AIN, a 12-bit code over 0 to 1.2 V; the mean is valid once 100 have been taken. -/
def State.spdAin (s : State) (code : Nat) : State :=
  if s.streamSrc != 2 then s
  else
    let l := (code :: s.spindle.ainSamples).take 100
    let s1 := s.modSp (fun p => { p with ainSamples := l })
    if l.length = 100 then s1.sourceValue (l.foldl (· + ·) 0 * 1200) (100 * 4096) else s1.clrBit SP_SRCVAL.VALID

def execSpdAinSample (code : Nat) (s : State) : Host.Outcome State Fault Refusal := .next (s.whileLive (fun s => s.spdAin code))

/-- R284: no valid value for 250 ms: the slew stops where it is. -/
def execSourceLost (s : State) : Host.Outcome State Fault Refusal :=
  .next (s.whileLive (fun s => s.when s.streamOn (fun t =>
    (((t.spRecord SP_FAULT.SRCLOST).setBit SP_STAT.SRCHOLD).setBit FB_ALERT.SPINDLE).setTarget (t.fld SP_SPEED.SLEWED))))

/-- R285: target and slewed set-point go to the measured speed, rounded to the nearest rpm. -/
def execFollowingErrorTimeout (s : State) : Host.Outcome State Fault Refusal :=
  .next (s.whileLive (fun s => s.when (s.fld PW_STAT.VMSTATE == 0 && (s.spState == spLocked || s.spState == spSlewing)) (fun t =>
    let v := (t.fld SP_SPEED.SPEED + 4) / 8 * 8
    ((((t.spRecord SP_FAULT.FOLLOW).setBit FB_ALERT.SPINDLE).setFld SP_TARGET.TARGET v).moveSlewed (v * 1000)).modSp (fun p => { p with followMap := some p.mapped }))))

end Sys2Proof.Machine
end

