-- ==== Sys2Proof/Machine/Dispatch.lean ====
section
/-! DEFINITION. One arm per command: the meaning it calls. -/
namespace Sys2Proof.Machine

def exec (i : Instr) (s : State) : Host.Outcome State Fault Refusal :=
  match i with
  | .registerWrite addr data => Sys2Proof.Machine.execRegisterWrite addr data s
  | .registerReadClear addr len => Sys2Proof.Machine.execRegisterReadClear addr len s
  | .counterLoRead c => Sys2Proof.Machine.execCounterLoRead c s
  | .referenceLoss => Sys2Proof.Machine.execReferenceLoss s
  | .referenceRestored => Sys2Proof.Machine.execReferenceRestored s
  | .helperRateMeasurement rate => Sys2Proof.Machine.execHelperRateMeasurement rate s
  | .porstLRise powerOn tpEn => Sys2Proof.Machine.execPorstLRise powerOn tpEn s
  | .seqRailInRange => Sys2Proof.Machine.execSeqRailInRange s
  | .seqDwellEnd failed => Sys2Proof.Machine.execSeqDwellEnd failed s
  | .seqRailTimeout => Sys2Proof.Machine.execSeqRailTimeout s
  | .seqRetryTimer => Sys2Proof.Machine.execSeqRetryTimer s
  | .porstLFall => Sys2Proof.Machine.execPorstLFall s
  | .powerdownRailFallen => Sys2Proof.Machine.execPowerdownRailFallen s
  | .powerdownStepTimeout => Sys2Proof.Machine.execPowerdownStepTimeout s
  | .railMonitorTrip r => Sys2Proof.Machine.execRailMonitorTrip r s
  | .supplyResetRelease vmLow => Sys2Proof.Machine.execSupplyResetRelease vmLow s
  | .vserLinkRetrain => Sys2Proof.Machine.execVserLinkRetrain s
  | .vmWarning => Sys2Proof.Machine.execVmWarning s
  | .vmWarningClear => Sys2Proof.Machine.execVmWarningClear s
  | .recoveryWaitExpiry => Sys2Proof.Machine.execRecoveryWaitExpiry s
  | .rideTimerExpiry => Sys2Proof.Machine.execRideTimerExpiry s
  | .vmLoss => Sys2Proof.Machine.execVmLoss s
  | .vmRestored => Sys2Proof.Machine.execVmRestored s
  | .vmOvervoltage44 => Sys2Proof.Machine.execVmOvervoltage44 s
  | .chopperRelease ipeak => Sys2Proof.Machine.execChopperRelease ipeak s
  | .chopperFault ipeak => Sys2Proof.Machine.execChopperFault ipeak s
  | .vmOvervoltage46 => Sys2Proof.Machine.execVmOvervoltage46 s
  | .retractRelease a => Sys2Proof.Machine.execRetractRelease a s
  | .idleTimerExpiry => Sys2Proof.Machine.execIdleTimerExpiry s
  | .hibernateWake => Sys2Proof.Machine.execHibernateWake s
  | .accordBootLoad => Sys2Proof.Machine.execAccordBootLoad s
  | .helperRoleAssignment h => Sys2Proof.Machine.execHelperRoleAssignment h s
  | .helperStart h => Sys2Proof.Machine.execHelperStart h s
  | .helperStopRequest h => Sys2Proof.Machine.execHelperStopRequest h s
  | .helperDrainDone h => Sys2Proof.Machine.execHelperDrainDone h s
  | .helperDrainTimeout h mine => Sys2Proof.Machine.execHelperDrainTimeout h mine s
  | .helperFault h cause space addr => Sys2Proof.Machine.execHelperFault h cause space addr s
  | .baseNoteStewardRestart => Sys2Proof.Machine.execBaseNoteStewardRestart s
  | .safePointLapse h => Sys2Proof.Machine.execSafePointLapse h s
  | .stewardTrap cause space addr => Sys2Proof.Machine.execStewardTrap cause space addr s
  | .stewardWatchdogExpiry space addr => Sys2Proof.Machine.execStewardWatchdogExpiry space addr s
  | .microwordIssue h m => Sys2Proof.Machine.execMicrowordIssue h m s
  | .microwordBranch h m => Sys2Proof.Machine.execMicrowordBranch h m s
  | .microwordCall h m => Sys2Proof.Machine.execMicrowordCall h m s
  | .microwordReturn h m => Sys2Proof.Machine.execMicrowordReturn h m s
  | .localLoad h m => Sys2Proof.Machine.execLocalLoad h m s
  | .localStore h m => Sys2Proof.Machine.execLocalStore h m s
  | .fabricLoad h m ii => Sys2Proof.Machine.execFabricLoad h m ii s
  | .fabricStore h m ii => Sys2Proof.Machine.execFabricStore h m ii s
  | .messageSend h m => Sys2Proof.Machine.execMessageSend h m s
  | .messageReceive h m => Sys2Proof.Machine.execMessageReceive h m s
  | .errorQueueReceive h m => Sys2Proof.Machine.execErrorQueueReceive h m s
  | .islandFifoPop h m data => Sys2Proof.Machine.execIslandFifoPop h m data s
  | .islandFifoPush h m => Sys2Proof.Machine.execIslandFifoPush h m s
  | .lineClean h m f => Sys2Proof.Machine.execLineClean h m f s
  | .lineInvalidate h m f => Sys2Proof.Machine.execLineInvalidate h m f s
  | .lineCleanInvalidate h m f => Sys2Proof.Machine.execLineCleanInvalidate h m f s
  | .lineZero h m f => Sys2Proof.Machine.execLineZero h m f s
  | .fenceFull h m accepted => Sys2Proof.Machine.execFenceFull h m accepted s
  | .fenceStoreSend h m => Sys2Proof.Machine.execFenceStoreSend h m s
  | .fenceIsland h m accepted => Sys2Proof.Machine.execFenceIsland h m accepted s
  | .messageDelivery src => Sys2Proof.Machine.execMessageDelivery src s
  | .messageEntersInbox dst => Sys2Proof.Machine.execMessageEntersInbox dst s
  | .messageReturn src => Sys2Proof.Machine.execMessageReturn src s
  | .patchStagingDone ok => Sys2Proof.Machine.execPatchStagingDone ok s
  | .stewardPatchSwap => Sys2Proof.Machine.execStewardPatchSwap s
  | .hbmFillDone => Sys2Proof.Machine.execHbmFillDone s
  | .blotterRawWrite w => Sys2Proof.Machine.execBlotterRawWrite w s
  | .blotterRawRead w => Sys2Proof.Machine.execBlotterRawRead w s
  | .blotterCheckedRead w => Sys2Proof.Machine.execBlotterCheckedRead w s
  | .blotterCheckedWrite w => Sys2Proof.Machine.execBlotterCheckedWrite w s
  | .blotterOpComplete => Sys2Proof.Machine.execBlotterOpComplete s
  | .cacheFillComplete la f => Sys2Proof.Machine.execCacheFillComplete la f s
  | .prefetchFillComplete la f => Sys2Proof.Machine.execPrefetchFillComplete la f s
  | .evictionWritebackComplete la issued f => Sys2Proof.Machine.execEvictionWritebackComplete la issued f s
  | .cacheInvalidationDone => Sys2Proof.Machine.execCacheInvalidationDone s
  | .moverGo c srcSp src dstSp dst len fence owner => Sys2Proof.Machine.execMoverGo c srcSp src dstSp dst len fence owner s
  | .moverStopRequest c => Sys2Proof.Machine.execMoverStopRequest c s
  | .moverStartRequest c => Sys2Proof.Machine.execMoverStartRequest c s
  | .moverDiscardRequest c => Sys2Proof.Machine.execMoverDiscardRequest c s
  | .moverResumeRequest c => Sys2Proof.Machine.execMoverResumeRequest c s
  | .moverSetStart mover => Sys2Proof.Machine.execMoverSetStart mover s
  | .moverSetComplete c hostData f => Sys2Proof.Machine.execMoverSetComplete c hostData f s
  | .moverHalt c transfers hostData f => Sys2Proof.Machine.execMoverHalt c transfers hostData f s
  | .moverTimeout c => Sys2Proof.Machine.execMoverTimeout c s
  | .peripheralBurst c count valid last samples hostData f => Sys2Proof.Machine.execPeripheralBurst c count valid last samples hostData f s
  | .peripheralWithdraw c => Sys2Proof.Machine.execPeripheralWithdraw c s
  | .spindleStartRequest => Sys2Proof.Machine.execSpindleStartRequest s
  | .observationEnd amp backward speed angle => Sys2Proof.Machine.execObservationEnd amp backward speed angle s
  | .shortBrakeStopped => Sys2Proof.Machine.execShortBrakeStopped s
  | .shortHoldEnd => Sys2Proof.Machine.execShortHoldEnd s
  | .alignmentResult angle respPos respNeg => Sys2Proof.Machine.execAlignmentResult angle respPos respNeg s
  | .alignmentTimeout => Sys2Proof.Machine.execAlignmentTimeout s
  | .spindleAtSpeed => Sys2Proof.Machine.execSpindleAtSpeed s
  | .spindleStartTimeout => Sys2Proof.Machine.execSpindleStartTimeout s
  | .slewComplete => Sys2Proof.Machine.execSlewComplete s
  | .spindleStopRequest => Sys2Proof.Machine.execSpindleStopRequest s
  | .regenBrakeEnd => Sys2Proof.Machine.execRegenBrakeEnd s
  | .commutationLockLoss => Sys2Proof.Machine.execCommutationLockLoss s
  | .spindleOvercurrent => Sys2Proof.Machine.execSpindleOvercurrent s
  | .gateDriveUndervoltage => Sys2Proof.Machine.execGateDriveUndervoltage s
  | .positionHandover rising agree => Sys2Proof.Machine.execPositionHandover rising agree s
  | .currentSampleSet iu iv volts vm => Sys2Proof.Machine.execCurrentSampleSet iu iv volts vm s
  | .currentLoopMiss => Sys2Proof.Machine.execCurrentLoopMiss s
  | .speedLoopUpdate => Sys2Proof.Machine.execSpeedLoopUpdate s
  | .bootstrapForcedPulse phase => Sys2Proof.Machine.execBootstrapForcedPulse phase s
  | .slewUpdate speed => Sys2Proof.Machine.execSlewUpdate speed s
  | .fsyncEdge => Sys2Proof.Machine.execFsyncEdge s
  | .spdAinSample code => Sys2Proof.Machine.execSpdAinSample code s
  | .sourceLost => Sys2Proof.Machine.execSourceLost s
  | .followingErrorTimeout => Sys2Proof.Machine.execFollowingErrorTimeout s
  | .wedgeSample a x => Sys2Proof.Machine.execWedgeSample a x s
  | .servoDeadlineMiss a coarse => Sys2Proof.Machine.execServoDeadlineMiss a coarse s
  | .shock a => Sys2Proof.Machine.execShock a s
  | .shockHoldEnd a => Sys2Proof.Machine.execShockHoldEnd a s
  | .vcmFaultPin a => Sys2Proof.Machine.execVcmFaultPin a s
  | .maDriverFaultPin a => Sys2Proof.Machine.execMaDriverFaultPin a s
  | .loadRequest a => Sys2Proof.Machine.execLoadRequest a s
  | .loadTimeout a => Sys2Proof.Machine.execLoadTimeout a s
  | .seekRequest a group track => Sys2Proof.Machine.execSeekRequest a group track s
  | .seekLeadExpiry a => Sys2Proof.Machine.execSeekLeadExpiry a s
  | .parkRequest a => Sys2Proof.Machine.execParkRequest a s
  | .unloadProfileEnd a stillValid => Sys2Proof.Machine.execUnloadProfileEnd a stillValid s
  | .recoveryTimeout a => Sys2Proof.Machine.execRecoveryTimeout a s
  | .assistLoopBoundary a v0 v1 => Sys2Proof.Machine.execAssistLoopBoundary a v0 v1 s
  | .assistDeadlineMiss a => Sys2Proof.Machine.execAssistDeadlineMiss a s
  | .assistFirstBitCell a slot => Sys2Proof.Machine.execAssistFirstBitCell a slot s
  | .overtempTrip a slot res => Sys2Proof.Machine.execOvertempTrip a slot res s
  | .coolingEnd a slot => Sys2Proof.Machine.execCoolingEnd a slot s
  | .preampFaultPin a => Sys2Proof.Machine.execPreampFaultPin a s
  | .preampTempRead a ok temp => Sys2Proof.Machine.execPreampTempRead a ok temp s
  | .tintLost a => Sys2Proof.Machine.execTintLost a s
  | .laneBind lane => Sys2Proof.Machine.execLaneBind lane s
  | .laneUnbind lane => Sys2Proof.Machine.execLaneUnbind lane s
  | .frameCommand lane track frame startTick => Sys2Proof.Machine.execFrameCommand lane track frame startTick s
  | .framePositionPassed lane => Sys2Proof.Machine.execFramePositionPassed lane s
  | .captureStart lane => Sys2Proof.Machine.execCaptureStart lane s
  | .syncDecision lane counts counts2 => Sys2Proof.Machine.execSyncDecision lane counts counts2 s
  | .sectorEnd lane overrunAt => Sys2Proof.Machine.execSectorEnd lane overrunAt s
  | .inlineDecodeResult lane r => Sys2Proof.Machine.execInlineDecodeResult lane r s
  | .writeFrameCommand a slot pfn => Sys2Proof.Machine.execWriteFrameCommand a slot pfn s
  | .writeFrameStart a slot => Sys2Proof.Machine.execWriteFrameStart a slot s
  | .writePayloadUnderrun a slot => Sys2Proof.Machine.execWritePayloadUnderrun a slot s
  | .writeWedgeSuspend a slot => Sys2Proof.Machine.execWriteWedgeSuspend a slot s
  | .writeWedgeResume a slot => Sys2Proof.Machine.execWriteWedgeResume a slot s
  | .writeFrameEnd a slot => Sys2Proof.Machine.execWriteFrameEnd a slot s
  | .frameEscalation surf track frame cls => Sys2Proof.Machine.execFrameEscalation surf track frame cls s
  | .deepDecodeStart unit => Sys2Proof.Machine.execDeepDecodeStart unit s
  | .deepDecodeStepDone unit r => Sys2Proof.Machine.execDeepDecodeStepDone unit r s
  | .unitOvertime unit => Sys2Proof.Machine.execUnitOvertime unit s
  | .rereadPass a startTick => Sys2Proof.Machine.execRereadPass a startTick s
  | .neighbourWaitExpiry surf track frame => Sys2Proof.Machine.execNeighbourWaitExpiry surf track frame s
  | .lsWaitTimeout surf track frame => Sys2Proof.Machine.execLsWaitTimeout surf track frame s
  | .unreadableTimeout surf track frame => Sys2Proof.Machine.execUnreadableTimeout surf track frame s
  | .calRunStart lane => Sys2Proof.Machine.execCalRunStart lane s
  | .calStepDone lane r => Sys2Proof.Machine.execCalStepDone lane r s
  | .calTimeout lane => Sys2Proof.Machine.execCalTimeout lane s
  | .degradedRecalTimer => Sys2Proof.Machine.execDegradedRecalTimer s
  | .placementBatch cleaning => Sys2Proof.Machine.execPlacementBatch cleaning s
  | .journalPagesWritten => Sys2Proof.Machine.execJournalPagesWritten s
  | .recordLineComplete => Sys2Proof.Machine.execRecordLineComplete s
  | .cleaningVictimSelect => Sys2Proof.Machine.execCleaningVictimSelect s
  | .cleaningFrameRead ok => Sys2Proof.Machine.execCleaningFrameRead ok s
  | .bandRelease bandset => Sys2Proof.Machine.execBandRelease bandset s
  | .checkpointSegmentStart => Sys2Proof.Machine.execCheckpointSegmentStart s
  | .checkpointCopyWritten segment => Sys2Proof.Machine.execCheckpointCopyWritten segment s
  | .rootWriteTimer => Sys2Proof.Machine.execRootWriteTimer s
  | .mapRebuildStart rootBad copyBad lineBad sjBad => Sys2Proof.Machine.execMapRebuildStart rootBad copyBad lineBad sjBad s
  | .mapRebuildComplete ckpt apply => Sys2Proof.Machine.execMapRebuildComplete ckpt apply s
  | .validCountWalkDone => Sys2Proof.Machine.execValidCountWalkDone s
  | .stripeParityCompute bandset stripe => Sys2Proof.Machine.execStripeParityCompute bandset stripe s
  | .sjRecordDurable => Sys2Proof.Machine.execSjRecordDurable s
  | .reconstructionComplete pfn => Sys2Proof.Machine.execReconstructionComplete pfn s
  | .rebuildStripe => Sys2Proof.Machine.execRebuildStripe s
  | .rebuildCursorTimer => Sys2Proof.Machine.execRebuildCursorTimer s
  | .patrolStripe bad seen => Sys2Proof.Machine.execPatrolStripe bad seen s
  | .mediaTimeInterval hostA hostB => Sys2Proof.Machine.execMediaTimeInterval hostA hostB s
  | .hello h ident id role => Sys2Proof.Machine.execHello h ident id role s
  | .roster h entries => Sys2Proof.Machine.execRoster h entries s
  | .leader h shard => Sys2Proof.Machine.execLeader h shard s
  | .layout h epoch part npart ids => Sys2Proof.Machine.execLayout h epoch part npart ids s
  | .ack h => Sys2Proof.Machine.execAck h s
  | .heartbeat h state roles => Sys2Proof.Machine.execHeartbeat h state roles s
  | .failnote h id newgen cause => Sys2Proof.Machine.execFailnote h id newgen cause s
  | .leave h ret => Sys2Proof.Machine.execLeave h ret s
  | .pupd h c pos op wseq data => Sys2Proof.Machine.execPupd h c pos op wseq data s
  | .qupd h c pos op wseq data => Sys2Proof.Machine.execQupd h c pos op wseq data s
  | .updack h c => Sys2Proof.Machine.execUpdack h c s
  | .pcopy h record data => Sys2Proof.Machine.execPcopy h record data s
  | .prelease h seqs => Sys2Proof.Machine.execPrelease h seqs s
  | .cread h c pos => Sys2Proof.Machine.execCread h c pos s
  | .cdata h c pos lost data => Sys2Proof.Machine.execCdata h c pos lost data s
  | .pstate h c wseq st => Sys2Proof.Machine.execPstate h c wseq st s
  | .ptpMessage port toff err => Sys2Proof.Machine.execPtpMessage port toff err s
  | .announceTimeout => Sys2Proof.Machine.execAnnounceTimeout s
  | .ppsSecond => Sys2Proof.Machine.execPpsSecond s
  | .ethernetLinkChange port up => Sys2Proof.Machine.execEthernetLinkChange port up s
  | .heartbeatTimer => Sys2Proof.Machine.execHeartbeatTimer s
  | .memberSilent id => Sys2Proof.Machine.execMemberSilent id s
  | .probeTimeout id => Sys2Proof.Machine.execProbeTimeout id s
  | .updackTimeout group row cell op => Sys2Proof.Machine.execUpdackTimeout group row cell op s
  | .partnerTimeout => Sys2Proof.Machine.execPartnerTimeout s
  | .rollCallSlot => Sys2Proof.Machine.execRollCallSlot s
  | .rollCallClose => Sys2Proof.Machine.execRollCallClose s
  | .phaseBoundExpiry => Sys2Proof.Machine.execPhaseBoundExpiry s
  | .poolRebuildRow group row cell => Sys2Proof.Machine.execPoolRebuildRow group row cell s
  | .controllerEnable ctrl crime wrr asq acq => Sys2Proof.Machine.execControllerEnable ctrl crime wrr asq acq s
  | .controllerReady ctrl => Sys2Proof.Machine.execControllerReady ctrl s
  | .controllerReset ctrl kind => Sys2Proof.Machine.execControllerReset ctrl kind s
  | .controllerShutdown ctrl shn => Sys2Proof.Machine.execControllerShutdown ctrl shn s
  | .perstRise ctrl => Sys2Proof.Machine.execPerstRise ctrl s
  | .sqDoorbell ctrl sq tail => Sys2Proof.Machine.execSqDoorbell ctrl sq tail s
  | .cqHeadDoorbell ctrl cq head => Sys2Proof.Machine.execCqHeadDoorbell ctrl cq head s
  | .commandFetch ctrl sq e ranges => Sys2Proof.Machine.execCommandFetch ctrl sq e ranges s
  | .rangeLockGrant ctrl sq cid => Sys2Proof.Machine.execRangeLockGrant ctrl sq cid s
  | .interruptCoalesceTimer ctrl vector => Sys2Proof.Machine.execInterruptCoalesceTimer ctrl vector s
  | .tlerExpiry ctrl sq cid => Sys2Proof.Machine.execTlerExpiry ctrl sq cid s
  | .deletionDrainTimeout ctrl id kind => Sys2Proof.Machine.execDeletionDrainTimeout ctrl id kind s
  | .busMasterDisable ctrl => Sys2Proof.Machine.execBusMasterDisable ctrl s
  | .activationDrainTimeout => Sys2Proof.Machine.execActivationDrainTimeout s
  | .pcieL2Entered => Sys2Proof.Machine.execPcieL2Entered s
  | .l2Timeout => Sys2Proof.Machine.execL2Timeout s
  | .deleteIoSq ctrl cid => Sys2Proof.Machine.execDeleteIoSq ctrl cid s
  | .createIoSq ctrl cid => Sys2Proof.Machine.execCreateIoSq ctrl cid s
  | .getLogPage ctrl cid => Sys2Proof.Machine.execGetLogPage ctrl cid s
  | .deleteIoCq ctrl cid => Sys2Proof.Machine.execDeleteIoCq ctrl cid s
  | .createIoCq ctrl cid => Sys2Proof.Machine.execCreateIoCq ctrl cid s
  | .identify ctrl cid => Sys2Proof.Machine.execIdentify ctrl cid s
  | .abort ctrl cid unfetched => Sys2Proof.Machine.execAbort ctrl cid unfetched s
  | .setArbitration ctrl cid => Sys2Proof.Machine.execSetArbitration ctrl cid s
  | .setPowerManagement ctrl cid => Sys2Proof.Machine.execSetPowerManagement ctrl cid s
  | .setTemperatureThreshold ctrl cid => Sys2Proof.Machine.execSetTemperatureThreshold ctrl cid s
  | .setErrorRecovery ctrl cid => Sys2Proof.Machine.execSetErrorRecovery ctrl cid s
  | .setNumberOfQueues ctrl cid => Sys2Proof.Machine.execSetNumberOfQueues ctrl cid s
  | .setInterruptCoalescing ctrl cid => Sys2Proof.Machine.execSetInterruptCoalescing ctrl cid s
  | .setInterruptVectorConfig ctrl cid => Sys2Proof.Machine.execSetInterruptVectorConfig ctrl cid s
  | .setWriteAtomicity ctrl cid => Sys2Proof.Machine.execSetWriteAtomicity ctrl cid s
  | .setAsyncEventConfig ctrl cid => Sys2Proof.Machine.execSetAsyncEventConfig ctrl cid s
  | .setTimestamp ctrl cid ms => Sys2Proof.Machine.execSetTimestamp ctrl cid ms s
  | .setReservationNotifyMask ctrl cid => Sys2Proof.Machine.execSetReservationNotifyMask ctrl cid s
  | .setReservationPersistence ctrl cid => Sys2Proof.Machine.execSetReservationPersistence ctrl cid s
  | .setQueueOrdering ctrl cid => Sys2Proof.Machine.execSetQueueOrdering ctrl cid s
  | .setStreamingMode ctrl cid => Sys2Proof.Machine.execSetStreamingMode ctrl cid s
  | .getFeatures ctrl cid => Sys2Proof.Machine.execGetFeatures ctrl cid s
  | .asyncEventRequest ctrl cid => Sys2Proof.Machine.execAsyncEventRequest ctrl cid s
  | .namespaceCreate ctrl cid nsze ncap flbas => Sys2Proof.Machine.execNamespaceCreate ctrl cid nsze ncap flbas s
  | .namespaceDelete ctrl cid => Sys2Proof.Machine.execNamespaceDelete ctrl cid s
  | .namespaceAttach ctrl cid ids => Sys2Proof.Machine.execNamespaceAttach ctrl cid ids s
  | .namespaceDetach ctrl cid ids => Sys2Proof.Machine.execNamespaceDetach ctrl cid ids s
  | .firmwareDownload ctrl cid data => Sys2Proof.Machine.execFirmwareDownload ctrl cid data s
  | .firmwareCommitStore ctrl cid => Sys2Proof.Machine.execFirmwareCommitStore ctrl cid s
  | .firmwareCommitStoreActivate ctrl cid => Sys2Proof.Machine.execFirmwareCommitStoreActivate ctrl cid s
  | .firmwareCommitSetActivate ctrl cid => Sys2Proof.Machine.execFirmwareCommitSetActivate ctrl cid s
  | .firmwareCommitImmediate ctrl cid => Sys2Proof.Machine.execFirmwareCommitImmediate ctrl cid s
  | .selfTestShort ctrl cid seg => Sys2Proof.Machine.execSelfTestShort ctrl cid seg s
  | .selfTestExtended ctrl cid seg => Sys2Proof.Machine.execSelfTestExtended ctrl cid seg s
  | .selfTestAbort ctrl cid => Sys2Proof.Machine.execSelfTestAbort ctrl cid s
  | .formatNvm ctrl cid => Sys2Proof.Machine.execFormatNvm ctrl cid s
  | .securityReceive ctrl cid => Sys2Proof.Machine.execSecurityReceive ctrl cid s
  | .raiseRollbackFloor ctrl cid sent ok => Sys2Proof.Machine.execRaiseRollbackFloor ctrl cid sent ok s
  | .writeKeyCertArea ctrl cid sent => Sys2Proof.Machine.execWriteKeyCertArea ctrl cid sent s
  | .spdmGetVersion ch cid req => Sys2Proof.Machine.execSpdmGetVersion ch cid req s
  | .spdmGetCapabilities ch cid req => Sys2Proof.Machine.execSpdmGetCapabilities ch cid req s
  | .spdmNegotiateAlgorithms ch cid req => Sys2Proof.Machine.execSpdmNegotiateAlgorithms ch cid req s
  | .spdmGetDigests ch cid req => Sys2Proof.Machine.execSpdmGetDigests ch cid req s
  | .spdmGetCertificate ch cid req => Sys2Proof.Machine.execSpdmGetCertificate ch cid req s
  | .spdmChallenge ch cid req => Sys2Proof.Machine.execSpdmChallenge ch cid req s
  | .spdmGetMeasurements ch cid req => Sys2Proof.Machine.execSpdmGetMeasurements ch cid req s
  | .mctpSetEndpointId port inst op eid => Sys2Proof.Machine.execMctpSetEndpointId port inst op eid s
  | .mctpGetEndpointId port inst => Sys2Proof.Machine.execMctpGetEndpointId port inst s
  | .mctpGetVersionSupport port inst type => Sys2Proof.Machine.execMctpGetVersionSupport port inst type s
  | .mctpGetMessageTypeSupport port inst => Sys2Proof.Machine.execMctpGetMessageTypeSupport port inst s
  | .flush ctrl sq cid => Sys2Proof.Machine.execFlush ctrl sq cid s
  | .write ctrl sq cid data => Sys2Proof.Machine.execWrite ctrl sq cid data s
  | .read ctrl sq cid fails => Sys2Proof.Machine.execRead ctrl sq cid fails s
  | .compare ctrl sq cid data fails => Sys2Proof.Machine.execCompare ctrl sq cid data fails s
  | .writeZeroes ctrl sq cid => Sys2Proof.Machine.execWriteZeroes ctrl sq cid s
  | .datasetManagement ctrl sq cid ranges => Sys2Proof.Machine.execDatasetManagement ctrl sq cid ranges s
  | .verify ctrl sq cid fails => Sys2Proof.Machine.execVerify ctrl sq cid fails s
  | .reservationRegister ctrl sq cid crkey nrkey => Sys2Proof.Machine.execReservationRegister ctrl sq cid crkey nrkey s
  | .reservationReport ctrl sq cid => Sys2Proof.Machine.execReservationReport ctrl sq cid s
  | .reservationAcquire ctrl sq cid crkey prkey => Sys2Proof.Machine.execReservationAcquire ctrl sq cid crkey prkey s
  | .reservationRelease ctrl sq cid crkey => Sys2Proof.Machine.execReservationRelease ctrl sq cid crkey s
  | .zoneClose ctrl sq cid => Sys2Proof.Machine.execZoneClose ctrl sq cid s
  | .zoneFinish ctrl sq cid => Sys2Proof.Machine.execZoneFinish ctrl sq cid s
  | .zoneOpen ctrl sq cid => Sys2Proof.Machine.execZoneOpen ctrl sq cid s
  | .zoneReset ctrl sq cid => Sys2Proof.Machine.execZoneReset ctrl sq cid s
  | .zoneMgmtReceive ctrl sq cid => Sys2Proof.Machine.execZoneMgmtReceive ctrl sq cid s
  | .zoneAppend ctrl sq cid data => Sys2Proof.Machine.execZoneAppend ctrl sq cid data s
  | .fence ctrl sq cid => Sys2Proof.Machine.execFence ctrl sq cid s
  | .srDoorbell ring tail cqHead links hostErr => Sys2Proof.Machine.execSrDoorbell ring tail cqHead links hostErr s
  | .srPush ring count => Sys2Proof.Machine.execSrPush ring count s
  | .descriptorFetch ring bytes auth hostErr => Sys2Proof.Machine.execDescriptorFetch ring bytes auth hostErr s
  | .ringEnable ring w => Sys2Proof.Machine.execRingEnable ring w s
  | .ringDisable ring w => Sys2Proof.Machine.execRingDisable ring w s
  | .ringDrainTimeout ring => Sys2Proof.Machine.execRingDrainTimeout ring s
  | .moverRead ring tag blocks ok f => Sys2Proof.Machine.execMoverRead ring tag blocks ok f s
  | .moverWrite ring tag blocks data f => Sys2Proof.Machine.execMoverWrite ring tag blocks data f s
  | .sampleExport ring tag caps ok => Sys2Proof.Machine.execSampleExport ring tag caps ok s
  | .trackDump ring tag caps ok => Sys2Proof.Machine.execTrackDump ring tag caps ok s
  | .calibrationRun ring tag => Sys2Proof.Machine.execCalibrationRun ring tag s
  | .gaugeArm ring tag => Sys2Proof.Machine.execGaugeArm ring tag s
  | .gaugeStop ring tag => Sys2Proof.Machine.execGaugeStop ring tag s
  | .gaugeExport ring tag ok => Sys2Proof.Machine.execGaugeExport ring tag ok s
  | .gaugeExportRearm ring tag ok => Sys2Proof.Machine.execGaugeExportRearm ring tag ok s
  | .sillageExport ring tag ok => Sys2Proof.Machine.execSillageExport ring tag ok s
  | .sillageClear ring tag => Sys2Proof.Machine.execSillageClear ring tag s
  | .accordStore ring tag img ok => Sys2Proof.Machine.execAccordStore ring tag img ok s
  | .accordStoreWritten ok => Sys2Proof.Machine.execAccordStoreWritten ok s
  | .accordMediaCopyRead ring tag ok => Sys2Proof.Machine.execAccordMediaCopyRead ring tag ok s
  | .accordMediaCopy okA okB => Sys2Proof.Machine.execAccordMediaCopy okA okB s
  | .domainTakeDown ring tag => Sys2Proof.Machine.execDomainTakeDown ring tag s
  | .domainRestore ring tag => Sys2Proof.Machine.execDomainRestore ring tag s
  | .domainFault d cause => Sys2Proof.Machine.execDomainFault d cause s
  | .quiesceWorkFinished d => Sys2Proof.Machine.execQuiesceWorkFinished d s
  | .quiesceTimeout d => Sys2Proof.Machine.execQuiesceTimeout d s
  | .restoreComplete d => Sys2Proof.Machine.execRestoreComplete d s
  | .restoreTimeout d => Sys2Proof.Machine.execRestoreTimeout d s
  | .heldRestoreStart d => Sys2Proof.Machine.execHeldRestoreStart d s
  | .mediaHoldExpiry a => Sys2Proof.Machine.execMediaHoldExpiry a s
  | .blotterEnable ring tag => Sys2Proof.Machine.execBlotterEnable ring tag s
  | .blotterDisable ring tag => Sys2Proof.Machine.execBlotterDisable ring tag s
  | .poolRelayout ring tag => Sys2Proof.Machine.execPoolRelayout ring tag s
  | .poolAdopt ring tag => Sys2Proof.Machine.execPoolAdopt ring tag s
  | .transmitOpportunity late => Sys2Proof.Machine.execTransmitOpportunity late s
  | .plcaBeacon => Sys2Proof.Machine.execPlcaBeacon s
  | .plcaBeaconLoss => Sys2Proof.Machine.execPlcaBeaconLoss s
  | .ebCollision => Sys2Proof.Machine.execEbCollision s
  | .csmaBackoffExpiry => Sys2Proof.Machine.execCsmaBackoffExpiry s
  | .claim h prio idlow => Sys2Proof.Machine.execClaim h prio idlow s
  | .tick h mepoch tokfree => Sys2Proof.Machine.execTick h mepoch tokfree s
  | .tokreq h lease held => Sys2Proof.Machine.execTokreq h lease held s
  | .tokgrant h dstnode lease mepoch => Sys2Proof.Machine.execTokgrant h dstnode lease mepoch s
  | .tokret h mepoch => Sys2Proof.Machine.execTokret h mepoch s
  | .seek h a step start prof => Sys2Proof.Machine.execSeek h a step start prof s
  | .health h => Sys2Proof.Machine.execHealth h s
  | .hquery h dstnode => Sys2Proof.Machine.execHquery h dstnode s
  | .wake h dstbay => Sys2Proof.Machine.execWake h dstbay s
  | .electionListenEnd => Sys2Proof.Machine.execElectionListenEnd s
  | .claimCollectEnd => Sys2Proof.Machine.execClaimCollectEnd s
  | .tickTimer => Sys2Proof.Machine.execTickTimer s
  | .masterLoss => Sys2Proof.Machine.execMasterLoss s
  | .tokenLeaseExpiry node bay => Sys2Proof.Machine.execTokenLeaseExpiry node bay s
  | .mepochWaitExpiry => Sys2Proof.Machine.execMepochWaitExpiry s
  | .healthTimer => Sys2Proof.Machine.execHealthTimer s
  | .localSpinupDelayEnd => Sys2Proof.Machine.execLocalSpinupDelayEnd s
  | .sensorConversion n temp => Sys2Proof.Machine.execSensorConversion n temp s
  | .sensorExclusion n => Sys2Proof.Machine.execSensorExclusion n s
  | .thermalHysteresisTimer => Sys2Proof.Machine.execThermalHysteresisTimer s
  | .sillageAppend => Sys2Proof.Machine.execSillageAppend s
  | .stampTimer => Sys2Proof.Machine.execStampTimer s
  | .suppressionSummaryTimer code => Sys2Proof.Machine.execSuppressionSummaryTimer code s
  | .gaugeDurationEnd g => Sys2Proof.Machine.execGaugeDurationEnd g s
  | .stewardInstruction space addr o => Sys2Proof.Machine.execStewardInstruction space addr o s
  | .neighborDiscovery port => Sys2Proof.Machine.execNeighborDiscovery port s
  | .icmpv6EchoRequest port => Sys2Proof.Machine.execIcmpv6EchoRequest port s
  | .mldQuery port => Sys2Proof.Machine.execMldQuery port s
  | .eweridDatagramDropped => Sys2Proof.Machine.execEweridDatagramDropped s
  | .ebStrangerFrame ethertype => Sys2Proof.Machine.execEbStrangerFrame ethertype s
  | .bundleStoreWritten ok => Sys2Proof.Machine.execBundleStoreWritten ok s
  | .keyAreaWritten ok => Sys2Proof.Machine.execKeyAreaWritten ok s
  | .vmMeasurement mv => Sys2Proof.Machine.execVmMeasurement mv s
  | .freePageGaugeSample => Sys2Proof.Machine.execFreePageGaugeSample s

end Sys2Proof.Machine
end

