-- ==== Sys2Proof/Machine/Step.lean ====
section
/-! DEFINITION. One step: the command at the front of the queue; where none waits, the first of the events recorded, or one ordering
tick. -/
namespace Sys2Proof.Machine

/-- Take the command at the front of the queue and run its meaning with the queue's rest; with none, dispatch the first event in the order
of R67, pending from then on for the helpers that take it; with nothing waiting one ordering tick passes (DESIGN CHOICE, assumptions 1 and 18). -/
def step (s : State) : Host.Outcome State Fault Refusal :=
  match s.pending, s.recorded with
  | [], [] => .next s.passTick
  | [], e :: rest => exec e.cmd ({ s with recorded := rest }.noteEvent e.cmd)
  | c :: rest, _ => exec c { s with pending := rest }

/-- `s` with the command that a table word spells put at the front of its queue. The table gives no row any bits, so no
word spells one and `s` is unchanged. -/
def State.withFetchWord (s : State) (nbits w : Nat) : State :=
  match decodeTableWord nbits w with
  | some c => { s with pending := c :: s.pending }
  | none => s

end Sys2Proof.Machine
end

