-- ==== Sys2Proof/Safety.lean ====
section
/-! DEFINITION. What a safe run is: one in which no step stops. -/
namespace Sys2Proof.Machine

/-- The step from `s` answers a next state. -/
def Goes (s : State) : Prop := ∃ t, step s = .next t

/-- `n` steps from `s` all answer next states. -/
def SafeFor : Nat → State → Prop
  | 0, _ => True
  | n + 1, s => ∃ t, step s = .next t ∧ SafeFor n t

/-- The registers, the memories and what the device has written to host memory are in their one canonical form, so that equal contents
are equal data. -/
def State.Canon (s : State) : Prop :=
  SMap.wf resetWord s.regs = true ∧ s.mem.wf = true ∧
  SMap.wf (fun _ => (0 : Byte)) s.rings.hostMem = true ∧ SMap.wf (fun _ => (0 : Byte)) s.rings.hostMem1 = true

/-! ### Frames -/

/-- The parts of State beside the queue. -/
inductive Part where
  | tick | regs | tickMem | recorded | pins | power | doms | acc | nv | sec | faults | sil | thermal | nvme | rings | map | helpers | steward | fabric
  | mem | cache | movers | spindle | servo | assist | lanes | decode | cal | tier | pool | eb | freeIdx | readOut
  deriving DecidableEq, Repr

/-- Part `p` is the same in both states. -/
def Part.same (p : Part) (s t : State) : Prop :=
  match p with
  | .tick => t.tick = s.tick
  | .regs => t.regs = s.regs
  | .tickMem => t.tickMem = s.tickMem
  | .recorded => t.recorded = s.recorded
  | .pins => t.pins = s.pins
  | .power => t.power = s.power
  | .doms => t.doms = s.doms
  | .acc => t.acc = s.acc
  | .nv => t.nv = s.nv
  | .sec => t.sec = s.sec
  | .faults => t.faults = s.faults
  | .sil => t.sil = s.sil
  | .thermal => t.thermal = s.thermal
  | .nvme => t.nvme = s.nvme
  | .rings => t.rings = s.rings
  | .map => t.map = s.map
  | .helpers => t.helpers = s.helpers
  | .steward => t.steward = s.steward
  | .fabric => t.fabric = s.fabric
  | .mem => t.mem = s.mem
  | .cache => t.cache = s.cache
  | .movers => t.movers = s.movers
  | .spindle => t.spindle = s.spindle
  | .servo => t.servo = s.servo
  | .assist => t.assist = s.assist
  | .lanes => t.lanes = s.lanes
  | .decode => t.decode = s.decode
  | .cal => t.cal = s.cal
  | .tier => t.tier = s.tier
  | .pool => t.pool = s.pool
  | .eb => t.eb = s.eb
  | .freeIdx => t.freeIdx = s.freeIdx
  | .readOut => t.readOut = s.readOut

/-- Nothing but the parts `ps` differs: the queue and every other part are the same. -/
def OnlyParts (ps : List Part) (s t : State) : Prop := t.pending = s.pending ∧ ∀ p : Part, p ∉ ps → p.same s t

/-- Every register outside `as` holds what it held. -/
def OnlyRegs (as : List Nat) (s t : State) : Prop := ∀ a, a ∉ as → t.reg a = s.reg a

/-! ### Reset -/

/-- The commands that act on a device that does not run too: the supervisor's, the timebase's, the retract domain's, those of the
enclosure-bus PHY and of the pins PERST_L (R94, R103, R108). -/
def heardInReset : Instr → Bool
  | .porstLRise .. | .porstLFall | .seqRailInRange | .seqDwellEnd _ | .seqRailTimeout | .seqRetryTimer | .powerdownRailFallen => true
  | .powerdownStepTimeout | .railMonitorTrip _ | .supplyResetRelease _ | .vserLinkRetrain | .vmWarning | .vmWarningClear | .recoveryWaitExpiry => true
  | .rideTimerExpiry | .vmLoss | .vmRestored | .vmMeasurement _ | .retractRelease _ | .hibernateWake | .referenceLoss | .referenceRestored => true
  | .hquery .. | .wake .. | .perstRise _ | .controllerReset .. => true
  | _ => false

/-! ### Descriptors of the service rings -/

/-- Descriptor `d`, TAG `tag`, of ring `r` is in flight with opcode `opc`, has not started, and nothing holds it back (R578). -/
def State.descReady (s : State) (r tag opc : Nat) (d : RingDesc) : Bool :=
  s.desc? r tag == some d && d.opc == opc && !d.started && s.startable r d

/-- Where it is signed, its authorisation passes (R580). -/
def State.descGo (s : State) (d : RingDesc) : Bool := !d.signed || (s.authFails d.auth d.message 1 true).isNone

/-- The state its work begins from: it counts as started, and after an accepted signature a new nonce stands (R580). -/
def State.descBegun (s : State) (r tag : Nat) (d : RingDesc) : State :=
  (s.when d.signed State.newNonce).modDesc r tag (fun x => { x with started := true })

/-- What the set of the descriptor's own extent comes to as its work begins (R582, R696): the state, the bytes it moved, how far it is. -/
def State.ownSet (s : State) (r tag : Nat) (d : RingDesc) (ok : Nat) (data : List Byte) (f : MemFaults) : State × Nat × SetRes :=
  (s.descBegun r tag d).ringSet r tag d ⟨d.p 8 8, d.p 16 8, d.p 4 4⟩ ok data f

/-! ### Microwords -/

/-- Helper `h` issues the microword at its address: Running or Stopping, not waiting, within its 256 words (R151 to R153). -/
def State.mwReady (s : State) (h : Nat) : Bool :=
  decide (h < 24) && s.heActive h && !(s.helper h).blocked && decide ((s.helper h).count < 256)

/-- The word it fetches, a match register's patch word in place of a ROM word (R147). -/
def State.mwAt (s : State) (h : Nat) : Microword := (s.fetchMw h).1

/-- That word is legal, has memory operation `mop`, is no safe point, and the sequencing goes on at `q`: stack, space, address. -/
def State.mwGoes (s : State) (h : Nat) (m : MwIn) (mop : Nat) (q : Helper × Nat × Nat) : Bool :=
  s.mwReady h && !mwIllegal (s.mwAt h) && mwMop (s.mwAt h) == mop && !mwSp (s.mwAt h) &&
  (s.helper h).sequence (s.mwAt h) (s.fetchMw h).2.1 (s.fetchMw h).2.2 m.island == some q

/-- The helper behind an issued word. -/
def Helper.goneOn (y : Helper) (q : Helper × Nat × Nat) : Helper :=
  { y with rstack := q.1.rstack, space := q.2.1, pc := q.2.2, count := y.count + 1 }

/-- No memory access of the past has left an end to come: no cache fault to handle, no safe point that is due. -/
def State.calm (s : State) : Bool := s.cache.dcFault.isNone && helpers24.all (fun h => !((s.helper h).spDue && !(s.helper h).blocked))

/-! ### Pool frames -/

/-- A received frame is acted on: the pool ports work, and the frame names any generation or this device's (R510, R532). -/
def State.ewTakes (s : State) (h : EwHdr) : Bool := s.poolOn && !(h.reply && h.status == 1) && (h.dstGen == 0 || h.dstGen == s.plGen)

/-- Its sender has been heard (R524). -/
def State.ewHeard (s : State) (h : EwHdr) : State :=
  s.modPool (fun p => { p with probing := p.probing.filter (· != h.src), members := p.members.map (fun m => if m.id == h.src then { m with heard := some s.tick } else m) })

/-- The answer to it. -/
def State.ewAnswer (s : State) (h : EwHdr) (type status : Nat) (body : List Byte) : NetOut :=
  .ewerid ⟨h.port, type, h.src, 0, 0, h.xid, false, true, status, s.plId, s.plGen, s.fld PL_EPOCH.EPOCH, body⟩

/-- Frames that wait for the bus: the one in the PHY's buffer first (R590). -/
def State.ebWaits (s : State) : List EbFrame := (s.eb.buf.map (fun l => l.frame)).toList ++ s.eb.tx

/-! ### NVMe commands -/

/-- The admin command `cid` of controller `c` waits to be served: it is `m`, of opcode `opc`, not started, and no check of its fetch
failed. -/
def State.admReady (s : State) (c cid opc : Nat) (m : Cmd) : Bool :=
  s.cmd? c 0 cid == some m && m.e.opc == opc && !m.started && m.fault.isNone

/-- The I/O command `cid` of queue `q` of controller `c` may start: it is `m`, of opcode `opc`, its locks granted, and neither order, power
nor a reservation stands in its way (R548, R555, R556, R560). -/
def State.ioReady (s : State) (c q cid opc : Nat) (m : Cmd) : Bool :=
  q != 0 && s.cmd? c q cid == some m && m.e.opc == opc && s.mayStart m && !s.conflicts m

/-- `m` is the only command in flight, nothing drains, and its completion queue `x` has room and holds nothing back. -/
def State.alone (s : State) (m : Cmd) (y : SubQ) (x : ComQ) : Bool :=
  s.nvme.inflight == [m] && s.nvme.drains == [] && s.sq m.ctrl m.sq == some y && s.cq m.ctrl y.cq == some x && !x.full && x.held == []

/-- The entry that ends such a command. -/
def Cmd.entry (m : Cmd) (y : SubQ) (x : ComQ) (st : NvStatus) (dw0 : Nat) : Cqe := ⟨m.ctrl, y.cq, m.sq, m.e.cid, st, dw0, y.head, x.phase⟩

/-! ### SPDM and MCTP -/

/-- Messages of function `c` are served: the controller exists, its link is up, the device is not in Base-note mode. -/
def State.mctpUp (s : State) (c : Nat) : Bool := s.hasCtrl c && (s.ctrl c).linkUp && !s.bit FB_STAT.BASENOTE

end Sys2Proof.Machine
end

