-- ==== Sys2Proof/Certificates/Slice0/Obligations.lean ====
section
/-! DEFINITION. The statements about the block: what its steps keep, and what its commands do, family by family. -/

open Sys2Proof Sys2Proof.Machine

/-- A step runs the command at the front of the queue. For every command and state, a step with the command at the front of the queue is the command's meaning on the state with the queue's rest. With an empty queue the first of the recorded events is dispatched: its command runs, pending for the helpers that take the event. With nothing waiting one ordering tick passes where PORST_L is high, and with it the registers as that tick finds them; nothing changes where it is low (the model's choice, assumptions 1 and 18). (02_timebase_and_ordering.md (R67); 95_what_each_step_holds.md) -/
def Obligations.step_runs_the_front_command : Prop :=
  (∀ (c : Instr) (rest : List Instr) (s : State), step { s with pending := c :: rest } = exec c { s with pending := rest }) ∧
  (∀ (s : State) (e : Recorded) (rest : List Recorded), s.pending = [] → s.recorded = e :: rest →
    step s = exec e.cmd ({ s with recorded := rest }.noteEvent e.cmd)) ∧
  (∀ s : State, s.pending = [] → s.recorded = [] → s.power.porst = true →
    step s = .next { s with tick := s.tick + 1, tickMem := ⟨s.regs, [], [], []⟩ }) ∧
  (∀ s : State, s.pending = [] → s.recorded = [] → s.power.porst = false → step s = .next s)

/-- Recorded events wait in the one order of class, tick, kind, actuator and unit. An event that the sampler records joins the events not yet dispatched and keeps them sorted by class, then by the tick of recording, then by kind, actuator and unit; none of them is lost, and its hardware action is taken at once. One that has been recorded in the same tick already is merged: it joins no list and increments TB_MERGE, and nothing else. A command that is no event joins the commands. The queue of commands does not change otherwise. (02_timebase_and_ordering.md (R61; R62; R65; R66; R67; R69)) -/
def Obligations.events_wait_in_one_order : Prop :=
  (∀ (s : State) (c : Instr) (r : EventRank), s.eventRank c = some r → (r.edge && s.tickMem.events.contains c) = false →
    s.recorded.Pairwise (fun x y => keyLess (s.waitKey y) (s.waitKey x) = false) →
    (s.recordEvent c).recorded.Pairwise (fun x y => keyLess (s.waitKey y) (s.waitKey x) = false) ∧
    (s.recordEvent c).recorded.Perm (⟨s.tick, c⟩ :: s.recorded) ∧ (s.recordEvent c).pending = s.pending ∧
    s.recordEvent c = { s with tickMem := (s.recordEvent c).tickMem, recorded := (s.recordEvent c).recorded }.hardwareAction c) ∧
  (∀ (s : State) (c : Instr) (r : EventRank), s.eventRank c = some r → r.edge = true → s.tickMem.events.contains c = true →
    (s.recordEvent c).fld TB_MERGE.COUNT = Nat.min (s.fld TB_MERGE.COUNT + 1) (2 ^ 32 - 1) ∧ (s.recordEvent c).recorded = s.recorded ∧
    OnlyParts [.regs, .tickMem] s (s.recordEvent c) ∧ OnlyRegs [TB_MERGE.REG.addr] s (s.recordEvent c)) ∧
  (∀ (s : State) (c : Instr), s.eventRank c = none → s.recordEvent c = { s with pending := s.pending ++ [c] })

/-- Every command answers a next state and leaves the queue alone. Whatever the command, its operands and the state, the meaning answers a next state: no fault, no refusal; and the commands that wait are not touched. (00_scope.md (R12; R21); 95_what_each_step_holds.md) -/
def Obligations.every_command_answers : Prop :=
  (∀ (c : Instr) (s : State), ∃ t, exec c s = .next t ∧ t.pending = s.pending)

/-- Every step keeps registers and memories canonical. From every state whose registers, memories and writes to host memory are in their canonical form (addresses rising, nothing listed that equals what an unlisted address reads as), a step answers a state of which the same holds, and nothing but the front command has left the queue. (06_memory_hbm_mram_ecc.md (R181; R189); 00_scope.md (R14; R18)) -/
def Obligations.steps_keep_the_stores_canonical : Prop :=
  (∀ s : State, s.Canon → ∃ t, step s = .next t ∧ t.Canon ∧ t.pending = s.pending.tail)

/-- The state after reset is canonical. After reset no command waits, every register holds the Reset value of its table, and registers and memories are in their canonical form. (00_scope.md (R18); 03_package_pins_power.md (R89)) -/
def Obligations.reset_is_canonical : Prop :=
  (State.reset.Canon ∧ State.reset.pending = [] ∧ (∀ a : Nat, State.reset.reg a = resetWord a))

/-- No run stops. From every state, any number of steps answer next states, and after as many steps as commands wait the queue is empty. (95_what_each_step_holds.md) -/
def Obligations.every_run_is_safe : Prop :=
  (∀ (n : Nat) (s : State), SafeFor n s) ∧
  (∀ s : State, ∃ t, core.run s.pending.length s = .next t ∧ t.pending = [])

/-- What a 4-byte access does to a register. Outside Base-note mode, a write of four bytes to a register of a serving domain sets every RW field to the written bits, clears in a W1C field the bits written 1 except those that an event has set in the same tick, sets in a W1S field the bits written 1 and leaves RO, RC and WO fields; a read returns the register's view, its RC fields as the tick found them, and leaves in an RC field that counts its reset value and the counts made in the same tick, saturated, and in one that keeps a least or greatest value that of the samples taken in the same tick, its reset value with none; no other register changes. The blotter's start register and the rings' registers have statements of their own. Completion: REGISTER_WRITE, REGISTER_READ_CLEAR each answer a next state, under the premises of its clause on the state and operands alone. (00_scope.md (R12; R13; R15; R16; R17)) -/
def Obligations.register_access : Prop :=
  (∀ (s : State) (addr w : Nat) (r : RegRow), s.live = true → regRow? addr = some r → s.bit FB_STAT.BASENOTE = false → s.writeBarred addr = false →
    addr ≠ HM_BLTCTL.REG.addr → addr / 0x10000 ≠ 0x13 →
    ∃ t, exec (.registerWrite addr (leBytes 4 w)) s = .next t ∧
      (∀ f ∈ r.fields,
        (f.acc = .rw → t.fld ⟨addr, f.hi, f.lo⟩ = (⟨addr, f.hi, f.lo⟩ : Fld).ofWord (BitVec.ofNat 32 w)) ∧
        (f.acc = .w1c → t.fld ⟨addr, f.hi, f.lo⟩ =
          Nat.lor (Nat.land (s.fld ⟨addr, f.hi, f.lo⟩) (Nat.xor ((⟨addr, f.hi, f.lo⟩ : Fld).ofWord (BitVec.ofNat 32 w)) (Fld.max ⟨addr, f.hi, f.lo⟩)))
            (Nat.land (s.fld ⟨addr, f.hi, f.lo⟩) (s.fldSet ⟨addr, f.hi, f.lo⟩))) ∧
        (f.acc = .w1s → t.fld ⟨addr, f.hi, f.lo⟩ = Nat.lor (s.fld ⟨addr, f.hi, f.lo⟩) ((⟨addr, f.hi, f.lo⟩ : Fld).ofWord (BitVec.ofNat 32 w))) ∧
        (f.acc = .ro ∨ f.acc = .rc ∨ f.acc = .wo → t.fld ⟨addr, f.hi, f.lo⟩ = s.fld ⟨addr, f.hi, f.lo⟩)) ∧
      OnlyParts [.regs, .tickMem] s t ∧ OnlyRegs [addr] s t) ∧
  (∀ (s : State) (addr : Nat) (r : RegRow), s.live = true → regRow? addr = some r → addr ∉ [TB_CNT_LO.REG.addr, MP_JSEQ_LO.REG.addr, PL_TOFF_LO.REG.addr] →
    keepsExtreme addr = false →
    ∃ t, exec (.registerReadClear addr 4) s = .next t ∧ t.readOut = leBytes 4 (s.readWord addr).toNat ∧
      (∀ f ∈ r.fields, t.fld ⟨addr, f.hi, f.lo⟩ =
        (if f.acc = .rc then Nat.min (f.reset + s.fldGain ⟨addr, f.hi, f.lo⟩) (Fld.max ⟨addr, f.hi, f.lo⟩) else s.fld ⟨addr, f.hi, f.lo⟩)) ∧
      OnlyParts [.regs, .tickMem, .readOut] s t ∧ OnlyRegs [addr] s t) ∧
  (∀ (s : State) (addr : Nat) (r : RegRow), s.live = true → regRow? addr = some r → keepsExtreme addr = true →
    ∃ t, exec (.registerReadClear addr 4) s = .next t ∧ t.readOut = leBytes 4 (s.readWord addr).toNat ∧
      (∀ f ∈ r.fields, t.fld ⟨addr, f.hi, f.lo⟩ =
        (if f.acc = .rc then (if s.fldSet ⟨addr, f.hi, f.lo⟩ = 0 then f.reset else s.fldGain ⟨addr, f.hi, f.lo⟩) else s.fld ⟨addr, f.hi, f.lo⟩)) ∧
      OnlyParts [.regs, .tickMem, .readOut] s t ∧ OnlyRegs [addr] s t) ∧
  (∀ (s : State) (addr : Nat) (data : List Byte), s.live = true → addr % 4 = 0 → data.length < 4 → exec (.registerWrite addr data) s = .next s)

/-- Unimplemented offsets read 0 and take no write. A read of four bytes at an offset that no register table and no window implements returns 0 and changes no register; a write there has no effect. Completion: REGISTER_READ_CLEAR, REGISTER_WRITE each answer a next state, under the premises of its clause on the state and operands alone. (R14) -/
def Obligations.unimplemented_offsets : Prop :=
  (∀ (s : State) (addr : Nat), s.live = true → addr % 4 = 0 → regRow? addr = none → inPushWindow addr = false →
    ∃ t, exec (.registerReadClear addr 4) s = .next t ∧ t.readOut = [0, 0, 0, 0] ∧ OnlyParts [.readOut] s t) ∧
  (∀ (s : State) (addr : Nat) (data : List Byte), s.live = true → addr % 4 = 0 → regRow? addr = none → inPushWindow addr = false → data.length = 4 →
    exec (.registerWrite addr data) s = .next s)

/-- Registers of a domain that is not Serving. While a domain is not Serving, a write of four bytes to one of its registers changes nothing, and a read returns the register's current view. Completion: REGISTER_WRITE, REGISTER_READ_CLEAR each answer a next state, under the premises of its clause on the state and operands alone. (R36) -/
def Obligations.registers_of_a_domain_in_service : Prop :=
  (∀ (s : State) (addr : Nat) (data : List Byte) (d : Dom), s.live = true → s.regDom addr = some d → s.isServing d = false → addr % 4 = 0 → data.length = 4 →
    exec (.registerWrite addr data) s = .next s) ∧
  (∀ (s : State) (addr : Nat) (d : Dom), s.live = true → s.regDom addr = some d → s.isServing d = false → addr % 4 = 0 →
    ∃ t, exec (.registerReadClear addr 4) s = .next t ∧ t.readOut = leBytes 4 (s.readWord addr).toNat)

/-- The counters and the reference. A read of TB_CNT_LO, MP_JSEQ_LO or PL_TOFF_LO returns the low half of the counter and puts the high half of the same value into the HI register; an 8-byte read at TB_CNT_LO returns the tick in eight bytes. Nothing else changes. On the loss of the reference the device records it in TB_STAT, closes the write gates, parks both actuators and writes record 0x0101; a second loss changes nothing. On its return TB_STAT.REFSRC clears, record 0x0101 is written and both actuators' domains are restored. Where the device is awake and does not run (Hibernate, the rails sequencing), only TB_STAT changes; a device in reset sees neither. A rate measurement shows the rate and keeps the lowest since the last read. Completion: COUNTER_LO_READ, REGISTER_READ_CLEAR, REFERENCE_LOSS, REFERENCE_RESTORED, HELPER_RATE_MEASUREMENT each answer a next state, under the premises of its clause on the state and operands alone. (02_timebase_and_ordering.md (R76; TB_CNT_LO; TB_CNT_HI; R59; R60; R73); 15_zones_map_and_journal.md (MP_JSEQ_LO; MP_JSEQ_HI); 17_ewerid_pool.md (PL_TOFF_LO; PL_TOFF_HI)) -/
def Obligations.the_time_base : Prop :=
  (∀ s : State, s.live = true → ∃ t, exec (.counterLoRead .tb) s = .next t ∧ t.readOut = leBytes 4 s.tick ∧ t.fld TB_CNT_HI.COUNT = s.tick / 2 ^ 32 % 2 ^ 32 ∧
    OnlyParts [.regs, .tickMem, .readOut] s t ∧ OnlyRegs [TB_CNT_HI.REG.addr] s t) ∧
  (∀ s : State, s.live = true → ∃ t, exec (.counterLoRead .mpJseq) s = .next t ∧ t.readOut = leBytes 4 (s.reg MP_JSEQ_LO.REG.addr).toNat ∧
    t.fld MP_JSEQ_HI.SEQ = s.map.jseq / 2 ^ 32 % 2 ^ 32 ∧ OnlyParts [.regs, .tickMem, .readOut] s t ∧ OnlyRegs [MP_JSEQ_HI.REG.addr] s t) ∧
  (∀ s : State, s.live = true → ∃ t, exec (.counterLoRead .plToff) s = .next t ∧ t.readOut = leBytes 4 (toTwos 64 s.pool.toff) ∧
    t.fld PL_TOFF_HI.OFFSET = toTwos 64 s.pool.toff / 2 ^ 32 ∧ OnlyParts [.regs, .tickMem, .readOut] s t ∧ OnlyRegs [PL_TOFF_HI.REG.addr] s t) ∧
  (∀ s : State, s.live = true → ∃ t, exec (.registerReadClear TB_CNT_LO.REG.addr 8) s = .next t ∧ t.readOut = leBytes 8 s.tick) ∧
  (∀ s : State, s.live = true → s.bit TB_STAT.REFSRC = false →
    ∃ u : State, exec .referenceLoss s = .next (u.closeAllGates.parkHold.record 0x0101 (zeros 4)) ∧ u.bit TB_STAT.REFSRC = true ∧
      u.bit TB_STAT.REFLOSS = true ∧ OnlyParts [.regs, .tickMem] s u ∧ OnlyRegs [TB_STAT.REG.addr] s u) ∧
  (∀ s : State, s.awake = true → s.live = false → s.bit TB_STAT.REFSRC = false →
    ∃ t, exec .referenceLoss s = .next t ∧ t.bit TB_STAT.REFSRC = true ∧ t.bit TB_STAT.REFLOSS = true ∧ OnlyParts [.regs, .tickMem] s t ∧
      OnlyRegs [TB_STAT.REG.addr] s t) ∧
  (∀ s : State, s.awake = false ∨ s.bit TB_STAT.REFSRC = true → exec .referenceLoss s = .next s) ∧
  (∀ s : State, s.live = true → s.bit TB_STAT.REFSRC = true →
    ∃ u : State, exec .referenceRestored s = .next (u.record 0x0101 (leBytes 1 1 ++ zeros 3)).restoreBoth ∧ u.bit TB_STAT.REFSRC = false ∧
      OnlyParts [.regs] s u ∧ OnlyRegs [TB_STAT.REG.addr] s u) ∧
  (∀ s : State, s.awake = true → s.live = false → s.bit TB_STAT.REFSRC = true →
    ∃ t, exec .referenceRestored s = .next t ∧ t.bit TB_STAT.REFSRC = false ∧ OnlyParts [.regs] s t ∧ OnlyRegs [TB_STAT.REG.addr] s t) ∧
  (∀ s : State, s.awake = false ∨ s.bit TB_STAT.REFSRC = false → exec .referenceRestored s = .next s) ∧
  (∀ (s : State) (rate : Nat), s.live = true → ∃ t, exec (.helperRateMeasurement rate) s = .next t ∧ t.fld TB_SPEED.RATE = rate % 2 ^ 16 ∧
    t.fld TB_SPEED.MINRATE = (if s.fld TB_SPEED.MINRATE = 0 then rate % 2 ^ 16 else Nat.min (s.fld TB_SPEED.MINRATE) (rate % 2 ^ 16)) ∧
    OnlyParts [.regs, .tickMem] s t ∧ OnlyRegs [TB_SPEED.REG.addr] s t)

/-- The sequence of the rails and their monitors. PORST_L high starts the sequence with PW_SEQ0, every register at its reset value but RSTCAUSE and TESTMODE; a rail in range and its dwell lead to the next output and, after the sixth, to the boot; a rail that stays out of range turns every output off, the first time for the repeat, the second for the hold with FAULT_L asserted; a power-down takes the outputs down from the highest. Loss of VANA or VSER is a fault of the domains it feeds, of VSER also of both links; loss of any other monitored rail is a supply reset, whatever the device does, which ends with the rails sequenced again; when VSER is back, links out of PERST train. A rail that is not watched (one not enabled, or any while the device is in reset) does nothing. Completion: PORST_L_RISE, SEQ_RAIL_IN_RANGE, SEQ_DWELL_END, SEQ_RAIL_TIMEOUT, SEQ_RETRY_TIMER, PORST_L_FALL, POWERDOWN_RAIL_FALLEN, POWERDOWN_STEP_TIMEOUT, RAIL_MONITOR_TRIP, SUPPLY_RESET_RELEASE, VSER_LINK_RETRAIN each answer a next state, under the premises of its clause on the state and operands alone. (03_package_pins_power.md (R89 to R92; R93 to R95)) -/
def Obligations.rails : Prop :=
  (∀ (s : State) (powerOn tpEn : Bool), s.power.porst = false →
    ∃ t, exec (.porstLRise powerOn tpEn) s = .next t ∧ t.tick = 0 ∧ t.power.porst = true ∧ t.power.phase = .waitRail 0 ∧ t.pins.seq = 1 ∧
      t.fld PW_STAT.RSTCAUSE = (if powerOn then 0 else 1) ∧ t.bit SC_STAT.TESTMODE = tpEn ∧ t.nv = s.nv ∧ t.mem.mram = s.mem.mram ∧
      t.map.media = s.map.media ∧ t.freeIdx = s.freeIdx ∧ t.pending = s.pending ∧
      (∀ a : Nat, a ∉ [PW_STAT.REG.addr, SC_STAT.REG.addr] → t.reg a = resetWord a)) ∧
  (∀ (s : State) (n : Nat), n < 6 → s.power.phase = .waitRail n →
    ∃ t, exec .seqRailInRange s = .next t ∧ t.power = { s.power with phase := .dwell n } ∧ t.fldBit PW_STAT.RAILOK n = true ∧
      OnlyParts [.regs, .tickMem, .power] s t ∧ OnlyRegs [PW_STAT.REG.addr] s t) ∧
  (∀ (s : State) (n failed : Nat), n < 5 → s.power.phase = .dwell n →
    ∃ t, exec (.seqDwellEnd failed) s = .next t ∧ t.power = { s.power with phase := .waitRail (n + 1) } ∧ t.pins.seq.getLsbD (n + 1) = true ∧
      OnlyParts [.pins, .power] s t) ∧
  (∀ (s : State) (failed : Nat), s.power.phase = .dwell 5 →
    ∃ t, exec (.seqDwellEnd failed) s = .next t ∧ t.power.phase = .done ∧ t.fld HM_STAT.READY = 15 - failed % 16 ∧
      t.fld MJ_STAT.READY = 15 - failed / 16 % 16 ∧ (failed % 256 = 0 → s.bit FB_STAT.BASENOTE = t.bit FB_STAT.BASENOTE) ∧
      (failed % 256 ≠ 0 → t.bit FB_STAT.BASENOTE = true)) ∧
  (∀ (s : State) (n : Nat), s.power.phase = .waitRail n → s.power.attempt = 1 →
    ∃ t, exec .seqRailTimeout s = .next t ∧ t.power = { s.power with phase := .retryWait, failRecord := some n } ∧ t.pins.seq = 0 ∧
      t.fld PW_STAT.SEQRAIL = n % 16 ∧ t.fld PW_STAT.RAILOK = 0 ∧ OnlyParts [.regs, .tickMem, .pins, .power] s t ∧ OnlyRegs [PW_STAT.REG.addr] s t) ∧
  (∀ (s : State) (n : Nat), s.power.phase = .waitRail n → s.power.attempt = 2 →
    ∃ t, exec .seqRailTimeout s = .next t ∧ t.power = { s.power with phase := .hold } ∧ t.pins.seq = 0 ∧ t.pins.faultL = true ∧
      t.fld PW_STAT.SEQRAIL = n % 16 ∧ t.bit FB_STAT.FAULTL = true ∧ OnlyParts [.regs, .tickMem, .pins, .power] s t ∧
      OnlyRegs [PW_STAT.REG.addr, FB_STAT.REG.addr] s t) ∧
  (∀ s : State, s.power.phase = .retryWait →
    ∃ t, exec .seqRetryTimer s = .next t ∧ t.power = { s.power with attempt := 2, phase := .waitRail 0 } ∧ t.pins.seq.getLsbD 0 = true ∧
      OnlyParts [.pins, .power] s t) ∧
  (∀ s : State, s.power.porst = true →
    ∃ t, exec .porstLFall s = .next t ∧ t.power.porst = false ∧ t.pins.faultL = false ∧ t.bit FB_STAT.FAULTL = false ∧ t.spState = spCoasting ∧
      t.spindle.drive = .off ∧ t.pins.brkG = false ∧ (t.ctrl 0).linkUp = false ∧ (t.ctrl 1).linkUp = false ∧
      (s.power.phase = .done → t.power.phase = .down 5 ∧ t.pins.seq.getLsbD 5 = false)) ∧
  (∀ (s : State) (n : Nat), n < 5 → s.power.phase = .down (n + 1) →
    ∃ t, exec .powerdownRailFallen s = .next t ∧ exec .powerdownStepTimeout s = .next t ∧ t.power = { s.power with phase := .down n } ∧
      t.pins.seq.getLsbD n = false ∧ t.fldBit PW_STAT.RAILOK n = false ∧ OnlyParts [.regs, .tickMem, .pins, .power] s t ∧
      OnlyRegs [PW_STAT.REG.addr] s t) ∧
  (∀ s : State, s.power.phase = .down 0 →
    ∃ t, exec .powerdownRailFallen s = .next t ∧ exec .powerdownStepTimeout s = .next t ∧
      t.power = { s.power with phase := .off, hibernate := s.power.porst && s.power.hibernatePending, hibernatePending := false } ∧
      OnlyParts [.power] s t) ∧
  (∀ s : State, s.railWatched .vana = true →
    ∃ u : State, exec (.railMonitorTrip .vana) s = .next ((((u.domainFault .DA 5).domainFault .DB 5).laneOff 8).domSettle.standbyStep) ∧
      u.fldBit PW_STAT.RAILOK 1 = false ∧ OnlyParts [.regs, .tickMem] s u ∧ OnlyRegs [PW_STAT.REG.addr] s u) ∧
  (∀ s : State, s.railWatched .vser = true →
    ∃ u : State, exec (.railMonitorTrip .vser) s = .next ((u.domainFault .DP 5).domSettle.standbyStep) ∧ u.power.vserDown = true ∧
      (u.ctrl 0).linkUp = false ∧ (u.ctrl 1).linkUp = false ∧ u = (((s.railOk 2 false).modPower (fun p => { p with vserDown := true })).linkDown 0).linkDown 1) ∧
  (∀ (s : State) (r : Rail), s.railWatched r = true → r ≠ .vana → r ≠ .vser →
    ∃ t, exec (.railMonitorTrip r) s = .next t ∧ t.power.supplyReset = true ∧ t.live = false ∧ t.pins.seq = 0 ∧ t.fld PW_STAT.RSTCAUSE = 2 ∧ t.tick = 0 ∧
      t.nv = s.nv ∧ t.mem.mram = s.mem.mram ∧ t.pending = s.pending ∧ (∀ a : Nat, a ≠ PW_STAT.REG.addr → t.reg a = resetWord a)) ∧
  (∀ (s : State) (r : Rail), s.railWatched r = false → exec (.railMonitorTrip r) s = .next s) ∧
  (∀ (s : State) (vmLow : Bool), s.power.supplyReset = true →
    ∃ t, exec (.supplyResetRelease vmLow) s = .next t ∧ t.fld PW_STAT.RSTCAUSE = (if vmLow then 0 else 2) ∧
      t.power = { s.power with supplyReset := false, phase := .waitRail 0 } ∧ t.pins.seq.getLsbD 0 = true ∧ OnlyParts [.regs, .tickMem, .pins, .power] s t ∧
      OnlyRegs [PW_STAT.REG.addr] s t) ∧
  (∀ s : State, s.power.vserDown = true →
    ∃ t, exec .vserLinkRetrain s = .next t ∧ t.power = { s.power with vserDown := false } ∧ t.fldBit PW_STAT.RAILOK 2 = true ∧
      (t.ctrl 0).linkUp = ((s.ctrl 0).linkUp || (s.ctrl 0).perst) ∧
      (t.ctrl 1).linkUp = ((s.ctrl 1).linkUp || ((s.ctrl 1).perst && s.hasCtrl 1)) ∧ OnlyParts [.regs, .tickMem, .power, .nvme] s t ∧
      OnlyRegs [PW_STAT.REG.addr] s t)

/-- A device held in reset, or without power, does nothing. While the device does not run (PORST_L low, a supply reset, the rails sequencing or failed, the power-down, Hibernate), no command has an effect but those that the supervisor, the timebase, the retract domain, the enclosure-bus PHY and the pins PERST_L take: the state stays as it is. (03_package_pins_power.md (R91; R92; R94; R108); 25_electrical_and_timing.md (R678)) -/
def Obligations.what_is_not_running_does_nothing : Prop :=
  (∀ (c : Instr) (s : State), s.live = false → heardInReset c = false → exec c s = .next s)

/-- The VM monitor's states. Warning from Normal starts a ride-through, which is counted, recorded and timed and bars new frames; warning clear waits; the wait over, VM is Normal; the ride timer parks both actuators in Parked hold; a loss closes the gates, retracts, ends MRAM admission and the ride-through; VM restored from either ends in Normal, from VM lost with the spindle wanted and both restored; during a thermal shutdown only MRAM writes are admitted again. A measurement shows VM and its lowest value. Completion: VM_WARNING, VM_LOSS, VM_RESTORED, VM_WARNING_CLEAR, RECOVERY_WAIT_EXPIRY, RIDE_TIMER_EXPIRY, VM_MEASUREMENT each answer a next state, under the premises of its clause on the state and operands alone. (03_package_pins_power.md (R96 to R102); 01_architecture.md (R48)) -/
def Obligations.vm_states : Prop :=
  (∀ s : State, s.watching = true → s.power.frozen = false → s.vmState = vmNormal →
    ∃ t, exec .vmWarning s = .next t ∧ t.vmState = vmRide ∧ t.bit PW_STAT.VMWARN = true ∧ t.fld PW_RIDE.COUNT = Nat.min (s.fld PW_RIDE.COUNT + 1) PW_RIDE.COUNT.max ∧
      t.power = { s.power with rideStart := s.tick, rideTimer := true, msTimer := false, frameBar := true, mediaHold := true, vmGood := false } ∧
      t.cal = (s.abandonRuns (fun _ => true)).cal) ∧
  (∀ s : State, s.watching = true → s.power.frozen = false → s.vmState = vmWait →
    ∃ t, exec .vmWarning s = .next t ∧ t.vmState = vmRide ∧ t.bit PW_STAT.VMWARN = true ∧ t.power = { s.power with msTimer := false, vmGood := false }) ∧
  (∀ s : State, s.watching = false → exec .vmWarning s = .next s ∧ exec .vmLoss s = .next s ∧ exec .vmRestored s = .next s) ∧
  (∀ s : State, s.vmState = vmRide → s.power.frozen = false →
    ∃ t, exec .vmWarningClear s = .next t ∧ t.vmState = vmWait ∧ t.power = { s.power with msTimer := true } ∧ OnlyParts [.regs, .tickMem, .power] s t ∧
      OnlyRegs [PW_STAT.REG.addr] s t) ∧
  (∀ (s : State) (began : Nat), s.live = true → s.vmState = vmWait → s.power.msTimer = true → s.power.rideStart = some began → s.power.deferred = none →
    ∃ t, exec .recoveryWaitExpiry s = .next t ∧ t.vmState = vmNormal ∧ t.power.frameBar = false ∧ t.power.mediaHold = false ∧ t.power.rideTimer = false ∧
      t.power.vmGood = true ∧ t.bit MJ_STAT.ADMIT = true ∧ t.fld PW_RIDE.LAST = Nat.min 0xFFFF ((s.tick - began + 1250) / 2500)) ∧
  (∀ s : State, (s.vmState = vmRide ∨ s.vmState = vmWait) → s.power.rideTimer = true →
    ∃ u : State, exec .rideTimerExpiry s = .next u.parkHold.resumeReads ∧ u.vmState = vmParked ∧
      u.power = { s.power with rideTimer := false, msTimer := false, rideStart := none, mediaHold := false } ∧ u.alertAsserted = true ∧
      OnlyParts [.regs, .tickMem, .power, .sil] s u ∧ OnlyRegs [PW_STAT.REG.addr, PW_RIDE.REG.addr, SL_LOST.REG.addr, SL_SUPP.REG.addr] s u) ∧
  (∀ s : State, s.watching = true →
    ∃ t, exec .vmLoss s = .next t ∧ t.vmState = vmLost ∧ t.bit MJ_STAT.ADMIT = false ∧ t.bit PW_STAT.VMLOSS = true ∧ t.power.frameBar = true ∧
      t.power.mediaHold = s.power.frozen ∧ t.power.lossOpen = true ∧ t.power.vmGood = false ∧ t.spState = spCoasting ∧ t.spindle.drive = .off ∧
      t.spindle.barred = true ∧ t.pins.brkG = false ∧ (∀ g ∈ t.pins.gates, g.2 = false) ∧
      (∀ a : Act, s.svLoaded a = true → t.pins.ret.at a = true)) ∧
  (∀ s : State, s.live = true → s.power.hibernate = false → s.vmState = vmParked → s.power.frozen = false → s.power.deferred = none →
    ∃ u : State, exec .vmRestored s = .next u.restoreBoth ∧ u = (s.modPower (fun p => { p with vmGood := true })).vmToNormal ∧ u.vmState = vmNormal ∧
      u.power.frameBar = false ∧ u.power.mediaHold = false ∧ u.bit MJ_STAT.ADMIT = true) ∧
  (∀ s : State, s.live = true → s.power.hibernate = false → s.vmState = vmLost → s.power.frozen = false → s.power.deferred = none →
    ∃ u : State, exec .vmRestored s = .next (u.when (u.acc.applied != []) State.wantSpin).restoreBoth ∧
      u = (s.modPower (fun p => { p with vmGood := true })).vmToNormal ∧ u.vmState = vmNormal ∧ u.power.frameBar = false ∧
      u.power.mediaHold = false ∧ u.bit MJ_STAT.ADMIT = true) ∧
  (∀ s : State, s.watching = true → s.vmState = vmLost → s.power.frozen = true →
    ∃ t, exec .vmRestored s = .next t ∧ t.bit MJ_STAT.ADMIT = true ∧ t.power = { s.power with vmGood := true } ∧
      OnlyParts [.regs, .tickMem, .power] s t ∧ OnlyRegs [MJ_STAT.REG.addr] s t) ∧
  (∀ s : State, s.watching = true → s.vmState ≠ vmLost → s.vmState ≠ vmParked →
    ∃ t, exec .vmRestored s = .next t ∧ t.power = { s.power with vmGood := true } ∧ OnlyParts [.power] s t) ∧
  (∀ (s : State) (mv : Nat), s.watching = true → ∃ t, exec (.vmMeasurement mv) s = .next t ∧ t.fld PW_VM.VM = mv % 2 ^ 16 ∧
    t.fld PW_VM.VMIN = (if s.fld PW_VM.VMIN = 0 then mv % 2 ^ 16 else Nat.min (s.fld PW_VM.VMIN) (mv % 2 ^ 16)) ∧ OnlyParts [.regs, .tickMem, .sil] s t)

/-- Idle, the way into Hibernate and the return from it. After 50 ms without media work in Active, the write gates close, reading lanes only demodulate servo and the state is Idle. Where a host has asked for Hibernate, L2 entered in Standby starts the power-down with the log closed. A wake from Hibernate keeps the tick, the TB and PW registers and the bus health copy, resets every other register and sequences the rails. Completion: IDLE_TIMER_EXPIRY, HIBERNATE_WAKE, PCIE_L2_ENTERED each answer a next state, under the premises of its clause on the state and operands alone. (03_package_pins_power.md (R107 to R110)) -/
def Obligations.power_states : Prop :=
  (∀ s : State, s.live = true → s.pwState = pwActive → s.mediaBusy = false → s.power.standbyPending = false →
    ∃ t, exec .idleTimerExpiry s = .next t ∧ t.pwState = pwIdle ∧ (∀ l ∈ lanes9, t.lnState l ≠ lnReading) ∧
      (∀ g ∈ t.pins.gates, g.2 = false) ∧ OnlyParts [.regs, .tickMem, .pins, .map, .assist, .lanes, .tier] s t) ∧
  (∀ s : State, s.power.hibernate = true →
    ∃ t, exec .hibernateWake s = .next t ∧ t.tick = s.tick ∧ t.pwState = pwBoot ∧ t.power.porst = true ∧ t.power.phase = .waitRail 0 ∧
      t.power.hibernate = false ∧ t.eb.health = s.eb.health ∧ t.nv = s.nv ∧ t.mem.mram = s.mem.mram ∧ t.pending = s.pending ∧
      t.fld SP_STAT.NOREGEN = s.fld SP_STAT.NOREGEN ∧
      (∀ a : Nat, a ≠ PW_STAT.REG.addr → a ≠ SP_STAT.REG.addr → t.reg a = (if inRange a 0x10000 0x2FFFF then s.reg a else resetWord a))) ∧
  (∀ s : State, s.live = true → s.power.hibernatePending = true → s.pwState = pwStandby →
    ∃ t, exec .pcieL2Entered s = .next t ∧ t.power.phase = .down 5 ∧ t.power.hibernatePending = true ∧ t.tick = s.tick ∧ t.nv = s.nv ∧ t.mem.hbm = s.mem.hbm ∧
      (t.ctrl 0).linkUp = false ∧ (t.ctrl 1).linkUp = false ∧ t.live = false ∧ OnlyParts [.regs, .tickMem, .pins, .power, .sil, .mem, .nvme] s t) ∧
  (∀ s : State, s.live = true → s.power.hibernatePending = false ∨ s.pwState ≠ pwStandby → exec .pcieL2Entered s = .next s)

/-- Boot load, store, and media copies of the Accord. The boot load ends with an image applied or in Base-note mode with cause 0x01. A store request that passes its checks empties the slot that does not hold the applied image and starts the store; otherwise it ends with its status and no slot changes. A store read back equal leaves the slot Pending, one that differs leaves it revoked. Media copies take the applied image where they read back; their read gives host memory the copy. Completion: ACCORD_BOOT_LOAD, ACCORD_STORE, ACCORD_STORE_WRITTEN, ACCORD_MEDIA_COPY, ACCORD_MEDIA_COPY_READ each answer a next state, under the premises of its clause on the state and operands alone. (04_accord.md (R113; R114; R124; R127; R130; R131; R132; R135)) -/
def Obligations.accord_commands : Prop :=
  (∀ s : State, s.live = true → s.bit HM_STAT.FILLDONE = true → s.acc.applied = [] → s.fld AC_STAT.OP = 1 → s.bit FB_STAT.BASENOTE = false →
    ∃ t, exec .accordBootLoad s = .next t ∧ (t.acc.applied = [] → t.bit FB_STAT.BASENOTE = true ∧ t.fld FB_STAT.CAUSE = 1 ∧ t.pins.faultL = true) ∧
      (t.acc.applied ≠ [] → t.fld ST_STAT.STATE = 1 ∧ t.acc.applied = (s.flashAccord (t.fld AC_STAT.SLOT)).image)) ∧
  (∀ (s : State) (r tag : Nat) (img : List Byte) (ok : Bool) (d : RingDesc), s.live = true → s.descReady r tag 0x09 d = true → s.descGo d = true → s.bit AC_STAT.BUSY = false →
    ∃ t, exec (.accordStore r tag img ok) s = .next t ∧
      (ok = false → t = (s.descBegun r tag d).ringEnd r tag rsHostError none) ∧
      (ok = true → natBit (d.p 12 1) 1 = false → (s.descBegun r tag d).acStoreErr (slice img 0 (d.p 8 4)) = none →
        t.fld AC_STAT.OP = 2 ∧ t.bit AC_STAT.BUSY = true ∧ t.flashAccord (1 - s.fld AC_STAT.SLOT) = FlashSlot.empty ∧
        t.flashAccord (s.fld AC_STAT.SLOT) = s.flashAccord (s.fld AC_STAT.SLOT) ∧
        t.acc.store = some ⟨.ring r tag, (slice img 0 (d.p 8 4)).take (acImgLen (slice img 0 (d.p 8 4))), 1 - s.fld AC_STAT.SLOT, natBit (d.p 12 1) 0, false, false⟩ ∧
        OnlyParts [.regs, .tickMem, .nv, .acc] (s.descBegun r tag d) t)) ∧
  (∀ (s : State) (r tag : Nat) (img : List Byte) (d : RingDesc) (e : Nat × Nat), s.live = true → s.descReady r tag 0x09 d = true → s.descGo d = true → s.bit AC_STAT.BUSY = false →
    natBit (d.p 12 1) 1 = false → (s.descBegun r tag d).acStoreErr (slice img 0 (d.p 8 4)) = some e →
    exec (.accordStore r tag img true) s =
      .next (((s.descBegun r tag d).acRefuse (slice img 0 (d.p 8 4)) e).ringEnd r tag rsAccordError (resultByte rsAccordError e.1))) ∧
  (∀ (s : State) (r tag : Nat) (img : List Byte) (ok : Bool) (d : RingDesc), s.live = true → s.descReady r tag 0x09 d = true → s.descGo d = true → s.bit AC_STAT.BUSY = true →
    exec (.accordStore r tag img ok) s = .next ((s.descBegun r tag d).ringEnd r tag rsBusy none)) ∧
  (∀ (s : State) (x : StoreOp), s.live = true → s.acc.store = some x → x.written = false → x.apply = false →
    ∃ u : State, exec (.accordStoreWritten true) s = .next (u.answerStore x.owner rsSuccess 0 (u.storedStatus x.owner)).deferredPump ∧
      (u.flashAccord x.slot).image = x.image ∧ (u.flashAccord x.slot).marks.extra = x.relayout ∧ u.acc.store = none ∧ u.bit AC_STAT.BUSY = false ∧
      OnlyParts [.regs, .tickMem, .nv, .acc] s u) ∧
  (∀ (s : State) (x : StoreOp), s.live = true → s.acc.store = some x → x.written = false →
    ∃ u : State, exec (.accordStoreWritten false) s = .next (u.answerStore x.owner rsUnitError 0 .internalError).deferredPump ∧
      (u.flashAccord x.slot).marks.revoke = true ∧ u.acc.store = none ∧ u.bit AC_STAT.BUSY = false ∧ OnlyParts [.regs, .tickMem, .nv, .acc, .sil] s u) ∧
  (∀ (s : State) (okA okB : Bool), s.live = true → s.acc.copyDue = true → s.acc.applied ≠ [] → s.bit FB_STAT.BASENOTE = false → s.svState .A = svFollowing →
    s.svState .B = svFollowing →
    ∃ t, exec (.accordMediaCopy okA okB) s = .next t ∧ t.acc.mediaCopy.A = (if okA then s.acc.applied else s.acc.mediaCopy.A) ∧
      t.acc.mediaCopy.B = (if okB then s.acc.applied else s.acc.mediaCopy.B) ∧ t.bit AC_STAT.MEDIACOPY = (okA && okB) ∧ t.acc.copyDue = false ∧
      OnlyParts [.regs, .tickMem, .acc, .map] s t ∧ OnlyRegs [AC_STAT.REG.addr] s t) ∧
  (∀ (s : State) (r tag : Nat) (d : RingDesc), s.live = true → s.descReady r tag 0x0A d = true → s.descGo d = true → s.actAway (actOf (d.p 0 1)) = false →
    s.acc.mediaCopy.at (actOf (d.p 0 1)) ≠ [] →
    exec (.accordMediaCopyRead r tag true) s =
      .next (((s.descBegun r tag d).hostWrite .data (s.ring r).port (d.p 8 8) (s.acc.mediaCopy.at (actOf (d.p 0 1)))).ringEnd r tag rsSuccess none))

/-- Roles, starts, stops, drains and faults of a helper. At boot a helper takes the role and parameter of the Accord with ROLEGEN 1; a start runs it from its role's entry microword; a stop request that can be accepted makes it Stopping and returns what waits for it; the end of its drain halts it; a fault halts it in Faulted with its cause and address, a lapse of the safe point with cause 3. Completion: HELPER_ROLE_ASSIGNMENT, HELPER_START, HELPER_STOP_REQUEST, HELPER_DRAIN_DONE, HELPER_DRAIN_TIMEOUT, HELPER_FAULT, SAFE_POINT_LAPSE each answer a next state, under the premises of its clause on the state and operands alone. (05_steward_and_helpers.md (R153; R155; R157; R159; R168; R152)) -/
def Obligations.helper_states : Prop :=
  (∀ (s : State) (h : Nat), s.live = true → h < 24 → s.acc.applied ≠ [] → s.bit FB_STAT.BASENOTE = false → s.heState h = heStopped → s.fld (HE_ROLE.ROLEGEN h) = 0 →
    ∃ t, exec (.helperRoleAssignment h) s = .next t ∧ t.role h = s.acRole h ∧ t.roleParam h = s.acParam h ∧ t.fld (HE_ROLE.ROLEGEN h) = 1 ∧
      OnlyParts [.regs, .tickMem] s t ∧ OnlyRegs [(HE_ROLE.REG h).addr, DD_STAT.REG.addr] s t) ∧
  (∀ (s : State) (h : Nat), s.live = true → h < 24 → s.bit FB_STAT.BASENOTE = false → s.heState h = heStopped → s.fld (HE_ROLE.ROLEGEN h) ≠ 0 →
    (s.fabric.owed.any (fun x => x.1 == h)) = false →
    ∃ t, exec (.helperStart h) s = .next t ∧ t.heState h = heRunning ∧ (t.helper h).pc = Config.entryPoint (s.role h) ∧ (t.helper h).space = 1 ∧
      (t.helper h).count = 0 ∧ (t.helper h).rstack = [] ∧ (t.helper h).regs = (s.helper h).regs ∧ (t.helper h).localStore = (s.helper h).localStore ∧
      (∀ k < 24, k ≠ h → t.helper k = s.helper k) ∧ OnlyParts [.regs, .tickMem, .helpers] s t) ∧
  (∀ (s : State) (h : Nat), s.live = true → h < 24 → s.heState h = heRunning → s.stopOk h = true → (s.helper h).count = 0 →
    ∃ t, exec (.helperStopRequest h) s = .next t ∧ t.heState h = heStopping ∧ (∀ m ∈ t.fabric.waiting, m.dst ≠ h) ∧
      t.fabric.returning.length = s.fabric.returning.length + (s.fabric.waiting.filter (fun m => m.dst == h)).length ∧ (s.role h ≠ 1 → OnlyParts [.regs, .tickMem, .helpers, .fabric] s t)) ∧
  (∀ (s : State) (h : Nat), s.live = true → h < 24 → s.heState h = heRunning → s.stopOk h = true → (s.helper h).count ≠ 0 →
    exec (.helperStopRequest h) s = .next (s.modHelper h (fun x => { x with stopReq := true }))) ∧
  (∀ (s : State) (h : Nat), s.live = true → h < 24 → s.heState h = heFaulted →
    exec (.helperStopRequest h) s = .next (s.modHelper h (fun x => { x with stopStatus := some rsAlreadyDown }))) ∧
  (∀ (s : State) (h : Nat), s.live = true → h < 24 → s.heState h = heRunning → s.stopOk h = false →
    exec (.helperStopRequest h) s = .next (s.modHelper h (fun x => { x with stopStatus := some rsRefused }))) ∧
  (∀ (s : State) (h : Nat), s.live = true → h < 24 → s.heState h = heStopping → s.role h ≠ 1 → s.role h ≠ 0x0B → (s.helper h).count = 0 → (s.fabric.owed.any (fun x => x.1 == h)) = false →
    ∃ t, exec (.helperDrainDone h) s = .next t ∧ t.heState h = heStopped ∧ (t.helper h).inbox = [] ∧ (t.helper h).events = [] ∧
      (t.helper h).blocked = false ∧ OnlyParts [.regs, .tickMem, .helpers, .fabric] s t) ∧
  (∀ (s : State) (h : Nat) (mine : List (Nat × Nat)), s.live = true → h < 24 → s.heState h = heStopping → s.role h ≠ 1 → s.role h ≠ 6 → s.role h ≠ 0x0B → (s.helper h).count = 0 →
    (s.fabric.owed.any (fun x => x.1 == h)) = false →
    ∃ t, exec (.helperDrainTimeout h mine) s = .next t ∧ t.heState h = heStopped ∧ (t.helper h).work = [] ∧ (t.helper h).inbox = [] ∧
      (∀ w ∈ (s.helper h).work, ∃ y ∈ t.fabric.returning, y.src = w.1 ∧ y.tag = w.2 ∧ y.status = msgAborted) ∧
      (∀ x ∈ (s.helper h).inbox, { x with status := msgDown } ∈ t.fabric.returning) ∧
      OnlyParts [.regs, .tickMem, .helpers, .fabric] s t) ∧
  (∀ (s : State) (h cause space addr : Nat), s.live = true → h < 24 → 1 ≤ cause → cause ≤ 6 → s.heActive h = true →
    ∃ u : State, exec (.helperFault h cause space addr) s = .next (s.faultHelper h cause space addr).domSettle.standbyStep ∧
      u = s.heFault h cause space addr ∧ u.heState h = heFaulted ∧ u.fld (HE_FAULT.CAUSE h) = cause ∧ u.fld (HE_FAULT.ADDR h) = addr % 2 ^ 13 ∧
      (u.helper h).inbox = [] ∧ (u.helper h).blocked = false ∧
      ((s.helper h).stopReq = true → (u.helper h).stopStatus = some rsAlreadyDown) ∧ OnlyParts [.regs, .tickMem, .helpers, .fabric, .sil] s u) ∧
  (∀ (s : State) (h : Nat), s.live = true → h < 24 → 257 ≤ (s.helper h).count →
    exec (.safePointLapse h) s = .next (s.faultHelper h 3 (s.helper h).space (s.helper h).pc).domSettle.standbyStep)

/-- A microword: sequencing, ALU and local store. A legal word works the ALU on the registers as they were and goes on at the next address, its goal where the condition holds, its goal with the return address pushed, or the address popped; it counts toward the 256 of the safe point, which clears count and events; a load or store of the local store moves its bytes, and an uncorrectable word faults with cause 2; an illegal word faults with cause 4. Completion: MICROWORD_ISSUE, MICROWORD_BRANCH, MICROWORD_CALL, MICROWORD_RETURN, LOCAL_LOAD, LOCAL_STORE each answer a next state, under the premises of its clause on the state and operands alone. (05_steward_and_helpers.md (R145 to R149; R151; R152; R155)) -/
def Obligations.microwords_issue : Prop :=
  (∀ (s : State) (h : Nat) (m : MwIn) (q : Helper × Nat × Nat), s.live = true → s.calm = true → s.mwGoes h m 0 q = true → mwSeq (s.mwAt h) = 0 →
    exec (.microwordIssue h m) s = .next (s.modHelper h (fun y => (y.alu (s.mwAt h)).goneOn q)) ∧
    q.2 = ((s.fetchMw h).2.1, nextPc (s.fetchMw h).2.1 (s.fetchMw h).2.2) ∧ q.1 = s.helper h) ∧
  (∀ (s : State) (h : Nat) (m : MwIn), s.live = true → s.calm = true → s.mwReady h = true → mwIllegal (s.mwAt h) = false → mwSeq (s.mwAt h) = 1 → mwMop (s.mwAt h) = 0 →
    mwSp (s.mwAt h) = false →
    exec (.microwordBranch h m) s = .next (s.modHelper h (fun y => (y.alu (s.mwAt h)).goneOn (s.helper h,
      if (s.helper h).holds (s.mwAt h) m.island then mwGoal (s.mwAt h)
      else ((s.fetchMw h).2.1, nextPc (s.fetchMw h).2.1 (s.fetchMw h).2.2))))) ∧
  (∀ (s : State) (h : Nat) (m : MwIn) (q : Helper × Nat × Nat), s.live = true → s.calm = true → s.mwGoes h m 0 q = true → mwSeq (s.mwAt h) = 2 →
    exec (.microwordCall h m) s = .next (s.modHelper h (fun y => (y.alu (s.mwAt h)).goneOn q)) ∧ q.2 = mwGoal (s.mwAt h) ∧
    q.1.rstack = ((s.fetchMw h).2.1, nextPc (s.fetchMw h).2.1 (s.fetchMw h).2.2) :: (s.helper h).rstack ∧ (s.helper h).rstack.length < 16) ∧
  (∀ (s : State) (h : Nat) (m : MwIn) (q : Helper × Nat × Nat), s.live = true → s.calm = true → s.mwGoes h m 0 q = true → mwSeq (s.mwAt h) = 3 →
    exec (.microwordReturn h m) s = .next (s.modHelper h (fun y => (y.alu (s.mwAt h)).goneOn q)) ∧ (s.helper h).rstack = q.2 :: q.1.rstack) ∧
  (∀ (s : State) (h : Nat) (m : MwIn) (q : Helper × Nat × Nat), s.live = true → s.calm = true → s.mwGoes h m 1 q = true →
    ∃ t, exec (.localLoad h m) s = .next t ∧
      ((s.peek (.loc h) (locAddr (s.helper h) (s.mwAt h)) (mwBytes (s.mwAt h))).bad = false →
        t = s.modHelper h (fun y => ((y.alu (s.mwAt h)).setRegs (mwMd (s.mwAt h))
          (s.peek (.loc h) (locAddr (s.helper h) (s.mwAt h)) (mwBytes (s.mwAt h))).data).goneOn q)) ∧
      ((s.peek (.loc h) (locAddr (s.helper h) (s.mwAt h)) (mwBytes (s.mwAt h))).bad = true →
        t = ((s.modHelper h (fun y => y.alu (s.mwAt h))).faultHelper h 2 3 (locAddr (s.helper h) (s.mwAt h) / 8)).domSettle.standbyStep)) ∧
  (∀ (s : State) (h : Nat) (m : MwIn) (q : Helper × Nat × Nat), s.live = true → s.calm = true → s.mwGoes h m 2 q = true →
    ∃ t, exec (.localStore h m) s = .next t ∧
      (s.storeBad (.loc h) (locAddr (s.helper h) (s.mwAt h)) ((s.helper h).opData (s.mwAt h)) = false →
        t = ((s.modHelper h (fun y => y.alu (s.mwAt h))).store (.loc h) (locAddr (s.helper h) (s.mwAt h)) ((s.helper h).opData (s.mwAt h))).modHelper h
          (fun y => y.goneOn q)) ∧
      (s.storeBad (.loc h) (locAddr (s.helper h) (s.mwAt h)) ((s.helper h).opData (s.mwAt h)) = true →
        t = ((s.modHelper h (fun y => y.alu (s.mwAt h))).faultHelper h 2 3 (locAddr (s.helper h) (s.mwAt h) / 8)).domSettle.standbyStep)) ∧
  (∀ (s : State) (h : Nat) (m : MwIn), s.live = true → s.calm = true → s.mwReady h = true → mwIllegal (s.mwAt h) = false → mwSeq (s.mwAt h) = 0 → mwMop (s.mwAt h) = 0 →
    mwSp (s.mwAt h) = true → (s.helper h).swapReq = false →
    (s.helper h).stopReq = false → (s.helper h).haltReq = false → (s.helper h).watchdog = false →
    ∃ t, exec (.microwordIssue h m) s = .next t ∧ (t.helper h).count = 0 ∧ (t.helper h).events = [] ∧ OnlyParts [.helpers] s t) ∧
  (∀ (s : State) (h : Nat) (m : MwIn), s.live = true → s.calm = true → s.mwReady h = true → mwIllegal (s.mwAt h) = false → mwSeq (s.mwAt h) = 0 → mwMop (s.mwAt h) = 0 →
    mwSp (s.mwAt h) = true → (s.helper h).swapReq = false → (s.helper h).stopReq = true → (s.helper h).haltReq = false → (s.helper h).watchdog = false →
    ∃ t, exec (.microwordIssue h m) s = .next t ∧ t.heState h = heStopping ∧ (t.helper h).count = 0 ∧ (t.helper h).stopReq = false) ∧
  (∀ (s : State) (h : Nat) (m : MwIn), s.live = true → s.mwReady h = true → mwIllegal (s.mwAt h) = false → mwSeq (s.mwAt h) = 0 → mwMop (s.mwAt h) = 0 →
    mwSp (s.mwAt h) = true → (s.helper h).watchdog = true →
    exec (.microwordIssue h m) s = .next ((s.modHelper h (fun y => (y.alu (s.mwAt h)).goneOn (s.helper h, (s.fetchMw h).2.1, nextPc (s.fetchMw h).2.1 (s.fetchMw h).2.2))).faultHelper h 5 (s.fetchMw h).2.1 (nextPc (s.fetchMw h).2.1 (s.fetchMw h).2.2)).domSettle.standbyStep.memSettle) ∧
  (∀ (s : State) (h : Nat) (m : MwIn), s.live = true → h < 24 → s.heActive h = true → (s.helper h).blocked = false → (s.helper h).count = 256 →
    mwIllegal (s.mwAt h) = false → mwSeq (s.mwAt h) = 0 → mwMop (s.mwAt h) = 0 →
    exec (.microwordIssue h m) s = .next ((s.modHelper h (fun y => (y.alu (s.mwAt h)).goneOn (s.helper h, (s.fetchMw h).2.1, nextPc (s.fetchMw h).2.1 (s.fetchMw h).2.2))).faultHelper h 3 (s.fetchMw h).2.1 (nextPc (s.fetchMw h).2.1 (s.fetchMw h).2.2)).domSettle.standbyStep.memSettle) ∧
  (∀ (s : State) (h : Nat) (m : MwIn), s.live = true → s.mwReady h = true → mwIllegal (s.mwAt h) = true →
    exec (.microwordIssue h m) s = .next (s.faultHelper h 4 (s.fetchMw h).2.1 (s.fetchMw h).2.2).domSettle.standbyStep)

/-- Fabric accesses and messages. A load of MRAM or steward SRAM delivers the bytes with their error status, a store of them writes the bytes; an access outside its memory faults with cause 6; a line operation acts on its line; an island pop takes a word, a push gives one and each waits while the island is not ready; a fence waits for what it names. A send puts the message into an outbox that has room; the fabric takes the oldest one, which enters its target's inbox, waits while that is full, or goes back with a status where the target is not Running or another ROLEGEN is in force; a receive takes the oldest of the inbox or the error queue; a returned one enters its sender's error queue. Completion: FABRIC_LOAD, FABRIC_STORE, LINE_CLEAN, LINE_INVALIDATE, LINE_CLEAN_INVALIDATE, LINE_ZERO, ISLAND_FIFO_POP, ISLAND_FIFO_PUSH, FENCE_FULL, FENCE_STORE_SEND, FENCE_ISLAND, MESSAGE_SEND, MESSAGE_RECEIVE, ERROR_QUEUE_RECEIVE, MESSAGE_DELIVERY, MESSAGE_ENTERS_INBOX, MESSAGE_RETURN each answer a next state, under the premises of its clause on the state and operands alone. (05_steward_and_helpers.md (R148; R150; R155; R170; R162 to R167); 06_memory_hbm_mram_ecc.md (R184; R199); 07_map_cache.md (R227 to R230)) -/
def Obligations.fabric_and_messages : Prop :=
  (∀ (s : State) (h : Nat) (m : MwIn) (i : FabIn) (q : Helper × Nat × Nat), s.live = true → s.calm = true → s.mwGoes h m 3 q = true → i.space = 1 →
    MemSp.mram.holds ((s.helper h).opAddr (s.mwAt h)) (mwBytes (s.mwAt h)) = true →
    exec (.fabricLoad h m i) s = .next ((((s.modHelper h (fun y => y.alu (s.mwAt h))).noteRead .mram ((s.helper h).opAddr (s.mwAt h)) (mwBytes (s.mwAt h)) reqFabric).deliver h 0
      (mwBytes (s.mwAt h)) (mwMd (s.mwAt h)) (s.peek .mram ((s.helper h).opAddr (s.mwAt h)) (mwBytes (s.mwAt h)))).modHelper h (fun y => y.goneOn q))) ∧
  (∀ (s : State) (h : Nat) (m : MwIn) (i : FabIn) (q : Helper × Nat × Nat), s.live = true → s.calm = true → s.mwGoes h m 4 q = true → i.space = 2 →
    MemSp.ssram.holds ((s.helper h).opAddr (s.mwAt h)) ((s.helper h).opData (s.mwAt h)).length = true →
    exec (.fabricStore h m i) s = .next ((((s.modHelper h (fun y => y.alu (s.mwAt h))).store .ssram ((s.helper h).opAddr (s.mwAt h)) ((s.helper h).opData (s.mwAt h))).tellBad h
      (s.storeBad .ssram ((s.helper h).opAddr (s.mwAt h)) ((s.helper h).opData (s.mwAt h)))).modHelper h (fun y => y.goneOn q))) ∧
  (∀ (s : State) (h : Nat) (m : MwIn) (i : FabIn) (q : Helper × Nat × Nat), s.live = true → s.calm = true → s.mwGoes h m 3 q = true → 3 ≤ i.space →
    exec (.fabricLoad h m i) s = .next ((s.modHelper h (fun y => y.alu (s.mwAt h))).faultHelper h 6 (s.fetchMw h).2.1 (s.fetchMw h).2.2).domSettle.standbyStep) ∧
  (∀ (s : State) (h : Nat) (m : MwIn) (i : FabIn) (q : Helper × Nat × Nat), s.live = true → s.mwGoes h m 3 q = true → i.space = 0 →
    MemSp.hbm.holds ((s.helper h).opAddr (s.mwAt h)) (mwBytes (s.mwAt h)) = true → s.hbmHolds ((s.helper h).opAddr (s.mwAt h)) (mwBytes (s.mwAt h)) = false →
    exec (.fabricLoad h m i) s = .next ((((s.modHelper h (fun y => y.alu (s.mwAt h))).cacheRequest (splitReq h ((s.helper h).opAddr (s.mwAt h)) (mwBytes (s.mwAt h)) i.faults
      (fun off k => .load k off (mwBytes (s.mwAt h)) (mwMd (s.mwAt h))))).modHelper h (fun y => y.goneOn q)).memSettle)) ∧
  (∀ (s : State) (h : Nat) (m : MwIn) (i : FabIn) (q : Helper × Nat × Nat), s.live = true → s.mwGoes h m 4 q = true → i.space = 0 →
    MemSp.hbm.holds ((s.helper h).opAddr (s.mwAt h)) ((s.helper h).opData (s.mwAt h)).length = true →
    s.hbmHolds ((s.helper h).opAddr (s.mwAt h)) ((s.helper h).opData (s.mwAt h)).length = false →
    exec (.fabricStore h m i) s = .next ((((s.modHelper h (fun y => y.alu (s.mwAt h))).cacheRequest (splitReq h ((s.helper h).opAddr (s.mwAt h))
      ((s.helper h).opData (s.mwAt h)).length i.faults (fun off k => .store ((((s.helper h).opData (s.mwAt h)).drop off).take k)))).modHelper h (fun y => y.goneOn q)).memSettle)) ∧
  (∀ (s : State) (h : Nat) (m : MwIn) (f : MemFaults) (q : Helper × Nat × Nat) (k : Nat), s.live = true → s.mwGoes h m 0xA q = true → (s.helper h).opLine (s.mwAt h) = k →
    (s.helper h).opAddr (s.mwAt h) < hbmBytes → s.bit HM_STAT.FILLDONE = true → s.bit CA_STAT.INVDONE = true →
    ∃ u : State, u = (if s.cacheable ((s.helper h).opAddr (s.mwAt h))
        then ((s.modHelper h (fun y => y.alu (s.mwAt h))).lineOp ⟨h, (s.helper h).opAddr (s.mwAt h), .line k, none, f⟩ k).cacheSettle
        else (s.modHelper h (fun y => y.alu (s.mwAt h))).lineOpUncached f ((s.helper h).opAddr (s.mwAt h)) k) ∧
      (k = 0 → exec (.lineClean h m f) s = .next ((u.modHelper h (fun y => y.goneOn q)).memSettle)) ∧
      (k = 1 → exec (.lineInvalidate h m f) s = .next ((u.modHelper h (fun y => y.goneOn q)).memSettle)) ∧
      (k = 2 → exec (.lineCleanInvalidate h m f) s = .next ((u.modHelper h (fun y => y.goneOn q)).memSettle)) ∧
      (k = 3 → exec (.lineZero h m f) s = .next ((u.modHelper h (fun y => y.goneOn q)).memSettle))) ∧
  (∀ (s : State) (h : Nat) (m : MwIn) (d : Word64) (q : Helper × Nat × Nat), s.live = true → s.calm = true → s.mwGoes h m 8 q = true →
    exec (.islandFifoPop h m (some d)) s = .next (s.modHelper h (fun y => ((y.alu (s.mwAt h)).setRegs (mwMd (s.mwAt h)) (leBytes 8 d.toNat)).goneOn q)) ∧
    exec (.islandFifoPop h m none) s = .next s) ∧
  (∀ (s : State) (h : Nat) (m : MwIn) (q : Helper × Nat × Nat), s.live = true → s.calm = true → s.mwGoes h m 9 q = true → m.island = true →
    ∃ t, exec (.islandFifoPush h m) s = .next t ∧ (t.helper h).pushFifo = (s.helper h).pushFifo ++ [(s.helper h).gpr (mwMd (s.mwAt h))] ∧
      (t.helper h).pc = q.2.2 ∧ OnlyParts [.helpers] s t) ∧
  (∀ (s : State) (h : Nat) (m : MwIn) (n : Nat) (q : Helper × Nat × Nat), s.live = true → s.calm = true → s.mwGoes h m 0xB q = true → mwMsize (s.mwAt h) = 0 →
    ∃ t, exec (.fenceFull h m n) s = .next t ∧ (t.helper h).pushFifo = (s.helper h).pushFifo.drop n ∧ OnlyParts [.helpers] s t ∧
      (s.accessesDone h = true → s.sendsDone h = true → (s.helper h).pushFifo.drop n = [] → (t.helper h).pc = q.2.2 ∧ (t.helper h).space = q.2.1) ∧
      ((s.accessesDone h && s.sendsDone h && ((s.helper h).pushFifo.drop n).isEmpty) = false → (t.helper h).pc = (s.helper h).pc)) ∧
  (∀ (s : State) (h : Nat) (m : MwIn) (q : Helper × Nat × Nat), s.live = true → s.calm = true → s.mwGoes h m 0xB q = true → mwMsize (s.mwAt h) = 1 → s.accessesDone h = true →
    exec (.fenceStoreSend h m) s = .next (s.modHelper h (fun y => (y.alu (s.mwAt h)).goneOn q))) ∧
  (∀ (s : State) (h : Nat) (m : MwIn) (n : Nat) (q : Helper × Nat × Nat), s.live = true → s.calm = true → s.mwGoes h m 0xB q = true → mwMsize (s.mwAt h) = 2 →
    ∃ t, exec (.fenceIsland h m n) s = .next t ∧ (t.helper h).pushFifo = (s.helper h).pushFifo.drop n ∧ OnlyParts [.helpers] s t ∧
      ((s.helper h).pushFifo.drop n = [] → (t.helper h).pc = q.2.2) ∧ ((s.helper h).pushFifo.drop n ≠ [] → (t.helper h).pc = (s.helper h).pc)) ∧
  (∀ (s : State) (h : Nat) (m : MwIn) (q : Helper × Nat × Nat), s.live = true → s.calm = true → s.mwGoes h m 5 q = true → (s.helper h).outbox.length < 8 →
    exec (.messageSend h m) s = .next (s.modHelper h (fun y => ({ y.alu (s.mwAt h) with outbox := (s.helper h).outbox ++ [s.mwMsg h (s.helper h) (s.mwAt h)], work := (s.helper h).work.erase ((s.mwMsg h (s.helper h) (s.mwAt h)).dst, (s.mwMsg h (s.helper h) (s.mwAt h)).tag) } : Helper).goneOn q))) ∧
  (∀ (s : State) (h : Nat) (m : MwIn) (q : Helper × Nat × Nat) (x : Msg) (l : List Msg), s.live = true → s.calm = true → s.mwGoes h m 6 ({ q.1 with inbox := x :: l }, q.2) = true → (s.helper h).inbox = x :: l →
    ∃ t, exec (.messageReceive h m) s = .next t ∧ (t.helper h).inbox = l ∧ (t.helper h).pc = q.2.2 ∧ t.fld (HE_STAT.INBOX h) = l.length % 64 ∧
      (t.helper h).regs = (((s.helper h).alu (s.mwAt h)).setRegs (mwMd (s.mwAt h)) x.bytes).regs ∧ OnlyParts [.regs, .tickMem, .helpers] s t ∧
      OnlyRegs [(HE_STAT.REG h).addr] s t) ∧
  (∀ (s : State) (h : Nat) (m : MwIn) (q : Helper × Nat × Nat) (x : Msg) (l : List Msg), s.live = true → s.calm = true → s.mwGoes h m 7 ({ q.1 with errq := x :: l }, q.2) = true → (s.helper h).errq = x :: l →
    ∃ t, exec (.errorQueueReceive h m) s = .next t ∧ (t.helper h).errq = l ∧ (t.helper h).pc = q.2.2 ∧ t.fld (HE_STAT.ERRQ h) = l.length % 32 ∧
      (t.helper h).regs = (((s.helper h).alu (s.mwAt h)).setRegs (mwMd (s.mwAt h)) x.bytes).regs ∧ OnlyParts [.regs, .tickMem, .helpers] s t ∧
      OnlyRegs [(HE_STAT.REG h).addr] s t) ∧
  (∀ (s : State) (src : Nat) (m : Msg) (l : List Msg), s.live = true → src < 24 → (s.helper src).outbox = m :: l →
    ∃ t, exec (.messageDelivery src) s = .next t ∧ t = (s.modHelper src (fun x => { x with outbox := l })).fabricTake m ∧
      (s.refusal? m = none → s.inboxOpen m.dst = true → s.fabric.waiting.all (fun x => x.dst != m.dst) = true → m.dst < 24 → m.dst ≠ src →
        (t.helper m.dst).inbox = (s.helper m.dst).inbox ++ [m]) ∧
      (∀ st < 4, s.refusal? m = some st → t.fabric.returning = s.fabric.returning ++ [{ m with status := st }]) ∧
      OnlyParts [.regs, .tickMem, .helpers, .steward, .fabric] s t) ∧
  (∀ (s : State) (dst : Nat) (m : Msg), s.live = true → s.fabric.waiting.find? (fun x => x.dst == dst) = some m → s.refusal? m = none → s.inboxOpen dst = true → dst < 24 →
    ∃ t, exec (.messageEntersInbox dst) s = .next t ∧ t.fabric.waiting = s.fabric.waiting.erase m ∧ (t.helper dst).inbox = (s.helper dst).inbox ++ [m] ∧
      OnlyParts [.regs, .tickMem, .helpers, .fabric] s t ∧ OnlyRegs [(HE_STAT.REG dst).addr] s t) ∧
  (∀ (s : State) (src : Nat) (m : Msg), s.live = true → s.fabric.returning.find? (fun x => x.src == src) = some m → src < 24 → (s.helper src).errq.length < 16 →
    ∃ t, exec (.messageReturn src) s = .next t ∧ t.fabric.returning = s.fabric.returning.erase m ∧ (t.helper src).errq = (s.helper src).errq ++ [m] ∧
      OnlyParts [.regs, .tickMem, .helpers, .fabric] s t ∧ OnlyRegs [(HE_STAT.REG src).addr] s t)

/-- The steward: traps, watchdog, instructions, restart and patch swap. A trap is shown and recorded, and enters the handler; one taken in the handler, an eighth within 1 s, and an uncorrectable instruction fetch enter Base-note mode; an instruction does what it does and changes nothing else; the restart in Base-note mode runs from mask ROM and stops the spindle; staging done signals the Running helpers role after role, and the swap puts the bundle in effect. Completion: STEWARD_TRAP, STEWARD_WATCHDOG_EXPIRY, BASE_NOTE_STEWARD_RESTART, STEWARD_INSTRUCTION, PATCH_STAGING_DONE, STEWARD_PATCH_SWAP each answer a next state, under the premises of its clause on the state and operands alone. (05_steward_and_helpers.md (R139 to R143; R162; R171; R175 to R179); 24_faults_and_base_note.md (R665)) -/
def Obligations.the_steward : Prop :=
  (∀ (s : State) (cause space addr : Nat), s.live = true → s.stRuns = true → 2 ≤ cause → cause ≤ 4 → s.steward.inHandler = false → s.steward.trapTicks = [] → s.bit FB_STAT.BASENOTE = false →
    ∃ u : State, exec (.stewardTrap cause space addr) s = .next u.standbyStep ∧ u = s.trap cause space addr ∧ u.fld ST_TRAP.CAUSE = cause ∧ u.fld ST_TRAP.ADDR = addr % 2 ^ 19 ∧
      u.steward.inHandler = true ∧ u.steward.trapTicks = [s.tick] ∧ OnlyParts [.regs, .tickMem, .sil, .steward] s u ∧
      OnlyRegs [ST_TRAP.REG.addr, ST_STAT.REG.addr, SL_LOST.REG.addr, SL_SUPP.REG.addr] s u) ∧
  (∀ (s : State) (cause space addr : Nat), s.live = true → s.stRuns = true → 1 ≤ cause → cause ≤ 4 → s.steward.inHandler = true → s.bit FB_STAT.BASENOTE = false →
    ∃ u : State, exec (.stewardTrap cause space addr) s = .next u.standbyStep ∧ u.bit FB_STAT.BASENOTE = true ∧ u.fld FB_STAT.CAUSE = 3 ∧ u.fld ST_TRAP.CAUSE = 6 ∧ u = s.trap cause space addr) ∧
  (∀ (s : State) (space addr : Nat), s.live = true → s.stRuns = true → s.steward.inHandler = false → s.steward.trapTicks = [] → s.bit FB_STAT.BASENOTE = false →
    ∃ u : State, exec (.stewardWatchdogExpiry space addr) s = .next u.standbyStep ∧ u = s.trap 5 space addr ∧ u.fld ST_TRAP.CAUSE = 5 ∧ u.steward.inHandler = true ∧
      OnlyParts [.regs, .tickMem, .sil, .steward] s u) ∧
  (∀ s : State, s.live = true → s.faults.restartDue = true →
    ∃ t, exec .baseNoteStewardRestart s = .next t ∧ t.fld ST_STAT.STATE = 2 ∧ t.fld ST_PATCHGEN.GEN = 0 ∧ t.steward.active = PatchSet.none ∧ t.steward.shadow = none ∧
      t.faults = { s.faults with restartDue := false } ∧ (s.spTurning = true → t.spState = spShortBraking) ∧
      OnlyParts [.regs, .tickMem, .pins, .faults, .sil, .map, .steward, .spindle, .servo, .assist, .lanes, .tier, .eb] s t) ∧
  (∀ (s : State) (space addr : Nat) (o : StewardOp), s.live = true → s.stRuns = true → s.calm = true → s.steward.blocked = false → (s.steward.fencing = true → s.stFenceDone = true) →
    space = 0 → (s.steward.active.mtab.find? (fun m => m.1 == addr / 16)) = none →
    ∃ u : State, u = { s with steward := { s.steward with fencing := false, fetch := (0, addr) } } ∧ exec (.stewardInstruction space addr o) s = .next ((u.stDo o).memSettle.standbyStep) ∧
      (o = .plain → (u.stDo o).memSettle = u) ∧ (o = .mainLoop → (u.stDo o).memSettle = { u with steward := { u.steward with loopTick := s.tick } }) ∧
      (o = .handlerEnd → (u.stDo o).memSettle = { u with steward := { u.steward with inHandler := false } }) ∧
      (o = .fence → (u.stDo o).memSettle = { u with steward := { u.steward with fencing := true } }) ∧
      (o = .receive → (u.stDo o).memSettle = { u with steward := { u.steward with inbox := s.steward.inbox.drop 1 } }) ∧
      (o = .errReceive → (u.stDo o).memSettle = { u with steward := { u.steward with errq := s.steward.errq.drop 1 } })) ∧
  (∀ (s : State) (space addr : Nat) (o : StewardOp), s.live = true → s.stRuns = true → s.steward.fencing = true → s.stFenceDone = false →
    exec (.stewardInstruction space addr o) s = .next s.standbyStep) ∧
  (∀ (s : State) (a : Activation), s.live = true → s.nvme.activation = some a → a.drained = true → s.fabric.staged ≠ 0 → s.fabric.swapRole = none →
    ∃ u : State, exec (.patchStagingDone true) s = .next u.standbyStep ∧ u = State.swapGo 14 ((s.modFabric (fun f => { f with swapRole := some 0 })).swapSignal 0) ∧
      u.fabric.swapRole ≠ none ∧ (∀ h < 24, s.role h = 0 → s.heState h = heRunning → (s.helper h).count = 0 → (u.helper h).swapReq = false) ∧
      (∀ h < 24, s.role h = 0 → s.heState h = heRunning → (s.helper h).count ≠ 0 → (u.helper h).swapReq = true ∧ u.fabric.swapRole = some 0) ∧
      OnlyParts [.regs, .tickMem, .helpers, .fabric] s u) ∧
  (∀ (s : State) (a : Activation), s.live = true → s.nvme.activation = some a → s.fabric.swapRole = some 13 → a.slot < 2 →
    ∃ u : State, exec .stewardPatchSwap s = .next u.standbyStep ∧ u = s.stewardSwap ∧ u.fabric.bundle = (s.flashPatch a.slot).image ∧ u.fabric.swapRole = none ∧ u.fabric.staged = 0 ∧
      u.fabric.domInEffect = [] ∧ u.fld SC_STAT.PSLOT = a.slot ∧ u.bit SC_STAT.UNPATCHED = false ∧ (u.flashPatch a.slot).marks.commit = true ∧ u.nvme.activation = none)

/-- The coded memories and blotter mode. A store that meets no bad word is read back; a word that no byte of a store touches, and every other memory, holds what it held; a partial store leaves a bad word as it is; a word read decodes as it was encoded. The end of the fill leaves every HBM word unwritten; in Blotter mode a raw write stores the 80 bits, a raw read shows them, a checked read shows the decoded data and its status, a checked write stores the encoded data, each in the pad selected and nowhere else; an operation refused sets ERR; the completion sets DONE. Completion: HBM_FILL_DONE, BLOTTER_RAW_WRITE, BLOTTER_RAW_READ, BLOTTER_CHECKED_READ, BLOTTER_CHECKED_WRITE, BLOTTER_OP_COMPLETE each answer a next state, under the premises of its clause on the state and operands alone. (06_memory_hbm_mram_ecc.md (R190 to R201; R202; R207 to R210)) -/
def Obligations.coded_memories : Prop :=
  (∀ (s : State) (m : MemSp) (a : Nat) (d : List Byte), s.storeBad m a d = false → (s.store m a d).peek m a d.length = ⟨d, false⟩) ∧
  (∀ (s : State) (m : MemSp) (a : Nat) (d : List Byte) (i : Nat), i ∉ wordSpan a d.length → (s.store m a d).wordAt m i = s.wordAt m i) ∧
  (∀ (s : State) (m : MemSp) (a : Nat) (d : List Byte) (m2 : MemSp) (i : Nat), m2 ≠ m → (s.store m a d).wordAt m2 i = s.wordAt m2 i) ∧
  (∀ (s : State) (m : MemSp) (a : Nat) (d : List Byte) (i : Nat), (wordPart a d i).2.length ≠ 8 → (decodeWord (s.wordAt m i)).res.bad = true →
    (s.store m a d).wordAt m i = s.wordAt m i) ∧
  (∀ (s : State) (m : MemSp) (a : Nat) (d : List Byte) (b : Nat), (b < a ∨ a + d.length ≤ b) → (s.peek m b 1).bad = false →
    (s.store m a d).peek m b 1 = s.peek m b 1) ∧
  (∀ n : Nat, n < 2 ^ 64 → decodeWord (encodeWord n) = ⟨.clean, n, 2 ^ 15⟩) ∧
  (∀ s : State, s.live = true → s.bit HM_STAT.FILLDONE = false → s.fld HM_STAT.READY ≠ 0 → s.bit FB_STAT.BASENOTE = true ∨ s.bit SC_STAT.AREA = false →
    ∃ t, exec .hbmFillDone s = .next t ∧ t.bit HM_STAT.FILLDONE = true ∧ (∀ i < 20, t.wordAt .hbm i = unwrittenWord) ∧ t.mem = { s.mem with hbm := [] } ∧
      (s.bit FB_STAT.BASENOTE = false → t.bit SC_STAT.UNPATCHED = true) ∧ OnlyParts [.regs, .tickMem, .mem] s t ∧ OnlyRegs [HM_STAT.REG.addr, SC_STAT.REG.addr] s t) ∧
  (∀ (s : State) (w : Word32) (i : Nat), s.live = true → s.bit FB_STAT.BASENOTE = false → s.bit HM_BLTCTL.EN = true → s.mem.blotter = none → s.fld HM_BLTADDR.IDX = i →
    i < padWords (HM_BLTCTL.TGT.ofWord (withOp w 1)) →
    ∃ t, exec (.blotterRawWrite w) s = .next t ∧ t.padGet (HM_BLTCTL.TGT.ofWord w) i = BitVec.ofNat 80 (s.bltData + s.fld HM_BLTC.CHECK * 2 ^ 64) ∧
      t.mem.blotter = some 1 ∧ t.fld HM_BLTCTL.TGT = HM_BLTCTL.TGT.ofWord w ∧
      (∀ g < 4, ∀ k < 40, (g ≠ HM_BLTCTL.TGT.ofWord w ∨ k ≠ i) → t.padGet g k = s.padGet g k) ∧ OnlyParts [.regs, .tickMem, .mem] s t ∧ OnlyRegs [HM_BLTCTL.REG.addr] s t) ∧
  (∀ (s : State) (w : Word32) (i : Nat), s.live = true → s.bit FB_STAT.BASENOTE = false → s.bit HM_BLTCTL.EN = true → s.mem.blotter = none → s.fld HM_BLTADDR.IDX = i →
    i < padWords (HM_BLTCTL.TGT.ofWord (withOp w 2)) →
    ∃ t, exec (.blotterRawRead w) s = .next t ∧ t.bltData = (s.padGet (HM_BLTCTL.TGT.ofWord w) i).toNat % 2 ^ 64 ∧
      t.fld HM_BLTC.CHECK = (s.padGet (HM_BLTCTL.TGT.ofWord w) i).toNat / 2 ^ 64 ∧ t.mem = { s.mem with blotter := some 2 } ∧ OnlyParts [.regs, .tickMem, .mem] s t ∧
      OnlyRegs [HM_BLTCTL.REG.addr, HM_BLTD_LO.REG.addr, HM_BLTD_HI.REG.addr, HM_BLTC.REG.addr] s t) ∧
  (∀ (s : State) (w : Word32) (i : Nat), s.live = true → s.bit FB_STAT.BASENOTE = false → s.bit HM_BLTCTL.EN = true → s.mem.blotter = none → s.fld HM_BLTADDR.IDX = i →
    i < padWords (HM_BLTCTL.TGT.ofWord (withOp w 3)) →
    ∃ t, exec (.blotterCheckedRead w) s = .next t ∧ t.bltData = (decodeWord (s.padGet (HM_BLTCTL.TGT.ofWord w) i)).data ∧
      t.fld HM_BLTC.STATUS = (decodeWord (s.padGet (HM_BLTCTL.TGT.ofWord w) i)).res.code ∧ t.mem = { s.mem with blotter := some 3 } ∧ OnlyParts [.regs, .tickMem, .sil, .mem] s t) ∧
  (∀ (s : State) (w : Word32) (i : Nat), s.live = true → s.bit FB_STAT.BASENOTE = false → s.bit HM_BLTCTL.EN = true → s.mem.blotter = none → s.fld HM_BLTADDR.IDX = i →
    i < padWords (HM_BLTCTL.TGT.ofWord (withOp w 4)) →
    ∃ t, exec (.blotterCheckedWrite w) s = .next t ∧ t.padGet (HM_BLTCTL.TGT.ofWord w) i = encodeWord s.bltData ∧ t.mem.blotter = some 4 ∧
      (∀ g < 4, ∀ k < 40, (g ≠ HM_BLTCTL.TGT.ofWord w ∨ k ≠ i) → t.padGet g k = s.padGet g k) ∧ OnlyParts [.regs, .tickMem, .mem] s t ∧ OnlyRegs [HM_BLTCTL.REG.addr] s t) ∧
  (∀ (s : State) (w : Word32), s.live = true → s.bit FB_STAT.BASENOTE = false → s.bit HM_BLTCTL.EN = false →
    ∃ t, exec (.blotterRawWrite w) s = .next t ∧ t.bit HM_BLTCTL.ERR = true ∧ t.mem = s.mem ∧ OnlyParts [.regs, .tickMem] s t ∧ OnlyRegs [HM_BLTCTL.REG.addr] s t) ∧
  (∀ s : State, s.live = true → s.mem.blotter ≠ none → ∃ t, exec .blotterOpComplete s = .next t ∧ t.bit HM_BLTCTL.DONE = true ∧ t.mem = { s.mem with blotter := none } ∧
    OnlyParts [.regs, .tickMem, .mem] s t ∧ OnlyRegs [HM_BLTCTL.REG.addr] s t)

/-- The results of decoding. A written word decodes as Clean to its data, with one or two of its 80 stored bits inverted as Corrected to the same data; the unwritten code word with up to two bits inverted decodes as Unwritten; Unwritten and Uncorrectable results return zero; a Clean word is the code word of its data, a Corrected one is one or two bits away from it, and a word that is Uncorrectable lies within two bits of no written word. (R197) -/
def Obligations.the_word_code : Prop :=
  (∀ n : Nat, n < 2 ^ 64 → (decodeWord (encodeWord n)).res = .clean ∧ (decodeWord (encodeWord n)).data = n) ∧
  (∀ (n j k : Nat), n < 2 ^ 64 → j < 80 → k < 80 → j ≠ k →
    (decodeWord (encodeWord n ^^^ BitVec.twoPow 80 k)).res = .corrected ∧ (decodeWord (encodeWord n ^^^ BitVec.twoPow 80 k)).data = n ∧
    (decodeWord (encodeWord n ^^^ BitVec.twoPow 80 j ^^^ BitVec.twoPow 80 k)).res = .corrected ∧
    (decodeWord (encodeWord n ^^^ BitVec.twoPow 80 j ^^^ BitVec.twoPow 80 k)).data = n) ∧
  (∀ (j k : Nat), j < 80 → k < 80 → j ≠ k → (decodeWord unwrittenWord).res = .unwritten ∧ (decodeWord (unwrittenWord ^^^ BitVec.twoPow 80 k)).res = .unwritten ∧
    (decodeWord (unwrittenWord ^^^ BitVec.twoPow 80 j ^^^ BitVec.twoPow 80 k)).res = .unwritten) ∧
  (∀ c : Code80, (decodeWord c).res.bad = true → (decodeWord c).data = 0) ∧
  (∀ c : Code80, (decodeWord c).res = .clean → c = encodeWord (decodeWord c).data) ∧
  (∀ c : Code80, (decodeWord c).res = .corrected →
    ∃ j k : Nat, j < 80 ∧ k < 80 ∧ (c = encodeWord (decodeWord c).data ^^^ BitVec.twoPow 80 k ∨ c = encodeWord (decodeWord c).data ^^^ BitVec.twoPow 80 j ^^^ BitVec.twoPow 80 k))

/-- The map cache's fills and write-backs. A demand fill that can install puts its line in the ways and serves the accesses that wait; a prefetched line enters the side buffer, the oldest leaving a full one; a completed write-back puts the line's words into HBM and frees its entry; the invalidation at boot empties the cache. Completion: CACHE_FILL_COMPLETE, PREFETCH_FILL_COMPLETE, EVICTION_WRITEBACK_COMPLETE, CACHE_INVALIDATION_DONE each answer a next state, under the premises of its clause on the state and operands alone. (07_map_cache.md (R213; R216 to R226; R234)) -/
def Obligations.the_map_cache : Prop :=
  (∀ (s : State) (la : Nat) (f : MemFaults), s.live = true → s.calm = true → s.cache.fills = [⟨la, [], false, false, none⟩] → s.canInstall la = true → s.cacheFind la = none →
    ∃ t, exec (.cacheFillComplete la f) s = .next t ∧ t.cache.fills = [] ∧ (List.range 16).any (fun w => t.lineAt (wayKey la w) == some ⟨la, false, s.hbmLine f la⟩) = true ∧
      OnlyParts [.regs, .tickMem, .sil, .cache] s t) ∧
  (∀ (s : State) (la : Nat) (f : MemFaults) (h reg : Nat) (g : MemFaults), s.live = true → s.calm = true → h < 24 → reg < 32 → s.cacheable (128 * la) = true → g.lines = [] → f.words = [] →
    s.cache.fills = [⟨la, [⟨h, 128 * la, .load 8 0 8 reg, none, g⟩], false, false, none⟩] → s.canInstall la = true → s.cacheFind la = none →
    ∃ t, exec (.cacheFillComplete la f) s = .next t ∧ t.cache.fills = [] ∧ (t.helper h).blocked = false ∧
      (t.helper h).gpr reg = BitVec.ofNat 64 (decodeWord (s.wordAt .hbm (16 * la))).data) ∧
  (∀ (s : State) (la : Nat) (f : MemFaults) (x : Fill), s.live = true → s.fillOf la = some x → x.prefetch = true → x.held = false → x.words = none → x.waiting = [] →
    ∃ t, exec (.prefetchFillComplete la f) s = .next t ∧ t.cache.fills = s.cache.fills.filter (fun y => y.la != la) ∧
      t.cache.side = (if 32 ≤ s.cache.side.length then s.cache.side.drop 1 else s.cache.side) ++ [⟨la, false, s.hbmLine f la⟩] ∧ OnlyParts [.regs, .tickMem, .sil, .cache] s t) ∧
  (∀ (s : State) (la : Nat) (is : List Nat) (f : MemFaults) (e : EvEntry), s.live = true → s.calm = true → s.cache.evb = [e] → e.la = la → e.words.length = 16 → s.cache.fills = [] → s.cache.waitWb = [] →
    ∃ t, exec (.evictionWritebackComplete la is f) s = .next t ∧ t.cache.evb = [] ∧ t.cache.lines = s.cache.lines ∧ t.fld CA_STAT.EVB = 0 ∧
      (∀ i < 2000, i / 16 ≠ la → t.wordAt .hbm i = s.wordAt .hbm i) ∧ (f.words = [] → ∀ k < 16, t.wordAt .hbm (16 * la + k) = carryWord (e.words.getD k 0)) ∧
      OnlyParts [.regs, .tickMem, .sil, .mem, .cache] s t) ∧
  (∀ s : State, s.live = true → s.bit CA_STAT.INVDONE = false →
    ∃ t, exec .cacheInvalidationDone s = .next t ∧ t.cache = CacheSt.reset ∧ t.bit CA_STAT.INVDONE = true ∧ OnlyParts [.regs, .tickMem, .cache] s t ∧
      OnlyRegs [CA_STAT.REG.addr] s t)

/-- The life of a mover's register set. GO takes a set into the shadow and, on an idle channel, promotes it; a set that breaks a rule completes with BADSET; a stop is taken at a set boundary; a start goes on; a discard drops both sets; a resume goes on from where a halt stands; the mover takes the next ready channel in turn; a completion moves the rest, and a failing read halts the channel; a peripheral's withdrawal stops it. Completion: MOVER_GO, MOVER_STOP_REQUEST, MOVER_START_REQUEST, MOVER_DISCARD_REQUEST, MOVER_RESUME_REQUEST, MOVER_SET_START, MOVER_SET_COMPLETE, MOVER_HALT, MOVER_TIMEOUT, PERIPHERAL_BURST, PERIPHERAL_WITHDRAW each answer a next state, under the premises of its clause on the state and operands alone. (08_movers.md (R237; R239; R240; R242 to R246; R248; R249)) -/
def Obligations.mover_channels : Prop :=
  (∀ (s : State) (c : Nat) (x : MoverSet), s.live = true → c < 64 → s.bit (DM_CH_STAT.SHGO c) = false → s.dmState c = dmIdle → x.ok = true →
    ∃ t, exec (.moverGo c x.srcSp x.src x.dstSp x.dst x.len x.fence x.owner) s = .next t ∧ t.dmState c = dmReady ∧ (t.chan c).active = some x ∧ (t.chan c).shadow = none ∧
      t.bit (DM_CH_STAT.SHGO c) = false ∧ t.dmLeft c = x.len ∧ (∀ k < 64, k ≠ c → t.chan k = s.chan k) ∧ OnlyParts [.regs, .tickMem, .movers] s t) ∧
  (∀ (s : State) (c : Nat) (x : MoverSet), s.live = true → c < 64 → s.bit (DM_CH_STAT.SHGO c) = false → s.dmState c = dmRunning →
    ∃ t, exec (.moverGo c x.srcSp x.src x.dstSp x.dst x.len x.fence x.owner) s = .next t ∧ (t.chan c).shadow = some x ∧ t.bit (DM_CH_STAT.SHGO c) = true ∧
      t.dmState c = dmRunning ∧ OnlyParts [.regs, .tickMem, .movers] s t ∧ OnlyRegs [(DM_CH_STAT.REG c).addr] s t) ∧
  (∀ (s : State) (c : Nat) (x : MoverSet), s.live = true → c < 64 → s.bit (DM_CH_STAT.SHGO c) = false → s.dmState c = dmIdle → x.ok = false →
    ∃ t, exec (.moverGo c x.srcSp x.src x.dstSp x.dst x.len x.fence x.owner) s = .next t ∧ t.dmState c = dmIdle ∧ t.fld (DM_CH_STAT.LASTST c) = dmBadset ∧
      (t.chan c).active = none ∧ (t.chan c).shadow = none) ∧
  (∀ (s : State) (c : Nat), s.live = true → s.dmState c = dmReady ∨ s.dmState c = dmRunning →
    ∃ t, exec (.moverStopRequest c) s = .next t ∧ (s.dmState c = dmReady → t.dmState c = dmStopped) ∧
      (s.dmState c = dmRunning → t.bit (DM_CH_STAT.STOPPEND c) = true ∧ t.dmState c = dmRunning) ∧ OnlyParts [.regs, .tickMem] s t ∧ OnlyRegs [(DM_CH_STAT.REG c).addr] s t) ∧
  (∀ (s : State) (c : Nat), s.live = true → s.dmState c = dmStopped → (s.chan c).active.isSome = true →
    ∃ t, exec (.moverStartRequest c) s = .next t ∧ t.dmState c = dmReady ∧ OnlyParts [.regs, .tickMem] s t ∧ OnlyRegs [(DM_CH_STAT.REG c).addr] s t) ∧
  (∀ (s : State) (c : Nat), s.live = true → c < 64 → s.dmState c = dmStopped ∨ s.dmState c = dmHalted →
    ∃ t, exec (.moverDiscardRequest c) s = .next t ∧ t.dmState c = dmIdle ∧ (t.chan c).active = none ∧ (t.chan c).shadow = none ∧ t.bit (DM_CH_STAT.SHGO c) = false ∧
      ((s.chan c).active.isSome = true → t.fld (DM_CH_STAT.LASTST c) = dmDiscarded) ∧ OnlyParts [.regs, .tickMem, .helpers, .steward, .fabric, .movers] s t) ∧
  (∀ (s : State) (c : Nat), s.live = true → s.dmState c = dmHalted →
    ∃ t, exec (.moverResumeRequest c) s = .next t ∧ t.dmState c = dmReady ∧ OnlyParts [.regs, .tickMem] s t ∧ OnlyRegs [(DM_CH_STAT.REG c).addr] s t) ∧
  (∀ (s : State) (m c : Nat), s.live = true → m < 4 → (∀ k < 16, s.dmState (16 * m + k) ≠ dmRunning) → c / 16 = m → (∀ k < 16, s.dmState (16 * m + k) = dmReady ↔ 16 * m + k = c) →
    ∃ t, exec (.moverSetStart m) s = .next t ∧ t.dmState c = dmRunning ∧ (t.chan c).started = true ∧ (t.chan c).active = (s.chan c).active ∧
      SMap.get (fun _ => 15) t.movers.served m = c % 16 ∧ OnlyParts [.regs, .tickMem, .movers] s t ∧ OnlyRegs [(DM_CH_STAT.REG c).addr] s t) ∧
  (∀ (s : State) (c : Nat) (x : MoverSet) (d : List Byte) (f : MemFaults), s.live = true → s.calm = true → c < 64 → (s.chan c).active = some x → s.dmState c = dmRunning → s.dmLeft c = 64 → s.dmSrc c = x.src → s.dmDst c = x.dst →
    x.srcSp = 1 → x.dstSp = 2 → (s.peek .mram x.src 64).bad = false → s.storeBad .ssram x.dst (s.peek .mram x.src 64).data = false → s.bit (DM_CH_STAT.STOPPEND c) = false → s.bit (DM_CH_STAT.SHGO c) = false →
    ∃ t, exec (.moverSetComplete c d f) s = .next t ∧ t.peek .ssram x.dst 64 = s.peek .mram x.src 64 ∧ t.dmState c = dmIdle ∧ (t.chan c).active = none ∧
      t.fld (DM_CH_STAT.LASTST c) = dmOk ∧ t.dmLeft c = 0 ∧ (∀ i < 40, i ∉ wordSpan x.dst 64 → t.wordAt .ssram i = s.wordAt .ssram i) ∧ t.mem.mram = s.mem.mram ∧ t.mem.hbm = s.mem.hbm) ∧
  (∀ (s : State) (c : Nat) (x : MoverSet) (n : Nat) (d : List Byte) (f : MemFaults), s.live = true → s.calm = true → c < 64 → (s.chan c).active = some x → s.dmState c = dmRunning → x.srcSp = 1 → x.dstSp = 2 → n = 0 →
    (s.peek .mram (s.dmSrc c) (Nat.min 64 (s.dmLeft c))).bad = true →
    ∃ t, exec (.moverHalt c n d f) s = .next t ∧ t.dmState c = dmHalted ∧ t.fld (DM_CH_STAT.LASTST c) = dmUe ∧ t.dmSrc c = s.dmSrc c ∧ t.dmLeft c = s.dmLeft c ∧
      t.fld (DM_CH_HALTS.COUNT c) = Nat.min (s.fld (DM_CH_HALTS.COUNT c) + 1) (Fld.max (DM_CH_HALTS.COUNT c)) ∧ t.mem = s.mem) ∧
  (∀ (s : State) (c : Nat) (x : MoverSet), s.live = true → c < 64 → (s.chan c).active = some x → s.dmState c = dmRunning → (isPeriph x.srcSp || isPeriph x.dstSp) = true →
    ∃ t, exec (.moverTimeout c) s = .next t ∧ t.dmState c = dmHalted ∧ t.fld (DM_CH_STAT.LASTST c) = dmTimeout ∧ t.bit (DM_CH_STAT.STOPPEND c) = false ∧
      OnlyParts [.regs, .tickMem, .helpers, .steward, .fabric] s t) ∧
  (∀ (s : State) (c : Nat) (x : MoverSet) (d : List (Option Int)) (f : MemFaults), s.live = true → s.calm = true → c < 64 → (s.chan c).active = some x → s.dmState c = dmRunning → x.srcSp = 6 → x.dstSp = 2 → x.fromResult = false → 256 ≤ s.dmLeft c →
    d.length = 256 → s.dmDst c % 8 = 0 →
    ∃ t, exec (.peripheralBurst c 256 256 false d [] f) s = .next t ∧ t.peek .ssram (s.dmDst c) 256 = ⟨d.map sampleByte, false⟩ ∧ t.dmLeft c = s.dmLeft c - 256 ∧ t.dmState c = dmRunning ∧
      OnlyParts [.regs, .tickMem, .mem] s t) ∧
  (∀ (s : State) (c : Nat) (x : MoverSet), s.live = true → c < 64 → (s.chan c).active = some x → s.dmState c = dmRunning → (isPeriph x.srcSp || isPeriph x.dstSp) = true →
    s.isServing (domOfAct (s.periphAct x)) = false →
    ∃ t, exec (.peripheralWithdraw c) s = .next t ∧ t.dmState c = dmStopped ∧ (t.chan c).active = none ∧ t.fld (DM_CH_STAT.LASTST c) = dmStoppedSt ∧
      OnlyParts [.regs, .tickMem, .helpers, .steward, .fabric, .movers] s t)

/-- The spindle starts and stops. A start with a token held observes the back-EMF; the end of the observation aligns, accelerates or brakes by the fit; alignment and the end of a short go on to acceleration or a stop; at speed the spindle is Locked, head loading permitted, and the slew ends in Locked. Each row changes the spindle and its registers alone. A stop of a turning spindle parks both actuators and brakes; the short follows at 600 rpm. A loss of lock observes again, the third alignment timeout, a start timeout, a second lock loss within 10 s, an overcurrent, a gate-drive undervoltage and 46 V are spindle faults, which end in Base-note mode with cause 0x08. Completion: SPINDLE_START_REQUEST, OBSERVATION_END, SHORT_BRAKE_STOPPED, SHORT_HOLD_END, ALIGNMENT_RESULT, SPINDLE_AT_SPEED, SLEW_COMPLETE, SPINDLE_STOP_REQUEST, REGEN_BRAKE_END, ALIGNMENT_TIMEOUT, SPINDLE_START_TIMEOUT, COMMUTATION_LOCK_LOSS, SPINDLE_OVERCURRENT, GATE_DRIVE_UNDERVOLTAGE, VM_OVERVOLTAGE_46 each answer a next state, under the premises of its clause on the state and operands alone. (09_spindle.md (R270 to R274; R270; R271; R264; R272; R280); 20_enclosure_bus.md (R600; R605)) -/
def Obligations.spindle_starts_and_stops : Prop :=
  (∀ s : State, s.live = true → s.bit EB_TOKEN.HELD = true → s.bit FB_STAT.BASENOTE = false → s.thermalDown = false → s.fld PW_STAT.VMSTATE = vmNormal → s.power.vmGood = true →
    s.spState = spStopped ∨ s.spState = spCoasting →
    ∃ t, exec .spindleStartRequest s = .next t ∧ t.spState = spObserving ∧ t.spindle.drive = .off ∧ t.spindle.attempts = 0 ∧ t.spindle.barred = false ∧
      t.pins.brkG = false ∧ t.fld SP_SPEED.SLEWED = 0 ∧ t.fld SP_STAT.POSSRC = 0 ∧ t.fld SP_STAT.ZONE = 0xF ∧
      OnlyParts [.regs, .tickMem, .pins, .spindle] s t ∧ OnlyRegs [SP_STAT.REG.addr, SP_SPEED.REG.addr] s t) ∧
  (∀ s : State, s.live = true → s.bit FB_STAT.BASENOTE = true ∨ s.thermalDown = true ∨ s.fld PW_STAT.VMSTATE ≠ vmNormal ∨ s.power.vmGood = false →
    exec .spindleStartRequest s = .next s) ∧
  (∀ (s : State) (amp speed angle : Nat) (back : Bool), s.live = true → s.spState = spObserving →
    ∃ t, exec (.observationEnd amp back speed angle) s = .next t ∧
      (amp < s.startProf 8 2 → t.spState = spAligning ∧ t.spindle.drive = .pwm ∧ t.spindle.alignI = s.startProf 0 2 ∧ t.fld SP_CATCH.RESULT = 3 ∧
        OnlyParts [.regs, .tickMem, .spindle] s t ∧ OnlyRegs [SP_STAT.REG.addr, SP_CATCH.REG.addr] s t) ∧
      (s.startProf 8 2 ≤ amp → back = false → 2400 ≤ speed → t.spState = spAccelerating ∧ t.spindle.drive = .pwm ∧ t.spindle.angle = angle ∧ t.spindle.iCmd = 0 ∧
        t.fld SP_CATCH.RESULT = 1 ∧ t.fld SP_SPEED.SLEWED = speed % 65536 ∧ t.fld SP_STAT.POSSRC = (if 4800 ≤ speed then 1 else 0)) ∧
      (s.startProf 8 2 ≤ amp → (back = true ∨ speed < 2400) → t.spState = spShortBraking ∧ t.spindle.drive = .short ∧ t.spindle.startPend = true ∧
        t.fld SP_CATCH.RESULT = 2 ∧ t.bit SP_STAT.SHORT = true)) ∧
  (∀ s : State, s.live = true → s.spState = spShortBraking → s.spindle.drive = .short →
    ∃ t, exec .shortBrakeStopped s = .next t ∧
      (s.spindle.startPend = true → t.spState = spAligning ∧ t.spindle.drive = .pwm ∧ t.spindle.startPend = false) ∧
      (s.spindle.startPend = false → t.spState = spShortBraking ∧ t.spindle.holding = true) ∧
      OnlyParts [.regs, .tickMem, .spindle] s t ∧ OnlyRegs [SP_STAT.REG.addr] s t) ∧
  (∀ s : State, s.live = true → s.spState = spShortBraking → s.spindle.holding = true → s.spindle.startPend = false → s.power.standbyPending = false →
    ∃ t, exec .shortHoldEnd s = .next t ∧ t.spState = spStopped ∧ t.spindle.drive = .off ∧ t.spindle.holding = false ∧
      OnlyParts [.regs, .tickMem, .spindle] s t ∧ OnlyRegs [SP_STAT.REG.addr] s t) ∧
  (∀ (s : State) (angle pos neg : Nat), s.live = true → s.spState = spAligning →
    ∃ t, exec (.alignmentResult angle pos neg) s = .next t ∧ t.spState = spAccelerating ∧ t.spindle.drive = .pwm ∧ t.spindle.angle = angle ∧ t.fld SP_SPEED.SLEWED = 0 ∧
      (neg < pos → t.spindle.polarity = true) ∧ (pos < neg → t.spindle.polarity = false) ∧ t.fld SP_STAT.POSSRC = 0) ∧
  (∀ s : State, s.live = true → s.spState = spAccelerating → s.fld SP_SPEED.SLEWED = s.fld SP_TARGET.TARGET →
    ∃ u : State, exec .spindleAtSpeed s = .next u.returnToken.afterLocked ∧ u.spState = spLocked ∧ u.bit SP_STAT.ATSPEED = true ∧
      OnlyParts [.regs, .tickMem] s u ∧ OnlyRegs [SP_STAT.REG.addr] s u) ∧
  (∀ s : State, s.live = true → s.spState = spSlewing → s.fld SP_SPEED.SLEWED = s.fld SP_TARGET.TARGET →
    ∃ u : State, exec .slewComplete s = .next u.afterLocked ∧ u.spState = spLocked ∧ u.bit SP_STAT.ATSPEED = true ∧ OnlyParts [.regs, .tickMem] s u ∧
      OnlyRegs [SP_STAT.REG.addr] s u) ∧
  (∀ s : State, s.live = true → s.spTurning = true → 4800 < s.fld SP_SPEED.SPEED → s.bit SP_STAT.NOREGEN = false →
    ∃ u : State, exec .spindleStopRequest s = .next u.returnToken ∧ u.spState = spShortBraking ∧ u.spindle.drive = .regen ∧ u.spindle.iCmd = -(s.motor 14 2 : Int) ∧
      OnlyParts [.spindle, .regs, .tickMem] s.parkBoth u ∧ OnlyRegs [SP_STAT.REG.addr] s.parkBoth u) ∧
  (∀ s : State, s.live = true → s.spTurning = false → exec .spindleStopRequest s = .next s.returnToken) ∧
  (∀ s : State, s.live = true → s.spState = spShortBraking → s.spindle.drive = .regen →
    ∃ t, exec .regenBrakeEnd s = .next t ∧ t.spindle.drive = .short ∧ t.bit SP_STAT.SHORT = true ∧ t.fld SP_STAT.POSSRC = 0 ∧
      OnlyParts [.regs, .tickMem, .spindle] s.parkBoth t ∧ OnlyRegs [SP_STAT.REG.addr] s.parkBoth t) ∧
  (∀ s : State, s.live = true → s.spState = spAligning → s.spindle.attempts < 2 →
    ∃ t, exec .alignmentTimeout s = .next t ∧ t.spState = spObserving ∧ t.spindle.attempts = s.spindle.attempts + 1 ∧ t.spindle.drive = .off ∧
      OnlyParts [.regs, .tickMem, .spindle] s t ∧ OnlyRegs [SP_STAT.REG.addr] s t) ∧
  (∀ s : State, s.live = true → s.spState = spAligning → s.spindle.attempts = 2 → exec .alignmentTimeout s = .next (s.spFault SP_FAULT.STARTFAIL .off)) ∧
  (∀ s : State, s.live = true → s.spState = spAccelerating → exec .spindleStartTimeout s = .next (s.spFault SP_FAULT.STARTFAIL .short)) ∧
  (∀ s : State, s.live = true → s.spTurning = true → s.spindle.lockLoss = none →
    ∃ t, exec .commutationLockLoss s = .next t ∧ t.spState = spObserving ∧ t.spindle.lockLoss = some s.tick ∧ t.spindle.startPend = true ∧
      t.spindle.drive = .off ∧ OnlyParts [.regs, .tickMem, .spindle] s t ∧ OnlyRegs [SP_STAT.REG.addr] s t) ∧
  (∀ (s : State) (k : Nat), s.live = true → s.spTurning = true → s.spindle.lockLoss = some k → s.tick < k + secTicks 10 →
    exec .commutationLockLoss s = .next ((s.modSp (fun p => { p with lockLoss := some s.tick })).spFault SP_FAULT.LOCKLOSS .short)) ∧
  (∀ s : State, s.live = true → s.spindle.drive ≠ .short → 2 ≤ s.spindle.overCount → exec .spindleOvercurrent s = .next (s.spFault SP_FAULT.OVERCURRENT .off)) ∧
  (∀ s : State, s.live = true → exec .gateDriveUndervoltage s = .next (s.spFault SP_FAULT.VGDUV .off)) ∧
  (∀ s : State, s.live = true → s.watching = true → exec .vmOvervoltage46 s = .next (s.spFault SP_FAULT.OV46 .off)) ∧
  (∀ (s : State) (f : Fld) (d : Drive), f ∈ [SP_FAULT.STARTFAIL, SP_FAULT.LOCKLOSS, SP_FAULT.OVERCURRENT, SP_FAULT.VGDUV, SP_FAULT.OV46] →
    ∃ u : State, s.spFault f d = u.returnToken.baseNote 8 (s.reg SP_FAULT.REG.addr ||| f.mask).toNat ∧ u.spState = spFaulted ∧ u.spindle.drive = d ∧
      u.bit f = true ∧ OnlyParts [.regs, .tickMem, .spindle, .sil] s u ∧ OnlyRegs [SP_STAT.REG.addr, SP_FAULT.REG.addr, SL_LOST.REG.addr, SL_SUPP.REG.addr] s u)

/-- The loops of the spindle and its set-points. A sample set shows the currents and limits the duties; a second missed current loop is a watchdog fault of the spindle helper; the speed loop's command stays within IRUN and is not negative while NOREGEN; the position source follows an agreed hand-over; the chopper goes on at 44 V, off below 43 V, and its fault parks both actuators, shorts the windings and sets NOREGEN. A slewing spindle's set-point moves toward the target by at most the slew rate and never past it; FSYNC edges and SPD_AIN samples feed the source that the Accord selects; losing the source holds the set-point where it is; a following error takes both set-points to the measured speed, rounded to the rpm. Completion: CURRENT_SAMPLE_SET, CURRENT_LOOP_MISS, SPEED_LOOP_UPDATE, POSITION_HANDOVER, BOOTSTRAP_FORCED_PULSE, VM_OVERVOLTAGE_44, CHOPPER_RELEASE, CHOPPER_FAULT, SLEW_UPDATE, FSYNC_EDGE, SPD_AIN_SAMPLE, SOURCE_LOST, FOLLOWING_ERROR_TIMEOUT each answer a next state, under the premises of its clause on the state and operands alone. (09_spindle.md (R254; R255; R258; R262; R266; R268; R278; R281 to R286)) -/
def Obligations.spindle_control : Prop :=
  (∀ (s : State) (iu iv : Int) (vs : List Nat) (vm : Nat), s.live = true → s.switching = false → s.spindle.overCount = 0 →
    ∃ t, exec (.currentSampleSet iu iv vs vm) s = .next t ∧ t.fld SP_CURR.IU = toTwos 16 (iu * 16) ∧ t.fld SP_CURR.IV = toTwos 16 (iv * 16) ∧
      t.spindle.missCount = 0 ∧ t.spindle.volts = vs ∧ t.spindle.vmSns = vm ∧ t.spindle.atCentre = !s.spindle.atCentre ∧ t.spindle.duties = s.spindle.duties ∧
      OnlyParts [.regs, .tickMem, .spindle] s t ∧ OnlyRegs [SP_CURR.REG.addr] s t) ∧
  (∀ (s : State) (iu iv : Int) (vs : List Nat) (vm : Nat), s.live = true → s.switching = true → s.spindle.overCount = 0 → s.dutyFloor ≤ 2000 →
    ∃ t, exec (.currentSampleSet iu iv vs vm) s = .next t ∧ t.spindle.duties = (if s.spindle.atCentre then s.spindle.duties else s.spindle.nextDuties) ∧
      t.spindle.nextDuties.length = 3 ∧ (∀ d ∈ t.spindle.nextDuties, s.dutyFloor ≤ d ∧ d ≤ 4000 - s.dutyFloor) ∧ 0 ≤ -t.spindle.dCmd ∧ -t.spindle.dCmd * 2 ≤ s.motor 14 2 ∧
      OnlyParts [.regs, .tickMem, .spindle] s t ∧ OnlyRegs [SP_CURR.REG.addr, SP_DIST.REG.addr] s t) ∧
  (∀ (s : State) (iu iv : Int) (vs : List Nat) (vm : Nat), s.live = true → s.switching = false → s.spindle.drive ≠ .short → s.spindle.overCount = 1 →
    s.motor 12 2 * 2048 < iu.natAbs * s.motor 10 2 → s.tickMem.events.contains .spindleOvercurrent = false →
    ∃ t, exec (.currentSampleSet iu iv vs vm) s = .next t ∧ t.spindle.overCount = 2 ∧ (∃ e ∈ t.recorded, e = ⟨s.tick, .spindleOvercurrent⟩)) ∧
  (∀ s : State, s.live = true → s.spindle.missCount = 0 →
    ∃ t, exec .currentLoopMiss s = .next t ∧ t.spindle.missCount = 1 ∧ t.spindle.duties = s.spindle.duties ∧ OnlyParts [.spindle] s t) ∧
  (∀ (s : State) (h : Nat), s.live = true → s.spindle.missCount = 1 → s.helperOf 5 0 = some h →
    ∃ u : State, exec .currentLoopMiss s = .next (u.faultHelper h 5 (s.helper h).space (s.helper h).pc) ∧ u.spindle.missCount = 2 ∧
      OnlyParts [.spindle] s u) ∧
  (∀ s : State, s.live = true → s.spTurning = true →
    ∃ t, exec .speedLoopUpdate s = .next t ∧ t.spindle.iCmd ≤ s.motor 14 2 ∧ -(s.motor 14 2 : Int) ≤ t.spindle.iCmd ∧
      (s.bit SP_STAT.NOREGEN = true → 0 ≤ t.spindle.iCmd) ∧ OnlyParts [.spindle] s t) ∧
  (∀ s : State, s.live = true → s.spTurning = true → s.bit SP_STAT.POSSRC = false → 4800 ≤ s.fld SP_SPEED.SPEED →
    ∃ t, exec (.positionHandover true true) s = .next t ∧ t.fld SP_STAT.POSSRC = 1 ∧ OnlyParts [.regs, .tickMem] s t ∧ OnlyRegs [SP_STAT.REG.addr] s t) ∧
  (∀ s : State, s.live = true → s.spTurning = true → s.bit SP_STAT.POSSRC = true → s.fld SP_SPEED.SPEED < 4320 →
    ∃ t, exec (.positionHandover false true) s = .next t ∧ t.fld SP_STAT.POSSRC = 0 ∧ OnlyParts [.regs, .tickMem] s t ∧ OnlyRegs [SP_STAT.REG.addr] s t) ∧
  (∀ s : State, s.live = true → s.spTurning = true → s.bit SP_STAT.POSSRC = false → 4800 ≤ s.fld SP_SPEED.SPEED →
    exec (.positionHandover true false) s = .next s.lockLost) ∧
  (∀ (s : State) (k : Nat), s.live = true → s.spindle.drive = .pwm → s.spindle.duties[k]? = some (4000 - s.dutyFloor) →
    ∃ t, exec (.bootstrapForcedPulse k) s = .next t ∧ t.spindle.pulses = s.spindle.pulses + 1 ∧ t.spindle.lastPulse = some (k, 2 * s.motor 18 2) ∧ OnlyParts [.spindle] s t) ∧
  (∀ s : State, s.live = true → s.watching = true → s.spindle.barred = false →
    ∃ t, exec .vmOvervoltage44 s = .next t ∧ t.pins.brkG = true ∧ t.bit SP_STAT.CHOPON = true ∧ t.bit SP_FAULT.OV44 = true ∧
      t.fld SP_BRK.COUNT = Nat.min (s.fld SP_BRK.COUNT + 1) SP_BRK.COUNT.max ∧ OnlyParts [.regs, .tickMem, .pins, .sil] s t ∧
      OnlyRegs [SP_STAT.REG.addr, SP_BRK.REG.addr, SP_FAULT.REG.addr, SL_LOST.REG.addr, SL_SUPP.REG.addr] s t) ∧
  (∀ (s : State) (i : Nat), s.live = true → s.pins.brkG = true → s.spindle.chopFault = false →
    ∃ t, exec (.chopperRelease i) s = .next t ∧ t.pins.brkG = false ∧ t.bit SP_STAT.CHOPON = false ∧ t.fld SP_BRK.IPEAK = i % 65536 ∧
      OnlyParts [.regs, .tickMem, .pins] s t ∧ OnlyRegs [SP_STAT.REG.addr, SP_BRK.REG.addr] s t) ∧
  (∀ (s : State) (i : Nat), s.live = true → s.pins.brkG = true → s.spState ≠ spCoasting → s.spState ≠ spFaulted →
    ∃ u t : State, exec (.chopperFault i) s = .next t ∧ OnlyParts [.regs, .tickMem, .sil, .spindle] s u ∧ OnlyParts [.regs, .tickMem, .spindle] u.parkBoth t ∧
      u.bit SP_FAULT.CHOPPER = true ∧ u.spindle.chopFault = true ∧ u.bit SP_STAT.NOREGEN = true ∧ t.spState = spShortBraking ∧ t.spindle.drive = .short) ∧
  (∀ (s : State) (v : Nat), s.live = true → s.spState = spSlewing →
    ∃ t, exec (.slewUpdate v) s = .next t ∧
      (s.spindle.slewMilli ≤ s.fld SP_TARGET.TARGET * 1000 → s.spindle.slewMilli ≤ t.spindle.slewMilli ∧
        t.spindle.slewMilli ≤ s.fld SP_TARGET.TARGET * 1000 ∧ t.spindle.slewMilli ≤ s.spindle.slewMilli + s.slewRate * 8) ∧
      (s.fld SP_TARGET.TARGET * 1000 ≤ s.spindle.slewMilli → s.fld SP_TARGET.TARGET * 1000 ≤ t.spindle.slewMilli ∧
        t.spindle.slewMilli ≤ s.spindle.slewMilli ∧ s.spindle.slewMilli ≤ t.spindle.slewMilli + s.slewRate * 8)) ∧
  (∀ s : State, s.live = true → s.streamSrc = 1 → s.spindle.fsyncTick = none →
    ∃ t, exec .fsyncEdge s = .next t ∧ t.spindle.fsyncTick = some s.tick ∧ OnlyParts [.spindle] s t) ∧
  (∀ (s : State) (k : Nat), s.live = true → s.streamSrc = 1 → s.spindle.fsyncTick = some k → s.spindle.periods.length < 7 →
    ∃ t, exec .fsyncEdge s = .next t ∧ t.spindle.periods = (s.tick - k) :: s.spindle.periods ∧ t.bit SP_SRCVAL.VALID = false ∧
      OnlyParts [.regs, .tickMem, .spindle] s t ∧ OnlyRegs [SP_SRCVAL.REG.addr] s t) ∧
  (∀ (s : State) (mv : Nat), s.live = true → s.streamSrc = 2 → s.spindle.ainSamples.length < 99 →
    ∃ t, exec (.spdAinSample mv) s = .next t ∧ t.spindle.ainSamples = mv :: s.spindle.ainSamples ∧ t.bit SP_SRCVAL.VALID = false ∧
      OnlyParts [.regs, .tickMem, .spindle] s t ∧ OnlyRegs [SP_SRCVAL.REG.addr] s t) ∧
  (∀ s : State, s.live = true → s.streamOn = true →
    ∃ t, exec .sourceLost s = .next t ∧ t.bit SP_FAULT.SRCLOST = true ∧ t.bit SP_STAT.SRCHOLD = true ∧
      t.fld SP_TARGET.TARGET = s.fld SP_SPEED.SLEWED ∧ OnlyParts [.regs, .tickMem, .sil] s t ∧
      OnlyRegs [SP_FAULT.REG.addr, SP_STAT.REG.addr, FB_ALERT.REG.addr, SP_TARGET.REG.addr, SL_LOST.REG.addr, SL_SUPP.REG.addr] s t) ∧
  (∀ s : State, s.live = true → s.fld PW_STAT.VMSTATE = vmNormal → s.spState = spLocked →
    ∃ t, exec .followingErrorTimeout s = .next t ∧ t.bit SP_FAULT.FOLLOW = true ∧
      t.fld SP_TARGET.TARGET = (s.fld SP_SPEED.SPEED + 4) / 8 * 8 % 65536 ∧ t.fld SP_SPEED.SLEWED = (s.fld SP_SPEED.SPEED + 4) / 8 * 8 % 65536 ∧
      t.spindle.followMap = some s.spindle.mapped ∧ OnlyParts [.regs, .tickMem, .sil, .spindle, .cal] s t)

/-- VCM and driver faults, deadline misses and shock. A VCM fault or a microactuator driver fault of a loaded actuator inhibits all its heads, sets its fault bit and takes the actuator to Retracting with a domain fault; a deadline miss is recorded, inhibits writes and stops the next apply, and a second one in a row is a watchdog fault; a shock sets the hold for its time and inhibits, and the end of the hold clears it. Completion: VCM_FAULT_PIN, MA_DRIVER_FAULT_PIN, SERVO_DEADLINE_MISS, SHOCK, SHOCK_HOLD_END each answer a next state, under the premises of its clause on the state and operands alone. (10_servo.md (R296; R298; R299; R305; R324)) -/
def Obligations.servo_faults : Prop :=
  (∀ (s : State) (a : Act), s.live = true → s.svLoaded a = true →
    ∃ u : State, exec (.vcmFaultPin a) s = .next (((u.retractAct a true).domainFault (domOfAct a) 2).domSettle.standbyStep) ∧
      u.bit (SV_FAULT.VCMFLT (actNum a)) = true ∧ (∀ n < 2, u.gate a n = false) ∧ u.fld (SV_INHREASON.REASON (actNum a)) = 5 ∧
      (s.svState a ≠ svRetracting → (u.retractAct a true).svState a = svRetracting ∧ (u.retractAct a true).pins.ret.at a = true) ∧
      OnlyParts [.regs, .tickMem, .pins, .map, .assist, .lanes, .tier] s u) ∧
  (∀ (s : State) (a : Act), s.live = true → s.svLoaded a = true →
    ∃ u : State, exec (.maDriverFaultPin a) s = .next (((u.retractAct a true).domainFault (domOfAct a) 2).domSettle.standbyStep) ∧
      u.bit (SV_FAULT.MAFLT (actNum a)) = true ∧ (∀ n < 2, u.gate a n = false) ∧ u.fld (SV_INHREASON.REASON (actNum a)) = 6 ∧
      OnlyParts [.regs, .tickMem, .pins, .map, .assist, .lanes, .tier] s u) ∧
  (∀ (s : State) (a : Act) (coarse : Bool), s.live = true → s.svLoaded a = true → (if coarse then (s.sv a).cmiss else (s.sv a).fmiss) = 0 →
    ∃ u : State, exec (.servoDeadlineMiss a coarse) s = .next u.domSettle.standbyStep ∧ (u.sv a).missed = true ∧
      (if coarse then (u.sv a).cmiss = 1 ∧ u.bit (SV_WDOG.CMISS (actNum a)) = true else (u.sv a).fmiss = 1 ∧ u.bit (SV_WDOG.FMISS (actNum a)) = true) ∧
      u.fld (SV_WDOG.COUNT (actNum a)) = Nat.min (s.fld (SV_WDOG.COUNT (actNum a)) + 1) (Fld.max (SV_WDOG.COUNT (actNum a))) ∧
      (∀ n < 2, u.gate a n = false) ∧ OnlyParts [.regs, .tickMem, .pins, .map, .servo, .assist, .lanes, .tier] s u) ∧
  (∀ (s : State) (a : Act), s.live = true → s.svLoaded a = true →
    ∃ t, exec (.shock a) s = .next t ∧ t.bit (SV_STAT.SHOCK (actNum a)) = true ∧ (t.sv a).shockLeft = s.loopLim a 14 2 ∧
      t.fld (SV_INHREASON.REASON (actNum a)) = 4 ∧ (∀ n < 2, t.gate a n = false) ∧ t.sv (otherAct a) = s.sv (otherAct a) ∧
      OnlyParts [.regs, .tickMem, .pins, .map, .servo, .assist, .lanes, .tier] s t) ∧
  (∀ (s : State) (a : Act), s.live = true → ∃ t, exec (.shockHoldEnd a) s = .next t ∧ t.bit (SV_STAT.SHOCK (actNum a)) = false ∧ (t.sv a).shockLeft = 0 ∧
    t.sv (otherAct a) = s.sv (otherAct a) ∧ OnlyParts [.regs, .tickMem, .servo] s t ∧ OnlyRegs [(SV_STAT.REG (actNum a)).addr] s t)

/-- Load, unload, retract release and the failed load. A load of a Parked actuator at speed enables the coil with LOADI; a park request unloads with the reversed current and closed gates; the end of the unload profile parks, unless samples are still valid, which is a fault; the release of a retract parks, or ends Faulted where a fault arose; a load that times out is tried again until the third attempt, which ends Faulted. Completion: LOAD_REQUEST, PARK_REQUEST, UNLOAD_PROFILE_END, VCM_FAULT_PIN, RETRACT_RELEASE, LOAD_TIMEOUT each answer a next state, under the premises of its clause on the state and operands alone. (10_servo.md (R318; R320); 03_package_pins_power.md (R104)) -/
def Obligations.loading_and_parking : Prop :=
  (∀ (s : State) (a : Act), s.live = true → s.svState a = svParked → s.spReady = true → s.bit FB_STAT.BASENOTE = false → s.isServing (domOfAct a) = true →
    ∃ t, exec (.loadRequest a) s = .next t ∧ t.svState a = svLoading ∧ t.pins.vcmEn.at a = true ∧ t.pins.vcmCmd.at a = s.loadI a ∧
      (t.sv a).attempts = 1 ∧ (t.sv a).coefRpm = s.fld SP_SPEED.SLEWED ∧ (t.sv a).reload = false ∧ t.sv (otherAct a) = s.sv (otherAct a) ∧
      OnlyParts [.regs, .tickMem, .pins, .servo, .assist] s t) ∧
  (∀ (s : State) (a : Act), s.live = true → s.svLoaded a = true → s.svState a ≠ svUnloading →
    ∃ t, exec (.parkRequest a) s = .next t ∧ t.svState a = svUnloading ∧ t.pins.vcmCmd.at a = -(s.loadI a) ∧ t.pins.vcmEn.at a = true ∧
      t.fld (SV_STAT.ACTIVE (actNum a)) = 0 ∧ (∀ n < 2, t.gate a n = false) ∧ t.svState (otherAct a) = s.svState (otherAct a) ∧
      OnlyParts [.regs, .tickMem, .pins, .map, .servo, .assist, .lanes, .tier] s t) ∧
  (∀ (s : State) (a : Act), s.live = true → s.svState a = svUnloading →
    ∃ u : State, exec (.unloadProfileEnd a false) s = .next (u.afterParked a).standbyStep ∧ u.svState a = svParked ∧ u.pins.vcmEn.at a = false ∧
      u.pins.vcmCmd.at a = 0 ∧ (u.sv a).places = [] ∧ u.fld (SV_STAT.GROUP (actNum a)) = 0xF ∧ u.sv (otherAct a) = s.sv (otherAct a) ∧
      OnlyParts [.regs, .tickMem, .pins, .servo] s u) ∧
  (∀ (s : State) (a : Act), s.live = true → s.svState a = svUnloading → exec (.unloadProfileEnd a true) s = exec (.vcmFaultPin a) s) ∧
  (∀ (s : State) (a : Act), s.svState a = svRetracting → (s.sv a).faultPend = false →
    ∃ u : State, exec (.retractRelease a) s = .next (u.afterParked a).standbyStep ∧ u.svState a = svParked ∧ u.pins.ret.at a = false ∧
      u.pins.ret.at (otherAct a) = s.pins.ret.at (otherAct a) ∧ u.pins.vcmEn.at a = false ∧ OnlyParts [.regs, .tickMem, .pins, .servo] s u) ∧
  (∀ (s : State) (a : Act), s.svState a = svRetracting → (s.sv a).faultPend = true →
    ∃ u : State, exec (.retractRelease a) s = .next u.standbyStep ∧ u.svState a = svFaulted ∧ u.pins.ret.at a = false ∧ (u.sv a).faultPend = false ∧
      OnlyParts [.regs, .tickMem, .pins, .servo] s u) ∧
  (∀ (s : State) (a : Act), s.live = true → s.svState a = svLoading → (s.sv a).attempts < 3 →
    ∃ t, exec (.loadTimeout a) s = .next t ∧ t.svState a = svUnloading ∧ (t.sv a).reload = true ∧ t.pins.vcmCmd.at a = -(s.loadI a) ∧
      OnlyParts [.regs, .tickMem, .pins, .map, .servo, .assist, .lanes, .tier] s t) ∧
  (∀ (s : State) (a : Act), s.live = true → s.svState a = svLoading → (s.sv a).attempts = 3 →
    ∃ u : State, exec (.loadTimeout a) s = .next (u.domainFault (domOfAct a) 3).domSettle.standbyStep ∧ u.svState a = svFaulted ∧
      u.bit (SV_FAULT.LOADFAIL (actNum a)) = true ∧ u.pins.vcmEn.at a = false ∧ OnlyParts [.regs, .tickMem, .pins, .servo] s u)

/-- Seeks, recovery and a wedge. A seek of a Following actuator to a group with heads sets the target, closes the gates and enters Seeking; an announced one waits for its lead and then starts; recovery that finds no valid sample fails the primary and acquires again; a wedge of an actuator that is not loaded changes nothing, and in Loading the eighth valid sample in a row ends the load. Completion: SEEK_REQUEST, SEEK_LEAD_EXPIRY, RECOVERY_TIMEOUT, WEDGE_SAMPLE each answer a next state, under the premises of its clause on the state and operands alone. (10_servo.md (R302; R314; R318; R319; R321; R326; R327)) -/
def Obligations.seeks_and_wedges : Prop :=
  (∀ (s : State) (a : Act) (g track : Nat), s.live = true → s.svState a = svFollowing → s.headsFor a g ≠ [] → s.power.frameBar = false → s.svRows a 0x0006 = 0 →
    ∃ t, exec (.seekRequest a g track) s = .next t ∧ t.svState a = svSeeking ∧ t.fld (SV_TARGET.TRACK (actNum a)) = track % 2 ^ 24 ∧
      (t.sv a).reqGroup = g ∧ (t.sv a).reqTrack = track ∧ (t.sv a).seekWait = none ∧ (∀ n < 2, t.gate a n = false) ∧
      t.sv (otherAct a) = s.sv (otherAct a) ∧ OnlyParts [.regs, .tickMem, .pins, .map, .servo, .assist, .lanes, .cal, .tier] s t) ∧
  (∀ (s : State) (a : Act) (g track : Nat), s.live = true → s.svState a = svSeeking → (s.sv a).seekWait = some (g, track) → s.headsFor a g ≠ [] → s.power.frameBar = false →
    ∃ t, exec (.seekLeadExpiry a) s = .next t ∧ t.svState a = svSeeking ∧ t.fld (SV_TARGET.TRACK (actNum a)) = track % 2 ^ 24 ∧
      (t.sv a).seekWait = none ∧ OnlyParts [.regs, .tickMem, .pins, .map, .servo, .assist, .lanes, .cal, .tier] s t) ∧
  (∀ (s : State) (a : Act), s.live = true → s.svState a = svRecovering →
    ∃ t, exec (.recoveryTimeout a) s = .next t ∧ t.svState a = svAcquiring ∧
      (t.head a (s.fld (SV_STAT.PRIMARY (actNum a)))).failed = true ∧
      OnlyParts [.regs, .tickMem, .pins, .sil, .map, .servo, .assist, .lanes, .cal, .tier] s t) ∧
  (∀ (s : State) (a : Act) (x : WedgeIn), s.live = true → s.svLoaded a = false → exec (.wedgeSample a x) s = .next s) ∧
  (∀ (s : State) (a : Act) (x : WedgeIn), s.live = true → s.svState a = svLoading → 7 ≤ (s.sv a).stWedges → (s.readWedges a x.places).head?.map (fun y => y.2.valid) = some true → x.isn = s.pins.vcmCmd.at a → x.echo = [] →
    (s.sv a).missed = false →
    ∃ t, exec (.wedgeSample a x) s = .next t ∧ t.svState a = svAcquiring ∧ (t.sv a).attempts = 0 ∧ t.fld (SV_WEDGE.WEDGE (actNum a)) = wedgeNumber (s.readWedges a x.places) % 512 ∧
      t.pins = s.pins ∧ (t.sv a).isnBad = 0 ∧ OnlyParts [.regs, .tickMem, .sil, .map, .servo, .lanes, .tier, .assist, .freeIdx] s t) ∧
  (∀ (w t : Nat) (c : Int) (x : WedgePlace) (next : Option Nat) (track : Nat), w < 500 → t < 2 ^ 24 → -2048 ≤ c → c < 2048 → (next = none ∨ next = some w) →
    x.sam = samCells.map some → x.index = (codedBits 10 (indexBits w)).map some → x.trackId = (codedBits 24 (grayCode t)).map some →
    x.wrro = (codedBits 12 (toTwos 12 c)).map some → demodulate x next track = ⟨true, w, t, x.pes + c⟩)

/-- A frame on a write slot, from its command to its end. A frame command queues the placed frame; the start raises the gate on it when its head may write, a lane clocks, and the budget admits it; the first bit cell turns assist and write state on; a wedge suspends and resumes them; the end of the pad lowers the gate and puts the frame on the media; an underrun closes the gate and abandons the frame. Completion: WRITE_FRAME_COMMAND, WRITE_FRAME_START, ASSIST_FIRST_BIT_CELL, WRITE_WEDGE_SUSPEND, WRITE_WEDGE_RESUME, WRITE_FRAME_END, WRITE_PAYLOAD_UNDERRUN each answer a next state, under the premises of its clause on the state and operands alone. (12_lanes_and_format.md (R380 to R386); 11_energy_assist.md (R337 to R340; R347; R350)) -/
def Obligations.a_frame_is_written : Prop :=
  (∀ (s : State) (a : Act) (n : Fin 2) (f : WriteFrame), s.live = true → s.map.placed.find? (fun g => g.pfn == f.pfn) = some f → surfAct f.surf = a → s.isServing (domOfAct a) = true →
    s.stripeReady f.pfn = true → s.trackReady f.pfn = true → ([0, 1, 2, 3].any (fun j => (s.slot j).queue.any (fun g => g.pfn == f.pfn) || (s.slot j).cur.any (fun g => g.pfn == f.pfn))) = false →
    ∃ t, exec (.writeFrameCommand a n f.pfn) s = .next t ∧ (t.slot (slotNum a n)).queue = (s.slot (slotNum a n)).queue ++ [f] ∧ (t.slot (slotNum a n)).cur = (s.slot (slotNum a n)).cur ∧
      t.fld (wsState a n) = (if s.fld (wsState a n) = wsIdle then wsWaiting else s.fld (wsState a n)) ∧ (∀ j < 4, j ≠ slotNum a n → t.slot j = s.slot j) ∧
      OnlyParts [.regs, .tickMem, .lanes] s t ∧ OnlyRegs [(wsState a n).addr] s t) ∧
  (∀ (s : State) (a : Act) (n : Fin 2) (f : WriteFrame) (rest : List WriteFrame) (k l : Nat), s.live = true → (s.slot (slotNum a n)).queue = f :: rest → s.isServing (domOfAct a) = true →
    s.bit FB_STAT.BASENOTE = false → s.gate a n = false → s.fld (asState a n) = asOff → s.power.frameBar = false → s.spindle.speedBad = false → s.thermalDown = false → (s.gate a (1 - n) = true → s.throttled = false ∧ 2 ≤ s.writers a) →
    s.fldBit (AS_WDIS.HEADS (actNum a)) (f.surf % 16) = false → s.fldThen (AS_TINT.VALID (actNum a)) = 1 → s.placeOfHead a (f.surf % 16) = some k → s.clockLane a (f.surf % 16) = some l →
    4096 ≤ (s.slot (slotNum a n)).payload.length → s.writePermitted a k = true → f.track = s.placeTarget a k →
    ∃ t, exec (.writeFrameStart a n) s = .next t ∧
      (s.budgetAdmits a n (s.assistPoint a (f.surf % 16)).2.2 = true → t.gate a n = true ∧ t.fld (asState a n) = asLeading ∧ t.fld (wsState a n) = wsLeading ∧
        (t.slot (slotNum a n)).cur = some f ∧ (t.slot (slotNum a n)).queue = rest ∧ t.fld (wsHead a n) = f.surf % 16 ∧ t.lnState l = lnClocking ∧ (t.aslot a n).emitter = 1 ∧
        t.gate a (1 - n) = s.gate a (1 - n)) ∧
      (s.budgetAdmits a n (s.assistPoint a (f.surf % 16)).2.2 = false → t = s.bump (AS_EVT.DEFER (actNum a)))) ∧
  (∀ (s : State) (a : Act) (n : Fin 2), s.live = true → s.fld (asState a n) = asLeading → s.gate a n = true →
    ∃ t, exec (.assistFirstBitCell a n) s = .next t ∧ t.fld (asState a n) = asOn ∧ t.fld (wsState a n) = wsWriting ∧ (t.aslot a n).emitter = 2 ∧ t.pins = s.pins ∧
      OnlyParts [.regs, .tickMem, .assist, .lanes] s t) ∧
  (∀ (s : State) (a : Act) (n : Fin 2), s.live = true → s.fld (wsState a n) = wsWriting →
    ∃ t, exec (.writeWedgeSuspend a n) s = .next t ∧ t.fld (wsState a n) = wsSuspended ∧ (t.aslot a n).suspended = true ∧ (t.aslot a n).emitter = 1 ∧ t.pins = s.pins ∧
      OnlyParts [.regs, .tickMem, .assist, .lanes] s t) ∧
  (∀ (s : State) (a : Act) (n : Fin 2), s.live = true → s.fld (wsState a n) = wsSuspended →
    ∃ t, exec (.writeWedgeResume a n) s = .next t ∧ t.fld (wsState a n) = wsWriting ∧ (t.aslot a n).suspended = false ∧ (t.aslot a n).emitter = 2 ∧ t.pins = s.pins ∧
      OnlyParts [.regs, .tickMem, .assist, .lanes] s t) ∧
  (∀ (s : State) (a : Act) (n : Fin 2) (f : WriteFrame), s.live = true → (s.slot (slotNum a n)).cur = some f → s.fld (wsState a n) = wsWriting →
    ∃ t, exec (.writeFrameEnd a n) s = .next t ∧ t.gate a n = false ∧ t.fld (asState a n) = asOff ∧ (t.slot (slotNum a n)).cur = none ∧
      SMap.get (fun _ => none) t.map.media f.pfn = some ⟨f.kind, f.tag, s.map.frameSeq + 1, f.slots⟩ ∧ t.map.frameSeq = s.map.frameSeq + 1 ∧
      t.fld (wsWritten a n) = Nat.min (s.fld (wsWritten a n) + 1) (Fld.max (wsWritten a n)) ∧
      (∀ p < 300, p ≠ f.pfn → SMap.get (fun _ => none) t.map.media p = SMap.get (fun _ => none) s.map.media p) ∧ OnlyParts [.regs, .tickMem, .pins, .map, .assist, .lanes, .tier] s t) ∧
  (∀ (s : State) (a : Act) (n : Fin 2) (f : WriteFrame), s.live = true → (s.slot (slotNum a n)).cur = some f → s.fld (wsState a n) = wsWriting → s.gate a n = true →
    ∃ t, exec (.writePayloadUnderrun a n) s = .next t ∧ t.gate a n = false ∧ (t.slot (slotNum a n)).cur = none ∧ t.fld (wsState a n) = wsIdle ∧ f.pfn ∈ t.map.voids ∧
      t.map.media = s.map.media ∧ t.fld (wsUnder a n) = Nat.min (s.fld (wsUnder a n) + 1) (Fld.max (wsUnder a n)) ∧ OnlyParts [.regs, .tickMem, .pins, .map, .assist, .lanes, .tier] s t)

/-- The power loop and the protection of energy assist. A loop boundary with no gate open clears the miss count; with one open and on it applies the command computed before; a sensor at a rail closes the gate and write-disables the head; one missed deadline keeps the commands, a second faults the helper; a resistance over RLIM trips to Cooling, whose end is Off; a preamplifier fault closes both gates and faults the domain; a good temperature read is shown, its loss recorded. Completion: ASSIST_LOOP_BOUNDARY, ASSIST_DEADLINE_MISS, OVERTEMP_TRIP, COOLING_END, PREAMP_FAULT_PIN, PREAMP_TEMP_READ, TINT_LOST each answer a next state, under the premises of its clause on the state and operands alone. (11_energy_assist.md (R332 to R336; R341 to R346; R349)) -/
def Obligations.assist_protection : Prop :=
  (∀ (s : State) (a : Act) (v0 v1 : AssistIn), s.live = true → s.gate a 0 = false → s.gate a 1 = false →
    ∃ t, exec (.assistLoopBoundary a v0 v1) s = .next t ∧ (t.as a).misses = 0 ∧ (t.as a).missed = false ∧ OnlyParts [.assist] s t) ∧
  (∀ (s : State) (a : Act) (v0 v1 : AssistIn), s.live = true → s.gate a 0 = true → s.gate a 1 = false → s.fld (asState a 0) = asOn → (s.as a).missed = false → v0.rail = false → (s.aslot a 0).suspended = false →
    ∃ t, exec (.assistLoopBoundary a v0 v1) s = .next t ∧ t.fld (asCmd a 0) = (s.aslot a 0).pend % 2 ^ ((asCmd a 0).hi - (asCmd a 0).lo + 1) ∧ t.fld (asMon a 0) = v0.mon % 2 ^ ((asMon a 0).hi - (asMon a 0).lo + 1) ∧
      t.fld (asTest a 0) = toTwos 16 (s.sensorTemp a (s.fld (asHead a 0)) v0.res) ∧ (t.as a).misses = 0 ∧ (t.as a).paFrames = [paFrame 0 (s.aslot a 0).pend]) ∧
  (∀ (s : State) (a : Act) (v0 v1 : AssistIn), s.live = true → s.gate a 0 = true → s.gate a 1 = false → v0.rail = true →
    ∃ t, exec (.assistLoopBoundary a v0 v1) s = .next t ∧ t.gate a 0 = false ∧ t.bit (AS_FAULT.SENSOR (actNum a)) = true ∧ t.fldBit (AS_WDIS.HEADS (actNum a)) (s.fld (asHead a 0)) = true) ∧
  (∀ (s : State) (a : Act), s.live = true → s.gate a 0 = true → (s.as a).misses = 0 →
    ∃ t, exec (.assistDeadlineMiss a) s = .next t ∧ (t.as a).misses = 1 ∧ (t.as a).missed = true ∧
      t.fld (AS_ABORT.MISS (actNum a)) = Nat.min (s.fld (AS_ABORT.MISS (actNum a)) + 1) (Fld.max (AS_ABORT.MISS (actNum a))) ∧ OnlyParts [.regs, .tickMem, .assist] s t ∧
      OnlyRegs [(AS_ABORT.REG (actNum a)).addr] s t) ∧
  (∀ (s : State) (a : Act), s.live = true → s.gate a 0 = true → (s.as a).misses = 1 → s.helperOf 4 (actNum a) = none →
    ∃ t, exec (.assistDeadlineMiss a) s = .next t ∧ (t.as a).misses = 0 ∧ t.bit (AS_FAULT.WDOG2 (actNum a)) = true ∧ OnlyParts [.regs, .tickMem, .assist, .sil] s t) ∧
  (∀ (s : State) (a : Act) (n : Fin 2) (r : Nat), s.live = true → s.gate a n = true → (s.aslot a n).rlim < r →
    ∃ t, exec (.overtempTrip a n r) s = .next t ∧ t.gate a n = false ∧ t.fld (asState a n) = asCooling ∧ t.bit (AS_FAULT.OVERTEMP (actNum a)) = true ∧
      t.fld (AS_EVT.TRIPS (actNum a)) = Nat.min (s.fld (AS_EVT.TRIPS (actNum a)) + 1) (Fld.max (AS_EVT.TRIPS (actNum a)))) ∧
  (∀ (s : State) (a : Act) (n : Fin 2), s.live = true → s.fld (asState a n) = asCooling →
    ∃ t, exec (.coolingEnd a n) s = .next t ∧ t.fld (asState a n) = asOff ∧ OnlyParts [.regs, .tickMem] s t ∧ OnlyRegs [(AS_STAT.REG (actNum a)).addr] s t) ∧
  (∀ (s : State) (a : Act), s.live = true →
    ∃ u : State, exec (.preampFaultPin a) s = .next (u.domainFault (domOfAct a) 4).domSettle.standbyStep ∧ u.gate a 0 = false ∧ u.gate a 1 = false ∧
      u.bit (AS_FAULT.PAFLT (actNum a)) = true ∧ OnlyParts [.regs, .tickMem, .pins, .sil, .map, .assist, .lanes, .tier] s u) ∧
  (∀ (s : State) (a : Act) (c : Int), s.live = true → ∃ t, exec (.preampTempRead a true c) s = .next t ∧ t.fld (AS_TINT.TINT (actNum a)) = toTwos 8 c ∧ t.bit (AS_TINT.VALID (actNum a)) = true ∧
    (t.as a).tintTick = s.tick ∧ OnlyParts [.regs, .tickMem, .assist, .cal] s t) ∧
  (∀ (s : State) (a : Act) (c : Int), s.live = true → exec (.preampTempRead a false c) s = .next (s.modAs a (fun x => { x with paRead := some (paRegFrame true 8 0) }))) ∧
  (∀ (s : State) (a : Act), s.live = true → s.bit (AS_TINT.VALID (actNum a)) = true →
    ∃ t, exec (.tintLost a) s = .next t ∧ t.bit (AS_TINT.VALID (actNum a)) = false ∧ t.bit (AS_FAULT.TINTLOST (actNum a)) = true ∧ OnlyParts [.regs, .tickMem, .sil] s t ∧
      OnlyRegs [(AS_TINT.REG (actNum a)).addr, (AS_FAULT.REG (actNum a)).addr, SL_LOST.REG.addr, SL_SUPP.REG.addr] s t)

/-- A read lane: binding, commands, capture, sync, in-line decode, end. A binding of an Off lane of a serving actuator puts it into Servo; an unbinding turns it Off; a frame command queues at the lane where it comes in time and is SKIPPED otherwise; a position passed skips the front command; a capture start takes the command into Reading; the sync decision finds the mark whose count is high enough; an in-line decode holds the frame's image; the end of the sector gives its status record. Completion: LANE_BIND, LANE_UNBIND, FRAME_COMMAND, FRAME_POSITION_PASSED, CAPTURE_START, SYNC_DECISION, INLINE_DECODE_RESULT, SECTOR_END each answer a next state, under the premises of its clause on the state and operands alone. (12_lanes_and_format.md (R356; R357; R366 to R371; R375 to R379); 13_detection_and_deep_decode.md (R395; R396)) -/
def Obligations.a_frame_is_read : Prop :=
  (∀ (s : State) (l : Nat) (a : Act), s.live = true → s.laneAct l = some a → s.lnState l = lnOff → s.isServing (domOfAct a) = true →
    ∃ t, exec (.laneBind l) s = .next t ∧ t.lnState l = lnServo ∧ t.lnAct l = a ∧ t.fld (LN_STAT.INSEL l) = s.insel a l % 16 ∧ OnlyParts [.regs, .tickMem, .assist, .cal] s t) ∧
  (∀ (s : State) (l : Nat), s.live = true → l < 9 → s.lnState l ≠ lnOff →
    ∃ t, exec (.laneUnbind l) s = .next t ∧ t.lnState l = lnOff ∧ (t.lane l).queue = [] ∧ (t.lane l).cur = none) ∧
  (∀ (s : State) (l track frame start : Nat), s.live = true → l < 9 → s.isSecond l = false → s.isServing (domOfAct (s.lnAct l)) = true → s.readsFor l = l → s.throttled = false → s.thermalDown = false → s.lnState l ≠ lnOff → s.secondOf l = none →
    s.tick + 50 ≤ start → (s.lane l).queue.length < 8 →
    ∃ t, exec (.frameCommand l track frame start) s = .next t ∧ (t.lane l).queue = (s.lane l).queue ++ [s.mkCmd l track frame start] ∧ OnlyParts [.lanes] s t) ∧
  (∀ (s : State) (l track frame start : Nat), s.live = true → l < 9 → s.isSecond l = false → s.isServing (domOfAct (s.lnAct l)) = true → s.readsFor l = l → s.throttled = false → s.thermalDown = false → s.lnState l ≠ lnOff → s.secondOf l = none →
    start < s.tick + 50 → exec (.frameCommand l track frame start) s = .next (s.skipFrame l (s.mkCmd l track frame start))) ∧
  (∀ (s : State) (l : Nat) (c : FrameCmd) (q : List FrameCmd), s.live = true → (s.lane l).queue = c :: q → s.lnState l = lnServo →
    ∃ u : State, exec (.framePositionPassed l) s = .next (u.skipFrame l c) ∧ (u.lane l).queue = q ∧ OnlyParts [.lanes] s u) ∧
  (∀ (s : State) (l : Nat) (c : FrameCmd) (q : List FrameCmd), s.live = true → (s.lane l).queue = c :: q → (s.lane l).cur = none → s.lnState l = lnServo →
    ∃ t, exec (.captureStart l) s = .next t ∧ (t.lane l).queue = q ∧ (t.lane l).cur = some c ∧ (t.lane l).found = false ∧ (t.lane l).missed = false ∧ (t.lane l).capTick = s.tick ∧
      t.lnState l = lnReading ∧ t.bit (LN_STAT.LOCK l) = true ∧ t.fld (LN_GAIN.GAIN l) ≤ 144 ∧ t.freeIdx = s.freeIdx + 1 ∧ OnlyParts [.regs, .tickMem, .lanes, .decode, .freeIdx] s t) ∧
  (∀ (s : State) (l : Nat) (c : FrameCmd) (d : List SlicedCell), s.live = true → s.lnState l = lnReading → (s.lane l).cur = some c → (s.lane l).found = false → (s.lane l).missed = false → s.isSecond l = false →
    s.secondOf l = none →
    ∃ t, exec (.syncDecision l d []) s = .next t ∧ (t.lane l).found = !(t.lane l).missed ∧
      ((t.lane l).found = true → ∃ k ∈ List.range 17, (t.lane l).syncOff = (k : Int) - 8 ∧ (t.lane l).syncCnt = (((syncCounts 8 s.syncPat d)[k]?).getD (0, 0)).1 ∧
        16 ≤ (((syncCounts 8 s.syncPat d)[k]?).getD (0, 0)).2 ∧
        s.fld (LN_SYNC.SYNCTH l) * (((syncCounts 8 s.syncPat d)[k]?).getD (0, 0)).2 ≤ 32 * (((syncCounts 8 s.syncPat d)[k]?).getD (0, 0)).1) ∧
      ((t.lane l).missed = true → ∀ k ∈ List.range 17, 16 ≤ (((syncCounts 8 s.syncPat d)[k]?).getD (0, 0)).2 →
        32 * (((syncCounts 8 s.syncPat d)[k]?).getD (0, 0)).1 < s.fld (LN_SYNC.SYNCTH l) * (((syncCounts 8 s.syncPat d)[k]?).getD (0, 0)).2) ∧
      (∀ m < 9, m ≠ l → t.lane m = s.lane m) ∧ OnlyParts [.lanes] s t) ∧
  (∀ (pat : Nat) (pre post : List SlicedCell), pre.length ≤ 16 → (syncCounts 8 pat (pre ++ (syncPattern pat).map some ++ post))[pre.length]? = some (32, 32)) ∧
  (∀ (s : State) (l : Nat) (c : FrameCmd) (d : DecodeRes), s.live = true → s.lnState l = lnReading → (s.lane l).cur = some c → c.cal = false → (s.lane l).found = true → (s.lane l).offTrack = false →
    (s.lane l).inline = false → s.isSecond l = false → l < 8 → (s.lane l).results.length < 2 → s.power.standbyPending = false →
    s.decodeValid (s.cmdSurf l c) c.track c.frame (s.inlineLimit (s.lnAct l)) d = true →
    ∃ t, exec (.inlineDecodeResult l d) s = .next t ∧ (t.lane l).inline = true ∧
      (t.lane l).results = (s.lane l).results ++ [⟨trackWord (s.cmdSurf l c) c.track, c.frame, infoHeader (decodedInfo d (s.cmdSurf l c) c.track c.frame),
        infoPayload (decodedInfo d (s.cmdSurf l c) c.track c.frame)⟩] ∧ OnlyParts [.map, .lanes] s t) ∧
  (∀ (s : State) (l : Nat) (c : FrameCmd) (d : DecodeRes), s.live = true → s.lnState l = lnReading → (s.lane l).cur = some c → (s.lane l).found = true → (s.lane l).offTrack = false →
    (s.lane l).inline = false → s.isSecond l = false → l < 8 → s.power.standbyPending = false → isCodeword d.bits = false →
    exec (.inlineDecodeResult l d) s = .next s) ∧
  (∀ (s : State) (l : Nat) (c : FrameCmd), s.live = true → l < 8 → (s.lane l).cur = some c → s.lnState l = lnReading → (s.lane l).extent = none → (s.lane l).queue = [] → s.power.standbyPending = false →
    ∃ t, exec (.sectorEnd l none) s = .next t ∧ (t.lane l).cur = none ∧ t.lnState l = lnServo ∧
      t.fld (LN_FRAMES.COUNT l) = Nat.min (s.fld (LN_FRAMES.COUNT l) + 1) (Fld.max (LN_FRAMES.COUNT l)) ∧ t.fld (LN_SYNC.LASTCNT l) = (s.lane l).syncCnt % 64)

/-- Escalation, the units and their steps. An escalated frame is queued in order with its extents pinned; a free unit takes the head of the queue; a found mark goes on to a decode, a screened offset with few unsatisfied checks is decoded; a valid decode ends the recovery; a unit that overran is reset and its frame goes to another unit or back to the queue. Completion: FRAME_ESCALATION, DEEP_DECODE_START, DEEP_DECODE_STEP_DONE, UNIT_OVERTIME each answer a next state, under the premises of its clause on the state and operands alone. (13_detection_and_deep_decode.md (R401; R405; R406; R408 to R410; R414)) -/
def Obligations.deep_decode : Prop :=
  (∀ (s : State) (surf track frame cls : Nat) (r : Recovery) (h : Nat), s.live = true → s.decode.failed.find? (fun q => q.surf == surf && q.track == track && q.frame == frame) = some r →
    s.fewest = some h → s.recoveries.any (fun q => q.same r) = false → s.decode.queue.length < 1024 → r.retained = true → s.pinnedCount + r.extents.length ≤ 2048 →
    ∃ t, exec (.frameEscalation surf track frame cls) s = .next t ∧
      t.decode.queue = insertRecovery { r with stage := if r.miss then 0 else 2, offs := 0, cls := Nat.min 2 cls, owner := h, unit := none, wait := 0 } s.decode.queue ∧
      t.decode.failed = s.decode.failed.filter (fun q => !q.same r) ∧ (∀ e : Nat, (t.extent e).pins = (s.extent e).pins + r.extents.count e) ∧
      t.fld DD_ESC.ESCALATED = Nat.min (s.fld DD_ESC.ESCALATED + 1) (Fld.max DD_ESC.ESCALATED) ∧ t.fld DD_STAT.QLEN = (s.decode.queue.length + 1) % 2048 ∧
      t.fld DD_ESC.QFULL = s.fld DD_ESC.QFULL ∧ OnlyParts [.regs, .tickMem, .decode] s t) ∧
  (∀ (s : State) (u : Nat) (r : Recovery) (q : List Recovery), s.live = true → s.decode.queue = r :: q → s.unitFree u = true →
    ∃ t, exec (.deepDecodeStart u) s = .next t ∧ t.decode.queue = q.filter (fun x => !x.same r) ∧
      t.decode.active = s.decode.active.filter (fun x => !x.same r) ++ [{ r with unit := some u, owner := (s.unitOwner u).getD r.owner }] ∧
      t.fldBit DD_STAT.BUSY u = true ∧ t.fld (DD_UNIT.STEP u) = r.stepCode % 256 ∧ t.fld (DD_UNIT.HEAD u) = r.surf % 32 ∧ OnlyParts [.regs, .tickMem, .decode] s t) ∧
  (∀ (s : State) (u : Nat) (r : Recovery) (c d : List SlicedCell), s.live = true → u < 4 → s.decode.active.find? (fun q => q.unit == some u) = some r → r.stage = 0 → s.power.standbyPending = false → s.researchFinds r c d = true →
    ∃ t, exec (.deepDecodeStepDone u (.search c d)) s = .next t ∧
      t.decode.active = s.decode.active.filter (fun x => !x.same r) ++ [{ r with stage := 1, miss := false }] ∧ OnlyParts [.regs, .tickMem, .decode] s t) ∧
  (∀ (s : State) (u : Nat) (r : Recovery) (n : Nat), s.live = true → u < 4 → s.decode.active.find? (fun q => q.unit == some u) = some r → r.stage = 3 → unsatisfied n ≤ 648 → s.power.standbyPending = false →
    ∃ t, exec (.deepDecodeStepDone u (.screen n)) s = .next t ∧
      t.decode.active = s.decode.active.filter (fun x => !x.same r) ++ [{ r with stage := 4 }] ∧ OnlyParts [.regs, .tickMem, .decode] s t) ∧
  (∀ (s : State) (u : Nat) (r : Recovery) (n : Nat), s.live = true → u < 4 → s.decode.active.find? (fun q => q.unit == some u) = some r → r.stage = 3 → r.extra = [] → r.offs < 7 → 648 < unsatisfied n → s.power.standbyPending = false →
    ∃ t, exec (.deepDecodeStepDone u (.screen n)) s = .next t ∧
      t.decode.active = s.decode.active.filter (fun x => !x.same r) ++ [{ r with offs := r.offs + 1 }] ∧ OnlyParts [.regs, .tickMem, .decode] s t) ∧
  (∀ (s : State) (u : Nat) (r : Recovery) (d : DecodeRes), s.live = true → s.decode.active.find? (fun q => q.unit == some u) = some r → r.stage = 2 →
    s.decodeValid r.surf r.track r.frame r.limit d = true →
    ∃ v : State, exec (.deepDecodeStepDone u (.decode d)) s = .next (((v.readAs r.surf r.track r.frame (decodedInfo d r.surf r.track r.frame)).recovered r).standbyStep) ∧
      v.fld (DD_UNIT.ITER u) = Nat.min 255 d.iters ∧ OnlyParts [.regs, .tickMem, .sil] s v) ∧
  (∀ (s : State) (u : Nat) (r : Recovery) (d : DecodeRes), s.live = true → s.decode.active.find? (fun q => q.unit == some u) = some r → r.stage = 2 → isCodeword d.bits = false → r.extra = [] →
    ∃ v : State, exec (.deepDecodeStepDone u (.decode d)) s = .next (((v.unpin []).hold { r with stage := 3, offs := 0 }).standbyStep) ∧ OnlyParts [.regs, .tickMem, .sil] s v) ∧
  (∀ (s : State) (u : Nat) (r : Recovery) (k : Nat), s.live = true → s.decode.active.find? (fun q => q.unit == some u) = some r → s.power.standbyPending = false →
    (recent s.tick (secTicks 1) (SMap.get (fun _ => []) s.decode.resets u)).length < 3 → (List.range 4).find? (fun k => k != u && s.unitFree k) = some k →
    ∃ t, exec (.unitOvertime u) s = .next t ∧ t.decode.active = s.decode.active.filter (fun x => !x.same r) ++ [{ r with unit := some k }] ∧
      t.fld DD_UNITRST.RESETS = Nat.min (s.fld DD_UNITRST.RESETS + 1) (Fld.max DD_UNITRST.RESETS) ∧ t.fldBit DD_STAT.DISABLED u = s.fldBit DD_STAT.DISABLED u ∧ OnlyParts [.regs, .tickMem, .decode] s t) ∧
  (∀ (s : State) (u : Nat) (r : Recovery), s.live = true → u < 4 → s.decode.active.find? (fun q => q.unit == some u) = some r →
    3 ≤ (recent s.tick (secTicks 1) (SMap.get (fun _ => []) s.decode.resets u)).length →
    ∃ v : State, v.fldBit DD_STAT.DISABLED u = true ∧ OnlyParts [.regs, .tickMem, .decode] s v ∧
      exec (.unitOvertime u) s = .next (match (List.range 4).find? (fun k => k != u && v.unitFault.unitFree k) with
        | some k => (v.unitFault.hold { r with unit := some k }).standbyStep
        | none => (v.unitFault.enqueue r).standbyStep))

/-- Re-reads and the waits of a recovery. A re-read pass takes the oldest request that can be served and queues its frame at the lane that serves the head, a direct one counted; a neighbour wait that ends with nothing retained asks for a pass of the next track; a two-reader request that waited too long for lane LS becomes a plain one; a frame unreadable for 3 s is given up, its requests gone, and the time does not count while its actuator is not Serving. Completion: REREAD_PASS, NEIGHBOUR_WAIT_EXPIRY, LS_WAIT_TIMEOUT, UNREADABLE_TIMEOUT each answer a next state, under the premises of its clause on the state and operands alone. (13_detection_and_deep_decode.md (R411; R415; R416; R417)) -/
def Obligations.recovery_passes : Prop :=
  (∀ (s : State) (a : Act) (start : Nat) (r : Reread) (l : Nat), s.live = true → s.actAway a = false → s.svState a = svFollowing → s.lanes.rereads.find? (s.canReread a) = some r → r.kind = 1 → s.laneOfSurf r.surf = some l →
    ∃ u : State, exec (.rereadPass a start) s = .next (u.frameCommand l r.track r.frame start) ∧ u.lanes.rereads = s.lanes.rereads.filter (fun q => !(q == r)) ∧ OnlyParts [.lanes] s u) ∧
  (∀ (s : State) (a : Act) (start : Nat) (r : Reread) (l : Nat), s.live = true → s.actAway a = false → s.svState a = svFollowing → s.lanes.rereads.find? (s.canReread a) = some r → r.kind = 0 → s.laneOfSurf r.surf = some l →
    ∃ u : State, exec (.rereadPass a start) s = .next (u.frameCommand l r.track r.frame start) ∧ u.directCount r.surf r.track r.frame = s.directCount r.surf r.track r.frame + 1 ∧
      u.fld DD_REREAD.DIRECT = Nat.min (s.fld DD_REREAD.DIRECT + 1) (Fld.max DD_REREAD.DIRECT) ∧ OnlyParts [.regs, .tickMem, .lanes, .decode] s u) ∧
  (∀ (s : State) (surf track frame : Nat) (r : Recovery), s.live = true → s.decode.active.find? (fun q => q.wait == 2 && q.surf == surf && q.track == track && q.frame == frame) = some r → s.neighbourCaps r = [] →
    ∃ t, exec (.neighbourWaitExpiry surf track frame) s = .next t ∧ t.decode.active = s.decode.active.filter (fun x => !x.same r) ++ [{ r with wait := 3 }] ∧
      t.lanes.rereads.contains ⟨surf, track, frame, 5⟩ = true ∧ t.fld DD_REREAD.LADDER = Nat.min (s.fld DD_REREAD.LADDER + 1) (Fld.max DD_REREAD.LADDER) ∧ OnlyParts [.regs, .tickMem, .lanes, .decode] s t) ∧
  (∀ (s : State) (surf track frame : Nat), s.live = true → s.power.standbyPending = false →
    ∃ t, exec (.lsWaitTimeout surf track frame) s = .next t ∧ t.lanes.rereads = s.lanes.rereads.map (fun r => if r = ⟨surf, track, frame, 4⟩ then ⟨surf, track, frame, 1⟩ else r) ∧ OnlyParts [.lanes] s t) ∧
  (∀ (s : State) (surf track frame : Nat) (r : Recovery), s.live = true → s.isServing (domOfAct (surfAct surf)) = true → s.recoveries.find? (fun q => q.surf == surf && q.track == track && q.frame == frame) = some r →
    ∃ u : State, exec (.unreadableTimeout surf track frame) s = .next (((u.dropRecovery r).unreadable surf track frame 1).resumeReads.standbyStep) ∧
      (u.dropRecovery r).recoveries.any (fun q => q.surf == surf && q.track == track && q.frame == frame) = false ∧
      u.lanes.rereads = s.lanes.rereads.filter (fun q => !(q.surf == surf && q.track == track && q.frame == frame)) ∧ OnlyParts [.lanes] s u) ∧
  (∀ (s : State) (surf track frame : Nat), s.live = true → s.isServing (domOfAct (surfAct surf)) = false → exec (.unreadableTimeout surf track frame) s = .next s.standbyStep)

/-- A calibration run: start, steps, result. A due lane of a Restoring domain, or LS, starts a run at step 1 in place; a lane of a Serving domain waits while LS is in use; each step takes its value and moves on; a value at a limit of its range rejects the run, and one that runs out of time is rejected too, the sets unchanged; an accepted run loads the new set, keeps it, and leaves its record; every 60 s cause 1 is raised for the degraded lanes. Completion: CAL_RUN_START, CAL_STEP_DONE, CAL_TIMEOUT, DEGRADED_RECAL_TIMER each answer a next state, under the premises of its clause on the state and operands alone. (14_calibration.md (R424 to R427; R429 to R434)) -/
def Obligations.calibration_runs : Prop :=
  (∀ (s : State) (l : Nat), s.live = true → l < 8 → s.causes l ≠ 0 → s.run? l = none → s.bit FB_STAT.BASENOTE = false → s.lnState l ≠ lnOff → (s.dom (domOfAct (s.lnAct l))).st = .restoring →
    ∃ t, exec (.calRunStart l) s = .next t ∧ (∃ r : CalRun, t.run? l = some r ∧ r.step = 1 ∧ r.inPlace = true ∧ r.startTick = s.tick) ∧ t.bit CL_STAT.LSWAIT = false ∧
      t.lnState l = s.lnState l ∧ t.cal.lsUse = s.cal.lsUse ∧ OnlyParts [.regs, .tickMem, .cal] s t ∧ OnlyRegs [CL_STAT.REG.addr] s t) ∧
  (∀ (s : State) (l : Nat), s.live = true → l < 8 → s.causes l ≠ 0 → s.run? l = none → s.bit FB_STAT.BASENOTE = false → s.lnState l ≠ lnOff → s.isServing (domOfAct (s.lnAct l)) = true →
    s.calFirst l = true → s.throttled = false → s.thermalDown = false → s.cal.lsUse ≠ 0 →
    ∃ t, exec (.calRunStart l) s = .next t ∧ t.bit CL_STAT.LSWAIT = true ∧ t.cal = s.cal ∧ OnlyParts [.regs, .tickMem] s t ∧ OnlyRegs [CL_STAT.REG.addr] s t) ∧
  (∀ (s : State) (l : Nat), s.live = true → l < 8 → s.causes l ≠ 0 → s.run? l = none → s.bit FB_STAT.BASENOTE = false → s.lnState l ≠ lnOff → s.isServing (domOfAct (s.lnAct l)) = true →
    s.calFirst l = true → s.throttled = false → s.thermalDown = false → s.cal.lsUse = 0 → s.bit (LN_STAT.DEGRADED 8) = false →
    ∃ t, exec (.calRunStart l) s = .next t ∧ (∃ r : CalRun, t.run? l = some r ∧ r.step = 1 ∧ r.inPlace = false) ∧ t.bit (LN_STAT.STANDIN 8) = true ∧ t.cal.lsUse = 1 ∧
      t.lnState 8 = lnServo ∧ t.fld (LN_STAT.HEAD 8) = s.fld (LN_STAT.HEAD l) ∧ t.fld (LN_STAT.ACT 8) = s.fld (LN_STAT.ACT l) ∧ OnlyParts [.regs, .tickMem, .cal] s t) ∧
  (∀ (s : State) (l : Nat) (f : CalFind) (r q : CalRun), s.live = true → s.run? l = some r → r.take f = some q → q.step < 8 →
    ∃ t, exec (.calStepDone l f) s = .next t ∧ t.cal.runs = s.cal.runs.map (fun x => if x.lane == l then q else x) ∧ OnlyParts [.regs, .tickMem, .cal] s t ∧ OnlyRegs [CL_STAT.REG.addr] s t) ∧
  (∀ (s : State) (l : Nat) (f : CalFind) (r q : CalRun), s.live = true → s.run? l = some r → r.take f = some q → q.step = 8 → (q.inPlace = true → (s.lane l).cur = none) →
    ∃ u : State, exec (.calStepDone l f) s = .next (if !q.inside then u.rejectRun q calRange else if !q.better then u.rejectRun q calNotBetter else
        u.applyRun q (match f with | .early _ _ ok => ok | _ => true)) ∧ OnlyParts [.regs, .tickMem, .cal] s u ∧ OnlyRegs [CL_STAT.REG.addr] s u) ∧
  (∀ (s : State) (l : Nat) (d1 d2 : Int) (ok : Bool) (r q : CalRun), s.live = true → s.run? l = some r → r.take (.early d1 d2 ok) = some q → q.step = 8 → q.inPlace = true → (s.lane l).cur ≠ none →
    ∃ t, exec (.calStepDone l (.early d1 d2 ok)) s = .next t ∧ t.cal.runs = s.cal.runs.map (fun x => if x.lane == l then { q with applyDue := some ok } else x) ∧
      t.cal.sets = s.cal.sets ∧ OnlyParts [.regs, .tickMem, .cal] s t ∧ OnlyRegs [CL_STAT.REG.addr] s t) ∧
  (∀ (s : State) (q : CalRun), q.lane < 9 → q.owners = [] → (s.bit (LN_STAT.DEGRADED q.lane) = true → SMap.get (fun _ => 0) s.cal.accepts q.lane = 0) →
    (s.applyRun q true).fld (LN_ADC.OFFSET q.lane) = ((q.newAdc[0]?).getD 0) % 256 ∧ (s.applyRun q true).fld (LN_SYNC.SYNCTH q.lane) = q.newSet.syncth % 64 ∧
      (s.applyRun q true).chanSet? q.key = some { q.newSet with tj := q.tj, tint := q.tint } ∧ (s.applyRun q true).fld (CL_LAST.RESULT q.lane) = 1 ∧
      (s.applyRun q true).fld (CL_LAST.REJCNT q.lane) = 0 ∧ (s.applyRun q true).run? q.lane = none) ∧
  (∀ (s : State) (l : Nat) (r : CalRun), s.live = true → s.run? l = some r → r.owners = [] → s.fld (CL_LAST.REJCNT l) < 2 → l < 9 →
    ∃ t, exec (.calTimeout l) s = .next t ∧ t.run? l = none ∧ t.fld (CL_LAST.RESULT l) = 2 ∧ t.fld (CL_LAST.REJCNT l) = s.fld (CL_LAST.REJCNT l) + 1 ∧
      t.cal.sets = s.cal.sets ∧ t.fld (LN_ADC.OFFSET l) = s.fld (LN_ADC.OFFSET l) ∧ t.fld (LN_SYNC.SYNCTH l) = s.fld (LN_SYNC.SYNCTH l) ∧ OnlyParts [.regs, .tickMem, .cal] s t) ∧
  (∀ (s : State), s.live = true → ∃ t, exec .degradedRecalTimer s = .next t ∧ (∀ l < 9, s.bit (LN_STAT.DEGRADED l) = true → natBit (t.causes l) 1 = true ∧ natBit (t.fld CL_STAT.DUE) l = true) ∧
    OnlyParts [.regs, .tickMem, .cal] s t ∧ OnlyRegs [CL_STAT.REG.addr] s t)

/-- Write groups, record lines and the free-page gauge. When the pages of the first group are written, its write-group line is queued with the page they start at and the tail moves past them; the line at the front takes the next SEQ in the record page in use or opens the next page first; what a written line says is the map's from then on, a map change whose entries have all moved on writes nothing; while MRAM takes no line, nothing happens. Completion: JOURNAL_PAGES_WRITTEN, RECORD_LINE_COMPLETE, FREE_PAGE_GAUGE_SAMPLE each answer a next state, under the premises of its clause on the state and operands alone. (15_zones_map_and_journal.md (R459 to R464)) -/
def Obligations.the_write_journal : Prop :=
  (∀ (s : State) (g : Group) (rest : List Group), s.live = true → s.map.groups = g :: rest → s.mapReady = true → s.journalAdmits = true → s.dataRoom g.data.length = true → s.paceOk g.data.length = true →
    ∃ t, exec .journalPagesWritten s = .next t ∧ t.map.groups = rest ∧
      t.map.issue = s.map.issue ++ [⟨.writeGroup g.gblk g.nblk g.nsid (s.takeData g.data.length).2 (g.zone.getD 0xFFFFFFFF), [], g.owner, g.last, g.result⟩] ∧
      t.fld MP_JTAIL.PAGE = (s.takeData g.data.length).1.fld MP_JTAIL.PAGE ∧ t.map.jseq = s.map.jseq ∧ t.map.map = s.map.map ∧ OnlyParts [.regs, .tickMem, .sil, .map, .helpers, .steward, .mem] s t) ∧
  (∀ (s : State), s.live = true → s.journalAdmits = false → exec .journalPagesWritten s = .next s ∧ exec .recordLineComplete s = .next s) ∧
  (∀ (s : State) (l : JLine) (rest : List JLine), s.live = true → s.map.issue = l :: rest → s.journalAdmits = true → s.needsPage = true →
    ∃ t, exec .recordLineComplete s = .next t ∧ t.map.issue = s.map.issue ∧ t.map.recLine = 1 ∧ t.map.jseq = s.map.jseq + 1 ∧
      t.map.map = s.map.map ∧ t.fld MP_JSEQ_LO.SEQ = (s.map.jseq + 1) % 2 ^ 32 ∧ OnlyParts [.regs, .tickMem, .sil, .map, .helpers, .steward, .mem] s t) ∧
  (∀ (s : State) (l : JLine) (rest : List JLine), s.live = true → s.map.issue = l :: rest → s.journalAdmits = true → s.needsPage = false →
    ∃ t, exec .recordLineComplete s = .next t ∧ (s.lineDone l rest).map.issue = rest ∧ s.map.jseq ≤ t.map.jseq) ∧
  (∀ (s : State) (g n ns p : Nat) (ms : List Move) (o : Option CmdRef) (la : Bool) (res : Nat) (rest : List JLine), n < 17 →
    (s.lineDone ⟨.writeGroup g n ns p 0xFFFFFFFF, ms, o, la, res⟩ rest).map.jseq = s.map.jseq + 1 ∧
      (s.lineDone ⟨.writeGroup g n ns p 0xFFFFFFFF, ms, o, la, res⟩ rest).map.recLine = s.map.recLine + 1 ∧
      (∀ u ∈ s.groupUnits g n p, (s.lineDone ⟨.writeGroup g n ns p 0xFFFFFFFF, ms, o, la, res⟩ rest).map.pend.contains u.1 = true) ∧
      (∀ i : Nat, (s.groupUnits g n p).any (fun u => u.1 == i) = false → (s.lineDone ⟨.writeGroup g n ns p 0xFFFFFFFF, ms, o, la, res⟩ rest).entry i = s.entry i)) ∧
  (∀ (s : State) (ms : List Move) (o : Option CmdRef) (la : Bool) (res : Nat) (rest : List JLine), s.liveMoves ms = [] →
    s.lineDone ⟨.mapDelta [], ms, o, la, res⟩ rest = s.modMap (fun m => { m with issue := rest })) ∧
  (∀ (s : State), s.live = true → exec .freePageGaugeSample s = .next (s.sample 0x0B (· == 0) (s.fld MP_JFREE.FREE)) ∧
    OnlyParts [.regs, .tickMem, .sil] s (s.sample 0x0B (· == 0) (s.fld MP_JFREE.FREE)))

/-- Placement batches, cleaning and the release of a band set. A host batch places a frame of pending blocks in the open band set, its cells in order; a cleaning batch keeps only blocks whose entries stand; the cleaning victim turns to Cleaning with its frames listed; a frame of it that is read leaves its valid blocks to be placed again; a band set that nothing needs becomes Empty with a record for each column; the walk sets every set's count. Completion: PLACEMENT_BATCH, CLEANING_VICTIM_SELECT, CLEANING_FRAME_READ, BAND_RELEASE, VALID_COUNT_WALK_DONE each answer a next state, under the premises of its clause on the state and operands alone. (15_zones_map_and_journal.md (R446 to R454; R458)) -/
def Obligations.placement_and_cleaning : Prop :=
  (∀ (s : State), s.live = true → s.mapReady = true → exec (.placementBatch false) s = .next s.closeInterim.placeHost ∧ exec (.placementBatch true) s = .next s.closeInterim.placeMoved ∧
    OnlyParts [.regs, .tickMem, .map, .lanes, .tier] s s.closeInterim ∧ OnlyParts [.regs, .tickMem, .map, .tier] s.closeInterim s.closeInterim.placeHost) ∧
  (∀ (s : State) (k : Nat), s.map.moving ≠ [] → (∀ x ∈ s.map.moving, s.entry x.1 = x.2.1) → (∀ x ∈ s.map.moving, (s.map.moving.filter (fun y => y.1 == x.1)).length = 1) →
    s.driveSets.find? (fun j => (s.bandSet j).use == 1 && s.setUsable (s.bandSet j)) = some k → (s.bandSet k).skip = [] → (s.bandSet k).width = 4 →
    (s.bandSet k).cursor / 4 < s.nStripes k (s.bandSet k) → s.flightFull k = false → (s.bandSet k).cursor % 4 < 2 →
    s.placeMoved.map.placed.take s.map.placed.length = s.map.placed ∧
      (s.placeMoved.map.placed.drop s.map.placed.length).map (fun f => (f.pfn, f.kind, f.slots.length)) = [(s.cellPfn k (s.bandSet k) (s.bandSet k).cursor, 0, 4)] ∧
      s.placeMoved.map.moving.length < s.map.moving.length ∧
      (s.placeMoved.bandSet k).cursor = (if (s.bandSet k).cursor % 4 = 1 then (s.bandSet k).cursor + 3 else (s.bandSet k).cursor + 1)) ∧
  (∀ (s : State), (∀ x ∈ s.placeMoved.map.moving, s.entry x.1 = x.2.1)) ∧
  (∀ (s : State) (k : Nat), s.live = true → s.mapReady = true → s.bit MP_STAT.COUNTING = false → s.map.victim = none → s.victim? = some k →
    ∃ t, exec .cleaningVictimSelect s = .next t ∧ t.map.victim.map (fun x => x.1) = some k ∧ (t.bandSet k).st = .cleaning ∧ (∀ j : Nat, j ≠ k → t.bandSet j = s.bandSet j) ∧
      t.map.issue = s.map.issue ++ (s.bandSet k).cols.map (fun sf => ⟨.band sf (if (s.bandSet k).offline.contains sf then 4 else 3) (s.bandSet k).owner k ((s.bandSet k).cursor / Nat.max 1 ((s.bandSet k).cols.length - (s.bandSet k).spares)), [], none, false, 0⟩) ∧
      OnlyParts [.map] s t) ∧
  (∀ (s : State) (k p : Nat) (rest : List Nat) (f : Frame), s.live = true → s.map.victim = some (k, p :: rest) → s.contribOn = false → s.extents = [] → s.frameOrRestored p = some f → f.kind = 0 →
    ∃ t, exec (.cleaningFrameRead true) s = .next t ∧ t.map.victim = some (k, rest) ∧
      t.map.moving = s.map.moving ++ (s.validSlots p f.tag).map (fun x => (x.1, MapEntry.media p x.2, slice (frameBytes f.slots) (x.2 * 4096) (4096 * s.gran))) ∧
      t.fld MP_CLEAN.BLOCKS = Nat.min (Fld.max MP_CLEAN.BLOCKS) (s.fld MP_CLEAN.BLOCKS + (s.validSlots p f.tag).length * s.gran) ∧ OnlyParts [.regs, .tickMem, .map] s t) ∧
  (∀ (s : State) (k : Nat), s.live = true → s.mapReady = true → s.mayRelease k = true → s.setFree k = true →
    ∃ t, exec (.bandRelease k) s = .next t ∧ t.bandSet k = BandSet.empty ∧ (∀ j : Nat, j ≠ k → t.bandSet j = s.bandSet j) ∧ t.map.victim.any (fun x => x.1 == k) = false ∧
      t.map.issue = s.map.issue ++ (s.bandSet k).cols.map (fun sf => ⟨.band sf 0 (s.bandSet k).owner k 0, [], none, false, 0⟩) ∧
      ((s.bandSet k).st = .cleaning → t.fld MP_CLSETS.SETS = Nat.min (s.fld MP_CLSETS.SETS + 1) (Fld.max MP_CLSETS.SETS)) ∧ t.deadStripes = s.deadStripes.filter (fun x => x.1 != k) ∧
      OnlyParts [.regs, .tickMem, .map, .tier] s t) ∧
  (∀ (s : State), s.live = true → s.mapReady = true → s.bit MP_STAT.COUNTING = true →
    ∃ t, exec .validCountWalkDone s = .next t ∧ t.bit MP_STAT.COUNTING = false ∧
      (∀ k : Nat, s.bandSet k ≠ BandSet.empty → (t.bandSet k).valid = (s.map.map.filter (fun x => match x.2 with | .media p _ => s.inSet k p | _ => false)).length * s.gran) ∧
      t.map.map = s.map.map ∧ OnlyParts [.regs, .tickMem, .map] s t ∧ OnlyRegs [MP_STAT.REG.addr] s t)

/-- Checkpoint segments, roots and the rebuild of the map. A segment is staged with the SEQ it includes; copy 0 goes to actuator A, copy 1 to B, then the segment record is queued; a root of the next generation takes its slot and its record is queued; the rebuild starts once an actuator follows and shows state 2, and its end shows state 4 with the counting walk begun. Completion: CHECKPOINT_SEGMENT_START, CHECKPOINT_COPY_WRITTEN, ROOT_WRITE_TIMER, MAP_REBUILD_START, MAP_REBUILD_COMPLETE each answer a next state, under the premises of its clause on the state and operands alone. (15_zones_map_and_journal.md (R465 to R471)) -/
def Obligations.checkpoints_and_rebuild : Prop :=
  (∀ (s : State) (k : Nat), s.live = true → s.mapReady = true → s.nextSegment = some k →
    ∃ t, exec .checkpointSegmentStart s = .next t ∧ (t.seg k).phase = 1 ∧ (t.seg k).imgSeq = s.map.jseq ∧ (t.seg k).staged = s.segmentEntries k ∧ (t.seg k).copy0 = none ∧
      (t.seg k).copy1 = (s.seg k).copy1 ∧ (t.seg k).segseq = (s.seg k).segseq ∧ (∀ j : Nat, j ≠ k → t.seg j = s.seg j) ∧ OnlyParts [.map] s t) ∧
  (∀ (s : State) (k : Nat), s.live = true → s.mapReady = true → (s.seg k).phase = 1 → s.isServing .DA = true →
    ∃ t, exec (.checkpointCopyWritten k) s = .next t ∧ (t.seg k).phase = 2 ∧ (t.seg k).copy0 = some ((s.seg k).imgSeq, (s.seg k).staged) ∧ (t.seg k).copy1 = none ∧
      t.map.issue = s.map.issue ∧ (∀ j : Nat, j ≠ k → t.seg j = s.seg j) ∧ OnlyParts [.map] s t) ∧
  (∀ (s : State) (k : Nat), s.live = true → s.mapReady = true → (s.seg k).phase = 2 → s.isServing .DB = true →
    ∃ t, exec (.checkpointCopyWritten k) s = .next t ∧ (t.seg k).phase = 3 ∧ (t.seg k).copy1 = some ((s.seg k).imgSeq, (s.seg k).staged) ∧ (t.seg k).copy0 = (s.seg k).copy0 ∧
      t.map.issue = s.map.issue ++ [⟨.segment k (s.seg k).imgSeq, [], none, false, 0⟩] ∧ (∀ j : Nat, j ≠ k → t.seg j = s.seg j) ∧ OnlyParts [.map] s t) ∧
  (∀ (s : State), s.live = true → s.mapReady = true → s.map.rootDirty = true → (s.map.issue.all (fun l => match l.body with | .root _ _ _ => false | _ => true)) = true →
    ∃ t, exec .rootWriteTimer s = .next t ∧ t.map.rootDirty = false ∧
      (SMap.get (fun _ => none) t.map.roots ((s.fld MP_ROOTGEN.GEN + 1) % 2)).map (fun (r : Root) => (r.gen, r.seq, r.digest)) = some (s.fld MP_ROOTGEN.GEN + 1, s.map.jseq, layoutDigest s.acc.applied) ∧
      (SMap.get (fun _ => none) t.map.roots ((s.fld MP_ROOTGEN.GEN + 1) % 2)).map (fun (r : Root) => (r.namespaces, r.bandsets)) = some (s.nvme.namespaces, s.map.bandsets) ∧ (SMap.get (fun _ => none) t.map.roots ((s.fld MP_ROOTGEN.GEN + 1) % 2)).map (fun (r : Root) => r.zones) = some s.map.zones ∧
      SMap.get (fun _ => none) t.map.roots (s.fld MP_ROOTGEN.GEN % 2) = SMap.get (fun _ => none) s.map.roots (s.fld MP_ROOTGEN.GEN % 2) ∧
      t.map.issue = s.map.issue ++ [⟨.root (s.fld MP_ROOTGEN.GEN + 1) ((s.fld MP_ROOTGEN.GEN + 1) % 2) s.map.jseq, [], none, false, 0⟩] ∧ t.cal.saved = s.cal.sets ∧ OnlyParts [.acc, .map, .cal] s t) ∧
  (∀ (s : State) (rb : List Nat) (cb : List (Nat × Nat)) (lb : List Nat) (sb : List (Nat × Nat)), s.live = true → s.fld MP_STAT.STATE = 1 → s.map.rebuilding = false → s.actSettled .A = true → s.actSettled .B = true →
    s.svState .A = svFollowing ∨ s.svState .B = svFollowing →
    ∃ t, exec (.mapRebuildStart rb cb lb sb) s = .next t ∧ t.fld MP_STAT.STATE = 2 ∧ t.map.rebuilding = true ∧ t.map.jseq = s.map.jseq ∧ t.fld MP_JSEQ_LO.SEQ = s.map.jseq % 2 ^ 32 ∧
      t.map.media = s.map.media ∧ (∀ r ∈ t.map.journal, r ∈ s.map.journal ∧ r.seq ∉ lb) ∧ OnlyParts [.regs, .tickMem, .sil, .map, .cal, .tier] s t) ∧
  (∀ (s : State) (ck ap : Nat), s.live = true → s.fld MP_STAT.STATE = 2 → s.map.rebuilding = true → s.activeReady = true →
    ∃ t, exec (.mapRebuildComplete ck ap) s = .next t ∧ t.fld MP_STAT.STATE = 4 ∧ t.bit MP_STAT.COUNTING = true ∧ t.map.rebuilding = false ∧
      t.fld MP_REPLAY.CKPT = Nat.min 0xFFFF ck ∧ t.fld MP_REPLAY.APPLY = Nat.min 0xFFFF ap)

/-- Parity of a stripe and the stripe journal. A stripe whose data members are fixed gets its P and Q frames, computed from the members' tags and payloads, at its last two cells; the record at the front of the queue takes the next SEQ and line in both copies, what it supersedes goes, and an open record lets the stripe's frames be written; while MRAM takes no line, nothing happens. Completion: STRIPE_PARITY_COMPUTE, SJ_RECORD_DURABLE each answer a next state, under the premises of its clause on the state and operands alone. (16_local_redundancy.md (R474; R475; R482; R483; R486 to R489)) -/
def Obligations.stripes_and_their_journal : Prop :=
  (∀ (s : State) (k st : Nat) (x : Stripe), s.live = true → s.stripe? k st = some x → x.parity = false → s.dataFixed x = true → (∀ m ∈ x.members, m.2.1.slots.length = 4) →
    ∃ t, exec (.stripeParityCompute k st) s = .next t ∧ t.map.placed.take s.map.placed.length = s.map.placed ∧
      (t.map.placed.drop s.map.placed.length).map (fun f => (f.kind, f.pfn, memberBytes f.tag f.slots)) =
        [(1, s.cellPfn x.bs (s.bandSet x.bs) (x.st * (s.bandSet x.bs).width + ((s.bandSet x.bs).width - 2)), parityP 16392 (x.members.map (fun m => memberBytes m.2.1.tag m.2.1.slots))),
         (2, s.cellPfn x.bs (s.bandSet x.bs) (x.st * (s.bandSet x.bs).width + ((s.bandSet x.bs).width - 1)), parityQ 16392 (x.members.map (fun m => memberBytes m.2.1.tag m.2.1.slots)))] ∧
      t.tier.stripes.any (fun y => y.bs == k && y.st == st && !y.parity) = false ∧ OnlyParts [.map, .tier] s t) ∧
  (∀ (s : State) (k st : Nat) (x : Stripe), s.live = true → s.stripe? k st = some x → x.parity = true ∨ s.dataFixed x = false → exec (.stripeParityCompute k st) s = .next s) ∧
  (∀ (s : State) (k st : Nat) (rest : List SjBody), s.live = true → s.tier.queue = .open k st :: rest → s.journalAdmits = true → sjStep s.tier.next ≠ s.tier.head →
    ∃ t, exec .sjRecordDurable s = .next t ∧ t.tier.queue = rest ∧ t.tier.seq = s.tier.seq + 1 ∧ t.tier.next = sjStep s.tier.next ∧ t.tier.head = s.tier.head ∧
      t.tier.sj.getLast? = some ⟨s.tier.seq + 1, .open k st, s.tier.next⟩ ∧ (∀ y ∈ t.tier.stripes, y.bs = k → y.st = st → y.opened = true) ∧
      t.tier.stripes.length = s.tier.stripes.length ∧ OnlyParts [.regs, .tickMem, .sil, .map, .helpers, .steward, .mem, .tier] s t) ∧
  (∀ (s : State) (b : SjBody) (rest : List SjBody), s.live = true → s.tier.queue = b :: rest → s.journalAdmits = true →
    exec .sjRecordDurable s = .next ((s.sjWrite b rest).sjEffect b (s.tier.seq + 1)) ∧
      (∀ r ∈ (s.sjWrite b rest).tier.sj, r ∈ s.tier.sj ∧ b.supersedes r.body = false ∨ r = ⟨s.tier.seq + 1, b, s.tier.next⟩)) ∧
  (∀ (s : State), s.live = true → s.journalAdmits = false → exec .sjRecordDurable s = .next s)

/-- Reconstruction, rebuild, patrol and shares of media time. A restored frame goes to the reads that wait, its loss counted; a rebuild takes the next stripe that needs it, moves its cursor on and ends when none is left; once a second a cursor record is queued; patrol reads the next full stripe and fixes the one member that differs; a second's media time is shared out and paces host writes below half the reserve. Completion: RECONSTRUCTION_COMPLETE, REBUILD_STRIPE, REBUILD_CURSOR_TIMER, PATROL_STRIPE, MEDIA_TIME_INTERVAL each answer a next state, under the premises of its clause on the state and operands alone. (16_local_redundancy.md (R475; R492 to R496; R498; R499); 15_zones_map_and_journal.md (R452; R468)) -/
def Obligations.reconstruction_and_rebuild : Prop :=
  (∀ (s : State) (p k st m : Nat) (r : Recon) (rs : List Recon), s.live = true → s.tier.recons.filter (fun x => x.pfn == p) = r :: rs → s.stripeOf p = some (k, st, m) → (s.restoreStripe k st).isSome = true →
    ∃ v : State, exec (.reconstructionComplete p) s =
        .next ((v.frameRestored p ((((s.restoreStripe k st).getD [])[((s.memberPfns k st).findIdx? (· == p)).getD 0]?).getD ⟨0, 0, 0, []⟩).slots).standbyStep) ∧
      v.fld PX_DEGRD.SINGLE = (if s.lostCount k st < 2 then Nat.min (s.fld PX_DEGRD.SINGLE + 1) (Fld.max PX_DEGRD.SINGLE) else s.fld PX_DEGRD.SINGLE) ∧
      v.fld PX_DEGRD.DOUBLE = (if s.lostCount k st < 2 then s.fld PX_DEGRD.DOUBLE else Nat.min (s.fld PX_DEGRD.DOUBLE + 1) (Fld.max PX_DEGRD.DOUBLE)) ∧
      OnlyParts [.regs, .tickMem, .map, .tier] s v) ∧
  (∀ (s : State) (r : Rebuild) (rest : List Rebuild), s.live = true → s.tier.rebuilds = r :: rest → s.mapReady = true → s.bit PX_STAT.PAUSED = false → s.bothServing = true → s.pickRebuild r = none →
    s.membersLeft r.surf = 0 → s.tier.reloc.all (fun e => e.surf != r.surf) = true →
    ∃ t, exec .rebuildStripe s = .next t ∧ t.tier.rebuilds = rest ∧ t.fld PX_RBLEFT.MEMBERS = 0 ∧ t.bit PX_STAT.REBUILD = !rest.isEmpty ∧ OnlyParts [.regs, .tickMem, .tier] s t) ∧
  (∀ (s : State) (r : Rebuild) (rest : List Rebuild) (k st : Nat), s.live = true → s.tier.rebuilds = r :: rest → s.mapReady = true → s.bit PX_STAT.PAUSED = false → s.bothServing = true →
    s.pickRebuild r = some (k, st) → (s.restoreStripe k st).isSome = true → r.copy = false →
    (s.relocateLost k st ((s.restoreStripe k st).getD [])).tier.reloc.length = s.tier.reloc.length + 1 → (s.relocateLost k st ((s.restoreStripe k st).getD [])).map.moving.length = s.map.moving.length →
    ∃ t, exec .rebuildStripe s = .next t ∧ t.tier.rebuilds = { r with bs := k, st := st + 1 } :: rest ∧ t.tier.reloc.length = s.tier.reloc.length + 1 ∧
      t.fld PX_RBDONE.MEMBERS = (s.fld PX_RBDONE.MEMBERS + 1) % 2 ^ 32 ∧ t.fld PX_RBLEFT.MEMBERS = s.fld PX_RBLEFT.MEMBERS - 1 ∧
      (k ≠ r.bs → t.tier.queue = (s.relocateLost k st ((s.restoreStripe k st).getD [])).tier.queue ++ [.cursor r.surf k st]) ∧ OnlyParts [.regs, .tickMem, .map, .tier] s t) ∧
  (∀ (s : State) (r : Rebuild) (rest : List Rebuild), s.live = true → s.tier.rebuilds = r :: rest → s.bit PX_STAT.PAUSED = false →
    ∃ t, exec .rebuildCursorTimer s = .next t ∧ t.tier.queue = s.tier.queue ++ [.cursor r.surf r.bs r.st] ∧ OnlyParts [.tier] s t) ∧
  (∀ (s : State) (bad : List Nat) (seen : List (Nat × List Byte)), s.live = true → s.patrolNext = none → s.mapReady = true →
    ∃ t, exec (.patrolStripe bad seen) s = .next t ∧ t.bit PX_PATROL.ACTIVE = false ∧ OnlyParts [.regs, .tickMem] s t ∧ OnlyRegs [PX_PATROL.REG.addr] s t) ∧
  (∀ (s : State) (k st : Nat) (bad : List Nat), s.live = true → s.patrolNext = some (k, st) → s.mapReady = true → s.throttled = false → s.thermalDown = false → bad.all (fun m => decide ((s.memberPfns k st).length ≤ m)) = true →
    (s.memberPfns k st).all (fun p => (s.frame? p).isSome) = false →
    ∃ t, exec (.patrolStripe bad []) s = .next t ∧ t.bit PX_PATROL.ACTIVE = true ∧ t.fld PX_PATROL.BANDSET = k % 2 ^ 31 ∧ t.tier.patrolSt = st + 1 ∧
      t.tier.queue = s.tier.queue ++ (if k = s.fld PX_PATROL.BANDSET then [] else [.cursor 0xFF k st]) ∧ t.map = s.map ∧ OnlyParts [.regs, .tickMem, .tier] s t) ∧
  (∀ (s : State) (ha hb : Nat), s.live = true → s.mapReady = true → s.tier.rebuilds = [] → s.bit PL_STAT.REBUILD = false →
    ∃ t, exec (.mediaTimeInterval ha hb) s = .next t ∧ (∀ u < 5, SMap.get (fun _ => 0) t.tier.shares u = ((s.shareOut ha)[u]?).getD 0 ∧ SMap.get (fun _ => 0) t.tier.shares (8 + u) = ((s.shareOut hb)[u]?).getD 0) ∧
      t.bit MP_STAT.PACED = decide ((s.driveSets.filter (fun k => (s.bandSet k).st == .empty)).length * 200 < s.policy 4 1 * s.driveSets.length) ∧
      (t.bit MP_STAT.PACED = false → t.map.credit = 0) ∧ OnlyParts [.regs, .tickMem, .map, .tier] s t) ∧
  (∀ (s : State) (h : Nat), s.policy 1 1 + s.policy 2 1 ≤ 90 → (s.shareOut h).foldl (· + ·) 0 = 1000)

/-- Whatever two members of a stripe are lost, the rest restore them. With P and Q computed over the data members as the stripe has them, one lost data member follows from P alone or from Q alone, and two lost data members follow from both: the restored members are the ones that were written. (16_local_redundancy.md (R474; R475)) -/
def Obligations.a_stripe_restores_its_lost_members : Prop :=
  (∀ (len : Nat) (ds : List (List Byte)) (x y : Nat), (∀ d ∈ ds, d.length = len) → ds.length ≤ 28 → x < ds.length → y < ds.length →
    restoreData len ds.length (fun j => if j = x then none else ds[j]?) (some (parityP len ds)) none = some ds ∧
    restoreData len ds.length (fun j => if j = x then none else ds[j]?) none (some (parityQ len ds)) = some ds ∧
    restoreData len ds.length (fun j => if j = x ∨ j = y then none else ds[j]?) (some (parityP len ds)) (some (parityQ len ds)) = some ds)

/-- Pool frames in general, pool time and the network. A frame for another generation of this device is counted and answered STALE and nothing else; a frame of this device that comes back STALE is kept to be sent again; a device that is no pool member, or whose pool domain does not serve, leaves a frame unprocessed. A PTP message sets the offset and the lock, its loss begins holdover; the PPS pin pulses each second of pool time; hardware timestamps move with the links; neighbour discovery, echo and multicast queries are answered; a dropped datagram is counted. Completion: HELLO, PCOPY, LEADER, ROSTER, ACK, PUPD, QUPD, UPDACK, PSTATE, PRELEASE, CREAD, ROLL_CALL_SLOT, ROLL_CALL_CLOSE, HEARTBEAT_TIMER, PTP_MESSAGE, ANNOUNCE_TIMEOUT, PPS_SECOND, ETHERNET_LINK_CHANGE, NEIGHBOR_DISCOVERY, ICMPV6_ECHO_REQUEST, MLD_QUERY, EWERID_DATAGRAM_DROPPED each answer a next state, under the premises of its clause on the state and operands alone. (17_ewerid_pool.md (R510; R524; R532; R502 to R506; R512)) -/
def Obligations.pool_network : Prop :=
  (∀ (s : State) (h : EwHdr) (i : List Byte) (id : Option Nat) (role : Nat), s.live = true → s.poolOn = true → (h.reply && h.status == 1) = false → h.dstGen ≠ 0 → h.dstGen ≠ s.plGen →
    ∃ t, exec (.hello h i id role) s = .next t ∧ t.pool.out = s.pool.out ++ [s.ewAnswer h 0x01 1 []] ∧ t.fld PL_RX.STALE = Nat.min (s.fld PL_RX.STALE + 1) (Fld.max PL_RX.STALE) ∧
      t.pool.members = s.pool.members ∧ t.pool.hellos = s.pool.hellos ∧ OnlyParts [.regs, .tickMem, .pool] s t ∧ OnlyRegs [PL_RX.REG.addr] s t) ∧
  (∀ (s : State) (h : EwHdr) (i d : List Byte), s.live = true → s.poolOn = true → (h.reply && h.status == 1) = false → h.dstGen ≠ 0 → h.dstGen ≠ s.plGen →
    ∃ t, exec (.pcopy h i d) s = .next t ∧ t.pool.out = s.pool.out ++ [s.ewAnswer h 0x13 1 []] ∧ t.pool.retained = s.pool.retained ∧ OnlyParts [.regs, .tickMem, .pool] s t) ∧
  (∀ (s : State) (h : EwHdr) (i : List Byte) (id : Option Nat) (role : Nat) (g : EwFrame), s.live = true → s.poolOn = true → h.reply = true → h.status = 1 → s.staleOf h 1 = some g →
    ∃ t, exec (.hello h i id role) s = .next t ∧ t.pool.stale = s.pool.stale ++ [g] ∧ t.pool.hellos = s.pool.hellos ∧ t.pool.out = s.pool.out ∧ OnlyParts [.pool] s t) ∧
  (∀ (s : State) (h : EwHdr) (i : List Byte) (id : Option Nat) (role n : Nat) (es : List (List Byte × Nat × Nat × Nat)) (c : EwCell) (a b w : Nat) (d : List Byte) (l : List Nat), s.live = true → s.poolOn = false →
    exec (.hello h i id role) s = .next s ∧ exec (.leader h n) s = .next s ∧ exec (.roster h es) s = .next s ∧ exec (.ack h) s = .next s ∧ exec (.pupd h c a b w d) s = .next s ∧
      exec (.qupd h c a b w d) s = .next s ∧ exec (.updack h c) s = .next s ∧ exec (.pstate h c a b) s = .next s ∧ exec (.pcopy h i d) s = .next s ∧ exec (.prelease h l) s = .next s ∧
      exec (.cread h c a) s = .next s ∧ exec .rollCallSlot s = .next s ∧ exec .rollCallClose s = .next s ∧ exec .heartbeatTimer s = .next s) ∧
  (∀ (s : State) (port : Nat) (toff err : Int), s.live = true → s.poolOn = true → port = s.ptpPort →
    ∃ t, exec (.ptpMessage port toff err) s = .next t ∧ t.pool.toff = toff ∧ t.bit PL_PTP.LOCKED = decide (err.natAbs ≤ 1000) ∧ t.fld PL_PTP.ABSOFF = Nat.min 0xFFFF err.natAbs ∧
      t.bit PL_STAT.HOLDOVER = false ∧ OnlyParts [.regs, .tickMem, .pool] s t ∧ OnlyRegs [PL_PTP.REG.addr, PL_STAT.REG.addr, PL_TOFF_LO.OFFSET.addr] s t) ∧
  (∀ (s : State), s.live = true → s.poolOn = true → ∃ t, exec .announceTimeout s = .next t ∧ t.bit PL_PTP.LOCKED = false ∧ t.bit PL_STAT.HOLDOVER = true ∧ OnlyParts [.regs, .tickMem] s t ∧ OnlyRegs [PL_PTP.REG.addr, PL_STAT.REG.addr] s t) ∧
  (∀ (s : State), s.live = true → s.bit PL_PTP.LOCKED = true ∨ s.bit PL_STAT.HOLDOVER = true → ∃ t, exec .ppsSecond s = .next t ∧ t.pins.etPps = s.pins.etPps + 1 ∧ OnlyParts [.pins] s t) ∧
  (∀ (s : State) (port : Nat) (up : Bool), s.live = true → port < 2 →
    ∃ t, exec (.ethernetLinkChange port up) s = .next t ∧ (if port = 0 then t.bit PL_STAT.LINK0 else t.bit PL_STAT.LINK1) = up ∧
      (if port = 0 then t.bit PL_STAT.LINK1 = s.bit PL_STAT.LINK1 else t.bit PL_STAT.LINK0 = s.bit PL_STAT.LINK0) ∧
      t.fld PL_PTP.PORT = (if t.bit PL_STAT.LINK0 then 0 else if t.bit PL_STAT.LINK1 then 1 else s.fld PL_PTP.PORT) ∧ OnlyParts [.regs, .tickMem] s t ∧ OnlyRegs [PL_PTP.REG.addr, PL_STAT.REG.addr] s t) ∧
  (∀ (s : State) (port : Nat), s.live = true → s.poolOn = true →
    ∃ t, exec (.neighborDiscovery port) s = .next t ∧ t.pool.out = s.pool.out ++ [.neighbor port] ∧ OnlyParts [.pool] s t) ∧
  (∀ (s : State) (port : Nat), s.live = true → s.poolOn = true →
    ∃ t, exec (.icmpv6EchoRequest port) s = .next t ∧ t.pool.out = s.pool.out ++ [.echo port] ∧ OnlyParts [.pool] s t) ∧
  (∀ (s : State) (port : Nat), s.live = true → s.poolOn = true →
    ∃ t, exec (.mldQuery port) s = .next t ∧ t.pool.out = s.pool.out ++ [.mldReport port (s.myShard :: (if s.plLeads then [0xFFFF] else []))] ∧ OnlyParts [.pool] s t) ∧
  (∀ (s : State), s.live = true → s.isServing .DP = true →
    ∃ t, exec .eweridDatagramDropped s = .next t ∧ t.fld PL_RX.DROP = Nat.min (s.fld PL_RX.DROP + 1) (Fld.max PL_RX.DROP) ∧ OnlyParts [.regs, .tickMem] s t ∧ OnlyRegs [PL_RX.REG.addr] s t)

/-- Roll call, election and layout. In roll call a HELLO is collected and this member sends its own on both ports; the close of roll call begins the election, the leader-elect claiming and listing its members; a leader's claim is acknowledged and ends the election of its shard; a roster is collected; a layout part is acknowledged and the whole one adopted; acknowledgements of a majority make the claimant leader; a phase bound repeats the phase once and then alerts. Completion: HELLO, ROLL_CALL_SLOT, ROLL_CALL_CLOSE, LEADER, ROSTER, LAYOUT, ACK, PHASE_BOUND_EXPIRY each answer a next state, under the premises of its clause on the state and operands alone. (17_ewerid_pool.md (R507 to R509; R512; R530; R532)) -/
def Obligations.pool_start : Prop :=
  (∀ (s : State) (h : EwHdr) (i : List Byte) (id : Option Nat) (role : Nat), s.live = true → s.ewTakes h = true → id ≠ some s.plId →
    ∃ t, exec (.hello h i id role) s = .next t ∧ t.pool.hellos = s.pool.hellos.filter (fun x => x.ident != i) ++ [⟨i, id, role⟩] ∧ t.pool.members = (s.ewHeard h).pool.members ∧ OnlyParts [.pool] s t) ∧
  (∀ (s : State), s.live = true → s.poolOn = true → s.plState = plRollCall → s.pool.slot.isSome = true →
    ∃ t, exec .rollCallSlot s = .next t ∧ t.pool.out = s.pool.out ++ [0, 1].map (fun p => .ewerid ⟨p, 0x01, 0, s.myShard, 0, 0, true, false, 0, s.plId, s.plGen, s.fld PL_EPOCH.EPOCH, s.helloBody⟩) ∧ t.pool.slot = none ∧ OnlyParts [.pool] s t) ∧
  (∀ (s : State), s.live = true → s.poolOn = true → s.plState = plRollCall → s.leaderElect = false →
    ∃ t, exec .rollCallClose s = .next t ∧ t.plState = plElecting ∧ t.pool.repeated = false ∧ t.pool.claim = s.pool.claim ∧ t.pool.out = s.pool.out ∧ OnlyParts [.regs, .tickMem, .pool] s t ∧
      OnlyRegs [PL_STAT.REG.addr] s t) ∧
  (∀ (s : State), s.live = true → s.poolOn = true → s.plState = plRollCall → s.leaderElect = true →
    ∃ t, exec .rollCallClose s = .next t ∧ t.plState = plElecting ∧ t.pool.claim = some ((s.pool.xid + 1) % 2 ^ 32) ∧ t.pool.votes = [] ∧
      t.pool.out = s.pool.out ++ s.bothGroups.map (fun y => .ewerid ⟨y.1, 0x03, 0, y.2, 0, (s.pool.xid + 1) % 2 ^ 32, true, false, 0, s.plId, s.plGen, s.fld PL_EPOCH.EPOCH,
        leBytes 1 s.myShard ++ zeros 3 ++ slice (sha256 (s.layoutIds.flatMap (fun i => leBytes 2 i))) 0 32⟩) ++
        s.bothGroups.map (fun y => .ewerid ⟨y.1, 0x02, 0, y.2, 0, 0, true, false, 0, s.plId, s.plGen, s.fld PL_EPOCH.EPOCH, s.rosterBody⟩) ∧ OnlyParts [.regs, .tickMem, .pool] s t ∧
      OnlyRegs [PL_STAT.REG.addr] s t) ∧
  (∀ (s : State) (h : EwHdr) (shard : Nat), s.live = true → s.ewTakes h = true →
    ∃ t, exec (.leader h shard) s = .next t ∧ t.pool.leaders = s.pool.leaders.filter (fun x => x.1 != shard) ++ [(shard, h.src)] ∧ t.pool.out.getLast? = some (t.ewAnswer h 0x05 0 []) ∧
      (t.fld PL_STAT.ROLE = s.fld PL_STAT.ROLE → t.pool.out = s.pool.out ++ [s.ewAnswer h 0x05 0 []] ∧ t.plGen = s.plGen) ∧
      (t.fld PL_STAT.ROLE ≠ s.fld PL_STAT.ROLE → t.plGen = (s.plGen + 1) % 2 ^ 16) ∧
      (shard = s.myShard → s.plState = plElecting → t.plState = plAgreeing ∧ t.pool.claim = none) ∧ (s.plState ≠ plElecting → t.plState = s.plState) ∧ OnlyParts [.regs, .tickMem, .pool] s t) ∧
  (∀ (s : State) (h : EwHdr) (es : List (List Byte × Nat × Nat × Nat)), s.live = true → s.ewTakes h = true → s.pool.hasId = true → s.fld PL_STAT.ROLE ≠ 2 →
    ∃ t, exec (.roster h es) s = .next t ∧ t.pool.rosters = s.pool.rosters.filter (fun r => r.1 != h.src) ++ [(h.src, es.map (fun e => ⟨e.1, if e.2.1 = 0 then none else some e.2.1, 0⟩))] ∧
      t.pool.members.map (fun m => (m.id, m.failed)) = s.pool.members.map (fun m => (m.id, m.failed)) ∧ t.plState = s.plState ∧ OnlyParts [.pool] s t) ∧
  (∀ (s : State) (h : EwHdr) (ep part np : Nat) (ids : List (Nat × Bool)), s.live = true → s.ewTakes h = true → s.pool.partEpoch = ep →
    ((List.range np).all (fun k => k == part || s.pool.parts.any (fun x => x.1 == k))) = false →
    ∃ t, exec (.layout h ep part np ids) s = .next t ∧ t.pool.parts = s.pool.parts.filter (fun x => x.1 != part) ++ [(part, ids)] ∧ t.pool.out = s.pool.out ++ [s.ewAnswer h 0x05 0 []] ∧
      t.pool.members.map (fun m => (m.id, m.failed)) = s.pool.members.map (fun m => (m.id, m.failed)) ∧ OnlyParts [.pool] s t) ∧
  (∀ (s : State) (h : EwHdr) (ep : Nat) (ids : List (Nat × Bool)), s.live = true → s.ewTakes h = true → s.pool.partEpoch = ep → s.pool.parts = [] →
    ∃ t, exec (.layout h ep 0 1 ids) s = .next t ∧ t.pool.members.map (fun m => (m.id, m.failed)) = ids.map (fun x => (x.1, s.fld PL_EPOCH.EPOCH == ep && s.memberFailed x.1)) ∧
      t.fld PL_EPOCH.EPOCH = ep % 2 ^ 32 ∧ t.fld PL_NMEMB.COUNT = ids.length % 2 ^ 16 ∧ OnlyParts [.regs, .tickMem, .tier, .pool] s t) ∧
  (∀ (s : State) (h : EwHdr) (ep : Nat) (ids sts : List (Nat × Bool)), s.live = true → s.ewTakes h = true → s.pool.partEpoch = ep → s.pool.parts = [(0, ids)] → sts.length = ids.length → ids.length ≤ 2048 →
    ∃ t, exec (.layout h ep 1 1 sts) s = .next t ∧ t.pool.members.map (fun m => (m.id, m.failed)) = (ids.zip sts).map (fun x => (x.1.1, x.2.2)) ∧
      t.fld PL_NFAIL.COUNT = (sts.filter (fun x => x.2)).length % 2 ^ 16 ∧ OnlyParts [.regs, .tickMem, .tier, .pool] s t) ∧
  (∀ (s : State) (h : EwHdr), s.live = true → s.ewTakes h = true → s.pool.claim = some h.xid → h.src ∉ s.pool.votes → 2 * (s.pool.votes.length + 1) ≤ s.pool.hellos.length →
    ∃ t, exec (.ack h) s = .next t ∧ t.pool.votes = s.pool.votes ++ [h.src] ∧ t.pool.claim = s.pool.claim ∧ t.plState = s.plState ∧ OnlyParts [.pool] s t) ∧
  (∀ (s : State) (h : EwHdr), s.live = true → s.ewTakes h = true → s.pool.claim = some h.xid → h.src ∉ s.pool.votes → s.pool.hellos.length < 2 * (s.pool.votes.length + 1) → s.plState = plElecting → s.pool.hasId = true → s.poolCfg 8 1 = 0 →
    ∃ t, exec (.ack h) s = .next t ∧ t.pool.claim = none ∧ t.pool.leaders = s.pool.leaders.filter (fun x => x.1 != s.myShard) ++ [(s.myShard, s.plId)] ∧ t.fld PL_STAT.ROLE ≠ 0 ∧ t.plGen = (if t.fld PL_STAT.ROLE = s.fld PL_STAT.ROLE then s.plGen else (s.plGen + 1) % 2 ^ 16) ∧
      OnlyParts [.regs, .tickMem, .tier, .pool] s t) ∧
  (∀ (s : State), s.live = true → s.poolOn = true → s.plState = plElecting →
    ∃ t, exec .phaseBoundExpiry s = .next t ∧ t.plState = plElecting ∧ t.pool.repeated = true ∧ (s.pool.repeated = true → t.bit FB_ALERT.POOL = true) ∧
      (s.pool.repeated = false → t.pool.claim = none ∧ t.pool.votes = [] ∧ t.bit FB_ALERT.POOL = s.bit FB_ALERT.POOL) ∧ OnlyParts [.regs, .tickMem, .sil, .pool] s t)

/-- Heartbeats, silence and failed members. A heartbeat tells the member's state and generation; every 500 ms this member sends its own; a silent leader is replaced; a leader probes a silent member and, after the probe's time, announces it failed; a FAILNOTE marks the member, and one about this device isolates it; LEAVE suspends detection for its time and ten seconds. Completion: HEARTBEAT, HEARTBEAT_TIMER, MEMBER_SILENT, PROBE_TIMEOUT, FAILNOTE, LEAVE each answer a next state, under the premises of its clause on the state and operands alone. (17_ewerid_pool.md (R512; R519; R524; R529; R531)) -/
def Obligations.pool_failures : Prop :=
  (∀ (s : State) (h : EwHdr) (st : Nat) (roles : List (Nat × Nat)), s.live = true → s.ewTakes h = true → st ≠ plServing ∨ s.memberFailed h.src = false →
    ∃ t, exec (.heartbeat h st roles) s = .next t ∧ t.pool.members = s.pool.members.map (fun m =>
        (fun (x : PoolMember) => match roles.find? (fun r => r.1 == m.id) with | some r => { x with gen := r.2 } | none => x)
          (if m.id = h.src then { m with heard := some s.tick, state := st, gen := h.srcGen } else m)) ∧
      OnlyParts [.regs, .tickMem, .pool] s t ∧ OnlyRegs [PL_START.REG.addr] s t) ∧
  (∀ (s : State) (h : EwHdr) (roles : List (Nat × Nat)), s.live = true → s.ewTakes h = true → s.memberFailed h.src = true →
    ∃ t, exec (.heartbeat h plServing roles) s = .next t ∧ t.memberFailed h.src = false ∧ t.bit PL_STAT.SPAREOUT = false ∧
      t.pool.spare = s.pool.spare.filter (fun x => (s.posIn? (keyGroup x.1) h.src).isNone) ∧ OnlyParts [.regs, .tickMem, .pool] s t) ∧
  (∀ (s : State), s.live = true → s.poolOn = true → plReconciling ≤ s.plState → s.plState ≤ plStandby → s.fld PL_STAT.ROLE = 0 →
    ∃ t, exec .heartbeatTimer s = .next t ∧ t.pool.out = s.pool.out ++ [0, 1].map (fun p => .ewerid ⟨p, 0x06, s.fld PL_LEADER.SHARD, 0, s.genOf (s.fld PL_LEADER.SHARD), 0, false, false, 0, s.plId, s.plGen, s.fld PL_EPOCH.EPOCH,
        leBytes 8 s.poolTime ++ leBytes 1 s.plState ++ zeros 7⟩) ∧ OnlyParts [.pool] s t) ∧
  (∀ (s : State) (id : Nat) (m : PoolMember), s.live = true → s.pool.members.find? (fun m => m.id == id) = some m → s.poolOn = true → m.failed = false → id ≠ s.plId → m.away ≤ s.tick → m.heard.isSome = true ∨ secTicks 300 ≤ s.tick →
    id = s.fld PL_LEADER.SHARD → shardOf id = s.myShard →
    ∃ t, exec (.memberSilent id) s = .next t ∧ t.plState = plElecting ∧ t.pool.claim = none ∧ t.pool.votes = [] ∧ t.pool.leaders = s.pool.leaders.filter (fun x => x.1 != s.myShard) ∧ OnlyParts [.regs, .tickMem, .pool] s t) ∧
  (∀ (s : State) (id : Nat) (m : PoolMember), s.live = true → s.pool.members.find? (fun m => m.id == id) = some m → s.poolOn = true → m.failed = false → id ≠ s.plId → m.away ≤ s.tick → m.heard.isSome = true ∨ secTicks 300 ≤ s.tick →
    id ≠ s.fld PL_LEADER.SHARD → id ≠ s.fld PL_LEADER.HEAD → s.plLeads = true → shardOf id = s.myShard →
    ∃ t, exec (.memberSilent id) s = .next t ∧ t.pool.probing.contains id = true ∧ t.pool.members = s.pool.members ∧
      t.pool.out = s.pool.out ++ [.ewerid ⟨s.plPort id, 0x06, id, 0, s.genOf id, 0, false, false, 0, s.plId, s.plGen, s.fld PL_EPOCH.EPOCH, leBytes 8 s.poolTime ++ leBytes 1 s.plState ++ zeros 7⟩] ∧ OnlyParts [.pool] s t) ∧
  (∀ (s : State) (id : Nat), s.live = true → s.poolOn = true → s.pool.probing.contains id = true → id ≠ s.plId → s.memberFailed id = false → s.pool.held = [] →
    ∃ t, exec (.probeTimeout id) s = .next t ∧ t.pool.members = s.pool.members.map (fun m => if m.id = id then { m with failed := true, gen := s.genOf id + 1 } else m) ∧ t.pool.probing = s.pool.probing.filter (· != id) ∧
      t.pool.out = s.pool.out ++ s.bothGroups.map (fun y => .ewerid ⟨y.1, 0x07, 0, y.2, 0, 0, true, false, 0, s.plId, s.plGen, s.fld PL_EPOCH.EPOCH, failnoteBody id (s.genOf id + 1) 1⟩) ∧ OnlyParts [.regs, .tickMem, .sil, .pool] s t) ∧
  (∀ (s : State) (h : EwHdr) (id g cause : Nat), s.live = true → s.ewTakes h = true → id ≠ s.plId → s.memberFailed id = false → s.pool.held = [] →
    ∃ t, exec (.failnote h id g cause) s = .next t ∧ t.pool.members = (s.ewHeard h).pool.members.map (fun m => if m.id = id then { m with failed := true, gen := g } else m) ∧ t.pool.out = s.pool.out ∧
      t.fld PL_NFAIL.COUNT = (t.pool.members.filter (fun m => m.failed)).length % 2 ^ 16 ∧ OnlyParts [.regs, .tickMem, .sil, .pool] s t) ∧
  (∀ (s : State) (h : EwHdr) (id g cause : Nat), s.live = true → s.ewTakes h = true → id = s.plId → s.plState = plServing → s.pool.pairs = [] →
    ∃ t, exec (.failnote h id g cause) s = .next t ∧ t.plState = plIsolated ∧ t.plGen = g % 2 ^ 16 ∧ t.pool.members = (s.ewHeard h).pool.members ∧ OnlyParts [.regs, .tickMem, .pool] s t) ∧
  (∀ (s : State) (h : EwHdr) (ret : Nat), s.live = true → s.ewTakes h = true → ret ≠ 0 →
    ∃ t, exec (.leave h ret) s = .next t ∧ t.pool.members = s.pool.members.map (fun m => if m.id = h.src then { m with heard := some s.tick, away := s.tick + secTicks (ret + 10) } else m) ∧ OnlyParts [.pool] s t)

/-- Parity contributions and partner copies. The holder of P takes a half into its parity once and queues its record; the holder of Q takes the half times its coefficient once and acknowledges it every time; the second acknowledgement completes a held contribution and an open one; an unanswered one is sent again and, the third time, the leader asked; a state query is answered; a partner copy is kept, acknowledged and released; without an answer what waits completes unpaired. Completion: PUPD, QUPD, UPDACK, UPDACK_TIMEOUT, PSTATE, PCOPY, PRELEASE, PARTNER_TIMEOUT each answer a next state, under the premises of its clause on the state and operands alone. (17_ewerid_pool.md (R513; R517; R519; R520; R523)) -/
def Obligations.pool_contributions : Prop :=
  (∀ (s : State) (h : EwHdr) (c : EwCell) (pos op wseq : Nat) (d : List Byte), s.live = true → s.ewTakes h = true → s.holder c.group s.pdata = some s.plId →
    s.pool.held.any (fun y => y.c.same ⟨c.group, c.row, c.cell, op, 0⟩ && y.writer == h.src && y.wseq == wseq) = false →
    ∃ t, exec (.pupd h c pos op wseq d) s = .next t ∧
      t.pool.parity = SMap.modify (fun _ => []) s.pool.parity (cellKey c.group c.row c.cell c.half) (fun o => xorBytes (orZero o) (slice d 0 8192)) ∧
      t.pool.held = s.pool.held ++ [⟨⟨c.group, c.row, c.cell, op, 0⟩, h.src, pos, wseq, [(c.half, slice d 0 8192)], false, [], h.xid, 0⟩] ∧
      t.tier.queue = s.tier.queue ++ [.held ⟨c.group, c.row, c.cell, op, 0⟩ h.src 1 wseq] ∧ t.pool.parityQ = s.pool.parityQ ∧ OnlyParts [.tier, .pool] s t) ∧
  (∀ (s : State) (h : EwHdr) (c : EwCell) (pos op wseq : Nat) (d : List Byte) (y : HeldC), s.live = true → s.ewTakes h = true → s.holder c.group s.pdata = some s.plId →
    s.pool.held.find? (fun y => y.c.same ⟨c.group, c.row, c.cell, op, 0⟩ && y.writer == h.src && y.wseq == wseq) = some y → y.halves.any (fun z => z.1 == c.half) = true → y.durable = false →
    exec (.pupd h c pos op wseq d) s = .next (s.ewHeard h)) ∧
  (∀ (s : State) (h : EwHdr) (c : EwCell) (pos op wseq : Nat) (d : List Byte), s.live = true → s.ewTakes h = true → s.holder c.group (s.pdata + 1) = some s.plId →
    ∃ t, exec (.qupd h c pos op wseq d) s = .next t ∧ t.pool.out = s.pool.out ++ [s.ewAnswer h 0x12 0 (ackBody ⟨c.group, c.row, c.cell, op, 0⟩ c.half)] ∧
      t.pool.qdone.contains (h.src, wseq, c.group, c.row, c.cell * 2 + op, c.half) = true ∧
      t.pool.parityQ = (if s.pool.qdone.contains (h.src, wseq, c.group, c.row, c.cell * 2 + op, c.half) = true then s.pool.parityQ else
        SMap.modify (fun _ => []) s.pool.parityQ (cellKey c.group c.row c.cell c.half) (fun o => xorBytes (orZero o) (gfScale (gfPow pos) (slice d 0 8192)))) ∧
      t.pool.parity = s.pool.parity ∧ OnlyParts [.pool] s t) ∧
  (∀ (s : State) (h : EwHdr) (c : EwCell) (y : HeldC), s.live = true → s.ewTakes h = true →
    s.pool.held.find? (fun y => y.durable && y.xidOut == h.xid && y.c.group == c.group && y.c.row == c.row && y.c.cell == c.cell) = some y → y.acks.length = 1 → y.acks.contains c.half = false →
    ∃ t, exec (.updack h c) s = .next t ∧ t.pool.held = s.pool.held.filter (fun z => !(z == y)) ∧ t.tier.queue = s.tier.queue ++ [.held y.c y.writer 2 y.wseq] ∧ t.pool.out.length = s.pool.out.length + 2 ∧
      OnlyParts [.regs, .tickMem, .tier, .pool] s t) ∧
  (∀ (s : State) (h : EwHdr) (c : EwCell) (o : OpenC), s.live = true → s.ewTakes h = true → s.pool.held = [] →
    s.pool.opens.find? (fun o => o.xid == h.xid && o.c.group == c.group && o.c.row == c.row && o.c.cell == c.cell) = some o → o.acks = [] →
    ∃ t, exec (.updack h c) s = .next t ∧ t.pool.opens = s.pool.opens.map (fun q => if q = o then { q with acks := [c.half] } else q) ∧ t.pool.done = s.pool.done ∧ OnlyParts [.pool] s t) ∧
  (∀ (s : State) (h : EwHdr) (c : EwCell) (o : OpenC), s.live = true → s.ewTakes h = true → s.pool.held = [] → s.pool.waiting = [] → s.pool.mine = [] →
    s.pool.opens.find? (fun o => o.xid == h.xid && o.c.group == c.group && o.c.row == c.row && o.c.cell == c.cell) = some o → o.acks.length = 1 → o.acks.contains c.half = false →
    ∃ t, exec (.updack h c) s = .next t ∧ t.pool.opens = s.pool.opens.filter (fun q => !(q == o)) ∧ t.pool.done = (if o.c.op = 0 then s.pool.done ++ [o.c.pfn] else s.pool.done.filter (· != o.c.pfn)) ∧
      t.tier.queue = s.tier.queue ++ [.contribDone o.c] ∧ OnlyParts [.regs, .tickMem, .tier, .pool] s t) ∧
  (∀ (s : State) (g r c op : Nat) (o : OpenC), s.live = true → s.pool.opens.find? (fun o => o.c.group == g && o.c.row == r && o.c.cell == c && o.c.op == op) = some o → s.poolOn = true → 2 ≤ o.tries →
    ∃ t, exec (.updackTimeout g r c op) s = .next t ∧ t.pool.opens = s.pool.opens.map (fun q => if q = o then { o with tries := o.tries + 1 } else q) ∧
      t.pool.out = s.pool.out ++ [.ewerid ⟨s.plPort (s.fld PL_LEADER.SHARD), 0x22, s.fld PL_LEADER.SHARD, 0, s.genOf (s.fld PL_LEADER.SHARD), o.xid, false, false, 0, s.plId, s.plGen, s.fld PL_EPOCH.EPOCH,
        leBytes 4 g ++ leBytes 4 r ++ leBytes 1 c ++ zeros 3 ++ leBytes 8 o.seq⟩] ∧ OnlyParts [.pool] s t) ∧
  (∀ (s : State) (g r c op : Nat) (o : OpenC), s.live = true → s.pool.opens.find? (fun o => o.c.group == g && o.c.row == r && o.c.cell == c && o.c.op == op) = some o → s.poolOn = true → o.tries < 2 →
    ∃ u : State, exec (.updackTimeout g r c op) s = .next (u.resendPupd { o with tries := o.tries + 1 }) ∧ u.pool.opens = s.pool.opens.map (fun q => if q = o then { o with tries := o.tries + 1 } else q) ∧ OnlyParts [.pool] s u) ∧
  (∀ (s : State) (h : EwHdr) (c : EwCell) (wseq st : Nat), s.live = true → s.ewTakes h = true → h.reply = false → s.pool.held = [] →
    (s.tier.sj.all (fun r => match r.body with | .held _ _ _ _ => false | _ => true)) = true →
    ∃ t, exec (.pstate h c wseq st) s = .next t ∧ t.pool.out = s.pool.out ++ [s.ewAnswer h 0x22 0 (leBytes 4 c.group ++ leBytes 4 c.row ++ leBytes 1 c.cell ++ zeros 3 ++ leBytes 8 wseq ++ leBytes 1 0)] ∧
      OnlyParts [.pool] s t) ∧
  (∀ (s : State) (h : EwHdr) (r d : List Byte), s.live = true → s.ewTakes h = true →
    ∃ t, exec (.pcopy h r d) s = .next t ∧ t.pool.retained = s.pool.retained ++ [(if s.bit PL_STAT.ADOPT && (s.ewHeard h).partner == some h.src then s.plId else h.src, slice r 0 64, d)] ∧ t.pool.out = s.pool.out ++ [s.ewAnswer h 0x05 0 []] ∧ OnlyParts [.pool] s t) ∧
  (∀ (s : State) (h : EwHdr) (seqs : List Nat), s.live = true → s.ewTakes h = true →
    ∃ t, exec (.prelease h seqs) s = .next t ∧ t.pool.retained = s.pool.retained.filter (fun x => !(x.1 == h.src && seqs.contains (leAt x.2.1 8 8))) ∧ t.pool.out = s.pool.out ∧ OnlyParts [.pool] s t) ∧
  (∀ (s : State), s.live = true → s.pool.pairs ≠ [] → s.pool.pairs.all (fun w => w.owner.isNone) = true → s.featPool = true →
    ∃ t, exec .partnerTimeout s = .next t ∧ t.pool.pairs = [] ∧ t.bit PL_STAT.UNPAIRED = true ∧ OnlyParts [.regs, .tickMem, .sil, .pool] s t)

/-- Cell reads and the rebuild of a row. A cell read is answered with what the position holds here, or with its loss; a substitute reads the other positions of a row for a failed member; the last answer but one completes a read, and what is solved is kept. Completion: CREAD, CDATA, POOL_REBUILD_ROW each answer a next state, under the premises of its clause on the state and operands alone. (17_ewerid_pool.md (R514; R525; R527 to R529)) -/
def Obligations.pool_cell_reads : Prop :=
  (∀ (s : State) (h : EwHdr) (c : EwCell) (pos : Nat), s.live = true → s.ewTakes h = true →
    ∃ t, exec (.cread h c pos) s = .next t ∧ t.pool.out = s.pool.out ++ [s.ewAnswer h 0x21 0 (creadBody c.group c.row c.cell c.half pos ++
        leBytes 1 (if ((s.ewHeard h).cellHere c.group c.row c.cell c.half pos).isSome then 0 else 1) ++ zeros 3 ++ (((s.ewHeard h).cellHere c.group c.row c.cell c.half pos).getD cellZero))] ∧ OnlyParts [.pool] s t) ∧
  (∀ (s : State) (g r c hf : Nat), s.holder g s.pdata = some s.plId → SMap.get (fun _ => []) s.pool.parity (cellKey g r c hf) = [] → s.cellHere g r c hf s.pdata = some cellZero) ∧
  (∀ (s : State) (h : EwHdr) (c : EwCell) (pos : Nat) (d : List Byte) (x : CellRead), s.live = true → s.ewTakes h = true → s.power.standbyPending = false →
    s.pool.reads.find? (fun x => x.group == c.group && x.row == c.row && x.cell == c.cell && x.half == c.half && x.target != pos) = some x → x.purpose < 2 → x.got = [] → 3 ≤ s.poolW →
    ∃ t, exec (.cdata h c pos false d) s = .next t ∧ t.pool.reads = s.pool.reads.map (fun z => if z = x then { x with got := [(pos, some (slice d 0 8192))] } else z) ∧ t.pool.spare = s.pool.spare ∧ OnlyParts [.pool] s t) ∧
  (∀ (s : State) (h : EwHdr) (c : EwCell) (pos : Nat) (d : List Byte) (x : CellRead), s.live = true → s.ewTakes h = true → s.power.standbyPending = false →
    s.pool.reads.find? (fun x => x.group == c.group && x.row == c.row && x.cell == c.cell && x.half == c.half && x.target != pos) = some x → x.purpose = 2 →
    ∃ t, exec (.cdata h c pos false d) s = .next t ∧ SMap.get (fun _ => []) t.pool.adopted (cellKey x.group x.row x.cell x.half) = slice d 0 8192 ∧
      t.pool.out.length = s.pool.out.length + 1 ∧ OnlyParts [.pool] s t) ∧
  (∀ (s : State) (g r c f tg : Nat), s.live = true → s.pool.rebuildOf = some f → s.poolOn = true → s.substitute g = some s.plId → s.spareRoom g r = true → s.posIn? g f = some tg →
    ∃ t, exec (.poolRebuildRow g r c) s = .next t ∧ t.pool.reads = s.pool.reads ++ [⟨g, r, c, 0, tg, 0, 0, []⟩, ⟨g, r, c, 1, tg, 0, 0, []⟩] ∧ OnlyParts [.pool] s t) ∧
  (∀ (s : State) (g r c f : Nat), s.live = true → s.pool.rebuildOf = some f → s.poolOn = true → s.substitute g = some s.plId → s.spareRoom g r = false →
    ∃ t, exec (.poolRebuildRow g r c) s = .next t ∧ t.bit PL_STAT.SPAREOUT = true ∧ t.pool = s.pool ∧ OnlyParts [.regs, .tickMem] s t ∧ OnlyRegs [PL_STAT.REG.addr] s t)

/-- Enabling, doorbells, pushes, fetching and draining. Enabling a Disabled ring with a legal configuration starts it afresh; one that is not legal sets BADCFG; disabling drains it, at once where nothing is left; a push places its descriptors where nothing waits, else sets PUSHBUSY; a doorbell sets the tail, or BADDB past the ring's end, and a host error drains the ring; a fetched descriptor goes in flight, or ends with the status of what is wrong with it; after a second what remains of a draining ring is aborted. Completion: RING_ENABLE, RING_DISABLE, SR_PUSH, SR_DOORBELL, DESCRIPTOR_FETCH, RING_DRAIN_TIMEOUT each answer a next state, under the premises of its clause on the state and operands alone. (19_service_rings.md (R572 to R574; R579; R581; R583; R585 to R587)) -/
def Obligations.ring_states : Prop :=
  (∀ (s : State) (r : Nat) (w : Word32), s.live = true → r < 8 → s.bit FB_STAT.BASENOTE = false → s.fld (SR_STAT.STATE r) = rgDisabled →
    (inRange ((SR_CFG.SQLOG r).ofWord w) 4 16 && inRange ((SR_CFG.CQLOG r).ofWord w) 4 16 && (s.fld (SR_SQBASE_LO.ADDR r) + 2 ^ 32 * s.fld (SR_SQBASE_HI.ADDR r)) % 4096 == 0 &&
      (s.fld (SR_CQBASE_LO.ADDR r) + 2 ^ 32 * s.fld (SR_CQBASE_HI.ADDR r)) % 4096 == 0) = true →
    ∃ t, exec (.ringEnable r w) s = .next t ∧ t.fld (SR_STAT.STATE r) = rgEnabled ∧ t.bit (SR_CFG.EN r) = true ∧ (t.ring r).sqlog = (SR_CFG.SQLOG r).ofWord w ∧ (t.ring r).cqlog = (SR_CFG.CQLOG r).ofWord w ∧
      (t.ring r).sqHead = 0 ∧ (t.ring r).tail = 0 ∧ (t.ring r).cqTail = 0 ∧ (t.ring r).descs = (s.ring r).descs ∧ (t.ring r).held = [] ∧ (t.ring r).port = (SR_CFG.PORT r).ofWord w ∧
      (∀ k < 8, k ≠ r → t.ring k = s.ring k) ∧ OnlyParts [.regs, .tickMem, .rings] s t ∧ OnlyRegs [(SR_CFG.EN r).addr, (SR_STAT.STATE r).addr] s t) ∧
  (∀ (s : State) (r : Nat) (w : Word32), s.live = true → r < 8 → s.bit FB_STAT.BASENOTE = false → s.fld (SR_STAT.STATE r) = rgDisabled → inRange ((SR_CFG.SQLOG r).ofWord w) 4 16 = false →
    ∃ t, exec (.ringEnable r w) s = .next t ∧ t.bit SR_ERR.BADCFG = true ∧ t.fld (SR_STAT.STATE r) = rgDisabled ∧ OnlyParts [.regs, .tickMem, .rings] s t) ∧
  (∀ (s : State) (r : Nat) (w : Word32), s.live = true → r < 8 → s.bit FB_STAT.BASENOTE = false → s.fld (SR_STAT.STATE r) = rgEnabled →
    ∃ t, exec (.ringDisable r w) s = .next t ∧ t.bit (SR_CFG.EN r) = false ∧ (t.ring r).tail = (s.ring r).sqHead ∧ (t.ring r).pushed = [] ∧ (t.ring r).descs = (s.ring r).descs ∧
      t.fld (SR_STAT.STATE r) = (if (s.ring r).descs = [] ∧ (s.ring r).held = [] then rgDisabled else rgDraining) ∧ OnlyParts [.regs, .tickMem, .rings] s t) ∧
  (∀ (s : State) (r n : Nat), s.live = true → r < 8 → s.fld (SR_STAT.STATE r) = rgEnabled → 1 ≤ n → n ≤ 4 → (s.ring r).sqHead = (s.ring r).tail →
    ∃ t, exec (.srPush r n) s = .next t ∧ (t.ring r).tail = ((s.ring r).tail + n) % 2 ^ (s.ring r).sqlog ∧
      (t.ring r).pushed = (List.range n).map (fun k => (((s.ring r).tail + k) % 2 ^ (s.ring r).sqlog, s.pushWords r k)) ∧ OnlyParts [.rings] s t) ∧
  (∀ (s : State) (r n : Nat), s.live = true → r < 8 → s.fld (SR_STAT.STATE r) = rgEnabled → 1 ≤ n → n ≤ 4 → (s.ring r).sqHead ≠ (s.ring r).tail →
    ∃ t, exec (.srPush r n) s = .next t ∧ t.bit SR_ERR.PUSHBUSY = true ∧ OnlyParts [.regs, .tickMem] s t ∧ OnlyRegs [SR_ERR.REG.addr] s t) ∧
  (∀ (s : State) (r tail cq : Nat), s.live = true → r < 8 → s.fld (SR_STAT.STATE r) = rgEnabled → tail < 2 ^ (s.ring r).sqlog → (s.ring r).held = [] →
    ∃ t, exec (.srDoorbell r tail cq [] false) s = .next t ∧ (t.ring r).tail = tail ∧ (t.ring r).cqHead = cq % 2 ^ (s.ring r).cqlog ∧ (t.ring r).descs = (s.ring r).descs ∧ OnlyParts [.regs, .tickMem, .rings] s t ∧
      OnlyRegs [(SR_STAT.STATE r).addr] s t) ∧
  (∀ (s : State) (r tail cq : Nat), s.live = true → r < 8 → s.fld (SR_STAT.STATE r) = rgEnabled → 2 ^ (s.ring r).sqlog ≤ tail → (s.ring r).held = [] →
    ∃ t, exec (.srDoorbell r tail cq [] false) s = .next t ∧ t.bit SR_ERR.BADDB = true ∧ (t.ring r).tail = (s.ring r).tail ∧ OnlyParts [.regs, .tickMem, .rings] s t) ∧
  (∀ (s : State) (r tail cq : Nat) (ls : List (Nat × Bool × Bool)) (e : Bool), s.live = true → s.fld (SR_STAT.STATE r) = rgDisabled → exec (.srDoorbell r tail cq ls e) s = .next s) ∧
  (∀ (s : State) (r : Nat) (b : List Byte) (au : Option (List Byte)), s.live = true → s.nextRing = some r → (s.ring r).pushed = [] → fetchFault (slice b 0 64) = none → natBit (leAt b 1 1) 2 = false →
    ∃ t, exec (.descriptorFetch r b au false) s = .next t ∧ (t.ring r).descs = (s.ring r).descs ++ [descOf (slice b 0 64) [] s.tick s.rings.nextSeq] ∧
      (t.ring r).sqHead = ((s.ring r).sqHead + 1) % 2 ^ (s.ring r).sqlog ∧ t.rings.nextSeq = s.rings.nextSeq + 1 ∧ t.fld (SR_STAT.INFLIGHT r) = ((s.ring r).descs.length + 1) % 128 ∧ OnlyParts [.regs, .tickMem, .rings] s t) ∧
  (∀ (s : State) (r : Nat) (b : List Byte) (au : Option (List Byte)) (st : Nat), s.live = true → s.nextRing = some r → (s.ring r).pushed = [] → (s.ring r).load < 62 → fetchFault (slice b 0 64) = some st →
    ∃ u : State, exec (.descriptorFetch r b au false) s = .next (u.ringEnd r (leAt (slice b 0 64) 2 2) st none) ∧ (u.ring r).sqHead = ((s.ring r).sqHead + 1) % 2 ^ (s.ring r).sqlog ∧ OnlyParts [.regs, .tickMem, .rings] s u) ∧
  (∀ (s : State) (r : Nat) (d : RingDesc), s.live = true → r < 8 → s.fld (SR_STAT.STATE r) = rgDraining → (s.ring r).descs = [d] → d.waiting = false → d.started = false →
    exec (.ringDrainTimeout r) s = .next ((s.ringEnd r d.tag rsAborted none).ringSettle r)) ∧
  (∀ (s : State) (r : Nat) (d : RingDesc), s.live = true → r < 8 → s.fld (SR_STAT.STATE r) = rgDraining → (s.ring r).descs = [d] → d.waiting = false → d.started = true → opMover d.opc = true → d.loaded = false →
    exec (.ringDrainTimeout r) s = .next ((s.ringMoved r d.tag rsAborted).ringSettle r)) ∧
  (∀ (s : State) (r : Nat) (d : RingDesc), s.live = true → r < 8 → s.fld (SR_STAT.STATE r) = rgDraining → (s.ring r).descs = [d] → d.waiting = false → d.started = true → opMover d.opc = true → d.loaded = true →
    ∃ t, exec (.ringDrainTimeout r) s = .next t ∧ (t.ring r).descs = [{ d with abort := true }] ∧ t.fld (SR_STAT.STATE r) = rgDraining ∧ OnlyParts [.regs, .tickMem, .rings] s t) ∧
  (∀ (s : State) (r : Nat) (d : RingDesc), s.live = true → r < 8 → s.fld (SR_STAT.STATE r) = rgDraining → (s.ring r).descs = [d] → d.waiting = false → d.started = true → opMover d.opc = false →
    ∃ t, exec (.ringDrainTimeout r) s = .next t ∧ (t.ring r).descs = [d] ∧ t.fld (SR_STAT.STATE r) = rgDraining ∧ OnlyParts [.regs, .tickMem, .rings] s t)

/-- Completion entries, and descriptors refused. A completion of an enabled ring with room is written at CQTAIL, then CQTAIL in the index page; a full ring holds it; a disabled ring counts an orphan; a signed descriptor that fails a check ends with that check's status, refused under R657, and has none of its effect. Completion: MOVER_WRITE, ACCORD_STORE, SILLAGE_CLEAR, CALIBRATION_RUN, POOL_RELAYOUT each answer a next state, under the premises of its clause on the state and operands alone. (19_service_rings.md (R575; R577; R580; R581; R583; R584)) -/
def Obligations.ring_completions : Prop :=
  (∀ (s : State) (r : Nat) (c : RingCpl), s.fld (SR_STAT.STATE r) ≠ rgDisabled → (s.ring r).cqFull = false → (s.ring r).held = [] →
    (s.ringPost r c).rings.hostMem = (if (s.ring r).port = 0 then hostPut (hostPut s.rings.hostMem ((s.ring r).cqbase + 16 * (s.ring r).cqTail) (ringEntry r (s.ring r).sqHead (s.ring r).phase c))
        ((s.ring r).idx + 64 * r + 4) (leBytes 2 (((s.ring r).cqTail + 1) % 2 ^ (s.ring r).cqlog)) else s.rings.hostMem) ∧
      ((s.ringPost r c).ring r).cqTail = ((s.ring r).cqTail + 1) % 2 ^ (s.ring r).cqlog ∧
      ((s.ringPost r c).ring r).phase = (if ((s.ring r).cqTail + 1) % 2 ^ (s.ring r).cqlog = 0 then !(s.ring r).phase else (s.ring r).phase) ∧
      (s.ringPost r c).nvme.msix = (if s.bit (SR_CFG.IRQEN r) then s.nvme.msix ++ [((s.ring r).port, 1025 + r)] else s.nvme.msix) ∧ OnlyParts [.nvme, .rings] s (s.ringPost r c)) ∧
  (∀ (s : State) (r : Nat) (c : RingCpl), s.fld (SR_STAT.STATE r) ≠ rgDisabled → (s.ring r).cqFull = true ∨ (s.ring r).held ≠ [] →
    ((s.ringPost r c).ring r).held = (s.ring r).held ++ [c] ∧ (s.ringPost r c).rings.hostMem = s.rings.hostMem ∧ (s.ringPost r c).rings.hostMem1 = s.rings.hostMem1 ∧ OnlyParts [.rings] s (s.ringPost r c)) ∧
  (∀ (s : State) (r : Nat) (c : RingCpl), s.fld (SR_STAT.STATE r) = rgDisabled →
    (s.ringPost r c).fld SR_ERR.ORPHAN = Nat.min (s.fld SR_ERR.ORPHAN + 1) (Fld.max SR_ERR.ORPHAN) ∧ OnlyParts [.regs, .tickMem] s (s.ringPost r c) ∧ OnlyRegs [SR_ERR.REG.addr] s (s.ringPost r c)) ∧
  (∀ (s : State) (r tag st : Nat) (b : Option Nat) (d : RingDesc), s.desc? r tag = some d →
    (s.ringEnd r tag st b).freeIdx = s.freeIdx + 1 ∧ ((s.ringEnd r tag st b).ring r).descs = (s.ring r).descs.erase d ∧ OnlyParts [.regs, .tickMem, .sil, .nvme, .rings, .freeIdx] s (s.ringEnd r tag st b)) ∧
  (∀ (s : State) (r tag : Nat) (d : RingDesc) (st reason : Nat) (data : List Byte) (f : MemFaults), s.live = true → s.descReady r tag 0x02 d = true → s.ringTurn r d = true → d.signed = true → s.authFails d.auth d.message 1 true = some (st, reason) →
    exec (.moverWrite r tag [] data f) s = .next ((s.refuse 3 reason).ringEnd r tag st none).memSettle) ∧
  (∀ (s : State) (r tag : Nat) (d : RingDesc) (st reason : Nat) (img : List Byte) (ok : Bool), s.live = true → s.descReady r tag 0x09 d = true → d.signed = true → s.authFails d.auth d.message 1 true = some (st, reason) →
    exec (.accordStore r tag img ok) s = .next ((s.refuse 3 reason).ringEnd r tag st none)) ∧
  (∀ (s : State) (r tag : Nat) (d : RingDesc) (st reason : Nat), s.live = true → s.descReady r tag 0x08 d = true → d.signed = true → s.authFails d.auth d.message 1 true = some (st, reason) → s.mramAdmits = true →
    exec (.sillageClear r tag) s = .next ((s.refuse 3 reason).ringEnd r tag st none)) ∧
  (∀ (s : State) (r tag : Nat) (d : RingDesc) (st reason : Nat), s.live = true → s.descReady r tag 0x05 d = true → d.signed = true → s.authFails d.auth d.message 1 true = some (st, reason) →
    exec (.calibrationRun r tag) s = .next ((s.refuse 3 reason).ringEnd r tag st none)) ∧
  (∀ (s : State) (r tag : Nat) (d : RingDesc) (st reason : Nat), s.live = true → s.descReady r tag 0x0D d = true → d.signed = true → s.authFails d.auth d.message 1 true = some (st, reason) →
    exec (.poolRelayout r tag) s = .next ((s.refuse 3 reason).ringEnd r tag st none))

/-- What the transfers of a service ring do. A mover descriptor whose extent is legal copies it, and completes with the bytes moved; one of length zero is an invalid field; exports write what they name to host memory and complete with its count; a track dump asks for every frame of its range, and completes once each is captured; a clear empties the log. Completion: MOVER_READ, MOVER_WRITE, SAMPLE_EXPORT, TRACK_DUMP, SILLAGE_EXPORT, SILLAGE_CLEAR each answer a next state, under the premises of its clause on the state and operands alone. (19_service_rings.md (R578; R579; R582; R696); 13_detection_and_deep_decode.md (R401; R403); 22_sillage_and_gauges.md (R629; R630)) -/
def Obligations.ring_transfers : Prop :=
  (∀ (s : State) (r tag : Nat) (d : RingDesc) (ok : Nat) (bs : List ChainBlock) (f : MemFaults), s.live = true → s.descReady r tag 0x01 d = true → s.descGo d = true → s.ringTurn r d = true → d.p 4 4 = 0 →
    exec (.moverRead r tag bs ok f) s = .next ((s.descBegun r tag d).ringEnd r tag rsInvalidField none).memSettle) ∧
  (∀ (s : State) (r tag : Nat) (d : RingDesc) (ok : Nat) (bs : List ChainBlock) (f : MemFaults), s.live = true → s.descReady r tag 0x01 d = true → s.descGo d = true → s.ringTurn r d = true → d.p 4 4 ≠ 0 → d.own = false → d.waiting = false → d.loaded = false → d.chained = false → (s.ownSet r tag d ok [] f).2.2 = .done →
    exec (.moverRead r tag bs ok f) s = .next ((((s.ownSet r tag d ok [] f).1.ringAdd r tag (s.ownSet r tag d ok [] f).2.1).modDesc r tag (fun e => { e with own := true })).ringMoved r tag rsSuccess).memSettle) ∧
  (∀ (s : State) (r tag : Nat) (d : RingDesc) (ok : Nat) (bs : List ChainBlock) (f : MemFaults) (e : Nat), s.live = true → s.descReady r tag 0x01 d = true → s.descGo d = true → s.ringTurn r d = true → d.p 4 4 ≠ 0 → d.own = false → d.waiting = false → d.loaded = false → (s.ownSet r tag d ok [] f).2.2 = .ended e →
    exec (.moverRead r tag bs ok f) s = .next (((s.ownSet r tag d ok [] f).1.ringAdd r tag (s.ownSet r tag d ok [] f).2.1).ringMoved r tag e).memSettle) ∧
  (∀ (s : State) (r tag : Nat) (d : RingDesc) (ok : Nat) (bs : List ChainBlock) (f : MemFaults), s.live = true → s.descReady r tag 0x01 d = true → s.descGo d = true → s.ringTurn r d = true → d.p 4 4 ≠ 0 → d.own = false → d.waiting = false → d.loaded = false → (s.ownSet r tag d ok [] f).2.2 = .stalled →
    exec (.moverRead r tag bs ok f) s = .next (((s.ownSet r tag d ok [] f).1.ringAdd r tag (s.ownSet r tag d ok [] f).2.1).memSettle)) ∧
  (∀ (s : State) (r tag : Nat) (d : RingDesc) (data : List Byte) (bs : List ChainBlock) (f : MemFaults), s.live = true → s.descReady r tag 0x02 d = true → s.descGo d = true → s.ringTurn r d = true → d.p 4 4 ≠ 0 → d.own = false → d.waiting = false → d.loaded = false → d.chained = false → (s.ownSet r tag d data.length data f).2.2 = .done →
    exec (.moverWrite r tag bs data f) s = .next ((((s.ownSet r tag d data.length data f).1.ringAdd r tag (s.ownSet r tag d data.length data f).2.1).modDesc r tag (fun e => { e with own := true })).ringMoved r tag rsSuccess).memSettle) ∧
  (∀ (s : State) (r tag : Nat) (d : RingDesc) (data : List Byte) (bs : List ChainBlock) (f : MemFaults) (e : Nat), s.live = true → s.descReady r tag 0x02 d = true → s.descGo d = true → s.ringTurn r d = true → d.p 4 4 ≠ 0 → d.own = false → d.waiting = false → d.loaded = false → (s.ownSet r tag d data.length data f).2.2 = .ended e →
    exec (.moverWrite r tag bs data f) s = .next (((s.ownSet r tag d data.length data f).1.ringAdd r tag (s.ownSet r tag d data.length data f).2.1).ringMoved r tag e).memSettle) ∧
  (∀ (s : State) (r tag : Nat) (d : RingDesc) (data : List Byte) (bs : List ChainBlock) (f : MemFaults), s.live = true → s.descReady r tag 0x02 d = true → s.descGo d = true → s.ringTurn r d = true → d.p 4 4 ≠ 0 → d.own = false → d.waiting = false → d.loaded = false → (s.ownSet r tag d data.length data f).2.2 = .stalled →
    exec (.moverWrite r tag bs data f) s = .next (((s.ownSet r tag d data.length data f).1.ringAdd r tag (s.ownSet r tag d data.length data f).2.1).memSettle)) ∧
  (∀ (s : State) (r tag : Nat) (d : RingDesc) (caps : List (List Byte)) (ok : Bool), s.live = true → s.descReady r tag 0x03 d = true → s.descGo d = true → d.p 0 4 + d.p 4 4 ≤ 131072 → d.p 4 4 < 64 →
    exec (.sampleExport r tag caps ok) s = .next (if ok then ((s.descBegun r tag d).hostWrite .data (s.ring r).port (d.p 8 8)
        (exportAll ((List.range' (d.p 0 4) (d.p 4 4)).map (fun k => SMap.get (fun _ => none) s.decode.index k)) caps)).ringComplete r tag rsSuccess
        (((List.range' (d.p 0 4) (d.p 4 4)).filter (fun k => match SMap.get (fun _ => none) s.decode.index k with | some (i : IndexEntry) => i.valid | none => false)).length)
      else (s.descBegun r tag d).ringComplete r tag rsHostError 0)) ∧
  (∀ (s : State) (r tag : Nat) (d : RingDesc) (caps : List (List Byte)) (ok : Bool), s.live = true → s.descReady r tag 0x04 d = true → s.descGo d = true → s.present (d.p 0 1) = true →
    d.p 4 4 < s.zn (d.p 0 1) (s.zoneOfTrack (d.p 0 1) (d.p 4 4)) 0 4 + s.zn (d.p 0 1) (s.zoneOfTrack (d.p 0 1) (d.p 4 4)) 4 4 →
    d.p 8 2 + d.p 10 2 ≤ s.zn (d.p 0 1) (s.zoneOfTrack (d.p 0 1) (d.p 4 4)) 8 2 → d.p 10 2 ≠ 0 →
    ∃ t, exec (.trackDump r tag caps ok) s = .next t ∧ (∀ k ∈ List.range' (d.p 8 2) (d.p 10 2), t.lanes.rereads.contains ⟨d.p 0 1, d.p 4 4, k, 6⟩ = true) ∧ t.desc? r tag = some { d with started := true } ∧ OnlyParts [.lanes, .rings] s t) ∧
  (∀ (s : State) (r tag : Nat) (d : RingDesc) (caps : List (List Byte)) (ok : Bool), s.live = true → s.desc? r tag = some d → d.opc = 0x04 → d.started = true →
    ((List.range' (d.p 8 2) (d.p 10 2)).all (fun f => (s.captureSince (d.p 0 1) (d.p 4 4) f d.fetchTick).isSome)) = true →
    ∃ u : State, exec (.trackDump r tag caps ok) s = .next (u.ringEnd r tag (if ok then rsSuccess else rsHostError) none) ∧ (ok = false → u.rings = s.rings) ∧ (u.ring r).descs = (s.ring r).descs ∧
      (∀ e : Nat, (u.extent e).pins = (s.extent e).pins) ∧ OnlyParts [.regs, .tickMem, .rings, .decode] s u) ∧
  (∀ (s : State) (r tag : Nat) (d : RingDesc) (ok : Bool), s.live = true → s.descReady r tag 0x07 d = true → s.descGo d = true →
    exec (.sillageExport r tag ok) s = .next (if ok then ((s.descBegun r tag d).hostWrite .data (s.ring r).port (d.p 8 8) ((s.descBegun r tag d).silView (d.p 0 4) (Nat.min (d.p 4 4) (s.logPos - d.p 0 4)))).ringComplete r tag rsSuccess
        (Nat.min (d.p 4 4) (s.logPos - d.p 0 4)) else (s.descBegun r tag d).ringComplete r tag rsHostError 0)) ∧
  (∀ (s : State) (r tag : Nat) (d : RingDesc), s.live = true → s.descReady r tag 0x08 d = true → s.descGo d = true → s.mramAdmits = true →
    exec (.sillageClear r tag) s = .next ((s.descBegun r tag d).silClear.ringEnd r tag rsSuccess none)) ∧
  (∀ (s : State) (r tag : Nat), s.live = true → s.mramAdmits = false → exec (.sillageClear r tag) s = .next s)

/-- Calibration, gauges, blotter mode and pool commands of a service ring. A calibration run raises cause 5 of its lane and completes with the run; gauge actions work on every gauge of their range in one tick; the blotter turns on and off; a re-layout by the pool head forms the next epoch, and any other device refuses it; an adoption takes the failed member's ID. Completion: CALIBRATION_RUN, GAUGE_ARM, GAUGE_STOP, GAUGE_EXPORT, GAUGE_EXPORT_REARM, BLOTTER_ENABLE, BLOTTER_DISABLE, POOL_RELAYOUT, POOL_ADOPT each answer a next state, under the premises of its clause on the state and operands alone. (19_service_rings.md (R582); 14_calibration.md (R423); 22_sillage_and_gauges.md (R634; R635); 06_memory_hbm_mram_ecc.md (R207); 17_ewerid_pool.md (R507; R528)) -/
def Obligations.ring_operations : Prop :=
  (∀ (s : State) (r tag : Nat) (d : RingDesc), s.live = true → s.descReady r tag 0x05 d = true → s.descGo d = true →
    ∃ t, exec (.calibrationRun r tag) s = .next t ∧ t.cal.asked = s.cal.asked ++ [(d.p 0 1, r, tag)] ∧ natBit (t.causes (d.p 0 1)) 5 = true ∧ t.desc? r tag = some { d with started := true } ∧ OnlyParts [.regs, .tickMem, .rings, .cal] s t) ∧
  (∀ (s : State) (r tag : Nat) (d : RingDesc), s.live = true → s.descReady r tag 0x06 d = true → s.descGo d = true → d.p 0 1 = 0 → d.p 1 1 + d.p 2 1 ≤ 64 →
    ∃ u : State, exec (.gaugeArm r tag) s = .next (u.ringComplete r tag rsSuccess s.tick) ∧ (∀ k < 64, d.p 1 1 ≤ k → k < d.p 1 1 + d.p 2 1 → u.bit (GA_CTL.ARMED k) = true ∧ u.fld (GA_CTL.SRC k) = d.p 3 1 % 2 ^ 8) ∧
      (∀ k < 64, k < d.p 1 1 ∨ d.p 1 1 + d.p 2 1 ≤ k → u.fld (GA_CTL.REG k) = s.fld (GA_CTL.REG k)) ∧ OnlyParts [.regs, .tickMem, .sil, .rings] s u) ∧
  (∀ (s : State) (r tag : Nat) (d : RingDesc), s.live = true → s.descReady r tag 0x06 d = true → s.descGo d = true → d.p 0 1 = 1 → d.p 1 1 + d.p 2 1 ≤ 64 →
    ∃ u : State, exec (.gaugeStop r tag) s = .next (u.ringComplete r tag rsSuccess s.tick) ∧ (∀ k < 64, d.p 1 1 ≤ k → k < d.p 1 1 + d.p 2 1 → u.bit (GA_CTL.ARMED k) = false) ∧
      (∀ k < 64, k < d.p 1 1 ∨ d.p 1 1 + d.p 2 1 ≤ k → u.fld (GA_CTL.REG k) = s.fld (GA_CTL.REG k)) ∧ OnlyParts [.regs, .tickMem, .sil, .rings] s u) ∧
  (∀ (s : State) (r tag : Nat) (d : RingDesc), s.live = true → s.descReady r tag 0x06 d = true → s.descGo d = true → d.p 0 1 = 2 → d.p 2 1 < 4 →
    exec (.gaugeExport r tag true) s = .next (((s.descBegun r tag d).hostWrite .data (s.ring r).port (d.p 16 8)
      ((List.range' (d.p 1 1) (d.p 2 1)).foldl (fun b g => b ++ (s.descBegun r tag d).gaugePage g) [])).ringComplete r tag rsSuccess s.tick)) ∧
  (∀ (s : State) (r tag : Nat) (d : RingDesc), s.live = true → s.descReady r tag 0x06 d = true → s.descGo d = true → d.p 0 1 = 3 → d.p 2 1 < 4 →
    exec (.gaugeExportRearm r tag false) s = .next (((s.descBegun r tag d).each (List.range' (d.p 1 1) (d.p 2 1)) State.gaugeArm).ringComplete r tag rsHostError s.tick)) ∧
  (∀ (s : State) (r tag : Nat) (d : RingDesc), s.live = true → s.descReady r tag 0x0C d = true → s.descGo d = true → d.p 0 1 = 1 →
    exec (.blotterEnable r tag) s = .next ((s.descBegun r tag d).bltEnable.ringEnd r tag rsSuccess none)) ∧
  (∀ (s : State) (r tag : Nat) (d : RingDesc), s.live = true → s.descReady r tag 0x0C d = true → s.descGo d = true → d.p 0 1 = 0 →
    exec (.blotterDisable r tag) s = .next ((s.descBegun r tag d).bltDisable.ringEnd r tag rsSuccess none)) ∧
  (∀ (s : State) (r tag : Nat) (d : RingDesc), s.live = true → s.descReady r tag 0x0D d = true → s.descGo d = true → s.fld PL_STAT.ROLE ≠ 2 →
    exec (.poolRelayout r tag) s = .next ((s.descBegun r tag d).ringEnd r tag rsRefused none)) ∧
  (∀ (s : State) (r tag : Nat) (d : RingDesc), s.live = true → s.descReady r tag 0x0D d = true → s.descGo d = true → s.poolOn = true → s.fld PL_STAT.ROLE = 2 →
    ∃ u : State, exec (.poolRelayout r tag) s = .next (u.ringEnd r tag rsSuccess none) ∧ u.fld PL_EPOCH.EPOCH = (s.fld PL_EPOCH.EPOCH + 1) % 2 ^ 32 ∧
      u.pool.members.map (fun m => (m.id, m.failed)) = (s.idTable ((s.pool.members.filter (fun m => !m.failed)).map (fun m => (m.id, m.ident)))).map (fun i => (i, false)) ∧
      OnlyParts [.regs, .tickMem, .rings, .tier, .pool] s u) ∧
  (∀ (s : State) (r tag : Nat) (d : RingDesc), s.live = true → s.descReady r tag 0x0E d = true → s.descGo d = true → s.memberFailed (d.p 0 2) = false →
    exec (.poolAdopt r tag) s = .next ((s.descBegun r tag d).ringEnd r tag rsRefused none)) ∧
  (∀ (s : State) (r tag : Nat) (d : RingDesc), s.live = true → s.descReady r tag 0x0E d = true → s.descGo d = true → s.poolOn = true → s.memberFailed (d.p 0 2) = true →
    ∃ t, exec (.poolAdopt r tag) s = .next t ∧ t.plId = d.p 0 2 ∧ t.plGen = (s.genOf (d.p 0 2) + 1) % 2 ^ 16 ∧ t.bit PL_STAT.ADOPT = true ∧ t.pool.members = s.pool.members ∧ OnlyParts [.regs, .tickMem, .sil, .nvme, .rings, .tier, .pool, .freeIdx] s t)

/-- Take-downs and restores asked of the service rings. A take-down that its guards allow starts the quiesce and completes later; one of a Down domain, or of one that faulted in the same tick and restores by itself, completes with Already down, one that the guards refuse with Refused; a restore of a Down domain starts it, one of a Serving domain that lacks nothing completes at once, and one of a domain on its way is refused. Completion: DOMAIN_TAKE_DOWN, DOMAIN_RESTORE each answer a next state, under the premises of its clause on the state and operands alone. (01_architecture.md (R29 to R32; R34; R35; R695)) -/
def Obligations.domain_requests : Prop :=
  (∀ (s : State) (r tag : Nat) (d : RingDesc) (x : Dom), s.live = true → s.descReady r tag 0x0B d = true → s.descGo d = true → d.p 1 1 = 0 → domOfCode (d.p 0 1) = some x → s.takeDownOk x = true →
    ∃ u : State, exec (.domainTakeDown r tag) s = .next u.domSettle ∧ (u.dom x).st = .quiescing ∧ (u.dom x).takedown = some (.ring r tag) ∧ (u.dom x).load = none ∧
      (∀ y ∈ domains, y ≠ x → u.dom y = s.dom y) ∧ u.desc? r tag = some { d with started := true }) ∧
  (∀ (s : State) (r tag : Nat) (d : RingDesc) (x : Dom), s.live = true → s.descReady r tag 0x0B d = true → s.descGo d = true → d.p 1 1 = 0 → domOfCode (d.p 0 1) = some x → (s.dom x).st = .down ∨ ((s.dom x).st = .restoring ∧ (s.dom x).autoTick = some s.tick) →
    exec (.domainTakeDown r tag) s = .next ((s.descBegun r tag d).ringEnd r tag rsAlreadyDown none).domSettle) ∧
  (∀ (s : State) (r tag : Nat) (d : RingDesc) (x : Dom), s.live = true → s.descReady r tag 0x0B d = true → s.descGo d = true → d.p 1 1 = 0 → domOfCode (d.p 0 1) = some x → ((s.dom x).st = .restoring ∧ (s.dom x).autoTick ≠ some s.tick) ∨ (s.dom x).st = .quiescing →
    exec (.domainTakeDown r tag) s = .next ((s.descBegun r tag d).ringEnd r tag rsRefused none).domSettle) ∧
  (∀ (s : State) (r tag : Nat) (d : RingDesc) (x : Dom), s.live = true → s.descReady r tag 0x0B d = true → s.descGo d = true → d.p 1 1 = 1 → domOfCode (d.p 0 1) = some x → (s.dom x).st = .restoring ∨ (s.dom x).st = .quiescing →
    exec (.domainRestore r tag) s = .next ((s.descBegun r tag d).ringEnd r tag rsRefused none).domSettle) ∧
  (∀ (s : State) (r tag : Nat) (d : RingDesc) (x : Dom), s.live = true → s.descReady r tag 0x0B d = true → s.descGo d = true → d.p 1 1 = 1 → domOfCode (d.p 0 1) = some x → s.isServing x = true → s.domFree x = true → actOfDom x = none →
    exec (.domainRestore r tag) s = .next ((s.descBegun r tag d).ringEnd r tag rsSuccess none).domSettle) ∧
  (∀ (s : State) (r tag : Nat) (d : RingDesc) (x : Dom), s.live = true → s.descReady r tag 0x0B d = true → s.descGo d = true → d.p 1 1 = 1 → domOfCode (d.p 0 1) = some x → (s.dom x).st = .down → s.toReplace x = [] → actOfDom x = none →
    ∃ u : State, exec (.domainRestore r tag) s = .next u.domSettle ∧ (u.dom x).st = .restoring ∧ (u.dom x).restore = some (.ring r tag) ∧ (∀ y ∈ domains, y ≠ x → u.dom y = s.dom y) ∧ OnlyParts [.doms, .rings] s u)

/-- Faults, quiesce, restore and hold of a domain. A fault takes a domain Down with its cause, its count and the alert, and the domain that lasted is restored once more; the end of its work or of the quiesce timer takes a quiescing domain Down, the timer aborting what is left of the work; a restore that is complete enters Serving and answers who asked; one that times out counts as failed; a held restore loads the actuator once it is parked at speed; the end of the hold completes what still waits for an actuator that is away. Completion: DOMAIN_FAULT, QUIESCE_WORK_FINISHED, QUIESCE_TIMEOUT, RESTORE_COMPLETE, RESTORE_TIMEOUT, HELD_RESTORE_START, MEDIA_HOLD_EXPIRY each answer a next state, under the premises of its clause on the state and operands alone. (01_architecture.md (R29 to R33; R39); 24_faults_and_base_note.md (R662; R663)) -/
def Obligations.domain_states : Prop :=
  (∀ (s : State) (d : Dom) (cause : Nat), s.live = true → (s.dom d).st ≠ .down → cause < 256 →
    ∃ u : State, exec (.domainFault d cause) s = .next u.domSettle.standbyStep ∧ u.fld (fbCause d) = cause ∧ u.bit FB_ALERT.DOMAIN = true ∧
      ((u.dom d).st = .down ∨ (u.dom d).st = .restoring) ∧ (s.bit FB_STAT.BASENOTE = true → (u.dom d).st = .down)) ∧
  (∀ (s : State) (d : Dom) (cause : Nat), s.live = true → (s.dom d).st = .down → exec (.domainFault d cause) s = .next s.domSettle.standbyStep) ∧
  (∀ (s : State) (d : Dom) (q : Requester), s.live = true → d = .DP → (s.dom d).st = .quiescing → (s.dom d).load = none → (s.dom d).takedown = some q →
    ∃ u : State, exec (.quiesceWorkFinished d) s = .next ((u.answer (some q) rsSuccess 0).domSettle) ∧ (u.dom d).st = .down ∧ (u.dom d).takedown = none ∧ (∀ y ∈ domains, y ≠ d → u.dom y = s.dom y) ∧ OnlyParts [.doms] s u) ∧
  (∀ (s : State) (d : Dom) (q : Requester), s.live = true → d = .DP → (s.dom d).st = .quiescing → (s.dom d).load = none → (s.dom d).takedown = some q →
    ∃ u : State, exec (.quiesceTimeout d) s = .next ((u.answer (some q) rsSuccess 0).domSettle) ∧ (u.dom d).st = .down ∧ (u.dom d).takedown = none ∧ OnlyParts [.regs, .tickMem, .doms, .sil] s u) ∧
  (∀ (s : State) (d : Dom) (a : Act), s.live = true → actOfDom d = some a → (s.dom d).st = .quiescing → (s.dom d).parkReq = false → s.svState a = svFollowing →
    ∃ u : State, exec (.quiesceTimeout d) s = .next u.domSettle ∧ (u.dom d).parkReq = true ∧ (u.dom d).st = .quiescing ∧ u.svState a = svUnloading ∧ (∀ n < 2, u.gate a n = false) ∧
      (∀ l ∈ lanes9, u.lnAct l = a → (u.lane l).queue = [] ∧ (u.lane l).cur = none)) ∧
  (∀ (s : State), s.live = true → (s.dom .DE).st = .quiescing →
    ∃ u : State, exec (.quiesceTimeout .DE) s = .next u.domSettle ∧ u.eb.tx = []) ∧
  (∀ (s : State) (d : Dom) (a : Act), s.live = true → actOfDom d = some a → (s.dom d).st = .quiescing → (s.dom d).parkReq = false → s.svState a = svFollowing →
    ∃ u : State, exec (.quiesceWorkFinished d) s = .next u.domSettle ∧ (u.dom d).parkReq = true ∧ (u.dom d).st = .quiescing ∧ u.svState a = svUnloading ∧ (∀ n < 2, u.gate a n = false)) ∧
  (∀ (s : State) (d : Dom), s.live = true → actOfDom d = none → (s.dom d).st = .restoring →
    ∃ u : State, exec (.restoreComplete d) s = .next u.domSettle ∧ (u.dom d).st = .serving ∧ (u.dom d).everServed = true ∧ (u.dom d).servedTick = s.tick ∧ (u.dom d).restore = none ∧ u.bit (fbHold d) = false ∧
      (∀ y ∈ domains, y ≠ d → u.dom y = s.dom y)) ∧
  (∀ (s : State) (d : Dom), s.live = true → (s.dom d).st = .restoring → d = .DP ∨ d = .DA ∨ d = .DB → s.bit FB_STAT.BASENOTE = false →
    ∃ u : State, exec (.restoreTimeout d) s = .next u.domSettle ∧ (u.dom d).st = .down ∧ u.fld (fbCause d) = 6 ∧ u.bit (fbHold d) = true ∧ u.bit FB_ALERT.DOMAIN = true) ∧
  (∀ (s : State) (d : Dom) (a : Act), s.live = true → actOfDom d = some a → (s.dom d).held = true → (s.dom d).heldLoading = false → s.isServing d = true → s.svState a = svParked → s.spReady = true →
    ∃ t, exec (.heldRestoreStart d) s = .next t ∧ (t.dom d).heldLoading = true ∧ t.svState a = svLoading ∧ t.pins.vcmEn.at a = true ∧ (∀ y ∈ domains, y ≠ d → t.dom y = s.dom y) ∧ OnlyParts [.regs, .tickMem, .pins, .doms, .servo, .assist] s t) ∧
  (∀ (s : State) (a : Act), s.live = true → s.nvme.inflight = [] → exec (.mediaHoldExpiry a) s = .next s.standbyStep) ∧
  (∀ (s : State) (a : Act) (k : Cmd), s.live = true → s.nvme.inflight = [k] → s.actAway a = true → isReadOp k.e.opc = true → k.started = true → k.waits = [] → (s.blocks? (s.cmdBlocks k)).away.contains a = true →
    exec (.mediaHoldExpiry a) s = .next (s.complete k .notReady 0).standbyStep)

/-- Access to the bus and the frames received. The frame in the PHY's buffer goes out with the next sequence number, at most one in a PLCA cycle, or waits and counts; what a HEALTH would now show is announced in the cycle where it changed; BEACONs set and their loss clears PLCA operation; the sixteenth collision within a second is a configuration error; a frame is discarded at its sixteenth attempt; strangers and foreign frames are counted and do nothing else; HEALTH goes out every second and on a query, from the PHY's copy where the domain is not in service; WAKE wakes a hibernating device; a seek announcement of a listed bay is kept for the actuator. Completion: TRANSMIT_OPPORTUNITY, PLCA_BEACON, PLCA_BEACON_LOSS, EB_COLLISION, CSMA_BACKOFF_EXPIRY, EB_STRANGER_FRAME, CLAIM, TICK, TOKREQ, TOKGRANT, TOKRET, SEEK, HEALTH, HQUERY, HEALTH_TIMER, WAKE each answer a next state, under the premises of its clause on the state and operands alone. (20_enclosure_bus.md (R589; R590; R591; R592; R593; R594; R595; R596; R604; R605); 10_servo.md (R326); 03_package_pins_power.md (R109)) -/
def Obligations.the_shared_bus : Prop :=
  (∀ (s : State) (l : EbLoaded), s.live = true → s.healthWatch.eb.buf = some l → s.eb.sentCycle = false ∨ s.bit EB_STAT.CSMA = true →
    ∃ t, exec (.transmitOpportunity false) s = .next t ∧ t.eb.seq = (s.eb.seq + 1) % 65536 ∧ t.eb.lastSent = etherFrame s.ebId l.frame.dst (ebPayload s.ebId s.eb.seq (if l.frame.type = ebTick then s.enclTime else l.etime) l.frame) ∧
      t.fld EB_TX.SENT = Nat.min (s.fld EB_TX.SENT + 1) 65535 ∧ t.fld EB_TX.DEFER = s.fld EB_TX.DEFER ∧ t.eb.sentCycle = true ∧ (s.healthWatch.eb.tx = [] → t.eb.buf = none ∧ t.eb.tx = []) ∧
      t.eb.queue = s.eb.queue ∧ t.eb.holders = s.eb.holders ∧ OnlyParts [.regs, .tickMem, .eb] s t ∧ OnlyRegs [EB_TX.REG.addr] s t) ∧
  (∀ (s : State), s.live = true → s.healthWatch.eb.buf ≠ none →
    ∃ t, exec (.transmitOpportunity true) s = .next t ∧ t.fld EB_TX.DEFER = Nat.min (s.fld EB_TX.DEFER + 1) 65535 ∧ t.fld EB_TX.SENT = s.fld EB_TX.SENT ∧ t.eb = s.healthWatch.eb ∧
      OnlyParts [.regs, .tickMem, .eb] s t ∧ OnlyRegs [EB_TX.REG.addr] s t) ∧
  (∀ (s : State), s.live = true → s.eb.sentCycle = true → s.bit EB_STAT.CSMA = false → exec (.transmitOpportunity false) s = .next s.healthWatch) ∧
  (∀ (s : State) (late : Bool), s.live = true → s.healthWatch.eb.buf = none → exec (.transmitOpportunity late) s = .next s.healthWatch) ∧
  (∀ (s : State) (l : EbLoaded), s.live = true → s.isServing .DE = true → s.eb.buf = some l → healthFields s.healthBody ≠ healthFields s.eb.health → (∀ f ∈ s.eb.tx, f.type ≠ ebHealth) → s.plcaOn = true →
    ∃ t, exec .plcaBeacon s = .next t ∧ t.eb.tx = s.eb.tx ++ [⟨ebHealth, none, []⟩] ∧ t.eb.buf = some l) ∧
  (∀ (s : State), s.live = true → s.plcaOn = true →
    ∃ t, exec .plcaBeacon s = .next t ∧ t.bit EB_STAT.PLCAOK = true ∧ t.bit EB_STAT.CSMA = false ∧ t.bit EB_STAT.COORD = decide (s.plcaNode = 0) ∧ t.fld EB_STAT.ELECT = s.fld EB_STAT.ELECT ∧
      t.bit EB_STAT.LOCAL = s.bit EB_STAT.LOCAL ∧ t.bit EB_STAT.MISCFG = s.bit EB_STAT.MISCFG ∧
      t.eb.cycle = s.eb.cycle + 1 ∧ t.eb.sentCycle = false ∧ OnlyParts [.regs, .tickMem, .eb] s t ∧ OnlyRegs [EB_STAT.REG.addr] s t) ∧
  (∀ (s : State), s.live = true → ∃ t, exec .plcaBeaconLoss s = .next t ∧ t.bit EB_STAT.PLCAOK = false ∧ t.bit EB_STAT.CSMA = true ∧ t.fld EB_STAT.ELECT = s.fld EB_STAT.ELECT ∧
      t.bit EB_STAT.COORD = s.bit EB_STAT.COORD ∧ t.bit EB_STAT.LOCAL = s.bit EB_STAT.LOCAL ∧ t.bit EB_STAT.MISCFG = s.bit EB_STAT.MISCFG ∧ OnlyParts [.regs, .tickMem] s t ∧ OnlyRegs [EB_STAT.REG.addr] s t) ∧
  (∀ (s : State), s.live = true → s.bit EB_STAT.CSMA = false → (recent s.tick (secTicks 1) s.eb.colls).length < 16 →
    ∃ t, exec .ebCollision s = .next t ∧ t.fld EB_COLL.COLL = Nat.min (s.fld EB_COLL.COLL + 1) 65535 ∧ t.fld EB_COLL.DISCARD = s.fld EB_COLL.DISCARD ∧
      t.eb.colls = recent s.tick (secTicks 1) s.eb.colls ∧ t.eb.buf = s.eb.buf ∧ t.eb.tx = s.eb.tx ∧ OnlyParts [.regs, .tickMem, .eb] s t ∧ OnlyRegs [EB_COLL.REG.addr] s t) ∧
  (∀ (s : State), s.live = true → s.bit EB_STAT.CSMA = true →
    ∃ t, exec .ebCollision s = .next t ∧ t.fld EB_COLL.COLL = Nat.min (s.fld EB_COLL.COLL + 1) 65535 ∧ OnlyParts [.regs, .tickMem] s t ∧ OnlyRegs [EB_COLL.REG.addr] s t) ∧
  (∀ (s : State), s.live = true → 16 ≤ (recent s.tick (secTicks 1) s.eb.colls).length → s.bit EB_STAT.CSMA = false →
    ∃ t, exec .ebCollision s = .next t ∧ t.bit EB_STAT.MISCFG = true ∧ (s.bit EB_STAT.MISCFG = false → t.bit FB_ALERT.ENCL = true) ∧ t.bit EB_STAT.PLCAOK = s.bit EB_STAT.PLCAOK ∧ t.eb.tx = s.eb.tx) ∧
  (∀ (s : State) (l : EbLoaded), s.live = true → s.eb.buf = some l → s.bit EB_STAT.CSMA = true → 15 ≤ l.attempts →
    ∃ t, exec .csmaBackoffExpiry s = .next t ∧ (s.eb.tx = [] → t.eb.buf = none) ∧ t.eb.buf ≠ some l ∧ t.fld EB_COLL.DISCARD = Nat.min (s.fld EB_COLL.DISCARD + 1) 65535 ∧ t.fld EB_COLL.COLL = s.fld EB_COLL.COLL ∧
      OnlyParts [.regs, .tickMem, .eb] s t ∧ OnlyRegs [EB_COLL.REG.addr] s t) ∧
  (∀ (s : State) (l : EbLoaded), s.live = true → s.eb.buf = some l → s.bit EB_STAT.CSMA = true → l.attempts < 15 →
    ∃ t, exec .csmaBackoffExpiry s = .next t ∧ t.eb.buf = some { l with attempts := l.attempts + 1 } ∧ t.eb.tx = s.eb.tx ∧ OnlyParts [.eb] s t) ∧
  (∀ (s : State), s.live = true → s.isServing .DE = true →
    ∃ t, exec (.ebStrangerFrame true) s = .next t ∧ t.fld EB_STRANGE.UNKTYPE = Nat.min (s.fld EB_STRANGE.UNKTYPE + 1) 65535 ∧ t.fld EB_STRANGE.UNKNODE = s.fld EB_STRANGE.UNKNODE ∧
      OnlyParts [.regs, .tickMem] s t ∧ OnlyRegs [EB_STRANGE.REG.addr] s t) ∧
  (∀ (s : State), s.live = true → s.isServing .DE = true →
    ∃ t, exec (.ebStrangerFrame false) s = .next t ∧ t.fld EB_STRANGE.UNKNODE = Nat.min (s.fld EB_STRANGE.UNKNODE + 1) 65535 ∧ t.fld EB_STRANGE.UNKTYPE = s.fld EB_STRANGE.UNKTYPE ∧
      OnlyParts [.regs, .tickMem] s t ∧ OnlyRegs [EB_STRANGE.REG.addr] s t) ∧
  (∀ (s : State) (h : EbHdr) (x y z : Nat) (held : Bool) (prof : List Int) (a : Act), s.live = true → s.isServing .DE = true → h.enclid ≠ s.enclId →
    let t := s.bump EB_RX.FOREIGN
    t.fld EB_RX.FOREIGN = Nat.min (s.fld EB_RX.FOREIGN + 1) 65535 ∧ OnlyParts [.regs, .tickMem] s t ∧ OnlyRegs [EB_RX.REG.addr] s t ∧
      exec (.claim h x y) s = .next t ∧ exec (.tick h x y) s = .next t ∧ exec (.tokreq h x held) s = .next t ∧ exec (.tokgrant h x y z) s = .next t ∧ exec (.tokret h x) s = .next t ∧
      exec (.seek h a x y prof) s = .next t ∧ exec (.health h) s = .next t ∧ exec (.hquery h x) s = .next t) ∧
  (∀ (s : State) (h : EbHdr) (x y z : Nat) (held : Bool) (prof : List Int) (a : Act), s.live = true → s.isServing .DE = false →
    exec (.claim h x y) s = .next s ∧ exec (.tick h x y) s = .next s ∧ exec (.tokreq h x held) s = .next s ∧ exec (.tokgrant h x y z) s = .next s ∧ exec (.tokret h x) s = .next s ∧
      exec (.seek h a x y prof) s = .next s ∧ exec (.health h) s = .next s ∧ exec (.ebStrangerFrame held) s = .next s) ∧
  (∀ (s : State) (h : EbHdr), s.live = true → s.isServing .DE = true → h.enclid = s.enclId →
    ∃ t, exec (.health h) s = .next t ∧ t.fld EB_RX.RCVD = Nat.min (s.fld EB_RX.RCVD + 1) 65535 ∧ t.fld EB_RX.FOREIGN = s.fld EB_RX.FOREIGN ∧ OnlyParts [.regs, .tickMem] s t ∧ OnlyRegs [EB_RX.REG.addr] s t) ∧
  (∀ (s : State) (l : EbLoaded), s.live = true → s.isServing .DE = true → s.eb.buf = some l →
    ∃ t, exec .healthTimer s = .next t ∧ t.eb.tx = s.eb.tx ++ [⟨ebHealth, none, []⟩] ∧ t.eb.buf = some l ∧ t.eb.health = s.eb.health ∧ t.eb.seq = s.eb.seq ∧ OnlyParts [.eb] s t) ∧
  (∀ (s : State), s.live = true → s.isServing .DE = true → s.eb.buf = none → s.eb.tx = [] →
    ∃ t, exec .healthTimer s = .next t ∧ t.eb.buf = some ⟨⟨ebHealth, none, s.healthBody⟩, s.enclTime, 0⟩ ∧ t.eb.tx = [] ∧ t.eb.health = s.healthBody ∧ t.eb.phyId = s.ebId ∧ OnlyParts [.eb] s t) ∧
  (∀ (s : State) (h : EbHdr) (node : Nat) (l : EbLoaded), s.live = true → s.isServing .DE = true → h.enclid = s.enclId → node = 255 ∨ node = s.plcaNode → s.eb.buf = some l → l.frame.type ≠ ebHealth ∨ l.frame.dst ≠ none →
    ∃ t, exec (.hquery h node) s = .next t ∧ t.eb.tx = s.eb.tx ++ [⟨ebHealth, some (h.bay, h.node), []⟩] ∧ t.eb.buf = some l ∧ t.fld EB_RX.RCVD = Nat.min (s.fld EB_RX.RCVD + 1) 65535 ∧
      OnlyParts [.regs, .tickMem, .eb] s t ∧ OnlyRegs [EB_RX.REG.addr] s t) ∧
  (∀ (s : State) (h : EbHdr) (node : Nat), s.live = true → s.isServing .DE = true → h.enclid = s.enclId → node = 255 ∨ node = s.plcaNode → s.eb.buf = none → s.eb.tx = [] →
    ∃ t, exec (.hquery h node) s = .next t ∧ t.eb.buf = some ⟨⟨ebHealth, some (h.bay, h.node), s.healthBody⟩, s.enclTime, 0⟩ ∧ t.eb.health = s.healthBody ∧ OnlyParts [.regs, .tickMem, .eb] s t ∧ OnlyRegs [EB_RX.REG.addr] s t) ∧
  (∀ (s : State) (h : EbHdr) (node : Nat) (l : EbLoaded), s.live = true → s.isServing .DE = true → h.enclid = s.enclId → s.eb.buf = some l → l.frame.type = ebHealth → l.frame.dst = none →
    exec (.hquery h node) s = .next (s.bump EB_RX.RCVD)) ∧
  (∀ (s : State) (h : EbHdr) (node : Nat), s.isServing .DE = false → s.awake = true → s.power.hibernate = false → s.power.phase ≠ .hold → h.enclid = s.eb.phyId.1 → node = 255 ∨ node = s.eb.phyId.2.2 → s.eb.health ≠ [] →
    ∃ t, exec (.hquery h node) s = .next t ∧ t.eb.lastSent = etherFrame s.eb.phyId (some (h.bay, h.node)) (ebPayload s.eb.phyId s.eb.seq s.enclTime ⟨ebHealth, some (h.bay, h.node), s.eb.health⟩) ∧
      t.eb.seq = (s.eb.seq + 1) % 65536 ∧ t.eb.health = s.eb.health ∧ t.fld EB_TX.SENT = Nat.min (s.fld EB_TX.SENT + 1) 65535 ∧ OnlyParts [.regs, .tickMem, .eb] s t ∧ OnlyRegs [EB_TX.REG.addr] s t) ∧
  (∀ (s : State) (h : EbHdr) (node : Nat), s.awake = true → s.live = false ∨ s.isServing .DE = false → s.power.hibernate = true → h.enclid = s.eb.phyId.1 → node = 255 ∨ node = s.eb.phyId.2.2 → s.eb.health ≠ [] →
    ∃ t, exec (.hquery h node) s = .next t ∧ t.eb.lastSent = etherFrame s.eb.phyId (some (h.bay, h.node)) (ebPayload s.eb.phyId s.eb.seq s.enclTime ⟨ebHealth, some (h.bay, h.node), [3] ++ s.eb.health.drop 1⟩) ∧
      t.eb.health = s.eb.health ∧ OnlyParts [.regs, .tickMem, .eb] s t ∧ OnlyRegs [EB_TX.REG.addr] s t) ∧
  (∀ (s : State) (h : EbHdr) (bay : Nat), s.power.hibernate = true → h.enclid = s.eb.phyId.1 → bay = 255 ∨ bay = s.eb.phyId.2.1 → exec (.wake h bay) s = .next s.wakeHibernate) ∧
  (∀ (s : State) (h : EbHdr) (bay : Nat), s.power.hibernate = true → h.enclid ≠ s.eb.phyId.1 ∨ (bay ≠ 255 ∧ bay ≠ s.eb.phyId.2.1) → exec (.wake h bay) s = .next s) ∧
  (∀ (s : State) (h : EbHdr) (bay : Nat), s.live = true → s.isServing .DE = true → s.power.hibernate = false → h.enclid = s.enclId → exec (.wake h bay) s = .next (s.bump EB_RX.RCVD)) ∧
  (∀ (s : State) (h : EbHdr) (a : Act) (step start : Nat) (prof : List Int), s.live = true → s.isServing .DE = true → h.enclid = s.enclId → s.svRows .A 0x0006 ≤ 1 → s.svRows .B 0x0006 ≤ 1 →
    exec (.seek h a step start prof) s = .next (s.bump EB_RX.RCVD)) ∧
  (∀ (s : State) (h : EbHdr) (a : Act) (step start : Nat) (prof : List Int) (r : Nat), s.live = true → s.isServing .DE = true → h.enclid = s.enclId → s.svRows .B 0x0006 ≤ 1 → (List.range (s.svRows .A 0x0006)).find? (fun r => r != 0 && decide (ofTwos 8 (s.svRow .A 0x0006 r 16 0 1) = (h.bay : Int) - s.bay)) = some r →
    ofTwos 32 (toTwos 32 ((s.enclTime : Int) - h.etime)) ≤ (s.svRow .A 0x0006 0 16 6 2 * 1000 : Nat) → 0 ≤ ofTwos 32 (toTwos 32 ((start : Int) - s.enclTime)) →
    ∃ t, exec (.seek h a step start prof) s = .next t ∧ ((t.sv .A).announces.head?).map (·.step) = some step ∧ ((t.sv .A).announces.head?).map (·.prof) = some prof ∧
      ((t.sv .A).announces.head?).map (·.start) = some ((s.tick : Int) + ofTwos 32 (toTwos 32 ((start : Int) - s.enclTime)) * 25) ∧ (t.sv .A).announces.length = Nat.min 8 ((s.sv .A).announces.length + 1) ∧ t.sv .B = s.sv .B ∧
      OnlyParts [.regs, .tickMem, .servo] s t ∧ OnlyRegs [EB_RX.REG.addr, (SV_FF.APPLIED 0).addr] s t)

/-- The token master, its election and the tokens. A device that hears no TICK claims and waits for the claims; the lowest claim wins and, where it is this device, it becomes master with the next epoch and grants nothing for 200 ms; a TICK makes its sender master and sets the time offset; the loss of the master starts an election; the master queues and grants requests, counts re-assertions as held, and frees a token on its return or at the end of its lease; a granted token is held, or goes back where no start wants it; after three failed restarts the spindle starts without one. Completion: ELECTION_LISTEN_END, CLAIM, CLAIM_COLLECT_END, TICK, MASTER_LOSS, TICK_TIMER, TOKREQ, TOKGRANT, TOKRET, TOKEN_LEASE_EXPIRY, MEPOCH_WAIT_EXPIRY, LOCAL_SPINUP_DELAY_END each answer a next state, under the premises of its clause on the state and operands alone. (20_enclosure_bus.md (R597; R598; R599; R600; R601; R602); 09_spindle.md (R271)) -/
def Obligations.elections_and_tokens : Prop :=
  (∀ (s : State), s.live = true → s.isServing .DE = true → s.eb.electing = true → s.fld EB_STAT.ELECT = elListening →
    ∃ t, exec .electionListenEnd s = .next t ∧ t.fld EB_STAT.ELECT = elClaiming ∧ t.eb.claims = s.eb.claims ++ [s.ownClaim] ∧ t.eb.electing = true ∧
      ⟨ebClaim, none, leBytes 1 1 ++ zeros 1 ++ leBytes 8 s.ownClaim.2.2.1⟩ ∈ t.ebWaits ∧ OnlyParts [.regs, .tickMem, .eb] s t ∧ OnlyRegs [EB_STAT.REG.addr] s t) ∧
  (∀ (s : State) (h : EbHdr) (prio idlow : Nat), s.live = true → s.isServing .DE = true → s.eb.electing = true → h.enclid = s.enclId →
    ∃ t, exec (.claim h prio idlow) s = .next t ∧ t.eb.claims = s.eb.claims ++ [(prio, h.node, idlow, h.bay)] ∧ t.fld EB_RX.RCVD = Nat.min (s.fld EB_RX.RCVD + 1) 65535 ∧
      OnlyParts [.regs, .tickMem, .eb] s t ∧ OnlyRegs [EB_RX.REG.addr] s t) ∧
  (∀ (s : State), s.live = true → s.isServing .DE = true → s.eb.electing = true → s.fld EB_STAT.ELECT = elClaiming → (∀ c ∈ s.eb.claims, s.ownClaim.1 < c.1 ∨ (s.ownClaim.1 = c.1 ∧ s.ownClaim.2.1 < c.2.1) ∨ c = s.ownClaim) →
    ∃ u : State, exec .claimCollectEnd s = .next u.poolMasterKnown ∧ u.fld EB_STAT.ELECT = elMaster ∧ u.fld EB_MASTER.MEPOCH = (s.eb.heard + 1) % 65536 ∧ u.fld EB_MASTER.NODE = s.plcaNode % 256 ∧
      u.fld EB_MASTER.BAY = s.bay % 256 ∧ u.eb.epochWait = true ∧ u.eb.electing = false ∧ u.fld EB_ETOFF.OFFSET = 0 ∧
      ⟨ebTick, none, leBytes 2 ((s.eb.heard + 1) % 65536) ++ leBytes 1 (u.fld EB_TOKEN.FREE)⟩ ∈ u.ebWaits ∧ OnlyParts [.regs, .tickMem, .eb] s u) ∧
  (∀ (s : State) (c : Nat × Nat × Nat × Nat), s.live = true → s.isServing .DE = true → s.eb.electing = true → s.fld EB_STAT.ELECT = elClaiming → c ∈ s.eb.claims → c.1 < 1 → (∀ e ∈ s.eb.claims, e = c ∨ c.1 < e.1) →
    ∃ t, exec .claimCollectEnd s = .next t ∧ t.fld EB_STAT.ELECT = elFollower ∧ t.fld EB_MASTER.NODE = c.2.1 % 256 ∧ t.fld EB_MASTER.BAY = c.2.2.2 % 256 ∧ t.fld EB_MASTER.MEPOCH = s.fld EB_MASTER.MEPOCH ∧
      t.eb.electing = false ∧ t.eb.tx = s.eb.tx ∧ OnlyParts [.regs, .tickMem, .eb] s t ∧ OnlyRegs [EB_STAT.REG.addr, EB_MASTER.REG.addr] s t) ∧
  (∀ (s : State) (h : EbHdr) (mepoch tokfree : Nat), s.live = true → s.isServing .DE = true → h.enclid = s.enclId → s.isMaster = false ∨ nodeRank h.node < nodeRank s.plcaNode →
    ∃ u : State, exec (.tick h mepoch tokfree) s = .next u.poolMasterKnown ∧ u.fld EB_STAT.ELECT = elFollower ∧ u.fld EB_MASTER.MEPOCH = mepoch % 65536 ∧ u.fld EB_MASTER.NODE = h.node % 256 ∧ u.fld EB_MASTER.BAY = h.bay % 256 ∧
      (u.enclTime : Int) = h.etime % 2 ^ 32 ∧ u.eb.electing = false ∧ u.eb.tickSeen = s.tick ∧ u.eb.heard = mepoch ∧ u.tick = s.tick ∧ u.mem = s.mem) ∧
  (∀ (s : State) (h : EbHdr) (mepoch tokfree : Nat), s.live = true → s.isServing .DE = true → h.enclid = s.enclId → s.isMaster = true → nodeRank s.plcaNode ≤ nodeRank h.node →
    exec (.tick h mepoch tokfree) s = .next (s.bump EB_RX.RCVD)) ∧
  (∀ (s : State), s.live = true → s.isServing .DE = true → s.fld EB_STAT.ELECT = elFollower →
    ∃ t, exec .masterLoss s = .next t ∧ t.fld EB_STAT.ELECT = elListening ∧ t.fld EB_MASTER.NODE = 0xFF ∧ t.fld EB_MASTER.BAY = 0xFF ∧ t.fld EB_MASTER.MEPOCH = s.fld EB_MASTER.MEPOCH ∧ t.fld EB_ETOFF.OFFSET = s.fld EB_ETOFF.OFFSET ∧
      t.eb.electing = true ∧ t.eb.claims = [] ∧ OnlyParts [.regs, .tickMem, .eb] s t ∧ OnlyRegs [EB_STAT.REG.addr, EB_MASTER.REG.addr] s t) ∧
  (∀ (s : State), s.live = true → s.isServing .DE = true → s.isMaster = true →
    ∃ t, exec .tickTimer s = .next t ∧ ⟨ebTick, none, leBytes 2 (s.fld EB_MASTER.MEPOCH) ++ leBytes 1 (s.fld EB_TOKEN.FREE)⟩ ∈ t.ebWaits ∧ (∀ f ∈ s.ebWaits, f.type ≠ ebHealth → f ∈ t.ebWaits) ∧ OnlyParts [.eb] s t) ∧
  (∀ (s : State) (h : EbHdr) (lease : Nat), s.live = true → s.isServing .DE = true → h.enclid = s.enclId → s.isMaster = true → s.eb.queue = [] → s.eb.epochWait = false → s.eb.holders.length < s.spinTok → h.node ≠ s.plcaNode ∨ h.bay ≠ s.bay →
    ∃ t, exec (.tokreq h lease false) s = .next t ∧ t.eb.queue = [] ∧ t.eb.holders = s.eb.holders ++ [⟨h.node, h.bay, lease, s.tick, s.eb.cycle⟩] ∧
      ⟨ebTokGrant, some (h.bay, h.node), leBytes 1 h.node ++ zeros 1 ++ leBytes 2 lease ++ leBytes 2 (s.fld EB_MASTER.MEPOCH)⟩ ∈ t.ebWaits ∧
      t.fld EB_TOKEN.FREE = (s.spinTok - (s.eb.holders.length + 1)) % 256 ∧ t.fld EB_TOKEN.TAKEN = (s.eb.holders.length + 1) % 256 ∧ t.fld EB_TOKEN.QUEUE = 0 ∧ OnlyParts [.regs, .tickMem, .eb] s t ∧ OnlyRegs [EB_RX.REG.addr, EB_TOKEN.REG.addr] s t) ∧
  (∀ (s : State) (h : EbHdr) (lease : Nat), s.live = true → s.isServing .DE = true → h.enclid = s.enclId → s.isMaster = true → s.eb.epochWait = true ∨ s.spinTok ≤ s.eb.holders.length → (∀ x ∈ s.eb.queue, x.node ≠ h.node ∨ x.bay ≠ h.bay) →
    ∃ t, exec (.tokreq h lease false) s = .next t ∧ t.eb.queue = queueReq s.eb.queue ⟨h.node, h.bay, lease, s.tick, s.eb.cycle⟩ ∧ t.eb.holders = s.eb.holders ∧ t.eb.tx = s.eb.tx ∧
      t.fld EB_TOKEN.QUEUE = (s.eb.queue.length + 1) % 256 ∧ OnlyParts [.regs, .tickMem, .eb] s t ∧ OnlyRegs [EB_RX.REG.addr, EB_TOKEN.REG.addr] s t) ∧
  (∀ (s : State) (h : EbHdr) (lease : Nat), s.live = true → s.isServing .DE = true → h.enclid = s.enclId → s.isMaster = true → (∀ x ∈ s.eb.holders, x.node ≠ h.node ∨ x.bay ≠ h.bay) →
    ∃ t, exec (.tokreq h lease true) s = .next t ∧ t.eb.holders = s.eb.holders ++ [⟨h.node, h.bay, lease, s.tick, s.eb.cycle⟩] ∧ t.eb.queue = s.eb.queue ∧ t.eb.tx = s.eb.tx ∧
      t.fld EB_TOKEN.TAKEN = (s.eb.holders.length + 1) % 256 ∧ OnlyParts [.regs, .tickMem, .eb] s t ∧ OnlyRegs [EB_RX.REG.addr, EB_TOKEN.REG.addr] s t) ∧
  (∀ (s : State) (h : EbHdr) (lease mepoch : Nat), s.live = true → s.isServing .DE = true → h.enclid = s.enclId → mepoch = s.fld EB_MASTER.MEPOCH → s.eb.startWant = true →
    ∃ t, exec (.tokgrant h s.plcaNode lease mepoch) s = .next t ∧ t.bit EB_TOKEN.HELD = true ∧ t.bit EB_TOKEN.PEND = false ∧ t.eb = s.eb ∧ OnlyParts [.regs, .tickMem] s t ∧ OnlyRegs [EB_RX.REG.addr, EB_TOKEN.REG.addr] s t) ∧
  (∀ (s : State) (h : EbHdr) (lease mepoch : Nat), s.live = true → s.isServing .DE = true → h.enclid = s.enclId → mepoch = s.fld EB_MASTER.MEPOCH → s.eb.startWant = false →
    ∃ t, exec (.tokgrant h s.plcaNode lease mepoch) s = .next t ∧ t.bit EB_TOKEN.HELD = s.bit EB_TOKEN.HELD ∧ t.bit EB_TOKEN.PEND = false ∧ ⟨ebTokRet, s.masterAddr, leBytes 2 mepoch⟩ ∈ t.ebWaits ∧
      OnlyParts [.regs, .tickMem, .eb] s t ∧ OnlyRegs [EB_RX.REG.addr, EB_TOKEN.REG.addr] s t) ∧
  (∀ (s : State) (h : EbHdr) (mepoch : Nat), s.live = true → s.isServing .DE = true → h.enclid = s.enclId → s.isMaster = true → mepoch = s.fld EB_MASTER.MEPOCH → s.eb.queue = [] →
    ∃ t, exec (.tokret h mepoch) s = .next t ∧ t.eb.holders = s.eb.holders.filter (fun x => !(x.node == h.node && x.bay == h.bay)) ∧ t.eb.queue = [] ∧ t.eb.tx = s.eb.tx ∧
      t.fld EB_TOKEN.TAKEN = t.eb.holders.length % 256 ∧ OnlyParts [.regs, .tickMem, .eb] s t ∧ OnlyRegs [EB_RX.REG.addr, EB_TOKEN.REG.addr] s t) ∧
  (∀ (s : State) (node bay : Nat), s.live = true → s.isMaster = true → s.eb.queue = [] →
    ∃ t, exec (.tokenLeaseExpiry node bay) s = .next t ∧ t.eb.holders = s.eb.holders.filter (fun x => !(x.node == node && x.bay == bay)) ∧ t.eb.queue = [] ∧ t.eb.tx = s.eb.tx ∧
      t.fld EB_TOKEN.TAKEN = t.eb.holders.length % 256 ∧ OnlyParts [.regs, .tickMem, .eb] s t ∧ OnlyRegs [EB_TOKEN.REG.addr] s t) ∧
  (∀ (s : State) (x : EbToken), s.live = true → s.isServing .DE = true → s.isMaster = true → s.eb.queue = [x] → s.eb.holders.length < s.spinTok → x.node ≠ s.plcaNode ∨ x.bay ≠ s.bay →
    ∃ t, exec .mepochWaitExpiry s = .next t ∧ t.eb.epochWait = false ∧ t.eb.queue = [] ∧ t.eb.holders = s.eb.holders ++ [{ x with tick := s.tick }] ∧
      ⟨ebTokGrant, some (x.bay, x.node), leBytes 1 x.node ++ zeros 1 ++ leBytes 2 x.lease ++ leBytes 2 (s.fld EB_MASTER.MEPOCH)⟩ ∈ t.ebWaits ∧ OnlyParts [.regs, .tickMem, .eb] s t ∧ OnlyRegs [EB_TOKEN.REG.addr] s t) ∧
  (∀ (s : State), s.live = true → s.isServing .DE = false → s.eb.localDelay = true → s.eb.startWant = true →
    ∃ u : State, exec .localSpinupDelayEnd s = .next u.spBegin ∧ u.bit EB_STAT.LOCAL = true ∧ u.eb.localDelay = false ∧ u.eb.startWant = true ∧ u.tick = s.tick ∧ u.eb.tx = s.eb.tx)

/-- Sensors, the thermal states and the shutdown. A conversion is clamped, recorded and marked valid; the second in a row at or over a threshold enters Warning, Throttle or the shutdown, which retracts both actuators, asserts THERMTRIP_L and refreshes the HBM by itself; an excluded sensor moves no state; an exclusion is marked and counted, and one that blinds the protection enters Throttle; the states go back one at a time when the temperature has stayed below the threshold less the hysteresis, the third shutdown within the hour to Base-note mode. Completion: SENSOR_CONVERSION, SENSOR_EXCLUSION, THERMAL_HYSTERESIS_TIMER each answer a next state, under the premises of its clause on the state and operands alone. (21_thermal.md (R607 to R611; R613; R615; R616); 24_faults_and_base_note.md (R659; R660; R665; R667)) -/
def Obligations.thermal_protection : Prop :=
  (∀ (s : State) (n : Nat) (temp : Int), s.live = true → n < 22 → s.power.phase = .done → -220 ≤ temp → temp ≤ 600 → s.excluded n = false → temp < 4 * s.fld TH_LIMITS.WARN → temp < 4 * s.fld TH_LIMITS.THROT → temp < 4 * s.fld TH_LIMITS.SHUT →
    ∃ u : State, exec (.sensorConversion n temp) s = .next u.standbyStep ∧ u.reading n = temp ∧ u.bit (TH_SENS.VALID n) = true ∧ u.tj ≥ temp ∧ u.thState = s.thState ∧ (u.sensor n).nWarn = 0 ∧ (u.sensor n).nThrot = 0 ∧ (u.sensor n).nShut = 0 ∧
      (∀ k : Nat, k < 22 → k ≠ n → u.reading k = s.reading k ∧ u.sensor k = s.sensor k) ∧ u.pins = s.pins ∧ OnlyParts [.regs, .tickMem, .thermal, .sil] s u) ∧
  (∀ (s : State) (n : Nat) (temp : Int), s.live = true → n < 22 → s.power.phase = .done → temp < -220 ∨ 600 < temp →
    ∃ u : State, exec (.sensorConversion n temp) s = .next u.standbyStep ∧ u.reading n = (if temp < 0 then -220 else 600) ∧ u.bit (TH_SENS.VALID n) = true) ∧
  (∀ (s : State) (n : Nat) (temp : Int), s.live = true → n < 22 → s.power.phase = .done → temp ≤ 600 → s.excluded n = false → 1 ≤ (s.sensor n).nWarn → 4 * s.fld TH_LIMITS.WARN ≤ temp → temp < 4 * s.fld TH_LIMITS.THROT → temp < 4 * s.fld TH_LIMITS.SHUT → s.thState = thNormal →
    ∃ u : State, exec (.sensorConversion n temp) s = .next u.standbyStep ∧ u.thState = thWarning ∧ u.reading n = (if temp < -220 then -220 else temp) ∧ u.fld TH_EVT.THROTTLE = s.fld TH_EVT.THROTTLE ∧ u.pins.thermtripL = s.pins.thermtripL) ∧
  (∀ (s : State) (n : Nat) (temp : Int), s.live = true → n < 22 → s.power.phase = .done → temp ≤ 600 → s.excluded n = false → 1 ≤ (s.sensor n).nThrot → 4 * s.fld TH_LIMITS.THROT ≤ temp → -220 ≤ temp → temp < 4 * s.fld TH_LIMITS.SHUT → s.thState = thNormal ∨ s.thState = thWarning →
    ∃ u : State, exec (.sensorConversion n temp) s = .next u.standbyStep ∧ u.thState = thThrottle ∧ u.reading n = temp ∧ u.fld TH_EVT.THROTTLE = Nat.min (s.fld TH_EVT.THROTTLE + 1) 65535 ∧ u.pins.thermtripL = s.pins.thermtripL) ∧
  (∀ (s : State) (n : Nat) (temp : Int), s.live = true → n < 22 → s.power.phase = .done → temp ≤ 600 → s.excluded n = false → 1 ≤ (s.sensor n).nShut → 4 * s.fld TH_LIMITS.SHUT ≤ temp → -220 ≤ temp → s.thState ≠ thShutdown →
    ∃ u : State, exec (.sensorConversion n temp) s = .next u.standbyStep ∧ u.thState = thShutdown ∧ u.reading n = temp ∧ u.pins.thermtripL = true ∧ u.bit TH_STAT.TRIPPED = true ∧ u.fld HM_STAT.SREF = 0xF ∧ u.power.frozen = true ∧ u.power.frameBar = true ∧
      (∀ n < 2, u.gate .A n = false ∧ u.gate .B n = false) ∧ (∀ a ∈ [Act.A, Act.B], s.svState a = svFollowing → u.svState a = svRetracting) ∧ (∀ l ∈ lanes9, u.lnState l = lnOff) ∧
      u.fld TH_EVT.SHUTDOWN = Nat.min (s.fld TH_EVT.SHUTDOWN + 1) 65535 ∧ u.thermal.shutTick = s.tick) ∧
  (∀ (s : State) (n : Nat) (temp : Int), s.live = true → n < 22 → s.power.phase = .done → s.excluded n = true → -220 ≤ temp → temp ≤ 600 →
    ∃ u : State, exec (.sensorConversion n temp) s = .next u.standbyStep ∧ u.reading n = temp ∧ u.thState = s.thState ∧ u.sensor n = s.sensor n ∧ u.pins = s.pins ∧ OnlyParts [.regs, .tickMem, .sil] s u) ∧
  (∀ (s : State) (n : Nat) (temp : Int), s.live = true → 22 ≤ n ∨ s.power.phase ≠ .done → exec (.sensorConversion n temp) s = .next s.standbyStep) ∧
  (∀ (s : State) (n : Nat), s.live = true → n < 22 → s.exclusionDue n = true → s.excluded n = false → s.bit TH_STAT.BLIND = true ∨ (n < 14 ∧ ((List.range 14).filter s.excluded).length < 4 ∧ s.excluded 14 = false ∧ s.excluded 18 = false) →
    ∃ t, exec (.sensorExclusion n) s = .next t ∧ t.excluded n = true ∧ t.bit (TH_SENS.EXCL n) = true ∧ (∀ k : Nat, k < 22 → k ≠ n → t.excluded k = s.excluded k) ∧ t.fld TH_STAT.NEXCL = (s.fld TH_STAT.NEXCL + 1) % 32 ∧
      t.bit FB_ALERT.UNIT = true ∧ t.thState = s.thState ∧ t.bit TH_STAT.BLIND = s.bit TH_STAT.BLIND ∧ t.sensor n = Sensor.reset ∧ t.reading n = s.reading n ∧ OnlyParts [.regs, .tickMem, .thermal, .sil, .freeIdx] s t) ∧
  (∀ (s : State) (n : Nat), s.live = true → n < 14 → s.exclusionDue n = true → s.excluded n = false → s.bit TH_STAT.BLIND = false → 4 ≤ ((List.range 14).filter s.excluded).length →
    ∃ t, exec (.sensorExclusion n) s = .next t ∧ t.excluded n = true ∧ t.bit TH_STAT.BLIND = true ∧ t.bit FB_ALERT.UNIT = true ∧ t.thState = Nat.max thThrottle s.thState ∧ t.sensor n = Sensor.reset) ∧
  (∀ (s : State) (n : Nat), s.live = true → 22 ≤ n ∨ s.excluded n = true →
    ∃ t, exec (.sensorExclusion n) s = .next t ∧ t.thermal.sensors = s.thermal.sensors ∧ OnlyParts [.thermal] s t) ∧
  (∀ (s : State) (n : Nat), s.live = true → s.exclusionDue n = false → exec (.sensorExclusion n) s = .next s) ∧
  (∀ (s : State), s.live = true → s.thState = thWarning → s.thCool 1 = true →
    ∃ u : State, exec .thermalHysteresisTimer s = .next u.standbyStep ∧ u.thState = thNormal ∧ u.fld TH_STAT.TJ = s.fld TH_STAT.TJ ∧ u.bit TH_STAT.BLIND = s.bit TH_STAT.BLIND ∧ OnlyParts [.regs, .tickMem, .thermal, .sil] s u) ∧
  (∀ (s : State), s.live = true → s.thState = thThrottle → s.thCool 1 = true → s.bit TH_STAT.BLIND = false →
    ∃ u : State, exec .thermalHysteresisTimer s = .next u.standbyStep ∧ u.thState = thWarning ∧ u.fld TH_STAT.TJ = s.fld TH_STAT.TJ ∧ OnlyParts [.regs, .tickMem, .thermal, .sil] s u) ∧
  (∀ (s : State), s.live = true → (s.thState = thThrottle ∧ (s.bit TH_STAT.BLIND = true ∨ s.thCool 1 = false)) ∨ (s.thState = thWarning ∧ s.thCool 1 = false) ∨ (s.thState = thShutdown ∧ (s.thCool 10 = false ∨ s.pins.thermtripL = false)) ∨ s.thState = thNormal →
    exec .thermalHysteresisTimer s = .next s.standbyStep) ∧
  (∀ (s : State), s.live = true → s.thState = thShutdown → s.thCool 10 = true → s.pins.thermtripL = true → s.thermal.shutTicks.length < 3 → s.bit FB_STAT.BASENOTE = false →
    ∃ u : State, exec .thermalHysteresisTimer s = .next u.standbyStep ∧ u.thState = thThrottle ∧ u.pins.thermtripL = false ∧ u.power.frozen = false ∧ u.bit TH_STAT.TRIPPED = s.bit TH_STAT.TRIPPED) ∧
  (∀ (s : State), s.live = true → s.thState = thShutdown → s.thCool 10 = true → s.pins.thermtripL = true → 3 ≤ s.thermal.shutTicks.length →
    exec .thermalHysteresisTimer s = .next ((s.modPins (fun p => { p with thermtripL := false })).baseNote 9 s.thermal.shutTj).standbyStep)

/-- Records, stamps and the end of a gauge's duration. A record of an exempt code is queued; one of another code takes a token, and without one is suppressed and counted; a full queue loses it. The oldest queued record goes to the end of the log; without MRAM it waits; a record that does not fit is counted as lost; every 0.1 h a stamp goes to the next slot; a summary of suppressed records is queued and clears their count; a gauge stops at the end of its duration. Completion: SILLAGE_APPEND, STAMP_TIMER, SUPPRESSION_SUMMARY_TIMER, GAUGE_DURATION_END each answer a next state, under the premises of its clause on the state and operands alone. (22_sillage_and_gauges.md (R619; R620; R621 to R627; R635)) -/
def Obligations.the_log_and_the_gauges : Prop :=
  (∀ (s : State) (r : SilRec) (l : List SilRec), s.live = true → s.sil.queue = r :: l → s.mramAdmits = true → r.fields.length ≤ 200 → s.bit SL_STAT.FULL = false → s.logPos + recordLen r.fields + 32 ≤ logEnd → s.logPos % 8 = 0 →
    ∃ t, exec .sillageAppend s = .next t ∧ t.sil.queue = l ∧ t.logPos = s.logPos + recordLen r.fields ∧ (t.silGet (s.logPos) (recordLen r.fields)).data = s.recordBytes r.code r.tick r.fields ∧
      (t.silGet (s.logPos) (recordLen r.fields)).bad = false ∧ (∀ i : Nat, i ∉ wordSpan (silBase + s.logPos) (recordLen r.fields) → t.wordAt .mram i = s.wordAt .mram i) ∧ t.sil.buckets = s.sil.buckets ∧
      t.mem.hbm = s.mem.hbm ∧ OnlyParts [.regs, .tickMem, .sil, .mem] s t ∧ OnlyRegs [SL_NEXT.OFFSET.addr] s t) ∧
  (∀ (s : State) (code : Nat) (f : List Byte), silExempt code = false → tokenUnit ≤ (s.bucket code).level → (s.bucket code).count = 0 → s.sil.queue.length < 256 →
    (s.record code f).sil.queue = s.sil.queue ++ [⟨code, s.tick, f⟩] ∧ ((s.record code f).bucket code).level = (s.bucket code).level - tokenUnit ∧ OnlyParts [.sil] s (s.record code f)) ∧
  (∀ (s : State) (code : Nat) (f : List Byte), silExempt code = false → (s.bucket code).level < tokenUnit →
    (s.record code f).sil.queue = s.sil.queue ∧ (s.record code f).fld SL_SUPP.COUNT = Nat.min (s.fld SL_SUPP.COUNT + 1) (2 ^ 32 - 1) ∧ ((s.record code f).bucket code).count = (s.bucket code).count + 1 ∧
      ((s.record code f).bucket code).last = s.fld SL_HOURS.VALUE ∧ OnlyParts [.regs, .tickMem, .sil] s (s.record code f) ∧ OnlyRegs [SL_SUPP.COUNT.addr] s (s.record code f)) ∧
  (∀ (s : State) (code : Nat) (f : List Byte), silExempt code = true → s.sil.queue.length ≤ 256 →
    (s.record code f).sil.queue = (if s.sil.queue.length = 256 then s.sil.queue else s.sil.queue ++ [⟨code, s.tick, f⟩]) ∧
      (s.record code f).fld SL_LOST.QUEUE = (if s.sil.queue.length = 256 then Nat.min (s.fld SL_LOST.QUEUE + 1) (Fld.max SL_LOST.QUEUE) else s.fld SL_LOST.QUEUE)) ∧
  (∀ (s : State) (r : SilRec) (l : List SilRec), s.live = true → s.sil.queue = r :: l → s.mramAdmits = true → s.bit SL_STAT.FULL = true →
    ∃ t, exec .sillageAppend s = .next t ∧ t.sil.queue = l ∧ t.fld SL_LOST.FULL = Nat.min (s.fld SL_LOST.FULL + 1) 65535 ∧ OnlyParts [.regs, .tickMem, .sil] s t ∧ OnlyRegs [SL_LOST.FULL.addr] s t) ∧
  (∀ (s : State) (r : SilRec) (l : List SilRec), s.live = true → s.sil.queue = r :: l → s.mramAdmits = true → s.bit SL_STAT.FULL = false → logEnd < s.logPos + (s.recordBytes r.code r.tick r.fields).length + 32 → s.logPos + 32 ≤ logEnd → s.logPos % 8 = 0 →
    ∃ t, exec .sillageAppend s = .next t ∧ t.sil.queue = l ∧ t.bit SL_STAT.FULL = true ∧ t.fld SL_LOST.FULL = Nat.min (s.fld SL_LOST.FULL + 1) 65535 ∧ t.logPos = s.logPos + 32) ∧
  (∀ (s : State), s.live = true → s.mramAdmits = false ∨ s.sil.queue = [] → exec .sillageAppend s = .next s) ∧
  (∀ (s : State), s.live = true → s.power.hibernate = false → s.mramAdmits = true → s.fld SL_HOURS.VALUE < 2 ^ 32 - 1 →
    ∃ t, exec .stampTimer s = .next t ∧ t.fld SL_HOURS.VALUE = s.fld SL_HOURS.VALUE + 1 ∧ t.sil.stampSeq = s.sil.stampSeq + 1 ∧
      (t.silGet (64 * ((s.sil.stampSeq + 1) % 64)) 64).data = stampBytes (s.sil.stampSeq + 1) (s.fld SL_HOURS.VALUE + 1) (s.fld SL_PCYC.VALUE) (s.fld SL_UNSAFE.VALUE) false ∧
      (∀ i : Nat, i ∉ wordSpan (silBase + 64 * ((s.sil.stampSeq + 1) % 64)) 64 → t.wordAt .mram i = s.wordAt .mram i) ∧ t.mem.hbm = s.mem.hbm ∧ t.sil.queue = s.sil.queue ∧ OnlyParts [.regs, .tickMem, .sil, .mem] s t ∧ OnlyRegs [SL_HOURS.VALUE.addr] s t) ∧
  (∀ (s : State) (code : Nat), s.live = true → 0 < (s.bucket code).count → s.sil.queue.length < 256 →
    ∃ t, exec (.suppressionSummaryTimer code) s = .next t ∧ (t.bucket code).count = 0 ∧
      t.sil.queue = s.sil.queue ++ [⟨0x1602, s.tick, leBytes 2 code ++ zeros 2 ++ leBytes 4 (s.bucket code).count ++ leBytes 4 (s.bucket code).first ++ leBytes 4 (s.bucket code).last⟩] ∧ OnlyParts [.sil] s t) ∧
  (∀ (s : State) (code : Nat), s.live = true → (s.bucket code).count = 0 → exec (.suppressionSummaryTimer code) s = .next s) ∧
  (∀ (s : State) (g : Nat), s.live = true → g < 64 → s.bit (GA_CTL.ARMED g) = true → SMap.get (fun _ => 0) s.sil.gaugeDur g ≠ 0 →
    ∃ t, exec (.gaugeDurationEnd g) s = .next t ∧ t.bit (GA_CTL.ARMED g) = false ∧ t.fld (GA_CTL.SRC g) = s.fld (GA_CTL.SRC g) ∧ t.fld (GA_CTL.INST g) = s.fld (GA_CTL.INST g) ∧ OnlyParts [.regs, .tickMem] s t ∧ OnlyRegs [(GA_CTL.ARMED g).addr] s t)

/-- Security Receive, the signed operations, SPDM and MCTP. Security Receive returns the protocol list, the status block or the waiting SPDM response; a signed operation that its authorisation passes raises a floor to no more than the generation applied, or starts the write of a newer key area, and one it does not pass changes neither; SPDM goes through version, capabilities and algorithms to digests, certificates, challenge and measurements, answers what comes out of order with an error and signs nothing in test mode; MCTP control requests are answered and set the endpoint ID. Completion: SECURITY_RECEIVE, RAISE_ROLLBACK_FLOOR, WRITE_KEY_CERT_AREA, SPDM_GET_VERSION, SPDM_GET_CAPABILITIES, SPDM_NEGOTIATE_ALGORITHMS, SPDM_GET_DIGESTS, SPDM_GET_CERTIFICATE, SPDM_CHALLENGE, SPDM_GET_MEASUREMENTS, MCTP_SET_ENDPOINT_ID, MCTP_GET_ENDPOINT_ID, MCTP_GET_MESSAGE_TYPE_SUPPORT, MCTP_GET_VERSION_SUPPORT each answer a next state, under the premises of its clause on the state and operands alone. (19_service_rings.md (R580); 23_security.md (R647; R649; R651 to R656)) -/
def Obligations.security_commands : Prop :=
  (∀ (s : State) (c cid : Nat) (m : Cmd), s.live = true → s.admReady c cid 0x82 m = true → natBits m.e.cdw10 24 8 = 0 →
    exec (.securityReceive c cid) s = .next ((s.hostWrite .data m.ctrl m.e.dptr ((zeros 6 ++ [0, 3, 0x00, 0xE8, 0xF0]).take m.e.cdw11)).finish m .ok 0)) ∧
  (∀ (s : State) (c cid : Nat) (m : Cmd), s.live = true → s.admReady c cid 0x82 m = true → natBits m.e.cdw10 24 8 = 0xF0 →
    exec (.securityReceive c cid) s = .next ((s.hostWrite .data m.ctrl m.e.dptr (s.secStatus.take m.e.cdw11)).finish m .ok 0)) ∧
  (∀ (s : State) (c cid : Nat) (m : Cmd), s.live = true → s.admReady c cid 0x82 m = true → natBits m.e.cdw10 24 8 = 0xE8 →
    ∃ u : State, exec (.securityReceive c cid) s = .next ((u.hostWrite .data m.ctrl m.e.dptr ((SMap.get (fun _ => []) s.sec.replies m.ctrl).take m.e.cdw11)).finish m .ok 0) ∧ SMap.get (fun _ => []) u.sec.replies m.ctrl = [] ∧
      (∀ k : Nat, k < 4 → k ≠ m.ctrl → SMap.get (fun _ => []) u.sec.replies k = SMap.get (fun _ => []) s.sec.replies k) ∧ OnlyParts [.sec] s u) ∧
  (∀ (s : State) (c cid : Nat) (sent : List Byte) (ok : Bool) (m : Cmd), s.live = true → s.admReady c cid 0x81 m = true → natBits m.e.cdw10 24 8 = 0xF0 → 480 ≤ sent.length → leAt sent 0 1 = 1 → leAt sent 1 1 = 1 → opDlen (slice sent 0 64) = 0 → opForm (slice sent 0 64) = true →
    (List.range 8).all (fun k => (s.ring k).descs.all (fun d => !d.signed)) = true → s.bit AC_STAT.BUSY = false → s.nvme.activation = none → s.nvme.fwStore = none →
    s.nv.floorA.length < 128 → s.accordFloor < opValue (slice sent 0 64) → opValue (slice sent 0 64) ≤ s.fld AC_GEN.GEN →
    exec (.raiseRollbackFloor c cid sent ok) s = .next (match s.authFails (slice sent 64 416) (slice sent 0 64) 0 true with
      | some (st, reason) => (s.refuse 3 reason).opDone m 1 st
      | none => (((s.newNonce).modNv (fun n => { n with floorA := n.floorA ++ [otpRecord 1 (opValue (slice sent 0 64)) ok] })).floorSync).opDone m 1 (if ok then rsSuccess else rsUnitError))) ∧
  (∀ (s : State) (c cid : Nat) (sent : List Byte) (ok : Bool) (m : Cmd), s.live = true → s.admReady c cid 0x81 m = true → natBits m.e.cdw10 24 8 = 0xF0 → 480 ≤ sent.length → leAt sent 0 1 = 1 → leAt sent 1 1 = 2 → opDlen (slice sent 0 64) = 0 → opForm (slice sent 0 64) = true →
    (List.range 8).all (fun k => (s.ring k).descs.all (fun d => !d.signed)) = true → s.bit AC_STAT.BUSY = false → s.nvme.activation = none → s.nvme.fwStore = none →
    s.nv.floorP.length < 128 → s.patchFloor < opValue (slice sent 0 64) → opValue (slice sent 0 64) ≤ s.fld ST_PATCHGEN.GEN →
    exec (.raiseRollbackFloor c cid sent ok) s = .next (match s.authFails (slice sent 64 416) (slice sent 0 64) 0 false with
      | some (st, reason) => (s.refuse 3 reason).opDone m 1 st
      | none => (((s.newNonce).modNv (fun n => { n with floorP := n.floorP ++ [otpRecord 2 (opValue (slice sent 0 64)) ok] })).floorSync).opDone m 1 (if ok then rsSuccess else rsUnitError))) ∧
  (∀ (s : State) (c cid : Nat) (sent : List Byte) (ok : Bool) (m : Cmd), s.live = true → s.admReady c cid 0x81 m = true → natBits m.e.cdw10 24 8 = 0xF0 → 480 ≤ sent.length → leAt sent 0 1 = 1 → leAt sent 1 1 = 1 → opDlen (slice sent 0 64) = 0 → opForm (slice sent 0 64) = true →
    (List.range 8).all (fun k => (s.ring k).descs.all (fun d => !d.signed)) = true → s.bit AC_STAT.BUSY = false → s.nvme.activation = none → s.nvme.fwStore = none →
    s.fld AC_GEN.GEN < opValue (slice sent 0 64) ∨ opValue (slice sent 0 64) ≤ s.accordFloor →
    exec (.raiseRollbackFloor c cid sent ok) s = .next (match s.authFails (slice sent 64 416) (slice sent 0 64) 0 true with
      | some (st, reason) => (s.refuse 3 reason).opDone m 1 st
      | none => s.newNonce.opDone m 1 rsRefused)) ∧
  (∀ (s : State) (c cid : Nat) (sent : List Byte) (m : Cmd), s.live = true → s.admReady c cid 0x81 m = true → natBits m.e.cdw10 24 8 = 0xF0 → 480 + opDlen (slice sent 0 64) ≤ sent.length → leAt sent 0 1 = 2 → opDlen (slice sent 0 64) ≤ 0x10000 → opForm (slice sent 0 64) = true →
    (List.range 8).all (fun k => (s.ring k).descs.all (fun d => !d.signed)) = true → s.bit AC_STAT.BUSY = false → s.nvme.activation = none → s.nvme.fwStore = none →
    exec (.writeKeyCertArea c cid sent) s = .next (match s.authFails (slice sent 64 416) (slice sent 0 64 ++ (sent.drop 480).take (opDlen (slice sent 0 64))) 1 true with
      | some (st, reason) => (s.refuse 3 reason).opDone m 2 st
      | none => if areaOk ((sent.drop 480).take (opDlen (slice sent 0 64))) && s.areaNewer ((sent.drop 480).take (opDlen (slice sent 0 64))) then
          ((s.newNonce.begin m).modNvme (fun n => { n with secLastOp := 2 })).flashStart ⟨2 + s.areaTarget, m.ctrl, m.e.cid, 1, true, (sent.drop 480).take (opDlen (slice sent 0 64))⟩
        else s.newNonce.opDone m 2 rsInvalidField)) ∧
  (∀ (s : State) (ch cid : Nat) (req : List Byte), s.live = true → ch < 2 → s.mctpUp ch = true → leAt req 1 1 = 0x84 →
    ∃ t, exec (.spdmGetVersion ch cid req) s = .next t ∧ t.sec.vdm = s.sec.vdm ++ [(ch, [5, 0x10, 0x04, 0, 0, 0, 1, 0, 0x12])] ∧ (t.spdm ch).stage = 1 ∧ (t.spdm ch).opening = req ++ [0x10, 0x04, 0, 0, 0, 1, 0, 0x12] ∧ OnlyParts [.sec] s t) ∧
  (∀ (s : State) (ch cid : Nat) (req : List Byte), s.live = true → ch < 2 → s.mctpUp ch = true → leAt req 1 1 ∉ [0x84, 0xE1, 0xE3, 0x81, 0x82, 0x83, 0xE0] →
    ∃ t, exec (.spdmGetVersion ch cid req) s = .next t ∧ t.sec.vdm = s.sec.vdm ++ [(ch, [5] ++ spdmError errUnsupported (leAt req 1 1))] ∧ t.sec.spdm = s.sec.spdm ∧ OnlyParts [.sec] s t) ∧
  (∀ (s : State) (ch cid : Nat) (req : List Byte) (m : Cmd), s.live = true → 2 ≤ ch → s.admReady (ch - 2) cid 0x81 m = true → natBits m.e.cdw10 24 8 = 0xE8 → leAt req 1 1 = 0x84 →
    ∃ u : State, exec (.spdmGetVersion ch cid req) s = .next (u.finish m .ok 0) ∧ SMap.get (fun _ => []) u.sec.replies (ch - 2) = [0x10, 0x04, 0, 0, 0, 1, 0, 0x12] ∧ (u.spdm ch).stage = 1 ∧ u.sec.vdm = s.sec.vdm ∧ OnlyParts [.sec] s u) ∧
  (∀ (s : State) (ch cid : Nat) (req : List Byte), s.live = true → ch < 2 → s.mctpUp ch = true → leAt req 1 1 = 0xE1 → (s.spdm ch).stage = 1 →
    ∃ t, exec (.spdmGetCapabilities ch cid req) s = .next t ∧ (t.spdm ch).stage = 2 ∧ t.sec.vdm.map (fun x => (x.1, x.2.take 13)) = s.sec.vdm.map (fun x => (x.1, x.2.take 13)) ++ [(ch, [5, 0x12, 0x61, 0, 0, 0, 15, 0, 0, 0x16, 0, 0, 0])] ∧
      t.freeIdx = s.freeIdx + 1 ∧ OnlyParts [.sec, .freeIdx] s t) ∧
  (∀ (s : State) (ch cid : Nat) (req : List Byte), s.live = true → ch < 2 → s.mctpUp ch = true → leAt req 1 1 = 0xE3 → (s.spdm ch).stage = 2 →
    ∃ t, exec (.spdmNegotiateAlgorithms ch cid req) s = .next t ∧ (t.spdm ch).stage = 3 ∧ t.sec.vdm = s.sec.vdm ++ [(ch, [5, 0x12, 0x63, 0, 0, 36, 0] ++ leBytes 1 (leAt req 6 1 % 2) ++ [0] ++ leBytes 4 (leAt req 6 1 % 2 * 2) ++
      leBytes 4 (leAt req 8 4 / 8 % 2 * 8) ++ leBytes 4 (leAt req 12 4 % 2) ++ zeros 16)] ∧ OnlyParts [.sec] s t) ∧
  (∀ (s : State) (ch cid : Nat) (req : List Byte), s.live = true → ch < 2 → s.mctpUp ch = true → leAt req 1 1 = 0x81 → (s.spdm ch).stage = 3 →
    ∃ t, exec (.spdmGetDigests ch cid req) s = .next t ∧ t.sec.vdm = s.sec.vdm ++ [(ch, [5, 0x12, 0x01, 0, 1] ++ sha256 s.certChain)] ∧ (t.spdm ch).certs = (s.spdm ch).certs ++ req ++ [0x12, 0x01, 0, 1] ++ sha256 s.certChain ∧
      (t.spdm ch).stage = 3 ∧ (t.spdm ch).opening = (s.spdm ch).opening ∧ OnlyParts [.sec] s t) ∧
  (∀ (s : State) (ch cid : Nat) (req : List Byte), s.live = true → ch < 2 → s.mctpUp ch = true → leAt req 1 1 = 0x82 → (s.spdm ch).stage = 3 → leAt req 2 1 % 16 = 0 →
    ∃ t, exec (.spdmGetCertificate ch cid req) s = .next t ∧ OnlyParts [.sec] s t ∧ t.sec.vdm = s.sec.vdm ++ [(ch, [5] ++ (if s.certChain.length ≤ leAt req 4 2 then spdmError errInvalid 0 else
      spdmMsg 0x02 0 0 (leBytes 2 (Nat.min (leAt req 6 2) (s.certChain.length - leAt req 4 2)) ++ leBytes 2 (s.certChain.length - leAt req 4 2 - Nat.min (leAt req 6 2) (s.certChain.length - leAt req 4 2)) ++
        slice s.certChain (leAt req 4 2) (Nat.min (leAt req 6 2) (s.certChain.length - leAt req 4 2)))))]) ∧
  (∀ (s : State) (ch cid : Nat) (req : List Byte), s.live = true → ch < 2 → s.mctpUp ch = true → leAt req 1 1 = 0x83 → (s.spdm ch).stage = 3 → leAt req 2 1 = 0 → leAt req 3 1 = 0 ∨ leAt req 3 1 = 1 ∨ leAt req 3 1 = 0xFF → s.bit SC_STAT.TESTMODE = false →
    ∃ t, exec (.spdmChallenge ch cid req) s = .next t ∧ t.sec.vdm.length = s.sec.vdm.length + 1 ∧ t.sec.vdm.map (fun x => (x.1, x.2.take 5)) = s.sec.vdm.map (fun x => (x.1, x.2.take 5)) ++ [(ch, [5, 0x12, 0x03, 0, 1])] ∧
      t.fld SC_EVT.SPDM = Nat.min (s.fld SC_EVT.SPDM + 1) 65535 ∧ (t.spdm ch).certs = [] ∧ (t.spdm ch).meas = [] ∧ t.freeIdx = s.freeIdx + 8 ∧ OnlyParts [.regs, .tickMem, .sec, .freeIdx] s t ∧ OnlyRegs [SC_EVT.SPDM.addr] s t) ∧
  (∀ (s : State) (ch cid : Nat) (req : List Byte), s.live = true → ch < 2 → s.mctpUp ch = true → leAt req 1 1 = 0xE0 → (s.spdm ch).stage = 3 → leAt req 2 1 % 2 = 0 → leAt req 3 1 = 0xFF →
    ∃ t, exec (.spdmGetMeasurements ch cid req) s = .next t ∧ t.sec.vdm.map (fun x => (x.1, x.2.take 6)) = s.sec.vdm.map (fun x => (x.1, x.2.take 6)) ++ [(ch, [5, 0x12, 0x60, 0, 0, 7])] ∧
      (∃ nonce ∈ [(State.freeBytes 4 s).1], (t.spdm ch).meas = (s.spdm ch).meas ++ req ++ spdmMsg 0x60 0 0 (leBytes 1 7 ++ leBytes 3 ((List.range' 1 7).flatMap s.measurement).length ++ (List.range' 1 7).flatMap s.measurement ++ nonce ++ zeros 2)) ∧
      t.freeIdx = s.freeIdx + 4 ∧ OnlyParts [.sec, .freeIdx] s t) ∧
  (∀ (s : State) (ch cid : Nat) (req : List Byte), s.live = true → ch < 2 → s.mctpUp ch = true → leAt req 1 1 = 0xE0 → (s.spdm ch).stage = 3 → leAt req 2 1 % 2 = 1 → leAt req 3 1 ≤ 7 → leAt req 36 1 % 16 = 0 → s.bit SC_STAT.TESTMODE = false →
    ∃ t, exec (.spdmGetMeasurements ch cid req) s = .next t ∧ t.sec.vdm.map (fun x => (x.1, x.2.take 4)) = s.sec.vdm.map (fun x => (x.1, x.2.take 4)) ++ [(ch, [5, 0x12, 0x60] ++ leBytes 1 (if leAt req 3 1 = 0 then 7 else 0))] ∧
      t.fld SC_EVT.SPDM = Nat.min (s.fld SC_EVT.SPDM + 1) 65535 ∧ (t.spdm ch).meas = [] ∧ OnlyParts [.regs, .tickMem, .sec, .freeIdx] s t ∧ OnlyRegs [SC_EVT.SPDM.addr] s t) ∧
  (∀ (s : State) (ch cid : Nat) (req : List Byte), s.live = true → ch < 2 → s.mctpUp ch = true → (s.spdm ch).stage ≠ 3 ∨ s.bit SC_STAT.TESTMODE = true → leAt req 1 1 = 0x83 → leAt req 2 1 = 0 → leAt req 3 1 = 0 →
    ∃ t, exec (.spdmChallenge ch cid req) s = .next t ∧ t.sec.vdm = s.sec.vdm ++ [(ch, [5] ++ spdmError errUnexpected 0)] ∧ t.sec.spdm = s.sec.spdm ∧ t.fld SC_EVT.SPDM = s.fld SC_EVT.SPDM) ∧
  (∀ (s : State) (ch : Nat) (cid : Nat) (req : List Byte), s.live = true → ch < 2 → s.mctpUp ch = true → leAt req 1 1 = 0xE1 → (s.spdm ch).stage ≠ 1 → exec (.spdmGetCapabilities ch cid req) s = .next (s.spdmReply ch (spdmError errUnexpected 0))) ∧
  (∀ (s : State) (ch : Nat) (cid : Nat) (req : List Byte), s.live = true → ch < 2 → s.mctpUp ch = true → leAt req 1 1 = 0xE3 → (s.spdm ch).stage ≠ 2 → exec (.spdmNegotiateAlgorithms ch cid req) s = .next (s.spdmReply ch (spdmError errUnexpected 0))) ∧
  (∀ (s : State) (ch : Nat) (cid : Nat) (req : List Byte), s.live = true → ch < 2 → s.mctpUp ch = true → leAt req 1 1 = 0x81 → (s.spdm ch).stage ≠ 3 → exec (.spdmGetDigests ch cid req) s = .next (s.spdmReply ch (spdmError errUnexpected 0))) ∧
  (∀ (s : State) (ch : Nat) (cid : Nat) (req : List Byte), s.live = true → ch < 2 → s.mctpUp ch = true → leAt req 1 1 = 0x82 → (s.spdm ch).stage ≠ 3 → exec (.spdmGetCertificate ch cid req) s = .next (s.spdmReply ch (spdmError errUnexpected 0))) ∧
  (∀ (s : State) (ch : Nat) (cid : Nat) (req : List Byte), s.live = true → ch < 2 → s.mctpUp ch = true → leAt req 1 1 = 0xE0 → (s.spdm ch).stage ≠ 3 → exec (.spdmGetMeasurements ch cid req) s = .next (s.spdmReply ch (spdmError errUnexpected 0))) ∧
  (∀ (s : State) (p inst op eid : Nat), s.live = true → s.mctpUp p = true → op ≤ 1 → 0 < eid → eid < 0xFF →
    ∃ t, exec (.mctpSetEndpointId p inst op eid) s = .next t ∧ t.mctpEid p = eid ∧ t.sec.vdm = s.sec.vdm ++ [(p, [0] ++ leBytes 1 (inst % 32) ++ [1, 0, 0] ++ leBytes 1 eid ++ [0])] ∧ OnlyParts [.sec] s t) ∧
  (∀ (s : State) (p inst op eid : Nat), s.live = true → s.mctpUp p = true → 1 < op ∨ eid = 0 ∨ 0xFF ≤ eid →
    ∃ t, exec (.mctpSetEndpointId p inst op eid) s = .next t ∧ t.sec.eids = s.sec.eids ∧ t.sec.vdm = s.sec.vdm ++ [(p, [0] ++ leBytes 1 (inst % 32) ++ [1, 2])] ∧ OnlyParts [.sec] s t) ∧
  (∀ (s : State) (p inst : Nat), s.live = true → s.mctpUp p = true →
    ∃ t, exec (.mctpGetEndpointId p inst) s = .next t ∧ t.sec.vdm = s.sec.vdm ++ [(p, [0] ++ leBytes 1 (inst % 32) ++ [2, 0] ++ leBytes 1 (s.mctpEid p) ++ [0, 0])] ∧ t.sec.eids = s.sec.eids ∧ OnlyParts [.sec] s t) ∧
  (∀ (s : State) (p inst : Nat), s.live = true → s.mctpUp p = true →
    ∃ t, exec (.mctpGetMessageTypeSupport p inst) s = .next t ∧ t.sec.vdm = s.sec.vdm ++ [(p, [0] ++ leBytes 1 (inst % 32) ++ [5, 0, 1, 5])] ∧ t.sec.eids = s.sec.eids ∧ OnlyParts [.sec] s t) ∧
  (∀ (s : State) (p inst type : Nat), s.live = true → s.mctpUp p = true → type = 0xFF ∨ type = 0 ∨ type = 5 →
    ∃ t, exec (.mctpGetVersionSupport p inst type) s = .next t ∧ t.sec.vdm.map (fun x => (x.1, x.2.take 5)) = s.sec.vdm.map (fun x => (x.1, x.2.take 5)) ++ [(p, [0] ++ leBytes 1 (inst % 32) ++ [4, 0, 1])] ∧ t.freeIdx = s.freeIdx + 1 ∧ OnlyParts [.sec, .freeIdx] s t) ∧
  (∀ (s : State) (p inst type : Nat), s.live = true → s.mctpUp p = true → type ≠ 0xFF → type ≠ 0 → type ≠ 5 →
    ∃ t, exec (.mctpGetVersionSupport p inst type) s = .next t ∧ t.sec.vdm = s.sec.vdm ++ [(p, [0] ++ leBytes 1 (inst % 32) ++ [4, 0x80])] ∧ OnlyParts [.sec] s t)

/-- Controllers, doorbells, fetching and the timers of the host interface. Enabling builds the admin queues, ready waits for the map, a shutdown ends what is outstanding; doorbells move tails and heads and an illegal one is an error event; the fetch takes the entry at the head into flight with its locks, or ends it by the first check that fails; locks are granted in fetch order; the coalescing, error-recovery, drain and L2 timers have their effects. Completion: CONTROLLER_ENABLE, CONTROLLER_READY, CONTROLLER_RESET, CONTROLLER_SHUTDOWN, PERST_RISE, SQ_DOORBELL, CQ_HEAD_DOORBELL, COMMAND_FETCH, RANGE_LOCK_GRANT, INTERRUPT_COALESCE_TIMER, TLER_EXPIRY, BUS_MASTER_DISABLE, DELETION_DRAIN_TIMEOUT, L2_TIMEOUT each answer a next state, under the premises of its clause on the state and operands alone. (18_host_nvme.md (R534; R539 to R541; R543 to R546; R548; R555; R556; R558; R560; R561; R563; R565; R567); 24_faults_and_base_note.md (R666; R667); 03_package_pins_power.md (R109; R110)) -/
def Obligations.nvme_controllers : Prop :=
  (∀ (s : State) (c : Nat) (crime wrr : Bool) (asq acq : Nat), s.live = true → s.hasCtrl c = true → (s.ctrl c).linkUp = true → (s.ctrl c).en = false →
    ∃ t, exec (.controllerEnable c crime wrr asq acq) s = .next t ∧ (t.ctrl c).en = true ∧ (t.ctrl c).crime = crime ∧ (t.ctrl c).wrr = wrr ∧ (t.ctrl c).rdy = (s.ctrl c).rdy ∧ (t.sq c 0).map (fun q => (q.size, q.head, q.tail)) = some (asq + 1, 0, 0) ∧
      (t.cq c 0).map (fun q => (q.size, q.head, q.tail, q.phase)) = some (acq + 1, 0, 0, true) ∧ (∀ q : Nat, q ≠ 0 → t.sq c q = s.sq c q ∧ t.cq c q = s.cq c q) ∧ t.nvme.inflight = s.nvme.inflight ∧ OnlyParts [.nvme] s t) ∧
  (∀ (s : State) (c : Nat) (crime wrr : Bool) (asq acq : Nat), s.live = true → s.hasCtrl c = false ∨ (s.ctrl c).linkUp = false ∨ (s.ctrl c).en = true → exec (.controllerEnable c crime wrr asq acq) s = .next s) ∧
  (∀ (s : State) (c : Nat), s.live = true → (s.ctrl c).en = true → (s.ctrl c).rdy = false → (s.ctrl c).crime = true ∨ s.mapReady = true ∨ s.bit FB_STAT.BASENOTE = true → s.mapReady = false ∨ (s.ctrl c).attached = [] →
    ∃ t, exec (.controllerReady c) s = .next t ∧ (t.ctrl c).rdy = true ∧ (t.ctrl c).sqs = (s.ctrl c).sqs ∧ (t.ctrl c).cqs = (s.ctrl c).cqs ∧ OnlyParts [.nvme] s t) ∧
  (∀ (s : State) (c : Nat), s.live = true → (s.ctrl c).crime = false → s.mapReady = false → s.bit FB_STAT.BASENOTE = false → exec (.controllerReady c) s = .next s) ∧
  (∀ (s : State) (c : Nat), s.hasCtrl c = true → (s.ctrl c).en = true → s.nvme.inflight = [] → s.nvme.drains = [] → s.power.standbyPending = false → s.nvme.activation = none →
    ∃ u : State, exec (.controllerReset c .en) s = .next u.standbyStep ∧ (u.ctrl c).en = false ∧ (u.ctrl c).rdy = false ∧ (u.ctrl c).linkUp = (s.ctrl c).linkUp ∧ (u.ctrl c).attached = (s.ctrl c).attached ∧ u.nvme.namespaces = s.nvme.namespaces) ∧
  (∀ (s : State) (c : Nat), s.hasCtrl c = true → (s.ctrl c).en = true → s.nvme.inflight = [] → s.nvme.drains = [] → s.nvme.activation = none →
    ∃ u : State, exec (.controllerReset c .perst) s = .next u.standbyStep ∧ (u.ctrl c).en = false ∧ (u.ctrl c).linkUp = false ∧ (u.ctrl c).perst = false ∧ (u.ctrl c).attached = (s.ctrl c).attached ∧ u.nvme.namespaces = s.nvme.namespaces) ∧
  (∀ (s : State) (c shn : Nat), s.live = true → (s.ctrl c).en = true → shn = 1 ∨ shn = 2 → s.nvme.inflight = [] →
    ∃ u : State, exec (.controllerShutdown c shn) s = .next u.standbyStep ∧ (u.ctrl c).shn = shn ∧ (u.ctrl c).shst = 2 ∧ (u.ctrl c).stopped = true ∧ (u.ctrl c).aers = [] ∧ (u.ctrl c).en = true ∧ OnlyParts [.nvme] s u) ∧
  (∀ (s : State) (c shn : Nat) (m : Cmd) (y : SubQ) (x : ComQ), s.live = true → (s.ctrl c).en = true → shn = 1 ∨ shn = 2 → s.alone m y x = true → m.ctrl = c → m.sq = 1 → isReadOp m.e.opc = true → m.durable = false →
    ∃ u : State, exec (.controllerShutdown c shn) s = .next u.standbyStep ∧ u.nvme.inflight = [] ∧ u.nvme.posted = s.nvme.posted ++ [m.entry y x .abortRequested 0] ∧ (u.ctrl c).shst = 2) ∧
  (∀ (s : State) (c : Nat), c < 2 → ∃ u : State, exec (.perstRise c) s = .next u.wakeHibernate ∧ (u.ctrl c).perst = true ∧ (u.ctrl c).linkUp = (!s.power.vserDown && s.power.phase == .done && s.hasCtrl c) ∧ OnlyParts [.nvme] s u) ∧
  (∀ (s : State) (c q : Nat) (x : SubQ) (tail : Nat), s.live = true → (s.ctrl c).en = true → s.sq c q = some x → tail < x.size →
    ∃ t, exec (.sqDoorbell c q tail) s = .next t ∧ t.sq c q = some { x with tail := tail } ∧ (∀ k : Nat, k ≠ q → t.sq c k = s.sq c k) ∧ t.nvme.posted = s.nvme.posted ∧ t.nvme.inflight = s.nvme.inflight ∧ OnlyParts [.nvme] s t) ∧
  (∀ (s : State) (c q v : Nat), s.live = true → (s.ctrl c).en = true → (s.ctrl c).aers = [] → s.sq c q = none →
    ∃ t, exec (.sqDoorbell c q v) s = .next t ∧ ⟨0, 0, 1⟩ ∈ (t.ctrl c).events ∧ (t.ctrl c).sqs = (s.ctrl c).sqs ∧ OnlyParts [.nvme] s t) ∧
  (∀ (s : State) (c q v : Nat) (x : SubQ), s.live = true → (s.ctrl c).en = true → (s.ctrl c).aers = [] → s.sq c q = some x → x.size ≤ v →
    ∃ t, exec (.sqDoorbell c q v) s = .next t ∧ ⟨0, 1, 1⟩ ∈ (t.ctrl c).events ∧ (t.ctrl c).sqs = (s.ctrl c).sqs ∧ OnlyParts [.nvme] s t) ∧
  (∀ (s : State) (c q v : Nat), s.live = true → (s.ctrl c).en = true → (s.ctrl c).aers = [] → (s.cq c q).map (fun x => decide (x.size ≤ v)) ≠ some false →
    ∃ t, exec (.cqHeadDoorbell c q v) s = .next t ∧ ((t.ctrl c).events.any (fun e => e.type == 0 && e.page == 1)) = true ∧ (t.ctrl c).cqs = (s.ctrl c).cqs ∧ OnlyParts [.nvme] s t) ∧
  (∀ (s : State) (c q : Nat) (x : ComQ) (head : Nat), s.live = true → (s.ctrl c).en = true → s.cq c q = some x → head < x.size → x.held = [] → s.nvme.inflight = [] → s.nvme.drains = [] →
    ∃ t, exec (.cqHeadDoorbell c q head) s = .next t ∧ t.cq c q = some { x with head := head } ∧ (∀ k : Nat, k ≠ q → t.cq c k = s.cq c k) ∧ t.nvme.posted = s.nvme.posted ∧ OnlyParts [.nvme] s t) ∧
  (∀ (s : State) (c q : Nat) (x : ComQ) (e : Cqe), s.live = true → (s.ctrl c).en = true → s.cq c q = some x → x.held = [e] → 2 < x.size → x.tail + 1 = x.size → s.nvme.inflight = [] → s.nvme.drains = [] →
    ∃ t, exec (.cqHeadDoorbell c q 1) s = .next t ∧ t.nvme.posted = s.nvme.posted ++ [{ e with phase := x.phase }] ∧ (t.cq c q).map (fun y => (y.head, y.tail, y.phase, y.held)) = some (1, 0, !x.phase, []) ∧ OnlyParts [.nvme] s t) ∧
  (∀ (s : State) (c q : Nat) (e : SqEntry) (ranges : List (Nat × Nat)) (x : SubQ), s.live = true → s.sq c q = some x → s.mayFetch c q e x = true → s.fetchStatus c q e ranges = none → q ≠ 0 → s.power.standbyPending = false → (s.newCmd c q e ranges none).media = true → s.pwState = pwActive → s.locksTaken + (s.locksOf e ranges).length ≤ 8192 → s.cmd? c q e.cid = none →
    ∃ u : State, exec (.commandFetch c q e ranges) s = .next u.standbyStep ∧ u.nvme.inflight = s.nvme.inflight ++ [{ s.newCmd c q e ranges none with taken := true, granted := s.nvme.inflight.all (fun k => s.nvme.nextSeq ≤ k.seq || k.locks.all (fun j => (s.locksOf e ranges).all (fun l => !l.clash j))) }] ∧
      (u.sq c q).map (fun y => (y.head, y.tail)) = some ((x.head + 1) % x.size, x.tail) ∧ u.nvme.posted = s.nvme.posted ∧ u.nvme.nextSeq = s.nvme.nextSeq + 1 ∧ OnlyParts [.nvme] s u) ∧
  (∀ (s : State) (c : Nat) (e : SqEntry) (ranges : List (Nat × Nat)) (x : SubQ), s.live = true → s.sq c 0 = some x → s.mayFetch c 0 e x = true → s.fetchStatus c 0 e ranges = none →
    ∃ u : State, exec (.commandFetch c 0 e ranges) s = .next u.standbyStep ∧ u.nvme.inflight = s.nvme.inflight ++ [s.newCmd c 0 e ranges none] ∧ u.sq c 0 = some { x with head := (x.head + 1) % x.size } ∧ u.nvme.nextSeq = s.nvme.nextSeq + 1 ∧
      u.nvme.posted = s.nvme.posted ∧ OnlyParts [.nvme] s u) ∧
  (∀ (s : State) (c q : Nat) (e : SqEntry) (ranges : List (Nat × Nat)) (x : SubQ) (y : ComQ), s.live = true → s.sq c q = some x → s.cq c x.cq = some y → s.mayFetch c q e x = true → s.bit FB_STAT.BASENOTE = true → q ≠ 0 → x.ordered = false → s.nvme.inflight = [] → s.nvme.drains = [] → (s.ctrl c).abortMarks = [] →
    ∃ u : State, exec (.commandFetch c q e ranges) s = .next u.standbyStep ∧ u.nvme.inflight = [] ∧ u.nvme.posted = s.nvme.posted ++ [⟨c, x.cq, q, e.cid, .notPermitted, 0, (x.head + 1) % x.size, y.phase⟩] ∧
      u.fld FB_NOTPERM.COUNT = Nat.min (s.fld FB_NOTPERM.COUNT + 1) (2 ^ 32 - 1)) ∧
  (∀ (s : State) (c q : Nat) (e : SqEntry) (ranges : List (Nat × Nat)), s.live = true → (match s.sq c q with | some x => s.mayFetch c q e x | none => false) = false → exec (.commandFetch c q e ranges) s = .next s.standbyStep) ∧
  (∀ (s : State) (c q cid : Nat) (m : Cmd), s.live = true → s.cmd? c q cid = some m → q ≠ 0 → m.fault = none → m.granted = false → s.locksTaken + m.locks.length ≤ 8192 →
    ∃ u : State, exec (.rangeLockGrant c q cid) s = .next u.standbyStep ∧ u.cmd? c q cid = some { m with taken := true, granted := s.lockFits m } ∧ u.nvme.posted = s.nvme.posted ∧ OnlyParts [.nvme] s u) ∧
  (∀ (s : State) (c v q : Nat) (x : ComQ), s.live = true → s.cq c q = some x → x.vector = v → x.coal ≠ 0 → (s.ctrl c).cqs.Pairwise (fun x y => x.1 < y.1) → q < 64 →
    ∃ t, exec (.interruptCoalesceTimer c v) s = .next t ∧ t.nvme.msix = s.nvme.msix ++ [(c, v)] ∧ t.cq c q = some { x with coal := 0 } ∧ (t.ctrl c).sqs = (s.ctrl c).sqs ∧ t.nvme.posted = s.nvme.posted ∧ OnlyParts [.nvme] s t) ∧
  (∀ (s : State) (c q cid : Nat) (m : Cmd) (y : SubQ) (x : ComQ), s.live = true → s.cmd? c q cid = some m → s.alone m y x = true → y.ordered = false → q ≠ 0 → isReadOp m.e.opc = true → s.feature c 0x05 0 % 65536 ≠ 0 → m.fault = none → m.ready = none →
    ∃ u : State, exec (.tlerExpiry c q cid) s = .next u.standbyStep ∧ u.nvme.inflight = [] ∧ u.nvme.posted = s.nvme.posted ++ [m.entry y x .unrecovered 0] ∧ (∀ p : Nat, u.isLost p = s.isLost p)) ∧
  (∀ (s : State) (c q cid : Nat), s.live = true → s.cmd? c q cid = none ∨ q = 0 ∨ s.feature c 0x05 0 % 65536 = 0 → exec (.tlerExpiry c q cid) s = .next s.standbyStep) ∧
  (∀ (s : State) (c : Nat), s.live = true → (s.ctrl c).busMaster = true → ∃ u : State, exec (.busMasterDisable c) s = .next u.standbyStep ∧ (u.ctrl c).busMaster = false ∧ (u.ctrl c).bmeDrain = true ∧ u.nvme.drains = s.nvme.drains ++ [⟨c, 0, drBme, c, 0⟩] ∧ u.nvme.inflight = s.nvme.inflight ∧ OnlyParts [.nvme] s u) ∧
  (∀ (s : State) (c : Nat) (d : Drain), s.live = true → s.nvme.drains.find? (fun d => d.ctrl == c && d.id == 0 && d.kind == drBme) = some d → s.nvme.inflight.any (fun m => m.inDrain d) = true →
    ∃ u : State, exec (.deletionDrainTimeout c 0 drBme) s = .next u.standbyStep ∧ (u.ctrl c).cfs = true ∧ (u.ctrl c).bmeDrain = false ∧ u.nvme.inflight = s.nvme.inflight ∧ u.nvme.posted = s.nvme.posted ∧ OnlyParts [.nvme] s u) ∧
  (∀ (s : State) (c q : Nat) (d : Drain) (m : Cmd), s.live = true → s.nvme.drains = [d] → d.ctrl = c → d.id = q → d.kind = drSq → s.nvme.inflight = [m] → m.ctrl = c → m.sq = q → q ≠ 0 → isReadOp m.e.opc = true → m.durable = false →
    ∃ u : State, exec (.deletionDrainTimeout c q drSq) s = .next u.standbyStep ∧ u.sq c q = none ∧ u.nvme.inflight = [] ∧ u.nvme.drains = []) ∧
  (∀ (s : State), s.live = true → s.power.hibernatePending = true → s.pwState = pwStandby →
    ∃ t, exec .l2Timeout s = .next t ∧ t.power.hibernatePending = false ∧ t.pwState = pwStandby ∧ (∀ c < 2, (s.ctrl c).en = true → t.feature c 0x02 0 = 1) ∧ OnlyParts [.power, .nvme] s t) ∧
  (∀ (s : State), s.live = true → s.power.hibernatePending = false ∨ s.pwState ≠ pwStandby → exec .l2Timeout s = .next s)

/-- Firmware Download, Firmware Commit and the writes of boot flash. A download puts its piece where its offset says; a commit to slot 2 checks the bundle and, if it passes, erases the slot that does not hold the bundle in effect and writes it; one to slot 7 stores the Accord image; action 2 marks a stored bundle for activation; other slots and actions are refused; a written bundle carries the marks of its action, an immediate one starts the activation, which drains the commands first; one that does not read back is revoked; a key area takes its copy. Completion: FIRMWARE_DOWNLOAD, FIRMWARE_COMMIT_STORE, FIRMWARE_COMMIT_STORE_ACTIVATE, FIRMWARE_COMMIT_IMMEDIATE, FIRMWARE_COMMIT_SET_ACTIVATE, BUNDLE_STORE_WRITTEN, ACTIVATION_DRAIN_TIMEOUT, KEY_AREA_WRITTEN each answer a next state, under the premises of its clause on the state and operands alone. (23_security.md (R640; R644; R645; R650); 18_host_nvme.md (R564; R565); 24_faults_and_base_note.md (R669); 04_accord.md (R113; R131; R136)) -/
def Obligations.firmware_images : Prop :=
  (∀ (s : State) (c cid : Nat) (data : List Byte) (m : Cmd), s.live = true → s.admReady c cid 0x11 m = true → (m.e.cdw10 + 1) % 1024 = 0 → m.e.cdw11 % 1024 = 0 → 4 * m.e.cdw11 + 4 * (m.e.cdw10 + 1) ≤ 0x400000 → 4 * (m.e.cdw10 + 1) ≤ data.length → m.e.cdw11 ≠ 0 →
    ∃ u : State, exec (.firmwareDownload c cid data) s = .next (u.finish m .ok 0) ∧ slice u.nvme.download (4 * m.e.cdw11) (4 * (m.e.cdw10 + 1)) = slice data 0 (4 * (m.e.cdw10 + 1)) ∧
      u.nvme.download.take (Nat.min (4 * m.e.cdw11) s.nvme.download.length) = s.nvme.download.take (4 * m.e.cdw11) ∧ OnlyParts [.nvme] s u) ∧
  (∀ (s : State) (c cid : Nat) (data : List Byte) (m : Cmd), s.live = true → s.admReady c cid 0x11 m = true → (m.e.cdw10 + 1) % 1024 = 0 → m.e.cdw11 = 0 → 4 * (m.e.cdw10 + 1) ≤ 0x400000 → 4 * (m.e.cdw10 + 1) ≤ data.length →
    ∃ u : State, exec (.firmwareDownload c cid data) s = .next (u.finish m .ok 0) ∧ u.nvme.download = data.take (4 * (m.e.cdw10 + 1)) ∧ OnlyParts [.nvme] s u) ∧
  (∀ (s : State) (c cid : Nat) (data : List Byte) (m : Cmd), s.live = true → s.admReady c cid 0x11 m = true → (m.e.cdw10 + 1) % 1024 ≠ 0 ∨ m.e.cdw11 % 1024 ≠ 0 ∨ 0x400000 < 4 * m.e.cdw11 + 4 * (m.e.cdw10 + 1) →
    exec (.firmwareDownload c cid data) s = .next (s.finish m .invalidField 0)) ∧
  (∀ (s : State) (c cid : Nat) (m : Cmd), s.live = true → s.admReady c cid 0x10 m = true → commitAction m = 0 → m.e.cdw10 % 8 = 2 → domOfCode (ptTarget s.dlBundle) = none → s.nvme.fwStore = none →
    exec (.firmwareCommitStore c cid) s = .next (match s.ptStage s.dlBundle with
      | some e => (s.ptRefuse s.dlBundle e).finish m .invalidImage 0
      | none => ((s.begin m).modFlashPatch s.freePatchSlot (fun _ => FlashSlot.empty)).modNvme (fun n => { n with fwStore := some ⟨s.freePatchSlot, m.ctrl, m.e.cid, 0, false, s.dlBundle⟩ }))) ∧
  (∀ (s : State) (c cid : Nat) (m : Cmd), s.live = true → s.admReady c cid 0x10 m = true → commitAction m = 1 → m.e.cdw10 % 8 = 2 → domOfCode (ptTarget s.dlBundle) = none → s.nvme.fwStore = none →
    exec (.firmwareCommitStoreActivate c cid) s = .next (match s.ptStage s.dlBundle with
      | some e => (s.ptRefuse s.dlBundle e).finish m .invalidImage 0
      | none => ((s.begin m).modFlashPatch s.freePatchSlot (fun _ => FlashSlot.empty)).modNvme (fun n => { n with fwStore := some ⟨s.freePatchSlot, m.ctrl, m.e.cid, 1, false, s.dlBundle⟩ }))) ∧
  (∀ (s : State) (c cid : Nat) (m : Cmd), s.live = true → s.admReady c cid 0x10 m = true → commitAction m = 3 → m.e.cdw10 % 8 = 2 → domOfCode (ptTarget s.dlBundle) = none → s.nvme.fwStore = none →
    exec (.firmwareCommitImmediate c cid) s = .next (match s.ptStage s.dlBundle with
      | some e => (s.ptRefuse s.dlBundle e).finish m .invalidImage 0
      | none => ((s.begin m).modFlashPatch s.freePatchSlot (fun _ => FlashSlot.empty)).modNvme (fun n => { n with fwStore := some ⟨s.freePatchSlot, m.ctrl, m.e.cid, 3, false, s.dlBundle⟩ })).standbyStep) ∧
  (∀ (s : State) (c : Nat) (cid : Nat) (m : Cmd), s.live = true → s.admReady c cid 0x10 m = true → m.e.cdw10 % 8 = 7 → acKind s.dlAccord ≠ 1 → commitAction m = 0 → exec (.firmwareCommitStore c cid) s = .next ((s.begin m).acStart (.firmware m.ctrl 0 m.e.cid) s.dlAccord false false)) ∧
  (∀ (s : State) (c : Nat) (cid : Nat) (m : Cmd), s.live = true → s.admReady c cid 0x10 m = true → m.e.cdw10 % 8 = 7 → acKind s.dlAccord ≠ 1 → commitAction m = 1 → exec (.firmwareCommitStoreActivate c cid) s = .next ((s.begin m).acStart (.firmware m.ctrl 0 m.e.cid) s.dlAccord false false)) ∧
  (∀ (s : State) (c : Nat) (cid : Nat) (m : Cmd), s.live = true → s.admReady c cid 0x10 m = true → m.e.cdw10 % 8 = 7 → acKind s.dlAccord ≠ 1 → commitAction m = 3 → exec (.firmwareCommitImmediate c cid) s = .next ((s.begin m).acStart (.firmware m.ctrl 0 m.e.cid) s.dlAccord false false).standbyStep) ∧
  (∀ (s : State) (c cid : Nat) (m : Cmd) (k : Nat), s.live = true → s.admReady c cid 0x10 m = true → commitAction m = 2 → m.e.cdw10 % 8 = 2 → [0, 1].find? (fun k => s.ptSlotState k == asPending) = some k →
    ∃ u : State, exec (.firmwareCommitSetActivate c cid) s = .next (u.finish m .ok 0) ∧ (u.flashPatch k).marks.extra = true ∧ (u.flashPatch k).image = (s.flashPatch k).image ∧ OnlyParts [.nv] s u) ∧
  (∀ (s : State) (c cid : Nat) (m : Cmd), s.live = true → s.admReady c cid 0x10 m = true → commitAction m = 2 → m.e.cdw10 % 8 = 2 → s.ptSlotState 0 ≠ asPending → s.ptSlotState 1 ≠ asPending →
    exec (.firmwareCommitSetActivate c cid) s = .next (s.finish m .invalidImage 0)) ∧
  (∀ (s : State) (c : Nat) (cid : Nat) (m : Cmd), s.live = true → s.admReady c cid 0x10 m = true → m.e.cdw10 % 8 ∉ [1, 2, 3, 7] → commitAction m = 0 → exec (.firmwareCommitStore c cid) s = .next (s.finish m .invalidSlot 0)) ∧
  (∀ (s : State) (c : Nat) (cid : Nat) (m : Cmd), s.live = true → s.admReady c cid 0x10 m = true → m.e.cdw10 % 8 ∉ [1, 2, 3, 7] → commitAction m = 1 → exec (.firmwareCommitStoreActivate c cid) s = .next (s.finish m .invalidSlot 0)) ∧
  (∀ (s : State) (c : Nat) (cid : Nat) (m : Cmd), s.live = true → s.admReady c cid 0x10 m = true → m.e.cdw10 % 8 ∉ [1, 2, 3, 7] → commitAction m = 2 → exec (.firmwareCommitSetActivate c cid) s = .next (s.finish m .invalidSlot 0)) ∧
  (∀ (s : State) (c : Nat) (cid : Nat) (m : Cmd), s.live = true → s.admReady c cid 0x10 m = true → m.e.cdw10 % 8 ∉ [1, 2, 3, 7] → commitAction m = 3 → exec (.firmwareCommitImmediate c cid) s = .next (s.finish m .invalidSlot 0).standbyStep) ∧
  (∀ (s : State) (x : FwStore) (m : Cmd), s.live = true → s.nvme.fwStore = some x → x.dest < 2 → x.action ≠ 3 → s.cmd? x.ctrl 0 x.cid = some m →
    ∃ u : State, exec (.bundleStoreWritten true) s = .next (u.finish m .ok 0) ∧ u.flashPatch x.dest = ⟨x.image, { Marks.erased with extra := x.action != 0 }⟩ ∧ u.flashPatch (1 - x.dest) = s.flashPatch (1 - x.dest) ∧ u.nvme.fwStore = none ∧ OnlyParts [.nv, .nvme] s u) ∧
  (∀ (s : State) (x : FwStore) (m : Cmd), s.live = true → s.nvme.fwStore = some x → x.dest < 2 → s.cmd? x.ctrl 0 x.cid = some m →
    ∃ u : State, exec (.bundleStoreWritten false) s = .next (u.finish m .internalError 0) ∧ (u.flashPatch x.dest).marks.revoke = true ∧ u.flashPatch (1 - x.dest) = s.flashPatch (1 - x.dest) ∧ u.nvme.fwStore = none ∧ OnlyParts [.nv, .nvme] s u) ∧
  (∀ (s : State) (x : FwStore) (m : Cmd), s.live = true → s.nvme.fwStore = some x → x.dest < 2 → x.action = 3 → s.cmd? x.ctrl 0 x.cid = some m → s.bit FB_STAT.BASENOTE = false →
    ∃ t, exec (.bundleStoreWritten true) s = .next t ∧ t.flashPatch x.dest = ⟨x.image, { Marks.erased with extra := true, tried := true }⟩ ∧ t.nvme.activation = some ⟨x.ctrl, x.cid, x.dest, false⟩ ∧ (∀ c < 2, (t.ctrl c).pp = true ∧ (t.ctrl c).stopped = true) ∧ t.nvme.fwStore = none) ∧
  (∀ (s : State) (a : Activation), s.live = true → s.nvme.activation = some a → a.drained = false → s.nvme.inflight.all (fun m => !a.waitsFor m) = true →
    ∃ u : State, exec .activationDrainTimeout s = .next u.standbyStep ∧ u.nvme.activation = some { a with drained := true } ∧ u.fabric.staged = ptGen (s.flashPatch a.slot).image ∧ u.nvme.inflight = s.nvme.inflight ∧ u.nvme.posted = s.nvme.posted) ∧
  (∀ (s : State) (a : Activation), s.live = true → s.nvme.activation = some a → a.drained = false → s.nvme.inflight.any (fun m => a.waitsFor m) = true → s.nvme.inflight.all (fun m => isReadOp m.e.opc && !m.durable && !m.e.opc == 0x81 || m.sq == 0) = true → s.nvme.drains = [] → (s.nvme.inflight.map (fun m => (m.ctrl, m.sq, m.e.cid))).Nodup →
    ∃ u : State, exec .activationDrainTimeout s = .next u.standbyStep ∧ u.nvme.activation = some { a with drained := true } ∧ u.nvme.inflight = s.nvme.inflight.filter (fun m => !a.waitsFor m)) ∧
  (∀ (s : State) (x : FwStore) (m : Cmd), s.live = true → s.nvme.fwStore = some x → x.dest = 2 ∨ x.dest = 3 → x.sec = false → s.cmd? x.ctrl 0 x.cid = some m →
    ∃ u : State, exec (.keyAreaWritten true) s = .next (u.finish m .needsReset 0) ∧ u.areaCopy (x.dest - 2) = x.image ∧ u.areaInUse = s.areaInUse ∧ u.nvme.fwStore = none ∧ OnlyParts [.nv, .nvme] s u) ∧
  (∀ (s : State) (x : FwStore) (m : Cmd) (ok : Bool), s.live = true → s.nvme.fwStore = some x → x.dest = 2 ∨ x.dest = 3 → x.sec = true → s.cmd? x.ctrl 0 x.cid = some m →
    ∃ u : State, exec (.keyAreaWritten ok) s = .next (u.finish m .ok 0) ∧ u.nvme.secResult = (if ok then rsSuccess else rsUnitError) ∧ (ok = true → u.areaCopy (x.dest - 2) = x.image) ∧ u.nvme.fwStore = none ∧ OnlyParts [.nv, .nvme] s u) ∧
  (∀ (s : State) (ok : Bool), s.live = true → s.nvme.fwStore = none → exec (.bundleStoreWritten ok) s = .next s ∧ exec (.keyAreaWritten ok) s = .next s)

/-- Admin commands. A completion takes its command out of flight and posts one entry, with the vector's message; queues are created and deleted as the fields say and refused by name; Identify and Get Log Page return their data; Abort withholds what it can; each Set Features keeps its value or refuses it, and Get Features returns it; a held event request waits for its event; namespaces are created in free room, attached, detached and deleted with their drains; self-tests run one at a time; Format deallocates every block. Completion: SET_WRITE_ATOMICITY, DELETE_IO_SQ, CREATE_IO_SQ, DELETE_IO_CQ, CREATE_IO_CQ, IDENTIFY, GET_LOG_PAGE, ABORT, SET_ARBITRATION, SET_ERROR_RECOVERY, SET_INTERRUPT_COALESCING, SET_INTERRUPT_VECTOR_CONFIG, SET_ASYNC_EVENT_CONFIG, SET_POWER_MANAGEMENT, SET_TEMPERATURE_THRESHOLD, SET_NUMBER_OF_QUEUES, SET_TIMESTAMP, SET_RESERVATION_NOTIFY_MASK, SET_RESERVATION_PERSISTENCE, SET_QUEUE_ORDERING, SET_STREAMING_MODE, GET_FEATURES, ASYNC_EVENT_REQUEST, NAMESPACE_CREATE, NAMESPACE_DELETE, NAMESPACE_ATTACH, NAMESPACE_DETACH, SELF_TEST_SHORT, SELF_TEST_EXTENDED, SELF_TEST_ABORT, FORMAT_NVM each answer a next state, under the premises of its clause on the state and operands alone. (18_host_nvme.md (R542; R547; R549 to R551; R553; R555; R562; R563; R565); 24_faults_and_base_note.md (R659); 09_spindle.md (R281); 15_zones_map_and_journal.md (R456)) -/
def Obligations.admin_commands : Prop :=
  (∀ (s : State) (c cid : Nat) (m : Cmd) (y : SubQ) (x : ComQ), s.live = true → s.admReady c cid 0x09 m = true → m.e.cdw10 % 256 = 0x0A → s.alone m y x = true →
    ∃ t, exec (.setWriteAtomicity c cid) s = .next t ∧ t.nvme.inflight = [] ∧ t.nvme.posted = s.nvme.posted ++ [m.entry y x .ok 0] ∧ t.feature c 0x0A 0 = m.e.cdw11 % 2 ∧ (x.irq = true → t.nvme.msix = s.nvme.msix ++ [(c, x.vector)]) ∧
      t.sq c 0 = s.sq c 0 ∧ (t.cq c y.cq).map (fun q => (q.tail, q.head)) = some ((x.tail + 1) % x.size, x.head) ∧ OnlyParts [.regs, .tickMem, .sil, .nvme] s t) ∧
  (∀ (s : State) (c cid : Nat) (m : Cmd) (y : SubQ), s.live = true → s.admReady c cid 0x00 m = true → m.e.cdw10 % 65536 ≠ 0 → s.sq c (m.e.cdw10 % 65536) = some y → y.draining = false →
    ∃ u : State, exec (.deleteIoSq c cid) s = .next u.drainPump ∧ u.sq c (m.e.cdw10 % 65536) = some { y with draining := true } ∧ u.nvme.drains = s.nvme.drains ++ [⟨c, m.e.cdw10 % 65536, drSq, c, cid⟩] ∧ u.nvme.posted = s.nvme.posted ∧ OnlyParts [.nvme] s u) ∧
  (∀ (s : State) (c cid : Nat) (m : Cmd), s.live = true → s.admReady c cid 0x01 m = true →
    exec (.createIoSq c cid) s = .next (match s.createSqFault m with
      | some st => s.finish m st 0
      | none => (s.putSq c (m.e.cdw10 % 65536) (some { size := m.e.cdw10 / 65536 + 1, head := 0, tail := 0, cq := m.e.cdw11 / 65536, prio := m.e.cdw11 / 2 % 4, ordered := (s.ctrl c).orderedMarks.contains (m.e.cdw10 % 65536), draining := false })).finish m .ok 0)) ∧
  (∀ (s : State) (c cid : Nat) (m : Cmd), s.live = true → s.admReady c cid 0x01 m = true → m.e.cdw10 % 65536 = 0 ∨ s.maxQueues < m.e.cdw10 % 65536 ∨ (s.sq c (m.e.cdw10 % 65536)).isSome = true → exec (.createIoSq c cid) s = .next (s.finish m .invalidQid 0)) ∧
  (∀ (s : State) (c cid : Nat) (m : Cmd), s.live = true → s.admReady c cid 0x04 m = true → m.e.cdw10 % 65536 ≠ 0 → (s.cq c (m.e.cdw10 % 65536)).isSome = true → (s.ctrl c).sqs.all (fun x => (x.2.map (fun y => y.cq)) != some (m.e.cdw10 % 65536)) = true →
    exec (.deleteIoCq c cid) s = .next ((s.putCq c (m.e.cdw10 % 65536) none).finish m .ok 0)) ∧
  (∀ (s : State) (c cid : Nat) (m : Cmd), s.live = true → s.admReady c cid 0x04 m = true → m.e.cdw10 % 65536 ≠ 0 → (s.cq c (m.e.cdw10 % 65536)).isSome = true → (s.ctrl c).sqs.any (fun x => (x.2.map (fun y => y.cq)) == some (m.e.cdw10 % 65536)) = true →
    exec (.deleteIoCq c cid) s = .next (s.finish m .invalidDeletion 0)) ∧
  (∀ (s : State) (c cid : Nat) (m : Cmd), s.live = true → s.admReady c cid 0x05 m = true → m.e.cdw10 % 65536 ≠ 0 → m.e.cdw10 % 65536 ≤ s.maxQueues → s.cq c (m.e.cdw10 % 65536) = none → 65536 ≤ m.e.cdw10 → m.e.cdw11 % 2 = 1 → m.e.cdw11 / 65536 ≤ 1024 →
    exec (.createIoCq c cid) s = .next ((s.putCq c (m.e.cdw10 % 65536) (some { size := m.e.cdw10 / 65536 + 1, head := 0, tail := 0, phase := true, vector := m.e.cdw11 / 65536, irq := natBit m.e.cdw11 1, held := [], coal := 0 })).finish m .ok 0)) ∧
  (∀ (s : State) (c cid : Nat) (m : Cmd), s.live = true → s.admReady c cid 0x05 m = true → m.e.cdw10 % 65536 ≠ 0 → m.e.cdw10 % 65536 ≤ s.maxQueues → s.cq c (m.e.cdw10 % 65536) = none → m.e.cdw10 / 65536 = 0 ∨ m.e.cdw11 % 2 = 0 ∨ 1024 < m.e.cdw11 / 65536 →
    exec (.createIoCq c cid) s = .next (s.finish m (if m.e.cdw10 / 65536 = 0 then .invalidSize else if m.e.cdw11 % 2 = 0 then .invalidField else .invalidVector) 0)) ∧
  (∀ (s : State) (c cid : Nat) (m : Cmd), s.live = true → s.admReady c cid 0x06 m = true → m.e.cdw10 % 256 = 0x01 → exec (.identify c cid) s = .next ((s.hostWrite .data c m.e.dptr (s.identCtrl c)).finish m .ok 0)) ∧
  (∀ (s : State) (c cid : Nat) (m : Cmd) (n : Namespace), s.live = true → s.admReady c cid 0x06 m = true → m.e.cdw10 % 256 = 0x00 → m.e.nsid ≠ 0 → m.e.nsid ≤ s.nn → s.namespace? m.e.nsid = some n → (s.ctrl c).attached.contains m.e.nsid = true →
    exec (.identify c cid) s = .next ((s.hostWrite .data c m.e.dptr (s.identNs n)).finish m .ok 0)) ∧
  (∀ (s : State) (c cid : Nat) (m : Cmd), s.live = true → s.admReady c cid 0x02 m = true → m.e.cdw10 % 256 = 0x01 → m.e.cdw12 = 0 → m.e.cdw13 = 0 → s.nvme.errors.length ≤ 64 →
    exec (.getLogPage c cid) s = .next (((State.freeBytes 12 s).2.logRead c m.e).returned m
      (slice (s.nvme.errors.flatMap ErrEntry.bytes ++ zeros (64 * (64 - s.nvme.errors.length))) 0 (Nat.min (4 * (m.e.cdw10 / 65536 + m.e.cdw11 % 65536 * 65536 + 1)) (s.nvme.errors.flatMap ErrEntry.bytes ++ zeros (64 * (64 - s.nvme.errors.length))).length))) ∨
    s.nvme.errors.flatMap ErrEntry.bytes ++ zeros (64 * (64 - s.nvme.errors.length)) = []) ∧
  (∀ (s : State) (c cid : Nat) (m k : Cmd) (unfetched : Bool), s.live = true → s.admReady c cid 0x08 m = true → s.cmd? c (m.e.cdw10 % 65536) (m.e.cdw10 / 65536) = some k → k.seq ≠ m.seq → isReadOp k.e.opc = true → k.sq ≠ 0 → k.ready = none →
    s.nvme.inflight.all (fun j => j.e.opc != 0x08 || j.seq == m.seq) = true →
    exec (.abort c cid unfetched) s = .next ((s.abortCmd k).finish m .ok 0).standbyStep) ∧
  (∀ (s : State) (c cid : Nat) (m : Cmd), s.live = true → s.admReady c cid 0x08 m = true → s.cmd? c (m.e.cdw10 % 65536) (m.e.cdw10 / 65536) = none → s.nvme.inflight.all (fun j => j.e.opc != 0x08 || j.seq == m.seq) = true →
    exec (.abort c cid false) s = .next (s.finish m .ok 1).standbyStep) ∧
  (∀ (s : State) (c : Nat) (cid : Nat) (m : Cmd), s.live = true → s.admReady c cid 0x09 m = true → m.e.cdw10 % 256 = 0x01 → exec (.setArbitration c cid) s = .next ((s.setFeature c 0x01 0 (m.e.cdw11 + 1)).finish m .ok 0)) ∧
  (∀ (s : State) (c : Nat) (cid : Nat) (m : Cmd), s.live = true → s.admReady c cid 0x09 m = true → m.e.cdw10 % 256 = 0x05 → m.e.cdw11 % 65536 ≤ 30 → exec (.setErrorRecovery c cid) s = .next ((s.setFeature c 0x05 0 (m.e.cdw11 % 65536)).finish m .ok 0)) ∧
  (∀ (s : State) (c : Nat) (cid : Nat) (m : Cmd), s.live = true → s.admReady c cid 0x09 m = true → m.e.cdw10 % 256 = 0x05 → 30 < m.e.cdw11 % 65536 → exec (.setErrorRecovery c cid) s = .next (s.finish m .invalidField 0)) ∧
  (∀ (s : State) (c : Nat) (cid : Nat) (m : Cmd), s.live = true → s.admReady c cid 0x09 m = true → m.e.cdw10 % 256 = 0x08 → exec (.setInterruptCoalescing c cid) s = .next ((s.setFeature c 0x08 0 (m.e.cdw11 % 65536)).finish m .ok 0)) ∧
  (∀ (s : State) (c : Nat) (cid : Nat) (m : Cmd), s.live = true → s.admReady c cid 0x09 m = true → m.e.cdw10 % 256 = 0x09 → m.e.cdw11 % 65536 ≤ 1024 → exec (.setInterruptVectorConfig c cid) s = .next ((s.setFeature c 0x09 (m.e.cdw11 % 65536) (m.e.cdw11 % 2 ^ 17)).finish m .ok 0)) ∧
  (∀ (s : State) (c : Nat) (cid : Nat) (m : Cmd), s.live = true → s.admReady c cid 0x09 m = true → m.e.cdw10 % 256 = 0x09 → 1024 < m.e.cdw11 % 65536 → exec (.setInterruptVectorConfig c cid) s = .next (s.finish m .invalidField 0)) ∧
  (∀ (s : State) (c : Nat) (cid : Nat) (m : Cmd), s.live = true → s.admReady c cid 0x09 m = true → m.e.cdw10 % 256 = 0x0B → exec (.setAsyncEventConfig c cid) s = .next ((s.setFeature c 0x0B 0 (Nat.land m.e.cdw11 noticeBits)).finish m .ok 0)) ∧
  (∀ (s : State) (c cid : Nat) (m : Cmd), s.live = true → s.admReady c cid 0x09 m = true → m.e.cdw10 % 256 = 0x02 → m.e.cdw11 % 32 ≤ 2 →
    ∃ u : State, exec (.setPowerManagement c cid) s = .next (u.powerRequest (m.e.cdw11 % 32)) ∧ u.feature 0 0x02 0 = m.e.cdw11 % 32 ∧ u.feature 1 0x02 0 = m.e.cdw11 % 32 ∧ u.nvme.posted = s.nvme.posted ∧ OnlyParts [.nvme] s u) ∧
  (∀ (s : State) (c cid : Nat) (m : Cmd), s.live = true → s.admReady c cid 0x09 m = true → m.e.cdw10 % 256 = 0x02 → 2 < m.e.cdw11 % 32 → exec (.setPowerManagement c cid) s = .next (s.finish m .invalidField 0)) ∧
  (∀ (s : State) (c cid : Nat) (m : Cmd), s.live = true → s.admReady c cid 0x09 m = true → m.e.cdw10 % 256 = 0x04 → m.e.cdw11 / 2 ^ 16 % 16 = 0 → m.e.cdw11 / 2 ^ 20 % 4 = 1 ∨ (m.e.cdw11 / 2 ^ 20 % 4 = 0 ∧ m.e.cdw11 % 65536 ≤ s.fld TH_LIMITS.WARN + 273) →
    exec (.setTemperatureThreshold c cid) s = .next ((s.setFeature c 0x04 (m.e.cdw11 / 2 ^ 20 % 4) (m.e.cdw11 % 65536 + 1)).finish m .ok 0)) ∧
  (∀ (s : State) (c cid : Nat) (m : Cmd), s.live = true → s.admReady c cid 0x09 m = true → m.e.cdw10 % 256 = 0x04 → m.e.cdw11 / 2 ^ 16 % 16 ≠ 0 ∨ 1 < m.e.cdw11 / 2 ^ 20 % 4 ∨ (m.e.cdw11 / 2 ^ 20 % 4 = 0 ∧ s.fld TH_LIMITS.WARN + 273 < m.e.cdw11 % 65536) →
    exec (.setTemperatureThreshold c cid) s = .next (s.finish m .invalidField 0)) ∧
  (∀ (s : State) (c cid : Nat) (m : Cmd), s.live = true → s.admReady c cid 0x09 m = true → m.e.cdw10 % 256 = 0x07 → m.e.cdw11 % 65536 ≠ 0xFFFF → m.e.cdw11 / 65536 ≠ 0xFFFF →
    exec (.setNumberOfQueues c cid) s = .next (if (s.ctrl c).cqs.any (fun x => x.1 != 0 && x.2.isSome) then s.finish m .sequenceError 0 else s.finish m .ok ((s.maxQueues - 1) * 65537))) ∧
  (∀ (s : State) (c cid : Nat) (m : Cmd) (ms : Nat), s.live = true → s.admReady c cid 0x09 m = true → m.e.cdw10 % 256 = 0x0E →
    exec (.setTimestamp c cid ms) s = .next (((s.modNvme (fun n => { n with timestamp := ms % 2 ^ 48, tsTick := s.tick, tsSet := true })).record 0x1605 (leBytes 6 (ms % 2 ^ 48) ++ zeros 2)).finish m .ok 0)) ∧
  (∀ (s : State) (c : Nat) (cid : Nat) (m : Cmd), s.live = true → s.admReady c cid 0x09 m = true → m.e.nsid ≠ 0xFFFFFFFF → s.nsFault c m.e.nsid = none → m.e.cdw10 % 256 = 0x81 → exec (.setReservationNotifyMask c cid) s = .next ((s.setFeature c 0x81 m.e.nsid (m.e.cdw11 / 2 % 8 * 2)).finish m .ok 0)) ∧
  (∀ (s : State) (c : Nat) (cid : Nat) (m : Cmd), s.live = true → s.admReady c cid 0x09 m = true → m.e.nsid ≠ 0xFFFFFFFF → s.nsFault c m.e.nsid = none → m.e.cdw10 % 256 = 0x82 → exec (.setReservationPersistence c cid) s = .next (s.finish m (if m.e.cdw11 % 2 = 1 then .ok else .notChangeable) 0)) ∧
  (∀ (s : State) (c cid : Nat) (m : Cmd), s.live = true → s.admReady c cid 0x09 m = true → m.e.cdw10 % 256 = 0x82 → m.e.nsid ≠ 0xFFFFFFFF → s.nsFault c m.e.nsid = none → m.e.cdw11 % 2 = 1 → exec (.setReservationPersistence c cid) s = .next (s.finish m .ok 0)) ∧
  (∀ (s : State) (c cid : Nat) (m : Cmd), s.live = true → s.admReady c cid 0x09 m = true → m.e.cdw10 % 256 = 0xC0 → m.e.cdw11 % 65536 ≠ 0 → m.e.cdw11 % 65536 ≤ s.maxQueues → s.sq c (m.e.cdw11 % 65536) = none → natBit m.e.cdw11 31 = true → (s.ctrl c).orderedMarks.contains (m.e.cdw11 % 65536) = false →
    ∃ u : State, exec (.setQueueOrdering c cid) s = .next (u.finish m .ok 0) ∧ (u.ctrl c).orderedMarks = (s.ctrl c).orderedMarks ++ [m.e.cdw11 % 65536] ∧ (u.ctrl c).sqs = (s.ctrl c).sqs ∧ OnlyParts [.nvme] s u) ∧
  (∀ (s : State) (c cid : Nat) (m : Cmd), s.live = true → s.admReady c cid 0x09 m = true → m.e.cdw10 % 256 = 0xC0 → m.e.cdw11 % 65536 = 0 ∨ s.maxQueues < m.e.cdw11 % 65536 ∨ (s.sq c (m.e.cdw11 % 65536)).isSome = true → exec (.setQueueOrdering c cid) s = .next (s.finish m .invalidField 0)) ∧
  (∀ (s : State) (c cid : Nat) (m : Cmd), s.live = true → s.admReady c cid 0x09 m = true → m.e.cdw10 % 256 = 0xC1 → s.featStream = true → exec (.setStreamingMode c cid) s = .next ((s.setStreaming (natBit m.e.cdw11 0)).finish m .ok 0) ∧ (s.setStreaming (natBit m.e.cdw11 0)).nvme.streaming = natBit m.e.cdw11 0) ∧
  (∀ (s : State) (c cid : Nat) (m : Cmd), s.live = true → s.admReady c cid 0x09 m = true → m.e.cdw10 % 256 = 0xC1 → s.featStream = false → exec (.setStreamingMode c cid) s = .next (s.finish m .invalidField 0)) ∧
  (∀ (s : State) (c cid : Nat) (m : Cmd), s.live = true → s.admReady c cid 0x0A m = true → m.e.cdw10 / 2 ^ 8 % 8 ≤ 1 → m.e.cdw10 % 256 = 0x07 → exec (.getFeatures c cid) s = .next ((s.hostWrite .data c m.e.dptr []).finish m .ok ((s.maxQueues - 1) * 65537))) ∧
  (∀ (s : State) (c cid : Nat) (m : Cmd), s.live = true → s.admReady c cid 0x0A m = true → m.e.cdw10 / 2 ^ 8 % 8 = 0 → m.e.cdw10 % 256 = 0x01 → s.feature c 1 0 ≠ 0 → exec (.getFeatures c cid) s = .next ((s.hostWrite .data c m.e.dptr []).finish m .ok (s.feature c 1 0 - 1))) ∧
  (∀ (s : State) (c cid : Nat) (m : Cmd), s.live = true → s.admReady c cid 0x0C m = true → (s.ctrl c).aers.length < 8 → (s.ctrl c).events = [] →
    ∃ t, exec (.asyncEventRequest c cid) s = .next t ∧ (t.ctrl c).aers = (s.ctrl c).aers ++ [cid] ∧ t.nvme.posted = s.nvme.posted ∧ (t.cmd? c 0 cid).map (fun k => k.started) = some true ∧ OnlyParts [.nvme] s t) ∧
  (∀ (s : State) (c cid : Nat) (m : Cmd), s.live = true → s.admReady c cid 0x0C m = true → 8 ≤ (s.ctrl c).aers.length → exec (.asyncEventRequest c cid) s = .next (s.finish m .aerLimit 0)) ∧
  (∀ (s : State) (c cid : Nat) (m : Cmd) (nsze flbas id b : Nat), s.live = true → s.admReady c cid 0x0D m = true → m.e.cdw10 % 16 = 0 → s.mapReady = true → flbas % 16 = 0 → nsze ≠ 0 → m.e.cdw11 / 2 ^ 24 % 256 = 0 → (List.range' 1 s.nn).find? (fun i => (s.namespace? i).isNone) = some id → s.freeRange nsze = some b →
    ∃ u : State, exec (.namespaceCreate c cid nsze nsze flbas) s = .next (u.finish m .ok id) ∧ (u.namespace? id).map (fun n => (n.zoned, n.base, n.size, n.draining)) = some (false, b, nsze, false) ∧ (∀ k : Nat, k ≠ id → u.namespace? k = s.namespace? k) ∧ OnlyParts [.nvme, .map] s u) ∧
  (∀ (s : State) (c : Nat) (cid : Nat) (m : Cmd) (nsze : Nat) (ncap : Nat) (flbas : Nat), s.live = true → s.admReady c cid 0x0D m = true → m.e.cdw10 % 16 = 0 → s.mapReady = false → exec (.namespaceCreate c cid nsze ncap flbas) s = .next (s.finish m .rebuilding 0)) ∧
  (∀ (s : State) (c : Nat) (cid : Nat) (m : Cmd) (nsze : Nat) (ncap : Nat) (flbas : Nat), s.live = true → s.admReady c cid 0x0D m = true → m.e.cdw10 % 16 = 0 → s.mapReady = true → flbas % 16 ≠ 0 → exec (.namespaceCreate c cid nsze ncap flbas) s = .next (s.finish m .invalidFormat 0)) ∧
  (∀ (s : State) (c : Nat) (cid : Nat) (m : Cmd) (nsze : Nat) (ncap : Nat) (flbas : Nat), s.live = true → s.admReady c cid 0x0D m = true → m.e.cdw10 % 16 = 0 → s.mapReady = true → flbas % 16 = 0 → nsze ≠ ncap ∨ nsze = 0 → exec (.namespaceCreate c cid nsze ncap flbas) s = .next (s.finish m .invalidField 0)) ∧
  (∀ (s : State) (c cid : Nat) (m : Cmd) (n : Namespace), s.live = true → s.admReady c cid 0x0D m = true → m.e.cdw10 % 16 = 1 → m.e.nsid ≠ 0 → m.e.nsid ≤ s.nn → s.namespace? m.e.nsid = some n → n.draining = false →
    ∃ u : State, exec (.namespaceDelete c cid) s = .next u.drainPump ∧ u.namespace? m.e.nsid = some { n with draining := true } ∧ u.nvme.drains = s.nvme.drains ++ [⟨c, m.e.nsid, drDelete, c, cid⟩] ∧ u.nvme.posted = s.nvme.posted ∧ OnlyParts [.nvme, .map] s u) ∧
  (∀ (s : State) (c cid : Nat) (m : Cmd), s.live = true → s.admReady c cid 0x15 m = true → m.e.cdw10 % 16 = 0 → s.attachFault m [1] = none → (s.ctrl 0).attached.contains m.e.nsid = false →
    ∃ u : State, exec (.namespaceAttach c cid [1]) s = .next (u.finish m .ok 0) ∧ (u.ctrl 0).attached = (s.ctrl 0).attached ++ [m.e.nsid] ∧ u.nvme.namespaces = s.nvme.namespaces ∧ (u.ctrl 0).changedNs.contains m.e.nsid = true) ∧
  (∀ (s : State) (c cid : Nat) (m : Cmd), s.live = true → s.admReady c cid 0x15 m = true → m.e.cdw10 % 16 = 0 → s.attachFault m [1] = none → (s.ctrl 0).attached.contains m.e.nsid = true → exec (.namespaceAttach c cid [1]) s = .next (s.finish m .alreadyAttached 0)) ∧
  (∀ (s : State) (c cid : Nat) (m : Cmd), s.live = true → s.admReady c cid 0x15 m = true → m.e.cdw10 % 16 = 1 → s.attachFault m [1] = none → (s.ctrl 0).attached.contains m.e.nsid = true →
    ∃ u : State, exec (.namespaceDetach c cid [1]) s = .next u.drainPump ∧ u.nvme.drains = s.nvme.drains ++ [⟨0, m.e.nsid, drDetach, c, cid⟩] ∧ u.nvme.posted = s.nvme.posted ∧ OnlyParts [.nvme] s u) ∧
  (∀ (s : State) (c : Nat) (cid : Nat) (m : Cmd), s.live = true → s.admReady c cid 0x14 m = true → s.nvme.selfTest = none → m.e.cdw10 % 16 = 1 → exec (.selfTestShort c cid none) s = .next ((s.modNvme (fun n => { n with selfTest := some ⟨1, 1, c⟩ })).finish m .ok 0)) ∧
  (∀ (s : State) (c : Nat) (cid : Nat) (m : Cmd), s.live = true → s.admReady c cid 0x14 m = true → s.nvme.selfTest = none → m.e.cdw10 % 16 = 2 → exec (.selfTestExtended c cid none) s = .next ((s.modNvme (fun n => { n with selfTest := some ⟨2, 1, c⟩ })).finish m .ok 0)) ∧
  (∀ (s : State) (c : Nat) (cid : Nat) (m : Cmd), s.live = true → s.admReady c cid 0x14 m = true → s.nvme.selfTest.isSome = true → m.e.cdw10 % 16 = 1 → exec (.selfTestShort c cid none) s = .next (s.finish m .selfTestRunning 0)) ∧
  (∀ (s : State) (c : Nat) (cid : Nat) (m : Cmd), s.live = true → s.admReady c cid 0x14 m = true → s.nvme.selfTest.isSome = true → m.e.cdw10 % 16 = 2 → exec (.selfTestExtended c cid none) s = .next (s.finish m .selfTestRunning 0)) ∧
  (∀ (s : State) (c cid lba : Nat) (r : SelfTestRun), s.live = true → s.nvme.selfTest = some r → r.code = 1 → r.segment ≤ 3 →
    ∃ t, exec (.selfTestShort c cid (some (true, lba))) s = .next t ∧ (r.segment = 3 → t.nvme.selfTest = none ∧ (t.nvme.selfLog.head?).map (fun x => (x.code, x.result)) = some (1, 0)) ∧ (r.segment = 1 → t.nvme.selfTest = some { r with segment := 2 }) ∧
      (r.segment = 2 → t.nvme.selfTest = some { r with segment := 3 }) ∧ OnlyParts [.nvme] s t) ∧
  (∀ (s : State) (c cid lba : Nat) (r : SelfTestRun), s.live = true → s.nvme.selfTest = some r → r.code = 2 → 3 ≤ r.segment →
    ∃ t, exec (.selfTestExtended c cid (some (false, lba))) s = .next t ∧ t.nvme.selfTest = none ∧ (t.nvme.selfLog.head?).map (fun x => (x.code, x.result, x.segment, x.lba)) = some (2, 7, r.segment, some lba) ∧ OnlyParts [.nvme] s t) ∧
  (∀ (s : State) (c cid : Nat) (m : Cmd) (r : SelfTestRun), s.live = true → s.admReady c cid 0x14 m = true → m.e.cdw10 % 16 = 0xF → s.nvme.selfTest = some r →
    ∃ u : State, exec (.selfTestAbort c cid) s = .next (u.finish m .ok 0) ∧ u.nvme.selfTest = none ∧ (u.nvme.selfLog.head?).map (fun x => (x.code, x.result)) = some (r.code, 1) ∧ OnlyParts [.nvme] s u) ∧
  (∀ (s : State) (c cid : Nat) (m : Cmd) (n : Namespace), s.live = true → s.admReady c cid 0x80 m = true → m.e.cdw10 = 0 → s.mapReady = true → m.e.nsid ≠ 0xFFFFFFFF → s.nsFault c m.e.nsid = none → s.namespace? m.e.nsid = some n → n.zoned = false → n.conflict c true = false → s.map.zones = [] →
    ∃ u : State, exec (.formatNvm c cid) s = .next u ∧ u.map.issue = s.map.issue ++ [⟨.dealloc n.base n.size 0, [], some m.ref, false, 0⟩] ∧ u.nvme.posted = s.nvme.posted ∧ u.nvme.namespaces = s.nvme.namespaces) ∧
  (∀ (s : State) (c cid : Nat) (m : Cmd), s.live = true → s.admReady c cid 0x80 m = true → natBits m.e.cdw10 9 3 = 0 → natBits m.e.cdw10 4 5 = 0 → m.e.cdw10 % 16 ≠ 0 → exec (.formatNvm c cid) s = .next (s.finish m .invalidFormat 0))

/-- I/O commands, reservations and zones. A reading command returns, compares or checks the blocks where they can be had, waits for frames that failed, and reports what cannot be recovered; a writing one queues its groups or its deallocation for the journal and completes later; Flush and Fence wait for what is ahead of them; a reservation is registered, acquired, preempted, released and reported, and stops the commands it excludes; zones are opened, closed, finished, reset and reported from the states that allow it. Completion: READ, COMPARE, VERIFY, WRITE, ZONE_APPEND, WRITE_ZEROES, DATASET_MANAGEMENT, FLUSH, FENCE, RESERVATION_REGISTER, RESERVATION_ACQUIRE, RESERVATION_RELEASE, RESERVATION_REPORT, ZONE_CLOSE, ZONE_OPEN, ZONE_FINISH, ZONE_RESET, ZONE_MGMT_RECEIVE each answer a next state, under the premises of its clause on the state and operands alone. (18_host_nvme.md (R548; R554 to R556; R560; R566; R568); 15_zones_map_and_journal.md (R445; R455; R456; R458; R461); 16_local_redundancy.md (R492)) -/
def Obligations.io_commands : Prop :=
  (∀ (s : State) (c q cid : Nat) (m : Cmd) (y : SubQ) (x : ComQ), s.live = true → s.ioReady c q cid 0x02 m = true → s.alone m y x = true → (s.blocks? (s.cmdBlocks m)).bad = false → (s.blocks? (s.cmdBlocks m)).away = [] → (s.blocks? (s.cmdBlocks m)).lost = [] →
    ∃ u : State, exec (.read c q cid []) s = .next u.standbyStep ∧ u.nvme.inflight = [] ∧ u.nvme.posted = s.nvme.posted ++ [m.entry y x .ok 0] ∧ u.rings = (s.hostWrite .data c m.e.dptr (s.blocks? (s.cmdBlocks m)).data).rings ∧ OnlyParts [.regs, .tickMem, .sil, .nvme, .rings] s u) ∧
  (∀ (s : State) (c q cid : Nat) (m : Cmd) (y : SubQ) (x : ComQ), s.live = true → s.ioReady c q cid 0x02 m = true → s.alone m y x = true → (s.blocks? (s.cmdBlocks m)).bad = true → (s.ctrl 0).aers = [] → (s.ctrl 1).aers = [] →
    ∃ u : State, exec (.read c q cid []) s = .next u.standbyStep ∧ u.nvme.inflight = [] ∧ u.nvme.posted = s.nvme.posted ++ [m.entry y x .unrecovered 0] ∧ u.rings = s.rings ∧ u.bit FB_ALERT.DATA = true) ∧
  (∀ (s : State) (c q cid : Nat) (m : Cmd) (fails : List Nat), s.live = true → s.ioReady c q cid 0x02 m = true → fails.filter (s.cmdPfns m).contains ≠ [] →
    ∃ u : State, exec (.read c q cid fails) s = .next u.standbyStep ∧ u.cmd? c q cid = some { m with started := true, waits := fails.filter (s.cmdPfns m).contains } ∧ u.nvme.posted = s.nvme.posted ∧ u.rings = s.rings ∧ OnlyParts [.nvme] s u) ∧
  (∀ (s : State) (c q cid : Nat) (m : Cmd) (y : SubQ) (x : ComQ) (data : List Byte), s.live = true → s.ioReady c q cid 0x05 m = true → s.alone m y x = true → 4096 * m.nlb ≤ data.length → (s.blocks? (s.cmdBlocks m)).bad = false → (s.blocks? (s.cmdBlocks m)).away = [] → (s.blocks? (s.cmdBlocks m)).lost = [] →
    ∃ u : State, exec (.compare c q cid data []) s = .next u.standbyStep ∧ u.nvme.inflight = [] ∧ u.rings = s.rings ∧
      u.nvme.posted = s.nvme.posted ++ [m.entry y x (if (s.blocks? (s.cmdBlocks m)).data = slice data 0 (4096 * m.nlb) then .ok else .compareFailure) 0]) ∧
  (∀ (s : State) (c q cid : Nat) (m : Cmd) (y : SubQ) (x : ComQ) (data : List Byte), s.live = true → s.ioReady c q cid 0x05 m = true → s.alone m y x = true → data.length < 4096 * m.nlb →
    ∃ u : State, exec (.compare c q cid data []) s = .next u.standbyStep ∧ u.nvme.inflight = [] ∧ u.nvme.posted = s.nvme.posted ++ [m.entry y x .transferError 0]) ∧
  (∀ (s : State) (c q cid : Nat) (m : Cmd) (y : SubQ) (x : ComQ), s.live = true → s.ioReady c q cid 0x0C m = true → s.alone m y x = true → (s.blocks? (s.cmdBlocks m)).bad = false → (s.blocks? (s.cmdBlocks m)).away = [] → (s.blocks? (s.cmdBlocks m)).lost = [] →
    ∃ u : State, exec (.verify c q cid []) s = .next u.standbyStep ∧ u.nvme.inflight = [] ∧ u.nvme.posted = s.nvme.posted ++ [m.entry y x .ok 0] ∧ u.rings = s.rings ∧ OnlyParts [.regs, .tickMem, .sil, .nvme] s u) ∧
  (∀ (s : State) (c q cid : Nat) (m : Cmd) (n : Namespace) (data : List Byte), s.live = true → s.ioReady c q cid 0x01 m = true → s.namespace? m.e.nsid = some n → n.zoned = false → s.bit MP_STAT.GRAN = false → m.nlb ≤ 512 → 4096 * m.nlb ≤ data.length → s.noWriteSet none = false →
    ∃ u : State, exec (.write c q cid data) s = .next u.standbyStep ∧ u.map.groups = s.map.groups ++ [{ owner := some m.ref, gblk := n.base + m.slba, nblk := m.nlb, nsid := m.e.nsid, zone := none, data := blocksOf m.nlb data, last := false, result := 0 }] ∧
      u.cmd? c q cid = some { m with started := true } ∧ u.nvme.posted = s.nvme.posted ∧ u.map.map = s.map.map ∧ OnlyParts [.nvme, .map] s u) ∧
  (∀ (s : State) (c q cid : Nat) (m : Cmd) (n : Namespace) (data : List Byte) (y : SubQ) (x : ComQ), s.live = true → s.ioReady c q cid 0x01 m = true → s.alone m y x = true → s.namespace? m.e.nsid = some n → n.zoned = false → 4096 * m.nlb ≤ data.length → s.noWriteSet none = true →
    ∃ u : State, exec (.write c q cid data) s = .next u.standbyStep ∧ u.map = s.map ∧ u.nvme.inflight = [] ∧ u.nvme.posted = s.nvme.posted ++ [m.entry y x .writeProtected 0]) ∧
  (∀ (s : State) (c q cid : Nat) (m : Cmd) (n : Namespace) (data : List Byte), s.live = true → s.ioReady c q cid 0x01 m = true → s.namespace? m.e.nsid = some n → n.zoned = true → s.bit MP_STAT.GRAN = false → m.nlb ≤ 512 → 4096 * m.nlb ≤ data.length → s.zoneAway n (m.slba / s.zoneSize n) = none → s.zoneBusy m.e.nsid n (m.slba / s.zoneSize n) = false →
    s.zoneFault m.e.nsid n (m.slba / s.zoneSize n) (m.slba % s.zoneSize n) m.nlb = none → (s.zone m.e.nsid (m.slba / s.zoneSize n)).zstate = zsImplicit → s.noWriteSet (some (n.firstSet + m.slba / s.zoneSize n)) = false →
    ∃ u : State, exec (.write c q cid data) s = .next u.standbyStep ∧ u.map.groups = s.map.groups ++ [{ owner := some m.ref, gblk := n.base + s.zoneBase n (m.slba / s.zoneSize n) + m.slba % s.zoneSize n, nblk := m.nlb, nsid := m.e.nsid, zone := some (m.slba / s.zoneSize n), data := blocksOf m.nlb data, last := false, result := 0 }] ∧
      (u.cmd? c q cid).map (fun k => (k.started, k.locks)) = some (true, [⟨n.base + s.zoneBase n (m.slba / s.zoneSize n) + m.slba % s.zoneSize n, m.nlb, true⟩]) ∧ u.nvme.posted = s.nvme.posted ∧ OnlyParts [.nvme, .map] s u) ∧
  (∀ (s : State) (c q cid : Nat) (m : Cmd) (n : Namespace) (data : List Byte) (st : NvStatus) (y : SubQ) (x : ComQ), s.live = true → s.ioReady c q cid 0x01 m = true → s.alone m y x = true → s.namespace? m.e.nsid = some n → n.zoned = true → 4096 * m.nlb ≤ data.length → s.zoneAway n (m.slba / s.zoneSize n) = none → s.zoneBusy m.e.nsid n (m.slba / s.zoneSize n) = false →
    s.zoneFault m.e.nsid n (m.slba / s.zoneSize n) (m.slba % s.zoneSize n) m.nlb = some st →
    ∃ u : State, exec (.write c q cid data) s = .next u.standbyStep ∧ u.map = s.map ∧ u.nvme.inflight = [] ∧ u.nvme.posted = s.nvme.posted ++ [m.entry y x st 0]) ∧
  (∀ (s : State) (c q cid : Nat) (m : Cmd) (n : Namespace) (data : List Byte), s.live = true → s.ioReady c q cid 0x7D m = true → s.namespace? m.e.nsid = some n → n.zoned = true → s.bit MP_STAT.GRAN = false → m.nlb ≤ 512 → 4096 * m.nlb ≤ data.length → s.zoneAway n (m.slba / s.zoneSize n) = none → s.zoneBusy m.e.nsid n (m.slba / s.zoneSize n) = false →
    s.zoneFault m.e.nsid n (m.slba / s.zoneSize n) (s.zoneNext m.e.nsid n (m.slba / s.zoneSize n)) m.nlb = none → (s.zone m.e.nsid (m.slba / s.zoneSize n)).zstate = zsImplicit → s.noWriteSet (some (n.firstSet + m.slba / s.zoneSize n)) = false →
    ∃ u : State, exec (.zoneAppend c q cid data) s = .next u.standbyStep ∧ u.map.groups = s.map.groups ++ [{ owner := some m.ref, gblk := n.base + s.zoneBase n (m.slba / s.zoneSize n) + s.zoneNext m.e.nsid n (m.slba / s.zoneSize n), nblk := m.nlb, nsid := m.e.nsid, zone := some (m.slba / s.zoneSize n), data := blocksOf m.nlb data, last := false, result := m.slba + s.zoneNext m.e.nsid n (m.slba / s.zoneSize n) }] ∧
      (u.cmd? c q cid).map (fun k => k.started) = some true ∧ u.nvme.posted = s.nvme.posted ∧ OnlyParts [.nvme, .map] s u) ∧
  (∀ (s : State) (c q cid : Nat) (m : Cmd) (n : Namespace), s.live = true → s.ioReady c q cid 0x08 m = true → s.namespace? m.e.nsid = some n → s.bit MP_STAT.GRAN = false → 
    ∃ u : State, exec (.writeZeroes c q cid) s = .next u.standbyStep ∧ u.map.issue = s.map.issue ++ [⟨.dealloc (n.base + m.slba) m.nlb 0, [], some m.ref, false, 0⟩] ∧ u.map.groups = s.map.groups ∧ u.cmd? c q cid = some { m with started := true } ∧ u.nvme.posted = s.nvme.posted ∧ OnlyParts [.nvme, .map] s u) ∧
  (∀ (s : State) (c q cid : Nat) (m : Cmd) (n : Namespace) (a k : Nat), s.live = true → s.ioReady c q cid 0x09 m = true → s.namespace? m.e.nsid = some n → s.bit MP_STAT.GRAN = false → natBit m.e.cdw11 2 = true → a + k ≤ s.nsze n → 0 < k →
    ∃ u : State, exec (.datasetManagement c q cid [(a, k)]) s = .next u.standbyStep ∧ u.map.issue = s.map.issue ++ [⟨.dealloc (n.base + a) k 0, [], some m.ref, false, 0⟩] ∧ u.map.groups = s.map.groups ∧ u.cmd? c q cid = some { m with started := true } ∧ u.nvme.posted = s.nvme.posted ∧ OnlyParts [.nvme, .map] s u) ∧
  (∀ (s : State) (c q cid : Nat) (m : Cmd) (n : Namespace) (y : SubQ) (x : ComQ) (ranges : List (Nat × Nat)), s.live = true → s.ioReady c q cid 0x09 m = true → s.alone m y x = true → s.namespace? m.e.nsid = some n → natBit m.e.cdw11 2 = false →
    ∃ u : State, exec (.datasetManagement c q cid ranges) s = .next u.standbyStep ∧ u.map = s.map ∧ u.nvme.inflight = [] ∧ u.nvme.posted = s.nvme.posted ++ [m.entry y x .ok 0]) ∧
  (∀ (s : State) (c q cid : Nat) (m : Cmd) (y : SubQ) (x : ComQ), s.live = true → s.ioReady c q cid 0x00 m = true → s.alone m y x = true → m.ready = none →
    ∃ t, exec (.flush c q cid) s = .next t ∧ t.nvme.inflight = [] ∧ t.nvme.posted = s.nvme.posted ++ [m.entry y x .ok 0] ∧ OnlyParts [.regs, .tickMem, .sil, .nvme] s t) ∧
  (∀ (s : State) (c q cid : Nat) (m k : Cmd), s.live = true → s.ioReady c q cid 0x00 m = true → m.ready = none → s.nvme.inflight = [k, m] → k.flushed m = true → k.ready = none → k.fault = none → s.nvme.drains = [] →
    ∃ t, exec (.flush c q cid) s = .next t ∧ t.nvme.inflight = [k, { m with started := true }] ∧ t.nvme.posted = s.nvme.posted ∧ OnlyParts [.nvme] s t) ∧
  (∀ (s : State) (c q cid : Nat) (m : Cmd) (y : SubQ) (x : ComQ), s.live = true → s.ioReady c q cid 0x81 m = true → s.alone m y x = true → m.ready = none → natBit m.e.cdw10 1 = false → s.heldFor m = false →
    ∃ t, exec (.fence c q cid) s = .next t ∧ t.nvme.inflight = [] ∧ t.nvme.posted = s.nvme.posted ++ [m.entry y x .ok m.earlier] ∧ OnlyParts [.regs, .tickMem, .sil, .nvme] s t) ∧
  (∀ (s : State) (c q cid : Nat) (m k : Cmd), s.live = true → s.ioReady c q cid 0x81 m = true → m.ready = none → s.nvme.inflight = [k, m] → k.before m = true → k.ready = none → k.fault = none → isReadOp k.e.opc = true → s.nvme.drains = [] →
    ∃ t, exec (.fence c q cid) s = .next t ∧ t.nvme.inflight = [k, { m with started := true }] ∧ t.nvme.posted = s.nvme.posted ∧ OnlyParts [.nvme] s t) ∧
  (∀ (s : State) (c q cid : Nat) (m : Cmd) (y : SubQ) (x : ComQ) (n : Namespace), s.live = true → q ≠ 0 → s.cmd? c q cid = some m → m.e.opc = 0x02 → s.mayStart m = true → s.alone m y x = true → s.namespace? m.e.nsid = some n → n.rtype = 2 → n.holder ≠ c + 1 →
    ∃ u : State, exec (.read c q cid []) s = .next u.standbyStep ∧ u.nvme.inflight = [] ∧ u.nvme.posted = s.nvme.posted ++ [m.entry y x .reservationConflict 0] ∧ u.rings = s.rings) ∧
  (∀ (s : State) (c q cid : Nat) (m : Cmd), s.live = true → s.cmd? c q cid = some m → m.granted = true → s.mayStart m = false → exec (.read c q cid []) s = .next s.standbyStep) ∧
  (∀ (s : State) (c q cid : Nat) (m : Cmd) (n : Namespace) (crkey nrkey : Nat), s.live = true → s.ioReady c q cid 0x0D m = true → s.namespace? m.e.nsid = some n → m.e.cdw10 % 8 = 0 → n.registered c = false → n.registrants.length < 32 →
    ∃ u : State, exec (.reservationRegister c q cid crkey nrkey) s = .next (u.complete m .ok 0) ∧ u.namespace? m.e.nsid = some { n with gen := n.gen + 1, registrants := n.registrants ++ [⟨c, nrkey⟩] } ∧ (∀ k : Nat, k ≠ m.e.nsid → u.namespace? k = s.namespace? k) ∧ OnlyParts [.nvme, .map] s u) ∧
  (∀ (s : State) (c q cid : Nat) (m : Cmd) (n : Namespace) (crkey nrkey : Nat), s.live = true → s.ioReady c q cid 0x0D m = true → s.namespace? m.e.nsid = some n → m.e.cdw10 % 8 = 1 → n.registrants = [⟨c, crkey⟩] → n.holder = c + 1 → n.rtype = 1 →
    ∃ u : State, exec (.reservationRegister c q cid crkey nrkey) s = .next (u.complete m .ok 0) ∧ u.namespace? m.e.nsid = some { n with gen := n.gen + 1, registrants := [], holder := 0, rtype := 0 } ∧ OnlyParts [.nvme, .map] s u) ∧
  (∀ (s : State) (c q cid : Nat) (m : Cmd) (n : Namespace) (crkey prkey : Nat), s.live = true → s.ioReady c q cid 0x11 m = true → s.namespace? m.e.nsid = some n → m.e.cdw10 % 16 = 0 → 1 ≤ natBits m.e.cdw10 8 8 → natBits m.e.cdw10 8 8 ≤ 6 → n.keyOk c crkey = true → n.rtype = 0 →
    ∃ u : State, exec (.reservationAcquire c q cid crkey prkey) s = .next (u.complete m .ok 0) ∧ u.namespace? m.e.nsid = some { n with holder := c + 1, rtype := natBits m.e.cdw10 8 8 } ∧ OnlyParts [.nvme, .map] s u) ∧
  (∀ (s : State) (c q cid : Nat) (m : Cmd) (n : Namespace) (crkey prkey : Nat), s.live = true → s.ioReady c q cid 0x11 m = true → s.namespace? m.e.nsid = some n → m.e.cdw10 % 16 = 0 → 1 ≤ natBits m.e.cdw10 8 8 → natBits m.e.cdw10 8 8 ≤ 6 → n.keyOk c crkey = false ∨ (n.rtype ≠ 0 ∧ n.holds c = false) →
    exec (.reservationAcquire c q cid crkey prkey) s = .next (s.complete m .reservationConflict 0)) ∧
  (∀ (s : State) (q cid : Nat) (m : Cmd) (n : Namespace) (crkey prkey : Nat), s.live = true → s.ioReady 0 q cid 0x11 m = true → s.namespace? m.e.nsid = some n → m.e.cdw10 % 16 = 1 → natBits m.e.cdw10 8 8 = 1 → n.registrants = [⟨0, crkey⟩, ⟨1, prkey⟩] → prkey ≠ crkey → n.holder = 2 → n.rtype = 1 →
    ∃ u : State, exec (.reservationAcquire 0 q cid crkey prkey) s = .next (u.complete m .ok 0) ∧ u.namespace? m.e.nsid = some { n with registrants := [⟨0, crkey⟩], gen := n.gen + 1, holder := 1, rtype := 1 }) ∧
  (∀ (s : State) (c q cid : Nat) (m : Cmd) (n : Namespace) (crkey : Nat), s.live = true → s.ioReady c q cid 0x15 m = true → s.namespace? m.e.nsid = some n → m.e.cdw10 % 16 = 0 → natBits m.e.cdw10 8 8 = n.rtype → n.keyOk c crkey = true → n.holder = c + 1 → n.rtype = 1 ∨ n.rtype = 2 →
    ∃ u : State, exec (.reservationRelease c q cid crkey) s = .next (u.complete m .ok 0) ∧ u.namespace? m.e.nsid = some { n with holder := 0, rtype := 0 } ∧ OnlyParts [.nvme, .map] s u) ∧
  (∀ (s : State) (c q cid : Nat) (m : Cmd) (n : Namespace), s.live = true → s.ioReady c q cid 0x0E m = true → s.namespace? m.e.nsid = some n → exec (.reservationReport c q cid) s = .next ((s.hostWrite .data c m.e.dptr (slice n.report 0 (Nat.min ((m.e.cdw10 + 1) * 4) 8192))).complete m .ok 0)) ∧
  (∀ (s : State) (c q cid : Nat) (m : Cmd) (n : Namespace) (z : Nat), s.live = true → s.ioReady c q cid 0x79 m = true → s.namespace? m.e.nsid = some n → m.e.cdw13 = 1 → m.slba = z * s.zoneSize n → z < n.nsets → s.zoneNext m.e.nsid n z = (s.zone m.e.nsid z).wp → (s.zone m.e.nsid z).zstate = zsImplicit ∨ (s.zone m.e.nsid z).zstate = zsExplicit →
    ∃ t, exec (.zoneClose c q cid) s = .next t ∧ t.zone m.e.nsid z = ⟨zsClosed, (s.zone m.e.nsid z).wp⟩ ∧ t.map.issue = s.map.issue ++ [⟨.zone m.e.nsid zsClosed z (s.zone m.e.nsid z).wp, [], some m.ref, false, 0⟩] ∧ t.cmd? c q cid = some { m with started := true } ∧ t.nvme.posted = s.nvme.posted ∧ OnlyParts [.nvme, .map] s t) ∧
  (∀ (s : State) (c q cid : Nat) (m : Cmd) (n : Namespace) (z : Nat), s.live = true → s.ioReady c q cid 0x79 m = true → s.namespace? m.e.nsid = some n → m.e.cdw13 = 3 → 0 < s.zoneSize n → m.slba = z * s.zoneSize n → z < n.nsets → s.zoneNext m.e.nsid n z = (s.zone m.e.nsid z).wp → (s.zone m.e.nsid z).zstate = zsImplicit ∨ (s.zone m.e.nsid z).zstate = zsClosed →
    ∃ t, exec (.zoneOpen c q cid) s = .next t ∧ t.zone m.e.nsid z = ⟨zsExplicit, (s.zone m.e.nsid z).wp⟩ ∧ t.map.issue = s.map.issue ++ [⟨.zone m.e.nsid zsExplicit z (s.zone m.e.nsid z).wp, [], some m.ref, false, 0⟩] ∧ t.cmd? c q cid = some { m with started := true } ∧ t.nvme.posted = s.nvme.posted ∧ OnlyParts [.nvme, .map] s t) ∧
  (∀ (s : State) (c q cid : Nat) (m : Cmd) (n : Namespace) (z : Nat), s.live = true → s.ioReady c q cid 0x79 m = true → s.namespace? m.e.nsid = some n → m.e.cdw13 = 2 → m.slba = z * s.zoneSize n → z < n.nsets → s.zoneNext m.e.nsid n z = (s.zone m.e.nsid z).wp → (s.zone m.e.nsid z).zstate = zsClosed ∨ (s.zone m.e.nsid z).zstate = zsEmpty →
    ∃ t, exec (.zoneFinish c q cid) s = .next t ∧ t.zone m.e.nsid z = ⟨zsFull, s.zcap (n.firstSet + z)⟩ ∧ t.map.issue.getLast? = some ⟨.zone m.e.nsid zsFull z (s.zcap (n.firstSet + z)), [], some m.ref, false, 0⟩ ∧ (t.bandSet (n.firstSet + z)).st ≠ .open ∧ t.cmd? c q cid = some { m with started := true } ∧ t.nvme.posted = s.nvme.posted) ∧
  (∀ (s : State) (c q cid : Nat) (m : Cmd) (n : Namespace) (z : Nat), s.live = true → s.ioReady c q cid 0x79 m = true → s.namespace? m.e.nsid = some n → m.e.cdw13 = 4 → m.slba = z * s.zoneSize n → z < n.nsets → s.zoneNext m.e.nsid n z = (s.zone m.e.nsid z).wp → (s.zone m.e.nsid z).zstate ≠ zsEmpty →
    ∃ t, exec (.zoneReset c q cid) s = .next t ∧ t.map.issue = s.map.issue ++ [⟨.dealloc (n.base + s.zoneBase n z) (s.zcap (n.firstSet + z)) 0, [], some m.ref, false, 0⟩, ⟨.zone m.e.nsid zsEmpty z 0, [], some m.ref, false, 0⟩] ∧ t.cmd? c q cid = some { m with started := true } ∧ t.nvme.posted = s.nvme.posted ∧ OnlyParts [.nvme, .map] s t) ∧
  (∀ (s : State) (c q cid : Nat) (m : Cmd) (n : Namespace) (z : Nat), s.live = true → s.ioReady c q cid 0x79 m = true → s.namespace? m.e.nsid = some n → m.e.cdw13 = 1 → m.slba = z * s.zoneSize n → z < n.nsets → s.zoneNext m.e.nsid n z = (s.zone m.e.nsid z).wp → (s.zone m.e.nsid z).zstate = zsFull ∨ (s.zone m.e.nsid z).zstate = zsEmpty →
    exec (.zoneClose c q cid) s = .next (s.complete m .zoneTransition 0)) ∧
  (∀ (s : State) (c q cid : Nat) (m : Cmd) (n : Namespace), s.live = true → s.ioReady c q cid 0x7A m = true → s.namespace? m.e.nsid = some n → m.slba = 0 → n.nsets = 1 → 0 < s.zoneSize n → 0 < s.nsze n → natBits m.e.cdw13 8 8 = 0 → natBit m.e.cdw13 16 = true → m.e.cdw12 = 31 →
    exec (.zoneMgmtReceive c q cid) s = .next ((s.hostWrite .data c m.e.dptr (leBytes 8 1 ++ zeros 56 ++ s.zoneDescriptor m.e.nsid n 0)).complete m .ok 0))
end

