-- ==== Sys2Proof/Laws/SMap.lean ====
section
/-! SUPPORT. Laws of sparse storage: what a key reads as after an operation, and that every operation keeps the canonical form. -/
namespace Sys2Proof.Machine

variable {α : Type}

@[simp] theorem SMap.get_nil (d : Nat → α) (k : Nat) : SMap.get d [] k = d k := rfl

theorem SMap.get_insert_same (d : Nat → α) (m : List (Nat × α)) (k : Nat) (v : α) : SMap.get d (SMap.insert m k v) k = v := by
  induction m with
  | nil => simp [SMap.insert, SMap.get]
  | cons x m ih =>
    obtain ⟨j, w⟩ := x
    unfold SMap.insert
    split
    · simp [SMap.get]
    · split
      · simp [SMap.get]
      · rename_i h
        simp [SMap.get, h, ih]

theorem SMap.get_insert_other (d : Nat → α) (m : List (Nat × α)) (k i : Nat) (v : α) (h : i ≠ k) :
    SMap.get d (SMap.insert m k v) i = SMap.get d m i := by
  have hk : ¬ k = i := fun e => h e.symm
  induction m with
  | nil => simp [SMap.insert, SMap.get, hk]
  | cons x m ih =>
    obtain ⟨j, w⟩ := x
    unfold SMap.insert
    split
    · simp [SMap.get, hk]
    · split
      · rename_i e
        subst e
        simp [SMap.get, hk]
      · simp [SMap.get, ih]

theorem SMap.get_erase_same (d : Nat → α) (m : List (Nat × α)) (k : Nat) : SMap.get d (SMap.erase m k) k = d k := by
  induction m with
  | nil => rfl
  | cons x m ih =>
    obtain ⟨j, w⟩ := x
    unfold SMap.erase
    split
    · exact ih
    · rename_i h
      simp [SMap.get, h, ih]

theorem SMap.get_erase_other (d : Nat → α) (m : List (Nat × α)) (k i : Nat) (h : i ≠ k) :
    SMap.get d (SMap.erase m k) i = SMap.get d m i := by
  induction m with
  | nil => rfl
  | cons x m ih =>
    obtain ⟨j, w⟩ := x
    unfold SMap.erase
    split
    · rename_i e
      have hj : ¬ j = i := fun e' => h (e'.symm.trans e)
      simp [SMap.get, hj, ih]
    · simp [SMap.get, ih]

variable [DecidableEq α]

/-- A key just written reads what was written. -/
@[simp] theorem SMap.get_set_same (d : Nat → α) (m : List (Nat × α)) (k : Nat) (v : α) : SMap.get d (SMap.set d m k v) k = v := by
  unfold SMap.set
  split
  · rename_i h
    rw [SMap.get_erase_same, h]
  · exact SMap.get_insert_same d m k v

/-- Every other key reads as before. -/
theorem SMap.get_set_other (d : Nat → α) (m : List (Nat × α)) (k i : Nat) (v : α) (h : i ≠ k) :
    SMap.get d (SMap.set d m k v) i = SMap.get d m i := by
  unfold SMap.set
  split
  · exact SMap.get_erase_other d m k i h
  · exact SMap.get_insert_other d m k i v h

theorem SMap.get_set (d : Nat → α) (m : List (Nat × α)) (k i : Nat) (v : α) :
    SMap.get d (SMap.set d m k v) i = if i = k then v else SMap.get d m i := by
  split
  · rename_i h
    rw [h, SMap.get_set_same]
  · rename_i h
    exact SMap.get_set_other d m k i v h

@[simp] theorem SMap.get_modify_same (d : Nat → α) (m : List (Nat × α)) (k : Nat) (f : α → α) :
    SMap.get d (SMap.modify d m k f) k = f (SMap.get d m k) := SMap.get_set_same d m k _

theorem SMap.get_modify_other (d : Nat → α) (m : List (Nat × α)) (k i : Nat) (f : α → α) (h : i ≠ k) :
    SMap.get d (SMap.modify d m k f) i = SMap.get d m i := SMap.get_set_other d m k i _ h

theorem SMap.get_modify (d : Nat → α) (m : List (Nat × α)) (k i : Nat) (f : α → α) :
    SMap.get d (SMap.modify d m k f) i = if i = k then f (SMap.get d m k) else SMap.get d m i := SMap.get_set d m k i _

/-! ### The canonical form -/

/-- A list canonical from above some key is canonical from above every lower bound that its first key exceeds. -/
theorem SMap.wfFrom_mono (d : Nat → α) (m : List (Nat × α)) (l : Nat) (o : Option Nat) (ho : ∀ b, o = some b → b ≤ l)
    (h : SMap.wfFrom d (some l) m = true) : SMap.wfFrom d o m = true := by
  cases m with
  | nil => cases o <;> rfl
  | cons x m =>
    obtain ⟨j, w⟩ := x
    cases o with
    | none =>
      simp only [SMap.wfFrom, Bool.and_eq_true, decide_eq_true_eq] at h ⊢
      exact ⟨h.1.2, h.2⟩
    | some b =>
      have hb := ho b rfl
      simp only [SMap.wfFrom, Bool.and_eq_true, decide_eq_true_eq] at h ⊢
      exact ⟨⟨by omega, h.1.2⟩, h.2⟩

theorem SMap.wfFrom_insert (d : Nat → α) (k : Nat) (v : α) (hv : v ≠ d k) (m : List (Nat × α)) (o : Option Nat)
    (ho : ∀ b, o = some b → b < k) (h : SMap.wfFrom d o m = true) : SMap.wfFrom d o (SMap.insert m k v) = true := by
  induction m generalizing o with
  | nil =>
    cases o with
    | none => simp [SMap.insert, SMap.wfFrom, hv]
    | some b => simp [SMap.insert, SMap.wfFrom, hv, ho b rfl]
  | cons x m ih =>
    obtain ⟨j, w⟩ := x
    have hj : w ≠ d j ∧ SMap.wfFrom d (some j) m = true ∧ (∀ b, o = some b → b < j) := by
      cases o with
      | none =>
        simp only [SMap.wfFrom, Bool.and_eq_true, decide_eq_true_eq] at h
        exact ⟨h.1, h.2, fun b e => nomatch e⟩
      | some b =>
        simp only [SMap.wfFrom, Bool.and_eq_true, decide_eq_true_eq] at h
        exact ⟨h.1.2, h.2, fun c e => by cases e; exact h.1.1⟩
    have close : ∀ (i : Nat) (u : α) (t : List (Nat × α)), u ≠ d i → (∀ b, o = some b → b < i) → SMap.wfFrom d (some i) t = true →
        SMap.wfFrom d o ((i, u) :: t) = true := by
      intro i u t hu hi ht
      cases o with
      | none => simp [SMap.wfFrom, hu, ht]
      | some b => simp [SMap.wfFrom, hu, ht, hi b rfl]
    unfold SMap.insert
    split
    · rename_i hk
      refine close k v _ hv ho ?_
      simp [SMap.wfFrom, hk, hj.1, hj.2.1]
    · split
      · rename_i e
        subst e
        exact close _ v m hv ho hj.2.1
      · rename_i h1 h2
        exact close j w _ hj.1 hj.2.2 (ih (some j) (fun b e => by cases e; omega) hj.2.1)

theorem SMap.wfFrom_erase (d : Nat → α) (k : Nat) (m : List (Nat × α)) (o : Option Nat)
    (h : SMap.wfFrom d o m = true) : SMap.wfFrom d o (SMap.erase m k) = true := by
  induction m generalizing o with
  | nil => simpa [SMap.erase] using h
  | cons x m ih =>
    obtain ⟨j, w⟩ := x
    unfold SMap.erase
    cases o with
    | none =>
      simp only [SMap.wfFrom, Bool.and_eq_true, decide_eq_true_eq] at h
      split
      · exact ih none (SMap.wfFrom_mono d m j none (fun b e => nomatch e) h.2)
      · simp [SMap.wfFrom, h.1, ih (some j) h.2]
    | some b =>
      simp only [SMap.wfFrom, Bool.and_eq_true, decide_eq_true_eq] at h
      split
      · exact ih (some b) (SMap.wfFrom_mono d m j (some b) (fun c e => by cases e; omega) h.2)
      · simp [SMap.wfFrom, h.1.1, h.1.2, ih (some j) h.2]

@[simp] theorem SMap.wf_nil (d : Nat → α) : SMap.wf d ([] : List (Nat × α)) = true := rfl

/-- A write keeps the canonical form. -/
theorem SMap.wf_set (d : Nat → α) (m : List (Nat × α)) (k : Nat) (v : α) (h : SMap.wf d m = true) : SMap.wf d (SMap.set d m k v) = true := by
  unfold SMap.set
  split
  · exact SMap.wfFrom_erase d k m none h
  · rename_i hv
    exact SMap.wfFrom_insert d k v hv m none (fun b e => nomatch e) h

theorem SMap.wf_modify (d : Nat → α) (m : List (Nat × α)) (k : Nat) (f : α → α) (h : SMap.wf d m = true) :
    SMap.wf d (SMap.modify d m k f) = true := SMap.wf_set d m k _ h

/-- The canonical form read as a proposition: the keys rise strictly and no entry has its unlisted value. -/
theorem SMap.wfFrom_iff (d : Nat → α) (m : List (Nat × α)) (o : Option Nat) :
    SMap.wfFrom d o m = true ↔
      (m.map Prod.fst).Pairwise (· < ·) ∧ (∀ x ∈ m, x.2 ≠ d x.1) ∧ (∀ b, o = some b → ∀ x ∈ m, b < x.1) := by
  induction m generalizing o with
  | nil => cases o <;> simp [SMap.wfFrom]
  | cons x m ih =>
    obtain ⟨j, w⟩ := x
    have key : SMap.wfFrom d (some j) m = true ↔
        (m.map Prod.fst).Pairwise (· < ·) ∧ (∀ x ∈ m, x.2 ≠ d x.1) ∧ (∀ x ∈ m, j < x.1) := by
      rw [ih (some j)]; simp
    cases o with
    | none =>
      simp only [SMap.wfFrom, Bool.and_eq_true, decide_eq_true_eq, key, List.map_cons, List.pairwise_cons, List.mem_map,
        List.forall_mem_cons]
      constructor
      · rintro ⟨h1, h2, h3, h4⟩
        refine ⟨⟨?_, h2⟩, ⟨h1, h3⟩, fun b e => nomatch e⟩
        rintro a ⟨x, hx, rfl⟩
        exact h4 x hx
      · rintro ⟨⟨h1, h2⟩, ⟨h3, h4⟩, -⟩
        exact ⟨h3, h2, h4, fun x hx => h1 x.1 ⟨x, hx, rfl⟩⟩
    | some b =>
      simp only [SMap.wfFrom, Bool.and_eq_true, decide_eq_true_eq, key, List.map_cons, List.pairwise_cons, List.mem_map,
        List.forall_mem_cons, Option.some.injEq, forall_eq']
      constructor
      · rintro ⟨⟨h0, h1⟩, h2, h3, h4⟩
        refine ⟨⟨?_, h2⟩, ⟨h1, h3⟩, h0, fun x hx => by have := h4 x hx; omega⟩
        rintro a ⟨x, hx, rfl⟩
        exact h4 x hx
      · rintro ⟨⟨h1, h2⟩, ⟨h3, h4⟩, h5, -⟩
        exact ⟨⟨h5, h3⟩, h2, h4, fun x hx => h1 x.1 ⟨x, hx, rfl⟩⟩

/-- Applying a function to every listed value, and dropping what comes to its unlisted value, keeps the canonical form. -/
theorem SMap.wf_mapAll (d : Nat → α) (m : List (Nat × α)) (f : Nat → α → α) (h : SMap.wf d m = true) :
    SMap.wf d (SMap.mapAll d m f) = true := by
  unfold SMap.wf at *
  rw [SMap.wfFrom_iff] at h ⊢
  refine ⟨?_, ?_, fun b e => nomatch e⟩
  · have hs : (((m.map (fun x => (x.1, f x.1 x.2))).filter (fun x => decide (x.2 ≠ d x.1))).map Prod.fst).Sublist (m.map Prod.fst) := by
      have := (List.filter_sublist (p := fun x => decide (x.2 ≠ d x.1)) (l := m.map (fun x => (x.1, f x.1 x.2)))).map Prod.fst
      simpa [List.map_map, Function.comp_def] using this
    exact h.1.sublist hs
  · intro x hx
    have := (List.mem_filter.mp hx).2
    simpa using this

/-- Dropping entries keeps the canonical form. -/
theorem SMap.wf_filter (d : Nat → α) (m : List (Nat × α)) (q : Nat × α → Bool) (h : SMap.wf d m = true) : SMap.wf d (m.filter q) = true := by
  unfold SMap.wf at *
  rw [SMap.wfFrom_iff] at h ⊢
  refine ⟨h.1.sublist ((List.filter_sublist (p := q) (l := m)).map Prod.fst), fun x hx => h.2.1 x (List.mem_filter.mp hx).1, fun b e => nomatch e⟩

/-- So do writes one after another. -/
theorem SMap.wf_foldl_set {β : Type} (d : Nat → α) (l : List β) (k : β → Nat) (v : β → α) (m : List (Nat × α)) (h : SMap.wf d m = true) :
    SMap.wf d (l.foldl (fun p x => SMap.set d p (k x) (v x)) m) = true := by
  induction l generalizing m with
  | nil => exact h
  | cons x l ih => exact ih _ (SMap.wf_set d m (k x) (v x) h)

end Sys2Proof.Machine
end

