-- ==== Sys2Proof/Laws/Regs.lean ====
section
/-! SUPPORT. Laws of register and field access. A field law takes the place of its bits as a decidable side condition that `decide`
or `simp` closes for a field of the map. -/
namespace Sys2Proof.Machine

/-- A field lies in its 32-bit word. -/
def Fld.ok (f : Fld) : Bool := decide (f.lo ≤ f.hi) && decide (f.hi < 32)

/-- Two fields share no bit. -/
def Fld.apart (f g : Fld) : Bool := decide (f.addr ≠ g.addr) || decide (f.hi < g.lo) || decide (g.hi < f.lo)

@[simp] theorem State.reg_setReg_same (s : State) (a : Nat) (w : Word32) : (s.setReg a w).reg a = w := by
  simp [State.reg, State.setReg]

theorem State.reg_setReg_other (s : State) (a b : Nat) (w : Word32) (h : b ≠ a) : (s.setReg a w).reg b = s.reg b := by
  simp [State.reg, State.setReg, SMap.get_set_other _ _ _ _ _ h]

theorem Fld.getLsbD_mask (f : Fld) (i : Nat) (hi : i < 32) :
    f.mask.getLsbD i = (decide (f.lo ≤ i) && decide (i - f.lo < f.hi - f.lo + 1)) := by
  simp only [Fld.mask, BitVec.getLsbD_ofNat, hi, decide_true, Bool.true_and, ← Nat.shiftLeft_eq, Nat.testBit_shiftLeft,
    Nat.testBit_two_pow_sub_one, ge_iff_le]

theorem Fld.getLsbD_intoWord (f : Fld) (w : Word32) (v i : Nat) (hi : i < 32) :
    (f.intoWord w v).getLsbD i =
      if f.lo ≤ i ∧ i - f.lo < f.hi - f.lo + 1 then v.testBit (i - f.lo) else w.getLsbD i := by
  simp only [Fld.intoWord, BitVec.getLsbD_or, BitVec.getLsbD_and, BitVec.getLsbD_not, Fld.getLsbD_mask f i hi, hi, decide_true, Bool.true_and,
    BitVec.getLsbD_ofNat, ← Nat.shiftLeft_eq, Nat.testBit_shiftLeft, Nat.testBit_mod_two_pow, ge_iff_le]
  by_cases h1 : f.lo ≤ i <;> by_cases h2 : i - f.lo < f.hi - f.lo + 1 <;> simp [h1, h2]

theorem Fld.ofWord_testBit (f : Fld) (w : Word32) (i : Nat) :
    (f.ofWord w).testBit i = (decide (i < f.hi - f.lo + 1) && w.getLsbD (f.lo + i)) := by
  rw [Fld.ofWord, Nat.testBit_mod_two_pow, ← Nat.shiftRight_eq_div_pow, Nat.testBit_shiftRight, BitVec.testBit_toNat]

/-- A field just written reads the value written, cut to its width. -/
theorem Fld.ofWord_intoWord_same (f : Fld) (w : Word32) (v : Nat) (h : f.ok = true) :
    f.ofWord (f.intoWord w v) = v % 2 ^ (f.hi - f.lo + 1) := by
  simp only [Fld.ok, Bool.and_eq_true, decide_eq_true_eq] at h
  apply Nat.eq_of_testBit_eq
  intro i
  rw [Fld.ofWord_testBit, Nat.testBit_mod_two_pow]
  by_cases hi : i < f.hi - f.lo + 1
  · rw [Fld.getLsbD_intoWord f w v (f.lo + i) (by omega)]
    simp [hi]
  · simp [hi]

/-- A field that shares no bit with the one written reads as before. -/
theorem Fld.ofWord_intoWord_other (f g : Fld) (w : Word32) (v : Nat) (hg : g.ok = true) (hf : f.ok = true)
    (h : f.hi < g.lo ∨ g.hi < f.lo) : g.ofWord (f.intoWord w v) = g.ofWord w := by
  simp only [Fld.ok, Bool.and_eq_true, decide_eq_true_eq] at hg hf
  apply Nat.eq_of_testBit_eq
  intro i
  rw [Fld.ofWord_testBit, Fld.ofWord_testBit]
  by_cases hi : i < g.hi - g.lo + 1
  · rw [Fld.getLsbD_intoWord f w v (g.lo + i) (by omega), if_neg (by omega)]
  · simp [hi]

theorem State.fld_setFld_same (s : State) (f : Fld) (v : Nat) (h : f.ok = true) :
    (s.setFld f v).fld f = v % 2 ^ (f.hi - f.lo + 1) := by
  simp [State.fld, State.setFld, Fld.ofWord_intoWord_same f _ v h]

theorem State.fld_setFld_other (s : State) (f g : Fld) (v : Nat) (hg : g.ok = true) (hf : f.ok = true) (h : f.apart g = true) :
    (s.setFld f v).fld g = s.fld g := by
  simp only [Fld.apart, Bool.or_eq_true, decide_eq_true_eq] at h
  by_cases ha : f.addr = g.addr
  · have h' : f.hi < g.lo ∨ g.hi < f.lo := by
      rcases h with (h | h) | h
      · exact absurd ha h
      · exact .inl h
      · exact .inr h
    simp [State.fld, State.setFld, ← ha, Fld.ofWord_intoWord_other f g _ v hg hf h']
  · simp [State.fld, State.setFld, State.reg_setReg_other _ _ _ _ (fun e => ha e.symm)]

/-- As before, by the places of the bits alone. -/
theorem State.fld_setFld_bits (s : State) (f g : Fld) (v : Nat) (hg : g.ok = true) (hf : f.ok = true)
    (h : (decide (f.hi < g.lo) || decide (g.hi < f.lo)) = true) : (s.setFld f v).fld g = s.fld g :=
  State.fld_setFld_other s f g v hg hf (by
    simp only [Bool.or_eq_true, decide_eq_true_eq] at h
    simp only [Fld.apart, Bool.or_eq_true, decide_eq_true_eq]
    rcases h with h | h
    · exact .inl (.inr h)
    · exact .inr h)

/-- As before, by the addresses. -/
theorem State.fld_setFld_addr (s : State) (f g : Fld) (v : Nat) (h : f.addr ≠ g.addr) : (s.setFld f v).fld g = s.fld g := by
  simp [State.fld, State.setFld, State.reg_setReg_other _ _ _ _ (fun e => h e.symm)]

theorem State.reg_setFld_other (s : State) (f : Fld) (v a : Nat) (h : a ≠ f.addr) : (s.setFld f v).reg a = s.reg a :=
  State.reg_setReg_other _ _ _ _ h

/-- Reading a field never exceeds its width. -/
theorem State.fld_lt (s : State) (f : Fld) : s.fld f < 2 ^ (f.hi - f.lo + 1) := Nat.mod_lt _ (Nat.two_pow_pos _)

end Sys2Proof.Machine
end

