-- ==== Sys2Proof/Laws/State.lean ====
section
/-! SUPPORT. What each of the basic updates of State leaves and changes: one lemma for each field and update, by `rfl`, so that no proof
unfolds a record update. -/
namespace Sys2Proof.Machine

variable (s : State)

/-! #### setReg -/
@[simp] theorem State.setReg_pending (a : Nat) (w : Word32) : (s.setReg a w).pending = s.pending := rfl
@[simp] theorem State.setReg_tick (a : Nat) (w : Word32) : (s.setReg a w).tick = s.tick := rfl
@[simp] theorem State.setReg_regs (a : Nat) (w : Word32) : (s.setReg a w).regs = SMap.set resetWord s.regs a w := rfl
@[simp] theorem State.setReg_tickMem (a : Nat) (w : Word32) : (s.setReg a w).tickMem = s.tickMem := rfl
@[simp] theorem State.setReg_recorded (a : Nat) (w : Word32) : (s.setReg a w).recorded = s.recorded := rfl
@[simp] theorem State.setReg_pins (a : Nat) (w : Word32) : (s.setReg a w).pins = s.pins := rfl
@[simp] theorem State.setReg_power (a : Nat) (w : Word32) : (s.setReg a w).power = s.power := rfl
@[simp] theorem State.setReg_doms (a : Nat) (w : Word32) : (s.setReg a w).doms = s.doms := rfl
@[simp] theorem State.setReg_acc (a : Nat) (w : Word32) : (s.setReg a w).acc = s.acc := rfl
@[simp] theorem State.setReg_nv (a : Nat) (w : Word32) : (s.setReg a w).nv = s.nv := rfl
@[simp] theorem State.setReg_sec (a : Nat) (w : Word32) : (s.setReg a w).sec = s.sec := rfl
@[simp] theorem State.setReg_faults (a : Nat) (w : Word32) : (s.setReg a w).faults = s.faults := rfl
@[simp] theorem State.setReg_sil (a : Nat) (w : Word32) : (s.setReg a w).sil = s.sil := rfl
@[simp] theorem State.setReg_thermal (a : Nat) (w : Word32) : (s.setReg a w).thermal = s.thermal := rfl
@[simp] theorem State.setReg_nvme (a : Nat) (w : Word32) : (s.setReg a w).nvme = s.nvme := rfl
@[simp] theorem State.setReg_rings (a : Nat) (w : Word32) : (s.setReg a w).rings = s.rings := rfl
@[simp] theorem State.setReg_map (a : Nat) (w : Word32) : (s.setReg a w).map = s.map := rfl
@[simp] theorem State.setReg_helpers (a : Nat) (w : Word32) : (s.setReg a w).helpers = s.helpers := rfl
@[simp] theorem State.setReg_steward (a : Nat) (w : Word32) : (s.setReg a w).steward = s.steward := rfl
@[simp] theorem State.setReg_fabric (a : Nat) (w : Word32) : (s.setReg a w).fabric = s.fabric := rfl
@[simp] theorem State.setReg_mem (a : Nat) (w : Word32) : (s.setReg a w).mem = s.mem := rfl
@[simp] theorem State.setReg_cache (a : Nat) (w : Word32) : (s.setReg a w).cache = s.cache := rfl
@[simp] theorem State.setReg_movers (a : Nat) (w : Word32) : (s.setReg a w).movers = s.movers := rfl
@[simp] theorem State.setReg_spindle (a : Nat) (w : Word32) : (s.setReg a w).spindle = s.spindle := rfl
@[simp] theorem State.setReg_servo (a : Nat) (w : Word32) : (s.setReg a w).servo = s.servo := rfl
@[simp] theorem State.setReg_assist (a : Nat) (w : Word32) : (s.setReg a w).assist = s.assist := rfl
@[simp] theorem State.setReg_lanes (a : Nat) (w : Word32) : (s.setReg a w).lanes = s.lanes := rfl
@[simp] theorem State.setReg_decode (a : Nat) (w : Word32) : (s.setReg a w).decode = s.decode := rfl
@[simp] theorem State.setReg_cal (a : Nat) (w : Word32) : (s.setReg a w).cal = s.cal := rfl
@[simp] theorem State.setReg_tier (a : Nat) (w : Word32) : (s.setReg a w).tier = s.tier := rfl
@[simp] theorem State.setReg_pool (a : Nat) (w : Word32) : (s.setReg a w).pool = s.pool := rfl
@[simp] theorem State.setReg_eb (a : Nat) (w : Word32) : (s.setReg a w).eb = s.eb := rfl
@[simp] theorem State.setReg_freeIdx (a : Nat) (w : Word32) : (s.setReg a w).freeIdx = s.freeIdx := rfl
@[simp] theorem State.setReg_readOut (a : Nat) (w : Word32) : (s.setReg a w).readOut = s.readOut := rfl

/-! #### setFld -/
@[simp] theorem State.setFld_pending (g : Fld) (v : Nat) : (s.setFld g v).pending = s.pending := rfl
@[simp] theorem State.setFld_tick (g : Fld) (v : Nat) : (s.setFld g v).tick = s.tick := rfl
@[simp] theorem State.setFld_tickMem (g : Fld) (v : Nat) : (s.setFld g v).tickMem = s.tickMem := rfl
@[simp] theorem State.setFld_recorded (g : Fld) (v : Nat) : (s.setFld g v).recorded = s.recorded := rfl
@[simp] theorem State.setFld_pins (g : Fld) (v : Nat) : (s.setFld g v).pins = s.pins := rfl
@[simp] theorem State.setFld_power (g : Fld) (v : Nat) : (s.setFld g v).power = s.power := rfl
@[simp] theorem State.setFld_doms (g : Fld) (v : Nat) : (s.setFld g v).doms = s.doms := rfl
@[simp] theorem State.setFld_acc (g : Fld) (v : Nat) : (s.setFld g v).acc = s.acc := rfl
@[simp] theorem State.setFld_nv (g : Fld) (v : Nat) : (s.setFld g v).nv = s.nv := rfl
@[simp] theorem State.setFld_sec (g : Fld) (v : Nat) : (s.setFld g v).sec = s.sec := rfl
@[simp] theorem State.setFld_faults (g : Fld) (v : Nat) : (s.setFld g v).faults = s.faults := rfl
@[simp] theorem State.setFld_sil (g : Fld) (v : Nat) : (s.setFld g v).sil = s.sil := rfl
@[simp] theorem State.setFld_thermal (g : Fld) (v : Nat) : (s.setFld g v).thermal = s.thermal := rfl
@[simp] theorem State.setFld_nvme (g : Fld) (v : Nat) : (s.setFld g v).nvme = s.nvme := rfl
@[simp] theorem State.setFld_rings (g : Fld) (v : Nat) : (s.setFld g v).rings = s.rings := rfl
@[simp] theorem State.setFld_map (g : Fld) (v : Nat) : (s.setFld g v).map = s.map := rfl
@[simp] theorem State.setFld_helpers (g : Fld) (v : Nat) : (s.setFld g v).helpers = s.helpers := rfl
@[simp] theorem State.setFld_steward (g : Fld) (v : Nat) : (s.setFld g v).steward = s.steward := rfl
@[simp] theorem State.setFld_fabric (g : Fld) (v : Nat) : (s.setFld g v).fabric = s.fabric := rfl
@[simp] theorem State.setFld_mem (g : Fld) (v : Nat) : (s.setFld g v).mem = s.mem := rfl
@[simp] theorem State.setFld_cache (g : Fld) (v : Nat) : (s.setFld g v).cache = s.cache := rfl
@[simp] theorem State.setFld_movers (g : Fld) (v : Nat) : (s.setFld g v).movers = s.movers := rfl
@[simp] theorem State.setFld_spindle (g : Fld) (v : Nat) : (s.setFld g v).spindle = s.spindle := rfl
@[simp] theorem State.setFld_servo (g : Fld) (v : Nat) : (s.setFld g v).servo = s.servo := rfl
@[simp] theorem State.setFld_assist (g : Fld) (v : Nat) : (s.setFld g v).assist = s.assist := rfl
@[simp] theorem State.setFld_lanes (g : Fld) (v : Nat) : (s.setFld g v).lanes = s.lanes := rfl
@[simp] theorem State.setFld_decode (g : Fld) (v : Nat) : (s.setFld g v).decode = s.decode := rfl
@[simp] theorem State.setFld_cal (g : Fld) (v : Nat) : (s.setFld g v).cal = s.cal := rfl
@[simp] theorem State.setFld_tier (g : Fld) (v : Nat) : (s.setFld g v).tier = s.tier := rfl
@[simp] theorem State.setFld_pool (g : Fld) (v : Nat) : (s.setFld g v).pool = s.pool := rfl
@[simp] theorem State.setFld_eb (g : Fld) (v : Nat) : (s.setFld g v).eb = s.eb := rfl
@[simp] theorem State.setFld_freeIdx (g : Fld) (v : Nat) : (s.setFld g v).freeIdx = s.freeIdx := rfl
@[simp] theorem State.setFld_readOut (g : Fld) (v : Nat) : (s.setFld g v).readOut = s.readOut := rfl

/-! #### setThen -/
@[simp] theorem State.setThen_pending (g : Fld) (v : Nat) : (s.setThen g v).pending = s.pending := rfl
@[simp] theorem State.setThen_tick (g : Fld) (v : Nat) : (s.setThen g v).tick = s.tick := rfl
@[simp] theorem State.setThen_regs (g : Fld) (v : Nat) : (s.setThen g v).regs = s.regs := rfl
@[simp] theorem State.setThen_recorded (g : Fld) (v : Nat) : (s.setThen g v).recorded = s.recorded := rfl
@[simp] theorem State.setThen_pins (g : Fld) (v : Nat) : (s.setThen g v).pins = s.pins := rfl
@[simp] theorem State.setThen_power (g : Fld) (v : Nat) : (s.setThen g v).power = s.power := rfl
@[simp] theorem State.setThen_doms (g : Fld) (v : Nat) : (s.setThen g v).doms = s.doms := rfl
@[simp] theorem State.setThen_acc (g : Fld) (v : Nat) : (s.setThen g v).acc = s.acc := rfl
@[simp] theorem State.setThen_nv (g : Fld) (v : Nat) : (s.setThen g v).nv = s.nv := rfl
@[simp] theorem State.setThen_sec (g : Fld) (v : Nat) : (s.setThen g v).sec = s.sec := rfl
@[simp] theorem State.setThen_faults (g : Fld) (v : Nat) : (s.setThen g v).faults = s.faults := rfl
@[simp] theorem State.setThen_sil (g : Fld) (v : Nat) : (s.setThen g v).sil = s.sil := rfl
@[simp] theorem State.setThen_thermal (g : Fld) (v : Nat) : (s.setThen g v).thermal = s.thermal := rfl
@[simp] theorem State.setThen_nvme (g : Fld) (v : Nat) : (s.setThen g v).nvme = s.nvme := rfl
@[simp] theorem State.setThen_rings (g : Fld) (v : Nat) : (s.setThen g v).rings = s.rings := rfl
@[simp] theorem State.setThen_map (g : Fld) (v : Nat) : (s.setThen g v).map = s.map := rfl
@[simp] theorem State.setThen_helpers (g : Fld) (v : Nat) : (s.setThen g v).helpers = s.helpers := rfl
@[simp] theorem State.setThen_steward (g : Fld) (v : Nat) : (s.setThen g v).steward = s.steward := rfl
@[simp] theorem State.setThen_fabric (g : Fld) (v : Nat) : (s.setThen g v).fabric = s.fabric := rfl
@[simp] theorem State.setThen_mem (g : Fld) (v : Nat) : (s.setThen g v).mem = s.mem := rfl
@[simp] theorem State.setThen_cache (g : Fld) (v : Nat) : (s.setThen g v).cache = s.cache := rfl
@[simp] theorem State.setThen_movers (g : Fld) (v : Nat) : (s.setThen g v).movers = s.movers := rfl
@[simp] theorem State.setThen_spindle (g : Fld) (v : Nat) : (s.setThen g v).spindle = s.spindle := rfl
@[simp] theorem State.setThen_servo (g : Fld) (v : Nat) : (s.setThen g v).servo = s.servo := rfl
@[simp] theorem State.setThen_assist (g : Fld) (v : Nat) : (s.setThen g v).assist = s.assist := rfl
@[simp] theorem State.setThen_lanes (g : Fld) (v : Nat) : (s.setThen g v).lanes = s.lanes := rfl
@[simp] theorem State.setThen_decode (g : Fld) (v : Nat) : (s.setThen g v).decode = s.decode := rfl
@[simp] theorem State.setThen_cal (g : Fld) (v : Nat) : (s.setThen g v).cal = s.cal := rfl
@[simp] theorem State.setThen_tier (g : Fld) (v : Nat) : (s.setThen g v).tier = s.tier := rfl
@[simp] theorem State.setThen_pool (g : Fld) (v : Nat) : (s.setThen g v).pool = s.pool := rfl
@[simp] theorem State.setThen_eb (g : Fld) (v : Nat) : (s.setThen g v).eb = s.eb := rfl
@[simp] theorem State.setThen_freeIdx (g : Fld) (v : Nat) : (s.setThen g v).freeIdx = s.freeIdx := rfl
@[simp] theorem State.setThen_readOut (g : Fld) (v : Nat) : (s.setThen g v).readOut = s.readOut := rfl
@[simp] theorem State.setThen_reg (g : Fld) (v : Nat) (x : Nat) : (s.setThen g v).reg x = s.reg x := rfl
@[simp] theorem State.setThen_fld (g : Fld) (v : Nat) (x : Fld) : (s.setThen g v).fld x = s.fld x := rfl
@[simp] theorem State.setThen_bit (g : Fld) (v : Nat) (x : Fld) : (s.setThen g v).bit x = s.bit x := rfl

/-! #### noteSet -/
@[simp] theorem State.noteSet_pending (g : Fld) (v : Nat) : (s.noteSet g v).pending = s.pending := rfl
@[simp] theorem State.noteSet_tick (g : Fld) (v : Nat) : (s.noteSet g v).tick = s.tick := rfl
@[simp] theorem State.noteSet_regs (g : Fld) (v : Nat) : (s.noteSet g v).regs = s.regs := rfl
@[simp] theorem State.noteSet_recorded (g : Fld) (v : Nat) : (s.noteSet g v).recorded = s.recorded := rfl
@[simp] theorem State.noteSet_pins (g : Fld) (v : Nat) : (s.noteSet g v).pins = s.pins := rfl
@[simp] theorem State.noteSet_power (g : Fld) (v : Nat) : (s.noteSet g v).power = s.power := rfl
@[simp] theorem State.noteSet_doms (g : Fld) (v : Nat) : (s.noteSet g v).doms = s.doms := rfl
@[simp] theorem State.noteSet_acc (g : Fld) (v : Nat) : (s.noteSet g v).acc = s.acc := rfl
@[simp] theorem State.noteSet_nv (g : Fld) (v : Nat) : (s.noteSet g v).nv = s.nv := rfl
@[simp] theorem State.noteSet_sec (g : Fld) (v : Nat) : (s.noteSet g v).sec = s.sec := rfl
@[simp] theorem State.noteSet_faults (g : Fld) (v : Nat) : (s.noteSet g v).faults = s.faults := rfl
@[simp] theorem State.noteSet_sil (g : Fld) (v : Nat) : (s.noteSet g v).sil = s.sil := rfl
@[simp] theorem State.noteSet_thermal (g : Fld) (v : Nat) : (s.noteSet g v).thermal = s.thermal := rfl
@[simp] theorem State.noteSet_nvme (g : Fld) (v : Nat) : (s.noteSet g v).nvme = s.nvme := rfl
@[simp] theorem State.noteSet_rings (g : Fld) (v : Nat) : (s.noteSet g v).rings = s.rings := rfl
@[simp] theorem State.noteSet_map (g : Fld) (v : Nat) : (s.noteSet g v).map = s.map := rfl
@[simp] theorem State.noteSet_helpers (g : Fld) (v : Nat) : (s.noteSet g v).helpers = s.helpers := rfl
@[simp] theorem State.noteSet_steward (g : Fld) (v : Nat) : (s.noteSet g v).steward = s.steward := rfl
@[simp] theorem State.noteSet_fabric (g : Fld) (v : Nat) : (s.noteSet g v).fabric = s.fabric := rfl
@[simp] theorem State.noteSet_mem (g : Fld) (v : Nat) : (s.noteSet g v).mem = s.mem := rfl
@[simp] theorem State.noteSet_cache (g : Fld) (v : Nat) : (s.noteSet g v).cache = s.cache := rfl
@[simp] theorem State.noteSet_movers (g : Fld) (v : Nat) : (s.noteSet g v).movers = s.movers := rfl
@[simp] theorem State.noteSet_spindle (g : Fld) (v : Nat) : (s.noteSet g v).spindle = s.spindle := rfl
@[simp] theorem State.noteSet_servo (g : Fld) (v : Nat) : (s.noteSet g v).servo = s.servo := rfl
@[simp] theorem State.noteSet_assist (g : Fld) (v : Nat) : (s.noteSet g v).assist = s.assist := rfl
@[simp] theorem State.noteSet_lanes (g : Fld) (v : Nat) : (s.noteSet g v).lanes = s.lanes := rfl
@[simp] theorem State.noteSet_decode (g : Fld) (v : Nat) : (s.noteSet g v).decode = s.decode := rfl
@[simp] theorem State.noteSet_cal (g : Fld) (v : Nat) : (s.noteSet g v).cal = s.cal := rfl
@[simp] theorem State.noteSet_tier (g : Fld) (v : Nat) : (s.noteSet g v).tier = s.tier := rfl
@[simp] theorem State.noteSet_pool (g : Fld) (v : Nat) : (s.noteSet g v).pool = s.pool := rfl
@[simp] theorem State.noteSet_eb (g : Fld) (v : Nat) : (s.noteSet g v).eb = s.eb := rfl
@[simp] theorem State.noteSet_freeIdx (g : Fld) (v : Nat) : (s.noteSet g v).freeIdx = s.freeIdx := rfl
@[simp] theorem State.noteSet_readOut (g : Fld) (v : Nat) : (s.noteSet g v).readOut = s.readOut := rfl
@[simp] theorem State.noteSet_reg (g : Fld) (v : Nat) (x : Nat) : (s.noteSet g v).reg x = s.reg x := rfl
@[simp] theorem State.noteSet_fld (g : Fld) (v : Nat) (x : Fld) : (s.noteSet g v).fld x = s.fld x := rfl
@[simp] theorem State.noteSet_bit (g : Fld) (v : Nat) (x : Fld) : (s.noteSet g v).bit x = s.bit x := rfl

/-! #### noteGain -/
@[simp] theorem State.noteGain_pending (g : Fld) (v : Nat) : (s.noteGain g v).pending = s.pending := rfl
@[simp] theorem State.noteGain_tick (g : Fld) (v : Nat) : (s.noteGain g v).tick = s.tick := rfl
@[simp] theorem State.noteGain_regs (g : Fld) (v : Nat) : (s.noteGain g v).regs = s.regs := rfl
@[simp] theorem State.noteGain_recorded (g : Fld) (v : Nat) : (s.noteGain g v).recorded = s.recorded := rfl
@[simp] theorem State.noteGain_pins (g : Fld) (v : Nat) : (s.noteGain g v).pins = s.pins := rfl
@[simp] theorem State.noteGain_power (g : Fld) (v : Nat) : (s.noteGain g v).power = s.power := rfl
@[simp] theorem State.noteGain_doms (g : Fld) (v : Nat) : (s.noteGain g v).doms = s.doms := rfl
@[simp] theorem State.noteGain_acc (g : Fld) (v : Nat) : (s.noteGain g v).acc = s.acc := rfl
@[simp] theorem State.noteGain_nv (g : Fld) (v : Nat) : (s.noteGain g v).nv = s.nv := rfl
@[simp] theorem State.noteGain_sec (g : Fld) (v : Nat) : (s.noteGain g v).sec = s.sec := rfl
@[simp] theorem State.noteGain_faults (g : Fld) (v : Nat) : (s.noteGain g v).faults = s.faults := rfl
@[simp] theorem State.noteGain_sil (g : Fld) (v : Nat) : (s.noteGain g v).sil = s.sil := rfl
@[simp] theorem State.noteGain_thermal (g : Fld) (v : Nat) : (s.noteGain g v).thermal = s.thermal := rfl
@[simp] theorem State.noteGain_nvme (g : Fld) (v : Nat) : (s.noteGain g v).nvme = s.nvme := rfl
@[simp] theorem State.noteGain_rings (g : Fld) (v : Nat) : (s.noteGain g v).rings = s.rings := rfl
@[simp] theorem State.noteGain_map (g : Fld) (v : Nat) : (s.noteGain g v).map = s.map := rfl
@[simp] theorem State.noteGain_helpers (g : Fld) (v : Nat) : (s.noteGain g v).helpers = s.helpers := rfl
@[simp] theorem State.noteGain_steward (g : Fld) (v : Nat) : (s.noteGain g v).steward = s.steward := rfl
@[simp] theorem State.noteGain_fabric (g : Fld) (v : Nat) : (s.noteGain g v).fabric = s.fabric := rfl
@[simp] theorem State.noteGain_mem (g : Fld) (v : Nat) : (s.noteGain g v).mem = s.mem := rfl
@[simp] theorem State.noteGain_cache (g : Fld) (v : Nat) : (s.noteGain g v).cache = s.cache := rfl
@[simp] theorem State.noteGain_movers (g : Fld) (v : Nat) : (s.noteGain g v).movers = s.movers := rfl
@[simp] theorem State.noteGain_spindle (g : Fld) (v : Nat) : (s.noteGain g v).spindle = s.spindle := rfl
@[simp] theorem State.noteGain_servo (g : Fld) (v : Nat) : (s.noteGain g v).servo = s.servo := rfl
@[simp] theorem State.noteGain_assist (g : Fld) (v : Nat) : (s.noteGain g v).assist = s.assist := rfl
@[simp] theorem State.noteGain_lanes (g : Fld) (v : Nat) : (s.noteGain g v).lanes = s.lanes := rfl
@[simp] theorem State.noteGain_decode (g : Fld) (v : Nat) : (s.noteGain g v).decode = s.decode := rfl
@[simp] theorem State.noteGain_cal (g : Fld) (v : Nat) : (s.noteGain g v).cal = s.cal := rfl
@[simp] theorem State.noteGain_tier (g : Fld) (v : Nat) : (s.noteGain g v).tier = s.tier := rfl
@[simp] theorem State.noteGain_pool (g : Fld) (v : Nat) : (s.noteGain g v).pool = s.pool := rfl
@[simp] theorem State.noteGain_eb (g : Fld) (v : Nat) : (s.noteGain g v).eb = s.eb := rfl
@[simp] theorem State.noteGain_freeIdx (g : Fld) (v : Nat) : (s.noteGain g v).freeIdx = s.freeIdx := rfl
@[simp] theorem State.noteGain_readOut (g : Fld) (v : Nat) : (s.noteGain g v).readOut = s.readOut := rfl
@[simp] theorem State.noteGain_reg (g : Fld) (v : Nat) (x : Nat) : (s.noteGain g v).reg x = s.reg x := rfl
@[simp] theorem State.noteGain_fld (g : Fld) (v : Nat) (x : Fld) : (s.noteGain g v).fld x = s.fld x := rfl
@[simp] theorem State.noteGain_bit (g : Fld) (v : Nat) (x : Fld) : (s.noteGain g v).bit x = s.bit x := rfl

/-! #### setBit -/
@[simp] theorem State.setBit_pending (g : Fld) : (s.setBit g).pending = s.pending := rfl
@[simp] theorem State.setBit_tick (g : Fld) : (s.setBit g).tick = s.tick := rfl
@[simp] theorem State.setBit_recorded (g : Fld) : (s.setBit g).recorded = s.recorded := rfl
@[simp] theorem State.setBit_pins (g : Fld) : (s.setBit g).pins = s.pins := rfl
@[simp] theorem State.setBit_power (g : Fld) : (s.setBit g).power = s.power := rfl
@[simp] theorem State.setBit_doms (g : Fld) : (s.setBit g).doms = s.doms := rfl
@[simp] theorem State.setBit_acc (g : Fld) : (s.setBit g).acc = s.acc := rfl
@[simp] theorem State.setBit_nv (g : Fld) : (s.setBit g).nv = s.nv := rfl
@[simp] theorem State.setBit_sec (g : Fld) : (s.setBit g).sec = s.sec := rfl
@[simp] theorem State.setBit_faults (g : Fld) : (s.setBit g).faults = s.faults := rfl
@[simp] theorem State.setBit_sil (g : Fld) : (s.setBit g).sil = s.sil := rfl
@[simp] theorem State.setBit_thermal (g : Fld) : (s.setBit g).thermal = s.thermal := rfl
@[simp] theorem State.setBit_nvme (g : Fld) : (s.setBit g).nvme = s.nvme := rfl
@[simp] theorem State.setBit_rings (g : Fld) : (s.setBit g).rings = s.rings := rfl
@[simp] theorem State.setBit_map (g : Fld) : (s.setBit g).map = s.map := rfl
@[simp] theorem State.setBit_helpers (g : Fld) : (s.setBit g).helpers = s.helpers := rfl
@[simp] theorem State.setBit_steward (g : Fld) : (s.setBit g).steward = s.steward := rfl
@[simp] theorem State.setBit_fabric (g : Fld) : (s.setBit g).fabric = s.fabric := rfl
@[simp] theorem State.setBit_mem (g : Fld) : (s.setBit g).mem = s.mem := rfl
@[simp] theorem State.setBit_cache (g : Fld) : (s.setBit g).cache = s.cache := rfl
@[simp] theorem State.setBit_movers (g : Fld) : (s.setBit g).movers = s.movers := rfl
@[simp] theorem State.setBit_spindle (g : Fld) : (s.setBit g).spindle = s.spindle := rfl
@[simp] theorem State.setBit_servo (g : Fld) : (s.setBit g).servo = s.servo := rfl
@[simp] theorem State.setBit_assist (g : Fld) : (s.setBit g).assist = s.assist := rfl
@[simp] theorem State.setBit_lanes (g : Fld) : (s.setBit g).lanes = s.lanes := rfl
@[simp] theorem State.setBit_decode (g : Fld) : (s.setBit g).decode = s.decode := rfl
@[simp] theorem State.setBit_cal (g : Fld) : (s.setBit g).cal = s.cal := rfl
@[simp] theorem State.setBit_tier (g : Fld) : (s.setBit g).tier = s.tier := rfl
@[simp] theorem State.setBit_pool (g : Fld) : (s.setBit g).pool = s.pool := rfl
@[simp] theorem State.setBit_eb (g : Fld) : (s.setBit g).eb = s.eb := rfl
@[simp] theorem State.setBit_freeIdx (g : Fld) : (s.setBit g).freeIdx = s.freeIdx := rfl
@[simp] theorem State.setBit_readOut (g : Fld) : (s.setBit g).readOut = s.readOut := rfl

/-! #### clrBit -/
@[simp] theorem State.clrBit_pending (g : Fld) : (s.clrBit g).pending = s.pending := rfl
@[simp] theorem State.clrBit_tick (g : Fld) : (s.clrBit g).tick = s.tick := rfl
@[simp] theorem State.clrBit_tickMem (g : Fld) : (s.clrBit g).tickMem = s.tickMem := rfl
@[simp] theorem State.clrBit_recorded (g : Fld) : (s.clrBit g).recorded = s.recorded := rfl
@[simp] theorem State.clrBit_pins (g : Fld) : (s.clrBit g).pins = s.pins := rfl
@[simp] theorem State.clrBit_power (g : Fld) : (s.clrBit g).power = s.power := rfl
@[simp] theorem State.clrBit_doms (g : Fld) : (s.clrBit g).doms = s.doms := rfl
@[simp] theorem State.clrBit_acc (g : Fld) : (s.clrBit g).acc = s.acc := rfl
@[simp] theorem State.clrBit_nv (g : Fld) : (s.clrBit g).nv = s.nv := rfl
@[simp] theorem State.clrBit_sec (g : Fld) : (s.clrBit g).sec = s.sec := rfl
@[simp] theorem State.clrBit_faults (g : Fld) : (s.clrBit g).faults = s.faults := rfl
@[simp] theorem State.clrBit_sil (g : Fld) : (s.clrBit g).sil = s.sil := rfl
@[simp] theorem State.clrBit_thermal (g : Fld) : (s.clrBit g).thermal = s.thermal := rfl
@[simp] theorem State.clrBit_nvme (g : Fld) : (s.clrBit g).nvme = s.nvme := rfl
@[simp] theorem State.clrBit_rings (g : Fld) : (s.clrBit g).rings = s.rings := rfl
@[simp] theorem State.clrBit_map (g : Fld) : (s.clrBit g).map = s.map := rfl
@[simp] theorem State.clrBit_helpers (g : Fld) : (s.clrBit g).helpers = s.helpers := rfl
@[simp] theorem State.clrBit_steward (g : Fld) : (s.clrBit g).steward = s.steward := rfl
@[simp] theorem State.clrBit_fabric (g : Fld) : (s.clrBit g).fabric = s.fabric := rfl
@[simp] theorem State.clrBit_mem (g : Fld) : (s.clrBit g).mem = s.mem := rfl
@[simp] theorem State.clrBit_cache (g : Fld) : (s.clrBit g).cache = s.cache := rfl
@[simp] theorem State.clrBit_movers (g : Fld) : (s.clrBit g).movers = s.movers := rfl
@[simp] theorem State.clrBit_spindle (g : Fld) : (s.clrBit g).spindle = s.spindle := rfl
@[simp] theorem State.clrBit_servo (g : Fld) : (s.clrBit g).servo = s.servo := rfl
@[simp] theorem State.clrBit_assist (g : Fld) : (s.clrBit g).assist = s.assist := rfl
@[simp] theorem State.clrBit_lanes (g : Fld) : (s.clrBit g).lanes = s.lanes := rfl
@[simp] theorem State.clrBit_decode (g : Fld) : (s.clrBit g).decode = s.decode := rfl
@[simp] theorem State.clrBit_cal (g : Fld) : (s.clrBit g).cal = s.cal := rfl
@[simp] theorem State.clrBit_tier (g : Fld) : (s.clrBit g).tier = s.tier := rfl
@[simp] theorem State.clrBit_pool (g : Fld) : (s.clrBit g).pool = s.pool := rfl
@[simp] theorem State.clrBit_eb (g : Fld) : (s.clrBit g).eb = s.eb := rfl
@[simp] theorem State.clrBit_freeIdx (g : Fld) : (s.clrBit g).freeIdx = s.freeIdx := rfl
@[simp] theorem State.clrBit_readOut (g : Fld) : (s.clrBit g).readOut = s.readOut := rfl

/-! #### addSat -/
@[simp] theorem State.addSat_pending (g : Fld) (n : Nat) : (s.addSat g n).pending = s.pending := rfl
@[simp] theorem State.addSat_tick (g : Fld) (n : Nat) : (s.addSat g n).tick = s.tick := rfl
@[simp] theorem State.addSat_recorded (g : Fld) (n : Nat) : (s.addSat g n).recorded = s.recorded := rfl
@[simp] theorem State.addSat_pins (g : Fld) (n : Nat) : (s.addSat g n).pins = s.pins := rfl
@[simp] theorem State.addSat_power (g : Fld) (n : Nat) : (s.addSat g n).power = s.power := rfl
@[simp] theorem State.addSat_doms (g : Fld) (n : Nat) : (s.addSat g n).doms = s.doms := rfl
@[simp] theorem State.addSat_acc (g : Fld) (n : Nat) : (s.addSat g n).acc = s.acc := rfl
@[simp] theorem State.addSat_nv (g : Fld) (n : Nat) : (s.addSat g n).nv = s.nv := rfl
@[simp] theorem State.addSat_sec (g : Fld) (n : Nat) : (s.addSat g n).sec = s.sec := rfl
@[simp] theorem State.addSat_faults (g : Fld) (n : Nat) : (s.addSat g n).faults = s.faults := rfl
@[simp] theorem State.addSat_sil (g : Fld) (n : Nat) : (s.addSat g n).sil = s.sil := rfl
@[simp] theorem State.addSat_thermal (g : Fld) (n : Nat) : (s.addSat g n).thermal = s.thermal := rfl
@[simp] theorem State.addSat_nvme (g : Fld) (n : Nat) : (s.addSat g n).nvme = s.nvme := rfl
@[simp] theorem State.addSat_rings (g : Fld) (n : Nat) : (s.addSat g n).rings = s.rings := rfl
@[simp] theorem State.addSat_map (g : Fld) (n : Nat) : (s.addSat g n).map = s.map := rfl
@[simp] theorem State.addSat_helpers (g : Fld) (n : Nat) : (s.addSat g n).helpers = s.helpers := rfl
@[simp] theorem State.addSat_steward (g : Fld) (n : Nat) : (s.addSat g n).steward = s.steward := rfl
@[simp] theorem State.addSat_fabric (g : Fld) (n : Nat) : (s.addSat g n).fabric = s.fabric := rfl
@[simp] theorem State.addSat_mem (g : Fld) (n : Nat) : (s.addSat g n).mem = s.mem := rfl
@[simp] theorem State.addSat_cache (g : Fld) (n : Nat) : (s.addSat g n).cache = s.cache := rfl
@[simp] theorem State.addSat_movers (g : Fld) (n : Nat) : (s.addSat g n).movers = s.movers := rfl
@[simp] theorem State.addSat_spindle (g : Fld) (n : Nat) : (s.addSat g n).spindle = s.spindle := rfl
@[simp] theorem State.addSat_servo (g : Fld) (n : Nat) : (s.addSat g n).servo = s.servo := rfl
@[simp] theorem State.addSat_assist (g : Fld) (n : Nat) : (s.addSat g n).assist = s.assist := rfl
@[simp] theorem State.addSat_lanes (g : Fld) (n : Nat) : (s.addSat g n).lanes = s.lanes := rfl
@[simp] theorem State.addSat_decode (g : Fld) (n : Nat) : (s.addSat g n).decode = s.decode := rfl
@[simp] theorem State.addSat_cal (g : Fld) (n : Nat) : (s.addSat g n).cal = s.cal := rfl
@[simp] theorem State.addSat_tier (g : Fld) (n : Nat) : (s.addSat g n).tier = s.tier := rfl
@[simp] theorem State.addSat_pool (g : Fld) (n : Nat) : (s.addSat g n).pool = s.pool := rfl
@[simp] theorem State.addSat_eb (g : Fld) (n : Nat) : (s.addSat g n).eb = s.eb := rfl
@[simp] theorem State.addSat_freeIdx (g : Fld) (n : Nat) : (s.addSat g n).freeIdx = s.freeIdx := rfl
@[simp] theorem State.addSat_readOut (g : Fld) (n : Nat) : (s.addSat g n).readOut = s.readOut := rfl

/-! #### bump -/
@[simp] theorem State.bump_pending (g : Fld) : (s.bump g).pending = s.pending := rfl
@[simp] theorem State.bump_tick (g : Fld) : (s.bump g).tick = s.tick := rfl
@[simp] theorem State.bump_recorded (g : Fld) : (s.bump g).recorded = s.recorded := rfl
@[simp] theorem State.bump_pins (g : Fld) : (s.bump g).pins = s.pins := rfl
@[simp] theorem State.bump_power (g : Fld) : (s.bump g).power = s.power := rfl
@[simp] theorem State.bump_doms (g : Fld) : (s.bump g).doms = s.doms := rfl
@[simp] theorem State.bump_acc (g : Fld) : (s.bump g).acc = s.acc := rfl
@[simp] theorem State.bump_nv (g : Fld) : (s.bump g).nv = s.nv := rfl
@[simp] theorem State.bump_sec (g : Fld) : (s.bump g).sec = s.sec := rfl
@[simp] theorem State.bump_faults (g : Fld) : (s.bump g).faults = s.faults := rfl
@[simp] theorem State.bump_sil (g : Fld) : (s.bump g).sil = s.sil := rfl
@[simp] theorem State.bump_thermal (g : Fld) : (s.bump g).thermal = s.thermal := rfl
@[simp] theorem State.bump_nvme (g : Fld) : (s.bump g).nvme = s.nvme := rfl
@[simp] theorem State.bump_rings (g : Fld) : (s.bump g).rings = s.rings := rfl
@[simp] theorem State.bump_map (g : Fld) : (s.bump g).map = s.map := rfl
@[simp] theorem State.bump_helpers (g : Fld) : (s.bump g).helpers = s.helpers := rfl
@[simp] theorem State.bump_steward (g : Fld) : (s.bump g).steward = s.steward := rfl
@[simp] theorem State.bump_fabric (g : Fld) : (s.bump g).fabric = s.fabric := rfl
@[simp] theorem State.bump_mem (g : Fld) : (s.bump g).mem = s.mem := rfl
@[simp] theorem State.bump_cache (g : Fld) : (s.bump g).cache = s.cache := rfl
@[simp] theorem State.bump_movers (g : Fld) : (s.bump g).movers = s.movers := rfl
@[simp] theorem State.bump_spindle (g : Fld) : (s.bump g).spindle = s.spindle := rfl
@[simp] theorem State.bump_servo (g : Fld) : (s.bump g).servo = s.servo := rfl
@[simp] theorem State.bump_assist (g : Fld) : (s.bump g).assist = s.assist := rfl
@[simp] theorem State.bump_lanes (g : Fld) : (s.bump g).lanes = s.lanes := rfl
@[simp] theorem State.bump_decode (g : Fld) : (s.bump g).decode = s.decode := rfl
@[simp] theorem State.bump_cal (g : Fld) : (s.bump g).cal = s.cal := rfl
@[simp] theorem State.bump_tier (g : Fld) : (s.bump g).tier = s.tier := rfl
@[simp] theorem State.bump_pool (g : Fld) : (s.bump g).pool = s.pool := rfl
@[simp] theorem State.bump_eb (g : Fld) : (s.bump g).eb = s.eb := rfl
@[simp] theorem State.bump_freeIdx (g : Fld) : (s.bump g).freeIdx = s.freeIdx := rfl
@[simp] theorem State.bump_readOut (g : Fld) : (s.bump g).readOut = s.readOut := rfl

/-! #### keepBest -/
@[simp] theorem State.keepBest_pending (g : Fld) (best : Nat → Nat → Nat) (v : Nat) : (s.keepBest g best v).pending = s.pending := rfl
@[simp] theorem State.keepBest_tick (g : Fld) (best : Nat → Nat → Nat) (v : Nat) : (s.keepBest g best v).tick = s.tick := rfl
@[simp] theorem State.keepBest_recorded (g : Fld) (best : Nat → Nat → Nat) (v : Nat) : (s.keepBest g best v).recorded = s.recorded := rfl
@[simp] theorem State.keepBest_pins (g : Fld) (best : Nat → Nat → Nat) (v : Nat) : (s.keepBest g best v).pins = s.pins := rfl
@[simp] theorem State.keepBest_power (g : Fld) (best : Nat → Nat → Nat) (v : Nat) : (s.keepBest g best v).power = s.power := rfl
@[simp] theorem State.keepBest_doms (g : Fld) (best : Nat → Nat → Nat) (v : Nat) : (s.keepBest g best v).doms = s.doms := rfl
@[simp] theorem State.keepBest_acc (g : Fld) (best : Nat → Nat → Nat) (v : Nat) : (s.keepBest g best v).acc = s.acc := rfl
@[simp] theorem State.keepBest_nv (g : Fld) (best : Nat → Nat → Nat) (v : Nat) : (s.keepBest g best v).nv = s.nv := rfl
@[simp] theorem State.keepBest_sec (g : Fld) (best : Nat → Nat → Nat) (v : Nat) : (s.keepBest g best v).sec = s.sec := rfl
@[simp] theorem State.keepBest_faults (g : Fld) (best : Nat → Nat → Nat) (v : Nat) : (s.keepBest g best v).faults = s.faults := rfl
@[simp] theorem State.keepBest_sil (g : Fld) (best : Nat → Nat → Nat) (v : Nat) : (s.keepBest g best v).sil = s.sil := rfl
@[simp] theorem State.keepBest_thermal (g : Fld) (best : Nat → Nat → Nat) (v : Nat) : (s.keepBest g best v).thermal = s.thermal := rfl
@[simp] theorem State.keepBest_nvme (g : Fld) (best : Nat → Nat → Nat) (v : Nat) : (s.keepBest g best v).nvme = s.nvme := rfl
@[simp] theorem State.keepBest_rings (g : Fld) (best : Nat → Nat → Nat) (v : Nat) : (s.keepBest g best v).rings = s.rings := rfl
@[simp] theorem State.keepBest_map (g : Fld) (best : Nat → Nat → Nat) (v : Nat) : (s.keepBest g best v).map = s.map := rfl
@[simp] theorem State.keepBest_helpers (g : Fld) (best : Nat → Nat → Nat) (v : Nat) : (s.keepBest g best v).helpers = s.helpers := rfl
@[simp] theorem State.keepBest_steward (g : Fld) (best : Nat → Nat → Nat) (v : Nat) : (s.keepBest g best v).steward = s.steward := rfl
@[simp] theorem State.keepBest_fabric (g : Fld) (best : Nat → Nat → Nat) (v : Nat) : (s.keepBest g best v).fabric = s.fabric := rfl
@[simp] theorem State.keepBest_mem (g : Fld) (best : Nat → Nat → Nat) (v : Nat) : (s.keepBest g best v).mem = s.mem := rfl
@[simp] theorem State.keepBest_cache (g : Fld) (best : Nat → Nat → Nat) (v : Nat) : (s.keepBest g best v).cache = s.cache := rfl
@[simp] theorem State.keepBest_movers (g : Fld) (best : Nat → Nat → Nat) (v : Nat) : (s.keepBest g best v).movers = s.movers := rfl
@[simp] theorem State.keepBest_spindle (g : Fld) (best : Nat → Nat → Nat) (v : Nat) : (s.keepBest g best v).spindle = s.spindle := rfl
@[simp] theorem State.keepBest_servo (g : Fld) (best : Nat → Nat → Nat) (v : Nat) : (s.keepBest g best v).servo = s.servo := rfl
@[simp] theorem State.keepBest_assist (g : Fld) (best : Nat → Nat → Nat) (v : Nat) : (s.keepBest g best v).assist = s.assist := rfl
@[simp] theorem State.keepBest_lanes (g : Fld) (best : Nat → Nat → Nat) (v : Nat) : (s.keepBest g best v).lanes = s.lanes := rfl
@[simp] theorem State.keepBest_decode (g : Fld) (best : Nat → Nat → Nat) (v : Nat) : (s.keepBest g best v).decode = s.decode := rfl
@[simp] theorem State.keepBest_cal (g : Fld) (best : Nat → Nat → Nat) (v : Nat) : (s.keepBest g best v).cal = s.cal := rfl
@[simp] theorem State.keepBest_tier (g : Fld) (best : Nat → Nat → Nat) (v : Nat) : (s.keepBest g best v).tier = s.tier := rfl
@[simp] theorem State.keepBest_pool (g : Fld) (best : Nat → Nat → Nat) (v : Nat) : (s.keepBest g best v).pool = s.pool := rfl
@[simp] theorem State.keepBest_eb (g : Fld) (best : Nat → Nat → Nat) (v : Nat) : (s.keepBest g best v).eb = s.eb := rfl
@[simp] theorem State.keepBest_freeIdx (g : Fld) (best : Nat → Nat → Nat) (v : Nat) : (s.keepBest g best v).freeIdx = s.freeIdx := rfl
@[simp] theorem State.keepBest_readOut (g : Fld) (best : Nat → Nat → Nat) (v : Nat) : (s.keepBest g best v).readOut = s.readOut := rfl

/-! #### setFldBit -/
@[simp] theorem State.setFldBit_pending (g : Fld) (n : Nat) (b : Bool) : (s.setFldBit g n b).pending = s.pending := by unfold State.setFldBit; (repeat' split) <;> rfl
@[simp] theorem State.setFldBit_tick (g : Fld) (n : Nat) (b : Bool) : (s.setFldBit g n b).tick = s.tick := by unfold State.setFldBit; (repeat' split) <;> rfl
@[simp] theorem State.setFldBit_recorded (g : Fld) (n : Nat) (b : Bool) : (s.setFldBit g n b).recorded = s.recorded := by unfold State.setFldBit; (repeat' split) <;> rfl
@[simp] theorem State.setFldBit_pins (g : Fld) (n : Nat) (b : Bool) : (s.setFldBit g n b).pins = s.pins := by unfold State.setFldBit; (repeat' split) <;> rfl
@[simp] theorem State.setFldBit_power (g : Fld) (n : Nat) (b : Bool) : (s.setFldBit g n b).power = s.power := by unfold State.setFldBit; (repeat' split) <;> rfl
@[simp] theorem State.setFldBit_doms (g : Fld) (n : Nat) (b : Bool) : (s.setFldBit g n b).doms = s.doms := by unfold State.setFldBit; (repeat' split) <;> rfl
@[simp] theorem State.setFldBit_acc (g : Fld) (n : Nat) (b : Bool) : (s.setFldBit g n b).acc = s.acc := by unfold State.setFldBit; (repeat' split) <;> rfl
@[simp] theorem State.setFldBit_nv (g : Fld) (n : Nat) (b : Bool) : (s.setFldBit g n b).nv = s.nv := by unfold State.setFldBit; (repeat' split) <;> rfl
@[simp] theorem State.setFldBit_sec (g : Fld) (n : Nat) (b : Bool) : (s.setFldBit g n b).sec = s.sec := by unfold State.setFldBit; (repeat' split) <;> rfl
@[simp] theorem State.setFldBit_faults (g : Fld) (n : Nat) (b : Bool) : (s.setFldBit g n b).faults = s.faults := by unfold State.setFldBit; (repeat' split) <;> rfl
@[simp] theorem State.setFldBit_sil (g : Fld) (n : Nat) (b : Bool) : (s.setFldBit g n b).sil = s.sil := by unfold State.setFldBit; (repeat' split) <;> rfl
@[simp] theorem State.setFldBit_thermal (g : Fld) (n : Nat) (b : Bool) : (s.setFldBit g n b).thermal = s.thermal := by unfold State.setFldBit; (repeat' split) <;> rfl
@[simp] theorem State.setFldBit_nvme (g : Fld) (n : Nat) (b : Bool) : (s.setFldBit g n b).nvme = s.nvme := by unfold State.setFldBit; (repeat' split) <;> rfl
@[simp] theorem State.setFldBit_rings (g : Fld) (n : Nat) (b : Bool) : (s.setFldBit g n b).rings = s.rings := by unfold State.setFldBit; (repeat' split) <;> rfl
@[simp] theorem State.setFldBit_map (g : Fld) (n : Nat) (b : Bool) : (s.setFldBit g n b).map = s.map := by unfold State.setFldBit; (repeat' split) <;> rfl
@[simp] theorem State.setFldBit_helpers (g : Fld) (n : Nat) (b : Bool) : (s.setFldBit g n b).helpers = s.helpers := by unfold State.setFldBit; (repeat' split) <;> rfl
@[simp] theorem State.setFldBit_steward (g : Fld) (n : Nat) (b : Bool) : (s.setFldBit g n b).steward = s.steward := by unfold State.setFldBit; (repeat' split) <;> rfl
@[simp] theorem State.setFldBit_fabric (g : Fld) (n : Nat) (b : Bool) : (s.setFldBit g n b).fabric = s.fabric := by unfold State.setFldBit; (repeat' split) <;> rfl
@[simp] theorem State.setFldBit_mem (g : Fld) (n : Nat) (b : Bool) : (s.setFldBit g n b).mem = s.mem := by unfold State.setFldBit; (repeat' split) <;> rfl
@[simp] theorem State.setFldBit_cache (g : Fld) (n : Nat) (b : Bool) : (s.setFldBit g n b).cache = s.cache := by unfold State.setFldBit; (repeat' split) <;> rfl
@[simp] theorem State.setFldBit_movers (g : Fld) (n : Nat) (b : Bool) : (s.setFldBit g n b).movers = s.movers := by unfold State.setFldBit; (repeat' split) <;> rfl
@[simp] theorem State.setFldBit_spindle (g : Fld) (n : Nat) (b : Bool) : (s.setFldBit g n b).spindle = s.spindle := by unfold State.setFldBit; (repeat' split) <;> rfl
@[simp] theorem State.setFldBit_servo (g : Fld) (n : Nat) (b : Bool) : (s.setFldBit g n b).servo = s.servo := by unfold State.setFldBit; (repeat' split) <;> rfl
@[simp] theorem State.setFldBit_assist (g : Fld) (n : Nat) (b : Bool) : (s.setFldBit g n b).assist = s.assist := by unfold State.setFldBit; (repeat' split) <;> rfl
@[simp] theorem State.setFldBit_lanes (g : Fld) (n : Nat) (b : Bool) : (s.setFldBit g n b).lanes = s.lanes := by unfold State.setFldBit; (repeat' split) <;> rfl
@[simp] theorem State.setFldBit_decode (g : Fld) (n : Nat) (b : Bool) : (s.setFldBit g n b).decode = s.decode := by unfold State.setFldBit; (repeat' split) <;> rfl
@[simp] theorem State.setFldBit_cal (g : Fld) (n : Nat) (b : Bool) : (s.setFldBit g n b).cal = s.cal := by unfold State.setFldBit; (repeat' split) <;> rfl
@[simp] theorem State.setFldBit_tier (g : Fld) (n : Nat) (b : Bool) : (s.setFldBit g n b).tier = s.tier := by unfold State.setFldBit; (repeat' split) <;> rfl
@[simp] theorem State.setFldBit_pool (g : Fld) (n : Nat) (b : Bool) : (s.setFldBit g n b).pool = s.pool := by unfold State.setFldBit; (repeat' split) <;> rfl
@[simp] theorem State.setFldBit_eb (g : Fld) (n : Nat) (b : Bool) : (s.setFldBit g n b).eb = s.eb := by unfold State.setFldBit; (repeat' split) <;> rfl
@[simp] theorem State.setFldBit_freeIdx (g : Fld) (n : Nat) (b : Bool) : (s.setFldBit g n b).freeIdx = s.freeIdx := by unfold State.setFldBit; (repeat' split) <;> rfl
@[simp] theorem State.setFldBit_readOut (g : Fld) (n : Nat) (b : Bool) : (s.setFldBit g n b).readOut = s.readOut := by unfold State.setFldBit; (repeat' split) <;> rfl

/-! #### drawFree -/
@[simp] theorem State.drawFree_pending : (s.drawFree).pending = s.pending := rfl
@[simp] theorem State.drawFree_tick : (s.drawFree).tick = s.tick := rfl
@[simp] theorem State.drawFree_regs : (s.drawFree).regs = s.regs := rfl
@[simp] theorem State.drawFree_tickMem : (s.drawFree).tickMem = s.tickMem := rfl
@[simp] theorem State.drawFree_recorded : (s.drawFree).recorded = s.recorded := rfl
@[simp] theorem State.drawFree_pins : (s.drawFree).pins = s.pins := rfl
@[simp] theorem State.drawFree_power : (s.drawFree).power = s.power := rfl
@[simp] theorem State.drawFree_doms : (s.drawFree).doms = s.doms := rfl
@[simp] theorem State.drawFree_acc : (s.drawFree).acc = s.acc := rfl
@[simp] theorem State.drawFree_nv : (s.drawFree).nv = s.nv := rfl
@[simp] theorem State.drawFree_sec : (s.drawFree).sec = s.sec := rfl
@[simp] theorem State.drawFree_faults : (s.drawFree).faults = s.faults := rfl
@[simp] theorem State.drawFree_sil : (s.drawFree).sil = s.sil := rfl
@[simp] theorem State.drawFree_thermal : (s.drawFree).thermal = s.thermal := rfl
@[simp] theorem State.drawFree_nvme : (s.drawFree).nvme = s.nvme := rfl
@[simp] theorem State.drawFree_rings : (s.drawFree).rings = s.rings := rfl
@[simp] theorem State.drawFree_map : (s.drawFree).map = s.map := rfl
@[simp] theorem State.drawFree_helpers : (s.drawFree).helpers = s.helpers := rfl
@[simp] theorem State.drawFree_steward : (s.drawFree).steward = s.steward := rfl
@[simp] theorem State.drawFree_fabric : (s.drawFree).fabric = s.fabric := rfl
@[simp] theorem State.drawFree_mem : (s.drawFree).mem = s.mem := rfl
@[simp] theorem State.drawFree_cache : (s.drawFree).cache = s.cache := rfl
@[simp] theorem State.drawFree_movers : (s.drawFree).movers = s.movers := rfl
@[simp] theorem State.drawFree_spindle : (s.drawFree).spindle = s.spindle := rfl
@[simp] theorem State.drawFree_servo : (s.drawFree).servo = s.servo := rfl
@[simp] theorem State.drawFree_assist : (s.drawFree).assist = s.assist := rfl
@[simp] theorem State.drawFree_lanes : (s.drawFree).lanes = s.lanes := rfl
@[simp] theorem State.drawFree_decode : (s.drawFree).decode = s.decode := rfl
@[simp] theorem State.drawFree_cal : (s.drawFree).cal = s.cal := rfl
@[simp] theorem State.drawFree_tier : (s.drawFree).tier = s.tier := rfl
@[simp] theorem State.drawFree_pool : (s.drawFree).pool = s.pool := rfl
@[simp] theorem State.drawFree_eb : (s.drawFree).eb = s.eb := rfl
@[simp] theorem State.drawFree_freeIdx : (s.drawFree).freeIdx = s.freeIdx + 1 := rfl
@[simp] theorem State.drawFree_readOut : (s.drawFree).readOut = s.readOut := rfl
@[simp] theorem State.drawFree_reg (x : Nat) : (s.drawFree).reg x = s.reg x := rfl
@[simp] theorem State.drawFree_fld (x : Fld) : (s.drawFree).fld x = s.fld x := rfl
@[simp] theorem State.drawFree_bit (x : Fld) : (s.drawFree).bit x = s.bit x := rfl

/-! #### modHelper -/
@[simp] theorem State.modHelper_pending (h : Nat) (f : Helper → Helper) : (s.modHelper h f).pending = s.pending := rfl
@[simp] theorem State.modHelper_tick (h : Nat) (f : Helper → Helper) : (s.modHelper h f).tick = s.tick := rfl
@[simp] theorem State.modHelper_regs (h : Nat) (f : Helper → Helper) : (s.modHelper h f).regs = s.regs := rfl
@[simp] theorem State.modHelper_tickMem (h : Nat) (f : Helper → Helper) : (s.modHelper h f).tickMem = s.tickMem := rfl
@[simp] theorem State.modHelper_recorded (h : Nat) (f : Helper → Helper) : (s.modHelper h f).recorded = s.recorded := rfl
@[simp] theorem State.modHelper_pins (h : Nat) (f : Helper → Helper) : (s.modHelper h f).pins = s.pins := rfl
@[simp] theorem State.modHelper_power (h : Nat) (f : Helper → Helper) : (s.modHelper h f).power = s.power := rfl
@[simp] theorem State.modHelper_doms (h : Nat) (f : Helper → Helper) : (s.modHelper h f).doms = s.doms := rfl
@[simp] theorem State.modHelper_acc (h : Nat) (f : Helper → Helper) : (s.modHelper h f).acc = s.acc := rfl
@[simp] theorem State.modHelper_nv (h : Nat) (f : Helper → Helper) : (s.modHelper h f).nv = s.nv := rfl
@[simp] theorem State.modHelper_sec (h : Nat) (f : Helper → Helper) : (s.modHelper h f).sec = s.sec := rfl
@[simp] theorem State.modHelper_faults (h : Nat) (f : Helper → Helper) : (s.modHelper h f).faults = s.faults := rfl
@[simp] theorem State.modHelper_sil (h : Nat) (f : Helper → Helper) : (s.modHelper h f).sil = s.sil := rfl
@[simp] theorem State.modHelper_thermal (h : Nat) (f : Helper → Helper) : (s.modHelper h f).thermal = s.thermal := rfl
@[simp] theorem State.modHelper_nvme (h : Nat) (f : Helper → Helper) : (s.modHelper h f).nvme = s.nvme := rfl
@[simp] theorem State.modHelper_rings (h : Nat) (f : Helper → Helper) : (s.modHelper h f).rings = s.rings := rfl
@[simp] theorem State.modHelper_map (h : Nat) (f : Helper → Helper) : (s.modHelper h f).map = s.map := rfl
@[simp] theorem State.modHelper_helpers (h : Nat) (f : Helper → Helper) : (s.modHelper h f).helpers = SMap.modify (fun _ => Helper.reset) s.helpers h f := rfl
@[simp] theorem State.modHelper_steward (h : Nat) (f : Helper → Helper) : (s.modHelper h f).steward = s.steward := rfl
@[simp] theorem State.modHelper_fabric (h : Nat) (f : Helper → Helper) : (s.modHelper h f).fabric = s.fabric := rfl
@[simp] theorem State.modHelper_mem (h : Nat) (f : Helper → Helper) : (s.modHelper h f).mem = s.mem := rfl
@[simp] theorem State.modHelper_cache (h : Nat) (f : Helper → Helper) : (s.modHelper h f).cache = s.cache := rfl
@[simp] theorem State.modHelper_movers (h : Nat) (f : Helper → Helper) : (s.modHelper h f).movers = s.movers := rfl
@[simp] theorem State.modHelper_spindle (h : Nat) (f : Helper → Helper) : (s.modHelper h f).spindle = s.spindle := rfl
@[simp] theorem State.modHelper_servo (h : Nat) (f : Helper → Helper) : (s.modHelper h f).servo = s.servo := rfl
@[simp] theorem State.modHelper_assist (h : Nat) (f : Helper → Helper) : (s.modHelper h f).assist = s.assist := rfl
@[simp] theorem State.modHelper_lanes (h : Nat) (f : Helper → Helper) : (s.modHelper h f).lanes = s.lanes := rfl
@[simp] theorem State.modHelper_decode (h : Nat) (f : Helper → Helper) : (s.modHelper h f).decode = s.decode := rfl
@[simp] theorem State.modHelper_cal (h : Nat) (f : Helper → Helper) : (s.modHelper h f).cal = s.cal := rfl
@[simp] theorem State.modHelper_tier (h : Nat) (f : Helper → Helper) : (s.modHelper h f).tier = s.tier := rfl
@[simp] theorem State.modHelper_pool (h : Nat) (f : Helper → Helper) : (s.modHelper h f).pool = s.pool := rfl
@[simp] theorem State.modHelper_eb (h : Nat) (f : Helper → Helper) : (s.modHelper h f).eb = s.eb := rfl
@[simp] theorem State.modHelper_freeIdx (h : Nat) (f : Helper → Helper) : (s.modHelper h f).freeIdx = s.freeIdx := rfl
@[simp] theorem State.modHelper_readOut (h : Nat) (f : Helper → Helper) : (s.modHelper h f).readOut = s.readOut := rfl
@[simp] theorem State.modHelper_reg (h : Nat) (f : Helper → Helper) (x : Nat) : (s.modHelper h f).reg x = s.reg x := rfl
@[simp] theorem State.modHelper_fld (h : Nat) (f : Helper → Helper) (x : Fld) : (s.modHelper h f).fld x = s.fld x := rfl
@[simp] theorem State.modHelper_bit (h : Nat) (f : Helper → Helper) (x : Fld) : (s.modHelper h f).bit x = s.bit x := rfl

/-! #### modDom -/
@[simp] theorem State.modDom_pending (d : Dom) (f : DomSt → DomSt) : (s.modDom d f).pending = s.pending := by cases d <;> rfl
@[simp] theorem State.modDom_tick (d : Dom) (f : DomSt → DomSt) : (s.modDom d f).tick = s.tick := by cases d <;> rfl
@[simp] theorem State.modDom_regs (d : Dom) (f : DomSt → DomSt) : (s.modDom d f).regs = s.regs := by cases d <;> rfl
@[simp] theorem State.modDom_tickMem (d : Dom) (f : DomSt → DomSt) : (s.modDom d f).tickMem = s.tickMem := by cases d <;> rfl
@[simp] theorem State.modDom_recorded (d : Dom) (f : DomSt → DomSt) : (s.modDom d f).recorded = s.recorded := by cases d <;> rfl
@[simp] theorem State.modDom_pins (d : Dom) (f : DomSt → DomSt) : (s.modDom d f).pins = s.pins := by cases d <;> rfl
@[simp] theorem State.modDom_power (d : Dom) (f : DomSt → DomSt) : (s.modDom d f).power = s.power := by cases d <;> rfl
@[simp] theorem State.modDom_acc (d : Dom) (f : DomSt → DomSt) : (s.modDom d f).acc = s.acc := by cases d <;> rfl
@[simp] theorem State.modDom_nv (d : Dom) (f : DomSt → DomSt) : (s.modDom d f).nv = s.nv := by cases d <;> rfl
@[simp] theorem State.modDom_sec (d : Dom) (f : DomSt → DomSt) : (s.modDom d f).sec = s.sec := by cases d <;> rfl
@[simp] theorem State.modDom_faults (d : Dom) (f : DomSt → DomSt) : (s.modDom d f).faults = s.faults := by cases d <;> rfl
@[simp] theorem State.modDom_sil (d : Dom) (f : DomSt → DomSt) : (s.modDom d f).sil = s.sil := by cases d <;> rfl
@[simp] theorem State.modDom_thermal (d : Dom) (f : DomSt → DomSt) : (s.modDom d f).thermal = s.thermal := by cases d <;> rfl
@[simp] theorem State.modDom_nvme (d : Dom) (f : DomSt → DomSt) : (s.modDom d f).nvme = s.nvme := by cases d <;> rfl
@[simp] theorem State.modDom_rings (d : Dom) (f : DomSt → DomSt) : (s.modDom d f).rings = s.rings := by cases d <;> rfl
@[simp] theorem State.modDom_map (d : Dom) (f : DomSt → DomSt) : (s.modDom d f).map = s.map := by cases d <;> rfl
@[simp] theorem State.modDom_helpers (d : Dom) (f : DomSt → DomSt) : (s.modDom d f).helpers = s.helpers := by cases d <;> rfl
@[simp] theorem State.modDom_steward (d : Dom) (f : DomSt → DomSt) : (s.modDom d f).steward = s.steward := by cases d <;> rfl
@[simp] theorem State.modDom_fabric (d : Dom) (f : DomSt → DomSt) : (s.modDom d f).fabric = s.fabric := by cases d <;> rfl
@[simp] theorem State.modDom_mem (d : Dom) (f : DomSt → DomSt) : (s.modDom d f).mem = s.mem := by cases d <;> rfl
@[simp] theorem State.modDom_cache (d : Dom) (f : DomSt → DomSt) : (s.modDom d f).cache = s.cache := by cases d <;> rfl
@[simp] theorem State.modDom_movers (d : Dom) (f : DomSt → DomSt) : (s.modDom d f).movers = s.movers := by cases d <;> rfl
@[simp] theorem State.modDom_spindle (d : Dom) (f : DomSt → DomSt) : (s.modDom d f).spindle = s.spindle := by cases d <;> rfl
@[simp] theorem State.modDom_servo (d : Dom) (f : DomSt → DomSt) : (s.modDom d f).servo = s.servo := by cases d <;> rfl
@[simp] theorem State.modDom_assist (d : Dom) (f : DomSt → DomSt) : (s.modDom d f).assist = s.assist := by cases d <;> rfl
@[simp] theorem State.modDom_lanes (d : Dom) (f : DomSt → DomSt) : (s.modDom d f).lanes = s.lanes := by cases d <;> rfl
@[simp] theorem State.modDom_decode (d : Dom) (f : DomSt → DomSt) : (s.modDom d f).decode = s.decode := by cases d <;> rfl
@[simp] theorem State.modDom_cal (d : Dom) (f : DomSt → DomSt) : (s.modDom d f).cal = s.cal := by cases d <;> rfl
@[simp] theorem State.modDom_tier (d : Dom) (f : DomSt → DomSt) : (s.modDom d f).tier = s.tier := by cases d <;> rfl
@[simp] theorem State.modDom_pool (d : Dom) (f : DomSt → DomSt) : (s.modDom d f).pool = s.pool := by cases d <;> rfl
@[simp] theorem State.modDom_eb (d : Dom) (f : DomSt → DomSt) : (s.modDom d f).eb = s.eb := by cases d <;> rfl
@[simp] theorem State.modDom_freeIdx (d : Dom) (f : DomSt → DomSt) : (s.modDom d f).freeIdx = s.freeIdx := by cases d <;> rfl
@[simp] theorem State.modDom_readOut (d : Dom) (f : DomSt → DomSt) : (s.modDom d f).readOut = s.readOut := by cases d <;> rfl
@[simp] theorem State.modDom_reg (d : Dom) (f : DomSt → DomSt) (x : Nat) : (s.modDom d f).reg x = s.reg x := by cases d <;> rfl
@[simp] theorem State.modDom_fld (d : Dom) (f : DomSt → DomSt) (x : Fld) : (s.modDom d f).fld x = s.fld x := by cases d <;> rfl
@[simp] theorem State.modDom_bit (d : Dom) (f : DomSt → DomSt) (x : Fld) : (s.modDom d f).bit x = s.bit x := by cases d <;> rfl

/-! #### modSv -/
@[simp] theorem State.modSv_pending (a : Act) (f : ServoSt → ServoSt) : (s.modSv a f).pending = s.pending := rfl
@[simp] theorem State.modSv_tick (a : Act) (f : ServoSt → ServoSt) : (s.modSv a f).tick = s.tick := rfl
@[simp] theorem State.modSv_regs (a : Act) (f : ServoSt → ServoSt) : (s.modSv a f).regs = s.regs := rfl
@[simp] theorem State.modSv_tickMem (a : Act) (f : ServoSt → ServoSt) : (s.modSv a f).tickMem = s.tickMem := rfl
@[simp] theorem State.modSv_recorded (a : Act) (f : ServoSt → ServoSt) : (s.modSv a f).recorded = s.recorded := rfl
@[simp] theorem State.modSv_pins (a : Act) (f : ServoSt → ServoSt) : (s.modSv a f).pins = s.pins := rfl
@[simp] theorem State.modSv_power (a : Act) (f : ServoSt → ServoSt) : (s.modSv a f).power = s.power := rfl
@[simp] theorem State.modSv_doms (a : Act) (f : ServoSt → ServoSt) : (s.modSv a f).doms = s.doms := rfl
@[simp] theorem State.modSv_acc (a : Act) (f : ServoSt → ServoSt) : (s.modSv a f).acc = s.acc := rfl
@[simp] theorem State.modSv_nv (a : Act) (f : ServoSt → ServoSt) : (s.modSv a f).nv = s.nv := rfl
@[simp] theorem State.modSv_sec (a : Act) (f : ServoSt → ServoSt) : (s.modSv a f).sec = s.sec := rfl
@[simp] theorem State.modSv_faults (a : Act) (f : ServoSt → ServoSt) : (s.modSv a f).faults = s.faults := rfl
@[simp] theorem State.modSv_sil (a : Act) (f : ServoSt → ServoSt) : (s.modSv a f).sil = s.sil := rfl
@[simp] theorem State.modSv_thermal (a : Act) (f : ServoSt → ServoSt) : (s.modSv a f).thermal = s.thermal := rfl
@[simp] theorem State.modSv_nvme (a : Act) (f : ServoSt → ServoSt) : (s.modSv a f).nvme = s.nvme := rfl
@[simp] theorem State.modSv_rings (a : Act) (f : ServoSt → ServoSt) : (s.modSv a f).rings = s.rings := rfl
@[simp] theorem State.modSv_map (a : Act) (f : ServoSt → ServoSt) : (s.modSv a f).map = s.map := rfl
@[simp] theorem State.modSv_helpers (a : Act) (f : ServoSt → ServoSt) : (s.modSv a f).helpers = s.helpers := rfl
@[simp] theorem State.modSv_steward (a : Act) (f : ServoSt → ServoSt) : (s.modSv a f).steward = s.steward := rfl
@[simp] theorem State.modSv_fabric (a : Act) (f : ServoSt → ServoSt) : (s.modSv a f).fabric = s.fabric := rfl
@[simp] theorem State.modSv_mem (a : Act) (f : ServoSt → ServoSt) : (s.modSv a f).mem = s.mem := rfl
@[simp] theorem State.modSv_cache (a : Act) (f : ServoSt → ServoSt) : (s.modSv a f).cache = s.cache := rfl
@[simp] theorem State.modSv_movers (a : Act) (f : ServoSt → ServoSt) : (s.modSv a f).movers = s.movers := rfl
@[simp] theorem State.modSv_spindle (a : Act) (f : ServoSt → ServoSt) : (s.modSv a f).spindle = s.spindle := rfl
@[simp] theorem State.modSv_servo (a : Act) (f : ServoSt → ServoSt) : (s.modSv a f).servo = s.servo.put a (f (s.servo.at a)) := rfl
@[simp] theorem State.modSv_assist (a : Act) (f : ServoSt → ServoSt) : (s.modSv a f).assist = s.assist := rfl
@[simp] theorem State.modSv_lanes (a : Act) (f : ServoSt → ServoSt) : (s.modSv a f).lanes = s.lanes := rfl
@[simp] theorem State.modSv_decode (a : Act) (f : ServoSt → ServoSt) : (s.modSv a f).decode = s.decode := rfl
@[simp] theorem State.modSv_cal (a : Act) (f : ServoSt → ServoSt) : (s.modSv a f).cal = s.cal := rfl
@[simp] theorem State.modSv_tier (a : Act) (f : ServoSt → ServoSt) : (s.modSv a f).tier = s.tier := rfl
@[simp] theorem State.modSv_pool (a : Act) (f : ServoSt → ServoSt) : (s.modSv a f).pool = s.pool := rfl
@[simp] theorem State.modSv_eb (a : Act) (f : ServoSt → ServoSt) : (s.modSv a f).eb = s.eb := rfl
@[simp] theorem State.modSv_freeIdx (a : Act) (f : ServoSt → ServoSt) : (s.modSv a f).freeIdx = s.freeIdx := rfl
@[simp] theorem State.modSv_readOut (a : Act) (f : ServoSt → ServoSt) : (s.modSv a f).readOut = s.readOut := rfl
@[simp] theorem State.modSv_reg (a : Act) (f : ServoSt → ServoSt) (x : Nat) : (s.modSv a f).reg x = s.reg x := rfl
@[simp] theorem State.modSv_fld (a : Act) (f : ServoSt → ServoSt) (x : Fld) : (s.modSv a f).fld x = s.fld x := rfl
@[simp] theorem State.modSv_bit (a : Act) (f : ServoSt → ServoSt) (x : Fld) : (s.modSv a f).bit x = s.bit x := rfl

/-! #### modAs -/
@[simp] theorem State.modAs_pending (a : Act) (f : AssistSt → AssistSt) : (s.modAs a f).pending = s.pending := rfl
@[simp] theorem State.modAs_tick (a : Act) (f : AssistSt → AssistSt) : (s.modAs a f).tick = s.tick := rfl
@[simp] theorem State.modAs_regs (a : Act) (f : AssistSt → AssistSt) : (s.modAs a f).regs = s.regs := rfl
@[simp] theorem State.modAs_tickMem (a : Act) (f : AssistSt → AssistSt) : (s.modAs a f).tickMem = s.tickMem := rfl
@[simp] theorem State.modAs_recorded (a : Act) (f : AssistSt → AssistSt) : (s.modAs a f).recorded = s.recorded := rfl
@[simp] theorem State.modAs_pins (a : Act) (f : AssistSt → AssistSt) : (s.modAs a f).pins = s.pins := rfl
@[simp] theorem State.modAs_power (a : Act) (f : AssistSt → AssistSt) : (s.modAs a f).power = s.power := rfl
@[simp] theorem State.modAs_doms (a : Act) (f : AssistSt → AssistSt) : (s.modAs a f).doms = s.doms := rfl
@[simp] theorem State.modAs_acc (a : Act) (f : AssistSt → AssistSt) : (s.modAs a f).acc = s.acc := rfl
@[simp] theorem State.modAs_nv (a : Act) (f : AssistSt → AssistSt) : (s.modAs a f).nv = s.nv := rfl
@[simp] theorem State.modAs_sec (a : Act) (f : AssistSt → AssistSt) : (s.modAs a f).sec = s.sec := rfl
@[simp] theorem State.modAs_faults (a : Act) (f : AssistSt → AssistSt) : (s.modAs a f).faults = s.faults := rfl
@[simp] theorem State.modAs_sil (a : Act) (f : AssistSt → AssistSt) : (s.modAs a f).sil = s.sil := rfl
@[simp] theorem State.modAs_thermal (a : Act) (f : AssistSt → AssistSt) : (s.modAs a f).thermal = s.thermal := rfl
@[simp] theorem State.modAs_nvme (a : Act) (f : AssistSt → AssistSt) : (s.modAs a f).nvme = s.nvme := rfl
@[simp] theorem State.modAs_rings (a : Act) (f : AssistSt → AssistSt) : (s.modAs a f).rings = s.rings := rfl
@[simp] theorem State.modAs_map (a : Act) (f : AssistSt → AssistSt) : (s.modAs a f).map = s.map := rfl
@[simp] theorem State.modAs_helpers (a : Act) (f : AssistSt → AssistSt) : (s.modAs a f).helpers = s.helpers := rfl
@[simp] theorem State.modAs_steward (a : Act) (f : AssistSt → AssistSt) : (s.modAs a f).steward = s.steward := rfl
@[simp] theorem State.modAs_fabric (a : Act) (f : AssistSt → AssistSt) : (s.modAs a f).fabric = s.fabric := rfl
@[simp] theorem State.modAs_mem (a : Act) (f : AssistSt → AssistSt) : (s.modAs a f).mem = s.mem := rfl
@[simp] theorem State.modAs_cache (a : Act) (f : AssistSt → AssistSt) : (s.modAs a f).cache = s.cache := rfl
@[simp] theorem State.modAs_movers (a : Act) (f : AssistSt → AssistSt) : (s.modAs a f).movers = s.movers := rfl
@[simp] theorem State.modAs_spindle (a : Act) (f : AssistSt → AssistSt) : (s.modAs a f).spindle = s.spindle := rfl
@[simp] theorem State.modAs_servo (a : Act) (f : AssistSt → AssistSt) : (s.modAs a f).servo = s.servo := rfl
@[simp] theorem State.modAs_assist (a : Act) (f : AssistSt → AssistSt) : (s.modAs a f).assist = s.assist.put a (f (s.assist.at a)) := rfl
@[simp] theorem State.modAs_lanes (a : Act) (f : AssistSt → AssistSt) : (s.modAs a f).lanes = s.lanes := rfl
@[simp] theorem State.modAs_decode (a : Act) (f : AssistSt → AssistSt) : (s.modAs a f).decode = s.decode := rfl
@[simp] theorem State.modAs_cal (a : Act) (f : AssistSt → AssistSt) : (s.modAs a f).cal = s.cal := rfl
@[simp] theorem State.modAs_tier (a : Act) (f : AssistSt → AssistSt) : (s.modAs a f).tier = s.tier := rfl
@[simp] theorem State.modAs_pool (a : Act) (f : AssistSt → AssistSt) : (s.modAs a f).pool = s.pool := rfl
@[simp] theorem State.modAs_eb (a : Act) (f : AssistSt → AssistSt) : (s.modAs a f).eb = s.eb := rfl
@[simp] theorem State.modAs_freeIdx (a : Act) (f : AssistSt → AssistSt) : (s.modAs a f).freeIdx = s.freeIdx := rfl
@[simp] theorem State.modAs_readOut (a : Act) (f : AssistSt → AssistSt) : (s.modAs a f).readOut = s.readOut := rfl
@[simp] theorem State.modAs_reg (a : Act) (f : AssistSt → AssistSt) (x : Nat) : (s.modAs a f).reg x = s.reg x := rfl
@[simp] theorem State.modAs_fld (a : Act) (f : AssistSt → AssistSt) (x : Fld) : (s.modAs a f).fld x = s.fld x := rfl
@[simp] theorem State.modAs_bit (a : Act) (f : AssistSt → AssistSt) (x : Fld) : (s.modAs a f).bit x = s.bit x := rfl

/-! #### modHead -/
@[simp] theorem State.modHead_pending (a : Act) (i : Nat) (f : HeadSt → HeadSt) : (s.modHead a i f).pending = s.pending := rfl
@[simp] theorem State.modHead_tick (a : Act) (i : Nat) (f : HeadSt → HeadSt) : (s.modHead a i f).tick = s.tick := rfl
@[simp] theorem State.modHead_regs (a : Act) (i : Nat) (f : HeadSt → HeadSt) : (s.modHead a i f).regs = s.regs := rfl
@[simp] theorem State.modHead_tickMem (a : Act) (i : Nat) (f : HeadSt → HeadSt) : (s.modHead a i f).tickMem = s.tickMem := rfl
@[simp] theorem State.modHead_recorded (a : Act) (i : Nat) (f : HeadSt → HeadSt) : (s.modHead a i f).recorded = s.recorded := rfl
@[simp] theorem State.modHead_pins (a : Act) (i : Nat) (f : HeadSt → HeadSt) : (s.modHead a i f).pins = s.pins := rfl
@[simp] theorem State.modHead_power (a : Act) (i : Nat) (f : HeadSt → HeadSt) : (s.modHead a i f).power = s.power := rfl
@[simp] theorem State.modHead_doms (a : Act) (i : Nat) (f : HeadSt → HeadSt) : (s.modHead a i f).doms = s.doms := rfl
@[simp] theorem State.modHead_acc (a : Act) (i : Nat) (f : HeadSt → HeadSt) : (s.modHead a i f).acc = s.acc := rfl
@[simp] theorem State.modHead_nv (a : Act) (i : Nat) (f : HeadSt → HeadSt) : (s.modHead a i f).nv = s.nv := rfl
@[simp] theorem State.modHead_sec (a : Act) (i : Nat) (f : HeadSt → HeadSt) : (s.modHead a i f).sec = s.sec := rfl
@[simp] theorem State.modHead_faults (a : Act) (i : Nat) (f : HeadSt → HeadSt) : (s.modHead a i f).faults = s.faults := rfl
@[simp] theorem State.modHead_sil (a : Act) (i : Nat) (f : HeadSt → HeadSt) : (s.modHead a i f).sil = s.sil := rfl
@[simp] theorem State.modHead_thermal (a : Act) (i : Nat) (f : HeadSt → HeadSt) : (s.modHead a i f).thermal = s.thermal := rfl
@[simp] theorem State.modHead_nvme (a : Act) (i : Nat) (f : HeadSt → HeadSt) : (s.modHead a i f).nvme = s.nvme := rfl
@[simp] theorem State.modHead_rings (a : Act) (i : Nat) (f : HeadSt → HeadSt) : (s.modHead a i f).rings = s.rings := rfl
@[simp] theorem State.modHead_map (a : Act) (i : Nat) (f : HeadSt → HeadSt) : (s.modHead a i f).map = s.map := rfl
@[simp] theorem State.modHead_helpers (a : Act) (i : Nat) (f : HeadSt → HeadSt) : (s.modHead a i f).helpers = s.helpers := rfl
@[simp] theorem State.modHead_steward (a : Act) (i : Nat) (f : HeadSt → HeadSt) : (s.modHead a i f).steward = s.steward := rfl
@[simp] theorem State.modHead_fabric (a : Act) (i : Nat) (f : HeadSt → HeadSt) : (s.modHead a i f).fabric = s.fabric := rfl
@[simp] theorem State.modHead_mem (a : Act) (i : Nat) (f : HeadSt → HeadSt) : (s.modHead a i f).mem = s.mem := rfl
@[simp] theorem State.modHead_cache (a : Act) (i : Nat) (f : HeadSt → HeadSt) : (s.modHead a i f).cache = s.cache := rfl
@[simp] theorem State.modHead_movers (a : Act) (i : Nat) (f : HeadSt → HeadSt) : (s.modHead a i f).movers = s.movers := rfl
@[simp] theorem State.modHead_spindle (a : Act) (i : Nat) (f : HeadSt → HeadSt) : (s.modHead a i f).spindle = s.spindle := rfl
@[simp] theorem State.modHead_assist (a : Act) (i : Nat) (f : HeadSt → HeadSt) : (s.modHead a i f).assist = s.assist := rfl
@[simp] theorem State.modHead_lanes (a : Act) (i : Nat) (f : HeadSt → HeadSt) : (s.modHead a i f).lanes = s.lanes := rfl
@[simp] theorem State.modHead_decode (a : Act) (i : Nat) (f : HeadSt → HeadSt) : (s.modHead a i f).decode = s.decode := rfl
@[simp] theorem State.modHead_cal (a : Act) (i : Nat) (f : HeadSt → HeadSt) : (s.modHead a i f).cal = s.cal := rfl
@[simp] theorem State.modHead_tier (a : Act) (i : Nat) (f : HeadSt → HeadSt) : (s.modHead a i f).tier = s.tier := rfl
@[simp] theorem State.modHead_pool (a : Act) (i : Nat) (f : HeadSt → HeadSt) : (s.modHead a i f).pool = s.pool := rfl
@[simp] theorem State.modHead_eb (a : Act) (i : Nat) (f : HeadSt → HeadSt) : (s.modHead a i f).eb = s.eb := rfl
@[simp] theorem State.modHead_freeIdx (a : Act) (i : Nat) (f : HeadSt → HeadSt) : (s.modHead a i f).freeIdx = s.freeIdx := rfl
@[simp] theorem State.modHead_readOut (a : Act) (i : Nat) (f : HeadSt → HeadSt) : (s.modHead a i f).readOut = s.readOut := rfl
@[simp] theorem State.modHead_reg (a : Act) (i : Nat) (f : HeadSt → HeadSt) (x : Nat) : (s.modHead a i f).reg x = s.reg x := rfl
@[simp] theorem State.modHead_fld (a : Act) (i : Nat) (f : HeadSt → HeadSt) (x : Fld) : (s.modHead a i f).fld x = s.fld x := rfl
@[simp] theorem State.modHead_bit (a : Act) (i : Nat) (f : HeadSt → HeadSt) (x : Fld) : (s.modHead a i f).bit x = s.bit x := rfl

/-! #### modPlace -/
@[simp] theorem State.modPlace_pending (a : Act) (k : Nat) (f : Place → Place) : (s.modPlace a k f).pending = s.pending := rfl
@[simp] theorem State.modPlace_tick (a : Act) (k : Nat) (f : Place → Place) : (s.modPlace a k f).tick = s.tick := rfl
@[simp] theorem State.modPlace_regs (a : Act) (k : Nat) (f : Place → Place) : (s.modPlace a k f).regs = s.regs := rfl
@[simp] theorem State.modPlace_tickMem (a : Act) (k : Nat) (f : Place → Place) : (s.modPlace a k f).tickMem = s.tickMem := rfl
@[simp] theorem State.modPlace_recorded (a : Act) (k : Nat) (f : Place → Place) : (s.modPlace a k f).recorded = s.recorded := rfl
@[simp] theorem State.modPlace_pins (a : Act) (k : Nat) (f : Place → Place) : (s.modPlace a k f).pins = s.pins := rfl
@[simp] theorem State.modPlace_power (a : Act) (k : Nat) (f : Place → Place) : (s.modPlace a k f).power = s.power := rfl
@[simp] theorem State.modPlace_doms (a : Act) (k : Nat) (f : Place → Place) : (s.modPlace a k f).doms = s.doms := rfl
@[simp] theorem State.modPlace_acc (a : Act) (k : Nat) (f : Place → Place) : (s.modPlace a k f).acc = s.acc := rfl
@[simp] theorem State.modPlace_nv (a : Act) (k : Nat) (f : Place → Place) : (s.modPlace a k f).nv = s.nv := rfl
@[simp] theorem State.modPlace_sec (a : Act) (k : Nat) (f : Place → Place) : (s.modPlace a k f).sec = s.sec := rfl
@[simp] theorem State.modPlace_faults (a : Act) (k : Nat) (f : Place → Place) : (s.modPlace a k f).faults = s.faults := rfl
@[simp] theorem State.modPlace_sil (a : Act) (k : Nat) (f : Place → Place) : (s.modPlace a k f).sil = s.sil := rfl
@[simp] theorem State.modPlace_thermal (a : Act) (k : Nat) (f : Place → Place) : (s.modPlace a k f).thermal = s.thermal := rfl
@[simp] theorem State.modPlace_nvme (a : Act) (k : Nat) (f : Place → Place) : (s.modPlace a k f).nvme = s.nvme := rfl
@[simp] theorem State.modPlace_rings (a : Act) (k : Nat) (f : Place → Place) : (s.modPlace a k f).rings = s.rings := rfl
@[simp] theorem State.modPlace_map (a : Act) (k : Nat) (f : Place → Place) : (s.modPlace a k f).map = s.map := rfl
@[simp] theorem State.modPlace_helpers (a : Act) (k : Nat) (f : Place → Place) : (s.modPlace a k f).helpers = s.helpers := rfl
@[simp] theorem State.modPlace_steward (a : Act) (k : Nat) (f : Place → Place) : (s.modPlace a k f).steward = s.steward := rfl
@[simp] theorem State.modPlace_fabric (a : Act) (k : Nat) (f : Place → Place) : (s.modPlace a k f).fabric = s.fabric := rfl
@[simp] theorem State.modPlace_mem (a : Act) (k : Nat) (f : Place → Place) : (s.modPlace a k f).mem = s.mem := rfl
@[simp] theorem State.modPlace_cache (a : Act) (k : Nat) (f : Place → Place) : (s.modPlace a k f).cache = s.cache := rfl
@[simp] theorem State.modPlace_movers (a : Act) (k : Nat) (f : Place → Place) : (s.modPlace a k f).movers = s.movers := rfl
@[simp] theorem State.modPlace_spindle (a : Act) (k : Nat) (f : Place → Place) : (s.modPlace a k f).spindle = s.spindle := rfl
@[simp] theorem State.modPlace_assist (a : Act) (k : Nat) (f : Place → Place) : (s.modPlace a k f).assist = s.assist := rfl
@[simp] theorem State.modPlace_lanes (a : Act) (k : Nat) (f : Place → Place) : (s.modPlace a k f).lanes = s.lanes := rfl
@[simp] theorem State.modPlace_decode (a : Act) (k : Nat) (f : Place → Place) : (s.modPlace a k f).decode = s.decode := rfl
@[simp] theorem State.modPlace_cal (a : Act) (k : Nat) (f : Place → Place) : (s.modPlace a k f).cal = s.cal := rfl
@[simp] theorem State.modPlace_tier (a : Act) (k : Nat) (f : Place → Place) : (s.modPlace a k f).tier = s.tier := rfl
@[simp] theorem State.modPlace_pool (a : Act) (k : Nat) (f : Place → Place) : (s.modPlace a k f).pool = s.pool := rfl
@[simp] theorem State.modPlace_eb (a : Act) (k : Nat) (f : Place → Place) : (s.modPlace a k f).eb = s.eb := rfl
@[simp] theorem State.modPlace_freeIdx (a : Act) (k : Nat) (f : Place → Place) : (s.modPlace a k f).freeIdx = s.freeIdx := rfl
@[simp] theorem State.modPlace_readOut (a : Act) (k : Nat) (f : Place → Place) : (s.modPlace a k f).readOut = s.readOut := rfl
@[simp] theorem State.modPlace_reg (a : Act) (k : Nat) (f : Place → Place) (x : Nat) : (s.modPlace a k f).reg x = s.reg x := rfl
@[simp] theorem State.modPlace_fld (a : Act) (k : Nat) (f : Place → Place) (x : Fld) : (s.modPlace a k f).fld x = s.fld x := rfl
@[simp] theorem State.modPlace_bit (a : Act) (k : Nat) (f : Place → Place) (x : Fld) : (s.modPlace a k f).bit x = s.bit x := rfl

/-! #### modAslot -/
@[simp] theorem State.modAslot_pending (a : Act) (n : Nat) (f : AssistSlot → AssistSlot) : (s.modAslot a n f).pending = s.pending := rfl
@[simp] theorem State.modAslot_tick (a : Act) (n : Nat) (f : AssistSlot → AssistSlot) : (s.modAslot a n f).tick = s.tick := rfl
@[simp] theorem State.modAslot_regs (a : Act) (n : Nat) (f : AssistSlot → AssistSlot) : (s.modAslot a n f).regs = s.regs := rfl
@[simp] theorem State.modAslot_tickMem (a : Act) (n : Nat) (f : AssistSlot → AssistSlot) : (s.modAslot a n f).tickMem = s.tickMem := rfl
@[simp] theorem State.modAslot_recorded (a : Act) (n : Nat) (f : AssistSlot → AssistSlot) : (s.modAslot a n f).recorded = s.recorded := rfl
@[simp] theorem State.modAslot_pins (a : Act) (n : Nat) (f : AssistSlot → AssistSlot) : (s.modAslot a n f).pins = s.pins := rfl
@[simp] theorem State.modAslot_power (a : Act) (n : Nat) (f : AssistSlot → AssistSlot) : (s.modAslot a n f).power = s.power := rfl
@[simp] theorem State.modAslot_doms (a : Act) (n : Nat) (f : AssistSlot → AssistSlot) : (s.modAslot a n f).doms = s.doms := rfl
@[simp] theorem State.modAslot_acc (a : Act) (n : Nat) (f : AssistSlot → AssistSlot) : (s.modAslot a n f).acc = s.acc := rfl
@[simp] theorem State.modAslot_nv (a : Act) (n : Nat) (f : AssistSlot → AssistSlot) : (s.modAslot a n f).nv = s.nv := rfl
@[simp] theorem State.modAslot_sec (a : Act) (n : Nat) (f : AssistSlot → AssistSlot) : (s.modAslot a n f).sec = s.sec := rfl
@[simp] theorem State.modAslot_faults (a : Act) (n : Nat) (f : AssistSlot → AssistSlot) : (s.modAslot a n f).faults = s.faults := rfl
@[simp] theorem State.modAslot_sil (a : Act) (n : Nat) (f : AssistSlot → AssistSlot) : (s.modAslot a n f).sil = s.sil := rfl
@[simp] theorem State.modAslot_thermal (a : Act) (n : Nat) (f : AssistSlot → AssistSlot) : (s.modAslot a n f).thermal = s.thermal := rfl
@[simp] theorem State.modAslot_nvme (a : Act) (n : Nat) (f : AssistSlot → AssistSlot) : (s.modAslot a n f).nvme = s.nvme := rfl
@[simp] theorem State.modAslot_rings (a : Act) (n : Nat) (f : AssistSlot → AssistSlot) : (s.modAslot a n f).rings = s.rings := rfl
@[simp] theorem State.modAslot_map (a : Act) (n : Nat) (f : AssistSlot → AssistSlot) : (s.modAslot a n f).map = s.map := rfl
@[simp] theorem State.modAslot_helpers (a : Act) (n : Nat) (f : AssistSlot → AssistSlot) : (s.modAslot a n f).helpers = s.helpers := rfl
@[simp] theorem State.modAslot_steward (a : Act) (n : Nat) (f : AssistSlot → AssistSlot) : (s.modAslot a n f).steward = s.steward := rfl
@[simp] theorem State.modAslot_fabric (a : Act) (n : Nat) (f : AssistSlot → AssistSlot) : (s.modAslot a n f).fabric = s.fabric := rfl
@[simp] theorem State.modAslot_mem (a : Act) (n : Nat) (f : AssistSlot → AssistSlot) : (s.modAslot a n f).mem = s.mem := rfl
@[simp] theorem State.modAslot_cache (a : Act) (n : Nat) (f : AssistSlot → AssistSlot) : (s.modAslot a n f).cache = s.cache := rfl
@[simp] theorem State.modAslot_movers (a : Act) (n : Nat) (f : AssistSlot → AssistSlot) : (s.modAslot a n f).movers = s.movers := rfl
@[simp] theorem State.modAslot_spindle (a : Act) (n : Nat) (f : AssistSlot → AssistSlot) : (s.modAslot a n f).spindle = s.spindle := rfl
@[simp] theorem State.modAslot_servo (a : Act) (n : Nat) (f : AssistSlot → AssistSlot) : (s.modAslot a n f).servo = s.servo := rfl
@[simp] theorem State.modAslot_lanes (a : Act) (n : Nat) (f : AssistSlot → AssistSlot) : (s.modAslot a n f).lanes = s.lanes := rfl
@[simp] theorem State.modAslot_decode (a : Act) (n : Nat) (f : AssistSlot → AssistSlot) : (s.modAslot a n f).decode = s.decode := rfl
@[simp] theorem State.modAslot_cal (a : Act) (n : Nat) (f : AssistSlot → AssistSlot) : (s.modAslot a n f).cal = s.cal := rfl
@[simp] theorem State.modAslot_tier (a : Act) (n : Nat) (f : AssistSlot → AssistSlot) : (s.modAslot a n f).tier = s.tier := rfl
@[simp] theorem State.modAslot_pool (a : Act) (n : Nat) (f : AssistSlot → AssistSlot) : (s.modAslot a n f).pool = s.pool := rfl
@[simp] theorem State.modAslot_eb (a : Act) (n : Nat) (f : AssistSlot → AssistSlot) : (s.modAslot a n f).eb = s.eb := rfl
@[simp] theorem State.modAslot_freeIdx (a : Act) (n : Nat) (f : AssistSlot → AssistSlot) : (s.modAslot a n f).freeIdx = s.freeIdx := rfl
@[simp] theorem State.modAslot_readOut (a : Act) (n : Nat) (f : AssistSlot → AssistSlot) : (s.modAslot a n f).readOut = s.readOut := rfl
@[simp] theorem State.modAslot_reg (a : Act) (n : Nat) (f : AssistSlot → AssistSlot) (x : Nat) : (s.modAslot a n f).reg x = s.reg x := rfl
@[simp] theorem State.modAslot_fld (a : Act) (n : Nat) (f : AssistSlot → AssistSlot) (x : Fld) : (s.modAslot a n f).fld x = s.fld x := rfl
@[simp] theorem State.modAslot_bit (a : Act) (n : Nat) (f : AssistSlot → AssistSlot) (x : Fld) : (s.modAslot a n f).bit x = s.bit x := rfl

/-! #### modLane -/
@[simp] theorem State.modLane_pending (l : Nat) (f : LaneSt → LaneSt) : (s.modLane l f).pending = s.pending := rfl
@[simp] theorem State.modLane_tick (l : Nat) (f : LaneSt → LaneSt) : (s.modLane l f).tick = s.tick := rfl
@[simp] theorem State.modLane_regs (l : Nat) (f : LaneSt → LaneSt) : (s.modLane l f).regs = s.regs := rfl
@[simp] theorem State.modLane_tickMem (l : Nat) (f : LaneSt → LaneSt) : (s.modLane l f).tickMem = s.tickMem := rfl
@[simp] theorem State.modLane_recorded (l : Nat) (f : LaneSt → LaneSt) : (s.modLane l f).recorded = s.recorded := rfl
@[simp] theorem State.modLane_pins (l : Nat) (f : LaneSt → LaneSt) : (s.modLane l f).pins = s.pins := rfl
@[simp] theorem State.modLane_power (l : Nat) (f : LaneSt → LaneSt) : (s.modLane l f).power = s.power := rfl
@[simp] theorem State.modLane_doms (l : Nat) (f : LaneSt → LaneSt) : (s.modLane l f).doms = s.doms := rfl
@[simp] theorem State.modLane_acc (l : Nat) (f : LaneSt → LaneSt) : (s.modLane l f).acc = s.acc := rfl
@[simp] theorem State.modLane_nv (l : Nat) (f : LaneSt → LaneSt) : (s.modLane l f).nv = s.nv := rfl
@[simp] theorem State.modLane_sec (l : Nat) (f : LaneSt → LaneSt) : (s.modLane l f).sec = s.sec := rfl
@[simp] theorem State.modLane_faults (l : Nat) (f : LaneSt → LaneSt) : (s.modLane l f).faults = s.faults := rfl
@[simp] theorem State.modLane_sil (l : Nat) (f : LaneSt → LaneSt) : (s.modLane l f).sil = s.sil := rfl
@[simp] theorem State.modLane_thermal (l : Nat) (f : LaneSt → LaneSt) : (s.modLane l f).thermal = s.thermal := rfl
@[simp] theorem State.modLane_nvme (l : Nat) (f : LaneSt → LaneSt) : (s.modLane l f).nvme = s.nvme := rfl
@[simp] theorem State.modLane_rings (l : Nat) (f : LaneSt → LaneSt) : (s.modLane l f).rings = s.rings := rfl
@[simp] theorem State.modLane_map (l : Nat) (f : LaneSt → LaneSt) : (s.modLane l f).map = s.map := rfl
@[simp] theorem State.modLane_helpers (l : Nat) (f : LaneSt → LaneSt) : (s.modLane l f).helpers = s.helpers := rfl
@[simp] theorem State.modLane_steward (l : Nat) (f : LaneSt → LaneSt) : (s.modLane l f).steward = s.steward := rfl
@[simp] theorem State.modLane_fabric (l : Nat) (f : LaneSt → LaneSt) : (s.modLane l f).fabric = s.fabric := rfl
@[simp] theorem State.modLane_mem (l : Nat) (f : LaneSt → LaneSt) : (s.modLane l f).mem = s.mem := rfl
@[simp] theorem State.modLane_cache (l : Nat) (f : LaneSt → LaneSt) : (s.modLane l f).cache = s.cache := rfl
@[simp] theorem State.modLane_movers (l : Nat) (f : LaneSt → LaneSt) : (s.modLane l f).movers = s.movers := rfl
@[simp] theorem State.modLane_spindle (l : Nat) (f : LaneSt → LaneSt) : (s.modLane l f).spindle = s.spindle := rfl
@[simp] theorem State.modLane_servo (l : Nat) (f : LaneSt → LaneSt) : (s.modLane l f).servo = s.servo := rfl
@[simp] theorem State.modLane_assist (l : Nat) (f : LaneSt → LaneSt) : (s.modLane l f).assist = s.assist := rfl
@[simp] theorem State.modLane_decode (l : Nat) (f : LaneSt → LaneSt) : (s.modLane l f).decode = s.decode := rfl
@[simp] theorem State.modLane_cal (l : Nat) (f : LaneSt → LaneSt) : (s.modLane l f).cal = s.cal := rfl
@[simp] theorem State.modLane_tier (l : Nat) (f : LaneSt → LaneSt) : (s.modLane l f).tier = s.tier := rfl
@[simp] theorem State.modLane_pool (l : Nat) (f : LaneSt → LaneSt) : (s.modLane l f).pool = s.pool := rfl
@[simp] theorem State.modLane_eb (l : Nat) (f : LaneSt → LaneSt) : (s.modLane l f).eb = s.eb := rfl
@[simp] theorem State.modLane_freeIdx (l : Nat) (f : LaneSt → LaneSt) : (s.modLane l f).freeIdx = s.freeIdx := rfl
@[simp] theorem State.modLane_readOut (l : Nat) (f : LaneSt → LaneSt) : (s.modLane l f).readOut = s.readOut := rfl
@[simp] theorem State.modLane_reg (l : Nat) (f : LaneSt → LaneSt) (x : Nat) : (s.modLane l f).reg x = s.reg x := rfl
@[simp] theorem State.modLane_fld (l : Nat) (f : LaneSt → LaneSt) (x : Fld) : (s.modLane l f).fld x = s.fld x := rfl
@[simp] theorem State.modLane_bit (l : Nat) (f : LaneSt → LaneSt) (x : Fld) : (s.modLane l f).bit x = s.bit x := rfl

/-! #### modSlot -/
@[simp] theorem State.modSlot_pending (k : Nat) (f : SlotSt → SlotSt) : (s.modSlot k f).pending = s.pending := rfl
@[simp] theorem State.modSlot_tick (k : Nat) (f : SlotSt → SlotSt) : (s.modSlot k f).tick = s.tick := rfl
@[simp] theorem State.modSlot_regs (k : Nat) (f : SlotSt → SlotSt) : (s.modSlot k f).regs = s.regs := rfl
@[simp] theorem State.modSlot_tickMem (k : Nat) (f : SlotSt → SlotSt) : (s.modSlot k f).tickMem = s.tickMem := rfl
@[simp] theorem State.modSlot_recorded (k : Nat) (f : SlotSt → SlotSt) : (s.modSlot k f).recorded = s.recorded := rfl
@[simp] theorem State.modSlot_pins (k : Nat) (f : SlotSt → SlotSt) : (s.modSlot k f).pins = s.pins := rfl
@[simp] theorem State.modSlot_power (k : Nat) (f : SlotSt → SlotSt) : (s.modSlot k f).power = s.power := rfl
@[simp] theorem State.modSlot_doms (k : Nat) (f : SlotSt → SlotSt) : (s.modSlot k f).doms = s.doms := rfl
@[simp] theorem State.modSlot_acc (k : Nat) (f : SlotSt → SlotSt) : (s.modSlot k f).acc = s.acc := rfl
@[simp] theorem State.modSlot_nv (k : Nat) (f : SlotSt → SlotSt) : (s.modSlot k f).nv = s.nv := rfl
@[simp] theorem State.modSlot_sec (k : Nat) (f : SlotSt → SlotSt) : (s.modSlot k f).sec = s.sec := rfl
@[simp] theorem State.modSlot_faults (k : Nat) (f : SlotSt → SlotSt) : (s.modSlot k f).faults = s.faults := rfl
@[simp] theorem State.modSlot_sil (k : Nat) (f : SlotSt → SlotSt) : (s.modSlot k f).sil = s.sil := rfl
@[simp] theorem State.modSlot_thermal (k : Nat) (f : SlotSt → SlotSt) : (s.modSlot k f).thermal = s.thermal := rfl
@[simp] theorem State.modSlot_nvme (k : Nat) (f : SlotSt → SlotSt) : (s.modSlot k f).nvme = s.nvme := rfl
@[simp] theorem State.modSlot_rings (k : Nat) (f : SlotSt → SlotSt) : (s.modSlot k f).rings = s.rings := rfl
@[simp] theorem State.modSlot_map (k : Nat) (f : SlotSt → SlotSt) : (s.modSlot k f).map = s.map := rfl
@[simp] theorem State.modSlot_helpers (k : Nat) (f : SlotSt → SlotSt) : (s.modSlot k f).helpers = s.helpers := rfl
@[simp] theorem State.modSlot_steward (k : Nat) (f : SlotSt → SlotSt) : (s.modSlot k f).steward = s.steward := rfl
@[simp] theorem State.modSlot_fabric (k : Nat) (f : SlotSt → SlotSt) : (s.modSlot k f).fabric = s.fabric := rfl
@[simp] theorem State.modSlot_mem (k : Nat) (f : SlotSt → SlotSt) : (s.modSlot k f).mem = s.mem := rfl
@[simp] theorem State.modSlot_cache (k : Nat) (f : SlotSt → SlotSt) : (s.modSlot k f).cache = s.cache := rfl
@[simp] theorem State.modSlot_movers (k : Nat) (f : SlotSt → SlotSt) : (s.modSlot k f).movers = s.movers := rfl
@[simp] theorem State.modSlot_spindle (k : Nat) (f : SlotSt → SlotSt) : (s.modSlot k f).spindle = s.spindle := rfl
@[simp] theorem State.modSlot_servo (k : Nat) (f : SlotSt → SlotSt) : (s.modSlot k f).servo = s.servo := rfl
@[simp] theorem State.modSlot_assist (k : Nat) (f : SlotSt → SlotSt) : (s.modSlot k f).assist = s.assist := rfl
@[simp] theorem State.modSlot_decode (k : Nat) (f : SlotSt → SlotSt) : (s.modSlot k f).decode = s.decode := rfl
@[simp] theorem State.modSlot_cal (k : Nat) (f : SlotSt → SlotSt) : (s.modSlot k f).cal = s.cal := rfl
@[simp] theorem State.modSlot_tier (k : Nat) (f : SlotSt → SlotSt) : (s.modSlot k f).tier = s.tier := rfl
@[simp] theorem State.modSlot_pool (k : Nat) (f : SlotSt → SlotSt) : (s.modSlot k f).pool = s.pool := rfl
@[simp] theorem State.modSlot_eb (k : Nat) (f : SlotSt → SlotSt) : (s.modSlot k f).eb = s.eb := rfl
@[simp] theorem State.modSlot_freeIdx (k : Nat) (f : SlotSt → SlotSt) : (s.modSlot k f).freeIdx = s.freeIdx := rfl
@[simp] theorem State.modSlot_readOut (k : Nat) (f : SlotSt → SlotSt) : (s.modSlot k f).readOut = s.readOut := rfl
@[simp] theorem State.modSlot_reg (k : Nat) (f : SlotSt → SlotSt) (x : Nat) : (s.modSlot k f).reg x = s.reg x := rfl
@[simp] theorem State.modSlot_fld (k : Nat) (f : SlotSt → SlotSt) (x : Fld) : (s.modSlot k f).fld x = s.fld x := rfl
@[simp] theorem State.modSlot_bit (k : Nat) (f : SlotSt → SlotSt) (x : Fld) : (s.modSlot k f).bit x = s.bit x := rfl

/-! #### modChan -/
@[simp] theorem State.modChan_pending (c : Nat) (f : Channel → Channel) : (s.modChan c f).pending = s.pending := rfl
@[simp] theorem State.modChan_tick (c : Nat) (f : Channel → Channel) : (s.modChan c f).tick = s.tick := rfl
@[simp] theorem State.modChan_regs (c : Nat) (f : Channel → Channel) : (s.modChan c f).regs = s.regs := rfl
@[simp] theorem State.modChan_tickMem (c : Nat) (f : Channel → Channel) : (s.modChan c f).tickMem = s.tickMem := rfl
@[simp] theorem State.modChan_recorded (c : Nat) (f : Channel → Channel) : (s.modChan c f).recorded = s.recorded := rfl
@[simp] theorem State.modChan_pins (c : Nat) (f : Channel → Channel) : (s.modChan c f).pins = s.pins := rfl
@[simp] theorem State.modChan_power (c : Nat) (f : Channel → Channel) : (s.modChan c f).power = s.power := rfl
@[simp] theorem State.modChan_doms (c : Nat) (f : Channel → Channel) : (s.modChan c f).doms = s.doms := rfl
@[simp] theorem State.modChan_acc (c : Nat) (f : Channel → Channel) : (s.modChan c f).acc = s.acc := rfl
@[simp] theorem State.modChan_nv (c : Nat) (f : Channel → Channel) : (s.modChan c f).nv = s.nv := rfl
@[simp] theorem State.modChan_sec (c : Nat) (f : Channel → Channel) : (s.modChan c f).sec = s.sec := rfl
@[simp] theorem State.modChan_faults (c : Nat) (f : Channel → Channel) : (s.modChan c f).faults = s.faults := rfl
@[simp] theorem State.modChan_sil (c : Nat) (f : Channel → Channel) : (s.modChan c f).sil = s.sil := rfl
@[simp] theorem State.modChan_thermal (c : Nat) (f : Channel → Channel) : (s.modChan c f).thermal = s.thermal := rfl
@[simp] theorem State.modChan_nvme (c : Nat) (f : Channel → Channel) : (s.modChan c f).nvme = s.nvme := rfl
@[simp] theorem State.modChan_rings (c : Nat) (f : Channel → Channel) : (s.modChan c f).rings = s.rings := rfl
@[simp] theorem State.modChan_map (c : Nat) (f : Channel → Channel) : (s.modChan c f).map = s.map := rfl
@[simp] theorem State.modChan_helpers (c : Nat) (f : Channel → Channel) : (s.modChan c f).helpers = s.helpers := rfl
@[simp] theorem State.modChan_steward (c : Nat) (f : Channel → Channel) : (s.modChan c f).steward = s.steward := rfl
@[simp] theorem State.modChan_fabric (c : Nat) (f : Channel → Channel) : (s.modChan c f).fabric = s.fabric := rfl
@[simp] theorem State.modChan_mem (c : Nat) (f : Channel → Channel) : (s.modChan c f).mem = s.mem := rfl
@[simp] theorem State.modChan_cache (c : Nat) (f : Channel → Channel) : (s.modChan c f).cache = s.cache := rfl
@[simp] theorem State.modChan_spindle (c : Nat) (f : Channel → Channel) : (s.modChan c f).spindle = s.spindle := rfl
@[simp] theorem State.modChan_servo (c : Nat) (f : Channel → Channel) : (s.modChan c f).servo = s.servo := rfl
@[simp] theorem State.modChan_assist (c : Nat) (f : Channel → Channel) : (s.modChan c f).assist = s.assist := rfl
@[simp] theorem State.modChan_lanes (c : Nat) (f : Channel → Channel) : (s.modChan c f).lanes = s.lanes := rfl
@[simp] theorem State.modChan_decode (c : Nat) (f : Channel → Channel) : (s.modChan c f).decode = s.decode := rfl
@[simp] theorem State.modChan_cal (c : Nat) (f : Channel → Channel) : (s.modChan c f).cal = s.cal := rfl
@[simp] theorem State.modChan_tier (c : Nat) (f : Channel → Channel) : (s.modChan c f).tier = s.tier := rfl
@[simp] theorem State.modChan_pool (c : Nat) (f : Channel → Channel) : (s.modChan c f).pool = s.pool := rfl
@[simp] theorem State.modChan_eb (c : Nat) (f : Channel → Channel) : (s.modChan c f).eb = s.eb := rfl
@[simp] theorem State.modChan_freeIdx (c : Nat) (f : Channel → Channel) : (s.modChan c f).freeIdx = s.freeIdx := rfl
@[simp] theorem State.modChan_readOut (c : Nat) (f : Channel → Channel) : (s.modChan c f).readOut = s.readOut := rfl
@[simp] theorem State.modChan_reg (c : Nat) (f : Channel → Channel) (x : Nat) : (s.modChan c f).reg x = s.reg x := rfl
@[simp] theorem State.modChan_fld (c : Nat) (f : Channel → Channel) (x : Fld) : (s.modChan c f).fld x = s.fld x := rfl
@[simp] theorem State.modChan_bit (c : Nat) (f : Channel → Channel) (x : Fld) : (s.modChan c f).bit x = s.bit x := rfl

/-! #### modRing -/
@[simp] theorem State.modRing_pending (r : Nat) (f : RingSt → RingSt) : (s.modRing r f).pending = s.pending := rfl
@[simp] theorem State.modRing_tick (r : Nat) (f : RingSt → RingSt) : (s.modRing r f).tick = s.tick := rfl
@[simp] theorem State.modRing_regs (r : Nat) (f : RingSt → RingSt) : (s.modRing r f).regs = s.regs := rfl
@[simp] theorem State.modRing_tickMem (r : Nat) (f : RingSt → RingSt) : (s.modRing r f).tickMem = s.tickMem := rfl
@[simp] theorem State.modRing_recorded (r : Nat) (f : RingSt → RingSt) : (s.modRing r f).recorded = s.recorded := rfl
@[simp] theorem State.modRing_pins (r : Nat) (f : RingSt → RingSt) : (s.modRing r f).pins = s.pins := rfl
@[simp] theorem State.modRing_power (r : Nat) (f : RingSt → RingSt) : (s.modRing r f).power = s.power := rfl
@[simp] theorem State.modRing_doms (r : Nat) (f : RingSt → RingSt) : (s.modRing r f).doms = s.doms := rfl
@[simp] theorem State.modRing_acc (r : Nat) (f : RingSt → RingSt) : (s.modRing r f).acc = s.acc := rfl
@[simp] theorem State.modRing_nv (r : Nat) (f : RingSt → RingSt) : (s.modRing r f).nv = s.nv := rfl
@[simp] theorem State.modRing_sec (r : Nat) (f : RingSt → RingSt) : (s.modRing r f).sec = s.sec := rfl
@[simp] theorem State.modRing_faults (r : Nat) (f : RingSt → RingSt) : (s.modRing r f).faults = s.faults := rfl
@[simp] theorem State.modRing_sil (r : Nat) (f : RingSt → RingSt) : (s.modRing r f).sil = s.sil := rfl
@[simp] theorem State.modRing_thermal (r : Nat) (f : RingSt → RingSt) : (s.modRing r f).thermal = s.thermal := rfl
@[simp] theorem State.modRing_nvme (r : Nat) (f : RingSt → RingSt) : (s.modRing r f).nvme = s.nvme := rfl
@[simp] theorem State.modRing_map (r : Nat) (f : RingSt → RingSt) : (s.modRing r f).map = s.map := rfl
@[simp] theorem State.modRing_helpers (r : Nat) (f : RingSt → RingSt) : (s.modRing r f).helpers = s.helpers := rfl
@[simp] theorem State.modRing_steward (r : Nat) (f : RingSt → RingSt) : (s.modRing r f).steward = s.steward := rfl
@[simp] theorem State.modRing_fabric (r : Nat) (f : RingSt → RingSt) : (s.modRing r f).fabric = s.fabric := rfl
@[simp] theorem State.modRing_mem (r : Nat) (f : RingSt → RingSt) : (s.modRing r f).mem = s.mem := rfl
@[simp] theorem State.modRing_cache (r : Nat) (f : RingSt → RingSt) : (s.modRing r f).cache = s.cache := rfl
@[simp] theorem State.modRing_movers (r : Nat) (f : RingSt → RingSt) : (s.modRing r f).movers = s.movers := rfl
@[simp] theorem State.modRing_spindle (r : Nat) (f : RingSt → RingSt) : (s.modRing r f).spindle = s.spindle := rfl
@[simp] theorem State.modRing_servo (r : Nat) (f : RingSt → RingSt) : (s.modRing r f).servo = s.servo := rfl
@[simp] theorem State.modRing_assist (r : Nat) (f : RingSt → RingSt) : (s.modRing r f).assist = s.assist := rfl
@[simp] theorem State.modRing_lanes (r : Nat) (f : RingSt → RingSt) : (s.modRing r f).lanes = s.lanes := rfl
@[simp] theorem State.modRing_decode (r : Nat) (f : RingSt → RingSt) : (s.modRing r f).decode = s.decode := rfl
@[simp] theorem State.modRing_cal (r : Nat) (f : RingSt → RingSt) : (s.modRing r f).cal = s.cal := rfl
@[simp] theorem State.modRing_tier (r : Nat) (f : RingSt → RingSt) : (s.modRing r f).tier = s.tier := rfl
@[simp] theorem State.modRing_pool (r : Nat) (f : RingSt → RingSt) : (s.modRing r f).pool = s.pool := rfl
@[simp] theorem State.modRing_eb (r : Nat) (f : RingSt → RingSt) : (s.modRing r f).eb = s.eb := rfl
@[simp] theorem State.modRing_freeIdx (r : Nat) (f : RingSt → RingSt) : (s.modRing r f).freeIdx = s.freeIdx := rfl
@[simp] theorem State.modRing_readOut (r : Nat) (f : RingSt → RingSt) : (s.modRing r f).readOut = s.readOut := rfl
@[simp] theorem State.modRing_reg (r : Nat) (f : RingSt → RingSt) (x : Nat) : (s.modRing r f).reg x = s.reg x := rfl
@[simp] theorem State.modRing_fld (r : Nat) (f : RingSt → RingSt) (x : Fld) : (s.modRing r f).fld x = s.fld x := rfl
@[simp] theorem State.modRing_bit (r : Nat) (f : RingSt → RingSt) (x : Fld) : (s.modRing r f).bit x = s.bit x := rfl

/-! #### modCtrl -/
@[simp] theorem State.modCtrl_pending (c : Nat) (f : Ctrl → Ctrl) : (s.modCtrl c f).pending = s.pending := rfl
@[simp] theorem State.modCtrl_tick (c : Nat) (f : Ctrl → Ctrl) : (s.modCtrl c f).tick = s.tick := rfl
@[simp] theorem State.modCtrl_regs (c : Nat) (f : Ctrl → Ctrl) : (s.modCtrl c f).regs = s.regs := rfl
@[simp] theorem State.modCtrl_tickMem (c : Nat) (f : Ctrl → Ctrl) : (s.modCtrl c f).tickMem = s.tickMem := rfl
@[simp] theorem State.modCtrl_recorded (c : Nat) (f : Ctrl → Ctrl) : (s.modCtrl c f).recorded = s.recorded := rfl
@[simp] theorem State.modCtrl_pins (c : Nat) (f : Ctrl → Ctrl) : (s.modCtrl c f).pins = s.pins := rfl
@[simp] theorem State.modCtrl_power (c : Nat) (f : Ctrl → Ctrl) : (s.modCtrl c f).power = s.power := rfl
@[simp] theorem State.modCtrl_doms (c : Nat) (f : Ctrl → Ctrl) : (s.modCtrl c f).doms = s.doms := rfl
@[simp] theorem State.modCtrl_acc (c : Nat) (f : Ctrl → Ctrl) : (s.modCtrl c f).acc = s.acc := rfl
@[simp] theorem State.modCtrl_nv (c : Nat) (f : Ctrl → Ctrl) : (s.modCtrl c f).nv = s.nv := rfl
@[simp] theorem State.modCtrl_sec (c : Nat) (f : Ctrl → Ctrl) : (s.modCtrl c f).sec = s.sec := rfl
@[simp] theorem State.modCtrl_faults (c : Nat) (f : Ctrl → Ctrl) : (s.modCtrl c f).faults = s.faults := rfl
@[simp] theorem State.modCtrl_sil (c : Nat) (f : Ctrl → Ctrl) : (s.modCtrl c f).sil = s.sil := rfl
@[simp] theorem State.modCtrl_thermal (c : Nat) (f : Ctrl → Ctrl) : (s.modCtrl c f).thermal = s.thermal := rfl
@[simp] theorem State.modCtrl_rings (c : Nat) (f : Ctrl → Ctrl) : (s.modCtrl c f).rings = s.rings := rfl
@[simp] theorem State.modCtrl_map (c : Nat) (f : Ctrl → Ctrl) : (s.modCtrl c f).map = s.map := rfl
@[simp] theorem State.modCtrl_helpers (c : Nat) (f : Ctrl → Ctrl) : (s.modCtrl c f).helpers = s.helpers := rfl
@[simp] theorem State.modCtrl_steward (c : Nat) (f : Ctrl → Ctrl) : (s.modCtrl c f).steward = s.steward := rfl
@[simp] theorem State.modCtrl_fabric (c : Nat) (f : Ctrl → Ctrl) : (s.modCtrl c f).fabric = s.fabric := rfl
@[simp] theorem State.modCtrl_mem (c : Nat) (f : Ctrl → Ctrl) : (s.modCtrl c f).mem = s.mem := rfl
@[simp] theorem State.modCtrl_cache (c : Nat) (f : Ctrl → Ctrl) : (s.modCtrl c f).cache = s.cache := rfl
@[simp] theorem State.modCtrl_movers (c : Nat) (f : Ctrl → Ctrl) : (s.modCtrl c f).movers = s.movers := rfl
@[simp] theorem State.modCtrl_spindle (c : Nat) (f : Ctrl → Ctrl) : (s.modCtrl c f).spindle = s.spindle := rfl
@[simp] theorem State.modCtrl_servo (c : Nat) (f : Ctrl → Ctrl) : (s.modCtrl c f).servo = s.servo := rfl
@[simp] theorem State.modCtrl_assist (c : Nat) (f : Ctrl → Ctrl) : (s.modCtrl c f).assist = s.assist := rfl
@[simp] theorem State.modCtrl_lanes (c : Nat) (f : Ctrl → Ctrl) : (s.modCtrl c f).lanes = s.lanes := rfl
@[simp] theorem State.modCtrl_decode (c : Nat) (f : Ctrl → Ctrl) : (s.modCtrl c f).decode = s.decode := rfl
@[simp] theorem State.modCtrl_cal (c : Nat) (f : Ctrl → Ctrl) : (s.modCtrl c f).cal = s.cal := rfl
@[simp] theorem State.modCtrl_tier (c : Nat) (f : Ctrl → Ctrl) : (s.modCtrl c f).tier = s.tier := rfl
@[simp] theorem State.modCtrl_pool (c : Nat) (f : Ctrl → Ctrl) : (s.modCtrl c f).pool = s.pool := rfl
@[simp] theorem State.modCtrl_eb (c : Nat) (f : Ctrl → Ctrl) : (s.modCtrl c f).eb = s.eb := rfl
@[simp] theorem State.modCtrl_freeIdx (c : Nat) (f : Ctrl → Ctrl) : (s.modCtrl c f).freeIdx = s.freeIdx := rfl
@[simp] theorem State.modCtrl_readOut (c : Nat) (f : Ctrl → Ctrl) : (s.modCtrl c f).readOut = s.readOut := rfl
@[simp] theorem State.modCtrl_reg (c : Nat) (f : Ctrl → Ctrl) (x : Nat) : (s.modCtrl c f).reg x = s.reg x := rfl
@[simp] theorem State.modCtrl_fld (c : Nat) (f : Ctrl → Ctrl) (x : Fld) : (s.modCtrl c f).fld x = s.fld x := rfl
@[simp] theorem State.modCtrl_bit (c : Nat) (f : Ctrl → Ctrl) (x : Fld) : (s.modCtrl c f).bit x = s.bit x := rfl

/-! #### modNvme -/
@[simp] theorem State.modNvme_pending (f : NvmeSt → NvmeSt) : (s.modNvme f).pending = s.pending := rfl
@[simp] theorem State.modNvme_tick (f : NvmeSt → NvmeSt) : (s.modNvme f).tick = s.tick := rfl
@[simp] theorem State.modNvme_regs (f : NvmeSt → NvmeSt) : (s.modNvme f).regs = s.regs := rfl
@[simp] theorem State.modNvme_tickMem (f : NvmeSt → NvmeSt) : (s.modNvme f).tickMem = s.tickMem := rfl
@[simp] theorem State.modNvme_recorded (f : NvmeSt → NvmeSt) : (s.modNvme f).recorded = s.recorded := rfl
@[simp] theorem State.modNvme_pins (f : NvmeSt → NvmeSt) : (s.modNvme f).pins = s.pins := rfl
@[simp] theorem State.modNvme_power (f : NvmeSt → NvmeSt) : (s.modNvme f).power = s.power := rfl
@[simp] theorem State.modNvme_doms (f : NvmeSt → NvmeSt) : (s.modNvme f).doms = s.doms := rfl
@[simp] theorem State.modNvme_acc (f : NvmeSt → NvmeSt) : (s.modNvme f).acc = s.acc := rfl
@[simp] theorem State.modNvme_nv (f : NvmeSt → NvmeSt) : (s.modNvme f).nv = s.nv := rfl
@[simp] theorem State.modNvme_sec (f : NvmeSt → NvmeSt) : (s.modNvme f).sec = s.sec := rfl
@[simp] theorem State.modNvme_faults (f : NvmeSt → NvmeSt) : (s.modNvme f).faults = s.faults := rfl
@[simp] theorem State.modNvme_sil (f : NvmeSt → NvmeSt) : (s.modNvme f).sil = s.sil := rfl
@[simp] theorem State.modNvme_thermal (f : NvmeSt → NvmeSt) : (s.modNvme f).thermal = s.thermal := rfl
@[simp] theorem State.modNvme_nvme (f : NvmeSt → NvmeSt) : (s.modNvme f).nvme = f s.nvme := rfl
@[simp] theorem State.modNvme_rings (f : NvmeSt → NvmeSt) : (s.modNvme f).rings = s.rings := rfl
@[simp] theorem State.modNvme_map (f : NvmeSt → NvmeSt) : (s.modNvme f).map = s.map := rfl
@[simp] theorem State.modNvme_helpers (f : NvmeSt → NvmeSt) : (s.modNvme f).helpers = s.helpers := rfl
@[simp] theorem State.modNvme_steward (f : NvmeSt → NvmeSt) : (s.modNvme f).steward = s.steward := rfl
@[simp] theorem State.modNvme_fabric (f : NvmeSt → NvmeSt) : (s.modNvme f).fabric = s.fabric := rfl
@[simp] theorem State.modNvme_mem (f : NvmeSt → NvmeSt) : (s.modNvme f).mem = s.mem := rfl
@[simp] theorem State.modNvme_cache (f : NvmeSt → NvmeSt) : (s.modNvme f).cache = s.cache := rfl
@[simp] theorem State.modNvme_movers (f : NvmeSt → NvmeSt) : (s.modNvme f).movers = s.movers := rfl
@[simp] theorem State.modNvme_spindle (f : NvmeSt → NvmeSt) : (s.modNvme f).spindle = s.spindle := rfl
@[simp] theorem State.modNvme_servo (f : NvmeSt → NvmeSt) : (s.modNvme f).servo = s.servo := rfl
@[simp] theorem State.modNvme_assist (f : NvmeSt → NvmeSt) : (s.modNvme f).assist = s.assist := rfl
@[simp] theorem State.modNvme_lanes (f : NvmeSt → NvmeSt) : (s.modNvme f).lanes = s.lanes := rfl
@[simp] theorem State.modNvme_decode (f : NvmeSt → NvmeSt) : (s.modNvme f).decode = s.decode := rfl
@[simp] theorem State.modNvme_cal (f : NvmeSt → NvmeSt) : (s.modNvme f).cal = s.cal := rfl
@[simp] theorem State.modNvme_tier (f : NvmeSt → NvmeSt) : (s.modNvme f).tier = s.tier := rfl
@[simp] theorem State.modNvme_pool (f : NvmeSt → NvmeSt) : (s.modNvme f).pool = s.pool := rfl
@[simp] theorem State.modNvme_eb (f : NvmeSt → NvmeSt) : (s.modNvme f).eb = s.eb := rfl
@[simp] theorem State.modNvme_freeIdx (f : NvmeSt → NvmeSt) : (s.modNvme f).freeIdx = s.freeIdx := rfl
@[simp] theorem State.modNvme_readOut (f : NvmeSt → NvmeSt) : (s.modNvme f).readOut = s.readOut := rfl
@[simp] theorem State.modNvme_reg (f : NvmeSt → NvmeSt) (x : Nat) : (s.modNvme f).reg x = s.reg x := rfl
@[simp] theorem State.modNvme_fld (f : NvmeSt → NvmeSt) (x : Fld) : (s.modNvme f).fld x = s.fld x := rfl
@[simp] theorem State.modNvme_bit (f : NvmeSt → NvmeSt) (x : Fld) : (s.modNvme f).bit x = s.bit x := rfl

/-! #### modPower -/
@[simp] theorem State.modPower_pending (f : Power → Power) : (s.modPower f).pending = s.pending := rfl
@[simp] theorem State.modPower_tick (f : Power → Power) : (s.modPower f).tick = s.tick := rfl
@[simp] theorem State.modPower_regs (f : Power → Power) : (s.modPower f).regs = s.regs := rfl
@[simp] theorem State.modPower_tickMem (f : Power → Power) : (s.modPower f).tickMem = s.tickMem := rfl
@[simp] theorem State.modPower_recorded (f : Power → Power) : (s.modPower f).recorded = s.recorded := rfl
@[simp] theorem State.modPower_pins (f : Power → Power) : (s.modPower f).pins = s.pins := rfl
@[simp] theorem State.modPower_power (f : Power → Power) : (s.modPower f).power = f s.power := rfl
@[simp] theorem State.modPower_doms (f : Power → Power) : (s.modPower f).doms = s.doms := rfl
@[simp] theorem State.modPower_acc (f : Power → Power) : (s.modPower f).acc = s.acc := rfl
@[simp] theorem State.modPower_nv (f : Power → Power) : (s.modPower f).nv = s.nv := rfl
@[simp] theorem State.modPower_sec (f : Power → Power) : (s.modPower f).sec = s.sec := rfl
@[simp] theorem State.modPower_faults (f : Power → Power) : (s.modPower f).faults = s.faults := rfl
@[simp] theorem State.modPower_sil (f : Power → Power) : (s.modPower f).sil = s.sil := rfl
@[simp] theorem State.modPower_thermal (f : Power → Power) : (s.modPower f).thermal = s.thermal := rfl
@[simp] theorem State.modPower_nvme (f : Power → Power) : (s.modPower f).nvme = s.nvme := rfl
@[simp] theorem State.modPower_rings (f : Power → Power) : (s.modPower f).rings = s.rings := rfl
@[simp] theorem State.modPower_map (f : Power → Power) : (s.modPower f).map = s.map := rfl
@[simp] theorem State.modPower_helpers (f : Power → Power) : (s.modPower f).helpers = s.helpers := rfl
@[simp] theorem State.modPower_steward (f : Power → Power) : (s.modPower f).steward = s.steward := rfl
@[simp] theorem State.modPower_fabric (f : Power → Power) : (s.modPower f).fabric = s.fabric := rfl
@[simp] theorem State.modPower_mem (f : Power → Power) : (s.modPower f).mem = s.mem := rfl
@[simp] theorem State.modPower_cache (f : Power → Power) : (s.modPower f).cache = s.cache := rfl
@[simp] theorem State.modPower_movers (f : Power → Power) : (s.modPower f).movers = s.movers := rfl
@[simp] theorem State.modPower_spindle (f : Power → Power) : (s.modPower f).spindle = s.spindle := rfl
@[simp] theorem State.modPower_servo (f : Power → Power) : (s.modPower f).servo = s.servo := rfl
@[simp] theorem State.modPower_assist (f : Power → Power) : (s.modPower f).assist = s.assist := rfl
@[simp] theorem State.modPower_lanes (f : Power → Power) : (s.modPower f).lanes = s.lanes := rfl
@[simp] theorem State.modPower_decode (f : Power → Power) : (s.modPower f).decode = s.decode := rfl
@[simp] theorem State.modPower_cal (f : Power → Power) : (s.modPower f).cal = s.cal := rfl
@[simp] theorem State.modPower_tier (f : Power → Power) : (s.modPower f).tier = s.tier := rfl
@[simp] theorem State.modPower_pool (f : Power → Power) : (s.modPower f).pool = s.pool := rfl
@[simp] theorem State.modPower_eb (f : Power → Power) : (s.modPower f).eb = s.eb := rfl
@[simp] theorem State.modPower_freeIdx (f : Power → Power) : (s.modPower f).freeIdx = s.freeIdx := rfl
@[simp] theorem State.modPower_readOut (f : Power → Power) : (s.modPower f).readOut = s.readOut := rfl
@[simp] theorem State.modPower_reg (f : Power → Power) (x : Nat) : (s.modPower f).reg x = s.reg x := rfl
@[simp] theorem State.modPower_fld (f : Power → Power) (x : Fld) : (s.modPower f).fld x = s.fld x := rfl
@[simp] theorem State.modPower_bit (f : Power → Power) (x : Fld) : (s.modPower f).bit x = s.bit x := rfl

/-! #### modPins -/
@[simp] theorem State.modPins_pending (f : Pins → Pins) : (s.modPins f).pending = s.pending := rfl
@[simp] theorem State.modPins_tick (f : Pins → Pins) : (s.modPins f).tick = s.tick := rfl
@[simp] theorem State.modPins_regs (f : Pins → Pins) : (s.modPins f).regs = s.regs := rfl
@[simp] theorem State.modPins_tickMem (f : Pins → Pins) : (s.modPins f).tickMem = s.tickMem := rfl
@[simp] theorem State.modPins_recorded (f : Pins → Pins) : (s.modPins f).recorded = s.recorded := rfl
@[simp] theorem State.modPins_pins (f : Pins → Pins) : (s.modPins f).pins = f s.pins := rfl
@[simp] theorem State.modPins_power (f : Pins → Pins) : (s.modPins f).power = s.power := rfl
@[simp] theorem State.modPins_doms (f : Pins → Pins) : (s.modPins f).doms = s.doms := rfl
@[simp] theorem State.modPins_acc (f : Pins → Pins) : (s.modPins f).acc = s.acc := rfl
@[simp] theorem State.modPins_nv (f : Pins → Pins) : (s.modPins f).nv = s.nv := rfl
@[simp] theorem State.modPins_sec (f : Pins → Pins) : (s.modPins f).sec = s.sec := rfl
@[simp] theorem State.modPins_faults (f : Pins → Pins) : (s.modPins f).faults = s.faults := rfl
@[simp] theorem State.modPins_sil (f : Pins → Pins) : (s.modPins f).sil = s.sil := rfl
@[simp] theorem State.modPins_thermal (f : Pins → Pins) : (s.modPins f).thermal = s.thermal := rfl
@[simp] theorem State.modPins_nvme (f : Pins → Pins) : (s.modPins f).nvme = s.nvme := rfl
@[simp] theorem State.modPins_rings (f : Pins → Pins) : (s.modPins f).rings = s.rings := rfl
@[simp] theorem State.modPins_map (f : Pins → Pins) : (s.modPins f).map = s.map := rfl
@[simp] theorem State.modPins_helpers (f : Pins → Pins) : (s.modPins f).helpers = s.helpers := rfl
@[simp] theorem State.modPins_steward (f : Pins → Pins) : (s.modPins f).steward = s.steward := rfl
@[simp] theorem State.modPins_fabric (f : Pins → Pins) : (s.modPins f).fabric = s.fabric := rfl
@[simp] theorem State.modPins_mem (f : Pins → Pins) : (s.modPins f).mem = s.mem := rfl
@[simp] theorem State.modPins_cache (f : Pins → Pins) : (s.modPins f).cache = s.cache := rfl
@[simp] theorem State.modPins_movers (f : Pins → Pins) : (s.modPins f).movers = s.movers := rfl
@[simp] theorem State.modPins_spindle (f : Pins → Pins) : (s.modPins f).spindle = s.spindle := rfl
@[simp] theorem State.modPins_servo (f : Pins → Pins) : (s.modPins f).servo = s.servo := rfl
@[simp] theorem State.modPins_assist (f : Pins → Pins) : (s.modPins f).assist = s.assist := rfl
@[simp] theorem State.modPins_lanes (f : Pins → Pins) : (s.modPins f).lanes = s.lanes := rfl
@[simp] theorem State.modPins_decode (f : Pins → Pins) : (s.modPins f).decode = s.decode := rfl
@[simp] theorem State.modPins_cal (f : Pins → Pins) : (s.modPins f).cal = s.cal := rfl
@[simp] theorem State.modPins_tier (f : Pins → Pins) : (s.modPins f).tier = s.tier := rfl
@[simp] theorem State.modPins_pool (f : Pins → Pins) : (s.modPins f).pool = s.pool := rfl
@[simp] theorem State.modPins_eb (f : Pins → Pins) : (s.modPins f).eb = s.eb := rfl
@[simp] theorem State.modPins_freeIdx (f : Pins → Pins) : (s.modPins f).freeIdx = s.freeIdx := rfl
@[simp] theorem State.modPins_readOut (f : Pins → Pins) : (s.modPins f).readOut = s.readOut := rfl
@[simp] theorem State.modPins_reg (f : Pins → Pins) (x : Nat) : (s.modPins f).reg x = s.reg x := rfl
@[simp] theorem State.modPins_fld (f : Pins → Pins) (x : Fld) : (s.modPins f).fld x = s.fld x := rfl
@[simp] theorem State.modPins_bit (f : Pins → Pins) (x : Fld) : (s.modPins f).bit x = s.bit x := rfl

/-! #### modSec -/
@[simp] theorem State.modSec_pending (f : SecSt → SecSt) : (s.modSec f).pending = s.pending := rfl
@[simp] theorem State.modSec_tick (f : SecSt → SecSt) : (s.modSec f).tick = s.tick := rfl
@[simp] theorem State.modSec_regs (f : SecSt → SecSt) : (s.modSec f).regs = s.regs := rfl
@[simp] theorem State.modSec_tickMem (f : SecSt → SecSt) : (s.modSec f).tickMem = s.tickMem := rfl
@[simp] theorem State.modSec_recorded (f : SecSt → SecSt) : (s.modSec f).recorded = s.recorded := rfl
@[simp] theorem State.modSec_pins (f : SecSt → SecSt) : (s.modSec f).pins = s.pins := rfl
@[simp] theorem State.modSec_power (f : SecSt → SecSt) : (s.modSec f).power = s.power := rfl
@[simp] theorem State.modSec_doms (f : SecSt → SecSt) : (s.modSec f).doms = s.doms := rfl
@[simp] theorem State.modSec_acc (f : SecSt → SecSt) : (s.modSec f).acc = s.acc := rfl
@[simp] theorem State.modSec_nv (f : SecSt → SecSt) : (s.modSec f).nv = s.nv := rfl
@[simp] theorem State.modSec_sec (f : SecSt → SecSt) : (s.modSec f).sec = f s.sec := rfl
@[simp] theorem State.modSec_faults (f : SecSt → SecSt) : (s.modSec f).faults = s.faults := rfl
@[simp] theorem State.modSec_sil (f : SecSt → SecSt) : (s.modSec f).sil = s.sil := rfl
@[simp] theorem State.modSec_thermal (f : SecSt → SecSt) : (s.modSec f).thermal = s.thermal := rfl
@[simp] theorem State.modSec_nvme (f : SecSt → SecSt) : (s.modSec f).nvme = s.nvme := rfl
@[simp] theorem State.modSec_rings (f : SecSt → SecSt) : (s.modSec f).rings = s.rings := rfl
@[simp] theorem State.modSec_map (f : SecSt → SecSt) : (s.modSec f).map = s.map := rfl
@[simp] theorem State.modSec_helpers (f : SecSt → SecSt) : (s.modSec f).helpers = s.helpers := rfl
@[simp] theorem State.modSec_steward (f : SecSt → SecSt) : (s.modSec f).steward = s.steward := rfl
@[simp] theorem State.modSec_fabric (f : SecSt → SecSt) : (s.modSec f).fabric = s.fabric := rfl
@[simp] theorem State.modSec_mem (f : SecSt → SecSt) : (s.modSec f).mem = s.mem := rfl
@[simp] theorem State.modSec_cache (f : SecSt → SecSt) : (s.modSec f).cache = s.cache := rfl
@[simp] theorem State.modSec_movers (f : SecSt → SecSt) : (s.modSec f).movers = s.movers := rfl
@[simp] theorem State.modSec_spindle (f : SecSt → SecSt) : (s.modSec f).spindle = s.spindle := rfl
@[simp] theorem State.modSec_servo (f : SecSt → SecSt) : (s.modSec f).servo = s.servo := rfl
@[simp] theorem State.modSec_assist (f : SecSt → SecSt) : (s.modSec f).assist = s.assist := rfl
@[simp] theorem State.modSec_lanes (f : SecSt → SecSt) : (s.modSec f).lanes = s.lanes := rfl
@[simp] theorem State.modSec_decode (f : SecSt → SecSt) : (s.modSec f).decode = s.decode := rfl
@[simp] theorem State.modSec_cal (f : SecSt → SecSt) : (s.modSec f).cal = s.cal := rfl
@[simp] theorem State.modSec_tier (f : SecSt → SecSt) : (s.modSec f).tier = s.tier := rfl
@[simp] theorem State.modSec_pool (f : SecSt → SecSt) : (s.modSec f).pool = s.pool := rfl
@[simp] theorem State.modSec_eb (f : SecSt → SecSt) : (s.modSec f).eb = s.eb := rfl
@[simp] theorem State.modSec_freeIdx (f : SecSt → SecSt) : (s.modSec f).freeIdx = s.freeIdx := rfl
@[simp] theorem State.modSec_readOut (f : SecSt → SecSt) : (s.modSec f).readOut = s.readOut := rfl
@[simp] theorem State.modSec_reg (f : SecSt → SecSt) (x : Nat) : (s.modSec f).reg x = s.reg x := rfl
@[simp] theorem State.modSec_fld (f : SecSt → SecSt) (x : Fld) : (s.modSec f).fld x = s.fld x := rfl
@[simp] theorem State.modSec_bit (f : SecSt → SecSt) (x : Fld) : (s.modSec f).bit x = s.bit x := rfl

/-! #### modSp -/
@[simp] theorem State.modSp_pending (f : SpindleSt → SpindleSt) : (s.modSp f).pending = s.pending := rfl
@[simp] theorem State.modSp_tick (f : SpindleSt → SpindleSt) : (s.modSp f).tick = s.tick := rfl
@[simp] theorem State.modSp_regs (f : SpindleSt → SpindleSt) : (s.modSp f).regs = s.regs := rfl
@[simp] theorem State.modSp_tickMem (f : SpindleSt → SpindleSt) : (s.modSp f).tickMem = s.tickMem := rfl
@[simp] theorem State.modSp_recorded (f : SpindleSt → SpindleSt) : (s.modSp f).recorded = s.recorded := rfl
@[simp] theorem State.modSp_pins (f : SpindleSt → SpindleSt) : (s.modSp f).pins = s.pins := rfl
@[simp] theorem State.modSp_power (f : SpindleSt → SpindleSt) : (s.modSp f).power = s.power := rfl
@[simp] theorem State.modSp_doms (f : SpindleSt → SpindleSt) : (s.modSp f).doms = s.doms := rfl
@[simp] theorem State.modSp_acc (f : SpindleSt → SpindleSt) : (s.modSp f).acc = s.acc := rfl
@[simp] theorem State.modSp_nv (f : SpindleSt → SpindleSt) : (s.modSp f).nv = s.nv := rfl
@[simp] theorem State.modSp_sec (f : SpindleSt → SpindleSt) : (s.modSp f).sec = s.sec := rfl
@[simp] theorem State.modSp_faults (f : SpindleSt → SpindleSt) : (s.modSp f).faults = s.faults := rfl
@[simp] theorem State.modSp_sil (f : SpindleSt → SpindleSt) : (s.modSp f).sil = s.sil := rfl
@[simp] theorem State.modSp_thermal (f : SpindleSt → SpindleSt) : (s.modSp f).thermal = s.thermal := rfl
@[simp] theorem State.modSp_nvme (f : SpindleSt → SpindleSt) : (s.modSp f).nvme = s.nvme := rfl
@[simp] theorem State.modSp_rings (f : SpindleSt → SpindleSt) : (s.modSp f).rings = s.rings := rfl
@[simp] theorem State.modSp_map (f : SpindleSt → SpindleSt) : (s.modSp f).map = s.map := rfl
@[simp] theorem State.modSp_helpers (f : SpindleSt → SpindleSt) : (s.modSp f).helpers = s.helpers := rfl
@[simp] theorem State.modSp_steward (f : SpindleSt → SpindleSt) : (s.modSp f).steward = s.steward := rfl
@[simp] theorem State.modSp_fabric (f : SpindleSt → SpindleSt) : (s.modSp f).fabric = s.fabric := rfl
@[simp] theorem State.modSp_mem (f : SpindleSt → SpindleSt) : (s.modSp f).mem = s.mem := rfl
@[simp] theorem State.modSp_cache (f : SpindleSt → SpindleSt) : (s.modSp f).cache = s.cache := rfl
@[simp] theorem State.modSp_movers (f : SpindleSt → SpindleSt) : (s.modSp f).movers = s.movers := rfl
@[simp] theorem State.modSp_spindle (f : SpindleSt → SpindleSt) : (s.modSp f).spindle = f s.spindle := rfl
@[simp] theorem State.modSp_servo (f : SpindleSt → SpindleSt) : (s.modSp f).servo = s.servo := rfl
@[simp] theorem State.modSp_assist (f : SpindleSt → SpindleSt) : (s.modSp f).assist = s.assist := rfl
@[simp] theorem State.modSp_lanes (f : SpindleSt → SpindleSt) : (s.modSp f).lanes = s.lanes := rfl
@[simp] theorem State.modSp_decode (f : SpindleSt → SpindleSt) : (s.modSp f).decode = s.decode := rfl
@[simp] theorem State.modSp_cal (f : SpindleSt → SpindleSt) : (s.modSp f).cal = s.cal := rfl
@[simp] theorem State.modSp_tier (f : SpindleSt → SpindleSt) : (s.modSp f).tier = s.tier := rfl
@[simp] theorem State.modSp_pool (f : SpindleSt → SpindleSt) : (s.modSp f).pool = s.pool := rfl
@[simp] theorem State.modSp_eb (f : SpindleSt → SpindleSt) : (s.modSp f).eb = s.eb := rfl
@[simp] theorem State.modSp_freeIdx (f : SpindleSt → SpindleSt) : (s.modSp f).freeIdx = s.freeIdx := rfl
@[simp] theorem State.modSp_readOut (f : SpindleSt → SpindleSt) : (s.modSp f).readOut = s.readOut := rfl
@[simp] theorem State.modSp_reg (f : SpindleSt → SpindleSt) (x : Nat) : (s.modSp f).reg x = s.reg x := rfl
@[simp] theorem State.modSp_fld (f : SpindleSt → SpindleSt) (x : Fld) : (s.modSp f).fld x = s.fld x := rfl
@[simp] theorem State.modSp_bit (f : SpindleSt → SpindleSt) (x : Fld) : (s.modSp f).bit x = s.bit x := rfl

/-! #### modMap -/
@[simp] theorem State.modMap_pending (f : MapSt → MapSt) : (s.modMap f).pending = s.pending := rfl
@[simp] theorem State.modMap_tick (f : MapSt → MapSt) : (s.modMap f).tick = s.tick := rfl
@[simp] theorem State.modMap_regs (f : MapSt → MapSt) : (s.modMap f).regs = s.regs := rfl
@[simp] theorem State.modMap_tickMem (f : MapSt → MapSt) : (s.modMap f).tickMem = s.tickMem := rfl
@[simp] theorem State.modMap_recorded (f : MapSt → MapSt) : (s.modMap f).recorded = s.recorded := rfl
@[simp] theorem State.modMap_pins (f : MapSt → MapSt) : (s.modMap f).pins = s.pins := rfl
@[simp] theorem State.modMap_power (f : MapSt → MapSt) : (s.modMap f).power = s.power := rfl
@[simp] theorem State.modMap_doms (f : MapSt → MapSt) : (s.modMap f).doms = s.doms := rfl
@[simp] theorem State.modMap_acc (f : MapSt → MapSt) : (s.modMap f).acc = s.acc := rfl
@[simp] theorem State.modMap_nv (f : MapSt → MapSt) : (s.modMap f).nv = s.nv := rfl
@[simp] theorem State.modMap_sec (f : MapSt → MapSt) : (s.modMap f).sec = s.sec := rfl
@[simp] theorem State.modMap_faults (f : MapSt → MapSt) : (s.modMap f).faults = s.faults := rfl
@[simp] theorem State.modMap_sil (f : MapSt → MapSt) : (s.modMap f).sil = s.sil := rfl
@[simp] theorem State.modMap_thermal (f : MapSt → MapSt) : (s.modMap f).thermal = s.thermal := rfl
@[simp] theorem State.modMap_nvme (f : MapSt → MapSt) : (s.modMap f).nvme = s.nvme := rfl
@[simp] theorem State.modMap_rings (f : MapSt → MapSt) : (s.modMap f).rings = s.rings := rfl
@[simp] theorem State.modMap_map (f : MapSt → MapSt) : (s.modMap f).map = f s.map := rfl
@[simp] theorem State.modMap_helpers (f : MapSt → MapSt) : (s.modMap f).helpers = s.helpers := rfl
@[simp] theorem State.modMap_steward (f : MapSt → MapSt) : (s.modMap f).steward = s.steward := rfl
@[simp] theorem State.modMap_fabric (f : MapSt → MapSt) : (s.modMap f).fabric = s.fabric := rfl
@[simp] theorem State.modMap_mem (f : MapSt → MapSt) : (s.modMap f).mem = s.mem := rfl
@[simp] theorem State.modMap_cache (f : MapSt → MapSt) : (s.modMap f).cache = s.cache := rfl
@[simp] theorem State.modMap_movers (f : MapSt → MapSt) : (s.modMap f).movers = s.movers := rfl
@[simp] theorem State.modMap_spindle (f : MapSt → MapSt) : (s.modMap f).spindle = s.spindle := rfl
@[simp] theorem State.modMap_servo (f : MapSt → MapSt) : (s.modMap f).servo = s.servo := rfl
@[simp] theorem State.modMap_assist (f : MapSt → MapSt) : (s.modMap f).assist = s.assist := rfl
@[simp] theorem State.modMap_lanes (f : MapSt → MapSt) : (s.modMap f).lanes = s.lanes := rfl
@[simp] theorem State.modMap_decode (f : MapSt → MapSt) : (s.modMap f).decode = s.decode := rfl
@[simp] theorem State.modMap_cal (f : MapSt → MapSt) : (s.modMap f).cal = s.cal := rfl
@[simp] theorem State.modMap_tier (f : MapSt → MapSt) : (s.modMap f).tier = s.tier := rfl
@[simp] theorem State.modMap_pool (f : MapSt → MapSt) : (s.modMap f).pool = s.pool := rfl
@[simp] theorem State.modMap_eb (f : MapSt → MapSt) : (s.modMap f).eb = s.eb := rfl
@[simp] theorem State.modMap_freeIdx (f : MapSt → MapSt) : (s.modMap f).freeIdx = s.freeIdx := rfl
@[simp] theorem State.modMap_readOut (f : MapSt → MapSt) : (s.modMap f).readOut = s.readOut := rfl
@[simp] theorem State.modMap_reg (f : MapSt → MapSt) (x : Nat) : (s.modMap f).reg x = s.reg x := rfl
@[simp] theorem State.modMap_fld (f : MapSt → MapSt) (x : Fld) : (s.modMap f).fld x = s.fld x := rfl
@[simp] theorem State.modMap_bit (f : MapSt → MapSt) (x : Fld) : (s.modMap f).bit x = s.bit x := rfl

/-! #### modSteward -/
@[simp] theorem State.modSteward_pending (f : StewardSt → StewardSt) : (s.modSteward f).pending = s.pending := rfl
@[simp] theorem State.modSteward_tick (f : StewardSt → StewardSt) : (s.modSteward f).tick = s.tick := rfl
@[simp] theorem State.modSteward_regs (f : StewardSt → StewardSt) : (s.modSteward f).regs = s.regs := rfl
@[simp] theorem State.modSteward_tickMem (f : StewardSt → StewardSt) : (s.modSteward f).tickMem = s.tickMem := rfl
@[simp] theorem State.modSteward_recorded (f : StewardSt → StewardSt) : (s.modSteward f).recorded = s.recorded := rfl
@[simp] theorem State.modSteward_pins (f : StewardSt → StewardSt) : (s.modSteward f).pins = s.pins := rfl
@[simp] theorem State.modSteward_power (f : StewardSt → StewardSt) : (s.modSteward f).power = s.power := rfl
@[simp] theorem State.modSteward_doms (f : StewardSt → StewardSt) : (s.modSteward f).doms = s.doms := rfl
@[simp] theorem State.modSteward_acc (f : StewardSt → StewardSt) : (s.modSteward f).acc = s.acc := rfl
@[simp] theorem State.modSteward_nv (f : StewardSt → StewardSt) : (s.modSteward f).nv = s.nv := rfl
@[simp] theorem State.modSteward_sec (f : StewardSt → StewardSt) : (s.modSteward f).sec = s.sec := rfl
@[simp] theorem State.modSteward_faults (f : StewardSt → StewardSt) : (s.modSteward f).faults = s.faults := rfl
@[simp] theorem State.modSteward_sil (f : StewardSt → StewardSt) : (s.modSteward f).sil = s.sil := rfl
@[simp] theorem State.modSteward_thermal (f : StewardSt → StewardSt) : (s.modSteward f).thermal = s.thermal := rfl
@[simp] theorem State.modSteward_nvme (f : StewardSt → StewardSt) : (s.modSteward f).nvme = s.nvme := rfl
@[simp] theorem State.modSteward_rings (f : StewardSt → StewardSt) : (s.modSteward f).rings = s.rings := rfl
@[simp] theorem State.modSteward_map (f : StewardSt → StewardSt) : (s.modSteward f).map = s.map := rfl
@[simp] theorem State.modSteward_helpers (f : StewardSt → StewardSt) : (s.modSteward f).helpers = s.helpers := rfl
@[simp] theorem State.modSteward_steward (f : StewardSt → StewardSt) : (s.modSteward f).steward = f s.steward := rfl
@[simp] theorem State.modSteward_fabric (f : StewardSt → StewardSt) : (s.modSteward f).fabric = s.fabric := rfl
@[simp] theorem State.modSteward_mem (f : StewardSt → StewardSt) : (s.modSteward f).mem = s.mem := rfl
@[simp] theorem State.modSteward_cache (f : StewardSt → StewardSt) : (s.modSteward f).cache = s.cache := rfl
@[simp] theorem State.modSteward_movers (f : StewardSt → StewardSt) : (s.modSteward f).movers = s.movers := rfl
@[simp] theorem State.modSteward_spindle (f : StewardSt → StewardSt) : (s.modSteward f).spindle = s.spindle := rfl
@[simp] theorem State.modSteward_servo (f : StewardSt → StewardSt) : (s.modSteward f).servo = s.servo := rfl
@[simp] theorem State.modSteward_assist (f : StewardSt → StewardSt) : (s.modSteward f).assist = s.assist := rfl
@[simp] theorem State.modSteward_lanes (f : StewardSt → StewardSt) : (s.modSteward f).lanes = s.lanes := rfl
@[simp] theorem State.modSteward_decode (f : StewardSt → StewardSt) : (s.modSteward f).decode = s.decode := rfl
@[simp] theorem State.modSteward_cal (f : StewardSt → StewardSt) : (s.modSteward f).cal = s.cal := rfl
@[simp] theorem State.modSteward_tier (f : StewardSt → StewardSt) : (s.modSteward f).tier = s.tier := rfl
@[simp] theorem State.modSteward_pool (f : StewardSt → StewardSt) : (s.modSteward f).pool = s.pool := rfl
@[simp] theorem State.modSteward_eb (f : StewardSt → StewardSt) : (s.modSteward f).eb = s.eb := rfl
@[simp] theorem State.modSteward_freeIdx (f : StewardSt → StewardSt) : (s.modSteward f).freeIdx = s.freeIdx := rfl
@[simp] theorem State.modSteward_readOut (f : StewardSt → StewardSt) : (s.modSteward f).readOut = s.readOut := rfl
@[simp] theorem State.modSteward_reg (f : StewardSt → StewardSt) (x : Nat) : (s.modSteward f).reg x = s.reg x := rfl
@[simp] theorem State.modSteward_fld (f : StewardSt → StewardSt) (x : Fld) : (s.modSteward f).fld x = s.fld x := rfl
@[simp] theorem State.modSteward_bit (f : StewardSt → StewardSt) (x : Fld) : (s.modSteward f).bit x = s.bit x := rfl

/-! #### modMem -/
@[simp] theorem State.modMem_pending (f : MemSt → MemSt) : (s.modMem f).pending = s.pending := rfl
@[simp] theorem State.modMem_tick (f : MemSt → MemSt) : (s.modMem f).tick = s.tick := rfl
@[simp] theorem State.modMem_regs (f : MemSt → MemSt) : (s.modMem f).regs = s.regs := rfl
@[simp] theorem State.modMem_tickMem (f : MemSt → MemSt) : (s.modMem f).tickMem = s.tickMem := rfl
@[simp] theorem State.modMem_recorded (f : MemSt → MemSt) : (s.modMem f).recorded = s.recorded := rfl
@[simp] theorem State.modMem_pins (f : MemSt → MemSt) : (s.modMem f).pins = s.pins := rfl
@[simp] theorem State.modMem_power (f : MemSt → MemSt) : (s.modMem f).power = s.power := rfl
@[simp] theorem State.modMem_doms (f : MemSt → MemSt) : (s.modMem f).doms = s.doms := rfl
@[simp] theorem State.modMem_acc (f : MemSt → MemSt) : (s.modMem f).acc = s.acc := rfl
@[simp] theorem State.modMem_nv (f : MemSt → MemSt) : (s.modMem f).nv = s.nv := rfl
@[simp] theorem State.modMem_sec (f : MemSt → MemSt) : (s.modMem f).sec = s.sec := rfl
@[simp] theorem State.modMem_faults (f : MemSt → MemSt) : (s.modMem f).faults = s.faults := rfl
@[simp] theorem State.modMem_sil (f : MemSt → MemSt) : (s.modMem f).sil = s.sil := rfl
@[simp] theorem State.modMem_thermal (f : MemSt → MemSt) : (s.modMem f).thermal = s.thermal := rfl
@[simp] theorem State.modMem_nvme (f : MemSt → MemSt) : (s.modMem f).nvme = s.nvme := rfl
@[simp] theorem State.modMem_rings (f : MemSt → MemSt) : (s.modMem f).rings = s.rings := rfl
@[simp] theorem State.modMem_map (f : MemSt → MemSt) : (s.modMem f).map = s.map := rfl
@[simp] theorem State.modMem_helpers (f : MemSt → MemSt) : (s.modMem f).helpers = s.helpers := rfl
@[simp] theorem State.modMem_steward (f : MemSt → MemSt) : (s.modMem f).steward = s.steward := rfl
@[simp] theorem State.modMem_fabric (f : MemSt → MemSt) : (s.modMem f).fabric = s.fabric := rfl
@[simp] theorem State.modMem_mem (f : MemSt → MemSt) : (s.modMem f).mem = f s.mem := rfl
@[simp] theorem State.modMem_cache (f : MemSt → MemSt) : (s.modMem f).cache = s.cache := rfl
@[simp] theorem State.modMem_movers (f : MemSt → MemSt) : (s.modMem f).movers = s.movers := rfl
@[simp] theorem State.modMem_spindle (f : MemSt → MemSt) : (s.modMem f).spindle = s.spindle := rfl
@[simp] theorem State.modMem_servo (f : MemSt → MemSt) : (s.modMem f).servo = s.servo := rfl
@[simp] theorem State.modMem_assist (f : MemSt → MemSt) : (s.modMem f).assist = s.assist := rfl
@[simp] theorem State.modMem_lanes (f : MemSt → MemSt) : (s.modMem f).lanes = s.lanes := rfl
@[simp] theorem State.modMem_decode (f : MemSt → MemSt) : (s.modMem f).decode = s.decode := rfl
@[simp] theorem State.modMem_cal (f : MemSt → MemSt) : (s.modMem f).cal = s.cal := rfl
@[simp] theorem State.modMem_tier (f : MemSt → MemSt) : (s.modMem f).tier = s.tier := rfl
@[simp] theorem State.modMem_pool (f : MemSt → MemSt) : (s.modMem f).pool = s.pool := rfl
@[simp] theorem State.modMem_eb (f : MemSt → MemSt) : (s.modMem f).eb = s.eb := rfl
@[simp] theorem State.modMem_freeIdx (f : MemSt → MemSt) : (s.modMem f).freeIdx = s.freeIdx := rfl
@[simp] theorem State.modMem_readOut (f : MemSt → MemSt) : (s.modMem f).readOut = s.readOut := rfl
@[simp] theorem State.modMem_reg (f : MemSt → MemSt) (x : Nat) : (s.modMem f).reg x = s.reg x := rfl
@[simp] theorem State.modMem_fld (f : MemSt → MemSt) (x : Fld) : (s.modMem f).fld x = s.fld x := rfl
@[simp] theorem State.modMem_bit (f : MemSt → MemSt) (x : Fld) : (s.modMem f).bit x = s.bit x := rfl

/-! #### modCache -/
@[simp] theorem State.modCache_pending (f : CacheSt → CacheSt) : (s.modCache f).pending = s.pending := rfl
@[simp] theorem State.modCache_tick (f : CacheSt → CacheSt) : (s.modCache f).tick = s.tick := rfl
@[simp] theorem State.modCache_regs (f : CacheSt → CacheSt) : (s.modCache f).regs = s.regs := rfl
@[simp] theorem State.modCache_tickMem (f : CacheSt → CacheSt) : (s.modCache f).tickMem = s.tickMem := rfl
@[simp] theorem State.modCache_recorded (f : CacheSt → CacheSt) : (s.modCache f).recorded = s.recorded := rfl
@[simp] theorem State.modCache_pins (f : CacheSt → CacheSt) : (s.modCache f).pins = s.pins := rfl
@[simp] theorem State.modCache_power (f : CacheSt → CacheSt) : (s.modCache f).power = s.power := rfl
@[simp] theorem State.modCache_doms (f : CacheSt → CacheSt) : (s.modCache f).doms = s.doms := rfl
@[simp] theorem State.modCache_acc (f : CacheSt → CacheSt) : (s.modCache f).acc = s.acc := rfl
@[simp] theorem State.modCache_nv (f : CacheSt → CacheSt) : (s.modCache f).nv = s.nv := rfl
@[simp] theorem State.modCache_sec (f : CacheSt → CacheSt) : (s.modCache f).sec = s.sec := rfl
@[simp] theorem State.modCache_faults (f : CacheSt → CacheSt) : (s.modCache f).faults = s.faults := rfl
@[simp] theorem State.modCache_sil (f : CacheSt → CacheSt) : (s.modCache f).sil = s.sil := rfl
@[simp] theorem State.modCache_thermal (f : CacheSt → CacheSt) : (s.modCache f).thermal = s.thermal := rfl
@[simp] theorem State.modCache_nvme (f : CacheSt → CacheSt) : (s.modCache f).nvme = s.nvme := rfl
@[simp] theorem State.modCache_rings (f : CacheSt → CacheSt) : (s.modCache f).rings = s.rings := rfl
@[simp] theorem State.modCache_map (f : CacheSt → CacheSt) : (s.modCache f).map = s.map := rfl
@[simp] theorem State.modCache_helpers (f : CacheSt → CacheSt) : (s.modCache f).helpers = s.helpers := rfl
@[simp] theorem State.modCache_steward (f : CacheSt → CacheSt) : (s.modCache f).steward = s.steward := rfl
@[simp] theorem State.modCache_fabric (f : CacheSt → CacheSt) : (s.modCache f).fabric = s.fabric := rfl
@[simp] theorem State.modCache_mem (f : CacheSt → CacheSt) : (s.modCache f).mem = s.mem := rfl
@[simp] theorem State.modCache_cache (f : CacheSt → CacheSt) : (s.modCache f).cache = f s.cache := rfl
@[simp] theorem State.modCache_movers (f : CacheSt → CacheSt) : (s.modCache f).movers = s.movers := rfl
@[simp] theorem State.modCache_spindle (f : CacheSt → CacheSt) : (s.modCache f).spindle = s.spindle := rfl
@[simp] theorem State.modCache_servo (f : CacheSt → CacheSt) : (s.modCache f).servo = s.servo := rfl
@[simp] theorem State.modCache_assist (f : CacheSt → CacheSt) : (s.modCache f).assist = s.assist := rfl
@[simp] theorem State.modCache_lanes (f : CacheSt → CacheSt) : (s.modCache f).lanes = s.lanes := rfl
@[simp] theorem State.modCache_decode (f : CacheSt → CacheSt) : (s.modCache f).decode = s.decode := rfl
@[simp] theorem State.modCache_cal (f : CacheSt → CacheSt) : (s.modCache f).cal = s.cal := rfl
@[simp] theorem State.modCache_tier (f : CacheSt → CacheSt) : (s.modCache f).tier = s.tier := rfl
@[simp] theorem State.modCache_pool (f : CacheSt → CacheSt) : (s.modCache f).pool = s.pool := rfl
@[simp] theorem State.modCache_eb (f : CacheSt → CacheSt) : (s.modCache f).eb = s.eb := rfl
@[simp] theorem State.modCache_freeIdx (f : CacheSt → CacheSt) : (s.modCache f).freeIdx = s.freeIdx := rfl
@[simp] theorem State.modCache_readOut (f : CacheSt → CacheSt) : (s.modCache f).readOut = s.readOut := rfl
@[simp] theorem State.modCache_reg (f : CacheSt → CacheSt) (x : Nat) : (s.modCache f).reg x = s.reg x := rfl
@[simp] theorem State.modCache_fld (f : CacheSt → CacheSt) (x : Fld) : (s.modCache f).fld x = s.fld x := rfl
@[simp] theorem State.modCache_bit (f : CacheSt → CacheSt) (x : Fld) : (s.modCache f).bit x = s.bit x := rfl

/-! #### modDecode -/
@[simp] theorem State.modDecode_pending (f : DecodeSt → DecodeSt) : (s.modDecode f).pending = s.pending := rfl
@[simp] theorem State.modDecode_tick (f : DecodeSt → DecodeSt) : (s.modDecode f).tick = s.tick := rfl
@[simp] theorem State.modDecode_regs (f : DecodeSt → DecodeSt) : (s.modDecode f).regs = s.regs := rfl
@[simp] theorem State.modDecode_tickMem (f : DecodeSt → DecodeSt) : (s.modDecode f).tickMem = s.tickMem := rfl
@[simp] theorem State.modDecode_recorded (f : DecodeSt → DecodeSt) : (s.modDecode f).recorded = s.recorded := rfl
@[simp] theorem State.modDecode_pins (f : DecodeSt → DecodeSt) : (s.modDecode f).pins = s.pins := rfl
@[simp] theorem State.modDecode_power (f : DecodeSt → DecodeSt) : (s.modDecode f).power = s.power := rfl
@[simp] theorem State.modDecode_doms (f : DecodeSt → DecodeSt) : (s.modDecode f).doms = s.doms := rfl
@[simp] theorem State.modDecode_acc (f : DecodeSt → DecodeSt) : (s.modDecode f).acc = s.acc := rfl
@[simp] theorem State.modDecode_nv (f : DecodeSt → DecodeSt) : (s.modDecode f).nv = s.nv := rfl
@[simp] theorem State.modDecode_sec (f : DecodeSt → DecodeSt) : (s.modDecode f).sec = s.sec := rfl
@[simp] theorem State.modDecode_faults (f : DecodeSt → DecodeSt) : (s.modDecode f).faults = s.faults := rfl
@[simp] theorem State.modDecode_sil (f : DecodeSt → DecodeSt) : (s.modDecode f).sil = s.sil := rfl
@[simp] theorem State.modDecode_thermal (f : DecodeSt → DecodeSt) : (s.modDecode f).thermal = s.thermal := rfl
@[simp] theorem State.modDecode_nvme (f : DecodeSt → DecodeSt) : (s.modDecode f).nvme = s.nvme := rfl
@[simp] theorem State.modDecode_rings (f : DecodeSt → DecodeSt) : (s.modDecode f).rings = s.rings := rfl
@[simp] theorem State.modDecode_map (f : DecodeSt → DecodeSt) : (s.modDecode f).map = s.map := rfl
@[simp] theorem State.modDecode_helpers (f : DecodeSt → DecodeSt) : (s.modDecode f).helpers = s.helpers := rfl
@[simp] theorem State.modDecode_steward (f : DecodeSt → DecodeSt) : (s.modDecode f).steward = s.steward := rfl
@[simp] theorem State.modDecode_fabric (f : DecodeSt → DecodeSt) : (s.modDecode f).fabric = s.fabric := rfl
@[simp] theorem State.modDecode_mem (f : DecodeSt → DecodeSt) : (s.modDecode f).mem = s.mem := rfl
@[simp] theorem State.modDecode_cache (f : DecodeSt → DecodeSt) : (s.modDecode f).cache = s.cache := rfl
@[simp] theorem State.modDecode_movers (f : DecodeSt → DecodeSt) : (s.modDecode f).movers = s.movers := rfl
@[simp] theorem State.modDecode_spindle (f : DecodeSt → DecodeSt) : (s.modDecode f).spindle = s.spindle := rfl
@[simp] theorem State.modDecode_servo (f : DecodeSt → DecodeSt) : (s.modDecode f).servo = s.servo := rfl
@[simp] theorem State.modDecode_assist (f : DecodeSt → DecodeSt) : (s.modDecode f).assist = s.assist := rfl
@[simp] theorem State.modDecode_lanes (f : DecodeSt → DecodeSt) : (s.modDecode f).lanes = s.lanes := rfl
@[simp] theorem State.modDecode_decode (f : DecodeSt → DecodeSt) : (s.modDecode f).decode = f s.decode := rfl
@[simp] theorem State.modDecode_cal (f : DecodeSt → DecodeSt) : (s.modDecode f).cal = s.cal := rfl
@[simp] theorem State.modDecode_tier (f : DecodeSt → DecodeSt) : (s.modDecode f).tier = s.tier := rfl
@[simp] theorem State.modDecode_pool (f : DecodeSt → DecodeSt) : (s.modDecode f).pool = s.pool := rfl
@[simp] theorem State.modDecode_eb (f : DecodeSt → DecodeSt) : (s.modDecode f).eb = s.eb := rfl
@[simp] theorem State.modDecode_freeIdx (f : DecodeSt → DecodeSt) : (s.modDecode f).freeIdx = s.freeIdx := rfl
@[simp] theorem State.modDecode_readOut (f : DecodeSt → DecodeSt) : (s.modDecode f).readOut = s.readOut := rfl
@[simp] theorem State.modDecode_reg (f : DecodeSt → DecodeSt) (x : Nat) : (s.modDecode f).reg x = s.reg x := rfl
@[simp] theorem State.modDecode_fld (f : DecodeSt → DecodeSt) (x : Fld) : (s.modDecode f).fld x = s.fld x := rfl
@[simp] theorem State.modDecode_bit (f : DecodeSt → DecodeSt) (x : Fld) : (s.modDecode f).bit x = s.bit x := rfl

/-! #### modCal -/
@[simp] theorem State.modCal_pending (f : CalSt → CalSt) : (s.modCal f).pending = s.pending := rfl
@[simp] theorem State.modCal_tick (f : CalSt → CalSt) : (s.modCal f).tick = s.tick := rfl
@[simp] theorem State.modCal_regs (f : CalSt → CalSt) : (s.modCal f).regs = s.regs := rfl
@[simp] theorem State.modCal_tickMem (f : CalSt → CalSt) : (s.modCal f).tickMem = s.tickMem := rfl
@[simp] theorem State.modCal_recorded (f : CalSt → CalSt) : (s.modCal f).recorded = s.recorded := rfl
@[simp] theorem State.modCal_pins (f : CalSt → CalSt) : (s.modCal f).pins = s.pins := rfl
@[simp] theorem State.modCal_power (f : CalSt → CalSt) : (s.modCal f).power = s.power := rfl
@[simp] theorem State.modCal_doms (f : CalSt → CalSt) : (s.modCal f).doms = s.doms := rfl
@[simp] theorem State.modCal_acc (f : CalSt → CalSt) : (s.modCal f).acc = s.acc := rfl
@[simp] theorem State.modCal_nv (f : CalSt → CalSt) : (s.modCal f).nv = s.nv := rfl
@[simp] theorem State.modCal_sec (f : CalSt → CalSt) : (s.modCal f).sec = s.sec := rfl
@[simp] theorem State.modCal_faults (f : CalSt → CalSt) : (s.modCal f).faults = s.faults := rfl
@[simp] theorem State.modCal_sil (f : CalSt → CalSt) : (s.modCal f).sil = s.sil := rfl
@[simp] theorem State.modCal_thermal (f : CalSt → CalSt) : (s.modCal f).thermal = s.thermal := rfl
@[simp] theorem State.modCal_nvme (f : CalSt → CalSt) : (s.modCal f).nvme = s.nvme := rfl
@[simp] theorem State.modCal_rings (f : CalSt → CalSt) : (s.modCal f).rings = s.rings := rfl
@[simp] theorem State.modCal_map (f : CalSt → CalSt) : (s.modCal f).map = s.map := rfl
@[simp] theorem State.modCal_helpers (f : CalSt → CalSt) : (s.modCal f).helpers = s.helpers := rfl
@[simp] theorem State.modCal_steward (f : CalSt → CalSt) : (s.modCal f).steward = s.steward := rfl
@[simp] theorem State.modCal_fabric (f : CalSt → CalSt) : (s.modCal f).fabric = s.fabric := rfl
@[simp] theorem State.modCal_mem (f : CalSt → CalSt) : (s.modCal f).mem = s.mem := rfl
@[simp] theorem State.modCal_cache (f : CalSt → CalSt) : (s.modCal f).cache = s.cache := rfl
@[simp] theorem State.modCal_movers (f : CalSt → CalSt) : (s.modCal f).movers = s.movers := rfl
@[simp] theorem State.modCal_spindle (f : CalSt → CalSt) : (s.modCal f).spindle = s.spindle := rfl
@[simp] theorem State.modCal_servo (f : CalSt → CalSt) : (s.modCal f).servo = s.servo := rfl
@[simp] theorem State.modCal_assist (f : CalSt → CalSt) : (s.modCal f).assist = s.assist := rfl
@[simp] theorem State.modCal_lanes (f : CalSt → CalSt) : (s.modCal f).lanes = s.lanes := rfl
@[simp] theorem State.modCal_decode (f : CalSt → CalSt) : (s.modCal f).decode = s.decode := rfl
@[simp] theorem State.modCal_cal (f : CalSt → CalSt) : (s.modCal f).cal = f s.cal := rfl
@[simp] theorem State.modCal_tier (f : CalSt → CalSt) : (s.modCal f).tier = s.tier := rfl
@[simp] theorem State.modCal_pool (f : CalSt → CalSt) : (s.modCal f).pool = s.pool := rfl
@[simp] theorem State.modCal_eb (f : CalSt → CalSt) : (s.modCal f).eb = s.eb := rfl
@[simp] theorem State.modCal_freeIdx (f : CalSt → CalSt) : (s.modCal f).freeIdx = s.freeIdx := rfl
@[simp] theorem State.modCal_readOut (f : CalSt → CalSt) : (s.modCal f).readOut = s.readOut := rfl
@[simp] theorem State.modCal_reg (f : CalSt → CalSt) (x : Nat) : (s.modCal f).reg x = s.reg x := rfl
@[simp] theorem State.modCal_fld (f : CalSt → CalSt) (x : Fld) : (s.modCal f).fld x = s.fld x := rfl
@[simp] theorem State.modCal_bit (f : CalSt → CalSt) (x : Fld) : (s.modCal f).bit x = s.bit x := rfl

/-! #### modLanes -/
@[simp] theorem State.modLanes_pending (f : LanesSt → LanesSt) : (s.modLanes f).pending = s.pending := rfl
@[simp] theorem State.modLanes_tick (f : LanesSt → LanesSt) : (s.modLanes f).tick = s.tick := rfl
@[simp] theorem State.modLanes_regs (f : LanesSt → LanesSt) : (s.modLanes f).regs = s.regs := rfl
@[simp] theorem State.modLanes_tickMem (f : LanesSt → LanesSt) : (s.modLanes f).tickMem = s.tickMem := rfl
@[simp] theorem State.modLanes_recorded (f : LanesSt → LanesSt) : (s.modLanes f).recorded = s.recorded := rfl
@[simp] theorem State.modLanes_pins (f : LanesSt → LanesSt) : (s.modLanes f).pins = s.pins := rfl
@[simp] theorem State.modLanes_power (f : LanesSt → LanesSt) : (s.modLanes f).power = s.power := rfl
@[simp] theorem State.modLanes_doms (f : LanesSt → LanesSt) : (s.modLanes f).doms = s.doms := rfl
@[simp] theorem State.modLanes_acc (f : LanesSt → LanesSt) : (s.modLanes f).acc = s.acc := rfl
@[simp] theorem State.modLanes_nv (f : LanesSt → LanesSt) : (s.modLanes f).nv = s.nv := rfl
@[simp] theorem State.modLanes_sec (f : LanesSt → LanesSt) : (s.modLanes f).sec = s.sec := rfl
@[simp] theorem State.modLanes_faults (f : LanesSt → LanesSt) : (s.modLanes f).faults = s.faults := rfl
@[simp] theorem State.modLanes_sil (f : LanesSt → LanesSt) : (s.modLanes f).sil = s.sil := rfl
@[simp] theorem State.modLanes_thermal (f : LanesSt → LanesSt) : (s.modLanes f).thermal = s.thermal := rfl
@[simp] theorem State.modLanes_nvme (f : LanesSt → LanesSt) : (s.modLanes f).nvme = s.nvme := rfl
@[simp] theorem State.modLanes_rings (f : LanesSt → LanesSt) : (s.modLanes f).rings = s.rings := rfl
@[simp] theorem State.modLanes_map (f : LanesSt → LanesSt) : (s.modLanes f).map = s.map := rfl
@[simp] theorem State.modLanes_helpers (f : LanesSt → LanesSt) : (s.modLanes f).helpers = s.helpers := rfl
@[simp] theorem State.modLanes_steward (f : LanesSt → LanesSt) : (s.modLanes f).steward = s.steward := rfl
@[simp] theorem State.modLanes_fabric (f : LanesSt → LanesSt) : (s.modLanes f).fabric = s.fabric := rfl
@[simp] theorem State.modLanes_mem (f : LanesSt → LanesSt) : (s.modLanes f).mem = s.mem := rfl
@[simp] theorem State.modLanes_cache (f : LanesSt → LanesSt) : (s.modLanes f).cache = s.cache := rfl
@[simp] theorem State.modLanes_movers (f : LanesSt → LanesSt) : (s.modLanes f).movers = s.movers := rfl
@[simp] theorem State.modLanes_spindle (f : LanesSt → LanesSt) : (s.modLanes f).spindle = s.spindle := rfl
@[simp] theorem State.modLanes_servo (f : LanesSt → LanesSt) : (s.modLanes f).servo = s.servo := rfl
@[simp] theorem State.modLanes_assist (f : LanesSt → LanesSt) : (s.modLanes f).assist = s.assist := rfl
@[simp] theorem State.modLanes_lanes (f : LanesSt → LanesSt) : (s.modLanes f).lanes = f s.lanes := rfl
@[simp] theorem State.modLanes_decode (f : LanesSt → LanesSt) : (s.modLanes f).decode = s.decode := rfl
@[simp] theorem State.modLanes_cal (f : LanesSt → LanesSt) : (s.modLanes f).cal = s.cal := rfl
@[simp] theorem State.modLanes_tier (f : LanesSt → LanesSt) : (s.modLanes f).tier = s.tier := rfl
@[simp] theorem State.modLanes_pool (f : LanesSt → LanesSt) : (s.modLanes f).pool = s.pool := rfl
@[simp] theorem State.modLanes_eb (f : LanesSt → LanesSt) : (s.modLanes f).eb = s.eb := rfl
@[simp] theorem State.modLanes_freeIdx (f : LanesSt → LanesSt) : (s.modLanes f).freeIdx = s.freeIdx := rfl
@[simp] theorem State.modLanes_readOut (f : LanesSt → LanesSt) : (s.modLanes f).readOut = s.readOut := rfl
@[simp] theorem State.modLanes_reg (f : LanesSt → LanesSt) (x : Nat) : (s.modLanes f).reg x = s.reg x := rfl
@[simp] theorem State.modLanes_fld (f : LanesSt → LanesSt) (x : Fld) : (s.modLanes f).fld x = s.fld x := rfl
@[simp] theorem State.modLanes_bit (f : LanesSt → LanesSt) (x : Fld) : (s.modLanes f).bit x = s.bit x := rfl

/-! #### modFabric -/
@[simp] theorem State.modFabric_pending (f : FabricSt → FabricSt) : (s.modFabric f).pending = s.pending := rfl
@[simp] theorem State.modFabric_tick (f : FabricSt → FabricSt) : (s.modFabric f).tick = s.tick := rfl
@[simp] theorem State.modFabric_regs (f : FabricSt → FabricSt) : (s.modFabric f).regs = s.regs := rfl
@[simp] theorem State.modFabric_tickMem (f : FabricSt → FabricSt) : (s.modFabric f).tickMem = s.tickMem := rfl
@[simp] theorem State.modFabric_recorded (f : FabricSt → FabricSt) : (s.modFabric f).recorded = s.recorded := rfl
@[simp] theorem State.modFabric_pins (f : FabricSt → FabricSt) : (s.modFabric f).pins = s.pins := rfl
@[simp] theorem State.modFabric_power (f : FabricSt → FabricSt) : (s.modFabric f).power = s.power := rfl
@[simp] theorem State.modFabric_doms (f : FabricSt → FabricSt) : (s.modFabric f).doms = s.doms := rfl
@[simp] theorem State.modFabric_acc (f : FabricSt → FabricSt) : (s.modFabric f).acc = s.acc := rfl
@[simp] theorem State.modFabric_nv (f : FabricSt → FabricSt) : (s.modFabric f).nv = s.nv := rfl
@[simp] theorem State.modFabric_sec (f : FabricSt → FabricSt) : (s.modFabric f).sec = s.sec := rfl
@[simp] theorem State.modFabric_faults (f : FabricSt → FabricSt) : (s.modFabric f).faults = s.faults := rfl
@[simp] theorem State.modFabric_sil (f : FabricSt → FabricSt) : (s.modFabric f).sil = s.sil := rfl
@[simp] theorem State.modFabric_thermal (f : FabricSt → FabricSt) : (s.modFabric f).thermal = s.thermal := rfl
@[simp] theorem State.modFabric_nvme (f : FabricSt → FabricSt) : (s.modFabric f).nvme = s.nvme := rfl
@[simp] theorem State.modFabric_rings (f : FabricSt → FabricSt) : (s.modFabric f).rings = s.rings := rfl
@[simp] theorem State.modFabric_map (f : FabricSt → FabricSt) : (s.modFabric f).map = s.map := rfl
@[simp] theorem State.modFabric_helpers (f : FabricSt → FabricSt) : (s.modFabric f).helpers = s.helpers := rfl
@[simp] theorem State.modFabric_steward (f : FabricSt → FabricSt) : (s.modFabric f).steward = s.steward := rfl
@[simp] theorem State.modFabric_fabric (f : FabricSt → FabricSt) : (s.modFabric f).fabric = f s.fabric := rfl
@[simp] theorem State.modFabric_mem (f : FabricSt → FabricSt) : (s.modFabric f).mem = s.mem := rfl
@[simp] theorem State.modFabric_cache (f : FabricSt → FabricSt) : (s.modFabric f).cache = s.cache := rfl
@[simp] theorem State.modFabric_movers (f : FabricSt → FabricSt) : (s.modFabric f).movers = s.movers := rfl
@[simp] theorem State.modFabric_spindle (f : FabricSt → FabricSt) : (s.modFabric f).spindle = s.spindle := rfl
@[simp] theorem State.modFabric_servo (f : FabricSt → FabricSt) : (s.modFabric f).servo = s.servo := rfl
@[simp] theorem State.modFabric_assist (f : FabricSt → FabricSt) : (s.modFabric f).assist = s.assist := rfl
@[simp] theorem State.modFabric_lanes (f : FabricSt → FabricSt) : (s.modFabric f).lanes = s.lanes := rfl
@[simp] theorem State.modFabric_decode (f : FabricSt → FabricSt) : (s.modFabric f).decode = s.decode := rfl
@[simp] theorem State.modFabric_cal (f : FabricSt → FabricSt) : (s.modFabric f).cal = s.cal := rfl
@[simp] theorem State.modFabric_tier (f : FabricSt → FabricSt) : (s.modFabric f).tier = s.tier := rfl
@[simp] theorem State.modFabric_pool (f : FabricSt → FabricSt) : (s.modFabric f).pool = s.pool := rfl
@[simp] theorem State.modFabric_eb (f : FabricSt → FabricSt) : (s.modFabric f).eb = s.eb := rfl
@[simp] theorem State.modFabric_freeIdx (f : FabricSt → FabricSt) : (s.modFabric f).freeIdx = s.freeIdx := rfl
@[simp] theorem State.modFabric_readOut (f : FabricSt → FabricSt) : (s.modFabric f).readOut = s.readOut := rfl
@[simp] theorem State.modFabric_reg (f : FabricSt → FabricSt) (x : Nat) : (s.modFabric f).reg x = s.reg x := rfl
@[simp] theorem State.modFabric_fld (f : FabricSt → FabricSt) (x : Fld) : (s.modFabric f).fld x = s.fld x := rfl
@[simp] theorem State.modFabric_bit (f : FabricSt → FabricSt) (x : Fld) : (s.modFabric f).bit x = s.bit x := rfl

/-! #### modAcc -/
@[simp] theorem State.modAcc_pending (f : AccordSt → AccordSt) : (s.modAcc f).pending = s.pending := rfl
@[simp] theorem State.modAcc_tick (f : AccordSt → AccordSt) : (s.modAcc f).tick = s.tick := rfl
@[simp] theorem State.modAcc_regs (f : AccordSt → AccordSt) : (s.modAcc f).regs = s.regs := rfl
@[simp] theorem State.modAcc_tickMem (f : AccordSt → AccordSt) : (s.modAcc f).tickMem = s.tickMem := rfl
@[simp] theorem State.modAcc_recorded (f : AccordSt → AccordSt) : (s.modAcc f).recorded = s.recorded := rfl
@[simp] theorem State.modAcc_pins (f : AccordSt → AccordSt) : (s.modAcc f).pins = s.pins := rfl
@[simp] theorem State.modAcc_power (f : AccordSt → AccordSt) : (s.modAcc f).power = s.power := rfl
@[simp] theorem State.modAcc_doms (f : AccordSt → AccordSt) : (s.modAcc f).doms = s.doms := rfl
@[simp] theorem State.modAcc_acc (f : AccordSt → AccordSt) : (s.modAcc f).acc = f s.acc := rfl
@[simp] theorem State.modAcc_nv (f : AccordSt → AccordSt) : (s.modAcc f).nv = s.nv := rfl
@[simp] theorem State.modAcc_sec (f : AccordSt → AccordSt) : (s.modAcc f).sec = s.sec := rfl
@[simp] theorem State.modAcc_faults (f : AccordSt → AccordSt) : (s.modAcc f).faults = s.faults := rfl
@[simp] theorem State.modAcc_sil (f : AccordSt → AccordSt) : (s.modAcc f).sil = s.sil := rfl
@[simp] theorem State.modAcc_thermal (f : AccordSt → AccordSt) : (s.modAcc f).thermal = s.thermal := rfl
@[simp] theorem State.modAcc_nvme (f : AccordSt → AccordSt) : (s.modAcc f).nvme = s.nvme := rfl
@[simp] theorem State.modAcc_rings (f : AccordSt → AccordSt) : (s.modAcc f).rings = s.rings := rfl
@[simp] theorem State.modAcc_map (f : AccordSt → AccordSt) : (s.modAcc f).map = s.map := rfl
@[simp] theorem State.modAcc_helpers (f : AccordSt → AccordSt) : (s.modAcc f).helpers = s.helpers := rfl
@[simp] theorem State.modAcc_steward (f : AccordSt → AccordSt) : (s.modAcc f).steward = s.steward := rfl
@[simp] theorem State.modAcc_fabric (f : AccordSt → AccordSt) : (s.modAcc f).fabric = s.fabric := rfl
@[simp] theorem State.modAcc_mem (f : AccordSt → AccordSt) : (s.modAcc f).mem = s.mem := rfl
@[simp] theorem State.modAcc_cache (f : AccordSt → AccordSt) : (s.modAcc f).cache = s.cache := rfl
@[simp] theorem State.modAcc_movers (f : AccordSt → AccordSt) : (s.modAcc f).movers = s.movers := rfl
@[simp] theorem State.modAcc_spindle (f : AccordSt → AccordSt) : (s.modAcc f).spindle = s.spindle := rfl
@[simp] theorem State.modAcc_servo (f : AccordSt → AccordSt) : (s.modAcc f).servo = s.servo := rfl
@[simp] theorem State.modAcc_assist (f : AccordSt → AccordSt) : (s.modAcc f).assist = s.assist := rfl
@[simp] theorem State.modAcc_lanes (f : AccordSt → AccordSt) : (s.modAcc f).lanes = s.lanes := rfl
@[simp] theorem State.modAcc_decode (f : AccordSt → AccordSt) : (s.modAcc f).decode = s.decode := rfl
@[simp] theorem State.modAcc_cal (f : AccordSt → AccordSt) : (s.modAcc f).cal = s.cal := rfl
@[simp] theorem State.modAcc_tier (f : AccordSt → AccordSt) : (s.modAcc f).tier = s.tier := rfl
@[simp] theorem State.modAcc_pool (f : AccordSt → AccordSt) : (s.modAcc f).pool = s.pool := rfl
@[simp] theorem State.modAcc_eb (f : AccordSt → AccordSt) : (s.modAcc f).eb = s.eb := rfl
@[simp] theorem State.modAcc_freeIdx (f : AccordSt → AccordSt) : (s.modAcc f).freeIdx = s.freeIdx := rfl
@[simp] theorem State.modAcc_readOut (f : AccordSt → AccordSt) : (s.modAcc f).readOut = s.readOut := rfl
@[simp] theorem State.modAcc_reg (f : AccordSt → AccordSt) (x : Nat) : (s.modAcc f).reg x = s.reg x := rfl
@[simp] theorem State.modAcc_fld (f : AccordSt → AccordSt) (x : Fld) : (s.modAcc f).fld x = s.fld x := rfl
@[simp] theorem State.modAcc_bit (f : AccordSt → AccordSt) (x : Fld) : (s.modAcc f).bit x = s.bit x := rfl

/-! #### modNv -/
@[simp] theorem State.modNv_pending (f : NonVol → NonVol) : (s.modNv f).pending = s.pending := rfl
@[simp] theorem State.modNv_tick (f : NonVol → NonVol) : (s.modNv f).tick = s.tick := rfl
@[simp] theorem State.modNv_regs (f : NonVol → NonVol) : (s.modNv f).regs = s.regs := rfl
@[simp] theorem State.modNv_tickMem (f : NonVol → NonVol) : (s.modNv f).tickMem = s.tickMem := rfl
@[simp] theorem State.modNv_recorded (f : NonVol → NonVol) : (s.modNv f).recorded = s.recorded := rfl
@[simp] theorem State.modNv_pins (f : NonVol → NonVol) : (s.modNv f).pins = s.pins := rfl
@[simp] theorem State.modNv_power (f : NonVol → NonVol) : (s.modNv f).power = s.power := rfl
@[simp] theorem State.modNv_doms (f : NonVol → NonVol) : (s.modNv f).doms = s.doms := rfl
@[simp] theorem State.modNv_acc (f : NonVol → NonVol) : (s.modNv f).acc = s.acc := rfl
@[simp] theorem State.modNv_nv (f : NonVol → NonVol) : (s.modNv f).nv = f s.nv := rfl
@[simp] theorem State.modNv_sec (f : NonVol → NonVol) : (s.modNv f).sec = s.sec := rfl
@[simp] theorem State.modNv_faults (f : NonVol → NonVol) : (s.modNv f).faults = s.faults := rfl
@[simp] theorem State.modNv_sil (f : NonVol → NonVol) : (s.modNv f).sil = s.sil := rfl
@[simp] theorem State.modNv_thermal (f : NonVol → NonVol) : (s.modNv f).thermal = s.thermal := rfl
@[simp] theorem State.modNv_nvme (f : NonVol → NonVol) : (s.modNv f).nvme = s.nvme := rfl
@[simp] theorem State.modNv_rings (f : NonVol → NonVol) : (s.modNv f).rings = s.rings := rfl
@[simp] theorem State.modNv_map (f : NonVol → NonVol) : (s.modNv f).map = s.map := rfl
@[simp] theorem State.modNv_helpers (f : NonVol → NonVol) : (s.modNv f).helpers = s.helpers := rfl
@[simp] theorem State.modNv_steward (f : NonVol → NonVol) : (s.modNv f).steward = s.steward := rfl
@[simp] theorem State.modNv_fabric (f : NonVol → NonVol) : (s.modNv f).fabric = s.fabric := rfl
@[simp] theorem State.modNv_mem (f : NonVol → NonVol) : (s.modNv f).mem = s.mem := rfl
@[simp] theorem State.modNv_cache (f : NonVol → NonVol) : (s.modNv f).cache = s.cache := rfl
@[simp] theorem State.modNv_movers (f : NonVol → NonVol) : (s.modNv f).movers = s.movers := rfl
@[simp] theorem State.modNv_spindle (f : NonVol → NonVol) : (s.modNv f).spindle = s.spindle := rfl
@[simp] theorem State.modNv_servo (f : NonVol → NonVol) : (s.modNv f).servo = s.servo := rfl
@[simp] theorem State.modNv_assist (f : NonVol → NonVol) : (s.modNv f).assist = s.assist := rfl
@[simp] theorem State.modNv_lanes (f : NonVol → NonVol) : (s.modNv f).lanes = s.lanes := rfl
@[simp] theorem State.modNv_decode (f : NonVol → NonVol) : (s.modNv f).decode = s.decode := rfl
@[simp] theorem State.modNv_cal (f : NonVol → NonVol) : (s.modNv f).cal = s.cal := rfl
@[simp] theorem State.modNv_tier (f : NonVol → NonVol) : (s.modNv f).tier = s.tier := rfl
@[simp] theorem State.modNv_pool (f : NonVol → NonVol) : (s.modNv f).pool = s.pool := rfl
@[simp] theorem State.modNv_eb (f : NonVol → NonVol) : (s.modNv f).eb = s.eb := rfl
@[simp] theorem State.modNv_freeIdx (f : NonVol → NonVol) : (s.modNv f).freeIdx = s.freeIdx := rfl
@[simp] theorem State.modNv_readOut (f : NonVol → NonVol) : (s.modNv f).readOut = s.readOut := rfl
@[simp] theorem State.modNv_reg (f : NonVol → NonVol) (x : Nat) : (s.modNv f).reg x = s.reg x := rfl
@[simp] theorem State.modNv_fld (f : NonVol → NonVol) (x : Fld) : (s.modNv f).fld x = s.fld x := rfl
@[simp] theorem State.modNv_bit (f : NonVol → NonVol) (x : Fld) : (s.modNv f).bit x = s.bit x := rfl

/-! #### modTier -/
@[simp] theorem State.modTier_pending (f : TierSt → TierSt) : (s.modTier f).pending = s.pending := rfl
@[simp] theorem State.modTier_tick (f : TierSt → TierSt) : (s.modTier f).tick = s.tick := rfl
@[simp] theorem State.modTier_regs (f : TierSt → TierSt) : (s.modTier f).regs = s.regs := rfl
@[simp] theorem State.modTier_tickMem (f : TierSt → TierSt) : (s.modTier f).tickMem = s.tickMem := rfl
@[simp] theorem State.modTier_recorded (f : TierSt → TierSt) : (s.modTier f).recorded = s.recorded := rfl
@[simp] theorem State.modTier_pins (f : TierSt → TierSt) : (s.modTier f).pins = s.pins := rfl
@[simp] theorem State.modTier_power (f : TierSt → TierSt) : (s.modTier f).power = s.power := rfl
@[simp] theorem State.modTier_doms (f : TierSt → TierSt) : (s.modTier f).doms = s.doms := rfl
@[simp] theorem State.modTier_acc (f : TierSt → TierSt) : (s.modTier f).acc = s.acc := rfl
@[simp] theorem State.modTier_nv (f : TierSt → TierSt) : (s.modTier f).nv = s.nv := rfl
@[simp] theorem State.modTier_sec (f : TierSt → TierSt) : (s.modTier f).sec = s.sec := rfl
@[simp] theorem State.modTier_faults (f : TierSt → TierSt) : (s.modTier f).faults = s.faults := rfl
@[simp] theorem State.modTier_sil (f : TierSt → TierSt) : (s.modTier f).sil = s.sil := rfl
@[simp] theorem State.modTier_thermal (f : TierSt → TierSt) : (s.modTier f).thermal = s.thermal := rfl
@[simp] theorem State.modTier_nvme (f : TierSt → TierSt) : (s.modTier f).nvme = s.nvme := rfl
@[simp] theorem State.modTier_rings (f : TierSt → TierSt) : (s.modTier f).rings = s.rings := rfl
@[simp] theorem State.modTier_map (f : TierSt → TierSt) : (s.modTier f).map = s.map := rfl
@[simp] theorem State.modTier_helpers (f : TierSt → TierSt) : (s.modTier f).helpers = s.helpers := rfl
@[simp] theorem State.modTier_steward (f : TierSt → TierSt) : (s.modTier f).steward = s.steward := rfl
@[simp] theorem State.modTier_fabric (f : TierSt → TierSt) : (s.modTier f).fabric = s.fabric := rfl
@[simp] theorem State.modTier_mem (f : TierSt → TierSt) : (s.modTier f).mem = s.mem := rfl
@[simp] theorem State.modTier_cache (f : TierSt → TierSt) : (s.modTier f).cache = s.cache := rfl
@[simp] theorem State.modTier_movers (f : TierSt → TierSt) : (s.modTier f).movers = s.movers := rfl
@[simp] theorem State.modTier_spindle (f : TierSt → TierSt) : (s.modTier f).spindle = s.spindle := rfl
@[simp] theorem State.modTier_servo (f : TierSt → TierSt) : (s.modTier f).servo = s.servo := rfl
@[simp] theorem State.modTier_assist (f : TierSt → TierSt) : (s.modTier f).assist = s.assist := rfl
@[simp] theorem State.modTier_lanes (f : TierSt → TierSt) : (s.modTier f).lanes = s.lanes := rfl
@[simp] theorem State.modTier_decode (f : TierSt → TierSt) : (s.modTier f).decode = s.decode := rfl
@[simp] theorem State.modTier_cal (f : TierSt → TierSt) : (s.modTier f).cal = s.cal := rfl
@[simp] theorem State.modTier_tier (f : TierSt → TierSt) : (s.modTier f).tier = f s.tier := rfl
@[simp] theorem State.modTier_pool (f : TierSt → TierSt) : (s.modTier f).pool = s.pool := rfl
@[simp] theorem State.modTier_eb (f : TierSt → TierSt) : (s.modTier f).eb = s.eb := rfl
@[simp] theorem State.modTier_freeIdx (f : TierSt → TierSt) : (s.modTier f).freeIdx = s.freeIdx := rfl
@[simp] theorem State.modTier_readOut (f : TierSt → TierSt) : (s.modTier f).readOut = s.readOut := rfl
@[simp] theorem State.modTier_reg (f : TierSt → TierSt) (x : Nat) : (s.modTier f).reg x = s.reg x := rfl
@[simp] theorem State.modTier_fld (f : TierSt → TierSt) (x : Fld) : (s.modTier f).fld x = s.fld x := rfl
@[simp] theorem State.modTier_bit (f : TierSt → TierSt) (x : Fld) : (s.modTier f).bit x = s.bit x := rfl

/-! #### modPool -/
@[simp] theorem State.modPool_pending (f : PoolSt → PoolSt) : (s.modPool f).pending = s.pending := rfl
@[simp] theorem State.modPool_tick (f : PoolSt → PoolSt) : (s.modPool f).tick = s.tick := rfl
@[simp] theorem State.modPool_regs (f : PoolSt → PoolSt) : (s.modPool f).regs = s.regs := rfl
@[simp] theorem State.modPool_tickMem (f : PoolSt → PoolSt) : (s.modPool f).tickMem = s.tickMem := rfl
@[simp] theorem State.modPool_recorded (f : PoolSt → PoolSt) : (s.modPool f).recorded = s.recorded := rfl
@[simp] theorem State.modPool_pins (f : PoolSt → PoolSt) : (s.modPool f).pins = s.pins := rfl
@[simp] theorem State.modPool_power (f : PoolSt → PoolSt) : (s.modPool f).power = s.power := rfl
@[simp] theorem State.modPool_doms (f : PoolSt → PoolSt) : (s.modPool f).doms = s.doms := rfl
@[simp] theorem State.modPool_acc (f : PoolSt → PoolSt) : (s.modPool f).acc = s.acc := rfl
@[simp] theorem State.modPool_nv (f : PoolSt → PoolSt) : (s.modPool f).nv = s.nv := rfl
@[simp] theorem State.modPool_sec (f : PoolSt → PoolSt) : (s.modPool f).sec = s.sec := rfl
@[simp] theorem State.modPool_faults (f : PoolSt → PoolSt) : (s.modPool f).faults = s.faults := rfl
@[simp] theorem State.modPool_sil (f : PoolSt → PoolSt) : (s.modPool f).sil = s.sil := rfl
@[simp] theorem State.modPool_thermal (f : PoolSt → PoolSt) : (s.modPool f).thermal = s.thermal := rfl
@[simp] theorem State.modPool_nvme (f : PoolSt → PoolSt) : (s.modPool f).nvme = s.nvme := rfl
@[simp] theorem State.modPool_rings (f : PoolSt → PoolSt) : (s.modPool f).rings = s.rings := rfl
@[simp] theorem State.modPool_map (f : PoolSt → PoolSt) : (s.modPool f).map = s.map := rfl
@[simp] theorem State.modPool_helpers (f : PoolSt → PoolSt) : (s.modPool f).helpers = s.helpers := rfl
@[simp] theorem State.modPool_steward (f : PoolSt → PoolSt) : (s.modPool f).steward = s.steward := rfl
@[simp] theorem State.modPool_fabric (f : PoolSt → PoolSt) : (s.modPool f).fabric = s.fabric := rfl
@[simp] theorem State.modPool_mem (f : PoolSt → PoolSt) : (s.modPool f).mem = s.mem := rfl
@[simp] theorem State.modPool_cache (f : PoolSt → PoolSt) : (s.modPool f).cache = s.cache := rfl
@[simp] theorem State.modPool_movers (f : PoolSt → PoolSt) : (s.modPool f).movers = s.movers := rfl
@[simp] theorem State.modPool_spindle (f : PoolSt → PoolSt) : (s.modPool f).spindle = s.spindle := rfl
@[simp] theorem State.modPool_servo (f : PoolSt → PoolSt) : (s.modPool f).servo = s.servo := rfl
@[simp] theorem State.modPool_assist (f : PoolSt → PoolSt) : (s.modPool f).assist = s.assist := rfl
@[simp] theorem State.modPool_lanes (f : PoolSt → PoolSt) : (s.modPool f).lanes = s.lanes := rfl
@[simp] theorem State.modPool_decode (f : PoolSt → PoolSt) : (s.modPool f).decode = s.decode := rfl
@[simp] theorem State.modPool_cal (f : PoolSt → PoolSt) : (s.modPool f).cal = s.cal := rfl
@[simp] theorem State.modPool_tier (f : PoolSt → PoolSt) : (s.modPool f).tier = s.tier := rfl
@[simp] theorem State.modPool_pool (f : PoolSt → PoolSt) : (s.modPool f).pool = f s.pool := rfl
@[simp] theorem State.modPool_eb (f : PoolSt → PoolSt) : (s.modPool f).eb = s.eb := rfl
@[simp] theorem State.modPool_freeIdx (f : PoolSt → PoolSt) : (s.modPool f).freeIdx = s.freeIdx := rfl
@[simp] theorem State.modPool_readOut (f : PoolSt → PoolSt) : (s.modPool f).readOut = s.readOut := rfl
@[simp] theorem State.modPool_reg (f : PoolSt → PoolSt) (x : Nat) : (s.modPool f).reg x = s.reg x := rfl
@[simp] theorem State.modPool_fld (f : PoolSt → PoolSt) (x : Fld) : (s.modPool f).fld x = s.fld x := rfl
@[simp] theorem State.modPool_bit (f : PoolSt → PoolSt) (x : Fld) : (s.modPool f).bit x = s.bit x := rfl

/-! #### modEb -/
@[simp] theorem State.modEb_pending (f : EbSt → EbSt) : (s.modEb f).pending = s.pending := rfl
@[simp] theorem State.modEb_tick (f : EbSt → EbSt) : (s.modEb f).tick = s.tick := rfl
@[simp] theorem State.modEb_regs (f : EbSt → EbSt) : (s.modEb f).regs = s.regs := rfl
@[simp] theorem State.modEb_tickMem (f : EbSt → EbSt) : (s.modEb f).tickMem = s.tickMem := rfl
@[simp] theorem State.modEb_recorded (f : EbSt → EbSt) : (s.modEb f).recorded = s.recorded := rfl
@[simp] theorem State.modEb_pins (f : EbSt → EbSt) : (s.modEb f).pins = s.pins := rfl
@[simp] theorem State.modEb_power (f : EbSt → EbSt) : (s.modEb f).power = s.power := rfl
@[simp] theorem State.modEb_doms (f : EbSt → EbSt) : (s.modEb f).doms = s.doms := rfl
@[simp] theorem State.modEb_acc (f : EbSt → EbSt) : (s.modEb f).acc = s.acc := rfl
@[simp] theorem State.modEb_nv (f : EbSt → EbSt) : (s.modEb f).nv = s.nv := rfl
@[simp] theorem State.modEb_sec (f : EbSt → EbSt) : (s.modEb f).sec = s.sec := rfl
@[simp] theorem State.modEb_faults (f : EbSt → EbSt) : (s.modEb f).faults = s.faults := rfl
@[simp] theorem State.modEb_sil (f : EbSt → EbSt) : (s.modEb f).sil = s.sil := rfl
@[simp] theorem State.modEb_thermal (f : EbSt → EbSt) : (s.modEb f).thermal = s.thermal := rfl
@[simp] theorem State.modEb_nvme (f : EbSt → EbSt) : (s.modEb f).nvme = s.nvme := rfl
@[simp] theorem State.modEb_rings (f : EbSt → EbSt) : (s.modEb f).rings = s.rings := rfl
@[simp] theorem State.modEb_map (f : EbSt → EbSt) : (s.modEb f).map = s.map := rfl
@[simp] theorem State.modEb_helpers (f : EbSt → EbSt) : (s.modEb f).helpers = s.helpers := rfl
@[simp] theorem State.modEb_steward (f : EbSt → EbSt) : (s.modEb f).steward = s.steward := rfl
@[simp] theorem State.modEb_fabric (f : EbSt → EbSt) : (s.modEb f).fabric = s.fabric := rfl
@[simp] theorem State.modEb_mem (f : EbSt → EbSt) : (s.modEb f).mem = s.mem := rfl
@[simp] theorem State.modEb_cache (f : EbSt → EbSt) : (s.modEb f).cache = s.cache := rfl
@[simp] theorem State.modEb_movers (f : EbSt → EbSt) : (s.modEb f).movers = s.movers := rfl
@[simp] theorem State.modEb_spindle (f : EbSt → EbSt) : (s.modEb f).spindle = s.spindle := rfl
@[simp] theorem State.modEb_servo (f : EbSt → EbSt) : (s.modEb f).servo = s.servo := rfl
@[simp] theorem State.modEb_assist (f : EbSt → EbSt) : (s.modEb f).assist = s.assist := rfl
@[simp] theorem State.modEb_lanes (f : EbSt → EbSt) : (s.modEb f).lanes = s.lanes := rfl
@[simp] theorem State.modEb_decode (f : EbSt → EbSt) : (s.modEb f).decode = s.decode := rfl
@[simp] theorem State.modEb_cal (f : EbSt → EbSt) : (s.modEb f).cal = s.cal := rfl
@[simp] theorem State.modEb_tier (f : EbSt → EbSt) : (s.modEb f).tier = s.tier := rfl
@[simp] theorem State.modEb_pool (f : EbSt → EbSt) : (s.modEb f).pool = s.pool := rfl
@[simp] theorem State.modEb_eb (f : EbSt → EbSt) : (s.modEb f).eb = f s.eb := rfl
@[simp] theorem State.modEb_freeIdx (f : EbSt → EbSt) : (s.modEb f).freeIdx = s.freeIdx := rfl
@[simp] theorem State.modEb_readOut (f : EbSt → EbSt) : (s.modEb f).readOut = s.readOut := rfl
@[simp] theorem State.modEb_reg (f : EbSt → EbSt) (x : Nat) : (s.modEb f).reg x = s.reg x := rfl
@[simp] theorem State.modEb_fld (f : EbSt → EbSt) (x : Fld) : (s.modEb f).fld x = s.fld x := rfl
@[simp] theorem State.modEb_bit (f : EbSt → EbSt) (x : Fld) : (s.modEb f).bit x = s.bit x := rfl

/-! #### modFlashAccord -/
@[simp] theorem State.modFlashAccord_pending (k : Nat) (f : FlashSlot → FlashSlot) : (s.modFlashAccord k f).pending = s.pending := rfl
@[simp] theorem State.modFlashAccord_tick (k : Nat) (f : FlashSlot → FlashSlot) : (s.modFlashAccord k f).tick = s.tick := rfl
@[simp] theorem State.modFlashAccord_regs (k : Nat) (f : FlashSlot → FlashSlot) : (s.modFlashAccord k f).regs = s.regs := rfl
@[simp] theorem State.modFlashAccord_tickMem (k : Nat) (f : FlashSlot → FlashSlot) : (s.modFlashAccord k f).tickMem = s.tickMem := rfl
@[simp] theorem State.modFlashAccord_recorded (k : Nat) (f : FlashSlot → FlashSlot) : (s.modFlashAccord k f).recorded = s.recorded := rfl
@[simp] theorem State.modFlashAccord_pins (k : Nat) (f : FlashSlot → FlashSlot) : (s.modFlashAccord k f).pins = s.pins := rfl
@[simp] theorem State.modFlashAccord_power (k : Nat) (f : FlashSlot → FlashSlot) : (s.modFlashAccord k f).power = s.power := rfl
@[simp] theorem State.modFlashAccord_doms (k : Nat) (f : FlashSlot → FlashSlot) : (s.modFlashAccord k f).doms = s.doms := rfl
@[simp] theorem State.modFlashAccord_acc (k : Nat) (f : FlashSlot → FlashSlot) : (s.modFlashAccord k f).acc = s.acc := rfl
@[simp] theorem State.modFlashAccord_sec (k : Nat) (f : FlashSlot → FlashSlot) : (s.modFlashAccord k f).sec = s.sec := rfl
@[simp] theorem State.modFlashAccord_faults (k : Nat) (f : FlashSlot → FlashSlot) : (s.modFlashAccord k f).faults = s.faults := rfl
@[simp] theorem State.modFlashAccord_sil (k : Nat) (f : FlashSlot → FlashSlot) : (s.modFlashAccord k f).sil = s.sil := rfl
@[simp] theorem State.modFlashAccord_thermal (k : Nat) (f : FlashSlot → FlashSlot) : (s.modFlashAccord k f).thermal = s.thermal := rfl
@[simp] theorem State.modFlashAccord_nvme (k : Nat) (f : FlashSlot → FlashSlot) : (s.modFlashAccord k f).nvme = s.nvme := rfl
@[simp] theorem State.modFlashAccord_rings (k : Nat) (f : FlashSlot → FlashSlot) : (s.modFlashAccord k f).rings = s.rings := rfl
@[simp] theorem State.modFlashAccord_map (k : Nat) (f : FlashSlot → FlashSlot) : (s.modFlashAccord k f).map = s.map := rfl
@[simp] theorem State.modFlashAccord_helpers (k : Nat) (f : FlashSlot → FlashSlot) : (s.modFlashAccord k f).helpers = s.helpers := rfl
@[simp] theorem State.modFlashAccord_steward (k : Nat) (f : FlashSlot → FlashSlot) : (s.modFlashAccord k f).steward = s.steward := rfl
@[simp] theorem State.modFlashAccord_fabric (k : Nat) (f : FlashSlot → FlashSlot) : (s.modFlashAccord k f).fabric = s.fabric := rfl
@[simp] theorem State.modFlashAccord_mem (k : Nat) (f : FlashSlot → FlashSlot) : (s.modFlashAccord k f).mem = s.mem := rfl
@[simp] theorem State.modFlashAccord_cache (k : Nat) (f : FlashSlot → FlashSlot) : (s.modFlashAccord k f).cache = s.cache := rfl
@[simp] theorem State.modFlashAccord_movers (k : Nat) (f : FlashSlot → FlashSlot) : (s.modFlashAccord k f).movers = s.movers := rfl
@[simp] theorem State.modFlashAccord_spindle (k : Nat) (f : FlashSlot → FlashSlot) : (s.modFlashAccord k f).spindle = s.spindle := rfl
@[simp] theorem State.modFlashAccord_servo (k : Nat) (f : FlashSlot → FlashSlot) : (s.modFlashAccord k f).servo = s.servo := rfl
@[simp] theorem State.modFlashAccord_assist (k : Nat) (f : FlashSlot → FlashSlot) : (s.modFlashAccord k f).assist = s.assist := rfl
@[simp] theorem State.modFlashAccord_lanes (k : Nat) (f : FlashSlot → FlashSlot) : (s.modFlashAccord k f).lanes = s.lanes := rfl
@[simp] theorem State.modFlashAccord_decode (k : Nat) (f : FlashSlot → FlashSlot) : (s.modFlashAccord k f).decode = s.decode := rfl
@[simp] theorem State.modFlashAccord_cal (k : Nat) (f : FlashSlot → FlashSlot) : (s.modFlashAccord k f).cal = s.cal := rfl
@[simp] theorem State.modFlashAccord_tier (k : Nat) (f : FlashSlot → FlashSlot) : (s.modFlashAccord k f).tier = s.tier := rfl
@[simp] theorem State.modFlashAccord_pool (k : Nat) (f : FlashSlot → FlashSlot) : (s.modFlashAccord k f).pool = s.pool := rfl
@[simp] theorem State.modFlashAccord_eb (k : Nat) (f : FlashSlot → FlashSlot) : (s.modFlashAccord k f).eb = s.eb := rfl
@[simp] theorem State.modFlashAccord_freeIdx (k : Nat) (f : FlashSlot → FlashSlot) : (s.modFlashAccord k f).freeIdx = s.freeIdx := rfl
@[simp] theorem State.modFlashAccord_readOut (k : Nat) (f : FlashSlot → FlashSlot) : (s.modFlashAccord k f).readOut = s.readOut := rfl
@[simp] theorem State.modFlashAccord_reg (k : Nat) (f : FlashSlot → FlashSlot) (x : Nat) : (s.modFlashAccord k f).reg x = s.reg x := rfl
@[simp] theorem State.modFlashAccord_fld (k : Nat) (f : FlashSlot → FlashSlot) (x : Fld) : (s.modFlashAccord k f).fld x = s.fld x := rfl
@[simp] theorem State.modFlashAccord_bit (k : Nat) (f : FlashSlot → FlashSlot) (x : Fld) : (s.modFlashAccord k f).bit x = s.bit x := rfl

/-! #### modFlashPatch -/
@[simp] theorem State.modFlashPatch_pending (k : Nat) (f : FlashSlot → FlashSlot) : (s.modFlashPatch k f).pending = s.pending := rfl
@[simp] theorem State.modFlashPatch_tick (k : Nat) (f : FlashSlot → FlashSlot) : (s.modFlashPatch k f).tick = s.tick := rfl
@[simp] theorem State.modFlashPatch_regs (k : Nat) (f : FlashSlot → FlashSlot) : (s.modFlashPatch k f).regs = s.regs := rfl
@[simp] theorem State.modFlashPatch_tickMem (k : Nat) (f : FlashSlot → FlashSlot) : (s.modFlashPatch k f).tickMem = s.tickMem := rfl
@[simp] theorem State.modFlashPatch_recorded (k : Nat) (f : FlashSlot → FlashSlot) : (s.modFlashPatch k f).recorded = s.recorded := rfl
@[simp] theorem State.modFlashPatch_pins (k : Nat) (f : FlashSlot → FlashSlot) : (s.modFlashPatch k f).pins = s.pins := rfl
@[simp] theorem State.modFlashPatch_power (k : Nat) (f : FlashSlot → FlashSlot) : (s.modFlashPatch k f).power = s.power := rfl
@[simp] theorem State.modFlashPatch_doms (k : Nat) (f : FlashSlot → FlashSlot) : (s.modFlashPatch k f).doms = s.doms := rfl
@[simp] theorem State.modFlashPatch_acc (k : Nat) (f : FlashSlot → FlashSlot) : (s.modFlashPatch k f).acc = s.acc := rfl
@[simp] theorem State.modFlashPatch_sec (k : Nat) (f : FlashSlot → FlashSlot) : (s.modFlashPatch k f).sec = s.sec := rfl
@[simp] theorem State.modFlashPatch_faults (k : Nat) (f : FlashSlot → FlashSlot) : (s.modFlashPatch k f).faults = s.faults := rfl
@[simp] theorem State.modFlashPatch_sil (k : Nat) (f : FlashSlot → FlashSlot) : (s.modFlashPatch k f).sil = s.sil := rfl
@[simp] theorem State.modFlashPatch_thermal (k : Nat) (f : FlashSlot → FlashSlot) : (s.modFlashPatch k f).thermal = s.thermal := rfl
@[simp] theorem State.modFlashPatch_nvme (k : Nat) (f : FlashSlot → FlashSlot) : (s.modFlashPatch k f).nvme = s.nvme := rfl
@[simp] theorem State.modFlashPatch_rings (k : Nat) (f : FlashSlot → FlashSlot) : (s.modFlashPatch k f).rings = s.rings := rfl
@[simp] theorem State.modFlashPatch_map (k : Nat) (f : FlashSlot → FlashSlot) : (s.modFlashPatch k f).map = s.map := rfl
@[simp] theorem State.modFlashPatch_helpers (k : Nat) (f : FlashSlot → FlashSlot) : (s.modFlashPatch k f).helpers = s.helpers := rfl
@[simp] theorem State.modFlashPatch_steward (k : Nat) (f : FlashSlot → FlashSlot) : (s.modFlashPatch k f).steward = s.steward := rfl
@[simp] theorem State.modFlashPatch_fabric (k : Nat) (f : FlashSlot → FlashSlot) : (s.modFlashPatch k f).fabric = s.fabric := rfl
@[simp] theorem State.modFlashPatch_mem (k : Nat) (f : FlashSlot → FlashSlot) : (s.modFlashPatch k f).mem = s.mem := rfl
@[simp] theorem State.modFlashPatch_cache (k : Nat) (f : FlashSlot → FlashSlot) : (s.modFlashPatch k f).cache = s.cache := rfl
@[simp] theorem State.modFlashPatch_movers (k : Nat) (f : FlashSlot → FlashSlot) : (s.modFlashPatch k f).movers = s.movers := rfl
@[simp] theorem State.modFlashPatch_spindle (k : Nat) (f : FlashSlot → FlashSlot) : (s.modFlashPatch k f).spindle = s.spindle := rfl
@[simp] theorem State.modFlashPatch_servo (k : Nat) (f : FlashSlot → FlashSlot) : (s.modFlashPatch k f).servo = s.servo := rfl
@[simp] theorem State.modFlashPatch_assist (k : Nat) (f : FlashSlot → FlashSlot) : (s.modFlashPatch k f).assist = s.assist := rfl
@[simp] theorem State.modFlashPatch_lanes (k : Nat) (f : FlashSlot → FlashSlot) : (s.modFlashPatch k f).lanes = s.lanes := rfl
@[simp] theorem State.modFlashPatch_decode (k : Nat) (f : FlashSlot → FlashSlot) : (s.modFlashPatch k f).decode = s.decode := rfl
@[simp] theorem State.modFlashPatch_cal (k : Nat) (f : FlashSlot → FlashSlot) : (s.modFlashPatch k f).cal = s.cal := rfl
@[simp] theorem State.modFlashPatch_tier (k : Nat) (f : FlashSlot → FlashSlot) : (s.modFlashPatch k f).tier = s.tier := rfl
@[simp] theorem State.modFlashPatch_pool (k : Nat) (f : FlashSlot → FlashSlot) : (s.modFlashPatch k f).pool = s.pool := rfl
@[simp] theorem State.modFlashPatch_eb (k : Nat) (f : FlashSlot → FlashSlot) : (s.modFlashPatch k f).eb = s.eb := rfl
@[simp] theorem State.modFlashPatch_freeIdx (k : Nat) (f : FlashSlot → FlashSlot) : (s.modFlashPatch k f).freeIdx = s.freeIdx := rfl
@[simp] theorem State.modFlashPatch_readOut (k : Nat) (f : FlashSlot → FlashSlot) : (s.modFlashPatch k f).readOut = s.readOut := rfl
@[simp] theorem State.modFlashPatch_reg (k : Nat) (f : FlashSlot → FlashSlot) (x : Nat) : (s.modFlashPatch k f).reg x = s.reg x := rfl
@[simp] theorem State.modFlashPatch_fld (k : Nat) (f : FlashSlot → FlashSlot) (x : Fld) : (s.modFlashPatch k f).fld x = s.fld x := rfl
@[simp] theorem State.modFlashPatch_bit (k : Nat) (f : FlashSlot → FlashSlot) (x : Fld) : (s.modFlashPatch k f).bit x = s.bit x := rfl

end Sys2Proof.Machine
end

