-- ==== Sys2Proof/Laws/CanonBase.lean ====
section
/-! SUPPORT. Two things every command keeps: the canonical form of the stores, and the queue. `State.Ok p s` says that `s` has queue `p` and
canonical stores; each operation that the meanings are built from keeps it, and here stand the updates everything else is built from. -/
namespace Sys2Proof.Machine

/-- The state has queue `p` and canonical stores. -/
def State.Ok (p : List Instr) (s : State) : Prop := s.pending = p ∧ s.Canon

/-- A next state that has queue `p` and canonical stores. -/
def Outcome.Ok (p : List Instr) (o : Host.Outcome State Fault Refusal) : Prop := ∃ t, o = .next t ∧ State.Ok p t

theorem Outcome.ok_next {p : List Instr} {t : State} (h : State.Ok p t) : Outcome.Ok p (.next t) := ⟨t, rfl, h⟩

/-- A state that agrees on the queue and on the stores. -/
theorem State.ok_of_same {p : List Instr} {s t : State} (h1 : t.pending = s.pending) (h2 : t.regs = s.regs) (h3 : t.mem = s.mem)
    (h4 : t.rings.hostMem = s.rings.hostMem) (h5 : t.rings.hostMem1 = s.rings.hostMem1) (h : State.Ok p s) : State.Ok p t := by
  obtain ⟨a, b, c, d, e⟩ := h
  exact ⟨h1.trans a, h2 ▸ b, h3 ▸ c, h4 ▸ d, h5 ▸ e⟩

variable {p : List Instr} {s : State}

theorem State.setReg_ok (a : Nat) (w : Word32) (h : State.Ok p s) : State.Ok p (s.setReg a w) :=
  ⟨h.1, SMap.wf_set _ _ _ _ h.2.1, h.2.2⟩
theorem State.setFld_ok (f : Fld) (v : Nat) (h : State.Ok p s) : State.Ok p (s.setFld f v) := State.setReg_ok _ _ h
theorem State.noteSet_ok (f : Fld) (v : Nat) (h : State.Ok p s) : State.Ok p (s.noteSet f v) := h
theorem State.noteGain_ok (f : Fld) (v : Nat) (h : State.Ok p s) : State.Ok p (s.noteGain f v) := h
theorem State.setBit_ok (f : Fld) (h : State.Ok p s) : State.Ok p (s.setBit f) :=
  State.noteSet_ok _ _ (State.setFld_ok _ _ h)
theorem State.clrBit_ok (f : Fld) (h : State.Ok p s) : State.Ok p (s.clrBit f) := State.setFld_ok _ _ h
theorem State.addSat_ok (f : Fld) (n : Nat) (h : State.Ok p s) : State.Ok p (s.addSat f n) :=
  State.noteGain_ok _ _ (State.setFld_ok _ _ h)
theorem State.keepBest_ok (f : Fld) (best : Nat → Nat → Nat) (v : Nat) (h : State.Ok p s) : State.Ok p (s.keepBest f best v) :=
  State.noteSet_ok _ _ (State.noteGain_ok _ _ (State.setFld_ok _ _ h))
theorem State.bump_ok (f : Fld) (h : State.Ok p s) : State.Ok p (s.bump f) := State.addSat_ok _ _ h
theorem State.drawFree_ok (h : State.Ok p s) : State.Ok p s.drawFree := h
theorem State.setThen_ok (f : Fld) (v : Nat) (h : State.Ok p s) : State.Ok p (s.setThen f v) := h
theorem State.modHelper_ok (k : Nat) (f : Helper → Helper) (h : State.Ok p s) : State.Ok p (s.modHelper k f) := h
theorem State.modDom_ok (d : Dom) (f : DomSt → DomSt) (h : State.Ok p s) : State.Ok p (s.modDom d f) := by cases d <;> exact h
theorem State.modSv_ok (a : Act) (f : ServoSt → ServoSt) (h : State.Ok p s) : State.Ok p (s.modSv a f) := h
theorem State.modAs_ok (a : Act) (f : AssistSt → AssistSt) (h : State.Ok p s) : State.Ok p (s.modAs a f) := h
theorem State.modHead_ok (a : Act) (i : Nat) (f : HeadSt → HeadSt) (h : State.Ok p s) : State.Ok p (s.modHead a i f) := h
theorem State.modPlace_ok (a : Act) (i : Nat) (f : Place → Place) (h : State.Ok p s) : State.Ok p (s.modPlace a i f) := h
theorem State.modAslot_ok (a : Act) (i : Nat) (f : AssistSlot → AssistSlot) (h : State.Ok p s) : State.Ok p (s.modAslot a i f) := h
theorem State.modLane_ok (i : Nat) (f : LaneSt → LaneSt) (h : State.Ok p s) : State.Ok p (s.modLane i f) := h
theorem State.modSlot_ok (i : Nat) (f : SlotSt → SlotSt) (h : State.Ok p s) : State.Ok p (s.modSlot i f) := h
theorem State.modChan_ok (i : Nat) (f : Channel → Channel) (h : State.Ok p s) : State.Ok p (s.modChan i f) := h
theorem State.modRing_ok (i : Nat) (f : RingSt → RingSt) (h : State.Ok p s) : State.Ok p (s.modRing i f) := h
theorem State.modCtrl_ok (i : Nat) (f : Ctrl → Ctrl) (h : State.Ok p s) : State.Ok p (s.modCtrl i f) := h
theorem State.modNvme_ok (f : NvmeSt → NvmeSt) (h : State.Ok p s) : State.Ok p (s.modNvme f) := h
theorem State.modPower_ok (f : Power → Power) (h : State.Ok p s) : State.Ok p (s.modPower f) := h
theorem State.modPins_ok (f : Pins → Pins) (h : State.Ok p s) : State.Ok p (s.modPins f) := h
theorem State.modSec_ok (f : SecSt → SecSt) (h : State.Ok p s) : State.Ok p (s.modSec f) := h
theorem State.modSp_ok (f : SpindleSt → SpindleSt) (h : State.Ok p s) : State.Ok p (s.modSp f) := h
theorem State.modMap_ok (f : MapSt → MapSt) (h : State.Ok p s) : State.Ok p (s.modMap f) := h
theorem State.modSteward_ok (f : StewardSt → StewardSt) (h : State.Ok p s) : State.Ok p (s.modSteward f) := h
theorem State.modCache_ok (f : CacheSt → CacheSt) (h : State.Ok p s) : State.Ok p (s.modCache f) := h
theorem State.modDecode_ok (f : DecodeSt → DecodeSt) (h : State.Ok p s) : State.Ok p (s.modDecode f) := h
theorem State.modCal_ok (f : CalSt → CalSt) (h : State.Ok p s) : State.Ok p (s.modCal f) := h
theorem State.modLanes_ok (f : LanesSt → LanesSt) (h : State.Ok p s) : State.Ok p (s.modLanes f) := h
theorem State.modFabric_ok (f : FabricSt → FabricSt) (h : State.Ok p s) : State.Ok p (s.modFabric f) := h
theorem State.modAcc_ok (f : AccordSt → AccordSt) (h : State.Ok p s) : State.Ok p (s.modAcc f) := h
theorem State.modNv_ok (f : NonVol → NonVol) (h : State.Ok p s) : State.Ok p (s.modNv f) := h
theorem State.modTier_ok (f : TierSt → TierSt) (h : State.Ok p s) : State.Ok p (s.modTier f) := h
theorem State.modPool_ok (f : PoolSt → PoolSt) (h : State.Ok p s) : State.Ok p (s.modPool f) := h
theorem State.modEb_ok (f : EbSt → EbSt) (h : State.Ok p s) : State.Ok p (s.modEb f) := h
theorem State.modFlashAccord_ok (i : Nat) (f : FlashSlot → FlashSlot) (h : State.Ok p s) : State.Ok p (s.modFlashAccord i f) := h
theorem State.modFlashPatch_ok (i : Nat) (f : FlashSlot → FlashSlot) (h : State.Ok p s) : State.Ok p (s.modFlashPatch i f) := h

/-- An update of fields that are neither the queue nor a store. -/
theorem State.mk_ok {tick' tickMem' recorded' pins' power' doms' acc' nv' sec' faults' sil' thermal' nvme' map' helpers' steward' fabric' cache' movers' spindle' servo' assist' lanes' decode' cal' tier' pool' eb' freeIdx' readOut'} (h : State.Ok p s) :
    State.Ok p (State.mk s.pending tick' s.regs tickMem' recorded' pins' power' doms' acc' nv' sec' faults' sil' thermal' nvme' s.rings map' helpers' steward' fabric' s.mem cache' movers' spindle' servo' assist' lanes' decode' cal' tier' pool' eb' freeIdx' readOut') := h

theorem State.mk_rings_ok {rings' tick' tickMem' recorded' pins' power' doms' acc' nv' sec' faults' sil' thermal' nvme' map' helpers' steward' fabric' cache' movers' spindle' servo' assist' lanes' decode' cal' tier' pool' eb' freeIdx' readOut'} (h : State.Ok p s) (h1 : rings'.hostMem = s.rings.hostMem)
    (h2 : rings'.hostMem1 = s.rings.hostMem1) :
    State.Ok p (State.mk s.pending tick' s.regs tickMem' recorded' pins' power' doms' acc' nv' sec' faults' sil' thermal' nvme' rings' map' helpers' steward' fabric' s.mem cache' movers' spindle' servo' assist' lanes' decode' cal' tier' pool' eb' freeIdx' readOut') := State.ok_of_same (s := s) rfl rfl rfl h1 h2 h

theorem State.ite_ok {c : Prop} [Decidable c] {t u : State} (h1 : State.Ok p t) (h2 : State.Ok p u) : State.Ok p (if c then t else u) := by
  split
  · exact h1
  · exact h2

theorem State.fst_ok {β : Type} {t : State} {b : β} (h : State.Ok p t) : State.Ok p (t, b).1 := h
theorem State.snd_ok {β : Type} {t : State} {b : β} (h : State.Ok p t) : State.Ok p (b, t).2 := h

theorem State.ite_fst_ok {β : Type} {c : Prop} [Decidable c] {t u : State × β} (h1 : State.Ok p t.1) (h2 : State.Ok p u.1) :
    State.Ok p (if c then t else u).1 := by
  split
  · exact h1
  · exact h2

theorem State.ite_snd_ok {β : Type} {c : Prop} [Decidable c] {t u : β × State} (h1 : State.Ok p t.2) (h2 : State.Ok p u.2) :
    State.Ok p (if c then t else u).2 := by
  split
  · exact h1
  · exact h2

theorem State.foldl_fst_ok {α β : Type} (f : State × β → α → State × β) (l : List α) {a : State × β} (h : State.Ok p a.1)
    (hf : ∀ r, State.Ok p r.1 → ∀ x, State.Ok p (f r x).1) : State.Ok p (l.foldl f a).1 := by
  induction l generalizing a with
  | nil => exact h
  | cons x l ih => exact ih (hf a h x)

theorem State.when_ok (b : Bool) (f : State → State) (h : State.Ok p s) (hf : ∀ t, State.Ok p t → State.Ok p (f t)) :
    State.Ok p (s.when b f) := by
  unfold State.when
  split
  · exact hf s h
  · exact h

theorem State.foldl_ok {α : Type} (f : State → α → State) (l : List α) (h : State.Ok p s)
    (hf : ∀ t, State.Ok p t → ∀ x, State.Ok p (f t x)) : State.Ok p (l.foldl f s) := by
  induction l generalizing s with
  | nil => exact h
  | cons x l ih => exact ih (hf s h x)

theorem State.whileLive_ok (f : State → State) (h : State.Ok p s) (hf : ∀ t, State.Ok p t → State.Ok p (f t)) : State.Ok p (s.whileLive f) := by
  unfold State.whileLive
  split
  · exact hf s h
  · exact h

theorem State.each_ok {α : Type} (l : List α) (f : State → α → State) (h : State.Ok p s)
    (hf : ∀ t, State.Ok p t → ∀ x, State.Ok p (f t x)) : State.Ok p (s.each l f) := State.foldl_ok f l h hf

theorem State.onSome_ok {α : Type} (o : Option α) (f : State → α → State) (h : State.Ok p s)
    (hf : ∀ t, State.Ok p t → ∀ x, State.Ok p (f t x)) : State.Ok p (s.onSome o f) := by
  cases o with
  | none => exact h
  | some x => exact hf s h x

/-- An update of the memory block beside its stores. -/
theorem State.modMem_ok (f : MemSt → MemSt) (hf : ∀ m, (f m).hbm = m.hbm ∧ (f m).mram = m.mram ∧ (f m).ssram = m.ssram ∧ (f m).pad = m.pad)
    (h : State.Ok p s) : State.Ok p (s.modMem f) := by
  obtain ⟨a, b, c, d⟩ := h
  obtain ⟨h1, h2, h3, h4⟩ := hf s.mem
  exact ⟨a, b, by simpa only [State.modMem, MemSt.wf, h1, h2, h3, h4] using c, d⟩

/-- An update of the rings beside host memory. -/
theorem State.modRings_ok (f : RingsSt → RingsSt) (hf : ∀ r, (f r).hostMem = r.hostMem ∧ (f r).hostMem1 = r.hostMem1)
    (h : State.Ok p s) : State.Ok p (s.modRings f) :=
  State.ok_of_same (s := s) rfl rfl rfl (hf _).1 (hf _).2 h

theorem State.modMem_wf_ok (f : MemSt → MemSt) (hf : ∀ m : MemSt, m.wf = true → (f m).wf = true) (h : State.Ok p s) : State.Ok p (s.modMem f) :=
  ⟨h.1, h.2.1, hf _ h.2.2.1, h.2.2.2⟩

theorem MemSt.wf_pad (m : MemSt) (i : Nat) (c : Code80) (h : m.wf = true) :
    ({ m with pad := SMap.set (fun _ => unwrittenWord) m.pad i c } : MemSt).wf = true := by
  simp only [MemSt.wf, Bool.and_eq_true] at h ⊢
  exact ⟨h.1, SMap.wf_set _ _ _ _ h.2⟩

theorem MemSt.wf_filled (m : MemSt) (h : m.wf = true) : ({ m with hbm := [] } : MemSt).wf = true := by
  simp only [MemSt.wf, Bool.and_eq_true] at h ⊢
  exact ⟨⟨⟨rfl, h.1.1.2⟩, h.1.2⟩, h.2⟩

theorem MemSt.wf_erased (m : MemSt) (i j : Nat) (h : m.wf = true) : ({ m with hbm := SMap.erase (SMap.erase m.hbm i) j } : MemSt).wf = true := by
  simp only [MemSt.wf, Bool.and_eq_true] at h ⊢
  exact ⟨⟨⟨(SMap.wfFrom_erase _ _ _ _ (SMap.wfFrom_erase _ _ _ _ h.1.1.1)), h.1.1.2⟩, h.1.2⟩, h.2⟩

theorem MemSt.wf_hbmFilter (m : MemSt) (q : Nat × Code80 → Bool) (h : m.wf = true) : ({ m with hbm := m.hbm.filter q } : MemSt).wf = true := by
  simp only [MemSt.wf, Bool.and_eq_true] at h ⊢
  exact ⟨⟨⟨SMap.wf_filter _ _ _ h.1.1.1, h.1.1.2⟩, h.1.2⟩, h.2⟩

/-- Whatever a memory store writes, the memories keep their canonical form. -/
theorem State.putWord_ok (m : MemSp) (i : Nat) (c : Code80) (h : State.Ok p s) : State.Ok p (s.putWord m i c) := by
  obtain ⟨a, b, hm, d⟩ := h
  simp only [MemSt.wf, Bool.and_eq_true] at hm
  obtain ⟨⟨⟨h1, h2⟩, h3⟩, h4⟩ := hm
  cases m
  · exact ⟨a, b, by simp only [State.putWord, State.modMem, MemSt.wf, Bool.and_eq_true]; exact ⟨⟨⟨SMap.wf_set _ _ _ _ h1, h2⟩, h3⟩, h4⟩, d⟩
  · exact ⟨a, b, by simp only [State.putWord, State.modMem, MemSt.wf, Bool.and_eq_true]; exact ⟨⟨⟨h1, SMap.wf_set _ _ _ _ h2⟩, h3⟩, h4⟩, d⟩
  · exact ⟨a, b, by simp only [State.putWord, State.modMem, MemSt.wf, Bool.and_eq_true]; exact ⟨⟨⟨h1, h2⟩, SMap.wf_set _ _ _ _ h3⟩, h4⟩, d⟩
  · exact ⟨a, b, by simp only [State.putWord, State.modSteward, MemSt.wf, Bool.and_eq_true]; exact ⟨⟨⟨h1, h2⟩, h3⟩, h4⟩, d⟩
  · exact ⟨a, b, by simp only [State.putWord, State.modHelper, MemSt.wf, Bool.and_eq_true]; exact ⟨⟨⟨h1, h2⟩, h3⟩, h4⟩, d⟩

theorem hostPut_wf (data : List Byte) : ∀ (m : List (Nat × Byte)) (a : Nat), SMap.wf (fun _ => (0 : Byte)) m = true →
    SMap.wf (fun _ => (0 : Byte)) (hostPut m a data) = true := by
  induction data with
  | nil => intro m a h; exact h
  | cons b bs ih => intro m a h; exact SMap.wf_set _ _ _ _ (ih m (a + 1) h)

theorem State.hostWrite_ok (k : ReqKind) (q addr : Nat) (data : List Byte) (h : State.Ok p s) :
    State.Ok p (s.hostWrite k q addr data) := by
  obtain ⟨a, b, c, d, e⟩ := h
  unfold State.hostWrite State.modRings
  refine ⟨a, b, c, ?_, ?_⟩ <;> dsimp only <;> split <;> first | assumption | exact hostPut_wf _ _ _ ‹_›

theorem State.rebooted_ok (h : State.Ok p s) : State.Ok p s.rebooted := by
  obtain ⟨a, b, hm, d, e⟩ := h
  simp only [MemSt.wf, Bool.and_eq_true] at hm
  refine ⟨a, rfl, ?_, d, e⟩
  simp [State.rebooted, MemSt.wf, MemSt.reset, hm.1.1.2]

/-- What a microword's operation comes to keeps the queue and the stores. -/
def MwRes.Ok (p : List Instr) : MwRes → Prop
  | .wait => True
  | .ok t => State.Ok p t
  | .fault t _ _ _ => State.Ok p t

/-- What a fabric access comes to keeps the queue and the stores. -/
def FabRes.Ok (p : List Instr) : FabRes → Prop
  | .wait => True
  | .unmapped => True
  | .ok t _ => State.Ok p t

theorem MwRes.wait_ok : MwRes.Ok p .wait := trivial
theorem MwRes.ok_ok {t : State} (h : State.Ok p t) : MwRes.Ok p (.ok t) := h
theorem MwRes.fault_ok {t : State} {a b c : Nat} (h : State.Ok p t) : MwRes.Ok p (.fault t a b c) := h
theorem MwRes.of_ok {r : MwRes} {t : State} (e : r = .ok t) (h : MwRes.Ok p r) : State.Ok p t := by rw [e] at h; exact h
theorem MwRes.of_fault {r : MwRes} {t : State} {a b c : Nat} (e : r = .fault t a b c) (h : MwRes.Ok p r) : State.Ok p t := by
  rw [e] at h; exact h
theorem FabRes.wait_ok : FabRes.Ok p .wait := trivial
theorem FabRes.unmapped_ok : FabRes.Ok p .unmapped := trivial
theorem FabRes.ok_ok {t : State} {b : Bool} (h : State.Ok p t) : FabRes.Ok p (.ok t b) := h
theorem FabRes.of_ok {r : FabRes} {t : State} {b : Bool} (e : r = .ok t b) (h : FabRes.Ok p r) : State.Ok p t := by
  rw [e] at h; exact h

end Sys2Proof.Machine
end

