-- ==== Sys2Proof/Laws/KeepShared.lean ====
section
/-! SUPPORT. Every operation and every meaning keeps the queue and the canonical form of the stores (`State.Ok`):
events, completions, memory, the map, the tier, servo, assist, lanes, spindle, bus and calibration.
Each lemma follows the steps of its definition, with the lemmas of what that calls. -/
namespace Sys2Proof.Machine

variable {ps : List Instr}

theorem State.setFldBit_ok (s : State) (f : Fld) (n : Nat) (x4 : Bool) (hs : State.Ok ps s) :
    State.Ok ps (s.setFldBit f n x4) := by
  unfold State.setFldBit
  with_reducible repeat' first | assumption | apply State.noteSet_ok | apply State.setFld_ok | apply State.ite_ok

theorem State.modSil_ok (s : State) (f : SilSt → SilSt) (hs : State.Ok ps s) :
    State.Ok ps (s.modSil f) := by
  unfold State.modSil
  with_reducible repeat' first | assumption | (apply State.mk_ok; first | assumption)

theorem State.putBucket_ok (s : State) (code : Nat) (x3 : Bucket) (hs : State.Ok ps s) :
    State.Ok ps (s.putBucket code x3) := by
  unfold State.putBucket
  with_reducible repeat' first | assumption | apply State.modSil_ok

theorem State.enqueueRecord_ok (s : State) (code : Nat) (fields : List Byte) (hs : State.Ok ps s) :
    State.Ok ps (s.enqueueRecord code fields) := by
  unfold State.enqueueRecord
  with_reducible repeat' first | assumption | apply State.modSil_ok | apply State.bump_ok | apply State.ite_ok

theorem State.summary_ok (s : State) (code : Nat) (hs : State.Ok ps s) :
    State.Ok ps (s.summary code) := by
  unfold State.summary
  with_reducible repeat' first | assumption | apply State.putBucket_ok | apply State.enqueueRecord_ok | apply State.ite_ok

theorem State.allSummaries_ok (s : State) (hs : State.Ok ps s) :
    State.Ok ps (s.allSummaries) := by
  unfold State.allSummaries
  with_reducible repeat' first | assumption | intro _ | apply State.each_ok | apply State.summary_ok

theorem State.record_ok (s : State) (code : Nat) (fields : List Byte) (hs : State.Ok ps s) :
    State.Ok ps (s.record code fields) := by
  unfold State.record
  with_reducible repeat'
    first
    | assumption | apply State.enqueueRecord_ok | apply State.summary_ok | apply State.putBucket_ok | apply State.bump_ok
    | apply State.ite_ok

theorem State.gaugeTake_ok (s : State) (g : Nat) (v : Int) (hs : State.Ok ps s) :
    State.Ok ps (s.gaugeTake g v) := by
  unfold State.gaugeTake
  with_reducible repeat' first | assumption | intro _ | apply State.bump_ok | apply State.when_ok | apply State.setFld_ok

theorem State.gaugeAlarm_ok (s : State) (g : Nat) (v : Int) (hs : State.Ok ps s) :
    State.Ok ps (s.gaugeAlarm g v) := by
  unfold State.gaugeAlarm
  with_reducible repeat' first | assumption | apply State.record_ok | apply State.setBit_ok | apply State.modSil_ok | apply State.ite_ok

theorem State.sample_ok (s : State) (src : Nat) (hit : Nat → Bool) (v : Int) (hs : State.Ok ps s) :
    State.Ok ps (s.sample src hit v) := by
  unfold State.sample
  with_reducible repeat'
    first
    | assumption | intro _ | apply State.each_ok | apply State.gaugeAlarm_ok | apply State.gaugeTake_ok | apply State.ite_ok

theorem State.setFeature_ok (s : State) (c : Nat) (fid : Nat) (sel : Nat) (v : Nat) (hs : State.Ok ps s) :
    State.Ok ps (s.setFeature c fid sel v) := by
  unfold State.setFeature
  with_reducible repeat' first | assumption | apply State.modCtrl_ok

theorem State.putSq_ok (s : State) (c : Nat) (q : Nat) (v : Option SubQ) (hs : State.Ok ps s) :
    State.Ok ps (s.putSq c q v) := by
  unfold State.putSq
  with_reducible repeat' first | assumption | apply State.modCtrl_ok

theorem State.putCq_ok (s : State) (c : Nat) (q : Nat) (v : Option ComQ) (hs : State.Ok ps s) :
    State.Ok ps (s.putCq c q v) := by
  unfold State.putCq
  with_reducible repeat' first | assumption | apply State.modCtrl_ok

theorem State.msix_ok (s : State) (c : Nat) (v : Nat) (hs : State.Ok ps s) :
    State.Ok ps (s.msix c v) := by
  unfold State.msix
  with_reducible repeat' first | assumption | apply State.modNvme_ok

theorem State.writeCqe_ok (s : State) (c : Nat) (qid : Nat) (q : ComQ) (x5 : Cqe) (hs : State.Ok ps s) :
    State.Ok ps (s.writeCqe c qid q x5) := by
  unfold State.writeCqe
  with_reducible repeat'
    first
    | assumption | intro _ | apply State.putCq_ok | apply State.modNvme_ok | apply State.when_ok | apply State.msix_ok

theorem State.postCqe_ok (s : State) (x2 : Cqe) (hs : State.Ok ps s) :
    State.Ok ps (s.postCqe x2) := by
  unfold State.postCqe
  with_reducible repeat' first | assumption | apply State.putCq_ok | apply State.writeCqe_ok | apply State.ite_ok | split

theorem State.drainHeld_ok (x1 : Nat) (x2 : State) (x3 : Nat) (x4 : Nat) (hs : State.Ok ps x2) :
    State.Ok ps (State.drainHeld x1 x2 x3 x4) := by
  induction x1 generalizing x2 x3 x4 <;> unfold State.drainHeld
  with_reducible repeat' first | assumption | apply State.writeCqe_ok | apply State.ite_ok | split | apply_assumption

theorem State.modCmd_ok (s : State) (m : Cmd) (f : Cmd → Cmd) (hs : State.Ok ps s) :
    State.Ok ps (s.modCmd m f) := by
  unfold State.modCmd
  with_reducible repeat' first | assumption | apply State.modNvme_ok

theorem State.noteFailed_ok (s : State) (m : Cmd) (hs : State.Ok ps s) :
    State.Ok ps (s.noteFailed m) := by
  unfold State.noteFailed
  with_reducible repeat' first | assumption | apply State.modNvme_ok

theorem State.shutSettle_ok (s : State) (c : Nat) (hs : State.Ok ps s) :
    State.Ok ps (s.shutSettle c) := by
  unfold State.shutSettle
  with_reducible repeat' first | assumption | apply State.modCtrl_ok | apply State.ite_ok

theorem State.finishOne_ok (s : State) (m : Cmd) (st : NvStatus) (dw0 : Nat) (hs : State.Ok ps s) :
    State.Ok ps (s.finishOne m st dw0) := by
  unfold State.finishOne
  with_reducible repeat'
    first
    | assumption | intro _ | apply State.modNvme_ok | apply State.postCqe_ok | apply State.when_ok | apply State.noteFailed_ok
    | apply State.shutSettle_ok | apply State.bump_ok | apply State.sample_ok

theorem State.pumpDue_ok (x1 : Nat) (x2 : State) (hs : State.Ok ps x2) :
    State.Ok ps (State.pumpDue x1 x2) := by
  induction x1 generalizing x2 <;> unfold State.pumpDue
  with_reducible repeat' first | assumption | apply State.finishOne_ok | split | apply_assumption

theorem State.pumpAer_ok (x1 : Nat) (x2 : State) (x3 : Nat) (hs : State.Ok ps x2) :
    State.Ok ps (State.pumpAer x1 x2 x3) := by
  induction x1 generalizing x2 x3 <;> unfold State.pumpAer
  with_reducible repeat'
    first
    | assumption | apply State.modCtrl_ok | apply State.finishOne_ok
    | (extract_lets +onlyGivenNames x; refine (fun hx => ?_ : State.Ok ps x → _) ?_; rotate_left; unfold x; clear x; rotate_right; clear_value x)
    | (extract_lets +onlyGivenNames x; clear_value x) | split | apply_assumption

theorem State.aerOn_ok (s : State) (c : Nat) (type : Nat) (info : Nat) (page : Nat) (hs : State.Ok ps s) :
    State.Ok ps (s.aerOn c type info page) := by
  unfold State.aerOn
  with_reducible repeat' first | assumption | apply State.modCtrl_ok | apply State.pumpAer_ok

theorem State.aer_ok (s : State) (bit : Option Nat) (type : Nat) (info : Nat) (page : Nat) (hs : State.Ok ps s) :
    State.Ok ps (s.aer bit type info page) := by
  unfold State.aer
  with_reducible repeat' first | assumption | intro _ | apply State.each_ok | apply State.aerOn_ok | apply State.ite_ok | split

theorem State.aerSpare_ok (s : State) (hs : State.Ok ps s) :
    State.Ok ps (s.aerSpare) := by
  unfold State.aerSpare
  with_reducible repeat' first | assumption | apply State.aer_ok

theorem State.aerTemperature_ok (s : State) (hs : State.Ok ps s) :
    State.Ok ps (s.aerTemperature) := by
  unfold State.aerTemperature
  with_reducible repeat' first | assumption | apply State.aer_ok

theorem State.aerReliability_ok (s : State) (hs : State.Ok ps s) :
    State.Ok ps (s.aerReliability) := by
  unfold State.aerReliability
  with_reducible repeat' first | assumption | apply State.aer_ok

theorem State.aerNamespace_ok (s : State) (hs : State.Ok ps s) :
    State.Ok ps (s.aerNamespace) := by
  unfold State.aerNamespace
  with_reducible repeat' first | assumption | apply State.aer_ok

theorem State.aerActivation_ok (s : State) (hs : State.Ok ps s) :
    State.Ok ps (s.aerActivation) := by
  unfold State.aerActivation
  with_reducible repeat' first | assumption | apply State.aer_ok

theorem State.aerZone_ok (s : State) (hs : State.Ok ps s) :
    State.Ok ps (s.aerZone) := by
  unfold State.aerZone
  with_reducible repeat' first | assumption | apply State.aer_ok

theorem State.nsChanged_ok (s : State) (c : Nat) (nsid : Nat) (hs : State.Ok ps s) :
    State.Ok ps (s.nsChanged c nsid) := by
  unfold State.nsChanged
  with_reducible repeat' first | assumption | apply State.modCtrl_ok | apply State.aerOn_ok | apply State.ite_ok

theorem State.drainGone_ok (s : State) (d : Drain) (hs : State.Ok ps s) :
    State.Ok ps (s.drainGone d) := by
  unfold State.drainGone
  with_reducible repeat'
    first
    | assumption | intro _ | apply State.modNvme_ok | apply State.modCtrl_ok | apply State.putSq_ok | apply State.nsChanged_ok
    | apply State.each_ok | apply State.modMap_ok | apply State.ite_ok
    | (extract_lets +onlyGivenNames x; refine (fun hx => ?_ : State.Ok ps x → _) ?_; rotate_left; unfold x; clear x; rotate_right; clear_value x)
    | split

theorem State.drainPump_ok (s : State) (hs : State.Ok ps s) :
    State.Ok ps (s.drainPump) := by
  unfold State.drainPump
  with_reducible repeat'
    first
    | assumption | intro _ | apply State.each_ok | apply State.drainGone_ok | apply State.modNvme_ok | apply State.finishOne_ok
    | apply State.ite_ok | split

theorem State.finish_ok (s : State) (m : Cmd) (st : NvStatus) (dw0 : Nat) (hs : State.Ok ps s) :
    State.Ok ps (s.finish m st dw0) := by
  unfold State.finish
  with_reducible repeat' first | assumption | apply State.finishOne_ok | apply State.drainPump_ok | apply State.pumpDue_ok

theorem State.complete_ok (s : State) (m : Cmd) (st : NvStatus) (dw0 : Nat) (hs : State.Ok ps s) :
    State.Ok ps (s.complete m st dw0) := by
  unfold State.complete
  with_reducible repeat' first | assumption | apply State.modCmd_ok | apply State.finish_ok | apply State.ite_ok

theorem State.unitFault_ok (s : State) (hs : State.Ok ps s) :
    State.Ok ps (s.unitFault) := by
  unfold State.unitFault
  with_reducible repeat' first | assumption | apply State.setBit_ok

theorem State.dataFault_ok (s : State) (hs : State.Ok ps s) :
    State.Ok ps (s.dataFault) := by
  unfold State.dataFault
  with_reducible repeat' first | assumption | apply State.aerReliability_ok | apply State.setBit_ok

theorem State.ringSync_ok (s : State) (r : Nat) (hs : State.Ok ps s) :
    State.Ok ps (s.ringSync r) := by
  unfold State.ringSync
  with_reducible repeat' first | assumption | apply State.setFld_ok

theorem State.ringWrite_ok (s : State) (r : Nat) (c : RingCpl) (hs : State.Ok ps s) :
    State.Ok ps (s.ringWrite r c) := by
  unfold State.ringWrite
  with_reducible repeat'
    first
    | assumption | intro _ | apply State.hostWrite_ok | apply State.modRing_ok | apply State.when_ok | apply State.msix_ok

theorem State.ringPost_ok (s : State) (r : Nat) (c : RingCpl) (hs : State.Ok ps s) :
    State.Ok ps (s.ringPost r c) := by
  unfold State.ringPost
  with_reducible repeat' first | assumption | apply State.bump_ok | apply State.modRing_ok | apply State.ringWrite_ok | apply State.ite_ok

theorem State.ringDrainHeld_ok (x1 : Nat) (x2 : State) (x3 : Nat) (hs : State.Ok ps x2) :
    State.Ok ps (State.ringDrainHeld x1 x2 x3) := by
  induction x1 generalizing x2 x3 <;> unfold State.ringDrainHeld
  with_reducible repeat'
    first
    | assumption | apply State.ringWrite_ok | apply State.modRing_ok | apply State.ite_ok | split | apply_assumption

theorem State.ringSettle_ok (s : State) (r : Nat) (hs : State.Ok ps s) :
    State.Ok ps (s.ringSettle r) := by
  unfold State.ringSettle
  with_reducible repeat' first | assumption | apply State.ringSync_ok | apply State.setFld_ok | apply State.ite_ok

theorem State.ringComplete_ok (s : State) (r : Nat) (tag : Nat) (status : Nat) (result : Nat) (hs : State.Ok ps s) :
    State.Ok ps (s.ringComplete r tag status result) := by
  unfold State.ringComplete
  with_reducible repeat'
    first
    | assumption | apply State.modRing_ok | apply State.bump_ok | apply State.ringPost_ok | apply State.sample_ok
    | apply State.ringSettle_ok | apply State.ite_ok | split

theorem State.ringEnd_ok (s : State) (r : Nat) (tag : Nat) (status : Nat) (x5 : Option Nat) (hs : State.Ok ps s) :
    State.Ok ps (s.ringEnd r tag status x5) := by
  unfold State.ringEnd
  with_reducible repeat' first | assumption | apply State.ringComplete_ok | apply State.drawFree_ok

theorem State.eccCapture_ok (s : State) (m : MemSp) (addr : Nat) (req : Nat) (synd : Nat) (hs : State.Ok ps s) :
    State.Ok ps (s.eccCapture m addr req synd) := by
  unfold State.eccCapture
  with_reducible repeat' first | assumption | apply State.setFld_ok | apply State.setBit_ok | apply State.ite_ok | split

theorem State.eccRecord_ok (s : State) (m : MemSp) (addr : Nat) (req : Nat) (synd : Nat) (c : Bool) (hs : State.Ok ps s) :
    State.Ok ps (s.eccRecord m addr req synd c) := by
  unfold State.eccRecord
  with_reducible repeat' first | assumption | apply State.record_ok | split

theorem State.eccNote_ok (s : State) (m : MemSp) (addr : Nat) (req : Nat) (d : Decoded) (hs : State.Ok ps s) :
    State.Ok ps (s.eccNote m addr req d) := by
  unfold State.eccNote
  with_reducible repeat' first | assumption | apply State.eccRecord_ok | apply State.bump_ok | apply State.eccCapture_ok | split

theorem State.noteRead_ok (s : State) (m : MemSp) (addr : Nat) (n : Nat) (req : Nat) (hs : State.Ok ps s) :
    State.Ok ps (s.noteRead m addr n req) := by
  unfold State.noteRead
  with_reducible repeat' first | assumption | intro _ | apply State.each_ok | apply State.eccNote_ok

theorem State.noteMram_ok (s : State) (i : Nat) (n : Nat) (req : Nat) (hs : State.Ok ps s) :
    State.Ok ps (s.noteMram i n req) := by
  unfold State.noteMram
  with_reducible repeat' first | assumption | intro _ | apply State.addSat_ok | apply State.each_ok | apply State.eccNote_ok

theorem State.storeWord_ok (s : State) (m : MemSp) (addr : Nat) (data : List Byte) (i : Nat) (hs : State.Ok ps s) :
    State.Ok ps (s.storeWord m addr data i) := by
  unfold State.storeWord
  with_reducible repeat' first | assumption | apply State.putWord_ok | apply State.eccNote_ok | apply State.ite_ok

theorem State.store_ok (s : State) (m : MemSp) (addr : Nat) (data : List Byte) (hs : State.Ok ps s) :
    State.Ok ps (s.store m addr data) := by
  unfold State.store
  with_reducible repeat' first | assumption | intro _ | apply State.each_ok | apply State.storeWord_ok

theorem State.phyBad_ok (s : State) (i : Nat) (req : Nat) (hs : State.Ok ps s) :
    State.Ok ps (s.phyBad i req) := by
  unfold State.phyBad
  with_reducible repeat' first | assumption | apply State.eccNote_ok | apply State.drawFree_ok

theorem State.hbmWordNote_ok (s : State) (f : MemFaults) (i : Nat) (req : Nat) (hs : State.Ok ps s) :
    State.Ok ps (s.hbmWordNote f i req) := by
  unfold State.hbmWordNote
  with_reducible repeat' first | assumption | apply State.phyBad_ok | apply State.eccNote_ok | apply State.ite_ok

theorem State.hbmNote_ok (s : State) (f : MemFaults) (addr : Nat) (n : Nat) (req : Nat) (hs : State.Ok ps s) :
    State.Ok ps (s.hbmNote f addr n req) := by
  unfold State.hbmNote
  with_reducible repeat' first | assumption | intro _ | apply State.each_ok | apply State.hbmWordNote_ok

theorem State.hbmStore_ok (s : State) (f : MemFaults) (addr : Nat) (data : List Byte) (hs : State.Ok ps s) :
    State.Ok ps (s.hbmStore f addr data) := by
  unfold State.hbmStore
  with_reducible repeat'
    first
    | assumption | intro _ | apply State.each_ok | apply State.phyBad_ok | apply State.storeWord_ok | apply State.ite_ok

theorem State.storeNote_ok (s : State) (f : MemFaults) (m : MemSp) (addr : Nat) (data : List Byte) (hs : State.Ok ps s) :
    State.Ok ps (s.storeNote f m addr data) := by
  unfold State.storeNote
  with_reducible repeat'
    first
    | assumption | intro _ | apply State.each_ok | apply State.phyBad_ok | apply State.eccNote_ok | apply State.ite_ok

theorem State.modBandSet_ok (s : State) (k : Nat) (f : BandSet → BandSet) (hs : State.Ok ps s) :
    State.Ok ps (s.modBandSet k f) := by
  unfold State.modBandSet
  with_reducible repeat' first | assumption | apply State.modMap_ok

theorem State.countValid_ok (s : State) (x2 : MapEntry) (up : Bool) (hs : State.Ok ps s) :
    State.Ok ps (s.countValid x2 up) := by
  unfold State.countValid
  with_reducible repeat' first | assumption | intro _ | apply State.onSome_ok | apply State.modBandSet_ok | split

theorem State.mapStored_ok (s : State) (i : Nat) (hs : State.Ok ps s) :
    State.Ok ps (s.mapStored i) := by
  unfold State.mapStored
  with_reducible repeat'
    first
    | assumption | apply State.modCache_ok | refine State.modMem_wf_ok _ (fun m hm => MemSt.wf_erased m _ _ hm) ?_ | apply State.ite_ok

theorem State.setEntry_ok (s : State) (i : Nat) (x3 : MapEntry) (hs : State.Ok ps s) :
    State.Ok ps (s.setEntry i x3) := by
  unfold State.setEntry
  with_reducible repeat' first | assumption | apply State.countValid_ok | apply State.mapStored_ok | apply State.modMap_ok

theorem State.setZone_ok (s : State) (nsid : Nat) (z : Nat) (v : Zone) (hs : State.Ok ps s) :
    State.Ok ps (s.setZone nsid z v) := by
  unfold State.setZone
  with_reducible repeat' first | assumption | apply State.modMap_ok

theorem State.freeSync_ok (s : State) (hs : State.Ok ps s) :
    State.Ok ps (s.freeSync) := by
  unfold State.freeSync
  with_reducible repeat' first | assumption | apply State.setFld_ok

theorem State.notePages_ok (s : State) (x2 : List Nat) (hs : State.Ok ps s) :
    State.Ok ps (s.notePages x2) := by
  unfold State.notePages
  with_reducible repeat' first | assumption | intro _ | apply State.each_ok | apply State.noteRead_ok

theorem State.wearMark_ok (s : State) (bit : Nat) (ring : Nat) (level : Nat) (est : Nat) (hs : State.Ok ps s) :
    State.Ok ps (s.wearMark bit ring level est) := by
  unfold State.wearMark
  with_reducible repeat'
    first
    | assumption | apply State.record_ok | refine State.modMem_ok _ (fun _ => ⟨rfl, rfl, rfl, rfl⟩) ?_ | apply State.ite_ok

theorem State.wearSync_ok (s : State) (hs : State.Ok ps s) :
    State.Ok ps (s.wearSync) := by
  unfold State.wearSync
  with_reducible repeat' first | assumption | apply State.setFld_ok | apply State.wearMark_ok

theorem State.wearJ_ok (s : State) (n : Nat) (hs : State.Ok ps s) :
    State.Ok ps (s.wearJ n) := by
  unfold State.wearJ
  with_reducible repeat' first | assumption | apply State.wearSync_ok | refine State.modMem_ok _ (fun _ => ⟨rfl, rfl, rfl, rfl⟩) ?_

theorem State.wearS_ok (s : State) (n : Nat) (hs : State.Ok ps s) :
    State.Ok ps (s.wearS n) := by
  unfold State.wearS
  with_reducible repeat' first | assumption | apply State.wearSync_ok | refine State.modMem_ok _ (fun _ => ⟨rfl, rfl, rfl, rfl⟩) ?_

theorem State.putMram_ok (s : State) (addr : Nat) (data : List Byte) (hs : State.Ok ps s) :
    State.Ok ps (s.putMram addr data) := by
  unfold State.putMram
  with_reducible repeat' first | assumption | apply State.store_ok

theorem State.freeNote_ok (s : State) (hs : State.Ok ps s) :
    State.Ok ps (s.freeNote) := by
  unfold State.freeNote
  with_reducible repeat' first | assumption | apply State.setFld_ok | apply State.setBit_ok | apply State.clrBit_ok | apply State.ite_ok

theorem State.takeData_ok (s : State) (n : Nat) (hs : State.Ok ps s) :
    State.Ok ps (s.takeData n).1 := by
  unfold State.takeData
  with_reducible repeat' first | assumption | apply State.modMap_ok | apply State.setFld_ok

theorem State.takeData_ok' {s : State} {n : Nat} {t : State} {b : Nat} (e : State.takeData s n = (t, b))
    (hs : State.Ok ps s) : State.Ok ps t := by
  have h := State.takeData_ok (ps := ps) s n hs
  rw [e] at h
  exact h

theorem State.jline_ok (s : State) (l : JLine) (hs : State.Ok ps s) :
    State.Ok ps (s.jline l) := by
  unfold State.jline
  with_reducible repeat' first | assumption | apply State.modMap_ok

theorem State.jq_ok (s : State) (x2 : JBody) (hs : State.Ok ps s) :
    State.Ok ps (s.jq x2) := by
  unfold State.jq
  with_reducible repeat' first | assumption | apply State.jline_ok

theorem State.jdelta_ok (s : State) (ms : List Move) (hs : State.Ok ps s) :
    State.Ok ps (s.jdelta ms) := by
  unfold State.jdelta
  with_reducible repeat' first | assumption | apply State.jline_ok

theorem State.bandRecords_ok (s : State) (k : Nat) (st : Nat) (hs : State.Ok ps s) :
    State.Ok ps (s.bandRecords k st) := by
  unfold State.bandRecords
  with_reducible repeat' first | assumption | intro _ | apply State.each_ok | apply State.jq_ok

theorem State.addPend_ok (s : State) (i : Nat) (hs : State.Ok ps s) :
    State.Ok ps (s.addPend i) := by
  unfold State.addPend
  with_reducible repeat' first | assumption | apply State.modMap_ok

theorem State.applyBand_ok (s : State) (sf : Nat) (st : Nat) (ow : Nat) (k : Nat) (hs : State.Ok ps s) :
    State.Ok ps (s.applyBand sf st ow k) := by
  unfold State.applyBand
  with_reducible repeat' first | assumption | apply State.modBandSet_ok | apply State.ite_ok

theorem State.applyBody_ok (s : State) (x2 : JBody) (hs : State.Ok ps s) :
    State.Ok ps (s.applyBody x2) := by
  unfold State.applyBody
  with_reducible repeat'
    first
    | assumption | intro _ | apply State.each_ok | apply State.addPend_ok | apply State.setEntry_ok | apply State.setZone_ok
    | apply State.modMap_ok | apply State.applyBand_ok | apply State.setFld_ok | apply State.ite_ok | split

theorem State.modSeg_ok (s : State) (k : Nat) (f : Segment → Segment) (hs : State.Ok ps s) :
    State.Ok ps (s.modSeg k f) := by
  unfold State.modSeg
  with_reducible repeat' first | assumption | apply State.modMap_ok

theorem State.retire_ok (s : State) (hs : State.Ok ps s) :
    State.Ok ps (s.retire) := by
  unfold State.retire
  with_reducible repeat' first | assumption | apply State.setFld_ok | apply State.modMap_ok | apply State.freeNote_ok

theorem State.putLine_ok (s : State) (x2 : JBody) (hs : State.Ok ps s) :
    State.Ok ps (s.putLine x2) := by
  unfold State.putLine
  with_reducible repeat'
    first
    | assumption | apply State.wearJ_ok | apply State.putMram_ok | apply State.modMap_ok | apply State.setFld_ok

theorem State.openRecPage_ok (s : State) (hs : State.Ok ps s) :
    State.Ok ps (s.openRecPage) := by
  unfold State.openRecPage
  with_reducible repeat'
    first
    | assumption | apply State.modMap_ok | apply State.setFld_ok | apply State.putLine_ok | apply State.freeNote_ok
    | apply State.ite_ok

theorem State.liveBody_ok (s : State) (x2 : JBody) (hs : State.Ok ps s) :
    State.Ok ps (s.liveBody x2) := by
  unfold State.liveBody
  with_reducible repeat'
    first
    | assumption | apply State.setZone_ok | apply State.modMap_ok | apply State.applyBody_ok | apply State.ite_ok | split

theorem State.lineDone_ok (s : State) (l : JLine) (rest : List JLine) (hs : State.Ok ps s) :
    State.Ok ps (s.lineDone l rest) := by
  unfold State.lineDone
  with_reducible repeat'
    first
    | assumption | apply State.modMap_ok | apply State.retire_ok | apply State.applyBody_ok | apply State.putLine_ok
    | apply State.liveBody_ok | apply State.ite_ok
    | (extract_lets +onlyGivenNames x; refine (fun hx => ?_ : State.Ok ps x → _) ?_; rotate_left; unfold x; clear x; rotate_right; clear_value x)
    | split

theorem State.pxSync_ok (s : State) (hs : State.Ok ps s) :
    State.Ok ps (s.pxSync) := by
  unfold State.pxSync
  with_reducible repeat' first | assumption | apply State.setFld_ok

theorem State.openSet_ok (s : State) (k : Nat) (owner : Nat) (use : Nat) (hs : State.Ok ps s) :
    State.Ok ps (s.openSet k owner use) := by
  unfold State.openSet
  with_reducible repeat'
    first
    | assumption | apply State.clrBit_ok | apply State.freeSync_ok | apply State.bandRecords_ok | apply State.modBandSet_ok

theorem State.noteNoSet_ok (s : State) (hs : State.Ok ps s) :
    State.Ok ps (s.noteNoSet) := by
  unfold State.noteNoSet
  with_reducible repeat' first | assumption | apply State.clrBit_ok | apply State.setBit_ok | apply State.ite_ok | split

theorem State.findSet_ok' {p : List Instr} {x1 : State} {a b : Nat} {z : Option Nat} {t : State} {k : Nat}
    (e : State.findSet x1 a b z = some (t, k)) (h1 : State.Ok p x1) : State.Ok p t := by
  unfold State.findSet at e
  repeat' split at e
  all_goals first | (cases e; done) | (cases e; exact h1) | (cases e; exact State.openSet_ok _ _ _ _ h1)

theorem State.sjSync_ok (s : State) (hs : State.Ok ps s) :
    State.Ok ps (s.sjSync) := by
  unfold State.sjSync
  with_reducible repeat' first | assumption | apply State.setFld_ok

theorem State.sjq_ok (s : State) (x2 : SjBody) (hs : State.Ok ps s) :
    State.Ok ps (s.sjq x2) := by
  unfold State.sjq
  with_reducible repeat' first | assumption | apply State.modTier_ok

theorem State.sjPut_ok (s : State) (n : Nat) (bytes : List Byte) (hs : State.Ok ps s) :
    State.Ok ps (s.sjPut n bytes) := by
  unfold State.sjPut
  with_reducible repeat' first | assumption | apply State.putMram_ok

theorem State.sjAdvance_ok (s : State) (hs : State.Ok ps s) :
    State.Ok ps (s.sjAdvance) := by
  unfold State.sjAdvance
  with_reducible repeat' first | assumption | apply State.modTier_ok

theorem State.sjPosition_ok (s : State) (hs : State.Ok ps s) :
    State.Ok ps (s.sjPosition) := by
  unfold State.sjPosition
  with_reducible repeat' first | assumption | apply State.modTier_ok | apply State.wearS_ok | apply State.sjPut_ok

theorem State.sjWrite_ok (s : State) (x2 : SjBody) (rest : List SjBody) (hs : State.Ok ps s) :
    State.Ok ps (s.sjWrite x2 rest) := by
  unfold State.sjWrite
  with_reducible repeat'
    first
    | assumption | apply State.wearS_ok | apply State.sjPut_ok | apply State.modTier_ok | apply State.sjSync_ok | apply State.when_ok
    | apply State.sjAdvance_ok | apply State.sjPosition_ok

theorem State.modStripe_ok (s : State) (k : Nat) (st : Nat) (f : Stripe → Stripe) (hs : State.Ok ps s) :
    State.Ok ps (s.modStripe k st f) := by
  unfold State.modStripe
  with_reducible repeat' first | assumption | apply State.modTier_ok

theorem State.replace_ok (s : State) (f : WriteFrame) (m : Move) (i : Nat) (hs : State.Ok ps s) :
    State.Ok ps (s.replace f m i) := by
  unfold State.replace
  with_reducible repeat' first | assumption | apply State.addPend_ok | apply State.modMap_ok | apply State.ite_ok | split

theorem State.killStripe_ok (s : State) (k : Nat) (st : Nat) (cause : Nat) (hs : State.Ok ps s) :
    State.Ok ps (s.killStripe k st cause) := by
  unfold State.killStripe
  with_reducible repeat'
    first
    | assumption | intro _ | apply State.modTier_ok | apply State.modMap_ok | apply State.modLanes_ok | apply State.each_ok
    | apply State.replace_ok | apply State.sjSync_ok | apply State.bump_ok | apply State.sjq_ok | apply State.foldl_ok
    | (extract_lets +onlyGivenNames x; refine (fun hx => ?_ : State.Ok ps x → _) ?_; rotate_left; unfold x; clear x; rotate_right; clear_value x)
    | split

theorem State.passStripes_ok (x1 : Nat) (x2 : State) (x3 : Nat) (hs : State.Ok ps x2) :
    State.Ok ps (State.passStripes x1 x2 x3) := by
  induction x1 generalizing x2 x3 <;> unfold State.passStripes
  with_reducible repeat'
    first
    | assumption | apply State.bump_ok | apply State.sjq_ok | apply State.modBandSet_ok | apply State.ite_ok | apply_assumption

theorem State.fillSet_ok (s : State) (k : Nat) (hs : State.Ok ps s) :
    State.Ok ps (s.fillSet k) := by
  unfold State.fillSet
  with_reducible repeat' first | assumption | apply State.bandRecords_ok | apply State.modBandSet_ok | apply State.ite_ok

theorem State.placeFrame_ok (s0 : State) (k : Nat) (kind : Nat) (tag : Nat) (slots : List (List Byte)) (mk : Nat → List Move)
    (hs : State.Ok ps s0) :
    State.Ok ps (s0.placeFrame k kind tag slots mk).1 := by
  unfold State.placeFrame
  with_reducible repeat'
    first
    | assumption | apply State.passStripes_ok | apply State.sjq_ok | apply State.modTier_ok | apply State.modStripe_ok
    | apply State.modMap_ok | apply State.modBandSet_ok | apply State.sjSync_ok | apply State.fillSet_ok | apply State.ite_ok

theorem State.placeFrame_ok' {s0 : State} {k : Nat} {kind : Nat} {tag : Nat} {slots : List (List Byte)}
    (mk : Nat → List Move) {t : State} {b : Nat} (e : State.placeFrame s0 k kind tag slots mk = (t, b))
    (hs : State.Ok ps s0) : State.Ok ps t := by
  have h := State.placeFrame_ok (ps := ps) s0 k kind tag slots mk hs
  rw [e] at h
  exact h

theorem State.computeParity_ok (s : State) (x2 : Stripe) (hs : State.Ok ps s) :
    State.Ok ps (s.computeParity x2) := by
  unfold State.computeParity
  with_reducible repeat' first | assumption | apply State.modStripe_ok | apply State.modMap_ok

theorem State.frameWritten_ok (s : State) (f : WriteFrame) (hs : State.Ok ps s) :
    State.Ok ps (s.frameWritten f) := by
  unfold State.frameWritten
  with_reducible repeat'
    first
    | assumption | apply State.modMap_ok | apply State.bump_ok | apply State.modStripe_ok | apply State.sjq_ok | apply State.ite_ok
    | (extract_lets +onlyGivenNames x; refine (fun hx => ?_ : State.Ok ps x → _) ?_; rotate_left; unfold x; clear x; rotate_right; clear_value x)
    | split

theorem State.stripeComplete_ok (s : State) (k : Nat) (st : Nat) (hs : State.Ok ps s) :
    State.Ok ps (s.stripeComplete k st) := by
  unfold State.stripeComplete
  with_reducible repeat'
    first
    | assumption | intro _ | apply State.modTier_ok | apply State.each_ok | apply State.jdelta_ok | apply State.sjSync_ok
    | apply State.sjq_ok | apply State.ite_ok
    | (extract_lets +onlyGivenNames x; refine (fun hx => ?_ : State.Ok ps x → _) ?_; rotate_left; unfold x; clear x; rotate_right; clear_value x)
    | split

theorem State.abandonFrame_ok (s : State) (p : Nat) (cause : Nat) (hs : State.Ok ps s) :
    State.Ok ps (s.abandonFrame p cause) := by
  unfold State.abandonFrame
  with_reducible repeat'
    first
    | assumption | apply State.modMap_ok | apply State.killStripe_ok
    | (extract_lets +onlyGivenNames x; refine (fun hx => ?_ : State.Ok ps x → _) ?_; rotate_left; unfold x; clear x; rotate_right; clear_value x)
    | split

theorem State.moveBlocks_ok (s : State) (p : Nat) (f : Frame) (hs : State.Ok ps s) :
    State.Ok ps (s.moveBlocks p f) := by
  unfold State.moveBlocks
  with_reducible repeat' first | assumption | apply State.modMap_ok | apply State.ite_ok

theorem State.relocateAs_ok (s : State) (sf : Nat) (k : Nat) (st : Nat) (p : Nat) (f : Frame) (hs : State.Ok ps s) :
    State.Ok ps (s.relocateAs sf k st p f) := by
  unfold State.relocateAs
  with_reducible repeat'
    first
    | assumption | apply State.moveBlocks_ok | apply State.noteNoSet_ok | apply State.placeFrame_ok | apply State.modTier_ok
    | (apply State.findSet_ok'; assumption) | apply State.ite_ok | split

theorem State.relocate_ok (s : State) (k : Nat) (st : Nat) (p : Nat) (f : Frame) (hs : State.Ok ps s) :
    State.Ok ps (s.relocate k st p f) := by
  unfold State.relocate
  with_reducible repeat' first | assumption | apply State.relocateAs_ok

theorem State.stripeLost_ok (s : State) (k : Nat) (st : Nat) (hs : State.Ok ps s) :
    State.Ok ps (s.stripeLost k st) := by
  unfold State.stripeLost
  with_reducible repeat'
    first
    | assumption | intro _ | apply State.each_ok | apply State.jq_ok | apply State.moveBlocks_ok | apply State.addSat_ok
    | apply State.bump_ok | apply State.modNvme_ok | apply State.dataFault_ok | apply State.record_ok | split

theorem State.rebuildShow_ok (s : State) (hs : State.Ok ps s) :
    State.Ok ps (s.rebuildShow) := by
  unfold State.rebuildShow
  with_reducible repeat' first | assumption | apply State.setFld_ok | apply State.clrBit_ok | apply State.setBit_ok | split

theorem State.copiesLost_ok (s : State) (a : Act) (hs : State.Ok ps s) :
    State.Ok ps (s.copiesLost a) := by
  unfold State.copiesLost
  with_reducible repeat' first | assumption | apply State.modMap_ok

theorem State.startRebuild_ok (s : State) (sf : Nat) (st : Nat) (hs : State.Ok ps s) :
    State.Ok ps (s.startRebuild sf st) := by
  unfold State.startRebuild
  with_reducible repeat'
    first
    | assumption | intro _ | apply State.setFldBit_ok | apply State.record_ok | apply State.sjq_ok | apply State.each_ok
    | apply State.jq_ok | apply State.modBandSet_ok | apply State.modTier_ok | apply State.copiesLost_ok | apply State.setFld_ok
    | apply State.pxSync_ok | apply State.rebuildShow_ok | apply State.ite_ok

theorem State.wdisEnd_ok (s : State) (a : Act) (hs : State.Ok ps s) :
    State.Ok ps (s.wdisEnd a) := by
  unfold State.wdisEnd
  with_reducible repeat'
    first
    | assumption | intro _ | apply State.setFld_ok | apply State.each_ok | apply State.sjq_ok | apply State.setFldBit_ok
    | apply State.modTier_ok | apply State.pxSync_ok | apply State.rebuildShow_ok

theorem State.setGate_ok (s : State) (a : Act) (n : Nat) (x4 : Bool) (hs : State.Ok ps s) :
    State.Ok ps (s.setGate a n x4) := by
  unfold State.setGate
  with_reducible repeat' first | assumption | apply State.modPins_ok | apply State.setFld_ok

theorem State.blank_ok (s : State) (a : Act) (hs : State.Ok ps s) :
    State.Ok ps (s.blank a) := by
  unfold State.blank
  with_reducible repeat'
    first
    | assumption | intro _ | apply State.each_ok | apply State.bump_ok | apply State.modLane_ok | apply State.addSat_ok
    | apply State.ite_ok

theorem State.laneDark_ok (s : State) (l : Nat) (hs : State.Ok ps s) :
    State.Ok ps (s.laneDark l) := by
  unfold State.laneDark
  with_reducible repeat' first | assumption | apply State.clrBit_ok | apply State.setFld_ok

theorem State.unclock_ok (s : State) (a : Act) (n : Nat) (hs : State.Ok ps s) :
    State.Ok ps (s.unclock a n) := by
  unfold State.unclock
  with_reducible repeat' first | assumption | apply State.setFld_ok | apply State.laneDark_ok | apply State.ite_ok

theorem State.budgetSync_ok (s : State) (a : Act) (hs : State.Ok ps s) :
    State.Ok ps (s.budgetSync a) := by
  unfold State.budgetSync
  with_reducible repeat' first | assumption | apply State.setFld_ok | apply State.modAslot_ok

theorem State.closeGateTo_ok (s : State) (a : Act) (n : Nat) (after : Nat) (hs : State.Ok ps s) :
    State.Ok ps (s.closeGateTo a n after) := by
  unfold State.closeGateTo
  with_reducible repeat'
    first
    | assumption | intro _ | apply State.modAslot_ok | apply State.setGate_ok | apply State.setFld_ok | apply State.unclock_ok
    | apply State.when_ok | apply State.blank_ok | apply State.abandonFrame_ok | apply State.bump_ok | apply State.modSlot_ok
    | apply State.budgetSync_ok | apply State.ite_ok | split

theorem State.closeGate_ok (s : State) (a : Act) (n : Nat) (hs : State.Ok ps s) :
    State.Ok ps (s.closeGate a n) := by
  unfold State.closeGate
  with_reducible repeat' first | assumption | apply State.closeGateTo_ok | apply State.ite_ok

theorem State.closeGates_ok (s : State) (a : Act) (hs : State.Ok ps s) :
    State.Ok ps (s.closeGates a) := by
  unfold State.closeGates
  with_reducible repeat' first | assumption | apply State.closeGate_ok

theorem State.closeAllGates_ok (s : State) (hs : State.Ok ps s) :
    State.Ok ps (s.closeAllGates) := by
  unfold State.closeAllGates
  with_reducible repeat' first | assumption | apply State.closeGates_ok

theorem State.assistFault_ok (s : State) (a : Act) (n : Nat) (f : Fld) (hs : State.Ok ps s) :
    State.Ok ps (s.assistFault a n f) := by
  unfold State.assistFault
  with_reducible repeat' first | assumption | apply State.record_ok | apply State.setBit_ok

theorem State.writeDisable_ok (s : State) (a : Act) (h : Nat) (hs : State.Ok ps s) :
    State.Ok ps (s.writeDisable a h) := by
  unfold State.writeDisable
  with_reducible repeat'
    first
    | assumption | apply State.unitFault_ok | apply State.startRebuild_ok | apply State.setFldBit_ok | apply State.ite_ok

theorem State.assistLoad_ok (s : State) (a : Act) (hs : State.Ok ps s) :
    State.Ok ps (s.assistLoad a) := by
  unfold State.assistLoad
  with_reducible repeat' first | assumption | apply State.setFld_ok

theorem State.svGoto_ok (s : State) (a : Act) (st : Nat) (hs : State.Ok ps s) :
    State.Ok ps (s.svGoto a st) := by
  unfold State.svGoto
  with_reducible repeat' first | assumption | apply State.setFld_ok | apply State.modSv_ok

theorem State.setVcm_ok (s : State) (a : Act) (en : Bool) (cmd : Int) (hs : State.Ok ps s) :
    State.Ok ps (s.setVcm a en cmd) := by
  unfold State.setVcm
  with_reducible repeat' first | assumption | apply State.modPins_ok | apply State.modSv_ok | apply State.setFld_ok

theorem State.noteInhibit_ok (s : State) (a : Act) (code : Nat) (h : Nat) (hs : State.Ok ps s) :
    State.Ok ps (s.noteInhibit a code h) := by
  unfold State.noteInhibit
  with_reducible repeat' first | assumption | apply State.setFld_ok | apply State.bump_ok

theorem State.inhibitHead_ok (s : State) (a : Act) (h : Nat) (code : Nat) (hs : State.Ok ps s) :
    State.Ok ps (s.inhibitHead a h code) := by
  unfold State.inhibitHead
  with_reducible repeat' first | assumption | intro _ | apply State.each_ok | apply State.noteInhibit_ok | apply State.closeGate_ok

theorem State.inhibitAll_ok (s : State) (a : Act) (code : Nat) (hs : State.Ok ps s) :
    State.Ok ps (s.inhibitAll a code) := by
  unfold State.inhibitAll
  with_reducible repeat' first | assumption | apply State.closeGates_ok | apply State.noteInhibit_ok

theorem State.routeLane_ok (s : State) (a : Act) (l : Nat) (h : Nat) (rd : Nat) (hs : State.Ok ps s) :
    State.Ok ps (s.routeLane a l h rd) := by
  unfold State.routeLane
  with_reducible repeat' first | assumption | apply State.modAs_ok | apply State.ite_ok

theorem State.routesOut_ok (s : State) (a : Act) (bad : List Nat) (hs : State.Ok ps s) :
    State.Ok ps (s.routesOut a bad) := by
  unfold State.routesOut
  with_reducible repeat' first | assumption | apply State.modAs_ok

theorem State.bindLanes_ok (s : State) (a : Act) (x3 : List Nat) (hs : State.Ok ps s) :
    State.Ok ps (s.bindLanes a x3) := by
  unfold State.bindLanes
  with_reducible repeat'
    first
    | assumption | intro _ | apply State.routeLane_ok | apply State.setFld_ok | apply State.foldl_ok | split
    | (apply State.mk_ok; first | assumption | apply State.routeLane_ok | apply State.setFld_ok | apply State.foldl_ok | split)

theorem State.takeGroup_ok (s : State) (a : Act) (g : Nat) (x4 : List Nat) (hs : State.Ok ps s) :
    State.Ok ps (s.takeGroup a g x4) := by
  unfold State.takeGroup
  with_reducible repeat'
    first
    | assumption | intro _ | apply State.modSv_ok | apply State.each_ok | apply State.modPlace_ok | apply State.setFld_ok
    | apply State.bindLanes_ok | split

theorem State.leaveGroup_ok (s : State) (a : Act) (hs : State.Ok ps s) :
    State.Ok ps (s.leaveGroup a) := by
  unfold State.leaveGroup
  with_reducible repeat' first | assumption | apply State.setFld_ok | apply State.modSv_ok

theorem State.dropPlace_ok (s : State) (a : Act) (k : Nat) (hs : State.Ok ps s) :
    State.Ok ps (s.dropPlace a k) := by
  unfold State.dropPlace
  with_reducible repeat' first | assumption | apply State.setFldBit_ok | apply State.modPlace_ok

theorem State.depart_ok (s : State) (a : Act) (k : Nat) (cause : Nat) (hs : State.Ok ps s) :
    State.Ok ps (s.depart a k cause) := by
  unfold State.depart
  with_reducible repeat'
    first
    | assumption | intro _ | apply State.inhibitHead_ok | apply State.setBit_ok | apply State.bump_ok | apply State.dropPlace_ok
    | apply State.modHead_ok | apply State.each_ok | apply State.modLane_ok | apply State.record_ok | apply State.ite_ok

theorem State.declareFailed_ok (s : State) (a : Act) (h : Nat) (cause : Nat) (hs : State.Ok ps s) :
    State.Ok ps (s.declareFailed a h cause) := by
  unfold State.declareFailed
  with_reducible repeat'
    first
    | assumption | intro _ | apply State.modHead_ok | apply State.each_ok | apply State.closeGate_ok | apply State.dropPlace_ok
    | apply State.record_ok | apply State.setBit_ok | apply State.setFldBit_ok | apply State.setFld_ok | apply State.unitFault_ok
    | apply State.startRebuild_ok | apply State.ite_ok | split

theorem State.rroSync_ok (s : State) (a : Act) (hs : State.Ok ps s) :
    State.Ok ps (s.rroSync a) := by
  unfold State.rroSync
  with_reducible repeat' first | assumption | apply State.setFld_ok

theorem State.startSeek_ok (s : State) (a : Act) (g : Nat) (track : Nat) (hs : State.Ok ps s) :
    State.Ok ps (s.startSeek a g track) := by
  unfold State.startSeek
  with_reducible repeat'
    first
    | assumption | intro _ | apply State.each_ok | apply State.modPlace_ok | apply State.modSv_ok | apply State.takeGroup_ok
    | apply State.setFld_ok | apply State.rroSync_ok | apply State.svGoto_ok | apply State.closeGates_ok | apply State.ite_ok

theorem State.adoptCoefs_ok (s : State) (a : Act) (speed8 : Nat) (hs : State.Ok ps s) :
    State.Ok ps (s.adoptCoefs a speed8) := by
  unfold State.adoptCoefs
  with_reducible repeat' first | assumption | intro _ | apply State.modSv_ok | apply State.each_ok | apply State.modPlace_ok

theorem State.startLoad_ok (s : State) (a : Act) (hs : State.Ok ps s) :
    State.Ok ps (s.startLoad a) := by
  unfold State.startLoad
  with_reducible repeat'
    first
    | assumption | apply State.setFld_ok | apply State.takeGroup_ok | apply State.setVcm_ok | apply State.svGoto_ok
    | apply State.modSv_ok

theorem State.parkAct_ok (s : State) (a : Act) (hs : State.Ok ps s) :
    State.Ok ps (s.parkAct a) := by
  unfold State.parkAct
  with_reducible repeat'
    first
    | assumption | apply State.svGoto_ok | apply State.setFld_ok | apply State.setVcm_ok | apply State.modSv_ok
    | apply State.closeGates_ok | apply State.ite_ok

theorem State.parkBoth_ok (s : State) (hs : State.Ok ps s) :
    State.Ok ps (s.parkBoth) := by
  unfold State.parkBoth
  with_reducible repeat' first | assumption | apply State.parkAct_ok

theorem State.retractAct_ok (s : State) (a : Act) (fault : Bool) (hs : State.Ok ps s) :
    State.Ok ps (s.retractAct a fault) := by
  unfold State.retractAct
  with_reducible repeat'
    first
    | assumption | apply State.modSv_ok | apply State.modPins_ok | apply State.closeGates_ok | apply State.setFld_ok
    | apply State.svGoto_ok | apply State.leaveGroup_ok | apply State.setBit_ok | apply State.ite_ok

theorem State.clearActFaults_ok (s : State) (a : Act) (hs : State.Ok ps s) :
    State.Ok ps (s.clearActFaults a) := by
  unfold State.clearActFaults
  with_reducible repeat' first | assumption | apply State.modSv_ok | apply State.svGoto_ok | apply State.ite_ok

theorem State.postStatus_ok (s : State) (l : Nat) (r : StatusRec) (hs : State.Ok ps s) :
    State.Ok ps (s.postStatus l r) := by
  unfold State.postStatus
  with_reducible repeat' first | assumption | apply State.modLane_ok

theorem State.unwait_ok (s : State) (pfn : Nat) (hs : State.Ok ps s) :
    State.Ok ps (s.unwait pfn) := by
  unfold State.unwait
  with_reducible repeat' first | assumption | apply State.modNvme_ok

theorem State.unreadable_ok (s : State) (surf : Nat) (track : Nat) (frame : Nat) (cause : Nat) (hs : State.Ok ps s) :
    State.Ok ps (s.unreadable surf track frame cause) := by
  unfold State.unreadable
  with_reducible repeat'
    first
    | assumption | apply State.modNvme_ok | apply State.bump_ok | apply State.record_ok | apply State.modTier_ok
    | apply State.unwait_ok | apply State.ite_ok

theorem State.setDirect_ok (s : State) (surf : Nat) (track : Nat) (frame : Nat) (n : Nat) (hs : State.Ok ps s) :
    State.Ok ps (s.setDirect surf track frame n) := by
  unfold State.setDirect
  with_reducible repeat' first | assumption | apply State.modDecode_ok

theorem State.askReread_ok (s : State) (r : Reread) (hs : State.Ok ps s) :
    State.Ok ps (s.askReread r) := by
  unfold State.askReread
  with_reducible repeat' first | assumption | apply State.modLanes_ok

theorem State.reread_ok (s : State) (l : Nat) (c : FrameCmd) (hs : State.Ok ps s) :
    State.Ok ps (s.reread l c) := by
  unfold State.reread
  with_reducible repeat'
    first
    | assumption | apply State.unreadable_ok | apply State.setDirect_ok | apply State.askReread_ok | apply State.ite_ok

theorem State.laneAbort_ok (s : State) (l : Nat) (hs : State.Ok ps s) :
    State.Ok ps (s.laneAbort l) := by
  unfold State.laneAbort
  with_reducible repeat'
    first
    | assumption | intro _ | apply State.each_ok | apply State.postStatus_ok | apply State.reread_ok | apply State.modLane_ok
    | apply State.ite_ok

theorem State.laneAbortQueue_ok (s : State) (l : Nat) (hs : State.Ok ps s) :
    State.Ok ps (s.laneAbortQueue l) := by
  unfold State.laneAbortQueue
  with_reducible repeat'
    first
    | assumption | intro _ | apply State.each_ok | apply State.postStatus_ok | apply State.reread_ok | apply State.modLane_ok
    | apply State.ite_ok

theorem State.laneOff_ok (s : State) (l : Nat) (hs : State.Ok ps s) :
    State.Ok ps (s.laneOff l) := by
  unfold State.laneOff
  with_reducible repeat'
    first
    | assumption | apply State.laneDark_ok | apply State.laneAbort_ok | apply State.modCal_ok | apply State.clrBit_ok
    | apply State.ite_ok

theorem State.lanesOff_ok (s : State) (a : Act) (hs : State.Ok ps s) :
    State.Ok ps (s.lanesOff a) := by
  unfold State.lanesOff
  with_reducible repeat' first | assumption | intro _ | apply State.each_ok | apply State.laneOff_ok | apply State.ite_ok

theorem State.spGoto_ok (s : State) (st : Nat) (hs : State.Ok ps s) :
    State.Ok ps (s.spGoto st) := by
  unfold State.spGoto
  with_reducible repeat' first | assumption | apply State.setFld_ok | apply State.clrBit_ok | apply State.ite_ok

theorem State.spDrive_ok (s : State) (d : Drive) (hs : State.Ok ps s) :
    State.Ok ps (s.spDrive d) := by
  unfold State.spDrive
  with_reducible repeat' first | assumption | apply State.setFld_ok | apply State.modSp_ok

theorem State.spRecord_ok (s : State) (f : Fld) (hs : State.Ok ps s) :
    State.Ok ps (s.spRecord f) := by
  unfold State.spRecord
  with_reducible repeat' first | assumption | apply State.setBit_ok | apply State.record_ok

theorem State.setSlewed_ok (s : State) (m : Nat) (hs : State.Ok ps s) :
    State.Ok ps (s.setSlewed m) := by
  unfold State.setSlewed
  with_reducible repeat' first | assumption | apply State.setFld_ok | apply State.modSp_ok

theorem State.spObserve_ok (s : State) (hs : State.Ok ps s) :
    State.Ok ps (s.spObserve) := by
  unfold State.spObserve
  with_reducible repeat' first | assumption | apply State.spGoto_ok | apply State.spDrive_ok

theorem State.spStart_ok (s : State) (hs : State.Ok ps s) :
    State.Ok ps (s.spStart) := by
  unfold State.spStart
  with_reducible repeat'
    first
    | assumption | apply State.modSp_ok | apply State.clrBit_ok | apply State.modPins_ok | apply State.spObserve_ok
    | apply State.setSlewed_ok | apply State.setFld_ok

theorem State.spShort_ok (s : State) (hs : State.Ok ps s) :
    State.Ok ps (s.spShort) := by
  unfold State.spShort
  with_reducible repeat'
    first
    | assumption | apply State.setFld_ok | apply State.spDrive_ok | apply State.modSp_ok | apply State.parkBoth_ok

theorem State.spBegin_ok (s : State) (hs : State.Ok ps s) :
    State.Ok ps (s.spBegin) := by
  unfold State.spBegin
  with_reducible repeat' first | assumption | apply State.spStart_ok | apply State.modSp_ok | apply State.ite_ok

theorem State.spStop_ok (s : State) (hs : State.Ok ps s) :
    State.Ok ps (s.spStop) := by
  unfold State.spStop
  with_reducible repeat'
    first
    | assumption | apply State.parkBoth_ok | apply State.modSp_ok | apply State.spGoto_ok | apply State.spDrive_ok
    | apply State.spShort_ok | apply State.ite_ok

theorem State.retractTrigger_ok (s : State) (hs : State.Ok ps s) :
    State.Ok ps (s.retractTrigger) := by
  unfold State.retractTrigger
  with_reducible repeat'
    first
    | assumption | apply State.spDrive_ok | apply State.retractAct_ok | apply State.setFld_ok | apply State.drawFree_ok
    | apply State.modPins_ok | apply State.spGoto_ok | apply State.modSp_ok | apply State.clrBit_ok | apply State.ite_ok

theorem State.noteSpeed_ok (s : State) (v : Nat) (hs : State.Ok ps s) :
    State.Ok ps (s.noteSpeed v) := by
  unfold State.noteSpeed
  with_reducible repeat' first | assumption | apply State.setFld_ok | apply State.modSp_ok | apply State.parkBoth_ok | apply State.ite_ok

theorem State.setTarget_ok (s : State) (x2 : Nat) (hs : State.Ok ps s) :
    State.Ok ps (s.setTarget x2) := by
  unfold State.setTarget
  with_reducible repeat' first | assumption | apply State.setFld_ok | apply State.ite_ok

theorem State.adoptMapped_ok (s : State) (r : Nat) (hs : State.Ok ps s) :
    State.Ok ps (s.adoptMapped r) := by
  unfold State.adoptMapped
  with_reducible repeat' first | assumption | apply State.setTarget_ok | apply State.modSp_ok | apply State.ite_ok | split

theorem State.sourceValue_ok (s : State) (num : Nat) (den : Nat) (hs : State.Ok ps s) :
    State.Ok ps (s.sourceValue num den) := by
  unfold State.sourceValue
  with_reducible repeat'
    first
    | assumption | apply State.setFld_ok | apply State.clrBit_ok | apply State.modSp_ok | apply State.setBit_ok
    | apply State.adoptMapped_ok | apply State.ite_ok
    | (extract_lets +onlyGivenNames x; refine (fun hx => ?_ : State.Ok ps x → _) ?_; rotate_left; unfold x; clear x; rotate_right; clear_value x)
    | split

theorem State.ebEmit_ok (s : State) (id : Nat × Nat × Nat) (etime : Nat) (f : EbFrame) (hs : State.Ok ps s) :
    State.Ok ps (s.ebEmit id etime f) := by
  unfold State.ebEmit
  with_reducible repeat' first | assumption | apply State.bump_ok | apply State.modEb_ok

theorem State.ebLoad_ok (s : State) (hs : State.Ok ps s) :
    State.Ok ps (s.ebLoad) := by
  unfold State.ebLoad
  with_reducible repeat' first | assumption | apply State.modEb_ok | apply State.ite_ok | split

theorem State.ebSend_ok (s : State) (type : Nat) (dst : Option (Nat × Nat)) (body : List Byte) (hs : State.Ok ps s) :
    State.Ok ps (s.ebSend type dst body) := by
  unfold State.ebSend
  with_reducible repeat' first | assumption | apply State.ebLoad_ok | apply State.modEb_ok | apply State.ite_ok

theorem State.sendHealth_ok (s : State) (dst : Option (Nat × Nat)) (hs : State.Ok ps s) :
    State.Ok ps (s.sendHealth dst) := by
  unfold State.sendHealth
  with_reducible repeat' first | assumption | apply State.ebSend_ok

theorem State.healthWatch_ok (s : State) (hs : State.Ok ps s) :
    State.Ok ps (s.healthWatch) := by
  unfold State.healthWatch
  with_reducible repeat' first | assumption | apply State.sendHealth_ok | apply State.ite_ok

theorem State.ebTransmit_ok (s : State) (hs : State.Ok ps s) :
    State.Ok ps (s.ebTransmit) := by
  unfold State.ebTransmit
  with_reducible repeat' first | assumption | apply State.ebLoad_ok | apply State.modEb_ok | apply State.ebEmit_ok | split

theorem State.tokSync_ok (s : State) (hs : State.Ok ps s) :
    State.Ok ps (s.tokSync) := by
  unfold State.tokSync
  with_reducible repeat' first | assumption | apply State.setFld_ok | apply State.ite_ok

theorem State.tokenArrives_ok (s : State) (hs : State.Ok ps s) :
    State.Ok ps (s.tokenArrives) := by
  unfold State.tokenArrives
  with_reducible repeat' first | assumption | apply State.clrBit_ok | apply State.setBit_ok | apply State.ebSend_ok | apply State.ite_ok

theorem State.grantPump_ok (x1 : Nat) (x2 : State) (hs : State.Ok ps x2) :
    State.Ok ps (State.grantPump x1 x2) := by
  induction x1 generalizing x2 <;> unfold State.grantPump
  with_reducible repeat'
    first
    | assumption | apply State.tokSync_ok | apply State.modEb_ok | apply State.tokenArrives_ok | apply State.ebSend_ok
    | apply State.ite_ok
    | (extract_lets +onlyGivenNames x; refine (fun hx => ?_ : State.Ok ps x → _) ?_; rotate_left; unfold x; clear x; rotate_right; clear_value x)
    | split | apply_assumption

theorem State.sendTokReq_ok (s : State) (held : Bool) (hs : State.Ok ps s) :
    State.Ok ps (s.sendTokReq held) := by
  unfold State.sendTokReq
  with_reducible repeat'
    first
    | assumption | apply State.tokSync_ok | apply State.modEb_ok | apply State.grantPump_ok | apply State.ebSend_ok
    | apply State.ite_ok

theorem State.wantSpin_ok (s : State) (hs : State.Ok ps s) :
    State.Ok ps (s.wantSpin) := by
  unfold State.wantSpin
  with_reducible repeat'
    first
    | assumption | apply State.modEb_ok | apply State.sendTokReq_ok | apply State.setBit_ok | apply State.ite_ok

theorem State.returnToken_ok (s : State) (hs : State.Ok ps s) :
    State.Ok ps (s.returnToken) := by
  unfold State.returnToken
  with_reducible repeat'
    first
    | assumption | apply State.modEb_ok | apply State.clrBit_ok | apply State.grantPump_ok | apply State.ebSend_ok
    | apply State.tokSync_ok | apply State.ite_ok

theorem State.startElection_ok (s : State) (hs : State.Ok ps s) :
    State.Ok ps (s.startElection) := by
  unfold State.startElection
  with_reducible repeat'
    first
    | assumption | intro _ | apply State.setFld_ok | apply State.modEb_ok | apply State.when_ok | apply State.setBit_ok

theorem State.newEpoch_ok (s : State) (hs : State.Ok ps s) :
    State.Ok ps (s.newEpoch) := by
  unfold State.newEpoch
  with_reducible repeat' first | assumption | apply State.sendTokReq_ok | apply State.ite_ok

theorem State.becomeMaster_ok (s : State) (hs : State.Ok ps s) :
    State.Ok ps (s.becomeMaster) := by
  unfold State.becomeMaster
  with_reducible repeat'
    first
    | assumption | apply State.setFld_ok | apply State.modEb_ok | apply State.tokSync_ok | apply State.newEpoch_ok
    | apply State.ebSend_ok

theorem State.follow_ok (s : State) (bay : Nat) (node : Nat) (ep : Nat) (hs : State.Ok ps s) :
    State.Ok ps (s.follow bay node ep) := by
  unfold State.follow
  with_reducible repeat'
    first
    | assumption | apply State.setFld_ok | apply State.tokSync_ok | apply State.modEb_ok | apply State.newEpoch_ok | apply State.ite_ok

theorem State.loadSet_ok (s : State) (l : Nat) (c : ChanSet) (hs : State.Ok ps s) :
    State.Ok ps (s.loadSet l c) := by
  unfold State.loadSet
  with_reducible repeat' first | assumption | intro _ | apply State.setFld_ok | apply State.each_ok

theorem State.applySet_ok (s : State) (l : Nat) (hs : State.Ok ps s) :
    State.Ok ps (s.applySet l) := by
  unfold State.applySet
  with_reducible repeat' first | assumption | apply State.loadSet_ok

theorem State.setCause_ok (s : State) (l : Nat) (n : Nat) (hs : State.Ok ps s) :
    State.Ok ps (s.setCause l n) := by
  unfold State.setCause
  with_reducible repeat' first | assumption | apply State.modCal_ok | apply State.ite_ok

theorem State.calSync_ok (s : State) (hs : State.Ok ps s) :
    State.Ok ps (s.calSync) := by
  unfold State.calSync
  with_reducible repeat'
    first
    | assumption | intro _ | apply State.each_ok | apply State.setCause_ok | apply State.setFld_ok | apply State.ite_ok

theorem State.runSync_ok (s : State) (hs : State.Ok ps s) :
    State.Ok ps (s.runSync) := by
  unfold State.runSync
  with_reducible repeat' first | assumption | apply State.clrBit_ok | apply State.setFld_ok | apply State.ite_ok | split

theorem State.lsFree_ok (s : State) (hs : State.Ok ps s) :
    State.Ok ps (s.lsFree) := by
  unfold State.lsFree
  with_reducible repeat' first | assumption | apply State.modCal_ok | apply State.setFld_ok | apply State.clrBit_ok

theorem State.handBack_ok (s : State) (r : CalRun) (hs : State.Ok ps s) :
    State.Ok ps (s.handBack r) := by
  unfold State.handBack
  with_reducible repeat' first | assumption | apply State.modCal_ok | apply State.lsFree_ok | apply State.runSync_ok | apply State.ite_ok

theorem State.abandonRun_ok (s : State) (r : CalRun) (hs : State.Ok ps s) :
    State.Ok ps (s.abandonRun r) := by
  unfold State.abandonRun
  with_reducible repeat' first | assumption | apply State.modCal_ok | apply State.bump_ok | apply State.handBack_ok

theorem State.abandonRuns_ok (s : State) (p : CalRun → Bool) (hs : State.Ok ps s) :
    State.Ok ps (s.abandonRuns p) := by
  unfold State.abandonRuns
  with_reducible repeat' first | assumption | intro _ | apply State.each_ok | apply State.abandonRun_ok

theorem State.runRecord_ok (s : State) (r : CalRun) (result : Nat) (hs : State.Ok ps s) :
    State.Ok ps (s.runRecord r result) := by
  unfold State.runRecord
  with_reducible repeat'
    first
    | assumption | intro _ | apply State.setFld_ok | apply State.modCal_ok | apply State.calSync_ok | apply State.handBack_ok
    | apply State.each_ok | apply State.ringComplete_ok

theorem State.markDegraded_ok (s : State) (l : Nat) (x3 : Bool) (hs : State.Ok ps s) :
    State.Ok ps (s.markDegraded l x3) := by
  unfold State.markDegraded
  with_reducible repeat'
    first
    | assumption | apply State.record_ok | apply State.setFld_ok | apply State.unitFault_ok | apply State.ite_ok

theorem State.rejectRun_ok (s : State) (r : CalRun) (result : Nat) (hs : State.Ok ps s) :
    State.Ok ps (s.rejectRun r result) := by
  unfold State.rejectRun
  with_reducible repeat'
    first
    | assumption | apply State.setFld_ok | apply State.bump_ok | apply State.runRecord_ok | apply State.modCal_ok
    | apply State.markDegraded_ok | apply State.ite_ok

theorem State.calZone_ok (s : State) (hs : State.Ok ps s) :
    State.Ok ps (s.calZone) := by
  unfold State.calZone
  with_reducible repeat'
    first
    | assumption | intro _ | apply State.abandonRuns_ok | apply State.calSync_ok | apply State.each_ok | apply State.applySet_ok
    | apply State.setCause_ok | apply State.ite_ok

theorem State.wantRecon_ok (s : State) (p : Nat) (o : Option CmdRef) (hs : State.Ok ps s) :
    State.Ok ps (s.wantRecon p o) := by
  unfold State.wantRecon
  with_reducible repeat' first | assumption | apply State.modTier_ok | apply State.ite_ok

theorem State.noteBlocks_ok (s : State) (gs : List Nat) (hs : State.Ok ps s) :
    State.Ok ps (s.noteBlocks gs) := by
  unfold State.noteBlocks
  with_reducible repeat' first | assumption | intro _ | apply State.each_ok | apply State.notePages_ok | split

theorem State.readTry_ok (s : State) (m : Cmd) (hs : State.Ok ps s) :
    State.Ok ps (s.readTry m) := by
  unfold State.readTry
  with_reducible repeat'
    first
    | assumption | intro _ | apply State.when_ok | apply State.noteBlocks_ok | apply State.dataFault_ok | apply State.complete_ok
    | apply State.each_ok | apply State.wantRecon_ok | apply State.hostWrite_ok | apply State.ite_ok

theorem State.resumeReads_ok (s : State) (hs : State.Ok ps s) :
    State.Ok ps (s.resumeReads) := by
  unfold State.resumeReads
  with_reducible repeat' first | assumption | intro _ | apply State.each_ok | apply State.readTry_ok | split

theorem State.frameRestored_ok (s : State) (p : Nat) (slots : List (List Byte)) (hs : State.Ok ps s) :
    State.Ok ps (s.frameRestored p slots) := by
  unfold State.frameRestored
  with_reducible repeat' first | assumption | apply State.modTier_ok | apply State.resumeReads_ok | apply State.ite_ok

theorem State.poolFrame_ok (s : State) (p : Nat) (bytes : List Byte) (hs : State.Ok ps s) :
    State.Ok ps (s.poolFrame p bytes) := by
  unfold State.poolFrame
  with_reducible repeat' first | assumption | apply State.modMap_ok | apply State.frameRestored_ok | apply State.ite_ok

end Sys2Proof.Machine
end

