-- ==== Sys2Proof/Laws/KeepParts.lean ====
section
/-! SUPPORT. Every operation and every meaning keeps the queue and the canonical form of the stores (`State.Ok`):
the cache, helpers, deep decode, the pool, domains, faults, the log, security, movers, host and rings.
Each lemma follows the steps of its definition, with the lemmas of what that calls. -/
namespace Sys2Proof.Machine

variable {ps : List Instr}

theorem State.setLine_ok (s : State) (key : Nat) (l : Option CacheLine) (hs : State.Ok ps s) :
    State.Ok ps (s.setLine key l) := by
  unfold State.setLine
  with_reducible repeat' first | assumption | apply State.modCache_ok

theorem State.plruUse_ok (s : State) (key : Nat) (hs : State.Ok ps s) :
    State.Ok ps (s.plruUse key) := by
  unfold State.plruUse
  with_reducible repeat' first | assumption | apply State.modCache_ok

theorem State.cacheSync_ok (s : State) (hs : State.Ok ps s) :
    State.Ok ps (s.cacheSync) := by
  unfold State.cacheSync
  with_reducible repeat' first | assumption | apply State.setFld_ok

theorem State.caNote_ok (s : State) (la : Nat) (k : Nat) (who : Nat) (d : Decoded) (hs : State.Ok ps s) :
    State.Ok ps (s.caNote la k who d) := by
  unfold State.caNote
  with_reducible repeat'
    first
    | assumption | apply State.bump_ok | apply State.setFld_ok | apply State.setBit_ok | apply State.ite_ok
    | (extract_lets +onlyGivenNames x; refine (fun hx => ?_ : State.Ok ps x → _) ?_; rotate_left; unfold x; clear x; rotate_right; clear_value x)
    | split

theorem State.writeBack_ok (s : State) (f : MemFaults) (la : Nat) (words : List Code80) (hs : State.Ok ps s) :
    State.Ok ps (s.writeBack f la words) := by
  unfold State.writeBack
  with_reducible repeat'
    first
    | assumption | intro _ | apply State.each_ok | apply State.phyBad_ok | apply State.putWord_ok | apply State.ite_ok

theorem State.unblock_ok (s : State) (who : Nat) (hs : State.Ok ps s) :
    State.Ok ps (s.unblock who) := by
  unfold State.unblock
  with_reducible repeat' first | assumption | apply State.modHelper_ok | apply State.modSteward_ok | apply State.ite_ok

theorem State.block_ok (s : State) (who : Nat) (hs : State.Ok ps s) :
    State.Ok ps (s.block who) := by
  unfold State.block
  with_reducible repeat' first | assumption | apply State.modHelper_ok | apply State.modSteward_ok | apply State.ite_ok

theorem State.deliver_ok (s : State) (who : Nat) (dst : Nat) (total : Nat) (reg : Nat) (r : ReadBytes) (hs : State.Ok ps s) :
    State.Ok ps (s.deliver who dst total reg r) := by
  unfold State.deliver
  with_reducible repeat' first | assumption | apply State.modHelper_ok | apply State.modSteward_ok | apply State.ite_ok

theorem State.tellBad_ok (s : State) (who : Nat) (bad : Bool) (hs : State.Ok ps s) :
    State.Ok ps (s.tellBad who bad) := by
  unfold State.tellBad
  with_reducible repeat' first | assumption | apply State.modHelper_ok | apply State.modSteward_ok | apply State.ite_ok

theorem State.install_ok (s : State) (la : Nat) (words : List Code80) (dirty : Bool) (hs : State.Ok ps s) :
    State.Ok ps (s.install la words dirty) := by
  unfold State.install
  with_reducible repeat'
    first
    | assumption | apply State.modCache_ok | apply State.plruUse_ok | apply State.setLine_ok | apply State.ite_ok | split

theorem State.dropEv_ok (s : State) (la : Nat) (hs : State.Ok ps s) :
    State.Ok ps (s.dropEv la) := by
  unfold State.dropEv
  with_reducible repeat' first | assumption | apply State.modCache_ok

theorem State.wbFinish_ok (s : State) (f : MemFaults) (x3 : EvEntry) (hs : State.Ok ps s) :
    State.Ok ps (s.wbFinish f x3) := by
  unfold State.wbFinish
  with_reducible repeat'
    first
    | assumption | intro _ | apply State.writeBack_ok | apply State.modCache_ok | apply State.each_ok | apply State.unblock_ok

theorem State.recallEv_ok (s : State) (f : MemFaults) (x3 : EvEntry) (hs : State.Ok ps s) :
    State.Ok ps (s.recallEv f x3) := by
  unfold State.recallEv
  with_reducible repeat'
    first
    | assumption | intro _ | apply State.when_ok | apply State.dropEv_ok | apply State.wbFinish_ok | apply State.bump_ok
    | apply State.install_ok

theorem State.dropSide_ok (s : State) (la : Nat) (hs : State.Ok ps s) :
    State.Ok ps (s.dropSide la) := by
  unfold State.dropSide
  with_reducible repeat' first | assumption | apply State.modCache_ok

theorem State.addFill_ok (s : State) (f : Fill) (hs : State.Ok ps s) :
    State.Ok ps (s.addFill f) := by
  unfold State.addFill
  with_reducible repeat' first | assumption | apply State.modCache_ok

theorem State.firstUse_ok (s : State) (la : Nat) (words : List Code80) (hs : State.Ok ps s) :
    State.Ok ps (s.firstUse la words) := by
  unfold State.firstUse
  with_reducible repeat' first | assumption | apply State.bump_ok | apply State.install_ok

theorem State.promoteSide_ok (s : State) (l : CacheLine) (hs : State.Ok ps s) :
    State.Ok ps (s.promoteSide l) := by
  unfold State.promoteSide
  with_reducible repeat' first | assumption | apply State.firstUse_ok | apply State.dropSide_ok

theorem State.park_ok (s : State) (la : Nat) (words : List Code80) (prefetch : Bool) (r : CacheReq) (hs : State.Ok ps s) :
    State.Ok ps (s.park la words prefetch r) := by
  unfold State.park
  with_reducible repeat' first | assumption | apply State.block_ok | apply State.addFill_ok

theorem State.prefetch_ok (s : State) (trig : Nat) (p : Int) (hs : State.Ok ps s) :
    State.Ok ps (s.prefetch trig p) := by
  unfold State.prefetch
  with_reducible repeat' first | assumption | apply State.bump_ok | apply State.addFill_ok | apply State.ite_ok

theorem State.releaseHeld_ok (s : State) (hs : State.Ok ps s) :
    State.Ok ps (s.releaseHeld) := by
  unfold State.releaseHeld
  with_reducible repeat' first | assumption | apply State.modCache_ok

theorem State.streamMiss_ok (s : State) (who : Nat) (la : Nat) (hs : State.Ok ps s) :
    State.Ok ps (s.streamMiss who la) := by
  unfold State.streamMiss
  with_reducible repeat'
    first
    | assumption | intro _ | apply State.modCache_ok | apply State.each_ok | apply State.prefetch_ok | apply State.ite_ok

theorem State.streamUse_ok (s : State) (who : Nat) (la : Nat) (hs : State.Ok ps s) :
    State.Ok ps (s.streamUse who la) := by
  unfold State.streamUse
  with_reducible repeat' first | assumption | intro _ | apply State.each_ok | apply State.modCache_ok | apply State.prefetch_ok | split

theorem State.parityLine_ok (s : State) (f : MemFaults) (la : Nat) (hs : State.Ok ps s) :
    State.Ok ps (s.parityLine f la).1 := by
  unfold State.parityLine
  with_reducible repeat'
    first
    | assumption | apply State.record_ok | apply State.modCache_ok | apply State.setLine_ok | apply State.ite_fst_ok | split

theorem State.parityLine_ok' {s : State} {f : MemFaults} {la : Nat} {t : State} {b : Bool} (e : State.parityLine s f la = (t, b))
    (hs : State.Ok ps s) : State.Ok ps t := by
  have h := State.parityLine_ok (ps := ps) s f la hs
  rw [e] at h
  exact h

theorem State.lineOpValid_ok (s : State) (f : MemFaults) (op : Nat) (key : Nat) (l : CacheLine) (hs : State.Ok ps s) :
    State.Ok ps (s.lineOpValid f op key l) := by
  unfold State.lineOpValid
  with_reducible repeat'
    first
    | assumption | intro _ | apply State.setLine_ok | apply State.writeBack_ok | apply State.when_ok | apply State.ite_ok

theorem State.rmwNote_ok (s : State) (l : CacheLine) (off : Nat) (data : List Byte) (who : Nat) (hs : State.Ok ps s) :
    State.Ok ps (s.rmwNote l off data who) := by
  unfold State.rmwNote
  with_reducible repeat' first | assumption | intro _ | apply State.each_ok | apply State.caNote_ok | apply State.ite_ok

theorem State.readNote_ok (s : State) (l : CacheLine) (off : Nat) (n : Nat) (who : Nat) (hs : State.Ok ps s) :
    State.Ok ps (s.readNote l off n who) := by
  unfold State.readNote
  with_reducible repeat' first | assumption | intro _ | apply State.each_ok | apply State.caNote_ok

theorem State.mergeLine_ok (s : State) (who : Nat) (key : Nat) (l : CacheLine) (off : Nat) (d : List Byte) (hs : State.Ok ps s) :
    State.Ok ps (s.mergeLine who key l off d) := by
  unfold State.mergeLine
  with_reducible repeat' first | assumption | apply State.setLine_ok | apply State.rmwNote_ok

theorem State.serveLine_ok (s : State) (f : MemFaults) (who : Nat) (a : Nat) (op : CacheOp) (key : Nat) (l : CacheLine)
    (hs : State.Ok ps s) :
    State.Ok ps (s.serveLine f who a op key l) := by
  unfold State.serveLine
  with_reducible repeat'
    first
    | assumption | apply State.deliver_ok | apply State.readNote_ok | apply State.plruUse_ok | apply State.tellBad_ok
    | apply State.mergeLine_ok | apply State.lineOpValid_ok | split

theorem State.serveAt_ok (s : State) (r : CacheReq) (hs : State.Ok ps s) :
    State.Ok ps (s.serveAt r) := by
  unfold State.serveAt
  with_reducible repeat' first | assumption | apply State.serveLine_ok | split

theorem State.seqNote_ok (s : State) (who : Nat) (la : Nat) (hs : State.Ok ps s) :
    State.Ok ps (s.seqNote who la) := by
  unfold State.seqNote
  with_reducible repeat' first | assumption | apply State.modCache_ok

theorem State.joinFill_ok (s : State) (f : Fill) (r : CacheReq) (hs : State.Ok ps s) :
    State.Ok ps (s.joinFill f r) := by
  unfold State.joinFill
  with_reducible repeat'
    first
    | assumption | intro _ | apply State.modCache_ok | apply State.block_ok | apply State.when_ok | apply State.bump_ok

theorem State.missFill_ok (s : State) (r : CacheReq) (hs : State.Ok ps s) :
    State.Ok ps (s.missFill r) := by
  unfold State.missFill
  with_reducible repeat' first | assumption | apply State.block_ok | apply State.bump_ok | apply State.addFill_ok

theorem State.streamStore_ok (s : State) (r : CacheReq) (hs : State.Ok ps s) :
    State.Ok ps (s.streamStore r) := by
  unfold State.streamStore
  with_reducible repeat' first | assumption | apply State.tellBad_ok | apply State.bump_ok | apply State.hbmStore_ok | split

theorem State.lineAccess_ok (s : State) (r : CacheReq) (hs : State.Ok ps s) :
    State.Ok ps (s.lineAccess r) := by
  unfold State.lineAccess
  with_reducible repeat'
    first
    | assumption | intro _ | apply State.when_ok | apply State.seqNote_ok | apply State.streamUse_ok | apply State.serveAt_ok
    | apply State.bump_ok | apply State.recallEv_ok | apply State.promoteSide_ok | apply State.park_ok | apply State.dropSide_ok
    | apply State.joinFill_ok | apply State.streamMiss_ok | apply State.streamStore_ok | apply State.missFill_ok | apply State.ite_ok
    | split

theorem State.partAccess_ok (s : State) (r : CacheReq) (hs : State.Ok ps s) :
    State.Ok ps (s.partAccess r) := by
  unfold State.partAccess
  with_reducible repeat'
    first
    | assumption | apply State.parityLine_ok | apply State.lineAccess_ok | apply State.deliver_ok | apply State.hbmNote_ok
    | apply State.tellBad_ok | apply State.hbmStore_ok | apply State.ite_ok | split

theorem State.thenMore_ok (s : State) (r : CacheReq) (hs : State.Ok ps s) :
    State.Ok ps (s.thenMore r) := by
  unfold State.thenMore
  with_reducible repeat' first | assumption | apply State.partAccess_ok | apply State.ite_ok | split

theorem State.zeroLine_ok (s : State) (r : CacheReq) (hs : State.Ok ps s) :
    State.Ok ps (s.zeroLine r) := by
  unfold State.zeroLine
  with_reducible repeat' first | assumption | apply State.install_ok | apply State.park_ok | apply State.ite_ok

theorem State.lineOp_ok (s : State) (r : CacheReq) (op : Nat) (hs : State.Ok ps s) :
    State.Ok ps (s.lineOp r op) := by
  unfold State.lineOp
  with_reducible repeat'
    first
    | assumption | intro _ | apply State.parityLine_ok | apply State.serveAt_ok | apply State.joinFill_ok | apply State.install_ok
    | apply State.when_ok | apply State.dropEv_ok | apply State.wbFinish_ok | apply State.block_ok | apply State.modCache_ok
    | apply State.promoteSide_ok | apply State.park_ok | apply State.dropSide_ok | apply State.zeroLine_ok | apply State.ite_ok
    | (extract_lets +onlyGivenNames x; refine (fun hx => ?_ : State.Ok ps x → _) ?_; rotate_left; unfold x; clear x; rotate_right; clear_value x)
    | split

theorem State.lineOpUncached_ok (s : State) (f : MemFaults) (a : Nat) (op : Nat) (hs : State.Ok ps s) :
    State.Ok ps (s.lineOpUncached f a op) := by
  unfold State.lineOpUncached
  with_reducible repeat' first | assumption | apply State.writeBack_ok | apply State.ite_ok

theorem State.applyReq_ok (s : State) (r : CacheReq) (hs : State.Ok ps s) :
    State.Ok ps (s.applyReq r) := by
  unfold State.applyReq
  with_reducible repeat'
    first
    | assumption | apply State.unblock_ok | apply State.lineOp_ok | apply State.thenMore_ok | apply State.serveAt_ok
    | apply State.partAccess_ok | apply State.ite_ok
    | (extract_lets +onlyGivenNames x; refine (fun hx => ?_ : State.Ok ps x → _) ?_; rotate_left; unfold x; clear x; rotate_right; clear_value x)
    | split

theorem State.finishFill_ok (s : State) (f : Fill) (hs : State.Ok ps s) :
    State.Ok ps (s.finishFill f) := by
  unfold State.finishFill
  with_reducible repeat'
    first
    | assumption | intro _ | apply State.modCache_ok | apply State.each_ok | apply State.firstUse_ok | apply State.install_ok
    | apply State.applyReq_ok | apply State.ite_ok
    | (extract_lets +onlyGivenNames x; refine (fun hx => ?_ : State.Ok ps x → _) ?_; rotate_left; unfold x; clear x; rotate_right; clear_value x)
    | split

theorem State.settleFills_ok (x1 : Nat) (x2 : State) (hs : State.Ok ps x2) :
    State.Ok ps (State.settleFills x1 x2) := by
  induction x1 generalizing x2 <;> unfold State.settleFills
  with_reducible repeat' first | assumption | apply State.finishFill_ok | split | apply_assumption

theorem State.cacheSettle_ok (s : State) (hs : State.Ok ps s) :
    State.Ok ps (s.cacheSettle) := by
  unfold State.cacheSettle
  with_reducible repeat' first | assumption | apply State.cacheSync_ok | apply State.releaseHeld_ok | apply State.settleFills_ok

theorem State.cacheRequest_ok (s : State) (r : CacheReq) (hs : State.Ok ps s) :
    State.Ok ps (s.cacheRequest r) := by
  unfold State.cacheRequest
  with_reducible repeat' first | assumption | apply State.cacheSettle_ok | apply State.thenMore_ok | apply State.partAccess_ok

theorem State.fillCome_ok (s : State) (f : MemFaults) (la : Nat) (hs : State.Ok ps s) :
    State.Ok ps (s.fillCome f la) := by
  unfold State.fillCome
  with_reducible repeat' first | assumption | apply State.hbmNote_ok | apply State.modCache_ok

theorem State.wbDone_ok (s : State) (f : MemFaults) (la : Nat) (hs : State.Ok ps s) :
    State.Ok ps (s.wbDone f la) := by
  unfold State.wbDone
  with_reducible repeat' first | assumption | apply State.cacheSettle_ok | apply State.wbFinish_ok | apply State.dropEv_ok | split

theorem State.cleanAll_ok (s : State) (f : MemFaults) (hs : State.Ok ps s) :
    State.Ok ps (s.cleanAll f) := by
  unfold State.cleanAll
  with_reducible repeat'
    first
    | assumption | intro _ | apply State.each_ok | apply State.setLine_ok | apply State.writeBack_ok | apply State.ite_ok | split

theorem State.drainCache_ok (x1 : Nat) (x2 : State) (hs : State.Ok ps x2) :
    State.Ok ps (State.drainCache x1 x2) := by
  induction x1 generalizing x2 <;> unfold State.drainCache
  with_reducible repeat'
    first
    | assumption | intro _ | apply State.cleanAll_ok | apply State.each_ok | apply State.wbDone_ok | apply State.ite_ok
    | (extract_lets +onlyGivenNames x; refine (fun hx => ?_ : State.Ok ps x → _) ?_; rotate_left; unfold x; clear x; rotate_right; clear_value x)
    | apply_assumption

theorem State.cacheWriteBackAll_ok (s : State) (hs : State.Ok ps s) :
    State.Ok ps (s.cacheWriteBackAll) := by
  unfold State.cacheWriteBackAll
  with_reducible repeat' first | assumption | apply State.cacheSync_ok | apply State.drainCache_ok

theorem State.cacheClear_ok (s : State) (hs : State.Ok ps s) :
    State.Ok ps (s.cacheClear) := by
  unfold State.cacheClear
  with_reducible repeat' first | assumption | apply State.cacheSync_ok | apply State.modCache_ok

theorem State.moverReadNote_ok (s : State) (f : MemFaults) (a : Nat) (n : Nat) (hs : State.Ok ps s) :
    State.Ok ps (s.moverReadNote f a n) := by
  unfold State.moverReadNote
  with_reducible repeat' first | assumption | intro _ | apply State.each_ok | apply State.readNote_ok | apply State.hbmNote_ok | split

theorem State.moverBadNote_ok (s : State) (f : MemFaults) (a : Nat) (d : List Byte) (hs : State.Ok ps s) :
    State.Ok ps (s.moverBadNote f a d) := by
  unfold State.moverBadNote
  with_reducible repeat' first | assumption | intro _ | apply State.each_ok | apply State.rmwNote_ok | apply State.storeNote_ok | split

theorem State.moverWriteLine_ok (s : State) (f : MemFaults) (a : Nat) (d : List Byte) (hs : State.Ok ps s) :
    State.Ok ps (s.moverWriteLine f a d) := by
  unfold State.moverWriteLine
  with_reducible repeat'
    first
    | assumption | apply State.recallEv_ok | apply State.mergeLine_ok | apply State.hbmStore_ok | apply State.dropSide_ok
    | (extract_lets +onlyGivenNames x; refine (fun hx => ?_ : State.Ok ps x → _) ?_; rotate_left; unfold x; clear x; rotate_right; clear_value x)
    | (extract_lets +onlyGivenNames x; clear_value x) | split

theorem State.moverWrite_ok (s : State) (f : MemFaults) (a : Nat) (data : List Byte) (hs : State.Ok ps s) :
    State.Ok ps (s.moverWrite f a data) := by
  unfold State.moverWrite
  with_reducible repeat' first | assumption | intro _ | apply State.cacheSettle_ok | apply State.each_ok | apply State.moverWriteLine_ok

theorem State.moverParity_ok (s : State) (f : MemFaults) (a : Nat) (n : Nat) (hs : State.Ok ps s) :
    State.Ok ps (s.moverParity f a n).1 := by
  unfold State.moverParity
  with_reducible repeat' first | assumption | intro _ | apply State.parityLine_ok | apply State.ite_fst_ok | apply State.foldl_fst_ok

theorem State.moverParity_ok' {s : State} {f : MemFaults} {a : Nat} {n : Nat} {t : State} {b : Bool} (e : State.moverParity s f a n =
    (t, b)) (hs : State.Ok ps s) : State.Ok ps t := by
  have h := State.moverParity_ok (ps := ps) s f a n hs
  rw [e] at h
  exact h

theorem State.heSync_ok (s : State) (h : Nat) (hs : State.Ok ps s) :
    State.Ok ps (s.heSync h) := by
  unfold State.heSync
  with_reducible repeat' first | assumption | apply State.setFld_ok

theorem State.countReturn_ok (s : State) (dst : Nat) (status : Nat) (hs : State.Ok ps s) :
    State.Ok ps (s.countReturn dst status) := by
  unfold State.countReturn
  with_reducible repeat' first | assumption | apply State.bump_ok | apply State.ite_ok

theorem State.returnMsg_ok (s : State) (m : Msg) (status : Nat) (hs : State.Ok ps s) :
    State.Ok ps (s.returnMsg m status) := by
  unfold State.returnMsg
  with_reducible repeat' first | assumption | apply State.modFabric_ok | apply State.countReturn_ok

theorem State.enterInbox_ok (s : State) (m : Msg) (hs : State.Ok ps s) :
    State.Ok ps (s.enterInbox m) := by
  unfold State.enterInbox
  with_reducible repeat'
    first
    | assumption | apply State.modSteward_ok | apply State.heSync_ok | apply State.modHelper_ok | apply State.ite_ok

theorem State.fabricTake_ok (s : State) (m : Msg) (hs : State.Ok ps s) :
    State.Ok ps (s.fabricTake m) := by
  unfold State.fabricTake
  with_reducible repeat'
    first
    | assumption | apply State.returnMsg_ok | apply State.enterInbox_ok | apply State.modFabric_ok | apply State.ite_ok | split

theorem State.deviceMsg_ok (s : State) (src : Nat) (dst : Nat) (type : Nat) (tag : Nat) (payload : List Byte) (hs : State.Ok ps s) :
    State.Ok ps (s.deviceMsg src dst type tag payload) := by
  unfold State.deviceMsg
  with_reducible repeat' first | assumption | apply State.fabricTake_ok

theorem State.flushInbox_ok (s : State) (h : Nat) (hs : State.Ok ps s) :
    State.Ok ps (s.flushInbox h) := by
  unfold State.flushInbox
  with_reducible repeat'
    first
    | assumption | intro _ | apply State.modFabric_ok | apply State.modHelper_ok | apply State.heSync_ok | apply State.each_ok
    | apply State.returnMsg_ok

theorem State.abortWork_ok (s : State) (h : Nat) (hs : State.Ok ps s) :
    State.Ok ps (s.abortWork h) := by
  unfold State.abortWork
  with_reducible repeat' first | assumption | intro _ | apply State.modHelper_ok | apply State.each_ok | apply State.returnMsg_ok

theorem State.showPatch_ok (s : State) (h : Nat) (p : PatchSet) (hs : State.Ok ps s) :
    State.Ok ps (s.showPatch h p) := by
  unfold State.showPatch
  with_reducible repeat' first | assumption | intro _ | apply State.setFld_ok | apply State.each_ok | apply State.setReg_ok | split

theorem State.heSwap_ok (s : State) (h : Nat) (hs : State.Ok ps s) :
    State.Ok ps (s.heSwap h) := by
  unfold State.heSwap
  with_reducible repeat' first | assumption | apply State.modHelper_ok | apply State.showPatch_ok | apply State.setFld_ok | split

theorem State.stSwap_ok (s : State) (hs : State.Ok ps s) :
    State.Ok ps (s.stSwap) := by
  unfold State.stSwap
  with_reducible repeat'
    first
    | assumption | intro _ | apply State.setFld_ok | apply State.modSteward_ok | apply State.each_ok | apply State.setReg_ok | split

theorem State.swapSignal_ok (s : State) (r : Nat) (hs : State.Ok ps s) :
    State.Ok ps (s.swapSignal r) := by
  unfold State.swapSignal
  with_reducible repeat'
    first
    | assumption | intro _ | apply State.each_ok | apply State.heSwap_ok | apply State.modHelper_ok | apply State.ite_ok

theorem State.swapGo_ok (x1 : Nat) (x2 : State) (hs : State.Ok ps x2) :
    State.Ok ps (State.swapGo x1 x2) := by
  induction x1 generalizing x2 <;> unfold State.swapGo
  with_reducible repeat'
    first
    | assumption | apply State.swapSignal_ok | apply State.modFabric_ok | apply State.ite_ok | split | apply_assumption

theorem State.dropRequests_ok (s : State) (h : Nat) (hs : State.Ok ps s) :
    State.Ok ps (s.dropRequests h) := by
  unfold State.dropRequests
  with_reducible repeat' first | assumption | apply State.modCache_ok

theorem State.heHalt_ok (s : State) (h : Nat) (hs : State.Ok ps s) :
    State.Ok ps (s.heHalt h) := by
  unfold State.heHalt
  with_reducible repeat'
    first
    | assumption | apply State.swapGo_ok | apply State.setFld_ok | apply State.modHelper_ok | apply State.dropRequests_ok
    | apply State.flushInbox_ok

theorem State.heFault_ok (s : State) (h : Nat) (cause : Nat) (space : Nat) (addr : Nat) (hs : State.Ok ps s) :
    State.Ok ps (s.heFault h cause space addr) := by
  unfold State.heFault
  with_reducible repeat'
    first
    | assumption | apply State.modHelper_ok | apply State.dropRequests_ok | apply State.flushInbox_ok | apply State.setFld_ok
    | apply State.swapGo_ok | apply State.record_ok

theorem State.stageSteward_ok (s : State) (x2 : List Byte) (hs : State.Ok ps s) :
    State.Ok ps (s.stageSteward x2) := by
  unfold State.stageSteward
  with_reducible repeat' first | assumption | intro _ | apply State.modSteward_ok | apply State.each_ok | apply State.putWord_ok | split

theorem State.stageBundle_ok (s : State) (x2 : List Byte) (hs : State.Ok ps s) :
    State.Ok ps (s.stageBundle x2) := by
  unfold State.stageBundle
  with_reducible repeat'
    first
    | assumption | intro _ | apply State.stageSteward_ok | apply State.each_ok | apply State.modHelper_ok | apply State.ite_ok

theorem State.modExtent_ok (s : State) (x2 : Nat) (f : Extent → Extent) (hs : State.Ok ps s) :
    State.Ok ps (s.modExtent x2 f) := by
  unfold State.modExtent
  with_reducible repeat' first | assumption | apply State.modDecode_ok

theorem State.ssSync_ok (s : State) (hs : State.Ok ps s) :
    State.Ok ps (s.ssSync) := by
  unfold State.ssSync
  with_reducible repeat' first | assumption | apply State.setFld_ok

theorem State.takeExtent_ok (s : State) (hs : State.Ok ps s) :
    State.Ok ps (s.takeExtent).1 := by
  unfold State.takeExtent
  with_reducible repeat'
    first
    | assumption | apply State.ssSync_ok | apply State.modExtent_ok | apply State.keepBest_ok | apply State.modDecode_ok | split

theorem State.takeExtent_ok' {s : State} {t : State} {b : Option Nat} (e : State.takeExtent s = (t, b))
    (hs : State.Ok ps s) : State.Ok ps t := by
  have h := State.takeExtent_ok (ps := ps) s hs
  rw [e] at h
  exact h

theorem State.pin_ok' {p : List Instr} {x1 : State} {x2 : List Nat} {t : State} (e : State.pin x1 x2 = some t)
    (h1 : State.Ok p x1) : State.Ok p t := by
  unfold State.pin at e
  dsimp only at e
  split at e
  · cases e
  · cases e
    exact State.ssSync_ok _ (State.each_ok _ _ h1 (fun t ht x => State.modExtent_ok _ _ _ ht))

theorem State.unpin_ok (s : State) (es : List Nat) (hs : State.Ok ps s) :
    State.Ok ps (s.unpin es) := by
  unfold State.unpin
  with_reducible repeat' first | assumption | intro _ | apply State.ssSync_ok | apply State.each_ok | apply State.modExtent_ok

theorem State.putIndex_ok (s : State) (i : IndexEntry) (hs : State.Ok ps s) :
    State.Ok ps (s.putIndex i) := by
  unfold State.putIndex
  with_reducible repeat' first | assumption | apply State.setFld_ok | apply State.modDecode_ok

theorem State.ddSync_ok (s : State) (hs : State.Ok ps s) :
    State.Ok ps (s.ddSync) := by
  unfold State.ddSync
  with_reducible repeat'
    first
    | assumption | intro _ | apply State.each_ok | apply State.setFld_ok | apply State.setFldBit_ok | apply State.setReg_ok | split

theorem State.enqueue_ok (s : State) (r : Recovery) (hs : State.Ok ps s) :
    State.Ok ps (s.enqueue r) := by
  unfold State.enqueue
  with_reducible repeat' first | assumption | apply State.ddSync_ok | apply State.modDecode_ok

theorem State.hold_ok (s : State) (r : Recovery) (hs : State.Ok ps s) :
    State.Ok ps (s.hold r) := by
  unfold State.hold
  with_reducible repeat' first | assumption | apply State.ddSync_ok | apply State.modDecode_ok

theorem State.dropRecovery_ok (s : State) (r : Recovery) (hs : State.Ok ps s) :
    State.Ok ps (s.dropRecovery r) := by
  unfold State.dropRecovery
  with_reducible repeat' first | assumption | apply State.ddSync_ok | apply State.unpin_ok | apply State.modDecode_ok

theorem State.proceed_ok (s : State) (r : Recovery) (hs : State.Ok ps s) :
    State.Ok ps (s.proceed r) := by
  unfold State.proceed
  with_reducible repeat' first | assumption | apply State.hold_ok | apply State.enqueue_ok | apply State.ite_ok

theorem State.recovered_ok (s : State) (r : Recovery) (hs : State.Ok ps s) :
    State.Ok ps (s.recovered r) := by
  unfold State.recovered
  with_reducible repeat'
    first
    | assumption | apply State.dropRecovery_ok | apply State.bump_ok | apply State.resumeReads_ok | apply State.unwait_ok
    | apply State.ite_ok

theorem State.giveUp_ok (s : State) (r : Recovery) (cause : Nat) (hs : State.Ok ps s) :
    State.Ok ps (s.giveUp r cause) := by
  unfold State.giveUp
  with_reducible repeat' first | assumption | apply State.resumeReads_ok | apply State.unreadable_ok | apply State.dropRecovery_ok

theorem State.askPass_ok (s : State) (r : Recovery) (kind : Nat) (hs : State.Ok ps s) :
    State.Ok ps (s.askPass r kind) := by
  unfold State.askPass
  with_reducible repeat' first | assumption | apply State.askReread_ok | apply State.bump_ok | apply State.hold_ok

theorem State.ladder_ok (x1 : Nat) (x2 : State) (x3 : Recovery) (x4 : Nat) (hs : State.Ok ps x2) :
    State.Ok ps (State.ladder x1 x2 x3 x4) := by
  induction x1 generalizing x2 x3 x4 <;> unfold State.ladder
  with_reducible repeat'
    first
    | assumption | apply State.giveUp_ok | apply State.askPass_ok | apply State.modDecode_ok | apply State.proceed_ok
    | apply State.bump_ok | apply State.hold_ok | apply State.askReread_ok | (apply State.pin_ok'; assumption) | apply State.ite_ok
    | (extract_lets +onlyGivenNames x; clear_value x) | split | apply_assumption

theorem State.climb_ok (s : State) (r : Recovery) (n : Nat) (hs : State.Ok ps s) :
    State.Ok ps (s.climb r n) := by
  unfold State.climb
  with_reducible repeat' first | assumption | apply State.ladder_ok

theorem State.nextStep_ok (s0 : State) (r0 : Recovery) (hs : State.Ok ps s0) :
    State.Ok ps (s0.nextStep r0) := by
  unfold State.nextStep
  with_reducible repeat'
    first
    | assumption | apply State.unpin_ok | apply State.hold_ok | apply State.climb_ok | apply State.ite_ok
    | (extract_lets +onlyGivenNames x; refine (fun hx => ?_ : State.Ok ps x → _) ?_; rotate_left; unfold x; clear x; rotate_right; clear_value x)
    | (extract_lets +onlyGivenNames x; clear_value x) | split

theorem State.escalate_ok (s : State) (r0 : Recovery) (h : Nat) (hs : State.Ok ps s) :
    State.Ok ps (s.escalate r0 h) := by
  unfold State.escalate
  with_reducible repeat'
    first
    | assumption | apply State.enqueue_ok | apply State.modDecode_ok | apply State.climb_ok | apply State.bump_ok
    | (apply State.pin_ok'; assumption) | apply State.ite_ok
    | (extract_lets +onlyGivenNames x; have : ∀ y, x y = x y := fun _ => rfl; clear this; unfold x; clear x) | split

theorem State.cancelRecovery_ok (s : State) (surf : Nat) (track : Nat) (frame : Nat) (hs : State.Ok ps s) :
    State.Ok ps (s.cancelRecovery surf track frame) := by
  unfold State.cancelRecovery
  with_reducible repeat' first | assumption | apply State.modLanes_ok | apply State.dropRecovery_ok | split

theorem State.cancelPfn_ok (s : State) (p : Nat) (hs : State.Ok ps s) :
    State.Ok ps (s.cancelPfn p) := by
  unfold State.cancelPfn
  with_reducible repeat' first | assumption | intro _ | apply State.each_ok | apply State.cancelRecovery_ok

theorem State.reenter_ok (s : State) (h : Nat) (hs : State.Ok ps s) :
    State.Ok ps (s.reenter h) := by
  unfold State.reenter
  with_reducible repeat' first | assumption | intro _ | apply State.each_ok | apply State.enqueue_ok

theorem State.plSync_ok (s : State) (hs : State.Ok ps s) :
    State.Ok ps (s.plSync) := by
  unfold State.plSync
  with_reducible repeat' first | assumption | apply State.setFld_ok

theorem State.ewPut_ok (s : State) (f : EwFrame) (hs : State.Ok ps s) :
    State.Ok ps (s.ewPut f) := by
  unfold State.ewPut
  with_reducible repeat' first | assumption | apply State.modPool_ok

theorem State.ewSend_ok (s : State) (type : Nat) (dst : Nat) (xid : Nat) (body : List Byte) (hs : State.Ok ps s) :
    State.Ok ps (s.ewSend type dst xid body) := by
  unfold State.ewSend
  with_reducible repeat' first | assumption | apply State.ewPut_ok

theorem State.ewReply_ok (s : State) (h : EwHdr) (type : Nat) (status : Nat) (body : List Byte) (hs : State.Ok ps s) :
    State.Ok ps (s.ewReply h type status body) := by
  unfold State.ewReply
  with_reducible repeat' first | assumption | apply State.ewPut_ok

theorem State.ewGroup_ok (s : State) (port : Nat) (grp : Nat) (type : Nat) (xid : Nat) (body : List Byte) (hs : State.Ok ps s) :
    State.Ok ps (s.ewGroup port grp type xid body) := by
  unfold State.ewGroup
  with_reducible repeat' first | assumption | apply State.ewPut_ok

theorem State.freshXid_ok (s : State) (hs : State.Ok ps s) :
    State.Ok ps (s.freshXid).1 := by
  unfold State.freshXid
  with_reducible repeat' first | assumption | apply State.modPool_ok

theorem State.freshXid_ok' {s : State} {t : State} {b : Nat} (e : State.freshXid s = (t, b)) (hs : State.Ok ps s) : State.Ok ps t := by
  have h := State.freshXid_ok (ps := ps) s hs
  rw [e] at h
  exact h

theorem State.ewAccept_ok (s : State) (h : EwHdr) (type : Nat) (f : State → State) (hs : State.Ok ps s)
    (h4 : ∀ y0, State.Ok ps y0 → State.Ok ps (f y0)) :
    State.Ok ps (s.ewAccept h type f) := by
  unfold State.ewAccept
  with_reducible repeat'
    first
    | assumption | intro _ | apply h4 | apply State.onSome_ok | apply State.modPool_ok | apply State.ewReply_ok | apply State.bump_ok
    | apply State.ite_ok

theorem State.contribute_ok (s : State) (c : Contrib) (hs : State.Ok ps s) :
    State.Ok ps (s.contribute c) := by
  unfold State.contribute
  with_reducible repeat' first | assumption | apply State.modPool_ok | apply State.plSync_ok | apply State.sjq_ok | apply State.ite_ok

theorem State.sendPupd_ok (s : State) (o : OpenC) (hs : State.Ok ps s) :
    State.Ok ps (s.sendPupd o) := by
  unfold State.sendPupd
  with_reducible repeat' first | assumption | intro _ | apply State.ewSend_ok | apply State.foldl_ok | split

theorem State.contribOpened_ok (s : State) (c : Contrib) (seq : Nat) (hs : State.Ok ps s) :
    State.Ok ps (s.contribOpened c seq) := by
  unfold State.contribOpened
  with_reducible repeat' first | assumption | apply State.freshXid_ok | apply State.sendPupd_ok | apply State.modPool_ok | split

theorem State.contribStripe_ok (s : State) (k : Nat) (st : Nat) (hs : State.Ok ps s) :
    State.Ok ps (s.contribStripe k st) := by
  unfold State.contribStripe
  with_reducible repeat'
    first
    | assumption | intro _ | apply State.each_ok | apply State.onSome_ok | apply State.contribute_ok | apply State.ite_ok | split

theorem State.retractCell_ok (s : State) (p : Nat) (hs : State.Ok ps s) :
    State.Ok ps (s.retractCell p) := by
  unfold State.retractCell
  with_reducible repeat' first | assumption | intro _ | apply State.onSome_ok | apply State.contribute_ok | apply State.ite_ok

theorem State.release_ok (s : State) (hs : State.Ok ps s) :
    State.Ok ps (s.release) := by
  unfold State.release
  with_reducible repeat'
    first
    | assumption | apply State.ewSend_ok | apply State.modPool_ok | (extract_lets +onlyGivenNames x; clear_value x) | split

theorem State.poolSettle_ok (s : State) (hs : State.Ok ps s) :
    State.Ok ps (s.poolSettle) := by
  unfold State.poolSettle
  with_reducible repeat' first | assumption | apply State.setFld_ok | apply State.ite_ok

theorem State.contribClose_ok (s : State) (o : OpenC) (hs : State.Ok ps s) :
    State.Ok ps (s.contribClose o) := by
  unfold State.contribClose
  with_reducible repeat'
    first
    | assumption | apply State.modPool_ok | apply State.sjq_ok | apply State.contribute_ok | apply State.plSync_ok
    | apply State.poolSettle_ok | apply State.release_ok | split

theorem State.sendQupd_ok (s : State) (h : HeldC) (hs : State.Ok ps s) :
    State.Ok ps (s.sendQupd h) := by
  unfold State.sendQupd
  with_reducible repeat' first | assumption | intro _ | apply State.ewSend_ok | apply State.foldl_ok | split

theorem State.heldDurable_ok (s : State) (c : Contrib) (writer : Nat) (wseq : Nat) (hs : State.Ok ps s) :
    State.Ok ps (s.heldDurable c writer wseq) := by
  unfold State.heldDurable
  with_reducible repeat'
    first
    | assumption | apply State.freshXid_ok | apply State.plSync_ok | apply State.sendQupd_ok | apply State.modPool_ok
    | apply State.ite_ok | split

theorem State.unpaired_ok (s : State) (x2 : Bool) (hs : State.Ok ps s) :
    State.Ok ps (s.unpaired x2) := by
  unfold State.unpaired
  with_reducible repeat' first | assumption | apply State.record_ok | apply State.setFld_ok | apply State.ite_ok

theorem State.finishWrite_ok (s : State) (owner : Option CmdRef) (result : Nat) (hs : State.Ok ps s) :
    State.Ok ps (s.finishWrite owner result) := by
  unfold State.finishWrite
  with_reducible repeat' first | assumption | apply State.complete_ok | split

theorem State.pairGroup_ok (s : State) (l : JLine) (seq : Nat) (record : List Byte) (data : List Byte) (hs : State.Ok ps s) :
    State.Ok ps (s.pairGroup l seq record data) := by
  unfold State.pairGroup
  with_reducible repeat'
    first
    | assumption | intro _ | apply State.finishWrite_ok | apply State.unpaired_ok | apply State.modPool_ok | apply State.each_ok
    | apply State.ewSend_ok | apply State.ite_ok
    | (extract_lets +onlyGivenNames x; refine (fun hx => ?_ : State.Ok ps x → _) ?_; rotate_left; unfold x; clear x; rotate_right; clear_value x)
    | split

theorem State.pairPump_ok (s : State) (hs : State.Ok ps s) :
    State.Ok ps (s.pairPump) := by
  unfold State.pairPump
  with_reducible repeat'
    first
    | assumption | intro _ | apply State.modPool_ok | apply State.each_ok | apply State.finishWrite_ok | apply State.ite_ok

theorem State.pairDrop_ok (s : State) (hs : State.Ok ps s) :
    State.Ok ps (s.pairDrop) := by
  unfold State.pairDrop
  with_reducible repeat'
    first
    | assumption | apply State.unpaired_ok | apply State.pairPump_ok | apply State.modPool_ok | apply State.ite_ok

theorem State.sendLeave_ok (s : State) (ret : Nat) (hs : State.Ok ps s) :
    State.Ok ps (s.sendLeave ret) := by
  unfold State.sendLeave
  with_reducible repeat' first | assumption | intro _ | apply State.ewGroup_ok | apply State.foldl_ok

theorem State.poolDown_ok (s : State) (hs : State.Ok ps s) :
    State.Ok ps (s.poolDown) := by
  unfold State.poolDown
  with_reducible repeat' first | assumption | apply State.pairDrop_ok | apply State.ite_ok

theorem State.joinGroups_ok (s : State) (hs : State.Ok ps s) :
    State.Ok ps (s.joinGroups) := by
  unfold State.joinGroups
  with_reducible repeat' first | assumption | intro _ | apply State.modPool_ok | apply State.foldl_ok

theorem State.poolMasterKnown_ok (s : State) (hs : State.Ok ps s) :
    State.Ok ps (s.poolMasterKnown) := by
  unfold State.poolMasterKnown
  with_reducible repeat'
    first
    | assumption | apply State.joinGroups_ok | apply State.modPool_ok | apply State.setFld_ok | apply State.ite_ok

theorem State.poolBoot_ok (s : State) (hs : State.Ok ps s) :
    State.Ok ps (s.poolBoot) := by
  unfold State.poolBoot
  with_reducible repeat'
    first
    | assumption | apply State.setFld_ok | apply State.modPool_ok | apply State.poolMasterKnown_ok | apply State.ite_ok | split

theorem State.identityRecord_ok (s : State) (hs : State.Ok ps s) :
    State.Ok ps (s.identityRecord) := by
  unfold State.identityRecord
  with_reducible repeat' first | assumption | apply State.sjq_ok

theorem State.askOpens_ok (s : State) (hs : State.Ok ps s) :
    State.Ok ps (s.askOpens) := by
  unfold State.askOpens
  with_reducible repeat' first | assumption | intro _ | apply State.each_ok | apply State.ewSend_ok | apply State.ite_ok | split

theorem State.adoptLayout_ok (s : State) (epoch : Nat) (ids : List (Nat × Bool)) (hs : State.Ok ps s) :
    State.Ok ps (s.adoptLayout epoch ids) := by
  unfold State.adoptLayout
  with_reducible repeat'
    first
    | assumption | apply State.setFld_ok | apply State.modPool_ok | apply State.plSync_ok | apply State.poolSettle_ok
    | apply State.askOpens_ok | apply State.identityRecord_ok | apply State.ite_ok

theorem State.isolate_ok (s : State) (hs : State.Ok ps s) :
    State.Ok ps (s.isolate) := by
  unfold State.isolate
  with_reducible repeat' first | assumption | apply State.setFld_ok | apply State.pairDrop_ok

theorem State.memberFail_ok (s : State) (id : Nat) (newgen : Nat) (cause : Nat) (hs : State.Ok ps s) :
    State.Ok ps (s.memberFail id newgen cause) := by
  unfold State.memberFail
  with_reducible repeat'
    first
    | assumption | intro _ | apply State.isolate_ok | apply State.record_ok | apply State.modPool_ok | apply State.each_ok
    | apply State.sendQupd_ok | apply State.setFld_ok | apply State.setBit_ok | apply State.plSync_ok | apply State.ite_ok

theorem State.reElect_ok (s : State) (hs : State.Ok ps s) :
    State.Ok ps (s.reElect) := by
  unfold State.reElect
  with_reducible repeat' first | assumption | apply State.modPool_ok | apply State.setFld_ok

theorem State.readRow_ok (s : State) (g : Nat) (r : Nat) (c : Nat) (h : Nat) (target : Nat) (purpose : Nat) (pfn : Nat)
    (hs : State.Ok ps s) :
    State.Ok ps (s.readRow g r c h target purpose pfn) := by
  unfold State.readRow
  with_reducible repeat'
    first
    | assumption | intro _ | apply State.modPool_ok | apply State.each_ok | apply State.onSome_ok | apply State.ewSend_ok | split

theorem State.poolRead_ok (s : State) (p : Nat) (hs : State.Ok ps s) :
    State.Ok ps (s.poolRead p) := by
  unfold State.poolRead
  with_reducible repeat' first | assumption | apply State.readRow_ok | apply State.ite_ok | split

theorem State.domRecord_ok (s : State) (d : Dom) (frm : DomState) (into : DomState) (cause : Nat) (hs : State.Ok ps s) :
    State.Ok ps (s.domRecord d frm into cause) := by
  unfold State.domRecord
  with_reducible repeat' first | assumption | apply State.record_ok

theorem State.answer_ok (s : State) (q : Option Requester) (status : Nat) (result : Nat) (hs : State.Ok ps s) :
    State.Ok ps (s.answer q status result) := by
  unfold State.answer
  with_reducible repeat' first | assumption | apply State.ringEnd_ok | split

theorem State.acSlotSync_ok (s : State) (k : Nat) (hs : State.Ok ps s) :
    State.Ok ps (s.acSlotSync k) := by
  unfold State.acSlotSync
  with_reducible repeat' first | assumption | apply State.setFld_ok

theorem State.acMark_ok (s : State) (k : Nat) (f : Marks → Marks) (hs : State.Ok ps s) :
    State.Ok ps (s.acMark k f) := by
  unfold State.acMark
  with_reducible repeat' first | assumption | apply State.acSlotSync_ok | apply State.modFlashAccord_ok

theorem State.acRevoke_ok (s : State) (k : Nat) (err : Nat) (sect : Nat) (hs : State.Ok ps s) :
    State.Ok ps (s.acRevoke k err sect) := by
  unfold State.acRevoke
  with_reducible repeat' first | assumption | apply State.record_ok | apply State.acMark_ok

theorem State.acOp_ok (s : State) (op : Nat) (hs : State.Ok ps s) :
    State.Ok ps (s.acOp op) := by
  unfold State.acOp
  with_reducible repeat' first | assumption | apply State.setFld_ok

theorem State.acErr_ok (s : State) (err : Nat) (sect : Nat) (hs : State.Ok ps s) :
    State.Ok ps (s.acErr err sect) := by
  unfold State.acErr
  with_reducible repeat' first | assumption | apply State.setFld_ok

theorem State.acShow_ok (s : State) (k : Nat) (hs : State.Ok ps s) :
    State.Ok ps (s.acShow k) := by
  unfold State.acShow
  with_reducible repeat' first | assumption | intro _ | apply State.setFld_ok | apply State.each_ok

theorem State.answerStore_ok (s : State) (o : StoreOwner) (status : Nat) (result : Nat) (nv : NvStatus) (hs : State.Ok ps s) :
    State.Ok ps (s.answerStore o status result nv) := by
  unfold State.answerStore
  with_reducible repeat' first | assumption | apply State.ringEnd_ok | apply State.complete_ok | split

theorem State.storeFailed_ok (s : State) (err : Nat) (hs : State.Ok ps s) :
    State.Ok ps (s.storeFailed err) := by
  unfold State.storeFailed
  with_reducible repeat'
    first
    | assumption | intro _ | apply State.acErr_ok | apply State.when_ok | apply State.acRevoke_ok | apply State.answerStore_ok
    | apply State.acOp_ok
    | (extract_lets +onlyGivenNames x; refine (fun hx => ?_ : State.Ok ps x → _) ?_; rotate_left; unfold x; clear x; rotate_right; clear_value x)
    | split
    | (apply State.mk_ok; first | assumption | apply State.acErr_ok | apply State.when_ok | apply State.acRevoke_ok | apply State.answerStore_ok | apply State.acOp_ok | split)

theorem State.leaveServing_ok (s : State) (d : Dom) (hs : State.Ok ps s) :
    State.Ok ps (s.leaveServing d) := by
  unfold State.leaveServing
  with_reducible repeat'
    first
    | assumption | intro _ | apply State.abandonRuns_ok | apply State.each_ok | apply State.laneOff_ok | apply State.laneAbort_ok
    | apply State.poolDown_ok | apply State.ite_ok | split

theorem State.dropWork_ok (s : State) (d : Dom) (hs : State.Ok ps s) :
    State.Ok ps (s.dropWork d) := by
  unfold State.dropWork
  with_reducible repeat'
    first
    | assumption | intro _ | apply State.each_ok | apply State.closeGates_ok | apply State.laneAbort_ok | apply State.modEb_ok
    | apply State.ite_ok | split

theorem State.stopDomain_ok (s : State) (d : Dom) (hs : State.Ok ps s) :
    State.Ok ps (s.stopDomain d) := by
  unfold State.stopDomain
  with_reducible repeat'
    first
    | assumption | apply State.lanesOff_ok | apply State.closeGates_ok | apply State.abandonRuns_ok | apply State.dropWork_ok | split

theorem State.assignRole_ok (s : State) (h : Nat) (role : Nat) (param : Nat) (hs : State.Ok ps s) :
    State.Ok ps (s.assignRole h role param) := by
  unfold State.assignRole
  with_reducible repeat' first | assumption | apply State.setFld_ok

theorem State.schedSync_ok (s : State) (hs : State.Ok ps s) :
    State.Ok ps (s.schedSync) := by
  unfold State.schedSync
  with_reducible repeat' first | assumption | apply State.setFld_ok

theorem State.heStart_ok (s : State) (h : Nat) (hs : State.Ok ps s) :
    State.Ok ps (s.heStart h) := by
  unfold State.heStart
  with_reducible repeat'
    first
    | assumption | apply State.modHelper_ok | apply State.schedSync_ok | apply State.setFld_ok | apply State.heSwap_ok

theorem State.domSet_ok (s : State) (code : Nat) (x3 : List Byte) (hs : State.Ok ps s) :
    State.Ok ps (s.domSet code x3) := by
  unfold State.domSet
  with_reducible repeat' first | assumption | apply State.modFabric_ok

theorem State.loadPatch_ok (s : State) (d : Dom) (hs : State.Ok ps s) :
    State.Ok ps (s.loadPatch d) := by
  unfold State.loadPatch
  with_reducible repeat'
    first
    | assumption | intro _ | apply State.each_ok | apply State.when_ok | apply State.heHalt_ok | apply State.heSwap_ok
    | apply State.modHelper_ok | apply State.heStart_ok | apply State.ite_ok

theorem State.applyLoad_ok (s : State) (d : Dom) (k : LoadKind) (hs : State.Ok ps s) :
    State.Ok ps (s.applyLoad d k) := by
  unfold State.applyLoad
  with_reducible repeat'
    first
    | assumption | apply State.acOp_ok | apply State.loadPatch_ok | apply State.domSet_ok | apply State.modFabric_ok | split
    | (apply State.mk_ok; first | assumption | apply State.acOp_ok | apply State.loadPatch_ok | apply State.domSet_ok | apply State.modFabric_ok | split)

theorem State.loadFailed_ok (s : State) (d : Dom) (k : LoadKind) (err : Nat) (hs : State.Ok ps s) :
    State.Ok ps (s.loadFailed d k err) := by
  unfold State.loadFailed
  with_reducible repeat'
    first
    | assumption | apply State.storeFailed_ok | apply State.loadPatch_ok | apply State.domSet_ok | apply State.modFabric_ok
    | apply State.answerStore_ok
    | (extract_lets +onlyGivenNames x; refine (fun hx => ?_ : State.Ok ps x → _) ?_; rotate_left; unfold x; clear x; rotate_right; clear_value x)
    | split
    | (apply State.mk_ok; first | assumption | apply State.storeFailed_ok | apply State.loadPatch_ok | apply State.domSet_ok | apply State.modFabric_ok | apply State.answerStore_ok | split)

theorem State.loadDone_ok (s : State) (d : Dom) (k : LoadKind) (hs : State.Ok ps s) :
    State.Ok ps (s.loadDone d k) := by
  unfold State.loadDone
  with_reducible repeat'
    first
    | assumption | intro _ | apply State.record_ok | apply State.acMark_ok | apply State.acShow_ok | apply State.answerStore_ok
    | apply State.acOp_ok | apply State.clrBit_ok | apply State.assistLoad_ok | apply State.modFabric_ok | apply State.foldl_ok
    | (extract_lets +onlyGivenNames x; refine (fun hx => ?_ : State.Ok ps x → _) ?_; rotate_left; unfold x; clear x; rotate_right; clear_value x)
    | split
    | (apply State.mk_ok; first | assumption | apply State.record_ok | apply State.acMark_ok | apply State.acShow_ok | apply State.answerStore_ok | apply State.acOp_ok | apply State.clrBit_ok | apply State.assistLoad_ok | apply State.modFabric_ok | apply State.foldl_ok | split)

theorem State.dropDomain_ok (s : State) (d : Dom) (cause : Nat) (rec : Nat) (hs : State.Ok ps s) :
    State.Ok ps (s.dropDomain d cause rec) := by
  unfold State.dropDomain
  with_reducible repeat'
    first
    | assumption | intro _ | apply State.stopDomain_ok | apply State.leaveServing_ok | apply State.when_ok | apply State.retractAct_ok
    | apply State.setBit_ok | apply State.aer_ok | apply State.bump_ok | apply State.setFld_ok | apply State.modDom_ok
    | apply State.domRecord_ok | apply State.answer_ok | apply State.loadFailed_ok | apply State.ite_ok
    | (extract_lets +onlyGivenNames x; refine (fun hx => ?_ : State.Ok ps x → _) ?_; rotate_left; unfold x; clear x; rotate_right; clear_value x)
    | split

theorem State.heStopNow_ok (s : State) (h : Nat) (hs : State.Ok ps s) :
    State.Ok ps (s.heStopNow h) := by
  unfold State.heStopNow
  with_reducible repeat'
    first
    | assumption | intro _ | apply State.modHelper_ok | apply State.modFabric_ok | apply State.setFld_ok | apply State.schedSync_ok
    | apply State.when_ok | apply State.each_ok | apply State.returnMsg_ok | apply State.laneAbortQueue_ok

theorem State.heStopAsk_ok (s : State) (h : Nat) (hs : State.Ok ps s) :
    State.Ok ps (s.heStopAsk h) := by
  unfold State.heStopAsk
  with_reducible repeat' first | assumption | apply State.modHelper_ok | apply State.heStopNow_ok | apply State.ite_ok

theorem State.reRole_ok (s : State) (h : Nat) (hs : State.Ok ps s) :
    State.Ok ps (s.reRole h) := by
  unfold State.reRole
  with_reducible repeat' first | assumption | apply State.heStart_ok | apply State.assignRole_ok | apply State.modFabric_ok | split

theorem State.replaceHelper_ok (s : State) (h : Nat) (sp : Nat) (hs : State.Ok ps s) :
    State.Ok ps (s.replaceHelper h sp) := by
  unfold State.replaceHelper
  with_reducible repeat'
    first
    | assumption | apply State.unitFault_ok | apply State.modFabric_ok | apply State.reRole_ok | apply State.heStopAsk_ok
    | apply State.ite_ok

theorem State.replaceAll_ok (s : State) (x2 : List Nat) (hs : State.Ok ps s) :
    State.Ok ps (s.replaceAll x2).1 := by
  induction x2 generalizing s <;> unfold State.replaceAll
  with_reducible repeat' first | assumption | apply State.replaceHelper_ok | split | apply_assumption

theorem State.replaceAll_ok' {s : State} {x2 : List Nat} {t : State} {b : Bool} (e : State.replaceAll s x2 = (t, b))
    (hs : State.Ok ps s) : State.Ok ps t := by
  have h := State.replaceAll_ok (ps := ps) s x2 hs
  rw [e] at h
  exact h

theorem State.tryLoad_ok (s : State) (a : Act) (hs : State.Ok ps s) :
    State.Ok ps (s.tryLoad a) := by
  unfold State.tryLoad
  with_reducible repeat' first | assumption | apply State.startLoad_ok | apply State.ite_ok

theorem State.dueRestoring_ok (s : State) (a : Act) (hs : State.Ok ps s) :
    State.Ok ps (s.dueRestoring a) := by
  unfold State.dueRestoring
  with_reducible repeat' first | assumption | intro _ | apply State.calSync_ok | apply State.each_ok | apply State.setCause_ok

theorem State.enterRestoring_ok (s : State) (d : Dom) (q : Requester) (hs : State.Ok ps s) :
    State.Ok ps (s.enterRestoring d q) := by
  unfold State.enterRestoring
  with_reducible repeat'
    first
    | assumption | apply State.modDom_ok | apply State.replaceAll_ok | apply State.setBit_ok | apply State.dropDomain_ok
    | apply State.tryLoad_ok | apply State.dueRestoring_ok | apply State.modSv_ok | apply State.clearActFaults_ok | apply State.ite_ok
    | split

theorem State.autoRestore_ok (s : State) (d : Dom) (cause : Nat) (was : DomSt) (hs : State.Ok ps s) :
    State.Ok ps (s.autoRestore d cause was) := by
  unfold State.autoRestore
  with_reducible repeat'
    first
    | assumption | apply State.setBit_ok | apply State.modDom_ok | apply State.modEb_ok | apply State.enterRestoring_ok
    | apply State.bump_ok | apply State.ite_ok

theorem State.domainFault_ok (s : State) (d : Dom) (cause : Nat) (hs : State.Ok ps s) :
    State.Ok ps (s.domainFault d cause) := by
  unfold State.domainFault
  with_reducible repeat' first | assumption | apply State.autoRestore_ok | apply State.dropDomain_ok | apply State.ite_ok

theorem State.restoreFailed_ok (s : State) (d : Dom) (hs : State.Ok ps s) :
    State.Ok ps (s.restoreFailed d) := by
  unfold State.restoreFailed
  with_reducible repeat' first | assumption | apply State.autoRestore_ok | apply State.dropDomain_ok | apply State.ite_ok

theorem State.takeDown_ok (s : State) (d : Dom) (q : Requester) (k : Option LoadKind) (hs : State.Ok ps s) :
    State.Ok ps (s.takeDown d q k) := by
  unfold State.takeDown
  with_reducible repeat'
    first
    | assumption | intro _ | apply State.when_ok | apply State.sendLeave_ok | apply State.modDom_ok | apply State.leaveServing_ok

theorem State.askTakeDown_ok (s : State) (d : Dom) (q : Requester) (hs : State.Ok ps s) :
    State.Ok ps (s.askTakeDown d q) := by
  unfold State.askTakeDown
  with_reducible repeat'
    first
    | assumption | apply State.takeDown_ok | apply State.answer_ok | apply State.domRecord_ok | apply State.ite_ok | split

theorem State.heldLoad_ok (s : State) (d : Dom) (hs : State.Ok ps s) :
    State.Ok ps (s.heldLoad d) := by
  unfold State.heldLoad
  with_reducible repeat'
    first
    | assumption | apply State.modDom_ok | apply State.startLoad_ok | apply State.modSv_ok | apply State.ite_ok | split

theorem State.askRestore_ok (s : State) (d : Dom) (q : Requester) (hs : State.Ok ps s) :
    State.Ok ps (s.askRestore d q) := by
  unfold State.askRestore
  with_reducible repeat'
    first
    | assumption | apply State.enterRestoring_ok | apply State.answer_ok | apply State.heldLoad_ok | apply State.modDom_ok
    | apply State.ite_ok | split

theorem State.restoreBoth_ok (s : State) (hs : State.Ok ps s) :
    State.Ok ps (s.restoreBoth) := by
  unfold State.restoreBoth
  with_reducible repeat'
    first
    | assumption | intro _ | apply State.each_ok | apply State.when_ok | apply State.askRestore_ok | apply State.ite_ok

theorem State.quiesced_ok (s : State) (d : Dom) (hs : State.Ok ps s) :
    State.Ok ps (s.quiesced d) := by
  unfold State.quiesced
  with_reducible repeat'
    first
    | assumption | intro _ | apply State.modDom_ok | apply State.stopDomain_ok | apply State.when_ok | apply State.answer_ok
    | apply State.enterRestoring_ok | apply State.applyLoad_ok | apply State.ite_ok
    | (extract_lets +onlyGivenNames x; refine (fun hx => ?_ : State.Ok ps x → _) ?_; rotate_left; unfold x; clear x; rotate_right; clear_value x)
    | (extract_lets +onlyGivenNames x; clear_value x) | split

theorem State.quiescePark_ok (s : State) (d : Dom) (a : Act) (hs : State.Ok ps s) :
    State.Ok ps (s.quiescePark d a) := by
  unfold State.quiescePark
  with_reducible repeat'
    first
    | assumption | apply State.modDom_ok | apply State.parkAct_ok | apply State.closeGates_ok | apply State.quiesced_ok
    | apply State.domainFault_ok | apply State.ite_ok

theorem State.workDone_ok (s : State) (d : Dom) (hs : State.Ok ps s) :
    State.Ok ps (s.workDone d) := by
  unfold State.workDone
  with_reducible repeat' first | assumption | apply State.quiescePark_ok | apply State.quiesced_ok | apply State.ite_ok | split

theorem State.quiesceOut_ok (s : State) (d : Dom) (hs : State.Ok ps s) :
    State.Ok ps (s.quiesceOut d) := by
  unfold State.quiesceOut
  with_reducible repeat'
    first
    | assumption | apply State.dropWork_ok | apply State.domRecord_ok | apply State.quiescePark_ok | apply State.quiesced_ok
    | apply State.ite_ok
    | (extract_lets +onlyGivenNames x; refine (fun hx => ?_ : State.Ok ps x → _) ?_; rotate_left; unfold x; clear x; rotate_right; clear_value x)
    | split

theorem State.afterParked_ok (s : State) (a : Act) (hs : State.Ok ps s) :
    State.Ok ps (s.afterParked a) := by
  unfold State.afterParked
  with_reducible repeat'
    first
    | assumption | apply State.quiesced_ok | apply State.startLoad_ok | apply State.tryLoad_ok | apply State.heldLoad_ok
    | apply State.ite_ok

theorem State.commitBoot_ok (s : State) (hs : State.Ok ps s) :
    State.Ok ps (s.commitBoot) := by
  unfold State.commitBoot
  with_reducible repeat'
    first
    | assumption | apply State.acMark_ok | apply State.modFlashPatch_ok | apply State.ite_ok
    | (extract_lets +onlyGivenNames x; refine (fun hx => ?_ : State.Ok ps x → _) ?_; rotate_left; unfold x; clear x; rotate_right; clear_value x)
    | split
    | (apply State.mk_ok; first | assumption | apply State.acMark_ok | apply State.modFlashPatch_ok | apply State.ite_ok | split)

theorem State.enterServing_ok (s : State) (d : Dom) (hs : State.Ok ps s) :
    State.Ok ps (s.enterServing d) := by
  unfold State.enterServing
  with_reducible repeat'
    first
    | assumption | intro _ | apply State.clrBit_ok | apply State.modDom_ok | apply State.aer_ok | apply State.domRecord_ok
    | apply State.loadDone_ok | apply State.answer_ok | apply State.poolBoot_ok | apply State.newEpoch_ok
    | apply State.startElection_ok | apply State.resumeReads_ok | apply State.when_ok | apply State.wdisEnd_ok
    | apply State.commitBoot_ok | apply State.ite_ok | split

theorem State.restoreDone_ok (s : State) (d : Dom) (hs : State.Ok ps s) :
    State.Ok ps (s.restoreDone d) := by
  unfold State.restoreDone
  with_reducible repeat'
    first
    | assumption | apply State.enterServing_ok | apply State.resumeReads_ok | apply State.answer_ok | apply State.domRecord_ok
    | apply State.clrBit_ok | apply State.modDom_ok | apply State.ite_ok | split

theorem State.restoreOut_ok (s : State) (d : Dom) (hs : State.Ok ps s) :
    State.Ok ps (s.restoreOut d) := by
  unfold State.restoreOut
  with_reducible repeat' first | assumption | apply State.restoreFailed_ok | apply State.ite_ok | split

theorem State.entryCommands_ok (s : State) (hs : State.Ok ps s) :
    State.Ok ps (s.entryCommands) := by
  unfold State.entryCommands
  with_reducible repeat'
    first
    | assumption | intro _ | apply State.each_ok | apply State.modCtrl_ok | apply State.finish_ok | apply State.modMap_ok
    | apply State.ite_ok

theorem State.entryRings_ok (s : State) (hs : State.Ok ps s) :
    State.Ok ps (s.entryRings) := by
  unfold State.entryRings
  with_reducible repeat'
    first
    | assumption | intro _ | apply State.each_ok | apply State.ringSync_ok | apply State.setFld_ok | apply State.modRing_ok
    | apply State.addSat_ok

theorem State.entryStores_ok (s : State) (hs : State.Ok ps s) :
    State.Ok ps (s.entryStores) := by
  unfold State.entryStores
  with_reducible repeat'
    first
    | assumption | intro _ | apply State.each_ok | apply State.modCtrl_ok | apply State.acOp_ok | apply State.acRevoke_ok
    | apply State.modHelper_ok | apply State.domSet_ok | apply State.modNvme_ok | apply State.modFabric_ok | apply State.ite_ok | split
    | (apply State.mk_ok; first | assumption | apply State.each_ok | apply State.modCtrl_ok | apply State.acOp_ok | apply State.acRevoke_ok | apply State.modHelper_ok | apply State.domSet_ok | apply State.modNvme_ok | apply State.modFabric_ok | apply State.ite_ok | split | (apply State.mk_ok; first | assumption | apply State.each_ok | apply State.modCtrl_ok | apply State.acOp_ok | apply State.acRevoke_ok | apply State.modHelper_ok | apply State.domSet_ok | apply State.modNvme_ok | apply State.modFabric_ok | apply State.ite_ok | split))

theorem State.entryHelpers_ok (s : State) (hs : State.Ok ps s) :
    State.Ok ps (s.entryHelpers) := by
  unfold State.entryHelpers
  with_reducible repeat'
    first
    | assumption | intro _ | apply State.schedSync_ok | apply State.each_ok | apply State.heHalt_ok | apply State.ite_ok

theorem State.entrySpindle_ok (s : State) (hs : State.Ok ps s) :
    State.Ok ps (s.entrySpindle) := by
  unfold State.entrySpindle
  with_reducible repeat' first | assumption | apply State.spGoto_ok | apply State.spDrive_ok | apply State.ite_ok

theorem State.entryDomains_ok (s : State) (hs : State.Ok ps s) :
    State.Ok ps (s.entryDomains) := by
  unfold State.entryDomains
  with_reducible repeat'
    first
    | assumption | intro _ | apply State.each_ok | apply State.setFld_ok | apply State.modDom_ok | apply State.ite_ok

theorem State.entryMedia_ok (s : State) (hs : State.Ok ps s) :
    State.Ok ps (s.entryMedia) := by
  unfold State.entryMedia
  with_reducible repeat'
    first
    | assumption | intro _ | apply State.abandonRuns_ok | apply State.each_ok | apply State.laneOff_ok | apply State.modLanes_ok

theorem State.baseNote_ok (s : State) (cause : Nat) (info : Nat) (hs : State.Ok ps s) :
    State.Ok ps (s.baseNote cause info) := by
  unfold State.baseNote
  with_reducible repeat'
    first
    | assumption | intro _ | apply State.record_ok | apply State.bump_ok | apply State.when_ok | apply State.closeAllGates_ok
    | apply State.sendLeave_ok | apply State.setFld_ok | apply State.setBit_ok | apply State.modPins_ok | apply State.retractAct_ok
    | apply State.entryDomains_ok | apply State.entryHelpers_ok | apply State.entrySpindle_ok | apply State.entryMedia_ok
    | apply State.entryCommands_ok | apply State.entryRings_ok | apply State.entryStores_ok | apply State.ite_ok
    | (extract_lets +onlyGivenNames x; refine (fun hx => ?_ : State.Ok ps x → _) ?_; rotate_left; unfold x; clear x; rotate_right; clear_value x)
    | (apply State.mk_ok; first | assumption | apply State.record_ok | apply State.bump_ok | apply State.when_ok | apply State.closeAllGates_ok | apply State.sendLeave_ok | apply State.setFld_ok | apply State.setBit_ok | apply State.modPins_ok | apply State.retractAct_ok | apply State.entryDomains_ok | apply State.entryHelpers_ok | apply State.entrySpindle_ok | apply State.entryMedia_ok | apply State.entryCommands_ok | apply State.entryRings_ok | apply State.entryStores_ok | apply State.ite_ok)

theorem State.faultHelper_ok (s : State) (h : Nat) (cause : Nat) (space : Nat) (addr : Nat) (hs : State.Ok ps s) :
    State.Ok ps (s.faultHelper h cause space addr) := by
  unfold State.faultHelper
  with_reducible repeat'
    first
    | assumption | apply State.heFault_ok | apply State.reenter_ok | apply State.schedSync_ok | apply State.domainFault_ok
    | apply State.baseNote_ok | apply State.ite_ok
    | (extract_lets +onlyGivenNames x; refine (fun hx => ?_ : State.Ok ps x → _) ?_; rotate_left; unfold x; clear x; rotate_right; clear_value x)
    | split

theorem State.missedTwice_ok (s : State) (h : Nat) (hs : State.Ok ps s) :
    State.Ok ps (s.missedTwice h) := by
  unfold State.missedTwice
  with_reducible repeat' first | assumption | apply State.faultHelper_ok | apply State.modHelper_ok | apply State.ite_ok

theorem State.cacheFault_ok (s : State) (hs : State.Ok ps s) :
    State.Ok ps (s.cacheFault) := by
  unfold State.cacheFault
  with_reducible repeat' first | assumption | apply State.baseNote_ok | apply State.modCache_ok | split

theorem State.trapRecord_ok (s : State) (cause : Nat) (space : Nat) (addr : Nat) (hs : State.Ok ps s) :
    State.Ok ps (s.trapRecord cause space addr) := by
  unfold State.trapRecord
  with_reducible repeat' first | assumption | apply State.record_ok | apply State.bump_ok | apply State.setFld_ok

theorem State.trapEntry_ok (s : State) (cause : Nat) (traps : Nat) (hs : State.Ok ps s) :
    State.Ok ps (s.trapEntry cause traps) := by
  unfold State.trapEntry
  with_reducible repeat' first | assumption | apply State.baseNote_ok | apply State.ite_ok

theorem State.trap_ok (s : State) (cause0 : Nat) (space : Nat) (addr : Nat) (hs : State.Ok ps s) :
    State.Ok ps (s.trap cause0 space addr) := by
  unfold State.trap
  with_reducible repeat'
    first
    | assumption | apply State.trapRecord_ok | apply State.modSteward_ok | apply State.trapEntry_ok | apply State.setBit_ok
    | apply State.ite_ok

theorem State.spFault_ok (s : State) (f : Fld) (d : Drive) (hs : State.Ok ps s) :
    State.Ok ps (s.spFault f d) := by
  unfold State.spFault
  with_reducible repeat'
    first
    | assumption | apply State.modSp_ok | apply State.spRecord_ok | apply State.baseNote_ok | apply State.returnToken_ok
    | apply State.spGoto_ok | apply State.spDrive_ok

theorem State.stopSpindle_ok (s : State) (hs : State.Ok ps s) :
    State.Ok ps (s.stopSpindle) := by
  unfold State.stopSpindle
  with_reducible repeat' first | assumption | apply State.returnToken_ok | apply State.spStop_ok

theorem State.silPut_ok (s : State) (off : Nat) (d : List Byte) (hs : State.Ok ps s) :
    State.Ok ps (s.silPut off d) := by
  unfold State.silPut
  with_reducible repeat' first | assumption | apply State.putMram_ok

theorem State.writeStamp_ok (s : State) (down : Bool) (hs : State.Ok ps s) :
    State.Ok ps (s.writeStamp down) := by
  unfold State.writeStamp
  with_reducible repeat' first | assumption | apply State.modSil_ok | apply State.silPut_ok | apply State.ite_ok

theorem State.logAppend_ok (s : State) (code : Nat) (tick : Nat) (fields : List Byte) (hs : State.Ok ps s) :
    State.Ok ps (s.logAppend code tick fields) := by
  unfold State.logAppend
  with_reducible repeat'
    first
    | assumption | apply State.bump_ok | apply State.setFld_ok | apply State.silPut_ok | apply State.setBit_ok | apply State.ite_ok

theorem State.silAppend_ok (s : State) (hs : State.Ok ps s) :
    State.Ok ps (s.silAppend) := by
  unfold State.silAppend
  with_reducible repeat' first | assumption | apply State.logAppend_ok | apply State.modSil_ok | apply State.ite_ok | split

theorem State.silClose_ok (s : State) (down : Bool) (hs : State.Ok ps s) :
    State.Ok ps (s.silClose down) := by
  unfold State.silClose
  with_reducible repeat'
    first
    | assumption | intro _ | apply State.allSummaries_ok | apply State.writeStamp_ok | apply State.each_ok | apply State.silAppend_ok

theorem State.silBoot_ok (s : State) (hs : State.Ok ps s) :
    State.Ok ps (s.silBoot) := by
  unfold State.silBoot
  with_reducible repeat'
    first
    | assumption | apply State.noteMram_ok | apply State.setFld_ok | apply State.modSil_ok | apply State.setBit_ok
    | apply State.silPut_ok | apply State.writeStamp_ok | apply State.ite_ok

theorem State.bootRecord_ok (s : State) (hs : State.Ok ps s) :
    State.Ok ps (s.bootRecord) := by
  unfold State.bootRecord
  with_reducible repeat'
    first
    | assumption | apply State.record_ok | apply State.modPower_ok
    | (extract_lets +onlyGivenNames x; refine (fun hx => ?_ : State.Ok ps x → _) ?_; rotate_left; unfold x; clear x; rotate_right; clear_value x)
    | split

theorem State.silClear_ok (s : State) (hs : State.Ok ps s) :
    State.Ok ps (s.silClear) := by
  unfold State.silClear
  with_reducible repeat'
    first
    | assumption | intro _ | apply State.each_ok | apply State.putWord_ok | apply State.clrBit_ok | apply State.setFld_ok
    | apply State.silPut_ok | apply State.logAppend_ok

theorem State.gaugeArm_ok (s : State) (g : Nat) (hs : State.Ok ps s) :
    State.Ok ps (s.gaugeArm g) := by
  unfold State.gaugeArm
  with_reducible repeat'
    first
    | assumption | intro _ | apply State.setReg_ok | apply State.each_ok | apply State.setBit_ok | apply State.setFld_ok
    | apply State.modSil_ok

theorem State.gaugeStop_ok (s : State) (g : Nat) (hs : State.Ok ps s) :
    State.Ok ps (s.gaugeStop g) := by
  unfold State.gaugeStop
  with_reducible repeat' first | assumption | apply State.clrBit_ok

theorem State.floorSync_ok (s : State) (hs : State.Ok ps s) :
    State.Ok ps (s.floorSync) := by
  unfold State.floorSync
  with_reducible repeat' first | assumption | apply State.setFld_ok

theorem State.refuse_ok (s : State) (object : Nat) (reason : Nat) (hs : State.Ok ps s) :
    State.Ok ps (s.refuse object reason) := by
  unfold State.refuse
  with_reducible repeat' first | assumption | apply State.record_ok | apply State.bump_ok

theorem State.acRefuse_ok (s : State) (img : List Byte) (x3 : Nat × Nat) (hs : State.Ok ps s) :
    State.Ok ps (s.acRefuse img x3) := by
  unfold State.acRefuse
  with_reducible repeat'
    first
    | assumption | apply State.acErr_ok | apply State.refuse_ok
    | (extract_lets +onlyGivenNames x; refine (fun hx => ?_ : State.Ok ps x → _) ?_; rotate_left; unfold x; clear x; rotate_right; clear_value x)
    | split

theorem State.ptRefuse_ok (s : State) (x2 : List Byte) (stage : Nat) (hs : State.Ok ps s) :
    State.Ok ps (s.ptRefuse x2 stage) := by
  unfold State.ptRefuse
  with_reducible repeat' first | assumption | apply State.record_ok | apply State.refuse_ok | apply State.ite_ok

theorem State.ptMark_ok (s : State) (k : Nat) (f : Marks → Marks) (hs : State.Ok ps s) :
    State.Ok ps (s.ptMark k f) := by
  unfold State.ptMark
  with_reducible repeat' first | assumption | apply State.modFlashPatch_ok

theorem State.applyBundle_ok (s : State) (x2 : List Byte) (hs : State.Ok ps s) :
    State.Ok ps (s.applyBundle x2) := by
  unfold State.applyBundle
  with_reducible repeat'
    first
    | assumption | intro _ | apply State.each_ok | apply State.stageBundle_ok | apply State.heSwap_ok | apply State.modFabric_ok
    | apply State.stSwap_ok | apply State.ite_ok

theorem State.ptBoot_ok (s : State) (x2 : List Nat) (hs : State.Ok ps s) :
    State.Ok ps (s.ptBoot x2) := by
  induction x2 generalizing s <;> unfold State.ptBoot
  with_reducible repeat'
    first
    | assumption | apply State.setBit_ok | apply State.ptMark_ok | apply State.ptRefuse_ok | apply State.setFld_ok
    | apply State.clrBit_ok | apply State.applyBundle_ok | apply State.ite_ok
    | (extract_lets +onlyGivenNames x; refine (fun hx => ?_ : State.Ok ps x → _) ?_; rotate_left; unfold x; clear x; rotate_right; clear_value x)
    | split | apply_assumption

theorem State.newNonce_ok (s : State) (hs : State.Ok ps s) :
    State.Ok ps (s.newNonce) := by
  unfold State.newNonce
  with_reducible repeat' first | assumption | refine State.modRings_ok _ (fun _ => ⟨rfl, rfl⟩) ?_

theorem State.secBoot_ok (s : State) (hs : State.Ok ps s) :
    State.Ok ps (s.secBoot) := by
  unfold State.secBoot
  with_reducible repeat'
    first
    | assumption | intro _ | apply State.modSec_ok | apply State.setFld_ok | apply State.setBit_ok | apply State.each_ok
    | apply State.floorSync_ok | split

theorem State.dmGoto_ok (s : State) (c : Nat) (st : Nat) (hs : State.Ok ps s) :
    State.Ok ps (s.dmGoto c st) := by
  unfold State.dmGoto
  with_reducible repeat' first | assumption | apply State.setFld_ok

theorem State.dmShow_ok (s : State) (c : Nat) (src : Nat) (dst : Nat) (left : Nat) (hs : State.Ok ps s) :
    State.Ok ps (s.dmShow c src dst left) := by
  unfold State.dmShow
  with_reducible repeat' first | assumption | apply State.setFld_ok

theorem State.dmShowSet_ok (s : State) (c : Nat) (x3 : MoverSet) (hs : State.Ok ps s) :
    State.Ok ps (s.dmShowSet c x3) := by
  unfold State.dmShowSet
  with_reducible repeat' first | assumption | apply State.setFld_ok | apply State.dmShow_ok

theorem State.spaceNote_ok (s : State) (f : MemFaults) (sp : Nat) (addr : Nat) (n : Nat) (hs : State.Ok ps s) :
    State.Ok ps (s.spaceNote f sp addr n) := by
  unfold State.spaceNote
  with_reducible repeat' first | assumption | apply State.moverReadNote_ok | apply State.noteRead_ok | split

theorem State.spaceWrite_ok (s : State) (f : MemFaults) (k : ReqKind) (sp : Nat) (addr : Nat) (d : List Byte) (hs : State.Ok ps s) :
    State.Ok ps (s.spaceWrite f k sp addr d) := by
  unfold State.spaceWrite
  with_reducible repeat'
    first
    | assumption | apply State.hostWrite_ok | apply State.moverWrite_ok | apply State.store_ok | apply State.ite_ok | split

theorem State.spaceBadNote_ok (s : State) (f : MemFaults) (sp : Nat) (addr : Nat) (d : List Byte) (hs : State.Ok ps s) :
    State.Ok ps (s.spaceBadNote f sp addr d) := by
  unfold State.spaceBadNote
  with_reducible repeat' first | assumption | apply State.moverBadNote_ok | apply State.storeNote_ok | split

theorem State.spaceParity_ok (s : State) (f : MemFaults) (sp : Nat) (addr : Nat) (n : Nat) (hs : State.Ok ps s) :
    State.Ok ps (s.spaceParity f sp addr n).1 := by
  unfold State.spaceParity
  with_reducible repeat' first | assumption | apply State.moverParity_ok | apply State.ite_fst_ok

theorem State.spaceParity_ok' {s : State} {f : MemFaults} {sp : Nat} {addr : Nat} {n : Nat} {t : State} {b : Bool}
    (e : State.spaceParity s f sp addr n = (t, b)) (hs : State.Ok ps s) : State.Ok ps t := by
  have h := State.spaceParity_ok (ps := ps) s f sp addr n hs
  rw [e] at h
  exact h

theorem State.dmPost_ok (s : State) (c : Nat) (x3 : MoverSet) (status : Nat) (left : Nat) (hs : State.Ok ps s) :
    State.Ok ps (s.dmPost c x3 status left) := by
  unfold State.dmPost
  with_reducible repeat' first | assumption | apply State.deviceMsg_ok | apply State.setFld_ok

theorem State.dmPromote_ok (s : State) (c : Nat) (hs : State.Ok ps s) :
    State.Ok ps (s.dmPromote c) := by
  unfold State.dmPromote
  with_reducible repeat'
    first
    | assumption | apply State.dmGoto_ok | apply State.setFld_ok | apply State.dmShowSet_ok | apply State.modChan_ok
    | apply State.dmPost_ok | apply State.ite_ok
    | (extract_lets +onlyGivenNames x; refine (fun hx => ?_ : State.Ok ps x → _) ?_; rotate_left; unfold x; clear x; rotate_right; clear_value x)
    | split

theorem State.dmHalt_ok (s : State) (c : Nat) (cause : Nat) (hs : State.Ok ps s) :
    State.Ok ps (s.dmHalt c cause) := by
  unfold State.dmHalt
  with_reducible repeat'
    first
    | assumption | apply State.dmPost_ok | apply State.bump_ok | apply State.clrBit_ok | apply State.dmGoto_ok | apply State.ite_ok
    | split

theorem State.dmFree_ok (s : State) (x2 : MoverSet) (hs : State.Ok ps s) :
    State.Ok ps (s.dmFree x2) := by
  unfold State.dmFree
  with_reducible repeat' first | assumption | apply State.modLane_ok | apply State.ite_ok

theorem State.dmDone_ok (s : State) (c : Nat) (x3 : MoverSet) (status : Nat) (hs : State.Ok ps s) :
    State.Ok ps (s.dmDone c x3 status) := by
  unfold State.dmDone
  with_reducible repeat'
    first
    | assumption | intro _ | apply State.modChan_ok | apply State.when_ok | apply State.dmPost_ok | apply State.dmFree_ok
    | apply State.dmGoto_ok | apply State.clrBit_ok | apply State.dmPromote_ok | apply State.ite_ok

theorem State.dmPut_ok (s : State) (c : Nat) (f : MemFaults) (x4 : MoverSet) (d : List Byte) (hs : State.Ok ps s) :
    State.Ok ps (s.dmPut c f x4 d).1 := by
  unfold State.dmPut
  with_reducible repeat'
    first
    | assumption | apply State.spaceParity_ok | apply State.dmHalt_ok | apply State.spaceBadNote_ok | apply State.dmShow_ok
    | apply State.spaceWrite_ok | apply State.ite_fst_ok

theorem State.dmPut_ok' {s : State} {c : Nat} {f : MemFaults} {x4 : MoverSet} {d : List Byte} {t : State} {b : Bool}
    (e : State.dmPut s c f x4 d = (t, b)) (hs : State.Ok ps s) : State.Ok ps t := by
  have h := State.dmPut_ok (ps := ps) s c f x4 d hs
  rw [e] at h
  exact h

theorem State.dmGet_ok (s : State) (c : Nat) (f : MemFaults) (x4 : MoverSet) (n : Nat) (hostData : List Byte) (hs : State.Ok ps s) :
    State.Ok ps (s.dmGet c f x4 n hostData).1 := by
  unfold State.dmGet
  with_reducible repeat'
    first
    | assumption | apply State.dmHalt_ok | apply State.spaceParity_ok | apply State.spaceNote_ok | apply State.ite_fst_ok

theorem State.dmGet_ok' {s : State} {c : Nat} {f : MemFaults} {x4 : MoverSet} {n : Nat} {hostData : List Byte} {t : State} {b : Option
    (List Byte)} (e : State.dmGet s c f x4 n hostData = (t, b)) (hs : State.Ok ps s) : State.Ok ps t := by
  have h := State.dmGet_ok (ps := ps) s c f x4 n hostData hs
  rw [e] at h
  exact h

theorem State.dmTransfer_ok (s : State) (c : Nat) (f : MemFaults) (x4 : MoverSet) (hostData : List Byte) (hs : State.Ok ps s) :
    State.Ok ps (s.dmTransfer c f x4 hostData).1 := by
  unfold State.dmTransfer
  with_reducible repeat' first | assumption | apply State.dmGet_ok | apply State.dmPut_ok | apply State.ite_fst_ok | split | dsimp only

theorem State.dmTransfer_ok' {s : State} {c : Nat} {f : MemFaults} {x4 : MoverSet} {hostData : List Byte} {t : State} {b : Bool}
    (e : State.dmTransfer s c f x4 hostData = (t, b)) (hs : State.Ok ps s) : State.Ok ps t := by
  have h := State.dmTransfer_ok (ps := ps) s c f x4 hostData hs
  rw [e] at h
  exact h

theorem State.dmRun_ok (x1 : Nat) (x2 : State) (x3 : Nat) (x4 : MemFaults) (x5 : MoverSet) (x6 : List Byte) (hs : State.Ok ps x2) :
    State.Ok ps (State.dmRun x1 x2 x3 x4 x5 x6) := by
  induction x1 generalizing x2 x3 x4 x5 x6 <;> unfold State.dmRun
  with_reducible repeat' first | assumption | apply State.dmTransfer_ok | apply State.ite_ok | apply_assumption

theorem State.dmLinkDown_ok (s : State) (p : Nat) (hs : State.Ok ps s) :
    State.Ok ps (s.dmLinkDown p) := by
  unfold State.dmLinkDown
  with_reducible repeat' first | assumption | intro _ | apply State.each_ok | apply State.dmHalt_ok | apply State.ite_ok | split

theorem State.moverGo_ok (s : State) (c : Nat) (x3 : MoverSet) (hs : State.Ok ps s) :
    State.Ok ps (s.moverGo c x3) := by
  unfold State.moverGo
  with_reducible repeat'
    first
    | assumption | apply State.setBit_ok | apply State.modChan_ok | apply State.dmPromote_ok | apply State.ite_ok

theorem State.moverDiscard_ok (s : State) (c : Nat) (hs : State.Ok ps s) :
    State.Ok ps (s.moverDiscard c) := by
  unfold State.moverDiscard
  with_reducible repeat'
    first
    | assumption | intro _ | apply State.dmGoto_ok | apply State.clrBit_ok | apply State.modChan_ok | apply State.onSome_ok
    | apply State.dmPost_ok | apply State.ite_ok

theorem State.moverNext_ok (s : State) (m : Nat) (hs : State.Ok ps s) :
    State.Ok ps (s.moverNext m) := by
  unfold State.moverNext
  with_reducible repeat'
    first
    | assumption | apply State.dmGoto_ok | apply State.modChan_ok | apply State.ite_ok | split
    | (apply State.mk_ok; first | assumption | apply State.dmGoto_ok | apply State.modChan_ok | apply State.ite_ok | split)

theorem State.abandonCmds_ok (s : State) (c : Nat) (hs : State.Ok ps s) :
    State.Ok ps (s.abandonCmds c) := by
  unfold State.abandonCmds
  with_reducible repeat'
    first
    | assumption | apply State.modNvme_ok | apply State.modMap_ok | apply State.modPool_ok | apply State.modTier_ok

theorem State.selfTestEnd_ok (s : State) (r : SelfTestRun) (result : Nat) (lba : Option Nat) (hs : State.Ok ps s) :
    State.Ok ps (s.selfTestEnd r result lba) := by
  unfold State.selfTestEnd
  with_reducible repeat' first | assumption | apply State.modNvme_ok

theorem State.ctrlReset_ok (s : State) (c : Nat) (hs : State.Ok ps s) :
    State.Ok ps (s.ctrlReset c) := by
  unfold State.ctrlReset
  with_reducible repeat'
    first
    | assumption | intro _ | apply State.abandonCmds_ok | apply State.modCtrl_ok | apply State.selfTestEnd_ok
    | apply State.drainPump_ok | apply State.pumpDue_ok | apply State.each_ok | apply State.modNvme_ok | apply State.ite_ok
    | (extract_lets +onlyGivenNames x; refine (fun hx => ?_ : State.Ok ps x → _) ?_; rotate_left; unfold x; clear x; rotate_right; clear_value x)
    | (extract_lets +onlyGivenNames x; clear_value x) | split

theorem State.trainLinks_ok (s : State) (hs : State.Ok ps s) :
    State.Ok ps (s.trainLinks) := by
  unfold State.trainLinks
  with_reducible repeat' first | assumption | intro _ | apply State.each_ok | apply State.modCtrl_ok | apply State.ite_ok

theorem State.ringsDown_ok (s : State) (p : Nat) (hs : State.Ok ps s) :
    State.Ok ps (s.ringsDown p) := by
  unfold State.ringsDown
  with_reducible repeat'
    first
    | assumption | intro _ | apply State.each_ok | apply State.when_ok | apply State.addSat_ok | apply State.dmHalt_ok
    | apply State.modRing_ok | apply State.ringSync_ok | apply State.clrBit_ok | apply State.setFld_ok | apply State.ite_ok

theorem State.functionReset_ok (s : State) (c : Nat) (hs : State.Ok ps s) :
    State.Ok ps (s.functionReset c) := by
  unfold State.functionReset
  with_reducible repeat' first | assumption | apply State.modCtrl_ok | apply State.ringsDown_ok | apply State.ctrlReset_ok

theorem State.linkDown_ok (s : State) (c : Nat) (hs : State.Ok ps s) :
    State.Ok ps (s.linkDown c) := by
  unfold State.linkDown
  with_reducible repeat' first | assumption | apply State.modCtrl_ok | apply State.dmLinkDown_ok | apply State.functionReset_ok

theorem State.ringHead_ok (s : State) (r : Nat) (hs : State.Ok ps s) :
    State.Ok ps (s.ringHead r) := by
  unfold State.ringHead
  with_reducible repeat' first | assumption | apply State.modRing_ok | apply State.hostWrite_ok

theorem State.ringDrain_ok (s : State) (r : Nat) (hs : State.Ok ps s) :
    State.Ok ps (s.ringDrain r) := by
  unfold State.ringDrain
  with_reducible repeat'
    first
    | assumption | apply State.ringSettle_ok | apply State.modRing_ok | apply State.clrBit_ok | apply State.setFld_ok
    | apply State.ite_ok

theorem State.ringHostErr_ok (s : State) (r : Nat) (hs : State.Ok ps s) :
    State.Ok ps (s.ringHostErr r) := by
  unfold State.ringHostErr
  with_reducible repeat' first | assumption | apply State.ringDrain_ok | apply State.setBit_ok

theorem State.modDesc_ok (s : State) (r : Nat) (tag : Nat) (f : RingDesc → RingDesc) (hs : State.Ok ps s) :
    State.Ok ps (s.modDesc r tag f) := by
  unfold State.modDesc
  with_reducible repeat' first | assumption | apply State.modRing_ok

theorem State.ringStart_ok (s : State) (r : Nat) (tag : Nat) (opc : Nat) (f : State → RingDesc → State) (hs : State.Ok ps s)
    (h5 : ∀ y0 y1, State.Ok ps y0 → State.Ok ps (f y0 y1)) :
    State.Ok ps (s.ringStart r tag opc f) := by
  unfold State.ringStart
  with_reducible repeat'
    first
    | assumption | apply h5 | apply State.ringEnd_ok | apply State.refuse_ok | apply State.modDesc_ok | apply State.newNonce_ok
    | apply State.ite_ok | split

theorem State.ringInvalid_ok (s : State) (r : Nat) (tag : Nat) (hs : State.Ok ps s) :
    State.Ok ps (s.ringInvalid r tag) := by
  unfold State.ringInvalid
  with_reducible repeat' first | assumption | apply State.ringEnd_ok

theorem State.ringLoad_ok (s : State) (r : Nat) (tag : Nat) (x4 : MoverSet) (hs : State.Ok ps s) :
    State.Ok ps (s.ringLoad r tag x4) := by
  unfold State.ringLoad
  with_reducible repeat'
    first
    | assumption | intro _ | apply State.when_ok | apply State.moverDiscard_ok | apply State.modDesc_ok | apply State.moverGo_ok
    | apply State.ite_ok

theorem State.ringRun_ok (s : State) (r : Nat) (ok : Nat) (data : List Byte) (f : MemFaults) (hs : State.Ok ps s) :
    State.Ok ps (s.ringRun r ok data f).1 := by
  unfold State.ringRun
  with_reducible repeat'
    first
    | assumption | intro _ | apply State.when_ok | apply State.moverNext_ok | apply State.dmRun_ok | apply State.dmDone_ok
    | apply State.dmHalt_ok | apply State.ite_fst_ok | split

theorem State.ringRun_ok' {s : State} {r : Nat} {ok : Nat} {data : List Byte} {f : MemFaults} {t : State} {b : SetRes}
    (e : State.ringRun s r ok data f = (t, b)) (hs : State.Ok ps s) : State.Ok ps t := by
  have h := State.ringRun_ok (ps := ps) s r ok data f hs
  rw [e] at h
  exact h

theorem State.ringSet_ok (s : State) (r : Nat) (tag : Nat) (d : RingDesc) (x5 : ChainExtent) (ok : Nat) (data : List Byte)
    (f : MemFaults) (hs : State.Ok ps s) :
    State.Ok ps (s.ringSet r tag d x5 ok data f).1 := by
  unfold State.ringSet
  with_reducible repeat'
    first
    | assumption | intro _ | apply State.when_ok | apply State.ringLoad_ok | apply State.ringRun_ok | apply State.modDesc_ok
    | apply State.ite_ok | apply State.ite_fst_ok

theorem State.ringSet_ok' {s : State} {r : Nat} {tag : Nat} {d : RingDesc} {x5 : ChainExtent} {ok : Nat} {data : List Byte} {f : MemFaults} {t : State} {b : Nat × SetRes} (e : State.ringSet s r tag d x5 ok data f = (t, b)) (hs : State.Ok ps s) : State.Ok ps t := by
  have h := State.ringSet_ok (ps := ps) s r tag d x5 ok data f hs
  rw [e] at h
  exact h

theorem State.ringAdd_ok (s : State) (r : Nat) (tag : Nat) (n : Nat) (hs : State.Ok ps s) :
    State.Ok ps (s.ringAdd r tag n) := by
  unfold State.ringAdd
  with_reducible repeat' first | assumption | apply State.modDesc_ok

theorem State.ringExtents_ok (s : State) (r : Nat) (tag : Nat) (d : RingDesc) (x5 : List ChainExtent) (x6 : Nat) (x7 : List Byte)
    (x8 : MemFaults) (hs : State.Ok ps s) :
    State.Ok ps (s.ringExtents r tag d x5 x6 x7 x8).1 := by
  induction x5 generalizing s r tag d x6 x7 x8 <;> unfold State.ringExtents
  with_reducible repeat'
    first
    | assumption | apply State.modDesc_ok | apply State.ringSet_ok | apply State.ringAdd_ok | apply State.ite_fst_ok
    | (extract_lets +onlyGivenNames x; refine (fun hx => ?_ : State.Ok ps x → _) ?_; rotate_left; unfold x; clear x; rotate_right; clear_value x)
    | split | dsimp only | apply_assumption

theorem State.ringExtents_ok' {s : State} {r : Nat} {tag : Nat} {d : RingDesc} {x5 : List ChainExtent} {x6 : Nat} {x7 : List Byte} {x8 : MemFaults} {t : State} {b : SetRes × Nat} (e : State.ringExtents s r tag d x5 x6 x7 x8 = (t, b)) (hs : State.Ok ps s) : State.Ok ps t := by
  have h := State.ringExtents_ok (ps := ps) s r tag d x5 x6 x7 x8 hs
  rw [e] at h
  exact h

theorem State.ringMoved_ok (s : State) (r : Nat) (tag : Nat) (status : Nat) (hs : State.Ok ps s) :
    State.Ok ps (s.ringMoved r tag status) := by
  unfold State.ringMoved
  with_reducible repeat' first | assumption | apply State.ringComplete_ok

theorem State.ringBlocks_ok (s : State) (r : Nat) (tag : Nat) (x4 : List ChainBlock) (x5 : Nat) (x6 : List Byte) (x7 : MemFaults)
    (hs : State.Ok ps s) :
    State.Ok ps (s.ringBlocks r tag x4 x5 x6 x7) := by
  induction x4 generalizing s r tag x5 x6 x7 <;> unfold State.ringBlocks
  with_reducible repeat'
    first
    | assumption | intro _ | apply State.ringHostErr_ok | apply State.ringExtents_ok | apply State.ringMoved_ok
    | apply State.modDesc_ok | apply State.ringComplete_ok | apply State.ringSync_ok | apply State.when_ok | apply State.ringPost_ok
    | apply State.ite_ok
    | (extract_lets +onlyGivenNames x; refine (fun hx => ?_ : State.Ok ps x → _) ?_; rotate_left; unfold x; clear x; rotate_right; clear_value x)
    | split | dsimp only | apply_assumption

theorem State.ringGo_ok (s : State) (r : Nat) (tag : Nat) (blocks : List ChainBlock) (ok : Nat) (data : List Byte) (f : MemFaults)
    (hs : State.Ok ps s) :
    State.Ok ps (s.ringGo r tag blocks ok data f) := by
  unfold State.ringGo
  with_reducible repeat'
    first
    | assumption | apply State.ringBlocks_ok | apply State.ringSet_ok | apply State.ringAdd_ok | apply State.ringMoved_ok
    | apply State.modDesc_ok | apply State.ite_ok
    | (extract_lets +onlyGivenNames x; refine (fun hx => ?_ : State.Ok ps x → _) ?_; rotate_left; unfold x; clear x; rotate_right; clear_value x)
    | split | dsimp only

theorem State.ringMove_ok (s : State) (r : Nat) (tag : Nat) (opc : Nat) (blocks : List ChainBlock) (ok : Nat) (data : List Byte)
    (f : MemFaults) (hs : State.Ok ps s) :
    State.Ok ps (s.ringMove r tag opc blocks ok data f) := by
  unfold State.ringMove
  with_reducible repeat'
    first
    | assumption | intro _ | apply State.ringGo_ok | apply State.ringStart_ok | apply State.ringInvalid_ok | apply State.ite_ok | split

theorem State.ringOut_ok (s : State) (r : Nat) (tag : Nat) (addr : Nat) (data : List Byte) (ok : Bool) (result : Nat)
    (hs : State.Ok ps s) :
    State.Ok ps (s.ringOut r tag addr data ok result) := by
  unfold State.ringOut
  with_reducible repeat' first | assumption | apply State.ringComplete_ok | apply State.hostWrite_ok | apply State.ite_ok

end Sys2Proof.Machine
end

