-- ==== Sys2Proof/Laws/KeepMedia.lean ====
section
/-! SUPPORT. Every operation and every meaning keeps the queue and the canonical form of the stores (`State.Ok`):
zone 0, power, the Accord, writing, the controllers, the map and the tier.
Each lemma follows the steps of its definition, with the lemmas of what that calls. -/
namespace Sys2Proof.Machine

variable {ps : List Instr}

theorem State.putZone0_ok (s : State) (p : FramePos) (kind : Nat) (tag : Nat) (payload : List Byte) (hs : State.Ok ps s) :
    State.Ok ps (s.putZone0 p kind tag payload) := by
  unfold State.putZone0
  with_reducible repeat' first | assumption | apply State.modMap_ok

theorem State.putImage_ok (s : State) (surf : Nat) (track : Nat) (kind : Nat) (tag : Nat) (bytes : List Byte) (hs : State.Ok ps s) :
    State.Ok ps (s.putImage surf track kind tag bytes) := by
  unfold State.putImage
  with_reducible repeat' first | assumption | intro _ | apply State.each_ok | apply State.putZone0_ok

theorem State.putCopy_ok (s : State) (a : Act) (k : Nat) (seq : Nat) (entries : List (Nat × MapEntry)) (hs : State.Ok ps s) :
    State.Ok ps (s.putCopy a k seq entries) := by
  unfold State.putCopy
  with_reducible repeat' first | assumption | intro _ | apply State.each_ok | apply State.putZone0_ok

theorem State.putRoot_ok (s : State) (r : Root) (hs : State.Ok ps s) :
    State.Ok ps (s.putRoot r) := by
  unfold State.putRoot
  with_reducible repeat' first | assumption | intro _ | apply State.each_ok | apply State.putImage_ok

theorem State.setSeq_ok (s : State) (n : Nat) (x3 : Bool) (hs : State.Ok ps s) :
    State.Ok ps (s.setSeq n x3) := by
  unfold State.setSeq
  with_reducible repeat' first | assumption | apply State.modPins_ok

theorem State.railOk_ok (s : State) (n : Nat) (x3 : Bool) (hs : State.Ok ps s) :
    State.Ok ps (s.railOk n x3) := by
  unfold State.railOk
  with_reducible repeat' first | assumption | apply State.setFldBit_ok

theorem State.enableRail_ok (s : State) (n : Nat) (hs : State.Ok ps s) :
    State.Ok ps (s.enableRail n) := by
  unfold State.enableRail
  with_reducible repeat' first | assumption | apply State.modPower_ok | apply State.setSeq_ok

theorem State.disableRail_ok (s : State) (n : Nat) (hs : State.Ok ps s) :
    State.Ok ps (s.disableRail n) := by
  unfold State.disableRail
  with_reducible repeat' first | assumption | apply State.railOk_ok | apply State.setSeq_ok

theorem State.railsOff_ok (s : State) (hs : State.Ok ps s) :
    State.Ok ps (s.railsOff) := by
  unfold State.railsOff
  with_reducible repeat' first | assumption | intro _ | apply State.disableRail_ok | apply State.foldl_ok

theorem State.supplyReset_ok (s : State) (hs : State.Ok ps s) :
    State.Ok ps (s.supplyReset) := by
  unfold State.supplyReset
  with_reducible repeat'
    first
    | assumption | apply State.rebooted_ok | apply State.retractTrigger_ok | apply State.closeAllGates_ok | apply State.modPower_ok
    | apply State.setFld_ok

theorem State.powerDown_ok (s : State) (hs : State.Ok ps s) :
    State.Ok ps (s.powerDown) := by
  unfold State.powerDown
  with_reducible repeat'
    first
    | assumption | intro _ | apply State.each_ok | apply State.modPins_ok | apply State.modPower_ok | apply State.disableRail_ok
    | apply State.silClose_ok | apply State.modCtrl_ok

theorem State.pmDone_ok (s : State) (x2 : Nat) (hs : State.Ok ps s) :
    State.Ok ps (s.pmDone x2) := by
  unfold State.pmDone
  with_reducible repeat' first | assumption | intro _ | apply State.each_ok | apply State.complete_ok

theorem State.reachActive_ok (s : State) (hs : State.Ok ps s) :
    State.Ok ps (s.reachActive) := by
  unfold State.reachActive
  with_reducible repeat'
    first
    | assumption | intro _ | apply State.pmDone_ok | apply State.modPower_ok | apply State.setFld_ok | apply State.each_ok
    | apply State.setFeature_ok | apply State.ite_ok

theorem State.wakeStandby_ok (s : State) (hs : State.Ok ps s) :
    State.Ok ps (s.wakeStandby) := by
  unfold State.wakeStandby
  with_reducible repeat'
    first
    | assumption | apply State.wantSpin_ok | apply State.abandonRuns_ok | apply State.modPower_ok | apply State.setFld_ok
    | apply State.ite_ok

theorem State.reachStandby_ok (s : State) (hs : State.Ok ps s) :
    State.Ok ps (s.reachStandby) := by
  unfold State.reachStandby
  with_reducible repeat'
    first
    | assumption | apply State.silClose_ok | apply State.setFld_ok | apply State.cacheWriteBackAll_ok | apply State.modPower_ok
    | apply State.pmDone_ok | apply State.wakeStandby_ok | apply State.ite_ok

theorem State.standbyStep_ok (s : State) (hs : State.Ok ps s) :
    State.Ok ps (s.standbyStep) := by
  unfold State.standbyStep
  with_reducible repeat'
    first
    | assumption | apply State.parkBoth_ok | apply State.abandonRuns_ok | apply State.modPower_ok | apply State.reachStandby_ok
    | apply State.stopSpindle_ok | apply State.ite_ok

theorem State.powerTo_ok (s : State) (x2 : Nat) (hs : State.Ok ps s) :
    State.Ok ps (s.powerTo x2) := by
  unfold State.powerTo
  with_reducible repeat'
    first
    | assumption | apply State.wakeStandby_ok | apply State.modPower_ok | apply State.pmDone_ok | apply State.setFld_ok
    | apply State.standbyStep_ok | apply State.ite_ok

theorem State.powerRequest_ok (s : State) (x2 : Nat) (hs : State.Ok ps s) :
    State.Ok ps (s.powerRequest x2) := by
  unfold State.powerRequest
  with_reducible repeat' first | assumption | apply State.modPower_ok | apply State.powerTo_ok | apply State.ite_ok

theorem State.deferredPump_ok (s : State) (hs : State.Ok ps s) :
    State.Ok ps (s.deferredPump) := by
  unfold State.deferredPump
  with_reducible repeat' first | assumption | apply State.powerTo_ok | apply State.modPower_ok | apply State.ite_ok | split

theorem State.mediaWake_ok (s : State) (hs : State.Ok ps s) :
    State.Ok ps (s.mediaWake) := by
  unfold State.mediaWake
  with_reducible repeat' first | assumption | apply State.setFld_ok | apply State.wakeStandby_ok | apply State.ite_ok

theorem State.enterHibernate_ok (s : State) (hs : State.Ok ps s) :
    State.Ok ps (s.enterHibernate) := by
  unfold State.enterHibernate
  with_reducible repeat' first | assumption | apply State.powerDown_ok | apply State.ite_ok

theorem State.wakeHibernate_ok {p : List Instr} (x1 : State) (h1 : State.Ok p x1) : State.Ok p (State.wakeHibernate x1) := by
  unfold State.wakeHibernate
  split
  · exact h1
  · have hr := State.rebooted_ok h1
    refine State.enableRail_ok _ _ (State.modPower_ok _ (State.setFld_ok _ _ (State.setFld_ok _ _ ⟨hr.1, ?_, hr.2.2.1, hr.2.2.2⟩)))
    exact SMap.wf_filter _ _ _ h1.2.1

theorem State.holdFrom_ok (s : State) (hs : State.Ok ps s) :
    State.Ok ps (s.holdFrom) := by
  unfold State.holdFrom
  with_reducible repeat' first | assumption | intro _ | apply State.each_ok | apply State.modDom_ok | apply State.ite_ok

theorem State.rideEnd_ok (s : State) (outcome : Nat) (hs : State.Ok ps s) :
    State.Ok ps (s.rideEnd outcome) := by
  unfold State.rideEnd
  with_reducible repeat'
    first
    | assumption | apply State.record_ok | apply State.setFld_ok | apply State.modPower_ok | apply State.ite_ok | split

theorem State.rideHold_ok (s : State) (hs : State.Ok ps s) :
    State.Ok ps (s.rideHold) := by
  unfold State.rideHold
  with_reducible repeat' first | assumption | apply State.modPower_ok | apply State.setFld_ok

theorem State.rideBegin_ok (s : State) (hs : State.Ok ps s) :
    State.Ok ps (s.rideBegin) := by
  unfold State.rideBegin
  with_reducible repeat'
    first
    | assumption | apply State.modPower_ok | apply State.record_ok | apply State.bump_ok | apply State.rideHold_ok

theorem State.vmToNormal_ok (s : State) (hs : State.Ok ps s) :
    State.Ok ps (s.vmToNormal) := by
  unfold State.vmToNormal
  with_reducible repeat'
    first
    | assumption | intro _ | apply State.when_ok | apply State.record_ok | apply State.bump_ok | apply State.setFld_ok
    | apply State.setBit_ok | apply State.deferredPump_ok | apply State.resumeReads_ok | apply State.modPower_ok

theorem State.parkHold_ok (s : State) (hs : State.Ok ps s) :
    State.Ok ps (s.parkHold) := by
  unfold State.parkHold
  with_reducible repeat' first | assumption | apply State.holdFrom_ok | apply State.parkBoth_ok

theorem State.bootStart_ok (s : State) (failed : Nat) (hs : State.Ok ps s) :
    State.Ok ps (s.bootStart failed) := by
  unfold State.bootStart
  with_reducible repeat'
    first
    | assumption | intro _ | apply State.modPower_ok | apply State.setFld_ok | apply State.trainLinks_ok | apply State.modPins_ok
    | apply State.secBoot_ok | apply State.wearSync_ok | apply State.silBoot_ok | apply State.each_ok | apply State.acSlotSync_ok
    | apply State.baseNote_ok | refine State.modMem_ok _ (fun _ => ⟨rfl, rfl, rfl, rfl⟩) ?_ | apply State.ite_ok

theorem State.acBootErr_ok (s : State) (k : Nat) (err : Nat) (sect : Nat) (hs : State.Ok ps s) :
    State.Ok ps (s.acBootErr k err sect) := by
  unfold State.acBootErr
  with_reducible repeat' first | assumption | apply State.acRevoke_ok | apply State.acErr_ok

theorem State.relayoutMedia_ok (s : State) (dg : List Byte) (hs : State.Ok ps s) :
    State.Ok ps (s.relayoutMedia dg) := by
  unfold State.relayoutMedia
  with_reducible repeat'
    first
    | assumption | apply State.modMap_ok | apply State.modTier_ok
    | (extract_lets +onlyGivenNames x; refine (fun hx => ?_ : State.Ok ps x → _) ?_; rotate_left; unfold x; clear x; rotate_right; clear_value x)
    | (apply State.mk_ok; first | assumption | apply State.modMap_ok | apply State.modTier_ok)

theorem State.applyAccord_ok (s : State) (k : Nat) (img : List Byte) (hs : State.Ok ps s) :
    State.Ok ps (s.applyAccord k img) := by
  unfold State.applyAccord
  with_reducible repeat'
    first
    | assumption | intro _ | apply State.acShow_ok | apply State.setFld_ok | apply State.assistLoad_ok | apply State.foldl_ok
    | (apply State.mk_ok; first | assumption | apply State.acShow_ok | apply State.setFld_ok | apply State.assistLoad_ok | apply State.foldl_ok)

theorem State.acUse_ok (s : State) (k : Nat) (hs : State.Ok ps s) :
    State.Ok ps (s.acUse k).1 := by
  unfold State.acUse
  with_reducible repeat'
    first
    | assumption | intro _ | apply State.acMark_ok | apply State.acBootErr_ok | apply State.applyAccord_ok | apply State.when_ok
    | apply State.relayoutMedia_ok | apply State.ite_fst_ok
    | (extract_lets +onlyGivenNames x; refine (fun hx => ?_ : State.Ok ps x → _) ?_; rotate_left; unfold x; clear x; rotate_right; clear_value x)
    | (apply State.mk_ok; first | assumption | apply State.acMark_ok | apply State.acBootErr_ok | apply State.applyAccord_ok | apply State.when_ok | apply State.relayoutMedia_ok | apply State.ite_fst_ok)

theorem State.acUse_ok' {s : State} {k : Nat} {t : State} {b : Bool} (e : State.acUse s k = (t, b))
    (hs : State.Ok ps s) : State.Ok ps t := by
  have h := State.acUse_ok (ps := ps) s k hs
  rw [e] at h
  exact h

theorem State.acTry_ok (s : State) (k : Nat) (v : Option (Nat × Nat)) (hs : State.Ok ps s) :
    State.Ok ps (s.acTry k v).1 := by
  unfold State.acTry
  with_reducible repeat'
    first
    | assumption | apply State.acBootErr_ok | apply State.acRevoke_ok | apply State.acRefuse_ok | apply State.acUse_ok
    | apply State.ite_fst_ok | split

theorem State.acTry_ok' {s : State} {k : Nat} {v : Option (Nat × Nat)} {t : State} {b : Bool} (e : State.acTry s k v = (t, b))
    (hs : State.Ok ps s) : State.Ok ps t := by
  have h := State.acTry_ok (ps := ps) s k v hs
  rw [e] at h
  exact h

theorem State.acSelect_ok (s : State) (x2 : List Nat) (hs : State.Ok ps s) :
    State.Ok ps (s.acSelect x2) := by
  induction x2 generalizing s <;> unfold State.acSelect
  with_reducible repeat' first | assumption | apply State.acTry_ok | apply State.ite_ok | apply_assumption

theorem State.bootRestore_ok (s : State) (d : Dom) (hs : State.Ok ps s) :
    State.Ok ps (s.bootRestore d) := by
  unfold State.bootRestore
  with_reducible repeat' first | assumption | apply State.enterRestoring_ok | apply State.modDom_ok | apply State.ite_ok

theorem State.surfaceLoad_ok (s : State) (hs : State.Ok ps s) :
    State.Ok ps (s.surfaceLoad) := by
  unfold State.surfaceLoad
  with_reducible repeat'
    first
    | assumption | intro _ | apply State.setFld_ok | apply State.each_ok | apply State.modHead_ok | apply State.wdisEnd_ok

theorem State.accordBoot_ok (s : State) (hs : State.Ok ps s) :
    State.Ok ps (s.accordBoot) := by
  unfold State.accordBoot
  with_reducible repeat'
    first
    | assumption | intro _ | apply State.acSelect_ok | apply State.bootRecord_ok | apply State.acOp_ok | apply State.acErr_ok
    | apply State.baseNote_ok | apply State.when_ok | apply State.setBit_ok | apply State.record_ok | apply State.wantSpin_ok
    | apply State.setFld_ok | apply State.surfaceLoad_ok | apply State.deferredPump_ok | apply State.bootRestore_ok
    | apply State.trainLinks_ok | apply State.ite_ok

theorem State.afterStopped_ok (s : State) (hs : State.Ok ps s) :
    State.Ok ps (s.afterStopped) := by
  unfold State.afterStopped
  with_reducible repeat' first | assumption | apply State.reachStandby_ok | apply State.ite_ok

theorem State.afterLocked_ok (s : State) (hs : State.Ok ps s) :
    State.Ok ps (s.afterLocked) := by
  unfold State.afterLocked
  with_reducible repeat'
    first
    | assumption | intro _ | apply State.when_ok | apply State.each_ok | apply State.bootRestore_ok | apply State.stopSpindle_ok
    | apply State.startLoad_ok | apply State.modSv_ok | apply State.heldLoad_ok | apply State.tryLoad_ok | apply State.ite_ok

theorem State.afterFollowing_ok (s : State) (a : Act) (hs : State.Ok ps s) :
    State.Ok ps (s.afterFollowing a) := by
  unfold State.afterFollowing
  with_reducible repeat'
    first
    | assumption | apply State.restoreDone_ok | apply State.deferredPump_ok | apply State.resumeReads_ok | apply State.when_ok
    | apply State.reachActive_ok

theorem State.zoneEntered_ok (s : State) (hs : State.Ok ps s) :
    State.Ok ps (s.zoneEntered) := by
  unfold State.zoneEntered
  with_reducible repeat'
    first
    | assumption | intro _ | apply State.calZone_ok | apply State.each_ok | apply State.modSv_ok | apply State.ite_ok

theorem State.moveSlewed_ok (s : State) (m : Nat) (hs : State.Ok ps s) :
    State.Ok ps (s.moveSlewed m) := by
  unfold State.moveSlewed
  with_reducible repeat' first | assumption | apply State.setSlewed_ok | apply State.when_ok | apply State.zoneEntered_ok

theorem State.accordLoad_ok (s : State) (hs : State.Ok ps s) :
    State.Ok ps (s.accordLoad) := by
  unfold State.accordLoad
  with_reducible repeat' first | assumption | apply State.accordBoot_ok | apply State.ite_ok

theorem execAccordBootLoad_ok (s : State) (hs : State.Ok ps s) :
    Outcome.Ok ps (execAccordBootLoad s) := by
  unfold execAccordBootLoad
  with_reducible repeat' first | assumption | apply Outcome.ok_next | apply State.whileLive_ok | apply State.accordLoad_ok

theorem State.acStart_ok (s : State) (o : StoreOwner) (img : List Byte) (relayout : Bool) (apply : Bool) (hs : State.Ok ps s) :
    State.Ok ps (s.acStart o img relayout apply) := by
  unfold State.acStart
  with_reducible repeat'
    first
    | assumption | apply State.answerStore_ok | apply State.acRefuse_ok | apply State.acSlotSync_ok | apply State.modFlashAccord_ok
    | apply State.acOp_ok | apply State.ite_ok
    | (extract_lets +onlyGivenNames x; refine (fun hx => ?_ : State.Ok ps x → _) ?_; rotate_left; unfold x; clear x; rotate_right; clear_value x)
    | split
    | (apply State.mk_ok; first | assumption | apply State.answerStore_ok | apply State.acRefuse_ok | apply State.acSlotSync_ok | apply State.modFlashAccord_ok | apply State.acOp_ok | apply State.ite_ok | split)

theorem State.accordStore_ok (s : State) (r : Nat) (tag : Nat) (img : List Byte) (ok : Bool) (hs : State.Ok ps s) :
    State.Ok ps (s.accordStore r tag img ok) := by
  unfold State.accordStore
  with_reducible repeat'
    first
    | assumption | intro _ | apply State.ringStart_ok | apply State.ringEnd_ok | apply State.acStart_ok | apply State.ite_ok

theorem execAccordStore_ok (ring : Nat) (tag : Nat) (img : List Byte) (ok : Bool) (s : State) (hs : State.Ok ps s) :
    Outcome.Ok ps (execAccordStore ring tag img ok s) := by
  unfold execAccordStore
  with_reducible repeat' first | assumption | apply Outcome.ok_next | intro _ | apply State.whileLive_ok | apply State.accordStore_ok

theorem State.storeKept_ok (s : State) (x2 : StoreOp) (hs : State.Ok ps s) :
    State.Ok ps (s.storeKept x2) := by
  unfold State.storeKept
  with_reducible repeat'
    first
    | assumption | apply State.answerStore_ok | apply State.acOp_ok
    | (apply State.mk_ok; first | assumption | apply State.answerStore_ok | apply State.acOp_ok)

theorem State.storeWritten_ok (s : State) (ok : Bool) (hs : State.Ok ps s) :
    State.Ok ps (s.storeWritten ok) := by
  unfold State.storeWritten
  with_reducible repeat'
    first
    | assumption | apply State.acOp_ok | apply State.acRevoke_ok | apply State.deferredPump_ok | apply State.answerStore_ok
    | apply State.acSlotSync_ok | apply State.modFlashAccord_ok | apply State.storeKept_ok | apply State.acMark_ok
    | apply State.takeDown_ok | apply State.ite_ok
    | (extract_lets +onlyGivenNames x; refine (fun hx => ?_ : State.Ok ps x → _) ?_; rotate_left; unfold x; clear x; rotate_right; clear_value x)
    | split
    | (apply State.mk_ok; first | assumption | apply State.acOp_ok | apply State.acRevoke_ok | apply State.deferredPump_ok | apply State.answerStore_ok | apply State.acSlotSync_ok | apply State.modFlashAccord_ok | apply State.storeKept_ok | apply State.acMark_ok | apply State.takeDown_ok | apply State.ite_ok | split)

theorem execAccordStoreWritten_ok (ok : Bool) (s : State) (hs : State.Ok ps s) :
    Outcome.Ok ps (execAccordStoreWritten ok s) := by
  unfold execAccordStoreWritten
  with_reducible repeat' first | assumption | apply Outcome.ok_next | intro _ | apply State.whileLive_ok | apply State.storeWritten_ok

theorem State.mediaCopies_ok (s : State) (okA : Bool) (okB : Bool) (hs : State.Ok ps s) :
    State.Ok ps (s.mediaCopies okA okB) := by
  unfold State.mediaCopies
  with_reducible repeat'
    first
    | assumption | intro _ | apply State.each_ok | apply State.putImage_ok | apply State.setFld_ok | apply State.ite_ok
    | (apply State.mk_ok; first | assumption | apply State.each_ok | apply State.putImage_ok | apply State.setFld_ok | apply State.ite_ok)

theorem execAccordMediaCopy_ok (okA : Bool) (okB : Bool) (s : State) (hs : State.Ok ps s) :
    Outcome.Ok ps (execAccordMediaCopy okA okB s) := by
  unfold execAccordMediaCopy
  with_reducible repeat' first | assumption | apply Outcome.ok_next | intro _ | apply State.whileLive_ok | apply State.mediaCopies_ok

theorem State.mediaCopyRead_ok (s : State) (r : Nat) (tag : Nat) (ok : Bool) (hs : State.Ok ps s) :
    State.Ok ps (s.mediaCopyRead r tag ok) := by
  unfold State.mediaCopyRead
  with_reducible repeat'
    first
    | assumption | intro _ | apply State.ringStart_ok | apply State.ringEnd_ok | apply State.hostWrite_ok | apply State.ite_ok | split

theorem execAccordMediaCopyRead_ok (ring : Nat) (tag : Nat) (ok : Bool) (s : State) (hs : State.Ok ps s) :
    Outcome.Ok ps (execAccordMediaCopyRead ring tag ok s) := by
  unfold execAccordMediaCopyRead
  with_reducible repeat' first | assumption | apply Outcome.ok_next | intro _ | apply State.whileLive_ok | apply State.mediaCopyRead_ok

theorem State.lockStep_ok (s : State) (m : Cmd) (hs : State.Ok ps s) :
    State.Ok ps (s.lockStep m) := by
  unfold State.lockStep
  with_reducible repeat' first | assumption | apply State.modCmd_ok | apply State.ite_ok

theorem State.ioStart_ok (s : State) (c : Nat) (q : Nat) (cid : Nat) (opc : Nat) (f : State → Cmd → State) (hs : State.Ok ps s)
    (h6 : ∀ y0 y1, State.Ok ps y0 → State.Ok ps (f y0 y1)) :
    State.Ok ps (s.ioStart c q cid opc f) := by
  unfold State.ioStart
  with_reducible repeat'
    first
    | assumption | apply h6 | apply State.lockStep_ok | apply State.complete_ok | apply State.ite_ok
    | (extract_lets +onlyGivenNames x; refine (fun hx => ?_ : State.Ok ps x → _) ?_; rotate_left; unfold x; clear x; rotate_right; clear_value x)
    | split

theorem State.begin_ok (s : State) (m : Cmd) (hs : State.Ok ps s) :
    State.Ok ps (s.begin m) := by
  unfold State.begin
  with_reducible repeat' first | assumption | apply State.modCmd_ok

theorem State.queueGroups_ok (s : State) (m : Cmd) (g : Nat) (zone : Option Nat) (data : List (List Byte)) (result : Nat)
    (hs : State.Ok ps s) :
    State.Ok ps (s.queueGroups m g zone data result).1 := by
  unfold State.queueGroups
  with_reducible repeat'
    first
    | assumption | intro _ | apply State.each_ok | apply State.wantRecon_ok | apply State.modMap_ok | apply State.ite_fst_ok
    | apply State.foldl_fst_ok | split

theorem State.queueGroups_ok' {s : State} {m : Cmd} {g : Nat} {zone : Option Nat} {data : List
    (List Byte)} {result : Nat} {t : State} {b : Option NvStatus × Bool} (e : State.queueGroups s m g zone data result = (t, b))
    (hs : State.Ok ps s) : State.Ok ps t := by
  have h := State.queueGroups_ok (ps := ps) s m g zone data result hs
  rw [e] at h
  exact h

theorem State.ownerStep_ok (s : State) (l : JLine) (seq : Nat) (record : List Byte) (data : List Byte) (hs : State.Ok ps s) :
    State.Ok ps (s.ownerStep l seq record data) := by
  unfold State.ownerStep
  with_reducible repeat'
    first
    | assumption | apply State.modNvme_ok | apply State.pairGroup_ok | apply State.modPool_ok | apply State.finishWrite_ok
    | apply State.ite_ok
    | (extract_lets +onlyGivenNames x; refine (fun hx => ?_ : State.Ok ps x → _) ?_; rotate_left; unfold x; clear x; rotate_right; clear_value x)
    | split

theorem State.poolTry_ok (s : State) (m : Cmd) (hs : State.Ok ps s) :
    State.Ok ps (s.poolTry m) := by
  unfold State.poolTry
  with_reducible repeat' first | assumption | intro _ | apply State.each_ok | apply State.poolRead_ok | apply State.ite_ok | split

theorem State.queueDealloc_ok (s : State) (m : Cmd) (g : Nat) (n : Nat) (hs : State.Ok ps s) :
    State.Ok ps (s.queueDealloc m g n).1 := by
  unfold State.queueDealloc
  with_reducible repeat'
    first
    | assumption | intro _ | apply State.queueGroups_ok | apply State.jline_ok | apply State.ite_fst_ok | apply State.foldl_fst_ok

theorem State.queueDealloc_ok' {s : State} {m : Cmd} {g : Nat} {n : Nat} {t : State} {b : Option NvStatus × Bool}
    (e : State.queueDealloc s m g n = (t, b)) (hs : State.Ok ps s) : State.Ok ps t := by
  have h := State.queueDealloc_ok (ps := ps) s m g n hs
  rw [e] at h
  exact h

theorem State.zoneRecord_ok (s : State) (o : Option CmdRef) (nsid : Nat) (z : Nat) (zs : Nat) (wp : Nat) (hs : State.Ok ps s) :
    State.Ok ps (s.zoneRecord o nsid z zs wp) := by
  unfold State.zoneRecord
  with_reducible repeat' first | assumption | apply State.jline_ok | apply State.setZone_ok

theorem State.zoneChanged_ok (s : State) (nsid : Nat) (z : Nat) (hs : State.Ok ps s) :
    State.Ok ps (s.zoneChanged nsid z) := by
  unfold State.zoneChanged
  with_reducible repeat' first | assumption | apply State.aerZone_ok | apply State.modNvme_ok

theorem State.zoneWritten_ok (s : State) (nsid : Nat) (z : Nat) (hs : State.Ok ps s) :
    State.Ok ps (s.zoneWritten nsid z) := by
  unfold State.zoneWritten
  with_reducible repeat' first | assumption | apply State.zoneRecord_ok | apply State.ite_ok

theorem State.noticeAll_ok (s : State) (c : Nat) (hs : State.Ok ps s) :
    State.Ok ps (s.noticeAll c) := by
  unfold State.noticeAll
  with_reducible repeat' first | assumption | apply State.modCtrl_ok | apply State.aerOn_ok | apply State.ite_ok

theorem State.ctrlEnable_ok (s : State) (c : Nat) (crime : Bool) (wrr : Bool) (asq : Nat) (acq : Nat) (hs : State.Ok ps s) :
    State.Ok ps (s.ctrlEnable c crime wrr asq acq) := by
  unfold State.ctrlEnable
  with_reducible repeat' first | assumption | apply State.putCq_ok | apply State.putSq_ok | apply State.modCtrl_ok | apply State.ite_ok

theorem execControllerEnable_ok (ctrl : Nat) (crime : Bool) (wrr : Bool) (asq : Nat) (acq : Nat) (s : State) (hs : State.Ok ps s) :
    Outcome.Ok ps (execControllerEnable ctrl crime wrr asq acq s) := by
  unfold execControllerEnable
  with_reducible repeat' first | assumption | apply Outcome.ok_next | intro _ | apply State.whileLive_ok | apply State.ctrlEnable_ok

theorem State.ctrlReady_ok (s : State) (c : Nat) (hs : State.Ok ps s) :
    State.Ok ps (s.ctrlReady c) := by
  unfold State.ctrlReady
  with_reducible repeat' first | assumption | apply State.modCtrl_ok | apply State.noticeAll_ok | apply State.ite_ok

theorem execControllerReady_ok (ctrl : Nat) (s : State) (hs : State.Ok ps s) :
    Outcome.Ok ps (execControllerReady ctrl s) := by
  unfold execControllerReady
  with_reducible repeat' first | assumption | apply Outcome.ok_next | intro _ | apply State.whileLive_ok | apply State.ctrlReady_ok

theorem State.ctrlResetBy_ok (s : State) (c : Nat) (k : ResetKind) (hs : State.Ok ps s) :
    State.Ok ps (s.ctrlResetBy c k) := by
  unfold State.ctrlResetBy
  with_reducible repeat'
    first
    | assumption | intro _ | apply State.whileLive_ok | apply State.ctrlReset_ok | apply State.when_ok | apply State.functionReset_ok
    | apply State.modCtrl_ok | apply State.linkDown_ok | apply State.ite_ok | split

theorem execControllerReset_ok (ctrl : Nat) (kind : ResetKind) (s : State) (hs : State.Ok ps s) :
    Outcome.Ok ps (execControllerReset ctrl kind s) := by
  unfold execControllerReset
  with_reducible repeat' first | assumption | apply Outcome.ok_next | apply State.standbyStep_ok | apply State.ctrlResetBy_ok

theorem State.withdraw_ok (s : State) (m : Cmd) (hs : State.Ok ps s) :
    State.Ok ps (s.withdraw m) := by
  unfold State.withdraw
  with_reducible repeat' first | assumption | apply State.modMap_ok | apply State.modTier_ok

theorem State.endCmds_ok (s : State) (p : Cmd → Bool) (st : NvStatus) (hs : State.Ok ps s) :
    State.Ok ps (s.endCmds p st) := by
  unfold State.endCmds
  with_reducible repeat'
    first
    | assumption | intro _ | apply State.each_ok | apply State.finish_ok | apply State.withdraw_ok | apply State.ite_ok | split

theorem State.ctrlShutdown_ok (s : State) (c : Nat) (shn : Nat) (hs : State.Ok ps s) :
    State.Ok ps (s.ctrlShutdown c shn) := by
  unfold State.ctrlShutdown
  with_reducible repeat'
    first
    | assumption | apply State.endCmds_ok | apply State.modCtrl_ok | apply State.shutSettle_ok | apply State.ite_ok

theorem execControllerShutdown_ok (ctrl : Nat) (shn : Nat) (s : State) (hs : State.Ok ps s) :
    Outcome.Ok ps (execControllerShutdown ctrl shn s) := by
  unfold execControllerShutdown
  with_reducible repeat'
    first
    | assumption | apply Outcome.ok_next | intro _ | apply State.whileLive_ok | apply State.standbyStep_ok
    | apply State.ctrlShutdown_ok

theorem State.perstRise_ok (s : State) (c : Nat) (hs : State.Ok ps s) :
    State.Ok ps (s.perstRise c) := by
  unfold State.perstRise
  with_reducible repeat'
    first
    | assumption | apply State.wakeHibernate_ok | apply State.whileLive_ok | apply State.modCtrl_ok | apply State.trainLinks_ok
    | apply State.ite_ok

theorem execPerstRise_ok (ctrl : Nat) (s : State) (hs : State.Ok ps s) :
    Outcome.Ok ps (execPerstRise ctrl s) := by
  unfold execPerstRise
  with_reducible repeat' first | assumption | apply Outcome.ok_next | apply State.perstRise_ok

theorem State.sqDoorbell_ok (s : State) (c : Nat) (q : Nat) (tail : Nat) (hs : State.Ok ps s) :
    State.Ok ps (s.sqDoorbell c q tail) := by
  unfold State.sqDoorbell
  with_reducible repeat' first | assumption | apply State.aerOn_ok | apply State.putSq_ok | apply State.ite_ok | split

theorem execSqDoorbell_ok (ctrl : Nat) (sq : Nat) (tail : Nat) (s : State) (hs : State.Ok ps s) :
    Outcome.Ok ps (execSqDoorbell ctrl sq tail s) := by
  unfold execSqDoorbell
  with_reducible repeat' first | assumption | apply Outcome.ok_next | intro _ | apply State.whileLive_ok | apply State.sqDoorbell_ok

theorem State.cqDoorbell_ok (s : State) (c : Nat) (q : Nat) (head : Nat) (hs : State.Ok ps s) :
    State.Ok ps (s.cqDoorbell c q head) := by
  unfold State.cqDoorbell
  with_reducible repeat'
    first
    | assumption | apply State.aerOn_ok | apply State.drainHeld_ok | apply State.putCq_ok | apply State.drainPump_ok
    | apply State.pumpDue_ok | apply State.ite_ok | split

theorem execCqHeadDoorbell_ok (ctrl : Nat) (cq : Nat) (head : Nat) (s : State) (hs : State.Ok ps s) :
    Outcome.Ok ps (execCqHeadDoorbell ctrl cq head s) := by
  unfold execCqHeadDoorbell
  with_reducible repeat' first | assumption | apply Outcome.ok_next | intro _ | apply State.whileLive_ok | apply State.cqDoorbell_ok

theorem State.arbServed_ok (s : State) (c : Nat) (k : Nat) (q : Nat) (hs : State.Ok ps s) :
    State.Ok ps (s.arbServed c k q) := by
  unfold State.arbServed
  with_reducible repeat' first | assumption | apply State.modCtrl_ok | apply State.ite_ok

theorem State.fenceCount_ok (s : State) (c : Nat) (q : Nat) (nsid : Nat) (hs : State.Ok ps s) :
    State.Ok ps (s.fenceCount c q nsid) := by
  unfold State.fenceCount
  with_reducible repeat' first | assumption | apply State.modNvme_ok

theorem State.commandFetch_ok (s : State) (c : Nat) (q : Nat) (x4 : SqEntry) (ranges : List (Nat × Nat)) (hs : State.Ok ps s) :
    State.Ok ps (s.commandFetch c q x4 ranges) := by
  unfold State.commandFetch
  with_reducible repeat'
    first
    | assumption | intro _ | apply State.modNvme_ok | apply State.putSq_ok | apply State.arbServed_ok | apply State.modCtrl_ok
    | apply State.when_ok | apply State.fenceCount_ok | apply State.complete_ok | apply State.lockStep_ok | apply State.mediaWake_ok
    | apply State.ite_ok
    | (extract_lets +onlyGivenNames x; refine (fun hx => ?_ : State.Ok ps x → _) ?_; rotate_left; unfold x; clear x; rotate_right; clear_value x)
    | split | dsimp only

theorem execCommandFetch_ok (ctrl : Nat) (sq : Nat) (x3 : SqEntry) (ranges : List (Nat × Nat)) (s : State) (hs : State.Ok ps s) :
    Outcome.Ok ps (execCommandFetch ctrl sq x3 ranges s) := by
  unfold execCommandFetch
  with_reducible repeat'
    first
    | assumption | apply Outcome.ok_next | intro _ | apply State.whileLive_ok | apply State.standbyStep_ok
    | apply State.commandFetch_ok

theorem State.rangeGrant_ok (s : State) (c : Nat) (q : Nat) (cid : Nat) (hs : State.Ok ps s) :
    State.Ok ps (s.rangeGrant c q cid) := by
  unfold State.rangeGrant
  with_reducible repeat' first | assumption | apply State.lockStep_ok | apply State.ite_ok | split

theorem execRangeLockGrant_ok (ctrl : Nat) (sq : Nat) (cid : Nat) (s : State) (hs : State.Ok ps s) :
    Outcome.Ok ps (execRangeLockGrant ctrl sq cid s) := by
  unfold execRangeLockGrant
  with_reducible repeat'
    first
    | assumption | apply Outcome.ok_next | intro _ | apply State.whileLive_ok | apply State.standbyStep_ok | apply State.rangeGrant_ok

theorem State.coalesceOut_ok (s : State) (c : Nat) (v : Nat) (hs : State.Ok ps s) :
    State.Ok ps (s.coalesceOut c v) := by
  unfold State.coalesceOut
  with_reducible repeat' first | assumption | apply State.msix_ok | apply State.modCtrl_ok | apply State.ite_ok

theorem execInterruptCoalesceTimer_ok (ctrl : Nat) (vector : Nat) (s : State) (hs : State.Ok ps s) :
    Outcome.Ok ps (execInterruptCoalesceTimer ctrl vector s) := by
  unfold execInterruptCoalesceTimer
  with_reducible repeat' first | assumption | apply Outcome.ok_next | intro _ | apply State.whileLive_ok | apply State.coalesceOut_ok

theorem State.tlerExpiry_ok (s : State) (c : Nat) (q : Nat) (cid : Nat) (hs : State.Ok ps s) :
    State.Ok ps (s.tlerExpiry c q cid) := by
  unfold State.tlerExpiry
  with_reducible repeat' first | assumption | apply State.complete_ok | apply State.withdraw_ok | apply State.ite_ok | split

theorem execTlerExpiry_ok (ctrl : Nat) (sq : Nat) (cid : Nat) (s : State) (hs : State.Ok ps s) :
    Outcome.Ok ps (execTlerExpiry ctrl sq cid s) := by
  unfold execTlerExpiry
  with_reducible repeat'
    first
    | assumption | apply Outcome.ok_next | intro _ | apply State.whileLive_ok | apply State.standbyStep_ok | apply State.tlerExpiry_ok

theorem State.drainTimeout_ok (s : State) (c : Nat) (id : Nat) (kind : Nat) (hs : State.Ok ps s) :
    State.Ok ps (s.drainTimeout c id kind) := by
  unfold State.drainTimeout
  with_reducible repeat'
    first
    | assumption | apply State.modNvme_ok | apply State.modCtrl_ok | apply State.drainPump_ok | apply State.endCmds_ok
    | apply State.ite_ok | split

theorem execDeletionDrainTimeout_ok (ctrl : Nat) (id : Nat) (kind : Nat) (s : State) (hs : State.Ok ps s) :
    Outcome.Ok ps (execDeletionDrainTimeout ctrl id kind s) := by
  unfold execDeletionDrainTimeout
  with_reducible repeat'
    first
    | assumption | apply Outcome.ok_next | intro _ | apply State.whileLive_ok | apply State.standbyStep_ok
    | apply State.drainTimeout_ok

theorem State.busMasterOff_ok (s : State) (c : Nat) (hs : State.Ok ps s) :
    State.Ok ps (s.busMasterOff c) := by
  unfold State.busMasterOff
  with_reducible repeat' first | assumption | apply State.modNvme_ok | apply State.modCtrl_ok | apply State.ite_ok

theorem execBusMasterDisable_ok (ctrl : Nat) (s : State) (hs : State.Ok ps s) :
    Outcome.Ok ps (execBusMasterDisable ctrl s) := by
  unfold execBusMasterDisable
  with_reducible repeat'
    first
    | assumption | apply Outcome.ok_next | intro _ | apply State.whileLive_ok | apply State.standbyStep_ok
    | apply State.busMasterOff_ok

theorem execPcieL2Entered_ok (s : State) (hs : State.Ok ps s) :
    Outcome.Ok ps (execPcieL2Entered s) := by
  unfold execPcieL2Entered
  with_reducible repeat' first | assumption | apply Outcome.ok_next | apply State.whileLive_ok | apply State.enterHibernate_ok

theorem State.l2Timeout_ok (s : State) (hs : State.Ok ps s) :
    State.Ok ps (s.l2Timeout) := by
  unfold State.l2Timeout
  with_reducible repeat'
    first
    | assumption | intro _ | apply State.each_ok | apply State.modPower_ok | apply State.setFeature_ok | apply State.ite_ok

theorem execL2Timeout_ok (s : State) (hs : State.Ok ps s) :
    Outcome.Ok ps (execL2Timeout s) := by
  unfold execL2Timeout
  with_reducible repeat' first | assumption | apply Outcome.ok_next | apply State.whileLive_ok | apply State.l2Timeout_ok

theorem State.closeInterim_ok (s : State) (hs : State.Ok ps s) :
    State.Ok ps (s.closeInterim) := by
  unfold State.closeInterim
  with_reducible repeat'
    first
    | assumption | intro _ | apply State.each_ok | apply State.killStripe_ok | apply State.bandRecords_ok | apply State.modBandSet_ok
    | apply State.ite_ok

theorem State.putFrame_ok (s : State) (k : Nat) (us : List (Nat × MapEntry × List (List Byte))) (hs : State.Ok ps s) :
    State.Ok ps (s.putFrame k us) := by
  unfold State.putFrame
  with_reducible repeat' first | assumption | apply State.placeFrame_ok

theorem State.readySet_ok (s : State) (k : Nat) (hs : State.Ok ps s) :
    State.Ok ps (s.readySet k) := by
  unfold State.readySet
  with_reducible repeat' first | assumption | apply State.fillSet_ok | apply State.passStripes_ok

theorem State.hostSet_ok' {p : List Instr} {x1 : State} {a : Option (Nat × Nat)} {b : Bool} {t : State} {k : Nat}
    (e : State.hostSet x1 a b = some (t, k)) (h1 : State.Ok p x1) : State.Ok p t := by
  unfold State.hostSet at e
  repeat' split at e
  all_goals exact State.findSet_ok' e h1

theorem State.placeHost_ok (s0 : State) (hs : State.Ok ps s0) :
    State.Ok ps (s0.placeHost) := by
  unfold State.placeHost
  with_reducible repeat'
    first
    | assumption | intro _ | apply State.modMap_ok | apply State.notePages_ok | apply State.each_ok | apply State.jq_ok
    | apply State.noteNoSet_ok | apply State.readySet_ok | apply State.putFrame_ok | apply State.when_ok | apply State.addSat_ok
    | (apply State.hostSet_ok'; assumption) | apply State.ite_ok
    | (extract_lets +onlyGivenNames x; refine (fun hx => ?_ : State.Ok ps x → _) ?_; rotate_left; unfold x; clear x; rotate_right; clear_value x)
    | (extract_lets +onlyGivenNames x; have : ∀ y, x y = x y := fun _ => rfl; clear this; unfold x; clear x)
    | (extract_lets +onlyGivenNames x; clear_value x) | split

theorem State.placeMoved_ok (s0 : State) (hs : State.Ok ps s0) :
    State.Ok ps (s0.placeMoved) := by
  unfold State.placeMoved
  with_reducible repeat'
    first
    | assumption | apply State.modMap_ok | apply State.noteNoSet_ok | apply State.readySet_ok | apply State.putFrame_ok
    | (apply State.findSet_ok'; assumption) | apply State.ite_ok | split

theorem execPlacementBatch_ok (cleaning : Bool) (s : State) (hs : State.Ok ps s) :
    Outcome.Ok ps (execPlacementBatch cleaning s) := by
  unfold execPlacementBatch
  with_reducible repeat'
    first
    | assumption | apply Outcome.ok_next | intro _ | apply State.whileLive_ok | apply State.placeMoved_ok | apply State.closeInterim_ok
    | apply State.placeHost_ok | apply State.ite_ok

theorem State.pagesWritten_ok (s : State) (hs : State.Ok ps s) :
    State.Ok ps (s.pagesWritten) := by
  unfold State.pagesWritten
  with_reducible repeat'
    first
    | assumption | intro _ | apply State.takeData_ok | apply State.putMram_ok | apply State.modMap_ok | apply State.wearJ_ok
    | apply State.freeNote_ok | apply State.jline_ok | apply State.foldl_ok | apply State.ite_ok | split

theorem execJournalPagesWritten_ok (s : State) (hs : State.Ok ps s) :
    Outcome.Ok ps (execJournalPagesWritten s) := by
  unfold execJournalPagesWritten
  with_reducible repeat' first | assumption | apply Outcome.ok_next | apply State.whileLive_ok | apply State.pagesWritten_ok

theorem State.lineComplete_ok (s0 : State) (hs : State.Ok ps s0) :
    State.Ok ps (s0.lineComplete) := by
  unfold State.lineComplete
  with_reducible repeat'
    first
    | assumption | apply State.modMap_ok | apply State.openRecPage_ok | apply State.lineDone_ok | apply State.ownerStep_ok
    | apply State.resumeReads_ok | apply State.modTier_ok | apply State.drainPump_ok | apply State.pumpDue_ok
    | apply State.standbyStep_ok | apply State.when_ok | apply State.release_ok | apply State.ite_ok
    | (extract_lets +onlyGivenNames x; refine (fun hx => ?_ : State.Ok ps x → _) ?_; rotate_left; unfold x; clear x; rotate_right; clear_value x)
    | split

theorem execRecordLineComplete_ok (s : State) (hs : State.Ok ps s) :
    Outcome.Ok ps (execRecordLineComplete s) := by
  unfold execRecordLineComplete
  with_reducible repeat' first | assumption | apply Outcome.ok_next | apply State.whileLive_ok | apply State.lineComplete_ok

theorem State.selectVictim_ok (s : State) (hs : State.Ok ps s) :
    State.Ok ps (s.selectVictim) := by
  unfold State.selectVictim
  with_reducible repeat'
    first
    | assumption | apply State.bandRecords_ok | apply State.modBandSet_ok | apply State.modMap_ok | apply State.ite_ok | split

theorem execCleaningVictimSelect_ok (s : State) (hs : State.Ok ps s) :
    Outcome.Ok ps (execCleaningVictimSelect s) := by
  unfold execCleaningVictimSelect
  with_reducible repeat' first | assumption | apply Outcome.ok_next | apply State.whileLive_ok | apply State.selectVictim_ok

theorem State.cleanFrame_ok (s : State) (ok : Bool) (hs : State.Ok ps s) :
    State.Ok ps (s.cleanFrame ok) := by
  unfold State.cleanFrame
  with_reducible repeat'
    first
    | assumption | apply State.retractCell_ok | apply State.modTier_ok | apply State.modMap_ok | apply State.relocateAs_ok
    | apply State.addSat_ok | apply State.moveBlocks_ok | apply State.poolRead_ok | apply State.stripeLost_ok | apply State.ite_ok
    | (extract_lets +onlyGivenNames x; refine (fun hx => ?_ : State.Ok ps x → _) ?_; rotate_left; unfold x; clear x; rotate_right; clear_value x)
    | (extract_lets +onlyGivenNames x; have : ∀ y, x y = x y := fun _ => rfl; clear this; unfold x; clear x)
    | (extract_lets +onlyGivenNames x; clear_value x) | split

theorem execCleaningFrameRead_ok (ok : Bool) (s : State) (hs : State.Ok ps s) :
    Outcome.Ok ps (execCleaningFrameRead ok s) := by
  unfold execCleaningFrameRead
  with_reducible repeat' first | assumption | apply Outcome.ok_next | intro _ | apply State.whileLive_ok | apply State.cleanFrame_ok

theorem State.releaseSet_ok (s : State) (k : Nat) (hs : State.Ok ps s) :
    State.Ok ps (s.releaseSet k) := by
  unfold State.releaseSet
  with_reducible repeat'
    first
    | assumption | intro _ | apply State.modBandSet_ok | apply State.each_ok | apply State.jq_ok | apply State.modMap_ok
    | apply State.modTier_ok | apply State.sjSync_ok | apply State.freeSync_ok | apply State.when_ok | apply State.bump_ok
    | apply State.ite_ok

theorem execBandRelease_ok (bandset : Nat) (s : State) (hs : State.Ok ps s) :
    Outcome.Ok ps (execBandRelease bandset s) := by
  unfold execBandRelease
  with_reducible repeat' first | assumption | apply Outcome.ok_next | intro _ | apply State.whileLive_ok | apply State.releaseSet_ok

theorem State.segmentStart_ok (s : State) (hs : State.Ok ps s) :
    State.Ok ps (s.segmentStart) := by
  unfold State.segmentStart
  with_reducible repeat' first | assumption | apply State.modSeg_ok | apply State.ite_ok | split

theorem execCheckpointSegmentStart_ok (s : State) (hs : State.Ok ps s) :
    Outcome.Ok ps (execCheckpointSegmentStart s) := by
  unfold execCheckpointSegmentStart
  with_reducible repeat' first | assumption | apply Outcome.ok_next | apply State.whileLive_ok | apply State.segmentStart_ok

theorem State.copyWritten_ok (s : State) (k : Nat) (hs : State.Ok ps s) :
    State.Ok ps (s.copyWritten k) := by
  unfold State.copyWritten
  with_reducible repeat' first | assumption | apply State.modSeg_ok | apply State.putCopy_ok | apply State.jq_ok | apply State.ite_ok

theorem execCheckpointCopyWritten_ok (segment : Nat) (s : State) (hs : State.Ok ps s) :
    Outcome.Ok ps (execCheckpointCopyWritten segment s) := by
  unfold execCheckpointCopyWritten
  with_reducible repeat' first | assumption | apply Outcome.ok_next | intro _ | apply State.whileLive_ok | apply State.copyWritten_ok

theorem State.rootWrite_ok (s : State) (hs : State.Ok ps s) :
    State.Ok ps (s.rootWrite) := by
  unfold State.rootWrite
  with_reducible repeat'
    first
    | assumption | apply State.modMap_ok | apply State.putRoot_ok | apply State.modCal_ok | apply State.jq_ok | apply State.ite_ok
    | (extract_lets +onlyGivenNames x; refine (fun hx => ?_ : State.Ok ps x → _) ?_; rotate_left; unfold x; clear x; rotate_right; clear_value x)
    | (apply State.mk_ok; first | assumption | apply State.modMap_ok | apply State.putRoot_ok | apply State.modCal_ok | apply State.jq_ok | apply State.ite_ok)

theorem execRootWriteTimer_ok (s : State) (hs : State.Ok ps s) :
    Outcome.Ok ps (execRootWriteTimer s) := by
  unfold execRootWriteTimer
  with_reducible repeat' first | assumption | apply Outcome.ok_next | apply State.whileLive_ok | apply State.rootWrite_ok

theorem State.sjScan_ok (s : State) (bad : List (Nat × Nat)) (hs : State.Ok ps s) :
    State.Ok ps (s.sjScan bad).1 := by
  unfold State.sjScan
  with_reducible repeat'
    first
    | assumption | intro _ | apply State.noteMram_ok | apply State.each_ok | apply State.bump_ok | apply State.record_ok
    | apply State.setBit_ok | apply State.modTier_ok | apply State.ite_ok

theorem State.sjScan_ok' {s : State} {bad : List (Nat × Nat)} {t : State} {b : List SjRec} (e : State.sjScan s bad = (t, b))
    (hs : State.Ok ps s) : State.Ok ps t := by
  have h := State.sjScan_ok (ps := ps) s bad hs
  rw [e] at h
  exact h

theorem State.rootLoad_ok (s : State) (bad : List Nat) (hs : State.Ok ps s) :
    State.Ok ps (s.rootLoad bad) := by
  unfold State.rootLoad
  with_reducible repeat'
    first
    | assumption | apply State.modMap_ok | apply State.modCal_ok | apply State.setFld_ok
    | (extract_lets +onlyGivenNames x; clear_value x) | split

theorem State.headerScan_ok (s : State) (k : Nat) (hs : State.Ok ps s) :
    State.Ok ps (s.headerScan k) := by
  unfold State.headerScan
  with_reducible repeat' first | assumption | intro _ | apply State.each_ok | apply State.modMap_ok | apply State.ite_ok | split

theorem State.segmentLost_ok (s : State) (k : Nat) (hs : State.Ok ps s) :
    State.Ok ps (s.segmentLost k) := by
  unfold State.segmentLost
  with_reducible repeat'
    first
    | assumption | apply State.headerScan_ok | apply State.record_ok | apply State.setBit_ok | apply State.modSeg_ok
    | apply State.ite_ok

theorem State.segFrom_ok (s : State) (k : Nat) (c0 : Option (Nat × List (Nat × MapEntry))) (c1 : Option (Nat × List (Nat × MapEntry)))
    (x5 : Option (Nat × List (Nat × MapEntry))) (hs : State.Ok ps s) :
    State.Ok ps (s.segFrom k c0 c1 x5) := by
  unfold State.segFrom
  with_reducible repeat'
    first
    | assumption | intro _ | apply State.modSeg_ok | apply State.modMap_ok | apply State.segmentLost_ok | apply State.foldl_ok | split

theorem State.segmentLoad_ok (s : State) (bad : List (Nat × Nat)) (k : Nat) (hs : State.Ok ps s) :
    State.Ok ps (s.segmentLoad bad k) := by
  unfold State.segmentLoad
  with_reducible repeat' first | assumption | apply State.segFrom_ok

theorem State.replay_ok (s : State) (q0 : Nat) (r : JRec) (hs : State.Ok ps s) :
    State.Ok ps (s.replay q0 r) := by
  unfold State.replay
  with_reducible repeat'
    first
    | assumption | intro _ | apply State.modMap_ok | apply State.each_ok | apply State.setZone_ok | apply State.modSeg_ok
    | apply State.applyBody_ok | apply State.ite_ok
    | (extract_lets +onlyGivenNames x; have : ∀ y, x y = x y := fun _ => rfl; clear this; unfold x; clear x) | split

theorem State.journalLoad_ok (s : State) (bad : List Nat) (hs : State.Ok ps s) :
    State.Ok ps (s.journalLoad bad) := by
  unfold State.journalLoad
  with_reducible repeat'
    first
    | assumption | intro _ | apply State.each_ok | apply State.record_ok | apply State.setBit_ok | apply State.modMap_ok
    | apply State.replay_ok | apply State.foldl_ok | apply State.ite_ok

theorem State.scanReads_ok (s : State) (hs : State.Ok ps s) :
    State.Ok ps (s.scanReads) := by
  unfold State.scanReads
  with_reducible repeat' first | assumption | intro _ | apply State.each_ok | apply State.noteRead_ok

theorem State.sjResolve_ok (s : State) (lost : List SjRec) (hs : State.Ok ps s) :
    State.Ok ps (s.sjResolve lost) := by
  unfold State.sjResolve
  with_reducible repeat'
    first
    | assumption | intro _ | apply State.modTier_ok | apply State.each_ok | apply State.bump_ok | apply State.sjq_ok
    | apply State.setFldBit_ok | apply State.setFld_ok | apply State.sjSync_ok | apply State.pxSync_ok | apply State.rebuildShow_ok
    | apply State.ite_ok

theorem State.mapFill_ok (s : State) (hs : State.Ok ps s) :
    State.Ok ps (s.mapFill) := by
  unfold State.mapFill
  with_reducible repeat'
    first
    | assumption | apply State.modMap_ok | refine State.modMem_wf_ok _ (fun m hm => MemSt.wf_hbmFilter m _ hm) ?_

theorem State.rebuildStart_ok (s : State) (rootBad : List Nat) (copyBad : List (Nat × Nat)) (lineBad : List Nat) (sjBad : List
    (Nat × Nat)) (hs : State.Ok ps s) :
    State.Ok ps (s.rebuildStart rootBad copyBad lineBad sjBad) := by
  unfold State.rebuildStart
  with_reducible repeat'
    first
    | assumption | intro _ | apply State.sjScan_ok | apply State.scanReads_ok | apply State.rootLoad_ok | apply State.modMap_ok
    | apply State.segmentLoad_ok | apply State.journalLoad_ok | apply State.retire_ok | apply State.setFld_ok | apply State.mapFill_ok
    | apply State.sjResolve_ok | apply State.foldl_ok | apply State.ite_ok

theorem execMapRebuildStart_ok (rootBad : List Nat) (copyBad : List (Nat × Nat)) (lineBad : List Nat) (sjBad : List (Nat × Nat))
    (s : State) (hs : State.Ok ps s) :
    Outcome.Ok ps (execMapRebuildStart rootBad copyBad lineBad sjBad s) := by
  unfold execMapRebuildStart
  with_reducible repeat' first | assumption | apply Outcome.ok_next | intro _ | apply State.whileLive_ok | apply State.rebuildStart_ok

theorem State.cursorRule_ok (s : State) (k : Nat) (hs : State.Ok ps s) :
    State.Ok ps (s.cursorRule k) := by
  unfold State.cursorRule
  with_reducible repeat'
    first
    | assumption | apply State.bandRecords_ok | apply State.modBandSet_ok | apply State.readySet_ok | apply State.ite_ok
    | (extract_lets +onlyGivenNames x; clear_value x) | split

theorem State.rebuildComplete_ok (s : State) (ckpt : Nat) (apply : Nat) (hs : State.Ok ps s) :
    State.Ok ps (s.rebuildComplete ckpt apply) := by
  unfold State.rebuildComplete
  with_reducible repeat'
    first
    | assumption | intro _ | apply State.each_ok | apply State.cursorRule_ok | apply State.setFld_ok | apply State.setBit_ok
    | apply State.modMap_ok | apply State.reachActive_ok | apply State.freeNote_ok | apply State.freeSync_ok | apply State.noticeAll_ok
    | apply State.deferredPump_ok | apply State.poolSettle_ok | apply State.resumeReads_ok | apply State.ite_ok

theorem execMapRebuildComplete_ok (ckpt : Nat) (apply : Nat) (s : State) (hs : State.Ok ps s) :
    Outcome.Ok ps (execMapRebuildComplete ckpt apply s) := by
  unfold execMapRebuildComplete
  with_reducible repeat'
    first
    | assumption | apply Outcome.ok_next | intro _ | apply State.whileLive_ok | apply State.standbyStep_ok
    | apply State.rebuildComplete_ok

theorem State.countsDone_ok (s : State) (hs : State.Ok ps s) :
    State.Ok ps (s.countsDone) := by
  unfold State.countsDone
  with_reducible repeat' first | assumption | apply State.clrBit_ok | apply State.modMap_ok | apply State.ite_ok

theorem execValidCountWalkDone_ok (s : State) (hs : State.Ok ps s) :
    Outcome.Ok ps (execValidCountWalkDone s) := by
  unfold execValidCountWalkDone
  with_reducible repeat' first | assumption | apply Outcome.ok_next | apply State.whileLive_ok | apply State.countsDone_ok

theorem execFreePageGaugeSample_ok (s : State) (hs : State.Ok ps s) :
    Outcome.Ok ps (execFreePageGaugeSample s) := by
  unfold execFreePageGaugeSample
  with_reducible repeat' first | assumption | apply Outcome.ok_next | intro _ | apply State.whileLive_ok | apply State.sample_ok

theorem State.parityCompute_ok (s : State) (k : Nat) (st : Nat) (hs : State.Ok ps s) :
    State.Ok ps (s.parityCompute k st) := by
  unfold State.parityCompute
  with_reducible repeat' first | assumption | apply State.computeParity_ok | apply State.ite_ok | split

theorem execStripeParityCompute_ok (bandset : Nat) (stripe : Nat) (s : State) (hs : State.Ok ps s) :
    Outcome.Ok ps (execStripeParityCompute bandset stripe s) := by
  unfold execStripeParityCompute
  with_reducible repeat' first | assumption | apply Outcome.ok_next | intro _ | apply State.whileLive_ok | apply State.parityCompute_ok

theorem State.sjEffect_ok (s : State) (x2 : SjBody) (q : Nat) (hs : State.Ok ps s) :
    State.Ok ps (s.sjEffect x2 q) := by
  unfold State.sjEffect
  with_reducible repeat'
    first
    | assumption | apply State.modStripe_ok | apply State.contribStripe_ok | apply State.stripeComplete_ok
    | apply State.contribOpened_ok | apply State.heldDurable_ok | split

theorem State.sjDurable_ok (s0 : State) (hs : State.Ok ps s0) :
    State.Ok ps (s0.sjDurable) := by
  unfold State.sjDurable
  with_reducible repeat'
    first
    | assumption | apply State.modTier_ok | apply State.sjEffect_ok | apply State.sjWrite_ok | apply State.ite_ok
    | (extract_lets +onlyGivenNames x; refine (fun hx => ?_ : State.Ok ps x → _) ?_; rotate_left; unfold x; clear x; rotate_right; clear_value x)
    | split

theorem execSjRecordDurable_ok (s : State) (hs : State.Ok ps s) :
    Outcome.Ok ps (execSjRecordDurable s) := by
  unfold execSjRecordDurable
  with_reducible repeat' first | assumption | apply Outcome.ok_next | apply State.whileLive_ok | apply State.sjDurable_ok

theorem State.relocateLost_ok (s : State) (k : Nat) (st : Nat) (fs : List Frame) (hs : State.Ok ps s) :
    State.Ok ps (s.relocateLost k st fs) := by
  unfold State.relocateLost
  with_reducible repeat' first | assumption | intro _ | apply State.each_ok | apply State.relocate_ok | apply State.ite_ok

theorem State.countDegraded_ok (s : State) (k : Nat) (st : Nat) (hs : State.Ok ps s) :
    State.Ok ps (s.countDegraded k st) := by
  unfold State.countDegraded
  with_reducible repeat' first | assumption | apply State.bump_ok | apply State.ite_ok

theorem State.reconstructed_ok (s : State) (p : Nat) (hs : State.Ok ps s) :
    State.Ok ps (s.reconstructed p) := by
  unfold State.reconstructed
  with_reducible repeat'
    first
    | assumption | intro _ | apply State.when_ok | apply State.countDegraded_ok | apply State.relocateLost_ok
    | apply State.frameRestored_ok | apply State.poolRead_ok | apply State.stripeLost_ok | apply State.wantRecon_ok
    | apply State.ite_ok | split

theorem execReconstructionComplete_ok (pfn : Nat) (s : State) (hs : State.Ok ps s) :
    Outcome.Ok ps (execReconstructionComplete pfn s) := by
  unfold execReconstructionComplete
  with_reducible repeat'
    first
    | assumption | apply Outcome.ok_next | intro _ | apply State.whileLive_ok | apply State.standbyStep_ok
    | apply State.reconstructed_ok

theorem State.rebuildOver_ok (s : State) (hs : State.Ok ps s) :
    State.Ok ps (s.rebuildOver) := by
  unfold State.rebuildOver
  with_reducible repeat'
    first
    | assumption | apply State.pxSync_ok | apply State.rebuildShow_ok | apply State.setFld_ok | apply State.modTier_ok

theorem State.rebuildStep_ok (s : State) (hs : State.Ok ps s) :
    State.Ok ps (s.rebuildStep) := by
  unfold State.rebuildStep
  with_reducible repeat'
    first
    | assumption | intro _ | apply State.rebuildOver_ok | apply State.relocateLost_ok | apply State.each_ok | apply State.relocate_ok
    | apply State.sjq_ok | apply State.setFld_ok | apply State.modTier_ok | apply State.ite_ok | split

theorem execRebuildStripe_ok (s : State) (hs : State.Ok ps s) :
    Outcome.Ok ps (execRebuildStripe s) := by
  unfold execRebuildStripe
  with_reducible repeat' first | assumption | apply Outcome.ok_next | apply State.whileLive_ok | apply State.rebuildStep_ok

theorem State.rebuildCursor_ok (s : State) (hs : State.Ok ps s) :
    State.Ok ps (s.rebuildCursor) := by
  unfold State.rebuildCursor
  with_reducible repeat' first | assumption | apply State.sjq_ok | apply State.ite_ok | split

theorem execRebuildCursorTimer_ok (s : State) (hs : State.Ok ps s) :
    Outcome.Ok ps (execRebuildCursorTimer s) := by
  unfold execRebuildCursorTimer
  with_reducible repeat' first | assumption | apply Outcome.ok_next | apply State.whileLive_ok | apply State.rebuildCursor_ok

theorem State.fixMember_ok (s : State) (k : Nat) (st : Nat) (m : Nat) (f : Frame) (hs : State.Ok ps s) :
    State.Ok ps (s.fixMember k st m f) := by
  unfold State.fixMember
  with_reducible repeat' first | assumption | apply State.bump_ok | apply State.relocateAs_ok

theorem State.patrol_ok (s : State) (bad : List Nat) (seen : List (Nat × List Byte)) (hs : State.Ok ps s) :
    State.Ok ps (s.patrol bad seen) := by
  unfold State.patrol
  with_reducible repeat'
    first
    | assumption | intro _ | apply State.clrBit_ok | apply State.when_ok | apply State.setBit_ok | apply State.sjq_ok
    | apply State.modTier_ok | apply State.setFld_ok | apply State.each_ok | apply State.wantRecon_ok | apply State.fixMember_ok
    | apply State.record_ok | apply State.bump_ok | apply State.moveBlocks_ok | apply State.ite_ok | split

theorem execPatrolStripe_ok (bad : List Nat) (seen : List (Nat × List Byte)) (s : State) (hs : State.Ok ps s) :
    Outcome.Ok ps (execPatrolStripe bad seen s) := by
  unfold execPatrolStripe
  with_reducible repeat' first | assumption | apply Outcome.ok_next | intro _ | apply State.whileLive_ok | apply State.patrol_ok

theorem State.mediaInterval_ok (s : State) (hostA : Nat) (hostB : Nat) (hs : State.Ok ps s) :
    State.Ok ps (s.mediaInterval hostA hostB) := by
  unfold State.mediaInterval
  with_reducible repeat'
    first
    | assumption | intro _ | apply State.modTier_ok | apply State.setBit_ok | apply State.modMap_ok | apply State.clrBit_ok
    | apply State.when_ok | apply State.sample_ok | apply State.ite_ok

theorem execMediaTimeInterval_ok (hostA : Nat) (hostB : Nat) (s : State) (hs : State.Ok ps s) :
    Outcome.Ok ps (execMediaTimeInterval hostA hostB s) := by
  unfold execMediaTimeInterval
  with_reducible repeat' first | assumption | apply Outcome.ok_next | intro _ | apply State.whileLive_ok | apply State.mediaInterval_ok

theorem State.domSettle_ok (s : State) (hs : State.Ok ps s) :
    State.Ok ps (s.domSettle) := by
  unfold State.domSettle
  with_reducible repeat' first | assumption | intro _ | apply State.each_ok | apply State.poolTry_ok | apply State.deferredPump_ok

theorem State.domRequest_ok (s : State) (r : Nat) (tag : Nat) (k : Nat) (f : State → Dom → State) (hs : State.Ok ps s)
    (h5 : ∀ y0 y1, State.Ok ps y0 → State.Ok ps (f y0 y1)) :
    State.Ok ps (s.domRequest r tag k f) := by
  unfold State.domRequest
  with_reducible repeat' first | assumption | intro _ | apply h5 | apply State.ringStart_ok | apply State.ite_ok | split

theorem execDomainTakeDown_ok (ring : Nat) (tag : Nat) (s : State) (hs : State.Ok ps s) :
    Outcome.Ok ps (execDomainTakeDown ring tag s) := by
  unfold execDomainTakeDown
  with_reducible repeat'
    first
    | assumption | apply Outcome.ok_next | intro _ | apply State.whileLive_ok | apply State.domRequest_ok | apply State.domSettle_ok
    | apply State.askTakeDown_ok

theorem execDomainRestore_ok (ring : Nat) (tag : Nat) (s : State) (hs : State.Ok ps s) :
    Outcome.Ok ps (execDomainRestore ring tag s) := by
  unfold execDomainRestore
  with_reducible repeat'
    first
    | assumption | apply Outcome.ok_next | intro _ | apply State.whileLive_ok | apply State.domRequest_ok | apply State.domSettle_ok
    | apply State.askRestore_ok

theorem execDomainFault_ok (d : Dom) (cause : Nat) (s : State) (hs : State.Ok ps s) :
    Outcome.Ok ps (execDomainFault d cause s) := by
  unfold execDomainFault
  with_reducible repeat'
    first
    | assumption | apply Outcome.ok_next | intro _ | apply State.whileLive_ok | apply State.standbyStep_ok | apply State.domSettle_ok
    | apply State.domainFault_ok

theorem execQuiesceWorkFinished_ok (d : Dom) (s : State) (hs : State.Ok ps s) :
    Outcome.Ok ps (execQuiesceWorkFinished d s) := by
  unfold execQuiesceWorkFinished
  with_reducible repeat'
    first
    | assumption | apply Outcome.ok_next | intro _ | apply State.whileLive_ok | apply State.domSettle_ok | apply State.workDone_ok

theorem execQuiesceTimeout_ok (d : Dom) (s : State) (hs : State.Ok ps s) :
    Outcome.Ok ps (execQuiesceTimeout d s) := by
  unfold execQuiesceTimeout
  with_reducible repeat'
    first
    | assumption | apply Outcome.ok_next | intro _ | apply State.whileLive_ok | apply State.domSettle_ok | apply State.quiesceOut_ok

theorem execRestoreComplete_ok (d : Dom) (s : State) (hs : State.Ok ps s) :
    Outcome.Ok ps (execRestoreComplete d s) := by
  unfold execRestoreComplete
  with_reducible repeat'
    first
    | assumption | apply Outcome.ok_next | intro _ | apply State.whileLive_ok | apply State.domSettle_ok | apply State.restoreDone_ok

theorem execRestoreTimeout_ok (d : Dom) (s : State) (hs : State.Ok ps s) :
    Outcome.Ok ps (execRestoreTimeout d s) := by
  unfold execRestoreTimeout
  with_reducible repeat'
    first
    | assumption | apply Outcome.ok_next | intro _ | apply State.whileLive_ok | apply State.domSettle_ok | apply State.restoreOut_ok

theorem execHeldRestoreStart_ok (d : Dom) (s : State) (hs : State.Ok ps s) :
    Outcome.Ok ps (execHeldRestoreStart d s) := by
  unfold execHeldRestoreStart
  with_reducible repeat' first | assumption | apply Outcome.ok_next | intro _ | apply State.whileLive_ok | apply State.heldLoad_ok

theorem State.holdExpiry_ok (s : State) (a : Act) (hs : State.Ok ps s) :
    State.Ok ps (s.holdExpiry a) := by
  unfold State.holdExpiry
  with_reducible repeat'
    first
    | assumption | intro _ | apply State.when_ok | apply State.each_ok | apply State.complete_ok | apply State.ite_ok | split

theorem execMediaHoldExpiry_ok (a : Act) (s : State) (hs : State.Ok ps s) :
    Outcome.Ok ps (execMediaHoldExpiry a s) := by
  unfold execMediaHoldExpiry
  with_reducible repeat'
    first
    | assumption | apply Outcome.ok_next | intro _ | apply State.whileLive_ok | apply State.standbyStep_ok | apply State.holdExpiry_ok

theorem State.heDrained_ok (s : State) (h : Nat) (hs : State.Ok ps s) :
    State.Ok ps (s.heDrained h) := by
  unfold State.heDrained
  with_reducible repeat'
    first
    | assumption | apply State.heHalt_ok | apply State.laneOff_ok | apply State.reenter_ok | apply State.reRole_ok
    | apply State.schedSync_ok | apply State.ite_ok

theorem State.heHaltAsk_ok (s : State) (h : Nat) (hs : State.Ok ps s) :
    State.Ok ps (s.heHaltAsk h) := by
  unfold State.heHaltAsk
  with_reducible repeat' first | assumption | apply State.heDrained_ok | apply State.modHelper_ok | apply State.ite_ok

theorem State.safePoint_ok (s : State) (h : Nat) (hs : State.Ok ps s) :
    State.Ok ps (s.safePoint h) := by
  unfold State.safePoint
  with_reducible repeat'
    first
    | assumption | intro _ | apply State.standbyStep_ok | apply State.domSettle_ok | apply State.faultHelper_ok
    | apply State.modHelper_ok | apply State.when_ok | apply State.swapGo_ok | apply State.heSwap_ok | apply State.heStopNow_ok
    | apply State.heDrained_ok | apply State.ite_ok

theorem State.safeDue_ok (s : State) (hs : State.Ok ps s) :
    State.Ok ps (s.safeDue) := by
  unfold State.safeDue
  with_reducible repeat' first | assumption | intro _ | apply State.each_ok | apply State.safePoint_ok | apply State.ite_ok

theorem State.memSettle_ok (s : State) (hs : State.Ok ps s) :
    State.Ok ps (s.memSettle) := by
  unfold State.memSettle
  with_reducible repeat' first | assumption | apply State.safeDue_ok | apply State.cacheFault_ok

theorem State.slotCommand_ok (s : State) (a : Act) (n : Nat) (p : Nat) (hs : State.Ok ps s) :
    State.Ok ps (s.slotCommand a n p) := by
  unfold State.slotCommand
  with_reducible repeat' first | assumption | apply State.modSlot_ok | apply State.setFld_ok | apply State.ite_ok | split

theorem execWriteFrameCommand_ok (a : Act) (slot : Fin 2) (pfn : Nat) (s : State) (hs : State.Ok ps s) :
    Outcome.Ok ps (execWriteFrameCommand a slot pfn s) := by
  unfold execWriteFrameCommand
  with_reducible repeat' first | assumption | apply Outcome.ok_next | intro _ | apply State.whileLive_ok | apply State.slotCommand_ok

theorem State.refuseFrame_ok (s : State) (a : Act) (n : Nat) (f : WriteFrame) (rest : List WriteFrame) (hs : State.Ok ps s) :
    State.Ok ps (s.refuseFrame a n f rest) := by
  unfold State.refuseFrame
  with_reducible repeat' first | assumption | apply State.setFld_ok | apply State.modSlot_ok | apply State.abandonFrame_ok

theorem State.raiseGate_ok (s : State) (a : Act) (n : Nat) (f : WriteFrame) (rest : List WriteFrame) (l : Nat) (hs : State.Ok ps s) :
    State.Ok ps (s.raiseGate a n f rest l) := by
  unfold State.raiseGate
  with_reducible repeat'
    first
    | assumption | apply State.setFld_ok | apply State.modSlot_ok | apply State.modAslot_ok | apply State.budgetSync_ok
    | apply State.setGate_ok

theorem State.frameStart_ok (s : State) (a : Act) (n : Nat) (hs : State.Ok ps s) :
    State.Ok ps (s.frameStart a n) := by
  unfold State.frameStart
  with_reducible repeat'
    first
    | assumption | apply State.refuseFrame_ok | apply State.bump_ok | apply State.raiseGate_ok | apply State.ite_ok | split

theorem execWriteFrameStart_ok (a : Act) (slot : Fin 2) (s : State) (hs : State.Ok ps s) :
    Outcome.Ok ps (execWriteFrameStart a slot s) := by
  unfold execWriteFrameStart
  with_reducible repeat' first | assumption | apply Outcome.ok_next | intro _ | apply State.whileLive_ok | apply State.frameStart_ok

theorem State.firstCell_ok (s : State) (a : Act) (n : Nat) (hs : State.Ok ps s) :
    State.Ok ps (s.firstCell a n) := by
  unfold State.firstCell
  with_reducible repeat'
    first
    | assumption | apply State.budgetSync_ok | apply State.blank_ok | apply State.modAslot_ok | apply State.setFld_ok
    | apply State.ite_ok

theorem execAssistFirstBitCell_ok (a : Act) (slot : Fin 2) (s : State) (hs : State.Ok ps s) :
    Outcome.Ok ps (execAssistFirstBitCell a slot s) := by
  unfold execAssistFirstBitCell
  with_reducible repeat' first | assumption | apply Outcome.ok_next | intro _ | apply State.whileLive_ok | apply State.firstCell_ok

theorem State.underrun_ok (s : State) (a : Act) (n : Nat) (hs : State.Ok ps s) :
    State.Ok ps (s.underrun a n) := by
  unfold State.underrun
  with_reducible repeat' first | assumption | apply State.closeGate_ok | apply State.bump_ok | apply State.ite_ok

theorem execWritePayloadUnderrun_ok (a : Act) (slot : Fin 2) (s : State) (hs : State.Ok ps s) :
    Outcome.Ok ps (execWritePayloadUnderrun a slot s) := by
  unfold execWritePayloadUnderrun
  with_reducible repeat' first | assumption | apply Outcome.ok_next | intro _ | apply State.whileLive_ok | apply State.underrun_ok

theorem State.wedgeSuspend_ok (s : State) (a : Act) (n : Nat) (hs : State.Ok ps s) :
    State.Ok ps (s.wedgeSuspend a n) := by
  unfold State.wedgeSuspend
  with_reducible repeat' first | assumption | apply State.blank_ok | apply State.modAslot_ok | apply State.setFld_ok | apply State.ite_ok

theorem execWriteWedgeSuspend_ok (a : Act) (slot : Fin 2) (s : State) (hs : State.Ok ps s) :
    Outcome.Ok ps (execWriteWedgeSuspend a slot s) := by
  unfold execWriteWedgeSuspend
  with_reducible repeat' first | assumption | apply Outcome.ok_next | intro _ | apply State.whileLive_ok | apply State.wedgeSuspend_ok

theorem State.wedgeResume_ok (s : State) (a : Act) (n : Nat) (hs : State.Ok ps s) :
    State.Ok ps (s.wedgeResume a n) := by
  unfold State.wedgeResume
  with_reducible repeat' first | assumption | apply State.blank_ok | apply State.modAslot_ok | apply State.setFld_ok | apply State.ite_ok

theorem execWriteWedgeResume_ok (a : Act) (slot : Fin 2) (s : State) (hs : State.Ok ps s) :
    Outcome.Ok ps (execWriteWedgeResume a slot s) := by
  unfold execWriteWedgeResume
  with_reducible repeat' first | assumption | apply Outcome.ok_next | intro _ | apply State.whileLive_ok | apply State.wedgeResume_ok

theorem State.frameEnd_ok (s : State) (a : Act) (n : Nat) (hs : State.Ok ps s) :
    State.Ok ps (s.frameEnd a n) := by
  unfold State.frameEnd
  with_reducible repeat'
    first
    | assumption | apply State.modAslot_ok | apply State.setFld_ok | apply State.setGate_ok | apply State.blank_ok
    | apply State.modSlot_ok | apply State.frameWritten_ok | apply State.budgetSync_ok | apply State.unclock_ok | apply State.bump_ok
    | apply State.ite_ok
    | (extract_lets +onlyGivenNames x; refine (fun hx => ?_ : State.Ok ps x → _) ?_; rotate_left; unfold x; clear x; rotate_right; clear_value x)
    | split

theorem execWriteFrameEnd_ok (a : Act) (slot : Fin 2) (s : State) (hs : State.Ok ps s) :
    Outcome.Ok ps (execWriteFrameEnd a slot s) := by
  unfold execWriteFrameEnd
  with_reducible repeat' first | assumption | apply Outcome.ok_next | intro _ | apply State.whileLive_ok | apply State.frameEnd_ok

theorem State.writeDisableFor_ok (s : State) (a : Act) (n : Nat) (h : Nat) (hs : State.Ok ps s) :
    State.Ok ps (s.writeDisableFor a n h) := by
  unfold State.writeDisableFor
  with_reducible repeat' first | assumption | apply State.writeDisable_ok | apply State.assistFault_ok

theorem State.assistNext_ok (s : State) (a : Act) (n : Nat) (mon : Nat) (hs : State.Ok ps s) :
    State.Ok ps (s.assistNext a n mon) := by
  unfold State.assistNext
  with_reducible repeat' first | assumption | apply State.modAslot_ok

theorem State.deviation_ok (s : State) (a : Act) (n : Nat) (mon : Nat) (hs : State.Ok ps s) :
    State.Ok ps (s.deviation a n mon) := by
  unfold State.deviation
  with_reducible repeat'
    first
    | assumption | apply State.modAslot_ok | apply State.closeGate_ok | apply State.assistFault_ok | apply State.bump_ok
    | apply State.modHead_ok | apply State.writeDisableFor_ok | apply State.ite_ok

theorem State.loopSlot_ok (s : State) (a : Act) (n : Nat) (v : AssistIn) (hs : State.Ok ps s) :
    State.Ok ps (s.loopSlot a n v) := by
  unfold State.loopSlot
  with_reducible repeat'
    first
    | assumption | apply State.writeDisable_ok | apply State.closeGate_ok | apply State.assistFault_ok | apply State.setFld_ok
    | apply State.sample_ok | apply State.deviation_ok | apply State.assistNext_ok | apply State.ite_ok

theorem State.loopBoundary_ok (s : State) (a : Act) (v0 : AssistIn) (v1 : AssistIn) (hs : State.Ok ps s) :
    State.Ok ps (s.loopBoundary a v0 v1) := by
  unfold State.loopBoundary
  with_reducible repeat'
    first
    | assumption | apply State.modAs_ok | apply State.setFld_ok | apply State.budgetSync_ok | apply State.loopSlot_ok
    | apply State.ite_ok

theorem execAssistLoopBoundary_ok (a : Act) (v0 : AssistIn) (v1 : AssistIn) (s : State) (hs : State.Ok ps s) :
    Outcome.Ok ps (execAssistLoopBoundary a v0 v1 s) := by
  unfold execAssistLoopBoundary
  with_reducible repeat' first | assumption | apply Outcome.ok_next | intro _ | apply State.whileLive_ok | apply State.loopBoundary_ok

theorem State.assistMiss_ok (s : State) (a : Act) (hs : State.Ok ps s) :
    State.Ok ps (s.assistMiss a) := by
  unfold State.assistMiss
  with_reducible repeat'
    first
    | assumption | apply State.modAs_ok | apply State.bump_ok | apply State.assistFault_ok | apply State.missedTwice_ok
    | apply State.ite_ok
    | (extract_lets +onlyGivenNames x; refine (fun hx => ?_ : State.Ok ps x → _) ?_; rotate_left; unfold x; clear x; rotate_right; clear_value x)
    | split

theorem execAssistDeadlineMiss_ok (a : Act) (s : State) (hs : State.Ok ps s) :
    Outcome.Ok ps (execAssistDeadlineMiss a s) := by
  unfold execAssistDeadlineMiss
  with_reducible repeat' first | assumption | apply Outcome.ok_next | intro _ | apply State.whileLive_ok | apply State.assistMiss_ok

theorem State.overtemp_ok (s : State) (a : Act) (n : Nat) (res : Nat) (hs : State.Ok ps s) :
    State.Ok ps (s.overtemp a n res) := by
  unfold State.overtemp
  with_reducible repeat'
    first
    | assumption | apply State.setFld_ok | apply State.assistFault_ok | apply State.bump_ok | apply State.closeGateTo_ok
    | apply State.modHead_ok | apply State.writeDisableFor_ok | apply State.ite_ok

theorem execOvertempTrip_ok (a : Act) (slot : Fin 2) (res : Nat) (s : State) (hs : State.Ok ps s) :
    Outcome.Ok ps (execOvertempTrip a slot res s) := by
  unfold execOvertempTrip
  with_reducible repeat' first | assumption | apply Outcome.ok_next | intro _ | apply State.whileLive_ok | apply State.overtemp_ok

theorem execCoolingEnd_ok (a : Act) (slot : Fin 2) (s : State) (hs : State.Ok ps s) :
    Outcome.Ok ps (execCoolingEnd a slot s) := by
  unfold execCoolingEnd
  with_reducible repeat'
    first
    | assumption | apply Outcome.ok_next | intro _ | apply State.whileLive_ok | apply State.setFld_ok | apply State.ite_ok

theorem State.preampFault_ok (s : State) (a : Act) (hs : State.Ok ps s) :
    State.Ok ps (s.preampFault a) := by
  unfold State.preampFault
  with_reducible repeat'
    first
    | assumption | apply State.standbyStep_ok | apply State.domSettle_ok | apply State.domainFault_ok | apply State.closeGates_ok
    | apply State.assistFault_ok

theorem execPreampFaultPin_ok (a : Act) (s : State) (hs : State.Ok ps s) :
    Outcome.Ok ps (execPreampFaultPin a s) := by
  unfold execPreampFaultPin
  with_reducible repeat' first | assumption | apply Outcome.ok_next | intro _ | apply State.whileLive_ok | apply State.preampFault_ok

theorem State.tintRead_ok (s : State) (a : Act) (ok : Bool) (temp : Int) (hs : State.Ok ps s) :
    State.Ok ps (s.tintRead a ok temp) := by
  unfold State.tintRead
  with_reducible repeat'
    first
    | assumption | apply State.modAs_ok | apply State.calSync_ok | apply State.setBit_ok | apply State.setFld_ok | apply State.ite_ok

theorem execPreampTempRead_ok (a : Act) (ok : Bool) (temp : Int) (s : State) (hs : State.Ok ps s) :
    Outcome.Ok ps (execPreampTempRead a ok temp s) := by
  unfold execPreampTempRead
  with_reducible repeat' first | assumption | apply Outcome.ok_next | intro _ | apply State.whileLive_ok | apply State.tintRead_ok

theorem State.tintLost_ok (s : State) (a : Act) (hs : State.Ok ps s) :
    State.Ok ps (s.tintLost a) := by
  unfold State.tintLost
  with_reducible repeat' first | assumption | apply State.assistFault_ok | apply State.clrBit_ok | apply State.ite_ok

theorem execTintLost_ok (a : Act) (s : State) (hs : State.Ok ps s) :
    Outcome.Ok ps (execTintLost a s) := by
  unfold execTintLost
  with_reducible repeat' first | assumption | apply Outcome.ok_next | intro _ | apply State.whileLive_ok | apply State.tintLost_ok

theorem State.standIn_ok (s : State) (l : Nat) (hs : State.Ok ps s) :
    State.Ok ps (s.standIn l) := by
  unfold State.standIn
  with_reducible repeat'
    first
    | assumption | apply State.setFld_ok | apply State.setBit_ok | apply State.modCal_ok | apply State.loadSet_ok

theorem State.runStart_ok (s : State) (l : Nat) (hs : State.Ok ps s) :
    State.Ok ps (s.runStart l) := by
  unfold State.runStart
  with_reducible repeat'
    first
    | assumption | apply State.setBit_ok | apply State.modCal_ok | apply State.standIn_ok | apply State.runSync_ok
    | apply State.clrBit_ok | apply State.ite_ok

theorem execCalRunStart_ok (lane : Nat) (s : State) (hs : State.Ok ps s) :
    Outcome.Ok ps (execCalRunStart lane s) := by
  unfold execCalRunStart
  with_reducible repeat' first | assumption | apply Outcome.ok_next | intro _ | apply State.whileLive_ok | apply State.runStart_ok

theorem State.applyRun_ok (s : State) (r : CalRun) (ok : Bool) (hs : State.Ok ps s) :
    State.Ok ps (s.applyRun r ok) := by
  unfold State.applyRun
  with_reducible repeat'
    first
    | assumption | apply State.setFld_ok | apply State.rejectRun_ok | apply State.modCal_ok | apply State.loadSet_ok
    | apply State.bump_ok | apply State.runRecord_ok | apply State.markDegraded_ok | apply State.ite_ok

theorem State.runEnds_ok (s : State) (r : CalRun) (ok : Bool) (hs : State.Ok ps s) :
    State.Ok ps (s.runEnds r ok) := by
  unfold State.runEnds
  with_reducible repeat' first | assumption | apply State.rejectRun_ok | apply State.applyRun_ok | apply State.ite_ok

theorem State.applyWaiting_ok (s : State) (l : Nat) (hs : State.Ok ps s) :
    State.Ok ps (s.applyWaiting l) := by
  unfold State.applyWaiting
  with_reducible repeat' first | assumption | apply State.runEnds_ok | apply State.ite_ok | split

theorem State.stepDone_ok (s : State) (l : Nat) (f : CalFind) (hs : State.Ok ps s) :
    State.Ok ps (s.stepDone l f) := by
  unfold State.stepDone
  with_reducible repeat'
    first
    | assumption | apply State.runSync_ok | apply State.modCal_ok | apply State.runEnds_ok | apply State.ite_ok | split

theorem execCalStepDone_ok (lane : Nat) (r : CalFind) (s : State) (hs : State.Ok ps s) :
    Outcome.Ok ps (execCalStepDone lane r s) := by
  unfold execCalStepDone
  with_reducible repeat' first | assumption | apply Outcome.ok_next | intro _ | apply State.whileLive_ok | apply State.stepDone_ok

theorem execCalTimeout_ok (lane : Nat) (s : State) (hs : State.Ok ps s) :
    Outcome.Ok ps (execCalTimeout lane s) := by
  unfold execCalTimeout
  with_reducible repeat'
    first
    | assumption | apply Outcome.ok_next | intro _ | apply State.whileLive_ok | apply State.onSome_ok | apply State.rejectRun_ok

theorem execDegradedRecalTimer_ok (s : State) (hs : State.Ok ps s) :
    Outcome.Ok ps (execDegradedRecalTimer s) := by
  unfold execDegradedRecalTimer
  with_reducible repeat'
    first
    | assumption | apply Outcome.ok_next | intro _ | apply State.whileLive_ok | apply State.calSync_ok | apply State.each_ok
    | apply State.setCause_ok | apply State.ite_ok

end Sys2Proof.Machine
end

