-- ==== Sys2Proof/Laws/KeepHost.lean ====
section
/-! SUPPORT. Every operation and every meaning keeps the queue and the canonical form of the stores (`State.Ok`):
lanes, deep decode, the enclosure bus and NVMe.
Each lemma follows the steps of its definition, with the lemmas of what that calls. -/
namespace Sys2Proof.Machine

variable {ps : List Instr}

theorem State.presetRate_ok (s : State) (l : Nat) (surf : Nat) (track : Nat) (hs : State.Ok ps s) :
    State.Ok ps (s.presetRate l surf track) := by
  unfold State.presetRate
  with_reducible repeat' first | assumption | apply State.setFld_ok

theorem State.laneBind_ok (s : State) (l : Nat) (hs : State.Ok ps s) :
    State.Ok ps (s.laneBind l) := by
  unfold State.laneBind
  with_reducible repeat'
    first
    | assumption | apply State.setFld_ok | apply State.bindLanes_ok | apply State.presetRate_ok | apply State.calSync_ok
    | apply State.applySet_ok | apply State.ite_ok | split

theorem execLaneBind_ok (lane : Nat) (s : State) (hs : State.Ok ps s) :
    Outcome.Ok ps (execLaneBind lane s) := by
  unfold execLaneBind
  with_reducible repeat' first | assumption | apply Outcome.ok_next | intro _ | apply State.whileLive_ok | apply State.laneBind_ok

theorem State.laneUnbind_ok (s : State) (l : Nat) (hs : State.Ok ps s) :
    State.Ok ps (s.laneUnbind l) := by
  unfold State.laneUnbind
  with_reducible repeat' first | assumption | apply State.laneOff_ok | apply State.abandonRuns_ok

theorem execLaneUnbind_ok (lane : Nat) (s : State) (hs : State.Ok ps s) :
    Outcome.Ok ps (execLaneUnbind lane s) := by
  unfold execLaneUnbind
  with_reducible repeat' first | assumption | apply Outcome.ok_next | intro _ | apply State.whileLive_ok | apply State.laneUnbind_ok

theorem State.skipFrame_ok (s : State) (l : Nat) (c : FrameCmd) (hs : State.Ok ps s) :
    State.Ok ps (s.skipFrame l c) := by
  unfold State.skipFrame
  with_reducible repeat' first | assumption | apply State.bump_ok | apply State.postStatus_ok | apply State.reread_ok | apply State.ite_ok

theorem State.queueFrame_ok (s : State) (l : Nat) (c : FrameCmd) (hs : State.Ok ps s) :
    State.Ok ps (s.queueFrame l c) := by
  unfold State.queueFrame
  with_reducible repeat' first | assumption | apply State.skipFrame_ok | apply State.modLane_ok | apply State.ite_ok

theorem State.frameCommand_ok (s : State) (l : Nat) (track : Nat) (frame : Nat) (startTick : Nat) (hs : State.Ok ps s) :
    State.Ok ps (s.frameCommand l track frame startTick) := by
  unfold State.frameCommand
  with_reducible repeat'
    first
    | assumption | apply State.queueFrame_ok | apply State.ite_ok
    | (extract_lets +onlyGivenNames x; refine (fun hx => ?_ : State.Ok ps x → _) ?_; rotate_left; unfold x; clear x; rotate_right; clear_value x)
    | split

theorem execFrameCommand_ok (lane : Nat) (track : Nat) (frame : Nat) (startTick : Nat) (s : State) (hs : State.Ok ps s) :
    Outcome.Ok ps (execFrameCommand lane track frame startTick s) := by
  unfold execFrameCommand
  with_reducible repeat' first | assumption | apply Outcome.ok_next | intro _ | apply State.whileLive_ok | apply State.frameCommand_ok

theorem State.positionPassed_ok (s : State) (l : Nat) (hs : State.Ok ps s) :
    State.Ok ps (s.positionPassed l) := by
  unfold State.positionPassed
  with_reducible repeat' first | assumption | apply State.skipFrame_ok | apply State.modLane_ok | apply State.ite_ok | split

theorem execFramePositionPassed_ok (lane : Nat) (s : State) (hs : State.Ok ps s) :
    Outcome.Ok ps (execFramePositionPassed lane s) := by
  unfold execFramePositionPassed
  with_reducible repeat' first | assumption | apply Outcome.ok_next | intro _ | apply State.whileLive_ok | apply State.positionPassed_ok

theorem State.roomFor_ok (s : State) (l : Nat) (n : Nat) (hs : State.Ok ps s) :
    State.Ok ps (s.roomFor l n) := by
  unfold State.roomFor
  with_reducible repeat' first | assumption | apply State.takeExtent_ok | apply State.modLane_ok | apply State.ite_ok

theorem State.acquireGain_ok (s : State) (l : Nat) (hs : State.Ok ps s) :
    State.Ok ps (s.acquireGain l) := by
  unfold State.acquireGain
  with_reducible repeat' first | assumption | apply State.setFld_ok | apply State.drawFree_ok

theorem State.captureStart_ok (s : State) (l : Nat) (hs : State.Ok ps s) :
    State.Ok ps (s.captureStart l) := by
  unfold State.captureStart
  with_reducible repeat'
    first
    | assumption | intro _ | apply State.roomFor_ok | apply State.presetRate_ok | apply State.onSome_ok | apply State.modLane_ok
    | apply State.acquireGain_ok | apply State.setBit_ok | apply State.setFld_ok | apply State.ite_ok
    | (extract_lets +onlyGivenNames x; clear_value x) | split

theorem execCaptureStart_ok (lane : Nat) (s : State) (hs : State.Ok ps s) :
    Outcome.Ok ps (execCaptureStart lane s) := by
  unfold execCaptureStart
  with_reducible repeat' first | assumption | apply Outcome.ok_next | intro _ | apply State.whileLive_ok | apply State.captureStart_ok

theorem State.putSync_ok (s : State) (l : Nat) (best : Option (Nat × Nat)) (top : Nat) (hs : State.Ok ps s) :
    State.Ok ps (s.putSync l best top) := by
  unfold State.putSync
  with_reducible repeat' first | assumption | apply State.modLane_ok

theorem State.syncDecision_ok (s : State) (l : Nat) (cells1 : List SlicedCell) (cells2 : List SlicedCell) (hs : State.Ok ps s) :
    State.Ok ps (s.syncDecision l cells1 cells2) := by
  unfold State.syncDecision
  with_reducible repeat'
    first
    | assumption | apply State.putSync_ok | apply State.ite_ok
    | (extract_lets +onlyGivenNames x; refine (fun hx => ?_ : State.Ok ps x → _) ?_; rotate_left; unfold x; clear x; rotate_right; clear_value x)
    | split

theorem execSyncDecision_ok (lane : Nat) (cells : List SlicedCell) (cells2 : List SlicedCell) (s : State) (hs : State.Ok ps s) :
    Outcome.Ok ps (execSyncDecision lane cells cells2 s) := by
  unfold execSyncDecision
  with_reducible repeat' first | assumption | apply Outcome.ok_next | intro _ | apply State.whileLive_ok | apply State.syncDecision_ok

theorem State.countFail_ok (s : State) (surf : Nat) (track : Nat) (frame : Nat) (d : DecodeRes) (hs : State.Ok ps s) :
    State.Ok ps (s.countFail surf track frame d) := by
  unfold State.countFail
  with_reducible repeat' first | assumption | apply State.bump_ok | apply State.ite_ok

theorem State.readAs_ok (s : State) (surf : Nat) (track : Nat) (frame : Nat) (info : Nat) (hs : State.Ok ps s) :
    State.Ok ps (s.readAs surf track frame info) := by
  unfold State.readAs
  with_reducible repeat' first | assumption | apply State.modMap_ok

theorem State.inlineResult_ok (s : State) (l : Nat) (d : DecodeRes) (hs : State.Ok ps s) :
    State.Ok ps (s.inlineResult l d) := by
  unfold State.inlineResult
  with_reducible repeat'
    first
    | assumption | apply State.countFail_ok | apply State.readAs_ok | apply State.modLane_ok | apply State.bump_ok | apply State.ite_ok
    | (extract_lets +onlyGivenNames x; clear_value x) | split

theorem execInlineDecodeResult_ok (lane : Nat) (r : DecodeRes) (s : State) (hs : State.Ok ps s) :
    Outcome.Ok ps (execInlineDecodeResult lane r s) := by
  unfold execInlineDecodeResult
  with_reducible repeat'
    first
    | assumption | apply Outcome.ok_next | intro _ | apply State.whileLive_ok | apply State.standbyStep_ok
    | apply State.inlineResult_ok

theorem State.frameGood_ok (s : State) (surf : Nat) (track : Nat) (frame : Nat) (hs : State.Ok ps s) :
    State.Ok ps (s.frameGood surf track frame) := by
  unfold State.frameGood
  with_reducible repeat'
    first
    | assumption | apply State.recovered_ok | apply State.setDirect_ok | apply State.resumeReads_ok | apply State.unwait_ok | split

theorem State.frameBad_ok (s : State) (surf : Nat) (track : Nat) (frame : Nat) (miss : Bool) (hs : State.Ok ps s) :
    State.Ok ps (s.frameBad surf track frame miss) := by
  unfold State.frameBad
  with_reducible repeat'
    first
    | assumption | apply State.enqueue_ok | apply State.climb_ok | apply State.bump_ok | apply State.modDecode_ok
    | (apply State.pin_ok'; assumption) | (extract_lets +onlyGivenNames x; clear_value x) | split

theorem State.neighbourRead_ok (s : State) (surf : Nat) (track : Nat) (frame : Nat) (hs : State.Ok ps s) :
    State.Ok ps (s.neighbourRead surf track frame) := by
  unfold State.neighbourRead
  with_reducible repeat'
    first
    | assumption | intro _ | apply State.each_ok | apply State.enqueue_ok | apply State.climb_ok | apply State.bump_ok
    | (apply State.pin_ok'; assumption) | apply State.ite_ok | (extract_lets +onlyGivenNames x; clear_value x) | split

theorem State.dispatch_ok (s : State) (l : Nat) (c : FrameCmd) (off : Bool) (late : Bool) (inline : Bool) (miss : Bool)
    (hs : State.Ok ps s) :
    State.Ok ps (s.dispatch l c off late inline miss) := by
  unfold State.dispatch
  with_reducible repeat'
    first
    | assumption | apply State.reread_ok | apply State.frameGood_ok | apply State.frameBad_ok | apply State.ite_ok

theorem State.passOver_ok (s : State) (l : Nat) (hs : State.Ok ps s) :
    State.Ok ps (s.passOver l) := by
  unfold State.passOver
  with_reducible repeat' first | assumption | apply State.setFld_ok | apply State.modCal_ok | apply State.modPlace_ok | apply State.ite_ok

theorem State.indexCapture_ok (s : State) (l : Nat) (i : IndexEntry) (hs : State.Ok ps s) :
    State.Ok ps (s.indexCapture l i) := by
  unfold State.indexCapture
  with_reducible repeat' first | assumption | apply State.putIndex_ok | apply State.modLane_ok | apply State.modExtent_ok | split

theorem State.notePass_ok (s : State) (l : Nat) (hs : State.Ok ps s) :
    State.Ok ps (s.notePass l) := by
  unfold State.notePass
  with_reducible repeat' first | assumption | apply State.modCal_ok

theorem State.sectorEnd_ok (s : State) (l : Nat) (overrunAt : Option Nat) (hs : State.Ok ps s) :
    State.Ok ps (s.sectorEnd l overrunAt) := by
  unfold State.sectorEnd
  with_reducible repeat'
    first
    | assumption | intro _ | apply State.postStatus_ok | apply State.setFld_ok | apply State.bump_ok | apply State.when_ok
    | apply State.onSome_ok | apply State.indexCapture_ok | apply State.notePass_ok | apply State.modLane_ok
    | apply State.applyWaiting_ok | apply State.passOver_ok | apply State.neighbourRead_ok | apply State.dispatch_ok
    | apply State.ite_ok | (extract_lets +onlyGivenNames x; clear_value x) | split

theorem execSectorEnd_ok (lane : Nat) (overrunAt : Option Nat) (s : State) (hs : State.Ok ps s) :
    Outcome.Ok ps (execSectorEnd lane overrunAt s) := by
  unfold execSectorEnd
  with_reducible repeat'
    first
    | assumption | apply Outcome.ok_next | intro _ | apply State.whileLive_ok | apply State.standbyStep_ok | apply State.sectorEnd_ok

theorem State.calRead_ok (s : State) (w : Nat) (r : CalRun) (hs : State.Ok ps s) :
    State.Ok ps (s.calRead w r) := by
  unfold State.calRead
  with_reducible repeat' first | assumption | apply State.queueFrame_ok | apply State.ite_ok | split

theorem State.lsWindow_ok (s : State) (a : Act) (w : Nat) (valid : Nat → Bool) (hs : State.Ok ps s) :
    State.Ok ps (s.lsWindow a w valid) := by
  unfold State.lsWindow
  with_reducible repeat'
    first
    | assumption | intro _ | apply State.modCal_ok | apply State.each_ok | apply State.calRead_ok | apply State.runSync_ok
    | apply State.lsFree_ok | apply State.ite_ok

theorem State.frameEscalation_ok (s : State) (surf : Nat) (track : Nat) (frame : Nat) (cls : Nat) (hs : State.Ok ps s) :
    State.Ok ps (s.frameEscalation surf track frame cls) := by
  unfold State.frameEscalation
  with_reducible repeat' first | assumption | apply State.escalate_ok | apply State.modDecode_ok | split

theorem execFrameEscalation_ok (surf : Nat) (track : Nat) (frame : Nat) (cls : Nat) (s : State) (hs : State.Ok ps s) :
    Outcome.Ok ps (execFrameEscalation surf track frame cls s) := by
  unfold execFrameEscalation
  with_reducible repeat' first | assumption | apply Outcome.ok_next | intro _ | apply State.whileLive_ok | apply State.frameEscalation_ok

theorem State.deepStart_ok (s : State) (u : Nat) (hs : State.Ok ps s) :
    State.Ok ps (s.deepStart u) := by
  unfold State.deepStart
  with_reducible repeat' first | assumption | apply State.hold_ok | apply State.ite_ok | split

theorem execDeepDecodeStart_ok (unit : Nat) (s : State) (hs : State.Ok ps s) :
    Outcome.Ok ps (execDeepDecodeStart unit s) := by
  unfold execDeepDecodeStart
  with_reducible repeat' first | assumption | apply Outcome.ok_next | intro _ | apply State.whileLive_ok | apply State.deepStart_ok

theorem State.decodeDone_ok (s : State) (u : Nat) (r : Recovery) (d : DecodeRes) (hs : State.Ok ps s) :
    State.Ok ps (s.decodeDone u r d) := by
  unfold State.decodeDone
  with_reducible repeat'
    first
    | assumption | apply State.sample_ok | apply State.setFld_ok | apply State.recovered_ok | apply State.readAs_ok
    | apply State.nextStep_ok | apply State.countFail_ok | apply State.ite_ok

theorem State.ddStepDone_ok (s : State) (u : Nat) (x3 : StepRes) (hs : State.Ok ps s) :
    State.Ok ps (s.ddStepDone u x3) := by
  unfold State.ddStepDone
  with_reducible repeat'
    first
    | assumption | apply State.climb_ok | apply State.unpin_ok | apply State.bump_ok | apply State.hold_ok | apply State.nextStep_ok
    | apply State.decodeDone_ok | apply State.ite_ok | split

theorem execDeepDecodeStepDone_ok (unit : Nat) (r : StepRes) (s : State) (hs : State.Ok ps s) :
    Outcome.Ok ps (execDeepDecodeStepDone unit r s) := by
  unfold execDeepDecodeStepDone
  with_reducible repeat'
    first
    | assumption | apply Outcome.ok_next | intro _ | apply State.whileLive_ok | apply State.standbyStep_ok | apply State.ddStepDone_ok

theorem State.unitReset_ok (s : State) (u : Nat) (hs : State.Ok ps s) :
    State.Ok ps (s.unitReset u) := by
  unfold State.unitReset
  with_reducible repeat'
    first
    | assumption | apply State.modDecode_ok | apply State.bump_ok | apply State.unitFault_ok | apply State.setFldBit_ok
    | apply State.hold_ok | apply State.enqueue_ok | apply State.ite_ok
    | (extract_lets +onlyGivenNames x; refine (fun hx => ?_ : State.Ok ps x → _) ?_; rotate_left; unfold x; clear x; rotate_right; clear_value x)
    | (extract_lets +onlyGivenNames x; clear_value x) | split

theorem execUnitOvertime_ok (unit : Nat) (s : State) (hs : State.Ok ps s) :
    Outcome.Ok ps (execUnitOvertime unit s) := by
  unfold execUnitOvertime
  with_reducible repeat'
    first
    | assumption | apply Outcome.ok_next | intro _ | apply State.whileLive_ok | apply State.standbyStep_ok | apply State.unitReset_ok

theorem State.lsJoin_ok (s : State) (l : Nat) (hs : State.Ok ps s) :
    State.Ok ps (s.lsJoin l) := by
  unfold State.lsJoin
  with_reducible repeat'
    first
    | assumption | apply State.setFld_ok | apply State.modCal_ok | apply State.loadSet_ok | apply State.routeLane_ok

theorem State.rereadPass_ok (s : State) (a : Act) (startTick : Nat) (hs : State.Ok ps s) :
    State.Ok ps (s.rereadPass a startTick) := by
  unfold State.rereadPass
  with_reducible repeat'
    first
    | assumption | intro _ | apply State.modLanes_ok | apply State.frameCommand_ok | apply State.setDirect_ok | apply State.bump_ok
    | apply State.modPlace_ok | apply State.lsJoin_ok | apply State.each_ok | apply State.ite_ok
    | (extract_lets +onlyGivenNames x; refine (fun hx => ?_ : State.Ok ps x → _) ?_; rotate_left; unfold x; clear x; rotate_right; clear_value x)
    | split

theorem execRereadPass_ok (a : Act) (startTick : Nat) (s : State) (hs : State.Ok ps s) :
    Outcome.Ok ps (execRereadPass a startTick s) := by
  unfold execRereadPass
  with_reducible repeat' first | assumption | apply Outcome.ok_next | intro _ | apply State.whileLive_ok | apply State.rereadPass_ok

theorem State.neighbourExpiry_ok (s : State) (surf : Nat) (track : Nat) (frame : Nat) (hs : State.Ok ps s) :
    State.Ok ps (s.neighbourExpiry surf track frame) := by
  unfold State.neighbourExpiry
  with_reducible repeat'
    first
    | assumption | apply State.askReread_ok | apply State.bump_ok | apply State.hold_ok | apply State.enqueue_ok | apply State.climb_ok
    | (apply State.pin_ok'; assumption) | apply State.ite_ok | split

theorem execNeighbourWaitExpiry_ok (surf : Nat) (track : Nat) (frame : Nat) (s : State) (hs : State.Ok ps s) :
    Outcome.Ok ps (execNeighbourWaitExpiry surf track frame s) := by
  unfold execNeighbourWaitExpiry
  with_reducible repeat' first | assumption | apply Outcome.ok_next | intro _ | apply State.whileLive_ok | apply State.neighbourExpiry_ok

theorem State.lsTimeout_ok (s : State) (surf : Nat) (track : Nat) (frame : Nat) (hs : State.Ok ps s) :
    State.Ok ps (s.lsTimeout surf track frame) := by
  unfold State.lsTimeout
  with_reducible repeat' first | assumption | apply State.modLanes_ok

theorem execLsWaitTimeout_ok (surf : Nat) (track : Nat) (frame : Nat) (s : State) (hs : State.Ok ps s) :
    Outcome.Ok ps (execLsWaitTimeout surf track frame s) := by
  unfold execLsWaitTimeout
  with_reducible repeat'
    first
    | assumption | apply Outcome.ok_next | intro _ | apply State.whileLive_ok | apply State.standbyStep_ok | apply State.lsTimeout_ok

theorem State.unreadableTimeout_ok (s : State) (surf : Nat) (track : Nat) (frame : Nat) (hs : State.Ok ps s) :
    State.Ok ps (s.unreadableTimeout surf track frame) := by
  unfold State.unreadableTimeout
  with_reducible repeat'
    first
    | assumption | apply State.modLanes_ok | apply State.giveUp_ok | apply State.resumeReads_ok | apply State.unreadable_ok
    | apply State.modDecode_ok | apply State.ite_ok
    | (extract_lets +onlyGivenNames x; refine (fun hx => ?_ : State.Ok ps x → _) ?_; rotate_left; unfold x; clear x; rotate_right; clear_value x)
    | split

theorem execUnreadableTimeout_ok (surf : Nat) (track : Nat) (frame : Nat) (s : State) (hs : State.Ok ps s) :
    Outcome.Ok ps (execUnreadableTimeout surf track frame s) := by
  unfold execUnreadableTimeout
  with_reducible repeat'
    first
    | assumption | apply Outcome.ok_next | intro _ | apply State.whileLive_ok | apply State.standbyStep_ok
    | apply State.unreadableTimeout_ok

theorem State.opportunity_ok (s : State) (late : Bool) (hs : State.Ok ps s) :
    State.Ok ps (s.opportunity late) := by
  unfold State.opportunity
  with_reducible repeat'
    first
    | assumption | apply State.healthWatch_ok | apply State.bump_ok | apply State.ebTransmit_ok | apply State.ite_ok

theorem State.plcaBeacon_ok (s : State) (hs : State.Ok ps s) :
    State.Ok ps (s.plcaBeacon) := by
  unfold State.plcaBeacon
  with_reducible repeat'
    first
    | assumption | apply State.setFld_ok | apply State.clrBit_ok | apply State.setBit_ok | apply State.healthWatch_ok
    | apply State.modEb_ok | apply State.ite_ok

theorem State.collision_ok (s : State) (hs : State.Ok ps s) :
    State.Ok ps (s.collision) := by
  unfold State.collision
  with_reducible repeat'
    first
    | assumption | intro _ | apply State.when_ok | apply State.bump_ok | apply State.modEb_ok | apply State.record_ok
    | apply State.setBit_ok | apply State.ite_ok

theorem State.backoff_ok (s : State) (hs : State.Ok ps s) :
    State.Ok ps (s.backoff) := by
  unfold State.backoff
  with_reducible repeat'
    first
    | assumption | apply State.ebLoad_ok | apply State.bump_ok | apply State.modEb_ok | apply State.ite_ok | split

theorem State.ebRecv_ok (s : State) (h : EbHdr) (f : State → State) (hs : State.Ok ps s) (h3 : ∀ y0, State.Ok ps y0 → State.Ok ps
    (f y0)) :
    State.Ok ps (s.ebRecv h f) := by
  unfold State.ebRecv
  with_reducible repeat' first | assumption | apply h3 | apply State.bump_ok | apply State.ite_ok

theorem State.tickFrame_ok (s : State) (h : EbHdr) (mepoch : Nat) (hs : State.Ok ps s) :
    State.Ok ps (s.tickFrame h mepoch) := by
  unfold State.tickFrame
  with_reducible repeat'
    first
    | assumption | apply State.follow_ok | apply State.poolMasterKnown_ok | apply State.setFld_ok | apply State.ite_ok

theorem State.tokReqFrame_ok (s : State) (h : EbHdr) (lease : Nat) (held : Bool) (hs : State.Ok ps s) :
    State.Ok ps (s.tokReqFrame h lease held) := by
  unfold State.tokReqFrame
  with_reducible repeat'
    first
    | assumption | apply State.tokSync_ok | apply State.modEb_ok | apply State.grantPump_ok | apply State.ite_ok

theorem State.announceTo_ok (s : State) (a : Act) (h : EbHdr) (step : Nat) (start : Nat) (prof : List Int) (hs : State.Ok ps s) :
    State.Ok ps (s.announceTo a h step start prof) := by
  unfold State.announceTo
  with_reducible repeat'
    first
    | assumption | intro _ | apply State.bump_ok | apply State.modSv_ok | apply State.when_ok | apply State.ite_ok
    | (extract_lets +onlyGivenNames x; clear_value x) | split

theorem State.hqueryFrame_ok (s : State) (h : EbHdr) (dstnode : Nat) (hs : State.Ok ps s) :
    State.Ok ps (s.hqueryFrame h dstnode) := by
  unfold State.hqueryFrame
  with_reducible repeat'
    first
    | assumption | intro _ | apply State.ebRecv_ok | apply State.sendHealth_ok | apply State.ebEmit_ok | apply State.ite_ok

theorem State.claimsClose_ok (s : State) (hs : State.Ok ps s) :
    State.Ok ps (s.claimsClose) := by
  unfold State.claimsClose
  with_reducible repeat'
    first
    | assumption | apply State.poolMasterKnown_ok | apply State.becomeMaster_ok | apply State.modEb_ok | apply State.setFld_ok
    | apply State.ite_ok

theorem State.localSpin_ok (s : State) (hs : State.Ok ps s) :
    State.Ok ps (s.localSpin) := by
  unfold State.localSpin
  with_reducible repeat'
    first
    | assumption | apply State.record_ok | apply State.modEb_ok | apply State.setBit_ok | apply State.spBegin_ok | apply State.ite_ok

theorem State.ioRead_ok (s : State) (m : Cmd) (fails : List Nat) (hs : State.Ok ps s) :
    State.Ok ps (s.ioRead m fails) := by
  unfold State.ioRead
  with_reducible repeat'
    first
    | assumption | apply State.modCmd_ok | apply State.readTry_ok | apply State.poolTry_ok
    | (extract_lets +onlyGivenNames x; refine (fun hx => ?_ : State.Ok ps x → _) ?_; rotate_left; unfold x; clear x; rotate_right; clear_value x)
    | (extract_lets +onlyGivenNames x; clear_value x) | split

theorem execRead_ok (ctrl : Nat) (sq : Nat) (cid : Nat) (fails : List Nat) (s : State) (hs : State.Ok ps s) :
    Outcome.Ok ps (execRead ctrl sq cid fails s) := by
  unfold execRead
  with_reducible repeat'
    first
    | assumption | apply Outcome.ok_next | intro _ | apply State.whileLive_ok | apply State.standbyStep_ok | apply State.ioStart_ok
    | apply State.ioRead_ok

theorem State.ioCompare_ok (s : State) (m : Cmd) (data : List Byte) (fails : List Nat) (hs : State.Ok ps s) :
    State.Ok ps (s.ioCompare m data fails) := by
  unfold State.ioCompare
  with_reducible repeat'
    first
    | assumption | apply State.complete_ok | apply State.modCmd_ok | apply State.ioRead_ok | apply State.ite_ok
    | (extract_lets +onlyGivenNames x; refine (fun hx => ?_ : State.Ok ps x → _) ?_; rotate_left; unfold x; clear x; rotate_right; clear_value x)
    | split

theorem execCompare_ok (ctrl : Nat) (sq : Nat) (cid : Nat) (data : List Byte) (fails : List Nat) (s : State) (hs : State.Ok ps s) :
    Outcome.Ok ps (execCompare ctrl sq cid data fails s) := by
  unfold execCompare
  with_reducible repeat'
    first
    | assumption | apply Outcome.ok_next | intro _ | apply State.whileLive_ok | apply State.standbyStep_ok | apply State.ioStart_ok
    | apply State.ioCompare_ok

theorem execVerify_ok (ctrl : Nat) (sq : Nat) (cid : Nat) (fails : List Nat) (s : State) (hs : State.Ok ps s) :
    Outcome.Ok ps (execVerify ctrl sq cid fails s) := by
  unfold execVerify
  with_reducible repeat'
    first
    | assumption | apply Outcome.ok_next | intro _ | apply State.whileLive_ok | apply State.standbyStep_ok | apply State.ioStart_ok
    | apply State.ioRead_ok

theorem State.queued_ok (s : State) (m : Cmd) (r : State × Option NvStatus × Bool) (hs : State.Ok ps s) (h3 : State.Ok ps r.1) :
    State.Ok ps (s.queued m r) := by
  unfold State.queued
  with_reducible repeat' first | assumption | apply State.complete_ok | apply State.begin_ok | apply State.ite_ok | split

theorem State.zoneWrite_ok (s : State) (m : Cmd) (n : Namespace) (z : Nat) (o : Nat) (k : Nat) (data : List Byte) (result : Nat)
    (hs : State.Ok ps s) :
    State.Ok ps (s.zoneWrite m n z o k data result) := by
  unfold State.zoneWrite
  with_reducible repeat'
    first
    | assumption | apply State.complete_ok | apply State.modCmd_ok | apply State.zoneWritten_ok | apply State.queued_ok
    | apply State.queueGroups_ok | apply State.ite_ok
    | (extract_lets +onlyGivenNames x; refine (fun hx => ?_ : State.Ok ps x → _) ?_; rotate_left; unfold x; clear x; rotate_right; clear_value x)
    | split

theorem State.ioWrite_ok (s : State) (m : Cmd) (data : List Byte) (hs : State.Ok ps s) :
    State.Ok ps (s.ioWrite m data) := by
  unfold State.ioWrite
  with_reducible repeat'
    first
    | assumption | apply State.complete_ok | apply State.zoneWrite_ok | apply State.queued_ok | apply State.queueGroups_ok
    | apply State.ite_ok | split

theorem execWrite_ok (ctrl : Nat) (sq : Nat) (cid : Nat) (data : List Byte) (s : State) (hs : State.Ok ps s) :
    Outcome.Ok ps (execWrite ctrl sq cid data s) := by
  unfold execWrite
  with_reducible repeat'
    first
    | assumption | apply Outcome.ok_next | intro _ | apply State.whileLive_ok | apply State.standbyStep_ok | apply State.ioStart_ok
    | apply State.ioWrite_ok

theorem State.ioAppend_ok (s : State) (m : Cmd) (data : List Byte) (hs : State.Ok ps s) :
    State.Ok ps (s.ioAppend m data) := by
  unfold State.ioAppend
  with_reducible repeat' first | assumption | apply State.complete_ok | apply State.zoneWrite_ok | apply State.ite_ok | split

theorem execZoneAppend_ok (ctrl : Nat) (sq : Nat) (cid : Nat) (data : List Byte) (s : State) (hs : State.Ok ps s) :
    Outcome.Ok ps (execZoneAppend ctrl sq cid data s) := by
  unfold execZoneAppend
  with_reducible repeat'
    first
    | assumption | apply Outcome.ok_next | intro _ | apply State.whileLive_ok | apply State.standbyStep_ok | apply State.ioStart_ok
    | apply State.ioAppend_ok

theorem State.dealloced_ok (s : State) (m : Cmd) (r : State × Option NvStatus × Bool) (hs : State.Ok ps s) (h3 : State.Ok ps r.1) :
    State.Ok ps (s.dealloced m r) := by
  unfold State.dealloced
  with_reducible repeat' first | assumption | apply State.complete_ok | apply State.begin_ok | apply State.ite_ok | split

theorem State.ioZeroes_ok (s : State) (m : Cmd) (hs : State.Ok ps s) :
    State.Ok ps (s.ioZeroes m) := by
  unfold State.ioZeroes
  with_reducible repeat'
    first
    | assumption | apply State.complete_ok | apply State.queueDealloc_ok | apply State.dealloced_ok | apply State.ite_ok | split

theorem execWriteZeroes_ok (ctrl : Nat) (sq : Nat) (cid : Nat) (s : State) (hs : State.Ok ps s) :
    Outcome.Ok ps (execWriteZeroes ctrl sq cid s) := by
  unfold execWriteZeroes
  with_reducible repeat'
    first
    | assumption | apply Outcome.ok_next | intro _ | apply State.whileLive_ok | apply State.standbyStep_ok | apply State.ioStart_ok
    | apply State.ioZeroes_ok

theorem State.ioDsm_ok (s : State) (m : Cmd) (ranges : List (Nat × Nat)) (hs : State.Ok ps s) :
    State.Ok ps (s.ioDsm m ranges) := by
  unfold State.ioDsm
  with_reducible repeat'
    first
    | assumption | intro _ | apply State.complete_ok | apply State.dealloced_ok | apply State.queueDealloc_ok | apply State.ite_ok
    | apply State.ite_fst_ok | apply State.foldl_fst_ok | split

theorem execDatasetManagement_ok (ctrl : Nat) (sq : Nat) (cid : Nat) (ranges : List (Nat × Nat)) (s : State) (hs : State.Ok ps s) :
    Outcome.Ok ps (execDatasetManagement ctrl sq cid ranges s) := by
  unfold execDatasetManagement
  with_reducible repeat'
    first
    | assumption | apply Outcome.ok_next | intro _ | apply State.whileLive_ok | apply State.standbyStep_ok | apply State.ioStart_ok
    | apply State.ioDsm_ok

theorem State.ioBarrier_ok (s : State) (m : Cmd) (hs : State.Ok ps s) :
    State.Ok ps (s.ioBarrier m) := by
  unfold State.ioBarrier
  with_reducible repeat' first | assumption | apply State.begin_ok | apply State.drainPump_ok | apply State.pumpDue_ok

theorem execFlush_ok (ctrl : Nat) (sq : Nat) (cid : Nat) (s : State) (hs : State.Ok ps s) :
    Outcome.Ok ps (execFlush ctrl sq cid s) := by
  unfold execFlush
  with_reducible repeat'
    first
    | assumption | apply Outcome.ok_next | intro _ | apply State.whileLive_ok | apply State.ioStart_ok | apply State.ioBarrier_ok

theorem execFence_ok (ctrl : Nat) (sq : Nat) (cid : Nat) (s : State) (hs : State.Ok ps s) :
    Outcome.Ok ps (execFence ctrl sq cid s) := by
  unfold execFence
  with_reducible repeat'
    first
    | assumption | apply Outcome.ok_next | intro _ | apply State.whileLive_ok | apply State.ioStart_ok | apply State.ioBarrier_ok

theorem State.putNs_ok (s : State) (nsid : Nat) (n : Namespace) (hs : State.Ok ps s) :
    State.Ok ps (s.putNs nsid n) := by
  unfold State.putNs
  with_reducible repeat' first | assumption | apply State.modMap_ok | apply State.modNvme_ok

theorem State.resvNotice_ok (s : State) (c : Nat) (nsid : Nat) (kind : Nat) (hs : State.Ok ps s) :
    State.Ok ps (s.resvNotice c nsid kind) := by
  unfold State.resvNotice
  with_reducible repeat' first | assumption | apply State.aerOn_ok | apply State.modCtrl_ok | apply State.ite_ok

theorem State.resvNotices_ok (s : State) (n : Namespace) (c : Nat) (nsid : Nat) (kind : Nat) (hs : State.Ok ps s) :
    State.Ok ps (s.resvNotices n c nsid kind) := by
  unfold State.resvNotices
  with_reducible repeat' first | assumption | intro _ | apply State.each_ok | apply State.resvNotice_ok

theorem State.resvRegister_ok (s : State) (m : Cmd) (crkey : Nat) (nrkey : Nat) (hs : State.Ok ps s) :
    State.Ok ps (s.resvRegister m crkey nrkey) := by
  unfold State.resvRegister
  with_reducible repeat'
    first
    | assumption | apply State.complete_ok | apply State.putNs_ok | apply State.resvNotices_ok | apply State.ite_ok
    | (extract_lets +onlyGivenNames x; refine (fun hx => ?_ : State.Ok ps x → _) ?_; rotate_left; unfold x; clear x; rotate_right; clear_value x)
    | split

theorem execReservationRegister_ok (ctrl : Nat) (sq : Nat) (cid : Nat) (crkey : Nat) (nrkey : Nat) (s : State) (hs : State.Ok ps s) :
    Outcome.Ok ps (execReservationRegister ctrl sq cid crkey nrkey s) := by
  unfold execReservationRegister
  with_reducible repeat'
    first
    | assumption | apply Outcome.ok_next | intro _ | apply State.whileLive_ok | apply State.ioStart_ok | apply State.resvRegister_ok

theorem State.resvPreempt_ok (s : State) (m : Cmd) (n : Namespace) (pr : Nat) (rt : Nat) (abort : Bool) (hs : State.Ok ps s) :
    State.Ok ps (s.resvPreempt m n pr rt abort) := by
  unfold State.resvPreempt
  with_reducible repeat'
    first
    | assumption | intro _ | apply State.complete_ok | apply State.each_ok | apply State.putNs_ok | apply State.resvNotice_ok
    | apply State.resvNotices_ok | apply State.endCmds_ok | apply State.ite_ok

theorem State.resvAcquire_ok (s : State) (m : Cmd) (crkey : Nat) (prkey : Nat) (hs : State.Ok ps s) :
    State.Ok ps (s.resvAcquire m crkey prkey) := by
  unfold State.resvAcquire
  with_reducible repeat'
    first
    | assumption | apply State.complete_ok | apply State.putNs_ok | apply State.resvPreempt_ok | apply State.ite_ok | split

theorem execReservationAcquire_ok (ctrl : Nat) (sq : Nat) (cid : Nat) (crkey : Nat) (prkey : Nat) (s : State) (hs : State.Ok ps s) :
    Outcome.Ok ps (execReservationAcquire ctrl sq cid crkey prkey s) := by
  unfold execReservationAcquire
  with_reducible repeat'
    first
    | assumption | apply Outcome.ok_next | intro _ | apply State.whileLive_ok | apply State.ioStart_ok | apply State.resvAcquire_ok

theorem State.resvRelease_ok (s : State) (m : Cmd) (crkey : Nat) (hs : State.Ok ps s) :
    State.Ok ps (s.resvRelease m crkey) := by
  unfold State.resvRelease
  with_reducible repeat'
    first
    | assumption | apply State.complete_ok | apply State.putNs_ok | apply State.resvNotices_ok | apply State.ite_ok | split

theorem execReservationRelease_ok (ctrl : Nat) (sq : Nat) (cid : Nat) (crkey : Nat) (s : State) (hs : State.Ok ps s) :
    Outcome.Ok ps (execReservationRelease ctrl sq cid crkey s) := by
  unfold execReservationRelease
  with_reducible repeat'
    first
    | assumption | apply Outcome.ok_next | intro _ | apply State.whileLive_ok | apply State.ioStart_ok | apply State.resvRelease_ok

theorem State.resvReport_ok (s : State) (m : Cmd) (hs : State.Ok ps s) :
    State.Ok ps (s.resvReport m) := by
  unfold State.resvReport
  with_reducible repeat' first | assumption | apply State.complete_ok | apply State.hostWrite_ok | split

theorem execReservationReport_ok (ctrl : Nat) (sq : Nat) (cid : Nat) (s : State) (hs : State.Ok ps s) :
    Outcome.Ok ps (execReservationReport ctrl sq cid s) := by
  unfold execReservationReport
  with_reducible repeat'
    first
    | assumption | apply Outcome.ok_next | intro _ | apply State.whileLive_ok | apply State.ioStart_ok | apply State.resvReport_ok

theorem State.zoneAction_ok (s : State) (m : Cmd) (all : Nat → Bool) (ok : Nat → Bool) (idle : Nat → Bool)
    (act : State → Namespace → Nat → State) (hs : State.Ok ps s) (h6 : ∀ y0 y1 y2, State.Ok ps y0 → State.Ok ps (act y0 y1 y2)) :
    State.Ok ps (s.zoneAction m all ok idle act) := by
  unfold State.zoneAction
  with_reducible repeat'
    first
    | assumption | intro _ | apply h6 | apply State.complete_ok | apply State.each_ok | apply State.begin_ok | apply State.ite_ok
    | split

theorem State.zoneSend_ok (s : State) (c : Nat) (q : Nat) (cid : Nat) (a : Nat) (f : State → Cmd → State) (hs : State.Ok ps s)
    (h6 : ∀ y0 y1, State.Ok ps y0 → State.Ok ps (f y0 y1)) :
    State.Ok ps (s.zoneSend c q cid a f) := by
  unfold State.zoneSend
  with_reducible repeat' first | assumption | intro _ | apply h6 | apply State.ioStart_ok | apply State.ite_ok

theorem execZoneClose_ok (ctrl : Nat) (sq : Nat) (cid : Nat) (s : State) (hs : State.Ok ps s) :
    Outcome.Ok ps (execZoneClose ctrl sq cid s) := by
  unfold execZoneClose
  with_reducible repeat'
    first
    | assumption | apply Outcome.ok_next | intro _ | apply State.whileLive_ok | apply State.zoneSend_ok | apply State.zoneAction_ok
    | apply State.zoneRecord_ok

theorem State.zoneFinish_ok (s : State) (m : Cmd) (n : Namespace) (z : Nat) (hs : State.Ok ps s) :
    State.Ok ps (s.zoneFinish m n z) := by
  unfold State.zoneFinish
  with_reducible repeat'
    first
    | assumption | intro _ | apply State.zoneRecord_ok | apply State.when_ok | apply State.bandRecords_ok | apply State.modBandSet_ok

theorem execZoneFinish_ok (ctrl : Nat) (sq : Nat) (cid : Nat) (s : State) (hs : State.Ok ps s) :
    Outcome.Ok ps (execZoneFinish ctrl sq cid s) := by
  unfold execZoneFinish
  with_reducible repeat'
    first
    | assumption | apply Outcome.ok_next | intro _ | apply State.whileLive_ok | apply State.zoneSend_ok | apply State.zoneAction_ok
    | apply State.zoneFinish_ok

theorem State.zoneOpenCmd_ok (s : State) (m : Cmd) (hs : State.Ok ps s) :
    State.Ok ps (s.zoneOpenCmd m) := by
  unfold State.zoneOpenCmd
  with_reducible repeat'
    first
    | assumption | intro _ | apply State.complete_ok | apply State.zoneAction_ok | apply State.zoneRecord_ok | apply State.ite_ok
    | split

theorem execZoneOpen_ok (ctrl : Nat) (sq : Nat) (cid : Nat) (s : State) (hs : State.Ok ps s) :
    Outcome.Ok ps (execZoneOpen ctrl sq cid s) := by
  unfold execZoneOpen
  with_reducible repeat'
    first
    | assumption | apply Outcome.ok_next | intro _ | apply State.whileLive_ok | apply State.zoneSend_ok | apply State.zoneOpenCmd_ok

theorem State.zoneReset_ok (s : State) (m : Cmd) (n : Namespace) (z : Nat) (hs : State.Ok ps s) :
    State.Ok ps (s.zoneReset m n z) := by
  unfold State.zoneReset
  with_reducible repeat' first | assumption | apply State.jline_ok

theorem execZoneReset_ok (ctrl : Nat) (sq : Nat) (cid : Nat) (s : State) (hs : State.Ok ps s) :
    Outcome.Ok ps (execZoneReset ctrl sq cid s) := by
  unfold execZoneReset
  with_reducible repeat'
    first
    | assumption | apply Outcome.ok_next | intro _ | apply State.whileLive_ok | apply State.zoneSend_ok | apply State.zoneAction_ok
    | apply State.zoneReset_ok

theorem State.zoneReport_ok (s : State) (m : Cmd) (hs : State.Ok ps s) :
    State.Ok ps (s.zoneReport m) := by
  unfold State.zoneReport
  with_reducible repeat' first | assumption | apply State.complete_ok | apply State.hostWrite_ok | apply State.ite_ok | split

theorem execZoneMgmtReceive_ok (ctrl : Nat) (sq : Nat) (cid : Nat) (s : State) (hs : State.Ok ps s) :
    Outcome.Ok ps (execZoneMgmtReceive ctrl sq cid s) := by
  unfold execZoneMgmtReceive
  with_reducible repeat'
    first
    | assumption | apply Outcome.ok_next | intro _ | apply State.whileLive_ok | apply State.ioStart_ok | apply State.zoneReport_ok

theorem State.freeBytes_ok (x1 : Nat) (x2 : State) (hs : State.Ok ps x2) :
    State.Ok ps (State.freeBytes x1 x2).2 := by
  induction x1 generalizing x2 <;> unfold State.freeBytes
  with_reducible repeat' first | assumption | apply State.drawFree_ok | apply_assumption

theorem State.freeBytes_ok' {x1 : Nat} {x2 : State} {t : State} {b : List Byte} (e : State.freeBytes x1 x2 = (b, t))
    (hs : State.Ok ps x2) : State.Ok ps t := by
  have h := State.freeBytes_ok (ps := ps) x1 x2 hs
  rw [e] at h
  exact h

theorem State.logRead_ok (s : State) (c : Nat) (x3 : SqEntry) (hs : State.Ok ps s) :
    State.Ok ps (s.logRead c x3) := by
  unfold State.logRead
  with_reducible repeat'
    first
    | assumption | apply State.modCtrl_ok | apply State.modNvme_ok | apply State.pumpAer_ok | apply State.ite_ok

theorem State.adminStart_ok (s : State) (c : Nat) (cid : Nat) (opc : Nat) (f : State → Cmd → State) (hs : State.Ok ps s)
    (h5 : ∀ y0 y1, State.Ok ps y0 → State.Ok ps (f y0 y1)) :
    State.Ok ps (s.adminStart c cid opc f) := by
  unfold State.adminStart
  with_reducible repeat' first | assumption | apply h5 | apply State.ite_ok | split

theorem State.returned_ok (s : State) (m : Cmd) (data : List Byte) (hs : State.Ok ps s) :
    State.Ok ps (s.returned m data) := by
  unfold State.returned
  with_reducible repeat' first | assumption | apply State.finish_ok | apply State.hostWrite_ok

theorem State.deleteSq_ok (s : State) (m : Cmd) (hs : State.Ok ps s) :
    State.Ok ps (s.deleteSq m) := by
  unfold State.deleteSq
  with_reducible repeat'
    first
    | assumption | apply State.finish_ok | apply State.drainPump_ok | apply State.modNvme_ok | apply State.putSq_ok
    | apply State.begin_ok | apply State.ite_ok | (extract_lets +onlyGivenNames x; clear_value x) | split

theorem execDeleteIoSq_ok (ctrl : Nat) (cid : Nat) (s : State) (hs : State.Ok ps s) :
    Outcome.Ok ps (execDeleteIoSq ctrl cid s) := by
  unfold execDeleteIoSq
  with_reducible repeat'
    first
    | assumption | apply Outcome.ok_next | intro _ | apply State.whileLive_ok | apply State.adminStart_ok | apply State.deleteSq_ok

theorem State.createSq_ok (s : State) (m : Cmd) (hs : State.Ok ps s) :
    State.Ok ps (s.createSq m) := by
  unfold State.createSq
  with_reducible repeat' first | assumption | apply State.finish_ok | apply State.putSq_ok | split

theorem execCreateIoSq_ok (ctrl : Nat) (cid : Nat) (s : State) (hs : State.Ok ps s) :
    Outcome.Ok ps (execCreateIoSq ctrl cid s) := by
  unfold execCreateIoSq
  with_reducible repeat'
    first
    | assumption | apply Outcome.ok_next | intro _ | apply State.whileLive_ok | apply State.adminStart_ok | apply State.createSq_ok

theorem State.deleteCq_ok (s : State) (m : Cmd) (hs : State.Ok ps s) :
    State.Ok ps (s.deleteCq m) := by
  unfold State.deleteCq
  with_reducible repeat' first | assumption | apply State.finish_ok | apply State.putCq_ok | apply State.ite_ok

theorem execDeleteIoCq_ok (ctrl : Nat) (cid : Nat) (s : State) (hs : State.Ok ps s) :
    Outcome.Ok ps (execDeleteIoCq ctrl cid s) := by
  unfold execDeleteIoCq
  with_reducible repeat'
    first
    | assumption | apply Outcome.ok_next | intro _ | apply State.whileLive_ok | apply State.adminStart_ok | apply State.deleteCq_ok

theorem State.createCq_ok (s : State) (m : Cmd) (hs : State.Ok ps s) :
    State.Ok ps (s.createCq m) := by
  unfold State.createCq
  with_reducible repeat' first | assumption | apply State.finish_ok | apply State.putCq_ok | apply State.ite_ok

theorem execCreateIoCq_ok (ctrl : Nat) (cid : Nat) (s : State) (hs : State.Ok ps s) :
    Outcome.Ok ps (execCreateIoCq ctrl cid s) := by
  unfold execCreateIoCq
  with_reducible repeat'
    first
    | assumption | apply Outcome.ok_next | intro _ | apply State.whileLive_ok | apply State.adminStart_ok | apply State.createCq_ok

theorem State.identify_ok (s : State) (m : Cmd) (hs : State.Ok ps s) :
    State.Ok ps (s.identify m) := by
  unfold State.identify
  with_reducible repeat' first | assumption | apply State.returned_ok | apply State.finish_ok | split

theorem execIdentify_ok (ctrl : Nat) (cid : Nat) (s : State) (hs : State.Ok ps s) :
    Outcome.Ok ps (execIdentify ctrl cid s) := by
  unfold execIdentify
  with_reducible repeat'
    first
    | assumption | apply Outcome.ok_next | intro _ | apply State.whileLive_ok | apply State.adminStart_ok | apply State.identify_ok

theorem State.getLog_ok (s : State) (m : Cmd) (hs : State.Ok ps s) :
    State.Ok ps (s.getLog m) := by
  unfold State.getLog
  with_reducible repeat'
    first
    | assumption | apply State.freeBytes_ok | apply State.finish_ok | apply State.returned_ok | apply State.logRead_ok
    | apply State.ite_ok | split | dsimp only

theorem execGetLogPage_ok (ctrl : Nat) (cid : Nat) (s : State) (hs : State.Ok ps s) :
    Outcome.Ok ps (execGetLogPage ctrl cid s) := by
  unfold execGetLogPage
  with_reducible repeat'
    first
    | assumption | apply Outcome.ok_next | intro _ | apply State.whileLive_ok | apply State.adminStart_ok | apply State.getLog_ok

theorem State.abortCmd_ok (s : State) (k : Cmd) (hs : State.Ok ps s) :
    State.Ok ps (s.abortCmd k) := by
  unfold State.abortCmd
  with_reducible repeat'
    first
    | assumption | intro _ | apply State.modCtrl_ok | apply State.withdraw_ok | apply State.complete_ok | apply State.each_ok
    | apply State.cancelPfn_ok

theorem State.abortNamed_ok (s : State) (m : Cmd) (unfetched : Bool) (hs : State.Ok ps s) :
    State.Ok ps (s.abortNamed m unfetched) := by
  unfold State.abortNamed
  with_reducible repeat'
    first
    | assumption | apply State.finish_ok | apply State.abortCmd_ok | apply State.modCtrl_ok | apply State.ite_ok | split

theorem execAbort_ok (ctrl : Nat) (cid : Nat) (unfetched : Bool) (s : State) (hs : State.Ok ps s) :
    Outcome.Ok ps (execAbort ctrl cid unfetched s) := by
  unfold execAbort
  with_reducible repeat'
    first
    | assumption | apply Outcome.ok_next | intro _ | apply State.whileLive_ok | apply State.standbyStep_ok | apply State.adminStart_ok
    | apply State.abortNamed_ok

theorem State.featStart_ok (s : State) (c : Nat) (cid : Nat) (fid : Nat) (f : State → Cmd → State) (hs : State.Ok ps s)
    (h5 : ∀ y0 y1, State.Ok ps y0 → State.Ok ps (f y0 y1)) :
    State.Ok ps (s.featStart c cid fid f) := by
  unfold State.featStart
  with_reducible repeat' first | assumption | intro _ | apply h5 | apply State.adminStart_ok | apply State.ite_ok

theorem State.keep_ok (s : State) (m : Cmd) (sel : Nat) (v : Nat) (hs : State.Ok ps s) :
    State.Ok ps (s.keep m sel v) := by
  unfold State.keep
  with_reducible repeat' first | assumption | apply State.finish_ok | apply State.setFeature_ok

theorem execSetArbitration_ok (ctrl : Nat) (cid : Nat) (s : State) (hs : State.Ok ps s) :
    Outcome.Ok ps (execSetArbitration ctrl cid s) := by
  unfold execSetArbitration
  with_reducible repeat'
    first
    | assumption | apply Outcome.ok_next | intro _ | apply State.whileLive_ok | apply State.featStart_ok | apply State.keep_ok

theorem State.setPower_ok (s : State) (m : Cmd) (hs : State.Ok ps s) :
    State.Ok ps (s.setPower m) := by
  unfold State.setPower
  with_reducible repeat'
    first
    | assumption | intro _ | apply State.finish_ok | apply State.powerRequest_ok | apply State.each_ok | apply State.begin_ok
    | apply State.setFeature_ok | apply State.ite_ok

theorem execSetPowerManagement_ok (ctrl : Nat) (cid : Nat) (s : State) (hs : State.Ok ps s) :
    Outcome.Ok ps (execSetPowerManagement ctrl cid s) := by
  unfold execSetPowerManagement
  with_reducible repeat'
    first
    | assumption | apply Outcome.ok_next | intro _ | apply State.whileLive_ok | apply State.featStart_ok | apply State.setPower_ok

theorem State.setTemp_ok (s : State) (m : Cmd) (hs : State.Ok ps s) :
    State.Ok ps (s.setTemp m) := by
  unfold State.setTemp
  with_reducible repeat' first | assumption | apply State.finish_ok | apply State.keep_ok | apply State.ite_ok

theorem execSetTemperatureThreshold_ok (ctrl : Nat) (cid : Nat) (s : State) (hs : State.Ok ps s) :
    Outcome.Ok ps (execSetTemperatureThreshold ctrl cid s) := by
  unfold execSetTemperatureThreshold
  with_reducible repeat'
    first
    | assumption | apply Outcome.ok_next | intro _ | apply State.whileLive_ok | apply State.featStart_ok | apply State.setTemp_ok

theorem execSetErrorRecovery_ok (ctrl : Nat) (cid : Nat) (s : State) (hs : State.Ok ps s) :
    Outcome.Ok ps (execSetErrorRecovery ctrl cid s) := by
  unfold execSetErrorRecovery
  with_reducible repeat'
    first
    | assumption | apply Outcome.ok_next | intro _ | apply State.whileLive_ok | apply State.featStart_ok | apply State.finish_ok
    | apply State.keep_ok | apply State.ite_ok

theorem State.setQueues_ok (s : State) (m : Cmd) (hs : State.Ok ps s) :
    State.Ok ps (s.setQueues m) := by
  unfold State.setQueues
  with_reducible repeat' first | assumption | apply State.finish_ok | apply State.ite_ok

theorem execSetNumberOfQueues_ok (ctrl : Nat) (cid : Nat) (s : State) (hs : State.Ok ps s) :
    Outcome.Ok ps (execSetNumberOfQueues ctrl cid s) := by
  unfold execSetNumberOfQueues
  with_reducible repeat'
    first
    | assumption | apply Outcome.ok_next | intro _ | apply State.whileLive_ok | apply State.featStart_ok | apply State.setQueues_ok

theorem execSetInterruptCoalescing_ok (ctrl : Nat) (cid : Nat) (s : State) (hs : State.Ok ps s) :
    Outcome.Ok ps (execSetInterruptCoalescing ctrl cid s) := by
  unfold execSetInterruptCoalescing
  with_reducible repeat'
    first
    | assumption | apply Outcome.ok_next | intro _ | apply State.whileLive_ok | apply State.featStart_ok | apply State.keep_ok

theorem execSetInterruptVectorConfig_ok (ctrl : Nat) (cid : Nat) (s : State) (hs : State.Ok ps s) :
    Outcome.Ok ps (execSetInterruptVectorConfig ctrl cid s) := by
  unfold execSetInterruptVectorConfig
  with_reducible repeat'
    first
    | assumption | apply Outcome.ok_next | intro _ | apply State.whileLive_ok | apply State.featStart_ok | apply State.finish_ok
    | apply State.keep_ok | apply State.ite_ok

theorem execSetWriteAtomicity_ok (ctrl : Nat) (cid : Nat) (s : State) (hs : State.Ok ps s) :
    Outcome.Ok ps (execSetWriteAtomicity ctrl cid s) := by
  unfold execSetWriteAtomicity
  with_reducible repeat'
    first
    | assumption | apply Outcome.ok_next | intro _ | apply State.whileLive_ok | apply State.featStart_ok | apply State.keep_ok

theorem execSetAsyncEventConfig_ok (ctrl : Nat) (cid : Nat) (s : State) (hs : State.Ok ps s) :
    Outcome.Ok ps (execSetAsyncEventConfig ctrl cid s) := by
  unfold execSetAsyncEventConfig
  with_reducible repeat'
    first
    | assumption | apply Outcome.ok_next | intro _ | apply State.whileLive_ok | apply State.featStart_ok | apply State.keep_ok

theorem State.setTime_ok (s : State) (m : Cmd) (ms : Nat) (hs : State.Ok ps s) :
    State.Ok ps (s.setTime m ms) := by
  unfold State.setTime
  with_reducible repeat' first | assumption | apply State.finish_ok | apply State.record_ok | apply State.modNvme_ok

theorem execSetTimestamp_ok (ctrl : Nat) (cid : Nat) (ms : Nat) (s : State) (hs : State.Ok ps s) :
    Outcome.Ok ps (execSetTimestamp ctrl cid ms s) := by
  unfold execSetTimestamp
  with_reducible repeat'
    first
    | assumption | apply Outcome.ok_next | intro _ | apply State.whileLive_ok | apply State.featStart_ok | apply State.setTime_ok

theorem State.nsFeature_ok (s : State) (m : Cmd) (f : State → List Nat → State) (hs : State.Ok ps s)
    (h3 : ∀ y0 y1, State.Ok ps y0 → State.Ok ps (f y0 y1)) :
    State.Ok ps (s.nsFeature m f) := by
  unfold State.nsFeature
  with_reducible repeat' first | assumption | apply h3 | apply State.finish_ok | apply State.ite_ok | split

theorem execSetReservationNotifyMask_ok (ctrl : Nat) (cid : Nat) (s : State) (hs : State.Ok ps s) :
    Outcome.Ok ps (execSetReservationNotifyMask ctrl cid s) := by
  unfold execSetReservationNotifyMask
  with_reducible repeat'
    first
    | assumption | apply Outcome.ok_next | intro _ | apply State.whileLive_ok | apply State.featStart_ok | apply State.nsFeature_ok
    | apply State.finish_ok | apply State.each_ok | apply State.setFeature_ok

theorem execSetReservationPersistence_ok (ctrl : Nat) (cid : Nat) (s : State) (hs : State.Ok ps s) :
    Outcome.Ok ps (execSetReservationPersistence ctrl cid s) := by
  unfold execSetReservationPersistence
  with_reducible repeat'
    first
    | assumption | apply Outcome.ok_next | intro _ | apply State.whileLive_ok | apply State.featStart_ok | apply State.nsFeature_ok
    | apply State.finish_ok

theorem State.setOrdering_ok (s : State) (m : Cmd) (hs : State.Ok ps s) :
    State.Ok ps (s.setOrdering m) := by
  unfold State.setOrdering
  with_reducible repeat' first | assumption | apply State.finish_ok | apply State.modCtrl_ok | apply State.ite_ok

theorem execSetQueueOrdering_ok (ctrl : Nat) (cid : Nat) (s : State) (hs : State.Ok ps s) :
    Outcome.Ok ps (execSetQueueOrdering ctrl cid s) := by
  unfold execSetQueueOrdering
  with_reducible repeat'
    first
    | assumption | apply Outcome.ok_next | intro _ | apply State.whileLive_ok | apply State.featStart_ok | apply State.setOrdering_ok

theorem State.setStreaming_ok (s : State) (en : Bool) (hs : State.Ok ps s) :
    State.Ok ps (s.setStreaming en) := by
  unfold State.setStreaming
  with_reducible repeat'
    first
    | assumption | apply State.modSp_ok | apply State.modNvme_ok | apply State.setFld_ok | apply State.adoptMapped_ok
    | apply State.setTarget_ok | apply State.clrBit_ok | apply State.ite_ok

theorem execSetStreamingMode_ok (ctrl : Nat) (cid : Nat) (s : State) (hs : State.Ok ps s) :
    Outcome.Ok ps (execSetStreamingMode ctrl cid s) := by
  unfold execSetStreamingMode
  with_reducible repeat'
    first
    | assumption | apply Outcome.ok_next | intro _ | apply State.whileLive_ok | apply State.featStart_ok | apply State.finish_ok
    | apply State.setStreaming_ok | apply State.ite_ok

theorem State.getFeature_ok (s : State) (m : Cmd) (hs : State.Ok ps s) :
    State.Ok ps (s.getFeature m) := by
  unfold State.getFeature
  with_reducible repeat' first | assumption | apply State.finish_ok | apply State.hostWrite_ok | apply State.ite_ok | split

theorem execGetFeatures_ok (ctrl : Nat) (cid : Nat) (s : State) (hs : State.Ok ps s) :
    Outcome.Ok ps (execGetFeatures ctrl cid s) := by
  unfold execGetFeatures
  with_reducible repeat'
    first
    | assumption | apply Outcome.ok_next | intro _ | apply State.whileLive_ok | apply State.adminStart_ok | apply State.getFeature_ok

theorem State.asyncRequest_ok (s : State) (m : Cmd) (hs : State.Ok ps s) :
    State.Ok ps (s.asyncRequest m) := by
  unfold State.asyncRequest
  with_reducible repeat'
    first
    | assumption | apply State.finish_ok | apply State.pumpAer_ok | apply State.modCtrl_ok | apply State.begin_ok | apply State.ite_ok

theorem execAsyncEventRequest_ok (ctrl : Nat) (cid : Nat) (s : State) (hs : State.Ok ps s) :
    Outcome.Ok ps (execAsyncEventRequest ctrl cid s) := by
  unfold execAsyncEventRequest
  with_reducible repeat'
    first
    | assumption | apply Outcome.ok_next | intro _ | apply State.whileLive_ok | apply State.adminStart_ok | apply State.asyncRequest_ok

theorem State.createNs_ok (s : State) (m : Cmd) (nsze : Nat) (ncap : Nat) (flbas : Nat) (hs : State.Ok ps s) :
    State.Ok ps (s.createNs m nsze ncap flbas) := by
  unfold State.createNs
  with_reducible repeat'
    first
    | assumption | apply State.finish_ok | apply State.modMap_ok | apply State.putNs_ok | apply State.ite_ok
    | (extract_lets +onlyGivenNames x; clear_value x) | split

theorem execNamespaceCreate_ok (ctrl : Nat) (cid : Nat) (nsze : Nat) (ncap : Nat) (flbas : Nat) (s : State) (hs : State.Ok ps s) :
    Outcome.Ok ps (execNamespaceCreate ctrl cid nsze ncap flbas s) := by
  unfold execNamespaceCreate
  with_reducible repeat'
    first
    | assumption | apply Outcome.ok_next | intro _ | apply State.whileLive_ok | apply State.adminStart_ok | apply State.createNs_ok
    | apply State.ite_ok

theorem State.deleteNs_ok (s : State) (m : Cmd) (hs : State.Ok ps s) :
    State.Ok ps (s.deleteNs m) := by
  unfold State.deleteNs
  with_reducible repeat'
    first
    | assumption | intro _ | apply State.finish_ok | apply State.each_ok | apply State.begin_ok | apply State.modNvme_ok
    | apply State.putNs_ok | apply State.drainPump_ok | apply State.ite_ok | split

theorem execNamespaceDelete_ok (ctrl : Nat) (cid : Nat) (s : State) (hs : State.Ok ps s) :
    Outcome.Ok ps (execNamespaceDelete ctrl cid s) := by
  unfold execNamespaceDelete
  with_reducible repeat'
    first
    | assumption | apply Outcome.ok_next | intro _ | apply State.whileLive_ok | apply State.adminStart_ok | apply State.deleteNs_ok
    | apply State.ite_ok

theorem State.attachNs_ok (s : State) (m : Cmd) (ids : List Nat) (hs : State.Ok ps s) :
    State.Ok ps (s.attachNs m ids) := by
  unfold State.attachNs
  with_reducible repeat'
    first
    | assumption | intro _ | apply State.finish_ok | apply State.each_ok | apply State.nsChanged_ok | apply State.modCtrl_ok
    | apply State.ite_ok | split

theorem execNamespaceAttach_ok (ctrl : Nat) (cid : Nat) (ids : List Nat) (s : State) (hs : State.Ok ps s) :
    Outcome.Ok ps (execNamespaceAttach ctrl cid ids s) := by
  unfold execNamespaceAttach
  with_reducible repeat'
    first
    | assumption | apply Outcome.ok_next | intro _ | apply State.whileLive_ok | apply State.adminStart_ok | apply State.attachNs_ok
    | apply State.ite_ok

theorem State.detachNs_ok (s : State) (m : Cmd) (ids : List Nat) (hs : State.Ok ps s) :
    State.Ok ps (s.detachNs m ids) := by
  unfold State.detachNs
  with_reducible repeat'
    first
    | assumption | apply State.finish_ok | apply State.drainPump_ok | apply State.modNvme_ok | apply State.begin_ok
    | apply State.ite_ok | split

theorem execNamespaceDetach_ok (ctrl : Nat) (cid : Nat) (ids : List Nat) (s : State) (hs : State.Ok ps s) :
    Outcome.Ok ps (execNamespaceDetach ctrl cid ids s) := by
  unfold execNamespaceDetach
  with_reducible repeat'
    first
    | assumption | apply Outcome.ok_next | intro _ | apply State.whileLive_ok | apply State.adminStart_ok | apply State.detachNs_ok
    | apply State.ite_ok

theorem State.selfTestStart_ok (s : State) (m : Cmd) (k : Nat) (hs : State.Ok ps s) :
    State.Ok ps (s.selfTestStart m k) := by
  unfold State.selfTestStart
  with_reducible repeat' first | assumption | apply State.finish_ok | apply State.modNvme_ok | apply State.ite_ok

theorem State.selfTestSegment_ok (s : State) (k : Nat) (third : Nat) (ok : Bool) (lba : Nat) (hs : State.Ok ps s) :
    State.Ok ps (s.selfTestSegment k third ok lba) := by
  unfold State.selfTestSegment
  with_reducible repeat' first | assumption | apply State.selfTestEnd_ok | apply State.modNvme_ok | apply State.ite_ok | split

theorem execSelfTestShort_ok (ctrl : Nat) (cid : Nat) (seg : Option (Bool × Nat)) (s : State) (hs : State.Ok ps s) :
    Outcome.Ok ps (execSelfTestShort ctrl cid seg s) := by
  unfold execSelfTestShort
  with_reducible repeat'
    first
    | assumption | apply Outcome.ok_next | intro _ | apply State.whileLive_ok | apply State.selfTestSegment_ok
    | apply State.adminStart_ok | apply State.selfTestStart_ok | apply State.ite_ok | split

theorem execSelfTestExtended_ok (ctrl : Nat) (cid : Nat) (seg : Option (Bool × Nat)) (s : State) (hs : State.Ok ps s) :
    Outcome.Ok ps (execSelfTestExtended ctrl cid seg s) := by
  unfold execSelfTestExtended
  with_reducible repeat'
    first
    | assumption | apply Outcome.ok_next | intro _ | apply State.whileLive_ok | apply State.selfTestSegment_ok
    | apply State.adminStart_ok | apply State.selfTestStart_ok | apply State.ite_ok | split

theorem State.selfTestStop_ok (s : State) (m : Cmd) (hs : State.Ok ps s) :
    State.Ok ps (s.selfTestStop m) := by
  unfold State.selfTestStop
  with_reducible repeat' first | assumption | apply State.finish_ok | apply State.selfTestEnd_ok | split

theorem execSelfTestAbort_ok (ctrl : Nat) (cid : Nat) (s : State) (hs : State.Ok ps s) :
    Outcome.Ok ps (execSelfTestAbort ctrl cid s) := by
  unfold execSelfTestAbort
  with_reducible repeat'
    first
    | assumption | apply Outcome.ok_next | intro _ | apply State.whileLive_ok | apply State.adminStart_ok | apply State.selfTestStop_ok
    | apply State.ite_ok

theorem State.formatNs_ok (s : State) (m : Cmd) (hs : State.Ok ps s) :
    State.Ok ps (s.formatNs m) := by
  unfold State.formatNs
  with_reducible repeat'
    first
    | assumption | intro _ | apply State.finish_ok | apply State.each_ok | apply State.begin_ok | apply State.jline_ok
    | apply State.zoneRecord_ok | apply State.ite_ok
    | (extract_lets +onlyGivenNames x; refine (fun hx => ?_ : State.Ok ps x → _) ?_; rotate_left; unfold x; clear x; rotate_right; clear_value x)
    | split

theorem execFormatNvm_ok (ctrl : Nat) (cid : Nat) (s : State) (hs : State.Ok ps s) :
    Outcome.Ok ps (execFormatNvm ctrl cid s) := by
  unfold execFormatNvm
  with_reducible repeat'
    first
    | assumption | apply Outcome.ok_next | intro _ | apply State.whileLive_ok | apply State.adminStart_ok | apply State.formatNs_ok

theorem State.fwDownload_ok (s : State) (m : Cmd) (data : List Byte) (hs : State.Ok ps s) :
    State.Ok ps (s.fwDownload m data) := by
  unfold State.fwDownload
  with_reducible repeat' first | assumption | apply State.finish_ok | apply State.modNvme_ok | apply State.ite_ok

theorem execFirmwareDownload_ok (ctrl : Nat) (cid : Nat) (data : List Byte) (s : State) (hs : State.Ok ps s) :
    Outcome.Ok ps (execFirmwareDownload ctrl cid data s) := by
  unfold execFirmwareDownload
  with_reducible repeat'
    first
    | assumption | apply Outcome.ok_next | intro _ | apply State.whileLive_ok | apply State.adminStart_ok | apply State.fwDownload_ok

theorem State.flashStart_ok (s : State) (x2 : FwStore) (hs : State.Ok ps s) :
    State.Ok ps (s.flashStart x2) := by
  unfold State.flashStart
  with_reducible repeat'
    first
    | assumption | apply State.modFlashPatch_ok | apply State.modNv_ok | apply State.modNvme_ok | apply State.ite_ok

theorem State.commitBundle_ok (s : State) (m : Cmd) (a : Nat) (hs : State.Ok ps s) :
    State.Ok ps (s.commitBundle m a) := by
  unfold State.commitBundle
  with_reducible repeat'
    first
    | assumption | apply State.finish_ok | apply State.ptRefuse_ok | apply State.flashStart_ok | apply State.begin_ok
    | apply State.takeDown_ok | apply State.modFabric_ok | apply State.ite_ok | (extract_lets +onlyGivenNames x; clear_value x) | split

theorem State.commitAccord_ok (s : State) (m : Cmd) (a : Nat) (hs : State.Ok ps s) :
    State.Ok ps (s.commitAccord m a) := by
  unfold State.commitAccord
  with_reducible repeat' first | assumption | apply State.finish_ok | apply State.acStart_ok | apply State.begin_ok | apply State.ite_ok

theorem State.commitArea_ok (s : State) (m : Cmd) (hs : State.Ok ps s) :
    State.Ok ps (s.commitArea m) := by
  unfold State.commitArea
  with_reducible repeat'
    first
    | assumption | apply State.finish_ok | apply State.flashStart_ok | apply State.begin_ok | apply State.ite_ok

theorem State.commit_ok (s : State) (c : Nat) (cid : Nat) (a : Nat) (f2 : State → Cmd → State) (f7 : State → Cmd → State)
    (hs : State.Ok ps s) (h5 : ∀ y0 y1, State.Ok ps y0 → State.Ok ps (f2 y0 y1)) (h6 : ∀ y0 y1, State.Ok ps y0 → State.Ok ps (f7 y0 y1)) :
    State.Ok ps (s.commit c cid a f2 f7) := by
  unfold State.commit
  with_reducible repeat'
    first
    | assumption | intro _ | apply h5 | apply h6 | apply State.adminStart_ok | apply State.commitArea_ok | apply State.finish_ok
    | apply State.ite_ok

theorem execFirmwareCommitStore_ok (ctrl : Nat) (cid : Nat) (s : State) (hs : State.Ok ps s) :
    Outcome.Ok ps (execFirmwareCommitStore ctrl cid s) := by
  unfold execFirmwareCommitStore
  with_reducible repeat'
    first
    | assumption | apply Outcome.ok_next | intro _ | apply State.whileLive_ok | apply State.commit_ok | apply State.commitBundle_ok
    | apply State.commitAccord_ok

theorem execFirmwareCommitStoreActivate_ok (ctrl : Nat) (cid : Nat) (s : State) (hs : State.Ok ps s) :
    Outcome.Ok ps (execFirmwareCommitStoreActivate ctrl cid s) := by
  unfold execFirmwareCommitStoreActivate
  with_reducible repeat'
    first
    | assumption | apply Outcome.ok_next | intro _ | apply State.whileLive_ok | apply State.commit_ok | apply State.commitBundle_ok
    | apply State.commitAccord_ok

theorem State.setActivate_ok (s : State) (m : Cmd) (hs : State.Ok ps s) :
    State.Ok ps (s.setActivate m) := by
  unfold State.setActivate
  with_reducible repeat' first | assumption | apply State.finish_ok | apply State.ptMark_ok | split

theorem State.accordPending_ok (s : State) (m : Cmd) (hs : State.Ok ps s) :
    State.Ok ps (s.accordPending m) := by
  unfold State.accordPending
  with_reducible repeat' first | assumption | apply State.finish_ok

theorem execFirmwareCommitSetActivate_ok (ctrl : Nat) (cid : Nat) (s : State) (hs : State.Ok ps s) :
    Outcome.Ok ps (execFirmwareCommitSetActivate ctrl cid s) := by
  unfold execFirmwareCommitSetActivate
  with_reducible repeat'
    first
    | assumption | apply Outcome.ok_next | intro _ | apply State.whileLive_ok | apply State.commit_ok | apply State.setActivate_ok
    | apply State.accordPending_ok

theorem execFirmwareCommitImmediate_ok (ctrl : Nat) (cid : Nat) (s : State) (hs : State.Ok ps s) :
    Outcome.Ok ps (execFirmwareCommitImmediate ctrl cid s) := by
  unfold execFirmwareCommitImmediate
  with_reducible repeat'
    first
    | assumption | apply Outcome.ok_next | intro _ | apply State.whileLive_ok | apply State.standbyStep_ok | apply State.commit_ok
    | apply State.commitBundle_ok | apply State.commitAccord_ok

theorem State.activate_ok (s : State) (c : Nat) (cid : Nat) (k : Nat) (hs : State.Ok ps s) :
    State.Ok ps (s.activate c cid k) := by
  unfold State.activate
  with_reducible repeat'
    first
    | assumption | intro _ | apply State.modNvme_ok | apply State.each_ok | apply State.aerActivation_ok | apply State.modCtrl_ok

theorem State.activationEnd_ok (s : State) (st : NvStatus) (hs : State.Ok ps s) :
    State.Ok ps (s.activationEnd st) := by
  unfold State.activationEnd
  with_reducible repeat'
    first
    | assumption | intro _ | apply State.modNvme_ok | apply State.each_ok | apply State.modCtrl_ok | apply State.finish_ok
    | (extract_lets +onlyGivenNames x; refine (fun hx => ?_ : State.Ok ps x → _) ?_; rotate_left; unfold x; clear x; rotate_right; clear_value x)
    | split

theorem State.activationDrained_ok (s : State) (hs : State.Ok ps s) :
    State.Ok ps (s.activationDrained) := by
  unfold State.activationDrained
  with_reducible repeat'
    first
    | assumption | intro _ | apply State.endCmds_ok | apply State.each_ok | apply State.cancelPfn_ok | apply State.modNvme_ok
    | apply State.modFabric_ok | apply State.stageBundle_ok | apply State.ite_ok | split

theorem execActivationDrainTimeout_ok (s : State) (hs : State.Ok ps s) :
    Outcome.Ok ps (execActivationDrainTimeout s) := by
  unfold execActivationDrainTimeout
  with_reducible repeat'
    first
    | assumption | apply Outcome.ok_next | intro _ | apply State.whileLive_ok | apply State.standbyStep_ok
    | apply State.activationDrained_ok

theorem State.bundleWritten_ok (s : State) (ok : Bool) (hs : State.Ok ps s) :
    State.Ok ps (s.bundleWritten ok) := by
  unfold State.bundleWritten
  with_reducible repeat'
    first
    | assumption | apply State.modNvme_ok | apply State.finish_ok | apply State.modFlashPatch_ok | apply State.activate_ok
    | apply State.ite_ok
    | (extract_lets +onlyGivenNames x; refine (fun hx => ?_ : State.Ok ps x → _) ?_; rotate_left; unfold x; clear x; rotate_right; clear_value x)
    | split

theorem execBundleStoreWritten_ok (ok : Bool) (s : State) (hs : State.Ok ps s) :
    Outcome.Ok ps (execBundleStoreWritten ok s) := by
  unfold execBundleStoreWritten
  with_reducible repeat' first | assumption | apply Outcome.ok_next | intro _ | apply State.whileLive_ok | apply State.bundleWritten_ok

theorem State.areaWritten_ok (s : State) (ok : Bool) (hs : State.Ok ps s) :
    State.Ok ps (s.areaWritten ok) := by
  unfold State.areaWritten
  with_reducible repeat'
    first
    | assumption | apply State.modNvme_ok | apply State.modNv_ok | apply State.finish_ok | apply State.ite_ok
    | (extract_lets +onlyGivenNames x; refine (fun hx => ?_ : State.Ok ps x → _) ?_; rotate_left; unfold x; clear x; rotate_right; clear_value x)
    | split

theorem execKeyAreaWritten_ok (ok : Bool) (s : State) (hs : State.Ok ps s) :
    Outcome.Ok ps (execKeyAreaWritten ok s) := by
  unfold execKeyAreaWritten
  with_reducible repeat' first | assumption | apply Outcome.ok_next | intro _ | apply State.whileLive_ok | apply State.areaWritten_ok

end Sys2Proof.Machine
end

