-- ==== Sys2Proof/Laws/KeepFabric.lean ====
section
/-! SUPPORT. Every operation and every meaning keeps the queue and the canonical form of the stores (`State.Ok`):
memories, helpers, movers, pool messages and the rails.
Each lemma follows the steps of its definition, with the lemmas of what that calls. -/
namespace Sys2Proof.Machine

variable {ps : List Instr}

theorem State.fillDone_ok (s : State) (hs : State.Ok ps s) :
    State.Ok ps (s.fillDone) := by
  unfold State.fillDone
  with_reducible repeat'
    first
    | assumption | apply State.setBit_ok | apply State.ptBoot_ok | refine State.modMem_wf_ok _ (fun m hm => MemSt.wf_filled m hm) ?_
    | apply State.ite_ok

theorem execHbmFillDone_ok (s : State) (hs : State.Ok ps s) :
    Outcome.Ok ps (execHbmFillDone s) := by
  unfold execHbmFillDone
  with_reducible repeat' first | assumption | apply Outcome.ok_next | apply State.whileLive_ok | apply State.fillDone_ok

theorem State.padPut_ok (s : State) (tgt : Nat) (idx : Nat) (c : Code80) (hs : State.Ok ps s) :
    State.Ok ps (s.padPut tgt idx c) := by
  unfold State.padPut
  with_reducible repeat'
    first
    | assumption | apply State.putWord_ok | refine State.modMem_wf_ok _ (fun m hm => MemSt.wf_pad m _ _ hm) ?_ | split

theorem State.padNote_ok (s : State) (tgt : Nat) (idx : Nat) (d : Decoded) (hs : State.Ok ps s) :
    State.Ok ps (s.padNote tgt idx d) := by
  unfold State.padNote
  with_reducible repeat' first | assumption | apply State.eccNote_ok | apply State.caNote_ok | split

theorem State.setBltData_ok (s : State) (v : Nat) (hs : State.Ok ps s) :
    State.Ok ps (s.setBltData v) := by
  unfold State.setBltData
  with_reducible repeat' first | assumption | apply State.setFld_ok

theorem State.bltRun_ok (s : State) (op : Nat) (tgt : Nat) (idx : Nat) (hs : State.Ok ps s) :
    State.Ok ps (s.bltRun op tgt idx) := by
  unfold State.bltRun
  with_reducible repeat'
    first
    | assumption | apply State.padPut_ok | apply State.setFld_ok | apply State.setBltData_ok | apply State.padNote_ok | split

theorem State.bltWrite_ok (s : State) (w : Word32) (hs : State.Ok ps s) :
    State.Ok ps (s.bltWrite w) := by
  unfold State.bltWrite
  with_reducible repeat'
    first
    | assumption | intro _ | apply State.when_ok | apply State.clrBit_ok | apply State.setFld_ok | apply State.setBit_ok
    | apply State.bltRun_ok | refine State.modMem_ok _ (fun _ => ⟨rfl, rfl, rfl, rfl⟩) ?_ | apply State.ite_ok

theorem execBlotterRawWrite_ok (w : Word32) (s : State) (hs : State.Ok ps s) :
    Outcome.Ok ps (execBlotterRawWrite w s) := by
  unfold execBlotterRawWrite
  with_reducible repeat' first | assumption | apply Outcome.ok_next | intro _ | apply State.whileLive_ok | apply State.bltWrite_ok

theorem execBlotterRawRead_ok (w : Word32) (s : State) (hs : State.Ok ps s) :
    Outcome.Ok ps (execBlotterRawRead w s) := by
  unfold execBlotterRawRead
  with_reducible repeat' first | assumption | apply Outcome.ok_next | intro _ | apply State.whileLive_ok | apply State.bltWrite_ok

theorem execBlotterCheckedRead_ok (w : Word32) (s : State) (hs : State.Ok ps s) :
    Outcome.Ok ps (execBlotterCheckedRead w s) := by
  unfold execBlotterCheckedRead
  with_reducible repeat' first | assumption | apply Outcome.ok_next | intro _ | apply State.whileLive_ok | apply State.bltWrite_ok

theorem execBlotterCheckedWrite_ok (w : Word32) (s : State) (hs : State.Ok ps s) :
    Outcome.Ok ps (execBlotterCheckedWrite w s) := by
  unfold execBlotterCheckedWrite
  with_reducible repeat' first | assumption | apply Outcome.ok_next | intro _ | apply State.whileLive_ok | apply State.bltWrite_ok

theorem State.bltDone_ok (s : State) (hs : State.Ok ps s) :
    State.Ok ps (s.bltDone) := by
  unfold State.bltDone
  with_reducible repeat' first | assumption | apply State.setBit_ok | refine State.modMem_ok _ (fun _ => ⟨rfl, rfl, rfl, rfl⟩) ?_ | split

theorem execBlotterOpComplete_ok (s : State) (hs : State.Ok ps s) :
    Outcome.Ok ps (execBlotterOpComplete s) := by
  unfold execBlotterOpComplete
  with_reducible repeat' first | assumption | apply Outcome.ok_next | apply State.whileLive_ok | apply State.bltDone_ok

theorem State.bltEnable_ok {p : List Instr} (x1 : State) (h1 : State.Ok p x1) : State.Ok p (State.bltEnable x1) := by
  unfold State.bltEnable
  split
  · exact h1
  · dsimp only
    apply State.setBit_ok
    apply State.setBit_ok
    split
    · refine State.modMem_wf_ok _ (fun m hm => ?_) (State.setLine_ok _ _ _ (State.when_ok _ _ h1 (fun t ht => State.writeBack_ok _ _ _ _ ht)))
      simp only [MemSt.wf, Bool.and_eq_true] at hm ⊢
      exact ⟨hm.1, SMap.wf_foldl_set _ _ _ _ _ hm.2⟩
    · exact h1

theorem State.bltDisable_ok (s : State) (hs : State.Ok ps s) :
    State.Ok ps (s.bltDisable) := by
  unfold State.bltDisable
  with_reducible repeat' first | assumption | apply State.setLine_ok | apply State.clrBit_ok

theorem State.fillArrives_ok (s : State) (la : Nat) (f : MemFaults) (hs : State.Ok ps s) :
    State.Ok ps (s.fillArrives la f) := by
  unfold State.fillArrives
  with_reducible repeat'
    first
    | assumption | apply State.memSettle_ok | apply State.cacheSettle_ok | apply State.fillCome_ok | apply State.ite_ok | split

theorem execCacheFillComplete_ok (la : Nat) (f : MemFaults) (s : State) (hs : State.Ok ps s) :
    Outcome.Ok ps (execCacheFillComplete la f s) := by
  unfold execCacheFillComplete
  with_reducible repeat' first | assumption | apply Outcome.ok_next | intro _ | apply State.whileLive_ok | apply State.fillArrives_ok

theorem State.prefetchArrives_ok (s : State) (la : Nat) (f : MemFaults) (hs : State.Ok ps s) :
    State.Ok ps (s.prefetchArrives la f) := by
  unfold State.prefetchArrives
  with_reducible repeat'
    first
    | assumption | intro _ | apply State.memSettle_ok | apply State.cacheSettle_ok | apply State.fillCome_ok | apply State.hbmNote_ok
    | apply State.modCache_ok | apply State.when_ok | apply State.bump_ok | apply State.cacheSync_ok | apply State.ite_ok
    | (extract_lets +onlyGivenNames x; refine (fun hx => ?_ : State.Ok ps x → _) ?_; rotate_left; unfold x; clear x; rotate_right; clear_value x)
    | split

theorem execPrefetchFillComplete_ok (la : Nat) (f : MemFaults) (s : State) (hs : State.Ok ps s) :
    Outcome.Ok ps (execPrefetchFillComplete la f s) := by
  unfold execPrefetchFillComplete
  with_reducible repeat' first | assumption | apply Outcome.ok_next | intro _ | apply State.whileLive_ok | apply State.prefetchArrives_ok

theorem State.evictionDone_ok (s : State) (la : Nat) (issued : List Nat) (f : MemFaults) (hs : State.Ok ps s) :
    State.Ok ps (s.evictionDone la issued f) := by
  unfold State.evictionDone
  with_reducible repeat' first | assumption | apply State.memSettle_ok | apply State.wbDone_ok | apply State.modCache_ok

theorem execEvictionWritebackComplete_ok (la : Nat) (issued : List Nat) (f : MemFaults) (s : State) (hs : State.Ok ps s) :
    Outcome.Ok ps (execEvictionWritebackComplete la issued f s) := by
  unfold execEvictionWritebackComplete
  with_reducible repeat' first | assumption | apply Outcome.ok_next | intro _ | apply State.whileLive_ok | apply State.evictionDone_ok

theorem State.invalidationDone_ok (s : State) (hs : State.Ok ps s) :
    State.Ok ps (s.invalidationDone) := by
  unfold State.invalidationDone
  with_reducible repeat' first | assumption | apply State.setBit_ok | apply State.cacheClear_ok | apply State.ite_ok

theorem execCacheInvalidationDone_ok (s : State) (hs : State.Ok ps s) :
    Outcome.Ok ps (execCacheInvalidationDone s) := by
  unfold execCacheInvalidationDone
  with_reducible repeat' first | assumption | apply Outcome.ok_next | apply State.whileLive_ok | apply State.invalidationDone_ok

theorem State.bootRole_ok (s : State) (h : Nat) (hs : State.Ok ps s) :
    State.Ok ps (s.bootRole h) := by
  unfold State.bootRole
  with_reducible repeat' first | assumption | apply State.schedSync_ok | apply State.assignRole_ok | apply State.ite_ok

theorem execHelperRoleAssignment_ok (h : Nat) (s : State) (hs : State.Ok ps s) :
    Outcome.Ok ps (execHelperRoleAssignment h s) := by
  unfold execHelperRoleAssignment
  with_reducible repeat' first | assumption | apply Outcome.ok_next | intro _ | apply State.whileLive_ok | apply State.bootRole_ok

theorem execHelperStart_ok (h : Nat) (s : State) (hs : State.Ok ps s) :
    Outcome.Ok ps (execHelperStart h s) := by
  unfold execHelperStart
  with_reducible repeat'
    first
    | assumption | apply Outcome.ok_next | intro _ | apply State.whileLive_ok | apply State.heStart_ok | apply State.ite_ok

theorem execHelperStopRequest_ok (h : Nat) (s : State) (hs : State.Ok ps s) :
    Outcome.Ok ps (execHelperStopRequest h s) := by
  unfold execHelperStopRequest
  with_reducible repeat'
    first
    | assumption | apply Outcome.ok_next | intro _ | apply State.whileLive_ok | apply State.heStopAsk_ok | apply State.ite_ok

theorem execHelperDrainDone_ok (h : Nat) (s : State) (hs : State.Ok ps s) :
    Outcome.Ok ps (execHelperDrainDone h s) := by
  unfold execHelperDrainDone
  with_reducible repeat'
    first
    | assumption | apply Outcome.ok_next | intro _ | apply State.whileLive_ok | apply State.heHaltAsk_ok | apply State.ite_ok

theorem State.heDrainOut_ok (s : State) (h : Nat) (mine : List (Nat × Nat)) (hs : State.Ok ps s) :
    State.Ok ps (s.heDrainOut h mine) := by
  unfold State.heDrainOut
  with_reducible repeat'
    first
    | assumption | intro _ | apply State.abortWork_ok | apply State.each_ok | apply State.killStripe_ok | apply State.heHaltAsk_ok
    | apply State.ite_ok

theorem execHelperDrainTimeout_ok (h : Nat) (mine : List (Nat × Nat)) (s : State) (hs : State.Ok ps s) :
    Outcome.Ok ps (execHelperDrainTimeout h mine s) := by
  unfold execHelperDrainTimeout
  with_reducible repeat' first | assumption | apply Outcome.ok_next | intro _ | apply State.whileLive_ok | apply State.heDrainOut_ok

theorem execHelperFault_ok (h : Nat) (cause : Nat) (space : Nat) (addr : Nat) (s : State) (hs : State.Ok ps s) :
    Outcome.Ok ps (execHelperFault h cause space addr s) := by
  unfold execHelperFault
  with_reducible repeat'
    first
    | assumption | apply Outcome.ok_next | intro _ | apply State.whileLive_ok | apply State.standbyStep_ok | apply State.domSettle_ok
    | apply State.faultHelper_ok | apply State.ite_ok

theorem execSafePointLapse_ok (h : Nat) (s : State) (hs : State.Ok ps s) :
    Outcome.Ok ps (execSafePointLapse h s) := by
  unfold execSafePointLapse
  with_reducible repeat'
    first
    | assumption | apply Outcome.ok_next | intro _ | apply State.whileLive_ok | apply State.standbyStep_ok | apply State.domSettle_ok
    | apply State.faultHelper_ok | apply State.ite_ok

theorem execStewardTrap_ok (cause : Nat) (space : Nat) (addr : Nat) (s : State) (hs : State.Ok ps s) :
    Outcome.Ok ps (execStewardTrap cause space addr s) := by
  unfold execStewardTrap
  with_reducible repeat'
    first
    | assumption | apply Outcome.ok_next | intro _ | apply State.whileLive_ok | apply State.standbyStep_ok | apply State.trap_ok
    | apply State.ite_ok

theorem execStewardWatchdogExpiry_ok (space : Nat) (addr : Nat) (s : State) (hs : State.Ok ps s) :
    Outcome.Ok ps (execStewardWatchdogExpiry space addr s) := by
  unfold execStewardWatchdogExpiry
  with_reducible repeat'
    first
    | assumption | apply Outcome.ok_next | intro _ | apply State.whileLive_ok | apply State.standbyStep_ok | apply State.trap_ok
    | apply State.ite_ok

theorem State.stRestart_ok (s : State) (hs : State.Ok ps s) :
    State.Ok ps (s.stRestart) := by
  unfold State.stRestart
  with_reducible repeat'
    first
    | assumption | intro _ | apply State.setFld_ok | apply State.modSteward_ok | apply State.each_ok | apply State.setReg_ok
    | apply State.stopSpindle_ok | apply State.record_ok | apply State.ite_ok
    | (extract_lets +onlyGivenNames x; refine (fun hx => ?_ : State.Ok ps x → _) ?_; rotate_left; unfold x; clear x; rotate_right; clear_value x)
    | (apply State.mk_ok; first | assumption | apply State.setFld_ok | apply State.modSteward_ok | apply State.each_ok | apply State.setReg_ok | apply State.stopSpindle_ok | apply State.record_ok | apply State.ite_ok)

theorem execBaseNoteStewardRestart_ok (s : State) (hs : State.Ok ps s) :
    Outcome.Ok ps (execBaseNoteStewardRestart s) := by
  unfold execBaseNoteStewardRestart
  with_reducible repeat' first | assumption | apply Outcome.ok_next | apply State.whileLive_ok | apply State.stRestart_ok

theorem State.issued_ok (s : State) (h : Nat) (sp : Bool) (hs : State.Ok ps s) :
    State.Ok ps (s.issued h sp) := by
  unfold State.issued
  with_reducible repeat'
    first
    | assumption | apply State.standbyStep_ok | apply State.domSettle_ok | apply State.faultHelper_ok | apply State.modHelper_ok
    | apply State.safePoint_ok | apply State.ite_ok

theorem State.issue_ok (s : State) (h : Nat) (m : MwIn) (fits : Microword → Bool) (op : State → Helper → Microword → MwRes)
    (hs : State.Ok ps s) (h5 : ∀ y0 y1 y2, State.Ok ps y0 → MwRes.Ok ps (op y0 y1 y2)) :
    State.Ok ps (s.issue h m fits op) := by
  unfold State.issue
  with_reducible repeat'
    first
    | assumption | apply h5 | apply State.standbyStep_ok | apply State.domSettle_ok | apply State.faultHelper_ok
    | apply State.modHelper_ok | apply State.memSettle_ok | apply State.issued_ok | (apply MwRes.of_ok; assumption)
    | (apply MwRes.of_fault; assumption) | apply State.ite_ok | split

theorem mwNone_ok (s : State) (x2 : Helper) (x3 : Microword) (hs : State.Ok ps s) :
    MwRes.Ok ps (mwNone s x2 x3) := by
  unfold mwNone
  with_reducible repeat' first | assumption | apply MwRes.ok_ok

theorem execMicrowordIssue_ok (h : Nat) (m : MwIn) (s : State) (hs : State.Ok ps s) :
    Outcome.Ok ps (execMicrowordIssue h m s) := by
  unfold execMicrowordIssue
  with_reducible repeat'
    first
    | assumption | apply Outcome.ok_next | intro _ | apply State.whileLive_ok | apply State.issue_ok | apply mwNone_ok

theorem execMicrowordBranch_ok (h : Nat) (m : MwIn) (s : State) (hs : State.Ok ps s) :
    Outcome.Ok ps (execMicrowordBranch h m s) := by
  unfold execMicrowordBranch
  with_reducible repeat'
    first
    | assumption | apply Outcome.ok_next | intro _ | apply State.whileLive_ok | apply State.issue_ok | apply mwNone_ok

theorem execMicrowordCall_ok (h : Nat) (m : MwIn) (s : State) (hs : State.Ok ps s) :
    Outcome.Ok ps (execMicrowordCall h m s) := by
  unfold execMicrowordCall
  with_reducible repeat'
    first
    | assumption | apply Outcome.ok_next | intro _ | apply State.whileLive_ok | apply State.issue_ok | apply mwNone_ok

theorem execMicrowordReturn_ok (h : Nat) (m : MwIn) (s : State) (hs : State.Ok ps s) :
    Outcome.Ok ps (execMicrowordReturn h m s) := by
  unfold execMicrowordReturn
  with_reducible repeat'
    first
    | assumption | apply Outcome.ok_next | intro _ | apply State.whileLive_ok | apply State.issue_ok | apply mwNone_ok

theorem mwLocalLoad_ok (h : Nat) (s : State) (x3 : Helper) (w : Microword) (hs : State.Ok ps s) :
    MwRes.Ok ps (mwLocalLoad h s x3 w) := by
  unfold mwLocalLoad
  with_reducible repeat'
    first
    | assumption | apply State.modHelper_ok | apply MwRes.ok_ok | apply MwRes.fault_ok
    | (extract_lets +onlyGivenNames x; clear_value x) | split

theorem mwLocalStore_ok (h : Nat) (s : State) (x3 : Helper) (w : Microword) (hs : State.Ok ps s) :
    MwRes.Ok ps (mwLocalStore h s x3 w) := by
  unfold mwLocalStore
  with_reducible repeat'
    first
    | assumption | apply State.store_ok | apply MwRes.ok_ok | apply MwRes.fault_ok | (extract_lets +onlyGivenNames x; clear_value x)
    | split

theorem execLocalLoad_ok (h : Nat) (m : MwIn) (s : State) (hs : State.Ok ps s) :
    Outcome.Ok ps (execLocalLoad h m s) := by
  unfold execLocalLoad
  with_reducible repeat'
    first
    | assumption | apply Outcome.ok_next | intro _ | apply State.whileLive_ok | apply State.issue_ok | apply mwLocalLoad_ok

theorem execLocalStore_ok (h : Nat) (m : MwIn) (s : State) (hs : State.Ok ps s) :
    Outcome.Ok ps (execLocalStore h m s) := by
  unfold execLocalStore
  with_reducible repeat'
    first
    | assumption | apply Outcome.ok_next | intro _ | apply State.whileLive_ok | apply State.issue_ok | apply mwLocalStore_ok

theorem State.fabLoad_ok (s : State) (who : Nat) (i : FabIn) (a : Nat) (n : Nat) (reg : Nat) (hs : State.Ok ps s) :
    FabRes.Ok ps (s.fabLoad who i a n reg) := by
  unfold State.fabLoad
  with_reducible repeat'
    first
    | assumption | apply State.cacheRequest_ok | apply State.deliver_ok | apply State.noteRead_ok | exact FabRes.wait_ok
    | exact FabRes.unmapped_ok | apply FabRes.ok_ok | split

theorem State.fabStore_ok (s : State) (who : Nat) (i : FabIn) (a : Nat) (d : List Byte) (hs : State.Ok ps s) :
    FabRes.Ok ps (s.fabStore who i a d) := by
  unfold State.fabStore
  with_reducible repeat'
    first
    | assumption | apply State.cacheRequest_ok | apply State.tellBad_ok | apply State.store_ok | exact FabRes.wait_ok
    | exact FabRes.unmapped_ok | apply FabRes.ok_ok | split

theorem mwFab_ok (s : State) (r : FabRes) (at' : Nat × Nat) (hs : State.Ok ps s) (h2 : FabRes.Ok ps r) :
    MwRes.Ok ps (mwFab s r at') := by
  unfold mwFab
  repeat' (first | with_reducible assumption | exact h2 | with_reducible apply MwRes.fault_ok | split)

theorem execFabricLoad_ok (h : Nat) (m : MwIn) (i : FabIn) (s : State) (hs : State.Ok ps s) :
    Outcome.Ok ps (execFabricLoad h m i s) := by
  unfold execFabricLoad
  with_reducible repeat'
    first
    | assumption | apply Outcome.ok_next | intro _ | apply State.whileLive_ok | apply State.issue_ok | apply mwFab_ok
    | apply State.fabLoad_ok

theorem execFabricStore_ok (h : Nat) (m : MwIn) (i : FabIn) (s : State) (hs : State.Ok ps s) :
    Outcome.Ok ps (execFabricStore h m i s) := by
  unfold execFabricStore
  with_reducible repeat'
    first
    | assumption | apply Outcome.ok_next | intro _ | apply State.whileLive_ok | apply State.issue_ok | apply mwFab_ok
    | apply State.fabStore_ok

theorem State.fabLine_ok (s : State) (who : Nat) (a : Nat) (op : Nat) (f : MemFaults) (hs : State.Ok ps s) :
    FabRes.Ok ps (s.fabLine who a op f) := by
  unfold State.fabLine
  with_reducible repeat'
    first
    | assumption | apply State.cacheSettle_ok | apply State.lineOp_ok | apply State.lineOpUncached_ok | exact FabRes.wait_ok
    | exact FabRes.unmapped_ok | apply FabRes.ok_ok | apply State.ite_ok | split

theorem State.mwLine_ok (s : State) (h : Nat) (m : MwIn) (f : MemFaults) (k : Nat) (hs : State.Ok ps s) :
    State.Ok ps (s.mwLine h m f k) := by
  unfold State.mwLine
  with_reducible repeat' first | assumption | intro _ | apply State.issue_ok | apply mwFab_ok | apply State.fabLine_ok

theorem execLineClean_ok (h : Nat) (m : MwIn) (f : MemFaults) (s : State) (hs : State.Ok ps s) :
    Outcome.Ok ps (execLineClean h m f s) := by
  unfold execLineClean
  with_reducible repeat' first | assumption | apply Outcome.ok_next | intro _ | apply State.whileLive_ok | apply State.mwLine_ok

theorem execLineInvalidate_ok (h : Nat) (m : MwIn) (f : MemFaults) (s : State) (hs : State.Ok ps s) :
    Outcome.Ok ps (execLineInvalidate h m f s) := by
  unfold execLineInvalidate
  with_reducible repeat' first | assumption | apply Outcome.ok_next | intro _ | apply State.whileLive_ok | apply State.mwLine_ok

theorem execLineCleanInvalidate_ok (h : Nat) (m : MwIn) (f : MemFaults) (s : State) (hs : State.Ok ps s) :
    Outcome.Ok ps (execLineCleanInvalidate h m f s) := by
  unfold execLineCleanInvalidate
  with_reducible repeat' first | assumption | apply Outcome.ok_next | intro _ | apply State.whileLive_ok | apply State.mwLine_ok

theorem execLineZero_ok (h : Nat) (m : MwIn) (f : MemFaults) (s : State) (hs : State.Ok ps s) :
    Outcome.Ok ps (execLineZero h m f s) := by
  unfold execLineZero
  with_reducible repeat' first | assumption | apply Outcome.ok_next | intro _ | apply State.whileLive_ok | apply State.mwLine_ok

theorem mwSend_ok (h : Nat) (s : State) (x3 : Helper) (w : Microword) (hs : State.Ok ps s) :
    MwRes.Ok ps (mwSend h s x3 w) := by
  unfold mwSend
  with_reducible repeat' first | assumption | apply State.modHelper_ok | exact MwRes.wait_ok | apply MwRes.ok_ok | split

theorem mwReceive_ok (h : Nat) (s : State) (x3 : Helper) (w : Microword) (hs : State.Ok ps s) :
    MwRes.Ok ps (mwReceive h s x3 w) := by
  unfold mwReceive
  with_reducible repeat'
    first
    | assumption | apply State.heSync_ok | apply State.modHelper_ok | exact MwRes.wait_ok | apply MwRes.ok_ok | split

theorem mwErrReceive_ok (h : Nat) (s : State) (x3 : Helper) (w : Microword) (hs : State.Ok ps s) :
    MwRes.Ok ps (mwErrReceive h s x3 w) := by
  unfold mwErrReceive
  with_reducible repeat'
    first
    | assumption | apply State.heSync_ok | apply State.modHelper_ok | exact MwRes.wait_ok | apply MwRes.ok_ok | split

theorem execMessageSend_ok (h : Nat) (m : MwIn) (s : State) (hs : State.Ok ps s) :
    Outcome.Ok ps (execMessageSend h m s) := by
  unfold execMessageSend
  with_reducible repeat'
    first
    | assumption | apply Outcome.ok_next | intro _ | apply State.whileLive_ok | apply State.issue_ok | apply mwSend_ok

theorem execMessageReceive_ok (h : Nat) (m : MwIn) (s : State) (hs : State.Ok ps s) :
    Outcome.Ok ps (execMessageReceive h m s) := by
  unfold execMessageReceive
  with_reducible repeat'
    first
    | assumption | apply Outcome.ok_next | intro _ | apply State.whileLive_ok | apply State.issue_ok | apply mwReceive_ok

theorem execErrorQueueReceive_ok (h : Nat) (m : MwIn) (s : State) (hs : State.Ok ps s) :
    Outcome.Ok ps (execErrorQueueReceive h m s) := by
  unfold execErrorQueueReceive
  with_reducible repeat'
    first
    | assumption | apply Outcome.ok_next | intro _ | apply State.whileLive_ok | apply State.issue_ok | apply mwErrReceive_ok

theorem State.deliverNext_ok (s : State) (src : Nat) (hs : State.Ok ps s) :
    State.Ok ps (s.deliverNext src) := by
  unfold State.deliverNext
  with_reducible repeat'
    first
    | assumption | apply State.fabricTake_ok | apply State.modSteward_ok | apply State.modHelper_ok | apply State.ite_ok | split

theorem execMessageDelivery_ok (src : Nat) (s : State) (hs : State.Ok ps s) :
    Outcome.Ok ps (execMessageDelivery src s) := by
  unfold execMessageDelivery
  with_reducible repeat' first | assumption | apply Outcome.ok_next | intro _ | apply State.whileLive_ok | apply State.deliverNext_ok

theorem State.enterNext_ok (s : State) (dst : Nat) (hs : State.Ok ps s) :
    State.Ok ps (s.enterNext dst) := by
  unfold State.enterNext
  with_reducible repeat'
    first
    | assumption | apply State.modFabric_ok | apply State.returnMsg_ok | apply State.enterInbox_ok | apply State.ite_ok
    | (extract_lets +onlyGivenNames x; refine (fun hx => ?_ : State.Ok ps x → _) ?_; rotate_left; unfold x; clear x; rotate_right; clear_value x)
    | split

theorem execMessageEntersInbox_ok (dst : Nat) (s : State) (hs : State.Ok ps s) :
    Outcome.Ok ps (execMessageEntersInbox dst s) := by
  unfold execMessageEntersInbox
  with_reducible repeat' first | assumption | apply Outcome.ok_next | intro _ | apply State.whileLive_ok | apply State.enterNext_ok

theorem State.returnNext_ok (s : State) (src : Nat) (hs : State.Ok ps s) :
    State.Ok ps (s.returnNext src) := by
  unfold State.returnNext
  with_reducible repeat'
    first
    | assumption | apply State.modFabric_ok | apply State.modSteward_ok | apply State.record_ok | apply State.setBit_ok
    | apply State.heSync_ok | apply State.modHelper_ok | apply State.ite_ok | split

theorem execMessageReturn_ok (src : Nat) (s : State) (hs : State.Ok ps s) :
    Outcome.Ok ps (execMessageReturn src s) := by
  unfold execMessageReturn
  with_reducible repeat' first | assumption | apply Outcome.ok_next | intro _ | apply State.whileLive_ok | apply State.returnNext_ok

theorem execIslandFifoPop_ok (h : Nat) (m : MwIn) (data : Option Word64) (s : State) (hs : State.Ok ps s) :
    Outcome.Ok ps (execIslandFifoPop h m data s) := by
  unfold execIslandFifoPop
  with_reducible repeat'
    first
    | assumption | apply Outcome.ok_next | intro _ | apply State.whileLive_ok | apply State.issue_ok | apply State.modHelper_ok
    | exact MwRes.wait_ok | apply MwRes.ok_ok | split

theorem execIslandFifoPush_ok (h : Nat) (m : MwIn) (s : State) (hs : State.Ok ps s) :
    Outcome.Ok ps (execIslandFifoPush h m s) := by
  unfold execIslandFifoPush
  with_reducible repeat'
    first
    | assumption | apply Outcome.ok_next | intro _ | apply State.whileLive_ok | apply State.issue_ok | apply State.modHelper_ok
    | exact MwRes.wait_ok | apply MwRes.ok_ok | split

theorem State.islandTakes_ok (s : State) (h : Nat) (accepted : Nat) (hs : State.Ok ps s) :
    State.Ok ps (s.islandTakes h accepted) := by
  unfold State.islandTakes
  with_reducible repeat' first | assumption | apply State.modHelper_ok

theorem State.fence_ok (s : State) (h : Nat) (m : MwIn) (k : Nat) (accepted : Nat) (done : State → Bool) (hs : State.Ok ps s) :
    State.Ok ps (s.fence h m k accepted done) := by
  unfold State.fence
  with_reducible repeat'
    first
    | assumption | intro _ | apply State.issue_ok | apply State.islandTakes_ok | exact MwRes.wait_ok | apply MwRes.ok_ok | split

theorem execFenceFull_ok (h : Nat) (m : MwIn) (accepted : Nat) (s : State) (hs : State.Ok ps s) :
    Outcome.Ok ps (execFenceFull h m accepted s) := by
  unfold execFenceFull
  with_reducible repeat' first | assumption | apply Outcome.ok_next | intro _ | apply State.whileLive_ok | apply State.fence_ok

theorem execFenceStoreSend_ok (h : Nat) (m : MwIn) (s : State) (hs : State.Ok ps s) :
    Outcome.Ok ps (execFenceStoreSend h m s) := by
  unfold execFenceStoreSend
  with_reducible repeat' first | assumption | apply Outcome.ok_next | intro _ | apply State.whileLive_ok | apply State.fence_ok

theorem execFenceIsland_ok (h : Nat) (m : MwIn) (accepted : Nat) (s : State) (hs : State.Ok ps s) :
    Outcome.Ok ps (execFenceIsland h m accepted s) := by
  unfold execFenceIsland
  with_reducible repeat' first | assumption | apply Outcome.ok_next | intro _ | apply State.whileLive_ok | apply State.fence_ok

theorem State.stagingDone_ok (s : State) (ok : Bool) (hs : State.Ok ps s) :
    State.Ok ps (s.stagingDone ok) := by
  unfold State.stagingDone
  with_reducible repeat'
    first
    | assumption | intro _ | apply State.swapGo_ok | apply State.swapSignal_ok | apply State.modFabric_ok | apply State.modSteward_ok
    | apply State.each_ok | apply State.modHelper_ok | apply State.activationEnd_ok | apply State.ite_ok
    | (extract_lets +onlyGivenNames x; refine (fun hx => ?_ : State.Ok ps x → _) ?_; rotate_left; unfold x; clear x; rotate_right; clear_value x)
    | split

theorem execPatchStagingDone_ok (ok : Bool) (s : State) (hs : State.Ok ps s) :
    Outcome.Ok ps (execPatchStagingDone ok s) := by
  unfold execPatchStagingDone
  with_reducible repeat'
    first
    | assumption | apply Outcome.ok_next | intro _ | apply State.whileLive_ok | apply State.standbyStep_ok | apply State.stagingDone_ok

theorem State.stewardSwap_ok (s : State) (hs : State.Ok ps s) :
    State.Ok ps (s.stewardSwap) := by
  unfold State.stewardSwap
  with_reducible repeat'
    first
    | assumption | apply State.modFabric_ok | apply State.clrBit_ok | apply State.setFld_ok | apply State.stSwap_ok
    | apply State.activationEnd_ok | apply State.ptMark_ok | apply State.ite_ok | split

theorem execStewardPatchSwap_ok (s : State) (hs : State.Ok ps s) :
    Outcome.Ok ps (execStewardPatchSwap s) := by
  unfold execStewardPatchSwap
  with_reducible repeat'
    first
    | assumption | apply Outcome.ok_next | intro _ | apply State.whileLive_ok | apply State.standbyStep_ok | apply State.stewardSwap_ok

theorem State.stFetch_ok (s : State) (space : Nat) (addr : Nat) (hs : State.Ok ps s) :
    State.Ok ps (s.stFetch space addr).1 := by
  unfold State.stFetch
  with_reducible repeat' first | assumption | apply State.modSteward_ok | apply State.eccNote_ok | apply State.ite_fst_ok

theorem State.stFetch_ok' {s : State} {space : Nat} {addr : Nat} {t : State} {b : Option (Nat × Nat)}
    (e : State.stFetch s space addr = (t, b)) (hs : State.Ok ps s) : State.Ok ps t := by
  have h := State.stFetch_ok (ps := ps) s space addr hs
  rw [e] at h
  exact h

theorem State.stAccess_ok (s : State) (i : FabIn) (r : FabRes) (hs : State.Ok ps s) (h3 : FabRes.Ok ps r) :
    State.Ok ps (s.stAccess i r) := by
  unfold State.stAccess
  repeat' (first | with_reducible assumption | exact h3 | with_reducible apply State.trap_ok | with_reducible apply State.ite_ok | split)

theorem State.stDo_ok (s : State) (o : StewardOp) (hs : State.Ok ps s) :
    State.Ok ps (s.stDo o) := by
  unfold State.stDo
  with_reducible repeat'
    first
    | assumption | apply State.modSteward_ok | apply State.stAccess_ok | apply State.fabLoad_ok | apply State.fabStore_ok
    | apply State.fabLine_ok | apply State.ite_ok | split

theorem State.stStep_ok (s : State) (space : Nat) (addr : Nat) (o : StewardOp) (hs : State.Ok ps s) :
    State.Ok ps (s.stStep space addr o) := by
  unfold State.stStep
  with_reducible repeat'
    first
    | assumption | apply State.stFetch_ok | apply State.modSteward_ok | apply State.trap_ok | apply State.memSettle_ok
    | apply State.stDo_ok | apply State.ite_ok | split | dsimp only

theorem execStewardInstruction_ok (space : Nat) (addr : Nat) (o : StewardOp) (s : State) (hs : State.Ok ps s) :
    Outcome.Ok ps (execStewardInstruction space addr o s) := by
  unfold execStewardInstruction
  with_reducible repeat'
    first
    | assumption | apply Outcome.ok_next | intro _ | apply State.whileLive_ok | apply State.standbyStep_ok | apply State.stStep_ok

theorem execMoverGo_ok (c : Nat) (srcSp : Nat) (src : Nat) (dstSp : Nat) (dst : Nat) (len : Nat) (fence : Bool) (owner : Nat)
    (s : State) (hs : State.Ok ps s) :
    Outcome.Ok ps (execMoverGo c srcSp src dstSp dst len fence owner s) := by
  unfold execMoverGo
  with_reducible repeat' first | assumption | apply Outcome.ok_next | intro _ | apply State.whileLive_ok | apply State.moverGo_ok

theorem State.moverStop_ok (s : State) (c : Nat) (hs : State.Ok ps s) :
    State.Ok ps (s.moverStop c) := by
  unfold State.moverStop
  with_reducible repeat' first | assumption | apply State.dmGoto_ok | apply State.setBit_ok | apply State.ite_ok

theorem execMoverStopRequest_ok (c : Nat) (s : State) (hs : State.Ok ps s) :
    Outcome.Ok ps (execMoverStopRequest c s) := by
  unfold execMoverStopRequest
  with_reducible repeat' first | assumption | apply Outcome.ok_next | intro _ | apply State.whileLive_ok | apply State.moverStop_ok

theorem State.moverStart_ok (s : State) (c : Nat) (hs : State.Ok ps s) :
    State.Ok ps (s.moverStart c) := by
  unfold State.moverStart
  with_reducible repeat' first | assumption | apply State.dmGoto_ok | apply State.dmPromote_ok | apply State.ite_ok

theorem execMoverStartRequest_ok (c : Nat) (s : State) (hs : State.Ok ps s) :
    Outcome.Ok ps (execMoverStartRequest c s) := by
  unfold execMoverStartRequest
  with_reducible repeat' first | assumption | apply Outcome.ok_next | intro _ | apply State.whileLive_ok | apply State.moverStart_ok

theorem execMoverDiscardRequest_ok (c : Nat) (s : State) (hs : State.Ok ps s) :
    Outcome.Ok ps (execMoverDiscardRequest c s) := by
  unfold execMoverDiscardRequest
  with_reducible repeat' first | assumption | apply Outcome.ok_next | intro _ | apply State.whileLive_ok | apply State.moverDiscard_ok

theorem State.moverResume_ok (s : State) (c : Nat) (hs : State.Ok ps s) :
    State.Ok ps (s.moverResume c) := by
  unfold State.moverResume
  with_reducible repeat' first | assumption | apply State.dmGoto_ok | apply State.ite_ok

theorem execMoverResumeRequest_ok (c : Nat) (s : State) (hs : State.Ok ps s) :
    Outcome.Ok ps (execMoverResumeRequest c s) := by
  unfold execMoverResumeRequest
  with_reducible repeat' first | assumption | apply Outcome.ok_next | intro _ | apply State.whileLive_ok | apply State.moverResume_ok

theorem execMoverSetStart_ok (mover : Nat) (s : State) (hs : State.Ok ps s) :
    Outcome.Ok ps (execMoverSetStart mover s) := by
  unfold execMoverSetStart
  with_reducible repeat' first | assumption | apply Outcome.ok_next | intro _ | apply State.whileLive_ok | apply State.moverNext_ok

theorem State.moverComplete_ok (s : State) (c : Nat) (hostData : List Byte) (f : MemFaults) (hs : State.Ok ps s) :
    State.Ok ps (s.moverComplete c hostData f) := by
  unfold State.moverComplete
  with_reducible repeat' first | assumption | apply State.dmRun_ok | apply State.dmDone_ok | apply State.ite_ok | split

theorem execMoverSetComplete_ok (c : Nat) (hostData : List Byte) (f : MemFaults) (s : State) (hs : State.Ok ps s) :
    Outcome.Ok ps (execMoverSetComplete c hostData f s) := by
  unfold execMoverSetComplete
  with_reducible repeat'
    first
    | assumption | apply Outcome.ok_next | intro _ | apply State.whileLive_ok | apply State.memSettle_ok | apply State.moverComplete_ok

theorem State.moverHalt_ok (s : State) (c : Nat) (transfers : Nat) (hostData : List Byte) (f : MemFaults) (hs : State.Ok ps s) :
    State.Ok ps (s.moverHalt c transfers hostData f) := by
  unfold State.moverHalt
  with_reducible repeat' first | assumption | apply State.dmHalt_ok | apply State.dmRun_ok | apply State.ite_ok | split

theorem execMoverHalt_ok (c : Nat) (transfers : Nat) (hostData : List Byte) (f : MemFaults) (s : State) (hs : State.Ok ps s) :
    Outcome.Ok ps (execMoverHalt c transfers hostData f s) := by
  unfold execMoverHalt
  with_reducible repeat'
    first
    | assumption | apply Outcome.ok_next | intro _ | apply State.whileLive_ok | apply State.memSettle_ok | apply State.moverHalt_ok

theorem State.moverTimeout_ok (s : State) (c : Nat) (hs : State.Ok ps s) :
    State.Ok ps (s.moverTimeout c) := by
  unfold State.moverTimeout
  with_reducible repeat' first | assumption | apply State.dmHalt_ok | apply State.ite_ok | split

theorem execMoverTimeout_ok (c : Nat) (s : State) (hs : State.Ok ps s) :
    Outcome.Ok ps (execMoverTimeout c s) := by
  unfold execMoverTimeout
  with_reducible repeat' first | assumption | apply Outcome.ok_next | intro _ | apply State.whileLive_ok | apply State.moverTimeout_ok

theorem State.burstPart_ok (s : State) (c : Nat) (f : MemFaults) (x4 : MoverSet) (v : Nat) (j : Nat) (d : List Byte)
    (hostData : List Byte) (hs : State.Ok ps s) :
    State.Ok ps (s.burstPart c f x4 v j d hostData).1 := by
  unfold State.burstPart
  with_reducible repeat'
    first
    | assumption | apply State.dmPut_ok | apply State.dmGet_ok | apply State.dmShow_ok | apply State.modSlot_ok
    | apply State.ite_fst_ok | split | dsimp only

theorem State.burstPart_ok' {s : State} {c : Nat} {f : MemFaults} {x4 : MoverSet} {v : Nat} {j : Nat} {d : List Byte} {hostData : List Byte} {t : State} {b : Bool} (e : State.burstPart s c f x4 v j d hostData = (t, b)) (hs : State.Ok ps s) : State.Ok ps t := by
  have h := State.burstPart_ok (ps := ps) s c f x4 v j d hostData hs
  rw [e] at h
  exact h

theorem State.burst_ok (s : State) (c : Nat) (count : Nat) (valid : Nat) (last : Bool) (samples : List (Option Int))
    (hostData : List Byte) (f : MemFaults) (hs : State.Ok ps s) :
    State.Ok ps (s.burst c count valid last samples hostData f) := by
  unfold State.burst
  with_reducible repeat'
    first
    | assumption | intro _ | apply State.burstPart_ok | apply State.addSat_ok | apply State.ite_ok | apply State.ite_fst_ok
    | apply State.foldl_fst_ok | split

theorem execPeripheralBurst_ok (c : Nat) (count : Nat) (valid : Nat) (last : Bool) (samples : List (Option Int))
    (hostData : List Byte) (f : MemFaults) (s : State) (hs : State.Ok ps s) :
    Outcome.Ok ps (execPeripheralBurst c count valid last samples hostData f s) := by
  unfold execPeripheralBurst
  with_reducible repeat'
    first
    | assumption | apply Outcome.ok_next | intro _ | apply State.whileLive_ok | apply State.memSettle_ok | apply State.burst_ok

theorem State.periphWithdraw_ok (s : State) (c : Nat) (hs : State.Ok ps s) :
    State.Ok ps (s.periphWithdraw c) := by
  unfold State.periphWithdraw
  with_reducible repeat'
    first
    | assumption | apply State.dmPost_ok | apply State.dmGoto_ok | apply State.clrBit_ok | apply State.modChan_ok | apply State.ite_ok
    | split

theorem execPeripheralWithdraw_ok (c : Nat) (s : State) (hs : State.Ok ps s) :
    Outcome.Ok ps (execPeripheralWithdraw c s) := by
  unfold execPeripheralWithdraw
  with_reducible repeat' first | assumption | apply Outcome.ok_next | intro _ | apply State.whileLive_ok | apply State.periphWithdraw_ok

theorem State.hello_ok (s : State) (h : EwHdr) (ident : List Byte) (id : Option Nat) (role : Nat) (hs : State.Ok ps s) :
    State.Ok ps (s.hello h ident id role) := by
  unfold State.hello
  with_reducible repeat'
    first
    | assumption | intro _ | apply State.ewAccept_ok | apply State.modPool_ok | apply State.setBit_ok | apply State.isolate_ok
    | apply State.ite_ok

theorem execHello_ok (h : EwHdr) (ident : List Byte) (id : Option Nat) (role : Nat) (s : State) (hs : State.Ok ps s) :
    Outcome.Ok ps (execHello h ident id role s) := by
  unfold execHello
  with_reducible repeat' first | assumption | apply Outcome.ok_next | intro _ | apply State.whileLive_ok | apply State.hello_ok

theorem State.rollSlot_ok (s : State) (hs : State.Ok ps s) :
    State.Ok ps (s.rollSlot) := by
  unfold State.rollSlot
  with_reducible repeat'
    first
    | assumption | intro _ | apply State.ewGroup_ok | apply State.modPool_ok | apply State.foldl_ok | apply State.ite_ok

theorem execRollCallSlot_ok (s : State) (hs : State.Ok ps s) :
    Outcome.Ok ps (execRollCallSlot s) := by
  unfold execRollCallSlot
  with_reducible repeat' first | assumption | apply Outcome.ok_next | apply State.whileLive_ok | apply State.rollSlot_ok

theorem State.rollClose_ok (s : State) (hs : State.Ok ps s) :
    State.Ok ps (s.rollClose) := by
  unfold State.rollClose
  with_reducible repeat'
    first
    | assumption | intro _ | apply State.modPool_ok | apply State.setFld_ok | apply State.freshXid_ok | apply State.each_ok
    | apply State.ewGroup_ok | apply State.ite_ok

theorem execRollCallClose_ok (s : State) (hs : State.Ok ps s) :
    Outcome.Ok ps (execRollCallClose s) := by
  unfold execRollCallClose
  with_reducible repeat' first | assumption | apply Outcome.ok_next | apply State.whileLive_ok | apply State.rollClose_ok

theorem State.setRole_ok (s : State) (r : Nat) (hs : State.Ok ps s) :
    State.Ok ps (s.setRole r) := by
  unfold State.setRole
  with_reducible repeat' first | assumption | apply State.when_ok | apply State.setFld_ok | apply State.joinGroups_ok | apply State.ite_ok

theorem State.leaderSync_ok (s : State) (hs : State.Ok ps s) :
    State.Ok ps (s.leaderSync) := by
  unfold State.leaderSync
  with_reducible repeat' first | assumption | apply State.setFld_ok | apply State.setRole_ok | apply State.ite_ok

theorem State.leaderFrame_ok (s : State) (h : EwHdr) (shard : Nat) (hs : State.Ok ps s) :
    State.Ok ps (s.leaderFrame h shard) := by
  unfold State.leaderFrame
  with_reducible repeat'
    first
    | assumption | intro _ | apply State.ewAccept_ok | apply State.leaderSync_ok | apply State.modPool_ok | apply State.ewReply_ok
    | apply State.setFld_ok | apply State.ite_ok

theorem execLeader_ok (h : EwHdr) (shard : Nat) (s : State) (hs : State.Ok ps s) :
    Outcome.Ok ps (execLeader h shard s) := by
  unfold execLeader
  with_reducible repeat' first | assumption | apply Outcome.ok_next | intro _ | apply State.whileLive_ok | apply State.leaderFrame_ok

theorem State.sendLayout_ok (s : State) (hs : State.Ok ps s) :
    State.Ok ps (s.sendLayout) := by
  unfold State.sendLayout
  with_reducible repeat' first | assumption | intro _ | apply State.each_ok | apply State.freshXid_ok | apply State.ewGroup_ok

theorem State.adoptAsk_ok (s : State) (id : Nat) (hs : State.Ok ps s) :
    State.Ok ps (s.adoptAsk id) := by
  unfold State.adoptAsk
  with_reducible repeat' first | assumption | intro _ | apply State.each_ok | apply State.ewSend_ok | apply State.modPool_ok | split

theorem State.adoptBegin_ok (s : State) (id : Nat) (hs : State.Ok ps s) :
    State.Ok ps (s.adoptBegin id) := by
  unfold State.adoptBegin
  with_reducible repeat'
    first
    | assumption | apply State.modPool_ok | apply State.setFld_ok | apply State.setBit_ok | apply State.adoptAsk_ok
    | apply State.identityRecord_ok

theorem State.adoptFixed_ok (s : State) (hs : State.Ok ps s) :
    State.Ok ps (s.adoptFixed) := by
  unfold State.adoptFixed
  with_reducible repeat' first | assumption | apply State.adoptBegin_ok | apply State.ite_ok

theorem State.headForms_ok (s : State) (hs : State.Ok ps s) :
    State.Ok ps (s.headForms) := by
  unfold State.headForms
  with_reducible repeat'
    first
    | assumption | apply State.sendLayout_ok | apply State.adoptFixed_ok | apply State.adoptLayout_ok | apply State.setFld_ok
    | apply State.ite_ok

theorem State.roster_ok (s : State) (h : EwHdr) (es : List (List Byte × Nat × Nat × Nat)) (hs : State.Ok ps s) :
    State.Ok ps (s.roster h es) := by
  unfold State.roster
  with_reducible repeat'
    first
    | assumption | intro _ | apply State.ewAccept_ok | apply State.modPool_ok | apply State.onSome_ok | apply State.setFld_ok
    | apply State.headForms_ok | apply State.ite_ok

theorem execRoster_ok (h : EwHdr) (entries : List (List Byte × Nat × Nat × Nat)) (s : State) (hs : State.Ok ps s) :
    Outcome.Ok ps (execRoster h entries s) := by
  unfold execRoster
  with_reducible repeat' first | assumption | apply Outcome.ok_next | intro _ | apply State.whileLive_ok | apply State.roster_ok

theorem State.layoutFrame_ok (s : State) (h : EwHdr) (epoch : Nat) (part : Nat) (npart : Nat) (ids : List (Nat × Bool))
    (hs : State.Ok ps s) :
    State.Ok ps (s.layoutFrame h epoch part npart ids) := by
  unfold State.layoutFrame
  with_reducible repeat'
    first
    | assumption | intro _ | apply State.ewAccept_ok | apply State.modPool_ok | apply State.ewReply_ok | apply State.adoptFixed_ok
    | apply State.adoptLayout_ok | apply State.sendLayout_ok | apply State.ite_ok

theorem execLayout_ok (h : EwHdr) (epoch : Nat) (part : Nat) (npart : Nat) (ids : List (Nat × Bool)) (s : State) (hs : State.Ok ps s) :
    Outcome.Ok ps (execLayout h epoch part npart ids s) := by
  unfold execLayout
  with_reducible repeat' first | assumption | apply Outcome.ok_next | intro _ | apply State.whileLive_ok | apply State.layoutFrame_ok

theorem State.ackFrame_ok (s : State) (h : EwHdr) (hs : State.Ok ps s) :
    State.Ok ps (s.ackFrame h) := by
  unfold State.ackFrame
  with_reducible repeat'
    first
    | assumption | intro _ | apply State.ewAccept_ok | apply State.modPool_ok | apply State.headForms_ok | apply State.leaderSync_ok
    | apply State.setFld_ok | apply State.unpaired_ok | apply State.pairPump_ok | apply State.ite_ok

theorem execAck_ok (h : EwHdr) (s : State) (hs : State.Ok ps s) :
    Outcome.Ok ps (execAck h s) := by
  unfold execAck
  with_reducible repeat' first | assumption | apply Outcome.ok_next | intro _ | apply State.whileLive_ok | apply State.ackFrame_ok

theorem State.phaseBound_ok (s : State) (hs : State.Ok ps s) :
    State.Ok ps (s.phaseBound) := by
  unfold State.phaseBound
  with_reducible repeat' first | assumption | apply State.record_ok | apply State.setBit_ok | apply State.modPool_ok | apply State.ite_ok

theorem execPhaseBoundExpiry_ok (s : State) (hs : State.Ok ps s) :
    Outcome.Ok ps (execPhaseBoundExpiry s) := by
  unfold execPhaseBoundExpiry
  with_reducible repeat' first | assumption | apply Outcome.ok_next | apply State.whileLive_ok | apply State.phaseBound_ok

theorem State.poolReady_ok (s : State) (hs : State.Ok ps s) :
    State.Ok ps (s.poolReady) := by
  unfold State.poolReady
  with_reducible repeat' first | assumption | apply State.setFld_ok | apply State.ite_ok

theorem State.resendStale_ok (s : State) (hs : State.Ok ps s) :
    State.Ok ps (s.resendStale) := by
  unfold State.resendStale
  with_reducible repeat' first | assumption | intro _ | apply State.ewPut_ok | apply State.modPool_ok | apply State.foldl_ok

theorem State.spareRelease_ok (s : State) (id : Nat) (hs : State.Ok ps s) :
    State.Ok ps (s.spareRelease id) := by
  unfold State.spareRelease
  with_reducible repeat'
    first
    | assumption | intro _ | apply State.each_ok | apply State.ewSend_ok | apply State.modPool_ok | apply State.clrBit_ok
    | apply State.plSync_ok | apply State.ite_ok | (extract_lets +onlyGivenNames x; clear_value x) | split

theorem State.heartbeat_ok (s : State) (h : EwHdr) (state : Nat) (roles : List (Nat × Nat)) (hs : State.Ok ps s) :
    State.Ok ps (s.heartbeat h state roles) := by
  unfold State.heartbeat
  with_reducible repeat'
    first
    | assumption | intro _ | apply State.ewAccept_ok | apply State.when_ok | apply State.spareRelease_ok | apply State.poolReady_ok
    | apply State.modPool_ok | apply State.resendStale_ok

theorem execHeartbeat_ok (h : EwHdr) (state : Nat) (roles : List (Nat × Nat)) (s : State) (hs : State.Ok ps s) :
    Outcome.Ok ps (execHeartbeat h state roles s) := by
  unfold execHeartbeat
  with_reducible repeat' first | assumption | apply Outcome.ok_next | intro _ | apply State.whileLive_ok | apply State.heartbeat_ok

theorem State.heartbeatOut_ok (s : State) (hs : State.Ok ps s) :
    State.Ok ps (s.heartbeatOut) := by
  unfold State.heartbeatOut
  with_reducible repeat'
    first
    | assumption | intro _ | apply State.ewGroup_ok | apply State.ewPut_ok | apply State.foldl_ok | apply State.ite_ok

theorem execHeartbeatTimer_ok (s : State) (hs : State.Ok ps s) :
    Outcome.Ok ps (execHeartbeatTimer s) := by
  unfold execHeartbeatTimer
  with_reducible repeat' first | assumption | apply Outcome.ok_next | apply State.whileLive_ok | apply State.heartbeatOut_ok

theorem State.announceFail_ok (s : State) (id : Nat) (cause : Nat) (hs : State.Ok ps s) :
    State.Ok ps (s.announceFail id cause) := by
  unfold State.announceFail
  with_reducible repeat' first | assumption | intro _ | apply State.memberFail_ok | apply State.each_ok | apply State.ewGroup_ok

theorem State.memberSilent_ok (s : State) (id : Nat) (hs : State.Ok ps s) :
    State.Ok ps (s.memberSilent id) := by
  unfold State.memberSilent
  with_reducible repeat'
    first
    | assumption | apply State.reElect_ok | apply State.ewSend_ok | apply State.modPool_ok | apply State.ite_ok | split

theorem execMemberSilent_ok (id : Nat) (s : State) (hs : State.Ok ps s) :
    Outcome.Ok ps (execMemberSilent id s) := by
  unfold execMemberSilent
  with_reducible repeat' first | assumption | apply Outcome.ok_next | intro _ | apply State.whileLive_ok | apply State.memberSilent_ok

theorem State.probeTimeout_ok (s : State) (id : Nat) (hs : State.Ok ps s) :
    State.Ok ps (s.probeTimeout id) := by
  unfold State.probeTimeout
  with_reducible repeat' first | assumption | apply State.announceFail_ok | apply State.ite_ok

theorem execProbeTimeout_ok (id : Nat) (s : State) (hs : State.Ok ps s) :
    Outcome.Ok ps (execProbeTimeout id s) := by
  unfold execProbeTimeout
  with_reducible repeat' first | assumption | apply Outcome.ok_next | intro _ | apply State.whileLive_ok | apply State.probeTimeout_ok

theorem State.failnote_ok (s : State) (h : EwHdr) (id : Nat) (newgen : Nat) (cause : Nat) (hs : State.Ok ps s) :
    State.Ok ps (s.failnote h id newgen cause) := by
  unfold State.failnote
  with_reducible repeat'
    first
    | assumption | intro _ | apply State.ewAccept_ok | apply State.setFld_ok | apply State.isolate_ok | apply State.memberFail_ok
    | apply State.ite_ok

theorem execFailnote_ok (h : EwHdr) (id : Nat) (newgen : Nat) (cause : Nat) (s : State) (hs : State.Ok ps s) :
    Outcome.Ok ps (execFailnote h id newgen cause s) := by
  unfold execFailnote
  with_reducible repeat' first | assumption | apply Outcome.ok_next | intro _ | apply State.whileLive_ok | apply State.failnote_ok

theorem State.leaveFrame_ok (s : State) (h : EwHdr) (ret : Nat) (hs : State.Ok ps s) :
    State.Ok ps (s.leaveFrame h ret) := by
  unfold State.leaveFrame
  with_reducible repeat'
    first
    | assumption | intro _ | apply State.ewAccept_ok | apply State.announceFail_ok | apply State.modPool_ok | apply State.ite_ok

theorem execLeave_ok (h : EwHdr) (ret : Nat) (s : State) (hs : State.Ok ps s) :
    Outcome.Ok ps (execLeave h ret s) := by
  unfold execLeave
  with_reducible repeat' first | assumption | apply Outcome.ok_next | intro _ | apply State.whileLive_ok | apply State.leaveFrame_ok

theorem State.pupd_ok (s : State) (h : EwHdr) (c : EwCell) (pos : Nat) (op : Nat) (wseq : Nat) (d : List Byte) (hs : State.Ok ps s) :
    State.Ok ps (s.pupd h c pos op wseq d) := by
  unfold State.pupd
  with_reducible repeat'
    first
    | assumption | intro _ | apply State.ewAccept_ok | apply State.sendQupd_ok | apply State.modPool_ok | apply State.sjq_ok
    | apply State.ite_ok | (extract_lets +onlyGivenNames x; clear_value x) | split

theorem execPupd_ok (h : EwHdr) (c : EwCell) (pos : Nat) (op : Nat) (wseq : Nat) (data : List Byte) (s : State) (hs : State.Ok ps s) :
    Outcome.Ok ps (execPupd h c pos op wseq data s) := by
  unfold execPupd
  with_reducible repeat' first | assumption | apply Outcome.ok_next | intro _ | apply State.whileLive_ok | apply State.pupd_ok

theorem State.qupd_ok (s : State) (h : EwHdr) (c : EwCell) (pos : Nat) (op : Nat) (wseq : Nat) (d : List Byte) (hs : State.Ok ps s) :
    State.Ok ps (s.qupd h c pos op wseq d) := by
  unfold State.qupd
  with_reducible repeat'
    first
    | assumption | intro _ | apply State.ewAccept_ok | apply State.modPool_ok | apply State.ewReply_ok | apply State.ite_ok

theorem execQupd_ok (h : EwHdr) (c : EwCell) (pos : Nat) (op : Nat) (wseq : Nat) (data : List Byte) (s : State) (hs : State.Ok ps s) :
    Outcome.Ok ps (execQupd h c pos op wseq data s) := by
  unfold execQupd
  with_reducible repeat' first | assumption | apply Outcome.ok_next | intro _ | apply State.whileLive_ok | apply State.qupd_ok

theorem State.updack_ok (s : State) (h : EwHdr) (c : EwCell) (hs : State.Ok ps s) :
    State.Ok ps (s.updack h c) := by
  unfold State.updack
  with_reducible repeat'
    first
    | assumption | intro _ | apply State.ewAccept_ok | apply State.modPool_ok | apply State.sjq_ok | apply State.plSync_ok
    | apply State.ewSend_ok | apply State.contribClose_ok | apply State.foldl_ok | apply State.ite_ok | split

theorem execUpdack_ok (h : EwHdr) (c : EwCell) (s : State) (hs : State.Ok ps s) :
    Outcome.Ok ps (execUpdack h c s) := by
  unfold execUpdack
  with_reducible repeat' first | assumption | apply Outcome.ok_next | intro _ | apply State.whileLive_ok | apply State.updack_ok

theorem State.resendPupd_ok (s : State) (o : OpenC) (hs : State.Ok ps s) :
    State.Ok ps (s.resendPupd o) := by
  unfold State.resendPupd
  with_reducible repeat' first | assumption | apply State.sendPupd_ok | apply State.modPool_ok

theorem State.updackTimeout_ok (s : State) (g : Nat) (r : Nat) (c : Nat) (op : Nat) (hs : State.Ok ps s) :
    State.Ok ps (s.updackTimeout g r c op) := by
  unfold State.updackTimeout
  with_reducible repeat'
    first
    | assumption | apply State.modPool_ok | apply State.resendPupd_ok | apply State.ewSend_ok | apply State.ite_ok | split

theorem execUpdackTimeout_ok (group : Nat) (row : Nat) (cell : Nat) (op : Nat) (s : State) (hs : State.Ok ps s) :
    Outcome.Ok ps (execUpdackTimeout group row cell op s) := by
  unfold execUpdackTimeout
  with_reducible repeat' first | assumption | apply Outcome.ok_next | intro _ | apply State.whileLive_ok | apply State.updackTimeout_ok

theorem State.pstate_ok (s : State) (h : EwHdr) (c : EwCell) (wseq : Nat) (st : Nat) (hs : State.Ok ps s) :
    State.Ok ps (s.pstate h c wseq st) := by
  unfold State.pstate
  with_reducible repeat'
    first
    | assumption | intro _ | apply State.ewAccept_ok | apply State.onSome_ok | apply State.sendQupd_ok | apply State.ewReply_ok
    | apply State.contribClose_ok | apply State.sendPupd_ok | apply State.ite_ok | split

theorem execPstate_ok (h : EwHdr) (c : EwCell) (wseq : Nat) (st : Nat) (s : State) (hs : State.Ok ps s) :
    Outcome.Ok ps (execPstate h c wseq st s) := by
  unfold execPstate
  with_reducible repeat' first | assumption | apply Outcome.ok_next | intro _ | apply State.whileLive_ok | apply State.pstate_ok

theorem State.pcopy_ok (s : State) (h : EwHdr) (record : List Byte) (d : List Byte) (hs : State.Ok ps s) :
    State.Ok ps (s.pcopy h record d) := by
  unfold State.pcopy
  with_reducible repeat' first | assumption | intro _ | apply State.ewAccept_ok | apply State.ewReply_ok | apply State.modPool_ok

theorem execPcopy_ok (h : EwHdr) (record : List Byte) (data : List Byte) (s : State) (hs : State.Ok ps s) :
    Outcome.Ok ps (execPcopy h record data s) := by
  unfold execPcopy
  with_reducible repeat' first | assumption | apply Outcome.ok_next | intro _ | apply State.whileLive_ok | apply State.pcopy_ok

theorem State.prelease_ok (s : State) (h : EwHdr) (seqs : List Nat) (hs : State.Ok ps s) :
    State.Ok ps (s.prelease h seqs) := by
  unfold State.prelease
  with_reducible repeat' first | assumption | intro _ | apply State.ewAccept_ok | apply State.modPool_ok

theorem execPrelease_ok (h : EwHdr) (seqs : List Nat) (s : State) (hs : State.Ok ps s) :
    Outcome.Ok ps (execPrelease h seqs s) := by
  unfold execPrelease
  with_reducible repeat' first | assumption | apply Outcome.ok_next | intro _ | apply State.whileLive_ok | apply State.prelease_ok

theorem execPartnerTimeout_ok (s : State) (hs : State.Ok ps s) :
    Outcome.Ok ps (execPartnerTimeout s) := by
  unfold execPartnerTimeout
  with_reducible repeat'
    first
    | assumption | apply Outcome.ok_next | intro _ | apply State.whileLive_ok | apply State.unpaired_ok | apply State.pairDrop_ok

theorem State.cread_ok (s : State) (h : EwHdr) (c : EwCell) (pos : Nat) (hs : State.Ok ps s) :
    State.Ok ps (s.cread h c pos) := by
  unfold State.cread
  with_reducible repeat' first | assumption | intro _ | apply State.ewAccept_ok | apply State.ewReply_ok

theorem execCread_ok (h : EwHdr) (c : EwCell) (pos : Nat) (s : State) (hs : State.Ok ps s) :
    Outcome.Ok ps (execCread h c pos s) := by
  unfold execCread
  with_reducible repeat' first | assumption | apply Outcome.ok_next | intro _ | apply State.whileLive_ok | apply State.cread_ok

theorem State.cellSolved_ok (s : State) (x2 : CellRead) (d : List Byte) (hs : State.Ok ps s) :
    State.Ok ps (s.cellSolved x2 d) := by
  unfold State.cellSolved
  with_reducible repeat'
    first
    | assumption | apply State.modPool_ok | apply State.setFld_ok | apply State.clrBit_ok | apply State.poolFrame_ok
    | apply State.ite_ok

theorem State.rowLost_ok (s : State) (x2 : CellRead) (hs : State.Ok ps s) :
    State.Ok ps (s.rowLost x2) := by
  unfold State.rowLost
  with_reducible repeat'
    first
    | assumption | intro _ | apply State.record_ok | apply State.bump_ok | apply State.each_ok | apply State.jq_ok
    | apply State.dataFault_ok | apply State.ite_ok

theorem State.adoptNext_ok (s : State) (x2 : CellRead) (src : Nat) (pos : Nat) (hs : State.Ok ps s) :
    State.Ok ps (s.adoptNext x2 src pos) := by
  unfold State.adoptNext
  with_reducible repeat' first | assumption | apply State.ewSend_ok | apply State.modPool_ok

theorem State.adoptFrame_ok (s : State) (g : Nat) (row : Nat) (cell : Nat) (hs : State.Ok ps s) :
    State.Ok ps (s.adoptFrame g row cell) := by
  unfold State.adoptFrame
  with_reducible repeat'
    first
    | assumption | apply State.modMap_ok | apply State.ite_ok
    | (extract_lets +onlyGivenNames x; refine (fun hx => ?_ : State.Ok ps x → _) ?_; rotate_left; unfold x; clear x; rotate_right; clear_value x)
    | split | (apply State.mk_ok; first | assumption | apply State.modMap_ok | apply State.ite_ok | split)

theorem State.applyRetained_ok (s : State) (id : Nat) (hs : State.Ok ps s) :
    State.Ok ps (s.applyRetained id) := by
  unfold State.applyRetained
  with_reducible repeat' first | assumption | apply State.modMap_ok

theorem State.adoptDone_ok (s : State) (hs : State.Ok ps s) :
    State.Ok ps (s.adoptDone) := by
  unfold State.adoptDone
  with_reducible repeat'
    first
    | assumption | intro _ | apply State.each_ok | apply State.adoptFrame_ok | apply State.headerScan_ok | apply State.modPool_ok
    | apply State.applyRetained_ok | apply State.plSync_ok | apply State.poolSettle_ok | apply State.when_ok | apply State.clrBit_ok
    | apply State.setFld_ok | apply State.foldl_ok

theorem State.adoptCell_ok (s : State) (x2 : CellRead) (src : Nat) (pos : Nat) (d : Option (List Byte)) (hs : State.Ok ps s) :
    State.Ok ps (s.adoptCell x2 src pos d) := by
  unfold State.adoptCell
  with_reducible repeat'
    first
    | assumption | apply State.adoptDone_ok | apply State.adoptNext_ok | apply State.modPool_ok | apply State.ite_ok | split

theorem State.cdata_ok (s : State) (h : EwHdr) (c : EwCell) (pos : Nat) (lost : Bool) (d : List Byte) (hs : State.Ok ps s) :
    State.Ok ps (s.cdata h c pos lost d) := by
  unfold State.cdata
  with_reducible repeat'
    first
    | assumption | intro _ | apply State.ewAccept_ok | apply State.adoptCell_ok | apply State.modPool_ok | apply State.cellSolved_ok
    | apply State.rowLost_ok | apply State.ite_ok
    | (extract_lets +onlyGivenNames x; refine (fun hx => ?_ : State.Ok ps x → _) ?_; rotate_left; unfold x; clear x; rotate_right; clear_value x)
    | split

theorem execCdata_ok (h : EwHdr) (c : EwCell) (pos : Nat) (lost : Bool) (data : List Byte) (s : State) (hs : State.Ok ps s) :
    Outcome.Ok ps (execCdata h c pos lost data s) := by
  unfold execCdata
  with_reducible repeat'
    first
    | assumption | apply Outcome.ok_next | intro _ | apply State.whileLive_ok | apply State.standbyStep_ok | apply State.cdata_ok

theorem State.poolRebuild_ok (s : State) (g : Nat) (r : Nat) (c : Nat) (hs : State.Ok ps s) :
    State.Ok ps (s.poolRebuild g r c) := by
  unfold State.poolRebuild
  with_reducible repeat' first | assumption | apply State.setBit_ok | apply State.readRow_ok | apply State.ite_ok | split

theorem execPoolRebuildRow_ok (group : Nat) (row : Nat) (cell : Nat) (s : State) (hs : State.Ok ps s) :
    Outcome.Ok ps (execPoolRebuildRow group row cell s) := by
  unfold execPoolRebuildRow
  with_reducible repeat' first | assumption | apply Outcome.ok_next | intro _ | apply State.whileLive_ok | apply State.poolRebuild_ok

theorem State.ptp_ok (s : State) (port : Nat) (toff : Int) (err : Int) (hs : State.Ok ps s) :
    State.Ok ps (s.ptp port toff err) := by
  unfold State.ptp
  with_reducible repeat' first | assumption | apply State.setFld_ok | apply State.modPool_ok | apply State.clrBit_ok

theorem execPtpMessage_ok (port : Nat) (toff : Int) (err : Int) (s : State) (hs : State.Ok ps s) :
    Outcome.Ok ps (execPtpMessage port toff err s) := by
  unfold execPtpMessage
  with_reducible repeat'
    first
    | assumption | apply Outcome.ok_next | intro _ | apply State.whileLive_ok | apply State.ptp_ok | apply State.ite_ok

theorem execAnnounceTimeout_ok (s : State) (hs : State.Ok ps s) :
    Outcome.Ok ps (execAnnounceTimeout s) := by
  unfold execAnnounceTimeout
  with_reducible repeat'
    first
    | assumption | apply Outcome.ok_next | intro _ | apply State.whileLive_ok | apply State.setBit_ok | apply State.clrBit_ok
    | apply State.ite_ok

theorem execPpsSecond_ok (s : State) (hs : State.Ok ps s) :
    Outcome.Ok ps (execPpsSecond s) := by
  unfold execPpsSecond
  with_reducible repeat'
    first
    | assumption | apply Outcome.ok_next | intro _ | apply State.whileLive_ok | apply State.modPins_ok | apply State.ite_ok

theorem execEthernetLinkChange_ok (port : Nat) (up : Bool) (s : State) (hs : State.Ok ps s) :
    Outcome.Ok ps (execEthernetLinkChange port up s) := by
  unfold execEthernetLinkChange
  with_reducible repeat' first | assumption | apply Outcome.ok_next | intro _ | apply State.whileLive_ok | apply State.setFld_ok

theorem State.netReply_ok (s : State) (o : NetOut) (hs : State.Ok ps s) :
    State.Ok ps (s.netReply o) := by
  unfold State.netReply
  with_reducible repeat' first | assumption | apply State.modPool_ok | apply State.ite_ok

theorem execNeighborDiscovery_ok (port : Nat) (s : State) (hs : State.Ok ps s) :
    Outcome.Ok ps (execNeighborDiscovery port s) := by
  unfold execNeighborDiscovery
  with_reducible repeat' first | assumption | apply Outcome.ok_next | intro _ | apply State.whileLive_ok | apply State.netReply_ok

theorem execIcmpv6EchoRequest_ok (port : Nat) (s : State) (hs : State.Ok ps s) :
    Outcome.Ok ps (execIcmpv6EchoRequest port s) := by
  unfold execIcmpv6EchoRequest
  with_reducible repeat' first | assumption | apply Outcome.ok_next | intro _ | apply State.whileLive_ok | apply State.netReply_ok

theorem execMldQuery_ok (port : Nat) (s : State) (hs : State.Ok ps s) :
    Outcome.Ok ps (execMldQuery port s) := by
  unfold execMldQuery
  with_reducible repeat' first | assumption | apply Outcome.ok_next | intro _ | apply State.whileLive_ok | apply State.netReply_ok

theorem execEweridDatagramDropped_ok (s : State) (hs : State.Ok ps s) :
    Outcome.Ok ps (execEweridDatagramDropped s) := by
  unfold execEweridDatagramDropped
  with_reducible repeat'
    first
    | assumption | apply Outcome.ok_next | intro _ | apply State.whileLive_ok | apply State.bump_ok | apply State.ite_ok

theorem State.relayout_ok (s : State) (r : Nat) (tag : Nat) (hs : State.Ok ps s) :
    State.Ok ps (s.relayout r tag) := by
  unfold State.relayout
  with_reducible repeat'
    first
    | assumption | intro _ | apply State.ringStart_ok | apply State.ringEnd_ok | apply State.sendLayout_ok | apply State.adoptLayout_ok
    | apply State.setFld_ok | apply State.ite_ok

theorem execPoolRelayout_ok (ring : Nat) (tag : Nat) (s : State) (hs : State.Ok ps s) :
    Outcome.Ok ps (execPoolRelayout ring tag s) := by
  unfold execPoolRelayout
  with_reducible repeat' first | assumption | apply Outcome.ok_next | intro _ | apply State.whileLive_ok | apply State.relayout_ok

theorem State.adoptMember_ok (s : State) (r : Nat) (tag : Nat) (hs : State.Ok ps s) :
    State.Ok ps (s.adoptMember r tag) := by
  unfold State.adoptMember
  with_reducible repeat'
    first
    | assumption | intro _ | apply State.ringStart_ok | apply State.ringEnd_ok | apply State.adoptBegin_ok | apply State.ite_ok

theorem execPoolAdopt_ok (ring : Nat) (tag : Nat) (s : State) (hs : State.Ok ps s) :
    Outcome.Ok ps (execPoolAdopt ring tag s) := by
  unfold execPoolAdopt
  with_reducible repeat' first | assumption | apply Outcome.ok_next | intro _ | apply State.whileLive_ok | apply State.adoptMember_ok

theorem State.porstRise_ok (s : State) (powerOn : Bool) (tpEn : Bool) (hs : State.Ok ps s) :
    State.Ok ps (s.porstRise powerOn tpEn) := by
  unfold State.porstRise
  with_reducible repeat'
    first
    | assumption | apply State.rebooted_ok | apply State.setFld_ok | apply State.enableRail_ok | apply State.modPower_ok
    | apply State.ite_ok
    | (extract_lets +onlyGivenNames x; refine (fun hx => ?_ : State.Ok ps x → _) ?_; rotate_left; unfold x; clear x; rotate_right; clear_value x)
    | (apply State.mk_ok; first | assumption | apply State.rebooted_ok | apply State.setFld_ok | apply State.enableRail_ok | apply State.modPower_ok | apply State.ite_ok)

theorem execPorstLRise_ok (powerOn : Bool) (tpEn : Bool) (s : State) (hs : State.Ok ps s) :
    Outcome.Ok ps (execPorstLRise powerOn tpEn s) := by
  unfold execPorstLRise
  with_reducible repeat' first | assumption | apply Outcome.ok_next | apply State.porstRise_ok

theorem State.railInRange_ok (s : State) (hs : State.Ok ps s) :
    State.Ok ps (s.railInRange) := by
  unfold State.railInRange
  with_reducible repeat' first | assumption | apply State.modPower_ok | apply State.railOk_ok | split

theorem execSeqRailInRange_ok (s : State) (hs : State.Ok ps s) :
    Outcome.Ok ps (execSeqRailInRange s) := by
  unfold execSeqRailInRange
  with_reducible repeat' first | assumption | apply Outcome.ok_next | apply State.railInRange_ok

theorem State.dwellEnd_ok (s : State) (failed : Nat) (hs : State.Ok ps s) :
    State.Ok ps (s.dwellEnd failed) := by
  unfold State.dwellEnd
  with_reducible repeat' first | assumption | apply State.enableRail_ok | apply State.bootStart_ok | apply State.ite_ok | split

theorem execSeqDwellEnd_ok (failed : Nat) (s : State) (hs : State.Ok ps s) :
    Outcome.Ok ps (execSeqDwellEnd failed s) := by
  unfold execSeqDwellEnd
  with_reducible repeat' first | assumption | apply Outcome.ok_next | apply State.dwellEnd_ok

theorem State.railTimeout_ok (s : State) (hs : State.Ok ps s) :
    State.Ok ps (s.railTimeout) := by
  unfold State.railTimeout
  with_reducible repeat'
    first
    | assumption | apply State.setFld_ok | apply State.railsOff_ok | apply State.modPower_ok | apply State.modPins_ok
    | apply State.setBit_ok | apply State.ite_ok | split

theorem execSeqRailTimeout_ok (s : State) (hs : State.Ok ps s) :
    Outcome.Ok ps (execSeqRailTimeout s) := by
  unfold execSeqRailTimeout
  with_reducible repeat' first | assumption | apply Outcome.ok_next | apply State.railTimeout_ok

theorem State.retryRails_ok (s : State) (hs : State.Ok ps s) :
    State.Ok ps (s.retryRails) := by
  unfold State.retryRails
  with_reducible repeat' first | assumption | apply State.enableRail_ok | apply State.modPower_ok | split

theorem execSeqRetryTimer_ok (s : State) (hs : State.Ok ps s) :
    Outcome.Ok ps (execSeqRetryTimer s) := by
  unfold execSeqRetryTimer
  with_reducible repeat' first | assumption | apply Outcome.ok_next | apply State.retryRails_ok

theorem State.porstFall_ok (s : State) (hs : State.Ok ps s) :
    State.Ok ps (s.porstFall) := by
  unfold State.porstFall
  with_reducible repeat'
    first
    | assumption | apply State.modPins_ok | apply State.linkDown_ok | apply State.retractTrigger_ok | apply State.closeAllGates_ok
    | apply State.modPower_ok | apply State.clrBit_ok | apply State.powerDown_ok | apply State.disableRail_ok | apply State.ite_ok
    | (extract_lets +onlyGivenNames x; refine (fun hx => ?_ : State.Ok ps x → _) ?_; rotate_left; unfold x; clear x; rotate_right; clear_value x)
    | split

theorem execPorstLFall_ok (s : State) (hs : State.Ok ps s) :
    Outcome.Ok ps (execPorstLFall s) := by
  unfold execPorstLFall
  with_reducible repeat' first | assumption | apply Outcome.ok_next | apply State.porstFall_ok

theorem State.downStep_ok (s : State) (hs : State.Ok ps s) :
    State.Ok ps (s.downStep) := by
  unfold State.downStep
  with_reducible repeat' first | assumption | apply State.modPower_ok | apply State.disableRail_ok | split

theorem execPowerdownRailFallen_ok (s : State) (hs : State.Ok ps s) :
    Outcome.Ok ps (execPowerdownRailFallen s) := by
  unfold execPowerdownRailFallen
  with_reducible repeat' first | assumption | apply Outcome.ok_next | apply State.downStep_ok

theorem execPowerdownStepTimeout_ok (s : State) (hs : State.Ok ps s) :
    Outcome.Ok ps (execPowerdownStepTimeout s) := by
  unfold execPowerdownStepTimeout
  with_reducible repeat' first | assumption | apply Outcome.ok_next | apply State.downStep_ok

theorem State.vanaTrip_ok (s : State) (hs : State.Ok ps s) :
    State.Ok ps (s.vanaTrip) := by
  unfold State.vanaTrip
  with_reducible repeat'
    first
    | assumption | apply State.standbyStep_ok | apply State.domSettle_ok | apply State.laneOff_ok | apply State.domainFault_ok
    | apply State.railOk_ok

theorem State.vserTrip_ok (s : State) (hs : State.Ok ps s) :
    State.Ok ps (s.vserTrip) := by
  unfold State.vserTrip
  with_reducible repeat'
    first
    | assumption | apply State.standbyStep_ok | apply State.domSettle_ok | apply State.domainFault_ok | apply State.linkDown_ok
    | apply State.modPower_ok | apply State.railOk_ok

theorem State.railTrip_ok (s : State) (r : Rail) (hs : State.Ok ps s) :
    State.Ok ps (s.railTrip r) := by
  unfold State.railTrip
  with_reducible repeat'
    first
    | assumption | apply State.vanaTrip_ok | apply State.vserTrip_ok | apply State.supplyReset_ok | apply State.ite_ok | split

theorem execRailMonitorTrip_ok (r : Rail) (s : State) (hs : State.Ok ps s) :
    Outcome.Ok ps (execRailMonitorTrip r s) := by
  unfold execRailMonitorTrip
  with_reducible repeat' first | assumption | apply Outcome.ok_next | apply State.railTrip_ok

theorem State.supplyRelease_ok (s : State) (vmLow : Bool) (hs : State.Ok ps s) :
    State.Ok ps (s.supplyRelease vmLow) := by
  unfold State.supplyRelease
  with_reducible repeat'
    first
    | assumption | apply State.enableRail_ok | apply State.modPower_ok | apply State.setFld_ok | apply State.ite_ok

theorem execSupplyResetRelease_ok (vmLow : Bool) (s : State) (hs : State.Ok ps s) :
    Outcome.Ok ps (execSupplyResetRelease vmLow s) := by
  unfold execSupplyResetRelease
  with_reducible repeat' first | assumption | apply Outcome.ok_next | apply State.supplyRelease_ok

theorem State.retrain_ok (s : State) (hs : State.Ok ps s) :
    State.Ok ps (s.retrain) := by
  unfold State.retrain
  with_reducible repeat'
    first
    | assumption | apply State.trainLinks_ok | apply State.modPower_ok | apply State.railOk_ok | apply State.ite_ok

theorem execVserLinkRetrain_ok (s : State) (hs : State.Ok ps s) :
    Outcome.Ok ps (execVserLinkRetrain s) := by
  unfold execVserLinkRetrain
  with_reducible repeat' first | assumption | apply Outcome.ok_next | apply State.retrain_ok

theorem State.vmWarn_ok (s : State) (hs : State.Ok ps s) :
    State.Ok ps (s.vmWarn) := by
  unfold State.vmWarn
  with_reducible repeat'
    first
    | assumption | apply State.abandonRuns_ok | apply State.modPower_ok | apply State.setBit_ok | apply State.rideBegin_ok
    | apply State.setFld_ok | apply State.ite_ok

theorem execVmWarning_ok (s : State) (hs : State.Ok ps s) :
    Outcome.Ok ps (execVmWarning s) := by
  unfold execVmWarning
  with_reducible repeat' first | assumption | apply Outcome.ok_next | apply State.vmWarn_ok

theorem State.vmClear_ok (s : State) (hs : State.Ok ps s) :
    State.Ok ps (s.vmClear) := by
  unfold State.vmClear
  with_reducible repeat' first | assumption | apply State.modPower_ok | apply State.setFld_ok | apply State.ite_ok

theorem execVmWarningClear_ok (s : State) (hs : State.Ok ps s) :
    Outcome.Ok ps (execVmWarningClear s) := by
  unfold execVmWarningClear
  with_reducible repeat' first | assumption | apply Outcome.ok_next | apply State.vmClear_ok

theorem State.waitOver_ok (s : State) (hs : State.Ok ps s) :
    State.Ok ps (s.waitOver) := by
  unfold State.waitOver
  with_reducible repeat'
    first
    | assumption | apply State.vmToNormal_ok | apply State.rideEnd_ok | apply State.modPower_ok | apply State.ite_ok

theorem execRecoveryWaitExpiry_ok (s : State) (hs : State.Ok ps s) :
    Outcome.Ok ps (execRecoveryWaitExpiry s) := by
  unfold execRecoveryWaitExpiry
  with_reducible repeat' first | assumption | apply Outcome.ok_next | apply State.waitOver_ok

theorem State.rideOver_ok (s : State) (hs : State.Ok ps s) :
    State.Ok ps (s.rideOver) := by
  unfold State.rideOver
  with_reducible repeat'
    first
    | assumption | apply State.resumeReads_ok | apply State.parkHold_ok | apply State.modPower_ok | apply State.setFld_ok
    | apply State.rideEnd_ok | apply State.ite_ok

theorem execRideTimerExpiry_ok (s : State) (hs : State.Ok ps s) :
    Outcome.Ok ps (execRideTimerExpiry s) := by
  unfold execRideTimerExpiry
  with_reducible repeat' first | assumption | apply Outcome.ok_next | apply State.rideOver_ok

theorem State.vmGone_ok (s : State) (hs : State.Ok ps s) :
    State.Ok ps (s.vmGone) := by
  unfold State.vmGone
  with_reducible repeat'
    first
    | assumption | apply State.rideEnd_ok | apply State.retractTrigger_ok | apply State.closeAllGates_ok | apply State.modTier_ok
    | apply State.modMap_ok | apply State.setFld_ok | apply State.setBit_ok | apply State.clrBit_ok | apply State.resumeReads_ok
    | apply State.holdFrom_ok | apply State.abandonRuns_ok | apply State.modPower_ok | apply State.ite_ok

theorem execVmLoss_ok (s : State) (hs : State.Ok ps s) :
    Outcome.Ok ps (execVmLoss s) := by
  unfold execVmLoss
  with_reducible repeat' first | assumption | apply Outcome.ok_next | apply State.vmGone_ok

theorem State.vmUp_ok (s : State) (hs : State.Ok ps s) :
    State.Ok ps (s.vmUp) := by
  unfold State.vmUp
  with_reducible repeat'
    first
    | assumption | intro _ | apply State.modPower_ok | apply State.when_ok | apply State.setBit_ok | apply State.restoreBoth_ok
    | apply State.vmToNormal_ok | apply State.wantSpin_ok | apply State.ite_ok

theorem execVmRestored_ok (s : State) (hs : State.Ok ps s) :
    Outcome.Ok ps (execVmRestored s) := by
  unfold execVmRestored
  with_reducible repeat' first | assumption | apply Outcome.ok_next | apply State.vmUp_ok

theorem State.vmMeasure_ok (s : State) (mv : Nat) (hs : State.Ok ps s) :
    State.Ok ps (s.vmMeasure mv) := by
  unfold State.vmMeasure
  with_reducible repeat' first | assumption | apply State.setFld_ok | apply State.sample_ok | apply State.keepBest_ok | apply State.ite_ok

theorem execVmMeasurement_ok (mv : Nat) (s : State) (hs : State.Ok ps s) :
    Outcome.Ok ps (execVmMeasurement mv s) := by
  unfold execVmMeasurement
  with_reducible repeat' first | assumption | apply Outcome.ok_next | apply State.vmMeasure_ok

theorem State.goIdle_ok (s : State) (hs : State.Ok ps s) :
    State.Ok ps (s.goIdle) := by
  unfold State.goIdle
  with_reducible repeat'
    first
    | assumption | intro _ | apply State.setFld_ok | apply State.each_ok | apply State.abandonRuns_ok | apply State.closeAllGates_ok
    | apply State.ite_ok

theorem execIdleTimerExpiry_ok (s : State) (hs : State.Ok ps s) :
    Outcome.Ok ps (execIdleTimerExpiry s) := by
  unfold execIdleTimerExpiry
  with_reducible repeat' first | assumption | apply Outcome.ok_next | apply State.whileLive_ok | apply State.goIdle_ok

theorem execHibernateWake_ok (s : State) (hs : State.Ok ps s) :
    Outcome.Ok ps (execHibernateWake s) := by
  unfold execHibernateWake
  with_reducible repeat' first | assumption | apply Outcome.ok_next | apply State.wakeHibernate_ok

theorem State.passTick_ok (s : State) (hs : State.Ok ps s) :
    State.Ok ps (s.passTick) := by
  unfold State.passTick
  with_reducible repeat' first | assumption | apply State.ite_ok | (apply State.mk_ok; first | assumption | apply State.ite_ok)

end Sys2Proof.Machine
end

