-- ==== Sys2Proof/Laws/KeepRest.lean ====
section
/-! SUPPORT. Every operation and every meaning keeps the queue and the canonical form of the stores (`State.Ok`):
registers, rings, security, servo, the log, thermal protection, the order of events and the spindle.
Each lemma follows the steps of its definition, with the lemmas of what that calls. -/
namespace Sys2Proof.Machine

variable {ps : List Instr}

theorem State.latchHi_ok (s : State) (addr : Nat) (hs : State.Ok ps s) :
    State.Ok ps (s.latchHi addr) := by
  unfold State.latchHi
  with_reducible repeat' first | assumption | apply State.setFld_ok | apply State.ite_ok

theorem State.readClears_ok (s : State) (addr : Nat) (hs : State.Ok ps s) :
    State.Ok ps (s.readClears addr) := by
  unfold State.readClears
  with_reducible repeat' first | assumption | intro _ | apply State.each_ok | apply State.setThen_ok | apply State.setFld_ok | split

theorem State.readOne_ok (s : State) (addr : Nat) (hs : State.Ok ps s) :
    State.Ok ps (s.readOne addr) := by
  unfold State.readOne
  with_reducible repeat'
    first
    | assumption | apply State.readClears_ok | apply State.latchHi_ok
    | (extract_lets +onlyGivenNames x; refine (fun hx => ?_ : State.Ok ps x → _) ?_; rotate_left; unfold x; clear x; rotate_right; clear_value x)
    | (apply State.mk_ok; first | assumption | apply State.readClears_ok | apply State.latchHi_ok)

theorem State.regRead_ok (s : State) (addr : Nat) (len : Nat) (hs : State.Ok ps s) :
    State.Ok ps (s.regRead addr len) := by
  unfold State.regRead
  with_reducible repeat'
    first
    | assumption | intro _ | apply State.each_ok | apply State.readOne_ok
    | (extract_lets +onlyGivenNames x; refine (fun hx => ?_ : State.Ok ps x → _) ?_; rotate_left; unfold x; clear x; rotate_right; clear_value x)
    | (apply State.mk_ok; first | assumption | apply State.each_ok | apply State.readOne_ok)

theorem execRegisterReadClear_ok (addr : Nat) (len : Nat) (s : State) (hs : State.Ok ps s) :
    Outcome.Ok ps (execRegisterReadClear addr len s) := by
  unfold execRegisterReadClear
  with_reducible repeat' first | assumption | apply Outcome.ok_next | intro _ | apply State.whileLive_ok | apply State.regRead_ok

theorem execCounterLoRead_ok (c : Counter64) (s : State) (hs : State.Ok ps s) :
    Outcome.Ok ps (execCounterLoRead c s) := by
  unfold execCounterLoRead
  with_reducible repeat' first | assumption | apply Outcome.ok_next | intro _ | apply State.whileLive_ok | apply State.regRead_ok

theorem State.writeWord_ok (s : State) (addr : Nat) (w : Word32) (hs : State.Ok ps s) :
    State.Ok ps (s.writeWord addr w) := by
  unfold State.writeWord
  with_reducible repeat'
    first
    | assumption | intro _ | apply State.bltWrite_ok | apply State.each_ok | apply State.setFld_ok | apply State.setReg_ok
    | apply State.ite_ok | split

theorem State.regWrite_ok (s : State) (addr : Nat) (data : List Byte) (hs : State.Ok ps s) :
    State.Ok ps (s.regWrite addr data) := by
  unfold State.regWrite
  with_reducible repeat' first | assumption | intro _ | apply State.each_ok | apply State.writeWord_ok | apply State.ite_ok

theorem execRegisterWrite_ok (addr : Nat) (data : List Byte) (s : State) (hs : State.Ok ps s) :
    Outcome.Ok ps (execRegisterWrite addr data s) := by
  unfold execRegisterWrite
  with_reducible repeat' first | assumption | apply Outcome.ok_next | intro _ | apply State.whileLive_ok | apply State.regWrite_ok

theorem State.refLost_ok (s : State) (hs : State.Ok ps s) :
    State.Ok ps (s.refLost) := by
  unfold State.refLost
  with_reducible repeat'
    first
    | assumption | intro _ | apply State.whileLive_ok | apply State.setBit_ok | apply State.record_ok | apply State.parkHold_ok
    | apply State.closeAllGates_ok | apply State.ite_ok

theorem execReferenceLoss_ok (s : State) (hs : State.Ok ps s) :
    Outcome.Ok ps (execReferenceLoss s) := by
  unfold execReferenceLoss
  with_reducible repeat' first | assumption | apply Outcome.ok_next | apply State.refLost_ok

theorem State.refBack_ok (s : State) (hs : State.Ok ps s) :
    State.Ok ps (s.refBack) := by
  unfold State.refBack
  with_reducible repeat'
    first
    | assumption | intro _ | apply State.whileLive_ok | apply State.clrBit_ok | apply State.restoreBoth_ok | apply State.record_ok
    | apply State.ite_ok

theorem execReferenceRestored_ok (s : State) (hs : State.Ok ps s) :
    Outcome.Ok ps (execReferenceRestored s) := by
  unfold execReferenceRestored
  with_reducible repeat' first | assumption | apply Outcome.ok_next | apply State.refBack_ok

theorem State.rateMeasured_ok (s : State) (rate : Nat) (hs : State.Ok ps s) :
    State.Ok ps (s.rateMeasured rate) := by
  unfold State.rateMeasured
  with_reducible repeat' first | assumption | apply State.setFld_ok | apply State.keepBest_ok

theorem execHelperRateMeasurement_ok (rate : Nat) (s : State) (hs : State.Ok ps s) :
    Outcome.Ok ps (execHelperRateMeasurement rate s) := by
  unfold execHelperRateMeasurement
  with_reducible repeat' first | assumption | apply Outcome.ok_next | intro _ | apply State.whileLive_ok | apply State.rateMeasured_ok

theorem State.ringLinks_ok (s : State) (r : Nat) (links : List (Nat × Bool × Bool)) (hs : State.Ok ps s) :
    State.Ok ps (s.ringLinks r links) := by
  unfold State.ringLinks
  with_reducible repeat'
    first
    | assumption | intro _ | apply State.each_ok | apply State.ringMoved_ok | apply State.ringSync_ok | apply State.modDesc_ok
    | apply State.ite_ok | split

theorem State.srDoorbell_ok (s : State) (r : Nat) (tail : Nat) (cqHead : Nat) (links : List (Nat × Bool × Bool)) (hostErr : Bool)
    (hs : State.Ok ps s) :
    State.Ok ps (s.srDoorbell r tail cqHead links hostErr) := by
  unfold State.srDoorbell
  with_reducible repeat'
    first
    | assumption | intro _ | apply State.setBit_ok | apply State.when_ok | apply State.modRing_ok | apply State.ringHostErr_ok
    | apply State.ringSettle_ok | apply State.ringLinks_ok | apply State.ringDrainHeld_ok | apply State.ite_ok

theorem execSrDoorbell_ok (ring : Nat) (tail : Nat) (cqHead : Nat) (links : List (Nat × Bool × Bool)) (hostErr : Bool) (s : State)
    (hs : State.Ok ps s) :
    Outcome.Ok ps (execSrDoorbell ring tail cqHead links hostErr s) := by
  unfold execSrDoorbell
  with_reducible repeat' first | assumption | apply Outcome.ok_next | intro _ | apply State.whileLive_ok | apply State.srDoorbell_ok

theorem State.srPush_ok (s : State) (r : Nat) (count : Nat) (hs : State.Ok ps s) :
    State.Ok ps (s.srPush r count) := by
  unfold State.srPush
  with_reducible repeat' first | assumption | apply State.setBit_ok | apply State.modRing_ok | apply State.ite_ok

theorem execSrPush_ok (ring : Nat) (count : Nat) (s : State) (hs : State.Ok ps s) :
    Outcome.Ok ps (execSrPush ring count s) := by
  unfold execSrPush
  with_reducible repeat' first | assumption | apply Outcome.ok_next | intro _ | apply State.whileLive_ok | apply State.srPush_ok

theorem State.descriptorFetch_ok (s : State) (r : Nat) (bytes : List Byte) (auth : Option (List Byte)) (hostErr : Bool)
    (hs : State.Ok ps s) :
    State.Ok ps (s.descriptorFetch r bytes auth hostErr) := by
  unfold State.descriptorFetch
  with_reducible repeat'
    first
    | assumption | intro _ | apply State.ringHostErr_ok | apply State.ringHead_ok | apply State.ringSync_ok | apply State.modRing_ok
    | apply State.when_ok | apply State.setFldBit_ok | apply State.ringEnd_ok | refine State.modRings_ok _ (fun _ => ⟨rfl, rfl⟩) ?_
    | apply State.ite_ok
    | (extract_lets +onlyGivenNames x; refine (fun hx => ?_ : State.Ok ps x → _) ?_; rotate_left; unfold x; clear x; rotate_right; clear_value x)
    | (extract_lets +onlyGivenNames x; clear_value x) | split

theorem execDescriptorFetch_ok (ring : Nat) (bytes : List Byte) (auth : Option (List Byte)) (hostErr : Bool) (s : State)
    (hs : State.Ok ps s) :
    Outcome.Ok ps (execDescriptorFetch ring bytes auth hostErr s) := by
  unfold execDescriptorFetch
  with_reducible repeat' first | assumption | apply Outcome.ok_next | intro _ | apply State.whileLive_ok | apply State.descriptorFetch_ok

theorem State.ringEnable_ok (s : State) (r : Nat) (w : Word32) (hs : State.Ok ps s) :
    State.Ok ps (s.ringEnable r w) := by
  unfold State.ringEnable
  with_reducible repeat'
    first
    | assumption | apply State.setFld_ok | apply State.setBit_ok | apply State.modRing_ok | apply State.ringSync_ok
    | apply State.hostWrite_ok | apply State.ite_ok

theorem execRingEnable_ok (ring : Nat) (w : Word32) (s : State) (hs : State.Ok ps s) :
    Outcome.Ok ps (execRingEnable ring w s) := by
  unfold execRingEnable
  with_reducible repeat' first | assumption | apply Outcome.ok_next | intro _ | apply State.whileLive_ok | apply State.ringEnable_ok

theorem State.ringDisable_ok (s : State) (r : Nat) (w : Word32) (hs : State.Ok ps s) :
    State.Ok ps (s.ringDisable r w) := by
  unfold State.ringDisable
  with_reducible repeat' first | assumption | apply State.setFld_ok | apply State.ringDrain_ok | apply State.ite_ok

theorem execRingDisable_ok (ring : Nat) (w : Word32) (s : State) (hs : State.Ok ps s) :
    Outcome.Ok ps (execRingDisable ring w s) := by
  unfold execRingDisable
  with_reducible repeat' first | assumption | apply Outcome.ok_next | intro _ | apply State.whileLive_ok | apply State.ringDisable_ok

theorem State.ringDrainTimeout_ok (s : State) (r : Nat) (hs : State.Ok ps s) :
    State.Ok ps (s.ringDrainTimeout r) := by
  unfold State.ringDrainTimeout
  with_reducible repeat'
    first
    | assumption | intro _ | apply State.ringSettle_ok | apply State.each_ok | apply State.ringComplete_ok | apply State.ringEnd_ok
    | apply State.modDesc_ok | apply State.ringMoved_ok | apply State.ite_ok

theorem execRingDrainTimeout_ok (ring : Nat) (s : State) (hs : State.Ok ps s) :
    Outcome.Ok ps (execRingDrainTimeout ring s) := by
  unfold execRingDrainTimeout
  with_reducible repeat' first | assumption | apply Outcome.ok_next | intro _ | apply State.whileLive_ok | apply State.ringDrainTimeout_ok

theorem execMoverRead_ok (ring : Nat) (tag : Nat) (blocks : List ChainBlock) (ok : Nat) (f : MemFaults) (s : State) (hs : State.Ok ps s) :
    Outcome.Ok ps (execMoverRead ring tag blocks ok f s) := by
  unfold execMoverRead
  with_reducible repeat'
    first
    | assumption | apply Outcome.ok_next | intro _ | apply State.whileLive_ok | apply State.memSettle_ok | apply State.ringMove_ok

theorem execMoverWrite_ok (ring : Nat) (tag : Nat) (blocks : List ChainBlock) (data : List Byte) (f : MemFaults) (s : State)
    (hs : State.Ok ps s) :
    Outcome.Ok ps (execMoverWrite ring tag blocks data f s) := by
  unfold execMoverWrite
  with_reducible repeat'
    first
    | assumption | apply Outcome.ok_next | intro _ | apply State.whileLive_ok | apply State.memSettle_ok | apply State.ringMove_ok

theorem State.sampleExport_ok (s : State) (r : Nat) (tag : Nat) (caps : List (List Byte)) (ok : Bool) (hs : State.Ok ps s) :
    State.Ok ps (s.sampleExport r tag caps ok) := by
  unfold State.sampleExport
  with_reducible repeat'
    first
    | assumption | intro _ | apply State.ringStart_ok | apply State.ringInvalid_ok | apply State.ringOut_ok | apply State.ite_ok

theorem execSampleExport_ok (ring : Nat) (tag : Nat) (caps : List (List Byte)) (ok : Bool) (s : State) (hs : State.Ok ps s) :
    Outcome.Ok ps (execSampleExport ring tag caps ok s) := by
  unfold execSampleExport
  with_reducible repeat' first | assumption | apply Outcome.ok_next | intro _ | apply State.whileLive_ok | apply State.sampleExport_ok

theorem State.pinEach_ok (s : State) (x2 : List IndexEntry) (hs : State.Ok ps s) :
    State.Ok ps (s.pinEach x2).1 := by
  induction x2 generalizing s <;> unfold State.pinEach
  with_reducible repeat' first | assumption | apply State.bump_ok | (apply State.pin_ok'; assumption) | split | apply_assumption

theorem State.pinEach_ok' {s : State} {x2 : List IndexEntry} {t : State} {b : List IndexEntry} (e : State.pinEach s x2 = (t, b))
    (hs : State.Ok ps s) : State.Ok ps t := by
  have h := State.pinEach_ok (ps := ps) s x2 hs
  rw [e] at h
  exact h

theorem State.trackDump_ok (s : State) (r : Nat) (tag : Nat) (caps : List (List Byte)) (ok : Bool) (hs : State.Ok ps s) :
    State.Ok ps (s.trackDump r tag caps ok) := by
  unfold State.trackDump
  with_reducible repeat'
    first
    | assumption | intro _ | apply State.pinEach_ok | apply State.unpin_ok | apply State.ringEnd_ok | apply State.hostWrite_ok
    | apply State.ringStart_ok | apply State.ringInvalid_ok | apply State.each_ok | apply State.askReread_ok | apply State.ite_ok
    | split

theorem execTrackDump_ok (ring : Nat) (tag : Nat) (caps : List (List Byte)) (ok : Bool) (s : State) (hs : State.Ok ps s) :
    Outcome.Ok ps (execTrackDump ring tag caps ok s) := by
  unfold execTrackDump
  with_reducible repeat' first | assumption | apply Outcome.ok_next | intro _ | apply State.whileLive_ok | apply State.trackDump_ok

theorem State.calibrationRun_ok (s : State) (r : Nat) (tag : Nat) (hs : State.Ok ps s) :
    State.Ok ps (s.calibrationRun r tag) := by
  unfold State.calibrationRun
  with_reducible repeat'
    first
    | assumption | intro _ | apply State.ringStart_ok | apply State.calSync_ok | apply State.setCause_ok | apply State.modCal_ok

theorem execCalibrationRun_ok (ring : Nat) (tag : Nat) (s : State) (hs : State.Ok ps s) :
    Outcome.Ok ps (execCalibrationRun ring tag s) := by
  unfold execCalibrationRun
  with_reducible repeat' first | assumption | apply Outcome.ok_next | intro _ | apply State.whileLive_ok | apply State.calibrationRun_ok

theorem State.gaugeAction_ok (s : State) (r : Nat) (tag : Nat) (a : Nat) (f : State → RingDesc → Nat → Nat → State)
    (hs : State.Ok ps s) (h5 : ∀ y0 y1 y2 y3, State.Ok ps y0 → State.Ok ps (f y0 y1 y2 y3)) :
    State.Ok ps (s.gaugeAction r tag a f) := by
  unfold State.gaugeAction
  with_reducible repeat'
    first
    | assumption | intro _ | apply h5 | apply State.ringStart_ok | apply State.ringComplete_ok | apply State.each_ok
    | apply State.ite_ok | split

theorem State.gaugeSet_ok (s : State) (d : RingDesc) (g : Nat) (k : Nat) (hs : State.Ok ps s) :
    State.Ok ps (s.gaugeSet d g k) := by
  unfold State.gaugeSet
  with_reducible repeat' first | assumption | apply State.setFld_ok | apply State.gaugeArm_ok | apply State.modSil_ok

theorem execGaugeArm_ok (ring : Nat) (tag : Nat) (s : State) (hs : State.Ok ps s) :
    Outcome.Ok ps (execGaugeArm ring tag s) := by
  unfold execGaugeArm
  with_reducible repeat'
    first
    | assumption | apply Outcome.ok_next | intro _ | apply State.whileLive_ok | apply State.gaugeAction_ok | apply State.gaugeSet_ok

theorem execGaugeStop_ok (ring : Nat) (tag : Nat) (s : State) (hs : State.Ok ps s) :
    Outcome.Ok ps (execGaugeStop ring tag s) := by
  unfold execGaugeStop
  with_reducible repeat'
    first
    | assumption | apply Outcome.ok_next | intro _ | apply State.whileLive_ok | apply State.gaugeAction_ok | apply State.gaugeStop_ok

theorem State.gaugeExport_ok (s : State) (r : Nat) (tag : Nat) (a : Nat) (ok : Bool) (rearm : Bool) (hs : State.Ok ps s) :
    State.Ok ps (s.gaugeExport r tag a ok rearm) := by
  unfold State.gaugeExport
  with_reducible repeat'
    first
    | assumption | intro _ | apply State.ringStart_ok | apply State.when_ok | apply State.hostWrite_ok | apply State.each_ok
    | apply State.gaugeArm_ok | apply State.ringComplete_ok | apply State.ite_ok | split

theorem execGaugeExport_ok (ring : Nat) (tag : Nat) (ok : Bool) (s : State) (hs : State.Ok ps s) :
    Outcome.Ok ps (execGaugeExport ring tag ok s) := by
  unfold execGaugeExport
  with_reducible repeat' first | assumption | apply Outcome.ok_next | intro _ | apply State.whileLive_ok | apply State.gaugeExport_ok

theorem execGaugeExportRearm_ok (ring : Nat) (tag : Nat) (ok : Bool) (s : State) (hs : State.Ok ps s) :
    Outcome.Ok ps (execGaugeExportRearm ring tag ok s) := by
  unfold execGaugeExportRearm
  with_reducible repeat' first | assumption | apply Outcome.ok_next | intro _ | apply State.whileLive_ok | apply State.gaugeExport_ok

theorem State.sillageExport_ok (s : State) (r : Nat) (tag : Nat) (ok : Bool) (hs : State.Ok ps s) :
    State.Ok ps (s.sillageExport r tag ok) := by
  unfold State.sillageExport
  with_reducible repeat' first | assumption | intro _ | apply State.ringStart_ok | apply State.ringOut_ok

theorem execSillageExport_ok (ring : Nat) (tag : Nat) (ok : Bool) (s : State) (hs : State.Ok ps s) :
    Outcome.Ok ps (execSillageExport ring tag ok s) := by
  unfold execSillageExport
  with_reducible repeat' first | assumption | apply Outcome.ok_next | intro _ | apply State.whileLive_ok | apply State.sillageExport_ok

theorem State.sillageClear_ok (s : State) (r : Nat) (tag : Nat) (hs : State.Ok ps s) :
    State.Ok ps (s.sillageClear r tag) := by
  unfold State.sillageClear
  with_reducible repeat'
    first
    | assumption | intro _ | apply State.ringStart_ok | apply State.ringEnd_ok | apply State.silClear_ok | apply State.ite_ok

theorem execSillageClear_ok (ring : Nat) (tag : Nat) (s : State) (hs : State.Ok ps s) :
    Outcome.Ok ps (execSillageClear ring tag s) := by
  unfold execSillageClear
  with_reducible repeat' first | assumption | apply Outcome.ok_next | intro _ | apply State.whileLive_ok | apply State.sillageClear_ok

theorem State.bltMode_ok (s : State) (r : Nat) (tag : Nat) (x4 : Nat) (hs : State.Ok ps s) :
    State.Ok ps (s.bltMode r tag x4) := by
  unfold State.bltMode
  with_reducible repeat'
    first
    | assumption | intro _ | apply State.ringStart_ok | apply State.ringEnd_ok | apply State.bltEnable_ok | apply State.bltDisable_ok
    | apply State.ite_ok | split

theorem execBlotterEnable_ok (ring : Nat) (tag : Nat) (s : State) (hs : State.Ok ps s) :
    Outcome.Ok ps (execBlotterEnable ring tag s) := by
  unfold execBlotterEnable
  with_reducible repeat' first | assumption | apply Outcome.ok_next | intro _ | apply State.whileLive_ok | apply State.bltMode_ok

theorem execBlotterDisable_ok (ring : Nat) (tag : Nat) (s : State) (hs : State.Ok ps s) :
    Outcome.Ok ps (execBlotterDisable ring tag s) := by
  unfold execBlotterDisable
  with_reducible repeat' first | assumption | apply Outcome.ok_next | intro _ | apply State.whileLive_ok | apply State.bltMode_ok

theorem State.secReceive_ok (s : State) (m : Cmd) (hs : State.Ok ps s) :
    State.Ok ps (s.secReceive m) := by
  unfold State.secReceive
  with_reducible repeat'
    first
    | assumption | apply State.finish_ok | apply State.hostWrite_ok | apply State.modSec_ok | apply State.ite_ok

theorem execSecurityReceive_ok (ctrl : Nat) (cid : Nat) (s : State) (hs : State.Ok ps s) :
    Outcome.Ok ps (execSecurityReceive ctrl cid s) := by
  unfold execSecurityReceive
  with_reducible repeat'
    first
    | assumption | apply Outcome.ok_next | intro _ | apply State.whileLive_ok | apply State.adminStart_ok | apply State.secReceive_ok

theorem State.opDone_ok (s : State) (m : Cmd) (op : Nat) (r : Nat) (hs : State.Ok ps s) :
    State.Ok ps (s.opDone m op r) := by
  unfold State.opDone
  with_reducible repeat' first | assumption | apply State.finish_ok | apply State.modNvme_ok

theorem State.signedOp_ok (s : State) (c : Nat) (cid : Nat) (mine : Nat → Bool) (sent : List Byte) (usage : Nat)
    (maker : List Byte → Bool) (f : State → Cmd → List Byte → List Byte → State) (hs : State.Ok ps s)
    (h8 : ∀ y0 y1 y2 y3, State.Ok ps y0 → State.Ok ps (f y0 y1 y2 y3)) :
    State.Ok ps (s.signedOp c cid mine sent usage maker f) := by
  unfold State.signedOp
  with_reducible repeat'
    first
    | assumption | intro _ | apply h8 | apply State.adminStart_ok | apply State.opDone_ok | apply State.refuse_ok
    | apply State.newNonce_ok | apply State.ite_ok
    | (extract_lets +onlyGivenNames x; refine (fun hx => ?_ : State.Ok ps x → _) ?_; rotate_left; unfold x; clear x; rotate_right; clear_value x)
    | split

theorem State.raiseFloor_ok (s : State) (m : Cmd) (x3 : List Byte) (ok : Bool) (hs : State.Ok ps s) :
    State.Ok ps (s.raiseFloor m x3 ok) := by
  unfold State.raiseFloor
  with_reducible repeat' first | assumption | apply State.opDone_ok | apply State.modNv_ok | apply State.floorSync_ok | apply State.ite_ok

theorem execRaiseRollbackFloor_ok (ctrl : Nat) (cid : Nat) (sent : List Byte) (ok : Bool) (s : State) (hs : State.Ok ps s) :
    Outcome.Ok ps (execRaiseRollbackFloor ctrl cid sent ok s) := by
  unfold execRaiseRollbackFloor
  with_reducible repeat'
    first
    | assumption | apply Outcome.ok_next | intro _ | apply State.whileLive_ok | apply State.signedOp_ok | apply State.raiseFloor_ok
    | apply State.opDone_ok | apply State.ite_ok

theorem execWriteKeyCertArea_ok (ctrl : Nat) (cid : Nat) (sent : List Byte) (s : State) (hs : State.Ok ps s) :
    Outcome.Ok ps (execWriteKeyCertArea ctrl cid sent s) := by
  unfold execWriteKeyCertArea
  with_reducible repeat'
    first
    | assumption | apply Outcome.ok_next | intro _ | apply State.whileLive_ok | apply State.signedOp_ok | apply State.opDone_ok
    | apply State.flashStart_ok | apply State.modNvme_ok | apply State.begin_ok | apply State.ite_ok

theorem State.putSpdm_ok (s : State) (ch : Nat) (x3 : SpdmSt) (hs : State.Ok ps s) :
    State.Ok ps (s.putSpdm ch x3) := by
  unfold State.putSpdm
  with_reducible repeat' first | assumption | apply State.modSec_ok

theorem State.spdmReply_ok (s : State) (ch : Nat) (x3 : List Byte) (hs : State.Ok ps s) :
    State.Ok ps (s.spdmReply ch x3) := by
  unfold State.spdmReply
  with_reducible repeat' first | assumption | apply State.modSec_ok | apply State.ite_ok

theorem State.spdmTake_ok (s : State) (ch : Nat) (cid : Nat) (f : State → State) (hs : State.Ok ps s)
    (h4 : ∀ y0, State.Ok ps y0 → State.Ok ps (f y0)) :
    State.Ok ps (s.spdmTake ch cid f) := by
  unfold State.spdmTake
  with_reducible repeat' first | assumption | intro _ | apply h4 | apply State.adminStart_ok | apply State.finish_ok | apply State.ite_ok

theorem State.spdmAsk_ok (s : State) (ch : Nat) (cid : Nat) (code : Nat) (req : List Byte) (f : State → SpdmSt → State)
    (hs : State.Ok ps s) (h6 : ∀ y0 y1, State.Ok ps y0 → State.Ok ps (f y0 y1)) :
    State.Ok ps (s.spdmAsk ch cid code req f) := by
  unfold State.spdmAsk
  with_reducible repeat' first | assumption | intro _ | apply h6 | apply State.spdmTake_ok | apply State.ite_ok

theorem State.spdmVersion_ok (s : State) (ch : Nat) (cid : Nat) (req : List Byte) (hs : State.Ok ps s) :
    State.Ok ps (s.spdmVersion ch cid req) := by
  unfold State.spdmVersion
  with_reducible repeat'
    first
    | assumption | intro _ | apply State.spdmTake_ok | apply State.spdmReply_ok | apply State.putSpdm_ok | apply State.ite_ok

theorem execSpdmGetVersion_ok (ch : Nat) (cid : Nat) (req : List Byte) (s : State) (hs : State.Ok ps s) :
    Outcome.Ok ps (execSpdmGetVersion ch cid req s) := by
  unfold execSpdmGetVersion
  with_reducible repeat' first | assumption | apply Outcome.ok_next | intro _ | apply State.whileLive_ok | apply State.spdmVersion_ok

theorem State.spdmCaps_ok (s : State) (ch : Nat) (req : List Byte) (x4 : SpdmSt) (hs : State.Ok ps s) :
    State.Ok ps (s.spdmCaps ch req x4) := by
  unfold State.spdmCaps
  with_reducible repeat'
    first
    | assumption | apply State.spdmReply_ok | apply State.freeBytes_ok | apply State.putSpdm_ok | apply State.ite_ok

theorem execSpdmGetCapabilities_ok (ch : Nat) (cid : Nat) (req : List Byte) (s : State) (hs : State.Ok ps s) :
    Outcome.Ok ps (execSpdmGetCapabilities ch cid req s) := by
  unfold execSpdmGetCapabilities
  with_reducible repeat'
    first
    | assumption | apply Outcome.ok_next | intro _ | apply State.whileLive_ok | apply State.spdmAsk_ok | apply State.spdmCaps_ok

theorem State.spdmAlgs_ok (s : State) (ch : Nat) (req : List Byte) (x4 : SpdmSt) (hs : State.Ok ps s) :
    State.Ok ps (s.spdmAlgs ch req x4) := by
  unfold State.spdmAlgs
  with_reducible repeat' first | assumption | apply State.spdmReply_ok | apply State.putSpdm_ok | apply State.ite_ok

theorem execSpdmNegotiateAlgorithms_ok (ch : Nat) (cid : Nat) (req : List Byte) (s : State) (hs : State.Ok ps s) :
    Outcome.Ok ps (execSpdmNegotiateAlgorithms ch cid req s) := by
  unfold execSpdmNegotiateAlgorithms
  with_reducible repeat'
    first
    | assumption | apply Outcome.ok_next | intro _ | apply State.whileLive_ok | apply State.spdmAsk_ok | apply State.spdmAlgs_ok

theorem State.spdmOpen_ok (s : State) (ch : Nat) (x3 : SpdmSt) (bad : Bool) (f : State → State) (hs : State.Ok ps s)
    (h5 : ∀ y0, State.Ok ps y0 → State.Ok ps (f y0)) :
    State.Ok ps (s.spdmOpen ch x3 bad f) := by
  unfold State.spdmOpen
  with_reducible repeat' first | assumption | apply h5 | apply State.spdmReply_ok | apply State.ite_ok

theorem State.spdmDigests_ok (s : State) (ch : Nat) (req : List Byte) (x4 : SpdmSt) (hs : State.Ok ps s) :
    State.Ok ps (s.spdmDigests ch req x4) := by
  unfold State.spdmDigests
  with_reducible repeat' first | assumption | intro _ | apply State.spdmOpen_ok | apply State.spdmReply_ok | apply State.putSpdm_ok

theorem execSpdmGetDigests_ok (ch : Nat) (cid : Nat) (req : List Byte) (s : State) (hs : State.Ok ps s) :
    Outcome.Ok ps (execSpdmGetDigests ch cid req s) := by
  unfold execSpdmGetDigests
  with_reducible repeat'
    first
    | assumption | apply Outcome.ok_next | intro _ | apply State.whileLive_ok | apply State.spdmAsk_ok | apply State.spdmDigests_ok

theorem State.spdmCertificate_ok (s : State) (ch : Nat) (req : List Byte) (x4 : SpdmSt) (hs : State.Ok ps s) :
    State.Ok ps (s.spdmCertificate ch req x4) := by
  unfold State.spdmCertificate
  with_reducible repeat' first | assumption | intro _ | apply State.spdmOpen_ok | apply State.spdmReply_ok | apply State.putSpdm_ok

theorem execSpdmGetCertificate_ok (ch : Nat) (cid : Nat) (req : List Byte) (s : State) (hs : State.Ok ps s) :
    Outcome.Ok ps (execSpdmGetCertificate ch cid req s) := by
  unfold execSpdmGetCertificate
  with_reducible repeat'
    first
    | assumption | apply Outcome.ok_next | intro _ | apply State.whileLive_ok | apply State.spdmAsk_ok | apply State.spdmCertificate_ok

theorem State.spdmNonce_ok (s : State) (hs : State.Ok ps s) :
    State.Ok ps (s.spdmNonce).2 := by
  unfold State.spdmNonce
  with_reducible repeat' first | assumption | apply State.freeBytes_ok

theorem State.spdmNonce_ok' {s : State} {t : State} {b : List Byte} (e : State.spdmNonce s = (b, t))
    (hs : State.Ok ps s) : State.Ok ps t := by
  have h := State.spdmNonce_ok (ps := ps) s hs
  rw [e] at h
  exact h

theorem State.spdmSign_ok (s : State) (ch : Nat) (context : String) (transcript : List Byte) (rsp : List Byte) (done : State → State)
    (hs : State.Ok ps s) (h6 : ∀ y0, State.Ok ps y0 → State.Ok ps (done y0)) :
    State.Ok ps (s.spdmSign ch context transcript rsp done) := by
  unfold State.spdmSign
  with_reducible repeat'
    first
    | assumption | apply h6 | apply State.spdmReply_ok | apply State.freeBytes_ok | apply State.bump_ok | apply State.ite_ok

theorem State.spdmChallenge_ok (s : State) (ch : Nat) (req : List Byte) (x4 : SpdmSt) (hs : State.Ok ps s) :
    State.Ok ps (s.spdmChallenge ch req x4) := by
  unfold State.spdmChallenge
  with_reducible repeat'
    first
    | assumption | intro _ | apply State.spdmOpen_ok | apply State.spdmNonce_ok | apply State.spdmSign_ok | apply State.putSpdm_ok

theorem execSpdmChallenge_ok (ch : Nat) (cid : Nat) (req : List Byte) (s : State) (hs : State.Ok ps s) :
    Outcome.Ok ps (execSpdmChallenge ch cid req s) := by
  unfold execSpdmChallenge
  with_reducible repeat'
    first
    | assumption | apply Outcome.ok_next | intro _ | apply State.whileLive_ok | apply State.spdmAsk_ok | apply State.spdmChallenge_ok

theorem State.spdmMeas_ok (s : State) (ch : Nat) (req : List Byte) (x4 : SpdmSt) (hs : State.Ok ps s) :
    State.Ok ps (s.spdmMeas ch req x4) := by
  unfold State.spdmMeas
  with_reducible repeat'
    first
    | assumption | intro _ | apply State.spdmOpen_ok | apply State.spdmNonce_ok | apply State.spdmSign_ok | apply State.putSpdm_ok
    | apply State.spdmReply_ok | apply State.ite_ok

theorem execSpdmGetMeasurements_ok (ch : Nat) (cid : Nat) (req : List Byte) (s : State) (hs : State.Ok ps s) :
    Outcome.Ok ps (execSpdmGetMeasurements ch cid req s) := by
  unfold execSpdmGetMeasurements
  with_reducible repeat'
    first
    | assumption | apply Outcome.ok_next | intro _ | apply State.whileLive_ok | apply State.spdmAsk_ok | apply State.spdmMeas_ok

theorem State.mctpReply_ok (s : State) (p : Nat) (inst : Nat) (cmd : Nat) (cc : Nat) (d : List Byte) (hs : State.Ok ps s) :
    State.Ok ps (s.mctpReply p inst cmd cc d) := by
  unfold State.mctpReply
  with_reducible repeat' first | assumption | apply State.modSec_ok | apply State.ite_ok

theorem State.mctpSet_ok (s : State) (p : Nat) (inst : Nat) (op : Nat) (eid : Nat) (hs : State.Ok ps s) :
    State.Ok ps (s.mctpSet p inst op eid) := by
  unfold State.mctpSet
  with_reducible repeat' first | assumption | apply State.mctpReply_ok | apply State.modSec_ok | apply State.ite_ok

theorem execMctpSetEndpointId_ok (port : Nat) (inst : Nat) (op : Nat) (eid : Nat) (s : State) (hs : State.Ok ps s) :
    Outcome.Ok ps (execMctpSetEndpointId port inst op eid s) := by
  unfold execMctpSetEndpointId
  with_reducible repeat' first | assumption | apply Outcome.ok_next | intro _ | apply State.whileLive_ok | apply State.mctpSet_ok

theorem execMctpGetEndpointId_ok (port : Nat) (inst : Nat) (s : State) (hs : State.Ok ps s) :
    Outcome.Ok ps (execMctpGetEndpointId port inst s) := by
  unfold execMctpGetEndpointId
  with_reducible repeat' first | assumption | apply Outcome.ok_next | intro _ | apply State.whileLive_ok | apply State.mctpReply_ok

theorem State.mctpVersion_ok (s : State) (p : Nat) (inst : Nat) (type : Nat) (hs : State.Ok ps s) :
    State.Ok ps (s.mctpVersion p inst type) := by
  unfold State.mctpVersion
  with_reducible repeat' first | assumption | apply State.freeBytes_ok | apply State.mctpReply_ok | apply State.ite_ok

theorem execMctpGetVersionSupport_ok (port : Nat) (inst : Nat) (type : Nat) (s : State) (hs : State.Ok ps s) :
    Outcome.Ok ps (execMctpGetVersionSupport port inst type s) := by
  unfold execMctpGetVersionSupport
  with_reducible repeat' first | assumption | apply Outcome.ok_next | intro _ | apply State.whileLive_ok | apply State.mctpVersion_ok

theorem execMctpGetMessageTypeSupport_ok (port : Nat) (inst : Nat) (s : State) (hs : State.Ok ps s) :
    Outcome.Ok ps (execMctpGetMessageTypeSupport port inst s) := by
  unfold execMctpGetMessageTypeSupport
  with_reducible repeat' first | assumption | apply Outcome.ok_next | intro _ | apply State.whileLive_ok | apply State.mctpReply_ok

theorem State.actFault_ok (s : State) (a : Act) (cause : Nat) (hs : State.Ok ps s) :
    State.Ok ps (s.actFault a cause) := by
  unfold State.actFault
  with_reducible repeat'
    first
    | assumption | apply State.standbyStep_ok | apply State.domSettle_ok | apply State.domainFault_ok | apply State.retractAct_ok

theorem State.vcmFault_ok (s : State) (a : Act) (hs : State.Ok ps s) :
    State.Ok ps (s.vcmFault a) := by
  unfold State.vcmFault
  with_reducible repeat' first | assumption | apply State.actFault_ok | apply State.setBit_ok | apply State.inhibitAll_ok

theorem State.maFault_ok (s : State) (a : Act) (hs : State.Ok ps s) :
    State.Ok ps (s.maFault a) := by
  unfold State.maFault
  with_reducible repeat' first | assumption | apply State.actFault_ok | apply State.setBit_ok | apply State.inhibitAll_ok

theorem execVcmFaultPin_ok (a : Act) (s : State) (hs : State.Ok ps s) :
    Outcome.Ok ps (execVcmFaultPin a s) := by
  unfold execVcmFaultPin
  with_reducible repeat' first | assumption | apply Outcome.ok_next | intro _ | apply State.whileLive_ok | apply State.vcmFault_ok

theorem execMaDriverFaultPin_ok (a : Act) (s : State) (hs : State.Ok ps s) :
    Outcome.Ok ps (execMaDriverFaultPin a s) := by
  unfold execMaDriverFaultPin
  with_reducible repeat' first | assumption | apply Outcome.ok_next | intro _ | apply State.whileLive_ok | apply State.maFault_ok

theorem State.servoMiss_ok (s : State) (a : Act) (coarse : Bool) (hs : State.Ok ps s) :
    State.Ok ps (s.servoMiss a coarse) := by
  unfold State.servoMiss
  with_reducible repeat'
    first
    | assumption | apply State.inhibitAll_ok | apply State.bump_ok | apply State.setBit_ok | apply State.modSv_ok
    | apply State.missedTwice_ok | apply State.ite_ok
    | (extract_lets +onlyGivenNames x; refine (fun hx => ?_ : State.Ok ps x → _) ?_; rotate_left; unfold x; clear x; rotate_right; clear_value x)
    | split

theorem execServoDeadlineMiss_ok (a : Act) (coarse : Bool) (s : State) (hs : State.Ok ps s) :
    Outcome.Ok ps (execServoDeadlineMiss a coarse s) := by
  unfold execServoDeadlineMiss
  with_reducible repeat'
    first
    | assumption | apply Outcome.ok_next | intro _ | apply State.whileLive_ok | apply State.standbyStep_ok | apply State.domSettle_ok
    | apply State.servoMiss_ok

theorem execShock_ok (a : Act) (s : State) (hs : State.Ok ps s) :
    Outcome.Ok ps (execShock a s) := by
  unfold execShock
  with_reducible repeat'
    first
    | assumption | apply Outcome.ok_next | intro _ | apply State.whileLive_ok | apply State.modSv_ok | apply State.setBit_ok
    | apply State.inhibitAll_ok | apply State.ite_ok

theorem execShockHoldEnd_ok (a : Act) (s : State) (hs : State.Ok ps s) :
    Outcome.Ok ps (execShockHoldEnd a s) := by
  unfold execShockHoldEnd
  with_reducible repeat'
    first
    | assumption | apply Outcome.ok_next | intro _ | apply State.whileLive_ok | apply State.modSv_ok | apply State.clrBit_ok

theorem State.loadAsked_ok (s : State) (a : Act) (hs : State.Ok ps s) :
    State.Ok ps (s.loadAsked a) := by
  unfold State.loadAsked
  with_reducible repeat' first | assumption | apply State.startLoad_ok | apply State.modSv_ok | apply State.ite_ok

theorem execLoadRequest_ok (a : Act) (s : State) (hs : State.Ok ps s) :
    Outcome.Ok ps (execLoadRequest a s) := by
  unfold execLoadRequest
  with_reducible repeat' first | assumption | apply Outcome.ok_next | intro _ | apply State.whileLive_ok | apply State.loadAsked_ok

theorem State.loadOut_ok (s : State) (a : Act) (hs : State.Ok ps s) :
    State.Ok ps (s.loadOut a) := by
  unfold State.loadOut
  with_reducible repeat'
    first
    | assumption | apply State.modSv_ok | apply State.parkAct_ok | apply State.svGoto_ok | apply State.leaveGroup_ok
    | apply State.setVcm_ok | apply State.setBit_ok | apply State.standbyStep_ok | apply State.domSettle_ok
    | apply State.domainFault_ok | apply State.ite_ok

theorem execLoadTimeout_ok (a : Act) (s : State) (hs : State.Ok ps s) :
    Outcome.Ok ps (execLoadTimeout a s) := by
  unfold execLoadTimeout
  with_reducible repeat' first | assumption | apply Outcome.ok_next | intro _ | apply State.whileLive_ok | apply State.loadOut_ok

theorem execParkRequest_ok (a : Act) (s : State) (hs : State.Ok ps s) :
    Outcome.Ok ps (execParkRequest a s) := by
  unfold execParkRequest
  with_reducible repeat' first | assumption | apply Outcome.ok_next | intro _ | apply State.whileLive_ok | apply State.parkAct_ok

theorem State.nowParked_ok (s : State) (a : Act) (hs : State.Ok ps s) :
    State.Ok ps (s.nowParked a) := by
  unfold State.nowParked
  with_reducible repeat'
    first
    | assumption | apply State.standbyStep_ok | apply State.afterParked_ok | apply State.svGoto_ok | apply State.leaveGroup_ok
    | apply State.setVcm_ok

theorem State.unloadEnd_ok (s : State) (a : Act) (stillValid : Bool) (hs : State.Ok ps s) :
    State.Ok ps (s.unloadEnd a stillValid) := by
  unfold State.unloadEnd
  with_reducible repeat' first | assumption | apply State.vcmFault_ok | apply State.nowParked_ok | apply State.ite_ok

theorem execUnloadProfileEnd_ok (a : Act) (stillValid : Bool) (s : State) (hs : State.Ok ps s) :
    Outcome.Ok ps (execUnloadProfileEnd a stillValid s) := by
  unfold execUnloadProfileEnd
  with_reducible repeat' first | assumption | apply Outcome.ok_next | intro _ | apply State.whileLive_ok | apply State.unloadEnd_ok

theorem State.retRelease_ok (s : State) (a : Act) (hs : State.Ok ps s) :
    State.Ok ps (s.retRelease a) := by
  unfold State.retRelease
  with_reducible repeat'
    first
    | assumption | apply State.modPins_ok | apply State.standbyStep_ok | apply State.svGoto_ok | apply State.modSv_ok
    | apply State.setVcm_ok | apply State.nowParked_ok | apply State.ite_ok

theorem execRetractRelease_ok (a : Act) (s : State) (hs : State.Ok ps s) :
    Outcome.Ok ps (execRetractRelease a s) := by
  unfold execRetractRelease
  with_reducible repeat' first | assumption | apply Outcome.ok_next | apply State.retRelease_ok

theorem State.dropRuns_ok (s : State) (a : Act) (h : Nat) (hs : State.Ok ps s) :
    State.Ok ps (s.dropRuns a h) := by
  unfold State.dropRuns
  with_reducible repeat' first | assumption | apply State.abandonRuns_ok

theorem State.departAct_ok (s : State) (a : Act) (k : Nat) (cause : Nat) (hs : State.Ok ps s) :
    State.Ok ps (s.departAct a k cause) := by
  unfold State.departAct
  with_reducible repeat' first | assumption | apply State.depart_ok | apply State.dropRuns_ok

theorem State.regroup_ok (s : State) (a : Act) (hs : State.Ok ps s) :
    State.Ok ps (s.regroup a) := by
  unfold State.regroup
  with_reducible repeat' first | assumption | apply State.takeGroup_ok | apply State.modSv_ok | apply State.ite_ok

theorem State.failHead_ok (s : State) (a : Act) (h : Nat) (cause : Nat) (hs : State.Ok ps s) :
    State.Ok ps (s.failHead a h cause) := by
  unfold State.failHead
  with_reducible repeat'
    first
    | assumption | intro _ | apply State.when_ok | apply State.declareFailed_ok | apply State.dropRuns_ok | apply State.regroup_ok

theorem State.folFault_ok (s : State) (a : Act) (k : Nat) (x4 : Int) (hs : State.Ok ps s) :
    State.Ok ps (s.folFault a k x4) := by
  unfold State.folFault
  with_reducible repeat'
    first
    | assumption | apply State.modHead_ok | apply State.record_ok | apply State.modPlace_ok | apply State.svGoto_ok
    | apply State.closeGates_ok | apply State.setBit_ok | apply State.departAct_ok | apply State.failHead_ok | apply State.ite_ok

theorem State.measureOffset_ok (s : State) (a : Act) (x3 : List (WedgePlace × Demod)) (k : Nat) (hs : State.Ok ps s) :
    State.Ok ps (s.measureOffset a x3 k) := by
  unfold State.measureOffset
  with_reducible repeat' first | assumption | apply State.modPlace_ok | apply State.ite_ok | split

theorem State.acquired_ok (s : State) (a : Act) (x3 : List (WedgePlace × Demod)) (hs : State.Ok ps s) :
    State.Ok ps (s.acquired a x3) := by
  unfold State.acquired
  with_reducible repeat'
    first
    | assumption | intro _ | apply State.modSv_ok | apply State.each_ok | apply State.measureOffset_ok | apply State.modHead_ok
    | apply State.failHead_ok | apply State.departAct_ok | apply State.setBit_ok | apply State.ite_ok

theorem State.seekNow_ok (s : State) (a : Act) (g : Nat) (track : Nat) (hs : State.Ok ps s) :
    State.Ok ps (s.seekNow a g track) := by
  unfold State.seekNow
  with_reducible repeat' first | assumption | apply State.abandonRuns_ok | apply State.startSeek_ok | apply State.ite_ok

theorem State.seekAsked_ok (s : State) (a : Act) (g : Nat) (track : Nat) (hs : State.Ok ps s) :
    State.Ok ps (s.seekAsked a g track) := by
  unfold State.seekAsked
  with_reducible repeat'
    first
    | assumption | apply State.svGoto_ok | apply State.modSv_ok | apply State.closeGates_ok | apply State.ebSend_ok
    | apply State.seekNow_ok | apply State.ite_ok

theorem execSeekRequest_ok (a : Act) (group : Nat) (track : Nat) (s : State) (hs : State.Ok ps s) :
    Outcome.Ok ps (execSeekRequest a group track s) := by
  unfold execSeekRequest
  with_reducible repeat' first | assumption | apply Outcome.ok_next | intro _ | apply State.whileLive_ok | apply State.seekAsked_ok

theorem State.leadOver_ok (s : State) (a : Act) (hs : State.Ok ps s) :
    State.Ok ps (s.leadOver a) := by
  unfold State.leadOver
  with_reducible repeat' first | assumption | apply State.seekNow_ok | apply State.ite_ok | split

theorem execSeekLeadExpiry_ok (a : Act) (s : State) (hs : State.Ok ps s) :
    Outcome.Ok ps (execSeekLeadExpiry a s) := by
  unfold execSeekLeadExpiry
  with_reducible repeat' first | assumption | apply Outcome.ok_next | intro _ | apply State.whileLive_ok | apply State.leadOver_ok

theorem State.recoveryOut_ok (s : State) (a : Act) (hs : State.Ok ps s) :
    State.Ok ps (s.recoveryOut a) := by
  unfold State.recoveryOut
  with_reducible repeat' first | assumption | apply State.svGoto_ok | apply State.failHead_ok | apply State.ite_ok

theorem execRecoveryTimeout_ok (a : Act) (s : State) (hs : State.Ok ps s) :
    Outcome.Ok ps (execRecoveryTimeout a s) := by
  unfold execRecoveryTimeout
  with_reducible repeat' first | assumption | apply Outcome.ok_next | intro _ | apply State.whileLive_ok | apply State.recoveryOut_ok

theorem State.framesOut_ok (s : State) (a : Act) (hs : State.Ok ps s) :
    State.Ok ps (s.framesOut a) := by
  unfold State.framesOut
  with_reducible repeat' first | assumption | apply State.modSv_ok

theorem State.applyTick_ok (s : State) (a : Act) (hs : State.Ok ps s) :
    State.Ok ps (s.applyTick a) := by
  unfold State.applyTick
  with_reducible repeat'
    first
    | assumption | intro _ | apply State.modSv_ok | apply State.modPins_ok | apply State.setVcm_ok | apply State.each_ok
    | apply State.keepBest_ok | apply State.setFld_ok | apply State.modPlace_ok | apply State.adoptCoefs_ok | apply State.ite_ok
    | (extract_lets +onlyGivenNames x; refine (fun hx => ?_ : State.Ok ps x → _) ?_; rotate_left; unfold x; clear x; rotate_right; clear_value x)
    | split

theorem State.isnCheck_ok (s : State) (a : Act) (cmd : Int) (isn : Int) (hs : State.Ok ps s) :
    State.Ok ps (s.isnCheck a cmd isn).1 := by
  unfold State.isnCheck
  with_reducible repeat' first | assumption | apply State.modSv_ok | apply State.setFld_ok

theorem State.isnCheck_ok' {s : State} {a : Act} {cmd : Int} {isn : Int} {t : State} {b : Bool} (e : State.isnCheck s a cmd isn =
    (t, b)) (hs : State.Ok ps s) : State.Ok ps t := by
  have h := State.isnCheck_ok (ps := ps) s a cmd isn hs
  rw [e] at h
  exact h

theorem State.echoCheck_ok {p : List Instr} (x1 : State) (x2 : Act) (x3 : List Nat) (h1 : State.Ok p x1) : State.Ok p
    (State.echoCheck x1 x2 x3).1 := by
  unfold State.echoCheck
  dsimp only
  repeat' split
  all_goals repeat' (first | exact h1 | with_reducible apply State.ite_ok | with_reducible apply State.failHead_ok | with_reducible apply State.inhibitHead_ok | with_reducible apply State.modHead_ok | with_reducible apply State.modSv_ok)

theorem State.wedgeErr_ok (s : State) (a : Act) (k : Nat) (x4 : Demod) (hs : State.Ok ps s) :
    State.Ok ps (s.wedgeErr a k x4).1 := by
  unfold State.wedgeErr
  with_reducible repeat' first | assumption | apply State.drawFree_ok | apply State.ite_fst_ok

theorem State.wedgeErr_ok' {s : State} {a : Act} {k : Nat} {x4 : Demod} {t : State} {b : Int} (e : State.wedgeErr s a k x4 = (t, b))
    (hs : State.Ok ps s) : State.Ok ps t := by
  have h := State.wedgeErr_ok (ps := ps) s a k x4 hs
  rw [e] at h
  exact h

theorem State.placeSample_ok (s : State) (a : Act) (k : Nat) (w : WedgePlace) (x5 : Demod) (x6 : Int) (hs : State.Ok ps s) :
    State.Ok ps (s.placeSample a k w x5 x6) := by
  unfold State.placeSample
  with_reducible repeat'
    first
    | assumption | intro _ | apply State.setFld_ok | apply State.modPlace_ok | apply State.inhibitHead_ok | apply State.each_ok
    | apply State.modLane_ok | apply State.sample_ok | apply State.ite_ok

theorem State.noteWedge_ok (s : State) (a : Act) (w : Nat) (hs : State.Ok ps s) :
    State.Ok ps (s.noteWedge a w) := by
  unfold State.noteWedge
  with_reducible repeat' first | assumption | apply State.setFld_ok | apply State.modSv_ok | apply State.ite_ok

theorem State.noteSlack_ok (s : State) (a : Act) (c : Nat) (f : Nat) (hs : State.Ok ps s) :
    State.Ok ps (s.noteSlack a c f) := by
  unfold State.noteSlack
  with_reducible repeat' first | assumption | apply State.keepBest_ok | apply State.sample_ok

theorem State.learn_ok (s : State) (a : Act) (k : Nat) (w : Nat) (x5 : Int) (hs : State.Ok ps s) :
    State.Ok ps (s.learn a k w x5) := by
  unfold State.learn
  with_reducible repeat' first | assumption | apply State.modSv_ok | apply State.modPlace_ok | apply State.rroSync_ok | apply State.ite_ok

theorem State.fineLoop_ok (s : State) (a : Act) (k : Nat) (w : Nat) (x5 : Int) (hs : State.Ok ps s) :
    State.Ok ps (s.fineLoop a k w x5) := by
  unfold State.fineLoop
  with_reducible repeat' first | assumption | apply State.modPlace_ok

theorem State.coarseLoop_ok (s : State) (a : Act) (x3 : Demod) (pes : Int) (shk : Int) (hs : State.Ok ps s) :
    State.Ok ps (s.coarseLoop a x3 pes shk) := by
  unfold State.coarseLoop
  with_reducible repeat' first | assumption | apply State.modSv_ok | apply State.setFld_ok

theorem State.placeFaults_ok (s : State) (a : Act) (errs : List (Nat × Int)) (hs : State.Ok ps s) :
    State.Ok ps (s.placeFaults a errs) := by
  unfold State.placeFaults
  with_reducible repeat'
    first
    | assumption | intro _ | apply State.each_ok | apply State.folFault_ok | apply State.departAct_ok | apply State.ite_ok

theorem State.wedgeMoves_ok (s : State) (a : Act) (x3 : List (WedgePlace × Demod)) (hs : State.Ok ps s) :
    State.Ok ps (s.wedgeMoves a x3) := by
  unfold State.wedgeMoves
  with_reducible repeat'
    first
    | assumption | apply State.svGoto_ok | apply State.modSv_ok | apply State.acquired_ok | apply State.seekNow_ok
    | apply State.rroSync_ok | apply State.standbyStep_ok | apply State.afterFollowing_ok | apply State.ite_ok
    | (extract_lets +onlyGivenNames x; refine (fun hx => ?_ : State.Ok ps x → _) ?_; rotate_left; unfold x; clear x; rotate_right; clear_value x)
    | split

theorem State.wedge_ok (s : State) (a : Act) (x3 : WedgeIn) (hs : State.Ok ps s) :
    State.Ok ps (s.wedge a x3) := by
  unfold State.wedge
  with_reducible repeat'
    first
    | assumption | intro _ | apply State.applyTick_ok | apply State.noteWedge_ok | apply State.isnCheck_ok | apply State.echoCheck_ok
    | apply State.wedgeErr_ok | apply State.placeSample_ok | apply State.lsWindow_ok | apply State.routesOut_ok
    | apply State.noteSlack_ok | apply State.vcmFault_ok | apply State.maFault_ok | apply State.wedgeMoves_ok
    | apply State.placeFaults_ok | apply State.framesOut_ok | apply State.each_ok | apply State.fineLoop_ok | apply State.learn_ok
    | apply State.coarseLoop_ok | apply State.modSv_ok | apply State.ite_ok | apply State.foldl_fst_ok | split

theorem execWedgeSample_ok (a : Act) (x2 : WedgeIn) (s : State) (hs : State.Ok ps s) :
    Outcome.Ok ps (execWedgeSample a x2 s) := by
  unfold execWedgeSample
  with_reducible repeat' first | assumption | apply Outcome.ok_next | intro _ | apply State.whileLive_ok | apply State.wedge_ok

theorem execSillageAppend_ok (s : State) (hs : State.Ok ps s) :
    Outcome.Ok ps (execSillageAppend s) := by
  unfold execSillageAppend
  with_reducible repeat' first | assumption | apply Outcome.ok_next | apply State.whileLive_ok | apply State.silAppend_ok

theorem State.stampTick_ok (s : State) (hs : State.Ok ps s) :
    State.Ok ps (s.stampTick) := by
  unfold State.stampTick
  with_reducible repeat' first | assumption | apply State.writeStamp_ok | apply State.setFld_ok | apply State.ite_ok

theorem execStampTimer_ok (s : State) (hs : State.Ok ps s) :
    Outcome.Ok ps (execStampTimer s) := by
  unfold execStampTimer
  with_reducible repeat' first | assumption | apply Outcome.ok_next | apply State.whileLive_ok | apply State.stampTick_ok

theorem execSuppressionSummaryTimer_ok (code : Nat) (s : State) (hs : State.Ok ps s) :
    Outcome.Ok ps (execSuppressionSummaryTimer code s) := by
  unfold execSuppressionSummaryTimer
  with_reducible repeat' first | assumption | apply Outcome.ok_next | intro _ | apply State.whileLive_ok | apply State.summary_ok

theorem State.gaugeOver_ok (s : State) (g : Nat) (hs : State.Ok ps s) :
    State.Ok ps (s.gaugeOver g) := by
  unfold State.gaugeOver
  with_reducible repeat' first | assumption | apply State.gaugeStop_ok | apply State.ite_ok

theorem execGaugeDurationEnd_ok (g : Nat) (s : State) (hs : State.Ok ps s) :
    Outcome.Ok ps (execGaugeDurationEnd g s) := by
  unfold execGaugeDurationEnd
  with_reducible repeat' first | assumption | apply Outcome.ok_next | intro _ | apply State.whileLive_ok | apply State.gaugeOver_ok

theorem State.modSensor_ok (s : State) (n : Nat) (f : Sensor → Sensor) (hs : State.Ok ps s) :
    State.Ok ps (s.modSensor n f) := by
  unfold State.modSensor
  with_reducible repeat' first | assumption | (apply State.mk_ok; first | assumption)

theorem State.tjSync_ok (s : State) (hs : State.Ok ps s) :
    State.Ok ps (s.tjSync) := by
  unfold State.tjSync
  with_reducible repeat' first | assumption | apply State.setFld_ok | split

theorem State.thTrack_ok (s : State) (entry : Bool) (hs : State.Ok ps s) :
    State.Ok ps (s.thTrack entry) := by
  unfold State.thTrack
  with_reducible repeat' first | assumption | (apply State.mk_ok; first | assumption)

theorem State.thEnter_ok (s : State) (st : Nat) (hs : State.Ok ps s) :
    State.Ok ps (s.thEnter st) := by
  unfold State.thEnter
  with_reducible repeat'
    first
    | assumption | intro _ | apply State.thTrack_ok | apply State.record_ok | apply State.setFld_ok | apply State.when_ok
    | apply State.bump_ok

theorem State.idleEngines_ok (s : State) (hs : State.Ok ps s) :
    State.Ok ps (s.idleEngines) := by
  unfold State.idleEngines
  with_reducible repeat'
    first
    | assumption | intro _ | apply State.each_ok | apply State.abandonRuns_ok | apply State.laneOff_ok | apply State.enqueue_ok

theorem State.thermalTrip_ok (s : State) (hs : State.Ok ps s) :
    State.Ok ps (s.thermalTrip) := by
  unfold State.thermalTrip
  with_reducible repeat'
    first
    | assumption | apply State.retractTrigger_ok | apply State.closeAllGates_ok | apply State.modPins_ok | apply State.setFld_ok
    | apply State.modPower_ok | apply State.thEnter_ok | apply State.setBit_ok | apply State.bump_ok | apply State.holdFrom_ok
    | apply State.idleEngines_ok
    | (extract_lets +onlyGivenNames x; refine (fun hx => ?_ : State.Ok ps x → _) ?_; rotate_left; unfold x; clear x; rotate_right; clear_value x)
    | (apply State.mk_ok; first | assumption | apply State.retractTrigger_ok | apply State.closeAllGates_ok | apply State.modPins_ok | apply State.setFld_ok | apply State.modPower_ok | apply State.thEnter_ok | apply State.setBit_ok | apply State.bump_ok | apply State.holdFrom_ok | apply State.idleEngines_ok)

theorem State.thCross_ok (s : State) (n : Nat) (hs : State.Ok ps s) :
    State.Ok ps (s.thCross n) := by
  unfold State.thCross
  with_reducible repeat'
    first
    | assumption | apply State.thermalTrip_ok | apply State.aerTemperature_ok | apply State.thEnter_ok | apply State.ite_ok

theorem State.conversion_ok (s : State) (n : Nat) (temp : Int) (hs : State.Ok ps s) :
    State.Ok ps (s.conversion n temp) := by
  unfold State.conversion
  with_reducible repeat'
    first
    | assumption | apply State.tjSync_ok | apply State.setBit_ok | apply State.setFld_ok | apply State.keepBest_ok
    | apply State.sample_ok | apply State.thTrack_ok | apply State.thCross_ok | apply State.modSensor_ok | apply State.ite_ok

theorem execSensorConversion_ok (n : Nat) (temp : Int) (s : State) (hs : State.Ok ps s) :
    Outcome.Ok ps (execSensorConversion n temp s) := by
  unfold execSensorConversion
  with_reducible repeat'
    first
    | assumption | apply Outcome.ok_next | intro _ | apply State.whileLive_ok | apply State.standbyStep_ok | apply State.conversion_ok

theorem State.exclude_ok (s : State) (n : Nat) (hs : State.Ok ps s) :
    State.Ok ps (s.exclude n) := by
  unfold State.exclude
  with_reducible repeat'
    first
    | assumption | apply State.drawFree_ok | apply State.setBit_ok | apply State.setFldBit_ok | apply State.setFld_ok
    | apply State.tjSync_ok | apply State.unitFault_ok | apply State.record_ok | apply State.modSensor_ok | apply State.thEnter_ok
    | apply State.aerTemperature_ok | apply State.ite_ok

theorem execSensorExclusion_ok (n : Nat) (s : State) (hs : State.Ok ps s) :
    Outcome.Ok ps (execSensorExclusion n s) := by
  unfold execSensorExclusion
  with_reducible repeat'
    first
    | assumption | apply Outcome.ok_next | intro _ | apply State.whileLive_ok | apply State.thTrack_ok | apply State.exclude_ok
    | apply State.ite_ok

theorem State.vmAfresh_ok (s : State) (hs : State.Ok ps s) :
    State.Ok ps (s.vmAfresh) := by
  unfold State.vmAfresh
  with_reducible repeat'
    first
    | assumption | apply State.modPower_ok | apply State.vmToNormal_ok | apply State.rideEnd_ok | apply State.rideBegin_ok
    | apply State.rideHold_ok | apply State.ite_ok

theorem State.thRestart_ok (s : State) (hs : State.Ok ps s) :
    State.Ok ps (s.thRestart) := by
  unfold State.thRestart
  with_reducible repeat'
    first
    | assumption | apply State.setFld_ok | apply State.modPins_ok | apply State.vmAfresh_ok | apply State.restoreBoth_ok
    | apply State.wantSpin_ok | apply State.record_ok | apply State.thEnter_ok | apply State.ite_ok

theorem State.cooled_ok (s : State) (hs : State.Ok ps s) :
    State.Ok ps (s.cooled) := by
  unfold State.cooled
  with_reducible repeat'
    first
    | assumption | apply State.thEnter_ok | apply State.baseNote_ok | apply State.modPins_ok | apply State.thRestart_ok
    | apply State.ite_ok | split

theorem execThermalHysteresisTimer_ok (s : State) (hs : State.Ok ps s) :
    Outcome.Ok ps (execThermalHysteresisTimer s) := by
  unfold execThermalHysteresisTimer
  with_reducible repeat'
    first
    | assumption | apply Outcome.ok_next | intro _ | apply State.whileLive_ok | apply State.standbyStep_ok | apply State.cooled_ok

theorem State.hardwareAction_ok (s : State) (c : Instr) (hs : State.Ok ps s) :
    State.Ok ps (s.hardwareAction c) := by
  unfold State.hardwareAction
  with_reducible repeat'
    first
    | assumption | intro _ | apply State.when_ok | apply State.retractTrigger_ok | apply State.closeAllGates_ok
    | apply State.modPower_ok | apply State.closeGates_ok | split

theorem State.noteEvent_ok (s : State) (c : Instr) (hs : State.Ok ps s) :
    State.Ok ps (s.noteEvent c) := by
  unfold State.noteEvent
  with_reducible repeat' first | assumption | intro _ | apply State.each_ok | apply State.onSome_ok | apply State.modHelper_ok | split

theorem State.recordEvent_ok_of {p : List Instr} (s : State) (c : Instr) (hc : (s.eventRank c).isSome = true)
    (hs : State.Ok p s) : State.Ok p (s.recordEvent c) := by
  unfold State.recordEvent
  split
  · next h => rw [h] at hc; cases hc
  · split
    · exact State.bump_ok _ hs
    · exact State.hardwareAction_ok _ _ (State.ok_of_same (s := s) rfl rfl rfl rfl rfl hs)

theorem State.recordEvent_ok {p : List Instr} (s : State) (hs : State.Ok p s) : State.Ok p (s.recordEvent .spindleOvercurrent) :=
  State.recordEvent_ok_of s _ rfl hs

theorem execSpindleStartRequest_ok (s : State) (hs : State.Ok ps s) :
    Outcome.Ok ps (execSpindleStartRequest s) := by
  unfold execSpindleStartRequest
  with_reducible repeat'
    first
    | assumption | apply Outcome.ok_next | intro _ | apply State.whileLive_ok | apply State.when_ok | apply State.spBegin_ok

theorem State.catchRec_ok (s : State) (result : Nat) (back : Bool) (speed : Nat) (hs : State.Ok ps s) :
    State.Ok ps (s.catchRec result back speed) := by
  unfold State.catchRec
  with_reducible repeat' first | assumption | apply State.setFld_ok

theorem State.spAlign_ok (s : State) (hs : State.Ok ps s) :
    State.Ok ps (s.spAlign) := by
  unfold State.spAlign
  with_reducible repeat' first | assumption | apply State.spGoto_ok | apply State.modSp_ok | apply State.spDrive_ok

theorem State.spAccel_ok (s : State) (speed : Nat) (angle : Nat) (hs : State.Ok ps s) :
    State.Ok ps (s.spAccel speed angle) := by
  unfold State.spAccel
  with_reducible repeat'
    first
    | assumption | apply State.spGoto_ok | apply State.setFld_ok | apply State.moveSlewed_ok | apply State.modSp_ok
    | apply State.spDrive_ok

theorem State.observed_ok (s : State) (amp : Nat) (back : Bool) (speed : Nat) (angle : Nat) (hs : State.Ok ps s) :
    State.Ok ps (s.observed amp back speed angle) := by
  unfold State.observed
  with_reducible repeat'
    first
    | assumption | apply State.spAlign_ok | apply State.catchRec_ok | apply State.spAccel_ok | apply State.spGoto_ok
    | apply State.spShort_ok | apply State.modSp_ok | apply State.ite_ok

theorem execObservationEnd_ok (amp : Nat) (backward : Bool) (speed : Nat) (angle : Nat) (s : State) (hs : State.Ok ps s) :
    Outcome.Ok ps (execObservationEnd amp backward speed angle s) := by
  unfold execObservationEnd
  with_reducible repeat' first | assumption | apply Outcome.ok_next | intro _ | apply State.whileLive_ok | apply State.observed_ok

theorem State.brakeStopped_ok (s : State) (hs : State.Ok ps s) :
    State.Ok ps (s.brakeStopped) := by
  unfold State.brakeStopped
  with_reducible repeat' first | assumption | apply State.spAlign_ok | apply State.modSp_ok | apply State.ite_ok

theorem execShortBrakeStopped_ok (s : State) (hs : State.Ok ps s) :
    Outcome.Ok ps (execShortBrakeStopped s) := by
  unfold execShortBrakeStopped
  with_reducible repeat' first | assumption | apply Outcome.ok_next | apply State.whileLive_ok | apply State.brakeStopped_ok

theorem State.holdEnd_ok (s : State) (hs : State.Ok ps s) :
    State.Ok ps (s.holdEnd) := by
  unfold State.holdEnd
  with_reducible repeat'
    first
    | assumption | apply State.spAlign_ok | apply State.afterStopped_ok | apply State.spGoto_ok | apply State.spDrive_ok
    | apply State.modSp_ok | apply State.ite_ok

theorem execShortHoldEnd_ok (s : State) (hs : State.Ok ps s) :
    Outcome.Ok ps (execShortHoldEnd s) := by
  unfold execShortHoldEnd
  with_reducible repeat' first | assumption | apply Outcome.ok_next | apply State.whileLive_ok | apply State.holdEnd_ok

theorem State.aligned_ok (s : State) (angle : Nat) (respPos : Nat) (respNeg : Nat) (hs : State.Ok ps s) :
    State.Ok ps (s.aligned angle respPos respNeg) := by
  unfold State.aligned
  with_reducible repeat' first | assumption | apply State.spAccel_ok | apply State.modSp_ok | apply State.ite_ok

theorem execAlignmentResult_ok (angle : Nat) (respPos : Nat) (respNeg : Nat) (s : State) (hs : State.Ok ps s) :
    Outcome.Ok ps (execAlignmentResult angle respPos respNeg s) := by
  unfold execAlignmentResult
  with_reducible repeat' first | assumption | apply Outcome.ok_next | intro _ | apply State.whileLive_ok | apply State.aligned_ok

theorem State.alignTimeout_ok (s : State) (hs : State.Ok ps s) :
    State.Ok ps (s.alignTimeout) := by
  unfold State.alignTimeout
  with_reducible repeat'
    first
    | assumption | apply State.spObserve_ok | apply State.modSp_ok | apply State.spFault_ok | apply State.ite_ok

theorem execAlignmentTimeout_ok (s : State) (hs : State.Ok ps s) :
    Outcome.Ok ps (execAlignmentTimeout s) := by
  unfold execAlignmentTimeout
  with_reducible repeat' first | assumption | apply Outcome.ok_next | apply State.whileLive_ok | apply State.alignTimeout_ok

theorem execSpindleAtSpeed_ok (s : State) (hs : State.Ok ps s) :
    Outcome.Ok ps (execSpindleAtSpeed s) := by
  unfold execSpindleAtSpeed
  with_reducible repeat'
    first
    | assumption | apply Outcome.ok_next | intro _ | apply State.whileLive_ok | apply State.when_ok | apply State.afterLocked_ok
    | apply State.returnToken_ok | apply State.setBit_ok | apply State.spGoto_ok

theorem execSpindleStartTimeout_ok (s : State) (hs : State.Ok ps s) :
    Outcome.Ok ps (execSpindleStartTimeout s) := by
  unfold execSpindleStartTimeout
  with_reducible repeat'
    first
    | assumption | apply Outcome.ok_next | intro _ | apply State.whileLive_ok | apply State.when_ok | apply State.spFault_ok

theorem execSlewComplete_ok (s : State) (hs : State.Ok ps s) :
    Outcome.Ok ps (execSlewComplete s) := by
  unfold execSlewComplete
  with_reducible repeat'
    first
    | assumption | apply Outcome.ok_next | intro _ | apply State.whileLive_ok | apply State.when_ok | apply State.afterLocked_ok
    | apply State.setBit_ok | apply State.spGoto_ok

theorem execSpindleStopRequest_ok (s : State) (hs : State.Ok ps s) :
    Outcome.Ok ps (execSpindleStopRequest s) := by
  unfold execSpindleStopRequest
  with_reducible repeat' first | assumption | apply Outcome.ok_next | apply State.whileLive_ok | apply State.stopSpindle_ok

theorem execRegenBrakeEnd_ok (s : State) (hs : State.Ok ps s) :
    Outcome.Ok ps (execRegenBrakeEnd s) := by
  unfold execRegenBrakeEnd
  with_reducible repeat'
    first
    | assumption | apply Outcome.ok_next | intro _ | apply State.whileLive_ok | apply State.when_ok | apply State.spShort_ok

theorem State.lockLost_ok (s : State) (hs : State.Ok ps s) :
    State.Ok ps (s.lockLost) := by
  unfold State.lockLost
  with_reducible repeat'
    first
    | assumption | apply State.modSp_ok | apply State.spFault_ok | apply State.spObserve_ok | apply State.ite_ok

theorem execCommutationLockLoss_ok (s : State) (hs : State.Ok ps s) :
    Outcome.Ok ps (execCommutationLockLoss s) := by
  unfold execCommutationLockLoss
  with_reducible repeat' first | assumption | apply Outcome.ok_next | apply State.whileLive_ok | apply State.lockLost_ok

theorem execSpindleOvercurrent_ok (s : State) (hs : State.Ok ps s) :
    Outcome.Ok ps (execSpindleOvercurrent s) := by
  unfold execSpindleOvercurrent
  with_reducible repeat'
    first
    | assumption | apply Outcome.ok_next | intro _ | apply State.whileLive_ok | apply State.when_ok | apply State.spFault_ok

theorem execGateDriveUndervoltage_ok (s : State) (hs : State.Ok ps s) :
    Outcome.Ok ps (execGateDriveUndervoltage s) := by
  unfold execGateDriveUndervoltage
  with_reducible repeat' first | assumption | apply Outcome.ok_next | intro _ | apply State.whileLive_ok | apply State.spFault_ok

theorem State.handover_ok (s : State) (rising : Bool) (agree : Bool) (hs : State.Ok ps s) :
    State.Ok ps (s.handover rising agree) := by
  unfold State.handover
  with_reducible repeat' first | assumption | apply State.setFld_ok | apply State.lockLost_ok | apply State.ite_ok

theorem execPositionHandover_ok (rising : Bool) (agree : Bool) (s : State) (hs : State.Ok ps s) :
    Outcome.Ok ps (execPositionHandover rising agree s) := by
  unfold execPositionHandover
  with_reducible repeat' first | assumption | apply Outcome.ok_next | intro _ | apply State.whileLive_ok | apply State.handover_ok

theorem State.currentLoops_ok (s : State) (iu : Int) (iv : Int) (volts : List Nat) (hs : State.Ok ps s) :
    State.Ok ps (s.currentLoops iu iv volts) := by
  unfold State.currentLoops
  with_reducible repeat' first | assumption | apply State.modSp_ok

theorem State.sampleSet_ok (s : State) (iu : Int) (iv : Int) (volts : List Nat) (vm : Nat) (hs : State.Ok ps s) :
    State.Ok ps (s.sampleSet iu iv volts vm) := by
  unfold State.sampleSet
  with_reducible repeat'
    first
    | assumption | intro _ | apply State.setFld_ok | apply State.when_ok | apply State.bump_ok | apply State.modSp_ok
    | apply State.currentLoops_ok | apply State.recordEvent_ok

theorem execCurrentSampleSet_ok (iu : Int) (iv : Int) (volts : List Nat) (vm : Nat) (s : State) (hs : State.Ok ps s) :
    Outcome.Ok ps (execCurrentSampleSet iu iv volts vm s) := by
  unfold execCurrentSampleSet
  with_reducible repeat' first | assumption | apply Outcome.ok_next | intro _ | apply State.whileLive_ok | apply State.sampleSet_ok

theorem State.loopMiss_ok (s : State) (hs : State.Ok ps s) :
    State.Ok ps (s.loopMiss) := by
  unfold State.loopMiss
  with_reducible repeat' first | assumption | apply State.modSp_ok | apply State.missedTwice_ok | apply State.ite_ok | split

theorem execCurrentLoopMiss_ok (s : State) (hs : State.Ok ps s) :
    Outcome.Ok ps (execCurrentLoopMiss s) := by
  unfold execCurrentLoopMiss
  with_reducible repeat' first | assumption | apply Outcome.ok_next | apply State.whileLive_ok | apply State.loopMiss_ok

theorem State.speedLoopStep_ok (s : State) (hs : State.Ok ps s) :
    State.Ok ps (s.speedLoopStep) := by
  unfold State.speedLoopStep
  with_reducible repeat' first | assumption | apply State.modSp_ok

theorem execSpeedLoopUpdate_ok (s : State) (hs : State.Ok ps s) :
    Outcome.Ok ps (execSpeedLoopUpdate s) := by
  unfold execSpeedLoopUpdate
  with_reducible repeat'
    first
    | assumption | apply Outcome.ok_next | intro _ | apply State.whileLive_ok | apply State.when_ok | apply State.speedLoopStep_ok

theorem execBootstrapForcedPulse_ok (phase : Nat) (s : State) (hs : State.Ok ps s) :
    Outcome.Ok ps (execBootstrapForcedPulse phase s) := by
  unfold execBootstrapForcedPulse
  with_reducible repeat'
    first
    | assumption | apply Outcome.ok_next | intro _ | apply State.whileLive_ok | apply State.when_ok | apply State.modSp_ok

theorem State.overvoltage44_ok (s : State) (hs : State.Ok ps s) :
    State.Ok ps (s.overvoltage44) := by
  unfold State.overvoltage44
  with_reducible repeat'
    first
    | assumption | apply State.spRecord_ok | apply State.bump_ok | apply State.setBit_ok | apply State.modPins_ok | apply State.ite_ok

theorem execVmOvervoltage44_ok (s : State) (hs : State.Ok ps s) :
    Outcome.Ok ps (execVmOvervoltage44 s) := by
  unfold execVmOvervoltage44
  with_reducible repeat' first | assumption | apply Outcome.ok_next | apply State.whileLive_ok | apply State.overvoltage44_ok

theorem execChopperRelease_ok (ipeak : Nat) (s : State) (hs : State.Ok ps s) :
    Outcome.Ok ps (execChopperRelease ipeak s) := by
  unfold execChopperRelease
  with_reducible repeat'
    first
    | assumption | apply Outcome.ok_next | intro _ | apply State.whileLive_ok | apply State.when_ok | apply State.setFld_ok
    | apply State.clrBit_ok | apply State.modPins_ok

theorem execChopperFault_ok (ipeak : Nat) (s : State) (hs : State.Ok ps s) :
    Outcome.Ok ps (execChopperFault ipeak s) := by
  unfold execChopperFault
  with_reducible repeat'
    first
    | assumption | apply Outcome.ok_next | intro _ | apply State.whileLive_ok | apply State.when_ok | apply State.setBit_ok
    | apply State.spRecord_ok | apply State.setFld_ok | apply State.parkBoth_ok | apply State.modSp_ok | apply State.spShort_ok
    | apply State.spGoto_ok | apply State.ite_ok

theorem execVmOvervoltage46_ok (s : State) (hs : State.Ok ps s) :
    Outcome.Ok ps (execVmOvervoltage46 s) := by
  unfold execVmOvervoltage46
  with_reducible repeat'
    first
    | assumption | apply Outcome.ok_next | intro _ | apply State.whileLive_ok | apply State.when_ok | apply State.spFault_ok

theorem State.slewStep_ok (s : State) (seen : Nat) (hs : State.Ok ps s) :
    State.Ok ps (s.slewStep seen) := by
  unfold State.slewStep
  with_reducible repeat'
    first
    | assumption | intro _ | apply State.moveSlewed_ok | apply State.noteSpeed_ok | apply State.setFld_ok | apply State.sample_ok
    | apply State.each_ok | apply State.modSv_ok | apply State.ite_ok

theorem execSlewUpdate_ok (speed : Nat) (s : State) (hs : State.Ok ps s) :
    Outcome.Ok ps (execSlewUpdate speed s) := by
  unfold execSlewUpdate
  with_reducible repeat' first | assumption | apply Outcome.ok_next | intro _ | apply State.whileLive_ok | apply State.slewStep_ok

theorem State.fsync_ok (s : State) (hs : State.Ok ps s) :
    State.Ok ps (s.fsync) := by
  unfold State.fsync
  with_reducible repeat'
    first
    | assumption | apply State.modSp_ok | apply State.clrBit_ok | apply State.setFld_ok | apply State.sourceValue_ok
    | apply State.ite_ok | split

theorem execFsyncEdge_ok (s : State) (hs : State.Ok ps s) :
    Outcome.Ok ps (execFsyncEdge s) := by
  unfold execFsyncEdge
  with_reducible repeat' first | assumption | apply Outcome.ok_next | apply State.whileLive_ok | apply State.fsync_ok

theorem State.spdAin_ok (s : State) (code : Nat) (hs : State.Ok ps s) :
    State.Ok ps (s.spdAin code) := by
  unfold State.spdAin
  with_reducible repeat'
    first
    | assumption | apply State.modSp_ok | apply State.sourceValue_ok | apply State.clrBit_ok | apply State.ite_ok

theorem execSpdAinSample_ok (code : Nat) (s : State) (hs : State.Ok ps s) :
    Outcome.Ok ps (execSpdAinSample code s) := by
  unfold execSpdAinSample
  with_reducible repeat' first | assumption | apply Outcome.ok_next | intro _ | apply State.whileLive_ok | apply State.spdAin_ok

theorem execSourceLost_ok (s : State) (hs : State.Ok ps s) :
    Outcome.Ok ps (execSourceLost s) := by
  unfold execSourceLost
  with_reducible repeat'
    first
    | assumption | apply Outcome.ok_next | intro _ | apply State.whileLive_ok | apply State.when_ok | apply State.setTarget_ok
    | apply State.setBit_ok | apply State.spRecord_ok

theorem execFollowingErrorTimeout_ok (s : State) (hs : State.Ok ps s) :
    Outcome.Ok ps (execFollowingErrorTimeout s) := by
  unfold execFollowingErrorTimeout
  with_reducible repeat'
    first
    | assumption | apply Outcome.ok_next | intro _ | apply State.whileLive_ok | apply State.when_ok | apply State.modSp_ok
    | apply State.moveSlewed_ok | apply State.setFld_ok | apply State.setBit_ok | apply State.spRecord_ok

end Sys2Proof.Machine
end

