-- ==== Sys2Proof/WellFormed.lean ====
section
/-! DEFINITION. The commands that can reach the block: operands within the ranges the spec gives their numbers. The meanings are
total on ill-formed commands too; a number outside its range names no part of the block. -/
namespace Sys2Proof

/-- Helpers H0 to H23 (00_scope.md). -/
def helperCount : Nat := 24
/-- Service rings 0 to 7 (R570). -/
def ringCount : Nat := 8
/-- Controllers: of the x4 link or port 0, and of port 1 (R534). -/
def ctrlCount : Nat := 2
/-- Lanes L0 to L7 and LS, number 8 (00_scope.md). -/
def laneCount : Nat := 9
/-- Deep-decode units DD0 to DD3 (13_detection_and_deep_decode.md). -/
def unitCount : Nat := 4
/-- Mover channels (08_movers.md). -/
def channelCount : Nat := 64
/-- Temperature sensors (TH_SENS0 to TH_SENS21). -/
def sensorCount : Nat := 22
/-- Gauges (R632). -/
def gaugeCount : Nat := 64

/-- A message endpoint: a helper, or the steward (31). -/
def wfEndpoint (e : Nat) : Bool := decide (e < helperCount) || e == 31

/-- The fields of an enclosure-bus header fit their places (R595). -/
def wfEbHdr (h : EbHdr) : Bool :=
  decide (h.enclid < 2 ^ 32) && decide (h.bay < 2 ^ 8) && decide (h.node < 2 ^ 8) && decide (h.seq < 2 ^ 16) && decide (h.etime < 2 ^ 32)

/-- The fields of an Ewerid header fit their places (R511). -/
def wfEwHdr (h : EwHdr) : Bool :=
  decide (h.port < 2) && decide (h.src < 2 ^ 16) && decide (h.srcGen < 2 ^ 16) && decide (h.dstGen < 2 ^ 16) && decide (h.epoch < 2 ^ 32) &&
    decide (h.xid < 2 ^ 32)

/-- A cell half (R513). -/
def wfCell (c : EwCell) : Bool := decide (c.group < 2 ^ 32) && decide (c.row < 2 ^ 32) && decide (c.cell < 128) && decide (c.half < 2)

/-- The fields of a wedge have their cells (R290), the mark with four to either side (R292). -/
def wfWedgePlace (x : WedgePlace) : Bool :=
  x.sam.length == 24 && x.index.length == 20 && x.trackId.length == 48 && x.wrro.length == 24 && x.burstN.length == 40 && x.burstQ.length == 40

/-- A wedge of up to four places, echoes of 32 bits (R297) and routing registers 1 to 4 (R684). -/
def wfWedge (x : WedgeIn) : Bool := decide (x.places.length ≤ 4) && x.places.all wfWedgePlace && x.echo.all (fun w => decide (w < 2 ^ 32)) && x.routeBad.all (fun r => decide (1 ≤ r ∧ r ≤ 4))

/-- The cells of the 17 positions of the sync search (R366). -/
def wfSync (l : List SlicedCell) : Bool := l.length == 48

/-- A decoder decides 144,288 bits (R392). -/
def wfDecode (r : DecodeRes) : Bool := r.bits >>> 144288 == 0

/-- A re-search sees the cells of 65 positions (R410). -/
def wfStep : StepRes → Bool
  | .decode d => wfDecode d
  | .search c d => c.length == 96 && d.length == 96
  | .screen b => b >>> 144288 == 0
  | .noSamples => true

/-- The fields of a submission-queue entry fit their dwords. -/
def wfEntry (e : SqEntry) : Bool :=
  decide (e.opc < 2 ^ 8) && decide (e.flags < 2 ^ 8) && decide (e.cid < 2 ^ 16) && [e.nsid, e.cdw2, e.cdw10, e.cdw11, e.cdw12, e.cdw13, e.cdw14, e.cdw15].all
    (fun d => decide (d < 2 ^ 32)) && decide (e.dptr < 2 ^ 64)

/-- A resistance fits AS_TEMPx (R342). -/
def wfAssist (v : AssistIn) : Bool := decide (v.res < 2 ^ 16)

/-- The endpoint a steward sends to, and its line operations. -/
def wfStewardOp : StewardOp → Bool
  | .send dst _ _ _ _ => wfEndpoint dst
  | .line op _ _ => decide (op < 4)
  | _ => true

/-- Extents of a chain fit their fields (R582). -/
def wfBlocks (l : List ChainBlock) : Bool :=
  l.all (fun b => b.extents.all (fun x => decide (x.dev < 2 ^ 64) && decide (x.host < 2 ^ 64) && decide (x.len < 2 ^ 32)))

/-- The operands of a command are in range. -/
def Instr.wf : Instr → Bool
  | .registerWrite addr _ => decide (addr < 2 ^ 24)
  | .registerReadClear addr _ => decide (addr < 2 ^ 24)
  | .counterLoRead _ => true
  | .referenceLoss => true
  | .referenceRestored => true
  | .helperRateMeasurement _ => true
  | .porstLRise _ _ => true
  | .seqRailInRange => true
  | .seqDwellEnd _ => true
  | .seqRailTimeout => true
  | .seqRetryTimer => true
  | .porstLFall => true
  | .powerdownRailFallen => true
  | .powerdownStepTimeout => true
  | .railMonitorTrip _ => true
  | .supplyResetRelease _ => true
  | .vserLinkRetrain => true
  | .vmWarning => true
  | .vmWarningClear => true
  | .recoveryWaitExpiry => true
  | .rideTimerExpiry => true
  | .vmLoss => true
  | .vmRestored => true
  | .vmOvervoltage44 => true
  | .chopperRelease _ => true
  | .chopperFault _ => true
  | .vmOvervoltage46 => true
  | .retractRelease _ => true
  | .idleTimerExpiry => true
  | .hibernateWake => true
  | .accordBootLoad => true
  | .helperRoleAssignment h => decide (h < helperCount)
  | .helperStart h => decide (h < helperCount)
  | .helperStopRequest h => decide (h < helperCount)
  | .helperDrainDone h => decide (h < helperCount)
  | .helperDrainTimeout h _ => decide (h < helperCount)
  | .helperFault h cause _ _ => decide (h < helperCount) && decide (cause < 2 ^ 8)
  | .baseNoteStewardRestart => true
  | .safePointLapse h => decide (h < helperCount)
  | .stewardTrap _ _ _ => true
  | .stewardWatchdogExpiry _ _ => true
  | .microwordIssue h _ => decide (h < helperCount)
  | .microwordBranch h _ => decide (h < helperCount)
  | .microwordCall h _ => decide (h < helperCount)
  | .microwordReturn h _ => decide (h < helperCount)
  | .localLoad h _ => decide (h < helperCount)
  | .localStore h _ => decide (h < helperCount)
  | .fabricLoad h _ _ => decide (h < helperCount)
  | .fabricStore h _ _ => decide (h < helperCount)
  | .messageSend h _ => decide (h < helperCount)
  | .messageReceive h _ => decide (h < helperCount)
  | .errorQueueReceive h _ => decide (h < helperCount)
  | .islandFifoPop h _ _ => decide (h < helperCount)
  | .islandFifoPush h _ => decide (h < helperCount)
  | .lineClean h _ _ => decide (h < helperCount)
  | .lineInvalidate h _ _ => decide (h < helperCount)
  | .lineCleanInvalidate h _ _ => decide (h < helperCount)
  | .lineZero h _ _ => decide (h < helperCount)
  | .fenceFull h _ _ => decide (h < helperCount)
  | .fenceStoreSend h _ => decide (h < helperCount)
  | .fenceIsland h _ _ => decide (h < helperCount)
  | .messageDelivery src => wfEndpoint src
  | .messageEntersInbox dst => wfEndpoint dst
  | .messageReturn src => wfEndpoint src
  | .patchStagingDone _ => true
  | .stewardPatchSwap => true
  | .hbmFillDone => true
  | .blotterRawWrite _ => true
  | .blotterRawRead _ => true
  | .blotterCheckedRead _ => true
  | .blotterCheckedWrite _ => true
  | .blotterOpComplete => true
  | .cacheFillComplete _ _ => true
  | .prefetchFillComplete _ _ => true
  | .evictionWritebackComplete _ _ _ => true
  | .cacheInvalidationDone => true
  | .moverGo c _ _ _ _ _ _ _ => decide (c < channelCount)
  | .moverStopRequest c => decide (c < channelCount)
  | .moverStartRequest c => decide (c < channelCount)
  | .moverDiscardRequest c => decide (c < channelCount)
  | .moverResumeRequest c => decide (c < channelCount)
  | .moverSetStart mover => decide (mover < 4)
  | .moverSetComplete c _ _ => decide (c < channelCount)
  | .moverHalt c _ _ _ => decide (c < channelCount)
  | .moverTimeout c => decide (c < channelCount)
  | .peripheralBurst c _ _ _ _ _ _ => decide (c < channelCount)
  | .peripheralWithdraw c => decide (c < channelCount)
  | .spindleStartRequest => true
  | .observationEnd _ _ speed angle => decide (speed < 2 ^ 16 ∧ angle < 3600)
  | .shortBrakeStopped => true
  | .shortHoldEnd => true
  | .alignmentResult angle _ _ => decide (angle < 3600)
  | .alignmentTimeout => true
  | .spindleAtSpeed => true
  | .spindleStartTimeout => true
  | .slewComplete => true
  | .spindleStopRequest => true
  | .regenBrakeEnd => true
  | .commutationLockLoss => true
  | .spindleOvercurrent => true
  | .gateDriveUndervoltage => true
  | .positionHandover _ _ => true
  | .currentSampleSet iu iv volts vm => decide (-2048 ≤ iu ∧ iu < 2048 ∧ -2048 ≤ iv ∧ iv < 2048 ∧ volts.length = 3 ∧ vm < 4096) && volts.all (fun v => decide (v < 4096))
  | .currentLoopMiss => true
  | .speedLoopUpdate => true
  | .bootstrapForcedPulse phase => decide (phase < 3)
  | .slewUpdate speed => decide (speed < 2 ^ 16)
  | .fsyncEdge => true
  | .spdAinSample code => decide (code < 4096)
  | .sourceLost => true
  | .followingErrorTimeout => true
  | .wedgeSample _ x => wfWedge x
  | .servoDeadlineMiss _ _ => true
  | .shock _ => true
  | .shockHoldEnd _ => true
  | .vcmFaultPin _ => true
  | .maDriverFaultPin _ => true
  | .loadRequest _ => true
  | .loadTimeout _ => true
  | .seekRequest _ _ _ => true
  | .seekLeadExpiry _ => true
  | .parkRequest _ => true
  | .unloadProfileEnd _ _ => true
  | .recoveryTimeout _ => true
  | .assistLoopBoundary _ v0 v1 => wfAssist v0 && wfAssist v1
  | .assistDeadlineMiss _ => true
  | .assistFirstBitCell _ _ => true
  | .overtempTrip _ _ _ => true
  | .coolingEnd _ _ => true
  | .preampFaultPin _ => true
  | .preampTempRead _ _ _ => true
  | .tintLost _ => true
  | .laneBind lane => decide (lane < laneCount)
  | .laneUnbind lane => decide (lane < laneCount)
  | .frameCommand lane _ _ _ => decide (lane < laneCount)
  | .framePositionPassed lane => decide (lane < laneCount)
  | .captureStart lane => decide (lane < laneCount)
  | .syncDecision lane c c2 => decide (lane < laneCount) && wfSync c && (c2 == [] || wfSync c2)
  | .sectorEnd lane _ => decide (lane < laneCount)
  | .inlineDecodeResult lane r => decide (lane < laneCount) && wfDecode r
  | .writeFrameCommand _ _ _ => true
  | .writeFrameStart _ _ => true
  | .writePayloadUnderrun _ _ => true
  | .writeWedgeSuspend _ _ => true
  | .writeWedgeResume _ _ => true
  | .writeFrameEnd _ _ => true
  | .frameEscalation surf _ _ _ => decide (surf < 32)
  | .deepDecodeStart unit => decide (unit < unitCount)
  | .deepDecodeStepDone unit r => decide (unit < unitCount) && wfStep r
  | .unitOvertime unit => decide (unit < unitCount)
  | .rereadPass _ _ => true
  | .neighbourWaitExpiry surf _ _ => decide (surf < 32)
  | .lsWaitTimeout surf _ _ => decide (surf < 32)
  | .unreadableTimeout surf _ _ => decide (surf < 32)
  | .calRunStart lane => decide (lane < laneCount)
  | .calStepDone lane _ => decide (lane < laneCount)
  | .calTimeout lane => decide (lane < laneCount)
  | .degradedRecalTimer => true
  | .placementBatch _ => true
  | .journalPagesWritten => true
  | .recordLineComplete => true
  | .cleaningVictimSelect => true
  | .cleaningFrameRead _ => true
  | .bandRelease _ => true
  | .checkpointSegmentStart => true
  | .checkpointCopyWritten _ => true
  | .rootWriteTimer => true
  | .mapRebuildStart _ _ _ _ => true
  | .mapRebuildComplete _ _ => true
  | .validCountWalkDone => true
  | .stripeParityCompute _ _ => true
  | .sjRecordDurable => true
  | .reconstructionComplete _ => true
  | .rebuildStripe => true
  | .rebuildCursorTimer => true
  | .patrolStripe _ _ => true
  | .mediaTimeInterval _ _ => true
  | .hello h _ _ _ => wfEwHdr h
  | .roster h _ => wfEwHdr h
  | .leader h _ => wfEwHdr h
  | .layout h _ _ _ _ => wfEwHdr h
  | .ack h => wfEwHdr h
  | .heartbeat h _ _ => wfEwHdr h
  | .failnote h id _ _ => wfEwHdr h && decide (id < 2 ^ 15)
  | .leave h _ => wfEwHdr h
  | .pupd h c _ _ _ _ => wfEwHdr h && wfCell c
  | .qupd h c _ _ _ _ => wfEwHdr h && wfCell c
  | .updack h c => wfEwHdr h && wfCell c
  | .pcopy h _ _ => wfEwHdr h
  | .prelease h _ => wfEwHdr h
  | .cread h c _ => wfEwHdr h && wfCell c
  | .cdata h c _ _ _ => wfEwHdr h && wfCell c
  | .pstate h c _ _ => wfEwHdr h && wfCell c
  | .ptpMessage port _ _ => decide (port < 2)
  | .announceTimeout => true
  | .ppsSecond => true
  | .ethernetLinkChange port _ => decide (port < 2)
  | .heartbeatTimer => true
  | .memberSilent id => decide (id < 2 ^ 15)
  | .probeTimeout id => decide (id < 2 ^ 15)
  | .updackTimeout _ _ cell _ => decide (cell < 128)
  | .partnerTimeout => true
  | .rollCallSlot => true
  | .rollCallClose => true
  | .phaseBoundExpiry => true
  | .poolRebuildRow _ _ cell => decide (cell < 128)
  | .controllerEnable ctrl _ _ _ _ => decide (ctrl < ctrlCount)
  | .controllerReady ctrl => decide (ctrl < ctrlCount)
  | .controllerReset ctrl _ => decide (ctrl < ctrlCount)
  | .controllerShutdown ctrl _ => decide (ctrl < ctrlCount)
  | .perstRise ctrl => decide (ctrl < ctrlCount)
  | .sqDoorbell ctrl sq tail => decide (ctrl < ctrlCount) && decide (sq < 2 ^ 16) && decide (tail < 2 ^ 16)
  | .cqHeadDoorbell ctrl cq head => decide (ctrl < ctrlCount) && decide (cq < 2 ^ 16) && decide (head < 2 ^ 16)
  | .commandFetch ctrl sq e _ => decide (ctrl < ctrlCount) && decide (sq < 2 ^ 16) && wfEntry e
  | .rangeLockGrant ctrl sq cid => decide (ctrl < ctrlCount) && decide (sq < 2 ^ 16) && decide (cid < 2 ^ 16)
  | .interruptCoalesceTimer ctrl _ => decide (ctrl < ctrlCount)
  | .tlerExpiry ctrl sq cid => decide (ctrl < ctrlCount) && decide (sq < 2 ^ 16) && decide (cid < 2 ^ 16)
  | .deletionDrainTimeout ctrl id _ => decide (ctrl < ctrlCount) && decide (id < 2 ^ 15)
  | .busMasterDisable ctrl => decide (ctrl < ctrlCount)
  | .activationDrainTimeout => true
  | .pcieL2Entered => true
  | .l2Timeout => true
  | .deleteIoSq ctrl cid => decide (ctrl < ctrlCount) && decide (cid < 2 ^ 16)
  | .createIoSq ctrl cid => decide (ctrl < ctrlCount) && decide (cid < 2 ^ 16)
  | .getLogPage ctrl cid => decide (ctrl < ctrlCount) && decide (cid < 2 ^ 16)
  | .deleteIoCq ctrl cid => decide (ctrl < ctrlCount) && decide (cid < 2 ^ 16)
  | .createIoCq ctrl cid => decide (ctrl < ctrlCount) && decide (cid < 2 ^ 16)
  | .identify ctrl cid => decide (ctrl < ctrlCount) && decide (cid < 2 ^ 16)
  | .abort ctrl cid _ => decide (ctrl < ctrlCount) && decide (cid < 2 ^ 16)
  | .setArbitration ctrl cid => decide (ctrl < ctrlCount) && decide (cid < 2 ^ 16)
  | .setPowerManagement ctrl cid => decide (ctrl < ctrlCount) && decide (cid < 2 ^ 16)
  | .setTemperatureThreshold ctrl cid => decide (ctrl < ctrlCount) && decide (cid < 2 ^ 16)
  | .setErrorRecovery ctrl cid => decide (ctrl < ctrlCount) && decide (cid < 2 ^ 16)
  | .setNumberOfQueues ctrl cid => decide (ctrl < ctrlCount) && decide (cid < 2 ^ 16)
  | .setInterruptCoalescing ctrl cid => decide (ctrl < ctrlCount) && decide (cid < 2 ^ 16)
  | .setInterruptVectorConfig ctrl cid => decide (ctrl < ctrlCount) && decide (cid < 2 ^ 16)
  | .setWriteAtomicity ctrl cid => decide (ctrl < ctrlCount) && decide (cid < 2 ^ 16)
  | .setAsyncEventConfig ctrl cid => decide (ctrl < ctrlCount) && decide (cid < 2 ^ 16)
  | .setTimestamp ctrl cid _ => decide (ctrl < ctrlCount) && decide (cid < 2 ^ 16)
  | .setReservationNotifyMask ctrl cid => decide (ctrl < ctrlCount) && decide (cid < 2 ^ 16)
  | .setReservationPersistence ctrl cid => decide (ctrl < ctrlCount) && decide (cid < 2 ^ 16)
  | .setQueueOrdering ctrl cid => decide (ctrl < ctrlCount) && decide (cid < 2 ^ 16)
  | .setStreamingMode ctrl cid => decide (ctrl < ctrlCount) && decide (cid < 2 ^ 16)
  | .getFeatures ctrl cid => decide (ctrl < ctrlCount) && decide (cid < 2 ^ 16)
  | .asyncEventRequest ctrl cid => decide (ctrl < ctrlCount) && decide (cid < 2 ^ 16)
  | .namespaceCreate ctrl cid _ _ _ => decide (ctrl < ctrlCount) && decide (cid < 2 ^ 16)
  | .namespaceDelete ctrl cid => decide (ctrl < ctrlCount) && decide (cid < 2 ^ 16)
  | .namespaceAttach ctrl cid _ => decide (ctrl < ctrlCount) && decide (cid < 2 ^ 16)
  | .namespaceDetach ctrl cid _ => decide (ctrl < ctrlCount) && decide (cid < 2 ^ 16)
  | .firmwareDownload ctrl cid _ => decide (ctrl < ctrlCount) && decide (cid < 2 ^ 16)
  | .firmwareCommitStore ctrl cid => decide (ctrl < ctrlCount) && decide (cid < 2 ^ 16)
  | .firmwareCommitStoreActivate ctrl cid => decide (ctrl < ctrlCount) && decide (cid < 2 ^ 16)
  | .firmwareCommitSetActivate ctrl cid => decide (ctrl < ctrlCount) && decide (cid < 2 ^ 16)
  | .firmwareCommitImmediate ctrl cid => decide (ctrl < ctrlCount) && decide (cid < 2 ^ 16)
  | .selfTestShort ctrl cid _ => decide (ctrl < ctrlCount) && decide (cid < 2 ^ 16)
  | .selfTestExtended ctrl cid _ => decide (ctrl < ctrlCount) && decide (cid < 2 ^ 16)
  | .selfTestAbort ctrl cid => decide (ctrl < ctrlCount) && decide (cid < 2 ^ 16)
  | .formatNvm ctrl cid => decide (ctrl < ctrlCount) && decide (cid < 2 ^ 16)
  | .securityReceive ctrl cid => decide (ctrl < ctrlCount) && decide (cid < 2 ^ 16)
  | .raiseRollbackFloor ctrl cid _ _ => decide (ctrl < ctrlCount) && decide (cid < 2 ^ 16)
  | .writeKeyCertArea ctrl cid _ => decide (ctrl < ctrlCount) && decide (cid < 2 ^ 16)
  | .spdmGetVersion ch cid _ => decide (ch < 4) && decide (cid < 2 ^ 16)
  | .spdmGetCapabilities ch cid _ => decide (ch < 4) && decide (cid < 2 ^ 16)
  | .spdmNegotiateAlgorithms ch cid _ => decide (ch < 4) && decide (cid < 2 ^ 16)
  | .spdmGetDigests ch cid _ => decide (ch < 4) && decide (cid < 2 ^ 16)
  | .spdmGetCertificate ch cid _ => decide (ch < 4) && decide (cid < 2 ^ 16)
  | .spdmChallenge ch cid _ => decide (ch < 4) && decide (cid < 2 ^ 16)
  | .spdmGetMeasurements ch cid _ => decide (ch < 4) && decide (cid < 2 ^ 16)
  | .mctpSetEndpointId port _ _ eid => decide (port < 2) && decide (eid < 2 ^ 8)
  | .mctpGetEndpointId port _ => decide (port < 2)
  | .mctpGetVersionSupport port _ _ => decide (port < 2)
  | .mctpGetMessageTypeSupport port _ => decide (port < 2)
  | .flush ctrl sq cid => decide (ctrl < ctrlCount) && decide (sq < 2 ^ 16) && decide (cid < 2 ^ 16)
  | .write ctrl sq cid _ => decide (ctrl < ctrlCount) && decide (sq < 2 ^ 16) && decide (cid < 2 ^ 16)
  | .read ctrl sq cid _ => decide (ctrl < ctrlCount) && decide (sq < 2 ^ 16) && decide (cid < 2 ^ 16)
  | .compare ctrl sq cid _ _ => decide (ctrl < ctrlCount) && decide (sq < 2 ^ 16) && decide (cid < 2 ^ 16)
  | .writeZeroes ctrl sq cid => decide (ctrl < ctrlCount) && decide (sq < 2 ^ 16) && decide (cid < 2 ^ 16)
  | .datasetManagement ctrl sq cid _ => decide (ctrl < ctrlCount) && decide (sq < 2 ^ 16) && decide (cid < 2 ^ 16)
  | .verify ctrl sq cid _ => decide (ctrl < ctrlCount) && decide (sq < 2 ^ 16) && decide (cid < 2 ^ 16)
  | .reservationRegister ctrl sq cid _ _ => decide (ctrl < ctrlCount) && decide (sq < 2 ^ 16) && decide (cid < 2 ^ 16)
  | .reservationReport ctrl sq cid => decide (ctrl < ctrlCount) && decide (sq < 2 ^ 16) && decide (cid < 2 ^ 16)
  | .reservationAcquire ctrl sq cid _ _ => decide (ctrl < ctrlCount) && decide (sq < 2 ^ 16) && decide (cid < 2 ^ 16)
  | .reservationRelease ctrl sq cid _ => decide (ctrl < ctrlCount) && decide (sq < 2 ^ 16) && decide (cid < 2 ^ 16)
  | .zoneClose ctrl sq cid => decide (ctrl < ctrlCount) && decide (sq < 2 ^ 16) && decide (cid < 2 ^ 16)
  | .zoneFinish ctrl sq cid => decide (ctrl < ctrlCount) && decide (sq < 2 ^ 16) && decide (cid < 2 ^ 16)
  | .zoneOpen ctrl sq cid => decide (ctrl < ctrlCount) && decide (sq < 2 ^ 16) && decide (cid < 2 ^ 16)
  | .zoneReset ctrl sq cid => decide (ctrl < ctrlCount) && decide (sq < 2 ^ 16) && decide (cid < 2 ^ 16)
  | .zoneMgmtReceive ctrl sq cid => decide (ctrl < ctrlCount) && decide (sq < 2 ^ 16) && decide (cid < 2 ^ 16)
  | .zoneAppend ctrl sq cid _ => decide (ctrl < ctrlCount) && decide (sq < 2 ^ 16) && decide (cid < 2 ^ 16)
  | .fence ctrl sq cid => decide (ctrl < ctrlCount) && decide (sq < 2 ^ 16) && decide (cid < 2 ^ 16)
  | .srDoorbell ring tail cqHead _ _ => decide (ring < ringCount) && decide (tail < 2 ^ 16) && decide (cqHead < 2 ^ 16)
  | .srPush ring _ => decide (ring < ringCount)
  | .descriptorFetch ring _ _ _ => decide (ring < ringCount)
  | .ringEnable ring _ => decide (ring < ringCount)
  | .ringDisable ring _ => decide (ring < ringCount)
  | .ringDrainTimeout ring => decide (ring < ringCount)
  | .moverRead ring tag blocks _ _ => decide (ring < ringCount) && decide (tag < 2 ^ 16) && wfBlocks blocks
  | .moverWrite ring tag blocks _ _ => decide (ring < ringCount) && decide (tag < 2 ^ 16) && wfBlocks blocks
  | .sampleExport ring tag _ _ => decide (ring < ringCount) && decide (tag < 2 ^ 16)
  | .trackDump ring tag _ _ => decide (ring < ringCount) && decide (tag < 2 ^ 16)
  | .calibrationRun ring tag => decide (ring < ringCount) && decide (tag < 2 ^ 16)
  | .gaugeArm ring tag => decide (ring < ringCount) && decide (tag < 2 ^ 16)
  | .gaugeStop ring tag => decide (ring < ringCount) && decide (tag < 2 ^ 16)
  | .gaugeExport ring tag _ => decide (ring < ringCount) && decide (tag < 2 ^ 16)
  | .gaugeExportRearm ring tag _ => decide (ring < ringCount) && decide (tag < 2 ^ 16)
  | .sillageExport ring tag _ => decide (ring < ringCount) && decide (tag < 2 ^ 16)
  | .sillageClear ring tag => decide (ring < ringCount) && decide (tag < 2 ^ 16)
  | .accordStore ring tag _ _ => decide (ring < ringCount) && decide (tag < 2 ^ 16)
  | .accordStoreWritten _ => true
  | .accordMediaCopyRead ring tag _ => decide (ring < ringCount) && decide (tag < 2 ^ 16)
  | .accordMediaCopy _ _ => true
  | .domainTakeDown ring tag => decide (ring < ringCount) && decide (tag < 2 ^ 16)
  | .domainRestore ring tag => decide (ring < ringCount) && decide (tag < 2 ^ 16)
  | .domainFault _ _ => true
  | .quiesceWorkFinished _ => true
  | .quiesceTimeout _ => true
  | .restoreComplete _ => true
  | .restoreTimeout _ => true
  | .heldRestoreStart _ => true
  | .mediaHoldExpiry _ => true
  | .blotterEnable ring tag => decide (ring < ringCount) && decide (tag < 2 ^ 16)
  | .blotterDisable ring tag => decide (ring < ringCount) && decide (tag < 2 ^ 16)
  | .poolRelayout ring tag => decide (ring < ringCount) && decide (tag < 2 ^ 16)
  | .poolAdopt ring tag => decide (ring < ringCount) && decide (tag < 2 ^ 16)
  | .transmitOpportunity _ => true
  | .plcaBeacon => true
  | .plcaBeaconLoss => true
  | .ebCollision => true
  | .csmaBackoffExpiry => true
  | .claim h _ _ => wfEbHdr h
  | .tick h mepoch _ => wfEbHdr h && decide (mepoch < 2 ^ 16)
  | .tokreq h lease _ => wfEbHdr h && decide (lease < 2 ^ 16)
  | .tokgrant h dstnode lease mepoch => wfEbHdr h && decide (dstnode < 2 ^ 8) && decide (lease < 2 ^ 16) && decide (mepoch < 2 ^ 16)
  | .tokret h mepoch => wfEbHdr h && decide (mepoch < 2 ^ 16)
  | .seek h _ _ _ _ => wfEbHdr h
  | .health h => wfEbHdr h
  | .hquery h dstnode => wfEbHdr h && decide (dstnode < 2 ^ 8)
  | .wake h dstbay => wfEbHdr h && decide (dstbay < 2 ^ 8)
  | .electionListenEnd => true
  | .claimCollectEnd => true
  | .tickTimer => true
  | .masterLoss => true
  | .tokenLeaseExpiry _ _ => true
  | .mepochWaitExpiry => true
  | .healthTimer => true
  | .localSpinupDelayEnd => true
  | .sensorConversion n _ => decide (n < sensorCount)
  | .sensorExclusion n => decide (n < sensorCount)
  | .thermalHysteresisTimer => true
  | .sillageAppend => true
  | .stampTimer => true
  | .suppressionSummaryTimer _ => true
  | .gaugeDurationEnd g => decide (g < gaugeCount)
  | .stewardInstruction _ _ o => wfStewardOp o
  | .neighborDiscovery port => decide (port < 2)
  | .icmpv6EchoRequest port => decide (port < 2)
  | .mldQuery port => decide (port < 2)
  | .eweridDatagramDropped => true
  | .ebStrangerFrame _ => true
  | .bundleStoreWritten _ => true
  | .keyAreaWritten _ => true
  | .vmMeasurement mv => decide (mv < 2 ^ 16)
  | .freePageGaugeSample => true

end Sys2Proof
end

