-- ==== Sys2Proof/Tests/Slice0.lean ====
section
/-! SUPPORT. Tests: ill-formed operands the checks refuse, single commands against the spec's own numbers, and for every statement
that has hypotheses the states and operands that meet them, clause by clause. -/
set_option Elab.async false
namespace Sys2Proof.Machine

/-! ### Small states for the witnesses -/

def st (l : List (Fld × Nat)) : State := l.foldl (fun s p => s.setFld p.1 p.2) State.reset
/-- directory of a small image: sections (type, domain, bytes) from offset `off` -/
def imgDir : Nat → List (Nat × Nat × List Byte) → List Byte
  | _, [] => []
  | off, (t, d, b) :: r => leBytes 1 t ++ leBytes 1 d ++ zeros 2 ++ leBytes 4 off ++ leBytes 4 b.length ++ imgDir (off + b.length) r
def img (secs : List (Nat × Nat × List Byte)) : List Byte :=
  zeros 0x16 ++ leBytes 1 secs.length ++ zeros 41 ++ imgDir (64 + 12 * secs.length) secs ++ secs.flatMap (·.2.2)
/-- the state with the image of these sections applied -/
def State.withSecs (s : State) (secs : List (Nat × Nat × List Byte)) : State := { s with acc := { s.acc with applied := img secs } }
/-- the device with PORST_L high and its rails up -/
def alive (s : State) : State := { s with power := { s.power with porst := true, phase := .done, supplyReset := false } }
/-- a running device: PORST_L high, the rails up -/
def powered (l : List (Fld × Nat)) : State := { st l with power := { State.reset.power with porst := true, phase := .done } }
/-- one group of heads 0 and 1 on actuator A, one of head 0 on B -/
def heads (s : State) : State := s.withSecs [(1, 0, [4, 4, 0, 1]), (3, 1, [2, 1, 0, 0, 0, 1, 0xFF, 0xFF]), (3, 2, [1, 1, 0, 0, 0, 0xFF, 0xFF, 0xFF])]
/-- every domain Serving -/
def serving (s : State) : State := { s with doms := ⟨{ s.doms.DA with st := .serving }, { s.doms.DB with st := .serving }, { s.doms.DP with st := .serving }, { s.doms.DE with st := .serving }⟩ }
/-- a descriptor of ring 0 with TAG 7, in flight and not yet started; ring 0 Enabled -/
def desc7 (opc : Nat) (param : List Byte) : RingDesc := ⟨opc, 0, 7, param, 0, 1, [], false, 0, 0, false, 0, false, false, false, false⟩
def withDesc (s : State) (d : RingDesc) : State := (s.setFld (SR_STAT.STATE 0) rgEnabled).modRing 0 (fun g => { g with sqlog := 4, cqlog := 4, descs := [d] })
/-- wedge `w` of track `t` with the runout correction `c`, read without a blanked cell -/
def goodWedge (w t : Nat) (c : Int) : WedgePlace := ⟨samCells.map some, (codedBits 10 (indexBits w)).map some, (codedBits 24 (grayCode t)).map some, (codedBits 12 (toTwos 12 c)).map some, [], [], 7, 0⟩
/-- the medium holds `f` at a place -/
def onMedium (surf track frame : Nat) (f : Frame) (s : State) : State := { s with map := { s.map with media := SMap.set (fun _ => none) s.map.media (s.pfn surf track frame) (some f) } }
/-- helper 0 runs -/
def running : State := powered [(HE_STAT.STATE 0, 1)]
/-- a patch half whose first word is `w` -/
def patchWord (w : Nat) : PatchSet := { PatchSet.none with words := [(0, BitVec.ofNat 128 w)] }
/-- helper 0 runs and stands at the first word of its patch half, `w` -/
def atWord (w : Nat) (s : State) : State := (s.setFld (HE_STAT.STATE 0) 1).modHelper 0 (fun x => { x with space := 2, pc := 0, active := patchWord w })
/-- that word's memory operation is `mop` -/
def atMop (mop : Nat) (s : State) : State := atWord (mop * 2 ^ 95) s
def mw0 : MwIn := ⟨true⟩
/-- a message from helper 1 to helper 0 -/
def msg (src dst : Nat) : Msg := ⟨src, dst, 0, 0, 1, 0, 9, 0, []⟩
/-- channel 2 with an MRAM to steward SRAM set of 64 bytes -/
def set2 : MoverSet := ⟨1, 0, 2, 128, 64, false, 31⟩
def chan2 (st : Nat) (s : State) : State := ((s.modChan 2 (fun _ => { Channel.reset with active := some set2 })).dmShowSet 2 set2).dmGoto 2 st
/-- both actuators have followed since they were last away -/
def near (s : State) : State := (s.modSv .A (fun v => { v with away := false })).modSv .B (fun v => { v with away := false })
/-- actuator A follows track 0 with head 0 -/
def following : State := near <| (serving (heads (powered [(SV_STAT.STATE 0, 3), (SP_STAT.STATE, 5), (SP_SPEED.SLEWED, 57600), (SP_SPEED.SPEED, 57600), (AS_TINT.VALID 0, 1), (LN_STAT.STATE 0, 1), (PW_STAT.STATE, 1)]))).modSv .A (fun v => { v with places := [(0, { Place.reset with active := true })] })
def wf1 : WriteFrame := ⟨100, 0, 0, 0, 0, 0, []⟩
/-- slot A0 writes frame wf1, its gate open -/
def writing (as ws : Nat) : State := ((following.setFld (asState .A 0) as).setFld (wsState .A 0) ws).setGate .A 0 true |>.modSlot 0 (fun x => { x with cur := some wf1 })
def cmd1 : FrameCmd := ⟨0, 0, 0, 0, 0, 1000, false⟩
/-- a frame in recovery: surface 0, track 5, frame 2, its capture in extent 3 -/
def rec1 : Recovery := ⟨0, 5, 2, 1, 100, 2, 0, 0, 0, false, true, false, 1, [0], [3], none, 0, [], 0⟩
/-- a calibration run of lane 0 at step 1 -/
def run1 : CalRun := ⟨0, 1, true, 0, 0, 0, 0, [0, 0, 0, 0], ⟨10, 100, 10, List.replicate 16 1, 1, 1, 100, 30, 8, 8, 0, 0⟩, false, 0, [], 0, 0, [], none⟩
/-- bytes of a zone table row: first track, tracks, frames, rate, band tracks, kind -/
def znRow (f n fr rate bt kind : Nat) : List Byte := leBytes 4 f ++ leBytes 4 n ++ leBytes 2 fr ++ leBytes 2 rate ++ leBytes 2 bt ++ leBytes 1 kind ++ zeros 1
/-- two heads on each actuator, each with two bands of 8 tracks of 2 frames; three columns a stripe, no spares; RESERVE 10 -/
def media1 (s : State) : State := s.withSecs [(1, 0, [2, 2]), (6, 0, [1, 0, 0, 0] ++ [0, 0] ++ List.replicate 14 0xFF ++ [0, 0] ++ List.replicate 14 0xFF ++ [2, 0, 0, 0] ++ znRow 0 1 1 1000 1 0 ++ znRow 1 16 2 1000 8 1),
  (10, 0, [5, 10, 10, 10, 10]), (12, 0, [1, 1, 0, 1])]
/-- the map is ready, MRAM admitted, both actuators Following and Serving -/
def mapped (l : List (Fld × Nat)) : State := near <| serving (media1 (powered ([(MP_STAT.STATE, 4), (PW_STAT.STATE, 1), (PW_STAT.VMSTATE, 2), (SV_STAT.STATE 0, 3), (SV_STAT.STATE 1, 3)] ++ l)))
/-- band set 0 open for host data -/
def set0 (st : BandState) : BandSet := { BandSet.empty with st := st, cols := [0, 1, 16, 17], width := 4 }
def page0 : JLine := ⟨.writeGroup 7 1 1 1 0xFFFFFFFF, [], none, false, 0⟩
/-- stripe 0 of band set 0 with two data members -/
def stripe1 : Stripe := ⟨0, 0, true, [(0, ⟨1, 0, 1, 0, 0, 0, [[], [], [], []]⟩, []), (1, ⟨18, 1, 1, 0, 0, 0, [[], [], [], []]⟩, [])], [], false, false⟩
def frame0 (kind : Nat) : Frame := ⟨kind, 0, 1, [zeros 4096, zeros 4096, zeros 4096, zeros 4096]⟩
/-- surface 0 failed, a rebuild of it begun: a stripe of band set 0 is missing the member on it -/
def lostCase : State := { (mapped [(PX_FAILED.SURF, 1)]) with
  map := { State.reset.map with bandsets := [(0, { set0 .full with cursor := 4 })], media := [(34, some (frame0 0)), (67, some (frame0 1)), (100, some (frame0 2))] }
  tier := { State.reset.tier with recons := [⟨1, none, false⟩], rebuilds := [⟨0, false, 0, 0⟩], lost := [1] } }
/-- a pool member with ID 1, three members listed, Serving -/
def pooled (l : List (Fld × Nat)) : State := { (serving ((powered ([(PL_STAT.STATE, 5), (PL_MEMBER.ID, 1), (PL_MEMBER.ROLEGEN, 4), (PL_STAT.LINK0, 1), (PL_EPOCH.EPOCH, 6)] ++ l)).withSecs
  [(1, 0, [2, 2, 0, 0, 2]), (12, 0, [1, 1, 0, 1]), (13, 4, zeros 16)])) with
  pool := { State.reset.pool with hasId := true, members := [⟨1, false, 4, 5, none, 0, []⟩, ⟨2, false, 3, 5, none, 0, []⟩, ⟨3, false, 2, 5, none, 0, []⟩] } }
def hdr (src : Nat) : EwHdr := ⟨0, src, 0, 0, 6, 77, false, 0⟩
def cellA : EwCell := ⟨0, 3, 5, 1⟩
def heldA : HeldC := ⟨⟨2, 3, 5, 0, 0⟩, 2, 0, 55, [(1, [9])], false, [], 77, 0⟩
def openA : OpenC := ⟨⟨0, 3, 5, 0, 40⟩, 9, 77, [], 0⟩
/-- enclosure 5, bay 3, node 2 of 8, two spin-up tokens, PLCA on; every domain Serving -/
def bussed (l : List (Fld × Nat)) : State := serving ((powered l).withSecs [(14, 5, [5, 0, 0, 0, 3, 2, 8, 2, 1])])
def ehdr (node bay : Nat) : EbHdr := ⟨5, bay, node, 7, 1000⟩
/-- domain `d` in state `st` -/
def dom1 (d : Dom) (st : DomState) (s : State) : State := s.modDom d (fun x => { x with st := st })
/-- an I/O queue entry on namespace 1 with opcode `opc`, CID 9 -/
def sqe (opc nsid c10 c12 : Nat) : SqEntry := ⟨opc, 0, 9, nsid, 0, c10, 0, c12, 0, 0, 0, 0x10000⟩
/-- a command of controller 0, queue `sq`, granted its locks -/
def cmdN (sq : Nat) (e : SqEntry) : Cmd := ⟨0, sq, e, 5, 0, [], true, true, none, 0, false, false, false, true, none, [], []⟩
/-- a plain namespace 1 of 64 blocks -/
def ns1 : Namespace := ⟨false, 0, 64, 0, 0, false, [], 0, 0, 0⟩
def cmdR : Cmd := { cmdN 1 (sqe 2 1 0 0) with started := true }
def tx1 : EbFrame := ⟨7, none, [1, 2]⟩
def seek1 : EbFrame := ⟨6, none, [1, 2]⟩
def ld1 : EbLoaded := ⟨seek1, 44, 0⟩
def withEb (s : State) (f : EbSt → EbSt) : State := { s with eb := f s.eb }
def tok1 : EbToken := ⟨4, 9, 50, 0, 0⟩
/-- a servo section with one feed-forward row, for the bay 6 above -/
def seekTab : List Byte := [1, 0, 0, 0, 6, 0, 2, 0, 12, 0, 0, 0] ++ [0, 0, 0, 0, 0, 0, 100, 0] ++ zeros 8 ++ [6, 0, 5, 0, 7, 0] ++ zeros 10
/-- controller 0 enabled and linked, an admin queue pair of 16 entries, I/O queue pair 1 of 16 entries; namespace 1 attached -/
def sq0 (cq : Nat) : SubQ := { size := 16, head := 3, tail := 3, cq := cq, prio := 0, ordered := false, draining := false }
def cq0 (v : Nat) : ComQ := { size := 16, head := 0, tail := 2, phase := true, vector := v, irq := true, held := [], coal := 0 }
def nvm (l : List (Fld × Nat)) (cmds : List Cmd) : State :=
  let s := mapped l
  let s1 := { s with nvme := { s.nvme with inflight := cmds, namespaces := [(1, some ns1)], nextSeq := 9 } }
  ((((s1.modCtrl 0 (fun k => { k with en := true, rdy := true, linkUp := true, busMaster := true, attached := [1], perst := true })).putSq 0 0 (some (sq0 0))).putCq 0 0 (some (cq0 0))).putSq 0 1 (some (sq0 1))).putCq 0 1 (some (cq0 1))
/-- an admin entry -/
def adm (opc nsid c10 c11 : Nat) : SqEntry := ⟨opc, 0, 9, nsid, 0, c10, c11, 0, 0, 0, 0, 0x10000⟩
def cmdA (opc nsid c10 c11 : Nat) : Cmd := cmdN 0 (adm opc nsid c10 c11)
/-- a command block of operation `op`, kind `k`, value `v`, and a zero authorisation block -/
def sent1 (op k v : Nat) : List Byte := leBytes 1 op ++ leBytes 1 k ++ zeros 2 ++ leBytes 4 v ++ zeros 56 ++ zeros 416
def spdmAt (st : Nat) : State := { nvm [] [] with sec := { State.reset.sec with spdm := [(0, { SpdmSt.fresh with stage := st, opening := [7] })] } }
/-- namespace 1 zoned on band set 0, its zone 0 in state `z` -/
def znm (z : Zone) (cmds : List Cmd) : State :=
  let s := nvm [] cmds
  { s with nvme := { s.nvme with namespaces := [(1, some { zonedNs 0 1 with size := 76 })] }, map := { s.map with zones := [(2 ^ 20, z)], bandsets := [(0, set0 .open)] } }
/-- a zone command: opcode, action in CDW13 -/
def cmdZ (opc c10 c12 c13 : Nat) : Cmd := cmdN 1 { sqe opc 1 c10 c12 with cdw13 := c13 }
/-- a command of controller 0 on reservations: CDW10 -/
def cmdV (opc c10 : Nat) : Cmd := cmdN 1 (sqe opc 1 c10 0)
def ns1r (rs : List Registrant) (holder rtype : Nat) : Namespace := { ns1 with registrants := rs, holder := holder, rtype := rtype }
def rsv (n : Namespace) (cmds : List Cmd) : State := let s := nvm [] cmds; { s with nvme := { s.nvme with namespaces := [(1, some n)] } }

/-! ### Ill-formed operands are refused, one for each check -/

def ebHdr (enclid bay : Nat) : EbHdr := ⟨enclid, bay, 3, 0, 0⟩
def ewHdr (src xid : Nat) : EwHdr := ⟨0, src, 0, 0, 0, xid, false, 0⟩

/-- a register address beyond BAR2 -/
theorem test_wf_address : (Instr.registerWrite (2 ^ 24) []).wf = false := by decide
theorem test_wf_helper : (Instr.helperStart 24).wf = false := by decide
theorem test_wf_cause : (Instr.helperFault 0 256 0 0).wf = false := by decide
theorem test_wf_endpoint : (Instr.messageDelivery 24).wf = false ∧ (Instr.messageDelivery 31).wf = true := by decide
theorem test_wf_channel : (Instr.moverTimeout 64).wf = false := by decide
theorem test_wf_mover : (Instr.moverSetStart 4).wf = false := by decide
theorem test_wf_speed : (Instr.slewUpdate 65536).wf = false := by decide
theorem test_wf_phase : (Instr.bootstrapForcedPulse 3).wf = false := by decide
theorem test_wf_wedge : (Instr.wedgeSample .A ⟨[], 0, [2 ^ 32], 0, 0, 0, []⟩).wf = false := by decide

/-- The routing registers are 1 to 4 (R684). -/
theorem test_wf_wedge_routing : (Instr.wedgeSample .A ⟨[], 0, [], 0, 0, 0, [5]⟩).wf = false := by decide
theorem test_wf_resistance : (Instr.assistLoopBoundary .A ⟨0, 65536, false⟩ ⟨0, 0, false⟩).wf = false := by decide
theorem test_wf_lane : (Instr.laneBind 9).wf = false ∧ (Instr.laneBind 8).wf = true := by decide
theorem test_wf_unit : (Instr.unitOvertime 4).wf = false := by decide
theorem test_wf_sensor : (Instr.sensorExclusion 22).wf = false := by decide
theorem test_wf_gauge : (Instr.gaugeDurationEnd 64).wf = false := by decide
theorem test_wf_ring : (Instr.ringDrainTimeout 8).wf = false := by decide
theorem test_wf_chain : (Instr.moverRead 0 1 [⟨[⟨0, 0, 2 ^ 32⟩], true, true, false⟩] 0 ⟨[], []⟩).wf = false := by decide
theorem test_wf_controller : (Instr.flush 2 1 1).wf = false ∧ (Instr.identify 0 65536).wf = false := by decide
theorem test_wf_entry : (Instr.commandFetch 0 1 ⟨256, 0, 0, 0, 0, 0, 0, 0, 0, 0, 0, 0⟩ []).wf = false := by decide
theorem test_wf_spdm_channel : (Instr.spdmGetDigests 4 0 []).wf = false := by decide
theorem test_wf_ewerid_header : (Instr.ack (ewHdr 65536 0)).wf = false ∧ (Instr.ack (ewHdr 5 (2 ^ 32))).wf = false := by decide
theorem test_wf_cell : (Instr.updack (ewHdr 5 0) ⟨0, 0, 128, 0⟩).wf = false := by decide
theorem test_wf_member : (Instr.memberSilent (2 ^ 15)).wf = false := by decide
theorem test_wf_port : (Instr.neighborDiscovery 2).wf = false := by decide
theorem test_wf_bus_header : (Instr.health (ebHdr (2 ^ 32) 0)).wf = false ∧ (Instr.health (ebHdr 1 256)).wf = false := by decide
theorem test_wf_bus_fields : (Instr.wake (ebHdr 1 1) 256).wf = false ∧ (Instr.tick (ebHdr 1 1) 65536 0).wf = false := by decide

/-! ### The spec's own numbers -/

/-- An address register that holds 0 and a zero IMM make address 0, whatever IMMSEL selects. -/
theorem opAddr_zero (h : Helper) (w : Microword) (h1 : h.gpr (mwMa w) = 0) (h2 : mwImm w = 0) : h.opAddr w = 0 := by
  simp [Helper.opAddr, h1, h2]

def asciiDigits : List Byte := [0x31, 0x32, 0x33, 0x34, 0x35, 0x36, 0x37, 0x38, 0x39]

/-- R693: the check values of both codes -/
theorem test_crc8_check_value : crc8 asciiDigits = 0xF4 := by decide +kernel
theorem test_crc32c_check_value : crc32c asciiDigits = 0xE3069283 := by decide +kernel

/-- "Worked example: one map entry": the set of the line at device address 72,108,864 -/
theorem test_cache_set_of_map_entry : setOf (72108864 / 128) = 2079 := by decide +kernel

/-- "Worked example: binning a latency" -/
theorem test_gauge_bin : gaugeBin (1300 / 16) = 7 ∧ gaugeBin (9 / 16) = 0 := by decide +kernel

/-- "Worked example: the outer zone" -/
theorem test_data_window : dataWindow 4000 = 62698 := by decide +kernel

/-- "Worked example: FSYNC from 60 Hz to 40 Hz": 40 frames a second ask for 4,800 rpm -/
def sourceMap : List Byte := [1, 0] ++ leBytes 2 3600 ++ leBytes 2 200 ++ zeros 2 ++ [1, 0, 0, 0, 0x04, 0x02, 4, 0, 20, 0, 0, 0] ++
  [(23976, 3600), (30000, 3600), (60000, 7200), (240000, 7200)].flatMap (fun r => leBytes 4 r.1 ++ leBytes 2 r.2 ++ zeros 2)
theorem test_map_of_40_frames : ((st []).withSecs [(9, 3, sourceMap)]).mapSource 40000 1 = some 4800 := by decide +kernel

/-- "Worked example: a 3.4 ms sag": 4.4 ms of ride-through are recorded as 44 -/
def ridden : State :=
  { (powered [(PW_STAT.VMSTATE, 2)]).modPower (fun p => { p with rideStart := some 0, rideTimer := true, msTimer := true }) with tick := 110000 }

theorem test_ride_duration :
    (match exec .recoveryWaitExpiry ridden with
      | .next t => t.fld PW_RIDE.LAST | _ => 0) = 44 := by decide +kernel

/-- R196: no data encodes to the unwritten code word, and it decodes as unwritten -/
theorem test_unwritten_word : (decodeWord unwrittenWord).res = .unwritten ∧ encodeWord 0 ≠ unwrittenWord := by decide +kernel

/-- lane 2 has read five frames, in earlier ticks or in this one -/
def fiveFrames (earlier : Bool) : State :=
  let s := (powered []).addSat (LN_FRAMES.COUNT 2) 5
  if earlier then { s with tickMem := ⟨s.regs, [], [], []⟩ } else s

def readFrames (s : State) : Nat × List Byte :=
  match exec (.registerReadClear (LN_FRAMES.REG 2).addr 4) s with
  | .next t => (t.fld (LN_FRAMES.COUNT 2), t.readOut)
  | _ => (9, [])

/-- R15: a read of a field that clears on read returns its value and leaves the Reset value -/
theorem test_read_clears : readFrames (fiveFrames true) = (0, [5, 0, 0, 0]) := by decide +kernel

/-- R17: what was counted in the tick of the read is not returned, and stays -/
theorem test_read_in_the_tick : readFrames (fiveFrames false) = (5, [0, 0, 0, 0]) := by decide +kernel

/-- R12: a write of part of a register changes nothing -/
theorem test_partial_write :
    (match exec (.registerWrite SL_CURSOR.REG.addr [1, 2]) (powered []) with | .next t => t.regs | _ => [(0, 0)]) = (powered []).regs := by
  decide +kernel

def writeRefloss (s : State) : Bool :=
  match exec (.registerWrite TB_STAT.REG.addr [1, 0, 0, 0]) s with
  | .next t => t.bit TB_STAT.REFLOSS
  | _ => false

/-- R15, R16: a write of 1 clears a W1C bit, but not one that was set in the same tick -/
theorem test_write_one_clears :
    writeRefloss (powered [(TB_STAT.REFLOSS, 1)]) = false ∧ writeRefloss ((powered []).setBit TB_STAT.REFLOSS) = true := by decide +kernel

/-- FIPS 180-4: SHA-256 of "abc" -/
theorem test_sha256_abc : (sha256 [0x61, 0x62, 0x63]).map BitVec.toNat =
    [0xBA, 0x78, 0x16, 0xBF, 0x8F, 0x01, 0xCF, 0xEA, 0x41, 0x41, 0x40, 0xDE, 0x5D, 0xAE, 0x22, 0x23,
     0xB0, 0x03, 0x61, 0xA3, 0x96, 0x17, 0x7A, 0x9C, 0xB4, 0x10, 0xFF, 0x61, 0xF2, 0x00, 0x15, 0xAD] := by decide +kernel

/-- "Worked example: five events in one tick": the order of dispatch, a housekeeping timer of the tick before among them -/
def fiveEvents : State :=
  let w : WedgeIn := ⟨[], 0, [], 0, 0, 0, []⟩
  let s := { (powered [(LN_STAT.ACT 5, 1)]) with tick := 99, recorded := [⟨98, .stampTimer⟩] }
  s.recordEvents [.vmWarning, .sectorEnd 5 none, .wedgeSample .B w, .wedgeSample .A w, .sqDoorbell 0 17 1]

theorem test_five_events_in_one_tick :
    fiveEvents.recorded.map (fun e => e.cmd) =
      [.vmWarning, .wedgeSample .A ⟨[], 0, [], 0, 0, 0, []⟩, .wedgeSample .B ⟨[], 0, [], 0, 0, 0, []⟩, .sectorEnd 5 none, .sqDoorbell 0 17 1,
       .stampTimer] ∧ fiveEvents.power.frameBar = true := by decide +kernel

/-- R62: the same edge again in one tick is merged, and counted -/
theorem test_merged_edge :
    let s := (powered []).recordEvents [.shock .A, .shock .A]
    s.recorded.length = 1 ∧ s.fld TB_MERGE.COUNT = 1 := by decide +kernel

/-! ### The hypotheses of the statements can be met -/

theorem witness_step_runs_the_front_command :
    (∃ (s : State) (e : Recorded) (rest : List Recorded), s.pending = [] ∧ s.recorded = e :: rest) ∧
    (∃ (s : State), s.pending = [] ∧ s.recorded = [] ∧ s.power.porst = true) ∧
    (∃ (s : State), s.pending = [] ∧ s.recorded = [] ∧ s.power.porst = false) :=
  ⟨⟨{ State.reset with recorded := [⟨3, .vmWarning⟩] }, ⟨3, .vmWarning⟩, [], by decide +kernel⟩,
   ⟨{ State.reset with power := { State.reset.power with porst := true } }, by decide +kernel⟩,
   ⟨State.reset, by decide +kernel⟩⟩

theorem witness_events_wait_in_one_order :
    (∃ (s : State) (c : Instr) (r : EventRank), s.eventRank c = some r ∧ (r.edge && s.tickMem.events.contains c) = false ∧ s.recorded.Pairwise (fun x y => keyLess (s.waitKey y) (s.waitKey x) = false)) ∧
    (∃ (s : State) (c : Instr) (r : EventRank), s.eventRank c = some r ∧ r.edge = true ∧ s.tickMem.events.contains c = true) ∧
    (∃ (s : State) (c : Instr), s.eventRank c = none) :=
  ⟨⟨{ State.reset with recorded := [⟨0, .shock .A⟩, ⟨0, .rideTimerExpiry⟩] }, .vmWarning, ⟨2, 2, 0, 0⟩, by decide +kernel⟩,
   ⟨{ State.reset with tickMem := ⟨[], [], [], [.vmWarning]⟩ }, .vmWarning, ⟨2, 2, 0, 0⟩, by decide +kernel⟩,
   ⟨State.reset, .registerWrite 0 [], by decide +kernel⟩⟩

theorem witness_steps_keep_the_stores_canonical : ∃ (s : State), s.Canon :=
  ⟨State.reset, ⟨by decide +kernel, by decide +kernel, by decide +kernel, by decide +kernel⟩⟩

theorem witness_register_access :
    (∃ (s : State) (addr : Nat) (_w : Nat) (r : RegRow), s.live = true ∧ regRow? addr = some r ∧ s.bit FB_STAT.BASENOTE = false ∧ s.writeBarred addr = false ∧ addr ≠ HM_BLTCTL.REG.addr ∧ addr / 0x10000 ≠ 0x13) ∧
    (∃ (s : State) (addr : Nat) (r : RegRow), s.live = true ∧ regRow? addr = some r ∧ addr ∉ [TB_CNT_LO.REG.addr, MP_JSEQ_LO.REG.addr, PL_TOFF_LO.REG.addr] ∧ keepsExtreme addr = false) ∧
    (∃ (s : State) (addr : Nat) (r : RegRow), s.live = true ∧ regRow? addr = some r ∧ keepsExtreme addr = true) ∧
    (∃ (s : State) (addr : Nat) (data : List Byte), s.live = true ∧ addr % 4 = 0 ∧ data.length < 4) :=
  ⟨⟨alive (State.reset), 0x30040, 0x12345678, (regRow? 0x30040).getD ⟨"", 0, 0, 0, 0, []⟩, by decide +kernel⟩,
   ⟨alive (State.reset), 0x4C014, ⟨"HE_MSGCNT", 0x40014, 24, 0x1000, 1, [⟨31, 16, .rc, 0⟩, ⟨15, 0, .rc, 0⟩]⟩, by decide +kernel⟩,
   ⟨alive (State.reset), 0x20004, ⟨"PW_VM", 0x20004, 1, 0x100000, 1, [⟨31, 16, .rc, 0⟩, ⟨15, 0, .ro, 0⟩]⟩, by decide +kernel⟩,
   ⟨alive (State.reset), 0x20000, [1, 2, 3], by decide +kernel⟩⟩

theorem witness_unimplemented_offsets :
    (∃ (s : State) (addr : Nat), s.live = true ∧ addr % 4 = 0 ∧ regRow? addr = none ∧ inPushWindow addr = false) ∧
    (∃ (s : State) (addr : Nat) (data : List Byte), s.live = true ∧ addr % 4 = 0 ∧ regRow? addr = none ∧ inPushWindow addr = false ∧ data.length = 4) :=
  ⟨⟨alive (State.reset), 0x10020, by decide +kernel⟩,
   ⟨alive (State.reset), 0x10020, [1, 2, 3, 4], by decide +kernel⟩⟩

theorem witness_registers_of_a_domain_in_service :
    (∃ (s : State) (addr : Nat) (data : List Byte) (d : Dom), s.live = true ∧ s.regDom addr = some d ∧ s.isServing d = false ∧ addr % 4 = 0 ∧ data.length = 4) ∧
    (∃ (s : State) (addr : Nat) (d : Dom), s.live = true ∧ s.regDom addr = some d ∧ s.isServing d = false ∧ addr % 4 = 0) :=
  ⟨⟨alive (State.reset), 0xB0000, [1, 2, 3, 4], .DA, by decide +kernel⟩,
   ⟨alive (State.reset), 0xB0000, .DA, by decide +kernel⟩⟩

theorem witness_the_time_base :
    (∃ (s : State), s.live = true) ∧
    (∃ (s : State), s.live = true) ∧
    (∃ (s : State), s.live = true) ∧
    (∃ (s : State), s.live = true) ∧
    (∃ (s : State), s.live = true ∧ s.bit TB_STAT.REFSRC = false) ∧
    (∃ (s : State), s.awake = true ∧ s.live = false ∧ s.bit TB_STAT.REFSRC = false) ∧
    (∃ (s : State), (s.awake = false ∨ s.bit TB_STAT.REFSRC = true)) ∧
    (∃ (s : State), s.live = true ∧ s.bit TB_STAT.REFSRC = true) ∧
    (∃ (s : State), s.awake = true ∧ s.live = false ∧ s.bit TB_STAT.REFSRC = true) ∧
    (∃ (s : State), (s.awake = false ∨ s.bit TB_STAT.REFSRC = false)) ∧
    (∃ (s : State) (_rate : Nat), s.live = true) :=
  ⟨⟨alive ({ State.reset with tick := 2 ^ 33 + 5 }), by decide +kernel⟩,
   ⟨alive ({ State.reset with map := { State.reset.map with jseq := 2 ^ 33 + 5 } }), by decide +kernel⟩,
   ⟨alive ({ State.reset with pool := { State.reset.pool with toff := -3 } }), by decide +kernel⟩,
   ⟨alive ({ State.reset with tick := 2 ^ 33 + 5 }), by decide +kernel⟩,
   ⟨alive (alive State.reset), by decide +kernel⟩,
   ⟨{ State.reset with power := { State.reset.power with porst := true } }, by decide +kernel⟩,
   ⟨st [(TB_STAT.REFSRC, 1)], by decide +kernel⟩,
   ⟨alive (alive (st [(TB_STAT.REFSRC, 1)])), by decide +kernel⟩,
   ⟨{ st [(TB_STAT.REFSRC, 1)] with power := { State.reset.power with porst := true } }, by decide +kernel⟩,
   ⟨State.reset, by decide +kernel⟩,
   ⟨alive (State.reset), 5, by decide +kernel⟩⟩

theorem witness_rails :
    (∃ (s : State) (_powerOn : Bool) (_tpEn : Bool), s.power.porst = false) ∧
    (∃ (s : State) (n : Nat), n < 6 ∧ s.power.phase = .waitRail n) ∧
    (∃ (s : State) (n : Nat) (_failed : Nat), n < 5 ∧ s.power.phase = .dwell n) ∧
    (∃ (s : State) (_failed : Nat), s.power.phase = .dwell 5) ∧
    (∃ (s : State) (n : Nat), s.power.phase = .waitRail n ∧ s.power.attempt = 1) ∧
    (∃ (s : State) (n : Nat), s.power.phase = .waitRail n ∧ s.power.attempt = 2) ∧
    (∃ (s : State), s.power.phase = .retryWait) ∧
    (∃ (s : State), s.power.porst = true) ∧
    (∃ (s : State) (n : Nat), n < 5 ∧ s.power.phase = .down (n + 1)) ∧
    (∃ (s : State), s.power.phase = .down 0) ∧
    (∃ (s : State), s.railWatched .vana = true) ∧
    (∃ (s : State), s.railWatched .vser = true) ∧
    (∃ (s : State) (r : Rail), s.railWatched r = true ∧ r ≠ .vana ∧ r ≠ .vser) ∧
    (∃ (s : State) (r : Rail), s.railWatched r = false) ∧
    (∃ (s : State) (_vmLow : Bool), s.power.supplyReset = true) ∧
    (∃ (s : State), s.power.vserDown = true) :=
  ⟨⟨State.reset, true, false, by decide +kernel⟩,
   ⟨{ State.reset with power := { State.reset.power with phase := .waitRail 3 } }, 3, by decide +kernel⟩,
   ⟨{ State.reset with power := { State.reset.power with phase := .dwell 3 } }, 3, 0, by decide +kernel⟩,
   ⟨{ State.reset with power := { State.reset.power with phase := .dwell 5 } }, 0x11, by decide +kernel⟩,
   ⟨{ State.reset with power := { State.reset.power with phase := .waitRail 3, attempt := 1 } }, 3, by decide +kernel⟩,
   ⟨{ State.reset with power := { State.reset.power with phase := .waitRail 3, attempt := 2 } }, 3, by decide +kernel⟩,
   ⟨{ State.reset with power := { State.reset.power with phase := .retryWait } }, by decide +kernel⟩,
   ⟨powered [], by decide +kernel⟩,
   ⟨{ State.reset with power := { State.reset.power with phase := .down 3 } }, 2, by decide +kernel⟩,
   ⟨{ State.reset with power := { State.reset.power with phase := .down 0, porst := true, hibernatePending := true } }, by decide +kernel⟩,
   ⟨powered [(PW_STAT.RAILOK, 63)], by decide +kernel⟩,
   ⟨powered [(PW_STAT.RAILOK, 63)], by decide +kernel⟩,
   ⟨powered [(PW_STAT.RAILOK, 63)], .vcore, by decide +kernel⟩,
   ⟨State.reset, .vcore, by decide +kernel⟩,
   ⟨{ State.reset with power := { State.reset.power with supplyReset := true } }, true, by decide +kernel⟩,
   ⟨{ State.reset with power := { State.reset.power with vserDown := true } }, by decide +kernel⟩⟩

theorem witness_what_is_not_running_does_nothing : ∃ (c : Instr) (s : State), s.live = false ∧ heardInReset c = false :=
  ⟨.vmOvervoltage44, { State.reset with power := { State.reset.power with supplyReset := true } }, by decide +kernel⟩

theorem witness_vm_states :
    (∃ (s : State), s.watching = true ∧ s.power.frozen = false ∧ s.vmState = vmNormal) ∧
    (∃ (s : State), s.watching = true ∧ s.power.frozen = false ∧ s.vmState = vmWait) ∧
    (∃ (s : State), s.watching = false) ∧
    (∃ (s : State), s.vmState = vmRide ∧ s.power.frozen = false) ∧
    (∃ (s : State) (began : Nat), s.live = true ∧ s.vmState = vmWait ∧ s.power.msTimer = true ∧ s.power.rideStart = some began ∧ s.power.deferred = none) ∧
    (∃ (s : State), ((s.vmState = vmRide ∨ s.vmState = vmWait)) ∧ s.power.rideTimer = true) ∧
    (∃ (s : State), s.watching = true) ∧
    (∃ (s : State), s.live = true ∧ s.power.hibernate = false ∧ s.vmState = vmParked ∧ s.power.frozen = false ∧ s.power.deferred = none) ∧
    (∃ (s : State), s.live = true ∧ s.power.hibernate = false ∧ s.vmState = vmLost ∧ s.power.frozen = false ∧ s.power.deferred = none) ∧
    (∃ (s : State), s.watching = true ∧ s.vmState = vmLost ∧ s.power.frozen = true) ∧
    (∃ (s : State), s.watching = true ∧ s.vmState ≠ vmLost ∧ s.vmState ≠ vmParked) ∧
    (∃ (s : State) (_mv : Nat), s.watching = true) :=
  ⟨⟨powered [], by decide +kernel⟩,
   ⟨powered [(PW_STAT.VMSTATE, 2)], by decide +kernel⟩,
   ⟨State.reset, by decide +kernel⟩,
   ⟨powered [(PW_STAT.VMSTATE, 1)], by decide +kernel⟩,
   ⟨alive ((powered [(PW_STAT.VMSTATE, 2)]).modPower (fun p => { p with msTimer := true, rideStart := some 7 })), 7, by decide +kernel⟩,
   ⟨(powered [(PW_STAT.VMSTATE, 1)]).modPower (fun p => { p with rideTimer := true }), by decide +kernel⟩,
   ⟨powered [], by decide +kernel⟩,
   ⟨alive (powered [(PW_STAT.VMSTATE, 3)]), by decide +kernel⟩,
   ⟨alive (powered [(PW_STAT.VMSTATE, 4)]), by decide +kernel⟩,
   ⟨(powered [(PW_STAT.VMSTATE, 4)]).modPower (fun p => { p with frozen := true }), by decide +kernel⟩,
   ⟨powered [], by decide +kernel⟩,
   ⟨powered [], 12000, by decide +kernel⟩⟩

theorem witness_power_states :
    (∃ (s : State), s.live = true ∧ s.pwState = pwActive ∧ s.mediaBusy = false ∧ s.power.standbyPending = false) ∧
    (∃ (s : State), s.power.hibernate = true) ∧
    (∃ (s : State), s.live = true ∧ s.power.hibernatePending = true ∧ s.pwState = pwStandby) ∧
    (∃ (s : State), s.live = true ∧ (s.power.hibernatePending = false ∨ s.pwState ≠ pwStandby)) :=
  ⟨⟨alive (powered [(PW_STAT.STATE, 1)]), by decide +kernel⟩,
   ⟨{ State.reset with power := { State.reset.power with hibernate := true } }, by decide +kernel⟩,
   ⟨alive ((powered [(PW_STAT.STATE, 3)]).modPower (fun p => { p with hibernatePending := true })), by decide +kernel⟩,
   ⟨alive (powered [(PW_STAT.STATE, 1)]), by decide +kernel⟩⟩

theorem witness_accord_commands :
    (∃ (s : State), s.live = true ∧ s.bit HM_STAT.FILLDONE = true ∧ s.acc.applied = [] ∧ s.fld AC_STAT.OP = 1 ∧ s.bit FB_STAT.BASENOTE = false) ∧
    (∃ (s : State) (r : Nat) (tag : Nat) (_img : List Byte) (_ok : Bool) (d : RingDesc), s.live = true ∧ s.descReady r tag 0x09 d = true ∧ s.descGo d = true ∧ s.bit AC_STAT.BUSY = false) ∧
    (∃ (s : State) (r : Nat) (tag : Nat) (img : List Byte) (d : RingDesc) (e : Nat × Nat), s.live = true ∧ s.descReady r tag 0x09 d = true ∧ s.descGo d = true ∧ s.bit AC_STAT.BUSY = false ∧ natBit (d.p 12 1) 1 = false ∧ (s.descBegun r tag d).acStoreErr (slice img 0 (d.p 8 4)) = some e) ∧
    (∃ (s : State) (r : Nat) (tag : Nat) (_img : List Byte) (_ok : Bool) (d : RingDesc), s.live = true ∧ s.descReady r tag 0x09 d = true ∧ s.descGo d = true ∧ s.bit AC_STAT.BUSY = true) ∧
    (∃ (s : State) (x : StoreOp), s.live = true ∧ s.acc.store = some x ∧ x.written = false ∧ x.apply = false) ∧
    (∃ (s : State) (x : StoreOp), s.live = true ∧ s.acc.store = some x ∧ x.written = false) ∧
    (∃ (s : State) (_okA : Bool) (_okB : Bool), s.live = true ∧ s.acc.copyDue = true ∧ s.acc.applied ≠ [] ∧ s.bit FB_STAT.BASENOTE = false ∧ s.svState .A = svFollowing ∧ s.svState .B = svFollowing) ∧
    (∃ (s : State) (r : Nat) (tag : Nat) (d : RingDesc), s.live = true ∧ s.descReady r tag 0x0A d = true ∧ s.descGo d = true ∧ s.actAway (actOf (d.p 0 1)) = false ∧ s.acc.mediaCopy.at (actOf (d.p 0 1)) ≠ []) :=
  ⟨⟨alive (powered [(HM_STAT.FILLDONE, 1)]), by decide +kernel⟩,
   ⟨alive (withDesc (powered [(AC_STAT.SLOT, 0), (AC_STAT.BUSY, 0), (AC_STAT.OP, 0)]) (desc7 9 [])), 0, 7, [1, 2], true, desc7 9 [], by decide +kernel⟩,
   ⟨alive (withDesc (powered [(AC_STAT.SLOT, 0), (AC_STAT.BUSY, 0), (AC_STAT.OP, 0)]) (desc7 9 [])), 0, 7, [1, 2], desc7 9 [], (1, 0xFF), by decide +kernel⟩,
   ⟨alive (withDesc (powered [(AC_STAT.BUSY, 1)]) (desc7 9 [])), 0, 7, [1, 2], true, desc7 9 [], by decide +kernel⟩,
   ⟨alive ({ powered [] with acc := { State.reset.acc with store := some ⟨.ring 0 7, [1, 2], 1, false, false, false⟩ } }), ⟨.ring 0 7, [1, 2], 1, false, false, false⟩, by decide +kernel⟩,
   ⟨alive ({ powered [] with acc := { State.reset.acc with store := some ⟨.ring 0 7, [1, 2], 1, false, false, false⟩ } }), ⟨.ring 0 7, [1, 2], 1, false, false, false⟩, by decide +kernel⟩,
   ⟨alive ({ powered [(SV_STAT.STATE 0, 3), (SV_STAT.STATE 1, 3)] with acc := { State.reset.acc with copyDue := true, applied := [1] } }), true, false, by decide +kernel⟩,
   ⟨alive (withDesc { (serving (powered [(SV_STAT.STATE 0, 3)])).modSv .A (fun v => { v with away := false }) with acc := { State.reset.acc with mediaCopy := ⟨[5, 6], []⟩ } } (desc7 0xA [])), 0, 7, desc7 0xA [], by decide +kernel⟩⟩

theorem witness_helper_states :
    (∃ (s : State) (h : Nat), s.live = true ∧ h < 24 ∧ s.acc.applied ≠ [] ∧ s.bit FB_STAT.BASENOTE = false ∧ s.heState h = heStopped ∧ s.fld (HE_ROLE.ROLEGEN h) = 0) ∧
    (∃ (s : State) (h : Nat), s.live = true ∧ h < 24 ∧ s.bit FB_STAT.BASENOTE = false ∧ s.heState h = heStopped ∧ s.fld (HE_ROLE.ROLEGEN h) ≠ 0 ∧ (s.fabric.owed.any (fun x => x.1 == h)) = false) ∧
    (∃ (s : State) (h : Nat), s.live = true ∧ h < 24 ∧ s.heState h = heRunning ∧ s.stopOk h = true ∧ (s.helper h).count = 0) ∧
    (∃ (s : State) (h : Nat), s.live = true ∧ h < 24 ∧ s.heState h = heRunning ∧ s.stopOk h = true ∧ (s.helper h).count ≠ 0) ∧
    (∃ (s : State) (h : Nat), s.live = true ∧ h < 24 ∧ s.heState h = heFaulted) ∧
    (∃ (s : State) (h : Nat), s.live = true ∧ h < 24 ∧ s.heState h = heRunning ∧ s.stopOk h = false) ∧
    (∃ (s : State) (h : Nat), s.live = true ∧ h < 24 ∧ s.heState h = heStopping ∧ s.role h ≠ 1 ∧ s.role h ≠ 0x0B ∧ (s.helper h).count = 0 ∧ (s.fabric.owed.any (fun x => x.1 == h)) = false) ∧
    (∃ (s : State) (h : Nat) (_mine : List (Nat × Nat)), s.live = true ∧ h < 24 ∧ s.heState h = heStopping ∧ s.role h ≠ 1 ∧ s.role h ≠ 6 ∧ s.role h ≠ 0x0B ∧ (s.helper h).count = 0 ∧ (s.fabric.owed.any (fun x => x.1 == h)) = false) ∧
    (∃ (s : State) (h : Nat) (cause : Nat) (_space : Nat) (_addr : Nat), s.live = true ∧ h < 24 ∧ 1 ≤ cause ∧ cause ≤ 6 ∧ s.heActive h = true) ∧
    (∃ (s : State) (h : Nat), s.live = true ∧ h < 24 ∧ 257 ≤ (s.helper h).count) :=
  ⟨⟨alive ((powered []).withSecs [(4, 0, [5, 6, 7])]), 1, by decide +kernel⟩,
   ⟨alive (powered [(HE_ROLE.ROLEGEN 1, 1)]), 1, by decide +kernel⟩,
   ⟨alive (powered [(HE_STAT.STATE 1, 1)]), 1, by decide +kernel⟩,
   ⟨alive ((powered [(HE_STAT.STATE 1, 1)]).modHelper 1 (fun x => { x with count := 5 })), 1, by decide +kernel⟩,
   ⟨alive (powered [(HE_STAT.STATE 1, 3)]), 1, by decide +kernel⟩,
   ⟨alive (powered [(HE_STAT.STATE 1, 1), (HE_ROLE.ROLE 1, 8)]), 1, by decide +kernel⟩,
   ⟨alive (powered [(HE_STAT.STATE 1, 2), (HE_ROLE.ROLE 1, 9)]), 1, by decide +kernel⟩,
   ⟨alive ((powered [(HE_STAT.STATE 1, 2), (HE_ROLE.ROLE 1, 9)]).modHelper 1 (fun x => { x with work := [(3, 7)], inbox := [msg 2 1] })), 1, [], by decide +kernel⟩,
   ⟨alive (powered [(HE_STAT.STATE 1, 1), (HE_ROLE.ROLE 1, 9)]), 1, 2, 1, 5, by decide +kernel⟩,
   ⟨alive ((powered [(HE_STAT.STATE 1, 1), (HE_ROLE.ROLE 1, 9)]).modHelper 1 (fun x => { x with count := 257 })), 1, by decide +kernel⟩⟩

theorem witness_microwords_issue :
    (∃ (s : State) (h : Nat) (m : MwIn) (q : Helper × Nat × Nat), s.live = true ∧ s.calm = true ∧ s.mwGoes h m 0 q = true ∧ mwSeq (s.mwAt h) = 0) ∧
    (∃ (s : State) (h : Nat) (_m : MwIn), s.live = true ∧ s.calm = true ∧ s.mwReady h = true ∧ mwIllegal (s.mwAt h) = false ∧ mwSeq (s.mwAt h) = 1 ∧ mwMop (s.mwAt h) = 0 ∧ mwSp (s.mwAt h) = false) ∧
    (∃ (s : State) (h : Nat) (m : MwIn) (q : Helper × Nat × Nat), s.live = true ∧ s.calm = true ∧ s.mwGoes h m 0 q = true ∧ mwSeq (s.mwAt h) = 2) ∧
    (∃ (s : State) (h : Nat) (m : MwIn) (q : Helper × Nat × Nat), s.live = true ∧ s.calm = true ∧ s.mwGoes h m 0 q = true ∧ mwSeq (s.mwAt h) = 3) ∧
    (∃ (s : State) (h : Nat) (m : MwIn) (q : Helper × Nat × Nat), s.live = true ∧ s.calm = true ∧ s.mwGoes h m 1 q = true) ∧
    (∃ (s : State) (h : Nat) (m : MwIn) (q : Helper × Nat × Nat), s.live = true ∧ s.calm = true ∧ s.mwGoes h m 2 q = true) ∧
    (∃ (s : State) (h : Nat) (_m : MwIn), s.live = true ∧ s.calm = true ∧ s.mwReady h = true ∧ mwIllegal (s.mwAt h) = false ∧ mwSeq (s.mwAt h) = 0 ∧ mwMop (s.mwAt h) = 0 ∧ mwSp (s.mwAt h) = true ∧ (s.helper h).swapReq = false ∧ (s.helper h).stopReq = false ∧ (s.helper h).haltReq = false ∧ (s.helper h).watchdog = false) ∧
    (∃ (s : State) (h : Nat) (_m : MwIn), s.live = true ∧ s.calm = true ∧ s.mwReady h = true ∧ mwIllegal (s.mwAt h) = false ∧ mwSeq (s.mwAt h) = 0 ∧ mwMop (s.mwAt h) = 0 ∧ mwSp (s.mwAt h) = true ∧ (s.helper h).swapReq = false ∧ (s.helper h).stopReq = true ∧ (s.helper h).haltReq = false ∧ (s.helper h).watchdog = false) ∧
    (∃ (s : State) (h : Nat) (_m : MwIn), s.live = true ∧ s.mwReady h = true ∧ mwIllegal (s.mwAt h) = false ∧ mwSeq (s.mwAt h) = 0 ∧ mwMop (s.mwAt h) = 0 ∧ mwSp (s.mwAt h) = true ∧ (s.helper h).watchdog = true) ∧
    (∃ (s : State) (h : Nat) (_m : MwIn), s.live = true ∧ h < 24 ∧ s.heActive h = true ∧ (s.helper h).blocked = false ∧ (s.helper h).count = 256 ∧ mwIllegal (s.mwAt h) = false ∧ mwSeq (s.mwAt h) = 0 ∧ mwMop (s.mwAt h) = 0) ∧
    (∃ (s : State) (h : Nat) (_m : MwIn), s.live = true ∧ s.mwReady h = true ∧ mwIllegal (s.mwAt h) = true) :=
  ⟨⟨alive (atMop 0 running), 0, mw0, ((atMop 0 running).helper 0, 2, 1), by decide +kernel⟩,
   ⟨alive (atWord (2 ^ 126 + 77 * 2 ^ 67) running), 0, mw0, by decide +kernel⟩,
   ⟨alive (atWord (2 * 2 ^ 126 + 77 * 2 ^ 67) running), 0, mw0, ({ (atWord (2 * 2 ^ 126 + 77 * 2 ^ 67) running).helper 0 with rstack := [(2, 1)] }, 0, 77), by decide +kernel⟩,
   ⟨alive ((atWord (3 * 2 ^ 126) running).modHelper 0 (fun x => { x with rstack := [(1, 9)] })), 0, mw0, ({ (atWord (3 * 2 ^ 126) running).helper 0 with rstack := [] }, 1, 9), by decide +kernel⟩,
   ⟨alive (atMop 1 running), 0, mw0, ((atMop 1 running).helper 0, 2, 1), by decide +kernel⟩,
   ⟨alive (atMop 2 running), 0, mw0, ((atMop 2 running).helper 0, 2, 1), by decide +kernel⟩,
   ⟨alive ((atWord (2 ^ 125) running).modHelper 0 (fun x => { x with events := [3], count := 9 })), 0, mw0, by decide +kernel⟩,
   ⟨alive ((atWord (2 ^ 125) running).modHelper 0 (fun x => { x with stopReq := true })), 0, mw0, by decide +kernel⟩,
   ⟨alive ((atWord (2 ^ 125) running).modHelper 0 (fun x => { x with watchdog := true })), 0, mw0, by decide +kernel⟩,
   ⟨alive ((atWord 0 running).modHelper 0 (fun x => { x with count := 256 })), 0, mw0, by decide +kernel⟩,
   ⟨alive (atWord (2 ^ 124) running), 0, mw0, by decide +kernel⟩⟩

theorem witness_fabric_and_messages :
    (∃ (s : State) (h : Nat) (m : MwIn) (i : FabIn) (q : Helper × Nat × Nat), s.live = true ∧ s.calm = true ∧ s.mwGoes h m 3 q = true ∧ i.space = 1 ∧ MemSp.mram.holds ((s.helper h).opAddr (s.mwAt h)) (mwBytes (s.mwAt h)) = true) ∧
    (∃ (s : State) (h : Nat) (m : MwIn) (i : FabIn) (q : Helper × Nat × Nat), s.live = true ∧ s.calm = true ∧ s.mwGoes h m 4 q = true ∧ i.space = 2 ∧ MemSp.ssram.holds ((s.helper h).opAddr (s.mwAt h)) ((s.helper h).opData (s.mwAt h)).length = true) ∧
    (∃ (s : State) (h : Nat) (m : MwIn) (i : FabIn) (q : Helper × Nat × Nat), s.live = true ∧ s.calm = true ∧ s.mwGoes h m 3 q = true ∧ 3 ≤ i.space) ∧
    (∃ (s : State) (h : Nat) (m : MwIn) (i : FabIn) (q : Helper × Nat × Nat), s.live = true ∧ s.mwGoes h m 3 q = true ∧ i.space = 0 ∧ MemSp.hbm.holds ((s.helper h).opAddr (s.mwAt h)) (mwBytes (s.mwAt h)) = true ∧ s.hbmHolds ((s.helper h).opAddr (s.mwAt h)) (mwBytes (s.mwAt h)) = false) ∧
    (∃ (s : State) (h : Nat) (m : MwIn) (i : FabIn) (q : Helper × Nat × Nat), s.live = true ∧ s.mwGoes h m 4 q = true ∧ i.space = 0 ∧ MemSp.hbm.holds ((s.helper h).opAddr (s.mwAt h)) ((s.helper h).opData (s.mwAt h)).length = true ∧ s.hbmHolds ((s.helper h).opAddr (s.mwAt h)) ((s.helper h).opData (s.mwAt h)).length = false) ∧
    (∃ (s : State) (h : Nat) (m : MwIn) (_f : MemFaults) (q : Helper × Nat × Nat) (k : Nat), s.live = true ∧ s.mwGoes h m 0xA q = true ∧ (s.helper h).opLine (s.mwAt h) = k ∧ (s.helper h).opAddr (s.mwAt h) < hbmBytes ∧ s.bit HM_STAT.FILLDONE = true ∧ s.bit CA_STAT.INVDONE = true) ∧
    (∃ (s : State) (h : Nat) (m : MwIn) (_d : Word64) (q : Helper × Nat × Nat), s.live = true ∧ s.calm = true ∧ s.mwGoes h m 8 q = true) ∧
    (∃ (s : State) (h : Nat) (m : MwIn) (q : Helper × Nat × Nat), s.live = true ∧ s.calm = true ∧ s.mwGoes h m 9 q = true ∧ m.island = true) ∧
    (∃ (s : State) (h : Nat) (m : MwIn) (_n : Nat) (q : Helper × Nat × Nat), s.live = true ∧ s.calm = true ∧ s.mwGoes h m 0xB q = true ∧ mwMsize (s.mwAt h) = 0) ∧
    (∃ (s : State) (h : Nat) (m : MwIn) (q : Helper × Nat × Nat), s.live = true ∧ s.calm = true ∧ s.mwGoes h m 0xB q = true ∧ mwMsize (s.mwAt h) = 1 ∧ s.accessesDone h = true) ∧
    (∃ (s : State) (h : Nat) (m : MwIn) (_n : Nat) (q : Helper × Nat × Nat), s.live = true ∧ s.calm = true ∧ s.mwGoes h m 0xB q = true ∧ mwMsize (s.mwAt h) = 2) ∧
    (∃ (s : State) (h : Nat) (m : MwIn) (q : Helper × Nat × Nat), s.live = true ∧ s.calm = true ∧ s.mwGoes h m 5 q = true ∧ (s.helper h).outbox.length < 8) ∧
    (∃ (s : State) (h : Nat) (m : MwIn) (q : Helper × Nat × Nat) (x : Msg) (l : List Msg), s.live = true ∧ s.calm = true ∧ s.mwGoes h m 6 ({ q.1 with inbox := x :: l }, q.2) = true ∧ (s.helper h).inbox = x :: l) ∧
    (∃ (s : State) (h : Nat) (m : MwIn) (q : Helper × Nat × Nat) (x : Msg) (l : List Msg), s.live = true ∧ s.calm = true ∧ s.mwGoes h m 7 ({ q.1 with errq := x :: l }, q.2) = true ∧ (s.helper h).errq = x :: l) ∧
    (∃ (s : State) (src : Nat) (m : Msg) (l : List Msg), s.live = true ∧ src < 24 ∧ (s.helper src).outbox = m :: l) ∧
    (∃ (s : State) (dst : Nat) (m : Msg), s.live = true ∧ s.fabric.waiting.find? (fun x => x.dst == dst) = some m ∧ s.refusal? m = none ∧ s.inboxOpen dst = true ∧ dst < 24) ∧
    (∃ (s : State) (src : Nat) (m : Msg), s.live = true ∧ s.fabric.returning.find? (fun x => x.src == src) = some m ∧ src < 24 ∧ (s.helper src).errq.length < 16) :=
  ⟨⟨alive (atMop 3 running), 0, mw0, ⟨1, ⟨[], []⟩⟩, ((atMop 3 running).helper 0, 2, 1), by rw [opAddr_zero _ _ (by decide +kernel) (by decide +kernel)]; decide +kernel⟩,
   ⟨alive (atMop 4 running), 0, mw0, ⟨2, ⟨[], []⟩⟩, ((atMop 4 running).helper 0, 2, 1), by rw [opAddr_zero _ _ (by decide +kernel) (by decide +kernel)]; decide +kernel⟩,
   ⟨alive (atMop 3 running), 0, mw0, ⟨3, ⟨[], []⟩⟩, ((atMop 3 running).helper 0, 2, 1), by decide +kernel⟩,
   ⟨alive (atMop 3 (powered [(HM_STAT.FILLDONE, 1), (CA_STAT.INVDONE, 1)])), 0, mw0, ⟨0, ⟨[], []⟩⟩, ((atMop 3 (powered [])).helper 0, 2, 1), by rw [opAddr_zero _ _ (by decide +kernel) (by decide +kernel)]; decide +kernel⟩,
   ⟨alive (atMop 4 (powered [(HM_STAT.FILLDONE, 1), (CA_STAT.INVDONE, 1)])), 0, mw0, ⟨0, ⟨[], []⟩⟩, ((atMop 4 (powered [])).helper 0, 2, 1), by rw [opAddr_zero _ _ (by decide +kernel) (by decide +kernel)]; decide +kernel⟩,
   ⟨alive (atMop 10 (powered [(HM_STAT.FILLDONE, 1), (CA_STAT.INVDONE, 1)])), 0, mw0, ⟨[], []⟩, ((atMop 10 (powered [])).helper 0, 2, 1), 0, by rw [opAddr_zero _ _ (by decide +kernel) (by decide +kernel)]; decide +kernel⟩,
   ⟨alive (atMop 8 running), 0, mw0, 5, ((atMop 8 running).helper 0, 2, 1), by decide +kernel⟩,
   ⟨alive (atMop 9 running), 0, mw0, ((atMop 9 running).helper 0, 2, 1), by decide +kernel⟩,
   ⟨alive (atMop 11 running), 0, mw0, 0, ((atMop 11 running).helper 0, 2, 1), by decide +kernel⟩,
   ⟨alive (atWord (11 * 2 ^ 95 + 2 ^ 82) running), 0, mw0, ((atWord (11 * 2 ^ 95 + 2 ^ 82) running).helper 0, 2, 1), by decide +kernel⟩,
   ⟨alive (atWord (11 * 2 ^ 95 + 2 * 2 ^ 82) running), 0, mw0, 0, ((atWord (11 * 2 ^ 95 + 2 * 2 ^ 82) running).helper 0, 2, 1), by decide +kernel⟩,
   ⟨alive (atMop 5 running), 0, mw0, ((atMop 5 running).helper 0, 2, 1), by decide +kernel⟩,
   ⟨alive ((atMop 6 running).modHelper 0 (fun x => { x with inbox := [msg 1 0] })), 0, mw0, ((atMop 6 running).helper 0, 2, 1), msg 1 0, [], by decide +kernel⟩,
   ⟨alive ((atMop 7 running).modHelper 0 (fun x => { x with errq := [msg 0 1] })), 0, mw0, ((atMop 7 running).helper 0, 2, 1), msg 0 1, [], by decide +kernel⟩,
   ⟨alive (running.modHelper 1 (fun x => { x with outbox := [msg 1 0] })), 1, msg 1 0, [], by decide +kernel⟩,
   ⟨alive ({ running with fabric := { State.reset.fabric with waiting := [msg 1 0] } }), 0, msg 1 0, by decide +kernel⟩,
   ⟨alive ({ running with fabric := { State.reset.fabric with returning := [msg 1 0] } }), 1, msg 1 0, by decide +kernel⟩⟩

theorem witness_the_steward :
    (∃ (s : State) (cause : Nat) (_space : Nat) (_addr : Nat), s.live = true ∧ s.stRuns = true ∧ 2 ≤ cause ∧ cause ≤ 4 ∧ s.steward.inHandler = false ∧ s.steward.trapTicks = [] ∧ s.bit FB_STAT.BASENOTE = false) ∧
    (∃ (s : State) (cause : Nat) (_space : Nat) (_addr : Nat), s.live = true ∧ s.stRuns = true ∧ 1 ≤ cause ∧ cause ≤ 4 ∧ s.steward.inHandler = true ∧ s.bit FB_STAT.BASENOTE = false) ∧
    (∃ (s : State) (_space : Nat) (_addr : Nat), s.live = true ∧ s.stRuns = true ∧ s.steward.inHandler = false ∧ s.steward.trapTicks = [] ∧ s.bit FB_STAT.BASENOTE = false) ∧
    (∃ (s : State), s.live = true ∧ s.faults.restartDue = true) ∧
    (∃ (s : State) (space : Nat) (addr : Nat) (_o : StewardOp), s.live = true ∧ s.stRuns = true ∧ s.calm = true ∧ s.steward.blocked = false ∧ ((s.steward.fencing = true → s.stFenceDone = true)) ∧ space = 0 ∧ (s.steward.active.mtab.find? (fun m => m.1 == addr / 16)) = none) ∧
    (∃ (s : State) (_space : Nat) (_addr : Nat) (_o : StewardOp), s.live = true ∧ s.stRuns = true ∧ s.steward.fencing = true ∧ s.stFenceDone = false) ∧
    (∃ (s : State) (a : Activation), s.live = true ∧ s.nvme.activation = some a ∧ a.drained = true ∧ s.fabric.staged ≠ 0 ∧ s.fabric.swapRole = none) ∧
    (∃ (s : State) (a : Activation), s.live = true ∧ s.nvme.activation = some a ∧ s.fabric.swapRole = some 13 ∧ a.slot < 2) :=
  ⟨⟨alive (powered []), 2, 1, 5, by decide +kernel⟩,
   ⟨alive ({ powered [] with steward := { State.reset.steward with inHandler := true } }), 2, 1, 5, by decide +kernel⟩,
   ⟨alive (powered []), 1, 5, by decide +kernel⟩,
   ⟨alive ({ powered [] with faults := ⟨true, 0⟩ }), by decide +kernel⟩,
   ⟨alive (powered []), 0, 5, .mainLoop, by decide +kernel⟩,
   ⟨alive ({ powered [] with steward := { State.reset.steward with fencing := true, outbox := [msg 31 0] } }), 0, 5, .plain, by decide +kernel⟩,
   ⟨alive ({ powered [] with nvme := { State.reset.nvme with activation := some ⟨0, 1, 0, true⟩ }, fabric := { State.reset.fabric with staged := 1 } }), ⟨0, 1, 0, true⟩, by decide +kernel⟩,
   ⟨alive ({ powered [] with nvme := { State.reset.nvme with activation := some ⟨0, 1, 0, true⟩ }, fabric := { State.reset.fabric with staged := 1, swapRole := some 13 } }), ⟨0, 1, 0, true⟩, by decide +kernel⟩⟩

theorem witness_coded_memories :
    (∃ (s : State) (m : MemSp) (a : Nat) (d : List Byte), s.storeBad m a d = false) ∧
    (∃ (_s : State) (_m : MemSp) (a : Nat) (d : List Byte) (i : Nat), i ∉ wordSpan a d.length) ∧
    (∃ (_s : State) (m : MemSp) (_a : Nat) (_d : List Byte) (m2 : MemSp) (_i : Nat), m2 ≠ m) ∧
    (∃ (s : State) (m : MemSp) (a : Nat) (d : List Byte) (i : Nat), (wordPart a d i).2.length ≠ 8 ∧ (decodeWord (s.wordAt m i)).res.bad = true) ∧
    (∃ (s : State) (m : MemSp) (a : Nat) (d : List Byte) (b : Nat), ((b < a ∨ a + d.length ≤ b)) ∧ (s.peek m b 1).bad = false) ∧
    (∃ (n : Nat), n < 2 ^ 64) ∧
    (∃ (s : State), s.live = true ∧ s.bit HM_STAT.FILLDONE = false ∧ s.fld HM_STAT.READY ≠ 0 ∧ (s.bit FB_STAT.BASENOTE = true ∨ s.bit SC_STAT.AREA = false)) ∧
    (∃ (s : State) (w : Word32) (i : Nat), s.live = true ∧ s.bit FB_STAT.BASENOTE = false ∧ s.bit HM_BLTCTL.EN = true ∧ s.mem.blotter = none ∧ s.fld HM_BLTADDR.IDX = i ∧ i < padWords (HM_BLTCTL.TGT.ofWord (withOp w 1))) ∧
    (∃ (s : State) (w : Word32) (i : Nat), s.live = true ∧ s.bit FB_STAT.BASENOTE = false ∧ s.bit HM_BLTCTL.EN = true ∧ s.mem.blotter = none ∧ s.fld HM_BLTADDR.IDX = i ∧ i < padWords (HM_BLTCTL.TGT.ofWord (withOp w 2))) ∧
    (∃ (s : State) (w : Word32) (i : Nat), s.live = true ∧ s.bit FB_STAT.BASENOTE = false ∧ s.bit HM_BLTCTL.EN = true ∧ s.mem.blotter = none ∧ s.fld HM_BLTADDR.IDX = i ∧ i < padWords (HM_BLTCTL.TGT.ofWord (withOp w 3))) ∧
    (∃ (s : State) (w : Word32) (i : Nat), s.live = true ∧ s.bit FB_STAT.BASENOTE = false ∧ s.bit HM_BLTCTL.EN = true ∧ s.mem.blotter = none ∧ s.fld HM_BLTADDR.IDX = i ∧ i < padWords (HM_BLTCTL.TGT.ofWord (withOp w 4))) ∧
    (∃ (s : State) (_w : Word32), s.live = true ∧ s.bit FB_STAT.BASENOTE = false ∧ s.bit HM_BLTCTL.EN = false) ∧
    (∃ (s : State), s.live = true ∧ s.mem.blotter ≠ none) :=
  ⟨⟨State.reset, .mram, 24, [1, 2, 3, 4, 5, 6, 7, 8], by decide +kernel⟩,
   ⟨State.reset, .mram, 24, [1, 2, 3], 9, by decide +kernel⟩,
   ⟨State.reset, .mram, 24, [1, 2, 3], .ssram, 3, by decide +kernel⟩,
   ⟨State.reset, .mram, 25, [1, 2, 3], 3, by decide +kernel⟩,
   ⟨State.reset.store .mram 24 [1, 2, 3, 4, 5, 6, 7, 8], .mram, 25, [9], 24, by decide +kernel⟩,
   ⟨5, by decide +kernel⟩,
   ⟨alive (powered [(HM_STAT.READY, 15)]), by decide +kernel⟩,
   ⟨alive (powered [(HM_BLTCTL.EN, 1), (HM_BLTD_LO.DATA, 5), (HM_BLTC.CHECK, 3)]), 0, 0, by decide +kernel⟩,
   ⟨alive ((powered [(HM_BLTCTL.EN, 1)]).putWord .hbm 0 77), 0, 0, by decide +kernel⟩,
   ⟨alive ((powered [(HM_BLTCTL.EN, 1)]).putWord .hbm 0 (encodeWord 77)), 0, 0, by decide +kernel⟩,
   ⟨alive (powered [(HM_BLTCTL.EN, 1), (HM_BLTD_LO.DATA, 5)]), 0, 0, by decide +kernel⟩,
   ⟨alive (powered []), 0, by decide +kernel⟩,
   ⟨alive ({ powered [(HM_BLTCTL.EN, 1)] with mem := { State.reset.mem with blotter := some 2 } }), by decide +kernel⟩⟩

theorem witness_the_word_code :
    (∃ (n : Nat), n < 2 ^ 64) ∧
    (∃ (n : Nat) (j : Nat) (k : Nat), n < 2 ^ 64 ∧ j < 80 ∧ k < 80 ∧ j ≠ k) ∧
    (∃ (j : Nat) (k : Nat), j < 80 ∧ k < 80 ∧ j ≠ k) ∧
    (∃ (c : Code80), (decodeWord c).res.bad = true) ∧
    (∃ (c : Code80), (decodeWord c).res = .clean) ∧
    (∃ (c : Code80), (decodeWord c).res = .corrected) :=
  ⟨⟨5, by decide +kernel⟩,
   ⟨5, 3, 9, by decide +kernel⟩,
   ⟨3, 9, by decide +kernel⟩,
   ⟨unwrittenWord, by decide +kernel⟩,
   ⟨encodeWord 5, by decide +kernel⟩,
   ⟨encodeWord 5 ^^^ BitVec.twoPow 80 7, by decide +kernel⟩⟩

theorem witness_the_map_cache :
    (∃ (s : State) (la : Nat) (_f : MemFaults), s.live = true ∧ s.calm = true ∧ s.cache.fills = [⟨la, [], false, false, none⟩] ∧ s.canInstall la = true ∧ s.cacheFind la = none) ∧
    (∃ (s : State) (la : Nat) (f : MemFaults) (h : Nat) (reg : Nat) (g : MemFaults), s.live = true ∧ s.calm = true ∧ h < 24 ∧ reg < 32 ∧ s.cacheable (128 * la) = true ∧ g.lines = [] ∧ f.words = [] ∧ s.cache.fills = [⟨la, [⟨h, 128 * la, .load 8 0 8 reg, none, g⟩], false, false, none⟩] ∧ s.canInstall la = true ∧ s.cacheFind la = none) ∧
    (∃ (s : State) (la : Nat) (_f : MemFaults) (x : Fill), s.live = true ∧ s.fillOf la = some x ∧ x.prefetch = true ∧ x.held = false ∧ x.words = none ∧ x.waiting = []) ∧
    (∃ (s : State) (la : Nat) (_is : List Nat) (_f : MemFaults) (e : EvEntry), s.live = true ∧ s.calm = true ∧ s.cache.evb = [e] ∧ e.la = la ∧ e.words.length = 16 ∧ s.cache.fills = [] ∧ s.cache.waitWb = []) ∧
    (∃ (s : State), s.live = true ∧ s.bit CA_STAT.INVDONE = false) :=
  ⟨⟨alive ({ powered [(CA_STAT.INVDONE, 1)] with cache := { State.reset.cache with fills := [⟨5, [], false, false, none⟩] } }), 5, ⟨[], []⟩, by decide +kernel⟩,
   ⟨alive ({ powered [(CA_STAT.INVDONE, 1), (HM_RGNSIZE.SIZE 0, 4)] with cache := { State.reset.cache with fills := [⟨500, [⟨3, 64000, .load 8 0 8 5, none, ⟨[], []⟩⟩], false, false, none⟩] } }), 500, ⟨[], []⟩, 3, 5, ⟨[], []⟩, by decide +kernel⟩,
   ⟨alive ({ powered [(CA_STAT.INVDONE, 1)] with cache := { State.reset.cache with fills := [⟨5, [], true, false, none⟩] } }), 5, ⟨[], []⟩, ⟨5, [], true, false, none⟩, by decide +kernel⟩,
   ⟨alive ({ powered [(CA_STAT.INVDONE, 1)] with cache := { State.reset.cache with evb := [⟨5, List.replicate 16 (encodeWord 3), true⟩] } }), 5, [], ⟨[], []⟩, ⟨5, List.replicate 16 (encodeWord 3), true⟩, by decide +kernel⟩,
   ⟨alive (powered [(CA_STAT.INVDONE, 0)]), by decide +kernel⟩⟩

theorem witness_mover_channels :
    (∃ (s : State) (c : Nat) (x : MoverSet), s.live = true ∧ c < 64 ∧ s.bit (DM_CH_STAT.SHGO c) = false ∧ s.dmState c = dmIdle ∧ x.ok = true) ∧
    (∃ (s : State) (c : Nat) (_x : MoverSet), s.live = true ∧ c < 64 ∧ s.bit (DM_CH_STAT.SHGO c) = false ∧ s.dmState c = dmRunning) ∧
    (∃ (s : State) (c : Nat) (x : MoverSet), s.live = true ∧ c < 64 ∧ s.bit (DM_CH_STAT.SHGO c) = false ∧ s.dmState c = dmIdle ∧ x.ok = false) ∧
    (∃ (s : State) (c : Nat), s.live = true ∧ (s.dmState c = dmReady ∨ s.dmState c = dmRunning)) ∧
    (∃ (s : State) (c : Nat), s.live = true ∧ s.dmState c = dmStopped ∧ (s.chan c).active.isSome = true) ∧
    (∃ (s : State) (c : Nat), s.live = true ∧ c < 64 ∧ (s.dmState c = dmStopped ∨ s.dmState c = dmHalted)) ∧
    (∃ (s : State) (c : Nat), s.live = true ∧ s.dmState c = dmHalted) ∧
    (∃ (s : State) (m : Nat) (c : Nat), s.live = true ∧ m < 4 ∧ ((∀ k < 16, s.dmState (16 * m + k) ≠ dmRunning)) ∧ c / 16 = m ∧ ((∀ k < 16, s.dmState (16 * m + k) = dmReady ↔ 16 * m + k = c))) ∧
    (∃ (s : State) (c : Nat) (x : MoverSet) (_d : List Byte) (_f : MemFaults), s.live = true ∧ s.calm = true ∧ c < 64 ∧ (s.chan c).active = some x ∧ s.dmState c = dmRunning ∧ s.dmLeft c = 64 ∧ s.dmSrc c = x.src ∧ s.dmDst c = x.dst ∧ x.srcSp = 1 ∧ x.dstSp = 2 ∧ (s.peek .mram x.src 64).bad = false ∧ s.storeBad .ssram x.dst (s.peek .mram x.src 64).data = false ∧ s.bit (DM_CH_STAT.STOPPEND c) = false ∧ s.bit (DM_CH_STAT.SHGO c) = false) ∧
    (∃ (s : State) (c : Nat) (x : MoverSet) (n : Nat) (_d : List Byte) (_f : MemFaults), s.live = true ∧ s.calm = true ∧ c < 64 ∧ (s.chan c).active = some x ∧ s.dmState c = dmRunning ∧ x.srcSp = 1 ∧ x.dstSp = 2 ∧ n = 0 ∧ (s.peek .mram (s.dmSrc c) (Nat.min 64 (s.dmLeft c))).bad = true) ∧
    (∃ (s : State) (c : Nat) (x : MoverSet), s.live = true ∧ c < 64 ∧ (s.chan c).active = some x ∧ s.dmState c = dmRunning ∧ (isPeriph x.srcSp || isPeriph x.dstSp) = true) ∧
    (∃ (s : State) (c : Nat) (x : MoverSet) (d : List (Option Int)) (_f : MemFaults), s.live = true ∧ s.calm = true ∧ c < 64 ∧ (s.chan c).active = some x ∧ s.dmState c = dmRunning ∧ x.srcSp = 6 ∧ x.dstSp = 2 ∧ x.fromResult = false ∧ 256 ≤ s.dmLeft c ∧ d.length = 256 ∧ s.dmDst c % 8 = 0) ∧
    (∃ (s : State) (c : Nat) (x : MoverSet), s.live = true ∧ c < 64 ∧ (s.chan c).active = some x ∧ s.dmState c = dmRunning ∧ (isPeriph x.srcSp || isPeriph x.dstSp) = true ∧ s.isServing (domOfAct (s.periphAct x)) = false) :=
  ⟨⟨alive (powered []), 2, set2, by decide +kernel⟩,
   ⟨alive (chan2 2 (powered [])), 2, set2, by decide +kernel⟩,
   ⟨alive (powered []), 2, { set2 with len := 0 }, by decide +kernel⟩,
   ⟨alive (chan2 1 (powered [])), 2, by decide +kernel⟩,
   ⟨alive (chan2 3 (powered [])), 2, by decide +kernel⟩,
   ⟨alive (chan2 4 (powered [])), 2, by decide +kernel⟩,
   ⟨alive (chan2 4 (powered [])), 2, by decide +kernel⟩,
   ⟨alive (chan2 1 (powered [])), 0, 2, by decide +kernel⟩,
   ⟨alive (chan2 2 ((powered [(MJ_STAT.ADMIT, 1)]).store .mram 0 (List.replicate 64 9))), 2, set2, [], ⟨[], []⟩, by decide +kernel⟩,
   ⟨alive (chan2 2 (powered [])), 2, set2, 0, [], ⟨[], []⟩, by decide +kernel⟩,
   ⟨alive (((powered []).modChan 2 (fun _ => { Channel.reset with active := some ⟨6, 1, 2, 0, 256, false, 31⟩ })).dmGoto 2 2), 2, ⟨6, 1, 2, 0, 256, false, 31⟩, by decide +kernel⟩,
   ⟨alive ((((powered []).modChan 2 (fun _ => { Channel.reset with active := some ⟨6, 1, 2, 0, 512, false, 31⟩ })).dmShowSet 2 ⟨6, 1, 2, 0, 512, false, 31⟩).dmGoto 2 2), 2, ⟨6, 1, 2, 0, 512, false, 31⟩, List.replicate 256 (some 7), ⟨[], []⟩, by decide +kernel⟩,
   ⟨alive (((powered []).modChan 2 (fun _ => { Channel.reset with active := some ⟨6, 1, 2, 0, 256, false, 31⟩ })).dmGoto 2 2), 2, ⟨6, 1, 2, 0, 256, false, 31⟩, by decide +kernel⟩⟩

theorem witness_spindle_starts_and_stops :
    (∃ (s : State), s.live = true ∧ s.bit EB_TOKEN.HELD = true ∧ s.bit FB_STAT.BASENOTE = false ∧ s.thermalDown = false ∧ s.fld PW_STAT.VMSTATE = vmNormal ∧ s.power.vmGood = true ∧ (s.spState = spStopped ∨ s.spState = spCoasting)) ∧
    (∃ (s : State), s.live = true ∧ (s.bit FB_STAT.BASENOTE = true ∨ s.thermalDown = true ∨ s.fld PW_STAT.VMSTATE ≠ vmNormal ∨ s.power.vmGood = false)) ∧
    (∃ (s : State) (_amp : Nat) (_speed : Nat) (_angle : Nat) (_back : Bool), s.live = true ∧ s.spState = spObserving) ∧
    (∃ (s : State), s.live = true ∧ s.spState = spShortBraking ∧ s.spindle.drive = .short) ∧
    (∃ (s : State), s.live = true ∧ s.spState = spShortBraking ∧ s.spindle.holding = true ∧ s.spindle.startPend = false ∧ s.power.standbyPending = false) ∧
    (∃ (s : State) (_angle : Nat) (_pos : Nat) (_neg : Nat), s.live = true ∧ s.spState = spAligning) ∧
    (∃ (s : State), s.live = true ∧ s.spState = spAccelerating ∧ s.fld SP_SPEED.SLEWED = s.fld SP_TARGET.TARGET) ∧
    (∃ (s : State), s.live = true ∧ s.spState = spSlewing ∧ s.fld SP_SPEED.SLEWED = s.fld SP_TARGET.TARGET) ∧
    (∃ (s : State), s.live = true ∧ s.spTurning = true ∧ 4800 < s.fld SP_SPEED.SPEED ∧ s.bit SP_STAT.NOREGEN = false) ∧
    (∃ (s : State), s.live = true ∧ s.spTurning = false) ∧
    (∃ (s : State), s.live = true ∧ s.spState = spShortBraking ∧ s.spindle.drive = .regen) ∧
    (∃ (s : State), s.live = true ∧ s.spState = spAligning ∧ s.spindle.attempts < 2) ∧
    (∃ (s : State), s.live = true ∧ s.spState = spAligning ∧ s.spindle.attempts = 2) ∧
    (∃ (s : State), s.live = true ∧ s.spState = spAccelerating) ∧
    (∃ (s : State), s.live = true ∧ s.spTurning = true ∧ s.spindle.lockLoss = none) ∧
    (∃ (s : State) (k : Nat), s.live = true ∧ s.spTurning = true ∧ s.spindle.lockLoss = some k ∧ s.tick < k + secTicks 10) ∧
    (∃ (s : State), s.live = true ∧ s.spindle.drive ≠ .short ∧ 2 ≤ s.spindle.overCount) ∧
    (∃ (s : State), s.live = true) ∧
    (∃ (s : State), s.live = true ∧ s.watching = true) ∧
    (∃ (_s : State) (f : Fld) (_d : Drive), f ∈ [SP_FAULT.STARTFAIL, SP_FAULT.LOCKLOSS, SP_FAULT.OVERCURRENT, SP_FAULT.VGDUV, SP_FAULT.OV46]) :=
  ⟨⟨alive ((powered [(EB_TOKEN.HELD,1)]).modPower (fun p => { p with vmGood := true })), by decide +kernel⟩,
   ⟨alive (st [(EB_TOKEN.HELD,1)]), by decide +kernel⟩,
   ⟨alive (st [(SP_STAT.STATE,1)]), 5, 300, 77, false, by decide +kernel⟩,
   ⟨alive ({st [(SP_STAT.STATE,2)] with spindle := {State.reset.spindle with drive := .short, startPend := true}}), by decide +kernel⟩,
   ⟨alive ({st [(SP_STAT.STATE,2)] with spindle := {State.reset.spindle with holding := true}}), by decide +kernel⟩,
   ⟨alive (st [(SP_STAT.STATE,3)]), 30, 9, 7, by decide +kernel⟩,
   ⟨alive (st [(SP_STAT.STATE,4)]), by decide +kernel⟩,
   ⟨alive (st [(SP_STAT.STATE,6)]), by decide +kernel⟩,
   ⟨alive (st [(SP_STAT.STATE,5),(SP_SPEED.SPEED,50000)]), by decide +kernel⟩,
   ⟨alive (State.reset), by decide +kernel⟩,
   ⟨alive ({st [(SP_STAT.STATE,2)] with spindle := {State.reset.spindle with drive := .regen}}), by decide +kernel⟩,
   ⟨alive (st [(SP_STAT.STATE,3)]), by decide +kernel⟩,
   ⟨alive ({st [(SP_STAT.STATE,3)] with spindle := {State.reset.spindle with attempts := 2}}), by decide +kernel⟩,
   ⟨alive (st [(SP_STAT.STATE,4)]), by decide +kernel⟩,
   ⟨alive (st [(SP_STAT.STATE,5)]), by decide +kernel⟩,
   ⟨alive ({st [(SP_STAT.STATE,5)] with spindle := {State.reset.spindle with lockLoss := some 0}}), 0, by decide +kernel⟩,
   ⟨alive (State.reset.modSp (fun p => { p with overCount := 2 })), by decide +kernel⟩,
   ⟨alive (State.reset), by decide +kernel⟩,
   ⟨alive (State.reset), by decide +kernel⟩,
   ⟨State.reset, SP_FAULT.OV46, .off, by decide +kernel⟩⟩

theorem witness_spindle_control :
    (∃ (s : State) (_iu : Int) (_iv : Int) (_vs : List Nat) (_vm : Nat), s.live = true ∧ s.switching = false ∧ s.spindle.overCount = 0) ∧
    (∃ (s : State) (_iu : Int) (_iv : Int) (_vs : List Nat) (_vm : Nat), s.live = true ∧ s.switching = true ∧ s.spindle.overCount = 0 ∧ s.dutyFloor ≤ 2000) ∧
    (∃ (s : State) (iu : Int) (_iv : Int) (_vs : List Nat) (_vm : Nat), s.live = true ∧ s.switching = false ∧ s.spindle.drive ≠ .short ∧ s.spindle.overCount = 1 ∧ s.motor 12 2 * 2048 < iu.natAbs * s.motor 10 2 ∧ s.tickMem.events.contains .spindleOvercurrent = false) ∧
    (∃ (s : State), s.live = true ∧ s.spindle.missCount = 0) ∧
    (∃ (s : State) (h : Nat), s.live = true ∧ s.spindle.missCount = 1 ∧ s.helperOf 5 0 = some h) ∧
    (∃ (s : State), s.live = true ∧ s.spTurning = true) ∧
    (∃ (s : State), s.live = true ∧ s.spTurning = true ∧ s.bit SP_STAT.POSSRC = false ∧ 4800 ≤ s.fld SP_SPEED.SPEED) ∧
    (∃ (s : State), s.live = true ∧ s.spTurning = true ∧ s.bit SP_STAT.POSSRC = true ∧ s.fld SP_SPEED.SPEED < 4320) ∧
    (∃ (s : State), s.live = true ∧ s.spTurning = true ∧ s.bit SP_STAT.POSSRC = false ∧ 4800 ≤ s.fld SP_SPEED.SPEED) ∧
    (∃ (s : State) (k : Nat), s.live = true ∧ s.spindle.drive = .pwm ∧ s.spindle.duties[k]? = some (4000 - s.dutyFloor)) ∧
    (∃ (s : State), s.live = true ∧ s.watching = true ∧ s.spindle.barred = false) ∧
    (∃ (s : State) (_i : Nat), s.live = true ∧ s.pins.brkG = true ∧ s.spindle.chopFault = false) ∧
    (∃ (s : State) (_i : Nat), s.live = true ∧ s.pins.brkG = true ∧ s.spState ≠ spCoasting ∧ s.spState ≠ spFaulted) ∧
    (∃ (s : State) (_v : Nat), s.live = true ∧ s.spState = spSlewing) ∧
    (∃ (s : State), s.live = true ∧ s.streamSrc = 1 ∧ s.spindle.fsyncTick = none) ∧
    (∃ (s : State) (k : Nat), s.live = true ∧ s.streamSrc = 1 ∧ s.spindle.fsyncTick = some k ∧ s.spindle.periods.length < 7) ∧
    (∃ (s : State) (_mv : Nat), s.live = true ∧ s.streamSrc = 2 ∧ s.spindle.ainSamples.length < 99) ∧
    (∃ (s : State), s.live = true ∧ s.streamOn = true) ∧
    (∃ (s : State), s.live = true ∧ s.fld PW_STAT.VMSTATE = vmNormal ∧ s.spState = spLocked) :=
  ⟨⟨alive (State.reset), 5, -7, [1, 2, 3], 4, by decide +kernel⟩,
   ⟨alive (State.reset.modSp (fun p => { p with drive := .pwm, nextDuties := [7, 8, 9] })), 5, -7, [1, 2, 3], 4, by decide +kernel⟩,
   ⟨alive ((State.reset.withSecs [(9, 3, [0, 0, 0, 0, 0, 0, 0, 0, 1, 0, 0, 0, 1, 2, 1, 0, 20, 0, 0, 0] ++ zeros 10 ++ leBytes 2 1000 ++ leBytes 2 100 ++ zeros 18)]).modSp (fun p => { p with overCount := 1 })), 1000, 0, [], 4, by decide +kernel⟩,
   ⟨alive (State.reset), by decide +kernel⟩,
   ⟨alive ({st [(HE_ROLE.ROLE 3,5)] with spindle := {State.reset.spindle with missCount := 1}}), 3, by decide +kernel⟩,
   ⟨alive (st [(SP_STAT.STATE,5)]), by decide +kernel⟩,
   ⟨alive (st [(SP_STAT.STATE,4), (SP_SPEED.SPEED, 4800)]), by decide +kernel⟩,
   ⟨alive (st [(SP_STAT.STATE,4), (SP_SPEED.SPEED, 4319), (SP_STAT.POSSRC, 1)]), by decide +kernel⟩,
   ⟨alive (st [(SP_STAT.STATE,4), (SP_SPEED.SPEED, 4800)]), by decide +kernel⟩,
   ⟨alive ({State.reset with spindle := {State.reset.spindle with drive := .pwm, duties := [4000,4000,4000]}}), 1, by decide +kernel⟩,
   ⟨alive (State.reset), by decide +kernel⟩,
   ⟨alive ({State.reset with pins := {State.reset.pins with brkG := true}}), 5, by decide +kernel⟩,
   ⟨alive ({State.reset with pins := {State.reset.pins with brkG := true}}), 5, by decide +kernel⟩,
   ⟨alive (st [(SP_STAT.STATE,6),(SP_TARGET.TARGET,40000)]), 5, by decide +kernel⟩,
   ⟨alive (State.reset.withSecs [(9,3,[1])]), by decide +kernel⟩,
   ⟨alive ({State.reset.withSecs [(9,3,[1])] with spindle := {State.reset.spindle with fsyncTick := some 0}}), 0, by decide +kernel⟩,
   ⟨alive (State.reset.withSecs [(9,3,[2])]), 100, by decide +kernel⟩,
   ⟨alive ({State.reset.withSecs [(9,3,[1])] with nvme := {State.reset.nvme with streaming := true}}), by decide +kernel⟩,
   ⟨alive (st [(SP_STAT.STATE,5)]), by decide +kernel⟩⟩

theorem witness_servo_faults :
    (∃ (s : State) (a : Act), s.live = true ∧ s.svLoaded a = true) ∧
    (∃ (s : State) (a : Act), s.live = true ∧ s.svLoaded a = true) ∧
    (∃ (s : State) (a : Act) (coarse : Bool), s.live = true ∧ s.svLoaded a = true ∧ (if coarse then (s.sv a).cmiss else (s.sv a).fmiss) = 0) ∧
    (∃ (s : State) (a : Act), s.live = true ∧ s.svLoaded a = true) ∧
    (∃ (s : State) (_a : Act), s.live = true) :=
  ⟨⟨alive (powered [(SV_STAT.STATE 0, 3)]), .A, by decide +kernel⟩,
   ⟨alive (powered [(SV_STAT.STATE 0, 3)]), .A, by decide +kernel⟩,
   ⟨alive (powered [(SV_STAT.STATE 0, 3)]), .A, true, by decide +kernel⟩,
   ⟨alive (powered [(SV_STAT.STATE 0, 3)]), .A, by decide +kernel⟩,
   ⟨alive (powered [(SV_STAT.SHOCK 0, 1)]), .A, by decide +kernel⟩⟩

theorem witness_loading_and_parking :
    (∃ (s : State) (a : Act), s.live = true ∧ s.svState a = svParked ∧ s.spReady = true ∧ s.bit FB_STAT.BASENOTE = false ∧ s.isServing (domOfAct a) = true) ∧
    (∃ (s : State) (a : Act), s.live = true ∧ s.svLoaded a = true ∧ s.svState a ≠ svUnloading) ∧
    (∃ (s : State) (a : Act), s.live = true ∧ s.svState a = svUnloading) ∧
    (∃ (s : State) (a : Act), s.live = true ∧ s.svState a = svUnloading) ∧
    (∃ (s : State) (a : Act), s.svState a = svRetracting ∧ (s.sv a).faultPend = false) ∧
    (∃ (s : State) (a : Act), s.svState a = svRetracting ∧ (s.sv a).faultPend = true) ∧
    (∃ (s : State) (a : Act), s.live = true ∧ s.svState a = svLoading ∧ (s.sv a).attempts < 3) ∧
    (∃ (s : State) (a : Act), s.live = true ∧ s.svState a = svLoading ∧ (s.sv a).attempts = 3) :=
  ⟨⟨alive (serving (heads (powered [(SP_STAT.STATE, 5), (SP_SPEED.SLEWED, 57600)]))), .A, by decide +kernel⟩,
   ⟨alive (powered [(SV_STAT.STATE 0, 3)]), .A, by decide +kernel⟩,
   ⟨alive (powered [(SV_STAT.STATE 0, 7)]), .A, by decide +kernel⟩,
   ⟨alive (powered [(SV_STAT.STATE 0, 7)]), .A, by decide +kernel⟩,
   ⟨powered [(SV_STAT.STATE 0, 8)], .A, by decide +kernel⟩,
   ⟨(powered [(SV_STAT.STATE 0, 8)]).modSv .A (fun v => { v with faultPend := true }), .A, by decide +kernel⟩,
   ⟨alive (powered [(SV_STAT.STATE 0, 1)]), .A, by decide +kernel⟩,
   ⟨alive ((powered [(SV_STAT.STATE 0, 1)]).modSv .A (fun v => { v with attempts := 3 })), .A, by decide +kernel⟩⟩

theorem witness_seeks_and_wedges :
    (∃ (s : State) (a : Act) (g : Nat) (_track : Nat), s.live = true ∧ s.svState a = svFollowing ∧ s.headsFor a g ≠ [] ∧ s.power.frameBar = false ∧ s.svRows a 0x0006 = 0) ∧
    (∃ (s : State) (a : Act) (g : Nat) (track : Nat), s.live = true ∧ s.svState a = svSeeking ∧ (s.sv a).seekWait = some (g, track) ∧ s.headsFor a g ≠ [] ∧ s.power.frameBar = false) ∧
    (∃ (s : State) (a : Act), s.live = true ∧ s.svState a = svRecovering) ∧
    (∃ (s : State) (a : Act) (_x : WedgeIn), s.live = true ∧ s.svLoaded a = false) ∧
    (∃ (s : State) (a : Act) (x : WedgeIn), s.live = true ∧ s.svState a = svLoading ∧ 7 ≤ (s.sv a).stWedges ∧ (s.readWedges a x.places).head?.map (fun y => y.2.valid) = some true ∧ x.isn = s.pins.vcmCmd.at a ∧ x.echo = [] ∧ (s.sv a).missed = false) ∧
    (∃ (w : Nat) (t : Nat) (c : Int) (x : WedgePlace) (next : Option Nat) (_track : Nat), w < 500 ∧ t < 2 ^ 24 ∧ -2048 ≤ c ∧ c < 2048 ∧ ((next = none ∨ next = some w)) ∧ x.sam = samCells.map some ∧ x.index = (codedBits 10 (indexBits w)).map some ∧ x.trackId = (codedBits 24 (grayCode t)).map some ∧ x.wrro = (codedBits 12 (toTwos 12 c)).map some) :=
  ⟨⟨alive (heads (powered [(SV_STAT.STATE 0, 3)])), .A, 0, 100, by decide +kernel⟩,
   ⟨alive ((heads (powered [(SV_STAT.STATE 0, 4)])).modSv .A (fun v => { v with seekWait := some (0, 100) })), .A, 0, 100, by decide +kernel⟩,
   ⟨alive (heads (powered [(SV_STAT.STATE 0, 6)])), .A, by decide +kernel⟩,
   ⟨alive (State.reset), .A, { places := [], isn := 0, echo := [], slackC := 0, slackF := 0, shk := 0, routeBad := [] }, by decide +kernel⟩,
   ⟨alive ((powered [(SV_STAT.STATE 0, 1)]).modSv .A (fun v => { v with stWedges := 7 })), .A, { places := [goodWedge 1 9 0], isn := 0, echo := [], slackC := 0, slackF := 0, shk := 0, routeBad := [] }, by decide +kernel⟩,
   ⟨77, 12345, -300, goodWedge 77 12345 (-300), some 77, 5, by decide +kernel⟩⟩

theorem witness_a_frame_is_written :
    (∃ (s : State) (a : Act) (_n : Fin 2) (f : WriteFrame), s.live = true ∧ s.map.placed.find? (fun g => g.pfn == f.pfn) = some f ∧ surfAct f.surf = a ∧ s.isServing (domOfAct a) = true ∧ s.stripeReady f.pfn = true ∧ s.trackReady f.pfn = true ∧ ([0, 1, 2, 3].any (fun j => (s.slot j).queue.any (fun g => g.pfn == f.pfn) || (s.slot j).cur.any (fun g => g.pfn == f.pfn))) = false) ∧
    (∃ (s : State) (a : Act) (n : Fin 2) (f : WriteFrame) (rest : List WriteFrame) (k : Nat) (l : Nat), s.live = true ∧ (s.slot (slotNum a n)).queue = f :: rest ∧ s.isServing (domOfAct a) = true ∧ s.bit FB_STAT.BASENOTE = false ∧ s.gate a n = false ∧ s.fld (asState a n) = asOff ∧ s.power.frameBar = false ∧ s.spindle.speedBad = false ∧ s.thermalDown = false ∧ ((s.gate a (1 - n) = true → s.throttled = false ∧ 2 ≤ s.writers a)) ∧ s.fldBit (AS_WDIS.HEADS (actNum a)) (f.surf % 16) = false ∧ s.fldThen (AS_TINT.VALID (actNum a)) = 1 ∧ s.placeOfHead a (f.surf % 16) = some k ∧ s.clockLane a (f.surf % 16) = some l ∧ 4096 ≤ (s.slot (slotNum a n)).payload.length ∧ s.writePermitted a k = true ∧ f.track = s.placeTarget a k) ∧
    (∃ (s : State) (a : Act) (n : Fin 2), s.live = true ∧ s.fld (asState a n) = asLeading ∧ s.gate a n = true) ∧
    (∃ (s : State) (a : Act) (n : Fin 2), s.live = true ∧ s.fld (wsState a n) = wsWriting) ∧
    (∃ (s : State) (a : Act) (n : Fin 2), s.live = true ∧ s.fld (wsState a n) = wsSuspended) ∧
    (∃ (s : State) (a : Act) (n : Fin 2) (f : WriteFrame), s.live = true ∧ (s.slot (slotNum a n)).cur = some f ∧ s.fld (wsState a n) = wsWriting) ∧
    (∃ (s : State) (a : Act) (n : Fin 2) (f : WriteFrame), s.live = true ∧ (s.slot (slotNum a n)).cur = some f ∧ s.fld (wsState a n) = wsWriting ∧ s.gate a n = true) :=
  ⟨⟨alive ({ following with map := { following.map with placed := [wf1] } }), .A, 0, wf1, by decide +kernel⟩,
   ⟨alive ((following.modSlot 0 (fun x => { x with queue := [wf1], payload := zeros 4096 })).setThen (AS_TINT.VALID 0) 1), .A, 0, wf1, [], 0, 0, by decide +kernel⟩,
   ⟨alive (writing 1 2), .A, 0, by decide +kernel⟩,
   ⟨alive (writing 2 3), .A, 0, by decide +kernel⟩,
   ⟨alive (writing 2 4), .A, 0, by decide +kernel⟩,
   ⟨alive (writing 2 3), .A, 0, wf1, by decide +kernel⟩,
   ⟨alive (writing 2 3), .A, 0, wf1, by decide +kernel⟩⟩

theorem witness_assist_protection :
    (∃ (s : State) (a : Act) (_v0 : AssistIn) (_v1 : AssistIn), s.live = true ∧ s.gate a 0 = false ∧ s.gate a 1 = false) ∧
    (∃ (s : State) (a : Act) (v0 : AssistIn) (_v1 : AssistIn), s.live = true ∧ s.gate a 0 = true ∧ s.gate a 1 = false ∧ s.fld (asState a 0) = asOn ∧ (s.as a).missed = false ∧ v0.rail = false ∧ (s.aslot a 0).suspended = false) ∧
    (∃ (s : State) (a : Act) (v0 : AssistIn) (_v1 : AssistIn), s.live = true ∧ s.gate a 0 = true ∧ s.gate a 1 = false ∧ v0.rail = true) ∧
    (∃ (s : State) (a : Act), s.live = true ∧ s.gate a 0 = true ∧ (s.as a).misses = 0) ∧
    (∃ (s : State) (a : Act), s.live = true ∧ s.gate a 0 = true ∧ (s.as a).misses = 1 ∧ s.helperOf 4 (actNum a) = none) ∧
    (∃ (s : State) (a : Act) (n : Fin 2) (r : Nat), s.live = true ∧ s.gate a n = true ∧ (s.aslot a n).rlim < r) ∧
    (∃ (s : State) (a : Act) (n : Fin 2), s.live = true ∧ s.fld (asState a n) = asCooling) ∧
    (∃ (s : State) (_a : Act), s.live = true) ∧
    (∃ (s : State) (_a : Act) (_c : Int), s.live = true) ∧
    (∃ (s : State) (_a : Act) (_c : Int), s.live = true) ∧
    (∃ (s : State) (a : Act), s.live = true ∧ s.bit (AS_TINT.VALID (actNum a)) = true) :=
  ⟨⟨alive (powered []), .A, ⟨0, 0, false⟩, ⟨0, 0, false⟩, by decide +kernel⟩,
   ⟨alive ((writing 2 3).modAslot .A 0 (fun x => { x with pend := 7 })), .A, ⟨5, 10, false⟩, ⟨0, 0, false⟩, by decide +kernel⟩,
   ⟨alive (writing 2 3), .A, ⟨5, 10, true⟩, ⟨0, 0, false⟩, by decide +kernel⟩,
   ⟨alive (writing 2 3), .A, by decide +kernel⟩,
   ⟨alive ((writing 2 3).modAs .A (fun x => { x with misses := 1 })), .A, by decide +kernel⟩,
   ⟨alive (writing 2 3), .A, 0, 9, by decide +kernel⟩,
   ⟨alive (powered [(AS_STAT.STATE0 0, 3)]), .A, 0, by decide +kernel⟩,
   ⟨alive (writing 2 3), .A, by decide +kernel⟩,
   ⟨alive (powered []), .A, -5, by decide +kernel⟩,
   ⟨alive (powered []), .A, -5, by decide +kernel⟩,
   ⟨alive (powered [(AS_TINT.VALID 0, 1)]), .A, by decide +kernel⟩⟩

theorem witness_a_frame_is_read :
    (∃ (s : State) (l : Nat) (a : Act), s.live = true ∧ s.laneAct l = some a ∧ s.lnState l = lnOff ∧ s.isServing (domOfAct a) = true) ∧
    (∃ (s : State) (l : Nat), s.live = true ∧ l < 9 ∧ s.lnState l ≠ lnOff) ∧
    (∃ (s : State) (l : Nat) (_track : Nat) (_frame : Nat) (start : Nat), s.live = true ∧ l < 9 ∧ s.isSecond l = false ∧ s.isServing (domOfAct (s.lnAct l)) = true ∧ s.readsFor l = l ∧ s.throttled = false ∧ s.thermalDown = false ∧ s.lnState l ≠ lnOff ∧ s.secondOf l = none ∧ s.tick + 50 ≤ start ∧ (s.lane l).queue.length < 8) ∧
    (∃ (s : State) (l : Nat) (_track : Nat) (_frame : Nat) (start : Nat), s.live = true ∧ l < 9 ∧ s.isSecond l = false ∧ s.isServing (domOfAct (s.lnAct l)) = true ∧ s.readsFor l = l ∧ s.throttled = false ∧ s.thermalDown = false ∧ s.lnState l ≠ lnOff ∧ s.secondOf l = none ∧ start < s.tick + 50) ∧
    (∃ (s : State) (l : Nat) (c : FrameCmd) (q : List FrameCmd), s.live = true ∧ (s.lane l).queue = c :: q ∧ s.lnState l = lnServo) ∧
    (∃ (s : State) (l : Nat) (c : FrameCmd) (q : List FrameCmd), s.live = true ∧ (s.lane l).queue = c :: q ∧ (s.lane l).cur = none ∧ s.lnState l = lnServo) ∧
    (∃ (s : State) (l : Nat) (c : FrameCmd) (_d : List SlicedCell), s.live = true ∧ s.lnState l = lnReading ∧ (s.lane l).cur = some c ∧ (s.lane l).found = false ∧ (s.lane l).missed = false ∧ s.isSecond l = false ∧ s.secondOf l = none) ∧
    (∃ (_pat : Nat) (pre : List SlicedCell) (_post : List SlicedCell), pre.length ≤ 16) ∧
    (∃ (s : State) (l : Nat) (c : FrameCmd) (d : DecodeRes), s.live = true ∧ s.lnState l = lnReading ∧ (s.lane l).cur = some c ∧ c.cal = false ∧ (s.lane l).found = true ∧ (s.lane l).offTrack = false ∧ (s.lane l).inline = false ∧ s.isSecond l = false ∧ l < 8 ∧ (s.lane l).results.length < 2 ∧ s.power.standbyPending = false ∧ s.decodeValid (s.cmdSurf l c) c.track c.frame (s.inlineLimit (s.lnAct l)) d = true) ∧
    (∃ (s : State) (l : Nat) (c : FrameCmd) (d : DecodeRes), s.live = true ∧ s.lnState l = lnReading ∧ (s.lane l).cur = some c ∧ (s.lane l).found = true ∧ (s.lane l).offTrack = false ∧ (s.lane l).inline = false ∧ s.isSecond l = false ∧ l < 8 ∧ s.power.standbyPending = false ∧ isCodeword d.bits = false) ∧
    (∃ (s : State) (l : Nat) (c : FrameCmd), s.live = true ∧ l < 8 ∧ (s.lane l).cur = some c ∧ s.lnState l = lnReading ∧ (s.lane l).extent = none ∧ (s.lane l).queue = [] ∧ s.power.standbyPending = false) :=
  ⟨⟨alive (following.setFld (LN_STAT.STATE 0) 0), 0, .A, by decide +kernel⟩,
   ⟨alive (following), 0, by decide +kernel⟩,
   ⟨alive (following), 0, 0, 0, 1000, by decide +kernel⟩,
   ⟨alive (following), 0, 0, 0, 0, by decide +kernel⟩,
   ⟨alive (following.modLane 0 (fun x => { x with queue := [cmd1] })), 0, cmd1, [], by decide +kernel⟩,
   ⟨alive (following.modLane 0 (fun x => { x with queue := [cmd1] })), 0, cmd1, [], by decide +kernel⟩,
   ⟨alive ((following.setFld (LN_STAT.STATE 0) 2).modLane 0 (fun x => { x with cur := some cmd1 })), 0, cmd1, [], by decide +kernel⟩,
   ⟨0x12345678, [none, some true], [], by decide +kernel⟩,
   ⟨alive (onMedium 0 0 0 ⟨0, 0, 0, []⟩ ((following.setFld (LN_STAT.STATE 0) 2).modLane 0 (fun x => { x with cur := some cmd1, found := true }))), 0, cmd1, ⟨frameWord (trackWord 0 0) 0 0 7 9 [], 3⟩, by decide +kernel⟩,
   ⟨alive ((following.setFld (LN_STAT.STATE 0) 2).modLane 0 (fun x => { x with cur := some cmd1, found := true })), 0, cmd1, ⟨frameWord (trackWord 0 0) 0 0 7 9 [] + 1, 3⟩, by decide +kernel⟩,
   ⟨alive ((following.setFld (LN_STAT.STATE 0) 2).modLane 0 (fun x => { x with cur := some cmd1, found := true, inline := true })), 0, cmd1, by decide +kernel⟩⟩

theorem witness_deep_decode :
    (∃ (s : State) (surf : Nat) (track : Nat) (frame : Nat) (_cls : Nat) (r : Recovery) (h : Nat), s.live = true ∧ s.decode.failed.find? (fun q => q.surf == surf && q.track == track && q.frame == frame) = some r ∧ s.fewest = some h ∧ s.recoveries.any (fun q => q.same r) = false ∧ s.decode.queue.length < 1024 ∧ r.retained = true ∧ s.pinnedCount + r.extents.length ≤ 2048) ∧
    (∃ (s : State) (u : Nat) (r : Recovery) (q : List Recovery), s.live = true ∧ s.decode.queue = r :: q ∧ s.unitFree u = true) ∧
    (∃ (s : State) (u : Nat) (r : Recovery) (c : List SlicedCell) (d : List SlicedCell), s.live = true ∧ u < 4 ∧ s.decode.active.find? (fun q => q.unit == some u) = some r ∧ r.stage = 0 ∧ s.power.standbyPending = false ∧ s.researchFinds r c d = true) ∧
    (∃ (s : State) (u : Nat) (r : Recovery) (n : Nat), s.live = true ∧ u < 4 ∧ s.decode.active.find? (fun q => q.unit == some u) = some r ∧ r.stage = 3 ∧ unsatisfied n ≤ 648 ∧ s.power.standbyPending = false) ∧
    (∃ (s : State) (u : Nat) (r : Recovery) (n : Nat), s.live = true ∧ u < 4 ∧ s.decode.active.find? (fun q => q.unit == some u) = some r ∧ r.stage = 3 ∧ r.extra = [] ∧ r.offs < 7 ∧ 648 < unsatisfied n ∧ s.power.standbyPending = false) ∧
    (∃ (s : State) (u : Nat) (r : Recovery) (d : DecodeRes), s.live = true ∧ s.decode.active.find? (fun q => q.unit == some u) = some r ∧ r.stage = 2 ∧ s.decodeValid r.surf r.track r.frame r.limit d = true) ∧
    (∃ (s : State) (u : Nat) (r : Recovery) (d : DecodeRes), s.live = true ∧ s.decode.active.find? (fun q => q.unit == some u) = some r ∧ r.stage = 2 ∧ isCodeword d.bits = false ∧ r.extra = []) ∧
    (∃ (s : State) (u : Nat) (r : Recovery) (k : Nat), s.live = true ∧ s.decode.active.find? (fun q => q.unit == some u) = some r ∧ s.power.standbyPending = false ∧ (recent s.tick (secTicks 1) (SMap.get (fun _ => []) s.decode.resets u)).length < 3 ∧ (List.range 4).find? (fun k => k != u && s.unitFree k) = some k) ∧
    (∃ (s : State) (u : Nat) (r : Recovery), s.live = true ∧ u < 4 ∧ s.decode.active.find? (fun q => q.unit == some u) = some r ∧ 3 ≤ (recent s.tick (secTicks 1) (SMap.get (fun _ => []) s.decode.resets u)).length) :=
  ⟨⟨alive ({ powered [(HE_STAT.STATE 0, 1), (HE_ROLE.ROLE 0, 11)] with decode := { State.reset.decode with failed := [rec1], extents := [(3, { Extent.reset with written := true })] } }), 0, 5, 2, 1, rec1, 0, by decide +kernel⟩,
   ⟨alive ({ powered [(HE_STAT.STATE 0, 1), (HE_ROLE.ROLE 0, 11)] with decode := { State.reset.decode with queue := [rec1] } }), 0, rec1, [], by decide +kernel⟩,
   ⟨alive ({ powered [] with decode := { State.reset.decode with active := [{ rec1 with unit := some 1, stage := 0 }] } }), 1, { rec1 with unit := some 1, stage := 0 }, List.replicate 32 none ++ (syncPattern 0).map some, [], by decide +kernel⟩,
   ⟨alive ({ powered [] with decode := { State.reset.decode with active := [{ rec1 with unit := some 1, stage := 3 }] } }), 1, { rec1 with unit := some 1, stage := 3 }, 0, by decide +kernel⟩,
   ⟨alive ({ powered [] with decode := { State.reset.decode with active := [{ rec1 with unit := some 1, stage := 3 }] } }), 1, { rec1 with unit := some 1, stage := 3 }, 2 ^ 864 - 1, by decide +kernel⟩,
   ⟨alive (onMedium 0 5 2 ⟨0, 0, 0, []⟩ { powered [] with decode := { State.reset.decode with active := [{ rec1 with unit := some 1, stage := 2 }] } }), 1, { rec1 with unit := some 1, stage := 2 }, ⟨frameWord (trackWord 0 5) 2 0 7 9 [], 9⟩, by decide +kernel⟩,
   ⟨alive ({ powered [] with decode := { State.reset.decode with active := [{ rec1 with unit := some 1, stage := 2 }] } }), 1, { rec1 with unit := some 1, stage := 2 }, ⟨1, 12⟩, by decide +kernel⟩,
   ⟨alive ({ powered [(HE_STAT.STATE 0, 1), (HE_ROLE.ROLE 0, 11)] with decode := { State.reset.decode with active := [{ rec1 with unit := some 1 }] } }), 1, { rec1 with unit := some 1 }, 0, by decide +kernel⟩,
   ⟨alive ({ powered [] with decode := { State.reset.decode with active := [{ rec1 with unit := some 1 }], resets := [(1, [0, 0])] } }), 1, { rec1 with unit := some 1 }, by decide +kernel⟩⟩

theorem witness_recovery_passes :
    (∃ (s : State) (a : Act) (_start : Nat) (r : Reread) (l : Nat), s.live = true ∧ s.actAway a = false ∧ s.svState a = svFollowing ∧ s.lanes.rereads.find? (s.canReread a) = some r ∧ r.kind = 1 ∧ s.laneOfSurf r.surf = some l) ∧
    (∃ (s : State) (a : Act) (_start : Nat) (r : Reread) (l : Nat), s.live = true ∧ s.actAway a = false ∧ s.svState a = svFollowing ∧ s.lanes.rereads.find? (s.canReread a) = some r ∧ r.kind = 0 ∧ s.laneOfSurf r.surf = some l) ∧
    (∃ (s : State) (surf : Nat) (track : Nat) (frame : Nat) (r : Recovery), s.live = true ∧ s.decode.active.find? (fun q => q.wait == 2 && q.surf == surf && q.track == track && q.frame == frame) = some r ∧ s.neighbourCaps r = []) ∧
    (∃ (s : State) (_surf : Nat) (_track : Nat) (_frame : Nat), s.live = true ∧ s.power.standbyPending = false) ∧
    (∃ (s : State) (surf : Nat) (track : Nat) (frame : Nat) (r : Recovery), s.live = true ∧ s.isServing (domOfAct (surfAct surf)) = true ∧ s.recoveries.find? (fun q => q.surf == surf && q.track == track && q.frame == frame) = some r) ∧
    (∃ (s : State) (surf : Nat) (_track : Nat) (_frame : Nat), s.live = true ∧ s.isServing (domOfAct (surfAct surf)) = false) :=
  ⟨⟨alive (((following.setFld (LN_STAT.PLACE 0) 0).modSv .A (fun v => { v with away := false })).modLanes (fun x => { x with rereads := [⟨0, 5, 2, 1⟩] })), .A, 1000, ⟨0, 5, 2, 1⟩, 0, by decide +kernel⟩,
   ⟨alive (((following.setFld (LN_STAT.PLACE 0) 0).modSv .A (fun v => { v with away := false })).modLanes (fun x => { x with rereads := [⟨0, 5, 2, 0⟩] })), .A, 1000, ⟨0, 5, 2, 0⟩, 0, by decide +kernel⟩,
   ⟨alive ({ powered [] with decode := { State.reset.decode with active := [{ rec1 with wait := 2 }] } }), 0, 5, 2, { rec1 with wait := 2 }, by decide +kernel⟩,
   ⟨alive (following.modLanes (fun x => { x with rereads := [⟨0, 5, 2, 4⟩, ⟨0, 6, 2, 4⟩] })), 0, 5, 2, by decide +kernel⟩,
   ⟨alive ({ following with decode := { State.reset.decode with active := [rec1] } }), 0, 5, 2, rec1, by decide +kernel⟩,
   ⟨alive (powered []), 0, 5, 2, by decide +kernel⟩⟩

theorem witness_calibration_runs :
    (∃ (s : State) (l : Nat), s.live = true ∧ l < 8 ∧ s.causes l ≠ 0 ∧ s.run? l = none ∧ s.bit FB_STAT.BASENOTE = false ∧ s.lnState l ≠ lnOff ∧ (s.dom (domOfAct (s.lnAct l))).st = .restoring) ∧
    (∃ (s : State) (l : Nat), s.live = true ∧ l < 8 ∧ s.causes l ≠ 0 ∧ s.run? l = none ∧ s.bit FB_STAT.BASENOTE = false ∧ s.lnState l ≠ lnOff ∧ s.isServing (domOfAct (s.lnAct l)) = true ∧ s.calFirst l = true ∧ s.throttled = false ∧ s.thermalDown = false ∧ s.cal.lsUse ≠ 0) ∧
    (∃ (s : State) (l : Nat), s.live = true ∧ l < 8 ∧ s.causes l ≠ 0 ∧ s.run? l = none ∧ s.bit FB_STAT.BASENOTE = false ∧ s.lnState l ≠ lnOff ∧ s.isServing (domOfAct (s.lnAct l)) = true ∧ s.calFirst l = true ∧ s.throttled = false ∧ s.thermalDown = false ∧ s.cal.lsUse = 0 ∧ s.bit (LN_STAT.DEGRADED 8) = false) ∧
    (∃ (s : State) (l : Nat) (f : CalFind) (r : CalRun) (q : CalRun), s.live = true ∧ s.run? l = some r ∧ r.take f = some q ∧ q.step < 8) ∧
    (∃ (s : State) (l : Nat) (f : CalFind) (r : CalRun) (q : CalRun), s.live = true ∧ s.run? l = some r ∧ r.take f = some q ∧ q.step = 8 ∧ ((q.inPlace = true → (s.lane l).cur = none))) ∧
    (∃ (s : State) (l : Nat) (d1 : Int) (d2 : Int) (ok : Bool) (r : CalRun) (q : CalRun), s.live = true ∧ s.run? l = some r ∧ r.take (.early d1 d2 ok) = some q ∧ q.step = 8 ∧ q.inPlace = true ∧ (s.lane l).cur ≠ none) ∧
    (∃ (s : State) (q : CalRun), q.lane < 9 ∧ q.owners = [] ∧ ((s.bit (LN_STAT.DEGRADED q.lane) = true → SMap.get (fun _ => 0) s.cal.accepts q.lane = 0))) ∧
    (∃ (s : State) (l : Nat) (r : CalRun), s.live = true ∧ s.run? l = some r ∧ r.owners = [] ∧ s.fld (CL_LAST.REJCNT l) < 2 ∧ l < 9) ∧
    (∃ (s : State), s.live = true) :=
  ⟨⟨alive ({ (powered [(LN_STAT.STATE 0, 1)]) with cal := { State.reset.cal with causes := [(0, 2)] }, doms := { State.reset.doms with DA := { State.reset.doms.DA with st := .restoring } } }), 0, by decide +kernel⟩,
   ⟨alive ({ (serving (powered [(LN_STAT.STATE 0, 1)])) with cal := { State.reset.cal with causes := [(0, 2)], lsUse := 1 } }), 0, by decide +kernel⟩,
   ⟨alive ({ (serving (powered [(LN_STAT.STATE 0, 1)])) with cal := { State.reset.cal with causes := [(0, 2)] } }), 0, by decide +kernel⟩,
   ⟨alive ({ powered [] with cal := { State.reset.cal with runs := [run1] } }), 0, .offset 7, run1, { run1 with step := 2, newAdc := [7, 0, 0, 0] }, by decide +kernel⟩,
   ⟨alive ({ powered [] with cal := { State.reset.cal with runs := [{ run1 with step := 7 }] } }), 0, .early 0 0 true, { run1 with step := 7 }, { run1 with step := 8 }, by decide +kernel⟩,
   ⟨alive (({ powered [] with cal := { State.reset.cal with runs := [{ run1 with step := 7 }] } }).modLane 0 (fun x => { x with cur := some cmd1 })), 0, 0, 0, true, { run1 with step := 7 }, { run1 with step := 8 }, by decide +kernel⟩,
   ⟨{ powered [] with cal := { State.reset.cal with runs := [run1] } }, run1, by decide +kernel⟩,
   ⟨alive ({ powered [] with cal := { State.reset.cal with runs := [run1] } }), 0, run1, by decide +kernel⟩,
   ⟨alive (powered [(LN_STAT.DEGRADED 3, 1)]), by decide +kernel⟩⟩

theorem witness_the_write_journal :
    (∃ (s : State) (g : Group) (rest : List Group), s.live = true ∧ s.map.groups = g :: rest ∧ s.mapReady = true ∧ s.journalAdmits = true ∧ s.dataRoom g.data.length = true ∧ s.paceOk g.data.length = true) ∧
    (∃ (s : State), s.live = true ∧ s.journalAdmits = false) ∧
    (∃ (s : State) (l : JLine) (rest : List JLine), s.live = true ∧ s.map.issue = l :: rest ∧ s.journalAdmits = true ∧ s.needsPage = true) ∧
    (∃ (s : State) (l : JLine) (rest : List JLine), s.live = true ∧ s.map.issue = l :: rest ∧ s.journalAdmits = true ∧ s.needsPage = false) ∧
    (∃ (_s : State) (_g : Nat) (n : Nat) (_ns : Nat) (_p : Nat) (_ms : List Move) (_o : Option CmdRef) (_la : Bool) (_res : Nat) (_rest : List JLine), n < 17) ∧
    (∃ (s : State) (ms : List Move) (_o : Option CmdRef) (_la : Bool) (_res : Nat) (_rest : List JLine), s.liveMoves ms = []) ∧
    (∃ (s : State), s.live = true) :=
  ⟨⟨alive ({ mapped [(MJ_STAT.ADMIT, 1)] with map := { State.reset.map with groups := [⟨none, 7, 1, 1, none, [zeros 8], true, 0⟩] } }), ⟨none, 7, 1, 1, none, [zeros 8], true, 0⟩, [], by decide +kernel⟩,
   ⟨alive ({ mapped [] with map := { State.reset.map with groups := [⟨none, 7, 1, 1, none, [zeros 8], true, 0⟩], issue := [page0] } }), by decide +kernel⟩,
   ⟨alive ({ mapped [(MJ_STAT.ADMIT, 1)] with map := { State.reset.map with issue := [page0] } }), page0, [], by decide +kernel⟩,
   ⟨alive ({ mapped [(MJ_STAT.ADMIT, 1)] with map := { State.reset.map with issue := [page0], recLine := 3 } }), page0, [], by decide +kernel⟩,
   ⟨{ mapped [(MJ_STAT.ADMIT, 1)] with map := { State.reset.map with issue := [page0], recLine := 3 } }, 7, 1, 1, 1, [], none, false, 0, [], by decide +kernel⟩,
   ⟨mapped [], [⟨3, .media 1 0, .media 2 0⟩], none, false, 0, [], by decide +kernel⟩,
   ⟨alive (mapped [(GA_CTL.ARMED 5, 1), (GA_CTL.SRC 5, 11), (MP_JFREE.FREE, 77)]), by decide +kernel⟩⟩

theorem witness_placement_and_cleaning :
    (∃ (s : State), s.live = true ∧ s.mapReady = true) ∧
    (∃ (s : State) (k : Nat), s.map.moving ≠ [] ∧ ((∀ x ∈ s.map.moving, s.entry x.1 = x.2.1)) ∧ ((∀ x ∈ s.map.moving, (s.map.moving.filter (fun y => y.1 == x.1)).length = 1)) ∧ s.driveSets.find? (fun j => (s.bandSet j).use == 1 && s.setUsable (s.bandSet j)) = some k ∧ (s.bandSet k).skip = [] ∧ (s.bandSet k).width = 4 ∧ (s.bandSet k).cursor / 4 < s.nStripes k (s.bandSet k) ∧ s.flightFull k = false ∧ (s.bandSet k).cursor % 4 < 2) ∧
    (∃ (s : State) (k : Nat), s.live = true ∧ s.mapReady = true ∧ s.bit MP_STAT.COUNTING = false ∧ s.map.victim = none ∧ s.victim? = some k) ∧
    (∃ (s : State) (k : Nat) (p : Nat) (rest : List Nat) (f : Frame), s.live = true ∧ s.map.victim = some (k, p :: rest) ∧ s.contribOn = false ∧ s.extents = [] ∧ s.frameOrRestored p = some f ∧ f.kind = 0) ∧
    (∃ (s : State) (k : Nat), s.live = true ∧ s.mapReady = true ∧ s.mayRelease k = true ∧ s.setFree k = true) ∧
    (∃ (s : State), s.live = true ∧ s.mapReady = true ∧ s.bit MP_STAT.COUNTING = true) :=
  ⟨⟨alive ({ mapped [] with map := { State.reset.map with pend := [7], map := [(7, .journal 1)], bandsets := [(0, set0 .open)] } }), by decide +kernel⟩,
   ⟨{ mapped [] with map := { State.reset.map with moving := [(7, .media 3 0, zeros 8)], map := [(7, .media 3 0)], bandsets := [(0, { set0 .open with use := 1 })] } }, 0, by decide +kernel⟩,
   ⟨alive ({ mapped [] with map := { State.reset.map with bandsets := [(0, set0 .full), (1, set0 .full)] } }), 0, by decide +kernel⟩,
   ⟨alive ({ mapped [] with map := { State.reset.map with victim := some (0, [1, 2]), media := [(1, some ⟨0, 0, 0, []⟩)] } }), 0, 1, [2], ⟨0, 0, 0, []⟩, by decide +kernel⟩,
   ⟨alive ({ mapped [] with map := { State.reset.map with bandsets := [(0, set0 .cleaning)], victim := some (0, []) } }), 0, by decide +kernel⟩,
   ⟨alive ({ mapped [(MP_STAT.COUNTING, 1)] with map := { State.reset.map with bandsets := [(0, set0 .full)] } }), by decide +kernel⟩⟩

theorem witness_checkpoints_and_rebuild :
    (∃ (s : State) (k : Nat), s.live = true ∧ s.mapReady = true ∧ s.nextSegment = some k) ∧
    (∃ (s : State) (k : Nat), s.live = true ∧ s.mapReady = true ∧ (s.seg k).phase = 1 ∧ s.isServing .DA = true) ∧
    (∃ (s : State) (k : Nat), s.live = true ∧ s.mapReady = true ∧ (s.seg k).phase = 2 ∧ s.isServing .DB = true) ∧
    (∃ (s : State), s.live = true ∧ s.mapReady = true ∧ s.map.rootDirty = true ∧ (s.map.issue.all (fun l => match l.body with | .root _ _ _ => false | _ => true)) = true) ∧
    (∃ (s : State) (_rb : List Nat) (_cb : List (Nat × Nat)) (_lb : List Nat) (_sb : List (Nat × Nat)), s.live = true ∧ s.fld MP_STAT.STATE = 1 ∧ s.map.rebuilding = false ∧ s.actSettled .A = true ∧ s.actSettled .B = true ∧ (s.svState .A = svFollowing ∨ s.svState .B = svFollowing)) ∧
    (∃ (s : State) (_ck : Nat) (_ap : Nat), s.live = true ∧ s.fld MP_STAT.STATE = 2 ∧ s.map.rebuilding = true ∧ s.activeReady = true) :=
  ⟨⟨alive ({ mapped [] with map := { State.reset.map with segs := [(3, { Segment.empty with copy0 := some (5, []) })] } }), 3, by decide +kernel⟩,
   ⟨alive ({ mapped [] with map := { State.reset.map with segs := [(3, { Segment.empty with phase := 1, imgSeq := 5 })] } }), 3, by decide +kernel⟩,
   ⟨alive ({ mapped [] with map := { State.reset.map with segs := [(3, { Segment.empty with phase := 2, imgSeq := 5 })] } }), 3, by decide +kernel⟩,
   ⟨alive ({ mapped [] with map := { State.reset.map with rootDirty := true } }), by decide +kernel⟩,
   ⟨alive ((mapped []).setFld MP_STAT.STATE 1), [], [], [], [], by decide +kernel⟩,
   ⟨alive ({ (mapped [(SP_STAT.STATE, 5)]).setFld MP_STAT.STATE 2 with map := { State.reset.map with rebuilding := true } }), 5, 7, by decide +kernel⟩⟩

theorem witness_stripes_and_their_journal :
    (∃ (s : State) (k : Nat) (st : Nat) (x : Stripe), s.live = true ∧ s.stripe? k st = some x ∧ x.parity = false ∧ s.dataFixed x = true ∧ ((∀ m ∈ x.members, m.2.1.slots.length = 4))) ∧
    (∃ (s : State) (k : Nat) (st : Nat) (x : Stripe), s.live = true ∧ s.stripe? k st = some x ∧ (x.parity = true ∨ s.dataFixed x = false)) ∧
    (∃ (s : State) (k : Nat) (st : Nat) (rest : List SjBody), s.live = true ∧ s.tier.queue = .open k st :: rest ∧ s.journalAdmits = true ∧ sjStep s.tier.next ≠ s.tier.head) ∧
    (∃ (s : State) (b : SjBody) (rest : List SjBody), s.live = true ∧ s.tier.queue = b :: rest ∧ s.journalAdmits = true) ∧
    (∃ (s : State), s.live = true ∧ s.journalAdmits = false) :=
  ⟨⟨alive ({ mapped [] with map := { State.reset.map with bandsets := [(0, set0 .open)] }, tier := { State.reset.tier with stripes := [stripe1] } }), 0, 0, stripe1, by decide +kernel⟩,
   ⟨alive ({ mapped [] with tier := { State.reset.tier with stripes := [{ stripe1 with parity := true }] } }), 0, 0, { stripe1 with parity := true }, by decide +kernel⟩,
   ⟨alive ({ mapped [(MJ_STAT.ADMIT, 1)] with tier := { State.reset.tier with queue := [.open 0 0], stripes := [{ stripe1 with opened := false }] } }), 0, 0, [], by decide +kernel⟩,
   ⟨alive ({ mapped [(MJ_STAT.ADMIT, 1)] with tier := { State.reset.tier with queue := [.surface 3 1], sj := [⟨1, .surface 3 2, 64⟩] } }), .surface 3 1, [], by decide +kernel⟩,
   ⟨alive ({ mapped [(MJ_STAT.ADMIT, 0)] with tier := { State.reset.tier with queue := [.surface 3 1] } }), by decide +kernel⟩⟩

theorem witness_reconstruction_and_rebuild :
    (∃ (s : State) (p : Nat) (k : Nat) (st : Nat) (m : Nat) (r : Recon) (rs : List Recon), s.live = true ∧ s.tier.recons.filter (fun x => x.pfn == p) = r :: rs ∧ s.stripeOf p = some (k, st, m) ∧ (s.restoreStripe k st).isSome = true) ∧
    (∃ (s : State) (r : Rebuild) (rest : List Rebuild), s.live = true ∧ s.tier.rebuilds = r :: rest ∧ s.mapReady = true ∧ s.bit PX_STAT.PAUSED = false ∧ s.bothServing = true ∧ s.pickRebuild r = none ∧ s.membersLeft r.surf = 0 ∧ s.tier.reloc.all (fun e => e.surf != r.surf) = true) ∧
    (∃ (s : State) (r : Rebuild) (rest : List Rebuild) (k : Nat) (st : Nat), s.live = true ∧ s.tier.rebuilds = r :: rest ∧ s.mapReady = true ∧ s.bit PX_STAT.PAUSED = false ∧ s.bothServing = true ∧ s.pickRebuild r = some (k, st) ∧ (s.restoreStripe k st).isSome = true ∧ r.copy = false ∧ (s.relocateLost k st ((s.restoreStripe k st).getD [])).tier.reloc.length = s.tier.reloc.length + 1 ∧ (s.relocateLost k st ((s.restoreStripe k st).getD [])).map.moving.length = s.map.moving.length) ∧
    (∃ (s : State) (r : Rebuild) (rest : List Rebuild), s.live = true ∧ s.tier.rebuilds = r :: rest ∧ s.bit PX_STAT.PAUSED = false) ∧
    (∃ (s : State) (_bad : List Nat) (_seen : List (Nat × List Byte)), s.live = true ∧ s.patrolNext = none ∧ s.mapReady = true) ∧
    (∃ (s : State) (k : Nat) (st : Nat) (bad : List Nat), s.live = true ∧ s.patrolNext = some (k, st) ∧ s.mapReady = true ∧ s.throttled = false ∧ s.thermalDown = false ∧ bad.all (fun m => decide ((s.memberPfns k st).length ≤ m)) = true ∧ (s.memberPfns k st).all (fun p => (s.frame? p).isSome) = false) ∧
    (∃ (s : State) (_ha : Nat) (_hb : Nat), s.live = true ∧ s.mapReady = true ∧ s.tier.rebuilds = [] ∧ s.bit PL_STAT.REBUILD = false) ∧
    (∃ (s : State) (_h : Nat), s.policy 1 1 + s.policy 2 1 ≤ 90) :=
  ⟨⟨alive (lostCase), 1, 0, 0, 0, ⟨1, none, false⟩, [], by decide +kernel⟩,
   ⟨alive ({ mapped [] with tier := { State.reset.tier with rebuilds := [⟨1, false, 0, 0⟩] } }), ⟨1, false, 0, 0⟩, [], by decide +kernel⟩,
   ⟨alive (lostCase), ⟨0, false, 0, 0⟩, [], 0, 0, by decide +kernel⟩,
   ⟨alive ({ mapped [] with tier := { State.reset.tier with rebuilds := [⟨1, false, 4, 2⟩] } }), ⟨1, false, 4, 2⟩, [], by decide +kernel⟩,
   ⟨alive ((mapped []).setFld PX_PATROL.ACTIVE 1), [], [], by decide +kernel⟩,
   ⟨alive ({ mapped [] with map := { State.reset.map with bandsets := [(0, { set0 .full with cursor := 64 })] } }), 0, 0, [5], by decide +kernel⟩,
   ⟨alive (mapped []), 300, 900, by decide +kernel⟩,
   ⟨mapped [], 300, by decide +kernel⟩⟩

theorem witness_a_stripe_restores_its_lost_members : ∃ (len : Nat) (ds : List (List Byte)) (x : Nat) (y : Nat), ((∀ d ∈ ds, d.length = len)) ∧ ds.length ≤ 28 ∧ x < ds.length ∧ y < ds.length :=
  ⟨1, [[3], [5], [77]], 2, 0, by decide +kernel⟩

theorem witness_pool_network :
    (∃ (s : State) (h : EwHdr) (_i : List Byte) (_id : Option Nat) (_role : Nat), s.live = true ∧ s.poolOn = true ∧ (h.reply && h.status == 1) = false ∧ h.dstGen ≠ 0 ∧ h.dstGen ≠ s.plGen) ∧
    (∃ (s : State) (h : EwHdr) (_i : List Byte) (_d : List Byte), s.live = true ∧ s.poolOn = true ∧ (h.reply && h.status == 1) = false ∧ h.dstGen ≠ 0 ∧ h.dstGen ≠ s.plGen) ∧
    (∃ (s : State) (h : EwHdr) (_i : List Byte) (_id : Option Nat) (_role : Nat) (g : EwFrame), s.live = true ∧ s.poolOn = true ∧ h.reply = true ∧ h.status = 1 ∧ s.staleOf h 1 = some g) ∧
    (∃ (s : State) (_h : EwHdr) (_i : List Byte) (_id : Option Nat) (_role : Nat) (_n : Nat) (_es : List (List Byte × Nat × Nat × Nat)) (_c : EwCell) (_a : Nat) (_b : Nat) (_w : Nat) (_d : List Byte) (_l : List Nat), s.live = true ∧ s.poolOn = false) ∧
    (∃ (s : State) (port : Nat) (_toff : Int) (_err : Int), s.live = true ∧ s.poolOn = true ∧ port = s.ptpPort) ∧
    (∃ (s : State), s.live = true ∧ s.poolOn = true) ∧
    (∃ (s : State), s.live = true ∧ (s.bit PL_PTP.LOCKED = true ∨ s.bit PL_STAT.HOLDOVER = true)) ∧
    (∃ (s : State) (port : Nat) (_up : Bool), s.live = true ∧ port < 2) ∧
    (∃ (s : State) (_port : Nat), s.live = true ∧ s.poolOn = true) ∧
    (∃ (s : State) (_port : Nat), s.live = true ∧ s.poolOn = true) ∧
    (∃ (s : State) (_port : Nat), s.live = true ∧ s.poolOn = true) ∧
    (∃ (s : State), s.live = true ∧ s.isServing .DP = true) :=
  ⟨⟨alive (pooled []), { hdr 2 with dstGen := 9 }, [], none, 0, by decide +kernel⟩,
   ⟨alive (pooled []), { hdr 2 with dstGen := 9 }, [], [], by decide +kernel⟩,
   ⟨alive ({ (pooled []) with pool := { (pooled []).pool with out := [.ewerid ⟨0, 1, 2, 0, 0, 77, false, false, 0, 1, 4, 6, []⟩] } }), { hdr 2 with reply := true, status := 1 }, [], none, 0, ⟨0, 1, 2, 0, 0, 77, false, false, 0, 1, 4, 6, []⟩, by decide +kernel⟩,
   ⟨alive (powered []), hdr 2, [], none, 0, 1, [], cellA, 0, 0, 0, [], [], by decide +kernel⟩,
   ⟨alive (pooled []), 0, -5, 900, by decide +kernel⟩,
   ⟨alive (pooled [(PL_PTP.LOCKED, 1)]), by decide +kernel⟩,
   ⟨alive (pooled [(PL_PTP.LOCKED, 1)]), by decide +kernel⟩,
   ⟨alive (pooled []), 0, false, by decide +kernel⟩,
   ⟨alive (pooled []), 1, by decide +kernel⟩,
   ⟨alive (pooled []), 1, by decide +kernel⟩,
   ⟨alive (pooled []), 1, by decide +kernel⟩,
   ⟨alive (pooled []), by decide +kernel⟩⟩

theorem witness_pool_start :
    (∃ (s : State) (h : EwHdr) (_i : List Byte) (id : Option Nat) (_role : Nat), s.live = true ∧ s.ewTakes h = true ∧ id ≠ some s.plId) ∧
    (∃ (s : State), s.live = true ∧ s.poolOn = true ∧ s.plState = plRollCall ∧ s.pool.slot.isSome = true) ∧
    (∃ (s : State), s.live = true ∧ s.poolOn = true ∧ s.plState = plRollCall ∧ s.leaderElect = false) ∧
    (∃ (s : State), s.live = true ∧ s.poolOn = true ∧ s.plState = plRollCall ∧ s.leaderElect = true) ∧
    (∃ (s : State) (h : EwHdr) (_shard : Nat), s.live = true ∧ s.ewTakes h = true) ∧
    (∃ (s : State) (h : EwHdr) (_es : List (List Byte × Nat × Nat × Nat)), s.live = true ∧ s.ewTakes h = true ∧ s.pool.hasId = true ∧ s.fld PL_STAT.ROLE ≠ 2) ∧
    (∃ (s : State) (h : EwHdr) (ep : Nat) (part : Nat) (np : Nat) (_ids : List (Nat × Bool)), s.live = true ∧ s.ewTakes h = true ∧ s.pool.partEpoch = ep ∧ ((List.range np).all (fun k => k == part || s.pool.parts.any (fun x => x.1 == k))) = false) ∧
    (∃ (s : State) (h : EwHdr) (ep : Nat) (_ids : List (Nat × Bool)), s.live = true ∧ s.ewTakes h = true ∧ s.pool.partEpoch = ep ∧ s.pool.parts = []) ∧
    (∃ (s : State) (h : EwHdr) (ep : Nat) (ids : List (Nat × Bool)) (sts : List (Nat × Bool)), s.live = true ∧ s.ewTakes h = true ∧ s.pool.partEpoch = ep ∧ s.pool.parts = [(0, ids)] ∧ sts.length = ids.length ∧ ids.length ≤ 2048) ∧
    (∃ (s : State) (h : EwHdr), s.live = true ∧ s.ewTakes h = true ∧ s.pool.claim = some h.xid ∧ h.src ∉ s.pool.votes ∧ 2 * (s.pool.votes.length + 1) ≤ s.pool.hellos.length) ∧
    (∃ (s : State) (h : EwHdr), s.live = true ∧ s.ewTakes h = true ∧ s.pool.claim = some h.xid ∧ h.src ∉ s.pool.votes ∧ s.pool.hellos.length < 2 * (s.pool.votes.length + 1) ∧ s.plState = plElecting ∧ s.pool.hasId = true ∧ s.poolCfg 8 1 = 0) ∧
    (∃ (s : State), s.live = true ∧ s.poolOn = true ∧ s.plState = plElecting) :=
  ⟨⟨alive (pooled [(PL_STAT.STATE, 1)]), hdr 2, [5], some 2, 0, by decide +kernel⟩,
   ⟨alive ({ (pooled [(PL_STAT.STATE, 1)]) with pool := { (pooled []).pool with slot := some 3 } }), by decide +kernel⟩,
   ⟨alive ({ (pooled [(PL_STAT.STATE, 1)]) with pool := { (pooled []).pool with hellos := [⟨[1], some 2, 1⟩] } }), by decide +kernel⟩,
   ⟨alive (pooled [(PL_STAT.STATE, 1), (PL_STAT.ROLE, 1)]), by decide +kernel⟩,
   ⟨alive (pooled [(PL_STAT.STATE, 2)]), hdr 2, 0, by decide +kernel⟩,
   ⟨alive (pooled []), hdr 2, [([5], 3, 9, 0)], by decide +kernel⟩,
   ⟨alive ({ (pooled [(PL_STAT.STATE, 3)]) with pool := { (pooled []).pool with partEpoch := 9 } }), hdr 2, 9, 0, 2, [(1, false)], by decide +kernel⟩,
   ⟨alive ({ (pooled [(PL_STAT.STATE, 3)]) with pool := { (pooled []).pool with partEpoch := 9 } }), hdr 2, 9, [(1, false), (2, true)], by decide +kernel⟩,
   ⟨alive ({ (pooled [(PL_STAT.STATE, 3)]) with pool := { (pooled []).pool with partEpoch := 9, parts := [(0, [(1, false), (2, false)])] } }), hdr 2, 9, [(1, false), (2, false)], [(0, false), (0, true)], by decide +kernel⟩,
   ⟨alive ({ (pooled [(PL_STAT.STATE, 2)]) with pool := { (pooled []).pool with claim := some 77, hellos := [⟨[1], some 2, 0⟩, ⟨[2], some 3, 0⟩, ⟨[3], some 4, 0⟩, ⟨[4], some 5, 0⟩] } }), hdr 2, by decide +kernel⟩,
   ⟨alive ({ (pooled [(PL_STAT.STATE, 2)]) with pool := { (pooled []).pool with claim := some 77, hellos := [⟨[1], some 2, 0⟩], leaders := [(3, 3000)], rosters := [(3000, [])] } }), hdr 2, by decide +kernel⟩,
   ⟨alive (pooled [(PL_STAT.STATE, 2)]), by decide +kernel⟩⟩

theorem witness_pool_failures :
    (∃ (s : State) (h : EwHdr) (st : Nat) (_roles : List (Nat × Nat)), s.live = true ∧ s.ewTakes h = true ∧ (st ≠ plServing ∨ s.memberFailed h.src = false)) ∧
    (∃ (s : State) (h : EwHdr) (_roles : List (Nat × Nat)), s.live = true ∧ s.ewTakes h = true ∧ s.memberFailed h.src = true) ∧
    (∃ (s : State), s.live = true ∧ s.poolOn = true ∧ plReconciling ≤ s.plState ∧ s.plState ≤ plStandby ∧ s.fld PL_STAT.ROLE = 0) ∧
    (∃ (s : State) (id : Nat) (m : PoolMember), s.live = true ∧ s.pool.members.find? (fun m => m.id == id) = some m ∧ s.poolOn = true ∧ m.failed = false ∧ id ≠ s.plId ∧ m.away ≤ s.tick ∧ (m.heard.isSome = true ∨ secTicks 300 ≤ s.tick) ∧ id = s.fld PL_LEADER.SHARD ∧ shardOf id = s.myShard) ∧
    (∃ (s : State) (id : Nat) (m : PoolMember), s.live = true ∧ s.pool.members.find? (fun m => m.id == id) = some m ∧ s.poolOn = true ∧ m.failed = false ∧ id ≠ s.plId ∧ m.away ≤ s.tick ∧ (m.heard.isSome = true ∨ secTicks 300 ≤ s.tick) ∧ id ≠ s.fld PL_LEADER.SHARD ∧ id ≠ s.fld PL_LEADER.HEAD ∧ s.plLeads = true ∧ shardOf id = s.myShard) ∧
    (∃ (s : State) (id : Nat), s.live = true ∧ s.poolOn = true ∧ s.pool.probing.contains id = true ∧ id ≠ s.plId ∧ s.memberFailed id = false ∧ s.pool.held = []) ∧
    (∃ (s : State) (h : EwHdr) (id : Nat) (_g : Nat) (_cause : Nat), s.live = true ∧ s.ewTakes h = true ∧ id ≠ s.plId ∧ s.memberFailed id = false ∧ s.pool.held = []) ∧
    (∃ (s : State) (h : EwHdr) (id : Nat) (_g : Nat) (_cause : Nat), s.live = true ∧ s.ewTakes h = true ∧ id = s.plId ∧ s.plState = plServing ∧ s.pool.pairs = []) ∧
    (∃ (s : State) (h : EwHdr) (ret : Nat), s.live = true ∧ s.ewTakes h = true ∧ ret ≠ 0) :=
  ⟨⟨alive (pooled []), hdr 2, 7, [], by decide +kernel⟩,
   ⟨alive ({ (pooled [(PL_STAT.SPAREOUT, 1)]) with pool := { (pooled []).pool with members := [⟨1, false, 4, 5, none, 0, []⟩, ⟨2, true, 3, 5, none, 0, []⟩, ⟨3, false, 2, 5, none, 0, []⟩] } }), hdr 2, [], by decide +kernel⟩,
   ⟨alive (pooled []), by decide +kernel⟩,
   ⟨alive ({ pooled [(PL_LEADER.SHARD, 2)] with tick := 10000000000 }), 2, ⟨2, false, 3, 5, none, 0, []⟩, by decide +kernel⟩,
   ⟨alive ({ pooled [(PL_STAT.ROLE, 1)] with tick := 10000000000 }), 2, ⟨2, false, 3, 5, none, 0, []⟩, by decide +kernel⟩,
   ⟨alive ({ (pooled [(PL_STAT.ROLE, 1)]) with pool := { (pooled []).pool with probing := [2] } }), 2, by decide +kernel⟩,
   ⟨alive (pooled []), hdr 2, 3, 9, 2, by decide +kernel⟩,
   ⟨alive (pooled []), hdr 2, 1, 9, 2, by decide +kernel⟩,
   ⟨alive (pooled []), hdr 2, 60, by decide +kernel⟩⟩

theorem witness_pool_contributions :
    (∃ (s : State) (h : EwHdr) (c : EwCell) (_pos : Nat) (op : Nat) (wseq : Nat) (_d : List Byte), s.live = true ∧ s.ewTakes h = true ∧ s.holder c.group s.pdata = some s.plId ∧ s.pool.held.any (fun y => y.c.same ⟨c.group, c.row, c.cell, op, 0⟩ && y.writer == h.src && y.wseq == wseq) = false) ∧
    (∃ (s : State) (h : EwHdr) (c : EwCell) (_pos : Nat) (op : Nat) (wseq : Nat) (_d : List Byte) (y : HeldC), s.live = true ∧ s.ewTakes h = true ∧ s.holder c.group s.pdata = some s.plId ∧ s.pool.held.find? (fun y => y.c.same ⟨c.group, c.row, c.cell, op, 0⟩ && y.writer == h.src && y.wseq == wseq) = some y ∧ y.halves.any (fun z => z.1 == c.half) = true ∧ y.durable = false) ∧
    (∃ (s : State) (h : EwHdr) (c : EwCell) (_pos : Nat) (_op : Nat) (_wseq : Nat) (_d : List Byte), s.live = true ∧ s.ewTakes h = true ∧ s.holder c.group (s.pdata + 1) = some s.plId) ∧
    (∃ (s : State) (h : EwHdr) (c : EwCell) (y : HeldC), s.live = true ∧ s.ewTakes h = true ∧ s.pool.held.find? (fun y => y.durable && y.xidOut == h.xid && y.c.group == c.group && y.c.row == c.row && y.c.cell == c.cell) = some y ∧ y.acks.length = 1 ∧ y.acks.contains c.half = false) ∧
    (∃ (s : State) (h : EwHdr) (c : EwCell) (o : OpenC), s.live = true ∧ s.ewTakes h = true ∧ s.pool.held = [] ∧ s.pool.opens.find? (fun o => o.xid == h.xid && o.c.group == c.group && o.c.row == c.row && o.c.cell == c.cell) = some o ∧ o.acks = []) ∧
    (∃ (s : State) (h : EwHdr) (c : EwCell) (o : OpenC), s.live = true ∧ s.ewTakes h = true ∧ s.pool.held = [] ∧ s.pool.waiting = [] ∧ s.pool.mine = [] ∧ s.pool.opens.find? (fun o => o.xid == h.xid && o.c.group == c.group && o.c.row == c.row && o.c.cell == c.cell) = some o ∧ o.acks.length = 1 ∧ o.acks.contains c.half = false) ∧
    (∃ (s : State) (g : Nat) (r : Nat) (c : Nat) (op : Nat) (o : OpenC), s.live = true ∧ s.pool.opens.find? (fun o => o.c.group == g && o.c.row == r && o.c.cell == c && o.c.op == op) = some o ∧ s.poolOn = true ∧ 2 ≤ o.tries) ∧
    (∃ (s : State) (g : Nat) (r : Nat) (c : Nat) (op : Nat) (o : OpenC), s.live = true ∧ s.pool.opens.find? (fun o => o.c.group == g && o.c.row == r && o.c.cell == c && o.c.op == op) = some o ∧ s.poolOn = true ∧ o.tries < 2) ∧
    (∃ (s : State) (h : EwHdr) (_c : EwCell) (_wseq : Nat) (_st : Nat), s.live = true ∧ s.ewTakes h = true ∧ h.reply = false ∧ s.pool.held = [] ∧ (s.tier.sj.all (fun r => match r.body with | .held _ _ _ _ => false | _ => true)) = true) ∧
    (∃ (s : State) (h : EwHdr) (_r : List Byte) (_d : List Byte), s.live = true ∧ s.ewTakes h = true) ∧
    (∃ (s : State) (h : EwHdr) (_seqs : List Nat), s.live = true ∧ s.ewTakes h = true) ∧
    (∃ (s : State), s.live = true ∧ s.pool.pairs ≠ [] ∧ s.pool.pairs.all (fun w => w.owner.isNone) = true ∧ s.featPool = true) :=
  ⟨⟨alive (pooled []), { hdr 2 with dstGen := 4 }, { cellA with group := 2 }, 0, 0, 55, [1, 2], by decide +kernel⟩,
   ⟨alive ({ (pooled []) with pool := { (pooled []).pool with held := [heldA] } }), { hdr 2 with dstGen := 4 }, { cellA with group := 2 }, 0, 0, 55, [1, 2], heldA, by decide +kernel⟩,
   ⟨alive (pooled []), hdr 2, { cellA with group := 1 }, 0, 0, 55, [1, 2], by decide +kernel⟩,
   ⟨alive ({ (pooled []) with pool := { (pooled []).pool with held := [{ heldA with durable := true, xidOut := 77, acks := [0] }] } }), hdr 3, { cellA with group := 2 }, { heldA with durable := true, xidOut := 77, acks := [0] }, by decide +kernel⟩,
   ⟨alive ({ (pooled []) with pool := { (pooled []).pool with opens := [openA] } }), hdr 3, cellA, openA, by decide +kernel⟩,
   ⟨alive ({ (pooled []) with pool := { (pooled []).pool with opens := [{ openA with acks := [0] }] } }), hdr 3, cellA, { openA with acks := [0] }, by decide +kernel⟩,
   ⟨alive ({ (pooled [(PL_LEADER.SHARD, 2)]) with pool := { (pooled []).pool with opens := [{ openA with tries := 2 }] } }), 0, 3, 5, 0, { openA with tries := 2 }, by decide +kernel⟩,
   ⟨alive ({ (pooled []) with pool := { (pooled []).pool with opens := [openA] } }), 0, 3, 5, 0, openA, by decide +kernel⟩,
   ⟨alive (pooled []), hdr 3, cellA, 9, 0, by decide +kernel⟩,
   ⟨alive (pooled []), hdr 2, zeros 64, [9], by decide +kernel⟩,
   ⟨alive ({ (pooled []) with pool := { (pooled []).pool with retained := [(2, zeros 64, [9])] } }), hdr 2, [0], by decide +kernel⟩,
   ⟨alive ({ (pooled []) with pool := { (pooled []).pool with pairs := [⟨none, true, 0, [77]⟩] } }), by decide +kernel⟩⟩

theorem witness_pool_cell_reads :
    (∃ (s : State) (h : EwHdr) (_c : EwCell) (_pos : Nat), s.live = true ∧ s.ewTakes h = true) ∧
    (∃ (s : State) (g : Nat) (r : Nat) (c : Nat) (hf : Nat), s.holder g s.pdata = some s.plId ∧ SMap.get (fun _ => []) s.pool.parity (cellKey g r c hf) = []) ∧
    (∃ (s : State) (h : EwHdr) (c : EwCell) (pos : Nat) (_d : List Byte) (x : CellRead), s.live = true ∧ s.ewTakes h = true ∧ s.power.standbyPending = false ∧ s.pool.reads.find? (fun x => x.group == c.group && x.row == c.row && x.cell == c.cell && x.half == c.half && x.target != pos) = some x ∧ x.purpose < 2 ∧ x.got = [] ∧ 3 ≤ s.poolW) ∧
    (∃ (s : State) (h : EwHdr) (c : EwCell) (pos : Nat) (_d : List Byte) (x : CellRead), s.live = true ∧ s.ewTakes h = true ∧ s.power.standbyPending = false ∧ s.pool.reads.find? (fun x => x.group == c.group && x.row == c.row && x.cell == c.cell && x.half == c.half && x.target != pos) = some x ∧ x.purpose = 2) ∧
    (∃ (s : State) (g : Nat) (r : Nat) (_c : Nat) (f : Nat) (tg : Nat), s.live = true ∧ s.pool.rebuildOf = some f ∧ s.poolOn = true ∧ s.substitute g = some s.plId ∧ s.spareRoom g r = true ∧ s.posIn? g f = some tg) ∧
    (∃ (s : State) (g : Nat) (r : Nat) (_c : Nat) (f : Nat), s.live = true ∧ s.pool.rebuildOf = some f ∧ s.poolOn = true ∧ s.substitute g = some s.plId ∧ s.spareRoom g r = false) :=
  ⟨⟨alive (pooled []), hdr 2, { cellA with group := 2 }, 1, by decide +kernel⟩,
   ⟨pooled [], 2, 3, 5, 1, by decide +kernel⟩,
   ⟨alive ({ (pooled []) with pool := { (pooled []).pool with reads := [⟨0, 3, 5, 1, 0, 0, 0, []⟩] } }), hdr 2, cellA, 1, [9], ⟨0, 3, 5, 1, 0, 0, 0, []⟩, by decide +kernel⟩,
   ⟨alive ({ (pooled []) with pool := { (pooled []).pool with reads := [⟨0, 3, 5, 1, 0, 2, 0, []⟩] } }), hdr 2, cellA, 1, [9], ⟨0, 3, 5, 1, 0, 2, 0, []⟩, by decide +kernel⟩,
   ⟨alive ({ (pooled []) with pool := { (pooled []).pool with rebuildOf := some 2, spare := [(cellKey 2 3 0 0, [1])], members := [⟨1, false, 4, 5, none, 0, []⟩, ⟨2, true, 3, 5, none, 0, []⟩, ⟨3, false, 2, 5, none, 0, []⟩, ⟨4, false, 2, 5, none, 0, []⟩] } }), 2, 3, 5, 2, 2, by decide +kernel⟩,
   ⟨alive ({ (pooled []) with pool := { (pooled []).pool with rebuildOf := some 2, members := [⟨1, false, 4, 5, none, 0, []⟩, ⟨2, true, 3, 5, none, 0, []⟩, ⟨3, false, 2, 5, none, 0, []⟩, ⟨4, false, 2, 5, none, 0, []⟩] } }), 2, 3, 5, 2, by decide +kernel⟩⟩

theorem witness_ring_states :
    (∃ (s : State) (r : Nat) (w : Word32), s.live = true ∧ r < 8 ∧ s.bit FB_STAT.BASENOTE = false ∧ s.fld (SR_STAT.STATE r) = rgDisabled ∧ (inRange ((SR_CFG.SQLOG r).ofWord w) 4 16 && inRange ((SR_CFG.CQLOG r).ofWord w) 4 16 && (s.fld (SR_SQBASE_LO.ADDR r) + 2 ^ 32 * s.fld (SR_SQBASE_HI.ADDR r)) % 4096 == 0 &&
      (s.fld (SR_CQBASE_LO.ADDR r) + 2 ^ 32 * s.fld (SR_CQBASE_HI.ADDR r)) % 4096 == 0) = true) ∧
    (∃ (s : State) (r : Nat) (w : Word32), s.live = true ∧ r < 8 ∧ s.bit FB_STAT.BASENOTE = false ∧ s.fld (SR_STAT.STATE r) = rgDisabled ∧ inRange ((SR_CFG.SQLOG r).ofWord w) 4 16 = false) ∧
    (∃ (s : State) (r : Nat) (_w : Word32), s.live = true ∧ r < 8 ∧ s.bit FB_STAT.BASENOTE = false ∧ s.fld (SR_STAT.STATE r) = rgEnabled) ∧
    (∃ (s : State) (r : Nat) (n : Nat), s.live = true ∧ r < 8 ∧ s.fld (SR_STAT.STATE r) = rgEnabled ∧ 1 ≤ n ∧ n ≤ 4 ∧ (s.ring r).sqHead = (s.ring r).tail) ∧
    (∃ (s : State) (r : Nat) (n : Nat), s.live = true ∧ r < 8 ∧ s.fld (SR_STAT.STATE r) = rgEnabled ∧ 1 ≤ n ∧ n ≤ 4 ∧ (s.ring r).sqHead ≠ (s.ring r).tail) ∧
    (∃ (s : State) (r : Nat) (tail : Nat) (_cq : Nat), s.live = true ∧ r < 8 ∧ s.fld (SR_STAT.STATE r) = rgEnabled ∧ tail < 2 ^ (s.ring r).sqlog ∧ (s.ring r).held = []) ∧
    (∃ (s : State) (r : Nat) (tail : Nat) (_cq : Nat), s.live = true ∧ r < 8 ∧ s.fld (SR_STAT.STATE r) = rgEnabled ∧ 2 ^ (s.ring r).sqlog ≤ tail ∧ (s.ring r).held = []) ∧
    (∃ (s : State) (r : Nat) (_tail : Nat) (_cq : Nat) (_ls : List (Nat × Bool × Bool)) (_e : Bool), s.live = true ∧ s.fld (SR_STAT.STATE r) = rgDisabled) ∧
    (∃ (s : State) (r : Nat) (b : List Byte) (_au : Option (List Byte)), s.live = true ∧ s.nextRing = some r ∧ (s.ring r).pushed = [] ∧ fetchFault (slice b 0 64) = none ∧ natBit (leAt b 1 1) 2 = false) ∧
    (∃ (s : State) (r : Nat) (b : List Byte) (_au : Option (List Byte)) (st : Nat), s.live = true ∧ s.nextRing = some r ∧ (s.ring r).pushed = [] ∧ (s.ring r).load < 62 ∧ fetchFault (slice b 0 64) = some st) ∧
    (∃ (s : State) (r : Nat) (d : RingDesc), s.live = true ∧ r < 8 ∧ s.fld (SR_STAT.STATE r) = rgDraining ∧ (s.ring r).descs = [d] ∧ d.waiting = false ∧ d.started = false) ∧
    (∃ (s : State) (r : Nat) (d : RingDesc), s.live = true ∧ r < 8 ∧ s.fld (SR_STAT.STATE r) = rgDraining ∧ (s.ring r).descs = [d] ∧ d.waiting = false ∧ d.started = true ∧ opMover d.opc = true ∧ d.loaded = false) ∧
    (∃ (s : State) (r : Nat) (d : RingDesc), s.live = true ∧ r < 8 ∧ s.fld (SR_STAT.STATE r) = rgDraining ∧ (s.ring r).descs = [d] ∧ d.waiting = false ∧ d.started = true ∧ opMover d.opc = true ∧ d.loaded = true) ∧
    (∃ (s : State) (r : Nat) (d : RingDesc), s.live = true ∧ r < 8 ∧ s.fld (SR_STAT.STATE r) = rgDraining ∧ (s.ring r).descs = [d] ∧ d.waiting = false ∧ d.started = true ∧ opMover d.opc = false) :=
  ⟨⟨alive (powered []), 2, 0x000C0C01, by decide +kernel⟩,
   ⟨alive (powered []), 2, 0x00000001, by decide +kernel⟩,
   ⟨alive (powered [(SR_STAT.STATE 2, 1), (SR_CFG.EN 2, 1)]), 2, 0, by decide +kernel⟩,
   ⟨alive (withDesc (powered []) (desc7 1 [])), 0, 2, by decide +kernel⟩,
   ⟨alive ((withDesc (powered []) (desc7 1 [])).modRing 0 (fun g => { g with tail := 3 })), 0, 2, by decide +kernel⟩,
   ⟨alive (withDesc (powered []) (desc7 1 [])), 0, 5, 0, by decide +kernel⟩,
   ⟨alive (withDesc (powered []) (desc7 1 [])), 0, 99, 0, by decide +kernel⟩,
   ⟨alive (powered []), 0, 5, 0, [], false, by decide +kernel⟩,
   ⟨alive (((powered []).setFld (SR_STAT.STATE 0) 1).modRing 0 (fun g => { g with sqlog := 4, cqlog := 4, tail := 3 })), 0, leBytes 1 3 ++ zeros 63, none, by decide +kernel⟩,
   ⟨alive (((powered []).setFld (SR_STAT.STATE 0) 1).modRing 0 (fun g => { g with sqlog := 4, cqlog := 4, tail := 3 })), 0, leBytes 1 0x77 ++ zeros 63, none, 1, by decide +kernel⟩,
   ⟨alive ((withDesc (powered []) (desc7 3 [])).setFld (SR_STAT.STATE 0) 2), 0, desc7 3 [], by decide +kernel⟩,
   ⟨alive ((withDesc (powered []) { desc7 1 [] with started := true }).setFld (SR_STAT.STATE 0) 2), 0, { desc7 1 [] with started := true }, by decide +kernel⟩,
   ⟨alive ((withDesc (powered []) { desc7 1 [] with started := true, loaded := true }).setFld (SR_STAT.STATE 0) 2), 0, { desc7 1 [] with started := true, loaded := true }, by decide +kernel⟩,
   ⟨alive ((withDesc (powered []) { desc7 6 [] with started := true }).setFld (SR_STAT.STATE 0) 2), 0, { desc7 6 [] with started := true }, by decide +kernel⟩⟩

theorem witness_ring_completions :
    (∃ (s : State) (r : Nat) (_c : RingCpl), s.fld (SR_STAT.STATE r) ≠ rgDisabled ∧ (s.ring r).cqFull = false ∧ (s.ring r).held = []) ∧
    (∃ (s : State) (r : Nat) (_c : RingCpl), s.fld (SR_STAT.STATE r) ≠ rgDisabled ∧ ((s.ring r).cqFull = true ∨ (s.ring r).held ≠ [])) ∧
    (∃ (s : State) (r : Nat) (_c : RingCpl), s.fld (SR_STAT.STATE r) = rgDisabled) ∧
    (∃ (s : State) (r : Nat) (tag : Nat) (_st : Nat) (_b : Option Nat) (d : RingDesc), s.desc? r tag = some d) ∧
    (∃ (s : State) (r : Nat) (tag : Nat) (d : RingDesc) (st : Nat) (reason : Nat) (_data : List Byte) (_f : MemFaults), s.live = true ∧ s.descReady r tag 0x02 d = true ∧ s.ringTurn r d = true ∧ d.signed = true ∧ s.authFails d.auth d.message 1 true = some (st, reason)) ∧
    (∃ (s : State) (r : Nat) (tag : Nat) (d : RingDesc) (st : Nat) (reason : Nat) (_img : List Byte) (_ok : Bool), s.live = true ∧ s.descReady r tag 0x09 d = true ∧ d.signed = true ∧ s.authFails d.auth d.message 1 true = some (st, reason)) ∧
    (∃ (s : State) (r : Nat) (tag : Nat) (d : RingDesc) (st : Nat) (reason : Nat), s.live = true ∧ s.descReady r tag 0x08 d = true ∧ d.signed = true ∧ s.authFails d.auth d.message 1 true = some (st, reason) ∧ s.mramAdmits = true) ∧
    (∃ (s : State) (r : Nat) (tag : Nat) (d : RingDesc) (st : Nat) (reason : Nat), s.live = true ∧ s.descReady r tag 0x05 d = true ∧ d.signed = true ∧ s.authFails d.auth d.message 1 true = some (st, reason)) ∧
    (∃ (s : State) (r : Nat) (tag : Nat) (d : RingDesc) (st : Nat) (reason : Nat), s.live = true ∧ s.descReady r tag 0x0D d = true ∧ d.signed = true ∧ s.authFails d.auth d.message 1 true = some (st, reason)) :=
  ⟨⟨withDesc (powered []) (desc7 1 []), 0, ⟨7, 0, false, 99, false⟩, by decide +kernel⟩,
   ⟨(withDesc (powered []) (desc7 1 [])).modRing 0 (fun g => { g with cqTail := 15 }), 0, ⟨7, 0, false, 99, false⟩, by decide +kernel⟩,
   ⟨powered [], 0, ⟨7, 0, false, 99, false⟩, by decide +kernel⟩,
   ⟨withDesc (powered []) (desc7 1 []), 0, 7, 3, none, desc7 1 [], by decide +kernel⟩,
   ⟨alive (withDesc (powered []) { desc7 2 [] with flags := 4 }), 0, 7, { desc7 2 [] with flags := 4 }, 3, 1, [], ⟨[], []⟩, by decide +kernel⟩,
   ⟨alive (withDesc (powered []) { desc7 9 [] with flags := 4 }), 0, 7, { desc7 9 [] with flags := 4 }, 3, 1, [], true, by decide +kernel⟩,
   ⟨alive (withDesc (powered [(MJ_STAT.ADMIT, 1)]) { desc7 8 [] with flags := 4 }), 0, 7, { desc7 8 [] with flags := 4 }, 3, 1, by decide +kernel⟩,
   ⟨alive (withDesc (powered []) { desc7 5 [] with flags := 4 }), 0, 7, { desc7 5 [] with flags := 4 }, 3, 1, by decide +kernel⟩,
   ⟨alive (withDesc (powered []) { desc7 0xD [] with flags := 4 }), 0, 7, { desc7 0xD [] with flags := 4 }, 3, 1, by decide +kernel⟩⟩

theorem witness_ring_transfers :
    (∃ (s : State) (r : Nat) (tag : Nat) (d : RingDesc) (_ok : Nat) (_bs : List ChainBlock) (_f : MemFaults), s.live = true ∧ s.descReady r tag 0x01 d = true ∧ s.descGo d = true ∧ s.ringTurn r d = true ∧ d.p 4 4 = 0) ∧
    (∃ (s : State) (r : Nat) (tag : Nat) (d : RingDesc) (ok : Nat) (_bs : List ChainBlock) (f : MemFaults), s.live = true ∧ s.descReady r tag 0x01 d = true ∧ s.descGo d = true ∧ s.ringTurn r d = true ∧ d.p 4 4 ≠ 0 ∧ d.own = false ∧ d.waiting = false ∧ d.loaded = false ∧ d.chained = false ∧ (s.ownSet r tag d ok [] f).2.2 = .done) ∧
    (∃ (s : State) (r : Nat) (tag : Nat) (d : RingDesc) (ok : Nat) (_bs : List ChainBlock) (f : MemFaults) (e : Nat), s.live = true ∧ s.descReady r tag 0x01 d = true ∧ s.descGo d = true ∧ s.ringTurn r d = true ∧ d.p 4 4 ≠ 0 ∧ d.own = false ∧ d.waiting = false ∧ d.loaded = false ∧ (s.ownSet r tag d ok [] f).2.2 = .ended e) ∧
    (∃ (s : State) (r : Nat) (tag : Nat) (d : RingDesc) (ok : Nat) (_bs : List ChainBlock) (f : MemFaults), s.live = true ∧ s.descReady r tag 0x01 d = true ∧ s.descGo d = true ∧ s.ringTurn r d = true ∧ d.p 4 4 ≠ 0 ∧ d.own = false ∧ d.waiting = false ∧ d.loaded = false ∧ (s.ownSet r tag d ok [] f).2.2 = .stalled) ∧
    (∃ (s : State) (r : Nat) (tag : Nat) (d : RingDesc) (data : List Byte) (_bs : List ChainBlock) (f : MemFaults), s.live = true ∧ s.descReady r tag 0x02 d = true ∧ s.descGo d = true ∧ s.ringTurn r d = true ∧ d.p 4 4 ≠ 0 ∧ d.own = false ∧ d.waiting = false ∧ d.loaded = false ∧ d.chained = false ∧ (s.ownSet r tag d data.length data f).2.2 = .done) ∧
    (∃ (s : State) (r : Nat) (tag : Nat) (d : RingDesc) (data : List Byte) (_bs : List ChainBlock) (f : MemFaults) (e : Nat), s.live = true ∧ s.descReady r tag 0x02 d = true ∧ s.descGo d = true ∧ s.ringTurn r d = true ∧ d.p 4 4 ≠ 0 ∧ d.own = false ∧ d.waiting = false ∧ d.loaded = false ∧ (s.ownSet r tag d data.length data f).2.2 = .ended e) ∧
    (∃ (s : State) (r : Nat) (tag : Nat) (d : RingDesc) (data : List Byte) (_bs : List ChainBlock) (f : MemFaults), s.live = true ∧ s.descReady r tag 0x02 d = true ∧ s.descGo d = true ∧ s.ringTurn r d = true ∧ d.p 4 4 ≠ 0 ∧ d.own = false ∧ d.waiting = false ∧ d.loaded = false ∧ (s.ownSet r tag d data.length data f).2.2 = .stalled) ∧
    (∃ (s : State) (r : Nat) (tag : Nat) (d : RingDesc) (_caps : List (List Byte)) (_ok : Bool), s.live = true ∧ s.descReady r tag 0x03 d = true ∧ s.descGo d = true ∧ d.p 0 4 + d.p 4 4 ≤ 131072 ∧ d.p 4 4 < 64) ∧
    (∃ (s : State) (r : Nat) (tag : Nat) (d : RingDesc) (_caps : List (List Byte)) (_ok : Bool), s.live = true ∧ s.descReady r tag 0x04 d = true ∧ s.descGo d = true ∧ s.present (d.p 0 1) = true ∧ d.p 4 4 < s.zn (d.p 0 1) (s.zoneOfTrack (d.p 0 1) (d.p 4 4)) 0 4 + s.zn (d.p 0 1) (s.zoneOfTrack (d.p 0 1) (d.p 4 4)) 4 4 ∧ d.p 8 2 + d.p 10 2 ≤ s.zn (d.p 0 1) (s.zoneOfTrack (d.p 0 1) (d.p 4 4)) 8 2 ∧ d.p 10 2 ≠ 0) ∧
    (∃ (s : State) (r : Nat) (tag : Nat) (d : RingDesc) (_caps : List (List Byte)) (_ok : Bool), s.live = true ∧ s.desc? r tag = some d ∧ d.opc = 0x04 ∧ d.started = true ∧ ((List.range' (d.p 8 2) (d.p 10 2)).all (fun f => (s.captureSince (d.p 0 1) (d.p 4 4) f d.fetchTick).isSome)) = true) ∧
    (∃ (s : State) (r : Nat) (tag : Nat) (d : RingDesc) (_ok : Bool), s.live = true ∧ s.descReady r tag 0x07 d = true ∧ s.descGo d = true) ∧
    (∃ (s : State) (r : Nat) (tag : Nat) (d : RingDesc), s.live = true ∧ s.descReady r tag 0x08 d = true ∧ s.descGo d = true ∧ s.mramAdmits = true) ∧
    (∃ (s : State) (_r : Nat) (_tag : Nat), s.live = true ∧ s.mramAdmits = false) :=
  ⟨⟨alive (withDesc (powered []) (desc7 1 (zeros 40))), 0, 7, desc7 1 (zeros 40), 0, [], ⟨[], []⟩, by decide +kernel⟩,
   ⟨alive ((withDesc (powered [(MJ_STAT.ADMIT, 1)]) (desc7 1 ([1, 0, 0, 0] ++ leBytes 4 64 ++ leBytes 8 0x2F800000 ++ leBytes 8 4096 ++ zeros 16))).putMram 0x2F800000 (zeros 64)), 0, 7, desc7 1 ([1, 0, 0, 0] ++ leBytes 4 64 ++ leBytes 8 0x2F800000 ++ leBytes 8 4096 ++ zeros 16), 64, [], ⟨[], []⟩, by decide +kernel⟩,
   ⟨alive (withDesc (powered [(MJ_STAT.ADMIT, 1)]) (desc7 1 ([1, 0, 0, 0] ++ leBytes 4 64 ++ zeros 32))), 0, 7, desc7 1 ([1, 0, 0, 0] ++ leBytes 4 64 ++ zeros 32), 64, [], ⟨[], []⟩, rsInvalidField, by decide +kernel⟩,
   ⟨alive ((withDesc (powered [(MJ_STAT.ADMIT, 1)]) (desc7 1 ([1, 0, 0, 0] ++ leBytes 4 64 ++ leBytes 8 0x2F800000 ++ leBytes 8 4096 ++ zeros 16))).dmGoto 57 dmRunning), 0, 7, desc7 1 ([1, 0, 0, 0] ++ leBytes 4 64 ++ leBytes 8 0x2F800000 ++ leBytes 8 4096 ++ zeros 16), 64, [], ⟨[], []⟩, by decide +kernel⟩,
   ⟨alive (withDesc (powered [(MJ_STAT.ADMIT, 1)]) (desc7 2 ([1, 0, 0, 0] ++ leBytes 4 64 ++ leBytes 8 0x2F800000 ++ leBytes 8 4096 ++ zeros 16))), 0, 7, desc7 2 ([1, 0, 0, 0] ++ leBytes 4 64 ++ leBytes 8 0x2F800000 ++ leBytes 8 4096 ++ zeros 16), zeros 64, [], ⟨[], []⟩, by decide +kernel⟩,
   ⟨alive (withDesc (powered [(MJ_STAT.ADMIT, 1)]) (desc7 2 ([1, 0, 0, 0] ++ leBytes 4 64 ++ zeros 32))), 0, 7, desc7 2 ([1, 0, 0, 0] ++ leBytes 4 64 ++ zeros 32), zeros 64, [], ⟨[], []⟩, rsInvalidField, by decide +kernel⟩,
   ⟨alive ((withDesc (powered [(MJ_STAT.ADMIT, 1)]) (desc7 2 ([1, 0, 0, 0] ++ leBytes 4 64 ++ leBytes 8 0x2F800000 ++ leBytes 8 4096 ++ zeros 16))).dmGoto 57 dmRunning), 0, 7, desc7 2 ([1, 0, 0, 0] ++ leBytes 4 64 ++ leBytes 8 0x2F800000 ++ leBytes 8 4096 ++ zeros 16), zeros 64, [], ⟨[], []⟩, by decide +kernel⟩,
   ⟨alive (withDesc (powered []) (desc7 3 (leBytes 4 5 ++ leBytes 4 2 ++ leBytes 8 4096 ++ zeros 24))), 0, 7, desc7 3 (leBytes 4 5 ++ leBytes 4 2 ++ leBytes 8 4096 ++ zeros 24), [], true, by decide +kernel⟩,
   ⟨alive (withDesc (mapped []) (desc7 4 ([0, 0, 0, 0] ++ leBytes 4 1 ++ leBytes 2 0 ++ leBytes 2 2 ++ zeros 28))), 0, 7, desc7 4 ([0, 0, 0, 0] ++ leBytes 4 1 ++ leBytes 2 0 ++ leBytes 2 2 ++ zeros 28), [], true, by decide +kernel⟩,
   ⟨alive (withDesc { mapped [] with decode := { State.reset.decode with index := [(0, some ⟨trackWord 0 1, 0, 0, 0, 3, 0, 256, 0, 0, 0, 0, 1, false, true, false, 900⟩)] } } { desc7 4 ([0, 0, 0, 0] ++ leBytes 4 1 ++ leBytes 2 0 ++ leBytes 2 1 ++ zeros 28) with started := true }), 0, 7, { desc7 4 ([0, 0, 0, 0] ++ leBytes 4 1 ++ leBytes 2 0 ++ leBytes 2 1 ++ zeros 28) with started := true }, [], true, by decide +kernel⟩,
   ⟨alive (withDesc (powered [(SL_NEXT.OFFSET, 128)]) (desc7 7 (zeros 4 ++ leBytes 4 64 ++ leBytes 8 4096 ++ zeros 24))), 0, 7, desc7 7 (zeros 4 ++ leBytes 4 64 ++ leBytes 8 4096 ++ zeros 24), true, by decide +kernel⟩,
   ⟨alive (withDesc (powered [(MJ_STAT.ADMIT, 1)]) (desc7 8 [])), 0, 7, desc7 8 [], by decide +kernel⟩,
   ⟨alive (withDesc (powered [(MJ_STAT.ADMIT, 0)]) (desc7 8 [])), 0, 7, by decide +kernel⟩⟩

theorem witness_ring_operations :
    (∃ (s : State) (r : Nat) (tag : Nat) (d : RingDesc), s.live = true ∧ s.descReady r tag 0x05 d = true ∧ s.descGo d = true) ∧
    (∃ (s : State) (r : Nat) (tag : Nat) (d : RingDesc), s.live = true ∧ s.descReady r tag 0x06 d = true ∧ s.descGo d = true ∧ d.p 0 1 = 0 ∧ d.p 1 1 + d.p 2 1 ≤ 64) ∧
    (∃ (s : State) (r : Nat) (tag : Nat) (d : RingDesc), s.live = true ∧ s.descReady r tag 0x06 d = true ∧ s.descGo d = true ∧ d.p 0 1 = 1 ∧ d.p 1 1 + d.p 2 1 ≤ 64) ∧
    (∃ (s : State) (r : Nat) (tag : Nat) (d : RingDesc), s.live = true ∧ s.descReady r tag 0x06 d = true ∧ s.descGo d = true ∧ d.p 0 1 = 2 ∧ d.p 2 1 < 4) ∧
    (∃ (s : State) (r : Nat) (tag : Nat) (d : RingDesc), s.live = true ∧ s.descReady r tag 0x06 d = true ∧ s.descGo d = true ∧ d.p 0 1 = 3 ∧ d.p 2 1 < 4) ∧
    (∃ (s : State) (r : Nat) (tag : Nat) (d : RingDesc), s.live = true ∧ s.descReady r tag 0x0C d = true ∧ s.descGo d = true ∧ d.p 0 1 = 1) ∧
    (∃ (s : State) (r : Nat) (tag : Nat) (d : RingDesc), s.live = true ∧ s.descReady r tag 0x0C d = true ∧ s.descGo d = true ∧ d.p 0 1 = 0) ∧
    (∃ (s : State) (r : Nat) (tag : Nat) (d : RingDesc), s.live = true ∧ s.descReady r tag 0x0D d = true ∧ s.descGo d = true ∧ s.fld PL_STAT.ROLE ≠ 2) ∧
    (∃ (s : State) (r : Nat) (tag : Nat) (d : RingDesc), s.live = true ∧ s.descReady r tag 0x0D d = true ∧ s.descGo d = true ∧ s.poolOn = true ∧ s.fld PL_STAT.ROLE = 2) ∧
    (∃ (s : State) (r : Nat) (tag : Nat) (d : RingDesc), s.live = true ∧ s.descReady r tag 0x0E d = true ∧ s.descGo d = true ∧ s.memberFailed (d.p 0 2) = false) ∧
    (∃ (s : State) (r : Nat) (tag : Nat) (d : RingDesc), s.live = true ∧ s.descReady r tag 0x0E d = true ∧ s.descGo d = true ∧ s.poolOn = true ∧ s.memberFailed (d.p 0 2) = true) :=
  ⟨⟨alive (withDesc (powered []) (desc7 5 [3])), 0, 7, desc7 5 [3], by decide +kernel⟩,
   ⟨alive (withDesc (powered []) (desc7 6 ([0, 2, 3, 11, 0, 0, 0, 0] ++ zeros 32))), 0, 7, desc7 6 ([0, 2, 3, 11, 0, 0, 0, 0] ++ zeros 32), by decide +kernel⟩,
   ⟨alive (withDesc (powered []) (desc7 6 ([1, 2, 3, 11, 0, 0, 0, 0] ++ zeros 32))), 0, 7, desc7 6 ([1, 2, 3, 11, 0, 0, 0, 0] ++ zeros 32), by decide +kernel⟩,
   ⟨alive (withDesc (powered []) (desc7 6 ([2, 2, 1, 11, 0, 0, 0, 0] ++ zeros 32))), 0, 7, desc7 6 ([2, 2, 1, 11, 0, 0, 0, 0] ++ zeros 32), by decide +kernel⟩,
   ⟨alive (withDesc (powered []) (desc7 6 ([3, 2, 1, 11, 0, 0, 0, 0] ++ zeros 32))), 0, 7, desc7 6 ([3, 2, 1, 11, 0, 0, 0, 0] ++ zeros 32), by decide +kernel⟩,
   ⟨alive (withDesc (powered []) (desc7 12 [1])), 0, 7, desc7 12 [1], by decide +kernel⟩,
   ⟨alive (withDesc (powered []) (desc7 12 [0])), 0, 7, desc7 12 [0], by decide +kernel⟩,
   ⟨alive (withDesc (pooled [(PL_STAT.ROLE, 1)]) (desc7 13 [])), 0, 7, desc7 13 [], by decide +kernel⟩,
   ⟨alive (withDesc (pooled [(PL_STAT.ROLE, 2)]) (desc7 13 [])), 0, 7, desc7 13 [], by decide +kernel⟩,
   ⟨alive (withDesc (pooled []) (desc7 14 [2, 0])), 0, 7, desc7 14 [2, 0], by decide +kernel⟩,
   ⟨alive (withDesc { (pooled []) with pool := { (pooled []).pool with members := [⟨1, false, 4, 5, none, 0, []⟩, ⟨2, true, 3, 5, none, 0, []⟩] } } (desc7 14 [2, 0])), 0, 7, desc7 14 [2, 0], by decide +kernel⟩⟩

theorem witness_domain_requests :
    (∃ (s : State) (r : Nat) (tag : Nat) (d : RingDesc) (x : Dom), s.live = true ∧ s.descReady r tag 0x0B d = true ∧ s.descGo d = true ∧ d.p 1 1 = 0 ∧ domOfCode (d.p 0 1) = some x ∧ s.takeDownOk x = true) ∧
    (∃ (s : State) (r : Nat) (tag : Nat) (d : RingDesc) (x : Dom), s.live = true ∧ s.descReady r tag 0x0B d = true ∧ s.descGo d = true ∧ d.p 1 1 = 0 ∧ domOfCode (d.p 0 1) = some x ∧ ((s.dom x).st = .down ∨ ((s.dom x).st = .restoring ∧ (s.dom x).autoTick = some s.tick))) ∧
    (∃ (s : State) (r : Nat) (tag : Nat) (d : RingDesc) (x : Dom), s.live = true ∧ s.descReady r tag 0x0B d = true ∧ s.descGo d = true ∧ d.p 1 1 = 0 ∧ domOfCode (d.p 0 1) = some x ∧ (((s.dom x).st = .restoring ∧ (s.dom x).autoTick ≠ some s.tick) ∨ (s.dom x).st = .quiescing)) ∧
    (∃ (s : State) (r : Nat) (tag : Nat) (d : RingDesc) (x : Dom), s.live = true ∧ s.descReady r tag 0x0B d = true ∧ s.descGo d = true ∧ d.p 1 1 = 1 ∧ domOfCode (d.p 0 1) = some x ∧ ((s.dom x).st = .restoring ∨ (s.dom x).st = .quiescing)) ∧
    (∃ (s : State) (r : Nat) (tag : Nat) (d : RingDesc) (x : Dom), s.live = true ∧ s.descReady r tag 0x0B d = true ∧ s.descGo d = true ∧ d.p 1 1 = 1 ∧ domOfCode (d.p 0 1) = some x ∧ s.isServing x = true ∧ s.domFree x = true ∧ actOfDom x = none) ∧
    (∃ (s : State) (r : Nat) (tag : Nat) (d : RingDesc) (x : Dom), s.live = true ∧ s.descReady r tag 0x0B d = true ∧ s.descGo d = true ∧ d.p 1 1 = 1 ∧ domOfCode (d.p 0 1) = some x ∧ (s.dom x).st = .down ∧ s.toReplace x = [] ∧ actOfDom x = none) :=
  ⟨⟨alive (withDesc (serving (powered [])) (desc7 0xB [4, 0])), 0, 7, desc7 0xB [4, 0], .DP, by decide +kernel⟩,
   ⟨alive (withDesc (powered []) (desc7 0xB [4, 0])), 0, 7, desc7 0xB [4, 0], .DP, by decide +kernel⟩,
   ⟨alive (withDesc (dom1 .DP .restoring (powered [])) (desc7 0xB [4, 0])), 0, 7, desc7 0xB [4, 0], .DP, by decide +kernel⟩,
   ⟨alive (withDesc (dom1 .DP .restoring (powered [])) (desc7 0xB [4, 1])), 0, 7, desc7 0xB [4, 1], .DP, by decide +kernel⟩,
   ⟨alive (withDesc (serving (powered [])) (desc7 0xB [4, 1])), 0, 7, desc7 0xB [4, 1], .DP, by decide +kernel⟩,
   ⟨alive (withDesc (powered []) (desc7 0xB [4, 1])), 0, 7, desc7 0xB [4, 1], .DP, by decide +kernel⟩⟩

theorem witness_domain_states :
    (∃ (s : State) (d : Dom) (cause : Nat), s.live = true ∧ (s.dom d).st ≠ .down ∧ cause < 256) ∧
    (∃ (s : State) (d : Dom) (_cause : Nat), s.live = true ∧ (s.dom d).st = .down) ∧
    (∃ (s : State) (d : Dom) (q : Requester), s.live = true ∧ d = .DP ∧ (s.dom d).st = .quiescing ∧ (s.dom d).load = none ∧ (s.dom d).takedown = some q) ∧
    (∃ (s : State) (d : Dom) (q : Requester), s.live = true ∧ d = .DP ∧ (s.dom d).st = .quiescing ∧ (s.dom d).load = none ∧ (s.dom d).takedown = some q) ∧
    (∃ (s : State) (d : Dom) (a : Act), s.live = true ∧ actOfDom d = some a ∧ (s.dom d).st = .quiescing ∧ (s.dom d).parkReq = false ∧ s.svState a = svFollowing) ∧
    (∃ (s : State), s.live = true ∧ (s.dom .DE).st = .quiescing) ∧
    (∃ (s : State) (d : Dom) (a : Act), s.live = true ∧ actOfDom d = some a ∧ (s.dom d).st = .quiescing ∧ (s.dom d).parkReq = false ∧ s.svState a = svFollowing) ∧
    (∃ (s : State) (d : Dom), s.live = true ∧ actOfDom d = none ∧ (s.dom d).st = .restoring) ∧
    (∃ (s : State) (d : Dom), s.live = true ∧ (s.dom d).st = .restoring ∧ (d = .DP ∨ d = .DA ∨ d = .DB) ∧ s.bit FB_STAT.BASENOTE = false) ∧
    (∃ (s : State) (d : Dom) (a : Act), s.live = true ∧ actOfDom d = some a ∧ (s.dom d).held = true ∧ (s.dom d).heldLoading = false ∧ s.isServing d = true ∧ s.svState a = svParked ∧ s.spReady = true) ∧
    (∃ (s : State) (_a : Act), s.live = true ∧ s.nvme.inflight = []) ∧
    (∃ (s : State) (a : Act) (k : Cmd), s.live = true ∧ s.nvme.inflight = [k] ∧ s.actAway a = true ∧ isReadOp k.e.opc = true ∧ k.started = true ∧ k.waits = [] ∧ (s.blocks? (s.cmdBlocks k)).away.contains a = true) :=
  ⟨⟨alive (serving (powered [])), .DP, 5, by decide +kernel⟩,
   ⟨alive (powered []), .DP, 5, by decide +kernel⟩,
   ⟨alive ((dom1 .DP .quiescing (serving (powered []))).modDom .DP (fun x => { x with takedown := some (.ring 0 7) })), .DP, (.ring 0 7), by decide +kernel⟩,
   ⟨alive ((dom1 .DP .quiescing (serving (powered []))).modDom .DP (fun x => { x with takedown := some (.ring 0 7) })), .DP, (.ring 0 7), by decide +kernel⟩,
   ⟨alive ((dom1 .DA .quiescing (serving (heads (powered [(SV_STAT.STATE 0, 3)])))).modLane 0 (fun x => { x with queue := [cmd1] })), .DA, .A, by decide +kernel⟩,
   ⟨alive ({ (dom1 .DE .quiescing (serving (powered []))) with eb := { State.reset.eb with tx := [tx1] } }), by decide +kernel⟩,
   ⟨alive (dom1 .DA .quiescing (serving (heads (powered [(SV_STAT.STATE 0, 3)])))), .DA, .A, by decide +kernel⟩,
   ⟨alive (dom1 .DE .restoring (powered [])), .DE, by decide +kernel⟩,
   ⟨alive ((dom1 .DP .restoring (powered [])).modDom .DP (fun x => { x with restore := some (.ring 0 7) })), .DP, by decide +kernel⟩,
   ⟨alive ((serving (heads (powered [(SP_STAT.STATE, 5), (SP_SPEED.SLEWED, 57600)]))).modDom .DA (fun x => { x with held := true })), .DA, .A, by decide +kernel⟩,
   ⟨alive (powered []), .A, by decide +kernel⟩,
   ⟨alive ({ media1 (powered []) with nvme := { State.reset.nvme with inflight := [cmdR], namespaces := [(1, some ns1)] }, map := { State.reset.map with map := [(0, .media 34 0)] } }), .A, cmdR, by decide +kernel⟩⟩

theorem witness_the_shared_bus :
    (∃ (s : State) (l : EbLoaded), s.live = true ∧ s.healthWatch.eb.buf = some l ∧ (s.eb.sentCycle = false ∨ s.bit EB_STAT.CSMA = true)) ∧
    (∃ (s : State), s.live = true ∧ s.healthWatch.eb.buf ≠ none) ∧
    (∃ (s : State), s.live = true ∧ s.eb.sentCycle = true ∧ s.bit EB_STAT.CSMA = false) ∧
    (∃ (s : State) (_late : Bool), s.live = true ∧ s.healthWatch.eb.buf = none) ∧
    (∃ (s : State) (l : EbLoaded), s.live = true ∧ s.isServing .DE = true ∧ s.eb.buf = some l ∧ healthFields s.healthBody ≠ healthFields s.eb.health ∧ ((∀ f ∈ s.eb.tx, f.type ≠ ebHealth)) ∧ s.plcaOn = true) ∧
    (∃ (s : State), s.live = true ∧ s.plcaOn = true) ∧
    (∃ (s : State), s.live = true) ∧
    (∃ (s : State), s.live = true ∧ s.bit EB_STAT.CSMA = false ∧ (recent s.tick (secTicks 1) s.eb.colls).length < 16) ∧
    (∃ (s : State), s.live = true ∧ s.bit EB_STAT.CSMA = true) ∧
    (∃ (s : State), s.live = true ∧ 16 ≤ (recent s.tick (secTicks 1) s.eb.colls).length ∧ s.bit EB_STAT.CSMA = false) ∧
    (∃ (s : State) (l : EbLoaded), s.live = true ∧ s.eb.buf = some l ∧ s.bit EB_STAT.CSMA = true ∧ 15 ≤ l.attempts) ∧
    (∃ (s : State) (l : EbLoaded), s.live = true ∧ s.eb.buf = some l ∧ s.bit EB_STAT.CSMA = true ∧ l.attempts < 15) ∧
    (∃ (s : State), s.live = true ∧ s.isServing .DE = true) ∧
    (∃ (s : State), s.live = true ∧ s.isServing .DE = true) ∧
    (∃ (s : State) (h : EbHdr) (_x : Nat) (_y : Nat) (_z : Nat) (_held : Bool) (_prof : List Int) (_a : Act), s.live = true ∧ s.isServing .DE = true ∧ h.enclid ≠ s.enclId) ∧
    (∃ (s : State) (_h : EbHdr) (_x : Nat) (_y : Nat) (_z : Nat) (_held : Bool) (_prof : List Int) (_a : Act), s.live = true ∧ s.isServing .DE = false) ∧
    (∃ (s : State) (h : EbHdr), s.live = true ∧ s.isServing .DE = true ∧ h.enclid = s.enclId) ∧
    (∃ (s : State) (l : EbLoaded), s.live = true ∧ s.isServing .DE = true ∧ s.eb.buf = some l) ∧
    (∃ (s : State), s.live = true ∧ s.isServing .DE = true ∧ s.eb.buf = none ∧ s.eb.tx = []) ∧
    (∃ (s : State) (h : EbHdr) (node : Nat) (l : EbLoaded), s.live = true ∧ s.isServing .DE = true ∧ h.enclid = s.enclId ∧ (node = 255 ∨ node = s.plcaNode) ∧ s.eb.buf = some l ∧ (l.frame.type ≠ ebHealth ∨ l.frame.dst ≠ none)) ∧
    (∃ (s : State) (h : EbHdr) (node : Nat), s.live = true ∧ s.isServing .DE = true ∧ h.enclid = s.enclId ∧ (node = 255 ∨ node = s.plcaNode) ∧ s.eb.buf = none ∧ s.eb.tx = []) ∧
    (∃ (s : State) (h : EbHdr) (_node : Nat) (l : EbLoaded), s.live = true ∧ s.isServing .DE = true ∧ h.enclid = s.enclId ∧ s.eb.buf = some l ∧ l.frame.type = ebHealth ∧ l.frame.dst = none) ∧
    (∃ (s : State) (h : EbHdr) (node : Nat), s.isServing .DE = false ∧ s.awake = true ∧ s.power.hibernate = false ∧ s.power.phase ≠ .hold ∧ h.enclid = s.eb.phyId.1 ∧ (node = 255 ∨ node = s.eb.phyId.2.2) ∧ s.eb.health ≠ []) ∧
    (∃ (s : State) (h : EbHdr) (node : Nat), s.awake = true ∧ (s.live = false ∨ s.isServing .DE = false) ∧ s.power.hibernate = true ∧ h.enclid = s.eb.phyId.1 ∧ (node = 255 ∨ node = s.eb.phyId.2.2) ∧ s.eb.health ≠ []) ∧
    (∃ (s : State) (h : EbHdr) (bay : Nat), s.power.hibernate = true ∧ h.enclid = s.eb.phyId.1 ∧ (bay = 255 ∨ bay = s.eb.phyId.2.1)) ∧
    (∃ (s : State) (h : EbHdr) (bay : Nat), s.power.hibernate = true ∧ (h.enclid ≠ s.eb.phyId.1 ∨ (bay ≠ 255 ∧ bay ≠ s.eb.phyId.2.1))) ∧
    (∃ (s : State) (h : EbHdr) (_bay : Nat), s.live = true ∧ s.isServing .DE = true ∧ s.power.hibernate = false ∧ h.enclid = s.enclId) ∧
    (∃ (s : State) (h : EbHdr) (_a : Act) (_step : Nat) (_start : Nat) (_prof : List Int), s.live = true ∧ s.isServing .DE = true ∧ h.enclid = s.enclId ∧ s.svRows .A 0x0006 ≤ 1 ∧ s.svRows .B 0x0006 ≤ 1) ∧
    (∃ (s : State) (h : EbHdr) (_a : Act) (_step : Nat) (start : Nat) (_prof : List Int) (r : Nat), s.live = true ∧ s.isServing .DE = true ∧ h.enclid = s.enclId ∧ s.svRows .B 0x0006 ≤ 1 ∧ (List.range (s.svRows .A 0x0006)).find? (fun r => r != 0 && decide (ofTwos 8 (s.svRow .A 0x0006 r 16 0 1) = (h.bay : Int) - s.bay)) = some r ∧ ofTwos 32 (toTwos 32 ((s.enclTime : Int) - h.etime)) ≤ (s.svRow .A 0x0006 0 16 6 2 * 1000 : Nat) ∧ 0 ≤ ofTwos 32 (toTwos 32 ((start : Int) - s.enclTime))) :=
  ⟨⟨alive (withEb (bussed []) (fun e => { e with buf := some ld1, tx := [tx1] })), ld1, by decide +kernel⟩,
   ⟨alive (withEb (bussed []) (fun e => { e with buf := some ld1, tx := [tx1] })), by decide +kernel⟩,
   ⟨alive (withEb (bussed []) (fun e => { e with buf := some ld1, sentCycle := true })), by decide +kernel⟩,
   ⟨alive (dom1 .DE .down (bussed [])), true, by decide +kernel⟩,
   ⟨alive (withEb (bussed []) (fun e => { e with buf := some ld1 })), ld1, by decide +kernel⟩,
   ⟨alive (bussed [(EB_STAT.CSMA, 1)]), by decide +kernel⟩,
   ⟨alive (bussed [(EB_STAT.PLCAOK, 1)]), by decide +kernel⟩,
   ⟨alive (bussed []), by decide +kernel⟩,
   ⟨alive (bussed [(EB_STAT.CSMA, 1)]), by decide +kernel⟩,
   ⟨alive (withEb (bussed []) (fun e => { e with colls := List.replicate 15 0 })), by decide +kernel⟩,
   ⟨alive (withEb (bussed [(EB_STAT.CSMA, 1)]) (fun e => { e with buf := some { ld1 with attempts := 15 } })), { ld1 with attempts := 15 }, by decide +kernel⟩,
   ⟨alive (withEb (bussed [(EB_STAT.CSMA, 1)]) (fun e => { e with buf := some ld1 })), ld1, by decide +kernel⟩,
   ⟨alive (bussed []), by decide +kernel⟩,
   ⟨alive (bussed []), by decide +kernel⟩,
   ⟨alive (bussed []), { ehdr 4 9 with enclid := 6 }, 1, 2, 3, true, [], .A, by decide +kernel⟩,
   ⟨alive (dom1 .DE .down (bussed [])), ehdr 4 9, 1, 2, 3, true, [], .A, by decide +kernel⟩,
   ⟨alive (bussed []), ehdr 4 9, by decide +kernel⟩,
   ⟨alive (withEb (bussed []) (fun e => { e with buf := some ld1 })), ld1, by decide +kernel⟩,
   ⟨alive (bussed []), by decide +kernel⟩,
   ⟨alive (withEb (bussed []) (fun e => { e with buf := some ld1 })), ehdr 4 9, 255, ld1, by decide +kernel⟩,
   ⟨alive (bussed []), ehdr 4 9, 255, by decide +kernel⟩,
   ⟨alive (withEb (bussed []) (fun e => { e with buf := some ⟨tx1, 44, 0⟩ })), ehdr 4 9, 255, ⟨tx1, 44, 0⟩, by decide +kernel⟩,
   ⟨dom1 .DE .down (withEb (bussed []) (fun e => { e with health := [1, 2, 3], phyId := (5, 3, 2) })), ehdr 4 9, 255, by decide +kernel⟩,
   ⟨{ withEb (dom1 .DE .down (bussed [])) (fun e => { e with health := [1, 2, 3], phyId := (5, 3, 2) }) with power := { State.reset.power with porst := true, phase := .done, hibernate := true } }, ehdr 4 9, 255, by decide +kernel⟩,
   ⟨{ withEb (bussed []) (fun e => { e with phyId := (5, 3, 2) }) with power := { State.reset.power with porst := true, phase := .done, hibernate := true } }, ehdr 4 9, 3, by decide +kernel⟩,
   ⟨{ withEb (bussed []) (fun e => { e with phyId := (5, 3, 2) }) with power := { State.reset.power with porst := true, phase := .done, hibernate := true } }, ehdr 4 9, 4, by decide +kernel⟩,
   ⟨alive (bussed []), ehdr 4 9, 3, by decide +kernel⟩,
   ⟨alive (bussed []), ehdr 4 9, .A, 100, 2000, [1, 2], by decide +kernel⟩,
   ⟨alive ((bussed []).withSecs [(14, 5, [5, 0, 0, 0, 3, 2, 8, 2, 1]), (7, 1, seekTab)]), ehdr 4 9, .A, 100, 20000, [1, 2], 1, by decide +kernel⟩⟩

theorem witness_elections_and_tokens :
    (∃ (s : State), s.live = true ∧ s.isServing .DE = true ∧ s.eb.electing = true ∧ s.fld EB_STAT.ELECT = elListening) ∧
    (∃ (s : State) (h : EbHdr) (_prio : Nat) (_idlow : Nat), s.live = true ∧ s.isServing .DE = true ∧ s.eb.electing = true ∧ h.enclid = s.enclId) ∧
    (∃ (s : State), s.live = true ∧ s.isServing .DE = true ∧ s.eb.electing = true ∧ s.fld EB_STAT.ELECT = elClaiming ∧ ((∀ c ∈ s.eb.claims, s.ownClaim.1 < c.1 ∨ (s.ownClaim.1 = c.1 ∧ s.ownClaim.2.1 < c.2.1) ∨ c = s.ownClaim))) ∧
    (∃ (s : State) (c : Nat × Nat × Nat × Nat), s.live = true ∧ s.isServing .DE = true ∧ s.eb.electing = true ∧ s.fld EB_STAT.ELECT = elClaiming ∧ c ∈ s.eb.claims ∧ c.1 < 1 ∧ ((∀ e ∈ s.eb.claims, e = c ∨ c.1 < e.1))) ∧
    (∃ (s : State) (h : EbHdr) (_mepoch : Nat) (_tokfree : Nat), s.live = true ∧ s.isServing .DE = true ∧ h.enclid = s.enclId ∧ (s.isMaster = false ∨ nodeRank h.node < nodeRank s.plcaNode)) ∧
    (∃ (s : State) (h : EbHdr) (_mepoch : Nat) (_tokfree : Nat), s.live = true ∧ s.isServing .DE = true ∧ h.enclid = s.enclId ∧ s.isMaster = true ∧ nodeRank s.plcaNode ≤ nodeRank h.node) ∧
    (∃ (s : State), s.live = true ∧ s.isServing .DE = true ∧ s.fld EB_STAT.ELECT = elFollower) ∧
    (∃ (s : State), s.live = true ∧ s.isServing .DE = true ∧ s.isMaster = true) ∧
    (∃ (s : State) (h : EbHdr) (_lease : Nat), s.live = true ∧ s.isServing .DE = true ∧ h.enclid = s.enclId ∧ s.isMaster = true ∧ s.eb.queue = [] ∧ s.eb.epochWait = false ∧ s.eb.holders.length < s.spinTok ∧ (h.node ≠ s.plcaNode ∨ h.bay ≠ s.bay)) ∧
    (∃ (s : State) (h : EbHdr) (_lease : Nat), s.live = true ∧ s.isServing .DE = true ∧ h.enclid = s.enclId ∧ s.isMaster = true ∧ (s.eb.epochWait = true ∨ s.spinTok ≤ s.eb.holders.length) ∧ ((∀ x ∈ s.eb.queue, x.node ≠ h.node ∨ x.bay ≠ h.bay))) ∧
    (∃ (s : State) (h : EbHdr) (_lease : Nat), s.live = true ∧ s.isServing .DE = true ∧ h.enclid = s.enclId ∧ s.isMaster = true ∧ ((∀ x ∈ s.eb.holders, x.node ≠ h.node ∨ x.bay ≠ h.bay))) ∧
    (∃ (s : State) (h : EbHdr) (_lease : Nat) (mepoch : Nat), s.live = true ∧ s.isServing .DE = true ∧ h.enclid = s.enclId ∧ mepoch = s.fld EB_MASTER.MEPOCH ∧ s.eb.startWant = true) ∧
    (∃ (s : State) (h : EbHdr) (_lease : Nat) (mepoch : Nat), s.live = true ∧ s.isServing .DE = true ∧ h.enclid = s.enclId ∧ mepoch = s.fld EB_MASTER.MEPOCH ∧ s.eb.startWant = false) ∧
    (∃ (s : State) (h : EbHdr) (mepoch : Nat), s.live = true ∧ s.isServing .DE = true ∧ h.enclid = s.enclId ∧ s.isMaster = true ∧ mepoch = s.fld EB_MASTER.MEPOCH ∧ s.eb.queue = []) ∧
    (∃ (s : State) (_node : Nat) (_bay : Nat), s.live = true ∧ s.isMaster = true ∧ s.eb.queue = []) ∧
    (∃ (s : State) (x : EbToken), s.live = true ∧ s.isServing .DE = true ∧ s.isMaster = true ∧ s.eb.queue = [x] ∧ s.eb.holders.length < s.spinTok ∧ (x.node ≠ s.plcaNode ∨ x.bay ≠ s.bay)) ∧
    (∃ (s : State), s.live = true ∧ s.isServing .DE = false ∧ s.eb.localDelay = true ∧ s.eb.startWant = true) :=
  ⟨⟨alive (withEb (bussed [(EB_STAT.ELECT, 0)]) (fun e => { e with electing := true })), by decide +kernel⟩,
   ⟨alive (withEb (bussed [(EB_STAT.ELECT, 0)]) (fun e => { e with electing := true })), ehdr 4 9, 1, 55, by decide +kernel⟩,
   ⟨alive (withEb (bussed [(EB_STAT.ELECT, 1)]) (fun e => { e with electing := true, claims := [(1, 5, 2, 6)] })), by decide +kernel⟩,
   ⟨alive (withEb (bussed [(EB_STAT.ELECT, 1)]) (fun e => { e with electing := true, claims := [(0, 5, 2, 6)] })), (0, 5, 2, 6), by decide +kernel⟩,
   ⟨alive (bussed [(EB_STAT.ELECT, 3)]), ehdr 4 9, 8, 2, by decide +kernel⟩,
   ⟨alive (bussed [(EB_STAT.ELECT, 2)]), ehdr 4 9, 8, 2, by decide +kernel⟩,
   ⟨alive (bussed [(EB_STAT.ELECT, 3)]), by decide +kernel⟩,
   ⟨alive (bussed [(EB_STAT.ELECT, 2)]), by decide +kernel⟩,
   ⟨alive (bussed [(EB_STAT.ELECT, 2)]), ehdr 4 9, 50, by decide +kernel⟩,
   ⟨alive (withEb (bussed [(EB_STAT.ELECT, 2)]) (fun e => { e with holders := [tok1, { tok1 with node := 6 }] })), ehdr 7 8, 50, by decide +kernel⟩,
   ⟨alive (withEb (bussed [(EB_STAT.ELECT, 2)]) (fun e => { e with holders := [tok1, { tok1 with node := 6 }] })), ehdr 7 8, 50, by decide +kernel⟩,
   ⟨alive (withEb (bussed [(EB_STAT.ELECT, 3), (EB_TOKEN.PEND, 1)]) (fun e => { e with startWant := true })), ehdr 4 9, 50, 0, by decide +kernel⟩,
   ⟨alive (bussed [(EB_STAT.ELECT, 3), (EB_TOKEN.PEND, 1)]), ehdr 4 9, 50, 0, by decide +kernel⟩,
   ⟨alive (withEb (bussed [(EB_STAT.ELECT, 2)]) (fun e => { e with holders := [tok1, { tok1 with node := 6 }] })), ehdr 4 9, 0, by decide +kernel⟩,
   ⟨alive (withEb (bussed [(EB_STAT.ELECT, 2)]) (fun e => { e with holders := [tok1, { tok1 with node := 6 }] })), 4, 9, by decide +kernel⟩,
   ⟨alive (withEb (bussed [(EB_STAT.ELECT, 2)]) (fun e => { e with epochWait := true, queue := [tok1] })), tok1, by decide +kernel⟩,
   ⟨alive (dom1 .DE .down (withEb (bussed [(SP_STAT.STATE, 0), (PW_STAT.STATE, 1)]) (fun e => { e with localDelay := true, startWant := true }))), by decide +kernel⟩⟩

theorem witness_thermal_protection :
    (∃ (s : State) (n : Nat) (temp : Int), s.live = true ∧ n < 22 ∧ s.power.phase = .done ∧ -220 ≤ temp ∧ temp ≤ 600 ∧ s.excluded n = false ∧ temp < 4 * s.fld TH_LIMITS.WARN ∧ temp < 4 * s.fld TH_LIMITS.THROT ∧ temp < 4 * s.fld TH_LIMITS.SHUT) ∧
    (∃ (s : State) (n : Nat) (temp : Int), s.live = true ∧ n < 22 ∧ s.power.phase = .done ∧ (temp < -220 ∨ 600 < temp)) ∧
    (∃ (s : State) (n : Nat) (temp : Int), s.live = true ∧ n < 22 ∧ s.power.phase = .done ∧ temp ≤ 600 ∧ s.excluded n = false ∧ 1 ≤ (s.sensor n).nWarn ∧ 4 * s.fld TH_LIMITS.WARN ≤ temp ∧ temp < 4 * s.fld TH_LIMITS.THROT ∧ temp < 4 * s.fld TH_LIMITS.SHUT ∧ s.thState = thNormal) ∧
    (∃ (s : State) (n : Nat) (temp : Int), s.live = true ∧ n < 22 ∧ s.power.phase = .done ∧ temp ≤ 600 ∧ s.excluded n = false ∧ 1 ≤ (s.sensor n).nThrot ∧ 4 * s.fld TH_LIMITS.THROT ≤ temp ∧ -220 ≤ temp ∧ temp < 4 * s.fld TH_LIMITS.SHUT ∧ (s.thState = thNormal ∨ s.thState = thWarning)) ∧
    (∃ (s : State) (n : Nat) (temp : Int), s.live = true ∧ n < 22 ∧ s.power.phase = .done ∧ temp ≤ 600 ∧ s.excluded n = false ∧ 1 ≤ (s.sensor n).nShut ∧ 4 * s.fld TH_LIMITS.SHUT ≤ temp ∧ -220 ≤ temp ∧ s.thState ≠ thShutdown) ∧
    (∃ (s : State) (n : Nat) (temp : Int), s.live = true ∧ n < 22 ∧ s.power.phase = .done ∧ s.excluded n = true ∧ -220 ≤ temp ∧ temp ≤ 600) ∧
    (∃ (s : State) (n : Nat) (_temp : Int), s.live = true ∧ (22 ≤ n ∨ s.power.phase ≠ .done)) ∧
    (∃ (s : State) (n : Nat), s.live = true ∧ n < 22 ∧ s.exclusionDue n = true ∧ s.excluded n = false ∧ (s.bit TH_STAT.BLIND = true ∨ (n < 14 ∧ ((List.range 14).filter s.excluded).length < 4 ∧ s.excluded 14 = false ∧ s.excluded 18 = false))) ∧
    (∃ (s : State) (n : Nat), s.live = true ∧ n < 14 ∧ s.exclusionDue n = true ∧ s.excluded n = false ∧ s.bit TH_STAT.BLIND = false ∧ 4 ≤ ((List.range 14).filter s.excluded).length) ∧
    (∃ (s : State) (n : Nat), s.live = true ∧ (22 ≤ n ∨ s.excluded n = true)) ∧
    (∃ (s : State) (n : Nat), s.live = true ∧ s.exclusionDue n = false) ∧
    (∃ (s : State), s.live = true ∧ s.thState = thWarning ∧ s.thCool 1 = true) ∧
    (∃ (s : State), s.live = true ∧ s.thState = thThrottle ∧ s.thCool 1 = true ∧ s.bit TH_STAT.BLIND = false) ∧
    (∃ (s : State), s.live = true ∧ ((s.thState = thThrottle ∧ (s.bit TH_STAT.BLIND = true ∨ s.thCool 1 = false)) ∨ (s.thState = thWarning ∧ s.thCool 1 = false) ∨ (s.thState = thShutdown ∧ (s.thCool 10 = false ∨ s.pins.thermtripL = false)) ∨ s.thState = thNormal)) ∧
    (∃ (s : State), s.live = true ∧ s.thState = thShutdown ∧ s.thCool 10 = true ∧ s.pins.thermtripL = true ∧ s.thermal.shutTicks.length < 3 ∧ s.bit FB_STAT.BASENOTE = false) ∧
    (∃ (s : State), s.live = true ∧ s.thState = thShutdown ∧ s.thCool 10 = true ∧ s.pins.thermtripL = true ∧ 3 ≤ s.thermal.shutTicks.length) :=
  ⟨⟨alive (powered [(TH_LIMITS.WARN, 80), (TH_LIMITS.THROT, 90), (TH_LIMITS.SHUT, 100)]), 3, 200, by decide +kernel⟩,
   ⟨alive (powered [(TH_LIMITS.WARN, 80), (TH_LIMITS.THROT, 90), (TH_LIMITS.SHUT, 100)]), 3, -300, by decide +kernel⟩,
   ⟨alive ({ powered [(TH_LIMITS.WARN, 80), (TH_LIMITS.THROT, 90), (TH_LIMITS.SHUT, 100)] with thermal := { State.reset.thermal with sensors := [(3, { Sensor.reset with nWarn := 1 })] } }), 3, 330, by decide +kernel⟩,
   ⟨alive ({ powered [(TH_LIMITS.WARN, 80), (TH_LIMITS.THROT, 90), (TH_LIMITS.SHUT, 100)] with thermal := { State.reset.thermal with sensors := [(3, { Sensor.reset with nThrot := 1 })] } }), 3, 370, by decide +kernel⟩,
   ⟨alive ({ following with thermal := { State.reset.thermal with sensors := [(3, { Sensor.reset with nShut := 1 })] } }), 3, 500, by decide +kernel⟩,
   ⟨alive (powered [(TH_EXCL.SENS, 8), (TH_LIMITS.WARN, 80)]), 3, 410, by decide +kernel⟩,
   ⟨alive (powered []), 22, 100, by decide +kernel⟩,
   ⟨alive (powered [(TH_SENS.TEMP 3, 600), (TH_SENS.VALID 3, 1)]), 3, by decide +kernel⟩,
   ⟨alive (powered [(TH_EXCL.SENS, 0xF), (TH_LIMITS.WARN, 80), (TH_SENS.TEMP 4, 600), (TH_SENS.VALID 4, 1)]), 4, by decide +kernel⟩,
   ⟨alive (powered [(TH_EXCL.SENS, 8), (TH_SENS.TEMP 3, 600), (TH_SENS.VALID 3, 1)]), 3, by decide +kernel⟩,
   ⟨alive (powered []), 3, by decide +kernel⟩,
   ⟨alive ({ powered [(TH_STAT.STATE, 1), (TH_LIMITS.WARN, 80), (TH_STAT.TJ, 200), (TH_LIMITS.HYST, 5)] with tick := 300000000, thermal := { State.reset.thermal with below := some 0 } }), by decide +kernel⟩,
   ⟨alive ({ powered [(TH_STAT.STATE, 2), (TH_LIMITS.THROT, 80), (TH_STAT.TJ, 200), (TH_LIMITS.HYST, 5)] with tick := 300000000, thermal := { State.reset.thermal with below := some 0 } }), by decide +kernel⟩,
   ⟨alive ({ powered [(TH_STAT.STATE, 2), (TH_LIMITS.THROT, 80), (TH_STAT.TJ, 200), (TH_LIMITS.HYST, 5), (TH_STAT.BLIND, 1)] with tick := 300000000, thermal := { State.reset.thermal with below := some 0 } }), by decide +kernel⟩,
   ⟨alive ({ powered [(TH_STAT.STATE, 3), (TH_LIMITS.SHUT, 80), (TH_STAT.TJ, 200), (TH_LIMITS.HYST, 5), (PW_STAT.VMSTATE, 2), (HM_STAT.SREF, 15), (PW_STAT.STATE, 1)] with tick := 300000000, thermal := { State.reset.thermal with below := some 0, shutTicks := [0] }, pins := { State.reset.pins with thermtripL := true } }), by decide +kernel⟩,
   ⟨alive ({ powered [(TH_STAT.STATE, 3), (TH_LIMITS.SHUT, 80), (TH_STAT.TJ, 200), (TH_LIMITS.HYST, 5)] with tick := 300000000, thermal := { State.reset.thermal with below := some 0, shutTicks := [0, 0, 0] }, pins := { State.reset.pins with thermtripL := true } }), by decide +kernel⟩⟩

theorem witness_the_log_and_the_gauges :
    (∃ (s : State) (r : SilRec) (l : List SilRec), s.live = true ∧ s.sil.queue = r :: l ∧ s.mramAdmits = true ∧ r.fields.length ≤ 200 ∧ s.bit SL_STAT.FULL = false ∧ s.logPos + recordLen r.fields + 32 ≤ logEnd ∧ s.logPos % 8 = 0) ∧
    (∃ (s : State) (code : Nat) (_f : List Byte), silExempt code = false ∧ tokenUnit ≤ (s.bucket code).level ∧ (s.bucket code).count = 0 ∧ s.sil.queue.length < 256) ∧
    (∃ (s : State) (code : Nat) (_f : List Byte), silExempt code = false ∧ (s.bucket code).level < tokenUnit) ∧
    (∃ (s : State) (code : Nat) (_f : List Byte), silExempt code = true ∧ s.sil.queue.length ≤ 256) ∧
    (∃ (s : State) (r : SilRec) (l : List SilRec), s.live = true ∧ s.sil.queue = r :: l ∧ s.mramAdmits = true ∧ s.bit SL_STAT.FULL = true) ∧
    (∃ (s : State) (r : SilRec) (l : List SilRec), s.live = true ∧ s.sil.queue = r :: l ∧ s.mramAdmits = true ∧ s.bit SL_STAT.FULL = false ∧ logEnd < s.logPos + (s.recordBytes r.code r.tick r.fields).length + 32 ∧ s.logPos + 32 ≤ logEnd ∧ s.logPos % 8 = 0) ∧
    (∃ (s : State), s.live = true ∧ (s.mramAdmits = false ∨ s.sil.queue = [])) ∧
    (∃ (s : State), s.live = true ∧ s.power.hibernate = false ∧ s.mramAdmits = true ∧ s.fld SL_HOURS.VALUE < 2 ^ 32 - 1) ∧
    (∃ (s : State) (code : Nat), s.live = true ∧ 0 < (s.bucket code).count ∧ s.sil.queue.length < 256) ∧
    (∃ (s : State) (code : Nat), s.live = true ∧ (s.bucket code).count = 0) ∧
    (∃ (s : State) (g : Nat), s.live = true ∧ g < 64 ∧ s.bit (GA_CTL.ARMED g) = true ∧ SMap.get (fun _ => 0) s.sil.gaugeDur g ≠ 0) :=
  ⟨⟨alive ({ powered [(PW_STAT.VMSTATE, 2), (PW_STAT.STATE, 1), (MJ_STAT.ADMIT, 1), (SL_NEXT.OFFSET, 0x1040)] with sil := { State.reset.sil with queue := [⟨0x1503, 5, [1, 2, 3, 4]⟩] } }), ⟨0x1503, 5, [1, 2, 3, 4]⟩, [], by decide +kernel⟩,
   ⟨powered [], 0x0301, [1, 2, 3, 4], by decide +kernel⟩,
   ⟨{ powered [] with sil := { State.reset.sil with buckets := [(0x0301, some ⟨0, 0, 0, 0, 0⟩)] } }, 0x0301, [1, 2, 3, 4], by decide +kernel⟩,
   ⟨{ powered [] with sil := { State.reset.sil with queue := List.replicate 256 ⟨0x1503, 5, []⟩ } }, 0x1503, [1, 2, 3, 4], by decide +kernel⟩,
   ⟨alive ({ powered [(PW_STAT.VMSTATE, 2), (PW_STAT.STATE, 1), (MJ_STAT.ADMIT, 1), (SL_STAT.FULL, 1)] with sil := { State.reset.sil with queue := [⟨0x1503, 5, [1, 2, 3, 4]⟩] } }), ⟨0x1503, 5, [1, 2, 3, 4]⟩, [], by decide +kernel⟩,
   ⟨alive ({ powered [(PW_STAT.VMSTATE, 2), (PW_STAT.STATE, 1), (MJ_STAT.ADMIT, 1), (SL_NEXT.OFFSET, 0x7FFFE0)] with sil := { State.reset.sil with queue := [⟨0x1503, 5, [1, 2, 3, 4]⟩] } }), ⟨0x1503, 5, [1, 2, 3, 4]⟩, [], by decide +kernel⟩,
   ⟨alive (powered []), by decide +kernel⟩,
   ⟨alive (powered [(PW_STAT.VMSTATE, 2), (PW_STAT.STATE, 1), (MJ_STAT.ADMIT, 1), (SL_HOURS.VALUE, 3)]), by decide +kernel⟩,
   ⟨alive ({ powered [] with sil := { State.reset.sil with buckets := [(0x0301, some ⟨0, 0, 3, 1, 2⟩)] } }), 0x0301, by decide +kernel⟩,
   ⟨alive (powered []), 5, by decide +kernel⟩,
   ⟨alive ({ powered [(GA_CTL.ARMED 3, 1), (GA_COUNT.VALUE 3, 7)] with sil := { State.reset.sil with gaugeDur := [(3, 50)] } }), 3, by decide +kernel⟩⟩

theorem witness_security_commands :
    (∃ (s : State) (c : Nat) (cid : Nat) (m : Cmd), s.live = true ∧ s.admReady c cid 0x82 m = true ∧ natBits m.e.cdw10 24 8 = 0) ∧
    (∃ (s : State) (c : Nat) (cid : Nat) (m : Cmd), s.live = true ∧ s.admReady c cid 0x82 m = true ∧ natBits m.e.cdw10 24 8 = 0xF0) ∧
    (∃ (s : State) (c : Nat) (cid : Nat) (m : Cmd), s.live = true ∧ s.admReady c cid 0x82 m = true ∧ natBits m.e.cdw10 24 8 = 0xE8) ∧
    (∃ (s : State) (c : Nat) (cid : Nat) (sent : List Byte) (_ok : Bool) (m : Cmd), s.live = true ∧ s.admReady c cid 0x81 m = true ∧ natBits m.e.cdw10 24 8 = 0xF0 ∧ 480 ≤ sent.length ∧ leAt sent 0 1 = 1 ∧ leAt sent 1 1 = 1 ∧ opDlen (slice sent 0 64) = 0 ∧ opForm (slice sent 0 64) = true ∧ (List.range 8).all (fun k => (s.ring k).descs.all (fun d => !d.signed)) = true ∧ s.bit AC_STAT.BUSY = false ∧ s.nvme.activation = none ∧ s.nvme.fwStore = none ∧ s.nv.floorA.length < 128 ∧ s.accordFloor < opValue (slice sent 0 64) ∧ opValue (slice sent 0 64) ≤ s.fld AC_GEN.GEN) ∧
    (∃ (s : State) (c : Nat) (cid : Nat) (sent : List Byte) (_ok : Bool) (m : Cmd), s.live = true ∧ s.admReady c cid 0x81 m = true ∧ natBits m.e.cdw10 24 8 = 0xF0 ∧ 480 ≤ sent.length ∧ leAt sent 0 1 = 1 ∧ leAt sent 1 1 = 2 ∧ opDlen (slice sent 0 64) = 0 ∧ opForm (slice sent 0 64) = true ∧ (List.range 8).all (fun k => (s.ring k).descs.all (fun d => !d.signed)) = true ∧ s.bit AC_STAT.BUSY = false ∧ s.nvme.activation = none ∧ s.nvme.fwStore = none ∧ s.nv.floorP.length < 128 ∧ s.patchFloor < opValue (slice sent 0 64) ∧ opValue (slice sent 0 64) ≤ s.fld ST_PATCHGEN.GEN) ∧
    (∃ (s : State) (c : Nat) (cid : Nat) (sent : List Byte) (_ok : Bool) (m : Cmd), s.live = true ∧ s.admReady c cid 0x81 m = true ∧ natBits m.e.cdw10 24 8 = 0xF0 ∧ 480 ≤ sent.length ∧ leAt sent 0 1 = 1 ∧ leAt sent 1 1 = 1 ∧ opDlen (slice sent 0 64) = 0 ∧ opForm (slice sent 0 64) = true ∧ (List.range 8).all (fun k => (s.ring k).descs.all (fun d => !d.signed)) = true ∧ s.bit AC_STAT.BUSY = false ∧ s.nvme.activation = none ∧ s.nvme.fwStore = none ∧ (s.fld AC_GEN.GEN < opValue (slice sent 0 64) ∨ opValue (slice sent 0 64) ≤ s.accordFloor)) ∧
    (∃ (s : State) (c : Nat) (cid : Nat) (sent : List Byte) (m : Cmd), s.live = true ∧ s.admReady c cid 0x81 m = true ∧ natBits m.e.cdw10 24 8 = 0xF0 ∧ 480 + opDlen (slice sent 0 64) ≤ sent.length ∧ leAt sent 0 1 = 2 ∧ opDlen (slice sent 0 64) ≤ 0x10000 ∧ opForm (slice sent 0 64) = true ∧ (List.range 8).all (fun k => (s.ring k).descs.all (fun d => !d.signed)) = true ∧ s.bit AC_STAT.BUSY = false ∧ s.nvme.activation = none ∧ s.nvme.fwStore = none) ∧
    (∃ (s : State) (ch : Nat) (_cid : Nat) (req : List Byte), s.live = true ∧ ch < 2 ∧ s.mctpUp ch = true ∧ leAt req 1 1 = 0x84) ∧
    (∃ (s : State) (ch : Nat) (_cid : Nat) (req : List Byte), s.live = true ∧ ch < 2 ∧ s.mctpUp ch = true ∧ leAt req 1 1 ∉ [0x84, 0xE1, 0xE3, 0x81, 0x82, 0x83, 0xE0]) ∧
    (∃ (s : State) (ch : Nat) (cid : Nat) (req : List Byte) (m : Cmd), s.live = true ∧ 2 ≤ ch ∧ s.admReady (ch - 2) cid 0x81 m = true ∧ natBits m.e.cdw10 24 8 = 0xE8 ∧ leAt req 1 1 = 0x84) ∧
    (∃ (s : State) (ch : Nat) (_cid : Nat) (req : List Byte), s.live = true ∧ ch < 2 ∧ s.mctpUp ch = true ∧ leAt req 1 1 = 0xE1 ∧ (s.spdm ch).stage = 1) ∧
    (∃ (s : State) (ch : Nat) (_cid : Nat) (req : List Byte), s.live = true ∧ ch < 2 ∧ s.mctpUp ch = true ∧ leAt req 1 1 = 0xE3 ∧ (s.spdm ch).stage = 2) ∧
    (∃ (s : State) (ch : Nat) (_cid : Nat) (req : List Byte), s.live = true ∧ ch < 2 ∧ s.mctpUp ch = true ∧ leAt req 1 1 = 0x81 ∧ (s.spdm ch).stage = 3) ∧
    (∃ (s : State) (ch : Nat) (_cid : Nat) (req : List Byte), s.live = true ∧ ch < 2 ∧ s.mctpUp ch = true ∧ leAt req 1 1 = 0x82 ∧ (s.spdm ch).stage = 3 ∧ leAt req 2 1 % 16 = 0) ∧
    (∃ (s : State) (ch : Nat) (_cid : Nat) (req : List Byte), s.live = true ∧ ch < 2 ∧ s.mctpUp ch = true ∧ leAt req 1 1 = 0x83 ∧ (s.spdm ch).stage = 3 ∧ leAt req 2 1 = 0 ∧ (leAt req 3 1 = 0 ∨ leAt req 3 1 = 1 ∨ leAt req 3 1 = 0xFF) ∧ s.bit SC_STAT.TESTMODE = false) ∧
    (∃ (s : State) (ch : Nat) (_cid : Nat) (req : List Byte), s.live = true ∧ ch < 2 ∧ s.mctpUp ch = true ∧ leAt req 1 1 = 0xE0 ∧ (s.spdm ch).stage = 3 ∧ leAt req 2 1 % 2 = 0 ∧ leAt req 3 1 = 0xFF) ∧
    (∃ (s : State) (ch : Nat) (_cid : Nat) (req : List Byte), s.live = true ∧ ch < 2 ∧ s.mctpUp ch = true ∧ leAt req 1 1 = 0xE0 ∧ (s.spdm ch).stage = 3 ∧ leAt req 2 1 % 2 = 1 ∧ leAt req 3 1 ≤ 7 ∧ leAt req 36 1 % 16 = 0 ∧ s.bit SC_STAT.TESTMODE = false) ∧
    (∃ (s : State) (ch : Nat) (_cid : Nat) (req : List Byte), s.live = true ∧ ch < 2 ∧ s.mctpUp ch = true ∧ ((s.spdm ch).stage ≠ 3 ∨ s.bit SC_STAT.TESTMODE = true) ∧ leAt req 1 1 = 0x83 ∧ leAt req 2 1 = 0 ∧ leAt req 3 1 = 0) ∧
    (∃ (s : State) (ch : Nat) (_cid : Nat) (req : List Byte), s.live = true ∧ ch < 2 ∧ s.mctpUp ch = true ∧ leAt req 1 1 = 0xE1 ∧ (s.spdm ch).stage ≠ 1) ∧
    (∃ (s : State) (ch : Nat) (_cid : Nat) (req : List Byte), s.live = true ∧ ch < 2 ∧ s.mctpUp ch = true ∧ leAt req 1 1 = 0xE3 ∧ (s.spdm ch).stage ≠ 2) ∧
    (∃ (s : State) (ch : Nat) (_cid : Nat) (req : List Byte), s.live = true ∧ ch < 2 ∧ s.mctpUp ch = true ∧ leAt req 1 1 = 0x81 ∧ (s.spdm ch).stage ≠ 3) ∧
    (∃ (s : State) (ch : Nat) (_cid : Nat) (req : List Byte), s.live = true ∧ ch < 2 ∧ s.mctpUp ch = true ∧ leAt req 1 1 = 0x82 ∧ (s.spdm ch).stage ≠ 3) ∧
    (∃ (s : State) (ch : Nat) (_cid : Nat) (req : List Byte), s.live = true ∧ ch < 2 ∧ s.mctpUp ch = true ∧ leAt req 1 1 = 0xE0 ∧ (s.spdm ch).stage ≠ 3) ∧
    (∃ (s : State) (p : Nat) (_inst : Nat) (op : Nat) (eid : Nat), s.live = true ∧ s.mctpUp p = true ∧ op ≤ 1 ∧ 0 < eid ∧ eid < 0xFF) ∧
    (∃ (s : State) (p : Nat) (_inst : Nat) (op : Nat) (eid : Nat), s.live = true ∧ s.mctpUp p = true ∧ (1 < op ∨ eid = 0 ∨ 0xFF ≤ eid)) ∧
    (∃ (s : State) (p : Nat) (_inst : Nat), s.live = true ∧ s.mctpUp p = true) ∧
    (∃ (s : State) (p : Nat) (_inst : Nat), s.live = true ∧ s.mctpUp p = true) ∧
    (∃ (s : State) (p : Nat) (_inst : Nat) (type : Nat), s.live = true ∧ s.mctpUp p = true ∧ (type = 0xFF ∨ type = 0 ∨ type = 5)) ∧
    (∃ (s : State) (p : Nat) (_inst : Nat) (type : Nat), s.live = true ∧ s.mctpUp p = true ∧ type ≠ 0xFF ∧ type ≠ 0 ∧ type ≠ 5) :=
  ⟨⟨alive (nvm [] [cmdA 0x82 0 0 4]), 0, 9, cmdA 0x82 0 0 4, by decide +kernel⟩,
   ⟨alive (nvm [] [cmdA 0x82 0 0xF0000000 64]), 0, 9, cmdA 0x82 0 0xF0000000 64, by decide +kernel⟩,
   ⟨alive ({ nvm [] [cmdA 0x82 0 0xE8000000 64] with sec := { State.reset.sec with replies := [(0, [1, 2])] } }), 0, 9, cmdA 0x82 0 0xE8000000 64, by decide +kernel⟩,
   ⟨alive (nvm [(AC_GEN.GEN, 9), (AC_STAT.BUSY, 0)] [cmdA 0x81 0 0xF0000000 480]), 0, 9, sent1 1 1 5, true, cmdA 0x81 0 0xF0000000 480, by decide +kernel⟩,
   ⟨alive (nvm [(ST_PATCHGEN.GEN, 9), (AC_STAT.BUSY, 0)] [cmdA 0x81 0 0xF0000000 480]), 0, 9, sent1 1 2 5, true, cmdA 0x81 0 0xF0000000 480, by decide +kernel⟩,
   ⟨alive (nvm [(AC_GEN.GEN, 9), (AC_STAT.BUSY, 0)] [cmdA 0x81 0 0xF0000000 480]), 0, 9, sent1 1 1 50, true, cmdA 0x81 0 0xF0000000 480, by decide +kernel⟩,
   ⟨alive (nvm [(AC_STAT.BUSY, 0)] [cmdA 0x81 0 0xF0000000 480]), 0, 9, sent1 2 0 0, cmdA 0x81 0 0xF0000000 480, by decide +kernel⟩,
   ⟨alive (nvm [] []), 0, 9, [0x10, 0x84, 0, 0], by decide +kernel⟩,
   ⟨alive (nvm [] []), 0, 9, [0x10, 0x55, 0, 0], by decide +kernel⟩,
   ⟨alive (nvm [] [cmdA 0x81 0 0xE8000000 480]), 2, 9, [0x10, 0x84, 0, 0], cmdA 0x81 0 0xE8000000 480, by decide +kernel⟩,
   ⟨alive (spdmAt 1), 0, 9, [0x12, 0xE1, 0, 0], by decide +kernel⟩,
   ⟨alive (spdmAt 2), 0, 9, [0x12, 0xE3, 0, 0, 36, 0, 1, 0, 0xFF, 0, 0, 0, 7], by decide +kernel⟩,
   ⟨alive (spdmAt 3), 0, 9, [0x12, 0x81, 0, 0], by decide +kernel⟩,
   ⟨alive (spdmAt 3), 0, 9, [0x12, 0x82, 0, 0, 0, 0, 64, 0], by decide +kernel⟩,
   ⟨alive (spdmAt 3), 0, 9, [0x12, 0x83, 0, 0], by decide +kernel⟩,
   ⟨alive (spdmAt 3), 0, 9, [0x12, 0xE0, 0, 0xFF], by decide +kernel⟩,
   ⟨alive (spdmAt 3), 0, 9, [0x12, 0xE0, 1, 1], by decide +kernel⟩,
   ⟨alive (spdmAt 2), 0, 9, [0x12, 0x83, 0, 0], by decide +kernel⟩,
   ⟨alive (spdmAt 0), 0, 9, [0x12, 0xE1, 0, 0], by decide +kernel⟩,
   ⟨alive (spdmAt 0), 0, 9, [0x12, 0xE3, 0, 0], by decide +kernel⟩,
   ⟨alive (spdmAt 0), 0, 9, [0x12, 0x81, 0, 0], by decide +kernel⟩,
   ⟨alive (spdmAt 0), 0, 9, [0x12, 0x82, 0, 0], by decide +kernel⟩,
   ⟨alive (spdmAt 0), 0, 9, [0x12, 0xE0, 0, 0], by decide +kernel⟩,
   ⟨alive (nvm [] []), 0, 3, 0, 77, by decide +kernel⟩,
   ⟨alive (nvm [] []), 0, 3, 2, 77, by decide +kernel⟩,
   ⟨alive (nvm [] []), 0, 3, by decide +kernel⟩,
   ⟨alive (nvm [] []), 0, 3, by decide +kernel⟩,
   ⟨alive (nvm [] []), 0, 3, 5, by decide +kernel⟩,
   ⟨alive (nvm [] []), 0, 3, 6, by decide +kernel⟩⟩

theorem witness_nvme_controllers :
    (∃ (s : State) (c : Nat) (_crime : Bool) (_wrr : Bool) (_asq : Nat) (_acq : Nat), s.live = true ∧ s.hasCtrl c = true ∧ (s.ctrl c).linkUp = true ∧ (s.ctrl c).en = false) ∧
    (∃ (s : State) (c : Nat) (_crime : Bool) (_wrr : Bool) (_asq : Nat) (_acq : Nat), s.live = true ∧ (s.hasCtrl c = false ∨ (s.ctrl c).linkUp = false ∨ (s.ctrl c).en = true)) ∧
    (∃ (s : State) (c : Nat), s.live = true ∧ (s.ctrl c).en = true ∧ (s.ctrl c).rdy = false ∧ ((s.ctrl c).crime = true ∨ s.mapReady = true ∨ s.bit FB_STAT.BASENOTE = true) ∧ (s.mapReady = false ∨ (s.ctrl c).attached = [])) ∧
    (∃ (s : State) (c : Nat), s.live = true ∧ (s.ctrl c).crime = false ∧ s.mapReady = false ∧ s.bit FB_STAT.BASENOTE = false) ∧
    (∃ (s : State) (c : Nat), s.hasCtrl c = true ∧ (s.ctrl c).en = true ∧ s.nvme.inflight = [] ∧ s.nvme.drains = [] ∧ s.power.standbyPending = false ∧ s.nvme.activation = none) ∧
    (∃ (s : State) (c : Nat), s.hasCtrl c = true ∧ (s.ctrl c).en = true ∧ s.nvme.inflight = [] ∧ s.nvme.drains = [] ∧ s.nvme.activation = none) ∧
    (∃ (s : State) (c : Nat) (shn : Nat), s.live = true ∧ (s.ctrl c).en = true ∧ (shn = 1 ∨ shn = 2) ∧ s.nvme.inflight = []) ∧
    (∃ (s : State) (c : Nat) (shn : Nat) (m : Cmd) (y : SubQ) (x : ComQ), s.live = true ∧ (s.ctrl c).en = true ∧ (shn = 1 ∨ shn = 2) ∧ s.alone m y x = true ∧ m.ctrl = c ∧ m.sq = 1 ∧ isReadOp m.e.opc = true ∧ m.durable = false) ∧
    (∃ (_s : State) (c : Nat), c < 2) ∧
    (∃ (s : State) (c : Nat) (q : Nat) (x : SubQ) (tail : Nat), s.live = true ∧ (s.ctrl c).en = true ∧ s.sq c q = some x ∧ tail < x.size) ∧
    (∃ (s : State) (c : Nat) (q : Nat) (_v : Nat), s.live = true ∧ (s.ctrl c).en = true ∧ (s.ctrl c).aers = [] ∧ s.sq c q = none) ∧
    (∃ (s : State) (c : Nat) (q : Nat) (v : Nat) (x : SubQ), s.live = true ∧ (s.ctrl c).en = true ∧ (s.ctrl c).aers = [] ∧ s.sq c q = some x ∧ x.size ≤ v) ∧
    (∃ (s : State) (c : Nat) (q : Nat) (v : Nat), s.live = true ∧ (s.ctrl c).en = true ∧ (s.ctrl c).aers = [] ∧ (s.cq c q).map (fun x => decide (x.size ≤ v)) ≠ some false) ∧
    (∃ (s : State) (c : Nat) (q : Nat) (x : ComQ) (head : Nat), s.live = true ∧ (s.ctrl c).en = true ∧ s.cq c q = some x ∧ head < x.size ∧ x.held = [] ∧ s.nvme.inflight = [] ∧ s.nvme.drains = []) ∧
    (∃ (s : State) (c : Nat) (q : Nat) (x : ComQ) (e : Cqe), s.live = true ∧ (s.ctrl c).en = true ∧ s.cq c q = some x ∧ x.held = [e] ∧ 2 < x.size ∧ x.tail + 1 = x.size ∧ s.nvme.inflight = [] ∧ s.nvme.drains = []) ∧
    (∃ (s : State) (c : Nat) (q : Nat) (e : SqEntry) (ranges : List (Nat × Nat)) (x : SubQ), s.live = true ∧ s.sq c q = some x ∧ s.mayFetch c q e x = true ∧ s.fetchStatus c q e ranges = none ∧ q ≠ 0 ∧ s.power.standbyPending = false ∧ (s.newCmd c q e ranges none).media = true ∧ s.pwState = pwActive ∧ s.locksTaken + (s.locksOf e ranges).length ≤ 8192 ∧ s.cmd? c q e.cid = none) ∧
    (∃ (s : State) (c : Nat) (e : SqEntry) (ranges : List (Nat × Nat)) (x : SubQ), s.live = true ∧ s.sq c 0 = some x ∧ s.mayFetch c 0 e x = true ∧ s.fetchStatus c 0 e ranges = none) ∧
    (∃ (s : State) (c : Nat) (q : Nat) (e : SqEntry) (_ranges : List (Nat × Nat)) (x : SubQ) (y : ComQ), s.live = true ∧ s.sq c q = some x ∧ s.cq c x.cq = some y ∧ s.mayFetch c q e x = true ∧ s.bit FB_STAT.BASENOTE = true ∧ q ≠ 0 ∧ x.ordered = false ∧ s.nvme.inflight = [] ∧ s.nvme.drains = [] ∧ (s.ctrl c).abortMarks = []) ∧
    (∃ (s : State) (c : Nat) (q : Nat) (e : SqEntry) (_ranges : List (Nat × Nat)), s.live = true ∧ (match s.sq c q with | some x => s.mayFetch c q e x | none => false) = false) ∧
    (∃ (s : State) (c : Nat) (q : Nat) (cid : Nat) (m : Cmd), s.live = true ∧ s.cmd? c q cid = some m ∧ q ≠ 0 ∧ m.fault = none ∧ m.granted = false ∧ s.locksTaken + m.locks.length ≤ 8192) ∧
    (∃ (s : State) (c : Nat) (v : Nat) (q : Nat) (x : ComQ), s.live = true ∧ s.cq c q = some x ∧ x.vector = v ∧ x.coal ≠ 0 ∧ (s.ctrl c).cqs.Pairwise (fun x y => x.1 < y.1) ∧ q < 64) ∧
    (∃ (s : State) (c : Nat) (q : Nat) (cid : Nat) (m : Cmd) (y : SubQ) (x : ComQ), s.live = true ∧ s.cmd? c q cid = some m ∧ s.alone m y x = true ∧ y.ordered = false ∧ q ≠ 0 ∧ isReadOp m.e.opc = true ∧ s.feature c 0x05 0 % 65536 ≠ 0 ∧ m.fault = none ∧ m.ready = none) ∧
    (∃ (s : State) (c : Nat) (q : Nat) (cid : Nat), s.live = true ∧ (s.cmd? c q cid = none ∨ q = 0 ∨ s.feature c 0x05 0 % 65536 = 0)) ∧
    (∃ (s : State) (c : Nat), s.live = true ∧ (s.ctrl c).busMaster = true) ∧
    (∃ (s : State) (c : Nat) (d : Drain), s.live = true ∧ s.nvme.drains.find? (fun d => d.ctrl == c && d.id == 0 && d.kind == drBme) = some d ∧ s.nvme.inflight.any (fun m => m.inDrain d) = true) ∧
    (∃ (s : State) (c : Nat) (q : Nat) (d : Drain) (m : Cmd), s.live = true ∧ s.nvme.drains = [d] ∧ d.ctrl = c ∧ d.id = q ∧ d.kind = drSq ∧ s.nvme.inflight = [m] ∧ m.ctrl = c ∧ m.sq = q ∧ q ≠ 0 ∧ isReadOp m.e.opc = true ∧ m.durable = false) ∧
    (∃ (s : State), s.live = true ∧ s.power.hibernatePending = true ∧ s.pwState = pwStandby) ∧
    (∃ (s : State), s.live = true ∧ (s.power.hibernatePending = false ∨ s.pwState ≠ pwStandby)) :=
  ⟨⟨alive ((nvm [] []).modCtrl 0 (fun k => { k with en := false, rdy := false, sqs := [], cqs := [] })), 0, true, false, 15, 7, by decide +kernel⟩,
   ⟨alive (nvm [] []), 0, true, false, 15, 7, by decide +kernel⟩,
   ⟨alive ((nvm [] []).modCtrl 0 (fun k => { k with rdy := false, attached := [] })), 0, by decide +kernel⟩,
   ⟨alive ((nvm [(MP_STAT.STATE, 2)] []).modCtrl 0 (fun k => { k with rdy := false })), 0, by decide +kernel⟩,
   ⟨nvm [] [], 0, by decide +kernel⟩,
   ⟨nvm [] [], 0, by decide +kernel⟩,
   ⟨alive (nvm [] []), 0, 1, by decide +kernel⟩,
   ⟨alive (nvm [] [{ cmdR with granted := false }]), 0, 1, { cmdR with granted := false }, sq0 1, cq0 1, by decide +kernel⟩,
   ⟨(nvm [] []).modCtrl 0 (fun k => { k with perst := false, linkUp := false }), 0, by decide +kernel⟩,
   ⟨alive (nvm [] []), 0, 1, sq0 1, 5, by decide +kernel⟩,
   ⟨alive (nvm [] []), 0, 5, 5, by decide +kernel⟩,
   ⟨alive (nvm [] []), 0, 1, 16, sq0 1, by decide +kernel⟩,
   ⟨alive (nvm [] []), 0, 1, 16, by decide +kernel⟩,
   ⟨alive (nvm [] []), 0, 1, cq0 1, 1, by decide +kernel⟩,
   ⟨alive (((nvm [] []).putCq 0 1 (some { cq0 1 with tail := 15, held := [⟨0, 1, 1, 9, .ok, 0, 0, false⟩] }))), 0, 1, { cq0 1 with tail := 15, held := [⟨0, 1, 1, 9, .ok, 0, 0, false⟩] }, ⟨0, 1, 1, 9, .ok, 0, 0, false⟩, by decide +kernel⟩,
   ⟨alive (((nvm [] []).putSq 0 1 (some { sq0 1 with tail := 5 }))), 0, 1, sqe 2 1 0 0, [], { sq0 1 with tail := 5 }, by decide +kernel⟩,
   ⟨alive (((nvm [] []).putSq 0 0 (some { sq0 0 with tail := 5 }))), 0, adm 9 0 0xA 0, [], { sq0 0 with tail := 5 }, by decide +kernel⟩,
   ⟨alive (((nvm [(FB_STAT.BASENOTE, 1)] []).putSq 0 1 (some { sq0 1 with tail := 5 }))), 0, 1, sqe 2 1 0 0, [], { sq0 1 with tail := 5 }, cq0 1, by decide +kernel⟩,
   ⟨alive (nvm [] []), 0, 1, sqe 2 1 0 0, [], by decide +kernel⟩,
   ⟨alive (nvm [] [{ cmdN 1 (sqe 2 1 0 0) with granted := false }]), 0, 1, 9, { cmdN 1 (sqe 2 1 0 0) with granted := false }, by decide +kernel⟩,
   ⟨alive ((nvm [] []).putCq 0 1 (some { cq0 1 with coal := 3 })), 0, 1, 1, { cq0 1 with coal := 3 }, by decide +kernel⟩,
   ⟨alive ((nvm [] [{ cmdR with waits := [34] }]).setFeature 0 5 0 3), 0, 1, 9, { cmdR with waits := [34] }, sq0 1, cq0 1, by decide +kernel⟩,
   ⟨alive ((nvm [] [cmdR])), 0, 1, 9, by decide +kernel⟩,
   ⟨alive (nvm [] []), 0, by decide +kernel⟩,
   ⟨alive ({ nvm [] [cmdR] with nvme := { (nvm [] [cmdR]).nvme with drains := [⟨0, 0, drBme, 0, 0⟩] } }), 0, ⟨0, 0, drBme, 0, 0⟩, by decide +kernel⟩,
   ⟨alive ({ nvm [] [{ cmdR with waits := [] }] with nvme := { (nvm [] [cmdR]).nvme with drains := [⟨0, 1, drSq, 0, 3⟩] } }), 0, 1, ⟨0, 1, drSq, 0, 3⟩, cmdR, by decide +kernel⟩,
   ⟨alive ((nvm [(PW_STAT.STATE, 3)] []).modPower (fun p => { p with hibernatePending := true })), by decide +kernel⟩,
   ⟨alive (nvm [] []), by decide +kernel⟩⟩

theorem witness_firmware_images :
    (∃ (s : State) (c : Nat) (cid : Nat) (data : List Byte) (m : Cmd), s.live = true ∧ s.admReady c cid 0x11 m = true ∧ (m.e.cdw10 + 1) % 1024 = 0 ∧ m.e.cdw11 % 1024 = 0 ∧ 4 * m.e.cdw11 + 4 * (m.e.cdw10 + 1) ≤ 0x400000 ∧ 4 * (m.e.cdw10 + 1) ≤ data.length ∧ m.e.cdw11 ≠ 0) ∧
    (∃ (s : State) (c : Nat) (cid : Nat) (data : List Byte) (m : Cmd), s.live = true ∧ s.admReady c cid 0x11 m = true ∧ (m.e.cdw10 + 1) % 1024 = 0 ∧ m.e.cdw11 = 0 ∧ 4 * (m.e.cdw10 + 1) ≤ 0x400000 ∧ 4 * (m.e.cdw10 + 1) ≤ data.length) ∧
    (∃ (s : State) (c : Nat) (cid : Nat) (_data : List Byte) (m : Cmd), s.live = true ∧ s.admReady c cid 0x11 m = true ∧ ((m.e.cdw10 + 1) % 1024 ≠ 0 ∨ m.e.cdw11 % 1024 ≠ 0 ∨ 0x400000 < 4 * m.e.cdw11 + 4 * (m.e.cdw10 + 1))) ∧
    (∃ (s : State) (c : Nat) (cid : Nat) (m : Cmd), s.live = true ∧ s.admReady c cid 0x10 m = true ∧ commitAction m = 0 ∧ m.e.cdw10 % 8 = 2 ∧ domOfCode (ptTarget s.dlBundle) = none ∧ s.nvme.fwStore = none) ∧
    (∃ (s : State) (c : Nat) (cid : Nat) (m : Cmd), s.live = true ∧ s.admReady c cid 0x10 m = true ∧ commitAction m = 1 ∧ m.e.cdw10 % 8 = 2 ∧ domOfCode (ptTarget s.dlBundle) = none ∧ s.nvme.fwStore = none) ∧
    (∃ (s : State) (c : Nat) (cid : Nat) (m : Cmd), s.live = true ∧ s.admReady c cid 0x10 m = true ∧ commitAction m = 3 ∧ m.e.cdw10 % 8 = 2 ∧ domOfCode (ptTarget s.dlBundle) = none ∧ s.nvme.fwStore = none) ∧
    (∃ (s : State) (c : Nat) (cid : Nat) (m : Cmd), s.live = true ∧ s.admReady c cid 0x10 m = true ∧ m.e.cdw10 % 8 = 7 ∧ acKind s.dlAccord ≠ 1 ∧ commitAction m = 0) ∧
    (∃ (s : State) (c : Nat) (cid : Nat) (m : Cmd), s.live = true ∧ s.admReady c cid 0x10 m = true ∧ m.e.cdw10 % 8 = 7 ∧ acKind s.dlAccord ≠ 1 ∧ commitAction m = 1) ∧
    (∃ (s : State) (c : Nat) (cid : Nat) (m : Cmd), s.live = true ∧ s.admReady c cid 0x10 m = true ∧ m.e.cdw10 % 8 = 7 ∧ acKind s.dlAccord ≠ 1 ∧ commitAction m = 3) ∧
    (∃ (s : State) (c : Nat) (cid : Nat) (m : Cmd) (k : Nat), s.live = true ∧ s.admReady c cid 0x10 m = true ∧ commitAction m = 2 ∧ m.e.cdw10 % 8 = 2 ∧ [0, 1].find? (fun k => s.ptSlotState k == asPending) = some k) ∧
    (∃ (s : State) (c : Nat) (cid : Nat) (m : Cmd), s.live = true ∧ s.admReady c cid 0x10 m = true ∧ commitAction m = 2 ∧ m.e.cdw10 % 8 = 2 ∧ s.ptSlotState 0 ≠ asPending ∧ s.ptSlotState 1 ≠ asPending) ∧
    (∃ (s : State) (c : Nat) (cid : Nat) (m : Cmd), s.live = true ∧ s.admReady c cid 0x10 m = true ∧ m.e.cdw10 % 8 ∉ [1, 2, 3, 7] ∧ commitAction m = 0) ∧
    (∃ (s : State) (c : Nat) (cid : Nat) (m : Cmd), s.live = true ∧ s.admReady c cid 0x10 m = true ∧ m.e.cdw10 % 8 ∉ [1, 2, 3, 7] ∧ commitAction m = 1) ∧
    (∃ (s : State) (c : Nat) (cid : Nat) (m : Cmd), s.live = true ∧ s.admReady c cid 0x10 m = true ∧ m.e.cdw10 % 8 ∉ [1, 2, 3, 7] ∧ commitAction m = 2) ∧
    (∃ (s : State) (c : Nat) (cid : Nat) (m : Cmd), s.live = true ∧ s.admReady c cid 0x10 m = true ∧ m.e.cdw10 % 8 ∉ [1, 2, 3, 7] ∧ commitAction m = 3) ∧
    (∃ (s : State) (x : FwStore) (m : Cmd), s.live = true ∧ s.nvme.fwStore = some x ∧ x.dest < 2 ∧ x.action ≠ 3 ∧ s.cmd? x.ctrl 0 x.cid = some m) ∧
    (∃ (s : State) (x : FwStore) (m : Cmd), s.live = true ∧ s.nvme.fwStore = some x ∧ x.dest < 2 ∧ s.cmd? x.ctrl 0 x.cid = some m) ∧
    (∃ (s : State) (x : FwStore) (m : Cmd), s.live = true ∧ s.nvme.fwStore = some x ∧ x.dest < 2 ∧ x.action = 3 ∧ s.cmd? x.ctrl 0 x.cid = some m ∧ s.bit FB_STAT.BASENOTE = false) ∧
    (∃ (s : State) (a : Activation), s.live = true ∧ s.nvme.activation = some a ∧ a.drained = false ∧ s.nvme.inflight.all (fun m => !a.waitsFor m) = true) ∧
    (∃ (s : State) (a : Activation), s.live = true ∧ s.nvme.activation = some a ∧ a.drained = false ∧ s.nvme.inflight.any (fun m => a.waitsFor m) = true ∧ s.nvme.inflight.all (fun m => isReadOp m.e.opc && !m.durable && !m.e.opc == 0x81 || m.sq == 0) = true ∧ s.nvme.drains = [] ∧ (s.nvme.inflight.map (fun m => (m.ctrl, m.sq, m.e.cid))).Nodup) ∧
    (∃ (s : State) (x : FwStore) (m : Cmd), s.live = true ∧ s.nvme.fwStore = some x ∧ (x.dest = 2 ∨ x.dest = 3) ∧ x.sec = false ∧ s.cmd? x.ctrl 0 x.cid = some m) ∧
    (∃ (s : State) (x : FwStore) (m : Cmd) (_ok : Bool), s.live = true ∧ s.nvme.fwStore = some x ∧ (x.dest = 2 ∨ x.dest = 3) ∧ x.sec = true ∧ s.cmd? x.ctrl 0 x.cid = some m) ∧
    (∃ (s : State) (_ok : Bool), s.live = true ∧ s.nvme.fwStore = none) :=
  ⟨⟨alive (nvm [] [cmdA 0x11 0 1023 1024]), 0, 9, zeros 4096, cmdA 0x11 0 1023 1024, by decide +kernel⟩,
   ⟨alive (nvm [] [cmdA 0x11 0 1023 0]), 0, 9, zeros 4096, cmdA 0x11 0 1023 0, by decide +kernel⟩,
   ⟨alive (nvm [] [cmdA 0x11 0 1000 0]), 0, 9, zeros 4096, cmdA 0x11 0 1000 0, by decide +kernel⟩,
   ⟨alive (nvm [] [cmdA 0x10 0 2 0]), 0, 9, cmdA 0x10 0 2 0, by decide +kernel⟩,
   ⟨alive (nvm [] [cmdA 0x10 0 10 0]), 0, 9, cmdA 0x10 0 10 0, by decide +kernel⟩,
   ⟨alive (nvm [] [cmdA 0x10 0 26 0]), 0, 9, cmdA 0x10 0 26 0, by decide +kernel⟩,
   ⟨alive (nvm [(AC_STAT.BUSY, 0)] [cmdA 0x10 0 7 0]), 0, 9, cmdA 0x10 0 7 0, by decide +kernel⟩,
   ⟨alive (nvm [(AC_STAT.BUSY, 0)] [cmdA 0x10 0 15 0]), 0, 9, cmdA 0x10 0 15 0, by decide +kernel⟩,
   ⟨alive (nvm [(AC_STAT.BUSY, 0)] [cmdA 0x10 0 31 0]), 0, 9, cmdA 0x10 0 31 0, by decide +kernel⟩,
   ⟨alive ({ nvm [] [cmdA 0x10 0 18 0] with nv := { NonVol.reset with patch := [(1, ⟨[0x50, 0x54, 0x43, 0x48], Marks.erased⟩)] } }), 0, 9, cmdA 0x10 0 18 0, 1, by decide +kernel⟩,
   ⟨alive (nvm [] [cmdA 0x10 0 18 0]), 0, 9, cmdA 0x10 0 18 0, by decide +kernel⟩,
   ⟨alive (nvm [] [cmdA 0x10 0 5 0]), 0, 9, cmdA 0x10 0 5 0, by decide +kernel⟩,
   ⟨alive (nvm [] [cmdA 0x10 0 13 0]), 0, 9, cmdA 0x10 0 13 0, by decide +kernel⟩,
   ⟨alive (nvm [] [cmdA 0x10 0 21 0]), 0, 9, cmdA 0x10 0 21 0, by decide +kernel⟩,
   ⟨alive (nvm [] [cmdA 0x10 0 29 0]), 0, 9, cmdA 0x10 0 29 0, by decide +kernel⟩,
   ⟨alive ({ nvm [] [cmdA 0x10 0 10 0] with nvme := { (nvm [] [cmdA 0x10 0 10 0]).nvme with fwStore := some ⟨1, 0, 9, 1, false, [1, 2]⟩ } }), ⟨1, 0, 9, 1, false, [1, 2]⟩, cmdA 0x10 0 10 0, by decide +kernel⟩,
   ⟨alive ({ nvm [] [cmdA 0x10 0 10 0] with nvme := { (nvm [] [cmdA 0x10 0 10 0]).nvme with fwStore := some ⟨1, 0, 9, 1, false, [1, 2]⟩ } }), ⟨1, 0, 9, 1, false, [1, 2]⟩, cmdA 0x10 0 10 0, by decide +kernel⟩,
   ⟨alive ({ nvm [] [cmdA 0x10 0 26 0] with nvme := { (nvm [] [cmdA 0x10 0 26 0]).nvme with fwStore := some ⟨1, 0, 9, 3, false, [1, 2]⟩ } }), ⟨1, 0, 9, 3, false, [1, 2]⟩, cmdA 0x10 0 26 0, by decide +kernel⟩,
   ⟨alive ({ nvm [] [cmdA 0x10 0 26 0] with nvme := { (nvm [] [cmdA 0x10 0 26 0]).nvme with activation := some ⟨0, 9, 1, false⟩ } }), ⟨0, 9, 1, false⟩, by decide +kernel⟩,
   ⟨alive ({ nvm [] [cmdA 0x10 0 26 0, { cmdR with e := { cmdR.e with cid := 10 } }] with nvme := { (nvm [] [cmdA 0x10 0 26 0, { cmdR with e := { cmdR.e with cid := 10 } }]).nvme with activation := some ⟨0, 9, 1, false⟩ } }), ⟨0, 9, 1, false⟩, by decide +kernel⟩,
   ⟨alive ({ nvm [] [cmdA 0x10 0 11 0] with nvme := { (nvm [] [cmdA 0x10 0 11 0]).nvme with fwStore := some ⟨3, 0, 9, 1, false, [1, 2]⟩ } }), ⟨3, 0, 9, 1, false, [1, 2]⟩, cmdA 0x10 0 11 0, by decide +kernel⟩,
   ⟨alive ({ nvm [] [cmdA 0x81 0 0xF0000000 480] with nvme := { (nvm [] [cmdA 0x81 0 0xF0000000 480]).nvme with fwStore := some ⟨3, 0, 9, 1, true, [1, 2]⟩ } }), ⟨3, 0, 9, 1, true, [1, 2]⟩, cmdA 0x81 0 0xF0000000 480, false, by decide +kernel⟩,
   ⟨alive (nvm [] []), true, by decide +kernel⟩⟩

theorem witness_admin_commands :
    (∃ (s : State) (c : Nat) (cid : Nat) (m : Cmd) (y : SubQ) (x : ComQ), s.live = true ∧ s.admReady c cid 0x09 m = true ∧ m.e.cdw10 % 256 = 0x0A ∧ s.alone m y x = true) ∧
    (∃ (s : State) (c : Nat) (cid : Nat) (m : Cmd) (y : SubQ), s.live = true ∧ s.admReady c cid 0x00 m = true ∧ m.e.cdw10 % 65536 ≠ 0 ∧ s.sq c (m.e.cdw10 % 65536) = some y ∧ y.draining = false) ∧
    (∃ (s : State) (c : Nat) (cid : Nat) (m : Cmd), s.live = true ∧ s.admReady c cid 0x01 m = true) ∧
    (∃ (s : State) (c : Nat) (cid : Nat) (m : Cmd), s.live = true ∧ s.admReady c cid 0x01 m = true ∧ (m.e.cdw10 % 65536 = 0 ∨ s.maxQueues < m.e.cdw10 % 65536 ∨ (s.sq c (m.e.cdw10 % 65536)).isSome = true)) ∧
    (∃ (s : State) (c : Nat) (cid : Nat) (m : Cmd), s.live = true ∧ s.admReady c cid 0x04 m = true ∧ m.e.cdw10 % 65536 ≠ 0 ∧ (s.cq c (m.e.cdw10 % 65536)).isSome = true ∧ (s.ctrl c).sqs.all (fun x => (x.2.map (fun y => y.cq)) != some (m.e.cdw10 % 65536)) = true) ∧
    (∃ (s : State) (c : Nat) (cid : Nat) (m : Cmd), s.live = true ∧ s.admReady c cid 0x04 m = true ∧ m.e.cdw10 % 65536 ≠ 0 ∧ (s.cq c (m.e.cdw10 % 65536)).isSome = true ∧ (s.ctrl c).sqs.any (fun x => (x.2.map (fun y => y.cq)) == some (m.e.cdw10 % 65536)) = true) ∧
    (∃ (s : State) (c : Nat) (cid : Nat) (m : Cmd), s.live = true ∧ s.admReady c cid 0x05 m = true ∧ m.e.cdw10 % 65536 ≠ 0 ∧ m.e.cdw10 % 65536 ≤ s.maxQueues ∧ s.cq c (m.e.cdw10 % 65536) = none ∧ 65536 ≤ m.e.cdw10 ∧ m.e.cdw11 % 2 = 1 ∧ m.e.cdw11 / 65536 ≤ 1024) ∧
    (∃ (s : State) (c : Nat) (cid : Nat) (m : Cmd), s.live = true ∧ s.admReady c cid 0x05 m = true ∧ m.e.cdw10 % 65536 ≠ 0 ∧ m.e.cdw10 % 65536 ≤ s.maxQueues ∧ s.cq c (m.e.cdw10 % 65536) = none ∧ (m.e.cdw10 / 65536 = 0 ∨ m.e.cdw11 % 2 = 0 ∨ 1024 < m.e.cdw11 / 65536)) ∧
    (∃ (s : State) (c : Nat) (cid : Nat) (m : Cmd), s.live = true ∧ s.admReady c cid 0x06 m = true ∧ m.e.cdw10 % 256 = 0x01) ∧
    (∃ (s : State) (c : Nat) (cid : Nat) (m : Cmd) (n : Namespace), s.live = true ∧ s.admReady c cid 0x06 m = true ∧ m.e.cdw10 % 256 = 0x00 ∧ m.e.nsid ≠ 0 ∧ m.e.nsid ≤ s.nn ∧ s.namespace? m.e.nsid = some n ∧ (s.ctrl c).attached.contains m.e.nsid = true) ∧
    (∃ (s : State) (c : Nat) (cid : Nat) (m : Cmd), s.live = true ∧ s.admReady c cid 0x02 m = true ∧ m.e.cdw10 % 256 = 0x01 ∧ m.e.cdw12 = 0 ∧ m.e.cdw13 = 0 ∧ s.nvme.errors.length ≤ 64) ∧
    (∃ (s : State) (c : Nat) (cid : Nat) (m : Cmd) (k : Cmd) (_unfetched : Bool), s.live = true ∧ s.admReady c cid 0x08 m = true ∧ s.cmd? c (m.e.cdw10 % 65536) (m.e.cdw10 / 65536) = some k ∧ k.seq ≠ m.seq ∧ isReadOp k.e.opc = true ∧ k.sq ≠ 0 ∧ k.ready = none ∧ s.nvme.inflight.all (fun j => j.e.opc != 0x08 || j.seq == m.seq) = true) ∧
    (∃ (s : State) (c : Nat) (cid : Nat) (m : Cmd), s.live = true ∧ s.admReady c cid 0x08 m = true ∧ s.cmd? c (m.e.cdw10 % 65536) (m.e.cdw10 / 65536) = none ∧ s.nvme.inflight.all (fun j => j.e.opc != 0x08 || j.seq == m.seq) = true) ∧
    (∃ (s : State) (c : Nat) (cid : Nat) (m : Cmd), s.live = true ∧ s.admReady c cid 0x09 m = true ∧ m.e.cdw10 % 256 = 0x01) ∧
    (∃ (s : State) (c : Nat) (cid : Nat) (m : Cmd), s.live = true ∧ s.admReady c cid 0x09 m = true ∧ m.e.cdw10 % 256 = 0x05 ∧ m.e.cdw11 % 65536 ≤ 30) ∧
    (∃ (s : State) (c : Nat) (cid : Nat) (m : Cmd), s.live = true ∧ s.admReady c cid 0x09 m = true ∧ m.e.cdw10 % 256 = 0x05 ∧ 30 < m.e.cdw11 % 65536) ∧
    (∃ (s : State) (c : Nat) (cid : Nat) (m : Cmd), s.live = true ∧ s.admReady c cid 0x09 m = true ∧ m.e.cdw10 % 256 = 0x08) ∧
    (∃ (s : State) (c : Nat) (cid : Nat) (m : Cmd), s.live = true ∧ s.admReady c cid 0x09 m = true ∧ m.e.cdw10 % 256 = 0x09 ∧ m.e.cdw11 % 65536 ≤ 1024) ∧
    (∃ (s : State) (c : Nat) (cid : Nat) (m : Cmd), s.live = true ∧ s.admReady c cid 0x09 m = true ∧ m.e.cdw10 % 256 = 0x09 ∧ 1024 < m.e.cdw11 % 65536) ∧
    (∃ (s : State) (c : Nat) (cid : Nat) (m : Cmd), s.live = true ∧ s.admReady c cid 0x09 m = true ∧ m.e.cdw10 % 256 = 0x0B) ∧
    (∃ (s : State) (c : Nat) (cid : Nat) (m : Cmd), s.live = true ∧ s.admReady c cid 0x09 m = true ∧ m.e.cdw10 % 256 = 0x02 ∧ m.e.cdw11 % 32 ≤ 2) ∧
    (∃ (s : State) (c : Nat) (cid : Nat) (m : Cmd), s.live = true ∧ s.admReady c cid 0x09 m = true ∧ m.e.cdw10 % 256 = 0x02 ∧ 2 < m.e.cdw11 % 32) ∧
    (∃ (s : State) (c : Nat) (cid : Nat) (m : Cmd), s.live = true ∧ s.admReady c cid 0x09 m = true ∧ m.e.cdw10 % 256 = 0x04 ∧ m.e.cdw11 / 2 ^ 16 % 16 = 0 ∧ (m.e.cdw11 / 2 ^ 20 % 4 = 1 ∨ (m.e.cdw11 / 2 ^ 20 % 4 = 0 ∧ m.e.cdw11 % 65536 ≤ s.fld TH_LIMITS.WARN + 273))) ∧
    (∃ (s : State) (c : Nat) (cid : Nat) (m : Cmd), s.live = true ∧ s.admReady c cid 0x09 m = true ∧ m.e.cdw10 % 256 = 0x04 ∧ (m.e.cdw11 / 2 ^ 16 % 16 ≠ 0 ∨ 1 < m.e.cdw11 / 2 ^ 20 % 4 ∨ (m.e.cdw11 / 2 ^ 20 % 4 = 0 ∧ s.fld TH_LIMITS.WARN + 273 < m.e.cdw11 % 65536))) ∧
    (∃ (s : State) (c : Nat) (cid : Nat) (m : Cmd), s.live = true ∧ s.admReady c cid 0x09 m = true ∧ m.e.cdw10 % 256 = 0x07 ∧ m.e.cdw11 % 65536 ≠ 0xFFFF ∧ m.e.cdw11 / 65536 ≠ 0xFFFF) ∧
    (∃ (s : State) (c : Nat) (cid : Nat) (m : Cmd) (_ms : Nat), s.live = true ∧ s.admReady c cid 0x09 m = true ∧ m.e.cdw10 % 256 = 0x0E) ∧
    (∃ (s : State) (c : Nat) (cid : Nat) (m : Cmd), s.live = true ∧ s.admReady c cid 0x09 m = true ∧ m.e.nsid ≠ 0xFFFFFFFF ∧ s.nsFault c m.e.nsid = none ∧ m.e.cdw10 % 256 = 0x81) ∧
    (∃ (s : State) (c : Nat) (cid : Nat) (m : Cmd), s.live = true ∧ s.admReady c cid 0x09 m = true ∧ m.e.nsid ≠ 0xFFFFFFFF ∧ s.nsFault c m.e.nsid = none ∧ m.e.cdw10 % 256 = 0x82) ∧
    (∃ (s : State) (c : Nat) (cid : Nat) (m : Cmd), s.live = true ∧ s.admReady c cid 0x09 m = true ∧ m.e.cdw10 % 256 = 0x82 ∧ m.e.nsid ≠ 0xFFFFFFFF ∧ s.nsFault c m.e.nsid = none ∧ m.e.cdw11 % 2 = 1) ∧
    (∃ (s : State) (c : Nat) (cid : Nat) (m : Cmd), s.live = true ∧ s.admReady c cid 0x09 m = true ∧ m.e.cdw10 % 256 = 0xC0 ∧ m.e.cdw11 % 65536 ≠ 0 ∧ m.e.cdw11 % 65536 ≤ s.maxQueues ∧ s.sq c (m.e.cdw11 % 65536) = none ∧ natBit m.e.cdw11 31 = true ∧ (s.ctrl c).orderedMarks.contains (m.e.cdw11 % 65536) = false) ∧
    (∃ (s : State) (c : Nat) (cid : Nat) (m : Cmd), s.live = true ∧ s.admReady c cid 0x09 m = true ∧ m.e.cdw10 % 256 = 0xC0 ∧ (m.e.cdw11 % 65536 = 0 ∨ s.maxQueues < m.e.cdw11 % 65536 ∨ (s.sq c (m.e.cdw11 % 65536)).isSome = true)) ∧
    (∃ (s : State) (c : Nat) (cid : Nat) (m : Cmd), s.live = true ∧ s.admReady c cid 0x09 m = true ∧ m.e.cdw10 % 256 = 0xC1 ∧ s.featStream = true) ∧
    (∃ (s : State) (c : Nat) (cid : Nat) (m : Cmd), s.live = true ∧ s.admReady c cid 0x09 m = true ∧ m.e.cdw10 % 256 = 0xC1 ∧ s.featStream = false) ∧
    (∃ (s : State) (c : Nat) (cid : Nat) (m : Cmd), s.live = true ∧ s.admReady c cid 0x0A m = true ∧ m.e.cdw10 / 2 ^ 8 % 8 ≤ 1 ∧ m.e.cdw10 % 256 = 0x07) ∧
    (∃ (s : State) (c : Nat) (cid : Nat) (m : Cmd), s.live = true ∧ s.admReady c cid 0x0A m = true ∧ m.e.cdw10 / 2 ^ 8 % 8 = 0 ∧ m.e.cdw10 % 256 = 0x01 ∧ s.feature c 1 0 ≠ 0) ∧
    (∃ (s : State) (c : Nat) (cid : Nat) (m : Cmd), s.live = true ∧ s.admReady c cid 0x0C m = true ∧ (s.ctrl c).aers.length < 8 ∧ (s.ctrl c).events = []) ∧
    (∃ (s : State) (c : Nat) (cid : Nat) (m : Cmd), s.live = true ∧ s.admReady c cid 0x0C m = true ∧ 8 ≤ (s.ctrl c).aers.length) ∧
    (∃ (s : State) (c : Nat) (cid : Nat) (m : Cmd) (nsze : Nat) (flbas : Nat) (id : Nat) (b : Nat), s.live = true ∧ s.admReady c cid 0x0D m = true ∧ m.e.cdw10 % 16 = 0 ∧ s.mapReady = true ∧ flbas % 16 = 0 ∧ nsze ≠ 0 ∧ m.e.cdw11 / 2 ^ 24 % 256 = 0 ∧ (List.range' 1 s.nn).find? (fun i => (s.namespace? i).isNone) = some id ∧ s.freeRange nsze = some b) ∧
    (∃ (s : State) (c : Nat) (cid : Nat) (m : Cmd) (_nsze : Nat) (_ncap : Nat) (_flbas : Nat), s.live = true ∧ s.admReady c cid 0x0D m = true ∧ m.e.cdw10 % 16 = 0 ∧ s.mapReady = false) ∧
    (∃ (s : State) (c : Nat) (cid : Nat) (m : Cmd) (_nsze : Nat) (_ncap : Nat) (flbas : Nat), s.live = true ∧ s.admReady c cid 0x0D m = true ∧ m.e.cdw10 % 16 = 0 ∧ s.mapReady = true ∧ flbas % 16 ≠ 0) ∧
    (∃ (s : State) (c : Nat) (cid : Nat) (m : Cmd) (nsze : Nat) (ncap : Nat) (flbas : Nat), s.live = true ∧ s.admReady c cid 0x0D m = true ∧ m.e.cdw10 % 16 = 0 ∧ s.mapReady = true ∧ flbas % 16 = 0 ∧ (nsze ≠ ncap ∨ nsze = 0)) ∧
    (∃ (s : State) (c : Nat) (cid : Nat) (m : Cmd) (n : Namespace), s.live = true ∧ s.admReady c cid 0x0D m = true ∧ m.e.cdw10 % 16 = 1 ∧ m.e.nsid ≠ 0 ∧ m.e.nsid ≤ s.nn ∧ s.namespace? m.e.nsid = some n ∧ n.draining = false) ∧
    (∃ (s : State) (c : Nat) (cid : Nat) (m : Cmd), s.live = true ∧ s.admReady c cid 0x15 m = true ∧ m.e.cdw10 % 16 = 0 ∧ s.attachFault m [1] = none ∧ (s.ctrl 0).attached.contains m.e.nsid = false) ∧
    (∃ (s : State) (c : Nat) (cid : Nat) (m : Cmd), s.live = true ∧ s.admReady c cid 0x15 m = true ∧ m.e.cdw10 % 16 = 0 ∧ s.attachFault m [1] = none ∧ (s.ctrl 0).attached.contains m.e.nsid = true) ∧
    (∃ (s : State) (c : Nat) (cid : Nat) (m : Cmd), s.live = true ∧ s.admReady c cid 0x15 m = true ∧ m.e.cdw10 % 16 = 1 ∧ s.attachFault m [1] = none ∧ (s.ctrl 0).attached.contains m.e.nsid = true) ∧
    (∃ (s : State) (c : Nat) (cid : Nat) (m : Cmd), s.live = true ∧ s.admReady c cid 0x14 m = true ∧ s.nvme.selfTest = none ∧ m.e.cdw10 % 16 = 1) ∧
    (∃ (s : State) (c : Nat) (cid : Nat) (m : Cmd), s.live = true ∧ s.admReady c cid 0x14 m = true ∧ s.nvme.selfTest = none ∧ m.e.cdw10 % 16 = 2) ∧
    (∃ (s : State) (c : Nat) (cid : Nat) (m : Cmd), s.live = true ∧ s.admReady c cid 0x14 m = true ∧ s.nvme.selfTest.isSome = true ∧ m.e.cdw10 % 16 = 1) ∧
    (∃ (s : State) (c : Nat) (cid : Nat) (m : Cmd), s.live = true ∧ s.admReady c cid 0x14 m = true ∧ s.nvme.selfTest.isSome = true ∧ m.e.cdw10 % 16 = 2) ∧
    (∃ (s : State) (_c : Nat) (_cid : Nat) (_lba : Nat) (r : SelfTestRun), s.live = true ∧ s.nvme.selfTest = some r ∧ r.code = 1 ∧ r.segment ≤ 3) ∧
    (∃ (s : State) (_c : Nat) (_cid : Nat) (_lba : Nat) (r : SelfTestRun), s.live = true ∧ s.nvme.selfTest = some r ∧ r.code = 2 ∧ 3 ≤ r.segment) ∧
    (∃ (s : State) (c : Nat) (cid : Nat) (m : Cmd) (r : SelfTestRun), s.live = true ∧ s.admReady c cid 0x14 m = true ∧ m.e.cdw10 % 16 = 0xF ∧ s.nvme.selfTest = some r) ∧
    (∃ (s : State) (c : Nat) (cid : Nat) (m : Cmd) (n : Namespace), s.live = true ∧ s.admReady c cid 0x80 m = true ∧ m.e.cdw10 = 0 ∧ s.mapReady = true ∧ m.e.nsid ≠ 0xFFFFFFFF ∧ s.nsFault c m.e.nsid = none ∧ s.namespace? m.e.nsid = some n ∧ n.zoned = false ∧ n.conflict c true = false ∧ s.map.zones = []) ∧
    (∃ (s : State) (c : Nat) (cid : Nat) (m : Cmd), s.live = true ∧ s.admReady c cid 0x80 m = true ∧ natBits m.e.cdw10 9 3 = 0 ∧ natBits m.e.cdw10 4 5 = 0 ∧ m.e.cdw10 % 16 ≠ 0) :=
  ⟨⟨alive (nvm [] [cmdA 9 0 0xA 3]), 0, 9, cmdA 9 0 0xA 3, sq0 0, cq0 0, by decide +kernel⟩,
   ⟨alive (nvm [] [cmdA 0 0 1 0]), 0, 9, cmdA 0 0 1 0, sq0 1, by decide +kernel⟩,
   ⟨alive (nvm [] [cmdA 1 0 0x000F0002 0x00010001]), 0, 9, cmdA 1 0 0x000F0002 0x00010001, by decide +kernel⟩,
   ⟨alive (nvm [] [cmdA 1 0 0 0x00010001]), 0, 9, cmdA 1 0 0 0x00010001, by decide +kernel⟩,
   ⟨alive ((nvm [] [cmdA 4 0 1 0]).putSq 0 1 none), 0, 9, cmdA 4 0 1 0, by decide +kernel⟩,
   ⟨alive (nvm [] [cmdA 4 0 1 0]), 0, 9, cmdA 4 0 1 0, by decide +kernel⟩,
   ⟨alive (nvm [] [cmdA 5 0 0x000F0002 0x00020003]), 0, 9, cmdA 5 0 0x000F0002 0x00020003, by decide +kernel⟩,
   ⟨alive (nvm [] [cmdA 5 0 0x00000002 0x00020003]), 0, 9, cmdA 5 0 0x00000002 0x00020003, by decide +kernel⟩,
   ⟨alive (nvm [] [cmdA 6 0 1 0]), 0, 9, cmdA 6 0 1 0, by decide +kernel⟩,
   ⟨alive (nvm [] [cmdA 6 1 0 0]), 0, 9, cmdA 6 1 0 0, ns1, by decide +kernel⟩,
   ⟨alive (nvm [] [cmdA 2 0 0x000F0001 0]), 0, 9, cmdA 2 0 0x000F0001 0, by decide +kernel⟩,
   ⟨alive (nvm [] [cmdA 8 0 0x00090001 0, { cmdR with seq := 4, e := { cmdR.e with cid := 9 } }]), 0, 9, cmdA 8 0 0x00090001 0, { cmdR with seq := 4, e := { cmdR.e with cid := 9 } }, false, by decide +kernel⟩,
   ⟨alive (nvm [] [cmdA 8 0 0x00070001 0]), 0, 9, cmdA 8 0 0x00070001 0, by decide +kernel⟩,
   ⟨alive (nvm [] [cmdA 9 0 1 7]), 0, 9, cmdA 9 0 1 7, by decide +kernel⟩,
   ⟨alive (nvm [] [cmdA 9 0 5 30]), 0, 9, cmdA 9 0 5 30, by decide +kernel⟩,
   ⟨alive (nvm [] [cmdA 9 0 5 31]), 0, 9, cmdA 9 0 5 31, by decide +kernel⟩,
   ⟨alive (nvm [] [cmdA 9 0 8 0x0A03]), 0, 9, cmdA 9 0 8 0x0A03, by decide +kernel⟩,
   ⟨alive (nvm [] [cmdA 9 0 9 0x10400]), 0, 9, cmdA 9 0 9 0x10400, by decide +kernel⟩,
   ⟨alive (nvm [] [cmdA 9 0 9 1025]), 0, 9, cmdA 9 0 9 1025, by decide +kernel⟩,
   ⟨alive (nvm [] [cmdA 9 0 0xB 0xFFFFFFFF]), 0, 9, cmdA 9 0 0xB 0xFFFFFFFF, by decide +kernel⟩,
   ⟨alive (nvm [] [cmdA 9 0 2 1]), 0, 9, cmdA 9 0 2 1, by decide +kernel⟩,
   ⟨alive (nvm [] [cmdA 9 0 2 9]), 0, 9, cmdA 9 0 2 9, by decide +kernel⟩,
   ⟨alive (nvm [] [cmdA 9 0 4 0x00100100]), 0, 9, cmdA 9 0 4 0x00100100, by decide +kernel⟩,
   ⟨alive (nvm [] [cmdA 9 0 4 0x00200100]), 0, 9, cmdA 9 0 4 0x00200100, by decide +kernel⟩,
   ⟨alive ((((nvm [] [cmdA 9 0 7 0x00070007]).putSq 0 1 none).putCq 0 1 none)), 0, 9, cmdA 9 0 7 0x00070007, by decide +kernel⟩,
   ⟨alive (nvm [] [cmdA 9 0 0xE 0]), 0, 9, cmdA 9 0 0xE 0, 123456, by decide +kernel⟩,
   ⟨alive (nvm [] [cmdA 9 1 0x81 6]), 0, 9, cmdA 9 1 0x81 6, by decide +kernel⟩,
   ⟨alive (nvm [] [cmdA 9 1 0x82 0]), 0, 9, cmdA 9 1 0x82 0, by decide +kernel⟩,
   ⟨alive (nvm [] [cmdA 9 1 0x82 1]), 0, 9, cmdA 9 1 0x82 1, by decide +kernel⟩,
   ⟨alive (nvm [] [cmdA 9 0 0xC0 0x80000002]), 0, 9, cmdA 9 0 0xC0 0x80000002, by decide +kernel⟩,
   ⟨alive (nvm [] [cmdA 9 0 0xC0 0x80000001]), 0, 9, cmdA 9 0 0xC0 0x80000001, by decide +kernel⟩,
   ⟨alive ({ nvm [] [cmdA 9 0 0xC1 1] with acc := { State.reset.acc with applied := img [(1, 0, [2, 2, 0, 0, 1])] } }), 0, 9, cmdA 9 0 0xC1 1, by decide +kernel⟩,
   ⟨alive (nvm [] [cmdA 9 0 0xC1 1]), 0, 9, cmdA 9 0 0xC1 1, by decide +kernel⟩,
   ⟨alive (nvm [] [cmdA 0xA 0 7 0]), 0, 9, cmdA 0xA 0 7 0, by decide +kernel⟩,
   ⟨alive ((nvm [] [cmdA 0xA 0 1 0]).setFeature 0 1 0 8), 0, 9, cmdA 0xA 0 1 0, by decide +kernel⟩,
   ⟨alive (nvm [] [cmdA 0xC 0 0 0]), 0, 9, cmdA 0xC 0 0 0, by decide +kernel⟩,
   ⟨alive ((nvm [] [cmdA 0xC 0 0 0]).modCtrl 0 (fun k => { k with aers := [1, 2, 3, 4, 5, 6, 7, 8] })), 0, 9, cmdA 0xC 0 0 0, by decide +kernel⟩,
   ⟨alive ({ nvm [] [cmdA 0xD 0 0 0] with acc := { State.reset.acc with applied := img [(1, 0, [2, 2, 0, 0, 0, 0, 0, 0, 0, 1])] } }), 0, 9, cmdA 0xD 0 0 0, 16, 0, 2, 64, by decide +kernel⟩,
   ⟨alive (nvm [(MP_STAT.STATE, 1)] [cmdA 0xD 0 0 0]), 0, 9, cmdA 0xD 0 0 0, 16, 16, 0, by decide +kernel⟩,
   ⟨alive (nvm [] [cmdA 0xD 0 0 0]), 0, 9, cmdA 0xD 0 0 0, 16, 16, 1, by decide +kernel⟩,
   ⟨alive (nvm [] [cmdA 0xD 0 0 0]), 0, 9, cmdA 0xD 0 0 0, 16, 17, 0, by decide +kernel⟩,
   ⟨alive (nvm [] [cmdA 0xD 1 1 0]), 0, 9, cmdA 0xD 1 1 0, ns1, by decide +kernel⟩,
   ⟨alive ((nvm [] [cmdA 0x15 1 0 0]).modCtrl 0 (fun k => { k with attached := [] })), 0, 9, cmdA 0x15 1 0 0, by decide +kernel⟩,
   ⟨alive (nvm [] [cmdA 0x15 1 0 0]), 0, 9, cmdA 0x15 1 0 0, by decide +kernel⟩,
   ⟨alive (nvm [] [cmdA 0x15 1 1 0]), 0, 9, cmdA 0x15 1 1 0, by decide +kernel⟩,
   ⟨alive (nvm [] [cmdA 0x14 1 1 0]), 0, 9, cmdA 0x14 1 1 0, by decide +kernel⟩,
   ⟨alive (nvm [] [cmdA 0x14 1 2 0]), 0, 9, cmdA 0x14 1 2 0, by decide +kernel⟩,
   ⟨alive ({ nvm [] [cmdA 0x14 1 1 0] with nvme := { (nvm [] [cmdA 0x14 1 1 0]).nvme with selfTest := some ⟨2, 1, 0⟩ } }), 0, 9, cmdA 0x14 1 1 0, by decide +kernel⟩,
   ⟨alive ({ nvm [] [cmdA 0x14 1 2 0] with nvme := { (nvm [] [cmdA 0x14 1 2 0]).nvme with selfTest := some ⟨2, 1, 0⟩ } }), 0, 9, cmdA 0x14 1 2 0, by decide +kernel⟩,
   ⟨alive ({ nvm [] [] with nvme := { (nvm [] []).nvme with selfTest := some ⟨1, 3, 0⟩ } }), 0, 9, 5, ⟨1, 3, 0⟩, by decide +kernel⟩,
   ⟨alive ({ nvm [] [] with nvme := { (nvm [] []).nvme with selfTest := some ⟨2, 4, 0⟩ } }), 0, 9, 5, ⟨2, 4, 0⟩, by decide +kernel⟩,
   ⟨alive ({ nvm [] [cmdA 0x14 1 0xF 0] with nvme := { (nvm [] [cmdA 0x14 1 0xF 0]).nvme with selfTest := some ⟨2, 1, 0⟩ } }), 0, 9, cmdA 0x14 1 0xF 0, ⟨2, 1, 0⟩, by decide +kernel⟩,
   ⟨alive (nvm [] [cmdA 0x80 1 0 0]), 0, 9, cmdA 0x80 1 0 0, ns1, by decide +kernel⟩,
   ⟨alive (nvm [] [cmdA 0x80 1 1 0]), 0, 9, cmdA 0x80 1 1 0, by decide +kernel⟩⟩

theorem witness_io_commands :
    (∃ (s : State) (c : Nat) (q : Nat) (cid : Nat) (m : Cmd) (y : SubQ) (x : ComQ), s.live = true ∧ s.ioReady c q cid 0x02 m = true ∧ s.alone m y x = true ∧ (s.blocks? (s.cmdBlocks m)).bad = false ∧ (s.blocks? (s.cmdBlocks m)).away = [] ∧ (s.blocks? (s.cmdBlocks m)).lost = []) ∧
    (∃ (s : State) (c : Nat) (q : Nat) (cid : Nat) (m : Cmd) (y : SubQ) (x : ComQ), s.live = true ∧ s.ioReady c q cid 0x02 m = true ∧ s.alone m y x = true ∧ (s.blocks? (s.cmdBlocks m)).bad = true ∧ (s.ctrl 0).aers = [] ∧ (s.ctrl 1).aers = []) ∧
    (∃ (s : State) (c : Nat) (q : Nat) (cid : Nat) (m : Cmd) (fails : List Nat), s.live = true ∧ s.ioReady c q cid 0x02 m = true ∧ fails.filter (s.cmdPfns m).contains ≠ []) ∧
    (∃ (s : State) (c : Nat) (q : Nat) (cid : Nat) (m : Cmd) (y : SubQ) (x : ComQ) (data : List Byte), s.live = true ∧ s.ioReady c q cid 0x05 m = true ∧ s.alone m y x = true ∧ 4096 * m.nlb ≤ data.length ∧ (s.blocks? (s.cmdBlocks m)).bad = false ∧ (s.blocks? (s.cmdBlocks m)).away = [] ∧ (s.blocks? (s.cmdBlocks m)).lost = []) ∧
    (∃ (s : State) (c : Nat) (q : Nat) (cid : Nat) (m : Cmd) (y : SubQ) (x : ComQ) (data : List Byte), s.live = true ∧ s.ioReady c q cid 0x05 m = true ∧ s.alone m y x = true ∧ data.length < 4096 * m.nlb) ∧
    (∃ (s : State) (c : Nat) (q : Nat) (cid : Nat) (m : Cmd) (y : SubQ) (x : ComQ), s.live = true ∧ s.ioReady c q cid 0x0C m = true ∧ s.alone m y x = true ∧ (s.blocks? (s.cmdBlocks m)).bad = false ∧ (s.blocks? (s.cmdBlocks m)).away = [] ∧ (s.blocks? (s.cmdBlocks m)).lost = []) ∧
    (∃ (s : State) (c : Nat) (q : Nat) (cid : Nat) (m : Cmd) (n : Namespace) (data : List Byte), s.live = true ∧ s.ioReady c q cid 0x01 m = true ∧ s.namespace? m.e.nsid = some n ∧ n.zoned = false ∧ s.bit MP_STAT.GRAN = false ∧ m.nlb ≤ 512 ∧ 4096 * m.nlb ≤ data.length ∧ s.noWriteSet none = false) ∧
    (∃ (s : State) (c : Nat) (q : Nat) (cid : Nat) (m : Cmd) (n : Namespace) (data : List Byte) (y : SubQ) (x : ComQ), s.live = true ∧ s.ioReady c q cid 0x01 m = true ∧ s.alone m y x = true ∧ s.namespace? m.e.nsid = some n ∧ n.zoned = false ∧ 4096 * m.nlb ≤ data.length ∧ s.noWriteSet none = true) ∧
    (∃ (s : State) (c : Nat) (q : Nat) (cid : Nat) (m : Cmd) (n : Namespace) (data : List Byte), s.live = true ∧ s.ioReady c q cid 0x01 m = true ∧ s.namespace? m.e.nsid = some n ∧ n.zoned = true ∧ s.bit MP_STAT.GRAN = false ∧ m.nlb ≤ 512 ∧ 4096 * m.nlb ≤ data.length ∧ s.zoneAway n (m.slba / s.zoneSize n) = none ∧ s.zoneBusy m.e.nsid n (m.slba / s.zoneSize n) = false ∧ s.zoneFault m.e.nsid n (m.slba / s.zoneSize n) (m.slba % s.zoneSize n) m.nlb = none ∧ (s.zone m.e.nsid (m.slba / s.zoneSize n)).zstate = zsImplicit ∧ s.noWriteSet (some (n.firstSet + m.slba / s.zoneSize n)) = false) ∧
    (∃ (s : State) (c : Nat) (q : Nat) (cid : Nat) (m : Cmd) (n : Namespace) (data : List Byte) (st : NvStatus) (y : SubQ) (x : ComQ), s.live = true ∧ s.ioReady c q cid 0x01 m = true ∧ s.alone m y x = true ∧ s.namespace? m.e.nsid = some n ∧ n.zoned = true ∧ 4096 * m.nlb ≤ data.length ∧ s.zoneAway n (m.slba / s.zoneSize n) = none ∧ s.zoneBusy m.e.nsid n (m.slba / s.zoneSize n) = false ∧ s.zoneFault m.e.nsid n (m.slba / s.zoneSize n) (m.slba % s.zoneSize n) m.nlb = some st) ∧
    (∃ (s : State) (c : Nat) (q : Nat) (cid : Nat) (m : Cmd) (n : Namespace) (data : List Byte), s.live = true ∧ s.ioReady c q cid 0x7D m = true ∧ s.namespace? m.e.nsid = some n ∧ n.zoned = true ∧ s.bit MP_STAT.GRAN = false ∧ m.nlb ≤ 512 ∧ 4096 * m.nlb ≤ data.length ∧ s.zoneAway n (m.slba / s.zoneSize n) = none ∧ s.zoneBusy m.e.nsid n (m.slba / s.zoneSize n) = false ∧ s.zoneFault m.e.nsid n (m.slba / s.zoneSize n) (s.zoneNext m.e.nsid n (m.slba / s.zoneSize n)) m.nlb = none ∧ (s.zone m.e.nsid (m.slba / s.zoneSize n)).zstate = zsImplicit ∧ s.noWriteSet (some (n.firstSet + m.slba / s.zoneSize n)) = false) ∧
    (∃ (s : State) (c : Nat) (q : Nat) (cid : Nat) (m : Cmd) (n : Namespace), s.live = true ∧ s.ioReady c q cid 0x08 m = true ∧ s.namespace? m.e.nsid = some n ∧ s.bit MP_STAT.GRAN = false) ∧
    (∃ (s : State) (c : Nat) (q : Nat) (cid : Nat) (m : Cmd) (n : Namespace) (a : Nat) (k : Nat), s.live = true ∧ s.ioReady c q cid 0x09 m = true ∧ s.namespace? m.e.nsid = some n ∧ s.bit MP_STAT.GRAN = false ∧ natBit m.e.cdw11 2 = true ∧ a + k ≤ s.nsze n ∧ 0 < k) ∧
    (∃ (s : State) (c : Nat) (q : Nat) (cid : Nat) (m : Cmd) (n : Namespace) (y : SubQ) (x : ComQ) (_ranges : List (Nat × Nat)), s.live = true ∧ s.ioReady c q cid 0x09 m = true ∧ s.alone m y x = true ∧ s.namespace? m.e.nsid = some n ∧ natBit m.e.cdw11 2 = false) ∧
    (∃ (s : State) (c : Nat) (q : Nat) (cid : Nat) (m : Cmd) (y : SubQ) (x : ComQ), s.live = true ∧ s.ioReady c q cid 0x00 m = true ∧ s.alone m y x = true ∧ m.ready = none) ∧
    (∃ (s : State) (c : Nat) (q : Nat) (cid : Nat) (m : Cmd) (k : Cmd), s.live = true ∧ s.ioReady c q cid 0x00 m = true ∧ m.ready = none ∧ s.nvme.inflight = [k, m] ∧ k.flushed m = true ∧ k.ready = none ∧ k.fault = none ∧ s.nvme.drains = []) ∧
    (∃ (s : State) (c : Nat) (q : Nat) (cid : Nat) (m : Cmd) (y : SubQ) (x : ComQ), s.live = true ∧ s.ioReady c q cid 0x81 m = true ∧ s.alone m y x = true ∧ m.ready = none ∧ natBit m.e.cdw10 1 = false ∧ s.heldFor m = false) ∧
    (∃ (s : State) (c : Nat) (q : Nat) (cid : Nat) (m : Cmd) (k : Cmd), s.live = true ∧ s.ioReady c q cid 0x81 m = true ∧ m.ready = none ∧ s.nvme.inflight = [k, m] ∧ k.before m = true ∧ k.ready = none ∧ k.fault = none ∧ isReadOp k.e.opc = true ∧ s.nvme.drains = []) ∧
    (∃ (s : State) (c : Nat) (q : Nat) (cid : Nat) (m : Cmd) (y : SubQ) (x : ComQ) (n : Namespace), s.live = true ∧ q ≠ 0 ∧ s.cmd? c q cid = some m ∧ m.e.opc = 0x02 ∧ s.mayStart m = true ∧ s.alone m y x = true ∧ s.namespace? m.e.nsid = some n ∧ n.rtype = 2 ∧ n.holder ≠ c + 1) ∧
    (∃ (s : State) (c : Nat) (q : Nat) (cid : Nat) (m : Cmd), s.live = true ∧ s.cmd? c q cid = some m ∧ m.granted = true ∧ s.mayStart m = false) ∧
    (∃ (s : State) (c : Nat) (q : Nat) (cid : Nat) (m : Cmd) (n : Namespace) (_crkey : Nat) (_nrkey : Nat), s.live = true ∧ s.ioReady c q cid 0x0D m = true ∧ s.namespace? m.e.nsid = some n ∧ m.e.cdw10 % 8 = 0 ∧ n.registered c = false ∧ n.registrants.length < 32) ∧
    (∃ (s : State) (c : Nat) (q : Nat) (cid : Nat) (m : Cmd) (n : Namespace) (crkey : Nat) (_nrkey : Nat), s.live = true ∧ s.ioReady c q cid 0x0D m = true ∧ s.namespace? m.e.nsid = some n ∧ m.e.cdw10 % 8 = 1 ∧ n.registrants = [⟨c, crkey⟩] ∧ n.holder = c + 1 ∧ n.rtype = 1) ∧
    (∃ (s : State) (c : Nat) (q : Nat) (cid : Nat) (m : Cmd) (n : Namespace) (crkey : Nat) (_prkey : Nat), s.live = true ∧ s.ioReady c q cid 0x11 m = true ∧ s.namespace? m.e.nsid = some n ∧ m.e.cdw10 % 16 = 0 ∧ 1 ≤ natBits m.e.cdw10 8 8 ∧ natBits m.e.cdw10 8 8 ≤ 6 ∧ n.keyOk c crkey = true ∧ n.rtype = 0) ∧
    (∃ (s : State) (c : Nat) (q : Nat) (cid : Nat) (m : Cmd) (n : Namespace) (crkey : Nat) (_prkey : Nat), s.live = true ∧ s.ioReady c q cid 0x11 m = true ∧ s.namespace? m.e.nsid = some n ∧ m.e.cdw10 % 16 = 0 ∧ 1 ≤ natBits m.e.cdw10 8 8 ∧ natBits m.e.cdw10 8 8 ≤ 6 ∧ (n.keyOk c crkey = false ∨ (n.rtype ≠ 0 ∧ n.holds c = false))) ∧
    (∃ (s : State) (q : Nat) (cid : Nat) (m : Cmd) (n : Namespace) (crkey : Nat) (prkey : Nat), s.live = true ∧ s.ioReady 0 q cid 0x11 m = true ∧ s.namespace? m.e.nsid = some n ∧ m.e.cdw10 % 16 = 1 ∧ natBits m.e.cdw10 8 8 = 1 ∧ n.registrants = [⟨0, crkey⟩, ⟨1, prkey⟩] ∧ prkey ≠ crkey ∧ n.holder = 2 ∧ n.rtype = 1) ∧
    (∃ (s : State) (c : Nat) (q : Nat) (cid : Nat) (m : Cmd) (n : Namespace) (crkey : Nat), s.live = true ∧ s.ioReady c q cid 0x15 m = true ∧ s.namespace? m.e.nsid = some n ∧ m.e.cdw10 % 16 = 0 ∧ natBits m.e.cdw10 8 8 = n.rtype ∧ n.keyOk c crkey = true ∧ n.holder = c + 1 ∧ (n.rtype = 1 ∨ n.rtype = 2)) ∧
    (∃ (s : State) (c : Nat) (q : Nat) (cid : Nat) (m : Cmd) (n : Namespace), s.live = true ∧ s.ioReady c q cid 0x0E m = true ∧ s.namespace? m.e.nsid = some n) ∧
    (∃ (s : State) (c : Nat) (q : Nat) (cid : Nat) (m : Cmd) (n : Namespace) (z : Nat), s.live = true ∧ s.ioReady c q cid 0x79 m = true ∧ s.namespace? m.e.nsid = some n ∧ m.e.cdw13 = 1 ∧ m.slba = z * s.zoneSize n ∧ z < n.nsets ∧ s.zoneNext m.e.nsid n z = (s.zone m.e.nsid z).wp ∧ ((s.zone m.e.nsid z).zstate = zsImplicit ∨ (s.zone m.e.nsid z).zstate = zsExplicit)) ∧
    (∃ (s : State) (c : Nat) (q : Nat) (cid : Nat) (m : Cmd) (n : Namespace) (z : Nat), s.live = true ∧ s.ioReady c q cid 0x79 m = true ∧ s.namespace? m.e.nsid = some n ∧ m.e.cdw13 = 3 ∧ 0 < s.zoneSize n ∧ m.slba = z * s.zoneSize n ∧ z < n.nsets ∧ s.zoneNext m.e.nsid n z = (s.zone m.e.nsid z).wp ∧ ((s.zone m.e.nsid z).zstate = zsImplicit ∨ (s.zone m.e.nsid z).zstate = zsClosed)) ∧
    (∃ (s : State) (c : Nat) (q : Nat) (cid : Nat) (m : Cmd) (n : Namespace) (z : Nat), s.live = true ∧ s.ioReady c q cid 0x79 m = true ∧ s.namespace? m.e.nsid = some n ∧ m.e.cdw13 = 2 ∧ m.slba = z * s.zoneSize n ∧ z < n.nsets ∧ s.zoneNext m.e.nsid n z = (s.zone m.e.nsid z).wp ∧ ((s.zone m.e.nsid z).zstate = zsClosed ∨ (s.zone m.e.nsid z).zstate = zsEmpty)) ∧
    (∃ (s : State) (c : Nat) (q : Nat) (cid : Nat) (m : Cmd) (n : Namespace) (z : Nat), s.live = true ∧ s.ioReady c q cid 0x79 m = true ∧ s.namespace? m.e.nsid = some n ∧ m.e.cdw13 = 4 ∧ m.slba = z * s.zoneSize n ∧ z < n.nsets ∧ s.zoneNext m.e.nsid n z = (s.zone m.e.nsid z).wp ∧ (s.zone m.e.nsid z).zstate ≠ zsEmpty) ∧
    (∃ (s : State) (c : Nat) (q : Nat) (cid : Nat) (m : Cmd) (n : Namespace) (z : Nat), s.live = true ∧ s.ioReady c q cid 0x79 m = true ∧ s.namespace? m.e.nsid = some n ∧ m.e.cdw13 = 1 ∧ m.slba = z * s.zoneSize n ∧ z < n.nsets ∧ s.zoneNext m.e.nsid n z = (s.zone m.e.nsid z).wp ∧ ((s.zone m.e.nsid z).zstate = zsFull ∨ (s.zone m.e.nsid z).zstate = zsEmpty)) ∧
    (∃ (s : State) (c : Nat) (q : Nat) (cid : Nat) (m : Cmd) (n : Namespace), s.live = true ∧ s.ioReady c q cid 0x7A m = true ∧ s.namespace? m.e.nsid = some n ∧ m.slba = 0 ∧ n.nsets = 1 ∧ 0 < s.zoneSize n ∧ 0 < s.nsze n ∧ natBits m.e.cdw13 8 8 = 0 ∧ natBit m.e.cdw13 16 = true ∧ m.e.cdw12 = 31) :=
  ⟨⟨alive (nvm [] [cmdN 1 (sqe 2 1 0 0)]), 0, 1, 9, cmdN 1 (sqe 2 1 0 0), sq0 1, cq0 1, by decide +kernel⟩,
   ⟨alive ({ nvm [] [cmdN 1 (sqe 2 1 1 0)] with map := { (nvm [] []).map with map := [(1, .bad)] } }), 0, 1, 9, cmdN 1 (sqe 2 1 1 0), sq0 1, cq0 1, by decide +kernel⟩,
   ⟨alive ({ nvm [] [cmdN 1 (sqe 2 1 1 0)] with map := { (nvm [] []).map with map := [(1, .media 34 0)] } }), 0, 1, 9, cmdN 1 (sqe 2 1 1 0), [34], by decide +kernel⟩,
   ⟨alive (nvm [] [cmdN 1 (sqe 5 1 0 0)]), 0, 1, 9, cmdN 1 (sqe 5 1 0 0), sq0 1, cq0 1, zeros 4096, by decide +kernel⟩,
   ⟨alive (nvm [] [cmdN 1 (sqe 5 1 0 0)]), 0, 1, 9, cmdN 1 (sqe 5 1 0 0), sq0 1, cq0 1, [1, 2], by decide +kernel⟩,
   ⟨alive (nvm [] [cmdN 1 (sqe 0xC 1 0 0)]), 0, 1, 9, cmdN 1 (sqe 0xC 1 0 0), sq0 1, cq0 1, by decide +kernel⟩,
   ⟨alive (nvm [] [cmdN 1 (sqe 1 1 4 0)]), 0, 1, 9, cmdN 1 (sqe 1 1 4 0), ns1, zeros 4096, by decide +kernel⟩,
   ⟨alive (nvm [(PX_STAT.NOWRITE, 1)] [cmdN 1 (sqe 1 1 4 0)]), 0, 1, 9, cmdN 1 (sqe 1 1 4 0), ns1, zeros 4096, sq0 1, cq0 1, by decide +kernel⟩,
   ⟨alive (znm ⟨zsImplicit, 3⟩ [cmdZ 1 3 0 0]), 0, 1, 9, cmdZ 1 3 0 0, { zonedNs 0 1 with size := 76 }, zeros 4096, by decide +kernel⟩,
   ⟨alive (znm ⟨zsImplicit, 5⟩ [cmdZ 1 3 0 0]), 0, 1, 9, cmdZ 1 3 0 0, { zonedNs 0 1 with size := 76 }, zeros 4096, .zoneInvalidWrite, sq0 1, cq0 1, by decide +kernel⟩,
   ⟨alive (znm ⟨zsImplicit, 3⟩ [cmdZ 0x7D 0 0 0]), 0, 1, 9, cmdZ 0x7D 0 0 0, { zonedNs 0 1 with size := 76 }, zeros 4096, by decide +kernel⟩,
   ⟨alive (nvm [] [cmdN 1 (sqe 8 1 4 3)]), 0, 1, 9, cmdN 1 (sqe 8 1 4 3), ns1, by decide +kernel⟩,
   ⟨alive (nvm [] [{ cmdN 1 (sqe 9 1 0 0) with e := { (sqe 9 1 0 0) with cdw11 := 4 } }]), 0, 1, 9, { cmdN 1 (sqe 9 1 0 0) with e := { (sqe 9 1 0 0) with cdw11 := 4 } }, ns1, 8, 5, by decide +kernel⟩,
   ⟨alive (nvm [] [cmdN 1 (sqe 9 1 0 0)]), 0, 1, 9, cmdN 1 (sqe 9 1 0 0), ns1, sq0 1, cq0 1, [(1, 2)], by decide +kernel⟩,
   ⟨alive (nvm [] [cmdN 1 (sqe 0 1 0 0)]), 0, 1, 9, cmdN 1 (sqe 0 1 0 0), sq0 1, cq0 1, by decide +kernel⟩,
   ⟨alive (nvm [] [{ cmdN 1 (sqe 1 1 0 0) with seq := 3, started := true, e := { sqe 1 1 0 0 with cid := 4 } }, cmdN 1 (sqe 0 1 0 0)]), 0, 1, 9, cmdN 1 (sqe 0 1 0 0), { cmdN 1 (sqe 1 1 0 0) with seq := 3, started := true, e := { sqe 1 1 0 0 with cid := 4 } }, by decide +kernel⟩,
   ⟨alive (nvm [] [{ cmdN 1 (sqe 0x81 1 0 0) with earlier := 5 }]), 0, 1, 9, { cmdN 1 (sqe 0x81 1 0 0) with earlier := 5 }, sq0 1, cq0 1, by decide +kernel⟩,
   ⟨alive (nvm [] [{ cmdN 1 (sqe 2 1 0 0) with seq := 3, started := true, waits := [34], e := { sqe 2 1 0 0 with cid := 4 } }, cmdN 1 (sqe 0x81 1 0 0)]), 0, 1, 9, cmdN 1 (sqe 0x81 1 0 0), { cmdN 1 (sqe 2 1 0 0) with seq := 3, started := true, waits := [34], e := { sqe 2 1 0 0 with cid := 4 } }, by decide +kernel⟩,
   ⟨alive (rsv (ns1r [⟨1, 5⟩] 2 2) [cmdN 1 (sqe 2 1 0 0)]), 0, 1, 9, cmdN 1 (sqe 2 1 0 0), sq0 1, cq0 1, ns1r [⟨1, 5⟩] 2 2, by decide +kernel⟩,
   ⟨alive (nvm [] [{ cmdN 1 (sqe 2 1 0 0) with started := true }]), 0, 1, 9, { cmdN 1 (sqe 2 1 0 0) with started := true }, by decide +kernel⟩,
   ⟨alive (nvm [] [cmdV 0xD 0]), 0, 1, 9, cmdV 0xD 0, ns1, 0, 77, by decide +kernel⟩,
   ⟨alive (rsv (ns1r [⟨0, 5⟩] 1 1) [cmdV 0xD 1]), 0, 1, 9, cmdV 0xD 1, ns1r [⟨0, 5⟩] 1 1, 5, 0, by decide +kernel⟩,
   ⟨alive (rsv (ns1r [⟨0, 5⟩] 0 0) [cmdV 0x11 0x300]), 0, 1, 9, cmdV 0x11 0x300, ns1r [⟨0, 5⟩] 0 0, 5, 0, by decide +kernel⟩,
   ⟨alive (rsv (ns1r [⟨0, 5⟩] 1 1) [cmdV 0x11 0x300]), 0, 1, 9, cmdV 0x11 0x300, ns1r [⟨0, 5⟩] 1 1, 6, 0, by decide +kernel⟩,
   ⟨alive (rsv (ns1r [⟨0, 5⟩, ⟨1, 6⟩] 2 1) [cmdV 0x11 0x101]), 1, 9, cmdV 0x11 0x101, ns1r [⟨0, 5⟩, ⟨1, 6⟩] 2 1, 5, 6, by decide +kernel⟩,
   ⟨alive (rsv (ns1r [⟨0, 5⟩] 1 1) [cmdV 0x15 0x100]), 0, 1, 9, cmdV 0x15 0x100, ns1r [⟨0, 5⟩] 1 1, 5, by decide +kernel⟩,
   ⟨alive (rsv (ns1r [⟨0, 5⟩] 1 1) [cmdV 0xE 15]), 0, 1, 9, cmdV 0xE 15, ns1r [⟨0, 5⟩] 1 1, by decide +kernel⟩,
   ⟨alive (znm ⟨zsExplicit, 5⟩ [cmdZ 0x79 0 0 1]), 0, 1, 9, cmdZ 0x79 0 0 1, { zonedNs 0 1 with size := 76 }, 0, by decide +kernel⟩,
   ⟨alive (znm ⟨zsClosed, 5⟩ [cmdZ 0x79 0 0 3]), 0, 1, 9, cmdZ 0x79 0 0 3, { zonedNs 0 1 with size := 76 }, 0, by decide +kernel⟩,
   ⟨alive (znm ⟨zsClosed, 5⟩ [cmdZ 0x79 0 0 2]), 0, 1, 9, cmdZ 0x79 0 0 2, { zonedNs 0 1 with size := 76 }, 0, by decide +kernel⟩,
   ⟨alive (znm ⟨zsFull, 76⟩ [cmdZ 0x79 0 0 4]), 0, 1, 9, cmdZ 0x79 0 0 4, { zonedNs 0 1 with size := 76 }, 0, by decide +kernel⟩,
   ⟨alive (znm ⟨zsFull, 76⟩ [cmdZ 0x79 0 0 1]), 0, 1, 9, cmdZ 0x79 0 0 1, { zonedNs 0 1 with size := 76 }, 0, by decide +kernel⟩,
   ⟨alive (znm ⟨zsFull, 76⟩ [cmdZ 0x7A 0 31 0x10000]), 0, 1, 9, cmdZ 0x7A 0 31 0x10000, { zonedNs 0 1 with size := 76 }, by decide +kernel⟩⟩

end Sys2Proof.Machine
end

section
/-! SUPPORT. What an access of the host does to a register (O7, O8), and the state after reset (O5): the register tables' own form, frames, an
update of a register field by field, and the access of one word. -/
namespace Sys2Proof.Machine

/-! ### The register tables -/

/-- What every row of the register tables satisfies: its addresses are aligned, and its fields lie in the word, hold their reset values
and share no bit. -/
def RegRow.sound (r : RegRow) : Bool :=
  r.base % 4 == 0 && r.stride % 4 == 0 &&
    r.fields.all (fun f => decide (f.lo ≤ f.hi) && decide (f.hi < 32) && decide (f.reset < 2 ^ (f.hi - f.lo + 1))) &&
    decide (r.fields.Pairwise (fun f g => f.hi < g.lo ∨ g.hi < f.lo))

theorem regRowsOf_sound (k : Nat) : (regRowsOf k).all RegRow.sound = true := by
  have hblocks : ∀ k < 26, (regRowsOf k).all RegRow.sound = true := by decide +kernel
  by_cases hk : k < 26
  · exact hblocks k hk
  · obtain ⟨j, rfl⟩ : ∃ j, k = j + 26 := ⟨k - 26, by omega⟩
    rfl

theorem RegRow.sound_of_regRow? {addr : Nat} {r : RegRow} (h : regRow? addr = some r) : r.sound = true :=
  List.all_eq_true.mp (regRowsOf_sound _) r (List.mem_of_find?_eq_some h)

/-- A register's address is a multiple of four (R11). -/
theorem aligned_of_regRow? {addr : Nat} {r : RegRow} (h : regRow? addr = some r) : addr % 4 = 0 := by
  have hs := RegRow.sound_of_regRow? h
  have hh : r.has addr = true := List.find?_some (p := (RegRow.has · addr)) h
  simp only [RegRow.sound, Bool.and_eq_true, beq_iff_eq] at hs
  obtain ⟨⟨⟨hb, hst⟩, -⟩, -⟩ := hs
  simp only [RegRow.has, Bool.and_eq_true, Nat.ble_eq, Nat.blt_eq, Nat.beq_eq] at hh
  obtain ⟨hle, ⟨-, hm⟩, -⟩ := hh
  have hd : (addr - r.base) % 4 = 0 := by
    rw [← Nat.mod_mod_of_dvd _ (Nat.dvd_of_mod_eq_zero hst)]
    exact hm
  omega

/-- The field of the register at `addr` that a row of its table describes. -/
abbrev RegField.at (f : RegField) (addr : Nat) : Fld := ⟨addr, f.hi, f.lo⟩

theorem regField_ok {addr : Nat} {r : RegRow} (h : regRow? addr = some r) {f : RegField} (hf : f ∈ r.fields) : (f.at addr).ok = true := by
  have hs := RegRow.sound_of_regRow? h
  simp only [RegRow.sound, Bool.and_eq_true, List.all_eq_true] at hs
  simp only [Fld.ok, Bool.and_eq_true]
  exact (hs.1.2 f hf).1

theorem regField_reset_lt {addr : Nat} {r : RegRow} (h : regRow? addr = some r) {f : RegField} (hf : f ∈ r.fields) :
    f.reset < 2 ^ (f.hi - f.lo + 1) := by
  have hs := RegRow.sound_of_regRow? h
  simp only [RegRow.sound, Bool.and_eq_true, List.all_eq_true, decide_eq_true_eq] at hs
  exact (hs.1.2 f hf).2

theorem regFields_apart {addr : Nat} {r : RegRow} (h : regRow? addr = some r) :
    r.fields.Pairwise (fun f g => (f.at addr).apart (g.at addr) = true) := by
  have hs := RegRow.sound_of_regRow? h
  simp only [RegRow.sound, Bool.and_eq_true, decide_eq_true_eq] at hs
  refine hs.2.imp ?_
  intro f g hfg
  simpa [Fld.apart] using hfg

theorem Fld.apart_comm (f g : Fld) : f.apart g = g.apart f := by
  simp only [Fld.apart, ne_comm, Bool.or_assoc, Bool.or_comm (decide (f.hi < g.lo))]

theorem fields_apart_of_ne {addr : Nat} {l : List RegField} (hd : l.Pairwise (fun f g => (f.at addr).apart (g.at addr) = true))
    {f g : RegField} (hf : f ∈ l) (hg : g ∈ l) (hne : f ≠ g) : (f.at addr).apart (g.at addr) = true := by
  induction l with
  | nil => exact absurd hf List.not_mem_nil
  | cons x l ih =>
    obtain ⟨hx, hl⟩ := List.pairwise_cons.mp hd
    rcases List.mem_cons.mp hf with rfl | hfl <;> rcases List.mem_cons.mp hg with rfl | hgl
    · exact absurd rfl hne
    · exact hx g hgl
    · exact (Fld.apart_comm _ _).trans (hx f hfl)
    · exact ih hl hfl hgl

theorem regFields_apart_of_ne {addr : Nat} {r : RegRow} (h : regRow? addr = some r) {f g : RegField} (hf : f ∈ r.fields) (hg : g ∈ r.fields)
    (hne : f ≠ g) : (f.at addr).apart (g.at addr) = true :=
  fields_apart_of_ne (regFields_apart h) hf hg hne

/-! ### Frames -/

theorem Part.same_refl (p : Part) (s : State) : p.same s s := by cases p <;> rfl

theorem Part.same_trans {p : Part} {s t u : State} (h : p.same s t) (h' : p.same t u) : p.same s u := by
  cases p <;> exact Eq.trans h' h

theorem OnlyParts.refl (ps : List Part) (s : State) : OnlyParts ps s s := ⟨rfl, fun p _ => p.same_refl s⟩

theorem OnlyParts.trans {ps : List Part} {s t u : State} (h : OnlyParts ps s t) (h' : OnlyParts ps t u) : OnlyParts ps s u :=
  ⟨h'.1.trans h.1, fun p hp => Part.same_trans (h.2 p hp) (h'.2 p hp)⟩

theorem OnlyParts.setFld {ps : List Part} (hps : Part.regs ∈ ps) (s : State) (f : Fld) (v : Nat) : OnlyParts ps s (s.setFld f v) :=
  ⟨rfl, fun p hp => by cases p <;> first | rfl | exact absurd hps hp⟩

theorem OnlyParts.setThen {ps : List Part} (hps : Part.tickMem ∈ ps) (s : State) (f : Fld) (v : Nat) : OnlyParts ps s (s.setThen f v) :=
  ⟨rfl, fun p hp => by cases p <;> first | rfl | exact absurd hps hp⟩

theorem OnlyParts.readOut {ps : List Part} (hps : Part.readOut ∈ ps) (s : State) (d : List Byte) :
    OnlyParts ps s { s with readOut := d } :=
  ⟨rfl, fun p hp => by cases p <;> first | rfl | exact absurd hps hp⟩

theorem OnlyRegs.refl (as : List Nat) (s : State) : OnlyRegs as s s := fun _ _ => rfl

theorem OnlyRegs.trans {as : List Nat} {s t u : State} (h : OnlyRegs as s t) (h' : OnlyRegs as t u) : OnlyRegs as s u :=
  fun a ha => (h' a ha).trans (h a ha)

theorem OnlyRegs.setFld {as : List Nat} (s : State) (f : Fld) (v : Nat) (h : f.addr ∈ as) : OnlyRegs as s (s.setFld f v) :=
  fun _ ha => State.reg_setFld_other s f v _ (fun e => ha (e ▸ h))

/-- What holds at the start and is kept by each application holds at the end. -/
theorem State.each_keeps {α : Type} (P : State → Prop) (φ : State → α → State) (l : List α) (s : State) (h : P s)
    (hφ : ∀ t, P t → ∀ x ∈ l, P (φ t x)) : P (s.each l φ) := by
  unfold State.each
  induction l generalizing s with
  | nil => exact h
  | cons x l ih =>
    exact ih _ (hφ s h x List.mem_cons_self) (fun t ht y hy => hφ t ht y (List.mem_cons_of_mem x hy))

/-! ### Field by field -/


@[simp] theorem State.fld_setThen (s : State) (f g : Fld) (v : Nat) : (s.setThen f v).fld g = s.fld g := rfl

/-- Updates that each touch one field of a register, run over fields that share no bit: a field updated comes to what its own update gives
it, and one apart from all of them keeps its value. `K` is what else the updates read; they leave it. -/
theorem State.fld_each_fields {addr : Nat} {φ : State → RegField → State} {K : State → Prop} {s₀ : State} {v : RegField → Nat}
    (hK : ∀ t f, K t → K (φ t f))
    (hother : ∀ (t : State) (f : RegField) (g : Fld), (f.at addr).ok = true → g.ok = true → (f.at addr).apart g = true →
      (φ t f).fld g = t.fld g)
    (l : List RegField) (hok : ∀ f ∈ l, (f.at addr).ok = true)
    (hself : ∀ (t : State), ∀ f ∈ l, K t → t.fld (f.at addr) = s₀.fld (f.at addr) → (φ t f).fld (f.at addr) = v f)
    (hl : l.Pairwise (fun f g => (f.at addr).apart (g.at addr) = true))
    (s : State) (hs : K s) (h₀ : ∀ f ∈ l, s.fld (f.at addr) = s₀.fld (f.at addr)) :
    (∀ f ∈ l, (s.each l φ).fld (f.at addr) = v f) ∧
    (∀ g : Fld, g.ok = true → (∀ f ∈ l, (f.at addr).apart g = true) → (s.each l φ).fld g = s.fld g) := by
  induction l generalizing s with
  | nil => exact ⟨fun f hf => absurd hf List.not_mem_nil, fun g _ _ => rfl⟩
  | cons x l ih =>
    obtain ⟨hx, hl⟩ := List.pairwise_cons.mp hl
    obtain ⟨hxok, hok⟩ := List.forall_mem_cons.mp hok
    obtain ⟨hx₀, h₀⟩ := List.forall_mem_cons.mp h₀
    have h₀' : ∀ f ∈ l, (φ s x).fld (f.at addr) = s₀.fld (f.at addr) := fun f hf =>
      (hother s x _ hxok (hok f hf) (hx f hf)).trans (h₀ f hf)
    obtain ⟨hin, hout⟩ := ih hok (fun t f hf => hself t f (List.mem_cons_of_mem x hf)) hl (φ s x) (hK s x hs) h₀'
    refine ⟨List.forall_mem_cons.mpr ⟨?_, hin⟩, fun g hg hap => ?_⟩
    · exact (hout _ hxok (fun f hf => (Fld.apart_comm _ _).trans (hx f hf))).trans (hself s x List.mem_cons_self hs hx₀)
    · obtain ⟨hxg, hap⟩ := List.forall_mem_cons.mp hap
      exact (hout g hg hap).trans (hother s x g hxok hg hxg)

/-- The same for the fields of a register that `p` picks. -/
theorem State.fld_each_row {addr : Nat} {r : RegRow} (hr : regRow? addr = some r) (p : RegField → Bool) {φ : State → RegField → State}
    {K : State → Prop} {s : State} {v : RegField → Nat} (hK : ∀ t f, K t → K (φ t f)) (hs : K s)
    (hother : ∀ (t : State) (f : RegField) (g : Fld), (f.at addr).ok = true → g.ok = true → (f.at addr).apart g = true →
      (φ t f).fld g = t.fld g)
    (hself : ∀ (t : State), ∀ f ∈ r.fields, K t → t.fld (f.at addr) = s.fld (f.at addr) → (φ t f).fld (f.at addr) = v f)
    {f : RegField} (hf : f ∈ r.fields) :
    (s.each (r.fields.filter p) φ).fld (f.at addr) = if p f then v f else s.fld (f.at addr) := by
  have hmem : ∀ g ∈ r.fields.filter p, g ∈ r.fields := fun g hg => (List.mem_filter.mp hg).1
  obtain ⟨hin, hout⟩ := State.fld_each_fields (s₀ := s) (v := v) hK hother (r.fields.filter p) (fun g hg => regField_ok hr (hmem g hg))
    (fun t g hg => hself t g (hmem g hg)) ((regFields_apart hr).filter p) s hs (fun _ _ => rfl)
  split
  · exact hin f (List.mem_filter.mpr ⟨hf, ‹_›⟩)
  · rename_i hp
    refine hout _ (regField_ok hr hf) (fun g hg => ?_)
    have hne : g ≠ f := fun e => hp (e ▸ (List.mem_filter.mp hg).2)
    exact regFields_apart_of_ne hr (hmem g hg) hf hne

/-! ### Which registers an access touches (R12) -/

theorem regsTouched_word {addr : Nat} (h : addr % 4 = 0) : regsTouched addr 4 = [addr] := by
  have hone : (addr + 4 - 1) / 4 - addr / 4 + 1 = 1 := by omega
  have haddr : 4 * (addr / 4) = addr := by omega
  simp only [regsTouched, regsTouched.wordSpan4, if_neg (show ¬4 = 0 by decide), hone, List.range'_one, List.map_cons, List.map_nil, haddr]

theorem regsTouched_part {addr n : Nat} (h : addr % 4 = 0) (hn : n < 4) : ∀ a ∈ regsTouched addr n, a = addr := by
  intro a ha
  by_cases h0 : n = 0
  · simp [regsTouched, regsTouched.wordSpan4, h0] at ha
  · have h1 : (addr + n - 1) / 4 - addr / 4 + 1 = 1 := by omega
    simp [regsTouched, regsTouched.wordSpan4, h0, h1, List.range'_one] at ha
    omega

@[simp] theorem leBytes_length (n v : Nat) : (leBytes n v).length = n := by
  induction n generalizing v with
  | zero => rfl
  | succ n ih => simp [leBytes, ih]

theorem leNat_leBytes (n v : Nat) : leNat (leBytes n v) = v % 256 ^ n := by
  induction n generalizing v with
  | zero => simp [leBytes, leNat, Nat.mod_one]
  | succ n ih =>
    rw [leBytes, leNat, ih, Nat.pow_succ', Nat.mod_mul]
    simp

theorem slice_whole (l : List Byte) : slice l 0 l.length = l := by simp [slice]

theorem leAt_leBytes (n v : Nat) : leAt (leBytes n v) 0 n = v % 256 ^ n := by
  have := slice_whole (leBytes n v)
  rw [leBytes_length] at this
  rw [leAt, this, leNat_leBytes]

/-- A write of four bytes at an aligned address writes that register. -/
theorem State.regWrite_word (s : State) {addr : Nat} (data : List Byte) (h : addr % 4 = 0) (hd : data.length = 4) :
    s.regWrite addr data = s.writeWord addr (BitVec.ofNat 32 (leAt data 0 4)) := by
  simp [State.regWrite, hd, regsTouched_word h, State.each]

/-- A write that does not cover a register has no effect. -/
theorem State.regWrite_part (s : State) {addr : Nat} (data : List Byte) (h : addr % 4 = 0) (hd : data.length < 4) : s.regWrite addr data = s := by
  refine State.each_keeps (· = s) _ _ s rfl (fun t ht a ha => ?_)
  have ha' := regsTouched_part h hd a ha
  rw [if_neg (by omega)]
  exact ht

/-- The state after a read of the register at `addr`, but for what is returned: the HI half latched, RC fields cleared. -/
theorem State.regRead_word (s : State) {addr : Nat} (h : addr % 4 = 0) :
    s.regRead addr 4 = { ({ s with readOut := [] } : State).latchHi addr |>.readClears addr with readOut := leBytes 4 (s.readWord addr).toNat } := by
  have hs := slice_whole (leBytes 4 (s.readWord addr).toNat)
  rw [leBytes_length] at hs
  simp only [State.regRead, regsTouched_word h, h, State.each, List.foldl, State.readOne, List.nil_append]
  congr 1

theorem execRegisterWrite_live {s : State} (h : s.live = true) (addr : Nat) (data : List Byte) :
    exec (.registerWrite addr data) s = .next (s.regWrite addr data) :=
  congrArg Host.Outcome.next (if_pos h)

theorem execRegisterReadClear_live {s : State} (h : s.live = true) (addr len : Nat) :
    exec (.registerReadClear addr len) s = .next (s.regRead addr len) :=
  congrArg Host.Outcome.next (if_pos h)

/-! ### Writes -/

theorem RegField.at_max (f : RegField) (addr : Nat) : (f.at addr).max = 2 ^ (f.hi - f.lo + 1) - 1 := rfl

/-- Outside Base-note mode and the rings, the fields that take a write are those that the host can write (R15). -/
theorem State.takesWrite_eq {s : State} {addr : Nat} (hb : s.bit FB_STAT.BASENOTE = false) (hr : addr / 0x10000 ≠ 0x13) (f : RegField) :
    s.takesWrite addr f = (f.acc == .rw || f.acc == .w1c || f.acc == .w1s) := by
  have h1 : inRange addr 0x130000 0x130007 = false := by simp [inRange]; omega
  have h2 : ringAt addr = none := by
    have : inRange addr 0x130100 0x1302FF = false := by simp [inRange]; omega
    simp [ringAt, this]
  unfold State.takesWrite
  cases f.acc <;> simp [hb, h1, h2]

/-- What is written to a field fits into it (R15). -/
theorem fieldWritten_lt {addr : Nat} (f : RegField) (seen : Nat) {old new : Nat} (ho : old < 2 ^ (f.hi - f.lo + 1)) (hn : new < 2 ^ (f.hi - f.lo + 1)) :
    fieldWritten addr f seen old new < 2 ^ (f.hi - f.lo + 1) := by
  unfold fieldWritten
  split
  · split
    · omega
    · exact hn
  · exact Nat.or_lt_two_pow (Nat.lt_of_le_of_lt Nat.and_le_left ho) (Nat.lt_of_le_of_lt Nat.and_le_left ho)
  · exact Nat.or_lt_two_pow ho hn
  · exact ho

/-- The write of one field. -/
def State.writeField (addr : Nat) (w : Word32) (t : State) (f : RegField) : State :=
  t.setFld (f.at addr) (fieldWritten addr f (t.fldSet (f.at addr)) (t.fld (f.at addr)) ((f.at addr).ofWord w))

theorem State.writeWord_row {s : State} {addr : Nat} {r : RegRow} (w : Word32) (hb : s.writeBarred addr = false) (ha : addr ≠ HM_BLTCTL.REG.addr)
    (hr : regRow? addr = some r) :
    s.writeWord addr w = s.each (r.fields.filter (fun f => s.takesWrite addr f)) (State.writeField addr w) := by
  simp only [State.writeWord, hb, Bool.false_eq_true, if_false, ha, hr]
  rfl

theorem State.fld_writeField_self (addr : Nat) (w : Word32) (t : State) (f : RegField) (h : (f.at addr).ok = true) :
    (t.writeField addr w f).fld (f.at addr) = fieldWritten addr f (t.fldSet (f.at addr)) (t.fld (f.at addr)) ((f.at addr).ofWord w) :=
  (State.fld_setFld_same _ _ _ h).trans
    (Nat.mod_eq_of_lt (fieldWritten_lt f _ (State.fld_lt t (f.at addr)) (Nat.mod_lt _ (Nat.two_pow_pos _))))

/-- Every field of a register as a write leaves it. -/
theorem State.fld_writeFields {s : State} {addr : Nat} {r : RegRow} (w : Word32) (hr : regRow? addr = some r) (p : RegField → Bool)
    {f : RegField} (hf : f ∈ r.fields) :
    (s.each (r.fields.filter p) (State.writeField addr w)).fld (f.at addr) =
      if p f then fieldWritten addr f (s.fldSet (f.at addr)) (s.fld (f.at addr)) ((f.at addr).ofWord w) else s.fld (f.at addr) :=
  State.fld_each_row hr p (φ := State.writeField addr w) (K := fun t => t.tickMem = s.tickMem)
    (v := fun f => fieldWritten addr f (s.fldSet (f.at addr)) (s.fld (f.at addr)) ((f.at addr).ofWord w))
    (fun _ _ ht => ht) rfl (fun _ _ _ hfo hgo hap => State.fld_setFld_other _ _ _ _ hgo hfo hap)
    (fun t f hf ht h0 => by rw [State.fld_writeField_self addr w t f (regField_ok hr hf), h0, State.fldSet, ht, State.fldSet]) hf

theorem State.writeFields_frame (s : State) (addr : Nat) (w : Word32) (l : List RegField) :
    OnlyParts [.regs, .tickMem] s (s.each l (State.writeField addr w)) ∧ OnlyRegs [addr] s (s.each l (State.writeField addr w)) :=
  State.each_keeps (fun t => OnlyParts [.regs, .tickMem] s t ∧ OnlyRegs [addr] s t) _ _ s ⟨OnlyParts.refl _ s, OnlyRegs.refl _ s⟩
    (fun t ⟨hp, hr⟩ f _ => ⟨hp.trans (OnlyParts.setFld (by simp) t _ _), hr.trans (OnlyRegs.setFld t _ _ (by simp))⟩)


/-! ### Reads -/

/-- A read's clearing of one RC field. -/
def State.clearField (addr : Nat) (t : State) (f : RegField) : State :=
  (t.setFld (f.at addr) (t.rcAfter addr f)).setThen (f.at addr) f.reset

theorem State.readClears_row (s : State) {addr : Nat} {r : RegRow} (hr : regRow? addr = some r) :
    s.readClears addr = s.each (r.fields.filter (fun f => f.acc == .rc)) (State.clearField addr) := by
  simp only [State.readClears, hr]
  rfl

theorem State.rcAfter_lt (s : State) (addr : Nat) {f : RegField} (h : f.reset < 2 ^ (f.hi - f.lo + 1)) :
    s.rcAfter addr f < 2 ^ (f.hi - f.lo + 1) := by
  have hmax : (f.at addr).max < 2 ^ (f.hi - f.lo + 1) := Nat.sub_lt (Nat.two_pow_pos _) Nat.one_pos
  have hg : s.fldGain (f.at addr) < 2 ^ (f.hi - f.lo + 1) := Nat.mod_lt _ (Nat.two_pow_pos _)
  simp only [State.rcAfter]
  split
  · split
    · exact h
    · exact hg
  · exact Nat.lt_of_le_of_lt (Nat.min_le_right _ _) hmax

/-- What the events of the tick have given the fields. -/
def TickMem.sameEvents (m n : TickMem) : Prop := m.set = n.set ∧ m.gain = n.gain

theorem State.rcAfter_congr {s t : State} (h : t.tickMem.sameEvents s.tickMem) (addr : Nat) (f : RegField) : t.rcAfter addr f = s.rcAfter addr f := by
  have hset : ∀ g, t.fldSet g = s.fldSet g := fun g => by rw [State.fldSet, h.1, State.fldSet]
  have hgain : ∀ g, t.fldGain g = s.fldGain g := fun g => by rw [State.fldGain, h.2, State.fldGain]
  simp only [State.rcAfter, hset, hgain]

theorem State.fld_clearField_self (addr : Nat) (t : State) {f : RegField} (hok : (f.at addr).ok = true) (hreset : f.reset < 2 ^ (f.hi - f.lo + 1)) :
    (t.clearField addr f).fld (f.at addr) = t.rcAfter addr f :=
  (State.fld_setFld_same _ _ _ hok).trans (Nat.mod_eq_of_lt (State.rcAfter_lt t addr hreset))

theorem State.fld_clearField_other (addr : Nat) (t : State) (f : RegField) (g : Fld) (hf : (f.at addr).ok = true) (hg : g.ok = true)
    (h : (f.at addr).apart g = true) : (t.clearField addr f).fld g = t.fld g :=
  (State.fld_setThen _ _ _ _).trans (State.fld_setFld_other _ _ _ _ hg hf h)

/-- Every field of a register as a read leaves it. -/
theorem State.fld_readClears {s : State} {addr : Nat} {r : RegRow} (hr : regRow? addr = some r) {f : RegField} (hf : f ∈ r.fields) :
    (s.readClears addr).fld (f.at addr) = if f.acc = .rc then s.rcAfter addr f else s.fld (f.at addr) := by
  rw [State.readClears_row s hr, State.fld_each_row hr _ (φ := State.clearField addr) (K := fun t => t.tickMem.sameEvents s.tickMem) (v := fun f => s.rcAfter addr f)
    (fun _ _ ht => ht) ⟨rfl, rfl⟩ (State.fld_clearField_other addr)
    (fun t f hf ht _ => (State.fld_clearField_self addr t (regField_ok hr hf) (regField_reset_lt hr hf)).trans (State.rcAfter_congr ht addr f)) hf]
  simp only [beq_iff_eq]

theorem State.readClears_frame (s : State) (addr : Nat) :
    OnlyParts [.regs, .tickMem] s (s.readClears addr) ∧ OnlyRegs [addr] s (s.readClears addr) := by
  cases hr : regRow? addr with
  | none => simp only [State.readClears, hr]; exact ⟨OnlyParts.refl _ s, OnlyRegs.refl _ s⟩
  | some r =>
    rw [State.readClears_row s hr]
    exact State.each_keeps (fun t => OnlyParts [.regs, .tickMem] s t ∧ OnlyRegs [addr] s t) _ _ s ⟨OnlyParts.refl _ s, OnlyRegs.refl _ s⟩
      (fun t ⟨hp, hr⟩ f _ => ⟨(hp.trans (OnlyParts.setFld (by simp) t _ _)).trans (OnlyParts.setThen (by simp) _ _ _),
        hr.trans (OnlyRegs.setFld t _ _ (by simp))⟩)

theorem OnlyParts.mono {ps qs : List Part} {s t : State} (hpq : ps ⊆ qs) (h : OnlyParts ps s t) : OnlyParts qs s t :=
  ⟨h.1, fun p hp => h.2 p (fun hp' => hp (hpq hp'))⟩

theorem State.latchHi_of_notCounter (s : State) {addr : Nat} (h : addr ∉ [TB_CNT_LO.REG.addr, MP_JSEQ_LO.REG.addr, PL_TOFF_LO.REG.addr]) :
    s.latchHi addr = s := by
  simp only [List.mem_cons, List.not_mem_nil, or_false, not_or] at h
  obtain ⟨h1, h2, h3⟩ := h
  simp only [State.latchHi, h1, h2, h3, if_false]

theorem notCounter_of_keepsExtreme {addr : Nat} (h : keepsExtreme addr = true) : addr ∉ [TB_CNT_LO.REG.addr, MP_JSEQ_LO.REG.addr, PL_TOFF_LO.REG.addr] := by
  intro hm
  simp only [List.mem_cons, List.not_mem_nil, or_false] at hm
  rcases hm with rfl | rfl | rfl <;> exact absurd h (by decide)

/-- A read of four bytes of a register that is no counter's LO half (R12 to R15, R17). -/
theorem State.regRead_row (s : State) {addr : Nat} {r : RegRow} (hr : regRow? addr = some r)
    (hc : addr ∉ [TB_CNT_LO.REG.addr, MP_JSEQ_LO.REG.addr, PL_TOFF_LO.REG.addr]) :
    (s.regRead addr 4).readOut = leBytes 4 (s.readWord addr).toNat ∧
    (∀ f ∈ r.fields, (s.regRead addr 4).fld (f.at addr) = if f.acc = .rc then s.rcAfter addr f else s.fld (f.at addr)) ∧
    OnlyParts [.regs, .tickMem, .readOut] s (s.regRead addr 4) ∧ OnlyRegs [addr] s (s.regRead addr 4) := by
  obtain ⟨hp, ha⟩ := State.readClears_frame { s with readOut := [] } addr
  rw [State.regRead_word s (aligned_of_regRow? hr), State.latchHi_of_notCounter _ hc]
  refine ⟨rfl, fun f hf => State.fld_readClears (s := { s with readOut := [] }) hr hf, ?_, ha⟩
  exact ((OnlyParts.readOut (by simp) s []).trans (hp.mono (by simp))).trans (OnlyParts.readOut (by simp) _ _)

theorem State.regWrite_row {s : State} {addr : Nat} {r : RegRow} (w : Nat) (hr : regRow? addr = some r) (hb : s.writeBarred addr = false)
    (ha : addr ≠ HM_BLTCTL.REG.addr) :
    s.regWrite addr (leBytes 4 w) = s.each (r.fields.filter (fun f => s.takesWrite addr f)) (State.writeField addr (BitVec.ofNat 32 w)) := by
  have hw : BitVec.ofNat 32 (w % 256 ^ 4) = BitVec.ofNat 32 w := BitVec.eq_of_toNat_eq (by simp)
  rw [State.regWrite_word s _ (aligned_of_regRow? hr) (leBytes_length 4 w), leAt_leBytes, hw, State.writeWord_row _ hb ha hr]

/-- Settles O7: each clause is the word form of the access, field by field. -/
theorem registerAccess : Obligations.register_access := by
  refine ⟨?write, ?read, ?readExtreme, ?part⟩
  case write =>
    intro s addr w r hlive hr hbn hb ha hring
    refine ⟨_, execRegisterWrite_live hlive addr _, ?_⟩
    rw [State.regWrite_row w hr hb ha]
    refine ⟨fun f hf => ?_, State.writeFields_frame s addr _ _⟩
    have hfld := State.fld_writeFields (s := s) (BitVec.ofNat 32 w) hr (fun f => s.takesWrite addr f) hf
    rw [State.takesWrite_eq hbn hring] at hfld
    refine ⟨fun h => ?_, fun h => ?_, fun h => ?_, fun h => ?_⟩
    · simpa [fieldWritten, h, hring] using hfld
    · simpa [fieldWritten, h, Fld.max] using hfld
    · simpa [fieldWritten, h] using hfld
    · rcases h with h | h | h <;> simpa [h] using hfld
  case read =>
    intro s addr r hlive hr hc hk
    refine ⟨_, execRegisterReadClear_live hlive addr 4, ?_⟩
    simpa only [State.rcAfter, hk, Bool.false_eq_true, if_false] using State.regRead_row s hr hc
  case readExtreme =>
    intro s addr r hlive hr hk
    refine ⟨_, execRegisterReadClear_live hlive addr 4, ?_⟩
    simpa only [State.rcAfter, hk, if_true] using State.regRead_row s hr (notCounter_of_keepsExtreme hk)
  case part =>
    intro s addr data hlive ha hd
    rw [execRegisterWrite_live hlive, State.regWrite_part s data ha hd]

/-! ### Unimplemented offsets (R14) -/

/-- A range of registers that a table implements in full holds no unimplemented offset. -/
theorem notInRange_of_implemented {base n addr : Nat} (hall : ∀ k < n + 1, (regRow? (base + 4 * k)).isSome = true) (ha : addr % 4 = 0)
    (hb : base % 4 = 0) (hr : regRow? addr = none) : inRange addr base (base + 4 * n + 3) = false := by
  refine Bool.eq_false_iff.mpr fun h => ?_
  simp only [inRange, Bool.and_eq_true, decide_eq_true_eq] at h
  have hk := hall ((addr - base) / 4) (by omega)
  rw [show base + 4 * ((addr - base) / 4) = addr by omega, hr] at hk
  simp at hk

theorem ne_of_implemented {a addr : Nat} (h : (regRow? a).isSome = true) (hr : regRow? addr = none) : addr ≠ a := by
  rintro rfl
  simp [hr] at h

/-- The single registers of which `regView` shows something other than the word stored. -/
def viewedAlone : List Nat :=
  [TB_CNT_LO.REG.addr, PL_TOFF_LO.REG.addr, DM_ACT.REG.addr, DD_SSAGE.REG.addr, GA_ARMED_LO.REG.addr, GA_ARMED_HI.REG.addr, FB_ALERT.REG.addr,
    SP_STAT.REG.addr, EB_PLCA.REG.addr, FB_STAT.REG.addr]

theorem viewedAlone_implemented : ∀ a ∈ viewedAlone, (regRow? a).isSome = true := by decide +kernel

/-- Between CL_CS3 and CL_CSFIR0 a channel set shows nothing. -/
theorem ChanSet.word_gap (c : ChanSet) {off : Nat} (h1 : 0x10 ≤ off) (h2 : off < 0x1C) : c.word off = 0 := by
  unfold ChanSet.word
  rw [if_neg (by omega), if_neg (by omega), if_neg (by omega), if_neg (by omega), if_neg (by omega)]

theorem shownSet_gap {addr : Nat} (ha : addr % 4 = 0) (hr : regRow? addr = none) (h : inRange addr 0xF0044 0xF007F = true) (c : ChanSet) :
    c.word (addr - 0xF0044) = 0 := by
  have hcs := notInRange_of_implemented (base := 0xF0044) (n := 3) (by decide +kernel) ha rfl hr
  have hfir := notInRange_of_implemented (base := 0xF0060) (n := 7) (by decide +kernel) ha rfl hr
  simp only [inRange, Bool.and_eq_true, decide_eq_true_eq, Bool.and_eq_false_iff, decide_eq_false_iff_not] at hcs hfir h
  exact c.word_gap (by omega) (by omega)

theorem State.regView_unimplemented (s : State) {addr : Nat} (ha : addr % 4 = 0) (hr : regRow? addr = none) : s.regView addr = 0 := by
  have hac : inRange addr 0x30100 0x301FF = false := notInRange_of_implemented (n := 63) (by decide +kernel) ha rfl hr
  have hsl : inRange addr 0x160100 0x1601FF = false := notInRange_of_implemented (n := 63) (by decide +kernel) ha rfl hr
  have hsr : inRange addr 0x130008 0x130017 = false := notInRange_of_implemented (n := 3) (by decide +kernel) ha rfl hr
  have hne : ∀ a ∈ viewedAlone, addr ≠ a := fun a h => ne_of_implemented (viewedAlone_implemented a h) hr
  simp only [viewedAlone, List.forall_mem_cons, List.not_mem_nil, false_imp_iff, implies_true, and_true] at hne
  simp only [State.regView, hac, hsl, hsr, hne, hr, Bool.false_eq_true, if_false, Option.isNone_none, if_true]
  split
  · split
    · rw [shownSet_gap ha hr ‹_›]
      rfl
    · rfl
  · rfl

/-- A read of four bytes at an unimplemented offset returns zeros and does nothing else (R14). -/
theorem State.regRead_unimplemented (s : State) {addr : Nat} (ha : addr % 4 = 0) (hr : regRow? addr = none) :
    s.regRead addr 4 = { s with readOut := [0, 0, 0, 0] } := by
  have hc : addr ∉ [TB_CNT_LO.REG.addr, MP_JSEQ_LO.REG.addr, PL_TOFF_LO.REG.addr] := by
    have hall : ∀ a ∈ [TB_CNT_LO.REG.addr, MP_JSEQ_LO.REG.addr, PL_TOFF_LO.REG.addr], (regRow? a).isSome = true := by decide +kernel
    exact fun h => ne_of_implemented (hall addr h) hr rfl
  have hw : s.readWord addr = 0 := by
    simp only [State.readWord, hr]
    exact s.regView_unimplemented ha hr
  rw [State.regRead_word s ha, State.latchHi_of_notCounter _ hc, hw]
  simp only [State.readClears, hr]
  rfl

theorem State.writeWord_unimplemented (s : State) {addr : Nat} (w : Word32) (hr : regRow? addr = none) (hp : inPushWindow addr = false) :
    s.writeWord addr w = s := by
  have hne : addr ≠ HM_BLTCTL.REG.addr := ne_of_implemented (by decide +kernel) hr
  simp only [State.writeWord, hne, hr, hp, Bool.false_and, Bool.false_eq_true, if_false, ite_self]

/-- Settles O8. -/
theorem unimplementedOffsets : Obligations.unimplemented_offsets := by
  refine ⟨fun s addr hlive ha hr _ => ?_, fun s addr data hlive ha hr hp hd => ?_⟩
  · refine ⟨_, execRegisterReadClear_live hlive addr 4, ?_⟩
    rw [State.regRead_unimplemented s ha hr]
    exact ⟨rfl, OnlyParts.readOut (by simp) s _⟩
  · rw [execRegisterWrite_live hlive, State.regWrite_word s data ha hd, State.writeWord_unimplemented s _ hr hp]

/-- Settles O5: nothing is listed at reset, so every register reads as its table's reset value. -/
theorem resetIsCanonical : Obligations.reset_is_canonical :=
  ⟨⟨SMap.wf_nil _, rfl, SMap.wf_nil _, SMap.wf_nil _⟩, rfl, SMap.get_nil resetWord⟩

end Sys2Proof.Machine
end

section
/-! SUPPORT. No command touches the queue (O3). `State.queue` is the queue; each operation that the meanings are built from leaves it, unit by
unit in the order of the model's files. Straight-line operations follow from the lemmas of what they call; where a definition splits, the
proof splits with it, and where it recurses, by induction. -/
namespace Sys2Proof.Machine

/-! ### Updates and combinators -/

/-- The commands that wait. A function of its own, so that two states' queues are compared by how the states were made before they are
evaluated. -/
def State.queue (s : State) : List Instr := s.pending

theorem State.queue_congr {s t : State} (h : t.pending = s.pending) : t.queue = s.queue := h

section
variable (s : State)

@[simp] theorem State.setReg_queue (a : Nat) (w : Word32) : (s.setReg a w).queue = s.queue := State.queue_congr rfl
@[simp] theorem State.setFld_queue (g : Fld) (v : Nat) : (s.setFld g v).queue = s.queue := State.queue_congr rfl
@[simp] theorem State.setThen_queue (g : Fld) (v : Nat) : (s.setThen g v).queue = s.queue := State.queue_congr rfl
@[simp] theorem State.noteSet_queue (g : Fld) (v : Nat) : (s.noteSet g v).queue = s.queue := State.queue_congr rfl
@[simp] theorem State.noteGain_queue (g : Fld) (v : Nat) : (s.noteGain g v).queue = s.queue := State.queue_congr rfl
@[simp] theorem State.setBit_queue (g : Fld) : (s.setBit g).queue = s.queue := State.queue_congr rfl
@[simp] theorem State.clrBit_queue (g : Fld) : (s.clrBit g).queue = s.queue := State.queue_congr rfl
@[simp] theorem State.addSat_queue (g : Fld) (n : Nat) : (s.addSat g n).queue = s.queue := State.queue_congr rfl
@[simp] theorem State.bump_queue (g : Fld) : (s.bump g).queue = s.queue := State.queue_congr rfl
@[simp] theorem State.keepBest_queue (g : Fld) (best : Nat → Nat → Nat) (v : Nat) : (s.keepBest g best v).queue = s.queue := State.queue_congr rfl
@[simp] theorem State.setFldBit_queue (g : Fld) (n : Nat) (b : Bool) : (s.setFldBit g n b).queue = s.queue :=
  State.queue_congr (State.setFldBit_pending ..)
@[simp] theorem State.drawFree_queue : (s.drawFree).queue = s.queue := State.queue_congr rfl
@[simp] theorem State.modHelper_queue (h : Nat) (f : Helper → Helper) : (s.modHelper h f).queue = s.queue := State.queue_congr rfl
@[simp] theorem State.modDom_queue (d : Dom) (f : DomSt → DomSt) : (s.modDom d f).queue = s.queue := State.queue_congr (State.modDom_pending ..)
@[simp] theorem State.modSv_queue (a : Act) (f : ServoSt → ServoSt) : (s.modSv a f).queue = s.queue := State.queue_congr rfl
@[simp] theorem State.modAs_queue (a : Act) (f : AssistSt → AssistSt) : (s.modAs a f).queue = s.queue := State.queue_congr rfl
@[simp] theorem State.modHead_queue (a : Act) (i : Nat) (f : HeadSt → HeadSt) : (s.modHead a i f).queue = s.queue := State.queue_congr rfl
@[simp] theorem State.modPlace_queue (a : Act) (k : Nat) (f : Place → Place) : (s.modPlace a k f).queue = s.queue := State.queue_congr rfl
@[simp] theorem State.modAslot_queue (a : Act) (n : Nat) (f : AssistSlot → AssistSlot) : (s.modAslot a n f).queue = s.queue := State.queue_congr rfl
@[simp] theorem State.modLane_queue (l : Nat) (f : LaneSt → LaneSt) : (s.modLane l f).queue = s.queue := State.queue_congr rfl
@[simp] theorem State.modSlot_queue (k : Nat) (f : SlotSt → SlotSt) : (s.modSlot k f).queue = s.queue := State.queue_congr rfl
@[simp] theorem State.modChan_queue (c : Nat) (f : Channel → Channel) : (s.modChan c f).queue = s.queue := State.queue_congr rfl
@[simp] theorem State.modRing_queue (r : Nat) (f : RingSt → RingSt) : (s.modRing r f).queue = s.queue := State.queue_congr rfl
@[simp] theorem State.modCtrl_queue (c : Nat) (f : Ctrl → Ctrl) : (s.modCtrl c f).queue = s.queue := State.queue_congr rfl
@[simp] theorem State.modNvme_queue (f : NvmeSt → NvmeSt) : (s.modNvme f).queue = s.queue := State.queue_congr rfl
@[simp] theorem State.modPower_queue (f : Power → Power) : (s.modPower f).queue = s.queue := State.queue_congr rfl
@[simp] theorem State.modPins_queue (f : Pins → Pins) : (s.modPins f).queue = s.queue := State.queue_congr rfl
@[simp] theorem State.modSec_queue (f : SecSt → SecSt) : (s.modSec f).queue = s.queue := State.queue_congr rfl
@[simp] theorem State.modSp_queue (f : SpindleSt → SpindleSt) : (s.modSp f).queue = s.queue := State.queue_congr rfl
@[simp] theorem State.modMap_queue (f : MapSt → MapSt) : (s.modMap f).queue = s.queue := State.queue_congr rfl
@[simp] theorem State.modSteward_queue (f : StewardSt → StewardSt) : (s.modSteward f).queue = s.queue := State.queue_congr rfl
@[simp] theorem State.modMem_queue (f : MemSt → MemSt) : (s.modMem f).queue = s.queue := State.queue_congr rfl
@[simp] theorem State.modCache_queue (f : CacheSt → CacheSt) : (s.modCache f).queue = s.queue := State.queue_congr rfl
@[simp] theorem State.modDecode_queue (f : DecodeSt → DecodeSt) : (s.modDecode f).queue = s.queue := State.queue_congr rfl
@[simp] theorem State.modCal_queue (f : CalSt → CalSt) : (s.modCal f).queue = s.queue := State.queue_congr rfl
@[simp] theorem State.modLanes_queue (f : LanesSt → LanesSt) : (s.modLanes f).queue = s.queue := State.queue_congr rfl
@[simp] theorem State.modFabric_queue (f : FabricSt → FabricSt) : (s.modFabric f).queue = s.queue := State.queue_congr rfl
@[simp] theorem State.modAcc_queue (f : AccordSt → AccordSt) : (s.modAcc f).queue = s.queue := State.queue_congr rfl
@[simp] theorem State.modNv_queue (f : NonVol → NonVol) : (s.modNv f).queue = s.queue := State.queue_congr rfl
@[simp] theorem State.modTier_queue (f : TierSt → TierSt) : (s.modTier f).queue = s.queue := State.queue_congr rfl
@[simp] theorem State.modPool_queue (f : PoolSt → PoolSt) : (s.modPool f).queue = s.queue := State.queue_congr rfl
@[simp] theorem State.modEb_queue (f : EbSt → EbSt) : (s.modEb f).queue = s.queue := State.queue_congr rfl
@[simp] theorem State.modFlashAccord_queue (k : Nat) (f : FlashSlot → FlashSlot) : (s.modFlashAccord k f).queue = s.queue := State.queue_congr rfl
@[simp] theorem State.modFlashPatch_queue (k : Nat) (f : FlashSlot → FlashSlot) : (s.modFlashPatch k f).queue = s.queue := State.queue_congr rfl

/-- An update of any parts but the queue. -/
@[simp] theorem State.with_queue {tick' regs' tickMem' recorded' pins' power' doms' acc' nv' sec' faults' sil' thermal' nvme' rings' map' helpers'
    steward' fabric' mem' cache' movers' spindle' servo' assist' lanes' decode' cal' tier' pool' eb' freeIdx' readOut'} :
    (State.mk s.pending tick' regs' tickMem' recorded' pins' power' doms' acc' nv' sec' faults' sil' thermal' nvme' rings' map' helpers'
      steward' fabric' mem' cache' movers' spindle' servo' assist' lanes' decode' cal' tier' pool' eb' freeIdx' readOut').queue = s.queue :=
  State.queue_congr rfl

@[simp] theorem State.modRings_queue (f : RingsSt → RingsSt) : (s.modRings f).queue = s.queue := State.queue_congr rfl

@[simp] theorem State.putWord_queue (m : MemSp) (i : Nat) (c : Code80) : (s.putWord m i c).queue = s.queue := by
  cases m <;> exact State.queue_congr rfl

@[simp] theorem State.hostWrite_queue (k : ReqKind) (q addr : Nat) (data : List Byte) : (s.hostWrite k q addr data).queue = s.queue :=
  State.queue_congr rfl

@[simp] theorem State.rebooted_queue : s.rebooted.queue = s.queue := State.queue_congr rfl

@[simp] theorem State.ite_queue (c : Prop) [Decidable c] (t u : State) : (if c then t else u).queue = if c then t.queue else u.queue :=
  apply_ite State.queue c t u

@[simp] theorem State.when_queue (b : Bool) (f : State → State) : (s.when b f).queue = if b then (f s).queue else s.queue :=
  apply_ite State.queue _ _ _

@[simp] theorem State.whileLive_queue (f : State → State) : (s.whileLive f).queue = if s.live then (f s).queue else s.queue :=
  apply_ite State.queue _ _ _

@[simp] theorem State.onSome_queue {α : Type} (o : Option α) (f : State → α → State) (h : ∀ t x, (f t x).queue = t.queue) :
    (s.onSome o f).queue = s.queue := by
  cases o with
  | none => rfl
  | some x => exact h s x

@[simp] theorem State.foldl_queue {α : Type} (l : List α) (f : State → α → State) (h : ∀ t x, (f t x).queue = t.queue) :
    (l.foldl f s).queue = s.queue := by
  induction l generalizing s with
  | nil => rfl
  | cons x l ih => exact (ih (f s x)).trans (h s x)

@[simp] theorem State.ite_fst_queue {β : Type} (c : Prop) [Decidable c] (r q : State × β) :
    (if c then r else q).1.queue = if c then r.1.queue else q.1.queue := apply_ite (fun r : State × β => r.1.queue) c r q

@[simp] theorem State.foldl_fst_queue {α β : Type} (l : List α) (f : State × β → α → State × β) (r : State × β)
    (h : ∀ r x, (f r x).1.queue = r.1.queue) : (l.foldl f r).1.queue = r.1.queue := by
  induction l generalizing r with
  | nil => rfl
  | cons x l ih => exact (ih (f r x)).trans (h r x)

@[simp] theorem State.each_queue {α : Type} (l : List α) (f : State → α → State) (h : ∀ t x, (f t x).queue = t.queue) :
    (s.each l f).queue = s.queue := State.foldl_queue s l f h

end

/-! ### The operations of Machine/Events -/

@[simp] theorem State.modSil_queue (s : State) (f : SilSt → SilSt) : (s.modSil f).queue = s.queue := by simp [State.modSil]
@[simp] theorem State.putBucket_queue (s : State) (code : Nat) (b : Bucket) : (s.putBucket code b).queue = s.queue := by simp [State.putBucket]

@[simp] theorem State.enqueueRecord_queue (s : State) (code : Nat) (fields : List Byte) : (s.enqueueRecord code fields).queue = s.queue := by
  simp [State.enqueueRecord]

@[simp] theorem State.summary_queue (s : State) (code : Nat) : (s.summary code).queue = s.queue := by simp [State.summary]
@[simp] theorem State.allSummaries_queue (s : State) : s.allSummaries.queue = s.queue := by simp [State.allSummaries]
@[simp] theorem State.record_queue (s : State) (code : Nat) (fields : List Byte) : (s.record code fields).queue = s.queue := by simp [State.record]
@[simp] theorem State.gaugeTake_queue (s : State) (g : Nat) (v : Int) : (s.gaugeTake g v).queue = s.queue := by simp [State.gaugeTake]
@[simp] theorem State.gaugeAlarm_queue (s : State) (g : Nat) (v : Int) : (s.gaugeAlarm g v).queue = s.queue := by simp [State.gaugeAlarm]

@[simp] theorem State.sample_queue (s : State) (src : Nat) (hit : Nat → Bool) (v : Int) : (s.sample src hit v).queue = s.queue := by
  simp [State.sample]

/-! ### The operations of Machine/Post -/

@[simp] theorem State.setFeature_queue (s : State) (c fid sel v : Nat) : (s.setFeature c fid sel v).queue = s.queue := by simp [State.setFeature]
@[simp] theorem State.putSq_queue (s : State) (c q : Nat) (v : Option SubQ) : (s.putSq c q v).queue = s.queue := by simp [State.putSq]
@[simp] theorem State.putCq_queue (s : State) (c q : Nat) (v : Option ComQ) : (s.putCq c q v).queue = s.queue := by simp [State.putCq]
@[simp] theorem State.msix_queue (s : State) (c v : Nat) : (s.msix c v).queue = s.queue := by simp [State.msix]

@[simp] theorem State.writeCqe_queue (s : State) (c qid : Nat) (q : ComQ) (e : Cqe) : (s.writeCqe c qid q e).queue = s.queue := by
  simp [State.writeCqe]

@[simp] theorem State.postCqe_queue (s : State) (e : Cqe) : (s.postCqe e).queue = s.queue := by
  unfold State.postCqe
  split <;> simp

@[simp] theorem State.drainHeld_queue (n : Nat) (s : State) (c qid : Nat) : (State.drainHeld n s c qid).queue = s.queue := by
  induction n generalizing s with
  | zero => rfl
  | succ n ih =>
    unfold State.drainHeld
    (repeat' split) <;> simp [ih]

@[simp] theorem State.modCmd_queue (s : State) (m : Cmd) (f : Cmd → Cmd) : (s.modCmd m f).queue = s.queue := by simp [State.modCmd]
@[simp] theorem State.noteFailed_queue (s : State) (m : Cmd) : (s.noteFailed m).queue = s.queue := by simp [State.noteFailed]
@[simp] theorem State.shutSettle_queue (s : State) (c : Nat) : (s.shutSettle c).queue = s.queue := by simp [State.shutSettle]

@[simp] theorem State.finishOne_queue (s : State) (m : Cmd) (st : NvStatus) (dw0 : Nat) : (s.finishOne m st dw0).queue = s.queue := by
  simp [State.finishOne]

@[simp] theorem State.pumpDue_queue (n : Nat) (s : State) : (State.pumpDue n s).queue = s.queue := by
  induction n generalizing s with
  | zero => rfl
  | succ n ih =>
    unfold State.pumpDue
    (repeat' split) <;> simp [ih]

@[simp] theorem State.pumpAer_queue (n : Nat) (s : State) (c : Nat) : (State.pumpAer n s c).queue = s.queue := by
  induction n generalizing s with
  | zero => rfl
  | succ n ih =>
    unfold State.pumpAer
    dsimp only
    split
    · rw [ih]
      split <;> simp
    · rfl

@[simp] theorem State.aerOn_queue (s : State) (c type info page : Nat) : (s.aerOn c type info page).queue = s.queue := by simp [State.aerOn]

@[simp] theorem State.aer_queue (s : State) (bit : Option Nat) (type info page : Nat) : (s.aer bit type info page).queue = s.queue := by
  unfold State.aer
  split <;> simp

@[simp] theorem State.aerSpare_queue (s : State) : s.aerSpare.queue = s.queue := by simp [State.aerSpare]
@[simp] theorem State.aerTemperature_queue (s : State) : s.aerTemperature.queue = s.queue := by simp [State.aerTemperature]
@[simp] theorem State.aerReliability_queue (s : State) : s.aerReliability.queue = s.queue := by simp [State.aerReliability]
@[simp] theorem State.aerNamespace_queue (s : State) : s.aerNamespace.queue = s.queue := by simp [State.aerNamespace]
@[simp] theorem State.aerActivation_queue (s : State) : s.aerActivation.queue = s.queue := by simp [State.aerActivation]
@[simp] theorem State.aerZone_queue (s : State) : s.aerZone.queue = s.queue := by simp [State.aerZone]
@[simp] theorem State.nsChanged_queue (s : State) (c nsid : Nat) : (s.nsChanged c nsid).queue = s.queue := by simp [State.nsChanged]

@[simp] theorem State.drainGone_queue (s : State) (d : Drain) : (s.drainGone d).queue = s.queue := by
  unfold State.drainGone
  dsimp only
  (repeat' split) <;> simp

@[simp] theorem State.drainPump_queue (s : State) : s.drainPump.queue = s.queue := by
  unfold State.drainPump
  rw [State.each_queue]
  intro t x
  dsimp only
  (repeat' split) <;> simp

@[simp] theorem State.finish_queue (s : State) (m : Cmd) (st : NvStatus) (dw0 : Nat) : (s.finish m st dw0).queue = s.queue := by simp [State.finish]

@[simp] theorem State.complete_queue (s : State) (m : Cmd) (st : NvStatus) (dw0 : Nat) : (s.complete m st dw0).queue = s.queue := by
  simp [State.complete]

@[simp] theorem State.unitFault_queue (s : State) : s.unitFault.queue = s.queue := by simp [State.unitFault]
@[simp] theorem State.dataFault_queue (s : State) : s.dataFault.queue = s.queue := by simp [State.dataFault]
@[simp] theorem State.ringSync_queue (s : State) (r : Nat) : (s.ringSync r).queue = s.queue := by simp [State.ringSync]
@[simp] theorem State.ringWrite_queue (s : State) (r : Nat) (c : RingCpl) : (s.ringWrite r c).queue = s.queue := by simp [State.ringWrite]
@[simp] theorem State.ringPost_queue (s : State) (r : Nat) (c : RingCpl) : (s.ringPost r c).queue = s.queue := by simp [State.ringPost]

@[simp] theorem State.ringDrainHeld_queue (n : Nat) (s : State) (r : Nat) : (State.ringDrainHeld n s r).queue = s.queue := by
  induction n generalizing s with
  | zero => rfl
  | succ n ih =>
    unfold State.ringDrainHeld
    split <;> simp [ih]

@[simp] theorem State.ringSettle_queue (s : State) (r : Nat) : (s.ringSettle r).queue = s.queue := by simp [State.ringSettle]

@[simp] theorem State.ringComplete_queue (s : State) (r tag status result : Nat) : (s.ringComplete r tag status result).queue = s.queue := by
  unfold State.ringComplete
  split <;> simp

@[simp] theorem State.ringEnd_queue (s : State) (r tag status : Nat) (b : Option Nat) : (s.ringEnd r tag status b).queue = s.queue := by
  simp [State.ringEnd]

/-! ### The operations of Machine/Memory -/

@[simp] theorem State.eccCapture_queue (s : State) (m : MemSp) (addr req synd : Nat) : (s.eccCapture m addr req synd).queue = s.queue := by
  unfold State.eccCapture
  split <;> simp

@[simp] theorem State.eccRecord_queue (s : State) (m : MemSp) (addr req synd : Nat) (c : Bool) :
    (s.eccRecord m addr req synd c).queue = s.queue := by
  unfold State.eccRecord
  split <;> simp

@[simp] theorem State.eccNote_queue (s : State) (m : MemSp) (addr req : Nat) (d : Decoded) : (s.eccNote m addr req d).queue = s.queue := by
  unfold State.eccNote
  (repeat' split) <;> simp

@[simp] theorem State.noteRead_queue (s : State) (m : MemSp) (addr n req : Nat) : (s.noteRead m addr n req).queue = s.queue := by
  simp [State.noteRead]

@[simp] theorem State.noteMram_queue (s : State) (i n req : Nat) : (s.noteMram i n req).queue = s.queue := by simp [State.noteMram]

@[simp] theorem State.storeWord_queue (s : State) (m : MemSp) (addr : Nat) (data : List Byte) (i : Nat) :
    (s.storeWord m addr data i).queue = s.queue := by
  simp [State.storeWord]

@[simp] theorem State.store_queue (s : State) (m : MemSp) (addr : Nat) (data : List Byte) : (s.store m addr data).queue = s.queue := by
  simp [State.store]

@[simp] theorem State.phyBad_queue (s : State) (i req : Nat) : (s.phyBad i req).queue = s.queue := by simp [State.phyBad]

@[simp] theorem State.hbmWordNote_queue (s : State) (f : MemFaults) (i req : Nat) : (s.hbmWordNote f i req).queue = s.queue := by
  simp [State.hbmWordNote]

@[simp] theorem State.hbmNote_queue (s : State) (f : MemFaults) (addr n req : Nat) : (s.hbmNote f addr n req).queue = s.queue := by
  simp [State.hbmNote]

@[simp] theorem State.hbmStore_queue (s : State) (f : MemFaults) (addr : Nat) (data : List Byte) : (s.hbmStore f addr data).queue = s.queue := by
  simp [State.hbmStore]

@[simp] theorem State.storeNote_queue (s : State) (f : MemFaults) (m : MemSp) (addr : Nat) (data : List Byte) :
    (s.storeNote f m addr data).queue = s.queue := by
  simp [State.storeNote]

/-! ### The operations of Machine/MapOps -/

@[simp] theorem State.modBandSet_queue (s : State) (k : Nat) (f : BandSet → BandSet) : (s.modBandSet k f).queue = s.queue := by
  simp [State.modBandSet]

@[simp] theorem State.countValid_queue (s : State) (e : MapEntry) (up : Bool) : (s.countValid e up).queue = s.queue := by
  unfold State.countValid
  split <;> simp

@[simp] theorem State.mapStored_queue (s : State) (i : Nat) : (s.mapStored i).queue = s.queue := by simp [State.mapStored]
@[simp] theorem State.setEntry_queue (s : State) (i : Nat) (e : MapEntry) : (s.setEntry i e).queue = s.queue := by simp [State.setEntry]
@[simp] theorem State.setZone_queue (s : State) (nsid z : Nat) (v : Zone) : (s.setZone nsid z v).queue = s.queue := by simp [State.setZone]
@[simp] theorem State.freeSync_queue (s : State) : s.freeSync.queue = s.queue := by simp [State.freeSync]
@[simp] theorem State.notePages_queue (s : State) (ps : List Nat) : (s.notePages ps).queue = s.queue := by simp [State.notePages]

@[simp] theorem State.wearMark_queue (s : State) (bit ring level est : Nat) : (s.wearMark bit ring level est).queue = s.queue := by
  simp [State.wearMark]

@[simp] theorem State.wearSync_queue (s : State) : s.wearSync.queue = s.queue := by simp [State.wearSync]
@[simp] theorem State.wearJ_queue (s : State) (n : Nat) : (s.wearJ n).queue = s.queue := by simp [State.wearJ]
@[simp] theorem State.wearS_queue (s : State) (n : Nat) : (s.wearS n).queue = s.queue := by simp [State.wearS]
@[simp] theorem State.putMram_queue (s : State) (addr : Nat) (data : List Byte) : (s.putMram addr data).queue = s.queue := by simp [State.putMram]
@[simp] theorem State.freeNote_queue (s : State) : s.freeNote.queue = s.queue := by simp [State.freeNote]
@[simp] theorem State.takeData_queue (s : State) (n : Nat) : (s.takeData n).1.queue = s.queue := by simp [State.takeData]
@[simp] theorem State.jline_queue (s : State) (l : JLine) : (s.jline l).queue = s.queue := by simp [State.jline]
@[simp] theorem State.jq_queue (s : State) (b : JBody) : (s.jq b).queue = s.queue := by simp [State.jq]
@[simp] theorem State.jdelta_queue (s : State) (ms : List Move) : (s.jdelta ms).queue = s.queue := by simp [State.jdelta]
@[simp] theorem State.bandRecords_queue (s : State) (k st : Nat) : (s.bandRecords k st).queue = s.queue := by simp [State.bandRecords]
@[simp] theorem State.addPend_queue (s : State) (i : Nat) : (s.addPend i).queue = s.queue := by simp [State.addPend]
@[simp] theorem State.applyBand_queue (s : State) (sf st ow k : Nat) : (s.applyBand sf st ow k).queue = s.queue := by simp [State.applyBand]

@[simp] theorem State.applyBody_queue (s : State) (b : JBody) : (s.applyBody b).queue = s.queue := by
  unfold State.applyBody
  dsimp only
  (repeat' split) <;> simp

@[simp] theorem State.modSeg_queue (s : State) (k : Nat) (f : Segment → Segment) : (s.modSeg k f).queue = s.queue := by simp [State.modSeg]
@[simp] theorem State.retire_queue (s : State) : s.retire.queue = s.queue := by simp [State.retire]
@[simp] theorem State.putLine_queue (s : State) (b : JBody) : (s.putLine b).queue = s.queue := by simp [State.putLine]
@[simp] theorem State.openRecPage_queue (s : State) : s.openRecPage.queue = s.queue := by simp [State.openRecPage]

@[simp] theorem State.liveBody_queue (s : State) (b : JBody) : (s.liveBody b).queue = s.queue := by
  unfold State.liveBody
  split <;> simp

@[simp] theorem State.lineDone_queue (s : State) (l : JLine) (rest : List JLine) : (s.lineDone l rest).queue = s.queue := by
  unfold State.lineDone
  split <;> simp

/-! ### The operations of Machine/TierOps -/

@[simp] theorem State.pxSync_queue (s : State) : s.pxSync.queue = s.queue := by simp [State.pxSync]
@[simp] theorem State.openSet_queue (s : State) (k owner use : Nat) : (s.openSet k owner use).queue = s.queue := by simp [State.openSet]

theorem State.findSet_queue {s t : State} {owner use k : Nat} {zone : Option Nat} (e : s.findSet owner use zone = some (t, k)) :
    t.queue = s.queue := by
  unfold State.findSet at e
  (repeat' split at e) <;> cases e <;> simp

@[simp] theorem State.noteNoSet_queue (s : State) : s.noteNoSet.queue = s.queue := by
  unfold State.noteNoSet
  split <;> simp

@[simp] theorem State.sjSync_queue (s : State) : s.sjSync.queue = s.queue := by simp [State.sjSync]
@[simp] theorem State.sjq_queue (s : State) (b : SjBody) : (s.sjq b).queue = s.queue := by simp [State.sjq]
@[simp] theorem State.sjPut_queue (s : State) (n : Nat) (bytes : List Byte) : (s.sjPut n bytes).queue = s.queue := by simp [State.sjPut]
@[simp] theorem State.sjAdvance_queue (s : State) : s.sjAdvance.queue = s.queue := by simp [State.sjAdvance]
@[simp] theorem State.sjPosition_queue (s : State) : s.sjPosition.queue = s.queue := by simp [State.sjPosition]
@[simp] theorem State.sjWrite_queue (s : State) (b : SjBody) (rest : List SjBody) : (s.sjWrite b rest).queue = s.queue := by simp [State.sjWrite]

@[simp] theorem State.modStripe_queue (s : State) (k st : Nat) (f : Stripe → Stripe) : (s.modStripe k st f).queue = s.queue := by
  simp [State.modStripe]

@[simp] theorem State.replace_queue (s : State) (f : WriteFrame) (m : Move) (i : Nat) : (s.replace f m i).queue = s.queue := by
  unfold State.replace
  split <;> simp

@[simp] theorem State.killStripe_queue (s : State) (k st cause : Nat) : (s.killStripe k st cause).queue = s.queue := by
  unfold State.killStripe
  split <;> simp

@[simp] theorem State.passStripes_queue (n : Nat) (s : State) (k : Nat) : (State.passStripes n s k).queue = s.queue := by
  induction n generalizing s with
  | zero => rfl
  | succ n ih =>
    unfold State.passStripes
    simp [ih]

@[simp] theorem State.fillSet_queue (s : State) (k : Nat) : (s.fillSet k).queue = s.queue := by simp [State.fillSet]

@[simp] theorem State.placeFrame_queue (s0 : State) (k kind tag : Nat) (slots : List (List Byte)) (mk : Nat → List Move) :
    (s0.placeFrame k kind tag slots mk).1.queue = s0.queue := by
  simp [State.placeFrame]

@[simp] theorem State.computeParity_queue (s : State) (x : Stripe) : (s.computeParity x).queue = s.queue := by simp [State.computeParity]

@[simp] theorem State.frameWritten_queue (s : State) (f : WriteFrame) : (s.frameWritten f).queue = s.queue := by
  unfold State.frameWritten
  dsimp only
  (repeat' split) <;> simp

@[simp] theorem State.stripeComplete_queue (s : State) (k st : Nat) : (s.stripeComplete k st).queue = s.queue := by
  unfold State.stripeComplete
  split <;> simp

@[simp] theorem State.abandonFrame_queue (s : State) (p cause : Nat) : (s.abandonFrame p cause).queue = s.queue := by
  unfold State.abandonFrame
  dsimp only
  (repeat' split) <;> simp

@[simp] theorem State.moveBlocks_queue (s : State) (p : Nat) (f : Frame) : (s.moveBlocks p f).queue = s.queue := by simp [State.moveBlocks]

@[simp] theorem State.relocateAs_queue (s : State) (sf k st p : Nat) (f : Frame) : (s.relocateAs sf k st p f).queue = s.queue := by
  unfold State.relocateAs
  split
  · rfl
  · split
    · simp
    · split
      · simp
      · dsimp only
        split <;> simp [State.findSet_queue ‹_›]

@[simp] theorem State.relocate_queue (s : State) (k st p : Nat) (f : Frame) : (s.relocate k st p f).queue = s.queue := by simp [State.relocate]

@[simp] theorem State.stripeLost_queue (s : State) (k st : Nat) : (s.stripeLost k st).queue = s.queue := by
  unfold State.stripeLost
  extract_lets ps blocks s1 s2 s3
  have h2 : s2.queue = s1.queue := by
    simp only [s2]
    rw [State.each_queue]
    intro t p
    split <;> simp
  simp [s3, h2, s1]

@[simp] theorem State.rebuildShow_queue (s : State) : s.rebuildShow.queue = s.queue := by
  unfold State.rebuildShow
  split <;> simp

@[simp] theorem State.copiesLost_queue (s : State) (a : Act) : (s.copiesLost a).queue = s.queue := by simp [State.copiesLost]
@[simp] theorem State.startRebuild_queue (s : State) (sf st : Nat) : (s.startRebuild sf st).queue = s.queue := by simp [State.startRebuild]
@[simp] theorem State.wdisEnd_queue (s : State) (a : Act) : (s.wdisEnd a).queue = s.queue := by simp [State.wdisEnd]

/-! ### The operations of Machine/AssistOps -/

@[simp] theorem State.setGate_queue (s : State) (a : Act) (n : Nat) (b : Bool) : (s.setGate a n b).queue = s.queue := by simp [State.setGate]
@[simp] theorem State.blank_queue (s : State) (a : Act) : (s.blank a).queue = s.queue := by simp [State.blank]
@[simp] theorem State.laneDark_queue (s : State) (l : Nat) : (s.laneDark l).queue = s.queue := by simp [State.laneDark]
@[simp] theorem State.unclock_queue (s : State) (a : Act) (n : Nat) : (s.unclock a n).queue = s.queue := by simp [State.unclock]
@[simp] theorem State.budgetSync_queue (s : State) (a : Act) : (s.budgetSync a).queue = s.queue := by simp [State.budgetSync]

@[simp] theorem State.closeGateTo_queue (s : State) (a : Act) (n after : Nat) : (s.closeGateTo a n after).queue = s.queue := by
  unfold State.closeGateTo
  (repeat' split) <;> simp

@[simp] theorem State.closeGate_queue (s : State) (a : Act) (n : Nat) : (s.closeGate a n).queue = s.queue := by simp [State.closeGate]
@[simp] theorem State.closeGates_queue (s : State) (a : Act) : (s.closeGates a).queue = s.queue := by simp [State.closeGates]
@[simp] theorem State.closeAllGates_queue (s : State) : s.closeAllGates.queue = s.queue := by simp [State.closeAllGates]

@[simp] theorem State.assistFault_queue (s : State) (a : Act) (n : Nat) (f : Fld) : (s.assistFault a n f).queue = s.queue := by
  simp [State.assistFault]

@[simp] theorem State.writeDisable_queue (s : State) (a : Act) (h : Nat) : (s.writeDisable a h).queue = s.queue := by simp [State.writeDisable]
@[simp] theorem State.assistLoad_queue (s : State) (a : Act) : (s.assistLoad a).queue = s.queue := by simp [State.assistLoad]

/-! ### The operations of Machine/ServoOps -/

@[simp] theorem State.svGoto_queue (s : State) (a : Act) (st : Nat) : (s.svGoto a st).queue = s.queue := by simp [State.svGoto]
@[simp] theorem State.setVcm_queue (s : State) (a : Act) (en : Bool) (cmd : Int) : (s.setVcm a en cmd).queue = s.queue := by simp [State.setVcm]
@[simp] theorem State.noteInhibit_queue (s : State) (a : Act) (code h : Nat) : (s.noteInhibit a code h).queue = s.queue := by simp [State.noteInhibit]
@[simp] theorem State.inhibitHead_queue (s : State) (a : Act) (h code : Nat) : (s.inhibitHead a h code).queue = s.queue := by simp [State.inhibitHead]
@[simp] theorem State.inhibitAll_queue (s : State) (a : Act) (code : Nat) : (s.inhibitAll a code).queue = s.queue := by simp [State.inhibitAll]
@[simp] theorem State.routeLane_queue (s : State) (a : Act) (l h rd : Nat) : (s.routeLane a l h rd).queue = s.queue := by simp [State.routeLane]
@[simp] theorem State.routesOut_queue (s : State) (a : Act) (bad : List Nat) : (s.routesOut a bad).queue = s.queue := by simp [State.routesOut]

@[simp] theorem State.bindLanes_queue (s : State) (a : Act) (hs : List Nat) : (s.bindLanes a hs).queue = s.queue := by
  unfold State.bindLanes
  rw [State.foldl_queue]
  intro t x
  dsimp only
  split <;> simp

@[simp] theorem State.takeGroup_queue (s : State) (a : Act) (g : Nat) (hs : List Nat) : (s.takeGroup a g hs).queue = s.queue := by
  unfold State.takeGroup
  extract_lets n s1 fresh s2 s3
  have h3 : s3.queue = s2.queue := by
    simp only [s3]
    rw [State.each_queue]
    intro t k
    split <;> simp
  simp [h3, s2, s1]

@[simp] theorem State.leaveGroup_queue (s : State) (a : Act) : (s.leaveGroup a).queue = s.queue := by simp [State.leaveGroup]
@[simp] theorem State.dropPlace_queue (s : State) (a : Act) (k : Nat) : (s.dropPlace a k).queue = s.queue := by simp [State.dropPlace]
@[simp] theorem State.depart_queue (s : State) (a : Act) (k cause : Nat) : (s.depart a k cause).queue = s.queue := by simp [State.depart]

@[simp] theorem State.declareFailed_queue (s : State) (a : Act) (h cause : Nat) : (s.declareFailed a h cause).queue = s.queue := by
  unfold State.declareFailed
  dsimp only
  (repeat' split) <;> simp

@[simp] theorem State.rroSync_queue (s : State) (a : Act) : (s.rroSync a).queue = s.queue := by simp [State.rroSync]
@[simp] theorem State.startSeek_queue (s : State) (a : Act) (g track : Nat) : (s.startSeek a g track).queue = s.queue := by simp [State.startSeek]
@[simp] theorem State.adoptCoefs_queue (s : State) (a : Act) (speed8 : Nat) : (s.adoptCoefs a speed8).queue = s.queue := by simp [State.adoptCoefs]
@[simp] theorem State.startLoad_queue (s : State) (a : Act) : (s.startLoad a).queue = s.queue := by simp [State.startLoad]
@[simp] theorem State.parkAct_queue (s : State) (a : Act) : (s.parkAct a).queue = s.queue := by simp [State.parkAct]
@[simp] theorem State.parkBoth_queue (s : State) : s.parkBoth.queue = s.queue := by simp [State.parkBoth]
@[simp] theorem State.retractAct_queue (s : State) (a : Act) (fault : Bool) : (s.retractAct a fault).queue = s.queue := by simp [State.retractAct]
@[simp] theorem State.clearActFaults_queue (s : State) (a : Act) : (s.clearActFaults a).queue = s.queue := by simp [State.clearActFaults]

/-! ### The operations of Machine/LaneOps -/

@[simp] theorem State.postStatus_queue (s : State) (l : Nat) (r : StatusRec) : (s.postStatus l r).queue = s.queue := by simp [State.postStatus]
@[simp] theorem State.unwait_queue (s : State) (pfn : Nat) : (s.unwait pfn).queue = s.queue := by simp [State.unwait]

@[simp] theorem State.unreadable_queue (s : State) (surf track frame cause : Nat) : (s.unreadable surf track frame cause).queue = s.queue := by
  simp [State.unreadable]

@[simp] theorem State.setDirect_queue (s : State) (surf track frame n : Nat) : (s.setDirect surf track frame n).queue = s.queue := by
  simp [State.setDirect]

@[simp] theorem State.askReread_queue (s : State) (r : Reread) : (s.askReread r).queue = s.queue := by simp [State.askReread]
@[simp] theorem State.reread_queue (s : State) (l : Nat) (c : FrameCmd) : (s.reread l c).queue = s.queue := by simp [State.reread]
@[simp] theorem State.laneAbort_queue (s : State) (l : Nat) : (s.laneAbort l).queue = s.queue := by simp [State.laneAbort]
@[simp] theorem State.laneAbortQueue_queue (s : State) (l : Nat) : (s.laneAbortQueue l).queue = s.queue := by simp [State.laneAbortQueue]
@[simp] theorem State.laneOff_queue (s : State) (l : Nat) : (s.laneOff l).queue = s.queue := by simp [State.laneOff]
@[simp] theorem State.lanesOff_queue (s : State) (a : Act) : (s.lanesOff a).queue = s.queue := by simp [State.lanesOff]

/-! ### The operations of Machine/SpindleOps -/

@[simp] theorem State.spGoto_queue (s : State) (st : Nat) : (s.spGoto st).queue = s.queue := by simp [State.spGoto]
@[simp] theorem State.spDrive_queue (s : State) (d : Drive) : (s.spDrive d).queue = s.queue := by simp [State.spDrive]
@[simp] theorem State.spRecord_queue (s : State) (f : Fld) : (s.spRecord f).queue = s.queue := by simp [State.spRecord]
@[simp] theorem State.setSlewed_queue (s : State) (m : Nat) : (s.setSlewed m).queue = s.queue := by simp [State.setSlewed]
@[simp] theorem State.spObserve_queue (s : State) : s.spObserve.queue = s.queue := by simp [State.spObserve]
@[simp] theorem State.spStart_queue (s : State) : s.spStart.queue = s.queue := by simp [State.spStart]
@[simp] theorem State.spShort_queue (s : State) : s.spShort.queue = s.queue := by simp [State.spShort]
@[simp] theorem State.spBegin_queue (s : State) : s.spBegin.queue = s.queue := by simp [State.spBegin]
@[simp] theorem State.spStop_queue (s : State) : s.spStop.queue = s.queue := by simp [State.spStop]
@[simp] theorem State.retractTrigger_queue (s : State) : s.retractTrigger.queue = s.queue := by simp [State.retractTrigger]
@[simp] theorem State.noteSpeed_queue (s : State) (v : Nat) : (s.noteSpeed v).queue = s.queue := by simp [State.noteSpeed]
@[simp] theorem State.setTarget_queue (s : State) (t : Nat) : (s.setTarget t).queue = s.queue := by simp [State.setTarget]

@[simp] theorem State.adoptMapped_queue (s : State) (r : Nat) : (s.adoptMapped r).queue = s.queue := by
  unfold State.adoptMapped
  split <;> simp

@[simp] theorem State.sourceValue_queue (s : State) (num den : Nat) : (s.sourceValue num den).queue = s.queue := by
  unfold State.sourceValue
  split <;> simp

/-! ### The operations of Machine/EbOps -/

@[simp] theorem State.ebEmit_queue (s : State) (id : Nat × Nat × Nat) (etime : Nat) (f : EbFrame) : (s.ebEmit id etime f).queue = s.queue := by
  simp [State.ebEmit]

@[simp] theorem State.ebLoad_queue (s : State) : s.ebLoad.queue = s.queue := by
  unfold State.ebLoad
  (repeat' split) <;> simp

@[simp] theorem State.ebSend_queue (s : State) (type : Nat) (dst : Option (Nat × Nat)) (body : List Byte) :
    (s.ebSend type dst body).queue = s.queue := by
  simp [State.ebSend]

@[simp] theorem State.sendHealth_queue (s : State) (dst : Option (Nat × Nat)) : (s.sendHealth dst).queue = s.queue := by simp [State.sendHealth]
@[simp] theorem State.healthWatch_queue (s : State) : s.healthWatch.queue = s.queue := by simp [State.healthWatch]

@[simp] theorem State.ebTransmit_queue (s : State) : s.ebTransmit.queue = s.queue := by
  unfold State.ebTransmit
  split <;> simp

@[simp] theorem State.tokSync_queue (s : State) : s.tokSync.queue = s.queue := by simp [State.tokSync]
@[simp] theorem State.tokenArrives_queue (s : State) : s.tokenArrives.queue = s.queue := by simp [State.tokenArrives]

@[simp] theorem State.grantPump_queue (n : Nat) (s : State) : (State.grantPump n s).queue = s.queue := by
  induction n generalizing s with
  | zero => simp [State.grantPump]
  | succ n ih =>
    unfold State.grantPump
    split <;> simp [ih]

@[simp] theorem State.sendTokReq_queue (s : State) (held : Bool) : (s.sendTokReq held).queue = s.queue := by simp [State.sendTokReq]

@[simp] theorem State.wantSpin_queue (s : State) : s.wantSpin.queue = s.queue := by
  unfold State.wantSpin
  dsimp only
  (repeat' split) <;> simp

@[simp] theorem State.returnToken_queue (s : State) : s.returnToken.queue = s.queue := by simp [State.returnToken]
@[simp] theorem State.startElection_queue (s : State) : s.startElection.queue = s.queue := by simp [State.startElection]
@[simp] theorem State.newEpoch_queue (s : State) : s.newEpoch.queue = s.queue := by simp [State.newEpoch]
@[simp] theorem State.becomeMaster_queue (s : State) : s.becomeMaster.queue = s.queue := by simp [State.becomeMaster]
@[simp] theorem State.follow_queue (s : State) (bay node ep : Nat) : (s.follow bay node ep).queue = s.queue := by simp [State.follow]

/-! ### The operations of Machine/CalOps -/

@[simp] theorem State.loadSet_queue (s : State) (l : Nat) (c : ChanSet) : (s.loadSet l c).queue = s.queue := by simp [State.loadSet]
@[simp] theorem State.applySet_queue (s : State) (l : Nat) : (s.applySet l).queue = s.queue := by simp [State.applySet]
@[simp] theorem State.setCause_queue (s : State) (l n : Nat) : (s.setCause l n).queue = s.queue := by simp [State.setCause]
@[simp] theorem State.calSync_queue (s : State) : s.calSync.queue = s.queue := by simp [State.calSync]

@[simp] theorem State.runSync_queue (s : State) : s.runSync.queue = s.queue := by
  unfold State.runSync
  split <;> simp

@[simp] theorem State.lsFree_queue (s : State) : s.lsFree.queue = s.queue := by simp [State.lsFree]
@[simp] theorem State.handBack_queue (s : State) (r : CalRun) : (s.handBack r).queue = s.queue := by simp [State.handBack]
@[simp] theorem State.abandonRun_queue (s : State) (r : CalRun) : (s.abandonRun r).queue = s.queue := by simp [State.abandonRun]
@[simp] theorem State.abandonRuns_queue (s : State) (p : CalRun → Bool) : (s.abandonRuns p).queue = s.queue := by simp [State.abandonRuns]
@[simp] theorem State.runRecord_queue (s : State) (r : CalRun) (result : Nat) : (s.runRecord r result).queue = s.queue := by simp [State.runRecord]
@[simp] theorem State.markDegraded_queue (s : State) (l : Nat) (on : Bool) : (s.markDegraded l on).queue = s.queue := by simp [State.markDegraded]
@[simp] theorem State.rejectRun_queue (s : State) (r : CalRun) (result : Nat) : (s.rejectRun r result).queue = s.queue := by simp [State.rejectRun]
@[simp] theorem State.calZone_queue (s : State) : s.calZone.queue = s.queue := by simp [State.calZone]

/-! ### The operations of Machine/ReadOps -/

@[simp] theorem State.wantRecon_queue (s : State) (p : Nat) (o : Option CmdRef) : (s.wantRecon p o).queue = s.queue := by simp [State.wantRecon]

@[simp] theorem State.noteBlocks_queue (s : State) (gs : List Nat) : (s.noteBlocks gs).queue = s.queue := by
  unfold State.noteBlocks
  rw [State.each_queue]
  intro t x
  split <;> simp

@[simp] theorem State.readTry_queue (s : State) (m : Cmd) : (s.readTry m).queue = s.queue := by simp [State.readTry]

@[simp] theorem State.resumeReads_queue (s : State) : s.resumeReads.queue = s.queue := by
  unfold State.resumeReads
  rw [State.each_queue]
  intro t x
  split <;> simp

@[simp] theorem State.frameRestored_queue (s : State) (p : Nat) (slots : List (List Byte)) : (s.frameRestored p slots).queue = s.queue := by
  simp [State.frameRestored]

@[simp] theorem State.poolFrame_queue (s : State) (p : Nat) (bytes : List Byte) : (s.poolFrame p bytes).queue = s.queue := by simp [State.poolFrame]

/-! ### The operations of Machine/Cache -/

@[simp] theorem State.setLine_queue (s : State) (key : Nat) (l : Option CacheLine) : (s.setLine key l).queue = s.queue := by simp [State.setLine]
@[simp] theorem State.plruUse_queue (s : State) (key : Nat) : (s.plruUse key).queue = s.queue := by simp [State.plruUse]
@[simp] theorem State.cacheSync_queue (s : State) : s.cacheSync.queue = s.queue := by simp [State.cacheSync]

@[simp] theorem State.caNote_queue (s : State) (la k who : Nat) (d : Decoded) : (s.caNote la k who d).queue = s.queue := by
  unfold State.caNote
  split <;> simp

@[simp] theorem State.writeBack_queue (s : State) (f : MemFaults) (la : Nat) (words : List Code80) : (s.writeBack f la words).queue = s.queue := by
  simp [State.writeBack]

@[simp] theorem State.unblock_queue (s : State) (who : Nat) : (s.unblock who).queue = s.queue := by simp [State.unblock]
@[simp] theorem State.block_queue (s : State) (who : Nat) : (s.block who).queue = s.queue := by simp [State.block]

@[simp] theorem State.deliver_queue (s : State) (who dst total reg : Nat) (r : ReadBytes) : (s.deliver who dst total reg r).queue = s.queue := by
  simp [State.deliver]

@[simp] theorem State.tellBad_queue (s : State) (who : Nat) (bad : Bool) : (s.tellBad who bad).queue = s.queue := by simp [State.tellBad]

@[simp] theorem State.install_queue (s : State) (la : Nat) (words : List Code80) (dirty : Bool) : (s.install la words dirty).queue = s.queue := by
  unfold State.install
  dsimp only
  (repeat' split) <;> simp

@[simp] theorem State.dropEv_queue (s : State) (la : Nat) : (s.dropEv la).queue = s.queue := by simp [State.dropEv]
@[simp] theorem State.wbFinish_queue (s : State) (f : MemFaults) (e : EvEntry) : (s.wbFinish f e).queue = s.queue := by simp [State.wbFinish]
@[simp] theorem State.recallEv_queue (s : State) (f : MemFaults) (e : EvEntry) : (s.recallEv f e).queue = s.queue := by simp [State.recallEv]
@[simp] theorem State.dropSide_queue (s : State) (la : Nat) : (s.dropSide la).queue = s.queue := by simp [State.dropSide]
@[simp] theorem State.addFill_queue (s : State) (f : Fill) : (s.addFill f).queue = s.queue := by simp [State.addFill]
@[simp] theorem State.firstUse_queue (s : State) (la : Nat) (words : List Code80) : (s.firstUse la words).queue = s.queue := by simp [State.firstUse]
@[simp] theorem State.promoteSide_queue (s : State) (l : CacheLine) : (s.promoteSide l).queue = s.queue := by simp [State.promoteSide]

@[simp] theorem State.park_queue (s : State) (la : Nat) (words : List Code80) (prefetch : Bool) (r : CacheReq) :
    (s.park la words prefetch r).queue = s.queue := by
  simp [State.park]

@[simp] theorem State.prefetch_queue (s : State) (trig : Nat) (p : Int) : (s.prefetch trig p).queue = s.queue := by simp [State.prefetch]
@[simp] theorem State.releaseHeld_queue (s : State) : s.releaseHeld.queue = s.queue := by simp [State.releaseHeld]
@[simp] theorem State.streamMiss_queue (s : State) (who la : Nat) : (s.streamMiss who la).queue = s.queue := by simp [State.streamMiss]

@[simp] theorem State.streamUse_queue (s : State) (who la : Nat) : (s.streamUse who la).queue = s.queue := by
  unfold State.streamUse
  (repeat' split) <;> simp

@[simp] theorem State.parityLine_queue (s : State) (f : MemFaults) (la : Nat) : (s.parityLine f la).1.queue = s.queue := by
  unfold State.parityLine
  (repeat' split) <;> simp

@[simp] theorem State.lineOpValid_queue (s : State) (f : MemFaults) (op key : Nat) (l : CacheLine) : (s.lineOpValid f op key l).queue = s.queue := by
  simp [State.lineOpValid]

@[simp] theorem State.rmwNote_queue (s : State) (l : CacheLine) (off : Nat) (data : List Byte) (who : Nat) :
    (s.rmwNote l off data who).queue = s.queue := by
  simp [State.rmwNote]

@[simp] theorem State.readNote_queue (s : State) (l : CacheLine) (off n who : Nat) : (s.readNote l off n who).queue = s.queue := by
  simp [State.readNote]

@[simp] theorem State.mergeLine_queue (s : State) (who key : Nat) (l : CacheLine) (off : Nat) (d : List Byte) :
    (s.mergeLine who key l off d).queue = s.queue := by
  simp [State.mergeLine]

@[simp] theorem State.serveLine_queue (s : State) (f : MemFaults) (who a : Nat) (op : CacheOp) (key : Nat) (l : CacheLine) :
    (s.serveLine f who a op key l).queue = s.queue := by
  unfold State.serveLine
  split <;> simp

@[simp] theorem State.serveAt_queue (s : State) (r : CacheReq) : (s.serveAt r).queue = s.queue := by
  unfold State.serveAt
  (repeat' split) <;> simp

@[simp] theorem State.seqNote_queue (s : State) (who la : Nat) : (s.seqNote who la).queue = s.queue := by simp [State.seqNote]
@[simp] theorem State.joinFill_queue (s : State) (f : Fill) (r : CacheReq) : (s.joinFill f r).queue = s.queue := by simp [State.joinFill]
@[simp] theorem State.missFill_queue (s : State) (r : CacheReq) : (s.missFill r).queue = s.queue := by simp [State.missFill]

@[simp] theorem State.streamStore_queue (s : State) (r : CacheReq) : (s.streamStore r).queue = s.queue := by
  unfold State.streamStore
  split <;> simp

@[simp] theorem State.lineAccess_queue (s : State) (r : CacheReq) : (s.lineAccess r).queue = s.queue := by
  unfold State.lineAccess
  dsimp only
  (repeat' split) <;> simp

@[simp] theorem State.partAccess_queue (s : State) (r : CacheReq) : (s.partAccess r).queue = s.queue := by
  unfold State.partAccess
  (repeat' split) <;> simp

@[simp] theorem State.thenMore_queue (s : State) (r : CacheReq) : (s.thenMore r).queue = s.queue := by
  unfold State.thenMore
  (repeat' split) <;> simp

@[simp] theorem State.zeroLine_queue (s : State) (r : CacheReq) : (s.zeroLine r).queue = s.queue := by simp [State.zeroLine]

@[simp] theorem State.lineOp_queue (s : State) (r : CacheReq) (op : Nat) : (s.lineOp r op).queue = s.queue := by
  unfold State.lineOp
  dsimp only
  (repeat' split) <;> simp

@[simp] theorem State.lineOpUncached_queue (s : State) (f : MemFaults) (a op : Nat) : (s.lineOpUncached f a op).queue = s.queue := by
  simp [State.lineOpUncached]

@[simp] theorem State.applyReq_queue (s : State) (r : CacheReq) : (s.applyReq r).queue = s.queue := by
  unfold State.applyReq
  split <;> simp

@[simp] theorem State.finishFill_queue (s : State) (f : Fill) : (s.finishFill f).queue = s.queue := by
  unfold State.finishFill
  split <;> simp

@[simp] theorem State.settleFills_queue (n : Nat) (s : State) : (State.settleFills n s).queue = s.queue := by
  induction n generalizing s with
  | zero => rfl
  | succ n ih =>
    unfold State.settleFills
    split <;> simp [ih]

@[simp] theorem State.cacheSettle_queue (s : State) : s.cacheSettle.queue = s.queue := by simp [State.cacheSettle]
@[simp] theorem State.cacheRequest_queue (s : State) (r : CacheReq) : (s.cacheRequest r).queue = s.queue := by simp [State.cacheRequest]
@[simp] theorem State.fillCome_queue (s : State) (f : MemFaults) (la : Nat) : (s.fillCome f la).queue = s.queue := by simp [State.fillCome]

@[simp] theorem State.wbDone_queue (s : State) (f : MemFaults) (la : Nat) : (s.wbDone f la).queue = s.queue := by
  unfold State.wbDone
  split <;> simp

@[simp] theorem State.cleanAll_queue (s : State) (f : MemFaults) : (s.cleanAll f).queue = s.queue := by
  unfold State.cleanAll
  rw [State.each_queue]
  intro t x
  split <;> simp

@[simp] theorem State.drainCache_queue (n : Nat) (s : State) : (State.drainCache n s).queue = s.queue := by
  induction n generalizing s with
  | zero => rfl
  | succ n ih =>
    unfold State.drainCache
    split <;> simp [ih]

@[simp] theorem State.cacheWriteBackAll_queue (s : State) : s.cacheWriteBackAll.queue = s.queue := by simp [State.cacheWriteBackAll]
@[simp] theorem State.cacheClear_queue (s : State) : s.cacheClear.queue = s.queue := by simp [State.cacheClear]

@[simp] theorem State.moverReadNote_queue (s : State) (f : MemFaults) (a n : Nat) : (s.moverReadNote f a n).queue = s.queue := by
  unfold State.moverReadNote
  rw [State.each_queue]
  intro t x
  split <;> simp

@[simp] theorem State.moverBadNote_queue (s : State) (f : MemFaults) (a : Nat) (d : List Byte) : (s.moverBadNote f a d).queue = s.queue := by
  unfold State.moverBadNote
  rw [State.each_queue]
  intro t x
  split <;> simp

@[simp] theorem State.moverWriteLine_queue (s : State) (f : MemFaults) (a : Nat) (d : List Byte) : (s.moverWriteLine f a d).queue = s.queue := by
  unfold State.moverWriteLine
  dsimp only
  (repeat' split) <;> simp

@[simp] theorem State.moverWrite_queue (s : State) (f : MemFaults) (a : Nat) (data : List Byte) : (s.moverWrite f a data).queue = s.queue := by
  simp [State.moverWrite]

@[simp] theorem State.moverParity_queue (s : State) (f : MemFaults) (a n : Nat) : (s.moverParity f a n).1.queue = s.queue := by
  simp [State.moverParity]

/-! ### The operations of Machine/HelperOps -/

@[simp] theorem State.heSync_queue (s : State) (h : Nat) : (s.heSync h).queue = s.queue := by simp [State.heSync]
@[simp] theorem State.countReturn_queue (s : State) (dst status : Nat) : (s.countReturn dst status).queue = s.queue := by simp [State.countReturn]
@[simp] theorem State.returnMsg_queue (s : State) (m : Msg) (status : Nat) : (s.returnMsg m status).queue = s.queue := by simp [State.returnMsg]
@[simp] theorem State.enterInbox_queue (s : State) (m : Msg) : (s.enterInbox m).queue = s.queue := by simp [State.enterInbox]

@[simp] theorem State.fabricTake_queue (s : State) (m : Msg) : (s.fabricTake m).queue = s.queue := by
  unfold State.fabricTake
  split <;> simp

@[simp] theorem State.deviceMsg_queue (s : State) (src dst type tag : Nat) (payload : List Byte) :
    (s.deviceMsg src dst type tag payload).queue = s.queue := by
  simp [State.deviceMsg]

@[simp] theorem State.flushInbox_queue (s : State) (h : Nat) : (s.flushInbox h).queue = s.queue := by simp [State.flushInbox]
@[simp] theorem State.abortWork_queue (s : State) (h : Nat) : (s.abortWork h).queue = s.queue := by simp [State.abortWork]

@[simp] theorem State.showPatch_queue (s : State) (h : Nat) (p : PatchSet) : (s.showPatch h p).queue = s.queue := by
  unfold State.showPatch
  rw [State.each_queue]
  · simp
  · intro t x
    split <;> simp

@[simp] theorem State.heSwap_queue (s : State) (h : Nat) : (s.heSwap h).queue = s.queue := by
  unfold State.heSwap
  split <;> simp

@[simp] theorem State.stSwap_queue (s : State) : s.stSwap.queue = s.queue := by
  unfold State.stSwap
  split
  · simp
  · rw [State.each_queue]
    · simp
    · intro t x
      split <;> simp

@[simp] theorem State.swapSignal_queue (s : State) (r : Nat) : (s.swapSignal r).queue = s.queue := by simp [State.swapSignal]

@[simp] theorem State.swapGo_queue (n : Nat) (s : State) : (State.swapGo n s).queue = s.queue := by
  induction n generalizing s with
  | zero => rfl
  | succ n ih =>
    unfold State.swapGo
    split <;> simp [ih]

@[simp] theorem State.dropRequests_queue (s : State) (h : Nat) : (s.dropRequests h).queue = s.queue := by simp [State.dropRequests]
@[simp] theorem State.heHalt_queue (s : State) (h : Nat) : (s.heHalt h).queue = s.queue := by simp [State.heHalt]
@[simp] theorem State.heFault_queue (s : State) (h cause space addr : Nat) : (s.heFault h cause space addr).queue = s.queue := by simp [State.heFault]

@[simp] theorem State.stageSteward_queue (s : State) (b : List Byte) : (s.stageSteward b).queue = s.queue := by
  unfold State.stageSteward
  split <;> simp

@[simp] theorem State.stageBundle_queue (s : State) (b : List Byte) : (s.stageBundle b).queue = s.queue := by simp [State.stageBundle]

/-! ### The operations of Machine/DecodeOps -/

@[simp] theorem State.modExtent_queue (s : State) (e : Nat) (f : Extent → Extent) : (s.modExtent e f).queue = s.queue := by simp [State.modExtent]
@[simp] theorem State.ssSync_queue (s : State) : s.ssSync.queue = s.queue := by simp [State.ssSync]

@[simp] theorem State.takeExtent_queue (s : State) : s.takeExtent.1.queue = s.queue := by
  unfold State.takeExtent
  split
  · simp
  · split
    · rfl
    · dsimp only
      simp

theorem State.pin_queue {s t : State} {es : List Nat} (e : s.pin es = some t) : t.queue = s.queue := by
  unfold State.pin at e
  dsimp only at e
  split at e
  · cases e
  · cases e
    simp

@[simp] theorem State.unpin_queue (s : State) (es : List Nat) : (s.unpin es).queue = s.queue := by simp [State.unpin]
@[simp] theorem State.putIndex_queue (s : State) (i : IndexEntry) : (s.putIndex i).queue = s.queue := by simp [State.putIndex]

@[simp] theorem State.ddSync_queue (s : State) : s.ddSync.queue = s.queue := by
  unfold State.ddSync
  rw [State.each_queue]
  · simp
  · intro t x
    split <;> simp

@[simp] theorem State.enqueue_queue (s : State) (r : Recovery) : (s.enqueue r).queue = s.queue := by simp [State.enqueue]
@[simp] theorem State.hold_queue (s : State) (r : Recovery) : (s.hold r).queue = s.queue := by simp [State.hold]
@[simp] theorem State.dropRecovery_queue (s : State) (r : Recovery) : (s.dropRecovery r).queue = s.queue := by simp [State.dropRecovery]
@[simp] theorem State.proceed_queue (s : State) (r : Recovery) : (s.proceed r).queue = s.queue := by simp [State.proceed]
@[simp] theorem State.recovered_queue (s : State) (r : Recovery) : (s.recovered r).queue = s.queue := by simp [State.recovered]
@[simp] theorem State.giveUp_queue (s : State) (r : Recovery) (cause : Nat) : (s.giveUp r cause).queue = s.queue := by simp [State.giveUp]
@[simp] theorem State.askPass_queue (s : State) (r : Recovery) (kind : Nat) : (s.askPass r kind).queue = s.queue := by simp [State.askPass]

@[simp] theorem State.ladder_queue (n : Nat) (s : State) (r : Recovery) (k : Nat) : (State.ladder n s r k).queue = s.queue := by
  induction n generalizing s r k with
  | zero => simp [State.ladder]
  | succ n ih =>
    unfold State.ladder
    simp [ih]
    intros
    split
    · simp [State.pin_queue ‹_›]
    · simp [ih]

@[simp] theorem State.climb_queue (s : State) (r : Recovery) (n : Nat) : (s.climb r n).queue = s.queue := by simp [State.climb]

@[simp] theorem State.nextStep_queue (s0 : State) (r0 : Recovery) : (s0.nextStep r0).queue = s0.queue := by
  unfold State.nextStep
  dsimp only
  (repeat' split) <;> simp

@[simp] theorem State.escalate_queue (s : State) (r0 : Recovery) (h : Nat) : (s.escalate r0 h).queue = s.queue := by
  unfold State.escalate
  dsimp only
  split
  · split <;> simp
  · split
    · simp
    · split
      · simp
      · have hp := State.pin_queue ‹_›
        split <;> simp [hp]

@[simp] theorem State.cancelRecovery_queue (s : State) (surf track frame : Nat) : (s.cancelRecovery surf track frame).queue = s.queue := by
  unfold State.cancelRecovery
  split <;> simp

@[simp] theorem State.cancelPfn_queue (s : State) (p : Nat) : (s.cancelPfn p).queue = s.queue := by simp [State.cancelPfn]
@[simp] theorem State.reenter_queue (s : State) (h : Nat) : (s.reenter h).queue = s.queue := by simp [State.reenter]

/-! ### The operations of Machine/PoolOps -/

@[simp] theorem State.plSync_queue (s : State) : s.plSync.queue = s.queue := by simp [State.plSync]
@[simp] theorem State.ewPut_queue (s : State) (f : EwFrame) : (s.ewPut f).queue = s.queue := by simp [State.ewPut]

@[simp] theorem State.ewSend_queue (s : State) (type dst xid : Nat) (body : List Byte) : (s.ewSend type dst xid body).queue = s.queue := by
  simp [State.ewSend]

@[simp] theorem State.ewReply_queue (s : State) (h : EwHdr) (type status : Nat) (body : List Byte) :
    (s.ewReply h type status body).queue = s.queue := by
  simp [State.ewReply]

@[simp] theorem State.ewGroup_queue (s : State) (port grp type xid : Nat) (body : List Byte) :
    (s.ewGroup port grp type xid body).queue = s.queue := by
  simp [State.ewGroup]

@[simp] theorem State.freshXid_queue (s : State) : s.freshXid.1.queue = s.queue := by simp [State.freshXid]

@[simp] theorem State.ewAccept_queue (s : State) (h : EwHdr) (type : Nat) (f : State → State) (hf : ∀ t, (f t).queue = t.queue) :
    (s.ewAccept h type f).queue = s.queue := by
  simp [State.ewAccept, hf]

@[simp] theorem State.contribute_queue (s : State) (c : Contrib) : (s.contribute c).queue = s.queue := by simp [State.contribute]

@[simp] theorem State.sendPupd_queue (s : State) (o : OpenC) : (s.sendPupd o).queue = s.queue := by
  unfold State.sendPupd
  split <;> simp

@[simp] theorem State.contribOpened_queue (s : State) (c : Contrib) (seq : Nat) : (s.contribOpened c seq).queue = s.queue := by
  unfold State.contribOpened
  split <;> simp

@[simp] theorem State.contribStripe_queue (s : State) (k st : Nat) : (s.contribStripe k st).queue = s.queue := by
  unfold State.contribStripe
  split
  · simp
  · rw [State.each_queue]
    intro t x
    split <;> simp

@[simp] theorem State.retractCell_queue (s : State) (p : Nat) : (s.retractCell p).queue = s.queue := by simp [State.retractCell]

@[simp] theorem State.release_queue (s : State) : s.release.queue = s.queue := by
  unfold State.release
  dsimp only
  (repeat' split) <;> simp

@[simp] theorem State.poolSettle_queue (s : State) : s.poolSettle.queue = s.queue := by simp [State.poolSettle]

@[simp] theorem State.contribClose_queue (s : State) (o : OpenC) : (s.contribClose o).queue = s.queue := by
  unfold State.contribClose
  dsimp only
  (repeat' split) <;> simp

@[simp] theorem State.sendQupd_queue (s : State) (h : HeldC) : (s.sendQupd h).queue = s.queue := by
  unfold State.sendQupd
  split <;> simp

@[simp] theorem State.heldDurable_queue (s : State) (c : Contrib) (writer wseq : Nat) : (s.heldDurable c writer wseq).queue = s.queue := by
  unfold State.heldDurable
  split <;> simp

@[simp] theorem State.unpaired_queue (s : State) (on : Bool) : (s.unpaired on).queue = s.queue := by simp [State.unpaired]

@[simp] theorem State.finishWrite_queue (s : State) (owner : Option CmdRef) (result : Nat) : (s.finishWrite owner result).queue = s.queue := by
  unfold State.finishWrite
  (repeat' split) <;> simp

@[simp] theorem State.pairGroup_queue (s : State) (l : JLine) (seq : Nat) (record data : List Byte) :
    (s.pairGroup l seq record data).queue = s.queue := by
  unfold State.pairGroup
  (repeat' split) <;> simp

@[simp] theorem State.pairPump_queue (s : State) : s.pairPump.queue = s.queue := by simp [State.pairPump]
@[simp] theorem State.pairDrop_queue (s : State) : s.pairDrop.queue = s.queue := by simp [State.pairDrop]
@[simp] theorem State.sendLeave_queue (s : State) (ret : Nat) : (s.sendLeave ret).queue = s.queue := by simp [State.sendLeave]
@[simp] theorem State.poolDown_queue (s : State) : s.poolDown.queue = s.queue := by simp [State.poolDown]
@[simp] theorem State.joinGroups_queue (s : State) : s.joinGroups.queue = s.queue := by simp [State.joinGroups]
@[simp] theorem State.poolMasterKnown_queue (s : State) : s.poolMasterKnown.queue = s.queue := by simp [State.poolMasterKnown]

@[simp] theorem State.poolBoot_queue (s : State) : s.poolBoot.queue = s.queue := by
  unfold State.poolBoot
  dsimp only
  (repeat' split) <;> simp

@[simp] theorem State.identityRecord_queue (s : State) : s.identityRecord.queue = s.queue := by simp [State.identityRecord]

@[simp] theorem State.askOpens_queue (s : State) : s.askOpens.queue = s.queue := by
  unfold State.askOpens
  rw [State.each_queue]
  intro t x
  (repeat' split) <;> simp

@[simp] theorem State.adoptLayout_queue (s : State) (epoch : Nat) (ids : List (Nat × Bool)) : (s.adoptLayout epoch ids).queue = s.queue := by
  unfold State.adoptLayout
  dsimp only
  (repeat' split) <;> simp

@[simp] theorem State.isolate_queue (s : State) : s.isolate.queue = s.queue := by simp [State.isolate]

@[simp] theorem State.memberFail_queue (s : State) (id newgen cause : Nat) : (s.memberFail id newgen cause).queue = s.queue := by
  simp [State.memberFail]

@[simp] theorem State.reElect_queue (s : State) : s.reElect.queue = s.queue := by simp [State.reElect]

@[simp] theorem State.readRow_queue (s : State) (g r c h target purpose pfn : Nat) : (s.readRow g r c h target purpose pfn).queue = s.queue := by
  unfold State.readRow
  rw [State.each_queue]
  · simp
  · intro t x
    split <;> simp

@[simp] theorem State.poolRead_queue (s : State) (p : Nat) : (s.poolRead p).queue = s.queue := by
  unfold State.poolRead
  split <;> simp

/-! ### The operations of Machine/DomainOps -/

@[simp] theorem State.domRecord_queue (s : State) (d : Dom) (frm into : DomState) (cause : Nat) : (s.domRecord d frm into cause).queue = s.queue := by
  simp [State.domRecord]

@[simp] theorem State.answer_queue (s : State) (q : Option Requester) (status result : Nat) : (s.answer q status result).queue = s.queue := by
  unfold State.answer
  split <;> simp

@[simp] theorem State.acSlotSync_queue (s : State) (k : Nat) : (s.acSlotSync k).queue = s.queue := by simp [State.acSlotSync]
@[simp] theorem State.acMark_queue (s : State) (k : Nat) (f : Marks → Marks) : (s.acMark k f).queue = s.queue := by simp [State.acMark]
@[simp] theorem State.acRevoke_queue (s : State) (k err sect : Nat) : (s.acRevoke k err sect).queue = s.queue := by simp [State.acRevoke]
@[simp] theorem State.acOp_queue (s : State) (op : Nat) : (s.acOp op).queue = s.queue := by simp [State.acOp]
@[simp] theorem State.acErr_queue (s : State) (err sect : Nat) : (s.acErr err sect).queue = s.queue := by simp [State.acErr]
@[simp] theorem State.acShow_queue (s : State) (k : Nat) : (s.acShow k).queue = s.queue := by simp [State.acShow]

@[simp] theorem State.answerStore_queue (s : State) (o : StoreOwner) (status result : Nat) (nv : NvStatus) :
    (s.answerStore o status result nv).queue = s.queue := by
  unfold State.answerStore
  (repeat' split) <;> simp

@[simp] theorem State.storeFailed_queue (s : State) (err : Nat) : (s.storeFailed err).queue = s.queue := by
  unfold State.storeFailed
  split <;> simp

@[simp] theorem State.leaveServing_queue (s : State) (d : Dom) : (s.leaveServing d).queue = s.queue := by
  unfold State.leaveServing
  split <;> simp

@[simp] theorem State.dropWork_queue (s : State) (d : Dom) : (s.dropWork d).queue = s.queue := by
  unfold State.dropWork
  split <;> simp

@[simp] theorem State.stopDomain_queue (s : State) (d : Dom) : (s.stopDomain d).queue = s.queue := by
  unfold State.stopDomain
  split <;> simp

@[simp] theorem State.assignRole_queue (s : State) (h role param : Nat) : (s.assignRole h role param).queue = s.queue := by simp [State.assignRole]
@[simp] theorem State.schedSync_queue (s : State) : s.schedSync.queue = s.queue := by simp [State.schedSync]
@[simp] theorem State.heStart_queue (s : State) (h : Nat) : (s.heStart h).queue = s.queue := by simp [State.heStart]
@[simp] theorem State.domSet_queue (s : State) (code : Nat) (b : List Byte) : (s.domSet code b).queue = s.queue := by simp [State.domSet]
@[simp] theorem State.loadPatch_queue (s : State) (d : Dom) : (s.loadPatch d).queue = s.queue := by simp [State.loadPatch]

@[simp] theorem State.applyLoad_queue (s : State) (d : Dom) (k : LoadKind) : (s.applyLoad d k).queue = s.queue := by
  unfold State.applyLoad
  (repeat' split) <;> simp

@[simp] theorem State.loadFailed_queue (s : State) (d : Dom) (k : LoadKind) (err : Nat) : (s.loadFailed d k err).queue = s.queue := by
  unfold State.loadFailed
  (repeat' split) <;> simp

@[simp] theorem State.loadDone_queue (s : State) (d : Dom) (k : LoadKind) : (s.loadDone d k).queue = s.queue := by
  unfold State.loadDone
  (repeat' split) <;> simp

@[simp] theorem State.dropDomain_queue (s : State) (d : Dom) (cause rec : Nat) : (s.dropDomain d cause rec).queue = s.queue := by
  unfold State.dropDomain
  dsimp only
  (repeat' split) <;> simp

@[simp] theorem State.heStopNow_queue (s : State) (h : Nat) : (s.heStopNow h).queue = s.queue := by simp [State.heStopNow]
@[simp] theorem State.heStopAsk_queue (s : State) (h : Nat) : (s.heStopAsk h).queue = s.queue := by simp [State.heStopAsk]

@[simp] theorem State.reRole_queue (s : State) (h : Nat) : (s.reRole h).queue = s.queue := by
  unfold State.reRole
  split <;> simp

@[simp] theorem State.replaceHelper_queue (s : State) (h sp : Nat) : (s.replaceHelper h sp).queue = s.queue := by simp [State.replaceHelper]

@[simp] theorem State.replaceAll_queue (s : State) (hs : List Nat) : (s.replaceAll hs).1.queue = s.queue := by
  induction hs generalizing s with
  | nil => rfl
  | cons h hs ih =>
    unfold State.replaceAll
    split <;> simp [ih]

@[simp] theorem State.tryLoad_queue (s : State) (a : Act) : (s.tryLoad a).queue = s.queue := by simp [State.tryLoad]
@[simp] theorem State.dueRestoring_queue (s : State) (a : Act) : (s.dueRestoring a).queue = s.queue := by simp [State.dueRestoring]

@[simp] theorem State.enterRestoring_queue (s : State) (d : Dom) (q : Requester) : (s.enterRestoring d q).queue = s.queue := by
  unfold State.enterRestoring
  split <;> simp

@[simp] theorem State.autoRestore_queue (s : State) (d : Dom) (cause : Nat) (was : DomSt) : (s.autoRestore d cause was).queue = s.queue := by
  simp [State.autoRestore]

@[simp] theorem State.domainFault_queue (s : State) (d : Dom) (cause : Nat) : (s.domainFault d cause).queue = s.queue := by simp [State.domainFault]
@[simp] theorem State.restoreFailed_queue (s : State) (d : Dom) : (s.restoreFailed d).queue = s.queue := by simp [State.restoreFailed]

@[simp] theorem State.takeDown_queue (s : State) (d : Dom) (q : Requester) (k : Option LoadKind) : (s.takeDown d q k).queue = s.queue := by
  simp [State.takeDown]

@[simp] theorem State.askTakeDown_queue (s : State) (d : Dom) (q : Requester) : (s.askTakeDown d q).queue = s.queue := by
  unfold State.askTakeDown
  (repeat' split) <;> simp

@[simp] theorem State.heldLoad_queue (s : State) (d : Dom) : (s.heldLoad d).queue = s.queue := by
  unfold State.heldLoad
  split <;> simp

@[simp] theorem State.askRestore_queue (s : State) (d : Dom) (q : Requester) : (s.askRestore d q).queue = s.queue := by
  unfold State.askRestore
  (repeat' split) <;> simp

@[simp] theorem State.restoreBoth_queue (s : State) : s.restoreBoth.queue = s.queue := by simp [State.restoreBoth]

@[simp] theorem State.quiesced_queue (s : State) (d : Dom) : (s.quiesced d).queue = s.queue := by
  unfold State.quiesced
  dsimp only
  (repeat' split) <;> simp

@[simp] theorem State.quiescePark_queue (s : State) (d : Dom) (a : Act) : (s.quiescePark d a).queue = s.queue := by simp [State.quiescePark]

@[simp] theorem State.workDone_queue (s : State) (d : Dom) : (s.workDone d).queue = s.queue := by
  unfold State.workDone
  (repeat' split) <;> simp

@[simp] theorem State.quiesceOut_queue (s : State) (d : Dom) : (s.quiesceOut d).queue = s.queue := by
  unfold State.quiesceOut
  (repeat' split) <;> simp

@[simp] theorem State.afterParked_queue (s : State) (a : Act) : (s.afterParked a).queue = s.queue := by simp [State.afterParked]

@[simp] theorem State.commitBoot_queue (s : State) : s.commitBoot.queue = s.queue := by
  unfold State.commitBoot
  (repeat' split) <;> simp

@[simp] theorem State.enterServing_queue (s : State) (d : Dom) : (s.enterServing d).queue = s.queue := by
  unfold State.enterServing
  dsimp only
  (repeat' split) <;> simp

@[simp] theorem State.restoreDone_queue (s : State) (d : Dom) : (s.restoreDone d).queue = s.queue := by
  unfold State.restoreDone
  (repeat' split) <;> simp

@[simp] theorem State.restoreOut_queue (s : State) (d : Dom) : (s.restoreOut d).queue = s.queue := by
  unfold State.restoreOut
  split <;> simp

/-! ### The operations of Machine/FaultOps -/

@[simp] theorem State.entryCommands_queue (s : State) : s.entryCommands.queue = s.queue := by simp [State.entryCommands]
@[simp] theorem State.entryRings_queue (s : State) : s.entryRings.queue = s.queue := by simp [State.entryRings]

@[simp] theorem State.entryStores_queue (s : State) : s.entryStores.queue = s.queue := by
  unfold State.entryStores
  dsimp only
  (repeat' split) <;> simp

@[simp] theorem State.entryHelpers_queue (s : State) : s.entryHelpers.queue = s.queue := by simp [State.entryHelpers]
@[simp] theorem State.entrySpindle_queue (s : State) : s.entrySpindle.queue = s.queue := by simp [State.entrySpindle]
@[simp] theorem State.entryDomains_queue (s : State) : s.entryDomains.queue = s.queue := by simp [State.entryDomains]
@[simp] theorem State.entryMedia_queue (s : State) : s.entryMedia.queue = s.queue := by simp [State.entryMedia]
@[simp] theorem State.baseNote_queue (s : State) (cause info : Nat) : (s.baseNote cause info).queue = s.queue := by simp [State.baseNote]

@[simp] theorem State.faultHelper_queue (s : State) (h cause space addr : Nat) : (s.faultHelper h cause space addr).queue = s.queue := by
  unfold State.faultHelper
  (repeat' split) <;> simp

@[simp] theorem State.missedTwice_queue (s : State) (h : Nat) : (s.missedTwice h).queue = s.queue := by simp [State.missedTwice]

@[simp] theorem State.cacheFault_queue (s : State) : s.cacheFault.queue = s.queue := by
  unfold State.cacheFault
  split <;> simp

@[simp] theorem State.trapRecord_queue (s : State) (cause space addr : Nat) : (s.trapRecord cause space addr).queue = s.queue := by
  simp [State.trapRecord]

@[simp] theorem State.trapEntry_queue (s : State) (cause traps : Nat) : (s.trapEntry cause traps).queue = s.queue := by simp [State.trapEntry]
@[simp] theorem State.trap_queue (s : State) (cause0 space addr : Nat) : (s.trap cause0 space addr).queue = s.queue := by simp [State.trap]
@[simp] theorem State.spFault_queue (s : State) (f : Fld) (d : Drive) : (s.spFault f d).queue = s.queue := by simp [State.spFault]
@[simp] theorem State.stopSpindle_queue (s : State) : s.stopSpindle.queue = s.queue := by simp [State.stopSpindle]

/-! ### The operations of Machine/SilOps -/

@[simp] theorem State.silPut_queue (s : State) (off : Nat) (d : List Byte) : (s.silPut off d).queue = s.queue := by simp [State.silPut]
@[simp] theorem State.writeStamp_queue (s : State) (down : Bool) : (s.writeStamp down).queue = s.queue := by simp [State.writeStamp]

@[simp] theorem State.logAppend_queue (s : State) (code tick : Nat) (fields : List Byte) : (s.logAppend code tick fields).queue = s.queue := by
  simp [State.logAppend]

@[simp] theorem State.silAppend_queue (s : State) : s.silAppend.queue = s.queue := by
  unfold State.silAppend
  split <;> simp

@[simp] theorem State.silClose_queue (s : State) (down : Bool) : (s.silClose down).queue = s.queue := by simp [State.silClose]
@[simp] theorem State.silBoot_queue (s : State) : s.silBoot.queue = s.queue := by simp [State.silBoot]

@[simp] theorem State.bootRecord_queue (s : State) : s.bootRecord.queue = s.queue := by
  unfold State.bootRecord
  dsimp only
  (repeat' split) <;> simp

@[simp] theorem State.silClear_queue (s : State) : s.silClear.queue = s.queue := by simp [State.silClear]
@[simp] theorem State.gaugeArm_queue (s : State) (g : Nat) : (s.gaugeArm g).queue = s.queue := by simp [State.gaugeArm]
@[simp] theorem State.gaugeStop_queue (s : State) (g : Nat) : (s.gaugeStop g).queue = s.queue := by simp [State.gaugeStop]

/-! ### The operations of Machine/SecurityOps -/

@[simp] theorem State.floorSync_queue (s : State) : s.floorSync.queue = s.queue := by simp [State.floorSync]
@[simp] theorem State.refuse_queue (s : State) (object reason : Nat) : (s.refuse object reason).queue = s.queue := by simp [State.refuse]

@[simp] theorem State.acRefuse_queue (s : State) (img : List Byte) (e : Nat × Nat) : (s.acRefuse img e).queue = s.queue := by
  unfold State.acRefuse
  split <;> simp

@[simp] theorem State.ptRefuse_queue (s : State) (b : List Byte) (stage : Nat) : (s.ptRefuse b stage).queue = s.queue := by simp [State.ptRefuse]
@[simp] theorem State.ptMark_queue (s : State) (k : Nat) (f : Marks → Marks) : (s.ptMark k f).queue = s.queue := by simp [State.ptMark]
@[simp] theorem State.applyBundle_queue (s : State) (b : List Byte) : (s.applyBundle b).queue = s.queue := by simp [State.applyBundle]

@[simp] theorem State.ptBoot_queue (s : State) (ks : List Nat) : (s.ptBoot ks).queue = s.queue := by
  induction ks generalizing s with
  | nil => simp [State.ptBoot]
  | cons k ks ih =>
    unfold State.ptBoot
    dsimp only
    (repeat' split) <;> simp [ih]

@[simp] theorem State.newNonce_queue (s : State) : s.newNonce.queue = s.queue := by simp [State.newNonce]

@[simp] theorem State.secBoot_queue (s : State) : s.secBoot.queue = s.queue := by
  unfold State.secBoot
  split <;> simp

/-! ### The operations of Machine/MoverOps -/

@[simp] theorem State.dmGoto_queue (s : State) (c st : Nat) : (s.dmGoto c st).queue = s.queue := by simp [State.dmGoto]
@[simp] theorem State.dmShow_queue (s : State) (c src dst left : Nat) : (s.dmShow c src dst left).queue = s.queue := by simp [State.dmShow]
@[simp] theorem State.dmShowSet_queue (s : State) (c : Nat) (x : MoverSet) : (s.dmShowSet c x).queue = s.queue := by simp [State.dmShowSet]

@[simp] theorem State.spaceNote_queue (s : State) (f : MemFaults) (sp addr n : Nat) : (s.spaceNote f sp addr n).queue = s.queue := by
  unfold State.spaceNote
  split <;> simp

@[simp] theorem State.spaceWrite_queue (s : State) (f : MemFaults) (k : ReqKind) (sp addr : Nat) (d : List Byte) :
    (s.spaceWrite f k sp addr d).queue = s.queue := by
  unfold State.spaceWrite
  (repeat' split) <;> simp

@[simp] theorem State.spaceBadNote_queue (s : State) (f : MemFaults) (sp addr : Nat) (d : List Byte) :
    (s.spaceBadNote f sp addr d).queue = s.queue := by
  unfold State.spaceBadNote
  split <;> simp

@[simp] theorem State.spaceParity_queue (s : State) (f : MemFaults) (sp addr n : Nat) : (s.spaceParity f sp addr n).1.queue = s.queue := by
  unfold State.spaceParity
  split <;> simp

@[simp] theorem State.dmPost_queue (s : State) (c : Nat) (x : MoverSet) (status : Nat) (left : Nat) : (s.dmPost c x status left).queue = s.queue := by
  simp [State.dmPost]

@[simp] theorem State.dmPromote_queue (s : State) (c : Nat) : (s.dmPromote c).queue = s.queue := by
  unfold State.dmPromote
  split <;> simp

@[simp] theorem State.dmHalt_queue (s : State) (c cause : Nat) : (s.dmHalt c cause).queue = s.queue := by
  unfold State.dmHalt
  split <;> simp

@[simp] theorem State.dmFree_queue (s : State) (x : MoverSet) : (s.dmFree x).queue = s.queue := by simp [State.dmFree]

@[simp] theorem State.dmDone_queue (s : State) (c : Nat) (x : MoverSet) (status : Nat) : (s.dmDone c x status).queue = s.queue := by
  simp [State.dmDone]

@[simp] theorem State.dmPut_queue (s : State) (c : Nat) (f : MemFaults) (x : MoverSet) (d : List Byte) : (s.dmPut c f x d).1.queue = s.queue := by
  unfold State.dmPut
  dsimp only
  (repeat' split) <;> simp

@[simp] theorem State.dmGet_queue (s : State) (c : Nat) (f : MemFaults) (x : MoverSet) (n : Nat) (hostData : List Byte) :
    (s.dmGet c f x n hostData).1.queue = s.queue := by
  unfold State.dmGet
  dsimp only
  (repeat' split) <;> simp

@[simp] theorem State.dmTransfer_queue (s : State) (c : Nat) (f : MemFaults) (x : MoverSet) (hostData : List Byte) :
    (s.dmTransfer c f x hostData).1.queue = s.queue := by
  unfold State.dmTransfer
  dsimp only
  (repeat' split) <;> simp

@[simp] theorem State.dmRun_queue (n : Nat) (s : State) (c : Nat) (f : MemFaults) (x : MoverSet) (d : List Byte) :
    (State.dmRun n s c f x d).queue = s.queue := by
  induction n generalizing s d with
  | zero => rfl
  | succ n ih =>
    unfold State.dmRun
    split <;> simp [ih]

@[simp] theorem State.dmLinkDown_queue (s : State) (p : Nat) : (s.dmLinkDown p).queue = s.queue := by
  unfold State.dmLinkDown
  rw [State.each_queue]
  intro t x
  split <;> simp

@[simp] theorem State.moverGo_queue (s : State) (c : Nat) (x : MoverSet) : (s.moverGo c x).queue = s.queue := by simp [State.moverGo]
@[simp] theorem State.moverDiscard_queue (s : State) (c : Nat) : (s.moverDiscard c).queue = s.queue := by simp [State.moverDiscard]

@[simp] theorem State.moverNext_queue (s : State) (m : Nat) : (s.moverNext m).queue = s.queue := by
  unfold State.moverNext
  dsimp only
  (repeat' split) <;> simp

/-! ### The operations of Machine/HostOps -/

@[simp] theorem State.abandonCmds_queue (s : State) (c : Nat) : (s.abandonCmds c).queue = s.queue := by simp [State.abandonCmds]

@[simp] theorem State.selfTestEnd_queue (s : State) (r : SelfTestRun) (result : Nat) (lba : Option Nat) :
    (s.selfTestEnd r result lba).queue = s.queue := by
  simp [State.selfTestEnd]

@[simp] theorem State.ctrlReset_queue (s : State) (c : Nat) : (s.ctrlReset c).queue = s.queue := by
  unfold State.ctrlReset
  dsimp only
  (repeat' split) <;> simp

@[simp] theorem State.trainLinks_queue (s : State) : s.trainLinks.queue = s.queue := by simp [State.trainLinks]
@[simp] theorem State.ringsDown_queue (s : State) (p : Nat) : (s.ringsDown p).queue = s.queue := by simp [State.ringsDown]
@[simp] theorem State.functionReset_queue (s : State) (c : Nat) : (s.functionReset c).queue = s.queue := by simp [State.functionReset]
@[simp] theorem State.linkDown_queue (s : State) (c : Nat) : (s.linkDown c).queue = s.queue := by simp [State.linkDown]

/-! ### The operations of Machine/RingOps -/

@[simp] theorem State.ringHead_queue (s : State) (r : Nat) : (s.ringHead r).queue = s.queue := by simp [State.ringHead]
@[simp] theorem State.ringDrain_queue (s : State) (r : Nat) : (s.ringDrain r).queue = s.queue := by simp [State.ringDrain]
@[simp] theorem State.ringHostErr_queue (s : State) (r : Nat) : (s.ringHostErr r).queue = s.queue := by simp [State.ringHostErr]

@[simp] theorem State.modDesc_queue (s : State) (r tag : Nat) (f : RingDesc → RingDesc) : (s.modDesc r tag f).queue = s.queue := by
  simp [State.modDesc]

@[simp] theorem State.ringStart_queue (s : State) (r tag opc : Nat) (f : State → RingDesc → State) (hf : ∀ t x, (f t x).queue = t.queue) :
    (s.ringStart r tag opc f).queue = s.queue := by
  unfold State.ringStart
  (repeat' split) <;> simp [hf]

@[simp] theorem State.ringInvalid_queue (s : State) (r tag : Nat) : (s.ringInvalid r tag).queue = s.queue := by simp [State.ringInvalid]
@[simp] theorem State.ringLoad_queue (s : State) (r tag : Nat) (x : MoverSet) : (s.ringLoad r tag x).queue = s.queue := by simp [State.ringLoad]

@[simp] theorem State.ringRun_queue (s : State) (r : Nat) (ok : Nat) (data : List Byte) (f : MemFaults) :
    (s.ringRun r ok data f).1.queue = s.queue := by
  unfold State.ringRun
  dsimp only
  (repeat' split) <;> simp

@[simp] theorem State.ringSet_queue (s : State) (r tag : Nat) (d : RingDesc) (x : ChainExtent) (ok : Nat) (data : List Byte) (f : MemFaults) :
    (s.ringSet r tag d x ok data f).1.queue = s.queue := by
  unfold State.ringSet
  dsimp only
  (repeat' split) <;> simp

@[simp] theorem State.ringAdd_queue (s : State) (r tag n : Nat) : (s.ringAdd r tag n).queue = s.queue := by simp [State.ringAdd]

@[simp] theorem State.ringExtents_queue (s : State) (r tag : Nat) (d : RingDesc) (es : List ChainExtent) (ok : Nat) (data : List Byte)
    (f : MemFaults) :
    (s.ringExtents r tag d es ok data f).1.queue = s.queue := by
  induction es generalizing s d ok data with
  | nil => rfl
  | cons e es ih =>
    unfold State.ringExtents
    dsimp only
    (repeat' split) <;> simp [ih]

@[simp] theorem State.ringMoved_queue (s : State) (r tag status : Nat) : (s.ringMoved r tag status).queue = s.queue := by simp [State.ringMoved]

@[simp] theorem State.ringBlocks_queue (s : State) (r tag : Nat) (bs : List ChainBlock) (ok : Nat) (data : List Byte) (f : MemFaults) :
    (s.ringBlocks r tag bs ok data f).queue = s.queue := by
  induction bs generalizing s ok data with
  | nil => rfl
  | cons b bs ih =>
    unfold State.ringBlocks
    dsimp only
    (repeat' split) <;> simp [ih]

@[simp] theorem State.ringGo_queue (s : State) (r tag : Nat) (blocks : List ChainBlock) (ok : Nat) (data : List Byte) (f : MemFaults) :
    (s.ringGo r tag blocks ok data f).queue = s.queue := by
  unfold State.ringGo
  dsimp only
  (repeat' split) <;> simp

@[simp] theorem State.ringMove_queue (s : State) (r tag opc : Nat) (blocks : List ChainBlock) (ok : Nat) (data : List Byte) (f : MemFaults) :
    (s.ringMove r tag opc blocks ok data f).queue = s.queue := by
  unfold State.ringMove
  split <;> simp

@[simp] theorem State.ringOut_queue (s : State) (r tag : Nat) (addr : Nat) (data : List Byte) (ok : Bool) (result : Nat) :
    (s.ringOut r tag addr data ok result).queue = s.queue := by
  simp [State.ringOut]

/-! ### The operations of Machine/ZoneZero -/

@[simp] theorem State.putZone0_queue (s : State) (p : FramePos) (kind tag : Nat) (payload : List Byte) :
    (s.putZone0 p kind tag payload).queue = s.queue := by
  simp [State.putZone0]

@[simp] theorem State.putImage_queue (s : State) (surf track kind tag : Nat) (bytes : List Byte) :
    (s.putImage surf track kind tag bytes).queue = s.queue := by
  simp [State.putImage]

@[simp] theorem State.putCopy_queue (s : State) (a : Act) (k seq : Nat) (entries : List (Nat × MapEntry)) :
    (s.putCopy a k seq entries).queue = s.queue := by
  simp [State.putCopy]

@[simp] theorem State.putRoot_queue (s : State) (r : Root) : (s.putRoot r).queue = s.queue := by simp [State.putRoot]

/-! ### The operations of Machine/PowerOps -/

@[simp] theorem State.setSeq_queue (s : State) (n : Nat) (b : Bool) : (s.setSeq n b).queue = s.queue := by simp [State.setSeq]
@[simp] theorem State.railOk_queue (s : State) (n : Nat) (b : Bool) : (s.railOk n b).queue = s.queue := by simp [State.railOk]
@[simp] theorem State.enableRail_queue (s : State) (n : Nat) : (s.enableRail n).queue = s.queue := by simp [State.enableRail]
@[simp] theorem State.disableRail_queue (s : State) (n : Nat) : (s.disableRail n).queue = s.queue := by simp [State.disableRail]

@[simp] theorem State.railsOff_queue (s : State) : s.railsOff.queue = s.queue := by
  unfold State.railsOff
  rw [State.foldl_queue]
  intro t n
  simp

@[simp] theorem State.supplyReset_queue (s : State) : s.supplyReset.queue = s.queue := by simp [State.supplyReset]
@[simp] theorem State.powerDown_queue (s : State) : s.powerDown.queue = s.queue := by simp [State.powerDown]
@[simp] theorem State.pmDone_queue (s : State) (ps : Nat) : (s.pmDone ps).queue = s.queue := by simp [State.pmDone]
@[simp] theorem State.reachActive_queue (s : State) : s.reachActive.queue = s.queue := by simp [State.reachActive]
@[simp] theorem State.wakeStandby_queue (s : State) : s.wakeStandby.queue = s.queue := by simp [State.wakeStandby]
@[simp] theorem State.reachStandby_queue (s : State) : s.reachStandby.queue = s.queue := by simp [State.reachStandby]
@[simp] theorem State.standbyStep_queue (s : State) : s.standbyStep.queue = s.queue := by simp [State.standbyStep]
@[simp] theorem State.powerTo_queue (s : State) (ps : Nat) : (s.powerTo ps).queue = s.queue := by simp [State.powerTo]
@[simp] theorem State.powerRequest_queue (s : State) (ps : Nat) : (s.powerRequest ps).queue = s.queue := by simp [State.powerRequest]

@[simp] theorem State.deferredPump_queue (s : State) : s.deferredPump.queue = s.queue := by
  unfold State.deferredPump
  split <;> simp

@[simp] theorem State.mediaWake_queue (s : State) : s.mediaWake.queue = s.queue := by simp [State.mediaWake]
@[simp] theorem State.enterHibernate_queue (s : State) : s.enterHibernate.queue = s.queue := by simp [State.enterHibernate]
@[simp] theorem State.wakeHibernate_queue (s : State) : s.wakeHibernate.queue = s.queue := by simp [State.wakeHibernate]
@[simp] theorem State.holdFrom_queue (s : State) : s.holdFrom.queue = s.queue := by simp [State.holdFrom]

@[simp] theorem State.rideEnd_queue (s : State) (outcome : Nat) : (s.rideEnd outcome).queue = s.queue := by
  unfold State.rideEnd
  (repeat' split) <;> simp

@[simp] theorem State.rideHold_queue (s : State) : s.rideHold.queue = s.queue := by simp [State.rideHold]
@[simp] theorem State.rideBegin_queue (s : State) : s.rideBegin.queue = s.queue := by simp [State.rideBegin]
@[simp] theorem State.vmToNormal_queue (s : State) : s.vmToNormal.queue = s.queue := by simp [State.vmToNormal]
@[simp] theorem State.parkHold_queue (s : State) : s.parkHold.queue = s.queue := by simp [State.parkHold]
@[simp] theorem State.bootStart_queue (s : State) (failed : Nat) : (s.bootStart failed).queue = s.queue := by simp [State.bootStart]
@[simp] theorem State.acBootErr_queue (s : State) (k err sect : Nat) : (s.acBootErr k err sect).queue = s.queue := by simp [State.acBootErr]
@[simp] theorem State.relayoutMedia_queue (s : State) (dg : List Byte) : (s.relayoutMedia dg).queue = s.queue := by simp [State.relayoutMedia]
@[simp] theorem State.applyAccord_queue (s : State) (k : Nat) (img : List Byte) : (s.applyAccord k img).queue = s.queue := by simp [State.applyAccord]

@[simp] theorem State.acUse_queue (s : State) (k : Nat) : (s.acUse k).1.queue = s.queue := by
  unfold State.acUse
  dsimp only
  (repeat' split) <;> simp

@[simp] theorem State.acTry_queue (s : State) (k : Nat) (v : Option (Nat × Nat)) : (s.acTry k v).1.queue = s.queue := by
  unfold State.acTry
  (repeat' split) <;> simp

@[simp] theorem State.acSelect_queue (s : State) (ks : List Nat) : (s.acSelect ks).queue = s.queue := by
  induction ks generalizing s with
  | nil => rfl
  | cons k ks ih =>
    unfold State.acSelect
    simp [ih]

@[simp] theorem State.bootRestore_queue (s : State) (d : Dom) : (s.bootRestore d).queue = s.queue := by simp [State.bootRestore]
@[simp] theorem State.surfaceLoad_queue (s : State) : s.surfaceLoad.queue = s.queue := by simp [State.surfaceLoad]
@[simp] theorem State.accordBoot_queue (s : State) : s.accordBoot.queue = s.queue := by simp [State.accordBoot]
@[simp] theorem State.afterStopped_queue (s : State) : s.afterStopped.queue = s.queue := by simp [State.afterStopped]
@[simp] theorem State.afterLocked_queue (s : State) : s.afterLocked.queue = s.queue := by simp [State.afterLocked]
@[simp] theorem State.afterFollowing_queue (s : State) (a : Act) : (s.afterFollowing a).queue = s.queue := by simp [State.afterFollowing]
@[simp] theorem State.zoneEntered_queue (s : State) : s.zoneEntered.queue = s.queue := by simp [State.zoneEntered]
@[simp] theorem State.moveSlewed_queue (s : State) (m : Nat) : (s.moveSlewed m).queue = s.queue := by simp [State.moveSlewed]

/-! ### The operations of Machine/AccordRows -/

@[simp] theorem State.accordLoad_queue (s : State) : s.accordLoad.queue = s.queue := by simp [State.accordLoad]

@[simp] theorem State.acStart_queue (s : State) (o : StoreOwner) (img : List Byte) (relayout apply : Bool) :
    (s.acStart o img relayout apply).queue = s.queue := by
  unfold State.acStart
  (repeat' split) <;> simp

@[simp] theorem State.accordStore_queue (s : State) (r tag : Nat) (img : List Byte) (ok : Bool) : (s.accordStore r tag img ok).queue = s.queue := by
  simp [State.accordStore]

@[simp] theorem State.storeKept_queue (s : State) (x : StoreOp) : (s.storeKept x).queue = s.queue := by simp [State.storeKept]

@[simp] theorem State.storeWritten_queue (s : State) (ok : Bool) : (s.storeWritten ok).queue = s.queue := by
  unfold State.storeWritten
  (repeat' split) <;> simp

@[simp] theorem State.mediaCopies_queue (s : State) (okA okB : Bool) : (s.mediaCopies okA okB).queue = s.queue := by simp [State.mediaCopies]

@[simp] theorem State.mediaCopyRead_queue (s : State) (r tag : Nat) (ok : Bool) : (s.mediaCopyRead r tag ok).queue = s.queue := by
  unfold State.mediaCopyRead
  split <;> simp

/-! ### The operations of Machine/WriteOps -/

@[simp] theorem State.lockStep_queue (s : State) (m : Cmd) : (s.lockStep m).queue = s.queue := by simp [State.lockStep]

@[simp] theorem State.ioStart_queue (s : State) (c q cid opc : Nat) (f : State → Cmd → State) (hf : ∀ t x, (f t x).queue = t.queue) :
    (s.ioStart c q cid opc f).queue = s.queue := by
  unfold State.ioStart
  dsimp only
  (repeat' split) <;> simp [hf]

@[simp] theorem State.begin_queue (s : State) (m : Cmd) : (s.begin m).queue = s.queue := by simp [State.begin]

@[simp] theorem State.queueGroups_queue (s : State) (m : Cmd) (g : Nat) (zone : Option Nat) (data : List (List Byte)) (result : Nat) :
    (s.queueGroups m g zone data result).1.queue = s.queue := by
  unfold State.queueGroups
  refine List.foldlRecOn (motive := fun r : State × Option NvStatus × Bool => r.1.queue = s.queue) _ _ rfl (fun r hr c _ => ?_)
  split
  · exact hr
  · split <;> simp [hr]

@[simp] theorem State.ownerStep_queue (s : State) (l : JLine) (seq : Nat) (record data : List Byte) :
    (s.ownerStep l seq record data).queue = s.queue := by
  unfold State.ownerStep
  split <;> simp

@[simp] theorem State.poolTry_queue (s : State) (m : Cmd) : (s.poolTry m).queue = s.queue := by
  unfold State.poolTry
  split
  · simp
  · rw [State.each_queue]
    intro t x
    (repeat' split) <;> simp

@[simp] theorem State.queueDealloc_queue (s : State) (m : Cmd) (g n : Nat) : (s.queueDealloc m g n).1.queue = s.queue := by simp [State.queueDealloc]

@[simp] theorem State.zoneRecord_queue (s : State) (o : Option CmdRef) (nsid z zs wp : Nat) : (s.zoneRecord o nsid z zs wp).queue = s.queue := by
  simp [State.zoneRecord]

@[simp] theorem State.zoneChanged_queue (s : State) (nsid z : Nat) : (s.zoneChanged nsid z).queue = s.queue := by simp [State.zoneChanged]
@[simp] theorem State.zoneWritten_queue (s : State) (nsid z : Nat) : (s.zoneWritten nsid z).queue = s.queue := by simp [State.zoneWritten]

/-! ### The operations of Machine/Nvme -/

@[simp] theorem State.noticeAll_queue (s : State) (c : Nat) : (s.noticeAll c).queue = s.queue := by simp [State.noticeAll]

@[simp] theorem State.ctrlEnable_queue (s : State) (c : Nat) (crime wrr : Bool) (asq acq : Nat) :
    (s.ctrlEnable c crime wrr asq acq).queue = s.queue := by
  simp [State.ctrlEnable]

@[simp] theorem State.ctrlReady_queue (s : State) (c : Nat) : (s.ctrlReady c).queue = s.queue := by simp [State.ctrlReady]

@[simp] theorem State.ctrlResetBy_queue (s : State) (c : Nat) (k : ResetKind) : (s.ctrlResetBy c k).queue = s.queue := by
  unfold State.ctrlResetBy
  split <;> simp

@[simp] theorem State.withdraw_queue (s : State) (m : Cmd) : (s.withdraw m).queue = s.queue := by simp [State.withdraw]

@[simp] theorem State.endCmds_queue (s : State) (p : Cmd → Bool) (st : NvStatus) : (s.endCmds p st).queue = s.queue := by
  unfold State.endCmds
  rw [State.each_queue]
  intro t x
  split <;> simp

@[simp] theorem State.ctrlShutdown_queue (s : State) (c shn : Nat) : (s.ctrlShutdown c shn).queue = s.queue := by simp [State.ctrlShutdown]
@[simp] theorem State.perstRise_queue (s : State) (c : Nat) : (s.perstRise c).queue = s.queue := by simp [State.perstRise]

@[simp] theorem State.sqDoorbell_queue (s : State) (c q tail : Nat) : (s.sqDoorbell c q tail).queue = s.queue := by
  unfold State.sqDoorbell
  (repeat' split) <;> simp

@[simp] theorem State.cqDoorbell_queue (s : State) (c q head : Nat) : (s.cqDoorbell c q head).queue = s.queue := by
  unfold State.cqDoorbell
  (repeat' split) <;> simp

@[simp] theorem State.arbServed_queue (s : State) (c k q : Nat) : (s.arbServed c k q).queue = s.queue := by simp [State.arbServed]
@[simp] theorem State.fenceCount_queue (s : State) (c q nsid : Nat) : (s.fenceCount c q nsid).queue = s.queue := by simp [State.fenceCount]

@[simp] theorem State.commandFetch_queue (s : State) (c q : Nat) (e : SqEntry) (ranges : List (Nat × Nat)) :
    (s.commandFetch c q e ranges).queue = s.queue := by
  unfold State.commandFetch
  dsimp only
  (repeat' split) <;> simp

@[simp] theorem State.rangeGrant_queue (s : State) (c q cid : Nat) : (s.rangeGrant c q cid).queue = s.queue := by
  unfold State.rangeGrant
  split <;> simp

@[simp] theorem State.coalesceOut_queue (s : State) (c v : Nat) : (s.coalesceOut c v).queue = s.queue := by simp [State.coalesceOut]

@[simp] theorem State.tlerExpiry_queue (s : State) (c q cid : Nat) : (s.tlerExpiry c q cid).queue = s.queue := by
  unfold State.tlerExpiry
  split <;> simp

@[simp] theorem State.drainTimeout_queue (s : State) (c id kind : Nat) : (s.drainTimeout c id kind).queue = s.queue := by
  unfold State.drainTimeout
  split <;> simp

@[simp] theorem State.busMasterOff_queue (s : State) (c : Nat) : (s.busMasterOff c).queue = s.queue := by simp [State.busMasterOff]
@[simp] theorem State.l2Timeout_queue (s : State) : s.l2Timeout.queue = s.queue := by simp [State.l2Timeout]

/-! ### The operations of Machine/MapRows -/

@[simp] theorem State.closeInterim_queue (s : State) : s.closeInterim.queue = s.queue := by simp [State.closeInterim]

@[simp] theorem State.putFrame_queue (s : State) (k : Nat) (us : List (Nat × MapEntry × List (List Byte))) : (s.putFrame k us).queue = s.queue := by
  simp [State.putFrame]

@[simp] theorem State.readySet_queue (s : State) (k : Nat) : (s.readySet k).queue = s.queue := by simp [State.readySet]

theorem State.hostSet_queue {s t : State} {zone : Option (Nat × Nat)} {spill : Bool} {k : Nat} (e : s.hostSet zone spill = some (t, k)) :
    t.queue = s.queue := by
  unfold State.hostSet at e
  (repeat' split at e) <;> exact State.findSet_queue e

@[simp] theorem State.placeHost_queue (s0 : State) : s0.placeHost.queue = s0.queue := by
  unfold State.placeHost
  dsimp only
  split
  · simp
  · split
    · simp
    · split
      · simp
      · have h := State.hostSet_queue ‹_›
        split <;> simp [h]

@[simp] theorem State.placeMoved_queue (s0 : State) : s0.placeMoved.queue = s0.queue := by
  unfold State.placeMoved
  dsimp only
  split
  · simp
  · split
    · simp
    · have h := State.findSet_queue ‹_›
      split <;> simp [h]

@[simp] theorem State.pagesWritten_queue (s : State) : s.pagesWritten.queue = s.queue := by
  unfold State.pagesWritten
  split <;> simp

@[simp] theorem State.lineComplete_queue (s0 : State) : s0.lineComplete.queue = s0.queue := by
  unfold State.lineComplete
  dsimp only
  (repeat' split) <;> simp

@[simp] theorem State.selectVictim_queue (s : State) : s.selectVictim.queue = s.queue := by
  unfold State.selectVictim
  (repeat' split) <;> simp

@[simp] theorem State.cleanFrame_queue (s : State) (ok : Bool) : (s.cleanFrame ok).queue = s.queue := by
  unfold State.cleanFrame
  dsimp only
  (repeat' split) <;> simp

@[simp] theorem State.releaseSet_queue (s : State) (k : Nat) : (s.releaseSet k).queue = s.queue := by simp [State.releaseSet]

@[simp] theorem State.segmentStart_queue (s : State) : s.segmentStart.queue = s.queue := by
  unfold State.segmentStart
  (repeat' split) <;> simp

@[simp] theorem State.copyWritten_queue (s : State) (k : Nat) : (s.copyWritten k).queue = s.queue := by simp [State.copyWritten]

@[simp] theorem State.rootWrite_queue (s : State) : s.rootWrite.queue = s.queue := by
  unfold State.rootWrite
  extract_lets queued g dg r0 r s1 t acc s2
  split
  · rfl
  · calc (s2.jq (.root g (g % 2) s.map.jseq)).queue = s2.queue := State.jq_queue ..
      _ = t.queue := State.with_queue t
      _ = s1.queue := State.modCal_queue ..
      _ = (s.putRoot r).queue := State.modMap_queue ..
      _ = s.queue := State.putRoot_queue ..

@[simp] theorem State.sjScan_queue (s : State) (bad : List (Nat × Nat)) : (s.sjScan bad).1.queue = s.queue := by simp [State.sjScan]

@[simp] theorem State.rootLoad_queue (s : State) (bad : List Nat) : (s.rootLoad bad).queue = s.queue := by
  unfold State.rootLoad
  dsimp only
  (repeat' split) <;> simp

@[simp] theorem State.headerScan_queue (s : State) (k : Nat) : (s.headerScan k).queue = s.queue := by
  unfold State.headerScan
  rw [State.each_queue]
  intro t x
  split <;> simp

@[simp] theorem State.segmentLost_queue (s : State) (k : Nat) : (s.segmentLost k).queue = s.queue := by simp [State.segmentLost]

@[simp] theorem State.segFrom_queue (s : State) (k : Nat) (c0 c1 x : Option (Nat × List (Nat × MapEntry))) :
    (s.segFrom k c0 c1 x).queue = s.queue := by
  unfold State.segFrom
  split <;> simp

@[simp] theorem State.segmentLoad_queue (s : State) (bad : List (Nat × Nat)) (k : Nat) : (s.segmentLoad bad k).queue = s.queue := by
  simp [State.segmentLoad]

@[simp] theorem State.replay_queue (s : State) (q0 : Nat) (r : JRec) : (s.replay q0 r).queue = s.queue := by
  unfold State.replay
  dsimp only
  (repeat' split) <;> simp

@[simp] theorem State.journalLoad_queue (s : State) (bad : List Nat) : (s.journalLoad bad).queue = s.queue := by simp [State.journalLoad]
@[simp] theorem State.scanReads_queue (s : State) : s.scanReads.queue = s.queue := by simp [State.scanReads]
@[simp] theorem State.sjResolve_queue (s : State) (lost : List SjRec) : (s.sjResolve lost).queue = s.queue := by simp [State.sjResolve]
@[simp] theorem State.mapFill_queue (s : State) : s.mapFill.queue = s.queue := by simp [State.mapFill]

@[simp] theorem State.rebuildStart_queue (s : State) (rootBad : List Nat) (copyBad : List (Nat × Nat)) (lineBad : List Nat)
    (sjBad : List (Nat × Nat)) :
    (s.rebuildStart rootBad copyBad lineBad sjBad).queue = s.queue := by
  simp [State.rebuildStart]

@[simp] theorem State.cursorRule_queue (s : State) (k : Nat) : (s.cursorRule k).queue = s.queue := by
  unfold State.cursorRule
  dsimp only
  (repeat' split) <;> simp

@[simp] theorem State.rebuildComplete_queue (s : State) (ckpt apply : Nat) : (s.rebuildComplete ckpt apply).queue = s.queue := by
  simp [State.rebuildComplete]

@[simp] theorem State.countsDone_queue (s : State) : s.countsDone.queue = s.queue := by simp [State.countsDone]

/-! ### The operations of Machine/TierRows -/

@[simp] theorem State.parityCompute_queue (s : State) (k st : Nat) : (s.parityCompute k st).queue = s.queue := by
  unfold State.parityCompute
  split <;> simp

@[simp] theorem State.sjEffect_queue (s : State) (b : SjBody) (q : Nat) : (s.sjEffect b q).queue = s.queue := by
  unfold State.sjEffect
  split <;> simp

@[simp] theorem State.sjDurable_queue (s0 : State) : s0.sjDurable.queue = s0.queue := by
  unfold State.sjDurable
  dsimp only
  (repeat' split) <;> simp

@[simp] theorem State.relocateLost_queue (s : State) (k st : Nat) (fs : List Frame) : (s.relocateLost k st fs).queue = s.queue := by
  simp [State.relocateLost]

@[simp] theorem State.countDegraded_queue (s : State) (k st : Nat) : (s.countDegraded k st).queue = s.queue := by simp [State.countDegraded]

@[simp] theorem State.reconstructed_queue (s : State) (p : Nat) : (s.reconstructed p).queue = s.queue := by
  unfold State.reconstructed
  (repeat' split) <;> simp

@[simp] theorem State.rebuildOver_queue (s : State) : s.rebuildOver.queue = s.queue := by simp [State.rebuildOver]

@[simp] theorem State.rebuildStep_queue (s : State) : s.rebuildStep.queue = s.queue := by
  unfold State.rebuildStep
  (repeat' split) <;> simp

@[simp] theorem State.rebuildCursor_queue (s : State) : s.rebuildCursor.queue = s.queue := by
  unfold State.rebuildCursor
  split <;> simp

@[simp] theorem State.fixMember_queue (s : State) (k st m : Nat) (f : Frame) : (s.fixMember k st m f).queue = s.queue := by simp [State.fixMember]

@[simp] theorem State.patrol_queue (s : State) (bad : List Nat) (seen : List (Nat × List Byte)) : (s.patrol bad seen).queue = s.queue := by
  unfold State.patrol
  split
  · simp
  · split
    · rfl
    · extract_lets ps w s1 s2 unread by' ds pe qe pz qz
      have h2 : s2.queue = s.queue := by simp [s2, s1]
      (repeat' split) <;> simp [h2]
      rw [State.each_queue]
      · exact h2
      · intro t p
        split <;> simp

@[simp] theorem State.mediaInterval_queue (s : State) (hostA hostB : Nat) : (s.mediaInterval hostA hostB).queue = s.queue := by
  simp [State.mediaInterval]

/-! ### The operations of Machine/Domains -/

@[simp] theorem State.domSettle_queue (s : State) : s.domSettle.queue = s.queue := by simp [State.domSettle]

@[simp] theorem State.domRequest_queue (s : State) (r tag k : Nat) (f : State → Dom → State) (hf : ∀ t x, (f t x).queue = t.queue) :
    (s.domRequest r tag k f).queue = s.queue := by
  unfold State.domRequest
  split
  · simp
  · split
    · simp
    · rw [State.ringStart_queue]
      intro t x
      split <;> simp [hf]

@[simp] theorem State.holdExpiry_queue (s : State) (a : Act) : (s.holdExpiry a).queue = s.queue := by
  unfold State.holdExpiry
  extract_lets s1
  have h1 : s1.queue = s.queue := by
    simp only [s1, State.when_queue]
    rw [State.each_queue]
    · simp
    · intro t m
      split <;> simp
  split
  · exact h1
  · rw [State.each_queue]
    · exact h1
    · intro t m
      split <;> simp

@[simp] theorem State.heDrained_queue (s : State) (h : Nat) : (s.heDrained h).queue = s.queue := by simp [State.heDrained]
@[simp] theorem State.heHaltAsk_queue (s : State) (h : Nat) : (s.heHaltAsk h).queue = s.queue := by simp [State.heHaltAsk]
@[simp] theorem State.safePoint_queue (s : State) (h : Nat) : (s.safePoint h).queue = s.queue := by simp [State.safePoint]
@[simp] theorem State.safeDue_queue (s : State) : s.safeDue.queue = s.queue := by simp [State.safeDue]
@[simp] theorem State.memSettle_queue (s : State) : s.memSettle.queue = s.queue := by simp [State.memSettle]

/-! ### The operations of Machine/AssistRows -/

@[simp] theorem State.slotCommand_queue (s : State) (a : Act) (n p : Nat) : (s.slotCommand a n p).queue = s.queue := by
  unfold State.slotCommand
  split <;> simp

@[simp] theorem State.refuseFrame_queue (s : State) (a : Act) (n : Nat) (f : WriteFrame) (rest : List WriteFrame) :
    (s.refuseFrame a n f rest).queue = s.queue := by
  simp [State.refuseFrame]

@[simp] theorem State.raiseGate_queue (s : State) (a : Act) (n : Nat) (f : WriteFrame) (rest : List WriteFrame) (l : Nat) :
    (s.raiseGate a n f rest l).queue = s.queue := by
  simp [State.raiseGate]

@[simp] theorem State.frameStart_queue (s : State) (a : Act) (n : Nat) : (s.frameStart a n).queue = s.queue := by
  unfold State.frameStart
  dsimp only
  (repeat' split) <;> simp

@[simp] theorem State.firstCell_queue (s : State) (a : Act) (n : Nat) : (s.firstCell a n).queue = s.queue := by simp [State.firstCell]
@[simp] theorem State.underrun_queue (s : State) (a : Act) (n : Nat) : (s.underrun a n).queue = s.queue := by simp [State.underrun]
@[simp] theorem State.wedgeSuspend_queue (s : State) (a : Act) (n : Nat) : (s.wedgeSuspend a n).queue = s.queue := by simp [State.wedgeSuspend]
@[simp] theorem State.wedgeResume_queue (s : State) (a : Act) (n : Nat) : (s.wedgeResume a n).queue = s.queue := by simp [State.wedgeResume]

@[simp] theorem State.frameEnd_queue (s : State) (a : Act) (n : Nat) : (s.frameEnd a n).queue = s.queue := by
  unfold State.frameEnd
  split <;> simp

@[simp] theorem State.writeDisableFor_queue (s : State) (a : Act) (n h : Nat) : (s.writeDisableFor a n h).queue = s.queue := by
  simp [State.writeDisableFor]

@[simp] theorem State.assistNext_queue (s : State) (a : Act) (n mon : Nat) : (s.assistNext a n mon).queue = s.queue := by simp [State.assistNext]
@[simp] theorem State.deviation_queue (s : State) (a : Act) (n mon : Nat) : (s.deviation a n mon).queue = s.queue := by simp [State.deviation]
@[simp] theorem State.loopSlot_queue (s : State) (a : Act) (n : Nat) (v : AssistIn) : (s.loopSlot a n v).queue = s.queue := by simp [State.loopSlot]

@[simp] theorem State.loopBoundary_queue (s : State) (a : Act) (v0 v1 : AssistIn) : (s.loopBoundary a v0 v1).queue = s.queue := by
  simp [State.loopBoundary]

@[simp] theorem State.assistMiss_queue (s : State) (a : Act) : (s.assistMiss a).queue = s.queue := by
  unfold State.assistMiss
  dsimp only
  (repeat' split) <;> simp

@[simp] theorem State.overtemp_queue (s : State) (a : Act) (n res : Nat) : (s.overtemp a n res).queue = s.queue := by simp [State.overtemp]
@[simp] theorem State.preampFault_queue (s : State) (a : Act) : (s.preampFault a).queue = s.queue := by simp [State.preampFault]

@[simp] theorem State.tintRead_queue (s : State) (a : Act) (ok : Bool) (temp : Int) : (s.tintRead a ok temp).queue = s.queue := by
  simp [State.tintRead]

@[simp] theorem State.tintLost_queue (s : State) (a : Act) : (s.tintLost a).queue = s.queue := by simp [State.tintLost]

/-! ### The operations of Machine/Calibration -/

@[simp] theorem State.standIn_queue (s : State) (l : Nat) : (s.standIn l).queue = s.queue := by simp [State.standIn]
@[simp] theorem State.runStart_queue (s : State) (l : Nat) : (s.runStart l).queue = s.queue := by simp [State.runStart]
@[simp] theorem State.applyRun_queue (s : State) (r : CalRun) (ok : Bool) : (s.applyRun r ok).queue = s.queue := by simp [State.applyRun]
@[simp] theorem State.runEnds_queue (s : State) (r : CalRun) (ok : Bool) : (s.runEnds r ok).queue = s.queue := by simp [State.runEnds]

@[simp] theorem State.applyWaiting_queue (s : State) (l : Nat) : (s.applyWaiting l).queue = s.queue := by
  unfold State.applyWaiting
  (repeat' split) <;> simp

@[simp] theorem State.stepDone_queue (s : State) (l : Nat) (f : CalFind) : (s.stepDone l f).queue = s.queue := by
  unfold State.stepDone
  split
  · rfl
  · split
    · rfl
    · dsimp only
      simp

/-! ### The operations of Machine/Lanes -/

@[simp] theorem State.presetRate_queue (s : State) (l surf track : Nat) : (s.presetRate l surf track).queue = s.queue := by simp [State.presetRate]

@[simp] theorem State.laneBind_queue (s : State) (l : Nat) : (s.laneBind l).queue = s.queue := by
  unfold State.laneBind
  split <;> simp

@[simp] theorem State.laneUnbind_queue (s : State) (l : Nat) : (s.laneUnbind l).queue = s.queue := by simp [State.laneUnbind]
@[simp] theorem State.skipFrame_queue (s : State) (l : Nat) (c : FrameCmd) : (s.skipFrame l c).queue = s.queue := by simp [State.skipFrame]
@[simp] theorem State.queueFrame_queue (s : State) (l : Nat) (c : FrameCmd) : (s.queueFrame l c).queue = s.queue := by simp [State.queueFrame]

@[simp] theorem State.frameCommand_queue (s : State) (l track frame startTick : Nat) :
    (s.frameCommand l track frame startTick).queue = s.queue := by
  unfold State.frameCommand
  (repeat' split) <;> simp

@[simp] theorem State.positionPassed_queue (s : State) (l : Nat) : (s.positionPassed l).queue = s.queue := by
  unfold State.positionPassed
  split <;> simp

@[simp] theorem State.roomFor_queue (s : State) (l n : Nat) : (s.roomFor l n).queue = s.queue := by simp [State.roomFor]
@[simp] theorem State.acquireGain_queue (s : State) (l : Nat) : (s.acquireGain l).queue = s.queue := by simp [State.acquireGain]

@[simp] theorem State.captureStart_queue (s : State) (l : Nat) : (s.captureStart l).queue = s.queue := by
  unfold State.captureStart
  dsimp only
  (repeat' split) <;> simp

@[simp] theorem State.putSync_queue (s : State) (l : Nat) (best : Option (Nat × Nat)) (top : Nat) : (s.putSync l best top).queue = s.queue := by
  simp [State.putSync]

@[simp] theorem State.syncDecision_queue (s : State) (l : Nat) (cells1 cells2 : List SlicedCell) :
    (s.syncDecision l cells1 cells2).queue = s.queue := by
  unfold State.syncDecision
  (repeat' split) <;> simp

@[simp] theorem State.countFail_queue (s : State) (surf track frame : Nat) (d : DecodeRes) : (s.countFail surf track frame d).queue = s.queue := by
  simp [State.countFail]

@[simp] theorem State.readAs_queue (s : State) (surf track frame info : Nat) : (s.readAs surf track frame info).queue = s.queue := by
  simp [State.readAs]

@[simp] theorem State.inlineResult_queue (s : State) (l : Nat) (d : DecodeRes) : (s.inlineResult l d).queue = s.queue := by
  unfold State.inlineResult
  dsimp only
  (repeat' split) <;> simp

@[simp] theorem State.frameGood_queue (s : State) (surf track frame : Nat) : (s.frameGood surf track frame).queue = s.queue := by
  unfold State.frameGood
  split <;> simp

@[simp] theorem State.frameBad_queue (s : State) (surf track frame : Nat) (miss : Bool) : (s.frameBad surf track frame miss).queue = s.queue := by
  unfold State.frameBad
  dsimp only
  split
  · split
    · simp [State.pin_queue ‹_›]
    · simp
  · simp

@[simp] theorem State.neighbourRead_queue (s : State) (surf track frame : Nat) : (s.neighbourRead surf track frame).queue = s.queue := by
  unfold State.neighbourRead
  rw [State.each_queue]
  intro t r
  dsimp only
  split
  · rfl
  · split
    · simp [State.pin_queue ‹_›]
    · simp

@[simp] theorem State.dispatch_queue (s : State) (l : Nat) (c : FrameCmd) (off late inline miss : Bool) :
    (s.dispatch l c off late inline miss).queue = s.queue := by
  simp [State.dispatch]

@[simp] theorem State.passOver_queue (s : State) (l : Nat) : (s.passOver l).queue = s.queue := by simp [State.passOver]

@[simp] theorem State.indexCapture_queue (s : State) (l : Nat) (i : IndexEntry) : (s.indexCapture l i).queue = s.queue := by
  unfold State.indexCapture
  split <;> simp

@[simp] theorem State.notePass_queue (s : State) (l : Nat) : (s.notePass l).queue = s.queue := by simp [State.notePass]

@[simp] theorem State.sectorEnd_queue (s : State) (l : Nat) (overrunAt : Option Nat) : (s.sectorEnd l overrunAt).queue = s.queue := by
  unfold State.sectorEnd
  dsimp only
  (repeat' split) <;> simp

@[simp] theorem State.calRead_queue (s : State) (w : Nat) (r : CalRun) : (s.calRead w r).queue = s.queue := by
  unfold State.calRead
  dsimp only
  (repeat' split) <;> simp

@[simp] theorem State.lsWindow_queue (s : State) (a : Act) (w : Nat) (valid : Nat → Bool) : (s.lsWindow a w valid).queue = s.queue := by
  simp [State.lsWindow]

/-! ### The operations of Machine/DeepDecode -/

@[simp] theorem State.frameEscalation_queue (s : State) (surf track frame cls : Nat) :
    (s.frameEscalation surf track frame cls).queue = s.queue := by
  unfold State.frameEscalation
  split <;> simp

@[simp] theorem State.deepStart_queue (s : State) (u : Nat) : (s.deepStart u).queue = s.queue := by
  unfold State.deepStart
  split <;> simp

@[simp] theorem State.decodeDone_queue (s : State) (u : Nat) (r : Recovery) (d : DecodeRes) : (s.decodeDone u r d).queue = s.queue := by
  simp [State.decodeDone]

@[simp] theorem State.ddStepDone_queue (s : State) (u : Nat) (x : StepRes) : (s.ddStepDone u x).queue = s.queue := by
  unfold State.ddStepDone
  (repeat' split) <;> simp

@[simp] theorem State.unitReset_queue (s : State) (u : Nat) : (s.unitReset u).queue = s.queue := by
  unfold State.unitReset
  dsimp only
  (repeat' split) <;> simp

@[simp] theorem State.lsJoin_queue (s : State) (l : Nat) : (s.lsJoin l).queue = s.queue := by simp [State.lsJoin]

@[simp] theorem State.rereadPass_queue (s : State) (a : Act) (startTick : Nat) : (s.rereadPass a startTick).queue = s.queue := by
  unfold State.rereadPass
  (repeat' split) <;> simp

@[simp] theorem State.neighbourExpiry_queue (s : State) (surf track frame : Nat) : (s.neighbourExpiry surf track frame).queue = s.queue := by
  unfold State.neighbourExpiry
  dsimp only
  split
  · rfl
  · split
    · simp
    · split
      · simp [State.pin_queue ‹_›]
      · simp

@[simp] theorem State.lsTimeout_queue (s : State) (surf track frame : Nat) : (s.lsTimeout surf track frame).queue = s.queue := by
  simp [State.lsTimeout]

@[simp] theorem State.unreadableTimeout_queue (s : State) (surf track frame : Nat) : (s.unreadableTimeout surf track frame).queue = s.queue := by
  unfold State.unreadableTimeout
  dsimp only
  (repeat' split) <;> simp

/-! ### The operations of Machine/EnclosureBus -/

@[simp] theorem State.opportunity_queue (s : State) (late : Bool) : (s.opportunity late).queue = s.queue := by simp [State.opportunity]
@[simp] theorem State.plcaBeacon_queue (s : State) : s.plcaBeacon.queue = s.queue := by simp [State.plcaBeacon]
@[simp] theorem State.collision_queue (s : State) : s.collision.queue = s.queue := by simp [State.collision]

@[simp] theorem State.backoff_queue (s : State) : s.backoff.queue = s.queue := by
  unfold State.backoff
  split <;> simp

@[simp] theorem State.ebRecv_queue (s : State) (h : EbHdr) (f : State → State) (hf : ∀ t, (f t).queue = t.queue) :
    (s.ebRecv h f).queue = s.queue := by
  simp [State.ebRecv, hf]

@[simp] theorem State.tickFrame_queue (s : State) (h : EbHdr) (mepoch : Nat) : (s.tickFrame h mepoch).queue = s.queue := by simp [State.tickFrame]

@[simp] theorem State.tokReqFrame_queue (s : State) (h : EbHdr) (lease : Nat) (held : Bool) : (s.tokReqFrame h lease held).queue = s.queue := by
  simp [State.tokReqFrame]

@[simp] theorem State.announceTo_queue (s : State) (a : Act) (h : EbHdr) (step start : Nat) (prof : List Int) :
    (s.announceTo a h step start prof).queue = s.queue := by
  unfold State.announceTo
  dsimp only
  (repeat' split) <;> simp

@[simp] theorem State.hqueryFrame_queue (s : State) (h : EbHdr) (dstnode : Nat) : (s.hqueryFrame h dstnode).queue = s.queue := by
  simp [State.hqueryFrame]

@[simp] theorem State.claimsClose_queue (s : State) : s.claimsClose.queue = s.queue := by simp [State.claimsClose]
@[simp] theorem State.localSpin_queue (s : State) : s.localSpin.queue = s.queue := by simp [State.localSpin]

/-! ### The operations of Machine/NvmeIo -/

@[simp] theorem State.ioRead_queue (s : State) (m : Cmd) (fails : List Nat) : (s.ioRead m fails).queue = s.queue := by
  unfold State.ioRead
  dsimp only
  (repeat' split) <;> simp

@[simp] theorem State.ioCompare_queue (s : State) (m : Cmd) (data : List Byte) (fails : List Nat) : (s.ioCompare m data fails).queue = s.queue := by
  unfold State.ioCompare
  dsimp only
  (repeat' split) <;> simp

@[simp] theorem State.queued_queue (s : State) (m : Cmd) (r : State × Option NvStatus × Bool) (hr : r.1.queue = s.queue) :
    (s.queued m r).queue = s.queue := by
  unfold State.queued
  split <;> simp [hr]

@[simp] theorem State.dealloced_queue (s : State) (m : Cmd) (r : State × Option NvStatus × Bool) (hr : r.1.queue = s.queue) :
    (s.dealloced m r).queue = s.queue := by
  unfold State.dealloced
  split <;> simp [hr]

@[simp] theorem State.zoneWrite_queue (s : State) (m : Cmd) (n : Namespace) (z o k : Nat) (data : List Byte) (result : Nat) :
    (s.zoneWrite m n z o k data result).queue = s.queue := by
  unfold State.zoneWrite
  split
  · split <;> simp
  · split
    · rfl
    · split <;> simp

@[simp] theorem State.ioWrite_queue (s : State) (m : Cmd) (data : List Byte) : (s.ioWrite m data).queue = s.queue := by
  unfold State.ioWrite
  split <;> simp

@[simp] theorem State.ioAppend_queue (s : State) (m : Cmd) (data : List Byte) : (s.ioAppend m data).queue = s.queue := by
  unfold State.ioAppend
  split <;> simp

@[simp] theorem State.ioZeroes_queue (s : State) (m : Cmd) : (s.ioZeroes m).queue = s.queue := by
  unfold State.ioZeroes
  split <;> simp

@[simp] theorem State.ioDsm_queue (s : State) (m : Cmd) (ranges : List (Nat × Nat)) : (s.ioDsm m ranges).queue = s.queue := by
  unfold State.ioDsm
  split
  · simp
  · split
    · simp
    · refine State.dealloced_queue _ _ _ (List.foldlRecOn (motive := fun r : State × Option NvStatus × Bool => r.1.queue = s.queue) _ _ rfl
        (fun r hr x _ => ?_))
      (repeat' split) <;> simp [hr]

@[simp] theorem State.ioBarrier_queue (s : State) (m : Cmd) : (s.ioBarrier m).queue = s.queue := by simp [State.ioBarrier]
@[simp] theorem State.putNs_queue (s : State) (nsid : Nat) (n : Namespace) : (s.putNs nsid n).queue = s.queue := by simp [State.putNs]
@[simp] theorem State.resvNotice_queue (s : State) (c nsid kind : Nat) : (s.resvNotice c nsid kind).queue = s.queue := by simp [State.resvNotice]

@[simp] theorem State.resvNotices_queue (s : State) (n : Namespace) (c nsid kind : Nat) : (s.resvNotices n c nsid kind).queue = s.queue := by
  simp [State.resvNotices]

@[simp] theorem State.resvRegister_queue (s : State) (m : Cmd) (crkey nrkey : Nat) : (s.resvRegister m crkey nrkey).queue = s.queue := by
  unfold State.resvRegister
  (repeat' split) <;> simp

@[simp] theorem State.resvPreempt_queue (s : State) (m : Cmd) (n : Namespace) (pr rt : Nat) (abort : Bool) :
    (s.resvPreempt m n pr rt abort).queue = s.queue := by
  simp [State.resvPreempt]

@[simp] theorem State.resvAcquire_queue (s : State) (m : Cmd) (crkey prkey : Nat) : (s.resvAcquire m crkey prkey).queue = s.queue := by
  unfold State.resvAcquire
  split <;> simp

@[simp] theorem State.resvRelease_queue (s : State) (m : Cmd) (crkey : Nat) : (s.resvRelease m crkey).queue = s.queue := by
  unfold State.resvRelease
  split <;> simp

@[simp] theorem State.resvReport_queue (s : State) (m : Cmd) : (s.resvReport m).queue = s.queue := by
  unfold State.resvReport
  split <;> simp

@[simp] theorem State.zoneAction_queue (s : State) (m : Cmd) (all ok idle : Nat → Bool) (act : State → Namespace → Nat → State)
    (hact : ∀ t x y, (act t x y).queue = t.queue) :
    (s.zoneAction m all ok idle act).queue = s.queue := by
  unfold State.zoneAction
  (repeat' split) <;> simp [hact]

@[simp] theorem State.zoneSend_queue (s : State) (c q cid a : Nat) (f : State → Cmd → State) (hf : ∀ t x, (f t x).queue = t.queue) :
    (s.zoneSend c q cid a f).queue = s.queue := by
  simp [State.zoneSend, hf]

@[simp] theorem State.zoneFinish_queue (s : State) (m : Cmd) (n : Namespace) (z : Nat) : (s.zoneFinish m n z).queue = s.queue := by
  simp [State.zoneFinish]

@[simp] theorem State.zoneOpenCmd_queue (s : State) (m : Cmd) : (s.zoneOpenCmd m).queue = s.queue := by
  unfold State.zoneOpenCmd
  split <;> simp

@[simp] theorem State.zoneReset_queue (s : State) (m : Cmd) (n : Namespace) (z : Nat) : (s.zoneReset m n z).queue = s.queue := by
  simp [State.zoneReset]

@[simp] theorem State.zoneReport_queue (s : State) (m : Cmd) : (s.zoneReport m).queue = s.queue := by
  unfold State.zoneReport
  split <;> simp

/-! ### The operations of Machine/NvmeData -/

@[simp] theorem State.freeBytes_queue (n : Nat) (s : State) : (State.freeBytes n s).2.queue = s.queue := by
  induction n generalizing s with
  | zero => rfl
  | succ n ih =>
    unfold State.freeBytes
    simp [ih]

@[simp] theorem State.logRead_queue (s : State) (c : Nat) (e : SqEntry) : (s.logRead c e).queue = s.queue := by simp [State.logRead]

/-! ### The operations of Machine/NvmeAdmin -/

@[simp] theorem State.adminStart_queue (s : State) (c cid opc : Nat) (f : State → Cmd → State) (hf : ∀ t x, (f t x).queue = t.queue) :
    (s.adminStart c cid opc f).queue = s.queue := by
  unfold State.adminStart
  split <;> simp [hf]

@[simp] theorem State.returned_queue (s : State) (m : Cmd) (data : List Byte) : (s.returned m data).queue = s.queue := by simp [State.returned]

@[simp] theorem State.deleteSq_queue (s : State) (m : Cmd) : (s.deleteSq m).queue = s.queue := by
  unfold State.deleteSq
  dsimp only
  (repeat' split) <;> simp

@[simp] theorem State.createSq_queue (s : State) (m : Cmd) : (s.createSq m).queue = s.queue := by
  unfold State.createSq
  split <;> simp

@[simp] theorem State.deleteCq_queue (s : State) (m : Cmd) : (s.deleteCq m).queue = s.queue := by simp [State.deleteCq]
@[simp] theorem State.createCq_queue (s : State) (m : Cmd) : (s.createCq m).queue = s.queue := by simp [State.createCq]

@[simp] theorem State.identify_queue (s : State) (m : Cmd) : (s.identify m).queue = s.queue := by
  unfold State.identify
  split <;> simp

@[simp] theorem State.getLog_queue (s : State) (m : Cmd) : (s.getLog m).queue = s.queue := by
  unfold State.getLog
  dsimp only
  (repeat' split) <;> simp

@[simp] theorem State.abortCmd_queue (s : State) (k : Cmd) : (s.abortCmd k).queue = s.queue := by simp [State.abortCmd]

@[simp] theorem State.abortNamed_queue (s : State) (m : Cmd) (unfetched : Bool) : (s.abortNamed m unfetched).queue = s.queue := by
  unfold State.abortNamed
  dsimp only
  (repeat' split) <;> simp

@[simp] theorem State.featStart_queue (s : State) (c cid fid : Nat) (f : State → Cmd → State) (hf : ∀ t x, (f t x).queue = t.queue) :
    (s.featStart c cid fid f).queue = s.queue := by
  simp [State.featStart, hf]

@[simp] theorem State.keep_queue (s : State) (m : Cmd) (sel v : Nat) : (s.keep m sel v).queue = s.queue := by simp [State.keep]
@[simp] theorem State.setPower_queue (s : State) (m : Cmd) : (s.setPower m).queue = s.queue := by simp [State.setPower]
@[simp] theorem State.setTemp_queue (s : State) (m : Cmd) : (s.setTemp m).queue = s.queue := by simp [State.setTemp]
@[simp] theorem State.setQueues_queue (s : State) (m : Cmd) : (s.setQueues m).queue = s.queue := by simp [State.setQueues]
@[simp] theorem State.setTime_queue (s : State) (m : Cmd) (ms : Nat) : (s.setTime m ms).queue = s.queue := by simp [State.setTime]

@[simp] theorem State.nsFeature_queue (s : State) (m : Cmd) (f : State → List Nat → State) (hf : ∀ t x, (f t x).queue = t.queue) :
    (s.nsFeature m f).queue = s.queue := by
  unfold State.nsFeature
  (repeat' split) <;> simp [hf]

@[simp] theorem State.setOrdering_queue (s : State) (m : Cmd) : (s.setOrdering m).queue = s.queue := by simp [State.setOrdering]
@[simp] theorem State.setStreaming_queue (s : State) (en : Bool) : (s.setStreaming en).queue = s.queue := by simp [State.setStreaming]

@[simp] theorem State.getFeature_queue (s : State) (m : Cmd) : (s.getFeature m).queue = s.queue := by
  unfold State.getFeature
  dsimp only
  (repeat' split) <;> simp

@[simp] theorem State.asyncRequest_queue (s : State) (m : Cmd) : (s.asyncRequest m).queue = s.queue := by simp [State.asyncRequest]

@[simp] theorem State.createNs_queue (s : State) (m : Cmd) (nsze ncap flbas : Nat) : (s.createNs m nsze ncap flbas).queue = s.queue := by
  unfold State.createNs
  dsimp only
  (repeat' split) <;> simp

@[simp] theorem State.deleteNs_queue (s : State) (m : Cmd) : (s.deleteNs m).queue = s.queue := by
  unfold State.deleteNs
  extract_lets ids live s1
  have h1 : s1.queue = s.queue := by
    simp only [s1]
    rw [State.each_queue]
    · simp
    · intro t i
      split <;> simp
  (repeat' split) <;> simp [h1]

@[simp] theorem State.attachNs_queue (s : State) (m : Cmd) (ids : List Nat) : (s.attachNs m ids).queue = s.queue := by
  unfold State.attachNs
  split <;> simp

@[simp] theorem State.detachNs_queue (s : State) (m : Cmd) (ids : List Nat) : (s.detachNs m ids).queue = s.queue := by
  unfold State.detachNs
  split <;> simp

@[simp] theorem State.selfTestStart_queue (s : State) (m : Cmd) (k : Nat) : (s.selfTestStart m k).queue = s.queue := by simp [State.selfTestStart]

@[simp] theorem State.selfTestSegment_queue (s : State) (k third : Nat) (ok : Bool) (lba : Nat) :
    (s.selfTestSegment k third ok lba).queue = s.queue := by
  unfold State.selfTestSegment
  split <;> simp

@[simp] theorem State.selfTestStop_queue (s : State) (m : Cmd) : (s.selfTestStop m).queue = s.queue := by
  unfold State.selfTestStop
  split <;> simp

@[simp] theorem State.formatNs_queue (s : State) (m : Cmd) : (s.formatNs m).queue = s.queue := by
  unfold State.formatNs
  dsimp only
  (repeat' split) <;> simp

/-! ### The operations of Machine/Firmware -/

@[simp] theorem State.fwDownload_queue (s : State) (m : Cmd) (data : List Byte) : (s.fwDownload m data).queue = s.queue := by simp [State.fwDownload]
@[simp] theorem State.flashStart_queue (s : State) (x : FwStore) : (s.flashStart x).queue = s.queue := by simp [State.flashStart]

@[simp] theorem State.commitBundle_queue (s : State) (m : Cmd) (a : Nat) : (s.commitBundle m a).queue = s.queue := by
  unfold State.commitBundle
  dsimp only
  split
  · simp
  · split <;> simp

@[simp] theorem State.commitAccord_queue (s : State) (m : Cmd) (a : Nat) : (s.commitAccord m a).queue = s.queue := by simp [State.commitAccord]
@[simp] theorem State.commitArea_queue (s : State) (m : Cmd) : (s.commitArea m).queue = s.queue := by simp [State.commitArea]

@[simp] theorem State.commit_queue (s : State) (c cid a : Nat) (f2 f7 : State → Cmd → State) (hf2 : ∀ t x, (f2 t x).queue = t.queue)
    (hf7 : ∀ t x, (f7 t x).queue = t.queue) :
    (s.commit c cid a f2 f7).queue = s.queue := by
  simp [State.commit, hf2, hf7]

@[simp] theorem State.setActivate_queue (s : State) (m : Cmd) : (s.setActivate m).queue = s.queue := by
  unfold State.setActivate
  split <;> simp

@[simp] theorem State.accordPending_queue (s : State) (m : Cmd) : (s.accordPending m).queue = s.queue := by simp [State.accordPending]
@[simp] theorem State.activate_queue (s : State) (c cid k : Nat) : (s.activate c cid k).queue = s.queue := by simp [State.activate]

@[simp] theorem State.activationEnd_queue (s : State) (st : NvStatus) : (s.activationEnd st).queue = s.queue := by
  unfold State.activationEnd
  dsimp only
  (repeat' split) <;> simp

@[simp] theorem State.activationDrained_queue (s : State) : s.activationDrained.queue = s.queue := by
  unfold State.activationDrained
  split <;> simp

@[simp] theorem State.bundleWritten_queue (s : State) (ok : Bool) : (s.bundleWritten ok).queue = s.queue := by
  unfold State.bundleWritten
  dsimp only
  (repeat' split) <;> simp

@[simp] theorem State.areaWritten_queue (s : State) (ok : Bool) : (s.areaWritten ok).queue = s.queue := by
  unfold State.areaWritten
  dsimp only
  (repeat' split) <;> simp

/-! ### The operations of Machine/MemRows -/

@[simp] theorem State.fillDone_queue (s : State) : s.fillDone.queue = s.queue := by simp [State.fillDone]

@[simp] theorem State.padPut_queue (s : State) (tgt idx : Nat) (c : Code80) : (s.padPut tgt idx c).queue = s.queue := by
  unfold State.padPut
  split <;> simp

@[simp] theorem State.padNote_queue (s : State) (tgt idx : Nat) (d : Decoded) : (s.padNote tgt idx d).queue = s.queue := by
  unfold State.padNote
  split <;> simp

@[simp] theorem State.setBltData_queue (s : State) (v : Nat) : (s.setBltData v).queue = s.queue := by simp [State.setBltData]

@[simp] theorem State.bltRun_queue (s : State) (op tgt idx : Nat) : (s.bltRun op tgt idx).queue = s.queue := by
  unfold State.bltRun
  split <;> simp

@[simp] theorem State.bltWrite_queue (s : State) (w : Word32) : (s.bltWrite w).queue = s.queue := by simp [State.bltWrite]

@[simp] theorem State.bltDone_queue (s : State) : s.bltDone.queue = s.queue := by
  unfold State.bltDone
  split <;> simp

@[simp] theorem State.bltEnable_queue (s : State) : s.bltEnable.queue = s.queue := by
  unfold State.bltEnable
  (repeat' split) <;> simp

@[simp] theorem State.bltDisable_queue (s : State) : s.bltDisable.queue = s.queue := by simp [State.bltDisable]

@[simp] theorem State.fillArrives_queue (s : State) (la : Nat) (f : MemFaults) : (s.fillArrives la f).queue = s.queue := by
  unfold State.fillArrives
  split <;> simp

@[simp] theorem State.prefetchArrives_queue (s : State) (la : Nat) (f : MemFaults) : (s.prefetchArrives la f).queue = s.queue := by
  unfold State.prefetchArrives
  split <;> simp

@[simp] theorem State.evictionDone_queue (s : State) (la : Nat) (issued : List Nat) (f : MemFaults) :
    (s.evictionDone la issued f).queue = s.queue := by
  simp [State.evictionDone]

@[simp] theorem State.invalidationDone_queue (s : State) : s.invalidationDone.queue = s.queue := by simp [State.invalidationDone]

/-! ### The operations of Machine/FabricRows -/

@[simp] theorem State.bootRole_queue (s : State) (h : Nat) : (s.bootRole h).queue = s.queue := by simp [State.bootRole]

@[simp] theorem State.heDrainOut_queue (s : State) (h : Nat) (mine : List (Nat × Nat)) : (s.heDrainOut h mine).queue = s.queue := by
  simp [State.heDrainOut]

@[simp] theorem State.stRestart_queue (s : State) : s.stRestart.queue = s.queue := by simp [State.stRestart]
@[simp] theorem State.issued_queue (s : State) (h : Nat) (sp : Bool) : (s.issued h sp).queue = s.queue := by simp [State.issued]

/-- What a microword's operation comes to leaves the queue of `s`. -/
def MwRes.leaves (s : State) : MwRes → Prop
  | .wait => True
  | .ok t => t.queue = s.queue
  | .fault t _ _ _ => t.queue = s.queue

/-- What a fabric access comes to leaves the queue of `s`. -/
def FabRes.leaves (s : State) : FabRes → Prop
  | .wait => True
  | .unmapped => True
  | .ok t _ => t.queue = s.queue

@[simp] theorem MwRes.leaves_wait (s : State) : MwRes.wait.leaves s ↔ True := Iff.rfl

@[simp] theorem MwRes.leaves_ok (s t : State) : (MwRes.ok t).leaves s ↔ t.queue = s.queue := Iff.rfl

@[simp] theorem MwRes.leaves_fault (s t : State) (a b c : Nat) : (MwRes.fault t a b c).leaves s ↔ t.queue = s.queue := Iff.rfl

@[simp] theorem MwRes.leaves_ite (s : State) (c : Prop) [Decidable c] (r q : MwRes) :
    (if c then r else q).leaves s ↔ if c then r.leaves s else q.leaves s := by
  split <;> rfl

@[simp] theorem FabRes.leaves_wait (s : State) : FabRes.wait.leaves s ↔ True := Iff.rfl

@[simp] theorem FabRes.leaves_unmapped (s : State) : FabRes.unmapped.leaves s ↔ True := Iff.rfl

@[simp] theorem FabRes.leaves_ok (s t : State) (b : Bool) : (FabRes.ok t b).leaves s ↔ t.queue = s.queue := Iff.rfl

@[simp] theorem State.issue_queue (s : State) (h : Nat) (m : MwIn) (fits : Microword → Bool) (op : State → Helper → Microword → MwRes)
    (hop : ∀ t x w, (op t x w).leaves t) : (s.issue h m fits op).queue = s.queue := by
  unfold State.issue
  dsimp only
  split
  · rfl
  · split
    · rfl
    · split
      · simp
      · split
        · simp
        · have hq := hop (s.modHelper h (fun y => y.alu (s.fetchMw h).1)) (s.helper h) (s.fetchMw h).1
          split <;> rename_i e <;> rw [e] at hq
          · simp [(MwRes.leaves_fault ..).mp hq]
          · simp [(MwRes.leaves_ok ..).mp hq]

@[simp] theorem mwNone_leaves (s : State) (x : Helper) (w : Microword) : (mwNone s x w).leaves s := rfl

@[simp] theorem mwLocalLoad_leaves (h : Nat) (s : State) (x : Helper) (w : Microword) : (mwLocalLoad h s x w).leaves s := by
  unfold mwLocalLoad
  dsimp only
  split <;> simp

@[simp] theorem mwLocalStore_leaves (h : Nat) (s : State) (x : Helper) (w : Microword) : (mwLocalStore h s x w).leaves s := by
  unfold mwLocalStore
  dsimp only
  split <;> simp

@[simp] theorem State.fabLoad_leaves (s : State) (who : Nat) (i : FabIn) (a n reg : Nat) : (s.fabLoad who i a n reg).leaves s := by
  unfold State.fabLoad
  dsimp only
  (repeat' split) <;> simp

@[simp] theorem State.fabStore_leaves (s : State) (who : Nat) (i : FabIn) (a : Nat) (d : List Byte) : (s.fabStore who i a d).leaves s := by
  unfold State.fabStore
  (repeat' split) <;> simp

@[simp] theorem State.fabLine_leaves (s : State) (who a op : Nat) (f : MemFaults) : (s.fabLine who a op f).leaves s := by
  unfold State.fabLine
  (repeat' split) <;> simp

@[simp] theorem mwFab_leaves (s : State) (r : FabRes) (at' : Nat × Nat) (hr : r.leaves s) : (mwFab s r at').leaves s := by
  cases r with
  | wait => simp [mwFab]
  | unmapped => simp [mwFab]
  | ok t b => exact hr

@[simp] theorem mwSend_leaves (h : Nat) (s : State) (x : Helper) (w : Microword) : (mwSend h s x w).leaves s := by
  unfold mwSend
  dsimp only
  split <;> simp

@[simp] theorem mwReceive_leaves (h : Nat) (s : State) (x : Helper) (w : Microword) : (mwReceive h s x w).leaves s := by
  unfold mwReceive
  split <;> simp

@[simp] theorem mwErrReceive_leaves (h : Nat) (s : State) (x : Helper) (w : Microword) : (mwErrReceive h s x w).leaves s := by
  unfold mwErrReceive
  split <;> simp

@[simp] theorem State.mwLine_queue (s : State) (h : Nat) (m : MwIn) (f : MemFaults) (k : Nat) : (s.mwLine h m f k).queue = s.queue := by
  simp [State.mwLine]

@[simp] theorem State.deliverNext_queue (s : State) (src : Nat) : (s.deliverNext src).queue = s.queue := by
  unfold State.deliverNext
  (repeat' split) <;> simp

@[simp] theorem State.enterNext_queue (s : State) (dst : Nat) : (s.enterNext dst).queue = s.queue := by
  unfold State.enterNext
  (repeat' split) <;> simp

@[simp] theorem State.returnNext_queue (s : State) (src : Nat) : (s.returnNext src).queue = s.queue := by
  unfold State.returnNext
  split <;> simp

@[simp] theorem State.islandTakes_queue (s : State) (h accepted : Nat) : (s.islandTakes h accepted).queue = s.queue := by simp [State.islandTakes]

@[simp] theorem State.fence_queue (s : State) (h : Nat) (m : MwIn) (k accepted : Nat) (done : State → Bool) :
    (s.fence h m k accepted done).queue = s.queue := by
  unfold State.fence
  rw [State.issue_queue]
  · simp
  · intro t x w
    split <;> simp

@[simp] theorem State.stagingDone_queue (s : State) (ok : Bool) : (s.stagingDone ok).queue = s.queue := by
  unfold State.stagingDone
  split <;> simp

@[simp] theorem State.stewardSwap_queue (s : State) : s.stewardSwap.queue = s.queue := by
  unfold State.stewardSwap
  split <;> simp

@[simp] theorem State.stFetch_queue (s : State) (space addr : Nat) : (s.stFetch space addr).1.queue = s.queue := by
  unfold State.stFetch
  (repeat' split) <;> simp

theorem State.stAccess_queue (s : State) (i : FabIn) (r : FabRes) (hr : r.leaves s) : (s.stAccess i r).queue = s.queue := by
  cases r with
  | wait => rfl
  | unmapped => simp [State.stAccess]
  | ok t bad => simp [State.stAccess, (FabRes.leaves_ok s t bad).mp hr]

@[simp] theorem State.stDo_queue (s : State) (o : StewardOp) : (s.stDo o).queue = s.queue := by
  cases o with
  | load i a n => exact State.stAccess_queue s i _ (State.fabLoad_leaves ..)
  | store i a d => exact State.stAccess_queue s i _ (State.fabStore_leaves ..)
  | line op a f => exact State.stAccess_queue s _ _ (State.fabLine_leaves ..)
  | _ => simp [State.stDo]

@[simp] theorem State.stStep_queue (s : State) (space addr : Nat) (o : StewardOp) : (s.stStep space addr o).queue = s.queue := by
  unfold State.stStep
  dsimp only
  (repeat' split) <;> simp

/-! ### The operations of Machine/Movers -/

@[simp] theorem State.moverStop_queue (s : State) (c : Nat) : (s.moverStop c).queue = s.queue := by simp [State.moverStop]
@[simp] theorem State.moverStart_queue (s : State) (c : Nat) : (s.moverStart c).queue = s.queue := by simp [State.moverStart]
@[simp] theorem State.moverResume_queue (s : State) (c : Nat) : (s.moverResume c).queue = s.queue := by simp [State.moverResume]

@[simp] theorem State.moverComplete_queue (s : State) (c : Nat) (hostData : List Byte) (f : MemFaults) :
    (s.moverComplete c hostData f).queue = s.queue := by
  unfold State.moverComplete
  split <;> simp

@[simp] theorem State.moverHalt_queue (s : State) (c transfers : Nat) (hostData : List Byte) (f : MemFaults) :
    (s.moverHalt c transfers hostData f).queue = s.queue := by
  unfold State.moverHalt
  split <;> simp

@[simp] theorem State.moverTimeout_queue (s : State) (c : Nat) : (s.moverTimeout c).queue = s.queue := by
  unfold State.moverTimeout
  split <;> simp

@[simp] theorem State.burstPart_queue (s : State) (c : Nat) (f : MemFaults) (x : MoverSet) (v j : Nat) (d hostData : List Byte) :
    (s.burstPart c f x v j d hostData).1.queue = s.queue := by
  unfold State.burstPart
  dsimp only
  (repeat' split) <;> simp

@[simp] theorem State.burst_queue (s : State) (c count valid : Nat) (last : Bool) (samples : List (Option Int)) (hostData : List Byte)
    (f : MemFaults) :
    (s.burst c count valid last samples hostData f).queue = s.queue := by
  unfold State.burst
  split <;> simp

@[simp] theorem State.periphWithdraw_queue (s : State) (c : Nat) : (s.periphWithdraw c).queue = s.queue := by
  unfold State.periphWithdraw
  split <;> simp

/-! ### The operations of Machine/Pool -/

@[simp] theorem State.hello_queue (s : State) (h : EwHdr) (ident : List Byte) (id : Option Nat) (role : Nat) :
    (s.hello h ident id role).queue = s.queue := by
  simp [State.hello]

@[simp] theorem State.rollSlot_queue (s : State) : s.rollSlot.queue = s.queue := by simp [State.rollSlot]
@[simp] theorem State.rollClose_queue (s : State) : s.rollClose.queue = s.queue := by simp [State.rollClose]
@[simp] theorem State.setRole_queue (s : State) (r : Nat) : (s.setRole r).queue = s.queue := by simp [State.setRole]
@[simp] theorem State.leaderSync_queue (s : State) : s.leaderSync.queue = s.queue := by simp [State.leaderSync]
@[simp] theorem State.leaderFrame_queue (s : State) (h : EwHdr) (shard : Nat) : (s.leaderFrame h shard).queue = s.queue := by simp [State.leaderFrame]
@[simp] theorem State.sendLayout_queue (s : State) : s.sendLayout.queue = s.queue := by simp [State.sendLayout]

@[simp] theorem State.adoptAsk_queue (s : State) (id : Nat) : (s.adoptAsk id).queue = s.queue := by
  unfold State.adoptAsk
  rw [State.each_queue]
  intro t x
  split <;> simp

@[simp] theorem State.adoptBegin_queue (s : State) (id : Nat) : (s.adoptBegin id).queue = s.queue := by simp [State.adoptBegin]
@[simp] theorem State.adoptFixed_queue (s : State) : s.adoptFixed.queue = s.queue := by simp [State.adoptFixed]
@[simp] theorem State.headForms_queue (s : State) : s.headForms.queue = s.queue := by simp [State.headForms]

@[simp] theorem State.roster_queue (s : State) (h : EwHdr) (es : List (List Byte × Nat × Nat × Nat)) : (s.roster h es).queue = s.queue := by
  unfold State.roster
  rw [State.ewAccept_queue]
  intro t
  dsimp only
  split <;> simp

@[simp] theorem State.layoutFrame_queue (s : State) (h : EwHdr) (epoch part npart : Nat) (ids : List (Nat × Bool)) :
    (s.layoutFrame h epoch part npart ids).queue = s.queue := by
  simp [State.layoutFrame]

@[simp] theorem State.ackFrame_queue (s : State) (h : EwHdr) : (s.ackFrame h).queue = s.queue := by simp [State.ackFrame]
@[simp] theorem State.phaseBound_queue (s : State) : s.phaseBound.queue = s.queue := by simp [State.phaseBound]
@[simp] theorem State.poolReady_queue (s : State) : s.poolReady.queue = s.queue := by simp [State.poolReady]
@[simp] theorem State.resendStale_queue (s : State) : s.resendStale.queue = s.queue := by simp [State.resendStale]

@[simp] theorem State.spareRelease_queue (s : State) (id : Nat) : (s.spareRelease id).queue = s.queue := by
  unfold State.spareRelease
  extract_lets own s1 s2 s3
  have h1 : s1.queue = s.queue := by
    simp only [s1]
    rw [State.each_queue]
    intro t x
    split <;> simp
  simp [s3, s2, h1]

@[simp] theorem State.heartbeat_queue (s : State) (h : EwHdr) (state : Nat) (roles : List (Nat × Nat)) :
    (s.heartbeat h state roles).queue = s.queue := by
  simp [State.heartbeat]

@[simp] theorem State.heartbeatOut_queue (s : State) : s.heartbeatOut.queue = s.queue := by simp [State.heartbeatOut]
@[simp] theorem State.announceFail_queue (s : State) (id cause : Nat) : (s.announceFail id cause).queue = s.queue := by simp [State.announceFail]

@[simp] theorem State.memberSilent_queue (s : State) (id : Nat) : (s.memberSilent id).queue = s.queue := by
  unfold State.memberSilent
  split <;> simp

@[simp] theorem State.probeTimeout_queue (s : State) (id : Nat) : (s.probeTimeout id).queue = s.queue := by simp [State.probeTimeout]

@[simp] theorem State.failnote_queue (s : State) (h : EwHdr) (id newgen cause : Nat) : (s.failnote h id newgen cause).queue = s.queue := by
  simp [State.failnote]

@[simp] theorem State.leaveFrame_queue (s : State) (h : EwHdr) (ret : Nat) : (s.leaveFrame h ret).queue = s.queue := by simp [State.leaveFrame]

@[simp] theorem State.pupd_queue (s : State) (h : EwHdr) (c : EwCell) (pos op wseq : Nat) (d : List Byte) :
    (s.pupd h c pos op wseq d).queue = s.queue := by
  unfold State.pupd
  rw [State.ewAccept_queue]
  intro t
  dsimp only
  (repeat' split) <;> simp

@[simp] theorem State.qupd_queue (s : State) (h : EwHdr) (c : EwCell) (pos op wseq : Nat) (d : List Byte) :
    (s.qupd h c pos op wseq d).queue = s.queue := by
  simp [State.qupd]

@[simp] theorem State.updack_queue (s : State) (h : EwHdr) (c : EwCell) : (s.updack h c).queue = s.queue := by
  unfold State.updack
  rw [State.ewAccept_queue]
  intro t
  (repeat' split) <;> simp

@[simp] theorem State.resendPupd_queue (s : State) (o : OpenC) : (s.resendPupd o).queue = s.queue := by simp [State.resendPupd]

@[simp] theorem State.updackTimeout_queue (s : State) (g r c op : Nat) : (s.updackTimeout g r c op).queue = s.queue := by
  unfold State.updackTimeout
  split <;> simp

@[simp] theorem State.pstate_queue (s : State) (h : EwHdr) (c : EwCell) (wseq st : Nat) : (s.pstate h c wseq st).queue = s.queue := by
  unfold State.pstate
  split
  · simp
  · rw [State.ewAccept_queue]
    intro t
    split <;> simp

@[simp] theorem State.pcopy_queue (s : State) (h : EwHdr) (record d : List Byte) : (s.pcopy h record d).queue = s.queue := by simp [State.pcopy]
@[simp] theorem State.prelease_queue (s : State) (h : EwHdr) (seqs : List Nat) : (s.prelease h seqs).queue = s.queue := by simp [State.prelease]
@[simp] theorem State.cread_queue (s : State) (h : EwHdr) (c : EwCell) (pos : Nat) : (s.cread h c pos).queue = s.queue := by simp [State.cread]

@[simp] theorem State.cellSolved_queue (s : State) (x : CellRead) (d : List Byte) : (s.cellSolved x d).queue = s.queue := by
  unfold State.cellSolved
  dsimp only
  (repeat' split) <;> simp

@[simp] theorem State.rowLost_queue (s : State) (x : CellRead) : (s.rowLost x).queue = s.queue := by simp [State.rowLost]

@[simp] theorem State.adoptNext_queue (s : State) (x : CellRead) (src pos : Nat) : (s.adoptNext x src pos).queue = s.queue := by
  simp [State.adoptNext]

@[simp] theorem State.adoptFrame_queue (s : State) (g row cell : Nat) : (s.adoptFrame g row cell).queue = s.queue := by
  unfold State.adoptFrame
  split <;> simp

@[simp] theorem State.applyRetained_queue (s : State) (id : Nat) : (s.applyRetained id).queue = s.queue := by simp [State.applyRetained]
@[simp] theorem State.adoptDone_queue (s : State) : s.adoptDone.queue = s.queue := by simp [State.adoptDone]

@[simp] theorem State.adoptCell_queue (s : State) (x : CellRead) (src pos : Nat) (d : Option (List Byte)) :
    (s.adoptCell x src pos d).queue = s.queue := by
  unfold State.adoptCell
  split <;> simp

@[simp] theorem State.cdata_queue (s : State) (h : EwHdr) (c : EwCell) (pos : Nat) (lost : Bool) (d : List Byte) :
    (s.cdata h c pos lost d).queue = s.queue := by
  unfold State.cdata
  rw [State.ewAccept_queue]
  intro t
  dsimp only
  (repeat' split) <;> simp

@[simp] theorem State.poolRebuild_queue (s : State) (g r c : Nat) : (s.poolRebuild g r c).queue = s.queue := by
  unfold State.poolRebuild
  (repeat' split) <;> simp

@[simp] theorem State.ptp_queue (s : State) (port : Nat) (toff err : Int) : (s.ptp port toff err).queue = s.queue := by simp [State.ptp]
@[simp] theorem State.netReply_queue (s : State) (o : NetOut) : (s.netReply o).queue = s.queue := by simp [State.netReply]
@[simp] theorem State.relayout_queue (s : State) (r tag : Nat) : (s.relayout r tag).queue = s.queue := by simp [State.relayout]
@[simp] theorem State.adoptMember_queue (s : State) (r tag : Nat) : (s.adoptMember r tag).queue = s.queue := by simp [State.adoptMember]

/-! ### The operations of Machine/Power -/

@[simp] theorem State.porstRise_queue (s : State) (powerOn tpEn : Bool) : (s.porstRise powerOn tpEn).queue = s.queue := by simp [State.porstRise]

@[simp] theorem State.railInRange_queue (s : State) : s.railInRange.queue = s.queue := by
  unfold State.railInRange
  split <;> simp

@[simp] theorem State.dwellEnd_queue (s : State) (failed : Nat) : (s.dwellEnd failed).queue = s.queue := by
  unfold State.dwellEnd
  split <;> simp

@[simp] theorem State.railTimeout_queue (s : State) : s.railTimeout.queue = s.queue := by
  unfold State.railTimeout
  split <;> simp

@[simp] theorem State.retryRails_queue (s : State) : s.retryRails.queue = s.queue := by
  unfold State.retryRails
  split <;> simp

@[simp] theorem State.porstFall_queue (s : State) : s.porstFall.queue = s.queue := by
  unfold State.porstFall
  dsimp only
  (repeat' split) <;> simp

@[simp] theorem State.downStep_queue (s : State) : s.downStep.queue = s.queue := by
  unfold State.downStep
  split <;> simp

@[simp] theorem State.vanaTrip_queue (s : State) : s.vanaTrip.queue = s.queue := by simp [State.vanaTrip]
@[simp] theorem State.vserTrip_queue (s : State) : s.vserTrip.queue = s.queue := by simp [State.vserTrip]

@[simp] theorem State.railTrip_queue (s : State) (r : Rail) : (s.railTrip r).queue = s.queue := by
  unfold State.railTrip
  (repeat' split) <;> simp

@[simp] theorem State.supplyRelease_queue (s : State) (vmLow : Bool) : (s.supplyRelease vmLow).queue = s.queue := by simp [State.supplyRelease]
@[simp] theorem State.retrain_queue (s : State) : s.retrain.queue = s.queue := by simp [State.retrain]
@[simp] theorem State.vmWarn_queue (s : State) : s.vmWarn.queue = s.queue := by simp [State.vmWarn]
@[simp] theorem State.vmClear_queue (s : State) : s.vmClear.queue = s.queue := by simp [State.vmClear]
@[simp] theorem State.waitOver_queue (s : State) : s.waitOver.queue = s.queue := by simp [State.waitOver]
@[simp] theorem State.rideOver_queue (s : State) : s.rideOver.queue = s.queue := by simp [State.rideOver]
@[simp] theorem State.vmGone_queue (s : State) : s.vmGone.queue = s.queue := by simp [State.vmGone]

@[simp] theorem State.vmUp_queue (s : State) : s.vmUp.queue = s.queue := by
  unfold State.vmUp
  dsimp only
  (repeat' split) <;> simp

@[simp] theorem State.vmMeasure_queue (s : State) (mv : Nat) : (s.vmMeasure mv).queue = s.queue := by simp [State.vmMeasure]
@[simp] theorem State.goIdle_queue (s : State) : s.goIdle.queue = s.queue := by simp [State.goIdle]
@[simp] theorem State.passTick_queue (s : State) : s.passTick.queue = s.queue := by simp [State.passTick]

/-! ### The operations of Machine/Registers -/

@[simp] theorem State.latchHi_queue (s : State) (addr : Nat) : (s.latchHi addr).queue = s.queue := by simp [State.latchHi]

@[simp] theorem State.readClears_queue (s : State) (addr : Nat) : (s.readClears addr).queue = s.queue := by
  unfold State.readClears
  split <;> simp

@[simp] theorem State.readOne_queue (s : State) (addr : Nat) : (s.readOne addr).queue = s.queue := by simp [State.readOne]
@[simp] theorem State.regRead_queue (s : State) (addr len : Nat) : (s.regRead addr len).queue = s.queue := by simp [State.regRead]

@[simp] theorem State.writeWord_queue (s : State) (addr : Nat) (w : Word32) : (s.writeWord addr w).queue = s.queue := by
  unfold State.writeWord
  (repeat' split) <;> simp

@[simp] theorem State.regWrite_queue (s : State) (addr : Nat) (data : List Byte) : (s.regWrite addr data).queue = s.queue := by simp [State.regWrite]
@[simp] theorem State.refLost_queue (s : State) : s.refLost.queue = s.queue := by simp [State.refLost]
@[simp] theorem State.refBack_queue (s : State) : s.refBack.queue = s.queue := by simp [State.refBack]
@[simp] theorem State.rateMeasured_queue (s : State) (rate : Nat) : (s.rateMeasured rate).queue = s.queue := by simp [State.rateMeasured]

/-! ### The operations of Machine/Rings -/

@[simp] theorem State.ringLinks_queue (s : State) (r : Nat) (links : List (Nat × Bool × Bool)) : (s.ringLinks r links).queue = s.queue := by
  unfold State.ringLinks
  rw [State.each_queue]
  intro t x
  split <;> simp

@[simp] theorem State.srDoorbell_queue (s : State) (r tail cqHead : Nat) (links : List (Nat × Bool × Bool)) (hostErr : Bool) :
    (s.srDoorbell r tail cqHead links hostErr).queue = s.queue := by
  simp [State.srDoorbell]

@[simp] theorem State.srPush_queue (s : State) (r count : Nat) : (s.srPush r count).queue = s.queue := by simp [State.srPush]

@[simp] theorem State.descriptorFetch_queue (s : State) (r : Nat) (bytes : List Byte) (auth : Option (List Byte)) (hostErr : Bool) :
    (s.descriptorFetch r bytes auth hostErr).queue = s.queue := by
  unfold State.descriptorFetch
  split
  · rfl
  · extract_lets g got b d s1 s2 s3
    have h3 : s3.queue = s.queue := by simp [s3, s2, s1]
    (repeat' split) <;> simp [h3]

@[simp] theorem State.ringEnable_queue (s : State) (r : Nat) (w : Word32) : (s.ringEnable r w).queue = s.queue := by simp [State.ringEnable]
@[simp] theorem State.ringDisable_queue (s : State) (r : Nat) (w : Word32) : (s.ringDisable r w).queue = s.queue := by simp [State.ringDisable]
@[simp] theorem State.ringDrainTimeout_queue (s : State) (r : Nat) : (s.ringDrainTimeout r).queue = s.queue := by simp [State.ringDrainTimeout]

@[simp] theorem State.sampleExport_queue (s : State) (r tag : Nat) (caps : List (List Byte)) (ok : Bool) :
    (s.sampleExport r tag caps ok).queue = s.queue := by
  simp [State.sampleExport]

@[simp] theorem State.pinEach_queue (s : State) (is : List IndexEntry) : (s.pinEach is).1.queue = s.queue := by
  induction is generalizing s with
  | nil => rfl
  | cons i is ih =>
    unfold State.pinEach
    split
    · simp [ih, State.pin_queue ‹_›]
    · simp [ih]

@[simp] theorem State.trackDump_queue (s : State) (r tag : Nat) (caps : List (List Byte)) (ok : Bool) :
    (s.trackDump r tag caps ok).queue = s.queue := by
  unfold State.trackDump
  split <;> simp

@[simp] theorem State.calibrationRun_queue (s : State) (r tag : Nat) : (s.calibrationRun r tag).queue = s.queue := by simp [State.calibrationRun]

@[simp] theorem State.gaugeAction_queue (s : State) (r tag a : Nat) (f : State → RingDesc → Nat → Nat → State)
    (hf : ∀ t x y z, (f t x y z).queue = t.queue) :
    (s.gaugeAction r tag a f).queue = s.queue := by
  unfold State.gaugeAction
  split <;> simp [hf]

@[simp] theorem State.gaugeSet_queue (s : State) (d : RingDesc) (g k : Nat) : (s.gaugeSet d g k).queue = s.queue := by simp [State.gaugeSet]

@[simp] theorem State.gaugeExport_queue (s : State) (r tag a : Nat) (ok : Bool) (rearm : Bool) :
    (s.gaugeExport r tag a ok rearm).queue = s.queue := by
  unfold State.gaugeExport
  split <;> simp

@[simp] theorem State.sillageExport_queue (s : State) (r tag : Nat) (ok : Bool) : (s.sillageExport r tag ok).queue = s.queue := by
  simp [State.sillageExport]

@[simp] theorem State.sillageClear_queue (s : State) (r tag : Nat) : (s.sillageClear r tag).queue = s.queue := by simp [State.sillageClear]

@[simp] theorem State.bltMode_queue (s : State) (r tag e : Nat) : (s.bltMode r tag e).queue = s.queue := by
  unfold State.bltMode
  split <;> simp

/-! ### The operations of Machine/Security -/

@[simp] theorem State.secReceive_queue (s : State) (m : Cmd) : (s.secReceive m).queue = s.queue := by simp [State.secReceive]
@[simp] theorem State.opDone_queue (s : State) (m : Cmd) (op r : Nat) : (s.opDone m op r).queue = s.queue := by simp [State.opDone]

@[simp] theorem State.signedOp_queue (s : State) (c cid : Nat) (mine : Nat → Bool) (sent : List Byte) (usage : Nat) (maker : List Byte → Bool)
    (f : State → Cmd → List Byte → List Byte → State) (hf : ∀ t x y z, (f t x y z).queue = t.queue) :
    (s.signedOp c cid mine sent usage maker f).queue = s.queue := by
  unfold State.signedOp
  rw [State.adminStart_queue]
  intro t x
  dsimp only
  (repeat' split) <;> simp [hf]

@[simp] theorem State.raiseFloor_queue (s : State) (m : Cmd) (b : List Byte) (ok : Bool) : (s.raiseFloor m b ok).queue = s.queue := by
  simp [State.raiseFloor]

@[simp] theorem State.putSpdm_queue (s : State) (ch : Nat) (x : SpdmSt) : (s.putSpdm ch x).queue = s.queue := by simp [State.putSpdm]
@[simp] theorem State.spdmReply_queue (s : State) (ch : Nat) (b : List Byte) : (s.spdmReply ch b).queue = s.queue := by simp [State.spdmReply]

@[simp] theorem State.spdmTake_queue (s : State) (ch cid : Nat) (f : State → State) (hf : ∀ t, (f t).queue = t.queue) :
    (s.spdmTake ch cid f).queue = s.queue := by
  simp [State.spdmTake, hf]

@[simp] theorem State.spdmAsk_queue (s : State) (ch cid code : Nat) (req : List Byte) (f : State → SpdmSt → State)
    (hf : ∀ t x, (f t x).queue = t.queue) :
    (s.spdmAsk ch cid code req f).queue = s.queue := by
  simp [State.spdmAsk, hf]

@[simp] theorem State.spdmVersion_queue (s : State) (ch cid : Nat) (req : List Byte) : (s.spdmVersion ch cid req).queue = s.queue := by
  simp [State.spdmVersion]

@[simp] theorem State.spdmCaps_queue (s : State) (ch : Nat) (req : List Byte) (x : SpdmSt) : (s.spdmCaps ch req x).queue = s.queue := by
  simp [State.spdmCaps]

@[simp] theorem State.spdmAlgs_queue (s : State) (ch : Nat) (req : List Byte) (x : SpdmSt) : (s.spdmAlgs ch req x).queue = s.queue := by
  simp [State.spdmAlgs]

@[simp] theorem State.spdmOpen_queue (s : State) (ch : Nat) (x : SpdmSt) (bad : Bool) (f : State → State) (hf : ∀ t, (f t).queue = t.queue) :
    (s.spdmOpen ch x bad f).queue = s.queue := by
  simp [State.spdmOpen, hf]

@[simp] theorem State.spdmDigests_queue (s : State) (ch : Nat) (req : List Byte) (x : SpdmSt) : (s.spdmDigests ch req x).queue = s.queue := by
  simp [State.spdmDigests]

@[simp] theorem State.spdmCertificate_queue (s : State) (ch : Nat) (req : List Byte) (x : SpdmSt) : (s.spdmCertificate ch req x).queue = s.queue := by
  simp [State.spdmCertificate]

@[simp] theorem State.spdmNonce_queue (s : State) : s.spdmNonce.2.queue = s.queue := by simp [State.spdmNonce]

@[simp] theorem State.spdmSign_queue (s : State) (ch : Nat) (context : String) (transcript rsp : List Byte) (done : State → State)
    (hdone : ∀ t, (done t).queue = t.queue) :
    (s.spdmSign ch context transcript rsp done).queue = s.queue := by
  simp [State.spdmSign, hdone]

@[simp] theorem State.spdmChallenge_queue (s : State) (ch : Nat) (req : List Byte) (x : SpdmSt) : (s.spdmChallenge ch req x).queue = s.queue := by
  simp [State.spdmChallenge]

@[simp] theorem State.spdmMeas_queue (s : State) (ch : Nat) (req : List Byte) (x : SpdmSt) : (s.spdmMeas ch req x).queue = s.queue := by
  simp [State.spdmMeas]

@[simp] theorem State.mctpReply_queue (s : State) (p inst cmd cc : Nat) (d : List Byte) : (s.mctpReply p inst cmd cc d).queue = s.queue := by
  simp [State.mctpReply]

@[simp] theorem State.mctpSet_queue (s : State) (p inst op eid : Nat) : (s.mctpSet p inst op eid).queue = s.queue := by simp [State.mctpSet]
@[simp] theorem State.mctpVersion_queue (s : State) (p inst type : Nat) : (s.mctpVersion p inst type).queue = s.queue := by simp [State.mctpVersion]

/-! ### The operations of Machine/ServoRows -/

@[simp] theorem State.actFault_queue (s : State) (a : Act) (cause : Nat) : (s.actFault a cause).queue = s.queue := by simp [State.actFault]
@[simp] theorem State.vcmFault_queue (s : State) (a : Act) : (s.vcmFault a).queue = s.queue := by simp [State.vcmFault]
@[simp] theorem State.maFault_queue (s : State) (a : Act) : (s.maFault a).queue = s.queue := by simp [State.maFault]

@[simp] theorem State.servoMiss_queue (s : State) (a : Act) (coarse : Bool) : (s.servoMiss a coarse).queue = s.queue := by
  unfold State.servoMiss
  dsimp only
  (repeat' split) <;> simp

@[simp] theorem State.loadAsked_queue (s : State) (a : Act) : (s.loadAsked a).queue = s.queue := by simp [State.loadAsked]
@[simp] theorem State.loadOut_queue (s : State) (a : Act) : (s.loadOut a).queue = s.queue := by simp [State.loadOut]
@[simp] theorem State.nowParked_queue (s : State) (a : Act) : (s.nowParked a).queue = s.queue := by simp [State.nowParked]

@[simp] theorem State.unloadEnd_queue (s : State) (a : Act) (stillValid : Bool) : (s.unloadEnd a stillValid).queue = s.queue := by
  simp [State.unloadEnd]

@[simp] theorem State.retRelease_queue (s : State) (a : Act) : (s.retRelease a).queue = s.queue := by simp [State.retRelease]
@[simp] theorem State.dropRuns_queue (s : State) (a : Act) (h : Nat) : (s.dropRuns a h).queue = s.queue := by simp [State.dropRuns]
@[simp] theorem State.departAct_queue (s : State) (a : Act) (k cause : Nat) : (s.departAct a k cause).queue = s.queue := by simp [State.departAct]
@[simp] theorem State.regroup_queue (s : State) (a : Act) : (s.regroup a).queue = s.queue := by simp [State.regroup]
@[simp] theorem State.failHead_queue (s : State) (a : Act) (h cause : Nat) : (s.failHead a h cause).queue = s.queue := by simp [State.failHead]
@[simp] theorem State.folFault_queue (s : State) (a : Act) (k : Nat) (e : Int) : (s.folFault a k e).queue = s.queue := by simp [State.folFault]

@[simp] theorem State.measureOffset_queue (s : State) (a : Act) (ps : List (WedgePlace × Demod)) (k : Nat) :
    (s.measureOffset a ps k).queue = s.queue := by
  unfold State.measureOffset
  split <;> simp

@[simp] theorem State.acquired_queue (s : State) (a : Act) (ps : List (WedgePlace × Demod)) : (s.acquired a ps).queue = s.queue := by
  simp [State.acquired]

@[simp] theorem State.seekNow_queue (s : State) (a : Act) (g track : Nat) : (s.seekNow a g track).queue = s.queue := by simp [State.seekNow]
@[simp] theorem State.seekAsked_queue (s : State) (a : Act) (g track : Nat) : (s.seekAsked a g track).queue = s.queue := by simp [State.seekAsked]

@[simp] theorem State.leadOver_queue (s : State) (a : Act) : (s.leadOver a).queue = s.queue := by
  unfold State.leadOver
  split <;> simp

@[simp] theorem State.recoveryOut_queue (s : State) (a : Act) : (s.recoveryOut a).queue = s.queue := by simp [State.recoveryOut]
@[simp] theorem State.framesOut_queue (s : State) (a : Act) : (s.framesOut a).queue = s.queue := by simp [State.framesOut]

@[simp] theorem State.applyTick_queue (s : State) (a : Act) : (s.applyTick a).queue = s.queue := by
  unfold State.applyTick
  dsimp only
  (repeat' split) <;> simp

@[simp] theorem State.isnCheck_queue (s : State) (a : Act) (cmd isn : Int) : (s.isnCheck a cmd isn).1.queue = s.queue := by simp [State.isnCheck]

@[simp] theorem State.echoCheck_queue (s : State) (a : Act) (hs : List Nat) : (s.echoCheck a hs).1.queue = s.queue := by
  unfold State.echoCheck
  split <;> simp

@[simp] theorem State.wedgeErr_queue (s : State) (a : Act) (k : Nat) (x : Demod) : (s.wedgeErr a k x).1.queue = s.queue := by
  unfold State.wedgeErr
  split <;> simp

@[simp] theorem State.placeSample_queue (s : State) (a : Act) (k : Nat) (w : WedgePlace) (x : Demod) (e : Int) :
    (s.placeSample a k w x e).queue = s.queue := by
  unfold State.placeSample
  extract_lets n p h lim up s1 s2 writing s3 s4
  have h2 : s2.queue = s.queue := by simp [s2, s1]
  have h3 : s3.queue = s.queue := by
    simp only [s3]
    (repeat' split) <;> simp [h2]
  have h4 : s4.queue = s3.queue := by simp [s4]
  simp [h4, h3]

@[simp] theorem State.noteWedge_queue (s : State) (a : Act) (w : Nat) : (s.noteWedge a w).queue = s.queue := by simp [State.noteWedge]
@[simp] theorem State.noteSlack_queue (s : State) (a : Act) (c f : Nat) : (s.noteSlack a c f).queue = s.queue := by simp [State.noteSlack]
@[simp] theorem State.learn_queue (s : State) (a : Act) (k w : Nat) (e : Int) : (s.learn a k w e).queue = s.queue := by simp [State.learn]
@[simp] theorem State.fineLoop_queue (s : State) (a : Act) (k w : Nat) (e : Int) : (s.fineLoop a k w e).queue = s.queue := by simp [State.fineLoop]

@[simp] theorem State.coarseLoop_queue (s : State) (a : Act) (x : Demod) (pes shk : Int) : (s.coarseLoop a x pes shk).queue = s.queue := by
  simp [State.coarseLoop]

@[simp] theorem State.placeFaults_queue (s : State) (a : Act) (errs : List (Nat × Int)) : (s.placeFaults a errs).queue = s.queue := by
  simp [State.placeFaults]

@[simp] theorem State.wedgeMoves_queue (s : State) (a : Act) (ps : List (WedgePlace × Demod)) : (s.wedgeMoves a ps).queue = s.queue := by
  unfold State.wedgeMoves
  split <;> simp

@[simp] theorem State.wedge_queue (s : State) (a : Act) (x : WedgeIn) : (s.wedge a x).queue = s.queue := by
  unfold State.wedge
  dsimp only
  (repeat' split) <;> simp

/-! ### The operations of Machine/Sillage -/

@[simp] theorem State.stampTick_queue (s : State) : s.stampTick.queue = s.queue := by simp [State.stampTick]
@[simp] theorem State.gaugeOver_queue (s : State) (g : Nat) : (s.gaugeOver g).queue = s.queue := by simp [State.gaugeOver]

/-! ### The operations of Machine/Thermal -/

@[simp] theorem State.modSensor_queue (s : State) (n : Nat) (f : Sensor → Sensor) : (s.modSensor n f).queue = s.queue := by simp [State.modSensor]

@[simp] theorem State.tjSync_queue (s : State) : s.tjSync.queue = s.queue := by
  unfold State.tjSync
  split <;> simp

@[simp] theorem State.thTrack_queue (s : State) (entry : Bool) : (s.thTrack entry).queue = s.queue := by simp [State.thTrack]
@[simp] theorem State.thEnter_queue (s : State) (st : Nat) : (s.thEnter st).queue = s.queue := by simp [State.thEnter]
@[simp] theorem State.idleEngines_queue (s : State) : s.idleEngines.queue = s.queue := by simp [State.idleEngines]
@[simp] theorem State.thermalTrip_queue (s : State) : s.thermalTrip.queue = s.queue := by simp [State.thermalTrip]
@[simp] theorem State.thCross_queue (s : State) (n : Nat) : (s.thCross n).queue = s.queue := by simp [State.thCross]
@[simp] theorem State.conversion_queue (s : State) (n : Nat) (temp : Int) : (s.conversion n temp).queue = s.queue := by simp [State.conversion]
@[simp] theorem State.exclude_queue (s : State) (n : Nat) : (s.exclude n).queue = s.queue := by simp [State.exclude]

@[simp] theorem State.vmAfresh_queue (s : State) : s.vmAfresh.queue = s.queue := by
  unfold State.vmAfresh
  dsimp only
  (repeat' split) <;> simp

@[simp] theorem State.thRestart_queue (s : State) : s.thRestart.queue = s.queue := by simp [State.thRestart]

@[simp] theorem State.cooled_queue (s : State) : s.cooled.queue = s.queue := by
  unfold State.cooled
  split <;> simp

/-! ### The operations of Machine/EventOrder -/

@[simp] theorem State.hardwareAction_queue (s : State) (c : Instr) : (s.hardwareAction c).queue = s.queue := by
  unfold State.hardwareAction
  split <;> simp

@[simp] theorem State.noteEvent_queue (s : State) (c : Instr) : (s.noteEvent c).queue = s.queue := by
  unfold State.noteEvent
  split <;> simp

/-- An event, which has a rank among the recorded ones, does not join the queue. -/
theorem State.recordEvent_queue (s : State) (c : Instr) (hc : (s.eventRank c).isSome = true) : (s.recordEvent c).queue = s.queue := by
  unfold State.recordEvent
  split
  · rename_i h
    simp [h] at hc
  · split <;> simp

@[simp] theorem State.recordEvent_spindleOvercurrent_queue (s : State) : (s.recordEvent .spindleOvercurrent).queue = s.queue :=
  State.recordEvent_queue s _ rfl

/-! ### The operations of Machine/Spindle -/

@[simp] theorem State.catchRec_queue (s : State) (result : Nat) (back : Bool) (speed : Nat) : (s.catchRec result back speed).queue = s.queue := by
  simp [State.catchRec]

@[simp] theorem State.spAlign_queue (s : State) : s.spAlign.queue = s.queue := by simp [State.spAlign]
@[simp] theorem State.spAccel_queue (s : State) (speed angle : Nat) : (s.spAccel speed angle).queue = s.queue := by simp [State.spAccel]

@[simp] theorem State.observed_queue (s : State) (amp : Nat) (back : Bool) (speed angle : Nat) :
    (s.observed amp back speed angle).queue = s.queue := by
  simp [State.observed]

@[simp] theorem State.brakeStopped_queue (s : State) : s.brakeStopped.queue = s.queue := by simp [State.brakeStopped]
@[simp] theorem State.holdEnd_queue (s : State) : s.holdEnd.queue = s.queue := by simp [State.holdEnd]

@[simp] theorem State.aligned_queue (s : State) (angle respPos respNeg : Nat) : (s.aligned angle respPos respNeg).queue = s.queue := by
  simp [State.aligned]

@[simp] theorem State.alignTimeout_queue (s : State) : s.alignTimeout.queue = s.queue := by simp [State.alignTimeout]
@[simp] theorem State.lockLost_queue (s : State) : s.lockLost.queue = s.queue := by simp [State.lockLost]
@[simp] theorem State.handover_queue (s : State) (rising agree : Bool) : (s.handover rising agree).queue = s.queue := by simp [State.handover]

@[simp] theorem State.currentLoops_queue (s : State) (iu iv : Int) (volts : List Nat) : (s.currentLoops iu iv volts).queue = s.queue := by
  simp [State.currentLoops]

@[simp] theorem State.sampleSet_queue (s : State) (iu iv : Int) (volts : List Nat) (vm : Nat) : (s.sampleSet iu iv volts vm).queue = s.queue := by
  simp [State.sampleSet]

@[simp] theorem State.loopMiss_queue (s : State) : s.loopMiss.queue = s.queue := by
  unfold State.loopMiss
  dsimp only
  (repeat' split) <;> simp

@[simp] theorem State.speedLoopStep_queue (s : State) : s.speedLoopStep.queue = s.queue := by simp [State.speedLoopStep]
@[simp] theorem State.overvoltage44_queue (s : State) : s.overvoltage44.queue = s.queue := by simp [State.overvoltage44]
@[simp] theorem State.slewStep_queue (s : State) (seen : Nat) : (s.slewStep seen).queue = s.queue := by simp [State.slewStep]

@[simp] theorem State.fsync_queue (s : State) : s.fsync.queue = s.queue := by
  unfold State.fsync
  (repeat' split) <;> simp

@[simp] theorem State.spdAin_queue (s : State) (code : Nat) : (s.spdAin code).queue = s.queue := by simp [State.spdAin]

/-! ### The commands -/

theorem next_leaves_queue {s t : State} (h : t.queue = s.queue) :
    ∃ u, (Host.Outcome.next t : Host.Outcome State Fault Refusal) = .next u ∧ u.pending = s.pending := ⟨t, rfl, h⟩

/-- Settles O3. Every arm of `exec` is a next state made by operations that leave the queue; the arms named here branch on an operand. -/
theorem everyCommandAnswers : Obligations.every_command_answers := by
  intro c s
  cases c
  case islandFifoPop h m data =>
    refine next_leaves_queue ?_
    cases data <;> simp
  case selfTestShort ctrl cid seg =>
    refine next_leaves_queue ?_
    cases seg <;> simp
  case selfTestExtended ctrl cid seg =>
    refine next_leaves_queue ?_
    cases seg <;> simp
  case setReservationNotifyMask ctrl cid =>
    refine next_leaves_queue ?_
    rw [State.whileLive_queue, State.featStart_queue]
    · simp
    · intro t m
      simp
  all_goals exact next_leaves_queue (by simp)

end Sys2Proof.Machine
end


section
/-! SUPPORT. The registers of a domain that is not Serving (O9, R36): a write is barred, and a read of a whole register returns its
current view as in any domain. -/

namespace Sys2Proof.Machine

theorem State.writeBarred_of_not_serving {s : State} {addr : Nat} {d : Dom} (hd : s.regDom addr = some d) (hs : s.isServing d = false) :
    s.writeBarred addr = true := by
  simp [State.writeBarred, hd, hs]

/-- The write is discarded (R36). -/
theorem State.writeWord_barred {s : State} {addr : Nat} (hb : s.writeBarred addr = true) (w : Word32) : s.writeWord addr w = s :=
  if_pos hb

/-- A read of a whole register returns its current view; no domain bars it. -/
theorem State.regRead_word_readOut (s : State) {addr : Nat} (ha : addr % 4 = 0) : (s.regRead addr 4).readOut = leBytes 4 (s.readWord addr).toNat := by
  rw [State.regRead_word s ha]

/-- Settles O9: the write is the whole-register write, which is barred; the read is the same in every domain. -/
theorem registersOfADomainInService : Obligations.registers_of_a_domain_in_service := by
  unfold Obligations.registers_of_a_domain_in_service
  constructor
  · intro s addr data d hlive hdom hserv ha hlen
    have hbarred : s.writeBarred addr = true := State.writeBarred_of_not_serving hdom hserv
    rw [execRegisterWrite_live hlive, State.regWrite_word s data ha hlen, State.writeWord_barred hbarred]
  · intro s addr _ hlive _ _ ha
    exact ⟨_, execRegisterReadClear_live hlive addr 4, State.regRead_word_readOut s ha⟩

end Sys2Proof.Machine
end


section
/-! SUPPORT. What one step takes (O1), and an event recorded while a frame is written (O2). -/
namespace Sys2Proof.Machine

/-! ### What a step takes (R67) -/

theorem step_of_pending (c : Instr) (rest : List Instr) (s : State) :
    step { s with pending := c :: rest } = exec c { s with pending := rest } := rfl

theorem step_of_recorded {s : State} {e : Recorded} {rest : List Recorded} (hp : s.pending = []) (hr : s.recorded = e :: rest) :
    step s = exec e.cmd ({ s with recorded := rest }.noteEvent e.cmd) := by
  simp only [step, hp, hr]

theorem step_of_idle {s : State} (hp : s.pending = []) (hr : s.recorded = []) : step s = .next s.passTick := by
  simp only [step, hp, hr]

theorem State.passTick_of_high {s : State} (h : s.power.porst = true) :
    s.passTick = { s with tick := s.tick + 1, tickMem := ⟨s.regs, [], [], []⟩ } :=
  if_pos h

theorem State.passTick_of_low {s : State} (h : s.power.porst = false) : s.passTick = s := if_neg (Bool.eq_false_iff.mp h)

/-- Settles O1: a step takes the front command, else the first recorded event, else an ordering tick. -/
theorem stepRunsTheFrontCommand : Obligations.step_runs_the_front_command := by
  refine ⟨step_of_pending, fun s e rest => step_of_recorded, fun s hp hr h => ?_, fun s hp hr h => ?_⟩
  · rw [step_of_idle hp hr, State.passTick_of_high h]
  · rw [step_of_idle hp hr, State.passTick_of_low h]

/-! ### An event recorded while a frame is written (R69, R100)

A hardware action that closes a gate abandons the frame being written, and counts it in AS_WSCNT.ABANDON and, for a read in the same tick
(R17), in `tickMem`. -/

/-- A running device whose actuator A follows and writes a frame through its slot 0, the gate open. -/
def writingA0 : State :=
  let powered : State := { State.reset with power := { State.reset.power with porst := true, phase := .done } }
  let gated := (((powered.setFld (SV_STAT.STATE 0) svFollowing).setFld (asState .A 0) asOn).setFld (wsState .A 0) wsWriting).setGate .A 0 true
  gated.modSlot 0 (fun x => { x with cur := some ⟨100, 0, 0, 0, 0, 0, []⟩ })

/-- The state that the last part of O2's first clause says the recording comes to: the hardware action taken where `tickMem` is already
that after the recording. -/
def State.actionRetaken (s : State) (c : Instr) : State :=
  { s with tickMem := (s.recordEvent c).tickMem, recorded := (s.recordEvent c).recorded }.hardwareAction c

theorem writingA0_shock_counts_once : (writingA0.recordEvent (.shock .A)).fldGain (wsAbandon .A 0) = 1 := by decide +kernel

theorem writingA0_retaken_counts_twice : (writingA0.actionRetaken (.shock .A)).fldGain (wsAbandon .A 0) = 2 := by decide +kernel

/-- Refutes O2: its first clause takes the hardware action from the `tickMem` that the action has already left. What the action counts in
`tickMem` comes once in the state recorded and twice in the other: a shock of actuator A, while A writes, abandons one frame. -/
theorem not_eventsWaitInOneOrder : ¬ Obligations.events_wait_in_one_order := by
  rintro ⟨hwaits, -, -⟩
  obtain ⟨-, -, -, haction⟩ := hwaits writingA0 (.shock .A) ⟨2, 1, 0, 0⟩ rfl rfl .nil
  have hcount : (writingA0.recordEvent (.shock .A)).fldGain (wsAbandon .A 0) = (writingA0.actionRetaken (.shock .A)).fldGain (wsAbandon .A 0) :=
    congrArg (fun t => t.fldGain (wsAbandon .A 0)) haction
  rw [writingA0_shock_counts_once, writingA0_retaken_counts_twice] at hcount
  exact absurd hcount (by decide)

end Sys2Proof.Machine
end


section
/-! SUPPORT. The counters, the reference and the helper rate (O10): a read of a register without RC fields, what a read of a counter's LO
half latches (R76), and what the loss of the reference, its return and a measurement leave unchanged (R59, R60, R73). -/
namespace Sys2Proof.Machine

/-! ### Bytes of a counter -/

/-- `n` bytes show a number modulo 256^n. -/
theorem leBytes_mod (n v : Nat) : leBytes n (v % 256 ^ n) = leBytes n v := by
  induction n generalizing v with
  | zero => rfl
  | succ n ih =>
    have hlow : v % 256 ^ (n + 1) % 256 = v % 256 := Nat.mod_mod_of_dvd v ⟨256 ^ n, Nat.pow_succ'⟩
    have hbyte : BitVec.ofNat 8 (v % 256 ^ (n + 1)) = BitVec.ofNat 8 v := BitVec.eq_of_toNat_eq hlow
    have hhigh : v % 256 ^ (n + 1) / 256 = v / 256 % 256 ^ n := by rw [Nat.pow_succ', Nat.mod_mul_right_div_self]
    rw [leBytes, leBytes, hbyte, hhigh, ih]

theorem leBytes_word (v : Nat) : leBytes 4 (BitVec.ofNat 32 v).toNat = leBytes 4 v := leBytes_mod 4 v

/-- A longer number's bytes are those of its low part, then those of its high part. -/
theorem leBytes_add (m n v : Nat) : leBytes (m + n) v = leBytes m v ++ leBytes n (v / 256 ^ m) := by
  induction m generalizing v with
  | zero => simp [leBytes]
  | succ m ih => rw [Nat.succ_add, leBytes, leBytes, ih, List.cons_append, Nat.div_div_eq_div_mul, Nat.pow_succ']

/-! ### Reads of registers without RC fields -/

theorem State.readClears_without_rc (s : State) {addr : Nat} {r : RegRow} (hr : regRow? addr = some r)
    (hrc : r.fields.filter (fun f => f.acc == .rc) = []) : s.readClears addr = s := by
  rewrite [State.readClears_row s hr, hrc]
  rfl

theorem State.readWord_without_rc (s : State) {addr : Nat} {r : RegRow} (hr : regRow? addr = some r)
    (hrc : r.fields.filter (fun f => f.acc == .rc) = []) : s.readWord addr = s.regView addr := by
  simp only [State.readWord, hr, hrc, List.foldl_nil]

/-- The counters' LO halves have registers, and no field of theirs clears on a read. -/
theorem loAddr_row (c : Counter64) : ∃ r, regRow? (loAddr c) = some r ∧ r.fields.filter (fun f => f.acc == .rc) = [] := by
  cases c <;> exact ⟨_, rfl, rfl⟩

/-- The HI half of a counter. -/
def hiFld : Counter64 → Fld
  | .tb => TB_CNT_HI.COUNT
  | .mpJseq => MP_JSEQ_HI.SEQ
  | .plToff => PL_TOFF_HI.OFFSET

/-- A counter's value. -/
def State.counter (s : State) : Counter64 → Nat
  | .tb => s.tick
  | .mpJseq => s.map.jseq
  | .plToff => toTwos 64 s.pool.toff

/-- A read of a LO half latches the HI half of the same value (R76). -/
theorem State.latchHi_loAddr (s : State) (c : Counter64) : s.latchHi (loAddr c) = s.setFld (hiFld c) (s.counter c / 2 ^ 32) := by
  cases c <;> rfl

/-- A read of a counter's LO half: what it shows is returned, the HI half latched, nothing else changed. -/
theorem State.regRead_loAddr (s : State) (c : Counter64) :
    s.regRead (loAddr c) 4 = { s.setFld (hiFld c) (s.counter c / 2 ^ 32) with readOut := leBytes 4 (s.regView (loAddr c)).toNat } := by
  obtain ⟨r, hr, hrc⟩ := loAddr_row c
  rw [State.regRead_word s (aligned_of_regRow? hr), State.readClears_without_rc _ hr hrc, State.latchHi_loAddr, State.readWord_without_rc s hr hrc]
  cases c <;> rfl

theorem hiFld_width (c : Counter64) : (hiFld c).ok = true ∧ (hiFld c).hi - (hiFld c).lo + 1 = 32 := by
  cases c <;> exact ⟨rfl, rfl⟩

/-- COUNTER_LO_READ of a running device (R76). -/
theorem execCounterLoRead_spec {s : State} (hlive : s.live = true) (c : Counter64) :
    ∃ t, exec (.counterLoRead c) s = .next t ∧ t.readOut = leBytes 4 (s.regView (loAddr c)).toNat ∧ t.fld (hiFld c) = s.counter c / 2 ^ 32 % 2 ^ 32 ∧
      OnlyParts [.regs, .tickMem, .readOut] s t ∧ OnlyRegs [(hiFld c).addr] s t := by
  obtain ⟨hok, hwidth⟩ := hiFld_width c
  refine ⟨s.regRead (loAddr c) 4, congrArg Host.Outcome.next (if_pos hlive), ?_⟩
  rw [State.regRead_loAddr]
  refine ⟨rfl, ?_, ?_, ?_⟩
  · have hlatched := State.fld_setFld_same s (hiFld c) (s.counter c / 2 ^ 32) hok
    rw [hwidth] at hlatched
    exact hlatched
  · exact (OnlyParts.setFld (by simp) s _ _).trans (OnlyParts.readOut (by simp) _ _)
  · exact OnlyRegs.setFld s _ _ (by simp)

theorem State.regView_tbLo (s : State) : s.regView TB_CNT_LO.REG.addr = BitVec.ofNat 32 s.tick := rfl
theorem State.regView_tbHi (s : State) : s.regView TB_CNT_HI.REG.addr = s.reg TB_CNT_HI.REG.addr := rfl
theorem State.regView_jseqLo (s : State) : s.regView MP_JSEQ_LO.REG.addr = s.reg MP_JSEQ_LO.REG.addr := rfl
theorem State.regView_toffLo (s : State) : s.regView PL_TOFF_LO.REG.addr = BitVec.ofNat 32 (toTwos 64 s.pool.toff) := rfl

theorem toTwos_lt (w : Nat) (v : Int) : toTwos w v < 2 ^ w := by
  have hpos : (0 : Int) < (2 ^ w : Nat) := by exact_mod_cast Nat.two_pow_pos w
  have := Int.emod_lt_of_pos v hpos
  unfold toTwos
  omega

/-- One register of a longer read: its bytes follow those read before, and a LO half latches its HI half. -/
theorem State.readOne_without_rc (s : State) {addr : Nat} {r : RegRow} (hr : regRow? addr = some r)
    (hrc : r.fields.filter (fun f => f.acc == .rc) = []) :
    s.readOne addr = { s.latchHi addr with readOut := s.readOut ++ leBytes 4 (s.regView addr).toNat } := by
  rw [State.readOne, State.readClears_without_rc _ hr hrc, State.readWord_without_rc s hr hrc]

theorem State.reg_toNat (s : State) (a : Nat) : (s.reg a).toNat = s.fld ⟨a, 31, 0⟩ := by
  have hlt : (s.reg a).toNat < 2 ^ (31 - 0 + 1) := (s.reg a).isLt
  simp only [State.fld, Fld.ofWord, Nat.pow_zero, Nat.div_one, Nat.mod_eq_of_lt hlt]

theorem State.readOne_tbLo (s : State) : s.readOne TB_CNT_LO.REG.addr =
    { s.setFld TB_CNT_HI.COUNT (s.tick / 2 ^ 32) with readOut := s.readOut ++ leBytes 4 s.tick } := by
  rewrite [State.readOne_without_rc s rfl rfl, State.regView_tbLo, leBytes_word]
  rfl

theorem State.readOne_tbHi (s : State) : (s.readOne TB_CNT_HI.REG.addr).readOut = s.readOut ++ leBytes 4 (s.fld TB_CNT_HI.COUNT) := by
  rewrite [State.readOne_without_rc s rfl rfl, State.regView_tbHi, State.reg_toNat]
  rfl

/-- An 8-byte read at TB_CNT_LO returns one value of the tick counter: the HI half read is the one that the LO half latched (R76). -/
theorem State.regRead_tick (s : State) : (s.regRead TB_CNT_LO.REG.addr 8).readOut = leBytes 8 s.tick := by
  have hhalf : (s.setFld TB_CNT_HI.COUNT (s.tick / 2 ^ 32)).fld TB_CNT_HI.COUNT = s.tick / 2 ^ 32 % 256 ^ 4 :=
    State.fld_setFld_same s TB_CNT_HI.COUNT _ rfl
  have hboth : ((({ s with readOut := [] } : State).readOne TB_CNT_LO.REG.addr).readOne TB_CNT_HI.REG.addr).readOut = leBytes 8 s.tick :=
    calc _ = leBytes 4 s.tick ++ leBytes 4 ((s.setFld TB_CNT_HI.COUNT (s.tick / 2 ^ 32)).fld TB_CNT_HI.COUNT) := by
          rewrite [State.readOne_tbHi, State.readOne_tbLo]
          rfl
      _ = leBytes 8 s.tick := by
          rewrite [hhalf, leBytes_mod, leBytes_add 4 4]
          rfl
  calc (s.regRead TB_CNT_LO.REG.addr 8).readOut = slice (leBytes 8 s.tick) 0 8 := congrArg (slice · 0 8) hboth
    _ = leBytes 8 s.tick := slice_whole _

/-! ### Frames of a bit set and of a sample taken -/

theorem OnlyParts.tickMem {ps : List Part} (hps : Part.tickMem ∈ ps) (s : State) (m : TickMem) : OnlyParts ps s { s with tickMem := m } := by
  refine ⟨rfl, fun p hp => ?_⟩
  cases p with
  | tickMem => exact absurd hps hp
  | _ => rfl

theorem OnlyParts.setBit {ps : List Part} (hregs : Part.regs ∈ ps) (hmem : Part.tickMem ∈ ps) (s : State) (f : Fld) :
    OnlyParts ps s (s.setBit f) :=
  (OnlyParts.setFld hregs s f 1).trans (OnlyParts.tickMem hmem _ _)

theorem OnlyRegs.setBit {as : List Nat} (s : State) (f : Fld) (h : f.addr ∈ as) : OnlyRegs as s (s.setBit f) := OnlyRegs.setFld s f 1 h

theorem OnlyParts.keepBest {ps : List Part} (hregs : Part.regs ∈ ps) (hmem : Part.tickMem ∈ ps) (s : State) (f : Fld)
    (best : Nat → Nat → Nat) (v : Nat) : OnlyParts ps s (s.keepBest f best v) :=
  (OnlyParts.setFld hregs s f _).trans (OnlyParts.tickMem hmem _ _)

theorem OnlyRegs.keepBest {as : List Nat} (s : State) (f : Fld) (best : Nat → Nat → Nat) (v : Nat) (h : f.addr ∈ as) :
    OnlyRegs as s (s.keepBest f best v) :=
  OnlyRegs.setFld s f _ h

theorem State.bit_setFld_other (s : State) (f g : Fld) (v : Nat) (hg : g.ok = true) (hf : f.ok = true) (h : f.apart g = true) :
    (s.setFld f v).bit g = s.bit g :=
  congrArg (· != 0) (State.fld_setFld_other s f g v hg hf h)

/-- A bit set to 1 is 1. -/
theorem State.bit_setBit_same (s : State) (f : Fld) (h : f.ok = true) : (s.setBit f).bit f = true := by
  have hone : 1 % 2 ^ (f.hi - f.lo + 1) ≠ 0 := by
    rw [Nat.mod_eq_of_lt (Nat.one_lt_two_pow (Nat.succ_ne_zero _))]
    exact Nat.one_ne_zero
  have hfld : (s.setBit f).fld f = 1 % 2 ^ (f.hi - f.lo + 1) := State.fld_setFld_same s f 1 h
  simp only [State.bit, hfld, bne_iff_ne]
  exact hone

theorem State.bit_clrBit_same (s : State) (f : Fld) (h : f.ok = true) : (s.clrBit f).bit f = false := by
  have hfld : (s.clrBit f).fld f = 0 := (State.fld_setFld_same s f 0 h).trans (Nat.zero_mod _)
  simp only [State.bit, hfld, bne_self_eq_false]

/-! ### The reference (R59, R60) -/

theorem State.awake_of_live {s : State} (h : s.live = true) : s.awake = true := (Bool.and_eq_true_iff.mp h).1

/-- TB_STAT shows the loss of the reference (R59). -/
def State.noteRefLoss (s : State) : State := (s.setBit TB_STAT.REFSRC).setBit TB_STAT.REFLOSS

theorem State.noteRefLoss_bits (s : State) : s.noteRefLoss.bit TB_STAT.REFSRC = true ∧ s.noteRefLoss.bit TB_STAT.REFLOSS = true :=
  ⟨(State.bit_setFld_other (s.setBit TB_STAT.REFSRC) _ _ _ rfl rfl rfl).trans (State.bit_setBit_same s _ rfl), State.bit_setBit_same _ _ rfl⟩

theorem State.noteRefLoss_frame (s : State) : OnlyParts [.regs, .tickMem] s s.noteRefLoss ∧ OnlyRegs [TB_STAT.REG.addr] s s.noteRefLoss :=
  ⟨(OnlyParts.setBit (by simp) (by simp) s _).trans (OnlyParts.setBit (by simp) (by simp) _ _),
    (OnlyRegs.setBit s _ (by decide)).trans (OnlyRegs.setBit _ _ (by decide))⟩

theorem State.noteRefBack_frame (s : State) :
    OnlyParts [.regs] s (s.clrBit TB_STAT.REFSRC) ∧ OnlyRegs [TB_STAT.REG.addr] s (s.clrBit TB_STAT.REFSRC) :=
  ⟨OnlyParts.setFld (by simp) s _ 0, OnlyRegs.setFld s _ 0 (by decide)⟩

/-- The loss of the reference of a device that is awake; gates, actuators and record only where it runs. -/
theorem execReferenceLoss_awake {s : State} (ha : s.awake = true) (hb : s.bit TB_STAT.REFSRC = false) :
    exec .referenceLoss s =
      .next (if s.live then s.noteRefLoss.closeAllGates.parkHold.record 0x0101 (zeros 4) else s.noteRefLoss) :=
  congrArg Host.Outcome.next (if_neg (by simp [ha, hb]))

/-- The return of the reference to a device that is awake; record and restores only where it runs. -/
theorem execReferenceRestored_awake {s : State} (ha : s.awake = true) (hb : s.bit TB_STAT.REFSRC = true) :
    exec .referenceRestored s =
      .next (if s.live then ((s.clrBit TB_STAT.REFSRC).record 0x0101 (leBytes 1 1 ++ zeros 3)).restoreBoth else s.clrBit TB_STAT.REFSRC) :=
  congrArg Host.Outcome.next (if_neg (by simp [ha, hb]))

/-- A second loss, or one that a device in reset would see, has no effect. -/
theorem execReferenceLoss_idle {s : State} (h : s.awake = false ∨ s.bit TB_STAT.REFSRC = true) : exec .referenceLoss s = .next s :=
  congrArg Host.Outcome.next (if_pos (by rcases h with h | h <;> simp [h]))

theorem execReferenceRestored_idle {s : State} (h : s.awake = false ∨ s.bit TB_STAT.REFSRC = false) : exec .referenceRestored s = .next s :=
  congrArg Host.Outcome.next (if_pos (by rcases h with h | h <;> simp [h]))

/-! ### The helper rate (R73) -/

/-- The least of a field and a sample that fits into it fits into it. -/
theorem leastSeen_lt {old v b : Nat} (hv : v < b) : leastSeen old v < b := by
  unfold leastSeen
  split
  · exact hv
  · exact Nat.lt_of_le_of_lt (Nat.min_le_right _ _) hv

theorem State.fld_keepBest_same (s : State) (f : Fld) (best : Nat → Nat → Nat) (v : Nat) (h : f.ok = true) :
    (s.keepBest f best v).fld f = best (s.fld f) v % 2 ^ (f.hi - f.lo + 1) :=
  State.fld_setFld_same s f _ h

theorem State.fld_keepBest_other (s : State) (f g : Fld) (best : Nat → Nat → Nat) (v : Nat) (hg : g.ok = true) (hf : f.ok = true)
    (h : f.apart g = true) : (s.keepBest f best v).fld g = s.fld g :=
  State.fld_setFld_other s f g _ hg hf h

/-- A measurement shows the rate and keeps the lowest since the last read. -/
theorem State.rateMeasured_flds (s : State) (rate : Nat) :
    (s.rateMeasured rate).fld TB_SPEED.RATE = rate % 2 ^ 16 ∧
    (s.rateMeasured rate).fld TB_SPEED.MINRATE = leastSeen (s.fld TB_SPEED.MINRATE) (rate % 2 ^ 16) := by
  have hrate : (s.setFld TB_SPEED.RATE rate).fld TB_SPEED.RATE = rate % 2 ^ 16 := State.fld_setFld_same s _ rate rfl
  have hmin : (s.setFld TB_SPEED.RATE rate).fld TB_SPEED.MINRATE = s.fld TB_SPEED.MINRATE := State.fld_setFld_other s _ _ rate rfl rfl rfl
  have hfits : leastSeen (s.fld TB_SPEED.MINRATE) (rate % 2 ^ 16) < 2 ^ 16 := leastSeen_lt (Nat.mod_lt rate (Nat.two_pow_pos 16))
  simp only [State.rateMeasured, hrate]
  refine ⟨(State.fld_keepBest_other _ _ _ _ _ rfl rfl rfl).trans hrate, ?_⟩
  rw [State.fld_keepBest_same _ _ _ _ rfl, hmin]
  exact Nat.mod_eq_of_lt hfits

theorem State.rateMeasured_frame (s : State) (rate : Nat) :
    OnlyParts [.regs, .tickMem] s (s.rateMeasured rate) ∧ OnlyRegs [TB_SPEED.REG.addr] s (s.rateMeasured rate) :=
  ⟨(OnlyParts.setFld (by simp) s _ rate).trans (OnlyParts.keepBest (by simp) (by simp) _ _ _ _),
    (OnlyRegs.setFld s _ rate (by decide)).trans (OnlyRegs.keepBest _ _ _ _ (by decide))⟩

/-- Settles O10: a clause for each counter, then the reference and the rate by what their meanings come to. -/
theorem theTimeBase : Obligations.the_time_base := by
  refine ⟨?tick, ?jseq, ?toff, ?tick8, ?loss, ?lossAsleep, fun s => execReferenceLoss_idle, ?back, ?backAsleep,
    fun s => execReferenceRestored_idle, ?rate⟩
  case tick =>
    intro s hlive
    have hspec := execCounterLoRead_spec hlive .tb
    simp only [loAddr, State.regView_tbLo, leBytes_word] at hspec
    exact hspec
  case jseq =>
    intro s hlive
    have hspec := execCounterLoRead_spec hlive .mpJseq
    simp only [loAddr, State.regView_jseqLo] at hspec
    exact hspec
  case toff =>
    intro s hlive
    have hhalf : toTwos 64 s.pool.toff / 2 ^ 32 % 2 ^ 32 = toTwos 64 s.pool.toff / 2 ^ 32 :=
      Nat.mod_eq_of_lt (Nat.div_lt_of_lt_mul (toTwos_lt 64 s.pool.toff))
    have hspec := execCounterLoRead_spec hlive .plToff
    simp only [loAddr, State.regView_toffLo, leBytes_word, State.counter, hhalf] at hspec
    exact hspec
  case tick8 =>
    intro s hlive
    exact ⟨_, execRegisterReadClear_live hlive _ 8, s.regRead_tick⟩
  case loss =>
    intro s hlive hb
    obtain ⟨hsrc, hloss⟩ := s.noteRefLoss_bits
    refine ⟨s.noteRefLoss, ?_, hsrc, hloss, s.noteRefLoss_frame⟩
    rw [execReferenceLoss_awake (State.awake_of_live hlive) hb, if_pos hlive]
  case lossAsleep =>
    intro s ha hlive hb
    obtain ⟨hsrc, hloss⟩ := s.noteRefLoss_bits
    refine ⟨s.noteRefLoss, ?_, hsrc, hloss, s.noteRefLoss_frame⟩
    rewrite [execReferenceLoss_awake ha hb, hlive]
    rfl
  case back =>
    intro s hlive hb
    refine ⟨s.clrBit TB_STAT.REFSRC, ?_, State.bit_clrBit_same s _ rfl, s.noteRefBack_frame⟩
    rw [execReferenceRestored_awake (State.awake_of_live hlive) hb, if_pos hlive]
  case backAsleep =>
    intro s ha hlive hb
    refine ⟨s.clrBit TB_STAT.REFSRC, ?_, State.bit_clrBit_same s _ rfl, s.noteRefBack_frame⟩
    rewrite [execReferenceRestored_awake ha hb, hlive]
    rfl
  case rate =>
    intro s rate hlive
    obtain ⟨hrate, hmin⟩ := s.rateMeasured_flds rate
    exact ⟨s.rateMeasured rate, congrArg Host.Outcome.next (if_pos hlive), hrate, hmin, s.rateMeasured_frame rate⟩

end Sys2Proof.Machine
end


section
/-! SUPPORT. A device that does not run (O12), and two statements on the supply that do not hold as written (O13, O14). -/
namespace Sys2Proof.Machine

/-! ### A device that does not run (R94, R103, R108) -/

/-- What is not live takes no effect that waits for a running device. -/
theorem next_whileLive_of_not_live {s : State} (h : s.live = false) (f : State → State) :
    (Host.Outcome.next (s.whileLive f) : Host.Outcome State Fault Refusal) = .next s :=
  congrArg Host.Outcome.next (if_neg (Bool.eq_false_iff.mp h))

/-- Settles O12: a command is heard in reset, or its meaning is one under `whileLive`. -/
theorem whatIsNotRunningDoesNothing : Obligations.what_is_not_running_does_nothing := by
  intro c s hlive hunheard
  cases c
  case porstLRise | porstLFall | seqRailInRange | seqDwellEnd | seqRailTimeout | seqRetryTimer | powerdownRailFallen | powerdownStepTimeout
      | railMonitorTrip | supplyResetRelease | vserLinkRetrain | vmWarning | vmWarningClear | recoveryWaitExpiry | rideTimerExpiry | vmLoss
      | vmRestored | vmMeasurement | retractRelease | hibernateWake | referenceLoss | referenceRestored | hquery | wake | perstRise
      | controllerReset =>
    exact absurd hunheard (by simp [heardInReset])
  all_goals exact next_whileLive_of_not_live hlive _

/-! ### A VM loss leaves the gates it does not know (R99) -/

/-- A running device whose list of gates names slot 7, which no actuator has, as driven on. -/
def strayGate : State := (powered []).modPins (fun p => { p with gates := [(7, true)] })

theorem strayGate_open_after_loss : (7, true) ∈ strayGate.vmGone.pins.gates := by decide +kernel

/-- Refutes O13: its clause on VM_LOSS asks that every entry of the list of gates is off. The loss closes the gates of the write slots 0 to
3, and no premise keeps the list from naming another. -/
theorem not_vmStates : ¬ Obligations.vm_states := by
  rintro ⟨-, -, -, -, -, -, hloss, -⟩
  obtain ⟨t, hexec, -, -, -, -, -, -, -, -, -, -, -, hgates, -⟩ := hloss strayGate (by decide +kernel)
  have ht : strayGate.vmGone = t := Host.Outcome.next.inj hexec
  exact absurd (hgates (7, true) (ht ▸ strayGate_open_after_loss)) (by decide)

/-! ### Idle abandons calibration runs (R435) -/

/-- An Active device without media work, a calibration run of lane 0 in progress. -/
def calibratingActive : State := (powered [(PW_STAT.STATE, pwActive)]).modCal (fun c => { c with runs := [run1] })

theorem calibratingActive_idle_abandons : calibratingActive.goIdle.cal.runs ≠ calibratingActive.cal.runs := by decide +kernel

/-- Refutes O14: its clause on IDLE_TIMER_EXPIRY has calibration unchanged, and Idle abandons the runs in progress (R435). -/
theorem not_powerStates : ¬ Obligations.power_states := by
  rintro ⟨hidle, -⟩
  obtain ⟨t, hexec, -, -, -, hframe⟩ := hidle calibratingActive (by decide +kernel) (by decide +kernel) (by decide +kernel) (by decide +kernel)
  have ht : calibratingActive.goIdle = t := Host.Outcome.next.inj hexec
  have hcal : t.cal = calibratingActive.cal := hframe.2 .cal (by decide)
  exact calibratingActive_idle_abandons (congrArg CalSt.runs (ht ▸ hcal))

end Sys2Proof.Machine
end

section
/-! SUPPORT. What the operations of other units leave of the supply (O11). `State.view` holds what its statement speaks of; each operation
that the supply's rows come to keeps it, or keeps the part that its lemma names. The order is that of the model's files. -/
namespace Sys2Proof.Machine

/-! ### The view -/

/-- The supply itself, the links, and the fields of other units that its rows write. -/
structure ViewCore where
  power : Power
  links : Nat → Bool
  marks : List Nat

/-- The pins and the drive of the spindle. -/
structure ViewDrives where
  pins : Pins
  spindle : SpindleSt
  spState : Nat

/-- What no reset loses. -/
structure ViewStores where
  nv : NonVol
  mram : List (Nat × Code80)

structure View where
  core : ViewCore
  drives : ViewDrives
  stores : ViewStores

def markFlds : List Fld := [HM_STAT.READY, MJ_STAT.READY, FB_STAT.BASENOTE, FB_STAT.FAULTL]

def State.view (s : State) : View :=
  ⟨⟨s.power, fun c => (s.ctrl c).linkUp, markFlds.map s.fld⟩, ⟨s.pins, s.spindle, s.spState⟩, ⟨s.nv, s.mem.mram⟩⟩

theorem State.fld_congr {s t : State} (h : t.regs = s.regs) : t.fld = s.fld := by
  funext g
  simp only [State.fld, State.reg, h]

/-- What the view is made of. The lemmas of this section go through it, so that views are rewritten and the states in them never unfolded. -/
theorem State.view_congr {s t : State} (hregs : t.regs = s.regs) (hpower : t.power = s.power) (hnvme : t.nvme = s.nvme) (hpins : t.pins = s.pins)
    (hspindle : t.spindle = s.spindle) (hnv : t.nv = s.nv) (hmram : t.mem.mram = s.mem.mram) : t.view = s.view := by
  simp only [State.view, State.spState, State.ctrl, State.fld_congr hregs, hpower, hnvme, hpins, hspindle, hnv, hmram]

theorem State.core_congr {s t : State} (hregs : t.regs = s.regs) (hpower : t.power = s.power) (hnvme : t.nvme = s.nvme) :
    t.view.core = s.view.core := by
  simp only [State.view, State.ctrl, State.fld_congr hregs, hpower, hnvme]

theorem State.drives_congr {s t : State} (hregs : t.regs = s.regs) (hpins : t.pins = s.pins) (hspindle : t.spindle = s.spindle) :
    t.view.drives = s.view.drives := by
  simp only [State.view, State.spState, State.fld_congr hregs, hpins, hspindle]

theorem State.stores_congr {s t : State} (hnv : t.nv = s.nv) (hmram : t.mem.mram = s.mem.mram) : t.view.stores = s.view.stores := by
  simp only [State.view, hnv, hmram]

/-- A write of the field leaves the fields of the view. -/
def Fld.spares (f : Fld) : Bool :=
  (SP_STAT.STATE :: markFlds).all (fun g => decide (f.addr ≠ g.addr) || (f.ok && f.apart g))

/-- The registers of the view lie in the blocks of HM, MJ, SP and FB. -/
theorem Fld.spares_of_range {f : Fld}
    (h : f.addr < 0x60000 ∨ 0x80000 ≤ f.addr ∧ f.addr < 0xA0000 ∨ 0xB0000 ≤ f.addr ∧ f.addr < 0x190000) : f.spares = true := by
  have h1 : f.addr ≠ SP_STAT.STATE.addr := by simp only [SP_STAT.STATE]; omega
  have h2 : f.addr ≠ HM_STAT.READY.addr := by simp only [HM_STAT.READY]; omega
  have h3 : f.addr ≠ MJ_STAT.READY.addr := by simp only [MJ_STAT.READY]; omega
  have h4 : f.addr ≠ FB_STAT.BASENOTE.addr := by simp only [FB_STAT.BASENOTE]; omega
  have h5 : f.addr ≠ FB_STAT.FAULTL.addr := by simp only [FB_STAT.FAULTL]; omega
  simp [Fld.spares, markFlds, h1, h2, h3, h4, h5]

theorem State.fld_setFld_of_spares (s : State) {f : Fld} (v : Nat) (h : f.spares = true) {g : Fld} (hg : g ∈ SP_STAT.STATE :: markFlds) :
    (s.setFld f v).fld g = s.fld g := by
  have hok : ∀ g ∈ SP_STAT.STATE :: markFlds, g.ok = true := by decide
  have hspared := List.all_eq_true.mp h g hg
  simp only [Bool.or_eq_true, Bool.and_eq_true, decide_eq_true_eq] at hspared
  rcases hspared with haddr | ⟨hf, hap⟩
  · exact State.fld_setFld_addr s f g v haddr
  · exact State.fld_setFld_other s f g v (hok g hg) hf hap

/-! ### Updates and combinators -/

section
variable (s : State)

@[simp] theorem State.setFld_view {f : Fld} (v : Nat) (h : f.spares = true) : (s.setFld f v).view = s.view := by
  have hstate : (s.setFld f v).spState = s.spState := State.fld_setFld_of_spares s v h List.mem_cons_self
  have hmarks : markFlds.map (s.setFld f v).fld = markFlds.map s.fld :=
    List.map_congr_left (fun g hg => State.fld_setFld_of_spares s v h (List.mem_cons_of_mem _ hg))
  simp only [State.view, hstate, hmarks]
  rfl

/-- A register that holds no field of the view, written whole. -/
@[simp] theorem State.setReg_view {a : Nat} (w : Word32) (h : a ∉ (SP_STAT.STATE :: markFlds).map Fld.addr) : (s.setReg a w).view = s.view := by
  have hfld : ∀ g ∈ SP_STAT.STATE :: markFlds, (s.setReg a w).fld g = s.fld g := fun g hg =>
    congrArg g.ofWord (State.reg_setReg_other s a g.addr w (fun e => h (e ▸ List.mem_map_of_mem hg)))
  have hstate : (s.setReg a w).spState = s.spState := hfld _ List.mem_cons_self
  have hmarks : markFlds.map (s.setReg a w).fld = markFlds.map s.fld := List.map_congr_left (fun g hg => hfld g (List.mem_cons_of_mem _ hg))
  simp only [State.view, hstate, hmarks]
  rfl

@[simp] theorem State.noteSet_view (g : Fld) (v : Nat) : (s.noteSet g v).view = s.view := State.view_congr rfl rfl rfl rfl rfl rfl rfl
@[simp] theorem State.setBit_view {f : Fld} (h : f.spares = true) : (s.setBit f).view = s.view := s.setFld_view 1 h
@[simp] theorem State.clrBit_view {f : Fld} (h : f.spares = true) : (s.clrBit f).view = s.view := s.setFld_view 0 h
@[simp] theorem State.addSat_view {f : Fld} (n : Nat) (h : f.spares = true) : (s.addSat f n).view = s.view := s.setFld_view _ h
@[simp] theorem State.bump_view {f : Fld} (h : f.spares = true) : (s.bump f).view = s.view := s.addSat_view 1 h
@[simp] theorem State.drawFree_view : s.drawFree.view = s.view := State.view_congr rfl rfl rfl rfl rfl rfl rfl
@[simp] theorem State.modHelper_view (h : Nat) (f : Helper → Helper) : (s.modHelper h f).view = s.view := State.view_congr rfl rfl rfl rfl rfl rfl rfl
@[simp] theorem State.modDom_view (d : Dom) (f : DomSt → DomSt) : (s.modDom d f).view = s.view := by
  cases d <;> exact State.view_congr rfl rfl rfl rfl rfl rfl rfl
@[simp] theorem State.modSv_view (a : Act) (f : ServoSt → ServoSt) : (s.modSv a f).view = s.view := State.view_congr rfl rfl rfl rfl rfl rfl rfl
@[simp] theorem State.modAslot_view (a : Act) (n : Nat) (f : AssistSlot → AssistSlot) : (s.modAslot a n f).view = s.view := State.view_congr rfl rfl rfl rfl rfl rfl rfl
@[simp] theorem State.modLane_view (l : Nat) (f : LaneSt → LaneSt) : (s.modLane l f).view = s.view := State.view_congr rfl rfl rfl rfl rfl rfl rfl
@[simp] theorem State.modSlot_view (k : Nat) (f : SlotSt → SlotSt) : (s.modSlot k f).view = s.view := State.view_congr rfl rfl rfl rfl rfl rfl rfl
@[simp] theorem State.modRing_view (r : Nat) (f : RingSt → RingSt) : (s.modRing r f).view = s.view := State.view_congr rfl rfl rfl rfl rfl rfl rfl
@[simp] theorem State.modSec_view (f : SecSt → SecSt) : (s.modSec f).view = s.view := State.view_congr rfl rfl rfl rfl rfl rfl rfl
@[simp] theorem State.modSil_view (f : SilSt → SilSt) : (s.modSil f).view = s.view := State.view_congr rfl rfl rfl rfl rfl rfl rfl
@[simp] theorem State.modMap_view (f : MapSt → MapSt) : (s.modMap f).view = s.view := State.view_congr rfl rfl rfl rfl rfl rfl rfl
@[simp] theorem State.modCache_view (f : CacheSt → CacheSt) : (s.modCache f).view = s.view := State.view_congr rfl rfl rfl rfl rfl rfl rfl
@[simp] theorem State.modDecode_view (f : DecodeSt → DecodeSt) : (s.modDecode f).view = s.view := State.view_congr rfl rfl rfl rfl rfl rfl rfl
@[simp] theorem State.modCal_view (f : CalSt → CalSt) : (s.modCal f).view = s.view := State.view_congr rfl rfl rfl rfl rfl rfl rfl
@[simp] theorem State.modLanes_view (f : LanesSt → LanesSt) : (s.modLanes f).view = s.view := State.view_congr rfl rfl rfl rfl rfl rfl rfl
@[simp] theorem State.modFabric_view (f : FabricSt → FabricSt) : (s.modFabric f).view = s.view := State.view_congr rfl rfl rfl rfl rfl rfl rfl
@[simp] theorem State.modTier_view (f : TierSt → TierSt) : (s.modTier f).view = s.view := State.view_congr rfl rfl rfl rfl rfl rfl rfl
@[simp] theorem State.modPool_view (f : PoolSt → PoolSt) : (s.modPool f).view = s.view := State.view_congr rfl rfl rfl rfl rfl rfl rfl
@[simp] theorem State.modNv_core (f : NonVol → NonVol) : (s.modNv f).view.core = s.view.core := State.core_congr rfl rfl rfl
@[simp] theorem State.modMem_core (f : MemSt → MemSt) : (s.modMem f).view.core = s.view.core := State.core_congr rfl rfl rfl
@[simp] theorem State.modPins_core (f : Pins → Pins) : (s.modPins f).view.core = s.view.core := State.core_congr rfl rfl rfl
@[simp] theorem State.modPins_stores (f : Pins → Pins) : (s.modPins f).view.stores = s.view.stores := State.stores_congr rfl rfl
@[simp] theorem State.modSp_core (f : SpindleSt → SpindleSt) : (s.modSp f).view.core = s.view.core := State.core_congr rfl rfl rfl
@[simp] theorem State.modSp_stores (f : SpindleSt → SpindleSt) : (s.modSp f).view.stores = s.view.stores := State.stores_congr rfl rfl

@[simp] theorem State.modNvme_view {f : NvmeSt → NvmeSt} (h : ∀ n, (f n).ctrls = n.ctrls) : (s.modNvme f).view = s.view := by
  have hctrl : ∀ c, (s.modNvme f).ctrl c = s.ctrl c := fun c => congrArg (SMap.get (fun _ => Ctrl.reset) · c) (h s.nvme)
  simp only [State.view, hctrl]
  rfl

/-- An update of a controller that leaves its link. -/
@[simp] theorem State.modCtrl_view (c : Nat) {f : Ctrl → Ctrl} (h : ∀ k, (f k).linkUp = k.linkUp) : (s.modCtrl c f).view = s.view := by
  have hlink : ∀ d, ((s.modCtrl c f).ctrl d).linkUp = (s.ctrl d).linkUp := by
    intro d
    rw [State.ctrl, State.modCtrl, SMap.get_modify]
    split
    · rename_i he
      rw [h, he, State.ctrl]
    · rfl
  simp only [State.view, hlink]
  rfl

@[simp] theorem State.with_acc_view (a : AccordSt) : ({ s with acc := a } : State).view = s.view := State.view_congr rfl rfl rfl rfl rfl rfl rfl

@[simp] theorem State.ite_view (c : Prop) [Decidable c] (t u : State) : (if c then t else u).view = if c then t.view else u.view :=
  apply_ite State.view c t u

@[simp] theorem View.ite_core (c : Prop) [Decidable c] (x y : View) : (if c then x else y).core = if c then x.core else y.core :=
  apply_ite View.core c x y

@[simp] theorem View.ite_stores (c : Prop) [Decidable c] (x y : View) : (if c then x else y).stores = if c then x.stores else y.stores :=
  apply_ite View.stores c x y

@[simp] theorem View.ite_drives (c : Prop) [Decidable c] (x y : View) : (if c then x else y).drives = if c then x.drives else y.drives :=
  apply_ite View.drives c x y

@[simp] theorem State.when_view (b : Bool) (f : State → State) : (s.when b f).view = if b then (f s).view else s.view :=
  apply_ite State.view _ _ _

/-- Where each application leaves what `φ` shows, so does the fold. -/
theorem foldl_leaves {α β : Type} (φ : State → β) (l : List α) (f : State → α → State) (h : ∀ t, ∀ x ∈ l, φ (f t x) = φ t) :
    φ (l.foldl f s) = φ s :=
  State.each_keeps (fun t => φ t = φ s) f l s rfl (fun t ht x hx => (h t x hx).trans ht)

@[simp] theorem State.foldl_view {α : Type} (l : List α) (f : State → α → State) (h : ∀ t x, (f t x).view = t.view) :
    (l.foldl f s).view = s.view := foldl_leaves s State.view l f (fun t x _ => h t x)

@[simp] theorem State.each_view {α : Type} (l : List α) (f : State → α → State) (h : ∀ t x, (f t x).view = t.view) :
    (s.each l f).view = s.view := State.foldl_view s l f h

end

end Sys2Proof.Machine
end

section
namespace Sys2Proof.Machine

/-! ### Fields of numbered registers that spare the view -/

@[simp] theorem ga_spares {g : Nat} (h : g < 64) :
    (GA_COUNT.VALUE g).spares = true ∧ (GA_MIN.VALUE g).spares = true ∧ (GA_MAX.VALUE g).spares = true ∧ (gaAlarmBit g).spares = true := by
  refine ⟨Fld.spares_of_range ?_, Fld.spares_of_range ?_, Fld.spares_of_range ?_, Fld.spares_of_range ?_⟩
  · simp only [GA_COUNT.VALUE]; omega
  · simp only [GA_MIN.VALUE]; omega
  · simp only [GA_MAX.VALUE]; omega
  · simp only [gaAlarmBit, GA_ALARM_LO.REG, GA_ALARM_HI.REG]; split <;> simp

theorem gaugeBin_le (u : Nat) : gaugeBin u ≤ 31 := by
  unfold gaugeBin
  split
  · omega
  · exact Nat.min_le_left _ _

@[simp] theorem gaBin_spares {g : Nat} (h : g < 64) (u : Nat) : (GA_BIN.COUNT g (gaugeBin u)).spares = true :=
  Fld.spares_of_range (by have := gaugeBin_le u; simp only [GA_BIN.COUNT]; omega)

/-! ### Records and samples -/
section
variable (s : State)

@[simp] theorem State.putBucket_view (code : Nat) (b : Bucket) : (s.putBucket code b).view = s.view := by simp [State.putBucket]
@[simp] theorem State.enqueueRecord_view (code : Nat) (fields : List Byte) : (s.enqueueRecord code fields).view = s.view := by
  simp +decide [State.enqueueRecord]
@[simp] theorem State.summary_view (code : Nat) : (s.summary code).view = s.view := by simp [State.summary]
@[simp] theorem State.record_view (code : Nat) (fields : List Byte) : (s.record code fields).view = s.view := by simp +decide [State.record]
@[simp] theorem State.gaugeTake_view {g : Nat} (h : g < 64) (v : Int) : (s.gaugeTake g v).view = s.view := by simp [State.gaugeTake, h]
@[simp] theorem State.gaugeAlarm_view {g : Nat} (h : g < 64) (v : Int) : (s.gaugeAlarm g v).view = s.view := by simp [State.gaugeAlarm, h]
@[simp] theorem State.sample_view (src : Nat) (hit : Nat → Bool) (v : Int) : (s.sample src hit v).view = s.view :=
  foldl_leaves s State.view _ _ (fun t g hg => by simp [List.mem_range.mp hg])

/-! ### NVMe -/

@[simp] theorem State.putSq_view (c q : Nat) (v : Option SubQ) : (s.putSq c q v).view = s.view := s.modCtrl_view c (fun _ => rfl)
@[simp] theorem State.putCq_view (c q : Nat) (v : Option ComQ) : (s.putCq c q v).view = s.view := s.modCtrl_view c (fun _ => rfl)
@[simp] theorem State.shutSettle_view (c : Nat) : (s.shutSettle c).view = s.view := by simp [State.shutSettle]
@[simp] theorem State.noteFailed_view (m : Cmd) : (s.noteFailed m).view = s.view := by simp [State.noteFailed]
@[simp] theorem State.msix_view (c v : Nat) : (s.msix c v).view = s.view := by simp [State.msix]
@[simp] theorem State.writeCqe_view (c qid : Nat) (q : ComQ) (e : Cqe) : (s.writeCqe c qid q e).view = s.view := by simp [State.writeCqe]

@[simp] theorem State.postCqe_view (e : Cqe) : (s.postCqe e).view = s.view := by
  unfold State.postCqe
  split <;> simp

@[simp] theorem State.finishOne_view (m : Cmd) (st : NvStatus) (dw0 : Nat) : (s.finishOne m st dw0).view = s.view := by
  simp +decide [State.finishOne]

@[simp] theorem State.pumpDue_view (n : Nat) : (State.pumpDue n s).view = s.view := by
  induction n generalizing s with
  | zero => rfl
  | succ n ih =>
    unfold State.pumpDue
    split
    · rfl
    · split <;> simp [ih]

@[simp] theorem State.pumpAer_view (n c : Nat) : (State.pumpAer n s c).view = s.view := by
  induction n generalizing s with
  | zero => rfl
  | succ n ih =>
    unfold State.pumpAer
    dsimp only
    split
    · rw [ih]
      split <;> simp
    · rfl

@[simp] theorem State.aerOn_view (c type info page : Nat) : (s.aerOn c type info page).view = s.view := by simp [State.aerOn]
@[simp] theorem State.nsChanged_view (c nsid : Nat) : (s.nsChanged c nsid).view = s.view := by simp [State.nsChanged]

@[simp] theorem State.drainGone_view (d : Drain) : (s.drainGone d).view = s.view := by
  unfold State.drainGone
  dsimp only
  split
  · simp
  · split
    · simp
    · split
      · split <;> simp
      · rfl

@[simp] theorem State.drainPump_view : s.drainPump.view = s.view := by
  refine State.each_view _ _ _ (fun t d => ?_)
  dsimp only
  split
  · simp
  · split <;> simp

@[simp] theorem State.finish_view (m : Cmd) (st : NvStatus) (dw0 : Nat) : (s.finish m st dw0).view = s.view := by simp [State.finish]
@[simp] theorem State.selfTestEnd_view (r : SelfTestRun) (result : Nat) (lba : Option Nat) : (s.selfTestEnd r result lba).view = s.view := by
  simp [State.selfTestEnd]
@[simp] theorem State.abandonCmds_view (c : Nat) : (s.abandonCmds c).view = s.view := by simp [State.abandonCmds]

@[simp] theorem State.ctrlReset_view (c : Nat) : (s.ctrlReset c).view = s.view := by
  unfold State.ctrlReset
  dsimp only
  split <;> split <;> (try split) <;> simp

end
end Sys2Proof.Machine
end

section
namespace Sys2Proof.Machine

@[simp] theorem sr_spares {r : Nat} (h : r < 8) :
    (SR_CFG.EN r).spares = true ∧ (SR_STAT.STATE r).spares = true ∧ (SR_STAT.HELD r).spares = true ∧ (SR_STAT.INFLIGHT r).spares = true ∧
    (SR_STAT.CHAINS r).spares = true := by
  refine ⟨Fld.spares_of_range ?_, Fld.spares_of_range ?_, Fld.spares_of_range ?_, Fld.spares_of_range ?_, Fld.spares_of_range ?_⟩ <;>
    simp only [SR_CFG.EN, SR_STAT.STATE, SR_STAT.HELD, SR_STAT.INFLIGHT, SR_STAT.CHAINS] <;> omega

@[simp] theorem dm_spares {c : Nat} (h : c < 64) :
    (DM_CH_STAT.STATE c).spares = true ∧ (DM_CH_STAT.STOPPEND c).spares = true ∧ (DM_CH_STAT.LASTST c).spares = true ∧
    (DM_CH_HALTS.COUNT c).spares = true := by
  refine ⟨Fld.spares_of_range ?_, Fld.spares_of_range ?_, Fld.spares_of_range ?_, Fld.spares_of_range ?_⟩ <;>
    simp only [DM_CH_STAT.STATE, DM_CH_STAT.STOPPEND, DM_CH_STAT.LASTST, DM_CH_HALTS.COUNT] <;> omega

@[simp] theorem he_spares {h : Nat} (hh : h < 24) :
    (HE_STAT.STATE h).spares = true ∧ (HE_STAT.HALF h).spares = true ∧ (HE_STAT.INBOX h).spares = true ∧ (HE_STAT.ERRQ h).spares = true ∧
    (HE_MSGCNT.STALE h).spares = true ∧ (HE_MSGCNT.DOWN h).spares = true ∧ (HE_PATCHGEN.GEN h).spares = true ∧
    (HE_VER.WORDS h).spares = true ∧ (HE_VER.NMATCH h).spares = true := by
  refine ⟨Fld.spares_of_range ?_, Fld.spares_of_range ?_, Fld.spares_of_range ?_, Fld.spares_of_range ?_, Fld.spares_of_range ?_,
    Fld.spares_of_range ?_, Fld.spares_of_range ?_, Fld.spares_of_range ?_, Fld.spares_of_range ?_⟩ <;>
    simp only [HE_STAT.STATE, HE_STAT.HALF, HE_STAT.INBOX, HE_STAT.ERRQ, HE_MSGCNT.STALE, HE_MSGCNT.DOWN, HE_PATCHGEN.GEN, HE_VER.WORDS,
      HE_VER.NMATCH] <;> omega

@[simp] theorem heMatch_spares {h j : Nat} (hh : h < 24) (hj : j < 32) :
    (HE_MATCH.EN h j).spares = true ∧ (HE_MATCH.BANK h j).spares = true ∧ (HE_MATCH.ROMADDR h j).spares = true ∧
    (HE_MATCH.PATCHADDR h j).spares = true := by
  refine ⟨Fld.spares_of_range ?_, Fld.spares_of_range ?_, Fld.spares_of_range ?_, Fld.spares_of_range ?_⟩ <;>
    simp only [HE_MATCH.EN, HE_MATCH.BANK, HE_MATCH.ROMADDR, HE_MATCH.PATCHADDR] <;> omega

theorem heMatch_notIn_view {h j : Nat} (hh : h < 24) (hj : j < 32) : (HE_MATCH.REG h j).addr ∉ (SP_STAT.STATE :: markFlds).map Fld.addr := by
  have hle : (HE_MATCH.REG h j).addr < 0x60000 := by simp only [HE_MATCH.REG]; omega
  have hview : ∀ a ∈ (SP_STAT.STATE :: markFlds).map Fld.addr, 0x60000 ≤ a := by decide
  exact fun hmem => absurd (hview _ hmem) (by omega)

section
variable (s : State)

/-! ### Rings, messages and movers -/

@[simp] theorem State.ringSync_view {r : Nat} (h : r < 8) : (s.ringSync r).view = s.view := by simp [State.ringSync, h]
@[simp] theorem State.heSync_view {h : Nat} (hh : h < 24) : (s.heSync h).view = s.view := by simp [State.heSync, hh]

@[simp] theorem State.countReturn_view (dst status : Nat) : (s.countReturn dst status).view = s.view := by
  unfold State.countReturn
  split
  · rfl
  · have hdst : dst < 24 := by omega
    simp [hdst]

@[simp] theorem State.returnMsg_view (m : Msg) (status : Nat) : (s.returnMsg m status).view = s.view := by simp [State.returnMsg]

/-- A message that is not refused goes to the steward or to a helper. -/
theorem dst_of_not_refused {s : State} {m : Msg} (h : s.refusal? m = none) : m.dst = stewardEp ∨ m.dst < 24 := by
  unfold State.refusal? at h
  split at h
  · exact .inl ‹_›
  · split at h
    · simp at h
    · rename_i hto
      simp only [Bool.or_eq_true, decide_eq_true_eq, not_or] at hto
      exact .inr (by omega)

theorem State.enterInbox_view {m : Msg} (h : m.dst = stewardEp ∨ m.dst < 24) : (s.enterInbox m).view = s.view := by
  unfold State.enterInbox
  split
  · rfl
  · simp [h.resolve_left ‹_›]

@[simp] theorem State.fabricTake_view (m : Msg) : (s.fabricTake m).view = s.view := by
  unfold State.fabricTake
  split
  · simp
  · split
    · exact s.enterInbox_view (dst_of_not_refused ‹_›)
    · simp

@[simp] theorem State.deviceMsg_view (src dst type tag : Nat) (payload : List Byte) : (s.deviceMsg src dst type tag payload).view = s.view := by
  simp [State.deviceMsg]

@[simp] theorem State.dmGoto_view {c : Nat} (h : c < 64) (st : Nat) : (s.dmGoto c st).view = s.view := by simp [State.dmGoto, h]

@[simp] theorem State.dmPost_view {c : Nat} (h : c < 64) (x : MoverSet) (status left : Nat) : (s.dmPost c x status left).view = s.view := by
  simp [State.dmPost, h]

@[simp] theorem State.dmHalt_view {c : Nat} (h : c < 64) (cause : Nat) : (s.dmHalt c cause).view = s.view := by
  unfold State.dmHalt
  split <;> simp [h]

@[simp] theorem State.ringsDown_view (p : Nat) : (s.ringsDown p).view = s.view := by
  refine foldl_leaves s State.view _ _ (fun t r hr => ?_)
  have h8 : r < 8 := List.mem_range.mp hr
  have hchan : ringChan r < 64 := by unfold ringChan; omega
  simp +decide [h8, hchan]

/-! ### Links -/

@[simp] theorem State.functionReset_view (c : Nat) : (s.functionReset c).view = s.view := by simp [State.functionReset]

@[simp] theorem State.dmLinkDown_view (p : Nat) : (s.dmLinkDown p).view = s.view := by
  refine foldl_leaves s State.view _ _ (fun t c hc => ?_)
  have h64 : c < 64 := List.mem_range.mp hc
  split <;> simp [h64]

end
end Sys2Proof.Machine
end

section
namespace Sys2Proof.Machine

/-- A view with the link of port `c` down. -/
def View.unlinked (v : View) (c : Nat) : View :=
  { v with core := { v.core with links := fun d => if d = c then false else v.core.links d } }

theorem act_spares (a : Act) :
    (SV_STAT.WGATE (actNum a)).spares = true ∧ (SV_STAT.STATE (actNum a)).spares = true ∧ (SV_STAT.GROUP (actNum a)).spares = true ∧
    (SV_STAT.ACTIVE (actNum a)).spares = true ∧ (SV_RRO.CONV (actNum a)).spares = true ∧ (AS_BUDGET.DEMAND (actNum a)).spares = true := by
  cases a <;> decide

@[simp] theorem slot_spares (a : Act) (n : Nat) :
    (asState a n).spares = true ∧ (wsState a n).spares = true ∧ (wsLane a n).spares = true ∧ (wsAbandon a n).spares = true := by
  unfold asState wsState wsLane wsAbandon
  cases a <;> split <;> decide

@[simp] theorem ln_spares {l : Nat} (h : l < 9) :
    (LN_STAT.STATE l).spares = true ∧ (LN_STAT.INSEL l).spares = true ∧ (LN_STAT.PLACE l).spares = true ∧ (LN_STAT.LOCK l).spares = true ∧
    (LN_STAT.STANDIN l).spares = true ∧ (LN_OVR.BLANKS l).spares = true ∧ (LN_ERASED.CELLS l).spares = true := by
  refine ⟨Fld.spares_of_range ?_, Fld.spares_of_range ?_, Fld.spares_of_range ?_, Fld.spares_of_range ?_, Fld.spares_of_range ?_,
    Fld.spares_of_range ?_, Fld.spares_of_range ?_⟩ <;>
    simp only [LN_STAT.STATE, LN_STAT.INSEL, LN_STAT.PLACE, LN_STAT.LOCK, LN_STAT.STANDIN, LN_OVR.BLANKS, LN_ERASED.CELLS] <;> omega

section
variable (s : State)

theorem State.unlink_view (c : Nat) {f : Ctrl → Ctrl} (h : ∀ k, (f k).linkUp = false) : (s.modCtrl c f).view = s.view.unlinked c := by
  have hlink : ∀ d, ((s.modCtrl c f).ctrl d).linkUp = if d = c then false else (s.ctrl d).linkUp := by
    intro d
    rw [State.ctrl, State.modCtrl, SMap.get_modify]
    split
    · exact h _
    · rfl
  simp only [State.view, View.unlinked, hlink]
  rfl

/-- A link that goes down takes nothing else of the view with it. -/
@[simp] theorem State.linkDown_view (c : Nat) : (s.linkDown c).view = s.view.unlinked c := by
  unfold State.linkDown
  rw [State.unlink_view _ _ (fun _ => rfl)]
  simp

/-! ### Calibration runs -/

@[simp] theorem State.runSync_view : s.runSync.view = s.view := by
  unfold State.runSync
  split
  · split <;> simp +decide
  · simp +decide

@[simp] theorem State.lsFree_view : s.lsFree.view = s.view := by simp [State.lsFree]

@[simp] theorem State.handBack_view (r : CalRun) : (s.handBack r).view = s.view := by simp [State.handBack]

@[simp] theorem State.abandonRun_view (r : CalRun) : (s.abandonRun r).view = s.view := by simp +decide [State.abandonRun]

@[simp] theorem State.abandonRuns_view (p : CalRun → Bool) : (s.abandonRuns p).view = s.view := by simp [State.abandonRuns]

/-! ### Frames abandoned -/

@[simp] theorem State.sjSync_view : s.sjSync.view = s.view := by simp +decide [State.sjSync]
@[simp] theorem State.sjq_view (b : SjBody) : (s.sjq b).view = s.view := by simp [State.sjq]
@[simp] theorem State.addPend_view (i : Nat) : (s.addPend i).view = s.view := by simp [State.addPend]

@[simp] theorem State.replace_view (f : WriteFrame) (m : Move) (i : Nat) : (s.replace f m i).view = s.view := by
  unfold State.replace
  split <;> simp

@[simp] theorem State.killStripe_view (k st cause : Nat) : (s.killStripe k st cause).view = s.view := by
  unfold State.killStripe
  split <;> simp +decide

@[simp] theorem State.abandonFrame_view (p cause : Nat) : (s.abandonFrame p cause).view = s.view := by
  unfold State.abandonFrame
  dsimp only
  split <;> simp

/-! ### Gates, retract and the spindle -/

@[simp] theorem State.laneDark_view {l : Nat} (h : l < 9) : (s.laneDark l).view = s.view := by simp [State.laneDark, h]

@[simp] theorem State.blank_view (a : Act) : (s.blank a).view = s.view := by
  refine foldl_leaves s State.view _ _ (fun t l hl => ?_)
  have h9 : l < 9 := List.mem_range.mp hl
  simp [h9]

@[simp] theorem State.budgetSync_view (a : Act) : (s.budgetSync a).view = s.view := by simp [State.budgetSync, act_spares]

@[simp] theorem State.unclock_view (a : Act) (n : Nat) : (s.unclock a n).view = s.view := by
  unfold State.unclock
  dsimp only
  split
  · rename_i hl
    simp only [Bool.and_eq_true, decide_eq_true_eq] at hl
    simp [hl.1.1]
  · simp

@[simp] theorem State.setGate_core (a : Act) (n : Nat) (b : Bool) : (s.setGate a n b).view.core = s.view.core := by simp [State.setGate, act_spares]
@[simp] theorem State.setGate_stores (a : Act) (n : Nat) (b : Bool) : (s.setGate a n b).view.stores = s.view.stores := by
  simp [State.setGate, act_spares]

theorem State.closeGateTo_leaves (a : Act) (n after : Nat) :
    (s.closeGateTo a n after).view.core = s.view.core ∧ (s.closeGateTo a n after).view.stores = s.view.stores := by
  unfold State.closeGateTo
  dsimp only
  split <;> simp

@[simp] theorem State.closeGate_leaves (a : Act) (n : Nat) :
    (s.closeGate a n).view.core = s.view.core ∧ (s.closeGate a n).view.stores = s.view.stores := by
  unfold State.closeGate
  split
  · exact s.closeGateTo_leaves a n asOff
  · exact ⟨rfl, rfl⟩

@[simp] theorem State.closeGates_leaves (a : Act) :
    (s.closeGates a).view.core = s.view.core ∧ (s.closeGates a).view.stores = s.view.stores := by
  simp [State.closeGates]

@[simp] theorem State.closeAllGates_leaves :
    s.closeAllGates.view.core = s.view.core ∧ s.closeAllGates.view.stores = s.view.stores := by
  simp [State.closeAllGates]

@[simp] theorem State.leaveGroup_view (a : Act) : (s.leaveGroup a).view = s.view := by simp [State.leaveGroup, act_spares]
@[simp] theorem State.svGoto_view (a : Act) (st : Nat) : (s.svGoto a st).view = s.view := by simp [State.svGoto, act_spares]

@[simp] theorem State.retractAct_leaves (a : Act) (fault : Bool) :
    (s.retractAct a fault).view.core = s.view.core ∧ (s.retractAct a fault).view.stores = s.view.stores := by
  simp +decide [State.retractAct, act_spares]

/-- The state of the spindle is no mark. -/
theorem State.setSpState_leaves (v : Nat) :
    (s.setFld SP_STAT.STATE v).view.core = s.view.core ∧ (s.setFld SP_STAT.STATE v).view.stores = s.view.stores := by
  have hmarks : markFlds.map (s.setFld SP_STAT.STATE v).fld = markFlds.map s.fld :=
    List.map_congr_left (fun g hg => State.fld_setFld_addr s _ g v (by revert g; decide))
  exact ⟨congrArg (ViewCore.mk s.power (fun c => (s.ctrl c).linkUp)) hmarks, rfl⟩

@[simp] theorem State.spGoto_leaves (st : Nat) : (s.spGoto st).view.core = s.view.core ∧ (s.spGoto st).view.stores = s.view.stores := by
  simp +decide [State.spGoto, State.setSpState_leaves]

@[simp] theorem State.spDrive_leaves (d : Drive) : (s.spDrive d).view.core = s.view.core ∧ (s.spDrive d).view.stores = s.view.stores := by
  simp +decide [State.spDrive]

@[simp] theorem State.retractTrigger_leaves :
    s.retractTrigger.view.core = s.view.core ∧ s.retractTrigger.view.stores = s.view.stores := by
  simp +decide [State.retractTrigger]

/-! ### MRAM and Sillage -/

@[simp] theorem State.eccRecord_view (m : MemSp) (addr req synd : Nat) (c : Bool) : (s.eccRecord m addr req synd c).view = s.view := by
  unfold State.eccRecord
  split <;> simp

@[simp] theorem State.eccCapture_mram_view (addr req synd : Nat) : (s.eccCapture .mram addr req synd).view = s.view := by
  simp +decide [State.eccCapture]

@[simp] theorem State.eccNote_mram_view (addr req : Nat) (d : Decoded) : (s.eccNote .mram addr req d).view = s.view := by
  unfold State.eccNote
  dsimp only [eccCounters]
  split <;> simp +decide

@[simp] theorem State.putWord_mram_leaves (i : Nat) (c : Code80) :
    (s.putWord .mram i c).view.core = s.view.core ∧ (s.putWord .mram i c).view.drives = s.view.drives :=
  ⟨State.core_congr rfl rfl rfl, State.drives_congr rfl rfl rfl⟩

@[simp] theorem State.storeWord_mram_leaves (addr : Nat) (data : List Byte) (i : Nat) :
    (s.storeWord .mram addr data i).view.core = s.view.core ∧ (s.storeWord .mram addr data i).view.drives = s.view.drives := by
  simp [State.storeWord]

@[simp] theorem State.silPut_leaves (off : Nat) (d : List Byte) :
    (s.silPut off d).view.core = s.view.core ∧ (s.silPut off d).view.drives = s.view.drives :=
  ⟨foldl_leaves s (fun t => t.view.core) _ _ (fun t i _ => (t.storeWord_mram_leaves _ _ i).1),
    foldl_leaves s (fun t => t.view.drives) _ _ (fun t i _ => (t.storeWord_mram_leaves _ _ i).2)⟩

@[simp] theorem State.noteMram_view (i n req : Nat) : (s.noteMram i n req).view = s.view := by simp +decide [State.noteMram]

theorem State.logAppend_leaves (code tick : Nat) (fields : List Byte) :
    (s.logAppend code tick fields).view.core = s.view.core ∧ (s.logAppend code tick fields).view.drives = s.view.drives := by
  simp +decide [State.logAppend]

@[simp] theorem State.silAppend_leaves : s.silAppend.view.core = s.view.core ∧ s.silAppend.view.drives = s.view.drives := by
  unfold State.silAppend
  split
  · exact ⟨rfl, rfl⟩
  · simp [State.logAppend_leaves]

@[simp] theorem State.writeStamp_leaves (down : Bool) :
    (s.writeStamp down).view.core = s.view.core ∧ (s.writeStamp down).view.drives = s.view.drives := by
  simp [State.writeStamp]

@[simp] theorem State.allSummaries_view : s.allSummaries.view = s.view := by simp [State.allSummaries]

/-- The log closes. -/
@[simp] theorem State.silClose_leaves (down : Bool) :
    (s.silClose down).view.core = s.view.core ∧ (s.silClose down).view.drives = s.view.drives := by
  obtain ⟨hcore, hdrives⟩ := State.writeStamp_leaves (s.allSummaries.each s.allSummaries.sil.queue (fun t _ => t.silAppend)) down
  refine ⟨hcore.trans ?_, hdrives.trans ?_⟩
  · exact (foldl_leaves _ (fun t => t.view.core) _ _ (fun t _ _ => t.silAppend_leaves.1)).trans (by simp)
  · exact (foldl_leaves _ (fun t => t.view.drives) _ _ (fun t _ _ => t.silAppend_leaves.2)).trans (by simp)

@[simp] theorem State.silBoot_core : s.silBoot.view.core = s.view.core := by
  simp +decide [State.silBoot]

end
end Sys2Proof.Machine
end

section
namespace Sys2Proof.Machine
section
variable (s : State)

/-! ### Base-note entry -/

@[simp] theorem State.ewPut_view (f : EwFrame) : (s.ewPut f).view = s.view := by simp [State.ewPut]
@[simp] theorem State.sendLeave_view (ret : Nat) : (s.sendLeave ret).view = s.view := by simp [State.sendLeave, State.ewGroup]

@[simp] theorem State.unreadable_view (surf track frame cause : Nat) : (s.unreadable surf track frame cause).view = s.view := by
  simp +decide [State.unreadable, State.unwait]

@[simp] theorem State.reread_view (l : Nat) (c : FrameCmd) : (s.reread l c).view = s.view := by
  simp [State.reread, State.setDirect, State.askReread]

@[simp] theorem State.laneAbort_view (l : Nat) : (s.laneAbort l).view = s.view := by
  simp [State.laneAbort, State.postStatus]

@[simp] theorem State.laneOff_view {l : Nat} (h : l < 9) : (s.laneOff l).view = s.view := by simp [State.laneOff, h]

@[simp] theorem State.entryMedia_view : s.entryMedia.view = s.view := by
  have hoff : ((s.abandonRuns (fun _ => true)).each lanes9 State.laneOff).view = (s.abandonRuns (fun _ => true)).view :=
    foldl_leaves _ State.view _ _ (fun t l hl => t.laneOff_view (List.mem_range.mp hl))
  simp [State.entryMedia, hoff]

@[simp] theorem State.entrySpindle_core : s.entrySpindle.view.core = s.view.core := by
  unfold State.entrySpindle
  dsimp only
  split <;> split <;> simp

@[simp] theorem State.flushInbox_view {h : Nat} (hh : h < 24) : (s.flushInbox h).view = s.view := by simp [State.flushInbox, hh]
@[simp] theorem State.dropRequests_view (h : Nat) : (s.dropRequests h).view = s.view := by simp [State.dropRequests]

@[simp] theorem State.showPatch_view {h : Nat} (hh : h < 24) (p : PatchSet) : (s.showPatch h p).view = s.view := by
  refine (foldl_leaves _ State.view _ _ (fun t j hj => ?_)).trans (by simp [hh])
  have h32 : j < 32 := List.mem_range.mp hj
  split
  · simp [hh, h32]
  · exact t.setReg_view 0 (heMatch_notIn_view hh h32)

@[simp] theorem State.heSwap_view {h : Nat} (hh : h < 24) : (s.heSwap h).view = s.view := by
  unfold State.heSwap
  split <;> simp [hh]

@[simp] theorem State.swapSignal_view (r : Nat) : (s.swapSignal r).view = s.view := by
  refine foldl_leaves s State.view _ _ (fun t h hh => ?_)
  have h24 : h < 24 := List.mem_range.mp hh
  simp [h24]

@[simp] theorem State.swapGo_view (n : Nat) : (State.swapGo n s).view = s.view := by
  induction n generalizing s with
  | zero => rfl
  | succ n ih =>
    unfold State.swapGo
    split
    · rfl
    · split <;> simp [ih]

@[simp] theorem State.heHalt_view {h : Nat} (hh : h < 24) : (s.heHalt h).view = s.view := by simp [State.heHalt, hh]

@[simp] theorem State.entryHelpers_view : s.entryHelpers.view = s.view := by
  unfold State.entryHelpers State.schedSync
  rw [State.setFld_view _ _ (by decide)]
  refine foldl_leaves s State.view _ _ (fun t h hh => ?_)
  have h24 : h < 24 := List.mem_range.mp hh
  simp [h24]

theorem fbRestores_spares (d : Dom) : (fbRestores d).spares = true := by cases d <;> decide

@[simp] theorem State.entryDomains_view : s.entryDomains.view = s.view := by simp [State.entryDomains, fbRestores_spares]

theorem acSlot_spares (k : Nat) : (acStateFld k).spares = true ∧ (acGenFld k).spares = true := by
  unfold acStateFld acGenFld
  split <;> decide

@[simp] theorem State.acSlotSync_view (k : Nat) : (s.acSlotSync k).view = s.view := by simp [State.acSlotSync, acSlot_spares]

@[simp] theorem State.acRevoke_core (k err sect : Nat) : (s.acRevoke k err sect).view.core = s.view.core := by
  simp [State.acRevoke, State.acMark, State.modFlashAccord]

@[simp] theorem State.acOp_view (op : Nat) : (s.acOp op).view = s.view := by simp +decide [State.acOp]
@[simp] theorem State.domSet_view (code : Nat) (b : List Byte) : (s.domSet code b).view = s.view := by simp [State.domSet]

/-- An image whose domain applies have not ended gives way to the one before it. -/
def State.applyDropped (s : State) : State :=
  match s.acc.prev with
  | some p => { s with acc := { s.acc with applied := p, prev := none } }
  | none => s

/-- Controllers that pause for an activation go on. -/
def State.activationDropped (s : State) : State :=
  if s.nvme.activation.isSome then s.each [0, 1] (fun t c => t.modCtrl c (fun k => { k with pp := false, stopped := k.shn != 0 })) else s

/-- A store in progress stops, its slot revoked. -/
def State.storeDropped (s : State) : State :=
  match s.acc.store with
  | some x => (({ s with acc := { s.acc with store := none } }).acRevoke x.slot 0 0xFF).acOp 0
  | none => s

/-- Shadow sets and domain bundles go. -/
def State.bundlesDropped (s : State) : State :=
  (((s.each helpers24 (fun t h => t.modHelper h (fun x => { x with swapReq := false, shadow := none }))).each s.fabric.domPrev
    (fun t p => t.domSet p.1 p.2)).modFabric (fun f => { f with domainBundles := [], domPrev := [], staged := 0, swapRole := none })).modNvme
    (fun n => { n with activation := none, fwStore := none })

theorem State.entryStores_eq : s.entryStores = s.applyDropped.activationDropped.storeDropped.bundlesDropped := rfl

theorem State.applyDropped_view : s.applyDropped.view = s.view := by
  unfold State.applyDropped
  split <;> rfl

theorem State.activationDropped_view : s.activationDropped.view = s.view := by simp [State.activationDropped]

theorem State.storeDropped_core : s.storeDropped.view.core = s.view.core := by
  unfold State.storeDropped
  split <;> simp

theorem State.bundlesDropped_view : s.bundlesDropped.view = s.view := by simp [State.bundlesDropped]

@[simp] theorem State.entryStores_core : s.entryStores.view.core = s.view.core := by
  rw [State.entryStores_eq, State.bundlesDropped_view, State.storeDropped_core, State.activationDropped_view, State.applyDropped_view]

@[simp] theorem State.entryRings_view : s.entryRings.view = s.view := by
  refine foldl_leaves s State.view _ _ (fun t r hr => ?_)
  have h8 : r < 8 := List.mem_range.mp hr
  simp +decide [h8]

@[simp] theorem State.entryCommands_view : s.entryCommands.view = s.view := by
  simp [State.entryCommands]

end
end Sys2Proof.Machine
end

section
namespace Sys2Proof.Machine

/-! ### The start of a boot -/

theorem State.fld_of_core {s t : State} (h : t.view.core = s.view.core) {g : Fld} (hg : g ∈ markFlds) : t.fld g = s.fld g :=
  List.map_inj_left.mp (congrArg ViewCore.marks h) g hg

theorem State.bit_of_core {s t : State} (h : t.view.core = s.view.core) {g : Fld} (hg : g ∈ markFlds) : t.bit g = s.bit g :=
  congrArg (· != 0) (State.fld_of_core h hg)

theorem State.fld_of_onlyRegs {s t : State} {as : List Nat} (h : OnlyRegs as s t) {g : Fld} (hg : g.addr ∉ as) : t.fld g = s.fld g :=
  congrArg g.ofWord (h g.addr hg)

theorem State.power_of_core {s t : State} (h : t.view.core = s.view.core) : t.power = s.power := congrArg ViewCore.power h

theorem State.linkUp_of_core {s t : State} (h : t.view.core = s.view.core) (c : Nat) : (t.ctrl c).linkUp = (s.ctrl c).linkUp :=
  congrFun (congrArg ViewCore.links h) c

section
variable (s : State)

@[simp] theorem State.wearSync_core : s.wearSync.view.core = s.view.core := by simp +decide [State.wearSync, State.wearMark]

@[simp] theorem State.floorSync_view : s.floorSync.view = s.view := by simp +decide [State.floorSync]

theorem scIdent_spares {j : Nat} (h : j < 8) : (SC_IDENT.IDENT j).spares = true :=
  Fld.spares_of_range (by simp only [SC_IDENT.IDENT]; omega)

@[simp] theorem State.secBoot_view : s.secBoot.view = s.view := by
  unfold State.secBoot
  dsimp only
  split <;> exact (foldl_leaves _ State.view _ _ (fun t j hj => t.setFld_view _ (scIdent_spares (List.mem_range.mp hj)))).trans (by simp +decide)

/-- The first of Base-note entry: gates closed, the pool told. -/
def State.noteBegun (s : State) : State :=
  s.closeAllGates.when (s.poolOn && [0, 1].all (fun p => (s.helperOf 9 p).any s.heActive)) (fun t => t.sendLeave 0)

/-- Then FB_STAT and FB_BNINFO. -/
def State.noteShown (s : State) (cause info : Nat) : State :=
  (((s.setBit FB_STAT.BASENOTE).setFld FB_STAT.CAUSE cause).setFld FB_BNINFO.DETAIL info).setFld FB_STAT.FAULTL 1

theorem State.noteBegun_core : s.noteBegun.view.core = s.view.core := by simp [State.noteBegun]

/-- Then every unit. -/
def State.noteSettled (s : State) (tick : Nat) : State :=
  let s3 := ((s.setFld FB_BNTICK_LO.TICK tick).setFld FB_BNTICK_HI.TICK (tick / 2 ^ 32)).modPins (fun p => { p with faultL := true })
  let s4 := (s3.retractAct .A false).retractAct .B false
  let s6 := ((s4.entryMedia.entrySpindle.entryHelpers).entryDomains).entryStores.entryRings.entryCommands
  (s6.setFld PW_STAT.STATE 0).setFld MP_STAT.STATE 5

theorem State.baseNote_eq (cause info : Nat) (h : s.bit FB_STAT.BASENOTE = false) :
    s.baseNote cause info =
      { (s.noteBegun.noteShown cause info).noteSettled s.tick with faults := { restartDue := true, entryTick := s.tick } } :=
  if_neg (Bool.eq_false_iff.mp h)

theorem State.noteSettled_core (tick : Nat) : (s.noteSettled tick).view.core = s.view.core := by simp +decide [State.noteSettled]

theorem State.with_faults_core (x : FaultSt) : ({ s with faults := x } : State).view.core = s.view.core := State.core_congr rfl rfl rfl

theorem State.baseNote_core (cause info : Nat) (h : s.bit FB_STAT.BASENOTE = false) :
    (s.baseNote cause info).view.core = (s.noteBegun.noteShown cause info).view.core := by
  rw [State.baseNote_eq s cause info h, State.with_faults_core, State.noteSettled_core]

theorem State.noteShown_regs (cause info : Nat) : OnlyRegs [FB_STAT.REG.addr, FB_BNINFO.REG.addr] s (s.noteShown cause info) :=
  (((OnlyRegs.setBit s _ (by decide)).trans (OnlyRegs.setFld _ _ _ (by decide))).trans (OnlyRegs.setFld _ _ _ (by decide))).trans
    (OnlyRegs.setFld _ _ _ (by decide))

theorem State.noteShown_leaves (cause info : Nat) :
    (s.noteShown cause info).power = s.power ∧ (s.noteShown cause info).fld HM_STAT.READY = s.fld HM_STAT.READY ∧
    (s.noteShown cause info).fld MJ_STAT.READY = s.fld MJ_STAT.READY ∧ (s.noteShown cause info).bit FB_STAT.BASENOTE = true := by
  have hregs := s.noteShown_regs cause info
  refine ⟨rfl, State.fld_of_onlyRegs hregs (by decide), State.fld_of_onlyRegs hregs (by decide), ?_⟩
  rw [State.noteShown, State.bit_setFld_other _ _ _ _ rfl rfl rfl, State.bit_setFld_other _ _ _ _ rfl rfl rfl, State.bit_setFld_other _ _ _ _ rfl rfl rfl]
  exact State.bit_setBit_same s _ rfl

/-- Base-note entry leaves the supply and what the memories report. -/
theorem State.baseNote_leaves (cause info : Nat) :
    (s.baseNote cause info).power = s.power ∧ (s.baseNote cause info).fld HM_STAT.READY = s.fld HM_STAT.READY ∧
    (s.baseNote cause info).fld MJ_STAT.READY = s.fld MJ_STAT.READY ∧ (s.baseNote cause info).bit FB_STAT.BASENOTE = true := by
  cases hb : s.bit FB_STAT.BASENOTE with
  | true =>
    have hview : (s.baseNote cause info).view = s.view := by simp +decide [State.baseNote, hb]
    have hcore := congrArg View.core hview
    exact ⟨State.power_of_core hcore, State.fld_of_core hcore (by decide), State.fld_of_core hcore (by decide),
      (State.bit_of_core hcore (by decide)).trans hb⟩
  | false =>
    obtain ⟨hpower, hhm, hmj, hnote⟩ := s.noteBegun.noteShown_leaves cause info
    have hcore := s.baseNote_core cause info hb
    have hbegun := s.noteBegun_core
    exact ⟨(State.power_of_core hcore).trans (hpower.trans (State.power_of_core hbegun)),
      (State.fld_of_core hcore (by decide)).trans (hhm.trans (State.fld_of_core hbegun (by decide))),
      (State.fld_of_core hcore (by decide)).trans (hmj.trans (State.fld_of_core hbegun (by decide))),
      (State.bit_of_core hcore (by decide)).trans hnote⟩

theorem State.trainLinks_leaves : s.trainLinks.power = s.power ∧ ∀ g, s.trainLinks.fld g = s.fld g := by
  refine State.each_keeps (fun t => t.power = s.power ∧ ∀ g, t.fld g = s.fld g) _ _ s ⟨rfl, fun _ => rfl⟩ (fun t ht c _ => ?_)
  split
  · exact ht
  · exact ht

/-- What the self-checks of a boot leave on show. -/
def State.checksShown (s : State) (failed : Nat) : State :=
  ((((s.modPower (fun p => { p with phase := .done })).modMem (fun m => { m with failed := failed })).setFld HM_STAT.READY (15 - failed % 16)).setFld
    MJ_STAT.READY (15 - failed / 16 % 16)).setFld MJ_STAT.ADMIT (if s.vmState == vmLost then 0 else 1)

/-- The boot up to what a failed check leads to. -/
def State.unitsStarted (s : State) : State :=
  (s.silBoot.wearSync.secBoot.modPins (fun p => { p with bfRstL := true })).trainLinks.each [0, 1] (fun t k => t.acSlotSync k)

theorem State.bootStart_eq (failed : Nat) : s.bootStart failed =
    if failed % 256 = 0 then (s.checksShown failed).unitsStarted else (s.checksShown failed).unitsStarted.baseNote 6 (failed % 256) := rfl

theorem State.unitsStarted_leaves : s.unitsStarted.power = s.power ∧ ∀ g ∈ markFlds, s.unitsStarted.fld g = s.fld g := by
  have hsync : s.unitsStarted.view.core = (s.silBoot.wearSync.secBoot.modPins (fun p => { p with bfRstL := true })).trainLinks.view.core := by
    simp [State.unitsStarted]
  have hboot : (s.silBoot.wearSync.secBoot.modPins (fun p => { p with bfRstL := true })).view.core = s.view.core := by simp
  obtain ⟨hpower, hfld⟩ := (s.silBoot.wearSync.secBoot.modPins (fun p => { p with bfRstL := true })).trainLinks_leaves
  exact ⟨(State.power_of_core hsync).trans (hpower.trans (State.power_of_core hboot)),
    fun g hg => (State.fld_of_core hsync hg).trans ((hfld g).trans (State.fld_of_core hboot hg))⟩

theorem State.checksShown_spec (failed : Nat) :
    (s.checksShown failed).power.phase = .done ∧ (s.checksShown failed).fld HM_STAT.READY = 15 - failed % 16 ∧
    (s.checksShown failed).fld MJ_STAT.READY = 15 - failed / 16 % 16 ∧
    (s.checksShown failed).bit FB_STAT.BASENOTE = s.bit FB_STAT.BASENOTE := by
  refine ⟨rfl, ?_, ?_, ?_⟩
  · simp only [State.checksShown]
    rw [State.fld_setFld_addr _ _ _ _ (by decide), State.fld_setFld_addr _ _ _ _ (by decide), State.fld_setFld_same _ _ _ rfl]
    exact Nat.mod_eq_of_lt (show _ < 2 ^ 4 by omega)
  · simp only [State.checksShown]
    rw [State.fld_setFld_other _ _ _ _ rfl rfl rfl, State.fld_setFld_same _ _ _ rfl]
    exact Nat.mod_eq_of_lt (show _ < 2 ^ 4 by omega)
  · simp only [State.checksShown]
    rw [State.bit_setFld_other _ _ _ _ rfl rfl rfl, State.bit_setFld_other _ _ _ _ rfl rfl rfl, State.bit_setFld_other _ _ _ _ rfl rfl rfl]
    rfl

/-- The boot's start (R92, R185): the rails are up, READY shows what passed, and a failure is Base-note mode. -/
theorem State.bootStart_spec (failed : Nat) :
    (s.bootStart failed).power.phase = .done ∧ (s.bootStart failed).fld HM_STAT.READY = 15 - failed % 16 ∧
    (s.bootStart failed).fld MJ_STAT.READY = 15 - failed / 16 % 16 ∧
    (failed % 256 = 0 → s.bit FB_STAT.BASENOTE = (s.bootStart failed).bit FB_STAT.BASENOTE) ∧
    (failed % 256 ≠ 0 → (s.bootStart failed).bit FB_STAT.BASENOTE = true) := by
  obtain ⟨hphase, hhm, hmj, hnote⟩ := s.checksShown_spec failed
  obtain ⟨hpower, hfld⟩ := (s.checksShown failed).unitsStarted_leaves
  have hhm' := (hfld HM_STAT.READY (by decide)).trans hhm
  have hmj' := (hfld MJ_STAT.READY (by decide)).trans hmj
  have hphase' := (congrArg Power.phase hpower).trans hphase
  rw [State.bootStart_eq]
  split
  · rename_i h0
    exact ⟨hphase', hhm', hmj', fun _ => (hnote.symm.trans (congrArg (· != 0) (hfld FB_STAT.BASENOTE (by decide)).symm)), fun hne => absurd h0 hne⟩
  · rename_i hne
    obtain ⟨hbpower, hbhm, hbmj, hbnote⟩ := (s.checksShown failed).unitsStarted.baseNote_leaves 6 (failed % 256)
    exact ⟨(congrArg Power.phase hbpower).trans hphase', hbhm.trans hhm', hbmj.trans hmj', fun h0 => absurd h0 hne, fun _ => hbnote⟩

end
end Sys2Proof.Machine
end

section
/-! SUPPORT. The rails and their monitors (O11, R89 to R95). -/
namespace Sys2Proof.Machine

/-! ### Frames -/

theorem OnlyParts.modPower {ps : List Part} (hps : Part.power ∈ ps) (s : State) (f : Power → Power) : OnlyParts ps s (s.modPower f) := by
  refine ⟨rfl, fun p hp => ?_⟩
  cases p with
  | power => exact absurd hps hp
  | _ => rfl

theorem OnlyParts.modPins {ps : List Part} (hps : Part.pins ∈ ps) (s : State) (f : Pins → Pins) : OnlyParts ps s (s.modPins f) := by
  refine ⟨rfl, fun p hp => ?_⟩
  cases p with
  | pins => exact absurd hps hp
  | _ => rfl

theorem OnlyParts.modCtrl {ps : List Part} (hps : Part.nvme ∈ ps) (s : State) (c : Nat) (f : Ctrl → Ctrl) : OnlyParts ps s (s.modCtrl c f) := by
  refine ⟨rfl, fun p hp => ?_⟩
  cases p with
  | nvme => exact absurd hps hp
  | _ => rfl

theorem OnlyRegs.of_regs {as : List Nat} {s t : State} (h : t.regs = s.regs) : OnlyRegs as s t :=
  fun a _ => congrArg (SMap.get resetWord · a) h

theorem OnlyParts.setFldBit {ps : List Part} (hregs : Part.regs ∈ ps) (hmem : Part.tickMem ∈ ps) (s : State) (f : Fld) (n : Nat) (b : Bool) :
    OnlyParts ps s (s.setFldBit f n b) := by
  unfold State.setFldBit
  split
  · split
    · exact OnlyParts.tickMem hmem _ _
    · exact (OnlyParts.setFld hregs s f _).trans (OnlyParts.tickMem hmem _ _)
  · split
    · exact OnlyParts.setFld hregs s f _
    · exact OnlyParts.refl ps s

theorem OnlyRegs.setFldBit {as : List Nat} (s : State) (f : Fld) (n : Nat) (b : Bool) (h : f.addr ∈ as) : OnlyRegs as s (s.setFldBit f n b) := by
  unfold State.setFldBit
  split
  · split
    · exact OnlyRegs.of_regs rfl
    · exact OnlyRegs.setFld s f _ h
  · split
    · exact OnlyRegs.setFld s f _ h
    · exact OnlyRegs.refl as s

/-! ### One bit of a field -/

/-- A number with bit `n` cleared. -/
def bitCleared (v n : Nat) : Nat := if v / 2 ^ n % 2 = 1 then v - 2 ^ n else v

theorem State.fld_setFldBit_false (s : State) {f : Fld} (n : Nat) (hf : f.ok = true) : (s.setFldBit f n false).fld f = bitCleared (s.fld f) n := by
  unfold State.setFldBit bitCleared State.fldBit
  simp only [Bool.false_eq_true, if_false, beq_iff_eq]
  split
  · rw [State.fld_setFld_same s f _ hf]
    exact Nat.mod_eq_of_lt (Nat.lt_of_le_of_lt (Nat.sub_le _ _) (s.fld_lt f))
  · rfl

theorem bitCleared_bit (v n : Nat) : bitCleared v n / 2 ^ n % 2 = 0 := by
  unfold bitCleared
  split
  · have hsub := Nat.sub_mul_div v (2 ^ n) 1
    rw [Nat.mul_one] at hsub
    omega
  · omega

theorem bitAdded_bit {v n : Nat} (h : v / 2 ^ n % 2 ≠ 1) : (v + 2 ^ n) / 2 ^ n % 2 = 1 := by
  rw [Nat.add_div_right v (Nat.two_pow_pos n)]
  omega

/-- A bit of a field that has it is what it is set to. -/
theorem State.fldBit_setFldBit_same (s : State) {f : Fld} {n : Nat} (b : Bool) (hf : f.ok = true) (hn : n < f.hi - f.lo + 1) :
    (s.setFldBit f n b).fldBit f n = b := by
  cases b with
  | false =>
    simp only [State.fldBit, State.fld_setFldBit_false s n hf, bitCleared_bit]
    rfl
  | true =>
    by_cases hset : s.fldBit f n = true
    · simp only [State.setFldBit, hset, if_true]
      exact hset
    · have hclear : s.fld f / 2 ^ n % 2 ≠ 1 := fun e => hset (beq_iff_eq.mpr e)
      have hfld : (s.setFldBit f n true).fld f = (s.fld f + 2 ^ n) % 2 ^ (f.hi - f.lo + 1) := by
        simp only [State.setFldBit, hset, if_true]
        exact State.fld_setFld_same s f _ hf
      have hbit : ((s.fld f + 2 ^ n) % 2 ^ (f.hi - f.lo + 1)).testBit n = (s.fld f + 2 ^ n).testBit n := by
        rw [Nat.testBit_mod_two_pow, decide_eq_true hn, Bool.true_and]
      rw [Nat.testBit_eq_decide_div_mod_eq, Nat.testBit_eq_decide_div_mod_eq, bitAdded_bit hclear] at hbit
      simp only [State.fldBit, hfld]
      simpa using hbit

/-! ### Outputs and ranges -/

theorem railOk_bit (s : State) {n : Nat} (b : Bool) (h : n < 6) : (s.railOk n b).fldBit PW_STAT.RAILOK n = b :=
  State.fldBit_setFldBit_same s b rfl h

theorem railOk_parts (s : State) (n : Nat) (b : Bool) : OnlyParts [.regs, .tickMem] s (s.railOk n b) :=
  OnlyParts.setFldBit (by decide) (by decide) s _ n b

theorem railOk_regs (s : State) (n : Nat) (b : Bool) : OnlyRegs [PW_STAT.REG.addr] s (s.railOk n b) :=
  OnlyRegs.setFldBit s _ n b (by decide)

@[simp] theorem railOk_power (s : State) (n : Nat) (b : Bool) : (s.railOk n b).power = s.power := s.setFldBit_power _ n b

theorem railOk_view (s : State) (n : Nat) (b : Bool) : (s.railOk n b).view = s.view := by
  unfold State.railOk State.setFldBit
  simp +decide

theorem seqHigh_bit (q : BitVec 6) {n : Nat} (h : n < 6) : (q ||| BitVec.ofNat 6 (2 ^ n)).getLsbD n = true := by
  have hall : ∀ n < 6, (BitVec.ofNat 6 (2 ^ n)).getLsbD n = true := by decide
  rw [BitVec.getLsbD_or, hall n h, Bool.or_true]

theorem seqLow_bit (q : BitVec 6) {n : Nat} (h : n < 6) : (q &&& ~~~ BitVec.ofNat 6 (2 ^ n)).getLsbD n = false := by
  have hall : ∀ n < 6, (~~~ BitVec.ofNat 6 (2 ^ n)).getLsbD n = false := by decide
  rw [BitVec.getLsbD_and, hall n h, Bool.and_false]

/-- A rail enabled (R90): its output is high, and the sequence waits for it. -/
theorem enableRail_spec (s : State) {n : Nat} (h : n < 6) :
    (s.enableRail n).power = { s.power with phase := .waitRail n } ∧ (s.enableRail n).pins.seq.getLsbD n = true ∧
    OnlyParts [.pins, .power] s (s.enableRail n) ∧ (s.enableRail n).regs = s.regs :=
  ⟨rfl, seqHigh_bit _ h, (OnlyParts.modPins (by decide) s _).trans (OnlyParts.modPower (by decide) _ _), rfl⟩

/-- A rail switched off: its output is low, its range left. -/
theorem disableRail_spec (s : State) {n : Nat} (h : n < 6) :
    (s.disableRail n).pins.seq.getLsbD n = false ∧ (s.disableRail n).fldBit PW_STAT.RAILOK n = false := by
  refine ⟨?_, railOk_bit _ false h⟩
  rw [State.disableRail, State.railOk, State.setFldBit_pins]
  exact seqLow_bit _ h

theorem disableRail_frame (s : State) (n : Nat) :
    OnlyParts [.regs, .tickMem, .pins] s (s.disableRail n) ∧ OnlyRegs [PW_STAT.REG.addr] s (s.disableRail n) :=
  ⟨(OnlyParts.modPins (by decide) s _).trans ((railOk_parts _ n false).mono (by simp)),
    (OnlyRegs.of_regs rfl).trans (railOk_regs _ n false)⟩

@[simp] theorem disableRail_power (s : State) (n : Nat) : (s.disableRail n).power = s.power := railOk_power _ n false

/-! ### Every output off -/

theorem disableRails_fld (l : List Nat) (s : State) :
    (l.foldl State.disableRail s).fld PW_STAT.RAILOK = l.foldl bitCleared (s.fld PW_STAT.RAILOK) ∧
    (l.foldl State.disableRail s).pins.seq = l.foldl (fun q n => q &&& ~~~ BitVec.ofNat 6 (2 ^ n)) s.pins.seq := by
  induction l generalizing s with
  | nil => exact ⟨rfl, rfl⟩
  | cons n l ih =>
    have hfld : (s.disableRail n).fld PW_STAT.RAILOK = bitCleared (s.fld PW_STAT.RAILOK) n := State.fld_setFldBit_false (s.setSeq n false) n rfl
    have hseq : (s.disableRail n).pins.seq = s.pins.seq &&& ~~~ BitVec.ofNat 6 (2 ^ n) := by
      rw [State.disableRail, State.railOk, State.setFldBit_pins]
      rfl
    obtain ⟨hf, hs⟩ := ih (s.disableRail n)
    rw [hfld] at hf
    rw [hseq] at hs
    exact ⟨hf, hs⟩

theorem railsOff_frame (s : State) : OnlyParts [.regs, .tickMem, .pins] s s.railsOff ∧ OnlyRegs [PW_STAT.REG.addr] s s.railsOff :=
  State.each_keeps (fun t => OnlyParts [.regs, .tickMem, .pins] s t ∧ OnlyRegs [PW_STAT.REG.addr] s t) State.disableRail _ s
    ⟨OnlyParts.refl _ s, OnlyRegs.refl _ s⟩
    (fun t ⟨hp, hr⟩ n _ => ⟨hp.trans (disableRail_frame t n).1, hr.trans (disableRail_frame t n).2⟩)

/-- With every rail switched off (R91, R94) no output is high and no rail in range. -/
theorem railsOff_spec (s : State) : s.railsOff.pins.seq = 0 ∧ s.railsOff.fld PW_STAT.RAILOK = 0 := by
  have hfld : ∀ v < 64, (List.range 6).reverse.foldl bitCleared v = 0 := by decide
  have hseq : ∀ q : BitVec 6, (List.range 6).reverse.foldl (fun q n => q &&& ~~~ BitVec.ofNat 6 (2 ^ n)) q = 0 := by decide
  obtain ⟨hf, hs⟩ := disableRails_fld (List.range 6).reverse s
  exact ⟨hs.trans (hseq _), hf.trans (hfld _ (s.fld_lt PW_STAT.RAILOK))⟩

theorem railsOff_power (s : State) : s.railsOff.power = s.power := (railsOff_frame s).1.2 .power (by decide)

end Sys2Proof.Machine
end

section
namespace Sys2Proof.Machine

/-! ### The sequence of the rails (R89 to R92) -/

theorem railInRange_of_wait {s : State} {n : Nat} (h : s.power.phase = .waitRail n) :
    s.railInRange = (s.railOk n true).modPower (fun p => { p with phase := .dwell n }) := by
  simp only [State.railInRange, h]

theorem dwellEnd_of_dwell {s : State} {n : Nat} (failed : Nat) (h : s.power.phase = .dwell n) :
    s.dwellEnd failed = if n < 5 then s.enableRail (n + 1) else s.bootStart failed := by
  simp only [State.dwellEnd, h]

/-- The first failure of a sequence waits for the repeat. -/
theorem railTimeout_first {s : State} {n : Nat} (h : s.power.phase = .waitRail n) (ha : s.power.attempt = 1) :
    s.railTimeout = (s.railsOff.setFld PW_STAT.SEQRAIL n).modPower (fun p => { p with phase := .retryWait, failRecord := some n }) := by
  simp only [State.railTimeout, h, ha, if_true]

/-- The second holds, with FAULT_L asserted. -/
theorem railTimeout_second {s : State} {n : Nat} (h : s.power.phase = .waitRail n) (ha : s.power.attempt = 2) :
    s.railTimeout = (((s.railsOff.setFld PW_STAT.SEQRAIL n).modPower (fun p => { p with phase := .hold })).setBit FB_STAT.FAULTL).modPins
      (fun p => { p with faultL := true }) := by
  simp only [State.railTimeout, h, ha]
  rfl

theorem retryRails_of_wait {s : State} (h : s.power.phase = .retryWait) :
    s.retryRails = (s.modPower (fun p => { p with attempt := 2 })).enableRail 0 := by
  simp only [State.retryRails, h]

theorem downStep_of_down {s : State} {n : Nat} (h : s.power.phase = .down (n + 1)) :
    s.downStep = (s.disableRail n).modPower (fun p => { p with phase := .down n }) := by
  simp only [State.downStep, h]

theorem downStep_of_last {s : State} (h : s.power.phase = .down 0) :
    s.downStep = s.modPower (fun p => { p with phase := .off, hibernate := p.porst && p.hibernatePending, hibernatePending := false }) := by
  simp only [State.downStep, h]

theorem next_eq {s t : State} (h : s = t) : (Host.Outcome.next s : Host.Outcome State Fault Refusal) = .next t := congrArg _ h

/-- PORST_L high (R57, R89 to R91): the state that the sequence starts from. -/
def State.porstHigh (s : State) (powerOn tpEn : Bool) : State :=
  ((({ s.rebooted with tick := 0 } : State).setFld PW_STAT.RSTCAUSE (if powerOn then 0 else 1)).setFld SC_STAT.TESTMODE (if tpEn then 1 else 0)).modPower
    (fun p => { p with porst := true })

theorem porstRise_of_low {s : State} (powerOn tpEn : Bool) (h : s.power.porst = false) :
    s.porstRise powerOn tpEn = (s.porstHigh powerOn tpEn).enableRail 0 := if_neg (Bool.eq_false_iff.mp h)

theorem State.fld_modPower (s : State) (f : Power → Power) (g : Fld) : (s.modPower f).fld g = s.fld g := congrFun (State.fld_congr rfl) g
theorem State.fld_modPins (s : State) (f : Pins → Pins) (g : Fld) : (s.modPins f).fld g = s.fld g := congrFun (State.fld_congr rfl) g
theorem State.reg_modPower (s : State) (f : Power → Power) (a : Nat) : (s.modPower f).reg a = s.reg a := rfl

theorem porstHigh_regs (s : State) (powerOn tpEn : Bool) :
    (s.porstHigh powerOn tpEn).fld PW_STAT.RSTCAUSE = (if powerOn then 0 else 1) ∧ (s.porstHigh powerOn tpEn).bit SC_STAT.TESTMODE = tpEn ∧
    (∀ a : Nat, a ∉ [PW_STAT.REG.addr, SC_STAT.REG.addr] → (s.porstHigh powerOn tpEn).reg a = resetWord a) := by
  refine ⟨?_, ?_, fun a ha => ?_⟩
  · rw [State.porstHigh, State.fld_modPower, State.fld_setFld_addr _ _ _ _ (by decide), State.fld_setFld_same _ _ _ rfl]
    cases powerOn <;> rfl
  · rw [State.bit, State.porstHigh, State.fld_modPower, State.fld_setFld_same _ _ _ rfl]
    cases tpEn <;> rfl
  · simp only [List.mem_cons, List.not_mem_nil, or_false, not_or] at ha
    rw [State.porstHigh, State.reg_modPower, State.reg_setFld_other _ SC_STAT.TESTMODE _ _ ha.2, State.reg_setFld_other _ PW_STAT.RSTCAUSE _ _ ha.1]
    rfl

/-! ### PORST_L falls (R91, R92, R104) -/

/-- The pins at their levels in reset, FAULT_L released, PORST_L low. -/
def State.heldLow (s : State) : State :=
  (((s.modPins Pins.held).clrBit FB_STAT.FAULTL).modPins (fun p => { p with faultL := false })).modPower
    (fun p => { p with porst := false, hibernate := false, supplyReset := false })

/-- The state that a fall of PORST_L leads to before the rails: gates closed, retract, links down, pins held. -/
def State.porstLow (s : State) : State := ((s.closeAllGates.retractTrigger.linkDown 0).linkDown 1).heldLow

theorem porstFall_of_high {s : State} (h : s.power.porst = true) :
    s.porstFall = match s.power.phase, s.porstLow.topSeq with
      | .done, _ => s.porstLow.powerDown
      | .down _, _ => s.porstLow
      | _, some n => (s.porstLow.disableRail n).modPower (fun p => { p with phase := .down n })
      | _, none => s.porstLow.modPower (fun p => { p with phase := .off }) := by
  simp only [State.porstFall, h, Bool.not_true, Bool.false_eq_true, if_false]
  rfl

/-- What a fall of PORST_L brings about, whatever the rails do then. -/
structure State.CutOff (t : State) : Prop where
  porst : t.power.porst = false
  faultL : t.pins.faultL = false
  faultBit : t.bit FB_STAT.FAULTL = false
  coasting : t.spState = spCoasting
  drive : t.spindle.drive = .off
  brkG : t.pins.brkG = false
  links : (t.ctrl 0).linkUp = false ∧ (t.ctrl 1).linkUp = false

/-- The retract-domain trigger leaves the spindle Coasting, its drive off (R104, R271). -/
theorem State.retractTrigger_spindle (s : State) : s.retractTrigger.spState = spCoasting ∧ s.retractTrigger.spindle.drive = .off := by
  constructor
  · have hgoto : ∀ u : State, (u.spGoto spCoasting).spState = spCoasting := fun u => by
      show ((u.setFld SP_STAT.STATE spCoasting).clrBit SP_STAT.ATSPEED).fld SP_STAT.STATE = spCoasting
      rw [State.clrBit, State.fld_setFld_other _ _ _ _ rfl rfl rfl, State.fld_setFld_same _ _ _ rfl]
      rfl
    exact hgoto _
  · unfold State.retractTrigger
    dsimp only
    split <;> rfl

theorem State.heldLow_cutOff {u : State} (hstate : u.spState = spCoasting) (hdrive : u.spindle.drive = .off)
    (hlinks : (u.ctrl 0).linkUp = false ∧ (u.ctrl 1).linkUp = false) : u.heldLow.CutOff := by
  refine ⟨rfl, rfl, ?_, ?_, hdrive, rfl, hlinks⟩
  · rw [State.bit, State.heldLow, State.fld_modPower, State.fld_modPins, State.clrBit, State.fld_setFld_same _ _ _ rfl]
    rfl
  · rw [State.spState, State.heldLow, State.fld_modPower, State.fld_modPins, State.clrBit, State.fld_setFld_addr _ _ _ _ (by decide),
      State.fld_modPins]
    exact hstate

/-- What a state has of its view. -/
theorem State.of_view {t : State} {v : View} (h : t.view = v) :
    t.spState = v.drives.spState ∧ t.spindle = v.drives.spindle ∧ t.power = v.core.power ∧ ∀ d, (t.ctrl d).linkUp = v.core.links d := by
  subst h
  exact ⟨rfl, rfl, rfl, fun _ => rfl⟩

/-- A link that goes down leaves the spindle, the supply and the other links. -/
theorem State.linkDown_leaves (s : State) (c : Nat) :
    (s.linkDown c).spState = s.spState ∧ (s.linkDown c).spindle = s.spindle ∧ (s.linkDown c).power = s.power ∧
    ∀ d, ((s.linkDown c).ctrl d).linkUp = if d = c then false else (s.ctrl d).linkUp :=
  State.of_view (s.linkDown_view c)

/-- Both links down. -/
theorem State.linksDown_leaves (s : State) :
    ((s.linkDown 0).linkDown 1).spState = s.spState ∧ ((s.linkDown 0).linkDown 1).spindle = s.spindle ∧
    ((s.linkDown 0).linkDown 1).power = s.power ∧ (((s.linkDown 0).linkDown 1).ctrl 0).linkUp = false ∧
    (((s.linkDown 0).linkDown 1).ctrl 1).linkUp = false := by
  obtain ⟨hstate0, hspindle0, hpower0, hlink0⟩ := s.linkDown_leaves 0
  obtain ⟨hstate1, hspindle1, hpower1, hlink1⟩ := (s.linkDown 0).linkDown_leaves 1
  exact ⟨hstate1.trans hstate0, hspindle1.trans hspindle0, hpower1.trans hpower0, (hlink1 0).trans (hlink0 0), hlink1 1⟩

/-- The links go down, and what the trigger left of the spindle stays. -/
theorem State.porstLow_cutOff (s : State) : s.porstLow.CutOff := by
  obtain ⟨hcoast, hdrive⟩ := s.closeAllGates.retractTrigger_spindle
  obtain ⟨hstate, hspindle, -, hlinks⟩ := s.closeAllGates.retractTrigger.linksDown_leaves
  exact State.heldLow_cutOff (hstate.trans hcoast) ((congrArg SpindleSt.drive hspindle).trans hdrive) hlinks

theorem State.CutOff.of_view {s t : State} (h : s.CutOff) (hcore : t.view.core = s.view.core) (hdrives : t.view.drives = s.view.drives) :
    t.CutOff := by
  have hpins : t.pins = s.pins := congrArg ViewDrives.pins hdrives
  have hspindle : t.spindle = s.spindle := congrArg ViewDrives.spindle hdrives
  have hpower := State.power_of_core hcore
  exact ⟨hpower ▸ h.porst, hpins ▸ h.faultL, (State.bit_of_core hcore (by decide)).trans h.faultBit,
    (congrArg ViewDrives.spState hdrives).trans h.coasting, hspindle ▸ h.drive, hpins ▸ h.brkG,
    (State.linkUp_of_core hcore 0).trans h.links.1, (State.linkUp_of_core hcore 1).trans h.links.2⟩

/-- Moves of the sequencer and its outputs leave what the fall brought about. -/
theorem State.CutOff.setSeq {t : State} (h : t.CutOff) (n : Nat) (b : Bool) : (t.setSeq n b).CutOff :=
  ⟨h.porst, h.faultL, h.faultBit, h.coasting, h.drive, h.brkG, h.links⟩

theorem State.CutOff.setPhase {t : State} (h : t.CutOff) (ph : SeqPhase) : (t.modPower (fun p => { p with phase := ph })).CutOff :=
  ⟨h.porst, h.faultL, h.faultBit, h.coasting, h.drive, h.brkG, h.links⟩

theorem State.CutOff.disableRail {t : State} (h : t.CutOff) (n : Nat) : (t.disableRail n).CutOff :=
  (h.setSeq n false).of_view (congrArg View.core (railOk_view _ n false)) (congrArg View.drives (railOk_view _ n false))

theorem State.CutOff.hold {t : State} (h : t.CutOff) : (t.modPins Pins.held).CutOff :=
  ⟨h.porst, h.faultL, h.faultBit, h.coasting, h.drive, rfl, h.links⟩

theorem if_same_false {c : Prop} [Decidable c] {b : Bool} (h : b = false) : (if c then false else b) = false := by
  rw [h, ite_self]

theorem State.CutOff.unlink {t : State} (h : t.CutOff) (c : Nat) : (t.modCtrl c (fun k => { k with linkUp := false })).CutOff := by
  have hview := t.unlink_view c (f := fun k => { k with linkUp := false }) (fun _ => rfl)
  refine ⟨h.porst, h.faultL, h.faultBit, h.coasting, h.drive, h.brkG, ?_, ?_⟩
  · refine (congrArg (fun v => v.core.links 0) hview).trans ?_
    exact if_same_false h.links.1
  · refine (congrArg (fun v => v.core.links 1) hview).trans ?_
    exact if_same_false h.links.2

/-- The power-down (R92) from the stamps on: PW_SEQ5 low, pins held, links down. -/
def State.downStart (s : State) : State :=
  (((s.disableRail 5).modPower (fun p => { p with phase := .down 5 })).modPins Pins.held).each [0, 1]
    (fun t c => t.modCtrl c (fun k => { k with linkUp := false }))

theorem powerDown_eq (s : State) : s.powerDown = (s.silClose true).downStart := rfl

theorem State.CutOff.downStart {t : State} (h : t.CutOff) :
    t.downStart.CutOff ∧ t.downStart.power.phase = .down 5 ∧ t.downStart.pins.seq.getLsbD 5 = false :=
  ⟨((((h.disableRail 5).setPhase (.down 5)).hold.unlink 0).unlink 1), rfl, (disableRail_spec t (by decide)).1⟩

/-- The controlled power-down (R92) once PORST_L is low. -/
theorem State.CutOff.powerDown {t : State} (h : t.CutOff) :
    t.powerDown.CutOff ∧ t.powerDown.power.phase = .down 5 ∧ t.powerDown.pins.seq.getLsbD 5 = false := by
  obtain ⟨hcore, hdrives⟩ := t.silClose_leaves true
  rw [powerDown_eq]
  exact (h.of_view hcore hdrives).downStart

end Sys2Proof.Machine
end

section
namespace Sys2Proof.Machine

/-! ### What each row of the rails leaves (O11) -/

theorem porstRise_spec (s : State) (powerOn tpEn : Bool) (h : s.power.porst = false) :
    let t := s.porstRise powerOn tpEn
    t.tick = 0 ∧ t.power.porst = true ∧ t.power.phase = .waitRail 0 ∧ t.pins.seq = 1 ∧
    t.fld PW_STAT.RSTCAUSE = (if powerOn then 0 else 1) ∧ t.bit SC_STAT.TESTMODE = tpEn ∧ t.nv = s.nv ∧ t.mem.mram = s.mem.mram ∧
    t.map.media = s.map.media ∧ t.freeIdx = s.freeIdx ∧ t.pending = s.pending ∧
    (∀ a : Nat, a ∉ [PW_STAT.REG.addr, SC_STAT.REG.addr] → t.reg a = resetWord a) := by
  obtain ⟨hcause, htest, hregs⟩ := porstHigh_regs s powerOn tpEn
  have hseq : (0#6 ||| BitVec.ofNat 6 (2 ^ 0)) = 1 := by decide
  rw [porstRise_of_low powerOn tpEn h]
  exact ⟨rfl, rfl, rfl, hseq, hcause, htest, rfl, rfl, rfl, rfl, rfl, hregs⟩

theorem railInRange_spec {s : State} {n : Nat} (hn : n < 6) (h : s.power.phase = .waitRail n) :
    s.railInRange.power = { s.power with phase := .dwell n } ∧ s.railInRange.fldBit PW_STAT.RAILOK n = true ∧
    OnlyParts [.regs, .tickMem, .power] s s.railInRange ∧ OnlyRegs [PW_STAT.REG.addr] s s.railInRange := by
  rw [railInRange_of_wait h]
  refine ⟨?_, railOk_bit s true hn, ((railOk_parts s n true).mono (by simp)).trans (OnlyParts.modPower (by decide) _ _),
    (railOk_regs s n true).trans (OnlyRegs.of_regs rfl)⟩
  show ({ (s.railOk n true).power with phase := .dwell n } : Power) = _
  rw [railOk_power]

/-- A failed sequence (R91): every output off, SEQRAIL the rail that stayed out of range. -/
def State.seqFailed (s : State) (n : Nat) : State := s.railsOff.setFld PW_STAT.SEQRAIL n

theorem seqFailed_spec (s : State) (n : Nat) :
    (s.seqFailed n).power = s.power ∧ (s.seqFailed n).pins.seq = 0 ∧ (s.seqFailed n).fld PW_STAT.SEQRAIL = n % 16 ∧
    (s.seqFailed n).fld PW_STAT.RAILOK = 0 ∧ OnlyParts [.regs, .tickMem, .pins, .power] s (s.seqFailed n) ∧
    OnlyRegs [PW_STAT.REG.addr] s (s.seqFailed n) := by
  obtain ⟨hseq, hok⟩ := railsOff_spec s
  obtain ⟨hparts, hregs⟩ := railsOff_frame s
  refine ⟨railsOff_power s, hseq, State.fld_setFld_same _ _ _ rfl, ?_, (hparts.mono (by simp)).trans (OnlyParts.setFld (by decide) _ _ _),
    hregs.trans (OnlyRegs.setFld _ _ _ (by decide))⟩
  rw [State.seqFailed, State.fld_setFld_other _ _ _ _ rfl rfl rfl]
  exact hok

theorem railTimeout_first_spec {s : State} {n : Nat} (h : s.power.phase = .waitRail n) (ha : s.power.attempt = 1) :
    s.railTimeout.power = { s.power with phase := .retryWait, failRecord := some n } ∧ s.railTimeout.pins.seq = 0 ∧
    s.railTimeout.fld PW_STAT.SEQRAIL = n % 16 ∧ s.railTimeout.fld PW_STAT.RAILOK = 0 ∧
    OnlyParts [.regs, .tickMem, .pins, .power] s s.railTimeout ∧ OnlyRegs [PW_STAT.REG.addr] s s.railTimeout := by
  obtain ⟨hpower, hseq, hrail, hok, hparts, hregs⟩ := seqFailed_spec s n
  rw [railTimeout_first h ha]
  refine ⟨?_, hseq, hrail, hok, hparts.trans (OnlyParts.modPower (by decide) _ _), hregs.trans (OnlyRegs.of_regs rfl)⟩
  show ({ (s.seqFailed n).power with phase := .retryWait, failRecord := some n } : Power) = _
  rw [hpower]

/-- The hold after the second failure (R91, R104). -/
def State.seqHeld (s : State) : State :=
  ((s.modPower (fun p => { p with phase := .hold })).setBit FB_STAT.FAULTL).modPins (fun p => { p with faultL := true })

theorem seqHeld_spec (s : State) :
    s.seqHeld.power = { s.power with phase := .hold } ∧ s.seqHeld.pins.seq = s.pins.seq ∧ s.seqHeld.pins.faultL = true ∧
    s.seqHeld.fld PW_STAT.SEQRAIL = s.fld PW_STAT.SEQRAIL ∧ s.seqHeld.bit FB_STAT.FAULTL = true ∧
    OnlyParts [.regs, .tickMem, .pins, .power] s s.seqHeld ∧ OnlyRegs [PW_STAT.REG.addr, FB_STAT.REG.addr] s s.seqHeld := by
  have hregs : OnlyRegs [FB_STAT.REG.addr] s s.seqHeld :=
    (OnlyRegs.of_regs rfl).trans ((OnlyRegs.setBit (s.modPower _) FB_STAT.FAULTL (by decide)).trans (OnlyRegs.of_regs rfl))
  refine ⟨rfl, rfl, rfl, State.fld_of_onlyRegs hregs (by decide), ?_, ?_, fun a ha => hregs a (fun hm => ha (List.mem_cons_of_mem _ hm))⟩
  · rw [State.bit, State.seqHeld, State.fld_modPins]
    exact State.bit_setBit_same _ _ rfl
  · exact ((OnlyParts.modPower (by decide) s _).trans (OnlyParts.setBit (by decide) (by decide) _ _)).trans (OnlyParts.modPins (by decide) _ _)

theorem railTimeout_second_spec {s : State} {n : Nat} (h : s.power.phase = .waitRail n) (ha : s.power.attempt = 2) :
    s.railTimeout.power = { s.power with phase := .hold } ∧ s.railTimeout.pins.seq = 0 ∧ s.railTimeout.pins.faultL = true ∧
    s.railTimeout.fld PW_STAT.SEQRAIL = n % 16 ∧ s.railTimeout.bit FB_STAT.FAULTL = true ∧
    OnlyParts [.regs, .tickMem, .pins, .power] s s.railTimeout ∧ OnlyRegs [PW_STAT.REG.addr, FB_STAT.REG.addr] s s.railTimeout := by
  obtain ⟨hpower, hseq, hrail, -, hparts, hregs⟩ := seqFailed_spec s n
  obtain ⟨hpower', hseq', hpin, hrail', hbit, hparts', hregs'⟩ := seqHeld_spec (s.seqFailed n)
  rw [hpower] at hpower'
  have heq : s.railTimeout = (s.seqFailed n).seqHeld := railTimeout_second h ha
  rw [heq]
  exact ⟨hpower', hseq'.trans hseq, hpin, hrail'.trans hrail, hbit, hparts.trans hparts',
    OnlyRegs.trans (fun a ha => hregs a (fun hm => ha (List.mem_singleton.mp hm ▸ List.mem_cons_self))) hregs'⟩

theorem retryRails_spec {s : State} (h : s.power.phase = .retryWait) :
    s.retryRails.power = { s.power with attempt := 2, phase := .waitRail 0 } ∧ s.retryRails.pins.seq.getLsbD 0 = true ∧
    OnlyParts [.pins, .power] s s.retryRails := by
  rw [retryRails_of_wait h]
  obtain ⟨hpower, hseq, hparts, -⟩ := enableRail_spec (s.modPower (fun p => { p with attempt := 2 })) (n := 0) (by decide)
  exact ⟨hpower, hseq, (OnlyParts.modPower (by decide) s _).trans hparts⟩

/-- The fall of PORST_L cuts the device off in every phase; from a device that ran, it starts the power-down. -/
theorem porstFall_spec {s : State} (h : s.power.porst = true) :
    s.porstFall.CutOff ∧ (s.power.phase = .done → s.porstFall.power.phase = .down 5 ∧ s.porstFall.pins.seq.getLsbD 5 = false) := by
  have hlow := s.porstLow_cutOff
  rw [porstFall_of_high h]
  split
  · obtain ⟨hcut, hphase, hseq⟩ := hlow.powerDown
    exact ⟨hcut, fun _ => ⟨hphase, hseq⟩⟩
  · rename_i hphase
    exact ⟨hlow, fun hdone => absurd (hdone.symm.trans hphase) (by simp)⟩
  · rename_i n _ hdone _
    exact ⟨(hlow.disableRail n).setPhase _, fun hphase => absurd hphase hdone⟩
  · rename_i _ hdone _
    exact ⟨hlow.setPhase _, fun hphase => absurd hphase hdone⟩

theorem downStep_spec {s : State} {n : Nat} (hn : n < 5) (h : s.power.phase = .down (n + 1)) :
    s.downStep.power = { s.power with phase := .down n } ∧ s.downStep.pins.seq.getLsbD n = false ∧
    s.downStep.fldBit PW_STAT.RAILOK n = false ∧ OnlyParts [.regs, .tickMem, .pins, .power] s s.downStep ∧
    OnlyRegs [PW_STAT.REG.addr] s s.downStep := by
  obtain ⟨hseq, hok⟩ := disableRail_spec s (n := n) (by omega)
  obtain ⟨hparts, hregs⟩ := disableRail_frame s n
  rw [downStep_of_down h]
  refine ⟨?_, hseq, hok, (hparts.mono (by simp)).trans (OnlyParts.modPower (by decide) _ _), hregs.trans (OnlyRegs.of_regs rfl)⟩
  show ({ (s.disableRail n).power with phase := .down n } : Power) = _
  rw [disableRail_power]

/-! ### Rail monitors (R93 to R95) -/

theorem railTrip_of_watched {s : State} {r : Rail} :
    s.railWatched r = true → s.railTrip r = match r with | .vana => s.vanaTrip | .vser => s.vserTrip | _ => s.supplyReset := by
  intro h
  unfold State.railTrip
  rw [h]
  rfl

theorem railTrip_of_unwatched {s : State} {r : Rail} (h : s.railWatched r = false) : s.railTrip r = s := by
  unfold State.railTrip
  rw [h]
  rfl

/-- VSER lost (R93): both links down until it is back. -/
def State.vserLost (s : State) : State := (((s.railOk 2 false).modPower (fun p => { p with vserDown := true })).linkDown 0).linkDown 1

theorem vserLost_spec (s : State) :
    s.vserLost.power.vserDown = true ∧ (s.vserLost.ctrl 0).linkUp = false ∧ (s.vserLost.ctrl 1).linkUp = false := by
  obtain ⟨-, -, hpower, hlink0, hlink1⟩ := ((s.railOk 2 false).modPower (fun p => { p with vserDown := true })).linksDown_leaves
  exact ⟨congrArg Power.vserDown hpower, hlink0, hlink1⟩

/-- The reset part of a supply reset, from a state whose gates are closed and actuators retracting. -/
def State.supplyHeld (s : State) : State :=
  (s.rebooted.setFld PW_STAT.RSTCAUSE 2).modPower (fun p => { p with porst := true, supplyReset := true })

theorem supplyHeld_spec (s : State) :
    s.supplyHeld.power.supplyReset = true ∧ s.supplyHeld.live = false ∧ s.supplyHeld.pins.seq = 0 ∧ s.supplyHeld.fld PW_STAT.RSTCAUSE = 2 ∧
    s.supplyHeld.tick = 0 ∧ s.supplyHeld.nv = s.nv ∧ s.supplyHeld.mem.mram = s.mem.mram ∧ s.supplyHeld.pending = s.pending ∧
    (∀ a : Nat, a ≠ PW_STAT.REG.addr → s.supplyHeld.reg a = resetWord a) := by
  refine ⟨rfl, rfl, rfl, ?_, rfl, rfl, rfl, rfl, fun a ha => ?_⟩
  · rw [State.supplyHeld, State.fld_modPower, State.fld_setFld_same _ _ _ rfl]
    rfl
  · rw [State.supplyHeld, State.reg_modPower, State.reg_setFld_other _ PW_STAT.RSTCAUSE _ _ ha]
    rfl

/-- What retracts before a supply reset leaves of what it keeps. -/
theorem retracted_keeps (s : State) :
    s.closeAllGates.retractTrigger.nv = s.nv ∧ s.closeAllGates.retractTrigger.mem.mram = s.mem.mram ∧
    s.closeAllGates.retractTrigger.pending = s.pending := by
  have hstores : s.closeAllGates.retractTrigger.view.stores = s.view.stores :=
    s.closeAllGates.retractTrigger_leaves.2.trans s.closeAllGates_leaves.2
  exact ⟨congrArg ViewStores.nv hstores, congrArg ViewStores.mram hstores,
    (State.retractTrigger_queue s.closeAllGates).trans (State.closeAllGates_queue s)⟩

theorem supplyReset_spec (s : State) :
    s.supplyReset.power.supplyReset = true ∧ s.supplyReset.live = false ∧ s.supplyReset.pins.seq = 0 ∧ s.supplyReset.fld PW_STAT.RSTCAUSE = 2 ∧
    s.supplyReset.tick = 0 ∧ s.supplyReset.nv = s.nv ∧ s.supplyReset.mem.mram = s.mem.mram ∧ s.supplyReset.pending = s.pending ∧
    (∀ a : Nat, a ≠ PW_STAT.REG.addr → s.supplyReset.reg a = resetWord a) := by
  obtain ⟨hnv, hmram, hpending⟩ := retracted_keeps s
  obtain ⟨hheld, hlive, hseq, hcause, htick, hnv', hmram', hpending', hregs⟩ := supplyHeld_spec s.closeAllGates.retractTrigger
  exact ⟨hheld, hlive, hseq, hcause, htick, hnv'.trans hnv, hmram'.trans hmram, hpending'.trans hpending, hregs⟩

theorem supplyRelease_of_reset {s : State} (vmLow : Bool) (h : s.power.supplyReset = true) :
    s.supplyRelease vmLow =
      ((s.setFld PW_STAT.RSTCAUSE (if vmLow then 0 else 2)).modPower (fun p => { p with supplyReset := false })).enableRail 0 := by
  simp only [State.supplyRelease, h, Bool.not_true, Bool.false_eq_true, if_false]

theorem supplyRelease_spec {s : State} (vmLow : Bool) (h : s.power.supplyReset = true) :
    (s.supplyRelease vmLow).fld PW_STAT.RSTCAUSE = (if vmLow then 0 else 2) ∧
    (s.supplyRelease vmLow).power = { s.power with supplyReset := false, phase := .waitRail 0 } ∧
    (s.supplyRelease vmLow).pins.seq.getLsbD 0 = true ∧ OnlyParts [.regs, .tickMem, .pins, .power] s (s.supplyRelease vmLow) ∧
    OnlyRegs [PW_STAT.REG.addr] s (s.supplyRelease vmLow) := by
  rw [supplyRelease_of_reset vmLow h]
  have hshown : (s.setFld PW_STAT.RSTCAUSE (if vmLow then 0 else 2)).fld PW_STAT.RSTCAUSE = if vmLow then 0 else 2 := by
    rw [State.fld_setFld_same _ _ _ rfl]
    cases vmLow <;> rfl
  obtain ⟨hpower, hseq, hparts, hregs⟩ :=
    enableRail_spec ((s.setFld PW_STAT.RSTCAUSE (if vmLow then 0 else 2)).modPower (fun p => { p with supplyReset := false })) (n := 0) (by decide)
  exact ⟨hshown, hpower, hseq,
    ((OnlyParts.setFld (by decide) s _ _).trans (OnlyParts.modPower (by decide) _ _)).trans (hparts.mono (by simp)),
    (OnlyRegs.setFld s PW_STAT.RSTCAUSE _ (by decide)).trans (OnlyRegs.of_regs hregs)⟩

/-! ### VSER is back -/

/-- One port's link, out of PERST and with VSER there. -/
def State.trainLink (s : State) (c : Nat) : State :=
  if (s.ctrl c).perst && s.hasCtrl c && !s.power.vserDown then s.modCtrl c (fun k => { k with linkUp := true }) else s

theorem trainLinks_eq (s : State) : s.trainLinks = (s.trainLink 0).trainLink 1 := rfl

theorem trainLink_frame (s : State) (c : Nat) :
    OnlyParts [.nvme] s (s.trainLink c) ∧ (s.trainLink c).hasCtrl = s.hasCtrl := by
  unfold State.trainLink
  split
  · exact ⟨OnlyParts.modCtrl (by decide) s c _, rfl⟩
  · exact ⟨OnlyParts.refl _ s, rfl⟩

theorem trainLink_ctrl_same (s : State) (c : Nat) :
    ((s.trainLink c).ctrl c).linkUp = ((s.ctrl c).linkUp || ((s.ctrl c).perst && s.hasCtrl c && !s.power.vserDown)) := by
  unfold State.trainLink
  split
  · rename_i h
    rw [h, Bool.or_true, State.ctrl, State.modCtrl, SMap.get_modify, if_pos rfl]
  · rename_i h
    rw [Bool.eq_false_iff.mpr h, Bool.or_false]

theorem trainLink_ctrl_other (s : State) {c d : Nat} (hd : d ≠ c) : (s.trainLink c).ctrl d = s.ctrl d := by
  unfold State.trainLink
  split
  · rw [State.ctrl, State.modCtrl, SMap.get_modify, if_neg hd]
    rfl
  · rfl

/-- With VSER there, the links out of PERST train (R93, R683). -/
theorem trainLinks_spec {s : State} (h : s.power.vserDown = false) :
    (s.trainLinks.ctrl 0).linkUp = ((s.ctrl 0).linkUp || (s.ctrl 0).perst) ∧
    (s.trainLinks.ctrl 1).linkUp = ((s.ctrl 1).linkUp || ((s.ctrl 1).perst && s.hasCtrl 1)) ∧ OnlyParts [.nvme] s s.trainLinks := by
  obtain ⟨hparts, hhas⟩ := trainLink_frame s 0
  have hpower : (s.trainLink 0).power = s.power := hparts.2 .power (by decide)
  have hlink := trainLink_ctrl_same (s.trainLink 0) 1
  rw [trainLink_ctrl_other s (by decide), hhas, hpower, h, Bool.not_false, Bool.and_true] at hlink
  have hlink0 := trainLink_ctrl_same s 0
  rw [h, Bool.not_false, Bool.and_true, show s.hasCtrl 0 = true from rfl, Bool.and_true] at hlink0
  rw [trainLinks_eq]
  exact ⟨(congrArg Ctrl.linkUp (trainLink_ctrl_other (s.trainLink 0) (by decide))).trans hlink0, hlink, hparts.trans (trainLink_frame _ 1).1⟩

/-- VSER in range again, before the links train. -/
def State.vserBack (s : State) : State := (s.railOk 2 true).modPower (fun p => { p with vserDown := false })

theorem vserBack_spec (s : State) :
    s.vserBack.power = { s.power with vserDown := false } ∧ s.vserBack.fldBit PW_STAT.RAILOK 2 = true ∧
    OnlyParts [.regs, .tickMem, .power] s s.vserBack ∧ OnlyRegs [PW_STAT.REG.addr] s s.vserBack := by
  refine ⟨?_, railOk_bit s true (by decide), ((railOk_parts s 2 true).mono (by simp)).trans (OnlyParts.modPower (by decide) _ _),
    (railOk_regs s 2 true).trans (OnlyRegs.of_regs rfl)⟩
  show ({ (s.railOk 2 true).power with vserDown := false } : Power) = _
  rw [railOk_power]

theorem retrain_of_down {s : State} (h : s.power.vserDown = true) : s.retrain = s.vserBack.trainLinks := by
  simp only [State.retrain, h, Bool.not_true, Bool.false_eq_true, if_false]
  rfl

theorem hasCtrl_of_acc {s t : State} (h : t.acc = s.acc) (c : Nat) : t.hasCtrl c = s.hasCtrl c := by
  simp only [State.hasCtrl, State.dualPort, State.topo, State.ac, h]

theorem retrain_spec {s : State} (h : s.power.vserDown = true) :
    s.retrain.power = { s.power with vserDown := false } ∧ s.retrain.fldBit PW_STAT.RAILOK 2 = true ∧
    (s.retrain.ctrl 0).linkUp = ((s.ctrl 0).linkUp || (s.ctrl 0).perst) ∧
    (s.retrain.ctrl 1).linkUp = ((s.ctrl 1).linkUp || ((s.ctrl 1).perst && s.hasCtrl 1)) ∧
    OnlyParts [.regs, .tickMem, .power, .nvme] s s.retrain ∧ OnlyRegs [PW_STAT.REG.addr] s s.retrain := by
  obtain ⟨hpower, hbit, hback, hbackRegs⟩ := vserBack_spec s
  obtain ⟨hlink0, hlink1, htrain⟩ := trainLinks_spec (congrArg Power.vserDown hpower)
  have hctrl : s.vserBack.ctrl = s.ctrl := by
    funext c
    simp only [State.ctrl, show s.vserBack.nvme = s.nvme from hback.2 .nvme (by decide)]
  have hhas : s.vserBack.hasCtrl 1 = s.hasCtrl 1 := hasCtrl_of_acc (hback.2 .acc (by decide)) 1
  have hregs : s.vserBack.trainLinks.regs = s.vserBack.regs := htrain.2 .regs (by decide)
  have hfld : s.vserBack.trainLinks.fldBit PW_STAT.RAILOK 2 = s.vserBack.fldBit PW_STAT.RAILOK 2 := by
    simp only [State.fldBit, State.fld_congr hregs]
  rw [hctrl] at hlink0 hlink1
  rw [hhas] at hlink1
  rw [retrain_of_down h]
  exact ⟨(htrain.2 .power (by decide)).trans hpower, hfld.trans hbit, hlink0, hlink1, (hback.mono (by simp)).trans (htrain.mono (by simp)),
    hbackRegs.trans (OnlyRegs.of_regs hregs)⟩

theorem railTrip_of_other {s : State} {r : Rail} (h : s.railWatched r = true) (ha : r ≠ .vana) (hs : r ≠ .vser) : s.railTrip r = s.supplyReset := by
  rw [railTrip_of_watched h]
  cases r with
  | vana => exact absurd rfl ha
  | vser => exact absurd rfl hs
  | _ => rfl

/-- Settles O11: the sequence of the rails and their monitors. -/
theorem rails : Obligations.rails := by
  unfold Obligations.rails
  refine ⟨fun s powerOn tpEn h => ⟨_, rfl, porstRise_spec s powerOn tpEn h⟩, fun s n hn h => ⟨_, rfl, railInRange_spec hn h⟩,
    fun s n failed hn h => ?dwell, fun s failed h => ?boot, fun s n h ha => ⟨_, rfl, railTimeout_first_spec h ha⟩,
    fun s n h ha => ⟨_, rfl, railTimeout_second_spec h ha⟩, fun s h => ⟨_, rfl, retryRails_spec h⟩, fun s h => ?fall,
    fun s n hn h => ⟨_, rfl, rfl, downStep_spec hn h⟩, fun s h => ?last, fun s h => ?vana, fun s h => ?vser,
    fun s r h ha hs => ?other, fun s r h => next_eq (railTrip_of_unwatched h), fun s vmLow h => ⟨_, rfl, supplyRelease_spec vmLow h⟩,
    fun s h => ⟨_, rfl, retrain_spec h⟩⟩
  case dwell =>
    obtain ⟨hpower, hseq, hparts, -⟩ := enableRail_spec s (n := n + 1) (by omega)
    exact ⟨_, next_eq ((dwellEnd_of_dwell failed h).trans (if_pos hn)), hpower, hseq, hparts⟩
  case boot => exact ⟨_, next_eq ((dwellEnd_of_dwell failed h).trans (if_neg (by decide))), s.bootStart_spec failed⟩
  case fall =>
    obtain ⟨hcut, hdown⟩ := porstFall_spec h
    exact ⟨_, rfl, hcut.porst, hcut.faultL, hcut.faultBit, hcut.coasting, hcut.drive, hcut.brkG, hcut.links.1, hcut.links.2, hdown⟩
  case last =>
    have hstep := downStep_of_last h
    exact ⟨_, next_eq hstep, next_eq hstep, rfl, OnlyParts.modPower (by decide) s _⟩
  case vana => exact ⟨s.railOk 1 false, next_eq (railTrip_of_watched h), railOk_bit s false (by decide), railOk_parts s 1 false, railOk_regs s 1 false⟩
  case vser =>
    obtain ⟨hdown, hlink0, hlink1⟩ := vserLost_spec s
    exact ⟨s.vserLost, next_eq (railTrip_of_watched h), hdown, hlink0, hlink1, rfl⟩
  case other => exact ⟨_, next_eq (railTrip_of_other h ha hs), supplyReset_spec s⟩

end Sys2Proof.Machine
end

section
/-! SUPPORT. A boot load in the midst of a domain apply (O15). -/
namespace Sys2Proof.Machine

/-- A running device at its boot load with both boot-flash slots empty and no image applied, which still holds the image `[1]` that a
domain apply is to give back when it fails. -/
def applyLeftOver : State := { powered [(HM_STAT.FILLDONE, 1)] with acc := { AccordSt.reset with prev := some [1] } }

/-- No slot can be applied, so the boot load enters Base-note mode, and the entry gives the held image back (R672). -/
theorem applyLeftOver_boot_applied : applyLeftOver.accordLoad.acc.applied = [1] := by decide +kernel

theorem applyLeftOver_slot_image (k : Nat) : (applyLeftOver.flashAccord k).image = [] := rfl

/-- Refutes O15: its clause on ACCORD_BOOT_LOAD takes an image applied afterwards for one that a slot holds. No premise keeps the state from
holding the image before a domain apply, which the entry into Base-note mode applies again though both slots are empty. -/
theorem not_accordCommands : ¬ Obligations.accord_commands := by
  rintro ⟨hboot, -⟩
  obtain ⟨t, hexec, -, himage⟩ :=
    hboot applyLeftOver (by decide +kernel) (by decide +kernel) rfl (by decide +kernel) (by decide +kernel)
  have ht : applyLeftOver.accordLoad = t := Host.Outcome.next.inj hexec
  have happlied : t.acc.applied = [1] := ht ▸ applyLeftOver_boot_applied
  have hslot : t.acc.applied = [] := (himage (by simp [happlied])).2.trans (applyLeftOver_slot_image _)
  exact absurd (happlied.symm.trans hslot) (by decide)

end Sys2Proof.Machine
end


section
/-! SUPPORT. A helper that faults while it waits in the map cache (O16). -/
namespace Sys2Proof.Machine

/-- A running device whose helper 1 cleans a line of the map cache: it is Running in role 0x09 and waits for the line's write-back. -/
def cleaningLine : State :=
  ((powered [(HE_STAT.STATE 1, heRunning), (HE_ROLE.ROLE 1, 9)]).modHelper 1 (fun x => { x with blocked := true })).modCache
    (fun c => { c with waitWb := [(1, 5)] })

/-- Its fault ends the wait with the microword that waited (R153). -/
theorem cleaningLine_fault_drops_wait : (cleaningLine.heFault 1 2 1 5).cache.waitWb = [] := by decide +kernel

/-- Refutes O16: its clause on HELPER_FAULT has the map cache unchanged, and what a helper waits for there is dropped at its fault
(assumption 68). -/
theorem not_helperStates : ¬ Obligations.helper_states := by
  rintro ⟨-, -, -, -, -, -, -, -, hfault, -⟩
  obtain ⟨u, -, hu, -, -, -, -, -, -, hframe⟩ :=
    hfault cleaningLine 1 2 1 5 (by decide +kernel) (by decide) (by decide) (by decide) (by decide +kernel)
  have hcache : u.cache = cleaningLine.cache := hframe.2 .cache (by decide)
  have hwait : cleaningLine.cache.waitWb = [] := by rw [← hcache, hu]; exact cleaningLine_fault_drops_wait
  exact absurd hwait (List.cons_ne_nil _ _)

end Sys2Proof.Machine
end


section
/-! SUPPORT. Every step keeps the stores canonical (O4). The laws above say of each operation and of most meanings that they keep the queue and
the stores (`State.Ok`); here the meanings of the enclosure bus follow, then every command, then the step that takes one. -/
namespace Sys2Proof.Machine

variable {ps : List Instr} {s : State}

/-! ### The enclosure bus (R588 to R606) -/

/-- A meaning that only a device out of reset has (assumption 127). -/
theorem Outcome.whileLive_ok {f : State → State} (hs : State.Ok ps s) (hf : ∀ t, State.Ok ps t → State.Ok ps (f t)) :
    Outcome.Ok ps (.next (s.whileLive f)) :=
  Outcome.ok_next (State.whileLive_ok f hs hf)

/-- A meaning that only acts under a guard. -/
theorem Outcome.guarded_ok {b : State → Bool} {f : State → State} (hs : State.Ok ps s) (hf : ∀ t, State.Ok ps t → State.Ok ps (f t)) :
    Outcome.Ok ps (.next (s.whileLive (fun t => t.when (b t) f))) :=
  Outcome.whileLive_ok hs fun _ ht => State.when_ok _ f ht hf

/-- The meaning of a received frame (R594). -/
theorem Outcome.ebRecv_ok {h : EbHdr} {f : State → State} (hs : State.Ok ps s) (hf : ∀ t, State.Ok ps t → State.Ok ps (f t)) :
    Outcome.Ok ps (.next (s.whileLive (fun t => t.ebRecv h f))) :=
  Outcome.whileLive_ok hs fun t ht => State.ebRecv_ok t h f ht hf

/-- The master grants after a change to its list of holders or to its wait. -/
theorem State.grantAfter_ok (f : EbSt → EbSt) (hs : State.Ok ps s) : State.Ok ps (State.grantPump 64 (s.modEb f)) :=
  State.grantPump_ok 64 _ (State.modEb_ok f hs)

theorem execTransmitOpportunity_ok (late : Bool) (s : State) (hs : State.Ok ps s) : Outcome.Ok ps (execTransmitOpportunity late s) :=
  Outcome.whileLive_ok hs fun t ht => State.opportunity_ok t late ht

theorem execPlcaBeacon_ok (s : State) (hs : State.Ok ps s) : Outcome.Ok ps (execPlcaBeacon s) :=
  Outcome.whileLive_ok hs fun t ht => State.plcaBeacon_ok t ht

theorem execPlcaBeaconLoss_ok (s : State) (hs : State.Ok ps s) : Outcome.Ok ps (execPlcaBeaconLoss s) :=
  Outcome.whileLive_ok hs fun _ ht => State.setBit_ok _ (State.clrBit_ok _ ht)

theorem execEbCollision_ok (s : State) (hs : State.Ok ps s) : Outcome.Ok ps (execEbCollision s) :=
  Outcome.whileLive_ok hs fun t ht => State.collision_ok t ht

theorem execCsmaBackoffExpiry_ok (s : State) (hs : State.Ok ps s) : Outcome.Ok ps (execCsmaBackoffExpiry s) :=
  Outcome.whileLive_ok hs fun t ht => State.backoff_ok t ht

theorem execClaim_ok (h : EbHdr) (prio idlow : Nat) (s : State) (hs : State.Ok ps s) : Outcome.Ok ps (execClaim h prio idlow s) :=
  Outcome.ebRecv_ok hs fun _ ht => State.when_ok _ _ ht fun _ hu => State.modEb_ok _ hu

theorem execTick_ok (h : EbHdr) (mepoch tokfree : Nat) (s : State) (hs : State.Ok ps s) : Outcome.Ok ps (execTick h mepoch tokfree s) :=
  Outcome.ebRecv_ok hs fun t ht => State.tickFrame_ok t h mepoch ht

theorem execTokreq_ok (h : EbHdr) (lease : Nat) (held : Bool) (s : State) (hs : State.Ok ps s) : Outcome.Ok ps (execTokreq h lease held s) :=
  Outcome.ebRecv_ok hs fun t ht => State.tokReqFrame_ok t h lease held ht

theorem execTokgrant_ok (h : EbHdr) (dstnode lease mepoch : Nat) (s : State) (hs : State.Ok ps s) :
    Outcome.Ok ps (execTokgrant h dstnode lease mepoch s) :=
  Outcome.ebRecv_ok hs fun _ ht => State.when_ok _ _ ht fun u hu => State.tokenArrives_ok u hu

theorem execTokret_ok (h : EbHdr) (mepoch : Nat) (s : State) (hs : State.Ok ps s) : Outcome.Ok ps (execTokret h mepoch s) :=
  Outcome.ebRecv_ok hs fun _ ht => State.when_ok _ _ ht fun _ hu => State.grantAfter_ok _ hu

theorem execSeek_ok (h : EbHdr) (a : Act) (step start : Nat) (prof : List Int) (s : State) (hs : State.Ok ps s) :
    Outcome.Ok ps (execSeek h a step start prof s) :=
  Outcome.ebRecv_ok hs fun t ht => State.announceTo_ok _ .B h step start prof (State.announceTo_ok t .A h step start prof ht)

theorem execHealth_ok (h : EbHdr) (s : State) (hs : State.Ok ps s) : Outcome.Ok ps (execHealth h s) :=
  Outcome.ebRecv_ok hs fun _ ht => ht

theorem execHquery_ok (h : EbHdr) (dstnode : Nat) (s : State) (hs : State.Ok ps s) : Outcome.Ok ps (execHquery h dstnode s) :=
  Outcome.ok_next (State.hqueryFrame_ok s h dstnode hs)

theorem execWake_ok (h : EbHdr) (dstbay : Nat) (s : State) (hs : State.Ok ps s) : Outcome.Ok ps (execWake h dstbay s) :=
  Outcome.ok_next (State.ite_ok (State.when_ok _ _ hs fun t ht => State.wakeHibernate_ok t ht)
    (State.whileLive_ok _ hs fun t ht => State.ebRecv_ok t h _ ht fun _ hu => hu))

theorem execElectionListenEnd_ok (s : State) (hs : State.Ok ps s) : Outcome.Ok ps (execElectionListenEnd s) :=
  Outcome.guarded_ok hs fun _ ht => State.ebSend_ok _ _ _ _ (State.modEb_ok _ (State.setFld_ok _ _ ht))

theorem execClaimCollectEnd_ok (s : State) (hs : State.Ok ps s) : Outcome.Ok ps (execClaimCollectEnd s) :=
  Outcome.guarded_ok hs fun t ht => State.claimsClose_ok t ht

theorem execTickTimer_ok (s : State) (hs : State.Ok ps s) : Outcome.Ok ps (execTickTimer s) :=
  Outcome.guarded_ok hs fun t ht => State.ebSend_ok t _ _ _ ht

theorem execMasterLoss_ok (s : State) (hs : State.Ok ps s) : Outcome.Ok ps (execMasterLoss s) :=
  Outcome.guarded_ok hs fun t ht => State.startElection_ok t ht

theorem execTokenLeaseExpiry_ok (node bay : Nat) (s : State) (hs : State.Ok ps s) : Outcome.Ok ps (execTokenLeaseExpiry node bay s) :=
  Outcome.guarded_ok hs fun _ ht => State.grantAfter_ok _ ht

theorem execMepochWaitExpiry_ok (s : State) (hs : State.Ok ps s) : Outcome.Ok ps (execMepochWaitExpiry s) :=
  Outcome.guarded_ok hs fun _ ht => State.grantAfter_ok _ ht

theorem execHealthTimer_ok (s : State) (hs : State.Ok ps s) : Outcome.Ok ps (execHealthTimer s) :=
  Outcome.guarded_ok hs fun t ht => State.sendHealth_ok t _ ht

theorem execLocalSpinupDelayEnd_ok (s : State) (hs : State.Ok ps s) : Outcome.Ok ps (execLocalSpinupDelayEnd s) :=
  Outcome.whileLive_ok hs fun t ht => State.localSpin_ok t ht

theorem execEbStrangerFrame_ok (ethertype : Bool) (s : State) (hs : State.Ok ps s) : Outcome.Ok ps (execEbStrangerFrame ethertype s) :=
  Outcome.guarded_ok hs fun _ ht => State.bump_ok _ ht

/-! ### Every command, every step -/

/-- Every command keeps the queue and the stores: an arm for each, by the law of its meaning. An arm names its operands where the meaning
leaves one of them unused. -/
theorem exec_ok (c : Instr) (hs : State.Ok ps s) : Outcome.Ok ps (exec c s) := by
  cases c with
  | registerWrite => exact execRegisterWrite_ok _ _ _ hs
  | registerReadClear => exact execRegisterReadClear_ok _ _ _ hs
  | counterLoRead => exact execCounterLoRead_ok _ _ hs
  | referenceLoss => exact execReferenceLoss_ok _ hs
  | referenceRestored => exact execReferenceRestored_ok _ hs
  | helperRateMeasurement => exact execHelperRateMeasurement_ok _ _ hs
  | porstLRise => exact execPorstLRise_ok _ _ _ hs
  | seqRailInRange => exact execSeqRailInRange_ok _ hs
  | seqDwellEnd => exact execSeqDwellEnd_ok _ _ hs
  | seqRailTimeout => exact execSeqRailTimeout_ok _ hs
  | seqRetryTimer => exact execSeqRetryTimer_ok _ hs
  | porstLFall => exact execPorstLFall_ok _ hs
  | powerdownRailFallen => exact execPowerdownRailFallen_ok _ hs
  | powerdownStepTimeout => exact execPowerdownStepTimeout_ok _ hs
  | railMonitorTrip => exact execRailMonitorTrip_ok _ _ hs
  | supplyResetRelease => exact execSupplyResetRelease_ok _ _ hs
  | vserLinkRetrain => exact execVserLinkRetrain_ok _ hs
  | vmWarning => exact execVmWarning_ok _ hs
  | vmWarningClear => exact execVmWarningClear_ok _ hs
  | recoveryWaitExpiry => exact execRecoveryWaitExpiry_ok _ hs
  | rideTimerExpiry => exact execRideTimerExpiry_ok _ hs
  | vmLoss => exact execVmLoss_ok _ hs
  | vmRestored => exact execVmRestored_ok _ hs
  | vmOvervoltage44 => exact execVmOvervoltage44_ok _ hs
  | chopperRelease => exact execChopperRelease_ok _ _ hs
  | chopperFault => exact execChopperFault_ok _ _ hs
  | vmOvervoltage46 => exact execVmOvervoltage46_ok _ hs
  | retractRelease => exact execRetractRelease_ok _ _ hs
  | idleTimerExpiry => exact execIdleTimerExpiry_ok _ hs
  | hibernateWake => exact execHibernateWake_ok _ hs
  | accordBootLoad => exact execAccordBootLoad_ok _ hs
  | helperRoleAssignment => exact execHelperRoleAssignment_ok _ _ hs
  | helperStart => exact execHelperStart_ok _ _ hs
  | helperStopRequest => exact execHelperStopRequest_ok _ _ hs
  | helperDrainDone => exact execHelperDrainDone_ok _ _ hs
  | helperDrainTimeout => exact execHelperDrainTimeout_ok _ _ _ hs
  | helperFault => exact execHelperFault_ok _ _ _ _ _ hs
  | baseNoteStewardRestart => exact execBaseNoteStewardRestart_ok _ hs
  | safePointLapse => exact execSafePointLapse_ok _ _ hs
  | stewardTrap => exact execStewardTrap_ok _ _ _ _ hs
  | stewardWatchdogExpiry => exact execStewardWatchdogExpiry_ok _ _ _ hs
  | microwordIssue => exact execMicrowordIssue_ok _ _ _ hs
  | microwordBranch => exact execMicrowordBranch_ok _ _ _ hs
  | microwordCall => exact execMicrowordCall_ok _ _ _ hs
  | microwordReturn => exact execMicrowordReturn_ok _ _ _ hs
  | localLoad => exact execLocalLoad_ok _ _ _ hs
  | localStore => exact execLocalStore_ok _ _ _ hs
  | fabricLoad => exact execFabricLoad_ok _ _ _ _ hs
  | fabricStore => exact execFabricStore_ok _ _ _ _ hs
  | messageSend => exact execMessageSend_ok _ _ _ hs
  | messageReceive => exact execMessageReceive_ok _ _ _ hs
  | errorQueueReceive => exact execErrorQueueReceive_ok _ _ _ hs
  | islandFifoPop => exact execIslandFifoPop_ok _ _ _ _ hs
  | islandFifoPush => exact execIslandFifoPush_ok _ _ _ hs
  | lineClean => exact execLineClean_ok _ _ _ _ hs
  | lineInvalidate => exact execLineInvalidate_ok _ _ _ _ hs
  | lineCleanInvalidate => exact execLineCleanInvalidate_ok _ _ _ _ hs
  | lineZero => exact execLineZero_ok _ _ _ _ hs
  | fenceFull => exact execFenceFull_ok _ _ _ _ hs
  | fenceStoreSend => exact execFenceStoreSend_ok _ _ _ hs
  | fenceIsland => exact execFenceIsland_ok _ _ _ _ hs
  | messageDelivery => exact execMessageDelivery_ok _ _ hs
  | messageEntersInbox => exact execMessageEntersInbox_ok _ _ hs
  | messageReturn => exact execMessageReturn_ok _ _ hs
  | patchStagingDone => exact execPatchStagingDone_ok _ _ hs
  | stewardPatchSwap => exact execStewardPatchSwap_ok _ hs
  | hbmFillDone => exact execHbmFillDone_ok _ hs
  | blotterRawWrite => exact execBlotterRawWrite_ok _ _ hs
  | blotterRawRead => exact execBlotterRawRead_ok _ _ hs
  | blotterCheckedRead => exact execBlotterCheckedRead_ok _ _ hs
  | blotterCheckedWrite => exact execBlotterCheckedWrite_ok _ _ hs
  | blotterOpComplete => exact execBlotterOpComplete_ok _ hs
  | cacheFillComplete => exact execCacheFillComplete_ok _ _ _ hs
  | prefetchFillComplete => exact execPrefetchFillComplete_ok _ _ _ hs
  | evictionWritebackComplete => exact execEvictionWritebackComplete_ok _ _ _ _ hs
  | cacheInvalidationDone => exact execCacheInvalidationDone_ok _ hs
  | moverGo => exact execMoverGo_ok _ _ _ _ _ _ _ _ _ hs
  | moverStopRequest => exact execMoverStopRequest_ok _ _ hs
  | moverStartRequest => exact execMoverStartRequest_ok _ _ hs
  | moverDiscardRequest => exact execMoverDiscardRequest_ok _ _ hs
  | moverResumeRequest => exact execMoverResumeRequest_ok _ _ hs
  | moverSetStart => exact execMoverSetStart_ok _ _ hs
  | moverSetComplete => exact execMoverSetComplete_ok _ _ _ _ hs
  | moverHalt => exact execMoverHalt_ok _ _ _ _ _ hs
  | moverTimeout => exact execMoverTimeout_ok _ _ hs
  | peripheralBurst => exact execPeripheralBurst_ok _ _ _ _ _ _ _ _ hs
  | peripheralWithdraw => exact execPeripheralWithdraw_ok _ _ hs
  | spindleStartRequest => exact execSpindleStartRequest_ok _ hs
  | observationEnd => exact execObservationEnd_ok _ _ _ _ _ hs
  | shortBrakeStopped => exact execShortBrakeStopped_ok _ hs
  | shortHoldEnd => exact execShortHoldEnd_ok _ hs
  | alignmentResult => exact execAlignmentResult_ok _ _ _ _ hs
  | alignmentTimeout => exact execAlignmentTimeout_ok _ hs
  | spindleAtSpeed => exact execSpindleAtSpeed_ok _ hs
  | spindleStartTimeout => exact execSpindleStartTimeout_ok _ hs
  | slewComplete => exact execSlewComplete_ok _ hs
  | spindleStopRequest => exact execSpindleStopRequest_ok _ hs
  | regenBrakeEnd => exact execRegenBrakeEnd_ok _ hs
  | commutationLockLoss => exact execCommutationLockLoss_ok _ hs
  | spindleOvercurrent => exact execSpindleOvercurrent_ok _ hs
  | gateDriveUndervoltage => exact execGateDriveUndervoltage_ok _ hs
  | positionHandover => exact execPositionHandover_ok _ _ _ hs
  | currentSampleSet => exact execCurrentSampleSet_ok _ _ _ _ _ hs
  | currentLoopMiss => exact execCurrentLoopMiss_ok _ hs
  | speedLoopUpdate => exact execSpeedLoopUpdate_ok _ hs
  | bootstrapForcedPulse => exact execBootstrapForcedPulse_ok _ _ hs
  | slewUpdate => exact execSlewUpdate_ok _ _ hs
  | fsyncEdge => exact execFsyncEdge_ok _ hs
  | spdAinSample => exact execSpdAinSample_ok _ _ hs
  | sourceLost => exact execSourceLost_ok _ hs
  | followingErrorTimeout => exact execFollowingErrorTimeout_ok _ hs
  | wedgeSample => exact execWedgeSample_ok _ _ _ hs
  | servoDeadlineMiss => exact execServoDeadlineMiss_ok _ _ _ hs
  | shock => exact execShock_ok _ _ hs
  | shockHoldEnd => exact execShockHoldEnd_ok _ _ hs
  | vcmFaultPin => exact execVcmFaultPin_ok _ _ hs
  | maDriverFaultPin => exact execMaDriverFaultPin_ok _ _ hs
  | loadRequest => exact execLoadRequest_ok _ _ hs
  | loadTimeout => exact execLoadTimeout_ok _ _ hs
  | seekRequest => exact execSeekRequest_ok _ _ _ _ hs
  | seekLeadExpiry => exact execSeekLeadExpiry_ok _ _ hs
  | parkRequest => exact execParkRequest_ok _ _ hs
  | unloadProfileEnd => exact execUnloadProfileEnd_ok _ _ _ hs
  | recoveryTimeout => exact execRecoveryTimeout_ok _ _ hs
  | assistLoopBoundary => exact execAssistLoopBoundary_ok _ _ _ _ hs
  | assistDeadlineMiss => exact execAssistDeadlineMiss_ok _ _ hs
  | assistFirstBitCell => exact execAssistFirstBitCell_ok _ _ _ hs
  | overtempTrip => exact execOvertempTrip_ok _ _ _ _ hs
  | coolingEnd => exact execCoolingEnd_ok _ _ _ hs
  | preampFaultPin => exact execPreampFaultPin_ok _ _ hs
  | preampTempRead => exact execPreampTempRead_ok _ _ _ _ hs
  | tintLost => exact execTintLost_ok _ _ hs
  | laneBind => exact execLaneBind_ok _ _ hs
  | laneUnbind => exact execLaneUnbind_ok _ _ hs
  | frameCommand => exact execFrameCommand_ok _ _ _ _ _ hs
  | framePositionPassed => exact execFramePositionPassed_ok _ _ hs
  | captureStart => exact execCaptureStart_ok _ _ hs
  | syncDecision => exact execSyncDecision_ok _ _ _ _ hs
  | sectorEnd => exact execSectorEnd_ok _ _ _ hs
  | inlineDecodeResult => exact execInlineDecodeResult_ok _ _ _ hs
  | writeFrameCommand => exact execWriteFrameCommand_ok _ _ _ _ hs
  | writeFrameStart => exact execWriteFrameStart_ok _ _ _ hs
  | writePayloadUnderrun => exact execWritePayloadUnderrun_ok _ _ _ hs
  | writeWedgeSuspend => exact execWriteWedgeSuspend_ok _ _ _ hs
  | writeWedgeResume => exact execWriteWedgeResume_ok _ _ _ hs
  | writeFrameEnd => exact execWriteFrameEnd_ok _ _ _ hs
  | frameEscalation => exact execFrameEscalation_ok _ _ _ _ _ hs
  | deepDecodeStart => exact execDeepDecodeStart_ok _ _ hs
  | deepDecodeStepDone => exact execDeepDecodeStepDone_ok _ _ _ hs
  | unitOvertime => exact execUnitOvertime_ok _ _ hs
  | rereadPass => exact execRereadPass_ok _ _ _ hs
  | neighbourWaitExpiry => exact execNeighbourWaitExpiry_ok _ _ _ _ hs
  | lsWaitTimeout => exact execLsWaitTimeout_ok _ _ _ _ hs
  | unreadableTimeout => exact execUnreadableTimeout_ok _ _ _ _ hs
  | calRunStart => exact execCalRunStart_ok _ _ hs
  | calStepDone => exact execCalStepDone_ok _ _ _ hs
  | calTimeout => exact execCalTimeout_ok _ _ hs
  | degradedRecalTimer => exact execDegradedRecalTimer_ok _ hs
  | placementBatch => exact execPlacementBatch_ok _ _ hs
  | journalPagesWritten => exact execJournalPagesWritten_ok _ hs
  | recordLineComplete => exact execRecordLineComplete_ok _ hs
  | cleaningVictimSelect => exact execCleaningVictimSelect_ok _ hs
  | cleaningFrameRead => exact execCleaningFrameRead_ok _ _ hs
  | bandRelease => exact execBandRelease_ok _ _ hs
  | checkpointSegmentStart => exact execCheckpointSegmentStart_ok _ hs
  | checkpointCopyWritten => exact execCheckpointCopyWritten_ok _ _ hs
  | rootWriteTimer => exact execRootWriteTimer_ok _ hs
  | mapRebuildStart => exact execMapRebuildStart_ok _ _ _ _ _ hs
  | mapRebuildComplete => exact execMapRebuildComplete_ok _ _ _ hs
  | validCountWalkDone => exact execValidCountWalkDone_ok _ hs
  | stripeParityCompute => exact execStripeParityCompute_ok _ _ _ hs
  | sjRecordDurable => exact execSjRecordDurable_ok _ hs
  | reconstructionComplete => exact execReconstructionComplete_ok _ _ hs
  | rebuildStripe => exact execRebuildStripe_ok _ hs
  | rebuildCursorTimer => exact execRebuildCursorTimer_ok _ hs
  | patrolStripe => exact execPatrolStripe_ok _ _ _ hs
  | mediaTimeInterval => exact execMediaTimeInterval_ok _ _ _ hs
  | hello => exact execHello_ok _ _ _ _ _ hs
  | roster => exact execRoster_ok _ _ _ hs
  | leader => exact execLeader_ok _ _ _ hs
  | layout => exact execLayout_ok _ _ _ _ _ _ hs
  | ack => exact execAck_ok _ _ hs
  | heartbeat => exact execHeartbeat_ok _ _ _ _ hs
  | failnote => exact execFailnote_ok _ _ _ _ _ hs
  | leave => exact execLeave_ok _ _ _ hs
  | pupd => exact execPupd_ok _ _ _ _ _ _ _ hs
  | qupd => exact execQupd_ok _ _ _ _ _ _ _ hs
  | updack => exact execUpdack_ok _ _ _ hs
  | pcopy => exact execPcopy_ok _ _ _ _ hs
  | prelease => exact execPrelease_ok _ _ _ hs
  | cread => exact execCread_ok _ _ _ _ hs
  | cdata => exact execCdata_ok _ _ _ _ _ _ hs
  | pstate => exact execPstate_ok _ _ _ _ _ hs
  | ptpMessage => exact execPtpMessage_ok _ _ _ _ hs
  | announceTimeout => exact execAnnounceTimeout_ok _ hs
  | ppsSecond => exact execPpsSecond_ok _ hs
  | ethernetLinkChange => exact execEthernetLinkChange_ok _ _ _ hs
  | heartbeatTimer => exact execHeartbeatTimer_ok _ hs
  | memberSilent => exact execMemberSilent_ok _ _ hs
  | probeTimeout => exact execProbeTimeout_ok _ _ hs
  | updackTimeout => exact execUpdackTimeout_ok _ _ _ _ _ hs
  | partnerTimeout => exact execPartnerTimeout_ok _ hs
  | rollCallSlot => exact execRollCallSlot_ok _ hs
  | rollCallClose => exact execRollCallClose_ok _ hs
  | phaseBoundExpiry => exact execPhaseBoundExpiry_ok _ hs
  | poolRebuildRow => exact execPoolRebuildRow_ok _ _ _ _ hs
  | controllerEnable => exact execControllerEnable_ok _ _ _ _ _ _ hs
  | controllerReady => exact execControllerReady_ok _ _ hs
  | controllerReset => exact execControllerReset_ok _ _ _ hs
  | controllerShutdown => exact execControllerShutdown_ok _ _ _ hs
  | perstRise => exact execPerstRise_ok _ _ hs
  | sqDoorbell => exact execSqDoorbell_ok _ _ _ _ hs
  | cqHeadDoorbell => exact execCqHeadDoorbell_ok _ _ _ _ hs
  | commandFetch => exact execCommandFetch_ok _ _ _ _ _ hs
  | rangeLockGrant => exact execRangeLockGrant_ok _ _ _ _ hs
  | interruptCoalesceTimer => exact execInterruptCoalesceTimer_ok _ _ _ hs
  | tlerExpiry => exact execTlerExpiry_ok _ _ _ _ hs
  | deletionDrainTimeout => exact execDeletionDrainTimeout_ok _ _ _ _ hs
  | busMasterDisable => exact execBusMasterDisable_ok _ _ hs
  | activationDrainTimeout => exact execActivationDrainTimeout_ok _ hs
  | pcieL2Entered => exact execPcieL2Entered_ok _ hs
  | l2Timeout => exact execL2Timeout_ok _ hs
  | deleteIoSq => exact execDeleteIoSq_ok _ _ _ hs
  | createIoSq => exact execCreateIoSq_ok _ _ _ hs
  | getLogPage => exact execGetLogPage_ok _ _ _ hs
  | deleteIoCq => exact execDeleteIoCq_ok _ _ _ hs
  | createIoCq => exact execCreateIoCq_ok _ _ _ hs
  | identify => exact execIdentify_ok _ _ _ hs
  | abort => exact execAbort_ok _ _ _ _ hs
  | setArbitration => exact execSetArbitration_ok _ _ _ hs
  | setPowerManagement => exact execSetPowerManagement_ok _ _ _ hs
  | setTemperatureThreshold => exact execSetTemperatureThreshold_ok _ _ _ hs
  | setErrorRecovery => exact execSetErrorRecovery_ok _ _ _ hs
  | setNumberOfQueues => exact execSetNumberOfQueues_ok _ _ _ hs
  | setInterruptCoalescing => exact execSetInterruptCoalescing_ok _ _ _ hs
  | setInterruptVectorConfig => exact execSetInterruptVectorConfig_ok _ _ _ hs
  | setWriteAtomicity => exact execSetWriteAtomicity_ok _ _ _ hs
  | setAsyncEventConfig => exact execSetAsyncEventConfig_ok _ _ _ hs
  | setTimestamp => exact execSetTimestamp_ok _ _ _ _ hs
  | setReservationNotifyMask => exact execSetReservationNotifyMask_ok _ _ _ hs
  | setReservationPersistence => exact execSetReservationPersistence_ok _ _ _ hs
  | setQueueOrdering => exact execSetQueueOrdering_ok _ _ _ hs
  | setStreamingMode => exact execSetStreamingMode_ok _ _ _ hs
  | getFeatures => exact execGetFeatures_ok _ _ _ hs
  | asyncEventRequest => exact execAsyncEventRequest_ok _ _ _ hs
  | namespaceCreate => exact execNamespaceCreate_ok _ _ _ _ _ _ hs
  | namespaceDelete => exact execNamespaceDelete_ok _ _ _ hs
  | namespaceAttach => exact execNamespaceAttach_ok _ _ _ _ hs
  | namespaceDetach => exact execNamespaceDetach_ok _ _ _ _ hs
  | firmwareDownload => exact execFirmwareDownload_ok _ _ _ _ hs
  | firmwareCommitStore => exact execFirmwareCommitStore_ok _ _ _ hs
  | firmwareCommitStoreActivate => exact execFirmwareCommitStoreActivate_ok _ _ _ hs
  | firmwareCommitSetActivate => exact execFirmwareCommitSetActivate_ok _ _ _ hs
  | firmwareCommitImmediate => exact execFirmwareCommitImmediate_ok _ _ _ hs
  | selfTestShort => exact execSelfTestShort_ok _ _ _ _ hs
  | selfTestExtended => exact execSelfTestExtended_ok _ _ _ _ hs
  | selfTestAbort => exact execSelfTestAbort_ok _ _ _ hs
  | formatNvm => exact execFormatNvm_ok _ _ _ hs
  | securityReceive => exact execSecurityReceive_ok _ _ _ hs
  | raiseRollbackFloor => exact execRaiseRollbackFloor_ok _ _ _ _ _ hs
  | writeKeyCertArea => exact execWriteKeyCertArea_ok _ _ _ _ hs
  | spdmGetVersion => exact execSpdmGetVersion_ok _ _ _ _ hs
  | spdmGetCapabilities => exact execSpdmGetCapabilities_ok _ _ _ _ hs
  | spdmNegotiateAlgorithms => exact execSpdmNegotiateAlgorithms_ok _ _ _ _ hs
  | spdmGetDigests => exact execSpdmGetDigests_ok _ _ _ _ hs
  | spdmGetCertificate => exact execSpdmGetCertificate_ok _ _ _ _ hs
  | spdmChallenge => exact execSpdmChallenge_ok _ _ _ _ hs
  | spdmGetMeasurements => exact execSpdmGetMeasurements_ok _ _ _ _ hs
  | mctpSetEndpointId => exact execMctpSetEndpointId_ok _ _ _ _ _ hs
  | mctpGetEndpointId => exact execMctpGetEndpointId_ok _ _ _ hs
  | mctpGetVersionSupport => exact execMctpGetVersionSupport_ok _ _ _ _ hs
  | mctpGetMessageTypeSupport => exact execMctpGetMessageTypeSupport_ok _ _ _ hs
  | flush => exact execFlush_ok _ _ _ _ hs
  | write => exact execWrite_ok _ _ _ _ _ hs
  | read => exact execRead_ok _ _ _ _ _ hs
  | compare => exact execCompare_ok _ _ _ _ _ _ hs
  | writeZeroes => exact execWriteZeroes_ok _ _ _ _ hs
  | datasetManagement => exact execDatasetManagement_ok _ _ _ _ _ hs
  | verify => exact execVerify_ok _ _ _ _ _ hs
  | reservationRegister => exact execReservationRegister_ok _ _ _ _ _ _ hs
  | reservationReport => exact execReservationReport_ok _ _ _ _ hs
  | reservationAcquire => exact execReservationAcquire_ok _ _ _ _ _ _ hs
  | reservationRelease => exact execReservationRelease_ok _ _ _ _ _ hs
  | zoneClose => exact execZoneClose_ok _ _ _ _ hs
  | zoneFinish => exact execZoneFinish_ok _ _ _ _ hs
  | zoneOpen => exact execZoneOpen_ok _ _ _ _ hs
  | zoneReset => exact execZoneReset_ok _ _ _ _ hs
  | zoneMgmtReceive => exact execZoneMgmtReceive_ok _ _ _ _ hs
  | zoneAppend => exact execZoneAppend_ok _ _ _ _ _ hs
  | fence => exact execFence_ok _ _ _ _ hs
  | srDoorbell => exact execSrDoorbell_ok _ _ _ _ _ _ hs
  | srPush => exact execSrPush_ok _ _ _ hs
  | descriptorFetch => exact execDescriptorFetch_ok _ _ _ _ _ hs
  | ringEnable => exact execRingEnable_ok _ _ _ hs
  | ringDisable => exact execRingDisable_ok _ _ _ hs
  | ringDrainTimeout => exact execRingDrainTimeout_ok _ _ hs
  | moverRead => exact execMoverRead_ok _ _ _ _ _ _ hs
  | moverWrite => exact execMoverWrite_ok _ _ _ _ _ _ hs
  | sampleExport => exact execSampleExport_ok _ _ _ _ _ hs
  | trackDump => exact execTrackDump_ok _ _ _ _ _ hs
  | calibrationRun => exact execCalibrationRun_ok _ _ _ hs
  | gaugeArm => exact execGaugeArm_ok _ _ _ hs
  | gaugeStop => exact execGaugeStop_ok _ _ _ hs
  | gaugeExport => exact execGaugeExport_ok _ _ _ _ hs
  | gaugeExportRearm => exact execGaugeExportRearm_ok _ _ _ _ hs
  | sillageExport => exact execSillageExport_ok _ _ _ _ hs
  | sillageClear => exact execSillageClear_ok _ _ _ hs
  | accordStore => exact execAccordStore_ok _ _ _ _ _ hs
  | accordStoreWritten => exact execAccordStoreWritten_ok _ _ hs
  | accordMediaCopyRead => exact execAccordMediaCopyRead_ok _ _ _ _ hs
  | accordMediaCopy => exact execAccordMediaCopy_ok _ _ _ hs
  | domainTakeDown => exact execDomainTakeDown_ok _ _ _ hs
  | domainRestore => exact execDomainRestore_ok _ _ _ hs
  | domainFault => exact execDomainFault_ok _ _ _ hs
  | quiesceWorkFinished => exact execQuiesceWorkFinished_ok _ _ hs
  | quiesceTimeout => exact execQuiesceTimeout_ok _ _ hs
  | restoreComplete => exact execRestoreComplete_ok _ _ hs
  | restoreTimeout => exact execRestoreTimeout_ok _ _ hs
  | heldRestoreStart => exact execHeldRestoreStart_ok _ _ hs
  | mediaHoldExpiry => exact execMediaHoldExpiry_ok _ _ hs
  | blotterEnable => exact execBlotterEnable_ok _ _ _ hs
  | blotterDisable => exact execBlotterDisable_ok _ _ _ hs
  | poolRelayout => exact execPoolRelayout_ok _ _ _ hs
  | poolAdopt => exact execPoolAdopt_ok _ _ _ hs
  | transmitOpportunity => exact execTransmitOpportunity_ok _ _ hs
  | plcaBeacon => exact execPlcaBeacon_ok _ hs
  | plcaBeaconLoss => exact execPlcaBeaconLoss_ok _ hs
  | ebCollision => exact execEbCollision_ok _ hs
  | csmaBackoffExpiry => exact execCsmaBackoffExpiry_ok _ hs
  | claim => exact execClaim_ok _ _ _ _ hs
  | tick h mepoch tokfree => exact execTick_ok h mepoch tokfree _ hs
  | tokreq => exact execTokreq_ok _ _ _ _ hs
  | tokgrant h dstnode lease mepoch => exact execTokgrant_ok h dstnode lease mepoch _ hs
  | tokret => exact execTokret_ok _ _ _ hs
  | seek h a step start prof => exact execSeek_ok h a step start prof _ hs
  | health => exact execHealth_ok _ _ hs
  | hquery => exact execHquery_ok _ _ _ hs
  | wake => exact execWake_ok _ _ _ hs
  | electionListenEnd => exact execElectionListenEnd_ok _ hs
  | claimCollectEnd => exact execClaimCollectEnd_ok _ hs
  | tickTimer => exact execTickTimer_ok _ hs
  | masterLoss => exact execMasterLoss_ok _ hs
  | tokenLeaseExpiry => exact execTokenLeaseExpiry_ok _ _ _ hs
  | mepochWaitExpiry => exact execMepochWaitExpiry_ok _ hs
  | healthTimer => exact execHealthTimer_ok _ hs
  | localSpinupDelayEnd => exact execLocalSpinupDelayEnd_ok _ hs
  | sensorConversion => exact execSensorConversion_ok _ _ _ hs
  | sensorExclusion => exact execSensorExclusion_ok _ _ hs
  | thermalHysteresisTimer => exact execThermalHysteresisTimer_ok _ hs
  | sillageAppend => exact execSillageAppend_ok _ hs
  | stampTimer => exact execStampTimer_ok _ hs
  | suppressionSummaryTimer => exact execSuppressionSummaryTimer_ok _ _ hs
  | gaugeDurationEnd => exact execGaugeDurationEnd_ok _ _ hs
  | stewardInstruction => exact execStewardInstruction_ok _ _ _ _ hs
  | neighborDiscovery => exact execNeighborDiscovery_ok _ _ hs
  | icmpv6EchoRequest => exact execIcmpv6EchoRequest_ok _ _ hs
  | mldQuery => exact execMldQuery_ok _ _ hs
  | eweridDatagramDropped => exact execEweridDatagramDropped_ok _ hs
  | ebStrangerFrame => exact execEbStrangerFrame_ok _ _ hs
  | bundleStoreWritten => exact execBundleStoreWritten_ok _ _ hs
  | keyAreaWritten => exact execKeyAreaWritten_ok _ _ hs
  | vmMeasurement => exact execVmMeasurement_ok _ _ hs
  | freePageGaugeSample => exact execFreePageGaugeSample_ok _ hs

/-- A step takes at most the front command and keeps the stores: by what it takes (R67), a command, a recorded event or an ordering tick. -/
theorem step_ok (hs : s.Canon) : Outcome.Ok s.pending.tail (step s) := by
  unfold step
  split
  next hp hr => exact Outcome.ok_next (State.passTick_ok s ⟨by rw [hp, List.tail_nil], hs⟩)
  next e rest hp hr => exact exec_ok e.cmd (State.noteEvent_ok _ e.cmd ⟨by rw [hp, List.tail_nil], hs⟩)
  next c rest hp => exact exec_ok c ⟨by rw [hp, List.tail_cons], hs⟩

/-- Settles O4. The canonical form is the model's own (assumption 92), and that every step answers is its choice (assumption 22). -/
theorem stepsKeepTheStoresCanonical : Obligations.steps_keep_the_stores_canonical := by
  intro s hs
  obtain ⟨t, hstep, hqueue, hcanon⟩ := step_ok hs
  exact ⟨t, hstep, hcanon, hqueue⟩

end Sys2Proof.Machine
end


section
/-! SUPPORT. The word code (O21, R196, R197). The syndrome is linear over GF(2), a word of syndrome 0 is a code word, and the syndromes of the
error patterns of at most two bits all differ; so the decoder finds the one pattern that was added to a code word. -/
namespace Sys2Proof.Machine

/-! ### Flags as polynomials over GF(2) -/

theorem quotient_bit (v n : Nat) : (v / 2 ^ n % 2 == 1) = v.testBit n := by
  rw [Nat.testBit_eq_decide_div_mod_eq]
  rfl

/-- A power of two above every set bit is added without a carry. -/
theorem two_pow_xor_of_lt {a k : Nat} (h : a < 2 ^ k) : a ^^^ 2 ^ k = a + 2 ^ k := by
  refine Nat.eq_of_testBit_eq fun i => ?_
  have hsum := Nat.testBit_two_pow_mul_add 1 h i
  rw [Nat.mul_one, Nat.add_comm] at hsum
  rw [hsum, Nat.testBit_xor, Nat.testBit_two_pow]
  split
  next hi => simp [show k ≠ i by omega]
  next hi =>
    have ha : a.testBit i = false := Nat.testBit_lt_two_pow (Nat.lt_of_lt_of_le h (Nat.pow_le_pow_right (by decide) (by omega)))
    rw [ha, Bool.false_xor, Bool.eq_iff_iff, Nat.testBit_one_eq_true_iff_self_eq_zero, decide_eq_true_iff]
    omega

theorem flag_xor_of_lt {a k : Nat} (h : a < 2 ^ k) (b : Bool) :
    a ^^^ (if b then 2 ^ k else 0) = a + (if b then 2 ^ k else 0) := by
  cases b
  · simp
  · exact two_pow_xor_of_lt h

theorem flag_of_xor (n : Nat) (b c : Bool) : (if b ^^ c then n else 0) = (if b then n else 0) ^^^ (if c then n else 0) := by
  cases b <;> cases c <;> simp

theorem xor_interchange (a b c d : Nat) : a ^^^ b ^^^ (c ^^^ d) = a ^^^ c ^^^ (b ^^^ d) := by ac_rfl

theorem eq_of_xor_eq_zero {a b : Nat} (h : a ^^^ b = 0) : a = b := by
  rw [← Nat.xor_zero a, ← Nat.xor_self b, ← Nat.xor_assoc, h, Nat.zero_xor]

/-! ### The remainder modulo g(x) is linear (R196) -/

/-- The next coefficient shifted in. -/
def shiftIn (r : Nat) (b : Bool) : Nat := 2 * r + (if b then 1 else 0)

theorem shiftIn_testBit_zero (r : Nat) (b : Bool) : (shiftIn r b).testBit 0 = b := by
  rw [Nat.testBit_zero, shiftIn]
  cases b
  · exact decide_eq_false (by simp)
  · exact decide_eq_true (by simp only [if_true]; omega)

theorem shiftIn_testBit_succ (r : Nat) (b : Bool) (i : Nat) : (shiftIn r b).testBit (i + 1) = r.testBit i := by
  have hhalf : shiftIn r b / 2 = r := by unfold shiftIn; split <;> omega
  rw [Nat.testBit_succ, hhalf]

theorem shiftIn_xor (r q : Nat) (b c : Bool) : shiftIn (r ^^^ q) (b ^^ c) = shiftIn r b ^^^ shiftIn q c := by
  refine Nat.eq_of_testBit_eq fun i => ?_
  cases i with
  | zero => rw [Nat.testBit_xor, shiftIn_testBit_zero, shiftIn_testBit_zero, shiftIn_testBit_zero]
  | succ i => rw [Nat.testBit_xor, shiftIn_testBit_succ, shiftIn_testBit_succ, shiftIn_testBit_succ, Nat.testBit_xor]

/-- A step shifts the next coefficient in, and takes g(x) off where the shift reached x^14. -/
theorem eccStep_eq {r : Nat} (h : r < 2 ^ 14) (b : Bool) :
    eccStep r b = shiftIn r b ^^^ (if r.testBit 13 then eccPoly else 0) := by
  have htop : 0x4000 ≤ shiftIn r b ↔ r.testBit 13 = true := by
    rw [Nat.testBit_eq_decide_div_mod_eq, decide_eq_true_eq]
    unfold shiftIn
    split <;> omega
  change (if 0x4000 ≤ shiftIn r b then shiftIn r b ^^^ eccPoly else shiftIn r b) = _
  by_cases hr : r.testBit 13 = true
  · rw [if_pos (htop.mpr hr), if_pos hr]
  · rw [if_neg (mt htop.mp hr), if_neg hr, Nat.xor_zero]

theorem eccStep_lt {r : Nat} (h : r < 2 ^ 14) (b : Bool) : eccStep r b < 2 ^ 14 := by
  unfold eccStep
  dsimp only
  generalize ht : 2 * r + (if b then 1 else 0) = t
  have htwice : t < 2 ^ 15 := by rw [← ht]; split <;> omega
  split
  next htop =>
    obtain ⟨a, ha, rfl⟩ : ∃ a < 2 ^ 14, t = a ^^^ 2 ^ 14 := ⟨t - 2 ^ 14, by omega, by rw [two_pow_xor_of_lt (by omega)]; omega⟩
    have hcancel : Nat.xor (a ^^^ 2 ^ 14) eccPoly = a ^^^ 0x377 := Nat.xor_assoc a (2 ^ 14) eccPoly
    rw [hcancel]
    exact Nat.xor_lt_two_pow ha (by decide)
  next htop => omega

theorem eccStep_xor {r q : Nat} (hr : r < 2 ^ 14) (hq : q < 2 ^ 14) (b c : Bool) :
    eccStep (r ^^^ q) (b ^^ c) = eccStep r b ^^^ eccStep q c := by
  rw [eccStep_eq hr, eccStep_eq hq, eccStep_eq (Nat.xor_lt_two_pow hr hq), Nat.testBit_xor, flag_of_xor, shiftIn_xor, xor_interchange]

theorem eccFold_lt (w v : Nat) {r : Nat} (h : r < 2 ^ 14) : (bitsHigh w v).foldl eccStep r < 2 ^ 14 := by
  induction w generalizing r with
  | zero => exact h
  | succ w ih => exact ih (eccStep_lt h _)

theorem eccFold_xor (w u v : Nat) {r q : Nat} (hr : r < 2 ^ 14) (hq : q < 2 ^ 14) :
    (bitsHigh w (u ^^^ v)).foldl eccStep (r ^^^ q) = (bitsHigh w u).foldl eccStep r ^^^ (bitsHigh w v).foldl eccStep q := by
  induction w generalizing r q with
  | zero => rfl
  | succ w ih =>
    simp only [bitsHigh, quotient_bit, Nat.testBit_xor, List.foldl_cons, eccStep_xor hr hq]
    exact ih (eccStep_lt hr _) (eccStep_lt hq _)

theorem eccRem_lt (w v : Nat) : eccRem w v < 2 ^ 14 := eccFold_lt w v (by decide)

theorem eccRem_xor (w u v : Nat) : eccRem w (u ^^^ v) = eccRem w u ^^^ eccRem w v := eccFold_xor w u v (r := 0) (q := 0) (by decide) (by decide)

/-! ### The parity is linear -/

theorem parityFold_xor (l : List Bool) (p : Bool) : l.foldl (fun p b => p != b) p = (p ^^ l.foldl (fun p b => p != b) false) := by
  induction l generalizing p with
  | nil => simp
  | cons b l ih => rw [List.foldl_cons, List.foldl_cons, ih, ih (false != b)]; simp

theorem oddBits_succ (w v : Nat) : oddBits (w + 1) v = (v.testBit w ^^ oddBits w v) := by
  simp only [oddBits, bitsHigh, List.foldl_cons, quotient_bit]
  rw [parityFold_xor]
  simp

theorem oddBits_xor (w u v : Nat) : oddBits w (u ^^^ v) = (oddBits w u ^^ oddBits w v) := by
  induction w with
  | zero => rfl
  | succ w ih =>
    simp only [oddBits_succ, ih, Nat.testBit_xor, Bool.xor_assoc, Bool.xor_left_comm]

/-! ### The syndrome is linear -/

/-- u(x) of a stored word: W and the 64 data bits (R196). -/
def eccMessage (v : Nat) : Nat := v % 2 ^ 64 ^^^ (if v.testBit 78 then 2 ^ 64 else 0)

theorem eccMessage_xor (u v : Nat) : eccMessage (u ^^^ v) = eccMessage u ^^^ eccMessage v := by
  rw [eccMessage, Nat.testBit_xor, flag_of_xor, Nat.xor_mod_two_pow, xor_interchange]
  rfl

theorem eccCheck_lt (w : Bool) (d : Nat) : eccCheck w d < 2 ^ 14 := eccRem_lt _ _

theorem eccCheck_of_stored (v : Nat) : eccCheck (v.testBit 78) (v % 2 ^ 64) = eccRem 79 (eccMessage v * 2 ^ 14) := by
  rw [eccCheck, eccMessage, flag_xor_of_lt (Nat.mod_lt v (by decide)), Nat.mod_mod]

theorem eccCheck_xor (u v : Nat) :
    eccCheck ((u ^^^ v).testBit 78) ((u ^^^ v) % 2 ^ 64) = eccCheck (u.testBit 78) (u % 2 ^ 64) ^^^ eccCheck (v.testBit 78) (v % 2 ^ 64) := by
  rw [eccCheck_of_stored, eccCheck_of_stored, eccCheck_of_stored, eccMessage_xor, ← Nat.shiftLeft_eq, ← Nat.shiftLeft_eq, ← Nat.shiftLeft_eq,
    Nat.shiftLeft_xor_distrib, eccRem_xor]

/-- Bits 13:0 of a syndrome: the check bits of the data and W, less those stored. -/
def eccBch (v : Nat) : Nat := eccCheck (v.testBit 78) (v % 2 ^ 64) ^^^ (v / 2 ^ 64 % 2 ^ 14)

theorem eccBch_lt (v : Nat) : eccBch v < 2 ^ 14 := Nat.xor_lt_two_pow (eccCheck_lt _ _) (Nat.mod_lt _ (by decide))

theorem eccBch_xor (u v : Nat) : eccBch (u ^^^ v) = eccBch u ^^^ eccBch v := by
  rw [eccBch, eccCheck_xor, Nat.xor_div_two_pow, Nat.xor_mod_two_pow, xor_interchange]
  rfl

theorem eccSyndrome_eq_add (v : Nat) : eccSyndrome v = eccBch v + (if oddBits 80 v then 2 ^ 14 else 0) := by
  rw [eccSyndrome, eccSyndrome.natBit, quotient_bit]
  rfl

theorem eccSyndrome_eq_xor (v : Nat) : eccSyndrome v = eccBch v ^^^ (if oddBits 80 v then 2 ^ 14 else 0) := by
  rw [eccSyndrome_eq_add, flag_xor_of_lt (eccBch_lt v)]

theorem eccSyndrome_xor (u v : Nat) : eccSyndrome (u ^^^ v) = eccSyndrome u ^^^ eccSyndrome v := by
  rw [eccSyndrome_eq_xor, eccBch_xor, oddBits_xor, flag_of_xor, xor_interchange, ← eccSyndrome_eq_xor, ← eccSyndrome_eq_xor]

theorem eccSyndrome_zero : eccSyndrome 0 = 0 := by decide +kernel

/-! ### Code words -/

/-- The stored bits below E: data, check bits, W. -/
def eccBody (w : Bool) (d : Nat) : Nat := d % 2 ^ 64 + eccCheck w d * 2 ^ 64 + (if w then 2 ^ 78 else 0)

theorem eccBody_lt (w : Bool) (d : Nat) : eccBody w d < 2 ^ 79 := by
  have hcheck := eccCheck_lt w d
  unfold eccBody
  split <;> omega

theorem eccWord_eq_add (w : Bool) (d : Nat) : eccWord w d = eccBody w d + (if oddBits 79 (eccBody w d) then 2 ^ 79 else 0) := rfl

theorem eccWord_eq_xor (w : Bool) (d : Nat) : eccWord w d = eccBody w d ^^^ (if oddBits 79 (eccBody w d) then 2 ^ 79 else 0) := by
  rw [eccWord_eq_add, flag_xor_of_lt (eccBody_lt w d)]

theorem eccWord_lt (w : Bool) (d : Nat) : eccWord w d < 2 ^ 80 := by
  have hbody := eccBody_lt w d
  rw [eccWord_eq_add]
  split <;> omega

theorem eccWord_fields (w : Bool) (d : Nat) :
    eccWord w d % 2 ^ 64 = d % 2 ^ 64 ∧ eccWord w d / 2 ^ 64 % 2 ^ 14 = eccCheck w d ∧ (eccWord w d).testBit 78 = w := by
  have hcheck := eccCheck_lt w d
  have hw : eccWord w d / 2 ^ 78 % 2 = if w then 1 else 0 := by
    rw [eccWord_eq_add]
    generalize oddBits 79 (eccBody w d) = e
    unfold eccBody
    split <;> split <;> omega
  rw [← quotient_bit, hw]
  refine ⟨?_, ?_, by cases w <;> rfl⟩
  all_goals
    rw [eccWord_eq_add]
    generalize oddBits 79 (eccBody w d) = e
    unfold eccBody
    split <;> split <;> omega

theorem oddBits_flag (b : Bool) : oddBits 80 (if b then 2 ^ 79 else 0) = b := by
  cases b <;> decide +kernel

theorem oddBits_eccWord (w : Bool) (d : Nat) : oddBits 80 (eccWord w d) = false := by
  rw [eccWord_eq_xor, oddBits_xor, oddBits_flag, oddBits_succ, Nat.testBit_lt_two_pow (eccBody_lt w d)]
  simp

/-- A code word has syndrome 0. -/
theorem eccSyndrome_eccWord (w : Bool) (d : Nat) : eccSyndrome (eccWord w d) = 0 := by
  obtain ⟨hdata, hcheck, hw⟩ := eccWord_fields w d
  have hmod : eccCheck w (d % 2 ^ 64) = eccCheck w d := by rw [eccCheck, eccCheck, Nat.mod_mod]
  rw [eccSyndrome_eq_xor, oddBits_eccWord, eccBch, hdata, hcheck, hw, hmod, Nat.xor_self]
  rfl

/-- A word of syndrome 0 with no data and W = 0 has no bit set. -/
theorem eq_zero_of_eccSyndrome_eq_zero {e : Nat} (hlt : e < 2 ^ 80) (hs : eccSyndrome e = 0) (hdata : e % 2 ^ 64 = 0)
    (hw : e.testBit 78 = false) : e = 0 := by
  have hadd := eccSyndrome_eq_add e
  have hnone : eccCheck false 0 = 0 := by decide +kernel
  have hcheck : eccBch e = e / 2 ^ 64 % 2 ^ 14 := by rw [eccBch, hw, hdata, hnone, Nat.zero_xor]
  have hbit : e / 2 ^ 78 % 2 = 0 := by simpa [Nat.testBit_eq_decide_div_mod_eq] using hw
  obtain rfl | rfl : e = 0 ∨ e = 2 ^ 79 := by omega
  · rfl
  · exact absurd hs (by decide +kernel)

/-- A word of syndrome 0 is the code word of its W and its data. -/
theorem eq_eccWord_of_eccSyndrome_eq_zero {v : Nat} (hlt : v < 2 ^ 80) (hs : eccSyndrome v = 0) : v = eccWord (v.testBit 78) (v % 2 ^ 64) := by
  obtain ⟨hdata, -, hw⟩ := eccWord_fields (v.testBit 78) (v % 2 ^ 64)
  refine eq_of_xor_eq_zero (eq_zero_of_eccSyndrome_eq_zero (Nat.xor_lt_two_pow hlt (eccWord_lt _ _)) ?_ ?_ ?_)
  · rw [eccSyndrome_xor, hs, eccSyndrome_eccWord, Nat.xor_self]
  · rw [Nat.xor_mod_two_pow, hdata, Nat.mod_mod, Nat.xor_self]
  · rw [Nat.testBit_xor, hw, Bool.xor_self]

/-! ### Error patterns of at most two bits -/

/-- The errors that the decoder corrects: none, one or two of the 80 stored bits. -/
def fewBits : List Nat :=
  0 :: ((List.range 80).map (fun k => 2 ^ k) ++ (List.range 80).flatMap (fun k => (List.range k).map (fun j => 2 ^ j ^^^ 2 ^ k)))

/-- Their syndromes, by the columns. -/
def fewBitSyndromes : List Nat :=
  0 :: ((List.range 80).map eccColumn ++ (List.range 80).flatMap (fun k => (List.range k).map (fun j => eccColumn j ^^^ eccColumn k)))

theorem mem_fewBits {e : Nat} : e ∈ fewBits ↔ e = 0 ∨ (∃ k < 80, e = 2 ^ k) ∨ ∃ j k, j < k ∧ k < 80 ∧ e = 2 ^ j ^^^ 2 ^ k := by
  simp only [fewBits, List.mem_cons, List.mem_append, List.mem_map, List.mem_flatMap, List.mem_range]
  constructor
  · rintro (rfl | ⟨k, hk, rfl⟩ | ⟨k, hk, j, hj, rfl⟩)
    · exact .inl rfl
    · exact .inr (.inl ⟨k, hk, rfl⟩)
    · exact .inr (.inr ⟨j, k, hj, hk, rfl⟩)
  · rintro (rfl | ⟨k, hk, rfl⟩ | ⟨j, k, hj, hk, rfl⟩)
    · exact .inl rfl
    · exact .inr (.inl ⟨k, hk, rfl⟩)
    · exact .inr (.inr ⟨k, hk, j, hj, rfl⟩)

theorem zero_mem_fewBits : 0 ∈ fewBits := mem_fewBits.mpr (.inl rfl)

theorem two_pow_mem_fewBits {k : Nat} (hk : k < 80) : 2 ^ k ∈ fewBits := mem_fewBits.mpr (.inr (.inl ⟨k, hk, rfl⟩))

theorem two_pows_mem_fewBits {j k : Nat} (hj : j < 80) (hk : k < 80) (hne : j ≠ k) : 2 ^ j ^^^ 2 ^ k ∈ fewBits := by
  obtain h | h := Nat.lt_or_gt_of_ne hne
  · exact mem_fewBits.mpr (.inr (.inr ⟨j, k, h, hk, rfl⟩))
  · exact mem_fewBits.mpr (.inr (.inr ⟨k, j, h, hj, Nat.xor_comm _ _⟩))

theorem lt_of_mem_fewBits {e : Nat} (he : e ∈ fewBits) : e < 2 ^ 80 := by
  have hpow {k : Nat} (hk : k < 80) : 2 ^ k < 2 ^ 80 := Nat.pow_lt_pow_right (by decide) hk
  obtain rfl | ⟨k, hk, rfl⟩ | ⟨j, k, hjk, hk, rfl⟩ := mem_fewBits.mp he
  · decide
  · exact hpow hk
  · exact Nat.xor_lt_two_pow (hpow (Nat.lt_trans hjk hk)) (hpow hk)

theorem map_eccSyndrome_fewBits : fewBits.map eccSyndrome = fewBitSyndromes := by
  have hsingles : (List.range 80).map (eccSyndrome ∘ fun k => 2 ^ k) = (List.range 80).map eccColumn := rfl
  have hpairs (k : Nat) :
      ((List.range k).map (fun j => 2 ^ j ^^^ 2 ^ k)).map eccSyndrome = (List.range k).map (fun j => eccColumn j ^^^ eccColumn k) := by
    rw [List.map_map]
    exact List.map_congr_left fun j _ => eccSyndrome_xor (2 ^ j) (2 ^ k)
  rw [fewBits, fewBitSyndromes, List.map_cons, List.map_append, List.map_map, List.map_flatMap, eccSyndrome_zero, hsingles]
  simp only [hpairs]

/-- No number of the list comes twice, nor is one a bit of `seen`: the list read once, with what has been read as the bits of a number. -/
def distinctBeyond : Nat → List Nat → Bool
  | _, [] => true
  | seen, x :: l => !seen.testBit x && distinctBeyond (seen ||| 2 ^ x) l

theorem nodup_of_distinctBeyond {l : List Nat} {seen : Nat} (h : distinctBeyond seen l = true) :
    l.Nodup ∧ ∀ x ∈ l, seen.testBit x = false := by
  induction l generalizing seen with
  | nil => exact ⟨List.nodup_nil, fun _ hx => absurd hx List.not_mem_nil⟩
  | cons y l ih =>
    obtain ⟨hy, hl⟩ : seen.testBit y = false ∧ distinctBeyond (seen ||| 2 ^ y) l = true := by simpa [distinctBeyond] using h
    obtain ⟨hnodup, hbeyond⟩ := ih hl
    have hnew : ∀ x ∈ l, seen.testBit x = false ∧ y ≠ x := by simpa [Nat.testBit_two_pow] using hbeyond
    refine ⟨List.nodup_cons.mpr ⟨fun hmem => (hnew y hmem).2 rfl, hnodup⟩, ?_⟩
    rintro x (_ | ⟨_, hx⟩)
    · exact hy
    · exact (hnew x hx).1

/-- The code has minimum distance 6, E included: the syndromes of at most two errors all differ. -/
theorem fewBitSyndromes_nodup : fewBitSyndromes.Nodup :=
  (nodup_of_distinctBeyond (seen := 0) (by decide +kernel)).1

theorem injOn_of_nodup_map {f : Nat → Nat} {l : List Nat} (h : (l.map f).Nodup) {x y : Nat} (hx : x ∈ l) (hy : y ∈ l) (hxy : f x = f y) :
    x = y := by
  induction l with
  | nil => cases hx
  | cons z l ih =>
    obtain ⟨hz, hl⟩ := List.nodup_cons.mp h
    cases hx with
    | head =>
      cases hy with
      | head => rfl
      | tail _ hy => exact absurd (hxy ▸ List.mem_map_of_mem hy) hz
    | tail _ hx =>
      cases hy with
      | head => exact absurd (hxy ▸ List.mem_map_of_mem hx) hz
      | tail _ hy => exact ih hl hx hy

theorem eccSyndrome_injOn_fewBits {e f : Nat} (he : e ∈ fewBits) (hf : f ∈ fewBits) (h : eccSyndrome e = eccSyndrome f) : e = f :=
  injOn_of_nodup_map (map_eccSyndrome_fewBits ▸ fewBitSyndromes_nodup) he hf h

/-! ### The search for the error pattern -/

theorem eccPair_cons (s : Nat) (c : Nat × Nat) (l : List (Nat × Nat)) :
    eccLocate.eccPair s (c :: l) = ((l.find? (fun d => c.2 ^^^ d.2 == s)).map (fun d => 2 ^ c.1 + 2 ^ d.1)).or (eccLocate.eccPair s l) := by
  rw [eccLocate.eccPair]
  change (match l.find? (fun d => c.2 ^^^ d.2 == s) with | some e => _ | none => _) = _
  cases l.find? (fun d => c.2 ^^^ d.2 == s) <;> rfl

/-- Columns in rising order, each with the syndrome of its bit. -/
def ColumnList (l : List (Nat × Nat)) : Prop := (∀ c ∈ l, c.1 < 80 ∧ c.2 = eccColumn c.1) ∧ l.Pairwise (fun c d => c.1 < d.1)

/-- A pair that is found consists of two bits, and gives the syndrome. -/
theorem eccPair_sound {s e : Nat} {l : List (Nat × Nat)} (hl : ColumnList l) (h : eccLocate.eccPair s l = some e) :
    e ∈ fewBits ∧ eccSyndrome e = s := by
  induction l with
  | nil => cases h
  | cons c l ih =>
    obtain ⟨hcol, hrising⟩ := hl
    obtain ⟨hfirst, hrest⟩ := List.pairwise_cons.mp hrising
    rw [eccPair_cons, Option.or_eq_some_iff, Option.map_eq_some_iff] at h
    obtain ⟨d, hd, rfl⟩ | ⟨-, h⟩ := h
    · have hmem := List.mem_of_find?_eq_some hd
      obtain ⟨hc, hcs⟩ := hcol c List.mem_cons_self
      obtain ⟨hd80, hds⟩ := hcol d (List.mem_cons_of_mem c hmem)
      have hlt : c.1 < d.1 := hfirst d hmem
      have hxor : 2 ^ c.1 ^^^ 2 ^ d.1 = 2 ^ c.1 + 2 ^ d.1 := two_pow_xor_of_lt (Nat.pow_lt_pow_right (by decide) hlt)
      rw [← hxor]
      refine ⟨two_pows_mem_fewBits hc hd80 (Nat.ne_of_lt hlt), ?_⟩
      have hsum := List.find?_some hd
      rw [hcs, hds, beq_iff_eq] at hsum
      rw [eccSyndrome_xor]
      exact hsum
    · exact ih ⟨fun x hx => hcol x (List.mem_cons_of_mem c hx), hrest⟩ h

/-- No pair is found only where no two columns give the syndrome. -/
theorem eccPair_complete {s : Nat} {l : List (Nat × Nat)} (h : eccLocate.eccPair s l = none) : l.Pairwise (fun c d => c.2 ^^^ d.2 ≠ s) := by
  induction l with
  | nil => exact .nil
  | cons c l ih =>
    rw [eccPair_cons, Option.or_eq_none_iff, Option.map_eq_none_iff, List.find?_eq_none] at h
    obtain ⟨hfirst, hrest⟩ := h
    exact List.pairwise_cons.mpr ⟨fun d hd => by simpa using hfirst d hd, ih hrest⟩

theorem eccColumns_rising : ColumnList eccColumns := by
  constructor
  · simp [eccColumns]
  · rw [eccColumns, List.pairwise_map]
    exact List.pairwise_lt_range

theorem eccLocate_zero (cols : List (Nat × Nat)) : eccLocate cols 0 = some 0 := if_pos rfl

/-- A single bit is sought first, then a pair. -/
theorem eccLocate_of_ne_zero {s : Nat} (hs : s ≠ 0) (cols : List (Nat × Nat)) :
    eccLocate cols s = ((cols.find? (fun c => c.2 == s)).map (fun c => 2 ^ c.1)).or (eccLocate.eccPair s cols) := by
  rw [eccLocate, if_neg hs]
  cases cols.find? (fun c => c.2 == s) <;> rfl

/-- What the search finds is an error of at most two bits with the syndrome. -/
theorem eccLocate_sound {s e : Nat} (h : eccLocate eccColumns s = some e) : e ∈ fewBits ∧ eccSyndrome e = s := by
  by_cases hs : s = 0
  · rw [hs, eccLocate_zero] at h
    cases h
    exact ⟨zero_mem_fewBits, eccSyndrome_zero.trans hs.symm⟩
  · rw [eccLocate_of_ne_zero hs, Option.or_eq_some_iff, Option.map_eq_some_iff] at h
    obtain ⟨c, hc, rfl⟩ | ⟨-, hpair⟩ := h
    · obtain ⟨h80, hcol⟩ := eccColumns_rising.1 c (List.mem_of_find?_eq_some hc)
      have hcs := List.find?_some hc
      rw [beq_iff_eq, hcol] at hcs
      exact ⟨two_pow_mem_fewBits h80, hcs⟩
    · exact eccPair_sound eccColumns_rising hpair

/-- It finds one wherever there is one. -/
theorem eccLocate_complete {e : Nat} (he : e ∈ fewBits) : eccLocate eccColumns (eccSyndrome e) ≠ none := by
  intro h
  by_cases hs : eccSyndrome e = 0
  · rw [hs, eccLocate_zero] at h
    cases h
  · rw [eccLocate_of_ne_zero hs, Option.or_eq_none_iff, Option.map_eq_none_iff, List.find?_eq_none] at h
    obtain ⟨hsingle, hpair⟩ := h
    obtain rfl | ⟨k, hk, rfl⟩ | ⟨j, k, hjk, hk, rfl⟩ := mem_fewBits.mp he
    · exact hs eccSyndrome_zero
    · exact hsingle (k, eccColumn k) (List.mem_map.mpr ⟨k, List.mem_range.mpr hk, rfl⟩) (beq_self_eq_true _)
    · have hlen : eccColumns.length = 80 := by simp [eccColumns]
      have hno := List.pairwise_iff_getElem.mp (eccPair_complete hpair) j k (by omega) (by omega) hjk
      simp only [eccColumns, List.getElem_map, List.getElem_range] at hno
      exact hno (eccSyndrome_xor _ _).symm

/-- The search finds the error that was made. -/
theorem eccLocate_eccSyndrome {e : Nat} (he : e ∈ fewBits) : eccLocate eccColumns (eccSyndrome e) = some e := by
  obtain ⟨f, hf⟩ := Option.ne_none_iff_exists'.mp (eccLocate_complete he)
  obtain ⟨hmem, hsynd⟩ := eccLocate_sound hf
  rw [hf, eccSyndrome_injOn_fewBits hmem he hsynd]

/-! ### Decoding (R197) -/

theorem toNat_encodeWord (n : Nat) : (encodeWord n).toNat = eccWord true n := by
  rw [encodeWord, BitVec.toNat_ofNat, Nat.mod_eq_of_lt (eccWord_lt true n)]

theorem toNat_flip (c : Code80) {k : Nat} (hk : k < 80) : (c ^^^ BitVec.twoPow 80 k).toNat = c.toNat ^^^ 2 ^ k := by
  rw [BitVec.toNat_xor, BitVec.toNat_twoPow, Nat.mod_eq_of_lt (Nat.pow_lt_pow_right (by decide) hk)]

/-- A located error is taken off, and what is left is read by its W. -/
theorem decodeWord_of_located {c : Code80} {e : Nat} (h : eccLocate eccColumns (eccSyndrome c.toNat) = some e) :
    decodeWord c =
      if (c.toNat ^^^ e).testBit 78 then
        ⟨if e = 0 then .clean else .corrected, (c.toNat ^^^ e) % 2 ^ 64, eccSyndrome c.toNat + 2 ^ 15⟩
      else ⟨.unwritten, 0, eccSyndrome c.toNat⟩ := by
  unfold decodeWord
  dsimp only
  rw [h, ← quotient_bit]
  rfl

theorem decodeWord_of_lost {c : Code80} (h : eccLocate eccColumns (eccSyndrome c.toNat) = none) :
    (decodeWord c).res = .uncorrectable ∧ (decodeWord c).data = 0 := by
  unfold decodeWord
  dsimp only
  rw [h]
  exact ⟨rfl, rfl⟩

theorem eccLocate_near {u e : Nat} (hu : eccSyndrome u = 0) (he : e ∈ fewBits) : eccLocate eccColumns (eccSyndrome (u ^^^ e)) = some e := by
  rw [eccSyndrome_xor, hu, Nat.zero_xor, eccLocate_eccSyndrome he]

/-- The code word of `n` with at most two bits inverted. -/
theorem decodeWord_near_written {c : Code80} {n e : Nat} (hn : n < 2 ^ 64) (he : e ∈ fewBits) (hc : c.toNat = eccWord true n ^^^ e) :
    (decodeWord c).res = (if e = 0 then .clean else .corrected) ∧ (decodeWord c).data = n := by
  have hloc : eccLocate eccColumns (eccSyndrome c.toNat) = some e := hc ▸ eccLocate_near (eccSyndrome_eccWord true n) he
  obtain ⟨hdata, -, hw⟩ := eccWord_fields true n
  have hoff : c.toNat ^^^ e = eccWord true n := by rw [hc, Nat.xor_assoc, Nat.xor_self, Nat.xor_zero]
  rw [decodeWord_of_located hloc, hoff, hw, hdata, Nat.mod_eq_of_lt hn]
  exact ⟨rfl, rfl⟩

theorem toNat_unwrittenWord : unwrittenWord.toNat = 0 := rfl

/-- The unwritten code word with at most two bits inverted. -/
theorem decodeWord_near_unwritten {c : Code80} (hc : c.toNat ∈ fewBits) : (decodeWord c).res = .unwritten := by
  rw [decodeWord_of_located (eccLocate_eccSyndrome hc), Nat.xor_self]
  rfl

theorem data_of_bad {c : Code80} (h : (decodeWord c).res.bad = true) : (decodeWord c).data = 0 := by
  cases hloc : eccLocate eccColumns (eccSyndrome c.toNat) with
  | none => exact (decodeWord_of_lost hloc).2
  | some e =>
    rw [decodeWord_of_located hloc] at h ⊢
    cases hw : (c.toNat ^^^ e).testBit 78 with
    | false => rfl
    | true =>
      rw [hw] at h
      by_cases he : e = 0 <;> simp [he, ReadResult.bad] at h

/-- A word that is read is the code word of what it reads as, with the error that the search found. -/
theorem toNat_of_read {c : Code80} (h : (decodeWord c).res.bad = false) :
    ∃ e ∈ fewBits, c.toNat = eccWord true (decodeWord c).data ^^^ e ∧ (decodeWord c).res = (if e = 0 then .clean else .corrected) := by
  cases hloc : eccLocate eccColumns (eccSyndrome c.toNat) with
  | none => rw [(decodeWord_of_lost hloc).1] at h; cases h
  | some e =>
    obtain ⟨hmem, hsynd⟩ := eccLocate_sound hloc
    have hdec := decodeWord_of_located hloc
    cases hw : (c.toNat ^^^ e).testBit 78 with
    | false => rw [hdec, hw] at h; cases h
    | true =>
      have hlt : c.toNat ^^^ e < 2 ^ 80 := Nat.xor_lt_two_pow c.isLt (lt_of_mem_fewBits hmem)
      have hcode := eq_eccWord_of_eccSyndrome_eq_zero hlt (by rw [eccSyndrome_xor, hsynd, Nat.xor_self])
      rw [hw] at hdec hcode
      rw [hdec]
      refine ⟨e, hmem, ?_, rfl⟩
      change c.toNat = eccWord true ((c.toNat ^^^ e) % 2 ^ 64) ^^^ e
      rw [← hcode, Nat.xor_assoc, Nat.xor_self, Nat.xor_zero]

theorem two_pow_xor_ne_zero {j k : Nat} (h : j ≠ k) : 2 ^ j ^^^ 2 ^ k ≠ 0 :=
  fun h0 => h ((Nat.pow_right_inj (by decide)).mp (eq_of_xor_eq_zero h0))

/-- Settles O21: what is added to a code word, if it is at most two bits, is what the search finds; and what it finds leaves a code word. -/
theorem theWordCode : Obligations.the_word_code := by
  refine ⟨?written, ?flipped, ?unwritten, ?lost, ?clean, ?corrected⟩
  case written =>
    intro n hn
    exact decodeWord_near_written hn zero_mem_fewBits (by rw [toNat_encodeWord, Nat.xor_zero])
  case flipped =>
    intro n j k hn hj hk hjk
    obtain ⟨hres, hdata⟩ := decodeWord_near_written (c := encodeWord n ^^^ BitVec.twoPow 80 k) hn (two_pow_mem_fewBits hk)
      (by rw [toNat_flip _ hk, toNat_encodeWord])
    obtain ⟨hres2, hdata2⟩ := decodeWord_near_written (c := encodeWord n ^^^ BitVec.twoPow 80 j ^^^ BitVec.twoPow 80 k) hn
      (two_pows_mem_fewBits hj hk hjk) (by rw [toNat_flip _ hk, toNat_flip _ hj, toNat_encodeWord, Nat.xor_assoc])
    rw [if_neg (Nat.ne_of_gt (Nat.two_pow_pos k))] at hres
    rw [if_neg (two_pow_xor_ne_zero hjk)] at hres2
    exact ⟨hres, hdata, hres2, hdata2⟩
  case unwritten =>
    intro j k hj hk hjk
    refine ⟨decodeWord_near_unwritten ?_, decodeWord_near_unwritten ?_, decodeWord_near_unwritten ?_⟩
    · exact zero_mem_fewBits
    · rw [toNat_flip _ hk, toNat_unwrittenWord, Nat.zero_xor]
      exact two_pow_mem_fewBits hk
    · rw [toNat_flip _ hk, toNat_flip _ hj, toNat_unwrittenWord, Nat.zero_xor]
      exact two_pows_mem_fewBits hj hk hjk
  case lost => exact fun c => data_of_bad
  case clean =>
    intro c hclean
    obtain ⟨e, -, hc, hres⟩ := toNat_of_read (by rw [hclean]; rfl)
    have he : e = 0 := Decidable.byContradiction fun hne => by
      rw [hclean, if_neg hne] at hres
      cases hres
    rw [he, Nat.xor_zero] at hc
    exact BitVec.eq_of_toNat_eq (by rw [toNat_encodeWord, ← hc])
  case corrected =>
    intro c hcorr
    obtain ⟨e, hmem, hc, hres⟩ := toNat_of_read (by rw [hcorr]; rfl)
    obtain rfl | ⟨k, hk, rfl⟩ | ⟨j, k, hjk, hk, rfl⟩ := mem_fewBits.mp hmem
    · rw [hcorr, if_pos rfl] at hres
      cases hres
    · refine ⟨k, k, hk, hk, .inl (BitVec.eq_of_toNat_eq ?_)⟩
      rw [toNat_flip _ hk, toNat_encodeWord, ← hc]
    · refine ⟨j, k, Nat.lt_trans hjk hk, hk, .inr (BitVec.eq_of_toNat_eq ?_)⟩
      rw [toNat_flip _ hk, toNat_flip _ (Nat.lt_trans hjk hk), toNat_encodeWord, Nat.xor_assoc, ← hc]

end Sys2Proof.Machine
end


section
/-! SUPPORT. What the updates of an actuator change, and what closing its gates leaves (O27, R340, R384). -/
namespace Sys2Proof.Machine

/-- What is live takes the effect that waits for a running device. -/
theorem next_whileLive_of_live {s : State} (h : s.live = true) (f : State → State) :
    (Host.Outcome.next (s.whileLive f) : Host.Outcome State Fault Refusal) = .next (f s) :=
  congrArg Host.Outcome.next (if_pos h)

/-! ### Pairs, parts and updates -/

@[simp] theorem PerAct.at_put_same {α : Type} (p : PerAct α) (a : Act) (v : α) : (p.put a v).at a = v := by cases a <;> rfl

@[simp] theorem PerAct.at_put_other {α : Type} (p : PerAct α) (a : Act) (v : α) : (p.put a v).at (otherAct a) = p.at (otherAct a) := by
  cases a <;> rfl

@[simp] theorem State.sv_modSv_same (s : State) (a : Act) (f : ServoSt → ServoSt) : (s.modSv a f).sv a = f (s.sv a) :=
  PerAct.at_put_same _ _ _

@[simp] theorem State.sv_modSv_other (s : State) (a : Act) (f : ServoSt → ServoSt) : (s.modSv a f).sv (otherAct a) = s.sv (otherAct a) :=
  PerAct.at_put_other _ _ _

@[simp] theorem State.sv_modPins (s : State) (f : Pins → Pins) (a : Act) : (s.modPins f).sv a = s.sv a :=
  congrArg (PerAct.at · a) (State.modPins_servo s f)

@[simp] theorem State.sv_setFld (s : State) (f : Fld) (v : Nat) (a : Act) : (s.setFld f v).sv a = s.sv a :=
  congrArg (PerAct.at · a) (State.setFld_servo s f v)

theorem OnlyParts.modSv {ps : List Part} (hps : Part.servo ∈ ps) (s : State) (a : Act) (f : ServoSt → ServoSt) :
    OnlyParts ps s (s.modSv a f) := by
  refine ⟨rfl, fun p hp => ?_⟩
  cases p with
  | servo => exact absurd hps hp
  | _ => rfl

theorem OnlyParts.modAs {ps : List Part} (hps : Part.assist ∈ ps) (s : State) (a : Act) (f : AssistSt → AssistSt) :
    OnlyParts ps s (s.modAs a f) := by
  refine ⟨rfl, fun p hp => ?_⟩
  cases p with
  | assist => exact absurd hps hp
  | _ => rfl

theorem OnlyParts.modLanes {ps : List Part} (hps : Part.lanes ∈ ps) (s : State) (f : LanesSt → LanesSt) : OnlyParts ps s (s.modLanes f) := by
  refine ⟨rfl, fun p hp => ?_⟩
  cases p with
  | lanes => exact absurd hps hp
  | _ => rfl

theorem OnlyParts.modMap {ps : List Part} (hps : Part.map ∈ ps) (s : State) (f : MapSt → MapSt) : OnlyParts ps s (s.modMap f) := by
  refine ⟨rfl, fun p hp => ?_⟩
  cases p with
  | map => exact absurd hps hp
  | _ => rfl

theorem OnlyParts.modTier {ps : List Part} (hps : Part.tier ∈ ps) (s : State) (f : TierSt → TierSt) : OnlyParts ps s (s.modTier f) := by
  refine ⟨rfl, fun p hp => ?_⟩
  cases p with
  | tier => exact absurd hps hp
  | _ => rfl

/-! ### Closing gates (R340, R384) -/

/-- What closing gates leaves: the parts it does not name, the states of the actuators, and every gate that is off. -/
structure GateWork (s t : State) : Prop where
  parts : OnlyParts [.regs, .tickMem, .pins, .map, .assist, .lanes, .tier] s t
  states : ∀ a, t.svState a = s.svState a
  gates : ∀ a n, s.gate a n = false → t.gate a n = false

namespace GateWork

theorem refl (s : State) : GateWork s s := ⟨OnlyParts.refl _ s, fun _ => rfl, fun _ _ h => h⟩

theorem trans {s t u : State} (h : GateWork s t) (h' : GateWork t u) : GateWork s u :=
  ⟨h.parts.trans h'.parts, fun a => (h'.states a).trans (h.states a), fun a n hg => h'.gates a n (h.gates a n hg)⟩

theorem ite {c : Prop} [Decidable c] {s t u : State} (ht : GateWork s t) (hu : GateWork s u) : GateWork s (if c then t else u) := by
  split
  · exact ht
  · exact hu

theorem each {α : Type} (s : State) (l : List α) (f : State → α → State) (h : ∀ t x, GateWork t (f t x)) : GateWork s (s.each l f) :=
  State.each_keeps (GateWork s) f l s (refl s) (fun t ht x _ => ht.trans (h t x))

variable (s : State)

/-- The registers of assist, lanes and Tier L lie behind those of the actuators (R51). -/
theorem setFld {f : Fld} (v : Nat) (h : 0xC0000 ≤ f.addr) : GateWork s (s.setFld f v) where
  parts := OnlyParts.setFld (by simp) s f v
  states a := State.fld_setFld_addr s f _ v (by cases a <;> simp only [SV_STAT.STATE, actNum] <;> omega)
  gates _ _ hg := hg

theorem tickMem (m : TickMem) : GateWork s { s with tickMem := m } := ⟨OnlyParts.tickMem (by simp) s m, fun _ => rfl, fun _ _ h => h⟩

theorem addSat {f : Fld} (n : Nat) (h : 0xC0000 ≤ f.addr) : GateWork s (s.addSat f n) := (setFld s _ h).trans (tickMem _ _)

theorem bump {f : Fld} (h : 0xC0000 ≤ f.addr) : GateWork s (s.bump f) := addSat s 1 h

theorem modAslot (a : Act) (n : Nat) (f : AssistSlot → AssistSlot) : GateWork s (s.modAslot a n f) :=
  ⟨OnlyParts.modAs (by simp) s a _, fun _ => rfl, fun _ _ h => h⟩

theorem modLanes (f : LanesSt → LanesSt) : GateWork s (s.modLanes f) := ⟨OnlyParts.modLanes (by simp) s f, fun _ => rfl, fun _ _ h => h⟩

theorem modLane (l : Nat) (f : LaneSt → LaneSt) : GateWork s (s.modLane l f) :=
  modLanes s (fun x => { x with lanes := SMap.modify (fun _ => LaneSt.reset) x.lanes l f })

theorem modSlot (k : Nat) (f : SlotSt → SlotSt) : GateWork s (s.modSlot k f) :=
  modLanes s (fun x => { x with slots := SMap.modify (fun _ => SlotSt.reset) x.slots k f })

theorem modMap (f : MapSt → MapSt) : GateWork s (s.modMap f) := ⟨OnlyParts.modMap (by simp) s f, fun _ => rfl, fun _ _ h => h⟩

theorem modTier (f : TierSt → TierSt) : GateWork s (s.modTier f) := ⟨OnlyParts.modTier (by simp) s f, fun _ => rfl, fun _ _ h => h⟩

end GateWork

/-- The registers of a write slot and of its budget are among them. -/
theorem slot_addr (a : Act) (n : Nat) :
    0xC0000 ≤ (asState a n).addr ∧ 0xC0000 ≤ (wsState a n).addr ∧ 0xC0000 ≤ (wsLane a n).addr ∧ 0xC0000 ≤ (wsAbandon a n).addr ∧
    0xC0000 ≤ (AS_BUDGET.DEMAND (actNum a)).addr := by
  unfold asState wsState wsLane wsAbandon
  cases a <;> split <;> decide

/-- And those of a lane. -/
theorem ln_addr (l : Nat) :
    0xC0000 ≤ (LN_STAT.STATE l).addr ∧ 0xC0000 ≤ (LN_STAT.INSEL l).addr ∧ 0xC0000 ≤ (LN_STAT.PLACE l).addr ∧
    0xC0000 ≤ (LN_STAT.LOCK l).addr ∧ 0xC0000 ≤ (LN_OVR.BLANKS l).addr ∧ 0xC0000 ≤ (LN_ERASED.CELLS l).addr := by
  simp only [LN_STAT.STATE, LN_STAT.INSEL, LN_STAT.PLACE, LN_STAT.LOCK, LN_OVR.BLANKS, LN_ERASED.CELLS]
  omega

section
variable (s : State)

theorem State.replace_gateWork (f : WriteFrame) (m : Move) (i : Nat) : GateWork s (s.replace f m i) := by
  unfold State.replace
  split
  · exact .ite (.modMap s _) (.refl s)
  · exact .modMap s _
  · exact .refl s

theorem State.sjSync_gateWork : GateWork s s.sjSync :=
  ((GateWork.setFld s _ (by decide)).trans (.setFld _ _ (by decide))).trans (.setFld _ _ (by decide))

theorem State.killStripe_gateWork (k st cause : Nat) : GateWork s (s.killStripe k st cause) := by
  unfold State.killStripe
  split
  · exact .refl s
  · refine .trans (.trans (.trans (.trans (.trans (.trans (.modTier s _) (.modMap _ _)) (.modLanes _ _)) (.each _ _ _ fun t m => ?_))
      (.modTier _ _)) (.bump _ (by decide))) (State.sjSync_gateWork _)
    exact GateWork.each t _ _ (fun v y => v.replace_gateWork m.2.1 y.1 y.2)

theorem State.abandonFrame_gateWork (p cause : Nat) : GateWork s (s.abandonFrame p cause) := by
  unfold State.abandonFrame
  dsimp only
  split
  · exact (GateWork.modMap s _).trans (State.killStripe_gateWork _ _ _ _)
  · exact .modMap s _

theorem State.laneDark_gateWork (l : Nat) : GateWork s (s.laneDark l) := by
  obtain ⟨hstate, hinsel, hplace, hlock, -, -⟩ := ln_addr l
  exact (((GateWork.setFld s _ hstate).trans (.setFld _ _ hinsel)).trans (.setFld _ _ hplace)).trans (.setFld _ _ hlock)

theorem State.blank_gateWork (a : Act) : GateWork s (s.blank a) := by
  refine .each s _ _ fun t l => ?_
  obtain ⟨-, -, -, -, hblanks, hcells⟩ := ln_addr l
  have hblank : GateWork t (t.bump (LN_OVR.BLANKS l)) := .bump t hblanks
  exact .ite (.refl t) (.ite hblank ((hblank.trans (.addSat _ _ hcells)).trans (.modLane _ _ _)))

theorem State.unclock_gateWork (a : Act) (n : Nat) : GateWork s (s.unclock a n) := by
  obtain ⟨-, -, haddr, -, -⟩ := slot_addr a n
  have hlane : GateWork s (s.setFld (wsLane a n) 0xF) := .setFld s _ haddr
  exact .ite (.ite (hlane.trans (State.laneDark_gateWork _ _)) (hlane.trans (.setFld _ _ (ln_addr _).1))) hlane

theorem State.budgetSync_gateWork (a : Act) : GateWork s (s.budgetSync a) := by
  obtain ⟨-, -, -, -, haddr⟩ := slot_addr a 0
  exact (GateWork.setFld s _ haddr).trans (.modAslot _ _ _ _)

/-- A gate that is driven off shows in SV_STAT beside the state. -/
theorem State.setGate_off_gateWork (a : Act) (n : Nat) : GateWork s (s.setGate a n false) where
  parts := (OnlyParts.modPins (by simp) s _).trans (OnlyParts.setFld (by simp) _ _ _)
  states b := State.fld_setFld_other _ _ _ _ (by cases b <;> rfl) (by cases a <;> rfl) (by cases a <;> cases b <;> rfl)
  gates b m hg := by
    change SMap.get (fun _ => false) (SMap.set (fun _ => false) s.pins.gates (slotNum a n) false) (slotNum b m) = false
    rw [SMap.get_set]
    split
    · rfl
    · exact hg

theorem State.gate_setGate_same (a : Act) (n : Nat) (b : Bool) : (s.setGate a n b).gate a n = b := SMap.get_set_same _ _ _ _

/-- Everything behind the gate itself. -/
theorem State.closeGateTo_gateWork_setGate (a : Act) (n after : Nat) : GateWork (s.setGate a n false) (s.closeGateTo a n after) := by
  obtain ⟨hstate, hws, -, habandon, -⟩ := slot_addr a n
  unfold State.closeGateTo
  dsimp only
  refine .trans ?_ (State.budgetSync_gateWork _ a)
  have hclosed : GateWork (s.setGate a n false) ((s.setGate a n false).modAslot a n
      (fun x => { x with emitter := 0, suspended := false, closeTick := some s.tick })) := .modAslot _ _ _ _
  have hoff := GateWork.ite (c := (s.fld (asState a n) == asCooling) = true) hclosed (hclosed.trans (.setFld _ after hstate))
  have hblank := hoff.trans (.ite (c := (s.fld (wsState a n) == wsWriting) = true) (State.blank_gateWork _ a) (.refl _))
  have hfree := hblank.trans (State.unclock_gateWork _ a n)
  split
  · exact hfree
  · exact .ite ((((hfree.trans (.modSlot _ _ _)).trans (.setFld _ _ hws)).trans (.bump _ habandon)).trans (State.abandonFrame_gateWork _ _ _)) hfree

theorem State.closeGate_gateWork (a : Act) (n : Nat) : GateWork s (s.closeGate a n) :=
  .ite ((s.setGate_off_gateWork a n).trans (s.closeGateTo_gateWork_setGate a n asOff)) (.refl s)

theorem State.gate_closeGate_same (a : Act) (n : Nat) : (s.closeGate a n).gate a n = false := by
  unfold State.closeGate
  split
  · exact (s.closeGateTo_gateWork_setGate a n asOff).gates a n (s.gate_setGate_same a n false)
  · exact Bool.eq_false_iff.mpr ‹_›

theorem State.closeGates_gateWork (a : Act) : GateWork s (s.closeGates a) :=
  (s.closeGate_gateWork a 0).trans (State.closeGate_gateWork _ a 1)

theorem State.gate_closeGates_same (a : Act) {n : Nat} (hn : n < 2) : (s.closeGates a).gate a n = false := by
  have hn' : n = 0 ∨ n = 1 := by omega
  obtain rfl | rfl := hn'
  · exact (State.closeGate_gateWork _ a 1).gates a 0 (s.gate_closeGate_same a 0)
  · exact State.gate_closeGate_same _ a 1

end
end Sys2Proof.Machine
end


section
/-! SUPPORT. Loading, unloading and parking (O27, R104, R318, R320). -/
namespace Sys2Proof.Machine

/-! ### The state of R318, the coil and the group in use -/

section
variable (s : State) (a : Act)

theorem State.svGoto_parts (st : Nat) : OnlyParts [.regs, .servo] s (s.svGoto a st) :=
  (OnlyParts.modSv (by simp) s a _).trans (OnlyParts.setFld (by simp) _ _ st)

theorem State.svState_svGoto_same {st : Nat} (hst : st < 16) : (s.svGoto a st).svState a = st :=
  (State.fld_setFld_same _ _ st (by cases a <;> rfl)).trans (Nat.mod_eq_of_lt hst)

theorem State.fld_svGoto (st : Nat) {g : Fld} (hg : g.ok = true) (h : (SV_STAT.STATE (actNum a)).apart g = true) : (s.svGoto a st).fld g = s.fld g :=
  State.fld_setFld_other _ _ g st hg (by cases a <;> rfl) h

theorem State.svState_svGoto_other (st : Nat) : (s.svGoto a st).svState (otherAct a) = s.svState (otherAct a) :=
  State.fld_svGoto s a st (by cases a <;> rfl) (by cases a <;> rfl)

@[simp] theorem State.svGoto_pins (st : Nat) : (s.svGoto a st).pins = s.pins :=
  (State.setFld_pins _ _ _).trans (State.modSv_pins s a _)

@[simp] theorem State.sv_svGoto_same (st : Nat) : (s.svGoto a st).sv a =
    { s.sv a with stWedges := 0, away := st != svFollowing && ((s.sv a).away || decide (st ≤ svLoading) || decide (svUnloading ≤ st)) } := by
  simp [State.svGoto]

@[simp] theorem State.sv_svGoto_other (st : Nat) : (s.svGoto a st).sv (otherAct a) = s.sv (otherAct a) := by simp [State.svGoto]

theorem State.setVcm_parts (en : Bool) (cmd : Int) : OnlyParts [.regs, .pins, .servo] s (s.setVcm a en cmd) :=
  ((OnlyParts.modPins (by simp) s _).trans (OnlyParts.setFld (by simp) _ _ _)).trans (OnlyParts.modSv (by simp) _ a _)

theorem State.setVcm_pins (en : Bool) (cmd : Int) : (s.setVcm a en cmd).pins =
    { s.pins with vcmEn := s.pins.vcmEn.put a en, vcmCmd := s.pins.vcmCmd.put a cmd, vcmCode := s.pins.vcmCode.put a (vcmCodeOf cmd (s.loopLim a 18 2)) } := by
  rw [State.setVcm, State.modSv_pins, State.setFld_pins]
  rfl

@[simp] theorem State.setVcm_vcmEn (en : Bool) (cmd : Int) : (s.setVcm a en cmd).pins.vcmEn = s.pins.vcmEn.put a en := by
  rw [State.setVcm_pins]
@[simp] theorem State.setVcm_vcmCmd (en : Bool) (cmd : Int) : (s.setVcm a en cmd).pins.vcmCmd = s.pins.vcmCmd.put a cmd := by
  rw [State.setVcm_pins]
@[simp] theorem State.setVcm_ret (en : Bool) (cmd : Int) : (s.setVcm a en cmd).pins.ret = s.pins.ret := by
  rw [State.setVcm_pins]

theorem State.fld_setVcm (en : Bool) (cmd : Int) {g : Fld} (h : (SV_VCM.CMD (actNum a)).addr ≠ g.addr) : (s.setVcm a en cmd).fld g = s.fld g := by
  rw [State.setVcm, State.modSv_fld, State.fld_setFld_addr _ _ _ _ h, State.modPins_fld]

/-- The coil changes the pending command alone of what the actuator holds. -/
@[simp] theorem State.sv_setVcm_same (en : Bool) (cmd : Int) : (s.setVcm a en cmd).sv a = { s.sv a with pendCmd := cmd } := by simp [State.setVcm]

@[simp] theorem State.sv_setVcm_other (en : Bool) (cmd : Int) : (s.setVcm a en cmd).sv (otherAct a) = s.sv (otherAct a) := by
  simp [State.setVcm]

theorem State.leaveGroup_parts : OnlyParts [.regs, .servo] s (s.leaveGroup a) :=
  (((OnlyParts.modSv (by simp) s a _).trans (OnlyParts.setFld (by simp) _ _ _)).trans (OnlyParts.setFld (by simp) _ _ _)).trans
    (OnlyParts.setFld (by simp) _ _ _)

@[simp] theorem State.leaveGroup_pins : (s.leaveGroup a).pins = s.pins := by
  rw [State.leaveGroup, State.setFld_pins, State.setFld_pins, State.setFld_pins, State.modSv_pins]

/-- No place and no group is in use. -/
theorem State.leaveGroup_empty : ((s.leaveGroup a).sv a).places = [] ∧ (s.leaveGroup a).fld (SV_STAT.GROUP (actNum a)) = 0xF := by
  refine ⟨by simp [State.leaveGroup], ?_⟩
  rw [State.leaveGroup, State.fld_setFld_addr _ _ _ _ (by cases a <;> decide),
    State.fld_setFld_other _ _ _ _ (by cases a <;> rfl) (by cases a <;> rfl) (by cases a <;> rfl), State.fld_setFld_same _ _ _ (by cases a <;> rfl)]
  rfl

@[simp] theorem State.sv_leaveGroup_other : (s.leaveGroup a).sv (otherAct a) = s.sv (otherAct a) := by simp [State.leaveGroup]

end

/-! ### A load starts (R318) -/

/-- What taking a group into use leaves: the parts it does not name, the other actuator, the attempts to load. -/
structure GroupWork (a : Act) (s t : State) : Prop where
  parts : OnlyParts [.regs, .servo, .assist] s t
  other : t.sv (otherAct a) = s.sv (otherAct a)
  attempts : (t.sv a).attempts = (s.sv a).attempts

namespace GroupWork
variable {a : Act}

theorem refl (s : State) : GroupWork a s s := ⟨OnlyParts.refl _ s, rfl, rfl⟩

theorem trans {s t u : State} (h : GroupWork a s t) (h' : GroupWork a t u) : GroupWork a s u :=
  ⟨h.parts.trans h'.parts, h'.other.trans h.other, h'.attempts.trans h.attempts⟩

theorem each {α : Type} (s : State) (l : List α) (f : State → α → State) (h : ∀ t x, GroupWork a t (f t x)) : GroupWork a s (s.each l f) :=
  State.each_keeps (GroupWork a s) f l s (refl s) (fun t ht x _ => ht.trans (h t x))

theorem setFld (s : State) (f : Fld) (v : Nat) : GroupWork a s (s.setFld f v) := ⟨OnlyParts.setFld (by simp) s f v, rfl, rfl⟩

theorem modSv (s : State) (f : ServoSt → ServoSt) (hf : ∀ v, (f v).attempts = v.attempts) : GroupWork a s (s.modSv a f) :=
  ⟨OnlyParts.modSv (by simp) s a f, s.sv_modSv_other a f, (congrArg ServoSt.attempts (s.sv_modSv_same a f)).trans (hf _)⟩

theorem modPlace (s : State) (k : Nat) (f : Place → Place) : GroupWork a s (s.modPlace a k f) := modSv s _ fun _ => rfl

end GroupWork

section
variable (s : State) (a : Act)

theorem State.routeLane_groupWork (l h rd : Nat) : GroupWork a s (s.routeLane a l h rd) := by
  unfold State.routeLane
  dsimp only
  split
  · exact .refl s
  · exact ⟨OnlyParts.modAs (by simp) s a _, rfl, rfl⟩

theorem State.bindLanes_groupWork (hs : List Nat) : GroupWork a s (s.bindLanes a hs) := by
  refine GroupWork.each s _ _ fun t x => ?_
  dsimp only
  split
  · exact ((GroupWork.setFld t _ _).trans (.setFld _ _ _)).trans (State.routeLane_groupWork _ a _ _ _)
  · exact .setFld t _ _

theorem State.takeGroup_groupWork (g : Nat) (hs : List Nat) : GroupWork a s (s.takeGroup a g hs) := by
  unfold State.takeGroup
  dsimp only
  refine .trans ?_ (State.bindLanes_groupWork _ a hs)
  refine .trans (.trans (.trans ?_ (.setFld _ _ _)) (.setFld _ _ _)) (.setFld _ _ _)
  refine .trans (.trans (.modSv s _ ?_) (.each _ _ _ fun t x => .modPlace t _ _)) (.each _ _ _ fun t k => ?_)
  · exact fun _ => rfl
  split
  · exact (((GroupWork.setFld t _ _).trans (.setFld _ _ _)).trans (.setFld _ _ _)).trans (.setFld _ _ _)
  · exact .refl t

theorem State.startLoad_pins : (s.startLoad a).pins =
    (((s.takeGroup a (s.loadGroup a) (s.groupHeads a (s.loadGroup a))).setFld (SV_STAT.ACTIVE (actNum a)) 0).setVcm a true (s.loadI a)).pins := by
  rw [State.startLoad, State.svGoto_pins, State.modSv_pins, State.setFld_pins]

/-- The coil drives off the ramp, with the coefficient set of the speed in use. -/
theorem State.startLoad_loading :
    (s.startLoad a).svState a = svLoading ∧ (s.startLoad a).pins.vcmEn.at a = true ∧ (s.startLoad a).pins.vcmCmd.at a = s.loadI a ∧
    ((s.startLoad a).sv a).attempts = (s.sv a).attempts + 1 ∧ ((s.startLoad a).sv a).coefRpm = s.fld SP_SPEED.SLEWED ∧
    ((s.startLoad a).sv a).reload = false := by
  have hattempts := (s.takeGroup_groupWork a (s.loadGroup a) (s.groupHeads a (s.loadGroup a))).attempts
  refine ⟨?_, ?_, ?_, by simp [State.startLoad, hattempts], by simp [State.startLoad], by simp [State.startLoad]⟩
  · unfold State.startLoad
    exact State.svState_svGoto_same _ a (by decide)
  · rw [State.startLoad_pins, State.setVcm_vcmEn, PerAct.at_put_same]
  · rw [State.startLoad_pins, State.setVcm_vcmCmd, PerAct.at_put_same]

theorem State.startLoad_frame :
    (s.startLoad a).sv (otherAct a) = s.sv (otherAct a) ∧ OnlyParts [.regs, .pins, .servo, .assist] s (s.startLoad a) := by
  obtain ⟨hparts, hother, -⟩ := s.takeGroup_groupWork a (s.loadGroup a) (s.groupHeads a (s.loadGroup a))
  refine ⟨by simp [State.startLoad, hother], ?_⟩
  unfold State.startLoad
  dsimp only
  refine .trans ?_ (.mono (by decide) (State.svGoto_parts _ a svLoading))
  refine .trans (.trans ?_ (.setFld (by simp) _ _ _)) (.modSv (by simp) _ a _)
  exact ((hparts.mono (by decide)).trans (.setFld (by simp) _ _ _)).trans (.mono (by decide) (State.setVcm_parts _ a true _))

end

/-! ### A park request (R318) -/

section
variable {s : State} {a : Act}

theorem State.parkAct_of_loaded (hloaded : s.svLoaded a = true) (hstate : s.svState a ≠ svUnloading) :
    s.parkAct a = ((((s.closeGates a).modSv a (fun v => { v with seekWait := none })).setVcm a true (-(s.loadI a))).setFld
      (SV_STAT.ACTIVE (actNum a)) 0).svGoto a svUnloading :=
  if_pos (by simp [hloaded, hstate])

/-- The gates close, and the current that loaded the actuator is reversed. -/
theorem State.parkAct_unloading (hloaded : s.svLoaded a = true) (hstate : s.svState a ≠ svUnloading) :
    (s.parkAct a).svState a = svUnloading ∧ (s.parkAct a).pins.vcmCmd.at a = -(s.loadI a) ∧ (s.parkAct a).pins.vcmEn.at a = true ∧
    (s.parkAct a).fld (SV_STAT.ACTIVE (actNum a)) = 0 ∧ ∀ n < 2, (s.parkAct a).gate a n = false := by
  rw [State.parkAct_of_loaded hloaded hstate]
  refine ⟨State.svState_svGoto_same _ a (by decide), ?_, ?_, ?_, fun n hn => ?_⟩
  · rw [State.svGoto_pins, State.setFld_pins, State.setVcm_vcmCmd, PerAct.at_put_same]
  · rw [State.svGoto_pins, State.setFld_pins, State.setVcm_vcmEn, PerAct.at_put_same]
  · rw [State.fld_svGoto _ a _ (by cases a <;> rfl) (by cases a <;> rfl), State.fld_setFld_same _ _ _ (by cases a <;> rfl), Nat.zero_mod]
  · rw [State.gate, State.svGoto_pins, State.setFld_pins, State.setVcm_pins, State.modSv_pins]
    exact s.gate_closeGates_same a hn

theorem State.parkAct_frame (hloaded : s.svLoaded a = true) (hstate : s.svState a ≠ svUnloading) :
    (s.parkAct a).svState (otherAct a) = s.svState (otherAct a) ∧
    OnlyParts [.regs, .tickMem, .pins, .map, .servo, .assist, .lanes, .tier] s (s.parkAct a) := by
  have hgates := s.closeGates_gateWork a
  rw [State.parkAct_of_loaded hloaded hstate]
  constructor
  · rw [State.svState_svGoto_other, State.svState, State.fld_setFld_other _ _ _ _ (by cases a <;> rfl) (by cases a <;> rfl) (by cases a <;> rfl),
      State.fld_setVcm _ a _ _ (by cases a <;> decide), State.modSv_fld]
    exact hgates.states (otherAct a)
  · refine .trans ?_ (.mono (by decide) (State.svGoto_parts _ a svUnloading))
    refine .trans (.trans ?_ (.mono (by decide) (State.setVcm_parts _ a true _))) (.setFld (by simp) _ _ _)
    exact (hgates.parts.mono (by decide)).trans (.modSv (by simp) _ a _)

end

/-! ### The coil off, no group in use (R318, R320) -/

/-- Actuator `a` comes to rest in state `st`. -/
def State.restIn (s : State) (a : Act) (st : Nat) : State := ((s.setVcm a false 0).leaveGroup a).svGoto a st

theorem State.nowParked_eq (s : State) (a : Act) : s.nowParked a = ((s.restIn a svParked).afterParked a).standbyStep := rfl

section
variable (s : State) (a : Act)

theorem State.restIn_coil (st : Nat) :
    (s.restIn a st).pins.vcmEn.at a = false ∧ (s.restIn a st).pins.vcmCmd.at a = 0 ∧ (s.restIn a st).pins.ret = s.pins.ret := by
  rw [State.restIn, State.svGoto_pins, State.leaveGroup_pins, State.setVcm_vcmEn, State.setVcm_vcmCmd, State.setVcm_ret]
  exact ⟨PerAct.at_put_same _ a _, PerAct.at_put_same _ a _, rfl⟩

theorem State.restIn_group (st : Nat) : ((s.restIn a st).sv a).places = [] ∧ (s.restIn a st).fld (SV_STAT.GROUP (actNum a)) = 0xF := by
  obtain ⟨hplaces, hgroup⟩ := (s.setVcm a false 0).leaveGroup_empty a
  refine ⟨by simp [State.restIn, hplaces], ?_⟩
  rw [State.restIn, State.fld_svGoto _ a _ (by cases a <;> rfl) (by cases a <;> rfl), hgroup]

theorem State.restIn_state {st : Nat} (hst : st < 16) : (s.restIn a st).svState a = st := State.svState_svGoto_same _ a hst

theorem State.restIn_frame (st : Nat) :
    (s.restIn a st).sv (otherAct a) = s.sv (otherAct a) ∧ OnlyParts [.regs, .pins, .servo] s (s.restIn a st) :=
  ⟨by simp [State.restIn],
    ((s.setVcm_parts a false 0).trans (.mono (by decide) (State.leaveGroup_parts _ a))).trans (.mono (by decide) (State.svGoto_parts _ a st))⟩

/-- Another register of the actuator keeps its fields. -/
theorem State.fld_restIn (st : Nat) {g : Fld}
    (hg : g.addr ∉ [(SV_STAT.REG (actNum a)).addr, (SV_VCM.REG (actNum a)).addr, (SV_RRO.REG (actNum a)).addr]) :
    (s.restIn a st).fld g = s.fld g := by
  simp only [List.mem_cons, List.not_mem_nil, or_false, not_or] at hg
  obtain ⟨hstat, hvcm, hrro⟩ := hg
  have hleave : ∀ t : State, (t.leaveGroup a).fld g = t.fld g := fun t => by
    rw [State.leaveGroup, State.fld_setFld_addr _ (SV_RRO.CONV (actNum a)) g _ (Ne.symm hrro),
      State.fld_setFld_addr _ (SV_STAT.ACTIVE (actNum a)) g _ (Ne.symm hstat), State.fld_setFld_addr _ (SV_STAT.GROUP (actNum a)) g _ (Ne.symm hstat),
      State.modSv_fld]
  rw [State.restIn, State.svGoto, State.fld_setFld_addr _ (SV_STAT.STATE (actNum a)) g _ (Ne.symm hstat), State.modSv_fld, hleave,
    State.fld_setVcm _ a _ _ (Ne.symm hvcm)]

end

/-! ### What the rows come to -/

section
variable {s : State} {a : Act}

theorem State.loadAsked_of_parked (hstate : s.svState a = svParked) (hready : s.spReady = true) (hnote : s.bit FB_STAT.BASENOTE = false)
    (hserving : s.isServing (domOfAct a) = true) : s.loadAsked a = (s.modSv a (fun v => { v with attempts := 0 })).startLoad a :=
  if_pos (by simp [hstate, hready, hnote, hserving])

theorem State.unloadEnd_of_unloading (hstate : s.svState a = svUnloading) (stillValid : Bool) :
    s.unloadEnd a stillValid = if stillValid then s.vcmFault a else s.nowParked a :=
  if_neg (by simp [hstate])

/-- A load that times out is tried again until the third attempt. -/
theorem State.loadOut_of_loading (hstate : s.svState a = svLoading) :
    s.loadOut a = if (s.sv a).attempts < 3 then (s.parkAct a).modSv a (fun v => { v with reload := true })
      else (((s.setBit (SV_FAULT.LOADFAIL (actNum a))).restIn a svFaulted).domainFault (domOfAct a) 3).domSettle.standbyStep :=
  if_neg (by simp [hstate])

/-- RET_x_L is let go. -/
def State.retFreed (s : State) (a : Act) : State := s.modPins (fun p => { p with ret := p.ret.put a false })

/-- The actuator whose retract followed a fault is Faulted once it is released. -/
def State.retFaulted (s : State) (a : Act) : State :=
  (((s.retFreed a).setVcm a false 0).modSv a (fun v => { v with faultPend := false })).svGoto a svFaulted

theorem State.retFreed_parts (s : State) (a : Act) : OnlyParts [.pins] s (s.retFreed a) := OnlyParts.modPins (by simp) s _

theorem State.retFaulted_parts (s : State) (a : Act) : OnlyParts [.regs, .tickMem, .pins, .servo] s (s.retFaulted a) := by
  refine .trans (.trans ?_ (.modSv (by simp) _ a _)) (.mono (by decide) (State.svGoto_parts _ a svFaulted))
  exact (s.retFreed_parts a).mono (by decide) |>.trans (.mono (by decide) (State.setVcm_parts _ a false 0))

theorem State.retRelease_of_retracting (hstate : s.svState a = svRetracting) :
    s.retRelease a = if (s.sv a).faultPend then (s.retFaulted a).standbyStep else (s.retFreed a).nowParked a :=
  if_neg (fun hne => bne_iff_ne.mp hne hstate)

end

/-- Settles O27: a clause for each outcome of a load, of an unload and of a retract. That the third failed load ends Faulted without a
retract, and the current of a load, are the model's choice (assumption 30). -/
theorem loadingAndParking : Obligations.loading_and_parking := by
  refine ⟨?load, ?park, ?unloaded, ?stillValid, ?released, ?faulted, ?again, ?failed⟩
  case load =>
    intro s a hlive hstate hready hnote hserving
    have hexec : exec (.loadRequest a) s = .next (s.loadAsked a) := next_whileLive_of_live hlive _
    rw [State.loadAsked_of_parked hstate hready hnote hserving] at hexec
    have hfresh : OnlyParts [.servo] s (s.modSv a fun v => { v with attempts := 0 }) := .modSv (by simp) s a _
    obtain ⟨hloading, hen, hcmd, hattempts, hrpm, hreload⟩ := (s.modSv a fun v => { v with attempts := 0 }).startLoad_loading a
    obtain ⟨hother, hparts⟩ := (s.modSv a fun v => { v with attempts := 0 }).startLoad_frame a
    refine ⟨_, hexec, hloading, hen, hcmd, ?_, hrpm, hreload, hother.trans (s.sv_modSv_other a _), ?_⟩
    · rw [hattempts, State.sv_modSv_same]
    · exact (hfresh.mono (by decide)).trans (hparts.mono (by decide))
  case park =>
    intro s a hlive hloaded hstate
    obtain ⟨hunloading, hcmd, hen, hactive, hgates⟩ := State.parkAct_unloading hloaded hstate
    exact ⟨s.parkAct a, next_whileLive_of_live hlive _, hunloading, hcmd, hen, hactive, hgates, State.parkAct_frame hloaded hstate⟩
  case unloaded =>
    intro s a hlive hstate
    obtain ⟨hen, hcmd, -⟩ := s.restIn_coil a svParked
    obtain ⟨hplaces, hgroup⟩ := s.restIn_group a svParked
    obtain ⟨hother, hparts⟩ := s.restIn_frame a svParked
    have hexec : exec (.unloadProfileEnd a false) s = .next (s.unloadEnd a false) := next_whileLive_of_live hlive _
    rw [State.unloadEnd_of_unloading hstate] at hexec
    exact ⟨s.restIn a svParked, hexec, s.restIn_state a (by decide), hen, hcmd, hplaces, hgroup, hother, hparts.mono (by decide)⟩
  case stillValid =>
    intro s a hlive hstate
    have hexec : exec (.unloadProfileEnd a true) s = .next (s.unloadEnd a true) := next_whileLive_of_live hlive _
    have hfault : exec (.vcmFaultPin a) s = .next (s.vcmFault a) := next_whileLive_of_live hlive _
    rw [hexec, hfault, State.unloadEnd_of_unloading hstate, if_pos rfl]
  case released =>
    intro s a hstate hpend
    obtain ⟨hen, -, hret⟩ := (s.retFreed a).restIn_coil a svParked
    obtain ⟨-, hparts⟩ := (s.retFreed a).restIn_frame a svParked
    have hexec : exec (.retractRelease a) s = .next (s.retRelease a) := rfl
    rw [State.retRelease_of_retracting hstate, hpend] at hexec
    refine ⟨(s.retFreed a).restIn a svParked, hexec, State.restIn_state _ a (by decide), ?_, ?_, hen, ?_⟩
    · rw [hret]; exact PerAct.at_put_same _ a _
    · rw [hret]; exact PerAct.at_put_other _ a _
    · exact ((s.retFreed_parts a).mono (by decide)).trans (hparts.mono (by decide))
  case faulted =>
    intro s a hstate hpend
    have hexec : exec (.retractRelease a) s = .next (s.retRelease a) := rfl
    rw [State.retRelease_of_retracting hstate, hpend] at hexec
    refine ⟨s.retFaulted a, hexec, State.svState_svGoto_same _ a (by decide), ?_, ?_, ?_⟩
    · rw [State.retFaulted, State.svGoto_pins, State.modSv_pins, State.setVcm_ret]
      exact PerAct.at_put_same _ a _
    · simp [State.retFaulted]
    · exact State.retFaulted_parts s a
  case again =>
    intro s a hlive hstate hattempts
    have hloaded : s.svLoaded a = true := by simp [State.svLoaded, hstate, svLoading]
    have hne : s.svState a ≠ svUnloading := by rw [hstate]; decide
    obtain ⟨hunloading, hcmd, -, -, -⟩ := State.parkAct_unloading hloaded hne
    have hexec : exec (.loadTimeout a) s = .next (s.loadOut a) := next_whileLive_of_live hlive _
    rw [State.loadOut_of_loading hstate, if_pos hattempts] at hexec
    exact ⟨_, hexec, hunloading, by simp, hcmd, (State.parkAct_frame hloaded hne).2.trans (.modSv (by simp) _ a _)⟩
  case failed =>
    intro s a hlive hstate hattempts
    have hexec : exec (.loadTimeout a) s = .next (s.loadOut a) := next_whileLive_of_live hlive _
    rw [State.loadOut_of_loading hstate, if_neg (by omega)] at hexec
    refine ⟨_, hexec, State.restIn_state _ a (by decide), ?_, (State.restIn_coil _ a svFaulted).1, ?_⟩
    · rw [State.bit, State.fld_restIn _ a _ (by cases a <;> decide)]
      exact s.bit_setBit_same (SV_FAULT.LOADFAIL (actNum a)) (by cases a <;> rfl)
    · exact (OnlyParts.setBit (by simp) (by simp) s _).trans ((State.restIn_frame _ a svFaulted).2.mono (by decide))

end Sys2Proof.Machine
end


section
/-! SUPPORT. A wedge that LS counts while its actuator loads (O28). -/
namespace Sys2Proof.Machine

theorem exec_wedgeSample_of_live {s : State} (h : s.live = true) (a : Act) (x : WedgeIn) : exec (.wedgeSample a x) s = .next (s.wedge a x) :=
  next_whileLive_of_live h _

/-- A running device whose actuator A is Loading with seven valid samples in a row, while LS stands in for its lane 0 in a calibration run. -/
def loadingStoodIn : State :=
  ((powered [(SV_STAT.STATE 0, svLoading), (LN_STAT.STATE 0, lnServo), (LN_STAT.PLACE 0, 0)]).modSv .A (fun v => { v with stWedges := 7 })).modCal
    (fun c => { c with runs := [{ run1 with inPlace := false }], lsUse := 1 })

/-- Its eighth valid sample: the primary's wedge alone, the current as commanded, nothing echoed. -/
def eighthWedge : WedgeIn := ⟨[goodWedge 1 9 0], 0, [], 0, 0, 0, []⟩

theorem loadingStoodIn_live : loadingStoodIn.live = true := by decide +kernel

/-- The wedge is the first valid sample that the run counts (R426). -/
theorem loadingStoodIn_wedge_counts : (loadingStoodIn.wedge .A eighthWedge).cal.runs.map CalRun.valid = [1] := by decide +kernel

/-- Refutes O28: its clause on a wedge in Loading has calibration unchanged, and LS counts the valid samples of its stand-in at every wedge
of the actuator (R426). -/
theorem not_seeksAndWedges : ¬ Obligations.seeks_and_wedges := by
  rintro ⟨-, -, -, -, hload, -⟩
  obtain ⟨t, hexec, -, -, -, -, -, hframe⟩ :=
    hload loadingStoodIn .A eighthWedge loadingStoodIn_live (by decide +kernel) (by decide +kernel) (by decide +kernel) (by decide +kernel) rfl
      (by decide +kernel)
  have ht : loadingStoodIn.wedge .A eighthWedge = t :=
    Host.Outcome.next.inj ((exec_wedgeSample_of_live loadingStoodIn_live .A eighthWedge).symm.trans hexec)
  have hcal : t.cal = loadingStoodIn.cal := hframe.2 .cal (by decide)
  have hvalid : loadingStoodIn.cal.runs.map CalRun.valid = [1] := by rw [← hcal, ← ht]; exact loadingStoodIn_wedge_counts
  exact absurd hvalid (by decide)

end Sys2Proof.Machine
end


section
/-! SUPPORT. What the operations of the recovery queue change (O32, O33, R401, R405, R410): DD_SS with the pins, DD_STAT and DD_UNITn with
the queue and the units, and of the decode part the lists that they name. -/
namespace Sys2Proof.Machine

/-! ### Frames -/

theorem OnlyParts.modDecode {ps : List Part} (hps : Part.decode ∈ ps) (s : State) (f : DecodeSt → DecodeSt) :
    OnlyParts ps s (s.modDecode f) := by
  refine ⟨rfl, fun p hp => ?_⟩
  cases p with
  | decode => exact absurd hps hp
  | _ => rfl

theorem OnlyParts.modNvme {ps : List Part} (hps : Part.nvme ∈ ps) (s : State) (f : NvmeSt → NvmeSt) : OnlyParts ps s (s.modNvme f) := by
  refine ⟨rfl, fun p hp => ?_⟩
  cases p with
  | nvme => exact absurd hps hp
  | _ => rfl

theorem OnlyParts.bump {ps : List Part} (hregs : Part.regs ∈ ps) (hmem : Part.tickMem ∈ ps) (s : State) (f : Fld) :
    OnlyParts ps s (s.bump f) :=
  (OnlyParts.setFld hregs s f _).trans (OnlyParts.tickMem hmem _ _)

theorem OnlyRegs.bump {as : List Nat} (s : State) (f : Fld) (h : f.addr ∈ as) : OnlyRegs as s (s.bump f) := OnlyRegs.setFld s f _ h

theorem OnlyRegs.mono {as bs : List Nat} {s t : State} (hab : as ⊆ bs) (h : OnlyRegs as s t) : OnlyRegs bs s t :=
  fun a ha => h a (fun hmem => ha (hab hmem))

theorem OnlyParts.setReg {ps : List Part} (hps : Part.regs ∈ ps) (s : State) (a : Nat) (w : Word32) : OnlyParts ps s (s.setReg a w) := by
  refine ⟨rfl, fun p hp => ?_⟩
  cases p with
  | regs => exact absurd hps hp
  | _ => rfl

theorem OnlyRegs.setReg {as : List Nat} (s : State) {a : Nat} (w : Word32) (h : a ∈ as) : OnlyRegs as s (s.setReg a w) :=
  fun _ hb => State.reg_setReg_other s _ _ w (fun e => hb (e ▸ h))

/-- A counter counts one event, up to its field's largest value. -/
theorem State.fld_bump_same (s : State) (f : Fld) (hf : f.ok = true) : (s.bump f).fld f = Nat.min (s.fld f + 1) f.max := by
  have hcount : (s.bump f).fld f = Nat.min (s.fld f + 1) f.max % 2 ^ (f.hi - f.lo + 1) := State.fld_setFld_same s f _ hf
  have hmax : f.max < 2 ^ (f.hi - f.lo + 1) := Nat.sub_lt (Nat.two_pow_pos _) Nat.one_pos
  rw [hcount, Nat.mod_eq_of_lt (Nat.lt_of_le_of_lt (Nat.min_le_right _ _) hmax)]

/-! ### The registers of the pool -/

/-- DD_STAT and DD_UNIT0 to DD_UNIT3. -/
def unitRegs : List Nat := DD_STAT.REG.addr :: (List.range 4).map (fun u => (DD_UNIT.REG u).addr)

theorem State.ddSync_frame (s : State) : OnlyParts [.regs, .tickMem] s s.ddSync ∧ OnlyRegs unitRegs s s.ddSync := by
  have hstat : DD_STAT.REG.addr ∈ unitRegs := List.mem_cons_self
  refine State.each_keeps (fun t => OnlyParts [.regs, .tickMem] s t ∧ OnlyRegs unitRegs s t) _ _ _
    ⟨OnlyParts.setFld (by simp) s _ _, OnlyRegs.setFld s _ _ hstat⟩ (fun t ⟨hparts, hregs⟩ u hu => ?_)
  have hunit : (DD_UNIT.REG u).addr ∈ unitRegs := List.mem_cons_of_mem _ (List.mem_map_of_mem hu)
  have hbusy (b : Bool) : OnlyParts [.regs, .tickMem] s (t.setFldBit DD_STAT.BUSY u b) ∧ OnlyRegs unitRegs s (t.setFldBit DD_STAT.BUSY u b) :=
    ⟨hparts.trans (.setFldBit (by simp) (by simp) t _ u b), hregs.trans (.setFldBit t _ u b hstat)⟩
  split
  · exact ⟨((hbusy true).1.trans (.setFld (by simp) _ (DD_UNIT.STEP u) _)).trans (.setFld (by simp) _ (DD_UNIT.HEAD u) _),
      ((hbusy true).2.trans (.setFld _ (DD_UNIT.STEP u) _ hunit)).trans (.setFld _ (DD_UNIT.HEAD u) _ hunit)⟩
  · exact ⟨(hbusy false).1.trans (.setReg (by simp) _ _ _), (hbusy false).2.trans (.setReg _ _ hunit)⟩

@[simp] theorem State.ddSync_decode (s : State) : s.ddSync.decode = s.decode := s.ddSync_frame.1.2 .decode (by decide)

theorem State.unpin_frame (s : State) (es : List Nat) :
    OnlyParts [.regs, .decode] s (s.unpin es) ∧ OnlyRegs [DD_SS.REG.addr] s (s.unpin es) := by
  have hpins := State.each_keeps (fun t => OnlyParts [.regs, .decode] s t ∧ OnlyRegs [DD_SS.REG.addr] s t)
    (fun t e => t.modExtent e (fun x => { x with pins := x.pins - 1 })) es s ⟨.refl _ s, .refl _ s⟩
    (fun t ⟨hparts, hregs⟩ e _ => ⟨hparts.trans (.modDecode (by simp) t _), hregs.trans (.of_regs rfl)⟩)
  exact ⟨(hpins.1.trans (.setFld (by simp) _ _ _)).trans (.setFld (by simp) _ _ _),
    (hpins.2.trans (.setFld _ _ _ (by decide))).trans (.setFld _ _ _ (by decide))⟩

/-- Pins that go leave the frames in recovery. -/
@[simp] theorem State.unpin_recoveries (s : State) (es : List Nat) : (s.unpin es).recoveries = s.recoveries :=
  State.each_keeps (fun t => t.recoveries = s.recoveries) (fun t e => t.modExtent e (fun x => { x with pins := x.pins - 1 })) es s rfl
    (fun _ ht _ _ => ht)

theorem State.hold_frame (s : State) (r : Recovery) :
    OnlyParts [.regs, .tickMem, .decode] s (s.hold r) ∧ OnlyRegs unitRegs s (s.hold r) := by
  unfold State.hold
  exact ⟨.trans (.modDecode (by simp) s _) ((State.ddSync_frame _).1.mono (by decide)),
    .trans (.of_regs (State.modDecode_regs s _)) (State.ddSync_frame _).2⟩

theorem State.hold_active (s : State) (r : Recovery) :
    (s.hold r).decode.active = s.decode.active.filter (fun x => !x.same r) ++ [r] := by
  simp [State.hold]

theorem State.dropRecovery_frame (s : State) (r : Recovery) :
    OnlyParts [.regs, .tickMem, .decode] s (s.dropRecovery r) ∧ OnlyRegs (DD_SS.REG.addr :: unitRegs) s (s.dropRecovery r) := by
  unfold State.dropRecovery
  exact ⟨.trans (.trans (.modDecode (by simp) s _) ((State.unpin_frame _ _).1.mono (by decide))) ((State.ddSync_frame _).1.mono (by decide)),
    .trans (.trans (.of_regs (State.modDecode_regs s _)) ((State.unpin_frame _ _).2.mono (by simp))) ((State.ddSync_frame _).2.mono (by simp))⟩

/-- A recovery that is over is neither queued nor active. -/
theorem State.dropRecovery_recoveries (s : State) (r : Recovery) :
    (s.dropRecovery r).recoveries = s.recoveries.filter (fun q => !q.same r) := by
  have hsync : ∀ t : State, t.ddSync.recoveries = t.recoveries := fun t => by simp [State.recoveries]
  rw [State.dropRecovery, hsync, State.unpin_recoveries]
  simp [State.recoveries]

/-! ### Readers that wait -/

theorem State.resumeReads_of_idle {s : State} (h : s.nvme.inflight = []) : s.resumeReads = s := by
  simp [State.resumeReads, h, State.each]

theorem State.unwait_inflight_of_idle {s : State} (h : s.nvme.inflight = []) (p : Nat) : (s.unwait p).nvme.inflight = [] := by
  simp [State.unwait, h]

theorem State.standbyStep_of_not_pending {s : State} (h : s.power.standbyPending = false) : s.standbyStep = s :=
  if_pos (by simp [h])

end Sys2Proof.Machine
end


section
/-! SUPPORT. A valid decode in a unit that the device does not have (O32, R396, R408, R410, R632). -/
namespace Sys2Proof.Machine

/-- The registers that a valid decode before the ladder writes while no read waits. -/
def okRegs : List Nat := DD_OKFIX.REG.addr :: DD_OKOFF.REG.addr :: DD_SS.REG.addr :: unitRegs

/-- With no read waiting, a recovery that ends before the ladder counts its step and writes registers of the pool alone. -/
theorem State.recovered_idle_frame {s : State} {r : Recovery} (hcode : r.code = 0) (hidle : s.nvme.inflight = []) :
    OnlyParts [.regs, .tickMem, .decode, .nvme] s (s.recovered r) ∧ OnlyRegs okRegs s (s.recovered r) := by
  obtain ⟨hparts, hregs⟩ := s.dropRecovery_frame r
  have hnvme : (s.dropRecovery r).nvme = s.nvme := hparts.2 .nvme (by decide)
  unfold State.recovered
  generalize s.dropRecovery r = t at hparts hregs hnvme
  have hcounted (f : Fld) (hf : f.addr ∈ okRegs) (p : Nat) :
      OnlyParts [.regs, .tickMem, .decode, .nvme] s ((t.bump f).unwait p).resumeReads ∧
        OnlyRegs okRegs s ((t.bump f).unwait p).resumeReads := by
    rw [State.resumeReads_of_idle (State.unwait_inflight_of_idle (by rw [State.bump_nvme, hnvme, hidle]) p)]
    exact ⟨((hparts.mono (by decide)).trans (.bump (by simp) (by simp) t f)).trans (.modNvme (by simp) _ _),
      ((hregs.mono (by simp [okRegs])).trans (.bump t f hf)).trans (.of_regs (State.modNvme_regs _ _))⟩
  simp only [hcode, bne_self_eq_false, Bool.false_eq_true, if_false]
  split
  · exact hcounted DD_OKFIX.RESEARCH (by decide) _
  · split
    · exact hcounted DD_OKFIX.DEEP (by decide) _
    · exact hcounted DD_OKOFF.OFFSET (by decide) _

/-- The number for which DD_UNITn lies on GA_MIN of gauge 0. -/
def strayUnit : Nat := 0x24400

/-- A frame in its deep decode in that unit. -/
def strayFrame : Recovery := { rec1 with unit := some strayUnit, stage := 2 }

/-- The medium holds the frame, and gauge 0 is armed for the iterations of the deep decodes, GA_MIN at its largest (R632, R633). -/
def gaugedStray : State :=
  onMedium 0 5 2 ⟨0, 0, 0, []⟩ { powered [(GA_CTL.ARMED 0, 1), (GA_CTL.SRC 0, 6), (GA_CTL.INST 0, 4), (GA_MIN.VALUE 0, 0x7FFFFFFF)] with
    decode := { State.reset.decode with active := [strayFrame] } }

/-- What the medium holds, decoded in nine iterations. -/
def nineIterations : DecodeRes := ⟨frameWord (trackWord 0 5) 2 0 7 9 [], 9⟩

/-- The decode leaves 9 in GA_MIN, the gauge's least sample, and so 0 where ITER of the unit would lie. -/
theorem gaugedStray_iter : ((gaugedStray.ddStepDone strayUnit (.decode nineIterations)).standbyStep).fld (DD_UNIT.ITER strayUnit) = 0 := by
  decide +kernel

/-- Refutes O32: its clause on a valid decode has the iteration count in DD_UNITn.ITER for every number n. The device has units 0 to 3
(R404), and no premise bounds n: the register of unit 0x24400 is GA_MIN of gauge 0, which takes the sample of R632 after the count is
written. -/
theorem not_deepDecode : ¬ Obligations.deep_decode := by
  rintro ⟨-, -, -, -, -, hvalid, -⟩
  have hlive : gaugedStray.live = true := by decide +kernel
  obtain ⟨v, hexec, hiter, hframe⟩ :=
    hvalid gaugedStray strayUnit strayFrame nineIterations hlive (by decide +kernel) rfl (by decide +kernel)
  have hdone : exec (.deepDecodeStepDone strayUnit (.decode nineIterations)) gaugedStray =
      .next (gaugedStray.ddStepDone strayUnit (.decode nineIterations)).standbyStep := next_whileLive_of_live hlive _
  have hidle : v.nvme.inflight = [] := congrArg NvmeSt.inflight (hframe.2 .nvme (by decide))
  have hpower : v.power = gaugedStray.power := hframe.2 .power (by decide)
  have hafter := Host.Outcome.next.inj (hdone.symm.trans hexec)
  obtain ⟨hparts, hregs⟩ := State.recovered_idle_frame (s := v.readAs strayFrame.surf strayFrame.track strayFrame.frame
    (decodedInfo nineIterations strayFrame.surf strayFrame.track strayFrame.frame)) (r := strayFrame) rfl hidle
  rw [State.standbyStep_of_not_pending (congrArg Power.standbyPending ((hparts.2 .power (by decide)).trans hpower))] at hafter
  have hzero : v.fld (DD_UNIT.ITER strayUnit) = 0 := by
    rw [← gaugedStray_iter, hafter]
    exact (State.fld_of_onlyRegs hregs (by decide)).symm
  exact absurd (hiter.symm.trans hzero) (by decide)

end Sys2Proof.Machine
end


section
/-! SUPPORT. Re-reads and the waits of a recovery (O33, R411, R415, R416, R417). -/
namespace Sys2Proof.Machine

/-! ### Requests -/

/-- One request is taken. -/
def State.withoutReread (s : State) (r : Reread) : State :=
  s.modLanes (fun x => { x with rereads := x.rereads.filter (fun q => !(q == r)) })

/-- The requests for a frame go. -/
def State.withoutRereadsOf (s : State) (surf track frame : Nat) : State :=
  s.modLanes (fun x => { x with rereads := x.rereads.filter (fun q => !(q.surf == surf && q.track == track && q.frame == frame)) })

/-- A re-read asked for is among the requests. -/
theorem State.askReread_contains (s : State) (r : Reread) : (s.askReread r).lanes.rereads.contains r = true := by
  simp only [State.askReread, State.modLanes_lanes]
  split
  · assumption
  · simp

/-- The direct re-reads counted for a frame are those last set. -/
theorem State.directCount_setDirect_same (s : State) (surf track frame n : Nat) : (s.setDirect surf track frame n).directCount surf track frame = n := by
  have hnone : (s.decode.direct.filter (fun x => !(x.1 == surf && x.2.1 == track && x.2.2.1 == frame))).find?
      (fun x => x.1 == surf && x.2.1 == track && x.2.2.1 == frame) = none := by
    refine List.find?_eq_none.mpr (fun x hx => ?_)
    exact ne_true_of_eq_false (Bool.not_inj (List.mem_filter.mp hx).2)
  simp only [State.directCount, State.setDirect, State.modDecode_decode, List.find?_append, hnone]
  by_cases hn : n = 0
  · simp [hn]
  · simp [hn]

/-- A two-reader request of a frame becomes a plain one (R411). -/
theorem Reread.plain_eq (r : Reread) (surf track frame : Nat) :
    (if r.kind == 4 && r.surf == surf && r.track == track && r.frame == frame then { r with kind := 1 } else r) =
      if r = ⟨surf, track, frame, 4⟩ then ⟨surf, track, frame, 1⟩ else r := by
  by_cases h : r = ⟨surf, track, frame, 4⟩
  · subst h
    simp
  · rw [if_neg h, if_neg]
    intro hall
    simp only [Bool.and_eq_true, beq_iff_eq] at hall
    obtain ⟨⟨⟨hkind, rfl⟩, rfl⟩, rfl⟩ := hall
    exact h (hkind ▸ rfl)

/-! ### A pass (R415) -/

section
variable {s : State} {a : Act} {r : Reread} {l : Nat}

theorem State.rereadPass_of_plain (haway : s.actAway a = false) (hstate : s.svState a = svFollowing)
    (hfind : s.lanes.rereads.find? (s.canReread a) = some r) (hkind : r.kind = 1) (hlane : s.laneOfSurf r.surf = some l) (start : Nat) :
    s.rereadPass a start = (s.withoutReread r).frameCommand l r.track r.frame start := by
  simp [State.rereadPass, State.withoutReread, haway, hstate, hfind, hkind, hlane]

theorem State.rereadPass_of_direct (haway : s.actAway a = false) (hstate : s.svState a = svFollowing)
    (hfind : s.lanes.rereads.find? (s.canReread a) = some r) (hkind : r.kind = 0) (hlane : s.laneOfSurf r.surf = some l) (start : Nat) :
    s.rereadPass a start = (((s.withoutReread r).bump DD_REREAD.DIRECT).setDirect r.surf r.track r.frame
      (s.directCount r.surf r.track r.frame + 1)).frameCommand l r.track r.frame start := by
  simp [State.rereadPass, State.withoutReread, haway, hstate, hfind, hkind, hlane]

end

/-! ### Waits (R411, R416, R417) -/

/-- With nothing retained, the wait for a neighbour becomes that for a pass of the next track. -/
theorem State.neighbourExpiry_of_none {s : State} {surf track frame : Nat} {r : Recovery}
    (hfind : s.decode.active.find? (fun q => q.wait == 2 && q.surf == surf && q.track == track && q.frame == frame) = some r)
    (hcaps : s.neighbourCaps r = []) :
    s.neighbourExpiry surf track frame = ((s.hold { r with wait := 3 }).bump DD_REREAD.LADDER).askReread ⟨surf, track, frame, 5⟩ := by
  simp [State.neighbourExpiry, hfind, hcaps]

theorem State.lsTimeout_rereads (s : State) (surf track frame : Nat) : (s.lsTimeout surf track frame).lanes.rereads =
    s.lanes.rereads.map (fun r => if r = ⟨surf, track, frame, 4⟩ then ⟨surf, track, frame, 1⟩ else r) := by
  simp only [State.lsTimeout, State.modLanes_lanes, Reread.plain_eq]

theorem State.unreadableTimeout_of_recovery {s : State} {surf track frame : Nat} {r : Recovery}
    (hserving : s.isServing (domOfAct (surfAct surf)) = true)
    (hfind : s.recoveries.find? (fun q => q.surf == surf && q.track == track && q.frame == frame) = some r) :
    s.unreadableTimeout surf track frame = (s.withoutRereadsOf surf track frame).giveUp r 1 := by
  simp [State.unreadableTimeout, State.withoutRereadsOf, hserving, hfind]

theorem State.unreadableTimeout_of_not_serving {s : State} {surf : Nat} (hserving : s.isServing (domOfAct (surfAct surf)) = false)
    (track frame : Nat) : s.unreadableTimeout surf track frame = s :=
  if_pos (by simp [hserving])

/-- Settles O33: a clause for each kind of pass and each wait that ends. The input pair of LS is the model's choice (assumption 99). -/
theorem recoveryPasses : Obligations.recovery_passes := by
  refine ⟨?plain, ?direct, ?neighbour, ?ls, ?unreadable, ?notServing⟩
  case plain =>
    intro s a start r l hlive haway hstate hfind hkind hlane
    have hexec : exec (.rereadPass a start) s = .next (s.rereadPass a start) := next_whileLive_of_live hlive _
    rw [State.rereadPass_of_plain haway hstate hfind hkind hlane] at hexec
    exact ⟨s.withoutReread r, hexec, rfl, .modLanes (by simp) s _⟩
  case direct =>
    intro s a start r l hlive haway hstate hfind hkind hlane
    have hexec : exec (.rereadPass a start) s = .next (s.rereadPass a start) := next_whileLive_of_live hlive _
    rw [State.rereadPass_of_direct haway hstate hfind hkind hlane] at hexec
    refine ⟨_, hexec, State.directCount_setDirect_same _ _ _ _ _, ?_, ?_⟩
    · exact (s.withoutReread r).fld_bump_same DD_REREAD.DIRECT (by decide)
    · exact .trans (.trans (.modLanes (by simp) s _) (.bump (by simp) (by simp) _ _)) (.modDecode (by simp) _ _)
  case neighbour =>
    intro s surf track frame r hlive hfind hcaps
    have hexec : exec (.neighbourWaitExpiry surf track frame) s = .next (s.neighbourExpiry surf track frame) := next_whileLive_of_live hlive _
    rw [State.neighbourExpiry_of_none hfind hcaps] at hexec
    obtain ⟨hparts, hregs⟩ := s.hold_frame { r with wait := 3 }
    refine ⟨_, hexec, s.hold_active { r with wait := 3 }, State.askReread_contains _ _, ?_, ?_⟩
    · have hcount := (s.hold { r with wait := 3 }).fld_bump_same DD_REREAD.LADDER (by decide)
      rwa [State.fld_of_onlyRegs hregs (by decide)] at hcount
    · exact .trans (.trans (hparts.mono (by decide)) (.bump (by simp) (by simp) _ _)) (.modLanes (by simp) _ _)
  case ls =>
    intro s surf track frame hlive hpending
    have hexec : exec (.lsWaitTimeout surf track frame) s = .next (s.lsTimeout surf track frame).standbyStep := next_whileLive_of_live hlive _
    rw [State.standbyStep_of_not_pending (s := s.lsTimeout surf track frame) hpending] at hexec
    exact ⟨_, hexec, s.lsTimeout_rereads surf track frame, .modLanes (by simp) s _⟩
  case unreadable =>
    intro s surf track frame r hlive hserving hfind
    have hexec : exec (.unreadableTimeout surf track frame) s = .next (s.unreadableTimeout surf track frame).standbyStep :=
      next_whileLive_of_live hlive _
    rw [State.unreadableTimeout_of_recovery hserving hfind] at hexec
    have hplace := List.find?_some hfind
    simp only [Bool.and_eq_true, beq_iff_eq] at hplace
    obtain ⟨⟨rfl, rfl⟩, rfl⟩ := hplace
    refine ⟨s.withoutRereadsOf r.surf r.track r.frame, hexec, ?_, rfl, .modLanes (by simp) s _⟩
    rw [State.dropRecovery_recoveries]
    refine List.any_eq_false.mpr (fun q hq => ?_)
    exact ne_true_of_eq_false (b := q.same r) (Bool.not_inj (List.mem_filter.mp hq).2)
  case notServing =>
    intro s surf track frame hlive hserving
    have hexec : exec (.unreadableTimeout surf track frame) s = .next (s.unreadableTimeout surf track frame).standbyStep :=
      next_whileLive_of_live hlive _
    rwa [State.unreadableTimeout_of_not_serving hserving] at hexec

end Sys2Proof.Machine
end

section
/-! SUPPORT. The rebuild of the map fills region 1 of HBM (O37, R187, R469). -/
namespace Sys2Proof.Machine

theorem exec_mapRebuildStart_of_live {s : State} (h : s.live = true) (rootBad : List Nat) (copyBad : List (Nat × Nat)) (lineBad : List Nat)
    (sjBad : List (Nat × Nat)) : exec (.mapRebuildStart rootBad copyBad lineBad sjBad) s = .next (s.rebuildStart rootBad copyBad lineBad sjBad) :=
  next_whileLive_of_live h _

/-- A step that leaves the state for every element leaves it over a list. -/
theorem State.each_of_fixed {α : Type} {s : State} {f : State → α → State} (hfix : ∀ x, f s x = s) (l : List α) : s.each l f = s := by
  unfold State.each
  induction l with
  | nil => rfl
  | cons x l ih => rw [List.foldl_cons, hfix, ih]

/-- A read of MRAM that nothing has written counts Unwritten words alone; with the count at its limit it changes nothing. -/
theorem State.scanReads_of_unwritten {s : State} (hblank : s.mem.mram = []) (hlimit : s.bump MJ_ECNT.UNW = s) : s.scanReads = s := by
  have hword (i : Nat) : decodeWord (s.wordAt .mram i) = decodeWord unwrittenWord := by rw [State.wordAt, hblank, SMap.get]
  have hnote (i : Nat) : s.eccNote .mram (8 * i) reqSteward (decodeWord (s.wordAt .mram i)) = s := by
    simp only [State.eccNote, eccCounters, hword, test_unwritten_word.1, hlimit]
  have hread (addr n : Nat) : s.noteRead .mram addr n reqSteward = s := by
    rw [State.noteRead, State.each_of_fixed]
    intro i
    exact hnote i
  rw [State.scanReads, State.each_of_fixed]
  intro p
  exact hread (pageAddr p) 64

/-- A running device before its rebuild, both actuators Following, with an MRAM that nothing has written and its Unwritten words counted to
the limit. Region 1 is the MiB of HBM at 64 MiB, and its first word still holds something. -/
def staleMapWord : State :=
  ((mapped [(MP_STAT.STATE, 1), (HM_RGNBASE.BASE 1, 64), (HM_RGNSIZE.SIZE 1, 1)]).addSat MJ_ECNT.UNW MJ_ECNT.UNW.max).modMem
    (fun m => { m with hbm := [(64 * 0x20000, 1)] })

theorem staleMapWord_live : staleMapWord.live = true := by decide +kernel

theorem staleMapWord_scanReads : staleMapWord.scanReads = staleMapWord := State.scanReads_of_unwritten rfl (by decide +kernel)

/-- The rebuild zero-fills region 1, and the word goes. -/
theorem staleMapWord_rebuild_clears : (staleMapWord.rebuildStart [] [] [] []).mem.hbm = [] := by
  rw [State.rebuildStart, staleMapWord_scanReads]
  decide +kernel

/-- Refutes O37: its clause on MAP_REBUILD_START has the memories unchanged, and the rebuild zero-fills the map region (R469), whatever HBM
held there; this drive, with neither a root nor a journal, does so too. That the scan and the fill belong to the start of the rebuild is the
model's choice (assumption 39). -/
theorem not_checkpointsAndRebuild : ¬ Obligations.checkpoints_and_rebuild := by
  rintro ⟨-, -, -, -, hstart, -⟩
  obtain ⟨t, hexec, -, -, -, -, -, -, hframe⟩ :=
    hstart staleMapWord [] [] [] [] staleMapWord_live (by decide +kernel) rfl (by decide +kernel) (by decide +kernel) (.inl (by decide +kernel))
  have ht : staleMapWord.rebuildStart [] [] [] [] = t :=
    Host.Outcome.next.inj ((exec_mapRebuildStart_of_live staleMapWord_live [] [] [] []).symm.trans hexec)
  have hmem : t.mem = staleMapWord.mem := hframe.2 .mem (by decide)
  have hcleared : staleMapWord.mem.hbm = [] := by rw [← hmem, ← ht]; exact staleMapWord_rebuild_clears
  exact absurd hcleared (List.cons_ne_nil _ _)

end Sys2Proof.Machine
end

section
/-! SUPPORT. Parity over GF(2^8) and the members it restores (O40, R474, R475). -/
namespace Sys2Proof.Machine

/-! ### The field of R474

A product is linear over ⊕ in either factor. Multiplication by g commutes with every product, because the field polynomial multiplies
to 0; associativity follows. -/

/-- One bit at a time: `s` and `t` are 0 or 1. -/
theorem xor_mul_of_bits {s t : Nat} (hs : s < 2) (ht : t < 2) (c : Nat) : (s ^^^ t) * c = s * c ^^^ t * c := by
  interval_cases s <;> interval_cases t <;> simp

theorem map_bit_mul {f : Nat → Nat} (h0 : f 0 = 0) {t : Nat} (ht : t < 2) (a : Nat) : f (t * a) = t * f a := by
  interval_cases t <;> simp [h0]

theorem bit_mul_lt {t a n : Nat} (ht : t < 2) (ha : a < n) : t * a < n :=
  (mul_le_of_le_one_left (Nat.zero_le a) (Nat.le_of_lt_succ ht)).trans_lt ha

theorem gfMulN_zero (a b : Nat) : gfMulN 0 a b = 0 := by rw [gfMulN]

theorem gfMulN_succ (n a b : Nat) : gfMulN (n + 1) a b = b % 2 * a ^^^ gfMulN n (gfX a) (b / 2) := by
  have hbit : (if b % 2 == 1 then a else 0) = b % 2 * a := by
    rcases Nat.mod_two_eq_zero_or_one b with h | h <;> simp [h]
  rw [← hbit, gfMulN]
  rfl

theorem gfMulN_zero_right (n a : Nat) : gfMulN n a 0 = 0 := by
  induction n generalizing a with
  | zero => rw [gfMulN_zero]
  | succ n ih => simp [gfMulN_succ, ih]

theorem gfMulN_xor_right (n a b c : Nat) : gfMulN n a (b ^^^ c) = gfMulN n a b ^^^ gfMulN n a c := by
  induction n generalizing a b c with
  | zero => simp [gfMulN_zero]
  | succ n ih =>
    have hbit : (b ^^^ c) % 2 * a = b % 2 * a ^^^ c % 2 * a := by
      rw [Nat.xor_mod_two_pow (n := 1), xor_mul_of_bits (Nat.mod_lt b Nat.two_pos) (Nat.mod_lt c Nat.two_pos)]
    rw [gfMulN_succ, gfMulN_succ, gfMulN_succ, Nat.xor_div_two, ih, hbit]
    ac_rfl

theorem gfMulN_double (n a b : Nat) : gfMulN (n + 1) a (b <<< 1) = gfMulN n (gfX a) b := by
  simp [gfMulN_succ, Nat.shiftLeft_eq]

/-- Bits above those of the second factor add nothing. -/
theorem gfMulN_succ_of_lt {n b : Nat} (hb : b < 2 ^ n) (a : Nat) : gfMulN (n + 1) a b = gfMulN n a b := by
  induction n generalizing a b with
  | zero => rw [Nat.lt_one_iff.mp hb, gfMulN_zero_right, gfMulN_zero_right]
  | succ n ih => rw [gfMulN_succ, ih (by omega), ← gfMulN_succ]

theorem gfX_lt : ∀ a < 256, gfX a < 256 := by decide +kernel

theorem gfX_ne_zero : ∀ a < 256, a ≠ 0 → gfX a ≠ 0 := by decide +kernel

/-- Multiplication by g: a shift, and the field polynomial folded in for the bit shifted out. -/
theorem gfX_eq_shift : ∀ a < 256, gfX a = a <<< 1 ^^^ (a >>> 7) * 0x11D := by decide +kernel

theorem shiftRight_seven_lt {a : Nat} (ha : a < 256) : a >>> 7 < 2 := by
  rw [Nat.shiftRight_eq_div_pow]
  omega

theorem gfX_xor {a b : Nat} (ha : a < 256) (hb : b < 256) : gfX (a ^^^ b) = gfX a ^^^ gfX b := by
  have hab : a ^^^ b < 256 := Nat.xor_lt_two_pow (n := 8) ha hb
  rw [gfX_eq_shift _ hab, gfX_eq_shift _ ha, gfX_eq_shift _ hb, Nat.shiftLeft_xor_distrib, Nat.shiftRight_xor_distrib,
    xor_mul_of_bits (shiftRight_seven_lt ha) (shiftRight_seven_lt hb)]
  ac_rfl

theorem gfMulN_lt {a : Nat} (ha : a < 256) (n b : Nat) : gfMulN n a b < 256 := by
  induction n generalizing a b with
  | zero => simp [gfMulN_zero]
  | succ n ih =>
    rw [gfMulN_succ]
    exact Nat.xor_lt_two_pow (n := 8) (bit_mul_lt (Nat.mod_lt b Nat.two_pos) ha) (ih (gfX_lt _ ha) _)

theorem gfMulN_xor_left {a b : Nat} (ha : a < 256) (hb : b < 256) (n c : Nat) :
    gfMulN n (a ^^^ b) c = gfMulN n a c ^^^ gfMulN n b c := by
  induction n generalizing a b c with
  | zero => simp [gfMulN_zero]
  | succ n ih =>
    have hbit : c % 2 * (a ^^^ b) = c % 2 * a ^^^ c % 2 * b := by
      rcases Nat.mod_two_eq_zero_or_one c with h | h <;> simp [h]
    rw [gfMulN_succ, gfMulN_succ, gfMulN_succ, gfX_xor ha hb, ih (gfX_lt _ ha) (gfX_lt _ hb), hbit]
    ac_rfl

theorem gfX_gfMulN {a : Nat} (ha : a < 256) (n b : Nat) : gfX (gfMulN n a b) = gfMulN n (gfX a) b := by
  induction n generalizing a b with
  | zero => rw [gfMulN_zero, gfMulN_zero]; rfl
  | succ n ih =>
    have hbit : b % 2 < 2 := Nat.mod_lt b Nat.two_pos
    have hterm : gfX (b % 2 * a) = b % 2 * gfX a := map_bit_mul (by decide) hbit a
    rw [gfMulN_succ, gfMulN_succ, gfX_xor (bit_mul_lt hbit ha) (gfMulN_lt (gfX_lt _ ha) _ _), ih (gfX_lt _ ha), hterm]

/-- The field polynomial, nine bits, is zero in the field. -/
theorem gfMulN_fieldPoly : ∀ a < 256, gfMulN 9 a 0x11D = 0 := by decide +kernel

theorem gfMul_gfX {a b : Nat} (ha : a < 256) (hb : b < 256) : gfMul a (gfX b) = gfX (gfMul a b) := by
  have hfold : gfMulN 9 a ((b >>> 7) * 0x11D) = 0 := by
    rw [map_bit_mul (gfMulN_zero_right 9 a) (shiftRight_seven_lt hb), gfMulN_fieldPoly _ ha, Nat.mul_zero]
  calc gfMul a (gfX b) = gfMulN 9 a (gfX b) := (gfMulN_succ_of_lt (gfX_lt _ hb) a).symm
    _ = gfMulN 9 a (b <<< 1) := by rw [gfX_eq_shift _ hb, gfMulN_xor_right, hfold, Nat.xor_zero]
    _ = gfMulN 8 (gfX a) b := gfMulN_double 8 a b
    _ = gfX (gfMul a b) := (gfX_gfMulN ha 8 b).symm

theorem gfMul_lt {a : Nat} (ha : a < 256) (b : Nat) : gfMul a b < 256 := gfMulN_lt ha 8 b

theorem gfMul_zero (a : Nat) : gfMul a 0 = 0 := gfMulN_zero_right 8 a

theorem gfMul_gfMulN {a b : Nat} (ha : a < 256) (hb : b < 256) (n c : Nat) : gfMul a (gfMulN n b c) = gfMulN n (gfMul a b) c := by
  induction n generalizing b c with
  | zero => rw [gfMulN_zero, gfMulN_zero, gfMul_zero]
  | succ n ih =>
    have hbit : gfMul a (c % 2 * b) = c % 2 * gfMul a b := map_bit_mul (gfMul_zero a) (Nat.mod_lt c Nat.two_pos) b
    rw [gfMulN_succ, gfMulN_succ, gfMul, gfMulN_xor_right, ← gfMul, ← gfMul, hbit, ih (gfX_lt _ hb), gfMul_gfX ha hb]

theorem gfMul_assoc {a b : Nat} (ha : a < 256) (hb : b < 256) (c : Nat) : gfMul (gfMul a b) c = gfMul a (gfMul b c) :=
  (gfMul_gfMulN ha hb 8 c).symm

theorem gfMul_one : ∀ a < 256, gfMul a 1 = a := by decide +kernel

theorem one_gfMul : ∀ a < 256, gfMul 1 a = a := by decide +kernel

theorem gfInv_lt {a : Nat} (ha : a < 256) : gfInv a < 256 := gfMul_lt (gfMul_lt ha a) _

theorem gfInv_gfMul_self : ∀ a < 256, a ≠ 0 → gfMul (gfInv a) a = 1 := by decide +kernel

/-! ### The powers of g -/

theorem gfPow_lt (k : Nat) : gfPow k < 256 := by
  induction k with
  | zero => decide
  | succ k ih => exact gfX_lt _ ih

theorem gfPow_ne_zero (k : Nat) : gfPow k ≠ 0 := by
  induction k with
  | zero => decide
  | succ k ih => exact gfX_ne_zero _ (gfPow_lt k) ih

/-- No power of g from the first to the 254th is 1. -/
theorem gfPow_ne_one {k : Nat} (h0 : k ≠ 0) (hk : k < 255) : gfPow k ≠ 1 := by
  have table : ∀ j < 255, j ≠ 0 → gfPow j ≠ 1 := by decide +kernel
  exact table k hk h0

theorem gfPow_add (j k : Nat) : gfPow (j + k) = gfMul (gfPow j) (gfPow k) := by
  induction k with
  | zero => exact (gfMul_one _ (gfPow_lt j)).symm
  | succ k ih =>
    calc gfPow (j + (k + 1)) = gfX (gfPow (j + k)) := rfl
      _ = gfMul (gfPow j) (gfX (gfPow k)) := by rw [ih, gfMul_gfX (gfPow_lt j) (gfPow_lt k)]

theorem gfInv_gfPow_gfMul {x y : Nat} (h : x ≤ y) : gfMul (gfInv (gfPow x)) (gfPow y) = gfPow (y - x) := by
  have hx := gfPow_lt x
  calc gfMul (gfInv (gfPow x)) (gfPow y)
      = gfMul (gfInv (gfPow x)) (gfMul (gfPow x) (gfPow (y - x))) := by rw [← gfPow_add, Nat.add_sub_cancel' h]
    _ = gfMul 1 (gfPow (y - x)) := by rw [← gfMul_assoc (gfInv_lt hx) hx, gfInv_gfMul_self _ hx (gfPow_ne_zero x)]
    _ = gfPow (y - x) := one_gfMul _ (gfPow_lt _)

/-! ### Members as vectors of bytes -/

theorem xorBytes_comm (l m : List Byte) : xorBytes l m = xorBytes m l := List.zipWith_comm_of_comm BitVec.xor_comm

theorem xorBytes_assoc (l m n : List Byte) : xorBytes (xorBytes l m) n = xorBytes l (xorBytes m n) := by
  induction l generalizing m n with
  | nil => rfl
  | cons x l ih =>
    cases m with
    | nil => rfl
    | cons y m =>
      cases n with
      | nil => rfl
      | cons z n => exact congrArg₂ List.cons (BitVec.xor_assoc x y z) (ih m n)

theorem xorBytes_left_comm (l m n : List Byte) : xorBytes l (xorBytes m n) = xorBytes m (xorBytes l n) := by
  rw [← xorBytes_assoc, xorBytes_comm l m, xorBytes_assoc]

@[simp] theorem length_xorBytes (l m : List Byte) : (xorBytes l m).length = min l.length m.length := List.length_zipWith

theorem zero_xorBytes (l : List Byte) : xorBytes (List.replicate l.length 0) l = l := by
  induction l with
  | nil => rfl
  | cons x l ih => exact congrArg₂ List.cons BitVec.zero_xor ih

theorem xorBytes_self (l : List Byte) : xorBytes l l = List.replicate l.length 0 := by
  induction l with
  | nil => rfl
  | cons x l ih => exact congrArg₂ List.cons BitVec.xor_self ih

/-- What is folded in twice is gone. -/
theorem xorBytes_cancel_left {l m : List Byte} (h : l.length = m.length) : xorBytes l (xorBytes l m) = m := by
  rw [← xorBytes_assoc, xorBytes_self, h, zero_xorBytes]

theorem xorBytes_cancel_right {l m : List Byte} (h : l.length = m.length) : xorBytes (xorBytes l m) m = l := by
  rw [xorBytes_comm, xorBytes_comm l, xorBytes_cancel_left h.symm]

@[simp] theorem length_gfScale (c : Nat) (l : List Byte) : (gfScale c l).length = l.length := List.length_map _

theorem gfScale_xorBytes (c : Nat) (l m : List Byte) : gfScale c (xorBytes l m) = xorBytes (gfScale c l) (gfScale c m) := by
  have hbyte (x y : Byte) :
      BitVec.ofNat 8 (gfMul c (x ^^^ y).toNat) = BitVec.ofNat 8 (gfMul c x.toNat) ^^^ BitVec.ofNat 8 (gfMul c y.toNat) := by
    rw [BitVec.toNat_xor, gfMul, gfMulN_xor_right, BitVec.ofNat_xor]; rfl
  simp only [gfScale, xorBytes, List.map_zipWith, List.zipWith_map, hbyte]

theorem xor_gfScale {a b : Nat} (ha : a < 256) (hb : b < 256) (l : List Byte) :
    gfScale (a ^^^ b) l = xorBytes (gfScale a l) (gfScale b l) := by
  have hbyte (x : Byte) :
      BitVec.ofNat 8 (gfMul (a ^^^ b) x.toNat) = BitVec.ofNat 8 (gfMul a x.toNat) ^^^ BitVec.ofNat 8 (gfMul b x.toNat) := by
    rw [gfMul, gfMulN_xor_left ha hb, BitVec.ofNat_xor]; rfl
  simp [gfScale, xorBytes, List.zipWith_map, List.zipWith_self, hbyte]

theorem gfScale_gfScale {a b : Nat} (ha : a < 256) (hb : b < 256) (l : List Byte) : gfScale a (gfScale b l) = gfScale (gfMul a b) l := by
  have hbyte (x : Byte) : (BitVec.ofNat 8 (gfMul b x.toNat)).toNat = gfMul b x.toNat := by
    rw [BitVec.toNat_ofNat, Nat.mod_eq_of_lt (gfMul_lt hb _)]
  simp [gfScale, hbyte, gfMul_assoc ha hb]

theorem gfScale_one (l : List Byte) : gfScale 1 l = l := by
  have hbyte (x : Byte) : BitVec.ofNat 8 (gfMul 1 x.toNat) = x := by
    rw [one_gfMul _ x.isLt, BitVec.ofNat_toNat, BitVec.setWidth_eq]
  simp [gfScale, hbyte]

theorem gfScale_zeros (c n : Nat) : gfScale c (List.replicate n 0) = List.replicate n 0 := by
  simp [gfScale, gfMul_zero]

theorem gfScale_gfInv_cancel {a : Nat} (ha : a < 256) (h0 : a ≠ 0) (l : List Byte) : gfScale (gfInv a) (gfScale a l) = l := by
  rw [gfScale_gfScale (gfInv_lt ha) ha, gfInv_gfMul_self _ ha h0, gfScale_one]

/-! ### P and Q with one member folded out -/

theorem foldl_xorBytes (l m : List Byte) (ds : List (List Byte)) :
    ds.foldl xorBytes (xorBytes l m) = xorBytes l (ds.foldl xorBytes m) := by
  induction ds generalizing m with
  | nil => rfl
  | cons d ds ih => rw [List.foldl_cons, xorBytes_assoc, ih, List.foldl_cons]

theorem parityP_cons (n : Nat) (d : List Byte) (ds : List (List Byte)) : parityP n (d :: ds) = xorBytes d (parityP n ds) := by
  rw [parityP, List.foldl_cons, xorBytes_comm, foldl_xorBytes, ← parityP]

theorem length_parityP {n : Nat} {ds : List (List Byte)} (hlen : ∀ d ∈ ds, d.length = n) : (parityP n ds).length = n := by
  induction ds with
  | nil => exact List.length_replicate
  | cons d ds ih =>
    obtain ⟨hd, hds⟩ := List.forall_mem_cons.mp hlen
    rw [parityP_cons, length_xorBytes, hd, ih hds, Nat.min_self]

theorem length_parityQFrom {n : Nat} {ds : List (List Byte)} (hlen : ∀ d ∈ ds, d.length = n) (j : Nat) : (parityQFrom n j ds).length = n := by
  induction ds generalizing j with
  | nil => exact List.length_replicate
  | cons d ds ih =>
    obtain ⟨hd, hds⟩ := List.forall_mem_cons.mp hlen
    rw [parityQFrom, length_xorBytes, length_gfScale, hd, ih hds, Nat.min_self]

theorem parityP_fold_out {n x : Nat} {ds : List (List Byte)} (hlen : ∀ d ∈ ds, d.length = n) (hx : x < ds.length) :
    parityP n ds = xorBytes ds[x] (parityP n (ds.set x (List.replicate n 0))) := by
  induction ds generalizing x with
  | nil => exact absurd hx (Nat.not_lt_zero x)
  | cons d ds ih =>
    obtain ⟨-, hds⟩ := List.forall_mem_cons.mp hlen
    cases x with
    | zero =>
      have hzero := zero_xorBytes (parityP n ds)
      rw [length_parityP hds] at hzero
      rw [List.getElem_cons_zero, List.set_cons_zero, parityP_cons, parityP_cons, hzero]
    | succ x =>
      rw [List.getElem_cons_succ, List.set_cons_succ, parityP_cons, parityP_cons, ih hds (Nat.lt_of_succ_lt_succ hx), xorBytes_left_comm]

theorem parityQFrom_fold_out {n x : Nat} {ds : List (List Byte)} (hlen : ∀ d ∈ ds, d.length = n) (hx : x < ds.length) (j : Nat) :
    parityQFrom n j ds = xorBytes (gfScale (gfPow (j + x)) ds[x]) (parityQFrom n j (ds.set x (List.replicate n 0))) := by
  induction ds generalizing x j with
  | nil => exact absurd hx (Nat.not_lt_zero x)
  | cons d ds ih =>
    obtain ⟨-, hds⟩ := List.forall_mem_cons.mp hlen
    cases x with
    | zero =>
      have hzero := zero_xorBytes (parityQFrom n (j + 1) ds)
      rw [length_parityQFrom hds] at hzero
      rw [List.getElem_cons_zero, List.set_cons_zero, parityQFrom, parityQFrom, gfScale_zeros, hzero]
      rfl
    | succ x =>
      rw [List.getElem_cons_succ, List.set_cons_succ, parityQFrom, parityQFrom, ih hds (Nat.lt_of_succ_lt_succ hx), xorBytes_left_comm,
        Nat.succ_add_eq_add_succ]

theorem length_of_mem_blank {len : Nat} {ds : List (List Byte)} (hlen : ∀ d ∈ ds, d.length = len) (x : Nat) :
    ∀ d ∈ ds.set x (List.replicate len 0), d.length = len := by
  intro d hd
  rcases List.mem_or_eq_of_mem_set hd with h | h
  · exact hlen d h
  · rw [h, List.length_replicate]

/-- P_x: P with all data members but `x` folded out. -/
theorem parityP_residue {len x : Nat} {ds : List (List Byte)} (hlen : ∀ d ∈ ds, d.length = len) (hx : x < ds.length) :
    xorBytes (parityP len ds) (parityP len (ds.set x (List.replicate len 0))) = ds[x] := by
  rw [parityP_fold_out hlen hx, xorBytes_cancel_right]
  rw [hlen _ (List.getElem_mem hx), length_parityP (length_of_mem_blank hlen x)]

/-- Q_x: Q with all data members but `x` folded out. -/
theorem parityQ_residue {len x : Nat} {ds : List (List Byte)} (hlen : ∀ d ∈ ds, d.length = len) (hx : x < ds.length) :
    xorBytes (parityQ len ds) (parityQ len (ds.set x (List.replicate len 0))) = gfScale (gfPow x) ds[x] := by
  rw [parityQ, parityQFrom_fold_out hlen hx, Nat.zero_add, ← parityQ, xorBytes_cancel_right]
  rw [length_gfScale, hlen _ (List.getElem_mem hx), parityQ, length_parityQFrom (length_of_mem_blank hlen x)]

/-- P_xy: P with all data members but `x` and `y` folded out. -/
theorem parityP_residue_two {len x y : Nat} {ds : List (List Byte)} (hlen : ∀ d ∈ ds, d.length = len) (hx : x < ds.length)
    (hy : y < ds.length) (hxy : x ≠ y) :
    xorBytes (parityP len ds) (parityP len ((ds.set x (List.replicate len 0)).set y (List.replicate len 0))) = xorBytes ds[x] ds[y] := by
  have hblank := length_of_mem_blank hlen x
  have hy' : y < (ds.set x (List.replicate len 0)).length := by rwa [List.length_set]
  have hmember : (ds.set x (List.replicate len 0))[y] = ds[y] := List.getElem_set_ne hxy _
  rw [parityP_fold_out hlen hx, xorBytes_assoc, parityP_residue hblank hy', hmember]

/-- Q_xy: Q with all data members but `x` and `y` folded out. -/
theorem parityQ_residue_two {len x y : Nat} {ds : List (List Byte)} (hlen : ∀ d ∈ ds, d.length = len) (hx : x < ds.length)
    (hy : y < ds.length) (hxy : x ≠ y) :
    xorBytes (parityQ len ds) (parityQ len ((ds.set x (List.replicate len 0)).set y (List.replicate len 0))) =
      xorBytes (gfScale (gfPow x) ds[x]) (gfScale (gfPow y) ds[y]) := by
  have hblank := length_of_mem_blank hlen x
  have hy' : y < (ds.set x (List.replicate len 0)).length := by rwa [List.length_set]
  have hmember : (ds.set x (List.replicate len 0))[y] = ds[y] := List.getElem_set_ne hxy _
  rw [parityQ, parityQFrom_fold_out hlen hx, Nat.zero_add, ← parityQ, xorBytes_assoc, parityQ_residue hblank hy', hmember]

/-- The solution of R474 for two lost members `x` and `y`: of g^(y-x) P_xy ⊕ g^(-x) Q_xy the terms of D_y cancel, and D_x is left
times g^(y-x) ⊕ 1, which is not 0 (`gfPow_ne_one`). -/
theorem solve_two {x y : Nat} (hxy : x < y) (hy : y < 255) {dx dy : List Byte} (hlen : dx.length = dy.length) :
    gfScale (gfInv (Nat.xor (gfPow (y - x)) 1)) (xorBytes (gfScale (gfPow (y - x)) (xorBytes dx dy))
      (gfScale (gfInv (gfPow x)) (xorBytes (gfScale (gfPow x) dx) (gfScale (gfPow y) dy)))) = dx := by
  have hgx := gfPow_lt x
  have ha := gfPow_lt (y - x)
  have hne : gfPow (y - x) ^^^ 1 ≠ 0 := by
    rw [Nat.xor_ne_zero_iff]
    exact gfPow_ne_one (by omega) (by omega)
  have hy' : gfScale (gfInv (gfPow x)) (gfScale (gfPow y) dy) = gfScale (gfPow (y - x)) dy := by
    rw [gfScale_gfScale (gfInv_lt hgx) (gfPow_lt y), gfInv_gfPow_gfMul hxy.le]
  have hsum : xorBytes (gfScale (gfPow (y - x)) (xorBytes dx dy))
      (gfScale (gfInv (gfPow x)) (xorBytes (gfScale (gfPow x) dx) (gfScale (gfPow y) dy))) = gfScale (gfPow (y - x) ^^^ 1) dx := by
    rw [gfScale_xorBytes, gfScale_xorBytes, gfScale_gfInv_cancel hgx (gfPow_ne_zero x), hy', xor_gfScale ha (by decide), gfScale_one,
      xorBytes_assoc, xorBytes_left_comm _ dx, xorBytes_self, xorBytes_comm dx, length_gfScale, ← hlen, zero_xorBytes]
  rw [hsum]
  exact gfScale_gfInv_cancel (Nat.xor_lt_two_pow (n := 8) ha (by decide)) hne dx

/-! ### What is lost and what is known -/

theorem filter_range_eq {n : Nat} {p : Nat → Bool} {l : List Nat} (hl : l.Pairwise (· < ·)) (hmem : ∀ j, j ∈ l ↔ j < n ∧ p j = true) :
    (List.range n).filter p = l :=
  (List.pairwise_lt_range.filter p).eq_of_mem_iff hl (by simp [hmem])

section
variable {len x y : Nat} {ds : List (List Byte)}

theorem range_filter_lost_one (hx : x < ds.length) :
    (List.range ds.length).filter (fun j => (if j = x then none else ds[j]?).isNone) = [x] :=
  filter_range_eq (List.pairwise_singleton _ _) (by grind)

theorem range_map_known_one : (List.range ds.length).map (fun j => (if j = x then none else ds[j]?).getD (List.replicate len 0)) =
    ds.set x (List.replicate len 0) := by
  apply List.ext_getElem (by simp)
  grind

theorem range_filter_lost_two (hxy : x < y) (hy : y < ds.length) :
    (List.range ds.length).filter (fun j => (if j = x ∨ j = y then none else ds[j]?).isNone) = [x, y] :=
  filter_range_eq (by simpa using hxy) (by grind)

theorem range_map_known_two : (List.range ds.length).map (fun j => (if j = x ∨ j = y then none else ds[j]?).getD (List.replicate len 0)) =
    (ds.set x (List.replicate len 0)).set y (List.replicate len 0) := by
  apply List.ext_getElem (by simp)
  grind

/-! ### The members restored -/

theorem restoreData_one_P (hlen : ∀ d ∈ ds, d.length = len) (hx : x < ds.length) (q : Option (List Byte)) :
    restoreData len ds.length (fun j => if j = x then none else ds[j]?) (some (parityP len ds)) q = some ds := by
  simp only [restoreData, range_filter_lost_one hx, range_map_known_one, parityP_residue hlen hx, List.set_set, List.set_getElem_self]

theorem restoreData_one_Q (hlen : ∀ d ∈ ds, d.length = len) (hx : x < ds.length) :
    restoreData len ds.length (fun j => if j = x then none else ds[j]?) none (some (parityQ len ds)) = some ds := by
  simp only [restoreData, range_filter_lost_one hx, range_map_known_one, parityQ_residue hlen hx, gfScale_gfInv_cancel (gfPow_lt x) (gfPow_ne_zero x),
    List.set_set, List.set_getElem_self]

theorem restoreData_two (hlen : ∀ d ∈ ds, d.length = len) (hxy : x < y) (hy : y < ds.length) (hy' : y < 255) :
    restoreData len ds.length (fun j => if j = x ∨ j = y then none else ds[j]?) (some (parityP len ds)) (some (parityQ len ds)) =
      some ds := by
  have hx : x < ds.length := hxy.trans hy
  have hxy_len : ds[x].length = ds[y].length := (hlen _ (List.getElem_mem hx)).trans (hlen _ (List.getElem_mem hy)).symm
  have hdy : xorBytes (xorBytes ds[x] ds[y]) ds[x] = ds[y] := by
    rw [xorBytes_comm ds[x], xorBytes_cancel_right hxy_len.symm]
  have hset : (((ds.set x (List.replicate len 0)).set y (List.replicate len 0)).set x ds[x]).set y ds[y] = ds := by
    rw [List.set_comm _ _ hxy.ne', List.set_set, List.set_set, List.set_getElem_self, List.set_getElem_self]
  simp only [restoreData, range_filter_lost_two hxy hy, range_map_known_two, parityP_residue_two hlen hx hy hxy.ne, parityQ_residue_two hlen hx hy hxy.ne,
    solve_two hxy hy' hxy_len, hdy, hset]

end

/-- Settles O40: with the surviving members folded out of P and Q, what is left are one or two equations of R474 over GF(2^8) in the lost
members, which the model solves by division (`solve_two`). Two names of one member are a single loss, which P restores. -/
theorem aStripeRestoresItsLostMembers : Obligations.a_stripe_restores_its_lost_members := by
  intro len ds x y hlen hwidth hx hy
  refine ⟨restoreData_one_P hlen hx _, restoreData_one_Q hlen hx, ?_⟩
  rcases Nat.lt_trichotomy x y with hxy | rfl | hyx
  · exact restoreData_two hlen hxy hy (by omega)
  · simpa only [or_self] using restoreData_one_P hlen hx (some (parityQ len ds))
  · simpa only [or_comm] using restoreData_two hlen hyx hx (by omega)

end Sys2Proof.Machine
end


section
-- In order: what stands above is checked before what follows, so that no more proofs wait at a time than memory allows.
set_option Elab.async false

section
/-! SUPPORT. No run stops (O6): `everyCommandAnswers` (O3), step after step. -/
namespace Sys2Proof.Machine

theorem State.passTick_pending (s : State) : s.passTick.pending = s.pending := by
  cases h : s.power.porst
  · rw [State.passTick_of_low h]
  · rw [State.passTick_of_high h]

/-- Every step answers, and takes no more than the front of the queue. -/
theorem step_answers (s : State) : ∃ t, step s = .next t ∧ t.pending = s.pending.tail := by
  match hp : s.pending with
  | c :: rest =>
    have hstep : step s = exec c { s with pending := rest } := by simp only [step, hp]
    obtain ⟨t, hexec, hqueue⟩ := everyCommandAnswers c { s with pending := rest }
    exact ⟨t, hstep.trans hexec, hqueue⟩
  | [] =>
    match hr : s.recorded with
    | [] => exact ⟨_, step_of_idle hp hr, (State.passTick_pending s).trans hp⟩
    | e :: rest =>
      obtain ⟨t, hexec, hqueue⟩ := everyCommandAnswers e.cmd ({ s with recorded := rest }.noteEvent e.cmd)
      exact ⟨t, (step_of_recorded hp hr).trans hexec, hqueue.trans ((State.noteEvent_queue _ e.cmd).trans hp)⟩

theorem safeFor (n : Nat) (s : State) : SafeFor n s := by
  induction n generalizing s with
  | zero => trivial
  | succ n ih =>
    obtain ⟨t, hstep, -⟩ := step_answers s
    exact ⟨t, hstep, ih t⟩

/-- A run's first step. -/
theorem run_of_step {M : Host.Core} {s t : M.State} (h : M.step s = .next t) (n : Nat) : M.run (n + 1) s = M.run n t := by
  simp only [Host.Core.run, h]

/-- As many steps as commands wait empty the queue. -/
theorem run_empties (n : Nat) (s : State) (hn : s.pending.length = n) : ∃ t, core.run n s = .next t ∧ t.pending = [] := by
  induction n generalizing s with
  | zero => exact ⟨s, rfl, List.eq_nil_of_length_eq_zero hn⟩
  | succ n ih =>
    obtain ⟨t, hstep, hqueue⟩ := step_answers s
    obtain ⟨u, hrun, hempty⟩ := ih t (by rw [hqueue, List.length_tail, hn, Nat.add_sub_cancel])
    exact ⟨u, (run_of_step (M := core) hstep n).trans hrun, hempty⟩

/-- Settles O6, by induction on the number of steps. -/
theorem everyRunIsSafe : Obligations.every_run_is_safe :=
  ⟨safeFor, fun s => run_empties _ s rfl⟩

end Sys2Proof.Machine
end


section
/-! SUPPORT. A conversion of an excluded sensor, and the count of R613 (O54). -/
namespace Sys2Proof.Machine

/-- A running device in the Normal thermal state whose sensor 3 is excluded, with a tick noted for the fall of TJ. -/
def excludedSensor : State :=
  { powered [(TH_EXCL.SENS, 8)] with thermal := { State.reset.thermal with below := some 0 } }

theorem excludedSensor_live : excludedSensor.live = true := by decide +kernel

theorem excludedSensor_conversion_restarts : (excludedSensor.conversion 3 100).thermal.below = none := by decide +kernel

theorem excludedSensor_conversion_settles : (excludedSensor.conversion 3 100).power.standbyPending = false := by decide +kernel

/-- Refutes O54: its clause on an excluded sensor has the thermal unit unchanged, and every conversion, an excluded sensor's too, lets the count
of R613 follow TJ: with no level to fall below, a count that stands is cleared. -/
theorem not_thermalProtection : ¬ Obligations.thermal_protection := by
  rintro ⟨-, -, -, -, -, hexcluded, -⟩
  obtain ⟨u, hexec, -, -, -, -, hframe⟩ :=
    hexcluded excludedSensor 3 100 excludedSensor_live (by decide) (by decide +kernel) (by decide +kernel) (by decide) (by decide)
  have hconv : exec (.sensorConversion 3 100) excludedSensor = .next (excludedSensor.conversion 3 100).standbyStep :=
    next_whileLive_of_live excludedSensor_live _
  have hpower : u.power.standbyPending = false := congrArg Power.standbyPending (hframe.2 .power (by decide))
  have hu : excludedSensor.conversion 3 100 = u := by
    have hafter := Host.Outcome.next.inj (hconv.symm.trans hexec)
    rwa [State.standbyStep_of_not_pending excludedSensor_conversion_settles, State.standbyStep_of_not_pending hpower] at hafter
  have hthermal : u.thermal = excludedSensor.thermal := hframe.2 .thermal (by decide)
  have hbelow : excludedSensor.thermal.below = none := by rw [← hthermal, ← hu]; exact excludedSensor_conversion_restarts
  exact absurd hbelow (by decide)

end Sys2Proof.Machine
end


section
/-! SUPPORT. A media command that comes long after a thermal shutdown (O60, R615). -/
namespace Sys2Proof.Machine

/-- Read of block 0, granted its locks. -/
def readOfBlock0 : Cmd := cmdN 1 (sqe 2 1 0 0)

/-- A mapped device with that Read in flight and alone, its thermal state Shutdown for 8 s. -/
def shutDownWithRead : State := { alive (nvm [(TH_STAT.STATE, 3)] [readOfBlock0]) with tick := secTicks 8 }

theorem shutDownWithRead_live : shutDownWithRead.live = true := by decide +kernel

theorem shutDownWithRead_start : shutDownWithRead.ioStart 0 1 9 0x02 (fun t m => t.ioRead m []) = shutDownWithRead.complete readOfBlock0 .notReady 0 := by
  decide +kernel

theorem shutDownWithRead_entry : (shutDownWithRead.complete readOfBlock0 .notReady 0).nvme.posted.map Cqe.st = [NvStatus.notReady] := by decide +kernel

/-- Refutes O60: its clause on a Read whose blocks are to hand does not ask that the thermal state is other than Shutdown; 8 s after a shutdown the
Read ends with Namespace Not Ready (R615), even where power and VM would let it start. -/
theorem not_ioCommands : ¬ Obligations.io_commands := by
  rintro ⟨hread, -⟩
  obtain ⟨u, hexec, -, hposted, -, hframe⟩ :=
    hread shutDownWithRead 0 1 9 readOfBlock0 (sq0 1) (cq0 1) shutDownWithRead_live (by decide +kernel) (by decide +kernel) (by decide +kernel)
      (by decide +kernel) (by decide +kernel)
  have hstart : exec (.read 0 1 9 []) shutDownWithRead = .next (shutDownWithRead.complete readOfBlock0 .notReady 0).standbyStep := by
    rw [← shutDownWithRead_start]
    exact next_whileLive_of_live shutDownWithRead_live _
  have hpower : u.power.standbyPending = false := congrArg Power.standbyPending (hframe.2 .power (by decide))
  have hu : shutDownWithRead.complete readOfBlock0 .notReady 0 = u := by
    have hafter := Host.Outcome.next.inj (hstart.symm.trans hexec)
    rwa [State.standbyStep_of_not_pending (by decide +kernel), State.standbyStep_of_not_pending hpower] at hafter
  have hstatus : u.nvme.posted.map Cqe.st = [NvStatus.notReady] := by rw [← hu]; exact shutDownWithRead_entry
  have hok : u.nvme.posted.map Cqe.st = [NvStatus.ok] := by rw [hposted]; decide +kernel
  exact absurd (hstatus.symm.trans hok) (by decide)

end Sys2Proof.Machine
end


section
/-! SUPPORT. What the reports of a unit touch: Sillage records with their rate limits (R621 to R626), and gauge samples (R632, R636). -/
namespace Sys2Proof.Machine

/-! ### Frames -/

theorem OnlyParts.modSil {ps : List Part} (hps : Part.sil ∈ ps) (s : State) (f : SilSt → SilSt) : OnlyParts ps s (s.modSil f) := by
  refine ⟨rfl, fun p hp => ?_⟩
  cases p with
  | sil => exact absurd hps hp
  | _ => rfl

theorem OnlyParts.modRings {ps : List Part} (hps : Part.rings ∈ ps) (s : State) (f : RingsSt → RingsSt) : OnlyParts ps s (s.modRings f) := by
  refine ⟨rfl, fun p hp => ?_⟩
  cases p with
  | rings => exact absurd hps hp
  | _ => rfl

theorem OnlyParts.modRing {ps : List Part} (hps : Part.rings ∈ ps) (s : State) (r : Nat) (f : RingSt → RingSt) : OnlyParts ps s (s.modRing r f) :=
  OnlyParts.modRings hps s (fun x => { x with rings := SMap.modify (fun _ => RingSt.reset) x.rings r f })

theorem OnlyParts.drawFree {ps : List Part} (hps : Part.freeIdx ∈ ps) (s : State) : OnlyParts ps s s.drawFree := by
  refine ⟨rfl, fun p hp => ?_⟩
  cases p with
  | freeIdx => exact absurd hps hp
  | _ => rfl

theorem OnlyParts.hostWrite {ps : List Part} (hps : Part.rings ∈ ps) (s : State) (k : ReqKind) (p addr : Nat) (data : List Byte) :
    OnlyParts ps s (s.hostWrite k p addr data) :=
  OnlyParts.modRings hps s _

theorem OnlyParts.when {ps : List Part} {s t : State} {f : State → State} (b : Bool) (h : OnlyParts ps s t) (hf : OnlyParts ps t (f t)) :
    OnlyParts ps s (t.when b f) := by
  cases b
  · exact h
  · exact h.trans hf

theorem OnlyParts.each {ps : List Part} {α : Type} (s : State) (l : List α) {f : State → α → State} (hf : ∀ t x, OnlyParts ps t (f t x)) :
    OnlyParts ps s (s.each l f) :=
  State.each_keeps (OnlyParts ps s) f l s (OnlyParts.refl ps s) (fun t ht x _ => ht.trans (hf t x))

/-! ### Sillage records -/

/-- The counters of records lost and suppressed (R623, R624). -/
def recordRegs : List Nat := [SL_LOST.QUEUE.addr, SL_SUPP.COUNT.addr]

/-- What an event's record may touch. -/
structure RecordFrame (s t : State) : Prop where
  parts : OnlyParts [.regs, .tickMem, .sil] s t
  regs : OnlyRegs recordRegs s t

theorem RecordFrame.trans {s t u : State} (h : RecordFrame s t) (h' : RecordFrame t u) : RecordFrame s u :=
  ⟨h.parts.trans h'.parts, h.regs.trans h'.regs⟩

theorem RecordFrame.modSil (s : State) (f : SilSt → SilSt) : RecordFrame s (s.modSil f) :=
  ⟨.modSil (by decide) s f, .of_regs rfl⟩

theorem RecordFrame.bump (s : State) {f : Fld} (hf : f.addr ∈ recordRegs) : RecordFrame s (s.bump f) :=
  ⟨.bump (by decide) (by decide) s f, .bump s f hf⟩

theorem State.enqueueRecord_frame (s : State) (code : Nat) (fields : List Byte) : RecordFrame s (s.enqueueRecord code fields) := by
  unfold State.enqueueRecord
  split
  · exact .modSil s _
  · exact .bump s (by decide)

theorem State.summary_frame (s : State) (code : Nat) : RecordFrame s (s.summary code) := by
  unfold State.summary
  dsimp only
  split
  · exact ⟨.refl _ s, .refl _ s⟩
  · exact (s.enqueueRecord_frame _ _).trans (.modSil _ _)

theorem State.record_frame (s : State) (code : Nat) (fields : List Byte) : RecordFrame s (s.record code fields) := by
  unfold State.record
  split
  · exact s.enqueueRecord_frame _ _
  dsimp only
  split
  · exact (RecordFrame.modSil s _).trans ((State.summary_frame _ _).trans (State.enqueueRecord_frame _ _ _))
  · exact (RecordFrame.modSil s _).trans (.bump _ (by decide))

theorem State.record_parts (s : State) (code : Nat) (fields : List Byte) : OnlyParts [.regs, .tickMem, .sil] s (s.record code fields) :=
  (s.record_frame code fields).parts

/-- A record leaves every field but those of its two counters. -/
theorem State.fld_record (s : State) (code : Nat) (fields : List Byte) {g : Fld} (hg : g.addr ∉ recordRegs) : (s.record code fields).fld g = s.fld g :=
  State.fld_of_onlyRegs (s.record_frame code fields).regs hg

/-! ### Gauges -/

theorem State.gaugeTake_parts (s : State) (g : Nat) (v : Int) : OnlyParts [.regs, .tickMem] s (s.gaugeTake g v) := by
  have hset (t : State) (f : Fld) (x : Nat) : OnlyParts [.regs, .tickMem] t (t.setFld f x) := .setFld (by decide) t f x
  have hbump (t : State) (f : Fld) : OnlyParts [.regs, .tickMem] t (t.bump f) := .bump (by decide) (by decide) t f
  exact (OnlyParts.when _ (OnlyParts.when _ (hbump s _) (hset _ _ _)) (hset _ _ _)).trans (hbump _ _)

theorem State.gaugeAlarm_parts (s : State) (g : Nat) (v : Int) : OnlyParts [.regs, .tickMem, .sil] s (s.gaugeAlarm g v) := by
  unfold State.gaugeAlarm
  split
  · exact (OnlyParts.modSil (by decide) s _).trans ((OnlyParts.setBit (by decide) (by decide) _ _).trans (State.record_parts _ _ _))
  · exact .refl _ s

theorem State.sample_parts (s : State) (src : Nat) (hit : Nat → Bool) (v : Int) : OnlyParts [.regs, .tickMem, .sil] s (s.sample src hit v) := by
  refine OnlyParts.each s _ (fun t g => ?_)
  split
  · exact ((t.gaugeTake_parts g v).mono (by simp)).trans (State.gaugeAlarm_parts _ _ _)
  · exact .refl _ t

end Sys2Proof.Machine
end


section
/-! SUPPORT. Completions of the service rings, and signed descriptors refused (O47, R575 to R581, R584, R657). -/
namespace Sys2Proof.Machine

/-! ### A ring, written -/

@[simp] theorem State.ring_modRing_same (s : State) (r : Nat) (f : RingSt → RingSt) : (s.modRing r f).ring r = f (s.ring r) :=
  SMap.get_modify_same _ _ _ _

/-- A write to host memory leaves every ring, and the registers. -/
@[simp] theorem State.ring_hostWrite (s : State) (k : ReqKind) (p addr : Nat) (data : List Byte) (r : Nat) :
    (s.hostWrite k p addr data).ring r = s.ring r := by
  unfold State.hostWrite State.modRings State.ring
  dsimp only
  split <;> rfl

/-- A write of port 0 goes to its host's memory, one of another port does not. -/
theorem State.hostMem_hostWrite (s : State) (k : ReqKind) (p addr : Nat) (data : List Byte) :
    (s.hostWrite k p addr data).rings.hostMem = if p = 0 then hostPut s.rings.hostMem addr data else s.rings.hostMem := by
  unfold State.hostWrite State.modRings
  dsimp only
  split <;> rfl

/-! ### A completion written (R577) -/

/-- CQTAIL behind the next entry. -/
def RingSt.nextTail (g : RingSt) : Nat := (g.cqTail + 1) % 2 ^ g.cqlog

/-- The state once the entry and CQTAIL stand in host memory, before the interrupt. -/
def State.ringEntered (s : State) (r : Nat) (c : RingCpl) : State :=
  ((s.hostWrite .ring (s.ring r).port ((s.ring r).cqbase + 16 * (s.ring r).cqTail) (ringEntry r (s.ring r).sqHead (s.ring r).phase c)).modRing r
    (fun h => { h with cqTail := (s.ring r).nextTail, phase := if (s.ring r).nextTail = 0 then !h.phase else h.phase })).hostWrite .ring
      (s.ring r).port ((s.ring r).slotAddr r + 4) (leBytes 2 (s.ring r).nextTail)

theorem State.ringWrite_eq (s : State) (r : Nat) (c : RingCpl) :
    s.ringWrite r c = if s.bit (SR_CFG.IRQEN r) then (s.ringEntered r c).msix (s.ring r).port (1025 + r) else s.ringEntered r c := rfl

theorem State.ringWrite_ring (s : State) (r : Nat) (c : RingCpl) :
    (s.ringWrite r c).ring r =
      { s.ring r with cqTail := (s.ring r).nextTail, phase := if (s.ring r).nextTail = 0 then !(s.ring r).phase else (s.ring r).phase } := by
  have hring : (s.ringWrite r c).ring r = (s.ringEntered r c).ring r := by rw [State.ringWrite_eq]; split <;> rfl
  rw [hring, State.ringEntered, State.ring_hostWrite, State.ring_modRing_same, State.ring_hostWrite]

@[simp] theorem State.modRing_hostMem (s : State) (r : Nat) (f : RingSt → RingSt) : (s.modRing r f).rings.hostMem = s.rings.hostMem := rfl

theorem State.ringWrite_hostMem (s : State) (r : Nat) (c : RingCpl) :
    (s.ringWrite r c).rings.hostMem = if (s.ring r).port = 0 then
      hostPut (hostPut s.rings.hostMem ((s.ring r).cqbase + 16 * (s.ring r).cqTail) (ringEntry r (s.ring r).sqHead (s.ring r).phase c))
        ((s.ring r).slotAddr r + 4) (leBytes 2 (s.ring r).nextTail) else s.rings.hostMem := by
  have hmem : (s.ringWrite r c).rings = (s.ringEntered r c).rings := by rw [State.ringWrite_eq]; split <;> rfl
  rw [hmem, State.ringEntered, State.hostMem_hostWrite, State.modRing_hostMem, State.hostMem_hostWrite]
  split <;> rfl

theorem State.ringWrite_msix (s : State) (r : Nat) (c : RingCpl) :
    (s.ringWrite r c).nvme.msix = if s.bit (SR_CFG.IRQEN r) then s.nvme.msix ++ [((s.ring r).port, 1025 + r)] else s.nvme.msix := by
  rw [State.ringWrite_eq]
  split <;> rfl

theorem State.ringEntered_parts (s : State) (r : Nat) (c : RingCpl) : OnlyParts [.rings] s (s.ringEntered r c) :=
  (OnlyParts.hostWrite (by decide) s _ _ _ _).trans ((OnlyParts.modRing (by decide) _ r _).trans (OnlyParts.hostWrite (by decide) _ _ _ _ _))

theorem State.ringWrite_parts (s : State) (r : Nat) (c : RingCpl) : OnlyParts [.nvme, .rings] s (s.ringWrite r c) := by
  have hentered := (s.ringEntered_parts r c).mono (qs := [.nvme, .rings]) (by decide)
  rw [State.ringWrite_eq]
  split
  · exact hentered.trans (.modNvme (by decide) _ _)
  · exact hentered

/-! ### What becomes of a completion (R581, R584) -/

theorem State.ringPost_of_room {s : State} {r : Nat} (hst : s.fld (SR_STAT.STATE r) ≠ rgDisabled) (hroom : (s.ring r).cqFull = false)
    (hheld : (s.ring r).held = []) (c : RingCpl) : s.ringPost r c = s.ringWrite r c := by
  simp [State.ringPost, hst, hroom, hheld]

theorem State.ringPost_of_full {s : State} {r : Nat} (hst : s.fld (SR_STAT.STATE r) ≠ rgDisabled)
    (hfull : (s.ring r).cqFull = true ∨ (s.ring r).held ≠ []) (c : RingCpl) : s.ringPost r c = s.modRing r (fun g => { g with held := g.held ++ [c] }) := by
  simp [State.ringPost, hst, hfull]

theorem State.ringPost_of_disabled {s : State} {r : Nat} (hst : s.fld (SR_STAT.STATE r) = rgDisabled) (c : RingCpl) :
    s.ringPost r c = s.bump SR_ERR.ORPHAN := by
  simp [State.ringPost, hst]

theorem State.ringPost_parts (s : State) (r : Nat) (c : RingCpl) : OnlyParts [.regs, .tickMem, .nvme, .rings] s (s.ringPost r c) := by
  unfold State.ringPost
  split
  · exact .bump (by decide) (by decide) s _
  split
  · exact .modRing (by decide) s r _
  · exact (s.ringWrite_parts r c).mono (by decide)

/-- A completion takes no descriptor out of flight. -/
theorem State.ringPost_descs (s : State) (r : Nat) (c : RingCpl) : ((s.ringPost r c).ring r).descs = (s.ring r).descs := by
  unfold State.ringPost
  split
  · rfl
  split
  · rw [State.ring_modRing_same]
  · rw [State.ringWrite_ring]

/-! ### The end of a descriptor -/

theorem State.ringSettle_parts (s : State) (r : Nat) : OnlyParts [.regs] s (s.ringSettle r) := by
  have hset (t : State) (f : Fld) (v : Nat) : OnlyParts [.regs] t (t.setFld f v) := .setFld (by decide) t f v
  have hsync : OnlyParts [.regs] s (s.ringSync r) := (hset s _ _).trans ((hset _ _ _).trans (hset _ _ _))
  unfold State.ringSettle
  dsimp only
  split
  · exact hsync.trans (hset _ _ _)
  · exact hsync

theorem State.ringComplete_of_desc {s : State} {r tag : Nat} {d : RingDesc} (hd : s.desc? r tag = some d) (status result : Nat) :
    ((s.ringComplete r tag status result).ring r).descs = (s.ring r).descs.erase d ∧
    OnlyParts [.regs, .tickMem, .sil, .nvme, .rings] s (s.ringComplete r tag status result) := by
  have hpost (t : State) (c : RingCpl) : OnlyParts [.regs, .tickMem, .sil, .nvme, .rings] t (t.ringPost r c) := (t.ringPost_parts r c).mono (by decide)
  have hsample (t : State) (v : Int) : OnlyParts [.regs, .tickMem, .sil] t (t.sample 0x02 (fun i => i == r) v) := t.sample_parts _ _ v
  have hend (t : State) (v : Int) : ((t.sample 0x02 (fun i => i == r) v).ringSettle r).rings = t.rings :=
    ((State.ringSettle_parts _ r).2 .rings (by decide)).trans ((hsample t v).2 .rings (by decide))
  have hdescs (t : State) (v : Int) : (((t.sample 0x02 (fun i => i == r) v).ringSettle r).ring r).descs = (t.ring r).descs := by
    rw [State.ring, hend, State.ring]
  have hframe (t : State) (v : Int) :
      OnlyParts [.regs, .tickMem, .sil, .nvme, .rings] t ((t.sample 0x02 (fun i => i == r) v).ringSettle r) :=
    ((hsample t v).mono (by decide)).trans ((State.ringSettle_parts _ r).mono (by decide))
  have herased : OnlyParts [.regs, .tickMem, .sil, .nvme, .rings] s (s.modRing r (fun g => { g with descs := g.descs.erase d })) :=
    .modRing (by decide) s r _
  simp only [State.ringComplete, hd]
  refine ⟨?_, (herased.trans ?_).trans (hframe _ _)⟩
  · rw [hdescs]
    split
    · exact congrArg RingSt.descs (State.ring_modRing_same s r _)
    · rw [State.ringPost_descs, State.ring_modRing_same]
  · split
    · exact .bump (by decide) (by decide) _ _
    · exact hpost _ _

theorem State.ringEnd_of_desc {s : State} {r tag : Nat} {d : RingDesc} (hd : s.desc? r tag = some d) (st : Nat) (b : Option Nat) :
    (s.ringEnd r tag st b).freeIdx = s.freeIdx + 1 ∧ ((s.ringEnd r tag st b).ring r).descs = (s.ring r).descs.erase d ∧
    OnlyParts [.regs, .tickMem, .sil, .nvme, .rings, .freeIdx] s (s.ringEnd r tag st b) := by
  obtain ⟨hdescs, hparts⟩ := State.ringComplete_of_desc (s := s.drawFree) (r := r) (tag := tag) hd st
    (match b with
      | some x => (Config.freeValue s.freeIdx).toNat / 256 * 256 + x % 256
      | none => (Config.freeValue s.freeIdx).toNat)
  exact ⟨hparts.2 .freeIdx (by decide), hdescs, (OnlyParts.drawFree (by decide) s).trans (hparts.mono (by decide))⟩

/-! ### A descriptor that is refused (R580, R657) -/

/-- A signed descriptor that fails a check ends with that check's status, and its work never begins. -/
theorem State.ringStart_refused {s : State} {r tag opc : Nat} {d : RingDesc} {st reason : Nat} (hready : s.descReady r tag opc d = true)
    (hsigned : d.signed = true) (hfails : s.authFails d.auth d.message 1 true = some (st, reason)) (f : State → RingDesc → State) :
    s.ringStart r tag opc f = (s.refuse 3 reason).ringEnd r tag st none := by
  simp only [State.descReady, Bool.and_eq_true, beq_iff_eq, Bool.not_eq_true'] at hready
  obtain ⟨⟨⟨hdesc, hopc⟩, hstarted⟩, hstartable⟩ := hready
  simp [State.ringStart, hdesc, hopc, hstarted, hstartable, hsigned, hfails]

theorem State.ringMove_refused {s : State} {r tag opc : Nat} {d : RingDesc} {st reason : Nat} (hready : s.descReady r tag opc d = true)
    (hturn : s.ringTurn r d = true) (hsigned : d.signed = true) (hfails : s.authFails d.auth d.message 1 true = some (st, reason))
    (blocks : List ChainBlock) (ok : Nat) (data : List Byte) (f : MemFaults) :
    s.ringMove r tag opc blocks ok data f = (s.refuse 3 reason).ringEnd r tag st none := by
  have hstart := State.ringStart_refused hready hsigned hfails
  simp only [State.descReady, Bool.and_eq_true, beq_iff_eq, Bool.not_eq_true'] at hready
  obtain ⟨⟨⟨hdesc, hopc⟩, hstarted⟩, -⟩ := hready
  simp [State.ringMove, hdesc, hopc, hturn, hstarted, hstart]

/-- Settles O47: the state of the ring says whether a completion is written, held or counted, and the work of a refused descriptor never begins,
whatever that work is. -/
theorem ringCompletions : Obligations.ring_completions := by
  refine ⟨fun s r c hst hroom hheld => ?_, fun s r c hst hfull => ?_, fun s r c hst => ?_, fun s r tag st b d hd => State.ringEnd_of_desc hd st b,
    ?_, ?_, ?_, ?_, ?_⟩
  · rw [State.ringPost_of_room hst hroom hheld, State.ringWrite_ring]
    exact ⟨s.ringWrite_hostMem r c, rfl, rfl, s.ringWrite_msix r c, s.ringWrite_parts r c⟩
  · rw [State.ringPost_of_full hst hfull, State.ring_modRing_same]
    exact ⟨rfl, rfl, rfl, .modRing (by decide) s r _⟩
  · rw [State.ringPost_of_disabled hst]
    exact ⟨State.fld_bump_same s _ (by decide), .bump (by decide) (by decide) s _, .bump s _ (by decide)⟩
  · intro s r tag d st reason data f hlive hready hturn hsigned hfails
    rw [← State.ringMove_refused hready hturn hsigned hfails [] data.length data f]
    exact next_whileLive_of_live hlive _
  · intro s r tag d st reason img ok hlive hready hsigned hfails
    rw [← State.ringStart_refused hready hsigned hfails]
    exact next_whileLive_of_live hlive _
  · intro s r tag d st reason hlive hready hsigned hfails hadmits
    have hclear : s.sillageClear r tag = (s.refuse 3 reason).ringEnd r tag st none :=
      (if_neg (by simp [hadmits])).trans (State.ringStart_refused hready hsigned hfails _)
    rw [← hclear]
    exact next_whileLive_of_live hlive _
  · intro s r tag d st reason hlive hready hsigned hfails
    rw [← State.ringStart_refused hready hsigned hfails]
    exact next_whileLive_of_live hlive _
  · intro s r tag d st reason hlive hready hsigned hfails
    rw [← State.ringStart_refused hready hsigned hfails]
    exact next_whileLive_of_live hlive _

end Sys2Proof.Machine
end


section
/-! SUPPORT. Frames of the pool that are acted on (R510, R524), and how many members the registers show (R507, O42, O43). -/
namespace Sys2Proof.Machine

/-! ### Frames acted on -/

/-- A frame that is acted on: its sender has been heard. -/
theorem State.ewAccept_of_takes {s : State} {h : EwHdr} (ht : s.ewTakes h = true) (type : Nat) (f : State → State) :
    s.ewAccept h type f = f (s.ewHeard h) := by
  simp only [State.ewTakes, Bool.and_eq_true, Bool.or_eq_true, Bool.not_eq_true', Bool.and_eq_false_iff, beq_eq_false_iff_ne, beq_iff_eq] at ht
  obtain ⟨⟨hon, hfresh⟩, hgen⟩ := ht
  have hstale : (h.reply && decide (h.status = 1)) = false := by rcases hfresh with hf | hf <;> simp [hf]
  have hmine : (h.dstGen != 0 && h.dstGen != s.plGen) = false := by rcases hgen with hg | hg <;> simp [hg]
  have hstale' : ¬(h.reply = true ∧ h.status = 1) := by simpa using hstale
  unfold State.ewAccept
  rw [if_neg (by simp [hon]), if_neg (by simpa using hstale'), hmine]
  rfl

theorem OnlyParts.ite {ps : List Part} {c : Prop} [Decidable c] {s t u : State} (ht : OnlyParts ps s t) (hu : OnlyParts ps s u) :
    OnlyParts ps s (if c then t else u) := by
  split
  · exact ht
  · exact hu

theorem OnlyParts.modPool {ps : List Part} (hps : Part.pool ∈ ps) (s : State) (f : PoolSt → PoolSt) : OnlyParts ps s (s.modPool f) := by
  refine ⟨rfl, fun p hp => ?_⟩
  cases p with
  | pool => exact absurd hps hp
  | _ => rfl

theorem OnlyParts.ewGroup {ps : List Part} (hps : Part.pool ∈ ps) (s : State) (port grp type xid : Nat) (body : List Byte) :
    OnlyParts ps s (s.ewGroup port grp type xid body) := OnlyParts.modPool hps s _

theorem State.sendLayout_parts (s : State) : OnlyParts [.pool] s s.sendLayout := by
  refine OnlyParts.each s _ (fun t x => ?_)
  exact (OnlyParts.modPool (by decide) t _).trans (OnlyParts.each _ _ (fun u z => OnlyParts.ewGroup (by decide) u _ _ _ _ _))

/-! ### The counts of L

PL_NMEMB and PL_NFAIL have 17 bits: a pool may have 65,536 members. -/

/-- PL_NMEMB shows how many members L has, PL_NFAIL how many of them are Failed. -/
structure State.Counted (s : State) : Prop where
  all : s.fld PL_NMEMB.COUNT = s.pool.members.length % 2 ^ 17
  failed : s.fld PL_NFAIL.COUNT = (s.pool.members.filter (fun m => m.failed)).length % 2 ^ 17

theorem State.plSync_counted (s : State) : s.plSync.Counted := by
  have hother (t : State) (f g : Fld) (v : Nat) (h : f.addr ≠ g.addr) : (t.setFld f v).fld g = t.fld g := State.fld_setFld_addr t f g v h
  constructor
  · unfold State.plSync
    dsimp only
    rw [hother _ _ _ _ (by decide), hother _ _ _ _ (by decide), hother _ _ _ _ (by decide), hother _ _ _ _ (by decide),
      State.fld_setFld_same _ _ _ (by decide)]
    rfl
  · unfold State.plSync
    dsimp only
    rw [hother _ _ _ _ (by decide), hother _ _ _ _ (by decide), hother _ _ _ _ (by decide), State.fld_setFld_same _ _ _ (by decide)]
    rfl

theorem State.Counted.ite {c : Prop} [Decidable c] {s t : State} (hs : s.Counted) (ht : t.Counted) : (if c then s else t).Counted := by
  split
  · exact hs
  · exact ht

/-- However a layout is adopted, the counts follow it. -/
theorem State.adoptLayout_counted (s : State) (epoch : Nat) (ids : List (Nat × Bool)) : (s.adoptLayout epoch ids).Counted :=
  .ite (.ite (State.plSync_counted _) (.ite (State.plSync_counted _) (State.plSync_counted _))) (State.plSync_counted _)

theorem State.counted_of_members_regs {s t : State} (h : s.Counted) (hregs : t.regs = s.regs) (hmem : t.pool.members = s.pool.members) : t.Counted := by
  have hfld (g : Fld) : t.fld g = s.fld g := congrArg (fun r => g.ofWord (SMap.get resetWord r g.addr)) hregs
  exact ⟨by rw [hfld, hmem]; exact h.all, by rw [hfld, hmem]; exact h.failed⟩

theorem State.sendLayout_members (s : State) : s.sendLayout.pool.members = s.pool.members :=
  State.each_keeps (fun t => t.pool.members = s.pool.members) _ _ s rfl
    (fun _ ht _ _ => State.each_keeps (fun u => u.pool.members = s.pool.members) _ _ _ ht (fun _ hu _ _ => hu))

theorem State.sendLayout_counted {s : State} (h : s.Counted) : s.sendLayout.Counted :=
  State.counted_of_members_regs h (s.sendLayout_parts.2 .regs (by decide)) s.sendLayout_members

/-- A member that does not have a fixed MEMBERID adopts none as it joins (R528). -/
theorem State.adoptFixed_of_free {s : State} (h : s.poolCfg 8 1 = 0) : s.adoptFixed = s := by
  simp [State.adoptFixed, h]

theorem State.plSync_parts (s : State) : OnlyParts [.regs] s s.plSync := by
  have hset (t : State) (f : Fld) (v : Nat) : OnlyParts [.regs] t (t.setFld f v) := .setFld (by decide) t f v
  exact (hset s _ _).trans ((hset _ _ _).trans ((hset _ _ _).trans ((hset _ _ _).trans (hset _ _ _))))

theorem State.poolSettle_parts (s : State) : OnlyParts [.regs] s s.poolSettle := .ite (.setFld (by decide) s _ _) (.refl _ s)

theorem State.askOpens_parts (s : State) : OnlyParts [.pool] s s.askOpens := by
  refine OnlyParts.each s _ (fun t o => .ite (.refl _ t) ?_)
  split
  · exact .modPool (by decide) t _
  · exact .refl _ t

theorem State.sjq_parts (s : State) (b : SjBody) : OnlyParts [.tier] s (s.sjq b) := .modTier (by decide) s _

/-- A layout adopted changes registers, the identity record's queue and the pool. -/
theorem State.adoptLayout_parts (s : State) (epoch : Nat) (ids : List (Nat × Bool)) : OnlyParts [.regs, .tier, .pool] s (s.adoptLayout epoch ids) := by
  have hset (t : State) (f : Fld) (v : Nat) : OnlyParts [.regs, .tier, .pool] t (t.setFld f v) := .setFld (by decide) t f v
  have hsync (t : State) : OnlyParts [.regs, .tier, .pool] t t.plSync := t.plSync_parts.mono (by decide)
  have hident (t : State) : OnlyParts [.regs, .tier, .pool] t t.identityRecord := (t.sjq_parts _).mono (by decide)
  have hsettle (t : State) : OnlyParts [.regs, .tier, .pool] t t.askOpens.poolSettle :=
    (t.askOpens_parts.mono (by decide)).trans (t.askOpens.poolSettle_parts.mono (by decide))
  unfold State.adoptLayout
  extract_lets old ms s1 s2
  have h2 : OnlyParts [.regs, .tier, .pool] s s2 := (OnlyParts.modPool (by decide) s _).trans ((hset _ _ _).trans (hset _ _ _))
  refine .ite (.ite (h2.trans ((hset _ _ _).trans (hsync _))) (.ite ?_ (h2.trans ((hset _ _ _).trans (hsync _))))) ?_
  · exact h2.trans ((hset _ _ _).trans ((hident _).trans ((hsettle _).trans (hsync _))))
  · exact h2.trans ((hident _).trans (hsync _))

/-- The last part of a layout: it is adopted, and the counts are those of the members it names. -/
theorem State.layoutFrame_whole_counted {s : State} {h : EwHdr} (ht : s.ewTakes h = true) (hfree : s.poolCfg 8 1 = 0) {epoch : Nat}
    (hepoch : s.pool.partEpoch = epoch) (ids : List (Nat × Bool)) : (s.layoutFrame h epoch 0 1 ids).Counted := by
  have hadopted (t : State) (l : List (Nat × Bool)) (hacc : t.acc = s.acc) : (t.adoptLayout epoch l).adoptFixed.Counted := by
    rw [State.adoptFixed_of_free]
    · exact t.adoptLayout_counted epoch l
    · rw [State.poolCfg, State.ac, (t.adoptLayout_parts epoch l).2 .acc (by decide), hacc]
      exact hfree
  have hpart : (s.ewHeard h).pool.partEpoch = epoch := hepoch
  unfold State.layoutFrame
  rw [State.ewAccept_of_takes ht]
  dsimp only
  rw [if_pos hpart, if_neg (by simp [State.ewReply, State.ewPut])]
  split
  · exact State.sendLayout_counted (hadopted _ _ rfl)
  · exact hadopted _ _ rfl

/-- A pool member that collects parts of epoch 9. -/
def collecting : State := { pooled [] with pool := { (pooled []).pool with partEpoch := 9 } }

theorem collecting_live : collecting.live = true := by decide +kernel

/-- Refutes O42: its clause on a whole layout shows the member count in 16 bits, and PL_NMEMB.COUNT has 17 (a pool of every 16-bit ID has 65,536
members): a layout of 65,536 IDs shows 65,536, not 0. -/
theorem not_poolStart : ¬ Obligations.pool_start := by
  rintro ⟨-, -, -, -, -, -, -, hwhole, -⟩
  have hcounts (n : Nat) : n % 2 ^ 17 = n % 2 ^ 16 := by
    have htakes : collecting.ewTakes (hdr 2) = true := by decide +kernel
    obtain ⟨t, hexec, hmembers, -, hcount, -⟩ :=
      hwhole collecting (hdr 2) 9 (List.replicate n (1, false)) collecting_live htakes rfl rfl
    have hlayout : exec (.layout (hdr 2) 9 0 1 (List.replicate n (1, false))) collecting =
        .next (collecting.layoutFrame (hdr 2) 9 0 1 (List.replicate n (1, false))) := next_whileLive_of_live collecting_live _
    have ht : collecting.layoutFrame (hdr 2) 9 0 1 (List.replicate n (1, false)) = t := Host.Outcome.next.inj (hlayout.symm.trans hexec)
    have hlength : t.pool.members.length = n := by simpa using congrArg List.length hmembers
    have hcounted : t.Counted := by rw [← ht]; exact State.layoutFrame_whole_counted htakes (by decide +kernel) rfl _
    rw [← hlength, ← hcounted.all, hcount, List.length_replicate, hlength]
  exact absurd (hcounts 65536) (by decide)

/-! ### A Failed member (O43) -/

/-- A member other than this device that is not Failed yet: the counts follow its failure. -/
theorem State.memberFail_counted {s : State} {id : Nat} (hid : id ≠ s.plId) (hnot : s.memberFailed id = false) (newgen cause : Nat) :
    (s.memberFail id newgen cause).Counted := by
  unfold State.memberFail
  rw [if_neg (by simpa using hid), if_neg (by simp [hnot])]
  exact State.plSync_counted _

/-- A pool member that knows `n` Failed members. -/
def amongFailed (n : Nat) : State := { pooled [] with pool := { (pooled []).pool with members := List.replicate n ⟨2, true, 4, 5, none, 0, []⟩ } }

theorem amongFailed_live (n : Nat) : (amongFailed n).live = true := by
  have hlive : (pooled []).live = true := by decide +kernel
  exact hlive

theorem amongFailed_takes (n : Nat) : (amongFailed n).ewTakes (hdr 2) = true := by
  have htakes : (pooled []).ewTakes (hdr 2) = true := by decide +kernel
  exact htakes

/-- Refutes O43: its clause on a FAILNOTE shows the count of Failed members in 16 bits, and PL_NFAIL.COUNT has 17: where 65,536 entries of L are
Failed it shows 65,536, not 0. -/
theorem not_poolFailures : ¬ Obligations.pool_failures := by
  rintro ⟨-, -, -, -, -, -, hnote, -⟩
  have hcounts (n : Nat) : n % 2 ^ 17 = n % 2 ^ 16 := by
    have hbase : 3 ≠ (pooled []).plId := by decide +kernel
    have hid : 3 ≠ ((amongFailed n).ewHeard (hdr 2)).plId := hbase
    have hnot : ((amongFailed n).ewHeard (hdr 2)).memberFailed 3 = false := by
      simp [State.memberFailed, State.ewHeard, amongFailed, hdr]
    obtain ⟨t, hexec, hmembers, -, hcount, -⟩ :=
      hnote (amongFailed n) (hdr 2) 3 9 2 (amongFailed_live n) (amongFailed_takes n) hid (by simp [State.memberFailed, amongFailed]) rfl
    have hfail : (amongFailed n).failnote (hdr 2) 3 9 2 = ((amongFailed n).ewHeard (hdr 2)).memberFail 3 9 2 := by
      unfold State.failnote
      rw [State.ewAccept_of_takes (amongFailed_takes n)]
      exact if_neg (by simpa using hid)
    have hafter : exec (.failnote (hdr 2) 3 9 2) (amongFailed n) = .next (((amongFailed n).ewHeard (hdr 2)).memberFail 3 9 2) := by
      rw [← hfail]
      exact next_whileLive_of_live (amongFailed_live n) _
    have ht : ((amongFailed n).ewHeard (hdr 2)).memberFail 3 9 2 = t := Host.Outcome.next.inj (hafter.symm.trans hexec)
    have hlength : (t.pool.members.filter (fun m => m.failed)).length = n := by
      rw [hmembers]
      simp [State.ewHeard, amongFailed, hdr]
    have hcounted : t.Counted := by rw [← ht]; exact State.memberFail_counted hid hnot 9 2
    rw [← hlength, ← hcounted.failed, hcount, hlength]
  exact absurd (hcounts 65536) (by decide)

end Sys2Proof.Machine
end


section
/-! SUPPORT. Parity contributions and partner copies (O44, R513, R517 to R523). -/
namespace Sys2Proof.Machine

/-! ### What a frame heard leaves -/

theorem OnlyParts.ewSend {ps : List Part} (hps : Part.pool ∈ ps) (s : State) (type dst xid : Nat) (body : List Byte) :
    OnlyParts ps s (s.ewSend type dst xid body) := OnlyParts.modPool hps s _

theorem OnlyParts.ewReply {ps : List Part} (hps : Part.pool ∈ ps) (s : State) (h : EwHdr) (type status : Nat) (body : List Byte) :
    OnlyParts ps s (s.ewReply h type status body) := OnlyParts.modPool hps s _

theorem OnlyParts.ewHeard {ps : List Part} (hps : Part.pool ∈ ps) (s : State) (h : EwHdr) : OnlyParts ps s (s.ewHeard h) := OnlyParts.modPool hps s _

/-- Who is in L does not change by hearing a member. -/
theorem State.layoutIds_ewHeard (s : State) (h : EwHdr) : (s.ewHeard h).layoutIds = s.layoutIds := by
  simp only [State.layoutIds, State.ewHeard, State.modPool_pool, List.map_map]
  refine List.map_congr_left (fun m _ => ?_)
  dsimp only [Function.comp]
  split <;> rfl

/-- So every position of a group is held by the same member. -/
theorem State.holder_ewHeard (s : State) (h : EwHdr) (g p : Nat) : (s.ewHeard h).holder g p = s.holder g p := by
  have hlen : (s.ewHeard h).pool.members.length = s.pool.members.length := by simp [State.ewHeard]
  have hnil : (s.ewHeard h).pool.members = [] ↔ s.pool.members = [] := by
    rw [← List.length_eq_zero_iff, hlen, List.length_eq_zero_iff]
  have hpos : (s.ewHeard h).poolT p = s.poolT p := by
    rw [State.poolT, hlen]
    rfl
  simp only [State.holder, hnil, hlen, hpos, State.layoutIds_ewHeard]

theorem State.holds_ewHeard {s : State} {h : EwHdr} {g p : Nat} (hp : s.holder g p = some s.plId) :
    ¬(((s.ewHeard h).holder g p != some (s.ewHeard h).plId) = true) := by
  rw [State.holder_ewHeard, hp]
  simp [show (s.ewHeard h).plId = s.plId from rfl]

/-! ### The holders of P and Q (R517, R520) -/

section
variable {s : State} {h : EwHdr} (ht : s.ewTakes h = true) (c : EwCell) (pos op wseq : Nat) (d : List Byte)
include ht

/-- A half of a contribution that P has nothing of: taken into the parity, its record queued. -/
theorem State.pupd_new (hp : s.holder c.group s.pdata = some s.plId)
    (hnew : s.pool.held.any (fun y => y.c.same ⟨c.group, c.row, c.cell, op, 0⟩ && y.writer == h.src && y.wseq == wseq) = false) :
    s.pupd h c pos op wseq d = ((s.ewHeard h).modPool (fun p => { p with
      held := p.held ++ [⟨⟨c.group, c.row, c.cell, op, 0⟩, h.src, pos, wseq, [(c.half, slice d 0 8192)], false, [], h.xid, 0⟩]
      parity := SMap.modify (fun _ => []) p.parity (cellKey c.group c.row c.cell c.half) (fun o => xorBytes (orZero o) (slice d 0 8192)) })).sjq
        (.held ⟨c.group, c.row, c.cell, op, 0⟩ h.src 1 wseq) := by
  have hnone : (s.ewHeard h).pool.held.find?
      (fun y => y.c.same ⟨c.group, c.row, c.cell, op, 0⟩ && y.writer == h.src && y.wseq == wseq) = none :=
    List.find?_eq_none.mpr (fun y hy => List.any_eq_false.mp hnew y hy)
  rw [State.pupd, State.ewAccept_of_takes ht, if_neg (State.holds_ewHeard (p := (s.ewHeard h).pdata) hp)]
  simp only [hnone]

/-- A half that P has taken, before its record is durable: nothing more. -/
theorem State.pupd_again (hp : s.holder c.group s.pdata = some s.plId) {y : HeldC}
    (hy : s.pool.held.find? (fun y => y.c.same ⟨c.group, c.row, c.cell, op, 0⟩ && y.writer == h.src && y.wseq == wseq) = some y)
    (hhalf : y.halves.any (fun z => z.1 == c.half) = true) (hdur : y.durable = false) : s.pupd h c pos op wseq d = s.ewHeard h := by
  have hfound : (s.ewHeard h).pool.held.find?
      (fun y => y.c.same ⟨c.group, c.row, c.cell, op, 0⟩ && y.writer == h.src && y.wseq == wseq) = some y := hy
  rw [State.pupd, State.ewAccept_of_takes ht, if_neg (State.holds_ewHeard (p := (s.ewHeard h).pdata) hp)]
  simp only [hfound, hhalf, hdur, if_true]
  rfl

/-- What Q has taken is marked, and taken once. -/
theorem State.qupd_holder (hq : s.holder c.group (s.pdata + 1) = some s.plId) :
    s.qupd h c pos op wseq d = (if s.pool.qdone.contains (h.src, wseq, c.group, c.row, c.cell * 2 + op, c.half) = true then s.ewHeard h else
      (s.ewHeard h).modPool (fun p => { p with
        qdone := p.qdone ++ [(h.src, wseq, c.group, c.row, c.cell * 2 + op, c.half)]
        parityQ := SMap.modify (fun _ => []) p.parityQ (cellKey c.group c.row c.cell c.half)
          (fun o => xorBytes (orZero o) (gfScale (gfPow pos) (slice d 0 8192))) })).ewReply h 0x12 0 (ackBody ⟨c.group, c.row, c.cell, op, 0⟩ c.half) := by
  rw [State.qupd, State.ewAccept_of_takes ht, if_neg (State.holds_ewHeard (p := (s.ewHeard h).pdata + 1) hq)]
  rfl

end

/-! ### Contributions completed (R520) -/

section
variable {s : State} {h : EwHdr} (ht : s.ewTakes h = true) (c : EwCell)
include ht

/-- An acknowledgement of a held contribution, found by its XID, that is not its last. -/
theorem State.updack_held {y : HeldC}
    (hy : s.pool.held.find? (fun y => y.durable && y.xidOut == h.xid && y.c.group == c.group && y.c.row == c.row && y.c.cell == c.cell) = some y)
    (hacks : y.acks.length = 1) (hhalf : y.acks.contains c.half = false) :
    s.updack h c = ([0, 1].foldl (fun u k => u.ewSend 0x12 y.writer y.xidIn (ackBody y.c k))
      (((s.ewHeard h).modPool (fun p => { p with held := p.held.filter (fun z => !(z == y)) })).sjq (.held y.c y.writer 2 y.wseq))).plSync := by
  have hfound : (s.ewHeard h).pool.held.find?
      (fun y => y.durable && y.xidOut == h.xid && y.c.group == c.group && y.c.row == c.row && y.c.cell == c.cell) = some y := hy
  rw [State.updack, State.ewAccept_of_takes ht]
  simp only [hfound, hhalf, Bool.false_eq_true, if_false, List.length_append, hacks, List.length_singleton, Nat.lt_irrefl, Nat.reduceAdd]

/-- An acknowledgement of an open contribution: the first is kept, the second closes it. -/
theorem State.updack_open (hheld : s.pool.held = []) {o : OpenC}
    (ho : s.pool.opens.find? (fun o => o.xid == h.xid && o.c.group == c.group && o.c.row == c.row && o.c.cell == c.cell) = some o)
    (hhalf : o.acks.contains c.half = false) :
    s.updack h c = if o.acks.length + 1 < 2 then (s.ewHeard h).modPool (fun p => { p with
      opens := p.opens.map (fun q => if q == o then { q with acks := o.acks ++ [c.half] } else q) }) else (s.ewHeard h).contribClose o := by
  have hnone : (s.ewHeard h).pool.held = [] := hheld
  have hfound : (s.ewHeard h).pool.opens.find? (fun o => o.xid == h.xid && o.c.group == c.group && o.c.row == c.row && o.c.cell == c.cell) = some o := ho
  rw [State.updack, State.ewAccept_of_takes ht]
  simp only [hnone, List.find?_nil, hfound, hhalf, Bool.false_eq_true, if_false, List.length_append, List.length_singleton]

end

/-- With nothing waiting and nothing of this member's at its partner, a contribution that closes leaves the open ones, is done or retracted, and
its record is queued. -/
theorem State.contribClose_alone {s : State} (o : OpenC) (hwait : s.pool.waiting = []) (hmine : s.pool.mine = []) :
    (s.contribClose o).pool.opens = s.pool.opens.filter (fun q => !(q == o)) ∧
    (s.contribClose o).pool.done = (if o.c.op = 0 then s.pool.done ++ [o.c.pfn] else s.pool.done.filter (· != o.c.pfn)) ∧
    (s.contribClose o).tier.queue = s.tier.queue ++ [.contribDone o.c] ∧ OnlyParts [.regs, .tier, .pool] s (s.contribClose o) := by
  let closed : State := (s.sjq (.contribDone o.c)).modPool (fun p => { p with
    opens := p.opens.filter (fun q => !(q == o))
    done := if o.c.op = 0 then p.done ++ [o.c.pfn] else p.done.filter (· != o.c.pfn) })
  have hclose : s.contribClose o = closed.poolSettle.plSync := by
    have hw : closed.pool.waiting = [] := hwait
    have hrelease : closed.release = closed := by
      have hm : closed.pool.mine = [] := hmine
      simp only [State.release, hm, List.filter_nil]
    unfold State.contribClose
    change State.plSync (State.poolSettle (State.release (match closed.pool.waiting with
      | c :: rest => (closed.modPool (fun p => { p with waiting := rest })).contribute c
      | [] => closed))) = _
    rw [hw, hrelease]
  have hafter : OnlyParts [.regs] closed closed.poolSettle.plSync := closed.poolSettle_parts.trans (State.plSync_parts _)
  have hpool : closed.poolSettle.plSync.pool = closed.pool := hafter.2 .pool (by decide)
  have htier : closed.poolSettle.plSync.tier = closed.tier := hafter.2 .tier (by decide)
  rw [hclose, hpool, htier]
  exact ⟨rfl, rfl, rfl, ((s.sjq_parts _).mono (by decide)).trans ((OnlyParts.modPool (by decide) _ _).trans (hafter.mono (by decide)))⟩

/-! ### No answer (R519, R520) -/

/-- The state in which an unanswered contribution counts one more try. -/
def State.triedAgain (s : State) (o : OpenC) : State :=
  s.modPool (fun p => { p with opens := p.opens.map (fun q => if q == o then { o with tries := o.tries + 1 } else q) })

theorem State.updackTimeout_open {s : State} {g r c op : Nat} {o : OpenC}
    (ho : s.pool.opens.find? (fun o => o.c.group == g && o.c.row == r && o.c.cell == c && o.c.op == op) = some o) (hon : s.poolOn = true) :
    s.updackTimeout g r c op = if o.tries + 1 < 3 then (s.triedAgain o).resendPupd { o with tries := o.tries + 1 }
      else (s.triedAgain o).ewSend 0x22 (s.fld PL_LEADER.SHARD) o.xid (leBytes 4 g ++ leBytes 4 r ++ leBytes 1 c ++ zeros 3 ++ leBytes 8 o.seq) := by
  simp only [State.updackTimeout, ho, hon, Bool.not_true, Bool.false_eq_true, if_false]
  rfl

/-- Where no command waits for its partner, dropping what is unanswered empties the list and shows writes as unpaired. -/
theorem State.pairDrop_of_unowned {s : State} (hsome : s.pool.pairs ≠ []) (hnone : s.pool.pairs.all (fun w => w.owner.isNone) = true) :
    s.pairDrop = (s.modPool (fun p => { p with pairs := [] })).unpaired true := by
  have hready : (s.pool.pairs.map (fun w => { w with xids := [] })).filter (fun w => w.xids == []) = s.pool.pairs.map (fun w => { w with xids := [] }) :=
    List.filter_eq_self.mpr (fun w hw => by obtain ⟨v, -, rfl⟩ := List.mem_map.mp hw; rfl)
  have hleft : (s.pool.pairs.map (fun w => { w with xids := [] })).filter (fun w => w.xids != []) = [] :=
    List.filter_eq_nil_iff.mpr (fun w hw => by obtain ⟨v, -, rfl⟩ := List.mem_map.mp hw; simp)
  have hpump : (s.modPool (fun p => { p with pairs := p.pairs.map (fun w => { w with xids := [] }) })).pairPump = s.modPool (fun p => { p with pairs := [] }) := by
    simp only [State.pairPump, State.modPool_pool, hready]
    refine State.each_keeps (· = s.modPool (fun p => { p with pairs := [] })) _ _ _ (by simp [State.modPool, hleft]) (fun t hst w hw => ?_)
    obtain ⟨v, hv, rfl⟩ := List.mem_map.mp hw
    have howner : v.owner = none := Option.isNone_iff_eq_none.mp (List.all_eq_true.mp hnone v hv)
    subst hst
    cases v.last <;> simp [howner, State.finishWrite]
  rw [State.pairDrop, if_neg hsome, hpump]

theorem State.unpaired_parts (s : State) (on : Bool) : OnlyParts [.regs, .tickMem, .sil] s (s.unpaired on) :=
  .ite (.refl _ s) ((OnlyParts.setFld (by decide) s _ _).trans (State.record_parts _ _ _))

theorem State.unpaired_bit (s : State) : (s.unpaired true).bit PL_STAT.UNPAIRED = true := by
  unfold State.unpaired
  split
  · rename_i h
    exact beq_iff_eq.mp h
  · rw [State.bit, State.fld_record _ _ _ (by decide), State.fld_setFld_same _ _ _ (by decide)]
    rfl

theorem State.unpaired_twice (s : State) : (s.unpaired true).unpaired true = s.unpaired true := by
  rw [State.unpaired, if_pos (by simp [s.unpaired_bit])]

/-! ### Queries (R523) -/

/-- A query about a contribution of which nothing is known. -/
theorem State.pstate_unknown {s : State} {h : EwHdr} (ht : s.ewTakes h = true) (hquery : h.reply = false) (c : EwCell) (wseq st : Nat)
    (hheld : s.pool.held = []) (hgone : s.tier.sj.all (fun r => match r.body with | .held _ _ _ _ => false | _ => true) = true) :
    s.pstate h c wseq st = (s.ewHeard h).ewReply h 0x22 0
      (leBytes 4 c.group ++ leBytes 4 c.row ++ leBytes 1 c.cell ++ zeros 3 ++ leBytes 8 wseq ++ leBytes 1 0) := by
  have hnone : (s.ewHeard h).pool.held = [] := hheld
  have hnever : (s.ewHeard h).tier.sj.any (fun r => match r.body with
      | .held x w 2 q => x.group == c.group && x.row == c.row && x.cell == c.cell && w == h.src && q == wseq
      | _ => false) = false := by
    refine List.any_eq_false.mpr (fun r hr => ?_)
    have hbody := List.all_eq_true.mp hgone r hr
    cases hb : r.body <;> simp_all
  rw [State.pstate, State.ewAccept_of_takes ht]
  simp only [hquery, hnone, List.find?_nil, Bool.not_false, if_true, Option.isSome_none, State.onSome, Bool.false_eq_true, if_false]
  exact congrArg (fun n => (s.ewHeard h).ewReply h 0x22 0 (leBytes 4 c.group ++ leBytes 4 c.row ++ leBytes 1 c.cell ++ zeros 3 ++ leBytes 8 wseq ++ leBytes 1 n))
    (if_neg (Bool.eq_false_iff.mp hnever))

/-- Settles O44: P and Q take a half once, the second acknowledgement closes, the third silence asks the leader. -/
theorem poolContributions : Obligations.pool_contributions := by
  refine ⟨?taken, ?again, ?scaled, ?held, ?firstAck, ?secondAck, ?third, ?resent, ?unknown, ?copy, ?released, ?unanswered⟩
  case taken =>
    intro s h c pos op wseq d hlive ht hp hnew
    refine ⟨_, (next_whileLive_of_live hlive _).trans (congrArg _ (State.pupd_new ht c pos op wseq d hp hnew)), rfl, rfl, rfl, rfl, ?_⟩
    exact (OnlyParts.ewHeard (by decide) s h).trans ((OnlyParts.modPool (by decide) _ _).trans ((State.sjq_parts _ _).mono (by decide)))
  case again =>
    intro s h c pos op wseq d y hlive ht hp hy hhalf hdur
    exact (next_whileLive_of_live hlive _).trans (congrArg _ (State.pupd_again ht c pos op wseq d hp hy hhalf hdur))
  case scaled =>
    intro s h c pos op wseq d hlive ht hq
    refine ⟨_, (next_whileLive_of_live hlive _).trans (congrArg _ (State.qupd_holder ht c pos op wseq d hq)), ?_⟩
    have hheard : OnlyParts [.pool] s (s.ewHeard h) := .ewHeard (by decide) s h
    split
    next hdone => exact ⟨rfl, hdone, rfl, rfl, hheard.trans (.ewReply (by decide) _ _ _ _ _)⟩
    next =>
      refine ⟨rfl, ?_, rfl, rfl, hheard.trans ((OnlyParts.modPool (by decide) _ _).trans (.ewReply (by decide) _ _ _ _ _))⟩
      exact List.contains_iff_mem.mpr (List.mem_append_right _ (List.mem_singleton.mpr rfl))
  case held =>
    intro s h c y hlive ht hy hacks hhalf
    refine ⟨_, (next_whileLive_of_live hlive _).trans (congrArg _ (State.updack_held ht c hy hacks hhalf)), ?_⟩
    have hsync (t : State) : t.plSync.pool = t.pool := t.plSync_parts.2 .pool (by decide)
    have hframe (t : State) (b : Nat → List Byte) : OnlyParts [.regs, .tickMem, .tier, .pool] t
        ([0, 1].foldl (fun u k => u.ewSend 0x12 y.writer y.xidIn (b k)) t).plSync :=
      (OnlyParts.ewSend (by decide) t _ _ _ _).trans ((OnlyParts.ewSend (by decide) _ _ _ _ _).trans ((State.plSync_parts _).mono (by decide)))
    refine ⟨by rw [hsync]; rfl, rfl, ?_, ?_⟩
    · rw [hsync]
      simp [State.ewSend, State.ewPut, State.sjq, State.ewHeard]
    · exact (OnlyParts.ewHeard (by decide) s h).trans ((OnlyParts.modPool (by decide) _ _).trans (((State.sjq_parts _ _).mono (by decide)).trans
        (hframe _ (ackBody y.c))))
  case firstAck =>
    intro s h c o hlive ht hheld ho hacks
    have hopen := State.updack_open ht c hheld ho (by simp [hacks])
    rw [hacks, if_pos (by decide)] at hopen
    refine ⟨_, (next_whileLive_of_live hlive _).trans (congrArg _ hopen), ?_, rfl,
      (OnlyParts.ewHeard (by decide) s h).trans (.modPool (by decide) _ _)⟩
    refine List.map_congr_left (fun q _ => ?_)
    simp
  case secondAck =>
    intro s h c o hlive ht hheld hwait hmine ho hacks hhalf
    have hopen := State.updack_open ht c hheld ho hhalf
    rw [hacks, if_neg (by decide)] at hopen
    obtain ⟨hopens, hdone, hqueue, hparts⟩ := State.contribClose_alone (s := s.ewHeard h) o hwait hmine
    exact ⟨_, (next_whileLive_of_live hlive _).trans (congrArg _ hopen), hopens, hdone, hqueue,
      (OnlyParts.ewHeard (by decide) s h).trans (hparts.mono (by decide))⟩
  case third =>
    intro s g r c op o hlive ho hon htries
    have htimeout := State.updackTimeout_open ho hon
    rw [if_neg (by omega)] at htimeout
    refine ⟨_, (next_whileLive_of_live hlive _).trans (congrArg _ htimeout), ?_, rfl,
      (OnlyParts.modPool (by decide) s _).trans (.ewSend (by decide) _ _ _ _ _)⟩
    exact List.map_congr_left (fun q _ => by simp)
  case resent =>
    intro s g r c op o hlive ho hon htries
    have htimeout := State.updackTimeout_open ho hon
    rw [if_pos (by omega)] at htimeout
    refine ⟨s.triedAgain o, (next_whileLive_of_live hlive _).trans (congrArg _ htimeout), ?_, .modPool (by decide) s _⟩
    exact List.map_congr_left (fun q _ => by simp)
  case unknown =>
    intro s h c wseq st hlive ht hquery hheld hgone
    exact ⟨_, (next_whileLive_of_live hlive _).trans (congrArg _ (State.pstate_unknown ht hquery c wseq st hheld hgone)), rfl,
      (OnlyParts.ewHeard (by decide) s h).trans (.ewReply (by decide) _ _ _ _ _)⟩
  case copy =>
    intro s h r d hlive ht
    refine ⟨s.pcopy h r d, next_whileLive_of_live hlive _, ?_⟩
    rw [State.pcopy, State.ewAccept_of_takes ht]
    exact ⟨rfl, rfl, (OnlyParts.ewHeard (by decide) s h).trans ((OnlyParts.modPool (by decide) _ _).trans (.ewReply (by decide) _ _ _ _ _))⟩
  case released =>
    intro s h seqs hlive ht
    refine ⟨s.prelease h seqs, next_whileLive_of_live hlive _, ?_⟩
    rw [State.prelease, State.ewAccept_of_takes ht]
    exact ⟨rfl, rfl, (OnlyParts.ewHeard (by decide) s h).trans (.modPool (by decide) _ _)⟩
  case unanswered =>
    intro s hlive hsome hnone hfeat
    refine ⟨s.pairDrop.unpaired s.featPool, next_whileLive_of_live hlive _, ?_⟩
    rw [hfeat, State.pairDrop_of_unowned hsome hnone, State.unpaired_twice]
    refine ⟨?_, State.unpaired_bit _, (OnlyParts.modPool (by decide) s _).trans ((State.unpaired_parts _ true).mono (by decide))⟩
    rw [(State.unpaired_parts _ true).2 .pool (by decide)]
    rfl

end Sys2Proof.Machine
end


section
/-! SUPPORT. Whole words stored and read again (R197, R199), the buckets of record codes (R624), the log and the stamps (O55, R619 to R627). -/
namespace Sys2Proof.Machine

/-! ### Bytes of words -/

theorem leNat_lt (l : List Byte) : leNat l < 256 ^ l.length := by
  induction l with
  | nil => exact Nat.one_pos
  | cons b l ih =>
    have hb : b.toNat < 256 := b.isLt
    rw [leNat, List.length_cons, Nat.pow_succ]
    omega

theorem leBytes_leNat (l : List Byte) : leBytes l.length (leNat l) = l := by
  induction l with
  | nil => rfl
  | cons b l ih =>
    have hlow : BitVec.ofNat 8 (leNat (b :: l)) = b := BitVec.eq_of_toNat_eq (by
      rw [BitVec.toNat_ofNat, leNat, Nat.add_mul_mod_self_left, Nat.mod_eq_of_lt b.isLt])
    have hhigh : leNat (b :: l) / 256 = leNat l := by
      rw [leNat, Nat.add_mul_div_left _ _ (by decide), Nat.div_eq_of_lt b.isLt, Nat.zero_add]
    rw [List.length_cons, leBytes, hlow, hhigh, ih]

/-- Word `j` of a byte string: eight bytes. -/
def wordOf (data : List Byte) (j : Nat) : List Byte := (data.drop (8 * j)).take 8

theorem wordOf_length {data : List Byte} {n j : Nat} (hlen : data.length = 8 * n) (hj : j < n) : (wordOf data j).length = 8 := by
  rw [wordOf, List.length_take, List.length_drop]
  omega

/-- A byte string of whole words is its words. -/
theorem flatMap_wordOf {data : List Byte} {n : Nat} (hlen : data.length = 8 * n) : (List.range n).flatMap (wordOf data) = data := by
  induction n generalizing data with
  | zero => exact (List.eq_nil_of_length_eq_zero hlen).symm
  | succ n ih =>
    have hrest : (data.drop 8).length = 8 * n := by rw [List.length_drop]; omega
    have hnext (j : Nat) : wordOf data (j + 1) = wordOf (data.drop 8) j := by
      rw [wordOf, wordOf, List.drop_drop, Nat.mul_succ, Nat.add_comm]
    rw [List.range_succ_eq_map, List.flatMap_cons, List.flatMap_map]
    simp only [hnext]
    rw [ih hrest]
    exact List.take_append_drop 8 data

/-! ### Whole words in MRAM -/

theorem wordSpan_words (k n : Nat) : wordSpan (8 * k) (8 * n) = List.range' k n := by
  cases n with
  | zero => rfl
  | succ n =>
    have hcount : (8 * k + 8 * (n + 1) - 1) / 8 - 8 * k / 8 + 1 = n + 1 := by omega
    rw [wordSpan, if_neg (by omega), hcount, Nat.mul_div_cancel_left _ (by decide)]

/-- A store of whole words covers each of them. -/
theorem wordPart_whole {data : List Byte} {n k j : Nat} (hlen : data.length = 8 * n) (hj : j < n) : wordPart (8 * k) data (k + j) = (0, wordOf data j) := by
  have hlo : Nat.max (8 * k) (8 * (k + j)) = 8 * (k + j) := Nat.max_eq_right (by omega)
  have hhi : Nat.min (8 * k + data.length) (8 * (k + j) + 8) = 8 * (k + j) + 8 := Nat.min_eq_right (by omega)
  have hdrop : 8 * (k + j) - 8 * k = 8 * j := by omega
  simp only [wordPart, hlo, hhi, hdrop, Nat.sub_self, Nat.add_sub_cancel_left, wordOf]

theorem map_range' {β : Type} (k n : Nat) (f : Nat → β) : (List.range' k n).map f = (List.range n).map (fun j => f (k + j)) := by
  rw [List.range'_eq_map_range, List.map_map]
  rfl

/-- The code word of word `j` of a byte string. -/
def wordCode (data : List Byte) (j : Nat) : Code80 := encodeWord (leNat (wordOf data j))

/-- What the code word of eight bytes is read as. -/
theorem decodeWord_wordCode {data : List Byte} {n j : Nat} (hlen : data.length = 8 * n) (hj : j < n) :
    (decodeWord (wordCode data j)).res.bad = false ∧ leBytes 8 (decodeWord (wordCode data j)).data = wordOf data j := by
  have hl := wordOf_length hlen hj
  have hlt : leNat (wordOf data j) < 2 ^ 64 := by
    have h := leNat_lt (wordOf data j)
    rw [hl] at h
    exact Nat.lt_of_lt_of_eq h (by norm_num)
  obtain ⟨hres, hdata⟩ := theWordCode.1 (leNat (wordOf data j)) hlt
  have hback := leBytes_leNat (wordOf data j)
  rw [hl] at hback
  unfold wordCode
  rw [hres, hdata]
  exact ⟨rfl, hback⟩

theorem State.each_congr {α : Type} {f g : State → α → State} (l : List α) (h : ∀ t, ∀ x ∈ l, f t x = g t x) (s : State) : s.each l f = s.each l g := by
  unfold State.each
  exact List.foldl_ext f g s (fun t x hx => h t x hx)

/-- A store of whole words in MRAM puts the code word of each. -/
theorem State.store_words (s : State) {data : List Byte} {n : Nat} (k : Nat) (hlen : data.length = 8 * n) :
    s.store .mram (8 * k) data = s.each (List.range' k n) (fun t i => t.putWord .mram i (wordCode data (i - k))) := by
  rw [State.store, hlen, wordSpan_words]
  refine State.each_congr _ (fun t i hi => ?_) s
  obtain ⟨j, hj, rfl⟩ := List.mem_range'.mp hi
  rw [Nat.one_mul, Nat.add_sub_cancel_left, State.storeWord, wordPart_whole hlen hj, if_pos (wordOf_length hlen hj), wordCode]

theorem State.wordAt_putWord_mram (s : State) (i j : Nat) (c : Code80) :
    (s.putWord .mram i c).wordAt .mram j = if j = i then c else s.wordAt .mram j := SMap.get_set _ _ _ _ _

/-- Words put one after another: what each of them is, and that nothing else changes. -/
theorem State.putWords_mram (s : State) (l : List Nat) (c : Nat → Code80) :
    (∀ j, (s.each l (fun t i => t.putWord .mram i (c i))).wordAt .mram j = if j ∈ l then c j else s.wordAt .mram j) ∧
    (s.each l (fun t i => t.putWord .mram i (c i))).mem.hbm = s.mem.hbm ∧ OnlyParts [.mem] s (s.each l (fun t i => t.putWord .mram i (c i))) := by
  refine ⟨fun j => ?_, State.each_keeps (fun t => t.mem.hbm = s.mem.hbm) _ l s rfl (fun _ ht _ _ => ht), OnlyParts.each s l (fun t i => ?_)⟩
  · unfold State.each
    induction l generalizing s with
    | nil => rfl
    | cons i l ih =>
      rw [List.foldl_cons, ih, State.wordAt_putWord_mram]
      by_cases hl : j ∈ l
      · simp [hl]
      · by_cases hi : j = i <;> simp [hl, hi]
  · refine ⟨rfl, fun p hp => ?_⟩
    cases p with
    | mem => exact absurd (by decide) hp
    | _ => rfl

/-- MRAM read where its words decode without error to the words of a byte string. -/
theorem State.peek_words (s : State) {data : List Byte} {n k : Nat} (hlen : data.length = 8 * n)
    (hclean : ∀ j < n, (decodeWord (s.wordAt .mram (k + j))).res.bad = false)
    (hbytes : ∀ j < n, leBytes 8 (decodeWord (s.wordAt .mram (k + j))).data = wordOf data j) : s.peek .mram (8 * k) data.length = ⟨data, false⟩ := by
  have hread : (wordSpan (8 * k) data.length).map (fun i => decodeWord (s.wordAt .mram i)) =
      (List.range n).map (fun j => decodeWord (s.wordAt .mram (k + j))) := by
    rw [hlen, wordSpan_words, map_range']
  have hdata : ((List.range n).map (fun j => decodeWord (s.wordAt .mram (k + j)))).flatMap (fun x => leBytes 8 x.data) = data := by
    rw [List.flatMap_map]
    exact Eq.trans (List.flatMap_congr (fun j hj => hbytes j (List.mem_range.mp hj))) (flatMap_wordOf hlen)
  have hbad : ((List.range n).map (fun j => decodeWord (s.wordAt .mram (k + j)))).any (fun x => x.res.bad) = false := by
    simpa using hclean
  rw [State.peek]
  simp only [hread]
  rw [hdata, hbad, Nat.mul_mod_right, slice_whole]

/-- Whole words stored in MRAM: they read as stored, and every other word, of MRAM and of HBM, is as it was. -/
theorem State.store_peek_words (s : State) {data : List Byte} {n : Nat} (k : Nat) (hlen : data.length = 8 * n) :
    (s.store .mram (8 * k) data).peek .mram (8 * k) data.length = ⟨data, false⟩ ∧
    (∀ i, i ∉ wordSpan (8 * k) data.length → (s.store .mram (8 * k) data).wordAt .mram i = s.wordAt .mram i) ∧
    (s.store .mram (8 * k) data).mem.hbm = s.mem.hbm ∧ OnlyParts [.mem] s (s.store .mram (8 * k) data) := by
  obtain ⟨hwords, hhbm, hparts⟩ := s.putWords_mram (List.range' k n) (fun i => wordCode data (i - k))
  rw [State.store_words s k hlen]
  have hword (j : Nat) (hj : j < n) :
      (s.each (List.range' k n) (fun t i => t.putWord .mram i (wordCode data (i - k)))).wordAt .mram (k + j) = wordCode data j := by
    rw [hwords, if_pos (List.mem_range'.mpr ⟨j, hj, by omega⟩), Nat.add_sub_cancel_left]
  refine ⟨State.peek_words _ hlen (fun j hj => ?_) (fun j hj => ?_), fun i hi => ?_, hhbm, hparts⟩
  · rw [hword j hj]
    exact (decodeWord_wordCode hlen hj).1
  · rw [hword j hj]
    exact (decodeWord_wordCode hlen hj).2
  · rw [hlen, wordSpan_words] at hi
    rw [hwords, if_neg hi]

/-- The region of Sillage starts at a word; what is put at a word's offset is read again. -/
theorem State.silPut_words (s : State) {off n : Nat} {data : List Byte} (hoff : off % 8 = 0) (hlen : data.length = 8 * n) :
    (s.silPut off data).silGet off data.length = ⟨data, false⟩ ∧
    (∀ i, i ∉ wordSpan (silBase + off) data.length → (s.silPut off data).wordAt .mram i = s.wordAt .mram i) ∧
    (s.silPut off data).mem.hbm = s.mem.hbm ∧ OnlyParts [.mem] s (s.silPut off data) := by
  have haddr : silBase + off = 8 * ((silBase + off) / 8) := by
    have hbase : silBase = 8 * 0x5F00000 := by decide
    omega
  have hstore := s.store_peek_words ((silBase + off) / 8) hlen
  rw [← haddr] at hstore
  exact hstore

/-! ### Buckets (R624) -/

theorem State.bucket_level (s : State) (code : Nat) : (s.bucket code).level ≤ (s.silRate code).2 * tokenUnit := by
  unfold State.bucket
  dsimp only
  split
  · exact Nat.le_refl _
  · exact Nat.min_le_left _ _

theorem State.bucket_lastTick (s : State) (code : Nat) : (s.bucket code).lastTick = s.tick := by
  unfold State.bucket
  dsimp only
  split <;> rfl

/-- A bucket looked at in the tick it was put. -/
theorem State.bucket_putBucket (s : State) (code : Nat) {b : Bucket} (hlevel : b.level ≤ (s.silRate code).2 * tokenUnit) (hlast : b.lastTick = s.tick) :
    (s.putBucket code b).bucket code = b := by
  have hrate : (s.putBucket code b).silRate code = s.silRate code := rfl
  have hget : SMap.get (fun _ => none) (s.putBucket code b).sil.buckets code = some b := by
    rw [State.putBucket, State.modSil, SMap.get_set]
    exact if_pos rfl
  have htick : (s.putBucket code b).tick = s.tick := rfl
  simp only [State.bucket, hrate, hget, htick, hlast, Nat.sub_self, Nat.zero_mul, Nat.add_zero]
  rw [show Nat.min ((s.silRate code).2 * tokenUnit) b.level = b.level from Nat.min_eq_right hlevel, ← hlast]

theorem State.bucket_congr {s t : State} (hb : t.sil.buckets = s.sil.buckets) (htick : t.tick = s.tick) (hacc : t.acc = s.acc) (code : Nat) :
    t.bucket code = s.bucket code := by
  have hac (a b c d : Nat) : t.ac a b c d = s.ac a b c d := by rw [State.ac, hacc, State.ac]
  have hrate : t.silRate code = s.silRate code := by simp only [State.silRate, State.policy, hac]
  simp only [State.bucket, hrate, hb, htick]

theorem State.bucket_bump (s : State) (f : Fld) (code : Nat) : (s.bump f).bucket code = s.bucket code :=
  State.bucket_congr (s := s) (t := s.bump f) rfl rfl rfl code

theorem State.bucket_queued (s : State) (r : SilRec) (code : Nat) : (s.modSil (fun q => { q with queue := q.queue ++ [r] })).bucket code = s.bucket code :=
  State.bucket_congr (s := s) (t := s.modSil (fun q => { q with queue := q.queue ++ [r] })) rfl rfl rfl code

/-! ### Records (R623 to R626) -/

theorem State.enqueueRecord_of_room {s : State} (hroom : s.sil.queue.length < 256) (code : Nat) (fields : List Byte) :
    s.enqueueRecord code fields = s.modSil (fun q => { q with queue := q.queue ++ [⟨code, s.tick, fields⟩] }) := if_pos hroom

theorem State.enqueueRecord_of_full {s : State} (hfull : ¬s.sil.queue.length < 256) (code : Nat) (fields : List Byte) :
    s.enqueueRecord code fields = s.bump SL_LOST.QUEUE := if_neg hfull

/-- A bucket `n` was taken from. -/
def Bucket.taken (b : Bucket) (n : Nat) : Bucket := { b with level := b.level - n }

theorem State.bucket_putBucket_taken (s : State) (code n : Nat) :
    (s.putBucket code ((s.bucket code).taken n)).bucket code = (s.bucket code).taken n :=
  s.bucket_putBucket code (Nat.le_trans (Nat.sub_le _ _) (s.bucket_level code)) (s.bucket_lastTick code)

theorem Bucket.count_taken (b : Bucket) (n : Nat) : (b.taken n).count = b.count := rfl

theorem Bucket.level_taken (b : Bucket) (n : Nat) : (b.taken n).level = b.level - n := rfl

/-- A record of a code with a token takes it (R624); what was suppressed before it is summed up first (R626). -/
theorem State.record_of_level {s : State} {code n : Nat} {b : Bucket} (hcode : silExempt code = false) (hn : tokenUnit = n) (hb : s.bucket code = b)
    (htoken : n ≤ b.level) (fields : List Byte) :
    s.record code fields = ((s.putBucket code (b.taken n)).summary code).enqueueRecord code fields := by
  unfold State.record
  rw [if_neg (by simp [hcode]), hb, hn]
  exact if_pos htoken

theorem State.summary_of_none {s : State} {code : Nat} (hcount : (s.bucket code).count = 0) : s.summary code = s := if_pos hcount

/-- A record with a token and nothing suppressed before it: it takes the token and joins the queue. -/
theorem State.record_of_token {s : State} {code : Nat} (hcode : silExempt code = false) (htoken : tokenUnit ≤ (s.bucket code).level)
    (hcount : (s.bucket code).count = 0) (hroom : s.sil.queue.length < 256) (fields : List Byte) :
    s.record code fields = (s.putBucket code ((s.bucket code).taken tokenUnit)).modSil (fun q => { q with queue := q.queue ++ [⟨code, s.tick, fields⟩] }) := by
  have hnone : ((s.putBucket code ((s.bucket code).taken tokenUnit)).bucket code).count = 0 := by
    rw [State.bucket_putBucket_taken, Bucket.count_taken, hcount]
  rw [State.record_of_level hcode rfl rfl htoken, State.summary_of_none hnone]
  exact State.enqueueRecord_of_room (s := s.putBucket code ((s.bucket code).taken tokenUnit)) hroom code fields

/-- The bucket of a code that has one more record suppressed. -/
def State.suppressed (s : State) (code : Nat) : Bucket :=
  { s.bucket code with
    count := (s.bucket code).count + 1, first := if (s.bucket code).count = 0 then s.fld SL_HOURS.VALUE else (s.bucket code).first, last := s.fld SL_HOURS.VALUE }

theorem State.count_suppressed (s : State) (code : Nat) : (s.suppressed code).count = (s.bucket code).count + 1 := rfl

theorem State.last_suppressed (s : State) (code : Nat) : (s.suppressed code).last = s.fld SL_HOURS.VALUE := rfl

theorem State.level_suppressed (s : State) (code : Nat) : (s.suppressed code).level = (s.bucket code).level := rfl

theorem State.lastTick_suppressed (s : State) (code : Nat) : (s.suppressed code).lastTick = (s.bucket code).lastTick := rfl

theorem State.bucket_putBucket_suppressed (s : State) (code : Nat) : (s.putBucket code (s.suppressed code)).bucket code = s.suppressed code := by
  refine s.bucket_putBucket code ?_ ?_
  · rw [s.level_suppressed]
    exact s.bucket_level code
  · rw [s.lastTick_suppressed]
    exact s.bucket_lastTick code

theorem State.queue_putBucket (s : State) (code : Nat) (b : Bucket) : (s.putBucket code b).sil.queue = s.sil.queue := rfl

theorem State.record_of_no_token {s : State} {code : Nat} (hcode : silExempt code = false) (hnone : (s.bucket code).level < tokenUnit) (fields : List Byte) :
    s.record code fields = (s.putBucket code (s.suppressed code)).bump SL_SUPP.COUNT := by
  unfold State.record
  rw [if_neg (by simp [hcode]), if_neg (Nat.not_le.mpr hnone)]
  rfl

theorem State.record_of_exempt (s : State) {code : Nat} (hcode : silExempt code = true) (fields : List Byte) :
    s.record code fields = s.enqueueRecord code fields := if_pos hcode

/-- What was suppressed is reported, and its count starts again. -/
theorem State.summary_of_count {s : State} {code : Nat} (hcount : 0 < (s.bucket code).count) (hroom : s.sil.queue.length < 256) :
    s.summary code = (s.modSil (fun q => { q with queue := q.queue ++ [⟨0x1602, s.tick,
        leBytes 2 code ++ zeros 2 ++ leBytes 4 (s.bucket code).count ++ leBytes 4 (s.bucket code).first ++ leBytes 4 (s.bucket code).last⟩] })).putBucket code
      { s.bucket code with count := 0 } := by
  rw [State.summary]
  exact (if_neg (Nat.ne_of_gt hcount)).trans (by rw [State.enqueueRecord_of_room hroom])

/-! ### The log (R621 to R627) -/

theorem withCrc_length (b : List Byte) : (withCrc b).length = b.length + 4 := by simp [withCrc]

theorem length_slice (l : List Byte) (off n : Nat) : (slice l off n).length = n := by
  simp only [slice, List.length_append, List.length_replicate, List.length_take, List.length_drop]
  omega

theorem recordLen_ge (fields : List Byte) : 24 ≤ recordLen fields := by rw [recordLen]; omega

/-- A record is as long as its LEN says, whole words. -/
theorem State.recordBytes_length (s : State) (code tick : Nat) (fields : List Byte) : (s.recordBytes code tick fields).length = recordLen fields := by
  have hge := recordLen_ge fields
  rw [State.recordBytes, withCrc_length, length_slice]
  omega

theorem recordLen_words (fields : List Byte) : recordLen fields = 8 * (recordLen fields / 8) := by rw [recordLen]; omega

/-- SL_NEXT set to an offset of the log or to its end. -/
theorem State.logPos_setNext (s : State) {p : Nat} (h0 : 0 < p) (hend : p ≤ logEnd) : (s.setFld SL_NEXT.OFFSET p).logPos = p := by
  have hfld : (s.setFld SL_NEXT.OFFSET p).fld SL_NEXT.OFFSET = p % 2 ^ 23 := State.fld_setFld_same s _ _ (by decide)
  rw [State.logPos, hfld]
  have hlog : logEnd = 2 ^ 23 := by decide
  by_cases hp : p = logEnd
  · rw [hp, hlog]
    rfl
  · rw [Nat.mod_eq_of_lt (by omega), if_neg (by omega)]

/-- The oldest record taken from the queue, which keeps `l`. -/
def State.unqueued (s : State) (l : List SilRec) : State := s.modSil (fun x => { x with queue := l })

/-- A full log counts the record as lost. -/
theorem State.logAppend_of_full {s : State} (hfull : s.bit SL_STAT.FULL = true) (code tick : Nat) (fields : List Byte) :
    s.logAppend code tick fields = s.bump SL_LOST.FULL := if_pos hfull

/-- A record that fits goes to the end of the log. -/
theorem State.logAppend_of_room {s : State} (hfull : s.bit SL_STAT.FULL = false) (code tick : Nat) {fields : List Byte}
    (hroom : s.logPos + recordLen fields + 32 ≤ logEnd) :
    s.logAppend code tick fields = (s.silPut s.logPos (s.recordBytes code tick fields)).setFld SL_NEXT.OFFSET (s.logPos + recordLen fields) := by
  unfold State.logAppend
  rw [if_neg (by simp [hfull])]
  simp only [State.recordBytes_length, if_pos hroom]

/-- The first that does not fit leaves a log-full record in the last 32 bytes. -/
theorem State.logAppend_of_no_room {s : State} (hfull : s.bit SL_STAT.FULL = false) (code tick : Nat) {fields : List Byte}
    (hroom : logEnd < s.logPos + recordLen fields + 32) (hlast : s.logPos + 32 ≤ logEnd) :
    s.logAppend code tick fields = (((s.silPut s.logPos (s.recordBytes 0x1604 s.tick (leBytes 2 code ++ zeros 2))).setFld SL_NEXT.OFFSET (s.logPos + 32)).setBit
      SL_STAT.FULL).bump SL_LOST.FULL := by
  have hlen : recordLen (leBytes 2 code ++ zeros 2) = 32 := by simp [recordLen, zeros]
  unfold State.logAppend
  rw [if_neg (by simp [hfull])]
  simp only [State.recordBytes_length, if_neg (Nat.not_le.mpr hroom), if_neg (Nat.not_lt.mpr hlast), hlen]

/-- The oldest queued record is appended once MRAM admits lines. -/
theorem State.silAppend_of_queued {s : State} {r : SilRec} {l : List SilRec} (hqueue : s.sil.queue = r :: l) (hadmits : s.mramAdmits = true) :
    s.silAppend = (s.unqueued l).logAppend r.code r.tick r.fields := by
  simp [State.silAppend, State.unqueued, hqueue, hadmits]

theorem stampBytes_length (seq hours pcyc unsf : Nat) (down : Bool) : (stampBytes seq hours pcyc unsf down).length = 64 := by
  rw [stampBytes, withCrc_length]
  simp [zeros]

/-- A record put at the end of the log: the offset moves on, its bytes are read again, and nothing else of MRAM changes. -/
theorem State.silAppend_appends {s : State} {r : SilRec} {l : List SilRec} (hqueue : s.sil.queue = r :: l) (hadmits : s.mramAdmits = true)
    (hfull : s.bit SL_STAT.FULL = false) (hroom : s.logPos + recordLen r.fields + 32 ≤ logEnd) (hpos : s.logPos % 8 = 0) :
    s.silAppend.sil.queue = l ∧ s.silAppend.logPos = s.logPos + recordLen r.fields ∧
    s.silAppend.silGet s.logPos (recordLen r.fields) = ⟨s.recordBytes r.code r.tick r.fields, false⟩ ∧
    (∀ i : Nat, i ∉ wordSpan (silBase + s.logPos) (recordLen r.fields) → s.silAppend.wordAt .mram i = s.wordAt .mram i) ∧
    s.silAppend.sil.buckets = s.sil.buckets ∧ s.silAppend.mem.hbm = s.mem.hbm ∧ OnlyParts [.regs, .tickMem, .sil, .mem] s s.silAppend ∧
    OnlyRegs [SL_NEXT.OFFSET.addr] s s.silAppend := by
  have happend : s.silAppend = ((s.unqueued l).silPut s.logPos (s.recordBytes r.code r.tick r.fields)).setFld SL_NEXT.OFFSET
      (s.logPos + recordLen r.fields) :=
    (State.silAppend_of_queued hqueue hadmits).trans (State.logAppend_of_room (s := s.unqueued l) hfull r.code r.tick hroom)
  have hlen := s.recordBytes_length r.code r.tick r.fields
  rw [happend]
  generalize s.recordBytes r.code r.tick r.fields = b at hlen ⊢
  obtain ⟨hread, hwords, hhbm, hparts⟩ := (s.unqueued l).silPut_words hpos (hlen.trans (recordLen_words r.fields))
  rw [hlen] at hread hwords
  have hsil : ((s.unqueued l).silPut s.logPos b).sil = (s.unqueued l).sil := hparts.2 .sil (by decide)
  have hregs : ((s.unqueued l).silPut s.logPos b).regs = s.regs := hparts.2 .regs (by decide)
  generalize (s.unqueued l).silPut s.logPos b = u at hread hwords hhbm hparts hsil hregs ⊢
  refine ⟨congrArg SilSt.queue hsil, ?_, hread, hwords, ?_, hhbm, ?_, ?_⟩
  · exact u.logPos_setNext (Nat.lt_of_lt_of_le (by decide) (Nat.le_trans (recordLen_ge r.fields) (Nat.le_add_left _ _))) (by omega)
  · exact (congrArg SilSt.buckets hsil :)
  · exact (OnlyParts.modSil (by decide) s _).trans ((hparts.mono (by decide)).trans (.setFld (by decide) _ _ _))
  · exact (OnlyRegs.of_regs hregs).trans (.setFld _ _ _ (by decide))

theorem State.fld_bump_addr (s : State) {f g : Fld} (h : f.addr ≠ g.addr) : (s.bump f).fld g = s.fld g := State.fld_setFld_addr s f g _ h

theorem State.fld_setBit_addr (s : State) {f g : Fld} (h : f.addr ≠ g.addr) : (s.setBit f).fld g = s.fld g := State.fld_setFld_addr s f g 1 h

theorem State.unqueued_logPos (s : State) (l : List SilRec) : (s.unqueued l).logPos = s.logPos := rfl

theorem State.unqueued_tick (s : State) (l : List SilRec) : (s.unqueued l).tick = s.tick := rfl

/-- A full log loses the record, and counts it. -/
theorem State.silAppend_loses {s : State} {r : SilRec} {l : List SilRec} (hqueue : s.sil.queue = r :: l) (hadmits : s.mramAdmits = true)
    (hfull : s.bit SL_STAT.FULL = true) :
    s.silAppend.sil.queue = l ∧ s.silAppend.fld SL_LOST.FULL = Nat.min (s.fld SL_LOST.FULL + 1) 65535 ∧ OnlyParts [.regs, .tickMem, .sil] s s.silAppend ∧
    OnlyRegs [SL_LOST.FULL.addr] s s.silAppend := by
  have hlost : (s.unqueued l).logAppend r.code r.tick r.fields = (s.unqueued l).bump SL_LOST.FULL :=
    State.logAppend_of_full (s := s.unqueued l) hfull _ _ _
  have hcount : ((s.unqueued l).bump SL_LOST.FULL).fld SL_LOST.FULL = Nat.min (s.fld SL_LOST.FULL + 1) 65535 := State.fld_bump_same (s.unqueued l) _ (by decide)
  have hqueued : ((s.unqueued l).bump SL_LOST.FULL).sil.queue = l := rfl
  rw [State.silAppend_of_queued hqueue hadmits, hlost]
  refine ⟨hqueued, hcount, ?_, ?_⟩
  · exact (OnlyParts.modSil (by decide) s _).trans (.bump (by decide) (by decide) _ _)
  · exact (OnlyRegs.of_regs (t := s.unqueued l) rfl).trans (.bump _ _ (by decide))

/-- What the first record that does not fit leaves: the queue `l` and a full log with the log-full record in it (R627). -/
def State.LogFilled (s : State) (l : List SilRec) (t : State) : Prop :=
  t.sil.queue = l ∧ t.bit SL_STAT.FULL = true ∧ t.fld SL_LOST.FULL = Nat.min (s.fld SL_LOST.FULL + 1) 65535 ∧ t.logPos = s.logPos + 32

/-- The first record that does not fit leaves the log full. -/
theorem State.silAppend_fills {s : State} {r : SilRec} {l : List SilRec} (hqueue : s.sil.queue = r :: l) (hadmits : s.mramAdmits = true)
    (hfull : s.bit SL_STAT.FULL = false) (hroom : logEnd < s.logPos + recordLen r.fields + 32) (hlast : s.logPos + 32 ≤ logEnd) (hpos : s.logPos % 8 = 0) :
    s.LogFilled l s.silAppend := by
  have happend := (State.silAppend_of_queued hqueue hadmits).trans
    (State.logAppend_of_no_room (s := s.unqueued l) hfull r.code r.tick hroom hlast)
  rw [State.unqueued_logPos, State.unqueued_tick] at happend
  have hlen : ((s.unqueued l).recordBytes 0x1604 s.tick (leBytes 2 r.code ++ zeros 2)).length = 8 * 4 :=
    ((s.unqueued l).recordBytes_length _ _ _).trans (by simp [recordLen, zeros])
  rw [happend]
  generalize (s.unqueued l).recordBytes 0x1604 s.tick (leBytes 2 r.code ++ zeros 2) = b at hlen ⊢
  obtain ⟨-, -, -, hparts⟩ := (s.unqueued l).silPut_words (off := s.logPos) (n := 4) hpos hlen
  have hsil : ((s.unqueued l).silPut s.logPos b).sil = (s.unqueued l).sil := hparts.2 .sil (by decide)
  have hregs : ((s.unqueued l).silPut s.logPos b).regs = s.regs := hparts.2 .regs (by decide)
  generalize (s.unqueued l).silPut s.logPos b = u at hsil hregs ⊢
  have hfld : u.fld = s.fld := State.fld_congr hregs
  refine ⟨congrArg SilSt.queue hsil, ?_, ?_, ?_⟩
  · rw [State.bit, State.fld_bump_addr _ (by decide)]
    exact State.bit_setBit_same _ _ rfl
  · rw [State.fld_bump_same _ _ (by decide), State.fld_setBit_addr _ (by decide), State.fld_setFld_addr _ _ _ _ (by decide), hfld]
    rfl
  · rw [State.logPos, State.fld_bump_addr _ (by decide), State.fld_setBit_addr _ (by decide)]
    exact u.logPos_setNext (Nat.succ_pos _) hlast

/-- A stamp: the hours count on and the next slot holds them. -/
theorem State.stampTick_writes {s : State} (hhib : s.power.hibernate = false) (hadmits : s.mramAdmits = true) (hhours : s.fld SL_HOURS.VALUE < 2 ^ 32 - 1) :
    s.stampTick.fld SL_HOURS.VALUE = s.fld SL_HOURS.VALUE + 1 ∧ s.stampTick.sil.stampSeq = s.sil.stampSeq + 1 ∧
    s.stampTick.silGet (64 * ((s.sil.stampSeq + 1) % 64)) 64 =
      ⟨stampBytes (s.sil.stampSeq + 1) (s.fld SL_HOURS.VALUE + 1) (s.fld SL_PCYC.VALUE) (s.fld SL_UNSAFE.VALUE) false, false⟩ ∧
    (∀ i : Nat, i ∉ wordSpan (silBase + 64 * ((s.sil.stampSeq + 1) % 64)) 64 → s.stampTick.wordAt .mram i = s.wordAt .mram i) ∧
    s.stampTick.mem.hbm = s.mem.hbm ∧ s.stampTick.sil.queue = s.sil.queue ∧ OnlyParts [.regs, .tickMem, .sil, .mem] s s.stampTick ∧
    OnlyRegs [SL_HOURS.VALUE.addr] s s.stampTick := by
  have hshown : (s.setFld SL_HOURS.VALUE (s.fld SL_HOURS.VALUE + 1)).fld SL_HOURS.VALUE = s.fld SL_HOURS.VALUE + 1 :=
    (State.fld_setFld_same s _ _ (by decide)).trans (Nat.mod_eq_of_lt (b := 2 ^ 32) (by omega))
  have hother (g : Fld) (hg : SL_HOURS.VALUE.addr ≠ g.addr) : (s.setFld SL_HOURS.VALUE (s.fld SL_HOURS.VALUE + 1)).fld g = s.fld g :=
    State.fld_setFld_addr s _ _ _ hg
  have hopen : (s.setFld SL_HOURS.VALUE (s.fld SL_HOURS.VALUE + 1)).mramAdmits = true := by
    rw [State.mramAdmits, State.bit, hother _ (by decide)]
    exact hadmits
  have hstamp : s.stampTick = ((s.setFld SL_HOURS.VALUE (s.fld SL_HOURS.VALUE + 1)).silPut (64 * ((s.sil.stampSeq + 1) % 64))
      (stampBytes (s.sil.stampSeq + 1) (s.fld SL_HOURS.VALUE + 1) (s.fld SL_PCYC.VALUE) (s.fld SL_UNSAFE.VALUE) false)).modSil
      (fun x => { x with stampSeq := s.sil.stampSeq + 1 }) := by
    rw [State.stampTick, if_neg (by simp [hhib]), State.writeStamp, if_neg (by simp [hopen])]
    simp only [hshown, hother SL_PCYC.VALUE (by decide), hother SL_UNSAFE.VALUE (by decide)]
    rfl
  have hlen := stampBytes_length (s.sil.stampSeq + 1) (s.fld SL_HOURS.VALUE + 1) (s.fld SL_PCYC.VALUE) (s.fld SL_UNSAFE.VALUE) false
  rw [hstamp]
  generalize stampBytes (s.sil.stampSeq + 1) (s.fld SL_HOURS.VALUE + 1) (s.fld SL_PCYC.VALUE) (s.fld SL_UNSAFE.VALUE) false = b at hlen ⊢
  obtain ⟨hread, hwords, hhbm, hparts⟩ := (s.setFld SL_HOURS.VALUE (s.fld SL_HOURS.VALUE + 1)).silPut_words
    (off := 64 * ((s.sil.stampSeq + 1) % 64)) (n := 8) (data := b) (by omega) hlen
  rw [hlen] at hread hwords
  have hsil : ((s.setFld SL_HOURS.VALUE (s.fld SL_HOURS.VALUE + 1)).silPut (64 * ((s.sil.stampSeq + 1) % 64)) b).sil = s.sil := hparts.2 .sil (by decide)
  have hregs : ((s.setFld SL_HOURS.VALUE (s.fld SL_HOURS.VALUE + 1)).silPut (64 * ((s.sil.stampSeq + 1) % 64)) b).regs =
    (s.setFld SL_HOURS.VALUE (s.fld SL_HOURS.VALUE + 1)).regs := hparts.2 .regs (by decide)
  generalize (s.setFld SL_HOURS.VALUE (s.fld SL_HOURS.VALUE + 1)).silPut (64 * ((s.sil.stampSeq + 1) % 64)) b = u at hread hwords hhbm hparts hsil hregs ⊢
  refine ⟨(congrFun (State.fld_congr hregs) _).trans hshown, rfl, hread, hwords, hhbm, ?_, ?_, ?_⟩
  · exact (congrArg SilSt.queue hsil :)
  · exact (OnlyParts.setFld (by decide) s _ _).trans ((hparts.mono (by decide)).trans (.modSil (by decide) _ _))
  · exact (OnlyRegs.setFld s _ _ (by decide)).trans (.of_regs hregs)

theorem State.silAppend_waits {s : State} (hno : s.mramAdmits = false ∨ s.sil.queue = []) : s.silAppend = s := by
  unfold State.silAppend
  split
  next => rfl
  next r l hqueue =>
    rcases hno with hno | hno
    · rw [if_pos (by simp [hno])]
    · exact absurd (hno.symm.trans hqueue) (by simp)

/-- Settles O55. The room for the log-full record is what R627 keeps free; SL_NEXT shows the end of the region as 0 (assumption 20). -/
theorem theLogAndTheGauges : Obligations.the_log_and_the_gauges := by
  refine ⟨?appended, ?token, ?suppressed, ?exempt, ?full, ?filled, ?waits, ?stamp, ?summary, ?nothing, ?gauge⟩
  case appended =>
    intro s r l hlive hqueue hadmits _ hfull hroom hpos
    obtain ⟨hleft, hnext, hread, hframe⟩ := State.silAppend_appends hqueue hadmits hfull hroom hpos
    exact ⟨_, next_whileLive_of_live hlive _, hleft, hnext, congrArg ReadBytes.data hread, congrArg ReadBytes.bad hread, hframe⟩
  case token =>
    intro s code f hcode htoken hcount hroom
    rw [State.record_of_token hcode htoken hcount hroom f]
    refine ⟨rfl, ?_, (OnlyParts.modSil (by decide) s _).trans (.modSil (by decide) _ _)⟩
    rw [State.bucket_queued, State.bucket_putBucket_taken, Bucket.level_taken]
  case suppressed =>
    intro s code f hcode hnone
    rw [State.record_of_no_token hcode hnone]
    rw [State.bucket_bump, State.bucket_putBucket_suppressed]
    refine ⟨State.queue_putBucket s code _, State.fld_bump_same (s.putBucket code (s.suppressed code)) SL_SUPP.COUNT (by decide), s.count_suppressed code,
      s.last_suppressed code, ?_, ?_⟩
    · exact (OnlyParts.modSil (by decide) s _).trans (.bump (by decide) (by decide) _ _)
    · exact (OnlyRegs.of_regs (t := s.putBucket code (s.suppressed code)) rfl).trans (.bump _ _ (by decide))
  case exempt =>
    intro s code f hcode hqueue
    rw [State.record_of_exempt s hcode]
    by_cases hfull : s.sil.queue.length = 256
    · rw [State.enqueueRecord_of_full (by omega), if_pos hfull, if_pos hfull]
      exact ⟨rfl, State.fld_bump_same s _ (by decide)⟩
    · rw [State.enqueueRecord_of_room (by omega), if_neg hfull, if_neg hfull]
      exact ⟨rfl, rfl⟩
  case full =>
    intro s r l hlive hqueue hadmits hfull
    exact ⟨_, next_whileLive_of_live hlive _, State.silAppend_loses hqueue hadmits hfull⟩
  case filled =>
    intro s r l hlive hqueue hadmits hfull hroom hlast hpos
    rw [State.recordBytes_length] at hroom
    exact ⟨_, next_whileLive_of_live hlive _, State.silAppend_fills hqueue hadmits hfull hroom hlast hpos⟩
  case waits =>
    intro s hlive hno
    exact (next_whileLive_of_live hlive _).trans (congrArg _ (State.silAppend_waits hno))
  case stamp =>
    intro s hlive hhib hadmits hhours
    obtain ⟨hshown, hseq, hread, hframe⟩ := State.stampTick_writes hhib hadmits hhours
    exact ⟨_, next_whileLive_of_live hlive _, hshown, hseq, congrArg ReadBytes.data hread, hframe⟩
  case summary =>
    intro s code hlive hcount hroom
    have hbucket := (s.modSil (fun q => { q with queue := q.queue ++ [⟨0x1602, s.tick,
        leBytes 2 code ++ zeros 2 ++ leBytes 4 (s.bucket code).count ++ leBytes 4 (s.bucket code).first ++ leBytes 4 (s.bucket code).last⟩] })).bucket_putBucket
      code (b := { s.bucket code with count := 0 }) (s.bucket_level code) (s.bucket_lastTick code)
    exact ⟨_, (next_whileLive_of_live hlive _).trans (congrArg _ (State.summary_of_count hcount hroom)), congrArg Bucket.count hbucket, rfl,
      (OnlyParts.modSil (by decide) s _).trans (.modSil (by decide) _ _)⟩
  case nothing =>
    intro s code hlive hcount
    have hstay : s.summary code = s := if_pos hcount
    exact (next_whileLive_of_live hlive _).trans (congrArg _ hstay)
  case gauge =>
    intro s g hlive hg harmed hdur
    have hover : s.gaugeOver g = s.clrBit (GA_CTL.ARMED g) := by
      unfold State.gaugeOver
      rw [if_neg (by simp [harmed, hdur, Nat.not_le.mpr hg])]
      rfl
    have hclear : (s.clrBit (GA_CTL.ARMED g)).fld (GA_CTL.ARMED g) = 0 := (State.fld_setFld_same s _ _ rfl).trans (Nat.zero_mod _)
    refine ⟨_, (next_whileLive_of_live hlive _).trans (congrArg _ hover), ?_, ?_, ?_, .setFld (by decide) s _ _, .setFld s _ _ (by simp)⟩
    · rw [State.bit, hclear]
      rfl
    · exact State.fld_setFld_other s _ _ _ rfl rfl (by simp [Fld.apart, GA_CTL.ARMED, GA_CTL.SRC])
    · exact State.fld_setFld_other s _ _ _ rfl rfl (by simp [Fld.apart, GA_CTL.ARMED, GA_CTL.INST])

end Sys2Proof.Machine
end


section
/-! SUPPORT. The enclosure bus: what waits to be sent, tokens and epochs (R590, R591, R600, R601, R604), and the elections (O53). -/
namespace Sys2Proof.Machine

/-! ### Frames -/

theorem OnlyParts.modEb {ps : List Part} (hps : Part.eb ∈ ps) (s : State) (f : EbSt → EbSt) : OnlyParts ps s (s.modEb f) := by
  refine ⟨rfl, fun p hp => ?_⟩
  cases p with
  | eb => exact absurd hps hp
  | _ => rfl

theorem OnlyRegs.modEb (as : List Nat) (s : State) (f : EbSt → EbSt) : OnlyRegs as s (s.modEb f) := .of_regs rfl

theorem State.fld_modEb (s : State) (f : EbSt → EbSt) (g : Fld) : (s.modEb f).fld g = s.fld g := congrFun (State.fld_congr rfl) g

theorem OnlyParts.enclCfg_eq {ps : List Part} {s t : State} (h : OnlyParts ps s t) (hps : Part.acc ∉ ps) : t.enclCfg = s.enclCfg := by
  have hacc : t.acc = s.acc := h.2 .acc hps
  funext off n
  rw [State.enclCfg, State.ac, hacc, State.enclCfg, State.ac]

theorem OnlyParts.fld_eq {ps : List Part} {s t : State} (h : OnlyParts ps s t) (hps : Part.regs ∉ ps) : t.fld = s.fld :=
  State.fld_congr (h.2 .regs hps)

theorem OnlyParts.isServing_eq {ps : List Part} {s t : State} (h : OnlyParts ps s t) (hps : Part.doms ∉ ps) (d : Dom) : t.isServing d = s.isServing d := by
  have hdoms : t.doms = s.doms := h.2 .doms hps
  rw [State.isServing, State.dom.eq_def, hdoms]
  rfl

theorem State.isMaster_of_fld {s t : State} (h : t.fld = s.fld) : t.isMaster = s.isMaster := by
  rw [State.isMaster, h, State.isMaster]

/-- The unit beside what is queued for the buffer and the PHY's copy: what sending leaves alone. -/
def EbSt.unsent (e : EbSt) : EbSt := { e with tx := [], buf := none, health := [], phyId := (0, 0, 0) }

/-! ### Loading and sending (R590, R591) -/

theorem mem_of_ebNext {l : List EbFrame} {f : EbFrame} (h : ebNext l = some f) : f ∈ l := by
  induction l generalizing f with
  | nil => exact absurd h (by simp [ebNext])
  | cons g l ih =>
    rw [ebNext] at h
    split at h
    next k hk =>
      split at h
      · rw [← Option.some.inj h]
        exact List.mem_cons_of_mem _ (ih hk)
      · rw [← Option.some.inj h]
        exact List.mem_cons_self
    next =>
      rw [← Option.some.inj h]
      exact List.mem_cons_self

/-- The cases of a load: nothing, a HEALTH that stands for all that wait, or another frame. -/
theorem State.ebLoad_cases (s : State) :
    s.ebLoad = s ∨ (∃ d body, s.eb.buf = none ∧ s.ebLoad = s.modEb (fun e => { e with
      tx := e.tx.filter (fun x => x.type != ebHealth), buf := some ⟨⟨ebHealth, d, body⟩, s.enclTime, 0⟩, health := body, phyId := s.ebId })) ∨
    ∃ f ∈ s.eb.tx, s.eb.buf = none ∧ s.ebLoad = s.modEb (fun e => { e with tx := e.tx.erase f, buf := some ⟨f, s.enclTime, 0⟩ }) := by
  unfold State.ebLoad
  split
  · exact .inl rfl
  next hready =>
    have hempty : s.eb.buf = none := by
      cases hbuf : s.eb.buf with
      | none => rfl
      | some l => exact absurd (by simp [hbuf]) hready
    split
    · exact .inl rfl
    next f hf =>
      split
      · exact .inr (.inl ⟨_, _, hempty, rfl⟩)
      · exact .inr (.inr ⟨f, mem_of_ebNext hf, hempty, rfl⟩)

theorem State.ebLoad_parts (s : State) : OnlyParts [.eb] s s.ebLoad := by
  obtain h | ⟨d, b, -, h⟩ | ⟨f, -, -, h⟩ := s.ebLoad_cases <;> rw [h]
  · exact .refl _ s
  · exact .modEb (by decide) s _
  · exact .modEb (by decide) s _

theorem State.ebLoad_unsent (s : State) : s.ebLoad.eb.unsent = s.eb.unsent := by
  obtain h | ⟨d, b, -, h⟩ | ⟨f, -, -, h⟩ := s.ebLoad_cases <;> rw [h] <;> rfl

/-- A frame other than a HEALTH that waits still waits or is loaded. -/
theorem State.mem_ebWaits_ebLoad {s : State} {f : EbFrame} (hf : f ∈ s.ebWaits) (htype : f.type ≠ ebHealth) : f ∈ s.ebLoad.ebWaits := by
  obtain h | ⟨d, b, hnone, h⟩ | ⟨g, -, hnone, h⟩ := s.ebLoad_cases <;> rw [h]
  · exact hf
  · have hwaits : f ∈ s.eb.tx := by simpa [State.ebWaits, hnone] using hf
    exact List.mem_append_right _ (List.mem_filter.mpr ⟨hwaits, by simp [htype]⟩)
  · have hwaits : f ∈ s.eb.tx := by simpa [State.ebWaits, hnone] using hf
    by_cases hfg : f = g
    · exact List.mem_append_left _ (by simp [State.modEb, hfg])
    · exact List.mem_append_right _ ((List.mem_erase_of_ne hfg).mpr hwaits)

theorem State.ebLoad_of_loaded {s : State} (h : s.eb.buf ≠ none) : s.ebLoad = s := by
  unfold State.ebLoad
  exact if_pos (by simp [Option.isSome_iff_ne_none.mpr h])

theorem State.ebSend_of_serving {s : State} (h : s.isServing .DE = true) (type : Nat) (dst : Option (Nat × Nat)) (body : List Byte) :
    s.ebSend type dst body = (s.modEb (fun e => { e with tx := e.tx ++ [⟨type, dst, body⟩] })).ebLoad := if_neg (by simp [h])

theorem State.ebSend_of_out {s : State} (h : s.isServing .DE = false) (type : Nat) (dst : Option (Nat × Nat)) (body : List Byte) :
    s.ebSend type dst body = s := if_pos (by simp [h])

theorem State.ebSend_parts (s : State) (type : Nat) (dst : Option (Nat × Nat)) (body : List Byte) : OnlyParts [.eb] s (s.ebSend type dst body) := by
  cases h : s.isServing .DE
  · rw [State.ebSend_of_out h]
    exact .refl _ s
  · rw [State.ebSend_of_serving h]
    exact (OnlyParts.modEb (by decide) s _).trans (State.ebLoad_parts _)

theorem State.ebSend_unsent (s : State) (type : Nat) (dst : Option (Nat × Nat)) (body : List Byte) : (s.ebSend type dst body).eb.unsent = s.eb.unsent := by
  cases h : s.isServing .DE
  · rw [State.ebSend_of_out h]
  · rw [State.ebSend_of_serving h, State.ebLoad_unsent]
    rfl

/-- What is sent waits or is loaded, and so does what waited; a HEALTH is formed anew. -/
theorem State.mem_ebWaits_ebSend {s : State} (h : s.isServing .DE = true) {f : EbFrame} (htype : f.type ≠ ebHealth) {type : Nat} {dst : Option (Nat × Nat)}
    {body : List Byte} (hf : f ∈ s.ebWaits ∨ f = ⟨type, dst, body⟩) : f ∈ (s.ebSend type dst body).ebWaits := by
  rw [State.ebSend_of_serving h]
  refine State.mem_ebWaits_ebLoad ?_ htype
  have hwaits : (s.modEb (fun e => { e with tx := e.tx ++ [⟨type, dst, body⟩] })).ebWaits = s.ebWaits ++ [⟨type, dst, body⟩] :=
    (List.append_assoc _ _ _).symm
  rw [hwaits, List.mem_append, List.mem_singleton]
  exact hf

theorem State.ebWaits_congr {s t : State} (h : t.eb = s.eb) : t.ebWaits = s.ebWaits := by rw [State.ebWaits, h, State.ebWaits]

/-! ### Frames received (R594) -/

theorem State.ebRecv_own {s : State} {h : EbHdr} (hserve : s.isServing .DE = true) (hencl : h.enclid = s.enclId) (f : State → State) :
    s.ebRecv h f = f (s.bump EB_RX.RCVD) := by
  rw [State.ebRecv, if_neg (by simp [hserve]), if_neg (by simp [hencl])]

theorem State.ebRecv_foreign {s : State} {h : EbHdr} (hserve : s.isServing .DE = true) (hencl : h.enclid ≠ s.enclId) (f : State → State) :
    s.ebRecv h f = s.bump EB_RX.FOREIGN := by
  rw [State.ebRecv, if_neg (by simp [hserve]), if_pos (by simp [hencl])]

theorem State.ebRecv_out {s : State} (h : EbHdr) (hserve : s.isServing .DE = false) (f : State → State) : s.ebRecv h f = s :=
  if_pos (by simp [hserve])

theorem State.when_true {s : State} {b : Bool} (hb : b = true) (f : State → State) : s.when b f = f s := if_pos hb

theorem State.when_false {s : State} {b : Bool} (hb : b = false) (f : State → State) : s.when b f = s := if_neg (by simp [hb])

/-- A frame of the enclosure has been counted (R594): the state in which it is acted on. -/
structure State.Heard (s t : State) : Prop where
  count : t.fld EB_RX.RCVD = Nat.min (s.fld EB_RX.RCVD + 1) 65535
  parts : OnlyParts [.regs, .tickMem] s t
  regs : OnlyRegs [EB_RX.REG.addr] s t

theorem State.heard_bump (s : State) : s.Heard (s.bump EB_RX.RCVD) :=
  ⟨State.fld_bump_same s _ (by decide), .bump (by decide) (by decide) s _, .bump s _ (by decide)⟩

section
variable {s t : State} (ht : s.Heard t)
include ht

theorem State.Heard.eb : t.eb = s.eb := ht.parts.2 .eb (by decide)

theorem State.Heard.tick : t.tick = s.tick := ht.parts.2 .tick (by decide)

theorem State.Heard.fld {g : Fld} (h : g.addr ∉ [EB_RX.REG.addr]) : t.fld g = s.fld g := State.fld_of_onlyRegs ht.regs h

theorem State.Heard.isMaster : t.isMaster = s.isMaster := by rw [State.isMaster, ht.fld (by decide), State.isMaster]

theorem State.Heard.isServing (d : Dom) : t.isServing d = s.isServing d := ht.parts.isServing_eq (by decide) d

theorem State.Heard.enclCfg : t.enclCfg = s.enclCfg := ht.parts.enclCfg_eq (by decide)

theorem State.Heard.plcaNode : t.plcaNode = s.plcaNode := by rw [State.plcaNode, ht.enclCfg, State.plcaNode]

theorem State.Heard.bay : t.bay = s.bay := by rw [State.bay, ht.enclCfg, State.bay]

theorem State.Heard.spinTok : t.spinTok = s.spinTok := by rw [State.spinTok, ht.enclCfg, State.spinTok]

end

/-- A frame of this enclosure is acted on once it is counted. -/
theorem State.ebRecv_heard {s : State} {h : EbHdr} (hserve : s.isServing .DE = true) (hencl : h.enclid = s.enclId) :
    ∃ t, s.Heard t ∧ ∀ f : State → State, s.ebRecv h f = f t :=
  ⟨_, s.heard_bump, State.ebRecv_own hserve hencl⟩

/-! ### Tokens (R600) -/

theorem State.tokSync_eb (s : State) : s.tokSync.eb = s.eb := by
  unfold State.tokSync
  split <;> rfl

theorem State.tokSync_parts (s : State) : OnlyParts [.regs] s s.tokSync := by
  unfold State.tokSync
  split <;> exact ((OnlyParts.setFld (by decide) s _ _).trans (.setFld (by decide) _ _ _)).trans (.setFld (by decide) _ _ _)

theorem State.tokSync_regs (s : State) : OnlyRegs [EB_TOKEN.REG.addr] s s.tokSync := by
  unfold State.tokSync
  split <;> exact ((OnlyRegs.setFld s _ _ (by decide)).trans (.setFld _ _ _ (by decide))).trans (.setFld _ _ _ (by decide))

theorem State.fld_tokSync (s : State) {g : Fld} (h : g.addr ∉ [EB_TOKEN.REG.addr]) : s.tokSync.fld g = s.fld g := State.fld_of_onlyRegs s.tokSync_regs h

theorem State.isMaster_tokSync (s : State) : s.tokSync.isMaster = s.isMaster := by
  rw [State.isMaster, s.fld_tokSync (by decide), State.isMaster]

/-- The master shows what it holds. -/
theorem State.tokSync_master {s : State} (h : s.isMaster = true) :
    s.tokSync.fld EB_TOKEN.FREE = (s.spinTok - s.eb.holders.length) % 256 ∧ s.tokSync.fld EB_TOKEN.TAKEN = s.eb.holders.length % 256 ∧
    s.tokSync.fld EB_TOKEN.QUEUE = s.eb.queue.length % 256 := by
  have hsync : s.tokSync = ((s.setFld EB_TOKEN.FREE (s.spinTok - s.eb.holders.length)).setFld EB_TOKEN.TAKEN s.eb.holders.length).setFld EB_TOKEN.QUEUE s.eb.queue.length :=
    if_pos h
  rw [hsync]
  refine ⟨?_, ?_, State.fld_setFld_same _ _ _ (by decide)⟩
  · rw [State.fld_setFld_other _ _ _ _ (by decide) (by decide) (by decide), State.fld_setFld_other _ _ _ _ (by decide) (by decide) (by decide)]
    exact State.fld_setFld_same _ _ _ (by decide)
  · rw [State.fld_setFld_other _ _ _ _ (by decide) (by decide) (by decide)]
    exact State.fld_setFld_same _ _ _ (by decide)

/-- Nothing is granted: the master only shows what it holds. -/
theorem State.grantPump_idle {s : State} (n : Nat) (h : s.eb.queue = [] ∨ s.eb.epochWait = true ∨ s.spinTok ≤ s.eb.holders.length) :
    State.grantPump n s = s.tokSync := by
  cases n with
  | zero => rfl
  | succ n =>
    rw [State.grantPump]
    split
    · rfl
    next q rest hq =>
      refine if_pos ?_
      rcases h with h | h | h
      · exact absurd (h.symm.trans hq) (by simp)
      · simp [h]
      · simp [h]

/-- The one request waiting is granted to another device. -/
def State.granted (s : State) (q : EbToken) : State :=
  (s.modEb (fun e => { e with queue := [], holders := e.holders ++ [{ q with tick := s.tick }] })).ebSend ebTokGrant (some (q.bay, q.node))
    (leBytes 1 q.node ++ zeros 1 ++ leBytes 2 q.lease ++ leBytes 2 (s.fld EB_MASTER.MEPOCH))

/-- What a grant does: the token has a holder and the frame waits. -/
structure State.Grant (s : State) (q : EbToken) (t : State) : Prop where
  queue : t.eb.queue = []
  holders : t.eb.holders = s.eb.holders ++ [{ q with tick := s.tick }]
  epochWait : t.eb.epochWait = s.eb.epochWait
  sent : s.isServing .DE = true →
    ⟨ebTokGrant, some (q.bay, q.node), leBytes 1 q.node ++ zeros 1 ++ leBytes 2 q.lease ++ leBytes 2 (s.fld EB_MASTER.MEPOCH)⟩ ∈ t.ebWaits
  free : t.fld EB_TOKEN.FREE = (s.spinTok - (s.eb.holders.length + 1)) % 256
  taken : t.fld EB_TOKEN.TAKEN = (s.eb.holders.length + 1) % 256
  shown : t.fld EB_TOKEN.QUEUE = 0
  parts : OnlyParts [.regs, .eb] s t
  regs : OnlyRegs [EB_TOKEN.REG.addr] s t

theorem State.granted_grant {s : State} (q : EbToken) (hmaster : s.isMaster = true) : s.Grant q (s.granted q).tokSync := by
  have hparts : OnlyParts [.eb] s (s.granted q) := (OnlyParts.modEb (by decide) s _).trans (State.ebSend_parts _ _ _ _)
  have hrest : (s.granted q).eb.unsent = (s.modEb (fun e => { e with queue := [], holders := e.holders ++ [{ q with tick := s.tick }] })).eb.unsent :=
    State.ebSend_unsent _ _ _ _
  have hqueue : (s.granted q).eb.queue = [] := congrArg EbSt.queue hrest
  have hholders : (s.granted q).eb.holders = s.eb.holders ++ [{ q with tick := s.tick }] := congrArg EbSt.holders hrest
  have hlen : (s.granted q).eb.holders.length = s.eb.holders.length + 1 := by rw [hholders, List.length_append, List.length_singleton]
  have hacc : (s.granted q).spinTok = s.spinTok := by
    have h : (s.granted q).acc = s.acc := hparts.2 .acc (by decide)
    rw [State.spinTok, State.enclCfg, State.ac, h]
    rfl
  obtain ⟨hfree, htaken, hshown⟩ := State.tokSync_master ((State.isMaster_of_fld (hparts.fld_eq (by decide))).trans hmaster)
  refine ⟨?_, ?_, ?_, fun hserve => ?_, ?_, ?_, ?_, (hparts.mono (by decide)).trans ((s.granted q).tokSync_parts.mono (by decide)),
    (OnlyRegs.of_regs (hparts.2 .regs (by decide))).trans (State.tokSync_regs _)⟩
  · rw [State.tokSync_eb, hqueue]
  · rw [State.tokSync_eb, hholders]
  · rw [State.tokSync_eb]
    exact (congrArg EbSt.epochWait hrest :)
  · rw [State.ebWaits_congr (State.tokSync_eb _)]
    exact State.mem_ebWaits_ebSend (s := s.modEb _) hserve (show ebTokGrant ≠ ebHealth by decide) (.inr rfl)
  · rw [hfree, hlen, hacc]
  · rw [htaken, hlen]
  · rw [hshown, hqueue]
    rfl

theorem State.grantPump_one {s : State} {q : EbToken} (n : Nat) (hqueue : s.eb.queue = [q]) (hmaster : s.isMaster = true) (hepoch : s.eb.epochWait = false)
    (hfree : s.eb.holders.length < s.spinTok) (hother : q.node ≠ s.plcaNode ∨ q.bay ≠ s.bay) : State.grantPump (n + 1) s = (s.granted q).tokSync := by
  have hself : ¬((decide (q.node = s.plcaNode) && decide (q.bay = s.bay)) = true) := by
    rcases hother with h | h <;> simp [h]
  have hnone : (s.granted q).eb.queue = [] := congrArg EbSt.queue (State.ebSend_unsent (s.modEb _) _ _ _)
  rw [State.grantPump]
  simp only [hqueue]
  rw [if_neg (by simp [hmaster, hepoch, Nat.not_le.mpr hfree])]
  refine Eq.trans ?_ (State.grantPump_idle n (.inl hnone))
  rw [if_neg hself]
  rfl

theorem length_queueReq (q : List EbToken) (x : EbToken) : (queueReq q x).length = q.length + 1 := by
  have h := congrArg List.length (List.takeWhile_append_dropWhile (p := fun e => e.cycle != x.cycle || decide (e.node < x.node)) (l := q))
  rw [List.length_append] at h
  rw [queueReq, List.length_append, List.length_cons]
  omega

/-- A token of nobody else is left. -/
theorem filter_others {l : List EbToken} {node bay : Nat} (h : ∀ x ∈ l, x.node ≠ node ∨ x.bay ≠ bay) :
    l.filter (fun x => !(x.node == node && x.bay == bay)) = l := by
  refine List.filter_eq_self.mpr (fun x hx => ?_)
  rcases h x hx with h | h <;> simp [h]

/-- Holders counted out: the master shows what is left. -/
structure State.Freed (s : State) (node bay : Nat) (t : State) : Prop where
  holders : t.eb.holders = s.eb.holders.filter (fun x => !(x.node == node && x.bay == bay))
  queue : t.eb.queue = s.eb.queue
  tx : t.eb.tx = s.eb.tx
  taken : t.fld EB_TOKEN.TAKEN = t.eb.holders.length % 256
  parts : OnlyParts [.regs, .eb] s t
  regs : OnlyRegs [EB_TOKEN.REG.addr] s t

theorem State.grantPump_freed {s : State} (n node bay : Nat) (hmaster : s.isMaster = true) (hqueue : s.eb.queue = []) :
    s.Freed node bay (State.grantPump n (s.modEb (fun e => { e with holders := e.holders.filter (fun x => !(x.node == node && x.bay == bay)) }))) := by
  rw [State.grantPump_idle]
  case h => exact .inl hqueue
  obtain ⟨-, htaken, -⟩ := State.tokSync_master
    (s := s.modEb (fun e => { e with holders := e.holders.filter (fun x => !(x.node == node && x.bay == bay)) })) hmaster
  refine ⟨?_, ?_, ?_, ?_, (OnlyParts.modEb (by decide) s _).trans ((State.tokSync_parts _).mono (by decide)),
    (OnlyRegs.modEb _ s _).trans (State.tokSync_regs _)⟩
  · rw [State.tokSync_eb]
    rfl
  · rw [State.tokSync_eb]
    rfl
  · rw [State.tokSync_eb]
    rfl
  · rw [htaken, State.tokSync_eb]

/-! ### Epochs (R601) -/

/-- In a new epoch of its own the master sends nothing and grants nothing. -/
theorem State.newEpoch_waiting {s : State} (hmaster : s.isMaster = true) (hwait : s.eb.epochWait = true) :
    OnlyParts [.regs, .eb] s s.newEpoch ∧ OnlyRegs [EB_TOKEN.REG.addr] s s.newEpoch ∧
    s.newEpoch.eb.electing = s.eb.electing ∧ s.newEpoch.eb.epochWait = true := by
  have hsync (f : EbSt → EbSt) (hf : (f s.eb).electing = s.eb.electing ∧ (f s.eb).epochWait = true) :
      OnlyParts [.regs, .eb] s (s.modEb f).tokSync ∧ OnlyRegs [EB_TOKEN.REG.addr] s (s.modEb f).tokSync ∧
      (s.modEb f).tokSync.eb.electing = s.eb.electing ∧ (s.modEb f).tokSync.eb.epochWait = true := by
    rw [State.tokSync_eb]
    exact ⟨(OnlyParts.modEb (by decide) s f).trans ((State.tokSync_parts _).mono (by decide)), (OnlyRegs.modEb _ s f).trans (State.tokSync_regs _), hf⟩
  unfold State.newEpoch State.sendTokReq
  rw [if_pos hmaster, if_pos hmaster]
  split
  · rw [if_pos rfl]
    exact hsync _ ⟨rfl, hwait⟩
  split
  · rw [if_neg (by decide), State.grantPump_idle]
    case h => exact .inr (.inl hwait)
    exact hsync _ ⟨rfl, hwait⟩
  · exact ⟨.refl _ s, .refl _ s, rfl, hwait⟩

/-- In a master's new epoch a follower sends its request again, and nothing else. -/
theorem State.newEpoch_follower {s : State} (h : s.isMaster = false) : OnlyParts [.eb] s s.newEpoch ∧ s.newEpoch.eb.unsent = s.eb.unsent := by
  have hsend (held : Bool) : OnlyParts [.eb] s (s.sendTokReq held) ∧ (s.sendTokReq held).eb.unsent = s.eb.unsent := by
    rw [State.sendTokReq, if_neg (by simp [h])]
    exact ⟨State.ebSend_parts _ _ _ _, State.ebSend_unsent _ _ _ _⟩
  unfold State.newEpoch
  split
  · exact hsend true
  split
  · exact hsend false
  · exact ⟨.refl _ s, rfl⟩

end Sys2Proof.Machine
end


section
/-! SUPPORT. Elections of the token master and what its tokens do (O53, R271, R597 to R602). -/
namespace Sys2Proof.Machine

/-! ### Claims (R597) -/

theorem claimLess_irrefl (c : Nat × Nat × Nat × Nat) : claimLess c c = false := by simp [claimLess]

/-- A claim that none is lower than stays the winner. -/
theorem foldl_claim_keeps {l : List (Nat × Nat × Nat × Nat)} {b : Nat × Nat × Nat × Nat} (h : ∀ c ∈ l, claimLess c b = false) :
    l.foldl (fun b c => if claimLess c b then c else b) b = b := by
  induction l with
  | nil => rfl
  | cons c l ih =>
    rw [List.foldl_cons, h c List.mem_cons_self, if_neg (by decide)]
    exact ih (fun c hc => h c (List.mem_cons_of_mem _ hc))

/-- A claim of PRIO 0 among claims of higher PRIO wins. -/
theorem foldl_claim_first {l : List (Nat × Nat × Nat × Nat)} {b c : Nat × Nat × Nat × Nat} (hc : c ∈ l) (hprio : c.1 < 1) (hb : 0 < b.1)
    (hothers : ∀ e ∈ l, e = c ∨ c.1 < e.1) : l.foldl (fun b c => if claimLess c b then c else b) b = c := by
  have hkeep (e : Nat × Nat × Nat × Nat) (he : e = c ∨ c.1 < e.1) : claimLess e c = false := by
    rcases he with rfl | he
    · exact claimLess_irrefl e
    · rw [claimLess, if_pos (by simp [Nat.ne_of_gt he]), decide_eq_false (by omega)]
  induction l generalizing b with
  | nil => exact absurd hc List.not_mem_nil
  | cons e l ih =>
    have hrest (k : Nat × Nat × Nat × Nat) (hk : k ∈ l) := hothers k (List.mem_cons_of_mem _ hk)
    rw [List.foldl_cons]
    by_cases hec : e = c
    · have hless : claimLess c b = true := by
        rw [claimLess, if_pos (by simpa using (by omega : c.1 ≠ b.1)), decide_eq_true (by omega)]
      rw [hec, hless, if_pos rfl]
      exact foldl_claim_keeps (fun k hk => hkeep k (hrest k hk))
    · have hmem : c ∈ l := (List.mem_cons.mp hc).resolve_left (Ne.symm hec)
      have he : 0 < e.1 := Nat.lt_of_le_of_lt (Nat.zero_le _) ((hothers e List.mem_cons_self).resolve_left hec)
      refine ih hmem ?_ hrest
      split
      · exact he
      · exact hb

/-- No claim is lower than this device's own: it becomes master. -/
theorem State.claimsClose_wins {s : State}
    (h : ∀ c ∈ s.eb.claims, s.ownClaim.1 < c.1 ∨ (s.ownClaim.1 = c.1 ∧ s.ownClaim.2.1 < c.2.1) ∨ c = s.ownClaim) :
    s.claimsClose = s.becomeMaster.poolMasterKnown := by
  refine if_pos (foldl_claim_keeps (fun c hc => ?_))
  rcases h c hc with h | ⟨h, hnode⟩ | rfl
  · rw [claimLess, if_pos (by simp [Nat.ne_of_gt h]), decide_eq_false (by omega)]
  · rw [claimLess, if_neg (by simp [h]), if_pos (by simp [Nat.ne_of_gt hnode]), decide_eq_false (by omega)]
  · exact claimLess_irrefl _

/-- This device follows the claim `c`, whose epoch it has not heard yet. -/
def State.yielded (s : State) (c : Nat × Nat × Nat × Nat) : State :=
  (((s.setFld EB_STAT.ELECT elFollower).setFld EB_MASTER.NODE c.2.1).setFld EB_MASTER.BAY c.2.2.2).modEb (fun e => { e with electing := false, claims := [] })

theorem State.fld_yielded (s : State) (c : Nat × Nat × Nat × Nat) :
    (s.yielded c).fld EB_STAT.ELECT = elFollower ∧ (s.yielded c).fld EB_MASTER.NODE = c.2.1 % 256 ∧ (s.yielded c).fld EB_MASTER.BAY = c.2.2.2 % 256 ∧
    (s.yielded c).fld EB_MASTER.MEPOCH = s.fld EB_MASTER.MEPOCH := by
  unfold State.yielded
  refine ⟨?_, ?_, ?_, ?_⟩ <;> rw [State.fld_modEb]
  · rw [State.fld_setFld_addr _ _ _ _ (by decide), State.fld_setFld_addr _ _ _ _ (by decide)]
    exact State.fld_setFld_same _ _ _ (by decide)
  · rw [State.fld_setFld_other _ _ _ _ (by decide) (by decide) (by decide)]
    exact State.fld_setFld_same _ _ _ (by decide)
  · exact State.fld_setFld_same _ _ _ (by decide)
  · rw [State.fld_setFld_other _ _ _ _ (by decide) (by decide) (by decide), State.fld_setFld_other _ _ _ _ (by decide) (by decide) (by decide),
      State.fld_setFld_addr _ _ _ _ (by decide)]

theorem State.yielded_frame (s : State) (c : Nat × Nat × Nat × Nat) :
    OnlyParts [.regs, .tickMem, .eb] s (s.yielded c) ∧ OnlyRegs [EB_STAT.REG.addr, EB_MASTER.REG.addr] s (s.yielded c) := by
  unfold State.yielded
  refine ⟨?_, ?_⟩
  · exact (OnlyParts.setFld (by decide) s _ _).trans ((OnlyParts.setFld (by decide) _ _ _).trans ((OnlyParts.setFld (by decide) _ _ _).trans (.modEb (by decide) _ _)))
  · exact (OnlyRegs.setFld s _ _ (by decide)).trans ((OnlyRegs.setFld _ _ _ (by decide)).trans ((OnlyRegs.setFld _ _ _ (by decide)).trans (.modEb _ _ _)))

/-- A claim of PRIO 0 wins over this device's PRIO 1. -/
theorem State.claimsClose_loses {s : State} {c : Nat × Nat × Nat × Nat} (hc : c ∈ s.eb.claims) (hprio : c.1 < 1) (hothers : ∀ e ∈ s.eb.claims, e = c ∨ c.1 < e.1) :
    s.claimsClose = s.yielded c := by
  have hwin := foldl_claim_first (b := s.ownClaim) hc hprio Nat.one_pos hothers
  have hown : c ≠ s.ownClaim := fun h => absurd hprio (by rw [h]; exact Nat.lt_irrefl 1)
  rw [State.claimsClose]
  simp only [hwin, if_neg hown]
  rfl

/-! ### Master and follower (R597 to R601) -/

/-- The registers of EB_STAT.ELECT and EB_MASTER and the time offset, as a master or a follower sets them. -/
def State.elected (s : State) (elect mepoch node bay : Nat) : State :=
  (((s.setFld EB_STAT.ELECT elect).setFld EB_MASTER.MEPOCH mepoch).setFld EB_MASTER.NODE node).setFld EB_MASTER.BAY bay

theorem State.fld_elected (s : State) (elect mepoch node bay : Nat) :
    (s.elected elect mepoch node bay).fld EB_STAT.ELECT = elect % 16 ∧ (s.elected elect mepoch node bay).fld EB_MASTER.MEPOCH = mepoch % 65536 ∧
    (s.elected elect mepoch node bay).fld EB_MASTER.NODE = node % 256 ∧ (s.elected elect mepoch node bay).fld EB_MASTER.BAY = bay % 256 := by
  refine ⟨?_, ?_, ?_, State.fld_setFld_same _ _ _ (by decide)⟩
  · rw [State.elected, State.fld_setFld_addr _ _ _ _ (by decide), State.fld_setFld_addr _ _ _ _ (by decide), State.fld_setFld_addr _ _ _ _ (by decide)]
    exact State.fld_setFld_same _ _ _ (by decide)
  · rw [State.elected, State.fld_setFld_other _ _ _ _ (by decide) (by decide) (by decide), State.fld_setFld_other _ _ _ _ (by decide) (by decide) (by decide)]
    exact State.fld_setFld_same _ _ _ (by decide)
  · rw [State.elected, State.fld_setFld_other _ _ _ _ (by decide) (by decide) (by decide)]
    exact State.fld_setFld_same _ _ _ (by decide)

theorem State.elected_parts (s : State) (elect mepoch node bay : Nat) : OnlyParts [.regs] s (s.elected elect mepoch node bay) :=
  (OnlyParts.setFld (by decide) s _ _).trans ((OnlyParts.setFld (by decide) _ _ _).trans ((OnlyParts.setFld (by decide) _ _ _).trans (.setFld (by decide) _ _ _)))

/-- What a new master shows and sends. -/
structure State.Mastery (s t : State) : Prop where
  elect : t.fld EB_STAT.ELECT = elMaster
  mepoch : t.fld EB_MASTER.MEPOCH = (s.eb.heard + 1) % 65536
  node : t.fld EB_MASTER.NODE = s.plcaNode % 256
  bay : t.fld EB_MASTER.BAY = s.bay % 256
  epochWait : t.eb.epochWait = true
  electing : t.eb.electing = false
  offset : t.fld EB_ETOFF.OFFSET = 0
  sent : ⟨ebTick, none, leBytes 2 ((s.eb.heard + 1) % 65536) ++ leBytes 1 (t.fld EB_TOKEN.FREE)⟩ ∈ t.ebWaits
  parts : OnlyParts [.regs, .tickMem, .eb] s t

/-- A new master, before it takes part in its own epoch. -/
def State.crowned (s : State) : State :=
  ((s.elected elMaster ((s.eb.heard + 1) % 65536) s.plcaNode s.bay).setFld EB_ETOFF.OFFSET 0).modEb
    (fun e => { e with electing := false, claims := [], heard := (s.eb.heard + 1) % 65536, holders := [], queue := [], epochWait := true })

theorem State.fld_crowned (s : State) {g : Fld} (hg : EB_ETOFF.OFFSET.addr ≠ g.addr) :
    s.crowned.fld g = (s.elected elMaster ((s.eb.heard + 1) % 65536) s.plcaNode s.bay).fld g := by
  rw [State.crowned, State.fld_modEb, State.fld_setFld_addr _ _ _ _ hg]

theorem State.offset_crowned (s : State) : s.crowned.fld EB_ETOFF.OFFSET = 0 := by
  rw [State.crowned, State.fld_modEb, State.fld_setFld_same _ _ _ (by decide), Nat.zero_mod]

theorem State.crowned_parts (s : State) : OnlyParts [.regs, .tickMem, .eb] s s.crowned :=
  ((s.elected_parts _ _ _ _).mono (by decide)).trans ((OnlyParts.setFld (by decide) _ _ _).trans (.modEb (by decide) _ _))

theorem State.isMaster_crowned (s : State) : s.crowned.isMaster = true := by
  rw [State.isMaster, s.fld_crowned (by decide), (s.fld_elected _ _ _ _).1]
  rfl

/-- What the new master's TICK leaves: the epoch's own re-assertions have been counted. -/
def State.enthroned (s : State) : State := s.crowned.newEpoch.tokSync

theorem State.becomeMaster_eq (s : State) : s.becomeMaster =
    s.enthroned.ebSend ebTick none (leBytes 2 ((s.eb.heard + 1) % 65536) ++ leBytes 1 (s.enthroned.fld EB_TOKEN.FREE)) := rfl

theorem State.enthroned_frame (s : State) : OnlyParts [.regs, .tickMem, .eb] s s.enthroned ∧ OnlyRegs [EB_TOKEN.REG.addr] s.crowned s.enthroned ∧
    s.enthroned.eb.electing = false ∧ s.enthroned.eb.epochWait = true := by
  obtain ⟨hparts, hregs, helecting, hwait⟩ := State.newEpoch_waiting s.isMaster_crowned rfl
  rw [State.enthroned, State.tokSync_eb]
  exact ⟨s.crowned_parts.trans ((hparts.mono (by decide)).trans ((State.tokSync_parts _).mono (by decide))), hregs.trans (State.tokSync_regs _), helecting, hwait⟩

theorem State.fld_enthroned (s : State) {g : Fld} (htok : g.addr ∉ [EB_TOKEN.REG.addr]) (hoff : EB_ETOFF.OFFSET.addr ≠ g.addr) :
    s.enthroned.fld g = (s.elected elMaster ((s.eb.heard + 1) % 65536) s.plcaNode s.bay).fld g :=
  (State.fld_of_onlyRegs s.enthroned_frame.2.1 htok).trans (s.fld_crowned hoff)

theorem State.becomeMaster_mastery {s : State} (hserve : s.isServing .DE = true) : s.Mastery s.becomeMaster := by
  obtain ⟨hparts, hregs, helecting, hwait⟩ := s.enthroned_frame
  obtain ⟨helect, hmepoch, hnode, hbay⟩ := s.fld_elected elMaster ((s.eb.heard + 1) % 65536) s.plcaNode s.bay
  have hsend := s.enthroned.ebSend_parts ebTick none (leBytes 2 ((s.eb.heard + 1) % 65536) ++ leBytes 1 (s.enthroned.fld EB_TOKEN.FREE))
  have hrest := s.enthroned.ebSend_unsent ebTick none (leBytes 2 ((s.eb.heard + 1) % 65536) ++ leBytes 1 (s.enthroned.fld EB_TOKEN.FREE))
  have hwaits := State.mem_ebWaits_ebSend (s := s.enthroned) ((hparts.isServing_eq (by decide) .DE).trans hserve) (f := ⟨ebTick, none,
    leBytes 2 ((s.eb.heard + 1) % 65536) ++ leBytes 1 (s.enthroned.fld EB_TOKEN.FREE)⟩) (show ebTick ≠ ebHealth by decide) (.inr rfl)
  rw [← s.becomeMaster_eq] at hsend hrest hwaits
  have hfld : s.becomeMaster.fld = s.enthroned.fld := hsend.fld_eq (by decide)
  refine ⟨?_, ?_, ?_, ?_, (congrArg EbSt.epochWait hrest :).trans hwait, (congrArg EbSt.electing hrest :).trans helecting, ?_, ?_, hparts.trans (hsend.mono (by decide))⟩
  · rw [hfld, s.fld_enthroned (by decide) (by decide), helect]
    rfl
  · rw [hfld, s.fld_enthroned (by decide) (by decide), hmepoch, Nat.mod_mod]
  · rw [hfld, s.fld_enthroned (by decide) (by decide), hnode]
  · rw [hfld, s.fld_enthroned (by decide) (by decide), hbay]
  · rw [hfld, State.fld_of_onlyRegs hregs (by decide), s.offset_crowned]
  · rw [hfld]
    exact hwaits

/-- What a follower takes from the TICK of its master. -/
structure State.Following (s : State) (byBay byNode epoch : Nat) (t : State) : Prop where
  elect : t.fld EB_STAT.ELECT = elFollower
  mepoch : t.fld EB_MASTER.MEPOCH = epoch % 65536
  node : t.fld EB_MASTER.NODE = byNode % 256
  bay : t.fld EB_MASTER.BAY = byBay % 256
  electing : t.eb.electing = false
  tickSeen : t.eb.tickSeen = s.tick
  heard : t.eb.heard = epoch
  parts : OnlyParts [.regs, .tickMem, .eb] s t

/-- A follower of a master's epoch, before its own request is sent again. -/
def State.followed (s : State) (bay node mepoch : Nat) : State :=
  ((s.elected elFollower mepoch node bay).modEb (fun e => { e with
    electing := false, claims := [], heard := mepoch, tickSeen := s.tick, holders := [], queue := [], epochWait := false })).tokSync

theorem State.followed_following (s : State) (bay node mepoch : Nat) : s.Following bay node mepoch (s.followed bay node mepoch) := by
  obtain ⟨helect, hmepoch, hnode, hbay⟩ := s.fld_elected elFollower mepoch node bay
  unfold State.followed
  have hsync (g : Fld) (hg : g.addr ∉ [EB_TOKEN.REG.addr]) (f : EbSt → EbSt) :
      ((s.elected elFollower mepoch node bay).modEb f).tokSync.fld g = (s.elected elFollower mepoch node bay).fld g :=
    (State.fld_tokSync _ hg).trans (State.fld_modEb _ f g)
  refine ⟨(hsync _ (by decide) _).trans helect, (hsync _ (by decide) _).trans hmepoch, (hsync _ (by decide) _).trans hnode, (hsync _ (by decide) _).trans hbay,
    ?_, ?_, ?_, ?_⟩
  · rw [State.tokSync_eb]
    rfl
  · rw [State.tokSync_eb]
    rfl
  · rw [State.tokSync_eb]
    rfl
  · exact ((s.elected_parts _ _ _ _).mono (by decide)).trans ((OnlyParts.modEb (by decide) _ _).trans ((State.tokSync_parts _).mono (by decide)))

theorem State.follow_eq (s : State) (bay node mepoch : Nat) :
    s.follow bay node mepoch = s.followed bay node mepoch ∨ s.follow bay node mepoch = (s.followed bay node mepoch).newEpoch := by
  unfold State.follow State.followed State.elected
  dsimp only
  split
  · exact .inr rfl
  · exact .inl rfl

theorem State.follow_following (s : State) (bay node mepoch : Nat) : s.Following bay node mepoch (s.follow bay node mepoch) := by
  have hfollowed := s.followed_following bay node mepoch
  rcases s.follow_eq bay node mepoch with h | h <;> rw [h]
  · exact hfollowed
  · have hfollower : (s.followed bay node mepoch).isMaster = false := by
      rw [State.isMaster, hfollowed.elect]
      rfl
    obtain ⟨hparts, hrest⟩ := State.newEpoch_follower hfollower
    have hfld := hparts.fld_eq (by decide)
    exact ⟨(congrFun hfld _).trans hfollowed.elect, (congrFun hfld _).trans hfollowed.mepoch, (congrFun hfld _).trans hfollowed.node,
      (congrFun hfld _).trans hfollowed.bay, (congrArg EbSt.electing hrest :).trans hfollowed.electing,
      (congrArg EbSt.tickSeen hrest :).trans hfollowed.tickSeen, (congrArg EbSt.heard hrest :).trans hfollowed.heard, hfollowed.parts.trans (hparts.mono (by decide))⟩

/-- Enclosure time after the offset of a TICK is set: the TICK's own (R598). -/
theorem etime_of_offset (now etime : Nat) : (((now + toTwos 32 ((etime : Int) - now)) % 2 ^ 32 : Nat) : Int) = etime % 2 ^ 32 := by
  rw [toTwos]
  omega

/-- A TICK of a master this device gives way to. -/
theorem State.tickFrame_follows {s : State} {h : EbHdr} (mepoch : Nat) (hyield : s.isMaster = false ∨ nodeRank h.node < nodeRank s.plcaNode) :
    ∃ u : State, s.tickFrame h mepoch = u.poolMasterKnown ∧ s.Following h.bay h.node mepoch u ∧ (u.enclTime : Int) = h.etime % 2 ^ 32 := by
  have hfollow := s.follow_following h.bay h.node mepoch
  have hkeep (g : Fld) (hg : EB_ETOFF.OFFSET.addr ≠ g.addr) (v : Nat) :
      ((s.follow h.bay h.node mepoch).setFld EB_ETOFF.OFFSET v).fld g = (s.follow h.bay h.node mepoch).fld g := State.fld_setFld_addr _ _ _ _ hg
  refine ⟨(s.follow h.bay h.node mepoch).setFld EB_ETOFF.OFFSET (toTwos 32 ((h.etime : Int) - (s.tick / 25 : Nat))), ?_, ?_, ?_⟩
  · refine if_neg ?_
    rcases hyield with h | h <;> simp [h]
  · exact ⟨(hkeep _ (by decide) _).trans hfollow.elect, (hkeep _ (by decide) _).trans hfollow.mepoch, (hkeep _ (by decide) _).trans hfollow.node,
      (hkeep _ (by decide) _).trans hfollow.bay, hfollow.electing, hfollow.tickSeen, hfollow.heard, hfollow.parts.trans (.setFld (by decide) _ _ _)⟩
  · have htick : ((s.follow h.bay h.node mepoch).setFld EB_ETOFF.OFFSET (toTwos 32 ((h.etime : Int) - (s.tick / 25 : Nat)))).tick = s.tick :=
      hfollow.parts.2 .tick (by decide)
    have hfld := State.fld_setFld_same (s.follow h.bay h.node mepoch) EB_ETOFF.OFFSET (toTwos 32 ((h.etime : Int) - (s.tick / 25 : Nat))) (by decide)
    have hwidth : EB_ETOFF.OFFSET.hi - EB_ETOFF.OFFSET.lo + 1 = 32 := rfl
    rw [State.enclTime, htick, hfld, hwidth, ← etime_of_offset (s.tick / 25) h.etime, Nat.add_mod_mod]

/-! ### Requests at the master (R600, R601) -/

/-- A request of another device that can be granted at once. -/
theorem State.tokReqFrame_grants {s : State} {h : EbHdr} (lease : Nat) (hmaster : s.isMaster = true) (hqueue : s.eb.queue = []) (hepoch : s.eb.epochWait = false)
    (hfree : s.eb.holders.length < s.spinTok) (hother : h.node ≠ s.plcaNode ∨ h.bay ≠ s.bay) :
    s.Grant ⟨h.node, h.bay, lease, s.tick, s.eb.cycle⟩ (s.tokReqFrame h lease false) := by
  have hframe : s.tokReqFrame h lease false = State.grantPump 64 (s.modEb (fun e => { e with queue := [⟨h.node, h.bay, lease, s.tick, s.eb.cycle⟩] })) := by
    rw [State.tokReqFrame, if_neg (by simp [hmaster]), if_neg (by decide)]
    congr 1
    simp only [State.modEb, hqueue]
    rfl
  rw [hframe]
  generalize hx : (⟨h.node, h.bay, lease, s.tick, s.eb.cycle⟩ : EbToken) = x
  have hpump : State.grantPump 64 (s.modEb (fun e => { e with queue := [x] })) = (s.granted x).tokSync :=
    State.grantPump_one (s := s.modEb (fun e => { e with queue := [x] })) 63 rfl hmaster hepoch hfree (hx ▸ hother)
  rw [hpump]
  exact State.granted_grant x hmaster

/-- A request that has to wait joins the queue. -/
theorem State.tokReqFrame_queues {s : State} {h : EbHdr} (lease : Nat) (hmaster : s.isMaster = true)
    (hwait : s.eb.epochWait = true ∨ s.spinTok ≤ s.eb.holders.length) (hnew : ∀ x ∈ s.eb.queue, x.node ≠ h.node ∨ x.bay ≠ h.bay) :
    s.tokReqFrame h lease false = (s.modEb (fun e => { e with queue := queueReq e.queue ⟨h.node, h.bay, lease, s.tick, e.cycle⟩ })).tokSync := by
  rw [State.tokReqFrame, if_neg (by simp [hmaster]), if_neg (by decide), State.grantPump_idle]
  case h => exact .inr hwait
  simp only [State.modEb, filter_others hnew]

/-- A re-assertion counts as held. -/
theorem State.tokReqFrame_held {s : State} {h : EbHdr} (lease : Nat) (hmaster : s.isMaster = true) (hnew : ∀ x ∈ s.eb.holders, x.node ≠ h.node ∨ x.bay ≠ h.bay) :
    s.tokReqFrame h lease true = (s.modEb (fun e => { e with holders := e.holders ++ [⟨h.node, h.bay, lease, s.tick, e.cycle⟩] })).tokSync := by
  rw [State.tokReqFrame, if_neg (by simp [hmaster]), if_pos rfl]
  simp only [State.modEb, filter_others hnew]

/-! ### Tokens that arrive, elections that start (R599, R600) -/

theorem State.tokenArrives_wanted {s : State} (h : s.eb.startWant = true) :
    s.tokenArrives.bit EB_TOKEN.HELD = true ∧ s.tokenArrives.bit EB_TOKEN.PEND = false ∧ s.tokenArrives.eb = s.eb ∧
    OnlyParts [.regs, .tickMem] s s.tokenArrives ∧ OnlyRegs [EB_TOKEN.REG.addr] s s.tokenArrives := by
  have harrives : s.tokenArrives = (s.setBit EB_TOKEN.HELD).clrBit EB_TOKEN.PEND := if_pos h
  rw [harrives]
  refine ⟨?_, State.bit_clrBit_same _ _ (by decide), rfl, ?_, ?_⟩
  · rw [State.clrBit, State.bit, State.fld_setFld_other _ _ _ _ (by decide) (by decide) (by decide)]
    exact State.bit_setBit_same _ _ (by decide)
  · exact (OnlyParts.setBit (by decide) (by decide) s _).trans (.setFld (by decide) _ _ _)
  · exact (OnlyRegs.setBit s _ (by decide)).trans (.setFld _ _ _ (by decide))

theorem State.tokenArrives_unwanted {s : State} (hserve : s.isServing .DE = true) (h : s.eb.startWant = false) :
    s.tokenArrives.bit EB_TOKEN.HELD = s.bit EB_TOKEN.HELD ∧ s.tokenArrives.bit EB_TOKEN.PEND = false ∧
    ⟨ebTokRet, s.masterAddr, leBytes 2 (s.fld EB_MASTER.MEPOCH)⟩ ∈ s.tokenArrives.ebWaits ∧
    OnlyParts [.regs, .tickMem, .eb] s s.tokenArrives ∧ OnlyRegs [EB_TOKEN.REG.addr] s s.tokenArrives := by
  have harrives : s.tokenArrives = (s.clrBit EB_TOKEN.PEND).ebSend ebTokRet s.masterAddr (leBytes 2 (s.fld EB_MASTER.MEPOCH)) := if_neg (by simp [h])
  have hclear : OnlyParts [.regs] s (s.clrBit EB_TOKEN.PEND) := .setFld (by decide) s _ _
  have hsend := (s.clrBit EB_TOKEN.PEND).ebSend_parts ebTokRet s.masterAddr (leBytes 2 (s.fld EB_MASTER.MEPOCH))
  have hwaits := State.mem_ebWaits_ebSend (s := s.clrBit EB_TOKEN.PEND) ((hclear.isServing_eq (by decide) .DE).trans hserve)
    (f := ⟨ebTokRet, s.masterAddr, leBytes 2 (s.fld EB_MASTER.MEPOCH)⟩) (show ebTokRet ≠ ebHealth by decide) (.inr rfl)
  rw [← harrives] at hsend hwaits
  have hfld := hsend.fld_eq (by decide)
  refine ⟨?_, ?_, hwaits, (hclear.mono (by decide)).trans (hsend.mono (by decide)),
    (OnlyRegs.setFld s _ _ (by decide)).trans (.of_regs (hsend.2 .regs (by decide)))⟩
  · rw [State.bit, hfld, State.clrBit, State.fld_setFld_other _ _ _ _ (by decide) (by decide) (by decide), State.bit]
  · rw [State.bit, hfld]
    exact State.bit_clrBit_same s _ (by decide)

/-- The claim of a device that has heard no TICK (R597). -/
theorem State.claim_sent {s : State} (hserve : s.isServing .DE = true) (helecting : s.eb.electing = true) {t : State}
    (ht : t = ((s.setFld EB_STAT.ELECT elClaiming).modEb (fun e => { e with claims := e.claims ++ [s.ownClaim] })).ebSend ebClaim none
      (leBytes 1 1 ++ zeros 1 ++ leBytes 8 s.ownClaim.2.2.1) := by rfl) :
    t.fld EB_STAT.ELECT = elClaiming ∧ t.eb.claims = s.eb.claims ++ [s.ownClaim] ∧ t.eb.electing = true ∧
    ⟨ebClaim, none, leBytes 1 1 ++ zeros 1 ++ leBytes 8 s.ownClaim.2.2.1⟩ ∈ t.ebWaits ∧ OnlyParts [.regs, .tickMem, .eb] s t ∧
    OnlyRegs [EB_STAT.REG.addr] s t := by
  have hset : OnlyParts [.regs, .eb] s ((s.setFld EB_STAT.ELECT elClaiming).modEb (fun e => { e with claims := e.claims ++ [s.ownClaim] })) :=
    (OnlyParts.setFld (by decide) s _ _).trans (.modEb (by decide) _ _)
  have hregs : OnlyRegs [EB_STAT.REG.addr] s ((s.setFld EB_STAT.ELECT elClaiming).modEb (fun e => { e with claims := e.claims ++ [s.ownClaim] })) :=
    (OnlyRegs.setFld s _ _ (by decide)).trans (.modEb _ _ _)
  have helect : ((s.setFld EB_STAT.ELECT elClaiming).modEb (fun e => { e with claims := e.claims ++ [s.ownClaim] })).fld EB_STAT.ELECT = elClaiming :=
    (State.fld_modEb _ _ _).trans (State.fld_setFld_same s _ _ (by decide))
  have hclaims : ((s.setFld EB_STAT.ELECT elClaiming).modEb (fun e => { e with claims := e.claims ++ [s.ownClaim] })).eb.claims = s.eb.claims ++ [s.ownClaim] := rfl
  have hruns : ((s.setFld EB_STAT.ELECT elClaiming).modEb (fun e => { e with claims := e.claims ++ [s.ownClaim] })).eb.electing = true := helecting
  generalize (s.setFld EB_STAT.ELECT elClaiming).modEb (fun e => { e with claims := e.claims ++ [s.ownClaim] }) = u at ht hset hregs helect hclaims hruns
  have hsend := u.ebSend_parts ebClaim none (leBytes 1 1 ++ zeros 1 ++ leBytes 8 s.ownClaim.2.2.1)
  have hrest := u.ebSend_unsent ebClaim none (leBytes 1 1 ++ zeros 1 ++ leBytes 8 s.ownClaim.2.2.1)
  have hwaits := State.mem_ebWaits_ebSend (s := u) ((hset.isServing_eq (by decide) .DE).trans hserve)
    (f := ⟨ebClaim, none, leBytes 1 1 ++ zeros 1 ++ leBytes 8 s.ownClaim.2.2.1⟩) (show ebClaim ≠ ebHealth by decide) (.inr rfl)
  rw [← ht] at hsend hrest hwaits
  exact ⟨(congrFun (hsend.fld_eq (by decide)) _).trans helect, (congrArg EbSt.claims hrest :).trans hclaims, (congrArg EbSt.electing hrest :).trans hruns, hwaits,
    (hset.mono (by decide)).trans (hsend.mono (by decide)), hregs.trans (.of_regs (hsend.2 .regs (by decide)))⟩

/-- What the master shows after its queue or its holders change. -/
theorem State.tokSync_modEb {s : State} (h : s.isMaster = true) (f : EbSt → EbSt) :
    (s.modEb f).tokSync.eb = f s.eb ∧
    ((s.modEb f).tokSync.fld EB_TOKEN.FREE = (s.spinTok - (f s.eb).holders.length) % 256 ∧ (s.modEb f).tokSync.fld EB_TOKEN.TAKEN = (f s.eb).holders.length % 256 ∧
      (s.modEb f).tokSync.fld EB_TOKEN.QUEUE = (f s.eb).queue.length % 256) ∧
    OnlyParts [.regs, .eb] s (s.modEb f).tokSync ∧ OnlyRegs [EB_TOKEN.REG.addr] s (s.modEb f).tokSync :=
  ⟨State.tokSync_eb _, State.tokSync_master (s := s.modEb f) h, (OnlyParts.modEb (by decide) s f).trans ((State.tokSync_parts _).mono (by decide)),
    (OnlyRegs.modEb _ s f).trans (State.tokSync_regs _)⟩

/-- The 200 ms of a new master are over (R601): the request that waits is granted. -/
theorem State.grantPump_epoch {s : State} {x : EbToken} (hserve : s.isServing .DE = true) (hmaster : s.isMaster = true) (hqueue : s.eb.queue = [x])
    (hfree : s.eb.holders.length < s.spinTok) (hother : x.node ≠ s.plcaNode ∨ x.bay ≠ s.bay) {t : State}
    (ht : t = State.grantPump 64 (s.modEb (fun e => { e with epochWait := false })) := by rfl) :
    t.eb.epochWait = false ∧ t.eb.queue = [] ∧ t.eb.holders = s.eb.holders ++ [{ x with tick := s.tick }] ∧
    ⟨ebTokGrant, some (x.bay, x.node), leBytes 1 x.node ++ zeros 1 ++ leBytes 2 x.lease ++ leBytes 2 (s.fld EB_MASTER.MEPOCH)⟩ ∈ t.ebWaits ∧
    OnlyParts [.regs, .eb] s t ∧ OnlyRegs [EB_TOKEN.REG.addr] s t := by
  have hgrant : (s.modEb (fun e => { e with epochWait := false })).Grant x t := by
    rw [ht, State.grantPump_one (s := s.modEb (fun e => { e with epochWait := false })) 63 hqueue hmaster rfl hfree hother]
    exact State.granted_grant x hmaster
  obtain ⟨hq, hholders, hwait, hsent, -, -, -, hparts, hregs⟩ := hgrant
  have hframe := hsent hserve
  rw [State.fld_modEb] at hframe
  exact ⟨hwait, hq, hholders, hframe, (OnlyParts.modEb (by decide) s _).trans hparts, (OnlyRegs.modEb _ s _).trans hregs⟩

theorem State.startElection_frame (s : State) :
    OnlyParts [.regs, .tickMem, .eb] s s.startElection ∧ OnlyRegs [EB_STAT.REG.addr, EB_MASTER.REG.addr] s s.startElection := by
  have hcsma : OnlyRegs [EB_STAT.REG.addr, EB_MASTER.REG.addr] s (s.when (!s.plcaOn) (fun t => t.setBit EB_STAT.CSMA)) := by
    cases s.plcaOn
    · exact .setBit s _ (by decide)
    · exact .refl _ s
  refine ⟨?_, ?_⟩
  · exact (OnlyParts.when _ (.refl _ s) (.setBit (by decide) (by decide) s _)).trans ((OnlyParts.modEb (by decide) _ _).trans
      ((OnlyParts.setFld (by decide) _ _ _).trans ((OnlyParts.setFld (by decide) _ _ _).trans (.setFld (by decide) _ _ _))))
  · exact hcsma.trans ((OnlyRegs.modEb _ _ _).trans
      ((OnlyRegs.setFld _ _ _ (by decide)).trans ((OnlyRegs.setFld _ _ _ (by decide)).trans (.setFld _ _ _ (by decide)))))

theorem State.fld_startElection (s : State) : s.startElection.fld EB_STAT.ELECT = elListening ∧ s.startElection.fld EB_MASTER.NODE = 0xFF ∧
    s.startElection.fld EB_MASTER.BAY = 0xFF ∧ s.startElection.fld EB_MASTER.MEPOCH = s.fld EB_MASTER.MEPOCH := by
  have hcsma : ((s.when (!s.plcaOn) (fun t => t.setBit EB_STAT.CSMA)).modEb (fun e => { e with electing := true, claims := [] })).fld EB_MASTER.MEPOCH =
      s.fld EB_MASTER.MEPOCH := by
    rw [State.fld_modEb]
    cases s.plcaOn
    · exact State.fld_setBit_addr s (by decide)
    · rfl
  rw [State.startElection]
  generalize (s.when (!s.plcaOn) (fun t => t.setBit EB_STAT.CSMA)).modEb (fun e => { e with electing := true, claims := [] }) = u at hcsma ⊢
  refine ⟨?_, ?_, State.fld_setFld_same _ _ _ (by decide), ?_⟩
  · rw [State.fld_setFld_addr _ _ _ _ (by decide), State.fld_setFld_addr _ _ _ _ (by decide)]
    exact State.fld_setFld_same _ _ _ (by decide)
  · rw [State.fld_setFld_other _ _ _ _ (by decide) (by decide) (by decide)]
    exact State.fld_setFld_same _ _ _ (by decide)
  · rw [State.fld_setFld_other _ _ _ _ (by decide) (by decide) (by decide), State.fld_setFld_other _ _ _ _ (by decide) (by decide) (by decide),
      State.fld_setFld_addr _ _ _ _ (by decide), hcsma]

/-! ### The start without a token (R602) -/

theorem State.localSpin_alone {s : State} (hdelay : s.eb.localDelay = true) (hwant : s.eb.startWant = true) (hserve : s.isServing .DE = false) :
    ∃ u : State, s.localSpin = u.spBegin ∧ u.bit EB_STAT.LOCAL = true ∧ u.eb = { s.eb with localDelay := false } ∧ u.tick = s.tick := by
  have hframe := State.record_frame ((s.setBit EB_STAT.LOCAL).modEb (fun e => { e with localDelay := false })) 0x1402
    (leBytes 2 (s.bay / Nat.max 1 s.spinTok * 11) ++ zeros 2)
  refine ⟨_, if_pos (by simp [hdelay, hwant, hserve]), ?_, hframe.parts.2 .eb (by decide), hframe.parts.2 .tick (by decide)⟩
  rw [State.bit, State.fld_record _ _ _ (by decide), State.fld_modEb]
  exact State.bit_setBit_same s _ (by decide)

/-- Settles O53. Who wins an election is decided by the claims folded from this device's own (R597). -/
theorem electionsAndTokens : Obligations.elections_and_tokens := by
  refine ⟨?claiming, ?claim, ?wins, ?loses, ?follows, ?keeps, ?lost, ?ticks, ?grants, ?queues, ?held, ?arrives, ?returned, ?freed, ?expired, ?epoch, ?alone⟩
  case claiming =>
    intro s hlive hserve helecting hlisten
    obtain ⟨helect, hclaims, hruns, hsent, hparts, hregs⟩ := State.claim_sent hserve helecting
    exact ⟨_, (next_whileLive_of_live hlive _).trans (congrArg _ (State.when_true (by simp [hserve, helecting, hlisten]) _)), helect, hclaims, hruns, hsent, hparts, hregs⟩
  case claim =>
    intro s h prio idlow hlive hserve helecting hencl
    obtain ⟨t, ht, hrecv⟩ := State.ebRecv_heard hserve hencl
    refine ⟨_, (next_whileLive_of_live hlive _).trans (congrArg _ ((hrecv _).trans (State.when_true (ht.eb ▸ helecting) _))), ?_, ?_,
      (ht.parts.mono (by decide)).trans (.modEb (by decide) _ _), ht.regs.trans (.modEb _ _ _)⟩
    · exact congrArg (fun e : EbSt => e.claims ++ [(prio, h.node, idlow, h.bay)]) ht.eb
    · exact (State.fld_modEb _ _ _).trans ht.count
  case wins =>
    intro s hlive hserve helecting hclaiming hlowest
    have hexec : exec .claimCollectEnd s = .next s.becomeMaster.poolMasterKnown :=
      (next_whileLive_of_live hlive _).trans (congrArg _ ((State.when_true (by simp [hserve, helecting, hclaiming]) _).trans (State.claimsClose_wins hlowest)))
    obtain ⟨helect, hmepoch, hnode, hbay, hwait, hdone, hoffset, hsent, hparts⟩ := State.becomeMaster_mastery hserve
    exact ⟨_, hexec, helect, hmepoch, hnode, hbay, hwait, hdone, hoffset, hsent, hparts⟩
  case loses =>
    intro s c hlive hserve helecting hclaiming hc hprio hothers
    have hexec : exec .claimCollectEnd s = .next (s.yielded c) := (next_whileLive_of_live hlive _).trans
      (congrArg _ ((State.when_true (by simp [hserve, helecting, hclaiming]) _).trans (State.claimsClose_loses hc hprio hothers)))
    obtain ⟨helect, hnode, hbay, hmepoch⟩ := s.fld_yielded c
    obtain ⟨hparts, hregs⟩ := s.yielded_frame c
    exact ⟨_, hexec, helect, hnode, hbay, hmepoch, rfl, rfl, hparts, hregs⟩
  case follows =>
    intro s h mepoch tokfree hlive hserve hencl hyield
    obtain ⟨t, ht, hrecv⟩ := State.ebRecv_heard hserve hencl
    rw [← ht.isMaster, ← ht.plcaNode] at hyield
    obtain ⟨u, hframe, ⟨helect, hmepoch, hnode, hbay, helecting, hseen, hheard, hparts⟩, hetime⟩ := State.tickFrame_follows mepoch hyield
    have hall := (ht.parts.mono (by decide)).trans hparts
    exact ⟨u, (next_whileLive_of_live hlive _).trans (congrArg _ ((hrecv _).trans hframe)), helect, hmepoch, hnode, hbay, hetime, helecting,
      hseen.trans ht.tick, hheard, hall.2 .tick (by decide), hall.2 .mem (by decide)⟩
  case keeps =>
    intro s h mepoch tokfree hlive hserve hencl hmaster hrank
    have ht := s.heard_bump
    have hframe : (s.bump EB_RX.RCVD).tickFrame h mepoch = s.bump EB_RX.RCVD := by
      refine if_pos ?_
      rw [ht.isMaster, ht.plcaNode, hmaster]
      simp [Nat.not_lt.mpr hrank]
    exact (next_whileLive_of_live hlive _).trans (congrArg _ ((State.ebRecv_own hserve hencl _).trans hframe))
  case lost =>
    intro s hlive hserve hfollower
    have hexec : exec .masterLoss s = .next s.startElection :=
      (next_whileLive_of_live hlive _).trans (congrArg _ (State.when_true (by simp [hserve, hfollower]) _))
    obtain ⟨hparts, hregs⟩ := s.startElection_frame
    obtain ⟨helect, hnode, hbay, hmepoch⟩ := s.fld_startElection
    exact ⟨_, hexec, helect, hnode, hbay, hmepoch, State.fld_of_onlyRegs hregs (by decide), rfl, rfl, hparts, hregs⟩
  case ticks =>
    intro s hlive hserve hmaster
    refine ⟨_, (next_whileLive_of_live hlive _).trans (congrArg _ (State.when_true (by simp [hserve, hmaster]) _)), ?_, fun f hf htype => ?_, State.ebSend_parts _ _ _ _⟩
    · exact State.mem_ebWaits_ebSend hserve (show ebTick ≠ ebHealth by decide) (.inr rfl)
    · exact State.mem_ebWaits_ebSend hserve htype (.inl hf)
  case grants =>
    intro s h lease hlive hserve hencl hmaster hqueue hepoch hfree hother
    obtain ⟨t, ht, hrecv⟩ := State.ebRecv_heard hserve hencl
    have hgrant := State.tokReqFrame_grants (s := t) (h := h) lease (ht.isMaster.trans hmaster) (ht.eb ▸ hqueue) (ht.eb ▸ hepoch)
      (by rw [ht.eb, ht.spinTok]; exact hfree) (by rw [ht.plcaNode, ht.bay]; exact hother)
    rw [ht.tick, ht.eb] at hgrant
    obtain ⟨hq, hholders, -, hsent, hshown, htaken, hqueued, hparts, hregs⟩ := hgrant
    rw [ht.eb, ht.tick] at hholders
    rw [ht.eb, ht.spinTok] at hshown
    rw [ht.eb] at htaken
    have hframe := hsent ((ht.isServing .DE).trans hserve)
    rw [ht.fld (by decide)] at hframe
    exact ⟨_, (next_whileLive_of_live hlive _).trans (congrArg _ (hrecv _)), hq, hholders, hframe, hshown, htaken, hqueued,
      (ht.parts.mono (by decide)).trans (hparts.mono (by decide)), (ht.regs.mono (by decide)).trans (hregs.mono (by decide))⟩
  case queues =>
    intro s h lease hlive hserve hencl hmaster hwait hnew
    obtain ⟨t, ht, hrecv⟩ := State.ebRecv_heard hserve hencl
    have hframe := State.tokReqFrame_queues (s := t) (h := h) lease (ht.isMaster.trans hmaster) (by rw [ht.eb, ht.spinTok]; exact hwait) (by rw [ht.eb]; exact hnew)
    obtain ⟨heb, ⟨-, -, hshown⟩, hparts, hregs⟩ := State.tokSync_modEb (ht.isMaster.trans hmaster)
      (fun e => { e with queue := queueReq e.queue ⟨h.node, h.bay, lease, t.tick, e.cycle⟩ })
    rw [ht.eb, ht.tick] at heb hshown
    refine ⟨_, (next_whileLive_of_live hlive _).trans (congrArg _ ((hrecv _).trans hframe)), ?_⟩
    rw [ht.tick]
    rw [ht.tick] at hparts hregs
    exact ⟨congrArg EbSt.queue heb, (congrArg EbSt.holders heb :), (congrArg EbSt.tx heb :), hshown.trans (congrArg (· % 256) (length_queueReq _ _)),
      (ht.parts.mono (by decide)).trans (hparts.mono (by decide)), (ht.regs.mono (by decide)).trans (hregs.mono (by decide))⟩
  case held =>
    intro s h lease hlive hserve hencl hmaster hnew
    obtain ⟨t, ht, hrecv⟩ := State.ebRecv_heard hserve hencl
    have hframe := State.tokReqFrame_held (s := t) (h := h) lease (ht.isMaster.trans hmaster) (by rw [ht.eb]; exact hnew)
    obtain ⟨heb, ⟨-, htaken, -⟩, hparts, hregs⟩ := State.tokSync_modEb (ht.isMaster.trans hmaster)
      (fun e => { e with holders := e.holders ++ [⟨h.node, h.bay, lease, t.tick, e.cycle⟩] })
    rw [ht.eb, ht.tick] at heb htaken
    refine ⟨_, (next_whileLive_of_live hlive _).trans (congrArg _ ((hrecv _).trans hframe)), ?_⟩
    rw [ht.tick]
    rw [ht.tick] at hparts hregs
    exact ⟨congrArg EbSt.holders heb, (congrArg EbSt.queue heb :), (congrArg EbSt.tx heb :), htaken.trans (congrArg (· % 256) List.length_append),
      (ht.parts.mono (by decide)).trans (hparts.mono (by decide)), (ht.regs.mono (by decide)).trans (hregs.mono (by decide))⟩
  case arrives =>
    intro s h lease mepoch hlive hserve hencl hmepoch hwant
    obtain ⟨t, ht, hrecv⟩ := State.ebRecv_heard hserve hencl
    have hmine : (s.plcaNode == t.plcaNode && mepoch == t.fld EB_MASTER.MEPOCH) = true := by
      rw [ht.fld (by decide), ht.plcaNode, hmepoch]
      simp
    obtain ⟨hheld, hpend, heb, hparts, hregs⟩ := State.tokenArrives_wanted (s := t) (ht.eb ▸ hwant)
    exact ⟨_, (next_whileLive_of_live hlive _).trans (congrArg _ ((hrecv _).trans (State.when_true hmine _))), hheld, hpend, heb.trans ht.eb, ht.parts.trans hparts,
      (ht.regs.mono (by decide)).trans (hregs.mono (by decide))⟩
  case returned =>
    intro s h lease mepoch hlive hserve hencl hmepoch hwant
    obtain ⟨t, ht, hrecv⟩ := State.ebRecv_heard hserve hencl
    have hmine : (s.plcaNode == t.plcaNode && mepoch == t.fld EB_MASTER.MEPOCH) = true := by
      rw [ht.fld (by decide), ht.plcaNode, hmepoch]
      simp
    obtain ⟨hheld, hpend, hsent, hparts, hregs⟩ := State.tokenArrives_unwanted (s := t) ((ht.isServing .DE).trans hserve) (ht.eb ▸ hwant)
    have haddr : t.masterAddr = s.masterAddr := by rw [State.masterAddr, ht.fld (by decide), ht.fld (by decide), State.masterAddr]
    rw [haddr, ht.fld (by decide), ← hmepoch] at hsent
    rw [State.bit, State.bit, ht.fld (by decide)] at hheld
    exact ⟨_, (next_whileLive_of_live hlive _).trans (congrArg _ ((hrecv _).trans (State.when_true hmine _))), hheld, hpend, hsent, (ht.parts.mono (by decide)).trans hparts,
      (ht.regs.mono (by decide)).trans (hregs.mono (by decide))⟩
  case freed =>
    intro s h mepoch hlive hserve hencl hmaster hmepoch hqueue
    obtain ⟨t, ht, hrecv⟩ := State.ebRecv_heard hserve hencl
    have hmine : (t.isMaster && mepoch == t.fld EB_MASTER.MEPOCH) = true := by
      rw [ht.fld (by decide), ht.isMaster, hmepoch, hmaster]
      simp
    obtain ⟨hholders, hq, htx, htaken, hparts, hregs⟩ := State.grantPump_freed (s := t) 64 h.node h.bay (ht.isMaster.trans hmaster) (ht.eb ▸ hqueue)
    rw [ht.eb] at hholders hq htx
    exact ⟨_, (next_whileLive_of_live hlive _).trans (congrArg _ ((hrecv _).trans (State.when_true hmine _))), hholders, hq.trans hqueue, htx, htaken,
      (ht.parts.mono (by decide)).trans (hparts.mono (by decide)), (ht.regs.mono (by decide)).trans (hregs.mono (by decide))⟩
  case expired =>
    intro s node bay hlive hmaster hqueue
    obtain ⟨hholders, hq, htx, htaken, hparts, hregs⟩ := State.grantPump_freed 64 node bay hmaster hqueue
    exact ⟨_, (next_whileLive_of_live hlive _).trans (congrArg _ (State.when_true hmaster _)), hholders, hq.trans hqueue, htx, htaken, hparts.mono (by decide), hregs⟩
  case epoch =>
    intro s x hlive hserve hmaster hqueue hfree hother
    obtain ⟨hwait, hq, hholders, hsent, hparts, hregs⟩ := State.grantPump_epoch hserve hmaster hqueue hfree hother
    exact ⟨_, (next_whileLive_of_live hlive _).trans (congrArg _ (State.when_true hmaster _)), hwait, hq, hholders, hsent, hparts.mono (by decide), hregs⟩
  case alone =>
    intro s hlive hserve hdelay hwant
    obtain ⟨u, hspin, hlocal, heb, htick⟩ := State.localSpin_alone hdelay hwant hserve
    exact ⟨u, (next_whileLive_of_live hlive _).trans (congrArg _ hspin), hlocal, congrArg EbSt.localDelay heb, (congrArg EbSt.startWant heb).trans hwant, htick,
      (congrArg EbSt.tx heb :)⟩

end Sys2Proof.Machine
end


section
/-! SUPPORT. Access to the shared bus, the frames received from it and HEALTH (O52, R326, R589 to R596, R604). -/
namespace Sys2Proof.Machine

/-! ### What a frame is made of (R594, R595) -/

theorem OnlyParts.ebId_eq {ps : List Part} {s t : State} (h : OnlyParts ps s t) (hps : Part.acc ∉ ps) : t.ebId = s.ebId := by
  simp only [State.ebId, State.enclId, State.bay, State.plcaNode, h.enclCfg_eq hps]

theorem State.enclTime_congr {s t : State} (htick : t.tick = s.tick) (hoff : t.fld EB_ETOFF.OFFSET = s.fld EB_ETOFF.OFFSET) : t.enclTime = s.enclTime := by
  rw [State.enclTime, htick, hoff, State.enclTime]

/-- A HEALTH body is made of registers of other units, of the pins and of the power state alone. -/
theorem State.healthBody_congr {s t : State} (hparts : OnlyParts [.regs, .tickMem, .eb] s t) (hregs : OnlyRegs [EB_STAT.REG.addr, EB_RX.REG.addr] s t) :
    t.healthBody = s.healthBody := by
  have hfld (g : Fld) (hg : g.addr ∉ [EB_STAT.REG.addr, EB_RX.REG.addr]) : t.fld g = s.fld g := State.fld_of_onlyRegs hregs hg
  have hpins : t.pins = s.pins := hparts.2 .pins (by decide)
  have hpower : t.power = s.power := hparts.2 .power (by decide)
  simp only [State.healthBody, State.healthState, State.alertAsserted, State.alertLatched, State.alertSpare, State.alertVmride, State.alertThermal, State.bit,
    hpins, hpower, hfld FB_STAT.BASENOTE (by decide), hfld PW_STAT.STATE (by decide), hfld SP_STAT.STATE (by decide), hfld TH_STAT.TJ (by decide),
    hfld ⟨FB_ALERT.REG.addr, 8, 3⟩ (by decide), hfld PX_STAT.SPAREOUT (by decide), hfld PW_STAT.VMSTATE (by decide), hfld TH_STAT.STATE (by decide),
    hfld TH_STAT.BLIND (by decide), hfld PX_STAT.REBUILD (by decide), hfld EB_TOKEN.HELD (by decide), hfld SP_SPEED.SPEED (by decide), hfld PW_VM.VM (by decide),
    hfld PX_FAILED.SURF (by decide), hfld AC_GEN.GEN (by decide), hfld PL_STAT.STATE (by decide)]
  rfl

/-- What two states of the unit share that differ in what is queued alone. -/
theorem EbSt.kept {e f : EbSt} (h : e.unsent = f.unsent) :
    e.seq = f.seq ∧ e.lastSent = f.lastSent ∧ e.cycle = f.cycle ∧ e.sentCycle = f.sentCycle ∧ e.queue = f.queue ∧ e.holders = f.holders :=
  ⟨(congrArg EbSt.seq h :), (congrArg EbSt.lastSent h :), (congrArg EbSt.cycle h :), (congrArg EbSt.sentCycle h :), (congrArg EbSt.queue h :), (congrArg EbSt.holders h :)⟩

theorem State.ebLoad_of_idle {s : State} (h : s.eb.tx = []) : s.ebLoad = s := by
  unfold State.ebLoad
  split
  · rfl
  · rw [h]
    rfl

/-- With an empty buffer and nothing waiting a HEALTH is formed at once. -/
theorem State.sendHealth_idle {s : State} (hserve : s.isServing .DE = true) (hbuf : s.eb.buf = none) (htx : s.eb.tx = []) (dst : Option (Nat × Nat)) :
    s.sendHealth dst = s.modEb (fun e => { e with
      tx := [], buf := some ⟨⟨ebHealth, dst, s.healthBody⟩, s.enclTime, 0⟩, health := s.healthBody, phyId := s.ebId }) := by
  have hparts : OnlyParts [.eb] s (s.modEb (fun e => { e with tx := e.tx ++ [⟨ebHealth, dst, []⟩] })) := .modEb (by decide) s _
  have hbody := State.healthBody_congr (hparts.mono (by decide)) (OnlyRegs.modEb _ s _)
  have hserve' := (hparts.isServing_eq (by decide) .DE).trans hserve
  have htime := State.enclTime_congr (hparts.2 .tick (by decide)) (State.fld_modEb s (fun e => { e with tx := e.tx ++ [⟨ebHealth, dst, []⟩] }) _)
  have hwaits : (s.modEb (fun e => { e with tx := e.tx ++ [⟨ebHealth, dst, []⟩] })).eb.tx = [⟨ebHealth, dst, []⟩] := by simp [State.modEb, htx]
  have hempty : (s.modEb (fun e => { e with tx := e.tx ++ [⟨ebHealth, dst, []⟩] })).eb.buf = none := hbuf
  have hid := hparts.ebId_eq (by decide)
  rw [State.sendHealth, State.ebSend_of_serving hserve]
  unfold State.ebLoad
  rw [if_neg (by rw [hserve', hempty]; decide), hbody, htime, hid]
  simp only [hwaits, ebNext, if_true]
  simp [State.modEb, htx]

/-- A HEALTH called for while a frame is loaded waits. -/
theorem State.sendHealth_loaded {s : State} {l : EbLoaded} (hserve : s.isServing .DE = true) (hbuf : s.eb.buf = some l) (dst : Option (Nat × Nat)) :
    s.sendHealth dst = s.modEb (fun e => { e with tx := e.tx ++ [⟨ebHealth, dst, []⟩] }) := by
  have hfull : (s.modEb (fun e => { e with tx := e.tx ++ [⟨ebHealth, dst, []⟩] })).eb.buf ≠ none := by simp [State.modEb, hbuf]
  rw [State.sendHealth, State.ebSend_of_serving hserve, State.ebLoad_of_loaded hfull]

theorem State.healthWatch_parts (s : State) : OnlyParts [.eb] s s.healthWatch := by
  unfold State.healthWatch
  split
  · exact s.ebSend_parts _ _ _
  · exact .refl _ s

theorem State.healthWatch_unsent (s : State) : s.healthWatch.eb.unsent = s.eb.unsent := by
  unfold State.healthWatch
  split
  · exact s.ebSend_unsent _ _ _
  · rfl

/-- A change of what HEALTH shows, with no HEALTH waiting, calls for one. -/
theorem State.healthWatch_changed {s : State} (hchanged : healthFields s.healthBody ≠ healthFields s.eb.health) (hnone : ∀ f ∈ s.eb.tx, f.type ≠ ebHealth) :
    s.healthWatch = s.sendHealth none := by
  refine if_pos ?_
  simp only [Bool.and_eq_true, bne_iff_ne, ne_eq, hchanged, not_false_iff, Bool.not_eq_true', List.any_eq_false, beq_iff_eq, true_and]
  exact hnone

/-! ### Sending (R590, R591) -/

/-- A frame that leaves: its bytes, the next SEQ and the count. -/
structure State.Emitted (s : State) (id : Nat × Nat × Nat) (etime : Nat) (f : EbFrame) (t : State) : Prop where
  seq : t.eb.seq = (s.eb.seq + 1) % 65536
  lastSent : t.eb.lastSent = etherFrame id f.dst (ebPayload id s.eb.seq etime f)
  sent : t.fld EB_TX.SENT = Nat.min (s.fld EB_TX.SENT + 1) 65535
  defer : t.fld EB_TX.DEFER = s.fld EB_TX.DEFER
  parts : OnlyParts [.regs, .tickMem, .eb] s t
  regs : OnlyRegs [EB_TX.REG.addr] s t

theorem State.fld_bump_other (s : State) {f g : Fld} (hf : f.ok = true) (hg : g.ok = true) (h : f.apart g = true) : (s.bump f).fld g = s.fld g :=
  State.fld_setFld_other s f g _ hg hf h

theorem State.fld_setBit_other (s : State) {f g : Fld} (hf : f.ok = true) (hg : g.ok = true) (h : f.apart g = true) : (s.setBit f).fld g = s.fld g :=
  State.fld_setFld_other s f g 1 hg hf h

theorem State.fld_clrBit_other (s : State) {f g : Fld} (hf : f.ok = true) (hg : g.ok = true) (h : f.apart g = true) : (s.clrBit f).fld g = s.fld g :=
  State.fld_setFld_other s f g 0 hg hf h

theorem State.ebEmit_emitted (s : State) (id : Nat × Nat × Nat) (etime : Nat) (f : EbFrame) : s.Emitted id etime f (s.ebEmit id etime f) := by
  unfold State.ebEmit
  have hset := State.fld_modEb s (fun e => { e with seq := (e.seq + 1) % 65536, lastSent := etherFrame id f.dst (ebPayload id e.seq etime f) })
  refine ⟨rfl, rfl, ?_, ?_, (OnlyParts.modEb (by decide) s _).trans (.bump (by decide) (by decide) _ _), (OnlyRegs.modEb _ s _).trans (.bump _ _ (by decide))⟩
  · rw [State.fld_bump_same _ _ (by decide), hset]
    rfl
  · rw [State.fld_bump_other _ (by decide) (by decide) (by decide), hset]

theorem State.ebEmit_health (s : State) (id : Nat × Nat × Nat) (etime : Nat) (f : EbFrame) : (s.ebEmit id etime f).eb.health = s.eb.health := rfl

theorem State.ebEmit_waits (s : State) (id : Nat × Nat × Nat) (etime : Nat) (f : EbFrame) :
    (s.ebEmit id etime f).eb.tx = s.eb.tx ∧ (s.ebEmit id etime f).eb.queue = s.eb.queue ∧ (s.ebEmit id etime f).eb.holders = s.eb.holders := ⟨rfl, rfl, rfl⟩

/-- The frame in the buffer leaves, and the next is loaded. -/
theorem State.ebTransmit_emitted {s : State} {l : EbLoaded} (hbuf : s.eb.buf = some l) :
    s.Emitted s.ebId (if l.frame.type = ebTick then s.enclTime else l.etime) l.frame s.ebTransmit ∧ s.ebTransmit.eb.sentCycle = true ∧
    (s.eb.tx = [] → s.ebTransmit.eb.buf = none ∧ s.ebTransmit.eb.tx = []) ∧ s.ebTransmit.eb.queue = s.eb.queue ∧ s.ebTransmit.eb.holders = s.eb.holders := by
  have htransmit : s.ebTransmit = ((s.ebEmit s.ebId (if l.frame.type = ebTick then s.enclTime else l.etime) l.frame).modEb
      (fun e => { e with buf := none, sentCycle := true })).ebLoad := by
    rw [State.ebTransmit]
    simp only [hbuf]
  obtain ⟨hseq, hlast, hsent, hdefer, hparts, hregs⟩ := s.ebEmit_emitted s.ebId (if l.frame.type = ebTick then s.enclTime else l.etime) l.frame
  obtain ⟨htx, hqueue, hholders⟩ := s.ebEmit_waits s.ebId (if l.frame.type = ebTick then s.enclTime else l.etime) l.frame
  rw [htransmit]
  generalize s.ebEmit s.ebId (if l.frame.type = ebTick then s.enclTime else l.etime) l.frame = v at hseq hlast hsent hdefer hparts hregs htx hqueue hholders
  have hload := (v.modEb (fun e => { e with buf := none, sentCycle := true })).ebLoad_parts
  obtain ⟨hseq', hlast', -, hcycle', hqueue', hholders'⟩ := EbSt.kept (v.modEb (fun e => { e with buf := none, sentCycle := true })).ebLoad_unsent
  have hfld (g : Fld) : (v.modEb (fun e => { e with buf := none, sentCycle := true })).ebLoad.fld g = v.fld g :=
    (congrFun (hload.fld_eq (by decide)) g).trans (State.fld_modEb v _ g)
  refine ⟨⟨?_, ?_, (hfld _).trans hsent, (hfld _).trans hdefer, ?_, ?_⟩, ?_, fun hnone => ?_, ?_, ?_⟩
  · exact hseq'.trans hseq
  · exact hlast'.trans hlast
  · exact hparts.trans ((OnlyParts.modEb (by decide) v _).trans (hload.mono (by decide)))
  · exact hregs.trans ((OnlyRegs.modEb _ v _).trans (.of_regs (hload.2 .regs (by decide))))
  · exact hcycle'
  · have hidle : (v.modEb (fun e => { e with buf := none, sentCycle := true })).eb.tx = [] := htx.trans hnone
    rw [State.ebLoad_of_idle hidle]
    exact ⟨rfl, hidle⟩
  · exact hqueue'.trans hqueue
  · exact hholders'.trans hholders

/-! ### BEACONs and collisions (R589, R592, R593) -/

/-- A BEACON under PLCA, before HEALTH is looked at. -/
def State.beaconed (s : State) : State :=
  (((s.setBit EB_STAT.PLCAOK).clrBit EB_STAT.CSMA).setFld EB_STAT.COORD (if s.plcaNode = 0 then 1 else 0)).modEb
    (fun e => { e with cycle := e.cycle + 1, sentCycle := false })

theorem State.plcaBeacon_of_on {s : State} (h : s.plcaOn = true) : s.plcaBeacon = s.beaconed.healthWatch := if_neg (by simp [h])

theorem State.beaconed_parts (s : State) : OnlyParts [.regs, .tickMem, .eb] s s.beaconed :=
  ((OnlyParts.setBit (by decide) (by decide) s _).trans (.setFld (by decide) _ _ _)).trans ((OnlyParts.setFld (by decide) _ _ _).trans (.modEb (by decide) _ _))

theorem State.beaconed_regs (s : State) : OnlyRegs [EB_STAT.REG.addr] s s.beaconed :=
  ((OnlyRegs.setBit s _ (by decide)).trans (.setFld _ _ _ (by decide))).trans ((OnlyRegs.setFld _ _ _ (by decide)).trans (.modEb _ _ _))

theorem State.fld_beaconed (s : State) : s.beaconed.fld EB_STAT.PLCAOK = 1 ∧ s.beaconed.fld EB_STAT.CSMA = 0 ∧
    s.beaconed.fld EB_STAT.COORD = (if s.plcaNode = 0 then 1 else 0) := by
  unfold State.beaconed
  refine ⟨?_, ?_, ?_⟩ <;> rw [State.fld_modEb]
  · rw [State.fld_setFld_other _ _ _ _ (by decide) (by decide) (by decide), State.fld_clrBit_other _ (by decide) (by decide) (by decide)]
    exact State.fld_setFld_same s _ 1 (by decide)
  · rw [State.fld_setFld_other _ _ _ _ (by decide) (by decide) (by decide)]
    exact (State.fld_setFld_same _ _ 0 (by decide)).trans (Nat.zero_mod _)
  · rw [State.fld_setFld_same _ _ _ (by decide)]
    split <;> rfl

/-- The other fields of EB_STAT stay. -/
theorem State.fld_beaconed_other (s : State) {g : Fld} (hg : g.ok = true) (hok : EB_STAT.PLCAOK.apart g = true) (hcsma : EB_STAT.CSMA.apart g = true)
    (hcoord : EB_STAT.COORD.apart g = true) : s.beaconed.fld g = s.fld g := by
  rw [State.beaconed, State.fld_modEb, State.fld_setFld_other _ _ _ _ hg (by decide) hcoord, State.fld_clrBit_other _ (by decide) hg hcsma,
    State.fld_setBit_other _ (by decide) hg hok]

/-- The loss of BEACONs. -/
def State.unbeaconed (s : State) : State := (s.clrBit EB_STAT.PLCAOK).setBit EB_STAT.CSMA

theorem State.fld_unbeaconed_other (s : State) {g : Fld} (hg : g.ok = true) (hok : EB_STAT.PLCAOK.apart g = true) (hcsma : EB_STAT.CSMA.apart g = true) :
    s.unbeaconed.fld g = s.fld g := by
  rw [State.unbeaconed, State.fld_setBit_other _ (by decide) hg hcsma, State.fld_clrBit_other _ (by decide) hg hok]

/-- A collision counted under PLCA. -/
def State.collided (s : State) : State := (s.bump EB_COLL.COLL).modEb (fun e => { e with colls := recent s.tick (secTicks 1) e.colls })

theorem State.collided_parts (s : State) : OnlyParts [.regs, .tickMem, .eb] s s.collided :=
  (OnlyParts.bump (by decide) (by decide) s _).trans (.modEb (by decide) _ _)

theorem State.collided_regs (s : State) : OnlyRegs [EB_COLL.REG.addr] s s.collided := (OnlyRegs.bump s _ (by decide)).trans (.modEb _ _ _)

theorem State.fld_collided_addr (s : State) {g : Fld} (hg : EB_COLL.COLL.addr ≠ g.addr) : s.collided.fld g = s.fld g := by
  rw [State.collided, State.fld_modEb, State.fld_bump_addr _ hg]

theorem State.collision_of_plca {s : State} (hcsma : s.bit EB_STAT.CSMA = false) :
    s.collision = if 16 ≤ (recent s.tick (secTicks 1) s.eb.colls).length ∧ s.bit EB_STAT.MISCFG = false then
      ((s.collided.setBit EB_STAT.MISCFG).setBit FB_ALERT.ENCL).record 0x1401 (leBytes 2 (s.collided.fld EB_COLL.COLL) ++ zeros 2) else s.collided := by
  have hcounted : (s.bump EB_COLL.COLL).when (!s.bit EB_STAT.CSMA) (fun t => t.modEb (fun e => { e with colls := recent s.tick (secTicks 1) e.colls })) = s.collided :=
    State.when_true (by simp [hcsma]) _
  have hcsma' : s.collided.bit EB_STAT.CSMA = false := by
    rw [State.bit, s.fld_collided_addr (by decide)]
    exact hcsma
  have hmiscfg : s.collided.bit EB_STAT.MISCFG = s.bit EB_STAT.MISCFG := by rw [State.bit, s.fld_collided_addr (by decide), State.bit]
  have hcolls : s.collided.eb.colls = recent s.tick (secTicks 1) s.eb.colls := rfl
  rw [State.collision]
  simp only [hcounted, hcsma', hmiscfg, hcolls, Bool.not_false, Bool.true_and, Bool.and_eq_true, decide_eq_true_eq, Bool.not_eq_true']

theorem State.collision_of_csma {s : State} (hcsma : s.bit EB_STAT.CSMA = true) : s.collision = s.bump EB_COLL.COLL := by
  have hcounted : (s.bump EB_COLL.COLL).when (!s.bit EB_STAT.CSMA) (fun t => t.modEb (fun e => { e with colls := recent s.tick (secTicks 1) e.colls })) =
      s.bump EB_COLL.COLL := State.when_false (by simp [hcsma]) _
  have hcsma' : (s.bump EB_COLL.COLL).bit EB_STAT.CSMA = true := by
    rw [State.bit, State.fld_bump_addr _ (by decide)]
    exact hcsma
  rw [State.collision]
  simp only [hcounted, hcsma', Bool.not_true, Bool.false_and, Bool.false_eq_true, if_false]

/-! ### Backoff (R592) -/

/-- What is loaded next starts anew. -/
theorem State.attempts_ebLoad {s : State} {l : EbLoaded} (hempty : s.eb.buf = none) (hl : s.ebLoad.eb.buf = some l) : l.attempts = 0 := by
  obtain h | ⟨d, b, -, h⟩ | ⟨f, -, -, h⟩ := s.ebLoad_cases <;> rw [h] at hl
  · exact absurd (hempty.symm.trans hl) (by simp)
  · rw [← Option.some.inj hl]
  · rw [← Option.some.inj hl]

/-- A frame discarded at its sixteenth attempt. -/
theorem State.backoff_discards {s : State} {l : EbLoaded} (hbuf : s.eb.buf = some l) (hcsma : s.bit EB_STAT.CSMA = true) (hlast : 15 ≤ l.attempts) :
    (s.eb.tx = [] → s.backoff.eb.buf = none) ∧ s.backoff.eb.buf ≠ some l ∧ s.backoff.fld EB_COLL.DISCARD = Nat.min (s.fld EB_COLL.DISCARD + 1) 65535 ∧
    s.backoff.fld EB_COLL.COLL = s.fld EB_COLL.COLL ∧ OnlyParts [.regs, .tickMem, .eb] s s.backoff ∧ OnlyRegs [EB_COLL.REG.addr] s s.backoff := by
  have hbackoff : s.backoff = ((s.modEb (fun e => { e with buf := none })).bump EB_COLL.DISCARD).ebLoad := by
    rw [State.backoff]
    simp only [hbuf]
    rw [if_neg (by simp [hcsma]), if_pos (by omega)]
  have hcount : ((s.modEb (fun e => { e with buf := none })).bump EB_COLL.DISCARD).fld EB_COLL.DISCARD = Nat.min (s.fld EB_COLL.DISCARD + 1) 65535 := by
    rw [State.fld_bump_same _ _ (by decide), State.fld_modEb]
    rfl
  have hcoll : ((s.modEb (fun e => { e with buf := none })).bump EB_COLL.DISCARD).fld EB_COLL.COLL = s.fld EB_COLL.COLL := by
    rw [State.fld_bump_other _ (by decide) (by decide) (by decide), State.fld_modEb]
  have hparts : OnlyParts [.regs, .tickMem, .eb] s ((s.modEb (fun e => { e with buf := none })).bump EB_COLL.DISCARD) :=
    (OnlyParts.modEb (by decide) s _).trans (.bump (by decide) (by decide) _ _)
  have hregs : OnlyRegs [EB_COLL.REG.addr] s ((s.modEb (fun e => { e with buf := none })).bump EB_COLL.DISCARD) :=
    (OnlyRegs.modEb _ s _).trans (.bump _ _ (by decide))
  have hempty : ((s.modEb (fun e => { e with buf := none })).bump EB_COLL.DISCARD).eb.buf = none := rfl
  have htx : ((s.modEb (fun e => { e with buf := none })).bump EB_COLL.DISCARD).eb.tx = s.eb.tx := rfl
  rw [hbackoff]
  generalize (s.modEb (fun e => { e with buf := none })).bump EB_COLL.DISCARD = u at hcount hcoll hparts hregs hempty htx
  have hload := u.ebLoad_parts
  have hfld := hload.fld_eq (by decide)
  refine ⟨fun hnone => ?_, fun hl => ?_, (congrFun hfld _).trans hcount, (congrFun hfld _).trans hcoll, hparts.trans (hload.mono (by decide)),
    hregs.trans (.of_regs (hload.2 .regs (by decide)))⟩
  · rw [State.ebLoad_of_idle (htx.trans hnone), hempty]
  · have hanew := State.attempts_ebLoad hempty hl
    omega

theorem State.backoff_retries {s : State} {l : EbLoaded} (hbuf : s.eb.buf = some l) (hcsma : s.bit EB_STAT.CSMA = true) (hmore : l.attempts < 15) :
    s.backoff = s.modEb (fun e => { e with buf := some { l with attempts := l.attempts + 1 } }) := by
  rw [State.backoff]
  simp only [hbuf]
  rw [if_neg (by simp [hcsma]), if_neg (by omega)]

/-! ### Queries (R604, R605) -/

theorem exec_hquery (s : State) (h : EbHdr) (node : Nat) : exec (.hquery h node) s = .next (s.hqueryFrame h node) := rfl

/-- A query for this node or all, where no HEALTH for the group is loaded. -/
theorem State.hqueryFrame_asked {s t : State} {h : EbHdr} {node : Nat} (ht : s.Heard t) (hrecv : ∀ f : State → State, s.ebRecv h f = f t) (hlive : s.live = true)
    (hserve : s.isServing .DE = true) (hnode : node = 255 ∨ node = s.plcaNode)
    (hfree : s.eb.buf.any (fun l => l.frame.type == ebHealth && l.frame.dst.isNone) = false) : s.hqueryFrame h node = t.sendHealth (some (h.bay, h.node)) := by
  have hmine : ¬((node != 0xFF && node != t.plcaNode) = true) := by
    rw [ht.plcaNode]
    rcases hnode with rfl | rfl <;> simp
  rw [State.hqueryFrame, if_pos (by simp [hlive, hserve]), hrecv, if_neg hmine, ht.eb, if_neg (by simp [hfree])]

/-- Where the domain is not in service the PHY answers from its copy. -/
theorem State.hqueryFrame_phy {s : State} {h : EbHdr} {node : Nat} (hout : (s.live && s.isServing .DE) = false) (hawake : s.awake = true)
    (hencl : h.enclid = s.eb.phyId.1) (hnode : node = 255 ∨ node = s.eb.phyId.2.2) (hcopy : s.eb.health ≠ []) :
    s.hqueryFrame h node = s.ebEmit s.eb.phyId s.enclTime ⟨ebHealth, some (h.bay, h.node),
      (if s.power.hibernate then [BitVec.ofNat 8 3] else if s.power.phase == .hold then [BitVec.ofNat 8 4] else s.eb.health.take 1) ++ s.eb.health.drop 1⟩ := by
  have hmine : ¬((h.enclid != s.eb.phyId.1 || (node != 0xFF && node != s.eb.phyId.2.2) || s.eb.health == []) = true) := by
    rcases hnode with rfl | rfl <;> simp [hencl, hcopy]
  rw [State.hqueryFrame, if_neg (by simp [hout]), if_neg (by simp [hawake])]
  exact if_neg hmine

/-! ### Seek announcements (R326) -/

theorem OnlyParts.svSect_eq {ps : List Part} {s t : State} (h : OnlyParts ps s t) (hps : Part.acc ∉ ps) (a : Act) : t.svSect a = s.svSect a := by
  have hacc : t.acc = s.acc := h.2 .acc hps
  rw [State.svSect, hacc, State.svSect]

theorem OnlyParts.svRows_eq {ps : List Part} {s t : State} (h : OnlyParts ps s t) (hps : Part.acc ∉ ps) (a : Act) : t.svRows a = s.svRows a := by
  funext id
  rw [State.svRows, h.svSect_eq hps, State.svRows]

theorem OnlyParts.svRow_eq {ps : List Part} {s t : State} (h : OnlyParts ps s t) (hps : Part.acc ∉ ps) (a : Act) : t.svRow a = s.svRow a := by
  funext id row size off n
  rw [State.svRow, h.svSect_eq hps, State.svRow]

/-- A table without rows beyond its header lists no bay. -/
theorem State.announceTo_unlisted {s : State} {a : Act} (hrows : s.svRows a 0x0006 ≤ 1) (h : EbHdr) (step start : Nat) (prof : List Int) :
    s.announceTo a h step start prof = s := by
  have hnone : (List.range (s.svRows a 0x0006)).find?
      (fun r => r != 0 && decide (ofTwos 8 (s.svRow a 0x0006 r 16 0 1) = (h.bay : Int) - s.bay)) = none := by
    refine List.find?_eq_none.mpr (fun r hr => ?_)
    have hzero : r = 0 := by
      have := List.mem_range.mp hr
      omega
    simp [hzero]
  rw [State.announceTo]
  simp only [hnone]

/-- The announcement an actuator keeps. -/
def State.announced (s : State) (a : Act) (step start : Nat) (prof : List Int) (r : Nat) : Announce :=
  ⟨(s.tick : Int) + ofTwos 32 (toTwos 32 ((start : Int) - s.enclTime)) * 25, step, prof, ofTwos 16 (s.svRow a 0x0006 r 16 2 2), s.svRow a 0x0006 r 16 4 2⟩

/-- A listed bay's announcement, in time and before its start, is kept and counted. -/
theorem State.announceTo_kept {s : State} {a : Act} {h : EbHdr} {step start r : Nat} {prof : List Int}
    (hrow : (List.range (s.svRows a 0x0006)).find? (fun r => r != 0 && decide (ofTwos 8 (s.svRow a 0x0006 r 16 0 1) = (h.bay : Int) - s.bay)) = some r)
    (hage : ofTwos 32 (toTwos 32 ((s.enclTime : Int) - h.etime)) ≤ (s.svRow a 0x0006 0 16 6 2 * 1000 : Nat))
    (hahead : 0 ≤ ofTwos 32 (toTwos 32 ((start : Int) - s.enclTime))) :
    s.announceTo a h step start prof = (s.modSv a (fun v => { v with announces := (s.announced a step start prof r :: v.announces).take 8 })).bump
      (SV_FF.APPLIED (actNum a)) := by
  rw [State.announceTo]
  simp only [hrow]
  rw [if_neg (Int.not_lt.mpr hage), State.when_false (decide_eq_false (Int.not_lt.mpr hahead))]
  rfl

/-! ### The clauses of transmission and of collisions -/

theorem State.opportunity_sends {s : State} {l : EbLoaded} (hbuf : s.healthWatch.eb.buf = some l) (hfree : s.eb.sentCycle = false ∨ s.bit EB_STAT.CSMA = true) :
    s.opportunity false = s.healthWatch.ebTransmit := by
  have hfld := s.healthWatch_parts.fld_eq (by decide)
  obtain ⟨-, -, -, hsent, -, -⟩ := EbSt.kept s.healthWatch_unsent
  rw [State.opportunity]
  rw [if_neg (by simp [hbuf]), if_neg (by decide), if_neg]
  rw [hsent, State.bit, hfld]
  rcases hfree with h | h
  · simp [h]
  · rw [State.bit] at h
    simp [h]

theorem State.opportunity_late {s : State} (hbuf : s.healthWatch.eb.buf ≠ none) : s.opportunity true = s.healthWatch.bump EB_TX.DEFER := by
  rw [State.opportunity]
  rw [if_neg (by simpa using hbuf), if_pos rfl]

theorem State.eb_bump (s : State) (f : Fld) : (s.bump f).eb = s.eb := rfl

theorem State.opportunity_spent {s : State} (hsent : s.eb.sentCycle = true) (hcsma : s.bit EB_STAT.CSMA = false) : s.opportunity false = s.healthWatch := by
  have hfld := s.healthWatch_parts.fld_eq (by decide)
  obtain ⟨-, -, -, hkept, -, -⟩ := EbSt.kept s.healthWatch_unsent
  rw [State.opportunity]
  split
  · rfl
  · rw [if_neg (by decide), if_pos]
    rw [hkept, hsent, State.bit, hfld]
    rw [State.bit] at hcsma
    simp [hcsma]

theorem State.opportunity_idle {s : State} (hbuf : s.healthWatch.eb.buf = none) (late : Bool) : s.opportunity late = s.healthWatch :=
  if_pos (by simp [hbuf])

/-- A misconfigured segment is marked and told of (R593). -/
theorem State.collision_misconfigured {s : State} (hmany : 16 ≤ (recent s.tick (secTicks 1) s.eb.colls).length) (hcsma : s.bit EB_STAT.CSMA = false) :
    s.collision.bit EB_STAT.MISCFG = true ∧ (s.bit EB_STAT.MISCFG = false → s.collision.bit FB_ALERT.ENCL = true) ∧
    s.collision.bit EB_STAT.PLCAOK = s.bit EB_STAT.PLCAOK ∧ s.collision.eb.tx = s.eb.tx := by
  rw [State.collision_of_plca hcsma]
  cases hmis : s.bit EB_STAT.MISCFG
  · rw [if_pos ⟨hmany, rfl⟩]
    have hframe := State.record_frame ((s.collided.setBit EB_STAT.MISCFG).setBit FB_ALERT.ENCL) 0x1401 (leBytes 2 (s.collided.fld EB_COLL.COLL) ++ zeros 2)
    have hfld (g : Fld) (hg : g.addr ∉ recordRegs) := State.fld_of_onlyRegs hframe.regs hg
    have heb := hframe.parts.2 .eb (by decide)
    generalize ((s.collided.setBit EB_STAT.MISCFG).setBit FB_ALERT.ENCL).record 0x1401 (leBytes 2 (s.collided.fld EB_COLL.COLL) ++ zeros 2) = u at hfld heb
    refine ⟨?_, fun _ => ?_, ?_, ?_⟩
    · rw [State.bit, hfld _ (by decide), State.fld_setBit_addr _ (by decide)]
      exact State.bit_setBit_same _ _ (by decide)
    · rw [State.bit, hfld _ (by decide)]
      exact State.bit_setBit_same _ _ (by decide)
    · rw [State.bit, hfld _ (by decide), State.fld_setBit_addr _ (by decide), State.fld_setBit_other _ (by decide) (by decide) (by decide),
        s.fld_collided_addr (by decide), State.bit]
    · exact (congrArg EbSt.tx heb :)
  · rw [if_neg (by simp)]
    refine ⟨?_, fun h => absurd h (by decide), ?_, rfl⟩
    · rw [State.bit, s.fld_collided_addr (by decide)]
      exact hmis
    · rw [State.bit, s.fld_collided_addr (by decide), State.bit]

/-- Frames of another enclosure, of any kind, are counted and ignored (R594). -/
theorem State.hqueryFrame_foreign {s : State} {h : EbHdr} (node : Nat) (hlive : s.live = true) (hserve : s.isServing .DE = true) (hencl : h.enclid ≠ s.enclId) :
    s.hqueryFrame h node = s.bump EB_RX.FOREIGN := by
  rw [State.hqueryFrame, if_pos (by simp [hlive, hserve])]
  exact State.ebRecv_foreign hserve hencl _

/-- Settles O52. What a HEALTH shows is the same before and after the bus's own registers change. -/
theorem theSharedBus : Obligations.the_shared_bus := by
  refine ⟨?sends, ?late, ?spent, ?idle, ?announces, ?beacon, ?beaconLoss, ?fewCollisions, ?csmaCollision, ?manyCollisions, ?discards, ?retries, ?unknownType,
    ?unknownNode, ?foreign, ?out, ?health, ?healthWaits, ?healthGoes, ?queryWaits, ?queryGoes, ?queryStands, ?copy, ?hibernating, ?wakes, ?sleepsOn, ?wakeCounted,
    ?seekUnlisted, ?seekKept⟩
  case sends =>
    intro s l hlive hbuf hfree
    obtain ⟨⟨hseq, hlast, hsent, hdefer, hparts, hregs⟩, hcycle, hnext, hqueue, hholders⟩ := State.ebTransmit_emitted hbuf
    have hwatch := s.healthWatch_parts
    obtain ⟨hnumber, -, -, -, hqueued, hheld⟩ := EbSt.kept s.healthWatch_unsent
    have htime : s.healthWatch.enclTime = s.enclTime := State.enclTime_congr (hwatch.2 .tick (by decide)) (congrFun (hwatch.fld_eq (by decide)) _)
    rw [hnumber] at hseq hlast
    rw [hwatch.ebId_eq (by decide), htime] at hlast
    rw [hwatch.fld_eq (by decide)] at hsent hdefer
    exact ⟨_, (next_whileLive_of_live hlive _).trans (congrArg _ (State.opportunity_sends hbuf hfree)), hseq, hlast, hsent, hdefer, hcycle, hnext,
      hqueue.trans hqueued, hholders.trans hheld, (hwatch.mono (by decide)).trans hparts,
      (OnlyRegs.of_regs (hwatch.2 .regs (by decide))).trans hregs⟩
  case late =>
    intro s hlive hbuf
    have hwatch := s.healthWatch_parts
    have hfld := hwatch.fld_eq (by decide)
    refine ⟨_, (next_whileLive_of_live hlive _).trans (congrArg _ (State.opportunity_late hbuf)), ?_, ?_, State.eb_bump _ _, ?_, ?_⟩
    · rw [State.fld_bump_same _ _ (by decide), hfld]
      rfl
    · rw [State.fld_bump_other _ (by decide) (by decide) (by decide), hfld]
    · exact (hwatch.mono (by decide)).trans (.bump (by decide) (by decide) _ _)
    · exact (OnlyRegs.of_regs (hwatch.2 .regs (by decide))).trans (.bump _ _ (by decide))
  case spent =>
    intro s hlive hsent hcsma
    exact (next_whileLive_of_live hlive _).trans (congrArg _ (State.opportunity_spent hsent hcsma))
  case idle =>
    intro s late hlive hbuf
    exact (next_whileLive_of_live hlive _).trans (congrArg _ (State.opportunity_idle hbuf late))
  case announces =>
    intro s l hlive hserve hbuf hchanged hnone hon
    have hbody := State.healthBody_congr s.beaconed_parts (s.beaconed_regs.mono (by decide))
    have hwatch : s.beaconed.healthWatch = s.beaconed.sendHealth none := State.healthWatch_changed (by rw [hbody]; exact hchanged) hnone
    have hsend := hwatch.trans (State.sendHealth_loaded ((s.beaconed_parts.isServing_eq (by decide) .DE).trans hserve) hbuf none)
    exact ⟨_, (next_whileLive_of_live hlive _).trans (congrArg _ ((State.plcaBeacon_of_on hon).trans hsend)), rfl, hbuf⟩
  case beacon =>
    intro s hlive hon
    obtain ⟨hok, hcsma, hcoord⟩ := s.fld_beaconed
    have hwatch := s.beaconed.healthWatch_parts
    obtain ⟨-, -, hcount, hfresh, -, -⟩ := EbSt.kept s.beaconed.healthWatch_unsent
    have hfld := hwatch.fld_eq (by decide)
    refine ⟨_, (next_whileLive_of_live hlive _).trans (congrArg _ (State.plcaBeacon_of_on hon)), ?_, ?_, ?_, ?_, ?_, ?_, hcount, hfresh,
      s.beaconed_parts.trans (hwatch.mono (by decide)), s.beaconed_regs.trans (.of_regs (hwatch.2 .regs (by decide)))⟩
    · rw [State.bit, hfld, hok]
      rfl
    · rw [State.bit, hfld, hcsma]
      rfl
    · rw [State.bit, hfld, hcoord]
      by_cases h : s.plcaNode = 0 <;> simp [h]
    · rw [hfld, s.fld_beaconed_other (by decide) (by decide) (by decide) (by decide)]
    · rw [State.bit, hfld, s.fld_beaconed_other (by decide) (by decide) (by decide) (by decide), State.bit]
    · rw [State.bit, hfld, s.fld_beaconed_other (by decide) (by decide) (by decide) (by decide), State.bit]
  case beaconLoss =>
    intro s hlive
    refine ⟨s.unbeaconed, next_whileLive_of_live hlive _, ?_, State.bit_setBit_same _ _ (by decide), s.fld_unbeaconed_other (by decide) (by decide) (by decide),
      ?_, ?_, ?_, ?_, ?_⟩
    · rw [State.bit, State.unbeaconed, State.fld_setBit_other _ (by decide) (by decide) (by decide)]
      exact State.bit_clrBit_same s _ (by decide)
    · rw [State.bit, s.fld_unbeaconed_other (by decide) (by decide) (by decide), State.bit]
    · rw [State.bit, s.fld_unbeaconed_other (by decide) (by decide) (by decide), State.bit]
    · rw [State.bit, s.fld_unbeaconed_other (by decide) (by decide) (by decide), State.bit]
    · exact (OnlyParts.setFld (by decide) s _ _).trans (.setBit (by decide) (by decide) _ _)
    · exact (OnlyRegs.setFld s _ _ (by decide)).trans (.setBit _ _ (by decide))
  case fewCollisions =>
    intro s hlive hcsma hfew
    refine ⟨s.collided, (next_whileLive_of_live hlive _).trans (congrArg _ ((State.collision_of_plca hcsma).trans (if_neg (by omega)))), ?_, ?_, rfl, rfl, rfl,
      s.collided_parts, s.collided_regs⟩
    · exact (State.fld_modEb _ _ _).trans (State.fld_bump_same s _ (by decide))
    · exact (State.fld_modEb _ _ _).trans (State.fld_bump_other s (by decide) (by decide) (by decide))
  case csmaCollision =>
    intro s hlive hcsma
    exact ⟨_, (next_whileLive_of_live hlive _).trans (congrArg _ (State.collision_of_csma hcsma)), State.fld_bump_same s _ (by decide),
      .bump (by decide) (by decide) s _, .bump s _ (by decide)⟩
  case manyCollisions =>
    intro s hlive hmany hcsma
    exact ⟨_, next_whileLive_of_live hlive _, State.collision_misconfigured hmany hcsma⟩
  case discards =>
    intro s l hlive hbuf hcsma hlast
    exact ⟨_, next_whileLive_of_live hlive _, State.backoff_discards hbuf hcsma hlast⟩
  case retries =>
    intro s l hlive hbuf hcsma hmore
    exact ⟨_, (next_whileLive_of_live hlive _).trans (congrArg _ (State.backoff_retries hbuf hcsma hmore)), rfl, rfl, .modEb (by decide) s _⟩
  case unknownType =>
    intro s hlive hserve
    exact ⟨_, (next_whileLive_of_live hlive _).trans (congrArg _ (State.when_true hserve _)), State.fld_bump_same s _ (by decide),
      State.fld_bump_other s (by decide) (by decide) (by decide), .bump (by decide) (by decide) s _, .bump s _ (by decide)⟩
  case unknownNode =>
    intro s hlive hserve
    exact ⟨_, (next_whileLive_of_live hlive _).trans (congrArg _ (State.when_true hserve _)), State.fld_bump_same s _ (by decide),
      State.fld_bump_other s (by decide) (by decide) (by decide), .bump (by decide) (by decide) s _, .bump s _ (by decide)⟩
  case foreign =>
    intro s h x y z held prof a hlive hserve hencl
    have hrecv (f : State → State) : (.next (s.whileLive (fun s => s.ebRecv h f)) : Host.Outcome State Fault Refusal) = .next (s.bump EB_RX.FOREIGN) :=
      (next_whileLive_of_live hlive _).trans (congrArg _ (State.ebRecv_foreign hserve hencl f))
    exact ⟨State.fld_bump_same s _ (by decide), .bump (by decide) (by decide) s _, .bump s _ (by decide), hrecv _, hrecv _, hrecv _, hrecv _, hrecv _, hrecv _, hrecv _,
      congrArg _ (State.hqueryFrame_foreign x hlive hserve hencl)⟩
  case out =>
    intro s h x y z held prof a hlive hserve
    have hrecv (f : State → State) : (.next (s.whileLive (fun s => s.ebRecv h f)) : Host.Outcome State Fault Refusal) = .next s :=
      (next_whileLive_of_live hlive _).trans (congrArg _ (State.ebRecv_out h hserve f))
    exact ⟨hrecv _, hrecv _, hrecv _, hrecv _, hrecv _, hrecv _, hrecv _, (next_whileLive_of_live hlive _).trans (congrArg _ (State.when_false hserve _))⟩
  case health =>
    intro s h hlive hserve hencl
    exact ⟨_, (next_whileLive_of_live hlive _).trans (congrArg _ (State.ebRecv_own hserve hencl _)), State.fld_bump_same s _ (by decide),
      State.fld_bump_other s (by decide) (by decide) (by decide), .bump (by decide) (by decide) s _, .bump s _ (by decide)⟩
  case healthWaits =>
    intro s l hlive hserve hbuf
    exact ⟨_, (next_whileLive_of_live hlive _).trans (congrArg _ ((State.when_true hserve _).trans (State.sendHealth_loaded hserve hbuf none))), rfl, hbuf, rfl, rfl,
      .modEb (by decide) s _⟩
  case healthGoes =>
    intro s hlive hserve hbuf htx
    exact ⟨_, (next_whileLive_of_live hlive _).trans (congrArg _ ((State.when_true hserve _).trans (State.sendHealth_idle hserve hbuf htx none))), rfl, rfl, rfl, rfl,
      .modEb (by decide) s _⟩
  case queryWaits =>
    intro s h node l hlive hserve hencl hnode hbuf hother
    obtain ⟨t, ht, hrecv⟩ := State.ebRecv_heard hserve hencl
    have hfree : s.eb.buf.any (fun l => l.frame.type == ebHealth && l.frame.dst.isNone) = false := by
      rw [hbuf]
      rcases hother with h | h
      · simp [h]
      · simp [Option.isSome_iff_ne_none.mpr h]
    have hquery := (State.hqueryFrame_asked ht hrecv hlive hserve hnode hfree).trans
      (State.sendHealth_loaded ((ht.isServing .DE).trans hserve) ((congrArg EbSt.buf ht.eb).trans hbuf) _)
    exact ⟨_, (exec_hquery s h node).trans (congrArg _ hquery), congrArg (fun e : EbSt => e.tx ++ [⟨ebHealth, some (h.bay, h.node), []⟩]) ht.eb, (congrArg EbSt.buf ht.eb).trans hbuf,
      (State.fld_modEb _ _ _).trans ht.count, (ht.parts.mono (by decide)).trans (.modEb (by decide) _ _), ht.regs.trans (.modEb _ _ _)⟩
  case queryGoes =>
    intro s h node hlive hserve hencl hnode hbuf htx
    obtain ⟨t, ht, hrecv⟩ := State.ebRecv_heard hserve hencl
    have hquery := (State.hqueryFrame_asked ht hrecv hlive hserve hnode (by rw [hbuf]; rfl)).trans
      (State.sendHealth_idle ((ht.isServing .DE).trans hserve) ((congrArg EbSt.buf ht.eb).trans hbuf) ((congrArg EbSt.tx ht.eb).trans htx) _)
    rw [State.healthBody_congr (ht.parts.mono (by decide)) (ht.regs.mono (by decide)), State.enclTime_congr ht.tick (ht.fld (by decide))] at hquery
    exact ⟨_, (exec_hquery s h node).trans (congrArg _ hquery), rfl, rfl, (ht.parts.mono (by decide)).trans (.modEb (by decide) _ _), ht.regs.trans (.modEb _ _ _)⟩
  case queryStands =>
    intro s h node l hlive hserve hencl hbuf htype hdst
    have hstands : s.hqueryFrame h node = s.bump EB_RX.RCVD := by
      rw [State.hqueryFrame, if_pos (by simp [hlive, hserve]), State.ebRecv_own hserve hencl]
      split
      · rfl
      · rw [s.heard_bump.eb, hbuf, if_pos (by simp [htype, hdst])]
    exact (exec_hquery s h node).trans (congrArg _ hstands)
  case copy =>
    intro s h node hserve hawake hhib hhold hencl hnode hcopy
    have hquery := State.hqueryFrame_phy (by simp [hserve]) hawake hencl hnode hcopy
    rw [if_neg (by simp [hhib]), if_neg (by simpa using hhold), List.take_append_drop] at hquery
    obtain ⟨hseq, hlast, hsent, -, hparts, hregs⟩ := s.ebEmit_emitted s.eb.phyId s.enclTime ⟨ebHealth, some (h.bay, h.node), s.eb.health⟩
    exact ⟨_, (exec_hquery s h node).trans (congrArg _ hquery), hlast, hseq, s.ebEmit_health _ _ _, hsent, hparts, hregs⟩
  case hibernating =>
    intro s h node hawake hout hhib hencl hnode hcopy
    have hquery := State.hqueryFrame_phy (by rcases hout with h | h <;> simp [h]) hawake hencl hnode hcopy
    rw [if_pos hhib] at hquery
    obtain ⟨-, hlast, -, -, hparts, hregs⟩ := s.ebEmit_emitted s.eb.phyId s.enclTime ⟨ebHealth, some (h.bay, h.node), [BitVec.ofNat 8 3] ++ s.eb.health.drop 1⟩
    exact ⟨_, (exec_hquery s h node).trans (congrArg _ hquery), hlast, s.ebEmit_health _ _ _, hparts, hregs⟩
  case wakes =>
    intro s h bay hhib hencl hbay
    have hmine : (h.enclid == s.eb.phyId.1 && (bay == 0xFF || bay == s.eb.phyId.2.1)) = true := by
      rcases hbay with rfl | rfl <;> simp [hencl]
    exact congrArg _ ((if_pos hhib).trans (State.when_true hmine _))
  case sleepsOn =>
    intro s h bay hhib hother
    have hstrange : (h.enclid == s.eb.phyId.1 && (bay == 0xFF || bay == s.eb.phyId.2.1)) = false := by
      rcases hother with h | ⟨h, h'⟩
      · simp [h]
      · simp [h, h']
    exact congrArg _ ((if_pos hhib).trans (State.when_false hstrange _))
  case wakeCounted =>
    intro s h bay hlive hserve hhib hencl
    exact congrArg _ ((if_neg (by simp [hhib])).trans ((if_pos hlive).trans (State.ebRecv_own hserve hencl _)))
  case seekUnlisted =>
    intro s h a step start prof hlive hserve hencl hA hB
    have hrows (b : Act) : (s.bump EB_RX.RCVD).svRows b = s.svRows b := s.heard_bump.parts.svRows_eq (by decide) b
    have hnoneA := State.announceTo_unlisted (s := s.bump EB_RX.RCVD) (a := .A) (by rw [hrows]; exact hA) h step start prof
    have hnoneB := State.announceTo_unlisted (s := s.bump EB_RX.RCVD) (a := .B) (by rw [hrows]; exact hB) h step start prof
    have hseek : ((s.bump EB_RX.RCVD).announceTo .A h step start prof).announceTo .B h step start prof = s.bump EB_RX.RCVD := by rw [hnoneA, hnoneB]
    exact (next_whileLive_of_live hlive _).trans (congrArg _ ((State.ebRecv_own hserve hencl _).trans hseek))
  case seekKept =>
    intro s h a step start prof r hlive hserve hencl hB hrow hage hahead
    obtain ⟨t, ht, hrecv⟩ := State.ebRecv_heard hserve hencl
    have htime : t.enclTime = s.enclTime := State.enclTime_congr ht.tick (ht.fld (by decide))
    have hservo : t.servo = s.servo := ht.parts.2 .servo (by decide)
    have hkept := State.announceTo_kept (s := t) (a := .A) (h := h) (step := step) (start := start) (r := r) (prof := prof)
      (by rw [ht.parts.svRows_eq (by decide), ht.parts.svRow_eq (by decide), ht.bay]; exact hrow)
      (by rw [htime, ht.parts.svRow_eq (by decide)]; exact hage) (by rw [htime]; exact hahead)
    have hone := OnlyParts.modSv (ps := [.regs, .tickMem, .servo]) (by decide) t .A (fun v => { v with announces := (t.announced .A step start prof r :: v.announces).take 8 })
    have hparts : OnlyParts [.regs, .tickMem, .servo] t (t.announceTo .A h step start prof) := hkept ▸ hone.trans (.bump (by decide) (by decide) _ _)
    have hboth : (t.announceTo .A h step start prof).announceTo .B h step start prof = t.announceTo .A h step start prof :=
      State.announceTo_unlisted (by rw [hparts.svRows_eq (by decide), ht.parts.svRows_eq (by decide)]; exact hB) _ _ _ _
    have hannounces : ((t.announceTo .A h step start prof).sv .A).announces = (t.announced .A step start prof r :: (s.sv .A).announces).take 8 := by
      rw [hkept, State.sv.eq_def s, ← hservo]
      rfl
    have hstart : (t.announced .A step start prof r).start = (s.tick : Int) + ofTwos 32 (toTwos 32 ((start : Int) - s.enclTime)) * 25 := by
      rw [State.announced, ht.tick, htime]
    refine ⟨_, (next_whileLive_of_live hlive _).trans (congrArg _ ((hrecv _).trans hboth)), ?_, ?_, ?_, ?_, ?_, (ht.parts.mono (by decide)).trans hparts, ?_⟩
    · rw [hannounces]
      rfl
    · rw [hannounces]
      rfl
    · rw [hannounces, ← hstart]
      rfl
    · rw [hannounces, List.length_take, List.length_cons]
    · rw [hkept, State.sv.eq_def s, ← hservo]
      rfl
    · rw [hkept]
      exact (ht.regs.mono (by decide)).trans ((OnlyRegs.of_regs (t := t.modSv .A _) rfl).trans (.bump _ _ (by decide)))

end Sys2Proof.Machine
end


section
/-! SUPPORT. Security Send and Receive, SPDM and MCTP (O56, R580, R647, R651 to R656). -/
namespace Sys2Proof.Machine

/-! ### Bytes -/

/-- A slice is what stands at its places, zero beyond the end. -/
theorem slice_eq_map (l : List Byte) (off n : Nat) : slice l off n = (List.range n).map (fun i => l[off + i]?.getD 0) := by
  refine List.ext_getElem (by simp [length_slice]) (fun i hi _ => ?_)
  have hn : i < n := by rwa [length_slice] at hi
  rw [List.getElem_map, List.getElem_range]
  simp only [slice, List.getElem_append, List.getElem_take, List.getElem_drop, List.length_take, List.length_drop, List.getElem_replicate]
  split
  next h => rw [List.getElem?_eq_getElem (by omega), Option.getD_some]
  next h => rw [List.getElem?_eq_none (by omega), Option.getD_none]

/-- A field of a block is the field of the bytes the block lies first in. -/
theorem leAt_slice (l : List Byte) {off n size : Nat} (h : off + n ≤ size) : leAt (slice l 0 size) off n = leAt l off n := by
  rw [leAt, leAt, slice_eq_map l 0 size, slice_eq_map, slice_eq_map]
  refine congrArg leNat (List.map_congr_left (fun i hi => ?_))
  have hlt : off + i < size := by
    have := List.mem_range.mp hi
    omega
  rw [List.getElem?_map, List.getElem?_range hlt, Option.map_some, Option.getD_some, Nat.zero_add]

theorem land_one (v : Nat) : Nat.land v 1 = v % 2 := Nat.and_one_is_mod v

theorem land_eight (v : Nat) : Nat.land v 8 = v / 8 % 2 * 8 := by
  have h := Nat.and_two_pow v 3
  rw [show Nat.land v 8 = v &&& 2 ^ 3 from rfl, h, Nat.toNat_testBit]
  norm_num

/-! ### Frames -/

theorem OnlyParts.modSec {ps : List Part} (hps : Part.sec ∈ ps) (s : State) (f : SecSt → SecSt) : OnlyParts ps s (s.modSec f) := by
  refine ⟨rfl, fun p hp => ?_⟩
  cases p with
  | sec => exact absurd hps hp
  | _ => rfl

theorem State.fld_modSec (s : State) (f : SecSt → SecSt) (g : Fld) : (s.modSec f).fld g = s.fld g := congrFun (State.fld_congr rfl) g

theorem OnlyRegs.modSec (as : List Nat) (s : State) (f : SecSt → SecSt) : OnlyRegs as s (s.modSec f) := .of_regs rfl

/-- Free bytes drawn: the index moves on and nothing else changes. -/
theorem State.freeBytes_frame (n : Nat) (s : State) : (State.freeBytes n s).2.freeIdx = s.freeIdx + n ∧ OnlyParts [.freeIdx] s (State.freeBytes n s).2 := by
  induction n generalizing s with
  | zero => exact ⟨rfl, .refl _ s⟩
  | succ n ih =>
    obtain ⟨hidx, hparts⟩ := ih s.drawFree
    exact ⟨hidx.trans (Nat.add_right_comm _ _ _), (OnlyParts.drawFree (by decide) s).trans hparts⟩

theorem State.testMode_freeBytes (n : Nat) (s : State) : (State.freeBytes n s).2.bit SC_STAT.TESTMODE = s.bit SC_STAT.TESTMODE :=
  congrArg (fun g : Fld → Nat => g SC_STAT.TESTMODE != 0) ((State.freeBytes_frame n s).2.fld_eq (by decide))

/-! ### Admin commands -/

theorem State.adminStart_of_ready {s : State} {c cid opc : Nat} {m : Cmd} (h : s.admReady c cid opc m = true) (f : State → Cmd → State) :
    s.adminStart c cid opc f = f s m := by
  simp only [State.admReady, Bool.and_eq_true, beq_iff_eq, Bool.not_eq_true'] at h
  obtain ⟨⟨⟨hcmd, hopc⟩, hstarted⟩, hfault⟩ := h
  rw [State.adminStart]
  simp only [hcmd]
  exact if_neg (by simp [hopc, hstarted, hfault])

/-! ### Signed operations (R580, R652, R653) -/

section
variable {s : State} {c cid : Nat} {m : Cmd} {sent : List Byte} {mine : Nat → Bool}
  (hready : s.admReady c cid 0x81 m = true) (hproto : natBits m.e.cdw10 24 8 = 0xF0) (hlen : 480 + opDlen (slice sent 0 64) ≤ sent.length)
  (hmine : mine (leAt sent 0 1) = true) (hform : opForm (slice sent 0 64) = true)
  (hnone : (List.range 8).all (fun k => (s.ring k).descs.all (fun d => !d.signed)) = true)
  (usage : Nat) (maker : List Byte → Bool) (f : State → Cmd → List Byte → List Byte → State)
include hready hproto hlen hmine hform hnone

/-- An operation that its authorisation does not pass. -/
theorem State.signedOp_fails {st reason : Nat}
    (hauth : s.authFails (slice sent 64 416) (slice sent 0 64 ++ (sent.drop 480).take (opDlen (slice sent 0 64))) usage (maker (slice sent 0 64)) = some (st, reason)) :
    s.signedOp c cid mine sent usage maker f = (s.refuse 3 reason).opDone m (leAt sent 0 1) st := by
  have hop : leAt (slice sent 0 64) 0 1 = leAt sent 0 1 := leAt_slice sent (by decide)
  have hdata : ((sent.drop 480).take (opDlen (slice sent 0 64))).length = opDlen (slice sent 0 64) := by rw [List.length_take, List.length_drop]; omega
  have hfree : ¬((List.range 8).any (fun k => (s.ring k).descs.any (fun d => d.signed)) = true) := by simpa using hnone
  rw [State.signedOp, State.adminStart_of_ready hready]
  simp only [hop, hauth]
  rw [if_neg (by simp [hproto, hmine]), if_neg hfree, if_neg]
  rw [hdata]
  simp [hform, show ¬sent.length < 480 by omega]

/-- An operation that its authorisation passes takes a new nonce and, with nothing else going on, runs. -/
theorem State.signedOp_passes (hbusy : s.bit AC_STAT.BUSY = false) (hact : s.nvme.activation = none) (hstore : s.nvme.fwStore = none)
    (hauth : s.authFails (slice sent 64 416) (slice sent 0 64 ++ (sent.drop 480).take (opDlen (slice sent 0 64))) usage (maker (slice sent 0 64)) = none) :
    s.signedOp c cid mine sent usage maker f = f s.newNonce m (slice sent 0 64) ((sent.drop 480).take (opDlen (slice sent 0 64))) := by
  have hop : leAt (slice sent 0 64) 0 1 = leAt sent 0 1 := leAt_slice sent (by decide)
  have hdata : ((sent.drop 480).take (opDlen (slice sent 0 64))).length = opDlen (slice sent 0 64) := by rw [List.length_take, List.length_drop]; omega
  have hfree : ¬((List.range 8).any (fun k => (s.ring k).descs.any (fun d => d.signed)) = true) := by simpa using hnone
  have hidle : ¬((s.newNonce.bit AC_STAT.BUSY || s.newNonce.nvme.activation.isSome || s.newNonce.nvme.fwStore.isSome) = true) := by
    have hbit : s.newNonce.bit AC_STAT.BUSY = false := (congrArg (· != 0) (congrFun (State.fld_congr rfl) AC_STAT.BUSY)).trans hbusy
    have hact' : s.newNonce.nvme.activation = none := hact
    have hstore' : s.newNonce.nvme.fwStore = none := hstore
    simp [hbit, hact', hstore']
  rw [State.signedOp, State.adminStart_of_ready hready]
  simp only [hop, hauth]
  rw [if_neg (by simp [hproto, hmine]), if_neg hfree, if_neg, if_neg hidle]
  rw [hdata]
  simp [hform, show ¬sent.length < 480 by omega]

end

theorem State.accordFloor_newNonce (s : State) : s.newNonce.accordFloor = s.accordFloor :=
  congrArg (floorOf 1) (show s.newNonce.nv.floorA = s.nv.floorA from rfl)

theorem State.patchFloor_newNonce (s : State) : s.newNonce.patchFloor = s.patchFloor :=
  congrArg (floorOf 2) (show s.newNonce.nv.floorP = s.nv.floorP from rfl)

theorem State.fld_newNonce (s : State) (g : Fld) : s.newNonce.fld g = s.fld g := congrFun (State.fld_congr rfl) g

theorem State.areaCopy_newNonce (s : State) (k : Nat) : s.newNonce.areaCopy k = s.areaCopy k :=
  congrArg (fun l => SMap.get (fun _ => []) l k) (show s.newNonce.nv.areas = s.nv.areas from rfl)

theorem State.areaNewer_newNonce (s : State) (b : List Byte) : s.newNonce.areaNewer b = s.areaNewer b := by
  simp only [State.areaNewer, State.areaCopy_newNonce]

theorem State.areaTarget_newNonce (s : State) : s.newNonce.areaTarget = s.areaTarget := by
  simp only [State.areaTarget, State.areaCopy_newNonce]

/-- The Accord floor rises to a generation above it that is applied. -/
theorem State.raiseFloor_accord {s : State} {b : List Byte} (m : Cmd) (ok : Bool) (hkind : opKind b = 1) (hroom : s.nv.floorA.length < 128)
    (habove : s.accordFloor < opValue b) (happlied : opValue b ≤ s.fld AC_GEN.GEN) :
    s.raiseFloor m b ok = ((s.modNv (fun n => { n with floorA := n.floorA ++ [otpRecord 1 (opValue b) ok] })).floorSync).opDone m 1 (if ok then rsSuccess else rsUnitError) := by
  rw [State.raiseFloor]
  simp only [hkind, beq_self_eq_true, if_true, Bool.true_or, Bool.not_true, Bool.false_eq_true, if_false]
  rw [if_neg (by omega), if_neg (by simp only [Bool.or_eq_true, decide_eq_true_eq]; omega)]

/-- The patch floor rises to a generation above it that is applied. -/
theorem State.raiseFloor_patch {s : State} {b : List Byte} (m : Cmd) (ok : Bool) (hkind : opKind b = 2) (hroom : s.nv.floorP.length < 128)
    (habove : s.patchFloor < opValue b) (happlied : opValue b ≤ s.fld ST_PATCHGEN.GEN) :
    s.raiseFloor m b ok = ((s.modNv (fun n => { n with floorP := n.floorP ++ [otpRecord 2 (opValue b) ok] })).floorSync).opDone m 1 (if ok then rsSuccess else rsUnitError) := by
  have haccord : (2 == 1) = false := by decide
  rw [State.raiseFloor]
  simp only [hkind, haccord, beq_self_eq_true, Bool.or_true, Bool.not_true, Bool.false_eq_true, if_false]
  rw [if_neg (by omega), if_neg (by simp only [Bool.or_eq_true, decide_eq_true_eq]; omega)]

/-- No floor rises above what is applied, or stays where it is by an operation. -/
theorem State.raiseFloor_refused {s : State} {b : List Byte} (m : Cmd) (ok : Bool) (hkind : opKind b = 1)
    (hrange : s.fld AC_GEN.GEN < opValue b ∨ opValue b ≤ s.accordFloor) : s.raiseFloor m b ok = s.opDone m 1 rsRefused := by
  rw [State.raiseFloor]
  simp only [hkind, beq_self_eq_true, if_true, Bool.true_or, Bool.not_true, Bool.false_eq_true, if_false]
  split
  · rfl
  · exact if_pos (by simp only [Bool.or_eq_true, decide_eq_true_eq]; omega)

/-! ### SPDM (R654 to R656) -/

theorem State.spdm_putSpdm (s : State) (ch : Nat) (x : SpdmSt) : (s.putSpdm ch x).spdm ch = x := by
  rw [State.spdm, State.putSpdm, State.modSec, SMap.get_set]
  exact if_pos rfl

theorem State.spdmReply_mctp {ch : Nat} (hch : ch < 2) (s : State) (b : List Byte) :
    s.spdmReply ch b = s.modSec (fun x => { x with vdm := x.vdm ++ [(ch, leBytes 1 5 ++ b)] }) := if_pos hch

theorem State.spdmReply_parts (s : State) (ch : Nat) (b : List Byte) : OnlyParts [.sec] s (s.spdmReply ch b) := by
  unfold State.spdmReply
  split <;> exact .modSec (by decide) s _

theorem State.spdm_spdmReply (s : State) (ch : Nat) (b : List Byte) : (s.spdmReply ch b).sec.spdm = s.sec.spdm := by
  unfold State.spdmReply
  split <;> rfl

/-- A request on MCTP is taken where the function answers. -/
theorem State.spdmTake_mctp {s : State} {ch : Nat} (hch : ch < 2) (hup : s.mctpUp ch = true) (cid : Nat) (f : State → State) : s.spdmTake ch cid f = f s := by
  rw [State.spdmTake, if_pos hch]
  exact if_pos hup

/-- A request on protocol 0xE8 is taken with its Security Send, which completes. -/
theorem State.spdmTake_send {s : State} {ch cid : Nat} {m : Cmd} (hch : 2 ≤ ch) (hready : s.admReady (ch - 2) cid 0x81 m = true)
    (hproto : natBits m.e.cdw10 24 8 = 0xE8) (f : State → State) : s.spdmTake ch cid f = (f s).finish m .ok 0 := by
  rw [State.spdmTake, if_neg (by omega), State.adminStart_of_ready hready, if_neg (by simp [hproto])]

theorem State.spdmAsk_mctp {s : State} {ch code : Nat} {req : List Byte} (hch : ch < 2) (hup : s.mctpUp ch = true) (hcode : leAt req 1 1 = code) (cid : Nat)
    (f : State → SpdmSt → State) : s.spdmAsk ch cid code req f = f s (s.spdm ch) := by
  rw [State.spdmAsk, if_neg (by simp [hcode]), State.spdmTake_mctp hch hup]

theorem State.spdmOpen_early {s : State} {x : SpdmSt} (h : x.stage ≠ 3) (ch : Nat) (bad : Bool) (f : State → State) :
    s.spdmOpen ch x bad f = s.spdmReply ch (spdmError errUnexpected 0) := if_pos (by simp [h])

theorem State.spdmOpen_bad {s : State} {x : SpdmSt} (h : x.stage = 3) (ch : Nat) {bad : Bool} (hbad : bad = true) (f : State → State) :
    s.spdmOpen ch x bad f = s.spdmReply ch (spdmError errInvalid 0) := by rw [State.spdmOpen, if_neg (by simp [h]), if_pos hbad]

theorem State.spdmOpen_good {s : State} {x : SpdmSt} (h : x.stage = 3) (ch : Nat) {bad : Bool} (hbad : bad = false) (f : State → State) :
    s.spdmOpen ch x bad f = f s := by rw [State.spdmOpen, if_neg (by simp [h]), if_neg (by simp [hbad])]

/-- What a response on MCTP leaves: the message is sent and the exchange moves on. -/
structure State.Answered (s : State) (ch : Nat) (x : SpdmSt) (rsp : List Byte) (t : State) : Prop where
  sent : t.sec.vdm = s.sec.vdm ++ [(ch, leBytes 1 5 ++ rsp)]
  exchange : t.spdm ch = x
  freeIdx : t.freeIdx = s.freeIdx
  parts : OnlyParts [.sec] s t

theorem State.answered_put {ch : Nat} (hch : ch < 2) (s : State) (x : SpdmSt) (rsp : List Byte) :
    s.Answered ch x rsp ((s.putSpdm ch x).spdmReply ch rsp) := by
  refine ⟨?_, ?_, ?_, (OnlyParts.modSec (by decide) s _).trans (State.spdmReply_parts _ ch rsp)⟩
  · rw [State.spdmReply_mctp hch]
    rfl
  · rw [State.spdm, State.spdm_spdmReply]
    exact s.spdm_putSpdm ch x
  · rw [State.spdmReply_mctp hch]
    rfl

/-- A signed response outside test mode: counted, and sent with its signature behind it. -/
structure State.Signed (s : State) (ch : Nat) (x : SpdmSt) (rsp : List Byte) (t : State) : Prop where
  sent : ∃ sig, t.sec.vdm = s.sec.vdm ++ [(ch, leBytes 1 5 ++ (rsp ++ sig))]
  exchange : t.spdm ch = x
  count : t.fld SC_EVT.SPDM = Nat.min (s.fld SC_EVT.SPDM + 1) 65535
  freeIdx : t.freeIdx = s.freeIdx + 4
  parts : OnlyParts [.regs, .tickMem, .sec, .freeIdx] s t
  regs : OnlyRegs [SC_EVT.SPDM.addr] s t

theorem State.spdmSign_signed {s : State} {ch : Nat} (hch : ch < 2) (htest : s.bit SC_STAT.TESTMODE = false) (context : String) (transcript rsp : List Byte) (x : SpdmSt) :
    s.Signed ch x rsp (s.spdmSign ch context transcript rsp (fun u => u.putSpdm ch x)) := by
  have hput : ((s.bump SC_EVT.SPDM).putSpdm ch x).sec.vdm = s.sec.vdm := rfl
  have hidx : ((s.bump SC_EVT.SPDM).putSpdm ch x).freeIdx = s.freeIdx := rfl
  have hspdm := (s.bump SC_EVT.SPDM).spdm_putSpdm ch x
  have hcount : ((s.bump SC_EVT.SPDM).putSpdm ch x).fld SC_EVT.SPDM = Nat.min (s.fld SC_EVT.SPDM + 1) 65535 :=
    (State.fld_modSec _ _ _).trans (State.fld_bump_same s _ (by decide))
  have hparts : OnlyParts [.regs, .tickMem, .sec] s ((s.bump SC_EVT.SPDM).putSpdm ch x) :=
    (OnlyParts.bump (by decide) (by decide) s _).trans (.modSec (by decide) _ _)
  have hregs : OnlyRegs [SC_EVT.SPDM.addr] s ((s.bump SC_EVT.SPDM).putSpdm ch x) := (OnlyRegs.bump s _ (by decide)).trans (.modSec _ _ _)
  rw [State.spdmSign, if_neg (by simp [htest])]
  generalize (s.bump SC_EVT.SPDM).putSpdm ch x = u at hput hidx hspdm hcount hparts hregs
  obtain ⟨hdrawn, hfree⟩ := State.freeBytes_frame 4 u
  have hsec : (State.freeBytes 4 u).2.sec = u.sec := hfree.2 .sec (by decide)
  rw [State.spdmReply_mctp hch]
  refine ⟨⟨identitySign (State.freeBytes 4 u).1 (spdmSigned context (transcript ++ rsp)), ?_⟩, ?_, ?_, hdrawn.trans (congrArg (· + 4) hidx), ?_, ?_⟩
  · exact congrArg (· ++ [(ch, leBytes 1 5 ++ (rsp ++ identitySign (State.freeBytes 4 u).1 (spdmSigned context (transcript ++ rsp))))])
      ((congrArg SecSt.vdm hsec).trans hput)
  · refine Eq.trans ?_ hspdm
    rw [State.spdm, State.spdm, ← hsec]
    rfl
  · rw [State.fld_modSec, hfree.fld_eq (by decide), hcount]
  · exact (hparts.mono (by decide)).trans ((hfree.mono (by decide)).trans (.modSec (by decide) _ _))
  · exact hregs.trans ((OnlyRegs.of_regs (hfree.2 .regs (by decide))).trans (.modSec _ _ _))

theorem State.spdmSign_test {s : State} (htest : s.bit SC_STAT.TESTMODE = true) (ch : Nat) (context : String) (transcript rsp : List Byte) (done : State → State) :
    s.spdmSign ch context transcript rsp done = s.spdmReply ch (spdmError errUnexpected 0) := if_pos htest

/-! ### MCTP control (R654) -/

theorem State.mctpReply_up {s : State} {p : Nat} (hup : s.mctpUp p = true) (inst cmd cc : Nat) (d : List Byte) :
    s.mctpReply p inst cmd cc d = s.modSec (fun x => { x with vdm := x.vdm ++ [(p, leBytes 1 0 ++ leBytes 1 (inst % 32) ++ leBytes 1 cmd ++ leBytes 1 cc ++ d)] }) := by
  rw [State.mctpReply]
  exact if_neg (by rw [State.mctpUp] at hup; simp only [hup]; decide)

theorem State.mctpSet_up {s : State} {p : Nat} (hup : s.mctpUp p = true) (inst op eid : Nat) :
    s.mctpSet p inst op eid = if (1 < op || eid = 0 || 0xFF ≤ eid) = true then s.mctpReply p inst 1 2 []
      else (s.modSec (fun x => { x with eids := SMap.set (fun _ => 0) x.eids p eid })).mctpReply p inst 1 0 (zeros 1 ++ leBytes 1 eid ++ zeros 1) := by
  rw [State.mctpSet]
  exact if_neg (by rw [State.mctpUp] at hup; simp only [hup]; decide)

theorem OnlyParts.mctpUp_eq {ps : List Part} {s t : State} (h : OnlyParts ps s t) (hacc : Part.acc ∉ ps) (hregs : Part.regs ∉ ps) (hnvme : Part.nvme ∉ ps) (p : Nat) :
    t.mctpUp p = s.mctpUp p := by
  have ha : t.acc = s.acc := h.2 .acc hacc
  have hn : t.nvme = s.nvme := h.2 .nvme hnvme
  simp only [State.mctpUp, State.hasCtrl, State.dualPort, State.ctrl, State.bit, h.fld_eq hregs, hn, State.topo, State.ac, ha]

/-! ### What the requests answer -/

/-- A message sent, seen through its first bytes. -/
theorem map_take_append {l l' : List (Nat × List Byte)} {ch n : Nat} {msg : List Byte} (pre post : List Byte) (h : l' = l ++ [(ch, msg)]) (hmsg : msg = pre ++ post)
    (hn : pre.length = n) : l'.map (fun x => (x.1, x.2.take n)) = l.map (fun x => (x.1, x.2.take n)) ++ [(ch, pre)] := by
  rw [h, hmsg, List.map_append, List.map_singleton, List.take_left' hn]

/-- An answer for which free bytes were drawn first. -/
theorem State.Answered.of_drawn {s r t : State} {ch n : Nat} {x : SpdmSt} {rsp : List Byte} (hr : r.freeIdx = s.freeIdx + n ∧ OnlyParts [.freeIdx] s r)
    (h : r.Answered ch x rsp t) :
    t.sec.vdm = s.sec.vdm ++ [(ch, leBytes 1 5 ++ rsp)] ∧ t.spdm ch = x ∧ t.freeIdx = s.freeIdx + n ∧ OnlyParts [.sec, .freeIdx] s t := by
  obtain ⟨hidx, hparts⟩ := hr
  have hsec : r.sec = s.sec := hparts.2 .sec (by decide)
  exact ⟨by rw [h.sent, hsec], h.exchange, h.freeIdx.trans hidx, (hparts.mono (by decide)).trans (h.parts.mono (by decide))⟩

/-- DIGESTS as it is sent, and what the exchange then holds. -/
theorem State.Answered.digests_told {s t : State} {ch : Nat} {x : SpdmSt} {req digest : List Byte} (hstage : x.stage = 3)
    (h : s.Answered ch { x with certs := x.certs ++ req ++ spdmMsg 0x01 0 1 digest, meas := [] } (spdmMsg 0x01 0 1 digest) t) :
    t.sec.vdm = s.sec.vdm ++ [(ch, [5, 0x12, 0x01, 0, 1] ++ digest)] ∧ (t.spdm ch).certs = x.certs ++ req ++ [0x12, 0x01, 0, 1] ++ digest ∧
      (t.spdm ch).stage = 3 ∧ (t.spdm ch).opening = x.opening ∧ OnlyParts [.sec] s t :=
  ⟨h.sent, (congrArg SpdmSt.certs h.exchange).trans (List.append_assoc _ [0x12, 0x01, 0, 1] digest).symm, (congrArg SpdmSt.stage h.exchange).trans hstage,
    (congrArg SpdmSt.opening h.exchange :), h.parts⟩

/-- A signed answer for which free bytes were drawn first. -/
theorem State.Signed.of_drawn {s r t : State} {ch n : Nat} {x : SpdmSt} {rsp : List Byte} (hr : r.freeIdx = s.freeIdx + n ∧ OnlyParts [.freeIdx] s r)
    (h : r.Signed ch x rsp t) :
    (∃ sig, t.sec.vdm = s.sec.vdm ++ [(ch, leBytes 1 5 ++ (rsp ++ sig))]) ∧ t.spdm ch = x ∧ t.fld SC_EVT.SPDM = Nat.min (s.fld SC_EVT.SPDM + 1) 65535 ∧
      t.freeIdx = s.freeIdx + n + 4 ∧ OnlyParts [.regs, .tickMem, .sec, .freeIdx] s t ∧ OnlyRegs [SC_EVT.SPDM.addr] s t := by
  obtain ⟨hidx, hparts⟩ := hr
  obtain ⟨sig, hsent⟩ := h.sent
  have hsec : r.sec = s.sec := hparts.2 .sec (by decide)
  exact ⟨⟨sig, by rw [hsent, hsec]⟩, h.exchange, by rw [h.count, hparts.fld_eq (by decide)], by rw [h.freeIdx, hidx],
    (hparts.mono (by decide)).trans h.parts, (OnlyRegs.of_regs (hparts.2 .regs (by decide))).trans h.regs⟩

section
variable {s : State} {ch : Nat} {x : SpdmSt} (hch : ch < 2) (req : List Byte)
include hch

theorem State.spdmCaps_answered (hstage : x.stage = 1) :
    (State.freeBytes 1 s).2.Answered ch
      { x with stage := 2, opening := x.opening ++ req ++ spdmMsg 0x61 0 0 (zeros 1 ++ leBytes 1 15 ++ zeros 2 ++ leBytes 4 0x16 ++ (State.freeBytes 1 s).1) }
      (spdmMsg 0x61 0 0 (zeros 1 ++ leBytes 1 15 ++ zeros 2 ++ leBytes 4 0x16 ++ (State.freeBytes 1 s).1)) (s.spdmCaps ch req x) := by
  rw [State.spdmCaps, if_neg (by simp [hstage])]
  exact State.answered_put hch _ _ _

theorem State.spdmAlgs_answered (hstage : x.stage = 2) :
    ∃ y : SpdmSt, y.stage = 3 ∧ s.Answered ch y (spdmMsg 0x63 0 0 (leBytes 2 36 ++ leBytes 1 (leAt req 6 1 % 2) ++ zeros 1 ++ leBytes 4 (leAt req 6 1 % 2 * 2) ++
      leBytes 4 (leAt req 8 4 / 8 % 2 * 8) ++ leBytes 4 (leAt req 12 4 % 2) ++ zeros 16)) (s.spdmAlgs ch req x) := by
  have hmeas : (if leAt req 6 1 % 2 = 1 then 2 else 0) = leAt req 6 1 % 2 * 2 := by split <;> omega
  rw [State.spdmAlgs, if_neg (by simp [hstage])]
  simp only [hmeas, land_eight, land_one]
  exact ⟨_, rfl, State.answered_put hch _ _ _⟩

theorem State.spdmDigests_answered (hstage : x.stage = 3) :
    s.Answered ch { x with certs := x.certs ++ req ++ spdmMsg 0x01 0 1 (sha256 s.certChain), meas := [] } (spdmMsg 0x01 0 1 (sha256 s.certChain))
      (s.spdmDigests ch req x) := by
  rw [State.spdmDigests, State.spdmOpen_good hstage ch rfl]
  exact State.answered_put hch _ _ _

theorem State.spdmCertificate_answered (hstage : x.stage = 3) (hslot : leAt req 2 1 % 16 = 0) :
    (s.spdmCertificate ch req x).sec.vdm = s.sec.vdm ++ [(ch, leBytes 1 5 ++ (if s.certChain.length ≤ leAt req 4 2 then spdmError errInvalid 0 else
      spdmMsg 0x02 0 0 (leBytes 2 (Nat.min (leAt req 6 2) (s.certChain.length - leAt req 4 2)) ++
        leBytes 2 (s.certChain.length - leAt req 4 2 - Nat.min (leAt req 6 2) (s.certChain.length - leAt req 4 2)) ++
        slice s.certChain (leAt req 4 2) (Nat.min (leAt req 6 2) (s.certChain.length - leAt req 4 2)))))] ∧
    OnlyParts [.sec] s (s.spdmCertificate ch req x) := by
  rw [State.spdmCertificate]
  by_cases hend : s.certChain.length ≤ leAt req 4 2
  · rw [State.spdmOpen_bad hstage ch (by simp [hend]), if_pos hend]
    exact ⟨by rw [State.spdmReply_mctp hch]; rfl, State.spdmReply_parts s ch _⟩
  · rw [State.spdmOpen_good hstage ch (by simp [hend, hslot]), if_neg hend]
    have h := State.answered_put hch s
    exact ⟨(h _ _).sent, (h _ _).parts⟩

theorem State.spdmChallenge_signed (hstage : x.stage = 3) (hslot : leAt req 2 1 = 0) (hkind : leAt req 3 1 = 0 ∨ leAt req 3 1 = 1 ∨ leAt req 3 1 = 0xFF)
    (htest : s.bit SC_STAT.TESTMODE = false) :
    (State.freeBytes 4 s).2.Signed ch { x with certs := [], meas := [] }
      (spdmMsg 0x03 0 1 (sha256 s.certChain ++ (State.freeBytes 4 s).1 ++ s.measSummary (leAt req 3 1) ++ zeros 2)) (s.spdmChallenge ch req x) := by
  have htest' : (State.freeBytes 4 s).2.bit SC_STAT.TESTMODE = false := (State.testMode_freeBytes 4 s).trans htest
  rw [State.spdmChallenge, State.spdmOpen_good hstage ch (by rcases hkind with h | h | h <;> simp [hslot, h])]
  exact State.spdmSign_signed hch htest' _ _ _ _

theorem State.spdmMeas_answered (hstage : x.stage = 3) (hsig : leAt req 2 1 % 2 = 0) (hop : leAt req 3 1 = 0xFF) :
    (State.freeBytes 4 s).2.Answered ch
      { x with meas := x.meas ++ req ++ spdmMsg 0x60 0 0 (leBytes 1 7 ++ leBytes 3 ((List.range' 1 7).flatMap s.measurement).length ++ (List.range' 1 7).flatMap s.measurement ++
        (State.freeBytes 4 s).1 ++ zeros 2) }
      (spdmMsg 0x60 0 0 (leBytes 1 7 ++ leBytes 3 ((List.range' 1 7).flatMap s.measurement).length ++ (List.range' 1 7).flatMap s.measurement ++ (State.freeBytes 4 s).1 ++ zeros 2))
      (s.spdmMeas ch req x) := by
  have hbit : natBit (leAt req 2 1) 0 = false := by simp [natBit, hsig]
  rw [State.spdmMeas, State.spdmOpen_good hstage ch (by simp [hop, hbit])]
  simp only [hop, hbit]
  exact State.answered_put hch _ _ _

theorem State.spdmMeas_signed (hstage : x.stage = 3) (hsig : leAt req 2 1 % 2 = 1) (hop : leAt req 3 1 ≤ 7) (hslot : leAt req 36 1 % 16 = 0)
    (htest : s.bit SC_STAT.TESTMODE = false) :
    ∃ rest, (State.freeBytes 4 s).2.Signed ch { x with meas := [] } (spdmMsg 0x60 (if leAt req 3 1 = 0 then 7 else 0) 0 rest) (s.spdmMeas ch req x) := by
  have hbit : natBit (leAt req 2 1) 0 = true := by simp [natBit, hsig]
  have htest' : (State.freeBytes 4 s).2.bit SC_STAT.TESTMODE = false := (State.testMode_freeBytes 4 s).trans htest
  rw [State.spdmMeas, State.spdmOpen_good hstage ch (by simp [hslot, show ¬7 < leAt req 3 1 by omega])]
  simp only [hbit, if_true]
  exact ⟨_, State.spdmSign_signed hch htest' _ _ _ _⟩

/-- A challenge before the opening is over, or in test mode, is answered with an error and signs nothing. -/
theorem State.spdmChallenge_refused (hslot : leAt req 2 1 = 0) (hkind : leAt req 3 1 = 0) (hno : x.stage ≠ 3 ∨ s.bit SC_STAT.TESTMODE = true) :
    (s.spdmChallenge ch req x).sec.vdm = s.sec.vdm ++ [(ch, leBytes 1 5 ++ spdmError errUnexpected 0)] ∧ (s.spdmChallenge ch req x).sec.spdm = s.sec.spdm ∧
      (s.spdmChallenge ch req x).fld SC_EVT.SPDM = s.fld SC_EVT.SPDM := by
  by_cases hstage : x.stage = 3
  · have htest : (State.freeBytes 4 s).2.bit SC_STAT.TESTMODE = true :=
      (State.testMode_freeBytes 4 s).trans (hno.resolve_left (fun h => h hstage))
    rw [State.spdmChallenge, State.spdmOpen_good hstage ch (by simp [hslot, hkind])]
    obtain ⟨-, hparts⟩ := State.freeBytes_frame 4 s
    have hsec : (State.freeBytes 4 s).2.sec = s.sec := hparts.2 .sec (by decide)
    have hsign := State.spdmSign_test htest ch
    simp only [State.spdmNonce, hsign]
    rw [State.spdmReply_mctp hch]
    exact ⟨(congrArg (fun y : SecSt => y.vdm ++ [(ch, leBytes 1 5 ++ spdmError errUnexpected 0)]) hsec :), (congrArg SecSt.spdm hsec :),
      (State.fld_modSec _ _ _).trans (congrFun (hparts.fld_eq (by decide)) _)⟩
  · rw [State.spdmChallenge, State.spdmOpen_early hstage, State.spdmReply_mctp hch]
    exact ⟨rfl, rfl, State.fld_modSec _ _ _⟩

end

/-! ### Raising a floor (R647) -/

section
variable {s : State} {c cid : Nat} {m : Cmd} {sent : List Byte}
  (hready : s.admReady c cid 0x81 m = true) (hproto : natBits m.e.cdw10 24 8 = 0xF0) (hlen : 480 ≤ sent.length) (hop : leAt sent 0 1 = 1)
  (hdlen : opDlen (slice sent 0 64) = 0) (hform : opForm (slice sent 0 64) = true)
  (hnone : (List.range 8).all (fun k => (s.ring k).descs.all (fun d => !d.signed)) = true)
  {accord : Bool} (hkind : (opKind (slice sent 0 64) == 1) = accord) (ok : Bool)
include hready hproto hlen hop hdlen hform hnone hkind

theorem State.raiseRequest_fails (hlive : s.live = true) {st reason : Nat} (hauth : s.authFails (slice sent 64 416) (slice sent 0 64) 0 accord = some (st, reason)) :
    exec (.raiseRollbackFloor c cid sent ok) s = .next ((s.refuse 3 reason).opDone m 1 st) := by
  have hbytes : slice sent 0 64 ++ (sent.drop 480).take (opDlen (slice sent 0 64)) = slice sent 0 64 := by rw [hdlen, List.take_zero, List.append_nil]
  have h := State.signedOp_fails (mine := fun op => op != 2) (maker := fun b => opKind b == 1) (usage := 0) hready hproto (by rw [hdlen]; exact hlen)
    (by rw [hop]; decide) hform hnone
    (f := fun t m b _ => if leAt b 0 1 = 1 then t.raiseFloor m b ok else t.opDone m (leAt b 0 1) rsInvalidOpcode)
    (st := st) (reason := reason) (by rw [hbytes]; simpa only [hkind] using hauth)
  rw [hop] at h
  exact (next_whileLive_of_live hlive _).trans (congrArg _ h)

theorem State.raiseRequest_passes (hlive : s.live = true) (hbusy : s.bit AC_STAT.BUSY = false) (hact : s.nvme.activation = none) (hstore : s.nvme.fwStore = none)
    (hauth : s.authFails (slice sent 64 416) (slice sent 0 64) 0 accord = none) :
    exec (.raiseRollbackFloor c cid sent ok) s = .next (s.newNonce.raiseFloor m (slice sent 0 64) ok) := by
  have hbytes : slice sent 0 64 ++ (sent.drop 480).take (opDlen (slice sent 0 64)) = slice sent 0 64 := by rw [hdlen, List.take_zero, List.append_nil]
  have hcode : leAt (slice sent 0 64) 0 1 = 1 := (leAt_slice sent (by decide)).trans hop
  have h := State.signedOp_passes (mine := fun op => op != 2) (maker := fun b => opKind b == 1) (usage := 0) hready hproto (by rw [hdlen]; exact hlen)
    (by rw [hop]; decide) hform hnone
    (f := fun t m b _ => if leAt b 0 1 = 1 then t.raiseFloor m b ok else t.opDone m (leAt b 0 1) rsInvalidOpcode)
    hbusy hact hstore (by rw [hbytes]; simpa only [hkind] using hauth)
  exact (next_whileLive_of_live hlive _).trans (congrArg _ (h.trans (if_pos hcode)))

end

/-! ### The statement -/

/-- Settles O56. An authorisation that fails is refused and one that passes runs its operation; every SPDM request is answered by its one step of
the exchange, after the free bytes it draws. -/
theorem securityCommands : Obligations.security_commands := by
  refine ⟨?protocols, ?status, ?response, ?raisesAccord, ?raisesPatch, ?floorRefused, ?writesArea, ?version, ?unsupported, ?versionSent, ?capabilities, ?algorithms, ?digests,
    ?certificate, ?challenge, ?measures, ?measuresSigned, ?challengeRefused, ?capsEarly, ?algsEarly, ?digestsEarly, ?certificateEarly, ?measuresEarly, ?setsEid, ?eidRefused,
    ?tellsEid, ?messageTypes, ?versionSupport, ?versionUnknown⟩
  case protocols =>
    intro s c cid m hlive hready hproto
    refine (next_whileLive_of_live hlive _).trans (congrArg _ ((State.adminStart_of_ready hready _).trans ?_))
    rw [State.secReceive]
    exact if_pos hproto
  case status =>
    intro s c cid m hlive hready hproto
    refine (next_whileLive_of_live hlive _).trans (congrArg _ ((State.adminStart_of_ready hready _).trans ?_))
    rw [State.secReceive]
    exact (if_neg (by simp [hproto])).trans (if_pos hproto)
  case response =>
    intro s c cid m hlive hready hproto
    refine ⟨s.modSec (fun x => { x with replies := SMap.set (fun _ => []) x.replies m.ctrl [] }),
      (next_whileLive_of_live hlive _).trans (congrArg _ ((State.adminStart_of_ready hready _).trans ?_)), ?_, fun k _ hk => ?_, .modSec (by decide) s _⟩
    · rw [State.secReceive]
      exact (if_neg (by simp [hproto])).trans (if_neg (by simp [hproto]))
    · rw [State.modSec, SMap.get_set]
      exact if_pos rfl
    · rw [State.modSec, SMap.get_set]
      exact if_neg hk
  case raisesAccord =>
    intro s c cid sent ok m hlive hready hproto hlen hop hkind hdlen hform hnone hbusy hact hstore hroom habove happlied
    have hkind' : opKind (slice sent 0 64) = 1 := (leAt_slice sent (by decide)).trans hkind
    have hmaker : (opKind (slice sent 0 64) == 1) = true := by rw [hkind']; rfl
    cases hauth : s.authFails (slice sent 64 416) (slice sent 0 64) 0 true with
    | some v => exact State.raiseRequest_fails hready hproto hlen hop hdlen hform hnone hmaker ok hlive hauth
    | none =>
      refine (State.raiseRequest_passes hready hproto hlen hop hdlen hform hnone hmaker ok hlive hbusy hact hstore hauth).trans (congrArg _ ?_)
      exact State.raiseFloor_accord m ok hkind' hroom (by rwa [State.accordFloor_newNonce]) (by rwa [State.fld_newNonce])
  case raisesPatch =>
    intro s c cid sent ok m hlive hready hproto hlen hop hkind hdlen hform hnone hbusy hact hstore hroom habove happlied
    have hkind' : opKind (slice sent 0 64) = 2 := (leAt_slice sent (by decide)).trans hkind
    have hmaker : (opKind (slice sent 0 64) == 1) = false := by rw [hkind']; rfl
    cases hauth : s.authFails (slice sent 64 416) (slice sent 0 64) 0 false with
    | some v => exact State.raiseRequest_fails hready hproto hlen hop hdlen hform hnone hmaker ok hlive hauth
    | none =>
      refine (State.raiseRequest_passes hready hproto hlen hop hdlen hform hnone hmaker ok hlive hbusy hact hstore hauth).trans (congrArg _ ?_)
      exact State.raiseFloor_patch m ok hkind' hroom (by rwa [State.patchFloor_newNonce]) (by rwa [State.fld_newNonce])
  case floorRefused =>
    intro s c cid sent ok m hlive hready hproto hlen hop hkind hdlen hform hnone hbusy hact hstore hrange
    have hkind' : opKind (slice sent 0 64) = 1 := (leAt_slice sent (by decide)).trans hkind
    have hmaker : (opKind (slice sent 0 64) == 1) = true := by rw [hkind']; rfl
    cases hauth : s.authFails (slice sent 64 416) (slice sent 0 64) 0 true with
    | some v => exact State.raiseRequest_fails hready hproto hlen hop hdlen hform hnone hmaker ok hlive hauth
    | none =>
      refine (State.raiseRequest_passes hready hproto hlen hop hdlen hform hnone hmaker ok hlive hbusy hact hstore hauth).trans (congrArg _ ?_)
      exact State.raiseFloor_refused m ok hkind' (by rwa [State.accordFloor_newNonce, State.fld_newNonce])
  case writesArea =>
    intro s c cid sent m hlive hready hproto hlen hop hdlen hform hnone hbusy hact hstore
    refine (next_whileLive_of_live hlive _).trans (congrArg _ ?_)
    cases hauth : s.authFails (slice sent 64 416) (slice sent 0 64 ++ (sent.drop 480).take (opDlen (slice sent 0 64))) 1 true with
    | some v =>
      exact (State.signedOp_fails (mine := fun op => op == 2) (maker := fun _ => true) hready hproto hlen (by rw [hop]; rfl) hform hnone 1 _ hauth).trans (by rw [hop])
    | none =>
      refine (State.signedOp_passes (mine := fun op => op == 2) (maker := fun _ => true) hready hproto hlen (by rw [hop]; rfl) hform hnone 1 _ hbusy hact hstore hauth).trans ?_
      simp only [State.areaNewer_newNonce, State.areaTarget_newNonce]
      by_cases hgood : (areaOk ((sent.drop 480).take (opDlen (slice sent 0 64))) && s.areaNewer ((sent.drop 480).take (opDlen (slice sent 0 64)))) = true
      · rw [if_pos hgood]
        rw [Bool.and_eq_true] at hgood
        exact if_neg (by simp [hgood.1, hgood.2, show ¬0x10000 < opDlen (slice sent 0 64) by omega])
      · rw [if_neg hgood]
        rw [Bool.and_eq_true, not_and_or, Bool.not_eq_true, Bool.not_eq_true] at hgood
        refine if_pos ?_
        simp only [Bool.or_eq_true, Bool.not_eq_true']
        exact or_assoc.mpr (.inr hgood)
  case version =>
    intro s ch cid req hlive hch hup hcode
    refine ⟨_, (next_whileLive_of_live hlive _).trans (congrArg _ ((if_pos hcode).trans (State.spdmTake_mctp hch hup cid _))), ?_⟩
    have h := State.answered_put hch s { SpdmSt.fresh with stage := 1, opening := req ++ [0x10, 0x04, 0, 0, 0, 1, 0, 0x12] } [0x10, 0x04, 0, 0, 0, 1, 0, 0x12]
    exact ⟨h.sent, congrArg SpdmSt.stage h.exchange, congrArg SpdmSt.opening h.exchange, h.parts⟩
  case unsupported =>
    intro s ch cid req hlive hch hup hcode
    simp only [List.mem_cons, List.not_mem_nil, or_false, not_or] at hcode
    obtain ⟨hversion, hcaps, halgs, hdigests, hcert, hchal, hmeas⟩ := hcode
    refine ⟨_, (next_whileLive_of_live hlive _).trans (congrArg _ ((if_neg hversion).trans ((if_neg ?_).trans (State.spdmTake_mctp hch hup cid _)))),
      ?_, State.spdm_spdmReply s ch _, State.spdmReply_parts s ch _⟩
    · simp [hcaps, halgs, hdigests, hcert, hchal, hmeas]
    · rw [State.spdmReply_mctp hch]
      rfl
  case versionSent =>
    intro s ch cid req m hlive hch hready hproto hcode
    have hno : ¬ch < 2 := by omega
    have hreply : ∀ (t : State) (b : List Byte), t.spdmReply ch b = t.modSec (fun x => { x with replies := SMap.set (fun _ => []) x.replies (ch - 2) b }) :=
      fun t b => if_neg hno
    refine ⟨_, (next_whileLive_of_live hlive _).trans (congrArg _ ((if_pos hcode).trans (State.spdmTake_send hch hready hproto _))), ?_, ?_, ?_,
      (OnlyParts.modSec (by decide) s _).trans (State.spdmReply_parts _ ch _)⟩
    · rw [hreply, State.modSec, SMap.get_set]
      exact if_pos rfl
    · rw [State.spdm, State.spdm_spdmReply]
      exact congrArg SpdmSt.stage (s.spdm_putSpdm ch _)
    · rw [hreply]
      rfl
  case capabilities =>
    intro s ch cid req hlive hch hup hcode hstage
    obtain ⟨hsent, hspdm, hidx, hparts⟩ := (State.spdmCaps_answered hch req hstage).of_drawn (State.freeBytes_frame 1 s)
    exact ⟨_, (next_whileLive_of_live hlive _).trans (congrArg _ (State.spdmAsk_mctp hch hup hcode cid _)), congrArg SpdmSt.stage hspdm,
      map_take_append [5, 0x12, 0x61, 0, 0, 0, 15, 0, 0, 0x16, 0, 0, 0] _ hsent rfl rfl, hidx, hparts⟩
  case algorithms =>
    intro s ch cid req hlive hch hup hcode hstage
    obtain ⟨y, hy, h⟩ := State.spdmAlgs_answered (s := s) hch req hstage
    exact ⟨_, (next_whileLive_of_live hlive _).trans (congrArg _ (State.spdmAsk_mctp hch hup hcode cid _)), (congrArg SpdmSt.stage h.exchange).trans hy, h.sent, h.parts⟩
  case digests =>
    intro s ch cid req hlive hch hup hcode hstage
    exact ⟨_, (next_whileLive_of_live hlive _).trans (congrArg _ (State.spdmAsk_mctp hch hup hcode cid _)),
      (State.spdmDigests_answered (s := s) hch req hstage).digests_told hstage⟩
  case certificate =>
    intro s ch cid req hlive hch hup hcode hstage hslot
    obtain ⟨hsent, hparts⟩ := State.spdmCertificate_answered (s := s) hch req hstage hslot
    exact ⟨_, (next_whileLive_of_live hlive _).trans (congrArg _ (State.spdmAsk_mctp hch hup hcode cid _)), hparts, hsent⟩
  case challenge =>
    intro s ch cid req hlive hch hup hcode hstage hslot hkind htest
    obtain ⟨⟨sig, hsent⟩, hspdm, hcount, hidx, hparts, hregs⟩ := (State.spdmChallenge_signed hch req hstage hslot hkind htest).of_drawn (State.freeBytes_frame 4 s)
    exact ⟨_, (next_whileLive_of_live hlive _).trans (congrArg _ (State.spdmAsk_mctp hch hup hcode cid _)), by rw [hsent, List.length_append, List.length_singleton],
      map_take_append [5, 0x12, 0x03, 0, 1] _ hsent rfl rfl, hcount, congrArg SpdmSt.certs hspdm, congrArg SpdmSt.meas hspdm, hidx, hparts, hregs⟩
  case measures =>
    intro s ch cid req hlive hch hup hcode hstage hsig hop
    obtain ⟨hsent, hspdm, hidx, hparts⟩ := (State.spdmMeas_answered hch req hstage hsig hop).of_drawn (State.freeBytes_frame 4 s)
    exact ⟨_, (next_whileLive_of_live hlive _).trans (congrArg _ (State.spdmAsk_mctp hch hup hcode cid _)),
      map_take_append [5, 0x12, 0x60, 0, 0, 7] _ hsent rfl rfl, ⟨_, List.mem_singleton_self _, congrArg SpdmSt.meas hspdm⟩, hidx, hparts⟩
  case measuresSigned =>
    intro s ch cid req hlive hch hup hcode hstage hsig hop hslot htest
    obtain ⟨rest, h⟩ := State.spdmMeas_signed hch req hstage hsig hop hslot htest
    obtain ⟨⟨sig, hsent⟩, hspdm, hcount, -, hparts, hregs⟩ := h.of_drawn (State.freeBytes_frame 4 s)
    exact ⟨_, (next_whileLive_of_live hlive _).trans (congrArg _ (State.spdmAsk_mctp hch hup hcode cid _)),
      map_take_append ([5, 0x12, 0x60] ++ leBytes 1 (if leAt req 3 1 = 0 then 7 else 0)) _ hsent rfl rfl, hcount, congrArg SpdmSt.meas hspdm, hparts, hregs⟩
  case challengeRefused =>
    intro s ch cid req hlive hch hup hno hcode hslot hkind
    exact ⟨_, (next_whileLive_of_live hlive _).trans (congrArg _ (State.spdmAsk_mctp hch hup hcode cid _)), State.spdmChallenge_refused hch req hslot hkind hno⟩
  case capsEarly =>
    intro s ch cid req hlive hch hup hcode hstage
    exact (next_whileLive_of_live hlive _).trans (congrArg _ ((State.spdmAsk_mctp hch hup hcode cid _).trans (if_pos (by simp [hstage]))))
  case algsEarly =>
    intro s ch cid req hlive hch hup hcode hstage
    exact (next_whileLive_of_live hlive _).trans (congrArg _ ((State.spdmAsk_mctp hch hup hcode cid _).trans (if_pos (by simp [hstage]))))
  case digestsEarly =>
    intro s ch cid req hlive hch hup hcode hstage
    exact (next_whileLive_of_live hlive _).trans (congrArg _ ((State.spdmAsk_mctp hch hup hcode cid _).trans (State.spdmOpen_early hstage ch _ _)))
  case certificateEarly =>
    intro s ch cid req hlive hch hup hcode hstage
    refine (next_whileLive_of_live hlive _).trans (congrArg _ ((State.spdmAsk_mctp hch hup hcode cid _).trans ?_))
    rw [State.spdmCertificate, State.spdmOpen_early hstage]
  case measuresEarly =>
    intro s ch cid req hlive hch hup hcode hstage
    refine (next_whileLive_of_live hlive _).trans (congrArg _ ((State.spdmAsk_mctp hch hup hcode cid _).trans ?_))
    rw [State.spdmMeas, State.spdmOpen_early hstage]
  case setsEid =>
    intro s p inst op eid hlive hup hop hlow hhigh
    have hset := OnlyParts.modSec (ps := [.sec]) (by decide) s (fun x => { x with eids := SMap.set (fun _ => 0) x.eids p eid })
    have hreply := State.mctpReply_up ((hset.mctpUp_eq (by decide) (by decide) (by decide) p).trans hup) inst 1 0 (zeros 1 ++ leBytes 1 eid ++ zeros 1)
    refine ⟨_, (next_whileLive_of_live hlive _).trans (congrArg _ (((State.mctpSet_up hup inst op eid).trans (if_neg ?_)).trans hreply)), ?_, rfl, hset.trans (.modSec (by decide) _ _)⟩
    · simp only [Bool.or_eq_true, decide_eq_true_eq]
      omega
    · exact (SMap.get_set _ _ _ _ _).trans (if_pos rfl)
  case eidRefused =>
    intro s p inst op eid hlive hup hbad
    refine ⟨_, (next_whileLive_of_live hlive _).trans (congrArg _ (((State.mctpSet_up hup inst op eid).trans (if_pos ?_)).trans (State.mctpReply_up hup inst 1 2 []))), rfl, rfl,
      .modSec (by decide) s _⟩
    simp only [Bool.or_eq_true, decide_eq_true_eq]
    omega
  case tellsEid =>
    intro s p inst hlive hup
    exact ⟨_, (next_whileLive_of_live hlive _).trans (congrArg _ (State.mctpReply_up hup inst 2 0 _)), rfl, rfl, .modSec (by decide) s _⟩
  case messageTypes =>
    intro s p inst hlive hup
    exact ⟨_, (next_whileLive_of_live hlive _).trans (congrArg _ (State.mctpReply_up hup inst 5 0 _)), rfl, rfl, .modSec (by decide) s _⟩
  case versionSupport =>
    intro s p inst type hlive hup htype
    obtain ⟨hidx, hparts⟩ := State.freeBytes_frame 1 s
    have hsec : (State.freeBytes 1 s).2.sec = s.sec := hparts.2 .sec (by decide)
    have hreply := State.mctpReply_up ((hparts.mctpUp_eq (by decide) (by decide) (by decide) p).trans hup) inst 4 0 (leBytes 1 1 ++ slice (State.freeBytes 1 s).1 0 4)
    refine ⟨_, (next_whileLive_of_live hlive _).trans (congrArg _ ((if_pos htype).trans hreply)), ?_, hidx, (hparts.mono (by decide)).trans (.modSec (by decide) _ _)⟩
    exact map_take_append ([0] ++ leBytes 1 (inst % 32) ++ [4, 0, 1]) _
      (congrArg (fun y : SecSt => y.vdm ++ [(p, [0] ++ leBytes 1 (inst % 32) ++ [4, 0, 1] ++ slice (State.freeBytes 1 s).1 0 4)]) hsec :) rfl rfl
  case versionUnknown =>
    intro s p inst type hlive hup hbase hcontrol hspdm
    exact ⟨_, (next_whileLive_of_live hlive _).trans (congrArg _ ((if_neg (by simp [hbase, hcontrol, hspdm])).trans (State.mctpReply_up hup inst 4 0x80 []))), rfl,
      .modSec (by decide) s _⟩

end Sys2Proof.Machine
end

end
